-- ==== Sys2Proof/Word.lean ====
section
/-! DEFINITION. The plain types every other file is written over: words and bytes, the two axes, a register field, the
access codes and the reset column of the register tables, and the plainest arithmetic on them. -/

namespace Sys2Proof.Machine

/-- A register, an SRAM word or an operand word: 32 bits (spec/00_scope.md, Registers). -/
abbrev Word := BitVec 32

/-- One byte of shared SRAM, kiosk local memory, flash or an image. -/
abbrev Byte := BitVec 8

/-- The two axes (R1). -/
inductive Axis where
  | a
  | b
deriving DecidableEq, Repr

/-- Index of an axis: A is 0 and B is 1 (the numbering of the register tables and of fault UNIT fields). -/
def Axis.ix : Axis → Nat
  | .a => 0
  | .b => 1

/-- The other axis. -/
def Axis.other : Axis → Axis
  | .a => .b
  | .b => .a

/-- A field of a register: the register's address and the field's bits. -/
structure Fld where
  reg : Nat
  hi  : Nat
  lo  : Nat
deriving DecidableEq, Repr

/-- Number of bits of a field. -/
def Fld.width (f : Fld) : Nat := f.hi + 1 - f.lo

/-- Largest value a field holds. -/
def Fld.top (f : Fld) : Nat := 2 ^ f.width - 1

/-- Access codes (table 0.4). -/
inductive Access where
  | rw
  | ro
  | wo
  | w1c
  | w1s
  | rws
deriving DecidableEq, Repr

/-- What a warm reset leaves in a field (table 0.5): the POR value, the value it had, or what the boot then gives it from
the image, the Grotto or the BOOTSEL pins. -/
inductive Warm where
  | por
  | kept
  | img
  | otp
  | latched
deriving DecidableEq, Repr

/-- One field of the register map: bits, access code, POR value, warm reset. -/
structure FieldD where
  hi   : Nat
  lo   : Nat
  acc  : Access
  por  : Nat
  warm : Warm
deriving DecidableEq, Repr

/-- What a background conversion converts (R237): an AIN input, the DAC of a comparator side, or another internal input. -/
inductive BgInput where
  | ain (a : Nat)
  | dac (k : Nat)
  | other
deriving DecidableEq, Repr

/-- A frame on the Wicket wires (R572, R573): rising edges of WSCK while WSEL_N was low, and, in a frame of exact length, the
header, the payload words, the tail bits and the trailer. -/
structure WktFrame where
  edges   : Nat
  header  : Word
  payload : List Word
  tail    : List Bool
  crc     : Word
deriving DecidableEq, Repr

/-- What the SFDP tables of the flash say where R595 reads them: the signature; the xSPI profile 1.0 table, the sequence to change to
8D-8D-8D, the highest frequency in MHz and the dummy clocks for the one chosen; 1S-4S-4S fast read, its dummy clocks and the quad-enable
requirement field; the density in bytes (0 unknown). -/
structure FlashId where
  signature : Bool
  xspi      : Bool
  octalSeq  : Bool
  octalFreq : Nat
  octalDum  : Nat
  quad      : Bool
  quadDum   : Nat
  quadReq   : Nat
  size      : Nat
deriving DecidableEq, Repr

/-- One attempt of the Gatehouse to read the image from flash (R77): what the probe finds, the flash bytes from address 0, and for each
transaction, the header's first (R596), how many times its strobe stopped (table 19.3, kind 1). -/
structure FlashTry where
  id       : FlashId
  bytes    : List Byte
  timeouts : List Nat
deriving DecidableEq, Repr

/-- What the cells of one word of the Grotto conduct: for each copy, which bits read 1 at the references of table 17.1 in rising order:
10 µA, then 20, 22, 24, 26 and 28 µA. -/
structure GrtRead where
  addr  : Nat
  copy0 : List Word
  copy1 : List Word
deriving DecidableEq, Repr

/-- A programming pulse (R562 to R564): the conversions before it, newest first, and those during it, in order, each as its quantity (0
VQPS, 1 VDD08, 2 VDD33 in µV, 3 TJ in 0.001 °C), the nanoseconds before or since its start, and its result; whether the copy then reads
1 at the tight threshold. -/
structure Pulse where
  before : List (Nat × Nat × Int)
  during : List (Nat × Nat × Int)
  reads1 : Bool
deriving DecidableEq, Repr

/-- What DS_PATH finds on a channel (R647): after how many ns the level 1.0 V above its reference is flagged as a trip, that the soft
turn-off path answers with the gate land held off, and that the level 1.0 V below flags none over 1 µs. -/
structure PathCheck where
  trip : Option Nat
  soft : Bool
  calm : Bool
deriving DecidableEq, Repr

/-- Results that SD_LOOP takes from the filters of a data input (R648): of sinc3 for each OSR3 value of table 7.6, and of sinc2 for each
OSR2 value, those under the pattern 1110 and those under 1000. -/
structure FilterCheck where
  sinc3 : List (List Int × List Int)
  sinc2 : List (List Int × List Int)
deriving DecidableEq, Repr

/-- Bit `n` of a number. -/
def bit (v n : Nat) : Bool := v / 2 ^ n % 2 == 1

/-- Bits `hi` to `lo` of a number. -/
def bits (v hi lo : Nat) : Nat := v / 2 ^ lo % 2 ^ (hi + 1 - lo)

/-- A Bool as 0 or 1. -/
def b2n (b : Bool) : Nat := if b then 1 else 0

/-- The signed reading of the low `w` bits of a number (two's complement). -/
def signed (w v : Nat) : Int :=
  let m := v % 2 ^ w
  if m < 2 ^ (w - 1) then (m : Int) else (m : Int) - (2 ^ w : Nat)

/-- The two's-complement number of `w` bits that stands for an integer. -/
def unsigned (w : Nat) (i : Int) : Nat := (i % ((2 ^ w : Nat) : Int)).toNat

/-- An integer held within bounds. -/
def clampI (lo hi i : Int) : Int := if i < lo then lo else if hi < i then hi else i

/-- A natural number held within bounds. -/
def clampN (lo hi n : Nat) : Nat := if n < lo then lo else if hi < n then hi else n

/-- Entry `n` of a list, or a default. -/
def nth {α : Type} (d : α) (l : List α) (n : Nat) : α :=
  match l, n with
  | [], _ => d
  | x :: _, 0 => x
  | _ :: r, n + 1 => nth d r n

/-- The list with entry `n` replaced (unchanged where there is no entry `n`). -/
def setNth {α : Type} (l : List α) (n : Nat) (v : α) : List α :=
  match l, n with
  | [], _ => []
  | _ :: r, 0 => v :: r
  | x :: r, n + 1 => x :: setNth r n v

end Sys2Proof.Machine
end

