-- ==== Sys2Proof/Syntax.lean ====
section
/-! DEFINITION. The commands: one constructor per row of spec/opcode_table.json, in the table's order. Operands carry what the
row's rule takes from outside the block: written words, measured times and levels, flash contents, pulse outcomes. -/

namespace Sys2Proof

open Sys2Proof.Machine

/-- A command of the block: a row of the table. -/
inductive Instr where
  /-- POR_EXIT (R65). -/
  | porExit (bootsel : Nat)
  /-- SUPPLY_BROWNOUT (R66). -/
  | supplyBrownout (ns : Nat)
  /-- RESET_PIN (R69). -/
  | resetPin (ns bootsel : Nat)
  /-- RESET_PIN_RELEASE (R68). -/
  | resetPinRelease (bootsel : Nat)
  /-- SOFT (R70). -/
  | soft (w : Word) (bootsel : Nat)
  /-- REBOOT (R70). -/
  | reboot (w : Word) (bootsel : Nat)
  /-- TMODE_HIGH (R43). -/
  | tmodeHigh (high : Bool) (bootsel : Nat)
  /-- PLL_LOCK (R173). -/
  | pllLock
  /-- BOOT_SEQUENCE (R75). -/
  | bootSequence (reads : List GrtRead) (t1 t2 : FlashTry) (us : Nat)
  /-- HOST_LOAD_GO (R78). -/
  | hostLoadGo (w : Word) (us : Nat)
  /-- SECT_UPD (R117). -/
  | sectUpd (w : Word)
  /-- SECTION_SWAP (R119). -/
  | sectionSwap (x : Axis)
  /-- FLOOR_ADV (R125). -/
  | floorAdv (w : Word) (out : List Pulse)
  /-- OWN_WRITE (R23). -/
  | ownWrite (x : Axis) (w : Word)
  /-- SAMPLE_INSTANT (R187). -/
  | sampleInstant (x : Axis) (n at_ : Nat) (bits : List (List Bool))
  /-- UPDATE_INSTANT (R15). -/
  | updateInstant (x : Axis) (peak : Bool)
  /-- VALLEY_OR_WRAP (R195). -/
  | valleyOrWrap (x : Axis) (since : Nat)
  /-- COMPARE_SET_ARRIVAL (R181). -/
  | compareSetArrival (x : Axis) (du dv dw six : Word) (serves : Option (Nat × Nat))
  /-- EDGE_COMMAND (R180). -/
  | edgeCommand (x : Axis) (at_ lead : Nat)
  /-- PERIOD_WRITE (R176). -/
  | periodWrite (x : Axis) (w : Word)
  /-- PWM_CTRL_WRITE (R198). -/
  | pwmCtrlWrite (x : Axis) (w : Word)
  /-- REFERENCE_CLOCK_LOST (R174). -/
  | referenceClockLost
  /-- PPS_PULSE (R204). -/
  | ppsPulse (rising : Bool)
  /-- PPS_TIMEOUT (R205). -/
  | ppsTimeout
  /-- SUN_CTRL_WRITE (R205). -/
  | sunCtrlWrite (w : Word)
  /-- SET_GO (R208). -/
  | setGo
  /-- SNAP (R209). -/
  | snap
  /-- SUN_CNT_CLR (R203). -/
  | sunCntClr
  /-- ARM_ACTION (R210). -/
  | armAction (n : Nat) (w : Word)
  /-- CANCEL_ACTION (R210). -/
  | cancelAction (n : Nat) (w : Word)
  /-- ACTION_FIRED (R211). -/
  | actionFired (n : Nat)
  /-- GRAPH_TRIGGER (R145). -/
  | graphTrigger
  /-- SOURCE_DELIVERY (R12). -/
  | sourceDelivery (owner n : Nat)
  /-- TASK_DISPATCH (R148). -/
  | taskDispatch (k : Nat)
  /-- STEAL_ATTEMPT (R149). -/
  | stealAttempt (k : Nat) (lost : List Nat)
  /-- TASK_COMPLETE (R160). -/
  | taskComplete (k : Nat)
  /-- TASK_OVERRUN (R154). -/
  | taskOverrun (k waited : Nat)
  /-- LOCK_WAIT_TIMEOUT (R153). -/
  | lockWaitTimeout (k us : Nat)
  /-- MOV (R140). -/
  | mov (k : Nat) (flips : List (Nat × Bool)) (d a : Word)
  /-- ADD (R140). -/
  | add (k : Nat) (d a b : Word)
  /-- SUB (R140). -/
  | sub (k : Nat) (d a b : Word)
  /-- MUL (R140). -/
  | mul (k : Nat) (d a b : Word)
  /-- MAC (R140). -/
  | mac (k : Nat) (d a b c : Word)
  /-- DIV (R140). -/
  | div (k : Nat) (d a b : Word)
  /-- SQRT (R140). -/
  | sqrt (k : Nat) (d a : Word)
  /-- ABS (R140). -/
  | abs (k : Nat) (d a : Word)
  /-- MIN2 (R140). -/
  | min2 (k : Nat) (d a b : Word)
  /-- MAX2 (R140). -/
  | max2 (k : Nat) (d a b : Word)
  /-- LIM (R141). -/
  | lim (k : Nat) (d a lo hi : Word)
  /-- SINCOS (R140). -/
  | sincos (k : Nat) (ds dc th : Word)
  /-- ATAN2 (R140). -/
  | atan2 (k : Nat) (d y x : Word)
  /-- WRAP (R140). -/
  | wrap (k : Nat) (d th : Word)
  /-- CMP (R680). -/
  | cmp (k : Nat) (d a b op : Word)
  /-- SEL (R680). -/
  | sel (k : Nat) (d c a b : Word)
  /-- LPF1 (R141). -/
  | lpf1 (k : Nat) (d x st c : Word)
  /-- BIQUAD (R141). -/
  | biquad (k : Nat) (d x st coef : Word)
  /-- RATE (R141). -/
  | rate (k : Nat) (d x st rmax : Word)
  /-- INTEG (R141). -/
  | integ (k : Nat) (d x st blk : Word)
  /-- C2P2Z (R372). -/
  | c2p2z (k : Nat) (d inp bank hist trk : Word)
  /-- C3P3Z (R372). -/
  | c3p3z (k : Nat) (d inp bank hist trk : Word)
  /-- MINSEL (R385). -/
  | minsel (k : Nat) (d dem dir trk why : Word)
  /-- CLARKE (R140). -/
  | clarke (k : Nat) (d ia ib ic : Word)
  /-- PARK (R140). -/
  | park (k : Nat) (d ab sc : Word)
  /-- IPARK (R140). -/
  | ipark (k : Nat) (d dq sc : Word)
  /-- SVM (R190). -/
  | svm (k : Nat) (d vab vbus mode : Word)
  /-- DTCOMP (R141). -/
  | dtcomp (k : Nat) (d cmp edges i : Word)
  /-- BEMF (R337). -/
  | bemf (k : Nat) (st vab iab par : Word)
  /-- PLL (R338). -/
  | pll (k : Nat) (st err gain : Word)
  /-- HFI (R337). -/
  | hfi (k : Nat) (st iab inj par : Word)
  /-- FLUX (R337). -/
  | flux (k : Nat) (st vab iab par : Word)
  /-- BLEND (R342). -/
  | blend (k : Nat) (d est w band : Word)
  /-- MODEL (R343). -/
  | model (k : Nat) (d st tq par : Word)
  /-- LUT (R680). -/
  | lut (k : Nat) (d x map : Word)
  /-- SMSTEP (R140). -/
  | smstep (k : Nat) (st tab inp : Word)
  /-- TIMER (R680). -/
  | timer (k : Nat) (st dur run : Word)
  /-- BLKCPY (R679). -/
  | blkcpy (k : Nat) (flips : List (Nat × Bool)) (d a n : Word)
  /-- EVENT (R679). -/
  | event (k : Nat) (n : Word)
  /-- PGLTRIG (R609). -/
  | pgltrig (k : Nat) (ch : Word)
  /-- ACQ (R152). -/
  | acq (k : Nat) (lock : Word)
  /-- REL (R153). -/
  | rel (k : Nat) (lock : Word)
  /-- PACE_GATE (R158). -/
  | paceGate (counts : List Nat)
  /-- HB_CNT_CLR (R170). -/
  | hbCntClr (w : Word)
  /-- SAR_CONVERSION_END (R235). -/
  | sarConversionEnd (m : Nat) (uv : List Int) (vref : Int)
  /-- BACKGROUND_CONVERSION (R237). -/
  | backgroundConversion (m : Nat) (what : BgInput) (uv vref : Int) (ahead : Nat)
  /-- SINC2_RESULT (R226). -/
  | sinc2Result (i : Nat) (bits : List Bool)
  /-- SINC3_SETTLED (R225). -/
  | sinc3Settled (i captured : Nat)
  /-- SIGMA_DELTA_INPUT_STUCK (R230). -/
  | sigmaDeltaInputStuck (i clocks : Nat)
  /-- SDCLK_WRITE (R247). -/
  | sdclkWrite (w : Word)
  /-- SNS_CNT_CLR (R250). -/
  | snsCntClr (w : Word)
  /-- COMPARATOR_TRIP (R263). -/
  | comparatorTrip (n : Nat) (hi : Bool) (uv : List Int) (vref : Int)
  /-- COMPARATOR_CLEAR (R256). -/
  | comparatorClear (n : Nat) (hi : Bool) (uv : List Int) (vref : Int)
  /-- HAH_CNT_CLR (R277). -/
  | hahCntClr (w : Word)
  /-- HALL_CODE_ACCEPT (R269). -/
  | hallCodeAccept (h : Axis) (lines ns : Nat)
  /-- ENCODER_STEP (R272). -/
  | encoderStep (e : Axis) (a b : Bool) (samples : Nat)
  /-- ENCODER_Z (R273). -/
  | encoderZ (e : Axis) (z : Bool) (samples : Nat)
  /-- ARM (R291). -/
  | arm (x : Axis) (tag : Nat)
  /-- START (R291). -/
  | start (x : Axis) (tag : Nat)
  /-- STOP (R291). -/
  | stop (x : Axis) (tag : Nat)
  /-- COAST (R291). -/
  | coast (x : Axis) (tag : Nat)
  /-- CLEAR (R485). -/
  | clear (x : Axis) (tag : Nat)
  /-- AXIS_EVALUATE (R282). -/
  | axisEvaluate (x : Axis)
  /-- ARM_TIMEOUT (R285). -/
  | armTimeout (x : Axis) (us : Nat)
  /-- BOOTSTRAPS_READY (R294). -/
  | bootstrapsReady (x : Axis)
  /-- LIMIT_TIME_EXPIRY (R314). -/
  | limitTimeExpiry (x : Axis) (reason us : Nat)
  /-- STOP_COMPLETE (R318). -/
  | stopComplete (x : Axis) (us : Nat)
  /-- STOP_TIMEOUT (R285). -/
  | stopTimeout (x : Axis) (us : Nat)
  /-- HOLD_TIME_ELAPSED (R285). -/
  | holdTimeElapsed (x : Axis) (us : Nat)
  /-- REVERSAL_RESTART (R321). -/
  | reversalRestart (x : Axis) (us : Nat)
  /-- POSITION_LOSS_TIMEOUT (R305). -/
  | positionLossTimeout (x : Axis) (us : Nat)
  /-- RUNTIME_SECOND (R326). -/
  | runtimeSecond (x : Axis) (ns : Nat)
  /-- MODE_WRITE (R328). -/
  | modeWrite (x : Axis) (w : Word)
  /-- SET_POINT_WRITE (R330). -/
  | setPointWrite (x : Axis) (torque : Bool) (w : Word)
  /-- MC_CNT_CLR (R327). -/
  | mcCntClr (x : Axis) (w : Word)
  /-- ALIGN_COMPLETE (R354). -/
  | alignComplete (x : Axis) (us : Nat)
  /-- INJECTION_ALIGN_COMPLETE (R355). -/
  | injectionAlignComplete (x : Axis) (cycles : Nat) (sal th : Word)
  /-- POLARITY_PULSE_END (R356). -/
  | polarityPulseEnd (x : Axis) (id_ t : Word) (us : Nat)
  /-- HANDOVER (R359). -/
  | handover (x : Axis) (us : Nat)
  /-- START_TIMEOUT (R358). -/
  | startTimeout (x : Axis) (us : Nat)
  /-- SUSPECT_TIMEOUT (R345). -/
  | suspectTimeout (x : Axis) (us : Nat)
  /-- ROTOR_REACQUIRED (R347). -/
  | rotorReacquired (x : Axis)
  /-- ROTOR_LOST (R348). -/
  | rotorLost (x : Axis) (us : Nat)
  /-- EXTRAP_CLEAR_TIMEOUT (R336). -/
  | extrapClearTimeout (x : Axis) (us : Nat)
  /-- STALL (R351). -/
  | stall (x : Axis) (us : Nat)
  /-- FLYING_RESTART_PROBE (R362). -/
  | flyingRestartProbe (x : Axis) (ia ib : Word)
  /-- FLY_RETRY (R366). -/
  | flyRetry (x : Axis) (us : Nat)
  /-- IDENTIFICATION_TEST_END (R368). -/
  | identificationTestEnd (x : Axis) (outcome : Nat) (m : List Word) (pts : List (Word × Word × Word × Word)) (temp : Word)
  /-- BLV_CTRL_WRITE (R370). -/
  | blvCtrlWrite (x : Axis) (w : Word)
  /-- SWAP_REQUEST (R393). -/
  | swapRequest (x : Axis) (w : Word)
  /-- COMPENSATOR_SWAP (R394). -/
  | compensatorSwap (x : Axis)
  /-- LOOP_ENABLE_WRITE (R400). -/
  | loopEnableWrite (x : Axis) (cur : Bool) (w : Word)
  /-- HOME (R410). -/
  | home (x : Axis)
  /-- POS_SET_WRITE (R430). -/
  | posSetWrite (x : Axis) (frac : Bool) (w : Word)
  /-- SP_LOOP_RELEASE (R402). -/
  | spLoopRelease (x : Axis)
  /-- FOL_START (R420). -/
  | folStart (x : Axis)
  /-- INJECTION_BEGIN (R421). -/
  | injectionBegin (x : Axis)
  /-- INJECTION_ENDED (R421). -/
  | injectionEnded (x : Axis) (why : Nat)
  /-- FOL_CANCEL (R421). -/
  | folCancel (x : Axis)
  /-- CAPTURE_ARM (R424). -/
  | captureArm (x : Axis)
  /-- CAPTURE_TRIGGER (R426). -/
  | captureTrigger (x : Axis)
  /-- CAPTURE_FRAME (R423). -/
  | captureFrame (x : Axis)
  /-- CAPTURE_BLOCK_DESCRIPTOR (R427). -/
  | captureBlockDescriptor (x : Axis)
  /-- CAPTURE_CANCEL (R429). -/
  | captureCancel (x : Axis)
  /-- CAPTURE_COMPLETE (R429). -/
  | captureComplete (x : Axis)
  /-- LINK_FRAME (R439). -/
  | linkFrame (x : Axis) (good : Bool)
  /-- IDLE_FRAME (R438). -/
  | idleFrame (x : Axis) (ns : Nat)
  /-- DIE_LINK_LOST (R440). -/
  | dieLinkLost (x : Axis) (ns : Nat)
  /-- TRANSITION_MEASURED (R441). -/
  | transitionMeasured (x : Axis) (p : Nat) (rising : Bool) (tb te : Int) (tOff tOn : Option Int)
  /-- EDGES_DELIVERY (R444). -/
  | edgesDelivery (x : Axis)
  /-- STRENGTH_WRITE (R450). -/
  | strengthWrite (x : Axis) (p : Nat) (w : Word)
  /-- STR_LIM_WRITE (R467). -/
  | strLimWrite (x : Axis) (w : Word)
  /-- INTERLOCK (R451). -/
  | interlock (x : Axis) (leg : Nat)
  /-- GATE_OFF_NOT_SENSED (R453). -/
  | gateOffNotSensed (x : Axis) (ch ns : Nat)
  /-- BOOTSTRAP_UNDERVOLTAGE (R457). -/
  | bootstrapUndervoltage (x : Axis) (p dv : Nat)
  /-- BOOTSTRAP_LOCKOUT_RELEASE (R457). -/
  | bootstrapLockoutRelease (x : Axis) (p dv : Nat)
  /-- PRECHARGE_PULSE (R458). -/
  | prechargePulse (x : Axis) (us : Nat)
  /-- EXT_WRITE (R462). -/
  | extWrite (x : Axis) (w : Word)
  /-- CMD_PIN_ACCEPT (R464). -/
  | cmdPinAccept (x : Axis) (ch : Nat) (level : Bool) (ns : Nat)
  /-- TRX_CNT_CLR (R468). -/
  | trxCntClr (x : Axis) (w : Word)
  /-- DRIVER_SUPPLY_UNDERVOLTAGE (R48). -/
  | driverSupplyUndervoltage (x : Axis) (dv : Nat)
  /-- DRIVER_SUPPLY_RELEASE (R48). -/
  | driverSupplyRelease (x : Axis) (dv : Nat)
  /-- TORQUE_OFF (R59). -/
  | torqueOff (x : Axis) (ns : Nat)
  /-- TORQUE_OFF_RELEASE (R62). -/
  | torqueOffRelease (x : Axis)
  /-- DESATURATION (R471). -/
  | desaturation (x : Axis) (m mv held since : Nat)
  /-- TURN_ON_SHORT (R472). -/
  | turnOnShort (x : Axis) (ch : Nat) (node : Int) (ns : Nat)
  /-- SAFE_STATE_APPLY (R474). -/
  | safeStateApply (x : Axis)
  /-- SOFT_OFF_TIMEOUT (R474). -/
  | softOffTimeout (x : Axis) (ns : Nat)
  /-- ASC_EXIT (R484). -/
  | ascExit (x : Axis) (mv ms : Nat)
  /-- RETRY_DECISION (R489). -/
  | retryDecision (x : Axis) (ms sinceFirst : Nat)
  /-- BRAKE_OVERCURRENT (R496). -/
  | brakeOvercurrent (x : Axis) (asserted : Bool)
  /-- BRAKE_CHOPPER_SHORTED (R496). -/
  | brakeChopperShorted (x : Axis) (us : Nat)
  /-- BRAKE_CHOPPER_OPEN (R497). -/
  | brakeChopperOpen (x : Axis) (ms : Nat) (minDuty vStart vEnd meanI meanDuty meanV : Word)
  /-- BUS_OVERVOLTAGE_SIGNAL (R495). -/
  | busOvervoltageSignal (x : Axis) (asserted : Bool)
  /-- PROT_CLR (R501). -/
  | protClr (x : Axis) (w : Word)
  /-- STATUS_CLEAR (R506). -/
  | statusClear (k : Nat) (w : Word)
  /-- EVT_PEND_CLEAR (R519). -/
  | evtPendClear (k : Nat) (w : Word)
  /-- LOG_CLR (R514). -/
  | logClr (w : Word)
  /-- ROUTE_WRITE (R520). -/
  | routeWrite (n : Nat) (w : Word)
  /-- TEMPERATURE_SAMPLE (R523). -/
  | temperatureSample (diode : Int)
  /-- THROTTLE_ENFORCED (R531). -/
  | throttleEnforced
  /-- ENF_NOW (R531). -/
  | enfNow
  /-- RISE_RATE_UPDATE (R533). -/
  | riseRateUpdate
  /-- DRIVER_ESTIMATE_WINDOW (R536). -/
  | driverEstimateWindow (x : Axis)
  /-- THERMAL_SHUTDOWN (R527). -/
  | thermalShutdown
  /-- THERMAL_RESTART (R529). -/
  | thermalRestart (bootsel : Nat)
  /-- GROTTO_REVERIFY (R544). -/
  | grottoReverify (reads : List GrtRead)
  /-- BLOW (R560). -/
  | blow (out : List Pulse)
  /-- COMMIT (R559). -/
  | commit (out : List Pulse)
  /-- FLUSH (R554). -/
  | flush (out : List Pulse)
  /-- SEAL_KEY (R550). -/
  | sealKey (out : List Pulse)
  /-- READ_RAW (R567). -/
  | readRaw (reads : List GrtRead)
  /-- BAD_OP (R561). -/
  | badOp
  /-- NOP (R573). -/
  | nop (f : WktFrame)
  /-- READ (R585). -/
  | read (f : WktFrame) (upsets : List (Nat × Bool))
  /-- WRITE (R586). -/
  | write (f : WktFrame) (upsets : List (Nat × Bool))
  /-- RESERVED_OPCODE (R573). -/
  | reservedOpcode (f : WktFrame)
  /-- REGISTER_WRITE (R585). -/
  | registerWrite (a : Nat) (w : Word)
  /-- REPLY_READY (R579). -/
  | replyReady
  /-- WKT_LEN_WRITE (R589). -/
  | wktLenWrite (w : Word)
  /-- HLT_WRITE (R593). -/
  | hltWrite (w : Word)
  /-- WKT_CNT_CLR (R585). -/
  | wktCntClr
  /-- HOST_LOST (R591). -/
  | hostLost (ms : Nat)
  /-- FLASH_TRANSACTION_END (R605). -/
  | flashTransactionEnd (timeout : Bool) (bytes : List Byte)
  /-- WINDOW_MISS (R598). -/
  | windowMiss (k addr : Nat) (hits : List Nat)
  /-- WINDOW_LINE_FILL (R599). -/
  | windowLineFill
  /-- APERTURE_READ (R603). -/
  | apertureRead (n : Nat)
  /-- RELEASE (R606). -/
  | release
  /-- PORT_RETAKE (R606). -/
  | portRetake (id : FlashId)
  /-- INV (R602). -/
  | inv
  /-- ICE_CNT_CLR (R605). -/
  | iceCntClr
  /-- TRIG (R609). -/
  | trig (n : Nat)
  /-- DESCRIPTOR_FETCH (R612). -/
  | descriptorFetch (n : Nat)
  /-- CREDIT_WINDOW (R617). -/
  | creditWindow
  /-- BURST_GRANT (R620). -/
  | burstGrant (n : Nat) (upsets : List (Nat × Bool))
  /-- BURST_DONE (R619). -/
  | burstDone (n : Nat)
  /-- DESCRIPTOR_COMPLETE (R627). -/
  | descriptorComplete (n : Nat)
  /-- RING_RD_WRITE (R625). -/
  | ringRdWrite (w : Word)
  /-- ABORT (R629). -/
  | abort (n : Nat)
  /-- BUS_ERROR (R632). -/
  | busError (kind : Nat) (ch : Option Nat) (addr : Nat)
  /-- PGL_RESET (R633). -/
  | pglReset (w : Word)
  /-- CHN_CFG_WRITE (R622). -/
  | chnCfgWrite (n : Nat) (w : Word)
  /-- SAR_CHECK (R643). -/
  | sarCheck (v1 g1 v2 g2 : Nat)
  /-- SCRUB (R645). -/
  | scrub (upsets : List (Nat × Bool))
  /-- DS_PATH (R647). -/
  | dsPath (x : Axis) (ds mon : List PathCheck)
  /-- SD_LOOP (R648). -/
  | sdLoop (x : Axis) (pat : List FilterCheck) (land : List (List Bool))
  /-- OFS_CAL (R649). -/
  | ofsCal (agnd1 vref1 agnd2 vref2 : Nat) (sumsA sumsB : List Int)
  /-- OFS_AXIS (R650). -/
  | ofsAxis (x : Axis) (sums : List Int)
  /-- TRIM (R651). -/
  | trim (x : Axis) (srcN srcD snkN snkD : Nat)
  /-- QUEUED_TEST_START (R638). -/
  | queuedTestStart (k : Nat)
  /-- TEST_DONE (R642). -/
  | testDone (k : Nat)
  /-- STC_CANCEL (R638). -/
  | stcCancel (w : Word)
  /-- BACKGROUND_TEST_REPEAT (R646). -/
  | backgroundTestRepeat (k ms v1 g1 v2 g2 : Nat) (upsets : List (Nat × Bool))
  /-- TRIM_WRITE (R654). -/
  | trimWrite (x : Axis) (w : Word)
  /-- CAL_WRITE (R240). -/
  | calWrite (n : Nat) (w : Word)
  /-- GATE_SENSED_OFF (R453). -/
  | gateSensedOff (x : Axis) (ch : Nat)
deriving DecidableEq, Repr

end Sys2Proof
end

