-- ==== Sys2Proof/Machine/Float32.lean ====
section
/-! DEFINITION. IEEE 754 binary32 as the kiosks and the services compute it: round to nearest, ties to even (spec
05_kiosks_fabric.md, "The operator catalogue"), subnormal inputs and results taken as zero of the same sign (R139), the
quiet NaN 0x7FC0_0000 (R140). A finite number is handled as an exact fraction and rounded once. -/

namespace Sys2Proof.Machine

/-- The quiet NaN of R140. -/
def fNaN : Word := 0x7FC00000#32
/-- +0, −0, +1, ±∞. -/
def fZero : Word := 0#32
@[inherit_doc fZero] def fNegZero : Word := 0x80000000#32
@[inherit_doc fZero] def fOne : Word := 0x3F800000#32
@[inherit_doc fZero] def fInf : Word := 0x7F800000#32
@[inherit_doc fZero] def fNegInf : Word := 0xFF800000#32

/-- Sign bit. -/
def fSign (a : Word) : Bool := a.msb
/-- Exponent field. -/
def fExp (a : Word) : Nat := a.toNat / 2 ^ 23 % 256
/-- Fraction field. -/
def fFrac (a : Word) : Nat := a.toNat % 2 ^ 23
/-- NaN of any kind. -/
def fIsNaN (a : Word) : Bool := fExp a == 255 && fFrac a != 0
/-- +∞ or −∞. -/
def fIsInf (a : Word) : Bool := fExp a == 255 && fFrac a == 0
/-- Neither NaN nor infinite. -/
def fFinite (a : Word) : Bool := fExp a != 255
/-- Zero, a subnormal number counted as zero (R139). -/
def fIsZero (a : Word) : Bool := fExp a == 0

/-- An exact fraction: numerator and (positive) denominator. -/
abbrev Frac := Int × Nat

/-- Sum of fractions. -/
def qAdd (a b : Frac) : Frac := (a.1 * b.2 + b.1 * a.2, a.2 * b.2)
/-- Negation. -/
def qNeg (a : Frac) : Frac := (-a.1, a.2)
/-- Difference. -/
def qSub (a b : Frac) : Frac := qAdd a (qNeg b)
/-- Product. -/
def qMul (a b : Frac) : Frac := (a.1 * b.1, a.2 * b.2)
/-- Quotient (the divisor not zero). -/
def qDiv (a b : Frac) : Frac :=
  if b.1 < 0 then (-(a.1 * b.2), a.2 * b.1.natAbs) else (a.1 * b.2, a.2 * b.1.natAbs)
/-- Strictly less. -/
def qLt (a b : Frac) : Bool := decide (a.1 * b.2 < b.1 * a.2)
/-- At most. -/
def qLe (a b : Frac) : Bool := decide (a.1 * b.2 ≤ b.1 * a.2)
/-- Absolute value. -/
def qAbs (a : Frac) : Frac := (a.1.natAbs, a.2)
/-- An integer as a fraction. -/
def qInt (i : Int) : Frac := (i, 1)
/-- Greatest integer at most the fraction. -/
def qFloor (a : Frac) : Int := a.1 / (a.2 : Int)
/-- The nearest integer; the half-way case goes up or down as `up` says. -/
def qRound (up : Bool) (a : Frac) : Int :=
  let f := qFloor a
  let r2 := 2 * (a.1 - f * a.2)
  if r2 < a.2 then f else if (a.2 : Int) < r2 then f + 1 else if up then f + 1 else f
/-- The same number in lowest terms. -/
def qNorm (a : Frac) : Frac :=
  let g := Nat.gcd a.1.natAbs a.2
  if g = 0 then a else (a.1 / (g : Int), a.2 / g)

/-- A fraction held within bounds. -/
def qClamp (lo hi a : Frac) : Frac := if qLt a lo then lo else if qLt hi a then hi else a

/-- Value of a finite number. -/
def fVal (a : Word) : Frac :=
  let e := fExp a
  if e = 0 then (0, 1)
  else
    let m : Nat := fFrac a + 2 ^ 23
    let i : Int := if fSign a then -(m : Int) else (m : Int)
    if 150 ≤ e then (i * 2 ^ (e - 150), 1) else (i, 2 ^ (150 - e))

/-- Round half to even: quotient and remainder against the divisor. -/
def rne (n d : Nat) : Nat :=
  let q := n / d
  let r := 2 * (n % d)
  if r < d then q else if d < r then q + 1 else q + q % 2

/-- `n / d` scaled by a power of two that may be negative, as numerator and denominator. -/
def scaleNat (n d : Nat) (sh : Int) : Nat × Nat :=
  if 0 ≤ sh then (n * 2 ^ sh.toNat, d) else (n, d * 2 ^ (-sh).toNat)

/-- The binary32 number of magnitude nearest to `n / d` (`n`, `d` positive). -/
def fRoundMag (n d : Nat) : Nat :=
  let e0 : Int := (Nat.log2 n : Int) - (Nat.log2 d : Int)
  let t := scaleNat n d (-e0)
  let e : Int := if t.1 < t.2 then e0 - 1 else e0
  if e < -126 then
    let t := scaleNat n d 149
    if 2 ^ 23 ≤ rne t.1 t.2 then 2 ^ 23 else 0
  else
    let t := scaleNat n d (23 - e)
    let m := rne t.1 t.2
    let e' := if m = 2 ^ 24 then e + 1 else e
    let m' := if m = 2 ^ 24 then 0 else m - 2 ^ 23
    if 127 < e' then 0x7F800000 else (e' + 127).toNat * 2 ^ 23 + m'

/-- The binary32 number nearest to a fraction; a zero result has the sign `neg`. -/
def fOfFracS (neg : Bool) (q : Frac) : Word :=
  if q.1 = 0 then (if neg then fNegZero else fZero)
  else if q.1 < 0 then BitVec.ofNat 32 (2 ^ 31 + fRoundMag q.1.natAbs q.2)
  else BitVec.ofNat 32 (fRoundMag q.1.natAbs q.2)

/-- The binary32 number nearest to a fraction, +0 at zero. -/
def fOfFrac (q : Frac) : Word := fOfFracS false q

/-- The binary32 number nearest to an integer. -/
def fOfInt (i : Int) : Word := fOfFrac (i, 1)

/-- The binary32 number nearest to a natural number. -/
def fOfNat (n : Nat) : Word := fOfFrac (n, 1)

/-- −a: the sign bit changed. -/
def fNeg (a : Word) : Word := if fIsNaN a then fNaN else a ^^^ fNegZero

/-- |a|: the sign bit cleared; NaN gives the quiet NaN (R140), a subnormal number zero (R139). -/
def fAbs (a : Word) : Word := if fIsNaN a then fNaN else if fIsZero a then fZero else a &&& 0x7FFFFFFF#32

/-- A number with subnormals replaced by zero of the same sign (R139) and NaN by the quiet NaN (R140). -/
def fFlush (a : Word) : Word :=
  if fIsNaN a then fNaN else if fIsZero a then (if fSign a then fNegZero else fZero) else a

/-- a + b. -/
def fAdd (a b : Word) : Word :=
  if fIsNaN a || fIsNaN b then fNaN
  else if fIsInf a then (if fIsInf b && fSign a != fSign b then fNaN else a)
  else if fIsInf b then b
  else fOfFracS (fIsZero a && fIsZero b && fSign a && fSign b) (qAdd (fVal a) (fVal b))

/-- a − b. -/
def fSub (a b : Word) : Word := fAdd a (fNeg b)

/-- a × b. -/
def fMul (a b : Word) : Word :=
  if fIsNaN a || fIsNaN b then fNaN
  else
    let neg := fSign a != fSign b
    if fIsInf a || fIsInf b then
      if fIsZero a || fIsZero b then fNaN else if neg then fNegInf else fInf
    else fOfFracS neg (qMul (fVal a) (fVal b))

/-- a × b + c with one rounding (table 5.4, MAC). -/
def fMac (a b c : Word) : Word :=
  if fIsNaN a || fIsNaN b || fIsNaN c then fNaN
  else
    let neg := fSign a != fSign b
    if fIsInf a || fIsInf b then
      if fIsZero a || fIsZero b then fNaN
      else if fIsInf c && fSign c != neg then fNaN
      else if neg then fNegInf else fInf
    else if fIsInf c then c
    else fOfFracS (neg && fSign c && fIsZero c && (fIsZero a || fIsZero b)) (qAdd (qMul (fVal a) (fVal b)) (fVal c))

/-- a / b: x / 0 gives ±∞, 0 / 0 and ∞ / ∞ give NaN (table 5.4, DIV). -/
def fDiv (a b : Word) : Word :=
  if fIsNaN a || fIsNaN b then fNaN
  else
    let neg := fSign a != fSign b
    if fIsInf a then (if fIsInf b then fNaN else if neg then fNegInf else fInf)
    else if fIsInf b then (if neg then fNegZero else fZero)
    else if fIsZero b then
      if fIsZero a then fNaN else if neg then fNegInf else fInf
    else fOfFracS neg (qDiv (fVal a) (fVal b))

/-- Integer square root by bits: the largest r below 2^k added to `r0` whose square is at most n. -/
def isqrtBits (n : Nat) (k : Nat) (r0 : Nat) : Nat :=
  match k with
  | 0 => r0
  | k + 1 => isqrtBits n k (if (r0 + 2 ^ k) * (r0 + 2 ^ k) ≤ n then r0 + 2 ^ k else r0)

/-- Integer square root. -/
def isqrt (n : Nat) : Nat := isqrtBits n (Nat.log2 n / 2 + 1) 0

/-- √a, rounded to nearest; a < 0 gives +0 (table 5.4, SQRT); √(±0) = ±0, √∞ = ∞. -/
def fSqrt (a : Word) : Word :=
  if fIsNaN a then fNaN
  else if fIsZero a then (if fSign a then fNegZero else fZero)
  else if fSign a then fZero
  else if fIsInf a then fInf
  else
    let q : Frac := fVal a
    -- √(n/d) = √(n·d·4^k)/(d·2^k); a sticky bit below the root keeps the rounding exact
    let n := q.1.natAbs * q.2 * 4 ^ 40
    let r := isqrt n
    let sticky := if r * r = n then 0 else 1
    fOfFrac (((2 * r + sticky : Nat) : Int), 2 * q.2 * 2 ^ 40)

/-- a < b (false with a NaN). -/
def fLt (a b : Word) : Bool :=
  if fIsNaN a || fIsNaN b then false
  else if fIsInf a then (fSign a && !(fIsInf b && fSign b))
  else if fIsInf b then !fSign b
  else qLt (fVal a) (fVal b)

/-- a = b (false with a NaN; the zeros are equal). -/
def fEq (a b : Word) : Bool :=
  if fIsNaN a || fIsNaN b then false
  else if fIsInf a || fIsInf b then a == b
  else !qLt (fVal a) (fVal b) && !qLt (fVal b) (fVal a)

/-- a ≤ b (false with a NaN). -/
def fLe (a b : Word) : Bool := fLt a b || fEq a b

/-- Smaller of a and b; a NaN operand yields the other (table 5.4, MIN2). -/
def fMin (a b : Word) : Word :=
  if fIsNaN a then (if fIsNaN b then fNaN else fFlush b) else if fIsNaN b then fFlush a
  else if fLt b a then fFlush b else fFlush a

/-- Larger of a and b; a NaN operand yields the other (table 5.4, MAX2). -/
def fMax (a b : Word) : Word :=
  if fIsNaN a then (if fIsNaN b then fNaN else fFlush b) else if fIsNaN b then fFlush a
  else if fLt a b then fFlush b else fFlush a

/-- x clamped to lo to hi. -/
def fClamp (lo hi x : Word) : Word := if fLt x lo then fFlush lo else if fLt hi x then fFlush hi else fFlush x

/-! ### π and the angle reductions -/

/-- π to 200 fraction bits. -/
def qPi : Frac := (5048344754617993871973410141242436836214643421488662971535368, 2 ^ 200)

/-- The binary32 number nearest to π: the ends of [−π, π) in binary32 (log entry 9). -/
def fPi : Word := 0x40490FDB#32

/-- A real angle taken to [−π, π) by whole turns, as a fraction. -/
def qWrap (q : Frac) : Frac :=
  let turns := qFloor (qDiv (qAdd q qPi) (qMul (qInt 2) qPi))
  qSub q (qMul (qInt (2 * turns)) qPi)

/-- A fraction in [−π, π) as binary32, a zero with the sign `neg`: what rounds to π counts as −π (log entry 9). -/
def fAngleS (neg : Bool) (q : Frac) : Word :=
  let r := fOfFracS neg q
  if r = fPi then fNeg fPi else r
@[inherit_doc fAngleS] def fAngle (q : Frac) : Word := fAngleS false q

/-- θ reduced to [−π, π) (table 5.4, WRAP). -/
def fWrap (a : Word) : Word :=
  if fIsNaN a || fIsInf a then fNaN
  else if fIsZero a then fFlush a
  else fAngle (qWrap (fVal a))

/-! ### Sine, cosine and arctangent, as series on fixed-point integers of 80 fraction bits -/

/-- A fraction as a fixed-point integer of 80 fraction bits. -/
def fixOf (q : Frac) : Int := qFloor (qMul q (qInt (2 ^ 80)))

/-- Terms of an alternating power series: term, square of the argument, next divisor index, terms left. -/
def fixSeries (term sq : Int) (k n : Nat) (acc : Int) : Int :=
  match n with
  | 0 => acc
  | n + 1 =>
    let t := -(term * sq / 2 ^ 80) / ((k * (k + 1) : Nat) : Int)
    fixSeries t sq (k + 2) n (acc + t)

/-- sin of a fixed-point angle within a turn. -/
def fixSin (x : Int) : Int := fixSeries x (x * x / 2 ^ 80) 2 22 x
/-- cos of a fixed-point angle within a turn. -/
def fixCos (x : Int) : Int := fixSeries (2 ^ 80) (x * x / 2 ^ 80) 1 22 (2 ^ 80)

/-- sin θ, to about 70 fraction bits. -/
def qSin (q : Frac) : Frac := (fixSin (fixOf (qWrap q)), 2 ^ 80)
/-- cos θ, to about 70 fraction bits. -/
def qCos (q : Frac) : Frac := (fixCos (fixOf (qWrap q)), 2 ^ 80)

/-- Terms of the arctangent series of a small argument. -/
def fixAtanSeries (pow sq : Int) (k n : Nat) (acc : Int) : Int :=
  match n with
  | 0 => acc
  | n + 1 =>
    let p := -(pow * sq / 2 ^ 80)
    fixAtanSeries p sq (k + 2) n (acc + p / (k : Int))

/-- arctan of t in [0, 1]: two halvings by atan t = 2 atan(t / (1 + √(1 + t²))), then the series. -/
def fixHalf (t : Int) : Int :=
  t * 2 ^ 80 / (2 ^ 80 + (isqrt (2 ^ 160 + (t * t).toNat) : Nat))
@[inherit_doc fixHalf] def fixAtan (t : Int) : Int :=
  let u := fixHalf (fixHalf t)
  4 * fixAtanSeries u (u * u / 2 ^ 80) 3 32 u

/-- Angle of the point (x, y) in (−π, π], as a fraction; 0 at the origin; below 2⁻³⁰ the angle is its tangent to 2⁻⁶¹ of it. -/
def qAtan2 (y x : Frac) : Frac :=
  if y.1 = 0 ∧ x.1 = 0 then (0, 1)
  else
    let ay := qAbs y
    let ax := qAbs x
    let base : Frac :=
      if qLe (qMul ay (2 ^ 30, 1)) ax then qDiv ay ax
      else if qLe ay ax then (fixAtan (fixOf (qDiv ay ax)), 2 ^ 80)
      else qSub (qDiv qPi (qInt 2)) (fixAtan (fixOf (qDiv ax ay)), 2 ^ 80)
    let r := if x.1 < 0 then qSub qPi base else base
    if y.1 < 0 then qNeg r else r

/-- An infinite operand of the arctangent stands for a direction (IEEE 754). -/
def fDir (a other : Word) : Frac :=
  if fIsInf a then (if fSign a then (-1, 1) else (1, 1))
  else if fIsInf other then (0, 1)
  else fVal a

/-- Angle in [−π, π), atan2(0, 0) = 0 (table 5.4, ATAN2; log entry 9); a zero angle has the sign of y (IEEE 754), −0 and a negative x
give −π. -/
def fAtan2 (y x : Word) : Word :=
  if fIsNaN y || fIsNaN x then fNaN
  else if fIsZero y && fIsZero x then fZero
  else fAngleS (fSign y) (qAtan2 (fDir y x) (fDir x y))

/-- Terms of 2(z + z³/3 + ...) with z in fixed point. -/
def fixAtanh (pow sq : Int) (k n : Nat) (acc : Int) : Int :=
  match n with
  | 0 => acc
  | n + 1 =>
    let p := pow * sq / 2 ^ 80
    fixAtanh p sq (k + 2) n (acc + p / (k : Int))

/-- ln of a number in [1, 2), fixed point. -/
def fixLn1 (m : Int) : Int :=
  let z := (m - 2 ^ 80) * 2 ^ 80 / (m + 2 ^ 80)
  2 * fixAtanh z (z * z / 2 ^ 80) 3 28 z

/-- ln of a fraction at least 1, to about 70 fraction bits. -/
def qLn (q : Frac) : Frac :=
  let n := Nat.log2 (qFloor q).toNat
  (fixLn1 (fixOf (qDiv q (2 ^ n, 1))) + n * fixLn1 (2 ^ 81), 2 ^ 80)

/-- Terms of the power series of exp. -/
def fixExpSeries (term x : Int) (k n : Nat) (acc : Int) : Int :=
  match n with
  | 0 => acc
  | n + 1 =>
    let t := term * x / 2 ^ 80 / (k : Int)
    fixExpSeries t x (k + 1) n (acc + t)

/-- exp of a fraction at least 0, to about 60 significant bits. -/
def qExp (q : Frac) : Frac :=
  let x := fixOf q
  let n := (x / fixLn1 (2 ^ 81)).toNat
  let r := x - n * fixLn1 (2 ^ 81)
  (fixExpSeries (2 ^ 80) r 1 28 (2 ^ 80) * 2 ^ n, 2 ^ 80)

/-- √ of a fraction at least 0, to 2^−100 relative. -/
def qSqrt (q : Frac) : Frac := (isqrt (q.1.natAbs * q.2 * 4 ^ 100), q.2 * 2 ^ 100)

/-! ### The transforms of table 5.4 -/

/-- √3 in binary32. -/
def fSqrt3 : Word := fSqrt 0x40400000#32

/-- α = (2ia − ib − ic) / 3 and β = (ib − ic) / √3. -/
def clarke (ia ib ic : Word) : List Word :=
  [fDiv (fSub (fSub (fMul 0x40000000#32 ia) ib) ic) 0x40400000#32, fDiv (fSub ib ic) fSqrt3]

/-- d and q of α and β with (sin, cos). -/
def park (a b sn cs : Word) : List Word := [fAdd (fMul a cs) (fMul b sn), fSub (fMul b cs) (fMul a sn)]

/-- α and β of d and q with (sin, cos). -/
def ipark (d q sn cs : Word) : List Word := [fSub (fMul d cs) (fMul q sn), fAdd (fMul d sn) (fMul q cs)]

end Sys2Proof.Machine
end

