-- ==== Sys2Proof/Config.lean ====
section
/-! DEFINITION. What one part fixes and the manual leaves open: the FREE VALUES. Each is an opaque constant with no body, so
nothing in Lean can evaluate it and no statement can rest on a value of it. Where a fresh value is wanted each time, the
step applies the constant to the plain counter State.free and advances the counter (log entry 1). -/

namespace Sys2Proof.Machine

/-- FREE: one outcome of two that the manual leaves open (a reset pin pulse of 100 ns to 1 µs, R69; a supply dip of 0.2 µs to
1 µs, R66; a torque-off pulse of 50 ns to 200 ns, R58; ...), fresh at each use. -/
opaque Config.freeBit : Nat → Bool

/-- FREE: a 32-bit word the manual gives no value for, fresh at each use. -/
opaque Config.freeWord : Nat → Word

/-- FREE: a number the manual gives no value for, fresh at each use. -/
opaque Config.freeNat : Nat → Nat

/-- FREE: the direction in which a value exactly half way between two results is rounded where the manual says only
"rounded" (true: up). -/
opaque Config.tieUp : Nat → Bool

/-- FREE: whether a value num/den that is no whole number becomes the next whole number above (true) or below, where the manual
converts to whole units and does not say which (R466). -/
opaque Config.roundUp : Nat → Nat → Bool

/-- FREE: a state word of an estimator whose arithmetic the manual does not state, from a fresh word and the values that a service hands
it: the seed of FLUX, or the injection voltage, response and angle correction of HFI (R337, R346; log entry 69). -/
opaque Config.estWord : Word → List Word → Word

end Sys2Proof.Machine
end

