-- ==== Sys2Proof/Machine/Fields.lean ====
section
/-! DEFINITION. The names of the registers and of their fields, by block: every register of the register map
(spec/22_register_map.md, R655) with its address, every field of the owning chapter with its bits (R3). `A.X` is the
address of register X, `F.X_Y` field Y of register X; `x` is the axis of a per-axis register, `n` its index (taken modulo the number
of such registers, so that the name always stands for one of them). -/

namespace Sys2Proof.Machine

/-- First address of the timebase, commutation and Trellis blocks of an axis (table 22.1). -/
def pwBase (x : Axis) : Nat := match x with | .a => 0x402000 | .b => 0x403000
@[inherit_doc pwBase] def mcBase (x : Axis) : Nat := match x with | .a => 0x407000 | .b => 0x408000
@[inherit_doc pwBase] def trBase (x : Axis) : Nat := match x with | .a => 0x40A000 | .b => 0x40B000

/-! ### GH (tables 0.1, 3.7 to 3.12, 4.12 to 4.15) -/

def A.GH_IDENT : Nat := 0x400000
def F.GH_IDENT_DEVICE : Fld := ⟨A.GH_IDENT, 31, 16⟩
def F.GH_IDENT_FAMILY : Fld := ⟨A.GH_IDENT, 15, 8⟩
def F.GH_IDENT_SREV : Fld := ⟨A.GH_IDENT, 7, 0⟩
def A.GH_BOOT_STATUS : Nat := 0x400004
def F.GH_BOOT_STATUS_WEAK : Fld := ⟨A.GH_BOOT_STATUS, 23, 23⟩
def F.GH_BOOT_STATUS_SLOT_MISMATCH : Fld := ⟨A.GH_BOOT_STATUS, 22, 22⟩
def F.GH_BOOT_STATUS_CAL_SLOT : Fld := ⟨A.GH_BOOT_STATUS, 21, 20⟩
def F.GH_BOOT_STATUS_FALLBACK : Fld := ⟨A.GH_BOOT_STATUS, 18, 18⟩
def F.GH_BOOT_STATUS_REQ_ENC : Fld := ⟨A.GH_BOOT_STATUS, 17, 17⟩
def F.GH_BOOT_STATUS_KEY_VALID : Fld := ⟨A.GH_BOOT_STATUS, 16, 16⟩
def F.GH_BOOT_STATUS_ENCRYPTED : Fld := ⟨A.GH_BOOT_STATUS, 15, 15⟩
def F.GH_BOOT_STATUS_SRC : Fld := ⟨A.GH_BOOT_STATUS, 14, 14⟩
def F.GH_BOOT_STATUS_BOOTSEL : Fld := ⟨A.GH_BOOT_STATUS, 13, 12⟩
def F.GH_BOOT_STATUS_RESULT : Fld := ⟨A.GH_BOOT_STATUS, 11, 8⟩
def F.GH_BOOT_STATUS_STATE : Fld := ⟨A.GH_BOOT_STATUS, 3, 0⟩
def A.GH_RST_CAUSE : Nat := 0x400008
def F.GH_RST_CAUSE_WARM_COUNT : Fld := ⟨A.GH_RST_CAUSE, 15, 8⟩
def F.GH_RST_CAUSE_REBOOT : Fld := ⟨A.GH_RST_CAUSE, 4, 4⟩
def F.GH_RST_CAUSE_THERMAL : Fld := ⟨A.GH_RST_CAUSE, 3, 3⟩
def F.GH_RST_CAUSE_SOFT : Fld := ⟨A.GH_RST_CAUSE, 2, 2⟩
def F.GH_RST_CAUSE_PIN : Fld := ⟨A.GH_RST_CAUSE, 1, 1⟩
def F.GH_RST_CAUSE_POR : Fld := ⟨A.GH_RST_CAUSE, 0, 0⟩
def A.GH_RST_CTRL : Nat := 0x40000c
def F.GH_RST_CTRL_KEY : Fld := ⟨A.GH_RST_CTRL, 31, 16⟩
def F.GH_RST_CTRL_FORCE : Fld := ⟨A.GH_RST_CTRL, 2, 2⟩
def F.GH_RST_CTRL_REBOOT : Fld := ⟨A.GH_RST_CTRL, 1, 1⟩
def F.GH_RST_CTRL_SOFT : Fld := ⟨A.GH_RST_CTRL, 0, 0⟩
def A.GH_HOST_LOAD : Nat := 0x400010
def F.GH_HOST_LOAD_GO : Fld := ⟨A.GH_HOST_LOAD, 31, 31⟩
def F.GH_HOST_LOAD_LEN : Fld := ⟨A.GH_HOST_LOAD, 20, 0⟩
def A.GH_IMG_VER : Nat := 0x400014
def F.GH_IMG_VER_FLOOR : Fld := ⟨A.GH_IMG_VER, 22, 16⟩
def F.GH_IMG_VER_VERSION : Fld := ⟨A.GH_IMG_VER, 15, 0⟩
def A.GH_BOOT_TIME : Nat := 0x400018
def F.GH_BOOT_TIME_US : Fld := ⟨A.GH_BOOT_TIME, 23, 0⟩
def A.GH_SECT_UPD : Nat := 0x40001c
def F.GH_SECT_UPD_GO : Fld := ⟨A.GH_SECT_UPD, 31, 31⟩
def F.GH_SECT_UPD_SECT : Fld := ⟨A.GH_SECT_UPD, 7, 0⟩
def A.GH_SECT_STATUS : Nat := 0x400020
def F.GH_SECT_STATUS_ITEM : Fld := ⟨A.GH_SECT_STATUS, 31, 16⟩
def F.GH_SECT_STATUS_SECT : Fld := ⟨A.GH_SECT_STATUS, 15, 8⟩
def F.GH_SECT_STATUS_RESULT : Fld := ⟨A.GH_SECT_STATUS, 7, 4⟩
def F.GH_SECT_STATUS_BUSY : Fld := ⟨A.GH_SECT_STATUS, 0, 0⟩
def A.GH_LOAD_DETAIL : Nat := 0x400024
def F.GH_LOAD_DETAIL_ITEM : Fld := ⟨A.GH_LOAD_DETAIL, 31, 16⟩
def F.GH_LOAD_DETAIL_SECT : Fld := ⟨A.GH_LOAD_DETAIL, 15, 8⟩
def F.GH_LOAD_DETAIL_CODE : Fld := ⟨A.GH_LOAD_DETAIL, 7, 0⟩
def A.GH_FLOOR_ADV : Nat := 0x400028
def F.GH_FLOOR_ADV_KEY : Fld := ⟨A.GH_FLOOR_ADV, 31, 16⟩
def F.GH_FLOOR_ADV_GO : Fld := ⟨A.GH_FLOOR_ADV, 15, 15⟩
def F.GH_FLOOR_ADV_RESULT : Fld := ⟨A.GH_FLOOR_ADV, 14, 12⟩
def F.GH_FLOOR_ADV_STEPS : Fld := ⟨A.GH_FLOOR_ADV, 6, 0⟩

/-! ### HB (tables 5.9 to 5.21) -/

def A.HB_KBUSY : Nat := 0x401000
def F.HB_KBUSY_BUSY : Fld := ⟨A.HB_KBUSY, 23, 0⟩
def A.HB_PACE (n : Nat) : Nat := 0x401004 + 0x4 * (n % 4)
def F.HB_PACE_MIN (n : Nat) : Fld := ⟨A.HB_PACE n, 31, 16⟩
def F.HB_PACE_LAST (n : Nat) : Fld := ⟨A.HB_PACE n, 15, 0⟩
def A.HB_PACE_LIM : Nat := 0x401014
def F.HB_PACE_LIM_BAND_FLOOR : Fld := ⟨A.HB_PACE_LIM, 31, 16⟩
def F.HB_PACE_LIM_IMG_FLOOR : Fld := ⟨A.HB_PACE_LIM, 15, 0⟩
def A.HB_PACE_STAT : Nat := 0x401018
def F.HB_PACE_STAT_MARGIN_BAND : Fld := ⟨A.HB_PACE_STAT, 10, 8⟩
def F.HB_PACE_STAT_BELOW_FLOOR : Fld := ⟨A.HB_PACE_STAT, 7, 4⟩
def F.HB_PACE_STAT_BELOW_BAND : Fld := ⟨A.HB_PACE_STAT, 3, 0⟩
def A.HB_MISS_CFG : Nat := 0x40101c
def F.HB_MISS_CFG_WIN_B : Fld := ⟨A.HB_MISS_CFG, 22, 16⟩
def F.HB_MISS_CFG_WIN_A : Fld := ⟨A.HB_MISS_CFG, 14, 8⟩
def F.HB_MISS_CFG_RUN_B : Fld := ⟨A.HB_MISS_CFG, 7, 4⟩
def F.HB_MISS_CFG_RUN_A : Fld := ⟨A.HB_MISS_CFG, 3, 0⟩
def A.HB_MISS (x : Axis) : Nat := 0x401020 + 4 * x.ix
def F.HB_MISS_RUN (x : Axis) : Fld := ⟨A.HB_MISS x, 31, 28⟩
def F.HB_MISS_IN_WIN (x : Axis) : Fld := ⟨A.HB_MISS x, 23, 16⟩
def F.HB_MISS_TOTAL (x : Axis) : Fld := ⟨A.HB_MISS x, 15, 0⟩
def A.HB_LATE : Nat := 0x401028
def F.HB_LATE_OVR_B : Fld := ⟨A.HB_LATE, 31, 24⟩
def F.HB_LATE_OVR_A : Fld := ⟨A.HB_LATE, 23, 16⟩
def F.HB_LATE_LATE_B : Fld := ⟨A.HB_LATE, 15, 8⟩
def F.HB_LATE_LATE_A : Fld := ⟨A.HB_LATE, 7, 0⟩
def A.HB_STEAL : Nat := 0x40102c
def F.HB_STEAL_LOST : Fld := ⟨A.HB_STEAL, 31, 16⟩
def F.HB_STEAL_TAKEN : Fld := ⟨A.HB_STEAL, 15, 0⟩
def A.HB_ECC : Nat := 0x401030
def F.HB_ECC_DOUBLE : Fld := ⟨A.HB_ECC, 23, 16⟩
def F.HB_ECC_SINGLE : Fld := ⟨A.HB_ECC, 15, 0⟩
def A.HB_ECC_ADDR : Nat := 0x401034
def F.HB_ECC_ADDR_KIND : Fld := ⟨A.HB_ECC_ADDR, 31, 29⟩
def F.HB_ECC_ADDR_ADDR : Fld := ⟨A.HB_ECC_ADDR, 23, 0⟩
def A.HB_LOCKS : Nat := 0x401038
def F.HB_LOCKS_HELD : Fld := ⟨A.HB_LOCKS, 15, 0⟩
def A.HB_ABANDON : Nat := 0x40103c
def F.HB_ABANDON_DETAIL : Fld := ⟨A.HB_ABANDON, 31, 29⟩
def F.HB_ABANDON_KIOSK : Fld := ⟨A.HB_ABANDON, 28, 24⟩
def F.HB_ABANDON_COUNT : Fld := ⟨A.HB_ABANDON, 23, 16⟩
def F.HB_ABANDON_GRAPH : Fld := ⟨A.HB_ABANDON, 15, 0⟩
def A.HB_CNT_CLR : Nat := 0x401040
def F.HB_CNT_CLR_ABANDON : Fld := ⟨A.HB_CNT_CLR, 6, 6⟩
def F.HB_CNT_CLR_ECC : Fld := ⟨A.HB_CNT_CLR, 5, 5⟩
def F.HB_CNT_CLR_STEAL : Fld := ⟨A.HB_CNT_CLR, 4, 4⟩
def F.HB_CNT_CLR_PACE_MIN : Fld := ⟨A.HB_CNT_CLR, 3, 3⟩
def F.HB_CNT_CLR_LATE : Fld := ⟨A.HB_CNT_CLR, 2, 2⟩
def F.HB_CNT_CLR_MISS_B : Fld := ⟨A.HB_CNT_CLR, 1, 1⟩
def F.HB_CNT_CLR_MISS_A : Fld := ⟨A.HB_CNT_CLR, 0, 0⟩

/-! ### PW (tables 6.8 to 6.17) -/

def A.PW_CTRL (x : Axis) : Nat := pwBase x + 0x0
def F.PW_CTRL_CNT_CLR (x : Axis) : Fld := ⟨A.PW_CTRL x, 11, 11⟩
def F.PW_CTRL_LOCK_A (x : Axis) : Fld := ⟨A.PW_CTRL x, 10, 10⟩
def F.PW_CTRL_SIX_SYNC (x : Axis) : Fld := ⟨A.PW_CTRL x, 9, 9⟩
def F.PW_CTRL_MINP_POL (x : Axis) : Fld := ⟨A.PW_CTRL x, 8, 8⟩
def F.PW_CTRL_UPD (x : Axis) : Fld := ⟨A.PW_CTRL x, 2, 2⟩
def F.PW_CTRL_CARRIER (x : Axis) : Fld := ⟨A.PW_CTRL x, 1, 1⟩
def F.PW_CTRL_EN (x : Axis) : Fld := ⟨A.PW_CTRL x, 0, 0⟩
def A.PW_PERIOD (x : Axis) : Nat := pwBase x + 0x4
def F.PW_PERIOD_TICKS (x : Axis) : Fld := ⟨A.PW_PERIOD x, 19, 0⟩
def A.PW_PER_LIM (x : Axis) : Nat := pwBase x + 0x8
def F.PW_PER_LIM_MIN (x : Axis) : Fld := ⟨A.PW_PER_LIM x, 19, 0⟩
def A.PW_CMP (x : Axis) (n : Nat) : Nat := pwBase x + 0xc + 0x4 * (n % 3)
def F.PW_CMP_D (x : Axis) (n : Nat) : Fld := ⟨A.PW_CMP x n, 23, 0⟩
def A.PW_SIX (x : Axis) : Nat := pwBase x + 0x18
def F.PW_SIX_SIXSTEP (x : Axis) : Fld := ⟨A.PW_SIX x, 9, 9⟩
def F.PW_SIX_SAT (x : Axis) : Fld := ⟨A.PW_SIX x, 8, 8⟩
def F.PW_SIX_SECTOR (x : Axis) : Fld := ⟨A.PW_SIX x, 2, 0⟩
def A.PW_CMP_BK (x : Axis) : Nat := pwBase x + 0x1c
def F.PW_CMP_BK_D (x : Axis) : Fld := ⟨A.PW_CMP_BK x, 23, 0⟩
def A.PW_DEAD (x : Axis) : Nat := pwBase x + 0x20
def F.PW_DEAD_DT_LH (x : Axis) : Fld := ⟨A.PW_DEAD x, 31, 16⟩
def F.PW_DEAD_DT_HL (x : Axis) : Fld := ⟨A.PW_DEAD x, 15, 0⟩
def A.PW_MINPULSE (x : Axis) : Nat := pwBase x + 0x24
def F.PW_MINPULSE_TICKS (x : Axis) : Fld := ⟨A.PW_MINPULSE x, 9, 0⟩
def A.PW_SAMP (x : Axis) (n : Nat) : Nat := pwBase x + 0x28 + 0x4 * (n % 4)
def F.PW_SAMP_EN (x : Axis) (n : Nat) : Fld := ⟨A.PW_SAMP x n, 31, 31⟩
def F.PW_SAMP_POS (x : Axis) (n : Nat) : Fld := ⟨A.PW_SAMP x n, 15, 0⟩
def A.PW_PHASE (x : Axis) : Nat := pwBase x + 0x38
def F.PW_PHASE_TICKS (x : Axis) : Fld := ⟨A.PW_PHASE x, 19, 0⟩
def A.PW_PERIOD_EFF (x : Axis) : Nat := pwBase x + 0x3c
def F.PW_PERIOD_EFF_TICKS (x : Axis) : Fld := ⟨A.PW_PERIOD_EFF x, 19, 0⟩
def A.PW_STAT (x : Axis) : Nat := pwBase x + 0x40
def F.PW_STAT_PER_PENDING (x : Axis) : Fld := ⟨A.PW_STAT x, 8, 8⟩
def F.PW_STAT_PHASE_LOCKED (x : Axis) : Fld := ⟨A.PW_STAT x, 7, 7⟩
def F.PW_STAT_PER_REFUSED (x : Axis) : Fld := ⟨A.PW_STAT x, 6, 6⟩
def F.PW_STAT_EDGE_DELAYED (x : Axis) : Fld := ⟨A.PW_STAT x, 5, 5⟩
def F.PW_STAT_MINP (x : Axis) : Fld := ⟨A.PW_STAT x, 4, 4⟩
def F.PW_STAT_MISSED (x : Axis) : Fld := ⟨A.PW_STAT x, 3, 3⟩
def A.PW_CNT (x : Axis) : Nat := pwBase x + 0x44
def F.PW_CNT_MINP (x : Axis) : Fld := ⟨A.PW_CNT x, 31, 16⟩
def F.PW_CNT_DELAYED (x : Axis) : Fld := ⟨A.PW_CNT x, 15, 0⟩

/-! ### SUN (tables 6.18 to 6.24) -/

def A.SUN_CTRL : Nat := 0x404000
def F.SUN_CTRL_SET_GO : Fld := ⟨A.SUN_CTRL, 9, 9⟩
def F.SUN_CTRL_SET_AT_PPS : Fld := ⟨A.SUN_CTRL, 8, 8⟩
def F.SUN_CTRL_TAU : Fld := ⟨A.SUN_CTRL, 3, 2⟩
def F.SUN_CTRL_PPS_FALL : Fld := ⟨A.SUN_CTRL, 1, 1⟩
def F.SUN_CTRL_DISC_EN : Fld := ⟨A.SUN_CTRL, 0, 0⟩
def A.SUN_SET_LO : Nat := 0x404004
def F.SUN_SET_LO : Fld := ⟨A.SUN_SET_LO, 31, 0⟩
def A.SUN_SET_HI : Nat := 0x404008
def F.SUN_SET_HI : Fld := ⟨A.SUN_SET_HI, 31, 0⟩
def A.SUN_CMD : Nat := 0x40400c
def F.SUN_CMD_CNT_CLR : Fld := ⟨A.SUN_CMD, 1, 1⟩
def F.SUN_CMD_SNAP : Fld := ⟨A.SUN_CMD, 0, 0⟩
def A.SUN_SNAP_LO : Nat := 0x404010
def F.SUN_SNAP_LO : Fld := ⟨A.SUN_SNAP_LO, 31, 0⟩
def A.SUN_SNAP_HI : Nat := 0x404014
def F.SUN_SNAP_HI : Fld := ⟨A.SUN_SNAP_HI, 31, 0⟩
def A.SUN_STAT : Nat := 0x404018
def F.SUN_STAT_REJECTS : Fld := ⟨A.SUN_STAT, 15, 8⟩
def F.SUN_STAT_SET_PENDING : Fld := ⟨A.SUN_STAT, 6, 6⟩
def F.SUN_STAT_RANGE : Fld := ⟨A.SUN_STAT, 5, 5⟩
def F.SUN_STAT_STEPPED : Fld := ⟨A.SUN_STAT, 4, 4⟩
def F.SUN_STAT_STATE : Fld := ⟨A.SUN_STAT, 1, 0⟩
def A.SUN_RATE : Nat := 0x40401c
def F.SUN_RATE : Fld := ⟨A.SUN_RATE, 31, 0⟩
def A.SUN_PHASE_ERR : Nat := 0x404020
def F.SUN_PHASE_ERR : Fld := ⟨A.SUN_PHASE_ERR, 31, 0⟩
def A.SUN_DRIFT : Nat := 0x404024
def F.SUN_DRIFT : Fld := ⟨A.SUN_DRIFT, 31, 0⟩
def A.SUN_PPS_LO : Nat := 0x404028
def F.SUN_PPS_LO : Fld := ⟨A.SUN_PPS_LO, 31, 0⟩
def A.SUN_PPS_HI : Nat := 0x40402c
def F.SUN_PPS_HI : Fld := ⟨A.SUN_PPS_HI, 31, 0⟩
def A.SUN_ACT_TLO (n : Nat) : Nat := 0x404040 + 0x10 * (n % 8)
def F.SUN_ACT_TLO (n : Nat) : Fld := ⟨A.SUN_ACT_TLO n, 31, 0⟩
def A.SUN_ACT_THI (n : Nat) : Nat := 0x404044 + 0x10 * (n % 8)
def F.SUN_ACT_THI (n : Nat) : Fld := ⟨A.SUN_ACT_THI n, 31, 0⟩
def A.SUN_ACT_CTRL (n : Nat) : Nat := 0x404048 + 0x10 * (n % 8)
def F.SUN_ACT_CTRL_ARM (n : Nat) : Fld := ⟨A.SUN_ACT_CTRL n, 31, 31⟩
def F.SUN_ACT_CTRL_CANCEL (n : Nat) : Fld := ⟨A.SUN_ACT_CTRL n, 30, 30⟩
def F.SUN_ACT_CTRL_STATUS (n : Nat) : Fld := ⟨A.SUN_ACT_CTRL n, 26, 24⟩
def F.SUN_ACT_CTRL_ARG (n : Nat) : Fld := ⟨A.SUN_ACT_CTRL n, 7, 4⟩
def F.SUN_ACT_CTRL_CODE (n : Nat) : Fld := ⟨A.SUN_ACT_CTRL n, 3, 0⟩

/-! ### SNS (tables 7.5 to 7.16) -/

def A.SNS_SDCLK : Nat := 0x405000
def F.SNS_SDCLK_DIV_B : Fld := ⟨A.SNS_SDCLK, 22, 16⟩
def F.SNS_SDCLK_DIV_A : Fld := ⟨A.SNS_SDCLK, 6, 0⟩
def A.SNS_SDCH (n : Nat) : Nat := 0x405004 + 0x4 * (n % 8)
def F.SNS_SDCH_FILT (n : Nat) : Fld := ⟨A.SNS_SDCH n, 17, 16⟩
def F.SNS_SDCH_CAPDLY (n : Nat) : Fld := ⟨A.SNS_SDCH n, 11, 8⟩
def F.SNS_SDCH_OSR2 (n : Nat) : Fld := ⟨A.SNS_SDCH n, 5, 4⟩
def F.SNS_SDCH_OSR3 (n : Nat) : Fld := ⟨A.SNS_SDCH n, 2, 0⟩
def A.SNS_FTHR (n : Nat) : Nat := 0x405024 + 0x4 * (n % 8)
def F.SNS_FTHR_HI (n : Nat) : Fld := ⟨A.SNS_FTHR n, 31, 16⟩
def F.SNS_FTHR_LO (n : Nat) : Fld := ⟨A.SNS_FTHR n, 15, 0⟩
def A.SNS_SAR_WIN : Nat := 0x405044
def F.SNS_SAR_WIN_W_NOW : Fld := ⟨A.SNS_SAR_WIN, 27, 24⟩
def F.SNS_SAR_WIN_W_TB4 : Fld := ⟨A.SNS_SAR_WIN, 19, 16⟩
def F.SNS_SAR_WIN_W_TB3 : Fld := ⟨A.SNS_SAR_WIN, 15, 12⟩
def F.SNS_SAR_WIN_W_TB2 : Fld := ⟨A.SNS_SAR_WIN, 11, 8⟩
def F.SNS_SAR_WIN_W_TB1 : Fld := ⟨A.SNS_SAR_WIN, 7, 4⟩
def F.SNS_SAR_WIN_W_TB0 : Fld := ⟨A.SNS_SAR_WIN, 3, 0⟩
def A.SNS_SEQ (n : Nat) : Nat := 0x405048 + 0x4 * (n % 16)
def F.SNS_SEQ_REP3 (n : Nat) : Fld := ⟨A.SNS_SEQ n, 30, 29⟩
def F.SNS_SEQ_SEL3 (n : Nat) : Fld := ⟨A.SNS_SEQ n, 28, 24⟩
def F.SNS_SEQ_REP2 (n : Nat) : Fld := ⟨A.SNS_SEQ n, 22, 21⟩
def F.SNS_SEQ_SEL2 (n : Nat) : Fld := ⟨A.SNS_SEQ n, 20, 16⟩
def F.SNS_SEQ_REP1 (n : Nat) : Fld := ⟨A.SNS_SEQ n, 14, 13⟩
def F.SNS_SEQ_SEL1 (n : Nat) : Fld := ⟨A.SNS_SEQ n, 12, 8⟩
def F.SNS_SEQ_REP0 (n : Nat) : Fld := ⟨A.SNS_SEQ n, 6, 5⟩
def F.SNS_SEQ_SEL0 (n : Nat) : Fld := ⟨A.SNS_SEQ n, 4, 0⟩
def A.SNS_MAP (x : Axis) : Nat := 0x405088 + 4 * x.ix
def F.SNS_MAP_AUX (x : Axis) : Fld := ⟨A.SNS_MAP x, 29, 25⟩
def F.SNS_MAP_IBRK (x : Axis) : Fld := ⟨A.SNS_MAP x, 24, 20⟩
def F.SNS_MAP_VBUS (x : Axis) : Fld := ⟨A.SNS_MAP x, 19, 15⟩
def F.SNS_MAP_IW (x : Axis) : Fld := ⟨A.SNS_MAP x, 14, 10⟩
def F.SNS_MAP_IV (x : Axis) : Fld := ⟨A.SNS_MAP x, 9, 5⟩
def F.SNS_MAP_IU (x : Axis) : Fld := ⟨A.SNS_MAP x, 4, 0⟩
def A.SNS_TOPO : Nat := 0x405090
def F.SNS_TOPO_TOPO_B : Fld := ⟨A.SNS_TOPO, 3, 2⟩
def F.SNS_TOPO_TOPO_A : Fld := ⟨A.SNS_TOPO, 1, 0⟩
def A.SNS_STAT : Nat := 0x405094
def F.SNS_STAT_STUCK : Fld := ⟨A.SNS_STAT, 23, 16⟩
def F.SNS_STAT_FTRIP : Fld := ⟨A.SNS_STAT, 15, 8⟩
def F.SNS_STAT_SUMERR_B : Fld := ⟨A.SNS_STAT, 6, 6⟩
def F.SNS_STAT_SUMERR_A : Fld := ⟨A.SNS_STAT, 5, 5⟩
def F.SNS_STAT_WAIT_B : Fld := ⟨A.SNS_STAT, 4, 4⟩
def F.SNS_STAT_WAIT_A : Fld := ⟨A.SNS_STAT, 3, 3⟩
def F.SNS_STAT_STALE_B : Fld := ⟨A.SNS_STAT, 2, 2⟩
def F.SNS_STAT_STALE_A : Fld := ⟨A.SNS_STAT, 1, 1⟩
def A.SNS_CNT (x : Axis) : Nat := 0x405098 + 4 * x.ix
def F.SNS_CNT_STALE (x : Axis) : Fld := ⟨A.SNS_CNT x, 31, 24⟩
def F.SNS_CNT_WAIT (x : Axis) : Fld := ⟨A.SNS_CNT x, 23, 16⟩
def F.SNS_CNT_RECON (x : Axis) : Fld := ⟨A.SNS_CNT x, 15, 0⟩
def A.SNS_CAL (n : Nat) : Nat := 0x4050a0 + 0x4 * (n % 10)
def F.SNS_CAL_GAIN (n : Nat) : Fld := ⟨A.SNS_CAL n, 31, 16⟩
def F.SNS_CAL_OFS (n : Nat) : Fld := ⟨A.SNS_CAL n, 15, 0⟩
def A.SNS_DTD (n : Nat) : Nat := 0x4050c8 + 0x4 * (n % 6)
def F.SNS_DTD_NEG (n : Nat) : Fld := ⟨A.SNS_DTD n, 31, 16⟩
def F.SNS_DTD_POS (n : Nat) : Fld := ⟨A.SNS_DTD n, 15, 0⟩
def A.SNS_CNT_CLR : Nat := 0x4050e0
def F.SNS_CNT_CLR_DTD : Fld := ⟨A.SNS_CNT_CLR, 2, 2⟩
def F.SNS_CNT_CLR_CNT_B : Fld := ⟨A.SNS_CNT_CLR, 1, 1⟩
def F.SNS_CNT_CLR_CNT_A : Fld := ⟨A.SNS_CNT_CLR, 0, 0⟩

/-! ### HAH (tables 8.5 to 8.15) -/

def A.HAH_CMP (n : Nat) : Nat := 0x406000 + 0x4 * (n % 12)
def F.HAH_CMP_ROUTE_HI (n : Nat) : Fld := ⟨A.HAH_CMP n, 19, 18⟩
def F.HAH_CMP_ROUTE_LO (n : Nat) : Fld := ⟨A.HAH_CMP n, 17, 16⟩
def F.HAH_CMP_HYST (n : Nat) : Fld := ⟨A.HAH_CMP n, 15, 10⟩
def F.HAH_CMP_FILT (n : Nat) : Fld := ⟨A.HAH_CMP n, 9, 5⟩
def F.HAH_CMP_SEL (n : Nat) : Fld := ⟨A.HAH_CMP n, 4, 0⟩
def A.HAH_THR (n : Nat) : Nat := 0x406030 + 0x4 * (n % 12)
def F.HAH_THR_HI (n : Nat) : Fld := ⟨A.HAH_THR n, 27, 16⟩
def F.HAH_THR_LO (n : Nat) : Fld := ⟨A.HAH_THR n, 11, 0⟩
def A.HAH_RAMP (x : Axis) : Nat := 0x406060 + 4 * x.ix
def F.HAH_RAMP_MAX (x : Axis) : Fld := ⟨A.HAH_RAMP x, 27, 16⟩
def F.HAH_RAMP_SLOPE (x : Axis) : Fld := ⟨A.HAH_RAMP x, 7, 0⟩
def A.HAH_STATE : Nat := 0x406068
def F.HAH_STATE_TRIPPED : Fld := ⟨A.HAH_STATE, 11, 0⟩
def A.HAH_STICKY : Nat := 0x40606c
def F.HAH_STICKY_HI : Fld := ⟨A.HAH_STICKY, 27, 16⟩
def F.HAH_STICKY_LO : Fld := ⟨A.HAH_STICKY, 11, 0⟩
def A.HAH_RB_CFG : Nat := 0x406070
def F.HAH_RB_CFG_TOL : Fld := ⟨A.HAH_RB_CFG, 15, 8⟩
def F.HAH_RB_CFG_EN : Fld := ⟨A.HAH_RB_CFG, 0, 0⟩
def A.HAH_RB_STAT : Nat := 0x406074
def F.HAH_RB_STAT_PASSES : Fld := ⟨A.HAH_RB_STAT, 31, 24⟩
def F.HAH_RB_STAT_ERR : Fld := ⟨A.HAH_RB_STAT, 23, 0⟩
def A.HAH_CBC_CNT : Nat := 0x406078
def F.HAH_CBC_CNT_B : Fld := ⟨A.HAH_CBC_CNT, 31, 16⟩
def F.HAH_CBC_CNT_A : Fld := ⟨A.HAH_CBC_CNT, 15, 0⟩
def A.HAH_HALL_CFG (x : Axis) : Nat := 0x406080 + 4 * x.ix
def F.HAH_HALL_CFG_INV (x : Axis) : Fld := ⟨A.HAH_HALL_CFG x, 10, 8⟩
def F.HAH_HALL_CFG_FILT (x : Axis) : Fld := ⟨A.HAH_HALL_CFG x, 7, 0⟩
def A.HAH_HALL_ST (x : Axis) : Nat := 0x406088 + 4 * x.ix
def F.HAH_HALL_ST_SKIPS (x : Axis) : Fld := ⟨A.HAH_HALL_ST x, 31, 24⟩
def F.HAH_HALL_ST_INVALIDS (x : Axis) : Fld := ⟨A.HAH_HALL_ST x, 23, 16⟩
def F.HAH_HALL_ST_SKIP (x : Axis) : Fld := ⟨A.HAH_HALL_ST x, 9, 9⟩
def F.HAH_HALL_ST_INVCODE (x : Axis) : Fld := ⟨A.HAH_HALL_ST x, 8, 8⟩
def F.HAH_HALL_ST_INVALID (x : Axis) : Fld := ⟨A.HAH_HALL_ST x, 7, 7⟩
def F.HAH_HALL_ST_SECTOR (x : Axis) : Fld := ⟨A.HAH_HALL_ST x, 6, 4⟩
def F.HAH_HALL_ST_CODE (x : Axis) : Fld := ⟨A.HAH_HALL_ST x, 2, 0⟩
def A.HAH_ENC_CFG (x : Axis) : Nat := 0x406090 + 4 * x.ix
def F.HAH_ENC_CFG_INV (x : Axis) : Fld := ⟨A.HAH_ENC_CFG x, 8, 6⟩
def F.HAH_ENC_CFG_DIRINV (x : Axis) : Fld := ⟨A.HAH_ENC_CFG x, 5, 5⟩
def F.HAH_ENC_CFG_ZGATE (x : Axis) : Fld := ⟨A.HAH_ENC_CFG x, 4, 4⟩
def F.HAH_ENC_CFG_FILT (x : Axis) : Fld := ⟨A.HAH_ENC_CFG x, 3, 0⟩
def A.HAH_ENC_CNT (x : Axis) : Nat := 0x406098 + 4 * x.ix
def F.HAH_ENC_CNT_COUNT (x : Axis) : Fld := ⟨A.HAH_ENC_CNT x, 31, 0⟩
def A.HAH_ENC_ST (x : Axis) : Nat := 0x4060a0 + 4 * x.ix
def F.HAH_ENC_ST_ERRS (x : Axis) : Fld := ⟨A.HAH_ENC_ST x, 31, 16⟩
def F.HAH_ENC_ST_ZERRS (x : Axis) : Fld := ⟨A.HAH_ENC_ST x, 15, 8⟩
def F.HAH_ENC_ST_ZERR (x : Axis) : Fld := ⟨A.HAH_ENC_ST x, 3, 3⟩
def F.HAH_ENC_ST_ERR (x : Axis) : Fld := ⟨A.HAH_ENC_ST x, 2, 2⟩
def F.HAH_ENC_ST_ZSEEN (x : Axis) : Fld := ⟨A.HAH_ENC_ST x, 1, 1⟩
def F.HAH_ENC_ST_TRUSTED (x : Axis) : Fld := ⟨A.HAH_ENC_ST x, 0, 0⟩
def A.HAH_CNT_CLR : Nat := 0x4060a8
def F.HAH_CNT_CLR_ENC_B : Fld := ⟨A.HAH_CNT_CLR, 5, 5⟩
def F.HAH_CNT_CLR_ENC_A : Fld := ⟨A.HAH_CNT_CLR, 4, 4⟩
def F.HAH_CNT_CLR_HALL_B : Fld := ⟨A.HAH_CNT_CLR, 3, 3⟩
def F.HAH_CNT_CLR_HALL_A : Fld := ⟨A.HAH_CNT_CLR, 2, 2⟩
def F.HAH_CNT_CLR_RB : Fld := ⟨A.HAH_CNT_CLR, 1, 1⟩
def F.HAH_CNT_CLR_CBC : Fld := ⟨A.HAH_CNT_CLR, 0, 0⟩

/-! ### MC (tables 1.3, 9.8 to 9.13, 10.10 to 10.16, 11.10 to 11.17, 12.7 to 12.12) -/

def A.MC_CMD (x : Axis) : Nat := mcBase x + 0x0
def F.MC_CMD_TAG (x : Axis) : Fld := ⟨A.MC_CMD x, 15, 8⟩
def F.MC_CMD_CODE (x : Axis) : Fld := ⟨A.MC_CMD x, 3, 0⟩
def A.MC_OWN (x : Axis) : Nat := mcBase x + 0x4
def F.MC_OWN_FW (x : Axis) : Fld := ⟨A.MC_OWN x, 9, 9⟩
def F.MC_OWN_FLY (x : Axis) : Fld := ⟨A.MC_OWN x, 8, 8⟩
def F.MC_OWN_GATE (x : Axis) : Fld := ⟨A.MC_OWN x, 7, 7⟩
def F.MC_OWN_RETRY (x : Axis) : Fld := ⟨A.MC_OWN x, 6, 6⟩
def F.MC_OWN_STOP (x : Axis) : Fld := ⟨A.MC_OWN x, 5, 5⟩
def F.MC_OWN_PROF (x : Axis) : Fld := ⟨A.MC_OWN x, 4, 4⟩
def F.MC_OWN_LOOP (x : Axis) : Fld := ⟨A.MC_OWN x, 3, 3⟩
def F.MC_OWN_CUR (x : Axis) : Fld := ⟨A.MC_OWN x, 2, 2⟩
def F.MC_OWN_OBS (x : Axis) : Fld := ⟨A.MC_OWN x, 1, 1⟩
def F.MC_OWN_START (x : Axis) : Fld := ⟨A.MC_OWN x, 0, 0⟩
def A.MC_STATE (x : Axis) : Nat := mcBase x + 0x8
def F.MC_STATE_TAG (x : Axis) : Fld := ⟨A.MC_STATE x, 31, 24⟩
def F.MC_STATE_RESULT (x : Axis) : Fld := ⟨A.MC_STATE x, 23, 20⟩
def F.MC_STATE_SRC (x : Axis) : Fld := ⟨A.MC_STATE x, 19, 18⟩
def F.MC_STATE_PREV (x : Axis) : Fld := ⟨A.MC_STATE x, 15, 12⟩
def F.MC_STATE_ABOVE_ASC (x : Axis) : Fld := ⟨A.MC_STATE x, 11, 11⟩
def F.MC_STATE_FW_ACTIVE (x : Axis) : Fld := ⟨A.MC_STATE x, 10, 10⟩
def F.MC_STATE_POS_TRUSTED (x : Axis) : Fld := ⟨A.MC_STATE x, 9, 9⟩
def F.MC_STATE_BRIDGE_EN (x : Axis) : Fld := ⟨A.MC_STATE x, 8, 8⟩
def F.MC_STATE_STATE (x : Axis) : Fld := ⟨A.MC_STATE x, 3, 0⟩
def A.MC_MODE (x : Axis) : Nat := mcBase x + 0xc
def F.MC_MODE_REV_THRU (x : Axis) : Fld := ⟨A.MC_MODE x, 8, 8⟩
def F.MC_MODE_MTPA_EN (x : Axis) : Fld := ⟨A.MC_MODE x, 7, 7⟩
def F.MC_MODE_FW_EN (x : Axis) : Fld := ⟨A.MC_MODE x, 6, 6⟩
def F.MC_MODE_POS_LOSS (x : Axis) : Fld := ⟨A.MC_MODE x, 5, 5⟩
def F.MC_MODE_STOP_MODE (x : Axis) : Fld := ⟨A.MC_MODE x, 4, 3⟩
def F.MC_MODE_REF (x : Axis) : Fld := ⟨A.MC_MODE x, 2, 1⟩
def F.MC_MODE_CTRL (x : Axis) : Fld := ⟨A.MC_MODE x, 0, 0⟩
def A.MC_SPD_SET (x : Axis) : Nat := mcBase x + 0x10
def F.MC_SPD_SET (x : Axis) : Fld := ⟨A.MC_SPD_SET x, 31, 0⟩
def A.MC_TRQ_SET (x : Axis) : Nat := mcBase x + 0x14
def F.MC_TRQ_SET (x : Axis) : Fld := ⟨A.MC_TRQ_SET x, 31, 0⟩
def A.MC_SPD_ACT (x : Axis) : Nat := mcBase x + 0x18
def F.MC_SPD_ACT (x : Axis) : Fld := ⟨A.MC_SPD_ACT x, 31, 0⟩
def A.MC_LIMIT (x : Axis) : Nat := mcBase x + 0x1c
def F.MC_LIMIT_LIMITED (x : Axis) : Fld := ⟨A.MC_LIMIT x, 31, 31⟩
def F.MC_LIMIT_REASON (x : Axis) : Fld := ⟨A.MC_LIMIT x, 27, 24⟩
def F.MC_LIMIT_SEEN (x : Axis) : Fld := ⟨A.MC_LIMIT x, 15, 8⟩
def A.MC_FW_ONSET (x : Axis) : Nat := mcBase x + 0x20
def F.MC_FW_ONSET (x : Axis) : Fld := ⟨A.MC_FW_ONSET x, 31, 0⟩
def A.MC_MOD (x : Axis) : Nat := mcBase x + 0x24
def F.MC_MOD (x : Axis) : Fld := ⟨A.MC_MOD x, 31, 0⟩
def A.MC_ASC_SPD (x : Axis) : Nat := mcBase x + 0x28
def F.MC_ASC_SPD (x : Axis) : Fld := ⟨A.MC_ASC_SPD x, 31, 0⟩
def A.MC_E_MOT (x : Axis) : Nat := mcBase x + 0x2c
def F.MC_E_MOT (x : Axis) : Fld := ⟨A.MC_E_MOT x, 31, 0⟩
def A.MC_E_REGEN (x : Axis) : Nat := mcBase x + 0x30
def F.MC_E_REGEN (x : Axis) : Fld := ⟨A.MC_E_REGEN x, 31, 0⟩
def A.MC_RUNTIME (x : Axis) : Nat := mcBase x + 0x34
def F.MC_RUNTIME (x : Axis) : Fld := ⟨A.MC_RUNTIME x, 31, 0⟩
def A.MC_STARTS (x : Axis) : Nat := mcBase x + 0x38
def F.MC_STARTS (x : Axis) : Fld := ⟨A.MC_STARTS x, 31, 0⟩
def A.MC_CNT_CLR (x : Axis) : Nat := mcBase x + 0x3c
def F.MC_CNT_CLR_KEY (x : Axis) : Fld := ⟨A.MC_CNT_CLR x, 31, 16⟩
def F.MC_CNT_CLR_STARTS (x : Axis) : Fld := ⟨A.MC_CNT_CLR x, 3, 3⟩
def F.MC_CNT_CLR_RUNTIME (x : Axis) : Fld := ⟨A.MC_CNT_CLR x, 2, 2⟩
def F.MC_CNT_CLR_E_REGEN (x : Axis) : Fld := ⟨A.MC_CNT_CLR x, 1, 1⟩
def F.MC_CNT_CLR_E_MOT (x : Axis) : Fld := ⟨A.MC_CNT_CLR x, 0, 0⟩
def A.MC_X_OMEGA (x : Axis) : Nat := mcBase x + 0x40
def F.MC_X_OMEGA (x : Axis) : Fld := ⟨A.MC_X_OMEGA x, 31, 0⟩
def A.MC_X_THETA (x : Axis) : Nat := mcBase x + 0x44
def F.MC_X_THETA (x : Axis) : Fld := ⟨A.MC_X_THETA x, 31, 0⟩
def A.MC_X_ID_FW (x : Axis) : Nat := mcBase x + 0x48
def F.MC_X_ID_FW (x : Axis) : Fld := ⟨A.MC_X_ID_FW x, 31, 0⟩
def A.MC_X_FW_KI (x : Axis) : Nat := mcBase x + 0x4c
def F.MC_X_FW_KI (x : Axis) : Fld := ⟨A.MC_X_FW_KI x, 31, 0⟩
def A.MC_X_FW_IDMIN (x : Axis) : Nat := mcBase x + 0x50
def F.MC_X_FW_IDMIN (x : Axis) : Fld := ⟨A.MC_X_FW_IDMIN x, 31, 0⟩
def A.MC_X_FW_MODMAX (x : Axis) : Nat := mcBase x + 0x54
def F.MC_X_FW_MODMAX (x : Axis) : Fld := ⟨A.MC_X_FW_MODMAX x, 31, 0⟩
def A.MC_BLV_STAT (x : Axis) : Nat := mcBase x + 0x100
def F.MC_BLV_STAT_SUP (x : Axis) : Fld := ⟨A.MC_BLV_STAT x, 27, 26⟩
def F.MC_BLV_STAT_AGREE (x : Axis) : Fld := ⟨A.MC_BLV_STAT x, 25, 25⟩
def F.MC_BLV_STAT_INJ_AVAIL (x : Axis) : Fld := ⟨A.MC_BLV_STAT x, 24, 24⟩
def F.MC_BLV_STAT_EXTRAP (x : Axis) : Fld := ⟨A.MC_BLV_STAT x, 23, 23⟩
def F.MC_BLV_STAT_INJ_ON (x : Axis) : Fld := ⟨A.MC_BLV_STAT x, 22, 22⟩
def F.MC_BLV_STAT_RUNNING (x : Axis) : Fld := ⟨A.MC_BLV_STAT x, 21, 19⟩
def F.MC_BLV_STAT_W (x : Axis) : Fld := ⟨A.MC_BLV_STAT x, 15, 0⟩
def A.MC_BLV_CTRL (x : Axis) : Nat := mcBase x + 0x104
def F.MC_BLV_CTRL_CNT_CLR (x : Axis) : Fld := ⟨A.MC_BLV_CTRL x, 31, 31⟩
def F.MC_BLV_CTRL_LOSS_FLY (x : Axis) : Fld := ⟨A.MC_BLV_CTRL x, 5, 5⟩
def F.MC_BLV_CTRL_OBS_PAR (x : Axis) : Fld := ⟨A.MC_BLV_CTRL x, 4, 4⟩
def F.MC_BLV_CTRL_INJ_EN (x : Axis) : Fld := ⟨A.MC_BLV_CTRL x, 3, 3⟩
def F.MC_BLV_CTRL_FLY_EN (x : Axis) : Fld := ⟨A.MC_BLV_CTRL x, 2, 2⟩
def F.MC_BLV_CTRL_START_METHOD (x : Axis) : Fld := ⟨A.MC_BLV_CTRL x, 1, 0⟩
def A.MC_BLV_EVT (x : Axis) : Nat := mcBase x + 0x108
def F.MC_BLV_EVT_FLY_FAIL (x : Axis) : Fld := ⟨A.MC_BLV_EVT x, 6, 6⟩
def F.MC_BLV_EVT_START_FAIL (x : Axis) : Fld := ⟨A.MC_BLV_EVT x, 5, 5⟩
def F.MC_BLV_EVT_STALL (x : Axis) : Fld := ⟨A.MC_BLV_EVT x, 4, 4⟩
def F.MC_BLV_EVT_EXTRAP_SEEN (x : Axis) : Fld := ⟨A.MC_BLV_EVT x, 3, 3⟩
def F.MC_BLV_EVT_LOST (x : Axis) : Fld := ⟨A.MC_BLV_EVT x, 2, 2⟩
def F.MC_BLV_EVT_REACQ (x : Axis) : Fld := ⟨A.MC_BLV_EVT x, 1, 1⟩
def F.MC_BLV_EVT_SUSPECT (x : Axis) : Fld := ⟨A.MC_BLV_EVT x, 0, 0⟩
def A.MC_BLV_CNT (x : Axis) : Nat := mcBase x + 0x10c
def F.MC_BLV_CNT_REACQ (x : Axis) : Fld := ⟨A.MC_BLV_CNT x, 31, 24⟩
def F.MC_BLV_CNT_LOST (x : Axis) : Fld := ⟨A.MC_BLV_CNT x, 23, 16⟩
def F.MC_BLV_CNT_FLY (x : Axis) : Fld := ⟨A.MC_BLV_CNT x, 15, 8⟩
def F.MC_BLV_CNT_START_FAIL (x : Axis) : Fld := ⟨A.MC_BLV_CNT x, 7, 0⟩
def A.MC_START_DIAG (x : Axis) : Nat := mcBase x + 0x110
def F.MC_START_DIAG_FLY (x : Axis) : Fld := ⟨A.MC_START_DIAG x, 15, 12⟩
def F.MC_START_DIAG_TRIES (x : Axis) : Fld := ⟨A.MC_START_DIAG x, 11, 8⟩
def F.MC_START_DIAG_DETAIL (x : Axis) : Fld := ⟨A.MC_START_DIAG x, 2, 0⟩
def A.MC_ID_CTRL (x : Axis) : Nat := mcBase x + 0x114
def F.MC_ID_CTRL_SECT (x : Axis) : Fld := ⟨A.MC_ID_CTRL x, 23, 16⟩
def F.MC_ID_CTRL_STAGE (x : Axis) : Fld := ⟨A.MC_ID_CTRL x, 6, 6⟩
def F.MC_ID_CTRL_LOCKED (x : Axis) : Fld := ⟨A.MC_ID_CTRL x, 5, 5⟩
def F.MC_ID_CTRL_TESTS (x : Axis) : Fld := ⟨A.MC_ID_CTRL x, 4, 1⟩
def F.MC_ID_CTRL_ON_START (x : Axis) : Fld := ⟨A.MC_ID_CTRL x, 0, 0⟩
def A.MC_ID_STAT (x : Axis) : Nat := mcBase x + 0x118
def F.MC_ID_STAT_RESULT (x : Axis) : Fld := ⟨A.MC_ID_STAT x, 31, 28⟩
def F.MC_ID_STAT_TEST (x : Axis) : Fld := ⟨A.MC_ID_STAT x, 27, 24⟩
def F.MC_ID_STAT_STAGED (x : Axis) : Fld := ⟨A.MC_ID_STAT x, 0, 0⟩
def A.MC_X_THETA_B (x : Axis) : Nat := mcBase x + 0x11c
def F.MC_X_THETA_B (x : Axis) : Fld := ⟨A.MC_X_THETA_B x, 31, 0⟩
def A.MC_X_THETA_F (x : Axis) : Nat := mcBase x + 0x120
def F.MC_X_THETA_F (x : Axis) : Fld := ⟨A.MC_X_THETA_F x, 31, 0⟩
def A.MC_X_THETA_H (x : Axis) : Nat := mcBase x + 0x124
def F.MC_X_THETA_H (x : Axis) : Fld := ⟨A.MC_X_THETA_H x, 31, 0⟩
def A.MC_X_DISAGREE (x : Axis) : Nat := mcBase x + 0x128
def F.MC_X_DISAGREE (x : Axis) : Fld := ⟨A.MC_X_DISAGREE x, 31, 0⟩
def A.MC_X_RESID (x : Axis) : Nat := mcBase x + 0x12c
def F.MC_X_RESID (x : Axis) : Fld := ⟨A.MC_X_RESID x, 31, 0⟩
def A.MC_X_TLOAD (x : Axis) : Nat := mcBase x + 0x130
def F.MC_X_TLOAD (x : Axis) : Fld := ⟨A.MC_X_TLOAD x, 31, 0⟩
def A.MC_X_PLL_KP (x : Axis) : Nat := mcBase x + 0x134
def F.MC_X_PLL_KP (x : Axis) : Fld := ⟨A.MC_X_PLL_KP x, 31, 0⟩
def A.MC_X_PLL_KI (x : Axis) : Nat := mcBase x + 0x138
def F.MC_X_PLL_KI (x : Axis) : Fld := ⟨A.MC_X_PLL_KI x, 31, 0⟩
def A.MC_X_DIS_BAND (x : Axis) : Nat := mcBase x + 0x13c
def F.MC_X_DIS_BAND (x : Axis) : Fld := ⟨A.MC_X_DIS_BAND x, 31, 0⟩
def A.MC_X_RES_BAND (x : Axis) : Nat := mcBase x + 0x140
def F.MC_X_RES_BAND (x : Axis) : Fld := ⟨A.MC_X_RES_BAND x, 31, 0⟩
def A.MC_ID_RS (x : Axis) : Nat := mcBase x + 0x144
def F.MC_ID_RS (x : Axis) : Fld := ⟨A.MC_ID_RS x, 31, 0⟩
def A.MC_ID_LD0 (x : Axis) : Nat := mcBase x + 0x148
def F.MC_ID_LD0 (x : Axis) : Fld := ⟨A.MC_ID_LD0 x, 31, 0⟩
def A.MC_ID_LQ0 (x : Axis) : Nat := mcBase x + 0x14c
def F.MC_ID_LQ0 (x : Axis) : Fld := ⟨A.MC_ID_LQ0 x, 31, 0⟩
def A.MC_ID_PSI (x : Axis) : Nat := mcBase x + 0x150
def F.MC_ID_PSI (x : Axis) : Fld := ⟨A.MC_ID_PSI x, 31, 0⟩
def A.MC_ID_J (x : Axis) : Nat := mcBase x + 0x154
def F.MC_ID_J (x : Axis) : Fld := ⟨A.MC_ID_J x, 31, 0⟩
def A.MC_ID_TLOAD (x : Axis) : Nat := mcBase x + 0x158
def F.MC_ID_TLOAD (x : Axis) : Fld := ⟨A.MC_ID_TLOAD x, 31, 0⟩
def A.MC_ID_TEMP (x : Axis) : Nat := mcBase x + 0x15c
def F.MC_ID_TEMP (x : Axis) : Fld := ⟨A.MC_ID_TEMP x, 31, 0⟩
def A.MC_BANK (x : Axis) (c i : Nat) : Nat := mcBase x + 0x200 + 0x40 * (c % 9) + 4 * (i % 10)
def F.MC_BANK (x : Axis) (c i : Nat) : Fld := ⟨A.MC_BANK x c i, 31, 0⟩
def A.MC_C_X_IN (x : Axis) (n : Nat) : Nat := mcBase x + 0x228 + 0x40 * (n % 9)
def F.MC_C_X_IN (x : Axis) (n : Nat) : Fld := ⟨A.MC_C_X_IN x n, 31, 0⟩
def A.MC_C_X_OUT (x : Axis) (n : Nat) : Nat := mcBase x + 0x22c + 0x40 * (n % 9)
def F.MC_C_X_OUT (x : Axis) (n : Nat) : Fld := ⟨A.MC_C_X_OUT x n, 31, 0⟩
def A.MC_SWAP (x : Axis) : Nat := mcBase x + 0x440
def F.MC_SWAP_REQ (x : Axis) : Fld := ⟨A.MC_SWAP x, 3, 0⟩
def A.MC_SWAP_STAT (x : Axis) : Nat := mcBase x + 0x444
def F.MC_SWAP_STAT_REFUSED (x : Axis) : Fld := ⟨A.MC_SWAP_STAT x, 27, 24⟩
def F.MC_SWAP_STAT_RESULT (x : Axis) : Fld := ⟨A.MC_SWAP_STAT x, 23, 20⟩
def F.MC_SWAP_STAT_COMP (x : Axis) : Fld := ⟨A.MC_SWAP_STAT x, 19, 16⟩
def F.MC_SWAP_STAT_ACTIVE (x : Axis) : Fld := ⟨A.MC_SWAP_STAT x, 8, 0⟩
def A.MC_CMP_GRP (x : Axis) : Nat := mcBase x + 0x448
def F.MC_CMP_GRP_FORM (x : Axis) : Fld := ⟨A.MC_CMP_GRP x, 26, 18⟩
def F.MC_CMP_GRP_GRP (x : Axis) : Fld := ⟨A.MC_CMP_GRP x, 17, 0⟩
def A.MC_CUR_CTRL (x : Axis) : Nat := mcBase x + 0x44c
def F.MC_CUR_CTRL_FF_EN (x : Axis) : Fld := ⟨A.MC_CUR_CTRL x, 0, 0⟩
def A.MC_LOOP_EN (x : Axis) : Nat := mcBase x + 0x450
def F.MC_LOOP_EN_TT (x : Axis) : Fld := ⟨A.MC_LOOP_EN x, 5, 5⟩
def F.MC_LOOP_EN_TH (x : Axis) : Fld := ⟨A.MC_LOOP_EN x, 4, 4⟩
def F.MC_LOOP_EN_IM (x : Axis) : Fld := ⟨A.MC_LOOP_EN x, 3, 3⟩
def F.MC_LOOP_EN_PW (x : Axis) : Fld := ⟨A.MC_LOOP_EN x, 2, 2⟩
def F.MC_LOOP_EN_BV (x : Axis) : Fld := ⟨A.MC_LOOP_EN x, 1, 1⟩
def F.MC_LOOP_EN_SP (x : Axis) : Fld := ⟨A.MC_LOOP_EN x, 0, 0⟩
def A.MC_LOOP_DIV (x : Axis) : Nat := mcBase x + 0x454
def F.MC_LOOP_DIV_TT (x : Axis) : Fld := ⟨A.MC_LOOP_DIV x, 29, 24⟩
def F.MC_LOOP_DIV_TH (x : Axis) : Fld := ⟨A.MC_LOOP_DIV x, 23, 18⟩
def F.MC_LOOP_DIV_PW (x : Axis) : Fld := ⟨A.MC_LOOP_DIV x, 17, 12⟩
def F.MC_LOOP_DIV_BV (x : Axis) : Fld := ⟨A.MC_LOOP_DIV x, 11, 6⟩
def F.MC_LOOP_DIV_SP (x : Axis) : Fld := ⟨A.MC_LOOP_DIV x, 5, 0⟩
def A.MC_SEL_STAT (x : Axis) : Nat := mcBase x + 0x458
def F.MC_SEL_STAT_REGEN (x : Axis) : Fld := ⟨A.MC_SEL_STAT x, 5, 5⟩
def F.MC_SEL_STAT_DIR (x : Axis) : Fld := ⟨A.MC_SEL_STAT x, 4, 4⟩
def F.MC_SEL_STAT_WIN (x : Axis) : Fld := ⟨A.MC_SEL_STAT x, 2, 0⟩
def A.MC_CMP_SAT (x : Axis) : Nat := mcBase x + 0x45c
def F.MC_CMP_SAT_SAT (x : Axis) : Fld := ⟨A.MC_CMP_SAT x, 8, 0⟩
def A.MC_X_DEM_SP (x : Axis) : Nat := mcBase x + 0x460
def F.MC_X_DEM_SP (x : Axis) : Fld := ⟨A.MC_X_DEM_SP x, 31, 0⟩
def A.MC_X_LIM_BV (x : Axis) : Nat := mcBase x + 0x464
def F.MC_X_LIM_BV (x : Axis) : Fld := ⟨A.MC_X_LIM_BV x, 31, 0⟩
def A.MC_X_LIM_PW (x : Axis) : Nat := mcBase x + 0x468
def F.MC_X_LIM_PW (x : Axis) : Fld := ⟨A.MC_X_LIM_PW x, 31, 0⟩
def A.MC_X_LIM_IM (x : Axis) : Nat := mcBase x + 0x46c
def F.MC_X_LIM_IM (x : Axis) : Fld := ⟨A.MC_X_LIM_IM x, 31, 0⟩
def A.MC_X_LIM_TH (x : Axis) : Nat := mcBase x + 0x470
def F.MC_X_LIM_TH (x : Axis) : Fld := ⟨A.MC_X_LIM_TH x, 31, 0⟩
def A.MC_X_LIM_TT (x : Axis) : Nat := mcBase x + 0x474
def F.MC_X_LIM_TT (x : Axis) : Fld := ⟨A.MC_X_LIM_TT x, 31, 0⟩
def A.MC_X_IM_PRE (x : Axis) : Nat := mcBase x + 0x478
def F.MC_X_IM_PRE (x : Axis) : Fld := ⟨A.MC_X_IM_PRE x, 31, 0⟩
def A.MC_X_IQ_REF (x : Axis) : Nat := mcBase x + 0x47c
def F.MC_X_IQ_REF (x : Axis) : Fld := ⟨A.MC_X_IQ_REF x, 31, 0⟩
def A.MC_X_ID_REF (x : Axis) : Nat := mcBase x + 0x480
def F.MC_X_ID_REF (x : Axis) : Fld := ⟨A.MC_X_ID_REF x, 31, 0⟩
def A.MC_X_T_MOD (x : Axis) : Nat := mcBase x + 0x484
def F.MC_X_T_MOD (x : Axis) : Fld := ⟨A.MC_X_T_MOD x, 31, 0⟩
def A.MC_PRM_STAT (x : Axis) : Nat := mcBase x + 0x500
def F.MC_PRM_STAT_INPOS (x : Axis) : Fld := ⟨A.MC_PRM_STAT x, 2, 2⟩
def F.MC_PRM_STAT_HELD (x : Axis) : Fld := ⟨A.MC_PRM_STAT x, 1, 1⟩
def F.MC_PRM_STAT_DONE (x : Axis) : Fld := ⟨A.MC_PRM_STAT x, 0, 0⟩
def A.MC_SPD_REF (x : Axis) : Nat := mcBase x + 0x504
def F.MC_SPD_REF (x : Axis) : Fld := ⟨A.MC_SPD_REF x, 31, 0⟩
def A.MC_X_OMEGA_REF (x : Axis) : Nat := mcBase x + 0x508
def F.MC_X_OMEGA_REF (x : Axis) : Fld := ⟨A.MC_X_OMEGA_REF x, 31, 0⟩
def A.MC_X_ACC_REF (x : Axis) : Nat := mcBase x + 0x50c
def F.MC_X_ACC_REF (x : Axis) : Fld := ⟨A.MC_X_ACC_REF x, 31, 0⟩
def A.MC_X_ACC_MAX (x : Axis) : Nat := mcBase x + 0x510
def F.MC_X_ACC_MAX (x : Axis) : Fld := ⟨A.MC_X_ACC_MAX x, 31, 0⟩
def A.MC_X_DEC_MAX (x : Axis) : Nat := mcBase x + 0x514
def F.MC_X_DEC_MAX (x : Axis) : Fld := ⟨A.MC_X_DEC_MAX x, 31, 0⟩
def A.MC_X_JERK_MAX (x : Axis) : Nat := mcBase x + 0x518
def F.MC_X_JERK_MAX (x : Axis) : Fld := ⟨A.MC_X_JERK_MAX x, 31, 0⟩
def A.MC_POS_SET_T (x : Axis) : Nat := mcBase x + 0x51c
def F.MC_POS_SET_T (x : Axis) : Fld := ⟨A.MC_POS_SET_T x, 31, 0⟩
def A.MC_POS_SET_F (x : Axis) : Nat := mcBase x + 0x520
def F.MC_POS_SET_F (x : Axis) : Fld := ⟨A.MC_POS_SET_F x, 31, 0⟩
def A.MC_POS_REF_T (x : Axis) : Nat := mcBase x + 0x524
def F.MC_POS_REF_T (x : Axis) : Fld := ⟨A.MC_POS_REF_T x, 31, 0⟩
def A.MC_POS_REF_F (x : Axis) : Nat := mcBase x + 0x528
def F.MC_POS_REF_F (x : Axis) : Fld := ⟨A.MC_POS_REF_F x, 31, 0⟩
def A.MC_POS_ACT_T (x : Axis) : Nat := mcBase x + 0x52c
def F.MC_POS_ACT_T (x : Axis) : Fld := ⟨A.MC_POS_ACT_T x, 31, 0⟩
def A.MC_POS_ACT_F (x : Axis) : Nat := mcBase x + 0x530
def F.MC_POS_ACT_F (x : Axis) : Fld := ⟨A.MC_POS_ACT_F x, 31, 0⟩
def A.MC_PRM_CTRL (x : Axis) : Nat := mcBase x + 0x534
def F.MC_PRM_CTRL_HOME (x : Axis) : Fld := ⟨A.MC_PRM_CTRL x, 0, 0⟩
def A.MC_FOL_CFG (x : Axis) : Nat := mcBase x + 0x580
def F.MC_FOL_CFG_HOLD (x : Axis) : Fld := ⟨A.MC_FOL_CFG x, 27, 20⟩
def F.MC_FOL_CFG_PRBS_N (x : Axis) : Fld := ⟨A.MC_FOL_CFG x, 15, 12⟩
def F.MC_FOL_CFG_VAXIS (x : Axis) : Fld := ⟨A.MC_FOL_CFG x, 6, 6⟩
def F.MC_FOL_CFG_POINT (x : Axis) : Fld := ⟨A.MC_FOL_CFG x, 5, 4⟩
def F.MC_FOL_CFG_SIG (x : Axis) : Fld := ⟨A.MC_FOL_CFG x, 2, 0⟩
def A.MC_FOL_CNT (x : Axis) : Nat := mcBase x + 0x584
def F.MC_FOL_CNT_NSTEP (x : Axis) : Fld := ⟨A.MC_FOL_CNT x, 23, 16⟩
def F.MC_FOL_CNT_NREP (x : Axis) : Fld := ⟨A.MC_FOL_CNT x, 15, 8⟩
def F.MC_FOL_CNT_DWELL (x : Axis) : Fld := ⟨A.MC_FOL_CNT x, 7, 0⟩
def A.MC_FOL_AMP (x : Axis) : Nat := mcBase x + 0x588
def F.MC_FOL_AMP (x : Axis) : Fld := ⟨A.MC_FOL_AMP x, 31, 0⟩
def A.MC_FOL_F0 (x : Axis) : Nat := mcBase x + 0x58c
def F.MC_FOL_F0 (x : Axis) : Fld := ⟨A.MC_FOL_F0 x, 31, 0⟩
def A.MC_FOL_F1 (x : Axis) : Nat := mcBase x + 0x590
def F.MC_FOL_F1 (x : Axis) : Fld := ⟨A.MC_FOL_F1 x, 31, 0⟩
def A.MC_FOL_DUR (x : Axis) : Nat := mcBase x + 0x594
def F.MC_FOL_DUR (x : Axis) : Fld := ⟨A.MC_FOL_DUR x, 31, 0⟩
def A.MC_FOL_CTRL (x : Axis) : Nat := mcBase x + 0x598
def F.MC_FOL_CTRL_CANCEL (x : Axis) : Fld := ⟨A.MC_FOL_CTRL x, 1, 1⟩
def F.MC_FOL_CTRL_START (x : Axis) : Fld := ⟨A.MC_FOL_CTRL x, 0, 0⟩
def A.MC_FOL_STAT (x : Axis) : Nat := mcBase x + 0x59c
def F.MC_FOL_STAT_CLIPS (x : Axis) : Fld := ⟨A.MC_FOL_STAT x, 31, 16⟩
def F.MC_FOL_STAT_END (x : Axis) : Fld := ⟨A.MC_FOL_STAT x, 11, 8⟩
def F.MC_FOL_STAT_RESULT (x : Axis) : Fld := ⟨A.MC_FOL_STAT x, 7, 4⟩
def F.MC_FOL_STAT_RUNNING (x : Axis) : Fld := ⟨A.MC_FOL_STAT x, 0, 0⟩
def A.MC_X_FOL_VAL (x : Axis) : Nat := mcBase x + 0x5a0
def F.MC_X_FOL_VAL (x : Axis) : Fld := ⟨A.MC_X_FOL_VAL x, 31, 0⟩
def A.MC_CAP_CFG (x : Axis) : Nat := mcBase x + 0x5c0
def F.MC_CAP_CFG_EVT (x : Axis) : Fld := ⟨A.MC_CAP_CFG x, 31, 24⟩
def F.MC_CAP_CFG_DEC (x : Axis) : Fld := ⟨A.MC_CAP_CFG x, 23, 16⟩
def F.MC_CAP_CFG_CH (x : Axis) : Fld := ⟨A.MC_CAP_CFG x, 15, 12⟩
def F.MC_CAP_CFG_NSIG (x : Axis) : Fld := ⟨A.MC_CAP_CFG x, 11, 9⟩
def F.MC_CAP_CFG_RING (x : Axis) : Fld := ⟨A.MC_CAP_CFG x, 8, 8⟩
def F.MC_CAP_CFG_TRIG (x : Axis) : Fld := ⟨A.MC_CAP_CFG x, 7, 6⟩
def A.MC_CAP_SEL_LO (x : Axis) : Nat := mcBase x + 0x5c4
def F.MC_CAP_SEL_LO (x : Axis) : Fld := ⟨A.MC_CAP_SEL_LO x, 31, 0⟩
def A.MC_CAP_SEL_HI (x : Axis) : Nat := mcBase x + 0x5c8
def F.MC_CAP_SEL_HI (x : Axis) : Fld := ⟨A.MC_CAP_SEL_HI x, 31, 0⟩
def A.MC_CAP_BASE (x : Axis) : Nat := mcBase x + 0x5cc
def F.MC_CAP_BASE (x : Axis) : Fld := ⟨A.MC_CAP_BASE x, 23, 0⟩
def A.MC_CAP_NSAMP (x : Axis) : Nat := mcBase x + 0x5d0
def F.MC_CAP_NSAMP_PRE (x : Axis) : Fld := ⟨A.MC_CAP_NSAMP x, 31, 16⟩
def F.MC_CAP_NSAMP_NSAMP (x : Axis) : Fld := ⟨A.MC_CAP_NSAMP x, 15, 0⟩
def A.MC_CAP_CTRL (x : Axis) : Nat := mcBase x + 0x5d4
def F.MC_CAP_CTRL_TRIG (x : Axis) : Fld := ⟨A.MC_CAP_CTRL x, 2, 2⟩
def F.MC_CAP_CTRL_CANCEL (x : Axis) : Fld := ⟨A.MC_CAP_CTRL x, 1, 1⟩
def F.MC_CAP_CTRL_ARM (x : Axis) : Fld := ⟨A.MC_CAP_CTRL x, 0, 0⟩
def A.MC_CAP_STAT (x : Axis) : Nat := mcBase x + 0x5d8
def F.MC_CAP_STAT_DROPS (x : Axis) : Fld := ⟨A.MC_CAP_STAT x, 31, 16⟩
def F.MC_CAP_STAT_END (x : Axis) : Fld := ⟨A.MC_CAP_STAT x, 11, 8⟩
def F.MC_CAP_STAT_RESULT (x : Axis) : Fld := ⟨A.MC_CAP_STAT x, 7, 4⟩
def F.MC_CAP_STAT_TRIGGERED (x : Axis) : Fld := ⟨A.MC_CAP_STAT x, 1, 1⟩
def F.MC_CAP_STAT_RUNNING (x : Axis) : Fld := ⟨A.MC_CAP_STAT x, 0, 0⟩
def A.MC_CAP_COUNT (x : Axis) : Nat := mcBase x + 0x5dc
def F.MC_CAP_COUNT (x : Axis) : Fld := ⟨A.MC_CAP_COUNT x, 16, 0⟩
def A.MC_CAP_START (x : Axis) : Nat := mcBase x + 0x5e0
def F.MC_CAP_START (x : Axis) : Fld := ⟨A.MC_CAP_START x, 16, 0⟩

/-! ### TR (tables 13.7 to 13.19 and 14.6 to 14.13) -/

def A.TR_CFG (x : Axis) : Nat := trBase x + 0x0
def F.TR_CFG_DB (x : Axis) : Fld := ⟨A.TR_CFG x, 8, 4⟩
def F.TR_CFG_REF_EN (x : Axis) : Fld := ⟨A.TR_CFG x, 3, 3⟩
def F.TR_CFG_ADAPT (x : Axis) : Fld := ⟨A.TR_CFG x, 2, 1⟩
def F.TR_CFG_EXT (x : Axis) : Fld := ⟨A.TR_CFG x, 0, 0⟩
def A.TR_STAT (x : Axis) : Nat := trBase x + 0x4
def F.TR_STAT_UNREACH (x : Axis) : Fld := ⟨A.TR_STAT x, 24, 19⟩
def F.TR_STAT_AT_LIMIT (x : Axis) : Fld := ⟨A.TR_STAT x, 18, 13⟩
def F.TR_STAT_GOFF_ERR (x : Axis) : Fld := ⟨A.TR_STAT x, 12, 12⟩
def F.TR_STAT_LINK_ERR (x : Axis) : Fld := ⟨A.TR_STAT x, 11, 11⟩
def F.TR_STAT_ILK_SEEN (x : Axis) : Fld := ⟨A.TR_STAT x, 10, 10⟩
def F.TR_STAT_BS_UV_SEEN (x : Axis) : Fld := ⟨A.TR_STAT x, 9, 7⟩
def F.TR_STAT_BS_UV (x : Axis) : Fld := ⟨A.TR_STAT x, 6, 4⟩
def F.TR_STAT_LINK_OK (x : Axis) : Fld := ⟨A.TR_STAT x, 1, 1⟩
def F.TR_STAT_EXT_ACTIVE (x : Axis) : Fld := ⟨A.TR_STAT x, 0, 0⟩
def A.TR_EDGE (x : Axis) (n : Nat) : Nat := trBase x + 0x8 + 0x4 * (n % 3)
def F.TR_EDGE_TGT_OFF (x : Axis) (n : Nat) : Fld := ⟨A.TR_EDGE x n, 27, 16⟩
def F.TR_EDGE_TGT_ON (x : Axis) (n : Nat) : Fld := ⟨A.TR_EDGE x n, 11, 0⟩
def A.TR_STR (x : Axis) (n : Nat) : Nat := trBase x + 0x14 + 0x4 * (n % 3)
def F.TR_STR_L_SNK (x : Axis) (n : Nat) : Fld := ⟨A.TR_STR x n, 29, 24⟩
def F.TR_STR_L_SRC (x : Axis) (n : Nat) : Fld := ⟨A.TR_STR x n, 21, 16⟩
def F.TR_STR_H_SNK (x : Axis) (n : Nat) : Fld := ⟨A.TR_STR x n, 13, 8⟩
def F.TR_STR_H_SRC (x : Axis) (n : Nat) : Fld := ⟨A.TR_STR x n, 5, 0⟩
def A.TR_STR_BK (x : Axis) : Nat := trBase x + 0x20
def F.TR_STR_BK_SNK (x : Axis) : Fld := ⟨A.TR_STR_BK x, 13, 8⟩
def F.TR_STR_BK_SRC (x : Axis) : Fld := ⟨A.TR_STR_BK x, 5, 0⟩
def A.TR_STR_LIM (x : Axis) : Nat := trBase x + 0x24
def F.TR_STR_LIM_SNK_HI (x : Axis) : Fld := ⟨A.TR_STR_LIM x, 29, 24⟩
def F.TR_STR_LIM_SNK_LO (x : Axis) : Fld := ⟨A.TR_STR_LIM x, 21, 16⟩
def F.TR_STR_LIM_SRC_HI (x : Axis) : Fld := ⟨A.TR_STR_LIM x, 13, 8⟩
def F.TR_STR_LIM_SRC_LO (x : Axis) : Fld := ⟨A.TR_STR_LIM x, 5, 0⟩
def A.TR_BAND (x : Axis) (n : Nat) : Nat := trBase x + 0x28 + 0x4 * (n % 5)
def F.TR_BAND_L_SNK (x : Axis) (n : Nat) : Fld := ⟨A.TR_BAND x n, 29, 24⟩
def F.TR_BAND_L_SRC (x : Axis) (n : Nat) : Fld := ⟨A.TR_BAND x n, 21, 16⟩
def F.TR_BAND_H_SNK (x : Axis) (n : Nat) : Fld := ⟨A.TR_BAND x n, 13, 8⟩
def F.TR_BAND_H_SRC (x : Axis) (n : Nat) : Fld := ⟨A.TR_BAND x n, 5, 0⟩
def A.TR_REF_CFG (x : Axis) : Nat := trBase x + 0x3c
def F.TR_REF_CFG_PRE_W (x : Axis) : Fld := ⟨A.TR_REF_CFG x, 29, 24⟩
def F.TR_REF_CFG_REF_W (x : Axis) : Fld := ⟨A.TR_REF_CFG x, 23, 16⟩
def F.TR_REF_CFG_REF_THR (x : Axis) : Fld := ⟨A.TR_REF_CFG x, 15, 8⟩
def F.TR_REF_CFG_N (x : Axis) : Fld := ⟨A.TR_REF_CFG x, 7, 0⟩
def A.TR_REF_STAT (x : Axis) : Nat := trBase x + 0x40
def F.TR_REF_STAT_DIST (x : Axis) : Fld := ⟨A.TR_REF_STAT x, 31, 16⟩
def F.TR_REF_STAT_COUNT (x : Axis) : Fld := ⟨A.TR_REF_STAT x, 15, 0⟩
def A.TR_VBS (x : Axis) : Nat := trBase x + 0x44
def F.TR_VBS_VDRV (x : Axis) : Fld := ⟨A.TR_VBS x, 31, 24⟩
def F.TR_VBS_W (x : Axis) : Fld := ⟨A.TR_VBS x, 23, 16⟩
def F.TR_VBS_V (x : Axis) : Fld := ⟨A.TR_VBS x, 15, 8⟩
def F.TR_VBS_U (x : Axis) : Fld := ⟨A.TR_VBS x, 7, 0⟩
def A.TR_ILK_CNT (x : Axis) : Nat := trBase x + 0x48
def F.TR_ILK_CNT_W (x : Axis) : Fld := ⟨A.TR_ILK_CNT x, 23, 16⟩
def F.TR_ILK_CNT_V (x : Axis) : Fld := ⟨A.TR_ILK_CNT x, 15, 8⟩
def F.TR_ILK_CNT_U (x : Axis) : Fld := ⟨A.TR_ILK_CNT x, 7, 0⟩
def A.TR_LINK_CNT (x : Axis) : Nat := trBase x + 0x4c
def F.TR_LINK_CNT_DISCARDED (x : Axis) : Fld := ⟨A.TR_LINK_CNT x, 15, 0⟩
def A.TR_LAST (x : Axis) (n : Nat) : Nat := trBase x + 0x50 + 0x4 * (n % 3)
def F.TR_LAST_OFF (x : Axis) (n : Nat) : Fld := ⟨A.TR_LAST x n, 31, 16⟩
def F.TR_LAST_ON (x : Axis) (n : Nat) : Fld := ⟨A.TR_LAST x n, 15, 0⟩
def A.TR_CNT_CLR (x : Axis) : Nat := trBase x + 0x5c
def F.TR_CNT_CLR_LINK (x : Axis) : Fld := ⟨A.TR_CNT_CLR x, 2, 2⟩
def F.TR_CNT_CLR_ILK (x : Axis) : Fld := ⟨A.TR_CNT_CLR x, 1, 1⟩
def F.TR_CNT_CLR_REF (x : Axis) : Fld := ⟨A.TR_CNT_CLR x, 0, 0⟩
def A.TR_DS_CFG (x : Axis) : Nat := trBase x + 0x100
def F.TR_DS_CFG_FILT (x : Axis) : Fld := ⟨A.TR_DS_CFG x, 27, 24⟩
def F.TR_DS_CFG_THR (x : Axis) : Fld := ⟨A.TR_DS_CFG x, 21, 16⟩
def F.TR_DS_CFG_MON (x : Axis) : Fld := ⟨A.TR_DS_CFG x, 14, 8⟩
def F.TR_DS_CFG_BLANK (x : Axis) : Fld := ⟨A.TR_DS_CFG x, 6, 0⟩
def A.TR_SAFE_CFG (x : Axis) : Nat := trBase x + 0x104
def F.TR_SAFE_CFG_EXIT_V (x : Axis) : Fld := ⟨A.TR_SAFE_CFG x, 21, 16⟩
def F.TR_SAFE_CFG_QUIET (x : Axis) : Fld := ⟨A.TR_SAFE_CFG x, 15, 8⟩
def F.TR_SAFE_CFG_CSC_EN (x : Axis) : Fld := ⟨A.TR_SAFE_CFG x, 2, 2⟩
def F.TR_SAFE_CFG_ASC_POL (x : Axis) : Fld := ⟨A.TR_SAFE_CFG x, 1, 0⟩
def A.TR_RETRY (x : Axis) : Nat := trBase x + 0x108
def F.TR_RETRY_WAIT (x : Axis) : Fld := ⟨A.TR_RETRY x, 25, 16⟩
def F.TR_RETRY_WINDOW (x : Axis) : Fld := ⟨A.TR_RETRY x, 15, 4⟩
def F.TR_RETRY_TRIES (x : Axis) : Fld := ⟨A.TR_RETRY x, 3, 0⟩
def A.TR_SAFE_STAT (x : Axis) : Nat := trBase x + 0x10c
def F.TR_SAFE_STAT_RETRIES (x : Axis) : Fld := ⟨A.TR_SAFE_STAT x, 31, 24⟩
def F.TR_SAFE_STAT_WAITING (x : Axis) : Fld := ⟨A.TR_SAFE_STAT x, 20, 20⟩
def F.TR_SAFE_STAT_USED (x : Axis) : Fld := ⟨A.TR_SAFE_STAT x, 19, 16⟩
def F.TR_SAFE_STAT_ABOVE_ASC (x : Axis) : Fld := ⟨A.TR_SAFE_STAT x, 9, 9⟩
def F.TR_SAFE_STAT_THERMAL (x : Axis) : Fld := ⟨A.TR_SAFE_STAT x, 8, 8⟩
def F.TR_SAFE_STAT_ORIGIN (x : Axis) : Fld := ⟨A.TR_SAFE_STAT x, 6, 4⟩
def F.TR_SAFE_STAT_STATE (x : Axis) : Fld := ⟨A.TR_SAFE_STAT x, 2, 0⟩
def A.TR_DS_STAT (x : Axis) : Nat := trBase x + 0x110
def F.TR_DS_STAT_DS_NOW (x : Axis) : Fld := ⟨A.TR_DS_STAT x, 22, 16⟩
def F.TR_DS_STAT_MON_SEEN (x : Axis) : Fld := ⟨A.TR_DS_STAT x, 14, 8⟩
def F.TR_DS_STAT_DS_SEEN (x : Axis) : Fld := ⟨A.TR_DS_STAT x, 6, 0⟩
def A.TR_CSC_STAT (x : Axis) : Nat := trBase x + 0x114
def F.TR_CSC_STAT_OVC (x : Axis) : Fld := ⟨A.TR_CSC_STAT x, 23, 16⟩
def F.TR_CSC_STAT_HW_ON (x : Axis) : Fld := ⟨A.TR_CSC_STAT x, 2, 2⟩
def F.TR_CSC_STAT_STATE (x : Axis) : Fld := ⟨A.TR_CSC_STAT x, 1, 0⟩
def A.TR_DS_CNT (x : Axis) : Nat := trBase x + 0x118
def F.TR_DS_CNT_MON (x : Axis) : Fld := ⟨A.TR_DS_CNT x, 31, 16⟩
def F.TR_DS_CNT_DS (x : Axis) : Fld := ⟨A.TR_DS_CNT x, 15, 0⟩
def A.TR_PROT_CLR (x : Axis) : Nat := trBase x + 0x11c
def F.TR_PROT_CLR_OVC (x : Axis) : Fld := ⟨A.TR_PROT_CLR x, 2, 2⟩
def F.TR_PROT_CLR_DS (x : Axis) : Fld := ⟨A.TR_PROT_CLR x, 1, 1⟩
def F.TR_PROT_CLR_RETRIES (x : Axis) : Fld := ⟨A.TR_PROT_CLR x, 0, 0⟩

/-! ### LDG (tables 15.6 to 15.12) -/

def A.LDG_SUMMARY : Nat := 0x40c000
def F.LDG_SUMMARY_FLT : Fld := ⟨A.LDG_SUMMARY, 9, 9⟩
def F.LDG_SUMMARY_FATAL : Fld := ⟨A.LDG_SUMMARY, 8, 8⟩
def F.LDG_SUMMARY_CONT_D : Fld := ⟨A.LDG_SUMMARY, 5, 5⟩
def F.LDG_SUMMARY_CONT_B : Fld := ⟨A.LDG_SUMMARY, 4, 4⟩
def F.LDG_SUMMARY_CONT_A : Fld := ⟨A.LDG_SUMMARY, 3, 3⟩
def F.LDG_SUMMARY_CORR_D : Fld := ⟨A.LDG_SUMMARY, 2, 2⟩
def F.LDG_SUMMARY_CORR_B : Fld := ⟨A.LDG_SUMMARY, 1, 1⟩
def F.LDG_SUMMARY_CORR_A : Fld := ⟨A.LDG_SUMMARY, 0, 0⟩
def A.LDG_FLT_CFG : Nat := 0x40c004
def F.LDG_FLT_CFG_CORR : Fld := ⟨A.LDG_FLT_CFG, 3, 3⟩
def F.LDG_FLT_CFG_CONT_D : Fld := ⟨A.LDG_FLT_CFG, 2, 2⟩
def F.LDG_FLT_CFG_CONT_B : Fld := ⟨A.LDG_FLT_CFG, 1, 1⟩
def F.LDG_FLT_CFG_CONT_A : Fld := ⟨A.LDG_FLT_CFG, 0, 0⟩
def A.LDG_LOCKOUT : Nat := 0x40c008
def F.LDG_LOCKOUT_B : Fld := ⟨A.LDG_LOCKOUT, 1, 1⟩
def F.LDG_LOCKOUT_A : Fld := ⟨A.LDG_LOCKOUT, 0, 0⟩
def A.LDG_REPEAT : Nat := 0x40c00c
def F.LDG_REPEAT_COUNT : Fld := ⟨A.LDG_REPEAT, 15, 0⟩
def A.LDG_ST (n : Nat) : Nat := 0x40c010 + 0x4 * (n % 6)
def F.LDG_ST (n : Nat) : Fld := ⟨A.LDG_ST n, 31, 0⟩
def A.LDG_CAUSE (n : Nat) : Nat := 0x40c030 + 0x4 * (n % 6)
def F.LDG_CAUSE (n : Nat) : Fld := ⟨A.LDG_CAUSE n, 31, 0⟩
def A.LDG_LOG_STAT : Nat := 0x40c050
def F.LDG_LOG_STAT_LOST : Fld := ⟨A.LDG_LOG_STAT, 31, 16⟩
def F.LDG_LOG_STAT_SEQ : Fld := ⟨A.LDG_LOG_STAT, 15, 8⟩
def F.LDG_LOG_STAT_COUNT : Fld := ⟨A.LDG_LOG_STAT, 6, 0⟩
def A.LDG_LOG_CLR : Nat := 0x40c054
def F.LDG_LOG_CLR_KEY : Fld := ⟨A.LDG_LOG_CLR, 31, 16⟩
def F.LDG_LOG_CLR_LOG : Fld := ⟨A.LDG_LOG_CLR, 0, 0⟩
def A.LDG_EVT_PEND (n : Nat) : Nat := 0x40c060 + 0x4 * (n % 4)
def F.LDG_EVT_PEND (n : Nat) : Fld := ⟨A.LDG_EVT_PEND n, 31, 0⟩
def A.LDG_IRQ_STAT : Nat := 0x40c070
def F.LDG_IRQ_STAT_IRQ1 : Fld := ⟨A.LDG_IRQ_STAT, 1, 1⟩
def F.LDG_IRQ_STAT_IRQ0 : Fld := ⟨A.LDG_IRQ_STAT, 0, 0⟩
def A.LDG_ROUTE (n : Nat) : Nat := 0x40c200 + 0x4 * (n % 128)
def F.LDG_ROUTE_WKT (n : Nat) : Fld := ⟨A.LDG_ROUTE n, 8, 8⟩
def F.LDG_ROUTE_PGL_CH (n : Nat) : Fld := ⟨A.LDG_ROUTE n, 7, 4⟩
def F.LDG_ROUTE_PGL (n : Nat) : Fld := ⟨A.LDG_ROUTE n, 3, 3⟩
def F.LDG_ROUTE_KIOSK (n : Nat) : Fld := ⟨A.LDG_ROUTE n, 2, 2⟩
def F.LDG_ROUTE_IRQ1 (n : Nat) : Fld := ⟨A.LDG_ROUTE n, 1, 1⟩
def F.LDG_ROUTE_IRQ0 (n : Nat) : Fld := ⟨A.LDG_ROUTE n, 0, 0⟩
def A.LDG_LOG (n : Nat) : Nat := 0x40c400 + 0x4 * (n % 256)
def F.LDG_LOG (n : Nat) : Fld := ⟨A.LDG_LOG n, 31, 0⟩

/-! ### ORG (tables 16.5 to 16.10) -/

def A.ORG_TJ : Nat := 0x40d000
def F.ORG_TJ_BAND : Fld := ⟨A.ORG_TJ, 18, 16⟩
def F.ORG_TJ_TJ : Fld := ⟨A.ORG_TJ, 15, 0⟩
def A.ORG_STAT : Nat := 0x40d004
def F.ORG_STAT_RANGE : Fld := ⟨A.ORG_STAT, 8, 8⟩
def F.ORG_STAT_DRV_B : Fld := ⟨A.ORG_STAT, 7, 7⟩
def F.ORG_STAT_DRV_A : Fld := ⟨A.ORG_STAT, 6, 6⟩
def F.ORG_STAT_RISE2_SEEN : Fld := ⟨A.ORG_STAT, 5, 5⟩
def F.ORG_STAT_RISE1_SEEN : Fld := ⟨A.ORG_STAT, 4, 4⟩
def F.ORG_STAT_THR_ENF : Fld := ⟨A.ORG_STAT, 1, 1⟩
def F.ORG_STAT_THR_REQ : Fld := ⟨A.ORG_STAT, 0, 0⟩
def A.ORG_THR_CFG : Nat := 0x40d008
def F.ORG_THR_CFG_CR_EN_B : Fld := ⟨A.ORG_THR_CFG, 25, 25⟩
def F.ORG_THR_CFG_CR_EN_A : Fld := ⟨A.ORG_THR_CFG, 24, 24⟩
def F.ORG_THR_CFG_GRACE : Fld := ⟨A.ORG_THR_CFG, 23, 16⟩
def F.ORG_THR_CFG_HYST : Fld := ⟨A.ORG_THR_CFG, 11, 8⟩
def F.ORG_THR_CFG_TT_THR : Fld := ⟨A.ORG_THR_CFG, 7, 0⟩
def A.ORG_RISE_CFG : Nat := 0x40d00c
def F.ORG_RISE_CFG_RISE2_REQ : Fld := ⟨A.ORG_RISE_CFG, 16, 16⟩
def F.ORG_RISE_CFG_RISE2 : Fld := ⟨A.ORG_RISE_CFG, 15, 8⟩
def F.ORG_RISE_CFG_RISE1 : Fld := ⟨A.ORG_RISE_CFG, 7, 0⟩
def A.ORG_CRED : Nat := 0x40d010
def F.ORG_CRED_LEN_B : Fld := ⟨A.ORG_CRED, 15, 8⟩
def F.ORG_CRED_LEN_A : Fld := ⟨A.ORG_CRED, 7, 0⟩
def A.ORG_RATE : Nat := 0x40d014
def F.ORG_RATE_VALUE : Fld := ⟨A.ORG_RATE, 31, 0⟩
def A.ORG_DRV_EST : Nat := 0x40d018
def F.ORG_DRV_EST_B : Fld := ⟨A.ORG_DRV_EST, 31, 16⟩
def F.ORG_DRV_EST_A : Fld := ⟨A.ORG_DRV_EST, 15, 0⟩
def A.ORG_DRV_CFG : Nat := 0x40d01c
def F.ORG_DRV_CFG_DRV_LIM : Fld := ⟨A.ORG_DRV_CFG, 7, 0⟩
def A.ORG_CAL : Nat := 0x40d020
def F.ORG_CAL_OFS : Fld := ⟨A.ORG_CAL, 15, 0⟩
def A.ORG_CTRL : Nat := 0x40d028
def F.ORG_CTRL_ENF_NOW : Fld := ⟨A.ORG_CTRL, 0, 0⟩

/-! ### GRT (tables 17.5 to 17.9) -/

def A.GRT_STAT : Nat := 0x40e000
def F.GRT_STAT_SLOTS : Fld := ⟨A.GRT_STAT, 31, 24⟩
def F.GRT_STAT_NEXT : Fld := ⟨A.GRT_STAT, 23, 22⟩
def F.GRT_STAT_FULL : Fld := ⟨A.GRT_STAT, 21, 21⟩
def F.GRT_STAT_MISMATCH_SEEN : Fld := ⟨A.GRT_STAT, 19, 19⟩
def F.GRT_STAT_WEAK_SEEN : Fld := ⟨A.GRT_STAT, 18, 18⟩
def F.GRT_STAT_REQ_ENC : Fld := ⟨A.GRT_STAT, 17, 17⟩
def F.GRT_STAT_KEY_VALID : Fld := ⟨A.GRT_STAT, 16, 16⟩
def F.GRT_STAT_SAT : Fld := ⟨A.GRT_STAT, 12, 8⟩
def F.GRT_STAT_BUSY : Fld := ⟨A.GRT_STAT, 0, 0⟩
def A.GRT_COUNT : Nat := 0x40e004
def F.GRT_COUNT_HS_B : Fld := ⟨A.GRT_COUNT, 31, 24⟩
def F.GRT_COUNT_HS_A : Fld := ⟨A.GRT_COUNT, 23, 16⟩
def F.GRT_COUNT_FATAL : Fld := ⟨A.GRT_COUNT, 14, 8⟩
def F.GRT_COUNT_THERM : Fld := ⟨A.GRT_COUNT, 6, 0⟩
def A.GRT_PEND : Nat := 0x40e008
def F.GRT_PEND_FATAL : Fld := ⟨A.GRT_PEND, 31, 24⟩
def F.GRT_PEND_THERM : Fld := ⟨A.GRT_PEND, 23, 16⟩
def F.GRT_PEND_HS_B : Fld := ⟨A.GRT_PEND, 15, 8⟩
def F.GRT_PEND_HS_A : Fld := ⟨A.GRT_PEND, 7, 0⟩
def A.GRT_PROG : Nat := 0x40e00c
def F.GRT_PROG_KEY : Fld := ⟨A.GRT_PROG, 31, 16⟩
def F.GRT_PROG_GO : Fld := ⟨A.GRT_PROG, 15, 15⟩
def F.GRT_PROG_OP : Fld := ⟨A.GRT_PROG, 10, 8⟩
def F.GRT_PROG_ADDR : Fld := ⟨A.GRT_PROG, 6, 0⟩
def A.GRT_PROG_DATA : Nat := 0x40e010
def F.GRT_PROG_DATA_MASK : Fld := ⟨A.GRT_PROG_DATA, 31, 0⟩
def A.GRT_PROG_STAT : Nat := 0x40e014
def F.GRT_PROG_STAT_RESULT : Fld := ⟨A.GRT_PROG_STAT, 31, 28⟩
def F.GRT_PROG_STAT_MARK : Fld := ⟨A.GRT_PROG_STAT, 27, 27⟩
def F.GRT_PROG_STAT_MARK_COPY : Fld := ⟨A.GRT_PROG_STAT, 26, 26⟩
def F.GRT_PROG_STAT_MARK_BIT : Fld := ⟨A.GRT_PROG_STAT, 25, 21⟩
def F.GRT_PROG_STAT_MARK_ADDR : Fld := ⟨A.GRT_PROG_STAT, 20, 14⟩
def F.GRT_PROG_STAT_PULSES : Fld := ⟨A.GRT_PROG_STAT, 7, 0⟩
def A.GRT_WEAK : Nat := 0x40e018
def F.GRT_WEAK_COUNT : Fld := ⟨A.GRT_WEAK, 31, 24⟩
def F.GRT_WEAK_FIRST : Fld := ⟨A.GRT_WEAK, 6, 0⟩
def A.GRT_RAW (n : Nat) : Nat := 0x40e020 + 0x4 * (n % 4)
def F.GRT_RAW (n : Nat) : Fld := ⟨A.GRT_RAW n, 31, 0⟩
def A.GRT_ARRAY (n : Nat) : Nat := 0x40e100 + 0x4 * (n % 128)
def F.GRT_ARRAY (n : Nat) : Fld := ⟨A.GRT_ARRAY n, 31, 0⟩

/-! ### WKT (tables 18.6 to 18.11) -/

def A.WKT_LEN : Nat := 0x40f000
def F.WKT_LEN_LEN : Fld := ⟨A.WKT_LEN, 12, 0⟩
def A.WKT_HLT : Nat := 0x40f004
def F.WKT_HLT_REACT_B : Fld := ⟨A.WKT_HLT, 25, 24⟩
def F.WKT_HLT_REACT_A : Fld := ⟨A.WKT_HLT, 21, 20⟩
def F.WKT_HLT_EN : Fld := ⟨A.WKT_HLT, 16, 16⟩
def F.WKT_HLT_TIMEOUT : Fld := ⟨A.WKT_HLT, 9, 0⟩
def A.WKT_STAT : Nat := 0x40f008
def F.WKT_STAT_ALIVE : Fld := ⟨A.WKT_STAT, 31, 28⟩
def F.WKT_STAT_NONE : Fld := ⟨A.WKT_STAT, 27, 27⟩
def F.WKT_STAT_LOST : Fld := ⟨A.WKT_STAT, 26, 26⟩
def F.WKT_STAT_ARMED : Fld := ⟨A.WKT_STAT, 25, 25⟩
def F.WKT_STAT_DROP_SEEN : Fld := ⟨A.WKT_STAT, 8, 8⟩
def F.WKT_STAT_BUSY_SEEN : Fld := ⟨A.WKT_STAT, 7, 7⟩
def F.WKT_STAT_RETRANS_SEEN : Fld := ⟨A.WKT_STAT, 6, 6⟩
def F.WKT_STAT_GAP_SEEN : Fld := ⟨A.WKT_STAT, 5, 5⟩
def F.WKT_STAT_BADOP_SEEN : Fld := ⟨A.WKT_STAT, 4, 4⟩
def F.WKT_STAT_CRC_SEEN : Fld := ⟨A.WKT_STAT, 3, 3⟩
def F.WKT_STAT_OVER_SEEN : Fld := ⟨A.WKT_STAT, 2, 2⟩
def F.WKT_STAT_UNDER_SEEN : Fld := ⟨A.WKT_STAT, 1, 1⟩
def F.WKT_STAT_TRUNC_SEEN : Fld := ⟨A.WKT_STAT, 0, 0⟩
def A.WKT_CNT : Nat := 0x40f00c
def F.WKT_CNT_REJECTS : Fld := ⟨A.WKT_CNT, 31, 24⟩
def F.WKT_CNT_GAPS : Fld := ⟨A.WKT_CNT, 23, 16⟩
def F.WKT_CNT_RETRANS : Fld := ⟨A.WKT_CNT, 15, 8⟩
def F.WKT_CNT_BUSY : Fld := ⟨A.WKT_CNT, 7, 0⟩
def A.WKT_CNT_CLR : Nat := 0x40f010
def F.WKT_CNT_CLR_CNT : Fld := ⟨A.WKT_CNT_CLR, 0, 0⟩
def A.WKT_LAST_BAD : Nat := 0x40f014
def F.WKT_LAST_BAD_REASON : Fld := ⟨A.WKT_LAST_BAD, 31, 28⟩
def F.WKT_LAST_BAD_EDGES : Fld := ⟨A.WKT_LAST_BAD, 15, 0⟩

/-! ### ICE (tables 19.4 to 19.9) -/

def A.ICE_CFG : Nat := 0x410000
def F.ICE_CFG_FREQ : Fld := ⟨A.ICE_CFG, 31, 24⟩
def F.ICE_CFG_DUMMY : Fld := ⟨A.ICE_CFG, 20, 16⟩
def F.ICE_CFG_PROBED : Fld := ⟨A.ICE_CFG, 4, 4⟩
def F.ICE_CFG_MODE : Fld := ⟨A.ICE_CFG, 1, 0⟩
def A.ICE_SIZE : Nat := 0x410004
def F.ICE_SIZE_BYTES : Fld := ⟨A.ICE_SIZE, 31, 0⟩
def A.ICE_WIN_BASE : Nat := 0x410008
def F.ICE_WIN_BASE_BASE : Fld := ⟨A.ICE_WIN_BASE, 31, 16⟩
def A.ICE_CTRL : Nat := 0x41000c
def F.ICE_CTRL_CNT_CLR : Fld := ⟨A.ICE_CTRL, 2, 2⟩
def F.ICE_CTRL_RELEASE : Fld := ⟨A.ICE_CTRL, 1, 1⟩
def F.ICE_CTRL_INV : Fld := ⟨A.ICE_CTRL, 0, 0⟩
def A.ICE_STAT : Nat := 0x410010
def F.ICE_STAT_ERR_SEEN : Fld := ⟨A.ICE_STAT, 8, 8⟩
def F.ICE_STAT_BUSY : Fld := ⟨A.ICE_STAT, 1, 1⟩
def F.ICE_STAT_RELEASED : Fld := ⟨A.ICE_STAT, 0, 0⟩
def A.ICE_ERR : Nat := 0x410014
def F.ICE_ERR_KIND : Fld := ⟨A.ICE_ERR, 31, 28⟩
def F.ICE_ERR_SOURCE : Fld := ⟨A.ICE_ERR, 27, 26⟩
def F.ICE_ERR_ADDR : Fld := ⟨A.ICE_ERR, 23, 0⟩
def A.ICE_CNT : Nat := 0x410018
def F.ICE_CNT_ERRORS : Fld := ⟨A.ICE_CNT, 31, 24⟩
def F.ICE_CNT_RETRIES : Fld := ⟨A.ICE_CNT, 23, 16⟩
def F.ICE_CNT_MISSES : Fld := ⟨A.ICE_CNT, 15, 0⟩

/-! ### PGL (tables 20.4 to 20.7) -/

def A.PGL_CTRL : Nat := 0x411000
def F.PGL_CTRL_KEY : Fld := ⟨A.PGL_CTRL, 31, 16⟩
def F.PGL_CTRL_RESET : Fld := ⟨A.PGL_CTRL, 0, 0⟩
def A.PGL_STAT : Nat := 0x411004
def F.PGL_STAT_NOCH : Fld := ⟨A.PGL_STAT, 31, 16⟩
def F.PGL_STAT_FULL : Fld := ⟨A.PGL_STAT, 1, 1⟩
def F.PGL_STAT_STOPPED : Fld := ⟨A.PGL_STAT, 0, 0⟩
def A.PGL_ERR : Nat := 0x411008
def F.PGL_ERR_KIND : Fld := ⟨A.PGL_ERR, 31, 30⟩
def F.PGL_ERR_NOCH : Fld := ⟨A.PGL_ERR, 29, 29⟩
def F.PGL_ERR_CH : Fld := ⟨A.PGL_ERR, 27, 24⟩
def F.PGL_ERR_ADDR : Fld := ⟨A.PGL_ERR, 23, 0⟩
def A.PGL_RING_CFG : Nat := 0x41100c
def F.PGL_RING_CFG : Fld := ⟨A.PGL_RING_CFG, 12, 0⟩
def A.PGL_RING_BASE : Nat := 0x411010
def F.PGL_RING_BASE : Fld := ⟨A.PGL_RING_BASE, 23, 0⟩
def A.PGL_RING_WR : Nat := 0x411014
def F.PGL_RING_WR : Fld := ⟨A.PGL_RING_WR, 11, 0⟩
def A.PGL_RING_RD : Nat := 0x411018
def F.PGL_RING_RD : Fld := ⟨A.PGL_RING_RD, 11, 0⟩
def A.PGL_CNT : Nat := 0x41101c
def F.PGL_CNT_RECORDS : Fld := ⟨A.PGL_CNT, 31, 16⟩
def F.PGL_CNT_WAITS : Fld := ⟨A.PGL_CNT, 15, 0⟩
def A.PGL_CH_CFG (n : Nat) : Nat := 0x411100 + 0x20 * (n % 16)
def F.PGL_CH_CFG_SHARE (n : Nat) : Fld := ⟨A.PGL_CH_CFG n, 9, 4⟩
def F.PGL_CH_CFG_PRIO (n : Nat) : Fld := ⟨A.PGL_CH_CFG n, 3, 2⟩
def F.PGL_CH_CFG_TWO_D (n : Nat) : Fld := ⟨A.PGL_CH_CFG n, 1, 1⟩
def F.PGL_CH_CFG_EXISTS (n : Nat) : Fld := ⟨A.PGL_CH_CFG n, 0, 0⟩
def A.PGL_CH_DESC (n : Nat) : Nat := 0x411104 + 0x20 * (n % 16)
def F.PGL_CH_DESC (n : Nat) : Fld := ⟨A.PGL_CH_DESC n, 23, 0⟩
def A.PGL_CH_CTRL (n : Nat) : Nat := 0x411108 + 0x20 * (n % 16)
def F.PGL_CH_CTRL_ABORT (n : Nat) : Fld := ⟨A.PGL_CH_CTRL n, 1, 1⟩
def F.PGL_CH_CTRL_TRIG (n : Nat) : Fld := ⟨A.PGL_CH_CTRL n, 0, 0⟩
def A.PGL_CH_STAT (n : Nat) : Nat := 0x41110c + 0x20 * (n % 16)
def F.PGL_CH_STAT_TAG (n : Nat) : Fld := ⟨A.PGL_CH_STAT n, 15, 8⟩
def F.PGL_CH_STAT_QUEUED (n : Nat) : Fld := ⟨A.PGL_CH_STAT n, 7, 6⟩
def F.PGL_CH_STAT_DESC_ERR (n : Nat) : Fld := ⟨A.PGL_CH_STAT n, 5, 5⟩
def F.PGL_CH_STAT_LOST_SEEN (n : Nat) : Fld := ⟨A.PGL_CH_STAT n, 4, 4⟩
def F.PGL_CH_STAT_INDET (n : Nat) : Fld := ⟨A.PGL_CH_STAT n, 3, 3⟩
def F.PGL_CH_STAT_STATE (n : Nat) : Fld := ⟨A.PGL_CH_STAT n, 2, 0⟩
def A.PGL_CH_CUR (n : Nat) : Nat := 0x411110 + 0x20 * (n % 16)
def F.PGL_CH_CUR (n : Nat) : Fld := ⟨A.PGL_CH_CUR n, 23, 0⟩
def A.PGL_CH_RESID (n : Nat) : Nat := 0x411114 + 0x20 * (n % 16)
def F.PGL_CH_RESID (n : Nat) : Fld := ⟨A.PGL_CH_RESID n, 23, 0⟩
def A.PGL_CH_CNT (n : Nat) : Nat := 0x411118 + 0x20 * (n % 16)
def F.PGL_CH_CNT_LOST (n : Nat) : Fld := ⟨A.PGL_CH_CNT n, 23, 16⟩
def F.PGL_CH_CNT_DONE (n : Nat) : Fld := ⟨A.PGL_CH_CNT n, 15, 0⟩

/-! ### STC (tables 21.5 to 21.8) -/

def A.STC_REQ : Nat := 0x412000
def F.STC_REQ_SLOT : Fld := ⟨A.STC_REQ, 10, 0⟩
def A.STC_CANCEL : Nat := 0x412004
def F.STC_CANCEL_SLOT : Fld := ⟨A.STC_CANCEL, 10, 0⟩
def A.STC_BG_CFG : Nat := 0x412008
def F.STC_BG_CFG_SAR_TOL : Fld := ⟨A.STC_BG_CFG, 31, 24⟩
def F.STC_BG_CFG_SCRUB_INT : Fld := ⟨A.STC_BG_CFG, 23, 16⟩
def F.STC_BG_CFG_SAR_INT : Fld := ⟨A.STC_BG_CFG, 15, 8⟩
def F.STC_BG_CFG_SCRUB_AUTO : Fld := ⟨A.STC_BG_CFG, 1, 1⟩
def F.STC_BG_CFG_SAR_AUTO : Fld := ⟨A.STC_BG_CFG, 0, 0⟩
def A.STC_TRIM (x : Axis) : Nat := 0x41200c + 4 * x.ix
def F.STC_TRIM_SNK (x : Axis) : Fld := ⟨A.STC_TRIM x, 15, 8⟩
def F.STC_TRIM_SRC (x : Axis) : Fld := ⟨A.STC_TRIM x, 7, 0⟩
def A.STC_SCRUB_STAT : Nat := 0x412014
def F.STC_SCRUB_STAT_RUNNING : Fld := ⟨A.STC_SCRUB_STAT, 16, 16⟩
def F.STC_SCRUB_STAT_PASSES : Fld := ⟨A.STC_SCRUB_STAT, 15, 0⟩
def A.STC_TSTAT (n : Nat) : Nat := 0x412040 + 0x4 * (n % 11)
def F.STC_TSTAT_DETAIL (n : Nat) : Fld := ⟨A.STC_TSTAT n, 31, 16⟩
def F.STC_TSTAT_PASSES (n : Nat) : Fld := ⟨A.STC_TSTAT n, 15, 8⟩
def F.STC_TSTAT_RESULT (n : Nat) : Fld := ⟨A.STC_TSTAT n, 7, 4⟩
def F.STC_TSTAT_STATE (n : Nat) : Fld := ⟨A.STC_TSTAT n, 1, 0⟩

end Sys2Proof.Machine
end

