-- ==== Sys2Proof/Machine/RegMap.lean ====
section
/-! DEFINITION. The register map: for every implemented register of spec/22_register_map.md (tables 22.1 to 22.6) its
fields with their access code (table 0.4), the value after power-on reset and what a warm reset leaves (tables 0.4
and 0.5; R3, R9). An address with no field here is not implemented (R655). -/

namespace Sys2Proof.Machine

open Access Warm

/-- Fields of block GH by offset (tables 0.1, 3.7 to 3.12, 4.12 to 4.15). -/
def ghFields (off : Nat) : List FieldD :=
  match off with
  | 0x000 => [⟨31, 16, ro, 0x2412, por⟩, ⟨15, 8, ro, 0x5d, por⟩, ⟨7, 0, ro, 0xa1, por⟩] -- IDENT
  | 0x004 => [⟨23, 23, ro, 0, por⟩, ⟨22, 22, ro, 0, por⟩, ⟨21, 20, ro, 0, por⟩, ⟨18, 18, ro, 0, por⟩, ⟨17, 17, ro, 0, por⟩, ⟨16, 16, ro, 0, por⟩, ⟨15, 15, ro, 0, por⟩, ⟨14, 14, ro, 0, por⟩, ⟨13, 12, ro, 0, latched⟩, ⟨11, 8, ro, 0, por⟩, ⟨3, 0, ro, 0, por⟩] -- BOOT_STATUS
  | 0x008 => [⟨15, 8, ro, 0, kept⟩, ⟨4, 4, w1c, 0, kept⟩, ⟨3, 3, w1c, 0, kept⟩, ⟨2, 2, w1c, 0, kept⟩, ⟨1, 1, w1c, 0, kept⟩, ⟨0, 0, w1c, 1, kept⟩] -- RST_CAUSE
  | 0x00c => [⟨31, 16, wo, 0, por⟩, ⟨2, 2, wo, 0, por⟩, ⟨1, 1, wo, 0, por⟩, ⟨0, 0, wo, 0, por⟩] -- RST_CTRL
  | 0x010 => [⟨31, 31, w1s, 0, por⟩, ⟨20, 0, rw, 0, por⟩] -- HOST_LOAD
  | 0x014 => [⟨22, 16, ro, 0, otp⟩, ⟨15, 0, ro, 0, por⟩] -- IMG_VER
  | 0x018 => [⟨23, 0, ro, 0, por⟩] -- BOOT_TIME
  | 0x01c => [⟨31, 31, w1s, 0, por⟩, ⟨7, 0, rw, 0, por⟩] -- SECT_UPD
  | 0x020 => [⟨31, 16, ro, 0, por⟩, ⟨15, 8, ro, 0, por⟩, ⟨7, 4, ro, 0, por⟩, ⟨0, 0, ro, 0, por⟩] -- SECT_STATUS
  | 0x024 => [⟨31, 16, ro, 0, por⟩, ⟨15, 8, ro, 0, por⟩, ⟨7, 0, ro, 0, por⟩] -- LOAD_DETAIL
  | 0x028 => [⟨31, 16, wo, 0, por⟩, ⟨15, 15, w1s, 0, por⟩, ⟨14, 12, ro, 0, por⟩, ⟨6, 0, ro, 0, por⟩] -- FLOOR_ADV
  | _ => []

/-- Fields of block HB by offset (tables 5.9 to 5.21). -/
def hbFields (off : Nat) : List FieldD :=
  match off with
  | 0x000 => [⟨23, 0, ro, 0, por⟩] -- KBUSY
  | 0x004 => [⟨31, 16, ro, 0xffff, por⟩, ⟨15, 0, ro, 0, por⟩] -- PACE0
  | 0x008 => [⟨31, 16, ro, 0xffff, por⟩, ⟨15, 0, ro, 0, por⟩] -- PACE1
  | 0x00c => [⟨31, 16, ro, 0xffff, por⟩, ⟨15, 0, ro, 0, por⟩] -- PACE2
  | 0x010 => [⟨31, 16, ro, 0xffff, por⟩, ⟨15, 0, ro, 0, por⟩] -- PACE3
  | 0x014 => [⟨31, 16, ro, 0, por⟩, ⟨15, 0, ro, 0, por⟩] -- PACE_LIM
  | 0x018 => [⟨10, 8, ro, 0, por⟩, ⟨7, 4, w1c, 0, por⟩, ⟨3, 0, w1c, 0, por⟩] -- PACE_STAT
  | 0x01c => [⟨22, 16, rw, 0, img⟩, ⟨14, 8, rw, 0, img⟩, ⟨7, 4, rw, 0, img⟩, ⟨3, 0, rw, 0, img⟩] -- MISS_CFG
  | 0x020 => [⟨31, 28, ro, 0, por⟩, ⟨23, 16, ro, 0, por⟩, ⟨15, 0, ro, 0, por⟩] -- MISS_A
  | 0x024 => [⟨31, 28, ro, 0, por⟩, ⟨23, 16, ro, 0, por⟩, ⟨15, 0, ro, 0, por⟩] -- MISS_B
  | 0x028 => [⟨31, 24, ro, 0, por⟩, ⟨23, 16, ro, 0, por⟩, ⟨15, 8, ro, 0, por⟩, ⟨7, 0, ro, 0, por⟩] -- LATE
  | 0x02c => [⟨31, 16, ro, 0, por⟩, ⟨15, 0, ro, 0, por⟩] -- STEAL
  | 0x030 => [⟨23, 16, ro, 0, por⟩, ⟨15, 0, ro, 0, por⟩] -- ECC
  | 0x034 => [⟨31, 29, ro, 0, por⟩, ⟨23, 0, ro, 0, por⟩] -- ECC_ADDR
  | 0x038 => [⟨15, 0, ro, 0, por⟩] -- LOCKS
  | 0x03c => [⟨31, 29, ro, 0, por⟩, ⟨28, 24, ro, 0, por⟩, ⟨23, 16, ro, 0, por⟩, ⟨15, 0, ro, 0, por⟩] -- ABANDON
  | 0x040 => [⟨6, 6, wo, 0, por⟩, ⟨5, 5, wo, 0, por⟩, ⟨4, 4, wo, 0, por⟩, ⟨3, 3, wo, 0, por⟩, ⟨2, 2, wo, 0, por⟩, ⟨1, 1, wo, 0, por⟩, ⟨0, 0, wo, 0, por⟩] -- CNT_CLR
  | _ => []

/-- Fields of block PW by offset (tables 6.8 to 6.17). -/
def pwFields (off : Nat) : List FieldD :=
  match off with
  | 0x000 => [⟨11, 11, wo, 0, por⟩, ⟨10, 10, rw, 0, img⟩, ⟨9, 9, rw, 0, img⟩, ⟨8, 8, rw, 0, img⟩, ⟨2, 2, rw, 0, img⟩, ⟨1, 1, rw, 0, img⟩, ⟨0, 0, rw, 0, img⟩] -- CTRL
  | 0x004 => [⟨19, 0, rws, 0, img⟩] -- PERIOD
  | 0x008 => [⟨19, 0, ro, 0, img⟩] -- PER_LIM
  | 0x00c => [⟨23, 0, rws, 0, por⟩] -- CMP0
  | 0x010 => [⟨23, 0, rws, 0, por⟩] -- CMP1
  | 0x014 => [⟨23, 0, rws, 0, por⟩] -- CMP2
  | 0x018 => [⟨9, 9, rws, 0, por⟩, ⟨8, 8, rws, 0, por⟩, ⟨2, 0, rws, 0, por⟩] -- SIX
  | 0x01c => [⟨23, 0, rws, 0, por⟩] -- CMP_BK
  | 0x020 => [⟨31, 16, rws, 0, img⟩, ⟨15, 0, rws, 0, img⟩] -- DEAD
  | 0x024 => [⟨9, 0, rw, 0, img⟩] -- MINPULSE
  | 0x028 => [⟨31, 31, rws, 0, img⟩, ⟨15, 0, rws, 0, img⟩] -- SAMP0
  | 0x02c => [⟨31, 31, rws, 0, img⟩, ⟨15, 0, rws, 0, img⟩] -- SAMP1
  | 0x030 => [⟨31, 31, rws, 0, img⟩, ⟨15, 0, rws, 0, img⟩] -- SAMP2
  | 0x034 => [⟨31, 31, rws, 0, img⟩, ⟨15, 0, rws, 0, img⟩] -- SAMP3
  | 0x038 => [⟨19, 0, rws, 0, img⟩] -- PHASE
  | 0x03c => [⟨19, 0, ro, 0, img⟩] -- PERIOD_EFF
  | 0x040 => [⟨8, 8, ro, 0, por⟩, ⟨7, 7, ro, 0, por⟩, ⟨6, 6, w1c, 0, por⟩, ⟨5, 5, w1c, 0, por⟩, ⟨4, 4, w1c, 0, por⟩, ⟨3, 3, w1c, 0, por⟩] -- STAT
  | 0x044 => [⟨31, 16, ro, 0, por⟩, ⟨15, 0, ro, 0, por⟩] -- CNT
  | _ => []

/-- Fields of block PWA: LOCK_A and PHASE are reserved there (tables 6.8, 6.15). -/
def pwaFields (off : Nat) : List FieldD :=
  (pwFields off).filter (fun d => !(off == 0x038 || off == 0x000 && d.lo == 10))

/-- Fields of block SUN by offset (tables 6.18 to 6.24). -/
def sunFields (off : Nat) : List FieldD :=
  if 0x40 ≤ off ∧ off < 0xc0 ∧ (off - 0x40) % 0x10 = 0 then [⟨31, 0, rw, 0, por⟩] -- ACT_TLOn
  else
  if 0x44 ≤ off ∧ off < 0xc4 ∧ (off - 0x44) % 0x10 = 0 then [⟨31, 0, rw, 0, por⟩] -- ACT_THIn
  else
  if 0x48 ≤ off ∧ off < 0xc8 ∧ (off - 0x48) % 0x10 = 0 then [⟨31, 31, w1s, 0, por⟩, ⟨30, 30, wo, 0, por⟩, ⟨26, 24, ro, 0, por⟩, ⟨7, 4, rw, 0, por⟩, ⟨3, 0, rw, 0, por⟩] -- ACT_CTRLn
  else
  match off with
  | 0x000 => [⟨9, 9, w1s, 0, por⟩, ⟨8, 8, rw, 0, kept⟩, ⟨3, 2, rw, 0, kept⟩, ⟨1, 1, rw, 0, kept⟩, ⟨0, 0, rw, 0, kept⟩] -- CTRL
  | 0x004 => [⟨31, 0, rw, 0, kept⟩] -- SET_LO
  | 0x008 => [⟨31, 0, rw, 0, kept⟩] -- SET_HI
  | 0x00c => [⟨1, 1, wo, 0, por⟩, ⟨0, 0, wo, 0, por⟩] -- CMD
  | 0x010 => [⟨31, 0, ro, 0, kept⟩] -- SNAP_LO
  | 0x014 => [⟨31, 0, ro, 0, kept⟩] -- SNAP_HI
  | 0x018 => [⟨15, 8, ro, 0, kept⟩, ⟨6, 6, ro, 0, por⟩, ⟨5, 5, ro, 0, kept⟩, ⟨4, 4, w1c, 0, kept⟩, ⟨1, 0, ro, 0, kept⟩] -- STAT
  | 0x01c => [⟨31, 0, ro, 0, kept⟩] -- RATE
  | 0x020 => [⟨31, 0, ro, 0, kept⟩] -- PHASE_ERR
  | 0x024 => [⟨31, 0, ro, 0, kept⟩] -- DRIFT
  | 0x028 => [⟨31, 0, ro, 0, kept⟩] -- PPS_LO
  | 0x02c => [⟨31, 0, ro, 0, kept⟩] -- PPS_HI
  | _ => []

/-- Fields of block SNS by offset (tables 7.5 to 7.16). -/
def snsFields (off : Nat) : List FieldD :=
  if 0x4 ≤ off ∧ off < 0x24 ∧ (off - 0x4) % 0x4 = 0 then [⟨17, 16, rw, 0, img⟩, ⟨11, 8, rw, 0, img⟩, ⟨5, 4, rw, 0, img⟩, ⟨2, 0, rw, 0, img⟩] -- SDCHn
  else
  if 0x24 ≤ off ∧ off < 0x44 ∧ (off - 0x24) % 0x4 = 0 then [⟨31, 16, rw, 0, img⟩, ⟨15, 0, rw, 0, img⟩] -- FTHRn
  else
  if 0x48 ≤ off ∧ off < 0x88 ∧ (off - 0x48) % 0x4 = 0 then [⟨30, 29, rw, 0, img⟩, ⟨28, 24, rw, 0, img⟩, ⟨22, 21, rw, 0, img⟩, ⟨20, 16, rw, 0, img⟩, ⟨14, 13, rw, 0, img⟩, ⟨12, 8, rw, 0, img⟩, ⟨6, 5, rw, 0, img⟩, ⟨4, 0, rw, 0, img⟩] -- SEQn
  else
  if 0xa0 ≤ off ∧ off < 0xc8 ∧ (off - 0xa0) % 0x4 = 0 then [⟨31, 16, rw, 0, otp⟩, ⟨15, 0, rw, 0, otp⟩] -- CALn
  else
  if 0xc8 ≤ off ∧ off < 0xe0 ∧ (off - 0xc8) % 0x4 = 0 then [⟨31, 16, ro, 0, por⟩, ⟨15, 0, ro, 0, por⟩] -- DTDn
  else
  match off with
  | 0x000 => [⟨22, 16, rw, 0, img⟩, ⟨6, 0, rw, 0, img⟩] -- SDCLK
  | 0x044 => [⟨27, 24, ro, 0, por⟩, ⟨19, 16, rw, 0, img⟩, ⟨15, 12, rw, 0, img⟩, ⟨11, 8, rw, 0, img⟩, ⟨7, 4, rw, 0, img⟩, ⟨3, 0, rw, 0, img⟩] -- SAR_WIN
  | 0x088 => [⟨29, 25, rw, 0, img⟩, ⟨24, 20, rw, 0, img⟩, ⟨19, 15, rw, 0, img⟩, ⟨14, 10, rw, 0, img⟩, ⟨9, 5, rw, 0, img⟩, ⟨4, 0, rw, 0, img⟩] -- MAP_A
  | 0x08c => [⟨29, 25, rw, 0, img⟩, ⟨24, 20, rw, 0, img⟩, ⟨19, 15, rw, 0, img⟩, ⟨14, 10, rw, 0, img⟩, ⟨9, 5, rw, 0, img⟩, ⟨4, 0, rw, 0, img⟩] -- MAP_B
  | 0x090 => [⟨3, 2, rw, 0, img⟩, ⟨1, 0, rw, 0, img⟩] -- TOPO
  | 0x094 => [⟨23, 16, w1c, 0, por⟩, ⟨15, 8, w1c, 0, por⟩, ⟨6, 6, w1c, 0, por⟩, ⟨5, 5, w1c, 0, por⟩, ⟨4, 4, w1c, 0, por⟩, ⟨3, 3, w1c, 0, por⟩, ⟨2, 2, w1c, 0, por⟩, ⟨1, 1, w1c, 0, por⟩] -- STAT
  | 0x098 => [⟨31, 24, ro, 0, por⟩, ⟨23, 16, ro, 0, por⟩, ⟨15, 0, ro, 0, por⟩] -- CNT_A
  | 0x09c => [⟨31, 24, ro, 0, por⟩, ⟨23, 16, ro, 0, por⟩, ⟨15, 0, ro, 0, por⟩] -- CNT_B
  | 0x0e0 => [⟨2, 2, wo, 0, por⟩, ⟨1, 1, wo, 0, por⟩, ⟨0, 0, wo, 0, por⟩] -- CNT_CLR
  | _ => []

/-- Fields of block HAH by offset (tables 8.5 to 8.15). -/
def hahFields (off : Nat) : List FieldD :=
  if 0x0 ≤ off ∧ off < 0x30 ∧ (off - 0x0) % 0x4 = 0 then [⟨19, 18, rw, 0, img⟩, ⟨17, 16, rw, 0, img⟩, ⟨15, 10, rw, 0, img⟩, ⟨9, 5, rw, 0, img⟩, ⟨4, 0, rw, 0, img⟩] -- CMPn
  else
  if 0x30 ≤ off ∧ off < 0x60 ∧ (off - 0x30) % 0x4 = 0 then [⟨27, 16, rw, 0, img⟩, ⟨11, 0, rw, 0, img⟩] -- THRn
  else
  match off with
  | 0x060 => [⟨27, 16, rw, 0, img⟩, ⟨7, 0, rw, 0, img⟩] -- RAMP_A
  | 0x064 => [⟨27, 16, rw, 0, img⟩, ⟨7, 0, rw, 0, img⟩] -- RAMP_B
  | 0x068 => [⟨11, 0, ro, 0xfff, por⟩] -- STATE
  | 0x06c => [⟨27, 16, w1c, 0, por⟩, ⟨11, 0, w1c, 0, por⟩] -- STICKY
  | 0x070 => [⟨15, 8, rw, 0, img⟩, ⟨0, 0, rw, 0, img⟩] -- RB_CFG
  | 0x074 => [⟨31, 24, ro, 0, por⟩, ⟨23, 0, w1c, 0, por⟩] -- RB_STAT
  | 0x078 => [⟨31, 16, ro, 0, por⟩, ⟨15, 0, ro, 0, por⟩] -- CBC_CNT
  | 0x080 => [⟨10, 8, rw, 0, img⟩, ⟨7, 0, rw, 0, img⟩] -- HALL_CFG_A
  | 0x084 => [⟨10, 8, rw, 0, img⟩, ⟨7, 0, rw, 0, img⟩] -- HALL_CFG_B
  | 0x088 => [⟨31, 24, ro, 0, por⟩, ⟨23, 16, ro, 0, por⟩, ⟨9, 9, w1c, 0, por⟩, ⟨8, 8, w1c, 0, por⟩, ⟨7, 7, ro, 1, por⟩, ⟨6, 4, ro, 7, por⟩, ⟨2, 0, ro, 0, por⟩] -- HALL_ST_A
  | 0x08c => [⟨31, 24, ro, 0, por⟩, ⟨23, 16, ro, 0, por⟩, ⟨9, 9, w1c, 0, por⟩, ⟨8, 8, w1c, 0, por⟩, ⟨7, 7, ro, 1, por⟩, ⟨6, 4, ro, 7, por⟩, ⟨2, 0, ro, 0, por⟩] -- HALL_ST_B
  | 0x090 => [⟨8, 6, rw, 0, img⟩, ⟨5, 5, rw, 0, img⟩, ⟨4, 4, rw, 0, img⟩, ⟨3, 0, rw, 0, img⟩] -- ENC_CFG_A
  | 0x094 => [⟨8, 6, rw, 0, img⟩, ⟨5, 5, rw, 0, img⟩, ⟨4, 4, rw, 0, img⟩, ⟨3, 0, rw, 0, img⟩] -- ENC_CFG_B
  | 0x098 => [⟨31, 0, ro, 0, por⟩] -- ENC_CNT_A
  | 0x09c => [⟨31, 0, ro, 0, por⟩] -- ENC_CNT_B
  | 0x0a0 => [⟨31, 16, ro, 0, por⟩, ⟨15, 8, ro, 0, por⟩, ⟨3, 3, w1c, 0, por⟩, ⟨2, 2, w1c, 0, por⟩, ⟨1, 1, ro, 0, por⟩, ⟨0, 0, ro, 0, por⟩] -- ENC_ST_A
  | 0x0a4 => [⟨31, 16, ro, 0, por⟩, ⟨15, 8, ro, 0, por⟩, ⟨3, 3, w1c, 0, por⟩, ⟨2, 2, w1c, 0, por⟩, ⟨1, 1, ro, 0, por⟩, ⟨0, 0, ro, 0, por⟩] -- ENC_ST_B
  | 0x0a8 => [⟨5, 5, wo, 0, por⟩, ⟨4, 4, wo, 0, por⟩, ⟨3, 3, wo, 0, por⟩, ⟨2, 2, wo, 0, por⟩, ⟨1, 1, wo, 0, por⟩, ⟨0, 0, wo, 0, por⟩] -- CNT_CLR
  | _ => []

/-- Fields of block MC by offset (tables 1.3, 9.8 to 9.13, 10.10 to 10.16, 11.10 to 11.17, 12.7 to 12.12). -/
def mcFields (off : Nat) : List FieldD :=
  if 0x200 ≤ off ∧ off < 0x440 ∧ (off - 0x200) % 0x40 < 0x28 ∧ off % 4 = 0 then [⟨31, 0, rws, 0, img⟩] -- compensator banks B0 to HI
  else
  if 0x228 ≤ off ∧ off < 0x468 ∧ (off - 0x228) % 0x40 = 0 then [⟨31, 0, ro, 0, por⟩] -- C_X_INn
  else
  if 0x22c ≤ off ∧ off < 0x46c ∧ (off - 0x22c) % 0x40 = 0 then [⟨31, 0, ro, 0, por⟩] -- C_X_OUTn
  else
  match off with
  | 0x000 => [⟨15, 8, wo, 0, por⟩, ⟨3, 0, wo, 0, por⟩] -- CMD
  | 0x004 => [⟨9, 9, rws, 0, img⟩, ⟨8, 8, rws, 0, img⟩, ⟨7, 7, rws, 0, img⟩, ⟨6, 6, rws, 0, img⟩, ⟨5, 5, rws, 0, img⟩, ⟨4, 4, rws, 0, img⟩, ⟨3, 3, rws, 0, img⟩, ⟨2, 2, rws, 0, img⟩, ⟨1, 1, rws, 0, img⟩, ⟨0, 0, rws, 0, img⟩] -- OWN
  | 0x008 => [⟨31, 24, ro, 0, por⟩, ⟨23, 20, ro, 0, por⟩, ⟨19, 18, ro, 0, por⟩, ⟨15, 12, ro, 0, por⟩, ⟨11, 11, ro, 0, por⟩, ⟨10, 10, ro, 0, por⟩, ⟨9, 9, ro, 0, por⟩, ⟨8, 8, ro, 0, por⟩, ⟨3, 0, ro, 0, por⟩] -- STATE
  | 0x00c => [⟨8, 8, rw, 0, img⟩, ⟨7, 7, rw, 0, img⟩, ⟨6, 6, rw, 0, img⟩, ⟨5, 5, rw, 0, img⟩, ⟨4, 3, rw, 0, img⟩, ⟨2, 1, rw, 0, img⟩, ⟨0, 0, rw, 0, img⟩] -- MODE
  | 0x010 => [⟨31, 0, rw, 0, img⟩] -- SPD_SET
  | 0x014 => [⟨31, 0, rw, 0, img⟩] -- TRQ_SET
  | 0x018 => [⟨31, 0, ro, 0, por⟩] -- SPD_ACT
  | 0x01c => [⟨31, 31, ro, 0, por⟩, ⟨27, 24, ro, 0, por⟩, ⟨15, 8, w1c, 0, por⟩] -- LIMIT
  | 0x020 => [⟨31, 0, ro, 0, por⟩] -- FW_ONSET
  | 0x024 => [⟨31, 0, ro, 0, por⟩] -- MOD
  | 0x028 => [⟨31, 0, ro, 0, por⟩] -- ASC_SPD
  | 0x02c => [⟨31, 0, ro, 0, kept⟩] -- E_MOT
  | 0x030 => [⟨31, 0, ro, 0, kept⟩] -- E_REGEN
  | 0x034 => [⟨31, 0, ro, 0, kept⟩] -- RUNTIME
  | 0x038 => [⟨31, 0, ro, 0, kept⟩] -- STARTS
  | 0x03c => [⟨31, 16, wo, 0, por⟩, ⟨3, 3, wo, 0, por⟩, ⟨2, 2, wo, 0, por⟩, ⟨1, 1, wo, 0, por⟩, ⟨0, 0, wo, 0, por⟩] -- CNT_CLR
  | 0x040 => [⟨31, 0, ro, 0, por⟩] -- X_OMEGA
  | 0x044 => [⟨31, 0, ro, 0, por⟩] -- X_THETA
  | 0x048 => [⟨31, 0, rw, 0, por⟩] -- X_ID_FW
  | 0x04c => [⟨31, 0, rw, 0, img⟩] -- X_FW_KI
  | 0x050 => [⟨31, 0, rw, 0, img⟩] -- X_FW_IDMIN
  | 0x054 => [⟨31, 0, rw, 0, img⟩] -- X_FW_MODMAX
  | 0x100 => [⟨27, 26, ro, 0, por⟩, ⟨25, 25, ro, 0, por⟩, ⟨24, 24, ro, 0, por⟩, ⟨23, 23, ro, 0, por⟩, ⟨22, 22, ro, 0, por⟩, ⟨21, 19, ro, 0, por⟩, ⟨15, 0, ro, 0, por⟩] -- BLV_STAT
  | 0x104 => [⟨31, 31, wo, 0, por⟩, ⟨5, 5, rw, 0, img⟩, ⟨4, 4, rw, 0, img⟩, ⟨3, 3, rw, 0, img⟩, ⟨2, 2, rw, 0, img⟩, ⟨1, 0, rw, 0, img⟩] -- BLV_CTRL
  | 0x108 => [⟨6, 6, w1c, 0, por⟩, ⟨5, 5, w1c, 0, por⟩, ⟨4, 4, w1c, 0, por⟩, ⟨3, 3, w1c, 0, por⟩, ⟨2, 2, w1c, 0, por⟩, ⟨1, 1, w1c, 0, por⟩, ⟨0, 0, w1c, 0, por⟩] -- BLV_EVT
  | 0x10c => [⟨31, 24, ro, 0, por⟩, ⟨23, 16, ro, 0, por⟩, ⟨15, 8, ro, 0, por⟩, ⟨7, 0, ro, 0, por⟩] -- BLV_CNT
  | 0x110 => [⟨15, 12, ro, 0, por⟩, ⟨11, 8, ro, 0, por⟩, ⟨2, 0, ro, 0, por⟩] -- START_DIAG
  | 0x114 => [⟨23, 16, rw, 0, por⟩, ⟨6, 6, rw, 0, por⟩, ⟨5, 5, rw, 0, por⟩, ⟨4, 1, rw, 0, por⟩, ⟨0, 0, rw, 0, por⟩] -- ID_CTRL
  | 0x118 => [⟨31, 28, ro, 0, por⟩, ⟨27, 24, ro, 0, por⟩, ⟨0, 0, ro, 0, por⟩] -- ID_STAT
  | 0x11c => [⟨31, 0, ro, 0, por⟩] -- X_THETA_B
  | 0x120 => [⟨31, 0, ro, 0, por⟩] -- X_THETA_F
  | 0x124 => [⟨31, 0, ro, 0, por⟩] -- X_THETA_H
  | 0x128 => [⟨31, 0, ro, 0, por⟩] -- X_DISAGREE
  | 0x12c => [⟨31, 0, ro, 0, por⟩] -- X_RESID
  | 0x130 => [⟨31, 0, ro, 0, por⟩] -- X_TLOAD
  | 0x134 => [⟨31, 0, rw, 0, img⟩] -- X_PLL_KP
  | 0x138 => [⟨31, 0, rw, 0, img⟩] -- X_PLL_KI
  | 0x13c => [⟨31, 0, rw, 0, img⟩] -- X_DIS_BAND
  | 0x140 => [⟨31, 0, rw, 0, img⟩] -- X_RES_BAND
  | 0x144 => [⟨31, 0, ro, 0, por⟩] -- ID_RS
  | 0x148 => [⟨31, 0, ro, 0, por⟩] -- ID_LD0
  | 0x14c => [⟨31, 0, ro, 0, por⟩] -- ID_LQ0
  | 0x150 => [⟨31, 0, ro, 0, por⟩] -- ID_PSI
  | 0x154 => [⟨31, 0, ro, 0, por⟩] -- ID_J
  | 0x158 => [⟨31, 0, ro, 0, por⟩] -- ID_TLOAD
  | 0x15c => [⟨31, 0, ro, 0, por⟩] -- ID_TEMP
  | 0x440 => [⟨3, 0, w1s, 0, por⟩] -- SWAP
  | 0x444 => [⟨27, 24, w1c, 0, por⟩, ⟨23, 20, ro, 0, por⟩, ⟨19, 16, ro, 0, por⟩, ⟨8, 0, ro, 0, por⟩] -- SWAP_STAT
  | 0x448 => [⟨26, 18, ro, 0, img⟩, ⟨17, 0, rw, 0, img⟩] -- CMP_GRP
  | 0x44c => [⟨0, 0, rw, 0, img⟩] -- CUR_CTRL
  | 0x450 => [⟨5, 5, rw, 0, img⟩, ⟨4, 4, rw, 0, img⟩, ⟨3, 3, ro, 1, por⟩, ⟨2, 2, rw, 0, img⟩, ⟨1, 1, rw, 0, img⟩, ⟨0, 0, ro, 1, por⟩] -- LOOP_EN
  | 0x454 => [⟨29, 24, ro, 0, img⟩, ⟨23, 18, ro, 0, img⟩, ⟨17, 12, ro, 0, img⟩, ⟨11, 6, ro, 0, img⟩, ⟨5, 0, ro, 0, img⟩] -- LOOP_DIV
  | 0x458 => [⟨5, 5, ro, 0, por⟩, ⟨4, 4, ro, 0, por⟩, ⟨2, 0, ro, 0, por⟩] -- SEL_STAT
  | 0x45c => [⟨8, 0, w1c, 0, por⟩] -- CMP_SAT
  | 0x460 => [⟨31, 0, ro, 0, por⟩] -- X_DEM_SP
  | 0x464 => [⟨31, 0, ro, 0, por⟩] -- X_LIM_BV
  | 0x468 => [⟨31, 0, ro, 0, por⟩] -- X_LIM_PW
  | 0x46c => [⟨31, 0, ro, 0, por⟩] -- X_LIM_IM
  | 0x470 => [⟨31, 0, ro, 0, por⟩] -- X_LIM_TH
  | 0x474 => [⟨31, 0, ro, 0, por⟩] -- X_LIM_TT
  | 0x478 => [⟨31, 0, ro, 0, por⟩] -- X_IM_PRE
  | 0x47c => [⟨31, 0, ro, 0, por⟩] -- X_IQ_REF
  | 0x480 => [⟨31, 0, ro, 0, por⟩] -- X_ID_REF
  | 0x484 => [⟨31, 0, ro, 0, por⟩] -- X_T_MOD
  | 0x500 => [⟨2, 2, ro, 0, por⟩, ⟨1, 1, ro, 0, por⟩, ⟨0, 0, ro, 0, por⟩] -- PRM_STAT
  | 0x504 => [⟨31, 0, ro, 0, por⟩] -- SPD_REF
  | 0x508 => [⟨31, 0, ro, 0, por⟩] -- X_OMEGA_REF
  | 0x50c => [⟨31, 0, ro, 0, por⟩] -- X_ACC_REF
  | 0x510 => [⟨31, 0, rw, 0, img⟩] -- X_ACC_MAX
  | 0x514 => [⟨31, 0, rw, 0, img⟩] -- X_DEC_MAX
  | 0x518 => [⟨31, 0, rw, 0, img⟩] -- X_JERK_MAX
  | 0x51c => [⟨31, 0, rw, 0, por⟩] -- POS_SET_T
  | 0x520 => [⟨31, 0, rw, 0, por⟩] -- POS_SET_F
  | 0x524 => [⟨31, 0, ro, 0, por⟩] -- POS_REF_T
  | 0x528 => [⟨31, 0, ro, 0, por⟩] -- POS_REF_F
  | 0x52c => [⟨31, 0, ro, 0, por⟩] -- POS_ACT_T
  | 0x530 => [⟨31, 0, ro, 0, por⟩] -- POS_ACT_F
  | 0x534 => [⟨0, 0, wo, 0, por⟩] -- PRM_CTRL
  | 0x580 => [⟨27, 20, rw, 0, por⟩, ⟨15, 12, rw, 0, por⟩, ⟨6, 6, rw, 0, por⟩, ⟨5, 4, rw, 0, por⟩, ⟨2, 0, rw, 0, por⟩] -- FOL_CFG
  | 0x584 => [⟨23, 16, rw, 0, por⟩, ⟨15, 8, rw, 0, por⟩, ⟨7, 0, rw, 0, por⟩] -- FOL_CNT
  | 0x588 => [⟨31, 0, rw, 0, por⟩] -- FOL_AMP
  | 0x58c => [⟨31, 0, rw, 0, por⟩] -- FOL_F0
  | 0x590 => [⟨31, 0, rw, 0, por⟩] -- FOL_F1
  | 0x594 => [⟨31, 0, rw, 0, por⟩] -- FOL_DUR
  | 0x598 => [⟨1, 1, wo, 0, por⟩, ⟨0, 0, w1s, 0, por⟩] -- FOL_CTRL
  | 0x59c => [⟨31, 16, ro, 0, por⟩, ⟨11, 8, ro, 0, por⟩, ⟨7, 4, ro, 0, por⟩, ⟨0, 0, ro, 0, por⟩] -- FOL_STAT
  | 0x5a0 => [⟨31, 0, ro, 0, por⟩] -- X_FOL_VAL
  | 0x5c0 => [⟨31, 24, rw, 0, por⟩, ⟨23, 16, rw, 0, por⟩, ⟨15, 12, rw, 0, por⟩, ⟨11, 9, rw, 0, por⟩, ⟨8, 8, rw, 0, por⟩, ⟨7, 6, rw, 0, por⟩] -- CAP_CFG
  | 0x5c4 => [⟨31, 0, rw, 0, por⟩] -- CAP_SEL_LO
  | 0x5c8 => [⟨31, 0, rw, 0, por⟩] -- CAP_SEL_HI
  | 0x5cc => [⟨23, 0, rw, 0, por⟩] -- CAP_BASE
  | 0x5d0 => [⟨31, 16, rw, 0, por⟩, ⟨15, 0, rw, 0, por⟩] -- CAP_NSAMP
  | 0x5d4 => [⟨2, 2, wo, 0, por⟩, ⟨1, 1, wo, 0, por⟩, ⟨0, 0, w1s, 0, por⟩] -- CAP_CTRL
  | 0x5d8 => [⟨31, 16, ro, 0, por⟩, ⟨11, 8, ro, 0, por⟩, ⟨7, 4, ro, 0, por⟩, ⟨1, 1, ro, 0, por⟩, ⟨0, 0, ro, 0, por⟩] -- CAP_STAT
  | 0x5dc => [⟨16, 0, ro, 0, por⟩] -- CAP_COUNT
  | 0x5e0 => [⟨16, 0, ro, 0, por⟩] -- CAP_START
  | _ => []

/-- Fields of block TR by offset (tables 13.7 to 13.19 and 14.6 to 14.13). -/
def trFields (off : Nat) : List FieldD :=
  match off with
  | 0x000 => [⟨8, 4, rw, 0, img⟩, ⟨3, 3, rw, 0, img⟩, ⟨2, 1, rw, 0, img⟩, ⟨0, 0, rw, 0, img⟩] -- CFG
  | 0x004 => [⟨24, 19, w1c, 0, por⟩, ⟨18, 13, ro, 0, por⟩, ⟨12, 12, w1c, 0, por⟩, ⟨11, 11, w1c, 0, por⟩, ⟨10, 10, w1c, 0, por⟩, ⟨9, 7, w1c, 0, por⟩, ⟨6, 4, ro, 7, por⟩, ⟨1, 1, ro, 0, por⟩, ⟨0, 0, ro, 0, por⟩] -- STAT
  | 0x008 => [⟨27, 16, rw, 0, img⟩, ⟨11, 0, rw, 0, img⟩] -- EDGE0
  | 0x00c => [⟨27, 16, rw, 0, img⟩, ⟨11, 0, rw, 0, img⟩] -- EDGE1
  | 0x010 => [⟨27, 16, rw, 0, img⟩, ⟨11, 0, rw, 0, img⟩] -- EDGE2
  | 0x014 => [⟨29, 24, rw, 0, img⟩, ⟨21, 16, rw, 0, img⟩, ⟨13, 8, rw, 0, img⟩, ⟨5, 0, rw, 0, img⟩] -- STR0
  | 0x018 => [⟨29, 24, rw, 0, img⟩, ⟨21, 16, rw, 0, img⟩, ⟨13, 8, rw, 0, img⟩, ⟨5, 0, rw, 0, img⟩] -- STR1
  | 0x01c => [⟨29, 24, rw, 0, img⟩, ⟨21, 16, rw, 0, img⟩, ⟨13, 8, rw, 0, img⟩, ⟨5, 0, rw, 0, img⟩] -- STR2
  | 0x020 => [⟨13, 8, rw, 0, img⟩, ⟨5, 0, rw, 0, img⟩] -- STR_BK
  | 0x024 => [⟨29, 24, rw, 0, img⟩, ⟨21, 16, rw, 0, img⟩, ⟨13, 8, rw, 0, img⟩, ⟨5, 0, rw, 0, img⟩] -- STR_LIM
  | 0x028 => [⟨29, 24, rw, 0, img⟩, ⟨21, 16, rw, 0, img⟩, ⟨13, 8, rw, 0, img⟩, ⟨5, 0, rw, 0, img⟩] -- BAND0
  | 0x02c => [⟨29, 24, rw, 0, img⟩, ⟨21, 16, rw, 0, img⟩, ⟨13, 8, rw, 0, img⟩, ⟨5, 0, rw, 0, img⟩] -- BAND1
  | 0x030 => [⟨29, 24, rw, 0, img⟩, ⟨21, 16, rw, 0, img⟩, ⟨13, 8, rw, 0, img⟩, ⟨5, 0, rw, 0, img⟩] -- BAND2
  | 0x034 => [⟨29, 24, rw, 0, img⟩, ⟨21, 16, rw, 0, img⟩, ⟨13, 8, rw, 0, img⟩, ⟨5, 0, rw, 0, img⟩] -- BAND3
  | 0x038 => [⟨29, 24, rw, 0, img⟩, ⟨21, 16, rw, 0, img⟩, ⟨13, 8, rw, 0, img⟩, ⟨5, 0, rw, 0, img⟩] -- BAND4
  | 0x03c => [⟨29, 24, rw, 0, img⟩, ⟨23, 16, rw, 0, img⟩, ⟨15, 8, rw, 0, img⟩, ⟨7, 0, rw, 0, img⟩] -- REF_CFG
  | 0x040 => [⟨31, 16, ro, 0, por⟩, ⟨15, 0, ro, 0, por⟩] -- REF_STAT
  | 0x044 => [⟨31, 24, ro, 0, por⟩, ⟨23, 16, ro, 0, por⟩, ⟨15, 8, ro, 0, por⟩, ⟨7, 0, ro, 0, por⟩] -- VBS
  | 0x048 => [⟨23, 16, ro, 0, por⟩, ⟨15, 8, ro, 0, por⟩, ⟨7, 0, ro, 0, por⟩] -- ILK_CNT
  | 0x04c => [⟨15, 0, ro, 0, por⟩] -- LINK_CNT
  | 0x050 => [⟨31, 16, ro, 0, por⟩, ⟨15, 0, ro, 0, por⟩] -- LAST0
  | 0x054 => [⟨31, 16, ro, 0, por⟩, ⟨15, 0, ro, 0, por⟩] -- LAST1
  | 0x058 => [⟨31, 16, ro, 0, por⟩, ⟨15, 0, ro, 0, por⟩] -- LAST2
  | 0x05c => [⟨2, 2, wo, 0, por⟩, ⟨1, 1, wo, 0, por⟩, ⟨0, 0, wo, 0, por⟩] -- CNT_CLR
  | 0x100 => [⟨27, 24, rw, 0, img⟩, ⟨21, 16, rw, 0, img⟩, ⟨14, 8, rw, 0, img⟩, ⟨6, 0, rw, 0, img⟩] -- DS_CFG
  | 0x104 => [⟨21, 16, rw, 0, img⟩, ⟨15, 8, rw, 0, img⟩, ⟨2, 2, rw, 0, img⟩, ⟨1, 0, rw, 0, img⟩] -- SAFE_CFG
  | 0x108 => [⟨25, 16, rw, 0, img⟩, ⟨15, 4, rw, 0, img⟩, ⟨3, 0, rw, 0, img⟩] -- RETRY
  | 0x10c => [⟨31, 24, ro, 0, por⟩, ⟨20, 20, ro, 0, por⟩, ⟨19, 16, ro, 0, por⟩, ⟨9, 9, ro, 0, por⟩, ⟨8, 8, ro, 0, por⟩, ⟨6, 4, ro, 0, por⟩, ⟨2, 0, ro, 0, por⟩] -- SAFE_STAT
  | 0x110 => [⟨22, 16, ro, 0, por⟩, ⟨14, 8, w1c, 0, por⟩, ⟨6, 0, w1c, 0, por⟩] -- DS_STAT
  | 0x114 => [⟨23, 16, ro, 0, por⟩, ⟨2, 2, ro, 0, por⟩, ⟨1, 0, ro, 0, por⟩] -- CSC_STAT
  | 0x118 => [⟨31, 16, ro, 0, por⟩, ⟨15, 0, ro, 0, por⟩] -- DS_CNT
  | 0x11c => [⟨2, 2, wo, 0, por⟩, ⟨1, 1, wo, 0, por⟩, ⟨0, 0, wo, 0, por⟩] -- PROT_CLR
  | _ => []

/-- Fields of block LDG by offset (tables 15.6 to 15.12). -/
def ldgFields (off : Nat) : List FieldD :=
  if 0x10 ≤ off ∧ off < 0x28 ∧ (off - 0x10) % 0x4 = 0 then [⟨31, 0, w1c, 0, por⟩] -- STn
  else
  if 0x30 ≤ off ∧ off < 0x48 ∧ (off - 0x30) % 0x4 = 0 then [⟨31, 0, ro, 0, por⟩] -- CAUSEn
  else
  if 0x200 ≤ off ∧ off < 0x400 ∧ (off - 0x200) % 0x4 = 0 then [⟨8, 8, rw, 0, img⟩, ⟨7, 4, ro, 0, img⟩, ⟨3, 3, ro, 0, img⟩, ⟨2, 2, ro, 0, img⟩, ⟨1, 1, rw, 0, img⟩, ⟨0, 0, rw, 0, img⟩] -- ROUTEn
  else
  if 0x400 ≤ off ∧ off < 0x800 ∧ (off - 0x400) % 0x4 = 0 then [⟨31, 0, ro, 0, kept⟩] -- LOGn
  else
  match off with
  | 0x000 => [⟨9, 9, ro, 0, por⟩, ⟨8, 8, ro, 0, por⟩, ⟨5, 5, ro, 0, por⟩, ⟨4, 4, ro, 0, por⟩, ⟨3, 3, ro, 0, por⟩, ⟨2, 2, ro, 0, por⟩, ⟨1, 1, ro, 0, por⟩, ⟨0, 0, ro, 0, por⟩] -- SUMMARY
  | 0x004 => [⟨3, 3, rw, 0, por⟩, ⟨2, 2, rw, 1, por⟩, ⟨1, 1, rw, 1, por⟩, ⟨0, 0, rw, 1, por⟩] -- FLT_CFG
  | 0x008 => [⟨1, 1, ro, 0, kept⟩, ⟨0, 0, ro, 0, kept⟩] -- LOCKOUT
  | 0x00c => [⟨15, 0, ro, 0, kept⟩] -- REPEAT
  | 0x050 => [⟨31, 16, ro, 0, kept⟩, ⟨15, 8, ro, 0, kept⟩, ⟨6, 0, ro, 0, kept⟩] -- LOG_STAT
  | 0x054 => [⟨31, 16, wo, 0, por⟩, ⟨0, 0, wo, 0, por⟩] -- LOG_CLR
  | 0x060 => [⟨31, 0, w1c, 0, por⟩] -- EVT_PEND0
  | 0x064 => [⟨31, 0, w1c, 0, por⟩] -- EVT_PEND1
  | 0x068 => [⟨31, 0, w1c, 0, por⟩] -- EVT_PEND2
  | 0x06c => [⟨31, 0, w1c, 0, por⟩] -- EVT_PEND3
  | 0x070 => [⟨1, 1, ro, 0, por⟩, ⟨0, 0, ro, 0, por⟩] -- IRQ_STAT
  | _ => []

/-- Fields of block ORG by offset (tables 16.5 to 16.10). -/
def orgFields (off : Nat) : List FieldD :=
  match off with
  | 0x000 => [⟨18, 16, ro, 0, kept⟩, ⟨15, 0, ro, 0, kept⟩] -- TJ
  | 0x004 => [⟨8, 8, ro, 0, por⟩, ⟨7, 7, ro, 0, por⟩, ⟨6, 6, ro, 0, por⟩, ⟨5, 5, w1c, 0, por⟩, ⟨4, 4, w1c, 0, por⟩, ⟨1, 1, ro, 0, por⟩, ⟨0, 0, ro, 0, por⟩] -- STAT
  | 0x008 => [⟨25, 25, rw, 0, img⟩, ⟨24, 24, rw, 0, img⟩, ⟨23, 16, rw, 0, img⟩, ⟨11, 8, rw, 0, img⟩, ⟨7, 0, rw, 0, img⟩] -- THR_CFG
  | 0x00c => [⟨16, 16, rw, 0, img⟩, ⟨15, 8, rw, 0, img⟩, ⟨7, 0, rw, 0, img⟩] -- RISE_CFG
  | 0x010 => [⟨15, 8, rw, 0, img⟩, ⟨7, 0, rw, 0, img⟩] -- CRED
  | 0x014 => [⟨31, 0, ro, 0, por⟩] -- RATE
  | 0x018 => [⟨31, 16, ro, 0, por⟩, ⟨15, 0, ro, 0, por⟩] -- DRV_EST
  | 0x01c => [⟨7, 0, rw, 0, img⟩] -- DRV_CFG
  | 0x020 => [⟨15, 0, rw, 0, otp⟩] -- CAL
  | 0x028 => [⟨0, 0, wo, 0, por⟩] -- CTRL
  | _ => []

/-- Fields of block GRT by offset (tables 17.5 to 17.9). -/
def grtFields (off : Nat) : List FieldD :=
  if 0x100 ≤ off ∧ off < 0x300 ∧ (off - 0x100) % 0x4 = 0 then [⟨31, 0, ro, 0, otp⟩] -- ARRAYn
  else
  match off with
  | 0x000 => [⟨31, 24, ro, 0, otp⟩, ⟨23, 22, ro, 0, otp⟩, ⟨21, 21, ro, 0, otp⟩, ⟨19, 19, w1c, 0, por⟩, ⟨18, 18, w1c, 0, por⟩, ⟨17, 17, ro, 0, otp⟩, ⟨16, 16, ro, 0, otp⟩, ⟨12, 8, ro, 0, otp⟩, ⟨0, 0, ro, 0, por⟩] -- STAT
  | 0x004 => [⟨31, 24, ro, 0, otp⟩, ⟨23, 16, ro, 0, otp⟩, ⟨14, 8, ro, 0, otp⟩, ⟨6, 0, ro, 0, otp⟩] -- COUNT
  | 0x008 => [⟨31, 24, ro, 0, kept⟩, ⟨23, 16, ro, 0, kept⟩, ⟨15, 8, ro, 0, kept⟩, ⟨7, 0, ro, 0, kept⟩] -- PEND
  | 0x00c => [⟨31, 16, wo, 0, por⟩, ⟨15, 15, w1s, 0, por⟩, ⟨10, 8, wo, 0, por⟩, ⟨6, 0, wo, 0, por⟩] -- PROG
  | 0x010 => [⟨31, 0, rw, 0, por⟩] -- PROG_DATA
  | 0x014 => [⟨31, 28, ro, 0, por⟩, ⟨27, 27, ro, 0, por⟩, ⟨26, 26, ro, 0, por⟩, ⟨25, 21, ro, 0, por⟩, ⟨20, 14, ro, 0, por⟩, ⟨7, 0, ro, 0, por⟩] -- PROG_STAT
  | 0x018 => [⟨31, 24, ro, 0, por⟩, ⟨6, 0, ro, 0, por⟩] -- WEAK
  | 0x020 => [⟨31, 0, ro, 0, por⟩] -- RAW0
  | 0x024 => [⟨31, 0, ro, 0, por⟩] -- RAW1
  | 0x028 => [⟨31, 0, ro, 0, por⟩] -- RAW2
  | 0x02c => [⟨31, 0, ro, 0, por⟩] -- RAW3
  | _ => []

/-- Fields of block WKT by offset (tables 18.6 to 18.11). -/
def wktFields (off : Nat) : List FieldD :=
  match off with
  | 0x000 => [⟨12, 0, rw, 0x60, por⟩] -- LEN
  | 0x004 => [⟨25, 24, rw, 0, img⟩, ⟨21, 20, rw, 0, img⟩, ⟨16, 16, rw, 0, img⟩, ⟨9, 0, rw, 0, img⟩] -- HLT
  | 0x008 => [⟨31, 28, ro, 0, por⟩, ⟨27, 27, ro, 1, por⟩, ⟨26, 26, ro, 0, por⟩, ⟨25, 25, ro, 0, por⟩, ⟨8, 8, w1c, 0, por⟩, ⟨7, 7, w1c, 0, por⟩, ⟨6, 6, w1c, 0, por⟩, ⟨5, 5, w1c, 0, por⟩, ⟨4, 4, w1c, 0, por⟩, ⟨3, 3, w1c, 0, por⟩, ⟨2, 2, w1c, 0, por⟩, ⟨1, 1, w1c, 0, por⟩, ⟨0, 0, w1c, 0, por⟩] -- STAT
  | 0x00c => [⟨31, 24, ro, 0, por⟩, ⟨23, 16, ro, 0, por⟩, ⟨15, 8, ro, 0, por⟩, ⟨7, 0, ro, 0, por⟩] -- CNT
  | 0x010 => [⟨0, 0, wo, 0, por⟩] -- CNT_CLR
  | 0x014 => [⟨31, 28, ro, 0, por⟩, ⟨15, 0, ro, 0, por⟩] -- LAST_BAD
  | _ => []

/-- Fields of block ICE by offset (tables 19.4 to 19.9). -/
def iceFields (off : Nat) : List FieldD :=
  match off with
  | 0x000 => [⟨31, 24, ro, 0, por⟩, ⟨20, 16, ro, 0, por⟩, ⟨4, 4, ro, 0, por⟩, ⟨1, 0, ro, 0, por⟩] -- CFG
  | 0x004 => [⟨31, 0, ro, 0, por⟩] -- SIZE
  | 0x008 => [⟨31, 16, rw, 0, por⟩] -- WIN_BASE
  | 0x00c => [⟨2, 2, wo, 0, por⟩, ⟨1, 1, rw, 0, por⟩, ⟨0, 0, wo, 0, por⟩] -- CTRL
  | 0x010 => [⟨8, 8, w1c, 0, por⟩, ⟨1, 1, ro, 0, por⟩, ⟨0, 0, ro, 0, por⟩] -- STAT
  | 0x014 => [⟨31, 28, ro, 0, por⟩, ⟨27, 26, ro, 0, por⟩, ⟨23, 0, ro, 0, por⟩] -- ERR
  | 0x018 => [⟨31, 24, ro, 0, por⟩, ⟨23, 16, ro, 0, por⟩, ⟨15, 0, ro, 0, por⟩] -- CNT
  | _ => []

/-- Fields of block PGL by offset (tables 20.4 to 20.7). -/
def pglFields (off : Nat) : List FieldD :=
  if 0x100 ≤ off ∧ off < 0x300 ∧ (off - 0x100) % 0x20 = 0 then [⟨9, 4, rw, 0, img⟩, ⟨3, 2, rw, 0, img⟩, ⟨1, 1, ro, 0, img⟩, ⟨0, 0, ro, 0, img⟩] -- CH_CFGn
  else
  if 0x104 ≤ off ∧ off < 0x304 ∧ (off - 0x104) % 0x20 = 0 then [⟨23, 0, rw, 0, por⟩] -- CH_DESCn
  else
  if 0x108 ≤ off ∧ off < 0x308 ∧ (off - 0x108) % 0x20 = 0 then [⟨1, 1, wo, 0, por⟩, ⟨0, 0, wo, 0, por⟩] -- CH_CTRLn
  else
  if 0x10c ≤ off ∧ off < 0x30c ∧ (off - 0x10c) % 0x20 = 0 then [⟨15, 8, ro, 0, por⟩, ⟨7, 6, ro, 0, por⟩, ⟨5, 5, w1c, 0, por⟩, ⟨4, 4, w1c, 0, por⟩, ⟨3, 3, ro, 0, por⟩, ⟨2, 0, ro, 0, por⟩] -- CH_STATn
  else
  if 0x110 ≤ off ∧ off < 0x310 ∧ (off - 0x110) % 0x20 = 0 then [⟨23, 0, ro, 0, por⟩] -- CH_CURn
  else
  if 0x114 ≤ off ∧ off < 0x314 ∧ (off - 0x114) % 0x20 = 0 then [⟨23, 0, ro, 0, por⟩] -- CH_RESIDn
  else
  if 0x118 ≤ off ∧ off < 0x318 ∧ (off - 0x118) % 0x20 = 0 then [⟨23, 16, ro, 0, por⟩, ⟨15, 0, ro, 0, por⟩] -- CH_CNTn
  else
  match off with
  | 0x000 => [⟨31, 16, wo, 0, por⟩, ⟨0, 0, wo, 0, por⟩] -- CTRL
  | 0x004 => [⟨31, 16, ro, 0, por⟩, ⟨1, 1, ro, 0, por⟩, ⟨0, 0, ro, 0, por⟩] -- STAT
  | 0x008 => [⟨31, 30, ro, 0, por⟩, ⟨29, 29, ro, 0, por⟩, ⟨27, 24, ro, 0, por⟩, ⟨23, 0, ro, 0, por⟩] -- ERR
  | 0x00c => [⟨12, 0, ro, 0, img⟩] -- RING_CFG
  | 0x010 => [⟨23, 0, ro, 0, img⟩] -- RING_BASE
  | 0x014 => [⟨11, 0, ro, 0, por⟩] -- RING_WR
  | 0x018 => [⟨11, 0, rw, 0, por⟩] -- RING_RD
  | 0x01c => [⟨31, 16, ro, 0, por⟩, ⟨15, 0, ro, 0, por⟩] -- CNT
  | _ => []

/-- Fields of block STC by offset (tables 21.5 to 21.8). -/
def stcFields (off : Nat) : List FieldD :=
  if 0x40 ≤ off ∧ off < 0x6c ∧ (off - 0x40) % 0x4 = 0 then [⟨31, 16, ro, 0, por⟩, ⟨15, 8, ro, 0, por⟩, ⟨7, 4, ro, 0, por⟩, ⟨1, 0, ro, 0, por⟩] -- TSTATn
  else
  match off with
  | 0x000 => [⟨10, 0, w1s, 0, por⟩] -- REQ
  | 0x004 => [⟨10, 0, wo, 0, por⟩] -- CANCEL
  | 0x008 => [⟨31, 24, rw, 0, img⟩, ⟨23, 16, rw, 0, img⟩, ⟨15, 8, rw, 0, img⟩, ⟨1, 1, rw, 0, img⟩, ⟨0, 0, rw, 0, img⟩] -- BG_CFG
  | 0x00c => [⟨15, 8, rw, 0, otp⟩, ⟨7, 0, rw, 0, otp⟩] -- TRIM_A
  | 0x010 => [⟨15, 8, rw, 0, otp⟩, ⟨7, 0, rw, 0, otp⟩] -- TRIM_B
  | 0x014 => [⟨16, 16, ro, 0, por⟩, ⟨15, 0, ro, 0, por⟩] -- SCRUB_STAT
  | _ => []

/-- Fields of the register at a byte address of the 24-bit space (table 22.1); none where nothing is implemented. -/
def regFields (a : Nat) : List FieldD :=
  if a < 0x400000 ∨ 0x413000 ≤ a ∨ a % 4 ≠ 0 then []
  else
    match a / 0x1000 with
    | 0x400 => ghFields (a % 0x1000)
    | 0x401 => hbFields (a % 0x1000)
    | 0x402 => pwaFields (a % 0x1000)
    | 0x403 => pwFields (a % 0x1000)
    | 0x404 => sunFields (a % 0x1000)
    | 0x405 => snsFields (a % 0x1000)
    | 0x406 => hahFields (a % 0x1000)
    | 0x407 => mcFields (a % 0x1000)
    | 0x408 => mcFields (a % 0x1000)
    | 0x40A => trFields (a % 0x1000)
    | 0x40B => trFields (a % 0x1000)
    | 0x40C => ldgFields (a % 0x1000)
    | 0x40D => orgFields (a % 0x1000)
    | 0x40E => grtFields (a % 0x1000)
    | 0x40F => wktFields (a % 0x1000)
    | 0x410 => iceFields (a % 0x1000)
    | 0x411 => pglFields (a % 0x1000)
    | 0x412 => stcFields (a % 0x1000)
    | _ => []

/-- R655: a register address is implemented exactly when the block tables of the register map list it; PWA.PHASE is listed, with no
field of its own (R9). -/
def regImplemented (a : Nat) : Bool := !(regFields a).isEmpty || a == 0x402038

/-- The word whose fields hold the values `f` gives them; every other bit 0 (R9). -/
def fieldWord (fs : List FieldD) (f : FieldD → Nat) : Nat :=
  fs.foldr (fun d acc => acc + (f d % 2 ^ (d.hi + 1 - d.lo)) * 2 ^ d.lo) 0

/-- Ones in exactly the bits of the fields that satisfy `p`. -/
def fieldMask (fs : List FieldD) (p : FieldD → Bool) : BitVec 32 :=
  BitVec.ofNat 32 (fieldWord fs (fun d => if p d then 2 ^ 32 - 1 else 0))

/-- Value of a register after power-on reset (the Reset column, table 0.5); the POR value of a field marked img, otp or
latched is 0 until the boot gives it (log entry 4). -/
def regPor (a : Nat) : BitVec 32 := BitVec.ofNat 32 (fieldWord (regFields a) (·.por))

/-- Bits a warm reset leaves unchanged (table 0.5, "kept"; R72). -/
def keptMask (a : Nat) : BitVec 32 := fieldMask (regFields a) (fun d => d.warm == .kept)

end Sys2Proof.Machine
end

