-- ==== Sys2Proof/Machine/State.lean ====
section
/-! DEFINITION. The state of the block, as plain data: the registers (active and shadow copies, keyed by address), the
memories, the image as it was applied, the kiosks and the Bandstand, the axes, the Trellis dies, and every internal
quantity a rule of the spec names that no register shows. -/

namespace Sys2Proof.Machine

/-- What holds the control die in reset, or that it is out of reset (R65, R68, R43, R527). -/
inductive Die where
  | por
  | pinReset
  | tmode
  | thermal
  | up
deriving DecidableEq, Repr

/-- Levels of the input lands that act on the block by their level (R43, R58, R68, R74). -/
structure Pins where
  resetN  : Bool
  tmode   : Bool
  bootsel : Nat
  toffA   : Bool
  toffB   : Bool
deriving DecidableEq, Repr

/-- One SRAM region of the STRUCTURE body (table 4.4). -/
structure Region where
  base : Nat
  size : Nat
  kind : Nat
deriving DecidableEq, Repr

/-- One entry of the section table (table 4.2), with the copy that is active (R107, R119). -/
structure Sect where
  typ   : Nat
  flags : Nat
  owner : Nat
  grp   : Nat
  off   : Nat
  len   : Nat
  dest  : Nat
  copy1 : Bool
deriving DecidableEq, Repr

/-- One task of a graph (table 4.6). -/
structure TaskD where
  tid    : Nat
  flags  : Nat
  kiosk  : Nat
  oplOff : Nat
  oplLen : Nat
  ninput : Nat
  cost   : Nat
deriving DecidableEq, Repr

/-- One task graph (table 4.5): edges name a task index, or 0xFF00 + s for delivery source s. -/
structure GraphD where
  sect     : Nat
  gid      : Nat
  axis     : Nat
  cls      : Nat
  trigger  : Nat
  trigArg  : Nat
  deadline : Nat
  wcet     : Nat
  tasks    : List TaskD
  edges    : List (Nat × Nat)
deriving DecidableEq, Repr

/-- The image as applied at boot step 7 (header, STRUCTURE, section table, graphs). -/
structure Img where
  version   : Nat
  tbMax     : Nat
  floorReq  : Nat
  enc       : Bool
  zeroKey   : Bool
  nonce     : List Byte
  roles     : List Nat
  axisEn    : Nat
  senseA    : Nat
  senseB    : Nat
  ainOwner  : Nat
  hahOwner  : Nat
  sddOwner  : Nat
  posA      : Nat
  posB      : Nat
  stageBase : Nat
  stageSize : Nat
  regions   : List Region
  sects     : List Sect
  graphs    : List GraphD
deriving DecidableEq, Repr

/-- The image before any is applied: nothing in it. -/
def Img.none : Img :=
  { version := 0, tbMax := 0, floorReq := 0, enc := false, zeroKey := false, nonce := [], roles := [], axisEn := 0,
    senseA := 0, senseB := 0, ainOwner := 0, hahOwner := 0, sddOwner := 0, posA := 0, posB := 0, stageBase := 0,
    stageSize := 0, regions := [], sects := [], graphs := [] }

/-- Where a task of a released graph stands (R12, R146, R147, R155). -/
inductive TStat where
  | waiting
  | ready
  | queued
  | running
  | done
  | gone
deriving DecidableEq, Repr

/-- A released instance of a graph: the instant of its trigger as a Sundial stamp and in clocks of the block (log entry 43), the number of the
update instant it serves (R188), the band margin in force then (R160, R161), which edges have delivered, its tasks, and the active banks it still uses of
compensators swapped since its release (R398), the bodies it still uses of sections updated since (R120), and the records its
sources delivered and, of a graph of an axis, the registers as they were latched for its period (R12, R13). -/
structure Inst where
  graph  : Nat
  trigAt : Nat
  start  : Nat
  serves : Nat
  margin : Nat
  seen   : List Nat
  tasks  : List TStat
  old    : List (Nat × List Word)
  bodies : List (Nat × List Byte)
  recs   : List (Nat × List Word)
  lat    : Option (List (Nat × Word))
deriving DecidableEq, Repr

/-- A trigger of a graph that the Bandstand has not acted on yet: the graph, the instant as a stamp and in clocks, the update instant served, the band
present (R145, R160, R188), and the registers latched for the period (R13). -/
structure Trigger where
  graph  : Nat
  at_    : Nat
  start  : Nat
  serves : Nat
  band   : Nat
  lat    : Option (List (Nat × Word))
deriving DecidableEq, Repr

/-- A task on a kiosk queue: its absolute deadline in half nanoseconds (none: background) and its order of release. -/
structure QTask where
  graph : Nat
  task  : Nat
  dl    : Option Nat
  rel   : Nat
deriving DecidableEq, Repr

/-- A task that runs: its scratch words (R136), its NUMERIC flag (R141), its micro-steps so far (R143), the flash line a WINDOW
task waits for (R600), the lock it waits for (R153), the operators of its list that it has executed (R166), the estimator whose operator it ran last (0 none, 1 BEMF, 2 HFI: the PLL
after it is that estimator's tracking loop, table 10.3), and its number in the order of release. -/
structure Run where
  graph   : Nat
  task    : Nat
  scratch : List Word
  numeric : Bool
  steps   : Nat
  stalled : Option Nat
  lock    : Option Nat
  ops     : Nat
  est     : Nat
  rel     : Nat
deriving DecidableEq, Repr

/-- One kiosk: its queue, its running task, and whether it has stopped attempting to steal (R151). -/
structure Kiosk where
  queue   : List QTask
  run     : Option Run
  resting : Bool
deriving DecidableEq, Repr

/-- A kiosk at reset. -/
def Kiosk.idle : Kiosk := { queue := [], run := none, resting := false }

/-- The Bandstand and the kiosks. `numPrev`: tasks of axis graphs that set NUMERIC in their latest release (R142); `paceRun`:
gates in a row below the image floor, per cluster (R159); `divs`: periods since the last release of each outer-loop graph
(R389); `trigs`: triggers not acted on yet, oldest first; `timers`: for each TIMER that runs, its graph, its operand word s and
the clock it started at. -/
structure Fabric where
  kiosks  : List Kiosk
  insts   : List Inst
  ready   : List QTask
  relSeq  : Nat
  locks   : List (Option Nat)
  numPrev : List (Nat × Nat)
  bgStop  : Bool
  paceRun : List Nat
  divs    : List (Nat × Nat)
  trigs   : List Trigger
  timers  : List (Nat × Nat × Nat)
deriving DecidableEq, Repr

/-- A fault the Lodge keeps until RUNNING (R508): code, scope, UNIT, DETAIL. -/
structure Held where
  code   : Nat
  scope  : Nat
  unit   : Nat
  detail : Nat
deriving DecidableEq, Repr

/-- A command pending at an axis (R288): code, tag, origin and, for a Sundial slot's command, the slot. -/
structure Cmd where
  code : Nat
  tag  : Nat
  src  : Nat
  slot : Option Nat
deriving DecidableEq, Repr

/-- One axis: what its state machine, its limits and its services hold beside the MC registers; `eMot`, `eRegen`, `secs`: the
remainders of the energies in Ws and of the run time in ns (R325, R326); `hit`: a fault of the axis has been raised since its last
period began (R350). -/
structure Ax where
  cmd       : Option Cmd
  startWait : Option Cmd
  lastStart : Option Cmd
  fault     : Bool
  retryOk   : Bool
  ov2       : Bool
  hit       : Bool
  eMot      : Int × Nat
  eRegen    : Int × Nat
  secs      : Nat
deriving DecidableEq, Repr

/-- An axis at reset. -/
def Ax.reset : Ax :=
  { cmd := none, startWait := none, lastStart := none, fault := false, retryOk := false, ov2 := false, hit := false,
    eMot := (0, 1), eRegen := (0, 1), secs := 0 }

/-- Folly's injection on an axis: accepted and waiting for the slot 0 instant, running, periods (at POINT SPEED, SP releases)
since it began, the SWEEP step and the period it began in, the PRBS register, its signal has ended; a fault of the axis has been recorded
since it was accepted, it has ended, its u still standing to the end of the period, and an SP release has used its value at POINT SPEED
(R419 to R421). -/
structure Fol where
  pend : Bool
  n    : Nat
  step : Nat
  from_ : Nat
  lfsr : Nat
  done : Bool
  hurt : Bool
  stop : Bool
  ran  : Bool
deriving DecidableEq, Repr

/-- Folly's capture on an axis: bytes in the FIFO (R427), frames gathered since ARM, frames there were at the trigger, frames
dropped since the last one written, period graphs since the last frame, bytes handed to Pergola, which descriptor half
comes next, the stamp and the served update of the last period graph that ended, bytes Pergola has taken, blocks since the
trigger, bytes left of a split block, and how the capture is to end (0 it runs, 1 COMPLETE, 2 CANCELLED) (R423 to R429). -/
structure Cap where
  fifo   : List Byte
  frames : Nat
  trigAt : Option Nat
  gap    : Bool
  dec    : Nat
  out    : Nat
  half   : Bool
  stamp  : Nat
  serves : Nat
  taken  : Nat
  blocks : Nat
  rest   : Nat
  ending : Nat
deriving DecidableEq, Repr

/-- The services of an axis beside its registers. Chapter 9: a frequency above FE_TRIP at the last slot 0 (R313), VBUS above OV2
in the last period (R499), a reversal (0 none, 1 its STOPPING runs, 2 it waits REV_DWELL; R321), limit causes present and those
present for LIM_TIME, bit r for reason r (R314), the encoder's alignment correction and whether it applies (R300), the Hall
angle base, its stamp, and that it is no sector boundary (R299), the angle a stop ended at (R318), the axis runs on Belvedere by R306. Chapter 11: the latest
unclamped and applied d and q voltages and feedforwards (R377, R378). Chapter 10: Belvedere's output angle and speed, the
filtered magnitude in rpm (R337, R342), the speed of the last NORMAL period and the cycles counted (R345), the held voltage as
magnitude and angle to the rotor (R346), the model's speed (R343), cycles of agreement (R352), the injection phase (R340), the
last good AUX value (R334); flying restart (0 off, 1 probing, 2 waiting; R362 to R366), asked by R349, its probe currents; the
alignment (0 none, 1 DC, 2 injection, 3 and 4 the polarity pulses, 5 the decay between them; R354 to R356) with θ_h, t_p and the ramp's angle, direction
and hand-over begun (R358); identification: its START, the bias points measured (R367 to R369). Chapter 11: compensators whose
derived shadow banks take effect at the next slot 0, and at the first of a new period (R391). Chapter 12: HOME pending (R410),
the position set-point the next release takes (R430) and the one latched for the period (R13), θ of the last trusted period (R410). `susp`:
injection suspended in this period (R335); `volt`: the voltage limit holds (R310); `refused`: groups whose REFUSED cause is
present, `satNow`: compensators clamped now (table 11.12, 11.16); `cdIn`, `cqIn`, `trkD`, `trkQ`: latest current errors and where
the tracking records of CD and CQ lie (R377, R378); `iqRef`, `idRef`: references after injection, `clip`: R417 clamped;
`spRef`: the reference SP receives (R312, R413); `ramp`: id_ref at the hand-over (R359); `stT`:
seconds of periods since the present state was entered; `seed`: estimators to be seeded at their next update (bits 0 BEMF, 1 FLUX,
2 HFI, 3 model; R337, R346, R365); `selTrk`: where MINSEL's tracking records lie; `idDone`: identification tests passed; `idStep`, `idReach`,
`idT`: the step of the present test, that 0.5 × ID_SPD has been reached in it, and its seconds (table 10.9); `idM`,
`iqM`: the measured currents along and across θ (R377); `frozen`: HOLD of an axis on Belvedere keeps its compensators frozen (R346);
`fell`: POS_TRUSTED has fallen in the present state (R319);
`injV`, `injQ`, `hfiG`, `hfiO`: the injection voltage of the period, that it is applied along q (table 10.9), and the injection response
and angle correction at its current (R334, R337); `thF`: the angle of the frame that the current loops run on. Chapter 1:
`ownHold`: groups whose written ownership change waits for the end of the sequence it was written in (R24); `ownBack`: groups that
have returned to basic ownership and apply their own settings from the next period on (R25); `lat`: the registers as the latest
sample instant latched them (R13). -/
structure Svc where
  overN   : Bool
  ov2N    : Bool
  rev     : Nat
  causes  : Nat
  lasted  : Nat
  encC    : Word
  encOn   : Bool
  th0     : Word
  thT     : Nat
  thHalf  : Bool
  stopAng : Word
  onBlv   : Bool
  vd      : Word
  vq      : Word
  vda     : Word
  vqa     : Word
  vdff    : Word
  vqff    : Word
  thetaO  : Word
  omegaO  : Word
  omegaH  : Word
  omegaT  : Word
  cyc     : Int × Nat
  hold    : Word × Word
  omegaM  : Word
  agree   : Int × Nat
  hfiN    : Nat
  auxGood : Option Word
  fly     : Nat
  flyLoss : Bool
  probes  : List (Word × Word)
  align   : Nat
  thetaH  : Word
  tP      : Word
  thetaOl : Word
  dirNeg  : Bool
  hand    : Bool
  idCmd   : Option Cmd
  idPts   : List (Word × Word × Word × Word)
  take    : Nat
  takeP   : Nat
  home    : Bool
  posNext : Word × Word
  posLat  : Word × Word
  thPrev  : Option Word
  fol     : Fol
  cap     : Cap
  susp    : Bool
  volt    : Bool
  refused : Nat
  satNow  : Nat
  cdIn    : Word
  cqIn    : Word
  trkD    : Option Nat
  trkQ    : Option Nat
  iqRef   : Word
  idRef   : Word
  clip    : Bool
  spRef   : Word
  ramp    : Option Word
  stT     : Int × Nat
  seed    : Nat
  selTrk  : Option Nat
  idDone  : Nat
  idStep  : Nat
  idReach : Bool
  idT     : Int × Nat
  idM     : Word
  iqM     : Word
  frozen  : Bool
  fell    : Bool
  injV    : Word
  injQ    : Bool
  hfiG    : Word
  hfiO    : Word
  thF     : Word
  ownHold : Nat
  ownBack : Nat
  lat     : List (Nat × Word)
deriving DecidableEq, Repr

/-- The services of an axis at reset. -/
def Svc.reset : Svc :=
  { overN := false, ov2N := false, rev := 0, causes := 0, lasted := 0, encC := 0, encOn := false, th0 := 0, thT := 0, thHalf := false,
    stopAng := 0, onBlv := false, vd := 0, vq := 0, vda := 0, vqa := 0, vdff := 0, vqff := 0, thetaO := 0, omegaO := 0,
    omegaH := 0, omegaT := 0, cyc := (0, 1), hold := (0, 0), omegaM := 0, agree := (0, 1), hfiN := 0, auxGood := none,
    fly := 0, flyLoss := false, probes := [], align := 0, thetaH := 0, tP := 0, thetaOl := 0, dirNeg := false, hand := false,
    idCmd := none, idPts := [], take := 0, takeP := 0, home := false, posNext := (0, 0), posLat := (0, 0), thPrev := none,
    fol := { pend := false, n := 0, step := 0, from_ := 0, lfsr := 0, done := false, hurt := false, stop := false, ran := false },
    cap := { fifo := [], frames := 0, trigAt := none, gap := false, dec := 0, out := 0, half := false, stamp := 0, serves := 0,
             taken := 0, blocks := 0, rest := 0, ending := 0 },
    susp := false, volt := false, refused := 0, satNow := 0, cdIn := 0, cqIn := 0, trkD := none, trkQ := none, iqRef := 0,
    idRef := 0, clip := false, spRef := 0, ramp := none, stT := (0, 1),
    seed := 0, selTrk := none, idDone := 0, idStep := 0, idReach := false, idT := (0, 1), idM := 0, iqM := 0, frozen := false, fell := false,
    injV := 0, injQ := false, hfiG := 0, hfiO := 0, thF := 0, ownHold := 0, ownBack := 0, lat := [] }

/-- A safe state that is due once the faulted gates are sensed off (R474): its code, its R480 rank, its origin, and whether its row of
table 14.3 allows a retry (R489). -/
structure Due where
  st     : Nat
  rank   : Nat
  origin : Nat
  retry  : Bool
deriving DecidableEq, Repr

/-- The latest edge of a switch and kind: the strength step it used (table 13.4), the adaptation flag of its phase in the frame in force
(R443), why it was made: 0 an ordinary edge command, 1 a refresh pulse, 2 any other cause that R443 lists, and the trim of its stage that
scaled its step (R652, R653). -/
structure EdgeRec where
  step : Nat
  flag : Bool
  why  : Nat
  trim : Int
deriving DecidableEq, Repr

/-- No edge yet. -/
def EdgeRec.none : EdgeRec := { step := 0, flag := false, why := 2, trim := 0 }

/-- One Trellis die, beside its TR registers. Masks have a bit per channel of table 13.1 (bit 2p high side, 2p + 1 low side
of phase p, bit 6 brake).
`cmd`: on-commands in force; `why`: for each channel the reason of its command, as in an edge's record; `lost`: a frame was discarded and
no valid one has come since (R439); `gates`: gates driven on; `sense`: gates not yet sensed off (R434); `soft`: gates whose soft
turn-off is awaited, `due`: the safe state then applied (R473, R474); `rank`: R480 rank of
the safe state in force (0 none); `goff`: gates with a standing cause of code 6; `ilk`: legs whose overlap has been counted
(R451); `drvLow`: driver-supply lockout (R48); `vdrv`: VDRVx in 0.1 V as last reported; `thermal`, `quiet`, `exitV`: a thermal-shutdown ASC and the settings it
keeps (R488); `pre`, `preOn`: precharge runs, its low sides are on (R458); `ovSig`, `brkOc`, `brkDs`: bus-overvoltage and
brake-overcurrent signals, a brake desaturation not yet acted on (R495, R496); `csc`: Cascade is in service (0), SHORTED (1) or OPEN (2),
fitted or not (R496 to R498); `cmdPins`: accepted CMD pin levels (R464), `extOff`: the pins are ignored until the axis has been in OFF
(R465); `vbus`, `dtLH`, `dtHL`, `adapt`, `band`: what
the latest frame carried (R438), VBUS in 0.1 V; `linkErr`: a frame was discarded in the interval (R444); `lastSink`: sink
step of each channel's most recent turn-off (R59); `edge`: per switch and kind (index 2 · channel, + 1 for turn-offs), as in the next
four, its latest edge; `wrote`: switches and kinds whose step was written since that edge (R450); `adaptN`: adapting transitions since
ARMED (R446); `limRun`: consecutive adapting transitions at a limit outside the deadband (R447); `unreach`: code 11 is present for it
(R447); `refLast`: intervals since the phase's last refresh pulse (R459); `ref`: the rest of a phase's refresh pulse, as sub-ticks
since power-on until which a command of its leg (bit 0 high side, bit 1 low side) stands; `bandDue`: a band change whose step shift is due (R449); `edges`: the EDGES entries of the
interval, `edgesEnd`, `errEnd`: those of the interval that has ended and its LINK_ERR (R444); `edgeN`: gate edges of the 10 ms window by source step (0 to 63) and sink step (64 to 127) (R536); `wait`,
`gap`: for each phase switch the sub-tick since power-on before which its turn-on may not begin, by its dead time (R182) and by the
separation from the opposite gate (R452); `onAt`: the clock at which each channel last turned on (R264); `again`: the axis started in
SAFE by R95. -/
structure Tr where
  cmd      : Nat
  why      : List Nat
  lost     : Bool
  gates    : Nat
  sense    : Nat
  soft     : Nat
  due      : Option Due
  rank     : Nat
  goff     : Nat
  ilk      : Nat
  drvLow   : Bool
  vdrv     : Nat
  thermal  : Bool
  quiet    : Nat
  exitV    : Nat
  pre      : Bool
  preOn    : Bool
  ovSig    : Bool
  brkOc    : Bool
  brkDs    : Bool
  csc      : Nat
  cmdPins  : Nat
  extOff   : Bool
  vbus     : Nat
  dtLH     : Nat
  dtHL     : Nat
  adapt    : Nat
  band     : Nat
  linkErr  : Bool
  lastSink : List Nat
  edge     : List EdgeRec
  wrote    : Nat
  adaptN   : List Nat
  limRun   : List Nat
  unreach  : Nat
  refLast  : List Nat
  ref      : List (List (Nat × Nat))
  bandDue  : Option Nat
  edges    : List Word
  edgesEnd : List Word
  errEnd   : Bool
  edgeN    : List Nat
  wait     : List Nat
  gap      : List Nat
  onAt     : List Nat
  again    : Bool
deriving DecidableEq, Repr

/-- A Trellis die with all channels off and nothing received; its driver-supply lockout stands released before a supply is reported
(DESIGN CHOICE, log entry 58). -/
def Tr.reset : Tr :=
  { cmd := 0, why := List.replicate 7 2, lost := false, gates := 0, sense := 0, soft := 0, due := none, rank := 0, goff := 0, ilk := 0, drvLow := false, vdrv := 0,
    thermal := false, quiet := 0, exitV := 0, pre := false, preOn := false, ovSig := false, brkOc := false,
    brkDs := false, csc := 0, cmdPins := 0, extOff := false, vbus := 0, dtLH := 0, dtHL := 0, adapt := 0, band := 0, linkErr := false,
    lastSink := List.replicate 7 0, edge := List.replicate 12 EdgeRec.none, wrote := 0, adaptN := List.replicate 12 0,
    limRun := List.replicate 12 0, unreach := 0, refLast := List.replicate 3 0, ref := List.replicate 3 [], bandDue := none,
    edges := List.replicate 12 0, edgesEnd := List.replicate 12 0, errEnd := false,
    edgeN := List.replicate 128 0, wait := List.replicate 6 0, gap := List.replicate 6 0, onAt := List.replicate 7 0, again := false }

/-- The Sundial: counter and fraction of a tick in 2⁻³² (R203), the clocks of 2.5 ns since power-on, whether the PLL runs (R173); the stamp of the last valid
pulse on the present count (none in FREE before the first, R204) and the magnitude of its error in ticks; consecutive valid pulses within 100 ns, invalid pulses each 1 s after the one before with the stamp of the
last, and valid pulses beyond 10 µs (R205); the integral term and its values at the last 16 valid pulses, in units of 1 / (400 000 000 × 65 536) (R206, R207); clocks
spent in holdover; for each action slot the latched time, CODE, ARG and whether it was late when it was armed (R210); and the changes of
RATE or of the count in the last 51 µs, newest first: the clock, the count with its fraction and RATE before it (R271). -/
structure Sun where
  cnt  : BitVec 64
  frac : Nat
  tick : Nat
  pll  : Bool
  last : Option Nat
  err  : Nat
  good : Nat
  bad  : Nat
  far  : Nat
  badAt : Nat
  integ : Int
  hist : List Int
  held : Nat
  acts : List (Nat × Nat × Nat × Bool)
  lines : List (Nat × Int × Int)
deriving DecidableEq, Repr

/-- The Sundial after power-on. -/
def Sun.reset : Sun :=
  { cnt := 0, frac := 0, tick := 0, pll := false, last := none, err := 0, good := 0, bad := 0, far := 0, badAt := 0, integ := 0, hist := [],
    held := 0, acts := List.replicate 8 (0, 0, 0, false), lines := [] }

/-- An interval between update instants: the compare values in force after R184, H and the length in sub-ticks, its kind as `highOn`
takes it (R177, R178), its six-step sector (none outside six-step), SIX_SYNC and DT_HL in force (R193, R243), and the d and q voltages that
its compare values apply (R325). -/
structure Ival where
  d    : List Nat
  h    : Nat
  len  : Nat
  half : Nat
  six  : Option Nat
  sync : Bool
  dt   : Nat
  vd   : Word
  vq   : Word
deriving DecidableEq, Repr

/-- An interval with nothing commanded. -/
def Ival.zero : Ival := { d := [0, 0, 0], h := 0, len := 0, half := 0, six := none, sync := false, dt := 0, vd := 0, vq := 0 }

/-- An axis timebase beside the PW registers: the present interval is the half from peak to valley (R177); SIX has been
written since the last update instant (R181); the last 256 update instants, newest first, true where missed (R163); the
present interval as it began and the latest eight before it, newest first (R243, R246, R325); cycle-by-cycle limiting holds the PWM phase's high side off (R194);
`changes`: period changes that have reached the timebase, `ann`: per slot, the effective period that its sample instant announced
for the coming valley or wrap, and the changes until then, and (index 4) the latest of them, `setAnn`: the same of the sample instant that the
complete compare set comes from (R195), `setV`: the d and q voltages that set applies (R325); ticks by which R200 lengthens this
carrier and the next; the command state last sent (R438); the number of update instants so far (R162, R188);
a sample instant has fallen since the last one; the effective period that a waiting change asks for (R195); the number of carriers begun
(R245). -/
structure Tb where
  down      : Bool
  setOk     : Bool
  win       : List Bool
  cur       : Ival
  past      : List Ival
  cbc       : Bool
  changes   : Nat
  ann       : List (Option (Nat × Nat))
  setAnn    : Option (Nat × Nat)
  setV      : Word × Word
  extra     : Nat
  extraNext : Nat
  out       : Nat
  upd       : Nat
  begun     : Bool
  perWant   : Nat
  carrier   : Nat
deriving DecidableEq, Repr

/-- A timebase at reset. -/
def Tb.reset : Tb :=
  { down := false, setOk := false, win := [], cur := Ival.zero, past := [], cbc := false, changes := 0,
    ann := List.replicate 5 none, setAnn := none, setV := (0, 0), extra := 0, extraNext := 0, out := 0, upd := 0, begun := false,
    perWant := 0, carrier := 0 }

/-- A sequence of a SAR converter in progress: axis, slot, the sequence as it started (R249), its W (R233), the live
calibration in force (R240), the entry in progress, conversions done, started late (R236), and the clocks at its slot and at its
start (R235). -/
structure SeqRun where
  axis   : Nat
  slot   : Nat
  seq    : Word
  w      : Nat
  cal    : Word
  entry  : Nat
  convs  : Nat
  waited : Bool
  at_    : Nat
  start  : Nat
deriving DecidableEq, Repr

/-- A SAR converter: its sequence in progress and the sequences that wait, oldest first: axis, slot and the clock they were due at
(R236). -/
structure Sar where
  run  : Option SeqRun
  wait : List (Nat × Nat × Nat)
deriving DecidableEq, Repr

/-- The phase currents of the first slot of an interval (R246): the number of its update instant, the slot, and the currents delivered so
far. -/
structure First where
  upd  : Nat
  slot : Nat
  cur  : List (Option Word)
deriving DecidableEq, Repr

/-- The sensing block beside the SNS registers. Per data input: sinc3 results STALE (R225), window tripped, window not yet
cleared since reset (R228), consecutive results towards the other state (R226), latest sinc2 result, captures at one level
stuck (R230). `prev`: phase records delivered at each slot of each axis in the carrier before (R244), index 4·axis + slot;
`cur`: phase records of each slot since its latest sample instant and whether the phase was usable at the hold instant (R243), index
3·(4·axis + slot) + phase; `sumRun`: carriers in a row with a sum error, `sumAt`: the carrier of the latest one, `slotCar`: the carrier of
the slot's latest sample instant, as `prev` (R245); `slotAt`: of each slot's latest sample
instant the number of the interval it fell in and the sub-tick of it, as `prev` (R243); `firsts`: per axis, of the latest two
intervals that had phase currents, newest first, `late`: the differences of intervals whose currents are still to come, as (axis, interval,
phase, difference) (R246); `bgLast`, `bgAt`: the input that the round-robin of R237 converted last, and
the clock of each input's latest such conversion;
`calW`: SNS.CALn written since the boot, `noSlot`: the live values are those of R76 (R242); `rbRun`: read-backs in a row out
of tolerance per DAC, `rbOwn`: owner code for which a DAC's two in a row raised the fault (0 none), `rbSeen`: DACs read since the last
whole pass (R266, R267). -/
structure Sense where
  sdStale : List Bool
  fTrip   : List Bool
  fHeld   : List Bool
  fRun    : List Nat
  fast    : List Int
  stuck   : List Bool
  sars    : List Sar
  prev    : List (List (List Word))
  cur     : List (Option (List Word × Bool))
  sumRun  : List Nat
  sumAt   : List Nat
  slotCar : List Nat
  slotAt  : List (Nat × Nat)
  firsts  : List (List First)
  late    : List (Nat × Nat × Nat × Int)
  bgLast  : Nat
  bgAt    : List (Option Nat)
  calW    : List Bool
  noSlot  : Bool
  rbRun   : List Nat
  rbOwn   : List Nat
  rbSeen  : List Bool
deriving DecidableEq, Repr

/-- The sensing block at reset. -/
def Sense.reset : Sense :=
  { sdStale := List.replicate 8 true, fTrip := List.replicate 8 true, fHeld := List.replicate 8 true,
    fRun := List.replicate 8 0, fast := List.replicate 8 0, stuck := List.replicate 8 false,
    sars := List.replicate 2 { run := none, wait := [] }, prev := List.replicate 8 [], cur := List.replicate 24 none,
    sumRun := List.replicate 8 0, sumAt := List.replicate 8 0, slotCar := List.replicate 8 0, slotAt := List.replicate 8 (0, 0), firsts := List.replicate 2 [], late := [], bgLast := 15,
    bgAt := List.replicate 16 none,
    calW := List.replicate 10 false, noSlot := false, rbRun := List.replicate 24 0, rbOwn := List.replicate 24 0, rbSeen := List.replicate 24 false }

/-- One side of a comparator: tripped, held so since reset without having cleared (R258), which of its last 31 samples were outside,
newest first (R256), and the hardware signal that its trip asserts, with the axis (R261). -/
structure Side where
  trip : Bool
  held : Bool
  outs : List Bool
  sig  : Option (Nat × Nat)
deriving DecidableEq, Repr

/-- A side as a reset leaves it: held tripped, every sample before RUNNING outside (R256, R258). -/
def Side.reset : Side := { trip := true, held := true, outs := List.replicate 31 true, sig := none }

/-- A Hall set beside its registers: a code has been accepted since RUNNING, stamps of the last two accepted changes, the interval of
the last change to a valid code (R299, R305), the direction, and SKIP since the last delivery (R269 to R271, R275). -/
structure Hall where
  seen  : Bool
  last  : Nat
  prior : Option Nat
  pace  : Option Nat
  rev   : Bool
  skip  : Bool
deriving DecidableEq, Repr

/-- An encoder beside its registers: the accepted levels of A, B and Z (R272, R273), the reference of R273, the count at the last
delivery and its stamp, the stamp and direction of the last change, ERR since the last delivery (R275). -/
structure Enc where
  qa   : Bool
  qb   : Bool
  qz   : Bool
  at_  : Nat
  ref  : Word
  sent : Word
  last : Nat
  rev  : Bool
  err  : Bool
deriving DecidableEq, Repr

/-- A Hall set that has accepted no code. -/
def Hall.reset : Hall := { seen := false, last := 0, prior := none, pace := none, rev := false, skip := false }

/-- An encoder at reset. -/
def Enc.reset : Enc :=
  { qa := false, qb := false, qz := false, at_ := 0, ref := 0, sent := 0, last := 0, rev := false, err := false }

/-- The Ha-ha bank: sides 2n (LO) and 2n + 1 (HI) of comparator n, the Hall sets and the encoders. -/
structure Bank where
  sides : List Side
  halls : List Hall
  encs  : List Enc
deriving DecidableEq, Repr

/-- The Ha-ha bank at reset: every side held tripped (R258). -/
def Bank.reset : Bank :=
  { sides := List.replicate 24 Side.reset, halls := List.replicate 2 Hall.reset, encs := List.replicate 2 Enc.reset }

/-- The Orangery beside the ORG registers: the last 16 corrected samples in 0.25 °C (R523), the band not yet set (R526),
samples the request has lasted (R531), each rise threshold armed (R533), the request was started by RISE2 and its rate has
not yet fallen (R534), means of the last eleven 100 ms spans, the sum and number of the present one, and that one has ended whose rate is to be formed (R533), die
rises in 2⁻⁸⁰ K (R536), and the shutdown (R527 to R529). -/
structure Org where
  samples : List Int
  first   : Bool
  asked   : Nat
  arm1    : Bool
  arm2    : Bool
  byRise  : Bool
  means   : List (Int × Nat)
  sum     : Int
  count   : Nat
  ended   : Bool
  rise    : List Int
  halted  : Bool
deriving DecidableEq, Repr

/-- The Orangery after power-on. -/
def Org.reset : Org :=
  { samples := [], first := true, asked := 0, arm1 := true, arm2 := true, byRise := false, means := [], sum := 0, count := 0,
    ended := false, rise := [0, 0], halted := false }

/-- One Pergola channel: its trigger queue (R609); the descriptor in use once fetched (R612); bytes of it whose writes have left
(R627); the credit left in this window (R617); a burst in flight as destination addresses and bytes (R619); the flash bytes an
aperture burst waits for, and those that have come (R604); granted in this window (R620); the records that wait for the ring
(R624), and an abort after them (R629); its chain goes on at a descriptor that is not fetched yet (R630). -/
structure PglCh where
  queue   : List Nat
  desc    : Option (List Word)
  done    : Nat
  credit  : Int
  flight  : Option (List (Nat × Byte))
  await_  : Option Nat
  got     : List Byte
  granted : Bool
  recs    : List (List Word)
  abort   : Bool
  mid     : Bool
deriving DecidableEq, Repr

/-- A Pergola channel at reset. -/
def PglCh.reset : PglCh :=
  { queue := [], desc := none, done := 0, credit := 0, flight := none, await_ := none, got := [], granted := false, recs := [],
    abort := false, mid := false }

/-- The Pergola engine: its channels, the channel last granted at each priority (R620), the channels whose records wait, oldest
first (R624). -/
structure Pgl where
  chans : List PglCh
  last  : List Nat
  wait  : List Nat
deriving DecidableEq, Repr

/-- Pergola at reset. -/
def Pgl.reset : Pgl := { chans := List.replicate 16 PglCh.reset, last := List.replicate 4 15, wait := [] }

/-- A request to the Grotto: its source (0 GRT.PROG, 1 GH.FLOOR_ADV), OP (6 a floor advance; 8 added once it has begun), word address, mask, and the live
values that COMMIT takes as it reaches the Grotto (R559, R561). -/
structure GrtReq where
  src  : Nat
  op   : Nat
  addr : Nat
  mask : Word
  live : List Word
deriving DecidableEq, Repr

/-- The Grotto: for each copy, what word a reads at reference k of table 17.1 in rising order, at 8·a + k (R539, R540), the latched
values (R542), bits blown and verified since the boot (R543), words found differing (R544), the operation in progress and those that
wait (R561), the copy that pulses were last given to, as 64·word + 2·bit + copy, and how many, the copies that the operation has finished
(R564), and the re-verify (bit 0: one awaits the first sample instant after RUNNING; bit 1: one is due; R544). -/
structure Otp where
  cells0  : List (Nat × Word)
  cells1  : List (Nat × Word)
  latched : List (Nat × Word)
  blown   : List (Nat × Word)
  differ  : List Nat
  queue   : List GrtReq
  tries   : Nat × Nat
  made    : Nat
  verify  : Nat
deriving DecidableEq, Repr

/-- The Grotto of a part with nothing blown. -/
def Otp.reset : Otp :=
  { cells0 := [], cells1 := [], latched := [], blown := [], differ := [], queue := [], tries := (0, 0), made := 0, verify := 0 }

/-- A flash transaction asked for: by a cache fill of kiosk `who`, for its task of number `rel`, or an aperture read of channel `who`;
flash byte address and length; retried once (R604, R605); its channel has stopped since (R632). -/
structure FlashReq where
  ap      : Bool
  who     : Nat
  addr    : Nat
  len     : Nat
  retried : Bool
  rel     : Nat
  void    : Bool
deriving DecidableEq, Repr

/-- The Icehouse port: cached lines by address, most recently used first (R598); waiting fills and aperture reads, the one in
progress, the kind served last (R604); fetched lines not yet stored, with their bytes; the fill in progress is to be
discarded (R602); a release waits for the end of the transaction (R606); the read command and the address bytes of the latest
transaction as sent (R594). -/
structure Ice where
  lines   : List (Nat × List Byte)
  fills   : List FlashReq
  reads   : List FlashReq
  run     : Option FlashReq
  lastAp  : Bool
  fetched : List (Nat × Nat × List Byte)
  drop    : Bool
  release : Bool
  sent    : Nat × List Byte
deriving DecidableEq, Repr

/-- The Icehouse port at reset. -/
def Ice.reset : Ice :=
  { lines := [], fills := [], reads := [], run := none, lastAp := true, fetched := [], drop := false, release := false, sent := (0, []) }

/-- The Wicket port: the reply to be shifted next, header without EVENT and payload, and whether it is ready (R578 to R580); the
stored reply of the last accepted frame (R582); no reply has gone out since the reset (R73); the length that a WKT.LEN write
waits with and whether the reply to that frame has begun to wait (R589); the bits that WSDO presented at the edges of the latest frame, first
first (R569). -/
structure Wkt where
  next   : Option (Word × List Word)
  ready  : Bool
  stored : Word × List Word
  fresh  : Bool
  len    : Option (Nat × Bool)
  sent   : List Bool
deriving DecidableEq, Repr

/-- The Wicket port at reset. -/
def Wkt.reset : Wkt := { next := none, ready := false, stored := (0, []), fresh := true, len := none, sent := [] }

/-- What a test's measurements show: the slot, DETAIL bits of its failed checks or values not applied, live registers to write
with their values, and SNS.CALn indices out of range (R643, R647 to R653). -/
structure TestOut where
  slot : Nat
  bad  : Nat
  vals : List (Nat × Word)
  oor  : List Nat
deriving DecidableEq, Repr

/-- Self-test: failures that the latest SAR_CHECK pass found (R644), the outcomes of the tests that run or wait, and the slots whose
failure is a present cause of code 50, with its scope (R642). -/
structure Stc where
  sarBad : Nat
  outs   : List TestOut
  failed : List (Nat × Nat)
deriving DecidableEq, Repr

/-- Self-test at reset. -/
def Stc.reset : Stc := { sarBad := 0, outs := [], failed := [] }

/-- Why a command stops the machine. The block raises none: every command of the table has an effect (see '## Stops' in
NOTES.md); the type is the interface's. -/
inductive Fault where
  /-- Raised by no command. Safe. -/
  | unused
deriving DecidableEq, Repr

/-- Why a command has no meaning here. -/
inductive Refusal where
  /-- Raised by a dispatch arm of a command that has no meaning yet. Safe. -/
  | notModelled (mnemonic : String)
deriving DecidableEq, Repr

/-- The machine's state. -/
structure State where
  pending : List Instr
  die     : Die
  pins    : Pins
  regs    : List (Nat × Word)
  shadow  : List (Nat × Word)
  mem     : List (Nat × Byte)
  ecc1    : List Nat
  ecc2    : List Nat
  found   : List (Nat × Nat × Nat)
  img     : Img
  fab     : Fabric
  sources : List (Nat × Nat × List Word)
  held    : List Held
  axA     : Ax
  axB     : Ax
  svA     : Svc
  svB     : Svc
  trA     : Tr
  trB     : Tr
  tbA     : Tb
  tbB     : Tb
  sns     : Sense
  hah     : Bank
  org     : Org
  sun     : Sun
  pgl     : Pgl
  otp     : Otp
  ice     : Ice
  wkt     : Wkt
  stc     : Stc
  reply   : Nat
  free    : Nat
deriving DecidableEq, Repr

/-- The machine right after a power-on reset: the control die held in reset, every register at its POR value (no entry in
the stores), memory zero (table 3.3), no image, nothing queued (log entries 4, 5 and 12). -/
def State.reset : State :=
  { pending := [], die := .por, pins := { resetN := true, tmode := false, bootsel := 0, toffA := false, toffB := false },
    regs := [], shadow := [], mem := [], ecc1 := [], ecc2 := [], found := [], img := Img.none,
    fab := { kiosks := List.replicate 24 Kiosk.idle, insts := [], ready := [], relSeq := 0,
             locks := List.replicate 16 none, numPrev := [], bgStop := false, paceRun := List.replicate 4 0, divs := [], trigs := [],
             timers := [] },
    sources := [], held := [], axA := Ax.reset, axB := Ax.reset, svA := Svc.reset, svB := Svc.reset, trA := Tr.reset, trB := Tr.reset,
    tbA := Tb.reset, tbB := Tb.reset, sns := Sense.reset, hah := Bank.reset, org := Org.reset,
    sun := Sun.reset, pgl := Pgl.reset, otp := Otp.reset, ice := Ice.reset, wkt := Wkt.reset, stc := Stc.reset, reply := 0, free := 0 }

end Sys2Proof.Machine
end

