-- ==== Sys2Proof/Machine/Ops.lean ====
section
/-! DEFINITION. The named operations over the state: the canonical stores (registers, shadow copies, memory bytes), reading
and writing a register field, reading and writing memory, the flags of a saturating counter, and free values. -/

namespace Sys2Proof.Machine

/-! ### Canonical stores: strictly rising addresses, no entry equal to what an unlisted address reads as -/

/-- What an address reads as: its entry, or the default where it has none. -/
def cget {w : Nat} (d : Nat → BitVec w) (m : List (Nat × BitVec w)) (a : Nat) : BitVec w :=
  match m with
  | [] => d a
  | e :: r => if e.1 = a then e.2 else cget d r a

/-- Put an entry at its place in rising order. -/
def cinsert {w : Nat} (a : Nat) (v : BitVec w) (m : List (Nat × BitVec w)) : List (Nat × BitVec w) :=
  match m with
  | [] => [(a, v)]
  | e :: r => if a < e.1 then (a, v) :: e :: r else e :: cinsert a v r

/-- Drop the entries of an address. -/
def cdrop {w : Nat} (a : Nat) (m : List (Nat × BitVec w)) : List (Nat × BitVec w) :=
  m.filter (fun e => !(e.1 == a))

/-- Write an address: the entry goes where the value is what an unlisted address reads as. -/
def cset {w : Nat} (d : Nat → BitVec w) (m : List (Nat × BitVec w)) (a : Nat) (v : BitVec w) : List (Nat × BitVec w) :=
  if v = d a then cdrop a m else cinsert a v (cdrop a m)

/-- Strictly rising from a lower bound. -/
def crising {w : Nat} (lo : Nat) (m : List (Nat × BitVec w)) : Bool :=
  match m with
  | [] => true
  | e :: r => decide (lo ≤ e.1) && crising (e.1 + 1) r

/-- The canonical form of a store. -/
def cwf {w : Nat} (d : Nat → BitVec w) (m : List (Nat × BitVec w)) : Bool :=
  crising 0 m && m.all (fun e => !(e.2 == d e.1))

/-- A byte that nothing has written reads 0: table 3.3 gives shared SRAM and the kiosk local memories zero after
power-on reset. -/
def memPor (_ : Nat) : Byte := 0

/-- The canonical form of the memory store. -/
abbrev Memory.wf (s : State) : Bool := cwf memPor s.mem

/-! ### Registers -/

/-- The active copy of a register, as it is stored. -/
def State.rd (s : State) (a : Nat) : Word := cget regPor s.regs a

/-- Write the active copy of a register. -/
def State.wr (s : State) (a : Nat) (v : Word) : State := { s with regs := cset regPor s.regs a v }

/-- The shadow copy of an RWS register (table 0.4). -/
def State.rdSh (s : State) (a : Nat) : Word := cget regPor s.shadow a

/-- Write the shadow copy of an RWS register. -/
def State.wrSh (s : State) (a : Nat) (v : Word) : State := { s with shadow := cset regPor s.shadow a v }

/-- A field of a register word. -/
def fieldOf (f : Fld) (w : Word) : Nat := bits w.toNat f.hi f.lo

/-- The word with a field replaced (the value cut to the field's width). -/
def putField (f : Fld) (w : Word) (v : Nat) : Word :=
  BitVec.ofNat 32 (w.toNat - bits w.toNat f.hi f.lo * 2 ^ f.lo + (v % 2 ^ f.width) * 2 ^ f.lo)

/-- A field's value. -/
def State.fld (s : State) (f : Fld) : Nat := fieldOf f (s.rd f.reg)

/-- A one-bit field as a Bool. -/
def State.flag (s : State) (f : Fld) : Bool := s.fld f == 1

/-- A field read as a signed number (two's complement of its width). -/
def State.sfld (s : State) (f : Fld) : Int := signed f.width (s.fld f)

/-- Set a field. -/
def State.set (s : State) (f : Fld) (v : Nat) : State := s.wr f.reg (putField f (s.rd f.reg) v)

/-- Set a one-bit field from a Bool. -/
def State.setB (s : State) (f : Fld) (b : Bool) : State := s.set f (b2n b)

/-- Set a field from an integer, in two's complement. -/
def State.setI (s : State) (f : Fld) (i : Int) : State := s.set f (unsigned f.width i)

/-- Set a field from a word. -/
def State.setW (s : State) (f : Fld) (w : Word) : State := s.set f w.toNat

/-- A 32-bit field as a word. -/
def State.word (s : State) (f : Fld) : Word := BitVec.ofNat 32 (s.fld f)

/-- Add to a counter field, which saturates at its maximum (R657, table 22.7). -/
def State.incBy (s : State) (f : Fld) (n : Nat) : State := s.set f (min f.top (s.fld f + n))

/-- Add one to a counter field, which saturates at its maximum (R657, table 22.7). -/
def State.inc (s : State) (f : Fld) : State := s.incBy f 1

/-- Apply a change only where a condition holds. -/
def State.onlyIf (s : State) (c : Bool) (f : State → State) : State := if c then f s else s

/-- Apply a change to each entry of a list, in order. -/
def State.forEach {α : Type} (s : State) (l : List α) (f : State → α → State) : State := l.foldl f s

/-! ### Parts of the state -/

/-- Change the Bandstand and the kiosks. -/
def State.modFab (s : State) (f : Fabric → Fabric) : State := { s with fab := f s.fab }

/-- Change the Pergola engine. -/
def State.modPgl (s : State) (f : Pgl → Pgl) : State := { s with pgl := f s.pgl }

/-- Change the Sundial. -/
def State.modSun (s : State) (f : Sun → Sun) : State := { s with sun := f s.sun }

/-- Change the record of the port. -/
def State.modWkt (s : State) (f : Wkt → Wkt) : State := { s with wkt := f s.wkt }

/-- Change the record of the Ha-ha bank. -/
def State.modHah (s : State) (f : Bank → Bank) : State := { s with hah := f s.hah }

/-- Change the pin levels. -/
def State.modPins (s : State) (f : Pins → Pins) : State := { s with pins := f s.pins }

/-- The control die stands otherwise. -/
def State.toDie (s : State) (d : Die) : State := { s with die := d }

/-- Change the applied image. -/
def State.modImg (s : State) (f : Img → Img) : State := { s with img := f s.img }

/-- Change the faults kept until RUNNING. -/
def State.setHeld (s : State) (l : List Held) : State := { s with held := l }

/-- Change the words found uncorrectable. -/
def State.setFound (s : State) (l : List (Nat × Nat × Nat)) : State := { s with found := l }

/-- Change the words that hold a single-bit and a double-bit error. -/
def State.setEcc (s : State) (l1 l2 : List Nat) : State := { s with ecc1 := l1, ecc2 := l2 }

/-- Change the flags noted for the reply. -/
def State.setReply (s : State) (n : Nat) : State := { s with reply := n }

/-! ### Free values -/

/-- A free value has been used: the next one is another. -/
def State.spent (s : State) : State := { s with free := s.free + 1 }

/-- A free bit, fresh (log entry 1). -/
def State.freshBit (s : State) : Bool × State := (Config.freeBit s.free, s.spent)

/-- What a comparator with a tolerance finds: true where it must trip, false where it cannot, and a free bit in the band between (R666,
log entry 81). -/
def State.judged (s : State) (must may : Bool) : Bool × State := if must then (true, s) else if may then s.freshBit else (false, s)

/-- A free word, fresh (log entry 1). -/
def State.freshWord (s : State) : Word × State := (Config.freeWord s.free, s.spent)

/-- A free number, fresh (log entry 1). -/
def State.freshNat (s : State) : Nat × State := (Config.freeNat s.free, s.spent)

/-! ### Memory: shared SRAM and kiosk local memories (R4, R128 to R130) -/

/-- An address in shared SRAM or in a kiosk's local memory (table 22.1). -/
def memImplemented (a : Nat) : Bool := decide (a < 0x180000) || (decide (0x200000 ≤ a) && decide (a < 0x2C0000))

/-- A byte of memory. -/
def State.byte (s : State) (a : Nat) : Byte := cget memPor s.mem a

/-- Write a byte of memory. -/
def State.setByte (s : State) (a : Nat) (b : Byte) : State := { s with mem := cset memPor s.mem a b }

/-- A 32-bit word of memory, least significant byte first (R4). -/
def State.ld32 (s : State) (a : Nat) : Word :=
  s.byte (a + 3) ++ s.byte (a + 2) ++ s.byte (a + 1) ++ s.byte a

/-- Write a 32-bit word of memory, least significant byte first (R4). -/
def State.st32 (s : State) (a : Nat) (v : Word) : State :=
  (((s.setByte a (v.extractLsb' 0 8)).setByte (a + 1) (v.extractLsb' 8 8)).setByte (a + 2)
    (v.extractLsb' 16 8)).setByte (a + 3) (v.extractLsb' 24 8)

/-- Write consecutive bytes. -/
def State.setBytes (s : State) (a : Nat) (bs : List Byte) : State :=
  match bs with
  | [] => s
  | b :: r => (s.setByte a b).setBytes (a + 1) r

/-- Read `n` consecutive bytes. -/
def State.bytes (s : State) (a : Nat) (n : Nat) : List Byte :=
  match n with
  | 0 => []
  | n + 1 => s.byte a :: s.bytes (a + 1) n

/-- Read `n` consecutive 32-bit words. -/
def State.words (s : State) (a : Nat) (n : Nat) : List Word :=
  match n with
  | 0 => []
  | n + 1 => s.ld32 a :: s.words (a + 4) n

/-- Write consecutive 32-bit words. -/
def State.setWords (s : State) (a : Nat) (ws : List Word) : State :=
  match ws with
  | [] => s
  | w :: r => (s.st32 a w).setWords (a + 4) r

/-- The 32-byte word of memory an address lies in (R128, R130). -/
def lineOf (a : Nat) : Nat := a / 32 * 32

/-- SRAM region of an address, by the STRUCTURE of the running image (table 4.4); kind 0 outside every region. -/
def State.regionKind (s : State) (a : Nat) : Nat :=
  match s.img.regions.find? (fun r => r.kind != 0 && decide (r.base ≤ a) && decide (a < r.base + r.size)) with
  | some r => r.kind
  | none => 0

/-! ### Where the control die stands -/

/-- The control die is out of reset. -/
def State.isUp (s : State) : Bool := s.die == .up

/-- The control die is in RUNNING (table 3.7). -/
def State.isRunning (s : State) : Bool := s.isUp && s.fld F.GH_BOOT_STATUS_STATE == 5

/-- The control die is in RUNNING: otherwise the command is no occurrence (log entry 2). -/
def State.running (s : State) (f : State → State) : State := if s.isRunning then f s else s

/-! ### The axes as the image gives them -/

/-- Axis x is enabled in the image (table 4.4, R105). -/
def State.axisOn (s : State) (x : Axis) : Bool := bit s.img.axisEn x.ix

/-- Event number of an axis event of offset o (R515). -/
def evAx (x : Axis) (o : Nat) : Nat := o + 28 * x.ix

/-- State of the axis state machine (table 9.2). -/
def State.axState (s : State) (x : Axis) : Nat := s.fld (F.MC_STATE_STATE x)

/-- R281: the bridge of the axis is enabled exactly when table 9.2 says so, SAFE only during low or high ASC. -/
def State.bridgeOn (s : State) (x : Axis) : Bool :=
  let st := s.axState x
  (decide (1 ≤ st) && decide (st ≤ 6)) ||
    (st == 7 && (s.fld (F.TR_SAFE_STAT_STATE x) == 1 || s.fld (F.TR_SAFE_STAT_STATE x) == 2))

/-- A group's OWN bit, active copy: the basic service owns the group (R19). -/
def State.owns (s : State) (x : Axis) (group : Nat) : Bool := bit (s.rd (A.MC_OWN x)).toNat group

/-- The record of an axis. -/
def State.ax (s : State) (x : Axis) : Ax := match x with | .a => s.axA | .b => s.axB

/-- Change the record of an axis. -/
def State.modAx (s : State) (x : Axis) (f : Ax → Ax) : State :=
  match x with
  | .a => { s with axA := f s.axA }
  | .b => { s with axB := f s.axB }

/-- The services of an axis. -/
def State.sv (s : State) (x : Axis) : Svc := match x with | .a => s.svA | .b => s.svB

/-- Change the services of an axis. -/
def State.modSv (s : State) (x : Axis) (f : Svc → Svc) : State :=
  match x with
  | .a => { s with svA := f s.svA }
  | .b => { s with svB := f s.svB }

/-- R13: a register as the latest sample instant of the axis latched it; while the timebase is stopped, as it stands (R26). -/
def State.latRd (s : State) (x : Axis) (a : Nat) : Word :=
  if s.flag (F.PW_CTRL_EN x) then cget regPor (s.sv x).lat a else s.rd a

/-- R13: a 32-bit field as the latest sample instant latched it. -/
def State.latWord (s : State) (x : Axis) (f : Fld) : Word := BitVec.ofNat 32 (fieldOf f (s.latRd x f.reg))

/-- The record of a Trellis die. -/
def State.tr (s : State) (x : Axis) : Tr := match x with | .a => s.trA | .b => s.trB

/-- Change the record of a Trellis die. -/
def State.modTr (s : State) (x : Axis) (f : Tr → Tr) : State :=
  match x with
  | .a => { s with trA := f s.trA }
  | .b => { s with trB := f s.trB }

/-- The record of an axis timebase. -/
def State.tb (s : State) (x : Axis) : Tb := match x with | .a => s.tbA | .b => s.tbB

/-- Change the record of an axis timebase. -/
def State.modTb (s : State) (x : Axis) (f : Tb → Tb) : State :=
  match x with
  | .a => { s with tbA := f s.tbA }
  | .b => { s with tbB := f s.tbB }

/-- Change the record of the sensing block. -/
def State.modSns (s : State) (f : Sense → Sense) : State := { s with sns := f s.sns }

/-- The value written to a field that takes effect later: an RWS field's shadow copy (table 0.4), or the written value of an
RW field whose chapter delays it. -/
def State.want (s : State) (f : Fld) : Nat := fieldOf f (s.rdSh f.reg)

/-- Write a field's shadow copy. -/
def State.setSh (s : State) (f : Fld) (v : Nat) : State := s.wrSh f.reg (putField f (s.rdSh f.reg) v)

/-- A field's shadow copy takes effect. -/
def State.take (s : State) (f : Fld) : State := s.set f (s.want f)

/-- The Sundial counter, in ticks of 2.5 ns (R203). -/
def State.now (s : State) : Nat := s.sun.cnt.toNat

/-- Clocks of 2.5 ns since power-on: what elapsed times are measured with, which no set or step of the Sundial changes (log
entry 43). -/
def State.ticks (s : State) : Nat := s.sun.tick

end Sys2Proof.Machine
end

