-- ==== Sys2Proof/Machine/Bandstand.lean ====
section
/-! DEFINITION. The Bandstand: releasing a graph, making tasks ready as their inputs are delivered, placing ready tasks on
kiosk queues (spec/05_kiosks_fabric.md, R12, R135, R145 to R148, R157, R161). -/

namespace Sys2Proof.Machine

/-- Margin of a band in percent (table 5.7, R157). -/
def bandMargin (band : Nat) : Nat := nth 12 [6, 5, 7, 9, 12] band

/-- Floor count of a band per 10 µs gate (table 5.7, R156). -/
def bandFloor (band : Nat) : Nat := nth 4200 [5400, 5400, 5000, 4650, 4200] band

/-- Kiosk role that runs the graphs of an owner: 0 axis A, 1 axis B, 3 background (R135, table 4.4). -/
def roleOf (owner : Nat) : Nat := if owner = 3 then 3 else owner + 1

/-- Role of kiosk k in the running image. -/
def State.role (s : State) (k : Nat) : Nat := nth 0 s.img.roles k

/-- Kiosk k. -/
def State.kiosk (s : State) (k : Nat) : Kiosk := nth Kiosk.idle s.fab.kiosks k

/-- Change kiosk k. -/
def State.modKiosk (s : State) (k : Nat) (f : Kiosk → Kiosk) : State :=
  s.modFab (fun b => { b with kiosks := setNth b.kiosks k (f (s.kiosk k)) })

/-- Graph number g of the running image. -/
def State.graphD (s : State) (g : Nat) : Option GraphD := s.img.graphs[g]?

/-- Task t of graph g. -/
def State.taskD (s : State) (g t : Nat) : Option TaskD :=
  match s.graphD g with
  | some d => d.tasks[t]?
  | none => none

/-- The released instance of graph g (R145: at most one). -/
def State.instOf (s : State) (g : Nat) : Option Inst := s.fab.insts.find? (fun i => i.graph == g)

/-- Replace the instance of its graph. -/
def State.putInst (s : State) (i : Inst) : State :=
  s.modFab (fun b => { b with insts := i :: b.insts.filter (fun j => !(j.graph == i.graph)) })

/-- Remove the instance of graph g. -/
def State.dropInst (s : State) (g : Nat) : State :=
  s.modFab (fun b => { b with insts := b.insts.filter (fun j => !(j.graph == g)) })

/-- COST of a queued task. -/
def State.qcost (s : State) (q : QTask) : Nat :=
  match s.taskD q.graph q.task with
  | some d => d.cost
  | none => 0

/-- Queued cost of a kiosk (R146). -/
def State.queueCost (s : State) (k : Nat) : Nat := ((s.kiosk k).queue.map s.qcost).sum

/-- Among the kiosks, the one of least queued cost, the lowest number at a tie (R146). -/
def leastKiosk (cost : Nat → Nat) (ks : List Nat) : Option Nat :=
  ks.foldl (fun best k =>
    match best with
    | none => some k
    | some b => if cost k < cost b then some k else some b) none

/-- Role of the kiosks that may run a task: its graph's (R146), or the background where WINDOW is set (R166). -/
def taskRole (g : GraphD) (d : TaskD) : Nat := if bit d.flags 1 then 3 else roleOf g.axis

/-- The kiosk a ready task goes to: a pinned task's own, a roaming task's the one of its role with the least queued cost;
none while no queue it may join has room (R146, R147; log entry 6), and none for a WINDOW task pinned to a kiosk of an axis (R166). -/
def State.placeFor (s : State) (q : QTask) : Option Nat :=
  match s.graphD q.graph, s.taskD q.graph q.task with
  | some g, some d =>
    if bit d.flags 0 then
      if (s.kiosk d.kiosk).queue.length < 8 ∧ (bit d.flags 1 = true → s.role d.kiosk = 3) then some d.kiosk else none
    else
      leastKiosk s.queueCost ((List.range 24).filter (fun k =>
        s.role k == taskRole g d && decide ((s.kiosk k).queue.length < 8)))
  | _, _ => none

/-- Set the standing of a task. -/
def Inst.setTask (i : Inst) (t : Nat) (st : TStat) : Inst := { i with tasks := setNth i.tasks t st }

/-- Set the standing of a task in its graph's instance. -/
def State.setTStat (s : State) (g t : Nat) (st : TStat) : State :=
  match s.instOf g with
  | some i => s.putInst (i.setTask t st)
  | none => s

/-- Put one ready task on the queue R146 gives it, waking the kiosks that wait (R151); it stays ready where there is no
room (R147). -/
def State.place (s : State) (q : QTask) : State :=
  match s.placeFor q with
  | none => s.modFab (fun b => { b with ready := b.ready ++ [q] })
  | some k =>
    let s := s.modKiosk k (fun ki => { ki with queue := ki.queue ++ [q], resting := false })
    let s := s.setTStat q.graph q.task .queued
    match s.taskD q.graph q.task with
    | some d =>
      if bit d.flags 0 then s
      else s.forEach (List.range 24) (fun s j =>
        if s.role j == s.role k then s.modKiosk j (fun ki => { ki with resting := false }) else s)
    | none => s

/-- Place every ready task that finds room, in the order of release (R146, R147). -/
def State.placeReady (s : State) : State :=
  let q := s.fab.ready
  (s.modFab (fun b => { b with ready := [] })).forEach q State.place

/-- Edges into a task, by index. -/
def GraphD.inEdges (g : GraphD) (t : Nat) : List Nat :=
  (List.range g.edges.length).filter (fun e => (nth (0, 0) g.edges e).2 == t)

/-- Edges from a task, or from a delivery source, by index. -/
def GraphD.outEdges (g : GraphD) (src : Nat) : List Nat :=
  (List.range g.edges.length).filter (fun e => (nth (0, 0) g.edges e).1 == src)

/-- Make ready every waiting task all of whose inputs have been delivered (R12). -/
def State.readyTasks (s : State) (g : Nat) : State :=
  match s.graphD g, s.instOf g with
  | some d, some i =>
    let new := (List.range d.tasks.length).filter (fun t =>
      nth .gone i.tasks t == .waiting && (d.inEdges t).all (fun e => i.seen.contains e))
    let dl := if d.cls == 0 then some (5 * i.start + 2 * d.deadline) else none
    s.forEach new (fun s t =>
      let s := s.setTStat g t .ready
      s.modFab (fun b => { b with
          ready := b.ready ++ [{ graph := g, task := t, dl := dl, rel := b.relSeq }]
          relSeq := b.relSeq + 1 }))
  | _, _ => s

/-- Deliver the outputs of a task (or of delivery source s as 0xFF00 + s) to the graph's running instance (R12). -/
def State.deliver (s : State) (g src : Nat) : State :=
  match s.graphD g, s.instOf g with
  | some d, some i =>
    let s := s.putInst { i with seen := i.seen ++ (d.outEdges src).filter (fun e => !i.seen.contains e) }
    (s.readyTasks g).placeReady
  | _, _ => s

/-- A trigger of graph g now (R188: it serves the first update instant strictly later; R13: a graph of an axis uses what the sample
instant latched). -/
def State.triggerOf (s : State) (g : Nat) : Trigger :=
  let x : Axis := match s.graphD g with | some d => if d.axis = 1 then .b else .a | none => .a
  let mine := match s.graphD g with | some d => decide (d.axis < 2) && s.flag (F.PW_CTRL_EN x) | none => false
  { graph := g, at_ := s.now, start := s.ticks, serves := (s.tb x).upd + 1, band := s.fld F.ORG_TJ_BAND,
    lat := if mine then some (s.sv x).lat else none }

/-- R145, R161: a trigger releases its graph, or counts an overrun for its owner while an instance still runs; background graphs
are no longer released after an uncorrectable error in background memory (table 5.1). -/
def State.releaseAt (s : State) (t : Trigger) : State :=
  let g := t.graph
  match s.graphD g with
  | none => s
  | some d =>
    if !s.isRunning || (d.axis == 3 && s.fab.bgStop) then s
    else
      match s.instOf g with
      | some _ =>
        if d.axis == 0 then s.inc F.HB_LATE_OVR_A
        else if d.axis == 1 then s.inc F.HB_LATE_OVR_B
        else s
      | none =>
        let s := s.set F.HB_PACE_STAT_MARGIN_BAND t.band
        let s := s.putInst { graph := g, trigAt := t.at_, start := t.start, serves := t.serves, margin := bandMargin t.band, seen := [],
                             tasks := List.replicate d.tasks.length .waiting, old := [], bodies := [], recs := [], lat := t.lat }
        (s.readyTasks g).placeReady

/-- A trigger that releases its graph at once, as an event does (R516). -/
def State.releaseGraph (s : State) (g : Nat) : State := s.releaseAt (s.triggerOf g)

/-- The Bandstand is signalled a trigger of graph g, which it acts on at GRAPH_TRIGGER (R145). -/
def State.signalGraph (s : State) (g : Nat) : State :=
  s.modFab (fun b => { b with trigs := b.trigs ++ [s.triggerOf g] })

/-- Numbers of the graphs with a given trigger (table 4.5). -/
def State.graphsOn (s : State) (trigger arg : Nat) (owner : Option Nat) : List Nat :=
  (List.range s.img.graphs.length).filter (fun g =>
    match s.graphD g with
    | some d => d.trigger == trigger && d.trigArg == arg && (owner == none || owner == some d.axis)
    | none => false)

/-- Tasks that never become ready, after `fuel` rounds: those abandoned, and those fed by one that never does (R155). -/
def GraphD.dead (g : GraphD) (i : Inst) (fuel : Nat) : List Nat :=
  match fuel with
  | 0 => (List.range i.tasks.length).filter (fun t => nth .gone i.tasks t == .gone)
  | n + 1 =>
    let l := g.dead i n
    (List.range i.tasks.length).filter (fun t => l.contains t || (g.inEdges t).any (fun e => l.contains (nth (0, 0) g.edges e).1))

/-- The instance is over: every task of it has ended, was abandoned, or waits for what an abandoned task would have fed (R145, R155;
log entry 7). -/
def Inst.over (i : Inst) (g : GraphD) : Bool :=
  let l := g.dead i i.tasks.length
  i.tasks.zipIdx.all (fun e => e.1 == .done || e.1 == .gone || (e.1 == .waiting && l.contains e.2))

/-- A period graph of an axis has ended: the capture counts it (R423). -/
def State.graphEnded (s : State) (g : Nat) (i : Inst) : State :=
  match s.graphD g with
  | some d =>
    if d.trigger = 0 ∧ d.axis < 2 then
      s.modSv (if d.axis = 1 then .b else .a) (fun v => { v with
        cap := { v.cap with dec := v.cap.dec + 1, stamp := i.trigAt, serves := i.serves } })
    else s
  | none => s

/-- Remove the instance of graph g where it is over. -/
def State.endInst (s : State) (g : Nat) : State :=
  match s.instOf g, s.graphD g with
  | some i, some d => if i.over d then (s.dropInst g).graphEnded g i else s
  | _, _ => s

end Sys2Proof.Machine
end

