-- ==== Sys2Proof/Machine/Lodge.lean ====
section
/-! DEFINITION. The Lodge and the event router (spec/15_fault_collection.md), with what an event's routes do: graph release
(R516), the Pergola trigger (R607 to R610) and the capture trigger (R426). -/

namespace Sys2Proof.Machine

/-! ### The Pergola trigger -/

/-- Pergola channel n. -/
def State.pch (s : State) (n : Nat) : PglCh := nth PglCh.reset s.pgl.chans n

/-- Change Pergola channel n. -/
def State.modPch (s : State) (n : Nat) (f : PglCh → PglCh) : State :=
  (s.modPgl (fun b => { b with chans := setNth s.pgl.chans n (f (s.pch n)) }))

/-- Pergola channel n's trigger queue. -/
def State.pglQueue (s : State) (n : Nat) : List Nat := (s.pch n).queue

/-- Set channel n's trigger queue and the QUEUED field that shows its length. -/
def State.setPglQueue (s : State) (n : Nat) (q : List Nat) : State :=
  (s.modPch n (fun c => { c with queue := q })).set (F.PGL_CH_STAT_QUEUED n) q.length

/-- R610: an IDLE channel with a queued entry removes it and becomes ACTIVE at that descriptor. -/
def State.pglTake (s : State) (n : Nat) : State :=
  if s.fld (F.PGL_CH_STAT_STATE n) = 0 then
    match s.pglQueue n with
    | [] => s
    | d :: r =>
      let s := ((s.setPglQueue n r).modPch n (fun c => { c with desc := none, done := 0, mid := false })).set (F.PGL_CH_STAT_STATE n) 1
      s.set (F.PGL_CH_CUR n) d
  else s

/-- R607, R609: trigger channel n with a descriptor address: ignored and counted where the channel does not exist, where its
queue is full, or where it is STOPPED. -/
def State.pglTrigger (s : State) (n : Nat) (desc : Nat) : State :=
  if !(s.flag (F.PGL_CH_CFG_EXISTS n)) then s.inc F.PGL_STAT_NOCH
  else if decide (2 ≤ (s.pglQueue n).length) || s.fld (F.PGL_CH_STAT_STATE n) == 4 then
    (s.inc (F.PGL_CH_CNT_LOST n)).set (F.PGL_CH_STAT_LOST_SEEN n) 1
  else (s.setPglQueue n (s.pglQueue n ++ [desc])).pglTake n

/-- A trigger that queues the address CHn_DESC holds (R609). -/
def State.pglTrigReg (s : State) (n : Nat) : State := s.pglTrigger n (s.fld (F.PGL_CH_DESC n))

/-! ### Events -/

/-- A number that table 15.4 gives a name: the others are reserved and never raised (R515). -/
def eventNamed (e : Nat) : Bool :=
  decide (e ≤ 55) && e != 21 || (decide (56 ≤ e) && decide (e ≤ 82)) || (decide (84 ≤ e) && decide (e ≤ 127))

/-- R516: set the event's pending bit and act on its KIOSK and PGL routes; the IRQ and WKT routes act through the bit
(R517, R518). -/
def State.raise1 (s : State) (e : Nat) : State :=
  let v := s.fld (F.LDG_EVT_PEND (e / 32))
  let s := s.set (F.LDG_EVT_PEND (e / 32)) (if bit v (e % 32) then v else v + 2 ^ (e % 32))
  let s := if s.flag (F.LDG_ROUTE_KIOSK e) then s.forEach (s.graphsOn 2 e none) State.releaseGraph else s
  if s.flag (F.LDG_ROUTE_PGL e) then s.pglTrigReg (s.fld (F.LDG_ROUTE_PGL_CH e)) else s

/-- R426: an axis whose armed capture waits for event e as its trigger. -/
def State.capWaits (s : State) (x : Axis) (e : Nat) : Bool :=
  s.flag (F.MC_CAP_STAT_RUNNING x) && !s.flag (F.MC_CAP_STAT_TRIGGERED x) &&
    s.fld (F.MC_CAP_CFG_TRIG x) == 2 && s.fld (F.MC_CAP_CFG_EVT x) == e

/-- R426: the trigger of a capture: the frames there are now precede it. -/
def State.capMark (s : State) (x : Axis) : State :=
  (s.set (F.MC_CAP_STAT_TRIGGERED x) 1).modSv x (fun v => { v with
    cap := { v.cap with trigAt := some v.cap.frames, blocks := 0 } })

/-- Raise an event and the captures it triggers; "capture triggered" is itself an event, so at most the two axes follow one
another (`fuel` 3). -/
def State.raiseN (s : State) (fuel : Nat) (e : Nat) : State :=
  match fuel with
  | 0 => s.raise1 e
  | fuel + 1 =>
    let s := s.raise1 e
    s.forEach [Axis.a, Axis.b] (fun s x =>
      if s.capWaits x e then (s.capMark x).raiseN fuel (evAx x 14) else s)

/-- Raise event e (R516). -/
def State.event (s : State) (e : Nat) : State := if eventNamed e then s.raiseN 3 e else s

/-- Raise the event of offset o of an axis (R515). -/
def State.evx (s : State) (x : Axis) (o : Nat) : State := s.event (evAx x o)

/-- Some pending event has the route bit `f` set (R517, R518). -/
def State.routedPending (s : State) (f : Nat → Fld) : Bool :=
  (List.range 128).any (fun e => bit (s.fld (F.LDG_EVT_PEND (e / 32))) (e % 32) && s.flag (f e))

/-- IRQ0_N is driven low (R517); outside RUNNING it is released (table 2.9). -/
def State.irq0 (s : State) : Bool := s.isRunning && s.routedPending F.LDG_ROUTE_IRQ0
/-- IRQ1_N is driven low (R517); outside RUNNING it is released (table 2.9). -/
def State.irq1 (s : State) : Bool := s.isRunning && s.routedPending F.LDG_ROUTE_IRQ1
/-- The Wicket reply's event flag (R518). -/
def State.evtFlag (s : State) : Bool := s.routedPending F.LDG_ROUTE_WKT

/-! ### Faults -/

/-- Class of a fault code: 1 CORRECTED, 2 CONTAINED, 3 FATAL (tables 15.1 and 15.2, R502, R510). -/
def faultClass (code : Nat) : Nat :=
  if [10, 11, 14, 31, 32, 37, 38, 40, 41, 43, 46, 48, 49, 51, 52].contains code then 1
  else if [33, 34, 35, 36].contains code then 3
  else 2

/-- Scope of a fault: 0 DEVICE, 1 AXIS_A, 2 AXIS_B, 3 BACKGROUND, 4 BLOCK as table 15.1 encodes them; 5 and 6 stand for the
blocks Cascade A and Cascade B, whose records lie in the axis sets (R511). -/
def scAxis (x : Axis) : Nat := 1 + x.ix
@[inherit_doc scAxis] def scCascade (x : Axis) : Nat := 5 + x.ix

/-- SCOPE field of a log entry (table 15.3). -/
def scopeEnc (sc : Nat) : Nat := if 5 ≤ sc then 4 else sc

/-- Set of status and cause registers of a scope: 0 axis A, 1 axis B, 2 device (R511). -/
def scopeSet (sc : Nat) : Nat := if sc = 1 ∨ sc = 5 then 0 else if sc = 2 ∨ sc = 6 then 1 else 2

/-- The status register of a code in the set of a scope (R511). -/
def stFld (sc code : Nat) : Fld := F.LDG_ST (2 * scopeSet sc + code / 32)
/-- The cause register of a code in the set of a scope (R511). -/
def causeFld (sc code : Nat) : Fld := F.LDG_CAUSE (2 * scopeSet sc + code / 32)

/-- Set or clear bit n of a field. -/
def State.setBit (s : State) (f : Fld) (n : Nat) (b : Bool) : State :=
  let v := s.fld f
  let v0 := if bit v n then v - 2 ^ n else v
  s.set f (if b then v0 + 2 ^ n else v0)

/-- Bit n of a field. -/
def State.getBit (s : State) (f : Fld) (n : Nat) : Bool := bit (s.fld f) n

/-- R507: the cause of a code is present from now on, or no longer. -/
def State.setCause (s : State) (sc code : Nat) (b : Bool) : State := s.setBit (causeFld sc code) (code % 32) b

/-- The cause of a code is present. -/
def State.cause (s : State) (sc code : Nat) : Bool := s.getBit (causeFld sc code) (code % 32)

/-- A full write of a 32-byte word replaces its check bits (R134); the cause of its code 18 or 35 is present until every such word
of the code and scope has been rewritten (table 15.2). -/
def State.eccClear (s : State) (w : Nat) : State :=
  let gone := s.found.filter (fun e => e.1 == w)
  let s := (s.setEcc (s.ecc1.filter (fun a => !(a == w))) (s.ecc2.filter (fun a => !(a == w)))).setFound
    (s.found.filter (fun e => !(e.1 == w)))
  s.forEach gone (fun s e => if s.found.any (fun q => q.2 == e.2) then s else s.setCause e.2.2 e.2.1 false)

/-- Words that a transition of an axis zeroes: one with a double-bit error stays as stored (R134), for the next access to find
(log entry 49). -/
def State.putWords (s : State) (a : Nat) (ws : List Word) : State :=
  s.forEach ws.zipIdx (fun s e => if s.ecc2.contains (lineOf (a + 4 * e.2)) then s else s.st32 (a + 4 * e.2) e.1)

/-- A word of memory is found uncorrectable: the cause of its code stays until it is rewritten in full (table 15.2). -/
def State.eccFound (s : State) (w code sc : Nat) : State :=
  (s.setFound (if s.found.contains (w, code, sc) then s.found else s.found ++ [(w, code, sc)])).setCause sc code true

/-- Entry of the log the next record goes to (R512): the oldest of the ring once COUNT is 64. SEQ counts every record since the log clear
(R514) and 48 is a multiple of 16, so that SEQ mod 16 tells the ring entry whatever LOST holds. -/
def State.logNext (s : State) : Nat :=
  let c := s.fld F.LDG_LOG_STAT_COUNT
  if c < 64 then c else 48 + s.fld F.LDG_LOG_STAT_SEQ % 16

/-- R512, R513: write one log record in one step; a record that replaces a ring entry counts LOST and raises E110. -/
def State.logRecord (s : State) (code cls sc unit detail : Nat) : State :=
  let i := s.logNext
  let full := s.fld F.LDG_LOG_STAT_COUNT == 64
  let seq := s.fld F.LDG_LOG_STAT_SEQ
  let s := s.set (F.LDG_LOG (4 * i)) (s.now % 2 ^ 32)
  let s := s.set (F.LDG_LOG (4 * i + 1)) (s.now / 2 ^ 32)
  let s := s.set (F.LDG_LOG (4 * i + 2)) (seq * 2 ^ 24 + unit % 256 * 2 ^ 16 + scopeEnc sc * 2 ^ 10 + cls * 2 ^ 8 + code)
  let s := s.set (F.LDG_LOG (4 * i + 3)) detail
  let s := s.set F.LDG_LOG_STAT_SEQ (seq + 1)
  if full then (s.inc F.LDG_LOG_STAT_LOST).event 110 else s.inc F.LDG_LOG_STAT_COUNT

/-- R502 to R505: raise a fault in RUNNING: its status bit, its log entry (a CORRECTED fault whose bit is already 1 counts in
REPEAT instead), its events. -/
def State.raiseNow (s : State) (code sc unit detail : Nat) : State :=
  let cls := faultClass code
  let again := s.getBit (stFld sc code) (code % 32)
  let s := s.setBit (stFld sc code) (code % 32) true
  let s := if cls == 1 && again then s.inc F.LDG_REPEAT_COUNT else s.logRecord code cls sc unit detail
  if cls == 1 then s.event 108
  else if cls == 3 then s.event 111
  else if sc = 1 then s.event 0
  else if sc = 2 then s.event 28
  else s.event 109

/-- Pending count of Grotto counter k (R553). -/
def grtPend (k : Nat) : Fld :=
  if k = 1 then F.GRT_PEND_HS_A else if k = 2 then F.GRT_PEND_HS_B else if k = 3 then F.GRT_PEND_THERM else F.GRT_PEND_FATAL

/-- Counters that a raise of a code adds to (R553). -/
def grtCounters (code sc : Nat) : List Nat :=
  if code = 1 ∨ code = 2 then (if sc = 1 then [1] else [2])
  else if code = 36 then [3, 4]
  else if code = 33 ∨ code = 34 ∨ code = 35 then [4]
  else []

/-- Change the record of the Grotto. -/
def State.modOtp (s : State) (f : Otp → Otp) : State := { s with otp := f s.otp }

/-- GO bits and BUSY read 1 while an operation of theirs waits or runs. -/
def State.grtShow (s : State) : State :=
  ((s.setB F.GRT_PROG_GO (s.otp.queue.any (fun r => r.src == 0))).setB F.GH_FLOOR_ADV_GO
    (s.otp.queue.any (fun r => r.src == 1))).setB F.GRT_STAT_BUSY (!s.otp.queue.isEmpty || bit s.otp.verify 1)

/-- The boot is over: it has ended in RUNNING, or without an image in NO_IMAGE or LOCKED (R89, R90); WAIT_HOST is its step 5. -/
def State.booted (s : State) : Bool := s.isUp && decide (5 ≤ s.fld F.GH_BOOT_STATUS_STATE)

/-- R544, R89: a band change once the boot is over asks for a re-verify, or restarts one; the one that awaits the first sample instant
after RUNNING stays asked for. -/
def State.reverifyAsk (s : State) : State :=
  if s.booted then
    (s.modOtp (fun o => { o with verify := 2 + o.verify % 2 })).grtShow
  else s

/-- Mark the axes a fault moves to SAFE at their next evaluation (R285): the axis of a CONTAINED axis fault, both axes at a
FATAL fault; and those whose HOLD (R350) or injection (R421) a fault of the axis ends. -/
def State.markAxes (s : State) (code sc : Nat) : State :=
  if faultClass code == 3 then
    (s.modAx .a (fun a => { a with fault := true, hit := true })).modAx .b (fun a => { a with fault := true, hit := true })
  else
    let safe := faultClass code == 2
    let mark (x : Axis) : State := (s.modAx x (fun a => { a with fault := a.fault || safe, hit := true })).modSv x (fun v =>
      { v with fol := { v.fol with hurt := true } })
    if sc = 1 then mark .a else if sc = 2 then mark .b else s

/-! ### Tests that a fault ends (R639, R641) -/

/-- Target axis of a test slot (table 21.1). -/
def testAxis (k : Nat) : Option Axis :=
  if k = 2 ∨ k = 4 ∨ k = 7 ∨ k = 9 then some .a else if k = 3 ∨ k = 5 ∨ k = 8 ∨ k = 10 then some .b else none

/-- A test of the slot runs, or waits. -/
def State.testRuns (s : State) (k : Nat) : Bool := s.fld (F.STC_TSTAT_STATE k) == 2
@[inherit_doc State.testRuns] def State.testWaits (s : State) (k : Nat) : Bool := s.fld (F.STC_TSTAT_STATE k) == 1

/-- R638, R639: a foreground or quiet-window test that waits may start now: its axis is in OFF, or in SAFE or LOCKOUT, where it does not
wait (DEDUCED; log entry 59), but for an ASC, which keeps the bridge enabled (R649, R651). -/
def State.testMay (s : State) (k : Nat) : Bool :=
  !(List.range 11).any (fun j => decide (2 ≤ j) && s.testRuns j) &&
    (if k < 7 then !(s.bridgeOn .a) && !(s.bridgeOn .b)
     else match testAxis k with
      | some x => (s.axState x == 0 || decide (7 ≤ s.axState x)) && !s.bridgeOn x
      | none => true)

/-- The lowest slot that waits and may start (R638, R639). -/
def State.testDue (s : State) : Option Nat := (List.range 11).find? (fun k => s.testWaits k && s.testMay k)

/-- Every gate of the die that slot k tests is off (R651); another slot asks for none. -/
def State.gatesQuiet (s : State) (k : Nat) : Bool :=
  k < 9 || (match testAxis k with | some x => (s.tr x).gates == 0 | none => true)

/-- R638, R639: the lowest slot that waits and may start does so as another ends; a TRIM whose die drives a gate waits for
QUEUED_TEST_START, which turns it off. -/
def State.testNext (s : State) : State :=
  match s.testDue with
  | some k => if s.gatesQuiet k then s.set (F.STC_TSTAT_STATE k) 2 else s
  | none => s

/-- Change the record of self-test. -/
def State.modStc (s : State) (f : Stc → Stc) : State := { s with stc := f s.stc }

/-- R642: a test ends with a RESULT and its DETAIL: E104, and the next one that waits starts. -/
def State.testEnd (s : State) (k result detail : Nat) : State :=
  let s := s.modStc (fun t => { t with outs := t.outs.filter (fun o => !(o.slot == k)) })
  let s := ((s.set (F.STC_TSTAT_STATE k) 0).set (F.STC_TSTAT_RESULT k) result).set (F.STC_TSTAT_DETAIL k) detail
  let s := if result = 1 then s.inc (F.STC_TSTAT_PASSES k) else s
  let s := if k = 1 then s.set F.STC_SCRUB_STAT_RUNNING 0 else s
  (s.event 104).testNext

/-- R641: the tests that run at the raise of a fault of a code and scope, and that it ends; one that starts as they end runs on. -/
def State.testAbort (s : State) (code sc : Nat) : State :=
  s.forEach ((List.range 11).filter (fun k =>
      s.testRuns k && (faultClass code == 3 || (match testAxis k with | some x => sc == scAxis x | none => false))))
    (fun s k => s.testEnd k 4 0)

/-- R504, R285, R641: raise a fault, with the axes it marks and the tests it ends. -/
def State.faultNow (s : State) (code sc unit detail : Nat) : State :=
  ((s.raiseNow code sc unit detail).markAxes code sc).testAbort code sc

/-- R508: a fault detected between leaving reset and RUNNING is held, once for each code, scope and UNIT. -/
def State.hold (s : State) (code sc unit detail : Nat) : State :=
  if !s.isUp || s.held.any (fun h => h.code == code && h.scope == sc && h.unit == unit) then s
  else s.setHeld (s.held ++ [{ code := code, scope := sc, unit := unit, detail := detail }])

/-- R553, R555: add one to the pending count of counter k; a saturated counter gives E103 and code 48 instead. -/
def State.grtAdd (s : State) (k : Nat) : State :=
  if s.getBit F.GRT_STAT_SAT k then
    (if s.isRunning then s.faultNow 48 4 k 0 else s.hold 48 4 k 0).event 103
  else s.inc (grtPend k)

/-- R504, R508: raise a fault; before RUNNING it is held and raised once at RUNNING, except code 36 (R528). -/
def State.fault (s : State) (code sc unit detail : Nat) : State :=
  if s.isRunning || code == 36 then (s.faultNow code sc unit detail).forEach (grtCounters code sc) State.grtAdd
  else s.hold code sc unit detail

/-- Raise a fault whose cause is present from now on. -/
def State.faultOn (s : State) (code sc unit detail : Nat) : State :=
  (s.setCause sc code true).fault code sc unit detail

/-- A status bit of a class is set in a set of registers (table 15.6). -/
def State.anyStatus (s : State) (set cls : Nat) : Bool :=
  (List.range 53).any (fun c => faultClass c == cls && c != 0 && s.getBit (F.LDG_ST (2 * set + c / 32)) (c % 32))

/-- R521: FLT_N is driven low; outside RUNNING table 2.9 drives it low. -/
def State.fltLow (s : State) : Bool :=
  !s.isRunning ||
  s.anyStatus 2 3 ||
  (s.flag F.LDG_FLT_CFG_CONT_A && s.anyStatus 0 2) || (s.flag F.LDG_FLT_CFG_CONT_B && s.anyStatus 1 2) ||
  (s.flag F.LDG_FLT_CFG_CONT_D && s.anyStatus 2 2) ||
  (s.flag F.LDG_FLT_CFG_CORR && (s.anyStatus 0 1 || s.anyStatus 1 1 || s.anyStatus 2 1)) ||
  s.flag F.LDG_LOCKOUT_A || s.flag F.LDG_LOCKOUT_B

/-- A cause of a CONTAINED fault of the axis is present (R292, R485): scope AXIS_x only, so the Cascade codes do not count
(R498). -/
def State.axisCause (s : State) (x : Axis) : Bool :=
  (List.range 53).any (fun c => faultClass c == 2 && c != 0 && c != 12 && c != 13 && s.cause (scAxis x) c)

/-- A cause of a FATAL fault is present (R292, R485, R503). -/
def State.fatalCause (s : State) : Bool :=
  (List.range 53).any (fun c => faultClass c == 3 && s.cause 0 c)

/-! ### The Lodge's own commands -/

/-- R506, R9: W1C on a status register: a bit whose cause is present stays. -/
def State.statusClear (s : State) (k : Nat) (w : Word) : State :=
  s.set (F.LDG_ST k) ((s.rd (A.LDG_ST k)) &&& ~~~(w &&& ~~~(s.rd (A.LDG_CAUSE k)))).toNat

/-- R519: W1C on a pending register. -/
def State.evtClear (s : State) (k : Nat) (w : Word) : State :=
  s.set (F.LDG_EVT_PEND k) ((s.rd (A.LDG_EVT_PEND k)) &&& ~~~w).toNat

/-- R514: a keyed log clear: every entry zero, COUNT 0, LOST, SEQ and REPEAT zero. -/
def State.logClr (s : State) (w : Word) : State :=
  if fieldOf F.LDG_LOG_CLR_KEY w = 0x3CC3 ∧ fieldOf F.LDG_LOG_CLR_LOG w = 1 then
    let s := s.forEach (List.range 256) (fun s n => s.wr (A.LDG_LOG n) 0)
    (((s.set F.LDG_LOG_STAT_COUNT 0).set F.LDG_LOG_STAT_LOST 0).set F.LDG_LOG_STAT_SEQ 0).set F.LDG_REPEAT_COUNT 0
  else s

/-- R520: a write of ROUTEn changes its IRQ0, IRQ1 and WKT bits only. -/
def State.routeWrite (s : State) (n : Nat) (w : Word) : State :=
  ((s.set (F.LDG_ROUTE_WKT n) (fieldOf (F.LDG_ROUTE_WKT n) w)).set (F.LDG_ROUTE_IRQ1 n)
    (fieldOf (F.LDG_ROUTE_IRQ1 n) w)).set (F.LDG_ROUTE_IRQ0 n) (fieldOf (F.LDG_ROUTE_IRQ0 n) w)

/-- STATUS_CLEAR: a W1C write of status register k (0 to 5: ST_A0 to ST_D1) in RUNNING. -/
def execStatusClear (k : Nat) (w : Word) (s : State) : Host.Outcome State Fault Refusal :=
  .next (s.running (fun s => if k < 6 then s.statusClear k w else s))

/-- EVT_PEND_CLEAR: a W1C write of pending register k. -/
def execEvtPendClear (k : Nat) (w : Word) (s : State) : Host.Outcome State Fault Refusal :=
  .next (s.running (fun s => if k < 4 then s.evtClear k w else s))

/-- LOG_CLR: a write of LDG.LOG_CLR. -/
def execLogClr (w : Word) (s : State) : Host.Outcome State Fault Refusal := .next (s.running (fun s => s.logClr w))

/-- ROUTE_WRITE: a write of LDG.ROUTEn. -/
def execRouteWrite (n : Nat) (w : Word) (s : State) : Host.Outcome State Fault Refusal :=
  .next (s.running (fun s => if n < 128 then s.routeWrite n w else s))

end Sys2Proof.Machine
end

