-- ==== Sys2Proof/Machine/Params.lean ====
section
/-! DEFINITION. Parameters and maps of the running image as they stand in the section store (R101, R106, R107, R119), who
writes a register and the flags its write may set (R19, table 18.4). -/

namespace Sys2Proof.Machine

/-- Round up to a multiple of 32. -/
def up32 (n : Nat) : Nat := (n + 31) / 32 * 32

/-- First address of a section's active copy (R107). -/
def Sect.base (c : Sect) : Nat := if c.copy1 then up32 (c.dest + c.len) else c.dest

/-- First address of a section's inactive copy (R107). -/
def Sect.spare (c : Sect) : Nat := if c.copy1 then c.dest else up32 (c.dest + c.len)

/-- A runtime section: PARAM, MAP or RECIPE (table 4.2). -/
def Sect.isRuntime (c : Sect) : Bool := c.typ == 3 || c.typ == 4 || c.typ == 5

/-- Table 4.3: types that are placed in SRAM. -/
def Sect.inSram (c : Sect) : Bool := c.typ == 2 || c.isRuntime

/-- Two spans of bytes overlap. -/
def overlap (a n b m : Nat) : Bool := decide (a < b + m) && decide (b < a + n)

/-- A 16-bit number of memory, least significant byte first. -/
def State.ld16 (s : State) (a : Nat) : Nat := (s.byte a).toNat + 256 * (s.byte (a + 1)).toNat

/-- Address of the record with an ID among `n` 16-byte records. -/
def State.findRec (s : State) (a n id : Nat) : Option Nat :=
  match n with
  | 0 => none
  | n + 1 => if s.ld16 a = id then some a else s.findRec (a + 16) n id

/-- Address of the first record with an ID in the sections of a type (3 PARAM, 5 RECIPE) and an owner (0 axis A, 1 axis B,
2 device). -/
def State.recIn (s : State) (typ owner id : Nat) : Option Nat :=
  s.img.sects.findSome? (fun c =>
    if c.typ == typ && c.owner == owner then s.findRec c.base (c.len / 16) id else none)

/-- Address of a parameter's record: in a PARAM section, else in a RECIPE section (DESIGN CHOICE, log entry 42). -/
def State.recAddr (s : State) (owner id : Nat) : Option Nat := (s.recIn 3 owner id).or (s.recIn 5 owner id)

/-- VALUE of a parameter of an axis, or none where the image gives none (table 4.7). -/
def State.param? (s : State) (x : Axis) (id : Nat) : Option Word :=
  (s.recAddr x.ix id).map (fun a => s.ld32 (a + 4))

/-- VALUE of a parameter of an axis, or its default (R677). -/
def State.param (s : State) (x : Axis) (id : Nat) (dflt : Word) : Word := (s.param? x id).getD dflt

/-- A record's VALUE as an exact number, by its PTYPE: binary32, signed or unsigned (table 4.7). -/
def State.recQ (s : State) (a : Nat) : Frac :=
  let w := s.ld32 (a + 4)
  if s.byte (a + 2) = 0 then fVal w
  else if s.byte (a + 2) = 1 then (w.toInt, 1)
  else (w.toNat, 1)

/-- A parameter of an axis as an exact number, or its default. -/
def State.paramQ (s : State) (x : Axis) (id : Nat) (dflt : Frac) : Frac :=
  match s.recAddr x.ix id with
  | some a => s.recQ a
  | none => dflt

/-- A parameter of an axis as binary32. -/
def State.paramF (s : State) (x : Axis) (id : Nat) (dflt : Word) : Word :=
  match s.recAddr x.ix id with
  | some a => if s.byte (a + 2) = 0 then s.ld32 (a + 4) else fOfFrac (s.recQ a)
  | none => dflt

/-- A parameter of an axis as a whole number. -/
def State.paramN (s : State) (x : Axis) (id : Nat) (dflt : Nat) : Nat :=
  match s.recAddr x.ix id with
  | some a => (qFloor (s.recQ a)).toNat
  | none => dflt

/-- MIN and MAX of a parameter's record. -/
def State.paramRange (s : State) (x : Axis) (id : Nat) : Option (Word × Word) :=
  (s.recAddr x.ix id).map (fun a => (s.ld32 (a + 8), s.ld32 (a + 12)))

/-- Address of the MAP record with an ID among `n` 80-byte records. -/
def State.findMap (s : State) (a n id : Nat) : Option Nat :=
  match n with
  | 0 => none
  | n + 1 => if s.ld16 a = id then some a else s.findMap (a + 80) n id

/-- Address of a MAP record of an axis (table 4.8). -/
def State.mapAddr (s : State) (x : Axis) (id : Nat) : Option Nat :=
  s.img.sects.findSome? (fun c =>
    if c.typ == 4 && c.owner == x.ix then s.findMap c.base (c.len / 80) id else none)

/-- Points of a MAP record. -/
def State.mapPts (s : State) (a : Nat) : List (Word × Word) :=
  (List.range (s.byte (a + 3)).toNat).map (fun i => (s.ld32 (a + 4 + 8 * i), s.ld32 (a + 8 + 8 * i)))

/-! ### Delivery sources: the latest record of each (table 5.3), by owner (0 axis A, 1 axis B, 3 background) and source number -/

/-- The latest record of a source; zeros before the first. -/
def State.src (s : State) (owner n : Nat) : List Word :=
  match s.sources.find? (fun e => e.1 == owner && e.2.1 == n) with
  | some e => e.2.2
  | none => []

/-- Replace the latest record of a source. -/
def State.putSrc (s : State) (owner n : Nat) (r : List Word) : State :=
  { s with sources := (owner, n, r) :: s.sources.filter (fun e => !(e.1 == owner && e.2.1 == n)) }

/-- The latest value of a delivered quantity of an axis (offset 0 of its record). -/
def State.quant (s : State) (x : Axis) (n : Nat) : Word := nth 0 (s.src x.ix n) 0

/-- Who writes a register: the host through the Wicket port, or a kiosk's REG operand. -/
inductive Writer where
  | host
  | kiosk
deriving DecidableEq, Repr

/-- Bits of the reply header's flags (table 18.4). -/
def rfOwned : Nat := 20
@[inherit_doc rfOwned] def rfVoid : Nat := 19
@[inherit_doc rfOwned] def rfEnd : Nat := 18
@[inherit_doc rfOwned] def rfRunning : Nat := 17
@[inherit_doc rfOwned] def rfUncorr : Nat := 16

/-- Note a flag for the next Wicket reply, where the host made the access. -/
def State.note (s : State) (by_ : Writer) (f : Nat) : State :=
  match by_ with
  | .host => if bit s.reply f then s else s.setReply (s.reply + 2 ^ f)
  | .kiosk => s

/-- R19, R20: an expert write to a group: ignored, with OWNED noted, while the basic service owns the group. -/
def State.expert (s : State) (by_ : Writer) (x : Axis) (group : Nat) (f : State → State) : State :=
  if s.owns x group then s.note by_ rfOwned else f s

/-- Numbers of the groups of MCx.OWN (table 1.3). -/
def gSTART : Nat := 0
@[inherit_doc gSTART] def gOBS : Nat := 1
@[inherit_doc gSTART] def gCUR : Nat := 2
@[inherit_doc gSTART] def gLOOP : Nat := 3
@[inherit_doc gSTART] def gPROF : Nat := 4
@[inherit_doc gSTART] def gSTOP : Nat := 5
@[inherit_doc gSTART] def gRETRY : Nat := 6
@[inherit_doc gSTART] def gGATE : Nat := 7
@[inherit_doc gSTART] def gFLY : Nat := 8
@[inherit_doc gSTART] def gFW : Nat := 9

/-- Set a field where a written value is accepted; any other value is ignored for that field. -/
def State.setIf (s : State) (f : Fld) (w : Word) (ok : Nat → Bool) : State :=
  if ok (fieldOf f w) then s.set f (fieldOf f w) else s

/-- A value within a range. -/
def inRange (lo hi v : Nat) : Bool := decide (lo ≤ v) && decide (v ≤ hi)

end Sys2Proof.Machine
end

