-- ==== Sys2Proof/Machine/Motor.lean ====
section
/-! DEFINITION. What the services of an axis take from the image: the operator lists of its graphs (table 4.6), the motor map
(R333, R334), and the settings a basic service derives from its parameters (R22, R25, R338, R390, R391, R414). -/

namespace Sys2Proof.Machine

/-! ### Operator lists -/

/-- Operator entry j of a task: opcode and operand words (table 4.6). A WINDOW task's list lies outside the memory. -/
def State.opAt (s : State) (g t j : Nat) : Nat × List Word :=
  match s.graphD g, s.taskD g t with
  | some d, some k =>
    match s.img.sects[d.sect]? with
    | some c =>
      let a := c.base + k.oplOff + 8 * j
      ((s.byte a).toNat, s.words (c.base + (s.ld32 (a + 4)).toNat) (s.byte (a + 2)).toNat)
    | none => (0, [])
  | _, _ => (0, [])

/-- The operators of a task. -/
def State.taskOps (s : State) (g t : Nat) : List (Nat × List Word) :=
  match s.taskD g t with
  | some k => if bit k.flags 1 then [] else (List.range k.oplLen).map (s.opAt g t)
  | none => []

/-- SPACE and ADDR of an operand word (table 5.2). -/
def opSpace (w : Word) : Nat := w.toNat / 2 ^ 28
@[inherit_doc opSpace] def opAddr (w : Word) : Nat := w.toNat % 2 ^ 24

/-- Memory address of a SHARED or LOCAL operand of a task of kiosk k (R129). -/
def opMem (k : Nat) (w : Word) : Option Nat :=
  if opSpace w = 1 then some (opAddr w)
  else if opSpace w = 2 then some (0x200000 + 0x8000 * k + opAddr w)
  else none

/-- COMP_ID that a bank operand names through the register map (table 11.10; log entry 17). -/
def compOf (x : Axis) (w : Word) : Option Nat :=
  let a := opAddr w
  if opSpace w = 5 ∧ A.MC_BANK x 0 0 ≤ a ∧ a < A.MC_BANK x 0 0 + 0x240 ∧ a % 64 = 0 then some ((a - A.MC_BANK x 0 0) / 64) else none

/-- The operators of the graphs of an axis, each with the kiosk of its task. -/
def State.axisOps (s : State) (x : Axis) : List (Nat × Nat × List Word) :=
  (List.range s.img.graphs.length).flatMap (fun g =>
    match s.graphD g with
    | some d =>
      if d.axis = x.ix then
        (List.range d.tasks.length).flatMap (fun t =>
          let k := match s.taskD g t with | some td => td.kiosk | none => 0
          (s.taskOps g t).map (fun op => (k, op)))
      else []
    | none => [])

/-- The compensators among them: COMP_ID, kiosk and operand words. -/
def State.axisComps (s : State) (x : Axis) : List (Nat × Nat × List Word) :=
  (s.axisOps x).flatMap (fun op =>
    if op.2.1 = 0x15 ∨ op.2.1 = 0x16 then (compOf x (nth 0 op.2.2 2)).toList.map (fun c => (c, op.1, op.2.2)) else [])

/-- The memory words that operand i of the operators of an opcode names in the graphs of an axis. -/
def State.opWords (s : State) (x : Axis) (op i : Nat) : List Nat :=
  ((s.axisOps x).filter (fun e => e.2.1 == op)).flatMap (fun e => (opMem e.1 (nth 0 e.2.2 i)).toList)

/-- Addresses of the tracking records of the axis's compensators, and of the output word and the input word of one of them. -/
def State.compTrks (s : State) (x : Axis) : List Nat := (s.axisComps x).flatMap (fun e => (opMem e.2.1 (nth 0 e.2.2 4)).toList)
@[inherit_doc State.compTrks] def State.compOuts (s : State) (x : Axis) (c : Nat) : List Nat :=
  ((s.axisComps x).filter (fun e => e.1 == c)).flatMap (fun e => (opMem e.2.1 (nth 0 e.2.2 0)).toList)
@[inherit_doc State.compTrks] def State.compIns (s : State) (x : Axis) (c : Nat) : List Nat :=
  ((s.axisComps x).filter (fun e => e.1 == c)).flatMap (fun e => (opMem e.2.1 (nth 0 e.2.2 1)).toList)

/-- Addresses of the records of an axis's graphs that R375 sets, with a kind: 0 a compensator's history of six words x1, x2, x3,
y1, y2, y3 (log entry 18), 1 its output word, 2 a MINSEL dir record. -/
def State.compRecs (s : State) (x : Axis) : List (Nat × Nat) :=
  (s.axisOps x).flatMap (fun op =>
    let rec_ (kind i : Nat) : List (Nat × Nat) := (opMem op.1 (nth 0 op.2.2 i)).toList.map (fun a => (kind, a))
    if op.2.1 = 0x15 ∨ op.2.1 = 0x16 then rec_ 0 3 ++ rec_ 1 0 else if op.2.1 = 0x17 then rec_ 2 2 else [])

/-- The d and q voltages that an axis applies: those of R378, with the injection voltage along its axis (R337). -/
def State.dqApplied (s : State) (x : Axis) : Word × Word :=
  let v := s.sv x
  if v.injQ then (v.vda, fAdd v.vqa v.injV) else (fAdd v.vda v.injV, v.vqa)

/-- R375: the bridge of an axis becomes enabled: every history word and output 0, the dir record's winner 0 and direction +1. -/
def State.compsZero (s : State) (x : Axis) : State :=
  let s := s.forEach (s.compRecs x) (fun s r =>
    match r.1 with
    | 0 => s.putWords r.2 [0, 0, 0, 0, 0, 0]
    | 1 => s.putWords r.2 [0]
    | _ => s.putWords (r.2 + 4) [0, fOne])
  let s := s.forEach (List.range 9) (fun s c => s.set (F.MC_C_X_OUT x c) 0)
  (s.set (F.MC_SEL_STAT_DIR x) 0).set (F.MC_SEL_STAT_WIN x) 0

/-! ### Maps -/

/-- Linear interpolation between points, held flat beyond the ends (table 5.4, LUT), exact. -/
def lutQ (pts : List (Word × Word)) (x : Frac) : Frac :=
  match pts with
  | [] => (0, 1)
  | p :: [] => fVal p.2
  | p :: q :: r =>
    if qLe x (fVal p.1) then fVal p.2
    else if qLe x (fVal q.1) then
      qAdd (fVal p.2) (qMul (qSub (fVal q.2) (fVal p.2)) (qDiv (qSub x (fVal p.1)) (qSub (fVal q.1) (fVal p.1))))
    else lutQ (q :: r) x

/-- Value of a motor map record (table 10.2) at a current or a temperature; 0 where the image gives none. -/
def State.mapQ (s : State) (x : Axis) (id : Nat) (v : Frac) : Frac :=
  match s.mapAddr x id with
  | some a => lutQ (s.mapPts a) v
  | none => (0, 1)

/-- Motor temperature (R334). -/
def State.motorTemp (s : State) (x : Axis) : Frac :=
  if s.paramN x 0x0A0F 0 = 1 then
    match (s.sv x).auxGood with
    | some w => fVal w
    | none => s.paramQ x 0x0A10 (60, 1)
  else s.paramQ x 0x0A10 (60, 1)

/-- ψ and Rs at the motor temperature; Ld and Lq at a current. -/
def State.psi (s : State) (x : Axis) : Frac := s.mapQ x 4 (s.motorTemp x)
@[inherit_doc State.psi] def State.rs (s : State) (x : Axis) : Frac := s.mapQ x 3 (s.motorTemp x)
@[inherit_doc State.psi] def State.ld (s : State) (x : Axis) (i : Frac) : Frac := s.mapQ x 1 i
@[inherit_doc State.psi] def State.lq (s : State) (x : Axis) (i : Frac) : Frac := s.mapQ x 2 i

/-- x_top: the smallest last x among LD, LQ and, where present, HFI_GAIN (R335). -/
def State.xTop (s : State) (x : Axis) : Frac :=
  let last (id : Nat) : List Frac := match s.mapAddr x id with
    | some a => (s.mapPts a).getLast?.toList.map (fun p => fVal p.1)
    | none => []
  (last 1 ++ last 2 ++ last 5).foldl (fun m q => if m.2 = 0 ∨ qLt q m = true then q else m) (0, 0)

/-- POLE_PAIRS. -/
def State.poles (s : State) (x : Axis) : Frac := s.paramQ x 0x0900 (1, 1)

/-- 2π. -/
def q2Pi : Frac := qMul (2, 1) qPi

/-- Electrical rad/s of a mechanical speed in rpm (spec/01_device_overview.md, "Converting speed between the levels"). -/
def State.radOf (s : State) (x : Axis) (rpm : Frac) : Frac := qMul (qMul rpm (s.poles x)) (qDiv q2Pi (60, 1))

/-- Mechanical rpm of an electrical speed in rad/s. -/
def State.rpmOf (s : State) (x : Axis) (w : Frac) : Frac :=
  let p := s.poles x
  if p.1 = 0 then (0, 1) else qDiv (qMul w (60, 1)) (qMul q2Pi p)

/-- A quotient as binary32, by IEEE 754 where the divisor is zero. -/
def fQuot (a b : Frac) : Word := if b.1 = 0 then fDiv (fOfFrac a) fZero else fOfFrac (qNorm (qDiv a b))

/-! ### Derived settings -/

/-- The update interval of an axis in seconds for a period of T ticks: T/2 with UPD = 1, T otherwise (R389). -/
def State.tpQ (s : State) (x : Axis) (t : Nat) : Frac :=
  if !s.flag (F.PW_CTRL_CARRIER x) && s.flag (F.PW_CTRL_UPD x) then (t, 800000000) else (t, 400000000)

/-- Divider of a compensator's loop (table 11.15); 1 for CD, CQ and DL. -/
def State.loopDiv (s : State) (x : Axis) (c : Nat) : Nat :=
  match c with
  | 2 => s.fld (F.MC_LOOP_DIV_SP x) + 1
  | 3 => s.fld (F.MC_LOOP_DIV_BV x) + 1
  | 4 => s.fld (F.MC_LOOP_DIV_PW x) + 1
  | 5 => s.fld (F.MC_LOOP_DIV_TH x) + 1
  | 6 => s.fld (F.MC_LOOP_DIV_TT x) + 1
  | 8 => s.fld (F.MC_LOOP_DIV_SP x) + 1
  | _ => 1

/-- A PI bank of R390: B0 to B3, A1 to A3, KIN, LO, HI. -/
def piBank (kp ki tl lo hi : Frac) : List Word :=
  [fOfFrac (qNorm (qAdd kp (qMul ki tl))), fOfFrac (qNorm (qNeg kp)), fZero, fZero, fNeg fOne, fZero, fZero, fOne,
    fOfFrac (qNorm lo), fOfFrac (qNorm hi)]

/-- The bank the service derives for a compensator with a period of T ticks (table 11.7, R414), each value rounded once to
binary32. -/
def State.derived (s : State) (x : Axis) (c t : Nat) : List Word :=
  let p (id : Nat) (d : Frac) : Frac := s.paramQ x id d
  let tl := qMul (s.loopDiv x c, 1) (s.tpQ x t)
  let vn := p 0x0904 (0, 1)
  let iq := p 0x0B00 (0, 1)
  let bw := qMul q2Pi (p 0x0B02 (500, 1))
  let z : Frac := (0, 1)
  let pw (a : Nat) (da : Frac) (db : Frac) : List Word := piBank (p a da) (p (a + 1) db) tl z iq
  match c with
  | 0 => piBank (qMul bw (s.ld x z)) (qMul bw (s.rs x)) tl (qNeg vn) vn
  | 1 => piBank (qMul bw (s.lq x z)) (qMul bw (s.rs x)) tl (qNeg vn) vn
  | 2 =>
    let w := qMul q2Pi (p 0x0B03 (2, 1))
    let d := qMul (qMul (3, 2) (qMul (s.poles x) (s.poles x))) (s.psi x)
    let kp := if d.1 = 0 then z else qDiv (qMul w (p 0x0A00 z)) d
    piBank kp (qDiv (qMul kp w) (p 0x0B04 (4, 1))) tl (qNeg iq) iq
  | 3 => pw 0x0B07 (1, 1) (100, 1)
  | 4 => pw 0x0B0B (1, 1000) (1, 10)
  | 5 => pw 0x0B12 (5, 1) (1, 1)
  | 6 => pw 0x0B14 (5, 1) (2, 1)
  | 7 => piBank (p 0x0B16 (1, 1)) (p 0x0B17 (100, 1)) tl z vn
  | _ =>
    let v := s.radOf x (p 0x0C08 (50, 1))
    [fOfFrac (qNorm (qMul (qMul q2Pi (p 0x0C07 (1, 1))) (s.poles x))), 0, 0, 0, 0, 0, 0, fOne, fOfFrac (qNorm (qNeg v)),
      fOfFrac (qNorm v)]

/-- Function group of a compensator's registers (table 11.3), and of the service that derives it (R390, R414). -/
def compGroup (c : Nat) : Nat := if c = 0 ∨ c = 1 ∨ c = 7 then gCUR else gLOOP
@[inherit_doc compGroup] def deriveGroup (c : Nat) : Nat := if c = 8 then gPROF else compGroup c

/-- R20, R25: the basic service owns a group, and applies its own settings: a group that has just returned does so from the next
period on. -/
def State.serves (s : State) (x : Axis) (g : Nat) : Bool := s.owns x g && !bit (s.sv x).ownBack g

/-- Compensators whose coefficients the basic services derive now (R20, R391). -/
def State.ownComps (s : State) (x : Axis) : List Nat := (List.range 9).filter (fun c => s.serves x (deriveGroup c))

/-- A mask of compensators. -/
def compMask (l : List Nat) : Nat := l.foldl (fun m c => if bit m c then m else m + 2 ^ c) 0

/-- Write derived values into the shadow banks of some compensators. -/
def State.deriveShadow (s : State) (x : Axis) (l : List Nat) (t : Nat) : State :=
  s.forEach l (fun s c =>
    let b := s.derived x c t
    s.forEach (List.range 10) (fun s i => s.setSh (F.MC_BANK x c i) (nth 0 b i).toNat))

/-- The active bank of a compensator, INDEX 0 to 9. -/
def State.bank (s : State) (x : Axis) (c : Nat) : List Word := (List.range 10).map (fun i => s.rd (A.MC_BANK x c i))

/-- R398: the running graphs of an axis keep the active banks of some compensators to their end; those released at this very
instant use the new ones. -/
def State.keepBanks (s : State) (x : Axis) (l : List Nat) : State :=
  let new (i : Inst) : List (Nat × List Word) :=
    (l.filter (fun c => !(i.old.any (fun e => e.1 == c)))).map (fun c => (c, s.bank x c))
  let mine (i : Inst) : Bool := i.start != s.ticks && (match s.graphD i.graph with | some d => d.axis == x.ix | none => false)
  s.modFab (fun b => { b with insts := b.insts.map (fun i => if mine i then { i with old := i.old ++ new i } else i) })

/-- The active banks of some compensators take their shadow values, which stay (R391: both banks then hold them). -/
def State.bankTake (s : State) (x : Axis) (mask : Nat) : State :=
  let l := (List.range 9).filter (fun c => bit mask c)
  (s.keepBanks x l).forEach l (fun s c => s.forEach (List.range 10) (fun s i => s.take (F.MC_BANK x c i)))

/-- R391, R26: derive the coefficients of some compensators, effective at the next slot 0 instant, or at once while the
timebase is stopped. -/
def State.deriveFor (s : State) (x : Axis) (l : List Nat) : State :=
  let s := s.deriveShadow x l (s.fld (F.PW_PERIOD_EFF_TICKS x))
  if s.flag (F.PW_CTRL_EN x) then s.modSv x (fun v => { v with take := compMask (l ++ (List.range 9).filter (fun c => bit v.take c)) })
  else s.bankTake x (compMask l)

/-- R466: the target of a slew rate in sub-ticks: 0.8 × VBUS_NOM / DVDT in ns, 6.4 sub-ticks each, held within 64 to 2560. A
target between two whole sub-ticks becomes one of them, the manual not saying which (log entry 35). -/
def gateTarget (vn dvdt : Frac) : Nat :=
  let q := qNorm (qDiv (qMul (128, 25) vn) dvdt)
  let n := (qFloor q).toNat + b2n (q.2 != 1 && Config.roundUp q.1.toNat q.2)
  if dvdt.1 = 0 then 2560 else max 64 (min 2560 n)

/-- R466: while the basic service owns GATE it sets the targets of the three phases from the parameters of table 13.6. -/
def State.gateTargets (s : State) (x : Axis) : State :=
  s.onlyIf (s.serves x gGATE) (fun s =>
    let vn := s.paramQ x 0x0904 (0, 1)
    let on := gateTarget vn (s.paramQ x 0x0D00 (5, 1))
    let off := gateTarget vn (s.paramQ x 0x0D01 (5, 1))
    s.forEach (List.range 3) (fun s p => (s.set (F.TR_EDGE_TGT_ON x p) on).set (F.TR_EDGE_TGT_OFF x p) off))

/-- R391, R466: derive the coefficients of every compensator the basic services own, and the gate targets. -/
def State.derive (s : State) (x : Axis) : State := (s.deriveFor x (s.ownComps x)).gateTargets x

/-- The shadow bank of a compensator, INDEX 0 to 9. -/
def State.shadowBank (s : State) (x : Axis) (c : Nat) : List Word := (List.range 10).map (fun i => s.rdSh (A.MC_BANK x c i))

/-- The first check of R394 that a shadow bank fails: 2 NOT_FINITE, 3 LO_HI, 4 FORM, 5 NEG_LIMIT; 1 none. -/
def State.bankCheck (s : State) (x : Axis) (c : Nat) : Nat :=
  let b := s.shadowBank x c
  let lo := nth 0 b 8
  if b.all fFinite = false then 2
  else if fLt (nth 0 b 9) lo = true then 3
  else if s.getBit (F.MC_CMP_GRP_FORM x) c = false ∧ ¬(fIsZero (nth 0 b 3) = true ∧ fIsZero (nth 0 b 6) = true) then 4
  else if 3 ≤ c ∧ c ≤ 6 ∧ fLt lo fZero = true then 5
  else 1

/-- First compensator of a list whose shadow bank fails R394, and how. -/
def State.groupCheck (s : State) (x : Axis) (l : List Nat) : Option (Nat × Nat) :=
  l.findSome? (fun c => if s.bankCheck x c = 1 then none else some (c, s.bankCheck x c))

/-- R391: the derived shadow banks of a mask of compensators become active as one swap, which R394 checks, after which both banks hold the
new values; "bank swap". -/
def State.derivedSwap (s : State) (x : Axis) (mask : Nat) : State :=
  let l := (List.range 9).filter (fun c => bit mask c)
  if mask = 0 then s
  else match s.groupCheck x l with
  | some e => ((s.set (F.MC_SWAP_STAT_RESULT x) e.2).set (F.MC_SWAP_STAT_COMP x) e.1).evx x 16
  | none =>
    let s := (s.bankTake x mask).forEach l (fun s c =>
      s.setBit (F.MC_SWAP_STAT_ACTIVE x) c (!s.getBit (F.MC_SWAP_STAT_ACTIVE x) c))
    ((s.set (F.MC_SWAP_STAT_RESULT x) 1).set (F.MC_SWAP_STAT_COMP x) 0).evx x 16

/-- R391, R466: a new effective period applies: the gate targets are set, and the shadow banks take the values of the new period, for the
first slot 0 of it, or at once while the timebase is stopped (R26). -/
def State.derivePeriod (s : State) (x : Axis) : State :=
  let m := compMask (s.ownComps x)
  let s := s.gateTargets x
  let s := s.deriveShadow x (s.ownComps x) (s.fld (F.PW_PERIOD_EFF_TICKS x))
  if s.flag (F.PW_CTRL_EN x) then s.modSv x (fun v => { v with takeP := m }) else s.derivedSwap x m

/-- The parameter that an expert register of MCx replaces, by the register's offset, with its default (tables 9.1, 10.1, 12.1). -/
def xParam (off : Nat) : Option (Nat × Frac) :=
  match off with
  | 0x04C => some (0x0908, (0, 1))
  | 0x050 => some (0x0909, (0, 1))
  | 0x054 => some (0x0907, (19, 20))
  | 0x134 | 0x138 => some (0x0A06, (50, 1))
  | 0x13C => some (0x0A07, (7, 20))
  | 0x140 => some (0x0A08, (50, 1))
  | 0x510 => some (0x0C00, (100, 1))
  | 0x514 => some (0x0C01, (100, 1))
  | 0x518 => some (0x0C02, (1000, 1))
  | _ => none

/-- A value of that parameter in the register's unit: the gains of a bandwidth (R338), electrical units of a speed and its derivatives
(R6). -/
def State.xUnit (s : State) (x : Axis) (off : Nat) (q : Frac) : Word :=
  let w := qMul q2Pi q
  fOfFrac (qNorm (
    match off with
    | 0x134 => qMul (2, 1) w
    | 0x138 => qMul w w
    | 0x140 | 0x510 | 0x514 | 0x518 => s.radOf x q
    | _ => q))

/-- What the service shows in the expert register at an offset: its parameter in the register's unit. -/
def State.xValue (s : State) (x : Axis) (off : Nat) : Word :=
  match xParam off with
  | some p => s.xUnit x off (s.paramQ x p.1 p.2)
  | none => 0

/-- The bounds of a parameter's record, by its PTYPE. -/
def State.recRange (s : State) (x : Axis) (id : Nat) : Option (Frac × Frac) :=
  (s.recAddr x.ix id).map (fun a =>
    let q (o : Nat) : Frac :=
      let w := s.ld32 (a + o)
      if s.byte (a + 2) = 0 then fVal w else if s.byte (a + 2) = 1 then (w.toInt, 1) else (w.toNat, 1)
    (q 8, q 12))

/-- MIN and MAX of the parameter that an expert register replaces, in the register's unit. -/
def State.xRange (s : State) (x : Axis) (off : Nat) : Option (Word × Word) :=
  ((xParam off).bind (fun p => s.recRange x p.1)).map (fun r => (s.xUnit x off r.1, s.xUnit x off r.2))

/-- R331: an expert register takes a value. -/
def State.xTakes (s : State) (x : Axis) (off : Nat) (w : Word) : Bool :=
  match s.xRange x off with
  | some r => fLe r.1 w && fLe w r.2
  | none => true

/-- R674: what an expert register holds that the image does not give: 0 where it takes 0, else the lowest value it takes. -/
def State.xLeast (s : State) (x : Axis) (off : Nat) : Word :=
  match s.xRange x off with
  | some r => if s.xTakes x off 0 then 0 else r.1
  | none => 0

/-- R22, R122: expert registers show what the services would use, each where `p` says so of its group and its parameter; Promenade's
limits in STOPPING are the ramp of a stop while the service owns PROF (R403). -/
def State.profFor (s : State) (x : Axis) (p : Nat → Nat → Bool) : State :=
  let stop := s.axState x == 5 && s.serves x gPROF
  let ramp := s.xUnit x 0x510 (s.paramQ x 0x090C (100, 1))
  let s := s.onlyIf (p gPROF 0x0C00) (fun s => s.setW (F.MC_X_ACC_MAX x) (if stop then ramp else s.xValue x 0x510))
  let s := s.onlyIf (p gPROF 0x0C01) (fun s => s.setW (F.MC_X_DEC_MAX x) (if stop then ramp else s.xValue x 0x514))
  s.onlyIf (p gPROF 0x0C02) (fun s => s.setW (F.MC_X_JERK_MAX x) (s.xValue x 0x518))
@[inherit_doc State.profFor] def State.showFor (s : State) (x : Axis) (p : Nat → Nat → Bool) : State :=
  let s := s.onlyIf (p gFW 0x0908) (fun s => s.setW (F.MC_X_FW_KI x) (s.xValue x 0x04C))
  let s := s.onlyIf (p gFW 0x0909) (fun s => s.setW (F.MC_X_FW_IDMIN x) (s.xValue x 0x050))
  let s := s.onlyIf (p gFW 0x0907) (fun s => s.setW (F.MC_X_FW_MODMAX x) (s.xValue x 0x054))
  let s := s.onlyIf (p gOBS 0x0A06) (fun s =>
    (s.setW (F.MC_X_PLL_KP x) (s.xValue x 0x134)).setW (F.MC_X_PLL_KI x) (s.xValue x 0x138))
  let s := s.onlyIf (p gOBS 0x0A07) (fun s => s.setW (F.MC_X_DIS_BAND x) (s.xValue x 0x13C))
  let s := s.onlyIf (p gOBS 0x0A08) (fun s => s.setW (F.MC_X_RES_BAND x) (s.xValue x 0x140))
  s.profFor x p

/-- R22: the expert registers of the groups that basic services own show the settings the services use. -/
def State.profShow (s : State) (x : Axis) : State := s.profFor x (fun g _ => s.serves x g)
@[inherit_doc State.profShow] def State.serviceShow (s : State) (x : Axis) : State := s.showFor x (fun g _ => s.serves x g)

/-- R122: an updated PARAM section brings its values into the expert registers of its parameters, whoever owns their groups. -/
def State.sectShow (s : State) (x : Axis) (a n : Nat) : State := s.showFor x (fun _ id => (s.findRec a n id).isSome)

/-- R338: every section update, of whatever type, sets the gains of the tracking loop anew from PLL_BW. -/
def State.pllShow (s : State) (x : Axis) : State := s.showFor x (fun _ id => id == 0x0A06)

/-- The basic services apply their own settings: at RUNNING, after a PARAM or MAP section update, when a group returns
(R22, R25, R391). -/
def State.serviceApply (s : State) (x : Axis) : State := (s.serviceShow x).derive x

end Sys2Proof.Machine
end

