-- ==== Sys2Proof/Machine/AxisCore.lean ====
section
/-! DEFINITION. What every chapter on an axis shares: the gates of a Trellis die, putting an axis into a safe state and the
precedence between safe states (R473 to R483), and a transition of the axis state machine (R285 to R287, R296). -/

namespace Sys2Proof.Machine

/-! ### Gates -/

/-- Bit c of a mask set or cleared. -/
def withBit (m c : Nat) (b : Bool) : Nat :=
  let m0 := if bit m c then m - 2 ^ c else m
  if b then m0 + 2 ^ c else m0

/-- The other switch of a channel's leg (table 13.1); the brake channel has none. -/
def legMate (c : Nat) : Nat := if c % 2 = 0 then c + 1 else c - 1

/-- Sink step of a channel now: the phase switch's own, the brake's fixed one (R437). -/
def State.sinkStep (s : State) (x : Axis) (c : Nat) : Nat :=
  if c = 6 then s.fld (F.TR_STR_BK_SNK x)
  else if c % 2 = 0 then s.fld (F.TR_STR_H_SNK x (c / 2)) else s.fld (F.TR_STR_L_SNK x (c / 2))

/-- Source step of a channel now (R437). -/
def State.sourceStep (s : State) (x : Axis) (c : Nat) : Nat :=
  if c = 6 then s.fld (F.TR_STR_BK_SRC x)
  else if c % 2 = 0 then s.fld (F.TR_STR_H_SRC x (c / 2)) else s.fld (F.TR_STR_L_SRC x (c / 2))

/-- R536: one gate edge of a step counts in the window (`i`: the source step, or 64 + the sink step). -/
def State.countEdge (s : State) (x : Axis) (i : Nat) : State :=
  s.modTr x (fun t => { t with edgeN := setNth t.edgeN i (nth 0 t.edgeN i + 1) })

/-- Torque-off pin of an axis is low (R58). -/
def State.toffLow (s : State) (x : Axis) : Bool := match x with | .a => s.pins.toffA | .b => s.pins.toffB

/-- Safe-state codes of TRx.SAFE_STAT.STATE (table 14.9). -/
def ssNONE : Nat := 0
@[inherit_doc ssNONE] def ssLOW : Nat := 1
@[inherit_doc ssNONE] def ssHIGH : Nat := 2
@[inherit_doc ssNONE] def ssOFF : Nat := 3
@[inherit_doc ssNONE] def ssTORQUE : Nat := 4

/-- Safe state in force. -/
def State.safe (s : State) (x : Axis) : Nat := s.fld (F.TR_SAFE_STAT_STATE x)

/-- An ASC is in force. -/
def State.inAsc (s : State) (x : Axis) : Bool := s.safe x == 1 || s.safe x == 2

/-- R105: the image that runs disables the axis: its die keeps every channel off. -/
def State.axisBarred (s : State) (x : Axis) : Bool := s.isRunning && !s.axisOn x

/-- R495: the bus-overvoltage signal holds the brake switch on: Cascade is in service, no brake overcurrent; torque-off goes before it
(table 14.2), and an axis that the image disables keeps it off (R105). -/
def State.brakeHeld (s : State) (x : Axis) : Bool :=
  (s.tr x).ovSig && s.fld (F.TR_CSC_STAT_STATE x) == 0 && !(s.tr x).brkOc && s.safe x != 4 && s.isRunning && s.axisOn x

/-- The command of a channel as Trellis acts on it: the brake switch's by R495, off during brake overcurrent and once Cascade is out of
service (R496 to R498); a phase switch's by the refresh pulse of its leg, where one runs (R459). -/
def State.wants (s : State) (x : Axis) (c : Nat) : Bool :=
  let t := s.tr x
  if c = 6 then s.brakeHeld x || (bit t.cmd 6 && t.csc == 0 && !t.brkOc)
  else match nth [] t.ref (c / 2) with
    | [] => bit t.cmd c
    | e :: _ => bit e.2 (c % 2)

/-- A channel may be on: commanded, no torque-off (R60), no driver-supply lockout (R48), TMODE low (R43), an axis that is not disabled
(R105), no TRIM test of the die (R651), no faulted gate still to be sensed off (R473; log entry 52), no discarded frame since the last
valid one, but by R495 (R439; log entry 11); the brake switch with the control die out of reset (R51); a phase switch with no safe state
due (R474), no overlap in its leg (R451), no opposite gate that could not be sensed off (R453), no bootstrap lockout of a high side
(R457). -/
def State.mayBeOn (s : State) (x : Axis) (c : Nat) : Bool :=
  let t := s.tr x
  let free := s.wants x c && !s.pins.tmode && !t.drvLow && !s.toffLow x && t.soft == 0 && !s.axisBarred x && !s.testRuns (9 + x.ix)
  if c = 6 then free && (!t.lost || s.brakeHeld x) && s.isUp
  else
    free && !t.lost && t.due.isNone && !s.wants x (legMate c) && !(bit t.cmd c && bit t.cmd (legMate c)) && !bit t.goff (legMate c) &&
      (c % 2 == 1 || !s.getBit (F.TR_STAT_BS_UV x) (c / 2))

/-- The trim of a channel's source stage (on) or sink stage, in 0.25 % (R652). -/
def State.trim (s : State) (x : Axis) (on : Bool) : Int := if on then s.sfld (F.STC_TRIM_SRC x) else s.sfld (F.STC_TRIM_SNK x)

/-- Turn a channel off at sink step k for a reason (`EdgeRec.why`): the gate stays sensed on until it falls below the gate-off threshold,
and the desaturation input is clamped (R469). The soft path of R473 is no step of the ladder: R59's step stays as it was, while the edge
counts and is recorded at the step the channel has (R537; log entry 52). -/
def State.gateOffAt (s : State) (x : Axis) (c k why : Nat) : State :=
  if bit (s.tr x).gates c then
    let s := s.modTr x (fun t => { t with
      gates := withBit t.gates c false
      lastSink := if bit t.soft c then t.lastSink else setNth t.lastSink c k
      edge := setNth t.edge (2 * c + 1) { step := k, flag := bit t.adapt (c / 2), why := why, trim := s.trim x false }
      wrote := withBit t.wrote (2 * c + 1) false })
    (s.setBit (F.TR_DS_STAT_DS_NOW x) c false).countEdge x (64 + k)
  else s

/-- Turn a channel off at its present sink step: one that is held off while its command stands is no ordinary edge, nor is the turn-on once
it is held off no longer (R443; log entry 70). -/
def State.gateOff (s : State) (x : Axis) (c : Nat) : State :=
  let held := s.wants x c
  let s := s.gateOffAt x c (s.sinkStep x c) (if held then 2 else nth 2 (s.tr x).why c)
  if held then s.modTr x (fun t => { t with why := setNth t.why c 2 }) else s

/-- Sub-ticks of 156.25 ps since power-on. -/
def State.subTicks (s : State) : Nat := 16 * s.ticks

/-- Turn a channel on: never while the opposite switch of its leg is on or not sensed off, nor before the time its turn-on waits for
(R182, R452). -/
def State.gateOn (s : State) (x : Axis) (c : Nat) : State :=
  let t := s.tr x
  if bit t.gates c then s
  else if c ≠ 6 ∧ (bit t.gates (legMate c) ∨ bit t.sense (legMate c) ∨ s.subTicks < nth 0 t.wait c ∨ s.subTicks < nth 0 t.gap c) then s
  else
    let k := s.sourceStep x c
    let s := s.modTr x (fun t => { t with
      gates := withBit t.gates c true
      sense := withBit t.sense c true
      onAt := setNth t.onAt c s.ticks
      edge := setNth t.edge (2 * c) { step := k, flag := bit t.adapt (c / 2), why := nth 2 t.why c, trim := s.trim x true }
      wrote := withBit t.wrote (2 * c) false })
    s.countEdge x k

/-- Legs whose overlap has ended count again at the next one (R451). -/
def Tr.ilkEnd (t : Tr) : Nat :=
  (List.range 3).foldl (fun m l => if bit t.cmd (2 * l) && bit t.cmd (2 * l + 1) then m else withBit m l false) t.ilk

/-- Bring the gates to the commands in force: turn-offs first, then the turn-ons that may begin (R451, R452, R457); HW_ON shows R495. -/
def State.settle (s : State) (x : Axis) : State :=
  let chans := List.range 7
  let s := s.forEach chans (fun s c => if s.mayBeOn x c then s else s.gateOff x c)
  let s := s.forEach chans (fun s c => if s.mayBeOn x c then s.gateOn x c else s)
  (s.modTr x (fun t => { t with ilk := t.ilkEnd })).setB (F.TR_CSC_STAT_HW_ON x) (s.brakeHeld x)

/-- The times that turn-ons wait for after a new command state of the die link (R182): a high-side command that rises has its high
side on DT_LH later, one that falls its low side DT_HL later; a command that stands keeps its time. -/
def deadWaits (t : Tr) (m now : Nat) : List Nat :=
  (List.range 6).map (fun c =>
    let h := 2 * (c / 2)
    if bit m h && !bit t.cmd h then (if c = h then now + t.dtLH else 0)
    else if !bit m h && bit t.cmd h then (if c = h then 0 else now + t.dtHL)
    else nth 0 t.wait c)

/-- Reasons of the commands once m is in force for reason r: those that stand keep theirs (R443). -/
def Tr.whyOf (t : Tr) (m r : Nat) : List Nat :=
  (List.range 7).map (fun c => if bit m c != bit t.cmd c then r else nth 2 t.why c)

/-- Put new on-commands of Trellis's own in force, with no dead time: they are no ordinary edge commands (R443), and they wait for no
frame (R483). -/
def State.command (s : State) (x : Axis) (m : Nat) : State :=
  (s.modTr x (fun t => { t with
    cmd := m, why := t.whyOf m 2, lost := false, wait := List.replicate 6 0, ref := List.replicate 3 [] })).settle x

/-- Put the command state of the die link in force, with the dead times it carries (R182); a refresh pulse goes on in a leg whose
commands stand. -/
def State.linkCommand (s : State) (x : Axis) (m : Nat) : State :=
  (s.modTr x (fun t => { t with
    cmd := m, why := t.whyOf m 0, wait := deadWaits t m s.subTicks
    ref := (List.range 3).map (fun p => if t.cmd / 4 ^ p % 4 = m / 4 ^ p % 4 then nth [] t.ref p else []) })).settle x

/-- Put the accepted CMD pin levels in force: ordinary edge commands with no dead time (R464). -/
def State.pinCommand (s : State) (x : Axis) : State :=
  (s.modTr x (fun t => { t with cmd := t.cmdPins, why := t.whyOf t.cmdPins 0, wait := List.replicate 6 0 })).settle x

/-- External-command mode becomes active, unless a fault keeps the pins ignored (R463, R465). -/
def State.extStart (s : State) (x : Axis) : State :=
  if s.flag (F.TR_CFG_EXT x) && !(s.tr x).extOff then (s.set (F.TR_STAT_EXT_ACTIVE x) 1).pinCommand x else s

/-- Turn-ons whose time has come begin, and a refresh pulse goes on (R182, R452, R459); a brake switch that a TRIM ended by a fault held
off turns on again (R641, R651). -/
def State.gatesDue (s : State) (x : Axis) : State :=
  let due (l : List Nat) : Bool := l.any (fun w => w != 0 && decide (w ≤ s.subTicks))
  let rest (l : List Nat) : List Nat := l.map (fun w => if w ≤ s.subTicks then 0 else w)
  let gone (e : Nat × Nat) : Bool := decide (e.1 ≤ s.subTicks)
  if due (s.tr x).wait || due (s.tr x).gap || (s.tr x).ref.any (fun l => l.any gone) || s.mayBeOn x 6 && !bit (s.tr x).gates 6 then
    (s.modTr x (fun t => { t with wait := rest t.wait, gap := rest t.gap, ref := t.ref.map (fun l => l.dropWhile gone) })).settle x
  else s

/-- The brake switch's on-command, kept by every phase command (table 14.2: Cascade control continues). -/
def State.brakeCmd (s : State) (x : Axis) : Nat := (s.tr x).cmd / 64 % 2 * 64

/-! ### Safe states -/

/-- The latest ABOVE_ASC the die received (R479). -/
def State.above (s : State) (x : Axis) : Bool := s.flag (F.TR_SAFE_STAT_ABOVE_ASC x)

/-- ASC_POL as a safe state: 0 low ASC, 1 high ASC, 2 all-off, 3 as 0 (R479). -/
def State.ascPol (s : State) (x : Axis) : Nat :=
  match s.fld (F.TR_SAFE_CFG_ASC_POL x) with
  | 1 => 2
  | 2 => 3
  | _ => 1

/-- On-commands of the phase switches in a safe state (table 14.2). -/
def safeMask (st : Nat) : Nat := if st = 1 then 0b101010 else if st = 2 then 0b010101 else 0

/-- External-command mode ends, and the CMD pins are ignored until the axis has been in OFF (R465). -/
def State.extEnd (s : State) (x : Axis) : State :=
  (s.set (F.TR_STAT_EXT_ACTIVE x) 0).modTr x (fun t => { t with extOff := true })

/-- Put a safe state in force: gates (table 14.2), registers, E1 on a change to it (table 15.4); the cause of codes 1 and 2
ends when no ASC is in force (table 15.2); external-command mode ends (R465). A bridge that an ASC enables in SAFE starts its
compensators at zero (R281, R375). -/
def State.putSafe (s : State) (x : Axis) (st rank origin : Nat) : State :=
  let old := s.safe x
  let was := s.bridgeOn x
  let s := s.modTr x (fun t => { t with rank := rank, due := none, pre := false, preOn := false, thermal := t.thermal && st == 1 })
  let s := s.setB (F.TR_SAFE_STAT_THERMAL x) (s.tr x).thermal
  let s := ((s.set (F.TR_SAFE_STAT_STATE x) st).set (F.TR_SAFE_STAT_ORIGIN x) origin).extEnd x
  let s := s.command x (safeMask st + (if st = 4 then 0 else s.brakeCmd x))
  let s := if st = 1 ∨ st = 2 then s else (s.setCause (scAxis x) 1 false).setCause (scAxis x) 2 false
  let s := if was = false ∧ s.bridgeOn x = true then s.compsZero x else s
  if old ≠ st ∧ st ≠ 0 then s.evx x 1 else s

/-- A thermal-shutdown low ASC that a die holds while its axis stands in no safe state (the boot, R95) has ended: every phase channel
is off and SAFE_STAT shows no safe state, so that none resumes (R486). -/
def State.ascDropped (s : State) (x : Axis) : State :=
  if (s.tr x).rank = 5 then
    let s := s.modTr x (fun t => { t with thermal := false, rank := 0 })
    let s := (((s.set (F.TR_SAFE_STAT_THERMAL x) 0).set (F.TR_SAFE_STAT_STATE x) 0).set (F.TR_SAFE_STAT_ORIGIN x) 0)
    s.command x (s.brakeCmd x)
  else s.settle x

/-- The axis is in a state in which a fault puts it into a safe state: ARMED to SAFE; a fault in OFF or LOCKOUT changes
nothing (R286; log entry 10). -/
def State.canSafe (s : State) (x : Axis) : Bool := decide (1 ≤ s.axState x) && decide (s.axState x ≤ 7)

/-- Whether the fault of a safe state may be retried (R489): the wait shows while it may and TRIES allows one. -/
def State.retrySet (s : State) (x : Axis) (b : Bool) : State :=
  (s.modAx x (fun a => { a with retryOk := b })).setB (F.TR_SAFE_STAT_WAITING x) (b && s.fld (F.TR_RETRY_TRIES x) != 0)

/-- A fault with or without a retry reaches an axis: one without leaves the axis in SAFE until CLEAR, whatever its other faults allow
(R489, R492). -/
def State.retryJoin (s : State) (x : Axis) (retry : Bool) : State :=
  s.retrySet x (retry && (s.safe x == 0 || (s.ax x).retryOk))

/-- R480: a safe state of a rank is taken: none is in force, or its row stands higher. A thermal-shutdown low ASC that the die holds gives
way to torque-off and to R481 alone (ranks 1 and 3), not to driver-supply undervoltage or a gate not sensed off (R53, R484, R488; log
entry 39). -/
def State.outranks (s : State) (x : Axis) (rank : Nat) : Bool :=
  s.safe x == 0 || (decide (rank < (s.tr x).rank) && !((s.tr x).thermal && s.inAsc x && rank % 2 == 0))

/-- R480: a fault's safe state is taken where none is in force or its row stands higher, else the present one is kept; while a faulted
gate is still to be sensed off it is due once it is (R474), but for torque-off, which acts at once (R486). Outside the states of R286 it
only ends a thermal-shutdown low ASC that the die holds, by torque-off or R481 (R53, R88; log entry 39). -/
def State.chooseSafe (s : State) (x : Axis) (st rank origin : Nat) (retry : Bool) : State :=
  let t := s.tr x
  if !s.canSafe x then (if rank = 1 ∨ rank = 3 then s.ascDropped x else s)
  else if rank ≠ 1 ∧ (t.soft ≠ 0 ∨ t.due ≠ none) then
    let d : Due := { st := st, rank := rank, origin := origin, retry := retry }
    match t.due with
    | some e =>
      s.modTr x (fun t => { t with
        due := some (if rank < e.rank then { d with retry := retry && e.retry } else { e with retry := retry && e.retry }) })
    | none => if s.outranks x rank then s.modTr x (fun t => { t with due := some d }) else s.retryJoin x retry
  else if s.outranks x rank then (s.retryJoin x retry).putSafe x st rank origin
  else s.retryJoin x retry

/-- Any other CONTAINED fault of the axis and every FATAL fault: ASC_POL above the threshold, all-off otherwise, no retry
(table 14.3). -/
def State.safeOther (s : State) (x : Axis) : State :=
  s.chooseSafe x (if s.above x then s.ascPol x else ssOFF) 6 3 false

/-- Raise a CONTAINED fault of an axis that has no row of its own in table 14.3. -/
def State.axisFault (s : State) (x : Axis) (code unit detail : Nat) : State :=
  (s.fault code (scAxis x) unit detail).safeOther x

/-- Raise such a fault with a cause that is present from now on. -/
def State.axisFaultOn (s : State) (x : Axis) (code unit detail : Nat) : State :=
  (s.setCause (scAxis x) code true).axisFault x code unit detail

/-- Raise a FATAL fault of the device: both axes take the row "every FATAL fault" of table 14.3. -/
def State.fatal (s : State) (code unit detail : Nat) : State :=
  ((s.fault code 0 unit detail).safeOther .a).safeOther .b

/-! ### States of the axis state machine -/

/-- Axis state codes (table 9.2). -/
def axOFF : Nat := 0
@[inherit_doc axOFF] def axARMED : Nat := 1
@[inherit_doc axOFF] def axALIGN : Nat := 2
@[inherit_doc axOFF] def axSTART : Nat := 3
@[inherit_doc axOFF] def axRUN : Nat := 4
@[inherit_doc axOFF] def axSTOPPING : Nat := 5
@[inherit_doc axOFF] def axBRAKE : Nat := 6
@[inherit_doc axOFF] def axSAFE : Nat := 7
@[inherit_doc axOFF] def axLOCKOUT : Nat := 8

/-! ### Ownership of function groups (R23 to R26) -/

/-- R24: the sequence of a function group is running, so a change of its bit waits. -/
def State.groupRuns (s : State) (x : Axis) (g : Nat) : Bool :=
  let st := s.axState x
  if g = gSTART then st == axALIGN || st == axSTART
  else if g = gSTOP then st == axSTOPPING || st == axBRAKE || (s.sv x).rev != 0
  else if g = gRETRY then st == axSAFE && s.flag (F.TR_SAFE_STAT_WAITING x)
  else if g = gFLY then (s.sv x).fly != 0
  else false

/-- Numbers of the function groups (table 1.3). -/
def groups : List Nat := List.range 10

/-- A set of function groups as a mask. -/
def groupMask (p : Nat → Bool) : Nat := groups.foldl (fun m g => if p g then m + 2 ^ g else m) 0

/-- R25: services that have taken back groups apply their own settings (R22, R391, R466). -/
def State.groupsReturn (s : State) (x : Axis) : State :=
  let back := (s.sv x).ownBack
  if back = 0 then s
  else
    let s := s.modSv x (fun v => { v with ownBack := 0 })
    let s := (s.serviceShow x).deriveFor x ((List.range 9).filter (fun c => bit back (deriveGroup c) && s.serves x (deriveGroup c)))
    if bit back gGATE then s.gateTargets x else s

/-- R23 to R26: the written ownership becomes active, but for the groups whose change was written in a sequence that still runs; a
group that returns keeps the present expert values until the next period, where periods come. -/
def State.ownActivate (s : State) (x : Axis) : State :=
  let old := (s.rd (A.MC_OWN x)).toNat
  let new := (s.rdSh (A.MC_OWN x)).toNat
  let held (g : Nat) : Bool := bit (s.sv x).ownHold g && bit old g != bit new g && s.groupRuns x g
  let v := groupMask (fun g => if held g then bit old g else bit new g)
  let s := s.modSv x (fun w => { w with ownHold := groupMask held })
  if v = old then s
  else
    let s := (s.wr (A.MC_OWN x) (BitVec.ofNat 32 v)).modSv x (fun w => { w with
      ownBack := groupMask (fun g => bit v g && (bit w.ownBack g || !bit old g)) })
    if s.flag (F.PW_CTRL_EN x) then s else s.groupsReturn x

/-- R26: while the timebase is stopped, a change of ownership whose sequence has ended becomes active. -/
def State.ownIdle (s : State) (x : Axis) : State := if s.flag (F.PW_CTRL_EN x) then s else s.ownActivate x

/-- R23, R24, R26: a write of MCx.OWN reaches the shadow copy; the changes written while their group's sequence runs wait for its
end; while the timebase is stopped the others become active at once. -/
def State.ownWrite (s : State) (x : Axis) (w : Word) : State :=
  let s := s.wrSh (A.MC_OWN x) (w &&& 0x3FF#32)
  let s := s.modSv x (fun v => { v with ownHold := groupMask (s.groupRuns x) })
  s.ownIdle x

/-! ### Transitions of the axis state machine -/

/-- LDG.LOCKOUT bit of an axis (R522). -/
def lockoutFld (x : Axis) : Fld := match x with | .a => F.LDG_LOCKOUT_A | .b => F.LDG_LOCKOUT_B

/-- R448: every phase switch takes the start steps of a band. -/
def State.bandSteps (s : State) (x : Axis) (b : Nat) : State :=
  s.forEach (List.range 3) (fun s p =>
    (((s.set (F.TR_STR_H_SRC x p) (s.fld (F.TR_BAND_H_SRC x b))).set (F.TR_STR_H_SNK x p)
      (s.fld (F.TR_BAND_H_SNK x b))).set (F.TR_STR_L_SRC x p) (s.fld (F.TR_BAND_L_SRC x b))).set (F.TR_STR_L_SNK x p)
      (s.fld (F.TR_BAND_L_SNK x b)))

/-- Bits of TRx.STAT.AT_LIMIT: a step of the switch sits at a limit of STR_LIM (table 13.8). -/
def State.atLimits (s : State) (x : Axis) : State :=
  let at_ (v lo hi : Nat) : Bool := v == lo || v == hi
  let m := (List.range 6).foldl (fun m sw =>
    let src := if sw % 2 = 0 then s.fld (F.TR_STR_H_SRC x (sw / 2)) else s.fld (F.TR_STR_L_SRC x (sw / 2))
    let snk := if sw % 2 = 0 then s.fld (F.TR_STR_H_SNK x (sw / 2)) else s.fld (F.TR_STR_L_SNK x (sw / 2))
    withBit m sw (at_ src (s.fld (F.TR_STR_LIM_SRC_LO x)) (s.fld (F.TR_STR_LIM_SRC_HI x)) ||
      at_ snk (s.fld (F.TR_STR_LIM_SNK_LO x)) (s.fld (F.TR_STR_LIM_SNK_HI x)))) 0
  s.set (F.TR_STAT_AT_LIMIT x) m

/-- CSC_STAT.STATE: what Cascade is where it is fitted, else NOT_USED (table 14.11). -/
def State.cascadeShow (s : State) (x : Axis) : State :=
  s.set (F.TR_CSC_STAT_STATE x) (if s.flag (F.TR_SAFE_CFG_CSC_EN x) then (s.tr x).csc else 3)

/-- R498: Cascade returns to service, and the causes of codes 12 and 13 end. -/
def State.cascadeReturn (s : State) (x : Axis) : State :=
  (((s.modTr x (fun t => { t with csc := 0 })).cascadeShow x).setCause (scCascade x) 12 false).setCause (scCascade x) 13 false

/-- VBS field of a phase. -/
def vbsFld (x : Axis) (p : Nat) : Fld := if p = 0 then F.TR_VBS_U x else if p = 1 then F.TR_VBS_V x else F.TR_VBS_W x

/-- R294: every high side's bootstrap voltage lies above its rising lockout threshold of 12.0 V, and no lockout is tripped (R457). -/
def State.bootCharged (s : State) (x : Axis) : Bool :=
  s.fld (F.TR_STAT_BS_UV x) == 0 && (List.range 3).all (fun p => decide (120 < s.fld (vbsFld x p)))

/-- Work of an entry to ARMED: band start steps, of the present band with no shift due to it (R448, R449), FAST_START counts (R446),
coefficients (R391), Cascade (R498), precharge (R294, R458), the CMD pins (R463). -/
def State.enterArmed (s : State) (x : Axis) : State :=
  let band := s.fld F.ORG_TJ_BAND
  let s := (s.bandSteps x band).atLimits x
  let wait := !s.bootCharged x
  let s := s.modTr x (fun t => { t with
    band := band, bandDue := none, adaptN := List.replicate 12 0, pre := wait, preOn := false })
  let s := ((s.derive x).cascadeReturn x).command x (s.brakeCmd x)
  if wait then s else s.extStart x

/-- R407: on entry into RUN Promenade starts at the axis speed with no acceleration. -/
def State.promStart (s : State) (x : Axis) : State :=
  ((s.setW (F.MC_X_OMEGA_REF x) (s.word (F.MC_X_OMEGA x))).setW (F.MC_SPD_REF x) (s.word (F.MC_SPD_ACT x))).set
    (F.MC_X_ACC_REF x) 0

/-- Leaving SAFE or LOCKOUT for another state: the safe state ends (E2). -/
def State.leaveSafe (s : State) (x : Axis) : State :=
  if s.safe x = 0 then s
  else
    let s := s.modTr x (fun t => { t with rank := 0, due := none, soft := 0, again := false })
    let s := (s.set (F.TR_SAFE_STAT_STATE x) 0).set (F.TR_SAFE_STAT_ORIGIN x) 0
    (s.set (F.TR_SAFE_STAT_WAITING x) 0).evx x 2

/-- LIMITED rises, falls or changes its REASON (R314, R316). -/
def State.limitJudge (s : State) (x : Axis) : State :=
  let v := s.sv x
  let now := (List.range 9).filter (fun r => r != 0 && bit v.causes r)
  let w := fVal (s.word (F.MC_X_OMEGA x))
  let ref := fVal (s.word (F.MC_X_OMEGA_REF x))
  let tol := s.radOf x (s.paramQ x 0x0912 (5, 1))
  let back := decide (w.1 < 0) || (decide (w.1 = 0) && decide (ref.1 < 0))
  let ahead := if back then qLt tol (qSub w ref) else qLt tol (qSub ref w)
  let lastRun := (List.range 9).any (fun r => r != 0 && bit v.lasted r)
  let lastStop := (List.range 6).any (fun r => r != 0 && bit v.lasted r)
  let on := (s.axState x == axRUN && ahead && lastRun) || (s.axState x == axSTOPPING && lastStop)
  let reason := now.head?.getD 0
  let was := s.flag (F.MC_LIMIT_LIMITED x)
  if on then
    let s' := (s.set (F.MC_LIMIT_LIMITED x) 1).set (F.MC_LIMIT_REASON x) reason
    if was && reason == s.fld (F.MC_LIMIT_REASON x) then s
    else (s'.setBit (F.MC_LIMIT_SEEN x) (reason - 1) true).evx x 5
  else if was then ((s.set (F.MC_LIMIT_LIMITED x) 0).set (F.MC_LIMIT_REASON x) 0).evx x 6
  else s

/-- R371: a fault ends an identification; so does every other transition out of ALIGN and START while it runs (log entry 50). -/
def State.idAbort (s : State) (x : Axis) : State :=
  if s.fld (F.MC_ID_STAT_RESULT x) = 1 then
    (s.set (F.MC_ID_STAT_RESULT x) 3).modSv x (fun v => { v with idCmd := none })
  else s

/-- Addresses of the tracking records of the axis's compensators: those that its graphs' operators name, and those that the latest runs of
CD, CQ and MINSEL named. -/
def State.loopTrks (s : State) (x : Axis) : List Nat :=
  let v := s.sv x
  s.compTrks x ++ v.trkD.toList ++ v.trkQ.toList ++ v.selTrk.toList.flatMap (fun a => (List.range 6).map (fun k => a + 8 * k))

/-- R350: HOLD ends: the compensators that it froze run again. -/
def State.holdEnd (s : State) (x : Axis) : State :=
  if (s.sv x).frozen then
    (s.forEach (s.loopTrks x) (fun s a => if s.ld32 a = 3 then s.putWords a [0] else s)).modSv x (fun v => { v with frozen := false })
  else s

/-- What the services of an axis forget at a transition: a HOLD or SUSPECT once the supervised states are left, flying restart
outside ARMED and BRAKE, the flying restart that R349 asks for outside ARMED, the alignment outside ALIGN, the hand-over outside
START, an identification outside both, Belvedere's stand-in outside RUN to BRAKE. -/
def State.serviceLeave (s : State) (x : Axis) (st : Nat) : State :=
  let sup := s.fld (F.MC_BLV_STAT_SUP x)
  let s := if (sup = 1 ∨ sup = 2) ∧ ¬(3 ≤ st ∧ st ≤ 6) then s.set (F.MC_BLV_STAT_SUP x) 0 else s
  let s := if 3 ≤ st ∧ st ≤ 6 then s else s.holdEnd x
  let s := if st = 2 ∨ st = 3 then s else s.idAbort x
  s.modSv x (fun v => { v with
    fell := false
    flyLoss := v.flyLoss && st == 1
    stT := (0, 1)
    ramp := if st = 4 then v.ramp else none
    fly := if st = 1 ∨ st = 6 then v.fly else 0
    probes := if st = 1 ∨ st = 6 then v.probes else []
    align := if st = 2 ∨ st = 3 then v.align else 0
    hand := if st = 3 then v.hand else false
    rev := if st = 5 then v.rev else 0
    onBlv := v.onBlv && decide (4 ≤ st) && decide (st ≤ 6)
    causes := if st = 4 ∨ st = 5 then v.causes else 0
    lasted := if st = 4 ∨ st = 5 then v.lasted else 0 })

/-- R285, R287, R296: one transition: PREV, STATE, "state changed", STARTS; leaving SAFE, for LOCKOUT too, the supervisor leaves LOST (table
10.4); leaving SAFE or LOCKOUT ends the safe state (E2) and the LOCKOUT record (R522); entering OFF or LOCKOUT turns the phase switches off; a bridge that becomes enabled starts its
compensators at zero (R375); Promenade's limits change with STOPPING (R403), and in torque mode its reference starts from the axis
speed there (R317; log entry 48); a fault recorded meanwhile stands until SAFE is entered (R284). -/
def State.goto (s : State) (x : Axis) (st : Nat) : State :=
  let old := s.axState x
  let was := s.bridgeOn x
  let s := (s.set (F.MC_STATE_PREV x) old).set (F.MC_STATE_STATE x) st
  let s := ((s.modAx x (fun a => { a with fault := a.fault && st != 7 })).serviceLeave x st).limitJudge x
  let s := if old = 7 ∧ st ≠ 7 ∧ s.fld (F.MC_BLV_STAT_SUP x) = 3 then s.set (F.MC_BLV_STAT_SUP x) 0 else s
  let s := if (old = 7 ∨ old = 8) ∧ st ≠ 7 ∧ st ≠ 8 then s.leaveSafe x else s
  let s := if st = 8 then s.set (lockoutFld x) 1 else if old = 8 then s.set (lockoutFld x) 0 else s
  let s := if st = 2 ∨ (st = 4 ∧ (old = 1 ∨ old = 6)) then s.inc (F.MC_STARTS x) else s
  let s := if st = 0 then ((s.set (F.TR_STAT_EXT_ACTIVE x) 0).modTr x (fun t => { t with extOff := false })).command x 0
    else if st = 1 then s.enterArmed x
    else if st = 4 ∨ (st = 5 ∧ s.fld (F.MC_MODE_REF x) = 1) then s.promStart x
    else s
  let s := if was = false ∧ s.bridgeOn x = true then s.compsZero x else s
  let s := if old = 5 ∨ st = 5 then s.profShow x else s
  s.evx x 3

/-- R95: an axis that started in SAFE enters OFF when its die has dropped to all-off. -/
def State.againOff (s : State) (x : Axis) : State :=
  if s.isRunning && s.axState x == 7 && (s.tr x).again && s.safe x == 3 then s.goto x 0 else s

/-- RESULT codes (table 9.5). -/
def rsDONE : Nat := 1
@[inherit_doc rsDONE] def rsSTATE : Nat := 2
@[inherit_doc rsDONE] def rsDISABLED : Nat := 3
@[inherit_doc rsDONE] def rsBAND : Nat := 4
@[inherit_doc rsDONE] def rsPROTECT : Nat := 5
@[inherit_doc rsDONE] def rsFAULT : Nat := 6
@[inherit_doc rsDONE] def rsPOS : Nat := 7
@[inherit_doc rsDONE] def rsSUPERSEDED : Nat := 8

/-- R290: a command resolves: its tag, its result, its origin, "command result"; a slot's command that is refused gives the
slot STATUS REFUSED and "action refused or late" (R214), one that is discarded the status alone (R289). -/
def State.resolve (s : State) (x : Axis) (c : Cmd) (result : Nat) : State :=
  let s := (((s.set (F.MC_STATE_TAG x) c.tag).set (F.MC_STATE_RESULT x) result).set (F.MC_STATE_SRC x) c.src).evx x 4
  match c.slot with
  | some n =>
    if result = 8 then s.set (F.SUN_ACT_CTRL_STATUS n) 4
    else if result = 1 then s
    else (s.set (F.SUN_ACT_CTRL_STATUS n) 4).event 91
  | none => s

/-- The command pending at an axis: one that waits for slot 0, or a START that waits for the bootstraps. -/
def State.pendCmd (s : State) (x : Axis) : Option Cmd :=
  match (s.ax x).cmd with
  | some c => some c
  | none => (s.ax x).startWait

/-- The pending command of an axis, if there is one, resolves with a refusal. -/
def State.cmdRefuse (s : State) (x : Axis) (result : Nat) : State :=
  match s.pendCmd x with
  | some c => (s.modAx x (fun a => { a with cmd := none, startWait := none })).resolve x c result
  | none => s

end Sys2Proof.Machine
end

