-- ==== Sys2Proof/Machine/GateDrive.lean ====
section
/-! DEFINITION. Gate drive (spec/13_gate_drive.md): link frames, measured transitions and adaptation, strengths, interlock,
the bootstrap supplies, external-command mode; and the driver supply and torque-off of a Trellis die (R48, R58 to R62). -/

namespace Sys2Proof.Machine

/-! ### The die link -/

/-- Cascade is in service and its axis is in a state in which the period graph may drive its switch: ARMED to BRAKE, or SAFE other than
torque-off and driver-supply undervoltage (R494). -/
def State.brakeMay (s : State) (x : Axis) : Bool :=
  s.fld (F.TR_CSC_STAT_STATE x) == 0 && s.safe x != 4 && !(s.tr x).drvLow &&
    decide (1 ≤ s.axState x) && decide (s.axState x ≤ 7)

/-- On-commands that a frame's command state `m` gives: the phase bits act in ALIGN to BRAKE outside a safe state (R477,
R483), precharge (R458) and flying restart (R362, R366); the brake bit while Cascade may act. -/
def State.frameCmd (s : State) (x : Axis) (m : Nat) : Nat :=
  let t := s.tr x
  let ph :=
    if s.safe x ≠ 0 then safeMask (s.safe x)
    else if t.pre then (if t.preOn then safeMask 1 else 0)
    else if 2 ≤ s.axState x ∧ s.axState x ≤ 6 ∧ (s.sv x).fly = 0 then m % 64 else 0
  ph + 64 * (if s.brakeMay x then m / 64 % 2 else 0)

/-- R438: a valid frame: command state, dead times, VBUS, adaptation flags, band, ABOVE_ASC; it ends the cause of code 7, and in
external-command mode the pins' commands stand in its place (R463). -/
def State.linkGood (s : State) (x : Axis) (m dtLH dtHL vbus adapt band : Nat) (above : Bool) : State :=
  let old := (s.tr x).band
  let s := s.modTr x (fun t => { t with dtLH := dtLH, dtHL := dtHL, vbus := vbus, adapt := adapt % 8, band := band, lost := false,
                                        bandDue := if band != old && s.bridgeOn x then some (t.bandDue.getD old) else t.bandDue })
  let s := (s.set (F.TR_STAT_LINK_OK x) 1).setCause (scAxis x) 7 false
  let s := s.setB (F.TR_SAFE_STAT_ABOVE_ASC x) above
  if s.flag (F.TR_STAT_EXT_ACTIVE x) then s.pinCommand x
  else s.linkCommand x (s.frameCmd x m)

/-- R439: a frame that fails the check: every channel that is on turns off, until the next valid frame restores the command state; the
hold of R495 turns the brake switch on again at once (log entry 11); the frame is counted, code 10 is raised. -/
def State.linkBad (s : State) (x : Axis) : State :=
  let s := s.modTr x (fun t => { t with linkErr := true, lost := true })
  let s := (s.forEach (List.range 7) (fun s c => s.gateOff x c)).settle x
  let s := (s.inc (F.TR_LINK_CNT_DISCARDED x)).set (F.TR_STAT_LINK_ERR x) 1
  s.fault 10 (scAxis x) 0 (s.fld (F.TR_LINK_CNT_DISCARDED x))

/-- Per-phase adaptation flags: the magnitude of the phase's latest current is at least ADAPT_IMIN (spec/13_gate_drive.md,
after R444). -/
def State.adaptFlags (s : State) (x : Axis) : Nat :=
  (List.range 3).foldl (fun m p =>
    withBit m p (qLe (s.paramQ x 0x0D02 (2, 1)) (qAbs (fVal (s.quant x (1 + p)))))) 0

/-- The latest VBUS in 0.1 V, as a frame carries it. -/
def State.vbusNow (s : State) (x : Axis) : Nat := (qFloor (qMul (10, 1) (fVal (s.quant x 4)))).toNat

/-- R183: a dead time below 25 ns (160 sub-ticks) acts as 25 ns. -/
def State.deadTime (s : State) (f : Fld) : Nat := max 160 (s.fld f)

/-- R438: Trellis receives the frame the timebase sent last. -/
def State.frame (s : State) (x : Axis) : State :=
  s.linkGood x (s.tb x).out (s.deadTime (F.PW_DEAD_DT_LH x)) (s.deadTime (F.PW_DEAD_DT_HL x)) (s.vbusNow x) (s.adaptFlags x)
    (s.fld F.ORG_TJ_BAND) (s.flag (F.MC_STATE_ABOVE_ASC x))

/-- The control die sends frames: out of reset with the PLL running (R438, R173, R174). -/
def State.sends (s : State) : Bool := s.isUp && s.sun.pll

/-- LINK_FRAME: Trellis receives the frame that the timebase sent; `good` says whether it passes the check (R439). -/
def execLinkFrame (x : Axis) (good : Bool) (s : State) : Host.Outcome State Fault Refusal :=
  .next (if s.sends then (if good then s.frame x else s.linkBad x) else s)

/-- IDLE_FRAME: 1 µs with no edge: the timebase sends a frame with the present command state (R438). -/
def execIdleFrame (x : Axis) (ns : Nat) (s : State) : Host.Outcome State Fault Refusal :=
  .next (if s.sends = true ∧ 1000 ≤ ns then s.frame x else s)

/-- An ASC that a discarded frame has turned off is put in force again by Trellis itself, where no frame comes to restore it (R483, R484). -/
def State.ascAgain (s : State) (x : Axis) : State :=
  if (s.tr x).lost && s.inAsc x then s.command x (safeMask (s.safe x)) else s

/-- DIE_LINK_LOST: no valid frame for 2 µs: code 7 and its safe state, by the ABOVE_ASC last received (R440), once until the next valid
frame. -/
def execDieLinkLost (x : Axis) (ns : Nat) (s : State) : Host.Outcome State Fault Refusal :=
  .next (
    if 2000 ≤ ns ∧ s.cause (scAxis x) 7 = false then
      let s := s.set (F.TR_STAT_LINK_OK x) 0
      ((s.faultOn 7 (scAxis x) 0 0).chooseSafe x (if s.above x then s.ascPol x else ssOFF) 6 3 false).ascAgain x
    else s)

/-! ### Strengths -/

/-- Step field of a switch (0 to 5) for turn-on (source) or turn-off (sink). -/
def stepFld (x : Axis) (sw : Nat) (on : Bool) : Fld :=
  match on, sw % 2 with
  | true, 0 => F.TR_STR_H_SRC x (sw / 2)
  | true, _ => F.TR_STR_L_SRC x (sw / 2)
  | false, 0 => F.TR_STR_H_SNK x (sw / 2)
  | false, _ => F.TR_STR_L_SNK x (sw / 2)

/-- Start-value field of a switch in band b. -/
def bandFld (x : Axis) (b sw : Nat) (on : Bool) : Fld :=
  match on, sw % 2 with
  | true, 0 => F.TR_BAND_H_SRC x b
  | true, _ => F.TR_BAND_L_SRC x b
  | false, 0 => F.TR_BAND_H_SNK x b
  | false, _ => F.TR_BAND_L_SNK x b

/-- R467: the limits of an axis's steps, of the source (on) or of the sink. -/
def State.stepLo (s : State) (x : Axis) (on : Bool) : Nat :=
  if on then s.fld (F.TR_STR_LIM_SRC_LO x) else s.fld (F.TR_STR_LIM_SNK_LO x)
@[inherit_doc State.stepLo] def State.stepHi (s : State) (x : Axis) (on : Bool) : Nat :=
  if on then s.fld (F.TR_STR_LIM_SRC_HI x) else s.fld (F.TR_STR_LIM_SNK_HI x)

/-- A step moved by an amount and clamped to STR_LIM. -/
def State.moveStep (s : State) (x : Axis) (sw : Nat) (on : Bool) (d : Int) : State :=
  s.setI (stepFld x sw on) (clampI (s.stepLo x on) (s.stepHi x on) ((s.fld (stepFld x sw on) : Int) + d))

/-- The twelve switch-and-kind pairs. -/
def switchKinds : List (Nat × Bool) := (List.range 6).flatMap (fun sw => [(sw, true), (sw, false)])

/-- R449: after a band change every phase switch's step moves by the difference of the start values. -/
def State.bandShift (s : State) (x : Axis) : State :=
  match (s.tr x).bandDue with
  | none => s
  | some old =>
    let new := (s.tr x).band
    let s := s.modTr x (fun t => { t with bandDue := none })
    (s.forEach switchKinds (fun s p =>
      s.moveStep x p.1 p.2 ((s.fld (bandFld x new p.1 p.2) : Int) - s.fld (bandFld x old p.1 p.2)))).atLimits x

/-- Index of a switch and kind in the lists of `Tr`: also of the channel's edges of that kind. -/
def skIx (sw : Nat) (on : Bool) : Nat := 2 * sw + b2n (!on)

/-- R450: a write of STR_x sets each field that lies within STR_LIM, for the next edge of its kind. -/
def State.strWrite (s : State) (by_ : Writer) (x : Axis) (p : Nat) (w : Word) : State :=
  s.expert by_ x gGATE (fun s =>
    (s.forEach [(2 * p, true), (2 * p, false), (2 * p + 1, true), (2 * p + 1, false)] (fun s k =>
      let v := fieldOf (stepFld x k.1 k.2) w
      if inRange (s.stepLo x k.2) (s.stepHi x k.2) v then
        (s.set (stepFld x k.1 k.2) v).modTr x (fun t => { t with wrote := withBit t.wrote (skIx k.1 k.2) true })
      else s)).atLimits x)

/-- STRENGTH_WRITE: a host write of TRx.STR_U, STR_V or STR_W (R450). -/
def execStrengthWrite (x : Axis) (p : Nat) (w : Word) (s : State) : Host.Outcome State Fault Refusal :=
  .next (s.running (fun s => if p < 3 then s.strWrite .host x p w else s))

/-- R467: a write of STR_LIM is ignored where it makes a LO greater than its HI; an accepted one clamps every step. -/
def State.strLimWrite (s : State) (by_ : Writer) (x : Axis) (w : Word) : State :=
  s.expert by_ x gGATE (fun s =>
    let g (f : Axis → Fld) : Nat := fieldOf (f x) w
    if g F.TR_STR_LIM_SNK_HI < g F.TR_STR_LIM_SNK_LO ∨ g F.TR_STR_LIM_SRC_HI < g F.TR_STR_LIM_SRC_LO then s
    else
      let s := s.forEach [F.TR_STR_LIM_SNK_HI x, F.TR_STR_LIM_SNK_LO x, F.TR_STR_LIM_SRC_HI x, F.TR_STR_LIM_SRC_LO x]
        (fun s f => s.set f (fieldOf f w))
      (s.forEach switchKinds (fun s p => s.moveStep x p.1 p.2 0)).atLimits x)

/-- STR_LIM_WRITE: a host write of TRx.STR_LIM (R467). -/
def execStrLimWrite (x : Axis) (w : Word) (s : State) : Host.Outcome State Fault Refusal :=
  .next (s.running (fun s => s.strLimWrite .host x w))

/-! ### Measured transitions -/

/-- R442: the cause of a transition from `tb` to `te`: 1 the turn-off of the outgoing switch begun at `tOff`, 2 the turn-on of
the incoming switch begun at `tOn` and at most 2 µs (12 800 sub-ticks) before, 0 none. -/
def transCause (tb te : Int) (tOff tOn : Option Int) : Nat :=
  let off := match tOff with | some t => decide (t ≤ tb) | none => false
  let before := match tOn with | some t => decide (te < t) | none => true
  let on := match tOn with | some t => decide (t ≤ tb) && decide (te ≤ t + 12800) | none => false
  if off && before then 1 else if on then 2 else 0

/-- Switch (0 to 5) and kind (on?) an edge belongs to: a turn-off drives the node away from the switch that opens, a turn-on
towards the switch that closes. -/
def transSwitch (p : Nat) (rising : Bool) (cause : Nat) : Nat × Bool :=
  match cause, rising with
  | 1, true => (2 * p + 1, false)
  | 1, false => (2 * p, false)
  | _, true => (2 * p, true)
  | _, false => (2 * p + 1, true)

/-- A transition of duration t lies on one side of the deadband of its switch and kind (R445): above it, below it. -/
def State.beyond (s : State) (x : Axis) (sw : Nat) (on : Bool) (t : Nat) : Bool × Bool :=
  let tgt := if on then s.fld (F.TR_EDGE_TGT_ON x (sw / 2)) else s.fld (F.TR_EDGE_TGT_OFF x (sw / 2))
  let db := s.fld (F.TR_CFG_DB x)
  (decide (tgt * (100 + db) < 100 * t), decide (100 * t < tgt * (100 - db)))

/-- The cause of code 11 is present while one of the axis's switches and kinds has its own (R447). -/
def State.unreachSet (s : State) (x : Axis) (i : Nat) (b : Bool) : State :=
  let s := s.modTr x (fun t => { t with unreach := withBit t.unreach i b })
  s.setCause (scAxis x) 11 ((s.tr x).unreach != 0)

/-- R447: the cause of code 11 of a switch and kind ends with a transition attributed to it that lies within the deadband. -/
def State.reachEnd (s : State) (x : Axis) (sw : Nat) (on : Bool) (t : Nat) : State :=
  let o := s.beyond x sw on t
  if bit (s.tr x).unreach (skIx sw on) && !o.1 && !o.2 then s.unreachSet x (skIx sw on) false else s

/-- R447: the count of consecutive adapting transitions at a limit outside the deadband on one side; at 256 code 11, once while its cause
is present. -/
def State.reachCount (s : State) (x : Axis) (sw : Nat) (on out hi atLim : Bool) : State :=
  let i := skIx sw on
  let old := nth 0 (s.tr x).limRun i
  let n := if out && atLim then (if old % 2 = b2n hi then old / 2 + 1 else 1) else 0
  let n := min n 256
  let s := s.modTr x (fun t => { t with limRun := setNth t.limRun i (2 * n + b2n hi) })
  if n = 256 ∧ bit (s.tr x).unreach i = false then
    ((s.unreachSet x i true).setBit (F.TR_STAT_UNREACH x) sw true).fault 11 (scAxis x) sw (b2n (!on))
  else s

/-- R445, R446: an adapting transition of duration t moves the step of its switch and kind, but for one written since its edge, whose
write prevails (R450). -/
def State.adaptStep (s : State) (x : Axis) (p sw : Nat) (on : Bool) (t : Nat) : State :=
  let o := s.beyond x sw on t
  let i := skIx sw on
  let cnt := nth 0 (s.tr x).adaptN i
  let n : Int := match s.fld (F.TR_CFG_ADAPT x) with
    | 0 => 0
    | 1 => 1
    | 2 => 4
    | _ => if cnt < 64 then 4 else 1
  let old := s.fld (stepFld x sw on)
  let atLim := (o.1 && old == s.stepHi x on) || (o.2 && old == s.stepLo x on)
  let s := s.modTr x (fun t => { t with adaptN := setNth t.adaptN i (min 64 (cnt + 1)) })
  let s := if n = 0 ∨ bit (s.tr x).wrote i = true then s
    else if o.1 then s.moveStep x sw on n else if o.2 then s.moveStep x sw on (-n) else s
  let s := s.set (if on then F.TR_LAST_ON x p else F.TR_LAST_OFF x p) (min 0xFFFF t)
  (s.reachCount x sw on (o.1 || o.2) o.1 atLim).atLimits x

/-- R441 to R447: one transition of phase p, its crossings at sub-ticks `tb` and `te` of the interval (`tb` before it for one that was
in progress as it began, R444). Its step, its adaptation flag and whether its edge was an ordinary edge command or a refresh pulse's are
those of the latest edge of the switch and kind it is attributed to. A midpoint before the interval has no place in the entry's 24 bits:
they are free (log entry 53). -/
def State.transition (s : State) (x : Axis) (p : Nat) (rising : Bool) (tb te : Int) (tOff tOn : Option Int) : State :=
  if (s.tr x).vbus < 500 then s
  else
    let cause := transCause tb te tOff tOn
    let sk := transSwitch p rising cause
    let e := if cause = 0 then { EdgeRec.none with step := 0 } else nth EdgeRec.none (s.tr x).edge (skIx sk.1 sk.2)
    let t := (te - tb).toNat
    let adapts := cause != 0 && e.flag && e.why == 0
    let s := if cause = 0 then s else s.reachEnd x sk.1 sk.2 t
    let s := if adapts then s.adaptStep x p sk.1 sk.2 t else s
    let mid := (tb + te) / 2 + (if (tb + te) % 2 = 1 ∧ Config.tieUp s.free = true then 1 else 0)
    let inst := if 0 ≤ mid then mid.toNat else Config.freeNat s.free
    let s := s.spent
    let w0 := inst % 2 ^ 24 + 2 ^ 24 + cause * 2 ^ 25 + b2n (e.why == 1) * 2 ^ 27 + b2n adapts * 2 ^ 28
    let w1 := min 0xFFFF t + e.step * 2 ^ 16
    let i := 4 * p + 2 * b2n (!rising)
    s.modTr x (fun t => { t with edges := setNth (setNth t.edges i (BitVec.ofNat 32 w0)) (i + 1) (BitVec.ofNat 32 w1) })

/-- TRANSITION_MEASURED: a switch-node transition is timed, attributed and may adapt a strength (R441 to R447); one that was complete
before the interval began is no transition of it. -/
def execTransitionMeasured (x : Axis) (p : Nat) (rising : Bool) (tb te : Int) (tOff tOn : Option Int) (s : State) :
    Host.Outcome State Fault Refusal :=
  .next (if p < 3 ∧ tb ≤ te ∧ 0 ≤ te then s.transition x p rising tb te tOff tOn else s)

/-- R444: at an update instant the EDGES entries and LINK_ERR of the interval that ends are complete, and those of the next begin. -/
def State.edgesClose (s : State) (x : Axis) : State :=
  s.modTr x (fun t => { t with
    edgesEnd := t.edges, errEnd := t.linkErr, edges := List.replicate 12 0, linkErr := false })

/-! ### Interlock and separation -/

/-- ILK_CNT field of a leg. -/
def ilkFld (x : Axis) (leg : Nat) : Fld :=
  if leg = 0 then F.TR_ILK_CNT_U x else if leg = 1 then F.TR_ILK_CNT_V x else F.TR_ILK_CNT_W x

/-- Both on-commands of a leg are asserted. -/
def State.overlaps (s : State) (x : Axis) (leg : Nat) : Bool := bit (s.tr x).cmd (2 * leg) && bit (s.tr x).cmd (2 * leg + 1)

/-- INTERLOCK: overlapping on-commands of a leg hold both switches off; each assertion counts once and raises E17 (R451). -/
def execInterlock (x : Axis) (leg : Nat) (s : State) : Host.Outcome State Fault Refusal :=
  .next (
    if leg < 3 ∧ s.overlaps x leg = true ∧ bit (s.tr x).ilk leg = false then
      let s := (s.modTr x (fun t => { t with ilk := withBit t.ilk leg true })).settle x
      ((s.inc (ilkFld x leg)).set (F.TR_STAT_ILK_SEEN x) 1).evx x 17
    else s)

/-- GATE_OFF_NOT_SENSED: a gate driven off is not sensed off 2 µs later: the opposite turn-on is withheld, code 6 (R453). -/
def execGateOffNotSensed (x : Axis) (ch ns : Nat) (s : State) : Host.Outcome State Fault Refusal :=
  .next (
    if ch < 6 ∧ 2000 ≤ ns ∧ bit (s.tr x).sense ch = true ∧ bit (s.tr x).gates ch = false then
      let s := (s.modTr x (fun t => { t with goff := withBit t.goff ch true })).set (F.TR_STAT_GOFF_ERR x) 1
      let s := s.faultOn 6 (scAxis x) ch 0
      (s.chooseSafe x (if s.above x then (if ch % 2 = 0 then ssHIGH else ssLOW) else ssOFF) 4 2 false).againOff x
    else s)

/-- GATE_SENSED_OFF: a gate driven off falls below the gate-off threshold: its clamp turns on (R434), the opposite turn-on
waits 25 ns more (R452), and the cause of code 6 ends with the last such gate (R453). -/
def execGateSensedOff (x : Axis) (ch : Nat) (s : State) : Host.Outcome State Fault Refusal :=
  .next (
    if ch < 7 ∧ bit (s.tr x).gates ch = false then
      let now := s.subTicks
      let s := s.modTr x (fun t => { t with
        sense := withBit t.sense ch false
        soft := withBit t.soft ch false
        goff := withBit t.goff ch false
        gap := if ch < 6 ∧ bit t.sense ch = true then setNth t.gap (legMate ch) (now + 160) else t.gap })
      let s := if (s.tr x).goff = 0 then s.setCause (scAxis x) 6 false else s
      s.settle x
    else s)

/-! ### Bootstrap supplies -/

/-- The bootstraps are being precharged in ARMED (R457, R458). -/
def State.precharging (s : State) (x : Axis) : Bool := (s.tr x).pre && s.axState x == 1

/-- What TRx.VBS shows of a voltage of `dv` (0.1 V): within 0.3 V of it (table 23.4), freely, in 8 bits. -/
def State.vbsRead (s : State) (dv : Nat) : Nat × State := (min 255 (dv + Config.freeNat s.free % 7 - 3), s.spent)

/-- BOOTSTRAP_UNDERVOLTAGE: a bootstrap has fallen to `dv` (0.1 V): below the threshold, 11.0 V within 0.3 V (R666), it trips its lockout:
its high side is held off; outside precharge code 5 and its safe state, all-off during high ASC (R457, R482). -/
def execBootstrapUndervoltage (x : Axis) (p dv : Nat) (s : State) : Host.Outcome State Fault Refusal :=
  .next (
    if p < 3 then
      let r := s.vbsRead dv
      let low := (r.2.set (vbsFld x p) r.1).judged (decide (dv < 107)) (decide (dv < 113))
      let s := low.2
      if low.1 = false then s else
      let tripped := s.getBit (F.TR_STAT_BS_UV x) p
      let s := s.setBit (F.TR_STAT_BS_UV x) p true
      let s := s.settle x
      if tripped || s.precharging x then s
      else
        let s := (s.setBit (F.TR_STAT_BS_UV_SEEN x) p true).faultOn 5 (scAxis x) p 0
        if s.safe x = 2 then s.chooseSafe x ssOFF 3 3 true
        else s.chooseSafe x (if s.above x then ssLOW else ssOFF) 6 3 true
    else s)

/-- BOOTSTRAP_LOCKOUT_RELEASE: a bootstrap has risen to `dv` (0.1 V): above 12.0 V, within 0.3 V (R666), it releases its high side (R457);
precharge stops when every lockout has released and every bootstrap is charged (R294), and external-command mode becomes active (R458,
R463). -/
def execBootstrapLockoutRelease (x : Axis) (p dv : Nat) (s : State) : Host.Outcome State Fault Refusal :=
  .next (
    if p < 3 then
      let r := s.vbsRead dv
      let high := (r.2.set (vbsFld x p) r.1).judged (decide (123 < dv)) (decide (117 < dv))
      let s := high.2
      if high.1 = false then s else
      let s := s.setBit (F.TR_STAT_BS_UV x) p false
      let s := if s.fld (F.TR_STAT_BS_UV x) = 0 then
          let s := s.setCause (scAxis x) 5 false
          if s.precharging x && s.bootCharged x then
            ((s.modTr x (fun t => { t with pre := false, preOn := false })).command x (s.brakeCmd x)).extStart x
          else s
        else s
      s.settle x
    else s)

/-- PRECHARGE_PULSE: in ARMED, until every bootstrap is charged, all low sides turn on for PRE_W and off for PRE_W in turn;
`us` is the time since the last change (R458, R294). -/
def execPrechargePulse (x : Axis) (us : Nat) (s : State) : Host.Outcome State Fault Refusal :=
  .next (
    if s.precharging x = true ∧ s.bootCharged x = false ∧ s.fld (F.TR_REF_CFG_PRE_W x) ≤ us then
      let on := !(s.tr x).preOn
      let s := s.modTr x (fun t => { t with preOn := on })
      s.command x ((if on then 0b101010 else 0) + s.brakeCmd x)
    else s)

/-- R459: the refresh pulse of a phase from sub-tick t on: high side off, DT_HL later the low side on for w sub-ticks, DT_LH after that the
high side on again. -/
def Tr.pulse (t : Tr) (p w now : Nat) : Tr :=
  let l := [(now + t.dtHL, 0), (now + t.dtHL + w, 2), (now + t.dtHL + w + t.dtLH, 0)]
  { t with refLast := setNth t.refLast p 0, ref := setNth t.ref p l, why := setNth (setNth t.why (2 * p) 1) (2 * p + 1) 1 }

/-- R459 to R461: at an update instant, insert a refresh pulse into each phase of `stay` (its high-side command stays on
through the coming interval of `subTicks`) whose bootstrap lies below REF_THR and whose last pulse is N intervals past. -/
def State.refresh (s : State) (x : Axis) (stay subTicks : Nat) : State :=
  let s := s.forEach (List.range 3) (fun s p =>
    let since := nth 0 (s.tr x).refLast p + 1
    let s := s.modTr x (fun t => { t with refLast := setNth t.refLast p since })
    let n := s.fld (F.TR_REF_CFG_N x)
    if s.flag (F.TR_CFG_REF_EN x) && bit stay p && decide (s.fld (vbsFld x p) < s.fld (F.TR_REF_CFG_REF_THR x)) &&
        decide (n ≤ since) && s.safe x == 0 && !s.flag (F.TR_STAT_EXT_ACTIVE x) && !s.toffLow x &&
        decide (2 ≤ s.axState x) && decide (s.axState x ≤ 6) && (s.tr x).due.isNone then
      let w := s.fld (F.TR_REF_CFG_REF_W x) * 160
      let all := w + (s.tr x).dtHL + (s.tr x).dtLH
      let dist := qRound (Config.tieUp s.free) (qDiv (qInt (all * 65536 : Nat)) (qInt (n * subTicks : Nat)))
      let s := s.spent.modTr x (fun t => t.pulse p w s.subTicks)
      (s.inc (F.TR_REF_STAT_COUNT x)).set (F.TR_REF_STAT_DIST x) (min 0xFFFF dist.toNat)
    else s)
  s.settle x

/-! ### External-command mode -/

/-- R462: EXT changes only in OFF; the other fields of TRx.CFG belong to the GATE group (R19). -/
def State.trCfgWrite (s : State) (by_ : Writer) (x : Axis) (w : Word) : State :=
  let s := if s.axState x = 0 then s.set (F.TR_CFG_EXT x) (fieldOf (F.TR_CFG_EXT x) w) else s
  s.expert by_ x gGATE (fun s =>
    s.forEach [F.TR_CFG_DB x, F.TR_CFG_REF_EN x, F.TR_CFG_ADAPT x] (fun s f => s.set f (fieldOf f w)))

/-- EXT_WRITE: a host write of TRx.CFG (R462). -/
def execExtWrite (x : Axis) (w : Word) (s : State) : Host.Outcome State Fault Refusal :=
  .next (s.running (fun s => s.trCfgWrite .host x w))

/-- CMD_PIN_ACCEPT: a pin level held 20 ns is accepted, and in external-command mode becomes the channel's command (R463, R464); in a safe
state that mode is not active (R465). -/
def execCmdPinAccept (x : Axis) (ch : Nat) (level : Bool) (ns : Nat) (s : State) : Host.Outcome State Fault Refusal :=
  .next (
    if ch < 7 ∧ 20 ≤ ns then
      let s := s.modTr x (fun t => { t with cmdPins := withBit t.cmdPins ch level })
      if s.flag (F.TR_STAT_EXT_ACTIVE x) then s.pinCommand x else s
    else s)

/-- R468: TRx.CNT_CLR zeroes the counters it names. -/
def State.trxCntClr (s : State) (x : Axis) (w : Word) : State :=
  let s := if fieldOf (F.TR_CNT_CLR_LINK x) w = 1 then s.set (F.TR_LINK_CNT_DISCARDED x) 0 else s
  let s := if fieldOf (F.TR_CNT_CLR_ILK x) w = 1 then
      ((s.set (F.TR_ILK_CNT_U x) 0).set (F.TR_ILK_CNT_V x) 0).set (F.TR_ILK_CNT_W x) 0 else s
  if fieldOf (F.TR_CNT_CLR_REF x) w = 1 then s.set (F.TR_REF_STAT_COUNT x) 0 else s

/-- TRX_CNT_CLR: a write of TRx.CNT_CLR. -/
def execTrxCntClr (x : Axis) (w : Word) (s : State) : Host.Outcome State Fault Refusal :=
  .next (s.running (fun s => s.trxCntClr x w))

/-! ### Driver supply and torque-off -/

/-- VDRVx lies at `dv` (0.1 V): TRx.VBS shows it, and the die keeps what it shows over a reset. -/
def State.vdrvSet (s : State) (x : Axis) (dv : Nat) : State :=
  let r := s.vbsRead dv
  (r.2.set (F.TR_VBS_VDRV x) r.1).modTr x (fun t => { t with vdrv := r.1 })

/-- DRIVER_SUPPLY_UNDERVOLTAGE: VDRVx has come to `dv` (0.1 V), from above: below 12.5 V, within 0.3 V (R666), all seven channels are held
off, code 8, all-off (R48). -/
def execDriverSupplyUndervoltage (x : Axis) (dv : Nat) (s : State) : Host.Outcome State Fault Refusal :=
  .next (
    let low := (s.vdrvSet x dv).judged (decide (dv < 122)) (decide (dv < 128))
    let s := low.2
    if low.1 = true ∧ (s.tr x).drvLow = false then
      let s := (s.modTr x (fun t => { t with drvLow := true })).settle x
      ((s.faultOn 8 (scAxis x) 0 (s.tr x).vdrv).chooseSafe x ssOFF 2 7 false).againOff x
    else s)

/-- DRIVER_SUPPLY_RELEASE: VDRVx has come to `dv` (0.1 V), from below: above 13.5 V, within 0.3 V (R666), the lockout releases (R48). -/
def execDriverSupplyRelease (x : Axis) (dv : Nat) (s : State) : Host.Outcome State Fault Refusal :=
  .next (
    let high := (s.vdrvSet x dv).judged (decide (138 < dv)) (decide (132 < dv))
    let s := high.2
    if high.1 = true ∧ (s.tr x).drvLow = true then
      ((s.modTr x (fun t => { t with drvLow := false })).setCause (scAxis x) 8 false).settle x
    else s)

/-- Set the level of an axis's torque-off pin (true: low). -/
def State.setToff (s : State) (x : Axis) (low : Bool) : State :=
  match x with
  | .a => s.modPins (fun p => { p with toffA := low })
  | .b => s.modPins (fun p => { p with toffB := low })

/-- R59, R60, R486: torque-off: every channel turns off at the sink strength of its most recent turn-off, code 9, the state
TORQUE_OFF, which ends any ASC, a thermal-shutdown one included. -/
def State.torqueOff (s : State) (x : Axis) : State :=
  let s := s.forEach (List.range 7) (fun s c => s.gateOffAt x c (nth 0 (s.tr x).lastSink c) 2)
  let s := s.modTr x (fun t => { t with
    cmd := 0, why := t.whyOf 0 2, ref := List.replicate 3 [], thermal := false, pre := false, preOn := false })
  let s := (s.set (F.TR_SAFE_STAT_THERMAL x) 0).settle x
  (s.fault 9 (scAxis x) 0 0).chooseSafe x ssTORQUE 1 6 false

/-- TORQUE_OFF: a low on TOFF_x_N of `ns`: 200 ns or longer puts the axis into torque-off, shorter than 50 ns is ignored, and
one in between may or may not (R58 to R61; free). -/
def execTorqueOff (x : Axis) (ns : Nat) (s : State) : Host.Outcome State Fault Refusal :=
  .next (
    if 200 ≤ ns then ((s.setToff x true).setCause (scAxis x) 9 true).torqueOff x
    else if ns < 50 then s
    else
      let r := s.freshBit
      if r.1 then r.2.torqueOff x else r.2)

/-- TORQUE_OFF_RELEASE: a rising TOFF_x_N turns no gate on and ends the cause of code 9 (R62, R507). -/
def execTorqueOffRelease (x : Axis) (s : State) : Host.Outcome State Fault Refusal :=
  .next ((s.setToff x false).setCause (scAxis x) 9 false)

end Sys2Proof.Machine
end

