-- ==== Sys2Proof/Machine/Protection.lean ====
section
/-! DEFINITION. Power-stage protection (spec/14_protection_safe_states.md): desaturation, the turn-on monitor, applying and
leaving safe states, Cascade. -/

namespace Sys2Proof.Machine

/-- Blanking time in ns (R470). -/
def State.blankNs (s : State) (x : Axis) : Nat := 100 + 25 * s.fld (F.TR_DS_CFG_BLANK x)

/-- The channels of a mask that are on. -/
def State.onChans (s : State) (x : Axis) (m : Nat) : List Nat :=
  (List.range 7).filter (fun c => bit m c && bit (s.tr x).gates c)

/-- A mask from a list of channels. -/
def maskOf (l : List Nat) : Nat := l.foldl (fun m c => withBit m c true) 0

/-- The safe state due after desaturation or turn-on shorts of phase channels `m` (table 14.3, R481): a second fault on the other side,
or one while an ASC is in force, gives all-off. -/
def State.dueSafe (s : State) (x : Axis) (m : Nat) : Due :=
  let high := bit m 0 || bit m 2 || bit m 4
  let low := bit m 1 || bit m 3 || bit m 5
  let p : Nat × Nat :=
    if (high && low) || s.inAsc x then (ssOFF, 3)
    else if !s.above x then (ssOFF, 4)
    else if high then (ssLOW, 4) else (ssHIGH, 4)
  { st := p.1, rank := p.2, origin := 1, retry := true }

/-- R473: the faulted gates turn off through the soft path and every other channel at its sink strength; no channel turns on until the
faulted gates are sensed off, and the safe state of the fault is due then (R474). A desaturation of the brake switch alone chooses none
(table 14.3). A phase fault ends external-command mode (R465). -/
def State.softOff (s : State) (x : Axis) (chans : List Nat) : State :=
  let m := maskOf chans
  let phase := m % 64
  let both := maskOf ((List.range 6).filter (fun c => bit phase c || bit (s.tr x).soft c))
  let new := s.dueSafe x both
  let s := s.modTr x (fun t => { t with
    soft := maskOf ((List.range 7).filter (fun c => bit t.soft c || bit m c))
    brkDs := t.brkDs || bit m 6
    due := if phase = 0 then t.due
      else match t.due with
        | some e => if e.rank < new.rank then some e else some { new with retry := e.retry }
        | none => some new })
  let s := s.forEach (List.range 7) (fun s c => s.gateOffAt x c (s.sinkStep x c) 2)
  (if phase = 0 then s else s.extEnd x).settle x

/-- Raise code 1 or 2 of an axis for a set of phase channels, its cause present where an ASC is chosen for it (table 15.2). -/
def State.hardShort (s : State) (x : Axis) (code : Nat) (chans : List Nat) : State :=
  match chans.filter (fun c => c < 6) with
  | [] => s
  | c :: _ =>
    let asc := match (s.tr x).due with | some d => d.st == 1 || d.st == 2 | none => false
    let s := if asc then s.setCause (scAxis x) code true else s
    s.fault code (scAxis x) c (maskOf chans)

/-- The shortest that a time of R470 to R472 of `ns` nominal may be (table 23.4): 0.90 of it, less 10 ns. -/
def shortestNs (ns : Nat) : Nat := (9 * ns + 9) / 10 - 10

/-- DESATURATION: the inputs of the channels of `m` lie at `mv` mV for `held` ns, `since` ns after their turn-on began: after
blanking DS_NOW shows those above the threshold (table 14.10), and one above it for the filter time is a fault of its channel (R469 to
R471, R473); the threshold and the times lie within table 23.4. -/
def execDesaturation (x : Axis) (m mv held since : Nat) (s : State) : Host.Outcome State Fault Refusal :=
  .next (
    let chans := s.onChans x m
    let past := s.judged (decide (s.blankNs x < since)) (decide (shortestNs (s.blankNs x) < since))
    let s := past.2
    if chans ≠ [] ∧ past.1 = true then
      let thr := 3000 + 250 * s.fld (F.TR_DS_CFG_THR x)
      let high := s.judged (decide (103 * thr + 5000 < 100 * mv)) (decide (97 * thr < 100 * mv + 5000))
      let s := high.2.forEach chans (fun s c => s.setBit (F.TR_DS_STAT_DS_NOW x) c high.1)
      let filt := 25 * s.fld (F.TR_DS_CFG_FILT x)
      let long := s.judged (decide (filt ≤ held)) (decide (shortestNs filt ≤ held))
      let s := long.2
      if high.1 = true ∧ long.1 = true then
        let s := s.forEach chans (fun s c => (s.setBit (F.TR_DS_STAT_DS_SEEN x) c true).inc (F.TR_DS_CNT_DS x))
        (s.softOff x chans).hardShort x 1 chans
      else s
    else s)

/-- TURN_ON_SHORT: the turn-on monitor of a phase switch acts `ns` after the turn-on began, the switch node at `node` (0.1 V): the voltage
across the switch lies above half the VBUS of the latest frame, which is at least 50 V (R472); half is 47 % to 53 %, and the time
within table 23.4. -/
def execTurnOnShort (x : Axis) (ch : Nat) (node : Int) (ns : Nat) (s : State) : Host.Outcome State Fault Refusal :=
  .next (
    let vbus : Int := (s.tr x).vbus
    let across := if ch % 2 = 1 then node else vbus - node
    let mon := min (25 * s.fld (F.TR_DS_CFG_MON x)) (s.blankNs x)
    let high := s.judged (decide (53 * vbus < 100 * across)) (decide (47 * vbus < 100 * across))
    if ch < 6 ∧ bit (s.tr x).gates ch = true ∧ 500 ≤ vbus ∧ shortestNs mon ≤ ns ∧ ns ≤ mon ∧ high.1 = true then
      let s := high.2
      let s := (s.setBit (F.TR_DS_STAT_MON_SEEN x) ch true).inc (F.TR_DS_CNT_MON x)
      (s.softOff x [ch]).hardShort x 2 [ch]
    else s)

/-- Put the safe state that is due in force, where R480 does not keep the present one. -/
def State.applyDue (s : State) (x : Axis) : State :=
  match (s.tr x).due with
  | none => s.settle x
  | some d =>
    let s := s.modTr x (fun t => { t with due := none })
    if !s.canSafe x then s.ascDropped x
    else
      let take := s.outranks x d.rank
      let s := s.retryJoin x d.retry
      if take then s.putSafe x d.st d.rank d.origin else s.settle x

/-- SAFE_STATE_APPLY: every faulted gate is sensed off: the chosen safe state is applied (R474, R477 to R481). -/
def execSafeStateApply (x : Axis) (s : State) : Host.Outcome State Fault Refusal :=
  .next (if (s.tr x).soft = 0 then (s.applyDue x).againOff x else s)

/-- SOFT_OFF_TIMEOUT: faulted gates are not sensed off 20 µs after their soft turn-off began: all-off, and code 6 for each (R474). -/
def execSoftOffTimeout (x : Axis) (ns : Nat) (s : State) : Host.Outcome State Fault Refusal :=
  .next (
    let l := (List.range 7).filter (fun c => bit (s.tr x).soft c)
    if l ≠ [] ∧ 20000 < ns then
      let s := s.modTr x (fun t => { t with goff := maskOf ((List.range 7).filter (fun c => bit t.goff c || bit t.soft c)) })
      let s := s.forEach l (fun s c => (s.set (F.TR_STAT_GOFF_ERR x) 1).faultOn 6 (scAxis x) c 0)
      let s := (s.chooseSafe x ssOFF 3 2 false).modTr x (fun t => { t with soft := 0 })
      (s.applyDue x).againOff x
    else s)

/-- ASC_EXIT: the desaturation inputs of the three conducting switches have lain at or under `mv` mV for `ms`: below EXIT_V
for QUIET ms the ASC ends in all-off (R484, R488); after a thermal restart the axis then enters OFF (R95). -/
def execAscExit (x : Axis) (mv ms : Nat) (s : State) : Host.Outcome State Fault Refusal :=
  .next (
    let t := s.tr x
    let v := if t.thermal then t.exitV else s.fld (F.TR_SAFE_CFG_EXIT_V x)
    let q := if t.thermal then t.quiet else s.fld (F.TR_SAFE_CFG_QUIET x)
    if (s.inAsc x = true ∨ t.thermal = true) ∧ t.due = none ∧ mv < 100 * v ∧ q ≤ ms then
      let s := (s.modTr x (fun t => { t with thermal := false })).set (F.TR_SAFE_STAT_THERMAL x) 0
      if s.canSafe x then (s.putSafe x ssOFF (s.tr x).rank (s.fld (F.TR_SAFE_STAT_ORIGIN x))).againOff x else s.ascDropped x
    else s)

/-! ### Cascade -/

/-- R496: the brake-overcurrent signal rises: the brake switch is held off, counted, code 14. -/
def State.brakeOcOn (s : State) (x : Axis) : State :=
  let s := ((s.modTr x (fun t => { t with brkOc := true })).inc (F.TR_CSC_STAT_OVC x)).settle x
  s.faultOn 14 (scCascade x) x.ix 0

/-- The brake-overcurrent signal falls (R496); the brake switch follows its command, or R495, again. -/
def State.brakeOcOff (s : State) (x : Axis) : State :=
  ((s.modTr x (fun t => { t with brkOc := false })).setCause (scCascade x) 14 false).settle x

/-- BRAKE_OVERCURRENT: the brake-overcurrent signal rises or falls (R496). -/
def execBrakeOvercurrent (x : Axis) (asserted : Bool) (s : State) : Host.Outcome State Fault Refusal :=
  .next (
    if asserted && !(s.tr x).brkOc then s.brakeOcOn x
    else if !asserted && (s.tr x).brkOc then s.brakeOcOff x
    else s)

/-- Take Cascade out of service (R496 to R498). -/
def State.cascadeOut (s : State) (x : Axis) (st : Nat) : State :=
  ((s.modTr x (fun t => { t with csc := st })).cascadeShow x).settle x

/-- BRAKE_CHOPPER_SHORTED: a brake overcurrent of 10 µs or longer, or a desaturation of the brake switch: Cascade is out of
service, code 12 (R496, R498). -/
def execBrakeChopperShorted (x : Axis) (us : Nat) (s : State) : Host.Outcome State Fault Refusal :=
  .next (
    let t := s.tr x
    if s.fld (F.TR_CSC_STAT_STATE x) = 0 ∧ ((t.brkOc = true ∧ 10 ≤ us) ∨ t.brkDs = true) then
      let s := (s.cascadeOut x 1).modTr x (fun t => { t with brkDs := false })
      s.faultOn 12 (scCascade x) x.ix (b2n t.brkDs)
    else s)

/-- BRAKE_CHOPPER_OPEN: duty at 0.5 or above for `ms`, VBUS at start and end, mean IBRK, mean duty and mean VBUS over that
time (binary32): the three conditions of R497 judge Cascade open, code 13. -/
def execBrakeChopperOpen (x : Axis) (ms : Nat) (minDuty vStart vEnd meanI meanDuty meanV : Word) (s : State) :
    Host.Outcome State Fault Refusal :=
  .next (s.running (fun s =>
    let dur := qLe (s.paramQ x 0x0E04 (2, 100)) (ms, 1000)
    let fall := qLt (qSub (fVal vStart) (s.paramQ x 0x0E05 (2, 1))) (fVal vEnd)
    let expct := qDiv (qMul (qMul (1, 4) (fVal meanDuty)) (fVal meanV)) (s.paramQ x 0x0E02 (1, 1))
    let noCur := qLt (fVal meanI) expct || (s.paramQ x 0x0709 (0, 1)).1 == 0
    if s.fld (F.TR_CSC_STAT_STATE x) = 0 ∧ qLe (1, 2) (fVal minDuty) = true ∧ dur = true ∧ fall = true ∧ noCur = true then
      (s.cascadeOut x 2).faultOn 13 (scCascade x) x.ix 0
    else s))

/-- Raise bus overvoltage with a detail and take its safe state (table 14.3; a choice of all-off acts as low ASC). -/
def State.busOvFault (s : State) (x : Axis) (detail : Nat) : State :=
  let pol := if s.ascPol x = 3 then ssLOW else s.ascPol x
  (s.faultOn 4 (scAxis x) 0 detail).chooseSafe x (if s.above x then pol else ssOFF) 6 3 true

/-- The bus-overvoltage signal rises: the brake is held on where Cascade is in service (R495), code 4. -/
def State.busOvOn (s : State) (x : Axis) : State :=
  (((s.modTr x (fun t => { t with ovSig := true })).settle x).busOvFault x 3).settle x

/-- The bus-overvoltage signal falls: the cause of code 4 stays while VBUS exceeds OV2 (table 15.2), as it did in the last period. -/
def State.busOvOff (s : State) (x : Axis) : State :=
  ((s.modTr x (fun t => { t with ovSig := false })).settle x).setCause (scAxis x) 4 ((s.ax x).ov2 || (s.sv x).ov2N)

/-- BUS_OVERVOLTAGE_SIGNAL: the hardware overvoltage signal rises or falls (R495). -/
def execBusOvervoltageSignal (x : Axis) (asserted : Bool) (s : State) : Host.Outcome State Fault Refusal :=
  .next (
    if asserted && !(s.tr x).ovSig then s.busOvOn x
    else if !asserted && (s.tr x).ovSig then s.busOvOff x
    else s)

/-- R501: TRx.PROT_CLR zeroes the counters it names. -/
def State.protClr (s : State) (x : Axis) (w : Word) : State :=
  let s := if fieldOf (F.TR_PROT_CLR_OVC x) w = 1 then s.set (F.TR_CSC_STAT_OVC x) 0 else s
  let s := if fieldOf (F.TR_PROT_CLR_DS x) w = 1 then (s.set (F.TR_DS_CNT_MON x) 0).set (F.TR_DS_CNT_DS x) 0 else s
  if fieldOf (F.TR_PROT_CLR_RETRIES x) w = 1 then s.set (F.TR_SAFE_STAT_RETRIES x) 0 else s

/-- PROT_CLR: a write of TRx.PROT_CLR. -/
def execProtClr (x : Axis) (w : Word) (s : State) : Host.Outcome State Fault Refusal :=
  .next (s.running (fun s => s.protClr x w))

end Sys2Proof.Machine
end

