-- ==== Sys2Proof/Machine/Timebase.lean ====
section
/-! DEFINITION. The axis timebases (spec/06_pwm_timebases_time.md, R171 to R201; R12 to R16, R162 to R165): carriers, update
instants, compare sets, edge commands, period changes and the phase lock of axis B. -/

namespace Sys2Proof.Machine

/-! ### Carrier and interval -/

/-- SAW carrier (table 6.1). -/
def State.saw (s : State) (x : Axis) : Bool := s.flag (F.PW_CTRL_CARRIER x)

/-- Two update instants per carrier; UPD is ignored in SAW (table 6.1). -/
def State.twoUpd (s : State) (x : Axis) : Bool := !s.saw x && s.flag (F.PW_CTRL_UPD x)

/-- T of the present carrier in ticks: the period in force and what R200 adds to it. -/
def State.period (s : State) (x : Axis) : Nat := s.fld (F.PW_PERIOD_EFF_TICKS x) + (s.tb x).extra

/-- H, the compare full scale for a period of T ticks (table 6.1). -/
def State.fullScale (s : State) (x : Axis) (t : Nat) : Nat := if s.saw x then 16 * t else 8 * t

/-- Length of an interval in sub-ticks for a period of T ticks: half a carrier with two updates, else a whole one. -/
def State.interval (s : State) (x : Axis) (t : Nat) : Nat := if s.twoUpd x then 8 * t else 16 * t

/-- The timebase counts: RUNNING, EN = 1 and the PLL running (table 6.8, R174). -/
def State.counts (s : State) (x : Axis) : Bool := s.isRunning && s.sun.pll && s.flag (F.PW_CTRL_EN x)

/-! ### Edges -/

/-- High-side command at sub-tick `at_` of the interval for compare value `d` (R177 to R179): `half` 0 whole UPDOWN carrier,
1 from valley to peak, 2 from peak to valley or a SAW carrier. -/
def highOn (h d half at_ : Nat) : Bool :=
  if h ≤ d then true
  else if d = 0 then false
  else if half = 1 then decide (h - d ≤ at_)
  else if half = 0 then decide (h - d ≤ at_) && decide (at_ < h + d)
  else decide (at_ < d)

/-- Which kind of interval the present one is, as `highOn` takes it. -/
def State.half (s : State) (x : Axis) : Nat :=
  if s.saw x then 2 else if s.twoUpd x then (if (s.tb x).down then 2 else 1) else 0

/-- PWM, LOW and FLOAT phase of a six-step sector (table 6.4); sectors 6 and 7 act as 0 (table 6.11). -/
def sixPhases (sector : Nat) : Nat × Nat × Nat :=
  nth (0, 2, 1) [(0, 2, 1), (1, 2, 0), (1, 0, 2), (2, 0, 1), (2, 1, 0), (0, 1, 2)] sector

/-- Command state of the seven channels at sub-tick `at_` of the interval (R177 to R179, R186, R193, R194). -/
def State.levels (s : State) (x : Axis) (at_ : Nat) : Nat :=
  let t := s.period x
  let h := s.fullScale x t
  let d (p : Nat) : Nat := nth 0 (s.tb x).cur.d p
  let hi (p : Nat) : Bool := highOn h (d p) (s.half x) at_
  let six := s.flag (F.PW_SIX_SIXSTEP x)
  let ph := sixPhases (s.fld (F.PW_SIX_SECTOR x))
  let m := (List.range 3).foldl (fun m p =>
    let high := if six then p == ph.1 && hi p && !(s.tb x).cbc else hi p
    let low := if six then p == ph.2.1 || (p == ph.1 && s.flag (F.PW_CTRL_SIX_SYNC x) && !high) else !hi p
    withBit (withBit m (2 * p) high) (2 * p + 1) low) 0
  let sinceValley := if s.half x = 2 ∧ s.saw x = false then at_ + h else at_
  withBit m 6 (decide (sinceValley < min (16 * t) (s.fld (F.PW_CMP_BK_D x))))

/-- Phases whose command differs between two command states: an edge that the compare values place (R180). -/
def phaseEdges (a b : Nat) : List Nat := (List.range 3).filter (fun p => a / 4 ^ p % 4 != b / 4 ^ p % 4)

/-- EDGE_COMMAND: the edges that fall at sub-tick `at_` of the present interval are sent 80 ns (512 sub-ticks) ahead (R28,
R180). `lead` is by how many sub-ticks the interval's compare values arrived before their update instant: under 512, the edge of a
phase within 80 ns of that arrival is placed 80 ns after it, counted, and raises "edge delayed". -/
def execEdgeCommand (x : Axis) (at_ lead : Nat) (s : State) : Host.Outcome State Fault Refusal :=
  .next (
    let m := s.levels x at_
    if s.counts x = true ∧ at_ < s.interval x (s.period x) ∧ m ≠ (s.tb x).out then
      let old := (s.tb x).out
      let s := s.modTb x (fun t => { t with out := m })
      if at_ + lead < 512 then
        s.forEach (phaseEdges old m) (fun s _ => ((s.set (F.PW_STAT_EDGE_DELAYED x) 1).inc (F.PW_CNT_DELAYED x)).evx x 18)
      else s
    else s)

/-! ### Compare sets -/

/-- R181: SIX is written: the set is complete, from the sample instant of a slot, and waits for the update instant; while the timebase is
stopped it takes effect at once (R26). -/
def State.setComplete (s : State) (x : Axis) (slot : Nat) : State :=
  if s.flag (F.PW_CTRL_EN x) then
    s.modTb x (fun t => { t with setOk := true, setAnn := nth none t.ann slot, setV := s.dqApplied x })
  else
    let s := s.forEach (List.range 3) (fun s p => s.take (F.PW_CMP_D x p))
    s.wr (A.PW_SIX x) (s.rdSh (A.PW_SIX x))

/-- R162: values that serve an update instant (by its number, with the slot they come from; none: the host's, which serve no particular
one) are discarded once it has passed. -/
def State.setLate (s : State) (x : Axis) (serves : Option (Nat × Nat)) : Bool := serves.any (fun n => decide (n.1 ≤ (s.tb x).upd))

/-- A write to one of CMP_U, CMP_V, CMP_W (n = 0 to 2) or SIX (n = 3), for the update instant `serves` where a graph computed it. -/
def State.setWord (s : State) (x : Axis) (n : Nat) (w : Word) (serves : Option (Nat × Nat)) : State :=
  if s.flag (F.PW_CTRL_EN x) && s.setLate x serves then s
  else if n < 3 then
    s.setSh (F.PW_CMP_D x n) (fieldOf (F.PW_CMP_D x n) w)
  else
    ((((s.setSh (F.PW_SIX_SIXSTEP x) (fieldOf (F.PW_SIX_SIXSTEP x) w)).setSh (F.PW_SIX_SAT x)
      (fieldOf (F.PW_SIX_SAT x) w)).setSh (F.PW_SIX_SECTOR x) (fieldOf (F.PW_SIX_SECTOR x) w))).setComplete x ((serves.map (·.2)).getD 4)

/-- COMPARE_SET_ARRIVAL: a set reaches the timebase, SIX last (R181); `serves`: the number of the update instant that the graph which
computed it serves, and the slot of its sample instant (none: the host's set, which counts as of the latest sample instant for R195; log
entry 66). -/
def execCompareSetArrival (x : Axis) (du dv dw six : Word) (serves : Option (Nat × Nat)) (s : State) :
    Host.Outcome State Fault Refusal :=
  .next (s.running (fun s =>
    (((s.setWord x 0 du serves).setWord x 1 dv serves).setWord x 2 dw serves).setWord x 3 six serves))

/-! ### Update instants -/

/-- HB.MISS_CFG fields of an axis (table 5.13). -/
def missRunFld (x : Axis) : Fld := match x with | .a => F.HB_MISS_CFG_RUN_A | .b => F.HB_MISS_CFG_RUN_B
@[inherit_doc missRunFld] def missWinFld (x : Axis) : Fld :=
  match x with | .a => F.HB_MISS_CFG_WIN_A | .b => F.HB_MISS_CFG_WIN_B

/-- R163 to R165: the record of an update instant, met or missed; "deadline missed" where the run or the window reaches its
limit while the bridge is enabled. -/
def State.missRecord (s : State) (x : Axis) (missed : Bool) : State :=
  let win := (missed :: (s.tb x).win).take 256
  let s := (s.modTb x (fun t => { t with win := win })).set (F.HB_MISS_IN_WIN x) (min 255 (win.filter id).length)
  if missed then
    let s := ((s.set (F.PW_STAT_MISSED x) 1).inc (F.HB_MISS_RUN x)).inc (F.HB_MISS_TOTAL x)
    let run := s.fld (F.HB_MISS_RUN x)
    if s.bridgeOn x && !s.cause (scAxis x) 15 &&
        (decide (s.fld (missRunFld x) ≤ run) || decide (s.fld (missWinFld x) ≤ (win.filter id).length)) then
      s.axisFaultOn x 15 0 (run + s.fld (F.HB_MISS_IN_WIN x) * 256)
    else s
  else (s.set (F.HB_MISS_RUN x) 0).setCause (scAxis x) 15 false

/-- R184: a compare value corrected for the minimum pulse of `thr` sub-ticks: DROP to 0 or H, whichever is nearer, or EXTEND to
the threshold; 0 and H make no pulse (log entry 13). -/
def minPulse (h thr d : Nat) (extend : Bool) : Nat :=
  let d := min d h
  if 0 < d ∧ d < h ∧ (d < thr ∨ h - d < thr) then
    if extend then (if d < thr then thr else h - thr)
    else if 2 * d < h then 0 else h
  else d

/-- The compare values of the interval that begins, counted where R184 corrects them. -/
def State.useSet (s : State) (x : Axis) : State :=
  let h := s.fullScale x (s.period x)
  let thr := s.fld (F.PW_MINPULSE_TICKS x) * (if s.saw x then 16 else 8)
  let raw := (List.range 3).map (fun p => min h (s.fld (F.PW_CMP_D x p)))
  let cor := raw.map (fun d => minPulse h thr d (s.flag (F.PW_CTRL_MINP_POL x)))
  let s := s.modTb x (fun t => { t with cur := { t.cur with d := cor } })
  s.forEach (List.range 3) (fun s p =>
    if nth 0 raw p = nth 0 cor p then s else ((s.set (F.PW_STAT_MINP x) 1).inc (F.PW_CNT_MINP x)).evx x 19)

/-- Phases whose high-side command stays on through the interval that begins (R459). -/
def State.stayOn (s : State) (x : Axis) : Nat :=
  let h := s.fullScale x (s.period x)
  let six := s.flag (F.PW_SIX_SIXSTEP x)
  (List.range 3).foldl (fun m p =>
    withBit m p (decide (h ≤ nth 0 (s.tb x).cur.d p) && (!six || p == (sixPhases (s.fld (F.PW_SIX_SECTOR x))).1))) 0

/-- R325: 1.5 × (vd × id + vq × iq) over the length of the interval, in joules, added to the axis energy; whole Wh go to the
counter and the remainder is kept. -/
def State.energy (s : State) (x : Axis) (vd vq id_ iq : Word) (subTicks : Nat) : State :=
  if 2 ≤ s.axState x ∧ s.axState x ≤ 6 ∧ fFinite vd = true ∧ fFinite vq = true ∧ fFinite id_ = true ∧ fFinite iq = true then
    let p := qMul (3, 2) (qAdd (qMul (fVal vd) (fVal id_)) (qMul (fVal vq) (fVal iq)))
    let e := qMul p (subTicks, 6400000000)
    let a := s.ax x
    if qLt e (0, 1) then
      let tot := qAdd a.eRegen (qNeg e)
      let wh := qFloor (qDiv tot (3600, 1))
      (s.incBy (F.MC_E_REGEN x) wh.toNat).modAx x (fun a => { a with eRegen := qNorm (qSub tot (qMul (3600, 1) (qInt wh))) })
    else
      let tot := qAdd a.eMot e
      let wh := qFloor (qDiv tot (3600, 1))
      (s.incBy (F.MC_E_MOT x) wh.toNat).modAx x (fun a => { a with eMot := qNorm (qSub tot (qMul (3600, 1) (qInt wh))) })
  else s

/-- Table 6.5: DEAD, MINPULSE, MINP_POL and SIX_SYNC take effect. -/
def State.takeUpdate (s : State) (x : Axis) : State :=
  s.forEach [F.PW_DEAD_DT_LH x, F.PW_DEAD_DT_HL x, F.PW_MINPULSE_TICKS x, F.PW_CTRL_MINP_POL x, F.PW_CTRL_SIX_SYNC x]
    State.take

/-- R243, R325: what the interval that begins is, beside its compare values. -/
def State.markInterval (s : State) (x : Axis) : State :=
  let six := if s.flag (F.PW_SIX_SIXSTEP x) then some (s.fld (F.PW_SIX_SECTOR x)) else none
  s.modTb x (fun t => { t with cur := { t.cur with
    h := s.fullScale x (s.period x), len := s.interval x (s.period x),
    half := s.half x, six := six, sync := s.flag (F.PW_CTRL_SIX_SYNC x), dt := s.deadTime (F.PW_DEAD_DT_HL x) } })

/-- UPDATE_INSTANT: an update instant falls (at the peak, or at the valley or wrap): the set that arrived takes effect or the
previous one is kept (R15, R16, R181), R184 is applied, Trellis closes the EDGES entries of the interval (R444), shifts its steps (R449) and inserts refresh pulses (R459), and
the energy of the interval that ends is accumulated, with the voltages it applied (R378, R303) and the measured currents (R325). -/
def execUpdateInstant (x : Axis) (peak : Bool) (s : State) : Host.Outcome State Fault Refusal :=
  .next (
    if s.counts x = true ∧ (peak = true → s.twoUpd x = true) then
      let i := (s.tb x).cur
      let s := s.energy x i.vd i.vq (s.sv x).idM (s.sv x).iqM i.len
      let s := s.modTb x (fun t => { t with past := (t.cur :: t.past).take 8 })
      let ok := (s.tb x).setOk
      let s := if ok then
          let s := s.forEach (List.range 3) (fun s p => s.take (F.PW_CMP_D x p))
          (s.wr (A.PW_SIX x) (s.rdSh (A.PW_SIX x))).modTb x (fun t => { t with cur := { t.cur with vd := t.setV.1, vq := t.setV.2 } })
        else s
      let s := (s.takeUpdate x).modTb x (fun t => { t with down := peak, setOk := false, setAnn := none, cbc := false,
                                                           upd := t.upd + 1, begun := false })
      let s := if s.flag (F.MC_MODE_FW_EN x) then s else (s.set (F.MC_X_ID_FW x) 0).set (F.MC_STATE_FW_ACTIVE x) 0
      let s := (s.missRecord x (!ok)).useSet x
      (((s.edgesClose x).bandShift x).refresh x (s.stayOn x) (s.interval x (s.period x))).markInterval x
    else s)

/-! ### Period changes -/

/-- Bits of ORG.THR_CFG and ORG.STAT for an axis's carrier request (R532, R538). -/
def crEnFld (x : Axis) : Fld := match x with | .a => F.ORG_THR_CFG_CR_EN_A | .b => F.ORG_THR_CFG_CR_EN_B
@[inherit_doc crEnFld] def drvFld (x : Axis) : Fld := match x with | .a => F.ORG_STAT_DRV_A | .b => F.ORG_STAT_DRV_B
@[inherit_doc crEnFld] def lenFld (x : Axis) : Fld := match x with | .a => F.ORG_CRED_LEN_A | .b => F.ORG_CRED_LEN_B

/-- R532: the Orangery's request for a period of `p` ticks: p × (16 + LEN) / 16, rounded up to an even count, at most 400 000;
0 while it makes none. -/
def State.carrierReq (s : State) (x : Axis) (p : Nat) : Nat :=
  if (s.flag F.ORG_STAT_THR_ENF && s.flag (crEnFld x)) || s.flag (drvFld x) then
    min 400000 ((p * (16 + s.fld (lenFld x)) + 31) / 32 * 2)
  else 0

/-- R196: the effective period that the written PERIOD and the request give. -/
def State.periodWanted (s : State) (x : Axis) : Nat :=
  let p := s.want (F.PW_PERIOD_TICKS x)
  min 400000 (max p (s.carrierReq x p))

/-- A new effective period applies: "period changed" and new derived coefficients (R195, R391). -/
def State.periodTo (s : State) (x : Axis) (new : Nat) : State :=
  if new = s.fld (F.PW_PERIOD_EFF_TICKS x) then s
  else ((s.set (F.PW_PERIOD_EFF_TICKS x) new).derivePeriod x).evx x 20

/-- The waiting period applies (R195). -/
def State.periodApply (s : State) (x : Axis) : State :=
  let new := s.periodWanted x
  ((s.take (F.PW_PERIOD_TICKS x)).set (F.PW_STAT_PER_PENDING x) 0).periodTo x new

/-- R195: a valley or wrap while a period change waits: the complete set's sample instant came after the last change, which then applies;
or after an earlier one, whose period it announced and which applies alone. -/
def State.periodServe (s : State) (x : Axis) : State :=
  match (s.tb x).setAnn with
  | none => s
  | some (p, n) =>
    if s.flag (F.PW_STAT_PER_PENDING x) = false then s
    else if n = (s.tb x).changes then s.periodApply x
    else s.periodTo x p

/-- A change of PERIOD or of the request reaches the timebase: it waits under R195, or applies at once while the timebase is
stopped (R26); a request that asks again for the period that waits already is no change, and one back to the period in force ends the
wait where no sample instant has announced the other. -/
def State.periodTouch (s : State) (x : Axis) : State :=
  let back := s.periodWanted x == s.fld (F.PW_PERIOD_EFF_TICKS x) && s.want (F.PW_PERIOD_TICKS x) == s.fld (F.PW_PERIOD_TICKS x)
  let waits := s.flag (F.PW_STAT_PER_PENDING x)
  if !s.isRunning then s
  else if back && !(waits && (s.tb x).ann.any (fun a => a.any (fun a => a.1 != s.fld (F.PW_PERIOD_EFF_TICKS x)))) then s.set (F.PW_STAT_PER_PENDING x) 0
  else if s.flag (F.PW_CTRL_EN x) then
    if waits && (s.tb x).perWant == s.periodWanted x then s
    else (s.set (F.PW_STAT_PER_PENDING x) 1).modTb x (fun t => { t with changes := t.changes + 1, perWant := s.periodWanted x })
  else s.periodApply x

/-- R176: PERIOD takes a value. -/
def State.periodTakes (s : State) (x : Axis) (v : Nat) : Bool :=
  inRange 4000 400000 v && decide (s.fld (F.PW_PER_LIM_MIN x) ≤ v) && (s.saw x || v % 2 == 0)

/-- R176: a write of PERIOD. -/
def State.periodWrite (s : State) (x : Axis) (w : Word) : State :=
  let v := fieldOf (F.PW_PERIOD_TICKS x) w
  if s.periodTakes x v then
    (s.setSh (F.PW_PERIOD_TICKS x) v).periodTouch x
  else s.set (F.PW_STAT_PER_REFUSED x) 1

/-- PERIOD_WRITE: a write of PWx.PERIOD. -/
def execPeriodWrite (x : Axis) (w : Word) (s : State) : Host.Outcome State Fault Refusal :=
  .next (s.running (fun s => s.periodWrite x w))

/-! ### Valleys and wraps -/

/-- The lock conditions of R199: LOCK_A, equal effective periods, the same carrier mode, both counting. -/
def State.lockable (s : State) : Bool :=
  s.flag (F.PW_CTRL_LOCK_A .b) && s.counts .a && s.counts .b &&
    s.fld (F.PW_PERIOD_EFF_TICKS .a) == s.fld (F.PW_PERIOD_EFF_TICKS .b) && s.saw .a == s.saw .b

/-- R201: the lock conditions have ended. -/
def State.lockLost (s : State) : State :=
  if s.flag (F.PW_STAT_PHASE_LOCKED .b) && !s.lockable then (s.set (F.PW_STAT_PHASE_LOCKED .b) 0).evx .b 21 else s

/-- R199, R200: at a valley of axis B that falls `since` ticks after axis A's: locked where that is PHASE; else the carrier
after the next sample is lengthened, by at most T/16. -/
def State.lockStep (s : State) (since : Nat) : State :=
  let s := s.modTb .b (fun t => { t with extra := t.extraNext, extraNext := 0 })
  if s.lockable then
    let t := s.fld (F.PW_PERIOD_EFF_TICKS .b)
    let err := (s.fld (F.PW_PHASE_TICKS .b) + 400000 * t - since) % max 1 t
    let more := (err + t - (s.tb .b).extra % max 1 t) % max 1 t
    let s := s.modTb .b (fun b => { b with extraNext := min (t / 16) more })
    s.setB (F.PW_STAT_PHASE_LOCKED .b) (err == 0)
  else s.lockLost

/-- Table 6.5: SAMP0 to SAMP3 and CMP_BK take effect. -/
def State.takeValley (s : State) (x : Axis) : State :=
  let s := s.forEach (List.range 4) (fun s n => (s.take (F.PW_SAMP_EN x n)).take (F.PW_SAMP_POS x n))
  s.take (F.PW_CMP_BK_D x)

/-- Table 6.5: PHASE and LOCK_A of axis B take effect. -/
def State.takeLock (s : State) : State := (s.take (F.PW_PHASE_TICKS .b)).take (F.PW_CTRL_LOCK_A .b)

/-- VALLEY_OR_WRAP: a carrier of axis x begins, before its update instant and sample slots are taken: the waiting period applies
where its compare values have arrived and come from a later sample instant (R195), sample slots and the brake value take effect (table 6.5, R186), and
the phase lock is judged (`since`: ticks since the latest valley or wrap of axis A; R199 to R201). -/
def execValleyOrWrap (x : Axis) (since : Nat) (s : State) : Host.Outcome State Fault Refusal :=
  .next (
    if s.counts x then
      let s := ((s.periodServe x).takeValley x).modTb x (fun t => { t with down := false, carrier := t.carrier + 1,
                                                                                  ann := List.replicate 5 none })
      match x with
      | .a => s.takeLock.lockLost
      | .b => s.lockStep since
    else s)

/-! ### Control -/

/-- A change of EN, CARRIER or UPD restarts the count at the valley or wrap (table 6.5); no carrier after it follows one before it,
and a waiting period takes effect (DESIGN CHOICE, log entry 80). -/
def State.restart (s : State) (x : Axis) : State :=
  let s := s.modTb x (fun t => { t with down := false, setOk := false, setAnn := none, cbc := false, extra := 0, extraNext := 0, out := 0,
                                        begun := false, past := [], carrier := t.carrier + 2, ann := List.replicate 5 none })
  ((s.periodApply x).lockLost).markInterval x

/-- A timebase starts: until its first sample instant a graph reads the set-points as they stood then, which R26 has let take effect (R13). -/
def State.firstLatch (s : State) (x : Axis) : State := s.modSv x (fun v => { v with lat := s.regs, posLat := v.posNext })

/-- R198, table 6.8: a write of PWx.CTRL; while EN is 0 every command is refused, one that is pending included (R283). -/
def State.ctrlWrite (s : State) (x : Axis) (w : Word) : State :=
  let s := if fieldOf (F.PW_CTRL_CNT_CLR x) w = 1 then s.wr (A.PW_CNT x) 0 else s
  let s := s.forEach [F.PW_CTRL_SIX_SYNC x, F.PW_CTRL_MINP_POL x] (fun s f => s.setSh f (fieldOf f w))
  let s := if x = .b then s.setSh (F.PW_CTRL_LOCK_A x) (fieldOf (F.PW_CTRL_LOCK_A x) w) else s
  let was := s.flag (F.PW_CTRL_EN x)
  let three := [F.PW_CTRL_EN x, F.PW_CTRL_CARRIER x, F.PW_CTRL_UPD x]
  if s.bridgeOn x || three.all (fun f => fieldOf f w == s.fld f) then s
  else
    let s := (s.forEach three (fun s f => (s.set f (fieldOf f w)).setSh f (fieldOf f w))).restart x
    if s.flag (F.PW_CTRL_EN x) then (if was then s else s.firstLatch x) else s.cmdRefuse x rsSTATE

/-- REFERENCE_CLOCK_LOST: the PLL loses lock or the crystal stops: "reference clock lost", FATAL, and both timebases stop issuing edge
commands (R174); before RUNNING the fault is held until then (R508). -/
def execReferenceClockLost (s : State) : Host.Outcome State Fault Refusal :=
  .next (
    if s.isUp && s.sun.pll then
      let s := s.modSun (fun u => { u with pll := false })
      (s.setCause 0 33 true).fatal 33 0 0
    else s)

end Sys2Proof.Machine
end

