-- ==== Sys2Proof/Machine/Sundial.lean ====
section
/-! DEFINITION. The Sundial (spec/06_pwm_timebases_time.md, R202 to R215): the counter, the 1 PPS discipline, sets and snapshots,
the action slots. -/

namespace Sys2Proof.Machine

/-- Sundial states (table 6.6). -/
def suFREE : Nat := 0
@[inherit_doc suFREE] def suACQUIRE : Nat := 1
@[inherit_doc suFREE] def suLOCKED : Nat := 2
@[inherit_doc suFREE] def suHOLDOVER : Nat := 3

/-- State of the Sundial. -/
def State.sunState (s : State) : Nat := s.fld F.SUN_STAT_STATE

/-- R211: a step or set carries the counter past the time of an armed slot: that slot is late; a slot whose time the counter had reached
stays due, whatever the count becomes. -/
def lateActs (old new : Nat) (acts : List (Nat × Nat × Nat × Bool)) : List (Nat × Nat × Nat × Bool) :=
  acts.map (fun a => if a.1 ≤ old then (0, a.2) else if a.1 < new then (a.1, a.2.1, a.2.2.1, true) else a)

/-- RATE or the count is about to change: what the counter ran on until now is kept for the stamps of R271. -/
def State.sunLine (s : State) : State :=
  s.modSun (fun u => { u with
    lines := (u.tick, (u.cnt.toNat : Int) * 4294967296 + u.frac, s.sfld F.SUN_RATE) ::
      u.lines.filter (fun l => decide (u.tick ≤ l.1 + 20400)) })

/-- The count that the Sundial held `back` clocks ago: from the first change of RATE or of the count since then, else from the present
count (R29, R203). -/
def State.countAt (s : State) (back : Nat) : Nat :=
  let at_ := s.ticks - back
  let from_ : Nat × Int × Int := ((s.sun.lines.takeWhile (fun l => decide (at_ < l.1))).getLast?).getD
    (s.ticks, (s.sun.cnt.toNat : Int) * 4294967296 + s.sun.frac, s.sfld F.SUN_RATE)
  unsigned 64 ((from_.2.1 - ((from_.1 - at_ : Nat) : Int) * (4294967296 + from_.2.2)) / 4294967296)

/-- The counter moves to a new count by a step or a set: STEPPED and "counter stepped" (R206, R208). -/
def State.sunMove (s : State) (new : Nat) : State :=
  let old := s.now
  let s := s.sunLine.modSun (fun u => { u with
    cnt := BitVec.ofNat 64 new
    last := u.last.map (fun l => (unsigned 64 ((l : Int) + new - old)))
    badAt := unsigned 64 ((u.badAt : Int) + new - old)
    acts := lateActs old (new % 2 ^ 64) u.acts })
  (s.set F.SUN_STAT_STEPPED 1).event 88

/-- R207: DRIFT in HOLDOVER: the error of the last valid pulse and the spread of the integral term over the time held. A value between
two whole ns is either (free: the manual states no rounding). -/
def State.showDrift (s : State) : State :=
  let h := s.sun.hist
  let spread := h.foldl max s.sun.integ - h.foldl min s.sun.integ
  let n2 := s.sun.err * 5 * 10485760000000 + 2 * (spread * s.sun.held).toNat
  let ns := n2 / 20971520000000 + (if n2 % 20971520000000 = 0 then 0 else b2n (Config.freeBit s.free))
  s.spent.set F.SUN_DRIFT (min 0xFFFFFFFF ns)

/-- Enter a state of the discipline: the counts of table 6.6 begin anew; LOCKED and HOLDOVER raise their events; FREE forgets
the reference. -/
def State.sunEnter (s : State) (st : Nat) : State :=
  if s.sunState = st then s
  else
    let s := (s.set F.SUN_STAT_STATE st).modSun (fun u => { u with good := 0, bad := 0, far := 0, held := 0 })
    let s := if st = 0 then s.modSun (fun u => { u with last := none }) else s
    let s := if st = 3 then s.showDrift else s.set F.SUN_DRIFT 0
    if st = 2 then s.event 86 else if st = 3 then s.event 87 else s

/-- Phase error in ticks of a stamp: reduced to −200 000 000 to 199 999 999 modulo one second (R204). -/
def phaseErr (n : Nat) : Int := (((n + 200000000) % 400000000 : Nat) : Int) - 200000000

/-- Loop time constant in seconds (table 6.18). -/
def State.tau (s : State) : Nat := match s.fld F.SUN_CTRL_TAU with | 0 => 8 | 1 => 32 | _ => 128

/-- ±200 ppm in units of 1 / (400 000 000 × 65 536). -/
def rateLim : Int := 5242880000

/-- RATE in units of 2⁻³² from a rate in units of 1 / (400 000 000 × 65 536): the manual states no rounding, so an inexact value
is either neighbour (free), within ±858 993. -/
def State.putRate (s : State) (u : Int) : State :=
  let fl := u * 4096 / 25000000
  let up := if u * 4096 % 25000000 = 0 then 0 else b2n (Config.freeBit s.free)
  let s := s.spent.sunLine
  s.setI F.SUN_RATE (clampI (-858993) 858993 (fl + up))

/-- R206: RATE takes a value within its limits; RANGE and "rate at limit" where it sits at one. -/
def State.rateTo (s : State) (u : Int) : State :=
  let r := clampI (-rateLim) rateLim u
  let lim := r == rateLim || r == -rateLim
  let s := (s.putRate r).setB F.SUN_STAT_RANGE lim
  if lim then s.event 89 else s

/-- R206: a valid pulse of error e (in ticks) that does not step updates the integral term and RATE; in HOLDOVER the slew term is
dropped. -/
def State.rateUpdate (s : State) (e : Int) (hold : Bool) : State :=
  let tau := s.tau
  let integ := s.sun.integ - e * (65536 / (4 * tau * tau) : Nat)
  (s.modSun (fun u => { u with integ := integ })).rateTo (if hold then integ else integ - e * (65536 / tau : Nat))

/-- R204: a pulse with stamp `n` is valid: within ±250 µs × k, at most ±10 ms, of a whole number k of seconds after the last
valid one; the first in FREE without this test. -/
def State.ppsValid (s : State) (n : Nat) : Bool :=
  match s.sun.last with
  | none => true
  | some l =>
    let d := unsigned 64 ((n : Int) - l)
    let k := max 1 ((d + 200000000) / 400000000)
    let w := min 4000000 (100000 * k)
    decide (k * 400000000 ≤ d + w) && decide (d ≤ k * 400000000 + w)

/-- A valid pulse with stamp `n` (R204 to R206): registers, the step or the rate, and the transitions of table 6.6, judged by
the state at the pulse (log entry 14). -/
def State.ppsGood (s : State) (n : Nat) : State :=
  let e := phaseErr n
  let st := s.sunState
  let s := s.event 84
  let s := (s.set F.SUN_PPS_LO (n % 2 ^ 32)).set F.SUN_PPS_HI (n / 2 ^ 32)
  let s := (s.setI F.SUN_PHASE_ERR (e * 5 / 2 + (if e % 2 = 0 then 0 else b2n (Config.freeBit s.free))))
  let s := s.spent
  let s := s.modSun (fun u => { u with last := some n, err := e.natAbs, bad := 0 })
  let s := if st = 0 then s
    else if st = 1 ∧ 4000 < e.natAbs then s.sunMove (unsigned 64 ((n : Int) - e))
    else s.rateUpdate e (st == 3)
  let s := s.modSun (fun u => { u with hist := (u.integ :: u.hist).take 16
                                       good := if e.natAbs ≤ 40 then u.good + 1 else 0
                                       far := if 4000 < e.natAbs then u.far + 1 else 0 })
  if s.flag F.SUN_CTRL_DISC_EN then
    if st = 0 then s.sunEnter 1
    else if st = 1 ∧ 8 ≤ s.sun.good then s.sunEnter 2
    else if st = 2 ∧ 2 ≤ s.sun.far then s.sunEnter 1
    else if st = 3 then s.sunEnter (if e.natAbs ≤ 400 then 2 else 1)
    else s
  else s

/-- An invalid pulse with stamp `n` (R204); in FREE with DISC_EN = 1 any pulse leads to ACQUIRE, and in LOCKED the fourth in a row, each 1 s ± 250 µs after the one before, is the new
reference (table 6.6). -/
def State.ppsBad (s : State) (n : Nat) : State :=
  let s := (s.inc F.SUN_STAT_REJECTS).event 85
  let d := unsigned 64 ((n : Int) - s.sun.badAt)
  let near := decide (399900000 ≤ d) && decide (d ≤ 400100000)
  let s := s.modSun (fun u => { u with bad := if u.bad = 0 ∨ near = false then 1 else u.bad + 1, badAt := n, far := 0, good := 0 })
  if s.sunState = 0 ∧ s.flag F.SUN_CTRL_DISC_EN = true then s.sunEnter 1
  else if s.sunState = 2 ∧ 4 ≤ s.sun.bad then (s.sunEnter 1).modSun (fun u => { u with last := some n }) else s

/-- The value of SUN.SET_HI:SET_LO. -/
def State.setValue (s : State) : Nat := s.fld F.SUN_SET_HI * 2 ^ 32 + s.fld F.SUN_SET_LO

/-- R208: the set loads the counter; a disciplining Sundial goes to ACQUIRE. -/
def State.sunLoad (s : State) : State :=
  let s := s.sunMove s.setValue
  let s := (s.set F.SUN_STAT_SET_PENDING 0).set F.SUN_CTRL_SET_GO 0
  if s.sunState = 0 then s else s.sunEnter 1

/-- PPS_PULSE: an edge on SUN_PPS; the edge that PPS_FALL selects is a pulse: a set that waits for it loads the counter (R208),
and the pulse is judged (R204 to R206). -/
def execPpsPulse (rising : Bool) (s : State) : Host.Outcome State Fault Refusal :=
  .next (
    if s.isUp && s.sun.pll && rising != s.flag F.SUN_CTRL_PPS_FALL then
      let s := if s.flag F.SUN_STAT_SET_PENDING then s.sunLoad else s
      let n := s.now
      if s.ppsValid n then s.ppsGood n else s.ppsBad n
    else s)

/-- PPS_TIMEOUT: no valid pulse for 1.25 s (500 000 000 ticks): ACQUIRE falls to FREE, LOCKED to HOLDOVER, where RATE is held
at the integral term (R205, R206). -/
def execPpsTimeout (s : State) : Host.Outcome State Fault Refusal :=
  .next (
    match s.sun.last with
    | none => s
    | some l =>
      if s.isUp && s.sun.pll && decide (500000000 ≤ unsigned 64 ((s.now : Int) - l)) then
        if s.sunState = 1 then s.sunEnter 0
        else if s.sunState = 2 then (s.sunEnter 3).rateTo s.sun.integ
        else s
      else s)

/-- Start a set (R208): at once, or at the next pulse. -/
def State.setGo (s : State) : State :=
  if s.flag F.SUN_CTRL_SET_AT_PPS then (s.set F.SUN_STAT_SET_PENDING 1).set F.SUN_CTRL_SET_GO 1 else s.sunLoad

/-- A write of SUN.CTRL (table 6.18); DISC_EN = 0 puts the Sundial in FREE (R205). -/
def State.sunCtrlWrite (s : State) (w : Word) : State :=
  let s := s.forEach [F.SUN_CTRL_SET_AT_PPS, F.SUN_CTRL_TAU, F.SUN_CTRL_PPS_FALL, F.SUN_CTRL_DISC_EN]
    (fun s f => s.set f (fieldOf f w))
  let s := if s.flag F.SUN_CTRL_DISC_EN then s else s.sunEnter 0
  if fieldOf F.SUN_CTRL_SET_GO w = 1 then s.setGo else s

/-- SUN_CTRL_WRITE: a write of SUN.CTRL. -/
def execSunCtrlWrite (w : Word) (s : State) : Host.Outcome State Fault Refusal :=
  .next (s.running (fun s => s.sunCtrlWrite w))

/-- SET_GO: 1 written to SUN.CTRL.SET_GO, the other fields written as they stand (R208). -/
def execSetGo (s : State) : Host.Outcome State Fault Refusal := .next (s.running State.setGo)

/-- R209: the counter goes to SNAP_HI:SNAP_LO in one step. -/
def State.snap (s : State) : State := (s.set F.SUN_SNAP_LO (s.now % 2 ^ 32)).set F.SUN_SNAP_HI (s.now / 2 ^ 32)

/-- A write of SUN.CMD (table 6.20). -/
def State.sunCmdWrite (s : State) (w : Word) : State :=
  let s := if fieldOf F.SUN_CMD_CNT_CLR w = 1 then s.set F.SUN_STAT_REJECTS 0 else s
  if fieldOf F.SUN_CMD_SNAP w = 1 then s.snap else s

/-- SNAP: 1 written to SUN.CMD.SNAP (R209). -/
def execSnap (s : State) : Host.Outcome State Fault Refusal := .next (s.running State.snap)

/-- SUN_CNT_CLR: 1 written to SUN.CMD.CNT_CLR (table 6.20). -/
def execSunCntClr (s : State) : Host.Outcome State Fault Refusal := .next (s.running (fun s => s.set F.SUN_STAT_REJECTS 0))

/-! ### Action slots -/

/-- Latched values of slot n. -/
def State.act (s : State) (n : Nat) : Nat × Nat × Nat × Bool := nth (0, 0, 0, false) s.sun.acts n

/-- R210, R213: a write of ACTn_CTRL: CODE and ARG; CANCEL disarms an armed slot and wins over ARM; ARM latches time, CODE and
ARG of a slot that is not armed, unless CODE is reserved. -/
def State.actWrite (s : State) (n : Nat) (w : Word) : State :=
  let s := (s.set (F.SUN_ACT_CTRL_ARG n) (fieldOf (F.SUN_ACT_CTRL_ARG n) w)).set (F.SUN_ACT_CTRL_CODE n)
    (fieldOf (F.SUN_ACT_CTRL_CODE n) w)
  let armed := s.flag (F.SUN_ACT_CTRL_ARM n)
  if fieldOf (F.SUN_ACT_CTRL_CANCEL n) w = 1 then
    if armed then (s.set (F.SUN_ACT_CTRL_ARM n) 0).set (F.SUN_ACT_CTRL_STATUS n) 5 else s
  else if fieldOf (F.SUN_ACT_CTRL_ARM n) w = 1 ∧ armed = false ∧ s.fld (F.SUN_ACT_CTRL_CODE n) ≤ 5 then
    let t := s.fld (F.SUN_ACT_THI n) * 2 ^ 32 + s.fld (F.SUN_ACT_TLO n)
    let s := s.modSun (fun u => { u with
      acts := setNth u.acts n (t, s.fld (F.SUN_ACT_CTRL_CODE n), s.fld (F.SUN_ACT_CTRL_ARG n), decide (t < s.now)) })
    (s.set (F.SUN_ACT_CTRL_ARM n) 1).set (F.SUN_ACT_CTRL_STATUS n) 1
  else s

/-- ARM_ACTION: a write of SUN.ACTn_CTRL with ARM = 1 (R210). -/
def execArmAction (n : Nat) (w : Word) (s : State) : Host.Outcome State Fault Refusal :=
  .next (s.running (fun s => if n < 8 ∧ fieldOf (F.SUN_ACT_CTRL_ARM n) w = 1 then s.actWrite n w else s))

/-- CANCEL_ACTION: a write of SUN.ACTn_CTRL with CANCEL = 1 (R210). -/
def execCancelAction (n : Nat) (w : Word) (s : State) : Host.Outcome State Fault Refusal :=
  .next (s.running (fun s => if n < 8 ∧ fieldOf (F.SUN_ACT_CTRL_CANCEL n) w = 1 then s.actWrite n w else s))

/-- A write of ACTn_TLO or ACTn_THI, ignored while the slot is armed (R210). -/
def State.actTime (s : State) (n : Nat) (f : Fld) (w : Word) : State :=
  if s.flag (F.SUN_ACT_CTRL_ARM n) then s else s.setW f w

end Sys2Proof.Machine
end

