-- ==== Sys2Proof/Machine/Thermal.lean ====
section
/-! DEFINITION. The Orangery (spec/16_thermal.md): the die temperature and its bands, the throttle, the rise rate, the Trellis
die estimate, the hardware shutdown. -/

namespace Sys2Proof.Machine

/-- Change the record of the Orangery. -/
def State.modOrg (s : State) (f : Org → Org) : State := { s with org := f s.org }

/-- TJ in 0.25 °C. -/
def State.tj (s : State) : Int := s.sfld F.ORG_TJ_TJ

/-- Lower bound of a band in 0.25 °C (table 16.1). -/
def bandBound (n : Nat) : Int := nth 0 [0, 0, 200, 360, 460] n

/-- Highest band whose lower bound TJ reaches. -/
def bandOf (tj : Int) : Nat :=
  if 460 ≤ tj then 4 else if 360 ≤ tj then 3 else if 200 ≤ tj then 2 else if 0 ≤ tj then 1 else 0

/-- R526: the band falls while TJ is below the lower bound minus 2 K. -/
def bandFall (tj : Int) (n : Nat) : Nat :=
  match n with
  | 0 => 0
  | n + 1 => if tj < bandBound (n + 1) - 8 then bandFall tj n else n + 1

/-- R526: the band after a sample. -/
def bandNext (tj : Int) (band : Nat) : Nat := if band < bandOf tj then bandOf tj else bandFall tj band

/-- SNS.SAR_WIN field of a band (R233). -/
def winFld (band : Nat) : Fld :=
  nth F.SNS_SAR_WIN_W_TB4 [F.SNS_SAR_WIN_W_TB0, F.SNS_SAR_WIN_W_TB1, F.SNS_SAR_WIN_W_TB2, F.SNS_SAR_WIN_W_TB3,
    F.SNS_SAR_WIN_W_TB4] band

/-- What the present band switches in RUNNING (table 16.2, R233, R115, R89): the sampling window, and "band above image limit"
for each enabled axis while the band exceeds TB_MAX. -/
def State.bandApply (s : State) : State :=
  let band := s.fld F.ORG_TJ_BAND
  let s := s.set F.SNS_SAR_WIN_W_NOW (s.fld (winFld band))
  s.forEach [Axis.a, Axis.b] (fun s x =>
    if s.img.tbMax < band ∧ s.axisOn x = true then
      if s.cause (scAxis x) 22 then s else s.axisFaultOn x 22 0 band
    else s.setCause (scAxis x) 22 false)

/-- The carrier request of both axes may have changed (R532, R538). -/
def State.requestTouch (s : State) : State := (s.periodTouch .a).periodTouch .b

/-- R530, R534: the throttle request starts. -/
def State.throttleAsk (s : State) (byRise : Bool) : State :=
  if s.flag F.ORG_STAT_THR_REQ then s
  else ((s.set F.ORG_STAT_THR_REQ 1).modOrg (fun o => { o with asked := 0, byRise := byRise })).event 93

/-- R531: the throttle is enforced. -/
def State.throttleOn (s : State) : State :=
  if s.flag F.ORG_STAT_THR_REQ && !s.flag F.ORG_STAT_THR_ENF then ((s.set F.ORG_STAT_THR_ENF 1).event 94).requestTouch else s

/-- R531, R535: the throttle is enforced once the request has lasted GRACE × 0.1 s, 1000 samples each. -/
def State.throttleGrace (s : State) : State := if s.fld F.ORG_THR_CFG_GRACE * 1000 ≤ s.org.asked then s.throttleOn else s

/-- R530, R531, R534, R535: the throttle request judged at a sample, with the written THR_CFG and RISE_CFG, and its time with the written
GRACE. -/
def State.throttle (s : State) : State :=
  let s := s.forEach [F.ORG_THR_CFG_CR_EN_B, F.ORG_THR_CFG_CR_EN_A, F.ORG_THR_CFG_GRACE, F.ORG_THR_CFG_HYST,
    F.ORG_THR_CFG_TT_THR, F.ORG_RISE_CFG_RISE2_REQ, F.ORG_RISE_CFG_RISE2, F.ORG_RISE_CFG_RISE1] State.take
  let thr : Int := 4 * s.fld F.ORG_THR_CFG_TT_THR
  let s := s.requestTouch
  let s := if s.flag F.ORG_STAT_THR_REQ then
      let s := s.modOrg (fun o => { o with asked := o.asked + 1 })
      if s.tj < thr - 4 * s.fld F.ORG_THR_CFG_HYST ∧ s.org.byRise = false then
        (((s.set F.ORG_STAT_THR_REQ 0).set F.ORG_STAT_THR_ENF 0).event 95).requestTouch
      else s
    else if thr ≤ s.tj then s.throttleAsk false
    else s
  s.throttleGrace

/-- A sample joins the present span of R533, which ends with its 1000th. -/
def Org.spanAdd (o : Org) (tj : Int) : Org :=
  if 999 ≤ o.count then { o with means := ((o.sum + tj, o.count + 1) :: o.means).take 11, sum := 0, count := 0, ended := true }
  else { o with sum := o.sum + tj, count := o.count + 1 }

/-- TEMPERATURE_SAMPLE: the 10 kHz sample of the diode, in 0.25 °C before ORG.CAL.OFS, taken in every state of the control die
once the PLL runs (R523, R524, R526); the mean between two quarters is either (free: the manual states no rounding). -/
def execTemperatureSample (diode : Int) (s : State) : Host.Outcome State Fault Refusal :=
  .next (
    if s.sun.pll then
      let c := diode + s.sfld F.ORG_CAL_OFS
      let first := s.org.first
      let l := (c :: s.org.samples).take 16
      let s := s.modOrg (fun o => { o with samples := l, first := false })
      let sum := l.foldl (· + ·) 0
      let n : Int := l.length
      let up : Int := if sum % n = 0 then 0 else (b2n (Config.freeBit s.free) : Nat)
      let s := s.spent
      let m := sum / n + up
      let s := (s.setI F.ORG_TJ_TJ (clampI (-220) 700 m)).setB F.ORG_STAT_RANGE (decide (sum < -220 * n) || decide (700 * n < sum))
      let tj := s.tj
      let s := s.modOrg (fun o => o.spanAdd tj)
      let old := s.fld F.ORG_TJ_BAND
      let new := if first then bandOf tj else bandNext tj old
      let s := s.set F.ORG_TJ_BAND new
      let s := if first || new == old then s else (s.event 92).reverifyAsk
      if s.isRunning then s.bandApply.throttle else s
    else s)

/-- THROTTLE_ENFORCED: the request has lasted GRACE × 0.1 s, 1000 samples each (R531, R535). -/
def execThrottleEnforced (s : State) : Host.Outcome State Fault Refusal :=
  .next (s.running State.throttleGrace)

/-- ENF_NOW: 1 written to ORG.CTRL.ENF_NOW: enforced at once while requested (R531). -/
def execEnfNow (s : State) : Host.Outcome State Fault Refusal := .next (s.running State.throttleOn)

/-- RISE_RATE_UPDATE: at the end of each 100 ms (1000 samples, which count in every state): the rate of R533 and its two thresholds (R533, R534); until 1 s of
means exists ORG.RATE stands (log entry 15). -/
def execRiseRateUpdate (s : State) : Host.Outcome State Fault Refusal :=
  .next (
    if s.isRunning && s.org.ended then
      let s := s.modOrg (fun o => { o with ended := false })
      match s.org.means[0]?, s.org.means[10]? with
      | some m, some old =>
        let d := qMul (25, 1) (qSub m old)
        let rate := qFloor d + (if qLt (qInt (qFloor d)) d then (b2n (Config.freeBit s.free) : Int) else 0)
        let s := s.spent.setI F.ORG_RATE_VALUE rate
        let r1 : Frac := (10 * s.fld F.ORG_RISE_CFG_RISE1, 1)
        let r2 : Frac := (10 * s.fld F.ORG_RISE_CFG_RISE2, 1)
        let s := if qLt d (qDiv r1 (2, 1)) then s.modOrg (fun o => { o with arm1 := true })
          else if s.org.arm1 && qLe r1 d then
            ((s.set F.ORG_STAT_RISE1_SEEN 1).event 96).modOrg (fun o => { o with arm1 := false })
          else s
        if qLt d (qDiv r2 (2, 1)) then s.modOrg (fun o => { o with arm2 := true, byRise := false })
        else if s.org.arm2 && qLe r2 d then
          let s := ((s.set F.ORG_STAT_RISE2_SEEN 1).event 97).modOrg (fun o => { o with arm2 := false })
          if s.flag F.ORG_RISE_CFG_RISE2_REQ then s.throttleAsk true else s
        else s
      | _, _ => s
    else s)

/-! ### The Trellis die estimate -/

/-- 2⁸⁰. -/
def q80 : Nat := 1208925819614629174706176

/-- 40^(k/63) in 2⁻⁸⁰ (R436; log entry 16). -/
def ladder (k : Nat) : Nat :=
  match k with
  | 0 => q80
  | k + 1 => ladder k * 1281826296370241017134430 / q80

/-- Peak gate current of step index i as an exact number: 0.25 A (source, 0 to 63) or 0.4 A (sink, 64 to 127) × 40^(k/63)
(R436). -/
def stepAmps (i : Nat) : Frac :=
  if i < 64 then ((ladder i : Nat), 4 * q80) else ((2 * ladder (i - 64) : Nat), 5 * q80)

/-- A trim of k scales every step of its stage by 1 + 0.0025 × k (R652). -/
def trimScale (k : Int) : Frac := (400 + k, 400)

/-- The current that an output stage gives at an edge but for its trim: the trim in force at the edge scales it to the current of the step,
for "The currents of R436 are those after trim" (R652, R653). -/
def EdgeRec.stageAmps (e : EdgeRec) (sink : Bool) : Frac := qDiv (stepAmps (if sink then 64 + e.step else e.step)) (trimScale e.trim)

/-- Energy in the die of one edge at step index i (R536). -/
def edgeEnergy (qg vdrv rg : Frac) (i : Nat) : Frac :=
  let rInt := qDiv vdrv (stepAmps i)
  qNorm (qMul (qMul (qDiv qg (2, 1)) vdrv) (qDiv rInt (qAdd rInt rg)))

/-- ORG.DRV_EST field of an axis. -/
def drvEstFld (x : Axis) : Fld := match x with | .a => F.ORG_DRV_EST_A | .b => F.ORG_DRV_EST_B

/-- Loss of a Trellis die over the window that ends (R536). -/
def State.dieLoss (s : State) (x : Axis) : Frac :=
  let vdrv : Frac := (s.fld (F.TR_VBS_VDRV x), 10)
  let qg := s.paramQ x 0x1000 (0, 1)
  let rg := s.paramQ x 0x1001 (0, 1)
  let sum := (List.range 128).foldl (fun e i =>
    let n := nth 0 (s.tr x).edgeN i
    if n = 0 then e else qNorm (qAdd e (qMul (n, 1) (edgeEnergy qg vdrv rg i)))) (0, 1)
  qAdd (qMul (3, 1000) vdrv) (qMul (100, 1) sum)

/-- The rise after a window of loss p, both in 2⁻⁸⁰ units: rise + (40 p − rise) × 0.01 / 2 (R536). -/
def riseNext (p : Frac) (rise : Int) : Int :=
  rise + qFloor (qDiv (qSub (qMul (qInt (40 * q80 : Nat)) p) (qInt rise)) (200, 1))

/-- R538: the estimate t_drv, in 2⁻⁸⁰ of 0.25 °C, judged against DRV_LIM and DRV_LIM − 5 K. -/
def State.drvJudge (s : State) (x : Axis) (t lim : Int) : State :=
  if lim < t then
    let s := if s.cause (scAxis x) 52 then s else (s.faultOn 52 (scAxis x) 0 0).event 98
    if s.flag (drvFld x) then s else (s.set (drvFld x) 1).requestTouch
  else
    let s := s.setCause (scAxis x) 52 false
    if t < lim - (20 * q80 : Nat) ∧ s.flag (drvFld x) = true then (s.set (drvFld x) 0).requestTouch else s

/-- DRIVER_ESTIMATE_WINDOW: the 10 ms window of a Trellis die ends: loss, rise and estimate (R536), and the limit of R538. -/
def execDriverEstimateWindow (x : Axis) (s : State) : Host.Outcome State Fault Refusal :=
  .next (s.running (fun s =>
    let rise := riseNext (s.dieLoss x) (nth 0 s.org.rise x.ix)
    let s := s.modTr x (fun t => { t with edgeN := List.replicate 128 0 })
    let s := s.modOrg (fun o => { o with rise := setNth o.rise x.ix rise })
    let t : Int := s.tj * (q80 : Int) + 4 * rise
    let up : Nat := if t % (q80 : Int) = 0 then 0 else b2n (Config.freeBit s.free)
    let s := s.spent.setI (drvEstFld x) (t / (q80 : Int) + (up : Int))
    s.drvJudge x t ((4 * s.fld F.ORG_DRV_CFG_DRV_LIM * q80 : Nat) : Int)))

/-! ### Hardware shutdown -/

/-- R487, R488: a Trellis die at the trip holds a low ASC with the QUIET and EXIT_V in force. It keeps a state of a higher row of R480
(all-off, torque-off, a high ASC of desaturation or gate-off origin), in force or due, a low ASC among them with its origin; and it stays
all-off where TOFF_x_N is low (R60, R62), its driver supply is (R48) or the image disables its axis (R105). -/
def State.thermalAsc (s : State) (x : Axis) : State :=
  let hold (s : State) : State := s.modTr x (fun t => { t with
    thermal := true, quiet := s.fld (F.TR_SAFE_CFG_QUIET x), exitV := s.fld (F.TR_SAFE_CFG_EXIT_V x) })
  let low : Due := { st := ssLOW, rank := 5, origin := 5, retry := false }
  if s.toffLow x || (s.tr x).drvLow || s.axisBarred x then s
  else match (s.tr x).due with
    | some e =>
      if 5 < e.rank then (hold s).modTr x (fun t => { t with due := some low })
      else if e.st = ssLOW then hold s else s
    | none =>
      if s.outranks x 5 then
        if (s.tr x).soft = 0 then (hold s).putSafe x low.st low.rank low.origin
        else (hold s).modTr x (fun t => { t with due := some low })
      else if s.safe x = ssLOW then ((hold s).set (F.TR_SAFE_STAT_THERMAL x) 1).ascAgain x
      else s

/-- THERMAL_SHUTDOWN: the die reaches 150 °C: code 36, both Trellis dies act (R487), and the control die is held in reset
(R527, R528). -/
def execThermalShutdown (s : State) : Host.Outcome State Fault Refusal :=
  .next (
    if s.die == .thermal || s.die == .por then s
    else
      let s := (s.setCause 0 36 true).fault 36 0 0 (unsigned 32 s.tj)
      let s := (s.thermalAsc .a).thermalAsc .b
      (((s.modOrg (fun o => { o with halted := true })).toDie .thermal).settle .a).settle .b)

end Sys2Proof.Machine
end

