-- ==== Sys2Proof/Machine/Bank.lean ====
section
/-! DEFINITION. The Ha-ha bank's comparators (spec/08_window_comparators.md, R251 to R267), the hardware signals they and the
fast-path windows assert (R227, R263), and the threshold read-back. -/

namespace Sys2Proof.Machine

/-! ### Ownership and quantity -/

/-- Owner code of AIN input a (table 4.4). -/
def State.ainOwner (s : State) (a : Nat) : Nat := s.img.ainOwner / 4 ^ a % 4

/-- Owner code of data input i. -/
def State.sddOwner (s : State) (i : Nat) : Nat := s.img.sddOwner / 4 ^ i % 4

/-- Owner code of comparator n as the image gives it. -/
def State.hahOwnerRaw (s : State) (n : Nat) : Nat := s.img.hahOwner / 4 ^ n % 4

/-- Owner code of comparator n; 0 where its SEL names no input of that owner (R253). -/
def State.hahOwner (s : State) (n : Nat) : Nat :=
  let o := s.hahOwnerRaw n
  let sel := s.fld (F.HAH_CMP_SEL n)
  if sel < 16 ∧ s.ainOwner sel = o then o else 0

/-- The axis an owner code names. -/
def ownerAxis (o : Nat) : Option Axis := if o = 1 then some .a else if o = 2 then some .b else none

/-- The axis of comparator n's place (0 to 5 axis A, 6 to 11 axis B) and of data input i (0 to 3, 4 to 7). -/
def cmpAxis (n : Nat) : Axis := if n < 6 then .a else .b
@[inherit_doc cmpAxis] def sddAxis (i : Nat) : Axis := if i < 4 then .a else .b

/-- Side index of comparator n: 2n LO, 2n + 1 HI. -/
def sideIx (n : Nat) (hi : Bool) : Nat := 2 * n + b2n hi

/-- A side of a comparator. -/
def State.side (s : State) (i : Nat) : Side := nth Side.reset s.hah.sides i

/-- Route of a side. -/
def State.sideRoute (s : State) (n : Nat) (hi : Bool) : Nat :=
  if hi then s.fld (F.HAH_CMP_ROUTE_HI n) else s.fld (F.HAH_CMP_ROUTE_LO n)

/-- Hardware signals: 0 phase overcurrent, 1 brake overcurrent, 2 bus overvoltage. The one a HW-routed side asserts (table 8.1);
none where it acts as EVENT. -/
def State.sideSignal (s : State) (n : Nat) (hi : Bool) : Option Nat :=
  if s.sideRoute n hi ≠ 1 then none
  else match n % 6 with
    | 3 => if hi then some 2 else none
    | 4 => some 1
    | _ => some 0

/-- Signal of the fast-path window of data input i (R227): a VBUS window asserts bus overvoltage at either bound (log entry 67). -/
def winSignal (i : Nat) : Nat := if i % 4 = 3 then 2 else 0

/-- A side asserts a signal to an axis: from the sample in which it trips to the one in which it clears (R258, R261). -/
def State.sideAsserts (s : State) (x : Axis) (sig : Nat) (n : Nat) (hi : Bool) : Bool :=
  let d := s.side (sideIx n hi)
  d.trip && !d.held && d.sig == some (x.ix, sig)

/-- A fast-path window asserts a signal to its owner. -/
def State.winAsserts (s : State) (x : Axis) (sig : Nat) (i : Nat) : Bool :=
  nth true s.sns.fTrip i && !nth true s.sns.fHeld i && ownerAxis (s.sddOwner i) == some x && winSignal i == sig

/-- Any source of the axis asserts the signal (R263). -/
def State.signalOn (s : State) (x : Axis) (sig : Nat) : Bool :=
  (List.range 12).any (fun n => s.sideAsserts x sig n true || s.sideAsserts x sig n false) ||
    (List.range 8).any (fun i => s.winAsserts x sig i)

/-- A protective comparator (R260) or owned fast-path window (R227, R228) of the axis is tripped: the bridge stays off (R94). -/
def State.protTripped (s : State) (x : Axis) : Bool :=
  (List.range 12).any (fun n =>
    ownerAxis (s.hahOwner n) == some x && ((s.sideSignal n true).isSome || (s.sideSignal n false).isSome) &&
      ((s.side (sideIx n true)).trip || (s.side (sideIx n false)).trip)) ||
    (List.range 8).any (fun i => ownerAxis (s.sddOwner i) == some x && nth true s.sns.fTrip i)

/-- A source of the axis asserts a signal, or one more source does: the fault is raised each time (R263), the reaction taken
(table 14.3). -/
def State.signalRise (s : State) (x : Axis) (sig unit : Nat) : State :=
  match sig with
  | 0 =>
    (s.faultOn 3 (scAxis x) unit 0).chooseSafe x (if s.above x then s.ascPol x else ssOFF) 6 3 true
  | 1 => if (s.tr x).brkOc then s.faultOn 14 (scCascade x) x.ix 0 else s.brakeOcOn x
  | _ => if (s.tr x).ovSig then s.busOvFault x 3 else s.busOvOn x

/-- The last source of the axis has stopped asserting a signal (R263). -/
def State.signalFall (s : State) (x : Axis) (sig : Nat) : State :=
  if s.signalOn x sig then s
  else match sig with
    | 0 => s.setCause (scAxis x) 3 false
    | 1 => if (s.tr x).brkOc then s.brakeOcOff x else s
    | _ => if (s.tr x).ovSig then s.busOvOff x else s

/-! ### Trips and clears -/

/-- Set a side and the comparator's bit in HAH.STATE (R257). -/
def State.putSide (s : State) (n : Nat) (hi : Bool) (d : Side) : State :=
  let s := s.modHah (fun b => { b with sides := setNth b.sides (sideIx n hi) d })
  s.setBit F.HAH_STATE_TRIPPED n ((s.side (sideIx n true)).trip || (s.side (sideIx n false)).trip)

/-- HAH.CBC_CNT field of an axis. -/
def cbcFld (x : Axis) : Fld := match x with | .a => F.HAH_CBC_CNT_A | .b => F.HAH_CBC_CNT_B

/-- R264: comparator n, CBC-routed on its HI side, limits the PWM phase of axis x. -/
def State.cbcActs (s : State) (x : Axis) (n : Nat) : Bool :=
  s.flag (F.PW_SIX_SIXSTEP x) && (n % 6 == 5 || n % 6 == (sixPhases (s.fld (F.PW_SIX_SECTOR x))).1)

/-- R194, R264: in six-step a CBC-routed HI side of AUX or of the PWM phase's current turns the PWM phase's high side off, which
counts, and keeps it off until the next update instant: a command of the link, after which its low side waits DT_HL (R193). A safe state
keeps its switches (R477). -/
def State.cbcOff (s : State) (x : Axis) (n : Nat) : State :=
  let ph := (sixPhases (s.fld (F.PW_SIX_SECTOR x))).1
  if s.cbcActs x n then
    let s := s.modTb x (fun t => { t with cbc := true, out := withBit t.out (2 * ph) false })
    if s.safe x = 0 ∧ bit (s.tr x).cmd (2 * ph) = true then
      (s.linkCommand x (withBit (s.tr x).cmd (2 * ph) false)).inc (cbcFld x)
    else s
  else s

/-! ### Thresholds -/

/-- R264: codes by which the ramp of axis x lowers a limit, `back` clocks ago: the PWM phase's high side has been on since `onAt`. -/
def State.ramp (s : State) (x : Axis) (back : Nat) : Nat :=
  let c := 2 * (sixPhases (s.fld (F.PW_SIX_SECTOR x))).1
  if bit (s.tr x).gates c then
    min (s.fld (F.HAH_RAMP_MAX x)) (s.fld (F.HAH_RAMP_SLOPE x) * (s.ticks - nth 0 (s.tr x).onAt c - back) / 1600)
  else 0

/-- The ramp of DAC k (R264, R266); 0 where none acts on it. -/
def State.dacRamp (s : State) (k back : Nat) : Nat :=
  let n := k / 2
  match ownerAxis (s.hahOwner n) with
  | some x => if k % 2 = 1 ∧ s.fld (F.HAH_CMP_ROUTE_HI n) = 2 ∧ n % 6 ≠ 3 ∧ n % 6 ≠ 4 ∧ s.cbcActs x n = true then s.ramp x back else 0
  | none => 0

/-- Code that a DAC drove `back` clocks ago (R255, R264); DAC 2n is LO of comparator n, 2n + 1 HI. -/
def State.dacCode (s : State) (k back : Nat) : Nat :=
  let n := k / 2
  let h := if (s.side k).trip then 4 * s.fld (F.HAH_CMP_HYST n) else 0
  if k % 2 = 1 then s.fld (F.HAH_THR_HI n) - s.dacRamp k back - h
  else min 4095 (s.fld (F.HAH_THR_LO n) + h)

/-- R252, R254: an input of `uv` µV lies outside side k's DAC output, c × VREFA / 4096 with VREFA in µV, each as the comparator takes it
(log entry 81). -/
def State.outside (s : State) (k back : Nat) (uv vref : Int) : Bool :=
  if k % 2 = 1 then decide ((s.dacCode k back : Int) * vref < 4096 * uv) else decide (4096 * uv < (s.dacCode k back : Int) * vref)

/-! ### Samples (R256) -/

/-- N of comparator n's majority filters; a FILT above 15 is taken as it stands (DESIGN CHOICE, log entry 82). -/
def State.filtN (s : State) (n : Nat) : Nat := 2 * max 1 (s.fld (F.HAH_CMP_FILT n)) + 1

/-- R263: a side trips from the cleared state: sticky bit, event, and its route (R259). -/
def State.sideTrip (s : State) (n : Nat) (hi : Bool) (outs : List Bool) : State :=
  let x := ownerAxis (s.hahOwner n)
  let sig := x.bind (fun x => (s.sideSignal n hi).map (fun g => (x.ix, g)))
  let s := s.putSide n hi { trip := true, held := false, outs := outs, sig := sig }
  let s := s.setBit (if hi then F.HAH_STICKY_HI else F.HAH_STICKY_LO) n true
  let s := s.evx (cmpAxis n) (22 + n % 6)
  match x with
  | none => s
  | some x =>
    match s.sideSignal n hi with
    | some g => s.signalRise x g n
    | none => if hi && s.sideRoute n hi == 2 && n % 6 != 3 && n % 6 != 4 then s.cbcOff x n else s

/-- A tripped side clears: the signal it asserted ends with the last source of it (R261, R263). -/
def State.sideClear (s : State) (n : Nat) (hi : Bool) (outs : List Bool) : State :=
  let sig := (s.side (sideIx n hi)).sig
  let s := s.putSide n hi { trip := false, held := false, outs := outs, sig := none }
  match sig with
  | some (xi, g) => s.signalFall (if xi = 0 then .a else .b) g
  | none => s

/-- R256: one sample of a side, taken `back` clocks ago: it trips where more than half of its last N samples are outside, and clears
where all of them are inside. -/
def State.sideSample (s : State) (n : Nat) (hi : Bool) (back : Nat) (uv vref : Int) : State :=
  let d := s.side (sideIx n hi)
  let outs := (s.outside (sideIx n hi) back uv vref :: d.outs).take 31
  let last := outs.take (s.filtN n)
  if d.trip = false ∧ s.filtN n < 2 * (last.filter id).length then s.sideTrip n hi outs
  else if d.trip = true ∧ last.any id = false then s.sideClear n hi outs
  else s.putSide n hi { d with outs := outs }

/-- Samples of a side, 10 ns apart and oldest first, the last one taken now. -/
def State.sideSamples (s : State) (n : Nat) (hi : Bool) (uv : List Int) (vref : Int) : State :=
  match uv with
  | [] => s
  | v :: r => (s.sideSample n hi (4 * r.length) v vref).sideSamples n hi r vref

/-- COMPARATOR_TRIP: the voltages at a cleared side's input, sampled every 10 ns, and VREFA, in µV: the side trips as its filter says
(R252, R254, R256, R259, R263); a comparator without an owner is not used (R104). -/
def execComparatorTrip (n : Nat) (hi : Bool) (uv : List Int) (vref : Int) (s : State) : Host.Outcome State Fault Refusal :=
  .next (s.running (fun s =>
    if n < 12 ∧ (s.side (sideIx n hi)).trip = false ∧ s.hahOwner n ≠ 0 then s.sideSamples n hi uv vref else s))

/-- COMPARATOR_CLEAR: the voltages at a tripped side's input, sampled every 10 ns, and VREFA, in µV: the side clears once all of its last
N samples are inside (R255, R256), from RUNNING on (R258), and never for a comparator without an owner (R104). -/
def execComparatorClear (n : Nat) (hi : Bool) (uv : List Int) (vref : Int) (s : State) : Host.Outcome State Fault Refusal :=
  .next (s.running (fun s =>
    if n < 12 ∧ (s.side (sideIx n hi)).trip = true ∧ s.hahOwner n ≠ 0 then s.sideSamples n hi uv vref else s))

/-! ### Threshold read-back -/

/-- DACs of connected comparators (R266). -/
def State.dacs (s : State) : List Nat := (List.range 24).filter (fun k => decide (s.fld (F.HAH_CMP_SEL (k / 2)) < 16))

/-- Raise or end "threshold read-back error" of a DAC (R267): code 21 for an axis's comparator, 41 for the device's. -/
def State.rbFault (s : State) (k : Nat) (bad : Bool) : State :=
  let o := if bad then s.hahOwner (k / 2) else nth 0 s.sns.rbOwn k
  let s := s.modSns (fun n => { n with rbOwn := setNth n.rbOwn k (if bad then o else 0) })
  let others : Bool := s.sns.rbOwn.contains o
  if o = 0 then s
  else match ownerAxis o with
  | some x => if bad then s.axisFaultOn x 21 k 0 else if others then s else s.setCause (scAxis x) 21 false
  | none => if bad then s.faultOn 41 0 k 0 else if others then s else s.setCause 0 41 false

/-- R266, R267: a read-back of DAC k returned `code`; it is discarded, to be repeated, while the DAC's ramp is nonzero. -/
def State.readBack (s : State) (k code : Nat) : State :=
  if s.flag F.HAH_RB_CFG_EN && s.dacs.contains k && s.dacRamp k 0 == 0 then
    let want := 4 * s.dacCode k 0
    let diff := if want < code then code - want else want - code
    let bad := decide (s.fld F.HAH_RB_CFG_TOL < diff)
    let run := nth 0 s.sns.rbRun k
    let s := s.modSns (fun n => { n with rbRun := setNth n.rbRun k (if bad then min 2 (run + 1) else 0),
                                         rbSeen := setNth n.rbSeen k true })
    let s := if bad then s.setBit F.HAH_RB_STAT_ERR k true else s
    let s := if bad && run == 1 then s.rbFault k true else if !bad && run == 2 then s.rbFault k false else s
    if s.dacs.all (fun j => nth false s.sns.rbSeen j) then
      (s.inc F.HAH_RB_STAT_PASSES).modSns (fun n => { n with rbSeen := List.replicate 24 false })
    else s
  else s

/-! ### Writes -/

/-- R277: HAH.CNT_CLR zeroes the counters it names. -/
def State.hahCntClr (s : State) (w : Word) : State :=
  let on (f : Fld) : Bool := fieldOf f w == 1
  let s := s.onlyIf (on F.HAH_CNT_CLR_CBC) (fun s => (s.set F.HAH_CBC_CNT_A 0).set F.HAH_CBC_CNT_B 0)
  let s := s.onlyIf (on F.HAH_CNT_CLR_RB) (fun s => s.set F.HAH_RB_STAT_PASSES 0)
  let s := s.onlyIf (on F.HAH_CNT_CLR_HALL_A) (fun s => (s.set (F.HAH_HALL_ST_SKIPS .a) 0).set (F.HAH_HALL_ST_INVALIDS .a) 0)
  let s := s.onlyIf (on F.HAH_CNT_CLR_HALL_B) (fun s => (s.set (F.HAH_HALL_ST_SKIPS .b) 0).set (F.HAH_HALL_ST_INVALIDS .b) 0)
  let s := s.onlyIf (on F.HAH_CNT_CLR_ENC_A) (fun s => (s.set (F.HAH_ENC_ST_ERRS .a) 0).set (F.HAH_ENC_ST_ZERRS .a) 0)
  s.onlyIf (on F.HAH_CNT_CLR_ENC_B) (fun s => (s.set (F.HAH_ENC_ST_ERRS .b) 0).set (F.HAH_ENC_ST_ZERRS .b) 0)

/-- HAH_CNT_CLR: a write of HAH.CNT_CLR. -/
def execHahCntClr (w : Word) (s : State) : Host.Outcome State Fault Refusal := .next (s.running (fun s => s.hahCntClr w))

/-- The bridge of the comparator's owning axis is enabled (R265). -/
def State.ownerBridge (s : State) (o : Nat) : Bool :=
  match ownerAxis o with
  | some x => s.bridgeOn x
  | none => false

/-- R104, R253: a comparator whose SEL names no input of its owner is not used: its sides are in their tripped state and assert
nothing (log entry 47). -/
def State.sidesIdle (s : State) (n : Nat) : State :=
  s.forEach [false, true] (fun s hi =>
    let sig := (s.side (sideIx n hi)).sig
    let s := s.putSide n hi Side.reset
    match sig with
    | some (xi, g) => s.signalFall (if xi = 0 then .a else .b) g
    | none => s)

/-- R265: a write of HAH.CMPn. -/
def State.cmpWrite (s : State) (n : Nat) (w : Word) : State :=
  let s := s.forEach [F.HAH_CMP_HYST n, F.HAH_CMP_FILT n] (fun s f => s.set f (fieldOf f w))
  if s.ownerBridge (s.hahOwnerRaw n) then s
  else
    let s := s.forEach [F.HAH_CMP_ROUTE_HI n, F.HAH_CMP_ROUTE_LO n, F.HAH_CMP_SEL n] (fun s f => s.set f (fieldOf f w))
    if s.hahOwner n = 0 then s.sidesIdle n else s

/-- R265: a write of HAH.THRn is ignored where it makes LO greater than HI. -/
def State.thrWrite (s : State) (n : Nat) (w : Word) : State :=
  if fieldOf (F.HAH_THR_HI n) w < fieldOf (F.HAH_THR_LO n) w then s
  else (s.set (F.HAH_THR_HI n) (fieldOf (F.HAH_THR_HI n) w)).set (F.HAH_THR_LO n) (fieldOf (F.HAH_THR_LO n) w)

end Sys2Proof.Machine
end

