-- ==== Sys2Proof/Machine/Sensing.lean ====
section
/-! DEFINITION. Current and voltage sensing (spec/07_sensing.md): codes, calibration, the records that are delivered, sequences
of the SAR converters, sigma-delta results, the fast-path windows, low-side shunts, the sum check, dead-time distortion. -/

namespace Sys2Proof.Machine

/-! ### From codes to values -/

/-- ZERO and SCALE of quantity q of an axis (0 IU, 1 IV, 2 IW, 3 VBUS, 4 IBRK, 5 AUX) (table 7.3). -/
def State.zeroOf (s : State) (x : Axis) (q : Nat) : Frac := s.paramQ x (0x0700 + 2 * q) (0, 1)
@[inherit_doc State.zeroOf] def State.scaleOf (s : State) (x : Axis) (q : Nat) : Frac := s.paramQ x (0x0701 + 2 * q) (0, 1)

/-- GAIN × (raw − OFS) of a live calibration word (R239, table 7.14). -/
def calibrated (cal : Word) (raw : Frac) : Frac :=
  qMul (fieldOf (F.SNS_CAL_GAIN 0) cal, 32768) (qSub raw (qInt (signed 16 (fieldOf (F.SNS_CAL_OFS 0) cal))))

/-- R239: (GAIN × (raw − OFS) − ZERO) × SCALE as binary32. -/
def State.valueOf (s : State) (x : Axis) (q : Nat) (cal : Word) (raw : Frac) : Word :=
  fOfFrac (qMul (qSub (calibrated cal raw) (s.zeroOf x q)) (s.scaleOf x q))

/-- Flag bits of a record (R241). -/
def flSAT : Nat := 1
@[inherit_doc flSAT] def flSTALE : Nat := 2
@[inherit_doc flSAT] def flRECON : Nat := 4
@[inherit_doc flSAT] def flUNCAL : Nat := 8
@[inherit_doc flSAT] def flWAITED : Nat := 16

/-- The record of a quantity (R241). -/
def record (v : Word) (flags : Nat) (raw : Int) (hold : Nat) : List Word :=
  [v, BitVec.ofNat 32 flags, BitVec.ofInt 32 raw, BitVec.ofNat 32 hold]

/-- Flags of a record. -/
def recFlags (r : List Word) : Nat := (nth 0 r 1).toNat

/-- UNCAL of a path (R242). -/
def State.uncal (s : State) (path : Nat) : Nat := if s.sns.noSlot && !nth false s.sns.calW path then flUNCAL else 0

/-- Live calibration of a path: data input 0 to 7, converter 8 or 9 (table 7.14). -/
def State.cal (s : State) (path : Nat) : Word := s.rd (A.SNS_CAL path)

/-- SNS.STAT.STALE field of an axis. -/
def staleFld (x : Axis) : Fld := match x with | .a => F.SNS_STAT_STALE_A | .b => F.SNS_STAT_STALE_B

/-- A graph of the axis has an edge from delivery source n. -/
def State.namesSource (s : State) (x : Axis) (n : Nat) : Bool :=
  s.img.graphs.any (fun g => g.axis == x.ix && g.edges.any (fun e => e.1 == 0xFF00 + n))

/-- Deliver the record of quantity q of an axis as source q + 1 (table 5.3); a STALE one sets SNS.STAT.STALE_x where a graph of the
axis names the quantity (R217); an AUX value without STALE or SAT is the last good one (R334). -/
def State.putQuant (s : State) (x : Axis) (q : Nat) (r : List Word) : State :=
  let s := s.putSrc x.ix (q + 1) r
  let s := if q = 5 ∧ bit (recFlags r) 1 = false ∧ bit (recFlags r) 0 = false then
      s.modSv x (fun v => { v with auxGood := some (nth 0 r 0) })
    else s
  if bit (recFlags r) 1 && s.namesSource x (q + 1) then s.set (staleFld x) 1 else s

/-- Sensing path of an axis: 1 sigma-delta (R216). -/
def State.sigmaDelta (s : State) (x : Axis) : Bool := (match x with | .a => s.img.senseA | .b => s.img.senseB) == 1

/-- SNS.TOPO of an axis as it acts (R218). -/
def State.topo (s : State) (x : Axis) : Nat :=
  let t := match x with | .a => s.fld F.SNS_TOPO_TOPO_A | .b => s.fld F.SNS_TOPO_TOPO_B
  if t = 3 then 0 else if t = 2 ∧ s.sigmaDelta x = true then 0 else t

/-- SNS.MAP_x field of quantity q. -/
def mapFld (x : Axis) (q : Nat) : Fld :=
  nth (F.SNS_MAP_AUX x) [F.SNS_MAP_IU x, F.SNS_MAP_IV x, F.SNS_MAP_IW x, F.SNS_MAP_VBUS x, F.SNS_MAP_IBRK x,
    F.SNS_MAP_AUX x] q

/-- AIN input of quantity q of an axis; none where the map names none the axis owns (R217), or the quantity comes from the
sigma-delta path (R216). -/
def State.ainOf (s : State) (x : Axis) (q : Nat) : Option Nat :=
  let a := s.fld (mapFld x q)
  if (s.sigmaDelta x = true ∧ q < 4) ∨ 16 ≤ a ∨ s.ainOwner a ≠ x.ix + 1 then none else some a

/-! ### Phase currents (R218, R243 to R245) -/

/-- A record formed as minus the sum of two (R218, R244): RECON and the flags either carries, raw 0, the later hold instant. -/
def formed (a b : List Word) : List Word :=
  let f (n : Nat) : Bool := bit (recFlags a) n || bit (recFlags b) n
  let fl := flRECON + (if f 0 then flSAT else 0) + (if f 1 then flSTALE else 0) + (if f 3 then flUNCAL else 0) +
    (if f 4 then flWAITED else 0)
  record (fNeg (fAdd (nth 0 a 0) (nth 0 b 0))) fl 0 (max (nth 0 a 3).toNat (nth 0 b 3).toNat)

/-- Index of an axis and slot in the lists of Sense. -/
def slotIx (x : Axis) (n : Nat) : Nat := 4 * x.ix + n

/-- Record of phase p of slot n since its latest sample instant, and whether the phase was usable. -/
def State.phaseCur (s : State) (x : Axis) (n p : Nat) : Option (List Word × Bool) := nth none s.sns.cur (3 * slotIx x n + p)

/-- Record of phase p of slot n since its latest sample instant. -/
def State.phaseRec (s : State) (x : Axis) (n p : Nat) : Option (List Word) := (s.phaseCur x n p).map (·.1)

/-- Sub-tick of the present interval at which a sample instant `at_` ticks after the valley or wrap falls (R243). -/
def State.slotPos (s : State) (x : Axis) (at_ : Nat) : Nat :=
  16 * at_ - (if s.half x = 2 ∧ s.saw x = false then s.fullScale x (s.period x) else 0)

/-- SNS.STAT.SUMERR field of an axis. -/
def sumFld (x : Axis) : Fld := match x with | .a => F.SNS_STAT_SUMERR_A | .b => F.SNS_STAT_SUMERR_B

/-- The sum of a slot's currents no longer exceeds SUM_LIM; the cause ends with the last such slot of the axis (R245). -/
def State.sumEnd (s : State) (x : Axis) (n : Nat) : State :=
  let was := nth 0 s.sns.sumRun (slotIx x n)
  let s := s.modSns (fun m => { m with sumRun := setNth m.sumRun (slotIx x n) 0 })
  if was = 2 ∧ (List.range 4).all (fun k => nth 0 s.sns.sumRun (slotIx x k) != 2) = true then s.setCause (scAxis x) 19 false else s

/-- The slots of an axis whose sum is judged: those enabled, with TOPO 0 and SUM_LIM above 0 (R245, table 7.3). -/
def State.sumJudged (s : State) (x : Axis) (n : Nat) : Bool :=
  s.flag (F.PW_SAMP_EN x n) && s.topo x == 0 && (s.paramQ x 0x070E (0, 1)).1 != 0

/-- A sample instant of slot n falls: no phase has a record yet (R243), and a slot whose sum is no longer judged has none that exceeds
SUM_LIM (R245). -/
def State.slotOpen (s : State) (x : Axis) (n at_ : Nat) : State :=
  let s := s.modSns (fun m => { m with
    cur := (List.range 3).foldl (fun l p => setNth l (3 * slotIx x n + p) none) m.cur
    slotAt := setNth m.slotAt (slotIx x n) ((s.tb x).upd, s.slotPos x at_)
    slotCar := setNth m.slotCar (slotIx x n) (s.tb x).carrier })
  s.forEach ((List.range 4).filter (fun k => !s.sumJudged x k)) (fun s k => s.sumEnd x k)

/-- R245: the sum of three measured currents of slot n against SUM_LIM; a carrier with a STALE one, or in which not all three are
measured, is none of two in a row. -/
def State.sumCheck (s : State) (x : Axis) (n : Nat) (r : List (List Word)) : State :=
  let i := slotIx x n
  let car := nth 0 s.sns.slotCar i
  let next := nth 0 s.sns.sumAt i + 1 == car
  let run := nth 0 s.sns.sumRun i
  if s.sumJudged x n = false ∨ r.any (fun e => bit (recFlags e) 1) = true then s
  else if qLt (s.paramQ x 0x070E (0, 1)) (qAbs (r.foldl (fun a e => qAdd a (fVal (nth 0 e 0))) (0, 1))) then
    let s := s.modSns (fun m => { m with sumRun := setNth m.sumRun i (if run = 2 then 2 else if run = 1 ∧ next = true then 2 else 1)
                                         sumAt := setNth m.sumAt i car })
    if run = 1 ∧ next = true then (s.set (sumFld x) 1).axisFaultOn x 19 0 0 else s
  else s.sumEnd x n

/-- R246: keep a phase current where slot n is the first of its interval that delivers one. -/
def State.noteFirst (s : State) (x : Axis) (n p : Nat) (v : Word) : State :=
  let u := (nth (0, 0) s.sns.slotAt (slotIx x n)).1
  let l := nth [] s.sns.firsts x.ix
  let put (e : First) : First := { e with cur := setNth e.cur p (some v) }
  let l' := if l.any (fun e => e.upd == u) then l.map (fun e => if e.upd == u && e.slot == n then put e else e)
    else (put { upd := u, slot := n, cur := [none, none, none] } :: l).take 2
  s.modSns (fun m => { m with firsts := setNth m.firsts x.ix l' })

/-- R246: a filtered distortion moves by 1/64 of its distance; between two whole sub-ticks it is either (free: no rounding is
stated). -/
def State.dtdMove (s : State) (f : Fld) (δ : Int) : State :=
  let n := δ - s.sfld f
  let up : Nat := if n % 64 = 0 then 0 else b2n (Config.freeBit s.free)
  s.spent.setI f (clampI (-32768) 32767 (s.sfld f + n / 64 + (up : Int)))

/-- R246: one update of the filtered distortion of phase p at a phase current. -/
def State.dtdStep (s : State) (x : Axis) (p : Nat) (δ : Int) (w : Word) : State :=
  let i := fVal w
  let lim := s.paramQ x 0x070D (1, 1)
  if qLt lim i then s.dtdMove (F.SNS_DTD_POS (3 * x.ix + p)) δ
  else if qLt i (qNeg lim) then s.dtdMove (F.SNS_DTD_NEG (3 * x.ix + p)) δ
  else s

/-- R246: the current of an interval whose EDGES record has been delivered before it: the update is made now. -/
def State.dtdLate (s : State) (x : Axis) (n p : Nat) (w : Word) : State :=
  let u := (nth (0, 0) s.sns.slotAt (slotIx x n)).1
  let mine (e : Nat × Nat × Nat × Int) : Bool := e.1 == x.ix && e.2.1 == u && e.2.2.1 == p
  match s.sns.late.find? mine with
  | some e =>
    if (nth [] s.sns.firsts x.ix).any (fun f => f.upd == u && f.slot == n) then
      (s.modSns (fun m => { m with late := m.late.filter (fun e => !mine e) })).dtdStep x p e.2.2.2 w
    else s
  | none => s

/-- Deliver the record of phase p of slot n, and keep it for the next carrier (R244) and for R246. -/
def State.putPhase (s : State) (x : Axis) (n p : Nat) (r : List Word) : State :=
  let s := ((s.putQuant x p r).noteFirst x n p (nth 0 r 0)).dtdLate x n p (nth 0 r 0)
  let old := nth [] s.sns.prev (slotIx x n)
  s.modSns (fun m => { m with prev := setNth m.prev (slotIx x n) (setNth [nth [] old 0, nth [] old 1, nth [] old 2] p r) })

/-- R377: the measured currents of a slot along and across the frame that the current loops run on, which is θ but where a service holds
one of its own (R318, R354). -/
def State.measure (s : State) (x : Axis) (r : List (List Word)) : State :=
  let i (p : Nat) : Word := nth 0 (nth [] r p) 0
  let ab := clarke (i 0) (i 1) (i 2)
  let th := fVal (s.sv x).thF
  let dq := park (nth 0 ab 0) (nth 0 ab 1) (fOfFrac (qSin th)) (fOfFrac (qCos th))
  s.modSv x (fun v => { v with idM := nth 0 dq 0, iqM := nth 0 dq 1 })

/-- Deliver the three phase records of slot n. -/
def State.putPhases (s : State) (x : Axis) (n : Nat) (r : List (List Word)) : State :=
  (s.forEach (List.range 3) (fun s p => s.putPhase x n p (nth [] r p))).measure x r

/-- High-side command of phase p at sub-tick `t` of an interval (R177 to R179, R193); at its end, the command that it ends with. -/
def Ival.high (i : Ival) (p t : Nat) : Bool :=
  i.six.all (fun k => (sixPhases k).1 == p) && highOn i.h (nth 0 i.d p) i.half t

/-- Low-side command, before dead time. -/
def Ival.low (i : Ival) (p t : Nat) : Bool :=
  match i.six with
  | none => !i.high p t
  | some k => (sixPhases k).2.1 == p || ((sixPhases k).1 == p && i.sync && !i.high p t)

/-- Where the high-side command is off at sub-tick `t`: the sub-tick it fell at in the interval; 0 where it has been off since the
interval began. -/
def Ival.fell (i : Ival) (p t : Nat) : Nat :=
  let d := nth 0 i.d p
  if i.six.any (fun k => (sixPhases k).1 != p) then 0
  else if i.half = 0 then (if i.h + d ≤ t ∧ 0 < d then i.h + d else 0)
  else if i.half = 1 then 0
  else d

/-- For how many sub-ticks a command state of a phase has stood at sub-tick `t` of the first interval, the ones before it following,
newest first, and DT_HL (`dt`: of the interval after them) of the interval in which it began; `more` and no wait where it stood through
them all. -/
def stoodFor (on : Ival → Nat → Bool) (since : Ival → Nat → Nat) (more dt : Nat) : List Ival → Nat → Nat × Nat
  | [], _ => (more, 0)
  | i :: r, t =>
    if on i t = false then (0, dt)
    else if 0 < since i t then (t - since i t, i.dt)
    else
      let e := stoodFor on since more i.dt r ((r.head?.map Ival.len).getD 0)
      (t + e.1, e.2)

/-- R243: phase p is usable at sub-tick `t` of an interval: its low side is commanded on, and SHUNT_SETTLE (`settle` sub-ticks) has passed
since it was and since DT_HL after the high-side command fell. -/
def usableAt (l : List Ival) (p t settle : Nat) : Bool :=
  match l with
  | [] => false
  | i :: _ =>
    let low := stoodFor (fun i t => i.low p t) (fun i t => if i.six.any (fun k => (sixPhases k).2.1 == p) then 0 else i.fell p t)
      65536 0 l t
    let off := stoodFor (fun i t => !i.high p t) (fun i t => i.fell p t) 131072 0 l t
    i.low p t && decide (settle ≤ low.1) && decide (off.2 + settle ≤ off.1)

/-- The interval in which sub-tick `t` of an interval falls, once those after it have run, oldest first. -/
def ivalAt : List Ival → List Ival → Nat → List Ival × Nat
  | l, [], t => (l, t)
  | l, i :: r, t =>
    let len := (l.head?.map Ival.len).getD 0
    if len ≤ t then ivalAt (i :: l) r (t - len) else (l, t)

/-- R243: phase p is usable at a hold instant, `hold` sub-ticks after the sample instant of slot n. -/
def State.usable (s : State) (x : Axis) (n p hold : Nat) : Bool :=
  let b := s.tb x
  let at_ := nth (0, 0) s.sns.slotAt (slotIx x n)
  let all := b.cur :: b.past
  let since := b.upd - at_.1
  let w := ivalAt (all.drop since) (all.take since).reverse (at_.2 + hold)
  usableAt w.1 p w.2 (-qFloor (qMul (s.paramQ x 0x070C (600, 1)) (-32, 5))).toNat

/-- The phase records of slot n with TOPO 2, with whether each phase is usable: R244; what the slot delivered last stands with its
raw code and hold instant, zero words where it has delivered nothing (DESIGN CHOICE, log entry 65). -/
def State.shunts (s : State) (x : Axis) (n : Nat) (r : List (List Word)) (ok : List Bool) : State :=
  let named := (List.range 3).any (fun p => s.namesSource x (p + 1))
  match (List.range 3).filter (fun p => !nth false ok p) with
  | [] => s.putPhases x n r
  | [p] =>
    let q := formed (nth [] r ((p + 1) % 3)) (nth [] r ((p + 2) % 3))
    (if s.namesSource x (p + 1) then s.inc (F.SNS_CNT_RECON x) else s).putPhases x n (setNth r p q)
  | _ =>
    let old := nth [] s.sns.prev (slotIx x n)
    let stale := (List.range 3).map (fun p =>
      let e := nth [0, 0, 0, 0] old p
      let f := recFlags e
      setNth e 1 (BitVec.ofNat 32 (if bit f 1 then f else f + flSTALE)))
    (if named then s.inc (F.SNS_CNT_STALE x) else s).putPhases x n stale

/-- SEL and REP of entry e of a sequence word (table 7.9). -/
def seqSel (w : Word) (e : Nat) : Nat := bits w.toNat (8 * e + 4) (8 * e)
@[inherit_doc seqSel] def seqRep (w : Word) (e : Nat) : Nat :=
  match bits w.toNat (8 * e + 6) (8 * e + 5) with | 1 => 2 | 2 => 4 | _ => 1

/-- Inputs that the entries of a sequence word convert from entry e on (R234). -/
def seqInputs (w : Word) (e : Nat) : List Nat :=
  (((List.range 4).map (seqSel w)).takeWhile (fun a => decide (a < 16))).drop e

/-- Converter m (0 or 1). -/
def State.sar (s : State) (m : Nat) : Sar := nth { run := none, wait := [] } s.sns.sars m

/-- Sequence word of axis, slot and converter (table 7.9). -/
def State.seqWord (s : State) (x n m : Nat) : Word := s.rd (A.SNS_SEQ (8 * x + 2 * n + m))

/-- Inputs that the sequences of a slot have still to convert. -/
def State.slotInputs (s : State) (x n : Nat) : List Nat :=
  (List.range 2).flatMap (fun m =>
    let c := s.sar m
    (match c.run with
      | some r => if r.axis = x ∧ r.slot = n then seqInputs r.seq r.entry else []
      | none => []) ++ (if c.wait.any (fun w => w.1 == x && w.2.1 == n) then seqInputs (s.seqWord x n m) 0 else []))

/-- A phase record of slot n is complete, `hold` sub-ticks after the slot's sample instant: with TOPO 0 each is delivered as it comes
and the sum is judged as the third does (R245), with TOPO 1 IW is formed once IU and IV are there (R218), with TOPO 2 the three are
judged once the slot has no phase still to convert; one that none of its sequences converts is not usable (R243, R244; log entry 46). With
TOPO 1 and IU or IV mapped to no input, IW is not formed (log entry 65). -/
def State.phaseDone (s : State) (x : Axis) (n p hold : Nat) (r : List Word) : State :=
  let full (s : State) : Bool := (List.range 3).all (fun p => (s.phaseCur x n p).isSome)
  let was := full s
  let s := s.modSns (fun m => { m with cur := setNth m.cur (3 * slotIx x n + p) (some (r, s.usable x n p hold)) })
  let rs (s : State) : List (List Word) := (List.range 3).map (fun p => ((s.phaseRec x n p).getD []))
  match s.topo x with
  | 1 =>
    let s := s.putPhase x n p r
    match s.phaseRec x n 0, s.phaseRec x n 1 with
    | some u, some v => (s.putPhase x n 2 (formed u v)).measure x [u, v, formed u v]
    | _, _ => s
  | 2 =>
    let left := s.slotInputs x.ix n
    if (List.range 3).any (fun p => (s.ainOf x p).any (fun a => left.contains a)) then s
    else s.shunts x n (rs s) ((List.range 3).map (fun p => ((s.phaseCur x n p).map (·.2)).getD false))
  | _ =>
    let s := s.putPhase x n p r
    if full s then
      let s := s.measure x (rs s)
      if was then s else s.sumCheck x n (rs s)
    else s

/-- A record of quantity q of slot n is complete. -/
def State.quantDone (s : State) (x : Axis) (n q hold : Nat) (r : List Word) : State :=
  if q < 3 then (if s.topo x = 1 ∧ q = 2 then s else s.phaseDone x n q hold r) else s.putQuant x q r

/-! ### The SAR converters -/

/-- Replace converter m. -/
def State.putSar (s : State) (m : Nat) (c : Sar) : State := s.modSns (fun n => { n with sars := setNth n.sars m c })

/-- The sequence an axis and slot, whose sample instant fell at clock `at_`, start on converter m (R233, R235, R240, R249). -/
def State.seqStart (s : State) (x n m : Nat) (waited : Bool) (at_ : Nat) : SeqRun :=
  { axis := x, slot := n, seq := s.seqWord x n m, w := s.fld F.SNS_SAR_WIN_W_NOW, cal := s.cal (8 + m), entry := 0,
    convs := 0, waited := waited, at_ := at_, start := s.ticks }

/-- SNS.STAT.WAIT field of an axis. -/
def waitFld (x : Axis) : Fld := match x with | .a => F.SNS_STAT_WAIT_A | .b => F.SNS_STAT_WAIT_B

/-- A sequence waits for converter m, before those that wait from `k` on (R236). -/
def State.seqWait (s : State) (m k : Nat) (w : Nat × Nat × Nat) : State :=
  let c := s.sar m
  s.putSar m { c with wait := c.wait.take k ++ w :: c.wait.drop k }

/-- R236: a sequence of axis x starts late: WAIT_x, and it counts. -/
def State.seqLate (s : State) (x : Axis) : State := (s.set (waitFld x) 1).inc (F.SNS_CNT_WAIT x)

/-- R234, R236: converter m starts the sequence of a slot, or later if it is busy; of two due at the same clock axis A's runs first. -/
def State.seqBegin (s : State) (x : Axis) (n m : Nat) : State :=
  if 16 ≤ seqSel (s.seqWord x.ix n m) 0 then s
  else
    let c := s.sar m
    let w := (x.ix, n, s.ticks)
    match c.run with
    | none => s.putSar m { c with run := some (s.seqStart x.ix n m false s.ticks) }
    | some r =>
      if x = .a ∧ r.axis = 1 ∧ r.at_ = s.ticks ∧ r.start = s.ticks then
        (s.putSar m { c with run := some (s.seqStart x.ix n m false s.ticks) }).seqWait m 0 (1, r.slot, s.ticks)
      else s.seqWait m (c.wait.takeWhile (fun e => !(x == .a && e.1 == 1 && e.2.2 == s.ticks))).length w

/-- The sequences that wait from the first one on that converts anything: R234 ends one whose SEL0 is 16 to 31 at once. -/
def State.seqDue (s : State) (m : Nat) : List (Nat × Nat × Nat) → List (Nat × Nat × Nat)
  | [] => []
  | e :: r => if 16 ≤ seqSel (s.seqWord e.1 e.2.1 m) 0 then s.seqDue m r else e :: r

/-- The sequence in progress ends; the one that waits starts, late (R236). -/
def State.seqNext (s : State) (m : Nat) : State :=
  match s.seqDue m (s.sar m).wait with
  | [] => s.putSar m { run := none, wait := [] }
  | (x, n, t) :: r =>
    (s.putSar m { run := some (s.seqStart x n m true t), wait := r }).seqLate (if x = 0 then .a else .b)

/-- R232: the code of an input voltage against VREFA, both in µV as the converter takes them (log entry 81); outside the range of
table 23.2 it is free. -/
def State.sarCode (s : State) (uv vref : Int) : Nat × State :=
  if 2985000 ≤ vref ∧ vref ≤ 3015000 then ((min 16383 (16384 * max 0 uv / vref)).toNat, s)
  else (Config.freeNat s.free % 16384, s.spent)

/-- The codes of consecutive conversions. -/
def State.sarCodes (s : State) (uv : List Int) (vref : Int) : List Nat × State :=
  match uv with
  | [] => ([], s)
  | v :: r =>
    let c := s.sarCode v vref
    let l := c.2.sarCodes r vref
    (c.1 :: l.1, l.2)

/-- Mean of codes rounded to the nearest integer, halves upwards (R234). -/
def meanCode (l : List Nat) : Nat := (2 * l.foldl (· + ·) 0 + l.length) / (2 * max 1 l.length)

/-- The record that codes of an AIN input make for quantity q of an axis (none: the calibrated code, R239). -/
def State.sarRecord (s : State) (x : Axis) (q : Option Nat) (m : Nat) (cal : Word) (codes : List Nat) (waited : Bool)
    (hold : Nat) : List Word :=
  let raw : Frac := ((codes.foldl (· + ·) 0 : Nat), max 1 codes.length)
  let v := match q with
    | some q => s.valueOf x q cal raw
    | none => fOfFrac (calibrated cal raw)
  let sat := if codes.any (fun c => c == 0 || c == 16383) then flSAT else 0
  record v (sat + s.uncal (8 + m) + (if waited then flWAITED else 0)) (meanCode codes : Nat) hold

/-- Quantities of an axis that an AIN input carries. -/
def State.quantsOf (s : State) (x : Axis) (a : Nat) : List Nat := (List.range 6).filter (fun q => s.ainOf x q == some a)

/-- An entry of a sequence of slot n has converted AIN input a, its last hold instant `hold` sub-ticks after the sample instant: the
input's quantities and source 16 + a (table 5.3), which takes ZERO and SCALE of the first of its quantities in the order of table 7.3 (log
entry 65). -/
def State.ainDone (s : State) (x : Axis) (n a m : Nat) (cal : Word) (codes : List Nat) (waited : Bool) (hold : Nat) : State :=
  let qs := s.quantsOf x a
  let ns := hold * 5 / 32
  let s := s.forEach qs (fun s q => s.quantDone x n q hold (s.sarRecord x (some q) m cal codes waited ns))
  s.putSrc x.ix (16 + a) (s.sarRecord x qs.head? m cal codes waited ns)

/-- A background conversion of an axis's input a (R237): it has no sample instant, so no phase current is formed from it, and one that is
formed (IW with TOPO 1) or judged (all with TOPO 2) is not delivered from it (R218). -/
def State.ainBackground (s : State) (x : Axis) (a m code : Nat) : State :=
  let qs := s.quantsOf x a
  let direct (q : Nat) : Bool := decide (3 ≤ q) || s.topo x == 0 || (s.topo x == 1 && q != 2)
  let s := s.forEach (qs.filter direct) (fun s q => s.putQuant x q (s.sarRecord x (some q) m (s.cal (8 + m)) [code] false 0))
  s.putSrc x.ix (16 + a) (s.sarRecord x qs.head? m (s.cal (8 + m)) [code] false 0)

/-- SAR_CONVERSION_END: the last conversion of the entry in progress on converter m ends; `uv`: the input at the hold instants of its
repeats, `vref`: VREFA, in µV (R231 to R236, R241). -/
def execSarConversionEnd (m : Nat) (uv : List Int) (vref : Int) (s : State) : Host.Outcome State Fault Refusal :=
  .next (s.running (fun s =>
    match (s.sar m).run with
    | none => s
    | some r =>
      let a := seqSel r.seq r.entry
      let x : Axis := if r.axis = 0 then .a else .b
      if uv.length ≠ seqRep r.seq r.entry then s
      else
        let c := s.sarCodes uv vref
        let s := c.2
        let hold := 16 * (r.start - r.at_) + 1280 * (r.convs + uv.length - 1) + 80 * r.w
        let s := if r.entry = 3 ∨ 16 ≤ seqSel r.seq (r.entry + 1) then s.seqNext m
          else s.putSar m { (s.sar m) with run := some { r with entry := r.entry + 1, convs := r.convs + uv.length } }
        if s.ainOwner a = r.axis + 1 then s.ainDone x r.slot a m r.cal c.1 r.waited hold else s))

/-- An enabled sequence of axis x (0 or 1) converts input a. -/
def State.inSeq (s : State) (x a : Nat) : Bool :=
  let ax : Axis := if x = 0 then .a else .b
  (List.range 4).any (fun n => s.flag (F.PW_SAMP_EN ax n) && (List.range 2).any (fun m =>
    (seqInputs (s.seqWord x n m) 0).contains a))

/-- AIN inputs owned by an axis that no enabled sequence of it converts (R237). -/
def State.bgInputs (s : State) : List Nat :=
  (List.range 16).filter (fun a => match ownerAxis (s.ainOwner a) with | some x => !s.inSeq x.ix a | none => false)

/-- R237: input a is the next of the round-robin: the first after the one converted last, which came 10 µs ago or never. -/
def State.bgTurn (s : State) (a : Nat) : Bool :=
  let l := s.bgInputs
  let last := s.sns.bgLast
  let next := ((l.filter (fun b => decide (last < b))) ++ l).head?
  next == some a && (nth none s.sns.bgAt a).all (fun t => decide (t + 4000 ≤ s.ticks))

/-- BACKGROUND_CONVERSION: converter m has converted an input once in the background: it was idle with no sequence waiting and none due
within 200 ns (`ahead`: ns from the conversion's start to the next one), and an axis's input is the next of the round-robin (R237).
A sequence that falls due meanwhile starts on time, and no such command comes for the conversion abandoned. `uv`, `vref`: the input
and VREFA in µV (R232); of a DAC the conversion is its read-back (R266). -/
def execBackgroundConversion (m : Nat) (what : BgInput) (uv vref : Int) (ahead : Nat) (s : State) :
    Host.Outcome State Fault Refusal :=
  .next (s.running (fun s =>
    if m < 2 ∧ (s.sar m).run = none ∧ (s.sar m).wait = [] ∧ 200 ≤ ahead then
      let c := s.sarCode uv vref
      let s := c.2
      match what with
      | .ain a =>
        if a < 16 then
          match ownerAxis (s.ainOwner a) with
          | some x =>
            if s.bgTurn a then
              (s.modSns (fun n => { n with bgLast := a, bgAt := setNth n.bgAt a (some s.ticks) })).ainBackground x a m c.1
            else s
          | none => if s.ainOwner a = 3 then s.putSrc 3 (16 + a) (s.sarRecord .a none m (s.cal (8 + m)) [c.1] false 0) else s
        else s
      | .dac k => s.readBack k c.1
      | .other => s
    else s))

/-! ### Sigma-delta -/

/-- Record of a sigma-delta code of quantity q (R223, R239, R242). -/
def State.sdRecord (s : State) (x : Axis) (q : Nat) (code : Int) : List Word :=
  let i := 4 * x.ix + q
  let sat := if code = -32768 ∨ code = 32767 then flSAT else 0
  let stale := if nth true s.sns.sdStale i then flSTALE else 0
  record (s.valueOf x q (s.cal i) (code, 1)) (sat + stale + s.uncal i) code 0

/-- OSR of the sinc3 path and of the sinc2 path of a data input (table 7.6). -/
def State.osr3 (s : State) (i : Nat) : Nat := 16 * 2 ^ min 4 (s.fld (F.SNS_SDCH_OSR3 i))
@[inherit_doc State.osr3] def State.osr2 (s : State) (i : Nat) : Nat := 8 * 2 ^ min 2 (s.fld (F.SNS_SDCH_OSR2 i))

/-- Weights of the bits that a sinc3 and a sinc2 filter of OSR r sum: r equal taps, convolved with themselves (log entry 46). -/
def sinc3Weights (r : Nat) : List Nat :=
  let c2 (n : Nat) : Nat := n * (n - 1) / 2
  (List.range (3 * r - 2)).map (fun k => c2 (k + 2) + 3 * c2 (k + 2 - 2 * r) - 3 * c2 (k + 2 - r))
@[inherit_doc sinc3Weights] def sinc2Weights (r : Nat) : List Nat :=
  (List.range (2 * r - 1)).map (fun k => min (k + 1) (2 * r - 1 - k))

/-- R223: the code of the weighted fraction of ones in the captured bits; it is free where bits lack (R225), and which of two codes a
value half way between them gives is free too. -/
def State.densityCode (s : State) (ws : List Nat) (bits : List Bool) : Int × State :=
  if bits.length = ws.length then
    let sum : Nat := ws.foldl (· + ·) 0
    let ones : Nat := ((ws.zip bits).map (fun e => if e.2 then e.1 else 0)).foldl (· + ·) 0
    (clampI (-32768) 32767 (qRound (Config.tieUp s.free) (32768 * (2 * (ones : Int) - sum), max 1 sum)), s.spent)
  else (signed 16 ((Config.freeWord s.free).toNat % 65536), s.spent)

/-- R224: the sinc3 results of the four data inputs of an axis at the sample instant of slot n; `captured`: per data input the
3 × OSR3 − 2 bits that end with the last capture at or before it. -/
def State.sinc3 (s : State) (x : Axis) (n : Nat) (captured : List (List Bool)) : State :=
  if s.sigmaDelta x then
    s.forEach (List.range 4) (fun s q =>
      if s.sddOwner (4 * x.ix + q) = x.ix + 1 then
        let c := s.densityCode (sinc3Weights (s.osr3 (4 * x.ix + q))) (nth [] captured q)
        c.2.quantDone x n q 0 (c.2.sdRecord x q c.1)
      else s)
  else s

/-- SINC3_SETTLED: 3 × OSR − 2 bits have been captured since the restart: the path is no longer STALE (R225). -/
def execSinc3Settled (i captured : Nat) (s : State) : Host.Outcome State Fault Refusal :=
  .next (s.running (fun s =>
    if i < 8 ∧ 3 * s.osr3 i - 2 ≤ captured ∧ s.sddOwner i ≠ 0 then
      s.modSns (fun n => { n with sdStale := setNth n.sdStale i false })
    else s))

/-- R225: sinc3 results of an axis that it uses are STALE after a restart. -/
def State.sdStaleUsed (s : State) (x : Axis) : Bool :=
  s.sigmaDelta x && (List.range 4).any (fun q =>
    nth true s.sns.sdStale (4 * x.ix + q) && !(s.topo x == 1 && q == 2))

/-- SINC2_RESULT: a sinc2 result of data input i, of its latest 2 × OSR2 − 1 captured bits (R223), judged against its window (R226 to
R228). -/
def execSinc2Result (i : Nat) (captured : List Bool) (s : State) : Host.Outcome State Fault Refusal :=
  .next (s.running (fun s =>
    if i < 8 ∧ s.sddOwner i ≠ 0 then
      let r := s.densityCode (sinc2Weights (s.osr2 i)) captured
      let c := r.1
      let s := r.2
      let out := decide (signed 16 (s.fld (F.SNS_FTHR_HI i)) < c) || decide (c < signed 16 (s.fld (F.SNS_FTHR_LO i)))
      let trip := nth true s.sns.fTrip i
      let need := s.fld (F.SNS_SDCH_FILT i) + 1
      let run := if out != trip then nth 0 s.sns.fRun i + 1 else 0
      let s := s.modSns (fun n => { n with fast := setNth n.fast i c, fRun := setNth n.fRun i (if need ≤ run then 0 else run) })
      if need ≤ run then
        let s := s.modSns (fun n => { n with fTrip := setNth n.fTrip i (!trip), fHeld := setNth n.fHeld i false })
        if trip then
          match ownerAxis (s.sddOwner i) with
          | some x => s.signalFall x (winSignal i)
          | none => s
        else
          let s := (s.setBit F.SNS_STAT_FTRIP i true).evx (sddAxis i) (22 + i % 4)
          match ownerAxis (s.sddOwner i) with
          | some x => s.signalRise x (winSignal i) (16 + i)
          | none => s
      else s
    else s))

/-- SIGMA_DELTA_INPUT_STUCK: data input i has captured one level at `clocks` clocks in a row: 1024 raise "sigma-delta input
stuck"; 0 is a change of level, which ends the cause (R230). -/
def execSigmaDeltaInputStuck (i clocks : Nat) (s : State) : Host.Outcome State Fault Refusal :=
  .next (s.running (fun s =>
    let was := nth false s.sns.stuck i
    let o := s.sddOwner i
    if 8 ≤ i ∨ o = 0 then s
    else if 1024 ≤ clocks then
      if was then s
      else
        let s := (s.setBit F.SNS_STAT_STUCK i true).modSns (fun n => { n with stuck := setNth n.stuck i true })
        match ownerAxis o with
        | some x => s.axisFaultOn x 20 i 0
        | none => s.faultOn 40 0 i 0
    else if clocks = 0 ∧ was = true then
      let s := s.modSns (fun n => { n with stuck := setNth n.stuck i false })
      let more := (List.range 8).any (fun j => nth false s.sns.stuck j && s.sddOwner j == o)
      match ownerAxis o with
      | some x => s.setCause (scAxis x) 20 more
      | none => s.setCause 0 40 more
    else s))

/-! ### Writes -/

/-- R225: the sinc3 paths of some data inputs restart. -/
def State.sdRestart (s : State) (l : List Nat) : State :=
  s.forEach l (fun s i => s.modSns (fun n => { n with sdStale := setNth n.sdStale i true }))

/-- SNS.SDCLK field of an axis. -/
def divFld (x : Axis) : Fld := match x with | .a => F.SNS_SDCLK_DIV_A | .b => F.SNS_SDCLK_DIV_B

/-- R247: a write of SNS.SDCLK: each divider in 16 to 80, not while its axis's bridge is enabled; a change restarts the axis's
sinc3 paths. -/
def State.sdclkWrite (s : State) (w : Word) : State :=
  s.forEach [Axis.a, Axis.b] (fun s x =>
    let v := fieldOf (divFld x) w
    if s.bridgeOn x || !inRange 16 80 v then s
    else if v = s.fld (divFld x) then s
    else (s.set (divFld x) v).sdRestart ((List.range 4).map (fun q => 4 * x.ix + q)))

/-- SDCLK_WRITE: a write of SNS.SDCLK. -/
def execSdclkWrite (w : Word) (s : State) : Host.Outcome State Fault Refusal := .next (s.running (fun s => s.sdclkWrite w))

/-- R219, table 7.6: a write of SNS.SDCHn: FILT always; OSR2, OSR3 and CAPDLY not while the owning axis's bridge is enabled. -/
def State.sdchWrite (s : State) (i : Nat) (w : Word) : State :=
  let s := s.set (F.SNS_SDCH_FILT i) (fieldOf (F.SNS_SDCH_FILT i) w)
  if s.ownerBridge (s.sddOwner i) then s
  else
    let s := s.set (F.SNS_SDCH_CAPDLY i) (fieldOf (F.SNS_SDCH_CAPDLY i) w)
    let s := s.setIf (F.SNS_SDCH_OSR2 i) w (fun v => decide (v < 3))
    let v := fieldOf (F.SNS_SDCH_OSR3 i) w
    if v < 5 ∧ v ≠ s.fld (F.SNS_SDCH_OSR3 i) then (s.set (F.SNS_SDCH_OSR3 i) v).sdRestart [i] else s

/-- R248: a write of SNS.FTHRn is ignored where it makes LO greater than HI. -/
def State.fthrWrite (s : State) (i : Nat) (w : Word) : State :=
  if signed 16 (fieldOf (F.SNS_FTHR_HI i) w) < signed 16 (fieldOf (F.SNS_FTHR_LO i) w) then s else s.wr (A.SNS_FTHR i) w

/-- R250: SNS.CNT_CLR. -/
def State.snsCntClr (s : State) (w : Word) : State :=
  let s := if fieldOf F.SNS_CNT_CLR_DTD w = 1 then s.forEach (List.range 6) (fun s n => s.wr (A.SNS_DTD n) 0) else s
  let s := if fieldOf F.SNS_CNT_CLR_CNT_B w = 1 then s.wr (A.SNS_CNT .b) 0 else s
  if fieldOf F.SNS_CNT_CLR_CNT_A w = 1 then s.wr (A.SNS_CNT .a) 0 else s

/-- SNS_CNT_CLR: a write of SNS.CNT_CLR. -/
def execSnsCntClr (w : Word) (s : State) : Host.Outcome State Fault Refusal := .next (s.running (fun s => s.snsCntClr w))

/-- Table 7.14: a write of SNS.CALn: GAIN within 0x6000 to 0xA000, OFS any. -/
def State.calWrite (s : State) (n : Nat) (w : Word) : State :=
  let s := s.setIf (F.SNS_CAL_GAIN n) w (inRange 0x6000 0xA000)
  (s.set (F.SNS_CAL_OFS n) (fieldOf (F.SNS_CAL_OFS n) w)).modSns (fun m => { m with calW := setNth m.calW n true })

/-! ### Measured edges -/

/-- Measured high interval of phase p less the commanded one in the interval that has ended, in sub-ticks (R246); none where the
phase did not switch or an edge was not measured. -/
def State.edgeDelta (s : State) (x : Axis) (p : Nat) : Option Int :=
  let b := nth Ival.zero (s.tb x).past 0
  let h := b.h
  let d := nth 0 b.d p
  let e (i : Nat) : Nat := (nth 0 (s.tr x).edgesEnd (4 * p + i)).toNat
  let rise : Option Nat := if bit (e 0) 24 then some (e 0 % 2 ^ 24) else none
  let fall : Option Nat := if bit (e 2) 24 then some (e 2 % 2 ^ 24) else none
  if d = 0 ∨ h ≤ d ∨ b.six.any (fun k => (sixPhases k).1 != p) = true then none
  else match b.half, rise, fall with
    | 1, some r, _ => some ((b.len : Int) - r - d)
    | 0, some r, some f => some ((f : Int) - r - 2 * d)
    | 2, none, some f => some ((f : Int) - d)
    | 2, some r, some f => some ((f : Int) - r - d)
    | _, _, _ => none

/-- The current of phase p at the first slot of the interval that has ended (R246); none where none has been delivered. -/
def State.firstCur (s : State) (x : Axis) (p : Nat) : Option Word :=
  ((nth [] s.sns.firsts x.ix).find? (fun e => e.upd + 1 == (s.tb x).upd)).bind (fun e => nth none e.cur p)

/-- R246: one update of the filtered distortion of phase p, at once or, where the current of the interval that has ended is still to be
delivered, as it is. -/
def State.dtdDue (s : State) (x : Axis) (p : Nat) (δ : Int) : State :=
  match s.firstCur x p with
  | none => s.modSns (fun m => { m with late := m.late ++ [(x.ix, (s.tb x).upd - 1, p, δ)] })
  | some w => s.dtdStep x p δ w

/-- EDGES_DELIVERY: the EDGES record of the interval that ended with the latest update instant is delivered, at most 250 ns after it
(R444, table 13.3), and the dead-time distortion is updated (R246). -/
def execEdgesDelivery (x : Axis) (s : State) : Host.Outcome State Fault Refusal :=
  .next (s.running (fun s =>
    let t := s.tr x
    let s := s.putSrc x.ix 8 ([BitVec.ofNat 32 (nth Ival.zero (s.tb x).past 0).len, BitVec.ofNat 32 (b2n t.errEnd)] ++ t.edgesEnd ++ [0, 0])
    let s := s.modSns (fun m => { m with late := m.late.filter (fun e => e.1 != x.ix || decide ((s.tb x).upd ≤ e.2.1 + 2)) })
    s.forEach (List.range 3) (fun s p =>
      match s.edgeDelta x p with
      | some d => s.dtdDue x p d
      | none => s)))

end Sys2Proof.Machine
end

