-- ==== Sys2Proof/Machine/Position.lean ====
section
/-! DEFINITION. Position inputs (spec/08_window_comparators.md, R268 to R276): Hall sets, encoders, the POS record; and what an
axis does with them (R279, R298 to R300, R305, R306). -/

namespace Sys2Proof.Machine

/-! ### Sets and the axes that name them -/

/-- Position source of an axis: 0 none, 1 and 2 Hall sets A and B, 3 and 4 encoders A and B (table 4.4). -/
def State.pos (s : State) (x : Axis) : Nat := match x with | .a => s.img.posA | .b => s.img.posB

/-- The Hall set, or the encoder, an axis's position source names. -/
def State.hallSet (s : State) (x : Axis) : Option Axis := match s.pos x with | 1 => some .a | 2 => some .b | _ => none
@[inherit_doc State.hallSet] def State.encSet (s : State) (x : Axis) : Option Axis :=
  match s.pos x with | 3 => some .a | 4 => some .b | _ => none

/-- Axes whose position source is a code of table 4.4. -/
def State.posAxes (s : State) (code : Nat) : List Axis := [Axis.a, Axis.b].filter (fun x => s.pos x == code)

/-- Change a Hall set's record. -/
def State.modHall (s : State) (h : Axis) (f : Hall → Hall) : State :=
  { s with hah := { s.hah with halls := setNth s.hah.halls h.ix (f (nth Hall.reset s.hah.halls h.ix)) } }

/-- A Hall set's record. -/
def State.hall (s : State) (h : Axis) : Hall := nth Hall.reset s.hah.halls h.ix

/-- Change an encoder's record. -/
def State.modEnc (s : State) (e : Axis) (f : Enc → Enc) : State :=
  { s with hah := { s.hah with encs := setNth s.hah.encs e.ix (f (nth Enc.reset s.hah.encs e.ix)) } }

/-- An encoder's record. -/
def State.enc (s : State) (e : Axis) : Enc := nth Enc.reset s.hah.encs e.ix

/-- Sector of a Hall code (table 8.3). -/
def hallSector (code : Nat) : Nat := nth 7 [7, 1, 3, 2, 5, 0, 4, 7] code

/-! ### Position lost (R306) -/

/-- Belvedere has handed a trusted angle to the axis: the supervisor in NORMAL or SUSPECT, from the hand-over on, and in the identification
tests that turn the rotor (log entry 20). -/
def State.blvTrusted (s : State) (x : Axis) : Bool :=
  let st := s.axState x
  decide (s.fld (F.MC_BLV_STAT_SUP x) < 2) &&
    ((decide (4 ≤ st) && decide (st ≤ 6)) || (st == 3 && (decide (2 ≤ (s.sv x).align) || (s.sv x).idCmd.isSome)))

/-- R306: the axis goes on with Belvedere, which its trust comes from, where POS_LOSS is 1 and AGREE stands; else "position lost"
(DETAIL 0 Hall, 1 encoder). -/
def State.posLost (s : State) (x : Axis) : State :=
  if s.flag (F.MC_MODE_POS_LOSS x) && s.flag (F.MC_BLV_STAT_AGREE x) then
    let s := s.modSv x (fun v => { v with onBlv := true })
    s.setB (F.MC_STATE_POS_TRUSTED x) (s.blvTrusted x)
  else s.axisFault x 25 0 (if (s.encSet x).isSome then 1 else 0)

/-! ### Hall sets -/

/-- HALL_OFFSET of an axis. -/
def State.hallOffset (s : State) (x : Axis) : Frac := s.paramQ x 0x0800 (0, 1)

/-- Angle of the boundary where a sector is entered (R299): its start forward, its end backward. -/
def State.hallBoundary (s : State) (x : Axis) (sector : Nat) (rev : Bool) : Frac :=
  qAdd (qMul ((sector + b2n rev : Nat), 3) qPi) (s.hallOffset x)

/-- R299: θ of an axis is set at an accepted change into a sector, in RUN. -/
def State.hallTheta (s : State) (x : Axis) (sector : Nat) (rev : Bool) (stamp : Nat) : State :=
  let th := fAngle (qWrap (s.hallBoundary x sector rev))
  let s := s.modSv x (fun v => { v with th0 := th, thT := stamp, thHalf := false })
  if s.axState x = 4 then s.setW (F.MC_X_THETA x) th else s

/-- An accepted change of a decoded Hall set to another code (R268 to R271); a change to an invalid code leaves the rate of θ as it is
(R305). -/
def State.hallChange (s : State) (h : Axis) (code stamp : Nat) : State :=
  let valid0 := !s.flag (F.HAH_HALL_ST_INVALID h)
  let k0 := s.fld (F.HAH_HALL_ST_SECTOR h)
  let old := s.hall h
  let s := s.modHall h (fun r => { r with seen := true, last := stamp, prior := if r.seen then some r.last else none })
  let s := s.set (F.HAH_HALL_ST_CODE h) code
  if code = 0 ∨ code = 7 then
    let s := ((s.set (F.HAH_HALL_ST_INVALID h) 1).set (F.HAH_HALL_ST_SECTOR h) 7).set (F.HAH_HALL_ST_INVCODE h) 1
    s.inc (F.HAH_HALL_ST_INVALIDS h)
  else
    let k := hallSector code
    let s := (s.set (F.HAH_HALL_ST_INVALID h) 0).set (F.HAH_HALL_ST_SECTOR h) k
    let d := (k + 6 - k0) % 6
    let skip := valid0 && d != 1 && d != 5
    let rev := if valid0 && d == 1 then false else if valid0 && d == 5 then true else old.rev
    let s := s.modHall h (fun r =>
      { r with rev := rev, skip := r.skip || skip, pace := r.prior.map (fun p => unsigned 64 ((r.last : Int) - p)) })
    let s := if skip then (s.set (F.HAH_HALL_ST_SKIP h) 1).inc (F.HAH_HALL_ST_SKIPS h) else s
    s.forEach (s.posAxes (1 + h.ix)) (fun s x => s.hallTheta x k rev stamp)

/-- HALL_CODE_ACCEPT: the lines (W, V, U) of a Hall set have held one code for `ns`: FILT × 0.1 µs accepts it, with the count of the
Sundial at their start (R268 to R271). -/
def execHallCodeAccept (h : Axis) (lines ns : Nat) (s : State) : Host.Outcome State Fault Refusal :=
  .next (s.running (fun s =>
    let code := (BitVec.ofNat 3 lines ^^^ BitVec.ofNat 3 (s.fld (F.HAH_HALL_CFG_INV h))).toNat
    let named := s.posAxes (1 + h.ix) != []
    let fresh := !(s.hall h).seen || code != s.fld (F.HAH_HALL_ST_CODE h)
    if named && fresh && decide (100 * max 1 (s.fld (F.HAH_HALL_CFG_FILT h)) ≤ ns) then
      s.hallChange h code (s.countAt (ns * 2 / 5))
    else s))

/-! ### Encoders -/

/-- An encoder's count changes trust for the worse: R306 acts at once for an axis in RUN on it. -/
def State.encDistrust (s : State) (e : Axis) : State :=
  let s := s.set (F.HAH_ENC_ST_TRUSTED e) 0
  s.forEach (s.posAxes (3 + e.ix)) (fun s x => if s.axState x = 4 then s.posLost x else s)

/-- ENCODER_STEP: the filtered levels of A and B, held for `samples` samples of 10 ns (R272). -/
def execEncoderStep (e : Axis) (a b : Bool) (samples : Nat) (s : State) : Host.Outcome State Fault Refusal :=
  .next (s.running (fun s =>
    let inv := s.fld (F.HAH_ENC_CFG_INV e)
    let qa := a != bit inv 0
    let qb := b != bit inv 1
    let r := s.enc e
    let da := qa != r.qa
    let db := qb != r.qb
    if s.fld (F.HAH_ENC_CFG_FILT e) + 1 ≤ samples ∧ (da = true ∨ db = true) then
      let s := s.modEnc e (fun r => { r with qa := qa, qb := qb })
      if da && db then
        let s := (s.modEnc e (fun r => { r with err := true })).set (F.HAH_ENC_ST_ERR e) 1
        (s.inc (F.HAH_ENC_ST_ERRS e)).encDistrust e
      else
        let leads := if da then qa != qb else qa == qb
        let up := leads != s.flag (F.HAH_ENC_CFG_DIRINV e)
        let c := s.rd (A.HAH_ENC_CNT e)
        (s.wr (A.HAH_ENC_CNT e) (if up then c + 1 else c - 1)).modEnc e (fun r => { r with last := s.now, rev := !up })
    else s))

/-- ENC_CPR of the axis that uses an encoder. -/
def State.encCpr (s : State) (x : Axis) : Nat := s.paramN x 0x0801 1

/-- (count − reference) mod ENC_CPR. -/
def State.encTurn (s : State) (x e : Axis) : Nat :=
  (((s.rd (A.HAH_ENC_CNT e)).toInt - (s.enc e).ref.toInt) % ((max 1 (s.encCpr x) : Nat) : Int)).toNat

/-- R300: the first Z after an alignment drops its correction; one beyond ENC_ALIGN_TOL raises code 31. -/
def State.encFirstZ (s : State) (x : Axis) : State :=
  let v := s.sv x
  if v.encOn then
    let s := s.modSv x (fun v => { v with encOn := false, encC := 0 })
    if qLt (s.paramQ x 0x0916 (qDiv qPi (12, 1))) (qAbs (fVal v.encC)) then s.fault 31 (scAxis x) 0 0 else s
  else s

/-- A Z of an encoder whose Z has been seen: it is compared with the count of the last one (R273), and an axis aligned since then is
corrected (R300); of two faults the one with the lower code comes first (R509). -/
def State.encNextZ (s : State) (e x : Axis) : State :=
  let d := s.encTurn x e
  let tol := s.paramN x 0x0803 4
  let s := if tol < d ∧ d + tol < s.encCpr x then
      let s := s.modEnc e (fun r => { r with ref := s.rd (A.HAH_ENC_CNT e) })
      ((s.set (F.HAH_ENC_ST_ZERR e) 1).inc (F.HAH_ENC_ST_ZERRS e)).encDistrust e
    else s.set (F.HAH_ENC_ST_TRUSTED e) 1
  s.forEach (s.posAxes (3 + e.ix)) State.encFirstZ

/-- ENCODER_Z: the filtered level of Z, held for `samples` samples of 10 ns: a rising edge is a Z pulse (R273, R300, R306). -/
def execEncoderZ (e : Axis) (z : Bool) (samples : Nat) (s : State) : Host.Outcome State Fault Refusal :=
  .next (s.running (fun s =>
    let r := s.enc e
    let qz := z != bit (s.fld (F.HAH_ENC_CFG_INV e)) 2
    let held := decide (s.fld (F.HAH_ENC_CFG_FILT e) + 1 ≤ samples)
    let s := if held then s.modEnc e (fun r => { r with qz := qz }) else s
    if held = true ∧ qz = true ∧ r.qz = false ∧ (s.flag (F.HAH_ENC_CFG_ZGATE e) = false ∨ (r.qa && r.qb) = true) then
      if s.flag (F.HAH_ENC_ST_ZSEEN e) then
        match s.posAxes (3 + e.ix) with
        | [] => s
        | x :: _ => s.encNextZ e x
      else
        let s := s.modEnc e (fun r => { r with ref := s.rd (A.HAH_ENC_CNT e) })
        let s := (s.set (F.HAH_ENC_ST_ZSEEN e) 1).set (F.HAH_ENC_ST_TRUSTED e) 1
        s.forEach (s.posAxes (3 + e.ix)) State.encFirstZ
    else s))

/-! ### The POS record and θ -/

/-- Mechanical angle of an encoder: 2π × ((count − reference) mod ENC_CPR) / ENC_CPR + ENC_ZANGLE (R275). -/
def State.encAngle (s : State) (x e : Axis) : Frac :=
  qAdd (qMul q2Pi (s.encTurn x e, max 1 (s.encCpr x))) (s.paramQ x 0x0802 (0, 1))

/-- R275: the POS record of an axis at a sample instant; a half of a ns is dropped (DESIGN CHOICE, log entry 82). -/
def State.posRecord (s : State) (x : Axis) : List Word :=
  match s.hallSet x, s.encSet x with
  | some h, _ =>
    let r := s.hall h
    let ok := !s.flag (F.HAH_HALL_ST_INVALID h)
    let k := s.fld (F.HAH_HALL_ST_SECTOR h)
    let ang := if ok then fAngle (qWrap (qAdd (qMul (2 * k + 1, 6) qPi) (s.hallOffset x))) else fZero
    let ns := match r.prior with
      | some p => (unsigned 64 ((r.last : Int) - p)) * 5 / 2
      | none => 0
    [BitVec.ofNat 32 (if ok then s.fld (F.HAH_HALL_ST_CODE h) else 0),
      BitVec.ofNat 32 (b2n ok + 2 + 4 * b2n r.skip + 32 * b2n r.rev), ang, BitVec.ofNat 32 (min 0xFFFFFFFF ns),
      BitVec.ofNat 32 r.last, BitVec.ofNat 32 (r.last / 2 ^ 32), 0, 0]
  | none, some e =>
    let r := s.enc e
    let c := s.rd (A.HAH_ENC_CNT e)
    [c, BitVec.ofNat 32 (s.fld (F.HAH_ENC_ST_TRUSTED e) + 8 * b2n r.err + 16 * s.fld (F.HAH_ENC_ST_ZSEEN e) +
        32 * b2n r.rev), fAngle (qWrap (s.encAngle x e)), c - r.sent, BitVec.ofNat 32 r.last,
      BitVec.ofNat 32 (r.last / 2 ^ 32), 0, 0]
  | none, none => List.replicate 8 0

/-- Electrical speed of a Hall set: π/3 per the last interval, signed by the last change; 0 before two changes (R299; log
entry 19). -/
def State.hallOmega (s : State) (h : Axis) : Frac :=
  let r := s.hall h
  match r.pace with
  | some dt =>
    if dt = 0 then (0, 1) else
      let w := qMul (qDiv qPi (3, 1)) (400000000, dt)
      if r.rev then qNeg w else w
  | none => (0, 1)

/-- Electrical speed of an encoder: the change of count since the last delivery over the time since it (log entry 19). -/
def State.encOmega (s : State) (x e : Axis) : Frac :=
  let r := s.enc e
  let dt := unsigned 64 ((s.now : Int) - r.at_)
  if dt = 0 then fVal (s.word (F.MC_X_OMEGA x))
  else qMul (qMul q2Pi (s.poles x)) (qMul ((s.rd (A.HAH_ENC_CNT e) - r.sent).toInt, max 1 (s.encCpr x)) (400000000, dt))

/-- How far θ may go back and on from where it was set until the far boundary of the present sector holds it (R299): a whole sector from a
boundary; from an angle that RUN began with, to the boundaries of the set's sector, none where it lies beyond, and half a sector either way
while the set is INVALID and names none (log entry 19). -/
def State.hallRoom (s : State) (x h : Axis) : Frac × Frac :=
  let v := s.sv x
  let k := s.fld (F.HAH_HALL_ST_SECTOR h)
  let room (q : Frac) : Frac := let d := qWrap q; if d.1 < 0 then (0, 1) else d
  if !v.thHalf then (qDiv qPi (3, 1), qDiv qPi (3, 1))
  else if s.flag (F.HAH_HALL_ST_INVALID h) then (qDiv qPi (6, 1), qDiv qPi (6, 1))
  else (room (qSub (fVal v.th0) (s.hallBoundary x k false)), room (qSub (s.hallBoundary x k true) (fVal v.th0)))

/-- R299: θ between two Hall changes: where it was set, advanced at the last rate and held at the far boundary. -/
def State.hallNow (s : State) (x h : Axis) : Word :=
  let v := s.sv x
  let w := s.hallOmega h
  let lim := s.hallRoom x h
  let adv := qClamp (qNeg lim.1) lim.2 (qMul w (unsigned 64 ((s.now : Int) - v.thT), 400000000))
  fAngle (qWrap (qAdd (fVal v.th0) adv))

/-- The axis takes its position from Belvedere: no sensor, or R306. -/
def State.onBelvedere (s : State) (x : Axis) : Bool := s.pos x == 0 || (s.sv x).onBlv

/-- The axis has a trusted position source (R275, R279). -/
def State.posTrusted (s : State) (x : Axis) : Bool :=
  if s.onBelvedere x then s.blvTrusted x
  else match s.hallSet x, s.encSet x with
    | some h, _ => !s.flag (F.HAH_HALL_ST_INVALID h)
    | none, some e => s.flag (F.HAH_ENC_ST_TRUSTED e)
    | none, none => false

/-- R353: the position of an axis is its sensor's, which is trusted. -/
def State.sensorTrusted (s : State) (x : Axis) : Bool := !s.onBelvedere x && s.posTrusted x

/-- R298: θ of an axis from its source. -/
def State.thetaNow (s : State) (x : Axis) : Word :=
  if s.onBelvedere x then (s.sv x).thetaO
  else match s.hallSet x, s.encSet x with
    | some h, _ => s.hallNow x h
    | none, some e =>
      let v := s.sv x
      fAngle (qWrap (qAdd (qMul (s.poles x) (qWrap (s.encAngle x e))) (if v.encOn then fVal v.encC else (0, 1))))
    | none, none => s.word (F.MC_X_THETA x)

/-- R279: the speed that the axis's source delivers. -/
def State.omegaNow (s : State) (x : Axis) : Word :=
  if s.onBelvedere x then (s.sv x).omegaO
  else match s.hallSet x, s.encSet x with
    | some h, _ => fOfFrac (qNorm (s.hallOmega h))
    | none, some e => fOfFrac (qNorm (s.encOmega x e))
    | none, none => s.word (F.MC_X_OMEGA x)

/-- R279: POS_TRUSTED, whose fall is noted for R319, and the speed where the source is trusted (both registers hold their value
otherwise). -/
def State.speedUpdate (s : State) (x : Axis) : State :=
  let ok := s.posTrusted x
  let fell := s.flag (F.MC_STATE_POS_TRUSTED x) && !ok
  let s := (s.setB (F.MC_STATE_POS_TRUSTED x) ok).modSv x (fun v => { v with fell := v.fell || fell })
  if ok then
    let w := s.omegaNow x
    (s.setW (F.MC_X_OMEGA x) w).setW (F.MC_SPD_ACT x) (fOfFrac (qNorm (s.rpmOf x (fVal w))))
  else s

/-- Delivery of the POS record: SKIP, ERR and the change of count start a new span (R275). -/
def State.posDeliver (s : State) (x : Axis) : State :=
  let s := s.putSrc x.ix 7 (s.posRecord x)
  match s.hallSet x, s.encSet x with
  | some h, _ => s.modHall h (fun r => { r with skip := false })
  | none, some e => s.modEnc e (fun r => { r with sent := s.rd (A.HAH_ENC_CNT e), at_ := s.now, err := false })
  | none, none => s

/-! ### Writes -/

/-- R276: a write of HAH.HALL_CFG_x or ENC_CFG_x, by the position-source code that names the set. -/
def State.posCfgWrite (s : State) (code addr : Nat) (w : Word) : State :=
  if (s.posAxes code).any s.bridgeOn then s else s.wr addr (w &&& fieldMask (regFields addr) (fun _ => true))

/-! ### In position (R412) -/

/-- pos_ref − pos_act in mechanical rad, the turns as a two's-complement difference (spec/22_register_map.md). -/
def posDiff (at_ af bt bf : Word) : Word :=
  fOfFrac (qNorm (qAdd (qMul q2Pi (qInt (at_ - bt).toInt)) (qSub (fVal af) (fVal bf))))

/-- A set-point less a position of the axis, in mechanical rad. -/
def State.posErr (s : State) (x : Axis) (p : Word × Word) (t f : Fld) : Word := posDiff p.1 p.2 (s.word t) (s.word f)

/-- PRM_STAT.INPOS; "in position" where it rises (R412). -/
def State.promInPos (s : State) (x : Axis) (b : Bool) : State :=
  let was := s.flag (F.MC_PRM_STAT_INPOS x)
  let s := s.setB (F.MC_PRM_STAT_INPOS x) b
  if b && !was then s.evx x 12 else s

/-- R412: INPOS of an axis that REF sets to a position: the actual position lies within POS_TOL of POS_SET; 0 in the other modes (log
entry 48). -/
def State.inPosJudge (s : State) (x : Axis) : State :=
  s.promInPos x (s.fld (F.MC_MODE_REF x) == 2 &&
    fLe (fAbs (s.posErr x (s.sv x).posNext (F.MC_POS_ACT_T x) (F.MC_POS_ACT_F x))) (fOfFrac (s.paramQ x 0x0C06 (1, 100))))

end Sys2Proof.Machine
end

