-- ==== Sys2Proof/Machine/AxisState.lean ====
section
/-! DEFINITION. The axis state machine (spec/09_commutation.md): the commands, the evaluation at slot 0, the start sequence, the
times that end a state, the limits of speed, the counters and the set-points. -/

namespace Sys2Proof.Machine

/-! ### Commands (R288 to R293) -/

/-- Command codes (table 9.4). -/
def cmARM : Nat := 1
@[inherit_doc cmARM] def cmSTART : Nat := 2
@[inherit_doc cmARM] def cmSTOP : Nat := 3
@[inherit_doc cmARM] def cmCOAST : Nat := 4
@[inherit_doc cmARM] def cmCLEAR : Nat := 5

/-- Priority of a command (R289): COAST, STOP, CLEAR, START, ARM. -/
def cmdPrio (code : Nat) : Nat :=
  if code = cmCOAST then 5 else if code = cmSTOP then 4 else if code = cmCLEAR then 3 else if code = cmSTART then 2 else 1

/-- R283, R288, R289: a command reaches an axis. -/
def State.cmdArrive (s : State) (x : Axis) (c : Cmd) : State :=
  if c.code = 0 ∨ 5 < c.code then s
  else if s.flag (F.PW_CTRL_EN x) = false then s.resolve x c rsSTATE
  else
    match s.pendCmd x with
    | none => s.modAx x (fun a => { a with cmd := some c })
    | some p =>
      if cmdPrio p.code ≤ cmdPrio c.code then
        (s.modAx x (fun a => { a with cmd := some c, startWait := none })).resolve x p rsSUPERSEDED
      else s.resolve x c rsSUPERSEDED

/-- R293: the pending command resolves with REFUSED_FAULT as a fault moves the axis to SAFE. -/
def State.cmdFault (s : State) (x : Axis) : State := s.cmdRefuse x rsFAULT

/-- R292, table 9.5: the arm conditions: DONE, or the code of the first that is unmet. -/
def State.armCheck (s : State) (x : Axis) : Nat :=
  if s.axisOn x = false then rsDISABLED
  else if s.img.tbMax < s.fld F.ORG_TJ_BAND then rsBAND
  else if (s.protTripped x || s.sdStaleUsed x || (s.tr x).drvLow || s.toffLow x) = true then rsPROTECT
  else if (s.axisCause x || s.fatalCause) = true then rsFAULT
  else rsDONE

/-! ### Faults move the axis to SAFE -/

/-- The transition to SAFE of table 9.3. -/
def State.toSafe (s : State) (x : Axis) : State := ((s.cmdFault x).idAbort x).goto x axSAFE

/-- A condition of the present state, judged at a slot 0 instant, raises its fault and is itself the condition of the transition to
SAFE (table 9.3). -/
def State.failState (s : State) (x : Axis) (code detail : Nat) : State := (s.axisFault x code 0 detail).toSafe x

/-! ### The start sequence (R295 to R296, R367, R370) -/

/-- R370: the written BLV_CTRL takes effect. -/
def State.blvTake (s : State) (x : Axis) : State :=
  s.forEach [F.MC_BLV_CTRL_LOSS_FLY x, F.MC_BLV_CTRL_OBS_PAR x, F.MC_BLV_CTRL_INJ_EN x, F.MC_BLV_CTRL_FLY_EN x,
    F.MC_BLV_CTRL_START_METHOD x] State.take

/-- (Lq − Ld) / (Lq + Ld) of the map at zero current (R339). -/
def State.saliency (s : State) (x : Axis) : Frac :=
  let ld := s.ld x (0, 1)
  let lq := s.lq x (0, 1)
  let d := qAdd lq ld
  if d.1 = 0 then (0, 1) else qDiv (qSub lq ld) d

/-- R339: injection is available. -/
def State.injAvail (s : State) (x : Axis) : Bool :=
  (s.mapAddr x 5).isSome && (s.mapAddr x 6).isSome && s.flag (F.MC_BLV_CTRL_INJ_EN x) &&
    qLe (s.paramQ x 0x0A16 (1, 20)) (s.saliency x)

/-- START_METHOD as it acts: 3 as 0. -/
def State.startMethod (s : State) (x : Axis) : Nat :=
  let m := s.fld (F.MC_BLV_CTRL_START_METHOD x)
  if m = 3 then 0 else m

/-- The commanded direction is backward. -/
def State.cmdNeg (s : State) (x : Axis) : Bool :=
  if s.fld (F.MC_MODE_REF x) = 1 then fLt (s.word (F.MC_TRQ_SET x)) fZero else fLt (s.word (F.MC_SPD_SET x)) fZero

/-- The START that opens a sequence resolves as accepted. -/
def State.startDone (s : State) (x : Axis) (c : Cmd) : State :=
  (s.modAx x (fun a => { a with cmd := none, startWait := none, lastStart := some c })).resolve x c rsDONE

/-- Entry into ALIGN: by injection where the method and R361 choose it, else by DC (R354, R355, R361). -/
def State.enterAlign (s : State) (x : Axis) : State :=
  let inj := s.startMethod x != 0 && (s.pos x == 0 || s.injAvail x)
  (s.goto x axALIGN).modSv x (fun v => { v with align := if inj then 2 else 1, dirNeg := s.cmdNeg x, hand := false })

/-- Entry into RUN from a trusted sensor: a Hall set from its sector centre (table 9.6). -/
def State.enterRun (s : State) (x : Axis) : State :=
  let s := match s.hallSet x with
    | some h =>
      let th := fAngle (qWrap (qAdd (qMul (2 * s.fld (F.HAH_HALL_ST_SECTOR h) + 1, 6) qPi) (s.hallOffset x)))
      (s.modSv x (fun v => { v with th0 := th, thT := s.now, thHalf := true })).setW (F.MC_X_THETA x) th
    | none => s
  (s.speedUpdate x).goto x axRUN

/-- Table 9.6: the entry state of the start sequence. -/
def State.startEntry (s : State) (x : Axis) (c : Cmd) : State :=
  match s.hallSet x, s.encSet x with
  | some h, _ =>
    if s.flag (F.HAH_HALL_ST_INVALID h) = false then (s.enterRun x).startDone x c
    else if s.flag (F.MC_MODE_CTRL x) then
      (s.modAx x (fun a => { a with cmd := none, startWait := none })).resolve x c rsPOS
    else (s.enterAlign x).startDone x c
  | none, some e => if s.flag (F.HAH_ENC_ST_TRUSTED e) then (s.enterRun x).startDone x c else (s.enterAlign x).startDone x c
  | none, none => (s.enterAlign x).startDone x c

/-- First selected identification test from n on (table 10.9); 0 none. -/
def State.idNext (s : State) (x : Axis) (n : Nat) : Nat :=
  ((List.range 4).find? (fun k => decide (n ≤ k + 1) && s.getBit (F.MC_ID_CTRL_TESTS x) k)).elim 0 (· + 1)

/-- An identification test begins. -/
def State.idFresh (s : State) (x : Axis) : State := s.modSv x (fun v => { v with idStep := 0, idReach := false, idT := (0, 1) })

/-- R367: identification runs in place of the start sequence. -/
def State.idStart (s : State) (x : Axis) (c : Cmd) : State :=
  let t := s.idNext x 1
  let s := ((s.set (F.MC_ID_CTRL_ON_START x) 0).set (F.MC_ID_STAT_RESULT x) 1).set (F.MC_ID_STAT_TEST x) t
  let s := ((s.set (F.MC_ID_STAT_STAGED x) 0).modSv x (fun v => { v with idCmd := some c, idPts := [], idDone := 0 })).idFresh x
  (s.goto x axALIGN).startDone x c

/-- R295: the start sequence begins: identification (R367), flying restart (R362), or table 9.6; during flying restart the
START stays pending (log entry 21) and every phase channel is off (R362). -/
def State.startSeq (s : State) (x : Axis) (c : Cmd) : State :=
  let s := s.blvTake x
  if s.flag (F.MC_ID_CTRL_ON_START x) then s.idStart x c
  else if s.owns x gFLY && (s.flag (F.MC_BLV_CTRL_FLY_EN x) || (s.sv x).flyLoss) then
    let s := s.modAx x (fun a => { a with cmd := none, startWait := some c })
    let s := (s.set (F.MC_START_DIAG_TRIES x) 0).modSv x (fun v => { v with fly := 1, probes := [], flyLoss := false })
    s.command x (s.brakeCmd x)
  else s.startEntry x c

/-- Every high side's bootstrap is above its rising lockout threshold (R294). -/
def State.bootReady (s : State) (x : Axis) : Bool := s.bootCharged x && !(s.tr x).pre

/-- A START accepted that is pending until it may proceed: it is the last START (R490). -/
def State.startPend (s : State) (x : Axis) (c : Cmd) : State :=
  s.modAx x (fun a => { a with cmd := none, startWait := some c, lastStart := some c })

/-! ### The effect of a command (table 9.4) -/

/-- A command resolves without waiting further. -/
def State.cmdEnd (s : State) (x : Axis) (c : Cmd) (result : Nat) : State :=
  (s.modAx x (fun a => { a with cmd := none })).resolve x c result

/-- Leave for OFF at a command, which resolves DONE; a reversal's restart is cancelled (R322). -/
def State.cmdOff (s : State) (x : Axis) (c : Cmd) : State :=
  ((s.goto x axOFF).modAx x (fun a => { a with startWait := none })).cmdEnd x c rsDONE

/-- Command ARM. -/
def State.runArm (s : State) (x : Axis) (c : Cmd) : State :=
  if s.axState x = axOFF then
    if s.armCheck x = rsDONE then (s.goto x axARMED).cmdEnd x c rsDONE else s.cmdEnd x c (s.armCheck x)
  else s.cmdEnd x c (if s.axState x = axARMED then rsDONE else rsSTATE)

/-- A START that opens no sequence resolves as accepted: it is the last START (R490). -/
def State.startNoted (s : State) (x : Axis) (c : Cmd) : State :=
  (s.modAx x (fun a => { a with lastStart := some c })).cmdEnd x c rsDONE

/-- Command START. -/
def State.runStart (s : State) (x : Axis) (c : Cmd) : State :=
  match s.axState x with
  | 0 => if s.armCheck x = rsDONE then (s.goto x axARMED).startPend x c else s.cmdEnd x c (s.armCheck x)
  | 1 => if s.bootReady x && (s.sv x).fly == 0 then s.startSeq x c else s.startPend x c
  | 6 => if (s.sv x).fly = 0 then s.startSeq x c else s.startPend x c
  | 5 =>
    if s.flag (F.MC_STATE_POS_TRUSTED x) then
      (s.goto x axRUN).startNoted x c
    else s.cmdEnd x c rsSTATE
  | 7 => s.cmdEnd x c rsSTATE
  | 8 => s.cmdEnd x c rsSTATE
  | _ => s.startNoted x c

/-- Command COAST. -/
def State.runCoast (s : State) (x : Axis) (c : Cmd) : State :=
  let s := s.modSv x (fun v => { v with rev := 0 })
  if 1 ≤ s.axState x ∧ s.axState x ≤ 6 then s.cmdOff x c else s.cmdEnd x c rsDONE

/-- Command STOP; with STOP_MODE COAST it acts as COAST (R320). -/
def State.runStop (s : State) (x : Axis) (c : Cmd) : State :=
  let s := s.modSv x (fun v => { v with rev := 0 })
  if s.fld (F.MC_MODE_STOP_MODE x) = 2 then s.runCoast x c
  else match s.axState x with
    | 1 => s.cmdOff x c
    | 2 => s.cmdOff x c
    | 3 => s.cmdOff x c
    | 6 => s.cmdOff x c
    | 4 => (s.goto x axSTOPPING).cmdEnd x c rsDONE
    | _ => s.cmdEnd x c rsDONE

/-- R485: the conditions under which CLEAR takes an axis out of SAFE or LOCKOUT. -/
def State.clearOk (s : State) (x : Axis) : Bool := !s.inAsc x && !s.toffLow x && !s.axisCause x && !s.fatalCause

/-- Command CLEAR (R485). -/
def State.runClear (s : State) (x : Axis) (c : Cmd) : State :=
  if s.axState x = axSAFE ∨ s.axState x = axLOCKOUT then
    if s.clearOk x then (s.goto x axOFF).cmdEnd x c rsDONE else s.cmdEnd x c rsFAULT
  else s.cmdEnd x c rsDONE

/-- R640: a test that runs keeps the axis from ARM and START. -/
def State.testHolds (s : State) (x : Axis) : Bool :=
  (List.range 11).any (fun k => s.testRuns k && (decide (2 ≤ k) && decide (k < 7) || (decide (7 ≤ k) && testAxis k == some x)))

/-- R291: the effect of a command in the present state; in external-command mode START is refused (R463). -/
def State.runCmd (s : State) (x : Axis) (c : Cmd) : State :=
  match c.code with
  | 1 => if s.testHolds x then s.cmdEnd x c rsSTATE else s.runArm x c
  | 2 => if s.testHolds x || s.flag (F.TR_CFG_EXT x) then s.cmdEnd x c rsSTATE else s.runStart x c
  | 3 => s.runStop x c
  | 4 => s.runCoast x c
  | _ => s.runClear x c

/-- ARM: the host writes command 1 to MCx.CMD with a tag (R288, R291). -/
def execArm (x : Axis) (tag : Nat) (s : State) : Host.Outcome State Fault Refusal :=
  .next (s.running (fun s => s.cmdArrive x { code := 1, tag := tag % 256, src := 0, slot := none }))

/-- START: the host writes command 2 to MCx.CMD with a tag (R288, R291). -/
def execStart (x : Axis) (tag : Nat) (s : State) : Host.Outcome State Fault Refusal :=
  .next (s.running (fun s => s.cmdArrive x { code := 2, tag := tag % 256, src := 0, slot := none }))

/-- STOP: the host writes command 3 to MCx.CMD with a tag (R288, R291). -/
def execStop (x : Axis) (tag : Nat) (s : State) : Host.Outcome State Fault Refusal :=
  .next (s.running (fun s => s.cmdArrive x { code := 3, tag := tag % 256, src := 0, slot := none }))

/-- COAST: the host writes command 4 to MCx.CMD with a tag (R288, R291). -/
def execCoast (x : Axis) (tag : Nat) (s : State) : Host.Outcome State Fault Refusal :=
  .next (s.running (fun s => s.cmdArrive x { code := 4, tag := tag % 256, src := 0, slot := none }))

/-- CLEAR: the host writes command 5 to MCx.CMD with a tag (R288, R485). -/
def execClear (x : Axis) (tag : Nat) (s : State) : Host.Outcome State Fault Refusal :=
  .next (s.running (fun s => s.cmdArrive x { code := 5, tag := tag % 256, src := 0, slot := none }))

/-! ### The evaluation at slot 0 (R282) -/

/-- A fraction as a whole number: either neighbour where it is not whole (free: no rounding is stated). -/
def State.wholeOf (s : State) (q : Frac) : Nat × State :=
  let f := (qFloor q).toNat
  let up := if q.1 % (q.2 : Int) = 0 then 0 else b2n (Config.freeBit s.free)
  (f + up, s.spent)

/-- R313: overspeed. -/
def State.overspeed (s : State) (x : Axis) : State :=
  let f := qDiv (qAbs (fVal (s.word (F.MC_X_OMEGA x)))) q2Pi
  let trip := s.paramQ x 0x0903 (qMul (11, 10) (s.paramQ x 0x0902 (2000, 1)))
  let high := qLt trip f
  let was := (s.sv x).overN
  let s := s.modSv x (fun v => { v with overN := high })
  if high then
    if was && !s.cause (scAxis x) 26 then
      let r := s.wholeOf f
      r.2.axisFaultOn x 26 0 r.1
    else s
  else s.setCause (scAxis x) 26 false

/-- ω_fw: the field-weakening onset in electrical rad/s (R309). -/
def State.omegaFw (s : State) (x : Axis) : Word :=
  fQuot (qMul (fVal (s.word (F.MC_X_FW_MODMAX x))) (fVal (s.quant x 4))) (qMul (qSqrt (3, 1)) (s.psi x))

/-- R309, R323: FW_ONSET and ASC_SPD. -/
def State.thresholds (s : State) (x : Axis) : State :=
  let w := s.omegaFw x
  let s := s.setW (F.MC_FW_ONSET x) (if fFinite w then fOfFrac (qNorm (s.rpmOf x (fVal w))) else w)
  let fixed := s.paramQ x 0x0906 (0, 1)
  let asc :=
    if fixed.1 ≠ 0 then fOfFrac fixed
    else
      fQuot (qMul (qMul (s.paramQ x 0x0905 (3, 5)) (s.paramQ x 0x0904 (0, 1))) (60, 1))
        (qMul (qMul (qSqrt (3, 1)) (s.psi x)) (qMul q2Pi (s.poles x)))
  s.setW (F.MC_ASC_SPD x) asc

/-- R324: ABOVE_ASC with its hysteresis; the die takes it from the next valid frame (R438, R440). -/
def State.aboveUpdate (s : State) (x : Axis) : State :=
  if s.flag (F.MC_STATE_POS_TRUSTED x) then
    let v := fAbs (s.word (F.MC_SPD_ACT x))
    let thr := s.word (F.MC_ASC_SPD x)
    let old := s.flag (F.MC_STATE_ABOVE_ASC x)
    let new :=
      if fLe thr v then true
      else if fFinite thr && qLt (fVal v) (qMul (19, 20) (fVal thr)) then false
      else if fIsInf thr then false else old
    if new = old then s else s.setB (F.MC_STATE_ABOVE_ASC x) new
  else s

/-- R321: the axis may reverse through zero. -/
def State.revThrough (s : State) (x : Axis) : Bool :=
  s.flag (F.MC_MODE_REV_THRU x) && s.posTrusted x &&
    (!s.onBelvedere x || (s.injAvail x && !(s.sv x).susp))

/-- R321: a speed set-point whose sign differs from the present direction. -/
def State.reversed (s : State) (x : Axis) : Bool :=
  let v := s.word (F.MC_SPD_SET x)
  let w := s.word (F.MC_X_OMEGA x)
  (s.fld (F.MC_MODE_REF x) == 0 || s.fld (F.MC_MODE_REF x) == 3) &&
    ((fLt fZero v && fLt w fZero) || (fLt v fZero && fLt fZero w))

/-- Trust has fallen in STOPPING (R319): the stop is complete at twice STOP_SPEED or below, and the position-loss rule applies above. -/
def State.stopTrust (s : State) (x : Axis) : State :=
  let s := s.modSv x (fun v => { v with fell := false })
  if qLe (qAbs (fVal (s.word (F.MC_SPD_ACT x)))) (qMul (2, 1) (s.paramQ x 0x090D (10, 1))) then
    let r := (s.sv x).rev
    (s.goto x axOFF).modSv x (fun v => { v with rev := if r = 1 then 2 else 0 })
  else s.posLost x

/-- The conditions of the present state that are judged at slot 0 itself: a reversal through a stop (R321), trust that has fallen in
STOPPING (R319), and an identification whose tests have come to those of START (R367). -/
def State.stateConds (s : State) (x : Axis) : State :=
  if s.axState x = axRUN ∧ s.reversed x = true ∧ s.revThrough x = false then
    (s.goto x axSTOPPING).modSv x (fun v => { v with rev := 1 })
  else if s.axState x = axSTOPPING ∧ (s.sv x).fell = true ∧ s.flag (F.MC_STATE_POS_TRUSTED x) = false then s.stopTrust x
  else if s.axState x = axALIGN ∧ (s.sv x).idCmd ≠ none ∧ 3 ≤ s.fld (F.MC_ID_STAT_TEST x) then s.goto x axSTART
  else s

/-- R282: what an evaluation at a slot 0 instant does before the conditions of the state: a recorded fault moves the axis to SAFE, else
the pending command takes its effect; and whether that leaves the conditions to be judged, no transition having been made. -/
def State.evalFirst (s : State) (x : Axis) : Bool × State :=
  if (s.ax x).fault = true ∧ s.canSafe x = true ∧ s.axState x ≠ axSAFE then (false, s.toSafe x)
  else
    let s := s.modAx x (fun a => { a with fault := false })
    match (s.ax x).cmd with
    | some c =>
      let t := s.runCmd x c
      (t.axState x == s.axState x, t)
    | none => (true, s)

/-- AXIS_EVALUATE: at a slot 0 instant: the speed and its thresholds, the faults, the pending command, the conditions of the
state, in that order, with at most one transition (R282 to R285). The bus voltage of R499 is judged once a period, at its sample
instant. -/
def execAxisEvaluate (x : Axis) (s : State) : Host.Outcome State Fault Refusal :=
  .next (
    if s.counts x then
      let s := ((((s.speedUpdate x).limitJudge x).thresholds x).aboveUpdate x).overspeed x
      let r := s.evalFirst x
      if r.1 then r.2.stateConds x else r.2
    else s)

/-- BOOTSTRAPS_READY: at a slot 0 instant every high side's bootstrap is above its rising threshold: a pending START proceeds
(R282, R294, R295). -/
def execBootstrapsReady (x : Axis) (s : State) : Host.Outcome State Fault Refusal :=
  .next (s.running (fun s =>
    let r := s.evalFirst x
    let t := r.2
    match (t.ax x).startWait with
    | some c => if r.1 = true ∧ t.axState x = axARMED ∧ t.bootReady x = true ∧ (t.sv x).fly = 0 then t.startSeq x c else t
    | none => t))

/-! ### Times that end a state -/

/-- A time of `us` microseconds has reached a parameter in seconds. -/
def State.reached (s : State) (x : Axis) (us id : Nat) (dflt : Frac) : Bool := qLe (s.paramQ x id dflt) (us, 1000000)

/-- Phases that are not ready (R294): their lockout is tripped, or their bootstrap does not lie above 12.0 V. -/
def State.notReady (s : State) (x : Axis) : Nat :=
  maskOf ((List.range 3).filter (fun p => s.getBit (F.TR_STAT_BS_UV x) p || decide (s.fld (vbsFld x p) ≤ 120)))

/-- ARM_TIMEOUT: at a slot 0 instant the bootstraps are not ready ARM_TIMEOUT after ARMED was entered, `us` ago: "bootstrap precharge
timeout" and SAFE (R282, table 9.3). -/
def execArmTimeout (x : Axis) (us : Nat) (s : State) : Host.Outcome State Fault Refusal :=
  .next (s.running (fun s =>
    let r := s.evalFirst x
    let t := r.2
    if r.1 = true ∧ t.axState x = axARMED ∧ t.bootReady x = false ∧ t.reached x us 0x0914 (1, 20) = true then
      t.failState x 23 (t.notReady x)
    else t))

/-- Set the causes of table 9.7 that are present, bit r for reason r: one that has gone no longer counts as lasting. -/
def State.limitCauses (s : State) (x : Axis) (m : Nat) : State :=
  (s.modSv x (fun v => { v with
    causes := m
    lasted := (List.range 9).foldl (fun a r => if bit v.lasted r && bit m r then a + 2 ^ r else a) 0 })).limitJudge x

/-- LIMIT_TIME_EXPIRY: the cause of a reason has been present for `us`, LIM_TIME or longer (R314, R316). -/
def execLimitTimeExpiry (x : Axis) (reason us : Nat) (s : State) : Host.Outcome State Fault Refusal :=
  .next (s.running (fun s =>
    if 1 ≤ reason ∧ reason ≤ 8 ∧ bit (s.sv x).causes reason = true ∧ s.reached x us 0x0913 (1, 20) = true then
      (s.modSv x (fun v => { v with lasted := withBit v.lasted reason true })).limitJudge x
    else s))

/-- STOP_COMPLETE: at a slot 0 instant the speed has stayed at or below STOP_SPEED for `us`, 10 ms or longer: OFF, or BRAKE with
RAMP_HOLD; a reversal goes to OFF and waits (R282, R318, R321). -/
def execStopComplete (x : Axis) (us : Nat) (s : State) : Host.Outcome State Fault Refusal :=
  .next (s.running (fun s =>
    let r := s.evalFirst x
    let t := r.2
    if r.1 = true ∧ t.axState x = axSTOPPING ∧ 10000 ≤ us ∧
        qLe (qAbs (fVal (t.word (F.MC_SPD_ACT x)))) (t.paramQ x 0x090D (10, 1)) = true then
      if (t.sv x).rev = 1 then (t.goto x axOFF).modSv x (fun v => { v with rev := 2 })
      else if t.fld (F.MC_MODE_STOP_MODE x) = 1 then
        (t.modSv x (fun v => { v with stopAng := t.word (F.MC_X_THETA x) })).goto x axBRAKE
      else t.goto x axOFF
    else t))

/-- STOP_TIMEOUT: at a slot 0 instant STOPPING has lasted `us`, longer than STOP_TIMEOUT: "stop timeout" and SAFE (R282, table 9.3). -/
def execStopTimeout (x : Axis) (us : Nat) (s : State) : Host.Outcome State Fault Refusal :=
  .next (s.running (fun s =>
    let r := s.evalFirst x
    let t := r.2
    if r.1 = true ∧ t.axState x = axSTOPPING ∧ qLt (t.paramQ x 0x090E (600, 1)) (us, 1000000) = true then t.failState x 24 0
    else t))

/-- HOLD_TIME_ELAPSED: at a slot 0 instant BRAKE has lasted `us`, a nonzero HOLD_TIME, and no start sequence has begun: OFF (R282,
table 9.3). -/
def execHoldTimeElapsed (x : Axis) (us : Nat) (s : State) : Host.Outcome State Fault Refusal :=
  .next (s.running (fun s =>
    let r := s.evalFirst x
    let t := r.2
    if r.1 = true ∧ t.axState x = axBRAKE ∧ (t.sv x).fly = 0 ∧ (t.paramQ x 0x0910 (1, 1)).1 ≠ 0 ∧
        t.reached x us 0x0910 (1, 1) = true then t.goto x axOFF
    else t))

/-- REVERSAL_RESTART: REV_DWELL in OFF is over: the start sequence, as a START of origin 2 with the tag of the last START
(R321, table 9.9; log entry 22). -/
def execReversalRestart (x : Axis) (us : Nat) (s : State) : Host.Outcome State Fault Refusal :=
  .next (s.running (fun s =>
    if s.axState x = axOFF ∧ (s.sv x).rev = 2 ∧ s.reached x us 0x0911 (1, 2) = true then
      let tag := match (s.ax x).lastStart with | some c => c.tag | none => 0
      ((s.modSv x (fun v => { v with rev := 0 })).ownIdle x).cmdArrive x { code := 2, tag := tag, src := 2, slot := none }
    else s))

/-- POSITION_LOSS_TIMEOUT: the Hall set of an axis in RUN has been INVALID for `us`, POS_LOSS_TIME or longer (R305, R306). -/
def execPositionLossTimeout (x : Axis) (us : Nat) (s : State) : Host.Outcome State Fault Refusal :=
  .next (s.running (fun s =>
    match s.hallSet x with
    | some h =>
      if s.axState x = axRUN ∧ s.flag (F.HAH_HALL_ST_INVALID h) = true ∧ (s.sv x).onBlv = false ∧
          s.reached x us 0x0915 (1, 100) = true then s.posLost x
      else s
    | none => s))

/-- R489, R490: ARMED with the last START pending: it carries its tag, SRC and, where an action slot gave it, its slot, whose STATUS a
refusal then sets (DESIGN CHOICE, log entry 60: R490 names the tag and SRC alone); in external-command mode it is refused (R463). -/
def State.retryStart (s : State) (x : Axis) : State :=
  let s := s.goto x axARMED
  match (s.ax x).lastStart with
  | some c => if s.flag (F.TR_CFG_EXT x) then s.resolve x c rsSTATE else s.modAx x (fun a => { a with startWait := some c })
  | none => s

/-- RETRY_DECISION: at a slot 0 instant, `ms` after SAFE was entered and `sinceFirst` seconds after the first counted try:
retry, stay in SAFE or LOCKOUT (R282, R489 to R492), decided once, when no protective comparator is tripped and no sinc3 result
that is used is STALE (R94, R225); the retry after "rotor lost" runs flying restart with LOSS_FLY (R349). -/
def execRetryDecision (x : Axis) (ms sinceFirst : Nat) (s : State) : Host.Outcome State Fault Refusal :=
  .next (s.running (fun s =>
    let r := s.evalFirst x
    let s := r.2
    if r.1 = true ∧ s.axState x = 7 ∧ (s.ax x).retryOk = true ∧ s.owns x gRETRY = true ∧ s.flag (F.PW_CTRL_EN x) = true ∧
        10 * s.fld (F.TR_RETRY_WAIT x) ≤ ms ∧ s.inAsc x = false ∧ s.axisCause x = false ∧ s.fatalCause = false ∧
        (s.protTripped x || s.sdStaleUsed x) = false then
      let s := (s.set (F.TR_SAFE_STAT_WAITING x) 0).modAx x (fun a => { a with retryOk := false })
      let tries := s.fld (F.TR_RETRY_TRIES x)
      let used := s.fld (F.TR_SAFE_STAT_USED x)
      let used := if 0 < used ∧ s.fld (F.TR_RETRY_WINDOW x) ≤ sinceFirst then 0 else used
      if tries = 0 then s
      else if tries ≤ used then (s.set (F.TR_SAFE_STAT_USED x) used).goto x 8
      else
        let s := (s.set (F.TR_SAFE_STAT_USED x) (used + 1)).inc (F.TR_SAFE_STAT_RETRIES x)
        let loss := s.fld (F.TR_SAFE_STAT_ORIGIN x) == 4 && s.want (F.MC_BLV_CTRL_LOSS_FLY x) == 1
        (s.retryStart x).modSv x (fun v => { v with flyLoss := loss })
    else s))

/-! ### Counters and set-points -/

/-- The axis switches: ALIGN to BRAKE (R325, R326). -/
def State.switching (s : State) (x : Axis) : Bool := decide (2 ≤ s.axState x) && decide (s.axState x ≤ 6)

/-- RUNTIME_SECOND: `ns` more of switching since the last such command: RUNTIME counts its whole seconds, and the rest is kept
(R326). -/
def execRuntimeSecond (x : Axis) (ns : Nat) (s : State) : Host.Outcome State Fault Refusal :=
  .next (s.running (fun s =>
    let n := (s.ax x).secs + ns
    if s.switching x then
      (s.incBy (F.MC_RUNTIME x) (n / 1000000000)).modAx x (fun a => { a with secs := n % 1000000000 })
    else s))

/-- The image holds a PARAM record of an axis (R677). -/
def State.hasParam (s : State) (x : Axis) (id : Nat) : Bool := (s.recIn 3 x.ix id).isSome

/-- R677: a written value makes a condition hold whose record the image lacks: the field is left as it is, and VOID is noted. -/
def State.needs (s : State) (by_ : Writer) (cond ok : Bool) (f : State → State) : State :=
  if cond && !ok then s.note by_ rfVoid else f s

/-- Fields of MCx.MODE. -/
def modeFlds (x : Axis) : List Fld :=
  [F.MC_MODE_REV_THRU x, F.MC_MODE_MTPA_EN x, F.MC_MODE_FW_EN x, F.MC_MODE_POS_LOSS x, F.MC_MODE_STOP_MODE x,
    F.MC_MODE_REF x, F.MC_MODE_CTRL x]

/-- The written MODE takes effect (R328). -/
def State.modeTake (s : State) (x : Axis) : State := s.forEach (modeFlds x) State.take

/-- R297, R302, R328, R329, R26: a write of MCx.MODE, effective at the next slot 0 instant; CTRL and REF are ignored while the bridge is
enabled; R677 for FW_EN and position mode; where the timebase is stopped, INPOS is judged by the new REF (R412). -/
def State.modeWrite (s : State) (by_ : Writer) (x : Axis) (w : Word) : State :=
  let put (s : State) (f : Fld) : State := s.setSh f (fieldOf f w)
  let s := s.forEach [F.MC_MODE_REV_THRU x, F.MC_MODE_MTPA_EN x, F.MC_MODE_POS_LOSS x, F.MC_MODE_STOP_MODE x] put
  let s := s.needs by_ (fieldOf (F.MC_MODE_FW_EN x) w == 1) (s.hasParam x 0x0908 && s.hasParam x 0x0909)
    (fun s => put s (F.MC_MODE_FW_EN x))
  let s := if s.bridgeOn x then s
    else
      let s := put s (F.MC_MODE_CTRL x)
      s.needs by_ (fieldOf (F.MC_MODE_REF x) w == 2) (s.hasParam x 0x0C03 && s.hasParam x 0x0C04 && s.hasParam x 0x0C05)
        (fun s => put s (F.MC_MODE_REF x))
  if s.flag (F.PW_CTRL_EN x) then s
  else
    let s := (s.modeTake x).inPosJudge x
    if s.flag (F.MC_MODE_FW_EN x) then s else (s.set (F.MC_X_ID_FW x) 0).set (F.MC_STATE_FW_ACTIVE x) 0

/-- MODE_WRITE: a host write of MCx.MODE (R328). -/
def execModeWrite (x : Axis) (w : Word) (s : State) : Host.Outcome State Fault Refusal :=
  .next (s.running (fun s => s.modeWrite .host x w))

/-- R330: a write of SPD_SET or TRQ_SET is ignored, with VOID, where it is NaN or infinite. -/
def State.setPoint (s : State) (by_ : Writer) (f : Fld) (w : Word) : State :=
  if fFinite w then s.setW f w else s.note by_ rfVoid

/-- SET_POINT_WRITE: a host write of MCx.SPD_SET or, with `torque`, of MCx.TRQ_SET (R330). -/
def execSetPointWrite (x : Axis) (torque : Bool) (w : Word) (s : State) : Host.Outcome State Fault Refusal :=
  .next (s.running (fun s => s.setPoint .host (if torque then F.MC_TRQ_SET x else F.MC_SPD_SET x) w))

/-- R327: a keyed write of MCx.CNT_CLR zeroes the counters it names, with their remainders. -/
def State.mcCntClr (s : State) (x : Axis) (w : Word) : State :=
  if fieldOf (F.MC_CNT_CLR_KEY x) w = 0x5AA5 then
    let s := s.onlyIf (fieldOf (F.MC_CNT_CLR_STARTS x) w == 1) (fun s => s.set (F.MC_STARTS x) 0)
    let s := s.onlyIf (fieldOf (F.MC_CNT_CLR_RUNTIME x) w == 1) (fun s =>
      (s.set (F.MC_RUNTIME x) 0).modAx x (fun a => { a with secs := 0 }))
    let s := s.onlyIf (fieldOf (F.MC_CNT_CLR_E_REGEN x) w == 1) (fun s =>
      (s.set (F.MC_E_REGEN x) 0).modAx x (fun a => { a with eRegen := (0, 1) }))
    s.onlyIf (fieldOf (F.MC_CNT_CLR_E_MOT x) w == 1) (fun s =>
      (s.set (F.MC_E_MOT x) 0).modAx x (fun a => { a with eMot := (0, 1) }))
  else s

/-- MC_CNT_CLR: a write of MCx.CNT_CLR (R327). -/
def execMcCntClr (x : Axis) (w : Word) (s : State) : Host.Outcome State Fault Refusal :=
  .next (s.running (fun s => s.mcCntClr x w))

end Sys2Proof.Machine
end

