-- ==== Sys2Proof/Machine/Folly.lean ====
section
/-! DEFINITION. Folly (spec/12_profiles_tuning.md, R416 to R429): the test signal of an axis, its acceptance, beginning and end,
and the capture: arming, trigger, frames, descriptors, end. -/

namespace Sys2Proof.Machine

/-! ### The signal (R419) -/

/-- Change the injection of an axis. -/
def State.modFol (s : State) (x : Axis) (f : Fol → Fol) : State := s.modSv x (fun v => { v with fol := f v.fol })

/-- FOL_CFG fields. -/
def State.folSig (s : State) (x : Axis) : Nat := s.fld (F.MC_FOL_CFG_SIG x)
@[inherit_doc State.folSig] def State.folPoint (s : State) (x : Axis) : Nat := s.fld (F.MC_FOL_CFG_POINT x)

/-- tp of the signal in seconds: the period, or t_l at POINT SPEED. -/
def State.folTp (s : State) (x : Axis) : Frac :=
  let tp := s.tpQ x (s.fld (F.PW_PERIOD_EFF_TICKS x))
  if s.folPoint x = 2 then qMul (s.loopDiv x 2, 1) tp else tp

/-- Stages of the PRBS register that are tapped, for PRBS_N = 7 to 15 (R419). -/
def prbsTaps (n : Nat) : List Nat :=
  match n with
  | 7 => [7, 6] | 8 => [8, 6, 5, 4] | 9 => [9, 5] | 10 => [10, 7] | 11 => [11, 9] | 12 => [12, 11, 10, 4]
  | 13 => [13, 12, 11, 8] | 14 => [14, 13, 12, 2] | _ => [15, 14]

/-- One advance of the PRBS register: stage i is bit i − 1, the taps feed stage 1, and stage n is the output (log entry 23). -/
def prbsNext (n lfsr : Nat) : Nat :=
  (2 * lfsr + (prbsTaps n).foldl (fun a i => (a + b2n (bit lfsr (i - 1))) % 2) 0) % 2 ^ n

/-- Frequency k of a sweep (R419). -/
def State.sweepF (s : State) (x : Axis) (k : Nat) : Frac :=
  let f0 := fVal (s.word (F.MC_FOL_F0 x))
  let f1 := fVal (s.word (F.MC_FOL_F1 x))
  if k = 0 ∨ f0.1 = 0 then f0
  else if k + 1 = s.fld (F.MC_FOL_CNT_NSTEP x) then f1
  else qMul f0 (qExp (qMul (qLn (qDiv f1 f0)) (k, s.fld (F.MC_FOL_CNT_NSTEP x) - 1)))

/-- Phase of the chirp at time t (R419). -/
def State.chirpPhase (s : State) (x : Axis) (t : Frac) : Frac :=
  let f0 := fVal (s.word (F.MC_FOL_F0 x))
  let f1 := fVal (s.word (F.MC_FOL_F1 x))
  let dur := fVal (s.word (F.MC_FOL_DUR x))
  if f0 = f1 ∨ f0.1 = 0 ∨ dur.1 = 0 then qMul (qMul q2Pi f0) t
  else
    let k := qLn (qDiv f1 f0)
    qMul (qDiv (qMul (qMul q2Pi f0) dur) k) (qSub (qExp (qMul k (qDiv t dur))) (1, 1))

/-- u of period n of the injection, in AMP's unit, each value rounded once to binary32; the signal is marked done in the first
period beyond it, where u is 0. -/
def State.folValue (s : State) (x : Axis) : State :=
  let fol := (s.sv x).fol
  let amp := s.word (F.MC_FOL_AMP x)
  let a := fVal amp
  let tp := s.folTp x
  let t := qMul (fol.n, 1) tp
  let put (s : State) (u : Word) : State := s.setW (F.MC_X_FOL_VAL x) u
  let over_ (s : State) : State := put (s.modFol x (fun f => { f with done := true })) fZero
  if fol.done then put s fZero
  else
    match s.folSig x with
    | 1 =>
      let f := s.sweepF x fol.step
      let tau := qMul (fol.n - fol.from_, 1) tp
      if f.1 ≠ 0 ∧ qLe (qDiv (s.fld (F.MC_FOL_CNT_DWELL x), 1) f) tau = true then
        if fol.step + 1 = s.fld (F.MC_FOL_CNT_NSTEP x) then over_ s
        else put (s.modFol x (fun v => { v with step := v.step + 1, from_ := v.n })) fZero
      else put s (fOfFrac (qMul a (qSin (qMul (qMul q2Pi f) tau))))
    | 2 =>
      let n := s.fld (F.MC_FOL_CFG_PRBS_N x)
      let hold := max 1 (s.fld (F.MC_FOL_CFG_HOLD x))
      if hold * (s.fld (F.MC_FOL_CNT_NREP x) * (2 ^ n - 1)) ≤ fol.n then over_ s
      else
        let s := if 0 < fol.n ∧ fol.n % hold = 0 then s.modFol x (fun v => { v with lfsr := prbsNext n v.lfsr }) else s
        put s (if bit (s.sv x).fol.lfsr (n - 1) then amp else fNeg amp)
    | 3 => if qLe (fVal (s.word (F.MC_FOL_DUR x))) t then over_ s else put s amp
    | _ =>
      if qLe (fVal (s.word (F.MC_FOL_DUR x))) t then over_ s
      else put s (fOfFrac (qMul a (qSin (s.chirpPhase x t))))

/-- The next period (at POINT SPEED, the next SP release) of an injection that runs. -/
def State.folStep (s : State) (x : Axis) : State :=
  if s.flag (F.MC_FOL_STAT_RUNNING x) then (s.modFol x (fun f => { f with n := f.n + 1 })).folValue x else s

/-- R419: at POINT SPEED each SP release takes the next value, the first one that of n = 0. -/
def State.folRelease (s : State) (x : Axis) : State :=
  if s.folPoint x ≠ 2 then s else if (s.sv x).fol.ran then s.folStep x else s.modFol x (fun f => { f with ran := true })

/-- R421: an injection that has ended is over, and u is 0. -/
def State.folOver (s : State) (x : Axis) : State :=
  if (s.sv x).fol.stop then
    (((s.set (F.MC_FOL_STAT_RUNNING x) 0).set (F.MC_FOL_CTRL_START x) 0).setW (F.MC_X_FOL_VAL x) fZero).modFol x (fun f =>
      { f with stop := false })
  else s

/-- u where it acts at a point (0 IQ, 1 ID, 2 SPEED, 3 VOLT), else 0. -/
def State.folAt (s : State) (x : Axis) (point : Nat) : Word :=
  if s.flag (F.MC_FOL_STAT_RUNNING x) && s.folPoint x == point then s.word (F.MC_X_FOL_VAL x) else fZero

/-! ### Capture trigger -/

/-- R426: the first trigger after ARM counts: "capture triggered". -/
def State.capTrigger (s : State) (x : Axis) : State :=
  if s.flag (F.MC_CAP_STAT_RUNNING x) && !s.flag (F.MC_CAP_STAT_TRIGGERED x) then (s.capMark x).evx x 14 else s

/-! ### Injection commands -/

/-- Limit of AMP at the point chosen (table 12.3). -/
def State.folLimit (s : State) (x : Axis) : Frac :=
  s.paramQ x (match s.folPoint x with | 2 => 0x0C0A | 3 => 0x0C0B | _ => 0x0C09) (0, 1)

/-- R420: every field of the injection lies in its range. -/
def State.folFields (s : State) (x : Axis) : Bool :=
  let dur := s.word (F.MC_FOL_DUR x)
  inRange 1 4 (s.folSig x) && inRange 1 255 (s.fld (F.MC_FOL_CFG_HOLD x)) &&
    inRange 7 15 (s.fld (F.MC_FOL_CFG_PRBS_N x)) && inRange 2 255 (s.fld (F.MC_FOL_CNT_NSTEP x)) &&
    inRange 1 255 (s.fld (F.MC_FOL_CNT_NREP x)) && inRange 1 255 (s.fld (F.MC_FOL_CNT_DWELL x)) &&
    fFinite dur && qLe (1, 1000) (fVal dur) && qLe (fVal dur) (3600, 1)

/-- R420: F0 and F1 of a SWEEP or a CHIRP. -/
def State.folFreq (s : State) (x : Axis) : Bool :=
  let f0 := s.word (F.MC_FOL_F0 x)
  let f1 := s.word (F.MC_FOL_F1 x)
  let r := qDiv (1, 1) (s.folTp x)
  if s.folSig x = 1 ∨ s.folSig x = 4 then
    fFinite f0 && fFinite f1 && qLe (1, 100) (fVal f0) && qLe (fVal f0) (fVal f1) && qLe (fVal f1) (qDiv r (4, 1))
  else true

/-- R420: RESULT of a START request (table 12.6): the first failing condition in the table's order. -/
def State.folCheck (s : State) (x : Axis) : Nat :=
  let amp := s.word (F.MC_FOL_AMP x)
  if (s.flag (F.MC_FOL_STAT_RUNNING x) || (s.sv x).fol.pend) = true then 2
  else if ¬(s.axState x = axRUN ∧ s.fld (F.MC_BLV_STAT_SUP x) = 0) then 3
  else if (fFinite amp && qLe (qAbs (fVal amp)) (s.folLimit x)) = false then 4
  else if s.folFreq x = false then 5
  else if s.folFields x = false then 6
  else 1

/-- A write of 1 to FOL_CTRL.START (R420); an accepted one clears CLIPS (table 22.7). -/
def State.folStart (s : State) (x : Axis) : State :=
  let r := s.folCheck x
  let s := s.set (F.MC_FOL_STAT_RESULT x) r
  if r = 1 then
    ((s.set (F.MC_FOL_STAT_END x) 0).set (F.MC_FOL_STAT_CLIPS x) 0).modFol x (fun _ =>
      { pend := true, n := 0, step := 0, from_ := 0, lfsr := 2 ^ s.fld (F.MC_FOL_CFG_PRBS_N x) - 1, done := false,
        hurt := false, stop := false, ran := false })
  else s

/-- FOL_START: a host write of FOL_CTRL.START. -/
def execFolStart (x : Axis) (s : State) : Host.Outcome State Fault Refusal := .next (s.running (fun s => s.folStart x))

/-- R421: an accepted injection begins, with n = 0. -/
def State.folBegin (s : State) (x : Axis) : State :=
  if (s.sv x).fol.pend then
    let s := ((s.modFol x (fun f => { f with pend := false })).set (F.MC_FOL_STAT_RUNNING x) 1).set (F.MC_FOL_CTRL_START x) 1
    let s := s.folValue x
    if s.fld (F.MC_CAP_CFG_TRIG x) = 1 then s.capTrigger x else s
  else s

/-- INJECTION_BEGIN: the next slot 0 instant after an accepted START (R421). -/
def execInjectionBegin (x : Axis) (s : State) : Host.Outcome State Fault Refusal :=
  .next (if s.counts x then s.folBegin x else s)

/-- R421: an injection ends for a reason of FOL_STAT.END: u is 0 from the next period, or at once while no period comes. -/
def State.folEnd (s : State) (x : Axis) (why : Nat) : State :=
  let runs := s.flag (F.MC_FOL_STAT_RUNNING x)
  if (runs || (s.sv x).fol.pend) && !(s.sv x).fol.stop then
    let s := (s.set (F.MC_FOL_STAT_END x) why).modFol x (fun f => { f with pend := false, stop := runs })
    (if s.flag (F.PW_CTRL_EN x) then s else s.folOver x).evx x 13
  else s

/-- A reason of FOL_STAT.END holds: 1 the signal has ended, 3 the axis has left RUN, 4 the supervisor has left NORMAL, 5 a fault
of the axis has been recorded since its START. -/
def State.folWhy (s : State) (x : Axis) (why : Nat) : Bool :=
  match why with
  | 1 => (s.sv x).fol.done
  | 3 => s.axState x != axRUN
  | 4 => s.fld (F.MC_BLV_STAT_SUP x) != 0
  | 5 => (s.sv x).fol.hurt
  | _ => false

/-- INJECTION_ENDED: an injection ends for the reason `why` (R421). -/
def execInjectionEnded (x : Axis) (why : Nat) (s : State) : Host.Outcome State Fault Refusal :=
  .next (s.running (fun s => if s.folWhy x why then s.folEnd x why else s))

/-- FOL_CANCEL: a host write of FOL_CTRL.CANCEL (R421). -/
def execFolCancel (x : Axis) (s : State) : Host.Outcome State Fault Refusal := .next (s.running (fun s => s.folEnd x 2))

/-! ### Capture -/

/-- Change the capture of an axis. -/
def State.modCap (s : State) (x : Axis) (f : Cap → Cap) : State := s.modSv x (fun v => { v with cap := f v.cap })

/-- NSIG, the frame length and NSAMP of a capture. -/
def State.capSigs (s : State) (x : Axis) : Nat := s.fld (F.MC_CAP_CFG_NSIG x) + 1
@[inherit_doc State.capSigs] def State.capFrame (s : State) (x : Axis) : Nat := 12 + 4 * s.capSigs x
@[inherit_doc State.capSigs] def State.capSamples (s : State) (x : Axis) : Nat := s.fld (F.MC_CAP_NSAMP_NSAMP x) + 1

/-- Code of signal n (CAP_SEL). -/
def State.capSel (s : State) (x : Axis) (n : Nat) : Nat :=
  if n < 4 then bits (s.fld (F.MC_CAP_SEL_LO x)) (8 * n + 7) (8 * n)
  else bits (s.fld (F.MC_CAP_SEL_HI x)) (8 * (n - 4) + 7) (8 * (n - 4))

/-- A span of addresses lies within one SRAM region of kind 4. -/
def State.inKind4 (s : State) (lo hi : Nat) : Bool :=
  s.img.regions.any (fun r => r.kind == 4 && decide (r.base ≤ lo) && decide (hi < r.base + r.size))

/-- R424: the configuration that ARM accepts. -/
def State.capConfig (s : State) (x : Axis) : Bool :=
  let base := s.fld (F.MC_CAP_BASE x)
  decide (base % 32 = 0) && decide (64 ≤ base) &&
    s.inKind4 (base - 64) (base + s.capSamples x * s.capFrame x - 1) &&
    s.flag (F.PGL_CH_CFG_EXISTS (s.fld (F.MC_CAP_CFG_CH x))) &&
    (List.range (s.capSigs x)).all (fun n => inRange 1 37 (s.capSel x n)) &&
    decide (s.fld (F.MC_CAP_NSAMP_PRE x) < s.capSamples x)

/-- A write of 1 to CAP_CTRL.ARM (R424, table 12.6). -/
def State.capArm (s : State) (x : Axis) : State :=
  if s.flag (F.MC_CAP_STAT_RUNNING x) then s.set (F.MC_CAP_STAT_RESULT x) 2
  else if s.capConfig x = false then s.set (F.MC_CAP_STAT_RESULT x) 6
  else
    let s := ((s.wr (A.MC_CAP_STAT x) 0).set (F.MC_CAP_STAT_RESULT x) 1).set (F.MC_CAP_STAT_RUNNING x) 1
    let s := ((s.set (F.MC_CAP_CTRL_ARM x) 1).set (F.MC_CAP_COUNT x) 0).set (F.MC_CAP_START x) 0
    let s := s.modCap x (fun _ => Svc.reset.cap)
    if s.fld (F.MC_CAP_CFG_TRIG x) = 0 then s.capTrigger x else s

/-- CAPTURE_ARM: a host write of CAP_CTRL.ARM. -/
def execCaptureArm (x : Axis) (s : State) : Host.Outcome State Fault Refusal := .next (s.running (fun s => s.capArm x))

/-- CAPTURE_TRIGGER: a write of 1 to CAP_CTRL.TRIG, the trigger of TRIG 3 (R426); the other triggers act where they arise. -/
def execCaptureTrigger (x : Axis) (s : State) : Host.Outcome State Fault Refusal :=
  .next (s.running (fun s => if s.fld (F.MC_CAP_CFG_TRIG x) = 3 then s.capTrigger x else s))

/-- Value of a capture signal (table 12.5). -/
def State.capSignal (s : State) (x : Axis) (code : Nat) : Word :=
  let v := s.sv x
  let w (f : Fld) : Word := s.word f
  let duty (p : Nat) : Word :=
    fQuot (s.want (F.PW_CMP_D x p), 1) ((if s.flag (F.PW_CTRL_CARRIER x) then 16 else 8) * s.fld (F.PW_PERIOD_EFF_TICKS x), 1)
  nth fZero
    [fZero, s.quant x 1, s.quant x 2, s.quant x 3, s.quant x 4, v.idM, v.iqM, v.idRef, v.iqRef, v.vda, v.vqa,
      w (F.MC_X_THETA x), w (F.MC_X_OMEGA x), w (F.MC_X_OMEGA_REF x), w (F.MC_X_ACC_REF x),
      posDiff (w (F.MC_POS_REF_T x)) (w (F.MC_POS_REF_F x)) (w (F.MC_POS_ACT_T x)) (w (F.MC_POS_ACT_F x)),
      w (F.MC_X_FOL_VAL x), w (F.MC_X_THETA_B x), w (F.MC_X_THETA_F x), w (F.MC_X_THETA_H x), w (F.MC_X_RESID x),
      w (F.MC_X_TLOAD x), w (F.MC_X_DISAGREE x), w (F.MC_X_DEM_SP x), w (F.MC_X_LIM_BV x), w (F.MC_X_LIM_PW x),
      w (F.MC_X_LIM_IM x), w (F.MC_X_LIM_TH x), w (F.MC_X_LIM_TT x), fOfNat (s.fld (F.MC_SEL_STAT_WIN x)),
      w (F.MC_X_ID_FW x), w (F.MC_MOD x), duty 0, duty 1, duty 2, fOfFrac (s.sfld F.ORG_TJ_TJ, 4), s.quant x 6,
      s.quant x 5] code

/-- Four bytes of a word, least significant first (R4). -/
def wordBytes (w : Word) : List Byte := [w.extractLsb' 0 8, w.extractLsb' 8 8, w.extractLsb' 16 8, w.extractLsb' 24 8]

/-- Word 2 of a frame (table 12.4): its index since the trigger is not known before the trigger: free until the capture ends, when
`capSettle` writes it (log entry 24). -/
def State.capIndex (s : State) (x : Axis) : Word × State :=
  let c := (s.sv x).cap
  let missed := nth false (s.tb x).win ((s.tb x).upd - c.serves) && decide (c.serves ≤ (s.tb x).upd)
  let flags := b2n missed + 2 * b2n (s.fld (F.MC_SEL_STAT_WIN x) != 0) + 4 * b2n (s.flag (F.MC_FOL_STAT_RUNNING x)) +
    8 * b2n c.gap + 16 * b2n (s.sv x).clip
  match c.trigAt with
  | some t => (BitVec.ofNat 32 (unsigned 24 ((c.frames : Int) - t) + 2 ^ 24 * flags), s)
  | none =>
    let r := s.freshNat
    (BitVec.ofNat 32 (r.1 % 2 ^ 24 + 2 ^ 24 * flags), r.2)

/-- CAP_COUNT and CAP_START of the frames written so far (R425, R429; the buffer holds at most NSAMP). -/
def State.capCounts (s : State) (x : Axis) : State :=
  let c := (s.sv x).cap
  let n := s.capSamples x
  let s := s.set (F.MC_CAP_COUNT x) (min c.frames n)
  s.set (F.MC_CAP_START x) (if s.flag (F.MC_CAP_CFG_RING x) ∧ n ≤ c.frames then c.frames % n else 0)

/-- R425: the capture has its frames. -/
def State.capFull (s : State) (x : Axis) : Bool :=
  let c := (s.sv x).cap
  match c.trigAt with
  | some t =>
    if s.flag (F.MC_CAP_CFG_RING x) then decide (t + (s.capSamples x - s.fld (F.MC_CAP_NSAMP_PRE x)) ≤ c.frames)
    else decide (s.capSamples x ≤ c.frames)
  | none => false

/-- One frame enters the FIFO, or is dropped where it finds no room (R428). -/
def State.capPut (s : State) (x : Axis) : State :=
  let c := (s.sv x).cap
  if 4096 < c.fifo.length + s.capFrame x then
    (s.inc (F.MC_CAP_STAT_DROPS x)).modCap x (fun c => { c with gap := true })
  else
    let r := s.capIndex x
    let ws := [BitVec.ofNat 32 c.stamp, BitVec.ofNat 32 (c.stamp / 2 ^ 32), r.1] ++
      (List.range (s.capSigs x)).map (fun n => s.capSignal x (s.capSel x n))
    let s := r.2.modCap x (fun c => { c with fifo := c.fifo ++ ws.flatMap wordBytes, frames := c.frames + 1, gap := false })
    let s := s.capCounts x
    if s.capFull x then s.modCap x (fun c => { c with ending := 1 }) else s

/-- CAPTURE_FRAME: the end of a DEC-th period graph of the axis since the last frame, or since ARM: one frame of the values of
that release (R423, R425, R428). -/
def execCaptureFrame (x : Axis) (s : State) : Host.Outcome State Fault Refusal :=
  .next (s.running (fun s =>
    let c := (s.sv x).cap
    if s.flag (F.MC_CAP_STAT_RUNNING x) = true ∧ c.ending = 0 ∧ s.fld (F.MC_CAP_CFG_DEC x) + 1 ≤ c.dec then
      let s := s.modCap x (fun c => { c with dec := 0 })
      if s.flag (F.MC_CAP_CFG_RING x) || c.trigAt.isSome then s.capPut x else s
    else s))

/-- Bytes in the FIFO that no descriptor covers yet. -/
def State.capReady (s : State) (x : Axis) : Nat :=
  let c := (s.sv x).cap
  c.fifo.length - (c.out - c.taken)

/-- R427, R626: the next descriptor: LAST and REC set, the axis's FIFO as the source, the block's number as its TAG; EVT and
BURST are free (log entry 25). -/
def State.capDescriptor (s : State) (x : Axis) : State :=
  let c := (s.sv x).cap
  let total := s.capSamples x * s.capFrame x
  let block := if c.rest ≠ 0 then c.rest else min 512 (s.capReady x)
  let pos := c.out % max 1 total
  let len := min block (total - pos)
  let e := s.freshBit
  let b := e.2.freshNat
  let s := b.2
  let base := s.fld (F.MC_CAP_BASE x)
  let desc := base - 64 + (if c.half then 32 else 0)
  let w0 := c.blocks % 256 + 2 ^ 8 + 2 ^ 9 * b2n e.1 + 2 ^ 10 + 2 ^ 12 * (1 + x.ix) + 2 ^ 16 * (b.1 % 5)
  let s := (s.eccClear (lineOf desc)).setWords desc [BitVec.ofNat 32 w0, 0, BitVec.ofNat 32 (base + pos), BitVec.ofNat 32 len, 0, 0, 0, 0]
  let s := s.modCap x (fun c => { c with out := c.out + len, half := !c.half, rest := block - len,
                                         blocks := if block = len then c.blocks + 1 else c.blocks })
  s.pglTrigger (s.fld (F.MC_CAP_CFG_CH x)) desc

/-- CAPTURE_BLOCK_DESCRIPTOR: 512 bytes are ready, or at completion the rest, and channel CH holds fewer than two queued entries:
Folly writes the descriptor of the block, or of the next part of a split one, and triggers CH (R427, R611, R626). -/
def execCaptureBlockDescriptor (x : Axis) (s : State) : Host.Outcome State Fault Refusal :=
  .next (s.running (fun s =>
    let c := (s.sv x).cap
    let due := c.rest != 0 || decide (512 ≤ s.capReady x) || (c.ending != 0 && s.capReady x != 0)
    if s.flag (F.MC_CAP_STAT_RUNNING x) && due && decide ((s.pglQueue (s.fld (F.MC_CAP_CFG_CH x))).length < 2) then
      s.capDescriptor x
    else s))

/-- R429: a write of 1 to CAP_CTRL.CANCEL: no further frame; the capture ends once the FIFO has been written out. -/
def State.capCancel (s : State) (x : Axis) : State :=
  if s.flag (F.MC_CAP_STAT_RUNNING x) && (s.sv x).cap.ending == 0 then s.modCap x (fun c => { c with ending := 2 }) else s

/-- CAPTURE_CANCEL: a host write of CAP_CTRL.CANCEL. -/
def execCaptureCancel (x : Axis) (s : State) : Host.Outcome State Fault Refusal := .next (s.running (fun s => s.capCancel x))

/-- Table 12.4: the frames before the trigger that the buffer still holds take their indexes, negative in two's complement, which were
free until then (log entry 24). -/
def State.capSettle (s : State) (x : Axis) : State :=
  let c := (s.sv x).cap
  let n := s.capSamples x
  let len := s.capFrame x
  match c.trigAt with
  | none => s
  | some t => s.forEach (List.range (min t n)) (fun s i =>
      let f := t - 1 - i
      let a := s.fld (F.MC_CAP_BASE x) + f % n * len + 8
      if c.frames ≤ f + n ∧ (f + 1) * len ≤ c.taken ∧ s.ecc2.contains (lineOf a) = false then
        s.setBytes a ((wordBytes (BitVec.ofNat 32 (unsigned 24 (-((i : Int) + 1))))).take 3)
      else s)

/-- R429: a capture ends: 1 COMPLETE, 2 CANCELLED, 3 ERROR: "capture complete". -/
def State.capEnd (s : State) (x : Axis) (how : Nat) : State :=
  let s := (((s.capSettle x).set (F.MC_CAP_STAT_RUNNING x) 0).set (F.MC_CAP_CTRL_ARM x) 0).set (F.MC_CAP_STAT_END x) how
  (s.modCap x (fun c => { c with fifo := [] })).evx x 15

/-- A descriptor of the capture is queued at channel CH, or in use there. -/
def State.capBusy (s : State) (x : Axis) : Bool :=
  let n := s.fld (F.MC_CAP_CFG_CH x)
  let base := s.fld (F.MC_CAP_BASE x)
  let mine (a : Nat) : Bool := a == base - 64 || a == base - 32
  (s.pglQueue n).any mine || (s.fld (F.PGL_CH_STAT_STATE n) != 0 && mine (s.fld (F.PGL_CH_CUR n)))

/-- CAPTURE_COMPLETE: Pergola has completed the last block of a capture that is to end, or a bus error has stopped channel CH
(R429). -/
def execCaptureComplete (x : Axis) (s : State) : Host.Outcome State Fault Refusal :=
  .next (s.running (fun s =>
    let c := (s.sv x).cap
    if s.flag (F.MC_CAP_STAT_RUNNING x) = false then s
    else if s.fld (F.PGL_CH_STAT_STATE (s.fld (F.MC_CAP_CFG_CH x))) = 4 then s.capEnd x 3
    else if c.ending ≠ 0 ∧ c.fifo = [] ∧ c.rest = 0 ∧ c.out = c.taken ∧ s.capBusy x = false then s.capEnd x c.ending
    else s))

end Sys2Proof.Machine
end

