-- ==== Sys2Proof/Machine/Memory.lean ====
section
/-! DEFINITION. Shared SRAM and kiosk local memory behind their check bits (spec/05_kiosks_fabric.md, R130 to R134, table 5.1), and
the Pergola bus error that an uncorrectable word of its regions raises (spec/20_dma.md, R631, R632). -/

namespace Sys2Proof.Machine

/-! ### The Pergola bus error (R632) -/

/-- Bytes that a descriptor moves (R612). -/
def descTotal (d : List Word) : Nat :=
  let w (i : Nat) : Nat := (nth 0 d i).toNat
  if bit (w 0) 11 then bits (w 3) 15 0 * bits (w 3) 31 16 else bits (w 3) 23 0

/-- Bytes of a channel's descriptor whose writes have not left the engine: those of a record that waits, where its chain has ended with
one (R624); none where it has no descriptor; free for one that it has not fetched yet. -/
def State.pglResid (s : State) (n : Nat) : Nat × State :=
  let c := s.pch n
  match c.desc, c.recs with
  | some d, _ => (descTotal d - c.done, s)
  | none, r :: _ => ((nth 0 r 2).toNat, s)
  | none, [] => if s.fld (F.PGL_CH_STAT_STATE n) = 0 then (0, s) else s.freshNat

/-- Change the record of the flash port. -/
def State.modIce (s : State) (f : Ice → Ice) : State := { s with ice := f s.ice }

/-- A channel that stops waits for no flash byte any more: what it has asked of the port and has not begun is taken back, and the
transaction in progress ends for nobody (R632). -/
def State.readsVoid (s : State) (n : Nat) : State :=
  let mine (q : FlashReq) : Bool := q.ap && q.who == n
  s.modIce (fun i => { i with
    reads := i.reads.filter (fun q => !mine q)
    run := i.run.map (fun q => if mine q then { q with void := true } else q) })

/-- R632: bytes of a burst in flight may or may not have been written. -/
def State.flightFree (s : State) (l : List (Nat × Byte)) : State :=
  s.forEach l (fun s e =>
    let p := s.freshBit
    if p.1 then p.2.setByte e.1 e.2 else p.2)

/-- R632: a channel stops; none of the bytes of a burst that waits for the flash has been written. -/
def State.pglStop (s : State) (n : Nat) : State :=
  if s.flag (F.PGL_CH_CFG_EXISTS n) && s.fld (F.PGL_CH_STAT_STATE n) != 4 then
    let r := s.pglResid n
    let s := r.2.set (F.PGL_CH_RESID n) r.1
    let s := match (s.pch n).flight with
      | some l => (if (s.pch n).await_.isSome then s else s.flightFree l).set (F.PGL_CH_STAT_INDET n) 1
      | none => s
    let s := (s.readsVoid n).modPch n (fun c => { c with
      queue := [], flight := none, await_ := none, got := [], recs := [], abort := false })
    (s.set (F.PGL_CH_STAT_QUEUED n) 0).set (F.PGL_CH_STAT_STATE n) 4
  else s

/-- The axes whose capture runs on a channel that a bus error stops. -/
def State.capsOn (s : State) : List Axis :=
  [Axis.a, Axis.b].filter (fun x =>
    let n := s.fld (F.MC_CAP_CFG_CH x)
    s.flag (F.MC_CAP_STAT_RUNNING x) && s.flag (F.PGL_CH_CFG_EXISTS n) && s.fld (F.PGL_CH_STAT_STATE n) != 4)

/-- R631, R632: a bus error of a kind (1 ADDRESS, 2 UNCORR, 3 FLASH) at an address, by a channel or by another: all channels stop, before the
captures that run on them end with ERROR (R429). -/
def State.busError (s : State) (kind : Nat) (ch : Option Nat) (addr : Nat) : State :=
  let caps := s.capsOn
  let s := s.forEach (List.range 16) State.pglStop
  let s := (s.modPgl (fun b => { b with wait := [] }))
  let s := (s.set F.PGL_STAT_STOPPED 1).wr A.PGL_ERR 0
  let s := (((s.set F.PGL_ERR_KIND kind).setB F.PGL_ERR_NOCH ch.isNone).set F.PGL_ERR_CH (ch.getD 0)).set F.PGL_ERR_ADDR addr
  let s := s.forEach caps (fun s x => s.capEnd x 3)
  (s.faultOn 42 4 (ch.getD 0xFF) addr).event 74

/-! ### Check bits -/

/-- A bit flip strikes a word: one more makes a single-bit error double. -/
def State.upset (s : State) (e : Nat × Bool) : State :=
  let w := lineOf e.1
  if e.2 || s.ecc1.contains w || s.ecc2.contains w then
    s.setEcc (s.ecc1.filter (fun a => !(a == w))) (w :: s.ecc2.filter (fun a => !(a == w)))
  else s.setEcc (w :: s.ecc1) s.ecc2

/-- Bit flips that have struck since the last access. -/
def State.upsets (s : State) (l : List (Nat × Bool)) : State := s.forEach l State.upset

/-- What table 5.1 distinguishes of a word: the kind of its region or, of a local memory, the kind of its kiosk's role; 0 for the
last row. -/
def State.wordKind (s : State) (w : Nat) : Nat :=
  if 0x200000 ≤ w then s.role ((w - 0x200000) / 0x8000) else s.regionKind w

/-- The section that holds a word in one of its copies; of two that share a word the first of the table (DESIGN CHOICE, log entry 79). -/
def State.sectAt (s : State) (w : Nat) : Option Sect :=
  s.img.sects.find? (fun c => c.inSram &&
    (overlap c.dest c.len w 32 || (c.isRuntime && overlap (up32 (c.dest + c.len)) c.len w 32)))

/-- The last row of table 5.1: the word is written as zero. -/
def State.wordZero (s : State) (w : Nat) : State :=
  ((s.eccClear w).setBytes w (List.replicate 32 0)).fault 38 0 0 w

/-- Table 5.1, kind 7: the section update in progress ends with LAYOUT, and ITEM names the record that the word holds, wherever in the
region it lies (log entry 44). -/
def State.stageLost (s : State) (w : Nat) : State :=
  if s.flag F.GH_SECT_STATUS_BUSY then
    let size := match s.img.sects[s.fld F.GH_SECT_STATUS_SECT]? with | some c => (if c.typ = 4 then 80 else 16) | none => 16
    ((((s.set F.GH_SECT_STATUS_RESULT 4).set F.GH_SECT_STATUS_ITEM ((w - s.img.stageBase) / size)).set F.GH_SECT_STATUS_BUSY 0).set
      F.GH_SECT_UPD_GO 0).event 82
  else s

/-- R134, table 5.1: a double-bit error is found; `ch`: the Pergola channel that made the access. -/
def State.doubleFound (s : State) (ch : Option Nat) (w : Nat) : State :=
  let s := s.inc F.HB_ECC_DOUBLE
  let s := (s.set F.HB_ECC_ADDR_KIND (if 0x200000 ≤ w then 0 else s.regionKind w)).set F.HB_ECC_ADDR_ADDR w
  let k := s.wordKind w
  if k = 1 then (s.eccFound w 18 1).axisFault .a 18 1 w
  else if k = 2 then (s.eccFound w 18 2).axisFault .b 18 2 w
  else if k = 3 then
    let s := (s.eccFound w 18 3).fault 18 3 3 w
    s.modFab (fun b => { b with bgStop := true })
  else if k = 4 ∨ k = 5 then s.busError 2 ch w
  else if k = 6 then
    match s.sectAt w with
    | some c =>
      if c.owner = 0 then (s.eccFound w 18 1).axisFault .a 18 6 w
      else if c.owner = 1 then (s.eccFound w 18 2).axisFault .b 18 6 w
      else (s.eccFound w 35 0).fatal 35 6 w
    | none => s.wordZero w
  else if k = 7 then s.stageLost w
  else s.wordZero w

/-- R133: a single-bit error is corrected and written back. -/
def State.singleFound (s : State) (w : Nat) : State := (s.eccClear w).inc F.HB_ECC_SINGLE

/-- A read of one 32-byte word is checked: false where it delivers no data (R133, R134). -/
def State.checkWord32 (s : State) (ch : Option Nat) (w : Nat) : Bool × State :=
  if s.ecc2.contains w then (false, s.doubleFound ch w)
  else if s.ecc1.contains w then (true, s.singleFound w)
  else (true, s)

/-- The 32-byte words that a span touches. -/
def linesOf (a n : Nat) : List Nat := if n = 0 then [] else (List.range ((a + n - 1) / 32 - a / 32 + 1)).map (fun i => (a / 32 + i) * 32)

/-- Check the words of a read in order, up to the first that delivers no data. -/
def State.checkLines (s : State) (ch : Option Nat) (l : List Nat) : Bool × State :=
  match l with
  | [] => (true, s)
  | w :: r =>
    match s.checkWord32 ch w with
    | (true, s) => s.checkLines ch r
    | e => e

/-- A checked read of `n` bytes. -/
def State.readMem (s : State) (ch : Option Nat) (a n : Nat) : Option (List Byte) × State :=
  match s.checkLines ch (linesOf a n) with
  | (true, s) => (some (s.bytes a n), s)
  | (false, s) => (none, s)

/-- The part of a write that lies in one 32-byte word: a full word is written, a narrower one read, merged and written (R131,
R133, R134). -/
def State.writeLine (s : State) (ch : Option Nat) (a : Nat) (bs : List Byte) : Bool × State :=
  let w := lineOf a
  if bs.length = 32 then (true, (s.eccClear w).setBytes a bs)
  else
    match s.checkWord32 ch w with
    | (true, s) => (true, s.setBytes a bs)
    | e => e

/-- A checked write: word by word, up to the first that fails (`fuel` words). -/
def State.writeMemN (s : State) (fuel : Nat) (ch : Option Nat) (a : Nat) (bs : List Byte) : Bool × State :=
  match fuel, bs with
  | 0, _ => (true, s)
  | _, [] => (true, s)
  | fuel + 1, bs =>
    let n := 32 - a % 32
    match s.writeLine ch a (bs.take n) with
    | (true, s) => s.writeMemN fuel ch (a + n) (bs.drop n)
    | e => e

/-- A checked write of some bytes. -/
def State.writeMem (s : State) (ch : Option Nat) (a : Nat) (bs : List Byte) : Bool × State := s.writeMemN (bs.length + 1) ch a bs

/-- A service of Kegon writes words: as a narrow write, which a word with a double-bit error does not take (R134). -/
def State.svcWrite (s : State) (a : Nat) (ws : List Word) : State := (s.writeMem none a (ws.flatMap wordBytes)).2

/-- A checked write that goes on behind a 32-byte word that takes none of it. -/
def State.writeOver (s : State) (a : Nat) (bs : List Byte) : State :=
  s.forEach (linesOf a bs.length) (fun s w =>
    let lo := max a w
    (s.writeLine none lo ((bs.drop (lo - a)).take (w + 32 - lo))).2)

/-- A copy of `n` bytes, checked at both ends: what a 32-byte word does not deliver is not written (R134). -/
def State.copyOver (s : State) (dst src n : Nat) : State :=
  if (linesOf src n).any (fun w => s.ecc2.contains w) then
    s.forEach (linesOf src n) (fun s w =>
      let lo := max src w
      match s.readMem none lo (min (w + 32) (src + n) - lo) with
      | (some bs, s) => s.writeOver (dst + (lo - src)) bs
      | (none, s) => s)
  else
    let s := s.forEach (linesOf src n) (fun s w => (s.checkWord32 none w).2)
    s.writeOver dst (s.bytes src n)

end Sys2Proof.Machine
end

