-- ==== Sys2Proof/Machine/Loops.lean ====
section
/-! DEFINITION. Compensators, the minimum selector and Promenade (spec/11_compensators.md, spec/12_profiles_tuning.md R401 to
R415, spec/09_commutation.md R301 to R312): what a release does beside the operator's own results. Values that the period graph
and Promenade compute are binary32, each operation rounded, in the order the rules write them; t_l, tp and the parameters are
rounded once. -/

namespace Sys2Proof.Machine

/-! ### Bank swaps (R392 to R398) -/

/-- Swap group of a compensator (CMP_GRP.GRP). -/
def State.swapGroup (s : State) (x : Axis) (c : Nat) : Nat := bits (s.fld (F.MC_CMP_GRP_GRP x)) (2 * c + 1) (2 * c)

/-- Compensators of a swap group. -/
def State.swapMembers (s : State) (x : Axis) (g : Nat) : List Nat := (List.range 9).filter (fun c => s.swapGroup x c == g)

/-- R395: the banks of a compensator change places. -/
def State.bankSwap (s : State) (x : Axis) (c : Nat) : State :=
  let s := s.forEach (List.range 10) (fun s i =>
    let a := s.rd (A.MC_BANK x c i)
    (s.wr (A.MC_BANK x c i) (s.rdSh (A.MC_BANK x c i))).wrSh (A.MC_BANK x c i) a)
  s.setBit (F.MC_SWAP_STAT_ACTIVE x) c (!s.getBit (F.MC_SWAP_STAT_ACTIVE x) c)

/-- R393, R394: the requested groups swap or are refused; "bank swap". RESULT and COMP tell the lowest refused group, COMP its
lowest failing compensator (log entry 26). -/
def State.swapNow (s : State) (x : Axis) : State :=
  let req := s.fld (F.MC_SWAP_REQ x)
  if req = 0 then s
  else
    let groups := (List.range 4).filter (fun g => bit req g)
    let bad := groups.filterMap (fun g => (s.groupCheck x (s.swapMembers x g)).map (fun r => (g, r)))
    let ok := groups.filter (fun g => !(bad.any (fun e => e.1 == g)))
    let comps := ok.flatMap (s.swapMembers x)
    let s := (s.keepBanks x comps).forEach comps (fun s c => s.bankSwap x c)
    let s := s.set (F.MC_SWAP_REQ x) 0
    let put (m : Nat) : Nat := ok.foldl (fun m g => withBit m g false) (bad.foldl (fun m e => withBit m e.1 true) m)
    let s := s.modSv x (fun v => { v with refused := put v.refused })
    let s := s.forEach bad (fun s e => s.setBit (F.MC_SWAP_STAT_REFUSED x) e.1 true)
    let s := match bad with
      | [] => (s.set (F.MC_SWAP_STAT_RESULT x) 1).set (F.MC_SWAP_STAT_COMP x) 0
      | e :: _ => (s.set (F.MC_SWAP_STAT_RESULT x) e.2.2).set (F.MC_SWAP_STAT_COMP x) e.2.1
    s.evx x 16

/-- R393, R397: a write of MCx.SWAP.REQ: a group with a compensator of an owned function group is ignored, with OWNED. -/
def State.swapRequest (s : State) (by_ : Writer) (x : Axis) (w : Word) : State :=
  let s := s.forEach (List.range 4) (fun s g =>
    if bit (fieldOf (F.MC_SWAP_REQ x) w) g then
      if (s.swapMembers x g).any (fun c => s.owns x (compGroup c)) then s.note by_ rfOwned
      else s.setBit (F.MC_SWAP_REQ x) g true
    else s)
  if s.flag (F.PW_CTRL_EN x) then s else s.swapNow x

/-- SWAP_REQUEST: a host write of MCx.SWAP. -/
def execSwapRequest (x : Axis) (w : Word) (s : State) : Host.Outcome State Fault Refusal :=
  .next (s.running (fun s => s.swapRequest .host x w))

/-- COMPENSATOR_SWAP: the slot 0 instant after a request (R393). -/
def execCompensatorSwap (x : Axis) (s : State) : Host.Outcome State Fault Refusal :=
  .next (if s.counts x then s.swapNow x else s)

/-- R391: the derived coefficients take effect at a slot 0 instant; at the first of a new period as one swap. -/
def State.takeDerived (s : State) (x : Axis) : State :=
  let v := s.sv x
  let s := s.modSv x (fun v => { v with take := 0, takeP := 0 })
  (if v.take = 0 then s else s.bankTake x v.take).derivedSwap x v.takeP

/-- R398: the bank a release of a compensator uses: what its graph keeps, else the active bank. -/
def State.bankFor (s : State) (x : Axis) (c : Nat) (g : Nat) : List Word :=
  match (s.instOf g).bind (fun i => i.old.find? (fun e => e.1 == c)) with
  | some e => e.2
  | none => s.bank x c

/-- R20, R331: an expert write to a compensator's coefficient register reaches the shadow bank. -/
def State.bankWrite (s : State) (by_ : Writer) (x : Axis) (c i : Nat) (w : Word) : State :=
  s.expert by_ x (compGroup c) (fun s => s.wrSh (A.MC_BANK x c i) w)

/-! ### Loop enables -/

/-- LOOP_EN fields that a write may change. -/
def loopEnFlds (x : Axis) : List Fld := [F.MC_LOOP_EN_TT x, F.MC_LOOP_EN_TH x, F.MC_LOOP_EN_PW x, F.MC_LOOP_EN_BV x]

/-- R400: the written CUR_CTRL and LOOP_EN take effect. -/
def State.loopTake (s : State) (x : Axis) : State := (s.take (F.MC_CUR_CTRL_FF_EN x)).forEach (loopEnFlds x) State.take

/-- R400, R19, R677: a write of MCx.CUR_CTRL (`cur`) or MCx.LOOP_EN. -/
def State.loopWrite (s : State) (by_ : Writer) (x : Axis) (cur : Bool) (w : Word) : State :=
  let s := s.expert by_ x (if cur then gCUR else gLOOP) (fun s =>
    if cur then s.setSh (F.MC_CUR_CTRL_FF_EN x) (fieldOf (F.MC_CUR_CTRL_FF_EN x) w)
    else
      let put (s : State) (f : Fld) : State := s.setSh f (fieldOf f w)
      let s := s.forEach [F.MC_LOOP_EN_TT x, F.MC_LOOP_EN_TH x, F.MC_LOOP_EN_PW x] put
      s.needs by_ (fieldOf (F.MC_LOOP_EN_BV x) w == 1) (s.hasParam x 0x0B05) (fun s => put s (F.MC_LOOP_EN_BV x)))
  if s.flag (F.PW_CTRL_EN x) then s else s.loopTake x

/-- LOOP_ENABLE_WRITE: a host write of MCx.CUR_CTRL (`cur`) or MCx.LOOP_EN. -/
def execLoopEnableWrite (x : Axis) (cur : Bool) (w : Word) (s : State) : Host.Outcome State Fault Refusal :=
  .next (s.running (fun s => s.loopWrite .host x cur w))

/-! ### Positions (R409, R410, R430) -/

/-- A position in turns and a fraction in [0, 2π): an exact angle beside whole turns, the fraction rounded once to binary32; a
fraction that rounds to 2π is the next turn (log entry 9). -/
def posOf (turns : Int) (q : Frac) : Word × Word :=
  let n := qFloor (qDiv q q2Pi)
  let f := fOfFrac (qNorm (qSub q (qMul (qInt n) q2Pi)))
  if qLe q2Pi (fVal f) then (BitVec.ofInt 32 (turns + n + 1), fZero) else (BitVec.ofInt 32 (turns + n), f)

/-- R410: the actual and reference positions take POS_SET. -/
def State.homeNow (s : State) (x : Axis) : State :=
  let p := (s.sv x).posNext
  let s := ((s.setW (F.MC_POS_ACT_T x) p.1).setW (F.MC_POS_ACT_F x) p.2).modSv x (fun v => { v with home := false })
  ((s.setW (F.MC_POS_REF_T x) p.1).setW (F.MC_POS_REF_F x) p.2).inPosJudge x

/-- R410: a write of 1 to MCx.PRM_CTRL.HOME. -/
def State.homeWrite (s : State) (x : Axis) : State :=
  if s.axState x = axRUN ∨ s.axState x = axSTOPPING then s
  else if s.flag (F.PW_CTRL_EN x) then s.modSv x (fun v => { v with home := true })
  else s.homeNow x

/-- HOME: a host write of 1 to MCx.PRM_CTRL.HOME. -/
def execHome (x : Axis) (s : State) : Host.Outcome State Fault Refusal := .next (s.running (fun s => s.homeWrite x))

/-- R409, R430: a write of POS_SET_T, or of POS_SET_F, which completes the set-point. -/
def State.posSetWrite (s : State) (by_ : Writer) (x : Axis) (frac : Bool) (w : Word) : State :=
  if frac = false then s.setW (F.MC_POS_SET_T x) w
  else if fFinite w = false then s.note by_ rfVoid
  else
    let p := posOf (s.word (F.MC_POS_SET_T x)).toInt (fVal w)
    (((s.setW (F.MC_POS_SET_T x) p.1).setW (F.MC_POS_SET_F x) p.2).modSv x (fun v => { v with posNext := p })).inPosJudge x

/-- POS_SET_WRITE: a host write of POS_SET_T or, with `frac`, of POS_SET_F. -/
def execPosSetWrite (x : Axis) (frac : Bool) (w : Word) (s : State) : Host.Outcome State Fault Refusal :=
  .next (s.running (fun s => s.posSetWrite .host x frac w))

/-- R410: at a period with a trusted position, the actual position takes the change of θ over POLE_PAIRS. -/
def State.posAccumulate (s : State) (x : Axis) : State :=
  if s.flag (F.MC_STATE_POS_TRUSTED x) then
    let th := s.word (F.MC_X_THETA x)
    match (s.sv x).thPrev with
    | none => s.modSv x (fun v => { v with thPrev := some th })
    | some old =>
      let d := qDiv (qWrap (qSub (fVal th) (fVal old))) (s.poles x)
      let p := posOf (s.word (F.MC_POS_ACT_T x)).toInt (qAdd (fVal (s.word (F.MC_POS_ACT_F x))) d)
      ((s.setW (F.MC_POS_ACT_T x) p.1).setW (F.MC_POS_ACT_F x) p.2).modSv x (fun v => { v with thPrev := some th })
  else s.modSv x (fun v => { v with thPrev := none })

/-! ### Promenade (R402 to R415) -/

/-- Sign of a binary32 number, as −1, 0 or 1. -/
def fSgn (a : Word) : Int := if fLt fZero a then 1 else if fLt a fZero then -1 else 0

/-- A sign times a number. -/
def fSgnMul (i : Int) (a : Word) : Word := if i = 0 then fZero else if i < 0 then fNeg a else a

/-- R402: one step of v and a towards vt; no jmax: jerk unlimited (R403). -/
def promStep (v a vt acc dec : Word) (jmax : Option Word) (tl : Word) : Word × Word :=
  let e := fSub vt v
  let dv := match jmax with
    | some j => fDiv (fMul a (fAbs a)) (fMul 0x40000000#32 j)
    | none => fZero
  let sgn := fSgn (fSub e dv)
  let away := (decide (0 ≤ fSgn v) && decide (sgn = 1)) || (decide (fSgn v ≤ 0) && decide (sgn = -1))
  let want := fSgnMul sgn (if away then acc else dec)
  let a' := match jmax with
    | some j => fAdd a (fClamp (fNeg (fMul j tl)) (fMul j tl) (fSub want a))
    | none => want
  let vn := fAdd v (fMul a' tl)
  let slow := match jmax with | some j => fLe (fAbs a') (fMul j tl) | none => true
  if fLe (fMul (fSub vn vt) (fSub v vt)) fZero && slow then (vt, fZero) else (vn, a')

/-- A parameter in mechanical rpm, or rpm/s, or rpm/s², as electrical rad units in binary32. -/
def State.radW (s : State) (x : Axis) (rpm : Frac) : Word := fOfFrac (qNorm (s.radOf x rpm))

/-- R312: the clamp bound in electrical rad/s, and the cause it gives: 7 FREQ, 8 SPEED_CLAMP. -/
def State.speedBound (s : State) (x : Axis) : Word × Nat :=
  let a := s.radOf x (s.paramQ x 0x0901 (0, 1))
  let b := qMul q2Pi (s.paramQ x 0x0902 (2000, 1))
  if qLe b a then (fOfFrac (qNorm b), 7) else (fOfFrac (qNorm a), 8)

/-- t_l of the SP loop in seconds. -/
def State.spTl (s : State) (x : Axis) : Frac := qMul (s.loopDiv x 2, 1) (s.tpQ x (s.fld (F.PW_PERIOD_EFF_TICKS x)))

/-- R404: Promenade is held. -/
def State.promHeld (s : State) (x : Axis) : Bool := s.fld (F.MC_SEL_STAT_WIN x) != 0 || (s.sv x).volt

/-- The identification test that runs, 0 none (R367). -/
def State.idTest (s : State) (x : Axis) : Nat := if (s.sv x).idCmd = none then 0 else s.fld (F.MC_ID_STAT_TEST x)

/-- The axis runs in a mode of MODE.REF: a stop (R302, R317) and an identification test (table 10.9) are a matter of speed in every mode
(log entry 48). -/
def State.refMode (s : State) (x : Axis) (m : Nat) : Bool :=
  s.fld (F.MC_MODE_REF x) == m && s.axState x != axSTOPPING && s.idTest x == 0

/-- The axis is in position mode, and in torque mode. -/
def State.posMode (s : State) (x : Axis) : Bool := s.refMode x 2
@[inherit_doc State.posMode] def State.torqueMode (s : State) (x : Axis) : Bool := s.refMode x 1

/-- R411: the target speed in electrical rad/s for a remaining distance. -/
def State.posTarget (s : State) (x : Axis) (e : Word) : Word :=
  let mech (id : Nat) : Word := fOfFrac (qNorm (qMul (s.paramQ x id (0, 1)) (qDiv q2Pi (60, 1))))
  let amax := mech 0x0C04
  let tj := fDiv amax (mech 0x0C05)
  let root := fSqrt (fAdd (fDiv (fMul tj tj) 0x40800000#32) (fDiv (fMul 0x40000000#32 (fAbs e)) amax))
  let vstop := fMul amax (fSub root (fDiv tj 0x40000000#32))
  fMul (fSgnMul (fSgn e) (fMin (mech 0x0C03) vstop)) (fOfFrac (s.poles x))

/-- PRM_STAT.DONE; "profile done" where it rises (R408, R412). -/
def State.promDone (s : State) (x : Axis) (b : Bool) : State :=
  let was := s.flag (F.MC_PRM_STAT_DONE x)
  let s := s.setB (F.MC_PRM_STAT_DONE x) b
  if b && !was then s.evx x 11 else s

/-- v and a of Promenade, with the registers that report them (R402). -/
def State.promPut (s : State) (x : Axis) (v a : Word) : State :=
  let s := (s.setW (F.MC_X_OMEGA_REF x) v).setW (F.MC_X_ACC_REF x) a
  if fFinite v then s.setW (F.MC_SPD_REF x) (fOfFrac (qNorm (s.rpmOf x (fVal v)))) else s.setW (F.MC_SPD_REF x) v

/-- Promenade's step at a release: target, limits, hold (R402 to R407, R411, R415); set-point and limits as the period latched them
(R13); identification test 3 runs at ID_SPD (table 10.9). -/
def State.promMove (s : State) (x : Axis) : State :=
  let tl := fOfFrac (s.spTl x)
  let v := s.word (F.MC_X_OMEGA_REF x)
  let a := s.word (F.MC_X_ACC_REF x)
  let lim := (s.speedBound x).1
  let stop := s.axState x == axSTOPPING
  let pos := s.posMode x
  let e := s.posErr x (s.sv x).posLat (F.MC_POS_REF_T x) (F.MC_POS_REF_F x)
  let held := s.promHeld x
  let target := if stop then fZero else if s.idTest x = 3 then s.radW x (s.paramQ x 0x0A29 (0, 1)) else if pos then s.posTarget x e
    else if fFinite (s.latWord x (F.MC_SPD_SET x)) then s.radW x (fVal (s.latWord x (F.MC_SPD_SET x))) else s.latWord x (F.MC_SPD_SET x)
  let vt := fClamp (fNeg lim) lim target
  let acc := if stop then s.radW x (s.paramQ x 0x090C (100, 1)) else if pos then s.radW x (s.paramQ x 0x0C04 (0, 1))
    else s.latWord x (F.MC_X_ACC_MAX x)
  let dec := if stop ∨ pos then acc else s.latWord x (F.MC_X_DEC_MAX x)
  let jmax := if stop then none else if pos then some (s.radW x (s.paramQ x 0x0C05 (0, 1))) else some (s.latWord x (F.MC_X_JERK_MAX x))
  let r := if held then (s.word (F.MC_X_OMEGA x), fZero) else promStep v a vt acc dec jmax tl
  let s := (s.promPut x r.1 r.2).setB (F.MC_PRM_STAT_HELD x) held
  if pos then
    if held then
      ((s.setW (F.MC_POS_REF_T x) (s.word (F.MC_POS_ACT_T x))).setW (F.MC_POS_REF_F x) (s.word (F.MC_POS_ACT_F x))).promDone x false
    else
      let step := fDiv (fMul (fAbs r.1) tl) (fOfFrac (s.poles x))
      let fine := match jmax with | some j => fLe (fAbs r.2) (fMul j tl) | none => true
      if fLe (fAbs e) step && fine then
        let p := (s.sv x).posLat
        (((s.setW (F.MC_POS_REF_T x) p.1).setW (F.MC_POS_REF_F x) p.2).promPut x fZero fZero).promDone x true
      else
        let d := qDiv (qMul (fVal r.1) (s.spTl x)) (s.poles x)
        let p := posOf (s.word (F.MC_POS_REF_T x)).toInt (qAdd (fVal (s.word (F.MC_POS_REF_F x))) d)
        ((s.setW (F.MC_POS_REF_T x) p.1).setW (F.MC_POS_REF_F x) p.2).promDone x false
  else s.promDone x (fEq r.1 vt && fIsZero r.2)

/-- Some causes of table 9.7 become present or absent, the others stay: `these` names the reasons judged, `on` those present. -/
def State.limitPart (s : State) (x : Axis) (these on : List Nat) : State :=
  let m := these.foldl (fun m r => withBit m r (on.contains r)) (s.sv x).causes
  s.limitCauses x m

/-- R413, R416, R312: the reference SP receives: v, in position mode the output of PS, Folly's u at POINT SPEED, all clamped. -/
def State.promRef (s : State) (x : Axis) : State :=
  let v := s.word (F.MC_X_OMEGA_REF x)
  let r := if s.posMode x then fAdd v (s.rd (A.MC_C_X_OUT x 8)) else v
  let u := s.folAt x 2
  let r := if fIsZero u || !fFinite u then r else fAdd r (s.radW x (fVal u))
  let b := s.speedBound x
  let s := s.modSv x (fun w => { w with spRef := fClamp (fNeg b.1) b.1 r })
  s.limitPart x [7, 8] (if fLt b.1 (fAbs r) then [b.2] else [])


/-! ### One release of a compensator (R372, R374) -/

/-- R372, R374: x, y, the new history x1 to x3, y1 to y3, and whether y was clamped; none where R141 guards an input. MODE 3 is not
used here. -/
def compRun (three : Bool) (bank hist : List Word) (mode : Nat) (value inp : Word) : Option (Word × Word × List Word × Bool) :=
  let b (i : Nat) : Word := if three = false ∧ (i = 3 ∨ i = 6) then fZero else nth fZero bank i
  let h (i : Nat) : Word :=
    let old := nth fZero hist i
    fFlush (if mode = 1 then (if i < 3 then fZero else value) else if mode = 2 ∧ i = 3 then value else old)
  if fFinite inp && (List.range 10).all (fun i => fFinite (b i)) && hist.all fFinite &&
      ((mode != 1 && mode != 2) || fFinite value) then
    let x := fMul (b 7) inp
    let acc := (List.range 3).foldl (fun a i => fAdd a (fMul (b (i + 1)) (h i))) (fMul (b 0) x)
    let acc := (List.range 3).foldl (fun a i => fSub a (fMul (b (i + 4)) (h (i + 3)))) acc
    let y := fClamp (b 8) (b 9) acc
    some (x, y, [x, h 0, h 1, y, h 3, h 4], fLt acc (b 8) || fLt (b 9) acc)
  else none

/-- The voltages applied reach the dq words that the axis's IPARK operators turn (table 5.4; log entry 49). -/
def State.dqPut (s : State) (x : Axis) : State :=
  let p := s.dqApplied x
  s.forEach (s.opWords x 0x1A 1) (fun s a => s.svcWrite a [p.1, p.2])

/-- CMP_SAT: a compensator is clamped now, or not (table 11.16). -/
def State.satSet (s : State) (x : Axis) (c : Nat) (b : Bool) : State :=
  let s := s.modSv x (fun v => { v with satNow := withBit v.satNow c b })
  if b then s.setBit (F.MC_CMP_SAT_SAT x) c true else s

/-! ### References, feedforward and the voltage limit -/

/-- MODE and VALUE of a tracking record, where it lies in memory. -/
def State.putTrk (s : State) (a : Option Nat) (mode : Nat) (value : Word) : State :=
  match a with
  | some a => s.svcWrite a [BitVec.ofNat 32 mode, value]
  | none => s

/-- Measured d and q currents: those of the latest slot, transformed along θ (R377). -/
def State.idMeas (s : State) (x : Axis) : Word := (s.sv x).idM
@[inherit_doc State.idMeas] def State.iqMeas (s : State) (x : Axis) : Word := (s.sv x).iqM

/-- abs(i) of the period. -/
def State.iMag (s : State) (x : Axis) : Word :=
  fSqrt (fAdd (fMul (s.idMeas x) (s.idMeas x)) (fMul (s.iqMeas x) (s.iqMeas x)))

/-- The current at which Ld and Lq are looked up in a period (R334). -/
def State.mapI (s : State) (x : Axis) : Frac := if fFinite (s.iMag x) then fVal (s.iMag x) else (0, 1)

/-- VBUS / √3 of the period. -/
def State.vMax (s : State) (x : Axis) : Word := fDiv (s.quant x 4) (fSqrt 0x40400000#32)

/-- Time in seconds from the sample instant of slot n to the update instant that its graph serves, in a carrier as long as it is (R188,
R200, R307). -/
def State.tpServe (s : State) (x : Axis) (n : Nat) : Frac :=
  let t := s.period x
  let p := (s.fld (F.PW_SAMP_POS x n) * t + 32768) / 65536
  let m := if s.twoUpd x ∧ p < t / 2 then t / 2 else t
  (m - p, 400000000)

/-- R377: decoupling terms vd_ff and vq_ff, with Folly's u at POINT VOLT (R418). -/
def State.feedforward (s : State) (x : Axis) : Word × Word :=
  let w := s.word (F.MC_X_OMEGA x)
  let i := s.mapI x
  let ff := s.flag (F.MC_CUR_CTRL_FF_EN x)
  let d := if ff then fMul (fMul (fNeg w) (fOfFrac (qNorm (s.lq x i)))) (s.iqMeas x) else fZero
  let q := if ff then
      fMul w (fAdd (fMul (fOfFrac (qNorm (s.ld x i))) (s.idMeas x)) (fOfFrac (qNorm (s.psi x)))) else fZero
  let u := s.folAt x 3
  if fIsZero u then (d, q) else if s.flag (F.MC_FOL_CFG_VAXIS x) then (fAdd d u, q) else (d, fAdd q u)

/-- Sample slot of a period graph (table 4.5). -/
def State.slotOf (s : State) (g : Nat) : Nat := match s.graphD g with | some d => if d.trigger = 0 then d.trigArg else 0 | none => 0

/-- R13: a register as it was latched for the period of graph g's release. -/
def State.graphWord (s : State) (g : Nat) (f : Fld) : Word :=
  match (s.instOf g).bind (fun i => i.lat) with
  | some l => BitVec.ofNat 32 (fieldOf f (cget regPor l f.reg))
  | none => s.word f

/-- R307, R308, R310: the field-weakening update after CD and CQ, and whether the voltage limit holds; while FW_EN is 0, id_fw is 0. -/
def State.weaken (s : State) (x : Axis) (g : Nat) (vmag : Word) : State :=
  let vlim := fDiv (fMul (s.graphWord g (F.MC_X_FW_MODMAX x)) (s.quant x 4)) (fSqrt 0x40400000#32)
  let lo := s.graphWord g (F.MC_X_FW_IDMIN x)
  if s.flag (F.MC_MODE_FW_EN x) then
    let old := s.word (F.MC_X_ID_FW x)
    let new := fClamp lo fZero (fAdd old (fMul (fMul (s.graphWord g (F.MC_X_FW_KI x)) (fSub vlim vmag)) (fOfFrac (s.tpServe x (s.slotOf g)))))
    let new := if fIsNaN new then old else new
    let s := (s.setW (F.MC_X_ID_FW x) new).setB (F.MC_STATE_FW_ACTIVE x) (fLt new fZero)
    s.modSv x (fun v => { v with volt := fEq new lo && fLt vlim vmag })
  else s.modSv x (fun v => { v with volt := fEq fZero lo && fLt vlim vmag })

/-- The d and q voltages that a service applies in place of what the current loops ask: the held vector (R346); in ALIGN by injection none
but the injection's, and the polarity pulses, with none between them (R355, R356). -/
def State.forced (s : State) (x : Axis) : Option (Word × Word) :=
  let v := s.sv x
  if v.frozen then some v.hold
  else if s.axState x = axALIGN ∧ v.idCmd = none then
    match v.align with
    | 2 | 5 => some (fZero, fZero)
    | 3 | 4 => some (fOfFrac (s.paramQ x 0x0A14 (100, 1)), fZero)
    | _ => none
  else none

/-- CQ has run in a period graph of an axis in FOC: feedforward, the limit of R378 with its BACK records, MOD, and field
weakening, and the voltages applied are on their way to the bridge; while a service keeps CD and CQ frozen it has written other records
(R346). -/
def State.currentLimit (s : State) (x : Axis) (g : Nat) : State :=
  let ff := s.feedforward x
  let vd := fAdd (s.rd (A.MC_C_X_OUT x 0)) ff.1
  let vq := fAdd (s.rd (A.MC_C_X_OUT x 1)) ff.2
  let vmax := s.vMax x
  let vda := fClamp (fNeg vmax) vmax vd
  let vql := fSqrt (fSub (fMul vmax vmax) (fMul vda vda))
  let vqa := fClamp (fNeg vql) vql vq
  let vmag := fSqrt (fAdd (fMul vd vd) (fMul vq vq))
  let u := (s.forced x).getD (vda, vqa)
  let s := s.modSv x (fun v => { v with vd := vd, vq := vq, vda := u.1, vqa := u.2, vdff := ff.1, vqff := ff.2 })
  let s := s.setW (F.MC_MOD x) (fDiv vmag vmax)
  let s := if fEq vda vd then s else s.satSet x 0 true
  let s := if fEq vqa vq then s else s.satSet x 1 true
  let s := if (s.sv x).frozen then s
    else (s.putTrk (s.sv x).trkD 2 (fSub u.1 ff.1)).putTrk (s.sv x).trkQ 2 (fSub u.2 ff.2)
  let s := s.weaken x g vmag
  (s.limitPart x [6] (if (s.sv x).volt then [6] else [])).dqPut x

/-- R303: a = min(π/6, ADVANCE + ADV_SLOPE × abs(ω)). -/
def State.sixAdvance (s : State) (x : Axis) : Frac :=
  let a := qAdd (s.paramQ x 0x090A (0, 1)) (qMul (s.paramQ x 0x090B (0, 1)) (qAbs (fVal (s.word (F.MC_X_OMEGA x)))))
  let top := qDiv qPi (6, 1)
  if qLt top a then top else a

/-- R303, R304: in six-step the vector of magnitude y lies π/2 + a ahead of θ, or behind it for a negative torque demand; its d and q
parts are the voltages applied, unless a service holds others, and MOD its length against VBUS / √3. They are on their way to the bridge. -/
def State.sixVector (s : State) (x : Axis) (y : Word) : State :=
  let back := fLt (s.sv x).iqRef fZero
  let a := s.sixAdvance x
  let d := fOfFrac (qNorm (qNeg (qMul (fVal y) (qSin a))))
  let q := fOfFrac (qNorm (qMul (fVal y) (qCos a)))
  let q := if back then fNeg q else q
  let u := (s.forced x).getD (d, q)
  ((s.modSv x (fun v => { v with vd := d, vq := q, vda := u.1, vqa := u.2, vdff := fZero, vqff := fZero })).setW (F.MC_MOD x)
    (fDiv y (s.vMax x))).dqPut x

/-! ### The minimum selector (R380 to R388) -/

/-- R385, R386: dir, m, the winner, and the magnitudes; none where a demand is NaN, or the direction, which names no limit, NaN or
infinite (R141). -/
def minsel (dem : List Word) (mask winPrev : Nat) (dirPrev : Word) : Option (Word × Word × Nat × List Word) :=
  if dem.any fIsNaN || !fFinite dirPrev then none
  else
    let d (k : Nat) : Word := if nth fZero dem k = fNegInf then fZero else nth fZero dem k
    let dir := if fLt fZero (d 0) then fOne else if fLt (d 0) fZero then fNeg fOne else fFlush dirPrev
    let mag := fAbs (d 0) :: (List.range 5).map (fun i =>
      if bit mask (i + 1) || i == 2 then fMax (d (i + 1)) fZero else fInf)
    let m := mag.foldl fMin fInf
    let win := if winPrev < 6 ∧ fEq (nth fInf mag winPrev) m = true then winPrev
      else ((List.range 6).find? (fun k => fEq (nth fInf mag k) m)).getD 0
    some (dir, m, win, mag)

/-- R387: the six tracking records, MODE and VALUE of each loop; the winner's VALUE, which RUN does not use, is `open_`. -/
def minselTrk (dir m : Word) (win : Nat) (open_ : Word) : List Word :=
  (List.range 6).flatMap (fun k =>
    if k = win then [0, open_] else if k = 0 then [1, fMul dir m] else [1, m])

/-- EXTRAP lowers the limit of IM: below S_BEMF (R335). -/
def State.imLowered (s : State) (x : Axis) : Bool :=
  s.flag (F.MC_BLV_STAT_EXTRAP x) && qLt (qAbs (fVal (s.word (F.MC_SPD_ACT x)))) (s.paramQ x 0x0A03 (0, 1))

/-- IM_LIM, and I_lim of R382, within ID_I_MAX while an identification test runs (R368). -/
def State.imLim (s : State) (x : Axis) : Frac := s.paramQ x 0x0B01 (0, 1)
@[inherit_doc State.imLim] def State.iLim (s : State) (x : Axis) : Frac :=
  let t := s.xTop x
  let lim := if s.imLowered x = true ∧ t.2 ≠ 0 ∧ qLt t (s.imLim x) = true then t else s.imLim x
  let i := s.paramQ x 0x0A28 (0, 1)
  if s.idTest x ≠ 0 ∧ qLt i lim = true then i else lim

/-- R301: id_mtpa as a function of the latest iq_ref. -/
def State.idMtpa (s : State) (x : Axis) : Word :=
  let i := s.mapI x
  let dl := qSub (s.lq x i) (s.ld x i)
  if s.flag (F.MC_MODE_MTPA_EN x) && qLt (0, 1) dl then
    let a := fOfFrac (qNorm (qDiv (s.psi x) (qMul (2, 1) dl)))
    let q := (s.sv x).iqRef
    fSub a (fSqrt (fAdd (fMul a a) (fMul q q)))
  else fZero

/-- R301, R359: id_ref before the clamp of R382: during HO_BLEND it moves linearly from its value at the hand-over. -/
def State.idTarget (s : State) (x : Axis) : Word :=
  let v := fMin (s.idMtpa x) (s.word (F.MC_X_ID_FW x))
  match (s.sv x).ramp with
  | none => v
  | some id0 =>
    let t := (s.sv x).stT
    let b := s.paramQ x 0x0A1C (1, 5)
    if qLe b t then v else fAdd id0 (fMul (fOfFrac (qNorm (qDiv t b))) (fSub v id0))

/-- R382: √max(0, I² − id_ref²). -/
def imLimit (i idRef : Word) : Word := fSqrt (fMax fZero (fSub (fMul i i) (fMul idRef idRef)))

/-- R381: T_mod in °C; 0 with TH_SRC = 0. -/
def State.tMod (s : State) (x : Axis) : Word :=
  let raw (n : Nat) : Word := nth 0 (s.src x.ix n) 2
  let conv (w : Word) : Word := fOfFrac (qMul (qSub (w.toInt, 1) (s.paramQ x 0x0B0F (0, 1))) (s.paramQ x 0x0B10 (0, 1)))
  match s.paramN x 0x0B0D 0 with
  | 1 => conv (raw (16 + s.paramN x 0x0B0E 0))
  | 2 => conv (raw 6)
  | _ => fZero

/-- R381: the axis is regenerating. -/
def State.regenerating (s : State) (x : Axis) (dir : Word) : Bool := fLt (fMul dir (s.word (F.MC_X_OMEGA x))) fZero

/-- R417: Folly at POINT IQ: the sum, bounded by every limit loop, and whether the clamp acted. -/
def folIq (dir m u lim lIm : Word) : Word × Bool :=
  let r := fAdd m (fMul dir u)
  let c := fClamp (fNeg lIm) lim r
  (fMul dir c, !fEq c r)

/-- Direction of the latest selector run. -/
def State.selDir (s : State) (x : Axis) : Word := if s.flag (F.MC_SEL_STAT_DIR x) then fNeg fOne else fOne

/-- Table 11.4: the loops that are in, as the mask of R385: BV, PW, TH and TT where they are enabled and not out for their own
condition, TT only while the throttle is enforced (R384). -/
def State.loopsIn (s : State) (x : Axis) : Nat :=
  let regen := s.regenerating x (s.selDir x)
  let given (id : Nat) : Bool := (s.paramQ x id (0, 1)).1 != 0
  9 + 2 * b2n (s.flag (F.MC_LOOP_EN_BV x) && (regen || given 0x0B06)) +
    4 * b2n (s.flag (F.MC_LOOP_EN_PW x) && given (if regen then 0x0B0A else 0x0B09)) +
    16 * b2n (s.flag (F.MC_LOOP_EN_TH x) && s.paramN x 0x0B0D 0 != 0) +
    32 * b2n (s.flag (F.MC_LOOP_EN_TT x) && s.flag F.ORG_STAT_THR_ENF)

/-- R380, R384: the mask of the axis's MINSEL dir records holds the loops that are in, before the graphs of a sample instant run; they
may write it anew (log entry 49). -/
def State.maskPut (s : State) (x : Axis) : State :=
  if s.bridgeOn x then
    s.forEach ((s.compRecs x).filter (fun r => r.1 == 2)) (fun s r => s.svcWrite r.2 [BitVec.ofNat 32 (s.loopsIn x)])
  else s

/-! ### Loop inputs (tables 11.3 and 11.4) -/

/-- Current of the PWM phase of the sector in force (table 6.4), R304. -/
def State.sixCurrent (s : State) (x : Axis) : Word := s.quant x (1 + (sixPhases (s.fld (F.PW_SIX_SECTOR x))).1)

/-- Input of a compensator from the references and measurements as they stand, in the zone of the axis (R381). DL's is that of a demand
forward: the current of the PWM phase leaves the bridge (table 6.4). -/
def State.loopInput (s : State) (x : Axis) (c : Nat) : Word :=
  let v := s.sv x
  let p (id : Nat) (d : Frac) : Word := fOfFrac (qNorm (s.paramQ x id d))
  let regen := s.regenerating x (s.selDir x)
  let bus := s.quant x 4
  match c with
  | 0 => fSub v.idRef v.idM
  | 1 => fSub v.iqRef v.iqM
  | 2 => fSub v.spRef (s.word (F.MC_X_OMEGA x))
  | 3 => if regen then fSub (p 0x0B05 (0, 1)) bus else fSub bus (p 0x0B06 (0, 1))
  | 4 =>
    let lim := if regen then p 0x0B0A (0, 1) else p 0x0B09 (0, 1)
    fSub lim (fAbs (fMul 0x3FC00000#32 (fAdd (fMul v.vda v.idM) (fMul v.vqa v.iqM))))
  | 5 => fSub (p 0x0B11 (100, 1)) (s.tMod x)
  | 6 => fSub (fOfNat (s.fld F.ORG_THR_CFG_TT_THR)) (fOfFrac (s.tj, 4))
  | 7 => fSub v.iqRef (s.sixCurrent x)
  | _ => posDiff (s.word (F.MC_POS_REF_T x)) (s.word (F.MC_POS_REF_F x)) (s.word (F.MC_POS_ACT_T x)) (s.word (F.MC_POS_ACT_F x))

/-- R304: DL's input: the torque current minus the current of the PWM phase with the sign of the sector, which with a negative demand is
not stated: free (log entry 49). -/
def State.dutyInput (s : State) (x : Axis) : Word × State :=
  let r := (s.sv x).iqRef
  if fLt r fZero then
    let b := s.freshBit
    let i := s.sixCurrent x
    (fSub r (if b.1 then i else fNeg i), b.2)
  else (s.loopInput x 7, s)

/-- R380: the input of a compensator reaches the input words of its operators, which a graph may write anew (log entry 49). -/
def State.inPut (s : State) (x : Axis) (c : Nat) : State :=
  let r := if c = 7 then s.dutyInput x else (s.loopInput x c, s)
  r.2.forEach (s.compIns x c) (fun s a => s.svcWrite a [r.1])

/-- id_ref after the clamp of R382, 0 in identification test 3, and L_IM. -/
def State.idClamped (s : State) (x : Axis) : Word :=
  let i := fOfFrac (s.iLim x)
  fClamp (fNeg i) i (if s.idTest x = 3 then fZero else s.idTarget x)
@[inherit_doc State.idClamped] def State.limIm (s : State) (x : Axis) : Word := imLimit (fOfFrac (s.iLim x)) (s.idClamped x)

/-- R380: the inputs of the loops that the period's references and measurements give, and L_IM, which is IM's demand (table 11.4). -/
def State.loopInputs (s : State) (x : Axis) : State :=
  if s.bridgeOn x then
    let lim := s.limIm x
    (s.forEach (s.opWords x 0x17 1) (fun s a => s.svcWrite (a + 12) [lim])).forEach [0, 1, 3, 4, 5, 6, 7] (fun s c => s.inPut x c)
  else s

/-- SP_LOOP_RELEASE: a release of the SP loop: Promenade updates the reference, except in torque mode, in HOLD and while the bridge is
disabled (R302, R317, R346, R375, R402 to R415), with Folly's signal at POINT SPEED (R419); PS and SP receive their inputs (R413). -/
def execSpLoopRelease (x : Axis) (s : State) : Host.Outcome State Fault Refusal :=
  .next (s.running (fun s =>
    if s.bridgeOn x = true ∧ s.torqueMode x = false ∧ (s.sv x).frozen = false then
      ((((s.folRelease x).promMove x).promRef x).inPut x 8).inPut x 2
    else s))

/-- What a release of compensator c adds to the operator's results: X_IN, X_OUT, CMP_SAT, and for CD, CQ and DL what R377 to R379
say, each in the method that MODE.CTRL selects (R297), and for PS the reference of SP (R413). `g`: the graph; `trk`: where the tracking record lies. -/
def State.compDone (s : State) (x : Axis) (c g : Nat) (inp xin y : Word) (sat : Bool) (trk : Option Nat) : State :=
  let s := ((s.set (F.MC_C_X_IN x c) xin.toNat).set (F.MC_C_X_OUT x c) y.toNat).satSet x c sat
  match c with
  | 0 => s.modSv x (fun v => { v with cdIn := inp, trkD := trk })
  | 1 =>
    let s := s.modSv x (fun v => { v with cqIn := inp, trkQ := trk })
    if s.flag (F.MC_MODE_CTRL x) then s else s.currentLimit x g
  | 7 =>
    let at_ := fLe (fMin (nth fZero (s.bankFor x 7 g) 9) (s.vMax x)) y
    if s.flag (F.MC_MODE_CTRL x) then
      ((s.sixVector x y).modSv x (fun v => { v with volt := at_ })).limitPart x [6] (if at_ then [6] else [])
    else s
  | 8 => (s.promRef x).inPut x 2
  | _ => s

/-- R302: the torque current of TRQ_SET as the period latched it. -/
def State.torqueIq (s : State) (x : Axis) : Word :=
  fDiv (s.latWord x (F.MC_TRQ_SET x)) (fMul (fMul 0x3FC00000#32 (fOfFrac (s.poles x))) (fOfFrac (qNorm (s.psi x))))

/-- R380: in torque mode the iq of R302 stands in place of SP's output. -/
def State.torquePut (s : State) (x : Axis) : State :=
  if s.bridgeOn x && s.torqueMode x then
    let iq := s.torqueIq x
    (s.forEach (s.compOuts x 2) (fun s a => s.svcWrite a [iq])).setW (F.MC_C_X_OUT x 2) iq
  else s

/-- A service holds the current vector on a frame of its own, so the selector's output does not act: ALIGN (R354), the open-loop ramp
(R358), BRAKE (R318) and identification test 4 (table 10.9). -/
def State.ownFrame (s : State) (x : Axis) : Bool :=
  s.axState x == axALIGN || s.axState x == axBRAKE || (s.axState x == axSTART && ((s.sv x).align == 1 || s.idTest x == 4))

/-- The references that CD and CQ follow, with the registers that report them. -/
def State.refPut (s : State) (x : Axis) (id_ iq : Word) : State :=
  ((s.modSv x (fun v => { v with idRef := id_, iqRef := iq })).setW (F.MC_X_ID_REF x) id_).setW (F.MC_X_IQ_REF x) iq

/-- R416, R417: the iq that a run of MINSEL passes, with Folly at POINT IQ, and whether the clamp acted. -/
def State.selIq (s : State) (x : Axis) (r : Word × Word × Nat × List Word) : Word × Bool :=
  let u := s.folAt x 0
  let lim := ((List.range 5).map (fun k => nth fInf r.2.2.2 (k + 1))).foldl fMin fInf
  if fIsZero u then (fMul r.1 r.2.1, false) else folIq r.1 r.2.1 u lim (s.limIm x)

/-- MINSEL's result in a graph of an axis: the reference in force, which is its own result while the outer loops are frozen (log entry 49). -/
def State.selOut (s : State) (x : Axis) (r : Word × Word × Nat × List Word) : Word :=
  if (s.sv x).frozen then fMul r.1 r.2.1 else if s.ownFrame x then (s.sv x).iqRef else (s.selIq x r).1

/-- What a run of MINSEL in a period graph of an axis adds to the operator's results: the selector registers, the causes of table
9.7 (R315), the zone change of R388, id_ref with the clamp of R382 (0 in identification test 3), and Folly at POINT IQ and ID (R416,
R417). On a frame of a service's own the references stand as they are; in HOLD the outer loops stay frozen (R346). The current loops
receive their errors (R377, R379; log entry 49). `trk`: where the six tracking records lie. -/
def State.selDone (s : State) (x : Axis) (dem : List Word) (mask : Nat) (r : Word × Word × Nat × List Word)
    (trk : Option Nat) : State :=
  let dir := r.1
  let m := r.2.1
  let win := r.2.2.1
  let mag := r.2.2.2
  let out (k : Nat) : Word := if bit mask k then nth fZero dem k else fInf
  let iLim := fOfFrac (s.iLim x)
  let imLim := fOfFrac (s.imLim x)
  let idr := s.idClamped x
  let lIm := s.limIm x
  let pre := imLimit imLim (fClamp (fNeg imLim) imLim (if s.idTest x = 3 then fZero else s.idTarget x))
  let mPre := (setNth mag 3 pre).foldl fMin fInf
  let s := ((s.setW (F.MC_X_DEM_SP x) (nth fZero dem 0)).setW (F.MC_X_LIM_BV x) (out 1)).setW (F.MC_X_LIM_PW x) (out 2)
  let s := ((s.setW (F.MC_X_LIM_IM x) lIm).setW (F.MC_X_LIM_TH x) (out 4)).setW (F.MC_X_LIM_TT x) (out 5)
  let s := s.setW (F.MC_X_IM_PRE x) mPre
  let s := (s.setW (F.MC_X_T_MOD x) (s.tMod x)).set (F.MC_SEL_STAT_WIN x) win
  let s := s.setB (F.MC_SEL_STAT_DIR x) (fLt dir fZero)
  let zone := s.regenerating x dir
  let s := if zone = s.flag (F.MC_SEL_STAT_REGEN x) then s
    else ((s.setB (F.MC_SEL_STAT_REGEN x) zone).putTrk (trk.map (· + 8)) 1 m).putTrk (trk.map (· + 16)) 1 m
  let q := s.selIq x r
  let uid := s.folAt x 1
  let idf := if fIsZero uid then idr else fClamp (fNeg iLim) iLim (fAdd idr uid)
  let s := s.modSv x (fun v => { v with selTrk := trk })
  let s :=
    if (s.sv x).frozen then s.forEach (List.range 6) (fun s k => s.putTrk (trk.map (· + 8 * k)) 3 0)
    else if s.ownFrame x then s
    else
      let s := ((s.setW (F.MC_X_IQ_REF x) (fMul dir m)).setW (F.MC_X_ID_REF x) idr).modSv x (fun v =>
        { v with iqRef := q.1, idRef := idf, clip := q.2 })
      if q.2 then s.inc (F.MC_FOL_STAT_CLIPS x) else s
  (s.forEach [0, 1, 7] (fun s c => s.inPut x c)).limitPart x [1, 2, 3, 4, 5] (if win = 0 then [] else [win])

end Sys2Proof.Machine
end

