-- ==== Sys2Proof/Machine/Belvedere.lean ====
section
/-! DEFINITION. Belvedere's services (spec/10_sensorless.md): estimators running and weights, the blend, the supervisor, hold and
loss of the rotor, the start-up service, flying restart, identification. -/

namespace Sys2Proof.Machine

/-! ### What runs in a period (R335 to R341) -/

/-- The axis runs Belvedere (R337, R352). -/
def State.runsBlv (s : State) (x : Axis) : Bool := s.axisOn x && (s.pos x == 0 || s.flag (F.MC_BLV_CTRL_OBS_PAR x))

/-- Speed of the open-loop ramp in electrical rad/s, in magnitude (R358). -/
def State.rampSpeed (s : State) (x : Axis) : Frac :=
  let top := s.radOf x (s.paramQ x 0x0A19 (0, 1))
  let w := qMul (s.radOf x (s.paramQ x 0x0A18 (100, 1))) (s.sv x).stT
  if qLt top w then top else w

/-- START after DC: the open-loop ramp (R358). -/
def State.onRamp (s : State) (x : Axis) : Bool := s.axState x == axSTART && (s.sv x).align == 1

/-- ω̂ in rpm (R337): the open-loop speed while it ramps (R358). -/
def State.omegaHat (s : State) (x : Axis) : Frac :=
  if s.onRamp x then s.rpmOf x (s.rampSpeed x) else fVal (s.sv x).omegaH

/-- S_HFI, S_FLUX and S_BEMF in rpm. -/
def State.sHfi (s : State) (x : Axis) : Frac := s.paramQ x 0x0A01 (0, 1)
@[inherit_doc State.sHfi] def State.sFlux (s : State) (x : Axis) : Frac := s.paramQ x 0x0A02 (0, 1)
@[inherit_doc State.sHfi] def State.sBemf (s : State) (x : Axis) : Frac := s.paramQ x 0x0A03 (0, 1)

/-- ALIGN by injection, which runs the HFI estimator on any axis (R355, R361). -/
def State.hfiAlign (s : State) (x : Axis) : Bool := s.axisOn x && s.axState x == axALIGN && (s.sv x).idCmd.isNone && (s.sv x).align == 2

/-- Identification test 2 injects (table 10.9). -/
def State.idInject (s : State) (x : Axis) : Bool := s.axisOn x && s.axState x == axALIGN && s.idTest x == 2

/-- Estimators that run at ω̂ (table 10.3), bits 0 BEMF, 1 FLUX, 2 HFI; in ALIGN by injection HFI in any case. -/
def State.estRun (s : State) (x : Axis) : Nat :=
  let w := s.omegaHat x
  let blv := s.runsBlv x
  b2n (blv && qLe (qDiv (s.sFlux x) (2, 1)) w) + 2 * b2n (blv && qLe (qDiv (s.sHfi x) (2, 1)) w) +
    4 * b2n (s.hfiAlign x || (blv && qLe w (qMul (5, 4) (s.sFlux x)) && s.injAvail x && !(s.sv x).susp &&
      s.fld (F.MC_BLV_STAT_SUP x) != 2))

/-- An injection voltage is applied in the period (R337, table 10.9). -/
def State.injects (s : State) (x : Axis) : Bool := bit (s.estRun x) 2 || s.idInject x

/-- Weight of a linear fall from 1 at a to 0 at b. -/
def linFall (a b w : Frac) : Frac :=
  if qLe w a then (1, 1) else if qLe b w then (0, 1) else qDiv (qSub b w) (qSub b a)

/-- R341: w_BEMF, w_FLUX, w_HFI. -/
def State.weights (s : State) (x : Axis) : Frac × Frac × Frac :=
  let w := s.omegaHat x
  let run := s.estRun x
  let h0 := linFall (s.sHfi x) (s.sFlux x) w
  let b0 := qSub (1, 1) (linFall (s.sFlux x) (s.sBemf x) w)
  let f0 := qSub (qSub (1, 1) h0) b0
  let noInj := !s.injAvail x || (s.sv x).susp
  let h := if bit run 2 then h0 else (0, 1)
  let b := if bit run 0 then b0 else (0, 1)
  let f := if bit run 1 then (if noInj then qAdd f0 h0 else f0) else (0, 1)
  (b, f, h)

/-- R335, R336: EXTRAP and the suspension of injection, judged from the current of the period. -/
def State.extrapJudge (s : State) (x : Axis) : State :=
  let lim := qMul (5, 4) (s.xTop x)
  let i := s.mapI x
  if (s.xTop x).2 = 0 then s
  else if qLt lim i then
    let s := s.modSv x (fun v => { v with susp := true })
    if s.flag (F.MC_BLV_STAT_EXTRAP x) then s
    else ((s.set (F.MC_BLV_STAT_EXTRAP x) 1).set (F.MC_BLV_EVT_EXTRAP_SEEN x) 1).evx x 7
  else
    let s := s.modSv x (fun v => { v with susp := false })
    if s.flag (F.MC_BLV_STAT_EXTRAP x) && qLe (s.sBemf x) (qAbs (fVal (s.word (F.MC_SPD_ACT x)))) then
      s.set (F.MC_BLV_STAT_EXTRAP x) 0
    else s

/-- R337, R340: the injection voltage along the estimated d axis: ±INJ_V, alternating every INJ_DIV / 2 periods in which injection is
applied, so that it resumes in the phase in which it stopped; 0 while none is applied. -/
def State.injVolt (s : State) (x : Axis) : Word :=
  let v := fOfFrac (s.paramQ x 0x0A04 (20, 1))
  if s.injects x then (if (s.sv x).hfiN / max 1 (s.paramN x 0x0A05 4 / 2) % 2 = 0 then v else fNeg v) else fZero

/-- R334, R337: the injection response, and the angle correction with the sign of iq, at the current of the period. -/
def State.hfiMap (s : State) (x : Axis) : Word × Word :=
  let i := s.mapI x
  let o := fOfFrac (qNorm (s.mapQ x 6 i))
  (fOfFrac (qNorm (s.mapQ x 5 i)), if fLt (s.iqMeas x) fZero then fNeg o else if fIsZero (s.iqMeas x) then fZero else o)

/-- BLV_STAT of a period: RUNNING, W in 1/31 (either neighbour where a weight is between two: free), INJ_ON; an estimator that
starts to run is to be seeded (R337), the injection voltage and what HFI looks up are those of the period, and the injection phase
advances while it is applied (R340). -/
def State.blvStatus (s : State) (x : Axis) : State :=
  let run := s.estRun x
  let old := s.fld (F.MC_BLV_STAT_RUNNING x)
  let w := s.weights x
  let q (s : State) (f : Frac) : Nat × State := s.wholeOf (qMul (31, 1) f)
  let b := q s w.1
  let f := q b.2 w.2.1
  let h := q f.2 w.2.2
  let inj := s.injects x
  let rev3 (m : Nat) : Nat := b2n (bit m 0) + 2 * b2n (bit m 1) + 4 * b2n (bit m 2)
  let s := (h.2.set (F.MC_BLV_STAT_W x) (b.1 * 2048 + f.1 * 32 + h.1)).set (F.MC_BLV_STAT_RUNNING x) (rev3 run)
  let s := s.setB (F.MC_BLV_STAT_INJ_ON x) inj
  let volt := s.injVolt x
  let m := s.hfiMap x
  let started (m i : Nat) : Nat := if bit run i && !bit old i then withBit m i true else m
  s.modSv x (fun v => { v with
    seed := started (started (started v.seed 0) 1) 2
    injV := volt
    hfiG := m.1
    hfiO := m.2
    hfiN := if inj then v.hfiN + 1 else v.hfiN })

/-- R337: ω̂ follows the magnitude of the output speed with a lag of 5 ms: its exact response over a period of `tp` seconds with the
speed held (log entry 27). -/
def State.hatStep (s : State) (x : Axis) (tp : Frac) : State :=
  let v := s.sv x
  let w := qAbs (s.rpmOf x (fVal v.omegaO))
  let old := fVal v.omegaH
  let k := qDiv (1, 1) (qExp (qMul tp (200, 1)))
  s.modSv x (fun v => { v with omegaH := fOfFrac (qNorm (qAdd w (qMul k (qSub old w)))) })

/-- Identification test 4 (table 10.9): a rotor above 0.5 × ID_SPD is slowed down to it first (step 0; DESIGN CHOICE, log entry 50), then it is
accelerated up to ID_SPD (step 1) and decelerated (step 2). -/
def State.idSpin (s : State) (x : Axis) : State :=
  let top := s.paramQ x 0x0A29 (0, 1)
  let w := qAbs (fVal (s.word (F.MC_SPD_ACT x)))
  s.modSv x (fun v =>
    let k := if v.idStep = 0 ∧ qLe (qMul (2, 1) w) top = true then 1 else v.idStep
    { v with idStep := if k = 1 ∧ qLe top w = true then 2 else k })

/-- Identification test 4: iq = ID_IQ while it accelerates, else −ID_IQ, neither beyond ID_I_MAX (R368). -/
def State.idIq (s : State) (x : Axis) : Word :=
  let lim := s.paramQ x 0x0A28 (0, 1)
  let q := s.paramQ x 0x0A2A (0, 1)
  let iq := fOfFrac (if qLt lim q then lim else q)
  if (s.sv x).idStep = 1 then iq else fNeg iq

/-- R368: a current of identification test 2, from 0 to ID_I_MAX: the order of its bias points and how long each lasts are not stated, so it is
free (log entry 68). -/
def State.idBias (s : State) (x : Axis) : Word × State :=
  let r := s.freshWord
  (fOfFrac (qNorm (qClamp (0, 1) (s.paramQ x 0x0A28 (0, 1)) (qAbs (fVal r.1)))), r.2)

/-- Tests 1 and 2 pass from their first step to their second: when is not stated (log entry 68). -/
def State.idSecond (s : State) (x : Axis) : State :=
  let r := s.freshBit
  r.2.modSv x (fun v => { v with idStep := if v.idStep = 1 ∨ r.1 = true then 1 else 0 })

/-- Identification test 2 (table 10.9): injection along d at a bias current along d, then along q, there with a bias only where the rotor is
locked: id and iq. -/
def State.idInjectStep (s : State) (x : Axis) : (Word × Word) × State :=
  let s := s.idSecond x
  let q := (s.sv x).idStep == 1
  let b := s.idBias x
  (if q then (fZero, if s.flag (F.MC_ID_CTRL_LOCKED x) then b.1 else fZero) else (b.1, fZero),
    b.2.modSv x (fun v => { v with injQ := q }))

/-- R356: the current of the first polarity pulse has decayed, the level not being stated (log entry 68); the second pulse begins. -/
def State.polDecay (s : State) (x : Axis) : State :=
  let r := s.freshBit
  if fIsZero (s.sv x).idM || r.1 then r.2.modSv x (fun v => { v with align := 4 }) else r.2

/-- The output of Belvedere while the supervisor is in HOLD: it advances at ω_t (R346). -/
def State.holdStep (s : State) (x : Axis) (tp : Frac) : State :=
  if (s.sv x).frozen || s.fld (F.MC_BLV_STAT_SUP x) == 2 then
    s.modSv x (fun v => { v with thetaO := fAngle (qWrap (qAdd (fVal v.thetaO) (qMul (fVal v.omegaT) tp))), omegaO := v.omegaT })
  else s

/-- A service holds the currents id and iq along and across an angle, which is θ unless a trusted sensor gives it (R353). -/
def State.framePut (s : State) (x : Axis) (th id_ iq : Word) : State :=
  ((if s.sensorTrusted x then s else s.setW (F.MC_X_THETA x) th).modSv x (fun v => { v with thF := th })).refPut x id_ iq

/-- The voltages that a service applies reach the bridge. -/
def State.forcePut (s : State) (x : Axis) : State :=
  match s.forced x with
  | some u => (s.modSv x (fun v => { v with vda := u.1, vqa := u.2 })).dqPut x
  | none => s

/-- The fixed frames that the services hold: the held vector that advances at ω_t (R346), alignment (R354) with the voltages of injection
and of the polarity pulses (R355, R356), the currents of identification (table 10.9), the open-loop ramp (R358, written as iq = d ×
RAMP_I on θ_ol), and the angle a stop ended at (R318). -/
def State.frameStep (s : State) (x : Axis) (tp : Frac) : State :=
  let v := s.sv x
  let half := qDiv qPi (2, 1)
  let back := fAngle (qWrap (qAdd (fVal v.thetaH) qPi))
  if v.frozen then s.forcePut x
  else match s.axState x with
  | 2 =>
    if v.align = 1 ∧ v.idCmd = none then
      let t := s.paramQ x 0x0A12 (1, 2)
      let i := s.paramQ x 0x0A11 (0, 1)
      let part := if t.1 = 0 then (1, 1) else qClamp (0, 1) (1, 1) (qDiv (qMul (4, 1) v.stT) t)
      if qLt (qMul (2, 1) v.stT) t then s.framePut x (fOfFrac (qNeg half)) (fOfFrac (qNorm (qMul i part))) fZero
      else s.framePut x fZero (fOfFrac i) fZero
    else if v.align = 2 then (s.framePut x (s.word (F.MC_X_THETA x)) fZero fZero).forcePut x
    else if v.align = 3 then (s.framePut x v.thetaH fZero fZero).forcePut x
    else if v.align = 4 then (s.framePut x back fZero fZero).forcePut x
    else if v.align = 5 then ((s.polDecay x).framePut x back fZero fZero).forcePut x
    else if s.idTest x = 2 then
      let r := s.idInjectStep x
      r.2.framePut x (s.word (F.MC_X_THETA x)) r.1.1 r.1.2
    else if s.idTest x = 1 then
      let i := s.paramQ x 0x0A28 (0, 1)
      let s := s.idSecond x
      s.framePut x fZero (fOfFrac (qNorm (if (s.sv x).idStep = 1 then i else qDiv i (2, 1)))) fZero
    else s
  | 3 =>
    if v.align = 1 then
      let w := s.rampSpeed x
      let d := qMul w tp
      let th := fAngle (qWrap (qAdd (fVal v.thetaOl) (if v.dirNeg then qNeg d else d)))
      let i := fOfFrac (s.paramQ x 0x0A17 (0, 1))
      (s.framePut x th fZero (if v.dirNeg then fNeg i else i)).modSv x (fun v => { v with thetaOl := th })
    else if s.idTest x = 4 then
      let s := s.idSpin x
      s.refPut x fZero (s.idIq x)
    else s
  | 6 => s.framePut x v.stopAng (fOfFrac (s.paramQ x 0x090F (0, 1))) fZero
  | _ => s

/-- R350: a fault of any class during HOLD ends the hold: with a fault that has no safe state the axis goes on (log entry 51). -/
def State.holdFault (s : State) (x : Axis) : State :=
  let hit := (s.ax x).hit
  let s := s.modAx x (fun a => { a with hit := false })
  if hit = true ∧ s.fld (F.MC_BLV_STAT_SUP x) = 2 then (s.set (F.MC_BLV_STAT_SUP x) 0).holdEnd x else s

/-- X_THETA follows the axis's source: in every state while a sensor is trusted (R353, R410), in RUN and STOPPING, in START after injection
(R357) and in identification, and with a held vector (R346). -/
def State.thetaShow (s : State) (x : Axis) : Bool :=
  s.sensorTrusted x || s.axState x == 4 || s.axState x == 5 ||
    (s.axState x == 3 && (decide (2 ≤ (s.sv x).align) || (s.sv x).idCmd.isSome)) || (s.sv x).frozen

/-- A service holds the currents on a frame of its own, which is not θ: ALIGN, BRAKE and the open-loop ramp. -/
def State.frameHeld (s : State) (x : Axis) : Bool :=
  s.axState x == axALIGN || s.axState x == axBRAKE || (s.axState x == axSTART && (s.sv x).align == 1)

/-- Belvedere rests: no estimator runs and nothing is injected. -/
def State.blvRest (s : State) (x : Axis) : State :=
  (((s.set (F.MC_BLV_STAT_RUNNING x) 0).set (F.MC_BLV_STAT_W x) 0).set (F.MC_BLV_STAT_INJ_ON x) 0).modSv x (fun v => { v with injV := fZero })

/-- What the services do as a period of `tp` seconds begins, before its graph is released. -/
def State.servicePeriod (s : State) (x : Axis) (tp : Frac) : State :=
  let s := (s.holdFault x).modSv x (fun v => { v with stT := qNorm (qAdd v.stT tp), clip := false })
  let s := (s.hatStep x tp).modSv x (fun v => { v with injQ := false })
  let s := (s.holdStep x tp).frameStep x tp
  let s := if s.axisOn x then (s.extrapJudge x).setB (F.MC_BLV_STAT_INJ_AVAIL x) (s.injAvail x) else s
  let s := if s.runsBlv x || s.injects x then s.blvStatus x else s.blvRest x
  let s := s.folOver x
  let s := if s.folPoint x = 2 then s else s.folStep x
  let s := if s.thetaShow x then s.setW (F.MC_X_THETA x) (s.thetaNow x) else s
  let s := if s.frameHeld x then s else s.modSv x (fun v => { v with thF := s.word (F.MC_X_THETA x) })
  (s.posAccumulate x).inPosJudge x

/-! ### The blend (R342, R344, R352, R274) -/

/-- R342: θ_out and ω_out of a period of tp seconds, from angles, speeds and weights of BEMF, FLUX and HFI; ref and every angle are
reduced as WRAP does. -/
def blendOut (th om w : List Word) (thPrev omPrev tp slew : Word) : Word × Word :=
  let ref := fWrap (fAdd thPrev (fMul omPrev tp))
  let ks := List.range 3
  let sum := ks.foldl (fun a k => fAdd a (fMul (nth fZero w k) (fWrap (fSub (nth fZero th k) ref)))) fZero
  let mix := fWrap (fAdd ref sum)
  let om' := ks.foldl (fun a k => fAdd a (fMul (nth fZero w k) (nth fZero om k))) fZero
  let step := fWrap (fSub mix ref)
  (fWrap (fAdd ref (fClamp (fNeg slew) slew step)), om')

/-- R344: the largest difference in angle of two running estimators. -/
def disagreement (th : List Word) (run : Nat) : Word :=
  [(0, 1), (0, 2), (1, 2)].foldl (fun m e =>
    if bit run e.1 && bit run e.2 then fMax m (fAbs (fWrap (fSub (nth fZero th e.1) (nth fZero th e.2)))) else m) fZero

/-- The angle of an axis's trusted sensor. -/
def State.sensorTheta (s : State) (x : Axis) : Option Word :=
  match s.hallSet x, s.encSet x with
  | some h, _ => if s.flag (F.HAH_HALL_ST_INVALID h) then none else some (s.hallNow x h)
  | none, some e =>
    some (fAngle (qWrap (qAdd (qMul (s.poles x) (qWrap (s.encAngle x e))) (if (s.sv x).encOn then fVal (s.sv x).encC else (0, 1)))))
  | none, none => none

/-- The sensor is trusted, or is an encoder that R274 may make so. -/
def State.agreeJudged (s : State) (x : Axis) : Bool :=
  match s.hallSet x, s.encSet x with
  | some h, _ => !s.flag (F.HAH_HALL_ST_INVALID h)
  | none, some e => s.flag (F.HAH_ENC_ST_TRUSTED e) || !s.flag (F.HAH_ENC_ST_ZSEEN e)
  | none, none => false

/-- R352: AGREE after REACQ_CYC cycles of agreement with the supervisor NORMAL; an encoder that agrees becomes TRUSTED (R274). -/
def State.agreeStep (s : State) (x : Axis) (tp : Frac) : State :=
  if s.pos x ≠ 0 ∧ s.flag (F.MC_BLV_CTRL_OBS_PAR x) = true ∧ s.agreeJudged x = true then
    match s.sensorTheta x with
    | none => s
    | some th =>
      let v := s.sv x
      let ok := fLe (fAbs (fWrap (fSub th v.thetaO))) (s.latWord x (F.MC_X_DIS_BAND x)) && s.fld (F.MC_BLV_STAT_SUP x) == 0
      if ok then
        let c := qNorm (qAdd v.agree (qDiv (qMul (qAbs (fVal v.omegaO)) tp) q2Pi))
        let s := s.modSv x (fun v => { v with agree := c })
        if qLe (s.paramQ x 0x0A0D (8, 1)) c then
          let s := s.set (F.MC_BLV_STAT_AGREE x) 1
          match s.encSet x with
          | some e => s.set (F.HAH_ENC_ST_TRUSTED e) 1
          | none => s
        else s
      else (s.modSv x (fun v => { v with agree := (0, 1) })).set (F.MC_BLV_STAT_AGREE x) 0
  else s

/-- What a run of BLEND in a graph of the axis adds: the estimators' angles, the output (held in HOLD, R346), the disagreement, the
agreement. -/
def State.blendDone (s : State) (x : Axis) (th : List Word) (out : Word × Word) : State :=
  let s := ((s.setW (F.MC_X_THETA_B x) (nth 0 th 0)).setW (F.MC_X_THETA_F x) (nth 0 th 1)).setW (F.MC_X_THETA_H x) (nth 0 th 2)
  let s := s.setW (F.MC_X_DISAGREE x) (disagreement th (s.fld (F.MC_BLV_STAT_RUNNING x)))
  let s := if s.fld (F.MC_BLV_STAT_SUP x) = 2 then s else s.modSv x (fun v => { v with thetaO := out.1, omegaO := out.2 })
  s.agreeStep x (s.tpQ x (s.fld (F.PW_PERIOD_EFF_TICKS x)))

/-! ### The supervisor (R345 to R350) -/

/-- The supervisor runs (R345): in START, once the hand-over has begun, which after injection is from its first period (R357). -/
def State.supervised (s : State) (x : Axis) : Bool :=
  let st := s.axState x
  s.runsBlv x && ((decide (4 ≤ st) && decide (st ≤ 6)) || (st == 3 && decide (2 ≤ (s.sv x).align)))

/-- R344: the period is bad. -/
def State.badPeriod (s : State) (x : Axis) : Bool :=
  fLt (s.latWord x (F.MC_X_DIS_BAND x)) (s.word (F.MC_X_DISAGREE x)) || fLt (s.latWord x (F.MC_X_RES_BAND x)) (fAbs (s.word (F.MC_X_RESID x)))

/-- SUPERVISOR_EVALUATE: the supervisor judges a period (table 10.4); the conditions that time ends are commands of their own. -/
def State.supervise (s : State) (x : Axis) : State :=
  if s.supervised x then
    let v := s.sv x
    let bad := s.badPeriod x
    let d := qDiv (qMul (qAbs (fVal v.omegaT)) (s.tpQ x (s.fld (F.PW_PERIOD_EFF_TICKS x)))) q2Pi
    match s.fld (F.MC_BLV_STAT_SUP x) with
    | 0 =>
      if bad then
        let s := ((s.set (F.MC_BLV_STAT_SUP x) 1).set (F.MC_BLV_EVT_SUSPECT x) 1).modSv x (fun v => { v with cyc := qNorm d })
        s.evx x 8
      else s.modSv x (fun v => { v with omegaT := v.omegaO, hold := (v.vda, v.vqa) })
    | 1 =>
      if bad then s.modSv x (fun v => { v with cyc := qNorm (qAdd v.cyc d) }) else s.set (F.MC_BLV_STAT_SUP x) 0
    | 2 => s.modSv x (fun v => { v with cyc := if bad then (0, 1) else qNorm (qAdd v.cyc d) })
    | _ => s
  else s

/-- R360: "start failed" with its detail. -/
def State.startBad (s : State) (x : Axis) (detail : Nat) : State :=
  let s := ((s.set (F.MC_START_DIAG_DETAIL x) detail).set (F.MC_BLV_EVT_START_FAIL x) 1).inc (F.MC_BLV_CNT_START_FAIL x)
  s.axisFault x 28 0 detail

/-- R360: a start fails at a slot 0 instant: the axis goes to SAFE (table 9.3). -/
def State.startFail (s : State) (x : Axis) (detail : Nat) : State := (s.startBad x detail).toSafe x

/-- R346: entry to HOLD; in START it fails the start (table 10.5), and the next slot 0 instant moves the axis to SAFE (R284). Every
compensator of an axis that runs on Belvedere is frozen; the estimators, those of a Belvedere that runs in parallel too (R352), are to be
seeded with the held angle and ω_t. -/
def State.holdEntry (s : State) (x : Axis) : State :=
  let s := (s.set (F.MC_BLV_STAT_SUP x) 2).modSv x (fun v => { v with cyc := (0, 1) })
  if s.axState x = axSTART then s.startBad x 5
  else
  let s := (s.set (F.MC_BLV_STAT_INJ_ON x) 0).modSv x (fun v => { v with omegaO := v.omegaT, seed := 7, injV := fZero })
  if s.onBelvedere x then
    let s := (s.modSv x (fun v => { v with vda := v.hold.1, vqa := v.hold.2, frozen := true })).dqPut x
    let s := s.modAx x (fun a => { a with hit := false })
    s.forEach (s.loopTrks x) (fun s a => s.putTrk (some a) 3 0)
  else s

/-- SUSPECT_TIMEOUT: bad periods for more than LOSS_CYC cycles, or for `us`, more than LOSS_TMAX (R345). -/
def execSuspectTimeout (x : Axis) (us : Nat) (s : State) : Host.Outcome State Fault Refusal :=
  .next (s.running (fun s =>
    if s.fld (F.MC_BLV_STAT_SUP x) = 1 ∧ s.supervised x = true ∧
        (qLt (s.paramQ x 0x0A0A (4, 1)) (s.sv x).cyc || qLt (s.paramQ x 0x0A0B (1, 5)) (us, 1000000)) = true then s.holdEntry x
    else s))

/-- R387 at the next release: the six loops are tracked to a current of the axis (R347, R359). -/
def State.selTrack (s : State) (x : Axis) (iq : Word) : State :=
  match (s.sv x).selTrk with
  | some a => s.forEach (List.range 6) (fun s k => s.putTrk (some (a + 8 * k)) 1 (if k = 0 then iq else fAbs iq))
  | none => s

/-- ROTOR_REACQUIRED: no bad period for REACQ_CYC cycles in HOLD: NORMAL, bumplessly (R345, R347). -/
def execRotorReacquired (x : Axis) (s : State) : Host.Outcome State Fault Refusal :=
  .next (s.running (fun s =>
    if s.fld (F.MC_BLV_STAT_SUP x) = 2 ∧ s.supervised x = true ∧ qLe (s.paramQ x 0x0A0D (8, 1)) (s.sv x).cyc = true then
      let s := ((s.set (F.MC_BLV_STAT_SUP x) 0).set (F.MC_BLV_EVT_REACQ x) 1).inc (F.MC_BLV_CNT_REACQ x)
      let s := if s.onBelvedere x then
          let v := s.sv x
          let s := s.holdEnd x
          let s := (s.putTrk v.trkD 1 (fSub v.hold.1 v.vdff)).putTrk v.trkQ 1 (fSub v.hold.2 v.vqff)
          (s.selTrack x (s.iqMeas x)).promPut x v.omegaO fZero
        else s
      s.evx x 9
    else s))

/-- ROTOR_LOST: REACQ_TIME has elapsed in HOLD (`us`): LOST, and for an axis that runs on Belvedere "rotor lost" with low ASC at or
above ω_fw and all-off below (R345, R348, R353). -/
def execRotorLost (x : Axis) (us : Nat) (s : State) : Host.Outcome State Fault Refusal :=
  .next (s.running (fun s =>
    if s.fld (F.MC_BLV_STAT_SUP x) = 2 ∧ s.supervised x = true ∧ s.reached x us 0x0A0C (1, 10) = true then
      let s := ((s.set (F.MC_BLV_STAT_SUP x) 3).evx x 10).holdEnd x
      if s.onBelvedere x then
        let s := (s.set (F.MC_BLV_EVT_LOST x) 1).inc (F.MC_BLV_CNT_LOST x)
        let high := fLe (s.omegaFw x) (fAbs (s.sv x).omegaT)
        (s.fault 27 (scAxis x) 0 0).chooseSafe x (if high then ssLOW else ssOFF) 6 4 true
      else s
    else s))

/-- EXTRAP_CLEAR_TIMEOUT: the demand of IM before the lowered limit has stayed at or below x_top for `us`, 100 ms or longer (R336). -/
def execExtrapClearTimeout (x : Axis) (us : Nat) (s : State) : Host.Outcome State Fault Refusal :=
  .next (s.running (fun s =>
    let t := s.xTop x
    if s.flag (F.MC_BLV_STAT_EXTRAP x) = true ∧ 100000 ≤ us ∧ t.2 ≠ 0 ∧ fLe (s.word (F.MC_X_IM_PRE x)) (fOfFrac t) = true then
      s.set (F.MC_BLV_STAT_EXTRAP x) 0
    else s))

/-- STALL: abs(iq_ref) at or above STALL_IQ and the speed at or below STALL_SPD for `us`, STALL_TIME or longer, in RUN (R351). -/
def execStall (x : Axis) (us : Nat) (s : State) : Host.Outcome State Fault Refusal :=
  .next (s.running (fun s =>
    let iq := s.paramQ x 0x0A1E (0, 1)
    if s.axState x = axRUN ∧ iq.1 ≠ 0 ∧ qLe iq (qAbs (fVal (s.sv x).iqRef)) = true ∧
        qLe (qAbs (fVal (s.word (F.MC_SPD_ACT x)))) (s.paramQ x 0x0A1F (5, 1)) = true ∧ s.reached x us 0x0A20 (2, 1) = true then
      (s.set (F.MC_BLV_EVT_STALL x) 1).axisFault x 29 0 0
    else s))

/-! ### The start-up service (R354 to R361) -/

/-- An angle has been found in ALIGN: a sensorless axis goes to START, a sensored one to RUN with it (R300, R361). -/
def State.alignFound (s : State) (x : Axis) (th : Word) : State :=
  let s := (s.setW (F.MC_X_THETA x) th).modSv x (fun v => { v with thetaO := th, omegaO := fZero, thetaOl := fZero, seed := 7 })
  match s.hallSet x, s.encSet x with
  | some _, _ => (s.modSv x (fun v => { v with th0 := th, thT := s.now, thHalf := true })).goto x axRUN
  | none, some e =>
    let s := if s.flag (F.HAH_ENC_ST_TRUSTED e) then s
      else
        let c := fAngle (qWrap (qSub (fVal th) (qMul (s.poles x) (qWrap (s.encAngle x e)))))
        s.modSv x (fun v => { v with encOn := true, encC := c })
    s.goto x axRUN
  | none, none => s.goto x axSTART

/-- ALIGN_COMPLETE: at a slot 0 instant DC alignment has lasted `us`, ALIGN_TIME or longer: the angle is taken as 0 (R282, R354). -/
def execAlignComplete (x : Axis) (us : Nat) (s : State) : Host.Outcome State Fault Refusal :=
  .next (s.running (fun s =>
    let r := s.evalFirst x
    let t := r.2
    if r.1 = true ∧ t.axState x = axALIGN ∧ (t.sv x).align = 1 ∧ (t.sv x).idCmd = none ∧ t.reached x us 0x0A12 (1, 2) = true then
      t.alignFound x fZero
    else t))

/-- INJECTION_ALIGN_COMPLETE: `cycles` injection cycles at standstill measured the saliency `sal` and the angle `th`, known except
for its sign: 64 judge it, at a slot 0 instant (R282, R355). -/
def execInjectionAlignComplete (x : Axis) (cycles : Nat) (sal th : Word) (s : State) : Host.Outcome State Fault Refusal :=
  .next (s.running (fun s =>
    let r := s.evalFirst x
    let t := r.2
    if r.1 = true ∧ t.axState x = axALIGN ∧ (t.sv x).align = 2 ∧ (t.sv x).idCmd = none ∧ 64 ≤ cycles then
      if qLe (t.paramQ x 0x0A16 (1, 20)) (fVal sal) then t.modSv x (fun v => { v with thetaH := fWrap th, align := 3 })
      else if t.startMethod x = 2 then t.modSv x (fun v => { v with align := 1, stT := (0, 1) })
      else t.startFail x 1
    else t))

/-- R356: the angle that the two pulse times name. -/
def polarity (th tP tN : Word) (pmin : Frac) : Option Word :=
  let k := qSub (1, 1) pmin
  if qLt (fVal tP) (qMul k (fVal tN)) then some th
  else if qLt (fVal tN) (qMul k (fVal tP)) then some (fAngle (qWrap (qAdd (fVal th) qPi)))
  else none

/-- POLARITY_PULSE_END: at a slot 0 instant a polarity pulse ends `us` after it began with abs(id) at `id_`, after the time `t` where it
reached POL_I, the first one to let the current decay; one that has not reached it within 2 ms fails (R282, R356). -/
def execPolarityPulseEnd (x : Axis) (id_ t : Word) (us : Nat) (s : State) : Host.Outcome State Fault Refusal :=
  .next (s.running (fun s =>
    let r := s.evalFirst x
    let s := r.2
    let v := s.sv x
    if r.1 = true ∧ s.axState x = axALIGN ∧ (v.align = 3 ∨ v.align = 4) ∧ v.idCmd = none then
      if qLe (s.paramQ x 0x0A13 (0, 1)) (qAbs (fVal id_)) && qLe (fVal t) (1, 500) then
        if v.align = 3 then s.modSv x (fun v => { v with tP := t, align := 5 })
        else match polarity v.thetaH v.tP t (s.paramQ x 0x0A15 (1, 20)) with
          | some th => s.alignFound x th
          | none => s.startFail x 2
      else if 2000 ≤ us then s.startFail x 3
      else s
    else s))

/-- R359: from the hand-over period the axis is Belvedere's: the stationary current vector is kept, Promenade starts from the
estimated speed, the selector tracks iq_ref. -/
def State.handOver (s : State) (x : Axis) : State :=
  let v := s.sv x
  let i := s.paramQ x 0x0A17 (0, 1)
  let half := qDiv qPi (2, 1)
  let phi := qAdd (fVal v.thetaOl) (if v.dirNeg then qNeg half else half)
  let a := qSub phi (fVal v.thetaO)
  let id0 := fOfFrac (qNorm (qMul i (qCos a)))
  let iq0 := fOfFrac (qNorm (qMul i (qSin a)))
  let s := s.modSv x (fun v => { v with idRef := id0, iqRef := iq0, ramp := some id0 })
  (s.setW (F.MC_X_IQ_REF x) iq0).selTrack x iq0

/-- START → RUN on Belvedere's angle and speed. -/
def State.startEnd (s : State) (x : Axis) : State :=
  let v := s.sv x
  let s := (s.setW (F.MC_X_THETA x) v.thetaO).setW (F.MC_X_OMEGA x) v.omegaO
  let s := (s.setW (F.MC_SPD_ACT x) (fOfFrac (qNorm (s.rpmOf x (fVal v.omegaO))))).set (F.MC_STATE_POS_TRUSTED x) 1
  s.goto x axRUN

/-- HANDOVER: at a slot 0 instant the condition of the hand-over has held for `us`, HO_TIME or longer: after INJECT the supervisor
NORMAL (R357), after DC RAMP_SPD reached and the speeds within HO_TOL (R282, R358, R359). -/
def execHandover (x : Axis) (us : Nat) (s : State) : Host.Outcome State Fault Refusal :=
  .next (s.running (fun s =>
    let r := s.evalFirst x
    let s := r.2
    let v := s.sv x
    if r.1 = true ∧ s.axState x = axSTART ∧ v.idCmd = none ∧ s.reached x us 0x0A1B (1, 20) = true then
      if 2 ≤ v.align then (if s.fld (F.MC_BLV_STAT_SUP x) = 0 then s.startEnd x else s)
      else
        let w := s.rampSpeed x
        let ol := if v.dirNeg then qNeg w else w
        let err := qAbs (s.rpmOf x (qSub (fVal v.omegaO) ol))
        if qLe (s.radOf x (s.paramQ x 0x0A19 (0, 1))) w && qLe err (s.paramQ x 0x0A1A (20, 1)) then (s.handOver x).startEnd x else s
    else s))

/-- START_TIMEOUT: at a slot 0 instant START has lasted `us`, longer than START_TIMEOUT (R282, R358). -/
def execStartTimeout (x : Axis) (us : Nat) (s : State) : Host.Outcome State Fault Refusal :=
  .next (s.running (fun s =>
    let r := s.evalFirst x
    let t := r.2
    if r.1 = true ∧ t.axState x = axSTART ∧ (t.sv x).idCmd = none ∧ qLt (t.paramQ x 0x0A1D (10, 1)) (us, 1000000) = true then
      t.startFail x 4
    else t))

/-! ### Flying restart (R362 to R366) -/

/-- Length and angle of a probe current. -/
def probeMag (i : Word × Word) : Frac := qSqrt (qAdd (qMul (fVal i.1) (fVal i.1)) (qMul (fVal i.2) (fVal i.2)))
@[inherit_doc probeMag] def probeAng (i : Word × Word) : Frac := qAtan2 (fVal i.2) (fVal i.1)

/-- R363: e_mag of a probe. -/
def State.probeEmf (s : State) (x : Axis) (i : Word × Word) : Frac :=
  qDiv (qMul (s.lq x (0, 1)) (probeMag i)) (s.paramQ x 0x0A21 (1, 50000))

/-- R363: the speed two probes give, in electrical rad/s. -/
def State.probeOmega (s : State) (x : Axis) (i j : Word × Word) : Frac :=
  qDiv (qWrap (qSub (probeAng j) (probeAng i))) (s.paramQ x 0x0A22 (1, 1000))

/-- Field-weakening current that a speed needs (R365), before the bound ID_FW_MIN. -/
def State.fwNeeded (s : State) (x : Axis) (w : Frac) : Frac :=
  let v := qDiv (qMul (fVal (s.word (F.MC_X_FW_MODMAX x))) (fVal (s.quant x 4))) (qSqrt (3, 1))
  if w.1 = 0 then (0, 1)
  else
    let i := qDiv (qSub (qDiv v (qAbs w)) (s.psi x)) (s.ld x (0, 1))
    if (s.ld x (0, 1)).1 = 0 ∨ qLt (0, 1) i = true then (0, 1) else i

/-- R364, table 10.7: the result of three probes. ω is that of the first two, e_mag / ψ that of the third (log entry 28). -/
def State.flyResult (s : State) (x : Axis) (p1 p2 p3 : Word × Word) : Nat :=
  let emin := s.paramQ x 0x0A23 (5, 1)
  let w := s.probeOmega x p1 p2
  let w2 := s.probeOmega x p2 p3
  let ratio := if (s.psi x).1 = 0 then (0, 1) else qDiv (s.probeEmf x p3) (s.psi x)
  let fw := s.omegaFw x
  if [p1, p2, p3].all (fun p => qLt (s.probeEmf x p) emin) then 1
  else if qLt (qMul (1, 10) (qAbs w)) (qAbs (qSub w w2)) || qLt (qMul (1, 4) (qAbs w)) (qAbs (qSub ratio (qAbs w))) then 2
  else if (s.flag (F.MC_MODE_FW_EN x) == false && fFinite fw && qLe (fVal fw) (qAbs w)) ||
      qLt (s.fwNeeded x w) (fVal (s.word (F.MC_X_FW_IDMIN x))) then 3
  else 4

/-- R365: the rotor is caught: RUN at θ and ω. -/
def State.flyCaught (s : State) (x : Axis) (c : Cmd) (p1 p2 p3 : Word × Word) : State :=
  let w := s.probeOmega x p1 p2
  let half := qDiv qPi (2, 1)
  let ang := qWrap (qAdd (probeAng p3) qPi)
  let th := fAngle (qWrap (if 0 < w.1 then qSub ang half else if w.1 < 0 then qAdd ang half else ang))
  let om := fOfFrac (qNorm w)
  let lo := fVal (s.word (F.MC_X_FW_IDMIN x))
  let need := s.fwNeeded x w
  let id0 := fOfFrac (qNorm (if qLt need lo then lo else need))
  let s := s.modSv x (fun v => { v with
    fly := 0, probes := [], thetaO := th, omegaO := om, omegaT := om, omegaM := om, seed := 15, iqRef := fZero })
  let s := ((s.setW (F.MC_X_ID_FW x) id0).setB (F.MC_STATE_FW_ACTIVE x) (fLt id0 fZero)).inc (F.MC_BLV_CNT_FLY x)
  ((s.setW (F.MC_X_IQ_REF x) fZero).startEnd x).startDone x c

/-- FLYING_RESTART_RESULT: the outcome of three probes (R364 to R366). -/
def State.flyDecide (s : State) (x : Axis) (c : Cmd) (p1 p2 p3 : Word × Word) : State :=
  let r := s.flyResult x p1 p2 p3
  let s := (s.set (F.MC_START_DIAG_FLY x) r).inc (F.MC_START_DIAG_TRIES x)
  if r = 1 then (s.modSv x (fun v => { v with fly := 0, probes := [] })).startEntry x c
  else if r = 4 then s.flyCaught x c p1 p2 p3
  else if s.paramN x 0x0A24 3 ≤ s.fld (F.MC_START_DIAG_TRIES x) then (s.set (F.MC_BLV_EVT_FLY_FAIL x) 1).failState x 30 r
  else s.modSv x (fun v => { v with fly := 2, probes := [] })

/-- FLYING_RESTART_PROBE: a probe has turned on the three low sides for FLY_PULSE, and its current was ia, ib in α, β (R362); the third
decides, at a slot 0 instant (R282). -/
def execFlyingRestartProbe (x : Axis) (ia ib : Word) (s : State) : Host.Outcome State Fault Refusal :=
  .next (s.running (fun s =>
    let r := s.evalFirst x
    let s := r.2
    match (s.ax x).startWait with
    | none => s
    | some c =>
      if r.1 = true ∧ (s.sv x).fly = 1 ∧ (s.axState x = axARMED ∨ s.axState x = axBRAKE) then
        let s := (s.command x (safeMask 1 + s.brakeCmd x)).command x (s.brakeCmd x)
        match (s.sv x).probes with
        | [p1, p2] => s.flyDecide x c p1 p2 (ia, ib)
        | l => s.modSv x (fun v => { v with probes := l ++ [(ia, ib)] })
      else s))

/-- FLY_RETRY: all channels have been off for `us`, FLY_WAIT or longer, after a result without a decision: the probes repeat (R366). -/
def execFlyRetry (x : Axis) (us : Nat) (s : State) : Host.Outcome State Fault Refusal :=
  .next (s.running (fun s =>
    if (s.sv x).fly = 2 ∧ s.reached x us 0x0A25 (1, 1) = true then s.modSv x (fun v => { v with fly := 1 }) else s))

/-! ### Identification (R367 to R371) -/

/-- R369: y of a point of the staged body. LD, LQ and HFI_GAIN lie at the bias currents of test 2; RS and PSI are straight lines through
the measured value at ID_TEMP with the relative slopes RS_TC and PSI_TC. -/
def State.idPoint (s : State) (x : Axis) (id : Nat) (i : Nat) (p : Word × Word) : Word × Word :=
  let v := s.sv x
  let pts := v.idPts
  let at_ : Word × Word × Word × Word := nth (nth (p.1, p.2, p.2, p.2) pts (pts.length - 1)) pts i
  let zero : Word × Word × Word × Word := nth at_ pts 0
  let line (y0 tc : Frac) : Word × Word :=
    let dt := qSub (fVal p.1) (fVal (s.word (F.MC_ID_TEMP x)))
    (p.1, fOfFrac (qNorm (qMul y0 (qAdd (1, 1) (qMul tc dt)))))
  if (id = 1 ∨ id = 2 ∨ id = 5) ∧ bit v.idDone 1 = true ∧ pts ≠ [] then
    (at_.1, if id = 1 then at_.2.1 else if id = 5 then at_.2.2.2
      else if s.flag (F.MC_ID_CTRL_LOCKED x) then at_.2.2.1 else zero.2.2.1)
  else if id = 3 ∧ bit v.idDone 0 = true then line (fVal (s.word (F.MC_ID_RS x))) (s.paramQ x 0x0A26 (393, 100000))
  else if id = 4 ∧ bit v.idDone 2 = true then line (fVal (s.word (F.MC_ID_PSI x))) (s.paramQ x 0x0A27 (-12, 10000))
  else p

/-- IDENTIFICATION_STAGE: a complete body for the MAP section at index SECT is written to the staging area, and STAGED set (R369). -/
def State.idStage (s : State) (x : Axis) : State :=
  match s.img.sects[s.fld (F.MC_ID_CTRL_SECT x)]? with
  | some c =>
    if c.typ = 4 ∧ c.owner = x.ix then
      let dst := s.img.stageBase
      let s := s.copyOver dst c.base c.len
      let s := s.forEach (List.range (c.len / 80)) (fun s r =>
        let a := dst + 80 * r
        let id := s.ld16 a
        s.forEach (List.range (s.byte (a + 3)).toNat) (fun s i =>
          let p := s.idPoint x id i (s.ld32 (a + 4 + 8 * i), s.ld32 (a + 8 + 8 * i))
          s.svcWrite (a + 4 + 8 * i) [p.1, p.2]))
      s.set (F.MC_ID_STAT_STAGED x) 1
    else s
  | none => s

/-- R367: identification is over: Kegon issues STOP with the tag of the START. -/
def State.idEnd (s : State) (x : Axis) (result : Nat) : State :=
  let c := (s.sv x).idCmd
  let s := (s.set (F.MC_ID_STAT_RESULT x) result).modSv x (fun v => { v with idCmd := none })
  let stage := s.flag (F.MC_ID_CTRL_STAGE x) && (s.sv x).idDone != 0
  let s := if stage then s.idStage x else s
  match c with
  | some c => s.cmdArrive x { code := cmSTOP, tag := c.tag, src := c.src, slot := none }
  | none => s

/-- Below table 10.9: a rotor that does not reach 0.5 × ID_SPD within 10 s in test 3 or 4 ends the test as ABORTED: judged as each period of `tp`
seconds begins. -/
def State.idWatch (s : State) (x : Axis) (tp : Frac) : State :=
  if 3 ≤ s.idTest x then
    let half := qLe (s.paramQ x 0x0A29 (0, 1)) (qMul (2, 1) (qAbs (fVal (s.word (F.MC_SPD_ACT x)))))
    let s := s.modSv x (fun v => { v with idReach := v.idReach || half, idT := qNorm (qAdd v.idT tp) })
    if !(s.sv x).idReach && qLe (10, 1) (s.sv x).idT then s.idEnd x 3 else s
  else s

/-- Table 10.9: the results of a test from its measurements `m`: test 1 v1, i1, v2, i2; test 3 the averaged ψ; test 4 Te, a_up and
a_down. Test 2 gives bias current, Ld, Lq and the injection response of each point. -/
def State.idResult (s : State) (x : Axis) (test : Nat) (m : List Word) (pts : List (Word × Word × Word × Word)) (temp : Word) :
    State :=
  let f (i : Nat) : Word := nth fZero m i
  match test with
  | 1 => (s.setW (F.MC_ID_RS x) (fDiv (fSub (f 2) (f 0)) (fSub (f 3) (f 1)))).setW (F.MC_ID_TEMP x) temp
  | 2 =>
    let p := nth (fZero, fZero, fZero, fZero) pts 0
    ((s.setW (F.MC_ID_LD0 x) p.2.1).setW (F.MC_ID_LQ0 x) p.2.2.1).modSv x (fun v => { v with idPts := pts })
  | 3 => s.setW (F.MC_ID_PSI x) (f 0)
  | _ =>
    let j := fDiv (fMul 0x40000000#32 (f 0)) (fSub (f 1) (f 2))
    (s.setW (F.MC_ID_J x) j).setW (F.MC_ID_TLOAD x) (fDiv (fMul (fNeg j) (fAdd (f 1) (f 2))) 0x40000000#32)

/-- R368: a test's result needs more current than ID_I_MAX: a bias point of test 2, or the current ID_IQ of test 4. -/
def State.idBeyond (s : State) (x : Axis) (test : Nat) (pts : List (Word × Word × Word × Word)) : Bool :=
  let lim := s.paramQ x 0x0A28 (0, 1)
  (test == 2 && pts.any (fun p => qLt lim (qAbs (fVal p.1)))) || (test == 4 && qLt lim (s.paramQ x 0x0A2A (0, 1)))

/-- IDENTIFICATION_TEST_END: at a slot 0 instant the running test ends: 2 passed with its measurements, 3 ABORTED, 4 OUT_OF_LIMIT, which
a result beyond the bounds gives too; the next selected test or the STOP follows (R282, R367, R368). -/
def execIdentificationTestEnd (x : Axis) (outcome : Nat) (m : List Word) (pts : List (Word × Word × Word × Word)) (temp : Word)
    (s : State) : Host.Outcome State Fault Refusal :=
  .next (s.running (fun s =>
    let r := s.evalFirst x
    let s := r.2
    let t := s.fld (F.MC_ID_STAT_TEST x)
    let outcome := if outcome = 2 ∧ s.idBeyond x t pts = true then 4 else outcome
    if r.1 = true ∧ s.fld (F.MC_ID_STAT_RESULT x) = 1 ∧ (s.axState x = axALIGN ∨ s.axState x = axSTART) then
      if t = 0 then s.idEnd x 2
      else if outcome = 3 ∨ outcome = 4 then s.idEnd x outcome
      else if outcome = 2 then
        let s := (s.idResult x t m pts temp).modSv x (fun v => { v with idDone := withBit v.idDone (t - 1) true })
        let n := s.idNext x (t + 1)
        if n = 0 then s.idEnd x 2
        else
          let s := (s.set (F.MC_ID_STAT_TEST x) n).idFresh x
          if 3 ≤ n ∧ s.axState x = axALIGN then s.goto x axSTART else s
      else s
    else s))

/-! ### BLV_CTRL -/

/-- R370, R19, R677: a write of MCx.BLV_CTRL: it takes effect at the next start sequence, CNT_CLR at once. -/
def State.blvWrite (s : State) (by_ : Writer) (x : Axis) (w : Word) : State :=
  let put (s : State) (f : Fld) : State := s.setSh f (fieldOf f w)
  let m := fieldOf (F.MC_BLV_CTRL_START_METHOD x) w
  let dc := m != 1
  let inj := m == 1 || m == 2
  let ramp := s.hasParam x 0x0A17 && s.hasParam x 0x0A19
  let maps := s.hasParam x 0x0A13 && (s.mapAddr x 5).isSome && (s.mapAddr x 6).isSome
  let s := if fieldOf (F.MC_BLV_CTRL_CNT_CLR x) w = 1 then s.wr (A.MC_BLV_CNT x) 0 else s
  let s := s.forEach [F.MC_BLV_CTRL_LOSS_FLY x, F.MC_BLV_CTRL_OBS_PAR x, F.MC_BLV_CTRL_INJ_EN x] put
  let s := s.expert by_ x gSTART (fun s =>
    s.needs by_ (dc || inj) ((!dc || ramp) && (!inj || maps)) (fun s => put s (F.MC_BLV_CTRL_START_METHOD x)))
  s.expert by_ x gFLY (fun s => put s (F.MC_BLV_CTRL_FLY_EN x))

/-- BLV_CTRL_WRITE: a host write of MCx.BLV_CTRL. -/
def execBlvCtrlWrite (x : Axis) (w : Word) (s : State) : Host.Outcome State Fault Refusal :=
  .next (s.running (fun s => s.blvWrite .host x w))

end Sys2Proof.Machine
end

