-- ==== Sys2Proof/Machine/Sample.lean ====
section
/-! DEFINITION. Sample instants and ownership (spec/01_device_overview.md, R11 to R14, R19 to R26; R187 to R189, R217, R224,
R234): what a sample slot starts, latches and releases, and the write of MCx.OWN. -/

namespace Sys2Proof.Machine

/-! ### Ownership -/

/-- OWN_WRITE: a host write of MCx.OWN (R23, R24, R26). -/
def execOwnWrite (x : Axis) (w : Word) (s : State) : Host.Outcome State Fault Refusal :=
  .next (s.running (fun s => s.ownWrite x w))

/-! ### Sources that a sample instant latches -/

/-- R189, R195, R200: period of the interval that a graph of this sample instant serves. -/
def State.servedPeriod (s : State) (x : Axis) : Nat :=
  if s.twoUpd x && !(s.tb x).down then s.period x
  else
    let t := if s.flag (F.PW_STAT_PER_PENDING x) then s.periodWanted x else s.fld (F.PW_PERIOD_EFF_TICKS x)
    t + (match x with | .a => 0 | .b => (s.tb .b).extraNext)

/-- R189: the SAMPLE record: slot, stamp (low word first), T, H and carrier mode of the interval served (log entry 29). -/
def State.sampleRecord (s : State) (x : Axis) (n : Nat) : List Word :=
  let t := s.servedPeriod x
  [BitVec.ofNat 32 n, BitVec.ofNat 32 s.now, BitVec.ofNat 32 (s.now / 2 ^ 32), BitVec.ofNat 32 t,
    BitVec.ofNat 32 (s.fullScale x t), BitVec.ofNat 32 (s.fld (F.PW_CTRL_CARRIER x))]

/-- R13: the set-points latched for the period (log entry 29). -/
def State.hostRecord (s : State) (x : Axis) : List Word :=
  [s.word (F.MC_SPD_SET x), s.word (F.MC_TRQ_SET x), s.rd (A.MC_MODE x), (s.sv x).posNext.1, (s.sv x).posNext.2]

/-- The latest sinc2 values of an axis's data inputs, calibrated (table 5.3; log entry 29). -/
def State.fastRecord (s : State) (x : Axis) : List Word :=
  (List.range 4).map (fun q => s.valueOf x q (s.cal (4 * x.ix + q)) (nth 0 s.sns.fast (4 * x.ix + q), 1))

/-- The latest outputs of SP, BV, PW, TH and TT (table 5.3, R389; log entry 29). -/
def State.demandRecord (s : State) (x : Axis) : List Word :=
  [2, 3, 4, 5, 6].map (fun c => s.word (F.MC_C_X_OUT x c))

/-- R525: the TEMP record. -/
def State.tempRecord (s : State) : List Word :=
  [fOfFrac (s.tj, 4), BitVec.ofNat 32 (s.fld F.ORG_TJ_BAND),
    BitVec.ofNat 32 (s.fld F.ORG_STAT_THR_REQ + 2 * s.fld F.ORG_STAT_THR_ENF), 0]

/-- R217: quantities that no conversion carries are delivered as 0 with STALE, where a graph names them. -/
def State.unmapped (s : State) (x : Axis) : State :=
  s.forEach (List.range 6) (fun s q =>
    if s.ainOf x q = none ∧ (s.sigmaDelta x = true ∧ q < 4) = False ∧ (s.topo x = 1 ∧ q = 2) = False ∧
        s.namesSource x (q + 1) = true then
      s.putQuant x q (record fZero flSTALE 0 0)
    else s)

/-- Latch the registers and the records that a sample instant delivers (R13); in torque mode the torque current stands in place of SP's
output (R380). -/
def State.latchSources (s : State) (x : Axis) (n : Nat) : State :=
  let s := ((s.modSv x (fun v => { v with lat := s.regs, posLat := v.posNext })).torquePut x).putSrc x.ix 0 (s.sampleRecord x n)
  let s := s.putSrc x.ix 9 (s.fastRecord x)
  let s := s.putSrc x.ix 10 (s.demandRecord x)
  let s := s.putSrc x.ix 11 (s.hostRecord x)
  s.putSrc x.ix 12 s.tempRecord

/-! ### Release of the graphs -/

/-- R389: the outer-loop graphs of an axis are triggered every TRIG_ARG periods. -/
def State.outerRelease (s : State) (x : Axis) : State :=
  s.forEach (List.range s.img.graphs.length) (fun s g =>
    match s.graphD g with
    | some d =>
      if d.axis = x.ix ∧ d.trigger = 1 then
        let n := (((s.fab.divs.find? (fun e => e.1 == g)).map (·.2)).getD 0) + 1
        let due := decide (d.trigArg ≤ n)
        let s := s.modFab (fun b => { b with divs := (g, if due then 0 else n) :: b.divs.filter (fun e => !(e.1 == g)) })
        if due then s.signalGraph g else s
      else s
    | none => s)

/-- The written settings that wait for a slot 0 instant (R302, R328, R391, R400, R410). -/
def State.slotZero (s : State) (x : Axis) : State :=
  let s := ((s.modeTake x).loopTake x).takeDerived x
  if (s.sv x).home then s.homeNow x else s

/-- A period of the axis begins: the services act before its graphs are released (log entry 30). -/
def State.periodBegin (s : State) (x : Axis) : State :=
  let tp := s.tpQ x (s.fld (F.PW_PERIOD_EFF_TICKS x))
  ((s.modTb x (fun t => { t with begun := true })).servicePeriod x tp).idWatch x tp

/-- R499: VBUS above OV2 in two consecutive periods of the axis, which run from sample instant to sample instant; the cause that it or the
signal gave ends once VBUS is not above OV2. -/
def State.ov2Check (s : State) (x : Axis) : State :=
  let high := qLt (s.paramQ x 0x0E03 (1200, 1)) (fVal (s.quant x 4))
  let was := (s.sv x).ov2N
  let s := s.modSv x (fun v => { v with ov2N := high })
  if high then
    if was && !(s.ax x).ov2 then (s.modAx x (fun a => { a with ov2 := true })).busOvFault x 2 else s
  else if (s.ax x).ov2 || was then
    (s.modAx x (fun a => { a with ov2 := false })).setCause (scAxis x) 4 (s.tr x).ovSig
  else s

/-- R189, R195: the effective period that a sample instant of slot n announces for the coming valley or wrap, and the period changes that
came before it; one that serves a peak announces none. -/
def State.announce (s : State) (x : Axis) (n : Nat) : State :=
  if s.twoUpd x && !(s.tb x).down then s
  else
    let p := if s.flag (F.PW_STAT_PER_PENDING x) then s.periodWanted x else s.fld (F.PW_PERIOD_EFF_TICKS x)
    s.modTb x (fun t => { t with ann := setNth (setNth t.ann n (some (p, t.changes))) 4 (some (p, t.changes)) })

/-- R187: slot n falls at tick `at_` of carrier time. -/
def State.slotFalls (s : State) (x : Axis) (n at_ : Nat) : Bool :=
  let e : Int := 65536 * (at_ : Int) - s.fld (F.PW_SAMP_POS x n) * s.period x
  decide (-32768 ≤ e) && decide (e ≤ 32768)

/-- SAMPLE_INSTANT: enabled slot n of an axis falls, at tick `at_` of carrier time, which is round(POS × T / 65536) (R187; either
of the two neighbours half way between them): services that took back groups in the period before apply their settings
(R25), the ownership written becomes active (R23, R24), at slot 0 the settings
that wait for it take effect, the first one of a period starts the period's services, the converters start the slot's
sequences (R234), the sinc3 paths deliver (R224; `captured`, per data input of the axis), the records are latched (R13, R189,
R279), the loops that are in are named to the selector and receive their inputs (R380), and the Bandstand is signalled the triggers of the slot's graphs (R11, R188) and of the outer-loop graphs that are due (R389). The first one after
RUNNING asks for a re-verify of the Grotto (R89). -/
def execSampleInstant (x : Axis) (n at_ : Nat) (captured : List (List Bool)) (s : State) : Host.Outcome State Fault Refusal :=
  .next (
    if n < 4 ∧ s.counts x = true ∧ s.flag (F.PW_SAMP_EN x n) = true ∧ s.slotFalls x n at_ = true then
      let first := !(s.tb x).begun
      let s := if bit s.otp.verify 0 then (s.modOtp (fun o => { o with verify := 2 })).grtShow else s
      let s := if first then s.ov2Check x else s
      let s := (if first then s.groupsReturn x else s).ownActivate x
      let s := if n = 0 then s.slotZero x else s
      let s := if first then s.periodBegin x else s
      let s := (s.latchSources x n).announce x n
      let s := (((s.slotOpen x n at_).seqBegin x n 0).seqBegin x n 1).sinc3 x n captured
      let s := (((((s.unmapped x).speedUpdate x).limitJudge x).maskPut x).loopInputs x).posDeliver x
      let s := s.forEach (s.graphsOn 0 n (some x.ix)) State.signalGraph
      if first then s.outerRelease x else s
    else s)

end Sys2Proof.Machine
end

