-- ==== Sys2Proof/Machine/Grotto.lean ====
section
/-! DEFINITION. The Grotto (spec/17_otp.md): cells and their readings, check words, counters, calibration slots, and the
programming operations with their pulses. -/

namespace Sys2Proof.Machine

/-- What an unlisted word of a Grotto store holds: nothing blown. -/
def otpZero (_ : Nat) : Word := 0

/-- Bits of a word that exist: reserved words and bits read 0 (R545). -/
def grtMask (a : Nat) : Word :=
  if a = 9 then 1#32
  else if (10 ≤ a ∧ a ≤ 15) ∨ (0x2A ≤ a ∧ a ≤ 0x3F) ∨ 0x80 ≤ a then 0#32
  else 0xFFFFFFFF#32

/-- What a copy of a word reads at reference k of table 17.1. -/
def State.cellAt (s : State) (copy k a : Nat) : Word :=
  cget otpZero (if copy = 0 then s.otp.cells0 else s.otp.cells1) (8 * a + k)

/-- Number of the tight reference of the present band (table 17.1). -/
def State.tightRef (s : State) : Nat := 1 + min 4 (s.fld F.ORG_TJ_BAND)

/-- What a copy of a word reads, at the tight threshold of the present band or at the normal one (R540). -/
def State.cell (s : State) (copy : Nat) (tight : Bool) (a : Nat) : Word :=
  s.cellAt copy (if tight then s.tightRef else 0) a &&& grtMask a

/-- Set what a copy of a word reads at a reference. -/
def State.setCell (s : State) (copy k a : Nat) (w : Word) : State :=
  s.modOtp (fun o =>
    if copy = 0 then { o with cells0 := cset otpZero o.cells0 (8 * a + k) w }
    else { o with cells1 := cset otpZero o.cells1 (8 * a + k) w })

/-- R540: the used value of a word. -/
def State.used (s : State) (a : Nat) : Word := s.cell 0 false a ||| s.cell 1 false a

/-- R541: weak bits of a word. -/
def State.weakBits (s : State) (a : Nat) : Word :=
  (s.cell 0 false a ^^^ s.cell 1 false a) ||| (s.cell 0 false a ^^^ s.cell 0 true a) |||
    (s.cell 1 false a ^^^ s.cell 1 true a)

/-- The latched value of a word (R542), and its expected value (R543). -/
def State.latched (s : State) (a : Nat) : Word := cget otpZero s.otp.latched a
@[inherit_doc State.latched] def State.expected (s : State) (a : Nat) : Word := s.latched a ||| cget otpZero s.otp.blown a

/-- The readings that a read finds replace those before: a cell may read otherwise at another temperature (R540). -/
def State.otpRead (s : State) (l : List GrtRead) : State :=
  s.forEach l (fun s r =>
    s.forEach (List.range 6) (fun s k => (s.setCell 0 k r.addr (nth 0 r.copy0 k)).setCell 1 k r.addr (nth 0 r.copy1 k)))

/-- Set bits of a word. -/
def countOnes (w : Word) : Nat := (List.range 32).foldl (fun n i => n + b2n (bit w.toNat i)) 0

/-- R542, R544: GRT.WEAK, WEAK_SEEN, and the lowest word that holds a weak bit. -/
def State.weakFind (s : State) : State × Option Nat :=
  let n := (List.range 128).foldl (fun n a => n + countOnes (s.weakBits a)) 0
  let first := (List.range 128).find? (fun a => !(s.weakBits a == 0))
  let s := (s.set F.GRT_WEAK_COUNT (min 255 n)).set F.GRT_WEAK_FIRST (first.getD 0)
  (if first.isSome then s.set F.GRT_STAT_WEAK_SEEN 1 else s, first)

/-! ### Check words (R546, R547) -/

/-- CRC-16 of a byte string: polynomial 0x1021, initial value 0xFFFF, most significant bit first (R547). -/
def crc16 (l : List Byte) : Nat :=
  l.foldl (fun c b =>
    (List.range 8).foldl (fun c i =>
      let top := bit c 15 != bit b.toNat (7 - i)
      let c := c * 2 % 65536
      if top then c ^^^ 0x1021 else c) c) 0xFFFF

/-- The check word over some words, least significant byte first (R546). -/
def checkWord (l : List Word) : Word :=
  let c := crc16 (l.flatMap wordBytes)
  BitVec.ofNat 32 ((0xFFFF - c) * 65536 + c)

/-- The key words, and whether the key is valid (R548), as values of a reading of the Grotto. -/
def keyWords (v : Nat → Word) : List Word := (List.range 8).map v
@[inherit_doc keyWords] def keyValid (v : Nat → Word) : Bool := v 8 == checkWord (keyWords v)

/-! ### Counters (R552) -/

/-- First word and number of steps of a counter (table 17.2). -/
def ctrBase (k : Nat) : Nat := nth 0 [0x10, 0x12, 0x1A, 0x22, 0x26] k
@[inherit_doc ctrBase] def ctrSteps (k : Nat) : Nat := nth 0 [64, 255, 255, 127, 127] k

/-- R552: value of a counter: its highest step that reads 1, plus one. -/
def ctrValue (v : Nat → Word) (k : Nat) : Nat :=
  (List.range (ctrSteps k)).foldl (fun n i => if bit (v (ctrBase k + i / 32)).toNat (i % 32) then i + 1 else n) 0

/-- GRT.COUNT field of a counter. -/
def countFld (k : Nat) : Fld :=
  if k = 1 then F.GRT_COUNT_HS_A else if k = 2 then F.GRT_COUNT_HS_B else if k = 3 then F.GRT_COUNT_THERM else F.GRT_COUNT_FATAL

/-- GRT.COUNT and GRT.STAT.SAT show the expected values (R543, R555). -/
def State.showCounters (s : State) : State :=
  s.forEach (List.range 5) (fun s k =>
    let v := ctrValue s.expected k
    let s := if k = 0 then s else s.set (countFld k) v
    s.setBit F.GRT_STAT_SAT k (v == ctrSteps k))

/-! ### Calibration slots (R556, R559) -/

/-- State of a slot: 0 EMPTY, 1 VALID, 2 BROKEN (R556). -/
def slotState (v : Nat → Word) (n : Nat) : Nat :=
  let w := (List.range 16).map (fun i => v (0x40 + 16 * n + i))
  if w.all (· == 0) then 0
  else if nth 0 w 15 == checkWord (w.take 15) then 1 else 2

/-- R559: the slot a COMMIT goes to; none where slot 3 is not EMPTY. -/
def commitTarget (v : Nat → Word) : Option Nat :=
  if slotState v 3 ≠ 0 then none
  else if slotState v 2 ≠ 0 then some 3
  else if slotState v 1 ≠ 0 then some 2
  else some 1

/-- GRT.STAT's slot states, NEXT and FULL (table 17.5). -/
def State.showSlots (s : State) : State :=
  let t := commitTarget s.used
  ((s.set F.GRT_STAT_SLOTS ((List.range 4).foldl (fun m n => m + slotState s.used n * 4 ^ n) 0)).set F.GRT_STAT_NEXT
    (t.getD 0)).setB F.GRT_STAT_FULL t.isNone

/-- R559: the live values, as slot words 0 to 14 (table 17.3). -/
def State.liveWords (s : State) : List Word :=
  (List.range 10).map (fun n => s.rd (A.SNS_CAL n)) ++
    [BitVec.ofNat 32 (s.fld F.ORG_CAL_OFS), s.rd (A.STC_TRIM .a), s.rd (A.STC_TRIM .b), 0, 0]

/-! ### Pulses (R562 to R564) -/

/-- Outcome of a part of an operation: it goes on, it ends with a RESULT code of table 17.8, or it is in progress still. -/
inductive Blow where
  | ok
  | fail (result : Nat)
  | more
deriving DecidableEq, Repr

/-- R562: window of a quantity: VQPS, VDD08, VDD33 in µV, TJ in 0.001 °C. -/
def pulseWindow (q : Nat) : Int × Int :=
  nth (0, 85000) [(2450000, 2550000), (776000, 824000), (3201000, 3399000), (0, 85000)] q

/-- A conversion's result lies in its quantity's window. -/
def convOk (c : Nat × Nat × Int) : Bool :=
  decide ((pulseWindow c.1).1 ≤ c.2.2) && decide (c.2.2 ≤ (pulseWindow c.1).2)

/-- R562: a pulse is refused: the latest conversion of a quantity is over 5 µs old, out of its window, or there is none. -/
def Pulse.refused (p : Pulse) : Bool :=
  (List.range 4).any (fun q =>
    match p.before.find? (fun c => c.1 == q) with
    | some c => decide (5000 < c.2.1) || !convOk c
    | none => true)

/-- A quantity goes unconverted for over 2 µs of the 10 µs that begin at 0 (R563). -/
def convGap (last : Nat) (l : List Nat) : Bool :=
  match l with
  | [] => decide (2000 < 10000 - last)
  | t :: r => decide (2000 < t - last) || convGap t r

/-- R563: a pulse is aborted: a result during it is out of its window, or a conversion is missing. -/
def Pulse.aborted (p : Pulse) : Bool :=
  p.during.any (fun c => !convOk c) ||
    (List.range 4).any (fun q => convGap 0 ((p.during.filter (fun c => c.1 == q)).map (·.2.1)))

/-- A cell reads 1 at the first n references of table 17.1, beside those at which it did (R539). -/
def State.cellTo (s : State) (copy a b n : Nat) : State :=
  s.forEach (List.range n) (fun s k => s.setCell copy k a (s.cellAt copy k a ||| BitVec.ofNat 32 (2 ^ b)))

/-- A pulse leaves a cell that reads 1 at a free number of references, from `lo` to `hi`. -/
def State.cellFree (s : State) (copy a b lo hi : Nat) : State :=
  let p := s.freshNat
  p.2.cellTo copy a b (lo + p.1 % (hi + 1 - lo))

/-- One pulse on a copy of a bit, and what it decides: the copy is strong, or the operation ends (R562 to R564); none: another pulse is due.
One that ends before its time leaves a cell that may read 0, weak or 1 (R563, R565). -/
def State.pulse (s : State) (copy a b : Nat) (p : Pulse) : State × Option Blow :=
  if p.refused then (s.fault 49 4 0 0, some (.fail 3))
  else if p.aborted then
    let s := (s.inc F.GRT_PROG_STAT_PULSES).cellFree copy a b 0 6
    let s := ((((s.set F.GRT_PROG_STAT_MARK 1).set F.GRT_PROG_STAT_MARK_COPY copy).set F.GRT_PROG_STAT_MARK_BIT b).set
      F.GRT_PROG_STAT_MARK_ADDR a)
    (s.fault 49 4 0 1, some (.fail 4))
  else
    let key := 64 * a + 2 * b + copy
    let n := (if s.otp.tries.1 = key then s.otp.tries.2 else 0) + 1
    let t := s.tightRef
    let s := (s.inc F.GRT_PROG_STAT_PULSES).modOtp (fun o => { o with tries := (key, n) })
    let s := if p.reads1 then s.cellFree copy a b (t + 1) 6 else s.cellFree copy a b 0 t
    if bit (s.cell copy true a).toNat b then (s, some .ok)
    else if 4 ≤ n then (s.modOtp (fun o => { o with tries := (0, 0) }), some (.fail 5))
    else (s, none)

/-- The copy is the one that pulses were last given to: its reading after the last of them was 0 (R564). -/
def State.midCopy (s : State) (copy a b : Nat) : Bool := s.otp.tries.1 == 64 * a + 2 * b + copy && s.otp.tries.2 != 0

/-- R564: blow one copy of a bit: no pulse where it is strong already; at most four pulses. -/
def State.blowCopy (s : State) (copy a b : Nat) (out : List Pulse) : State × Blow × List Pulse :=
  if !s.midCopy copy a b && bit (s.cell copy true a).toNat b then (s, .ok, out)
  else
    match out with
    | [] => (s, .more, [])
    | p :: r =>
      match s.pulse copy a b p with
      | (s, some e) => (s, e, r)
      | (s, none) => s.blowCopy copy a b r

/-- R564: a copy of the operation is finished: it is read no more. -/
def State.copyMade (s : State) : State := s.modOtp (fun o => { o with made := o.made + 1 })

/-- R564: the copies of a bit that are not finished yet; the bit is then verified (R543). -/
def State.blowBit (s : State) (a b : Nat) (out : List Pulse) : State × Blow × List Pulse :=
  match (if s.otp.made % 2 = 0 then s.blowCopy 0 a b out else (s, .ok, out)) with
  | (s, .ok, out) =>
    let s := if s.otp.made % 2 = 0 then s.copyMade else s
    match s.blowCopy 1 a b out with
    | (s, .ok, out) =>
      (s.copyMade.modOtp (fun o => { o with blown := cset otpZero o.blown a (cget otpZero o.blown a ||| BitVec.ofNat 32 (2 ^ b)) }),
        .ok, out)
    | r => r
  | r => r

/-- R564: bits in ascending order within a word, words in the order given. -/
def State.blowBits (s : State) (l : List (Nat × Nat)) (out : List Pulse) : State × Blow × List Pulse :=
  match l with
  | [] => (s, .ok, out)
  | (a, b) :: r =>
    match s.blowBit a b out with
    | (s, .ok, out) => s.blowBits r out
    | e => e

/-- The bits of words to blow. -/
def bitsOf (l : List (Nat × Word)) : List (Nat × Nat) :=
  l.flatMap (fun e => ((List.range 32).filter (fun b => bit e.2.toNat b)).map (fun b => (e.1, b)))

/-! ### Requests and operations (R561) -/

/-- The Grotto accepts programming operations (R561, R92). -/
def State.grtOpen (s : State) : Bool := s.isUp && (s.fld F.GH_BOOT_STATUS_STATE == 5 || s.fld F.GH_BOOT_STATUS_STATE == 6)

/-- R561: a request arrives: one of each source may wait behind the operation in progress. -/
def State.grtAsk (s : State) (r : GrtReq) : State :=
  if s.otp.queue.tail.any (fun q => q.src == r.src) then s
  else (s.modOtp (fun o => { o with queue := o.queue ++ [r] })).grtShow

/-- R561, R567: a write of GRT.PROG. -/
def State.progWrite (s : State) (w : Word) : State :=
  if s.grtOpen && fieldOf F.GRT_PROG_KEY w == 0x6A95 && fieldOf F.GRT_PROG_GO w == 1 then
    let op := fieldOf F.GRT_PROG_OP w
    s.grtAsk { src := 0, op := op, addr := fieldOf F.GRT_PROG_ADDR w, mask := s.rd A.GRT_PROG_DATA,
               live := if op = 2 then s.liveWords else [] }
  else s

/-- R566: the operation ends. -/
def State.grtEnd (s : State) (result : Nat) : State :=
  let src := match s.otp.queue with | r :: _ => r.src | [] => 0
  let s := s.modOtp (fun o => { o with queue := o.queue.tail, tries := (0, 0), made := 0 })
  let s := if src = 0 then s.set F.GRT_PROG_STAT_RESULT result else s
  let s := if result = 1 then s.set F.GRT_PROG_STAT_MARK 0 else s
  (s.showCounters.grtShow).event 101

/-- Some bridge of either axis is enabled. -/
def State.anyBridge (s : State) : Bool := s.bridgeOn .a || s.bridgeOn .b

/-- An operation begins: PULSES counts from 0. -/
def State.grtBegin (s : State) (r : GrtReq) : State :=
  (s.set F.GRT_PROG_STAT_PULSES 0).modOtp (fun o => { o with queue := r :: o.queue.tail, tries := (0, 0), made := 0 })

/-- An operation has begun: its OP is kept with 8 added while it runs. -/
def GrtReq.begun (r : GrtReq) : Bool := decide (8 ≤ r.op)

/-- Go on with an operation's words behind the copies that it has finished; DONE where all are verified. -/
def State.grtWords (s : State) (l : List (Nat × Word)) (out : List Pulse) : State :=
  match s.blowBits ((bitsOf l).drop (s.otp.made / 2)) out with
  | (s, .ok, _) => s.grtEnd 1
  | (s, .fail e, _) => s.grtEnd e
  | (s, .more, _) => s.grtShow

/-- The operation at the front, begun or not, where it is one of OP `op`. -/
def State.grtOp (s : State) (op : Nat) : Option GrtReq :=
  match s.otp.queue with
  | r :: _ => if r.op % 8 = op ∧ s.grtOpen = true then some r else none
  | [] => none

/-- R551, R560: a BLOW of these bits is refused with PROTECTED. -/
def State.blowProtected (s : State) (a : Nat) (mask : Word) : Bool :=
  ((decide (0x10 ≤ a) && decide (a ≤ 0x29)) || (decide (0x40 ≤ a) && decide (a ≤ 0x7F))) && !(mask &&& ~~~(s.expected a) == 0) ||
    (a == 9 && bit mask.toNat 0 && !s.flag F.GRT_STAT_KEY_VALID)

/-- BLOW: the operation BLOW runs, or goes on, through the pulses given (R560, R564). -/
def execBlow (out : List Pulse) (s : State) : Host.Outcome State Fault Refusal :=
  .next (
    match s.grtOp 1 with
    | none => s
    | some r =>
      if r.begun then s.grtWords [(r.addr, r.mask)] out
      else
        let s := s.grtBegin { r with op := 9 }
        if s.anyBridge then s.grtEnd 2
        else if s.blowProtected r.addr r.mask then s.grtEnd 6
        else s.grtWords [(r.addr, r.mask)] out)

/-- Words of a COMMIT to a slot: words 0 to 14, then the commit word (R559). -/
def commitWords (slot : Nat) (live : List Word) : List (Nat × Word) :=
  (List.range 15).map (fun i => (0x40 + 16 * slot + i, nth 0 live i)) ++ [(0x40 + 16 * slot + 15, checkWord (live.take 15))]

/-- COMMIT: the operation COMMIT runs, or goes on, through the pulses given (R559). -/
def execCommit (out : List Pulse) (s : State) : Host.Outcome State Fault Refusal :=
  .next (
    match s.grtOp 2 with
    | none => s
    | some r =>
      if r.begun then (s.grtWords (commitWords r.addr r.live) out).showSlots
      else
        let s := s.grtBegin { r with op := 10, addr := (commitTarget s.used).getD 0 }
        if s.anyBridge then s.grtEnd 2
        else match commitTarget s.used with
          | none => s.grtEnd 7
          | some t => (s.grtWords (commitWords t r.live) out).showSlots)

/-- R555: a counter has reached its last step. -/
def State.ctrFull (s : State) (k : Nat) : State := ((s.setBit F.GRT_STAT_SAT k true).fault 48 4 k 0).event 103

/-- R552: blow the next step of a counter. -/
def State.ctrStep (s : State) (k : Nat) (out : List Pulse) : State × Blow × List Pulse :=
  let n := ctrValue s.expected k
  match s.blowBit (ctrBase k + n / 32) (n % 32) out with
  | (s, .ok, out) => (if n + 1 = ctrSteps k then s.ctrFull k else s, .ok, out)
  | e => e

/-- R554: the steps of counter k that its pending count holds (at most `fuel`). -/
def State.flushCtr (s : State) (fuel k : Nat) (out : List Pulse) : State × Blow × List Pulse :=
  match fuel with
  | 0 => (s, .ok, out)
  | fuel + 1 =>
    if s.fld (grtPend k) = 0 then (s, .ok, out)
    else if ctrValue s.expected k = ctrSteps k then (s.set (grtPend k) 0, .ok, out)
    else match s.ctrStep k out with
      | (s, .ok, out) => (s.set (grtPend k) (s.fld (grtPend k) - 1)).flushCtr fuel k out
      | e => e

/-- R554: the counters in order. -/
def State.flushAll (s : State) (l : List Nat) (out : List Pulse) : State × Blow × List Pulse :=
  match l with
  | [] => (s, .ok, out)
  | k :: r =>
    match s.flushCtr 256 k out with
    | (s, .ok, out) => s.flushAll r out
    | e => e

/-- FLUSH: the operation FLUSH runs, or goes on, through the pulses given (R554). -/
def execFlush (out : List Pulse) (s : State) : Host.Outcome State Fault Refusal :=
  .next (
    match s.grtOp 3 with
    | none => s
    | some r =>
      let first := !r.begun
      let s := if first then s.grtBegin { r with op := 11 } else s
      if first && s.anyBridge then s.grtEnd 2
      else match s.flushAll [1, 2, 3, 4] out with
        | (s, .ok, _) => s.grtEnd 1
        | (s, .fail e, _) => s.grtEnd e
        | (s, .more, _) => s.showCounters.grtShow)

/-- SEAL_KEY: the operation SEAL_KEY runs, or goes on, through the pulses given (R550). -/
def execSealKey (out : List Pulse) (s : State) : Host.Outcome State Fault Refusal :=
  .next (
    match s.grtOp 4 with
    | none => s
    | some r =>
      if r.begun then s.grtWords [(8, r.mask)] out
      else
        let w := checkWord (keyWords s.used)
        let s := s.grtBegin { r with op := 12, mask := w }
        if s.anyBridge then s.grtEnd 2
        else if !(s.used 8 == 0) then s.grtEnd 8
        else s.grtWords [(8, w)] out)

/-- READ_RAW: the operation READ_RAW: both copies of a word at both thresholds of the present band; of a key word only its weak bits
(R567, R549); `reads` gives the words that now read otherwise (R540). -/
def execReadRaw (reads : List GrtRead) (s : State) : Host.Outcome State Fault Refusal :=
  .next (
    match s.grtOp 5 with
    | none => s
    | some r =>
      let s := (s.otpRead reads).set F.GRT_PROG_STAT_PULSES 0
      let s := if r.addr < 8 then
          (((s.wr (A.GRT_RAW 0) (s.weakBits r.addr)).wr (A.GRT_RAW 1) 0).wr (A.GRT_RAW 2) 0).wr (A.GRT_RAW 3) 0
        else
          (((s.wr (A.GRT_RAW 0) (s.cell 0 false r.addr)).wr (A.GRT_RAW 1) (s.cell 1 false r.addr)).wr (A.GRT_RAW 2)
            (s.cell 0 true r.addr)).wr (A.GRT_RAW 3) (s.cell 1 true r.addr)
      s.grtEnd 1)

/-- BAD_OP: a request with OP 0, 6 or 7 ends with BAD_OP (table 17.7). -/
def execBadOp (s : State) : Host.Outcome State Fault Refusal :=
  .next (
    match s.otp.queue with
    | r :: _ =>
      if s.grtOpen = true ∧ r.src = 0 ∧ (r.op = 0 ∨ r.op = 6 ∨ r.op = 7) then (s.set F.GRT_PROG_STAT_PULSES 0).grtEnd 9 else s
    | [] => s)

/-! ### The floor (R124, R125) -/

/-- R124: a write of GH.FLOOR_ADV. -/
def State.floorWrite (s : State) (w : Word) : State :=
  if s.grtOpen && fieldOf F.GH_FLOOR_ADV_KEY w == 0xA55A && fieldOf F.GH_FLOOR_ADV_GO w == 1 then
    s.grtAsk { src := 1, op := 6, addr := 0, mask := 0, live := [] }
  else s

/-- The advance ends with a RESULT of table 4.15, and "host request done" is raised. -/
def State.floorEnd (s : State) (result : Nat) : State :=
  ((s.set F.GH_FLOOR_ADV_RESULT result).grtEnd (if result = 1 then 1 else 0)).event 82

/-- R125: floor steps until the floor equals FLOOR_REQ (at most `fuel`). -/
def State.floorSteps (s : State) (fuel : Nat) (out : List Pulse) : State × Blow × List Pulse :=
  match fuel with
  | 0 => (s, .ok, out)
  | fuel + 1 =>
    if s.img.floorReq ≤ ctrValue s.expected 0 then (s, .ok, out)
    else match s.ctrStep 0 out with
      | (s, .ok, out) => (s.inc F.GH_FLOOR_ADV_STEPS).floorSteps fuel out
      | e => e

/-- FLOOR_ADV: a write of GH.FLOOR_ADV, and the advance that stands requested runs, or goes on, through the pulses given (R124 to
R126, R561, R562). The manual gives no RESULT for a refusal under R561 or a copy that fails to verify: RESULT is then free. While no image runs
FLOOR_REQ counts as 0, so that nothing is to be done (DESIGN CHOICE, log entry 64: R125 judges the running image alone). -/
def execFloorAdv (w : Word) (out : List Pulse) (s : State) : Host.Outcome State Fault Refusal :=
  .next (
    let s := s.floorWrite w
    match s.otp.queue with
    | r :: _ =>
      if r.src = 1 ∧ s.grtOpen = true then
        let first := !r.begun
        let s := if first then (s.grtBegin { r with op := 14 }).set F.GH_FLOOR_ADV_STEPS 0 else s
        if first && s.anyBridge then
          let p := s.freshNat
          p.2.floorEnd (p.1 % 8)
        else if first && s.img.zeroKey then s.floorEnd 2
        else if first && ctrValue s.expected 0 == 64 then s.floorEnd 6
        else if first && decide (s.img.floorReq ≤ ctrValue s.expected 0) then s.floorEnd 3
        else match s.floorSteps 65 out with
          | (s, .ok, _) => s.floorEnd 1
          | (s, .fail 3, _) => s.floorEnd 4
          | (s, .fail 4, _) => s.floorEnd 5
          | (s, .fail _, _) =>
            let p := s.freshNat
            p.2.floorEnd (p.1 % 8)
          | (s, .more, _) => s.showCounters.grtShow
      else s
    | [] => s)

/-! ### Re-verify (R544) -/

/-- A fault of the Grotto and its event, both at RUNNING where it is found before (R508). -/
def State.grtFault (s : State) (code event detail : Nat) : State :=
  let s := s.fault code 4 0 detail
  if s.isRunning then s.event event else s

/-- GROTTO_REVERIFY: every word is read at both thresholds of the present band; `reads` gives the words that now read otherwise (R540,
R544); once the boot is over. -/
def execGrottoReverify (reads : List GrtRead) (s : State) : Host.Outcome State Fault Refusal :=
  .next (
    if s.booted = true ∧ bit s.otp.verify 1 = true ∧ s.otp.queue = [] then
      let s := ((s.otpRead reads).modOtp (fun o => { o with verify := o.verify % 2 })).grtShow
      let p := s.weakFind
      let s := p.1
      let s := match p.2 with
        | some a => s.grtFault 46 100 a
        | none => s
      let new := (List.range 128).filter (fun a => !(s.used a == s.expected a) && !(s.otp.differ.contains a))
      match new with
      | [] => s
      | a :: _ =>
        let s := s.modOtp (fun o => { o with differ := o.differ ++ new })
        ((s.set F.GRT_STAT_MISMATCH_SEEN 1).setCause 4 47 true).grtFault 47 102 a
    else s)

/-- A reset during a pulse: the cell in progress may then read 0, 1 or weak (R565); the requests are gone. -/
def State.grtReset (s : State) : State :=
  let l : List (Nat × Nat) := match s.otp.queue with
    | r :: _ =>
      if r.op = 9 then bitsOf [(r.addr, r.mask)]
      else if r.op = 10 then bitsOf (commitWords r.addr r.live)
      else if r.op = 12 then bitsOf [(8, r.mask)]
      else if r.op = 11 then
        match [1, 2, 3, 4].find? (fun k => decide (s.fld (grtPend k) ≠ 0)) with
        | some k => [(ctrBase k + ctrValue s.expected k / 32, ctrValue s.expected k % 32)]
        | none => []
      else if r.op = 14 then [(0x10 + ctrValue s.expected 0 / 32, ctrValue s.expected 0 % 32)]
      else []
    | [] => []
  let made := match s.otp.queue with | r :: _ => (if r.op = 11 ∨ r.op = 14 then s.otp.made % 2 else s.otp.made) | [] => 0
  let todo := (l.flatMap (fun e => [(e.1, e.2, 0), (e.1, e.2, 1)])).drop made
  let s := match todo.find? (fun e => s.midCopy e.2.2 e.1 e.2.1 || !bit (s.cell e.2.2 true e.1).toNat e.2.1) with
    | some e => s.cellFree e.2.2 e.1 e.2.1 0 6
    | none => s
  s.modOtp (fun o => { o with queue := [], tries := (0, 0), made := 0, verify := 0, differ := [], blown := [] })

end Sys2Proof.Machine
end

