-- ==== Sys2Proof/Machine/Crypto.lean ====
section
/-! DEFINITION. The cipher of the image (spec/04_parterre_image.md, R108 to R110): AES-256 as FIPS 197 defines it, CMAC as NIST
SP 800-38B, and the counter mode of R110 (log entry 31). Blocks are lists of 16 bytes, as numbers, in the order AES uses. -/

namespace Sys2Proof.Machine

/-- The S-box, 32 entries a number, lowest first. -/
def sboxRow (r : Nat) : Nat :=
  nth 0 [
    0xc072a49cafa2d4adf04759fa7dc982ca76abd7fe2b670130c56f6bf27b777c63,
    0x75b227ebe28012079a059618c323c7041531d871f1e5a534ccf73f362693fdb7,
    0xcf584c4a39becb6a5bb1fc20ed00d153842fe329b3d63b52a05a6e1b1a2c8309,
    0xd2f3ff1021dab6bcf5389d928f40a351a89f3c507f02f94585334d43fbaaefd0,
    0xdb0b5ede14b8ee4688902a22dc4f816073195d643d7ea7c41744975fec130ccd,
    0x08ae7a65eaf4566ca94ed58d6d37c8e779e4959162acd3c25c2406490a3a32e0,
    0x9e1dc186b95735610ef6034866b53e708a8bbd4b1f74dde8c6b4a61c2e2578ba,
    0x16bb54b00f2d99416842e6bf0d89a18cdf2855cee9871e9b948ed9691198f8e1] r

/-- The S-box. -/
def sbox (x : Nat) : Nat := sboxRow (x / 32) / 256 ^ (x % 32) % 256

/-- Multiplication by 2 in the field of AES. -/
def xtime (a : Nat) : Nat := if 128 ≤ a then (2 * a) % 256 ^^^ 0x1B else 2 * a

/-- Bytewise exclusive or. -/
def xorBytes (a b : List Nat) : List Nat := (a.zip b).map (fun e => e.1 ^^^ e.2)

/-- MixColumns on one column. -/
def mixColumn (c : List Nat) : List Nat :=
  (List.range 4).map (fun i =>
    let a (k : Nat) : Nat := nth 0 c ((i + k) % 4)
    xtime (a 0) ^^^ (xtime (a 1) ^^^ a 1) ^^^ a 2 ^^^ a 3)

/-- SubBytes and ShiftRows on a block. -/
def subShift (b : List Nat) : List Nat := (List.range 16).map (fun i => sbox (nth 0 b ((i + 4 * (i % 4)) % 16)))

/-- MixColumns on a block. -/
def mixColumns (b : List Nat) : List Nat :=
  (List.range 4).flatMap (fun c => mixColumn ((List.range 4).map (fun i => nth 0 b (4 * c + i))))

/-- The expanded key: words in reverse order, most recent first, until there are `n` more. -/
def expandKey (ws : List (List Nat)) (i : Nat) (rcon : Nat) (n : Nat) : List (List Nat) :=
  match n with
  | 0 => ws
  | n + 1 =>
    let t := nth [] ws 0
    let t' := if i % 8 = 0 then
        xorBytes ([nth 0 t 1, nth 0 t 2, nth 0 t 3, nth 0 t 0].map sbox) [rcon, 0, 0, 0]
      else if i % 8 = 4 then t.map sbox else t
    expandKey (xorBytes (nth [] ws 7) t' :: ws) (i + 1) (if i % 8 = 0 then xtime rcon else rcon) n

/-- Round keys of a 32-byte key: fifteen blocks, first round first. -/
def roundKeys (key : List Nat) : List (List Nat) :=
  let w0 := (List.range 8).map (fun i => (List.range 4).map (fun j => nth 0 key (4 * i + j)))
  let w := (expandKey w0.reverse 8 1 52).reverse
  (List.range 15).map (fun r => (List.range 4).flatMap (fun i => nth [] w (4 * r + i)))

/-- The rounds after the first key addition. -/
def aesRounds (ks : List (List Nat)) (b : List Nat) : List Nat :=
  match ks with
  | [] => b
  | k :: [] => xorBytes (subShift b) k
  | k :: r => aesRounds r (xorBytes (mixColumns (subShift b)) k)

/-- AES encryption of a block under expanded round keys. -/
def aesBlock (ks : List (List Nat)) (b : List Nat) : List Nat := aesRounds (ks.drop 1) (xorBytes b (nth [] ks 0))

/-- AES-256 of a block. -/
def aes256 (key b : List Nat) : List Nat := aesBlock (roundKeys key) b

/-- Doubling in the field of CMAC, on a block. -/
def cmacDouble (b : List Nat) : List Nat :=
  let v := b.foldl (fun n x => n * 256 + x) 0
  let d := v * 2 % 2 ^ 128
  let d := if bit v 127 then d ^^^ 0x87 else d
  (List.range 16).map (fun i => d / 256 ^ (15 - i) % 256)

/-- The CMAC chain over whole blocks, the last of which is combined with subkey K1. -/
def cmacChain (ks : List (List Nat)) (k1 x : List Nat) (blocks : List (List Nat)) : List Nat :=
  match blocks with
  | [] => x
  | b :: [] => aesBlock ks (xorBytes (xorBytes x b) k1)
  | b :: r => cmacChain ks k1 (aesBlock ks (xorBytes x b)) r

/-- The first `n` blocks of 16 of a byte string. -/
def takeBlocks (n : Nat) (l : List Nat) : List (List Nat) :=
  match n with
  | 0 => []
  | n + 1 => l.take 16 :: takeBlocks n (l.drop 16)

/-- A byte string in blocks of 16. -/
def blocks16 (l : List Nat) : List (List Nat) := takeBlocks (l.length / 16) l

/-- AES-256 CMAC of a byte string of whole blocks (R108). -/
def cmac (key l : List Nat) : List Nat :=
  let ks := roundKeys key
  cmacChain ks (cmacDouble (aesBlock ks (List.replicate 16 0))) (List.replicate 16 0) (blocks16 l)

/-- The counter block of image bytes 16·j to 16·j + 15 (R110). -/
def ctrBlock (nonce : List Nat) (j : Nat) : List Nat :=
  nonce ++ [j / 2 ^ 24 % 256, j / 2 ^ 16 % 256, j / 2 ^ 8 % 256, j % 256]

/-- Counter mode over blocks, the first of which is block j of the image. -/
def ctrBlocks (ks : List (List Nat)) (nonce : List Nat) (j : Nat) (bs : List (List Nat)) : List Nat :=
  match bs with
  | [] => []
  | b :: r => xorBytes b (aesBlock ks (ctrBlock nonce j)) ++ ctrBlocks ks nonce (j + 1) r

/-- Counter-mode decryption of whole blocks that begin at image offset 16·j (R109, R110). -/
def ctrDecrypt (key nonce : List Nat) (j : Nat) (l : List Nat) : List Nat :=
  ctrBlocks (roundKeys key) nonce j (blocks16 l)

/-- The 32 bytes of the image key (R548). -/
def keyBytes (ws : List Word) : List Nat := (ws.flatMap wordBytes).map (·.toNat)

/-- k_enc and k_mac of an image key: two blocks each under the key (R108). -/
def deriveKey (key : List Nat) (i : Nat) : List Nat :=
  let c (n : Nat) : List Nat := n :: List.replicate 15 0
  aes256 key (c i) ++ aes256 key (c (i + 1))

end Sys2Proof.Machine
end

