-- ==== Sys2Proof/Machine/Accept.lean ====
section
/-! DEFINITION. Which values a register field accepts on its own (the "other values ignored" of the register tables), and the
built-in values of the fields that an image may leave out (R673, R674, table 4.16). -/

namespace Sys2Proof.Machine

/-- A binary32 word as a whole number in the order of its values; both zeros are 0. -/
def fOrd (w : Word) : Int := if w.msb then -((w.toNat % 2 ^ 31 : Nat) : Int) else (w.toNat : Int)

/-- The values that a field takes from a write, by its own table; a limit that another register sets is judged where that
register is known. `off` is the register's offset in its block, `lo` the field's lowest bit. -/
def fieldTakes (blk off lo v : Nat) : Bool :=
  match blk with
  | 0x401 => if off = 0x1C then (if 8 ≤ lo then inRange 1 64 v else inRange 1 15 v) else true
  | 0x402 | 0x403 =>
    if off = 0x04 then inRange 4000 400000 v
    else if off = 0x20 then decide (v ≤ 25600)
    else if off = 0x24 then decide (v ≤ 800)
    else true
  | 0x405 =>
    if off = 0 then inRange 16 80 v
    else if off < 0x24 then (if lo = 4 then decide (v ≤ 2) else if lo = 0 then decide (v ≤ 4) else true)
    else if off = 0x44 then inRange 4 9 v
    else if 0xA0 ≤ off ∧ off < 0xC8 then (if lo = 16 then inRange 0x6000 0xA000 v else true)
    else true
  | 0x407 | 0x408 => if off = 0x10 ∨ off = 0x14 then fFinite (BitVec.ofNat 32 v) else true
  | 0x40A | 0x40B =>
    if 0x08 ≤ off ∧ off < 0x14 then inRange 64 2560 v
    else if off = 0x3C then
      (if lo = 24 then inRange 1 50 v else if lo = 16 then inRange 12 80 v else if lo = 8 then inRange 120 180 v
        else decide (1 ≤ v))
    else if off = 0x100 then (if lo = 16 then decide (v ≤ 36) else if lo = 8 then inRange 2 120 v
      else if lo = 0 then decide (v ≤ 116) else true)
    else if off = 0x104 then (if lo = 16 then inRange 5 40 v else if lo = 8 then decide (1 ≤ v) else true)
    else if off = 0x108 then (if lo = 16 then inRange 1 1000 v else if lo = 4 then inRange 1 3600 v else true)
    else true
  | 0x40D =>
    if off = 0x08 then (if lo = 16 ∨ lo = 8 then decide (1 ≤ v) else if lo = 0 then inRange 60 145 v else true)
    else if off = 0x0C then (if lo = 16 then true else inRange 5 250 v)
    else if off = 0x1C then inRange 100 150 v
    else true
  | 0x40F => if off = 0x04 ∧ lo = 0 then inRange 1 1000 v else true
  | 0x411 => if 0x100 ≤ off ∧ off % 0x20 = 0 ∧ lo = 4 then inRange 1 64 v else true
  | 0x412 =>
    if off = 0x08 then (if lo = 24 then inRange 2 255 v else if lo = 16 ∨ lo = 8 then decide (1 ≤ v) else true) else true
  | _ => true

/-- A pair of fields of one word whose lower limit may not exceed its upper one (R248, R265, R467). -/
def pairTakes (blk off : Nat) (w : Word) : Bool :=
  let n := w.toNat
  match blk with
  | 0x405 => if 0x24 ≤ off ∧ off < 0x44 then decide (signed 16 n ≤ signed 16 (n / 2 ^ 16)) else true
  | 0x406 => if 0x30 ≤ off ∧ off < 0x60 then decide (bits n 11 0 ≤ bits n 27 16) else true
  | 0x40A | 0x40B =>
    if off = 0x24 then decide (bits n 5 0 ≤ bits n 13 8) && decide (bits n 21 16 ≤ bits n 29 24) else true
  | _ => true

/-- Every field that an image sets (`p`) takes its part of a word. -/
def wordTakes (a : Nat) (w : Word) (p : FieldD → Bool) : Bool :=
  pairTakes (a / 0x1000) (a % 0x1000) w &&
    (regFields a).all (fun d => !p d || fieldTakes (a / 0x1000) (a % 0x1000) d.lo (bits w.toNat d.hi d.lo))

/-- The img fields of the register at an address. -/
def imgMask (a : Nat) : Word := fieldMask (regFields a) (fun d => d.warm == .img)

/-- R673: registers whose img fields have a source other than REGS: LDG.ROUTEn, PGL.CHn_CFG, RING_CFG and RING_BASE, the
compensator banks, MCx.LOOP_DIV. -/
def otherSource (a : Nat) : Bool :=
  a / 0x1000 == 0x40C && decide (0x200 ≤ a % 0x1000) ||
  a / 0x1000 == 0x411 ||
  (a / 0x1000 == 0x407 || a / 0x1000 == 0x408) &&
    (decide (0x200 ≤ a % 0x1000) && decide (a % 0x1000 < 0x440) || a % 0x1000 == 0x454)

/-- R673: a REGS record that load check 15 accepts. -/
def regsRecordOk (a : Nat) (w : Word) : Bool :=
  a == 0xFFFFFFFF ||
    (a % 4 == 0 && !(imgMask a == 0) && !otherSource a && (w &&& ~~~(imgMask a)) == 0 &&
      wordTakes a w (fun d => d.warm == .img))

/-- R674: the fields whose value is not 0 where no source gives it; the limits that another register of the image sets are in
`State.builtFit`. -/
def builtIn : List (Fld × Nat) :=
  [(F.HB_MISS_CFG_WIN_A, 4), (F.HB_MISS_CFG_WIN_B, 4), (F.HB_MISS_CFG_RUN_A, 2), (F.HB_MISS_CFG_RUN_B, 2),
    (F.SNS_SDCLK_DIV_A, 16), (F.SNS_SDCLK_DIV_B, 16),
    (F.SNS_SAR_WIN_W_TB0, 7), (F.SNS_SAR_WIN_W_TB1, 5), (F.SNS_SAR_WIN_W_TB2, 6), (F.SNS_SAR_WIN_W_TB3, 7),
    (F.SNS_SAR_WIN_W_TB4, 8), (F.HAH_RB_CFG_TOL, 24),
    (F.ORG_THR_CFG_GRACE, 1), (F.ORG_THR_CFG_HYST, 1), (F.ORG_THR_CFG_TT_THR, 60), (F.ORG_RISE_CFG_RISE1, 5),
    (F.ORG_RISE_CFG_RISE2, 5), (F.ORG_DRV_CFG_DRV_LIM, 135), (F.WKT_HLT_TIMEOUT, 1),
    (F.STC_BG_CFG_SAR_TOL, 16), (F.STC_BG_CFG_SCRUB_INT, 1), (F.STC_BG_CFG_SAR_INT, 1)] ++
  (List.range 16).flatMap (fun k => [0, 8, 16, 24].map (fun lo => (⟨0x405048 + 4 * k, lo + 4, lo⟩, 31))) ++
  [0, 1].flatMap (fun k => [0, 5, 10, 15, 20, 25].map (fun lo => (⟨0x405088 + 4 * k, lo + 4, lo⟩, 31))) ++
  (List.range 12).flatMap (fun n => [(⟨0x406000 + 4 * n, 4, 0⟩, 31), (⟨0x406030 + 4 * n, 27, 16⟩, 4095)]) ++
  [Axis.a, Axis.b].flatMap (fun x =>
    [(F.PW_PERIOD_TICKS x, 4000), (⟨A.MC_OWN x, 9, 0⟩, 0x3FF),
      (⟨trBase x + 0x08, 27, 16⟩, 64), (⟨trBase x + 0x08, 11, 0⟩, 64), (⟨trBase x + 0x0C, 27, 16⟩, 64),
      (⟨trBase x + 0x0C, 11, 0⟩, 64), (⟨trBase x + 0x10, 27, 16⟩, 64), (⟨trBase x + 0x10, 11, 0⟩, 64),
      (F.TR_REF_CFG_PRE_W x, 1), (F.TR_REF_CFG_REF_W x, 12), (F.TR_REF_CFG_REF_THR x, 120), (F.TR_REF_CFG_N x, 1),
      (F.TR_DS_CFG_MON x, 2), (F.TR_SAFE_CFG_EXIT_V x, 5), (F.TR_SAFE_CFG_QUIET x, 1), (F.TR_RETRY_WAIT x, 1),
      (F.TR_RETRY_WINDOW x, 1)])

/-- Set a field in both copies. -/
def State.setBoth (s : State) (f : Fld) (v : Nat) : State := (s.set f v).setSh f v

/-- R674: the built-in values. -/
def State.builtIns (s : State) : State := s.forEach builtIn (fun s e => s.setBoth e.1 e.2)

/-- R450: STR_x takes every step of a word. -/
def State.stepsTake (s : State) (x : Axis) (w : Word) : Bool :=
  let v (lo : Nat) : Nat := bits w.toNat (lo + 5) lo
  [0, 16].all (fun lo => inRange (s.stepLo x true) (s.stepHi x true) (v lo)) &&
    [8, 24].all (fun lo => inRange (s.stepLo x false) (s.stepHi x false) (v lo))

/-- R674: the lowest PERIOD that the limits of the image let it take. -/
def State.periodLeast (s : State) (x : Axis) : Nat :=
  let m := max 4000 (s.fld (F.PW_PER_LIM_MIN x))
  if s.saw x then m else m + m % 2

/-- R674: the lowest word of STR_x that STR_LIM lets it take. -/
def State.stepsLeast (s : State) (x : Axis) : Word :=
  BitVec.ofNat 32 ((s.stepLo x true) * (1 + 2 ^ 16) + (s.stepLo x false) * (2 ^ 8 + 2 ^ 24))

/-- R673: a REGS record sets every img field of its register whose source it is, in both copies: CMP_GRP.FORM comes from the graphs. -/
def State.regsRecord (s : State) (a : Nat) (w : Word) : State :=
  if a = 0xFFFFFFFF then s
  else
    let m := if a = A.MC_CMP_GRP .a ∨ a = A.MC_CMP_GRP .b then imgMask a &&& 0x3FFFF#32 else imgMask a
    (s.wr a ((s.rd a &&& ~~~m) ||| (w &&& m))).wrSh a ((s.rdSh a &&& ~~~m) ||| (w &&& m))

end Sys2Proof.Machine
end

