-- ==== Sys2Proof/Machine/Image.lean ====
section
/-! DEFINITION. The Parterre image (spec/04_parterre_image.md): its layout, and the load checks of table 4.10 that need the image
alone. -/

namespace Sys2Proof.Machine

/-! ### Numbers in a byte string, least significant byte first (R4) -/

/-- A byte of a byte string; 0 beyond its end. -/
def u8 (b : List Byte) (o : Nat) : Nat := (nth 0 b o).toNat

/-- A 16-bit number of a byte string. -/
def u16 (b : List Byte) (o : Nat) : Nat := u8 b o + 256 * u8 b (o + 1)

/-- A 32-bit number of a byte string. -/
def u32 (b : List Byte) (o : Nat) : Nat := u16 b o + 65536 * u16 b (o + 2)

/-- Part of a byte string. -/
def slice (b : List Byte) (o n : Nat) : List Byte := (b.drop o).take n

/-- Part of a byte string is 0. -/
def isZero (b : List Byte) (o n : Nat) : Bool := (slice b o n).all (· == 0)

/-! ### Header and section table -/

/-- R98: a valid header. -/
def headerOk (d : List Byte) : Bool :=
  decide (64 ≤ d.length) && u32 d 0 == 0x54524150 && u32 d 8 % 16 == 0 && inRange 0x90 0x1000000 (u32 d 8)

/-- Total length of an image (table 4.1). -/
def imgLength (d : List Byte) : Nat := u32 d 8

/-- The image is encrypted (table 4.1). -/
def imgEnc (d : List Byte) : Bool := bit (u8 d 0x10) 0

/-- Entry i of the section table (table 4.2). -/
def sectEntry (d : List Byte) (i : Nat) : Sect :=
  let e := 0x40 + 16 * i
  { typ := u8 d e, flags := u8 d (e + 1), owner := u8 d (e + 3), grp := u8 d (e + 2), off := u32 d (e + 4),
    len := u32 d (e + 8), dest := u32 d (e + 12), copy1 := false }

/-- The sections of an image, in table order (R100); at most 64. -/
def imgSects (d : List Byte) : List Sect := (List.range (min 64 (u16 d 0x14))).map (sectEntry d)

/-- Body of a section in an image. -/
def Sect.body (c : Sect) (d : List Byte) : List Byte := slice d c.off c.len

/-- R109, R110: the image with its section bodies in plaintext. -/
def imgPlain (key : List Nat) (d : List Byte) : List Byte :=
  if imgEnc d then
    let n := imgLength d - 16
    let first := (imgSects d).foldl (fun m c => if 64 ≤ c.off ∧ c.off < m then c.off else m) n / 16 * 16
    let k := deriveKey key 1
    let nonce := (slice d 0x18 12).map (·.toNat)
    d.take first ++ (ctrDecrypt k nonce (first / 16) ((slice d first (n - first)).map (·.toNat))).map (BitVec.ofNat 8) ++ d.drop n
  else d

/-- R108: the trailer is the CMAC of the bytes before it under a key. -/
def macOk (key : List Nat) (d : List Byte) : Bool :=
  let n := imgLength d - 16
  cmac key ((d.take n).map (·.toNat)) == (slice d n 16).map (·.toNat)

/-! ### Load checks (table 4.10) -/

/-- A load check that fails: CODE, SECT and ITEM of GH.LOAD_DETAIL (R678). -/
structure LoadFail where
  code : Nat
  sect : Nat
  item : Nat
deriving DecidableEq, Repr

/-- A failure where a condition does not hold. -/
def must (ok : Bool) (code sect item : Nat) : Option LoadFail :=
  if ok then none else some { code := code, sect := sect, item := item }

/-- Index of the first entry that a test picks. -/
def pickIdx {α : Type} (l : List α) (p : Nat → α → Bool) : Option Nat :=
  (l.zipIdx.find? (fun e => p e.2 e.1)).map (·.2)

/-- The first failure that a check finds on a list, given each entry's index. -/
def firstFail {α : Type} (l : List α) (f : Nat → α → Option LoadFail) : Option LoadFail :=
  l.zipIdx.findSome? (fun e => f e.2 e.1)

/-- Checks 1 to 5: the header. -/
def checkHeader (d : List Byte) : Option LoadFail :=
  (((must (u16 d 4 == 1 && u8 d 0x17 == 0 && u32 d 0x10 / 2 == 0 && isZero d 0x28 24) 1 0xFF 0).or
    (must (u16 d 0x0C == 0x2412) 2 0xFF 0)).or
    (must (decide (u8 d 0x0E ≤ 0xA1)) 3 0xFF 0)).or
    ((must (decide (u8 d 0x0F ≤ 4)) 4 0xFF 0).or
      (must (decide (u8 d 0x16 ≤ 64) && decide (u8 d 0x16 ≤ u16 d 6)) 5 0xFF 0))

/-- Check 6, of one entry: alignment, length, R99's bounds, SFLAGS, owner and DEST. The DEST of an unknown type is not judged here: check 7
refuses it (DESIGN CHOICE, log entry 41). -/
def entryOk (d : List Byte) (c : Sect) : Bool :=
  c.off % 16 == 0 && c.len % 16 == 0 && decide (16 ≤ c.len) && decide (0x40 + 16 * u16 d 0x14 ≤ c.off) &&
    decide (c.off + c.len ≤ imgLength d - 16) && c.flags == b2n c.isRuntime && decide (c.owner ≤ 2) &&
    (c.typ != 10 || c.owner == 2) && (c.inSram || decide (c.typ = 0 ∨ 10 < c.typ) || c.dest == 0xFFFFFFFF)

/-- Check 6: TABLE (R99). Overlaps are judged once every entry has passed its own tests, and of two bodies that overlap the later in table
order is the one named (DESIGN CHOICE, log entry 63: R678 does not say which is). -/
def checkTable (d : List Byte) : Option LoadFail :=
  let l := imgSects d
  ((must (inRange 1 64 (u16 d 0x14) && decide (0x40 + 16 * u16 d 0x14 ≤ imgLength d - 16)) 6 0xFF 0).or
    (firstFail l (fun i c => must (entryOk d c) 6 i 0))).or
    (firstFail l (fun i c => must (!(l.take i).any (fun b => overlap b.off b.len c.off c.len)) 6 i 0))

/-- Check 7: TYPE. -/
def checkType (d : List Byte) : Option LoadFail := firstFail (imgSects d) (fun i c => must (inRange 1 10 c.typ) 7 i 0)

/-- Table 4.3: fewest and most sections of a type. -/
def sectMax (t : Nat) : Nat := nth 0 [0, 1, 64, 32, 16, 32, 1, 1, 2, 8, 1] t
@[inherit_doc sectMax] def sectMin (t : Nat) : Nat := if t = 1 ∨ t = 2 ∨ t = 6 then 1 else 0

/-- Check 8: COUNT (tables 4.3, 4.4, 4.9); a COMP section that the device owns counts as one beyond its number, one for each axis (DESIGN
CHOICE, log entry 63: R101's check 6 may also be meant, which names a bad owner). -/
def checkCount (d : List Byte) : Option LoadFail :=
  let l := imgSects d
  let n (i t : Nat) : Nat := ((l.take i).filter (fun c => c.typ == t)).length
  (firstFail l (fun i c => must (decide (n i c.typ < sectMax c.typ) &&
    (c.typ != 1 || c.len == 320) && (c.typ != 6 || c.len == 512) && (c.typ != 7 || c.len == 80) &&
    (c.typ != 4 || c.len % 80 == 0) &&
    (c.typ != 8 || decide (c.owner < 2) && !(l.take i).any (fun b => b.typ == 8 && b.owner == c.owner))) 8 i 0)).or
    ((List.range 11).findSome? (fun t => must (decide (sectMin t ≤ n 64 t)) 8 0xFF t))

/-- The STRUCTURE section: its index and its body. -/
def structIx (d : List Byte) : Nat := (pickIdx (imgSects d) (fun _ c => c.typ == 1)).getD 0
@[inherit_doc structIx] def structBody (d : List Byte) : List Byte := (sectEntry d (structIx d)).body d

/-- The sixteen region entries (table 4.4). -/
def structRegions (b : List Byte) : List Region :=
  (List.range 16).map (fun i => { base := u32 b (0x40 + 16 * i), size := u32 b (0x44 + 16 * i), kind := u8 b (0x48 + 16 * i) })

/-- A span lies within one region of a kind. -/
def inRegion (rs : List Region) (kind a n : Nat) : Bool :=
  rs.any (fun r => r.kind == kind && decide (r.base ≤ a) && decide (a + n ≤ r.base + r.size))

/-- Bytes from DEST that a section takes in SRAM: with its second copy where it is a runtime section (R107). -/
def Sect.span (c : Sect) : Nat := if c.isRuntime then up32 (c.dest + c.len) - c.dest + c.len else c.len

/-- Check 9: REGION (R103, R107). Where STAGE_SIZE is 0 there is no staging area, and no region of kind 7 (DESIGN CHOICE, log entry 41). -/
def checkRegion (d : List Byte) : Option LoadFail :=
  let b := structBody d
  let rs := structRegions b
  let si := structIx d
  let stage : Region := { base := u32 b 0x28, size := u32 b 0x2C, kind := 7 }
  ((firstFail rs (fun i r => must (r.kind == 0 ||
    (decide (r.kind ≤ 7) && r.base % 32 == 0 && (r.base + r.size) % 32 == 0 && decide (r.base + r.size ≤ 0x180000))) 9 si i)).or
    (firstFail rs (fun i r => must (r.kind == 0 ||
      !(rs.take i).any (fun q => q.kind != 0 && overlap q.base q.size r.base r.size)) 9 si i))).or
    (((firstFail rs (fun i r => must (r.kind != 7 || (r == stage && !(rs.take i).any (fun q => q.kind == 7))) 9 si i)).or
      (must (rs.any (fun r => r.kind == 7) || stage.size == 0) 9 si 0)).or
      (firstFail (imgSects d) (fun i c => must (!c.inSram || inRegion rs 6 c.dest c.span) 9 i 0)))

/-- Check 10: ORDER (R113), for a host load: no copy of a section lies on the stored bytes of a later one. -/
def checkOrder (d : List Byte) : Option LoadFail :=
  let l := imgSects d
  firstFail l (fun i c => must (!c.inSram || (l.drop (i + 1)).all (fun t =>
    !overlap c.dest c.len t.off t.len && (!c.isRuntime || !overlap (up32 (c.dest + c.len)) c.len t.off t.len))) 10 i 0)

/-! ### Check 11: OWNER -/

/-- Reserved bytes and bits of the STRUCTURE body are 0 (R675): those of a region entry, and the others. -/
def structZero (b : List Byte) : Bool :=
  decide (u8 b 0x18 < 4) && u8 b 0x1B == 0 && u8 b 0x23 == 0 && isZero b 0x30 16

/-- Check 11, of the STRUCTURE body alone. -/
def checkStruct (d : List Byte) : Option LoadFail :=
  let b := structBody d
  let si := structIx d
  ((must ((slice b 0 24).all (fun r => decide (r.toNat ≤ 3)) && decide (u8 b 0x19 ≤ 1) && decide (u8 b 0x1A ≤ 1) &&
    decide (u8 b 0x26 ≤ 4) && decide (u8 b 0x27 ≤ 4) && structZero b) 11 si 0).or
    (firstFail (List.range 16) (fun i _ => must (isZero b (0x49 + 16 * i) 7) 11 si i))).or
    ((must (u8 b 0x26 == 0 || u8 b 0x26 != u8 b 0x27) 11 si 0).or
      (firstFail [Axis.a, Axis.b] (fun _ x => must (!bit (u8 b 0x18) x.ix ||
        (slice b 0 24).any (fun r => r.toNat == x.ix + 1)) 11 si 0)))

/-- Check 11, of the sections: none is owned by a disabled axis; a graph's AXIS is 0, 1 or 3. -/
def checkOwners (d : List Byte) : Option LoadFail :=
  let en := u8 (structBody d) 0x18
  let on (a : Nat) : Bool := decide (2 ≤ a) || bit en a
  firstFail (imgSects d) (fun i c => must (on c.owner &&
    (c.typ != 2 || (u8 (c.body d) 2 != 2 && decide (u8 (c.body d) 2 ≤ 3) && on (u8 (c.body d) 2)))) 11 i 0)

/-! ### Check 12: GRAPH -/

/-- Entry t of a task table (table 4.6). -/
def taskEntry (b : List Byte) (t : Nat) : TaskD :=
  let e := u32 b 0x14 + 16 * t
  { tid := u16 b e, flags := u8 b (e + 2), kiosk := u8 b (e + 3), oplOff := u32 b (e + 4), oplLen := u16 b (e + 8),
    ninput := u8 b (e + 10), cost := u32 b (e + 12) }

/-- The graph in a TASK_GRAPH body (table 4.5). -/
def graphOf (sect : Nat) (b : List Byte) : GraphD :=
  { sect := sect, gid := u16 b 0, axis := u8 b 2, cls := u8 b 3, trigger := u8 b 4, trigArg := u8 b 5, deadline := u32 b 8,
    wcet := u32 b 12, tasks := (List.range (min 256 (u16 b 6))).map (taskEntry b),
    edges := (List.range (min 1024 (u16 b 16))).map (fun i =>
      (u16 b (u32 b 0x18 + 4 * i), u16 b (u32 b 0x18 + 4 * i + 2))) }

/-- The graphs of an image, in table order. -/
def imgGraphs (d : List Byte) : List GraphD :=
  (imgSects d).zipIdx.filterMap (fun e => if e.1.typ = 2 then some (graphOf e.2 (e.1.body d)) else none)

/-- A delivery source that table 5.3 defines. -/
def sourceOk (n : Nat) : Bool := decide (n ≤ 12) || inRange 16 31 n

/-- Tasks that lie on no cycle and behind none: a task is dropped once every task before it is dropped (`fuel` rounds). -/
def peel (fuel : Nat) (edges : List (Nat × Nat)) (left : List Nat) : List Nat :=
  match fuel with
  | 0 => left
  | fuel + 1 => peel fuel edges (left.filter (fun t => edges.any (fun e => e.2 == t && left.contains e.1)))

/-- Check 12, of one graph against the kiosk roles; of a cycle, ITEM is the lowest task on it or behind it (DESIGN CHOICE, log entry 41). -/
def checkGraph (roles : List Nat) (i : Nat) (b : List Byte) : Option LoadFail :=
  let g := graphOf i b
  let nt := u16 b 6
  let ne := u16 b 16
  (((must (inRange 1 256 nt && decide (ne ≤ 1024) && decide (g.cls ≤ 1) && decide (g.trigger ≤ 2) &&
      (if g.trigger = 0 then decide (g.trigArg ≤ 3) else if g.trigger = 1 then inRange 1 64 g.trigArg
        else decide (g.trigArg ≤ 127)) &&
      decide (32 ≤ b.length) && decide (u32 b 0x14 + 16 * nt ≤ b.length) && decide (u32 b 0x18 + 4 * ne ≤ b.length) &&
      u16 b 0x12 == 0 && decide (g.wcet ≤ g.deadline) && !(g.cls == 0 && g.trigger == 2)) 12 i 0).or
    (firstFail g.tasks (fun t k => must (decide (k.flags < 4) && u8 b (u32 b 0x14 + 16 * t + 11) == 0 &&
      (if bit k.flags 0 then decide (k.kiosk ≤ 23) && nth 0 roles k.kiosk == roleOf g.axis else k.kiosk == 0xFF)) 12 i t))).or
    (firstFail g.edges (fun e p => must (decide (p.2 < nt) &&
      (decide (p.1 < nt) || decide (0xFF00 ≤ p.1) && sourceOk (p.1 - 0xFF00))) 12 i e))).or
    ((peel 257 g.edges (List.range nt)).head?.map (fun t => { code := 12, sect := i, item := t }))

/-- Check 12: GRAPH. -/
def checkGraphs (d : List Byte) : Option LoadFail :=
  let roles := (slice (structBody d) 0 24).map (·.toNat)
  let l := imgSects d
  firstFail l (fun i c => if c.typ = 2 then
      (checkGraph roles i (c.body d)).or
        (must (!(l.take i).any (fun b => b.typ == 2 && u16 (b.body d) 0 == u16 (c.body d) 0)) 12 i 0)
    else none)

/-! ### Checks 13 and 14: OPERATOR and WINDOW -/

/-- Table 5.4: for each operand of an operator, whether it writes through it and the words it reaches (one where the manual
gives no number, or the words the rules of chapter 10 name); none for a number that is not in the catalogue. BLKCPY reaches `n` words. -/
def opShape (op n : Nat) : Option (List (Bool × Nat)) :=
  let w (k : Nat) : Bool × Nat := (true, k)
  let r (k : Nat) : Bool × Nat := (false, k)
  nth none [
    none, some [w 1, r 1], some [w 1, r 1, r 1], some [w 1, r 1, r 1], some [w 1, r 1, r 1], some [w 1, r 1, r 1, r 1],
    some [w 1, r 1, r 1], some [w 1, r 1], some [w 1, r 1], some [w 1, r 1, r 1], some [w 1, r 1, r 1],
    some [w 1, r 1, r 1, r 1], some [w 1, w 1, r 1], some [w 1, r 1, r 1], some [w 1, r 1], some [w 1, r 1, r 1, r 1],
    some [w 1, r 1, r 1, r 1], some [w 1, r 1, w 1, r 1], some [w 1, r 1, w 2, r 5], some [w 1, r 1, w 1, r 1],
    some [w 1, r 1, w 1, r 3], some [w 1, r 1, r 10, w 6, r 2], some [w 1, r 1, r 10, w 6, r 2],
    some [w 1, r 6, w 3, w 12, w 1], some [w 2, r 1, r 1, r 1], some [w 2, r 2, r 2], some [w 2, r 2, r 2],
    some [w 4, r 2, r 1, r 1], some [w 1, r 1, r 1, r 1], some [w 1, r 2, r 2, r 1], some [w 2, r 1, r 2],
    some [w 1, r 2, r 1, r 1], some [w 1, r 2, r 2, r 1], some [w 3, r 6, r 3, r 1], some [w 2, w 2, r 2, r 1],
    some [w 2, r 1, r 20], some [w 1, r 1, r 1], some [w 1, r 1, r 1], some [w n, r n, r 1], some [r 1], some [r 1],
    some [r 1], some [r 1]] op

/-- R137, R675: an operand word that Kegon does not reject: `len` is the length of the body that holds the operator list, `srcs` are the
sources that edges into the task name. -/
def operandOk (len : Nat) (srcs : List Nat) (w : Nat) (sh : Bool × Nat) : Bool :=
  let a := w % 2 ^ 24
  let e := a + 4 * sh.2
  bits w 27 24 == 0 &&
  match w / 2 ^ 28 with
  | 0 => decide (e ≤ 64)
  | 1 => decide (e ≤ 0x180000)
  | 2 => decide (e ≤ 0x8000)
  | 3 => !sh.1 && sourceOk (bits w 23 16) && srcs.contains (bits w 23 16)
  | 4 => !sh.1 && decide (e ≤ len)
  | 5 => decide (0x400000 ≤ a) && decide (e ≤ 0x413000)
  | _ => false

/-- The operand words of an operator entry at an offset of a body. -/
def operandWords (body : List Byte) (e : Nat) : List Nat :=
  (List.range (u8 body (e + 2))).map (fun j => u32 body (u32 body (e + 4) + 4 * j))

/-- Words that BLKCPY's load check counts: n where n lies in CONST, else one (R137). -/
def blkCount (body : List Byte) (ws : List Nat) : Nat :=
  let w := nth 0 ws 2
  if w / 2 ^ 28 = 4 ∧ w % 2 ^ 24 + 4 ≤ body.length then u32 body (w % 2 ^ 24) else 1

/-- Check 13, of one operator entry. -/
def opEntryOk (body : List Byte) (srcs : List Nat) (e : Nat) : Bool :=
  let ws := operandWords body e
  match opShape (u8 body e) (blkCount body ws) with
  | none => false
  | some sh =>
    u8 body (e + 2) == sh.length && u8 body (e + 1) == 0 && u8 body (e + 3) == 0 &&
      decide (u32 body (e + 4) + 4 * sh.length ≤ body.length) &&
      (ws.zip sh).all (fun p => operandOk body.length srcs p.1 p.2)

/-- The WINDOW section that holds a WINDOW task's operator list: the first that holds all of it, else the first in which it
begins. -/
def windowOf (d : List Byte) (k : TaskD) : Option (Nat × Sect) :=
  let l := (imgSects d).zipIdx.filter (fun e => e.1.typ == 9 && decide (k.oplOff < e.1.len))
  ((l.find? (fun e => decide (k.oplOff + 8 * k.oplLen ≤ e.1.len))).or l.head?).map (fun e => (e.2, e.1))

/-- Sources that edges into a task name. -/
def GraphD.sources (g : GraphD) (t : Nat) : List Nat :=
  g.edges.filterMap (fun e => if e.2 = t ∧ 0xFF00 ≤ e.1 then some (e.1 - 0xFF00) else none)

/-- Check 13: OPERATOR, of one task: ITEM of an entry counts from the first operator list of its body. -/
def checkTaskOps (d : List Byte) (g : GraphD) (t : Nat) (k : TaskD) : Option LoadFail :=
  let home : Option (Nat × List Byte × Nat) :=
    if bit k.flags 1 then (windowOf d k).map (fun e => (e.1, e.2.body d, 0))
    else
      let b := (sectEntry d g.sect).body d
      some (g.sect, b, u32 b 0x1C)
  match home with
  | none => must (inRange 1 1024 k.oplLen) 13 g.sect t
  | some (i, b, base) =>
    (must (inRange 1 1024 k.oplLen && decide (k.oplOff + 8 * k.oplLen ≤ b.length)) 13 g.sect t).or
      (firstFail (List.range k.oplLen) (fun j _ =>
        must (opEntryOk b (g.sources t) (k.oplOff + 8 * j)) 13 i ((k.oplOff + 8 * j - base) / 8)))

/-- Check 13: OPERATOR. -/
def checkOps (d : List Byte) : Option LoadFail :=
  (imgGraphs d).findSome? (fun g => firstFail g.tasks (checkTaskOps d g))

/-- Check 14: WINDOW. -/
def checkWindow (d : List Byte) (host : Bool) : Option LoadFail :=
  (firstFail (imgSects d) (fun i c => must (!(host && c.typ == 9)) 14 i 0)).or
    ((imgGraphs d).findSome? (fun g => firstFail g.tasks (fun t k =>
      must (!bit k.flags 1 || (g.cls != 0 && (windowOf d k).isSome)) 14 g.sect t)))

/-! ### Check 15: RECORD -/

/-- R106: a PARAM or RECIPE record; a PTYPE above 3 is none (DESIGN CHOICE, log entry 78). -/
def recordOk (r : List Byte) : Bool :=
  let v := u32 r 4
  let lo := u32 r 8
  let hi := u32 r 12
  let w (n : Nat) : Word := BitVec.ofNat 32 n
  match u8 r 2 with
  | 0 => fFinite (w v) && fFinite (w lo) && fFinite (w hi) && decide (fOrd (w lo) ≤ fOrd (w v)) && decide (fOrd (w v) ≤ fOrd (w hi))
  | 1 => decide (signed 32 lo ≤ signed 32 v) && decide (signed 32 v ≤ signed 32 hi)
  | 2 => decide (lo ≤ v) && decide (v ≤ hi)
  | 3 => (w lo &&& ~~~(w hi)) == 0 && (w v &&& w lo) == w lo && (w v &&& ~~~(w hi)) == 0
  | _ => false

/-- Table 4.8: a MAP record; unused pairs and reserved bytes are 0 (R675). -/
def mapRecordOk (r : List Byte) : Bool :=
  let n := u8 r 3
  let x (i : Nat) : Word := BitVec.ofNat 32 (u32 r (4 + 8 * i))
  decide (u8 r 2 ≤ 1) && inRange 2 8 n && isZero r (4 + 8 * n) (76 - 8 * n) &&
    (List.range (n - 1)).all (fun i => fLt (x i) (x (i + 1)))

/-- Records of a body. -/
def records (b : List Byte) (size : Nat) : List (List Byte) := (List.range (b.length / size)).map (fun i => slice b (size * i) size)

/-- Check 15, of the records of one section. -/
def checkRecords (d : List Byte) (i : Nat) (c : Sect) : Option LoadFail :=
  let b := c.body d
  if c.typ = 3 ∨ c.typ = 5 then
    firstFail (records b 16) (fun k r => must (recordOk r && u8 r 3 == 0 &&
      (k == 0 || decide (u16 b (16 * (k - 1)) < u16 r 0))) 15 i k)
  else if c.typ = 4 then firstFail (records b 80) (fun k r => must (mapRecordOk r) 15 i k)
  else if c.typ = 8 then
    firstFail (records b 8) (fun k r => must (u8 r 0 == 0xFF ||
      (decide (u8 r 0 ≤ 8) && decide (u8 r 1 ≤ 1) && decide (u8 r 2 ≤ 9) && u8 r 3 == 0)) 15 i k)
  else if c.typ = 10 then
    firstFail (records b 8) (fun k r => must (regsRecordOk (u32 r 0) (BitVec.ofNat 32 (u32 r 4))) 15 i k)
  else none

/-! ### Checks 16 to 18 -/

/-- Body of the section of a type, where there is one. -/
def bodyOfType (d : List Byte) (t : Nat) : Option (Nat × List Byte) :=
  (imgSects d).zipIdx.findSome? (fun e => if e.1.typ = t then some (e.2, e.1.body d) else none)

/-- Channel n exists (table 4.9). -/
def chanExists (d : List Byte) (n : Nat) : Bool :=
  match bodyOfType d 7 with
  | some (_, b) => bit (u32 b (4 * n)) 0
  | none => false

/-- Check 16: PERGOLA; TWO_D counts on channels that exist (DESIGN CHOICE, log entry 41). -/
def checkPergola (d : List Byte) : Option LoadFail :=
  match bodyOfType d 7 with
  | none => none
  | some (i, b) =>
    let w (n : Nat) : Nat := u32 b (4 * n)
    let two (n : Nat) : Nat := ((List.range (n + 1)).filter (fun k => bit (w k) 0 && bit (w k) 1)).length
    (firstFail (List.range 16) (fun n _ => must (decide (w n < 1024) &&
      (!bit (w n) 0 || (decide (1 ≤ bits (w n) 9 4) && (!bit (w n) 1 || decide (two n ≤ 4))))) 16 i n)).or
      (must (isZero b 0x46 10 && inRange 16 4096 (u16 b 0x44) &&
        inRegion (structRegions (structBody d)) 5 (u32 b 0x40) (16 * u16 b 0x44)) 16 i 0)

/-- Check 17: ROUTE. -/
def checkRoute (d : List Byte) : Option LoadFail :=
  match bodyOfType d 6 with
  | none => none
  | some (i, b) =>
    firstFail (List.range 128) (fun n _ =>
      let w := u32 b (4 * n)
      must (decide (w < 512) && (!bit w 3 || chanExists d (bits w 7 4)) &&
        (!bit w 2 || (imgGraphs d).any (fun g => g.trigger == 2 && g.trigArg == n))) 17 i n)

/-- Check 18: STAGE. -/
def checkStage (d : List Byte) : Option LoadFail :=
  must ((imgSects d).all (fun c => !c.isRuntime || decide (c.len ≤ u32 (structBody d) 0x2C))) 18 (structIx d) 0

end Sys2Proof.Machine
end

