-- ==== Sys2Proof/Machine/Reset.lean ====
section
/-! DEFINITION. Supplies, reset sources and what each reset keeps (spec/03_power_up_boot.md, R63 to R74, R95, R96, table 3.3). -/

namespace Sys2Proof.Machine

/-- A thermal-shutdown low ASC is in force in the die: none is still due after a short (R474, R481). -/
def Tr.holdsAsc (t : Tr) : Bool := t.thermal && t.due.isNone && t.soft % 64 == 0

/-- R71, R53: a Trellis die at a reset of the control die: every channel off, but for a thermal-shutdown low ASC, which it holds
with its settings (R488), the brake off (table 2.9); what is physical stays: gates not yet sensed off, the driver supply and its lockout,
the CMD pins. One that is only due yet, behind a soft turn-off, is not held and goes (DESIGN CHOICE, log entry 77). -/
def Tr.resetKeep (t : Tr) : Tr :=
  let asc := t.holdsAsc
  { Tr.reset with
    cmd := if asc then safeMask 1 else 0
    gates := if asc then t.gates % 64 else 0
    sense := t.sense
    soft := t.soft
    goff := t.goff
    rank := if asc then 5 else 0
    drvLow := t.drvLow
    vdrv := t.vdrv
    cmdPins := t.cmdPins
    thermal := asc
    quiet := t.quiet
    exitV := t.exitV
    lastSink := t.lastSink
    gap := t.gap
    onAt := t.onAt }

/-- R59: the die as a reset of the control die finds it: the channels that turn off then do so at their present sink steps. -/
def State.sinksAtReset (s : State) (x : Axis) : Tr :=
  let t := s.tr x
  { t with lastSink := (List.range 7).map (fun c =>
      if bit t.gates c && !bit t.soft c && !(t.holdsAsc && decide (c < 6)) then s.sinkStep x c else nth 0 t.lastSink c) }

/-- Energy below one count of MCx.E_MOT and E_REGEN stays with them (table 3.3). -/
def Ax.resetKeep (a : Ax) : Ax := { Ax.reset with eMot := a.eMot, eRegen := a.eRegen, secs := a.secs }

/-- The encoder input levels stand through a reset. -/
def Bank.resetKeep (b : Bank) : Bank :=
  { Bank.reset with encs := b.encs.map (fun e => { Enc.reset with qa := e.qa, qb := e.qb, qz := e.qz }) }

/-- R72: what every reset returns to its reset value. -/
def State.resetBlocks (s : State) : State :=
  { s.grtReset with
    shadow := []
    img := Img.none
    fab := State.reset.fab
    sources := []
    held := []
    axA := s.axA.resetKeep
    axB := s.axB.resetKeep
    svA := Svc.reset
    svB := Svc.reset
    trA := (s.sinksAtReset .a).resetKeep
    trB := (s.sinksAtReset .b).resetKeep
    tbA := Tb.reset
    tbB := Tb.reset
    sns := Sense.reset
    hah := s.hah.resetKeep
    pgl := Pgl.reset
    ice := Ice.reset
    wkt := Wkt.reset
    stc := Stc.reset
    reply := 0 }

/-- What a Trellis die still shows after a reset of the control die: a thermal-shutdown low ASC that outlasts it (R95). -/
def State.showAsc (s : State) (x : Axis) : State :=
  if (s.tr x).thermal then
    ((s.set (F.TR_SAFE_STAT_STATE x) ssLOW).set (F.TR_SAFE_STAT_ORIGIN x) 5).set (F.TR_SAFE_STAT_THERMAL x) 1
  else s

/-- Registers after a warm reset: the fields that table 0.5 keeps, every other at its reset value. -/
def warmRegs (l : List (Nat × Word)) : List (Nat × Word) :=
  l.foldl (fun m e => cset regPor m e.1 ((regPor e.1 &&& ~~~(keptMask e.1)) ||| (e.2 &&& keptMask e.1))) []

/-- RST_CAUSE bit of the cause of a warm reset (table 3.8); none for a reset with no cause of its own. -/
def causeBit (c : Option Fld) (s : State) : State :=
  match c with
  | some f => (s.set f 1).inc F.GH_RST_CAUSE_WARM_COUNT
  | none => s

/-- R72, R96: a warm reset: kept items stand, shared SRAM too; kiosk local memories become zero. -/
def State.warmReset (s : State) (cause : Option Fld) : State :=
  let s := { s.resetBlocks with
    regs := warmRegs s.regs
    mem := s.mem.filter (fun e => decide (e.1 < 0x200000))
    ecc1 := s.ecc1.filter (fun a => decide (a < 0x200000))
    ecc2 := s.ecc2.filter (fun a => decide (a < 0x200000))
    found := s.found.filter (fun e => decide (e.1 < 0x200000))
    org := { Org.reset with samples := s.org.samples, first := s.org.first } }
  causeBit cause ((((s.showAsc .a).showAsc .b).settle .a).settle .b)

/-- R72: a power-on reset; the clock that times gates starts at 0 with it, so no turn-on still waits. -/
def State.porReset (s : State) : State :=
  let s := { s.resetBlocks with
    die := .por
    regs := []
    mem := []
    ecc1 := []
    ecc2 := []
    found := []
    trA := { (s.sinksAtReset .a).resetKeep with gap := Tr.reset.gap, onAt := Tr.reset.onAt }
    trB := { (s.sinksAtReset .b).resetKeep with gap := Tr.reset.gap, onAt := Tr.reset.onAt }
    axA := Ax.reset
    axB := Ax.reset
    org := Org.reset
    sun := Sun.reset }
  (((s.showAsc .a).showAsc .b).settle .a).settle .b

/-- R68, R74, R43: the control die leaves reset, unless RESET_N or TMODE holds it: BOOTSEL is latched and the boot begins. -/
def State.leaveReset (s : State) (bootsel : Nat) : State :=
  let s := s.modPins (fun p => { p with bootsel := bootsel % 4 })
  if s.pins.tmode then s.toDie .tmode
  else if !s.pins.resetN then s.toDie .pinReset
  else (s.toDie .up).set F.GH_BOOT_STATUS_BOOTSEL (bootsel % 4)

/-- POR_EXIT: the supplies have risen: the die leaves POR, or waits for RESET_N (R65). -/
def execPorExit (bootsel : Nat) (s : State) : Host.Outcome State Fault Refusal :=
  .next (if s.die = .por then s.leaveReset bootsel else s)

/-- SUPPLY_BROWNOUT: a supply stays below its falling threshold for `ns`: POR beyond 1 µs, nothing below 0.2 µs, either in between
(R66; free). -/
def execSupplyBrownout (ns : Nat) (s : State) : Host.Outcome State Fault Refusal :=
  .next (
    if 1000 < ns then s.porReset
    else if ns < 200 then s
    else
      let p := s.freshBit
      if p.1 then p.2.porReset else p.2)

/-- RESET_PIN: RESET_N has been low for `ns`: a warm reset that lasts while it is low from 1 µs on (R68), nothing below 100 ns, and
in between a whole warm reset or nothing (R69; free). -/
def execResetPin (ns bootsel : Nat) (s : State) : Host.Outcome State Fault Refusal :=
  .next (
    if 1000 ≤ ns then
      let s := s.modPins (fun p => { p with resetN := false })
      match s.die with
      | .por => s
      | .up => (s.warmReset (some F.GH_RST_CAUSE_PIN)).toDie .pinReset
      | _ => s.warmReset (some F.GH_RST_CAUSE_PIN)
    else if ns < 100 then s
    else
      let p := s.freshBit
      if p.1 = true ∧ s.die = .up then (p.2.warmReset (some F.GH_RST_CAUSE_PIN)).leaveReset bootsel else p.2)

/-- RESET_PIN_RELEASE: RESET_N rises and the boot starts again (R68). -/
def execResetPinRelease (bootsel : Nat) (s : State) : Host.Outcome State Fault Refusal :=
  .next (
    let s := s.modPins (fun p => { p with resetN := true })
    if s.die = .pinReset then s.leaveReset bootsel else s)

/-- TMODE_HIGH: the level of TMODE: high, both Trellis dies hold all-off and the control die is held in reset (R43); when it falls,
the die leaves reset (the manual states no exit; one that the thermal shutdown holds in reset stays there until R529 lets it go), and a thermal-shutdown low ASC that a Trellis die still holds turns its low sides on
again (DESIGN CHOICE, log entry 38). -/
def execTmodeHigh (high : Bool) (bootsel : Nat) (s : State) : Host.Outcome State Fault Refusal :=
  .next (
    let s := s.modPins (fun p => { p with tmode := high })
    if high then
      let s := if s.die = .por ∨ s.die = .thermal then s else (s.warmReset none).toDie .tmode
      (s.settle .a).settle .b
    else
      let s := (s.settle .a).settle .b
      if s.die = .tmode then s.leaveReset bootsel else s)

/-- PLL_LOCK: the reference PLL locks, after a POR, where islands 2 to 14 start (R173), or again after code 33, whose cause ends
(table 15.2; R503 requires no reset). -/
def execPllLock (s : State) : Host.Outcome State Fault Refusal :=
  .next (
    if s.isUp then
      (s.modSun (fun u => { u with pll := true })).setCause 0 33 false
    else s)

/-- R70: a keyed write of GH.RST_CTRL with SOFT or REBOOT, which records REBOOT where both are 1; refused while a bridge is
enabled, unless FORCE is 1. -/
def State.rstWrite (s : State) (by_ : Writer) (w : Word) (bootsel : Nat) : State :=
  let soft := fieldOf F.GH_RST_CTRL_SOFT w == 1
  let reboot := fieldOf F.GH_RST_CTRL_REBOOT w == 1
  if fieldOf F.GH_RST_CTRL_KEY w == 0xC35A && (soft || reboot) then
    if s.anyBridge && fieldOf F.GH_RST_CTRL_FORCE w == 0 then s.note by_ rfRunning
    else (s.warmReset (some (if reboot then F.GH_RST_CAUSE_REBOOT else F.GH_RST_CAUSE_SOFT))).leaveReset bootsel
  else s

/-- R85, R86, R93: the host may write GH.RST_CTRL: the Grotto values are latched, and the state is not LOCKED. -/
def State.rstOpen (s : State) : Bool :=
  s.isUp && s.fld F.GH_BOOT_STATUS_STATE != 0 && s.fld F.GH_BOOT_STATUS_STATE != 7

/-- SOFT: a write of GH.RST_CTRL with SOFT = 1. -/
def execSoft (w : Word) (bootsel : Nat) (s : State) : Host.Outcome State Fault Refusal :=
  .next (if s.rstOpen && fieldOf F.GH_RST_CTRL_SOFT w == 1 then s.rstWrite .host w bootsel else s)

/-- REBOOT: a write of GH.RST_CTRL with REBOOT = 1. -/
def execReboot (w : Word) (bootsel : Nat) (s : State) : Host.Outcome State Fault Refusal :=
  .next (if s.rstOpen && fieldOf F.GH_RST_CTRL_REBOOT w == 1 then s.rstWrite .host w bootsel else s)

/-- THERMAL_RESTART: the die has stayed below 125 °C for 1 s: a warm boot with THERMAL set (R529). -/
def execThermalRestart (bootsel : Nat) (s : State) : Host.Outcome State Fault Refusal :=
  .next (
    if s.die = .thermal then
      let s := s.warmReset (some F.GH_RST_CAUSE_THERMAL)
      (s.modOrg (fun o => { o with halted := true })).leaveReset bootsel
    else s)

end Sys2Proof.Machine
end

