-- ==== Sys2Proof/Machine/Boot.lean ====
section
/-! DEFINITION. The boot (spec/03_power_up_boot.md, R74 to R95), the application of an image (spec/04_parterre_image.md, R97 to R116,
R673 to R678), the host load (R78, R79, R91, R113) and section updates (R117 to R123). -/

namespace Sys2Proof.Machine

/-! ### Steps 2 to 4: the Grotto, the calibration slot and the key -/

/-- The Grotto words as latched. -/
def State.keyOk (s : State) : Bool := keyValid s.latched
@[inherit_doc State.keyOk] def State.reqEnc (s : State) : Bool := bit (s.latched 9).toNat 0

/-- R542: step 2: every word is read at both thresholds, and the used values are latched; a weak bit is reported at RUNNING. -/
def State.bootGrotto (s : State) (reads : List GrtRead) : State :=
  let s := s.otpRead reads
  let s := s.modOtp (fun o => { o with latched := [], blown := [], differ := [] })
  let s := s.forEach (List.range 128) (fun s a =>
    let w := s.used a
    s.modOtp (fun o => { o with latched := cset otpZero o.latched a w }))
  let p := s.weakFind
  let s := p.1.setB F.GH_BOOT_STATUS_WEAK p.2.isSome
  let s := match p.2 with
    | some a => s.hold 46 4 0 a
    | none => s
  let s := (s.setB F.GH_BOOT_STATUS_KEY_VALID s.keyOk).setB F.GRT_STAT_KEY_VALID s.keyOk
  let s := (s.setB F.GH_BOOT_STATUS_REQ_ENC s.reqEnc).setB F.GRT_STAT_REQ_ENC s.reqEnc
  (s.set F.GH_IMG_VER_FLOOR (ctrValue s.latched 0)).showCounters.showSlots

/-- R557, R556: the highest VALID slot; none where no slot is VALID. -/
def slotChosen (v : Nat → Word) : Option Nat := [3, 2, 1, 0].find? (fun n => slotState v n == 1)

/-- A slot above the slot in use is BROKEN. -/
def slotBroken (v : Nat → Word) : Bool :=
  match slotChosen v with
  | some n => (List.range 4).any (fun k => decide (n < k) && slotState v k == 2)
  | none => true

/-- Bits that the fields of a register cover. -/
def fieldsMask (a : Nat) : Word := fieldMask (regFields a) (fun _ => true)

/-- R557, R558: load the live values from a slot. -/
def State.loadSlot (s : State) (n : Nat) : State :=
  let v (i : Nat) : Word := s.latched (0x40 + 16 * n + i)
  let s := s.set F.GH_BOOT_STATUS_CAL_SLOT n
  let s := s.forEach (List.range 10) (fun s i =>
    let s := s.set (F.SNS_CAL_OFS i) (fieldOf (F.SNS_CAL_OFS i) (v i))
    let g := fieldOf (F.SNS_CAL_GAIN i) (v i)
    if inRange 0x6000 0xA000 g then s.set (F.SNS_CAL_GAIN i) g
    else (s.set (F.SNS_CAL_GAIN i) 0x8000).fault 51 4 i 0)
  let s := s.set F.ORG_CAL_OFS (fieldOf F.ORG_CAL_OFS (v 10))
  s.forEach [Axis.a, Axis.b] (fun s x => s.wr (A.STC_TRIM x) (v (11 + x.ix) &&& fieldsMask (A.STC_TRIM x)))

/-- R76: no slot is VALID: offsets of zero and gains of one. -/
def State.loadNoSlot (s : State) : State :=
  let s := s.forEach (List.range 10) (fun s i => (s.set (F.SNS_CAL_OFS i) 0).set (F.SNS_CAL_GAIN i) 0x8000)
  let s := s.set F.ORG_CAL_OFS 0
  let s := s.forEach [Axis.a, Axis.b] (fun s x => s.wr (A.STC_TRIM x) 0)
  s.modSns (fun n => { n with noSlot := true })

/-- R76, R557: step 3. -/
def State.bootSlot (s : State) : State :=
  let v := s.latched
  let s := match slotChosen v with
    | some n => s.loadSlot n
    | none => s.loadNoSlot
  if slotBroken v then
    (s.set F.GH_BOOT_STATUS_SLOT_MISMATCH 1).forEach (List.range 10) (fun s i =>
      s.faultOn 45 4 i ((slotChosen v).getD 0xFF))
  else s

/-! ### Step 5: reading the flash -/

/-- R595: the highest MODE of table 19.1 that the flash supports. -/
def FlashId.mode (id : FlashId) : Nat :=
  if !id.signature then 0 else if id.xspi && id.octalSeq then 3 else if id.quad && id.quadReq == 0 then 2 else 1

/-- Table 19.1: the read command of a MODE. -/
def readCommand (mode : Nat) : Nat := nth 0 [0x03, 0x0B, 0xEB, 0xEE11] mode

/-- Table 19.1: the address as a MODE sends it, 4 bytes in MODE 3 and 3 in the others, the first byte first. -/
def readAddress (mode a : Nat) : List Byte :=
  (List.range (if mode = 3 then 4 else 3)).reverse.map (fun i => BitVec.ofNat 8 (a / 256 ^ i))

/-- R595: the probe's choice; of modes 1 and 0 the manual states no dummy clocks: free (log entry 55). -/
def State.probe (s : State) (id : FlashId) : State :=
  let mode := id.mode
  let freq := nth 0 [25, 50, 104, min 166 id.octalFreq] mode
  let dum := nth 0 [Config.freeNat s.free, Config.freeNat s.free, id.quadDum, id.octalDum] mode
  let s := ((s.spent.set F.ICE_CFG_MODE mode).set F.ICE_CFG_FREQ freq).set F.ICE_CFG_DUMMY dum
  (s.set F.ICE_CFG_PROBED 1).set F.ICE_SIZE_BYTES (if mode = 0 then 0 else id.size)

/-- R605: a transaction fails for good. -/
def State.iceError (s : State) (kind source addr : Nat) : State :=
  let s := ((s.set F.ICE_ERR_KIND kind).set F.ICE_ERR_SOURCE source).set F.ICE_ERR_ADDR addr
  ((s.set F.ICE_STAT_ERR_SEEN 1).inc F.ICE_CNT_ERRORS).event 80

/-- Flash address of transaction k of a load: the header's at 0, then the body's of up to 4096 bytes (R595, R596; log entry 55). -/
def loadAt (k : Nat) : Nat := if k = 0 then 0 else 64 + 4096 * (k - 1)

/-- How often each transaction of a load stopped, up to and with the first that failed its retry; strobes time out in MODE 3 alone (table
19.3, R605). -/
def FlashTry.stops (t : FlashTry) : List Nat :=
  if t.id.mode = 3 then t.timeouts.take ((t.timeouts.takeWhile (fun n => decide (n < 2))).length + 1) else []

/-- Address of the transaction that fails in a try. -/
def FlashTry.failAt (t : FlashTry) : Option Nat :=
  if t.stops.any (fun n => decide (2 ≤ n)) then some (loadAt (t.stops.length - 1)) else none

/-- Bytes of the flash from address 0. -/
def FlashTry.data (t : FlashTry) (n : Nat) : List Byte := t.bytes.take n ++ List.replicate (n - t.bytes.length) 0

/-- The retries and the failure of a try's transactions below an address are counted and shown (R605). -/
def State.tryCount (s : State) (t : FlashTry) (upTo : Nat) : State :=
  let n := ((List.range t.stops.length).filter (fun k => decide (loadAt k < upTo) && nth 0 t.stops k != 0)).length
  let s := s.incBy F.ICE_CNT_RETRIES n
  match t.failAt with
  | some a => if a < upTo then s.iceError 1 0 a else s
  | none => s

/-- A try returns a valid header (R77, R98). -/
def FlashTry.headerOk (t : FlashTry) : Bool :=
  Sys2Proof.Machine.headerOk (t.data 64) && (match t.failAt with | some a => decide (64 ≤ a) | none => true)

/-! ### Placing sections -/

/-- Write bytes of a load: valid check bits throughout. -/
def State.placeBytes (s : State) (a : Nat) (bs : List Byte) : State :=
  (s.forEach (linesOf a bs.length) State.eccClear).setBytes a bs

/-- Copies of a section in SRAM (R107). -/
def Sect.copies (c : Sect) : List Nat := if c.isRuntime then [c.dest, up32 (c.dest + c.len)] else [c.dest]

/-- R101, R107, R113: the section bodies of an image at their destinations, in table order. -/
def State.placeSects (s : State) (d : List Byte) : State :=
  s.forEach ((imgSects d).filter Sect.inSram) (fun s c => s.forEach c.copies (fun s a => s.placeBytes a (c.body d)))

/-- R112: zero over every SRAM byte that a flash load wrote: it read `upTo` bytes of the image. -/
def State.zeroSects (s : State) (d : List Byte) (upTo : Nat) : State :=
  s.forEach ((imgSects d).filter Sect.inSram) (fun s c =>
    s.forEach c.copies (fun s a =>
      let n := min (min c.len (upTo - c.off)) (0x180000 - a)
      s.placeBytes a (List.replicate n 0)))

/-! ### Step 6: authentication, policy, version -/

/-- R80, R81: RESULT of the first failed condition (table 3.7), 0 where all hold. -/
def State.accept (s : State) (d : List Byte) : Nat :=
  let key := if s.keyOk then deriveKey (keyBytes (keyWords s.latched)) 3 else List.replicate 32 0
  if !macOk key d then 3
  else if imgEnc d && !s.keyOk then 4
  else if !imgEnc d && s.reqEnc then 5
  else if u16 d 6 < ctrValue s.latched 0 then 6
  else 0

/-! ### Step 7: the registers of an image (R673, R674) -/

/-- What the image gives the machine beside registers and memory. -/
def State.imgOf (s : State) (d : List Byte) : Img :=
  let b := structBody d
  { version := u16 d 6, tbMax := u8 d 0x0F, floorReq := u8 d 0x16, enc := imgEnc d, zeroKey := !s.keyOk,
    nonce := slice d 0x18 12, roles := (slice b 0 24).map (·.toNat), axisEn := u8 b 0x18, senseA := u8 b 0x19,
    senseB := u8 b 0x1A, ainOwner := u32 b 0x1C, hahOwner := u32 b 0x20, sddOwner := u16 b 0x24, posA := u8 b 0x26,
    posB := u8 b 0x27, stageBase := u32 b 0x28, stageSize := u32 b 0x2C, regions := structRegions b, sects := imgSects d,
    graphs := imgGraphs d }

/-- R673: the ROUTE fields of the EVENT_ROUTE words (table 4.9). -/
def State.applyRoutes (s : State) (b : List Byte) : State :=
  s.forEach (List.range 128) (fun s n =>
    let w := u32 b (4 * n)
    (((((s.set (F.LDG_ROUTE_IRQ0 n) (bits w 0 0)).set (F.LDG_ROUTE_IRQ1 n) (bits w 1 1)).set (F.LDG_ROUTE_KIOSK n)
      (bits w 2 2)).set (F.LDG_ROUTE_PGL n) (bits w 3 3)).set (F.LDG_ROUTE_PGL_CH n) (bits w 7 4)).set (F.LDG_ROUTE_WKT n)
      (bits w 8 8))

/-- R673: the Pergola registers of the PERGOLA body; both copies of PRIO and SHARE; of a channel that does not exist every bit is 0 (R607). -/
def State.applyPergola (s : State) (b : List Byte) : State :=
  let s := s.forEach (List.range 16) (fun s n =>
    let w := BitVec.ofNat 32 (u32 b (4 * n))
    let w := if bit w.toNat (F.PGL_CH_CFG_EXISTS n).lo then w else 0
    (s.wr (A.PGL_CH_CFG n) w).wrSh (A.PGL_CH_CFG n) w)
  (s.set F.PGL_RING_CFG (u16 b 0x44)).set F.PGL_RING_BASE (u32 b 0x40)

/-- R392, R673: a COMP section sets both banks: bank 0 is active. -/
def State.applyComp (s : State) (x : Axis) (b : List Byte) : State :=
  s.forEach (records b 8) (fun s r =>
    if u8 r 0 = 0xFF then s
    else
      let f := F.MC_BANK x (u8 r 0) (u8 r 2)
      if u8 r 1 = 0 then s.set f (u32 r 4) else s.setSh f (u32 r 4))

/-- LOOP_DIV field of a compensator. -/
def loopDivFld (x : Axis) (c : Nat) : Option Fld :=
  match c with
  | 2 | 8 => some (F.MC_LOOP_DIV_SP x)
  | 3 => some (F.MC_LOOP_DIV_BV x)
  | 4 => some (F.MC_LOOP_DIV_PW x)
  | 5 => some (F.MC_LOOP_DIV_TH x)
  | 6 => some (F.MC_LOOP_DIV_TT x)
  | _ => none

/-- R389, R376, R673: the compensator that an operator runs gives its divider and its form; LOOP_DIV holds divider − 1. -/
def State.applyOp (s : State) (x : Axis) (g : GraphD) (op : Nat) (ws : List Nat) : State :=
  if op = 0x15 ∨ op = 0x16 then
    match compOf x (BitVec.ofNat 32 (nth 0 ws 2)) with
    | some c =>
      let s := if g.trigger = 1 then
          match loopDivFld x c with
          | some f => s.set f (g.trigArg - 1)
          | none => s
        else s
      s.setBit (F.MC_CMP_GRP_FORM x) c (op == 0x16)
    | none => s
  else s

/-- Body that holds a task's operator list: its graph's, or for a WINDOW task that of its WINDOW section. -/
def oplBody (d : List Byte) (g : GraphD) (k : TaskD) : List Byte :=
  if bit k.flags 1 then (match windowOf d k with | some e => e.2.body d | none => []) else (sectEntry d g.sect).body d

/-- R389, R376, R673: MCx.LOOP_DIV and CMP_GRP.FORM from the operator lists of the axis graphs. -/
def State.applyGraphs (s : State) (d : List Byte) : State :=
  s.forEach (imgGraphs d) (fun s g =>
    match ([Axis.a, Axis.b].find? (fun x => x.ix == g.axis)) with
    | none => s
    | some x =>
      s.forEach g.tasks (fun s k =>
        let b := oplBody d g k
        s.forEach (List.range k.oplLen) (fun s j =>
          let e := k.oplOff + 8 * j
          s.applyOp x g (u8 b e) (operandWords b e))))

/-- A REGS record of an image names a register. -/
def imgNames (d : List Byte) (a : Nat) : Bool :=
  (imgSects d).any (fun c => c.typ == 10 && (records (c.body d) 8).any (fun r => u32 r 0 == a))

/-- R674: registers whose lowest value the image limits, and which it does not name: PERIOD (R176), STR_x (R450), the expert registers
of R331. -/
def State.builtFit (s : State) (d : List Byte) : State :=
  s.forEach [Axis.a, Axis.b] (fun s x =>
    let s := if imgNames d (A.PW_PERIOD x) then s else s.setBoth (F.PW_PERIOD_TICKS x) (s.periodLeast x)
    let s := s.forEach (List.range 3) (fun s p =>
      if imgNames d (A.TR_STR x p) then s else s.wr (A.TR_STR x p) (s.stepsLeast x))
    s.forEach [F.MC_X_FW_KI x, F.MC_X_FW_IDMIN x, F.MC_X_FW_MODMAX x, F.MC_X_PLL_KP x, F.MC_X_PLL_KI x, F.MC_X_DIS_BAND x,
      F.MC_X_RES_BAND x, F.MC_X_ACC_MAX x, F.MC_X_DEC_MAX x, F.MC_X_JERK_MAX x]
      (fun s f => if imgNames d f.reg then s else s.setW f (s.xLeast x (f.reg % 0x1000))))

/-- R673, R674: every img field takes its value. -/
def State.applyRegs (s : State) (d : List Byte) : State :=
  let s := s.builtIns
  s.forEach (imgSects d) (fun s c =>
    let b := c.body d
    if c.typ = 10 then s.forEach (records b 8) (fun s r => s.regsRecord (u32 r 0) (BitVec.ofNat 32 (u32 r 4)))
    else if c.typ = 6 then s.applyRoutes b
    else if c.typ = 7 then s.applyPergola b
    else if c.typ = 8 then (if c.owner = 0 then s.applyComp .a b else s.applyComp .b b)
    else s) |>.applyGraphs d |>.builtFit d

/-- R673: the register at an address takes a record's word as far as other registers limit it, which stand as the image gives them
(DESIGN CHOICE, log entry 41). -/
def State.recordFits (s : State) (a : Nat) (w : Word) : Bool :=
  [Axis.a, Axis.b].all (fun x =>
    (a != A.PW_PERIOD x || s.periodTakes x (fieldOf (F.PW_PERIOD_TICKS x) w)) &&
      ([0, 1, 2].all (fun p => a != A.TR_STR x p || s.stepsTake x w)) &&
      (a / 0x1000 != 0x407 + x.ix || s.xTakes x (a % 0x1000) w))

/-- Check 15 of the REGS records, with the registers the image would give (`s` holds them). -/
def State.checkFits (s : State) (d : List Byte) (i : Nat) (c : Sect) : Option LoadFail :=
  if c.typ = 10 then
    firstFail (records (c.body d) 8) (fun k r => must (u32 r 0 == 0xFFFFFFFF || s.recordFits (u32 r 0) (BitVec.ofNat 32 (u32 r 4))) 15 i k)
  else none

/-! ### Load checks that need the registers of the image (R676, R677) -/

/-- R676: an enabled axis has its inputs. -/
def State.inputsOk (s : State) (x : Axis) : Bool :=
  let one := s.topo x == 1
  if s.sigmaDelta x then
    [0, 1, 2, 3].all (fun q => (q == 2 && one) || s.sddOwner (4 * x.ix + q) == x.ix + 1)
  else
    [0, 1, 2, 3].all (fun q => (q == 2 && one) ||
      (decide (s.fld (mapFld x q) < 16) && s.ainOwner (s.fld (mapFld x q)) == x.ix + 1))

/-- R677: the records that every enabled axis needs, maps as 0xF000 + MAP_ID. -/
def needAll : List Nat :=
  [0x0701, 0x0703, 0x0705, 0x0707, 0x0900, 0x0901, 0x0904, 0x0A00, 0x0A01, 0x0A02, 0x0A03, 0x0A11, 0x0B00, 0x0B01, 0x0E03,
    0x1000, 0xF001, 0xF002, 0xF003, 0xF004]

/-- R677: records that START_METHOD needs (tables 10.1, 10.11, R333). -/
def needStart (m : Nat) : List Nat :=
  (if m = 1 ∨ m = 2 then [0x0A13, 0xF005, 0xF006] else []) ++ (if m = 1 then [] else [0x0A17, 0x0A19])

/-- R677: records that MODE.FW_EN, LOOP_EN.BV, MODE.REF = POSITION, SAFE_CFG.CSC_EN and identification need. -/
def needFw : List Nat := [0x0908, 0x0909]
@[inherit_doc needFw] def needBv : List Nat := [0x0B05]
@[inherit_doc needFw] def needPos : List Nat := [0x0C03, 0x0C04, 0x0C05]
@[inherit_doc needFw] def needCsc : List Nat := [0x0E00, 0x0E01, 0x0E02]
@[inherit_doc needFw] def needIdent : List Nat := [0x0A28, 0x0A29, 0x0A2A]

/-- The PARAM record of an axis with an ID in an image, and the MAP records. -/
def imgParam (d : List Byte) (x : Axis) (id : Nat) : Option (List Byte) :=
  (imgSects d).findSome? (fun c =>
    if c.typ == 3 && c.owner == x.ix then (records (c.body d) 16).find? (fun r => u16 r 0 == id) else none)
@[inherit_doc imgParam] def imgHas (d : List Byte) (x : Axis) (id : Nat) : Bool :=
  if 0xF000 ≤ id then
    (imgSects d).any (fun c => c.typ == 4 && c.owner == x.ix && (records (c.body d) 80).any (fun r => u16 r 0 == id - 0xF000))
  else (imgParam d x id).isSome

/-- A PARAM record's VALUE is above 0. -/
def recPositive (r : List Byte) : Bool :=
  let w := BitVec.ofNat 32 (u32 r 4)
  if u8 r 2 = 0 then fLt fZero w else if u8 r 2 = 1 then decide (0 < w.toInt) else !(w == 0)

/-- R677: the records that an enabled axis needs, with registers as the image gives them. -/
def State.imgNeeds (s : State) (d : List Byte) (x : Axis) : List Nat :=
  let inj := match imgParam d x 0x0A01 with | some r => recPositive r | none => false
  needAll ++ (if s.pos x = 3 ∨ s.pos x = 4 then [0x0801] else []) ++
    (if s.flag (F.MC_MODE_FW_EN x) then needFw else []) ++
    (if inj then [0x0A13, 0xF005, 0xF006] else []) ++ needStart (s.fld (F.MC_BLV_CTRL_START_METHOD x)) ++
    (if s.flag (F.MC_LOOP_EN_BV x) then needBv else []) ++ (if s.fld (F.MC_MODE_REF x) = 2 then needPos else []) ++
    (if s.flag (F.TR_SAFE_CFG_CSC_EN x) then needCsc else [])

/-- Lowest of some numbers. -/
def leastOf (l : List Nat) : Option Nat := l.foldl (fun m n => match m with | none => some n | some k => some (min k n)) none

/-- Check 11, R676 and check 15, R677, with the registers the image would give (`s` holds them); of several missing records, the one with
the lowest ID is reported (DESIGN CHOICE, log entry 41). -/
def State.checkInputs (s : State) (d : List Byte) : Option LoadFail :=
  firstFail [Axis.a, Axis.b] (fun i x => must (!s.axisOn x || s.inputsOk x) 11 (structIx d) i)
@[inherit_doc State.checkInputs] def State.checkNeeds (s : State) (d : List Byte) : Option LoadFail :=
  firstFail [Axis.a, Axis.b] (fun i x =>
    if s.axisOn x then (leastOf ((s.imgNeeds d x).filter (fun id => !imgHas d x id))).map (fun id =>
      { code := 15, sect := 0xFE - i, item := id })
    else none)

/-- R114: the first failing check of table 4.10; the order inside one check is a DESIGN CHOICE (log entry 78). -/
def State.loadCheck (s : State) (d : List Byte) (host : Bool) : Option LoadFail :=
  let one := ((checkHeader d).or (checkTable d)).or ((checkType d).or (checkCount d))
  let two := (checkRegion d).or (if host then checkOrder d else none)
  match (one.or two).or (checkStruct d) with
  | some e => some e
  | none =>
    let t := (({ s with img := s.imgOf d }).placeSects d).applyRegs d
    let three := ((t.checkInputs d).or (checkOwners d)).or ((checkGraphs d).or (checkOps d))
    let four := ((checkWindow d host).or (firstFail (imgSects d) (fun i c => (checkRecords d i c).or (t.checkFits d i c)))).or
      (t.checkNeeds d)
    (three.or four).or (((checkPergola d).or (checkRoute d)).or (checkStage d))

/-! ### RUNNING -/

/-- R509: order of raises at one instant: by code, then AXIS_A, AXIS_B, every other scope. -/
def heldKey (h : Held) : Nat := 3 * h.code + (if h.scope = 1 then 0 else if h.scope = 2 then 1 else 2)
@[inherit_doc heldKey] def heldInsert (h : Held) (l : List Held) : List Held :=
  match l with
  | [] => [h]
  | e :: r => if heldKey h < heldKey e then h :: e :: r else e :: heldInsert h r

/-- Causes of an axis that are present as RUNNING begins (table 15.2). -/
def State.presentAxis (s : State) (x : Axis) : List Held :=
  let sc := scAxis x
  let c (b : Bool) (code unit detail : Nat) : List Held :=
    if b then [{ code := code, scope := sc, unit := unit, detail := detail }] else []
  ((List.range 7).flatMap (fun g => c (bit (s.tr x).goff g) 6 g 0)) ++ c (s.cause sc 7) 7 0 0 ++
    c (s.tr x).drvLow 8 0 (s.tr x).vdrv ++ c (s.toffLow x) 9 0 0 ++
    c (s.axisOn x && decide (s.img.tbMax < s.fld F.ORG_TJ_BAND)) 22 0 (s.fld F.ORG_TJ_BAND)

/-- Words of memory still uncorrectable, as the running image owns them (table 5.1). -/
def State.presentWords (s : State) : List Held :=
  s.found.filterMap (fun e : Nat × Nat × Nat =>
    let w := e.1
    let k := s.wordKind w
    if k = 1 then some { code := 18, scope := 1, unit := 1, detail := w }
    else if k = 2 then some { code := 18, scope := 2, unit := 2, detail := w }
    else if k = 3 then some { code := 18, scope := 3, unit := 3, detail := w }
    else if k = 6 then (s.sectAt w).map (fun c =>
      if c.owner < 2 then { code := 18, scope := 1 + c.owner, unit := 6, detail := w }
      else { code := 35, scope := 0, unit := 6, detail := w })
    else none)

/-- The raises of code 48 that other raises at the same instant bring about (R553, R555), by counter. -/
def State.satRaises (s : State) (l : List Held) : List Nat :=
  (l.flatMap (fun h => grtCounters h.code h.scope)).filter (fun k => s.getBit F.GRT_STAT_SAT k)

/-- R508, R509: at RUNNING every fault whose cause is present and every fault held is raised, once for each code, scope and UNIT, in
ascending code order: the raises of code 48 that others bring about stand among those of code 48. -/
def State.raiseHeld (s : State) : State :=
  let words := s.presentWords
  let new := s.presentAxis .a ++ s.presentAxis .b ++ words
  let s := s.spent.spent.setFound (words.map (fun h : Held => (h.detail, h.code, h.scope)))
  let s := s.forEach new (fun s h => s.setCause h.scope h.code true)
  let all := new.foldl (fun l h => if l.any (fun e => e.code == h.code && e.scope == h.scope && e.unit == h.unit) then l
    else l ++ [h]) s.held
  let s := s.setHeld []
  let l := all.foldl (fun l h => heldInsert h l) []
  let put (s : State) (h : Held) : State := s.faultNow h.code h.scope h.unit h.detail
  let sat := s.satRaises l
  let s := s.forEach (l.filter (fun h => h.code < 48)) put
  let s := s.forEach (l.flatMap (fun h => grtCounters h.code h.scope)) (fun s k =>
    if s.getBit F.GRT_STAT_SAT k then s else s.inc (grtPend k))
  let s := s.forEach sat (fun s k => (s.faultNow 48 4 k 0).event 103)
  s.forEach (l.filter (fun h => 48 ≤ h.code)) put

/-- States in which the axes start: OFF where the image disables the axis, whose channels are off (R105; log entry 40), else LOCKOUT by its
record (table 3.3), SAFE by R95, or OFF; the first window of the driver estimate begins (R536, R537); coefficients and Cascade (R391, table 14.11), and the effective period of R196, whatever a
REGS record gave PERIOD_EFF (DESIGN CHOICE, log entry 76). -/
def State.startAxis (s : State) (x : Axis) : State :=
  let st := if !s.axisOn x then axOFF
    else if s.flag (lockoutFld x) then axLOCKOUT else if (s.tr x).thermal then axSAFE else axOFF
  let s := (s.set (F.MC_STATE_STATE x) st).set (F.PW_PERIOD_EFF_TICKS x) (s.periodWanted x)
  let s := (s.modTr x (fun t => { t with again := st == axSAFE, edgeN := List.replicate 128 0 })).set (F.TR_VBS_VDRV x) (s.tr x).vdrv
  let s := s.cascadeShow x
  let s := if s.bridgeOn x then s.compsZero x else s
  if s.axisOn x then s.serviceApply x else s.settle x

/-- BOOT_TIME.US: microseconds from leaving reset, saturating. -/
def State.bootTime (s : State) (us : Nat) : State := s.set F.GH_BOOT_TIME_US (min us 0xFFFFFF)

/-- R75, step 8: the control die enters RUNNING. -/
def State.enterRunning (s : State) (host : Bool) (us : Nat) : State :=
  let s := ((s.set F.GH_BOOT_STATUS_STATE 5).setB F.GH_BOOT_STATUS_SRC host).setB F.GH_BOOT_STATUS_ENCRYPTED s.img.enc
  let s := ((s.set F.GH_BOOT_STATUS_RESULT 1).set F.GH_IMG_VER_VERSION s.img.version).bootTime us
  let s := (s.set F.HB_PACE_LIM_BAND_FLOOR (bandFloor (s.fld F.ORG_TJ_BAND))).set F.HB_PACE_LIM_IMG_FLOOR (bandFloor s.img.tbMax)
  let s := (s.startAxis .a).startAxis .b
  let hot := s.org.halted
  let s := (s.modOrg (fun o => { o with rise := [0, 0], halted := false })).modOtp (fun o => { o with verify := o.verify / 2 * 2 + 1 })
  let s := s.set F.SNS_SAR_WIN_W_NOW (s.fld (winFld (s.fld F.ORG_TJ_BAND)))
  let found (c : Nat) : Bool := s.held.any (fun h => h.code == c)
  let weak := found 46
  let differ := found 47
  let s := s.raiseHeld
  let s := if weak then s.event 100 else s
  let s := if differ then s.event 102 else s
  let s := if host then s.event 82 else s
  if hot then s.event 99 else s

/-! ### The no-image state (R90) -/

/-- R90: the state without an image; LOCKED goes before both others. -/
def State.noImage (s : State) (us : Nat) : State :=
  let mode := s.fld F.GH_BOOT_STATUS_BOOTSEL
  (s.set F.GH_BOOT_STATUS_STATE (if !s.keyOk && s.reqEnc then 7 else if mode = 1 ∨ mode = 2 then 2 else 6)).bootTime us

/-- R82, R83: a load fails with a RESULT; LOAD_DETAIL names a failing check (R678). -/
def State.loadFails (s : State) (result : Nat) (e : Option LoadFail) : State :=
  let s := s.set F.GH_BOOT_STATUS_RESULT result
  match e with
  | some e => ((s.set F.GH_LOAD_DETAIL_CODE e.code).set F.GH_LOAD_DETAIL_SECT e.sect).set F.GH_LOAD_DETAIL_ITEM e.item
  | none => s

/-- Steps 6 and 7 on the bytes of an image: the state in which it is applied, or the failure (RESULT and load check). -/
def State.applyImage (s : State) (d : List Byte) (host : Bool) : State ⊕ (Nat × Option LoadFail) :=
  match s.accept d with
  | 0 =>
    let p := imgPlain (keyBytes (keyWords s.latched)) d
    match s.loadCheck p host with
    | some e => .inr (7, some e)
    | none =>
      let t := s.placeSects p
      .inl ((t.modImg (fun _ => t.imgOf p)).applyRegs p)
  | r => .inr (r, none)

/-- A flash load fails: what it wrote becomes zero, FALLBACK is set in mode 10, and the no-image state follows. -/
def State.flashFails (s : State) (d : List Byte) (upTo result : Nat) (e : Option LoadFail) (us : Nat) : State :=
  let s := (s.zeroSects d upTo).loadFails result e
  (if s.fld F.GH_BOOT_STATUS_BOOTSEL = 2 then s.set F.GH_BOOT_STATUS_FALLBACK 1 else s).noImage us

/-- Steps 5 to 8 from flash with the try that returned a valid header (R77). -/
def State.flashLoad (s : State) (t : FlashTry) (us : Nat) : State :=
  let n := imgLength (t.data 64)
  let size := s.fld F.ICE_SIZE_BYTES
  if size ≠ 0 ∧ size < n then s.flashFails [] 0 2 none us
  else
    let d := t.data n
    let s := s.tryCount t n
    let cut := match t.failAt with | some a => if a < n then some a else none | none => none
    match cut with
    | some a => s.flashFails d a 2 none us
    | none =>
      match s.applyImage d false with
      | .inl s => s.enterRunning false us
      | .inr (r, e) => s.flashFails d n r e us

/-- Steps 5 to 8, by the boot mode (table 3.4). -/
def State.bootLoad (s : State) (t1 t2 : FlashTry) (us : Nat) : State :=
  match s.fld F.GH_BOOT_STATUS_BOOTSEL with
  | 3 => (s.loadFails 9 none).noImage us
  | 1 => s.noImage us
  | _ =>
    let s := (s.wr A.GH_LOAD_DETAIL 0).probe t1.id
    if t1.headerOk then s.flashLoad t1 us
    else
      let s := (s.tryCount t1 64).probe t2.id
      if t2.headerOk then s.flashLoad t2 us
      else (s.tryCount t2 64).flashFails [] 0 2 none us

/-- BOOT_SEQUENCE: the whole boot, R75: `reads` gives the Grotto words that read otherwise than before, `t1` and `t2` what the two
flash attempts return, `us` the time from leaving reset. -/
def execBootSequence (reads : List GrtRead) (t1 t2 : FlashTry) (us : Nat) (s : State) : Host.Outcome State Fault Refusal :=
  .next (
    if s.isUp && s.fld F.GH_BOOT_STATUS_STATE == 0 && s.sun.pll && !s.org.first then
      (s.bootGrotto reads).bootSlot.bootLoad t1 t2 us
    else s)

/-! ### Host load -/

/-- R78, R79, R91, R112, R113: a write of GH.HOST_LOAD; with GO it starts a load in WAIT_HOST. A load whose trailer fails has written
nothing. -/
def State.hostLoad (s : State) (w : Word) (us : Nat) : State :=
  let n := fieldOf F.GH_HOST_LOAD_LEN w
  let s := s.set F.GH_HOST_LOAD_LEN n
  if fieldOf F.GH_HOST_LOAD_GO w = 1 then
    let s := s.wr A.GH_LOAD_DETAIL 0
    let fails (s : State) (r : Nat) (e : Option LoadFail) : State := ((s.loadFails r e).noImage us).event 82
    let len := min n 0x180000
    let s := s.forEach (linesOf 0 len) (fun s a => (s.checkWord32 none a).2)
    let d := s.bytes 0 len
    if n = 0 ∨ 0x180000 < n ∨ headerOk d = false ∨ imgLength d ≠ n then fails s 8 none
    else
      match s.applyImage d true with
      | .inl s => s.enterRunning true us
      | .inr (r, e) => fails (if r = 3 then s else s.zeroSects d n) r e
  else s

/-- HOST_LOAD_GO: a write of GH.HOST_LOAD with GO = 1 in WAIT_HOST; `us`: the time from leaving reset. -/
def execHostLoadGo (w : Word) (us : Nat) (s : State) : Host.Outcome State Fault Refusal :=
  .next (
    if s.isUp && s.fld F.GH_BOOT_STATUS_STATE == 2 && fieldOf F.GH_HOST_LOAD_GO w == 1 then s.hostLoad w us else s)

/-! ### Section updates -/

/-- The two MAP records agree in MAP_ID, KIND and NPTS, the two others in ID, PTYPE, MIN and MAX (R118). -/
def layoutKept (typ : Nat) (old new : List Byte) : Bool :=
  if typ = 4 then slice old 0 4 == slice new 0 4 else slice old 0 3 == slice new 0 3 && slice old 8 8 == slice new 8 8

/-- R118: RESULT and ITEM of the first failing record of a staged body. -/
def stageFail (typ : Nat) (old new : List Byte) : Option (Nat × Nat) :=
  let size := if typ = 4 then 80 else 16
  ((records old size).zip (records new size)).zipIdx.findSome? (fun e =>
    if !layoutKept typ e.1.1 e.1.2 then some (4, e.2)
    else if (if typ = 4 then mapRecordOk e.1.2 else recordOk e.1.2) then none
    else some (5, e.2))

/-- Owner axis of a section. -/
def Sect.axis (c : Sect) : Option Axis := if c.owner = 0 then some .a else if c.owner = 1 then some .b else none

/-- R119, R120, R338, R391: the updated copy becomes active; tasks released before keep the old body; the other copy takes the new one. A task is
released when its graph is; a graph released at the very instant of the swap uses the new copy (DESIGN CHOICE, log entry 44). -/
def State.sectSwap (s : State) : State :=
  let i := s.fld F.GH_SECT_STATUS_SECT
  match s.img.sects[i]? with
  | none => s
  | some c =>
    let old := s.bytes c.base c.len
    let keep (q : Inst) : Inst :=
      if q.start = s.ticks ∨ q.bodies.any (fun e => e.1 == i) = true then q else { q with bodies := q.bodies ++ [(i, old)] }
    let s := s.modFab (fun b => { b with insts := b.insts.map keep })
    let s := s.copyOver c.base c.spare c.len
    let s := s.modImg (fun m => { m with sects := setNth m.sects i { c with copy1 := !c.copy1 } })
    let s := ((s.set F.GH_SECT_STATUS_BUSY 0).set F.GH_SECT_UPD_GO 0).set F.GH_SECT_STATUS_RESULT 1
    let s := match c.axis with
      | some x =>
        let s := if (c.typ == 3 || c.typ == 4) && s.axisOn x then s.serviceApply x else s
        (s.onlyIf (c.typ == 3) (fun s => s.sectShow x c.spare (c.len / 16))).pllShow x
      | none => (s.pllShow .a).pllShow .b
    s.event 82

/-- An update that waits for the next sample instant of an axis (R119). -/
def State.sectWaits (s : State) (x : Axis) : Bool :=
  s.flag F.GH_SECT_STATUS_BUSY &&
    (match s.img.sects[s.fld F.GH_SECT_STATUS_SECT]? with | some c => c.axis == some x | none => false)

/-- The section update is judged and, where accepted, copied into the inactive copy (R117 to R119, R26); an uncorrectable word of the
staged body, or of the present one, which it is compared with, ends it as LAYOUT (DESIGN CHOICE, log entry 44). -/
def State.sectUpdate (s : State) (i : Nat) (c : Sect) : State :=
  let stage := s.img.stageBase
  let size := if c.typ = 4 then 80 else 16
  let ends (s : State) (r item : Nat) : State :=
    ((s.set F.GH_SECT_STATUS_RESULT r).set F.GH_SECT_STATUS_ITEM item).event 82
  let s := s.set F.GH_SECT_STATUS_SECT i
  let lost (a : Nat) : List Nat := ((linesOf a c.len).filter (fun w => s.ecc2.contains w)).map (fun w => (max w a - a) / size)
  let bad := (lost stage ++ lost c.base).min?
  let s := s.forEach (linesOf stage c.len ++ linesOf c.base c.len) (fun s w => (s.checkWord32 none w).2)
  match bad with
  | some r => ends s 4 r
  | none =>
    let new := s.bytes stage c.len
    match stageFail c.typ (s.bytes c.base c.len) new with
    | some (r, item) => ends s r item
    | none =>
      let s := s.writeOver c.spare new
      let s := ((s.set F.GH_SECT_STATUS_BUSY 1).set F.GH_SECT_UPD_GO 1).set F.GH_SECT_STATUS_ITEM 0
      match c.axis with
      | some x => if s.flag (F.PW_CTRL_EN x) then s else s.sectSwap
      | none => s.sectSwap

/-- R117, R121: a write of GH.SECT_UPD. -/
def State.sectWrite (s : State) (w : Word) : State :=
  let i := fieldOf F.GH_SECT_UPD_SECT w
  if fieldOf F.GH_SECT_UPD_GO w = 0 then s.set F.GH_SECT_UPD_SECT i
  else if s.flag F.GH_SECT_STATUS_BUSY then s.set F.GH_SECT_STATUS_RESULT 2
  else
    let s := s.set F.GH_SECT_UPD_SECT i
    match s.img.sects[i]? with
    | some c => if c.isRuntime then s.sectUpdate i c else (s.set F.GH_SECT_STATUS_RESULT 3).set F.GH_SECT_STATUS_SECT i
    | none => (s.set F.GH_SECT_STATUS_RESULT 3).set F.GH_SECT_STATUS_SECT i

/-- SECT_UPD: a write of GH.SECT_UPD with GO = 1. -/
def execSectUpd (w : Word) (s : State) : Host.Outcome State Fault Refusal :=
  .next (s.running (fun s => if fieldOf F.GH_SECT_UPD_GO w = 1 then s.sectWrite w else s))

/-- SECTION_SWAP: a sample instant of the owning axis, with an update waiting (R119). -/
def execSectionSwap (x : Axis) (s : State) : Host.Outcome State Fault Refusal :=
  .next (s.running (fun s => if s.sectWaits x then s.sectSwap else s))

end Sys2Proof.Machine
end

