-- ==== Sys2Proof/Machine/Kiosk.lean ====
section
/-! DEFINITION. Tasks on kiosks (spec/05_kiosks_fabric.md, R12, R135, R142 to R155, R158 to R161): triggers, deliveries, dispatch,
stealing, completion, abandonment, locks, and the pace gate. -/

namespace Sys2Proof.Machine

/-- Change the task that runs on kiosk k. -/
def State.modRun (s : State) (k : Nat) (f : Run → Run) : State := s.modKiosk k (fun q => { q with run := q.run.map f })

/-- GRAPH_ID of graph g. -/
def State.gid (s : State) (g : Nat) : Nat := match s.graphD g with | some d => d.gid | none => 0

/-- Owner of graph g: 0 axis A, 1 axis B, 3 background (table 4.5). -/
def State.graphOwner (s : State) (g : Nat) : Nat := match s.graphD g with | some d => d.axis | none => 3

/-! ### Locks (R152, R153) -/

/-- Locks that the task on kiosk k holds. -/
def State.locksOf (s : State) (k : Nat) : List Nat := (List.range 16).filter (fun l => nth none s.fab.locks l == some k)

/-- HB.LOCKS shows the locks held. -/
def State.showLocks (s : State) : State :=
  s.set F.HB_LOCKS_HELD ((List.range 16).foldl (fun m l => if (nth none s.fab.locks l).isSome then m + 2 ^ l else m) 0)

/-- Give lock l to kiosk k, or free it. -/
def State.putLock (s : State) (l : Nat) (k : Option Nat) : State :=
  (s.modFab (fun b => { b with locks := setNth b.locks l k })).showLocks

/-- A lock is freed: one of the tasks that wait for it obtains it (which one is free: no order is stated). -/
def State.freeLock (s : State) (l : Nat) : State :=
  let s := s.putLock l none
  let w := (List.range 24).filter (fun k => match (s.kiosk k).run with | some r => r.lock == some l | none => false)
  match w with
  | [] => s
  | _ =>
    let p := s.freshNat
    let k := nth 0 w (p.1 % w.length)
    (p.2.putLock l (some k)).modRun k (fun r => { r with lock := none })

/-! ### A task ends -/

/-- R142: whether a task set NUMERIC in two consecutive releases. -/
def State.numericEnd (s : State) (r : Run) : State :=
  let key := (r.graph, r.task)
  let rest := s.fab.numPrev.filter (fun e => !(e == key))
  let was := s.fab.numPrev.contains key
  let s := s.modFab (fun b => { b with numPrev := if r.numeric then key :: rest else rest })
  if r.numeric && was then
    match s.graphOwner r.graph with
    | 0 => s.axisFault .a 16 0 (s.gid r.graph)
    | 1 => s.axisFault .b 16 0 (s.gid r.graph)
    | _ => s
  else s

/-- The task on kiosk k leaves it, with its locks. -/
def State.leave (s : State) (k : Nat) (r : Run) (st : TStat) : State :=
  let l := s.locksOf k
  let s := (s.modKiosk k (fun q => { q with run := none })).setTStat r.graph r.task st
  (s.forEach l State.freeLock).numericEnd r

/-- R160: a deadline graph whose last task has ended later than (1 − m) × DEADLINE. -/
def State.lateCheck (s : State) (g : Nat) : State :=
  match s.graphD g, s.instOf g with
  | some d, some i =>
    if d.cls = 0 ∧ i.tasks.all (fun t => t == .done) = true ∧ (100 - i.margin) * d.deadline < 250 * (s.ticks - i.start) then
      match d.axis with
      | 0 => (s.inc F.HB_LATE_LATE_A).fault 32 1 0 d.gid
      | 1 => (s.inc F.HB_LATE_LATE_B).fault 32 2 0 d.gid
      | _ => s.fault 32 3 0 d.gid
    else s
  | _, _ => s

/-- R154, R155, R167: kiosk k's task is abandoned, with a detail of table 5.6, or 0 where that names none (DESIGN CHOICE, log entry 79). -/
def State.abandonQuiet (s : State) (k detail : Nat) (r : Run) : State :=
  let s := ((s.inc F.HB_ABANDON_COUNT).set F.HB_ABANDON_DETAIL detail).set F.HB_ABANDON_KIOSK k
  ((s.set F.HB_ABANDON_GRAPH (s.gid r.graph)).leave k r .gone).endInst r.graph

/-- R155: and "task abandoned" is raised for the task's role. -/
def State.abandon (s : State) (k detail : Nat) : State :=
  match (s.kiosk k).run with
  | none => s
  | some r =>
    let d := detail * 65536 + s.gid r.graph
    let s := s.abandonQuiet k detail r
    match s.graphOwner r.graph with
    | 0 => s.axisFault .a 17 k d
    | 1 => s.axisFault .b 17 k d
    | _ => s.fault 17 3 k d

/-- COST of the task that runs on kiosk k. -/
def State.runCost (s : State) (r : Run) : Nat := match s.taskD r.graph r.task with | some d => d.cost | none => 0

/-- The section bodies of an instance in place of those that updates have put there since its release (R120). -/
def State.bodiesAt (s : State) (l : List (Nat × List Byte)) : State :=
  s.forEach l (fun s b => match s.img.sects[b.1]? with | some c => s.setBytes c.base b.2 | none => s)

/-- R494: Cascade's duty is formed: fitted, in service, the axis in ARMED to BRAKE or in SAFE other than torque-off and
driver-supply undervoltage. -/
def State.brakeServes (s : State) (x : Axis) : Bool :=
  let st := s.axState x
  s.flag (F.TR_SAFE_CFG_CSC_EN x) && s.fld (F.TR_CSC_STAT_STATE x) == 0 &&
    (inRange 1 6 st || (st == 7 && s.safe x != 4 && s.fld (F.TR_SAFE_STAT_ORIGIN x) != 7))

/-- R494: round(duty × 16T) at a bus voltage, half way either way; open where BRK_ON is BRK_FULL or the voltage is no number. -/
def State.brakeValue (s : State) (x : Axis) (vbus : Word) (t : Nat) : Nat :=
  let on := s.paramQ x 0x0E00 (0, 1)
  let span := qSub (s.paramQ x 0x0E01 (0, 1)) on
  if span.1 = 0 ∨ fFinite vbus = false then Config.freeNat s.free % (16 * t + 1)
  else
    let duty := qDiv (qSub (fVal vbus) on) span
    if qLe duty (0, 1) then 0
    else if qLe (1, 1) duty then 16 * t
    else (qRound (Config.tieUp s.free) (qMul duty (16 * t, 1))).toNat

/-- R494: as a period graph ends it writes CMP_BK, from its own section bodies (R120) and the VBUS and the T that it was delivered, or the latest; the value waits for the
next valley or wrap (table 6.5), or acts at once while the timebase stands still (R26). -/
def State.brakeWrite (s : State) (x : Axis) (i : Inst) : State :=
  let rec_ (n : Nat) : List Word := ((i.recs.find? (fun e => e.1 == n)).map (·.2)).getD (s.src x.ix n)
  let t := match (rec_ 0)[3]? with | some w => w.toNat | none => s.fld (F.PW_PERIOD_EFF_TICKS x)
  let v := if s.brakeServes x then (s.bodiesAt i.bodies).brakeValue x (nth 0 (rec_ 4) 0) t else 0
  let s := s.spent.setSh (F.PW_CMP_BK_D x) v
  if s.flag (F.PW_CTRL_EN x) then s else s.take (F.PW_CMP_BK_D x)

/-- What the end of a task's graph brings: a period graph all of whose tasks have ended writes CMP_BK (R494). -/
def State.graphEnd (s : State) (g : Nat) : State :=
  match s.graphD g, s.instOf g with
  | some d, some i =>
    let s := if d.trigger = 0 ∧ d.axis < 2 ∧ i.tasks.all (fun t => t == .done) = true then
        s.brakeWrite (if d.axis = 1 then .b else .a) i
      else s
    s.endInst g
  | _, _ => s

/-- R12, R143, R160: kiosk k's task ends, with 4 micro-steps more: its outputs are delivered, unless they take it beyond four times its
COST (R154). -/
def State.complete (s : State) (k : Nat) : State :=
  match (s.kiosk k).run with
  | none => s
  | some r =>
    if 4 * s.runCost r < r.steps + 4 then s.abandon k 1
    else (((s.leave k r .done).lateCheck r.graph).deliver r.graph r.task).graphEnd r.graph

/-! ### A task starts -/

/-- R148: a task goes before another. -/
def QTask.before (a b : QTask) : Bool :=
  match a.dl, b.dl with
  | some x, some y => decide (x < y) || (x == y && decide (a.rel < b.rel))
  | some _, none => true
  | none, some _ => false
  | none, none => decide (a.rel < b.rel)

/-- R148: the task with the earliest absolute deadline, among equals the one released earlier. -/
def earliest (l : List QTask) : Option QTask :=
  l.foldl (fun best q => match best with | none => some q | some b => if q.before b then some q else best) none

/-- A queued task starts on kiosk k: zero scratch, 4 micro-steps for dispatch (R136, R143). -/
def State.startOn (s : State) (k : Nat) (q : QTask) : State :=
  (s.modKiosk k (fun ki => { ki with
    run := some { graph := q.graph, task := q.task, scratch := List.replicate 16 0, numeric := false, steps := 4, stalled := none,
                  lock := none, ops := 0, est := 0, rel := q.rel } })).setTStat q.graph q.task .running

/-- Take a task from the queue of a kiosk; a task that waits for room is then placed (R147). -/
def State.unqueue (s : State) (v : Nat) (q : QTask) : State :=
  s.modKiosk v (fun ki => { ki with queue := ki.queue.filter (fun e => !(e == q)) })

/-- A kiosk that may take a task: it has a role and runs none. -/
def State.kioskFree (s : State) (k : Nat) : Bool :=
  decide (k < 24) && s.role k != 0 && (s.kiosk k).run.isNone

/-- GRAPH_TRIGGER: the Bandstand acts on the oldest trigger it has been signalled (R145, R389). -/
def execGraphTrigger (s : State) : Host.Outcome State Fault Refusal :=
  .next (s.running (fun s =>
    match s.fab.trigs with
    | [] => s
    | t :: r => (s.modFab (fun b => { b with trigs := r })).releaseAt t))

/-- The graphs of an owner (0 axis A, 1 axis B, 3 background) that run. -/
def State.runningOf (s : State) (owner : Nat) : List Nat :=
  (s.fab.insts.map (·.graph)).filter (fun g => s.graphOwner g == owner)

/-- A source that an owner's graphs may be delivered (table 5.3): AIN inputs the owner owns; to the background TEMP and its AIN
inputs alone. -/
def State.mayDeliver (s : State) (owner n : Nat) : Bool :=
  if 16 ≤ n ∧ n < 32 then s.ainOwner (n - 16) == (if owner = 3 then 3 else owner + 1)
  else if owner = 3 then n == 12 else decide (n ≤ 12)

/-- SOURCE_DELIVERY: a delivery source arrives for the running graphs of an owner that name it, with its latest record (R12, R13,
R217, table 5.3); the loops of an axis receive the inputs it gives (R380). -/
def execSourceDelivery (owner n : Nat) (s : State) : Host.Outcome State Fault Refusal :=
  .next (s.running (fun s =>
    if s.mayDeliver owner n then
      let s := if n = 12 then s.putSrc owner 12 s.tempRecord else s
      let s := s.forEach ([Axis.a, Axis.b].filter (fun x => x.ix == owner)) State.loopInputs
      let rec_ := s.src owner n
      s.forEach (s.runningOf owner) (fun s g =>
        match s.graphD g, s.instOf g with
        | some d, some i =>
          if (d.outEdges (0xFF00 + n)).all (fun e => i.seen.contains e) then s
          else (s.putInst { i with recs := (n, rec_) :: i.recs.filter (fun e => !(e.1 == n)) }).deliver g (0xFF00 + n)
        | _, _ => s)
    else s))

/-- TASK_DISPATCH: a free kiosk takes the task of its queue with the earliest absolute deadline (R148). -/
def execTaskDispatch (k : Nat) (s : State) : Host.Outcome State Fault Refusal :=
  .next (s.running (fun s =>
    if s.kioskFree k then
      match earliest (s.kiosk k).queue with
      | some q => ((s.unqueue k q).startOn k q).placeReady
      | none => s
    else s))

/-- The other kiosks of k's role, in ascending cyclic order after k (R149). -/
def State.victims (s : State) (k : Nat) : List Nat :=
  ((List.range 23).map (fun i => (k + 1 + i) % 24)).filter (fun v => s.role v == s.role k)

/-- The roaming task that R148 would choose on a victim's queue (R149). -/
def State.loot (s : State) (v : Nat) : Option QTask :=
  earliest ((s.kiosk v).queue.filter (fun q => match s.taskD q.graph q.task with | some d => !bit d.flags 0 | none => false))

/-- R149 to R151: one rotation of kiosk k over its victims: `lost` are those whose task another kiosk claims at the same time and
obtains. -/
def State.rotate (s : State) (k : Nat) (lost : List Nat) (vs : List Nat) : State :=
  match vs with
  | [] => s.modKiosk k (fun q => { q with resting := true })
  | v :: r =>
    match s.loot v with
    | none => s.rotate k lost r
    | some q =>
      if lost.contains v then (s.inc F.HB_STEAL_LOST).rotate k lost r
      else (((s.unqueue v q).startOn k q).inc F.HB_STEAL_TAKEN).placeReady

/-- STEAL_ATTEMPT: a kiosk with an empty queue tries the other kiosks of its role (R149 to R151). -/
def execStealAttempt (k : Nat) (lost : List Nat) (s : State) : Host.Outcome State Fault Refusal :=
  .next (s.running (fun s =>
    if s.kioskFree k = true ∧ (s.kiosk k).queue = [] ∧ (s.kiosk k).resting = false then s.rotate k lost (s.victims k) else s))

/-- A task runs on kiosk k and waits for nothing. -/
def State.runOf (s : State) (k : Nat) : Option Run :=
  match (s.kiosk k).run with
  | some r => if r.stalled.isNone && r.lock.isNone then some r else none
  | none => none

/-- TASK_COMPLETE: the task on kiosk k ends (R12, R142, R160). -/
def execTaskComplete (k : Nat) (s : State) : Host.Outcome State Fault Refusal :=
  .next (s.running (fun s => match s.runOf k with | some _ => s.complete k | none => s))

/-- TASK_OVERRUN: the task on kiosk k, which has waited `waited` micro-steps beside those of its operators, has run for more than
four times its COST (R154). -/
def execTaskOverrun (k waited : Nat) (s : State) : Host.Outcome State Fault Refusal :=
  .next (s.running (fun s =>
    match (s.kiosk k).run with
    | some r => if 4 * s.runCost r < r.steps + waited then s.abandon k 1 else s
    | none => s))

/-- LOCK_WAIT_TIMEOUT: an ACQ on kiosk k has waited `us` (R153). -/
def execLockWaitTimeout (k us : Nat) (s : State) : Host.Outcome State Fault Refusal :=
  .next (s.running (fun s =>
    match (s.kiosk k).run with
    | some r => if r.lock.isSome = true ∧ 100 < us then s.abandon k 3 else s
    | none => s))

/-! ### Pace (R158, R159, R161) -/

/-- The count of one cluster's gate: its registers, and its consecutive gates below the floor of TB_MAX (R159). -/
def State.paceCluster (s : State) (c count : Nat) : State :=
  let n := min count 0xFFFF
  let s := (s.set (F.HB_PACE_LAST c) n).set (F.HB_PACE_MIN c) (min n (s.fld (F.HB_PACE_MIN c)))
  let run := if count < s.fld F.HB_PACE_LIM_IMG_FLOOR then nth 0 s.fab.paceRun c + 1 else 0
  s.modFab (fun b => { b with paceRun := setNth b.paceRun c run })

/-- R159: a cluster below the floor of TB_MAX in two consecutive gates. -/
def State.paceFloor (s : State) (c count : Nat) : State :=
  let run := nth 0 s.fab.paceRun c
  if run = 2 then ((s.setBit F.HB_PACE_STAT_BELOW_FLOOR c true).setCause 0 34 true).fatal 34 c count
  else if 2 < run then s.setBit F.HB_PACE_STAT_BELOW_FLOOR c true
  else s

/-- R158: a cluster below the floor of the present band. -/
def State.paceBand (s : State) (c count : Nat) : State :=
  if count < s.fld F.HB_PACE_LIM_BAND_FLOOR then (s.setBit F.HB_PACE_STAT_BELOW_BAND c true).fault 37 0 c count else s

/-- PACE_GATE: a 10 µs gate ends with the clusters' counts (R158, R159), its faults in code order (R509); a band change takes effect
from the next gate (R161). -/
def execPaceGate (counts : List Nat) (s : State) : Host.Outcome State Fault Refusal :=
  .next (s.running (fun s =>
    let clusters (s : State) (f : State → Nat → Nat → State) : State :=
      s.forEach (List.range 4) (fun s c => f s c (nth 0xFFFF counts c))
    let s := clusters (clusters (clusters s State.paceCluster) State.paceFloor) State.paceBand
    let s := if s.fab.paceRun.all (fun n => decide (n < 2)) then s.setCause 0 34 false else s
    s.set F.HB_PACE_LIM_BAND_FLOOR (bandFloor (s.fld F.ORG_TJ_BAND))))

/-- R170: a write of HB.CNT_CLR zeroes the totals it names. -/
def State.hbCntClr (s : State) (w : Word) : State :=
  let on (f : Fld) : Bool := fieldOf f w == 1
  let s := s.onlyIf (on F.HB_CNT_CLR_MISS_A) (fun s => s.set (F.HB_MISS_TOTAL .a) 0)
  let s := s.onlyIf (on F.HB_CNT_CLR_MISS_B) (fun s => s.set (F.HB_MISS_TOTAL .b) 0)
  let s := s.onlyIf (on F.HB_CNT_CLR_LATE) (fun s => s.wr A.HB_LATE 0)
  let s := s.onlyIf (on F.HB_CNT_CLR_PACE_MIN) (fun s => s.forEach (List.range 4) (fun s c => s.set (F.HB_PACE_MIN c) 0xFFFF))
  let s := s.onlyIf (on F.HB_CNT_CLR_STEAL) (fun s => s.wr A.HB_STEAL 0)
  let s := s.onlyIf (on F.HB_CNT_CLR_ECC) (fun s => s.wr A.HB_ECC 0)
  s.onlyIf (on F.HB_CNT_CLR_ABANDON) (fun s => s.set F.HB_ABANDON_COUNT 0)

/-- HB_CNT_CLR: a write of HB.CNT_CLR (R170). -/
def execHbCntClr (w : Word) (s : State) : Host.Outcome State Fault Refusal := .next (s.running (fun s => s.hbCntClr w))

end Sys2Proof.Machine
end

