-- ==== Sys2Proof/Machine/Pergola.lean ====
section
/-! DEFINITION. The Pergola DMA engine (spec/20_dma.md, R607 to R634). -/

namespace Sys2Proof.Machine

/-! ### Descriptors (table 20.2) -/

/-- A word of a descriptor. -/
def dW (d : List Word) (i : Nat) : Nat := (nth 0 d i).toNat

/-- LAST, EVT, REC and TWO_D. -/
def dLast (d : List Word) : Bool := bit (dW d 0) 8
@[inherit_doc dLast] def dEvt (d : List Word) : Bool := bit (dW d 0) 9
@[inherit_doc dLast] def dRec (d : List Word) : Bool := bit (dW d 0) 10
@[inherit_doc dLast] def dTwo (d : List Word) : Bool := bit (dW d 0) 11

/-- SRC_KIND: 0 memory, 1 and 2 the capture FIFO of axis A and B. -/
def dKind (d : List Word) : Nat := bits (dW d 0) 13 12

/-- Bytes of the largest burst. -/
def dBurst (d : List Word) : Nat := 32 * 2 ^ bits (dW d 0) 18 16

/-- R613: a fetched descriptor that breaks no rule; `two`: the channel may run two-dimensional descriptors. -/
def descOk (two : Bool) (d : List Word) : Bool :=
  let w := dW d
  let t := dTwo d
  let hi (i : Nat) : Bool := w i / 2 ^ 24 == 0
  let total := descTotal d
  bits (w 0) 15 14 == 0 && bits (w 0) 31 19 == 0 && decide (bits (w 0) 18 16 ≤ 4) && dKind d != 3 && hi 1 && hi 2 && hi 4 && hi 6 &&
    hi 7 &&
    (if t then
      two && dKind d == 0 && bits (w 3) 15 0 != 0 && bits (w 3) 31 16 != 0 && bits (w 5) 15 0 != 0 && bits (w 5) 31 16 != 0 &&
        total == bits (w 5) 15 0 * bits (w 5) 31 16 && decide (total ≤ 0xFFFFFF)
    else
      hi 3 && total != 0 && w 5 == 0 && w 6 == 0 && w 7 == 0)

/-- Address of byte i of a side of a transfer: base word, word of the line length and count, word of the stride. -/
def sideAddr (d : List Word) (base lines stride i : Nat) : Int :=
  if dTwo d then
    let n := max 1 (bits (dW d lines) 15 0)
    (dW d base : Int) + (i / n : Nat) * signed 24 (dW d stride) + (i % n : Nat)
  else (dW d base : Int) + i

/-- Source and destination address of byte i of a transfer (R612). -/
def srcAddr (d : List Word) (i : Nat) : Int := sideAddr d 1 3 6 i
@[inherit_doc srcAddr] def dstAddr (d : List Word) (i : Nat) : Int := sideAddr d 2 5 7 i

/-- Bytes left of a line of a side at byte i. -/
def lineLeft (d : List Word) (lines i : Nat) : Nat :=
  if dTwo d then
    let n := max 1 (bits (dW d lines) 15 0)
    n - i % n
  else descTotal d - i

/-- R616: bytes of the burst at byte `i`, before its credit shortens it. -/
def burstMost (d : List Word) (i : Nat) : Nat :=
  let m := dBurst d
  let edge := m - ((dstAddr d i) % (m : Int)).toNat
  min edge (min (lineLeft d 5 i) (descTotal d - i))

/-- Runs of consecutive source bytes within `n` bytes from byte i, as address and length (`fuel` runs). -/
def srcRuns (d : List Word) (fuel i n : Nat) : List (Int × Nat) :=
  match fuel with
  | 0 => []
  | fuel + 1 =>
    if n = 0 then []
    else
      let k := max 1 (min n (lineLeft d 3 i))
      (srcAddr d i, k) :: srcRuns d fuel (i + k) (n - k)

/-- The source runs of a burst. -/
def burstRuns (d : List Word) (i n : Nat) : List (Int × Nat) := srcRuns d (n + 1) i n

/-- R614: a byte that Pergola reaches as a destination, or as a source. -/
def pglDstOk (a : Int) : Bool := decide (0 ≤ a) && memImplemented a.toNat
@[inherit_doc pglDstOk] def pglSrcOk (a : Int) : Bool :=
  pglDstOk a || (decide (0x800000 ≤ a) && decide (a < 0x1000000))

/-- A byte of the flash aperture (R603). -/
def inAperture (a : Int) : Bool := decide (0x800000 ≤ a)

/-- The first byte of a run that fails a test. -/
def badByte (ok : Int → Bool) (a : Int) (n : Nat) : Option Int :=
  ((List.range n).map (fun i => a + (i : Int))).find? (fun b => !ok b)

/-- Words of 32 bytes that a run touches. -/
def runWords (r : Int × Nat) : List Nat := linesOf r.1.toNat r.2

/-- R618: charge of a burst: 32 bytes for each word it reads or writes; a capture FIFO costs none. -/
def burstCharge (d : List Word) (rs : List (Int × Nat)) (dst : Int × Nat) : Nat :=
  32 * ((if dKind d = 0 then ((rs.map (fun r => (runWords r).length)).sum) else 0) + (runWords dst).length)

/-- The charge of `n` bytes from byte i. -/
def chargeOf (d : List Word) (i n : Nat) : Nat := burstCharge d (burstRuns d i n) (dstAddr d i, n)

/-- R616, R619: bytes of the burst at byte `i` with a credit: the most whose charge fits the credit rounded up to a whole word, or, where no
byte's does, the most that cost no more than one byte (log entry 56). -/
def burstLen (d : List Word) (i : Nat) (credit : Int) : Nat :=
  let room := max (up32 credit.toNat) (chargeOf d i 1)
  ((List.range (burstMost d i)).reverse.find? (fun k => decide (chargeOf d i (k + 1) ≤ room))).elim 0 (· + 1)

/-! ### Accesses of the engine -/

/-- Whether a double-bit error in a word raises a bus error by table 5.1 already. -/
def State.pglKind (s : State) (w : Nat) : Bool := s.wordKind w == 4 || s.wordKind w == 5

/-- R631: a read by a channel: a double-bit error anywhere is a bus error. -/
def State.pglRead (s : State) (n : Nat) (a len : Nat) : Option (List Byte) × State :=
  let bad := (linesOf a len).find? (fun w => s.ecc2.contains w)
  match s.readMem (some n) a len with
  | (some bs, s) => (some bs, s)
  | (none, s) =>
    let w := bad.getD (lineOf a)
    (none, if s.pglKind w then s else s.busError 2 (some n) w)

/-- R131, R631: a write by a channel. -/
def State.pglWrite (s : State) (n : Nat) (a : Nat) (bs : List Byte) : Bool × State :=
  let part (w : Nat) : Bool := decide (w < a) || decide (a + bs.length < w + 32)
  let bad := (linesOf a bs.length).find? (fun w => part w && s.ecc2.contains w)
  match s.writeMem (some n) a bs with
  | (true, s) => (true, s)
  | (false, s) =>
    let w := bad.getD (lineOf a)
    (false, if s.pglKind w then s else s.busError 2 (some n) w)

/-! ### The completion ring (R623 to R626) -/

/-- Entries of the ring, and whether it is full (R623). -/
def State.ringN (s : State) : Nat := s.fld F.PGL_RING_CFG
@[inherit_doc State.ringN] def State.ringFull (s : State) : Bool :=
  (s.fld F.PGL_RING_WR + 1) % s.ringN == s.fld F.PGL_RING_RD

/-- State of channel n (table 20.1). -/
def State.pglSt (s : State) (n : Nat) : Nat := s.fld (F.PGL_CH_STAT_STATE n)

/-- Table 20.3: a record. -/
def pglRecord (tag n status desc resid stamp : Nat) : List Word :=
  [BitVec.ofNat 32 (tag % 256 + n % 16 * 2 ^ 8 + status * 2 ^ 12), BitVec.ofNat 32 (desc % 2 ^ 24),
    BitVec.ofNat 32 (resid % 2 ^ 24), BitVec.ofNat 32 stamp]

/-- Write a record of channel n at RING_WR: false where the read-modify-write meets a bus error. Its event E72 is `ringSaid`, which
follows what the channel does then (R610). -/
def State.ringPut (s : State) (n : Nat) (r : List Word) : Bool × State :=
  match s.pglWrite n (s.fld F.PGL_RING_BASE + 16 * s.fld F.PGL_RING_WR) (r.flatMap wordBytes) with
  | (false, s) => (false, s)
  | (true, s) =>
    (true, (s.set F.PGL_RING_WR ((s.fld F.PGL_RING_WR + 1) % s.ringN)).inc F.PGL_CNT_RECORDS)

/-- "ring record" (R623). -/
def State.ringSaid (s : State) : State := s.event 72

/-- A due record of channel n: written, or the channel waits for the ring (R623, R624): true where it was written. -/
def State.ringDue (s : State) (n : Nat) (r : List Word) : Bool × State :=
  if s.ringFull then
    let s := (s.modPch n (fun c => { c with recs := c.recs ++ [r] })).set (F.PGL_CH_STAT_STATE n) 2
    let s := (s.modPgl (fun b => { b with wait := b.wait ++ [n] }))
    (false, (s.inc F.PGL_CNT_WAITS).event 73)
  else s.ringPut n r

/-- R610: the chain of channel n has ended: the next queued entry, or IDLE. -/
def State.chainEnd (s : State) (n : Nat) : State :=
  ((s.modPch n (fun c => { c with desc := none, done := 0 })).set (F.PGL_CH_STAT_STATE n) 0).pglTake n

/-- The chain goes on behind a completed descriptor: NEXT, or the end of the chain (R610, R612). -/
def State.chainNext (s : State) (n : Nat) : State :=
  match (s.pch n).desc with
  | some d =>
    if dLast d then s.chainEnd n
    else
      ((s.modPch n (fun c => { c with desc := none, done := 0, mid := true })).set (F.PGL_CH_CUR n) (dW d 4)).set
        (F.PGL_CH_STAT_STATE n) 1
  | none => s.chainEnd n

/-- Raise the event of channel n. -/
def State.pglEvent (s : State) (n : Nat) : State := s.event (56 + n)

/-- DESC of an ABORTED record behind a completed descriptor (R630); free where a chain had ended already. -/
def State.nextDesc (s : State) (n : Nat) : Nat × State :=
  match (s.pch n).desc with
  | some d => (if dLast d then 0 else dW d 4, s)
  | none => s.freshNat

/-- The record that channel n waits with is written: an aborted channel's own record then waits, else the chain goes on (R624, R629). False
where a bus error stops the channel. -/
def State.ringNext (s : State) (n : Nat) (rest : List Nat) (r : List Word) (more : List (List Word)) : Bool × State :=
  match s.ringPut n r with
  | (false, s) => (false, s)
  | (true, s) =>
    let s := s.modPch n (fun c => { c with recs := more })
    let s := if (s.pch n).abort then
        let p := s.nextDesc n
        let s := p.2.set (F.PGL_CH_RESID n) 0
        let ab := pglRecord (s.fld (F.PGL_CH_STAT_TAG n)) n 2 p.1 0 (s.now % 2 ^ 32)
        s.modPch n (fun c => { c with recs := [ab], abort := false, desc := none })
      else (s.modPgl (fun b => { b with wait := rest })).chainNext n
    (true, s.ringSaid)

/-- Records that wait are written while the ring has room, in the order their channels began to wait (R624, R629; `fuel`
records). -/
def State.ringDrain (s : State) (fuel : Nat) : State :=
  match fuel with
  | 0 => s
  | fuel + 1 =>
    match s.pgl.wait with
    | [] => s
    | n :: rest =>
      if s.ringFull then s
      else
        match (s.pch n).recs with
        | [] => (s.modPgl (fun b => { b with wait := rest })).ringDrain fuel
        | r :: more =>
          match s.ringNext n rest r more with
          | (false, s) => s
          | (true, s) => s.ringDrain fuel

/-! ### Readiness and grants (R617 to R621) -/

/-- The FIFO of a descriptor's source. -/
def fifoAxis (d : List Word) : Option Axis := if dKind d = 1 then some .a else if dKind d = 2 then some .b else none

/-- The data of channel n's next burst can be had: a FIFO holds the bytes. -/
def State.pglData (s : State) (n : Nat) : Bool :=
  let c := s.pch n
  match c.desc with
  | none => true
  | some d =>
    decide (c.done < descTotal d) &&
      (match fifoAxis d with
       | some x => decide (burstLen d c.done c.credit ≤ (s.sv x).cap.fifo.length)
       | none => true)

/-- R619: channel n is ready. -/
def State.pglReady (s : State) (n : Nat) : Bool :=
  s.flag (F.PGL_CH_CFG_EXISTS n) && s.pglSt n == 1 && decide (0 < (s.pch n).credit) && (s.pch n).flight.isNone && s.pglData n

/-- Priority of channel n, as in force. -/
def State.pglPrio (s : State) (n : Nat) : Nat := s.fld (F.PGL_CH_CFG_PRIO n)

/-- R620: the channel that the engine grants next: in the first round a ready one without a grant, by priority and number; then the
ready one of highest priority, cyclically after the last granted. -/
def State.pglNext (s : State) : Option Nat :=
  let ready := (List.range 16).filter s.pglReady
  let first := ready.filter (fun n => !(s.pch n).granted)
  let top (l : List Nat) : List Nat := l.filter (fun n => l.all (fun m => decide (s.pglPrio m ≤ s.pglPrio n)))
  match top first with
  | n :: _ => some n
  | [] =>
    match top ready with
    | [] => none
    | n :: r =>
      let last := nth 15 s.pgl.last (s.pglPrio n)
      ((n :: r).find? (fun m => decide (last < m))).or (some n)

/-- A grant to channel n is charged (R618). -/
def State.pglCharge (s : State) (n bytes : Nat) : State :=
  let s := s.modPch n (fun c => { c with credit := c.credit - bytes, granted := true })
  (s.modPgl (fun b => { b with last := setNth b.last (s.pglPrio n) n }))

/-! ### Commands -/

/-- TRIG: a write of 1 to CHn_CTRL.TRIG (R607, R609). -/
def execTrig (n : Nat) (s : State) : Host.Outcome State Fault Refusal :=
  .next (s.running (fun s => if n < 16 then s.pglTrigReg n else s))

/-- R613: the chain of channel n ends with a descriptor error. -/
def State.descError (s : State) (n tag resid : Nat) : State :=
  let rec_ := pglRecord tag n 3 (s.fld (F.PGL_CH_CUR n)) resid (s.now % 2 ^ 32)
  let s := (s.set (F.PGL_CH_STAT_DESC_ERR n) 1).modPch n (fun c => { c with desc := none, done := 0 })
  match s.ringDue n rec_ with
  | (true, s) => ((s.chainEnd n).ringSaid).pglEvent n
  | (false, s) => if s.pglSt n = 4 then s else s.pglEvent n

/-- The residue of a descriptor in error: its bytes (R613: none is transferred), 0 of a LEN of 0, where its layout gives them (of a two-dimensional one, where both sides agree on
them), else free. -/
def State.errResid (s : State) (d : List Word) : Nat × State :=
  let n := descTotal d
  let two := bits (dW d 5) 15 0 * bits (dW d 5) 31 16 == n && decide (n ≤ 0xFFFFFF)
  if !dTwo d || two then (n, s) else s.freshNat

/-- DESCRIPTOR_FETCH: the engine grants channel n its descriptor (R612, R613, R618). -/
def execDescriptorFetch (n : Nat) (s : State) : Host.Outcome State Fault Refusal :=
  .next (s.running (fun s =>
    if s.pglNext = some n ∧ (s.pch n).desc = none then
      let a := s.fld (F.PGL_CH_CUR n)
      if a % 32 ≠ 0 ∨ 0x180000 ≤ a then
        let t := s.freshNat
        let r := t.2.freshNat
        r.2.descError n t.1 r.1
      else
        match (s.pglCharge n 32).pglRead n a 32 with
        | (none, s) => s
        | (some _, s) =>
          let d := s.words a 8
          let s := s.set (F.PGL_CH_STAT_TAG n) (dW d 0 % 256)
          if descOk (s.flag (F.PGL_CH_CFG_TWO_D n)) d then s.modPch n (fun c => { c with desc := some d, done := 0, mid := false })
          else
            let r := s.errResid d
            r.2.descError n (dW d 0 % 256) r.1
    else s))

/-- CREDIT_WINDOW: a 1 µs window begins: PRIO and SHARE as written, fresh credit, a new first round (R617, R620, R622). None ends while a
channel that is ready has had no grant in it (R621; log entry 57). -/
def execCreditWindow (s : State) : Host.Outcome State Fault Refusal :=
  .next (s.running (fun s =>
    if (List.range 16).any (fun n => s.pglReady n && !(s.pch n).granted) then s
    else
      s.forEach (List.range 16) (fun s n =>
        if s.flag (F.PGL_CH_CFG_EXISTS n) then
          let s := (s.take (F.PGL_CH_CFG_SHARE n)).take (F.PGL_CH_CFG_PRIO n)
          s.modPch n (fun c => { c with credit := (s.fld (F.PGL_CH_CFG_SHARE n) * 64 : Nat), granted := false })
        else s)))

/-- Take bytes from an axis's FIFO. -/
def State.takeFifo (s : State) (x : Axis) (n : Nat) : List Byte × State :=
  let bs := (s.sv x).cap.fifo.take n
  (bs, s.modCap x (fun c => { c with fifo := c.fifo.drop n, taken := c.taken + bs.length }))

/-- Read the source runs of a burst: aperture bytes stand as 0 until they come; none at a bus error. -/
def State.readRuns (s : State) (n : Nat) (rs : List (Int × Nat)) : Option (List Byte) × State :=
  match rs with
  | [] => (some [], s)
  | r :: more =>
    match badByte pglSrcOk r.1 r.2 with
    | some a => (none, s.busError 1 (some n) (unsigned 24 a))
    | none =>
      let here := if inAperture r.1 then (some (List.replicate r.2 0), s) else s.pglRead n r.1.toNat r.2
      match here with
      | (none, s) => (none, s)
      | (some bs, s) =>
        match s.readRuns n more with
        | (some tail, s) => (some (bs ++ tail), s)
        | e => e

/-- Flash bytes that the aperture runs of a burst are widened to (R615). -/
def apertureBytes (rs : List (Int × Nat)) : Nat :=
  ((rs.filter (fun r => inAperture r.1)).map (fun r => 32 * (runWords r).length)).sum

/-- R614 to R619: the burst granted to channel n. -/
def State.grantBurst (s : State) (n : Nat) (d : List Word) : State :=
  let c := s.pch n
  let len := burstLen d c.done c.credit
  let rs := burstRuns d c.done len
  let dst := dstAddr d c.done
  let s := s.pglCharge n (burstCharge d rs (dst, len))
  let s := s.modPch n (fun c => { c with flight := some [] })
  let got : Option (List Byte) × State :=
    match fifoAxis d with
    | some x =>
      let p := s.takeFifo x len
      (some p.1, p.2)
    | none => s.readRuns n rs
  match got with
  | (none, s) => s
  | (some bs, s) =>
    let good := (List.range len).takeWhile (fun (i : Nat) => pglDstOk (dst + (i : Int)))
    let fl := good.map (fun (i : Nat) => ((dst + (i : Int)).toNat, nth 0 bs i))
    let wait := if dKind d = 0 then apertureBytes rs else 0
    let s := s.modPch n (fun c => { c with flight := some fl, got := [], await_ := if wait = 0 then none else some wait })
    match badByte pglDstOk dst len with
    | some a => s.busError 1 (some n) (unsigned 24 a)
    | none => s

/-- BURST_GRANT: the engine grants channel n a burst; `upsets`: bit flips that have struck memory. -/
def execBurstGrant (n : Nat) (upsets : List (Nat × Bool)) (s : State) : Host.Outcome State Fault Refusal :=
  .next (s.running (fun s =>
    if s.pglNext = some n then
      match (s.pch n).desc with
      | some d => (s.upsets upsets).grantBurst n d
      | none => s
    else s))

/-- R629, R630: the end of an abort: the trigger queue is emptied, the ABORTED record, RESID, the event, IDLE. -/
def State.abortEnd (s : State) (n desc resid : Nat) : State :=
  let s := (s.setPglQueue n []).set (F.PGL_CH_RESID n) resid
  let rec_ := pglRecord (s.fld (F.PGL_CH_STAT_TAG n)) n 2 desc resid (s.now % 2 ^ 32)
  let s := s.modPch n (fun c => { c with desc := none, done := 0 })
  match s.ringDue n rec_ with
  | (true, s) => ((s.chainEnd n).ringSaid).pglEvent n
  | (false, s) => if s.pglSt n = 4 then s else s.pglEvent n

/-- An abort ends with the present descriptor's residue: 0 behind a completed one, whose NEXT the record carries (R630); free for a
chain's first descriptor not fetched yet. -/
def State.abortNow (s : State) (n : Nat) : State :=
  let r := if (s.pch n).mid then (0, s) else s.pglResid n
  r.2.abortEnd n (r.2.fld (F.PGL_CH_CUR n)) r.1

/-- BURST_DONE: the data of channel n's burst have come and its writes leave the engine (R619, R627); an abort that waits for it
then ends (R629). -/
def execBurstDone (n : Nat) (s : State) : Host.Outcome State Fault Refusal :=
  .next (s.running (fun s =>
    let c := s.pch n
    match c.flight, c.await_, c.desc with
    | some fl, none, some d =>
      if s.pglSt n = 1 ∨ s.pglSt n = 3 then
        let a := match fl with | e :: _ => e.1 | [] => 0
        match s.pglWrite n a (fl.map (·.2)) with
        | (false, s) => s
        | (true, s) =>
          let s := s.modPch n (fun c => { c with flight := none, done := c.done + fl.length })
          if s.pglSt n = 3 ∧ c.done + fl.length < descTotal d then s.abortNow n else s
      else s
    | _, _, _ => s))

/-- R627, R630: the descriptor of channel n completes, and an abort that waited for it ends, its queue emptied even where a record waits for
room in the ring (R629); the chain goes on before its events' routes trigger anything (R610). -/
def State.descDone (s : State) (n : Nat) (d : List Word) : State :=
  let aborting := s.pglSt n == 3
  let s := s.inc (F.PGL_CH_CNT_DONE n)
  let said (s : State) : State :=
    let s := if dRec d then s.ringSaid else s
    if dEvt d then s.pglEvent n else s
  let due : Bool × State :=
    if dRec d then
      s.ringDue n (pglRecord (dW d 0) n 1 (s.fld (F.PGL_CH_CUR n)) 0 (s.now % 2 ^ 32))
    else (true, s)
  match due with
  | (true, s) => if aborting then said (s.abortEnd n (if dLast d then 0 else dW d 4) 0) else said (s.chainNext n)
  | (false, s) =>
    let s := if dEvt d then s.pglEvent n else s
    if aborting && s.pglSt n != 4 then ((s.modPch n (fun c => { c with abort := true })).setPglQueue n []).pglEvent n else s

/-- DESCRIPTOR_COMPLETE: the last write of channel n's descriptor has left the engine (R627). -/
def execDescriptorComplete (n : Nat) (s : State) : Host.Outcome State Fault Refusal :=
  .next (s.running (fun s =>
    let c := s.pch n
    match c.flight, c.desc with
    | none, some d => if (s.pglSt n = 1 ∨ s.pglSt n = 3) ∧ c.done = descTotal d then s.descDone n d else s
    | _, _ => s))

/-- R625: a write of PGL.RING_RD. -/
def State.ringRdWrite (s : State) (by_ : Writer) (w : Word) : State :=
  let v := fieldOf F.PGL_RING_RD w
  let n := max 1 s.ringN
  let rd := s.fld F.PGL_RING_RD
  let used := (s.fld F.PGL_RING_WR + n - rd % n) % n
  if v < n ∧ (v + n - rd % n) % n ≤ used then (s.set F.PGL_RING_RD v).ringDrain 40
  else s.note by_ rfVoid

/-- RING_RD_WRITE: a host write of PGL.RING_RD. -/
def execRingRdWrite (w : Word) (s : State) : Host.Outcome State Fault Refusal := .next (s.running (fun s => s.ringRdWrite .host w))

/-- R629: a write of 1 to CHn_CTRL.ABORT. -/
def State.pglAbort (s : State) (n : Nat) : State :=
  if !s.flag (F.PGL_CH_CFG_EXISTS n) then s
  else
    match s.pglSt n with
    | 0 => s.setPglQueue n []
    | 1 =>
      let s := s.set (F.PGL_CH_STAT_STATE n) 3
      let c := s.pch n
      let ended := match c.desc with | some d => decide (descTotal d ≤ c.done) | none => false
      if c.flight.isSome || ended then s else s.abortNow n
    | 2 => s.modPch n (fun c => { c with abort := true })
    | _ => s

/-- ABORT: a host write of CHn_CTRL.ABORT. -/
def execAbort (n : Nat) (s : State) : Host.Outcome State Fault Refusal :=
  .next (s.running (fun s => if n < 16 then s.pglAbort n else s))

/-- BUS_ERROR: a bus error of a kind (1 ADDRESS, 2 UNCORR, 3 FLASH) by a channel, or by none (R631, R632). -/
def execBusError (kind : Nat) (ch : Option Nat) (addr : Nat) (s : State) : Host.Outcome State Fault Refusal :=
  .next (s.running (fun s =>
    let known := match ch with | some n => decide (n < 16) && s.flag (F.PGL_CH_CFG_EXISTS n) | none => true
    if inRange 1 3 kind && known then s.busError kind ch (addr % 2 ^ 24) else s))

/-- R633: a write of PGL.CTRL. -/
def State.pglReset (s : State) (by_ : Writer) (w : Word) : State :=
  if fieldOf F.PGL_CTRL_KEY w = 0x9A5C ∧ fieldOf F.PGL_CTRL_RESET w = 1 then
    if s.flag F.PGL_STAT_STOPPED then
      let s := s.forEach (List.range 16) (fun s n =>
        if s.flag (F.PGL_CH_CFG_EXISTS n) then
          ((s.set (F.PGL_CH_STAT_STATE n) 0).set (F.PGL_CH_STAT_INDET n) 0).modPch n (fun c => { c with desc := none, done := 0, mid := false })
        else s)
      (((s.set F.PGL_STAT_STOPPED 0).wr A.PGL_ERR 0).setCause 4 42 false).event 75
    else s.note by_ rfVoid
  else s

/-- PGL_RESET: a host write of PGL.CTRL. -/
def execPglReset (w : Word) (s : State) : Host.Outcome State Fault Refusal := .next (s.running (fun s => s.pglReset .host w))

/-- R607, R622: a write of PGL.CHn_CFG: PRIO and SHARE from the next window on. -/
def State.chnCfgWrite (s : State) (n : Nat) (w : Word) : State :=
  if s.flag (F.PGL_CH_CFG_EXISTS n) then
    let sh := fieldOf (F.PGL_CH_CFG_SHARE n) w
    let s := s.setSh (F.PGL_CH_CFG_PRIO n) (fieldOf (F.PGL_CH_CFG_PRIO n) w)
    if sh = 0 then s else s.setSh (F.PGL_CH_CFG_SHARE n) sh
  else s

/-- CHN_CFG_WRITE: a write of PGL.CHn_CFG. -/
def execChnCfgWrite (n : Nat) (w : Word) (s : State) : Host.Outcome State Fault Refusal :=
  .next (s.running (fun s => if n < 16 then s.chnCfgWrite n w else s))

end Sys2Proof.Machine
end

