-- ==== Sys2Proof/Machine/Icehouse.lean ====
section
/-! DEFINITION. The Icehouse flash port (spec/19_flash_port.md, R594 to R606): the decrypting window cache, the aperture and the
sharing of the flash. -/

namespace Sys2Proof.Machine

/-- The 64-byte line of a flash address (R598). -/
def flashLine (a : Nat) : Nat := a / 64 * 64

/-- Set of a line: 64 sets of four ways (R598). -/
def lineSet (a : Nat) : Nat := a / 64 % 64

/-- The WINDOW section that holds a flash address: an image offset equals a flash address. -/
def State.windowAt (s : State) (a : Nat) : Option Sect :=
  s.img.sects.find? (fun c => c.typ == 9 && decide (c.off ≤ a) && decide (a < c.off + c.len))

/-- The bytes of a cached line. -/
def State.cached (s : State) (a : Nat) : Option (List Byte) :=
  (s.ice.lines.find? (fun e => e.1 == flashLine a)).map (·.2)

/-- A hit makes its line the one used latest (R598). -/
def State.touchLine (s : State) (a : Nat) : State :=
  match s.ice.lines.find? (fun e => e.1 == flashLine a) with
  | some e => s.modIce (fun i => { i with lines := e :: i.lines.filter (fun q => !(q.1 == e.1)) })
  | none => s

/-- Store a line; the least recently used of a full set gives way (R598). -/
def State.storeLine (s : State) (a : Nat) (bs : List Byte) : State :=
  let rest := s.ice.lines.filter (fun q => !(q.1 == a))
  let set := rest.filter (fun q => lineSet q.1 == lineSet a)
  let rest := if 4 ≤ set.length then
      match set.getLast? with
      | some v => rest.filter (fun q => !(q.1 == v.1))
      | none => rest
    else rest
  s.modIce (fun i => { i with lines := (a, bs) :: rest })

/-- R599: a line as it is stored. -/
def State.lineBytes (s : State) (a : Nat) (bs : List Byte) : List Byte :=
  if s.img.enc then
    (ctrDecrypt (deriveKey (keyBytes (keyWords s.latched)) 1) (s.img.nonce.map (·.toNat)) (a / 16) (bs.map (·.toNat))).map
      (BitVec.ofNat 8)
  else bs

/-- R602: the cache is invalidated; a line being filled is discarded when its fill ends. -/
def State.iceInv (s : State) : State :=
  s.modIce (fun i => { i with
    lines := []
    fetched := i.fetched.map (fun e => (e.1, e.2.1, []))
    drop := match i.run with | some r => !r.ap | none => false })

/-! ### Failures (R605) -/

/-- The task that a cache fill was asked for, and the address it waits for, where it still runs on its kiosk. -/
def State.fillTask (s : State) (q : FlashReq) : Option (Run × Nat) :=
  match (s.kiosk q.who).run with
  | some r =>
    match r.stalled with
    | some a => if r.rel = q.rel ∧ flashLine a = q.addr then some (r, a) else none
    | none => none
  | none => none

/-- R167: a cache fill fails: the task it was asked for is abandoned, without effect on an axis; E81, and code 39 with the window offset,
counted from the start of the WINDOW section to the address that the task touched, or to the line where the task is gone (DESIGN CHOICE,
log entry 62: table 15.2 does not say which address it is of). -/
def State.fillFail (s : State) (q : FlashReq) : State :=
  let t := s.fillTask q
  let s := match t with
    | some e => s.abandonQuiet q.who 0 { e.1 with numeric := e.1.numeric && s.graphOwner e.1.graph == 3 }
    | none => s
  let a := match t with | some e => e.2 | none => q.addr
  let off := match s.windowAt a with | some c => a - c.off | none => 0
  (s.fault 39 3 q.who off).event 81

/-- Words of 32 bytes that the aperture runs of channel n's burst are widened to, in order (R615). -/
def State.apertureWords (s : State) (n : Nat) : List Nat :=
  let c := s.pch n
  match c.desc, c.flight with
  | some d, some l => ((burstRuns d c.done l.length).filter (fun r => inAperture r.1)).flatMap runWords
  | _, _ => []

/-- A transaction fails for good with a kind. -/
def State.iceFail (s : State) (q : FlashReq) (kind : Nat) : State :=
  let s := s.iceError kind (if q.ap then 2 else 1) (q.addr % 2 ^ 24)
  if q.ap then
    let c := s.pch q.who
    if c.await_.isSome && !q.void then s.busError 3 (some q.who) (nth 0 (s.apertureWords q.who) (c.got.length / 32)) else s
  else s.fillFail q

/-- A transaction runs (ICE.STAT.BUSY). -/
def State.iceBusy (s : State) : State := s.setB F.ICE_STAT_BUSY s.ice.run.isSome

/-- R606: the port is released: every waiting transaction fails. -/
def State.iceLetGo (s : State) : State :=
  let waiting := s.ice.fills ++ s.ice.reads
  let s := (s.modIce (fun i => { i with fills := [], reads := [], release := false })).set F.ICE_STAT_RELEASED 1
  s.forEach waiting (fun s q => s.iceFail q 2)

/-- R604, R606: the next transaction starts, fills and aperture reads in turn, with the read command of its MODE (R594); a release that
waits takes effect first. -/
def State.iceNext (s : State) : State :=
  if s.ice.run.isSome then s
  else if s.ice.release then (s.iceLetGo).iceBusy
  else
    let i := s.ice
    let i : Ice :=
      match i.fills, i.reads with
      | f :: fs, [] => { i with run := some f, fills := fs, lastAp := false }
      | [], r :: rs => { i with run := some r, reads := rs, lastAp := true }
      | f :: fs, r :: rs =>
        if i.lastAp then { i with run := some f, fills := fs, lastAp := false }
        else { i with run := some r, reads := rs, lastAp := true }
      | [], [] => i
    let i := match i.run with
      | some q => { i with sent := (readCommand (s.fld F.ICE_CFG_MODE), readAddress (s.fld F.ICE_CFG_MODE) q.addr) }
      | none => i
    (s.modIce (fun _ => i)).iceBusy

/-- A request reaches the port; on a released port it fails (R606). -/
def State.iceAsk (s : State) (q : FlashReq) : State :=
  if s.flag F.ICE_STAT_RELEASED then s.iceFail q 2
  else
    (s.modIce (fun i => if q.ap then { i with reads := i.reads ++ [q] } else { i with fills := i.fills ++ [q] })).iceNext

/-! ### The window -/

/-- The task on kiosk k has WINDOW set. -/
def State.inWindow (s : State) (r : Run) : Bool :=
  match s.taskD r.graph r.task with
  | some d => bit d.flags 1
  | none => false

/-- R600: the task on kiosk k touches a flash address whose line is not in the cache: it waits, and the line is asked of the flash. -/
def State.windowStall (s : State) (k addr : Nat) : State :=
  match (s.kiosk k).run with
  | some r =>
    (s.modRun k (fun r => { r with stalled := some addr })).iceAsk
      { ap := false, who := k, addr := flashLine addr, len := 64, retried := false, rel := r.rel, void := false }
  | none => s

/-- WINDOW_MISS: the task on kiosk k touches flash address `addr`, whose line is not cached; `hits`: addresses touched in the cache
since the last such command, in order (R598, R600). -/
def execWindowMiss (k addr : Nat) (hits : List Nat) (s : State) : Host.Outcome State Fault Refusal :=
  .next (s.running (fun s =>
    let s := s.forEach hits State.touchLine
    match s.runOf k with
    | some r =>
      if s.inWindow r && (s.windowAt addr).isSome && (s.cached addr).isNone then s.windowStall k addr else s
    | none => s))

/-- WINDOW_LINE_FILL: the oldest fetched line is decrypted and stored, and its task resumes (R599, R600, R602). -/
def execWindowLineFill (s : State) : Host.Outcome State Fault Refusal :=
  .next (s.running (fun s =>
    match s.ice.fetched with
    | [] => s
    | (k, a, bs) :: rest =>
      let s := (s.modIce (fun i => { i with fetched := rest })).inc F.ICE_CNT_MISSES
      let s := if bs = [] then s else s.storeLine a (s.lineBytes a bs)
      s.modRun k (fun r => if r.stalled.any (fun q => flashLine q == a) then { r with stalled := none } else r)))

/-! ### The aperture -/

/-- Transactions of one widened run: split at the 4096-byte boundaries of the flash (R604; `fuel` parts). -/
def splitReads (fuel ch a n : Nat) : List FlashReq :=
  match fuel with
  | 0 => []
  | fuel + 1 =>
    if n = 0 then []
    else
      let k := min n (4096 - a % 4096)
      { ap := true, who := ch, addr := a, len := k, retried := false, rel := 0, void := false } :: splitReads fuel ch (a + k) (n - k)

/-- R603: flash address of an aperture address. -/
def State.apertureFlash (s : State) (a : Nat) : Nat := s.fld F.ICE_WIN_BASE_BASE * 0x10000 + (a - 0x800000)

/-- APERTURE_READ: the aperture bytes of channel n's burst are asked of the flash (R603, R604). -/
def execApertureRead (n : Nat) (s : State) : Host.Outcome State Fault Refusal :=
  .next (s.running (fun s =>
    let c := s.pch n
    let asked := (s.ice.reads ++ s.ice.run.toList).any (fun q => q.ap && q.who == n && !q.void)
    match c.await_, c.desc, c.flight with
    | some _, some d, some l =>
      if asked || !c.got.isEmpty then s
      else
        let rs := (burstRuns d c.done l.length).filter (fun r => inAperture r.1)
        let qs := rs.flatMap (fun r =>
          match runWords r with
          | w :: ws => splitReads 4 n (s.apertureFlash w) (32 * (ws.length + 1))
          | [] => [])
        s.forEach qs State.iceAsk
    | _, _, _ => s))

/-- A source byte of an aperture burst among the flash bytes that came. -/
def apertureByte (words : List Nat) (got : List Byte) (a : Nat) : Byte :=
  match pickIdx words (fun _ w => w == lineOf a) with
  | some i => nth 0 got (32 * i + a % 32)
  | none => 0

/-- The bytes of a finished aperture read take their places in the burst. -/
def State.apertureLand (s : State) (n : Nat) (bs : List Byte) : State :=
  let c := s.pch n
  match c.await_, c.desc, c.flight with
  | some m, some d, some l =>
    let got := c.got ++ bs
    if m ≤ got.length then
      let words := s.apertureWords n
      let put (e : (Nat × Byte) × Nat) : Nat × Byte :=
        let a := srcAddr d (c.done + e.2)
        if inAperture a then (e.1.1, apertureByte words got a.toNat) else e.1
      s.modPch n (fun c => { c with flight := some (l.zipIdx.map put), await_ := none, got := [] })
    else s.modPch n (fun c => { c with got := got })
  | _, _, _ => s

/-! ### Transactions -/

/-- Table 19.3: the kind with which a transaction fails. -/
def State.iceKind (s : State) (q : FlashReq) (timeout : Bool) : Option Nat :=
  let size := s.fld F.ICE_SIZE_BYTES
  if timeout && s.fld F.ICE_CFG_MODE == 3 then some 1
  else if size ≠ 0 ∧ size ≤ q.addr then some 3
  else if !s.flag F.ICE_CFG_PROBED then some 4
  else none

/-- FLASH_TRANSACTION_END: the transaction in progress ends with the bytes read; `timeout`: the strobe stopped (R605). -/
def execFlashTransactionEnd (timeout : Bool) (bytes : List Byte) (s : State) : Host.Outcome State Fault Refusal :=
  .next (s.running (fun s =>
    match s.ice.run with
    | none => s
    | some q =>
      match s.iceKind q timeout with
      | some 1 =>
        if q.retried then (((s.modIce (fun i => { i with run := none, drop := false })).iceFail q 1).iceNext).iceBusy
        else (s.inc F.ICE_CNT_RETRIES).modIce (fun i => { i with run := some { q with retried := true } })
      | some kind => (((s.modIce (fun i => { i with run := none, drop := false })).iceFail q kind).iceNext).iceBusy
      | none =>
        let bs := bytes.take q.len ++ List.replicate (q.len - bytes.length) 0
        let s :=
          if q.ap then
            let s := s.modIce (fun i => { i with run := none })
            if q.void then s else s.apertureLand q.who bs
          else s.modIce (fun i => { i with
            run := none
            drop := false
            fetched := i.fetched ++ [(q.who, q.addr, if i.drop then [] else bs)] })
        (s.iceNext).iceBusy))

/-! ### Registers of the port -/

/-- R606: a write of RELEASE = 1. -/
def State.iceRelease (s : State) : State :=
  if s.flag F.ICE_CTRL_RELEASE then s
  else
    let s := s.set F.ICE_CTRL_RELEASE 1
    if s.ice.run.isSome then s.modIce (fun i => { i with release := true }) else s.iceLetGo

/-- The boot mode is one in which the flash is probed: 00 or 10 (R595, R597). -/
def State.probes (s : State) : Bool := s.fld F.GH_BOOT_STATUS_BOOTSEL % 2 == 0

/-- R606: a write of RELEASE = 0: the port is retaken, probed where R595 probes, and the cache invalidated; a release that has not taken
effect does not. -/
def State.iceRetake (s : State) (id : FlashId) : State :=
  if s.flag F.ICE_CTRL_RELEASE then
    let s := (s.set F.ICE_CTRL_RELEASE 0).set F.ICE_STAT_RELEASED 0
    let s := s.modIce (fun i => { i with release := false })
    (if s.probes then s.probe id else s).iceInv
  else s

/-- RELEASE: a host write of ICE.CTRL with RELEASE = 1. -/
def execRelease (s : State) : Host.Outcome State Fault Refusal := .next (s.running State.iceRelease)

/-- PORT_RETAKE: a host write of ICE.CTRL with RELEASE = 0; `id`: what the probe finds. -/
def execPortRetake (id : FlashId) (s : State) : Host.Outcome State Fault Refusal := .next (s.running (fun s => s.iceRetake id))

/-- INV: a host write of 1 to ICE.CTRL.INV. -/
def execInv (s : State) : Host.Outcome State Fault Refusal := .next (s.running State.iceInv)

/-- ICE_CNT_CLR: a host write of 1 to ICE.CTRL.CNT_CLR. -/
def execIceCntClr (s : State) : Host.Outcome State Fault Refusal := .next (s.running (fun s => s.wr A.ICE_CNT 0))

/-- A flash identity that the probe finds, where the command does not say it: free. -/
def State.freeFlash (s : State) : FlashId × State :=
  let a := s.freshNat
  let b := a.2.freshNat
  let c := b.2.freshNat
  let d := c.2.freshNat
  ({ signature := bit a.1 0, xspi := bit a.1 1, octalSeq := bit a.1 2, octalFreq := b.1 % 201, octalDum := c.1 % 32, quad := bit a.1 3,
     quadDum := c.1 / 32 % 32, quadReq := c.1 / 1024 % 8, size := d.1 % 2 ^ 32 }, d.2)

/-- A write of ICE.CTRL (table 19.6). -/
def State.iceCtrlWrite (s : State) (w : Word) : State :=
  let s := s.onlyIf (fieldOf F.ICE_CTRL_CNT_CLR w == 1) (fun s => s.wr A.ICE_CNT 0)
  let s := s.onlyIf (fieldOf F.ICE_CTRL_INV w == 1) State.iceInv
  if fieldOf F.ICE_CTRL_RELEASE w = 1 then s.iceRelease
  else if s.flag F.ICE_CTRL_RELEASE then
    let p := s.freeFlash
    p.2.iceRetake p.1
  else s

end Sys2Proof.Machine
end

