-- ==== Sys2Proof/Machine/SelfTest.lean ====
section
/-! DEFINITION. Self-test and calibration (spec/21_selftest_calibration.md, R635 to R654). What a test measures comes with its
request; the outcome is held until the test ends. -/

namespace Sys2Proof.Machine

/-- R651: a run of TRIM holds every gate land of its die off, and its end lets them go again; another slot holds none. -/
def State.testGates (s : State) (k : Nat) : State :=
  match (if 9 ≤ k then testAxis k else none) with
  | some x => s.settle x
  | none => s

/-- R636, R637, R639: a request of slot k whose measurements have the outcome `o`. -/
def State.testAsk (s : State) (o : TestOut) : State :=
  let k := o.slot
  let take (s : State) (st : Nat) : State :=
    (s.modStc (fun t => { t with outs := o :: t.outs.filter (fun e => !(e.slot == k)) })).set (F.STC_TSTAT_STATE k) st
  if s.testRuns k || s.testWaits k then s.event 106
  else if k < 2 then take s 2
  else if inRange 2 6 k && (s.bridgeOn .a || s.bridgeOn .b) then
    ((s.set (F.STC_TSTAT_RESULT k) 3).note .host rfRunning).event 106
  else if s.testMay k && (match testAxis k with | some x => decide (k < 7) || s.axState x == 0 | none => true) then take s 2
  else (take s 1).event 105

/-- The outcome held for slot k. -/
def State.testOut (s : State) (k : Nat) : TestOut :=
  (s.stc.outs.find? (fun o => o.slot == k)).getD { slot := k, bad := 0, vals := [], oor := [] }

/-! ### Background tests -/

/-- R643: failures of a SAR_CHECK pass, from the sums of eight raw codes of VREFA/2 and AGND per converter: bit 0 SAR 1, bit 1
SAR 2, bit 2 disagreement. -/
def State.sarJudge (s : State) (v1 g1 v2 g2 : Nat) : Nat :=
  let tol := s.fld F.STC_BG_CFG_SAR_TOL
  let bad (v g : Nat) : Bool := decide (v + 8 * tol < 65536) || decide (65536 + 8 * tol < v) || decide (8 * tol < g)
  b2n (bad v1 g1) + 2 * b2n (bad v2 g2) + 4 * b2n (decide (4 * tol + v2 < v1) || decide (4 * tol + v1 < v2))

/-- A SAR_CHECK pass is asked for. -/
def State.sarAsk (s : State) (v1 g1 v2 g2 : Nat) : State :=
  s.testAsk { slot := 0, bad := s.sarJudge v1 g1 v2 g2, vals := [], oor := [] }

/-- SAR_CHECK: a write of 1 to STC.REQ bit 0 (R636, R643). -/
def execSarCheck (v1 g1 v2 g2 : Nat) (s : State) : Host.Outcome State Fault Refusal :=
  .next (s.running (fun s => s.sarAsk v1 g1 v2 g2))

/-- Insert into a rising list without repeats. -/
def insertUp (n : Nat) (l : List Nat) : List Nat :=
  match l with
  | [] => [n]
  | m :: r => if n < m then n :: m :: r else if n = m then m :: r else m :: insertUp n r

/-- R645: every word is read in ascending order while the pass runs; words without an error read without effect. -/
def State.scrubWords (s : State) : State :=
  let l := (s.ecc1 ++ s.ecc2).foldl (fun l w => if memImplemented w then insertUp w l else l) []
  s.forEach l (fun s w => if s.testRuns 1 then (s.checkWord32 none w).2 else s)

/-- A SCRUB pass is asked for. -/
def State.scrubAsk (s : State) (upsets : List (Nat × Bool)) : State :=
  let was := s.testRuns 1
  let s := (s.upsets upsets).testAsk { slot := 1, bad := 0, vals := [], oor := [] }
  if was then s else (s.set F.STC_SCRUB_STAT_RUNNING 1).scrubWords

/-- SCRUB: a write of 1 to STC.REQ bit 1 (R636, R645); `upsets`: bit flips that have struck memory. -/
def execScrub (upsets : List (Nat × Bool)) (s : State) : Host.Outcome State Fault Refusal :=
  .next (s.running (fun s => s.scrubAsk upsets))

/-- BACKGROUND_TEST_REPEAT: `ms` after the start of the previous pass of SAR_CHECK (slot 0) or SCRUB (slot 1) a new one starts
(R646); the measurements are as of SAR_CHECK and SCRUB. -/
def execBackgroundTestRepeat (k ms v1 g1 v2 g2 : Nat) (upsets : List (Nat × Bool)) (s : State) : Host.Outcome State Fault Refusal :=
  .next (s.running (fun s =>
    if k = 0 ∧ s.flag F.STC_BG_CFG_SAR_AUTO = true ∧ 10 * s.fld F.STC_BG_CFG_SAR_INT ≤ ms ∧ s.testRuns 0 = false then
      s.sarAsk v1 g1 v2 g2
    else if k = 1 ∧ s.flag F.STC_BG_CFG_SCRUB_AUTO = true ∧ 100 * s.fld F.STC_BG_CFG_SCRUB_INT ≤ ms ∧ s.testRuns 1 = false then
      s.scrubAsk upsets
    else s))

/-! ### Foreground tests -/

/-- R647: a channel passes: its trip is flagged within 25 ns × FILT + 50 ns, the soft path answers, and none is flagged below. -/
def PathCheck.ok (p : PathCheck) (filt : Nat) : Bool :=
  p.soft && p.calm && p.trip.any (fun ns => decide (ns ≤ 25 * filt + 50))

/-- The channels of a list of findings that fail; one that was not found to trip fails. -/
def pathsBad (filt n : Nat) (l : List PathCheck) : Nat :=
  maskOf ((List.range n).filter (fun c => !(nth { trip := none, soft := false, calm := false } l c).ok filt))

/-- A request of DS_PATH_x: `ds`: what it finds on the desaturation path of each channel, `mon`: on the turn-on monitor of each phase
channel (R647). -/
def State.dsPathAsk (s : State) (x : Axis) (ds mon : List PathCheck) : State :=
  let filt := s.fld (F.TR_DS_CFG_FILT x)
  s.testAsk { slot := 2 + x.ix, bad := pathsBad filt 7 ds + 128 * pathsBad filt 6 mon, vals := [], oor := [] }

/-- DS_PATH: a request of DS_PATH_x. -/
def execDsPath (x : Axis) (ds mon : List PathCheck) (s : State) : Host.Outcome State Fault Refusal :=
  .next (s.running (fun s => s.dsPathAsk x ds mon))

/-- R648: bits captured from a land change level within 1024 clocks. -/
def landMoves (l : List Bool) : Bool := (l.take 1024).contains true && (l.take 1024).contains false

/-- R648: no sinc3 result over the bits captured from a land, one every OSR3 clocks of data input i, saturates (R223). -/
def State.landClear (s : State) (i : Nat) (l : List Bool) : Bool :=
  let ws := sinc3Weights (s.osr3 i)
  (List.range (l.length / s.osr3 i)).all (fun k =>
    let w := (l.drop (k * s.osr3 i)).take ws.length
    let c := (s.densityCode ws w).1
    decide (w.length < ws.length) || (decide (-32768 < c) && decide (c < 32767)))

/-- R648: at every OSR3 and OSR2 value each result is exact: +16384 under the pattern 1110 and -16384 under 1000. -/
def FilterCheck.ok (p : FilterCheck) : Bool :=
  let exact (e : List Int × List Int) : Bool := !e.1.isEmpty && !e.2.isEmpty && e.1.all (· == 16384) && e.2.all (· == -16384)
  p.sinc3.length == 5 && p.sinc2.length == 3 && p.sinc3.all exact && p.sinc2.all exact

/-- A request of SD_LOOP_x: `pat`: the results that the filters of inputs 0 to 3 of the axis give of the internal patterns, `land`: the bits
that each captures from its land; inputs that the axis does not own are not tested (R648). -/
def State.sdLoopAsk (s : State) (x : Axis) (pat : List FilterCheck) (land : List (List Bool)) : State :=
  let own (f : Nat → Bool) : Nat := maskOf ((List.range 4).filter (fun i => f i && s.sddOwner (4 * x.ix + i) == x.ix + 1))
  let bad (i : Nat) : Bool := let l := nth [] land i; !(landMoves l && s.landClear (4 * x.ix + i) l)
  s.testAsk { slot := 4 + x.ix, bad := own (fun i => !(nth { sinc3 := [], sinc2 := [] } pat i).ok) + 16 * own bad, vals := [], oor := [] }

/-- SD_LOOP: a request of SD_LOOP_x. -/
def execSdLoop (x : Axis) (pat : List FilterCheck) (land : List (List Bool)) (s : State) : Host.Outcome State Fault Refusal :=
  .next (s.running (fun s => s.sdLoopAsk x pat land))

/-! ### Calibrations (R649, R650) -/

/-- A rounded quotient (half way: free). -/
def State.rounded (s : State) (n : Int) (d : Nat) : Int := qRound (Config.tieUp s.free) (n, d)

/-- Whether the values of a path are applied: index n of SNS.CALn and the word, or none where a value is out of range. -/
def State.sarPath (s : State) (m : Nat) (agnd vref : Nat) : Nat × Option Word :=
  let ofs := s.rounded agnd 1024
  let base : Int := (vref : Int) - 1024 * ofs
  let gain := if base ≤ 0 then 0 else s.rounded (32768 * 8192 * 1024) base.toNat
  let w := putField (F.SNS_CAL_GAIN (8 + m)) (putField (F.SNS_CAL_OFS (8 + m)) 0 (unsigned (F.SNS_CAL_OFS (8 + m)).width ofs)) gain.toNat
  (8 + m, if -2048 ≤ ofs ∧ ofs ≤ 2047 ∧ 0x6000 ≤ gain ∧ gain ≤ 0xA000 then some w else none)
@[inherit_doc State.sarPath] def State.sdPath (s : State) (n : Nat) (sum : Int) : Nat × Option Word :=
  let ofs := s.rounded sum 1024
  let w := putField (F.SNS_CAL_OFS n) (s.rd (A.SNS_CAL n)) (unsigned (F.SNS_CAL_OFS n).width ofs)
  (n, if -4096 ≤ ofs ∧ ofs ≤ 4095 then some w else none)

/-- The outcome of an offset calibration over some paths. -/
def calOut (k : Nat) (paths : List (Nat × Option Word)) : TestOut :=
  let oor := paths.filterMap (fun p => if p.2.isNone then some p.1 else none)
  { slot := k, bad := oor.foldl (fun m n => m + 2 ^ n) 0, oor := oor,
    vals := paths.filterMap (fun p => p.2.map (fun w => (A.SNS_CAL p.1, w))) }

/-- The three phase inputs of an axis with the sums of their 1024 results. -/
def State.axisPaths (s : State) (x : Axis) (sums : List Int) : List (Nat × Option Word) :=
  (List.range 3).map (fun i => s.sdPath (4 * x.ix + i) (nth 0 sums i))

/-- A request of slot 6: sums of 1024 conversions of AGND and VREFA/2 on each SAR converter, and of 1024 results of each phase input
of axis A and axis B. -/
def State.ofsCalAsk (s : State) (agnd1 vref1 agnd2 vref2 : Nat) (sumsA sumsB : List Int) : State :=
  s.testAsk (calOut 6 (s.axisPaths .a sumsA ++ s.axisPaths .b sumsB ++ [s.sarPath 0 agnd1 vref1, s.sarPath 1 agnd2 vref2]))

/-- OFS_CAL: a request of slot 6. -/
def execOfsCal (agnd1 vref1 agnd2 vref2 : Nat) (sumsA sumsB : List Int) (s : State) : Host.Outcome State Fault Refusal :=
  .next (s.running (fun s => s.ofsCalAsk agnd1 vref1 agnd2 vref2 sumsA sumsB))

/-- A request of OFS_A or OFS_B: sums of 1024 results of each phase input. -/
def State.ofsAxisAsk (s : State) (x : Axis) (sums : List Int) : State := s.testAsk (calOut (7 + x.ix) (s.axisPaths x sums))

/-- OFS_AXIS: a request of OFS_A or OFS_B. -/
def execOfsAxis (x : Axis) (sums : List Int) (s : State) : Host.Outcome State Fault Refusal :=
  .next (s.running (fun s => s.ofsAxisAsk x sums))

/-- R651: a trim, from the mean charge time over the nominal one, as a fraction. -/
def State.trimOf (s : State) (n d : Nat) : Int := s.rounded (400 * ((n : Int) - d)) (max 1 d)

/-- A request of TRIM_x: t / t0 of the source stage and of the sink stage as fractions (R651, R653). -/
def State.trimAsk (s : State) (x : Axis) (srcN srcD snkN snkD : Nat) : State :=
  let src := s.trimOf srcN srcD
  let snk := s.trimOf snkN snkD
  let ok (t : Int) : Bool := decide (-64 ≤ t) && decide (t ≤ 63)
  let v (f : Fld) (t : Int) : List (Nat × Word) := if ok t then [(f.lo, BitVec.ofInt 32 t)] else []
  let s := s.testAsk { slot := 9 + x.ix, bad := b2n (!ok src) + 2 * b2n (!ok snk), oor := [],
                       vals := v (F.STC_TRIM_SRC x) src ++ v (F.STC_TRIM_SNK x) snk }
  if s.testRuns (9 + x.ix) then s.testGates (9 + x.ix) else s

/-- TRIM: a request of TRIM_x. -/
def execTrim (x : Axis) (srcN srcD snkN snkD : Nat) (s : State) : Host.Outcome State Fault Refusal :=
  .next (s.running (fun s => s.trimAsk x srcN srcD snkN snkD))

/-! ### Starts, ends, cancels -/

/-- The lowest slot that waits and may start does so (R638, R639). -/
def State.testStart (s : State) : State :=
  match s.testDue with
  | some k => (s.set (F.STC_TSTAT_STATE k) 2).testGates k
  | none => s

/-- QUEUED_TEST_START: the lowest queued test that may run starts (R638, R639). -/
def execQueuedTestStart (k : Nat) (s : State) : Host.Outcome State Fault Refusal :=
  .next (s.running (fun s => if s.testWaits k && s.testMay k then s.testStart else s))

/-- R642, R644: scopes in which a failure of slot k is raised. -/
def State.testScopes (s : State) (k : Nat) : List Nat :=
  if k = 0 then
    match [Axis.a, Axis.b].filter (fun x => s.axisOn x && !s.sigmaDelta x) with
    | [] => [4]
    | l => l.map scAxis
  else match testAxis k with
    | some x => [scAxis x]
    | none => [4]

/-- R642: code 50 of slot k. -/
def State.testFailed (s : State) (k result : Nat) : State :=
  s.forEach (s.testScopes k) (fun s sc =>
    let s := s.modStc (fun t => { t with failed := if t.failed.contains (k, sc) then t.failed else t.failed ++ [(k, sc)] })
    match sc with
    | 1 => s.axisFaultOn .a 50 k result
    | 2 => s.axisFaultOn .b 50 k result
    | _ => s.faultOn 50 sc k result)

/-- R642: the slot ends with PASS: its cause of code 50 ends. -/
def State.testPassed (s : State) (k : Nat) : State :=
  let mine := s.stc.failed.filter (fun e => e.1 == k)
  let s := s.modStc (fun t => { t with failed := t.failed.filter (fun e => !(e.1 == k)) })
  s.forEach mine (fun s e => if s.stc.failed.any (fun q => q.2 == e.2) then s else s.setCause e.2 50 false)

/-- R649: a word of SNS.CALn that a calibration writes: a sigma-delta input keeps its GAIN. -/
def State.calWord (s : State) (n : Nat) (w : Word) : Word :=
  if n < 8 then putField (F.SNS_CAL_OFS n) (s.rd (A.SNS_CAL n)) (fieldOf (F.SNS_CAL_OFS n) w) else w

/-- Values of a calibration reach their live registers (R649, R653). -/
def State.calLive (s : State) (v : Nat × Word) : State :=
  let n := (v.1 - A.SNS_CAL 0) / 4
  s.calWrite n (s.calWord n v.2)
@[inherit_doc State.calLive] def State.testWrite (s : State) (o : TestOut) : State :=
  match testAxis o.slot with
  | some x =>
    if 9 ≤ o.slot then
      s.forEach o.vals (fun s v =>
        let f := if v.1 = (F.STC_TRIM_SRC x).lo then F.STC_TRIM_SRC x else F.STC_TRIM_SNK x
        s.setI f v.2.toInt)
    else s.forEach o.vals State.calLive
  | none => s.forEach o.vals State.calLive

/-- R644: what a SAR_CHECK pass shows: failures that the pass before found too. -/
def State.sarResult (s : State) (o : TestOut) : Nat × State :=
  (o.bad &&& s.stc.sarBad, s.modStc (fun t => { t with sarBad := o.bad }))

/-- R646: SAR_CHECK waits while a test that uses the SAR converters runs: DS_PATH (R647) or OFS_CAL (R649). -/
def State.sarTaken (s : State) : Bool := s.testRuns 2 || s.testRuns 3 || s.testRuns 6

/-- TEST_DONE: the running test of slot k has run to its end (R642 to R653); a SAR_CHECK that waits does not (R646). -/
def execTestDone (k : Nat) (s : State) : Host.Outcome State Fault Refusal :=
  .next (s.running (fun s =>
    if s.testRuns k && !(k == 0 && s.sarTaken) then
      let o := s.testOut k
      if k = 0 then
        let p := s.sarResult o
        if p.1 = 0 then (p.2.testEnd 0 1 0).testPassed 0 else (p.2.testEnd 0 2 p.1).testFailed 0 2
      else if k = 1 then ((s.inc F.STC_SCRUB_STAT_PASSES).event 107).testEnd 1 1 0
      else
        let s := s.testWrite o
        if o.bad = 0 then ((s.testEnd k 1 0).testPassed k).testGates k
        else if k < 6 then (s.testEnd k 2 o.bad).testFailed k 2
        else if k < 9 then (s.testEnd k 6 o.bad).forEach o.oor (fun s n => s.fault 51 4 n 0)
        else ((s.testEnd k 6 o.bad).testFailed k 6).testGates k
    else s))

/-- A write of STC.CANCEL (R638, R641). -/
def State.stcCancel (s : State) (w : Word) : State :=
  s.forEach (List.range 11) (fun s k =>
    if bit (fieldOf F.STC_CANCEL_SLOT w) k && (s.testRuns k || s.testWaits k) then (s.testEnd k 5 0).testGates k else s)

/-- STC_CANCEL: a host write of STC.CANCEL. -/
def execStcCancel (w : Word) (s : State) : Host.Outcome State Fault Refusal := .next (s.running (fun s => s.stcCancel w))

/-- R654: a write of STC.TRIM_x. -/
def State.trimWrite (s : State) (x : Axis) (w : Word) : State :=
  if s.bridgeOn x then s
  else (s.set (F.STC_TRIM_SRC x) (fieldOf (F.STC_TRIM_SRC x) w)).set (F.STC_TRIM_SNK x) (fieldOf (F.STC_TRIM_SNK x) w)

/-- TRIM_WRITE: a write of STC.TRIM_x. -/
def execTrimWrite (x : Axis) (w : Word) (s : State) : Host.Outcome State Fault Refusal :=
  .next (s.running (fun s => s.trimWrite x w))

/-- CAL_WRITE: a write of SNS.CALn reaches the sensing block (R240). -/
def execCalWrite (n : Nat) (w : Word) (s : State) : Host.Outcome State Fault Refusal :=
  .next (s.running (fun s => if n < 10 then s.calWrite n w else s))

end Sys2Proof.Machine
end

