-- ==== Sys2Proof/Machine/RegWrite.lean ====
section
/-! DEFINITION. What a write of any register does and what a read of any register returns, for the host and for a kiosk's REG
operand (spec/22_register_map.md, R655, R656; R3, R7 to R9, R19 to R26). -/

namespace Sys2Proof.Machine

/-! ### Writes by access code (table 0.4) -/

/-- Replace the bits of a mask in the active copy of a register. -/
def State.putMask (s : State) (a : Nat) (m w : Word) : State := s.wr a ((s.rd a &&& ~~~m) ||| (w &&& m))

/-- Replace the bits of a mask in the shadow copy of a register. -/
def State.putMaskSh (s : State) (a : Nat) (m w : Word) : State := s.wrSh a ((s.rdSh a &&& ~~~m) ||| (w &&& m))

/-- The bits of a register that a write changes: the fields of the access codes `p` whose new value the field takes. -/
def takeMask (a : Nat) (w : Word) (p : FieldD → Bool) : Word :=
  if pairTakes (a / 0x1000) (a % 0x1000) w then
    fieldMask (regFields a) (fun d => p d && fieldTakes (a / 0x1000) (a % 0x1000) d.lo (bits w.toNat d.hi d.lo))
  else 0

/-- A write of a register's RW fields, where the register has no behaviour of its own. -/
def State.plainReg (s : State) (a : Nat) (w : Word) : State := s.putMask a (takeMask a w (fun d => d.acc == .rw)) w

/-- A write that reaches the shadow copy: RWS fields, and RW fields whose chapter delays them. -/
def State.shadowReg (s : State) (a : Nat) (w : Word) : State :=
  s.putMaskSh a (takeMask a w (fun d => d.acc == .rw || d.acc == .rws)) w

/-- R7: a write of W1C bits; those of `block` have their cause present and stay. -/
def State.w1cReg (s : State) (a : Nat) (w block : Word) : State :=
  s.wr a (s.rd a &&& ~~~(w &&& fieldMask (regFields a) (fun d => d.acc == .w1c) &&& ~~~block))

/-- A number at the place of a field. -/
def inField (f : Fld) (v : Nat) : Word := BitVec.ofNat 32 (v * 2 ^ f.lo)

/-- The mask of the numbers below `n` that satisfy `p`. -/
def maskWhere (n : Nat) (p : Nat → Bool) : Nat := (List.range n).foldl (fun m i => if p i then m + 2 ^ i else m) 0

/-- R26: a stopped timebase lets everything that waits for an instant of the axis take effect; PHASE and LOCK_A of axis B wait for the
valley of axis A (table 6.5). -/
def State.idleCommit (s : State) (x : Axis) : State :=
  let s := if s.flag (F.PW_CTRL_EN .a) then s else s.takeLock
  if s.flag (F.PW_CTRL_EN x) then s
  else
    let s := (((s.ownActivate x).modeTake x).loopTake x).swapNow x
    let s := if s.flag (F.MC_MODE_FW_EN x) then s else (s.set (F.MC_X_ID_FW x) 0).set (F.MC_STATE_FW_ACTIVE x) 0
    let s := if (s.sv x).home then s.homeNow x else s
    let s := if s.sectWaits x then s.sectSwap else s
    ((s.takeDerived x).takeValley x).takeUpdate x

/-- R331: an expert write outside MIN to MAX of the parameter that the register replaces is ignored. -/
def State.expertParam (s : State) (by_ : Writer) (x : Axis) (group : Nat) (f : Fld) (w : Word) : State :=
  s.expert by_ x group (fun s => if s.xTakes x (f.reg % 0x1000) w then s.setW f w else s)

/-! ### Blocks -/

/-- A write in block GH. -/
def State.ghWrite (s : State) (by_ : Writer) (a : Nat) (w : Word) : State :=
  match a % 0x1000 with
  | 0x008 => s.w1cReg a w 0
  | 0x00C => s.rstWrite by_ w s.pins.bootsel
  | 0x010 =>
    if s.fld F.GH_BOOT_STATUS_STATE = 2 then
      let us := s.freshNat
      us.2.hostLoad w us.1
    else s.set F.GH_HOST_LOAD_LEN (fieldOf F.GH_HOST_LOAD_LEN w)
  | 0x01C => s.sectWrite w
  | 0x028 => s.floorWrite w
  | _ => s

/-- A write in block HB: the causes of PACE_STAT are the latest counts (R158, R159). -/
def State.hbWrite (s : State) (a : Nat) (w : Word) : State :=
  match a % 0x1000 with
  | 0x018 =>
    let low := maskWhere 4 (fun c => decide (2 ≤ nth 0 s.fab.paceRun c))
    let band := maskWhere 4 (fun c => decide (s.fld (F.HB_PACE_LAST c) < s.fld F.HB_PACE_LIM_BAND_FLOOR))
    s.w1cReg a w (inField F.HB_PACE_STAT_BELOW_FLOOR low ||| inField F.HB_PACE_STAT_BELOW_BAND band)
  | 0x01C => s.plainReg a w
  | 0x040 => s.hbCntClr w
  | _ => s

/-- R188: the update instant that a graph of the axis serves, and the slot whose sample instant triggered it (the latest one of any slot, 4,
where no slot did). -/
def State.servedBy (s : State) (x : Axis) (g : Option Nat) : Option (Nat × Nat) :=
  g.bind (fun g => (s.graphD g).bind (fun d =>
    if d.axis = x.ix then (s.instOf g).map (fun i => (i.serves, if d.trigger = 0 then d.trigArg else 4)) else none))

/-- A write in block PW of axis x, by the graph `g` where a task makes it. -/
def State.pwWrite (s : State) (g : Option Nat) (x : Axis) (a : Nat) (w : Word) : State :=
  let off := a % 0x1000
  let s :=
    if off = 0x000 then s.ctrlWrite x w
    else if off = 0x004 then s.periodWrite x w
    else if inRange 0x00C 0x018 off then s.setWord x ((off - 0x00C) / 4) w (s.servedBy x g)
    else if off = 0x040 then s.w1cReg a w 0
    else s.shadowReg a w
  s.idleCommit x

/-- A write in block SUN. -/
def State.sunWrite (s : State) (a : Nat) (w : Word) : State :=
  let off := a % 0x1000
  let n := (off - 0x040) / 16
  match off with
  | 0x000 => s.sunCtrlWrite w
  | 0x004 => s.plainReg a w
  | 0x008 => s.plainReg a w
  | 0x00C => s.sunCmdWrite w
  | 0x018 => s.w1cReg a w 0
  | _ =>
    if off < 0x040 then s
    else if off % 16 = 0 then s.actTime n (F.SUN_ACT_TLO n) w
    else if off % 16 = 4 then s.actTime n (F.SUN_ACT_THI n) w
    else s.actWrite n w

/-- A write in block SNS. -/
def State.snsWrite (s : State) (a : Nat) (w : Word) : State :=
  let off := a % 0x1000
  if off = 0 then s.sdclkWrite w
  else if off < 0x024 then s.sdchWrite ((off - 4) / 4) w
  else if off < 0x044 then s.fthrWrite ((off - 0x024) / 4) w
  else if off = 0x044 then
    let s := s.plainReg a w
    s.set F.SNS_SAR_WIN_W_NOW (s.fld (winFld (s.fld F.ORG_TJ_BAND)))
  else if off < 0x088 then s.plainReg a w
  else if off = 0x088 then (if s.bridgeOn .a then s else s.plainReg a w)
  else if off = 0x08C then (if s.bridgeOn .b then s else s.plainReg a w)
  else if off = 0x090 then
    s.forEach [(Axis.a, F.SNS_TOPO_TOPO_A), (Axis.b, F.SNS_TOPO_TOPO_B)]
      (fun s e => if s.bridgeOn e.1 then s else s.set e.2 (fieldOf e.2 w))
  else if off = 0x094 then
    let sum (x : Axis) : Nat := b2n ((List.range 4).any (fun n => decide (2 ≤ nth 0 s.sns.sumRun (slotIx x n))))
    s.w1cReg a w (inField F.SNS_STAT_STUCK (maskWhere 8 (fun i => nth false s.sns.stuck i)) |||
      inField F.SNS_STAT_FTRIP (maskWhere 8 (fun i => nth true s.sns.fTrip i)) |||
      inField F.SNS_STAT_SUMERR_A (sum .a) ||| inField F.SNS_STAT_SUMERR_B (sum .b))
  else if inRange 0x0A0 0x0C4 off then s.calWrite ((off - 0x0A0) / 4) w
  else if off = 0x0E0 then s.snsCntClr w
  else s

/-- A write in block HAH. -/
def State.hahWrite (s : State) (a : Nat) (w : Word) : State :=
  let off := a % 0x1000
  if off < 0x030 then s.cmpWrite (off / 4) w
  else if off < 0x060 then s.thrWrite ((off - 0x030) / 4) w
  else
    match off with
    | 0x06C => s.w1cReg a w (inField F.HAH_STICKY_LO (maskWhere 12 (fun n => (s.side (sideIx n false)).trip)) |||
        inField F.HAH_STICKY_HI (maskWhere 12 (fun n => (s.side (sideIx n true)).trip)))
    | 0x074 => s.w1cReg a w (inField F.HAH_RB_STAT_ERR (maskWhere 24 (fun k => decide (0 < nth 0 s.sns.rbRun k))))
    | 0x080 => s.posCfgWrite 1 a w
    | 0x084 => s.posCfgWrite 2 a w
    | 0x088 => s.w1cReg a w (inField (F.HAH_HALL_ST_INVCODE .a) (s.fld (F.HAH_HALL_ST_INVALID .a)))
    | 0x08C => s.w1cReg a w (inField (F.HAH_HALL_ST_INVCODE .b) (s.fld (F.HAH_HALL_ST_INVALID .b)))
    | 0x090 => s.posCfgWrite 3 a w
    | 0x094 => s.posCfgWrite 4 a w
    | 0x0A0 => s.w1cReg a w 0
    | 0x0A4 => s.w1cReg a w 0
    | 0x0A8 => s.hahCntClr w
    | _ => s.plainReg a w

/-- A write of MCx.FOL_CTRL or CAP_CTRL (R419, R425). -/
def State.folCtrl (s : State) (x : Axis) (w : Word) : State :=
  let s := if fieldOf (F.MC_FOL_CTRL_START x) w = 1 then s.folStart x else s
  if fieldOf (F.MC_FOL_CTRL_CANCEL x) w = 1 then s.folEnd x 2 else s
@[inherit_doc State.folCtrl] def State.capCtrl (s : State) (x : Axis) (w : Word) : State :=
  let s := if fieldOf (F.MC_CAP_CTRL_ARM x) w = 1 then s.capArm x else s
  let s := if fieldOf (F.MC_CAP_CTRL_TRIG x) w = 1 ∧ s.fld (F.MC_CAP_CFG_TRIG x) = 3 then s.capTrigger x else s
  if fieldOf (F.MC_CAP_CTRL_CANCEL x) w = 1 then s.capCancel x else s

/-- A write in block MC of axis x, offsets 0x000 to 0x15C. -/
def State.mcWriteLow (s : State) (by_ : Writer) (x : Axis) (a : Nat) (w : Word) : State :=
  match a % 0x1000 with
  | 0x000 => s.cmdArrive x { code := fieldOf (F.MC_CMD_CODE x) w, tag := fieldOf (F.MC_CMD_TAG x) w, src := 0, slot := none }
  | 0x004 => s.ownWrite x w
  | 0x00C => s.modeWrite by_ x w
  | 0x010 => s.setPoint by_ (F.MC_SPD_SET x) w
  | 0x014 => s.setPoint by_ (F.MC_TRQ_SET x) w
  | 0x01C => s.w1cReg a w (inField (F.MC_LIMIT_SEEN x) ((s.sv x).causes / 2))
  | 0x03C => s.mcCntClr x w
  | 0x048 => s.expert by_ x gFW (fun s =>
      if s.flag (F.MC_MODE_FW_EN x) && fFinite w && fLe w fZero && fLe 0xC61C4000#32 w then
        (s.setW (F.MC_X_ID_FW x) w).setB (F.MC_STATE_FW_ACTIVE x) (fLt w fZero)
      else s)
  | 0x04C => s.expertParam by_ x gFW (F.MC_X_FW_KI x) w
  | 0x050 => s.expertParam by_ x gFW (F.MC_X_FW_IDMIN x) w
  | 0x054 => s.expertParam by_ x gFW (F.MC_X_FW_MODMAX x) w
  | 0x104 => s.blvWrite by_ x w
  | 0x108 => s.w1cReg a w (inField (F.MC_BLV_EVT_EXTRAP_SEEN x) (s.fld (F.MC_BLV_STAT_EXTRAP x)))
  | 0x114 =>
    let on := fieldOf (F.MC_ID_CTRL_ON_START x) w
    let s := s.forEach [F.MC_ID_CTRL_SECT x, F.MC_ID_CTRL_STAGE x, F.MC_ID_CTRL_LOCKED x, F.MC_ID_CTRL_TESTS x]
      (fun s f => s.set f (fieldOf f w))
    s.needs by_ (on == 1) (s.hasParam x 0x0A28 && s.hasParam x 0x0A29 && s.hasParam x 0x0A2A) (fun s => s.set (F.MC_ID_CTRL_ON_START x) on)
  | 0x11C | 0x120 | 0x124 | 0x128 | 0x12C | 0x130 => s.expert by_ x gOBS id
  | 0x134 => s.expertParam by_ x gOBS (F.MC_X_PLL_KP x) w
  | 0x138 => s.expertParam by_ x gOBS (F.MC_X_PLL_KI x) w
  | 0x13C => s.expertParam by_ x gOBS (F.MC_X_DIS_BAND x) w
  | 0x140 => s.expertParam by_ x gOBS (F.MC_X_RES_BAND x) w
  | _ => s

/-- A write in block MC of axis x, offsets from 0x440. -/
def State.mcWriteHigh (s : State) (by_ : Writer) (x : Axis) (a : Nat) (w : Word) : State :=
  let capFree (s : State) : State := if s.flag (F.MC_CAP_STAT_RUNNING x) then s else s.plainReg a w
  match a % 0x1000 with
  | 0x440 => s.swapRequest by_ x w
  | 0x444 => s.w1cReg a w (inField (F.MC_SWAP_STAT_REFUSED x) (s.sv x).refused)
  | 0x448 => s.plainReg a w
  | 0x44C => s.loopWrite by_ x true w
  | 0x450 => s.loopWrite by_ x false w
  | 0x45C => s.w1cReg a w (inField (F.MC_CMP_SAT_SAT x) (s.sv x).satNow)
  | 0x508 | 0x50C => s.expert by_ x gPROF id
  | 0x510 => s.expertParam by_ x gPROF (F.MC_X_ACC_MAX x) w
  | 0x514 => s.expertParam by_ x gPROF (F.MC_X_DEC_MAX x) w
  | 0x518 => s.expertParam by_ x gPROF (F.MC_X_JERK_MAX x) w
  | 0x51C => s.posSetWrite by_ x false w
  | 0x520 => s.posSetWrite by_ x true w
  | 0x534 => if fieldOf (F.MC_PRM_CTRL_HOME x) w = 1 then s.homeWrite x else s
  | 0x598 => s.folCtrl x w
  | 0x5C4 => capFree s
  | 0x5C8 => capFree s
  | 0x5CC => capFree s
  | 0x5D0 => capFree s
  | 0x5D4 => s.capCtrl x w
  | _ => s.plainReg a w

/-- A write in block MC of axis x. -/
def State.mcWrite (s : State) (by_ : Writer) (x : Axis) (a : Nat) (w : Word) : State :=
  let off := a % 0x1000
  if off < 0x200 then s.mcWriteLow by_ x a w
  else if off < 0x440 then
    (if off % 0x40 < 0x28 then s.bankWrite by_ x ((off - 0x200) / 0x40) (off % 0x40 / 4) w
     else s.expert by_ x (compGroup ((off - 0x200) / 0x40)) id)
  else s.mcWriteHigh by_ x a w

/-- Registers of block TR that belong to the GATE group as a whole: EDGE_x, STR_x, STR_BK, STR_LIM, BAND0 to BAND4 and REF_CFG. -/
def gateReg (off : Nat) : Bool := inRange 0x008 0x03C off

/-- A write in block TR of axis x. R7 keeps a W1C bit whose cause is present: of DS_STAT.DS_SEEN bit c that is the channel's input above
THR now, and MON_SEEN, whose comparison is of one instant (R472), has none (the manual names no cause of either: DESIGN CHOICE, log entry
54). -/
def State.trWrite (s : State) (by_ : Writer) (x : Axis) (a : Nat) (w : Word) : State :=
  let off := a % 0x1000
  match off with
  | 0x000 => s.trCfgWrite by_ x w
  | 0x004 =>
    let lim := maskWhere 6 (fun sw => [true, false].any (fun on => bit (s.tr x).unreach (skIx sw on)))
    s.w1cReg a w (inField (F.TR_STAT_BS_UV_SEEN x) (s.fld (F.TR_STAT_BS_UV x)) ||| inField (F.TR_STAT_UNREACH x) lim |||
      inField (F.TR_STAT_GOFF_ERR x) (b2n ((s.tr x).goff != 0)) ||| inField (F.TR_STAT_ILK_SEEN x) (b2n ((s.tr x).ilk != 0)))
  | 0x014 => s.strWrite by_ x 0 w
  | 0x018 => s.strWrite by_ x 1 w
  | 0x01C => s.strWrite by_ x 2 w
  | 0x024 => s.strLimWrite by_ x w
  | 0x05C => s.trxCntClr x w
  | 0x100 => if s.bridgeOn x then s else s.plainReg a w
  | 0x104 =>
    let s := s.expert by_ x gRETRY (fun s => s.set (F.TR_SAFE_CFG_ASC_POL x) (fieldOf (F.TR_SAFE_CFG_ASC_POL x) w))
    if s.bridgeOn x then s
    else
      let s := s.setIf (F.TR_SAFE_CFG_EXIT_V x) w (inRange 5 40)
      let s := s.setIf (F.TR_SAFE_CFG_QUIET x) w (fun v => decide (1 ≤ v))
      let on := fieldOf (F.TR_SAFE_CFG_CSC_EN x) w
      s.needs by_ (on == 1) (s.hasParam x 0x0E00 && s.hasParam x 0x0E01 && s.hasParam x 0x0E02) (fun s =>
        if on = s.fld (F.TR_SAFE_CFG_CSC_EN x) then s
        else ((s.set (F.TR_SAFE_CFG_CSC_EN x) on).cascadeShow x).settle x)
  | 0x108 => s.expert by_ x gRETRY (fun s => s.plainReg a w)
  | 0x110 => s.w1cReg a w (inField (F.TR_DS_STAT_DS_SEEN x) (s.fld (F.TR_DS_STAT_DS_NOW x)))
  | 0x11C => s.protClr x w
  | _ => if gateReg off then s.expert by_ x gGATE (fun s => s.plainReg a w) else s.plainReg a w

/-- A write in block LDG. -/
def State.ldgWrite (s : State) (a : Nat) (w : Word) : State :=
  let off := a % 0x1000
  if off = 0x004 then s.plainReg a w
  else if inRange 0x010 0x024 off then s.statusClear ((off - 0x010) / 4) w
  else if off = 0x054 then s.logClr w
  else if inRange 0x060 0x06C off then s.evtClear ((off - 0x060) / 4) w
  else if inRange 0x200 0x3FC off then s.routeWrite ((off - 0x200) / 4) w
  else s

/-- A write in block ORG. -/
def State.orgWrite (s : State) (a : Nat) (w : Word) : State :=
  match a % 0x1000 with
  | 0x004 => s.w1cReg a w 0
  | 0x008 => s.shadowReg a w
  | 0x00C => s.shadowReg a w
  | 0x010 => (s.plainReg a w).requestTouch
  | 0x028 => if fieldOf F.ORG_CTRL_ENF_NOW w = 1 then s.throttleOn else s
  | _ => s.plainReg a w

/-- A write in block GRT. -/
def State.grtWrite (s : State) (a : Nat) (w : Word) : State :=
  match a % 0x1000 with
  | 0x000 => s.w1cReg a w 0
  | 0x00C => s.progWrite w
  | 0x010 => s.plainReg a w
  | _ => s

/-! ### The Wicket's own registers (R589 to R593) -/

/-- R589: a write of WKT.LEN waits until the reply to its frame (`false`: not made yet), or, for a kiosk's write, the next reply,
has gone out; a length out of range is ignored, with VOID. -/
def State.lenWrite (s : State) (by_ : Writer) (w : Word) : State :=
  let n := fieldOf F.WKT_LEN_LEN w
  if inRange 64 4096 n then s.modWkt (fun k => { k with len := some (n, by_ == .kiosk) }) else s.note by_ rfVoid

/-- R591, R593: a write of WKT.HLT; EN = 0 disarms the timer. -/
def State.hltWrite (s : State) (w : Word) : State :=
  let s := s.plainReg A.WKT_HLT w
  if s.flag F.WKT_HLT_EN then s else s.set F.WKT_STAT_ARMED 0

/-- A write in block WKT. -/
def State.wktWrite (s : State) (by_ : Writer) (a : Nat) (w : Word) : State :=
  match a % 0x1000 with
  | 0x000 => s.lenWrite by_ w
  | 0x004 => s.hltWrite w
  | 0x008 => s.w1cReg a w 0
  | 0x010 => if fieldOf F.WKT_CNT_CLR_CNT w = 1 then s.wr A.WKT_CNT 0 else s
  | _ => s

/-- A write in block ICE. -/
def State.iceWrite (s : State) (a : Nat) (w : Word) : State :=
  match a % 0x1000 with
  | 0x008 => s.plainReg a w
  | 0x00C => s.iceCtrlWrite w
  | 0x010 => s.w1cReg a w 0
  | _ => s

/-- A write in block PGL: the registers of a channel that does not exist ignore it, but for TRIG (R607, R609). -/
def State.pglWriteReg (s : State) (by_ : Writer) (a : Nat) (w : Word) : State :=
  let off := a % 0x1000
  if off = 0x000 then s.pglReset by_ w
  else if off = 0x018 then s.ringRdWrite by_ w
  else if off < 0x100 then s
  else
    let n := (off - 0x100) / 0x20
    match off % 0x20 with
    | 0x00 => s.chnCfgWrite n w
    | 0x04 => if s.flag (F.PGL_CH_CFG_EXISTS n) then s.plainReg a w else s
    | 0x08 =>
      let s := if fieldOf (F.PGL_CH_CTRL_TRIG n) w = 1 then s.pglTrigReg n else s
      if fieldOf (F.PGL_CH_CTRL_ABORT n) w = 1 then s.pglAbort n else s
    | 0x0C => if s.flag (F.PGL_CH_CFG_EXISTS n) then s.w1cReg a w 0 else s
    | _ => s

/-- A request of test slot k by a register write: what the test will measure is free. -/
def State.freeSum (s : State) : Int × State :=
  let n := s.freshNat
  (signed 27 n.1, n.2)
@[inherit_doc State.freeSum] def State.freeSums (s : State) (n : Nat) : List Int × State :=
  match n with
  | 0 => ([], s)
  | n + 1 =>
    let a := s.freeSum
    let r := a.2.freeSums n
    (a.1 :: r.1, r.2)

/-- Findings of DS_PATH on n channels, and filter results and captures of SD_LOOP on four inputs, of which those in a mask fail. -/
def pathsOf (n m : Nat) : List PathCheck := (List.range n).map (fun c => { trip := some 0, soft := true, calm := !bit m c })
@[inherit_doc pathsOf] def filtersOf (m : Nat) : List FilterCheck :=
  (List.range 4).map (fun i => let l := if bit m i then [] else [(16384 : Int)]
    { sinc3 := List.replicate 5 (l, l.map (fun v => -v)), sinc2 := List.replicate 3 (l, l.map (fun v => -v)) })
@[inherit_doc pathsOf] def landsOf (m : Nat) : List (List Bool) := (List.range 4).map (fun i => if bit m i then [] else [false, true])

@[inherit_doc State.freeSum] def State.testFree (s : State) (k : Nat) : State :=
  let v := s.freeSums 10
  let n (i : Nat) : Nat := (nth 0 v.1 i).natAbs
  let x : Axis := match testAxis k with | some x => x | none => .a
  let s := v.2
  match k with
  | 0 => s.sarAsk (n 0) (n 1) (n 2) (n 3)
  | 1 => s.scrubAsk []
  | 2 => s.dsPathAsk x (pathsOf 7 (n 0)) (pathsOf 6 (n 1))
  | 3 => s.dsPathAsk x (pathsOf 7 (n 0)) (pathsOf 6 (n 1))
  | 4 => s.sdLoopAsk x (filtersOf (n 0)) (landsOf (n 1))
  | 5 => s.sdLoopAsk x (filtersOf (n 0)) (landsOf (n 1))
  | 6 => s.ofsCalAsk (n 6) (n 7) (n 8) (n 9) (v.1.take 3) ((v.1.drop 3).take 3)
  | 7 => s.ofsAxisAsk x (v.1.take 3)
  | 8 => s.ofsAxisAsk x (v.1.take 3)
  | _ => s.trimAsk x (n 0) (n 1) (n 2) (n 3)

/-- A write in block STC: the slots of REQ are requested in ascending order (R636). -/
def State.stcWrite (s : State) (a : Nat) (w : Word) : State :=
  match a % 0x1000 with
  | 0x000 => s.forEach ((List.range 11).filter (fun k => bit (fieldOf F.STC_REQ_SLOT w) k)) State.testFree
  | 0x004 => s.stcCancel w
  | 0x008 => s.plainReg a w
  | 0x00C => s.trimWrite .a w
  | 0x010 => s.trimWrite .b w
  | _ => s

/-! ### Any register -/

/-- A write of a register by the host, or by a kiosk for a task of the graph `g`; an address that is not implemented is ignored,
with VOID (R656). -/
def State.regWrite (s : State) (by_ : Writer) (g : Option Nat) (a : Nat) (w : Word) : State :=
  if regImplemented a then
    match a / 0x1000 with
    | 0x400 => s.ghWrite by_ a w
    | 0x401 => s.hbWrite a w
    | 0x402 => s.pwWrite g .a a w
    | 0x403 => s.pwWrite g .b a w
    | 0x404 => s.sunWrite a w
    | 0x405 => s.snsWrite a w
    | 0x406 => s.hahWrite a w
    | 0x407 => s.mcWrite by_ .a a w
    | 0x408 => s.mcWrite by_ .b a w
    | 0x40A => s.trWrite by_ .a a w
    | 0x40B => s.trWrite by_ .b a w
    | 0x40C => s.ldgWrite a w
    | 0x40D => s.orgWrite a w
    | 0x40E => s.grtWrite a w
    | 0x40F => s.wktWrite by_ a w
    | 0x410 => s.iceWrite a w
    | 0x411 => s.pglWriteReg by_ a w
    | _ => s.stcWrite a w
  else s.note by_ rfVoid

/-- A write by a kiosk's REG operand: flags of a refused write reach no Wicket reply. -/
def State.kioskWrite (s : State) (g : Nat) (a : Nat) (w : Word) : State :=
  (s.regWrite .kiosk (some g) a w).setReply s.reply

/-- A RW register whose written value takes effect later reads the written value. -/
def lateMask (a : Nat) : Word :=
  let off := a % 0x1000
  match a / 0x1000 with
  | 0x402 | 0x403 => if off = 0x000 then 0x700#32 else if off = 0x024 then 0xFFFFFFFF#32 else 0
  | 0x407 | 0x408 => if off = 0x00C ∨ off = 0x44C ∨ off = 0x450 ∨ off = 0x104 then fieldMask (regFields a) (fun d => d.acc == .rw) else 0
  | 0x40D => if off = 0x008 ∨ off = 0x00C then 0xFFFFFFFF#32 else 0
  | 0x411 => if 0x100 ≤ off ∧ off % 0x20 = 0 then 0x3FC#32 else 0
  | _ => 0

/-- LDG.SUMMARY and IRQ_STAT (tables 15.6 and 15.12): which levels and classes stand now. -/
def State.summary (s : State) : Word :=
  let put (w : Word) (f : Fld) (b : Bool) : Word := putField f w (b2n b)
  put (put (put (put (put (put (put (put 0 F.LDG_SUMMARY_FLT s.fltLow) F.LDG_SUMMARY_FATAL (s.anyStatus 2 3))
    F.LDG_SUMMARY_CONT_D (s.anyStatus 2 2)) F.LDG_SUMMARY_CONT_B (s.anyStatus 1 2)) F.LDG_SUMMARY_CONT_A (s.anyStatus 0 2))
    F.LDG_SUMMARY_CORR_D (s.anyStatus 2 1)) F.LDG_SUMMARY_CORR_B (s.anyStatus 1 1)) F.LDG_SUMMARY_CORR_A (s.anyStatus 0 1)

/-- A register that shows what other state holds, or none. -/
def State.shown (s : State) (a : Nat) : Option Word :=
  let off := a % 0x1000
  if a = A.LDG_SUMMARY then some s.summary
  else if a = A.LDG_IRQ_STAT then
    some (putField F.LDG_IRQ_STAT_IRQ1 (putField F.LDG_IRQ_STAT_IRQ0 0 (b2n s.irq0)) (b2n s.irq1))
  else if a = A.HB_KBUSY then
    some (BitVec.ofNat 32 (maskWhere 24 (fun k => (s.kiosk k).run.isSome)))
  else if a = A.PGL_STAT then some (putField F.PGL_STAT_FULL (s.rd a) (b2n (s.ringN != 0 && s.ringFull)))
  else if a = A.MC_STATE .a then some (putField (F.MC_STATE_BRIDGE_EN .a) (s.rd a) (b2n (s.bridgeOn .a)))
  else if a = A.MC_STATE .b then some (putField (F.MC_STATE_BRIDGE_EN .b) (s.rd a) (b2n (s.bridgeOn .b)))
  else if a = A.STC_REQ then some (BitVec.ofNat 32 (maskWhere 11 (fun k => s.testRuns k || s.testWaits k)))
  else if (a = A.HAH_HALL_ST .a ∧ s.posAxes 1 = []) ∨ (a = A.HAH_HALL_ST .b ∧ s.posAxes 2 = []) then some 0
  else if a = A.WKT_LEN then s.wkt.len.map (fun e => BitVec.ofNat 32 e.1)
  else if a / 0x1000 = 0x40E ∧ 0x100 ≤ off then
    some (if off < 0x120 then 0 else s.latched ((off - 0x100) / 4))
  else if a / 0x1000 = 0x411 ∧ 0x100 ≤ off ∧ s.flag (F.PGL_CH_CFG_EXISTS ((off - 0x100) / 0x20)) = false then some 0
  else none

/-- What a read of a register returns: WO fields and bits without a field read 0; an address that is not implemented reads 0, with
VOID for the host (R656). No register changes state when it is read (R8). -/
def State.regRead (s : State) (a : Nat) : Word :=
  let v := match s.shown a with
    | some v => v
    | none => (s.rd a &&& ~~~(lateMask a)) ||| (s.rdSh a &&& lateMask a)
  v &&& fieldMask (regFields a) (fun d => d.acc != .wo)

/-! ### Commands -/

/-- REGISTER_WRITE: a host write of one register (R585, R586). -/
def execRegisterWrite (a : Nat) (w : Word) (s : State) : Host.Outcome State Fault Refusal :=
  .next (s.running (fun s => s.regWrite .host none a w))

/-- PWM_CTRL_WRITE: a host write of PWx.CTRL (R198). -/
def execPwmCtrlWrite (x : Axis) (w : Word) (s : State) : Host.Outcome State Fault Refusal :=
  .next (s.running (fun s => (s.ctrlWrite x w).idleCommit x))

/-! ### Action slots (R211 to R214) -/

/-- R213, R214: what a fired slot does: CODE 1 to 4 a START or STOP of axis A or B with TAG 0xF0 + n, 5 a trigger of a channel. -/
def State.actRun (s : State) (n code arg : Nat) : State :=
  let cmd (x : Axis) (c : Nat) : State := s.cmdArrive x { code := c, tag := 0xF0 + n, src := 1, slot := some n }
  match code with
  | 1 => cmd .a cmSTART
  | 2 => cmd .b cmSTART
  | 3 => cmd .a cmSTOP
  | 4 => cmd .b cmSTOP
  | 5 => s.pglTrigReg arg
  | _ => s

/-- R211: an armed slot whose time the counter has reached fires: FIRED, or late where it was armed after its time or carried past it. -/
def State.fireSlot (s : State) (n : Nat) : State :=
  let c := s.act n
  if s.flag (F.SUN_ACT_CTRL_ARM n) = true ∧ c.1 ≤ s.now then
    let late := c.2.2.2
    let s := (s.set (F.SUN_ACT_CTRL_ARM n) 0).set (F.SUN_ACT_CTRL_STATUS n) (if late then 3 else 2)
    (s.event (if late then 91 else 90)).actRun n c.2.1 c.2.2.1
  else s

/-- R211: slots that fire at the same clock act in ascending order. -/
def State.fireSlots (s : State) (n : Nat) : State := s.forEach (List.range n) State.fireSlot

/-- ACTION_FIRED: slot n, whose time the counter has reached, fires, after the slots below it that are due (R211). -/
def execActionFired (n : Nat) (s : State) : Host.Outcome State Fault Refusal :=
  .next (s.running (fun s => if n < 8 then s.fireSlots (n + 1) else s))

end Sys2Proof.Machine
end

