-- ==== Sys2Proof/Machine/Clock.lean ====
section
/-! DEFINITION. One 400 MHz clock of the block (spec/06_pwm_timebases_time.md, R171, R202, R203, R207, R211): what happens as time passes
whatever is commanded. -/

namespace Sys2Proof.Machine

/-- R203: the counter advances by 1 + RATE through the 32-bit fraction; in HOLDOVER, DRIFT grows (R207). -/
def State.count (s : State) : State :=
  let t : Int := (s.sun.frac : Int) + s.sfld F.SUN_RATE
  let s := s.modSun (fun u => { u with cnt := u.cnt + BitVec.ofInt 64 (1 + t / 4294967296), frac := unsigned 32 t,
                                       tick := u.tick + 1 })
  if s.sunState = 3 then (s.modSun (fun u => { u with held := u.held + 1 })).showDrift else s

/-- One clock: the counter advances, the action slots that are due fire (R211), and the gates whose dead time or separation has passed
turn on (R182, R452). -/
def State.clock (s : State) : State :=
  if s.sun.pll then ((s.count.running (fun s => s.fireSlots 8)).gatesDue .a).gatesDue .b else s

end Sys2Proof.Machine
end

