-- ==== Sys2Proof/Machine/Operands.lean ====
section
/-! DEFINITION. The operand forms of a kiosk's operators (spec/05_kiosks_fabric.md, tables 5.2 and 5.5, R134 to R138, R143, R154,
R155): reading and writing SCRATCH, SHARED, LOCAL, SOURCE, CONST and REG operands, what they cost, and what every operator does
before and after its own arithmetic. -/

namespace Sys2Proof.Machine

/-! ### Words and bytes -/

/-- The words of a byte string. -/
def bytesWords (n : Nat) (bs : List Byte) : List Word := (List.range n).map (fun i => BitVec.ofNat 32 (u32 bs (4 * i)))

/-! ### Where an operand lies -/

/-- Axis whose graph a graph is; none for a background graph. -/
def State.graphAxis (s : State) (g : Nat) : Option Axis :=
  match s.graphOwner g with
  | 0 => some .a
  | 1 => some .b
  | _ => none

/-- The WINDOW section that holds a WINDOW task's operator list (R166); of several, OPL_OFF counts from the first that holds the whole
list, else from the first in which it begins (DESIGN CHOICE, log entry 61: table 4.6 says "from the start of a WINDOW section"). -/
def State.windowSect (s : State) (d : TaskD) : Option Sect :=
  let l := s.img.sects.filter (fun c => c.typ == 9 && decide (d.oplOff < c.len))
  (l.find? (fun c => decide (d.oplOff + 8 * d.oplLen ≤ c.len))).or l.head?

/-- The body or section that CONST operands of a task lie in: its address, its length, and whether the address is one of the flash
(R166). -/
def State.constBody (s : State) (r : Run) : Nat × Nat × Bool :=
  match s.graphD r.graph, s.taskD r.graph r.task with
  | some g, some d =>
    if s.inWindow r then
      match s.windowSect d with
      | some c => (c.off, c.len, true)
      | none => (0, 0, true)
    else
      match s.img.sects[g.sect]? with
      | some c => (c.base, c.len, false)
      | none => (0, 0, false)
  | _, _ => (0, 0, false)

/-- R107, R119, R120: an SRAM address in a runtime section's body: where it lies in the active copy, and the bytes that a task
released before an update still uses. -/
def State.bodyAt (s : State) (g a n : Nat) : Nat × Option (List Byte) :=
  match s.img.sects.zipIdx.find? (fun e => e.1.isRuntime && decide (e.1.dest ≤ a) && decide (a + n ≤ e.1.dest + e.1.len)) with
  | some e =>
    let o := a - e.1.dest
    (e.1.base + o, (s.instOf g).bind (fun i => (i.bodies.find? (fun b => b.1 == e.2)).map (fun b => slice b.2 o n)))
  | none => (a, none)

/-! ### Reading -/

/-- Words that run out are free: the layout of a record beyond what the rules give it is open. -/
def State.recWords (s : State) (l : List Word) (o n : Nat) : List Word × State :=
  match n with
  | 0 => ([], s)
  | n + 1 =>
    let p := match l[o]? with
      | some v => (v, s)
      | none => s.freshWord
    let q := p.2.recWords l (o + 1) n
    (p.1 :: q.1, q.2)

/-- `n` words of memory for a task of graph g; none where a word has a double-bit error (R134). -/
def State.memWords (s : State) (g a n : Nat) : Option (List Word) × State :=
  let p := s.bodyAt g a (4 * n)
  match s.readMem none p.1 (4 * n) with
  | (some bs, s) => (some (bytesWords n (p.2.getD bs)), s)
  | (none, s) => (none, s)

/-- A word of the decrypted window in the cache (R598). -/
def State.windowWord (s : State) (a : Nat) : Word :=
  match s.cached a with
  | some bs => BitVec.ofNat 32 (u32 bs (a % 64))
  | none => 0

/-- The fields of a register that are written as parameters or set-points from one word, the others from another. -/
def mixFields (a : Nat) (l v : Word) : Word :=
  let m := fieldMask (regFields a) (fun d => d.acc == .rw || d.acc == .rws)
  (v &&& ~~~m) ||| (l &&& m)

/-- R13: what a task of graph g reads of a register: the fields that are written as parameters or set-points as they were latched
for the period of its release, every other field as it stands. -/
def State.taskReg (s : State) (g a : Nat) : Word :=
  let v := s.regRead a
  match (s.instOf g).bind (fun i => i.lat) with
  | some l => mixFields a (cget regPor l a) v
  | none => v

/-- Registers with set-points and parameters of an axis that its services use for a graph. -/
def periodRegs (x : Axis) : List Nat :=
  [A.MC_MODE x, A.MC_CUR_CTRL x, A.MC_FOL_CFG x, A.MC_BLV_CTRL x, A.MC_ID_CTRL x] ++
    [F.MC_X_FW_MODMAX x, F.MC_X_FW_KI x, F.MC_X_FW_IDMIN x, F.MC_X_DIS_BAND x, F.MC_X_RES_BAND x].map Fld.reg

/-- The set-points and parameters of the period in which graph g was released: registers as latched for it (R13), section bodies as they
were at its release (R120). -/
def State.periodView (s : State) (g : Nat) : State :=
  match s.instOf g with
  | none => s
  | some i =>
    let s := s.bodiesAt i.bodies
    match i.lat, s.graphAxis g with
    | some l, some x =>
      (s.forEach (periodRegs x) (fun s a => s.wr a (mixFields a (cget regPor l a) (s.rd a)))).modSv x (fun v => { v with lat := l })
    | _, _ => s

/-- What the services of an axis do for graph g, with the set-points and parameters of its period; these stay as they are. -/
def State.forPeriod (s : State) (g : Nat) (f : State → State) : State :=
  let t := f (s.periodView g)
  match s.instOf g with
  | none => t
  | some i =>
    let t := t.forEach i.bodies (fun t b => match s.img.sects[b.1]? with | some c => t.setBytes c.base (s.bytes c.base b.2.length) | none => t)
    match i.lat, s.graphAxis g with
    | some _, some x =>
      (t.forEach (periodRegs x) (fun t a => t.wr a (mixFields a (s.rd a) (t.rd a)))).modSv x (fun v => { v with lat := (s.sv x).lat })
    | _, _ => t

/-- `n` words of an operand of the task that runs on kiosk k (table 5.2); none where a word of memory delivers no data. -/
def State.opRead (s : State) (k : Nat) (r : Run) (w : Word) (n : Nat) : Option (List Word) × State :=
  let a := opAddr w
  match opSpace w with
  | 0 => (some ((List.range n).map (fun i => nth 0 r.scratch (a / 4 + i))), s)
  | 3 =>
    let rec_ := match (s.instOf r.graph).bind (fun i => i.recs.find? (fun e => e.1 == bits w.toNat 23 16)) with
      | some e => e.2
      | none => []
    let p := s.recWords rec_ (bits w.toNat 15 0 / 4) n
    (some p.1, p.2)
  | 4 =>
    let b := s.constBody r
    if b.2.2 then (some ((List.range n).map (fun i => s.windowWord (b.1 + a + 4 * i))), s)
    else s.memWords r.graph (b.1 + a) n
  | 5 => (some ((List.range n).map (fun i => s.taskReg r.graph (a + 4 * i))), s)
  | _ => s.memWords r.graph ((opMem k w).getD a) n

/-- Read operands in order, up to the first that delivers no data. -/
def State.readAll (s : State) (k : Nat) (r : Run) (l : List (Word × Nat)) : Option (List (List Word)) × State :=
  match l with
  | [] => (some [], s)
  | e :: rest =>
    match s.opRead k r e.1 e.2 with
    | (none, s) => (none, s)
    | (some v, s) =>
      match s.readAll k r rest with
      | (some vs, s) => (some (v :: vs), s)
      | (none, s) => (none, s)

/-- Read operands, then go on; a read that delivers no data abandons the task with detail 5 (R154). -/
def State.reading (s : State) (k : Nat) (r : Run) (l : List (Word × Nat)) (f : State → List (List Word) → State) : State :=
  match s.readAll k r l with
  | (some vs, s) => f s vs
  | (none, s) => s.abandon k 5

/-! ### Writing -/

/-- Write words from a scratch word on. -/
def putScratch (l : List Word) (i : Nat) (vs : List Word) : List Word :=
  match vs with
  | [] => l
  | v :: r => putScratch (setNth l i v) (i + 1) r

/-- Write consecutive registers, as long as the task runs. -/
def State.opWriteRegs (s : State) (k g a : Nat) (vs : List Word) : Bool × State :=
  match vs with
  | [] => (true, s)
  | v :: r =>
    let s := s.kioskWrite g a v
    if (s.kiosk k).run.isSome then s.opWriteRegs k g (a + 4) r else (false, s)

/-- Write words through an operand from its word `o` on; false where the write is not made (R134). -/
def State.opWrite (s : State) (k g : Nat) (w : Word) (o : Nat) (vs : List Word) : Bool × State :=
  let a := opAddr w + 4 * o
  match opSpace w with
  | 0 => (true, s.modRun k (fun r => { r with scratch := putScratch r.scratch (a / 4) vs }))
  | 5 => s.opWriteRegs k g a vs
  | _ =>
    let b := (opMem k w).getD 0 + 4 * o
    s.writeMem none (s.bodyAt g b (4 * vs.length)).1 (vs.flatMap wordBytes)

/-- Write results in order, then go on; a narrow write that meets a double-bit error abandons the task with detail 5, and none of
its further results is written (R134, R154, R155). -/
def State.writing (s : State) (k g : Nat) (l : List (Word × Nat × List Word)) (f : State → State) : State :=
  match l with
  | [] => f s
  | e :: rest =>
    match s.opWrite k g e.1 e.2.1 e.2.2 with
    | (true, s) => s.writing k g rest f
    | (false, s) => s.abandon k 5

/-! ### Costs (table 5.5) -/

/-- Micro-steps of an access to `n` words of an operand, from its word `o` on. -/
def accessCost (w : Word) (write : Bool) (o n : Nat) : Nat :=
  let a := opAddr w + 4 * o
  let lines := linesOf a (4 * n)
  match opSpace w with
  | 1 => if write then (lines.map (fun b => if a ≤ b ∧ b + 32 ≤ a + 4 * n then 6 else 10)).sum else 6 * lines.length
  | 2 => (if write then 4 else 2) * lines.length
  | 5 => 6 * lines.length
  | _ => 0

/-- Table 5.4: COST of an operator; BLKCPY's 2n and ACQ's wait come beside it. -/
def opCost (op : Nat) : Nat :=
  nth 0 [0, 4, 6, 6, 6, 8, 24, 20, 4, 6, 6, 6, 28, 36, 8, 6, 6, 10, 22, 10, 10, 26, 34, 44, 10, 12, 12, 40, 30, 60, 20, 54, 48, 40,
    36, 16, 24, 8, 4, 6, 6, 6, 4] op

/-- Words that an operator reads through an operand it writes through: the state it keeps there. -/
def stateWords (op j : Nat) : Nat :=
  if (op = 0x11 ∨ op = 0x13 ∨ op = 0x14) ∧ j = 2 then 1
  else if op = 0x12 ∧ j = 2 then 2
  else if (op = 0x15 ∨ op = 0x16) ∧ j = 3 then 6
  else if op = 0x17 ∧ j = 2 then 3
  else if (op = 0x1D ∨ op = 0x1F ∨ op = 0x20 ∨ op = 0x24) ∧ j = 0 then 1
  else if op = 0x1E ∧ j = 0 then 2
  else if op = 0x22 ∧ j = 1 then 2
  else 0

/-- Micro-steps of an operator's accesses; MINSEL writes words 1 and 2 of its dir record. -/
def accessCosts (op n : Nat) (ws : List Word) : Nat :=
  match opShape op n with
  | none => 0
  | some sh =>
    ((ws.zip sh).zipIdx.map (fun e =>
      let w := e.1.1
      if e.1.2.1 then
        accessCost w false 0 (stateWords op e.2) +
          (if op = 0x17 ∧ e.2 = 2 then accessCost w true 1 2 else accessCost w true 0 e.1.2.2)
      else accessCost w false 0 e.1.2.2)).sum

/-- Kiosk k's task has taken some more micro-steps (R143). -/
def State.addSteps (s : State) (k n : Nat) : State := s.modRun k (fun r => { r with steps := r.steps + n })

/-! ### What every operator does -/

/-- An operand word that an image can hold (R137). -/
def State.operandMay (s : State) (r : Run) (w : Word) (sh : Bool × Nat) : Bool :=
  let srcs := match s.graphD r.graph with | some g => g.sources r.task | none => []
  operandOk (s.constBody r).2.1 srcs w.toNat sh && opAddr w % 4 == 0

/-- The operand words of an operator are ones an image can hold. -/
def State.operandsFit (s : State) (r : Run) (op : Nat) (ws : List Word) : Bool :=
  match opShape op 1 with
  | some sh => ws.length == sh.length && (ws.zip sh).all (fun e => s.operandMay r e.1 e.2)
  | none => false

/-- R138: the task roams and an operand is LOCAL. -/
def State.roamLocal (s : State) (r : Run) (ws : List Word) : Bool :=
  match s.taskD r.graph r.task with
  | some d => !bit d.flags 0 && ws.any (fun w => opSpace w == 2)
  | none => false

/-! ### Fetches of a WINDOW task (R166, R598, R600) -/

/-- 32-byte words of the flash that CONST operands of a WINDOW task touch: operand words with the words each reaches. -/
def State.constWords (s : State) (r : Run) (l : List (Word × Nat)) : List Nat :=
  let b := s.constBody r
  if b.2.2 then l.flatMap (fun e => if opSpace e.1 = 4 then linesOf (b.1 + opAddr e.1) (4 * e.2) else []) else []

/-- 32-byte words of the flash that the next operator of a WINDOW task touches: its entry in the operator list, the operand words that
the entry's OPER names (table 4.6), its constants. -/
def State.fetchWords (s : State) (r : Run) (op : Nat) (ws : List Word) : List Nat :=
  let list := match s.taskD r.graph r.task with
    | some d =>
      if s.inWindow r && decide (r.ops < d.oplLen) then
        let a := (s.constBody r).1
        let e := a + d.oplOff + 8 * r.ops
        linesOf e 8 ++ linesOf (a + (s.windowWord (e + 4)).toNat) (4 * ws.length)
      else []
    | none => []
  list ++ s.constWords r (ws.zip (((opShape op 1).getD []).map (·.2)))

/-- Touch words of the window in order, up to the first whose line is not in the cache. -/
def State.touchWords (s : State) (l : List Nat) : Option Nat × State :=
  match l with
  | [] => (none, s)
  | a :: r => if (s.cached a).isSome then (s.touchLine a).touchWords r else (some a, s)

/-- An operator begins, with its micro-steps (R143) and 6 for each 32-byte word of the window that it touches (R600). -/
def State.opBegin (s : State) (k op : Nat) (ws : List Word) (fetched : Nat) : State :=
  s.modRun k (fun r => { r with steps := r.steps + (opCost op + accessCosts op 1 ws + 6 * fetched), ops := r.ops + 1 })

/-- The task on kiosk k executes an operator: LOCAL in a roaming task (R138), its fetches from the window, where a miss stalls the task
until the line is stored and the operator is executed then (R600), its cost (R143), then what `f` says. A kiosk that runs
no task, waits, or is given operand words that no image holds executes nothing (log entry 2). -/
def State.operator (s : State) (k op : Nat) (ws : List Word) (f : State → Run → State) : State :=
  s.running (fun s =>
    match s.runOf k with
    | none => s
    | some r =>
      if s.operandsFit r op ws then
        if s.roamLocal r ws then s.abandon k 4
        else
          let l := s.fetchWords r op ws
          match s.touchWords l with
          | (some a, s) => s.windowStall k a
          | (none, s) => f (s.opBegin k op ws l.length) r
      else s)

/-- An operator of one-word inputs and one result. -/
def State.arith (s : State) (k op : Nat) (d : Word) (ins : List Word) (f : (Nat → Word) → Word) : State :=
  s.operator k op (d :: ins) (fun s r =>
    s.reading k r (ins.map (fun w => (w, 1))) (fun s vs =>
      s.writing k r.graph [(d, 0, [f (fun i => nth 0 (nth [] vs i) 0)])] id))

/-- R141: the task's NUMERIC flag. -/
def State.setNumeric (s : State) (k : Nat) : State := s.modRun k (fun r => { r with numeric := true })

/-- `n` free words. -/
def State.freshWords (s : State) (n : Nat) : List Word × State :=
  match n with
  | 0 => ([], s)
  | n + 1 =>
    let a := s.freshWord
    let b := a.2.freshWords n
    (fFlush a.1 :: b.1, b.2)

/-- Free words for an operand whose number of words the manual does not give: at least one, at most eight, and no more than the
operand's space holds. -/
def State.openWords (s : State) (w : Word) : List Word × State :=
  let n := s.freshNat
  let p := n.2.freshWords (n.1 % 8 + 1)
  (p.1.take (max 1 (((List.range 9).filter (fun m => operandOk 0 [] w.toNat (true, m))).getLast?.getD 1)), p.2)

end Sys2Proof.Machine
end

