-- ==== Sys2Proof/Machine/Flags.lean ====
section
/-! DEFINITION. The flags that operators compute (spec/05_kiosks_fabric.md, table 5.4, R141, R680): which inputs the guard refuses,
the relation of CMP, the range word of LUT, truth values in binary32, SAT and SECTOR of SVM (R190 to R192). -/

namespace Sys2Proof.Machine

/-- A truth value as CMP and TIMER write it (R680). -/
def fBool (b : Bool) : Word := if b then fOne else fZero

/-- CMP: relation `op` of table 5.4; with a NaN only "not equal" holds; an op outside 0 to 5 never holds. -/
def relation (op : Nat) (a b : Word) : Bool :=
  match op with
  | 0 => fLt a b
  | 1 => fLe a b
  | 2 => fEq a b
  | 3 => !fEq a b
  | 4 => fLe b a
  | 5 => fLt b a
  | _ => false

/-- LUT: the range word for x against the first and the last point: 0 in range, 1 below, 2 above, 3 NaN. -/
def lutRange (x first last : Word) : Word :=
  if fIsNaN x then 3 else if fLt x first then 1 else if fLt last x then 2 else 0

/-- R141: every input may be used. -/
def guardOk (l : List Word) : Bool := l.all fFinite

/-- R141, LIM: a may be infinite, lo and hi may not. -/
def guardLim (a lo hi : Word) : Bool := !fIsNaN a && fFinite lo && fFinite hi

/-- R141, RATE: rmax may be infinite. -/
def guardRate (x st rmax : Word) : Bool := fFinite x && fFinite st && !fIsNaN rmax

/-- PWx.SIX as SVM writes it: SIXSTEP, SAT and SECTOR (R191, R192). -/
def sixWord (sixstep sat : Bool) (sector : Nat) : Word :=
  putField (F.PW_SIX_SECTOR .a) (putField (F.PW_SIX_SAT .a) (putField (F.PW_SIX_SIXSTEP .a) 0 (b2n sixstep)) (b2n sat)) sector

end Sys2Proof.Machine
end

