-- ==== Sys2Proof/Machine/Arithmetic.lean ====
section
/-! DEFINITION. Operators MOV to SEL of table 5.4 (spec/05_kiosks_fabric.md, R139, R140, R680). Each command says which kiosk's task
executes the operator and gives its operand words. -/

namespace Sys2Proof.Machine

/-- MOV: d = a, 32 bits copied unchanged; `flips`: bit flips that have struck memory since the last access (R133, R134). -/
def execMov (k : Nat) (flips : List (Nat × Bool)) (d a : Word) (s : State) : Host.Outcome State Fault Refusal :=
  .next (s.operator k 0x01 [d, a] (fun s r =>
    (s.upsets flips).reading k r [(a, 1)] (fun s vs => s.writing k r.graph [(d, 0, nth [] vs 0)] id)))

/-- ADD: a + b. -/
def execAdd (k : Nat) (d a b : Word) (s : State) : Host.Outcome State Fault Refusal :=
  .next (s.arith k 0x02 d [a, b] (fun v => fAdd (v 0) (v 1)))

/-- SUB: a − b. -/
def execSub (k : Nat) (d a b : Word) (s : State) : Host.Outcome State Fault Refusal :=
  .next (s.arith k 0x03 d [a, b] (fun v => fSub (v 0) (v 1)))

/-- MUL: a × b. -/
def execMul (k : Nat) (d a b : Word) (s : State) : Host.Outcome State Fault Refusal :=
  .next (s.arith k 0x04 d [a, b] (fun v => fMul (v 0) (v 1)))

/-- MAC: a × b + c, one rounding. -/
def execMac (k : Nat) (d a b c : Word) (s : State) : Host.Outcome State Fault Refusal :=
  .next (s.arith k 0x05 d [a, b, c] (fun v => fMac (v 0) (v 1) (v 2)))

/-- DIV: a / b. -/
def execDiv (k : Nat) (d a b : Word) (s : State) : Host.Outcome State Fault Refusal :=
  .next (s.arith k 0x06 d [a, b] (fun v => fDiv (v 0) (v 1)))

/-- SQRT: √a; a < 0 gives +0. -/
def execSqrt (k : Nat) (d a : Word) (s : State) : Host.Outcome State Fault Refusal :=
  .next (s.arith k 0x07 d [a] (fun v => fSqrt (v 0)))

/-- ABS: abs(a). -/
def execAbs (k : Nat) (d a : Word) (s : State) : Host.Outcome State Fault Refusal :=
  .next (s.arith k 0x08 d [a] (fun v => fAbs (v 0)))

/-- MIN2: the smaller of a and b. -/
def execMin2 (k : Nat) (d a b : Word) (s : State) : Host.Outcome State Fault Refusal :=
  .next (s.arith k 0x09 d [a, b] (fun v => fMin (v 0) (v 1)))

/-- MAX2: the larger of a and b. -/
def execMax2 (k : Nat) (d a b : Word) (s : State) : Host.Outcome State Fault Refusal :=
  .next (s.arith k 0x0A d [a, b] (fun v => fMax (v 0) (v 1)))

/-- A clamp to lo to hi; free where hi lies below lo, for which no result is stated. -/
def State.clampOpen (s : State) (lo hi v : Word) : Word × State := if fLt hi lo then (fFlush s.freshWord.1, s.spent) else (fClamp lo hi v, s)

/-- LIM: a clamped to lo to hi; guarded (R141). -/
def execLim (k : Nat) (d a lo hi : Word) (s : State) : Host.Outcome State Fault Refusal :=
  .next (s.operator k 0x0B [d, a, lo, hi] (fun s r =>
    s.reading k r [(a, 1), (lo, 1), (hi, 1)] (fun s vs =>
      let v (i : Nat) : Word := nth 0 (nth [] vs i) 0
      if guardLim (v 0) (v 1) (v 2) then
        let p := s.clampOpen (v 1) (v 2) (v 0)
        p.2.writing k r.graph [(d, 0, [p.1])] id
      else s.setNumeric k)))

/-! ### Angles -/

/-- Bound of the absolute error of SINCOS, 1.5 × 10⁻⁷, and of the angles it holds for, 64π. -/
def sinErr : Frac := (3, 20000000)
@[inherit_doc sinErr] def sinMax : Frac := qMul (64, 1) qPi

/-- A result of SINCOS: free within the error stated for abs(θ) ≤ 64π, free beyond (log entry 1); NaN for an infinite θ. -/
def State.trigOpen (s : State) (f : Frac → Frac) (th : Word) : Word × State :=
  if !fFinite th then (fNaN, s)
  else
    let c := s.freshWord
    let exact := f (fVal th)
    if qLt sinMax (qAbs (fVal th)) then (fFlush c.1, c.2)
    else if fFinite c.1 && c.1 == fFlush c.1 && qLe (qAbs (qSub (fVal c.1) exact)) sinErr then c
    else (fOfFrac exact, c.2)

/-- SINCOS: sin θ and cos θ. -/
def execSincos (k : Nat) (ds dc th : Word) (s : State) : Host.Outcome State Fault Refusal :=
  .next (s.operator k 0x0C [ds, dc, th] (fun s r =>
    s.reading k r [(th, 1)] (fun s vs =>
      let v := nth 0 (nth [] vs 0) 0
      let a := s.trigOpen qSin v
      let b := a.2.trigOpen qCos v
      b.2.writing k r.graph [(ds, 0, [a.1]), (dc, 0, [b.1])] id)))

/-- ATAN2: the angle of (x, y) in [−π, π). -/
def execAtan2 (k : Nat) (d y x : Word) (s : State) : Host.Outcome State Fault Refusal :=
  .next (s.arith k 0x0D d [y, x] (fun v => fAtan2 (v 0) (v 1)))

/-- WRAP: θ reduced to [−π, π). -/
def execWrap (k : Nat) (d th : Word) (s : State) : Host.Outcome State Fault Refusal :=
  .next (s.arith k 0x0E d [th] (fun v => fWrap (v 0)))

/-! ### Comparison and choice -/

/-- CMP: +1.0 where relation `op` holds between a and b, else +0.0. -/
def execCmp (k : Nat) (d a b op : Word) (s : State) : Host.Outcome State Fault Refusal :=
  .next (s.arith k 0x0F d [a, b, op] (fun v => fBool (relation (v 2).toNat (v 0) (v 1))))

/-- SEL: a where the 32-bit word c is nonzero, else b, as the number it is (R139, R140; log entry 45). -/
def execSel (k : Nat) (d c a b : Word) (s : State) : Host.Outcome State Fault Refusal :=
  .next (s.arith k 0x10 d [c, a, b] (fun v => fFlush (if v 0 = 0 then v 2 else v 1)))

end Sys2Proof.Machine
end

