-- ==== Sys2Proof/Machine/Filters.lean ====
section
/-! DEFINITION. Operators LPF1 to MINSEL of table 5.4: filters, the integrator, the compensators (spec/11_compensators.md, R372 to
R379) and the minimum selector (R385 to R387). -/

namespace Sys2Proof.Machine

/-- An operator with input x, state s of some words and further inputs: the guard refuses, or the new state and the result. A refused
release writes the previous output, the state's first word, to d and sets NUMERIC (R141). -/
def State.filter (s : State) (k op : Nat) (d x st par : Word) (nst npar : Nat)
    (f : State → Word → (Nat → Word) → (Nat → Word) → Option (List Word × Word) × State) : State :=
  s.operator k op [d, x, st, par] (fun s r =>
    s.reading k r [(x, 1), (st, nst), (par, npar)] (fun s vs =>
      let v (i j : Nat) : Word := nth 0 (nth [] vs i) j
      let p := f s (v 0 0) (v 1) (v 2)
      match p.1 with
      | some q => p.2.writing k r.graph [(st, 0, q.1), (d, 0, [q.2])] id
      | none => (p.2.setNumeric k).writing k r.graph [(d, 0, [fFlush (v 1 0)])] id))

/-- LPF1: s + k(x − s). -/
def lpf1 (x st k : Word) : Option Word := if guardOk [x, st, k] then some (fAdd st (fMul k (fSub x st))) else none

/-- LPF1: s = s + k(x − s); d = s. -/
def execLpf1 (k : Nat) (d x st c : Word) (s : State) : Host.Outcome State Fault Refusal :=
  .next (s.filter k 0x11 d x st c 1 1 (fun s x st c => ((lpf1 x (st 0) (c 0)).map (fun y => ([y], y)), s)))

/-- BIQUAD: transposed direct form II with coefficients b0, b1, b2, a1, a2, the denominator's with the sign of R372 (log entry 32). -/
def biquad (x s1 s2 b0 b1 b2 a1 a2 : Word) : Option (List Word × Word) :=
  if guardOk [x, s1, s2, b0, b1, b2, a1, a2] then
    let y := fAdd (fMul b0 x) s1
    some ([fAdd (fSub (fMul b1 x) (fMul a1 y)) s2, fSub (fMul b2 x) (fMul a2 y)], y)
  else none

/-- BIQUAD, as `biquad`. Its previous output is not part of its state: a guarded release writes nothing. -/
def execBiquad (k : Nat) (d x st coef : Word) (s : State) : Host.Outcome State Fault Refusal :=
  .next (s.operator k 0x12 [d, x, st, coef] (fun s r =>
    s.reading k r [(x, 1), (st, 2), (coef, 5)] (fun s vs =>
      let v (i j : Nat) : Word := nth 0 (nth [] vs i) j
      match biquad (v 0 0) (v 1 0) (v 1 1) (v 2 0) (v 2 1) (v 2 2) (v 2 3) (v 2 4) with
      | some q => s.writing k r.graph [(st, 0, q.1), (d, 0, [q.2])] id
      | none => s.setNumeric k)))

/-- RATE: from s towards x by at most abs(rmax); an infinite rmax gives x. -/
def rateStep (x st rmax : Word) : Option Word :=
  if guardRate x st rmax then
    let e := fSub x st
    let m := fAbs rmax
    if fLe (fAbs e) m then some (fFlush x) else some (if fSign e then fSub st m else fAdd st m)
  else none

/-- RATE: s holds the previous output; s = d. -/
def execRate (k : Nat) (d x st rmax : Word) (s : State) : Host.Outcome State Fault Refusal :=
  .next (s.filter k 0x13 d x st rmax 1 1 (fun s x st m => ((rateStep x (st 0) (m 0)).map (fun y => ([y], y)), s)))

/-- INTEG: s = clamp(s + k·x), with k, lo and hi from blk; d = s. -/
def execInteg (k : Nat) (d x st blk : Word) (s : State) : Host.Outcome State Fault Refusal :=
  .next (s.filter k 0x14 d x st blk 1 3 (fun s x st b =>
    if guardOk [x, st 0, b 0, b 1, b 2] then
      let p := s.clampOpen (b 1) (b 2) (fAdd (st 0) (fMul (b 0) x))
      (some ([p.1], p.1), p.2)
    else (none, s)))

/-! ### Compensators -/

/-- The axis and COMP_ID of a compensator that a task runs, where its bank operand names one (log entry 17). -/
def State.compNamed (s : State) (g : Nat) (bank : Word) : Option (Axis × Nat) :=
  (s.graphAxis g).bind (fun x => (compOf x bank).map (fun c => (x, c)))

/-- The bank of a release: that of R398, DL's HI taken as R379 says; a bank elsewhere as its words stand. -/
def State.bankUsed (s : State) (g : Nat) (c : Option (Axis × Nat)) (words : List Word) : List Word :=
  match c with
  | some (x, c) =>
    let b := s.bankFor x c g
    if c = 7 then setNth b 9 (fMin (nth fZero b 9) (s.vMax x)) else b
  | none => words

/-- A compensator of an axis is not released: while the bridge is disabled (R375), SP in torque mode (R302, R380), PS outside position mode
(table 11.3), CD and CQ in six-step, DL in FOC (R377, R379). -/
def State.compOut (s : State) (g : Nat) (bank : Word) : Bool :=
  match s.graphAxis g with
  | some x =>
    let is (c : Nat) : Bool := compOf x bank == some c
    let six := s.flag (F.MC_MODE_CTRL x)
    !s.bridgeOn x || (is 2 && s.torqueMode x) || (is 8 && !s.posMode x) || ((is 0 || is 1) && six) || (is 7 && !six)
  | none => false

/-- A release of a compensator (R372 to R379). A frozen CQ or DL leaves the bridge the voltages that the hold applies (R346). -/
def State.compensator (s : State) (k : Nat) (three : Bool) (d inp bank hist trk : Word) : State :=
  s.operator k (if three then 0x16 else 0x15) [d, inp, bank, hist, trk] (fun s r =>
    if (s.periodView r.graph).compOut r.graph bank then s
    else
      s.reading k r [(inp, 1), (bank, 10), (hist, 6), (trk, 2)] (fun s vs =>
        let c := s.compNamed r.graph bank
        let h := nth [] vs 2
        let mode := (nth 0 (nth [] vs 3) 0).toNat
        let x := nth 0 (nth [] vs 0) 0
        let keep (s : State) : State := s.writing k r.graph [(d, 0, [fFlush (nth 0 h 3)])] (fun s =>
          match c with
          | some (y, n) => if (n == 1 || n == 7) && (s.sv y).frozen then s.dqPut y else s
          | none => s)
        match compRun three (s.bankUsed r.graph c (nth [] vs 1)) h mode (nth 0 (nth [] vs 3) 1) x with
        | none => keep (s.setNumeric k)
        | some q =>
          if mode = 3 then keep s
          else s.writing k r.graph [(hist, 0, q.2.2.1), (d, 0, [q.2.1])] (fun s =>
            match c with
            | some (y, n) => s.forPeriod r.graph (fun s => s.compDone y n r.graph x q.1 q.2.1 q.2.2.2 (opMem k trk))
            | none => s)))

/-- C2P2Z: a release of a two-pole two-zero compensator. -/
def execC2p2z (k : Nat) (d inp bank hist trk : Word) (s : State) : Host.Outcome State Fault Refusal :=
  .next (s.compensator k false d inp bank hist trk)

/-- C3P3Z: a release of a three-pole three-zero compensator. -/
def execC3p3z (k : Nat) (d inp bank hist trk : Word) (s : State) : Host.Outcome State Fault Refusal :=
  .next (s.compensator k true d inp bank hist trk)

/-- MINSEL: the smallest demand in the requested direction, its tracking records and its reason (R385 to R387). -/
def execMinsel (k : Nat) (d dem dir trk why : Word) (s : State) : Host.Outcome State Fault Refusal :=
  .next (s.operator k 0x17 [d, dem, dir, trk, why] (fun s r =>
    s.reading k r [(dem, 6), (dir, 3)] (fun s vs =>
      let ds := nth [] vs 0
      let mask := (nth 0 (nth [] vs 1) 0 ||| 9#32).toNat
      match minsel ds mask (nth 0 (nth [] vs 1) 1).toNat (nth 0 (nth [] vs 1) 2) with
      | none => s.setNumeric k
      | some q =>
        let dr := q.1
        let m := q.2.1
        let win := q.2.2.1
        let o := s.freshWord
        let out := match s.graphAxis r.graph with
          | some x => (s.periodView r.graph).selOut x q
          | none => fMul dr m
        o.2.writing k r.graph
          [(d, 0, [out]), (dir, 1, [BitVec.ofNat 32 win, dr]), (trk, 0, minselTrk dr m win (fFlush o.1)), (why, 0, [fOfNat win])]
          (fun s => match s.graphAxis r.graph with
            | some x => s.forPeriod r.graph (fun s => s.selDone x ds mask q (opMem k trk))
            | none => s))))

end Sys2Proof.Machine
end

