-- ==== Sys2Proof/Machine/Vectors.lean ====
section
/-! DEFINITION. Operators CLARKE to DTCOMP of table 5.4 and the modulation of SVM (spec/06_pwm_timebases_time.md, R189 to R192). -/

namespace Sys2Proof.Machine

/-- An operator that turns some words into others. -/
def State.vector (s : State) (k op : Nat) (ws : List Word) (d : Word) (ins : List (Word × Nat)) (f : (Nat → Nat → Word) → List Word) :
    State :=
  s.operator k op ws (fun s r =>
    s.reading k r ins (fun s vs => s.writing k r.graph [(d, 0, f (fun i j => nth 0 (nth [] vs i) j))] id))

/-- CLARKE: α and β of three currents. -/
def execClarke (k : Nat) (d ia ib ic : Word) (s : State) : Host.Outcome State Fault Refusal :=
  .next (s.vector k 0x18 [d, ia, ib, ic] d [(ia, 1), (ib, 1), (ic, 1)] (fun v => clarke (v 0 0) (v 1 0) (v 2 0)))

/-- PARK: d and q. -/
def execPark (k : Nat) (d ab sc : Word) (s : State) : Host.Outcome State Fault Refusal :=
  .next (s.vector k 0x19 [d, ab, sc] d [(ab, 2), (sc, 2)] (fun v => park (v 0 0) (v 0 1) (v 1 0) (v 1 1)))

/-- IPARK: α and β. -/
def execIpark (k : Nat) (d dq sc : Word) (s : State) : Host.Outcome State Fault Refusal :=
  .next (s.vector k 0x1A [d, dq, sc] d [(dq, 2), (sc, 2)] (fun v => ipark (v 0 0) (v 0 1) (v 1 0) (v 1 1)))

/-! ### SVM -/

/-- The compare value of a duty: the nearest sub-tick, ties to even, of the exact product (DESIGN CHOICE, log entry 80). -/
def dutyTicks (duty : Word) (h : Nat) : Word :=
  let q := fVal duty
  BitVec.ofNat 32 (rne (q.1.natAbs * h) q.2)

/-- R190, R191: D_U, D_V, D_W and SIX of modes 0 to 2, each operation in binary32. -/
def svmLinear (va vb vbus : Word) (mode h : Nat) : List Word :=
  if fLe vbus fZero then List.replicate 3 (dutyTicks 0x3F000000#32 h) ++ [sixWord false false 0]
  else
    let two : Word := 0x40000000#32
    let half := fDiv (fNeg va) two
    let t := fMul (fDiv fSqrt3 two) vb
    let v := [va, fAdd half t, fSub half t]
    let top (l : List Word) : Word := fMax (fMax (nth 0 l 0) (nth 0 l 1)) (nth 0 l 2)
    let low (l : List Word) : Word := fMin (fMin (nth 0 l 0) (nth 0 l 1)) (nth 0 l 2)
    let span := fSub (top v) (low v)
    let sat := fLt vbus span
    let v := if sat then v.map (fun x => fDiv (fMul x vbus) span) else v
    let vmax := top v
    let vmin := low v
    let down := fSub (fDiv (fNeg vbus) two) vmin
    let zs :=
      if mode = 1 then down
      else if mode = 2 then (if fLe (fAbs vmin) (fAbs vmax) then fSub (fDiv vbus two) vmax else down)
      else fDiv (fNeg (fAdd vmax vmin)) two
    let duty (x : Word) : Word := fClamp fZero fOne (fAdd 0x3F000000#32 (fDiv (fAdd x zs) vbus))
    v.map (fun x => dutyTicks (duty x) h) ++ [sixWord false sat 0]

/-- R192: the sector of a vector: floor(θ / (π/3)) of its angle in [0, 2π); 0 for a vector of zero magnitude. -/
def svmSector (va vb : Word) : Nat :=
  let th := qAtan2 (fVal vb) (fVal va)
  let th := if th.1 < 0 then qAdd th q2Pi else th
  min 5 (qFloor (qDiv (qMul (3, 1) th) qPi)).toNat

/-- R191, R192: D and SIX of mode 3; with vbus ≤ 0 every duty is 0.5. -/
def svmSix (va vb vbus : Word) (h : Nat) : List Word :=
  let sector := svmSector va vb
  if fLe vbus fZero then List.replicate 3 (dutyTicks 0x3F000000#32 h) ++ [sixWord true false sector]
  else
    let mag := fSqrt (fAdd (fMul va va) (fMul vb vb))
    let r := fDiv (fMul fSqrt3 mag) vbus
    let d := dutyTicks (fMin fOne r) h
    setNth [0, 0, 0] (sixPhases sector).1 d ++ [sixWord true (fLt fOne r) sector]

/-- R189, R190: H of the timebase whose registers d names, for the interval that the task's graph serves: that of its SAMPLE record;
free where d names no timebase. -/
def State.svmH (s : State) (g : Nat) (d : Word) : Nat × State :=
  let x : Option Axis := if opSpace d = 5 ∧ opAddr d / 0x1000 = 0x402 then some .a
    else if opSpace d = 5 ∧ opAddr d / 0x1000 = 0x403 then some .b else none
  match x with
  | none => s.freshNat
  | some x =>
    let rec_ := if s.graphAxis g = some x then (s.instOf g).bind (fun i => i.recs.find? (fun e => e.1 == 0)) else none
    match rec_ with
    | some e => ((nth 0 e.2 4).toNat, s)
    | none => (s.fullScale x (s.servedPeriod x), s)

/-- SVM: a complete compare set, SIX last (R181, R190 to R192); guarded: a refused release writes nothing. -/
def execSvm (k : Nat) (d vab vbus mode : Word) (s : State) : Host.Outcome State Fault Refusal :=
  .next (s.operator k 0x1B [d, vab, vbus, mode] (fun s r =>
    s.reading k r [(vab, 2), (vbus, 1), (mode, 1)] (fun s vs =>
      let v (i j : Nat) : Word := nth 0 (nth [] vs i) j
      if guardOk [v 0 0, v 0 1, v 1 0] then
        let h := s.svmH r.graph d
        let m := (v 2 0).toNat
        let set := if m = 3 then svmSix (v 0 0) (v 0 1) (v 1 0) h.1 else svmLinear (v 0 0) (v 0 1) (v 1 0) m h.1
        h.2.writing k r.graph [(d, 0, set)] id
      else s.setNumeric k)))

/-- DTCOMP: compare values corrected for measured edge times: how, and how many, is not stated (free); the guarded inputs are cmp and i,
the record of edges is no number (table 13.3). -/
def execDtcomp (k : Nat) (d cmp edges i : Word) (s : State) : Host.Outcome State Fault Refusal :=
  .next (s.operator k 0x1C [d, cmp, edges, i] (fun s r =>
    s.reading k r [(cmp, 1), (edges, 1), (i, 1)] (fun s vs =>
      if guardOk (nth [] vs 0 ++ nth [] vs 2) then
        let p := s.openWords d
        p.2.writing k r.graph [(d, 0, p.1)] id
      else s.setNumeric k)))

end Sys2Proof.Machine
end

