-- ==== Sys2Proof/Machine/Estimators.lean ====
section
/-! DEFINITION. Belvedere's operators BEMF to MODEL of table 5.4 (spec/10_sensorless.md, R337, R338, R340, R342 to R345). The
arithmetic of BEMF, HFI and FLUX is not stated: their state is free. -/

namespace Sys2Proof.Machine

/-- Update interval of an axis in seconds, in binary32. -/
def State.tpF (s : State) (x : Axis) : Word := fOfFrac (s.tpQ x (s.fld (F.PW_PERIOD_EFF_TICKS x)))

/-- What the services hand an estimator of an axis: HFI (`est` 2) the injection voltage, its response and the angle correction; FLUX the
output angle, speed and ψ that it is to be seeded with, and nothing where it is not (R337, R346, R365). -/
def State.estGiven (s : State) (x : Axis) (seedBit est : Nat) : List Word :=
  let v := s.sv x
  if est = 2 then [v.injV, v.hfiG, v.hfiO]
  else if bit v.seed seedBit then [v.thetaO, v.omegaO, fOfFrac (qNorm (s.psi x))] else []

/-- An estimator whose arithmetic is open: with inputs the guard accepts its state words become free, each depending on what the services
hand it (log entry 69); its seeding is then done. -/
def State.estimator (s : State) (k op : Nat) (ws : List Word) (st : Word) (ins : List (Word × Nat)) (seedBit est : Nat) : State :=
  s.operator k op ws (fun s r =>
    s.reading k r (ins ++ [(st, 1)]) (fun s vs =>
      if (vs.take ins.length).all guardOk then
        let p := s.openWords st
        let given := match s.graphAxis r.graph with | some x => (s.periodView r.graph).estGiven x seedBit est | none => []
        p.2.writing k r.graph [(st, 0, p.1.map (fun w => fFlush (Config.estWord w given)))] (fun s =>
          let s := s.modRun k (fun r => { r with est := est })
          match s.graphAxis r.graph with
          | some x => s.modSv x (fun v => { v with seed := withBit v.seed seedBit false })
          | none => s)
      else s.setNumeric k))

/-- BEMF: the back-EMF observer. Its tracking loop is the PLL after it, which takes the seed. -/
def execBemf (k : Nat) (st vab iab par : Word) (s : State) : Host.Outcome State Fault Refusal :=
  .next (s.estimator k 0x1D [st, vab, iab, par] st [(vab, 2), (iab, 2), (par, 1)] 31 1)

/-- FLUX: the flux-model estimator. -/
def execFlux (k : Nat) (st vab iab par : Word) (s : State) : Host.Outcome State Fault Refusal :=
  .next (s.estimator k 0x20 [st, vab, iab, par] st [(vab, 2), (iab, 2), (par, 1)] 1 0)

/-- Injection is suspended on the axis of a graph (R335, R340). -/
def State.injSuspended (s : State) (g : Nat) : Bool := match s.graphAxis g with | some x => (s.sv x).susp | none => false

/-- HFI: demodulation and the next injection value; not updated while injection is suspended (R340). -/
def execHfi (k : Nat) (st iab inj par : Word) (s : State) : Host.Outcome State Fault Refusal :=
  .next (match s.runOf k with
    | some r =>
      if s.injSuspended r.graph then
        s.operator k 0x1F [st, iab, inj, par] (fun s _ => s.modRun k (fun r => { r with est := 2 }))
      else s.estimator k 0x1F [st, iab, inj, par] st [(iab, 2), (inj, 1), (par, 1)] 31 2
    | none => s)

/-! ### The tracking loop -/

/-- R338: the new angle and speed. -/
def pllStep (th om err kp ki tp : Word) : Word × Word :=
  let om' := fAdd om (fMul (fMul ki err) tp)
  (fWrap (fAdd th (fMul (fAdd om' (fMul kp err)) tp)), om')

/-- PLL: a tracking loop with state (θ, ω) and gains (kp, ki). An estimator that is to be seeded starts from Belvedere's output (R337);
the loop of a suspended HFI advances at its last speed (R340). Outside an axis graph no tp is stated: the state is free. -/
def execPll (k : Nat) (st err gain : Word) (s : State) : Host.Outcome State Fault Refusal :=
  .next (s.operator k 0x1E [st, err, gain] (fun s r =>
    s.reading k r [(st, 2), (err, 1), (gain, 2)] (fun s vs =>
      let v (i j : Nat) : Word := nth 0 (nth [] vs i) j
      match s.graphAxis r.graph with
      | none =>
        if guardOk (nth [] vs 0 ++ nth [] vs 1 ++ nth [] vs 2) then
          let p := s.freshWords 2
          p.2.writing k r.graph [(st, 0, p.1)] id
        else s.setNumeric k
      | some x =>
        let w := s.sv x
        let b := if r.est = 1 then 0 else 2
        let seeded := r.est != 0 && bit w.seed b
        let th := if seeded then w.thetaO else v 0 0
        let om := if seeded then w.omegaO else v 0 1
        if r.est = 2 ∧ w.susp = true then
          if guardOk [th, om] then
            s.writing k r.graph [(st, 0, [fWrap (fAdd th (fMul om (s.tpF x))), fFlush om])] id
          else s.setNumeric k
        else if guardOk [th, om, v 1 0, v 2 0, v 2 1] then
          let q := pllStep th om (v 1 0) (v 2 0) (v 2 1) (s.tpF x)
          s.writing k r.graph [(st, 0, [q.1, q.2])] (fun s =>
            if seeded then s.modSv x (fun v => { v with seed := withBit v.seed b false }) else s)
        else s.setNumeric k)))

/-! ### The blend and the model -/

/-- BLEND: the weighted estimate of R342 from (θ, ω) of BEMF, FLUX and HFI and their weights, and whether two running estimators
differ by more than `band` (R344). Outside an axis graph nothing names a previous output: the results are free. -/
def execBlend (k : Nat) (d est w band : Word) (s : State) : Host.Outcome State Fault Refusal :=
  .next (s.operator k 0x21 [d, est, w, band] (fun s r =>
    s.reading k r [(est, 6), (w, 3), (band, 1)] (fun s vs =>
      let e := nth [] vs 0
      if guardOk (e ++ nth [] vs 1 ++ nth [] vs 2) then
        match s.graphAxis r.graph with
        | none =>
          let p := s.freshWords 3
          p.2.writing k r.graph [(d, 0, p.1)] id
        | some x =>
          let th := [nth 0 e 0, nth 0 e 2, nth 0 e 4]
          let om := [nth 0 e 1, nth 0 e 3, nth 0 e 5]
          let v := s.sv x
          let out := blendOut th om (nth [] vs 1) v.thetaO v.omegaO (s.tpF x) ((s.periodView r.graph).paramF x 0x0A0E 0x3CA3D70A#32)
          let flag := fLt (nth 0 (nth [] vs 2) 0) (disagreement th (s.fld (F.MC_BLV_STAT_RUNNING x)))
          s.writing k r.graph [(d, 0, [out.1, out.2, fBool flag])] (fun s => s.forPeriod r.graph (fun s => s.blendDone x th out))
      else s.setNumeric k)))

/-- R343: omega_model, tload and resid after a period of tp seconds. -/
def modelStep (p psi ld lq j beta tp : Word) (om tl est id_ iq : Word) : Word × Word × Word :=
  let te := fMul (fMul 0x3FC00000#32 p) (fAdd (fMul psi iq) (fMul (fMul (fSub ld lq) id_) iq))
  let dw := fSub est om
  let om' := fAdd om (fMul tp (fAdd (fDiv (fMul p (fSub te tl)) j) (fMul (fMul 0x40000000#32 beta) dw)))
  let tl' := fSub tl (fMul (fDiv (fMul (fMul (fMul tp beta) beta) j) p) dw)
  (om', tl', dw)

/-- What a run of MODEL in a graph of the axis adds: X_RESID, X_TLOAD, and the supervisor's judgement of the period (R343 to R345). -/
def State.modelDone (s : State) (x : Axis) (q : Word × Word × Word) : State :=
  let s := (s.setW (F.MC_X_RESID x) q.2.2).setW (F.MC_X_TLOAD x) q.2.1
  (s.modSv x (fun v => { v with omegaM := q.1, seed := withBit v.seed 3 false })).supervise x

/-- MODEL: the mechanical model of R343 with state (omega_model, tload) and torque currents (id, iq); writes the predicted speed and
the residual. While the bridge is disabled omega_model follows the estimate and tload is 0. -/
def execModel (k : Nat) (d st tq par : Word) (s : State) : Host.Outcome State Fault Refusal :=
  .next (s.operator k 0x22 [d, st, tq, par] (fun s r =>
    s.reading k r [(st, 2), (tq, 2), (par, 1)] (fun s vs =>
      let v (i j : Nat) : Word := nth 0 (nth [] vs i) j
      if guardOk (nth [] vs 0 ++ nth [] vs 1 ++ nth [] vs 2) then
        match s.graphAxis r.graph with
        | none =>
          let p := s.freshWords 2
          let q := p.2.freshWords 2
          q.2.writing k r.graph [(st, 0, p.1), (d, 0, q.1)] id
        | some x =>
          let w := s.sv x
          let p := s.periodView r.graph
          let i := s.mapI x
          let q := fun (a : Frac) => fOfFrac (qNorm a)
          let om := if bit w.seed 3 then w.omegaM else v 0 0
          let new := if s.bridgeOn x then
              modelStep (q (p.poles x)) (q (p.psi x)) (q (p.ld x i)) (q (p.lq x i)) (q (p.paramQ x 0x0A00 (0, 1)))
                (q (qMul q2Pi (p.paramQ x 0x0A09 (5, 1)))) (s.tpF x) om (v 0 1) w.omegaO (v 1 0) (v 1 1)
            else (w.omegaO, fZero, fZero)
          s.writing k r.graph [(st, 0, [new.1, new.2.1]), (d, 0, [new.1, new.2.2])] (fun s => s.forPeriod r.graph (fun s => s.modelDone x new))
      else s.setNumeric k)))

end Sys2Proof.Machine
end

