-- ==== Sys2Proof/Machine/Tasks.lean ====
section
/-! DEFINITION. Operators LUT to REL of table 5.4: maps, state machines, timers, block copies, events, Pergola triggers and locks
(spec/05_kiosks_fabric.md, R152, R153, R679, R680). -/

namespace Sys2Proof.Machine

/-! ### LUT -/

/-- Points of a MAP record of 20 words: NPTS, taken within 2 to 8, in the top byte of word 0 (table 4.8). -/
def lutPts (rec_ : List Word) : List (Word × Word) :=
  (List.range (clampN 2 8 (bits (nth 0 rec_ 0).toNat 31 24))).map (fun i => (nth 0 rec_ (2 * i + 1), nth 0 rec_ (2 * i + 2)))

/-- The x of the points are finite and rising, as load check 15 has them. -/
def rising (pts : List (Word × Word)) : Bool :=
  pts.all (fun p => fFinite p.1) && (pts.zip pts.tail).all (fun e => fLt e.1.1 e.2.1)

/-- The value at x between two points: linear, rounded once; with an infinite or NaN value, the operations of IEEE 754 (R140). -/
def lutBetween (p q : Word × Word) (x : Word) : Word :=
  if fFinite p.2 && fFinite q.2 then fOfFrac (lutQ [p, q] (fVal x))
  else fAdd p.2 (fMul (fSub q.2 p.2) (fDiv (fSub x p.1) (fSub q.1 p.1)))

/-- The value at x: at a point its value, between two points linear, held flat beyond the ends. -/
def lutF (pts : List (Word × Word)) (x : Word) : Word :=
  match pts with
  | [] => fZero
  | p :: [] => fFlush p.2
  | p :: q :: r => if fLe x p.1 then fFlush p.2 else if fLt x q.1 then lutBetween p q x else lutF (q :: r) x

/-- What LUT delivers: NaN from any NaN input (R140); free where the points are not in the order of a valid record. -/
def State.lutValue (s : State) (pts : List (Word × Word)) (x : Word) : Word × State :=
  if fIsNaN x || pts.any (fun p => fIsNaN p.1 || fIsNaN p.2) then (fNaN, s)
  else if rising pts then (lutF pts x, s)
  else (fFlush s.freshWord.1, s.spent)

/-- LUT: interpolation in a MAP record, and the range word. -/
def execLut (k : Nat) (d x map : Word) (s : State) : Host.Outcome State Fault Refusal :=
  .next (s.operator k 0x23 [d, x, map] (fun s r =>
    s.reading k r [(x, 1), (map, 20)] (fun s vs =>
      let v := nth 0 (nth [] vs 0) 0
      let pts := lutPts (nth [] vs 1)
      let y := s.lutValue pts v
      y.2.writing k r.graph [(d, 0, [y.1, lutRange v (nth (0, 0) pts 0).1 (nth (0, 0) pts (pts.length - 1)).1])] id)))

/-! ### SMSTEP and TIMER -/

/-- SMSTEP: at most one transition of the state s: how the table is laid out is not stated, so the state after it is free; the quiet NaN
where s or in is NaN (R140), of which the table is no number. -/
def execSmstep (k : Nat) (st tab inp : Word) (s : State) : Host.Outcome State Fault Refusal :=
  .next (s.operator k 0x24 [st, tab, inp] (fun s r =>
    s.reading k r [(st, 1), (tab, 1), (inp, 1)] (fun s vs =>
      let v (i : Nat) : Word := nth 0 (nth [] vs i) 0
      let p := s.freshWord
      p.2.writing k r.graph [(st, 0, [if fIsNaN (v 0) || fIsNaN (v 2) then fNaN else fFlush p.1])] id)))

/-- Stamp at which a timer started. -/
def State.timerAt (s : State) (g : Nat) (w : Word) : Option Nat :=
  (s.fab.timers.find? (fun e => e.1 == g && e.2.1 == w.toNat)).map (·.2.2)

/-- A timer starts at a stamp, or stands still. -/
def State.timerPut (s : State) (g : Nat) (w : Word) (t : Option Nat) : State :=
  let rest := s.fab.timers.filter (fun e => !(e.1 == g && e.2.1 == w.toNat))
  s.modFab (fun b => { b with timers := (t.toList.map (fun a => (g, w.toNat, a))) ++ rest })

/-- `dur` seconds have passed in a number of Sundial ticks; a NaN never has (DESIGN CHOICE, log entry 33: R680 gives s +1.0 or +0.0
alone, and no rule says which). -/
def timerDone (dur : Word) (ticks : Nat) : Bool :=
  if fIsNaN dur then false
  else if fIsInf dur then fSign dur
  else qLe (fVal dur) (ticks, 400000000)

/-- TIMER: s is +1.0 once `dur` seconds of Sundial time have passed since run became nonzero, and +0.0 before and while run is zero
(log entry 33). -/
def execTimer (k : Nat) (st dur run : Word) (s : State) : Host.Outcome State Fault Refusal :=
  .next (s.operator k 0x25 [st, dur, run] (fun s r =>
    s.reading k r [(dur, 1), (run, 1)] (fun s vs =>
      let on := nth 0 (nth [] vs 1) 0 != 0
      let from_ := (s.timerAt r.graph st).getD s.now
      let s := s.timerPut r.graph st (if on then some from_ else none)
      s.writing k r.graph [(st, 0, [fBool (on && timerDone (nth 0 (nth [] vs 0) 0) (s.now - from_))])] id)))

/-! ### BLKCPY, EVENT and PGLTRIG -/

/-- R679: n words through the destination and the source of BLKCPY keep within the limits of R137. -/
def State.copyFits (s : State) (r : Run) (d a : Word) (n : Nat) : Bool :=
  inRange 1 64 n && s.operandMay r d (true, n) && s.operandMay r a (false, n)

/-- BLKCPY: n words copied unchanged; detail 6 of "task abandoned" where n is out of range (R679). A line of the window that is missing is
fetched, and the operator is executed when it is there (R600). -/
def execBlkcpy (k : Nat) (flips : List (Nat × Bool)) (d a n : Word) (s : State) : Host.Outcome State Fault Refusal :=
  .next (s.operator k 0x26 [d, a, n] (fun s r =>
    (s.upsets flips).reading k r [(n, 1)] (fun s vs =>
      let m := (nth 0 (nth [] vs 0) 0).toNat
      if s.copyFits r d a m then
        let const := s.constWords r [(a, m)]
        match s.touchWords const with
        | (some p, s) => (s.modRun k (fun q => { q with steps := r.steps, ops := r.ops })).windowStall k p
        | (none, s) =>
          let more := accessCosts 0x26 m [d, a, n] - accessCosts 0x26 1 [d, a, n] +
            6 * (const.length - (s.constWords r [(a, 1)]).length)
          (s.addSteps k (2 * m + more)).reading k r [(a, m)] (fun s vs => s.writing k r.graph [(d, 0, nth [] vs 0)] id)
      else s.abandon k 6)))

/-- EVENT: raises event n, 112 to 127 only (R679). -/
def execEvent (k : Nat) (n : Word) (s : State) : Host.Outcome State Fault Refusal :=
  .next (s.operator k 0x27 [n] (fun s r =>
    s.reading k r [(n, 1)] (fun s vs =>
      let e := (nth 0 (nth [] vs 0) 0).toNat
      if inRange 112 127 e then s.event e else s.abandon k 6)))

/-- PGLTRIG: triggers Pergola channel ch; a channel that does not exist only counts (R607). -/
def execPgltrig (k : Nat) (ch : Word) (s : State) : Host.Outcome State Fault Refusal :=
  .next (s.operator k 0x28 [ch] (fun s r =>
    s.reading k r [(ch, 1)] (fun s vs =>
      let n := (nth 0 (nth [] vs 0) 0).toNat
      if n < 16 then s.pglTrigReg n else s.inc F.PGL_STAT_NOCH)))

/-! ### Locks (R152, R153) -/

/-- R152, R153: a lock of the half that kiosk k may acquire, by its role. -/
def State.lockHalf (s : State) (k l : Nat) : Bool := if s.role k = 3 then inRange 8 15 l else decide (l < 8)

/-- ACQ: acquires a lock in ascending order, or waits while another task holds it; detail 2 outside the half or out of order (R153). -/
def execAcq (k : Nat) (lock : Word) (s : State) : Host.Outcome State Fault Refusal :=
  .next (s.operator k 0x29 [lock] (fun s r =>
    s.reading k r [(lock, 1)] (fun s vs =>
      let l := (nth 0 (nth [] vs 0) 0).toNat
      if s.lockHalf k l && (s.locksOf k).all (fun h => decide (h < l)) then
        match nth none s.fab.locks l with
        | none => s.putLock l (some k)
        | some _ => s.modRun k (fun r => { r with lock := some l })
      else s.abandon k 2)))

/-- REL: releases a lock that the task holds; detail 2 otherwise (R153). -/
def execRel (k : Nat) (lock : Word) (s : State) : Host.Outcome State Fault Refusal :=
  .next (s.operator k 0x2A [lock] (fun s r =>
    s.reading k r [(lock, 1)] (fun s vs =>
      let l := (nth 0 (nth [] vs 0) 0).toNat
      if (s.locksOf k).contains l then s.freeLock l else s.abandon k 2)))

end Sys2Proof.Machine
end

