-- ==== Sys2Proof/Machine/Wicket.lean ====
section
/-! DEFINITION. The Wicket host port (spec/18_host_port.md, R568 to R593): frames, replies, the alive counter, reads and writes of
the address space, and host loss. -/

namespace Sys2Proof.Machine

/-! ### The trailer (R575) -/

/-- The bits of a word, most significant first (R573). -/
def wordBits (w : Word) : List Bool := (List.range 32).map (fun i => bit w.toNat (31 - i))

/-- R575: one bit of the CRC. -/
def crcBit (c : Word) (b : Bool) : Word :=
  if c.msb != b then (c <<< 1) ^^^ 0x04C11DB7#32 else c <<< 1

/-- R575: the trailer over header, payload and tail bits. -/
def crc32 (bs : List Bool) : Word := bs.foldl crcBit 0xFFFFFFFF#32 ^^^ 0xFFFFFFFF#32

/-- The trailer of a frame with a header, payload words and tail bits. -/
def trailer (header : Word) (payload : List Word) (tail : List Bool) : Word :=
  crc32 (wordBits header ++ payload.flatMap wordBits ++ tail)

/-! ### Frames -/

/-- Payload words and tail bits of a frame of length L (R573). -/
def frameW (L : Nat) : Nat := (L - 64) / 32
@[inherit_doc frameW] def frameT (L : Nat) : Nat := (L - 64) % 32

/-- Why a frame is discarded (R576, tables 18.3 and 18.11): 1 TRUNCATED, 2 UNDERLENGTH, 3 OVERLENGTH, 4 CRC_BAD; 0: it is received. -/
def WktFrame.reason (f : WktFrame) (L : Nat) : Nat :=
  if L < f.edges then 3
  else if f.edges < L then (if f.edges % 32 = 0 then 2 else 1)
  else if f.crc = trailer f.header f.payload f.tail then 0 else 4

/-- The bits of a frame of exact length are a header, W words, T tail bits and a trailer. -/
def WktFrame.fits (f : WktFrame) (L : Nat) : Bool :=
  f.edges != L || (f.payload.length == frameW L && f.tail.length == frameT L)

/-- OPCODE, ALIVE and ADDR of a request header (table 18.1). -/
def WktFrame.opcode (f : WktFrame) : Nat := f.header.toNat / 2 ^ 28
@[inherit_doc WktFrame.opcode] def WktFrame.alive (f : WktFrame) : Nat := f.header.toNat / 2 ^ 24 % 16
@[inherit_doc WktFrame.opcode] def WktFrame.addr (f : WktFrame) : Nat := f.header.toNat % 2 ^ 24

/-- A reply header (table 18.4). -/
def replyHeader (op alive flags : Nat) : Word := BitVec.ofNat 32 (op * 2 ^ 28 + alive * 2 ^ 24 + flags)

/-- Add a flag to a reply header. -/
def withFlag (h : Word) (f : Nat) : Word := h ||| BitVec.ofNat 32 (2 ^ f)

/-- Flags of table 18.4 beside those that a register write notes. -/
def rfEvent : Nat := 23
@[inherit_doc rfEvent] def rfRetrans : Nat := 22
@[inherit_doc rfEvent] def rfGap : Nat := 21
@[inherit_doc rfEvent] def rfBadOp : Nat := 15
@[inherit_doc rfEvent] def rfHostLost : Nat := 14
@[inherit_doc rfEvent] def rfReset : Nat := 13
@[inherit_doc rfEvent] def rfDropped : Nat := 12

/-- The flag of a reason (table 18.4). -/
def reasonFlag (r : Nat) : Nat := r - 1

/-- SEEN bit of a reason (table 18.8). -/
def reasonSeen (r : Nat) : Fld := nth F.WKT_STAT_CRC_SEEN [F.WKT_STAT_CRC_SEEN, F.WKT_STAT_TRUNC_SEEN, F.WKT_STAT_UNDER_SEEN, F.WKT_STAT_OVER_SEEN] r

/-- R85: the port answers once the Grotto values are latched. -/
def State.wktAnswers (s : State) : Bool := s.isUp && s.fld F.GH_BOOT_STATUS_STATE != 0

/-! ### The reply that a frame carries (R578, R580, R589) -/

/-- R573, R578: the bits of a reply: header, payload cut or filled to W words, zero tail bits, trailer. -/
def replyBits (L : Nat) (header : Word) (words : List Word) : List Bool :=
  let p := words.take (frameW L) ++ List.replicate (frameW L - words.length) 0
  let t := List.replicate (frameT L) false
  wordBits header ++ p.flatMap wordBits ++ t ++ wordBits (trailer header p t)

/-- The bits that WSDO presents at the `edges` rising edges of a frame: the reply's, and 0 past its last (R569, R576). -/
def State.shiftOut (s : State) (L edges : Nat) (header : Word) (words : List Word) : State :=
  s.modWkt (fun k => { k with sent := (replyBits L header words ++ List.replicate (edges - L) false).take edges })

/-- R580: the busy pattern goes out. -/
def State.sendBusy (s : State) (L edges : Nat) : State :=
  ((s.shiftOut L edges 0x96C396C3#32 (List.replicate (frameW L) 0x96C396C3#32)).inc F.WKT_CNT_BUSY).set F.WKT_STAT_BUSY_SEEN 1

/-- The frame begins: the reply that is ready goes out, with EVENT and, as the first after a reset, RESET; else the busy pattern
(true: that of R580; R73). A length that waited for this reply takes effect from the next frame on. -/
def State.frameBegin (s : State) (L edges : Nat) : Bool × State :=
  match s.wkt.next with
  | none => (false, s.sendBusy L edges)
  | some r =>
    if s.wkt.ready then
      let h := if s.evtFlag then withFlag r.1 rfEvent else r.1
      let h := if s.wkt.fresh then withFlag h rfReset else h
      let s := (s.shiftOut L edges h r.2).modWkt (fun k => { k with next := none, ready := false, fresh := false })
      (false, match s.wkt.len with
        | some (n, true) => (s.set F.WKT_LEN_LEN n).modWkt (fun k => { k with len := none })
        | _ => s)
    else (true, s.sendBusy L edges)

/-- A flag is added to the reply that is still pending (R581). -/
def State.pendFlag (s : State) (f : Nat) : State :=
  s.modWkt (fun k => { k with next := k.next.map (fun r => (withFlag r.1 f, r.2)) })

/-! ### Discarded frames (R576, R577) -/

/-- A frame is discarded: E76, its reason and its edges. -/
def State.reject (s : State) (r edges : Nat) : State :=
  let s := (s.inc F.WKT_CNT_REJECTS).set (reasonSeen r) 1
  ((s.set F.WKT_LAST_BAD_REASON r).set F.WKT_LAST_BAD_EDGES (min 0xFFFF edges)).event 76

/-- R577: the reply to a discarded frame. -/
def State.rejectReply (s : State) (r : Nat) : State :=
  let h := withFlag (replyHeader 0 (s.fld F.WKT_STAT_ALIVE) 0) (reasonFlag r)
  s.modWkt (fun k => { k with next := some (h, []), ready := true })

/-! ### Received frames -/

/-- R592: a received frame ends a host loss (true), with E79. -/
def State.resumed (s : State) : Bool × State :=
  if s.flag F.WKT_STAT_LOST then
    let s := (((s.set F.WKT_STAT_LOST 0).setCause 4 43 false).setCause (scAxis .a) 44 false).setCause (scAxis .b) 44 false
    (true, s.event 79)
  else (false, s)

/-- R590, R593: a frame received in RUNNING arms the timer while HLT.EN is 1. -/
def State.armHost (s : State) (running : Bool) : State :=
  if running && s.isRunning && s.flag F.WKT_HLT_EN then s.set F.WKT_STAT_ARMED 1 else s

/-- R86, R92, R93: reads that are executed outside RUNNING. -/
def State.readOpen (s : State) (a : Nat) : Bool := s.isRunning || a / 0x1000 == 0x400 || a / 0x1000 == 0x40E

/-- R86, R92, R93: writes that are executed outside RUNNING, by boot state: 2 WAIT_HOST, 6 NO_IMAGE, 7 LOCKED. -/
def State.writeOpen (s : State) (a : Nat) : Bool :=
  let st := s.fld F.GH_BOOT_STATUS_STATE
  s.isRunning || (st != 7 && a == A.GH_RST_CTRL) || (st == 2 && (decide (a < 0x180000) || a == A.GH_HOST_LOAD)) ||
    (st == 6 && (a == A.GRT_PROG || a == A.GRT_PROG_DATA || a == A.GH_FLOOR_ADV))

/-- R585, R587: one word read by the host. -/
def State.hostRead (s : State) (a : Nat) : Word × State :=
  if !s.readOpen a then (0, s.note .host rfVoid)
  else if memImplemented a then
    match s.readMem none a 4 with
    | (some bs, s) => (BitVec.ofNat 32 (u32 bs 0), s)
    | (none, s) => (0, s.note .host rfUncorr)
  else if regImplemented a then (s.regRead a, s)
  else (0, s.note .host rfVoid)

/-- R585 to R587: one word written by the host. -/
def State.hostWrite (s : State) (a : Nat) (w : Word) : State :=
  if !s.writeOpen a then s.note .host rfVoid
  else if memImplemented a then
    let r := s.writeMem none a (wordBytes w)
    if r.1 then r.2 else r.2.note .host rfUncorr
  else s.regWrite .host none a w

/-- R585, R586: a burst read of `n` words. -/
def State.readBurst (s : State) (n a : Nat) : List Word × State :=
  match n with
  | 0 => ([], s)
  | n + 1 =>
    let r := if 0xFFFFFC < a then (0, s.note .host rfEnd) else s.hostRead a
    let t := r.2.readBurst n (a + 4)
    (r.1 :: t.1, t.2)

/-- R585, R586: a burst write; a reset that a word brings about ends it. -/
def State.writeBurst (s : State) (ws : List Word) (a : Nat) : State :=
  match ws with
  | [] => s
  | w :: r =>
    let s := if 0xFFFFFC < a then s.note .host rfEnd else s.hostWrite a w
    if s.wktAnswers then s.writeBurst r (a + 4) else s

/-- R573, R584, R585: what an accepted frame does; the payload of its reply. -/
def State.runFrame (s : State) (f : WktFrame) (upsets : List (Nat × Bool)) : List Word × State :=
  let a := f.addr / 4 * 4
  let low (s : State) : State := if f.addr % 4 = 0 then s else s.note .host rfVoid
  match f.opcode with
  | 1 => (low (s.upsets upsets)).readBurst f.payload.length a
  | 2 => ([], (low (s.upsets upsets)).writeBurst f.payload a)
  | _ => ([], (s.note .host rfBadOp).set F.WKT_STAT_BADOP_SEEN 1)

/-- The OPCODE that a reply echoes; 9 is never echoed (R581), and the manual names no other value for it: free. -/
def State.echo (s : State) (op : Nat) : Nat := if op = 9 then Config.freeNat s.free % 9 else op

/-- The reply to a received frame waits until it is ready, and takes the flags noted. -/
def State.answer (s : State) (header : Word) (words : List Word) : State :=
  s.modWkt (fun k => { k with
    next := some (header, words)
    ready := false
    len := k.len.map (fun e => (e.1, true)) })

/-- R582: a frame is executed and becomes the last accepted one; its reply is stored. -/
def State.acceptFrame (s : State) (f : WktFrame) (lost : Bool) (upsets : List (Nat × Bool)) : State :=
  let gap := !s.flag F.WKT_STAT_NONE && f.alive != (s.fld F.WKT_STAT_ALIVE + 1) % 16
  let s := if gap then (((s.note .host rfGap).inc F.WKT_CNT_GAPS).set F.WKT_STAT_GAP_SEEN 1).event 77 else s
  let s := (s.set F.WKT_STAT_ALIVE f.alive).set F.WKT_STAT_NONE 0
  let s := if lost then s.note .host rfHostLost else s
  let r := s.runFrame f upsets
  let s := r.2
  if s.wktAnswers then
    let h := replyHeader (s.echo f.opcode) f.alive s.reply
    let s := s.spent.setReply 0
    (s.answer h r.1).modWkt (fun k => { k with stored := (h, r.1) })
  else s

/-- R578, R582, R583: a received frame that is not shifted during the busy pattern of R580. -/
def State.receive (s : State) (f : WktFrame) (upsets : List (Nat × Bool)) : State :=
  let running := s.isRunning
  let h := s.resumed
  let s := h.2
  let s :=
    if f.opcode = 0 then
      let s := if h.1 then s.note .host rfHostLost else s
      (s.answer (replyHeader 0 f.alive s.reply) []).setReply 0
    else if s.flag F.WKT_STAT_NONE = false ∧ f.alive = s.fld F.WKT_STAT_ALIVE then
      let s := (s.inc F.WKT_CNT_RETRANS).set F.WKT_STAT_RETRANS_SEEN 1
      let r := withFlag s.wkt.stored.1 rfRetrans
      s.answer (if h.1 then withFlag r rfHostLost else r) s.wkt.stored.2
    else s.acceptFrame f h.1 upsets
  s.armHost running

/-- R581: a received frame that is shifted during the busy pattern of R580: it is not executed. -/
def State.dropped (s : State) (f : WktFrame) : State :=
  let h := s.resumed
  let s := if h.1 then h.2.pendFlag rfHostLost else h.2
  let s := if f.opcode = 0 then s else (s.pendFlag rfDropped).set F.WKT_STAT_DROP_SEEN 1
  s.armHost s.isRunning

/-- A frame of WSCK edges under WSEL_N (R570, R572 to R583), for the command whose opcodes are `op`; a frame that is discarded may
stand in any of the four commands. -/
def State.frameIn (s : State) (f : WktFrame) (op : Nat → Bool) (upsets : List (Nat × Bool)) : State :=
  let L := s.fld F.WKT_LEN_LEN
  let r := f.reason L
  if s.wktAnswers && f.edges != 0 && f.fits L && (r != 0 || op f.opcode) then
    let b := s.frameBegin L f.edges
    let s := b.2
    if r = 0 then (if b.1 then s.dropped f else s.receive f upsets)
    else
      let s := s.reject r f.edges
      if b.1 then s.pendFlag (reasonFlag r) else s.rejectReply r
  else s

/-- NOP: a frame with OPCODE 0 (R573, R578). -/
def execNop (f : WktFrame) (s : State) : Host.Outcome State Fault Refusal := .next (s.frameIn f (fun o => o == 0) [])

/-- READ: a frame with OPCODE 1 (R573, R584 to R587); `upsets`: bit flips that have struck memory. -/
def execRead (f : WktFrame) (upsets : List (Nat × Bool)) (s : State) : Host.Outcome State Fault Refusal :=
  .next (s.frameIn f (fun o => o == 1) upsets)

/-- WRITE: a frame with OPCODE 2 (R573, R584 to R587); `upsets`: bit flips that have struck memory. -/
def execWrite (f : WktFrame) (upsets : List (Nat × Bool)) (s : State) : Host.Outcome State Fault Refusal :=
  .next (s.frameIn f (fun o => o == 2) upsets)

/-- RESERVED_OPCODE: a frame with OPCODE 3 to 15 (R573, table 18.2). -/
def execReservedOpcode (f : WktFrame) (s : State) : Host.Outcome State Fault Refusal :=
  .next (s.frameIn f (fun o => decide (3 ≤ o)) [])

/-- REPLY_READY: the reply to a received frame is ready (R579). -/
def execReplyReady (s : State) : Host.Outcome State Fault Refusal :=
  .next (if s.wktAnswers && s.wkt.next.isSome then s.modWkt (fun k => { k with ready := true }) else s)

/-! ### The port's own registers, and host loss -/

/-- WKT_LEN_WRITE: a host write of WKT.LEN (R589); the reply to its frame waits to go out. -/
def execWktLenWrite (w : Word) (s : State) : Host.Outcome State Fault Refusal :=
  .next (s.running (fun s => (s.lenWrite .host w).modWkt (fun k => { k with len := k.len.map (fun e => (e.1, true)) })))

/-- HLT_WRITE: a host write of WKT.HLT (R593). -/
def execHltWrite (w : Word) (s : State) : Host.Outcome State Fault Refusal :=
  .next (s.running (fun s => (s.hltWrite w).armHost true))

/-- WKT_CNT_CLR: a host write of 1 to WKT.CNT_CLR.CNT. -/
def execWktCntClr (s : State) : Host.Outcome State Fault Refusal := .next (s.running (fun s => s.wr A.WKT_CNT 0))

/-- R591: the reaction of an axis to a host loss: 1 STOP, 2 SAFE. -/
def State.hostReact (s : State) (x : Axis) (react : Nat) : State :=
  if react = 1 then s.cmdArrive x { code := cmSTOP, tag := 0xF8, src := 0, slot := none }
  else if react = 2 then s.axisFaultOn x 44 0 0
  else s

/-- HOST_LOST: `ms` without a received frame while the timer is armed (R590, R591). -/
def execHostLost (ms : Nat) (s : State) : Host.Outcome State Fault Refusal :=
  .next (s.running (fun s =>
    if s.flag F.WKT_HLT_EN = true ∧ s.flag F.WKT_STAT_ARMED = true ∧ s.flag F.WKT_STAT_LOST = false ∧
        max 1 (s.fld F.WKT_HLT_TIMEOUT) ≤ ms then
      let ra := s.fld F.WKT_HLT_REACT_A
      let rb := s.fld F.WKT_HLT_REACT_B
      let s := ((s.set F.WKT_STAT_LOST 1).faultOn 43 4 0 (ra + 4 * rb)).event 78
      (s.hostReact .a ra).hostReact .b rb
    else s))

end Sys2Proof.Machine
end

