-- ==== Sys2Proof/Machine/Dispatch.lean ====
section
/-! DEFINITION. The meaning of each command: one arm per constructor of Instr, each one direct call of its meaning. -/

namespace Sys2Proof.Machine

/-- What a command does to everything but the queue. -/
def exec (i : Instr) (s : State) : Host.Outcome State Fault Refusal :=
  match i with
  | .porExit bootsel => Sys2Proof.Machine.execPorExit bootsel s
  | .supplyBrownout ns => Sys2Proof.Machine.execSupplyBrownout ns s
  | .resetPin ns bootsel => Sys2Proof.Machine.execResetPin ns bootsel s
  | .resetPinRelease bootsel => Sys2Proof.Machine.execResetPinRelease bootsel s
  | .soft w bootsel => Sys2Proof.Machine.execSoft w bootsel s
  | .reboot w bootsel => Sys2Proof.Machine.execReboot w bootsel s
  | .tmodeHigh high bootsel => Sys2Proof.Machine.execTmodeHigh high bootsel s
  | .pllLock => Sys2Proof.Machine.execPllLock s
  | .bootSequence reads t1 t2 us => Sys2Proof.Machine.execBootSequence reads t1 t2 us s
  | .hostLoadGo w us => Sys2Proof.Machine.execHostLoadGo w us s
  | .sectUpd w => Sys2Proof.Machine.execSectUpd w s
  | .sectionSwap x => Sys2Proof.Machine.execSectionSwap x s
  | .floorAdv w out => Sys2Proof.Machine.execFloorAdv w out s
  | .ownWrite x w => Sys2Proof.Machine.execOwnWrite x w s
  | .sampleInstant x n at_ bits => Sys2Proof.Machine.execSampleInstant x n at_ bits s
  | .updateInstant x peak => Sys2Proof.Machine.execUpdateInstant x peak s
  | .valleyOrWrap x since => Sys2Proof.Machine.execValleyOrWrap x since s
  | .compareSetArrival x du dv dw six serves => Sys2Proof.Machine.execCompareSetArrival x du dv dw six serves s
  | .edgeCommand x at_ lead => Sys2Proof.Machine.execEdgeCommand x at_ lead s
  | .periodWrite x w => Sys2Proof.Machine.execPeriodWrite x w s
  | .pwmCtrlWrite x w => Sys2Proof.Machine.execPwmCtrlWrite x w s
  | .referenceClockLost => Sys2Proof.Machine.execReferenceClockLost s
  | .ppsPulse rising => Sys2Proof.Machine.execPpsPulse rising s
  | .ppsTimeout => Sys2Proof.Machine.execPpsTimeout s
  | .sunCtrlWrite w => Sys2Proof.Machine.execSunCtrlWrite w s
  | .setGo => Sys2Proof.Machine.execSetGo s
  | .snap => Sys2Proof.Machine.execSnap s
  | .sunCntClr => Sys2Proof.Machine.execSunCntClr s
  | .armAction n w => Sys2Proof.Machine.execArmAction n w s
  | .cancelAction n w => Sys2Proof.Machine.execCancelAction n w s
  | .actionFired n => Sys2Proof.Machine.execActionFired n s
  | .graphTrigger => Sys2Proof.Machine.execGraphTrigger s
  | .sourceDelivery owner n => Sys2Proof.Machine.execSourceDelivery owner n s
  | .taskDispatch k => Sys2Proof.Machine.execTaskDispatch k s
  | .stealAttempt k lost => Sys2Proof.Machine.execStealAttempt k lost s
  | .taskComplete k => Sys2Proof.Machine.execTaskComplete k s
  | .taskOverrun k waited => Sys2Proof.Machine.execTaskOverrun k waited s
  | .lockWaitTimeout k us => Sys2Proof.Machine.execLockWaitTimeout k us s
  | .mov k flips d a => Sys2Proof.Machine.execMov k flips d a s
  | .add k d a b => Sys2Proof.Machine.execAdd k d a b s
  | .sub k d a b => Sys2Proof.Machine.execSub k d a b s
  | .mul k d a b => Sys2Proof.Machine.execMul k d a b s
  | .mac k d a b c => Sys2Proof.Machine.execMac k d a b c s
  | .div k d a b => Sys2Proof.Machine.execDiv k d a b s
  | .sqrt k d a => Sys2Proof.Machine.execSqrt k d a s
  | .abs k d a => Sys2Proof.Machine.execAbs k d a s
  | .min2 k d a b => Sys2Proof.Machine.execMin2 k d a b s
  | .max2 k d a b => Sys2Proof.Machine.execMax2 k d a b s
  | .lim k d a lo hi => Sys2Proof.Machine.execLim k d a lo hi s
  | .sincos k ds dc th => Sys2Proof.Machine.execSincos k ds dc th s
  | .atan2 k d y x => Sys2Proof.Machine.execAtan2 k d y x s
  | .wrap k d th => Sys2Proof.Machine.execWrap k d th s
  | .cmp k d a b op => Sys2Proof.Machine.execCmp k d a b op s
  | .sel k d c a b => Sys2Proof.Machine.execSel k d c a b s
  | .lpf1 k d x st c => Sys2Proof.Machine.execLpf1 k d x st c s
  | .biquad k d x st coef => Sys2Proof.Machine.execBiquad k d x st coef s
  | .rate k d x st rmax => Sys2Proof.Machine.execRate k d x st rmax s
  | .integ k d x st blk => Sys2Proof.Machine.execInteg k d x st blk s
  | .c2p2z k d inp bank hist trk => Sys2Proof.Machine.execC2p2z k d inp bank hist trk s
  | .c3p3z k d inp bank hist trk => Sys2Proof.Machine.execC3p3z k d inp bank hist trk s
  | .minsel k d dem dir trk why => Sys2Proof.Machine.execMinsel k d dem dir trk why s
  | .clarke k d ia ib ic => Sys2Proof.Machine.execClarke k d ia ib ic s
  | .park k d ab sc => Sys2Proof.Machine.execPark k d ab sc s
  | .ipark k d dq sc => Sys2Proof.Machine.execIpark k d dq sc s
  | .svm k d vab vbus mode => Sys2Proof.Machine.execSvm k d vab vbus mode s
  | .dtcomp k d cmp edges ix => Sys2Proof.Machine.execDtcomp k d cmp edges ix s
  | .bemf k st vab iab par => Sys2Proof.Machine.execBemf k st vab iab par s
  | .pll k st err gain => Sys2Proof.Machine.execPll k st err gain s
  | .hfi k st iab inj par => Sys2Proof.Machine.execHfi k st iab inj par s
  | .flux k st vab iab par => Sys2Proof.Machine.execFlux k st vab iab par s
  | .blend k d est w band => Sys2Proof.Machine.execBlend k d est w band s
  | .model k d st tq par => Sys2Proof.Machine.execModel k d st tq par s
  | .lut k d x map => Sys2Proof.Machine.execLut k d x map s
  | .smstep k st tab inp => Sys2Proof.Machine.execSmstep k st tab inp s
  | .timer k st dur run => Sys2Proof.Machine.execTimer k st dur run s
  | .blkcpy k flips d a n => Sys2Proof.Machine.execBlkcpy k flips d a n s
  | .event k n => Sys2Proof.Machine.execEvent k n s
  | .pgltrig k ch => Sys2Proof.Machine.execPgltrig k ch s
  | .acq k lock => Sys2Proof.Machine.execAcq k lock s
  | .rel k lock => Sys2Proof.Machine.execRel k lock s
  | .paceGate counts => Sys2Proof.Machine.execPaceGate counts s
  | .hbCntClr w => Sys2Proof.Machine.execHbCntClr w s
  | .sarConversionEnd m uv vref => Sys2Proof.Machine.execSarConversionEnd m uv vref s
  | .backgroundConversion m what uv vref ahead => Sys2Proof.Machine.execBackgroundConversion m what uv vref ahead s
  | .sinc2Result ix bits => Sys2Proof.Machine.execSinc2Result ix bits s
  | .sinc3Settled ix captured => Sys2Proof.Machine.execSinc3Settled ix captured s
  | .sigmaDeltaInputStuck ix clocks => Sys2Proof.Machine.execSigmaDeltaInputStuck ix clocks s
  | .sdclkWrite w => Sys2Proof.Machine.execSdclkWrite w s
  | .snsCntClr w => Sys2Proof.Machine.execSnsCntClr w s
  | .comparatorTrip n hi uv vref => Sys2Proof.Machine.execComparatorTrip n hi uv vref s
  | .comparatorClear n hi uv vref => Sys2Proof.Machine.execComparatorClear n hi uv vref s
  | .hahCntClr w => Sys2Proof.Machine.execHahCntClr w s
  | .hallCodeAccept h lines ns => Sys2Proof.Machine.execHallCodeAccept h lines ns s
  | .encoderStep e a b samples => Sys2Proof.Machine.execEncoderStep e a b samples s
  | .encoderZ e z samples => Sys2Proof.Machine.execEncoderZ e z samples s
  | .arm x tag => Sys2Proof.Machine.execArm x tag s
  | .start x tag => Sys2Proof.Machine.execStart x tag s
  | .stop x tag => Sys2Proof.Machine.execStop x tag s
  | .coast x tag => Sys2Proof.Machine.execCoast x tag s
  | .clear x tag => Sys2Proof.Machine.execClear x tag s
  | .axisEvaluate x => Sys2Proof.Machine.execAxisEvaluate x s
  | .armTimeout x us => Sys2Proof.Machine.execArmTimeout x us s
  | .bootstrapsReady x => Sys2Proof.Machine.execBootstrapsReady x s
  | .limitTimeExpiry x reason us => Sys2Proof.Machine.execLimitTimeExpiry x reason us s
  | .stopComplete x us => Sys2Proof.Machine.execStopComplete x us s
  | .stopTimeout x us => Sys2Proof.Machine.execStopTimeout x us s
  | .holdTimeElapsed x us => Sys2Proof.Machine.execHoldTimeElapsed x us s
  | .reversalRestart x us => Sys2Proof.Machine.execReversalRestart x us s
  | .positionLossTimeout x us => Sys2Proof.Machine.execPositionLossTimeout x us s
  | .runtimeSecond x ns => Sys2Proof.Machine.execRuntimeSecond x ns s
  | .modeWrite x w => Sys2Proof.Machine.execModeWrite x w s
  | .setPointWrite x torque w => Sys2Proof.Machine.execSetPointWrite x torque w s
  | .mcCntClr x w => Sys2Proof.Machine.execMcCntClr x w s
  | .alignComplete x us => Sys2Proof.Machine.execAlignComplete x us s
  | .injectionAlignComplete x cycles sal th => Sys2Proof.Machine.execInjectionAlignComplete x cycles sal th s
  | .polarityPulseEnd x id_ t us => Sys2Proof.Machine.execPolarityPulseEnd x id_ t us s
  | .handover x us => Sys2Proof.Machine.execHandover x us s
  | .startTimeout x us => Sys2Proof.Machine.execStartTimeout x us s
  | .suspectTimeout x us => Sys2Proof.Machine.execSuspectTimeout x us s
  | .rotorReacquired x => Sys2Proof.Machine.execRotorReacquired x s
  | .rotorLost x us => Sys2Proof.Machine.execRotorLost x us s
  | .extrapClearTimeout x us => Sys2Proof.Machine.execExtrapClearTimeout x us s
  | .stall x us => Sys2Proof.Machine.execStall x us s
  | .flyingRestartProbe x ia ib => Sys2Proof.Machine.execFlyingRestartProbe x ia ib s
  | .flyRetry x us => Sys2Proof.Machine.execFlyRetry x us s
  | .identificationTestEnd x outcome m pts temp => Sys2Proof.Machine.execIdentificationTestEnd x outcome m pts temp s
  | .blvCtrlWrite x w => Sys2Proof.Machine.execBlvCtrlWrite x w s
  | .swapRequest x w => Sys2Proof.Machine.execSwapRequest x w s
  | .compensatorSwap x => Sys2Proof.Machine.execCompensatorSwap x s
  | .loopEnableWrite x cur w => Sys2Proof.Machine.execLoopEnableWrite x cur w s
  | .home x => Sys2Proof.Machine.execHome x s
  | .posSetWrite x frac w => Sys2Proof.Machine.execPosSetWrite x frac w s
  | .spLoopRelease x => Sys2Proof.Machine.execSpLoopRelease x s
  | .folStart x => Sys2Proof.Machine.execFolStart x s
  | .injectionBegin x => Sys2Proof.Machine.execInjectionBegin x s
  | .injectionEnded x why => Sys2Proof.Machine.execInjectionEnded x why s
  | .folCancel x => Sys2Proof.Machine.execFolCancel x s
  | .captureArm x => Sys2Proof.Machine.execCaptureArm x s
  | .captureTrigger x => Sys2Proof.Machine.execCaptureTrigger x s
  | .captureFrame x => Sys2Proof.Machine.execCaptureFrame x s
  | .captureBlockDescriptor x => Sys2Proof.Machine.execCaptureBlockDescriptor x s
  | .captureCancel x => Sys2Proof.Machine.execCaptureCancel x s
  | .captureComplete x => Sys2Proof.Machine.execCaptureComplete x s
  | .linkFrame x good => Sys2Proof.Machine.execLinkFrame x good s
  | .idleFrame x ns => Sys2Proof.Machine.execIdleFrame x ns s
  | .dieLinkLost x ns => Sys2Proof.Machine.execDieLinkLost x ns s
  | .transitionMeasured x p rising tb te tOff tOn => Sys2Proof.Machine.execTransitionMeasured x p rising tb te tOff tOn s
  | .edgesDelivery x => Sys2Proof.Machine.execEdgesDelivery x s
  | .strengthWrite x p w => Sys2Proof.Machine.execStrengthWrite x p w s
  | .strLimWrite x w => Sys2Proof.Machine.execStrLimWrite x w s
  | .interlock x leg => Sys2Proof.Machine.execInterlock x leg s
  | .gateOffNotSensed x ch ns => Sys2Proof.Machine.execGateOffNotSensed x ch ns s
  | .bootstrapUndervoltage x p dv => Sys2Proof.Machine.execBootstrapUndervoltage x p dv s
  | .bootstrapLockoutRelease x p dv => Sys2Proof.Machine.execBootstrapLockoutRelease x p dv s
  | .prechargePulse x us => Sys2Proof.Machine.execPrechargePulse x us s
  | .extWrite x w => Sys2Proof.Machine.execExtWrite x w s
  | .cmdPinAccept x ch level ns => Sys2Proof.Machine.execCmdPinAccept x ch level ns s
  | .trxCntClr x w => Sys2Proof.Machine.execTrxCntClr x w s
  | .driverSupplyUndervoltage x dv => Sys2Proof.Machine.execDriverSupplyUndervoltage x dv s
  | .driverSupplyRelease x dv => Sys2Proof.Machine.execDriverSupplyRelease x dv s
  | .torqueOff x ns => Sys2Proof.Machine.execTorqueOff x ns s
  | .torqueOffRelease x => Sys2Proof.Machine.execTorqueOffRelease x s
  | .desaturation x m mv held since => Sys2Proof.Machine.execDesaturation x m mv held since s
  | .turnOnShort x ch node ns => Sys2Proof.Machine.execTurnOnShort x ch node ns s
  | .safeStateApply x => Sys2Proof.Machine.execSafeStateApply x s
  | .softOffTimeout x ns => Sys2Proof.Machine.execSoftOffTimeout x ns s
  | .ascExit x mv ms => Sys2Proof.Machine.execAscExit x mv ms s
  | .retryDecision x ms sinceFirst => Sys2Proof.Machine.execRetryDecision x ms sinceFirst s
  | .brakeOvercurrent x asserted => Sys2Proof.Machine.execBrakeOvercurrent x asserted s
  | .brakeChopperShorted x us => Sys2Proof.Machine.execBrakeChopperShorted x us s
  | .brakeChopperOpen x ms minDuty vStart vEnd meanI meanDuty meanV => Sys2Proof.Machine.execBrakeChopperOpen x ms minDuty vStart vEnd meanI meanDuty meanV s
  | .busOvervoltageSignal x asserted => Sys2Proof.Machine.execBusOvervoltageSignal x asserted s
  | .protClr x w => Sys2Proof.Machine.execProtClr x w s
  | .statusClear k w => Sys2Proof.Machine.execStatusClear k w s
  | .evtPendClear k w => Sys2Proof.Machine.execEvtPendClear k w s
  | .logClr w => Sys2Proof.Machine.execLogClr w s
  | .routeWrite n w => Sys2Proof.Machine.execRouteWrite n w s
  | .temperatureSample diode => Sys2Proof.Machine.execTemperatureSample diode s
  | .throttleEnforced => Sys2Proof.Machine.execThrottleEnforced s
  | .enfNow => Sys2Proof.Machine.execEnfNow s
  | .riseRateUpdate => Sys2Proof.Machine.execRiseRateUpdate s
  | .driverEstimateWindow x => Sys2Proof.Machine.execDriverEstimateWindow x s
  | .thermalShutdown => Sys2Proof.Machine.execThermalShutdown s
  | .thermalRestart bootsel => Sys2Proof.Machine.execThermalRestart bootsel s
  | .grottoReverify reads => Sys2Proof.Machine.execGrottoReverify reads s
  | .blow out => Sys2Proof.Machine.execBlow out s
  | .commit out => Sys2Proof.Machine.execCommit out s
  | .flush out => Sys2Proof.Machine.execFlush out s
  | .sealKey out => Sys2Proof.Machine.execSealKey out s
  | .readRaw reads => Sys2Proof.Machine.execReadRaw reads s
  | .badOp => Sys2Proof.Machine.execBadOp s
  | .nop f => Sys2Proof.Machine.execNop f s
  | .read f upsets => Sys2Proof.Machine.execRead f upsets s
  | .write f upsets => Sys2Proof.Machine.execWrite f upsets s
  | .reservedOpcode f => Sys2Proof.Machine.execReservedOpcode f s
  | .registerWrite a w => Sys2Proof.Machine.execRegisterWrite a w s
  | .replyReady => Sys2Proof.Machine.execReplyReady s
  | .wktLenWrite w => Sys2Proof.Machine.execWktLenWrite w s
  | .hltWrite w => Sys2Proof.Machine.execHltWrite w s
  | .wktCntClr => Sys2Proof.Machine.execWktCntClr s
  | .hostLost ms => Sys2Proof.Machine.execHostLost ms s
  | .flashTransactionEnd timeout bytes => Sys2Proof.Machine.execFlashTransactionEnd timeout bytes s
  | .windowMiss k addr hits => Sys2Proof.Machine.execWindowMiss k addr hits s
  | .windowLineFill => Sys2Proof.Machine.execWindowLineFill s
  | .apertureRead n => Sys2Proof.Machine.execApertureRead n s
  | .release => Sys2Proof.Machine.execRelease s
  | .portRetake id => Sys2Proof.Machine.execPortRetake id s
  | .inv => Sys2Proof.Machine.execInv s
  | .iceCntClr => Sys2Proof.Machine.execIceCntClr s
  | .trig n => Sys2Proof.Machine.execTrig n s
  | .descriptorFetch n => Sys2Proof.Machine.execDescriptorFetch n s
  | .creditWindow => Sys2Proof.Machine.execCreditWindow s
  | .burstGrant n upsets => Sys2Proof.Machine.execBurstGrant n upsets s
  | .burstDone n => Sys2Proof.Machine.execBurstDone n s
  | .descriptorComplete n => Sys2Proof.Machine.execDescriptorComplete n s
  | .ringRdWrite w => Sys2Proof.Machine.execRingRdWrite w s
  | .abort n => Sys2Proof.Machine.execAbort n s
  | .busError kind ch addr => Sys2Proof.Machine.execBusError kind ch addr s
  | .pglReset w => Sys2Proof.Machine.execPglReset w s
  | .chnCfgWrite n w => Sys2Proof.Machine.execChnCfgWrite n w s
  | .sarCheck v1 g1 v2 g2 => Sys2Proof.Machine.execSarCheck v1 g1 v2 g2 s
  | .scrub upsets => Sys2Proof.Machine.execScrub upsets s
  | .dsPath x ds mon => Sys2Proof.Machine.execDsPath x ds mon s
  | .sdLoop x pat land => Sys2Proof.Machine.execSdLoop x pat land s
  | .ofsCal agnd1 vref1 agnd2 vref2 sumsA sumsB => Sys2Proof.Machine.execOfsCal agnd1 vref1 agnd2 vref2 sumsA sumsB s
  | .ofsAxis x sums => Sys2Proof.Machine.execOfsAxis x sums s
  | .trim x srcN srcD snkN snkD => Sys2Proof.Machine.execTrim x srcN srcD snkN snkD s
  | .queuedTestStart k => Sys2Proof.Machine.execQueuedTestStart k s
  | .testDone k => Sys2Proof.Machine.execTestDone k s
  | .stcCancel w => Sys2Proof.Machine.execStcCancel w s
  | .backgroundTestRepeat k ms v1 g1 v2 g2 upsets => Sys2Proof.Machine.execBackgroundTestRepeat k ms v1 g1 v2 g2 upsets s
  | .trimWrite x w => Sys2Proof.Machine.execTrimWrite x w s
  | .calWrite n w => Sys2Proof.Machine.execCalWrite n w s
  | .gateSensedOff x ch => Sys2Proof.Machine.execGateSensedOff x ch s

end Sys2Proof.Machine
end

