-- ==== Sys2Proof/Safety.lean ====
section
/-! DEFINITION. What counts as a well-kept state, and what a command may touch, in the terms the statements use. -/

namespace Sys2Proof.Machine

/-- The three stores are in canonical form: registers, shadow copies, memory. -/
def State.Wf (s : State) : Bool := cwf regPor s.regs && cwf regPor s.shadow && Memory.wf s

/-- The pending bit of event e is 1 (R516). -/
def State.pend (s : State) (e : Nat) : Bool := s.getBit (F.LDG_EVT_PEND (e / 32)) (e % 32)

/-- The status bit of a fault code in a scope is 1 (R511). -/
def State.stat (s : State) (sc code : Nat) : Bool := s.getBit (stFld sc code) (code % 32)

/-- R510, R512, R513: the fault log has taken a record of a code, with its class, its SCOPE as table 15.1 encodes it, its UNIT and its
DETAIL, in one step: at the entry of COUNT, or where the log is full over the oldest of the last 16 entries, which counts in LOST. -/
def State.logged (s : State) (code cls scope unit detail : Nat) (t : State) : Prop :=
  let c := s.fld F.LDG_LOG_STAT_COUNT
  let seq := s.fld F.LDG_LOG_STAT_SEQ
  let i := if c < 64 then c else 48 + seq % 16
  let w (n : Nat) : Nat := (t.rd (A.LDG_LOG (4 * i + n))).toNat
  w 0 = s.now % 2 ^ 32 ∧ w 1 = s.now / 2 ^ 32 ∧ bits (w 2) 7 0 = code ∧ bits (w 2) 9 8 = cls ∧ bits (w 2) 12 10 = scope ∧
  bits (w 2) 23 16 = unit ∧ bits (w 2) 31 24 = seq ∧ w 3 = detail ∧ t.fld F.LDG_LOG_STAT_SEQ = (seq + 1) % 256 ∧
  (c < 64 → t.fld F.LDG_LOG_STAT_COUNT = c + 1 ∧ t.fld F.LDG_LOG_STAT_LOST = s.fld F.LDG_LOG_STAT_LOST) ∧
  (c = 64 → t.fld F.LDG_LOG_STAT_COUNT = 64 ∧ t.fld F.LDG_LOG_STAT_LOST = min 0xFFFF (s.fld F.LDG_LOG_STAT_LOST + 1) ∧ t.pend 110 = true)

/-! ### Register families -/

/-- The family of a register among (family, first offset, distance, number) entries; 264 where no register lies there. -/
def famIn (l : List (Nat × Nat × Nat × Nat)) (o : Nat) : Nat :=
  match l with
  | [] => 264
  | e :: r => if e.2.1 ≤ o ∧ o < e.2.1 + e.2.2.1 * e.2.2.2 ∧ (o - e.2.1) % e.2.2.1 = 0 then e.1 else famIn r o

/-- Families of the registers of page 0x400. -/
def fams400 : List (Nat × Nat × Nat × Nat) := [
  (0, 0x000, 0x4, 1), (1, 0x004, 0x4, 1), (2, 0x008, 0x4, 1), (3, 0x00c, 0x4, 1), (4, 0x010, 0x4, 1), (5, 0x014, 0x4, 1),
   (6, 0x018, 0x4, 1), (7, 0x01c, 0x4, 1), (8, 0x020, 0x4, 1), (9, 0x024, 0x4, 1), (10, 0x028, 0x4, 1)]

/-- Families of the registers of page 0x401. -/
def fams401 : List (Nat × Nat × Nat × Nat) := [
  (11, 0x000, 0x4, 1), (12, 0x004, 0x4, 4), (13, 0x014, 0x4, 1), (14, 0x018, 0x4, 1), (15, 0x01c, 0x4, 1),
   (16, 0x020, 0x4, 2), (17, 0x028, 0x4, 1), (18, 0x02c, 0x4, 1), (19, 0x030, 0x4, 1), (20, 0x034, 0x4, 1),
   (21, 0x038, 0x4, 1), (22, 0x03c, 0x4, 1), (23, 0x040, 0x4, 1)]

/-- Families of the registers of page 0x402. -/
def fams402 : List (Nat × Nat × Nat × Nat) := [
  (24, 0x000, 0x4, 1), (25, 0x004, 0x4, 1), (26, 0x008, 0x4, 1), (27, 0x00c, 0x4, 3), (28, 0x018, 0x4, 1),
   (29, 0x01c, 0x4, 1), (30, 0x020, 0x4, 1), (31, 0x024, 0x4, 1), (32, 0x028, 0x4, 4), (33, 0x038, 0x4, 1),
   (34, 0x03c, 0x4, 1), (35, 0x040, 0x4, 1), (36, 0x044, 0x4, 1)]

/-- Families of the registers of page 0x404. -/
def fams404 : List (Nat × Nat × Nat × Nat) := [
  (37, 0x000, 0x4, 1), (38, 0x004, 0x4, 1), (39, 0x008, 0x4, 1), (40, 0x00c, 0x4, 1), (41, 0x010, 0x4, 1),
   (42, 0x014, 0x4, 1), (43, 0x018, 0x4, 1), (44, 0x01c, 0x4, 1), (45, 0x020, 0x4, 1), (46, 0x024, 0x4, 1),
   (47, 0x028, 0x4, 1), (48, 0x02c, 0x4, 1), (49, 0x040, 0x10, 8), (50, 0x044, 0x10, 8), (51, 0x048, 0x10, 8)]

/-- Families of the registers of page 0x405. -/
def fams405 : List (Nat × Nat × Nat × Nat) := [
  (52, 0x000, 0x4, 1), (53, 0x004, 0x4, 8), (54, 0x024, 0x4, 8), (55, 0x044, 0x4, 1), (56, 0x048, 0x4, 16),
   (57, 0x088, 0x4, 2), (58, 0x090, 0x4, 1), (59, 0x094, 0x4, 1), (60, 0x098, 0x4, 2), (61, 0x0a0, 0x4, 10),
   (62, 0x0c8, 0x4, 6), (63, 0x0e0, 0x4, 1)]

/-- Families of the registers of page 0x406. -/
def fams406 : List (Nat × Nat × Nat × Nat) := [
  (64, 0x000, 0x4, 12), (65, 0x030, 0x4, 12), (66, 0x060, 0x4, 2), (67, 0x068, 0x4, 1), (68, 0x06c, 0x4, 1),
   (69, 0x070, 0x4, 1), (70, 0x074, 0x4, 1), (71, 0x078, 0x4, 1), (72, 0x080, 0x4, 2), (73, 0x088, 0x4, 2),
   (74, 0x090, 0x4, 2), (75, 0x098, 0x4, 2), (76, 0x0a0, 0x4, 2), (77, 0x0a8, 0x4, 1)]

/-- Families of the registers of page 0x407. -/
def fams407 : List (Nat × Nat × Nat × Nat) := [
  (78, 0x000, 0x4, 1), (79, 0x004, 0x4, 1), (80, 0x008, 0x4, 1), (81, 0x00c, 0x4, 1), (82, 0x010, 0x4, 1),
   (83, 0x014, 0x4, 1), (84, 0x018, 0x4, 1), (85, 0x01c, 0x4, 1), (86, 0x020, 0x4, 1), (87, 0x024, 0x4, 1),
   (88, 0x028, 0x4, 1), (89, 0x02c, 0x4, 1), (90, 0x030, 0x4, 1), (91, 0x034, 0x4, 1), (92, 0x038, 0x4, 1),
   (93, 0x03c, 0x4, 1), (94, 0x040, 0x4, 1), (95, 0x044, 0x4, 1), (96, 0x048, 0x4, 1), (97, 0x04c, 0x4, 1),
   (98, 0x050, 0x4, 1), (99, 0x054, 0x4, 1), (100, 0x100, 0x4, 1), (101, 0x104, 0x4, 1), (102, 0x108, 0x4, 1),
   (103, 0x10c, 0x4, 1), (104, 0x110, 0x4, 1), (105, 0x114, 0x4, 1), (106, 0x118, 0x4, 1), (107, 0x11c, 0x4, 1),
   (108, 0x120, 0x4, 1), (109, 0x124, 0x4, 1), (110, 0x128, 0x4, 1), (111, 0x12c, 0x4, 1), (112, 0x130, 0x4, 1),
   (113, 0x134, 0x4, 1), (114, 0x138, 0x4, 1), (115, 0x13c, 0x4, 1), (116, 0x140, 0x4, 1), (117, 0x144, 0x4, 1),
   (118, 0x148, 0x4, 1), (119, 0x14c, 0x4, 1), (120, 0x150, 0x4, 1), (121, 0x154, 0x4, 1), (122, 0x158, 0x4, 1),
   (123, 0x15c, 0x4, 1), (124, 0x200, 0x4, 10), (124, 0x240, 0x4, 10), (124, 0x280, 0x4, 10), (124, 0x2c0, 0x4, 10),
   (124, 0x300, 0x4, 10), (124, 0x340, 0x4, 10), (124, 0x380, 0x4, 10), (124, 0x3c0, 0x4, 10), (124, 0x400, 0x4, 10),
   (125, 0x228, 0x40, 9), (126, 0x22c, 0x40, 9), (127, 0x440, 0x4, 1), (128, 0x444, 0x4, 1), (129, 0x448, 0x4, 1),
   (130, 0x44c, 0x4, 1), (131, 0x450, 0x4, 1), (132, 0x454, 0x4, 1), (133, 0x458, 0x4, 1), (134, 0x45c, 0x4, 1),
   (135, 0x460, 0x4, 1), (136, 0x464, 0x4, 1), (137, 0x468, 0x4, 1), (138, 0x46c, 0x4, 1), (139, 0x470, 0x4, 1),
   (140, 0x474, 0x4, 1), (141, 0x478, 0x4, 1), (142, 0x47c, 0x4, 1), (143, 0x480, 0x4, 1), (144, 0x484, 0x4, 1),
   (145, 0x500, 0x4, 1), (146, 0x504, 0x4, 1), (147, 0x508, 0x4, 1), (148, 0x50c, 0x4, 1), (149, 0x510, 0x4, 1),
   (150, 0x514, 0x4, 1), (151, 0x518, 0x4, 1), (152, 0x51c, 0x4, 1), (153, 0x520, 0x4, 1), (154, 0x524, 0x4, 1),
   (155, 0x528, 0x4, 1), (156, 0x52c, 0x4, 1), (157, 0x530, 0x4, 1), (158, 0x534, 0x4, 1), (159, 0x580, 0x4, 1),
   (160, 0x584, 0x4, 1), (161, 0x588, 0x4, 1), (162, 0x58c, 0x4, 1), (163, 0x590, 0x4, 1), (164, 0x594, 0x4, 1),
   (165, 0x598, 0x4, 1), (166, 0x59c, 0x4, 1), (167, 0x5a0, 0x4, 1), (168, 0x5c0, 0x4, 1), (169, 0x5c4, 0x4, 1),
   (170, 0x5c8, 0x4, 1), (171, 0x5cc, 0x4, 1), (172, 0x5d0, 0x4, 1), (173, 0x5d4, 0x4, 1), (174, 0x5d8, 0x4, 1),
   (175, 0x5dc, 0x4, 1), (176, 0x5e0, 0x4, 1)]

/-- Families of the registers of page 0x40a. -/
def fams40A : List (Nat × Nat × Nat × Nat) := [
  (177, 0x000, 0x4, 1), (178, 0x004, 0x4, 1), (179, 0x008, 0x4, 3), (180, 0x014, 0x4, 3), (181, 0x020, 0x4, 1),
   (182, 0x024, 0x4, 1), (183, 0x028, 0x4, 5), (184, 0x03c, 0x4, 1), (185, 0x040, 0x4, 1), (186, 0x044, 0x4, 1),
   (187, 0x048, 0x4, 1), (188, 0x04c, 0x4, 1), (189, 0x050, 0x4, 3), (190, 0x05c, 0x4, 1), (191, 0x100, 0x4, 1),
   (192, 0x104, 0x4, 1), (193, 0x108, 0x4, 1), (194, 0x10c, 0x4, 1), (195, 0x110, 0x4, 1), (196, 0x114, 0x4, 1),
   (197, 0x118, 0x4, 1), (198, 0x11c, 0x4, 1)]

/-- Families of the registers of page 0x40c. -/
def fams40C : List (Nat × Nat × Nat × Nat) := [
  (199, 0x000, 0x4, 1), (200, 0x004, 0x4, 1), (201, 0x008, 0x4, 1), (202, 0x00c, 0x4, 1), (203, 0x010, 0x4, 6),
   (204, 0x030, 0x4, 6), (205, 0x050, 0x4, 1), (206, 0x054, 0x4, 1), (207, 0x060, 0x4, 4), (208, 0x070, 0x4, 1),
   (209, 0x200, 0x4, 128), (210, 0x400, 0x4, 256)]

/-- Families of the registers of page 0x40d. -/
def fams40D : List (Nat × Nat × Nat × Nat) := [
  (211, 0x000, 0x4, 1), (212, 0x004, 0x4, 1), (213, 0x008, 0x4, 1), (214, 0x00c, 0x4, 1), (215, 0x010, 0x4, 1),
   (216, 0x014, 0x4, 1), (217, 0x018, 0x4, 1), (218, 0x01c, 0x4, 1), (219, 0x020, 0x4, 1), (220, 0x028, 0x4, 1)]

/-- Families of the registers of page 0x40e. -/
def fams40E : List (Nat × Nat × Nat × Nat) := [
  (221, 0x000, 0x4, 1), (222, 0x004, 0x4, 1), (223, 0x008, 0x4, 1), (224, 0x00c, 0x4, 1), (225, 0x010, 0x4, 1),
   (226, 0x014, 0x4, 1), (227, 0x018, 0x4, 1), (228, 0x020, 0x4, 4), (229, 0x100, 0x4, 128)]

/-- Families of the registers of page 0x40f. -/
def fams40F : List (Nat × Nat × Nat × Nat) := [
  (230, 0x000, 0x4, 1), (231, 0x004, 0x4, 1), (232, 0x008, 0x4, 1), (233, 0x00c, 0x4, 1), (234, 0x010, 0x4, 1),
   (235, 0x014, 0x4, 1)]

/-- Families of the registers of page 0x410. -/
def fams410 : List (Nat × Nat × Nat × Nat) := [
  (236, 0x000, 0x4, 1), (237, 0x004, 0x4, 1), (238, 0x008, 0x4, 1), (239, 0x00c, 0x4, 1), (240, 0x010, 0x4, 1),
   (241, 0x014, 0x4, 1), (242, 0x018, 0x4, 1)]

/-- Families of the registers of page 0x411. -/
def fams411 : List (Nat × Nat × Nat × Nat) := [
  (243, 0x000, 0x4, 1), (244, 0x004, 0x4, 1), (245, 0x008, 0x4, 1), (246, 0x00c, 0x4, 1), (247, 0x010, 0x4, 1),
   (248, 0x014, 0x4, 1), (249, 0x018, 0x4, 1), (250, 0x01c, 0x4, 1), (251, 0x100, 0x20, 16), (252, 0x104, 0x20, 16),
   (253, 0x108, 0x20, 16), (254, 0x10c, 0x20, 16), (255, 0x110, 0x20, 16), (256, 0x114, 0x20, 16), (257, 0x118, 0x20, 16)]

/-- Families of the registers of page 0x412. -/
def fams412 : List (Nat × Nat × Nat × Nat) := [
  (258, 0x000, 0x4, 1), (259, 0x004, 0x4, 1), (260, 0x008, 0x4, 1), (261, 0x00c, 0x4, 2), (262, 0x014, 0x4, 1),
   (263, 0x040, 0x4, 11)]

/-- The family of the register at an address: its number among the names of Machine/Fields.lean. The register of the two axes, and
the registers that differ only in their index, are one family. -/
def fam (a : Nat) : Nat :=
  match a / 0x1000 with
  | 0x400 => famIn fams400 (a % 0x1000)
  | 0x401 => famIn fams401 (a % 0x1000)
  | 0x402 | 0x403 => famIn fams402 (a % 0x1000)
  | 0x404 => famIn fams404 (a % 0x1000)
  | 0x405 => famIn fams405 (a % 0x1000)
  | 0x406 => famIn fams406 (a % 0x1000)
  | 0x407 | 0x408 => famIn fams407 (a % 0x1000)
  | 0x40A | 0x40B => famIn fams40A (a % 0x1000)
  | 0x40c => famIn fams40C (a % 0x1000)
  | 0x40d => famIn fams40D (a % 0x1000)
  | 0x40e => famIn fams40E (a % 0x1000)
  | 0x40f => famIn fams40F (a % 0x1000)
  | 0x410 => famIn fams410 (a % 0x1000)
  | 0x411 => famIn fams411 (a % 0x1000)
  | 0x412 => famIn fams412 (a % 0x1000)
  | _ => 264

/-! ### What a command may touch -/

/-- A part of the state beside the registers: one field of State. -/
inductive Part where
  | pending
  | die
  | pins
  | shadow
  | mem
  | ecc1
  | ecc2
  | found
  | img
  | fab
  | sources
  | held
  | axA
  | axB
  | svA
  | svB
  | trA
  | trB
  | tbA
  | tbB
  | sns
  | hah
  | org
  | sun
  | pgl
  | otp
  | ice
  | wkt
  | stc
  | reply
  | free
deriving DecidableEq, Repr

/-- The part is the same in two states. -/
def Part.same (p : Part) (s t : State) : Prop :=
  match p with
  | .pending => t.pending = s.pending
  | .die => t.die = s.die
  | .pins => t.pins = s.pins
  | .shadow => t.shadow = s.shadow
  | .mem => t.mem = s.mem
  | .ecc1 => t.ecc1 = s.ecc1
  | .ecc2 => t.ecc2 = s.ecc2
  | .found => t.found = s.found
  | .img => t.img = s.img
  | .fab => t.fab = s.fab
  | .sources => t.sources = s.sources
  | .held => t.held = s.held
  | .axA => t.axA = s.axA
  | .axB => t.axB = s.axB
  | .svA => t.svA = s.svA
  | .svB => t.svB = s.svB
  | .trA => t.trA = s.trA
  | .trB => t.trB = s.trB
  | .tbA => t.tbA = s.tbA
  | .tbB => t.tbB = s.tbB
  | .sns => t.sns = s.sns
  | .hah => t.hah = s.hah
  | .org => t.org = s.org
  | .sun => t.sun = s.sun
  | .pgl => t.pgl = s.pgl
  | .otp => t.otp = s.otp
  | .ice => t.ice = s.ice
  | .wkt => t.wkt = s.wkt
  | .stc => t.stc = s.stc
  | .reply => t.reply = s.reply
  | .free => t.free = s.free

/-- The register at an address is of the family of one of the listed addresses. -/
def named (l : List Nat) (a : Nat) : Bool := (l.map fam).contains (fam a)

/-- The registers that an event's routes reach (R516, R426). -/
def eventRegs : List Nat :=
  [A.HB_PACE_STAT, A.HB_LATE, A.MC_CAP_STAT .a, A.LDG_EVT_PEND 0, A.PGL_STAT, A.PGL_CH_STAT 0, A.PGL_CH_CUR 0, A.PGL_CH_CNT 0]

/-- The registers that a fault reaches (R502 to R514, R553, R641). -/
def faultRegs : List Nat :=
  eventRegs ++ [A.LDG_REPEAT, A.LDG_ST 0, A.LDG_CAUSE 0, A.LDG_LOG_STAT, A.LDG_LOG 0, A.GRT_PEND, A.STC_SCRUB_STAT,
  A.STC_TSTAT 0]

/-- The registers that a safe state reaches (R473 to R483, R375). -/
def safeRegs : List Nat :=
  eventRegs ++ [A.TR_STAT .a, A.TR_SAFE_STAT .a, A.TR_DS_STAT .a, A.TR_CSC_STAT .a, A.LDG_CAUSE 0, A.MC_C_X_OUT .a 0,
  A.MC_SEL_STAT .a]

/-- The registers that a transition of the axis state machine reaches (R285 to R287, R296). -/
def gotoRegs : List Nat :=
  safeRegs ++ [A.MC_STATE .a, A.MC_STARTS .a, A.MC_BLV_STAT .a, A.MC_BANK .a 0 0, A.MC_SPD_REF .a,
  A.MC_X_OMEGA_REF .a, A.MC_X_ACC_REF .a, A.TR_EDGE .a 0, A.TR_STR .a 0, A.LDG_LOCKOUT]

/-- The parts that an event's routes reach. -/
def eventParts : List Part :=
  [.fab, .svA, .svB, .pgl]

/-- The parts that a fault reaches. -/
def faultParts : List Part :=
  eventParts ++ [.held, .axA, .axB, .stc]

/-- The parts that a safe state reaches. -/
def safeParts : List Part :=
  eventParts ++ [.axA, .axB, .trA, .trB, .mem]

/-- The parts that a transition of the axis state machine reaches. -/
def gotoParts : List Part :=
  safeParts ++ [.shadow]

/-- Only the registers at the listed addresses may differ. -/
def State.onlyRegs (l : List Nat) (s t : State) : Prop := t = { s with regs := t.regs } ∧ ∀ a, a ∉ l → t.rd a = s.rd a

/-! ### Resets (table 3.3) -/

/-- The word that a warm reset makes of a register word (table 0.5): its kept fields stand, the others are at their reset value. -/
def warmWord (a : Nat) (w : Word) : Word := (regPor a &&& ~~~(keptMask a)) ||| (w &&& keptMask a)

/-- R72, table 3.3: what a warm reset leaves: every register at its reset value but for kept fields, shared SRAM as it was, kiosk
local memories zero, the Sundial and the temperature samples running on, energies and the part of a second kept, no image, no fault
held, and every channel off but the low sides in a thermal-shutdown low ASC that the die holds (R71), which stay on where they may be on,
and which SAFE_STAT shows (R95). GH.RST_CAUSE and GH.BOOT_STATUS, which the reset writes, have statements of their own. -/
def State.warmOf (s t : State) : Prop :=
  (∀ a, a ∉ [A.GH_RST_CAUSE, A.GH_BOOT_STATUS, A.TR_SAFE_STAT .a, A.TR_SAFE_STAT .b] → t.rd a = warmWord a (s.rd a)) ∧
  (∀ a, t.byte a = if a < 0x200000 then s.byte a else 0) ∧
  t.sun = s.sun ∧ t.org.samples = s.org.samples ∧ t.img = Img.none ∧ t.held = [] ∧
  ∀ x, (t.ax x).eMot = (s.ax x).eMot ∧ (t.ax x).eRegen = (s.ax x).eRegen ∧ (t.ax x).secs = (s.ax x).secs ∧
    (t.tr x).cmd = (if (s.tr x).holdsAsc then safeMask 1 else 0) ∧
    (∀ c, c < 7 → bit (t.tr x).gates c = true → (s.tr x).holdsAsc = true ∧ bit (safeMask 1) c = true) ∧
    (∀ c, c < 6 → (s.tr x).holdsAsc = true → bit (s.tr x).gates c = true → t.mayBeOn x c = true → bit (t.tr x).gates c = true) ∧
    ((s.tr x).holdsAsc = true → t.fld (F.TR_SAFE_STAT_STATE x) = 1 ∧ t.fld (F.TR_SAFE_STAT_THERMAL x) = 1)

/-- The die has left reset with BOOTSEL latched, and the boot begins at its first step (R74, R75), RESET_N and TMODE permitting. -/
def State.bootsWith (t : State) (bootsel : Nat) : Prop :=
  t.pins.tmode = false → t.pins.resetN = true →
    t.isUp = true ∧ t.fld F.GH_BOOT_STATUS_BOOTSEL = bootsel % 4 ∧ t.fld F.GH_BOOT_STATUS_STATE = 0

/-- A keyed write of GH.RST_CTRL that R70 does not refuse. -/
def State.rstTaken (s : State) (w : Word) : Bool :=
  s.rstOpen && fieldOf F.GH_RST_CTRL_KEY w == 0xC35A && (!s.anyBridge || fieldOf F.GH_RST_CTRL_FORCE w == 1)

/-- R96: GH.RST_CAUSE after a warm reset of a cause: its bit is 1, every other is as it was, and the count of warm resets is one more,
saturating at 255. -/
def State.causeAdded (s t : State) (cause : Fld) : Prop :=
  (∀ f, f ∈ [F.GH_RST_CAUSE_POR, F.GH_RST_CAUSE_PIN, F.GH_RST_CAUSE_SOFT, F.GH_RST_CAUSE_THERMAL, F.GH_RST_CAUSE_REBOOT] →
    t.fld f = if f = cause then 1 else s.fld f) ∧
  t.fld F.GH_RST_CAUSE_WARM_COUNT = min 255 (s.fld F.GH_RST_CAUSE_WARM_COUNT + 1)

/-- R90: the state that the die enters when no image is accepted. -/
def State.noImageState (s : State) : Nat :=
  if !s.keyOk && s.reqEnc then 7
  else if s.fld F.GH_BOOT_STATUS_BOOTSEL = 1 ∨ s.fld F.GH_BOOT_STATUS_BOOTSEL = 2 then 2 else 6

/-- RUNNING with the image applied, from flash or from the host, `us` after leaving reset (tables 3.7, 3.11, 3.12). -/
def State.runsImage (t : State) (host : Bool) (us : Nat) : Prop :=
  t.isRunning = true ∧ t.fld F.GH_BOOT_STATUS_RESULT = 1 ∧ t.fld F.GH_BOOT_STATUS_SRC = b2n host ∧
  t.fld F.GH_IMG_VER_VERSION = t.img.version ∧ t.fld F.GH_BOOT_TIME_US = min us 0xFFFFFF

/-- A load has failed with a RESULT, and the state of R90 follows (R82, R83). -/
def State.loadFailed (t : State) (result : Nat) : Prop :=
  t.fld F.GH_BOOT_STATUS_RESULT = result ∧ t.fld F.GH_BOOT_STATUS_STATE = t.noImageState

/-! ### The Grotto -/

/-- A request of OP `op` from GRT.PROG stands at the front, not begun, where the Grotto accepts it (R561). -/
def State.grtWaits (s : State) (op : Nat) (r : GrtReq) : Prop := s.grtOp op = some r ∧ r.op = op ∧ r.src = 0

/-- R566: an operation of GRT.PROG has ended with a RESULT of table 17.8: it has left the queue, and E101 is pending. -/
def State.grtEnded (s t : State) (result : Nat) : Prop :=
  t.otp.queue = s.otp.queue.tail ∧ t.fld F.GRT_PROG_STAT_RESULT = result ∧ t.pend 101 = true

/-- Pulses of the Grotto that run to their end and leave their copy reading 1 at the tight threshold (R562 to R564). -/
def pulsesHold (out : List Pulse) : Prop := ∀ p, p ∈ out → p.refused = false ∧ p.aborted = false ∧ p.reads1 = true

/-- No cell has been blown: every copy of every word reads at both thresholds as before. -/
def State.cellsSame (s t : State) : Prop := ∀ c b a, t.cell c b a = s.cell c b a


/-! ### Tasks -/

/-- Kiosk k runs no task and holds no lock. -/
def State.kioskFreed (t : State) (k : Nat) : Prop := (t.kiosk k).run = none ∧ ∀ l, l < 16 → nth none t.fab.locks l ≠ some k

/-- R155, tables 5.6 and 5.20: the task that ran on kiosk k has been abandoned with a detail, and "task abandoned" is raised for its
role. -/
def State.abandoned (s t : State) (k : Nat) (r : Run) (detail : Nat) : Prop :=
  t.kioskFreed k ∧ t.fld F.HB_ABANDON_COUNT = min 255 (s.fld F.HB_ABANDON_COUNT + 1) ∧ t.fld F.HB_ABANDON_DETAIL = detail ∧
  t.fld F.HB_ABANDON_KIOSK = k % 32 ∧ t.fld F.HB_ABANDON_GRAPH = s.gid r.graph % 65536 ∧
  t.stat (match s.graphOwner r.graph with | 0 => 1 | 1 => 2 | _ => 3) 17 = true

/-- Kiosk k has started a queued task: zero scratch and the dispatch cost (R136, R143). -/
def State.started (t : State) (k : Nat) (q : QTask) : Prop :=
  (t.kiosk k).run = some { graph := q.graph, task := q.task, scratch := List.replicate 16 0, numeric := false, steps := 4,
                           stalled := none, lock := none, ops := 0, est := 0, rel := q.rel }

/-! ### Operators -/

/-- The kiosk, the opcode and the operand words of an operator command (table 5.4). -/
def Instr.opr (c : Instr) : Option (Nat × Nat × List Word) :=
  match c with
  | .mov k _ d a => some (k, 0x01, [d, a])
  | .add k d a b => some (k, 0x02, [d, a, b])
  | .sub k d a b => some (k, 0x03, [d, a, b])
  | .mul k d a b => some (k, 0x04, [d, a, b])
  | .mac k d a b c => some (k, 0x05, [d, a, b, c])
  | .div k d a b => some (k, 0x06, [d, a, b])
  | .sqrt k d a => some (k, 0x07, [d, a])
  | .abs k d a => some (k, 0x08, [d, a])
  | .min2 k d a b => some (k, 0x09, [d, a, b])
  | .max2 k d a b => some (k, 0x0A, [d, a, b])
  | .lim k d a lo hi => some (k, 0x0B, [d, a, lo, hi])
  | .sincos k ds dc th => some (k, 0x0C, [ds, dc, th])
  | .atan2 k d y x => some (k, 0x0D, [d, y, x])
  | .wrap k d th => some (k, 0x0E, [d, th])
  | .cmp k d a b op => some (k, 0x0F, [d, a, b, op])
  | .sel k d c a b => some (k, 0x10, [d, c, a, b])
  | .lpf1 k d x st c => some (k, 0x11, [d, x, st, c])
  | .biquad k d x st coef => some (k, 0x12, [d, x, st, coef])
  | .rate k d x st m => some (k, 0x13, [d, x, st, m])
  | .integ k d x st b => some (k, 0x14, [d, x, st, b])
  | .c2p2z k d x b h t => some (k, 0x15, [d, x, b, h, t])
  | .c3p3z k d x b h t => some (k, 0x16, [d, x, b, h, t])
  | .minsel k d dem dir t why => some (k, 0x17, [d, dem, dir, t, why])
  | .clarke k d ia ib ic => some (k, 0x18, [d, ia, ib, ic])
  | .park k d ab sc => some (k, 0x19, [d, ab, sc])
  | .ipark k d dq sc => some (k, 0x1A, [d, dq, sc])
  | .svm k d v b m => some (k, 0x1B, [d, v, b, m])
  | .dtcomp k d cmp e i => some (k, 0x1C, [d, cmp, e, i])
  | .bemf k st v i p => some (k, 0x1D, [st, v, i, p])
  | .pll k st e g => some (k, 0x1E, [st, e, g])
  | .hfi k st i j p => some (k, 0x1F, [st, i, j, p])
  | .flux k st v i p => some (k, 0x20, [st, v, i, p])
  | .blend k d e w b => some (k, 0x21, [d, e, w, b])
  | .model k d st tq p => some (k, 0x22, [d, st, tq, p])
  | .lut k d x m => some (k, 0x23, [d, x, m])
  | .smstep k st tab i => some (k, 0x24, [st, tab, i])
  | .timer k st dur run => some (k, 0x25, [st, dur, run])
  | .blkcpy k _ d a n => some (k, 0x26, [d, a, n])
  | .event k n => some (k, 0x27, [n])
  | .pgltrig k ch => some (k, 0x28, [ch])
  | .acq k l => some (k, 0x29, [l])
  | .rel k l => some (k, 0x2A, [l])
  | _ => none

/-- The task r on kiosk k executes operator `op` with operand words that an image can hold, and its inputs deliver `vs`: `u` is the
state then, with the operator's cost counted (R143); what the operator touches of a window is in the cache (R600). -/
def State.opReads (s u : State) (k : Nat) (r : Run) (op : Nat) (ws : List Word) (ins : List (Word × Nat)) (vs : List (List Word)) :
    Prop :=
  s.isRunning = true ∧ s.runOf k = some r ∧ s.operandsFit r op ws = true ∧ s.roamLocal r ws = false ∧
  (s.touchWords (s.fetchWords r op ws)).1 = none ∧
  ((s.touchWords (s.fetchWords r op ws)).2.opBegin k op ws (s.fetchWords r op ws).length).readAll k r ins = (some vs, u)

/-- Results written in order through their operands, each from a word on; none where one is not written (R134). -/
def State.outs (s : State) (k g : Nat) (l : List (Word × Nat × List Word)) : Option State :=
  match l with
  | [] => some s
  | e :: rest =>
    match s.opWrite k g e.1 e.2.1 e.2.2 with
    | (true, t) => t.outs k g rest
    | (false, _) => none

/-- The scratch area after results have been written to SCRATCH operands. -/
def scratchAfter (sc : List Word) (l : List (Word × Nat × List Word)) : List Word :=
  l.foldl (fun sc e => putScratch sc (opAddr e.1 / 4 + e.2.1) e.2.2) sc

/-- `t` is `u` with the results written; where one is not written the task is over (R134, R155); where all are SCRATCH nothing but the
scratch words differs. -/
def State.puts (u : State) (k g : Nat) (l : List (Word × Nat × List Word)) (t : State) : Prop :=
  (∀ m, u.outs k g l = some m → t = m) ∧ (u.outs k g l = none → (t.kiosk k).run = none) ∧
  ((∀ e, e ∈ l → opSpace e.1 = 0) → t = u.modRun k (fun q => { q with scratch := scratchAfter q.scratch l }))

/-- As `puts`, for an operator that also keeps records of its axis: the task's scratch and flags are as the results leave them. -/
def State.putsRun (u : State) (k g : Nat) (l : List (Word × Nat × List Word)) (t : State) : Prop :=
  (∀ m, u.outs k g l = some m → (t.kiosk k).run = (m.kiosk k).run) ∧ (u.outs k g l = none → (t.kiosk k).run = none)

/-- The command gives its results `f` of the words read through its inputs. -/
def State.gives (s : State) (c : Instr) (ins : List (Word × Nat)) (f : (Nat → Nat → Word) → List (Word × Nat × List Word)) : Prop :=
  ∀ k op ws r u vs, Instr.opr c = some (k, op, ws) → s.opReads u k r op ws ins vs →
    ∃ t, exec c s = .next t ∧ u.puts k r.graph (f (fun i j => nth 0 (nth [] vs i) j)) t

/-- The command, a one-result operator of one-word inputs, gives `f` of them. -/
def State.gives1 (s : State) (c : Instr) (d : Word) (ins : List Word) (f : (Nat → Word) → Word) : Prop :=
  s.gives c (ins.map (fun w => (w, 1))) (fun v => [(d, 0, [f (fun i => v i 0)])])

/-- The command, a guarded operator, refuses inputs that satisfy `bad`: the NUMERIC flag is set and `l` alone is written (R141). -/
def State.guards (s : State) (c : Instr) (ins : List (Word × Nat)) (bad : (Nat → Nat → Word) → Bool)
    (l : (Nat → Nat → Word) → List (Word × Nat × List Word)) : Prop :=
  ∀ k op ws r u vs, Instr.opr c = some (k, op, ws) → s.opReads u k r op ws ins vs →
    bad (fun i j => nth 0 (nth [] vs i) j) = true →
    ∃ t, exec c s = .next t ∧ (u.setNumeric k).puts k r.graph (l (fun i j => nth 0 (nth [] vs i) j)) t

/-! ### Belvedere -/

/-- R354, R356, R361, R300: the angle `th` has been found in ALIGN: the axis goes to START, with a sensor to RUN. -/
def State.angleFound (s : State) (x : Axis) (th : Word) (t : State) : Prop :=
  t.word (F.MC_X_THETA x) = th ∧ (t.sv x).thetaO = th ∧ (t.sv x).omegaO = fZero ∧
  t.axState x = if (s.hallSet x).isNone && (s.encSet x).isNone then 3 else 4

/-- R360: "start failed" has been raised with a detail: code 28, the detail and the count. -/
def State.startFailNoted (s : State) (x : Axis) (detail : Nat) (t : State) : Prop :=
  t.stat (scAxis x) 28 = true ∧ t.fld (F.MC_START_DIAG_DETAIL x) = detail ∧
  t.fld (F.MC_BLV_EVT_START_FAIL x) = 1 ∧
  t.fld (F.MC_BLV_CNT_START_FAIL x) = min (F.MC_BLV_CNT_START_FAIL x).top (s.fld (F.MC_BLV_CNT_START_FAIL x) + 1)

/-- R360: the start has failed with a detail, and the axis is in SAFE. -/
def State.startFailed (s : State) (x : Axis) (detail : Nat) (t : State) : Prop := t.axState x = 7 ∧ s.startFailNoted x detail t

/-! ### Protection and the Trellis dies -/

/-- The safe state `st` is in force where none was and the axis may take one (R480, table 14.3), but in the SAFE that an axis starts in
(R95), which an all-off ends; while a faulted gate is still to be sensed off, or one of desaturation is due, it waits (R474). -/
def State.takesSafe (s : State) (x : Axis) (st : Nat) (t : State) : Prop :=
  s.canSafe x = true → (s.tr x).again = false → s.safe x = 0 →
  ((s.tr x).soft = 0 → (s.tr x).due = none → t.safe x = st) ∧ ((s.tr x).soft ≠ 0 → (s.tr x).due = none → t.safe x = 0 ∧ ∃ d, (t.tr x).due = some d ∧ d.st = st)

/-- Every channel of the die is off. -/
def State.allOff (t : State) (x : Axis) : Prop := ∀ c, c < 7 → bit (t.tr x).gates c = false

/-- R438: Trellis x has received the frame that the timebase sent, and obeys it; its turn-ons wait for the dead times (R182, R183). -/
def State.framed (s : State) (x : Axis) (t : State) : Prop :=
  t.flag (F.TR_STAT_LINK_OK x) = true ∧ t.cause (scAxis x) 7 = false ∧ t.above x = s.flag (F.MC_STATE_ABOVE_ASC x) ∧
  (t.tr x).dtLH = max 160 (s.fld (F.PW_DEAD_DT_LH x)) ∧ (t.tr x).dtHL = max 160 (s.fld (F.PW_DEAD_DT_HL x)) ∧
  (t.tr x).vbus = s.vbusNow x ∧ (t.tr x).band = s.fld F.ORG_TJ_BAND ∧ (t.tr x).lost = false ∧
  (s.flag (F.TR_STAT_EXT_ACTIVE x) = true → (t.tr x).cmd = (s.tr x).cmdPins) ∧
  (s.flag (F.TR_STAT_EXT_ACTIVE x) = false → (t.tr x).cmd = s.frameCmd x (s.tb x).out ∧
    (t.tr x).wait = deadWaits { s.tr x with dtLH := (t.tr x).dtLH, dtHL := (t.tr x).dtHL } (t.tr x).cmd s.subTicks) ∧
  ∀ c, c < 7 → t.mayBeOn x c = false → bit (t.tr x).gates c = false

/-! ### Pergola -/

/-- Channel n exists, with its record. -/
def State.pglHas (s : State) (n : Nat) : Prop := n < 16 ∧ s.flag (F.PGL_CH_CFG_EXISTS n) = true ∧ s.pgl.chans.length = 16

/-- No event is routed to a Pergola channel. -/
def State.pglUnrouted (s : State) : Prop := ∀ e, e < 128 → s.flag (F.LDG_ROUTE_PGL e) = false

/-- No word of memory holds an error. -/
def State.eccClean (s : State) : Prop := s.ecc1 = [] ∧ s.ecc2 = []

/-! ### The host port -/

/-- A frame that the port may take now: exact fields, at least one edge, and the port answers (R73, R85, R573). -/
def State.frameMay (s : State) (f : WktFrame) : Prop :=
  s.wktAnswers = true ∧ f.edges ≠ 0 ∧ f.fits (s.fld F.WKT_LEN_LEN) = true

/-- No reply waits that is not ready, and no length waits: the frame is not shifted during the busy pattern of R580. -/
def State.frameFree (s : State) : Prop := s.wkt.len = none ∧ (s.wkt.next = none ∨ s.wkt.ready = true)

/-- The frame is received as a new one, without a gap and without a host loss before it (R582, R583). -/
def State.frameNew (s : State) (f : WktFrame) : Prop :=
  s.frameMay f ∧ s.frameFree ∧ f.reason (s.fld F.WKT_LEN_LEN) = 0 ∧ s.flag F.WKT_STAT_LOST = false ∧
  (s.flag F.WKT_STAT_NONE = true ∨ f.alive = (s.fld F.WKT_STAT_ALIVE + 1) % 16)

/-- The commands that a frame may stand in. -/
def frameCmds (f : WktFrame) : List Instr := [.nop f, .read f [], .write f [], .reservedOpcode f]

/-- At the edges of a frame WSDO presents the bits of a header, of a payload cut or filled to the frame's length, zeros where no word fits,
and the trailer over them (R573), and 0 past the last of them (R569, R576). -/
def State.shifted (s : State) (f : WktFrame) (header : Word) (words : List Word) (t : State) : Prop :=
  let L := s.fld F.WKT_LEN_LEN
  let n := frameW L
  let p := words.take n ++ List.replicate (n - words.length) 0
  let tail := List.replicate (frameT L) false
  let bits := (header :: p).flatMap wordBits ++ tail ++ wordBits (trailer header p tail)
  t.wkt.sent = (bits ++ List.replicate (f.edges - L) false).take f.edges

/-! ### Self-test -/

/-- The command requests test slot k (tables 21.1 and 21.3), with no bit flip struck. -/
def Instr.asks (c : Instr) (k : Nat) : Prop :=
  match c with
  | .sarCheck .. => k = 0
  | .scrub u => k = 1 ∧ u = []
  | .dsPath x .. => k = 2 + x.ix
  | .sdLoop x .. => k = 4 + x.ix
  | .ofsCal .. => k = 6
  | .ofsAxis x .. => k = 7 + x.ix
  | .trim x .. => k = 9 + x.ix
  | _ => False

end Sys2Proof.Machine

namespace Sys2Proof

open Sys2Proof.Machine

/-- The parts of the state that a command may change. -/
def Instr.parts (c : Instr) : List Part :=
  match c with
  | .porExit .. | .resetPinRelease .. =>
      [.die, .pins]
  | .supplyBrownout .. =>
      gotoParts ++ faultParts ++ [.die, .ecc1, .ecc2, .found, .img, .sources, .tbA, .tbB, .sns, .hah, .org, .sun,
      .otp, .ice, .wkt, .reply, .free]
  | .resetPin .. | .soft .. | .reboot .. | .tmodeHigh .. | .thermalRestart .. =>
      gotoParts ++ faultParts ++ [.die, .pins, .ecc1, .ecc2, .found, .img, .sources, .tbA, .tbB, .sns, .hah, .org,
      .otp, .ice, .wkt, .reply, .free]
  | .pllLock | .armAction .. | .cancelAction .. =>
      [.sun]
  | .bootSequence .. =>
      gotoParts ++ faultParts ++ [.ecc1, .ecc2, .found, .img, .sns, .org, .otp, .free]
  | .hostLoadGo .. =>
      gotoParts ++ faultParts ++ [.ecc1, .ecc2, .found, .img, .org, .otp, .free, .ice]
  | .sectUpd .. =>
      gotoParts ++ faultParts ++ [.ecc1, .ecc2, .found, .img, .free, .ice]
  | .sectionSwap .. =>
      gotoParts ++ faultParts ++ [.ecc1, .ecc2, .found, .img, .ice, .free]
  | .floorAdv .. | .blow .. | .commit .. | .flush .. | .sealKey .. =>
      faultParts ++ [.otp, .free]
  | .ownWrite .. =>
      [.shadow, .fab, .svA, .svB]
  | .sampleInstant .. =>
      gotoParts ++ faultParts ++ [.ecc1, .ecc2, .found, .sources, .tbA, .tbB, .sns, .hah, .otp, .ice, .free]
  | .updateInstant .. =>
      faultParts ++ safeParts ++ [.tbA, .tbB, .free]
  | .valleyOrWrap .. | .periodWrite .. | .throttleEnforced | .enfNow =>
      eventParts ++ [.shadow, .tbA, .tbB]
  | .compareSetArrival .. =>
      [.shadow, .tbA, .tbB]
  | .edgeCommand .. =>
      eventParts ++ [.tbA, .tbB]
  | .pwmCtrlWrite .. =>
      gotoParts ++ faultParts ++ [.ecc1, .ecc2, .found, .img, .tbA, .tbB, .ice, .free]
  | .referenceClockLost =>
      faultParts ++ safeParts ++ [.sun]
  | .ppsPulse .. | .ppsTimeout | .sunCtrlWrite .. | .setGo =>
      eventParts ++ [.sun, .free]
  | .snap | .sunCntClr | .hbCntClr .. | .snsCntClr .. | .hahCntClr .. | .extrapClearTimeout .. | .trxCntClr ..
    | .protClr .. | .statusClear .. | .evtPendClear .. | .logClr .. | .routeWrite .. | .hltWrite .. | .wktCntClr
    | .iceCntClr | .trimWrite .. =>
      []
  | .actionFired .. | .arm .. | .start .. | .stop .. | .coast .. | .clear .. =>
      eventParts ++ [.axA, .axB]
  | .graphTrigger | .taskDispatch .. | .stealAttempt .. =>
      [.fab]
  | .sourceDelivery .. =>
      faultParts ++ safeParts ++ [.ecc1, .ecc2, .found, .sources, .ice, .free]
  | .taskComplete .. =>
      faultParts ++ safeParts ++ [.free, .shadow]
  | .taskOverrun .. | .lockWaitTimeout .. | .bootstrapUndervoltage .. =>
      faultParts ++ safeParts ++ [.free]
  | .mov .. | .add .. | .sub .. | .mul .. | .mac .. | .div .. | .sqrt .. | .abs .. | .min2 .. | .max2 ..
    | .lim .. | .sincos .. | .atan2 .. | .wrap .. | .cmp .. | .sel .. | .lpf1 .. | .biquad .. | .rate ..
    | .integ .. | .c2p2z .. | .c3p3z .. | .minsel .. | .clarke .. | .park .. | .ipark .. | .svm .. | .dtcomp ..
    | .bemf .. | .pll .. | .hfi .. | .flux .. | .blend .. | .model .. | .lut .. | .smstep .. | .timer ..
    | .blkcpy .. | .nop .. | .read .. | .write .. | .reservedOpcode .. | .registerWrite .. =>
      gotoParts ++ faultParts ++ [.die, .pins, .ecc1, .ecc2, .found, .img, .sources, .tbA, .tbB, .sns, .hah, .org,
      .sun, .otp, .ice, .wkt, .reply, .free]
  | .event .. | .pgltrig .. | .acq .. | .rel .. | .descriptorFetch .. | .burstGrant .. | .burstDone ..
    | .descriptorComplete .. | .abort .. =>
      faultParts ++ safeParts ++ [.ecc1, .ecc2, .found, .free, .ice]
  | .paceGate .. | .positionLossTimeout .. | .rotorLost .. | .stall .. | .dieLinkLost ..
    | .busOvervoltageSignal .. | .hostLost .. =>
      faultParts ++ safeParts
  | .sarConversionEnd .. | .backgroundConversion .. =>
      faultParts ++ safeParts ++ [.sources, .sns, .free]
  | .sinc2Result .. =>
      faultParts ++ safeParts ++ [.sns, .free]
  | .sinc3Settled .. | .sdclkWrite .. | .calWrite .. =>
      [.sns]
  | .sigmaDeltaInputStuck .. | .testDone .. =>
      faultParts ++ safeParts ++ [.sns]
  | .comparatorTrip .. | .comparatorClear .. =>
      faultParts ++ safeParts ++ [.tbA, .tbB, .hah]
  | .hallCodeAccept .. =>
      [.svA, .svB, .hah]
  | .encoderStep .. | .encoderZ .. =>
      faultParts ++ safeParts ++ [.hah]
  | .axisEvaluate .. | .driverSupplyUndervoltage .. =>
      gotoParts ++ faultParts ++ [.free]
  | .armTimeout .. | .stopTimeout .. | .injectionAlignComplete .. | .polarityPulseEnd .. | .startTimeout ..
    | .flyingRestartProbe .. | .gateOffNotSensed .. | .softOffTimeout .. =>
      gotoParts ++ faultParts
  | .bootstrapsReady .. | .stopComplete .. | .holdTimeElapsed .. | .alignComplete .. | .safeStateApply ..
    | .ascExit .. | .retryDecision .. =>
      gotoParts
  | .limitTimeExpiry .. | .home .. | .injectionBegin .. | .injectionEnded .. | .folCancel .. | .captureArm ..
    | .captureTrigger .. =>
      eventParts
  | .reversalRestart .. =>
      eventParts ++ [.shadow, .axA, .axB]
  | .runtimeSecond .. | .mcCntClr .. =>
      [.axA, .axB]
  | .modeWrite .. | .swapRequest .. =>
      eventParts ++ [.shadow, .reply]
  | .setPointWrite .. | .strLimWrite .. | .extWrite .. =>
      [.reply]
  | .handover .. | .identificationTestEnd .. =>
      gotoParts ++ faultParts ++ [.ecc1, .ecc2, .found, .ice, .free]
  | .suspectTimeout .. | .rotorReacquired .. | .spLoopRelease .. =>
      faultParts ++ safeParts ++ [.ecc1, .ecc2, .found, .ice, .free]
  | .flyRetry .. | .folStart .. | .captureCancel .. =>
      [.svA, .svB]
  | .blvCtrlWrite .. | .loopEnableWrite .. =>
      [.shadow, .reply]
  | .compensatorSwap .. =>
      eventParts ++ [.shadow]
  | .posSetWrite .. | .pglReset .. =>
      eventParts ++ [.reply]
  | .captureFrame .. =>
      [.svA, .svB, .free]
  | .captureBlockDescriptor .. =>
      [.mem, .ecc1, .ecc2, .found, .svA, .svB, .pgl, .free]
  | .captureComplete .. =>
      eventParts ++ [.mem]
  | .linkFrame .. | .brakeOvercurrent .. | .brakeChopperShorted .. | .brakeChopperOpen .. =>
      faultParts ++ [.trA, .trB]
  | .idleFrame .. | .prechargePulse .. | .cmdPinAccept .. | .queuedTestStart .. | .gateSensedOff .. =>
      [.trA, .trB]
  | .transitionMeasured .. | .desaturation .. | .turnOnShort .. =>
      faultParts ++ [.trA, .trB, .free]
  | .edgesDelivery .. =>
      [.sources, .sns, .free]
  | .strengthWrite .. =>
      [.reply, .trA, .trB]
  | .interlock .. =>
      eventParts ++ [.trA, .trB]
  | .bootstrapLockoutRelease .. | .driverSupplyRelease .. =>
      [.trA, .trB, .free]
  | .torqueOff .. =>
      faultParts ++ safeParts ++ [.pins, .free]
  | .torqueOffRelease .. =>
      [.pins]
  | .temperatureSample .. =>
      gotoParts ++ faultParts ++ [.tbA, .tbB, .org, .otp, .free]
  | .riseRateUpdate =>
      eventParts ++ [.org, .free]
  | .driverEstimateWindow .. =>
      faultParts ++ [.shadow, .trA, .trB, .tbA, .tbB, .org, .free]
  | .thermalShutdown =>
      faultParts ++ safeParts ++ [.die, .org]
  | .grottoReverify .. =>
      faultParts ++ [.otp]
  | .readRaw .. | .badOp =>
      eventParts ++ [.otp]
  | .replyReady =>
      [.wkt]
  | .wktLenWrite .. =>
      [.wkt, .reply]
  | .flashTransactionEnd .. | .windowMiss .. | .apertureRead .. | .release =>
      faultParts ++ safeParts ++ [.ice, .free]
  | .windowLineFill =>
      [.fab, .ice]
  | .portRetake .. =>
      [.ice, .free]
  | .inv =>
      [.ice]
  | .trig .. | .creditWindow =>
      [.pgl]
  | .ringRdWrite .. | .scrub .. | .backgroundTestRepeat .. =>
      faultParts ++ safeParts ++ [.ecc1, .ecc2, .found, .reply, .free, .ice]
  | .busError .. =>
      faultParts ++ [.mem, .free, .ice]
  | .chnCfgWrite .. =>
      [.shadow]
  | .sarCheck .. | .dsPath .. | .sdLoop .. | .ofsCal .. | .ofsAxis .. =>
      eventParts ++ [.stc, .reply]
  | .trim .. =>
      eventParts ++ [.trA, .trB, .stc, .reply]
  | .stcCancel .. =>
      eventParts ++ [.trA, .trB, .stc]

/-- A command may change the register at an address: one of a family that it names, any register where the command resets the
die, applies an image or writes a register of its sender's choice. -/
def Instr.mayWrite (c : Instr) (a : Nat) : Bool :=
  match c with
  | .porExit .. | .resetPinRelease .. =>
      named [A.GH_BOOT_STATUS] a
  | .supplyBrownout .. | .resetPin .. | .soft .. | .reboot .. | .tmodeHigh .. | .bootSequence ..
    | .hostLoadGo .. | .mov .. | .add .. | .sub .. | .mul .. | .mac .. | .div .. | .sqrt .. | .abs .. | .min2 ..
    | .max2 .. | .lim .. | .sincos .. | .atan2 .. | .wrap .. | .cmp .. | .sel .. | .lpf1 .. | .biquad ..
    | .rate .. | .integ .. | .c2p2z .. | .c3p3z .. | .minsel .. | .clarke .. | .park .. | .ipark .. | .svm ..
    | .dtcomp .. | .bemf .. | .pll .. | .hfi .. | .flux .. | .blend .. | .model .. | .lut .. | .smstep ..
    | .timer .. | .blkcpy .. | .thermalRestart .. | .nop .. | .read .. | .write .. | .reservedOpcode ..
    | .registerWrite .. =>
      true
  | .pllLock | .torqueOffRelease .. =>
      named [A.LDG_CAUSE 0] a
  | .sectUpd .. | .sectionSwap .. =>
      named (faultRegs ++ safeRegs ++ [A.GH_SECT_UPD, A.GH_SECT_STATUS, A.HB_ECC, A.HB_ECC_ADDR, A.MC_X_FW_KI .a,
      A.MC_X_FW_IDMIN .a, A.MC_X_FW_MODMAX .a, A.MC_X_PLL_KP .a, A.MC_X_PLL_KI .a, A.MC_X_DIS_BAND .a, A.MC_X_RES_BAND
      .a, A.MC_BANK .a 0 0, A.MC_X_ACC_MAX .a, A.MC_X_DEC_MAX .a, A.MC_X_JERK_MAX .a, A.MC_CAP_CTRL .a, A.TR_EDGE .a
      0, A.PGL_ERR, A.PGL_CH_RESID 0]) a
  | .floorAdv .. | .blow .. | .commit .. | .flush .. | .sealKey .. =>
      named (eventRegs ++ [A.GH_FLOOR_ADV, A.LDG_REPEAT, A.LDG_ST 0, A.LDG_LOG_STAT, A.LDG_LOG 0, A.GRT_STAT,
      A.GRT_COUNT, A.GRT_PEND, A.GRT_PROG, A.GRT_PROG_STAT, A.STC_SCRUB_STAT, A.STC_TSTAT 0]) a
  | .ownWrite .. =>
      named [A.MC_OWN .a, A.MC_X_FW_KI .a, A.MC_X_FW_IDMIN .a, A.MC_X_FW_MODMAX .a, A.MC_X_PLL_KP .a, A.MC_X_PLL_KI
      .a, A.MC_X_DIS_BAND .a, A.MC_X_RES_BAND .a, A.MC_BANK .a 0 0, A.MC_X_ACC_MAX .a, A.MC_X_DEC_MAX .a,
      A.MC_X_JERK_MAX .a, A.TR_EDGE .a 0] a
  | .sampleInstant .. =>
      named (faultRegs ++ safeRegs ++ [A.GH_SECT_UPD, A.GH_SECT_STATUS, A.GH_FLOOR_ADV, A.HB_ECC, A.HB_ECC_ADDR,
      A.SUN_ACT_CTRL 0, A.SNS_STAT, A.SNS_CNT .a, A.SNS_DTD 0, A.MC_OWN .a, A.MC_STATE .a, A.MC_MODE .a, A.MC_SPD_ACT
      .a, A.MC_LIMIT .a, A.MC_X_OMEGA .a, A.MC_X_THETA .a, A.MC_X_FW_KI .a, A.MC_X_FW_IDMIN .a, A.MC_X_FW_MODMAX .a,
      A.MC_BLV_STAT .a, A.MC_BLV_EVT .a, A.MC_ID_STAT .a, A.MC_X_PLL_KP .a, A.MC_X_PLL_KI .a, A.MC_X_DIS_BAND .a,
      A.MC_X_RES_BAND .a, A.MC_BANK .a 0 0, A.MC_SWAP_STAT .a, A.MC_CUR_CTRL .a, A.MC_LOOP_EN .a, A.MC_X_IQ_REF .a,
      A.MC_X_ID_REF .a, A.MC_PRM_STAT .a, A.MC_X_ACC_MAX .a, A.MC_X_DEC_MAX .a, A.MC_X_JERK_MAX .a, A.MC_POS_REF_T .a,
      A.MC_POS_REF_F .a, A.MC_POS_ACT_T .a, A.MC_POS_ACT_F .a, A.MC_FOL_CTRL .a, A.MC_FOL_STAT .a, A.MC_X_FOL_VAL .a,
      A.MC_CAP_CTRL .a, A.TR_EDGE .a 0, A.GRT_STAT, A.GRT_PROG, A.PGL_ERR, A.PGL_CH_RESID 0]) a
  | .updateInstant .. =>
      named (faultRegs ++ safeRegs ++ [A.HB_MISS .a, A.PW_CTRL .a, A.PW_CMP .a 0, A.PW_SIX .a, A.PW_DEAD .a,
      A.PW_MINPULSE .a, A.PW_STAT .a, A.PW_CNT .a, A.MC_STATE .a, A.MC_E_MOT .a, A.MC_E_REGEN .a, A.MC_X_ID_FW .a,
      A.TR_STR .a 0, A.TR_REF_STAT .a]) a
  | .valleyOrWrap .. =>
      named (eventRegs ++ [A.PW_CTRL .a, A.PW_PERIOD .a, A.PW_CMP_BK .a, A.PW_SAMP .a 0, A.PW_PHASE .a,
      A.PW_PERIOD_EFF .a, A.PW_STAT .a, A.MC_BANK .a 0 0, A.TR_EDGE .a 0, A.MC_SWAP_STAT .a]) a
  | .compareSetArrival .. =>
      named [A.PW_CMP .a 0, A.PW_SIX .a] a
  | .edgeCommand .. =>
      named (eventRegs ++ [A.PW_STAT .a, A.PW_CNT .a]) a
  | .periodWrite .. =>
      named (eventRegs ++ [A.PW_PERIOD .a, A.PW_PERIOD_EFF .a, A.PW_STAT .a, A.MC_BANK .a 0 0, A.TR_EDGE .a 0,
      A.MC_SWAP_STAT .a]) a
  | .pwmCtrlWrite .. =>
      named (faultRegs ++ safeRegs ++ [A.GH_SECT_UPD, A.GH_SECT_STATUS, A.HB_ECC, A.HB_ECC_ADDR, A.PW_CTRL .a,
      A.PW_PERIOD .a, A.PW_CMP_BK .a, A.PW_DEAD .a, A.PW_MINPULSE .a, A.PW_SAMP .a 0, A.PW_PHASE .a, A.PW_PERIOD_EFF
      .a, A.PW_STAT .a, A.PW_CNT .a, A.SUN_ACT_CTRL 0, A.MC_OWN .a, A.MC_STATE .a, A.MC_MODE .a, A.MC_X_ID_FW .a,
      A.MC_X_FW_KI .a, A.MC_X_FW_IDMIN .a, A.MC_X_FW_MODMAX .a, A.MC_X_PLL_KP .a, A.MC_X_PLL_KI .a, A.MC_X_DIS_BAND
      .a, A.MC_X_RES_BAND .a, A.MC_BANK .a 0 0, A.MC_SWAP .a, A.MC_SWAP_STAT .a, A.MC_CUR_CTRL .a, A.MC_LOOP_EN .a,
      A.MC_PRM_STAT .a, A.MC_X_ACC_MAX .a, A.MC_X_DEC_MAX .a, A.MC_X_JERK_MAX .a, A.MC_POS_REF_T .a, A.MC_POS_REF_F
      .a, A.MC_POS_ACT_T .a, A.MC_POS_ACT_F .a, A.MC_CAP_CTRL .a, A.TR_EDGE .a 0, A.PGL_ERR, A.PGL_CH_RESID 0]) a
  | .referenceClockLost | .dieLinkLost .. | .torqueOff .. | .busOvervoltageSignal .. | .thermalShutdown =>
      named (faultRegs ++ safeRegs) a
  | .ppsPulse .. =>
      named (eventRegs ++ [A.SUN_CTRL, A.SUN_STAT, A.SUN_RATE, A.SUN_PHASE_ERR, A.SUN_DRIFT, A.SUN_PPS_LO,
      A.SUN_PPS_HI]) a
  | .ppsTimeout =>
      named (eventRegs ++ [A.SUN_STAT, A.SUN_RATE, A.SUN_DRIFT]) a
  | .sunCtrlWrite .. | .setGo =>
      named (eventRegs ++ [A.SUN_CTRL, A.SUN_STAT, A.SUN_DRIFT]) a
  | .snap =>
      named [A.SUN_SNAP_LO, A.SUN_SNAP_HI] a
  | .sunCntClr =>
      named [A.SUN_STAT] a
  | .armAction .. | .cancelAction .. =>
      named [A.SUN_ACT_CTRL 0] a
  | .actionFired .. | .arm .. | .start .. | .stop .. | .coast .. | .clear .. =>
      named (eventRegs ++ [A.SUN_ACT_CTRL 0, A.MC_STATE .a]) a
  | .graphTrigger =>
      named [A.HB_PACE_STAT, A.HB_LATE] a
  | .sourceDelivery .. | .burstGrant .. | .scrub .. | .backgroundTestRepeat .. =>
      named (faultRegs ++ safeRegs ++ [A.GH_SECT_UPD, A.GH_SECT_STATUS, A.HB_ECC, A.HB_ECC_ADDR, A.MC_CAP_CTRL .a,
      A.PGL_ERR, A.PGL_CH_RESID 0]) a
  | .taskDispatch .. | .sinc3Settled .. | .flyRetry .. | .captureCancel .. | .replyReady | .wktLenWrite ..
    | .inv | .chnCfgWrite .. =>
      false
  | .stealAttempt .. =>
      named [A.HB_STEAL] a
  | .taskComplete .. =>
      named (faultRegs ++ safeRegs ++ [A.HB_LOCKS, A.HB_ABANDON, A.PW_CMP_BK .a]) a
  | .taskOverrun .. | .lockWaitTimeout .. =>
      named (faultRegs ++ safeRegs ++ [A.HB_LOCKS, A.HB_ABANDON]) a
  | .event .. | .pgltrig .. | .acq .. | .rel .. =>
      named (faultRegs ++ safeRegs ++ [A.GH_SECT_UPD, A.GH_SECT_STATUS, A.HB_ECC, A.HB_ECC_ADDR, A.HB_LOCKS,
      A.HB_ABANDON, A.MC_CAP_CTRL .a, A.ICE_STAT, A.ICE_ERR, A.ICE_CNT, A.PGL_ERR, A.PGL_CH_RESID 0]) a
  | .paceGate .. =>
      named (faultRegs ++ safeRegs ++ [A.HB_PACE 0, A.HB_PACE_LIM]) a
  | .hbCntClr .. =>
      named [A.HB_PACE 0, A.HB_MISS .a, A.HB_LATE, A.HB_STEAL, A.HB_ECC, A.HB_ABANDON] a
  | .sarConversionEnd .. =>
      named (faultRegs ++ safeRegs ++ [A.SNS_STAT, A.SNS_CNT .a, A.SNS_DTD 0]) a
  | .backgroundConversion .. =>
      named (faultRegs ++ safeRegs ++ [A.SNS_STAT, A.HAH_RB_STAT]) a
  | .sinc2Result .. | .sigmaDeltaInputStuck .. =>
      named (faultRegs ++ safeRegs ++ [A.SNS_STAT]) a
  | .sdclkWrite .. =>
      named [A.SNS_SDCLK] a
  | .snsCntClr .. =>
      named [A.SNS_CNT .a, A.SNS_DTD 0] a
  | .comparatorTrip .. | .comparatorClear .. =>
      named (faultRegs ++ safeRegs ++ [A.HAH_STATE, A.HAH_STICKY, A.HAH_CBC_CNT]) a
  | .hahCntClr .. =>
      named [A.HAH_RB_STAT, A.HAH_CBC_CNT, A.HAH_HALL_ST .a, A.HAH_ENC_ST .a] a
  | .hallCodeAccept .. =>
      named [A.HAH_HALL_ST .a, A.MC_X_THETA .a] a
  | .encoderStep .. =>
      named (faultRegs ++ safeRegs ++ [A.HAH_ENC_CNT .a, A.HAH_ENC_ST .a, A.MC_STATE .a]) a
  | .encoderZ .. =>
      named (faultRegs ++ safeRegs ++ [A.HAH_ENC_ST .a, A.MC_STATE .a]) a
  | .axisEvaluate .. =>
      named (gotoRegs ++ faultRegs ++ [A.SUN_ACT_CTRL 0, A.MC_SPD_ACT .a, A.MC_LIMIT .a, A.MC_FW_ONSET .a,
      A.MC_ASC_SPD .a, A.MC_X_OMEGA .a, A.MC_X_THETA .a, A.MC_BLV_CTRL .a, A.MC_START_DIAG .a, A.MC_ID_CTRL .a,
      A.MC_ID_STAT .a, A.MC_X_ACC_MAX .a, A.MC_X_DEC_MAX .a, A.MC_X_JERK_MAX .a]) a
  | .armTimeout .. | .stopTimeout .. =>
      named (gotoRegs ++ faultRegs ++ [A.SUN_ACT_CTRL 0, A.MC_SPD_ACT .a, A.MC_LIMIT .a, A.MC_X_OMEGA .a, A.MC_X_THETA
      .a, A.MC_BLV_CTRL .a, A.MC_START_DIAG .a, A.MC_ID_CTRL .a, A.MC_ID_STAT .a, A.MC_X_ACC_MAX .a, A.MC_X_DEC_MAX
      .a, A.MC_X_JERK_MAX .a]) a
  | .bootstrapsReady .. | .stopComplete .. | .holdTimeElapsed .. | .alignComplete .. | .retryDecision .. =>
      named (gotoRegs ++ [A.SUN_ACT_CTRL 0, A.MC_SPD_ACT .a, A.MC_LIMIT .a, A.MC_X_OMEGA .a, A.MC_X_THETA .a,
      A.MC_BLV_CTRL .a, A.MC_START_DIAG .a, A.MC_ID_CTRL .a, A.MC_ID_STAT .a, A.MC_X_ACC_MAX .a, A.MC_X_DEC_MAX .a,
      A.MC_X_JERK_MAX .a]) a
  | .limitTimeExpiry .. =>
      named (eventRegs ++ [A.MC_LIMIT .a]) a
  | .reversalRestart .. =>
      named (eventRegs ++ [A.SUN_ACT_CTRL 0, A.MC_OWN .a, A.MC_STATE .a, A.MC_X_FW_KI .a, A.MC_X_FW_IDMIN .a,
      A.MC_X_FW_MODMAX .a, A.MC_X_PLL_KP .a, A.MC_X_PLL_KI .a, A.MC_X_DIS_BAND .a, A.MC_X_RES_BAND .a, A.MC_BANK .a 0
      0, A.MC_X_ACC_MAX .a, A.MC_X_DEC_MAX .a, A.MC_X_JERK_MAX .a, A.TR_EDGE .a 0]) a
  | .positionLossTimeout .. =>
      named (faultRegs ++ safeRegs ++ [A.MC_STATE .a]) a
  | .runtimeSecond .. =>
      named [A.MC_RUNTIME .a] a
  | .modeWrite .. =>
      named (eventRegs ++ [A.MC_STATE .a, A.MC_MODE .a, A.MC_X_ID_FW .a, A.MC_PRM_STAT .a]) a
  | .setPointWrite .. =>
      named [A.MC_SPD_SET .a, A.MC_TRQ_SET .a] a
  | .mcCntClr .. =>
      named [A.MC_E_MOT .a, A.MC_E_REGEN .a, A.MC_RUNTIME .a, A.MC_STARTS .a] a
  | .injectionAlignComplete .. | .polarityPulseEnd .. | .startTimeout .. =>
      named (gotoRegs ++ faultRegs ++ [A.SUN_ACT_CTRL 0, A.MC_SPD_ACT .a, A.MC_LIMIT .a, A.MC_X_OMEGA .a, A.MC_X_THETA
      .a, A.MC_BLV_CTRL .a, A.MC_BLV_EVT .a, A.MC_BLV_CNT .a, A.MC_START_DIAG .a, A.MC_ID_CTRL .a, A.MC_ID_STAT .a,
      A.MC_X_ACC_MAX .a, A.MC_X_DEC_MAX .a, A.MC_X_JERK_MAX .a]) a
  | .handover .. =>
      named (gotoRegs ++ faultRegs ++ [A.GH_SECT_UPD, A.GH_SECT_STATUS, A.HB_ECC, A.HB_ECC_ADDR, A.SUN_ACT_CTRL 0,
      A.MC_SPD_ACT .a, A.MC_LIMIT .a, A.MC_X_OMEGA .a, A.MC_X_THETA .a, A.MC_BLV_CTRL .a, A.MC_START_DIAG .a,
      A.MC_ID_CTRL .a, A.MC_ID_STAT .a, A.MC_X_IQ_REF .a, A.MC_X_ACC_MAX .a, A.MC_X_DEC_MAX .a, A.MC_X_JERK_MAX .a,
      A.MC_CAP_CTRL .a, A.PGL_ERR, A.PGL_CH_RESID 0]) a
  | .suspectTimeout .. =>
      named (faultRegs ++ safeRegs ++ [A.GH_SECT_UPD, A.GH_SECT_STATUS, A.HB_ECC, A.HB_ECC_ADDR, A.MC_BLV_STAT .a,
      A.MC_BLV_EVT .a, A.MC_BLV_CNT .a, A.MC_START_DIAG .a, A.MC_CAP_CTRL .a, A.PGL_ERR, A.PGL_CH_RESID 0]) a
  | .rotorReacquired .. =>
      named (faultRegs ++ safeRegs ++ [A.GH_SECT_UPD, A.GH_SECT_STATUS, A.HB_ECC, A.HB_ECC_ADDR, A.MC_BLV_STAT .a,
      A.MC_BLV_EVT .a, A.MC_BLV_CNT .a, A.MC_SPD_REF .a, A.MC_X_OMEGA_REF .a, A.MC_X_ACC_REF .a, A.MC_CAP_CTRL .a,
      A.PGL_ERR, A.PGL_CH_RESID 0]) a
  | .rotorLost .. =>
      named (faultRegs ++ safeRegs ++ [A.MC_BLV_STAT .a, A.MC_BLV_EVT .a, A.MC_BLV_CNT .a]) a
  | .extrapClearTimeout .. =>
      named [A.MC_BLV_STAT .a] a
  | .stall .. =>
      named (faultRegs ++ safeRegs ++ [A.MC_BLV_EVT .a]) a
  | .flyingRestartProbe .. =>
      named (gotoRegs ++ faultRegs ++ [A.SUN_ACT_CTRL 0, A.MC_SPD_ACT .a, A.MC_LIMIT .a, A.MC_X_OMEGA .a, A.MC_X_THETA
      .a, A.MC_X_ID_FW .a, A.MC_BLV_CTRL .a, A.MC_BLV_EVT .a, A.MC_BLV_CNT .a, A.MC_START_DIAG .a, A.MC_ID_CTRL .a,
      A.MC_ID_STAT .a, A.MC_X_IQ_REF .a, A.MC_X_ACC_MAX .a, A.MC_X_DEC_MAX .a, A.MC_X_JERK_MAX .a]) a
  | .identificationTestEnd .. =>
      named (gotoRegs ++ faultRegs ++ [A.GH_SECT_UPD, A.GH_SECT_STATUS, A.HB_ECC, A.HB_ECC_ADDR, A.SUN_ACT_CTRL 0,
      A.MC_SPD_ACT .a, A.MC_LIMIT .a, A.MC_X_OMEGA .a, A.MC_X_THETA .a, A.MC_BLV_CTRL .a, A.MC_START_DIAG .a,
      A.MC_ID_CTRL .a, A.MC_ID_STAT .a, A.MC_ID_RS .a, A.MC_ID_LD0 .a, A.MC_ID_LQ0 .a, A.MC_ID_PSI .a, A.MC_ID_J .a,
      A.MC_ID_TLOAD .a, A.MC_ID_TEMP .a, A.MC_X_ACC_MAX .a, A.MC_X_DEC_MAX .a, A.MC_X_JERK_MAX .a, A.MC_CAP_CTRL .a,
      A.PGL_ERR, A.PGL_CH_RESID 0]) a
  | .blvCtrlWrite .. =>
      named [A.MC_BLV_CNT .a] a
  | .swapRequest .. | .compensatorSwap .. =>
      named (eventRegs ++ [A.MC_BANK .a 0 0, A.MC_SWAP .a, A.MC_SWAP_STAT .a]) a
  | .loopEnableWrite .. =>
      named [A.MC_CUR_CTRL .a, A.MC_LOOP_EN .a] a
  | .home .. =>
      named (eventRegs ++ [A.MC_POS_REF_T .a, A.MC_POS_REF_F .a, A.MC_POS_ACT_T .a, A.MC_POS_ACT_F .a, A.MC_PRM_STAT
      .a]) a
  | .posSetWrite .. =>
      named (eventRegs ++ [A.MC_POS_SET_T .a, A.MC_POS_SET_F .a, A.MC_PRM_STAT .a]) a
  | .spLoopRelease .. =>
      named (faultRegs ++ safeRegs ++ [A.GH_SECT_UPD, A.GH_SECT_STATUS, A.HB_ECC, A.HB_ECC_ADDR, A.MC_LIMIT .a,
      A.MC_PRM_STAT .a, A.MC_SPD_REF .a, A.MC_X_OMEGA_REF .a, A.MC_X_ACC_REF .a, A.MC_POS_REF_T .a, A.MC_POS_REF_F .a,
      A.MC_X_FOL_VAL .a, A.MC_CAP_CTRL .a, A.PGL_ERR, A.PGL_CH_RESID 0]) a
  | .folStart .. =>
      named [A.MC_FOL_STAT .a] a
  | .injectionBegin .. | .injectionEnded .. | .folCancel .. =>
      named (eventRegs ++ [A.MC_FOL_CTRL .a, A.MC_FOL_STAT .a, A.MC_X_FOL_VAL .a]) a
  | .captureArm .. =>
      named (eventRegs ++ [A.MC_CAP_CTRL .a, A.MC_CAP_COUNT .a, A.MC_CAP_START .a]) a
  | .captureTrigger .. =>
      named (eventRegs) a
  | .captureFrame .. =>
      named [A.MC_CAP_STAT .a, A.MC_CAP_COUNT .a, A.MC_CAP_START .a] a
  | .captureBlockDescriptor .. =>
      named [A.LDG_CAUSE 0, A.PGL_STAT, A.PGL_CH_STAT 0, A.PGL_CH_CUR 0, A.PGL_CH_CNT 0] a
  | .captureComplete .. =>
      named (eventRegs ++ [A.MC_CAP_CTRL .a]) a
  | .linkFrame .. =>
      named (faultRegs ++ [A.TR_STAT .a, A.TR_LINK_CNT .a, A.TR_SAFE_STAT .a, A.TR_DS_STAT .a, A.TR_CSC_STAT .a]) a
  | .idleFrame .. =>
      named [A.TR_STAT .a, A.TR_SAFE_STAT .a, A.LDG_CAUSE 0, A.TR_DS_STAT .a, A.TR_CSC_STAT .a] a
  | .transitionMeasured .. =>
      named (faultRegs ++ [A.TR_STAT .a, A.TR_STR .a 0, A.TR_LAST .a 0]) a
  | .edgesDelivery .. =>
      named [A.SNS_DTD 0] a
  | .strengthWrite .. =>
      named [A.TR_STAT .a, A.TR_STR .a 0] a
  | .strLimWrite .. =>
      named [A.TR_STAT .a, A.TR_STR .a 0, A.TR_STR_LIM .a] a
  | .interlock .. =>
      named (eventRegs ++ [A.TR_STAT .a, A.TR_ILK_CNT .a, A.TR_DS_STAT .a, A.TR_CSC_STAT .a]) a
  | .gateOffNotSensed .. | .softOffTimeout .. =>
      named (gotoRegs ++ faultRegs ++ [A.MC_LIMIT .a, A.MC_ID_STAT .a, A.MC_X_ACC_MAX .a, A.MC_X_DEC_MAX .a,
      A.MC_X_JERK_MAX .a]) a
  | .bootstrapUndervoltage .. =>
      named (faultRegs ++ safeRegs ++ [A.TR_VBS .a]) a
  | .bootstrapLockoutRelease .. =>
      named [A.TR_STAT .a, A.TR_VBS .a, A.LDG_CAUSE 0, A.TR_DS_STAT .a, A.TR_CSC_STAT .a] a
  | .prechargePulse .. | .cmdPinAccept .. =>
      named [A.TR_DS_STAT .a, A.TR_CSC_STAT .a] a
  | .extWrite .. =>
      named [A.TR_CFG .a] a
  | .trxCntClr .. =>
      named [A.TR_REF_STAT .a, A.TR_ILK_CNT .a, A.TR_LINK_CNT .a] a
  | .driverSupplyUndervoltage .. =>
      named (gotoRegs ++ faultRegs ++ [A.MC_LIMIT .a, A.MC_ID_STAT .a, A.MC_X_ACC_MAX .a, A.MC_X_DEC_MAX .a,
      A.MC_X_JERK_MAX .a, A.TR_VBS .a]) a
  | .driverSupplyRelease .. =>
      named [A.TR_VBS .a, A.LDG_CAUSE 0, A.TR_DS_STAT .a, A.TR_CSC_STAT .a] a
  | .desaturation .. | .turnOnShort .. =>
      named (faultRegs ++ [A.TR_DS_STAT .a, A.TR_DS_CNT .a, A.TR_STAT .a, A.TR_CSC_STAT .a]) a
  | .safeStateApply .. | .ascExit .. =>
      named (gotoRegs ++ [A.MC_LIMIT .a, A.MC_ID_STAT .a, A.MC_X_ACC_MAX .a, A.MC_X_DEC_MAX .a, A.MC_X_JERK_MAX .a]) a
  | .brakeOvercurrent .. | .brakeChopperShorted .. | .brakeChopperOpen .. =>
      named (faultRegs ++ [A.TR_CSC_STAT .a, A.TR_DS_STAT .a]) a
  | .protClr .. =>
      named [A.TR_SAFE_STAT .a, A.TR_CSC_STAT .a, A.TR_DS_CNT .a] a
  | .statusClear .. =>
      named [A.LDG_ST 0] a
  | .evtPendClear .. =>
      named [A.LDG_EVT_PEND 0] a
  | .logClr .. =>
      named [A.LDG_REPEAT, A.LDG_LOG_STAT, A.LDG_LOG 0] a
  | .routeWrite .. =>
      named [A.LDG_ROUTE 0] a
  | .temperatureSample .. =>
      named (faultRegs ++ safeRegs ++ [A.GH_FLOOR_ADV, A.PW_PERIOD .a, A.PW_PERIOD_EFF .a, A.PW_STAT .a,
      A.SNS_SAR_WIN, A.MC_BANK .a 0 0, A.TR_EDGE .a 0, A.ORG_TJ, A.ORG_STAT, A.ORG_THR_CFG, A.ORG_RISE_CFG,
      A.GRT_STAT, A.GRT_PROG, A.MC_SWAP_STAT .a]) a
  | .throttleEnforced | .enfNow =>
      named (eventRegs ++ [A.PW_PERIOD .a, A.PW_PERIOD_EFF .a, A.PW_STAT .a, A.MC_BANK .a 0 0, A.TR_EDGE .a 0,
      A.ORG_STAT, A.MC_SWAP_STAT .a]) a
  | .riseRateUpdate =>
      named (eventRegs ++ [A.ORG_STAT, A.ORG_RATE]) a
  | .driverEstimateWindow .. =>
      named (faultRegs ++ [A.PW_PERIOD .a, A.PW_PERIOD_EFF .a, A.PW_STAT .a, A.MC_BANK .a 0 0, A.TR_EDGE .a 0,
      A.ORG_STAT, A.ORG_DRV_EST, A.MC_SWAP_STAT .a]) a
  | .grottoReverify .. =>
      named (faultRegs ++ [A.GH_FLOOR_ADV, A.GRT_STAT, A.GRT_PROG, A.GRT_WEAK]) a
  | .readRaw .. =>
      named (eventRegs ++ [A.GH_FLOOR_ADV, A.GRT_STAT, A.GRT_COUNT, A.GRT_PROG, A.GRT_PROG_STAT, A.GRT_RAW 0]) a
  | .badOp =>
      named (eventRegs ++ [A.GH_FLOOR_ADV, A.GRT_STAT, A.GRT_COUNT, A.GRT_PROG, A.GRT_PROG_STAT]) a
  | .hltWrite .. =>
      named [A.WKT_HLT, A.WKT_STAT] a
  | .wktCntClr =>
      named [A.WKT_CNT] a
  | .hostLost .. =>
      named (faultRegs ++ safeRegs ++ [A.SUN_ACT_CTRL 0, A.MC_STATE .a, A.WKT_STAT]) a
  | .flashTransactionEnd .. | .windowMiss .. | .apertureRead .. =>
      named (faultRegs ++ safeRegs ++ [A.HB_LOCKS, A.HB_ABANDON, A.MC_CAP_CTRL .a, A.ICE_STAT, A.ICE_ERR, A.ICE_CNT,
      A.PGL_ERR, A.PGL_CH_RESID 0]) a
  | .windowLineFill | .iceCntClr =>
      named [A.ICE_CNT] a
  | .release =>
      named (faultRegs ++ safeRegs ++ [A.HB_LOCKS, A.HB_ABANDON, A.MC_CAP_CTRL .a, A.ICE_CTRL, A.ICE_STAT, A.ICE_ERR,
      A.ICE_CNT, A.PGL_ERR, A.PGL_CH_RESID 0]) a
  | .portRetake .. =>
      named [A.ICE_CFG, A.ICE_SIZE, A.ICE_CTRL, A.ICE_STAT] a
  | .trig .. =>
      named [A.PGL_STAT, A.PGL_CH_STAT 0, A.PGL_CH_CUR 0, A.PGL_CH_CNT 0] a
  | .descriptorFetch .. | .burstDone .. | .descriptorComplete .. | .abort .. =>
      named (faultRegs ++ safeRegs ++ [A.GH_SECT_UPD, A.GH_SECT_STATUS, A.HB_ECC, A.HB_ECC_ADDR, A.MC_CAP_CTRL .a,
      A.PGL_ERR, A.PGL_RING_WR, A.PGL_CNT, A.PGL_CH_RESID 0]) a
  | .creditWindow =>
      named [A.PGL_CH_CFG 0] a
  | .ringRdWrite .. =>
      named (faultRegs ++ safeRegs ++ [A.GH_SECT_UPD, A.GH_SECT_STATUS, A.HB_ECC, A.HB_ECC_ADDR, A.MC_CAP_CTRL .a,
      A.PGL_ERR, A.PGL_RING_WR, A.PGL_RING_RD, A.PGL_CNT, A.PGL_CH_RESID 0]) a
  | .busError .. =>
      named (faultRegs ++ [A.MC_CAP_CTRL .a, A.PGL_ERR, A.PGL_CH_RESID 0]) a
  | .pglReset .. =>
      named (eventRegs ++ [A.LDG_CAUSE 0, A.PGL_ERR]) a
  | .sarCheck .. | .dsPath .. | .sdLoop .. | .ofsCal .. | .ofsAxis .. =>
      named (eventRegs ++ [A.STC_TSTAT 0]) a
  | .trim .. =>
      named (eventRegs ++ [A.TR_DS_STAT .a, A.TR_CSC_STAT .a, A.STC_TSTAT 0]) a
  | .queuedTestStart .. =>
      named [A.TR_DS_STAT .a, A.TR_CSC_STAT .a, A.STC_TSTAT 0] a
  | .testDone .. =>
      named (faultRegs ++ safeRegs ++ [A.SNS_CAL 0, A.STC_TRIM .a]) a
  | .stcCancel .. =>
      named (eventRegs ++ [A.TR_DS_STAT .a, A.TR_CSC_STAT .a, A.STC_SCRUB_STAT, A.STC_TSTAT 0]) a
  | .trimWrite .. =>
      named [A.STC_TRIM .a] a
  | .calWrite .. =>
      named [A.SNS_CAL 0] a
  | .gateSensedOff .. =>
      named [A.LDG_CAUSE 0, A.TR_DS_STAT .a, A.TR_CSC_STAT .a] a

/-- Beside those parts and registers two states are the same. -/
def Instr.keeps (c : Instr) (s t : State) : Prop :=
  (∀ p, p ∉ c.parts → p.same s t) ∧ ∀ a, c.mayWrite a = false → t.rd a = s.rd a

end Sys2Proof
end

