-- ==== Sys2Proof/WellFormed.lean ====
section
/-! DEFINITION. Which operands of a command name something the block has: kiosks, comparators, channels, actions, slots. A command that
names nothing is no occurrence (log entry 2). -/

namespace Sys2Proof

open Sys2Proof.Machine

/-- Every operand of the command names something the block has. -/
def Instr.wf (i : Instr) : Bool :=
  match i with
  | .porExit bootsel => decide (bootsel < 4)
  | .supplyBrownout _ => true
  | .resetPin _ bootsel => decide (bootsel < 4)
  | .resetPinRelease bootsel => decide (bootsel < 4)
  | .soft _ bootsel => decide (bootsel < 4)
  | .reboot _ bootsel => decide (bootsel < 4)
  | .tmodeHigh _ bootsel => decide (bootsel < 4)
  | .pllLock => true
  | .bootSequence reads _ _ _ => reads.all (fun r => r.addr < 128)
  | .hostLoadGo _ _ => true
  | .sectUpd _ => true
  | .sectionSwap _ => true
  | .floorAdv _ _ => true
  | .ownWrite _ _ => true
  | .sampleInstant _ _ _ _ => true
  | .updateInstant _ _ => true
  | .valleyOrWrap _ _ => true
  | .compareSetArrival _ _ _ _ _ _ => true
  | .edgeCommand _ _ _ => true
  | .periodWrite _ _ => true
  | .pwmCtrlWrite _ _ => true
  | .referenceClockLost => true
  | .ppsPulse _ => true
  | .ppsTimeout => true
  | .sunCtrlWrite _ => true
  | .setGo => true
  | .snap => true
  | .sunCntClr => true
  | .armAction n _ => decide (n < 8)
  | .cancelAction n _ => decide (n < 8)
  | .actionFired n => decide (n < 8)
  | .graphTrigger => true
  | .sourceDelivery owner n => decide (owner < 4) && decide (n < 32)
  | .taskDispatch k => decide (k < 24)
  | .stealAttempt k lost => decide (k < 24) && lost.all (· < 24)
  | .taskComplete k => decide (k < 24)
  | .taskOverrun k _ => decide (k < 24)
  | .lockWaitTimeout k _ => decide (k < 24)
  | .mov k _ _ _ => decide (k < 24)
  | .add k _ _ _ => decide (k < 24)
  | .sub k _ _ _ => decide (k < 24)
  | .mul k _ _ _ => decide (k < 24)
  | .mac k _ _ _ _ => decide (k < 24)
  | .div k _ _ _ => decide (k < 24)
  | .sqrt k _ _ => decide (k < 24)
  | .abs k _ _ => decide (k < 24)
  | .min2 k _ _ _ => decide (k < 24)
  | .max2 k _ _ _ => decide (k < 24)
  | .lim k _ _ _ _ => decide (k < 24)
  | .sincos k _ _ _ => decide (k < 24)
  | .atan2 k _ _ _ => decide (k < 24)
  | .wrap k _ _ => decide (k < 24)
  | .cmp k _ _ _ _ => decide (k < 24)
  | .sel k _ _ _ _ => decide (k < 24)
  | .lpf1 k _ _ _ _ => decide (k < 24)
  | .biquad k _ _ _ _ => decide (k < 24)
  | .rate k _ _ _ _ => decide (k < 24)
  | .integ k _ _ _ _ => decide (k < 24)
  | .c2p2z k _ _ _ _ _ => decide (k < 24)
  | .c3p3z k _ _ _ _ _ => decide (k < 24)
  | .minsel k _ _ _ _ _ => decide (k < 24)
  | .clarke k _ _ _ _ => decide (k < 24)
  | .park k _ _ _ => decide (k < 24)
  | .ipark k _ _ _ => decide (k < 24)
  | .svm k _ _ _ _ => decide (k < 24)
  | .dtcomp k _ _ _ _ => decide (k < 24)
  | .bemf k _ _ _ _ => decide (k < 24)
  | .pll k _ _ _ => decide (k < 24)
  | .hfi k _ _ _ _ => decide (k < 24)
  | .flux k _ _ _ _ => decide (k < 24)
  | .blend k _ _ _ _ => decide (k < 24)
  | .model k _ _ _ _ => decide (k < 24)
  | .lut k _ _ _ => decide (k < 24)
  | .smstep k _ _ _ => decide (k < 24)
  | .timer k _ _ _ => decide (k < 24)
  | .blkcpy k _ _ _ _ => decide (k < 24)
  | .event k _ => decide (k < 24)
  | .pgltrig k _ => decide (k < 24)
  | .acq k _ => decide (k < 24)
  | .rel k _ => decide (k < 24)
  | .paceGate counts => decide (counts.length = 4)
  | .hbCntClr _ => true
  | .sarConversionEnd m _ _ => decide (m < 2)
  | .backgroundConversion m _ _ _ _ => decide (m < 2)
  | .sinc2Result i _ => decide (i < 8)
  | .sinc3Settled i _ => decide (i < 8)
  | .sigmaDeltaInputStuck i _ => decide (i < 8)
  | .sdclkWrite _ => true
  | .snsCntClr _ => true
  | .comparatorTrip n _ _ _ => decide (n < 12)
  | .comparatorClear n _ _ _ => decide (n < 12)
  | .hahCntClr _ => true
  | .hallCodeAccept _ lines _ => decide (lines < 8)
  | .encoderStep _ _ _ _ => true
  | .encoderZ _ _ _ => true
  | .arm _ _ => true
  | .start _ _ => true
  | .stop _ _ => true
  | .coast _ _ => true
  | .clear _ _ => true
  | .axisEvaluate _ => true
  | .armTimeout _ _ => true
  | .bootstrapsReady _ => true
  | .limitTimeExpiry _ reason _ => decide (1 ≤ reason) && decide (reason ≤ 8)
  | .stopComplete _ _ => true
  | .stopTimeout _ _ => true
  | .holdTimeElapsed _ _ => true
  | .reversalRestart _ _ => true
  | .positionLossTimeout _ _ => true
  | .runtimeSecond _ _ => true
  | .modeWrite _ _ => true
  | .setPointWrite _ _ _ => true
  | .mcCntClr _ _ => true
  | .alignComplete _ _ => true
  | .injectionAlignComplete _ _ _ _ => true
  | .polarityPulseEnd _ _ _ _ => true
  | .handover _ _ => true
  | .startTimeout _ _ => true
  | .suspectTimeout _ _ => true
  | .rotorReacquired _ => true
  | .rotorLost _ _ => true
  | .extrapClearTimeout _ _ => true
  | .stall _ _ => true
  | .flyingRestartProbe _ _ _ => true
  | .flyRetry _ _ => true
  | .identificationTestEnd _ outcome _ _ _ => decide (2 ≤ outcome) && decide (outcome ≤ 4)
  | .blvCtrlWrite _ _ => true
  | .swapRequest _ _ => true
  | .compensatorSwap _ => true
  | .loopEnableWrite _ _ _ => true
  | .home _ => true
  | .posSetWrite _ _ _ => true
  | .spLoopRelease _ => true
  | .folStart _ => true
  | .injectionBegin _ => true
  | .injectionEnded _ why => decide (why < 8)
  | .folCancel _ => true
  | .captureArm _ => true
  | .captureTrigger _ => true
  | .captureFrame _ => true
  | .captureBlockDescriptor _ => true
  | .captureCancel _ => true
  | .captureComplete _ => true
  | .linkFrame _ _ => true
  | .idleFrame _ _ => true
  | .dieLinkLost _ _ => true
  | .transitionMeasured _ p _ _ _ _ _ => decide (p < 3)
  | .edgesDelivery _ => true
  | .strengthWrite _ p _ => decide (p < 3)
  | .strLimWrite _ _ => true
  | .interlock _ leg => decide (leg < 3)
  | .gateOffNotSensed _ ch _ => decide (ch < 6)
  | .bootstrapUndervoltage _ p _ => decide (p < 3)
  | .bootstrapLockoutRelease _ p _ => decide (p < 3)
  | .prechargePulse _ _ => true
  | .extWrite _ _ => true
  | .cmdPinAccept _ ch _ _ => decide (ch < 7)
  | .trxCntClr _ _ => true
  | .driverSupplyUndervoltage _ _ => true
  | .driverSupplyRelease _ _ => true
  | .torqueOff _ _ => true
  | .torqueOffRelease _ => true
  | .desaturation _ m _ _ _ => decide (m < 128)
  | .turnOnShort _ ch _ _ => decide (ch < 7)
  | .safeStateApply _ => true
  | .softOffTimeout _ _ => true
  | .ascExit _ _ _ => true
  | .retryDecision _ _ _ => true
  | .brakeOvercurrent _ _ => true
  | .brakeChopperShorted _ _ => true
  | .brakeChopperOpen _ _ _ _ _ _ _ _ => true
  | .busOvervoltageSignal _ _ => true
  | .protClr _ _ => true
  | .statusClear k _ => decide (k < 6)
  | .evtPendClear k _ => decide (k < 4)
  | .logClr _ => true
  | .routeWrite n _ => decide (n < 128)
  | .temperatureSample _ => true
  | .throttleEnforced => true
  | .enfNow => true
  | .riseRateUpdate => true
  | .driverEstimateWindow _ => true
  | .thermalShutdown => true
  | .thermalRestart bootsel => decide (bootsel < 4)
  | .grottoReverify reads => reads.all (fun r => r.addr < 128)
  | .blow _ => true
  | .commit _ => true
  | .flush _ => true
  | .sealKey _ => true
  | .readRaw reads => reads.all (fun r => r.addr < 128)
  | .badOp => true
  | .nop _ => true
  | .read _ _ => true
  | .write _ _ => true
  | .reservedOpcode _ => true
  | .registerWrite a _ => decide (a % 4 = 0)
  | .replyReady => true
  | .wktLenWrite _ => true
  | .hltWrite _ => true
  | .wktCntClr => true
  | .hostLost _ => true
  | .flashTransactionEnd _ _ => true
  | .windowMiss k _ _ => decide (k < 24)
  | .windowLineFill => true
  | .apertureRead n => decide (n < 16)
  | .release => true
  | .portRetake _ => true
  | .inv => true
  | .iceCntClr => true
  | .trig n => decide (n < 16)
  | .descriptorFetch n => decide (n < 16)
  | .creditWindow => true
  | .burstGrant n _ => decide (n < 16)
  | .burstDone n => decide (n < 16)
  | .descriptorComplete n => decide (n < 16)
  | .ringRdWrite _ => true
  | .abort n => decide (n < 16)
  | .busError kind ch _ => decide (1 ≤ kind) && decide (kind ≤ 3) && ch.all (· < 16)
  | .pglReset _ => true
  | .chnCfgWrite n _ => decide (n < 16)
  | .sarCheck _ _ _ _ => true
  | .scrub _ => true
  | .dsPath _ ds mon => ds.length == 7 && mon.length == 6
  | .sdLoop _ pat land => pat.length == 4 && land.length == 4
  | .ofsCal _ _ _ _ _ _ => true
  | .ofsAxis _ _ => true
  | .trim _ _ _ _ _ => true
  | .queuedTestStart k => decide (k < 11)
  | .testDone k => decide (k < 11)
  | .stcCancel _ => true
  | .backgroundTestRepeat k _ _ _ _ _ _ => decide (k < 2)
  | .trimWrite _ _ => true
  | .calWrite n _ => decide (n < 10)
  | .gateSensedOff _ ch => decide (ch < 7)

end Sys2Proof
end

