-- ==== Sys2Proof/Certificates/Slice0/Obligations.lean ====
section
/-! DEFINITION. The statements for the provers (OBLIGATIONS.json). -/

open Sys2Proof Sys2Proof.Machine

/-! ### The whole block -/

/-- A step with command c at the front of the queue is exec of c on the state with the queue's rest. On an empty queue one clock
of the Sundial passes (the model's choice, log entry 3): while the PLL runs, the counter advances by 1 + RATE through the 32-bit
fraction (R203), and where no armed action slot is due at the new count (R211) and no gate's dead time or separation (R182) and
no part of a refresh pulse (R459) ends, and no brake switch that may be on is still off (R651), nothing beside the Sundial,
SUN.DRIFT and the counter of free values changes. While the PLL does not run nothing changes. -/
def Obligations.StepRunsTheCommandAtTheFront : Prop :=
  (∀ (c : Instr) (r : List Instr) (s : State), step { s with pending := c :: r } = exec c { s with pending := r }) ∧
  ∀ s : State, s.pending = [] → ∃ t, step s = .next t ∧
    (s.sun.pll = false → t = s) ∧
    let cnt := s.sun.cnt + BitVec.ofInt 64 (1 + ((s.sun.frac : Int) + s.sfld F.SUN_RATE) / 4294967296)
    (s.sun.pll = true → (∀ n, n < 8 → s.flag (F.SUN_ACT_CTRL_ARM n) = false ∨ cnt.toNat < (s.act n).1) →
      (∀ x w, w ∈ (s.tr x).wait ++ (s.tr x).gap → w = 0 ∨ s.subTicks + 16 < w) →
      (∀ x, s.mayBeOn x 6 = true → bit (s.tr x).gates 6 = true) →
      (∀ x l, l ∈ (s.tr x).ref → ∀ e, e ∈ l → s.subTicks + 16 < e.1) →
      t.sun.cnt = cnt ∧ (∀ a, a ≠ A.SUN_DRIFT → t.rd a = s.rd a) ∧ ∀ p, p ≠ .sun → p ≠ .free → Part.same p s t)

/-- From every state each of the 234 commands (constructors of Instr), an operator, a register write such as sunCtrlWrite, setGo
or snap, or an event, answers a next state: none stops the block. That state differs from the one before only in the parts
(Instr.parts) and the registers (Instr.mayWrite) that the rules of the command reach; every other part, every other register and
the queue are as before. A part is left or kept as a whole: the frame says nothing of memory for a command whose parts name it,
nor of which of an axis's or a die's fields moves; the statements of the families give the addresses and the fields. -/
def Obligations.EveryCommandCompletesInItsFrame : Prop :=
  ∀ (c : Instr) (s : State), ∃ t, exec c s = .next t ∧ c.keeps s t ∧ t.pending = s.pending

/-- Invariant of the model: in a state whose stores (active registers, shadow copies, memory bytes) are canonical (addresses
strictly rising, no entry equal to what an unlisted address reads as), every step answers a next state, and its stores are
canonical again. -/
def Obligations.EveryStepKeepsTheStoresCanonical : Prop :=
  ∀ s : State, s.Wf = true → ∃ t, step s = .next t ∧ t.Wf = true

/-- R72, table 3.3, table 0.5: right after a power-on reset the die is held in reset, GH.IDENT reads 0x2412_5DA1 (R2),
GH.RST_CAUSE holds POR alone (R96, table 3.8), memory reads zero everywhere, the Sundial counter and the fault log are zero, no
image is applied, no command waits, every register reads its reset value, and the stores are canonical. (The POR value of a
field that the boot gives, taken as 0, is the model's choice: log entry 4.) -/
def Obligations.ResetLeavesTheStatedValues : Prop :=
  State.reset.Wf = true ∧ State.reset.die = .por ∧ State.reset.pending = [] ∧ State.reset.rd A.GH_IDENT = 0x24125DA1#32 ∧
  State.reset.rd A.GH_RST_CAUSE = 1#32 ∧ (∀ a, State.reset.byte a = 0) ∧ State.reset.sun.cnt = 0 ∧
  (∀ n, State.reset.rd (A.LDG_LOG n) = 0) ∧ State.reset.rd A.LDG_LOG_STAT = 0 ∧ State.reset.img = Img.none ∧
  ∀ a, State.reset.rd a = regPor a

/-! ### Resets, boot and image -/

/-- R68, R69, R70, R71, R72, R95, table 3.3: RESET_N low for 1 µs or longer with the die out of reset, a keyed write of SOFT or
REBOOT that R70 does not refuse, and a thermal restart each leave the state of table 3.3 (State.warmOf). The reset of RESET_N
lasts while the land is low; after each other the boot begins with BOOTSEL latched. A pulse of 100 ns to 1 µs is a whole warm
reset or nothing (freely: log entry 1), and a shorter one changes nothing. TRx.VBS reads its reset value 0 in every field. A low
ASC that a die only has due goes (the model's choice, log entry 77). -/
def Obligations.WarmResetsLeaveTable33 : Prop :=
  ∀ (s : State) (w : Word) (ns b : Nat), s.Wf = true →
    (1000 ≤ ns → s.die = .up → ∃ t, exec (.resetPin ns b) s = .next t ∧ s.warmOf t ∧ t.die = .pinReset ∧ t.pins.resetN = false) ∧
    (100 ≤ ns → ns < 1000 → s.die = .up → ∃ t, exec (.resetPin ns b) s = .next t ∧
      (t = { s with free := t.free } ∨ s.warmOf t ∧ t.bootsWith b)) ∧
    (ns < 100 → exec (.resetPin ns b) s = .next s) ∧
    (s.rstTaken w = true → fieldOf F.GH_RST_CTRL_SOFT w = 1 →
      ∃ t, exec (.soft w b) s = .next t ∧ s.warmOf t ∧ t.bootsWith b) ∧
    (s.rstTaken w = true → fieldOf F.GH_RST_CTRL_REBOOT w = 1 →
      ∃ t, exec (.reboot w b) s = .next t ∧ s.warmOf t ∧ t.bootsWith b) ∧
    (s.die = .thermal → ∃ t, exec (.thermalRestart b) s = .next t ∧ s.warmOf t ∧ t.bootsWith b)

/-- R96, table 3.8: after a reset by RESET_N, a software reset, a reboot request (recorded too where both bits are written as 1)
and a thermal restart, the bit of that cause is 1, every other cause bit is as it was, and WARM_COUNT is one more, saturating at
255. -/
def Obligations.WarmResetAddsItsCause : Prop :=
  ∀ (s : State) (w : Word) (ns b : Nat), s.Wf = true →
    (1000 ≤ ns → s.die = .up → ∃ t, exec (.resetPin ns b) s = .next t ∧ s.causeAdded t F.GH_RST_CAUSE_PIN) ∧
    (s.rstTaken w = true → fieldOf F.GH_RST_CTRL_SOFT w = 1 → ∃ t, exec (.soft w b) s = .next t ∧
      s.causeAdded t (if fieldOf F.GH_RST_CTRL_REBOOT w = 1 then F.GH_RST_CAUSE_REBOOT else F.GH_RST_CAUSE_SOFT)) ∧
    (s.rstTaken w = true → fieldOf F.GH_RST_CTRL_REBOOT w = 1 →
      ∃ t, exec (.reboot w b) s = .next t ∧ s.causeAdded t F.GH_RST_CAUSE_REBOOT) ∧
    (s.die = .thermal → ∃ t, exec (.thermalRestart b) s = .next t ∧ s.causeAdded t F.GH_RST_CAUSE_THERMAL)

/-- R70: while a bridge of either axis is enabled, a keyed write of SOFT or REBOOT with FORCE = 0 has no effect, and the next
reply carries REFUSED_RUNNING (its only trace, the flag noted for the reply). With FORCE = 1 it resets the die. -/
def Obligations.ResetIsRefusedWhileABridgeIsEnabled : Prop :=
  ∀ (s : State) (w : Word) (b : Nat) (c : Instr), s.rstOpen = true → s.anyBridge = true →
    fieldOf F.GH_RST_CTRL_KEY w = 0xC35A →
    (c = .soft w b ∧ fieldOf F.GH_RST_CTRL_SOFT w = 1 ∨ c = .reboot w b ∧ fieldOf F.GH_RST_CTRL_REBOOT w = 1) →
    (fieldOf F.GH_RST_CTRL_FORCE w = 0 → ∃ t, exec c s = .next t ∧ t = { s with reply := t.reply } ∧ bit t.reply rfRunning = true) ∧
    (fieldOf F.GH_RST_CTRL_FORCE w = 1 → ∃ t, exec c s = .next t ∧ t.bootsWith b)

/-- R65, R66, R68, R43, R72, R74, R173: when the supplies have risen the die leaves POR if RESET_N is high and TMODE low, with
BOOTSEL latched, and else waits for RESET_N. A supply below its threshold for more than 1 µs is a power-on reset: every register
at its reset value but for a low ASC that a Trellis die holds (TRx.SAFE_STAT), all memory zero, the Sundial at zero; below 0.2
µs it is ignored, and in between either of the two happens (R66; log entry 1). R69: so does a RESET_N pulse of 100 ns to 1 µs on
a die that is up, with the whole warm reset and the boot, or nothing. RESET_N rising lets a die that it holds go. TMODE high
holds the die in reset with both Trellis dies off. TMODE low lets a die that it holds go, into the boot or to RESET_N, and
changes no other die (the model's choice, log entry 38: the manual states no exit). PLL_LOCK of a die that is up marks the PLL
locked and ends the cause of code 33; of one in reset it does nothing. -/
def Obligations.SuppliesAndLandsHoldAndReleaseTheDie : Prop :=
  ∀ (s : State) (ns b : Nat),
    let por (t : State) : Prop := t.die = .por ∧ (∀ a, t.byte a = 0) ∧ t.sun = Sun.reset ∧
      ∀ a, a ∉ [A.TR_SAFE_STAT .a, A.TR_SAFE_STAT .b] → t.rd a = regPor a
    (s.die = .por → s.pins.tmode = false → s.pins.resetN = true → ∃ t, exec (.porExit b) s = .next t ∧ t.isUp = true ∧
      t.fld F.GH_BOOT_STATUS_BOOTSEL = b % 4 ∧ s.onlyRegs [A.GH_BOOT_STATUS] { t with die := s.die, pins := s.pins }) ∧
    (s.die = .por → s.pins.tmode = false → s.pins.resetN = false → ∃ t, exec (.porExit b) s = .next t ∧ t.die = .pinReset) ∧
    (1000 < ns → ∃ t, exec (.supplyBrownout ns) s = .next t ∧ por t) ∧
    (200 ≤ ns → ns ≤ 1000 → ∃ t, exec (.supplyBrownout ns) s = .next t ∧ (t = { s with free := t.free } ∨ por t)) ∧
    (100 ≤ ns → ns < 1000 → s.die = .up → ∃ t, exec (.resetPin ns b) s = .next t ∧
      (t = { s with free := t.free } ∨ t.fld F.GH_RST_CAUSE_PIN = 1 ∧ t.bootsWith b)) ∧
    (ns < 200 → exec (.supplyBrownout ns) s = .next s) ∧
    (s.die = .pinReset → s.pins.tmode = false → ∃ t, exec (.resetPinRelease b) s = .next t ∧ t.isUp = true ∧
      t.pins.resetN = true ∧ t.fld F.GH_BOOT_STATUS_BOOTSEL = b % 4) ∧
    (s.die = .up → ∃ t, exec (.tmodeHigh true b) s = .next t ∧ t.die = .tmode ∧ t.pins.tmode = true ∧
      ∀ x c, c < 7 → bit (t.tr x).gates c = false) ∧
    (s.die = .tmode → ∃ t, exec (.tmodeHigh false b) s = .next t ∧ t.pins.tmode = false ∧
      if s.pins.resetN then t.isUp = true ∧ t.fld F.GH_BOOT_STATUS_BOOTSEL = b % 4 else t.die = .pinReset) ∧
    (s.die ≠ .tmode → ∃ t, exec (.tmodeHigh false b) s = .next t ∧ t.pins.tmode = false ∧ t.die = s.die) ∧
    (s.isUp = true → ∃ t, exec .pllLock s = .next t ∧
      t.sun = { s.sun with pll := true } ∧ t.cause 0 33 = false ∧ s.onlyRegs [(causeFld 0 33).reg] { t with sun := s.sun }) ∧
    (s.isUp = false → exec .pllLock s = .next s)

/-- R75, R77, R80, R82, R83, R90, table 3.4: once the PLL is locked and the first temperature sample taken, the boot reads the
Grotto, selects the slot and loads by the mode. Mode 11 fails with MODE_RESERVED and mode 01 waits for the host. In modes 00 and
10, two attempts without a valid header or a LENGTH beyond the density fail with FLASH_NO_RESPONSE; an image that the first try
with a valid header returns whole is applied and runs where every check passes, and else fails with the RESULT of the first
failing check. Each failure enters the state of R90, with FALLBACK in mode 10. -/
def Obligations.BootFollowsItsModeAndItsImage : Prop :=
  ∀ (s : State) (reads : List GrtRead) (t1 t2 : FlashTry) (us : Nat), s.isUp = true → s.fld F.GH_BOOT_STATUS_STATE = 0 →
    s.sun.pll = true → s.org.first = false → ∃ t, exec (.bootSequence reads t1 t2 us) s = .next t ∧
    (s.fld F.GH_BOOT_STATUS_BOOTSEL = 3 → t.loadFailed 9) ∧
    (s.fld F.GH_BOOT_STATUS_BOOTSEL = 1 → t.loadFailed (s.fld F.GH_BOOT_STATUS_RESULT)) ∧
    ((s.fld F.GH_BOOT_STATUS_BOOTSEL = 0 ∨ s.fld F.GH_BOOT_STATUS_BOOTSEL = 2) →
      (t1.headerOk = false → t2.headerOk = false →
        t.loadFailed 2 ∧ (s.fld F.GH_BOOT_STATUS_BOOTSEL = 2 → t.fld F.GH_BOOT_STATUS_FALLBACK = 1)) ∧
      (let b := (((s.bootGrotto reads).bootSlot).wr A.GH_LOAD_DETAIL 0).probe t1.id
       ∀ (v : State) (u : FlashTry), (t1.headerOk = true ∧ u = t1 ∧ v = b ∨
          t1.headerOk = false ∧ t2.headerOk = true ∧ u = t2 ∧ v = (b.tryCount t1 64).probe t2.id) → u.failAt = none →
        let n := imgLength (u.data 64)
        if v.fld F.ICE_SIZE_BYTES ≠ 0 ∧ v.fld F.ICE_SIZE_BYTES < n then t.loadFailed 2
        else match (v.tryCount u n).applyImage (u.data n) false with
          | .inl _ => t.runsImage false us
          | .inr (r, _) => t.loadFailed r ∧ (s.fld F.GH_BOOT_STATUS_BOOTSEL = 2 → t.fld F.GH_BOOT_STATUS_FALLBACK = 1)))

/-- R78, R79, R82, R91: a write of GH.HOST_LOAD.GO in WAIT_HOST fails with HOST_LENGTH_BAD where LEN is 0 or above 0x18_0000.
Where the check bits of shared SRAM are good, it fails so too where SRAM from 0 holds no valid header or a header of another
LENGTH, and else the image that stands there runs where every check passes, or fails with the RESULT of the first failing check.
A failure returns to the state of R90 and raises "host request done" (E82). -/
def Obligations.HostLoadAppliesOrRefusesTheImage : Prop :=
  ∀ (s : State) (w : Word) (us : Nat), s.isUp = true → s.fld F.GH_BOOT_STATUS_STATE = 2 → fieldOf F.GH_HOST_LOAD_GO w = 1 →
    let n := fieldOf F.GH_HOST_LOAD_LEN w
    ∃ t, exec (.hostLoadGo w us) s = .next t ∧
      (n = 0 ∨ 0x180000 < n → t.loadFailed 8 ∧ t.pend 82 = true) ∧
      (0 < n → n ≤ 0x180000 → s.ecc1 = [] → s.ecc2 = [] →
        if headerOk (s.bytes 0 n) = false ∨ imgLength (s.bytes 0 n) ≠ n then t.loadFailed 8 ∧ t.pend 82 = true
        else match ((s.set F.GH_HOST_LOAD_LEN n).wr A.GH_LOAD_DETAIL 0).applyImage (s.bytes 0 n) true with
          | .inl _ => t.runsImage true us
          | .inr (r, _) => t.loadFailed r ∧ t.pend 82 = true)

/-- R121: a write of GH.SECT_UPD with GO = 1 while BUSY is 1 is ignored and reports BUSY_REFUSED; one naming a section that is
not a runtime section, or an index at or beyond NSECT, changes nothing but the reporting registers and reports NOT_RUNTIME. -/
def Obligations.SectionUpdateRefusalsReport : Prop :=
  ∀ (s : State) (w : Word), s.isRunning = true → fieldOf F.GH_SECT_UPD_GO w = 1 →
    (s.fld F.GH_SECT_STATUS_BUSY = 1 → ∃ t, exec (.sectUpd w) s = .next t ∧ s.onlyRegs [A.GH_SECT_STATUS] t ∧
      t.fld F.GH_SECT_STATUS_RESULT = 2 ∧ t.fld F.GH_SECT_STATUS_BUSY = 1) ∧
    (s.fld F.GH_SECT_STATUS_BUSY = 0 →
      (∀ c, s.img.sects[fieldOf F.GH_SECT_UPD_SECT w]? = some c → c.isRuntime = false) →
      ∃ t, exec (.sectUpd w) s = .next t ∧ s.onlyRegs [A.GH_SECT_UPD, A.GH_SECT_STATUS] t ∧
        t.fld F.GH_SECT_STATUS_RESULT = 3 ∧ t.fld F.GH_SECT_STATUS_BUSY = 0)

/-- R26, R117, R118, R119: with good check bits in shared SRAM, a staged body of a runtime section that breaks R118 changes no
section and no memory and reports its code and record. An accepted one is copied into the inactive copy: with the owner's
timebase running BUSY stays 1 until SECTION_SWAP; with it stopped, and for a device-owned section, the copy is active at once.
SECTION_SWAP at a sample instant of the owner makes the copy active, clears BUSY and reports DONE with E82, and does nothing
while no update of that axis waits. -/
def Obligations.SectionUpdateChecksCopiesAndSwaps : Prop :=
  ∀ (s : State), s.isRunning = true →
    (∀ (w : Word) (c : Sect), fieldOf F.GH_SECT_UPD_GO w = 1 → s.fld F.GH_SECT_STATUS_BUSY = 0 → s.ecc1 = [] → s.ecc2 = [] →
      s.img.sects[fieldOf F.GH_SECT_UPD_SECT w]? = some c → c.isRuntime = true →
      ∃ t, exec (.sectUpd w) s = .next t ∧
        match stageFail c.typ (s.bytes c.base c.len) (s.bytes s.img.stageBase c.len) with
        | some (r, i) => t.img = s.img ∧ t.mem = s.mem ∧ t.fld F.GH_SECT_STATUS_RESULT = r % 16 ∧
            t.fld F.GH_SECT_STATUS_ITEM = i % 65536 ∧ t.pend 82 = true
        | none =>
          if c.axis.any (fun x => s.flag (F.PW_CTRL_EN x)) then
            t.img = s.img ∧ t.fld F.GH_SECT_STATUS_BUSY = 1 ∧ t.bytes c.spare c.len = s.bytes s.img.stageBase c.len
          else t.img.sects[fieldOf F.GH_SECT_UPD_SECT w]? = some { c with copy1 := !c.copy1 } ∧
            t.fld F.GH_SECT_STATUS_BUSY = 0 ∧ t.fld F.GH_SECT_STATUS_RESULT = 1 ∧ t.pend 82 = true) ∧
    ∀ (x : Axis), (s.sectWaits x = false → exec (.sectionSwap x) s = .next s) ∧
      (s.sectWaits x = true → ∃ t c, exec (.sectionSwap x) s = .next t ∧
        s.img.sects[s.fld F.GH_SECT_STATUS_SECT]? = some c ∧
        t.img.sects[s.fld F.GH_SECT_STATUS_SECT]? = some { c with copy1 := !c.copy1 } ∧
        t.fld F.GH_SECT_STATUS_BUSY = 0 ∧ t.fld F.GH_SECT_STATUS_RESULT = 1 ∧ t.pend 82 = true)

/-! ### The Grotto -/

/-- R561, R551, R560, R559, R550, R566, table 17.7: an operation of GRT.PROG that reaches its turn while a bridge is enabled
ends with REFUSED_RUNNING; else a BLOW into protected words, or of REQUIRE_ENCRYPTION without a valid key, ends with PROTECTED,
a COMMIT with slot 3 in use with SLOTS_FULL, a SEAL_KEY with a bit of KEY_VALID set with NOT_EMPTY, and an OP without a meaning
with BAD_OP. No cell changes, and E101 is raised. READ_RAW runs whatever the bridges do (R567): it reads the word as its cells
conduct now, of a key word only the mask of weak bits, and blows nothing. -/
def Obligations.GrottoOperationsAreRefusedAsStated : Prop :=
  ∀ (s : State) (out : List Pulse) (r : GrtReq),
    (s.anyBridge = true →
      (s.grtWaits 1 r → ∃ t, exec (.blow out) s = .next t ∧ s.grtEnded t 2 ∧ s.cellsSame t) ∧
      (s.grtWaits 2 r → ∃ t, exec (.commit out) s = .next t ∧ s.grtEnded t 2 ∧ s.cellsSame t) ∧
      (s.grtWaits 3 r → ∃ t, exec (.flush out) s = .next t ∧ s.grtEnded t 2 ∧ s.cellsSame t) ∧
      (s.grtWaits 4 r → ∃ t, exec (.sealKey out) s = .next t ∧ s.grtEnded t 2 ∧ s.cellsSame t)) ∧
    (s.anyBridge = false →
      (s.grtWaits 1 r → s.blowProtected r.addr r.mask = true → ∃ t, exec (.blow out) s = .next t ∧ s.grtEnded t 6 ∧ s.cellsSame t) ∧
      (s.grtWaits 2 r → commitTarget s.used = none → ∃ t, exec (.commit out) s = .next t ∧ s.grtEnded t 7 ∧ s.cellsSame t) ∧
      (s.grtWaits 4 r → s.used 8 ≠ 0 → ∃ t, exec (.sealKey out) s = .next t ∧ s.grtEnded t 8 ∧ s.cellsSame t)) ∧
    (∀ q, s.grtOpen = true → s.otp.queue = r :: q → r.src = 0 → r.op = 0 ∨ r.op = 6 ∨ r.op = 7 →
      ∃ t, exec .badOp s = .next t ∧ s.grtEnded t 9 ∧ s.cellsSame t) ∧
    (s.grtWaits 5 r → ∀ reads, let u := s.otpRead reads
      ∃ t, exec (.readRaw reads) s = .next t ∧ s.grtEnded t 1 ∧ u.cellsSame t ∧
      (List.range 4).map (fun n => t.rd (A.GRT_RAW n)) =
        if r.addr < 8 then [u.weakBits r.addr, 0, 0, 0]
        else [u.cell 0 false r.addr, u.cell 1 false r.addr, u.cell 0 true r.addr, u.cell 1 true r.addr])

/-- R564, R560, R559, R550, R554, R566: where every pulse given is neither refused nor aborted and verifies, and there are
enough of them, a BLOW of bits that exist leaves every bit of its mask reading 1 at the tight threshold in both copies; so does
a COMMIT with the live values it took and their commit word in the target slot, and a SEAL_KEY with the check word of the key
words in KEY_VALID; no other word changes. A FLUSH leaves every pending count at 0 with each counter further by it, up to its
last step. Each ends with DONE and E101. -/
def Obligations.GrottoOperationsBlowTheirBits : Prop :=
  ∀ (s : State) (r : GrtReq) (out : List Pulse), s.anyBridge = false → pulsesHold out →
    (s.grtWaits 1 r → s.blowProtected r.addr r.mask = false → r.mask &&& ~~~grtMask r.addr = 0 → 64 ≤ out.length →
      ∃ t, exec (.blow out) s = .next t ∧ s.grtEnded t 1 ∧
        (∀ c, t.cell c true r.addr &&& r.mask = r.mask) ∧ ∀ a, a ≠ r.addr → t.used a = s.used a) ∧
    (∀ n, s.grtWaits 2 r → commitTarget s.used = some n → 1024 ≤ out.length →
      ∃ t, exec (.commit out) s = .next t ∧ s.grtEnded t 1 ∧
        (∀ c e, e ∈ commitWords n r.live → t.cell c true e.1 &&& e.2 = e.2) ∧
        ∀ a, a < 0x40 + 16 * n ∨ 0x50 + 16 * n ≤ a → t.used a = s.used a) ∧
    (s.grtWaits 4 r → s.used 8 = 0 → 64 ≤ out.length →
      ∃ t, exec (.sealKey out) s = .next t ∧ s.grtEnded t 1 ∧
        (∀ c, t.cell c true 8 &&& checkWord (keyWords s.used) = checkWord (keyWords s.used)) ∧ ∀ a, a ≠ 8 → t.used a = s.used a) ∧
    (s.grtWaits 3 r → 2040 ≤ out.length →
      ∃ t, exec (.flush out) s = .next t ∧ s.grtEnded t 1 ∧ ∀ k, 1 ≤ k → k ≤ 4 →
        t.fld (grtPend k) = 0 ∧
        ctrValue t.expected k = min (ctrSteps k) (ctrValue s.expected k + s.fld (grtPend k)))

/-- R124, R125, R126, table 4.15: a keyed write of GH.FLOOR_ADV with no operation in progress and no bridge enabled reports
ZERO_KEY for an image authenticated with the zero key, SATURATED at floor 64 and NOTHING_TO_DO where FLOOR_REQ is not above the
floor, and blows nothing. Else, with pulses that verify, the floor counter reads FLOOR_REQ, STEPS counts the steps blown and
RESULT is DONE. A refused first pulse reports PULSE_REFUSED. GH.IMG_VER.FLOOR stays until the next boot. A write without the
key, or with GO = 0, does nothing while no advance stands requested. -/
def Obligations.FloorAdvanceFollowsR125 : Prop :=
  ∀ (s : State) (w : Word), s.grtOpen = true → s.otp.queue = [] →
    (¬(fieldOf F.GH_FLOOR_ADV_KEY w = 0xA55A ∧ fieldOf F.GH_FLOOR_ADV_GO w = 1) → ∀ out, exec (.floorAdv w out) s = .next s) ∧
    (fieldOf F.GH_FLOOR_ADV_KEY w = 0xA55A → fieldOf F.GH_FLOOR_ADV_GO w = 1 → s.anyBridge = false →
      ∀ out, ∃ t, exec (.floorAdv w out) s = .next t ∧ t.fld F.GH_IMG_VER_FLOOR = s.fld F.GH_IMG_VER_FLOOR ∧
      (s.img.zeroKey = true → t.fld F.GH_FLOOR_ADV_RESULT = 2 ∧ s.cellsSame t ∧ t.pend 82 = true ∧ t.pend 101 = true) ∧
      (s.img.zeroKey = false → ctrValue s.expected 0 = 64 → t.fld F.GH_FLOOR_ADV_RESULT = 6 ∧ s.cellsSame t) ∧
      (s.img.zeroKey = false → ctrValue s.expected 0 ≠ 64 → s.img.floorReq ≤ ctrValue s.expected 0 →
        t.fld F.GH_FLOOR_ADV_RESULT = 3 ∧ s.cellsSame t) ∧
      (s.img.zeroKey = false → ctrValue s.expected 0 < s.img.floorReq → s.img.floorReq ≤ 64 →
        pulsesHold out → 128 ≤ out.length → t.fld F.GH_FLOOR_ADV_RESULT = 1 ∧ ctrValue t.expected 0 = s.img.floorReq ∧
          t.fld F.GH_FLOOR_ADV_STEPS = s.img.floorReq - ctrValue s.expected 0 ∧ t.otp.queue = []) ∧
      (s.img.zeroKey = false → ctrValue s.expected 0 < s.img.floorReq → s.img.floorReq ≤ 64 →
        (∀ c, bit (s.cell c true (0x10 + ctrValue s.expected 0 / 32)).toNat (ctrValue s.expected 0 % 32) = false) →
        (∃ p rest, out = p :: rest ∧ p.refused = true) → t.fld F.GH_FLOOR_ADV_RESULT = 4 ∧ t.fld F.GH_FLOOR_ADV_STEPS = 0 ∧ s.cellsSame t))

/-- R89, R544: a re-verify that is due, once the boot is over and with no operation in progress, ends the request (one that
awaits the first sample instant stays); where a word then holds a weak bit, in RUNNING code 46 is raised with E100; where words
read otherwise than expected that were not reported before, the cause of code 47 is set, in RUNNING its status with E102, and
each such word is remembered. While none is due, or before the boot is over, nothing happens. -/
def Obligations.ReverifyReportsWeakAndDifferingWords : Prop :=
  ∀ (s : State) (reads : List GrtRead),
    (s.booted = false ∨ bit s.otp.verify 1 = false → exec (.grottoReverify reads) s = .next s) ∧
    (s.booted = true → bit s.otp.verify 1 = true → s.otp.queue = [] → ∃ t, exec (.grottoReverify reads) s = .next t ∧
      t.otp.verify = s.otp.verify % 2 ∧ t.fld F.GRT_STAT_BUSY = 0 ∧ (∀ a, t.latched a = s.latched a) ∧
      ((∃ a, a < 128 ∧ t.weakBits a ≠ 0) → if s.isRunning then t.stat 4 46 = true ∧ t.pend 100 = true
        else ∃ h, h ∈ t.held ∧ h.code = 46) ∧
      ∀ a, a < 128 → t.used a ≠ t.expected a → a ∈ t.otp.differ ∧
        (a ∉ s.otp.differ → t.cause 4 47 = true ∧ if s.isRunning then t.stat 4 47 = true ∧ t.pend 102 = true
          else ∃ h, h ∈ t.held ∧ h.code = 47))

/-! ### The axis timebases -/

/-- R15, R16, R181, R184, R163 to R165: at an update instant of a counting timebase, a set whose SIX has been written since the
last one takes effect whole, the run of misses becomes 0 and the cause of "deadline missed" ends. Else CMP and SIX keep their
values, MISSED is set, and the run and the total count one more. Where the bridge is enabled, the cause is not present yet and
the run or the window reaches its limit, code 15 is raised with its cause. Either way the values in force are those of CMP
corrected by R184 (which leaves 0 and H as they are, log entry 13), the next set starts to wait, and one more update instant has
passed. R444: the EDGES entries and LINK_ERR of the interval are complete, and the next ones start empty. A timebase that does
not count has none. -/
def Obligations.UpdateInstantTakesTheSetOrKeepsThePrevious : Prop :=
  ∀ (s : State) (x : Axis) (peak : Bool),
    (s.counts x = false → exec (.updateInstant x peak) s = .next s) ∧
    (s.counts x = true → (peak = true → s.twoUpd x = true) → ∃ t, exec (.updateInstant x peak) s = .next t ∧
      (t.tb x).setOk = false ∧ (t.tb x).upd = (s.tb x).upd + 1 ∧ (t.tb x).down = peak ∧
      (t.tr x).edgesEnd = (s.tr x).edges ∧ (t.tr x).errEnd = (s.tr x).linkErr ∧ (t.tr x).edges = List.replicate 12 0 ∧
      (t.tr x).linkErr = false ∧
      (t.tb x).cur.d = (List.range 3).map (fun p => minPulse (s.fullScale x (s.period x))
        (s.want (F.PW_MINPULSE_TICKS x) * (if s.saw x then 16 else 8))
        (min (s.fullScale x (s.period x)) (t.fld (F.PW_CMP_D x p))) (s.want (F.PW_CTRL_MINP_POL x) == 1)) ∧
      ((s.tb x).setOk = true → (∀ p, p < 3 → t.fld (F.PW_CMP_D x p) = s.want (F.PW_CMP_D x p)) ∧
        t.rd (A.PW_SIX x) = s.rdSh (A.PW_SIX x) ∧ t.fld (F.HB_MISS_RUN x) = 0 ∧ t.cause (scAxis x) 15 = false ∧
        t.fld (F.HB_MISS_TOTAL x) = s.fld (F.HB_MISS_TOTAL x)) ∧
      ((s.tb x).setOk = false → (∀ p, p < 3 → t.rd (A.PW_CMP x p) = s.rd (A.PW_CMP x p)) ∧
        t.rd (A.PW_SIX x) = s.rd (A.PW_SIX x) ∧ t.fld (F.PW_STAT_MISSED x) = 1 ∧
        t.fld (F.HB_MISS_RUN x) = min 15 (s.fld (F.HB_MISS_RUN x) + 1) ∧
        t.fld (F.HB_MISS_TOTAL x) = min 0xFFFF (s.fld (F.HB_MISS_TOTAL x) + 1) ∧
        (s.bridgeOn x = true → s.cause (scAxis x) 15 = false →
          s.fld (missRunFld x) ≤ min 15 (s.fld (F.HB_MISS_RUN x) + 1) ∨
            s.fld (missWinFld x) ≤ (((true :: (s.tb x).win).take 256).filter id).length →
          t.stat (scAxis x) 15 = true ∧ t.cause (scAxis x) 15 = true)))

/-- R181, R26, R162, R180: a set that reaches a running timebase in time waits in the shadow copies for the update instant, with
the values in force untouched; one whose update instant has come is discarded; with the timebase stopped it takes effect at
once. An edge of a counting timebase changes the command state sent to the die; where the compare values arrived so late that
the edge lies within 80 ns (512 sub-ticks) of their arrival, EDGE_DELAYED is set, DELAYED counts each phase's edge and "edge
delayed" is raised, the brake's edge apart; and where the command state stays the same nothing is sent. -/
def Obligations.CompareSetsAndEdgesArriveAsStated : Prop :=
  ∀ (s : State) (x : Axis), s.isRunning = true →
    (∀ (d : Nat → Word) (six : Word) (g : Option Nat),
      let c : Instr := .compareSetArrival x (d 0) (d 1) (d 2) six g
      (s.flag (F.PW_CTRL_EN x) = true → s.setLate x g = true → exec c s = .next s) ∧
      (s.flag (F.PW_CTRL_EN x) = true → s.setLate x g = false → ∃ t, exec c s = .next t ∧ (t.tb x).setOk = true ∧
        t.regs = s.regs ∧ (∀ p, p < 3 → t.want (F.PW_CMP_D x p) = fieldOf (F.PW_CMP_D x p) (d p)) ∧
        ∀ f, f ∈ [F.PW_SIX_SIXSTEP x, F.PW_SIX_SAT x, F.PW_SIX_SECTOR x] → t.want f = fieldOf f six) ∧
      (s.flag (F.PW_CTRL_EN x) = false → ∃ t, exec c s = .next t ∧ t.tb x = s.tb x ∧
        (∀ p, p < 3 → t.fld (F.PW_CMP_D x p) = fieldOf (F.PW_CMP_D x p) (d p)) ∧
        ∀ f, f ∈ [F.PW_SIX_SIXSTEP x, F.PW_SIX_SAT x, F.PW_SIX_SECTOR x] → t.fld f = fieldOf f six)) ∧
    ∀ (at_ lead : Nat),
      (s.levels x at_ = (s.tb x).out → exec (.edgeCommand x at_ lead) s = .next s) ∧
      (s.counts x = true → at_ < s.interval x (s.period x) → s.levels x at_ ≠ (s.tb x).out →
        ∃ t, exec (.edgeCommand x at_ lead) s = .next t ∧ (t.tb x).out = s.levels x at_ ∧
          (512 ≤ at_ + lead → t.regs = s.regs) ∧
          (at_ + lead < 512 → let k := (phaseEdges (s.tb x).out (s.levels x at_)).length
            t.fld (F.PW_CNT_DELAYED x) = min 0xFFFF (s.fld (F.PW_CNT_DELAYED x) + k) ∧ (k = 0 → t.regs = s.regs) ∧
            (0 < k → t.fld (F.PW_STAT_EDGE_DELAYED x) = 1 ∧ t.pend (evAx x 18) = true)))

/-- R176: a write of PWx.PERIOD.TICKS outside 4000 to 400 000, odd in UPDOWN, or below PER_LIM.MIN changes nothing but
PER_REFUSED, which it sets. Any other is accepted: with the timebase stopped PERIOD reads it at once (R26) and the effective
period is the longer of it and the carrier request, at most 400 000 (R196); with the timebase running it waits (PER_PENDING,
R195), unless nothing changes by it and no sample instant has announced another period (log entry 66). -/
def Obligations.PeriodWritesAreAcceptedInRangeOnly : Prop :=
  ∀ (s : State) (x : Axis) (w : Word), s.isRunning = true →
    let v := fieldOf (F.PW_PERIOD_TICKS x) w
    let ok := 4000 ≤ v ∧ v ≤ 400000 ∧ s.fld (F.PW_PER_LIM_MIN x) ≤ v ∧ (s.flag (F.PW_CTRL_CARRIER x) = false → v % 2 = 0)
    let eff := min 400000 (max v (s.carrierReq x v))
    (¬ok → ∃ t, exec (.periodWrite x w) s = .next t ∧ s.onlyRegs [A.PW_STAT x] t ∧ t.fld (F.PW_STAT_PER_REFUSED x) = 1 ∧
      t.fld (F.PW_STAT_PER_PENDING x) = s.fld (F.PW_STAT_PER_PENDING x)) ∧
    (ok → ∃ t, exec (.periodWrite x w) s = .next t ∧ t.want (F.PW_PERIOD_TICKS x) = v ∧
      t.fld (F.PW_STAT_PER_REFUSED x) = s.fld (F.PW_STAT_PER_REFUSED x) ∧
      (s.flag (F.PW_CTRL_EN x) = false → t.fld (F.PW_PERIOD_TICKS x) = v ∧ t.fld (F.PW_PERIOD_EFF_TICKS x) = eff ∧
        t.fld (F.PW_STAT_PER_PENDING x) = 0) ∧
      (s.flag (F.PW_CTRL_EN x) = true → t.rd (A.PW_PERIOD x) = s.rd (A.PW_PERIOD x) ∧
        t.rd (A.PW_PERIOD_EFF x) = s.rd (A.PW_PERIOD_EFF x) ∧
        t.fld (F.PW_STAT_PER_PENDING x) =
          (if s.fld (F.PW_PERIOD_TICKS x) = v ∧ s.fld (F.PW_PERIOD_EFF_TICKS x) = eff ∧
            (s.fld (F.PW_STAT_PER_PENDING x) = 0 ∨ ∀ a ∈ (s.tb x).ann, a = none ∨ a.map (·.1) = some eff) then 0 else 1)))

/-- R198: while the bridge of the axis is enabled, a write of PWx.CTRL leaves EN, CARRIER and UPD as they are; while it is
disabled, they take the written values. Either way the rest of the write takes effect: SIX_SYNC, MINP_POL and, for axis B,
LOCK_A are written (they act at the instants of table 6.5), and CNT_CLR zeroes PWx.CNT. -/
def Obligations.EnableCarrierAndUpdateModeAreFixedWhileTheBridgeIsEnabled : Prop :=
  ∀ (s : State) (x : Axis) (w : Word), s.isRunning = true → ∃ t, exec (.pwmCtrlWrite x w) s = .next t ∧
    (∀ f, f ∈ [F.PW_CTRL_EN x, F.PW_CTRL_CARRIER x, F.PW_CTRL_UPD x] →
      t.fld f = if s.bridgeOn x then s.fld f else fieldOf f w) ∧
    (∀ f, f ∈ [F.PW_CTRL_SIX_SYNC x, F.PW_CTRL_MINP_POL x] → t.want f = fieldOf f w) ∧
    (x = .b → t.want (F.PW_CTRL_LOCK_A x) = fieldOf (F.PW_CTRL_LOCK_A x) w) ∧
    (fieldOf (F.PW_CTRL_CNT_CLR x) w = 1 → t.rd (A.PW_CNT x) = 0) ∧
    (fieldOf (F.PW_CTRL_CNT_CLR x) w = 0 → t.rd (A.PW_CNT x) = s.rd (A.PW_CNT x))

/-- R195, R186, R197, table 6.5, R200, R174: at a valley or wrap of a counting timebase the sample slots and CMP_BK take their
written values, and where the compare set that has arrived comes from a sample instant that announced a period for the interval
that begins, a period that waits applies, with PER_PENDING 0, if no change came after that instant, and else the announced
effective period alone (log entry 66); otherwise the period stays and goes on waiting; for axis A the written PHASE and LOCK_A
of axis B take effect; axis B lengthens its next carrier by at most T/16. When the reference clock is lost while the control die
is up, the cause of code 33 is present and neither timebase counts any more; in RUNNING the code is raised and both axes are
marked to move to SAFE, and before it no status bit is set: the code is raised at RUNNING (R508). -/
def Obligations.CarrierStartAppliesWhatWaits : Prop :=
  ∀ (s : State),
    (∀ (x : Axis) (since : Nat), (s.counts x = false → exec (.valleyOrWrap x since) s = .next s) ∧
      (s.counts x = true → ∃ t, exec (.valleyOrWrap x since) s = .next t ∧
        (t.tb x).down = false ∧ t.fld (F.PW_CMP_BK_D x) = s.want (F.PW_CMP_BK_D x) ∧
        (∀ n, n < 4 → t.fld (F.PW_SAMP_EN x n) = s.want (F.PW_SAMP_EN x n) ∧
          t.fld (F.PW_SAMP_POS x n) = s.want (F.PW_SAMP_POS x n)) ∧
        (∀ p n, s.flag (F.PW_STAT_PER_PENDING x) = true → (s.tb x).setAnn = some (p, n) →
          (n = (s.tb x).changes → t.fld (F.PW_PERIOD_TICKS x) = s.want (F.PW_PERIOD_TICKS x) ∧
            t.fld (F.PW_PERIOD_EFF_TICKS x) = s.periodWanted x ∧ t.fld (F.PW_STAT_PER_PENDING x) = 0 ∧
            (s.periodWanted x ≠ s.fld (F.PW_PERIOD_EFF_TICKS x) → t.pend (evAx x 20) = true)) ∧
          (n ≠ (s.tb x).changes → p ≤ 400000 → t.fld (F.PW_PERIOD_EFF_TICKS x) = p ∧
            t.rd (A.PW_PERIOD x) = s.rd (A.PW_PERIOD x) ∧ t.fld (F.PW_STAT_PER_PENDING x) = 1 ∧
            (p ≠ s.fld (F.PW_PERIOD_EFF_TICKS x) → t.pend (evAx x 20) = true))) ∧
        ((s.tb x).setAnn = none ∨ s.flag (F.PW_STAT_PER_PENDING x) = false →
          t.rd (A.PW_PERIOD x) = s.rd (A.PW_PERIOD x) ∧ t.rd (A.PW_PERIOD_EFF x) = s.rd (A.PW_PERIOD_EFF x) ∧
          t.fld (F.PW_STAT_PER_PENDING x) = s.fld (F.PW_STAT_PER_PENDING x)) ∧
        (x = .a → t.fld (F.PW_PHASE_TICKS .b) = s.want (F.PW_PHASE_TICKS .b) ∧
          t.fld (F.PW_CTRL_LOCK_A .b) = s.want (F.PW_CTRL_LOCK_A .b)) ∧
        (x = .b → (t.tb .b).extra = (s.tb .b).extraNext ∧ (t.tb .b).extraNext ≤ t.fld (F.PW_PERIOD_EFF_TICKS .b) / 16))) ∧
    (s.isUp = true → s.sun.pll = true → ∃ t, exec .referenceClockLost s = .next t ∧ t.cause 0 33 = true ∧
      (∀ x, t.counts x = false) ∧ (s.isRunning = true → t.stat 0 33 = true ∧ ∀ x, (t.ax x).fault = true) ∧
      (s.isRunning = false → t.stat 0 33 = s.stat 0 33))

/-- R23, R24, R26: a write of MCx.OWN reaches the shadow copy. At the next sample instant of the axis, and at once while its
timebase is stopped, each group's bit takes the written value, except a changed bit that was written while that group's sequence
ran and whose sequence still runs, which keeps its active value. R187, R189, R89: a sample instant of an enabled slot, at
round(POS × T / 65536) ticks of carrier time, latches the SAMPLE record of its slot number, stamp, T, H and carrier mode, begins
the period, announces the period of the interval that it serves where that begins at a valley or wrap (R195), and the first one
after RUNNING asks for the re-verify of the Grotto. A disabled slot, another carrier time, or a timebase that does not count,
has no sample instant. -/
def Obligations.OwnershipBecomesActiveAtTheNextSampleInstant : Prop :=
  ∀ (s : State) (x : Axis) (w : Word) (n at_ : Nat) (bits : List (List Bool)),
    let own (held : Bool) (old new : Word) (g : Nat) : Bool :=
      if held && bit old.toNat g != bit new.toNat g && s.groupRuns x g then bit old.toNat g else bit new.toNat g
    let off : Int := 65536 * (at_ : Int) - s.fld (F.PW_SAMP_POS x n) * s.period x
    (s.isRunning = true → ∃ t, exec (.ownWrite x w) s = .next t ∧ t.rdSh (A.MC_OWN x) = w &&& 0x3FF#32 ∧
      (s.flag (F.PW_CTRL_EN x) = true → t.regs = s.regs) ∧
      (s.flag (F.PW_CTRL_EN x) = false → ∀ g, g < 10 → bit (t.rd (A.MC_OWN x)).toNat g = own true (s.rd (A.MC_OWN x)) w g)) ∧
    (n < 4 → s.counts x = true → s.flag (F.PW_SAMP_EN x n) = true → -32768 ≤ off → off ≤ 32768 → ∃ t, exec (.sampleInstant x n at_ bits) s = .next t ∧
      (∀ g, g < 10 → bit (t.rd (A.MC_OWN x)).toNat g = own (bit (s.sv x).ownHold g) (s.rd (A.MC_OWN x)) (s.rdSh (A.MC_OWN x)) g) ∧
      t.src x.ix 0 = s.sampleRecord x n ∧ (t.tb x).begun = true ∧
      (bit s.otp.verify 0 = true → t.otp.verify = 2) ∧
      ((s.tb x).ann.length = 5 → (s.twoUpd x = true → (s.tb x).down = true) → ∃ p, nth none (t.tb x).ann n = some (p, (t.tb x).changes))) ∧
    (s.counts x = false ∨ s.flag (F.PW_SAMP_EN x n) = false ∨ off < -32768 ∨ 32768 < off → exec (.sampleInstant x n at_ bits) s = .next s)

/-! ### The Sundial -/

/-- R204 to R206, table 6.6: on the selected edge, with no set waiting, a valid pulse raises "PPS accepted" and its stamp shows
in PPS_HI:PPS_LO; in ACQUIRE with an error above 10 µs (4000 ticks) the counter is stepped by −e with "counter stepped" and
STEPPED, and else keeps its count; with DISC_EN the state becomes ACQUIRE from FREE, LOCKED from ACQUIRE at the eighth valid
pulse in a row within 100 ns, ACQUIRE from LOCKED at the second in a row beyond 10 µs, and LOCKED or ACQUIRE from HOLDOVER by 1
µs. An invalid pulse counts in REJECTS with "PPS rejected", and takes FREE to ACQUIRE with DISC_EN too. The other edge does
nothing. No valid pulse for 1.25 s takes ACQUIRE to FREE and LOCKED to HOLDOVER, with its event, and FREE and HOLDOVER nowhere.
-/
def Obligations.PpsPulsesAreStampedJudgedAndDisciplineTheCounter : Prop :=
  ∀ (s : State), s.isUp = true → s.sun.pll = true →
    (∀ r, r = s.flag F.SUN_CTRL_PPS_FALL → exec (.ppsPulse r) s = .next s) ∧
    (∀ r, r ≠ s.flag F.SUN_CTRL_PPS_FALL → s.fld F.SUN_STAT_SET_PENDING = 0 → ∃ t, exec (.ppsPulse r) s = .next t ∧
      let e := (phaseErr s.now).natAbs
      (s.ppsValid s.now = true → t.pend 84 = true ∧ t.fld F.SUN_PPS_LO = s.now % 2 ^ 32 ∧ t.fld F.SUN_PPS_HI = s.now / 2 ^ 32 ∧
        t.fld F.SUN_STAT_REJECTS = s.fld F.SUN_STAT_REJECTS ∧
        (if s.sunState = 1 ∧ 4000 < e then (t.now : Int) = ((s.now : Int) - phaseErr s.now) % 2 ^ 64 ∧
            t.fld F.SUN_STAT_STEPPED = 1 ∧ t.pend 88 = true
          else t.now = s.now ∧ t.fld F.SUN_STAT_STEPPED = s.fld F.SUN_STAT_STEPPED) ∧
        t.sunState = (if s.flag F.SUN_CTRL_DISC_EN = false then s.sunState
          else if s.sunState = 0 then 1
          else if s.sunState = 1 then (if e ≤ 40 ∧ 7 ≤ s.sun.good then 2 else 1)
          else if s.sunState = 2 then (if 4000 < e ∧ 1 ≤ s.sun.far then 1 else 2)
          else if e ≤ 400 then 2 else 1)) ∧
      (s.ppsValid s.now = false → t.pend 85 = true ∧ t.now = s.now ∧
        t.fld F.SUN_STAT_REJECTS = min 255 (s.fld F.SUN_STAT_REJECTS + 1) ∧ t.rd A.SUN_PPS_LO = s.rd A.SUN_PPS_LO ∧
        (s.sunState = 0 → t.sunState = if s.flag F.SUN_CTRL_DISC_EN then 1 else 0))) ∧
    ∀ l, s.sun.last = some l → 500000000 ≤ unsigned 64 ((s.now : Int) - l) → ∃ t, exec .ppsTimeout s = .next t ∧
      t.sunState = (if s.sunState = 1 then 0 else if s.sunState = 2 then 3 else s.sunState) ∧
      (s.sunState = 2 → t.pend 87 = true)

/-- For each of setGo, sunCtrlWrite and snap the conclusion is that exec answers a next state t. R208, R205, R209, table 6.18:
with SET_AT_PPS = 0, SET_GO loads SET_HI:SET_LO into the counter, sets STEPPED, raises "counter stepped", and puts a
disciplining Sundial into ACQUIRE; with SET_AT_PPS = 1 the set waits (SET_PENDING, SET_GO read 1) and the next pulse, whether
valid or not, does so. A write of SUN.CTRL takes its four settings, DISC_EN = 0 puts the Sundial in FREE, and SET_GO written 1
starts a set by the settings written. SNAP copies the counter into SNAP_HI:SNAP_LO and changes nothing else. -/
def Obligations.SundialSetsAndSnapshots : Prop :=
  ∀ (s : State), s.isRunning = true →
    (s.flag F.SUN_CTRL_SET_AT_PPS = false → ∃ t, exec .setGo s = .next t ∧ t.now = s.setValue ∧ t.fld F.SUN_STAT_STEPPED = 1 ∧
      t.fld F.SUN_CTRL_SET_GO = 0 ∧ t.pend 88 = true ∧ t.sunState = if s.sunState = 0 then 0 else 1) ∧
    (s.flag F.SUN_CTRL_SET_AT_PPS = true → ∃ t, exec .setGo s = .next t ∧ s.onlyRegs [A.SUN_CTRL, A.SUN_STAT] t ∧
      t.fld F.SUN_STAT_SET_PENDING = 1 ∧ t.fld F.SUN_CTRL_SET_GO = 1) ∧
    (s.sun.pll = true → s.flag F.SUN_STAT_SET_PENDING = true → ∀ r, r ≠ s.flag F.SUN_CTRL_PPS_FALL →
      ∃ t, exec (.ppsPulse r) s = .next t ∧ t.fld F.SUN_STAT_SET_PENDING = 0 ∧ t.fld F.SUN_CTRL_SET_GO = 0 ∧
        t.fld F.SUN_STAT_STEPPED = 1 ∧ t.pend 88 = true) ∧
    (∀ w, ∃ t, exec (.sunCtrlWrite w) s = .next t ∧
      (∀ f, f ∈ [F.SUN_CTRL_SET_AT_PPS, F.SUN_CTRL_TAU, F.SUN_CTRL_PPS_FALL, F.SUN_CTRL_DISC_EN] → t.fld f = fieldOf f w) ∧
      let st := if fieldOf F.SUN_CTRL_DISC_EN w = 0 then 0 else s.sunState
      (fieldOf F.SUN_CTRL_SET_GO w = 0 → t.now = s.now ∧ t.sunState = st) ∧
      (fieldOf F.SUN_CTRL_SET_GO w = 1 → fieldOf F.SUN_CTRL_SET_AT_PPS w = 1 → t.now = s.now ∧ t.sunState = st ∧
        t.fld F.SUN_STAT_SET_PENDING = 1 ∧ t.fld F.SUN_CTRL_SET_GO = 1) ∧
      (fieldOf F.SUN_CTRL_SET_GO w = 1 → fieldOf F.SUN_CTRL_SET_AT_PPS w = 0 → t.now = s.setValue ∧
        t.fld F.SUN_STAT_STEPPED = 1 ∧ t.fld F.SUN_CTRL_SET_GO = 0 ∧ t.sunState = if st = 0 then 0 else 1)) ∧
    ∃ t, exec .snap s = .next t ∧ s.onlyRegs [A.SUN_SNAP_LO, A.SUN_SNAP_HI] t ∧
      t.fld F.SUN_SNAP_HI * 2 ^ 32 + t.fld F.SUN_SNAP_LO = s.now

/-- R210, R211, R213, R214: ARM of a slot that is not armed, with a CODE that is not reserved, latches its time, CODE and ARG,
arms it and notes whether its time has passed; ARM of an armed slot leaves what is latched in use; CANCEL disarms an armed slot
with STATUS CANCELLED, and leaves ARM and STATUS of any other as they are, also where ARM is written with it. An armed slot
whose time the counter has reached fires: it disarms, raises "action fired" (FIRED), or "action refused or late" (FIRED_LATE)
where it was late; CODE 0 does no more, and a START or STOP of an axis whose timebase counts and that has no command pending
then waits at that axis with TAG 0xF0 + n. Of slots that are due together the lower ones fire first. A slot that is not armed,
or whose time has not come, does not fire. -/
def Obligations.ActionSlotsArmCancelAndFire : Prop :=
  ∀ (s : State) (n : Nat) (w : Word), s.isRunning = true → n < 8 →
    (fieldOf (F.SUN_ACT_CTRL_ARM n) w = 1 → fieldOf (F.SUN_ACT_CTRL_CANCEL n) w = 0 →
      ∃ t, exec (.armAction n w) s = .next t ∧ s.onlyRegs [A.SUN_ACT_CTRL n] { t with sun := s.sun } ∧
      (s.fld (F.SUN_ACT_CTRL_ARM n) = 1 → t.sun = s.sun ∧ t.fld (F.SUN_ACT_CTRL_ARM n) = 1 ∧
        t.fld (F.SUN_ACT_CTRL_STATUS n) = s.fld (F.SUN_ACT_CTRL_STATUS n)) ∧
      (s.fld (F.SUN_ACT_CTRL_ARM n) = 0 → 5 < fieldOf (F.SUN_ACT_CTRL_CODE n) w → t.sun = s.sun ∧
        t.fld (F.SUN_ACT_CTRL_ARM n) = 0) ∧
      (s.fld (F.SUN_ACT_CTRL_ARM n) = 0 → fieldOf (F.SUN_ACT_CTRL_CODE n) w ≤ 5 →
        t.fld (F.SUN_ACT_CTRL_ARM n) = 1 ∧ t.fld (F.SUN_ACT_CTRL_STATUS n) = 1 ∧
        let time := s.fld (F.SUN_ACT_THI n) * 2 ^ 32 + s.fld (F.SUN_ACT_TLO n)
        t.sun.acts = setNth s.sun.acts n
          (time, fieldOf (F.SUN_ACT_CTRL_CODE n) w, fieldOf (F.SUN_ACT_CTRL_ARG n) w, decide (time < s.now)))) ∧
    (fieldOf (F.SUN_ACT_CTRL_CANCEL n) w = 1 → ∃ t, exec (.cancelAction n w) s = .next t ∧ t.sun = s.sun ∧
      t.fld (F.SUN_ACT_CTRL_ARM n) = 0 ∧
      t.fld (F.SUN_ACT_CTRL_STATUS n) = if s.fld (F.SUN_ACT_CTRL_ARM n) = 1 then 5 else s.fld (F.SUN_ACT_CTRL_STATUS n)) ∧
    let rests (m : Nat) : Prop := s.fld (F.SUN_ACT_CTRL_ARM m) = 0 ∨ s.now < (s.act m).1
    ((∀ m, m ≤ n → rests m) → exec (.actionFired n) s = .next s) ∧
    (∃ t, exec (.actionFired n) s = .next t ∧ ∀ m, m ≤ n → ¬rests m → t.fld (F.SUN_ACT_CTRL_ARM m) = 0) ∧
    (∀ time code arg late, (∀ m, m < n → rests m) → s.fld (F.SUN_ACT_CTRL_ARM n) = 1 → s.act n = (time, code, arg, late) → time ≤ s.now →
      ∃ t, exec (.actionFired n) s = .next t ∧ t.fld (F.SUN_ACT_CTRL_ARM n) = 0 ∧
        t.pend (if late then 91 else 90) = true ∧
        (code = 0 → t.fld (F.SUN_ACT_CTRL_STATUS n) = (if late then 3 else 2)) ∧
        ∀ x c, (code, x, c) ∈ [(1, Axis.a, cmSTART), (2, Axis.b, cmSTART), (3, Axis.a, cmSTOP), (4, Axis.b, cmSTOP)] →
          s.flag (F.PW_CTRL_EN x) = true → s.pendCmd x = none →
          (t.ax x).cmd = some { code := c, tag := 0xF0 + n, src := 1, slot := some n } ∧
            t.fld (F.SUN_ACT_CTRL_STATUS n) = (if late then 3 else 2))

/-! ### The Bandstand and the kiosks -/

/-- R145, R12, R160, R161: the Bandstand acts on the oldest trigger. Where an instance of its graph runs, no other is released,
and an overrun counts for the owner of an axis graph. Else, with no ready task waiting for room, an instance is released with
the trigger's instant, the update instant it serves and the margin of the band at the trigger, and its tasks without an input
are the ones no longer waiting. R12, R13, R217: a delivery that the owner may have reaches every running graph of that owner
with an edge from that source not yet delivered: the edges are delivered, the instance holds the record, and a waiting task
whose edges are then all delivered waits no more. Any other delivery does nothing. -/
def Obligations.TriggersReleaseGraphsAndDeliveriesReadyTasks : Prop :=
  ∀ (s : State), s.isRunning = true →
    (∀ (g : Trigger) (r : List Trigger) (d : GraphD), s.fab.trigs = g :: r → s.graphD g.graph = some d →
      (∀ i, s.instOf g.graph = some i → (d.axis = 3 → s.fab.bgStop = false) → ∃ t, exec .graphTrigger s = .next t ∧
        t.fab = { s.fab with trigs := r } ∧
        t.fld F.HB_LATE_OVR_A = (if d.axis = 0 then min 255 (s.fld F.HB_LATE_OVR_A + 1) else s.fld F.HB_LATE_OVR_A) ∧
        t.fld F.HB_LATE_OVR_B = (if d.axis = 1 then min 255 (s.fld F.HB_LATE_OVR_B + 1) else s.fld F.HB_LATE_OVR_B)) ∧
      (s.instOf g.graph = none → (d.axis = 3 → s.fab.bgStop = false) → s.fab.ready = [] →
        ∃ t i, exec .graphTrigger s = .next t ∧ t.instOf g.graph = some i ∧ i.trigAt = g.at_ ∧ i.serves = g.serves ∧
          i.margin = bandMargin g.band ∧ t.fld F.HB_PACE_STAT_MARGIN_BAND = g.band % 8 ∧ t.fab.trigs = r ∧
          ∀ j, j < d.tasks.length → (nth .gone i.tasks j = .waiting ↔ d.inEdges j ≠ []))) ∧
    ∀ (owner n : Nat),
      (s.mayDeliver owner n = false → exec (.sourceDelivery owner n) s = .next s) ∧
      (s.mayDeliver owner n = true → ∃ t, exec (.sourceDelivery owner n) s = .next t ∧
        ∀ g d i, s.graphD g = some d → d.axis = owner → s.instOf g = some i →
          (∃ e, e ∈ d.outEdges (0xFF00 + n) ∧ e ∉ i.seen) →
          ∃ j, t.instOf g = some j ∧ (∀ e, e ∈ d.outEdges (0xFF00 + n) → e ∈ j.seen) ∧
            (n, if n = 12 then s.tempRecord else s.src owner n) ∈ j.recs ∧
            ∀ m, m < d.tasks.length → nth .gone i.tasks m = .waiting → (∀ e, e ∈ d.inEdges m → e ∈ j.seen) →
              nth .gone j.tasks m ≠ .waiting)

/-- R148, R136, R143: a kiosk with a role and no task starts, from its queue, the task that goes before every other (earlier
absolute deadline, among equals released earlier, background last), with zero scratch. R149, R150: one whose queue is empty
takes the roaming task of the first kiosk in its rotation that has one and where it does not lose the race; TAKEN counts it, and
LOST counts each race lost before. R151: a whole rotation without a task makes it rest, and while it rests it does not try. -/
def Obligations.KiosksTakeTheEarliestDeadlineAndSteal : Prop :=
  ∀ (s : State) (k : Nat), s.isRunning = true → s.kioskFree k = true →
    (∀ q, q ∈ (s.kiosk k).queue → (∀ p, p ∈ (s.kiosk k).queue → p ≠ q → q.before p = true) →
      ∃ t, exec (.taskDispatch k) s = .next t ∧ t.started k q) ∧
    (∀ ki lost, s.fab.kiosks[k]? = some ki → ki.queue = [] →
      (ki.resting = true → exec (.stealAttempt k lost) s = .next s) ∧
      (ki.resting = false →
        (∀ us v vs q, s.victims k = us ++ v :: vs → (∀ u, u ∈ us → s.loot u = none ∨ u ∈ lost) → s.loot v = some q → v ∉ lost →
          ∃ t, exec (.stealAttempt k lost) s = .next t ∧ t.started k q ∧
            t.fld F.HB_STEAL_TAKEN = min 65535 (s.fld F.HB_STEAL_TAKEN + 1) ∧
            t.fld F.HB_STEAL_LOST = min 65535 (s.fld F.HB_STEAL_LOST + (us.filter (fun u => (s.loot u).isSome)).length)) ∧
        ((∀ v, v ∈ s.victims k → s.loot v = none ∨ v ∈ lost) → ∃ t, exec (.stealAttempt k lost) s = .next t ∧
          t.kiosk k = { ki with resting := true } ∧ t.fld F.HB_STEAL_TAKEN = s.fld F.HB_STEAL_TAKEN)))

/-- R12, R143, R152, R142, R160: a task that ends with its 4 last micro-steps within four times its COST leaves its kiosk with
no lock held, and while its graph's instance stays its outgoing edges are delivered. One of an axis graph that sets NUMERIC in
two releases in a row raises code 16 for the axis. A deadline graph of axis A whose last task so ends later than (1 − m) ×
DEADLINE counts in LATE_A and raises code 32 (elapsed time by the block's own clock: log entry 43). R494, R186, R120: with its
last task a graph that a sample slot triggers writes CMP_BK (which task's end does it is not stated: log entry 71), from its own
section bodies (R120) and the VBUS and the T delivered to it: 0 unless Cascade is fitted and in service and the axis is in ARMED
to BRAKE or in SAFE of another kind than torque-off and driver-supply undervoltage; else 0 at BRK_ON or below, 16T at BRK_FULL
or above, and between them the nearest number to its share of 16T. The value waits for the next valley or wrap. R154, R153,
R155: a task beyond four times its COST, at its end or before, is abandoned with detail 1, and one whose ACQ waits longer than
100 µs with detail 3; within those bounds nothing happens. -/
def Obligations.TasksEndWithTheirOutputsOrAreAbandoned : Prop :=
  ∀ (s : State) (k : Nat) (r : Run), s.isRunning = true → (s.kiosk k).run = some r →
    (r.stalled = none → r.lock = none → 4 * s.runCost r < r.steps + 4 → ∃ t, exec (.taskComplete k) s = .next t ∧ s.abandoned t k r 1) ∧
    (r.stalled = none → r.lock = none → r.steps + 4 ≤ 4 * s.runCost r → ∃ t, exec (.taskComplete k) s = .next t ∧ t.kioskFreed k ∧
      (∀ d i j, s.graphD r.graph = some d → s.instOf r.graph = some i → t.instOf r.graph = some j →
        ∀ e, e ∈ d.outEdges r.task → e ∈ j.seen) ∧
      (∀ x : Axis, r.numeric = true → (r.graph, r.task) ∈ s.fab.numPrev → s.graphOwner r.graph = x.ix → t.stat (scAxis x) 16 = true) ∧
      (∀ d i, s.graphD r.graph = some d → s.instOf r.graph = some i → r.numeric = false → d.cls = 0 → d.axis = 0 →
        (i.setTask r.task .done).tasks.all (fun q => q == .done) = true →
        (100 - i.margin) * d.deadline < 250 * (s.ticks - i.start) →
        t.fld F.HB_LATE_LATE_A = min 255 (s.fld F.HB_LATE_LATE_A + 1) ∧ t.stat 1 32 = true) ∧
      (∀ (x : Axis) d i p v ticks, s.graphD r.graph = some d → s.instOf r.graph = some i → r.numeric = false → d.trigger = 0 →
        d.axis = x.ix → (i.setTask r.task .done).tasks.all (fun q => q == .done) = true →
        i.recs.find? (fun e => e.1 == 0) = some (0, p) → p[3]? = some ticks →
        i.recs.find? (fun e => e.1 == 4) = some (4, v) → fFinite (nth 0 v 0) = true →
        let on := (s.bodiesAt i.bodies).paramQ x 0x0E00 (0, 1)
        let full := (s.bodiesAt i.bodies).paramQ x 0x0E01 (0, 1)
        let vbus := fVal (nth 0 v 0)
        let serves := s.fld (F.TR_SAFE_CFG_CSC_EN x) ≠ 0 ∧ s.fld (F.TR_CSC_STAT_STATE x) = 0 ∧
          (inRange 1 6 (s.axState x) = true ∨ s.axState x = 7 ∧ s.safe x ≠ 4 ∧ s.fld (F.TR_SAFE_STAT_ORIGIN x) ≠ 7)
        (s.flag (F.PW_CTRL_EN x) = true → t.fld (F.PW_CMP_BK_D x) = s.fld (F.PW_CMP_BK_D x)) ∧
        (¬ serves → t.want (F.PW_CMP_BK_D x) = 0) ∧
        (serves → qLt on full = true → ticks.toNat ≤ 400000 →
          (qLe vbus on = true → t.want (F.PW_CMP_BK_D x) = 0) ∧
          (qLe full vbus = true → t.want (F.PW_CMP_BK_D x) = 16 * ticks.toNat) ∧
          (qLt on vbus = true → qLt vbus full = true →
            let share := qDiv (qMul (qSub vbus on) (16 * ticks.toNat, 1)) (qSub full on)
            qLe (qAbs (qSub (t.want (F.PW_CMP_BK_D x), 1) share)) (1, 2) = true)))) ∧
    (∀ waited, (4 * s.runCost r < r.steps + waited → ∃ t, exec (.taskOverrun k waited) s = .next t ∧ s.abandoned t k r 1) ∧
      (r.steps + waited ≤ 4 * s.runCost r → exec (.taskOverrun k waited) s = .next s)) ∧
    ∀ us, (r.lock.isSome = true → 100 < us → ∃ t, exec (.lockWaitTimeout k us) s = .next t ∧ s.abandoned t k r 3) ∧
      (r.lock = none ∨ us ≤ 100 → exec (.lockWaitTimeout k us) s = .next s)

/-- R158, R159, R161, tables 5.7 and 5.10: a gate writes each cluster's count in LAST and the lowest in MIN. A count below
BAND_FLOOR sets BELOW_BAND and raises code 37. A count below IMG_FLOOR in the second gate in a row sets BELOW_FLOOR, raises code
34 with its cause and marks both axes to move to SAFE; with every count at or above IMG_FLOOR its cause ends. BAND_FLOOR then is
the floor of the present band. -/
def Obligations.PaceGateReportsPaceBelowItsFloors : Prop :=
  ∀ (s : State) (counts : List Nat), s.isRunning = true → ∃ t, exec (.paceGate counts) s = .next t ∧
    t.fld F.HB_PACE_LIM_BAND_FLOOR = nth 4200 [5400, 5400, 5000, 4650, 4200] (s.fld F.ORG_TJ_BAND) ∧
    (∀ c n, c < 4 → counts[c]? = some n → t.fld (F.HB_PACE_LAST c) = min n 0xFFFF ∧
      t.fld (F.HB_PACE_MIN c) = min (min n 0xFFFF) (s.fld (F.HB_PACE_MIN c)) ∧
      (n < s.fld F.HB_PACE_LIM_BAND_FLOOR → t.getBit F.HB_PACE_STAT_BELOW_BAND c = true ∧ t.stat 0 37 = true) ∧
      (n < s.fld F.HB_PACE_LIM_IMG_FLOOR → s.fab.paceRun[c]? = some 1 → t.getBit F.HB_PACE_STAT_BELOW_FLOOR c = true ∧
        t.stat 0 34 = true ∧ t.cause 0 34 = true ∧ ∀ x, (t.ax x).fault = true)) ∧
    ((∀ c n, c < 4 → counts[c]? = some n → s.fld F.HB_PACE_LIM_IMG_FLOOR ≤ n) → s.fab.paceRun.length = 4 →
      t.cause 0 34 = false)

/-! ### Operators -/

/-- R136, R143: each of the 42 operators (MOV to REL) completes: whatever its operand words and the state, exec answers a next
state. R138, R155: where a roaming task meets a LOCAL operand, whichever of the 42 operators executes, the task is abandoned
with detail 4 and nothing of the operator's results is written. R600: where the operator of a WINDOW task touches a line of the
flash that is not cached, the task waits for it, with nothing of the operator executed. On a kiosk that runs no task, or whose
task waits for a lock or a flash line, no operator executes and nothing changes (the model's choice of what such a command
means: log entry 2). -/
def Obligations.OperatorsRunOnlyForATaskThatWaitsForNothing : Prop :=
  ∀ (s : State) (c : Instr) (k op : Nat) (ws : List Word), s.isRunning = true → Instr.opr c = some (k, op, ws) →
    (∃ t, exec c s = .next t) ∧
    (s.runOf k = none → exec c s = .next s) ∧
    (∀ r, s.runOf k = some r → s.operandsFit r op ws = true → s.roamLocal r ws = true →
      ∃ t, exec c s = .next t ∧ s.abandoned t k r 4 ∧ t.mem = s.mem) ∧
    (∀ r a, s.runOf k = some r → s.operandsFit r op ws = true → s.roamLocal r ws = false →
      (s.touchWords (s.fetchWords r op ws)).1 = some a → s.flag F.ICE_STAT_RELEASED = false →
      ∃ t, exec c s = .next t ∧ (t.kiosk k).run = some { r with stalled := some a } ∧ t.mem = s.mem ∧
        ∀ b, b ≠ A.ICE_STAT → t.rd b = s.rd b)

/-- Table 5.4, R139, R140, R143, R680: each of MOV, ADD, SUB, MUL, MAC, DIV, SQRT, ABS, MIN2, MAX2, ATAN2, WRAP, CMP and SEL
reads its inputs, whatever their space, and writes the one result: nothing else changes, and where the result cannot be written
(R134) the task is over. (SEL hands on the chosen input as a number and does not judge the other: log entry 45. A result of
ATAN2 or WRAP that rounds to π reads −π: log entry 9.) SINCOS writes both results within 1.5 × 10⁻⁷ for abs(θ) up to 64π, and
NaN for a θ that is not finite. A NaN input gives the quiet NaN of R140 from ADD, SUB, MUL and DIV, the other operand from MIN2
and MAX2, and lets only "not equal" hold; x / 0 is ±∞, and the root of a negative number +0. -/
def Obligations.ArithmeticOperatorsGiveTable54 : Prop :=
  (∀ (s : State) (k : Nat) (d a b c : Word) (fl : List (Nat × Bool)),
    (∀ r u v, (s.upsets fl).opReads u k r 0x01 [d, a] [(a, 1)] [[v]] →
      ∃ t, exec (.mov k fl d a) s = .next t ∧ u.puts k r.graph [(d, 0, [v])] t) ∧
    s.gives1 (.add k d a b) d [a, b] (fun v => fAdd (v 0) (v 1)) ∧ s.gives1 (.sub k d a b) d [a, b] (fun v => fSub (v 0) (v 1)) ∧
    s.gives1 (.mul k d a b) d [a, b] (fun v => fMul (v 0) (v 1)) ∧
    s.gives1 (.mac k d a b c) d [a, b, c] (fun v => fMac (v 0) (v 1) (v 2)) ∧
    s.gives1 (.div k d a b) d [a, b] (fun v => fDiv (v 0) (v 1)) ∧ s.gives1 (.sqrt k d a) d [a] (fun v => fSqrt (v 0)) ∧
    s.gives1 (.abs k d a) d [a] (fun v => fAbs (v 0)) ∧ s.gives1 (.min2 k d a b) d [a, b] (fun v => fMin (v 0) (v 1)) ∧
    s.gives1 (.max2 k d a b) d [a, b] (fun v => fMax (v 0) (v 1)) ∧
    s.gives1 (.atan2 k d a b) d [a, b] (fun v => fAtan2 (v 0) (v 1)) ∧ s.gives1 (.wrap k d a) d [a] (fun v => fWrap (v 0)) ∧
    s.gives1 (.cmp k d a b c) d [a, b, c] (fun v => fBool (relation (v 2).toNat (v 0) (v 1))) ∧
    s.gives1 (.sel k d a b c) d [a, b, c] (fun v => fFlush (if v 0 = 0 then v 2 else v 1)) ∧
    ∀ r u v, s.opReads u k r 0x0C [d, a, b] [(b, 1)] [[v]] → ∃ t sn cs n, exec (.sincos k d a b) s = .next t ∧
      State.puts { u with free := n } k r.graph [(d, 0, [sn]), (a, 0, [cs])] t ∧
      (fFinite v = false → sn = fNaN ∧ cs = fNaN) ∧
      (fFinite v = true → qLe (qAbs (fVal v)) sinMax = true →
        (sn = fOfFrac (qSin (fVal v)) ∨ qLe (qAbs (qSub (fVal sn) (qSin (fVal v)))) sinErr = true) ∧
        (cs = fOfFrac (qCos (fVal v)) ∨ qLe (qAbs (qSub (fVal cs) (qCos (fVal v)))) sinErr = true))) ∧
  ∀ a b : Word,
    (fIsNaN a = true → (∀ f, f ∈ [fAdd, fSub, fMul, fDiv] → f a b = 0x7FC00000#32 ∧ f b a = 0x7FC00000#32) ∧
      (∀ f, f ∈ [fMin, fMax] → f a b = fFlush b ∧ f b a = fFlush b) ∧ ∀ n, relation n a b = (n == 3)) ∧
    (fLt a fZero = true → fSqrt a = fZero) ∧
    (fFinite a = true → fIsZero a = false → fIsZero b = true → fDiv a b = if fSign a != fSign b then fNegInf else fInf)

/-- Table 5.4, R141, R372 to R375, R385 to R387: LIM, LPF1, RATE, INTEG and BIQUAD give the results of their row and keep their
state through the state operand. An input that the guard refuses leaves the state as it was, sets NUMERIC, and where the
previous output is at hand writes it again. C2P2Z and C3P3Z run only while the bridge of their axis is enabled, the one of SP
only outside torque mode, that of PS only in position mode, those of CD and CQ only in FOC and that of DL only in six-step
(R302, R379, R380, table 11.3), by the settings of the period that their graph was released in (R13), and then write the new
history and output of R372 and R374, or in MODE 3 the output held. MINSEL writes the winner with its direction, the six tracking
records and the reason, and dir·m, or in an axis graph with Folly's u at POINT IQ the bounded dir·(m + dir·u) of R417 (the
reference in force where a service guides the frame: log entry 49); a NaN demand only sets NUMERIC. (The order of BIQUAD's
coefficients is log entry 32, that of a history record log entry 18, and that the bank operand names the compensator log entry
17.) (Where hi lies below lo no result is stated: INTEG and LIM are stated here for lo up to hi.) -/
def Obligations.FiltersAndCompensatorsGiveTheirResults : Prop :=
  ∀ (s : State) (k : Nat) (d a b c e : Word),
    (∀ r u x lo hi, s.opReads u k r 0x0B [d, a, b, c] [(a, 1), (b, 1), (c, 1)] [[x], [lo], [hi]] → fIsNaN x = false → fFinite lo = true →
      fFinite hi = true → fLt hi lo = false → ∃ t, exec (.lim k d a b c) s = .next t ∧ u.puts k r.graph [(d, 0, [fClamp lo hi x])] t) ∧
    s.guards (.lim k d a b c) [(a, 1), (b, 1), (c, 1)] (fun v => fIsNaN (v 0 0) || !fFinite (v 1 0) || !fFinite (v 2 0)) (fun _ => []) ∧
    (∀ r u x y z, s.opReads u k r 0x11 [d, a, b, c] [(a, 1), (b, 1), (c, 1)] [[x], [y], [z]] → guardOk [x, y, z] = true →
      ∃ t, exec (.lpf1 k d a b c) s = .next t ∧ u.puts k r.graph
        [(b, 0, [fAdd y (fMul z (fSub x y))]), (d, 0, [fAdd y (fMul z (fSub x y))])] t) ∧
    s.guards (.lpf1 k d a b c) [(a, 1), (b, 1), (c, 1)] (fun v => !guardOk [v 0 0, v 1 0, v 2 0]) (fun v => [(d, 0, [fFlush (v 1 0)])]) ∧
    (∀ r u x y z, s.opReads u k r 0x13 [d, a, b, c] [(a, 1), (b, 1), (c, 1)] [[x], [y], [z]] → guardRate x y z = true →
      ∃ t, exec (.rate k d a b c) s = .next t ∧
        let o := if fLe (fAbs (fSub x y)) (fAbs z) then fFlush x else if fSign (fSub x y) then fSub y (fAbs z) else fAdd y (fAbs z)
        u.puts k r.graph [(b, 0, [o]), (d, 0, [o])] t) ∧
    (∀ r u x y g lo hi, s.opReads u k r 0x14 [d, a, b, c] [(a, 1), (b, 1), (c, 3)] [[x], [y], [g, lo, hi]] →
      guardOk [x, y, g, lo, hi] = true → fLt hi lo = false → ∃ t, exec (.integ k d a b c) s = .next t ∧ u.puts k r.graph
        [(b, 0, [fClamp lo hi (fAdd y (fMul g x))]), (d, 0, [fClamp lo hi (fAdd y (fMul g x))])] t) ∧
    (∀ r u x s1 s2 b0 b1 b2 a1 a2, s.opReads u k r 0x12 [d, a, b, c] [(a, 1), (b, 2), (c, 5)] [[x], [s1, s2], [b0, b1, b2, a1, a2]] →
      guardOk [x, s1, s2, b0, b1, b2, a1, a2] = true → ∃ t, exec (.biquad k d a b c) s = .next t ∧
        let y := fAdd (fMul b0 x) s1
        u.puts k r.graph [(b, 0, [fAdd (fSub (fMul b1 x) (fMul a1 y)) s2, fSub (fMul b2 x) (fMul a2 y)]), (d, 0, [y])] t) ∧
    (∀ (three : Bool) (r : Run) (u : State) (x m v : Word) (bk h : List Word),
      let c' : Instr := if three then .c3p3z k d a b c e else .c2p2z k d a b c e
      s.opReads u k r (if three then 0x16 else 0x15) [d, a, b, c, e] [(a, 1), (b, 10), (c, 6), (e, 2)] [[x], bk, h, [m, v]] →
      let op := if three then 0x16 else 0x15
      let l := s.fetchWords r op [d, a, b, c, e]
      (((s.touchWords l).2.opBegin k op [d, a, b, c, e] l.length |>.periodView r.graph).compOut r.graph b = true → exec c' s = .next ((s.touchWords l).2.opBegin k op [d, a, b, c, e] l.length)) ∧
      (∀ (v : State) y, v.graphAxis r.graph = some y → v.bridgeOn y = false → v.compOut r.graph b = true) ∧
      (((s.touchWords l).2.opBegin k op [d, a, b, c, e] l.length |>.periodView r.graph).compOut r.graph b = false →
        ∀ q, compRun three (u.bankUsed r.graph (u.compNamed r.graph b) bk) h m.toNat v x = some q → ∃ t, exec c' s = .next t ∧
          u.putsRun k r.graph (if m.toNat = 3 then [(d, 0, [fFlush (nth 0 h 3)])] else [(c, 0, q.2.2.1), (d, 0, [q.2.1])]) t)) ∧
    (∀ r u ds m w dp q, s.opReads u k r 0x17 [d, a, b, c, e] [(a, 6), (b, 3)] [ds, [m, w, dp]] →
      minsel ds (m ||| 9#32).toNat w.toNat dp = some q → ∃ t o n, exec (.minsel k d a b c e) s = .next t ∧
        let out := match s.graphAxis r.graph with | some y => (u.periodView r.graph).selOut y q | none => fMul q.1 q.2.1
        (∀ y, s.graphAxis r.graph = some y → let v := u.periodView r.graph
          (v.sv y).frozen = false → v.ownFrame y = false → out =
            if fIsZero (v.folAt y 0) = true then fMul q.1 q.2.1 else (folIq q.1 q.2.1 (v.folAt y 0)
              (((List.range 5).map (fun j => nth fInf q.2.2.2 (j + 1))).foldl fMin fInf) (v.limIm y)).1) ∧
        State.putsRun { u with free := n } k r.graph [(d, 0, [out]), (b, 1, [BitVec.ofNat 32 q.2.2.1, q.1]),
          (c, 0, minselTrk q.1 q.2.1 q.2.2.1 o), (e, 0, [fOfNat q.2.2.1])] t) ∧
    s.guards (.minsel k d a b c e) [(a, 6), (b, 3)]
      (fun v => (List.range 6).any (fun j => fIsNaN (v 0 j)) || fIsNaN (v 1 2)) (fun _ => [])

/-- For each of clarke, park, ipark, svm, dtcomp, bemf, pll, hfi, flux, blend and model the conclusion is that exec answers a
next state t. Table 5.4, R190 to R192, R338, R342 to R344: CLARKE, PARK and IPARK give their two results and SVM a complete
compare set, SIX last. PLL in an axis graph, with no seed taken and injection not suspended, writes the angle and speed of R338;
BLEND writes the angle, the speed and the flag of a disagreement beyond the band; MODEL writes the predicted speed and the
residual, which is the estimated speed less the modelled one before (0 with the bridge disabled). The arithmetic of BEMF, FLUX,
HFI and DTCOMP is not stated: with inputs that the guard accepts they write free words (log entry 1). R340: while injection is
suspended HFI updates nothing. A refused input sets NUMERIC and writes nothing (R141). -/
def Obligations.VectorAndEstimatorOperatorsGiveTheirResults : Prop :=
  ∀ (s : State) (k : Nat) (d a b c : Word),
    s.gives (.clarke k d a b c) [(a, 1), (b, 1), (c, 1)] (fun v => [(d, 0, [fDiv (fSub (fSub (fMul 0x40000000#32 (v 0 0)) (v 1 0)) (v 2 0))
      0x40400000#32, fDiv (fSub (v 1 0) (v 2 0)) (fSqrt 0x40400000#32)])]) ∧
    s.gives (.park k d a b) [(a, 2), (b, 2)] (fun v => [(d, 0, [fAdd (fMul (v 0 0) (v 1 1)) (fMul (v 0 1) (v 1 0)),
      fSub (fMul (v 0 1) (v 1 1)) (fMul (v 0 0) (v 1 0))])]) ∧
    s.gives (.ipark k d a b) [(a, 2), (b, 2)] (fun v => [(d, 0, [fSub (fMul (v 0 0) (v 1 1)) (fMul (v 0 1) (v 1 0)),
      fAdd (fMul (v 0 0) (v 1 0)) (fMul (v 0 1) (v 1 1))])]) ∧
    (∀ r u va vb vbus m, s.opReads u k r 0x1B [d, a, b, c] [(a, 2), (b, 1), (c, 1)] [[va, vb], [vbus], [m]] →
      guardOk [va, vb, vbus] = true → ∃ t, exec (.svm k d a b c) s = .next t ∧ let h := u.svmH r.graph d
        h.2.puts k r.graph [(d, 0, if m = 3 then svmSix va vb vbus h.1 else svmLinear va vb vbus m.toNat h.1)] t) ∧
    s.guards (.svm k d a b c) [(a, 2), (b, 1), (c, 1)] (fun v => !guardOk [v 0 0, v 0 1, v 1 0]) (fun _ => []) ∧
    (∀ r u th om er kp ki x, s.opReads u k r 0x1E [d, a, b] [(d, 2), (a, 1), (b, 2)] [[th, om], [er], [kp, ki]] →
      s.graphAxis r.graph = some x → r.est = 0 → guardOk [th, om, er, kp, ki] = true → ∃ t, exec (.pll k d a b) s = .next t ∧
        let o := fAdd om (fMul (fMul ki er) (u.tpF x))
        u.puts k r.graph [(d, 0, [fWrap (fAdd th (fMul (fAdd o (fMul kp er)) (u.tpF x))), o])] t) ∧
    (∀ r u e w bd x, s.opReads u k r 0x21 [d, a, b, c] [(a, 6), (b, 3), (c, 1)] [e, w, [bd]] → s.graphAxis r.graph = some x →
      guardOk (e ++ w ++ [bd]) = true → ∃ t, exec (.blend k d a b c) s = .next t ∧ let th := [nth 0 e 0, nth 0 e 2, nth 0 e 4]
        let o := blendOut th [nth 0 e 1, nth 0 e 3, nth 0 e 5] w (u.sv x).thetaO (u.sv x).omegaO (u.tpF x) ((u.periodView r.graph).paramF x 0x0A0E 0x3CA3D70A#32)
        u.putsRun k r.graph [(d, 0, [o.1, o.2, fBool (fLt bd (disagreement th (u.fld (F.MC_BLV_STAT_RUNNING x))))])] t) ∧
    (∀ r u om tl id_ iq p x, s.opReads u k r 0x22 [d, a, b, c] [(a, 2), (b, 2), (c, 1)] [[om, tl], [id_, iq], [p]] →
      s.graphAxis r.graph = some x → guardOk [om, tl, id_, iq, p] = true → ∃ t om' tl', exec (.model k d a b c) s = .next t ∧
        (u.bridgeOn x = false → om' = (u.sv x).omegaO ∧ tl' = fZero ∧ u.putsRun k r.graph [(a, 0, [om', tl']), (d, 0, [om', fZero])] t) ∧
        (u.bridgeOn x = true → bit (u.sv x).seed 3 = false →
          u.putsRun k r.graph [(a, 0, [om', tl']), (d, 0, [om', fSub (u.sv x).omegaO om])] t)) ∧
    (∀ r u vs, s.opReads u k r 0x1C [d, a, b, c] [(a, 1), (b, 1), (c, 1)] vs → guardOk (nth [] vs 0 ++ nth [] vs 2) = true →
      ∃ t l n, exec (.dtcomp k d a b c) s = .next t ∧ State.puts { u with free := n } k r.graph [(d, 0, l)] t) ∧
    (∀ r u vs, (s.opReads u k r 0x1D [d, a, b, c] [(a, 2), (b, 2), (c, 1), (d, 1)] vs ∧ (vs.take 3).all guardOk = true ∧ opSpace d = 0 →
        ∃ t l, exec (.bemf k d a b c) s = .next t ∧ (t.kiosk k).run = ((u.kiosk k).run).map
          (fun q => { q with scratch := putScratch q.scratch (opAddr d / 4) l, est := 1 })) ∧
      (s.opReads u k r 0x20 [d, a, b, c] [(a, 2), (b, 2), (c, 1), (d, 1)] vs ∧ (vs.take 3).all guardOk = true ∧ opSpace d = 0 →
        ∃ t l, exec (.flux k d a b c) s = .next t ∧ (t.kiosk k).run = ((u.kiosk k).run).map
          (fun q => { q with scratch := putScratch q.scratch (opAddr d / 4) l, est := 0 })) ∧
      (s.opReads u k r 0x1F [d, a, b, c] [(a, 2), (b, 1), (c, 1), (d, 1)] vs →
        (s.injSuspended r.graph = true → ∃ t, exec (.hfi k d a b c) s = .next t ∧ t.mem = s.mem ∧
          ∃ q n, (t.kiosk k).run = some q ∧ q = { r with steps := n, ops := r.ops + 1, est := 2 }) ∧
        (s.injSuspended r.graph = false → (vs.take 3).all guardOk = true → opSpace d = 0 → ∃ t l, exec (.hfi k d a b c) s = .next t ∧
          (t.kiosk k).run = ((u.kiosk k).run).map (fun q => { q with scratch := putScratch q.scratch (opAddr d / 4) l, est := 2 }))))

/-- Table 5.4, R680: LUT gives the value of a point of its MAP record at its x, interpolates between two, and is flat beyond the
ends, with the range word 0, 1, 2 or 3; a NaN in the record or for x gives the quiet NaN (R140). TIMER reads +1.0 once dur
seconds of Sundial time have passed since run became nonzero, and +0.0 before and with run zero (log entry 33). SMSTEP makes at
most one transition, to a state that is not stated (free, log entry 1), and gives the quiet NaN where its state or input is NaN
(R140). BLKCPY copies n words of 1 to 64 and EVENT raises event 112 to 127, and with n outside the task is abandoned with detail
6 (R679); a copy from a line of a window that is not cached waits for it (R600). PGLTRIG with a channel number above 15 only
counts in NOCH (R607). ACQ takes a free lock of its kiosk's half that is above every lock held and waits for one that another
task holds; REL frees a lock held; else the task is abandoned with detail 2 (R152, R153). -/
def Obligations.TaskOperatorsLookUpCopySignalAndLock : Prop :=
  ∀ (s : State) (k : Nat) (d a b : Word) (fl : List (Nat × Bool)),
    (∀ r u x m, s.opReads u k r 0x23 [d, a, b] [(a, 1), (b, 20)] [[x], m] → let pts := lutPts m
      rising pts = true → ∃ t v n, exec (.lut k d a b) s = .next t ∧ u.puts k r.graph [(d, 0, [v, n])] t ∧
        let first := nth (0, 0) pts 0
        let last := nth (0, 0) pts (pts.length - 1)
        let bad := pts.any (fun p => fIsNaN p.2)
        (fIsNaN x = true → n = 3) ∧ (fIsNaN x = true ∨ bad = true → v = fNaN) ∧ (fLt x first.1 = true → n = 1) ∧
        (fLt last.1 x = true → n = 2) ∧ (bad = false → fLt x first.1 = true → v = fFlush first.2) ∧
        (bad = false → fLt last.1 x = true → v = fFlush last.2) ∧
        (fIsNaN x = false → fLt x first.1 = false → fLt last.1 x = false → n = 0) ∧
        (bad = false → fIsNaN x = false → fLt x first.1 = false → fLt last.1 x = false →
          (∀ p, p ∈ pts → fEq x p.1 = true → v = fFlush p.2) ∧
          ∀ pre p q post, pts = pre ++ p :: q :: post → fFinite p.2 = true → fFinite q.2 = true → fLt p.1 x = true →
            fLt x q.1 = true → v = fOfFrac (lutQ [p, q] (fVal x)))) ∧
    (∀ r u vs, s.opReads u k r 0x24 [d, a, b] [(d, 1), (a, 1), (b, 1)] vs → ∃ t v n, exec (.smstep k d a b) s = .next t ∧
      (fIsNaN (nth 0 (nth [] vs 0) 0) = true ∨ fIsNaN (nth 0 (nth [] vs 2) 0) = true → v = fNaN) ∧
      State.puts { u with free := n } k r.graph [(d, 0, [v])] t) ∧
    (∀ r u dur run, s.opReads u k r 0x25 [d, a, b] [(a, 1), (b, 1)] [[dur], [run]] → opSpace d = 0 →
      ∃ t, exec (.timer k d a b) s = .next t ∧ let from_ := (u.timerAt r.graph d).getD u.now
        let o := [fBool (run != 0 && timerDone dur (u.now - from_))]
        (t.kiosk k).run = ((u.kiosk k).run).map (fun q => { q with scratch := putScratch q.scratch (opAddr d / 4) o }) ∧
        t.timerAt r.graph d = if run = 0 then none else some from_) ∧
    (∀ r u n, (s.upsets fl).opReads u k r 0x26 [d, a, b] [(b, 1)] [[n]] →
      (u.copyFits r d a n.toNat = false → ∃ t, exec (.blkcpy k fl d a b) s = .next t ∧ u.abandoned t k r 6) ∧
      let c := u.constWords r [(a, n.toNat)]
      (∀ p, u.copyFits r d a n.toNat = true → (u.touchWords c).1 = some p → u.flag F.ICE_STAT_RELEASED = false →
        ∃ t, exec (.blkcpy k fl d a b) s = .next t ∧ (t.kiosk k).run =
          ((u.kiosk k).run).map (fun q => { q with steps := r.steps, ops := r.ops, stalled := some p })) ∧
      (u.copyFits r d a n.toNat = true → (u.touchWords c).1 = none → ∀ l v m,
        ((u.touchWords c).2.addSteps k m).readAll k r [(a, n.toNat)] = (some [l], v) →
        m = 2 * n.toNat + (accessCosts 0x26 n.toNat [d, a, b] - accessCosts 0x26 1 [d, a, b] +
          6 * (c.length - (u.constWords r [(a, 1)]).length)) →
        ∃ t, exec (.blkcpy k fl d a b) s = .next t ∧ v.puts k r.graph [(d, 0, l)] t)) ∧
    (∀ r u n, s.opReads u k r 0x27 [a] [(a, 1)] [[n]] → ∃ t, exec (.event k a) s = .next t ∧
      (112 ≤ n.toNat → n.toNat ≤ 127 → t.pend n.toNat = true) ∧ (n.toNat < 112 ∨ 127 < n.toNat → u.abandoned t k r 6)) ∧
    (∀ r u n, s.opReads u k r 0x28 [a] [(a, 1)] [[n]] → ∃ t, exec (.pgltrig k a) s = .next t ∧
      (n.toNat < 16 → t = u.pglTrigReg n.toNat) ∧
      (16 ≤ n.toNat → t = u.inc F.PGL_STAT_NOCH)) ∧
    (∀ r u n, s.opReads u k r 0x29 [a] [(a, 1)] [[n]] → let l := n.toNat
      let fits := (if s.role k = 3 then 8 ≤ l ∧ l ≤ 15 else l < 8) ∧ ∀ h, h < 16 → nth none u.fab.locks h = some k → h < l
      ∃ t, exec (.acq k a) s = .next t ∧ (¬fits → u.abandoned t k r 2) ∧
        (fits → u.fab.locks[l]? = some none → t.fab.locks = setNth u.fab.locks l (some k)) ∧
        (fits → ∀ j, nth none u.fab.locks l = some j → t.fab.locks = u.fab.locks ∧
          (t.kiosk k).run = ((u.kiosk k).run).map (fun q => { q with lock := some l }))) ∧
    ∀ r u n, s.opReads u k r 0x2A [a] [(a, 1)] [[n]] → ∃ t, exec (.rel k a) s = .next t ∧
      (n.toNat < 16 → nth none u.fab.locks n.toNat = some k → nth none t.fab.locks n.toNat ≠ some k ∧ (t.kiosk k).run = (u.kiosk k).run) ∧
      (¬(n.toNat < 16 ∧ nth none u.fab.locks n.toNat = some k) → u.abandoned t k r 2)

/-! ### Sensing, comparators and position inputs -/

/-- R232, R234 to R236, R241: with VREFA in the range of table 23.2, the last conversion of an entry in progress delivers, to
the axis that owns the input, the record of source 16 + a: raw is the mean, with halves up, of the codes floor(16384 × V /
VREFA) held between 0 and 16383, SAT stands for a code 0 or 16383, WAITED for a late start, and the hold instant is as R235
places it; the sequence then goes to its next entry, or ends and the one that waits starts, which sets WAIT of its axis and
counts (R236). (The voltages are those that the converter takes, its errors of R667 included: log entry 81.) R237, R266, R267: a
converter that is idle, with nothing due for 200 ns, converts an input whose turn it is, at most once in 10 µs, or a device
input, or reads a DAC back; a DAC that its ramp moves is not judged; the second read-back in a row beyond TOL raises code 21 for
an axis's comparator, 41 for the device's. R444: the EDGES record of the interval that has ended is delivered. R247, R240: SDCLK
changes a divider within 16 to 80 only while that axis's bridge is disabled and makes its four paths STALE; CAL takes a GAIN in
range and any OFS. -/
def Obligations.ConversionsDeliverTheirRecordsAndSequencesGoOn : Prop :=
  ∀ (s : State), s.isRunning = true →
    let code (uv vref : Int) : Nat := (min 16383 (16384 * max 0 uv / vref)).toNat
    (∀ (m : Nat) (uv : List Int) (vref : Int) (r : SeqRun), (s.sar m).run = some r → uv.length = seqRep r.seq r.entry →
      2985000 ≤ vref → vref ≤ 3015000 → ∃ t, exec (.sarConversionEnd m uv vref) s = .next t ∧
        let codes := uv.map (fun v => code v vref)
        let x : Axis := if r.axis = 0 then .a else .b
        let a := seqSel r.seq r.entry
        (s.ainOwner a = r.axis + 1 → ∃ v f, t.src x.ix (16 + a) = [v, f, BitVec.ofInt 32 (meanCode codes : Nat),
            BitVec.ofNat 32 ((16 * (r.start - r.at_) + 1280 * (r.convs + codes.length - 1) + 80 * r.w) * 5 / 32)] ∧
          bit f.toNat 0 = codes.any (fun c => c == 0 || c == 16383) ∧ bit f.toNat 4 = r.waited) ∧
        (r.entry ≠ 3 → seqSel r.seq (r.entry + 1) < 16 →
          (t.sar m).run = some { r with entry := r.entry + 1, convs := r.convs + codes.length }) ∧
        (r.entry = 3 ∨ 16 ≤ seqSel r.seq (r.entry + 1) →
          ((s.sar m).wait = [] → (t.sar m).run = none) ∧
          (∀ e q, (s.sar m).wait = e :: q → seqSel (s.seqWord e.1 e.2.1 m) 0 < 16 → (t.sar m).wait = q ∧
            (t.sar m).run.map (fun n => (n.axis, n.slot, n.entry, n.waited, n.at_)) = some (e.1, e.2.1, 0, true, e.2.2) ∧
            let y : Axis := if e.1 = 0 then .a else .b
            t.fld (waitFld y) = 1 ∧ t.fld (F.SNS_CNT_WAIT y) = min 255 (s.fld (F.SNS_CNT_WAIT y) + 1)) ∧
          (∀ e, (s.sar m).wait = [e] → 16 ≤ seqSel (s.seqWord e.1 e.2.1 m) 0 → (t.sar m).run = none ∧ (t.sar m).wait = []))) ∧
    (∀ (m a ahead : Nat) (uv vref : Int), m < 2 → (s.sar m).run = none → (s.sar m).wait = [] → a < 16 → 2985000 ≤ vref → vref ≤ 3015000 →
      let c : Instr := .backgroundConversion m (.ain a) uv vref ahead
      (ahead < 200 → exec c s = .next s) ∧
      (∀ x : Axis, s.ainOwner a = x.ix + 1 → 200 ≤ ahead →
        (s.bgTurn a = true → ∃ t v f h, exec c s = .next t ∧ t.src x.ix (16 + a) = [v, f, BitVec.ofNat 32 (code uv vref), h]) ∧
        (s.inSeq x.ix a = true → exec c s = .next s) ∧
        (∀ w, nth none s.sns.bgAt a = some w → s.ticks < w + 4000 → exec c s = .next s)) ∧
      (s.ainOwner a = 3 → 200 ≤ ahead → ∃ t v f h, exec c s = .next t ∧
        t.src 3 (16 + a) = [v, f, BitVec.ofNat 32 (code uv vref), h]) ∧
      exec (.backgroundConversion m .other uv vref ahead) s = .next s) ∧
    (∀ (m k ahead : Nat) (uv vref : Int), m < 2 → (s.sar m).run = none → (s.sar m).wait = [] → 200 ≤ ahead → 2985000 ≤ vref → vref ≤ 3015000 →
      (0 < s.dacRamp k 0 → exec (.backgroundConversion m (.dac k) uv vref ahead) s = .next s) ∧
      (s.flag F.HAH_RB_CFG_EN = true → s.dacs.contains k = true → s.dacRamp k 0 = 0 →
        4 * s.dacCode k 0 + s.fld F.HAH_RB_CFG_TOL < code uv vref ∨ code uv vref + s.fld F.HAH_RB_CFG_TOL < 4 * s.dacCode k 0 →
        ∃ t, exec (.backgroundConversion m (.dac k) uv vref ahead) s = .next t ∧ t.getBit F.HAH_RB_STAT_ERR k = true ∧
          (nth 0 s.sns.rbRun k = 1 → ∀ o, s.hahOwner (k / 2) = o → (o = 1 → t.stat 1 21 = true) ∧ (o = 2 → t.stat 2 21 = true) ∧
            (o = 3 → t.stat 0 41 = true)))) ∧
    (∀ x : Axis, ∃ t, exec (.edgesDelivery x) s = .next t ∧
      t.src x.ix 8 = [BitVec.ofNat 32 (nth Ival.zero (s.tb x).past 0).len, BitVec.ofNat 32 (b2n (s.tr x).errEnd)] ++
        (s.tr x).edgesEnd ++ [0, 0]) ∧
    ∀ (w : Word), (∃ t, exec (.sdclkWrite w) s = .next t ∧ ∀ x : Axis, let v := fieldOf (divFld x) w
        if s.bridgeOn x = false ∧ 16 ≤ v ∧ v ≤ 80 then t.fld (divFld x) = v ∧
          (v ≠ s.fld (divFld x) → ∀ q, q < 4 → nth true t.sns.sdStale (4 * x.ix + q) = true)
        else t.fld (divFld x) = s.fld (divFld x)) ∧
      ∀ n, n < 10 → ∃ t, exec (.calWrite n w) s = .next t ∧ s.onlyRegs [A.SNS_CAL n] { t with sns := s.sns } ∧
        t.fld (F.SNS_CAL_OFS n) = fieldOf (F.SNS_CAL_OFS n) w ∧ let g := fieldOf (F.SNS_CAL_GAIN n) w
        t.fld (F.SNS_CAL_GAIN n) = if 0x6000 ≤ g ∧ g ≤ 0xA000 then g else s.fld (F.SNS_CAL_GAIN n)

/-- R223: the code of a bit density d, as the filter weighs it, is 32768 × (2d − 1) rounded to the nearest integer and held in
16 bits, either of two where it lies half way. R226 to R228: the FILT + 1 st result in a row outside its window trips an owned
input: FTRIP, its event, and the hardware signal of its owner (code 3 for a phase current); as many inside clear it. R225: a
path is STALE until 3 × OSR − 2 bits have been captured. R230: 1024 clocks at one level raise code 20, for a device input 40; a
change of level ends the cause with no other input stuck. R252, R254, R256 to R259, R263: a sample of a side is outside where
the input lies beyond c × VREFA / 4096 (as the comparator takes them, log entry 81); a cleared side trips where more than half
of its last 2 × FILT + 1 samples (FILT 0 as 1; above 15 the 31 samples kept count, log entry 82) are outside and a tripped one
clears where all are inside, else it stays; one that trips shows in STATE and its sticky bit with its event, and a HW-routed
side asserts its signal; one that clears ends the cause of code 3 it asserted where no source asserts it any more. R194, R264:
in six-step a CBC-routed HI side of AUX or of the PWM phase turns the PWM phase's high side off and counts, but in a safe state,
which keeps its switches (R477). An input or a comparator without an owner never trips. -/
def Obligations.WindowsAndComparatorsTripAndClear : Prop :=
  ∀ (s : State) (i : Nat), s.isRunning = true →
    (∀ (ws : List Nat) (bits : List Bool), bits.length = ws.length → 0 < ws.foldl (· + ·) 0 →
      let sum : Int := (ws.foldl (· + ·) 0 : Nat)
      let ones : Int := (((ws.zip bits).map (fun e => if e.2 then e.1 else 0)).foldl (· + ·) 0 : Nat)
      let m := 32768 * (2 * ones - sum)
      let c := (s.densityCode ws bits).1
      c ≤ 32767 ∧ -32768 ≤ c ∧ 2 * sum * c ≤ 2 * m + sum ∧ (c = 32767 ∨ 2 * m - sum ≤ 2 * sum * c)) ∧
    (∀ (bits : List Bool), i < 8 → s.sddOwner i ≠ 0 →
      let code := (s.densityCode (sinc2Weights (s.osr2 i)) bits).1
      let out : Prop := signed 16 (s.fld (F.SNS_FTHR_HI i)) < code ∨ code < signed 16 (s.fld (F.SNS_FTHR_LO i))
      (out → s.sns.fTrip[i]? = some false → s.fld (F.SNS_SDCH_FILT i) ≤ nth 0 s.sns.fRun i →
        ∃ t, exec (.sinc2Result i bits) s = .next t ∧ nth true t.sns.fTrip i = true ∧ t.getBit F.SNS_STAT_FTRIP i = true ∧
          t.pend (evAx (sddAxis i) (22 + i % 4)) = true ∧
          ∀ x, ownerAxis (s.sddOwner i) = some x → i % 4 ≠ 3 → t.stat (scAxis x) 3 = true ∧ t.cause (scAxis x) 3 = true) ∧
      (¬out → s.sns.fTrip[i]? = some true → s.fld (F.SNS_SDCH_FILT i) ≤ nth 0 s.sns.fRun i →
        ∃ t, exec (.sinc2Result i bits) s = .next t ∧ nth true t.sns.fTrip i = false)) ∧
    (∀ captured, i < 8 → s.sddOwner i ≠ 0 →
      (3 * s.osr3 i - 2 ≤ captured → exec (.sinc3Settled i captured) s =
        .next { s with sns := { s.sns with sdStale := setNth s.sns.sdStale i false } }) ∧
      (captured < 3 * s.osr3 i - 2 → exec (.sinc3Settled i captured) s = .next s)) ∧
    (∀ clocks, i < 8 → s.sddOwner i ≠ 0 →
      (1024 ≤ clocks → nth false s.sns.stuck i = false → ∃ t, exec (.sigmaDeltaInputStuck i clocks) s = .next t ∧
        t.getBit F.SNS_STAT_STUCK i = true ∧
        (∀ x, ownerAxis (s.sddOwner i) = some x → t.stat (scAxis x) 20 = true ∧ t.cause (scAxis x) 20 = true) ∧
        (ownerAxis (s.sddOwner i) = none → t.stat 0 40 = true ∧ t.cause 0 40 = true)) ∧
      (nth false s.sns.stuck i = true → (∀ j, j < 8 → j ≠ i → nth false s.sns.stuck j = false) →
        ∃ t, exec (.sigmaDeltaInputStuck i 0) s = .next t ∧
          (∀ x, ownerAxis (s.sddOwner i) = some x → t.cause (scAxis x) 20 = false) ∧
          (ownerAxis (s.sddOwner i) = none → t.cause 0 40 = false))) ∧
    ∀ (hi : Bool) (uv vref : Int), i < 12 →
      let d := s.side (sideIx i hi)
      let dac : Int := (s.dacCode (sideIx i hi) 0 : Nat)
      let outside : Bool := if hi then decide (dac * vref < 4096 * uv) else decide (4096 * uv < dac * vref)
      let n := 2 * max 1 (s.fld (F.HAH_CMP_FILT i)) + 1
      let last := ((outside :: d.outs).take 31).take n
      let trips : Prop := n < 2 * (last.filter id).length
      (s.hahOwner i = 0 → exec (.comparatorTrip i hi [uv] vref) s = .next s ∧ exec (.comparatorClear i hi [uv] vref) s = .next s) ∧
      (s.hahOwner i ≠ 0 → d.trip = false → ¬trips → ∃ t, exec (.comparatorTrip i hi [uv] vref) s = .next t ∧
        (t.side (sideIx i hi)).trip = false) ∧
      (s.hahOwner i ≠ 0 → d.trip = false → trips → ∃ t, exec (.comparatorTrip i hi [uv] vref) s = .next t ∧
        (t.side (sideIx i hi)).trip = true ∧ t.getBit F.HAH_STATE_TRIPPED i = true ∧
        t.getBit (if hi then F.HAH_STICKY_HI else F.HAH_STICKY_LO) i = true ∧ t.pend (evAx (cmpAxis i) (22 + i % 6)) = true ∧
        ∀ x, ownerAxis (s.hahOwner i) = some x →
          (s.sideSignal i hi = some 0 → t.stat (scAxis x) 3 = true ∧ t.cause (scAxis x) 3 = true) ∧
          (s.sideSignal i hi = some 1 → (t.tr x).brkOc = true) ∧ (s.sideSignal i hi = some 2 → (t.tr x).ovSig = true) ∧
          (let p := (sixPhases (s.fld (F.PW_SIX_SECTOR x))).1
           hi = true → s.sideRoute i hi = 2 → i % 6 = 5 ∨ i % 6 = p → p < 3 → s.flag (F.PW_SIX_SIXSTEP x) = true →
             (t.tb x).cbc = true ∧
             (s.safe x ≠ 0 → (t.tr x).cmd = (s.tr x).cmd) ∧
             (s.safe x = 0 → bit (s.tr x).cmd (2 * p) = true → bit (t.tr x).cmd (2 * p) = false ∧
               t.fld (cbcFld x) = min 65535 (s.fld (cbcFld x) + 1)))) ∧
      (s.hahOwner i ≠ 0 → s.hah.sides[sideIx i hi]? = some d → d.trip = true →
        (last.any id = true → ∃ t, exec (.comparatorClear i hi [uv] vref) s = .next t ∧ (t.side (sideIx i hi)).trip = true) ∧
        (last.any id = false → ∃ t, exec (.comparatorClear i hi [uv] vref) s = .next t ∧
          (t.side (sideIx i hi)).trip = false ∧ t.getBit F.HAH_STATE_TRIPPED i = (s.side (sideIx i (!hi))).trip ∧
          ∀ x : Axis, d.sig = some (x.ix, 0) → t.signalOn x 0 = false → t.cause (scAxis x) 3 = false))

/-- R268 to R271, R299: a code that the lines of a named Hall set have held for FILT × 0.1 µs and that differs from the last is
accepted: 0 and 7 are INVALID with INVCODE and INVALIDS; another shows its sector, sets θ of an axis in RUN to the boundary
entered, and a change from a valid sector that is not to a neighbour sets SKIP and counts. A shorter code changes nothing. R272:
one line of an encoder changing counts up or down by which line leads and DIRINV; both at once set ERR, count in ERRS and end
the trust, with code 25 for an axis in RUN that R306 does not carry on. R273: a Z pulse is the rising edge of the line's level,
inverted where INV says so, held as long, and with ZGATE while A and B are 1; any other acceptance of a level changes only that
level, and a level held shorter nothing. The first Z sets the reference, ZSEEN and TRUSTED; a later one within the tolerance
restores the trust, and one beyond it sets ZERR, counts, takes the count as reference and ends the trust. -/
def Obligations.HallSetsAndEncodersFollowTheirInputs : Prop :=
  ∀ (s : State) (e : Axis), s.isRunning = true →
    (∀ lines ns, s.posAxes (1 + e.ix) ≠ [] →
      let code := (BitVec.ofNat 3 lines ^^^ BitVec.ofNat 3 (s.fld (F.HAH_HALL_CFG_INV e))).toNat
      let k := hallSector code
      let d := (k + 6 - s.fld (F.HAH_HALL_ST_SECTOR e)) % 6
      let ok := s.flag (F.HAH_HALL_ST_INVALID e) = false
      (ns < 100 * max 1 (s.fld (F.HAH_HALL_CFG_FILT e)) → exec (.hallCodeAccept e lines ns) s = .next s) ∧
      (100 * max 1 (s.fld (F.HAH_HALL_CFG_FILT e)) ≤ ns → code ≠ s.fld (F.HAH_HALL_ST_CODE e) →
        ∃ t, exec (.hallCodeAccept e lines ns) s = .next t ∧ t.fld (F.HAH_HALL_ST_CODE e) = code ∧
          (code = 0 ∨ code = 7 → t.fld (F.HAH_HALL_ST_INVALID e) = 1 ∧ t.fld (F.HAH_HALL_ST_INVCODE e) = 1 ∧
            t.fld (F.HAH_HALL_ST_INVALIDS e) = min 255 (s.fld (F.HAH_HALL_ST_INVALIDS e) + 1)) ∧
          (code ≠ 0 → code ≠ 7 → t.fld (F.HAH_HALL_ST_INVALID e) = 0 ∧ t.fld (F.HAH_HALL_ST_SECTOR e) = k ∧
            (ok → d ≠ 1 → d ≠ 5 → t.fld (F.HAH_HALL_ST_SKIP e) = 1 ∧
              t.fld (F.HAH_HALL_ST_SKIPS e) = min 255 (s.fld (F.HAH_HALL_ST_SKIPS e) + 1)) ∧
            (ok → d = 1 ∨ d = 5 → t.fld (F.HAH_HALL_ST_SKIPS e) = s.fld (F.HAH_HALL_ST_SKIPS e) ∧
              ∀ x, x ∈ s.posAxes (1 + e.ix) → s.axState x = 4 →
                t.word (F.MC_X_THETA x) = fAngle (qWrap (s.hallBoundary x k (d == 5))))))) ∧
    (∀ a b samples, s.fld (F.HAH_ENC_CFG_FILT e) < samples →
      let qa := a != bit (s.fld (F.HAH_ENC_CFG_INV e)) 0
      let qb := b != bit (s.fld (F.HAH_ENC_CFG_INV e)) 1
      let c := s.rd (A.HAH_ENC_CNT e)
      (qa = (s.enc e).qa → qb = (s.enc e).qb → exec (.encoderStep e a b samples) s = .next s) ∧
      (qa ≠ (s.enc e).qa → qb = (s.enc e).qb → ∃ t, exec (.encoderStep e a b samples) s = .next t ∧
        t.rd (A.HAH_ENC_CNT e) = if (qa != qb) != s.flag (F.HAH_ENC_CFG_DIRINV e) then c + 1 else c - 1) ∧
      (qa = (s.enc e).qa → qb ≠ (s.enc e).qb → ∃ t, exec (.encoderStep e a b samples) s = .next t ∧
        t.rd (A.HAH_ENC_CNT e) = if (qa == qb) != s.flag (F.HAH_ENC_CFG_DIRINV e) then c + 1 else c - 1) ∧
      (qa ≠ (s.enc e).qa → qb ≠ (s.enc e).qb → ∃ t, exec (.encoderStep e a b samples) s = .next t ∧ t.rd (A.HAH_ENC_CNT e) = c ∧
        t.fld (F.HAH_ENC_ST_ERR e) = 1 ∧ t.fld (F.HAH_ENC_ST_TRUSTED e) = 0 ∧
        t.fld (F.HAH_ENC_ST_ERRS e) = min 65535 (s.fld (F.HAH_ENC_ST_ERRS e) + 1) ∧
        ∀ x, x ∈ s.posAxes (3 + e.ix) → s.axState x = 4 →
          s.flag (F.MC_MODE_POS_LOSS x) = false ∨ s.flag (F.MC_BLV_STAT_AGREE x) = false → t.stat (scAxis x) 25 = true)) ∧
    (∀ z samples, samples ≤ s.fld (F.HAH_ENC_CFG_FILT e) → exec (.encoderZ e z samples) s = .next s) ∧
    ∀ z samples r, s.hah.encs[e.ix]? = some r → s.fld (F.HAH_ENC_CFG_FILT e) < samples →
      let qz := z != bit (s.fld (F.HAH_ENC_CFG_INV e)) 2
      (qz = false ∨ r.qz = true ∨ s.flag (F.HAH_ENC_CFG_ZGATE e) = true ∧ (r.qa = false ∨ r.qb = false) →
        exec (.encoderZ e z samples) s = .next (s.modEnc e (fun r => { r with qz := qz }))) ∧
      (qz = true → r.qz = false → s.flag (F.HAH_ENC_CFG_ZGATE e) = false ∨ (r.qa = true ∧ r.qb = true) →
        (s.flag (F.HAH_ENC_ST_ZSEEN e) = false → ∃ t, exec (.encoderZ e z samples) s = .next t ∧ t.fld (F.HAH_ENC_ST_ZSEEN e) = 1 ∧
          t.fld (F.HAH_ENC_ST_TRUSTED e) = 1 ∧ (t.enc e).ref = s.rd (A.HAH_ENC_CNT e)) ∧
        (s.flag (F.HAH_ENC_ST_ZSEEN e) = true → ∀ x l, s.posAxes (3 + e.ix) = x :: l →
          let d := s.encTurn x e
          let tol := s.paramN x 0x0803 4
          (d ≤ tol ∨ s.encCpr x ≤ d + tol → ∃ t, exec (.encoderZ e z samples) s = .next t ∧ t.fld (F.HAH_ENC_ST_TRUSTED e) = 1 ∧
            (t.enc e).ref = r.ref) ∧
          (tol < d → d + tol < s.encCpr x → ∃ t, exec (.encoderZ e z samples) s = .next t ∧ t.fld (F.HAH_ENC_ST_ZERR e) = 1 ∧
            t.fld (F.HAH_ENC_ST_TRUSTED e) = 0 ∧ (t.enc e).ref = s.rd (A.HAH_ENC_CNT e) ∧
            t.fld (F.HAH_ENC_ST_ZERRS e) = min 255 (s.fld (F.HAH_ENC_ST_ZERRS e) + 1))))

/-! ### The axis state machine -/

/-- R288, R289, R290, R283: ARM, START, STOP, COAST and CLEAR reach an axis with their tag. With the timebase stopped a command
resolves as REFUSED_STATE; with none pending it waits for the slot 0 instant; with one pending, the one of higher priority
(COAST, STOP, CLEAR, START, ARM; of equals the later) waits, and the other resolves as SUPERSEDED. A resolution shows TAG,
RESULT and origin with "command result". R321: after REV_DWELL in OFF a reversal issues a START of origin 2, with the tag of the
last START (which tag it carries is not stated: log entry 22). -/
def Obligations.AxisCommandsWaitForSlot0OrResolve : Prop :=
  ∀ (s : State) (x : Axis) (tag : Nat), s.isRunning = true →
    let shows (t : State) (c : Cmd) (result : Nat) : Prop := t.fld (F.MC_STATE_TAG x) = c.tag % 256 ∧
      t.fld (F.MC_STATE_RESULT x) = result ∧ t.fld (F.MC_STATE_SRC x) = c.src % 4 ∧ t.pend (evAx x 4) = true
    let arrives (i : Instr) (c : Cmd) : Prop := ∃ t, exec i s = .next t ∧
      (s.flag (F.PW_CTRL_EN x) = false → shows t c 2 ∧ (t.ax x).cmd = (s.ax x).cmd) ∧
      (s.flag (F.PW_CTRL_EN x) = true →
        (s.pendCmd x = none → (t.ax x).cmd = some c ∧ t.regs = s.regs) ∧
        (∀ p, s.pendCmd x = some p → if cmdPrio p.code ≤ cmdPrio c.code
          then (t.ax x).cmd = some c ∧ (t.ax x).startWait = none ∧ shows t p 8
          else (t.ax x).cmd = (s.ax x).cmd ∧ (t.ax x).startWait = (s.ax x).startWait ∧ shows t c 8))
    (∀ e, e ∈ [((.arm x tag : Instr), 1), (.start x tag, 2), (.stop x tag, 3), (.coast x tag, 4), (.clear x tag, 5)] →
      arrives e.1 { code := e.2, tag := tag % 256, src := 0, slot := none }) ∧
    ∀ us c, s.axState x = 0 → (s.sv x).rev = 2 → s.reached x us 0x0911 (1, 2) = true → (s.ax x).lastStart = some c →
      arrives (.reversalRestart x us) { code := 2, tag := c.tag, src := 2, slot := none }

/-- R282 to R286, R291 to R293, R485, R321: with u the state once speed, limits, thresholds and overspeed have been judged at a
slot 0 instant: an axis that a fault marks goes to SAFE from ARMED to BRAKE, and its command resolves as REFUSED_FAULT. Else the
pending command acts. ARM leaves OFF for ARMED where every arm condition holds, and resolves with the first unmet one otherwise;
START does the same and waits for the bootstraps; COAST leaves ARMED to BRAKE for OFF; STOP leaves RUN for STOPPING; a START in
external-command mode is refused; CLEAR leaves SAFE and LOCKOUT for OFF under R485, and is refused with REFUSED_FAULT otherwise.
Without a command, an axis in RUN that is to reverse, and may not through zero, goes to STOPPING. -/
def Obligations.AxisEvaluationTakesFaultsThenTheCommandThenTheState : Prop :=
  ∀ (s : State) (x : Axis), (s.counts x = false → exec (.axisEvaluate x) s = .next s) ∧
    (s.counts x = true → ∃ t, exec (.axisEvaluate x) s = .next t ∧
      let u := ((((s.speedUpdate x).limitJudge x).thresholds x).aboveUpdate x).overspeed x
      let went (st : Nat) : Prop := t.axState x = st ∧ t.fld (F.MC_STATE_PREV x) = u.axState x ∧ t.pend (evAx x 3) = true
      let resolved (c : Cmd) (result : Nat) : Prop := t.fld (F.MC_STATE_TAG x) = c.tag % 256 ∧ t.fld (F.MC_STATE_RESULT x) = result ∧
        (t.ax x).cmd = none ∧ t.pend (evAx x 4) = true
      ((u.ax x).fault = true → 1 ≤ u.axState x → u.axState x < 7 → went 7 ∧ ∀ c, u.pendCmd x = some c → resolved c 6) ∧
      ((u.ax x).fault = false → ∀ c, (u.ax x).cmd = some c →
        (c.code = 1 → u.testHolds x = false → u.axState x = 0 →
          if u.armCheck x = 1 then went 1 ∧ resolved c 1 else t.axState x = 0 ∧ resolved c (u.armCheck x)) ∧
        (c.code = 2 → u.testHolds x = false →
          (u.axState x = 0 → u.flag (F.TR_CFG_EXT x) = false → if u.armCheck x = 1 then went 1 ∧ (t.ax x).startWait = some c
            else t.axState x = 0 ∧ resolved c (u.armCheck x)) ∧
          (u.axState x = 7 ∨ u.axState x = 8 → t.axState x = u.axState x ∧ resolved c 2)) ∧
        (c.code = 1 ∨ c.code = 2 → u.testHolds x = true ∨ (c.code = 2 ∧ u.flag (F.TR_CFG_EXT x) = true) → resolved c 2 ∧
          (u.axState x ≤ 1 ∨ 6 ≤ u.axState x → t.axState x = u.axState x)) ∧
        (c.code = 4 → 1 ≤ u.axState x → u.axState x ≤ 6 → went 0 ∧ resolved c 1) ∧
        (c.code = 3 → u.axState x = 4 → u.fld (F.MC_MODE_STOP_MODE x) ≠ 2 → went 5 ∧ resolved c 1) ∧
        (c.code = 5 → u.axState x = 7 ∨ u.axState x = 8 →
          if u.clearOk x then went 0 ∧ resolved c 1 else t.axState x = u.axState x ∧ resolved c 6)) ∧
      ((u.ax x).fault = false → (u.ax x).cmd = none → u.axState x = 4 → u.reversed x = true → u.revThrough x = false →
        went 5 ∧ (t.sv x).rev = 1))

/-- R282, table 9.3: the conditions of a state are judged at slot 0, where a recorded fault goes first, and lets the axis go to
SAFE alone; with none, and no command pending: R294, R295, R305, R306, R314, R318, R321, R326: bootstraps not ready after
ARM_TIMEOUT raise code 23 and lead to SAFE; once ready a pending START proceeds: into identification (R367), flying restart
(R362, during which the START stays pending: log entry 21), RUN for a trusted sensor, or ALIGN. A stop ends 10 ms at or below
STOP_SPEED in OFF, in BRAKE with RAMP_HOLD, and in OFF to wait with a reversal; past STOP_TIMEOUT code 24 and SAFE follow. BRAKE
ends after a nonzero HOLD_TIME in OFF. An invalid Hall set in RUN raises code 25 after POS_LOSS_TIME, unless Belvedere takes
over, with its trust (POS_TRUSTED while its supervisor is NORMAL or SUSPECT: log entry 20). A cause present for LIM_TIME lasts
and makes the axis in STOPPING LIMITED for reasons 1 to 5. Each whole second of switching counts in RUNTIME, and the rest is
kept. In another state nothing happens. -/
def Obligations.AxisTimesEndTheirStates : Prop :=
  ∀ (s : State) (x : Axis) (us : Nat), s.isRunning = true →
    ((s.ax x).fault = true → 1 ≤ s.axState x → s.axState x < 7 → ∀ c, c ∈ [.armTimeout x us, .bootstrapsReady x, .stopComplete x us,
      .stopTimeout x us, .holdTimeElapsed x us] → ∃ t, exec c s = .next t ∧ t.axState x = 7) ∧
    let clear : Prop := (s.ax x).fault = false ∧ (s.ax x).cmd = none
    (clear → s.axState x = 1 → s.bootReady x = false → s.reached x us 0x0914 (1, 20) = true →
      ∃ t, exec (.armTimeout x us) s = .next t ∧ t.axState x = 7 ∧ t.stat (scAxis x) 23 = true) ∧
    (clear → ∀ c, (s.ax x).startWait = some c → s.axState x = 1 → s.bootReady x = true → (s.sv x).fly = 0 →
      let fly := s.owns x gFLY && (s.want (F.MC_BLV_CTRL_FLY_EN x) == 1 || (s.sv x).flyLoss)
      ∃ t, exec (.bootstrapsReady x) s = .next t ∧
        (s.flag (F.MC_ID_CTRL_ON_START x) = true → t.axState x = 2 ∧ t.fld (F.MC_ID_STAT_RESULT x) = 1 ∧
          t.fld (F.MC_STATE_RESULT x) = 1 ∧ (t.ax x).startWait = none) ∧
        (s.flag (F.MC_ID_CTRL_ON_START x) = false → fly = true → (t.sv x).fly = 1 ∧ (t.ax x).startWait = some c ∧ t.axState x = 1) ∧
        (s.flag (F.MC_ID_CTRL_ON_START x) = false → fly = false →
          (s.pos x = 0 → t.axState x = 2 ∧ t.fld (F.MC_STATE_RESULT x) = 1 ∧ (t.ax x).lastStart = some c) ∧
          (∀ h, s.hallSet x = some h → if s.flag (F.HAH_HALL_ST_INVALID h) = false then
              t.axState x = 4 ∧ t.fld (F.MC_STATE_RESULT x) = 1 else if s.flag (F.MC_MODE_CTRL x) = true then
              t.axState x = 1 ∧ t.fld (F.MC_STATE_RESULT x) = 7 else t.axState x = 2 ∧ t.fld (F.MC_STATE_RESULT x) = 1) ∧
          (∀ e, s.encSet x = some e → t.axState x = (if s.flag (F.HAH_ENC_ST_TRUSTED e) = true then 4 else 2) ∧
            t.fld (F.MC_STATE_RESULT x) = 1))) ∧
    (∀ r, 1 ≤ r → r ≤ 8 → bit (s.sv x).causes r = true → s.reached x us 0x0913 (1, 20) = true →
      ∃ t, exec (.limitTimeExpiry x r us) s = .next t ∧ bit (t.sv x).lasted r = true ∧
        (s.axState x = 5 → r ≤ 5 → t.fld (F.MC_LIMIT_LIMITED x) = 1 ∧
          (s.flag (F.MC_LIMIT_LIMITED x) = false → t.pend (evAx x 5) = true))) ∧
    (clear → s.axState x = 5 → 10000 ≤ us → qLe (qAbs (fVal (s.word (F.MC_SPD_ACT x)))) (s.paramQ x 0x090D (10, 1)) = true →
      ∃ t, exec (.stopComplete x us) s = .next t ∧
        t.axState x = (if (s.sv x).rev = 1 then 0 else if s.fld (F.MC_MODE_STOP_MODE x) = 1 then 6 else 0) ∧
        ((s.sv x).rev = 1 → (t.sv x).rev = 2)) ∧
    (clear → s.axState x = 5 → qLt (s.paramQ x 0x090E (600, 1)) (us, 1000000) = true →
      ∃ t, exec (.stopTimeout x us) s = .next t ∧ t.axState x = 7 ∧ t.stat (scAxis x) 24 = true) ∧
    (clear → s.axState x = 6 → (s.sv x).fly = 0 → (s.paramQ x 0x0910 (1, 1)).1 ≠ 0 → s.reached x us 0x0910 (1, 1) = true →
      ∃ t, exec (.holdTimeElapsed x us) s = .next t ∧ t.axState x = 0) ∧
    (∀ h, s.hallSet x = some h → s.axState x = 4 → s.flag (F.HAH_HALL_ST_INVALID h) = true → (s.sv x).onBlv = false →
      s.reached x us 0x0915 (1, 100) = true → ∃ t, exec (.positionLossTimeout x us) s = .next t ∧
        if s.flag (F.MC_MODE_POS_LOSS x) && s.flag (F.MC_BLV_STAT_AGREE x) then (t.sv x).onBlv = true ∧
          t.flag (F.MC_STATE_POS_TRUSTED x) = decide (s.fld (F.MC_BLV_STAT_SUP x) < 2) else t.stat (scAxis x) 25 = true) ∧
    (s.switching x = true → ∃ t, exec (.runtimeSecond x us) s = .next t ∧
      s.onlyRegs [A.MC_RUNTIME x] { t with axA := s.axA, axB := s.axB } ∧ let n := (s.ax x).secs + us
      t.fld (F.MC_RUNTIME x) = min 0xFFFFFFFF (s.fld (F.MC_RUNTIME x) + n / 1000000000) ∧ (t.ax x).secs = n % 1000000000) ∧
    (clear → s.axState x = 0 → ∀ c, c ∈ [.armTimeout x us, .stopComplete x us, .stopTimeout x us, .holdTimeElapsed x us,
      .positionLossTimeout x us, .runtimeSecond x us] → exec c s = .next s)

/-- R328, R329, R297, R302, R26, R677: a write of MCx.MODE reaches its shadow copy; CTRL and REF keep theirs while the bridge is
enabled; a value whose records the image lacks leaves its field and notes VOID. With the timebase running no register changes
until slot 0; stopped, the fields take effect at once. R330: SPD_SET and TRQ_SET take a finite value; another is ignored, with
VOID. -/
def Obligations.ModeAndSetPointsAreWrittenAsStated : Prop :=
  ∀ (s : State) (x : Axis) (w : Word), s.isRunning = true →
    (∃ t, exec (.modeWrite x w) s = .next t ∧
      (∀ f, f ∈ [F.MC_MODE_REV_THRU x, F.MC_MODE_MTPA_EN x, F.MC_MODE_POS_LOSS x, F.MC_MODE_STOP_MODE x] → t.want f = fieldOf f w) ∧
      t.want (F.MC_MODE_CTRL x) = (if s.bridgeOn x then s.want (F.MC_MODE_CTRL x) else fieldOf (F.MC_MODE_CTRL x) w) ∧
      (s.bridgeOn x = true → t.want (F.MC_MODE_REF x) = s.want (F.MC_MODE_REF x)) ∧
      (s.bridgeOn x = false → fieldOf (F.MC_MODE_REF x) w ≠ 2 → t.want (F.MC_MODE_REF x) = fieldOf (F.MC_MODE_REF x) w) ∧
      (s.bridgeOn x = false → fieldOf (F.MC_MODE_REF x) w = 2 → s.hasParam x 0x0C03 = false →
        t.want (F.MC_MODE_REF x) = s.want (F.MC_MODE_REF x) ∧ bit t.reply rfVoid = true) ∧
      (fieldOf (F.MC_MODE_FW_EN x) w = 0 → t.want (F.MC_MODE_FW_EN x) = 0) ∧
      (fieldOf (F.MC_MODE_FW_EN x) w = 1 → s.hasParam x 0x0908 = false → t.want (F.MC_MODE_FW_EN x) = s.want (F.MC_MODE_FW_EN x) ∧
        bit t.reply rfVoid = true) ∧
      (s.flag (F.PW_CTRL_EN x) = true → t.regs = s.regs) ∧
      (s.flag (F.PW_CTRL_EN x) = false → ∀ f, f ∈ modeFlds x → t.fld f = t.want f)) ∧
    ∀ tq : Bool, let f := if tq then F.MC_TRQ_SET x else F.MC_SPD_SET x
      (fFinite w = true → ∃ t, exec (.setPointWrite x tq w) s = .next t ∧ s.onlyRegs [f.reg] t ∧ t.rd f.reg = w) ∧
      (fFinite w = false → ∃ t, exec (.setPointWrite x tq w) s = .next t ∧ t = { s with reply := t.reply } ∧ bit t.reply rfVoid = true)

/-! ### Belvedere, Folly and Promenade -/

/-- R354 to R361, R300, with no fault recorded and no command pending (R282): DC alignment that has lasted ALIGN_TIME takes the
angle 0; 64 injection cycles take the angle found for sufficient saliency, go to DC with METHOD 2, or fail with detail 1; two
polarity pulses that reach POL_I within 2 ms, the first one's current let decay before the second, choose the angle or its
opposite, and fail with 2 undecided or with 3 past 2 ms. A found angle leads to START, or with a sensor to RUN. The hand-over
condition held for HO_TIME leads to RUN on Belvedere's angle, after DC with the current vector standing (only its projection
changes); START past START_TIMEOUT fails with 4. A failed start notes its detail and counts, raises code 28 and goes to SAFE.
R367, R368, table 10.9: a test passed within the bounds of R368 writes its results, and the next selected test or the end with
PASSED follows; a test that fails ends the identification with its RESULT, and STOP goes out with the tag of the START. -/
def Obligations.StartsAlignHandOverOrFail : Prop :=
  ∀ (s : State) (x : Axis) (us : Nat), s.isRunning = true →
    (s.axState x = 2 → (s.sv x).idCmd = none → (s.ax x).fault = false → (s.ax x).cmd = none →
      ((s.sv x).align = 1 → s.reached x us 0x0A12 (1, 2) = true →
        ∃ t, exec (.alignComplete x us) s = .next t ∧ s.angleFound x fZero t) ∧
      (∀ cycles sal th, (s.sv x).align = 2 → 64 ≤ cycles → ∃ t, exec (.injectionAlignComplete x cycles sal th) s = .next t ∧
        if qLe (s.paramQ x 0x0A16 (1, 20)) (fVal sal) then (t.sv x).thetaH = fWrap th ∧ (t.sv x).align = 3 ∧ t.axState x = 2
        else if s.startMethod x = 2 then (t.sv x).align = 1 ∧ (t.sv x).stT = (0, 1) ∧ t.axState x = 2 else s.startFailed x 1 t) ∧
      (∀ i tm, (qLe (s.paramQ x 0x0A13 (0, 1)) (qAbs (fVal i)) && qLe (fVal tm) (1, 500)) = true →
        ((s.sv x).align = 3 → ∃ t, exec (.polarityPulseEnd x i tm us) s = .next t ∧ (t.sv x).tP = tm ∧ (t.sv x).align = 5) ∧
        ((s.sv x).align = 4 → ∃ t, exec (.polarityPulseEnd x i tm us) s = .next t ∧
          let k := qSub (1, 1) (s.paramQ x 0x0A15 (1, 20))
          let tP := fVal (s.sv x).tP
          let th := (s.sv x).thetaH
          if qLt tP (qMul k (fVal tm)) then s.angleFound x th t
          else if qLt (fVal tm) (qMul k tP) then s.angleFound x (fAngle (qWrap (qAdd (fVal th) qPi))) t
          else s.startFailed x 2 t)) ∧
      (∀ i tm, (qLe (s.paramQ x 0x0A13 (0, 1)) (qAbs (fVal i)) && qLe (fVal tm) (1, 500)) = false → (s.sv x).align = 3 ∨ (s.sv x).align = 4 →
        (2000 ≤ us → ∃ t, exec (.polarityPulseEnd x i tm us) s = .next t ∧ s.startFailed x 3 t) ∧
        (us < 2000 → exec (.polarityPulseEnd x i tm us) s = .next s))) ∧
    (s.axState x = 3 → (s.sv x).idCmd = none → (s.ax x).fault = false → (s.ax x).cmd = none →
      (qLt (s.paramQ x 0x0A1D (10, 1)) (us, 1000000) = true → ∃ t, exec (.startTimeout x us) s = .next t ∧ s.startFailed x 4 t) ∧
      (s.reached x us 0x0A1B (1, 20) = true → ∃ t, exec (.handover x us) s = .next t ∧
        let w := s.rampSpeed x
        let runs := t.axState x = 4 ∧ t.word (F.MC_X_THETA x) = (s.sv x).thetaO ∧ t.word (F.MC_X_OMEGA x) = (s.sv x).omegaO ∧
          t.fld (F.MC_STATE_POS_TRUSTED x) = 1
        (2 ≤ (s.sv x).align → if s.fld (F.MC_BLV_STAT_SUP x) = 0 then runs else t = s) ∧
        ((s.sv x).align < 2 → if qLe (s.radOf x (s.paramQ x 0x0A19 (0, 1))) w = true ∧
            qLe (qAbs (s.rpmOf x (qSub (fVal (s.sv x).omegaO) (if (s.sv x).dirNeg then qNeg w else w)))) (s.paramQ x 0x0A1A (20, 1)) = true
          then runs ∧ t.word (F.MC_X_IQ_REF x) = (t.sv x).iqRef ∧
            let half := qDiv qPi (2, 1)
            let a := qSub (qAdd (fVal (s.sv x).thetaOl) (if (s.sv x).dirNeg then qNeg half else half)) (fVal (s.sv x).thetaO)
            (t.sv x).idRef = fOfFrac (qNorm (qMul (s.paramQ x 0x0A17 (0, 1)) (qCos a))) ∧
            (t.sv x).iqRef = fOfFrac (qNorm (qMul (s.paramQ x 0x0A17 (0, 1)) (qSin a))) ∧ (t.sv x).ramp = some (t.sv x).idRef
          else t = s))) ∧
    ∀ (m : List Word) (pts : List (Word × Word × Word × Word)) (temp : Word) (c : Cmd), (s.ax x).fault = false →
      (s.ax x).cmd = none → s.fld (F.MC_ID_STAT_RESULT x) = 1 →
      s.axState x = 2 ∨ s.axState x = 3 → (s.sv x).idCmd = some c → ∀ k, s.fld (F.MC_ID_STAT_TEST x) = k → 1 ≤ k → k ≤ 4 →
      let ends (t : State) (result : Nat) : Prop := t.fld (F.MC_ID_STAT_RESULT x) = result ∧ (t.sv x).idCmd = none ∧
        (s.flag (F.PW_CTRL_EN x) = true → (s.ax x).startWait = none → (t.ax x).cmd = some { code := 3, tag := c.tag, src := c.src, slot := none })
      (∀ o, o = 3 ∨ o = 4 → ∃ t, exec (.identificationTestEnd x o m pts temp) s = .next t ∧ ends t o) ∧
      (s.idBeyond x k pts = true → ∃ t, exec (.identificationTestEnd x 2 m pts temp) s = .next t ∧ ends t 4) ∧
      (s.idBeyond x k pts = false → ∃ t, exec (.identificationTestEnd x 2 m pts temp) s = .next t ∧
        let f (i : Nat) : Word := nth fZero m i
        (k = 1 → t.word (F.MC_ID_RS x) = fDiv (fSub (f 2) (f 0)) (fSub (f 3) (f 1)) ∧ t.word (F.MC_ID_TEMP x) = temp) ∧
        (k = 2 → ∀ p, pts[0]? = some p → t.word (F.MC_ID_LD0 x) = p.2.1 ∧ t.word (F.MC_ID_LQ0 x) = p.2.2.1) ∧
        (k = 3 → t.word (F.MC_ID_PSI x) = f 0) ∧
        (k = 4 → t.word (F.MC_ID_J x) = fDiv (fMul 0x40000000#32 (f 0)) (fSub (f 1) (f 2))) ∧
        if s.idNext x (k + 1) = 0 then ends t 2
        else t.fld (F.MC_ID_STAT_TEST x) = s.idNext x (k + 1) ∧ t.fld (F.MC_ID_STAT_RESULT x) = 1 ∧
          t.axState x = (if 3 ≤ s.idNext x (k + 1) then 3 else s.axState x))

/-- R345 to R348: bad periods beyond LOSS_CYC or LOSS_TMAX lead to HOLD (in START they fail the start, and the next slot 0
instant moves the axis to SAFE); REACQ_CYC good cycles lead back to NORMAL, Promenade starting at the output speed; past
REACQ_TIME the rotor is LOST, with code 27 and low ASC above the field-weakening speed, else all-off. R336: EXTRAP ends 100 ms
after the demand came back. R351: the stall raises code 29. R362 to R366: a flying restart takes three probes; its result is
shown; an undecided one repeats after FLY_WAIT until FLY_TRIES and then fails with code 30; a standstill starts by table 9.6; a
caught rotor runs. R370: BLV_CTRL reaches its shadow copy; START_METHOD and FLY_EN stay while owned, and a method whose records
the image lacks is ignored with VOID. -/
def Obligations.SupervisorHoldsReacquiresOrLosesTheRotor : Prop :=
  ∀ (s : State) (x : Axis) (us : Nat), s.isRunning = true →
    (s.supervised x = true → s.fld (F.MC_BLV_STAT_SUP x) = 1 →
      (qLt (s.paramQ x 0x0A0A (4, 1)) (s.sv x).cyc || qLt (s.paramQ x 0x0A0B (1, 5)) (us, 1000000)) = true →
      ∃ t, exec (.suspectTimeout x us) s = .next t ∧ if s.axState x = 3 then s.startFailNoted x 5 t ∧ (t.ax x).fault = true ∧ t.axState x = 3
        else t.fld (F.MC_BLV_STAT_SUP x) = 2 ∧ (s.onBelvedere x = true → t.fld (F.MC_BLV_STAT_INJ_ON x) = 0 ∧
          (t.sv x).omegaO = (s.sv x).omegaT ∧ ((t.sv x).vda, (t.sv x).vqa) = (s.sv x).hold)) ∧
    (s.supervised x = true → s.fld (F.MC_BLV_STAT_SUP x) = 2 →
      (qLe (s.paramQ x 0x0A0D (8, 1)) (s.sv x).cyc = true → ∃ t, exec (.rotorReacquired x) s = .next t ∧
        t.fld (F.MC_BLV_STAT_SUP x) = 0 ∧ t.fld (F.MC_BLV_EVT_REACQ x) = 1 ∧ t.pend (evAx x 9) = true ∧
        t.fld (F.MC_BLV_CNT_REACQ x) = min (F.MC_BLV_CNT_REACQ x).top (s.fld (F.MC_BLV_CNT_REACQ x) + 1) ∧
        (s.onBelvedere x = true → t.word (F.MC_X_OMEGA_REF x) = (s.sv x).omegaO ∧ t.word (F.MC_X_ACC_REF x) = fZero)) ∧
      (s.reached x us 0x0A0C (1, 10) = true → ∃ t, exec (.rotorLost x us) s = .next t ∧ t.fld (F.MC_BLV_STAT_SUP x) = 3 ∧
        t.pend (evAx x 10) = true ∧ (s.onBelvedere x = true → t.fld (F.MC_BLV_EVT_LOST x) = 1 ∧ t.stat (scAxis x) 27 = true ∧
          (s.safe x = 0 → (s.tr x).soft = 0 → (s.tr x).due = none → t.safe x = (if fLe (s.omegaFw x) (fAbs (s.sv x).omegaT) then 1 else 3) ∧
            t.fld (F.TR_SAFE_STAT_ORIGIN x) = 4)))) ∧
    (s.flag (F.MC_BLV_STAT_EXTRAP x) = true → 100000 ≤ us → (s.xTop x).2 ≠ 0 →
      fLe (s.word (F.MC_X_IM_PRE x)) (fOfFrac (s.xTop x)) = true → ∃ t, exec (.extrapClearTimeout x us) s = .next t ∧
        s.onlyRegs [A.MC_BLV_STAT x] t ∧ t.flag (F.MC_BLV_STAT_EXTRAP x) = false) ∧
    (s.axState x = 4 → (s.paramQ x 0x0A1E (0, 1)).1 ≠ 0 → qLe (s.paramQ x 0x0A1E (0, 1)) (qAbs (fVal (s.sv x).iqRef)) = true →
      qLe (qAbs (fVal (s.word (F.MC_SPD_ACT x)))) (s.paramQ x 0x0A1F (5, 1)) = true → s.reached x us 0x0A20 (2, 1) = true →
      ∃ t, exec (.stall x us) s = .next t ∧ t.fld (F.MC_BLV_EVT_STALL x) = 1 ∧ t.stat (scAxis x) 29 = true) ∧
    (∀ ia ib c, (s.ax x).fault = false → (s.ax x).cmd = none → (s.ax x).startWait = some c → (s.sv x).fly = 1 → s.axState x = 1 ∨ s.axState x = 6 →
      ∃ t, exec (.flyingRestartProbe x ia ib) s = .next t ∧
        ((s.sv x).probes = [] → (t.sv x).probes = [(ia, ib)]) ∧
        (∀ p, (s.sv x).probes = [p] → (t.sv x).probes = [p, (ia, ib)]) ∧
        ∀ p q, (s.sv x).probes = [p, q] → let r := s.flyResult x p q (ia, ib)
          let tries := min (F.MC_START_DIAG_TRIES x).top (s.fld (F.MC_START_DIAG_TRIES x) + 1)
          t.fld (F.MC_START_DIAG_FLY x) = r ∧ t.fld (F.MC_START_DIAG_TRIES x) = tries ∧
          (r = 1 → s.pos x = 0 → t.axState x = 2 ∧ t.fld (F.MC_STATE_RESULT x) = 1 ∧ (t.sv x).fly = 0) ∧
          (r = 4 → t.axState x = 4 ∧ t.fld (F.MC_STATE_RESULT x) = 1 ∧ t.word (F.MC_X_IQ_REF x) = fZero ∧
            t.word (F.MC_X_OMEGA x) = fOfFrac (qNorm (s.probeOmega x p q))) ∧
          (r = 2 ∨ r = 3 → if s.paramN x 0x0A24 3 ≤ tries then t.axState x = 7 ∧ t.stat (scAxis x) 30 = true ∧
            t.fld (F.MC_BLV_EVT_FLY_FAIL x) = 1 else (t.sv x).fly = 2 ∧ (t.sv x).probes = [])) ∧
    ((s.sv x).fly = 2 → s.reached x us 0x0A25 (1, 1) = true → ∃ t, exec (.flyRetry x us) s = .next t ∧ (t.sv x).fly = 1 ∧
      t.regs = s.regs) ∧
    ∀ w, ∃ t, exec (.blvCtrlWrite x w) s = .next t ∧
      (∀ f, f ∈ [F.MC_BLV_CTRL_LOSS_FLY x, F.MC_BLV_CTRL_OBS_PAR x, F.MC_BLV_CTRL_INJ_EN x] → t.want f = fieldOf f w) ∧
      (s.owns x gSTART = true → t.want (F.MC_BLV_CTRL_START_METHOD x) = s.want (F.MC_BLV_CTRL_START_METHOD x) ∧
        bit t.reply rfOwned = true) ∧
      (s.owns x gSTART = false → let m := fieldOf (F.MC_BLV_CTRL_START_METHOD x) w
        if (m = 1 ∨ (s.hasParam x 0x0A17 && s.hasParam x 0x0A19) = true) ∧ ((m ≠ 1 ∧ m ≠ 2) ∨
            (s.hasParam x 0x0A13 && (s.mapAddr x 5).isSome && (s.mapAddr x 6).isSome) = true)
        then t.want (F.MC_BLV_CTRL_START_METHOD x) = m
        else t.want (F.MC_BLV_CTRL_START_METHOD x) = s.want (F.MC_BLV_CTRL_START_METHOD x) ∧ bit t.reply rfVoid = true) ∧
      t.want (F.MC_BLV_CTRL_FLY_EN x) = (if s.owns x gFLY then s.want (F.MC_BLV_CTRL_FLY_EN x) else fieldOf (F.MC_BLV_CTRL_FLY_EN x) w) ∧
      (fieldOf (F.MC_BLV_CTRL_CNT_CLR x) w = 1 → t.rd (A.MC_BLV_CNT x) = 0) ∧
      (fieldOf (F.MC_BLV_CTRL_CNT_CLR x) w ≠ 1 → t.regs = s.regs)

/-- R393 to R395, R397: a swap request marks the groups that are not owned (OWNED is noted for the others) and with the timebase
stopped acts at once; at slot 0 the banks of every member of a requested group change places, or, where a member fails R394,
none does: the group shows as refused, and RESULT and COMP tell the failure of the lowest one. R400: CUR_CTRL and LOOP_EN reach
their shadow copies and wait. R410: HOME takes the position set-point as position and reference, at slot 0, not in RUN or
STOPPING. R409, R430: POS_SET_F completes a set-point; one that is not finite is ignored. R402, R404, R413: at an SP release
outside torque mode and HOLD the profile takes one step with the values latched for the period (R13), or follows the speed while
held, and its reference is clamped. -/
def Obligations.BanksSwapTogetherAndLoopsHomeAndReferencesAct : Prop :=
  ∀ (s : State) (x : Axis) (w : Word), s.isRunning = true →
    let owned (g : Nat) : Bool := (s.swapMembers x g).any (fun c => s.owns x (compGroup c))
    let wants (g : Nat) : Bool := bit (fieldOf (F.MC_SWAP_REQ x) w) g
    (∃ t, exec (.swapRequest x w) s = .next t ∧
      (s.flag (F.PW_CTRL_EN x) = true → (∀ g, g < 4 → t.getBit (F.MC_SWAP_REQ x) g = (s.getBit (F.MC_SWAP_REQ x) g || (wants g && !owned g))) ∧
        ((∃ g, g < 4 ∧ wants g = true ∧ owned g = true) → bit t.reply rfOwned = true) ∧
        (∀ c i, c < 9 → i < 10 → t.rd (A.MC_BANK x c i) = s.rd (A.MC_BANK x c i))) ∧
      (s.flag (F.PW_CTRL_EN x) = false → t.fld (F.MC_SWAP_REQ x) = 0)) ∧
    (s.counts x = true → ∃ t, exec (.compensatorSwap x) s = .next t ∧
      (s.fld (F.MC_SWAP_REQ x) = 0 → t = s) ∧
      (s.fld (F.MC_SWAP_REQ x) ≠ 0 → t.fld (F.MC_SWAP_REQ x) = 0 ∧ t.pend (evAx x 16) = true ∧
        (∀ g c i, g < 4 → c < 9 → i < 10 → s.swapGroup x c = g →
          let moves := s.getBit (F.MC_SWAP_REQ x) g && (s.groupCheck x (s.swapMembers x g)).isNone
          t.rd (A.MC_BANK x c i) = (if moves then s.rdSh (A.MC_BANK x c i) else s.rd (A.MC_BANK x c i)) ∧
          t.rdSh (A.MC_BANK x c i) = (if moves then s.rd (A.MC_BANK x c i) else s.rdSh (A.MC_BANK x c i)) ∧
          t.getBit (F.MC_SWAP_STAT_ACTIVE x) c = (s.getBit (F.MC_SWAP_STAT_ACTIVE x) c != moves)) ∧
        (∀ g e, g < 4 → s.getBit (F.MC_SWAP_REQ x) g = true → s.groupCheck x (s.swapMembers x g) = some e →
          t.getBit (F.MC_SWAP_STAT_REFUSED x) g = true ∧
          ((∀ h, h < g → s.getBit (F.MC_SWAP_REQ x) h = true → s.groupCheck x (s.swapMembers x h) = none) →
            t.fld (F.MC_SWAP_STAT_RESULT x) = e.2 ∧ t.fld (F.MC_SWAP_STAT_COMP x) = e.1)) ∧
        ((∀ g, g < 4 → s.getBit (F.MC_SWAP_REQ x) g = true → s.groupCheck x (s.swapMembers x g) = none) →
          t.fld (F.MC_SWAP_STAT_RESULT x) = 1 ∧ t.fld (F.MC_SWAP_STAT_COMP x) = 0))) ∧
    (∀ cur : Bool, ∃ t, exec (.loopEnableWrite x cur w) s = .next t ∧
      let fs := if cur then [F.MC_CUR_CTRL_FF_EN x] else [F.MC_LOOP_EN_TT x, F.MC_LOOP_EN_TH x, F.MC_LOOP_EN_PW x]
      (∀ f, f ∈ fs → t.want f = (if s.owns x (if cur then gCUR else gLOOP) then s.want f else fieldOf f w) ∧
        t.fld f = (if s.flag (F.PW_CTRL_EN x) then s.fld f else t.want f)) ∧
      (s.owns x (if cur then gCUR else gLOOP) = true → bit t.reply rfOwned = true)) ∧
    (∃ t, exec (.home x) s = .next t ∧
      if s.axState x = 4 ∨ s.axState x = 5 then t = s
      else if s.flag (F.PW_CTRL_EN x) then t.regs = s.regs ∧ (t.sv x).home = true
      else t.word (F.MC_POS_ACT_T x) = (s.sv x).posNext.1 ∧ t.word (F.MC_POS_ACT_F x) = (s.sv x).posNext.2 ∧
        t.word (F.MC_POS_REF_T x) = (s.sv x).posNext.1 ∧ t.word (F.MC_POS_REF_F x) = (s.sv x).posNext.2) ∧
    (∃ t, exec (.posSetWrite x false w) s = .next t ∧ s.onlyRegs [A.MC_POS_SET_T x] t ∧ t.word (F.MC_POS_SET_T x) = w) ∧
    (∃ t, exec (.posSetWrite x true w) s = .next t ∧
      if fFinite w then (t.word (F.MC_POS_SET_T x), t.word (F.MC_POS_SET_F x)) = posOf (s.word (F.MC_POS_SET_T x)).toInt (fVal w) ∧
        (t.sv x).posNext = (t.word (F.MC_POS_SET_T x), t.word (F.MC_POS_SET_F x))
      else t.regs = s.regs ∧ bit t.reply rfVoid = true) ∧
    (∃ t, exec (.spLoopRelease x) s = .next t ∧
      (s.bridgeOn x = false ∨ s.torqueMode x = true ∨ (s.sv x).frozen = true → t = s) ∧
      (s.bridgeOn x = true → s.fld (F.MC_MODE_REF x) = 0 → s.folPoint x ≠ 2 → s.axState x ≠ 5 →
        (s.sv x).frozen = false → s.idTest x ≠ 3 →
        let lim := (s.speedBound x).1
        let v := s.word (F.MC_X_OMEGA_REF x)
        let vt := fClamp (fNeg lim) lim (if fFinite (s.latWord x (F.MC_SPD_SET x)) then s.radW x (fVal (s.latWord x (F.MC_SPD_SET x)))
          else s.latWord x (F.MC_SPD_SET x))
        let r := if s.promHeld x then (s.word (F.MC_X_OMEGA x), fZero)
          else promStep v (s.word (F.MC_X_ACC_REF x)) vt (s.latWord x (F.MC_X_ACC_MAX x)) (s.latWord x (F.MC_X_DEC_MAX x))
            (some (s.latWord x (F.MC_X_JERK_MAX x))) (fOfFrac (s.spTl x))
        t.word (F.MC_X_OMEGA_REF x) = r.1 ∧ t.word (F.MC_X_ACC_REF x) = r.2 ∧ (t.sv x).spRef = fClamp (fNeg lim) lim r.1 ∧
        t.flag (F.MC_PRM_STAT_HELD x) = s.promHeld x ∧ t.flag (F.MC_PRM_STAT_DONE x) = (fEq r.1 vt && fIsZero r.2)))

/-- R420, R421: START of an injection shows its RESULT, the first failing condition of table 12.6, and waits; it begins at slot
0 with n = 0, and ends for a reason that holds, or CANCEL, with "injection ended": u is 0 and RUNNING falls as the next period
begins, at once while no period comes (log entry 75). R424: ARM starts a capture whose configuration R424 accepts, with no frame
counted; else RESULT says 2 or 6. R426: a TRIG write triggers it in TRIG 3 alone. R423, R425, R428: a due frame enters the FIFO,
a time stamp first, or is dropped and counted where it finds no room. R427, R626: a block that is ready is described by a
descriptor at one half of the area below CAP_BASE: 32-byte aligned destination position, length, no further descriptor, LAST and
REC set. R429: CANCEL lets the FIFO run out, and a capture ends COMPLETE or CANCELLED, or with ERROR where its channel has
stopped. -/
def Obligations.InjectionsAndCapturesBeginAndEndAsStated : Prop :=
  ∀ (s : State) (x : Axis), s.isRunning = true →
    (∃ t, exec (.folStart x) s = .next t ∧ t.fld (F.MC_FOL_STAT_RESULT x) = s.folCheck x ∧
      if s.folCheck x = 1 then (t.sv x).fol.pend = true ∧ (t.sv x).fol.n = 0 ∧ t.fld (F.MC_FOL_STAT_END x) = 0 ∧ t.fld (F.MC_FOL_STAT_CLIPS x) = 0
      else (t.sv x).fol = (s.sv x).fol) ∧
    (s.counts x = true → (s.sv x).fol.pend = true → ∃ t, exec (.injectionBegin x) s = .next t ∧
      t.flag (F.MC_FOL_STAT_RUNNING x) = true ∧ t.flag (F.MC_FOL_CTRL_START x) = true ∧ (t.sv x).fol.pend = false ∧
      (s.folSig x = 3 → (s.sv x).fol.done = false → (s.sv x).fol.n = 0 → qLe (fVal (s.word (F.MC_FOL_DUR x))) (qMul (0, 1) (s.folTp x)) = false →
        t.word (F.MC_X_FOL_VAL x) = s.word (F.MC_FOL_AMP x))) ∧
    (∀ why c, (c = Instr.folCancel x ∧ why = 2) ∨ (c = .injectionEnded x why ∧ s.folWhy x why = true ∧ why < 8) →
      s.flag (F.MC_FOL_STAT_RUNNING x) = true ∨ (s.sv x).fol.pend = true → (s.sv x).fol.stop = false → ∃ t, exec c s = .next t ∧
        (t.sv x).fol.pend = false ∧ t.fld (F.MC_FOL_STAT_END x) = why ∧ t.pend (evAx x 13) = true ∧
        (s.flag (F.PW_CTRL_EN x) = true → t.flag (F.MC_FOL_STAT_RUNNING x) = s.flag (F.MC_FOL_STAT_RUNNING x) ∧
          (t.sv x).fol.stop = s.flag (F.MC_FOL_STAT_RUNNING x) ∧ t.word (F.MC_X_FOL_VAL x) = s.word (F.MC_X_FOL_VAL x)) ∧
        (s.flag (F.PW_CTRL_EN x) = false → s.flag (F.MC_FOL_STAT_RUNNING x) = true → t.flag (F.MC_FOL_STAT_RUNNING x) = false ∧
          t.word (F.MC_X_FOL_VAL x) = fZero)) ∧
    (∀ n at_ bits, n < 4 → s.counts x = true → s.flag (F.PW_SAMP_EN x n) = true → s.slotFalls x n at_ = true → (s.tb x).begun = false →
      (s.sv x).fol.stop = true → ∃ t, exec (.sampleInstant x n at_ bits) s = .next t ∧ t.flag (F.MC_FOL_STAT_RUNNING x) = false ∧
        t.word (F.MC_X_FOL_VAL x) = fZero) ∧
    (∃ t, exec (.captureArm x) s = .next t ∧
      if s.flag (F.MC_CAP_STAT_RUNNING x) then t.fld (F.MC_CAP_STAT_RESULT x) = 2 ∧ s.onlyRegs [A.MC_CAP_STAT x] t
      else if s.capConfig x then t.fld (F.MC_CAP_STAT_RESULT x) = 1 ∧ t.flag (F.MC_CAP_STAT_RUNNING x) = true ∧
        t.fld (F.MC_CAP_COUNT x) = 0 ∧ (t.sv x).cap.frames = 0 ∧ (t.sv x).cap.fifo = [] ∧
        (s.fld (F.MC_CAP_CFG_TRIG x) = 0 → t.flag (F.MC_CAP_STAT_TRIGGERED x) = true ∧ t.pend (evAx x 14) = true)
      else t.fld (F.MC_CAP_STAT_RESULT x) = 6 ∧ s.onlyRegs [A.MC_CAP_STAT x] t) ∧
    (∃ t, exec (.captureTrigger x) s = .next t ∧ if s.fld (F.MC_CAP_CFG_TRIG x) = 3 ∧ s.flag (F.MC_CAP_STAT_RUNNING x) = true ∧
        s.flag (F.MC_CAP_STAT_TRIGGERED x) = false then t.flag (F.MC_CAP_STAT_TRIGGERED x) = true ∧ t.pend (evAx x 14) = true ∧
          (t.sv x).cap.trigAt = some (s.sv x).cap.frames else t = s) ∧
    (∀ n, s.flag (F.MC_CAP_STAT_RUNNING x) = true → (s.sv x).cap.ending = 0 → s.fld (F.MC_CAP_CFG_DEC x) + 1 ≤ (s.sv x).cap.dec →
      (s.flag (F.MC_CAP_CFG_RING x) || (s.sv x).cap.trigAt.isSome) = true → (s.sv x).cap.trigAt = some n →
      ∃ t, exec (.captureFrame x) s = .next t ∧ (t.sv x).cap.dec = 0 ∧
        if 4096 < (s.sv x).cap.fifo.length + s.capFrame x then (t.sv x).cap.fifo = (s.sv x).cap.fifo ∧ (t.sv x).cap.gap = true ∧
          t.fld (F.MC_CAP_STAT_DROPS x) = min (F.MC_CAP_STAT_DROPS x).top (s.fld (F.MC_CAP_STAT_DROPS x) + 1)
        else (t.sv x).cap.frames = (s.sv x).cap.frames + 1 ∧ (t.sv x).cap.gap = false ∧ ∃ w2 : Word,
          (t.sv x).cap.fifo = (s.sv x).cap.fifo ++ ([BitVec.ofNat 32 (s.sv x).cap.stamp, BitVec.ofNat 32 ((s.sv x).cap.stamp / 2 ^ 32), w2] ++
            (List.range (s.capSigs x)).map (fun i => s.capSignal x (s.capSel x i))).flatMap wordBytes ∧
          w2.toNat % 2 ^ 24 = unsigned 24 ((s.sv x).cap.frames - n : Int)) ∧
    (∀ ch, s.fld (F.MC_CAP_CFG_CH x) = ch → s.flag (F.MC_CAP_STAT_RUNNING x) = true → (s.sv x).cap.rest = 0 →
      512 ≤ s.capReady x → s.pglQueue ch = [] → s.pglHas ch → s.fld (F.PGL_CH_STAT_STATE ch) = 1 →
      (s.sv x).cap.out % max 1 (s.capSamples x * s.capFrame x) + 512 ≤ s.capSamples x * s.capFrame x →
      let a := s.fld (F.MC_CAP_BASE x) - 64 + (if (s.sv x).cap.half then 32 else 0)
      ∃ t, exec (.captureBlockDescriptor x) s = .next t ∧ t.pglQueue ch = [a] ∧ (t.sv x).cap.out = (s.sv x).cap.out + 512 ∧
        (t.sv x).cap.blocks = (s.sv x).cap.blocks + 1 ∧ (t.sv x).cap.half = !(s.sv x).cap.half ∧
        (t.ld32 a).toNat % 2 ^ 8 = (s.sv x).cap.blocks % 256 ∧ bit (t.ld32 a).toNat 8 = true ∧ bit (t.ld32 a).toNat 10 = true ∧
        (t.ld32 (a + 8)).toNat = (s.fld (F.MC_CAP_BASE x) + (s.sv x).cap.out % (s.capSamples x * s.capFrame x)) % 2 ^ 32 ∧
        t.ld32 (a + 12) = 512 ∧ t.ld32 (a + 16) = 0) ∧
    (∃ t, exec (.captureCancel x) s = .next t ∧ t.regs = s.regs ∧ (s.flag (F.MC_CAP_STAT_RUNNING x) = true →
      (s.sv x).cap.ending = 0 → (t.sv x).cap.ending = 2)) ∧
    (∃ t, exec (.captureComplete x) s = .next t ∧ let c := (s.sv x).cap
      let ends (how : Nat) : Prop := t.flag (F.MC_CAP_STAT_RUNNING x) = false ∧ t.flag (F.MC_CAP_CTRL_ARM x) = false ∧
        t.fld (F.MC_CAP_STAT_END x) = how ∧ (t.sv x).cap.fifo = [] ∧ t.pend (evAx x 15) = true
      (s.flag (F.MC_CAP_STAT_RUNNING x) = true → s.fld (F.PGL_CH_STAT_STATE (s.fld (F.MC_CAP_CFG_CH x))) = 4 → ends 3) ∧
      (s.flag (F.MC_CAP_STAT_RUNNING x) = true → s.fld (F.PGL_CH_STAT_STATE (s.fld (F.MC_CAP_CFG_CH x))) ≠ 4 →
        c.ending = 1 ∨ c.ending = 2 → c.fifo = [] → c.rest = 0 → c.out = c.taken → s.capBusy x = false → ends c.ending) ∧
      (s.flag (F.MC_CAP_STAT_RUNNING x) = false → t = s))

/-! ### Gate drive, protection and temperature -/

/-- R438 to R440: a valid frame, one of an edge or the idle frame after 1 µs, sets the commands, the dead times (25 ns or
longer, R183) that turn-ons wait for (R182), VBUS, band and ABOVE_ASC of the die, and no channel that may not be on is on; a
frame that fails the check turns every channel off, an ASC's too, until a valid one (only the hold of R495 turns the brake
switch on again: log entry 11), is counted and raises code 10; 2 µs without one raises code 7 and takes ASC_POL above the
threshold, else all-off. R450, R467: a strength write takes each field within STR_LIM, and a new STR_LIM clamps every step; both
only while GATE is not owned. R441 to R446: below 50 V a transition is not timed; else its record holds its cause, its duration,
step and midpoint and whether it adapted or was a refresh pulse's; one within the deadband ends the cause of code 11 of its
switch, and an adapting one beyond the deadband moves its step by 1, by 4, or fast and then slowly, within STR_LIM, unless the
step was written since the edge. -/
def Obligations.FramesSetCommandsAndTransitionsAdaptStrengths : Prop :=
  ∀ (s : State) (x : Axis) (ns : Nat), s.isRunning = true →
    (s.sun.pll = false → ∀ good, exec (.linkFrame x good) s = .next s) ∧ (ns < 1000 → exec (.idleFrame x ns) s = .next s) ∧
    (s.sun.pll = true → (∃ t, exec (.linkFrame x true) s = .next t ∧ s.framed x t) ∧
      (1000 ≤ ns → ∃ t, exec (.idleFrame x ns) s = .next t ∧ s.framed x t) ∧
      ∃ t, exec (.linkFrame x false) s = .next t ∧ t.stat (scAxis x) 10 = true ∧ t.flag (F.TR_STAT_LINK_ERR x) = true ∧
        (t.tr x).linkErr = true ∧ t.fld (F.TR_LINK_CNT_DISCARDED x) = min 0xFFFF (s.fld (F.TR_LINK_CNT_DISCARDED x) + 1) ∧
        (t.tr x).lost = true ∧ (t.tr x).cmd = (s.tr x).cmd ∧ (∀ c, c < 6 → bit (t.tr x).gates c = false) ∧
        (s.brakeHeld x = false → t.allOff x)) ∧
    (2000 ≤ ns → s.cause (scAxis x) 7 = false → ∃ t, exec (.dieLinkLost x ns) s = .next t ∧
      t.flag (F.TR_STAT_LINK_OK x) = false ∧ t.stat (scAxis x) 7 = true ∧ t.cause (scAxis x) 7 = true ∧
      s.takesSafe x (if s.above x then s.ascPol x else 3) t) ∧
    (∀ p w, p < 3 → ∃ t, exec (.strengthWrite x p w) s = .next t ∧
      (s.owns x gGATE = true → t.regs = s.regs ∧ bit t.reply rfOwned = true) ∧
      (s.owns x gGATE = false → t = ({ s with regs := t.regs }).modTr x (fun r => { r with wrote := (t.tr x).wrote }) ∧
        (∀ a, a ≠ A.TR_STR x p → a ≠ A.TR_STAT x → t.rd a = s.rd a) ∧ ∀ sw on, sw / 2 = p → let f := stepFld x sw on
        let takes := decide (s.stepLo x on ≤ fieldOf f w) && decide (fieldOf f w ≤ s.stepHi x on)
        bit (t.tr x).wrote (skIx sw on) = (takes || bit (s.tr x).wrote (skIx sw on)) ∧
        t.fld f = (if takes then fieldOf f w else s.fld f))) ∧
    (∀ w, ∃ t, exec (.strLimWrite x w) s = .next t ∧
      (s.owns x gGATE = true → t.regs = s.regs ∧ bit t.reply rfOwned = true) ∧
      (s.owns x gGATE = false → let g (f : Axis → Fld) : Nat := fieldOf (f x) w
        if g F.TR_STR_LIM_SNK_HI < g F.TR_STR_LIM_SNK_LO ∨ g F.TR_STR_LIM_SRC_HI < g F.TR_STR_LIM_SRC_LO then t = s
        else t.stepLo x true = g F.TR_STR_LIM_SRC_LO ∧ t.stepHi x true = g F.TR_STR_LIM_SRC_HI ∧
          t.stepLo x false = g F.TR_STR_LIM_SNK_LO ∧ t.stepHi x false = g F.TR_STR_LIM_SNK_HI ∧
          ∀ sw on, sw < 6 → t.fld (stepFld x sw on) = clampN (t.stepLo x on) (t.stepHi x on) (s.fld (stepFld x sw on)))) ∧
    ∀ (p : Nat) (tb te : Int) (rising : Bool) (tOff tOn : Option Int), p < 3 → tb ≤ te → 0 ≤ te →
      ((s.tr x).vbus < 500 → exec (.transitionMeasured x p rising tb te tOff tOn) s = .next s) ∧
      (500 ≤ (s.tr x).vbus → (s.tr x).edges.length = 12 →
        ∃ t w0 w1, exec (.transitionMeasured x p rising tb te tOff tOn) s = .next t ∧
        let cause := transCause tb te tOff tOn
        let sk := transSwitch p rising cause
        let f := stepFld x sk.1 sk.2
        let e := nth EdgeRec.none (s.tr x).edge (skIx sk.1 sk.2)
        let adapts := cause != 0 && e.flag && e.why == 0
        let dur := (te - tb).toNat
        let side := s.beyond x sk.1 sk.2 dur
        let i := 4 * p + (if rising then 0 else 2)
        (t.tr x).edges[i]? = some w0 ∧ (t.tr x).edges[i + 1]? = some w1 ∧
        bits w0.toNat 26 25 = cause ∧ bit w0.toNat 27 = (cause != 0 && e.why == 1) ∧ bit w0.toNat 28 = adapts ∧
        (0 ≤ tb → (tb + te) % 2 = 0 → bits w0.toNat 23 0 = ((tb + te) / 2).toNat % 2 ^ 24) ∧
        bits w1.toNat 15 0 = min 0xFFFF dur ∧ bits w1.toNat 21 16 = (if cause = 0 then 0 else e.step % 64) ∧
        (cause ≠ 0 → side = (false, false) → bit (t.tr x).unreach (skIx sk.1 sk.2) = false) ∧
        (adapts = false → t.fld f = s.fld f) ∧
        (adapts = true → s.stepLo x sk.2 ≤ s.fld f → s.fld f ≤ s.stepHi x sk.2 →
          let n : Nat := if bit (s.tr x).wrote (skIx sk.1 sk.2) = true then 0 else match s.fld (F.TR_CFG_ADAPT x) with
            | 0 => 0
            | 1 => 1
            | 2 => 4
            | _ => if nth 0 (s.tr x).adaptN (skIx sk.1 sk.2) < 64 then 4 else 1
          t.fld (if sk.2 then F.TR_LAST_ON x p else F.TR_LAST_OFF x p) = min 0xFFFF dur ∧
          t.fld f = (if side.1 then min (s.stepHi x sk.2) (s.fld f + n)
            else if side.2 then max (s.stepLo x sk.2) (s.fld f - n) else s.fld f)))

/-- R451: overlapping commands hold both switches off, count once and raise E17. R453, R434, R452: a gate not sensed off after 2
µs raises code 6 with its safe state; sensed off, the opposite turn-on waits 25 ns more, and the clock at which its waits have
passed turns it on (R182; that an idle step is a clock of the block is log entries 3 and 43). R457, R458, R482: a bootstrap
below 11.0 V, within 0.3 V (R666), holds its high side off, and outside precharge raises code 5 (all-off during high ASC, low
ASC above the threshold, else all-off); above 12.0 V, within 0.3 V, it releases, and with every bootstrap charged the precharge
ends, which pulses all low sides every PRE_W (R294). R462, R464: EXT changes in OFF alone; an accepted pin level is the
channel's command while external-command mode is active. R48: a driver supply below 12.5 V, within 0.3 V, holds all channels off
with code 8 until it exceeds 13.5 V, within 0.3 V. In a band either may come of it (log entry 81), and TRx.VBS shows each
voltage within 0.3 V. R58 to R62, R486: a low of 200 ns or more turns all off, with code 9 and torque-off; below 50 ns nothing
happens, between either may; its release turns no gate on. -/
def Obligations.InterlocksSuppliesAndTorqueOffHoldGatesOff : Prop :=
  ∀ (s : State) (x : Axis) (ns : Nat), s.isRunning = true →
    (∀ leg, leg < 3 → s.overlaps x leg = true → bit (s.tr x).ilk leg = false → ∃ t, exec (.interlock x leg) s = .next t ∧
      bit (t.tr x).gates (2 * leg) = false ∧ bit (t.tr x).gates (2 * leg + 1) = false ∧ bit (t.tr x).ilk leg = true ∧
      t.fld (ilkFld x leg) = min (ilkFld x leg).top (s.fld (ilkFld x leg) + 1) ∧ t.flag (F.TR_STAT_ILK_SEEN x) = true ∧
      t.pend (evAx x 17) = true) ∧
    (∀ ch, ch < 6 → 2000 ≤ ns → bit (s.tr x).sense ch = true → bit (s.tr x).gates ch = false →
      ∃ t, exec (.gateOffNotSensed x ch ns) s = .next t ∧ t.stat (scAxis x) 6 = true ∧ t.flag (F.TR_STAT_GOFF_ERR x) = true ∧
        bit (t.tr x).goff ch = true ∧ s.takesSafe x (if s.above x then (if ch % 2 = 0 then 2 else 1) else 3) t) ∧
    (∀ ch, ch < 7 → bit (s.tr x).gates ch = false → ∃ t, exec (.gateSensedOff x ch) s = .next t ∧
      bit (t.tr x).goff ch = false ∧ bit (t.tr x).soft ch = false ∧ ((t.tr x).goff = 0 → t.cause (scAxis x) 6 = false) ∧
      (s.wants x ch = false → bit (t.tr x).sense ch = false) ∧
      (ch < 6 → bit (s.tr x).sense ch = true → (s.tr x).gap.length = 6 → nth 0 (t.tr x).gap (legMate ch) = s.subTicks + 160 ∧
        (bit (s.tr x).gates (legMate ch) = false → bit (t.tr x).gates (legMate ch) = false))) ∧
    (∀ ch, ch < 6 → s.pending = [] → s.sun.pll = true →
      (∀ n, n < 8 → s.flag (F.SUN_ACT_CTRL_ARM n) = false ∨
        (s.sun.cnt + BitVec.ofInt 64 (1 + ((s.sun.frac : Int) + s.sfld F.SUN_RATE) / 4294967296)).toNat < (s.act n).1) →
      s.mayBeOn x ch = true → nth [] (s.tr x).ref (ch / 2) = [] → bit (s.tr x).gates (legMate ch) = false → bit (s.tr x).sense (legMate ch) = false →
      0 < nth 0 (s.tr x).wait ch ∨ 0 < nth 0 (s.tr x).gap ch → nth 0 (s.tr x).wait ch ≤ s.subTicks + 16 →
      nth 0 (s.tr x).gap ch ≤ s.subTicks + 16 → ∃ t, step s = .next t ∧ bit (t.tr x).gates ch = true) ∧
    let shows (t : State) (f : Fld) (dv : Nat) : Prop := t.fld f ≤ dv + 3 ∧ min 255 dv ≤ t.fld f + 3
    (∀ p dv, p < 3 → dv < 107 → ∃ t, exec (.bootstrapUndervoltage x p dv) s = .next t ∧ t.getBit (F.TR_STAT_BS_UV x) p = true ∧
      shows t (vbsFld x p) dv ∧ bit (t.tr x).gates (2 * p) = false ∧
      (s.getBit (F.TR_STAT_BS_UV x) p = false → s.precharging x = false → t.stat (scAxis x) 5 = true ∧
        t.getBit (F.TR_STAT_BS_UV_SEEN x) p = true ∧ (s.safe x = 2 → s.canSafe x = true → (s.tr x).again = false → 3 < (s.tr x).rank → (s.tr x).soft = 0 → (s.tr x).due = none → t.safe x = 3) ∧
        s.takesSafe x (if s.above x then 1 else 3) t)) ∧
    (∀ p dv, p < 3 → 123 < dv → ∃ t, exec (.bootstrapLockoutRelease x p dv) s = .next t ∧
      t.getBit (F.TR_STAT_BS_UV x) p = false ∧ shows t (vbsFld x p) dv ∧
      (∀ q, q < 3 → q ≠ p → t.getBit (F.TR_STAT_BS_UV x) q = s.getBit (F.TR_STAT_BS_UV x) q) ∧
      (t.fld (F.TR_STAT_BS_UV x) = 0 → t.cause (scAxis x) 5 = false ∧ (s.precharging x = true → t.bootCharged x = true → (t.tr x).pre = false ∧
        (s.flag (F.TR_CFG_EXT x) = true → (s.tr x).extOff = false → t.flag (F.TR_STAT_EXT_ACTIVE x) = true ∧
          (t.tr x).cmd = (s.tr x).cmdPins)))) ∧
    (∀ p dv c, p < 3 → c = .bootstrapUndervoltage x p dv ∨ c = .bootstrapLockoutRelease x p dv → ∃ t, exec c s = .next t ∧ shows t (vbsFld x p) dv ∧
      (c = .bootstrapUndervoltage x p dv → 113 ≤ dv → s.onlyRegs [A.TR_VBS x] { t with free := s.free }) ∧
      (c = .bootstrapLockoutRelease x p dv → dv ≤ 117 → s.onlyRegs [A.TR_VBS x] { t with free := s.free }) ∧
      (s.onlyRegs [A.TR_VBS x] { t with free := s.free } ∨ t.getBit (F.TR_STAT_BS_UV x) p = decide (c = .bootstrapUndervoltage x p dv))) ∧
    (∀ us, s.precharging x = true → s.bootCharged x = false → s.fld (F.TR_REF_CFG_PRE_W x) ≤ us →
      ∃ t, exec (.prechargePulse x us) s = .next t ∧ (∀ a, a ∉ [A.TR_DS_STAT x, A.TR_CSC_STAT x] → t.rd a = s.rd a) ∧ (t.tr x).preOn = !(s.tr x).preOn ∧
        (t.tr x).cmd = (if (s.tr x).preOn then 0 else 0b101010) + s.brakeCmd x) ∧
    (∀ w, ∃ t, exec (.extWrite x w) s = .next t ∧ s.onlyRegs [A.TR_CFG x] { t with reply := s.reply } ∧
      t.fld (F.TR_CFG_EXT x) = (if s.axState x = 0 then fieldOf (F.TR_CFG_EXT x) w else s.fld (F.TR_CFG_EXT x)) ∧
      (s.owns x gGATE = true → bit t.reply rfOwned = true) ∧
      ∀ f, f ∈ [F.TR_CFG_DB x, F.TR_CFG_REF_EN x, F.TR_CFG_ADAPT x] → t.fld f = (if s.owns x gGATE then s.fld f else fieldOf f w)) ∧
    (∀ ch level, ch < 7 → ∃ t, exec (.cmdPinAccept x ch level ns) s = .next t ∧
      (20 ≤ ns → bit (t.tr x).cmdPins ch = level ∧ (∀ c, c ≠ ch → bit (t.tr x).cmdPins c = bit (s.tr x).cmdPins c) ∧
        (t.tr x).cmd = (if s.flag (F.TR_STAT_EXT_ACTIVE x) then (t.tr x).cmdPins else (s.tr x).cmd) ∧
        ∀ c, c < 7 → t.mayBeOn x c = false → s.flag (F.TR_STAT_EXT_ACTIVE x) = true → bit (t.tr x).gates c = false) ∧
      (ns < 20 → t = s)) ∧
    (∀ dv, dv < 122 → (s.tr x).drvLow = false → ∃ t, exec (.driverSupplyUndervoltage x dv) s = .next t ∧ (t.tr x).drvLow = true ∧
      t.allOff x ∧ t.stat (scAxis x) 8 = true ∧ t.cause (scAxis x) 8 = true ∧ shows t (F.TR_VBS_VDRV x) dv ∧ s.takesSafe x 3 t) ∧
    (∀ dv, 138 < dv → (s.tr x).drvLow = true → ∃ t, exec (.driverSupplyRelease x dv) s = .next t ∧
      (t.tr x).drvLow = false ∧ t.cause (scAxis x) 8 = false ∧ shows t (F.TR_VBS_VDRV x) dv) ∧
    (∀ dv c, c = .driverSupplyUndervoltage x dv ∨ c = .driverSupplyRelease x dv → ∃ t, exec c s = .next t ∧ shows t (F.TR_VBS_VDRV x) dv ∧
      (t.tr x).vdrv = t.fld (F.TR_VBS_VDRV x) ∧
      (c = .driverSupplyUndervoltage x dv → 128 ≤ dv ∨ (s.tr x).drvLow = true → (t.tr x).drvLow = (s.tr x).drvLow ∧ (t.tr x).gates = (s.tr x).gates) ∧
      (c = .driverSupplyRelease x dv → dv ≤ 132 ∨ (s.tr x).drvLow = false → (t.tr x).drvLow = (s.tr x).drvLow ∧ (t.tr x).gates = (s.tr x).gates)) ∧
    (200 ≤ ns → ∃ t, exec (.torqueOff x ns) s = .next t ∧ t.toffLow x = true ∧ t.allOff x ∧ t.cause (scAxis x) 9 = true ∧
      t.stat (scAxis x) 9 = true ∧ (s.canSafe x = true → s.safe x = 0 ∨ 1 < (s.tr x).rank → t.safe x = 4)) ∧
    (ns < 50 → exec (.torqueOff x ns) s = .next s) ∧
    (50 ≤ ns → ns < 200 → ∃ t, exec (.torqueOff x ns) s = .next t ∧ (t = s.spent ∨
      ((t.tr x).cmd = 0 ∨ s.canSafe x = true) ∧ (∀ c, c < 6 → bit (t.tr x).gates c = false) ∧ (s.brakeHeld x = false → t.allOff x))) ∧
    ∃ t, exec (.torqueOffRelease x) s = .next t ∧ t.toffLow x = false ∧ t.cause (scAxis x) 9 = false ∧ t.tr x = s.tr x

/-- R470 to R473: an on switch whose desaturation input lies above the threshold, after blanking, for the filter time, faults:
soft turn-off of it, every other gate off, code 1; so does the turn-on monitor above half of VBUS, with code 2. The thresholds
and the times lie in the bands of R666, inside which either may come of it (log entry 81). R474: once every faulted gate is
sensed off the due safe state is in force; past 20 µs it is all-off with code 6. R484, R488: an ASC ends in all-off after QUIET
below EXIT_V, and an axis that started in SAFE enters OFF then (R95). R489 to R491, R94: with no command pending a retry takes
the axis to ARMED, with the last START as it was, its action slot too (log entry 60), and counts; one try too many leads to
LOCKOUT. R495 to R497: a brake overcurrent holds the brake off with code 14; 10 µs of it or a brake desaturation takes Cascade
out with code 12, an open brake with code 13; the bus-overvoltage signal holds the brake on where it may act, with code 4. -/
def Obligations.ShortsTurnOffSoftlyAndSafeStatesEndOrRetry : Prop :=
  ∀ (s : State) (x : Axis), s.isRunning = true →
    (∀ m mv held since, let chans := s.onChans x m
      let thr := 3000 + 250 * s.fld (F.TR_DS_CFG_THR x)
      let blank := 100 + 25 * s.fld (F.TR_DS_CFG_BLANK x)
      let filt := 25 * s.fld (F.TR_DS_CFG_FILT x)
      let quiet (t : State) : Prop := s.onlyRegs [A.TR_DS_STAT x] { t with free := s.free }
      let faults (t : State) : Prop := t.allOff x ∧
          (∀ c, c ∈ chans → bit (t.tr x).soft c = true ∧ t.getBit (F.TR_DS_STAT_DS_SEEN x) c = true ∧ t.getBit (F.TR_DS_STAT_DS_NOW x) c = false) ∧
          t.fld (F.TR_DS_CNT_DS x) = min 0xFFFF (s.fld (F.TR_DS_CNT_DS x) + chans.length) ∧
          ((∃ c, c ∈ chans ∧ c < 6) → t.stat (scAxis x) 1 = true ∧ (t.tr x).due.isSome = true ∧ t.flag (F.TR_STAT_EXT_ACTIVE x) = false)
      ∃ t, exec (.desaturation x m mv held since) s = .next t ∧ (quiet t ∨ chans ≠ [] ∧ faults t) ∧
        (chans = [] ∨ since + 10 ≤ (9 * blank + 9) / 10 → t.regs = s.regs ∧ quiet t) ∧
        (100 * mv + 5000 ≤ 97 * thr ∨ held + 10 < (9 * filt + 9) / 10 → quiet t) ∧
        (chans ≠ [] → blank < since →
          (100 * mv + 5000 ≤ 97 * thr → ∀ c, c ∈ chans → t.getBit (F.TR_DS_STAT_DS_NOW x) c = false) ∧
          (103 * thr + 5000 < 100 * mv → (held + 10 < (9 * filt + 9) / 10 → ∀ c, c ∈ chans → t.getBit (F.TR_DS_STAT_DS_NOW x) c = true) ∧
            (filt ≤ held → faults t)))) ∧
    (∀ ch (node : Int) ns, let vbus : Int := (s.tr x).vbus
      ch < 6 → bit (s.tr x).gates ch = true → 500 ≤ vbus → let across := if ch % 2 = 1 then node else vbus - node
      let mon := min (25 * s.fld (F.TR_DS_CFG_MON x)) (100 + 25 * s.fld (F.TR_DS_CFG_BLANK x))
      let faults (t : State) : Prop := t.allOff x ∧ bit (t.tr x).soft ch = true ∧ (t.tr x).due.isSome = true ∧
        t.getBit (F.TR_DS_STAT_MON_SEEN x) ch = true ∧ t.fld (F.TR_DS_CNT_MON x) = min 0xFFFF (s.fld (F.TR_DS_CNT_MON x) + 1) ∧
        t.stat (scAxis x) 2 = true
      (9 * mon + 9) / 10 ≤ ns + 10 → ns ≤ mon → ∃ t, exec (.turnOnShort x ch node ns) s = .next t ∧ (53 * vbus < 100 * across → faults t) ∧
        (100 * across ≤ 47 * vbus → t = s) ∧ (t = s ∨ t = s.spent ∨ faults t)) ∧
    (∃ t, exec (.safeStateApply x) s = .next t ∧ ((s.tr x).soft ≠ 0 → t = s) ∧
      ∀ d, (s.tr x).soft = 0 → (s.tr x).again = false → (s.tr x).due = some d → 1 ≤ d.st → d.st ≤ 4 → d.origin < 8 → (t.tr x).due = none ∧
        (s.canSafe x = true → s.safe x ≠ 0 → (s.tr x).rank ≤ d.rank → t.safe x = s.safe x) ∧
        (s.safe x = 0 → s.canSafe x = true → t.safe x = d.st ∧ t.fld (F.TR_SAFE_STAT_ORIGIN x) = d.origin ∧ (t.ax x).retryOk = d.retry)) ∧
    (∀ ns c, c < 7 → bit (s.tr x).soft c = true → 20000 < ns → ∃ t, exec (.softOffTimeout x ns) s = .next t ∧
      (t.tr x).soft = 0 ∧ (t.tr x).due = none ∧ (∀ ch, ch < 7 → bit (s.tr x).soft ch = true → bit (t.tr x).goff ch = true) ∧ t.stat (scAxis x) 6 = true ∧ t.flag (F.TR_STAT_GOFF_ERR x) = true ∧
      (s.canSafe x = true → (s.tr x).again = false → s.safe x = 0 ∨ 3 < (s.tr x).rank → (∀ d, (s.tr x).due = some d → 3 < d.rank) → t.safe x = 3)) ∧
    (∀ mv ms, (s.tr x).thermal = false → s.inAsc x = true → s.canSafe x = true → (s.tr x).again = false → (s.tr x).due = none → mv < 100 * s.fld (F.TR_SAFE_CFG_EXIT_V x) →
      s.fld (F.TR_SAFE_CFG_QUIET x) ≤ ms → ∃ t, exec (.ascExit x mv ms) s = .next t ∧ t.safe x = 3) ∧
    (∀ mv ms, (s.tr x).thermal = true → mv < 100 * (s.tr x).exitV → (s.tr x).quiet ≤ ms → (s.tr x).due = none → (s.tr x).again = true →
      s.axState x = 7 → ∃ t, exec (.ascExit x mv ms) s = .next t ∧ t.axState x = 0 ∧ t.flag (F.TR_SAFE_STAT_THERMAL x) = false) ∧
    (∀ (ms first : Nat), s.axState x = 7 → (s.ax x).retryOk = true → s.owns x gRETRY = true → s.flag (F.PW_CTRL_EN x) = true →
      10 * s.fld (F.TR_RETRY_WAIT x) ≤ ms → s.inAsc x = false → s.axisCause x = false → s.fatalCause = false →
      (s.ax x).cmd = none → s.protTripped x = false → s.sdStaleUsed x = false →
      let n := s.fld (F.TR_SAFE_STAT_USED x)
      let used := if 0 < n ∧ s.fld (F.TR_RETRY_WINDOW x) ≤ first then 0 else n
      ∃ t, exec (.retryDecision x ms first) s = .next t ∧
        (s.fld (F.TR_RETRY_TRIES x) = 0 → t.axState x = 7 ∧ t.flag (F.TR_SAFE_STAT_WAITING x) = false) ∧
        (s.fld (F.TR_RETRY_TRIES x) ≠ 0 → if s.fld (F.TR_RETRY_TRIES x) ≤ used then t.axState x = 8
          else t.axState x = 1 ∧ t.fld (F.TR_SAFE_STAT_USED x) = used + 1 ∧ (s.flag (F.TR_CFG_EXT x) = false → (t.ax x).startWait = (s.ax x).lastStart) ∧
            t.fld (F.TR_SAFE_STAT_RETRIES x) = min 255 (s.fld (F.TR_SAFE_STAT_RETRIES x) + 1))) ∧
    ((s.tr x).brkOc = false → ∃ t, exec (.brakeOvercurrent x true) s = .next t ∧ (t.tr x).brkOc = true ∧
      bit (t.tr x).gates 6 = false ∧ t.stat (scCascade x) 14 = true ∧ t.fld (F.TR_CSC_STAT_HW_ON x) = 0 ∧
      t.fld (F.TR_CSC_STAT_OVC x) = min 255 (s.fld (F.TR_CSC_STAT_OVC x) + 1)) ∧
    ((s.tr x).brkOc = true → ∃ t, exec (.brakeOvercurrent x false) s = .next t ∧ (t.tr x).brkOc = false ∧
      t.cause (scCascade x) 14 = false ∧
      (s.safe x ≠ 4 → t.fld (F.TR_CSC_STAT_HW_ON x) = b2n ((s.tr x).ovSig && s.fld (F.TR_CSC_STAT_STATE x) == 0 && s.axisOn x))) ∧
    (∀ us, s.fld (F.TR_CSC_STAT_STATE x) = 0 → s.flag (F.TR_SAFE_CFG_CSC_EN x) = true → ((s.tr x).brkOc = true ∧ 10 ≤ us) ∨ (s.tr x).brkDs = true →
      ∃ t, exec (.brakeChopperShorted x us) s = .next t ∧ t.fld (F.TR_CSC_STAT_STATE x) = 1 ∧ t.stat (scCascade x) 12 = true ∧
        bit (t.tr x).gates 6 = false) ∧
    (∀ (ms : Nat) minDuty v0 v1 i d v, s.fld (F.TR_CSC_STAT_STATE x) = 0 → s.flag (F.TR_SAFE_CFG_CSC_EN x) = true → qLe (1, 2) (fVal minDuty) = true →
      qLe (s.paramQ x 0x0E04 (2, 100)) (ms, 1000) = true → qLt (qSub (fVal v0) (s.paramQ x 0x0E05 (2, 1))) (fVal v1) = true →
      (qLt (fVal i) (qDiv (qMul (qMul (1, 4) (fVal d)) (fVal v)) (s.paramQ x 0x0E02 (1, 1))) ||
        (s.paramQ x 0x0709 (0, 1)).1 == 0) = true →
      ∃ t, exec (.brakeChopperOpen x ms minDuty v0 v1 i d v) s = .next t ∧ t.fld (F.TR_CSC_STAT_STATE x) = 2 ∧
        t.stat (scCascade x) 13 = true ∧ bit (t.tr x).gates 6 = false) ∧
    ((s.tr x).ovSig = false → ∃ t, exec (.busOvervoltageSignal x true) s = .next t ∧ (t.tr x).ovSig = true ∧
      t.stat (scAxis x) 4 = true ∧ t.cause (scAxis x) 4 = true ∧ (s.axisOn x = true → s.fld (F.TR_CSC_STAT_STATE x) = 0 → (s.tr x).brkOc = false →
        s.safe x ≠ 4 → t.fld (F.TR_CSC_STAT_HW_ON x) = 1 ∧ (t.mayBeOn x 6 = true → bit (t.tr x).gates 6 = true)) ∧
      s.takesSafe x (if s.above x then (if s.ascPol x = 3 then 1 else s.ascPol x) else 3) t) ∧
    ((s.tr x).ovSig = true → ∃ t, exec (.busOvervoltageSignal x false) s = .next t ∧ (t.tr x).ovSig = false ∧
      t.fld (F.TR_CSC_STAT_HW_ON x) = 0 ∧ t.cause (scAxis x) 4 = ((s.ax x).ov2 || (s.sv x).ov2N))

/-- R523, R524, R526: a sample enters the mean of sixteen (the model leaves its rounding free, log entry 1), which is TJ within
its range; the first one gives the band, a later one a band that rises at each lower bound and falls 2 K below it, with E92.
R530, R531: at TT_THR a request starts, and ends the hysteresis below; after GRACE, or at once by ENF_NOW, it is enforced. R533,
R534: every 100 ms the change over 1 s is the rate, and each threshold raises its event once until it has halved. R536, R538:
the die estimate follows the loss of its window, above DRV_LIM with code 52. R487, R527, R528: the shutdown raises code 36, puts
each die into low ASC unless its state stands higher, its torque-off pin or supply is low or the image disables its axis (R105;
which safe states it takes over, and which it leaves, is log entry 39), and holds the control die in reset. -/
def Obligations.TemperatureSetsBandThrottleAndShutdown : Prop :=
  ∀ (s : State), s.isRunning = true →
    (∀ diode, (s.sun.pll = false → exec (.temperatureSample diode) s = .next s) ∧
      (s.sun.pll = true → ∃ t, exec (.temperatureSample diode) s = .next t ∧
        let l := ((diode + s.sfld F.ORG_CAL_OFS) :: s.org.samples).take 16
        let sum := l.foldl (· + ·) 0
        let n : Int := l.length
        t.org.samples = l ∧ t.org.first = false ∧
        (999 ≤ s.org.count → t.org.ended = true ∧ t.org.count = 0 ∧ t.org.means = ((s.org.sum + t.tj, s.org.count + 1) :: s.org.means).take 11) ∧
        (t.tj = clampI (-220) 700 (sum / n) ∨ (sum % n ≠ 0 ∧ t.tj = clampI (-220) 700 (sum / n + 1))) ∧
        t.fld F.ORG_TJ_BAND = (if s.org.first then bandOf t.tj else bandNext t.tj (s.fld F.ORG_TJ_BAND)) ∧
        t.fld F.SNS_SAR_WIN_W_NOW = s.fld (winFld (t.fld F.ORG_TJ_BAND)) ∧
        (s.org.first = false → t.fld F.ORG_TJ_BAND ≠ s.fld F.ORG_TJ_BAND → t.pend 92 = true) ∧
        (∀ x, t.cause (scAxis x) 22 = (decide (s.img.tbMax < t.fld F.ORG_TJ_BAND) && s.axisOn x)) ∧
        let thr : Int := 4 * s.want F.ORG_THR_CFG_TT_THR
        (s.flag F.ORG_STAT_THR_REQ = false → t.flag F.ORG_STAT_THR_REQ = decide (thr ≤ t.tj) ∧ (thr ≤ t.tj → t.pend 93 = true)) ∧
        (s.flag F.ORG_STAT_THR_REQ = true → s.org.byRise = false →
          t.flag F.ORG_STAT_THR_REQ = decide (thr - 4 * s.want F.ORG_THR_CFG_HYST ≤ t.tj)))) ∧
    (∀ c, (c = Instr.throttleEnforced ∧ s.fld F.ORG_THR_CFG_GRACE * 1000 ≤ s.org.asked) ∨ c = .enfNow →
      s.flag F.ORG_STAT_THR_REQ = true → s.flag F.ORG_STAT_THR_ENF = false → ∃ t, exec c s = .next t ∧
        t.flag F.ORG_STAT_THR_ENF = true ∧ t.pend 94 = true) ∧
    (∀ m old, s.org.means[0]? = some m → s.org.means[10]? = some old → s.org.ended = true → ∃ t, exec .riseRateUpdate s = .next t ∧
      t.org.ended = false ∧ t.org.means = s.org.means ∧
      let d := qMul (25, 1) (qSub m old)
      let fires (r : Nat) (arm : Bool) : Bool := !qLt d (qDiv (10 * r, 1) (2, 1)) && arm && qLe (10 * r, 1) d
      (t.fld F.ORG_RATE_VALUE = unsigned 32 (qFloor d) ∨ t.fld F.ORG_RATE_VALUE = unsigned 32 (qFloor d + 1)) ∧
      (fires (s.fld F.ORG_RISE_CFG_RISE1) s.org.arm1 = true → t.flag F.ORG_STAT_RISE1_SEEN = true ∧ t.pend 96 = true ∧ t.org.arm1 = false) ∧
      (fires (s.fld F.ORG_RISE_CFG_RISE2) s.org.arm2 = true → t.flag F.ORG_STAT_RISE2_SEEN = true ∧ t.pend 97 = true ∧ t.org.arm2 = false ∧
        (s.flag F.ORG_RISE_CFG_RISE2_REQ = true → t.flag F.ORG_STAT_THR_REQ = true))) ∧
    (∀ x : Axis, s.org.rise.length = 2 → ∃ t, exec (.driverEstimateWindow x) s = .next t ∧
      (t.tr x).edgeN = List.replicate 128 0 ∧ nth 0 t.org.rise x.ix = riseNext (s.dieLoss x) (nth 0 s.org.rise x.ix) ∧
      let est : Int := s.tj * (q80 : Int) + 4 * nth 0 t.org.rise x.ix
      let lim : Int := (4 * s.fld F.ORG_DRV_CFG_DRV_LIM * q80 : Nat)
      t.cause (scAxis x) 52 = decide (lim < est) ∧
      (lim < est → t.flag (drvFld x) = true ∧ (s.cause (scAxis x) 52 = false → t.stat (scAxis x) 52 = true ∧ t.pend 98 = true)) ∧
      (est < lim - (20 * q80 : Nat) → t.flag (drvFld x) = false)) ∧
    ∃ t, exec .thermalShutdown s = .next t ∧ t.die = .thermal ∧ t.org.halted = true ∧ t.cause 0 36 = true ∧ t.stat 0 36 = true ∧
      ∀ x, let held := (t.tr x).thermal = true ∧ t.flag (F.TR_SAFE_STAT_THERMAL x) = true ∧
          (t.tr x).quiet = s.fld (F.TR_SAFE_CFG_QUIET x) ∧ (t.tr x).exitV = s.fld (F.TR_SAFE_CFG_EXIT_V x)
        if s.toffLow x = true ∨ (s.tr x).drvLow = true ∨ s.axisOn x = false then t.safe x = s.safe x ∧ (t.tr x).thermal = (s.tr x).thermal
        else (s.tr x).due = none → if s.safe x ≠ 0 ∧ (s.tr x).rank ≤ 5 then t.safe x = s.safe x ∧ (s.safe x = 1 → held)
          else (s.tr x).soft = 0 → t.safe x = 1 ∧ t.fld (F.TR_SAFE_STAT_ORIGIN x) = 5 ∧ held

/-! ### The host port, the flash port, the DMA and self-test -/

/-- R576, R577: a frame with a wrong number of edges or a wrong trailer does nothing, is counted with its reason (E76), and the
reply names it. R578: the ready reply goes out with EVENT. R580, R581: while a reply is not ready the busy pattern goes out, and
a frame received meanwhile is not executed. R573, R582 to R585: NOP changes no alive counter; a new frame is executed and its
reply echoes OPCODE and ALIVE: READ delivers words of the address space (an unimplemented address 0), WRITE writes them, a
reserved OPCODE shows BADOP; the same ALIVE again delivers the stored reply with RETRANS and executes nothing. R579: the reply
becomes ready. -/
def Obligations.FramesAreCheckedExecutedAndAnswered : Prop :=
  ∀ (s : State) (f : WktFrame), s.frameMay f →
    let r := f.reason (s.fld F.WKT_LEN_LEN)
    (∀ c, c ∈ frameCmds f → r ≠ 0 → s.frameFree → ∃ t, exec c s = .next t ∧ t.mem = s.mem ∧ t.pend 76 = true ∧
      t.fld F.WKT_LAST_BAD_REASON = r ∧ t.fld F.WKT_LAST_BAD_EDGES = min 0xFFFF f.edges ∧ t.flag (reasonSeen r) = true ∧
      t.fld F.WKT_CNT_REJECTS = min 255 (s.fld F.WKT_CNT_REJECTS + 1) ∧ t.wkt.ready = true ∧
      t.wkt.next = some (withFlag (replyHeader 0 (s.fld F.WKT_STAT_ALIVE) 0) (reasonFlag r), [])) ∧
    (∀ h ws, s.wkt.next = some (h, ws) → s.wkt.ready = true → s.wkt.fresh = false → s.wkt.len = none → f.opcode = 0 → r = 0 →
      ∃ t, exec (.nop f) s = .next t ∧ s.shifted f (if s.evtFlag then withFlag h rfEvent else h) ws t) ∧
    (∀ h ws, s.wkt.next = some (h, ws) → s.wkt.ready = false → r = 0 → s.flag F.WKT_STAT_LOST = false →
      ∀ c, (c = Instr.read f [] ∧ f.opcode = 1) ∨ (c = .write f [] ∧ f.opcode = 2) → ∃ t, exec c s = .next t ∧ t.mem = s.mem ∧
        s.shifted f 0x96C396C3#32 (List.replicate (frameW (s.fld F.WKT_LEN_LEN)) 0x96C396C3#32) t ∧
        t.fld F.WKT_CNT_BUSY = min 255 (s.fld F.WKT_CNT_BUSY + 1) ∧ t.flag F.WKT_STAT_DROP_SEEN = true ∧
        t.wkt.next = some (withFlag h rfDropped, ws) ∧ t.fld F.WKT_STAT_ALIVE = s.fld F.WKT_STAT_ALIVE) ∧
    (s.frameFree → r = 0 → s.flag F.WKT_STAT_LOST = false → f.opcode = 0 → ∃ t, exec (.nop f) s = .next t ∧
      t.wkt.next = some (replyHeader 0 f.alive s.reply, []) ∧ t.wkt.ready = false ∧ t.reply = 0 ∧ t.mem = s.mem ∧
      t.fld F.WKT_STAT_ALIVE = s.fld F.WKT_STAT_ALIVE ∧ t.wkt.stored = s.wkt.stored) ∧
    (s.frameNew f → s.reply = 0 →
      (f.opcode = 1 → f.payload = [0] → f.addr % 4 = 0 → s.isRunning = true → ∃ t, exec (.read f []) s = .next t ∧
        t.fld F.WKT_STAT_ALIVE = f.alive ∧ t.flag F.WKT_STAT_NONE = false ∧ t.wkt.stored = t.wkt.next.getD (0, []) ∧
        (memImplemented f.addr = true → s.eccClean → t.wkt.next = some (replyHeader 1 f.alive 0, [s.ld32 f.addr])) ∧
        (memImplemented f.addr = false → regImplemented f.addr = true → f.addr / 0x1000 ≠ 0x40F →
          t.wkt.next = some (replyHeader 1 f.alive 0, [s.regRead f.addr])) ∧
        (memImplemented f.addr = false → regImplemented f.addr = false → f.addr ≤ 0xFFFFFC →
          t.wkt.next = some (replyHeader 1 f.alive (2 ^ rfVoid), [0]))) ∧
      (∀ w, f.opcode = 2 → f.payload = [w] → f.addr % 4 = 0 → s.isRunning = true → memImplemented f.addr = true → s.eccClean →
        ∃ t, exec (.write f []) s = .next t ∧ t.ld32 f.addr = w ∧ t.wkt.next = some (replyHeader 2 f.alive 0, []) ∧
          t.fld F.WKT_STAT_ALIVE = f.alive ∧ ∀ a, a < f.addr ∨ f.addr + 4 ≤ a → t.byte a = s.byte a) ∧
      (3 ≤ f.opcode → ∃ t h, exec (.reservedOpcode f) s = .next t ∧ t.flag F.WKT_STAT_BADOP_SEEN = true ∧
        t.wkt.next = some (h, []) ∧ bit h.toNat rfBadOp = true ∧ t.mem = s.mem ∧ t.fld F.WKT_STAT_ALIVE = f.alive)) ∧
    (s.frameFree → r = 0 → s.flag F.WKT_STAT_LOST = false → s.flag F.WKT_STAT_NONE = false → f.alive = s.fld F.WKT_STAT_ALIVE →
      ∀ c, (c = Instr.read f [] ∧ f.opcode = 1) ∨ (c = .write f [] ∧ f.opcode = 2) ∨ (c = .reservedOpcode f ∧ 3 ≤ f.opcode) →
      ∃ t, exec c s = .next t ∧ t.mem = s.mem ∧ t.wkt.next = some (withFlag s.wkt.stored.1 rfRetrans, s.wkt.stored.2) ∧
        t.fld F.WKT_CNT_RETRANS = min 255 (s.fld F.WKT_CNT_RETRANS + 1) ∧ t.flag F.WKT_STAT_RETRANS_SEEN = true) ∧
    (s.wkt.next.isSome = true → ∃ t, exec .replyReady s = .next t ∧ t.wkt.ready = true ∧ t.wkt.next = s.wkt.next ∧ t.regs = s.regs)

/-- R656: a write of an address without a register changes nothing and notes VOID; read-only registers ignore it. A register
that has a command of its own behaves as that command; a plain one takes the written value of its RW fields, and nothing else
changes. R589: a length from 64 to 4096 waits for the reply, another is ignored with VOID. R590, R593: HLT takes its fields; EN
arms the timer, EN = 0 disarms it. R590, R591: past the time without a frame the host is lost: LOST, code 43, E78, and for each
axis a STOP with tag 0xF8, or code 44. -/
def Obligations.RegisterWritesActAsTheirCommandsAndHostLossReacts : Prop :=
  ∀ (s : State) (w : Word), s.isRunning = true →
    (∀ a, regImplemented a = false → ∃ t, exec (.registerWrite a w) s = .next t ∧ t = { s with reply := t.reply } ∧
      bit t.reply rfVoid = true) ∧
    (∀ a, a ∈ [A.GH_BOOT_STATUS, A.GH_IMG_VER, A.LDG_SUMMARY, A.LDG_LOG_STAT, A.PGL_STAT, A.PGL_ERR, A.ICE_ERR, A.WKT_LAST_BAD] →
      regImplemented a = true ∧ exec (.registerWrite a w) s = .next s) ∧
    (∀ a, a ∈ [A.LDG_FLT_CFG, A.HB_PACE_LIM, A.STC_BG_CFG] → ∃ t, exec (.registerWrite a w) s = .next t ∧ s.onlyRegs [a] t ∧
      let m := takeMask a w (fun d => d.acc == .rw)
      t.rd a = (s.rd a &&& ~~~m) ||| (w &&& m)) ∧
    (∀ x : Axis, exec (.registerWrite (A.MC_MODE x) w) s = exec (.modeWrite x w) s ∧
      exec (.registerWrite (A.MC_BLV_CTRL x) w) s = exec (.blvCtrlWrite x w) s ∧
      exec (.registerWrite (A.MC_SWAP x) w) s = exec (.swapRequest x w) s ∧
      exec (.registerWrite (A.MC_LOOP_EN x) w) s = exec (.loopEnableWrite x false w) s ∧
      exec (.registerWrite (A.TR_CFG x) w) s = exec (.extWrite x w) s ∧
      exec (.registerWrite (A.TR_STR_LIM x) w) s = exec (.strLimWrite x w) s) ∧
    exec (.registerWrite A.PGL_CTRL w) s = exec (.pglReset w) s ∧ exec (.registerWrite A.STC_CANCEL w) s = exec (.stcCancel w) s ∧
    (let n := fieldOf F.WKT_LEN_LEN w
      ∃ t, exec (.wktLenWrite w) s = .next t ∧ t.regs = s.regs ∧
        (64 ≤ n → n ≤ 4096 → t.wkt.len = some (n, true)) ∧ (n < 64 ∨ 4096 < n → bit t.reply rfVoid = true)) ∧
    (∃ t, exec (.hltWrite w) s = .next t ∧ s.onlyRegs [A.WKT_HLT, A.WKT_STAT] t ∧
      t.fld F.WKT_HLT_EN = fieldOf F.WKT_HLT_EN w ∧ t.fld F.WKT_STAT_ARMED = fieldOf F.WKT_HLT_EN w) ∧
    ∀ ms, s.flag F.WKT_HLT_EN = true → s.flag F.WKT_STAT_ARMED = true → s.flag F.WKT_STAT_LOST = false →
      max 1 (s.fld F.WKT_HLT_TIMEOUT) ≤ ms → ∃ t, exec (.hostLost ms) s = .next t ∧ t.flag F.WKT_STAT_LOST = true ∧
        t.stat 4 43 = true ∧ t.pend 78 = true ∧ ∀ x, let react := s.fld (match x with | .a => F.WKT_HLT_REACT_A | .b => F.WKT_HLT_REACT_B)
          (react = 1 → s.flag (F.PW_CTRL_EN x) = true → s.pendCmd x = none →
            (t.ax x).cmd = some { code := 3, tag := 0xF8, src := 0, slot := none }) ∧
          (react = 2 → t.stat (scAxis x) 44 = true ∧ t.cause (scAxis x) 44 = true)

/-- R598, R600: a window miss stalls its task and asks for its 64-byte line. R604: aperture bytes are asked for in order, split
at 4096-byte boundaries. R605: a strobe that stops lets the transaction run once more; then, and for the other kinds of table
19.3, it fails with its kind and E80. R599, R602: a fetched line is decrypted, stored and its task resumes. R606: RELEASE takes
effect once no transaction runs, and a retake empties the cache and, in boot modes 00 and 10 alone (R595), probes the flash; INV
empties the cache. -/
def Obligations.FlashTransactionsFillTheWindowOrFail : Prop :=
  ∀ (s : State), s.isRunning = true →
    (∀ k addr hits r, s.runOf k = some r → s.inWindow r = true → (s.windowAt addr).isSome = true → (s.cached addr).isNone = true →
      s.flag F.ICE_STAT_RELEASED = false → ∃ t, exec (.windowMiss k addr hits) s = .next t ∧
        (t.kiosk k).run = some { r with stalled := some addr } ∧
        let q : FlashReq := { ap := false, who := k, addr := flashLine addr, len := 64, retried := false, rel := r.rel, void := false }
        (s.ice.run.isSome = true → t.ice.run = s.ice.run ∧ t.ice.fills = s.ice.fills ++ [q]) ∧
        (s.ice.run = none → s.ice.release = false → s.ice.fills = [] → s.ice.reads = [] → t.ice.run = some q ∧
          t.flag F.ICE_STAT_BUSY = true)) ∧
    (∀ n d l m, (s.pch n).await_ = some m → (s.pch n).desc = some d → (s.pch n).flight = some l → (s.pch n).got = [] →
      (s.ice.reads ++ s.ice.run.toList).any (fun q => q.ap && q.who == n && !q.void) = false → s.ice.run.isSome = true →
      s.flag F.ICE_STAT_RELEASED = false → ∃ t, exec (.apertureRead n) s = .next t ∧ t.ice.run = s.ice.run ∧
        t.ice.reads = s.ice.reads ++ ((burstRuns d (s.pch n).done l.length).filter (fun r => inAperture r.1)).flatMap (fun r =>
          match runWords r with
          | w :: ws => splitReads 4 n (s.apertureFlash w) (32 * (ws.length + 1))
          | [] => [])) ∧
    (∀ q timeout bytes, s.ice.run = some q → s.iceKind q timeout = some 1 → q.retried = false →
      ∃ t, exec (.flashTransactionEnd timeout bytes) s = .next t ∧ t.ice.run = some { q with retried := true } ∧
        t.fld F.ICE_CNT_RETRIES = min F.ICE_CNT_RETRIES.top (s.fld F.ICE_CNT_RETRIES + 1)) ∧
    (∀ q timeout bytes kind, s.ice.run = some q → s.iceKind q timeout = some kind → (kind = 1 → q.retried = true) → kind < 16 →
      s.ice.fills = [] → s.ice.reads = [] → s.ice.release = false → q.ap = false → ∃ t, exec (.flashTransactionEnd timeout bytes) s = .next t ∧
        t.fld F.ICE_ERR_KIND = kind ∧ t.fld F.ICE_ERR_SOURCE = 1 ∧ t.fld F.ICE_ERR_ADDR = q.addr % 2 ^ 24 ∧
        t.flag F.ICE_STAT_ERR_SEEN = true ∧ t.pend 80 = true ∧ t.stat 3 39 = true ∧ t.pend 81 = true) ∧
    (∀ q bytes, s.ice.run = some q → s.iceKind q false = none → q.ap = false → s.ice.drop = false → s.ice.fills = [] → s.ice.reads = [] →
      s.ice.release = false → ∃ t, exec (.flashTransactionEnd false bytes) s = .next t ∧ t.ice.run = none ∧ t.flag F.ICE_STAT_BUSY = false ∧
        t.ice.fetched = s.ice.fetched ++ [(q.who, q.addr, bytes.take q.len ++ List.replicate (q.len - bytes.length) 0)]) ∧
    (∀ k a bs rest, s.ice.fetched = (k, a, bs) :: rest → flashLine a = a → bs ≠ [] → ∃ t, exec .windowLineFill s = .next t ∧
      t.ice.fetched = rest ∧ t.cached a = some (s.lineBytes a bs) ∧
      t.fld F.ICE_CNT_MISSES = min F.ICE_CNT_MISSES.top (s.fld F.ICE_CNT_MISSES + 1) ∧
      ∀ r v, (s.kiosk k).run = some r → r.stalled = some v → flashLine v = a → (t.kiosk k).run = some { r with stalled := none }) ∧
    (s.flag F.ICE_CTRL_RELEASE = false → ∃ t, exec .release s = .next t ∧ t.flag F.ICE_CTRL_RELEASE = true ∧
      (s.ice.run.isSome = true → t.ice.release = true ∧ t.flag F.ICE_STAT_RELEASED = s.flag F.ICE_STAT_RELEASED) ∧
      (s.ice.run = none → s.ice.fills = [] → s.ice.reads = [] → t.flag F.ICE_STAT_RELEASED = true)) ∧
    (∀ id, s.flag F.ICE_CTRL_RELEASE = true → ∃ t, exec (.portRetake id) s = .next t ∧ t.flag F.ICE_CTRL_RELEASE = false ∧
      t.flag F.ICE_STAT_RELEASED = false ∧ t.ice.lines = [] ∧ t.ice.release = false ∧
      (s.fld F.GH_BOOT_STATUS_BOOTSEL = 0 ∨ s.fld F.GH_BOOT_STATUS_BOOTSEL = 2 → t.fld F.ICE_CFG_MODE = id.mode % 4 ∧ t.flag F.ICE_CFG_PROBED = true) ∧
      (s.fld F.GH_BOOT_STATUS_BOOTSEL = 1 → t.rd A.ICE_CFG = s.rd A.ICE_CFG)) ∧
    ∃ t, exec .inv s = .next t ∧ t.ice.lines = [] ∧ t.regs = s.regs ∧ t.mem = s.mem

/-- R607, R609, R610: a trigger takes the address of CHn_DESC, at once on an IDLE channel, else in its queue; beyond two it is
lost, and a channel that does not exist only counts. R612, R613: the descriptor granted is fetched, or is in error. R617, R622:
each window gives fresh credit, with PRIO and SHARE as written; none ends while a ready channel has had no grant (log entry 57).
R612, R619: a burst takes its bytes from the source, as many as its charge allows (log entry 56), and its end writes them. R627:
the completed descriptor counts, shows its event, and the chain goes on. R625: RING_RD moves up to RING_WR. R629: ABORT ends at
once or after the burst in flight, and the queue is emptied with it. R631, R632: a bus error stops every channel, with code 42.
R633: the keyed reset of a stopped engine lets it run. -/
def Obligations.PergolaMovesBlocksRecordsThemAndStops : Prop :=
  ∀ (s : State) (n : Nat), s.isRunning = true →
    (n < 16 → s.flag (F.PGL_CH_CFG_EXISTS n) = false → ∃ t, exec (.trig n) s = .next t ∧
      t.fld F.PGL_STAT_NOCH = min 0xFFFF (s.fld F.PGL_STAT_NOCH + 1) ∧ s.onlyRegs [A.PGL_STAT] t) ∧
    (∀ kind ch addr, 1 ≤ kind → kind ≤ 3 → (∀ m, ch = some m → s.pglHas m) → ∃ t, exec (.busError kind ch addr) s = .next t ∧
      t.flag F.PGL_STAT_STOPPED = true ∧ t.fld F.PGL_ERR_KIND = kind ∧ t.fld F.PGL_ERR_ADDR = addr % 2 ^ 24 ∧
      t.flag F.PGL_ERR_NOCH = ch.isNone ∧ t.stat 4 42 = true ∧ t.pend 74 = true ∧
      ∀ m, s.pglHas m → t.pglSt m = 4 ∧ (s.pglSt m ≠ 4 → t.pglQueue m = [])) ∧
    (∀ w, fieldOf F.PGL_CTRL_KEY w = 0x9A5C → fieldOf F.PGL_CTRL_RESET w = 1 → ∃ t, exec (.pglReset w) s = .next t ∧
      (s.flag F.PGL_STAT_STOPPED = false → t.regs = s.regs ∧ bit t.reply rfVoid = true) ∧
      (s.flag F.PGL_STAT_STOPPED = true → t.flag F.PGL_STAT_STOPPED = false ∧ t.rd A.PGL_ERR = 0 ∧ t.cause 4 42 = false ∧
        t.pend 75 = true ∧ (s.pglUnrouted → ∀ m, s.pglHas m → t.pglSt m = 0))) ∧
    (∀ w, let N := max 1 s.ringN
      let used := (s.fld F.PGL_RING_WR + N - s.fld F.PGL_RING_RD % N) % N
      let v := fieldOf F.PGL_RING_RD w
      ∃ t, exec (.ringRdWrite w) s = .next t ∧ if v < N ∧ (v + N - s.fld F.PGL_RING_RD % N) % N ≤ used then
          t.fld F.PGL_RING_RD = v ∧ (s.pgl.wait = [] → s.onlyRegs [A.PGL_RING_RD] t)
        else t.regs = s.regs ∧ bit t.reply rfVoid = true) ∧
    (s.pglHas n →
      (∃ t, exec (.trig n) s = .next t ∧ let a := s.fld (F.PGL_CH_DESC n)
        (s.pglSt n = 0 → s.pglQueue n = [] → t.pglSt n = 1 ∧ t.fld (F.PGL_CH_CUR n) = a ∧ t.pglQueue n = []) ∧
        (1 ≤ s.pglSt n → s.pglSt n ≤ 3 → (s.pglQueue n).length < 2 → t.pglQueue n = s.pglQueue n ++ [a] ∧ t.pglSt n = s.pglSt n) ∧
        (2 ≤ (s.pglQueue n).length ∨ s.pglSt n = 4 → t.pglQueue n = s.pglQueue n ∧ t.flag (F.PGL_CH_STAT_LOST_SEEN n) = true)) ∧
      ((∃ m, m < 16 ∧ s.pglReady m = true ∧ (s.pch m).granted = false) → exec .creditWindow s = .next s) ∧
      ((∀ m, m < 16 → s.pglReady m = true → (s.pch m).granted = true) → ∃ t, exec .creditWindow s = .next t ∧ t.fld (F.PGL_CH_CFG_PRIO n) = s.want (F.PGL_CH_CFG_PRIO n) ∧
        t.fld (F.PGL_CH_CFG_SHARE n) = s.want (F.PGL_CH_CFG_SHARE n) ∧ (t.pch n).granted = false ∧
        (t.pch n).credit = 64 * (s.want (F.PGL_CH_CFG_SHARE n) : Int)) ∧
      (∀ w, ∃ t, exec (.chnCfgWrite n w) s = .next t ∧ t.regs = s.regs ∧
        t.want (F.PGL_CH_CFG_PRIO n) = fieldOf (F.PGL_CH_CFG_PRIO n) w ∧ let v := fieldOf (F.PGL_CH_CFG_SHARE n) w
        t.want (F.PGL_CH_CFG_SHARE n) = (if v = 0 then s.want (F.PGL_CH_CFG_SHARE n) else v)) ∧
      (s.pglNext = some n → (s.pch n).desc = none → let a := s.fld (F.PGL_CH_CUR n)
        (a % 32 ≠ 0 ∨ 0x180000 ≤ a → ∃ t, exec (.descriptorFetch n) s = .next t ∧ t.flag (F.PGL_CH_STAT_DESC_ERR n) = true) ∧
        (a % 32 = 0 → a < 0x180000 → s.eccClean → ∃ t, exec (.descriptorFetch n) s = .next t ∧
          let d := s.words a 8
          t.fld (F.PGL_CH_STAT_TAG n) = dW d 0 % 256 ∧ if descOk (s.flag (F.PGL_CH_CFG_TWO_D n)) d
            then (t.pch n).desc = some d ∧ (t.pch n).done = 0 ∧ (t.pch n).credit = (s.pch n).credit - 32 ∧ t.mem = s.mem
            else t.flag (F.PGL_CH_STAT_DESC_ERR n) = true)) ∧
      (∀ d, s.pglNext = some n → (s.pch n).desc = some d → dTwo d = false → dKind d = 0 → s.eccClean →
        let i := (s.pch n).done
        let len := burstLen d i (s.pch n).credit
        dW d 1 + i + len ≤ 0x180000 → dW d 2 + i + len ≤ 0x180000 → ∃ t, exec (.burstGrant n []) s = .next t ∧
          (t.pch n).flight = some ((List.range len).map (fun j => (dW d 2 + i + j, s.byte (dW d 1 + i + j)))) ∧
          (t.pch n).await_ = none ∧ (t.pch n).granted = true ∧ (t.pch n).credit = (s.pch n).credit - chargeOf d i len ∧ t.mem = s.mem) ∧
      (∀ d fl a, (s.pch n).desc = some d → (s.pch n).await_ = none → (s.pch n).flight = some fl → s.pglSt n = 1 → s.eccClean →
        (∀ j e, fl[j]? = some e → e.1 = a + j) → ∃ t, exec (.burstDone n) s = .next t ∧ (t.pch n).flight = none ∧
          (t.pch n).done = (s.pch n).done + fl.length ∧ (∀ e, e ∈ fl → t.byte e.1 = e.2) ∧
          ∀ b, b < a ∨ a + fl.length ≤ b → t.byte b = s.byte b) ∧
      (∀ d, (s.pch n).desc = some d → (s.pch n).flight = none → s.pglSt n = 1 → (s.pch n).done = descTotal d →
        ∃ t, exec (.descriptorComplete n) s = .next t ∧ (dEvt d = true → t.pend (56 + n) = true) ∧
          (dEvt d = false → dRec d = false → t.fld (F.PGL_CH_CNT_DONE n) = min (F.PGL_CH_CNT_DONE n).top (s.fld (F.PGL_CH_CNT_DONE n) + 1) ∧
            (t.pch n).desc = none ∧ (dLast d = false → t.fld (F.PGL_CH_CUR n) = dW d 4 % 2 ^ 24 ∧ t.pglSt n = 1) ∧
            (dLast d = true → s.pglQueue n = [] → t.pglSt n = 0)) ∧
          (dEvt d = false → dRec d = true → s.ringFull = false → s.eccClean → let wr := s.fld F.PGL_RING_WR
            t.fld F.PGL_RING_WR = (wr + 1) % s.ringN % 2 ^ 12 ∧ t.pend 72 = true ∧ ∀ j, j < 4 →
            t.ld32 (s.fld F.PGL_RING_BASE + 16 * wr + 4 * j) =
              nth 0 (pglRecord (dW d 0) n 1 (s.fld (F.PGL_CH_CUR n)) 0 (s.now % 2 ^ 32)) j)) ∧
      ∃ t, exec (.abort n) s = .next t ∧ (s.pglSt n = 0 → t.pglQueue n = [] ∧ t.pglSt n = 0) ∧
        (s.pglSt n = 1 → (s.pch n).flight.isSome = true → t.pglSt n = 3 ∧ t.pglQueue n = s.pglQueue n) ∧
        (s.pglSt n = 1 → (s.pch n).flight = none → (s.pch n).desc = none → (s.pch n).mid = true → s.eccClean → t.fld (F.PGL_CH_RESID n) = 0) ∧
        (∀ d, s.pglSt n = 1 → (s.pch n).flight = none → (s.pch n).desc = some d → (s.pch n).done < descTotal d → s.ringFull = false →
          s.eccClean → t.fld (F.PGL_CH_RESID n) = (descTotal d - (s.pch n).done) % 2 ^ 24 ∧ t.pend (56 + n) = true ∧
          (s.pglUnrouted → t.pglSt n = 0 ∧ (t.pch n).desc = none)) ∧
        (s.pglSt n = 2 → (t.pch n).abort = true))

/-- R636 to R639: a request of a slot that runs or waits is ignored with E106; a background test starts; a foreground test is
refused while a bridge is enabled; a test that may not start yet waits with E105, and the lowest one that may starts in its
turn. (A queued test starts in SAFE and LOCKOUT too: log entry 59.) R651: TRIM_x holds every gate land of its die off. R642: a
test ends with PASS or with its failure and DETAIL, with E104 (a scrub pass with E107 too), and a failure raises code 50 in its
scope. R649, R653: a calibration writes its values. R641: a cancelled test ends with CANCELLED. R646: a background test repeats
after its interval, and SAR_CHECK does not end while a test that uses the converters runs. R647, R648: a path whose trip comes
late, not at all or unasked fails DS_PATH, and an input whose land does not move, or whose filters do not give +16384 under 1110
and −16384 under 1000 at every OSR3 and OSR2, does so in SD_LOOP. R654: a trim register is written while the bridge is disabled.
-/
def Obligations.TestsRunQueueEndAndCalibrate : Prop :=
  ∀ (s : State), s.isRunning = true → s.eccClean →
    (∀ c k, Instr.asks c k → (s.testRuns k = true ∨ s.testWaits k = true → ∃ t, exec c s = .next t ∧ t.pend 106 = true ∧
        t.fld (F.STC_TSTAT_STATE k) = s.fld (F.STC_TSTAT_STATE k)) ∧
      (s.testRuns k = false → s.testWaits k = false → ∃ t, exec c s = .next t ∧
        if k < 2 then t.testRuns k = true
        else if k ≤ 6 ∧ (s.bridgeOn .a || s.bridgeOn .b) = true then t.fld (F.STC_TSTAT_STATE k) = s.fld (F.STC_TSTAT_STATE k) ∧
          t.fld (F.STC_TSTAT_RESULT k) = 3 ∧ bit t.reply rfRunning = true ∧ t.pend 106 = true
        else if s.testMay k = true ∧ (k < 7 ∨ ∃ x, testAxis k = some x ∧ s.axState x = 0) then t.testRuns k = true
        else t.testWaits k = true ∧ t.pend 105 = true)) ∧
    (∀ ds mon x, s.testRuns (2 + x.ix) = false → s.testWaits (2 + x.ix) = false → s.testMay (2 + x.ix) = true →
      ∃ t, exec (.dsPath x ds mon) s = .next t ∧
        let bad (l : List PathCheck) (c : Nat) : Bool :=
          !(l[c]?).any (fun p => p.soft && p.calm && p.trip.any (fun ns => decide (ns ≤ 25 * s.fld (F.TR_DS_CFG_FILT x) + 50)))
        (∀ c, c < 7 → bit (t.testOut (2 + x.ix)).bad c = bad ds c) ∧ ∀ c, c < 6 → bit (t.testOut (2 + x.ix)).bad (7 + c) = bad mon c) ∧
    (∀ (x : Axis) (pat : List FilterCheck) (land : List (List Bool)), s.testRuns (4 + x.ix) = false → s.testWaits (4 + x.ix) = false →
      s.testMay (4 + x.ix) = true → ∃ t, exec (.sdLoop x pat land) s = .next t ∧ ∀ i, i < 4 →
        let own := s.sddOwner (4 * x.ix + i) == x.ix + 1
        let exact (p : FilterCheck) : Prop := p.sinc3.length = 5 ∧ p.sinc2.length = 3 ∧ ∀ e, e ∈ p.sinc3 ∨ e ∈ p.sinc2 →
          e.1 ≠ [] ∧ e.2 ≠ [] ∧ (∀ v, v ∈ e.1 → v = 16384) ∧ ∀ v, v ∈ e.2 → v = -16384
        (bit (t.testOut (4 + x.ix)).bad i = true ↔ own = true ∧ ∀ p, pat[i]? = some p → ¬exact p) ∧
        (own = true → ∀ b, (∀ e, e ∈ nth [] land i → e = b) → bit (t.testOut (4 + x.ix)).bad (4 + i) = true) ∧
        (own = true → (nth [] land i).length < 16 → true ∈ nth [] land i → false ∈ nth [] land i →
          bit (t.testOut (4 + x.ix)).bad (4 + i) = false)) ∧
    (∀ v1 g1 v2 g2, s.testRuns 0 = false → s.testWaits 0 = false → ∃ t, exec (.sarCheck v1 g1 v2 g2) s = .next t ∧
      let tol := 8 * s.fld F.STC_BG_CFG_SAR_TOL
      let bad (v g : Nat) : Bool := decide (v + tol < 65536) || decide (65536 + tol < v) || decide (tol < g)
      bit (t.testOut 0).bad 0 = bad v1 g1 ∧ bit (t.testOut 0).bad 1 = bad v2 g2 ∧
      bit (t.testOut 0).bad 2 = (decide (tol < 2 * v1 - 2 * v2) || decide (tol < 2 * v2 - 2 * v1))) ∧
    (∀ k, k < 11 → s.testWaits k = true → s.testMay k = true → (∀ j, j < k → (s.testWaits j && s.testMay j) = false) →
      ∃ t, exec (.queuedTestStart k) s = .next t ∧ t.testRuns k = true ∧ (k < 9 → s.onlyRegs [A.STC_TSTAT k] t) ∧
        ∀ x : Axis, k = 9 + x.ix → t.allOff x) ∧
    (s.testRuns 0 = true → (s.testRuns 2 || s.testRuns 3 || s.testRuns 6) = true → exec (.testDone 0) s = .next s) ∧
    (∀ k, k < 11 → s.testRuns k = true → (k = 0 → (s.testRuns 2 || s.testRuns 3 || s.testRuns 6) = false) → let o := s.testOut k
      let bad := if k = 0 then o.bad &&& s.stc.sarBad else if k = 1 then 0 else o.bad
      ∃ t, exec (.testDone k) s = .next t ∧ t.testRuns k = false ∧ t.testWaits k = false ∧ t.pend 104 = true ∧
        t.fld (F.STC_TSTAT_RESULT k) = (if bad = 0 then 1 else if k < 6 then 2 else 6) ∧
        t.fld (F.STC_TSTAT_DETAIL k) = bad % 2 ^ 16 ∧ (k = 1 → t.pend 107 = true) ∧
        (bad ≠ 0 → k < 6 ∨ 9 ≤ k → ∀ sc, sc ∈ s.testScopes k → t.stat sc 50 = true ∧ t.cause sc 50 = true) ∧
        (∀ x a b, k = 9 + x.ix → o.vals = [((F.STC_TRIM_SRC x).lo, a), ((F.STC_TRIM_SNK x).lo, b)] →
          t.fld (F.STC_TRIM_SRC x) = unsigned (F.STC_TRIM_SRC x).width a.toInt ∧
          t.fld (F.STC_TRIM_SNK x) = unsigned (F.STC_TRIM_SNK x).width b.toInt) ∧
        (∀ n w, 6 ≤ k → k < 9 → n < 8 → o.vals = [(A.SNS_CAL n, w)] → t.fld (F.SNS_CAL_OFS n) = fieldOf (F.SNS_CAL_OFS n) w)) ∧
    (∀ w, ∃ t, exec (.stcCancel w) s = .next t ∧ ∀ k, k < 11 → bit (fieldOf F.STC_CANCEL_SLOT w) k = true →
      s.testRuns k = true ∨ s.testWaits k = true → t.fld (F.STC_TSTAT_RESULT k) = 5 ∧ t.fld (F.STC_TSTAT_STATE k) = 0 ∧ t.pend 104 = true) ∧
    (∀ k ms v1 g1 v2 g2, s.testRuns k = false → s.testWaits k = false →
      (k = 0 ∧ s.flag F.STC_BG_CFG_SAR_AUTO = true ∧ 10 * s.fld F.STC_BG_CFG_SAR_INT ≤ ms) ∨
        (k = 1 ∧ s.flag F.STC_BG_CFG_SCRUB_AUTO = true ∧ 100 * s.fld F.STC_BG_CFG_SCRUB_INT ≤ ms) →
      ∃ t, exec (.backgroundTestRepeat k ms v1 g1 v2 g2 []) s = .next t ∧ t.testRuns k = true) ∧
    ∀ x w, (s.bridgeOn x = true → exec (.trimWrite x w) s = .next s) ∧ (s.bridgeOn x = false → ∃ t, exec (.trimWrite x w) s = .next t ∧
      s.onlyRegs [A.STC_TRIM x] t ∧ t.fld (F.STC_TRIM_SRC x) = fieldOf (F.STC_TRIM_SRC x) w ∧
      t.fld (F.STC_TRIM_SNK x) = fieldOf (F.STC_TRIM_SNK x) w)

/-! ### Registers that a write clears -/

/-- R504, R505, R510 to R513: a raised fault sets its status bit and leaves an entry with its stamp, code, class, scope, UNIT,
DETAIL and SEQ, at COUNT, or over the oldest of the ring with LOST and E110 once 64 stand: shown of torque-off (code 9 of the
axis, CONTAINED, E0 or E28, with every raise), of a lost reference clock (code 33, FATAL, E111) and of a discarded frame (code
10, CORRECTED, DETAIL the count of R439, E108), which as long as its status bit stands only counts in REPEAT. R521: FLT_N is low
outside RUNNING, and in it exactly for a FATAL bit, a bit of a set and class that FLT_CFG selects, or a LOCKOUT. R506, R519: a
W1C write clears the bits it names but, in a status register, those whose cause is present (R7), and changes nothing else. -/
def Obligations.FaultsAreLoggedAndTheirBitsClearByTheirRules : Prop :=
  ∀ (s : State) (w : Word), s.isRunning = true →
    (∀ k, k < 6 → ∃ t, exec (.statusClear k w) s = .next t ∧ s.onlyRegs [A.LDG_ST k] t ∧
      t.rd (A.LDG_ST k) = s.rd (A.LDG_ST k) &&& ~~~(w &&& ~~~s.rd (A.LDG_CAUSE k))) ∧
    (∀ k, k < 4 → ∃ t, exec (.evtPendClear k w) s = .next t ∧ s.onlyRegs [A.LDG_EVT_PEND k] t ∧
      t.rd (A.LDG_EVT_PEND k) = s.rd (A.LDG_EVT_PEND k) &&& ~~~w) ∧
    (∀ (x : Axis) ns, 200 ≤ ns → s.fld F.LDG_LOG_STAT_COUNT ≤ 64 → ∃ t, exec (.torqueOff x ns) s = .next t ∧
      s.logged 9 2 (1 + x.ix) 0 0 t ∧ t.stat (scAxis x) 9 = true ∧ t.pend (evAx x 0) = true) ∧
    (s.sun.pll = true → s.getBit F.GRT_STAT_SAT 4 = false → s.fld F.LDG_LOG_STAT_COUNT ≤ 64 →
      ∃ t, exec .referenceClockLost s = .next t ∧ s.logged 33 3 0 0 0 t ∧ t.stat 0 33 = true ∧ t.pend 111 = true) ∧
    (∀ x : Axis, s.sun.pll = true → s.fld F.LDG_LOG_STAT_COUNT ≤ 64 → ∃ t, exec (.linkFrame x false) s = .next t ∧ t.pend 108 = true ∧
      (s.stat (scAxis x) 10 = false → s.logged 10 1 (1 + x.ix) 0 (t.fld (F.TR_LINK_CNT_DISCARDED x)) t) ∧
      (s.stat (scAxis x) 10 = true → t.fld F.LDG_REPEAT_COUNT = min 0xFFFF (s.fld F.LDG_REPEAT_COUNT + 1) ∧
        t.rd A.LDG_LOG_STAT = s.rd A.LDG_LOG_STAT ∧ ∀ n, t.rd (A.LDG_LOG n) = s.rd (A.LDG_LOG n))) ∧
    let set (sc cls : Nat) : Prop := ∃ c, 1 ≤ c ∧ c ≤ 52 ∧ faultClass c = cls ∧ s.stat sc c = true
    (s.fltLow = true ↔ set 0 3 ∨ s.flag F.LDG_FLT_CFG_CONT_A = true ∧ set 1 2 ∨ s.flag F.LDG_FLT_CFG_CONT_B = true ∧ set 2 2 ∨
      s.flag F.LDG_FLT_CFG_CONT_D = true ∧ set 0 2 ∨ s.flag F.LDG_FLT_CFG_CORR = true ∧ (set 1 1 ∨ set 2 1 ∨ set 0 1) ∨
      s.flag F.LDG_LOCKOUT_A = true ∨ s.flag F.LDG_LOCKOUT_B = true)

/-- R514: the keyed clear zeroes every entry, COUNT, LOST, SEQ and REPEAT and nothing else; without the key nothing changes. A
record raised after it goes to entry 0. -/
def Obligations.KeyedLogClearZeroesTheLogAlone : Prop :=
  ∀ (s : State) (w : Word), s.isRunning = true →
    (fieldOf F.LDG_LOG_CLR_KEY w = 0x3CC3 ∧ fieldOf F.LDG_LOG_CLR_LOG w = 1 → ∃ t, exec (.logClr w) s = .next t ∧
      s.onlyRegs ([A.LDG_LOG_STAT, A.LDG_REPEAT] ++ (List.range 256).map A.LDG_LOG) t ∧
      (∀ n, t.rd (A.LDG_LOG n) = 0) ∧ t.rd A.LDG_LOG_STAT &&& 0xFFFFFF7F#32 = 0 ∧ t.fld F.LDG_REPEAT_COUNT = 0 ∧
      t.logNext = 0) ∧
    (¬(fieldOf F.LDG_LOG_CLR_KEY w = 0x3CC3 ∧ fieldOf F.LDG_LOG_CLR_LOG w = 1) → exec (.logClr w) s = .next s)

/-- R516, shown of E88, which a set of the Sundial raises: with KIOSK set in its route every graph that the event triggers is
released, or counts an overrun of its axis while it runs; with PGL set the channel of PGL_CH, IDLE with an empty queue, becomes
ACTIVE at its DESC. R517, R518: IRQ0_N is low exactly while a pending event has IRQ0 set in its route, IRQ1_N likewise, and a
reply's event flag while one has WKT set; so a route write or a clear changes them. R520: a write of ROUTEn takes its IRQ0, IRQ1
and WKT bits and ignores KIOSK, PGL and PGL_CH. -/
def Obligations.RoutesActOnEachEventAndWritesChangeThePinRoutesOnly : Prop :=
  ∀ (s : State) (n : Nat) (w : Word), s.isRunning = true → n < 128 →
    (s.flag F.SUN_CTRL_SET_AT_PPS = false → ∃ t, exec .setGo s = .next t ∧ t.pend 88 = true ∧
      (s.flag (F.LDG_ROUTE_KIOSK 88) = true → ∀ g d, s.graphD g = some d → d.trigger = 2 → d.trigArg = 88 → (d.axis = 3 → s.fab.bgStop = false) →
        (t.instOf g).isSome = true ∧ ((s.instOf g).isSome = true →
          (d.axis = 0 → min 255 (s.fld F.HB_LATE_OVR_A + 1) ≤ t.fld F.HB_LATE_OVR_A) ∧
          (d.axis = 1 → min 255 (s.fld F.HB_LATE_OVR_B + 1) ≤ t.fld F.HB_LATE_OVR_B))) ∧
      (s.flag (F.LDG_ROUTE_PGL 88) = true → ∀ m, s.fld (F.LDG_ROUTE_PGL_CH 88) = m → s.pglHas m → s.pglSt m = 0 → s.pglQueue m = [] →
        t.pglSt m = 1 ∧ t.fld (F.PGL_CH_CUR m) = s.fld (F.PGL_CH_DESC m))) ∧
    (s.irq0 = true ↔ ∃ e, e < 128 ∧ s.pend e = true ∧ s.flag (F.LDG_ROUTE_IRQ0 e) = true) ∧
    (s.irq1 = true ↔ ∃ e, e < 128 ∧ s.pend e = true ∧ s.flag (F.LDG_ROUTE_IRQ1 e) = true) ∧
    (s.evtFlag = true ↔ ∃ e, e < 128 ∧ s.pend e = true ∧ s.flag (F.LDG_ROUTE_WKT e) = true) ∧
    ∃ t, exec (.routeWrite n w) s = .next t ∧ s.onlyRegs [A.LDG_ROUTE n] t ∧
    (s.pend n = true → fieldOf (F.LDG_ROUTE_IRQ0 n) w = 1 → t.irq0 = true) ∧
    (s.pend n = true → fieldOf (F.LDG_ROUTE_IRQ1 n) w = 1 → t.irq1 = true) ∧
    (s.pend n = true → fieldOf (F.LDG_ROUTE_WKT n) w = 1 → t.evtFlag = true) ∧
    t.fld (F.LDG_ROUTE_IRQ0 n) = fieldOf (F.LDG_ROUTE_IRQ0 n) w ∧ t.fld (F.LDG_ROUTE_IRQ1 n) = fieldOf (F.LDG_ROUTE_IRQ1 n) w ∧
    t.fld (F.LDG_ROUTE_WKT n) = fieldOf (F.LDG_ROUTE_WKT n) w ∧ t.fld (F.LDG_ROUTE_KIOSK n) = s.fld (F.LDG_ROUTE_KIOSK n) ∧
    t.fld (F.LDG_ROUTE_PGL n) = s.fld (F.LDG_ROUTE_PGL n) ∧ t.fld (F.LDG_ROUTE_PGL_CH n) = s.fld (F.LDG_ROUTE_PGL_CH n)

/-- R170, R250, R277, R468, R501, tables 6.20, 18.10 and 19.4: a counter clear zeroes the counters whose bit it writes 1, leaves
the others, and alters no other register. -/
def Obligations.CounterClearsZeroOnlyNamedCounters : Prop :=
  ∀ (s : State) (x : Axis) (w : Word), s.isRunning = true →
    (∃ t, exec (.hbCntClr w) s = .next t ∧
      s.onlyRegs ([A.HB_MISS .a, A.HB_MISS .b, A.HB_LATE, A.HB_STEAL, A.HB_ECC, A.HB_ABANDON] ++ (List.range 4).map A.HB_PACE) t ∧
      t.fld (F.HB_MISS_TOTAL .a) = (if fieldOf F.HB_CNT_CLR_MISS_A w = 1 then 0 else s.fld (F.HB_MISS_TOTAL .a)) ∧
      t.fld (F.HB_MISS_TOTAL .b) = (if fieldOf F.HB_CNT_CLR_MISS_B w = 1 then 0 else s.fld (F.HB_MISS_TOTAL .b)) ∧
      (∀ y, t.fld (F.HB_MISS_RUN y) = s.fld (F.HB_MISS_RUN y) ∧ t.fld (F.HB_MISS_IN_WIN y) = s.fld (F.HB_MISS_IN_WIN y)) ∧
      t.rd A.HB_LATE = (if fieldOf F.HB_CNT_CLR_LATE w = 1 then 0 else s.rd A.HB_LATE) ∧
      t.rd A.HB_STEAL = (if fieldOf F.HB_CNT_CLR_STEAL w = 1 then 0 else s.rd A.HB_STEAL) ∧
      t.rd A.HB_ECC = (if fieldOf F.HB_CNT_CLR_ECC w = 1 then 0 else s.rd A.HB_ECC) ∧
      t.fld F.HB_ABANDON_COUNT = (if fieldOf F.HB_CNT_CLR_ABANDON w = 1 then 0 else s.fld F.HB_ABANDON_COUNT) ∧
      t.fld F.HB_ABANDON_GRAPH = s.fld F.HB_ABANDON_GRAPH ∧
      ∀ n, n < 4 → t.fld (F.HB_PACE_LAST n) = s.fld (F.HB_PACE_LAST n) ∧
        t.fld (F.HB_PACE_MIN n) = (if fieldOf F.HB_CNT_CLR_PACE_MIN w = 1 then 0xFFFF else s.fld (F.HB_PACE_MIN n))) ∧
    (∃ t, exec (.snsCntClr w) s = .next t ∧
      s.onlyRegs ([A.SNS_CNT .a, A.SNS_CNT .b] ++ (List.range 6).map A.SNS_DTD) t ∧
      t.rd (A.SNS_CNT .a) = (if fieldOf F.SNS_CNT_CLR_CNT_A w = 1 then 0 else s.rd (A.SNS_CNT .a)) ∧
      t.rd (A.SNS_CNT .b) = (if fieldOf F.SNS_CNT_CLR_CNT_B w = 1 then 0 else s.rd (A.SNS_CNT .b)) ∧
      ∀ n, t.rd (A.SNS_DTD n) = (if fieldOf F.SNS_CNT_CLR_DTD w = 1 then 0 else s.rd (A.SNS_DTD n))) ∧
    (∃ t, exec (.trxCntClr x w) s = .next t ∧ s.onlyRegs [A.TR_LINK_CNT x, A.TR_ILK_CNT x, A.TR_REF_STAT x] t ∧
      t.fld (F.TR_LINK_CNT_DISCARDED x) = (if fieldOf (F.TR_CNT_CLR_LINK x) w = 1 then 0 else s.fld (F.TR_LINK_CNT_DISCARDED x)) ∧
      t.rd (A.TR_ILK_CNT x) &&& 0xFFFFFF#32 = (if fieldOf (F.TR_CNT_CLR_ILK x) w = 1 then 0 else s.rd (A.TR_ILK_CNT x) &&& 0xFFFFFF#32) ∧
      t.fld (F.TR_REF_STAT_COUNT x) = (if fieldOf (F.TR_CNT_CLR_REF x) w = 1 then 0 else s.fld (F.TR_REF_STAT_COUNT x))) ∧
    (∃ t, exec (.protClr x w) s = .next t ∧ s.onlyRegs [A.TR_CSC_STAT x, A.TR_DS_CNT x, A.TR_SAFE_STAT x] t ∧
      t.fld (F.TR_CSC_STAT_OVC x) = (if fieldOf (F.TR_PROT_CLR_OVC x) w = 1 then 0 else s.fld (F.TR_CSC_STAT_OVC x)) ∧
      t.fld (F.TR_DS_CNT_MON x) = (if fieldOf (F.TR_PROT_CLR_DS x) w = 1 then 0 else s.fld (F.TR_DS_CNT_MON x)) ∧
      t.fld (F.TR_DS_CNT_DS x) = (if fieldOf (F.TR_PROT_CLR_DS x) w = 1 then 0 else s.fld (F.TR_DS_CNT_DS x)) ∧
      t.fld (F.TR_SAFE_STAT_RETRIES x) = (if fieldOf (F.TR_PROT_CLR_RETRIES x) w = 1 then 0 else s.fld (F.TR_SAFE_STAT_RETRIES x)) ∧
      t.fld (F.TR_SAFE_STAT_USED x) = s.fld (F.TR_SAFE_STAT_USED x) ∧ t.fld (F.TR_SAFE_STAT_STATE x) = s.fld (F.TR_SAFE_STAT_STATE x) ∧
      t.fld (F.TR_CSC_STAT_STATE x) = s.fld (F.TR_CSC_STAT_STATE x)) ∧
    (∃ t, exec .iceCntClr s = .next t ∧ s.onlyRegs [A.ICE_CNT] t ∧ t.rd A.ICE_CNT = 0) ∧
    (∃ t, exec .wktCntClr s = .next t ∧ s.onlyRegs [A.WKT_CNT] t ∧ t.rd A.WKT_CNT = 0) ∧
    (∃ t, exec .sunCntClr s = .next t ∧ s.onlyRegs [A.SUN_STAT] t ∧ t.fld F.SUN_STAT_REJECTS = 0 ∧
      t.fld F.SUN_STAT_SET_PENDING = s.fld F.SUN_STAT_SET_PENDING)

/-- R277, table 8.15: HAH.CNT_CLR zeroes the counters it names and nothing else. -/
def Obligations.BankCounterClearsZeroOnlyNamedCounters : Prop :=
  ∀ (s : State) (w : Word), s.isRunning = true → ∃ t, exec (.hahCntClr w) s = .next t ∧
    s.onlyRegs [A.HAH_CBC_CNT, A.HAH_RB_STAT, A.HAH_HALL_ST .a, A.HAH_HALL_ST .b, A.HAH_ENC_ST .a, A.HAH_ENC_ST .b] t ∧
    (∀ f, f ∈ [F.HAH_CBC_CNT_A, F.HAH_CBC_CNT_B] → t.fld f = if fieldOf F.HAH_CNT_CLR_CBC w = 1 then 0 else s.fld f) ∧
    t.fld F.HAH_RB_STAT_PASSES = (if fieldOf F.HAH_CNT_CLR_RB w = 1 then 0 else s.fld F.HAH_RB_STAT_PASSES) ∧
    t.fld F.HAH_RB_STAT_ERR = s.fld F.HAH_RB_STAT_ERR ∧
    (∀ f, f ∈ [F.HAH_HALL_ST_SKIPS, F.HAH_HALL_ST_INVALIDS] →
      t.fld (f .a) = (if fieldOf F.HAH_CNT_CLR_HALL_A w = 1 then 0 else s.fld (f .a)) ∧
      t.fld (f .b) = (if fieldOf F.HAH_CNT_CLR_HALL_B w = 1 then 0 else s.fld (f .b))) ∧
    (∀ x, t.fld (F.HAH_HALL_ST_CODE x) = s.fld (F.HAH_HALL_ST_CODE x) ∧ t.fld (F.HAH_HALL_ST_INVCODE x) = s.fld (F.HAH_HALL_ST_INVCODE x)) ∧
    ∀ f, f ∈ [F.HAH_ENC_ST_ERRS, F.HAH_ENC_ST_ZERRS] →
      t.fld (f .a) = (if fieldOf F.HAH_CNT_CLR_ENC_A w = 1 then 0 else s.fld (f .a)) ∧
      t.fld (f .b) = (if fieldOf F.HAH_CNT_CLR_ENC_B w = 1 then 0 else s.fld (f .b))

/-- R327: MCx.CNT_CLR with its key zeroes E_MOT, E_REGEN, RUNTIME with its part of a second, and STARTS, each only as its own
bit names; without the key nothing changes. -/
def Obligations.AxisCountersZeroOnlyByTheirOwnBit : Prop :=
  ∀ (s : State) (x : Axis) (w : Word), s.isRunning = true →
    (fieldOf (F.MC_CNT_CLR_KEY x) w ≠ 0x5AA5 → exec (.mcCntClr x w) s = .next s) ∧
    (fieldOf (F.MC_CNT_CLR_KEY x) w = 0x5AA5 → ∃ t, exec (.mcCntClr x w) s = .next t ∧
      (∀ a, a ∉ [A.MC_E_MOT x, A.MC_E_REGEN x, A.MC_RUNTIME x, A.MC_STARTS x] → t.rd a = s.rd a) ∧
      (∀ p, p ≠ .axA → p ≠ .axB → Part.same p s t) ∧ t.ax x.other = s.ax x.other ∧
      t.fld (F.MC_E_MOT x) = (if fieldOf (F.MC_CNT_CLR_E_MOT x) w = 1 then 0 else s.fld (F.MC_E_MOT x)) ∧
      t.fld (F.MC_E_REGEN x) = (if fieldOf (F.MC_CNT_CLR_E_REGEN x) w = 1 then 0 else s.fld (F.MC_E_REGEN x)) ∧
      t.fld (F.MC_RUNTIME x) = (if fieldOf (F.MC_CNT_CLR_RUNTIME x) w = 1 then 0 else s.fld (F.MC_RUNTIME x)) ∧
      (t.ax x).secs = (if fieldOf (F.MC_CNT_CLR_RUNTIME x) w = 1 then 0 else (s.ax x).secs) ∧
      t.fld (F.MC_STARTS x) = (if fieldOf (F.MC_CNT_CLR_STARTS x) w = 1 then 0 else s.fld (F.MC_STARTS x)))
end

