-- ==== Sys2Proof/Laws/Store.lean ====
section
/-! SUPPORT. The canonical stores: what an address reads after a write, and that writes keep the canonical form. -/

namespace Sys2Proof.Machine

set_option Elab.async false

variable {w : Nat} {d : Nat → BitVec w} {m : List (Nat × BitVec w)}

/-- Dropping an address leaves the default there and every other address as it was. -/
theorem cget_cdrop (a b : Nat) : cget d (cdrop a m) b = if b = a then d b else cget d m b := by
  induction m with
  | nil => simp [cdrop, cget]
  | cons e r ih =>
    simp only [cdrop] at ih
    by_cases h : e.1 = a <;> by_cases hb : b = a <;> simp_all [cdrop, cget]
    all_goals intro h2; simp_all

/-- An address that has no entry reads as the default. -/
theorem cget_absent (a : Nat) (h : ∀ e ∈ m, e.1 ≠ a) : cget d m a = d a := by
  induction m with
  | nil => rfl
  | cons e r ih => simp_all [cget]

theorem cget_cinsert (a b : Nat) (v : BitVec w) (h : ∀ e ∈ m, e.1 ≠ a) :
    cget d (cinsert a v m) b = if b = a then v else cget d m b := by
  induction m with
  | nil =>
    by_cases hb : b = a
    · simp [cinsert, cget, hb]
    · have : ¬ a = b := fun h => hb h.symm
      simp [cinsert, cget, hb, this]
  | cons e r ih =>
    have he := h e (List.mem_cons_self ..)
    have hr := ih (fun e he => h e (List.mem_cons_of_mem _ he))
    simp only [cinsert]
    split
    · by_cases hb : b = a
      · simp [cget, hb]
      · have : ¬ a = b := fun h => hb h.symm
        simp [cget, hb, this]
    · by_cases hb : b = a
      · subst hb; simp [cget, he, hr]
      · simp [cget, hr, hb]

theorem cdrop_absent (a : Nat) : ∀ e ∈ cdrop a m, e.1 ≠ a := by
  intro e he
  simp only [cdrop, List.mem_filter, Bool.not_eq_true', beq_eq_false_iff_ne] at he
  exact he.2

/-- Read after write. -/
theorem cget_cset (a b : Nat) (v : BitVec w) : cget d (cset d m a v) b = if b = a then v else cget d m b := by
  unfold cset
  split
  · rw [cget_cdrop]
    split <;> simp_all
  · rw [cget_cinsert _ _ _ (cdrop_absent a), cget_cdrop]
    split <;> simp_all

theorem crising_mono {lo lo' : Nat} (h : crising lo m = true) (hl : lo' ≤ lo) : crising lo' m = true := by
  cases m with
  | nil => rfl
  | cons e r => simp only [crising, Bool.and_eq_true, decide_eq_true_eq] at *; exact ⟨by omega, h.2⟩

theorem crising_filter (p : Nat × BitVec w → Bool) {lo : Nat} (h : crising lo m = true) :
    crising lo (m.filter p) = true := by
  induction m generalizing lo with
  | nil => rfl
  | cons e r ih =>
    simp only [crising, Bool.and_eq_true, decide_eq_true_eq] at h
    rw [List.filter_cons]
    split
    · simp only [crising, Bool.and_eq_true, decide_eq_true_eq]; exact ⟨h.1, ih h.2⟩
    · exact ih (crising_mono h.2 (by omega))

theorem crising_cinsert (a : Nat) (v : BitVec w) {lo : Nat} (h : crising lo m = true) (hl : lo ≤ a)
    (ha : ∀ e ∈ m, e.1 ≠ a) : crising lo (cinsert a v m) = true := by
  induction m generalizing lo with
  | nil => simp [cinsert, crising, hl]
  | cons e r ih =>
    simp only [crising, Bool.and_eq_true, decide_eq_true_eq] at h
    have he := ha e (List.mem_cons_self ..)
    simp only [cinsert]
    split
    · simp only [crising, Bool.and_eq_true, decide_eq_true_eq]; exact ⟨hl, by omega, h.2⟩
    · simp only [crising, Bool.and_eq_true, decide_eq_true_eq]
      exact ⟨h.1, ih h.2 (by omega) (fun e he => ha e (List.mem_cons_of_mem _ he))⟩

theorem mem_cinsert (a : Nat) (v : BitVec w) (e : Nat × BitVec w) : e ∈ cinsert a v m ↔ e = (a, v) ∨ e ∈ m := by
  induction m with
  | nil => simp [cinsert]
  | cons x r ih =>
    simp only [cinsert]
    split
    · simp
    · simp only [List.mem_cons, ih]; tauto

/-- Taking entries out keeps the canonical form. -/
theorem cwf_filter (p : Nat × BitVec w → Bool) (h : cwf d m = true) : cwf d (m.filter p) = true := by
  simp only [cwf, Bool.and_eq_true, List.all_eq_true] at *
  exact ⟨crising_filter p h.1, fun e he => h.2 e (List.mem_of_mem_filter he)⟩

/-- A write keeps the canonical form. -/
theorem cwf_cset (a : Nat) (v : BitVec w) (h : cwf d m = true) : cwf d (cset d m a v) = true := by
  unfold cset
  have hd : cwf d (cdrop a m) = true := cwf_filter _ h
  split
  · exact hd
  · simp only [cwf, Bool.and_eq_true, List.all_eq_true] at hd ⊢
    refine ⟨crising_cinsert a v hd.1 (Nat.zero_le _) (cdrop_absent a), fun e he => ?_⟩
    rcases (mem_cinsert a v e).1 he with rfl | he
    · simpa using ‹_›
    · exact hd.2 e he

/-- Keys of a list that rises from `lo` lie at or above it. -/
theorem crising_key {lo : Nat} (h : crising lo m = true) : ∀ e ∈ m, lo ≤ e.1 := by
  induction m generalizing lo with
  | nil => simp
  | cons e r ih =>
    simp only [crising, Bool.and_eq_true, decide_eq_true_eq] at h
    intro x hx
    rcases List.mem_cons.1 hx with rfl | hx
    · exact h.1
    · have := ih h.2 x hx; omega

/-- Two stores in canonical form that read the same at every address are the same list. -/
theorem cwf_ext {l : List (Nat × BitVec w)} (hm : cwf d m = true) (hl : cwf d l = true)
    (h : ∀ a, cget d m a = cget d l a) : m = l := by
  simp only [cwf, Bool.and_eq_true, List.all_eq_true] at hm hl
  obtain ⟨rm, nm⟩ := hm
  obtain ⟨rl, nl⟩ := hl
  suffices H : ∀ lo, crising lo m = true → crising lo l = true → m = l from H 0 rm rl
  clear rm rl
  induction m generalizing l with
  | nil =>
    intro lo _ rl
    cases l with
    | nil => rfl
    | cons e r =>
      have h1 := h e.1
      have h2 := nl e (List.mem_cons_self ..)
      simp [cget] at h1
      simp [← h1] at h2
  | cons e r ih =>
    intro lo rm rl
    simp only [crising, Bool.and_eq_true, decide_eq_true_eq] at rm
    have hne : ∀ x ∈ r, x.1 ≠ e.1 := fun x hx => by have := crising_key rm.2 x hx; omega
    cases l with
    | nil =>
      have h1 := h e.1
      have h2 := nm e (List.mem_cons_self ..)
      simp [cget] at h1
      simp [h1] at h2
    | cons e' r' =>
      simp only [crising, Bool.and_eq_true, decide_eq_true_eq] at rl
      have hne' : ∀ x ∈ r', x.1 ≠ e'.1 := fun x hx => by have := crising_key rl.2 x hx; omega
      have hk : e.1 = e'.1 := by
        rcases Nat.lt_trichotomy e.1 e'.1 with hlt | heq | hgt
        · exfalso
          have h1 := h e.1
          have h2 := nm e (List.mem_cons_self ..)
          have h3 : cget d r' e.1 = d e.1 := cget_absent _ (fun x hx => by have := crising_key rl.2 x hx; omega)
          have h4 : ¬ e'.1 = e.1 := by omega
          simp [cget, h4, h3] at h1
          simp [h1] at h2
        · exact heq
        · exfalso
          have h1 := h e'.1
          have h2 := nl e' (List.mem_cons_self ..)
          have h3 : cget d r e'.1 = d e'.1 := cget_absent _ (fun x hx => by have := crising_key rm.2 x hx; omega)
          have h4 : ¬ e.1 = e'.1 := by omega
          simp [cget, h4, h3] at h1
          simp [← h1] at h2
      have hv : e.2 = e'.2 := by simpa [cget, hk] using h e.1
      have ht : r = r' := by
        refine ih (fun a => ?_) (fun x hx => nm x (List.mem_cons_of_mem _ hx))
          (fun x hx => nl x (List.mem_cons_of_mem _ hx)) (e.1 + 1) rm.2 (by rw [hk]; exact rl.2)
        by_cases ha : e.1 = a
        · subst ha
          rw [cget_absent _ hne, hk, cget_absent _ hne']
        · have := h a
          have ha' : ¬ e'.1 = a := by omega
          simpa [cget, ha, ha'] using this
      obtain ⟨k, v⟩ := e
      obtain ⟨k', v'⟩ := e'
      simp_all

/-! ### Registers and memory bytes -/

@[simp] theorem State.rd_wr (s : State) (a b : Nat) (v : Word) : (s.wr a v).rd b = if b = a then v else s.rd b :=
  cget_cset ..

@[simp] theorem State.rdSh_wr (s : State) (a b : Nat) (v : Word) : (s.wr a v).rdSh b = s.rdSh b := rfl

@[simp] theorem State.rdSh_wrSh (s : State) (a b : Nat) (v : Word) :
    (s.wrSh a v).rdSh b = if b = a then v else s.rdSh b := cget_cset ..

@[simp] theorem State.rd_wrSh (s : State) (a b : Nat) (v : Word) : (s.wrSh a v).rd b = s.rd b := rfl

@[simp] theorem State.byte_setByte (s : State) (a b : Nat) (v : Byte) :
    (s.setByte a v).byte b = if b = a then v else s.byte b := cget_cset ..

@[simp] theorem State.byte_wr (s : State) (a b : Nat) (v : Word) : (s.wr a v).byte b = s.byte b := rfl
@[simp] theorem State.byte_wrSh (s : State) (a b : Nat) (v : Word) : (s.wrSh a v).byte b = s.byte b := rfl
@[simp] theorem State.rd_setByte (s : State) (a b : Nat) (v : Byte) : (s.setByte a v).rd b = s.rd b := rfl
@[simp] theorem State.rdSh_setByte (s : State) (a b : Nat) (v : Byte) : (s.setByte a v).rdSh b = s.rdSh b := rfl

/-- The bytes a word store leaves alone. -/
theorem State.byte_st32 (s : State) (a b : Nat) (v : Word) (h : b < a ∨ a + 4 ≤ b) : (s.st32 a v).byte b = s.byte b := by
  have h0 : b ≠ a := by omega
  have h1 : b ≠ a + 1 := by omega
  have h2 : b ≠ a + 2 := by omega
  have h3 : b ≠ a + 3 := by omega
  simp [State.st32, h0, h1, h2, h3]

/-- A word read back after it was stored: least significant byte first both ways (R4). -/
theorem State.ld32_st32 (s : State) (a : Nat) (v : Word) : (s.st32 a v).ld32 a = v := by
  simp only [State.ld32, State.st32, State.byte_setByte]
  simp only [show a ≠ a + 1 from by omega, show a ≠ a + 2 from by omega, show a ≠ a + 3 from by omega,
    show a + 1 ≠ a + 2 from by omega, show a + 1 ≠ a + 3 from by omega, show a + 2 ≠ a + 3 from by omega,
    if_true, if_false]
  ext i hi
  simp only [BitVec.getElem_append, BitVec.getElem_extractLsb']
  repeat' split
  all_goals first | rfl | (rw [BitVec.getLsbD_eq_getElem (by omega)]; congr 1; omega)

/-- Bytes beside those written stay. -/
theorem State.byte_setBytes (s : State) (a b : Nat) (l : List Byte) (h : b < a ∨ a + l.length ≤ b) :
    (s.setBytes a l).byte b = s.byte b := by
  induction l generalizing s a with
  | nil => rfl
  | cons x r ih =>
    simp only [State.setBytes, List.length_cons] at *
    rw [ih _ _ (by omega), State.byte_setByte, if_neg (by omega)]

/-- Each byte written reads back. -/
theorem State.byte_setBytes_in (s : State) (a i : Nat) (l : List Byte) (h : i < l.length) :
    (s.setBytes a l).byte (a + i) = l[i] := by
  induction l generalizing s a i with
  | nil => simp at h
  | cons x r ih =>
    simp only [State.setBytes]
    cases i with
    | zero => rw [State.byte_setBytes _ _ _ _ (by omega)]; simp
    | succ i =>
      have := ih (s.setByte a x) (a + 1) i (by simpa using h)
      simpa [Nat.add_assoc, Nat.add_comm 1 i] using this

end Sys2Proof.Machine
end

