-- ==== Sys2Proof/Laws/Bits.lean ====
section
/-! SUPPORT. Register fields: what a field reads after a field of the same register was written. -/

namespace Sys2Proof.Machine

set_option Elab.async false

theorem bits_lt (v hi lo : Nat) : bits v hi lo < 2 ^ (hi + 1 - lo) := Nat.mod_lt _ (Nat.two_pow_pos _)

/-- Bit n of a number, by shifting. -/
theorem testBit_bits (v hi lo n : Nat) : (bits v hi lo).testBit n = (decide (n < hi + 1 - lo) && v.testBit (n + lo)) := by
  simp only [bits, Nat.testBit_mod_two_pow, Nat.testBit_div_two_pow]

theorem bit_eq_testBit (v n : Nat) : bit v n = v.testBit n := by
  simp only [bit, Nat.testBit, Nat.shiftRight_eq_div_pow, Nat.one_and_eq_mod_two]
  rcases Nat.mod_two_eq_zero_or_one (v / 2 ^ n) with h | h <;> simp [h]

/-- A field's part of a number lies inside the number. -/
theorem bits_mul_le (v hi lo : Nat) : bits v hi lo * 2 ^ lo ≤ v := by
  have h1 : bits v hi lo ≤ v / 2 ^ lo := Nat.mod_le _ _
  calc bits v hi lo * 2 ^ lo ≤ v / 2 ^ lo * 2 ^ lo := Nat.mul_le_mul_right _ h1
    _ ≤ v := Nat.div_mul_le_self _ _

/-- A field that lies in a 32-bit word. -/
def Fld.ok (f : Fld) : Bool := decide (f.lo ≤ f.hi) && decide (f.hi < 32)

/-- The number `putField` makes, as the parts above, at and below the field. -/
theorem putField_split (n hi lo v : Nat) (hlo : lo ≤ hi) :
    n - bits n hi lo * 2 ^ lo + v * 2 ^ lo = n / 2 ^ (hi + 1) * 2 ^ (hi + 1) + v * 2 ^ lo + n % 2 ^ lo := by
  have h1 : n = n / 2 ^ (hi + 1) * 2 ^ (hi + 1) + bits n hi lo * 2 ^ lo + n % 2 ^ lo := by
    have e : 2 ^ (hi + 1) = 2 ^ lo * 2 ^ (hi + 1 - lo) := by rw [← Nat.pow_add]; congr 1; omega
    have a : n / 2 ^ lo / 2 ^ (hi + 1 - lo) * 2 ^ (hi + 1 - lo) + n / 2 ^ lo % 2 ^ (hi + 1 - lo) = n / 2 ^ lo :=
      Nat.div_add_mod' _ _
    have b : n / 2 ^ lo * 2 ^ lo + n % 2 ^ lo = n := Nat.div_add_mod' _ _
    rw [e, ← Nat.div_div_eq_div_mul]
    unfold bits
    calc n = n / 2 ^ lo * 2 ^ lo + n % 2 ^ lo := b.symm
      _ = (n / 2 ^ lo / 2 ^ (hi + 1 - lo) * 2 ^ (hi + 1 - lo) + n / 2 ^ lo % 2 ^ (hi + 1 - lo)) * 2 ^ lo + n % 2 ^ lo := by rw [a]
      _ = _ := by ring
  omega

/-- Bit by bit: the new field inside, the old word outside. -/
theorem testBit_putField (f : Fld) (w : Word) (v n : Nat) (h : f.ok = true) :
    (putField f w v).toNat.testBit n =
      if f.lo ≤ n ∧ n ≤ f.hi then v.testBit (n - f.lo) else w.toNat.testBit n := by
  simp only [Fld.ok, Bool.and_eq_true, decide_eq_true_eq] at h
  obtain ⟨hlo, hhi⟩ := h
  simp only [putField, BitVec.toNat_ofNat]
  rw [putField_split _ _ _ _ hlo]
  have hw := w.isLt
  set q := w.toNat / 2 ^ (f.hi + 1) with hq
  set m := v % 2 ^ f.width with hm
  have hmlt : m < 2 ^ (f.hi + 1 - f.lo) := Nat.mod_lt _ (Nat.two_pow_pos _)
  have hr : w.toNat % 2 ^ f.lo < 2 ^ f.lo := Nat.mod_lt _ (Nat.two_pow_pos _)
  have hmid : m * 2 ^ f.lo + w.toNat % 2 ^ f.lo < 2 ^ (f.hi + 1) := by
    have e : 2 ^ (f.hi + 1) = 2 ^ (f.hi + 1 - f.lo) * 2 ^ f.lo := by rw [← Nat.pow_add]; congr 1; omega
    rw [e]
    calc m * 2 ^ f.lo + w.toNat % 2 ^ f.lo < m * 2 ^ f.lo + 2 ^ f.lo := by omega
      _ = (m + 1) * 2 ^ f.lo := by ring
      _ ≤ _ := Nat.mul_le_mul_right _ hmlt
  rw [Nat.testBit_mod_two_pow, Nat.add_assoc, Nat.mul_comm q]
  rw [Nat.testBit_two_pow_mul_add _ hmid]
  by_cases hn : n < f.hi + 1
  · rw [if_pos hn, Nat.mul_comm m, Nat.testBit_two_pow_mul_add _ hr]
    by_cases hn2 : n < f.lo
    · rw [if_pos hn2, if_neg (by omega), Nat.testBit_mod_two_pow]
      simp [hn2, show n < 32 by omega]
    · rw [if_neg hn2, if_pos (by omega), hm, Nat.testBit_mod_two_pow]
      simp [Fld.width, show n - f.lo < f.hi + 1 - f.lo by omega, show n < 32 by omega]
  · rw [if_neg hn, if_neg (by omega), hq, Nat.testBit_div_two_pow]
    have : n - (f.hi + 1) + (f.hi + 1) = n := by omega
    rw [this]
    by_cases h32 : n < 32
    · simp [h32]
    · have : w.toNat.testBit n = false :=
        Nat.testBit_lt_two_pow (Nat.lt_of_lt_of_le hw (Nat.pow_le_pow_right (by omega) (by omega)))
      simp [this]

/-- A field written reads back, cut to its width. -/
theorem fieldOf_putField (f : Fld) (w : Word) (v : Nat) (h : f.ok = true) :
    fieldOf f (putField f w v) = v % 2 ^ f.width := by
  apply Nat.eq_of_testBit_eq
  intro n
  simp only [fieldOf, testBit_bits, testBit_putField _ _ _ _ h, Nat.testBit_mod_two_pow, Fld.width]
  by_cases hn : n < f.hi + 1 - f.lo
  · rw [if_pos (by omega)]
    simp
  · simp [hn]

/-- A field of the same register with no bit in common stays. -/
theorem fieldOf_putField_other (f g : Fld) (w : Word) (v : Nat) (h : f.ok = true) (hd : g.hi < f.lo ∨ f.hi < g.lo) :
    fieldOf g (putField f w v) = fieldOf g w := by
  apply Nat.eq_of_testBit_eq
  intro n
  simp only [fieldOf, testBit_bits, testBit_putField _ _ _ _ h]
  by_cases hn : n < g.hi + 1 - g.lo
  · rw [if_neg (by omega)]
  · simp [hn]

theorem State.rd_set (s : State) (f : Fld) (v a : Nat) :
    (s.set f v).rd a = if a = f.reg then putField f (s.rd f.reg) v else s.rd a := State.rd_wr ..

/-- A field that was set reads back. -/
theorem State.fld_set (s : State) (f : Fld) (v : Nat) (h : f.ok = true) : (s.set f v).fld f = v % 2 ^ f.width := by
  simp only [State.fld, State.rd_set, if_true, fieldOf_putField _ _ _ h]

/-- A field of another register, or with no bit in common, stays. -/
theorem State.fld_set_other (s : State) (f g : Fld) (v : Nat) (h : f.ok = true)
    (hd : g.reg ≠ f.reg ∨ g.hi < f.lo ∨ f.hi < g.lo) : (s.set f v).fld g = s.fld g := by
  simp only [State.fld, State.rd_set]
  split
  · rename_i e
    rw [fieldOf_putField_other _ _ _ _ h (by tauto), e]
  · rfl

/-- A register of another address stays. -/
theorem State.rd_set_ne (s : State) (f : Fld) (v a : Nat) (h : a ≠ f.reg) : (s.set f v).rd a = s.rd a := by
  rw [State.rd_set, if_neg h]

@[simp] theorem State.byte_set (s : State) (f : Fld) (v a : Nat) : (s.set f v).byte a = s.byte a := rfl
@[simp] theorem State.rdSh_set (s : State) (f : Fld) (v a : Nat) : (s.set f v).rdSh a = s.rdSh a := rfl

end Sys2Proof.Machine
end

