-- ==== Sys2Proof/Laws/Families.lean ====
section
/-! SUPPORT. The family of every named register and field (Safety.lean, `fam`). -/

namespace Sys2Proof.Machine

set_option Elab.async false

set_option maxRecDepth 20000

@[simp] theorem A.GH_IDENT_fam : fam (A.GH_IDENT) = 0 := by decide
@[simp] theorem A.GH_BOOT_STATUS_fam : fam (A.GH_BOOT_STATUS) = 1 := by decide
@[simp] theorem A.GH_RST_CAUSE_fam : fam (A.GH_RST_CAUSE) = 2 := by decide
@[simp] theorem A.GH_RST_CTRL_fam : fam (A.GH_RST_CTRL) = 3 := by decide
@[simp] theorem A.GH_HOST_LOAD_fam : fam (A.GH_HOST_LOAD) = 4 := by decide
@[simp] theorem A.GH_IMG_VER_fam : fam (A.GH_IMG_VER) = 5 := by decide
@[simp] theorem A.GH_BOOT_TIME_fam : fam (A.GH_BOOT_TIME) = 6 := by decide
@[simp] theorem A.GH_SECT_UPD_fam : fam (A.GH_SECT_UPD) = 7 := by decide
@[simp] theorem A.GH_SECT_STATUS_fam : fam (A.GH_SECT_STATUS) = 8 := by decide
@[simp] theorem A.GH_LOAD_DETAIL_fam : fam (A.GH_LOAD_DETAIL) = 9 := by decide
@[simp] theorem A.GH_FLOOR_ADV_fam : fam (A.GH_FLOOR_ADV) = 10 := by decide
@[simp] theorem A.HB_KBUSY_fam : fam (A.HB_KBUSY) = 11 := by decide
@[simp] theorem A.HB_PACE_fam (n : Nat) : fam (A.HB_PACE n) = 12 :=
  (by decide : ∀ n < 4, fam (0x401004 + 0x4 * n) = 12) (n % 4) (Nat.mod_lt _ (by decide))
@[simp] theorem A.HB_PACE_LIM_fam : fam (A.HB_PACE_LIM) = 13 := by decide
@[simp] theorem A.HB_PACE_STAT_fam : fam (A.HB_PACE_STAT) = 14 := by decide
@[simp] theorem A.HB_MISS_CFG_fam : fam (A.HB_MISS_CFG) = 15 := by decide
@[simp] theorem A.HB_MISS_fam (x : Axis) : fam (A.HB_MISS x) = 16 := by cases x <;> decide
@[simp] theorem A.HB_LATE_fam : fam (A.HB_LATE) = 17 := by decide
@[simp] theorem A.HB_STEAL_fam : fam (A.HB_STEAL) = 18 := by decide
@[simp] theorem A.HB_ECC_fam : fam (A.HB_ECC) = 19 := by decide
@[simp] theorem A.HB_ECC_ADDR_fam : fam (A.HB_ECC_ADDR) = 20 := by decide
@[simp] theorem A.HB_LOCKS_fam : fam (A.HB_LOCKS) = 21 := by decide
@[simp] theorem A.HB_ABANDON_fam : fam (A.HB_ABANDON) = 22 := by decide
@[simp] theorem A.HB_CNT_CLR_fam : fam (A.HB_CNT_CLR) = 23 := by decide
@[simp] theorem A.PW_CTRL_fam (x : Axis) : fam (A.PW_CTRL x) = 24 := by cases x <;> decide
@[simp] theorem A.PW_PERIOD_fam (x : Axis) : fam (A.PW_PERIOD x) = 25 := by cases x <;> decide
@[simp] theorem A.PW_PER_LIM_fam (x : Axis) : fam (A.PW_PER_LIM x) = 26 := by cases x <;> decide
@[simp] theorem A.PW_CMP_fam (x : Axis) (n : Nat) : fam (A.PW_CMP x n) = 27 := by
  cases x
  · exact (by decide : ∀ n < 3, fam (pwBase Axis.a + 0xc + 0x4 * n) = 27) (n % 3) (Nat.mod_lt _ (by decide))
  · exact (by decide : ∀ n < 3, fam (pwBase Axis.b + 0xc + 0x4 * n) = 27) (n % 3) (Nat.mod_lt _ (by decide))
@[simp] theorem A.PW_SIX_fam (x : Axis) : fam (A.PW_SIX x) = 28 := by cases x <;> decide
@[simp] theorem A.PW_CMP_BK_fam (x : Axis) : fam (A.PW_CMP_BK x) = 29 := by cases x <;> decide
@[simp] theorem A.PW_DEAD_fam (x : Axis) : fam (A.PW_DEAD x) = 30 := by cases x <;> decide
@[simp] theorem A.PW_MINPULSE_fam (x : Axis) : fam (A.PW_MINPULSE x) = 31 := by cases x <;> decide
@[simp] theorem A.PW_SAMP_fam (x : Axis) (n : Nat) : fam (A.PW_SAMP x n) = 32 := by
  cases x
  · exact (by decide : ∀ n < 4, fam (pwBase Axis.a + 0x28 + 0x4 * n) = 32) (n % 4) (Nat.mod_lt _ (by decide))
  · exact (by decide : ∀ n < 4, fam (pwBase Axis.b + 0x28 + 0x4 * n) = 32) (n % 4) (Nat.mod_lt _ (by decide))
@[simp] theorem A.PW_PHASE_fam (x : Axis) : fam (A.PW_PHASE x) = 33 := by cases x <;> decide
@[simp] theorem A.PW_PERIOD_EFF_fam (x : Axis) : fam (A.PW_PERIOD_EFF x) = 34 := by cases x <;> decide
@[simp] theorem A.PW_STAT_fam (x : Axis) : fam (A.PW_STAT x) = 35 := by cases x <;> decide
@[simp] theorem A.PW_CNT_fam (x : Axis) : fam (A.PW_CNT x) = 36 := by cases x <;> decide
@[simp] theorem A.SUN_CTRL_fam : fam (A.SUN_CTRL) = 37 := by decide
@[simp] theorem A.SUN_SET_LO_fam : fam (A.SUN_SET_LO) = 38 := by decide
@[simp] theorem A.SUN_SET_HI_fam : fam (A.SUN_SET_HI) = 39 := by decide
@[simp] theorem A.SUN_CMD_fam : fam (A.SUN_CMD) = 40 := by decide
@[simp] theorem A.SUN_SNAP_LO_fam : fam (A.SUN_SNAP_LO) = 41 := by decide
@[simp] theorem A.SUN_SNAP_HI_fam : fam (A.SUN_SNAP_HI) = 42 := by decide
@[simp] theorem A.SUN_STAT_fam : fam (A.SUN_STAT) = 43 := by decide
@[simp] theorem A.SUN_RATE_fam : fam (A.SUN_RATE) = 44 := by decide
@[simp] theorem A.SUN_PHASE_ERR_fam : fam (A.SUN_PHASE_ERR) = 45 := by decide
@[simp] theorem A.SUN_DRIFT_fam : fam (A.SUN_DRIFT) = 46 := by decide
@[simp] theorem A.SUN_PPS_LO_fam : fam (A.SUN_PPS_LO) = 47 := by decide
@[simp] theorem A.SUN_PPS_HI_fam : fam (A.SUN_PPS_HI) = 48 := by decide
@[simp] theorem A.SUN_ACT_TLO_fam (n : Nat) : fam (A.SUN_ACT_TLO n) = 49 :=
  (by decide : ∀ n < 8, fam (0x404040 + 0x10 * n) = 49) (n % 8) (Nat.mod_lt _ (by decide))
@[simp] theorem A.SUN_ACT_THI_fam (n : Nat) : fam (A.SUN_ACT_THI n) = 50 :=
  (by decide : ∀ n < 8, fam (0x404044 + 0x10 * n) = 50) (n % 8) (Nat.mod_lt _ (by decide))
@[simp] theorem A.SUN_ACT_CTRL_fam (n : Nat) : fam (A.SUN_ACT_CTRL n) = 51 :=
  (by decide : ∀ n < 8, fam (0x404048 + 0x10 * n) = 51) (n % 8) (Nat.mod_lt _ (by decide))
@[simp] theorem A.SNS_SDCLK_fam : fam (A.SNS_SDCLK) = 52 := by decide
@[simp] theorem A.SNS_SDCH_fam (n : Nat) : fam (A.SNS_SDCH n) = 53 :=
  (by decide : ∀ n < 8, fam (0x405004 + 0x4 * n) = 53) (n % 8) (Nat.mod_lt _ (by decide))
@[simp] theorem A.SNS_FTHR_fam (n : Nat) : fam (A.SNS_FTHR n) = 54 :=
  (by decide : ∀ n < 8, fam (0x405024 + 0x4 * n) = 54) (n % 8) (Nat.mod_lt _ (by decide))
@[simp] theorem A.SNS_SAR_WIN_fam : fam (A.SNS_SAR_WIN) = 55 := by decide
@[simp] theorem A.SNS_SEQ_fam (n : Nat) : fam (A.SNS_SEQ n) = 56 :=
  (by decide : ∀ n < 16, fam (0x405048 + 0x4 * n) = 56) (n % 16) (Nat.mod_lt _ (by decide))
@[simp] theorem A.SNS_MAP_fam (x : Axis) : fam (A.SNS_MAP x) = 57 := by cases x <;> decide
@[simp] theorem A.SNS_TOPO_fam : fam (A.SNS_TOPO) = 58 := by decide
@[simp] theorem A.SNS_STAT_fam : fam (A.SNS_STAT) = 59 := by decide
@[simp] theorem A.SNS_CNT_fam (x : Axis) : fam (A.SNS_CNT x) = 60 := by cases x <;> decide
@[simp] theorem A.SNS_CAL_fam (n : Nat) : fam (A.SNS_CAL n) = 61 :=
  (by decide : ∀ n < 10, fam (0x4050a0 + 0x4 * n) = 61) (n % 10) (Nat.mod_lt _ (by decide))
@[simp] theorem A.SNS_DTD_fam (n : Nat) : fam (A.SNS_DTD n) = 62 :=
  (by decide : ∀ n < 6, fam (0x4050c8 + 0x4 * n) = 62) (n % 6) (Nat.mod_lt _ (by decide))
@[simp] theorem A.SNS_CNT_CLR_fam : fam (A.SNS_CNT_CLR) = 63 := by decide
@[simp] theorem A.HAH_CMP_fam (n : Nat) : fam (A.HAH_CMP n) = 64 :=
  (by decide : ∀ n < 12, fam (0x406000 + 0x4 * n) = 64) (n % 12) (Nat.mod_lt _ (by decide))
@[simp] theorem A.HAH_THR_fam (n : Nat) : fam (A.HAH_THR n) = 65 :=
  (by decide : ∀ n < 12, fam (0x406030 + 0x4 * n) = 65) (n % 12) (Nat.mod_lt _ (by decide))
@[simp] theorem A.HAH_RAMP_fam (x : Axis) : fam (A.HAH_RAMP x) = 66 := by cases x <;> decide
@[simp] theorem A.HAH_STATE_fam : fam (A.HAH_STATE) = 67 := by decide
@[simp] theorem A.HAH_STICKY_fam : fam (A.HAH_STICKY) = 68 := by decide
@[simp] theorem A.HAH_RB_CFG_fam : fam (A.HAH_RB_CFG) = 69 := by decide
@[simp] theorem A.HAH_RB_STAT_fam : fam (A.HAH_RB_STAT) = 70 := by decide
@[simp] theorem A.HAH_CBC_CNT_fam : fam (A.HAH_CBC_CNT) = 71 := by decide
@[simp] theorem A.HAH_HALL_CFG_fam (x : Axis) : fam (A.HAH_HALL_CFG x) = 72 := by cases x <;> decide
@[simp] theorem A.HAH_HALL_ST_fam (x : Axis) : fam (A.HAH_HALL_ST x) = 73 := by cases x <;> decide
@[simp] theorem A.HAH_ENC_CFG_fam (x : Axis) : fam (A.HAH_ENC_CFG x) = 74 := by cases x <;> decide
@[simp] theorem A.HAH_ENC_CNT_fam (x : Axis) : fam (A.HAH_ENC_CNT x) = 75 := by cases x <;> decide
@[simp] theorem A.HAH_ENC_ST_fam (x : Axis) : fam (A.HAH_ENC_ST x) = 76 := by cases x <;> decide
@[simp] theorem A.HAH_CNT_CLR_fam : fam (A.HAH_CNT_CLR) = 77 := by decide
@[simp] theorem A.MC_CMD_fam (x : Axis) : fam (A.MC_CMD x) = 78 := by cases x <;> decide
@[simp] theorem A.MC_OWN_fam (x : Axis) : fam (A.MC_OWN x) = 79 := by cases x <;> decide
@[simp] theorem A.MC_STATE_fam (x : Axis) : fam (A.MC_STATE x) = 80 := by cases x <;> decide
@[simp] theorem A.MC_MODE_fam (x : Axis) : fam (A.MC_MODE x) = 81 := by cases x <;> decide
@[simp] theorem A.MC_SPD_SET_fam (x : Axis) : fam (A.MC_SPD_SET x) = 82 := by cases x <;> decide
@[simp] theorem A.MC_TRQ_SET_fam (x : Axis) : fam (A.MC_TRQ_SET x) = 83 := by cases x <;> decide
@[simp] theorem A.MC_SPD_ACT_fam (x : Axis) : fam (A.MC_SPD_ACT x) = 84 := by cases x <;> decide
@[simp] theorem A.MC_LIMIT_fam (x : Axis) : fam (A.MC_LIMIT x) = 85 := by cases x <;> decide
@[simp] theorem A.MC_FW_ONSET_fam (x : Axis) : fam (A.MC_FW_ONSET x) = 86 := by cases x <;> decide
@[simp] theorem A.MC_MOD_fam (x : Axis) : fam (A.MC_MOD x) = 87 := by cases x <;> decide
@[simp] theorem A.MC_ASC_SPD_fam (x : Axis) : fam (A.MC_ASC_SPD x) = 88 := by cases x <;> decide
@[simp] theorem A.MC_E_MOT_fam (x : Axis) : fam (A.MC_E_MOT x) = 89 := by cases x <;> decide
@[simp] theorem A.MC_E_REGEN_fam (x : Axis) : fam (A.MC_E_REGEN x) = 90 := by cases x <;> decide
@[simp] theorem A.MC_RUNTIME_fam (x : Axis) : fam (A.MC_RUNTIME x) = 91 := by cases x <;> decide
@[simp] theorem A.MC_STARTS_fam (x : Axis) : fam (A.MC_STARTS x) = 92 := by cases x <;> decide
@[simp] theorem A.MC_CNT_CLR_fam (x : Axis) : fam (A.MC_CNT_CLR x) = 93 := by cases x <;> decide
@[simp] theorem A.MC_X_OMEGA_fam (x : Axis) : fam (A.MC_X_OMEGA x) = 94 := by cases x <;> decide
@[simp] theorem A.MC_X_THETA_fam (x : Axis) : fam (A.MC_X_THETA x) = 95 := by cases x <;> decide
@[simp] theorem A.MC_X_ID_FW_fam (x : Axis) : fam (A.MC_X_ID_FW x) = 96 := by cases x <;> decide
@[simp] theorem A.MC_X_FW_KI_fam (x : Axis) : fam (A.MC_X_FW_KI x) = 97 := by cases x <;> decide
@[simp] theorem A.MC_X_FW_IDMIN_fam (x : Axis) : fam (A.MC_X_FW_IDMIN x) = 98 := by cases x <;> decide
@[simp] theorem A.MC_X_FW_MODMAX_fam (x : Axis) : fam (A.MC_X_FW_MODMAX x) = 99 := by cases x <;> decide
@[simp] theorem A.MC_BLV_STAT_fam (x : Axis) : fam (A.MC_BLV_STAT x) = 100 := by cases x <;> decide
@[simp] theorem A.MC_BLV_CTRL_fam (x : Axis) : fam (A.MC_BLV_CTRL x) = 101 := by cases x <;> decide
@[simp] theorem A.MC_BLV_EVT_fam (x : Axis) : fam (A.MC_BLV_EVT x) = 102 := by cases x <;> decide
@[simp] theorem A.MC_BLV_CNT_fam (x : Axis) : fam (A.MC_BLV_CNT x) = 103 := by cases x <;> decide
@[simp] theorem A.MC_START_DIAG_fam (x : Axis) : fam (A.MC_START_DIAG x) = 104 := by cases x <;> decide
@[simp] theorem A.MC_ID_CTRL_fam (x : Axis) : fam (A.MC_ID_CTRL x) = 105 := by cases x <;> decide
@[simp] theorem A.MC_ID_STAT_fam (x : Axis) : fam (A.MC_ID_STAT x) = 106 := by cases x <;> decide
@[simp] theorem A.MC_X_THETA_B_fam (x : Axis) : fam (A.MC_X_THETA_B x) = 107 := by cases x <;> decide
@[simp] theorem A.MC_X_THETA_F_fam (x : Axis) : fam (A.MC_X_THETA_F x) = 108 := by cases x <;> decide
@[simp] theorem A.MC_X_THETA_H_fam (x : Axis) : fam (A.MC_X_THETA_H x) = 109 := by cases x <;> decide
@[simp] theorem A.MC_X_DISAGREE_fam (x : Axis) : fam (A.MC_X_DISAGREE x) = 110 := by cases x <;> decide
@[simp] theorem A.MC_X_RESID_fam (x : Axis) : fam (A.MC_X_RESID x) = 111 := by cases x <;> decide
@[simp] theorem A.MC_X_TLOAD_fam (x : Axis) : fam (A.MC_X_TLOAD x) = 112 := by cases x <;> decide
@[simp] theorem A.MC_X_PLL_KP_fam (x : Axis) : fam (A.MC_X_PLL_KP x) = 113 := by cases x <;> decide
@[simp] theorem A.MC_X_PLL_KI_fam (x : Axis) : fam (A.MC_X_PLL_KI x) = 114 := by cases x <;> decide
@[simp] theorem A.MC_X_DIS_BAND_fam (x : Axis) : fam (A.MC_X_DIS_BAND x) = 115 := by cases x <;> decide
@[simp] theorem A.MC_X_RES_BAND_fam (x : Axis) : fam (A.MC_X_RES_BAND x) = 116 := by cases x <;> decide
@[simp] theorem A.MC_ID_RS_fam (x : Axis) : fam (A.MC_ID_RS x) = 117 := by cases x <;> decide
@[simp] theorem A.MC_ID_LD0_fam (x : Axis) : fam (A.MC_ID_LD0 x) = 118 := by cases x <;> decide
@[simp] theorem A.MC_ID_LQ0_fam (x : Axis) : fam (A.MC_ID_LQ0 x) = 119 := by cases x <;> decide
@[simp] theorem A.MC_ID_PSI_fam (x : Axis) : fam (A.MC_ID_PSI x) = 120 := by cases x <;> decide
@[simp] theorem A.MC_ID_J_fam (x : Axis) : fam (A.MC_ID_J x) = 121 := by cases x <;> decide
@[simp] theorem A.MC_ID_TLOAD_fam (x : Axis) : fam (A.MC_ID_TLOAD x) = 122 := by cases x <;> decide
@[simp] theorem A.MC_ID_TEMP_fam (x : Axis) : fam (A.MC_ID_TEMP x) = 123 := by cases x <;> decide
@[simp] theorem A.MC_BANK_fam (x : Axis) (c i : Nat) : fam (A.MC_BANK x c i) = 124 := by
  cases x
  · exact (by decide : ∀ c < 9, ∀ i < 10, fam (mcBase Axis.a + 0x200 + 0x40 * c + 4 * i) = 124) (c % 9) (Nat.mod_lt _ (by decide)) (i % 10) (Nat.mod_lt _ (by decide))
  · exact (by decide : ∀ c < 9, ∀ i < 10, fam (mcBase Axis.b + 0x200 + 0x40 * c + 4 * i) = 124) (c % 9) (Nat.mod_lt _ (by decide)) (i % 10) (Nat.mod_lt _ (by decide))
@[simp] theorem A.MC_C_X_IN_fam (x : Axis) (n : Nat) : fam (A.MC_C_X_IN x n) = 125 := by
  cases x
  · exact (by decide : ∀ n < 9, fam (mcBase Axis.a + 0x228 + 0x40 * n) = 125) (n % 9) (Nat.mod_lt _ (by decide))
  · exact (by decide : ∀ n < 9, fam (mcBase Axis.b + 0x228 + 0x40 * n) = 125) (n % 9) (Nat.mod_lt _ (by decide))
@[simp] theorem A.MC_C_X_OUT_fam (x : Axis) (n : Nat) : fam (A.MC_C_X_OUT x n) = 126 := by
  cases x
  · exact (by decide : ∀ n < 9, fam (mcBase Axis.a + 0x22c + 0x40 * n) = 126) (n % 9) (Nat.mod_lt _ (by decide))
  · exact (by decide : ∀ n < 9, fam (mcBase Axis.b + 0x22c + 0x40 * n) = 126) (n % 9) (Nat.mod_lt _ (by decide))
@[simp] theorem A.MC_SWAP_fam (x : Axis) : fam (A.MC_SWAP x) = 127 := by cases x <;> decide
@[simp] theorem A.MC_SWAP_STAT_fam (x : Axis) : fam (A.MC_SWAP_STAT x) = 128 := by cases x <;> decide
@[simp] theorem A.MC_CMP_GRP_fam (x : Axis) : fam (A.MC_CMP_GRP x) = 129 := by cases x <;> decide
@[simp] theorem A.MC_CUR_CTRL_fam (x : Axis) : fam (A.MC_CUR_CTRL x) = 130 := by cases x <;> decide
@[simp] theorem A.MC_LOOP_EN_fam (x : Axis) : fam (A.MC_LOOP_EN x) = 131 := by cases x <;> decide
@[simp] theorem A.MC_LOOP_DIV_fam (x : Axis) : fam (A.MC_LOOP_DIV x) = 132 := by cases x <;> decide
@[simp] theorem A.MC_SEL_STAT_fam (x : Axis) : fam (A.MC_SEL_STAT x) = 133 := by cases x <;> decide
@[simp] theorem A.MC_CMP_SAT_fam (x : Axis) : fam (A.MC_CMP_SAT x) = 134 := by cases x <;> decide
@[simp] theorem A.MC_X_DEM_SP_fam (x : Axis) : fam (A.MC_X_DEM_SP x) = 135 := by cases x <;> decide
@[simp] theorem A.MC_X_LIM_BV_fam (x : Axis) : fam (A.MC_X_LIM_BV x) = 136 := by cases x <;> decide
@[simp] theorem A.MC_X_LIM_PW_fam (x : Axis) : fam (A.MC_X_LIM_PW x) = 137 := by cases x <;> decide
@[simp] theorem A.MC_X_LIM_IM_fam (x : Axis) : fam (A.MC_X_LIM_IM x) = 138 := by cases x <;> decide
@[simp] theorem A.MC_X_LIM_TH_fam (x : Axis) : fam (A.MC_X_LIM_TH x) = 139 := by cases x <;> decide
@[simp] theorem A.MC_X_LIM_TT_fam (x : Axis) : fam (A.MC_X_LIM_TT x) = 140 := by cases x <;> decide
@[simp] theorem A.MC_X_IM_PRE_fam (x : Axis) : fam (A.MC_X_IM_PRE x) = 141 := by cases x <;> decide
@[simp] theorem A.MC_X_IQ_REF_fam (x : Axis) : fam (A.MC_X_IQ_REF x) = 142 := by cases x <;> decide
@[simp] theorem A.MC_X_ID_REF_fam (x : Axis) : fam (A.MC_X_ID_REF x) = 143 := by cases x <;> decide
@[simp] theorem A.MC_X_T_MOD_fam (x : Axis) : fam (A.MC_X_T_MOD x) = 144 := by cases x <;> decide
@[simp] theorem A.MC_PRM_STAT_fam (x : Axis) : fam (A.MC_PRM_STAT x) = 145 := by cases x <;> decide
@[simp] theorem A.MC_SPD_REF_fam (x : Axis) : fam (A.MC_SPD_REF x) = 146 := by cases x <;> decide
@[simp] theorem A.MC_X_OMEGA_REF_fam (x : Axis) : fam (A.MC_X_OMEGA_REF x) = 147 := by cases x <;> decide
@[simp] theorem A.MC_X_ACC_REF_fam (x : Axis) : fam (A.MC_X_ACC_REF x) = 148 := by cases x <;> decide
@[simp] theorem A.MC_X_ACC_MAX_fam (x : Axis) : fam (A.MC_X_ACC_MAX x) = 149 := by cases x <;> decide
@[simp] theorem A.MC_X_DEC_MAX_fam (x : Axis) : fam (A.MC_X_DEC_MAX x) = 150 := by cases x <;> decide
@[simp] theorem A.MC_X_JERK_MAX_fam (x : Axis) : fam (A.MC_X_JERK_MAX x) = 151 := by cases x <;> decide
@[simp] theorem A.MC_POS_SET_T_fam (x : Axis) : fam (A.MC_POS_SET_T x) = 152 := by cases x <;> decide
@[simp] theorem A.MC_POS_SET_F_fam (x : Axis) : fam (A.MC_POS_SET_F x) = 153 := by cases x <;> decide
@[simp] theorem A.MC_POS_REF_T_fam (x : Axis) : fam (A.MC_POS_REF_T x) = 154 := by cases x <;> decide
@[simp] theorem A.MC_POS_REF_F_fam (x : Axis) : fam (A.MC_POS_REF_F x) = 155 := by cases x <;> decide
@[simp] theorem A.MC_POS_ACT_T_fam (x : Axis) : fam (A.MC_POS_ACT_T x) = 156 := by cases x <;> decide
@[simp] theorem A.MC_POS_ACT_F_fam (x : Axis) : fam (A.MC_POS_ACT_F x) = 157 := by cases x <;> decide
@[simp] theorem A.MC_PRM_CTRL_fam (x : Axis) : fam (A.MC_PRM_CTRL x) = 158 := by cases x <;> decide
@[simp] theorem A.MC_FOL_CFG_fam (x : Axis) : fam (A.MC_FOL_CFG x) = 159 := by cases x <;> decide
@[simp] theorem A.MC_FOL_CNT_fam (x : Axis) : fam (A.MC_FOL_CNT x) = 160 := by cases x <;> decide
@[simp] theorem A.MC_FOL_AMP_fam (x : Axis) : fam (A.MC_FOL_AMP x) = 161 := by cases x <;> decide
@[simp] theorem A.MC_FOL_F0_fam (x : Axis) : fam (A.MC_FOL_F0 x) = 162 := by cases x <;> decide
@[simp] theorem A.MC_FOL_F1_fam (x : Axis) : fam (A.MC_FOL_F1 x) = 163 := by cases x <;> decide
@[simp] theorem A.MC_FOL_DUR_fam (x : Axis) : fam (A.MC_FOL_DUR x) = 164 := by cases x <;> decide
@[simp] theorem A.MC_FOL_CTRL_fam (x : Axis) : fam (A.MC_FOL_CTRL x) = 165 := by cases x <;> decide
@[simp] theorem A.MC_FOL_STAT_fam (x : Axis) : fam (A.MC_FOL_STAT x) = 166 := by cases x <;> decide
@[simp] theorem A.MC_X_FOL_VAL_fam (x : Axis) : fam (A.MC_X_FOL_VAL x) = 167 := by cases x <;> decide
@[simp] theorem A.MC_CAP_CFG_fam (x : Axis) : fam (A.MC_CAP_CFG x) = 168 := by cases x <;> decide
@[simp] theorem A.MC_CAP_SEL_LO_fam (x : Axis) : fam (A.MC_CAP_SEL_LO x) = 169 := by cases x <;> decide
@[simp] theorem A.MC_CAP_SEL_HI_fam (x : Axis) : fam (A.MC_CAP_SEL_HI x) = 170 := by cases x <;> decide
@[simp] theorem A.MC_CAP_BASE_fam (x : Axis) : fam (A.MC_CAP_BASE x) = 171 := by cases x <;> decide
@[simp] theorem A.MC_CAP_NSAMP_fam (x : Axis) : fam (A.MC_CAP_NSAMP x) = 172 := by cases x <;> decide
@[simp] theorem A.MC_CAP_CTRL_fam (x : Axis) : fam (A.MC_CAP_CTRL x) = 173 := by cases x <;> decide
@[simp] theorem A.MC_CAP_STAT_fam (x : Axis) : fam (A.MC_CAP_STAT x) = 174 := by cases x <;> decide
@[simp] theorem A.MC_CAP_COUNT_fam (x : Axis) : fam (A.MC_CAP_COUNT x) = 175 := by cases x <;> decide
@[simp] theorem A.MC_CAP_START_fam (x : Axis) : fam (A.MC_CAP_START x) = 176 := by cases x <;> decide
@[simp] theorem A.TR_CFG_fam (x : Axis) : fam (A.TR_CFG x) = 177 := by cases x <;> decide
@[simp] theorem A.TR_STAT_fam (x : Axis) : fam (A.TR_STAT x) = 178 := by cases x <;> decide
@[simp] theorem A.TR_EDGE_fam (x : Axis) (n : Nat) : fam (A.TR_EDGE x n) = 179 := by
  cases x
  · exact (by decide : ∀ n < 3, fam (trBase Axis.a + 0x8 + 0x4 * n) = 179) (n % 3) (Nat.mod_lt _ (by decide))
  · exact (by decide : ∀ n < 3, fam (trBase Axis.b + 0x8 + 0x4 * n) = 179) (n % 3) (Nat.mod_lt _ (by decide))
@[simp] theorem A.TR_STR_fam (x : Axis) (n : Nat) : fam (A.TR_STR x n) = 180 := by
  cases x
  · exact (by decide : ∀ n < 3, fam (trBase Axis.a + 0x14 + 0x4 * n) = 180) (n % 3) (Nat.mod_lt _ (by decide))
  · exact (by decide : ∀ n < 3, fam (trBase Axis.b + 0x14 + 0x4 * n) = 180) (n % 3) (Nat.mod_lt _ (by decide))
@[simp] theorem A.TR_STR_BK_fam (x : Axis) : fam (A.TR_STR_BK x) = 181 := by cases x <;> decide
@[simp] theorem A.TR_STR_LIM_fam (x : Axis) : fam (A.TR_STR_LIM x) = 182 := by cases x <;> decide
@[simp] theorem A.TR_BAND_fam (x : Axis) (n : Nat) : fam (A.TR_BAND x n) = 183 := by
  cases x
  · exact (by decide : ∀ n < 5, fam (trBase Axis.a + 0x28 + 0x4 * n) = 183) (n % 5) (Nat.mod_lt _ (by decide))
  · exact (by decide : ∀ n < 5, fam (trBase Axis.b + 0x28 + 0x4 * n) = 183) (n % 5) (Nat.mod_lt _ (by decide))
@[simp] theorem A.TR_REF_CFG_fam (x : Axis) : fam (A.TR_REF_CFG x) = 184 := by cases x <;> decide
@[simp] theorem A.TR_REF_STAT_fam (x : Axis) : fam (A.TR_REF_STAT x) = 185 := by cases x <;> decide
@[simp] theorem A.TR_VBS_fam (x : Axis) : fam (A.TR_VBS x) = 186 := by cases x <;> decide
@[simp] theorem A.TR_ILK_CNT_fam (x : Axis) : fam (A.TR_ILK_CNT x) = 187 := by cases x <;> decide
@[simp] theorem A.TR_LINK_CNT_fam (x : Axis) : fam (A.TR_LINK_CNT x) = 188 := by cases x <;> decide
@[simp] theorem A.TR_LAST_fam (x : Axis) (n : Nat) : fam (A.TR_LAST x n) = 189 := by
  cases x
  · exact (by decide : ∀ n < 3, fam (trBase Axis.a + 0x50 + 0x4 * n) = 189) (n % 3) (Nat.mod_lt _ (by decide))
  · exact (by decide : ∀ n < 3, fam (trBase Axis.b + 0x50 + 0x4 * n) = 189) (n % 3) (Nat.mod_lt _ (by decide))
@[simp] theorem A.TR_CNT_CLR_fam (x : Axis) : fam (A.TR_CNT_CLR x) = 190 := by cases x <;> decide
@[simp] theorem A.TR_DS_CFG_fam (x : Axis) : fam (A.TR_DS_CFG x) = 191 := by cases x <;> decide
@[simp] theorem A.TR_SAFE_CFG_fam (x : Axis) : fam (A.TR_SAFE_CFG x) = 192 := by cases x <;> decide
@[simp] theorem A.TR_RETRY_fam (x : Axis) : fam (A.TR_RETRY x) = 193 := by cases x <;> decide
@[simp] theorem A.TR_SAFE_STAT_fam (x : Axis) : fam (A.TR_SAFE_STAT x) = 194 := by cases x <;> decide
@[simp] theorem A.TR_DS_STAT_fam (x : Axis) : fam (A.TR_DS_STAT x) = 195 := by cases x <;> decide
@[simp] theorem A.TR_CSC_STAT_fam (x : Axis) : fam (A.TR_CSC_STAT x) = 196 := by cases x <;> decide
@[simp] theorem A.TR_DS_CNT_fam (x : Axis) : fam (A.TR_DS_CNT x) = 197 := by cases x <;> decide
@[simp] theorem A.TR_PROT_CLR_fam (x : Axis) : fam (A.TR_PROT_CLR x) = 198 := by cases x <;> decide
@[simp] theorem A.LDG_SUMMARY_fam : fam (A.LDG_SUMMARY) = 199 := by decide
@[simp] theorem A.LDG_FLT_CFG_fam : fam (A.LDG_FLT_CFG) = 200 := by decide
@[simp] theorem A.LDG_LOCKOUT_fam : fam (A.LDG_LOCKOUT) = 201 := by decide
@[simp] theorem A.LDG_REPEAT_fam : fam (A.LDG_REPEAT) = 202 := by decide
@[simp] theorem A.LDG_ST_fam (n : Nat) : fam (A.LDG_ST n) = 203 :=
  (by decide : ∀ n < 6, fam (0x40c010 + 0x4 * n) = 203) (n % 6) (Nat.mod_lt _ (by decide))
@[simp] theorem A.LDG_CAUSE_fam (n : Nat) : fam (A.LDG_CAUSE n) = 204 :=
  (by decide : ∀ n < 6, fam (0x40c030 + 0x4 * n) = 204) (n % 6) (Nat.mod_lt _ (by decide))
@[simp] theorem A.LDG_LOG_STAT_fam : fam (A.LDG_LOG_STAT) = 205 := by decide
@[simp] theorem A.LDG_LOG_CLR_fam : fam (A.LDG_LOG_CLR) = 206 := by decide
@[simp] theorem A.LDG_EVT_PEND_fam (n : Nat) : fam (A.LDG_EVT_PEND n) = 207 :=
  (by decide : ∀ n < 4, fam (0x40c060 + 0x4 * n) = 207) (n % 4) (Nat.mod_lt _ (by decide))
@[simp] theorem A.LDG_IRQ_STAT_fam : fam (A.LDG_IRQ_STAT) = 208 := by decide
@[simp] theorem A.LDG_ROUTE_fam (n : Nat) : fam (A.LDG_ROUTE n) = 209 :=
  (by decide : ∀ n < 128, fam (0x40c200 + 0x4 * n) = 209) (n % 128) (Nat.mod_lt _ (by decide))
@[simp] theorem A.LDG_LOG_fam (n : Nat) : fam (A.LDG_LOG n) = 210 :=
  (by decide : ∀ n < 256, fam (0x40c400 + 0x4 * n) = 210) (n % 256) (Nat.mod_lt _ (by decide))
@[simp] theorem A.ORG_TJ_fam : fam (A.ORG_TJ) = 211 := by decide
@[simp] theorem A.ORG_STAT_fam : fam (A.ORG_STAT) = 212 := by decide
@[simp] theorem A.ORG_THR_CFG_fam : fam (A.ORG_THR_CFG) = 213 := by decide
@[simp] theorem A.ORG_RISE_CFG_fam : fam (A.ORG_RISE_CFG) = 214 := by decide
@[simp] theorem A.ORG_CRED_fam : fam (A.ORG_CRED) = 215 := by decide
@[simp] theorem A.ORG_RATE_fam : fam (A.ORG_RATE) = 216 := by decide
@[simp] theorem A.ORG_DRV_EST_fam : fam (A.ORG_DRV_EST) = 217 := by decide
@[simp] theorem A.ORG_DRV_CFG_fam : fam (A.ORG_DRV_CFG) = 218 := by decide
@[simp] theorem A.ORG_CAL_fam : fam (A.ORG_CAL) = 219 := by decide
@[simp] theorem A.ORG_CTRL_fam : fam (A.ORG_CTRL) = 220 := by decide
@[simp] theorem A.GRT_STAT_fam : fam (A.GRT_STAT) = 221 := by decide
@[simp] theorem A.GRT_COUNT_fam : fam (A.GRT_COUNT) = 222 := by decide
@[simp] theorem A.GRT_PEND_fam : fam (A.GRT_PEND) = 223 := by decide
@[simp] theorem A.GRT_PROG_fam : fam (A.GRT_PROG) = 224 := by decide
@[simp] theorem A.GRT_PROG_DATA_fam : fam (A.GRT_PROG_DATA) = 225 := by decide
@[simp] theorem A.GRT_PROG_STAT_fam : fam (A.GRT_PROG_STAT) = 226 := by decide
@[simp] theorem A.GRT_WEAK_fam : fam (A.GRT_WEAK) = 227 := by decide
@[simp] theorem A.GRT_RAW_fam (n : Nat) : fam (A.GRT_RAW n) = 228 :=
  (by decide : ∀ n < 4, fam (0x40e020 + 0x4 * n) = 228) (n % 4) (Nat.mod_lt _ (by decide))
@[simp] theorem A.GRT_ARRAY_fam (n : Nat) : fam (A.GRT_ARRAY n) = 229 :=
  (by decide : ∀ n < 128, fam (0x40e100 + 0x4 * n) = 229) (n % 128) (Nat.mod_lt _ (by decide))
@[simp] theorem A.WKT_LEN_fam : fam (A.WKT_LEN) = 230 := by decide
@[simp] theorem A.WKT_HLT_fam : fam (A.WKT_HLT) = 231 := by decide
@[simp] theorem A.WKT_STAT_fam : fam (A.WKT_STAT) = 232 := by decide
@[simp] theorem A.WKT_CNT_fam : fam (A.WKT_CNT) = 233 := by decide
@[simp] theorem A.WKT_CNT_CLR_fam : fam (A.WKT_CNT_CLR) = 234 := by decide
@[simp] theorem A.WKT_LAST_BAD_fam : fam (A.WKT_LAST_BAD) = 235 := by decide
@[simp] theorem A.ICE_CFG_fam : fam (A.ICE_CFG) = 236 := by decide
@[simp] theorem A.ICE_SIZE_fam : fam (A.ICE_SIZE) = 237 := by decide
@[simp] theorem A.ICE_WIN_BASE_fam : fam (A.ICE_WIN_BASE) = 238 := by decide
@[simp] theorem A.ICE_CTRL_fam : fam (A.ICE_CTRL) = 239 := by decide
@[simp] theorem A.ICE_STAT_fam : fam (A.ICE_STAT) = 240 := by decide
@[simp] theorem A.ICE_ERR_fam : fam (A.ICE_ERR) = 241 := by decide
@[simp] theorem A.ICE_CNT_fam : fam (A.ICE_CNT) = 242 := by decide
@[simp] theorem A.PGL_CTRL_fam : fam (A.PGL_CTRL) = 243 := by decide
@[simp] theorem A.PGL_STAT_fam : fam (A.PGL_STAT) = 244 := by decide
@[simp] theorem A.PGL_ERR_fam : fam (A.PGL_ERR) = 245 := by decide
@[simp] theorem A.PGL_RING_CFG_fam : fam (A.PGL_RING_CFG) = 246 := by decide
@[simp] theorem A.PGL_RING_BASE_fam : fam (A.PGL_RING_BASE) = 247 := by decide
@[simp] theorem A.PGL_RING_WR_fam : fam (A.PGL_RING_WR) = 248 := by decide
@[simp] theorem A.PGL_RING_RD_fam : fam (A.PGL_RING_RD) = 249 := by decide
@[simp] theorem A.PGL_CNT_fam : fam (A.PGL_CNT) = 250 := by decide
@[simp] theorem A.PGL_CH_CFG_fam (n : Nat) : fam (A.PGL_CH_CFG n) = 251 :=
  (by decide : ∀ n < 16, fam (0x411100 + 0x20 * n) = 251) (n % 16) (Nat.mod_lt _ (by decide))
@[simp] theorem A.PGL_CH_DESC_fam (n : Nat) : fam (A.PGL_CH_DESC n) = 252 :=
  (by decide : ∀ n < 16, fam (0x411104 + 0x20 * n) = 252) (n % 16) (Nat.mod_lt _ (by decide))
@[simp] theorem A.PGL_CH_CTRL_fam (n : Nat) : fam (A.PGL_CH_CTRL n) = 253 :=
  (by decide : ∀ n < 16, fam (0x411108 + 0x20 * n) = 253) (n % 16) (Nat.mod_lt _ (by decide))
@[simp] theorem A.PGL_CH_STAT_fam (n : Nat) : fam (A.PGL_CH_STAT n) = 254 :=
  (by decide : ∀ n < 16, fam (0x41110c + 0x20 * n) = 254) (n % 16) (Nat.mod_lt _ (by decide))
@[simp] theorem A.PGL_CH_CUR_fam (n : Nat) : fam (A.PGL_CH_CUR n) = 255 :=
  (by decide : ∀ n < 16, fam (0x411110 + 0x20 * n) = 255) (n % 16) (Nat.mod_lt _ (by decide))
@[simp] theorem A.PGL_CH_RESID_fam (n : Nat) : fam (A.PGL_CH_RESID n) = 256 :=
  (by decide : ∀ n < 16, fam (0x411114 + 0x20 * n) = 256) (n % 16) (Nat.mod_lt _ (by decide))
@[simp] theorem A.PGL_CH_CNT_fam (n : Nat) : fam (A.PGL_CH_CNT n) = 257 :=
  (by decide : ∀ n < 16, fam (0x411118 + 0x20 * n) = 257) (n % 16) (Nat.mod_lt _ (by decide))
@[simp] theorem A.STC_REQ_fam : fam (A.STC_REQ) = 258 := by decide
@[simp] theorem A.STC_CANCEL_fam : fam (A.STC_CANCEL) = 259 := by decide
@[simp] theorem A.STC_BG_CFG_fam : fam (A.STC_BG_CFG) = 260 := by decide
@[simp] theorem A.STC_TRIM_fam (x : Axis) : fam (A.STC_TRIM x) = 261 := by cases x <;> decide
@[simp] theorem A.STC_SCRUB_STAT_fam : fam (A.STC_SCRUB_STAT) = 262 := by decide
@[simp] theorem A.STC_TSTAT_fam (n : Nat) : fam (A.STC_TSTAT n) = 263 :=
  (by decide : ∀ n < 11, fam (0x412040 + 0x4 * n) = 263) (n % 11) (Nat.mod_lt _ (by decide))

@[simp] theorem F.GH_IDENT_DEVICE_fam : fam (F.GH_IDENT_DEVICE).reg = 0 := A.GH_IDENT_fam
@[simp] theorem F.GH_IDENT_FAMILY_fam : fam (F.GH_IDENT_FAMILY).reg = 0 := A.GH_IDENT_fam
@[simp] theorem F.GH_IDENT_SREV_fam : fam (F.GH_IDENT_SREV).reg = 0 := A.GH_IDENT_fam
@[simp] theorem F.GH_BOOT_STATUS_WEAK_fam : fam (F.GH_BOOT_STATUS_WEAK).reg = 1 := A.GH_BOOT_STATUS_fam
@[simp] theorem F.GH_BOOT_STATUS_SLOT_MISMATCH_fam : fam (F.GH_BOOT_STATUS_SLOT_MISMATCH).reg = 1 := A.GH_BOOT_STATUS_fam
@[simp] theorem F.GH_BOOT_STATUS_CAL_SLOT_fam : fam (F.GH_BOOT_STATUS_CAL_SLOT).reg = 1 := A.GH_BOOT_STATUS_fam
@[simp] theorem F.GH_BOOT_STATUS_FALLBACK_fam : fam (F.GH_BOOT_STATUS_FALLBACK).reg = 1 := A.GH_BOOT_STATUS_fam
@[simp] theorem F.GH_BOOT_STATUS_REQ_ENC_fam : fam (F.GH_BOOT_STATUS_REQ_ENC).reg = 1 := A.GH_BOOT_STATUS_fam
@[simp] theorem F.GH_BOOT_STATUS_KEY_VALID_fam : fam (F.GH_BOOT_STATUS_KEY_VALID).reg = 1 := A.GH_BOOT_STATUS_fam
@[simp] theorem F.GH_BOOT_STATUS_ENCRYPTED_fam : fam (F.GH_BOOT_STATUS_ENCRYPTED).reg = 1 := A.GH_BOOT_STATUS_fam
@[simp] theorem F.GH_BOOT_STATUS_SRC_fam : fam (F.GH_BOOT_STATUS_SRC).reg = 1 := A.GH_BOOT_STATUS_fam
@[simp] theorem F.GH_BOOT_STATUS_BOOTSEL_fam : fam (F.GH_BOOT_STATUS_BOOTSEL).reg = 1 := A.GH_BOOT_STATUS_fam
@[simp] theorem F.GH_BOOT_STATUS_RESULT_fam : fam (F.GH_BOOT_STATUS_RESULT).reg = 1 := A.GH_BOOT_STATUS_fam
@[simp] theorem F.GH_BOOT_STATUS_STATE_fam : fam (F.GH_BOOT_STATUS_STATE).reg = 1 := A.GH_BOOT_STATUS_fam
@[simp] theorem F.GH_RST_CAUSE_WARM_COUNT_fam : fam (F.GH_RST_CAUSE_WARM_COUNT).reg = 2 := A.GH_RST_CAUSE_fam
@[simp] theorem F.GH_RST_CAUSE_REBOOT_fam : fam (F.GH_RST_CAUSE_REBOOT).reg = 2 := A.GH_RST_CAUSE_fam
@[simp] theorem F.GH_RST_CAUSE_THERMAL_fam : fam (F.GH_RST_CAUSE_THERMAL).reg = 2 := A.GH_RST_CAUSE_fam
@[simp] theorem F.GH_RST_CAUSE_SOFT_fam : fam (F.GH_RST_CAUSE_SOFT).reg = 2 := A.GH_RST_CAUSE_fam
@[simp] theorem F.GH_RST_CAUSE_PIN_fam : fam (F.GH_RST_CAUSE_PIN).reg = 2 := A.GH_RST_CAUSE_fam
@[simp] theorem F.GH_RST_CAUSE_POR_fam : fam (F.GH_RST_CAUSE_POR).reg = 2 := A.GH_RST_CAUSE_fam
@[simp] theorem F.GH_RST_CTRL_KEY_fam : fam (F.GH_RST_CTRL_KEY).reg = 3 := A.GH_RST_CTRL_fam
@[simp] theorem F.GH_RST_CTRL_FORCE_fam : fam (F.GH_RST_CTRL_FORCE).reg = 3 := A.GH_RST_CTRL_fam
@[simp] theorem F.GH_RST_CTRL_REBOOT_fam : fam (F.GH_RST_CTRL_REBOOT).reg = 3 := A.GH_RST_CTRL_fam
@[simp] theorem F.GH_RST_CTRL_SOFT_fam : fam (F.GH_RST_CTRL_SOFT).reg = 3 := A.GH_RST_CTRL_fam
@[simp] theorem F.GH_HOST_LOAD_GO_fam : fam (F.GH_HOST_LOAD_GO).reg = 4 := A.GH_HOST_LOAD_fam
@[simp] theorem F.GH_HOST_LOAD_LEN_fam : fam (F.GH_HOST_LOAD_LEN).reg = 4 := A.GH_HOST_LOAD_fam
@[simp] theorem F.GH_IMG_VER_FLOOR_fam : fam (F.GH_IMG_VER_FLOOR).reg = 5 := A.GH_IMG_VER_fam
@[simp] theorem F.GH_IMG_VER_VERSION_fam : fam (F.GH_IMG_VER_VERSION).reg = 5 := A.GH_IMG_VER_fam
@[simp] theorem F.GH_BOOT_TIME_US_fam : fam (F.GH_BOOT_TIME_US).reg = 6 := A.GH_BOOT_TIME_fam
@[simp] theorem F.GH_SECT_UPD_GO_fam : fam (F.GH_SECT_UPD_GO).reg = 7 := A.GH_SECT_UPD_fam
@[simp] theorem F.GH_SECT_UPD_SECT_fam : fam (F.GH_SECT_UPD_SECT).reg = 7 := A.GH_SECT_UPD_fam
@[simp] theorem F.GH_SECT_STATUS_ITEM_fam : fam (F.GH_SECT_STATUS_ITEM).reg = 8 := A.GH_SECT_STATUS_fam
@[simp] theorem F.GH_SECT_STATUS_SECT_fam : fam (F.GH_SECT_STATUS_SECT).reg = 8 := A.GH_SECT_STATUS_fam
@[simp] theorem F.GH_SECT_STATUS_RESULT_fam : fam (F.GH_SECT_STATUS_RESULT).reg = 8 := A.GH_SECT_STATUS_fam
@[simp] theorem F.GH_SECT_STATUS_BUSY_fam : fam (F.GH_SECT_STATUS_BUSY).reg = 8 := A.GH_SECT_STATUS_fam
@[simp] theorem F.GH_LOAD_DETAIL_ITEM_fam : fam (F.GH_LOAD_DETAIL_ITEM).reg = 9 := A.GH_LOAD_DETAIL_fam
@[simp] theorem F.GH_LOAD_DETAIL_SECT_fam : fam (F.GH_LOAD_DETAIL_SECT).reg = 9 := A.GH_LOAD_DETAIL_fam
@[simp] theorem F.GH_LOAD_DETAIL_CODE_fam : fam (F.GH_LOAD_DETAIL_CODE).reg = 9 := A.GH_LOAD_DETAIL_fam
@[simp] theorem F.GH_FLOOR_ADV_KEY_fam : fam (F.GH_FLOOR_ADV_KEY).reg = 10 := A.GH_FLOOR_ADV_fam
@[simp] theorem F.GH_FLOOR_ADV_GO_fam : fam (F.GH_FLOOR_ADV_GO).reg = 10 := A.GH_FLOOR_ADV_fam
@[simp] theorem F.GH_FLOOR_ADV_RESULT_fam : fam (F.GH_FLOOR_ADV_RESULT).reg = 10 := A.GH_FLOOR_ADV_fam
@[simp] theorem F.GH_FLOOR_ADV_STEPS_fam : fam (F.GH_FLOOR_ADV_STEPS).reg = 10 := A.GH_FLOOR_ADV_fam
@[simp] theorem F.HB_KBUSY_BUSY_fam : fam (F.HB_KBUSY_BUSY).reg = 11 := A.HB_KBUSY_fam
@[simp] theorem F.HB_PACE_MIN_fam (n : Nat) : fam (F.HB_PACE_MIN n).reg = 12 := A.HB_PACE_fam n
@[simp] theorem F.HB_PACE_LAST_fam (n : Nat) : fam (F.HB_PACE_LAST n).reg = 12 := A.HB_PACE_fam n
@[simp] theorem F.HB_PACE_LIM_BAND_FLOOR_fam : fam (F.HB_PACE_LIM_BAND_FLOOR).reg = 13 := A.HB_PACE_LIM_fam
@[simp] theorem F.HB_PACE_LIM_IMG_FLOOR_fam : fam (F.HB_PACE_LIM_IMG_FLOOR).reg = 13 := A.HB_PACE_LIM_fam
@[simp] theorem F.HB_PACE_STAT_MARGIN_BAND_fam : fam (F.HB_PACE_STAT_MARGIN_BAND).reg = 14 := A.HB_PACE_STAT_fam
@[simp] theorem F.HB_PACE_STAT_BELOW_FLOOR_fam : fam (F.HB_PACE_STAT_BELOW_FLOOR).reg = 14 := A.HB_PACE_STAT_fam
@[simp] theorem F.HB_PACE_STAT_BELOW_BAND_fam : fam (F.HB_PACE_STAT_BELOW_BAND).reg = 14 := A.HB_PACE_STAT_fam
@[simp] theorem F.HB_MISS_CFG_WIN_B_fam : fam (F.HB_MISS_CFG_WIN_B).reg = 15 := A.HB_MISS_CFG_fam
@[simp] theorem F.HB_MISS_CFG_WIN_A_fam : fam (F.HB_MISS_CFG_WIN_A).reg = 15 := A.HB_MISS_CFG_fam
@[simp] theorem F.HB_MISS_CFG_RUN_B_fam : fam (F.HB_MISS_CFG_RUN_B).reg = 15 := A.HB_MISS_CFG_fam
@[simp] theorem F.HB_MISS_CFG_RUN_A_fam : fam (F.HB_MISS_CFG_RUN_A).reg = 15 := A.HB_MISS_CFG_fam
@[simp] theorem F.HB_MISS_RUN_fam (x : Axis) : fam (F.HB_MISS_RUN x).reg = 16 := A.HB_MISS_fam x
@[simp] theorem F.HB_MISS_IN_WIN_fam (x : Axis) : fam (F.HB_MISS_IN_WIN x).reg = 16 := A.HB_MISS_fam x
@[simp] theorem F.HB_MISS_TOTAL_fam (x : Axis) : fam (F.HB_MISS_TOTAL x).reg = 16 := A.HB_MISS_fam x
@[simp] theorem F.HB_LATE_OVR_B_fam : fam (F.HB_LATE_OVR_B).reg = 17 := A.HB_LATE_fam
@[simp] theorem F.HB_LATE_OVR_A_fam : fam (F.HB_LATE_OVR_A).reg = 17 := A.HB_LATE_fam
@[simp] theorem F.HB_LATE_LATE_B_fam : fam (F.HB_LATE_LATE_B).reg = 17 := A.HB_LATE_fam
@[simp] theorem F.HB_LATE_LATE_A_fam : fam (F.HB_LATE_LATE_A).reg = 17 := A.HB_LATE_fam
@[simp] theorem F.HB_STEAL_LOST_fam : fam (F.HB_STEAL_LOST).reg = 18 := A.HB_STEAL_fam
@[simp] theorem F.HB_STEAL_TAKEN_fam : fam (F.HB_STEAL_TAKEN).reg = 18 := A.HB_STEAL_fam
@[simp] theorem F.HB_ECC_DOUBLE_fam : fam (F.HB_ECC_DOUBLE).reg = 19 := A.HB_ECC_fam
@[simp] theorem F.HB_ECC_SINGLE_fam : fam (F.HB_ECC_SINGLE).reg = 19 := A.HB_ECC_fam
@[simp] theorem F.HB_ECC_ADDR_KIND_fam : fam (F.HB_ECC_ADDR_KIND).reg = 20 := A.HB_ECC_ADDR_fam
@[simp] theorem F.HB_ECC_ADDR_ADDR_fam : fam (F.HB_ECC_ADDR_ADDR).reg = 20 := A.HB_ECC_ADDR_fam
@[simp] theorem F.HB_LOCKS_HELD_fam : fam (F.HB_LOCKS_HELD).reg = 21 := A.HB_LOCKS_fam
@[simp] theorem F.HB_ABANDON_DETAIL_fam : fam (F.HB_ABANDON_DETAIL).reg = 22 := A.HB_ABANDON_fam
@[simp] theorem F.HB_ABANDON_KIOSK_fam : fam (F.HB_ABANDON_KIOSK).reg = 22 := A.HB_ABANDON_fam
@[simp] theorem F.HB_ABANDON_COUNT_fam : fam (F.HB_ABANDON_COUNT).reg = 22 := A.HB_ABANDON_fam
@[simp] theorem F.HB_ABANDON_GRAPH_fam : fam (F.HB_ABANDON_GRAPH).reg = 22 := A.HB_ABANDON_fam
@[simp] theorem F.HB_CNT_CLR_ABANDON_fam : fam (F.HB_CNT_CLR_ABANDON).reg = 23 := A.HB_CNT_CLR_fam
@[simp] theorem F.HB_CNT_CLR_ECC_fam : fam (F.HB_CNT_CLR_ECC).reg = 23 := A.HB_CNT_CLR_fam
@[simp] theorem F.HB_CNT_CLR_STEAL_fam : fam (F.HB_CNT_CLR_STEAL).reg = 23 := A.HB_CNT_CLR_fam
@[simp] theorem F.HB_CNT_CLR_PACE_MIN_fam : fam (F.HB_CNT_CLR_PACE_MIN).reg = 23 := A.HB_CNT_CLR_fam
@[simp] theorem F.HB_CNT_CLR_LATE_fam : fam (F.HB_CNT_CLR_LATE).reg = 23 := A.HB_CNT_CLR_fam
@[simp] theorem F.HB_CNT_CLR_MISS_B_fam : fam (F.HB_CNT_CLR_MISS_B).reg = 23 := A.HB_CNT_CLR_fam
@[simp] theorem F.HB_CNT_CLR_MISS_A_fam : fam (F.HB_CNT_CLR_MISS_A).reg = 23 := A.HB_CNT_CLR_fam
@[simp] theorem F.PW_CTRL_CNT_CLR_fam (x : Axis) : fam (F.PW_CTRL_CNT_CLR x).reg = 24 := A.PW_CTRL_fam x
@[simp] theorem F.PW_CTRL_LOCK_A_fam (x : Axis) : fam (F.PW_CTRL_LOCK_A x).reg = 24 := A.PW_CTRL_fam x
@[simp] theorem F.PW_CTRL_SIX_SYNC_fam (x : Axis) : fam (F.PW_CTRL_SIX_SYNC x).reg = 24 := A.PW_CTRL_fam x
@[simp] theorem F.PW_CTRL_MINP_POL_fam (x : Axis) : fam (F.PW_CTRL_MINP_POL x).reg = 24 := A.PW_CTRL_fam x
@[simp] theorem F.PW_CTRL_UPD_fam (x : Axis) : fam (F.PW_CTRL_UPD x).reg = 24 := A.PW_CTRL_fam x
@[simp] theorem F.PW_CTRL_CARRIER_fam (x : Axis) : fam (F.PW_CTRL_CARRIER x).reg = 24 := A.PW_CTRL_fam x
@[simp] theorem F.PW_CTRL_EN_fam (x : Axis) : fam (F.PW_CTRL_EN x).reg = 24 := A.PW_CTRL_fam x
@[simp] theorem F.PW_PERIOD_TICKS_fam (x : Axis) : fam (F.PW_PERIOD_TICKS x).reg = 25 := A.PW_PERIOD_fam x
@[simp] theorem F.PW_PER_LIM_MIN_fam (x : Axis) : fam (F.PW_PER_LIM_MIN x).reg = 26 := A.PW_PER_LIM_fam x
@[simp] theorem F.PW_CMP_D_fam (x : Axis) (n : Nat) : fam (F.PW_CMP_D x n).reg = 27 := A.PW_CMP_fam x n
@[simp] theorem F.PW_SIX_SIXSTEP_fam (x : Axis) : fam (F.PW_SIX_SIXSTEP x).reg = 28 := A.PW_SIX_fam x
@[simp] theorem F.PW_SIX_SAT_fam (x : Axis) : fam (F.PW_SIX_SAT x).reg = 28 := A.PW_SIX_fam x
@[simp] theorem F.PW_SIX_SECTOR_fam (x : Axis) : fam (F.PW_SIX_SECTOR x).reg = 28 := A.PW_SIX_fam x
@[simp] theorem F.PW_CMP_BK_D_fam (x : Axis) : fam (F.PW_CMP_BK_D x).reg = 29 := A.PW_CMP_BK_fam x
@[simp] theorem F.PW_DEAD_DT_LH_fam (x : Axis) : fam (F.PW_DEAD_DT_LH x).reg = 30 := A.PW_DEAD_fam x
@[simp] theorem F.PW_DEAD_DT_HL_fam (x : Axis) : fam (F.PW_DEAD_DT_HL x).reg = 30 := A.PW_DEAD_fam x
@[simp] theorem F.PW_MINPULSE_TICKS_fam (x : Axis) : fam (F.PW_MINPULSE_TICKS x).reg = 31 := A.PW_MINPULSE_fam x
@[simp] theorem F.PW_SAMP_EN_fam (x : Axis) (n : Nat) : fam (F.PW_SAMP_EN x n).reg = 32 := A.PW_SAMP_fam x n
@[simp] theorem F.PW_SAMP_POS_fam (x : Axis) (n : Nat) : fam (F.PW_SAMP_POS x n).reg = 32 := A.PW_SAMP_fam x n
@[simp] theorem F.PW_PHASE_TICKS_fam (x : Axis) : fam (F.PW_PHASE_TICKS x).reg = 33 := A.PW_PHASE_fam x
@[simp] theorem F.PW_PERIOD_EFF_TICKS_fam (x : Axis) : fam (F.PW_PERIOD_EFF_TICKS x).reg = 34 := A.PW_PERIOD_EFF_fam x
@[simp] theorem F.PW_STAT_PER_PENDING_fam (x : Axis) : fam (F.PW_STAT_PER_PENDING x).reg = 35 := A.PW_STAT_fam x
@[simp] theorem F.PW_STAT_PHASE_LOCKED_fam (x : Axis) : fam (F.PW_STAT_PHASE_LOCKED x).reg = 35 := A.PW_STAT_fam x
@[simp] theorem F.PW_STAT_PER_REFUSED_fam (x : Axis) : fam (F.PW_STAT_PER_REFUSED x).reg = 35 := A.PW_STAT_fam x
@[simp] theorem F.PW_STAT_EDGE_DELAYED_fam (x : Axis) : fam (F.PW_STAT_EDGE_DELAYED x).reg = 35 := A.PW_STAT_fam x
@[simp] theorem F.PW_STAT_MINP_fam (x : Axis) : fam (F.PW_STAT_MINP x).reg = 35 := A.PW_STAT_fam x
@[simp] theorem F.PW_STAT_MISSED_fam (x : Axis) : fam (F.PW_STAT_MISSED x).reg = 35 := A.PW_STAT_fam x
@[simp] theorem F.PW_CNT_MINP_fam (x : Axis) : fam (F.PW_CNT_MINP x).reg = 36 := A.PW_CNT_fam x
@[simp] theorem F.PW_CNT_DELAYED_fam (x : Axis) : fam (F.PW_CNT_DELAYED x).reg = 36 := A.PW_CNT_fam x
@[simp] theorem F.SUN_CTRL_SET_GO_fam : fam (F.SUN_CTRL_SET_GO).reg = 37 := A.SUN_CTRL_fam
@[simp] theorem F.SUN_CTRL_SET_AT_PPS_fam : fam (F.SUN_CTRL_SET_AT_PPS).reg = 37 := A.SUN_CTRL_fam
@[simp] theorem F.SUN_CTRL_TAU_fam : fam (F.SUN_CTRL_TAU).reg = 37 := A.SUN_CTRL_fam
@[simp] theorem F.SUN_CTRL_PPS_FALL_fam : fam (F.SUN_CTRL_PPS_FALL).reg = 37 := A.SUN_CTRL_fam
@[simp] theorem F.SUN_CTRL_DISC_EN_fam : fam (F.SUN_CTRL_DISC_EN).reg = 37 := A.SUN_CTRL_fam
@[simp] theorem F.SUN_SET_LO_fam : fam (F.SUN_SET_LO).reg = 38 := A.SUN_SET_LO_fam
@[simp] theorem F.SUN_SET_HI_fam : fam (F.SUN_SET_HI).reg = 39 := A.SUN_SET_HI_fam
@[simp] theorem F.SUN_CMD_CNT_CLR_fam : fam (F.SUN_CMD_CNT_CLR).reg = 40 := A.SUN_CMD_fam
@[simp] theorem F.SUN_CMD_SNAP_fam : fam (F.SUN_CMD_SNAP).reg = 40 := A.SUN_CMD_fam
@[simp] theorem F.SUN_SNAP_LO_fam : fam (F.SUN_SNAP_LO).reg = 41 := A.SUN_SNAP_LO_fam
@[simp] theorem F.SUN_SNAP_HI_fam : fam (F.SUN_SNAP_HI).reg = 42 := A.SUN_SNAP_HI_fam
@[simp] theorem F.SUN_STAT_REJECTS_fam : fam (F.SUN_STAT_REJECTS).reg = 43 := A.SUN_STAT_fam
@[simp] theorem F.SUN_STAT_SET_PENDING_fam : fam (F.SUN_STAT_SET_PENDING).reg = 43 := A.SUN_STAT_fam
@[simp] theorem F.SUN_STAT_RANGE_fam : fam (F.SUN_STAT_RANGE).reg = 43 := A.SUN_STAT_fam
@[simp] theorem F.SUN_STAT_STEPPED_fam : fam (F.SUN_STAT_STEPPED).reg = 43 := A.SUN_STAT_fam
@[simp] theorem F.SUN_STAT_STATE_fam : fam (F.SUN_STAT_STATE).reg = 43 := A.SUN_STAT_fam
@[simp] theorem F.SUN_RATE_fam : fam (F.SUN_RATE).reg = 44 := A.SUN_RATE_fam
@[simp] theorem F.SUN_PHASE_ERR_fam : fam (F.SUN_PHASE_ERR).reg = 45 := A.SUN_PHASE_ERR_fam
@[simp] theorem F.SUN_DRIFT_fam : fam (F.SUN_DRIFT).reg = 46 := A.SUN_DRIFT_fam
@[simp] theorem F.SUN_PPS_LO_fam : fam (F.SUN_PPS_LO).reg = 47 := A.SUN_PPS_LO_fam
@[simp] theorem F.SUN_PPS_HI_fam : fam (F.SUN_PPS_HI).reg = 48 := A.SUN_PPS_HI_fam
@[simp] theorem F.SUN_ACT_TLO_fam (n : Nat) : fam (F.SUN_ACT_TLO n).reg = 49 := A.SUN_ACT_TLO_fam n
@[simp] theorem F.SUN_ACT_THI_fam (n : Nat) : fam (F.SUN_ACT_THI n).reg = 50 := A.SUN_ACT_THI_fam n
@[simp] theorem F.SUN_ACT_CTRL_ARM_fam (n : Nat) : fam (F.SUN_ACT_CTRL_ARM n).reg = 51 := A.SUN_ACT_CTRL_fam n
@[simp] theorem F.SUN_ACT_CTRL_CANCEL_fam (n : Nat) : fam (F.SUN_ACT_CTRL_CANCEL n).reg = 51 := A.SUN_ACT_CTRL_fam n
@[simp] theorem F.SUN_ACT_CTRL_STATUS_fam (n : Nat) : fam (F.SUN_ACT_CTRL_STATUS n).reg = 51 := A.SUN_ACT_CTRL_fam n
@[simp] theorem F.SUN_ACT_CTRL_ARG_fam (n : Nat) : fam (F.SUN_ACT_CTRL_ARG n).reg = 51 := A.SUN_ACT_CTRL_fam n
@[simp] theorem F.SUN_ACT_CTRL_CODE_fam (n : Nat) : fam (F.SUN_ACT_CTRL_CODE n).reg = 51 := A.SUN_ACT_CTRL_fam n
@[simp] theorem F.SNS_SDCLK_DIV_B_fam : fam (F.SNS_SDCLK_DIV_B).reg = 52 := A.SNS_SDCLK_fam
@[simp] theorem F.SNS_SDCLK_DIV_A_fam : fam (F.SNS_SDCLK_DIV_A).reg = 52 := A.SNS_SDCLK_fam
@[simp] theorem F.SNS_SDCH_FILT_fam (n : Nat) : fam (F.SNS_SDCH_FILT n).reg = 53 := A.SNS_SDCH_fam n
@[simp] theorem F.SNS_SDCH_CAPDLY_fam (n : Nat) : fam (F.SNS_SDCH_CAPDLY n).reg = 53 := A.SNS_SDCH_fam n
@[simp] theorem F.SNS_SDCH_OSR2_fam (n : Nat) : fam (F.SNS_SDCH_OSR2 n).reg = 53 := A.SNS_SDCH_fam n
@[simp] theorem F.SNS_SDCH_OSR3_fam (n : Nat) : fam (F.SNS_SDCH_OSR3 n).reg = 53 := A.SNS_SDCH_fam n
@[simp] theorem F.SNS_FTHR_HI_fam (n : Nat) : fam (F.SNS_FTHR_HI n).reg = 54 := A.SNS_FTHR_fam n
@[simp] theorem F.SNS_FTHR_LO_fam (n : Nat) : fam (F.SNS_FTHR_LO n).reg = 54 := A.SNS_FTHR_fam n
@[simp] theorem F.SNS_SAR_WIN_W_NOW_fam : fam (F.SNS_SAR_WIN_W_NOW).reg = 55 := A.SNS_SAR_WIN_fam
@[simp] theorem F.SNS_SAR_WIN_W_TB4_fam : fam (F.SNS_SAR_WIN_W_TB4).reg = 55 := A.SNS_SAR_WIN_fam
@[simp] theorem F.SNS_SAR_WIN_W_TB3_fam : fam (F.SNS_SAR_WIN_W_TB3).reg = 55 := A.SNS_SAR_WIN_fam
@[simp] theorem F.SNS_SAR_WIN_W_TB2_fam : fam (F.SNS_SAR_WIN_W_TB2).reg = 55 := A.SNS_SAR_WIN_fam
@[simp] theorem F.SNS_SAR_WIN_W_TB1_fam : fam (F.SNS_SAR_WIN_W_TB1).reg = 55 := A.SNS_SAR_WIN_fam
@[simp] theorem F.SNS_SAR_WIN_W_TB0_fam : fam (F.SNS_SAR_WIN_W_TB0).reg = 55 := A.SNS_SAR_WIN_fam
@[simp] theorem F.SNS_SEQ_REP3_fam (n : Nat) : fam (F.SNS_SEQ_REP3 n).reg = 56 := A.SNS_SEQ_fam n
@[simp] theorem F.SNS_SEQ_SEL3_fam (n : Nat) : fam (F.SNS_SEQ_SEL3 n).reg = 56 := A.SNS_SEQ_fam n
@[simp] theorem F.SNS_SEQ_REP2_fam (n : Nat) : fam (F.SNS_SEQ_REP2 n).reg = 56 := A.SNS_SEQ_fam n
@[simp] theorem F.SNS_SEQ_SEL2_fam (n : Nat) : fam (F.SNS_SEQ_SEL2 n).reg = 56 := A.SNS_SEQ_fam n
@[simp] theorem F.SNS_SEQ_REP1_fam (n : Nat) : fam (F.SNS_SEQ_REP1 n).reg = 56 := A.SNS_SEQ_fam n
@[simp] theorem F.SNS_SEQ_SEL1_fam (n : Nat) : fam (F.SNS_SEQ_SEL1 n).reg = 56 := A.SNS_SEQ_fam n
@[simp] theorem F.SNS_SEQ_REP0_fam (n : Nat) : fam (F.SNS_SEQ_REP0 n).reg = 56 := A.SNS_SEQ_fam n
@[simp] theorem F.SNS_SEQ_SEL0_fam (n : Nat) : fam (F.SNS_SEQ_SEL0 n).reg = 56 := A.SNS_SEQ_fam n
@[simp] theorem F.SNS_MAP_AUX_fam (x : Axis) : fam (F.SNS_MAP_AUX x).reg = 57 := A.SNS_MAP_fam x
@[simp] theorem F.SNS_MAP_IBRK_fam (x : Axis) : fam (F.SNS_MAP_IBRK x).reg = 57 := A.SNS_MAP_fam x
@[simp] theorem F.SNS_MAP_VBUS_fam (x : Axis) : fam (F.SNS_MAP_VBUS x).reg = 57 := A.SNS_MAP_fam x
@[simp] theorem F.SNS_MAP_IW_fam (x : Axis) : fam (F.SNS_MAP_IW x).reg = 57 := A.SNS_MAP_fam x
@[simp] theorem F.SNS_MAP_IV_fam (x : Axis) : fam (F.SNS_MAP_IV x).reg = 57 := A.SNS_MAP_fam x
@[simp] theorem F.SNS_MAP_IU_fam (x : Axis) : fam (F.SNS_MAP_IU x).reg = 57 := A.SNS_MAP_fam x
@[simp] theorem F.SNS_TOPO_TOPO_B_fam : fam (F.SNS_TOPO_TOPO_B).reg = 58 := A.SNS_TOPO_fam
@[simp] theorem F.SNS_TOPO_TOPO_A_fam : fam (F.SNS_TOPO_TOPO_A).reg = 58 := A.SNS_TOPO_fam
@[simp] theorem F.SNS_STAT_STUCK_fam : fam (F.SNS_STAT_STUCK).reg = 59 := A.SNS_STAT_fam
@[simp] theorem F.SNS_STAT_FTRIP_fam : fam (F.SNS_STAT_FTRIP).reg = 59 := A.SNS_STAT_fam
@[simp] theorem F.SNS_STAT_SUMERR_B_fam : fam (F.SNS_STAT_SUMERR_B).reg = 59 := A.SNS_STAT_fam
@[simp] theorem F.SNS_STAT_SUMERR_A_fam : fam (F.SNS_STAT_SUMERR_A).reg = 59 := A.SNS_STAT_fam
@[simp] theorem F.SNS_STAT_WAIT_B_fam : fam (F.SNS_STAT_WAIT_B).reg = 59 := A.SNS_STAT_fam
@[simp] theorem F.SNS_STAT_WAIT_A_fam : fam (F.SNS_STAT_WAIT_A).reg = 59 := A.SNS_STAT_fam
@[simp] theorem F.SNS_STAT_STALE_B_fam : fam (F.SNS_STAT_STALE_B).reg = 59 := A.SNS_STAT_fam
@[simp] theorem F.SNS_STAT_STALE_A_fam : fam (F.SNS_STAT_STALE_A).reg = 59 := A.SNS_STAT_fam
@[simp] theorem F.SNS_CNT_STALE_fam (x : Axis) : fam (F.SNS_CNT_STALE x).reg = 60 := A.SNS_CNT_fam x
@[simp] theorem F.SNS_CNT_WAIT_fam (x : Axis) : fam (F.SNS_CNT_WAIT x).reg = 60 := A.SNS_CNT_fam x
@[simp] theorem F.SNS_CNT_RECON_fam (x : Axis) : fam (F.SNS_CNT_RECON x).reg = 60 := A.SNS_CNT_fam x
@[simp] theorem F.SNS_CAL_GAIN_fam (n : Nat) : fam (F.SNS_CAL_GAIN n).reg = 61 := A.SNS_CAL_fam n
@[simp] theorem F.SNS_CAL_OFS_fam (n : Nat) : fam (F.SNS_CAL_OFS n).reg = 61 := A.SNS_CAL_fam n
@[simp] theorem F.SNS_DTD_NEG_fam (n : Nat) : fam (F.SNS_DTD_NEG n).reg = 62 := A.SNS_DTD_fam n
@[simp] theorem F.SNS_DTD_POS_fam (n : Nat) : fam (F.SNS_DTD_POS n).reg = 62 := A.SNS_DTD_fam n
@[simp] theorem F.SNS_CNT_CLR_DTD_fam : fam (F.SNS_CNT_CLR_DTD).reg = 63 := A.SNS_CNT_CLR_fam
@[simp] theorem F.SNS_CNT_CLR_CNT_B_fam : fam (F.SNS_CNT_CLR_CNT_B).reg = 63 := A.SNS_CNT_CLR_fam
@[simp] theorem F.SNS_CNT_CLR_CNT_A_fam : fam (F.SNS_CNT_CLR_CNT_A).reg = 63 := A.SNS_CNT_CLR_fam
@[simp] theorem F.HAH_CMP_ROUTE_HI_fam (n : Nat) : fam (F.HAH_CMP_ROUTE_HI n).reg = 64 := A.HAH_CMP_fam n
@[simp] theorem F.HAH_CMP_ROUTE_LO_fam (n : Nat) : fam (F.HAH_CMP_ROUTE_LO n).reg = 64 := A.HAH_CMP_fam n
@[simp] theorem F.HAH_CMP_HYST_fam (n : Nat) : fam (F.HAH_CMP_HYST n).reg = 64 := A.HAH_CMP_fam n
@[simp] theorem F.HAH_CMP_FILT_fam (n : Nat) : fam (F.HAH_CMP_FILT n).reg = 64 := A.HAH_CMP_fam n
@[simp] theorem F.HAH_CMP_SEL_fam (n : Nat) : fam (F.HAH_CMP_SEL n).reg = 64 := A.HAH_CMP_fam n
@[simp] theorem F.HAH_THR_HI_fam (n : Nat) : fam (F.HAH_THR_HI n).reg = 65 := A.HAH_THR_fam n
@[simp] theorem F.HAH_THR_LO_fam (n : Nat) : fam (F.HAH_THR_LO n).reg = 65 := A.HAH_THR_fam n
@[simp] theorem F.HAH_RAMP_MAX_fam (x : Axis) : fam (F.HAH_RAMP_MAX x).reg = 66 := A.HAH_RAMP_fam x
@[simp] theorem F.HAH_RAMP_SLOPE_fam (x : Axis) : fam (F.HAH_RAMP_SLOPE x).reg = 66 := A.HAH_RAMP_fam x
@[simp] theorem F.HAH_STATE_TRIPPED_fam : fam (F.HAH_STATE_TRIPPED).reg = 67 := A.HAH_STATE_fam
@[simp] theorem F.HAH_STICKY_HI_fam : fam (F.HAH_STICKY_HI).reg = 68 := A.HAH_STICKY_fam
@[simp] theorem F.HAH_STICKY_LO_fam : fam (F.HAH_STICKY_LO).reg = 68 := A.HAH_STICKY_fam
@[simp] theorem F.HAH_RB_CFG_TOL_fam : fam (F.HAH_RB_CFG_TOL).reg = 69 := A.HAH_RB_CFG_fam
@[simp] theorem F.HAH_RB_CFG_EN_fam : fam (F.HAH_RB_CFG_EN).reg = 69 := A.HAH_RB_CFG_fam
@[simp] theorem F.HAH_RB_STAT_PASSES_fam : fam (F.HAH_RB_STAT_PASSES).reg = 70 := A.HAH_RB_STAT_fam
@[simp] theorem F.HAH_RB_STAT_ERR_fam : fam (F.HAH_RB_STAT_ERR).reg = 70 := A.HAH_RB_STAT_fam
@[simp] theorem F.HAH_CBC_CNT_B_fam : fam (F.HAH_CBC_CNT_B).reg = 71 := A.HAH_CBC_CNT_fam
@[simp] theorem F.HAH_CBC_CNT_A_fam : fam (F.HAH_CBC_CNT_A).reg = 71 := A.HAH_CBC_CNT_fam
@[simp] theorem F.HAH_HALL_CFG_INV_fam (x : Axis) : fam (F.HAH_HALL_CFG_INV x).reg = 72 := A.HAH_HALL_CFG_fam x
@[simp] theorem F.HAH_HALL_CFG_FILT_fam (x : Axis) : fam (F.HAH_HALL_CFG_FILT x).reg = 72 := A.HAH_HALL_CFG_fam x
@[simp] theorem F.HAH_HALL_ST_SKIPS_fam (x : Axis) : fam (F.HAH_HALL_ST_SKIPS x).reg = 73 := A.HAH_HALL_ST_fam x
@[simp] theorem F.HAH_HALL_ST_INVALIDS_fam (x : Axis) : fam (F.HAH_HALL_ST_INVALIDS x).reg = 73 := A.HAH_HALL_ST_fam x
@[simp] theorem F.HAH_HALL_ST_SKIP_fam (x : Axis) : fam (F.HAH_HALL_ST_SKIP x).reg = 73 := A.HAH_HALL_ST_fam x
@[simp] theorem F.HAH_HALL_ST_INVCODE_fam (x : Axis) : fam (F.HAH_HALL_ST_INVCODE x).reg = 73 := A.HAH_HALL_ST_fam x
@[simp] theorem F.HAH_HALL_ST_INVALID_fam (x : Axis) : fam (F.HAH_HALL_ST_INVALID x).reg = 73 := A.HAH_HALL_ST_fam x
@[simp] theorem F.HAH_HALL_ST_SECTOR_fam (x : Axis) : fam (F.HAH_HALL_ST_SECTOR x).reg = 73 := A.HAH_HALL_ST_fam x
@[simp] theorem F.HAH_HALL_ST_CODE_fam (x : Axis) : fam (F.HAH_HALL_ST_CODE x).reg = 73 := A.HAH_HALL_ST_fam x
@[simp] theorem F.HAH_ENC_CFG_INV_fam (x : Axis) : fam (F.HAH_ENC_CFG_INV x).reg = 74 := A.HAH_ENC_CFG_fam x
@[simp] theorem F.HAH_ENC_CFG_DIRINV_fam (x : Axis) : fam (F.HAH_ENC_CFG_DIRINV x).reg = 74 := A.HAH_ENC_CFG_fam x
@[simp] theorem F.HAH_ENC_CFG_ZGATE_fam (x : Axis) : fam (F.HAH_ENC_CFG_ZGATE x).reg = 74 := A.HAH_ENC_CFG_fam x
@[simp] theorem F.HAH_ENC_CFG_FILT_fam (x : Axis) : fam (F.HAH_ENC_CFG_FILT x).reg = 74 := A.HAH_ENC_CFG_fam x
@[simp] theorem F.HAH_ENC_CNT_COUNT_fam (x : Axis) : fam (F.HAH_ENC_CNT_COUNT x).reg = 75 := A.HAH_ENC_CNT_fam x
@[simp] theorem F.HAH_ENC_ST_ERRS_fam (x : Axis) : fam (F.HAH_ENC_ST_ERRS x).reg = 76 := A.HAH_ENC_ST_fam x
@[simp] theorem F.HAH_ENC_ST_ZERRS_fam (x : Axis) : fam (F.HAH_ENC_ST_ZERRS x).reg = 76 := A.HAH_ENC_ST_fam x
@[simp] theorem F.HAH_ENC_ST_ZERR_fam (x : Axis) : fam (F.HAH_ENC_ST_ZERR x).reg = 76 := A.HAH_ENC_ST_fam x
@[simp] theorem F.HAH_ENC_ST_ERR_fam (x : Axis) : fam (F.HAH_ENC_ST_ERR x).reg = 76 := A.HAH_ENC_ST_fam x
@[simp] theorem F.HAH_ENC_ST_ZSEEN_fam (x : Axis) : fam (F.HAH_ENC_ST_ZSEEN x).reg = 76 := A.HAH_ENC_ST_fam x
@[simp] theorem F.HAH_ENC_ST_TRUSTED_fam (x : Axis) : fam (F.HAH_ENC_ST_TRUSTED x).reg = 76 := A.HAH_ENC_ST_fam x
@[simp] theorem F.HAH_CNT_CLR_ENC_B_fam : fam (F.HAH_CNT_CLR_ENC_B).reg = 77 := A.HAH_CNT_CLR_fam
@[simp] theorem F.HAH_CNT_CLR_ENC_A_fam : fam (F.HAH_CNT_CLR_ENC_A).reg = 77 := A.HAH_CNT_CLR_fam
@[simp] theorem F.HAH_CNT_CLR_HALL_B_fam : fam (F.HAH_CNT_CLR_HALL_B).reg = 77 := A.HAH_CNT_CLR_fam
@[simp] theorem F.HAH_CNT_CLR_HALL_A_fam : fam (F.HAH_CNT_CLR_HALL_A).reg = 77 := A.HAH_CNT_CLR_fam
@[simp] theorem F.HAH_CNT_CLR_RB_fam : fam (F.HAH_CNT_CLR_RB).reg = 77 := A.HAH_CNT_CLR_fam
@[simp] theorem F.HAH_CNT_CLR_CBC_fam : fam (F.HAH_CNT_CLR_CBC).reg = 77 := A.HAH_CNT_CLR_fam
@[simp] theorem F.MC_CMD_TAG_fam (x : Axis) : fam (F.MC_CMD_TAG x).reg = 78 := A.MC_CMD_fam x
@[simp] theorem F.MC_CMD_CODE_fam (x : Axis) : fam (F.MC_CMD_CODE x).reg = 78 := A.MC_CMD_fam x
@[simp] theorem F.MC_OWN_FW_fam (x : Axis) : fam (F.MC_OWN_FW x).reg = 79 := A.MC_OWN_fam x
@[simp] theorem F.MC_OWN_FLY_fam (x : Axis) : fam (F.MC_OWN_FLY x).reg = 79 := A.MC_OWN_fam x
@[simp] theorem F.MC_OWN_GATE_fam (x : Axis) : fam (F.MC_OWN_GATE x).reg = 79 := A.MC_OWN_fam x
@[simp] theorem F.MC_OWN_RETRY_fam (x : Axis) : fam (F.MC_OWN_RETRY x).reg = 79 := A.MC_OWN_fam x
@[simp] theorem F.MC_OWN_STOP_fam (x : Axis) : fam (F.MC_OWN_STOP x).reg = 79 := A.MC_OWN_fam x
@[simp] theorem F.MC_OWN_PROF_fam (x : Axis) : fam (F.MC_OWN_PROF x).reg = 79 := A.MC_OWN_fam x
@[simp] theorem F.MC_OWN_LOOP_fam (x : Axis) : fam (F.MC_OWN_LOOP x).reg = 79 := A.MC_OWN_fam x
@[simp] theorem F.MC_OWN_CUR_fam (x : Axis) : fam (F.MC_OWN_CUR x).reg = 79 := A.MC_OWN_fam x
@[simp] theorem F.MC_OWN_OBS_fam (x : Axis) : fam (F.MC_OWN_OBS x).reg = 79 := A.MC_OWN_fam x
@[simp] theorem F.MC_OWN_START_fam (x : Axis) : fam (F.MC_OWN_START x).reg = 79 := A.MC_OWN_fam x
@[simp] theorem F.MC_STATE_TAG_fam (x : Axis) : fam (F.MC_STATE_TAG x).reg = 80 := A.MC_STATE_fam x
@[simp] theorem F.MC_STATE_RESULT_fam (x : Axis) : fam (F.MC_STATE_RESULT x).reg = 80 := A.MC_STATE_fam x
@[simp] theorem F.MC_STATE_SRC_fam (x : Axis) : fam (F.MC_STATE_SRC x).reg = 80 := A.MC_STATE_fam x
@[simp] theorem F.MC_STATE_PREV_fam (x : Axis) : fam (F.MC_STATE_PREV x).reg = 80 := A.MC_STATE_fam x
@[simp] theorem F.MC_STATE_ABOVE_ASC_fam (x : Axis) : fam (F.MC_STATE_ABOVE_ASC x).reg = 80 := A.MC_STATE_fam x
@[simp] theorem F.MC_STATE_FW_ACTIVE_fam (x : Axis) : fam (F.MC_STATE_FW_ACTIVE x).reg = 80 := A.MC_STATE_fam x
@[simp] theorem F.MC_STATE_POS_TRUSTED_fam (x : Axis) : fam (F.MC_STATE_POS_TRUSTED x).reg = 80 := A.MC_STATE_fam x
@[simp] theorem F.MC_STATE_BRIDGE_EN_fam (x : Axis) : fam (F.MC_STATE_BRIDGE_EN x).reg = 80 := A.MC_STATE_fam x
@[simp] theorem F.MC_STATE_STATE_fam (x : Axis) : fam (F.MC_STATE_STATE x).reg = 80 := A.MC_STATE_fam x
@[simp] theorem F.MC_MODE_REV_THRU_fam (x : Axis) : fam (F.MC_MODE_REV_THRU x).reg = 81 := A.MC_MODE_fam x
@[simp] theorem F.MC_MODE_MTPA_EN_fam (x : Axis) : fam (F.MC_MODE_MTPA_EN x).reg = 81 := A.MC_MODE_fam x
@[simp] theorem F.MC_MODE_FW_EN_fam (x : Axis) : fam (F.MC_MODE_FW_EN x).reg = 81 := A.MC_MODE_fam x
@[simp] theorem F.MC_MODE_POS_LOSS_fam (x : Axis) : fam (F.MC_MODE_POS_LOSS x).reg = 81 := A.MC_MODE_fam x
@[simp] theorem F.MC_MODE_STOP_MODE_fam (x : Axis) : fam (F.MC_MODE_STOP_MODE x).reg = 81 := A.MC_MODE_fam x
@[simp] theorem F.MC_MODE_REF_fam (x : Axis) : fam (F.MC_MODE_REF x).reg = 81 := A.MC_MODE_fam x
@[simp] theorem F.MC_MODE_CTRL_fam (x : Axis) : fam (F.MC_MODE_CTRL x).reg = 81 := A.MC_MODE_fam x
@[simp] theorem F.MC_SPD_SET_fam (x : Axis) : fam (F.MC_SPD_SET x).reg = 82 := A.MC_SPD_SET_fam x
@[simp] theorem F.MC_TRQ_SET_fam (x : Axis) : fam (F.MC_TRQ_SET x).reg = 83 := A.MC_TRQ_SET_fam x
@[simp] theorem F.MC_SPD_ACT_fam (x : Axis) : fam (F.MC_SPD_ACT x).reg = 84 := A.MC_SPD_ACT_fam x
@[simp] theorem F.MC_LIMIT_LIMITED_fam (x : Axis) : fam (F.MC_LIMIT_LIMITED x).reg = 85 := A.MC_LIMIT_fam x
@[simp] theorem F.MC_LIMIT_REASON_fam (x : Axis) : fam (F.MC_LIMIT_REASON x).reg = 85 := A.MC_LIMIT_fam x
@[simp] theorem F.MC_LIMIT_SEEN_fam (x : Axis) : fam (F.MC_LIMIT_SEEN x).reg = 85 := A.MC_LIMIT_fam x
@[simp] theorem F.MC_FW_ONSET_fam (x : Axis) : fam (F.MC_FW_ONSET x).reg = 86 := A.MC_FW_ONSET_fam x
@[simp] theorem F.MC_MOD_fam (x : Axis) : fam (F.MC_MOD x).reg = 87 := A.MC_MOD_fam x
@[simp] theorem F.MC_ASC_SPD_fam (x : Axis) : fam (F.MC_ASC_SPD x).reg = 88 := A.MC_ASC_SPD_fam x
@[simp] theorem F.MC_E_MOT_fam (x : Axis) : fam (F.MC_E_MOT x).reg = 89 := A.MC_E_MOT_fam x
@[simp] theorem F.MC_E_REGEN_fam (x : Axis) : fam (F.MC_E_REGEN x).reg = 90 := A.MC_E_REGEN_fam x
@[simp] theorem F.MC_RUNTIME_fam (x : Axis) : fam (F.MC_RUNTIME x).reg = 91 := A.MC_RUNTIME_fam x
@[simp] theorem F.MC_STARTS_fam (x : Axis) : fam (F.MC_STARTS x).reg = 92 := A.MC_STARTS_fam x
@[simp] theorem F.MC_CNT_CLR_KEY_fam (x : Axis) : fam (F.MC_CNT_CLR_KEY x).reg = 93 := A.MC_CNT_CLR_fam x
@[simp] theorem F.MC_CNT_CLR_STARTS_fam (x : Axis) : fam (F.MC_CNT_CLR_STARTS x).reg = 93 := A.MC_CNT_CLR_fam x
@[simp] theorem F.MC_CNT_CLR_RUNTIME_fam (x : Axis) : fam (F.MC_CNT_CLR_RUNTIME x).reg = 93 := A.MC_CNT_CLR_fam x
@[simp] theorem F.MC_CNT_CLR_E_REGEN_fam (x : Axis) : fam (F.MC_CNT_CLR_E_REGEN x).reg = 93 := A.MC_CNT_CLR_fam x
@[simp] theorem F.MC_CNT_CLR_E_MOT_fam (x : Axis) : fam (F.MC_CNT_CLR_E_MOT x).reg = 93 := A.MC_CNT_CLR_fam x
@[simp] theorem F.MC_X_OMEGA_fam (x : Axis) : fam (F.MC_X_OMEGA x).reg = 94 := A.MC_X_OMEGA_fam x
@[simp] theorem F.MC_X_THETA_fam (x : Axis) : fam (F.MC_X_THETA x).reg = 95 := A.MC_X_THETA_fam x
@[simp] theorem F.MC_X_ID_FW_fam (x : Axis) : fam (F.MC_X_ID_FW x).reg = 96 := A.MC_X_ID_FW_fam x
@[simp] theorem F.MC_X_FW_KI_fam (x : Axis) : fam (F.MC_X_FW_KI x).reg = 97 := A.MC_X_FW_KI_fam x
@[simp] theorem F.MC_X_FW_IDMIN_fam (x : Axis) : fam (F.MC_X_FW_IDMIN x).reg = 98 := A.MC_X_FW_IDMIN_fam x
@[simp] theorem F.MC_X_FW_MODMAX_fam (x : Axis) : fam (F.MC_X_FW_MODMAX x).reg = 99 := A.MC_X_FW_MODMAX_fam x
@[simp] theorem F.MC_BLV_STAT_SUP_fam (x : Axis) : fam (F.MC_BLV_STAT_SUP x).reg = 100 := A.MC_BLV_STAT_fam x
@[simp] theorem F.MC_BLV_STAT_AGREE_fam (x : Axis) : fam (F.MC_BLV_STAT_AGREE x).reg = 100 := A.MC_BLV_STAT_fam x
@[simp] theorem F.MC_BLV_STAT_INJ_AVAIL_fam (x : Axis) : fam (F.MC_BLV_STAT_INJ_AVAIL x).reg = 100 := A.MC_BLV_STAT_fam x
@[simp] theorem F.MC_BLV_STAT_EXTRAP_fam (x : Axis) : fam (F.MC_BLV_STAT_EXTRAP x).reg = 100 := A.MC_BLV_STAT_fam x
@[simp] theorem F.MC_BLV_STAT_INJ_ON_fam (x : Axis) : fam (F.MC_BLV_STAT_INJ_ON x).reg = 100 := A.MC_BLV_STAT_fam x
@[simp] theorem F.MC_BLV_STAT_RUNNING_fam (x : Axis) : fam (F.MC_BLV_STAT_RUNNING x).reg = 100 := A.MC_BLV_STAT_fam x
@[simp] theorem F.MC_BLV_STAT_W_fam (x : Axis) : fam (F.MC_BLV_STAT_W x).reg = 100 := A.MC_BLV_STAT_fam x
@[simp] theorem F.MC_BLV_CTRL_CNT_CLR_fam (x : Axis) : fam (F.MC_BLV_CTRL_CNT_CLR x).reg = 101 := A.MC_BLV_CTRL_fam x
@[simp] theorem F.MC_BLV_CTRL_LOSS_FLY_fam (x : Axis) : fam (F.MC_BLV_CTRL_LOSS_FLY x).reg = 101 := A.MC_BLV_CTRL_fam x
@[simp] theorem F.MC_BLV_CTRL_OBS_PAR_fam (x : Axis) : fam (F.MC_BLV_CTRL_OBS_PAR x).reg = 101 := A.MC_BLV_CTRL_fam x
@[simp] theorem F.MC_BLV_CTRL_INJ_EN_fam (x : Axis) : fam (F.MC_BLV_CTRL_INJ_EN x).reg = 101 := A.MC_BLV_CTRL_fam x
@[simp] theorem F.MC_BLV_CTRL_FLY_EN_fam (x : Axis) : fam (F.MC_BLV_CTRL_FLY_EN x).reg = 101 := A.MC_BLV_CTRL_fam x
@[simp] theorem F.MC_BLV_CTRL_START_METHOD_fam (x : Axis) : fam (F.MC_BLV_CTRL_START_METHOD x).reg = 101 := A.MC_BLV_CTRL_fam x
@[simp] theorem F.MC_BLV_EVT_FLY_FAIL_fam (x : Axis) : fam (F.MC_BLV_EVT_FLY_FAIL x).reg = 102 := A.MC_BLV_EVT_fam x
@[simp] theorem F.MC_BLV_EVT_START_FAIL_fam (x : Axis) : fam (F.MC_BLV_EVT_START_FAIL x).reg = 102 := A.MC_BLV_EVT_fam x
@[simp] theorem F.MC_BLV_EVT_STALL_fam (x : Axis) : fam (F.MC_BLV_EVT_STALL x).reg = 102 := A.MC_BLV_EVT_fam x
@[simp] theorem F.MC_BLV_EVT_EXTRAP_SEEN_fam (x : Axis) : fam (F.MC_BLV_EVT_EXTRAP_SEEN x).reg = 102 := A.MC_BLV_EVT_fam x
@[simp] theorem F.MC_BLV_EVT_LOST_fam (x : Axis) : fam (F.MC_BLV_EVT_LOST x).reg = 102 := A.MC_BLV_EVT_fam x
@[simp] theorem F.MC_BLV_EVT_REACQ_fam (x : Axis) : fam (F.MC_BLV_EVT_REACQ x).reg = 102 := A.MC_BLV_EVT_fam x
@[simp] theorem F.MC_BLV_EVT_SUSPECT_fam (x : Axis) : fam (F.MC_BLV_EVT_SUSPECT x).reg = 102 := A.MC_BLV_EVT_fam x
@[simp] theorem F.MC_BLV_CNT_REACQ_fam (x : Axis) : fam (F.MC_BLV_CNT_REACQ x).reg = 103 := A.MC_BLV_CNT_fam x
@[simp] theorem F.MC_BLV_CNT_LOST_fam (x : Axis) : fam (F.MC_BLV_CNT_LOST x).reg = 103 := A.MC_BLV_CNT_fam x
@[simp] theorem F.MC_BLV_CNT_FLY_fam (x : Axis) : fam (F.MC_BLV_CNT_FLY x).reg = 103 := A.MC_BLV_CNT_fam x
@[simp] theorem F.MC_BLV_CNT_START_FAIL_fam (x : Axis) : fam (F.MC_BLV_CNT_START_FAIL x).reg = 103 := A.MC_BLV_CNT_fam x
@[simp] theorem F.MC_START_DIAG_FLY_fam (x : Axis) : fam (F.MC_START_DIAG_FLY x).reg = 104 := A.MC_START_DIAG_fam x
@[simp] theorem F.MC_START_DIAG_TRIES_fam (x : Axis) : fam (F.MC_START_DIAG_TRIES x).reg = 104 := A.MC_START_DIAG_fam x
@[simp] theorem F.MC_START_DIAG_DETAIL_fam (x : Axis) : fam (F.MC_START_DIAG_DETAIL x).reg = 104 := A.MC_START_DIAG_fam x
@[simp] theorem F.MC_ID_CTRL_SECT_fam (x : Axis) : fam (F.MC_ID_CTRL_SECT x).reg = 105 := A.MC_ID_CTRL_fam x
@[simp] theorem F.MC_ID_CTRL_STAGE_fam (x : Axis) : fam (F.MC_ID_CTRL_STAGE x).reg = 105 := A.MC_ID_CTRL_fam x
@[simp] theorem F.MC_ID_CTRL_LOCKED_fam (x : Axis) : fam (F.MC_ID_CTRL_LOCKED x).reg = 105 := A.MC_ID_CTRL_fam x
@[simp] theorem F.MC_ID_CTRL_TESTS_fam (x : Axis) : fam (F.MC_ID_CTRL_TESTS x).reg = 105 := A.MC_ID_CTRL_fam x
@[simp] theorem F.MC_ID_CTRL_ON_START_fam (x : Axis) : fam (F.MC_ID_CTRL_ON_START x).reg = 105 := A.MC_ID_CTRL_fam x
@[simp] theorem F.MC_ID_STAT_RESULT_fam (x : Axis) : fam (F.MC_ID_STAT_RESULT x).reg = 106 := A.MC_ID_STAT_fam x
@[simp] theorem F.MC_ID_STAT_TEST_fam (x : Axis) : fam (F.MC_ID_STAT_TEST x).reg = 106 := A.MC_ID_STAT_fam x
@[simp] theorem F.MC_ID_STAT_STAGED_fam (x : Axis) : fam (F.MC_ID_STAT_STAGED x).reg = 106 := A.MC_ID_STAT_fam x
@[simp] theorem F.MC_X_THETA_B_fam (x : Axis) : fam (F.MC_X_THETA_B x).reg = 107 := A.MC_X_THETA_B_fam x
@[simp] theorem F.MC_X_THETA_F_fam (x : Axis) : fam (F.MC_X_THETA_F x).reg = 108 := A.MC_X_THETA_F_fam x
@[simp] theorem F.MC_X_THETA_H_fam (x : Axis) : fam (F.MC_X_THETA_H x).reg = 109 := A.MC_X_THETA_H_fam x
@[simp] theorem F.MC_X_DISAGREE_fam (x : Axis) : fam (F.MC_X_DISAGREE x).reg = 110 := A.MC_X_DISAGREE_fam x
@[simp] theorem F.MC_X_RESID_fam (x : Axis) : fam (F.MC_X_RESID x).reg = 111 := A.MC_X_RESID_fam x
@[simp] theorem F.MC_X_TLOAD_fam (x : Axis) : fam (F.MC_X_TLOAD x).reg = 112 := A.MC_X_TLOAD_fam x
@[simp] theorem F.MC_X_PLL_KP_fam (x : Axis) : fam (F.MC_X_PLL_KP x).reg = 113 := A.MC_X_PLL_KP_fam x
@[simp] theorem F.MC_X_PLL_KI_fam (x : Axis) : fam (F.MC_X_PLL_KI x).reg = 114 := A.MC_X_PLL_KI_fam x
@[simp] theorem F.MC_X_DIS_BAND_fam (x : Axis) : fam (F.MC_X_DIS_BAND x).reg = 115 := A.MC_X_DIS_BAND_fam x
@[simp] theorem F.MC_X_RES_BAND_fam (x : Axis) : fam (F.MC_X_RES_BAND x).reg = 116 := A.MC_X_RES_BAND_fam x
@[simp] theorem F.MC_ID_RS_fam (x : Axis) : fam (F.MC_ID_RS x).reg = 117 := A.MC_ID_RS_fam x
@[simp] theorem F.MC_ID_LD0_fam (x : Axis) : fam (F.MC_ID_LD0 x).reg = 118 := A.MC_ID_LD0_fam x
@[simp] theorem F.MC_ID_LQ0_fam (x : Axis) : fam (F.MC_ID_LQ0 x).reg = 119 := A.MC_ID_LQ0_fam x
@[simp] theorem F.MC_ID_PSI_fam (x : Axis) : fam (F.MC_ID_PSI x).reg = 120 := A.MC_ID_PSI_fam x
@[simp] theorem F.MC_ID_J_fam (x : Axis) : fam (F.MC_ID_J x).reg = 121 := A.MC_ID_J_fam x
@[simp] theorem F.MC_ID_TLOAD_fam (x : Axis) : fam (F.MC_ID_TLOAD x).reg = 122 := A.MC_ID_TLOAD_fam x
@[simp] theorem F.MC_ID_TEMP_fam (x : Axis) : fam (F.MC_ID_TEMP x).reg = 123 := A.MC_ID_TEMP_fam x
@[simp] theorem F.MC_BANK_fam (x : Axis) (c i : Nat) : fam (F.MC_BANK x c i).reg = 124 := A.MC_BANK_fam x c i
@[simp] theorem F.MC_C_X_IN_fam (x : Axis) (n : Nat) : fam (F.MC_C_X_IN x n).reg = 125 := A.MC_C_X_IN_fam x n
@[simp] theorem F.MC_C_X_OUT_fam (x : Axis) (n : Nat) : fam (F.MC_C_X_OUT x n).reg = 126 := A.MC_C_X_OUT_fam x n
@[simp] theorem F.MC_SWAP_REQ_fam (x : Axis) : fam (F.MC_SWAP_REQ x).reg = 127 := A.MC_SWAP_fam x
@[simp] theorem F.MC_SWAP_STAT_REFUSED_fam (x : Axis) : fam (F.MC_SWAP_STAT_REFUSED x).reg = 128 := A.MC_SWAP_STAT_fam x
@[simp] theorem F.MC_SWAP_STAT_RESULT_fam (x : Axis) : fam (F.MC_SWAP_STAT_RESULT x).reg = 128 := A.MC_SWAP_STAT_fam x
@[simp] theorem F.MC_SWAP_STAT_COMP_fam (x : Axis) : fam (F.MC_SWAP_STAT_COMP x).reg = 128 := A.MC_SWAP_STAT_fam x
@[simp] theorem F.MC_SWAP_STAT_ACTIVE_fam (x : Axis) : fam (F.MC_SWAP_STAT_ACTIVE x).reg = 128 := A.MC_SWAP_STAT_fam x
@[simp] theorem F.MC_CMP_GRP_FORM_fam (x : Axis) : fam (F.MC_CMP_GRP_FORM x).reg = 129 := A.MC_CMP_GRP_fam x
@[simp] theorem F.MC_CMP_GRP_GRP_fam (x : Axis) : fam (F.MC_CMP_GRP_GRP x).reg = 129 := A.MC_CMP_GRP_fam x
@[simp] theorem F.MC_CUR_CTRL_FF_EN_fam (x : Axis) : fam (F.MC_CUR_CTRL_FF_EN x).reg = 130 := A.MC_CUR_CTRL_fam x
@[simp] theorem F.MC_LOOP_EN_TT_fam (x : Axis) : fam (F.MC_LOOP_EN_TT x).reg = 131 := A.MC_LOOP_EN_fam x
@[simp] theorem F.MC_LOOP_EN_TH_fam (x : Axis) : fam (F.MC_LOOP_EN_TH x).reg = 131 := A.MC_LOOP_EN_fam x
@[simp] theorem F.MC_LOOP_EN_IM_fam (x : Axis) : fam (F.MC_LOOP_EN_IM x).reg = 131 := A.MC_LOOP_EN_fam x
@[simp] theorem F.MC_LOOP_EN_PW_fam (x : Axis) : fam (F.MC_LOOP_EN_PW x).reg = 131 := A.MC_LOOP_EN_fam x
@[simp] theorem F.MC_LOOP_EN_BV_fam (x : Axis) : fam (F.MC_LOOP_EN_BV x).reg = 131 := A.MC_LOOP_EN_fam x
@[simp] theorem F.MC_LOOP_EN_SP_fam (x : Axis) : fam (F.MC_LOOP_EN_SP x).reg = 131 := A.MC_LOOP_EN_fam x
@[simp] theorem F.MC_LOOP_DIV_TT_fam (x : Axis) : fam (F.MC_LOOP_DIV_TT x).reg = 132 := A.MC_LOOP_DIV_fam x
@[simp] theorem F.MC_LOOP_DIV_TH_fam (x : Axis) : fam (F.MC_LOOP_DIV_TH x).reg = 132 := A.MC_LOOP_DIV_fam x
@[simp] theorem F.MC_LOOP_DIV_PW_fam (x : Axis) : fam (F.MC_LOOP_DIV_PW x).reg = 132 := A.MC_LOOP_DIV_fam x
@[simp] theorem F.MC_LOOP_DIV_BV_fam (x : Axis) : fam (F.MC_LOOP_DIV_BV x).reg = 132 := A.MC_LOOP_DIV_fam x
@[simp] theorem F.MC_LOOP_DIV_SP_fam (x : Axis) : fam (F.MC_LOOP_DIV_SP x).reg = 132 := A.MC_LOOP_DIV_fam x
@[simp] theorem F.MC_SEL_STAT_REGEN_fam (x : Axis) : fam (F.MC_SEL_STAT_REGEN x).reg = 133 := A.MC_SEL_STAT_fam x
@[simp] theorem F.MC_SEL_STAT_DIR_fam (x : Axis) : fam (F.MC_SEL_STAT_DIR x).reg = 133 := A.MC_SEL_STAT_fam x
@[simp] theorem F.MC_SEL_STAT_WIN_fam (x : Axis) : fam (F.MC_SEL_STAT_WIN x).reg = 133 := A.MC_SEL_STAT_fam x
@[simp] theorem F.MC_CMP_SAT_SAT_fam (x : Axis) : fam (F.MC_CMP_SAT_SAT x).reg = 134 := A.MC_CMP_SAT_fam x
@[simp] theorem F.MC_X_DEM_SP_fam (x : Axis) : fam (F.MC_X_DEM_SP x).reg = 135 := A.MC_X_DEM_SP_fam x
@[simp] theorem F.MC_X_LIM_BV_fam (x : Axis) : fam (F.MC_X_LIM_BV x).reg = 136 := A.MC_X_LIM_BV_fam x
@[simp] theorem F.MC_X_LIM_PW_fam (x : Axis) : fam (F.MC_X_LIM_PW x).reg = 137 := A.MC_X_LIM_PW_fam x
@[simp] theorem F.MC_X_LIM_IM_fam (x : Axis) : fam (F.MC_X_LIM_IM x).reg = 138 := A.MC_X_LIM_IM_fam x
@[simp] theorem F.MC_X_LIM_TH_fam (x : Axis) : fam (F.MC_X_LIM_TH x).reg = 139 := A.MC_X_LIM_TH_fam x
@[simp] theorem F.MC_X_LIM_TT_fam (x : Axis) : fam (F.MC_X_LIM_TT x).reg = 140 := A.MC_X_LIM_TT_fam x
@[simp] theorem F.MC_X_IM_PRE_fam (x : Axis) : fam (F.MC_X_IM_PRE x).reg = 141 := A.MC_X_IM_PRE_fam x
@[simp] theorem F.MC_X_IQ_REF_fam (x : Axis) : fam (F.MC_X_IQ_REF x).reg = 142 := A.MC_X_IQ_REF_fam x
@[simp] theorem F.MC_X_ID_REF_fam (x : Axis) : fam (F.MC_X_ID_REF x).reg = 143 := A.MC_X_ID_REF_fam x
@[simp] theorem F.MC_X_T_MOD_fam (x : Axis) : fam (F.MC_X_T_MOD x).reg = 144 := A.MC_X_T_MOD_fam x
@[simp] theorem F.MC_PRM_STAT_INPOS_fam (x : Axis) : fam (F.MC_PRM_STAT_INPOS x).reg = 145 := A.MC_PRM_STAT_fam x
@[simp] theorem F.MC_PRM_STAT_HELD_fam (x : Axis) : fam (F.MC_PRM_STAT_HELD x).reg = 145 := A.MC_PRM_STAT_fam x
@[simp] theorem F.MC_PRM_STAT_DONE_fam (x : Axis) : fam (F.MC_PRM_STAT_DONE x).reg = 145 := A.MC_PRM_STAT_fam x
@[simp] theorem F.MC_SPD_REF_fam (x : Axis) : fam (F.MC_SPD_REF x).reg = 146 := A.MC_SPD_REF_fam x
@[simp] theorem F.MC_X_OMEGA_REF_fam (x : Axis) : fam (F.MC_X_OMEGA_REF x).reg = 147 := A.MC_X_OMEGA_REF_fam x
@[simp] theorem F.MC_X_ACC_REF_fam (x : Axis) : fam (F.MC_X_ACC_REF x).reg = 148 := A.MC_X_ACC_REF_fam x
@[simp] theorem F.MC_X_ACC_MAX_fam (x : Axis) : fam (F.MC_X_ACC_MAX x).reg = 149 := A.MC_X_ACC_MAX_fam x
@[simp] theorem F.MC_X_DEC_MAX_fam (x : Axis) : fam (F.MC_X_DEC_MAX x).reg = 150 := A.MC_X_DEC_MAX_fam x
@[simp] theorem F.MC_X_JERK_MAX_fam (x : Axis) : fam (F.MC_X_JERK_MAX x).reg = 151 := A.MC_X_JERK_MAX_fam x
@[simp] theorem F.MC_POS_SET_T_fam (x : Axis) : fam (F.MC_POS_SET_T x).reg = 152 := A.MC_POS_SET_T_fam x
@[simp] theorem F.MC_POS_SET_F_fam (x : Axis) : fam (F.MC_POS_SET_F x).reg = 153 := A.MC_POS_SET_F_fam x
@[simp] theorem F.MC_POS_REF_T_fam (x : Axis) : fam (F.MC_POS_REF_T x).reg = 154 := A.MC_POS_REF_T_fam x
@[simp] theorem F.MC_POS_REF_F_fam (x : Axis) : fam (F.MC_POS_REF_F x).reg = 155 := A.MC_POS_REF_F_fam x
@[simp] theorem F.MC_POS_ACT_T_fam (x : Axis) : fam (F.MC_POS_ACT_T x).reg = 156 := A.MC_POS_ACT_T_fam x
@[simp] theorem F.MC_POS_ACT_F_fam (x : Axis) : fam (F.MC_POS_ACT_F x).reg = 157 := A.MC_POS_ACT_F_fam x
@[simp] theorem F.MC_PRM_CTRL_HOME_fam (x : Axis) : fam (F.MC_PRM_CTRL_HOME x).reg = 158 := A.MC_PRM_CTRL_fam x
@[simp] theorem F.MC_FOL_CFG_HOLD_fam (x : Axis) : fam (F.MC_FOL_CFG_HOLD x).reg = 159 := A.MC_FOL_CFG_fam x
@[simp] theorem F.MC_FOL_CFG_PRBS_N_fam (x : Axis) : fam (F.MC_FOL_CFG_PRBS_N x).reg = 159 := A.MC_FOL_CFG_fam x
@[simp] theorem F.MC_FOL_CFG_VAXIS_fam (x : Axis) : fam (F.MC_FOL_CFG_VAXIS x).reg = 159 := A.MC_FOL_CFG_fam x
@[simp] theorem F.MC_FOL_CFG_POINT_fam (x : Axis) : fam (F.MC_FOL_CFG_POINT x).reg = 159 := A.MC_FOL_CFG_fam x
@[simp] theorem F.MC_FOL_CFG_SIG_fam (x : Axis) : fam (F.MC_FOL_CFG_SIG x).reg = 159 := A.MC_FOL_CFG_fam x
@[simp] theorem F.MC_FOL_CNT_NSTEP_fam (x : Axis) : fam (F.MC_FOL_CNT_NSTEP x).reg = 160 := A.MC_FOL_CNT_fam x
@[simp] theorem F.MC_FOL_CNT_NREP_fam (x : Axis) : fam (F.MC_FOL_CNT_NREP x).reg = 160 := A.MC_FOL_CNT_fam x
@[simp] theorem F.MC_FOL_CNT_DWELL_fam (x : Axis) : fam (F.MC_FOL_CNT_DWELL x).reg = 160 := A.MC_FOL_CNT_fam x
@[simp] theorem F.MC_FOL_AMP_fam (x : Axis) : fam (F.MC_FOL_AMP x).reg = 161 := A.MC_FOL_AMP_fam x
@[simp] theorem F.MC_FOL_F0_fam (x : Axis) : fam (F.MC_FOL_F0 x).reg = 162 := A.MC_FOL_F0_fam x
@[simp] theorem F.MC_FOL_F1_fam (x : Axis) : fam (F.MC_FOL_F1 x).reg = 163 := A.MC_FOL_F1_fam x
@[simp] theorem F.MC_FOL_DUR_fam (x : Axis) : fam (F.MC_FOL_DUR x).reg = 164 := A.MC_FOL_DUR_fam x
@[simp] theorem F.MC_FOL_CTRL_CANCEL_fam (x : Axis) : fam (F.MC_FOL_CTRL_CANCEL x).reg = 165 := A.MC_FOL_CTRL_fam x
@[simp] theorem F.MC_FOL_CTRL_START_fam (x : Axis) : fam (F.MC_FOL_CTRL_START x).reg = 165 := A.MC_FOL_CTRL_fam x
@[simp] theorem F.MC_FOL_STAT_CLIPS_fam (x : Axis) : fam (F.MC_FOL_STAT_CLIPS x).reg = 166 := A.MC_FOL_STAT_fam x
@[simp] theorem F.MC_FOL_STAT_END_fam (x : Axis) : fam (F.MC_FOL_STAT_END x).reg = 166 := A.MC_FOL_STAT_fam x
@[simp] theorem F.MC_FOL_STAT_RESULT_fam (x : Axis) : fam (F.MC_FOL_STAT_RESULT x).reg = 166 := A.MC_FOL_STAT_fam x
@[simp] theorem F.MC_FOL_STAT_RUNNING_fam (x : Axis) : fam (F.MC_FOL_STAT_RUNNING x).reg = 166 := A.MC_FOL_STAT_fam x
@[simp] theorem F.MC_X_FOL_VAL_fam (x : Axis) : fam (F.MC_X_FOL_VAL x).reg = 167 := A.MC_X_FOL_VAL_fam x
@[simp] theorem F.MC_CAP_CFG_EVT_fam (x : Axis) : fam (F.MC_CAP_CFG_EVT x).reg = 168 := A.MC_CAP_CFG_fam x
@[simp] theorem F.MC_CAP_CFG_DEC_fam (x : Axis) : fam (F.MC_CAP_CFG_DEC x).reg = 168 := A.MC_CAP_CFG_fam x
@[simp] theorem F.MC_CAP_CFG_CH_fam (x : Axis) : fam (F.MC_CAP_CFG_CH x).reg = 168 := A.MC_CAP_CFG_fam x
@[simp] theorem F.MC_CAP_CFG_NSIG_fam (x : Axis) : fam (F.MC_CAP_CFG_NSIG x).reg = 168 := A.MC_CAP_CFG_fam x
@[simp] theorem F.MC_CAP_CFG_RING_fam (x : Axis) : fam (F.MC_CAP_CFG_RING x).reg = 168 := A.MC_CAP_CFG_fam x
@[simp] theorem F.MC_CAP_CFG_TRIG_fam (x : Axis) : fam (F.MC_CAP_CFG_TRIG x).reg = 168 := A.MC_CAP_CFG_fam x
@[simp] theorem F.MC_CAP_SEL_LO_fam (x : Axis) : fam (F.MC_CAP_SEL_LO x).reg = 169 := A.MC_CAP_SEL_LO_fam x
@[simp] theorem F.MC_CAP_SEL_HI_fam (x : Axis) : fam (F.MC_CAP_SEL_HI x).reg = 170 := A.MC_CAP_SEL_HI_fam x
@[simp] theorem F.MC_CAP_BASE_fam (x : Axis) : fam (F.MC_CAP_BASE x).reg = 171 := A.MC_CAP_BASE_fam x
@[simp] theorem F.MC_CAP_NSAMP_PRE_fam (x : Axis) : fam (F.MC_CAP_NSAMP_PRE x).reg = 172 := A.MC_CAP_NSAMP_fam x
@[simp] theorem F.MC_CAP_NSAMP_NSAMP_fam (x : Axis) : fam (F.MC_CAP_NSAMP_NSAMP x).reg = 172 := A.MC_CAP_NSAMP_fam x
@[simp] theorem F.MC_CAP_CTRL_TRIG_fam (x : Axis) : fam (F.MC_CAP_CTRL_TRIG x).reg = 173 := A.MC_CAP_CTRL_fam x
@[simp] theorem F.MC_CAP_CTRL_CANCEL_fam (x : Axis) : fam (F.MC_CAP_CTRL_CANCEL x).reg = 173 := A.MC_CAP_CTRL_fam x
@[simp] theorem F.MC_CAP_CTRL_ARM_fam (x : Axis) : fam (F.MC_CAP_CTRL_ARM x).reg = 173 := A.MC_CAP_CTRL_fam x
@[simp] theorem F.MC_CAP_STAT_DROPS_fam (x : Axis) : fam (F.MC_CAP_STAT_DROPS x).reg = 174 := A.MC_CAP_STAT_fam x
@[simp] theorem F.MC_CAP_STAT_END_fam (x : Axis) : fam (F.MC_CAP_STAT_END x).reg = 174 := A.MC_CAP_STAT_fam x
@[simp] theorem F.MC_CAP_STAT_RESULT_fam (x : Axis) : fam (F.MC_CAP_STAT_RESULT x).reg = 174 := A.MC_CAP_STAT_fam x
@[simp] theorem F.MC_CAP_STAT_TRIGGERED_fam (x : Axis) : fam (F.MC_CAP_STAT_TRIGGERED x).reg = 174 := A.MC_CAP_STAT_fam x
@[simp] theorem F.MC_CAP_STAT_RUNNING_fam (x : Axis) : fam (F.MC_CAP_STAT_RUNNING x).reg = 174 := A.MC_CAP_STAT_fam x
@[simp] theorem F.MC_CAP_COUNT_fam (x : Axis) : fam (F.MC_CAP_COUNT x).reg = 175 := A.MC_CAP_COUNT_fam x
@[simp] theorem F.MC_CAP_START_fam (x : Axis) : fam (F.MC_CAP_START x).reg = 176 := A.MC_CAP_START_fam x
@[simp] theorem F.TR_CFG_DB_fam (x : Axis) : fam (F.TR_CFG_DB x).reg = 177 := A.TR_CFG_fam x
@[simp] theorem F.TR_CFG_REF_EN_fam (x : Axis) : fam (F.TR_CFG_REF_EN x).reg = 177 := A.TR_CFG_fam x
@[simp] theorem F.TR_CFG_ADAPT_fam (x : Axis) : fam (F.TR_CFG_ADAPT x).reg = 177 := A.TR_CFG_fam x
@[simp] theorem F.TR_CFG_EXT_fam (x : Axis) : fam (F.TR_CFG_EXT x).reg = 177 := A.TR_CFG_fam x
@[simp] theorem F.TR_STAT_UNREACH_fam (x : Axis) : fam (F.TR_STAT_UNREACH x).reg = 178 := A.TR_STAT_fam x
@[simp] theorem F.TR_STAT_AT_LIMIT_fam (x : Axis) : fam (F.TR_STAT_AT_LIMIT x).reg = 178 := A.TR_STAT_fam x
@[simp] theorem F.TR_STAT_GOFF_ERR_fam (x : Axis) : fam (F.TR_STAT_GOFF_ERR x).reg = 178 := A.TR_STAT_fam x
@[simp] theorem F.TR_STAT_LINK_ERR_fam (x : Axis) : fam (F.TR_STAT_LINK_ERR x).reg = 178 := A.TR_STAT_fam x
@[simp] theorem F.TR_STAT_ILK_SEEN_fam (x : Axis) : fam (F.TR_STAT_ILK_SEEN x).reg = 178 := A.TR_STAT_fam x
@[simp] theorem F.TR_STAT_BS_UV_SEEN_fam (x : Axis) : fam (F.TR_STAT_BS_UV_SEEN x).reg = 178 := A.TR_STAT_fam x
@[simp] theorem F.TR_STAT_BS_UV_fam (x : Axis) : fam (F.TR_STAT_BS_UV x).reg = 178 := A.TR_STAT_fam x
@[simp] theorem F.TR_STAT_LINK_OK_fam (x : Axis) : fam (F.TR_STAT_LINK_OK x).reg = 178 := A.TR_STAT_fam x
@[simp] theorem F.TR_STAT_EXT_ACTIVE_fam (x : Axis) : fam (F.TR_STAT_EXT_ACTIVE x).reg = 178 := A.TR_STAT_fam x
@[simp] theorem F.TR_EDGE_TGT_OFF_fam (x : Axis) (n : Nat) : fam (F.TR_EDGE_TGT_OFF x n).reg = 179 := A.TR_EDGE_fam x n
@[simp] theorem F.TR_EDGE_TGT_ON_fam (x : Axis) (n : Nat) : fam (F.TR_EDGE_TGT_ON x n).reg = 179 := A.TR_EDGE_fam x n
@[simp] theorem F.TR_STR_L_SNK_fam (x : Axis) (n : Nat) : fam (F.TR_STR_L_SNK x n).reg = 180 := A.TR_STR_fam x n
@[simp] theorem F.TR_STR_L_SRC_fam (x : Axis) (n : Nat) : fam (F.TR_STR_L_SRC x n).reg = 180 := A.TR_STR_fam x n
@[simp] theorem F.TR_STR_H_SNK_fam (x : Axis) (n : Nat) : fam (F.TR_STR_H_SNK x n).reg = 180 := A.TR_STR_fam x n
@[simp] theorem F.TR_STR_H_SRC_fam (x : Axis) (n : Nat) : fam (F.TR_STR_H_SRC x n).reg = 180 := A.TR_STR_fam x n
@[simp] theorem F.TR_STR_BK_SNK_fam (x : Axis) : fam (F.TR_STR_BK_SNK x).reg = 181 := A.TR_STR_BK_fam x
@[simp] theorem F.TR_STR_BK_SRC_fam (x : Axis) : fam (F.TR_STR_BK_SRC x).reg = 181 := A.TR_STR_BK_fam x
@[simp] theorem F.TR_STR_LIM_SNK_HI_fam (x : Axis) : fam (F.TR_STR_LIM_SNK_HI x).reg = 182 := A.TR_STR_LIM_fam x
@[simp] theorem F.TR_STR_LIM_SNK_LO_fam (x : Axis) : fam (F.TR_STR_LIM_SNK_LO x).reg = 182 := A.TR_STR_LIM_fam x
@[simp] theorem F.TR_STR_LIM_SRC_HI_fam (x : Axis) : fam (F.TR_STR_LIM_SRC_HI x).reg = 182 := A.TR_STR_LIM_fam x
@[simp] theorem F.TR_STR_LIM_SRC_LO_fam (x : Axis) : fam (F.TR_STR_LIM_SRC_LO x).reg = 182 := A.TR_STR_LIM_fam x
@[simp] theorem F.TR_BAND_L_SNK_fam (x : Axis) (n : Nat) : fam (F.TR_BAND_L_SNK x n).reg = 183 := A.TR_BAND_fam x n
@[simp] theorem F.TR_BAND_L_SRC_fam (x : Axis) (n : Nat) : fam (F.TR_BAND_L_SRC x n).reg = 183 := A.TR_BAND_fam x n
@[simp] theorem F.TR_BAND_H_SNK_fam (x : Axis) (n : Nat) : fam (F.TR_BAND_H_SNK x n).reg = 183 := A.TR_BAND_fam x n
@[simp] theorem F.TR_BAND_H_SRC_fam (x : Axis) (n : Nat) : fam (F.TR_BAND_H_SRC x n).reg = 183 := A.TR_BAND_fam x n
@[simp] theorem F.TR_REF_CFG_PRE_W_fam (x : Axis) : fam (F.TR_REF_CFG_PRE_W x).reg = 184 := A.TR_REF_CFG_fam x
@[simp] theorem F.TR_REF_CFG_REF_W_fam (x : Axis) : fam (F.TR_REF_CFG_REF_W x).reg = 184 := A.TR_REF_CFG_fam x
@[simp] theorem F.TR_REF_CFG_REF_THR_fam (x : Axis) : fam (F.TR_REF_CFG_REF_THR x).reg = 184 := A.TR_REF_CFG_fam x
@[simp] theorem F.TR_REF_CFG_N_fam (x : Axis) : fam (F.TR_REF_CFG_N x).reg = 184 := A.TR_REF_CFG_fam x
@[simp] theorem F.TR_REF_STAT_DIST_fam (x : Axis) : fam (F.TR_REF_STAT_DIST x).reg = 185 := A.TR_REF_STAT_fam x
@[simp] theorem F.TR_REF_STAT_COUNT_fam (x : Axis) : fam (F.TR_REF_STAT_COUNT x).reg = 185 := A.TR_REF_STAT_fam x
@[simp] theorem F.TR_VBS_VDRV_fam (x : Axis) : fam (F.TR_VBS_VDRV x).reg = 186 := A.TR_VBS_fam x
@[simp] theorem F.TR_VBS_W_fam (x : Axis) : fam (F.TR_VBS_W x).reg = 186 := A.TR_VBS_fam x
@[simp] theorem F.TR_VBS_V_fam (x : Axis) : fam (F.TR_VBS_V x).reg = 186 := A.TR_VBS_fam x
@[simp] theorem F.TR_VBS_U_fam (x : Axis) : fam (F.TR_VBS_U x).reg = 186 := A.TR_VBS_fam x
@[simp] theorem F.TR_ILK_CNT_W_fam (x : Axis) : fam (F.TR_ILK_CNT_W x).reg = 187 := A.TR_ILK_CNT_fam x
@[simp] theorem F.TR_ILK_CNT_V_fam (x : Axis) : fam (F.TR_ILK_CNT_V x).reg = 187 := A.TR_ILK_CNT_fam x
@[simp] theorem F.TR_ILK_CNT_U_fam (x : Axis) : fam (F.TR_ILK_CNT_U x).reg = 187 := A.TR_ILK_CNT_fam x
@[simp] theorem F.TR_LINK_CNT_DISCARDED_fam (x : Axis) : fam (F.TR_LINK_CNT_DISCARDED x).reg = 188 := A.TR_LINK_CNT_fam x
@[simp] theorem F.TR_LAST_OFF_fam (x : Axis) (n : Nat) : fam (F.TR_LAST_OFF x n).reg = 189 := A.TR_LAST_fam x n
@[simp] theorem F.TR_LAST_ON_fam (x : Axis) (n : Nat) : fam (F.TR_LAST_ON x n).reg = 189 := A.TR_LAST_fam x n
@[simp] theorem F.TR_CNT_CLR_LINK_fam (x : Axis) : fam (F.TR_CNT_CLR_LINK x).reg = 190 := A.TR_CNT_CLR_fam x
@[simp] theorem F.TR_CNT_CLR_ILK_fam (x : Axis) : fam (F.TR_CNT_CLR_ILK x).reg = 190 := A.TR_CNT_CLR_fam x
@[simp] theorem F.TR_CNT_CLR_REF_fam (x : Axis) : fam (F.TR_CNT_CLR_REF x).reg = 190 := A.TR_CNT_CLR_fam x
@[simp] theorem F.TR_DS_CFG_FILT_fam (x : Axis) : fam (F.TR_DS_CFG_FILT x).reg = 191 := A.TR_DS_CFG_fam x
@[simp] theorem F.TR_DS_CFG_THR_fam (x : Axis) : fam (F.TR_DS_CFG_THR x).reg = 191 := A.TR_DS_CFG_fam x
@[simp] theorem F.TR_DS_CFG_MON_fam (x : Axis) : fam (F.TR_DS_CFG_MON x).reg = 191 := A.TR_DS_CFG_fam x
@[simp] theorem F.TR_DS_CFG_BLANK_fam (x : Axis) : fam (F.TR_DS_CFG_BLANK x).reg = 191 := A.TR_DS_CFG_fam x
@[simp] theorem F.TR_SAFE_CFG_EXIT_V_fam (x : Axis) : fam (F.TR_SAFE_CFG_EXIT_V x).reg = 192 := A.TR_SAFE_CFG_fam x
@[simp] theorem F.TR_SAFE_CFG_QUIET_fam (x : Axis) : fam (F.TR_SAFE_CFG_QUIET x).reg = 192 := A.TR_SAFE_CFG_fam x
@[simp] theorem F.TR_SAFE_CFG_CSC_EN_fam (x : Axis) : fam (F.TR_SAFE_CFG_CSC_EN x).reg = 192 := A.TR_SAFE_CFG_fam x
@[simp] theorem F.TR_SAFE_CFG_ASC_POL_fam (x : Axis) : fam (F.TR_SAFE_CFG_ASC_POL x).reg = 192 := A.TR_SAFE_CFG_fam x
@[simp] theorem F.TR_RETRY_WAIT_fam (x : Axis) : fam (F.TR_RETRY_WAIT x).reg = 193 := A.TR_RETRY_fam x
@[simp] theorem F.TR_RETRY_WINDOW_fam (x : Axis) : fam (F.TR_RETRY_WINDOW x).reg = 193 := A.TR_RETRY_fam x
@[simp] theorem F.TR_RETRY_TRIES_fam (x : Axis) : fam (F.TR_RETRY_TRIES x).reg = 193 := A.TR_RETRY_fam x
@[simp] theorem F.TR_SAFE_STAT_RETRIES_fam (x : Axis) : fam (F.TR_SAFE_STAT_RETRIES x).reg = 194 := A.TR_SAFE_STAT_fam x
@[simp] theorem F.TR_SAFE_STAT_WAITING_fam (x : Axis) : fam (F.TR_SAFE_STAT_WAITING x).reg = 194 := A.TR_SAFE_STAT_fam x
@[simp] theorem F.TR_SAFE_STAT_USED_fam (x : Axis) : fam (F.TR_SAFE_STAT_USED x).reg = 194 := A.TR_SAFE_STAT_fam x
@[simp] theorem F.TR_SAFE_STAT_ABOVE_ASC_fam (x : Axis) : fam (F.TR_SAFE_STAT_ABOVE_ASC x).reg = 194 := A.TR_SAFE_STAT_fam x
@[simp] theorem F.TR_SAFE_STAT_THERMAL_fam (x : Axis) : fam (F.TR_SAFE_STAT_THERMAL x).reg = 194 := A.TR_SAFE_STAT_fam x
@[simp] theorem F.TR_SAFE_STAT_ORIGIN_fam (x : Axis) : fam (F.TR_SAFE_STAT_ORIGIN x).reg = 194 := A.TR_SAFE_STAT_fam x
@[simp] theorem F.TR_SAFE_STAT_STATE_fam (x : Axis) : fam (F.TR_SAFE_STAT_STATE x).reg = 194 := A.TR_SAFE_STAT_fam x
@[simp] theorem F.TR_DS_STAT_DS_NOW_fam (x : Axis) : fam (F.TR_DS_STAT_DS_NOW x).reg = 195 := A.TR_DS_STAT_fam x
@[simp] theorem F.TR_DS_STAT_MON_SEEN_fam (x : Axis) : fam (F.TR_DS_STAT_MON_SEEN x).reg = 195 := A.TR_DS_STAT_fam x
@[simp] theorem F.TR_DS_STAT_DS_SEEN_fam (x : Axis) : fam (F.TR_DS_STAT_DS_SEEN x).reg = 195 := A.TR_DS_STAT_fam x
@[simp] theorem F.TR_CSC_STAT_OVC_fam (x : Axis) : fam (F.TR_CSC_STAT_OVC x).reg = 196 := A.TR_CSC_STAT_fam x
@[simp] theorem F.TR_CSC_STAT_HW_ON_fam (x : Axis) : fam (F.TR_CSC_STAT_HW_ON x).reg = 196 := A.TR_CSC_STAT_fam x
@[simp] theorem F.TR_CSC_STAT_STATE_fam (x : Axis) : fam (F.TR_CSC_STAT_STATE x).reg = 196 := A.TR_CSC_STAT_fam x
@[simp] theorem F.TR_DS_CNT_MON_fam (x : Axis) : fam (F.TR_DS_CNT_MON x).reg = 197 := A.TR_DS_CNT_fam x
@[simp] theorem F.TR_DS_CNT_DS_fam (x : Axis) : fam (F.TR_DS_CNT_DS x).reg = 197 := A.TR_DS_CNT_fam x
@[simp] theorem F.TR_PROT_CLR_OVC_fam (x : Axis) : fam (F.TR_PROT_CLR_OVC x).reg = 198 := A.TR_PROT_CLR_fam x
@[simp] theorem F.TR_PROT_CLR_DS_fam (x : Axis) : fam (F.TR_PROT_CLR_DS x).reg = 198 := A.TR_PROT_CLR_fam x
@[simp] theorem F.TR_PROT_CLR_RETRIES_fam (x : Axis) : fam (F.TR_PROT_CLR_RETRIES x).reg = 198 := A.TR_PROT_CLR_fam x
@[simp] theorem F.LDG_SUMMARY_FLT_fam : fam (F.LDG_SUMMARY_FLT).reg = 199 := A.LDG_SUMMARY_fam
@[simp] theorem F.LDG_SUMMARY_FATAL_fam : fam (F.LDG_SUMMARY_FATAL).reg = 199 := A.LDG_SUMMARY_fam
@[simp] theorem F.LDG_SUMMARY_CONT_D_fam : fam (F.LDG_SUMMARY_CONT_D).reg = 199 := A.LDG_SUMMARY_fam
@[simp] theorem F.LDG_SUMMARY_CONT_B_fam : fam (F.LDG_SUMMARY_CONT_B).reg = 199 := A.LDG_SUMMARY_fam
@[simp] theorem F.LDG_SUMMARY_CONT_A_fam : fam (F.LDG_SUMMARY_CONT_A).reg = 199 := A.LDG_SUMMARY_fam
@[simp] theorem F.LDG_SUMMARY_CORR_D_fam : fam (F.LDG_SUMMARY_CORR_D).reg = 199 := A.LDG_SUMMARY_fam
@[simp] theorem F.LDG_SUMMARY_CORR_B_fam : fam (F.LDG_SUMMARY_CORR_B).reg = 199 := A.LDG_SUMMARY_fam
@[simp] theorem F.LDG_SUMMARY_CORR_A_fam : fam (F.LDG_SUMMARY_CORR_A).reg = 199 := A.LDG_SUMMARY_fam
@[simp] theorem F.LDG_FLT_CFG_CORR_fam : fam (F.LDG_FLT_CFG_CORR).reg = 200 := A.LDG_FLT_CFG_fam
@[simp] theorem F.LDG_FLT_CFG_CONT_D_fam : fam (F.LDG_FLT_CFG_CONT_D).reg = 200 := A.LDG_FLT_CFG_fam
@[simp] theorem F.LDG_FLT_CFG_CONT_B_fam : fam (F.LDG_FLT_CFG_CONT_B).reg = 200 := A.LDG_FLT_CFG_fam
@[simp] theorem F.LDG_FLT_CFG_CONT_A_fam : fam (F.LDG_FLT_CFG_CONT_A).reg = 200 := A.LDG_FLT_CFG_fam
@[simp] theorem F.LDG_LOCKOUT_B_fam : fam (F.LDG_LOCKOUT_B).reg = 201 := A.LDG_LOCKOUT_fam
@[simp] theorem F.LDG_LOCKOUT_A_fam : fam (F.LDG_LOCKOUT_A).reg = 201 := A.LDG_LOCKOUT_fam
@[simp] theorem F.LDG_REPEAT_COUNT_fam : fam (F.LDG_REPEAT_COUNT).reg = 202 := A.LDG_REPEAT_fam
@[simp] theorem F.LDG_ST_fam (n : Nat) : fam (F.LDG_ST n).reg = 203 := A.LDG_ST_fam n
@[simp] theorem F.LDG_CAUSE_fam (n : Nat) : fam (F.LDG_CAUSE n).reg = 204 := A.LDG_CAUSE_fam n
@[simp] theorem F.LDG_LOG_STAT_LOST_fam : fam (F.LDG_LOG_STAT_LOST).reg = 205 := A.LDG_LOG_STAT_fam
@[simp] theorem F.LDG_LOG_STAT_SEQ_fam : fam (F.LDG_LOG_STAT_SEQ).reg = 205 := A.LDG_LOG_STAT_fam
@[simp] theorem F.LDG_LOG_STAT_COUNT_fam : fam (F.LDG_LOG_STAT_COUNT).reg = 205 := A.LDG_LOG_STAT_fam
@[simp] theorem F.LDG_LOG_CLR_KEY_fam : fam (F.LDG_LOG_CLR_KEY).reg = 206 := A.LDG_LOG_CLR_fam
@[simp] theorem F.LDG_LOG_CLR_LOG_fam : fam (F.LDG_LOG_CLR_LOG).reg = 206 := A.LDG_LOG_CLR_fam
@[simp] theorem F.LDG_EVT_PEND_fam (n : Nat) : fam (F.LDG_EVT_PEND n).reg = 207 := A.LDG_EVT_PEND_fam n
@[simp] theorem F.LDG_IRQ_STAT_IRQ1_fam : fam (F.LDG_IRQ_STAT_IRQ1).reg = 208 := A.LDG_IRQ_STAT_fam
@[simp] theorem F.LDG_IRQ_STAT_IRQ0_fam : fam (F.LDG_IRQ_STAT_IRQ0).reg = 208 := A.LDG_IRQ_STAT_fam
@[simp] theorem F.LDG_ROUTE_WKT_fam (n : Nat) : fam (F.LDG_ROUTE_WKT n).reg = 209 := A.LDG_ROUTE_fam n
@[simp] theorem F.LDG_ROUTE_PGL_CH_fam (n : Nat) : fam (F.LDG_ROUTE_PGL_CH n).reg = 209 := A.LDG_ROUTE_fam n
@[simp] theorem F.LDG_ROUTE_PGL_fam (n : Nat) : fam (F.LDG_ROUTE_PGL n).reg = 209 := A.LDG_ROUTE_fam n
@[simp] theorem F.LDG_ROUTE_KIOSK_fam (n : Nat) : fam (F.LDG_ROUTE_KIOSK n).reg = 209 := A.LDG_ROUTE_fam n
@[simp] theorem F.LDG_ROUTE_IRQ1_fam (n : Nat) : fam (F.LDG_ROUTE_IRQ1 n).reg = 209 := A.LDG_ROUTE_fam n
@[simp] theorem F.LDG_ROUTE_IRQ0_fam (n : Nat) : fam (F.LDG_ROUTE_IRQ0 n).reg = 209 := A.LDG_ROUTE_fam n
@[simp] theorem F.LDG_LOG_fam (n : Nat) : fam (F.LDG_LOG n).reg = 210 := A.LDG_LOG_fam n
@[simp] theorem F.ORG_TJ_BAND_fam : fam (F.ORG_TJ_BAND).reg = 211 := A.ORG_TJ_fam
@[simp] theorem F.ORG_TJ_TJ_fam : fam (F.ORG_TJ_TJ).reg = 211 := A.ORG_TJ_fam
@[simp] theorem F.ORG_STAT_RANGE_fam : fam (F.ORG_STAT_RANGE).reg = 212 := A.ORG_STAT_fam
@[simp] theorem F.ORG_STAT_DRV_B_fam : fam (F.ORG_STAT_DRV_B).reg = 212 := A.ORG_STAT_fam
@[simp] theorem F.ORG_STAT_DRV_A_fam : fam (F.ORG_STAT_DRV_A).reg = 212 := A.ORG_STAT_fam
@[simp] theorem F.ORG_STAT_RISE2_SEEN_fam : fam (F.ORG_STAT_RISE2_SEEN).reg = 212 := A.ORG_STAT_fam
@[simp] theorem F.ORG_STAT_RISE1_SEEN_fam : fam (F.ORG_STAT_RISE1_SEEN).reg = 212 := A.ORG_STAT_fam
@[simp] theorem F.ORG_STAT_THR_ENF_fam : fam (F.ORG_STAT_THR_ENF).reg = 212 := A.ORG_STAT_fam
@[simp] theorem F.ORG_STAT_THR_REQ_fam : fam (F.ORG_STAT_THR_REQ).reg = 212 := A.ORG_STAT_fam
@[simp] theorem F.ORG_THR_CFG_CR_EN_B_fam : fam (F.ORG_THR_CFG_CR_EN_B).reg = 213 := A.ORG_THR_CFG_fam
@[simp] theorem F.ORG_THR_CFG_CR_EN_A_fam : fam (F.ORG_THR_CFG_CR_EN_A).reg = 213 := A.ORG_THR_CFG_fam
@[simp] theorem F.ORG_THR_CFG_GRACE_fam : fam (F.ORG_THR_CFG_GRACE).reg = 213 := A.ORG_THR_CFG_fam
@[simp] theorem F.ORG_THR_CFG_HYST_fam : fam (F.ORG_THR_CFG_HYST).reg = 213 := A.ORG_THR_CFG_fam
@[simp] theorem F.ORG_THR_CFG_TT_THR_fam : fam (F.ORG_THR_CFG_TT_THR).reg = 213 := A.ORG_THR_CFG_fam
@[simp] theorem F.ORG_RISE_CFG_RISE2_REQ_fam : fam (F.ORG_RISE_CFG_RISE2_REQ).reg = 214 := A.ORG_RISE_CFG_fam
@[simp] theorem F.ORG_RISE_CFG_RISE2_fam : fam (F.ORG_RISE_CFG_RISE2).reg = 214 := A.ORG_RISE_CFG_fam
@[simp] theorem F.ORG_RISE_CFG_RISE1_fam : fam (F.ORG_RISE_CFG_RISE1).reg = 214 := A.ORG_RISE_CFG_fam
@[simp] theorem F.ORG_CRED_LEN_B_fam : fam (F.ORG_CRED_LEN_B).reg = 215 := A.ORG_CRED_fam
@[simp] theorem F.ORG_CRED_LEN_A_fam : fam (F.ORG_CRED_LEN_A).reg = 215 := A.ORG_CRED_fam
@[simp] theorem F.ORG_RATE_VALUE_fam : fam (F.ORG_RATE_VALUE).reg = 216 := A.ORG_RATE_fam
@[simp] theorem F.ORG_DRV_EST_B_fam : fam (F.ORG_DRV_EST_B).reg = 217 := A.ORG_DRV_EST_fam
@[simp] theorem F.ORG_DRV_EST_A_fam : fam (F.ORG_DRV_EST_A).reg = 217 := A.ORG_DRV_EST_fam
@[simp] theorem F.ORG_DRV_CFG_DRV_LIM_fam : fam (F.ORG_DRV_CFG_DRV_LIM).reg = 218 := A.ORG_DRV_CFG_fam
@[simp] theorem F.ORG_CAL_OFS_fam : fam (F.ORG_CAL_OFS).reg = 219 := A.ORG_CAL_fam
@[simp] theorem F.ORG_CTRL_ENF_NOW_fam : fam (F.ORG_CTRL_ENF_NOW).reg = 220 := A.ORG_CTRL_fam
@[simp] theorem F.GRT_STAT_SLOTS_fam : fam (F.GRT_STAT_SLOTS).reg = 221 := A.GRT_STAT_fam
@[simp] theorem F.GRT_STAT_NEXT_fam : fam (F.GRT_STAT_NEXT).reg = 221 := A.GRT_STAT_fam
@[simp] theorem F.GRT_STAT_FULL_fam : fam (F.GRT_STAT_FULL).reg = 221 := A.GRT_STAT_fam
@[simp] theorem F.GRT_STAT_MISMATCH_SEEN_fam : fam (F.GRT_STAT_MISMATCH_SEEN).reg = 221 := A.GRT_STAT_fam
@[simp] theorem F.GRT_STAT_WEAK_SEEN_fam : fam (F.GRT_STAT_WEAK_SEEN).reg = 221 := A.GRT_STAT_fam
@[simp] theorem F.GRT_STAT_REQ_ENC_fam : fam (F.GRT_STAT_REQ_ENC).reg = 221 := A.GRT_STAT_fam
@[simp] theorem F.GRT_STAT_KEY_VALID_fam : fam (F.GRT_STAT_KEY_VALID).reg = 221 := A.GRT_STAT_fam
@[simp] theorem F.GRT_STAT_SAT_fam : fam (F.GRT_STAT_SAT).reg = 221 := A.GRT_STAT_fam
@[simp] theorem F.GRT_STAT_BUSY_fam : fam (F.GRT_STAT_BUSY).reg = 221 := A.GRT_STAT_fam
@[simp] theorem F.GRT_COUNT_HS_B_fam : fam (F.GRT_COUNT_HS_B).reg = 222 := A.GRT_COUNT_fam
@[simp] theorem F.GRT_COUNT_HS_A_fam : fam (F.GRT_COUNT_HS_A).reg = 222 := A.GRT_COUNT_fam
@[simp] theorem F.GRT_COUNT_FATAL_fam : fam (F.GRT_COUNT_FATAL).reg = 222 := A.GRT_COUNT_fam
@[simp] theorem F.GRT_COUNT_THERM_fam : fam (F.GRT_COUNT_THERM).reg = 222 := A.GRT_COUNT_fam
@[simp] theorem F.GRT_PEND_FATAL_fam : fam (F.GRT_PEND_FATAL).reg = 223 := A.GRT_PEND_fam
@[simp] theorem F.GRT_PEND_THERM_fam : fam (F.GRT_PEND_THERM).reg = 223 := A.GRT_PEND_fam
@[simp] theorem F.GRT_PEND_HS_B_fam : fam (F.GRT_PEND_HS_B).reg = 223 := A.GRT_PEND_fam
@[simp] theorem F.GRT_PEND_HS_A_fam : fam (F.GRT_PEND_HS_A).reg = 223 := A.GRT_PEND_fam
@[simp] theorem F.GRT_PROG_KEY_fam : fam (F.GRT_PROG_KEY).reg = 224 := A.GRT_PROG_fam
@[simp] theorem F.GRT_PROG_GO_fam : fam (F.GRT_PROG_GO).reg = 224 := A.GRT_PROG_fam
@[simp] theorem F.GRT_PROG_OP_fam : fam (F.GRT_PROG_OP).reg = 224 := A.GRT_PROG_fam
@[simp] theorem F.GRT_PROG_ADDR_fam : fam (F.GRT_PROG_ADDR).reg = 224 := A.GRT_PROG_fam
@[simp] theorem F.GRT_PROG_DATA_MASK_fam : fam (F.GRT_PROG_DATA_MASK).reg = 225 := A.GRT_PROG_DATA_fam
@[simp] theorem F.GRT_PROG_STAT_RESULT_fam : fam (F.GRT_PROG_STAT_RESULT).reg = 226 := A.GRT_PROG_STAT_fam
@[simp] theorem F.GRT_PROG_STAT_MARK_fam : fam (F.GRT_PROG_STAT_MARK).reg = 226 := A.GRT_PROG_STAT_fam
@[simp] theorem F.GRT_PROG_STAT_MARK_COPY_fam : fam (F.GRT_PROG_STAT_MARK_COPY).reg = 226 := A.GRT_PROG_STAT_fam
@[simp] theorem F.GRT_PROG_STAT_MARK_BIT_fam : fam (F.GRT_PROG_STAT_MARK_BIT).reg = 226 := A.GRT_PROG_STAT_fam
@[simp] theorem F.GRT_PROG_STAT_MARK_ADDR_fam : fam (F.GRT_PROG_STAT_MARK_ADDR).reg = 226 := A.GRT_PROG_STAT_fam
@[simp] theorem F.GRT_PROG_STAT_PULSES_fam : fam (F.GRT_PROG_STAT_PULSES).reg = 226 := A.GRT_PROG_STAT_fam
@[simp] theorem F.GRT_WEAK_COUNT_fam : fam (F.GRT_WEAK_COUNT).reg = 227 := A.GRT_WEAK_fam
@[simp] theorem F.GRT_WEAK_FIRST_fam : fam (F.GRT_WEAK_FIRST).reg = 227 := A.GRT_WEAK_fam
@[simp] theorem F.GRT_RAW_fam (n : Nat) : fam (F.GRT_RAW n).reg = 228 := A.GRT_RAW_fam n
@[simp] theorem F.GRT_ARRAY_fam (n : Nat) : fam (F.GRT_ARRAY n).reg = 229 := A.GRT_ARRAY_fam n
@[simp] theorem F.WKT_LEN_LEN_fam : fam (F.WKT_LEN_LEN).reg = 230 := A.WKT_LEN_fam
@[simp] theorem F.WKT_HLT_REACT_B_fam : fam (F.WKT_HLT_REACT_B).reg = 231 := A.WKT_HLT_fam
@[simp] theorem F.WKT_HLT_REACT_A_fam : fam (F.WKT_HLT_REACT_A).reg = 231 := A.WKT_HLT_fam
@[simp] theorem F.WKT_HLT_EN_fam : fam (F.WKT_HLT_EN).reg = 231 := A.WKT_HLT_fam
@[simp] theorem F.WKT_HLT_TIMEOUT_fam : fam (F.WKT_HLT_TIMEOUT).reg = 231 := A.WKT_HLT_fam
@[simp] theorem F.WKT_STAT_ALIVE_fam : fam (F.WKT_STAT_ALIVE).reg = 232 := A.WKT_STAT_fam
@[simp] theorem F.WKT_STAT_NONE_fam : fam (F.WKT_STAT_NONE).reg = 232 := A.WKT_STAT_fam
@[simp] theorem F.WKT_STAT_LOST_fam : fam (F.WKT_STAT_LOST).reg = 232 := A.WKT_STAT_fam
@[simp] theorem F.WKT_STAT_ARMED_fam : fam (F.WKT_STAT_ARMED).reg = 232 := A.WKT_STAT_fam
@[simp] theorem F.WKT_STAT_DROP_SEEN_fam : fam (F.WKT_STAT_DROP_SEEN).reg = 232 := A.WKT_STAT_fam
@[simp] theorem F.WKT_STAT_BUSY_SEEN_fam : fam (F.WKT_STAT_BUSY_SEEN).reg = 232 := A.WKT_STAT_fam
@[simp] theorem F.WKT_STAT_RETRANS_SEEN_fam : fam (F.WKT_STAT_RETRANS_SEEN).reg = 232 := A.WKT_STAT_fam
@[simp] theorem F.WKT_STAT_GAP_SEEN_fam : fam (F.WKT_STAT_GAP_SEEN).reg = 232 := A.WKT_STAT_fam
@[simp] theorem F.WKT_STAT_BADOP_SEEN_fam : fam (F.WKT_STAT_BADOP_SEEN).reg = 232 := A.WKT_STAT_fam
@[simp] theorem F.WKT_STAT_CRC_SEEN_fam : fam (F.WKT_STAT_CRC_SEEN).reg = 232 := A.WKT_STAT_fam
@[simp] theorem F.WKT_STAT_OVER_SEEN_fam : fam (F.WKT_STAT_OVER_SEEN).reg = 232 := A.WKT_STAT_fam
@[simp] theorem F.WKT_STAT_UNDER_SEEN_fam : fam (F.WKT_STAT_UNDER_SEEN).reg = 232 := A.WKT_STAT_fam
@[simp] theorem F.WKT_STAT_TRUNC_SEEN_fam : fam (F.WKT_STAT_TRUNC_SEEN).reg = 232 := A.WKT_STAT_fam
@[simp] theorem F.WKT_CNT_REJECTS_fam : fam (F.WKT_CNT_REJECTS).reg = 233 := A.WKT_CNT_fam
@[simp] theorem F.WKT_CNT_GAPS_fam : fam (F.WKT_CNT_GAPS).reg = 233 := A.WKT_CNT_fam
@[simp] theorem F.WKT_CNT_RETRANS_fam : fam (F.WKT_CNT_RETRANS).reg = 233 := A.WKT_CNT_fam
@[simp] theorem F.WKT_CNT_BUSY_fam : fam (F.WKT_CNT_BUSY).reg = 233 := A.WKT_CNT_fam
@[simp] theorem F.WKT_CNT_CLR_CNT_fam : fam (F.WKT_CNT_CLR_CNT).reg = 234 := A.WKT_CNT_CLR_fam
@[simp] theorem F.WKT_LAST_BAD_REASON_fam : fam (F.WKT_LAST_BAD_REASON).reg = 235 := A.WKT_LAST_BAD_fam
@[simp] theorem F.WKT_LAST_BAD_EDGES_fam : fam (F.WKT_LAST_BAD_EDGES).reg = 235 := A.WKT_LAST_BAD_fam
@[simp] theorem F.ICE_CFG_FREQ_fam : fam (F.ICE_CFG_FREQ).reg = 236 := A.ICE_CFG_fam
@[simp] theorem F.ICE_CFG_DUMMY_fam : fam (F.ICE_CFG_DUMMY).reg = 236 := A.ICE_CFG_fam
@[simp] theorem F.ICE_CFG_PROBED_fam : fam (F.ICE_CFG_PROBED).reg = 236 := A.ICE_CFG_fam
@[simp] theorem F.ICE_CFG_MODE_fam : fam (F.ICE_CFG_MODE).reg = 236 := A.ICE_CFG_fam
@[simp] theorem F.ICE_SIZE_BYTES_fam : fam (F.ICE_SIZE_BYTES).reg = 237 := A.ICE_SIZE_fam
@[simp] theorem F.ICE_WIN_BASE_BASE_fam : fam (F.ICE_WIN_BASE_BASE).reg = 238 := A.ICE_WIN_BASE_fam
@[simp] theorem F.ICE_CTRL_CNT_CLR_fam : fam (F.ICE_CTRL_CNT_CLR).reg = 239 := A.ICE_CTRL_fam
@[simp] theorem F.ICE_CTRL_RELEASE_fam : fam (F.ICE_CTRL_RELEASE).reg = 239 := A.ICE_CTRL_fam
@[simp] theorem F.ICE_CTRL_INV_fam : fam (F.ICE_CTRL_INV).reg = 239 := A.ICE_CTRL_fam
@[simp] theorem F.ICE_STAT_ERR_SEEN_fam : fam (F.ICE_STAT_ERR_SEEN).reg = 240 := A.ICE_STAT_fam
@[simp] theorem F.ICE_STAT_BUSY_fam : fam (F.ICE_STAT_BUSY).reg = 240 := A.ICE_STAT_fam
@[simp] theorem F.ICE_STAT_RELEASED_fam : fam (F.ICE_STAT_RELEASED).reg = 240 := A.ICE_STAT_fam
@[simp] theorem F.ICE_ERR_KIND_fam : fam (F.ICE_ERR_KIND).reg = 241 := A.ICE_ERR_fam
@[simp] theorem F.ICE_ERR_SOURCE_fam : fam (F.ICE_ERR_SOURCE).reg = 241 := A.ICE_ERR_fam
@[simp] theorem F.ICE_ERR_ADDR_fam : fam (F.ICE_ERR_ADDR).reg = 241 := A.ICE_ERR_fam
@[simp] theorem F.ICE_CNT_ERRORS_fam : fam (F.ICE_CNT_ERRORS).reg = 242 := A.ICE_CNT_fam
@[simp] theorem F.ICE_CNT_RETRIES_fam : fam (F.ICE_CNT_RETRIES).reg = 242 := A.ICE_CNT_fam
@[simp] theorem F.ICE_CNT_MISSES_fam : fam (F.ICE_CNT_MISSES).reg = 242 := A.ICE_CNT_fam
@[simp] theorem F.PGL_CTRL_KEY_fam : fam (F.PGL_CTRL_KEY).reg = 243 := A.PGL_CTRL_fam
@[simp] theorem F.PGL_CTRL_RESET_fam : fam (F.PGL_CTRL_RESET).reg = 243 := A.PGL_CTRL_fam
@[simp] theorem F.PGL_STAT_NOCH_fam : fam (F.PGL_STAT_NOCH).reg = 244 := A.PGL_STAT_fam
@[simp] theorem F.PGL_STAT_FULL_fam : fam (F.PGL_STAT_FULL).reg = 244 := A.PGL_STAT_fam
@[simp] theorem F.PGL_STAT_STOPPED_fam : fam (F.PGL_STAT_STOPPED).reg = 244 := A.PGL_STAT_fam
@[simp] theorem F.PGL_ERR_KIND_fam : fam (F.PGL_ERR_KIND).reg = 245 := A.PGL_ERR_fam
@[simp] theorem F.PGL_ERR_NOCH_fam : fam (F.PGL_ERR_NOCH).reg = 245 := A.PGL_ERR_fam
@[simp] theorem F.PGL_ERR_CH_fam : fam (F.PGL_ERR_CH).reg = 245 := A.PGL_ERR_fam
@[simp] theorem F.PGL_ERR_ADDR_fam : fam (F.PGL_ERR_ADDR).reg = 245 := A.PGL_ERR_fam
@[simp] theorem F.PGL_RING_CFG_fam : fam (F.PGL_RING_CFG).reg = 246 := A.PGL_RING_CFG_fam
@[simp] theorem F.PGL_RING_BASE_fam : fam (F.PGL_RING_BASE).reg = 247 := A.PGL_RING_BASE_fam
@[simp] theorem F.PGL_RING_WR_fam : fam (F.PGL_RING_WR).reg = 248 := A.PGL_RING_WR_fam
@[simp] theorem F.PGL_RING_RD_fam : fam (F.PGL_RING_RD).reg = 249 := A.PGL_RING_RD_fam
@[simp] theorem F.PGL_CNT_RECORDS_fam : fam (F.PGL_CNT_RECORDS).reg = 250 := A.PGL_CNT_fam
@[simp] theorem F.PGL_CNT_WAITS_fam : fam (F.PGL_CNT_WAITS).reg = 250 := A.PGL_CNT_fam
@[simp] theorem F.PGL_CH_CFG_SHARE_fam (n : Nat) : fam (F.PGL_CH_CFG_SHARE n).reg = 251 := A.PGL_CH_CFG_fam n
@[simp] theorem F.PGL_CH_CFG_PRIO_fam (n : Nat) : fam (F.PGL_CH_CFG_PRIO n).reg = 251 := A.PGL_CH_CFG_fam n
@[simp] theorem F.PGL_CH_CFG_TWO_D_fam (n : Nat) : fam (F.PGL_CH_CFG_TWO_D n).reg = 251 := A.PGL_CH_CFG_fam n
@[simp] theorem F.PGL_CH_CFG_EXISTS_fam (n : Nat) : fam (F.PGL_CH_CFG_EXISTS n).reg = 251 := A.PGL_CH_CFG_fam n
@[simp] theorem F.PGL_CH_DESC_fam (n : Nat) : fam (F.PGL_CH_DESC n).reg = 252 := A.PGL_CH_DESC_fam n
@[simp] theorem F.PGL_CH_CTRL_ABORT_fam (n : Nat) : fam (F.PGL_CH_CTRL_ABORT n).reg = 253 := A.PGL_CH_CTRL_fam n
@[simp] theorem F.PGL_CH_CTRL_TRIG_fam (n : Nat) : fam (F.PGL_CH_CTRL_TRIG n).reg = 253 := A.PGL_CH_CTRL_fam n
@[simp] theorem F.PGL_CH_STAT_TAG_fam (n : Nat) : fam (F.PGL_CH_STAT_TAG n).reg = 254 := A.PGL_CH_STAT_fam n
@[simp] theorem F.PGL_CH_STAT_QUEUED_fam (n : Nat) : fam (F.PGL_CH_STAT_QUEUED n).reg = 254 := A.PGL_CH_STAT_fam n
@[simp] theorem F.PGL_CH_STAT_DESC_ERR_fam (n : Nat) : fam (F.PGL_CH_STAT_DESC_ERR n).reg = 254 := A.PGL_CH_STAT_fam n
@[simp] theorem F.PGL_CH_STAT_LOST_SEEN_fam (n : Nat) : fam (F.PGL_CH_STAT_LOST_SEEN n).reg = 254 := A.PGL_CH_STAT_fam n
@[simp] theorem F.PGL_CH_STAT_INDET_fam (n : Nat) : fam (F.PGL_CH_STAT_INDET n).reg = 254 := A.PGL_CH_STAT_fam n
@[simp] theorem F.PGL_CH_STAT_STATE_fam (n : Nat) : fam (F.PGL_CH_STAT_STATE n).reg = 254 := A.PGL_CH_STAT_fam n
@[simp] theorem F.PGL_CH_CUR_fam (n : Nat) : fam (F.PGL_CH_CUR n).reg = 255 := A.PGL_CH_CUR_fam n
@[simp] theorem F.PGL_CH_RESID_fam (n : Nat) : fam (F.PGL_CH_RESID n).reg = 256 := A.PGL_CH_RESID_fam n
@[simp] theorem F.PGL_CH_CNT_LOST_fam (n : Nat) : fam (F.PGL_CH_CNT_LOST n).reg = 257 := A.PGL_CH_CNT_fam n
@[simp] theorem F.PGL_CH_CNT_DONE_fam (n : Nat) : fam (F.PGL_CH_CNT_DONE n).reg = 257 := A.PGL_CH_CNT_fam n
@[simp] theorem F.STC_REQ_SLOT_fam : fam (F.STC_REQ_SLOT).reg = 258 := A.STC_REQ_fam
@[simp] theorem F.STC_CANCEL_SLOT_fam : fam (F.STC_CANCEL_SLOT).reg = 259 := A.STC_CANCEL_fam
@[simp] theorem F.STC_BG_CFG_SAR_TOL_fam : fam (F.STC_BG_CFG_SAR_TOL).reg = 260 := A.STC_BG_CFG_fam
@[simp] theorem F.STC_BG_CFG_SCRUB_INT_fam : fam (F.STC_BG_CFG_SCRUB_INT).reg = 260 := A.STC_BG_CFG_fam
@[simp] theorem F.STC_BG_CFG_SAR_INT_fam : fam (F.STC_BG_CFG_SAR_INT).reg = 260 := A.STC_BG_CFG_fam
@[simp] theorem F.STC_BG_CFG_SCRUB_AUTO_fam : fam (F.STC_BG_CFG_SCRUB_AUTO).reg = 260 := A.STC_BG_CFG_fam
@[simp] theorem F.STC_BG_CFG_SAR_AUTO_fam : fam (F.STC_BG_CFG_SAR_AUTO).reg = 260 := A.STC_BG_CFG_fam
@[simp] theorem F.STC_TRIM_SNK_fam (x : Axis) : fam (F.STC_TRIM_SNK x).reg = 261 := A.STC_TRIM_fam x
@[simp] theorem F.STC_TRIM_SRC_fam (x : Axis) : fam (F.STC_TRIM_SRC x).reg = 261 := A.STC_TRIM_fam x
@[simp] theorem F.STC_SCRUB_STAT_RUNNING_fam : fam (F.STC_SCRUB_STAT_RUNNING).reg = 262 := A.STC_SCRUB_STAT_fam
@[simp] theorem F.STC_SCRUB_STAT_PASSES_fam : fam (F.STC_SCRUB_STAT_PASSES).reg = 262 := A.STC_SCRUB_STAT_fam
@[simp] theorem F.STC_TSTAT_DETAIL_fam (n : Nat) : fam (F.STC_TSTAT_DETAIL n).reg = 263 := A.STC_TSTAT_fam n
@[simp] theorem F.STC_TSTAT_PASSES_fam (n : Nat) : fam (F.STC_TSTAT_PASSES n).reg = 263 := A.STC_TSTAT_fam n
@[simp] theorem F.STC_TSTAT_RESULT_fam (n : Nat) : fam (F.STC_TSTAT_RESULT n).reg = 263 := A.STC_TSTAT_fam n
@[simp] theorem F.STC_TSTAT_STATE_fam (n : Nat) : fam (F.STC_TSTAT_STATE n).reg = 263 := A.STC_TSTAT_fam n

end Sys2Proof.Machine
end

