-- ==== Sys2Proof/Laws/State.lean ====
section
/-! SUPPORT. One lemma per field of State per update that leaves it alone (true by computation), so that no proof unfolds a
record update; and what each per-axis record reads after it was changed. -/

namespace Sys2Proof.Machine

set_option Elab.async false

variable (s : State)

/-! ### State.wr -/

@[simp] theorem State.wr_pending (a : Nat) (v : Word) : (s.wr a v).pending = s.pending := rfl
@[simp] theorem State.wr_die (a : Nat) (v : Word) : (s.wr a v).die = s.die := rfl
@[simp] theorem State.wr_pins (a : Nat) (v : Word) : (s.wr a v).pins = s.pins := rfl
@[simp] theorem State.wr_shadow (a : Nat) (v : Word) : (s.wr a v).shadow = s.shadow := rfl
@[simp] theorem State.wr_mem (a : Nat) (v : Word) : (s.wr a v).mem = s.mem := rfl
@[simp] theorem State.wr_ecc1 (a : Nat) (v : Word) : (s.wr a v).ecc1 = s.ecc1 := rfl
@[simp] theorem State.wr_ecc2 (a : Nat) (v : Word) : (s.wr a v).ecc2 = s.ecc2 := rfl
@[simp] theorem State.wr_found (a : Nat) (v : Word) : (s.wr a v).found = s.found := rfl
@[simp] theorem State.wr_img (a : Nat) (v : Word) : (s.wr a v).img = s.img := rfl
@[simp] theorem State.wr_fab (a : Nat) (v : Word) : (s.wr a v).fab = s.fab := rfl
@[simp] theorem State.wr_sources (a : Nat) (v : Word) : (s.wr a v).sources = s.sources := rfl
@[simp] theorem State.wr_held (a : Nat) (v : Word) : (s.wr a v).held = s.held := rfl
@[simp] theorem State.wr_axA (a : Nat) (v : Word) : (s.wr a v).axA = s.axA := rfl
@[simp] theorem State.wr_axB (a : Nat) (v : Word) : (s.wr a v).axB = s.axB := rfl
@[simp] theorem State.wr_svA (a : Nat) (v : Word) : (s.wr a v).svA = s.svA := rfl
@[simp] theorem State.wr_svB (a : Nat) (v : Word) : (s.wr a v).svB = s.svB := rfl
@[simp] theorem State.wr_trA (a : Nat) (v : Word) : (s.wr a v).trA = s.trA := rfl
@[simp] theorem State.wr_trB (a : Nat) (v : Word) : (s.wr a v).trB = s.trB := rfl
@[simp] theorem State.wr_tbA (a : Nat) (v : Word) : (s.wr a v).tbA = s.tbA := rfl
@[simp] theorem State.wr_tbB (a : Nat) (v : Word) : (s.wr a v).tbB = s.tbB := rfl
@[simp] theorem State.wr_sns (a : Nat) (v : Word) : (s.wr a v).sns = s.sns := rfl
@[simp] theorem State.wr_hah (a : Nat) (v : Word) : (s.wr a v).hah = s.hah := rfl
@[simp] theorem State.wr_org (a : Nat) (v : Word) : (s.wr a v).org = s.org := rfl
@[simp] theorem State.wr_sun (a : Nat) (v : Word) : (s.wr a v).sun = s.sun := rfl
@[simp] theorem State.wr_pgl (a : Nat) (v : Word) : (s.wr a v).pgl = s.pgl := rfl
@[simp] theorem State.wr_otp (a : Nat) (v : Word) : (s.wr a v).otp = s.otp := rfl
@[simp] theorem State.wr_ice (a : Nat) (v : Word) : (s.wr a v).ice = s.ice := rfl
@[simp] theorem State.wr_wkt (a : Nat) (v : Word) : (s.wr a v).wkt = s.wkt := rfl
@[simp] theorem State.wr_stc (a : Nat) (v : Word) : (s.wr a v).stc = s.stc := rfl
@[simp] theorem State.wr_reply (a : Nat) (v : Word) : (s.wr a v).reply = s.reply := rfl
@[simp] theorem State.wr_free (a : Nat) (v : Word) : (s.wr a v).free = s.free := rfl

/-! ### State.wrSh -/

@[simp] theorem State.wrSh_pending (a : Nat) (v : Word) : (s.wrSh a v).pending = s.pending := rfl
@[simp] theorem State.wrSh_die (a : Nat) (v : Word) : (s.wrSh a v).die = s.die := rfl
@[simp] theorem State.wrSh_pins (a : Nat) (v : Word) : (s.wrSh a v).pins = s.pins := rfl
@[simp] theorem State.wrSh_regs (a : Nat) (v : Word) : (s.wrSh a v).regs = s.regs := rfl
@[simp] theorem State.wrSh_mem (a : Nat) (v : Word) : (s.wrSh a v).mem = s.mem := rfl
@[simp] theorem State.wrSh_ecc1 (a : Nat) (v : Word) : (s.wrSh a v).ecc1 = s.ecc1 := rfl
@[simp] theorem State.wrSh_ecc2 (a : Nat) (v : Word) : (s.wrSh a v).ecc2 = s.ecc2 := rfl
@[simp] theorem State.wrSh_found (a : Nat) (v : Word) : (s.wrSh a v).found = s.found := rfl
@[simp] theorem State.wrSh_img (a : Nat) (v : Word) : (s.wrSh a v).img = s.img := rfl
@[simp] theorem State.wrSh_fab (a : Nat) (v : Word) : (s.wrSh a v).fab = s.fab := rfl
@[simp] theorem State.wrSh_sources (a : Nat) (v : Word) : (s.wrSh a v).sources = s.sources := rfl
@[simp] theorem State.wrSh_held (a : Nat) (v : Word) : (s.wrSh a v).held = s.held := rfl
@[simp] theorem State.wrSh_axA (a : Nat) (v : Word) : (s.wrSh a v).axA = s.axA := rfl
@[simp] theorem State.wrSh_axB (a : Nat) (v : Word) : (s.wrSh a v).axB = s.axB := rfl
@[simp] theorem State.wrSh_svA (a : Nat) (v : Word) : (s.wrSh a v).svA = s.svA := rfl
@[simp] theorem State.wrSh_svB (a : Nat) (v : Word) : (s.wrSh a v).svB = s.svB := rfl
@[simp] theorem State.wrSh_trA (a : Nat) (v : Word) : (s.wrSh a v).trA = s.trA := rfl
@[simp] theorem State.wrSh_trB (a : Nat) (v : Word) : (s.wrSh a v).trB = s.trB := rfl
@[simp] theorem State.wrSh_tbA (a : Nat) (v : Word) : (s.wrSh a v).tbA = s.tbA := rfl
@[simp] theorem State.wrSh_tbB (a : Nat) (v : Word) : (s.wrSh a v).tbB = s.tbB := rfl
@[simp] theorem State.wrSh_sns (a : Nat) (v : Word) : (s.wrSh a v).sns = s.sns := rfl
@[simp] theorem State.wrSh_hah (a : Nat) (v : Word) : (s.wrSh a v).hah = s.hah := rfl
@[simp] theorem State.wrSh_org (a : Nat) (v : Word) : (s.wrSh a v).org = s.org := rfl
@[simp] theorem State.wrSh_sun (a : Nat) (v : Word) : (s.wrSh a v).sun = s.sun := rfl
@[simp] theorem State.wrSh_pgl (a : Nat) (v : Word) : (s.wrSh a v).pgl = s.pgl := rfl
@[simp] theorem State.wrSh_otp (a : Nat) (v : Word) : (s.wrSh a v).otp = s.otp := rfl
@[simp] theorem State.wrSh_ice (a : Nat) (v : Word) : (s.wrSh a v).ice = s.ice := rfl
@[simp] theorem State.wrSh_wkt (a : Nat) (v : Word) : (s.wrSh a v).wkt = s.wkt := rfl
@[simp] theorem State.wrSh_stc (a : Nat) (v : Word) : (s.wrSh a v).stc = s.stc := rfl
@[simp] theorem State.wrSh_reply (a : Nat) (v : Word) : (s.wrSh a v).reply = s.reply := rfl
@[simp] theorem State.wrSh_free (a : Nat) (v : Word) : (s.wrSh a v).free = s.free := rfl
@[simp] theorem State.wrSh_fld (a : Nat) (v : Word) (g : Fld) : (s.wrSh a v).fld g = s.fld g := rfl
@[simp] theorem State.wrSh_isRunning (a : Nat) (v : Word) : (s.wrSh a v).isRunning = s.isRunning := rfl

/-! ### State.setByte -/

@[simp] theorem State.setByte_pending (a : Nat) (v : Byte) : (s.setByte a v).pending = s.pending := rfl
@[simp] theorem State.setByte_die (a : Nat) (v : Byte) : (s.setByte a v).die = s.die := rfl
@[simp] theorem State.setByte_pins (a : Nat) (v : Byte) : (s.setByte a v).pins = s.pins := rfl
@[simp] theorem State.setByte_regs (a : Nat) (v : Byte) : (s.setByte a v).regs = s.regs := rfl
@[simp] theorem State.setByte_shadow (a : Nat) (v : Byte) : (s.setByte a v).shadow = s.shadow := rfl
@[simp] theorem State.setByte_ecc1 (a : Nat) (v : Byte) : (s.setByte a v).ecc1 = s.ecc1 := rfl
@[simp] theorem State.setByte_ecc2 (a : Nat) (v : Byte) : (s.setByte a v).ecc2 = s.ecc2 := rfl
@[simp] theorem State.setByte_found (a : Nat) (v : Byte) : (s.setByte a v).found = s.found := rfl
@[simp] theorem State.setByte_img (a : Nat) (v : Byte) : (s.setByte a v).img = s.img := rfl
@[simp] theorem State.setByte_fab (a : Nat) (v : Byte) : (s.setByte a v).fab = s.fab := rfl
@[simp] theorem State.setByte_sources (a : Nat) (v : Byte) : (s.setByte a v).sources = s.sources := rfl
@[simp] theorem State.setByte_held (a : Nat) (v : Byte) : (s.setByte a v).held = s.held := rfl
@[simp] theorem State.setByte_axA (a : Nat) (v : Byte) : (s.setByte a v).axA = s.axA := rfl
@[simp] theorem State.setByte_axB (a : Nat) (v : Byte) : (s.setByte a v).axB = s.axB := rfl
@[simp] theorem State.setByte_svA (a : Nat) (v : Byte) : (s.setByte a v).svA = s.svA := rfl
@[simp] theorem State.setByte_svB (a : Nat) (v : Byte) : (s.setByte a v).svB = s.svB := rfl
@[simp] theorem State.setByte_trA (a : Nat) (v : Byte) : (s.setByte a v).trA = s.trA := rfl
@[simp] theorem State.setByte_trB (a : Nat) (v : Byte) : (s.setByte a v).trB = s.trB := rfl
@[simp] theorem State.setByte_tbA (a : Nat) (v : Byte) : (s.setByte a v).tbA = s.tbA := rfl
@[simp] theorem State.setByte_tbB (a : Nat) (v : Byte) : (s.setByte a v).tbB = s.tbB := rfl
@[simp] theorem State.setByte_sns (a : Nat) (v : Byte) : (s.setByte a v).sns = s.sns := rfl
@[simp] theorem State.setByte_hah (a : Nat) (v : Byte) : (s.setByte a v).hah = s.hah := rfl
@[simp] theorem State.setByte_org (a : Nat) (v : Byte) : (s.setByte a v).org = s.org := rfl
@[simp] theorem State.setByte_sun (a : Nat) (v : Byte) : (s.setByte a v).sun = s.sun := rfl
@[simp] theorem State.setByte_pgl (a : Nat) (v : Byte) : (s.setByte a v).pgl = s.pgl := rfl
@[simp] theorem State.setByte_otp (a : Nat) (v : Byte) : (s.setByte a v).otp = s.otp := rfl
@[simp] theorem State.setByte_ice (a : Nat) (v : Byte) : (s.setByte a v).ice = s.ice := rfl
@[simp] theorem State.setByte_wkt (a : Nat) (v : Byte) : (s.setByte a v).wkt = s.wkt := rfl
@[simp] theorem State.setByte_stc (a : Nat) (v : Byte) : (s.setByte a v).stc = s.stc := rfl
@[simp] theorem State.setByte_reply (a : Nat) (v : Byte) : (s.setByte a v).reply = s.reply := rfl
@[simp] theorem State.setByte_free (a : Nat) (v : Byte) : (s.setByte a v).free = s.free := rfl
@[simp] theorem State.setByte_fld (a : Nat) (v : Byte) (g : Fld) : (s.setByte a v).fld g = s.fld g := rfl
@[simp] theorem State.setByte_isRunning (a : Nat) (v : Byte) : (s.setByte a v).isRunning = s.isRunning := rfl

/-! ### State.set -/

@[simp] theorem State.set_pending (f : Fld) (v : Nat) : (s.set f v).pending = s.pending := rfl
@[simp] theorem State.set_die (f : Fld) (v : Nat) : (s.set f v).die = s.die := rfl
@[simp] theorem State.set_pins (f : Fld) (v : Nat) : (s.set f v).pins = s.pins := rfl
@[simp] theorem State.set_shadow (f : Fld) (v : Nat) : (s.set f v).shadow = s.shadow := rfl
@[simp] theorem State.set_mem (f : Fld) (v : Nat) : (s.set f v).mem = s.mem := rfl
@[simp] theorem State.set_ecc1 (f : Fld) (v : Nat) : (s.set f v).ecc1 = s.ecc1 := rfl
@[simp] theorem State.set_ecc2 (f : Fld) (v : Nat) : (s.set f v).ecc2 = s.ecc2 := rfl
@[simp] theorem State.set_found (f : Fld) (v : Nat) : (s.set f v).found = s.found := rfl
@[simp] theorem State.set_img (f : Fld) (v : Nat) : (s.set f v).img = s.img := rfl
@[simp] theorem State.set_fab (f : Fld) (v : Nat) : (s.set f v).fab = s.fab := rfl
@[simp] theorem State.set_sources (f : Fld) (v : Nat) : (s.set f v).sources = s.sources := rfl
@[simp] theorem State.set_held (f : Fld) (v : Nat) : (s.set f v).held = s.held := rfl
@[simp] theorem State.set_axA (f : Fld) (v : Nat) : (s.set f v).axA = s.axA := rfl
@[simp] theorem State.set_axB (f : Fld) (v : Nat) : (s.set f v).axB = s.axB := rfl
@[simp] theorem State.set_svA (f : Fld) (v : Nat) : (s.set f v).svA = s.svA := rfl
@[simp] theorem State.set_svB (f : Fld) (v : Nat) : (s.set f v).svB = s.svB := rfl
@[simp] theorem State.set_trA (f : Fld) (v : Nat) : (s.set f v).trA = s.trA := rfl
@[simp] theorem State.set_trB (f : Fld) (v : Nat) : (s.set f v).trB = s.trB := rfl
@[simp] theorem State.set_tbA (f : Fld) (v : Nat) : (s.set f v).tbA = s.tbA := rfl
@[simp] theorem State.set_tbB (f : Fld) (v : Nat) : (s.set f v).tbB = s.tbB := rfl
@[simp] theorem State.set_sns (f : Fld) (v : Nat) : (s.set f v).sns = s.sns := rfl
@[simp] theorem State.set_hah (f : Fld) (v : Nat) : (s.set f v).hah = s.hah := rfl
@[simp] theorem State.set_org (f : Fld) (v : Nat) : (s.set f v).org = s.org := rfl
@[simp] theorem State.set_sun (f : Fld) (v : Nat) : (s.set f v).sun = s.sun := rfl
@[simp] theorem State.set_pgl (f : Fld) (v : Nat) : (s.set f v).pgl = s.pgl := rfl
@[simp] theorem State.set_otp (f : Fld) (v : Nat) : (s.set f v).otp = s.otp := rfl
@[simp] theorem State.set_ice (f : Fld) (v : Nat) : (s.set f v).ice = s.ice := rfl
@[simp] theorem State.set_wkt (f : Fld) (v : Nat) : (s.set f v).wkt = s.wkt := rfl
@[simp] theorem State.set_stc (f : Fld) (v : Nat) : (s.set f v).stc = s.stc := rfl
@[simp] theorem State.set_reply (f : Fld) (v : Nat) : (s.set f v).reply = s.reply := rfl
@[simp] theorem State.set_free (f : Fld) (v : Nat) : (s.set f v).free = s.free := rfl
@[simp] theorem State.set_rdSh (f : Fld) (v : Nat) (b : Nat) : (s.set f v).rdSh b = s.rdSh b := rfl
@[simp] theorem State.set_byte (f : Fld) (v : Nat) (b : Nat) : (s.set f v).byte b = s.byte b := rfl

/-! ### State.setSh -/

@[simp] theorem State.setSh_pending (f : Fld) (v : Nat) : (s.setSh f v).pending = s.pending := rfl
@[simp] theorem State.setSh_die (f : Fld) (v : Nat) : (s.setSh f v).die = s.die := rfl
@[simp] theorem State.setSh_pins (f : Fld) (v : Nat) : (s.setSh f v).pins = s.pins := rfl
@[simp] theorem State.setSh_regs (f : Fld) (v : Nat) : (s.setSh f v).regs = s.regs := rfl
@[simp] theorem State.setSh_mem (f : Fld) (v : Nat) : (s.setSh f v).mem = s.mem := rfl
@[simp] theorem State.setSh_ecc1 (f : Fld) (v : Nat) : (s.setSh f v).ecc1 = s.ecc1 := rfl
@[simp] theorem State.setSh_ecc2 (f : Fld) (v : Nat) : (s.setSh f v).ecc2 = s.ecc2 := rfl
@[simp] theorem State.setSh_found (f : Fld) (v : Nat) : (s.setSh f v).found = s.found := rfl
@[simp] theorem State.setSh_img (f : Fld) (v : Nat) : (s.setSh f v).img = s.img := rfl
@[simp] theorem State.setSh_fab (f : Fld) (v : Nat) : (s.setSh f v).fab = s.fab := rfl
@[simp] theorem State.setSh_sources (f : Fld) (v : Nat) : (s.setSh f v).sources = s.sources := rfl
@[simp] theorem State.setSh_held (f : Fld) (v : Nat) : (s.setSh f v).held = s.held := rfl
@[simp] theorem State.setSh_axA (f : Fld) (v : Nat) : (s.setSh f v).axA = s.axA := rfl
@[simp] theorem State.setSh_axB (f : Fld) (v : Nat) : (s.setSh f v).axB = s.axB := rfl
@[simp] theorem State.setSh_svA (f : Fld) (v : Nat) : (s.setSh f v).svA = s.svA := rfl
@[simp] theorem State.setSh_svB (f : Fld) (v : Nat) : (s.setSh f v).svB = s.svB := rfl
@[simp] theorem State.setSh_trA (f : Fld) (v : Nat) : (s.setSh f v).trA = s.trA := rfl
@[simp] theorem State.setSh_trB (f : Fld) (v : Nat) : (s.setSh f v).trB = s.trB := rfl
@[simp] theorem State.setSh_tbA (f : Fld) (v : Nat) : (s.setSh f v).tbA = s.tbA := rfl
@[simp] theorem State.setSh_tbB (f : Fld) (v : Nat) : (s.setSh f v).tbB = s.tbB := rfl
@[simp] theorem State.setSh_sns (f : Fld) (v : Nat) : (s.setSh f v).sns = s.sns := rfl
@[simp] theorem State.setSh_hah (f : Fld) (v : Nat) : (s.setSh f v).hah = s.hah := rfl
@[simp] theorem State.setSh_org (f : Fld) (v : Nat) : (s.setSh f v).org = s.org := rfl
@[simp] theorem State.setSh_sun (f : Fld) (v : Nat) : (s.setSh f v).sun = s.sun := rfl
@[simp] theorem State.setSh_pgl (f : Fld) (v : Nat) : (s.setSh f v).pgl = s.pgl := rfl
@[simp] theorem State.setSh_otp (f : Fld) (v : Nat) : (s.setSh f v).otp = s.otp := rfl
@[simp] theorem State.setSh_ice (f : Fld) (v : Nat) : (s.setSh f v).ice = s.ice := rfl
@[simp] theorem State.setSh_wkt (f : Fld) (v : Nat) : (s.setSh f v).wkt = s.wkt := rfl
@[simp] theorem State.setSh_stc (f : Fld) (v : Nat) : (s.setSh f v).stc = s.stc := rfl
@[simp] theorem State.setSh_reply (f : Fld) (v : Nat) : (s.setSh f v).reply = s.reply := rfl
@[simp] theorem State.setSh_free (f : Fld) (v : Nat) : (s.setSh f v).free = s.free := rfl
@[simp] theorem State.setSh_rd (f : Fld) (v : Nat) (b : Nat) : (s.setSh f v).rd b = s.rd b := rfl
@[simp] theorem State.setSh_fld (f : Fld) (v : Nat) (g : Fld) : (s.setSh f v).fld g = s.fld g := rfl
@[simp] theorem State.setSh_isRunning (f : Fld) (v : Nat) : (s.setSh f v).isRunning = s.isRunning := rfl
@[simp] theorem State.setSh_byte (f : Fld) (v : Nat) (b : Nat) : (s.setSh f v).byte b = s.byte b := rfl

/-! ### State.modAx -/

@[simp] theorem State.modAx_pending (x : Axis) (f : Ax → Ax) : (s.modAx x f).pending = s.pending := by cases x <;> rfl
@[simp] theorem State.modAx_die (x : Axis) (f : Ax → Ax) : (s.modAx x f).die = s.die := by cases x <;> rfl
@[simp] theorem State.modAx_pins (x : Axis) (f : Ax → Ax) : (s.modAx x f).pins = s.pins := by cases x <;> rfl
@[simp] theorem State.modAx_regs (x : Axis) (f : Ax → Ax) : (s.modAx x f).regs = s.regs := by cases x <;> rfl
@[simp] theorem State.modAx_shadow (x : Axis) (f : Ax → Ax) : (s.modAx x f).shadow = s.shadow := by cases x <;> rfl
@[simp] theorem State.modAx_mem (x : Axis) (f : Ax → Ax) : (s.modAx x f).mem = s.mem := by cases x <;> rfl
@[simp] theorem State.modAx_ecc1 (x : Axis) (f : Ax → Ax) : (s.modAx x f).ecc1 = s.ecc1 := by cases x <;> rfl
@[simp] theorem State.modAx_ecc2 (x : Axis) (f : Ax → Ax) : (s.modAx x f).ecc2 = s.ecc2 := by cases x <;> rfl
@[simp] theorem State.modAx_found (x : Axis) (f : Ax → Ax) : (s.modAx x f).found = s.found := by cases x <;> rfl
@[simp] theorem State.modAx_img (x : Axis) (f : Ax → Ax) : (s.modAx x f).img = s.img := by cases x <;> rfl
@[simp] theorem State.modAx_fab (x : Axis) (f : Ax → Ax) : (s.modAx x f).fab = s.fab := by cases x <;> rfl
@[simp] theorem State.modAx_sources (x : Axis) (f : Ax → Ax) : (s.modAx x f).sources = s.sources := by cases x <;> rfl
@[simp] theorem State.modAx_held (x : Axis) (f : Ax → Ax) : (s.modAx x f).held = s.held := by cases x <;> rfl
@[simp] theorem State.modAx_svA (x : Axis) (f : Ax → Ax) : (s.modAx x f).svA = s.svA := by cases x <;> rfl
@[simp] theorem State.modAx_svB (x : Axis) (f : Ax → Ax) : (s.modAx x f).svB = s.svB := by cases x <;> rfl
@[simp] theorem State.modAx_trA (x : Axis) (f : Ax → Ax) : (s.modAx x f).trA = s.trA := by cases x <;> rfl
@[simp] theorem State.modAx_trB (x : Axis) (f : Ax → Ax) : (s.modAx x f).trB = s.trB := by cases x <;> rfl
@[simp] theorem State.modAx_tbA (x : Axis) (f : Ax → Ax) : (s.modAx x f).tbA = s.tbA := by cases x <;> rfl
@[simp] theorem State.modAx_tbB (x : Axis) (f : Ax → Ax) : (s.modAx x f).tbB = s.tbB := by cases x <;> rfl
@[simp] theorem State.modAx_sns (x : Axis) (f : Ax → Ax) : (s.modAx x f).sns = s.sns := by cases x <;> rfl
@[simp] theorem State.modAx_hah (x : Axis) (f : Ax → Ax) : (s.modAx x f).hah = s.hah := by cases x <;> rfl
@[simp] theorem State.modAx_org (x : Axis) (f : Ax → Ax) : (s.modAx x f).org = s.org := by cases x <;> rfl
@[simp] theorem State.modAx_sun (x : Axis) (f : Ax → Ax) : (s.modAx x f).sun = s.sun := by cases x <;> rfl
@[simp] theorem State.modAx_pgl (x : Axis) (f : Ax → Ax) : (s.modAx x f).pgl = s.pgl := by cases x <;> rfl
@[simp] theorem State.modAx_otp (x : Axis) (f : Ax → Ax) : (s.modAx x f).otp = s.otp := by cases x <;> rfl
@[simp] theorem State.modAx_ice (x : Axis) (f : Ax → Ax) : (s.modAx x f).ice = s.ice := by cases x <;> rfl
@[simp] theorem State.modAx_wkt (x : Axis) (f : Ax → Ax) : (s.modAx x f).wkt = s.wkt := by cases x <;> rfl
@[simp] theorem State.modAx_stc (x : Axis) (f : Ax → Ax) : (s.modAx x f).stc = s.stc := by cases x <;> rfl
@[simp] theorem State.modAx_reply (x : Axis) (f : Ax → Ax) : (s.modAx x f).reply = s.reply := by cases x <;> rfl
@[simp] theorem State.modAx_free (x : Axis) (f : Ax → Ax) : (s.modAx x f).free = s.free := by cases x <;> rfl
@[simp] theorem State.modAx_rd (x : Axis) (f : Ax → Ax) (b : Nat) : (s.modAx x f).rd b = s.rd b := by cases x <;> rfl
@[simp] theorem State.modAx_fld (x : Axis) (f : Ax → Ax) (g : Fld) : (s.modAx x f).fld g = s.fld g := by cases x <;> rfl
@[simp] theorem State.modAx_isRunning (x : Axis) (f : Ax → Ax) : (s.modAx x f).isRunning = s.isRunning := by cases x <;> rfl
@[simp] theorem State.modAx_rdSh (x : Axis) (f : Ax → Ax) (b : Nat) : (s.modAx x f).rdSh b = s.rdSh b := by cases x <;> rfl
@[simp] theorem State.modAx_byte (x : Axis) (f : Ax → Ax) (b : Nat) : (s.modAx x f).byte b = s.byte b := by cases x <;> rfl

/-! ### State.modSv -/

@[simp] theorem State.modSv_pending (x : Axis) (f : Svc → Svc) : (s.modSv x f).pending = s.pending := by cases x <;> rfl
@[simp] theorem State.modSv_die (x : Axis) (f : Svc → Svc) : (s.modSv x f).die = s.die := by cases x <;> rfl
@[simp] theorem State.modSv_pins (x : Axis) (f : Svc → Svc) : (s.modSv x f).pins = s.pins := by cases x <;> rfl
@[simp] theorem State.modSv_regs (x : Axis) (f : Svc → Svc) : (s.modSv x f).regs = s.regs := by cases x <;> rfl
@[simp] theorem State.modSv_shadow (x : Axis) (f : Svc → Svc) : (s.modSv x f).shadow = s.shadow := by cases x <;> rfl
@[simp] theorem State.modSv_mem (x : Axis) (f : Svc → Svc) : (s.modSv x f).mem = s.mem := by cases x <;> rfl
@[simp] theorem State.modSv_ecc1 (x : Axis) (f : Svc → Svc) : (s.modSv x f).ecc1 = s.ecc1 := by cases x <;> rfl
@[simp] theorem State.modSv_ecc2 (x : Axis) (f : Svc → Svc) : (s.modSv x f).ecc2 = s.ecc2 := by cases x <;> rfl
@[simp] theorem State.modSv_found (x : Axis) (f : Svc → Svc) : (s.modSv x f).found = s.found := by cases x <;> rfl
@[simp] theorem State.modSv_img (x : Axis) (f : Svc → Svc) : (s.modSv x f).img = s.img := by cases x <;> rfl
@[simp] theorem State.modSv_fab (x : Axis) (f : Svc → Svc) : (s.modSv x f).fab = s.fab := by cases x <;> rfl
@[simp] theorem State.modSv_sources (x : Axis) (f : Svc → Svc) : (s.modSv x f).sources = s.sources := by cases x <;> rfl
@[simp] theorem State.modSv_held (x : Axis) (f : Svc → Svc) : (s.modSv x f).held = s.held := by cases x <;> rfl
@[simp] theorem State.modSv_axA (x : Axis) (f : Svc → Svc) : (s.modSv x f).axA = s.axA := by cases x <;> rfl
@[simp] theorem State.modSv_axB (x : Axis) (f : Svc → Svc) : (s.modSv x f).axB = s.axB := by cases x <;> rfl
@[simp] theorem State.modSv_trA (x : Axis) (f : Svc → Svc) : (s.modSv x f).trA = s.trA := by cases x <;> rfl
@[simp] theorem State.modSv_trB (x : Axis) (f : Svc → Svc) : (s.modSv x f).trB = s.trB := by cases x <;> rfl
@[simp] theorem State.modSv_tbA (x : Axis) (f : Svc → Svc) : (s.modSv x f).tbA = s.tbA := by cases x <;> rfl
@[simp] theorem State.modSv_tbB (x : Axis) (f : Svc → Svc) : (s.modSv x f).tbB = s.tbB := by cases x <;> rfl
@[simp] theorem State.modSv_sns (x : Axis) (f : Svc → Svc) : (s.modSv x f).sns = s.sns := by cases x <;> rfl
@[simp] theorem State.modSv_hah (x : Axis) (f : Svc → Svc) : (s.modSv x f).hah = s.hah := by cases x <;> rfl
@[simp] theorem State.modSv_org (x : Axis) (f : Svc → Svc) : (s.modSv x f).org = s.org := by cases x <;> rfl
@[simp] theorem State.modSv_sun (x : Axis) (f : Svc → Svc) : (s.modSv x f).sun = s.sun := by cases x <;> rfl
@[simp] theorem State.modSv_pgl (x : Axis) (f : Svc → Svc) : (s.modSv x f).pgl = s.pgl := by cases x <;> rfl
@[simp] theorem State.modSv_otp (x : Axis) (f : Svc → Svc) : (s.modSv x f).otp = s.otp := by cases x <;> rfl
@[simp] theorem State.modSv_ice (x : Axis) (f : Svc → Svc) : (s.modSv x f).ice = s.ice := by cases x <;> rfl
@[simp] theorem State.modSv_wkt (x : Axis) (f : Svc → Svc) : (s.modSv x f).wkt = s.wkt := by cases x <;> rfl
@[simp] theorem State.modSv_stc (x : Axis) (f : Svc → Svc) : (s.modSv x f).stc = s.stc := by cases x <;> rfl
@[simp] theorem State.modSv_reply (x : Axis) (f : Svc → Svc) : (s.modSv x f).reply = s.reply := by cases x <;> rfl
@[simp] theorem State.modSv_free (x : Axis) (f : Svc → Svc) : (s.modSv x f).free = s.free := by cases x <;> rfl
@[simp] theorem State.modSv_rd (x : Axis) (f : Svc → Svc) (b : Nat) : (s.modSv x f).rd b = s.rd b := by cases x <;> rfl
@[simp] theorem State.modSv_fld (x : Axis) (f : Svc → Svc) (g : Fld) : (s.modSv x f).fld g = s.fld g := by cases x <;> rfl
@[simp] theorem State.modSv_isRunning (x : Axis) (f : Svc → Svc) : (s.modSv x f).isRunning = s.isRunning := by cases x <;> rfl
@[simp] theorem State.modSv_rdSh (x : Axis) (f : Svc → Svc) (b : Nat) : (s.modSv x f).rdSh b = s.rdSh b := by cases x <;> rfl
@[simp] theorem State.modSv_byte (x : Axis) (f : Svc → Svc) (b : Nat) : (s.modSv x f).byte b = s.byte b := by cases x <;> rfl

/-! ### State.modTr -/

@[simp] theorem State.modTr_pending (x : Axis) (f : Tr → Tr) : (s.modTr x f).pending = s.pending := by cases x <;> rfl
@[simp] theorem State.modTr_die (x : Axis) (f : Tr → Tr) : (s.modTr x f).die = s.die := by cases x <;> rfl
@[simp] theorem State.modTr_pins (x : Axis) (f : Tr → Tr) : (s.modTr x f).pins = s.pins := by cases x <;> rfl
@[simp] theorem State.modTr_regs (x : Axis) (f : Tr → Tr) : (s.modTr x f).regs = s.regs := by cases x <;> rfl
@[simp] theorem State.modTr_shadow (x : Axis) (f : Tr → Tr) : (s.modTr x f).shadow = s.shadow := by cases x <;> rfl
@[simp] theorem State.modTr_mem (x : Axis) (f : Tr → Tr) : (s.modTr x f).mem = s.mem := by cases x <;> rfl
@[simp] theorem State.modTr_ecc1 (x : Axis) (f : Tr → Tr) : (s.modTr x f).ecc1 = s.ecc1 := by cases x <;> rfl
@[simp] theorem State.modTr_ecc2 (x : Axis) (f : Tr → Tr) : (s.modTr x f).ecc2 = s.ecc2 := by cases x <;> rfl
@[simp] theorem State.modTr_found (x : Axis) (f : Tr → Tr) : (s.modTr x f).found = s.found := by cases x <;> rfl
@[simp] theorem State.modTr_img (x : Axis) (f : Tr → Tr) : (s.modTr x f).img = s.img := by cases x <;> rfl
@[simp] theorem State.modTr_fab (x : Axis) (f : Tr → Tr) : (s.modTr x f).fab = s.fab := by cases x <;> rfl
@[simp] theorem State.modTr_sources (x : Axis) (f : Tr → Tr) : (s.modTr x f).sources = s.sources := by cases x <;> rfl
@[simp] theorem State.modTr_held (x : Axis) (f : Tr → Tr) : (s.modTr x f).held = s.held := by cases x <;> rfl
@[simp] theorem State.modTr_axA (x : Axis) (f : Tr → Tr) : (s.modTr x f).axA = s.axA := by cases x <;> rfl
@[simp] theorem State.modTr_axB (x : Axis) (f : Tr → Tr) : (s.modTr x f).axB = s.axB := by cases x <;> rfl
@[simp] theorem State.modTr_svA (x : Axis) (f : Tr → Tr) : (s.modTr x f).svA = s.svA := by cases x <;> rfl
@[simp] theorem State.modTr_svB (x : Axis) (f : Tr → Tr) : (s.modTr x f).svB = s.svB := by cases x <;> rfl
@[simp] theorem State.modTr_tbA (x : Axis) (f : Tr → Tr) : (s.modTr x f).tbA = s.tbA := by cases x <;> rfl
@[simp] theorem State.modTr_tbB (x : Axis) (f : Tr → Tr) : (s.modTr x f).tbB = s.tbB := by cases x <;> rfl
@[simp] theorem State.modTr_sns (x : Axis) (f : Tr → Tr) : (s.modTr x f).sns = s.sns := by cases x <;> rfl
@[simp] theorem State.modTr_hah (x : Axis) (f : Tr → Tr) : (s.modTr x f).hah = s.hah := by cases x <;> rfl
@[simp] theorem State.modTr_org (x : Axis) (f : Tr → Tr) : (s.modTr x f).org = s.org := by cases x <;> rfl
@[simp] theorem State.modTr_sun (x : Axis) (f : Tr → Tr) : (s.modTr x f).sun = s.sun := by cases x <;> rfl
@[simp] theorem State.modTr_pgl (x : Axis) (f : Tr → Tr) : (s.modTr x f).pgl = s.pgl := by cases x <;> rfl
@[simp] theorem State.modTr_otp (x : Axis) (f : Tr → Tr) : (s.modTr x f).otp = s.otp := by cases x <;> rfl
@[simp] theorem State.modTr_ice (x : Axis) (f : Tr → Tr) : (s.modTr x f).ice = s.ice := by cases x <;> rfl
@[simp] theorem State.modTr_wkt (x : Axis) (f : Tr → Tr) : (s.modTr x f).wkt = s.wkt := by cases x <;> rfl
@[simp] theorem State.modTr_stc (x : Axis) (f : Tr → Tr) : (s.modTr x f).stc = s.stc := by cases x <;> rfl
@[simp] theorem State.modTr_reply (x : Axis) (f : Tr → Tr) : (s.modTr x f).reply = s.reply := by cases x <;> rfl
@[simp] theorem State.modTr_free (x : Axis) (f : Tr → Tr) : (s.modTr x f).free = s.free := by cases x <;> rfl
@[simp] theorem State.modTr_rd (x : Axis) (f : Tr → Tr) (b : Nat) : (s.modTr x f).rd b = s.rd b := by cases x <;> rfl
@[simp] theorem State.modTr_fld (x : Axis) (f : Tr → Tr) (g : Fld) : (s.modTr x f).fld g = s.fld g := by cases x <;> rfl
@[simp] theorem State.modTr_isRunning (x : Axis) (f : Tr → Tr) : (s.modTr x f).isRunning = s.isRunning := by cases x <;> rfl
@[simp] theorem State.modTr_rdSh (x : Axis) (f : Tr → Tr) (b : Nat) : (s.modTr x f).rdSh b = s.rdSh b := by cases x <;> rfl
@[simp] theorem State.modTr_byte (x : Axis) (f : Tr → Tr) (b : Nat) : (s.modTr x f).byte b = s.byte b := by cases x <;> rfl

/-! ### State.modTb -/

@[simp] theorem State.modTb_pending (x : Axis) (f : Tb → Tb) : (s.modTb x f).pending = s.pending := by cases x <;> rfl
@[simp] theorem State.modTb_die (x : Axis) (f : Tb → Tb) : (s.modTb x f).die = s.die := by cases x <;> rfl
@[simp] theorem State.modTb_pins (x : Axis) (f : Tb → Tb) : (s.modTb x f).pins = s.pins := by cases x <;> rfl
@[simp] theorem State.modTb_regs (x : Axis) (f : Tb → Tb) : (s.modTb x f).regs = s.regs := by cases x <;> rfl
@[simp] theorem State.modTb_shadow (x : Axis) (f : Tb → Tb) : (s.modTb x f).shadow = s.shadow := by cases x <;> rfl
@[simp] theorem State.modTb_mem (x : Axis) (f : Tb → Tb) : (s.modTb x f).mem = s.mem := by cases x <;> rfl
@[simp] theorem State.modTb_ecc1 (x : Axis) (f : Tb → Tb) : (s.modTb x f).ecc1 = s.ecc1 := by cases x <;> rfl
@[simp] theorem State.modTb_ecc2 (x : Axis) (f : Tb → Tb) : (s.modTb x f).ecc2 = s.ecc2 := by cases x <;> rfl
@[simp] theorem State.modTb_found (x : Axis) (f : Tb → Tb) : (s.modTb x f).found = s.found := by cases x <;> rfl
@[simp] theorem State.modTb_img (x : Axis) (f : Tb → Tb) : (s.modTb x f).img = s.img := by cases x <;> rfl
@[simp] theorem State.modTb_fab (x : Axis) (f : Tb → Tb) : (s.modTb x f).fab = s.fab := by cases x <;> rfl
@[simp] theorem State.modTb_sources (x : Axis) (f : Tb → Tb) : (s.modTb x f).sources = s.sources := by cases x <;> rfl
@[simp] theorem State.modTb_held (x : Axis) (f : Tb → Tb) : (s.modTb x f).held = s.held := by cases x <;> rfl
@[simp] theorem State.modTb_axA (x : Axis) (f : Tb → Tb) : (s.modTb x f).axA = s.axA := by cases x <;> rfl
@[simp] theorem State.modTb_axB (x : Axis) (f : Tb → Tb) : (s.modTb x f).axB = s.axB := by cases x <;> rfl
@[simp] theorem State.modTb_svA (x : Axis) (f : Tb → Tb) : (s.modTb x f).svA = s.svA := by cases x <;> rfl
@[simp] theorem State.modTb_svB (x : Axis) (f : Tb → Tb) : (s.modTb x f).svB = s.svB := by cases x <;> rfl
@[simp] theorem State.modTb_trA (x : Axis) (f : Tb → Tb) : (s.modTb x f).trA = s.trA := by cases x <;> rfl
@[simp] theorem State.modTb_trB (x : Axis) (f : Tb → Tb) : (s.modTb x f).trB = s.trB := by cases x <;> rfl
@[simp] theorem State.modTb_sns (x : Axis) (f : Tb → Tb) : (s.modTb x f).sns = s.sns := by cases x <;> rfl
@[simp] theorem State.modTb_hah (x : Axis) (f : Tb → Tb) : (s.modTb x f).hah = s.hah := by cases x <;> rfl
@[simp] theorem State.modTb_org (x : Axis) (f : Tb → Tb) : (s.modTb x f).org = s.org := by cases x <;> rfl
@[simp] theorem State.modTb_sun (x : Axis) (f : Tb → Tb) : (s.modTb x f).sun = s.sun := by cases x <;> rfl
@[simp] theorem State.modTb_pgl (x : Axis) (f : Tb → Tb) : (s.modTb x f).pgl = s.pgl := by cases x <;> rfl
@[simp] theorem State.modTb_otp (x : Axis) (f : Tb → Tb) : (s.modTb x f).otp = s.otp := by cases x <;> rfl
@[simp] theorem State.modTb_ice (x : Axis) (f : Tb → Tb) : (s.modTb x f).ice = s.ice := by cases x <;> rfl
@[simp] theorem State.modTb_wkt (x : Axis) (f : Tb → Tb) : (s.modTb x f).wkt = s.wkt := by cases x <;> rfl
@[simp] theorem State.modTb_stc (x : Axis) (f : Tb → Tb) : (s.modTb x f).stc = s.stc := by cases x <;> rfl
@[simp] theorem State.modTb_reply (x : Axis) (f : Tb → Tb) : (s.modTb x f).reply = s.reply := by cases x <;> rfl
@[simp] theorem State.modTb_free (x : Axis) (f : Tb → Tb) : (s.modTb x f).free = s.free := by cases x <;> rfl
@[simp] theorem State.modTb_rd (x : Axis) (f : Tb → Tb) (b : Nat) : (s.modTb x f).rd b = s.rd b := by cases x <;> rfl
@[simp] theorem State.modTb_fld (x : Axis) (f : Tb → Tb) (g : Fld) : (s.modTb x f).fld g = s.fld g := by cases x <;> rfl
@[simp] theorem State.modTb_isRunning (x : Axis) (f : Tb → Tb) : (s.modTb x f).isRunning = s.isRunning := by cases x <;> rfl
@[simp] theorem State.modTb_rdSh (x : Axis) (f : Tb → Tb) (b : Nat) : (s.modTb x f).rdSh b = s.rdSh b := by cases x <;> rfl
@[simp] theorem State.modTb_byte (x : Axis) (f : Tb → Tb) (b : Nat) : (s.modTb x f).byte b = s.byte b := by cases x <;> rfl

/-! ### State.modSns -/

@[simp] theorem State.modSns_pending (f : Sense → Sense) : (s.modSns f).pending = s.pending := rfl
@[simp] theorem State.modSns_die (f : Sense → Sense) : (s.modSns f).die = s.die := rfl
@[simp] theorem State.modSns_pins (f : Sense → Sense) : (s.modSns f).pins = s.pins := rfl
@[simp] theorem State.modSns_regs (f : Sense → Sense) : (s.modSns f).regs = s.regs := rfl
@[simp] theorem State.modSns_shadow (f : Sense → Sense) : (s.modSns f).shadow = s.shadow := rfl
@[simp] theorem State.modSns_mem (f : Sense → Sense) : (s.modSns f).mem = s.mem := rfl
@[simp] theorem State.modSns_ecc1 (f : Sense → Sense) : (s.modSns f).ecc1 = s.ecc1 := rfl
@[simp] theorem State.modSns_ecc2 (f : Sense → Sense) : (s.modSns f).ecc2 = s.ecc2 := rfl
@[simp] theorem State.modSns_found (f : Sense → Sense) : (s.modSns f).found = s.found := rfl
@[simp] theorem State.modSns_img (f : Sense → Sense) : (s.modSns f).img = s.img := rfl
@[simp] theorem State.modSns_fab (f : Sense → Sense) : (s.modSns f).fab = s.fab := rfl
@[simp] theorem State.modSns_sources (f : Sense → Sense) : (s.modSns f).sources = s.sources := rfl
@[simp] theorem State.modSns_held (f : Sense → Sense) : (s.modSns f).held = s.held := rfl
@[simp] theorem State.modSns_axA (f : Sense → Sense) : (s.modSns f).axA = s.axA := rfl
@[simp] theorem State.modSns_axB (f : Sense → Sense) : (s.modSns f).axB = s.axB := rfl
@[simp] theorem State.modSns_svA (f : Sense → Sense) : (s.modSns f).svA = s.svA := rfl
@[simp] theorem State.modSns_svB (f : Sense → Sense) : (s.modSns f).svB = s.svB := rfl
@[simp] theorem State.modSns_trA (f : Sense → Sense) : (s.modSns f).trA = s.trA := rfl
@[simp] theorem State.modSns_trB (f : Sense → Sense) : (s.modSns f).trB = s.trB := rfl
@[simp] theorem State.modSns_tbA (f : Sense → Sense) : (s.modSns f).tbA = s.tbA := rfl
@[simp] theorem State.modSns_tbB (f : Sense → Sense) : (s.modSns f).tbB = s.tbB := rfl
@[simp] theorem State.modSns_hah (f : Sense → Sense) : (s.modSns f).hah = s.hah := rfl
@[simp] theorem State.modSns_org (f : Sense → Sense) : (s.modSns f).org = s.org := rfl
@[simp] theorem State.modSns_sun (f : Sense → Sense) : (s.modSns f).sun = s.sun := rfl
@[simp] theorem State.modSns_pgl (f : Sense → Sense) : (s.modSns f).pgl = s.pgl := rfl
@[simp] theorem State.modSns_otp (f : Sense → Sense) : (s.modSns f).otp = s.otp := rfl
@[simp] theorem State.modSns_ice (f : Sense → Sense) : (s.modSns f).ice = s.ice := rfl
@[simp] theorem State.modSns_wkt (f : Sense → Sense) : (s.modSns f).wkt = s.wkt := rfl
@[simp] theorem State.modSns_stc (f : Sense → Sense) : (s.modSns f).stc = s.stc := rfl
@[simp] theorem State.modSns_reply (f : Sense → Sense) : (s.modSns f).reply = s.reply := rfl
@[simp] theorem State.modSns_free (f : Sense → Sense) : (s.modSns f).free = s.free := rfl
@[simp] theorem State.modSns_rd (f : Sense → Sense) (b : Nat) : (s.modSns f).rd b = s.rd b := rfl
@[simp] theorem State.modSns_fld (f : Sense → Sense) (g : Fld) : (s.modSns f).fld g = s.fld g := rfl
@[simp] theorem State.modSns_isRunning (f : Sense → Sense) : (s.modSns f).isRunning = s.isRunning := rfl
@[simp] theorem State.modSns_rdSh (f : Sense → Sense) (b : Nat) : (s.modSns f).rdSh b = s.rdSh b := rfl
@[simp] theorem State.modSns_byte (f : Sense → Sense) (b : Nat) : (s.modSns f).byte b = s.byte b := rfl

/-! ### State.modKiosk -/

@[simp] theorem State.modKiosk_pending (k : Nat) (f : Kiosk → Kiosk) : (s.modKiosk k f).pending = s.pending := rfl
@[simp] theorem State.modKiosk_die (k : Nat) (f : Kiosk → Kiosk) : (s.modKiosk k f).die = s.die := rfl
@[simp] theorem State.modKiosk_pins (k : Nat) (f : Kiosk → Kiosk) : (s.modKiosk k f).pins = s.pins := rfl
@[simp] theorem State.modKiosk_regs (k : Nat) (f : Kiosk → Kiosk) : (s.modKiosk k f).regs = s.regs := rfl
@[simp] theorem State.modKiosk_shadow (k : Nat) (f : Kiosk → Kiosk) : (s.modKiosk k f).shadow = s.shadow := rfl
@[simp] theorem State.modKiosk_mem (k : Nat) (f : Kiosk → Kiosk) : (s.modKiosk k f).mem = s.mem := rfl
@[simp] theorem State.modKiosk_ecc1 (k : Nat) (f : Kiosk → Kiosk) : (s.modKiosk k f).ecc1 = s.ecc1 := rfl
@[simp] theorem State.modKiosk_ecc2 (k : Nat) (f : Kiosk → Kiosk) : (s.modKiosk k f).ecc2 = s.ecc2 := rfl
@[simp] theorem State.modKiosk_found (k : Nat) (f : Kiosk → Kiosk) : (s.modKiosk k f).found = s.found := rfl
@[simp] theorem State.modKiosk_img (k : Nat) (f : Kiosk → Kiosk) : (s.modKiosk k f).img = s.img := rfl
@[simp] theorem State.modKiosk_sources (k : Nat) (f : Kiosk → Kiosk) : (s.modKiosk k f).sources = s.sources := rfl
@[simp] theorem State.modKiosk_held (k : Nat) (f : Kiosk → Kiosk) : (s.modKiosk k f).held = s.held := rfl
@[simp] theorem State.modKiosk_axA (k : Nat) (f : Kiosk → Kiosk) : (s.modKiosk k f).axA = s.axA := rfl
@[simp] theorem State.modKiosk_axB (k : Nat) (f : Kiosk → Kiosk) : (s.modKiosk k f).axB = s.axB := rfl
@[simp] theorem State.modKiosk_svA (k : Nat) (f : Kiosk → Kiosk) : (s.modKiosk k f).svA = s.svA := rfl
@[simp] theorem State.modKiosk_svB (k : Nat) (f : Kiosk → Kiosk) : (s.modKiosk k f).svB = s.svB := rfl
@[simp] theorem State.modKiosk_trA (k : Nat) (f : Kiosk → Kiosk) : (s.modKiosk k f).trA = s.trA := rfl
@[simp] theorem State.modKiosk_trB (k : Nat) (f : Kiosk → Kiosk) : (s.modKiosk k f).trB = s.trB := rfl
@[simp] theorem State.modKiosk_tbA (k : Nat) (f : Kiosk → Kiosk) : (s.modKiosk k f).tbA = s.tbA := rfl
@[simp] theorem State.modKiosk_tbB (k : Nat) (f : Kiosk → Kiosk) : (s.modKiosk k f).tbB = s.tbB := rfl
@[simp] theorem State.modKiosk_sns (k : Nat) (f : Kiosk → Kiosk) : (s.modKiosk k f).sns = s.sns := rfl
@[simp] theorem State.modKiosk_hah (k : Nat) (f : Kiosk → Kiosk) : (s.modKiosk k f).hah = s.hah := rfl
@[simp] theorem State.modKiosk_org (k : Nat) (f : Kiosk → Kiosk) : (s.modKiosk k f).org = s.org := rfl
@[simp] theorem State.modKiosk_sun (k : Nat) (f : Kiosk → Kiosk) : (s.modKiosk k f).sun = s.sun := rfl
@[simp] theorem State.modKiosk_pgl (k : Nat) (f : Kiosk → Kiosk) : (s.modKiosk k f).pgl = s.pgl := rfl
@[simp] theorem State.modKiosk_otp (k : Nat) (f : Kiosk → Kiosk) : (s.modKiosk k f).otp = s.otp := rfl
@[simp] theorem State.modKiosk_ice (k : Nat) (f : Kiosk → Kiosk) : (s.modKiosk k f).ice = s.ice := rfl
@[simp] theorem State.modKiosk_wkt (k : Nat) (f : Kiosk → Kiosk) : (s.modKiosk k f).wkt = s.wkt := rfl
@[simp] theorem State.modKiosk_stc (k : Nat) (f : Kiosk → Kiosk) : (s.modKiosk k f).stc = s.stc := rfl
@[simp] theorem State.modKiosk_reply (k : Nat) (f : Kiosk → Kiosk) : (s.modKiosk k f).reply = s.reply := rfl
@[simp] theorem State.modKiosk_free (k : Nat) (f : Kiosk → Kiosk) : (s.modKiosk k f).free = s.free := rfl
@[simp] theorem State.modKiosk_rd (k : Nat) (f : Kiosk → Kiosk) (b : Nat) : (s.modKiosk k f).rd b = s.rd b := rfl
@[simp] theorem State.modKiosk_fld (k : Nat) (f : Kiosk → Kiosk) (g : Fld) : (s.modKiosk k f).fld g = s.fld g := rfl
@[simp] theorem State.modKiosk_isRunning (k : Nat) (f : Kiosk → Kiosk) : (s.modKiosk k f).isRunning = s.isRunning := rfl
@[simp] theorem State.modKiosk_rdSh (k : Nat) (f : Kiosk → Kiosk) (b : Nat) : (s.modKiosk k f).rdSh b = s.rdSh b := rfl
@[simp] theorem State.modKiosk_byte (k : Nat) (f : Kiosk → Kiosk) (b : Nat) : (s.modKiosk k f).byte b = s.byte b := rfl

/-! ### State.modSun -/

@[simp] theorem State.modSun_pending (f : Sun → Sun) : (s.modSun f).pending = s.pending := rfl
@[simp] theorem State.modSun_die (f : Sun → Sun) : (s.modSun f).die = s.die := rfl
@[simp] theorem State.modSun_pins (f : Sun → Sun) : (s.modSun f).pins = s.pins := rfl
@[simp] theorem State.modSun_regs (f : Sun → Sun) : (s.modSun f).regs = s.regs := rfl
@[simp] theorem State.modSun_shadow (f : Sun → Sun) : (s.modSun f).shadow = s.shadow := rfl
@[simp] theorem State.modSun_mem (f : Sun → Sun) : (s.modSun f).mem = s.mem := rfl
@[simp] theorem State.modSun_ecc1 (f : Sun → Sun) : (s.modSun f).ecc1 = s.ecc1 := rfl
@[simp] theorem State.modSun_ecc2 (f : Sun → Sun) : (s.modSun f).ecc2 = s.ecc2 := rfl
@[simp] theorem State.modSun_found (f : Sun → Sun) : (s.modSun f).found = s.found := rfl
@[simp] theorem State.modSun_img (f : Sun → Sun) : (s.modSun f).img = s.img := rfl
@[simp] theorem State.modSun_fab (f : Sun → Sun) : (s.modSun f).fab = s.fab := rfl
@[simp] theorem State.modSun_sources (f : Sun → Sun) : (s.modSun f).sources = s.sources := rfl
@[simp] theorem State.modSun_held (f : Sun → Sun) : (s.modSun f).held = s.held := rfl
@[simp] theorem State.modSun_axA (f : Sun → Sun) : (s.modSun f).axA = s.axA := rfl
@[simp] theorem State.modSun_axB (f : Sun → Sun) : (s.modSun f).axB = s.axB := rfl
@[simp] theorem State.modSun_svA (f : Sun → Sun) : (s.modSun f).svA = s.svA := rfl
@[simp] theorem State.modSun_svB (f : Sun → Sun) : (s.modSun f).svB = s.svB := rfl
@[simp] theorem State.modSun_trA (f : Sun → Sun) : (s.modSun f).trA = s.trA := rfl
@[simp] theorem State.modSun_trB (f : Sun → Sun) : (s.modSun f).trB = s.trB := rfl
@[simp] theorem State.modSun_tbA (f : Sun → Sun) : (s.modSun f).tbA = s.tbA := rfl
@[simp] theorem State.modSun_tbB (f : Sun → Sun) : (s.modSun f).tbB = s.tbB := rfl
@[simp] theorem State.modSun_sns (f : Sun → Sun) : (s.modSun f).sns = s.sns := rfl
@[simp] theorem State.modSun_hah (f : Sun → Sun) : (s.modSun f).hah = s.hah := rfl
@[simp] theorem State.modSun_org (f : Sun → Sun) : (s.modSun f).org = s.org := rfl
@[simp] theorem State.modSun_pgl (f : Sun → Sun) : (s.modSun f).pgl = s.pgl := rfl
@[simp] theorem State.modSun_otp (f : Sun → Sun) : (s.modSun f).otp = s.otp := rfl
@[simp] theorem State.modSun_ice (f : Sun → Sun) : (s.modSun f).ice = s.ice := rfl
@[simp] theorem State.modSun_wkt (f : Sun → Sun) : (s.modSun f).wkt = s.wkt := rfl
@[simp] theorem State.modSun_stc (f : Sun → Sun) : (s.modSun f).stc = s.stc := rfl
@[simp] theorem State.modSun_reply (f : Sun → Sun) : (s.modSun f).reply = s.reply := rfl
@[simp] theorem State.modSun_free (f : Sun → Sun) : (s.modSun f).free = s.free := rfl
@[simp] theorem State.modSun_rd (f : Sun → Sun) (b : Nat) : (s.modSun f).rd b = s.rd b := rfl
@[simp] theorem State.modSun_fld (f : Sun → Sun) (g : Fld) : (s.modSun f).fld g = s.fld g := rfl
@[simp] theorem State.modSun_isRunning (f : Sun → Sun) : (s.modSun f).isRunning = s.isRunning := rfl
@[simp] theorem State.modSun_rdSh (f : Sun → Sun) (b : Nat) : (s.modSun f).rdSh b = s.rdSh b := rfl
@[simp] theorem State.modSun_byte (f : Sun → Sun) (b : Nat) : (s.modSun f).byte b = s.byte b := rfl

/-! ### State.modOrg -/

@[simp] theorem State.modOrg_pending (f : Org → Org) : (s.modOrg f).pending = s.pending := rfl
@[simp] theorem State.modOrg_die (f : Org → Org) : (s.modOrg f).die = s.die := rfl
@[simp] theorem State.modOrg_pins (f : Org → Org) : (s.modOrg f).pins = s.pins := rfl
@[simp] theorem State.modOrg_regs (f : Org → Org) : (s.modOrg f).regs = s.regs := rfl
@[simp] theorem State.modOrg_shadow (f : Org → Org) : (s.modOrg f).shadow = s.shadow := rfl
@[simp] theorem State.modOrg_mem (f : Org → Org) : (s.modOrg f).mem = s.mem := rfl
@[simp] theorem State.modOrg_ecc1 (f : Org → Org) : (s.modOrg f).ecc1 = s.ecc1 := rfl
@[simp] theorem State.modOrg_ecc2 (f : Org → Org) : (s.modOrg f).ecc2 = s.ecc2 := rfl
@[simp] theorem State.modOrg_found (f : Org → Org) : (s.modOrg f).found = s.found := rfl
@[simp] theorem State.modOrg_img (f : Org → Org) : (s.modOrg f).img = s.img := rfl
@[simp] theorem State.modOrg_fab (f : Org → Org) : (s.modOrg f).fab = s.fab := rfl
@[simp] theorem State.modOrg_sources (f : Org → Org) : (s.modOrg f).sources = s.sources := rfl
@[simp] theorem State.modOrg_held (f : Org → Org) : (s.modOrg f).held = s.held := rfl
@[simp] theorem State.modOrg_axA (f : Org → Org) : (s.modOrg f).axA = s.axA := rfl
@[simp] theorem State.modOrg_axB (f : Org → Org) : (s.modOrg f).axB = s.axB := rfl
@[simp] theorem State.modOrg_svA (f : Org → Org) : (s.modOrg f).svA = s.svA := rfl
@[simp] theorem State.modOrg_svB (f : Org → Org) : (s.modOrg f).svB = s.svB := rfl
@[simp] theorem State.modOrg_trA (f : Org → Org) : (s.modOrg f).trA = s.trA := rfl
@[simp] theorem State.modOrg_trB (f : Org → Org) : (s.modOrg f).trB = s.trB := rfl
@[simp] theorem State.modOrg_tbA (f : Org → Org) : (s.modOrg f).tbA = s.tbA := rfl
@[simp] theorem State.modOrg_tbB (f : Org → Org) : (s.modOrg f).tbB = s.tbB := rfl
@[simp] theorem State.modOrg_sns (f : Org → Org) : (s.modOrg f).sns = s.sns := rfl
@[simp] theorem State.modOrg_hah (f : Org → Org) : (s.modOrg f).hah = s.hah := rfl
@[simp] theorem State.modOrg_sun (f : Org → Org) : (s.modOrg f).sun = s.sun := rfl
@[simp] theorem State.modOrg_pgl (f : Org → Org) : (s.modOrg f).pgl = s.pgl := rfl
@[simp] theorem State.modOrg_otp (f : Org → Org) : (s.modOrg f).otp = s.otp := rfl
@[simp] theorem State.modOrg_ice (f : Org → Org) : (s.modOrg f).ice = s.ice := rfl
@[simp] theorem State.modOrg_wkt (f : Org → Org) : (s.modOrg f).wkt = s.wkt := rfl
@[simp] theorem State.modOrg_stc (f : Org → Org) : (s.modOrg f).stc = s.stc := rfl
@[simp] theorem State.modOrg_reply (f : Org → Org) : (s.modOrg f).reply = s.reply := rfl
@[simp] theorem State.modOrg_free (f : Org → Org) : (s.modOrg f).free = s.free := rfl
@[simp] theorem State.modOrg_rd (f : Org → Org) (b : Nat) : (s.modOrg f).rd b = s.rd b := rfl
@[simp] theorem State.modOrg_fld (f : Org → Org) (g : Fld) : (s.modOrg f).fld g = s.fld g := rfl
@[simp] theorem State.modOrg_isRunning (f : Org → Org) : (s.modOrg f).isRunning = s.isRunning := rfl
@[simp] theorem State.modOrg_rdSh (f : Org → Org) (b : Nat) : (s.modOrg f).rdSh b = s.rdSh b := rfl
@[simp] theorem State.modOrg_byte (f : Org → Org) (b : Nat) : (s.modOrg f).byte b = s.byte b := rfl

/-! ### State.modOtp -/

@[simp] theorem State.modOtp_pending (f : Otp → Otp) : (s.modOtp f).pending = s.pending := rfl
@[simp] theorem State.modOtp_die (f : Otp → Otp) : (s.modOtp f).die = s.die := rfl
@[simp] theorem State.modOtp_pins (f : Otp → Otp) : (s.modOtp f).pins = s.pins := rfl
@[simp] theorem State.modOtp_regs (f : Otp → Otp) : (s.modOtp f).regs = s.regs := rfl
@[simp] theorem State.modOtp_shadow (f : Otp → Otp) : (s.modOtp f).shadow = s.shadow := rfl
@[simp] theorem State.modOtp_mem (f : Otp → Otp) : (s.modOtp f).mem = s.mem := rfl
@[simp] theorem State.modOtp_ecc1 (f : Otp → Otp) : (s.modOtp f).ecc1 = s.ecc1 := rfl
@[simp] theorem State.modOtp_ecc2 (f : Otp → Otp) : (s.modOtp f).ecc2 = s.ecc2 := rfl
@[simp] theorem State.modOtp_found (f : Otp → Otp) : (s.modOtp f).found = s.found := rfl
@[simp] theorem State.modOtp_img (f : Otp → Otp) : (s.modOtp f).img = s.img := rfl
@[simp] theorem State.modOtp_fab (f : Otp → Otp) : (s.modOtp f).fab = s.fab := rfl
@[simp] theorem State.modOtp_sources (f : Otp → Otp) : (s.modOtp f).sources = s.sources := rfl
@[simp] theorem State.modOtp_held (f : Otp → Otp) : (s.modOtp f).held = s.held := rfl
@[simp] theorem State.modOtp_axA (f : Otp → Otp) : (s.modOtp f).axA = s.axA := rfl
@[simp] theorem State.modOtp_axB (f : Otp → Otp) : (s.modOtp f).axB = s.axB := rfl
@[simp] theorem State.modOtp_svA (f : Otp → Otp) : (s.modOtp f).svA = s.svA := rfl
@[simp] theorem State.modOtp_svB (f : Otp → Otp) : (s.modOtp f).svB = s.svB := rfl
@[simp] theorem State.modOtp_trA (f : Otp → Otp) : (s.modOtp f).trA = s.trA := rfl
@[simp] theorem State.modOtp_trB (f : Otp → Otp) : (s.modOtp f).trB = s.trB := rfl
@[simp] theorem State.modOtp_tbA (f : Otp → Otp) : (s.modOtp f).tbA = s.tbA := rfl
@[simp] theorem State.modOtp_tbB (f : Otp → Otp) : (s.modOtp f).tbB = s.tbB := rfl
@[simp] theorem State.modOtp_sns (f : Otp → Otp) : (s.modOtp f).sns = s.sns := rfl
@[simp] theorem State.modOtp_hah (f : Otp → Otp) : (s.modOtp f).hah = s.hah := rfl
@[simp] theorem State.modOtp_org (f : Otp → Otp) : (s.modOtp f).org = s.org := rfl
@[simp] theorem State.modOtp_sun (f : Otp → Otp) : (s.modOtp f).sun = s.sun := rfl
@[simp] theorem State.modOtp_pgl (f : Otp → Otp) : (s.modOtp f).pgl = s.pgl := rfl
@[simp] theorem State.modOtp_ice (f : Otp → Otp) : (s.modOtp f).ice = s.ice := rfl
@[simp] theorem State.modOtp_wkt (f : Otp → Otp) : (s.modOtp f).wkt = s.wkt := rfl
@[simp] theorem State.modOtp_stc (f : Otp → Otp) : (s.modOtp f).stc = s.stc := rfl
@[simp] theorem State.modOtp_reply (f : Otp → Otp) : (s.modOtp f).reply = s.reply := rfl
@[simp] theorem State.modOtp_free (f : Otp → Otp) : (s.modOtp f).free = s.free := rfl
@[simp] theorem State.modOtp_rd (f : Otp → Otp) (b : Nat) : (s.modOtp f).rd b = s.rd b := rfl
@[simp] theorem State.modOtp_fld (f : Otp → Otp) (g : Fld) : (s.modOtp f).fld g = s.fld g := rfl
@[simp] theorem State.modOtp_isRunning (f : Otp → Otp) : (s.modOtp f).isRunning = s.isRunning := rfl
@[simp] theorem State.modOtp_rdSh (f : Otp → Otp) (b : Nat) : (s.modOtp f).rdSh b = s.rdSh b := rfl
@[simp] theorem State.modOtp_byte (f : Otp → Otp) (b : Nat) : (s.modOtp f).byte b = s.byte b := rfl

/-! ### State.modIce -/

@[simp] theorem State.modIce_pending (f : Ice → Ice) : (s.modIce f).pending = s.pending := rfl
@[simp] theorem State.modIce_die (f : Ice → Ice) : (s.modIce f).die = s.die := rfl
@[simp] theorem State.modIce_pins (f : Ice → Ice) : (s.modIce f).pins = s.pins := rfl
@[simp] theorem State.modIce_regs (f : Ice → Ice) : (s.modIce f).regs = s.regs := rfl
@[simp] theorem State.modIce_shadow (f : Ice → Ice) : (s.modIce f).shadow = s.shadow := rfl
@[simp] theorem State.modIce_mem (f : Ice → Ice) : (s.modIce f).mem = s.mem := rfl
@[simp] theorem State.modIce_ecc1 (f : Ice → Ice) : (s.modIce f).ecc1 = s.ecc1 := rfl
@[simp] theorem State.modIce_ecc2 (f : Ice → Ice) : (s.modIce f).ecc2 = s.ecc2 := rfl
@[simp] theorem State.modIce_found (f : Ice → Ice) : (s.modIce f).found = s.found := rfl
@[simp] theorem State.modIce_img (f : Ice → Ice) : (s.modIce f).img = s.img := rfl
@[simp] theorem State.modIce_fab (f : Ice → Ice) : (s.modIce f).fab = s.fab := rfl
@[simp] theorem State.modIce_sources (f : Ice → Ice) : (s.modIce f).sources = s.sources := rfl
@[simp] theorem State.modIce_held (f : Ice → Ice) : (s.modIce f).held = s.held := rfl
@[simp] theorem State.modIce_axA (f : Ice → Ice) : (s.modIce f).axA = s.axA := rfl
@[simp] theorem State.modIce_axB (f : Ice → Ice) : (s.modIce f).axB = s.axB := rfl
@[simp] theorem State.modIce_svA (f : Ice → Ice) : (s.modIce f).svA = s.svA := rfl
@[simp] theorem State.modIce_svB (f : Ice → Ice) : (s.modIce f).svB = s.svB := rfl
@[simp] theorem State.modIce_trA (f : Ice → Ice) : (s.modIce f).trA = s.trA := rfl
@[simp] theorem State.modIce_trB (f : Ice → Ice) : (s.modIce f).trB = s.trB := rfl
@[simp] theorem State.modIce_tbA (f : Ice → Ice) : (s.modIce f).tbA = s.tbA := rfl
@[simp] theorem State.modIce_tbB (f : Ice → Ice) : (s.modIce f).tbB = s.tbB := rfl
@[simp] theorem State.modIce_sns (f : Ice → Ice) : (s.modIce f).sns = s.sns := rfl
@[simp] theorem State.modIce_hah (f : Ice → Ice) : (s.modIce f).hah = s.hah := rfl
@[simp] theorem State.modIce_org (f : Ice → Ice) : (s.modIce f).org = s.org := rfl
@[simp] theorem State.modIce_sun (f : Ice → Ice) : (s.modIce f).sun = s.sun := rfl
@[simp] theorem State.modIce_pgl (f : Ice → Ice) : (s.modIce f).pgl = s.pgl := rfl
@[simp] theorem State.modIce_otp (f : Ice → Ice) : (s.modIce f).otp = s.otp := rfl
@[simp] theorem State.modIce_wkt (f : Ice → Ice) : (s.modIce f).wkt = s.wkt := rfl
@[simp] theorem State.modIce_stc (f : Ice → Ice) : (s.modIce f).stc = s.stc := rfl
@[simp] theorem State.modIce_reply (f : Ice → Ice) : (s.modIce f).reply = s.reply := rfl
@[simp] theorem State.modIce_free (f : Ice → Ice) : (s.modIce f).free = s.free := rfl
@[simp] theorem State.modIce_rd (f : Ice → Ice) (b : Nat) : (s.modIce f).rd b = s.rd b := rfl
@[simp] theorem State.modIce_fld (f : Ice → Ice) (g : Fld) : (s.modIce f).fld g = s.fld g := rfl
@[simp] theorem State.modIce_isRunning (f : Ice → Ice) : (s.modIce f).isRunning = s.isRunning := rfl
@[simp] theorem State.modIce_rdSh (f : Ice → Ice) (b : Nat) : (s.modIce f).rdSh b = s.rdSh b := rfl
@[simp] theorem State.modIce_byte (f : Ice → Ice) (b : Nat) : (s.modIce f).byte b = s.byte b := rfl

/-! ### State.modWkt -/

@[simp] theorem State.modWkt_pending (f : Wkt → Wkt) : (s.modWkt f).pending = s.pending := rfl
@[simp] theorem State.modWkt_die (f : Wkt → Wkt) : (s.modWkt f).die = s.die := rfl
@[simp] theorem State.modWkt_pins (f : Wkt → Wkt) : (s.modWkt f).pins = s.pins := rfl
@[simp] theorem State.modWkt_regs (f : Wkt → Wkt) : (s.modWkt f).regs = s.regs := rfl
@[simp] theorem State.modWkt_shadow (f : Wkt → Wkt) : (s.modWkt f).shadow = s.shadow := rfl
@[simp] theorem State.modWkt_mem (f : Wkt → Wkt) : (s.modWkt f).mem = s.mem := rfl
@[simp] theorem State.modWkt_ecc1 (f : Wkt → Wkt) : (s.modWkt f).ecc1 = s.ecc1 := rfl
@[simp] theorem State.modWkt_ecc2 (f : Wkt → Wkt) : (s.modWkt f).ecc2 = s.ecc2 := rfl
@[simp] theorem State.modWkt_found (f : Wkt → Wkt) : (s.modWkt f).found = s.found := rfl
@[simp] theorem State.modWkt_img (f : Wkt → Wkt) : (s.modWkt f).img = s.img := rfl
@[simp] theorem State.modWkt_fab (f : Wkt → Wkt) : (s.modWkt f).fab = s.fab := rfl
@[simp] theorem State.modWkt_sources (f : Wkt → Wkt) : (s.modWkt f).sources = s.sources := rfl
@[simp] theorem State.modWkt_held (f : Wkt → Wkt) : (s.modWkt f).held = s.held := rfl
@[simp] theorem State.modWkt_axA (f : Wkt → Wkt) : (s.modWkt f).axA = s.axA := rfl
@[simp] theorem State.modWkt_axB (f : Wkt → Wkt) : (s.modWkt f).axB = s.axB := rfl
@[simp] theorem State.modWkt_svA (f : Wkt → Wkt) : (s.modWkt f).svA = s.svA := rfl
@[simp] theorem State.modWkt_svB (f : Wkt → Wkt) : (s.modWkt f).svB = s.svB := rfl
@[simp] theorem State.modWkt_trA (f : Wkt → Wkt) : (s.modWkt f).trA = s.trA := rfl
@[simp] theorem State.modWkt_trB (f : Wkt → Wkt) : (s.modWkt f).trB = s.trB := rfl
@[simp] theorem State.modWkt_tbA (f : Wkt → Wkt) : (s.modWkt f).tbA = s.tbA := rfl
@[simp] theorem State.modWkt_tbB (f : Wkt → Wkt) : (s.modWkt f).tbB = s.tbB := rfl
@[simp] theorem State.modWkt_sns (f : Wkt → Wkt) : (s.modWkt f).sns = s.sns := rfl
@[simp] theorem State.modWkt_hah (f : Wkt → Wkt) : (s.modWkt f).hah = s.hah := rfl
@[simp] theorem State.modWkt_org (f : Wkt → Wkt) : (s.modWkt f).org = s.org := rfl
@[simp] theorem State.modWkt_sun (f : Wkt → Wkt) : (s.modWkt f).sun = s.sun := rfl
@[simp] theorem State.modWkt_pgl (f : Wkt → Wkt) : (s.modWkt f).pgl = s.pgl := rfl
@[simp] theorem State.modWkt_otp (f : Wkt → Wkt) : (s.modWkt f).otp = s.otp := rfl
@[simp] theorem State.modWkt_ice (f : Wkt → Wkt) : (s.modWkt f).ice = s.ice := rfl
@[simp] theorem State.modWkt_stc (f : Wkt → Wkt) : (s.modWkt f).stc = s.stc := rfl
@[simp] theorem State.modWkt_reply (f : Wkt → Wkt) : (s.modWkt f).reply = s.reply := rfl
@[simp] theorem State.modWkt_free (f : Wkt → Wkt) : (s.modWkt f).free = s.free := rfl
@[simp] theorem State.modWkt_rd (f : Wkt → Wkt) (b : Nat) : (s.modWkt f).rd b = s.rd b := rfl
@[simp] theorem State.modWkt_fld (f : Wkt → Wkt) (g : Fld) : (s.modWkt f).fld g = s.fld g := rfl
@[simp] theorem State.modWkt_isRunning (f : Wkt → Wkt) : (s.modWkt f).isRunning = s.isRunning := rfl
@[simp] theorem State.modWkt_rdSh (f : Wkt → Wkt) (b : Nat) : (s.modWkt f).rdSh b = s.rdSh b := rfl
@[simp] theorem State.modWkt_byte (f : Wkt → Wkt) (b : Nat) : (s.modWkt f).byte b = s.byte b := rfl

/-! ### State.modStc -/

@[simp] theorem State.modStc_pending (f : Stc → Stc) : (s.modStc f).pending = s.pending := rfl
@[simp] theorem State.modStc_die (f : Stc → Stc) : (s.modStc f).die = s.die := rfl
@[simp] theorem State.modStc_pins (f : Stc → Stc) : (s.modStc f).pins = s.pins := rfl
@[simp] theorem State.modStc_regs (f : Stc → Stc) : (s.modStc f).regs = s.regs := rfl
@[simp] theorem State.modStc_shadow (f : Stc → Stc) : (s.modStc f).shadow = s.shadow := rfl
@[simp] theorem State.modStc_mem (f : Stc → Stc) : (s.modStc f).mem = s.mem := rfl
@[simp] theorem State.modStc_ecc1 (f : Stc → Stc) : (s.modStc f).ecc1 = s.ecc1 := rfl
@[simp] theorem State.modStc_ecc2 (f : Stc → Stc) : (s.modStc f).ecc2 = s.ecc2 := rfl
@[simp] theorem State.modStc_found (f : Stc → Stc) : (s.modStc f).found = s.found := rfl
@[simp] theorem State.modStc_img (f : Stc → Stc) : (s.modStc f).img = s.img := rfl
@[simp] theorem State.modStc_fab (f : Stc → Stc) : (s.modStc f).fab = s.fab := rfl
@[simp] theorem State.modStc_sources (f : Stc → Stc) : (s.modStc f).sources = s.sources := rfl
@[simp] theorem State.modStc_held (f : Stc → Stc) : (s.modStc f).held = s.held := rfl
@[simp] theorem State.modStc_axA (f : Stc → Stc) : (s.modStc f).axA = s.axA := rfl
@[simp] theorem State.modStc_axB (f : Stc → Stc) : (s.modStc f).axB = s.axB := rfl
@[simp] theorem State.modStc_svA (f : Stc → Stc) : (s.modStc f).svA = s.svA := rfl
@[simp] theorem State.modStc_svB (f : Stc → Stc) : (s.modStc f).svB = s.svB := rfl
@[simp] theorem State.modStc_trA (f : Stc → Stc) : (s.modStc f).trA = s.trA := rfl
@[simp] theorem State.modStc_trB (f : Stc → Stc) : (s.modStc f).trB = s.trB := rfl
@[simp] theorem State.modStc_tbA (f : Stc → Stc) : (s.modStc f).tbA = s.tbA := rfl
@[simp] theorem State.modStc_tbB (f : Stc → Stc) : (s.modStc f).tbB = s.tbB := rfl
@[simp] theorem State.modStc_sns (f : Stc → Stc) : (s.modStc f).sns = s.sns := rfl
@[simp] theorem State.modStc_hah (f : Stc → Stc) : (s.modStc f).hah = s.hah := rfl
@[simp] theorem State.modStc_org (f : Stc → Stc) : (s.modStc f).org = s.org := rfl
@[simp] theorem State.modStc_sun (f : Stc → Stc) : (s.modStc f).sun = s.sun := rfl
@[simp] theorem State.modStc_pgl (f : Stc → Stc) : (s.modStc f).pgl = s.pgl := rfl
@[simp] theorem State.modStc_otp (f : Stc → Stc) : (s.modStc f).otp = s.otp := rfl
@[simp] theorem State.modStc_ice (f : Stc → Stc) : (s.modStc f).ice = s.ice := rfl
@[simp] theorem State.modStc_wkt (f : Stc → Stc) : (s.modStc f).wkt = s.wkt := rfl
@[simp] theorem State.modStc_reply (f : Stc → Stc) : (s.modStc f).reply = s.reply := rfl
@[simp] theorem State.modStc_free (f : Stc → Stc) : (s.modStc f).free = s.free := rfl
@[simp] theorem State.modStc_rd (f : Stc → Stc) (b : Nat) : (s.modStc f).rd b = s.rd b := rfl
@[simp] theorem State.modStc_fld (f : Stc → Stc) (g : Fld) : (s.modStc f).fld g = s.fld g := rfl
@[simp] theorem State.modStc_isRunning (f : Stc → Stc) : (s.modStc f).isRunning = s.isRunning := rfl
@[simp] theorem State.modStc_rdSh (f : Stc → Stc) (b : Nat) : (s.modStc f).rdSh b = s.rdSh b := rfl
@[simp] theorem State.modStc_byte (f : Stc → Stc) (b : Nat) : (s.modStc f).byte b = s.byte b := rfl

/-! ### State.modFab -/

@[simp] theorem State.modFab_pending (f : Fabric → Fabric) : (s.modFab f).pending = s.pending := rfl
@[simp] theorem State.modFab_die (f : Fabric → Fabric) : (s.modFab f).die = s.die := rfl
@[simp] theorem State.modFab_pins (f : Fabric → Fabric) : (s.modFab f).pins = s.pins := rfl
@[simp] theorem State.modFab_regs (f : Fabric → Fabric) : (s.modFab f).regs = s.regs := rfl
@[simp] theorem State.modFab_shadow (f : Fabric → Fabric) : (s.modFab f).shadow = s.shadow := rfl
@[simp] theorem State.modFab_mem (f : Fabric → Fabric) : (s.modFab f).mem = s.mem := rfl
@[simp] theorem State.modFab_ecc1 (f : Fabric → Fabric) : (s.modFab f).ecc1 = s.ecc1 := rfl
@[simp] theorem State.modFab_ecc2 (f : Fabric → Fabric) : (s.modFab f).ecc2 = s.ecc2 := rfl
@[simp] theorem State.modFab_found (f : Fabric → Fabric) : (s.modFab f).found = s.found := rfl
@[simp] theorem State.modFab_img (f : Fabric → Fabric) : (s.modFab f).img = s.img := rfl
@[simp] theorem State.modFab_sources (f : Fabric → Fabric) : (s.modFab f).sources = s.sources := rfl
@[simp] theorem State.modFab_held (f : Fabric → Fabric) : (s.modFab f).held = s.held := rfl
@[simp] theorem State.modFab_axA (f : Fabric → Fabric) : (s.modFab f).axA = s.axA := rfl
@[simp] theorem State.modFab_axB (f : Fabric → Fabric) : (s.modFab f).axB = s.axB := rfl
@[simp] theorem State.modFab_svA (f : Fabric → Fabric) : (s.modFab f).svA = s.svA := rfl
@[simp] theorem State.modFab_svB (f : Fabric → Fabric) : (s.modFab f).svB = s.svB := rfl
@[simp] theorem State.modFab_trA (f : Fabric → Fabric) : (s.modFab f).trA = s.trA := rfl
@[simp] theorem State.modFab_trB (f : Fabric → Fabric) : (s.modFab f).trB = s.trB := rfl
@[simp] theorem State.modFab_tbA (f : Fabric → Fabric) : (s.modFab f).tbA = s.tbA := rfl
@[simp] theorem State.modFab_tbB (f : Fabric → Fabric) : (s.modFab f).tbB = s.tbB := rfl
@[simp] theorem State.modFab_sns (f : Fabric → Fabric) : (s.modFab f).sns = s.sns := rfl
@[simp] theorem State.modFab_hah (f : Fabric → Fabric) : (s.modFab f).hah = s.hah := rfl
@[simp] theorem State.modFab_org (f : Fabric → Fabric) : (s.modFab f).org = s.org := rfl
@[simp] theorem State.modFab_sun (f : Fabric → Fabric) : (s.modFab f).sun = s.sun := rfl
@[simp] theorem State.modFab_pgl (f : Fabric → Fabric) : (s.modFab f).pgl = s.pgl := rfl
@[simp] theorem State.modFab_otp (f : Fabric → Fabric) : (s.modFab f).otp = s.otp := rfl
@[simp] theorem State.modFab_ice (f : Fabric → Fabric) : (s.modFab f).ice = s.ice := rfl
@[simp] theorem State.modFab_wkt (f : Fabric → Fabric) : (s.modFab f).wkt = s.wkt := rfl
@[simp] theorem State.modFab_stc (f : Fabric → Fabric) : (s.modFab f).stc = s.stc := rfl
@[simp] theorem State.modFab_reply (f : Fabric → Fabric) : (s.modFab f).reply = s.reply := rfl
@[simp] theorem State.modFab_free (f : Fabric → Fabric) : (s.modFab f).free = s.free := rfl
@[simp] theorem State.modFab_rd (f : Fabric → Fabric) (b : Nat) : (s.modFab f).rd b = s.rd b := rfl
@[simp] theorem State.modFab_fld (f : Fabric → Fabric) (g : Fld) : (s.modFab f).fld g = s.fld g := rfl
@[simp] theorem State.modFab_isRunning (f : Fabric → Fabric) : (s.modFab f).isRunning = s.isRunning := rfl
@[simp] theorem State.modFab_rdSh (f : Fabric → Fabric) (b : Nat) : (s.modFab f).rdSh b = s.rdSh b := rfl
@[simp] theorem State.modFab_byte (f : Fabric → Fabric) (b : Nat) : (s.modFab f).byte b = s.byte b := rfl

/-! ### State.modPgl -/

@[simp] theorem State.modPgl_pending (f : Pgl → Pgl) : (s.modPgl f).pending = s.pending := rfl
@[simp] theorem State.modPgl_die (f : Pgl → Pgl) : (s.modPgl f).die = s.die := rfl
@[simp] theorem State.modPgl_pins (f : Pgl → Pgl) : (s.modPgl f).pins = s.pins := rfl
@[simp] theorem State.modPgl_regs (f : Pgl → Pgl) : (s.modPgl f).regs = s.regs := rfl
@[simp] theorem State.modPgl_shadow (f : Pgl → Pgl) : (s.modPgl f).shadow = s.shadow := rfl
@[simp] theorem State.modPgl_mem (f : Pgl → Pgl) : (s.modPgl f).mem = s.mem := rfl
@[simp] theorem State.modPgl_ecc1 (f : Pgl → Pgl) : (s.modPgl f).ecc1 = s.ecc1 := rfl
@[simp] theorem State.modPgl_ecc2 (f : Pgl → Pgl) : (s.modPgl f).ecc2 = s.ecc2 := rfl
@[simp] theorem State.modPgl_found (f : Pgl → Pgl) : (s.modPgl f).found = s.found := rfl
@[simp] theorem State.modPgl_img (f : Pgl → Pgl) : (s.modPgl f).img = s.img := rfl
@[simp] theorem State.modPgl_fab (f : Pgl → Pgl) : (s.modPgl f).fab = s.fab := rfl
@[simp] theorem State.modPgl_sources (f : Pgl → Pgl) : (s.modPgl f).sources = s.sources := rfl
@[simp] theorem State.modPgl_held (f : Pgl → Pgl) : (s.modPgl f).held = s.held := rfl
@[simp] theorem State.modPgl_axA (f : Pgl → Pgl) : (s.modPgl f).axA = s.axA := rfl
@[simp] theorem State.modPgl_axB (f : Pgl → Pgl) : (s.modPgl f).axB = s.axB := rfl
@[simp] theorem State.modPgl_svA (f : Pgl → Pgl) : (s.modPgl f).svA = s.svA := rfl
@[simp] theorem State.modPgl_svB (f : Pgl → Pgl) : (s.modPgl f).svB = s.svB := rfl
@[simp] theorem State.modPgl_trA (f : Pgl → Pgl) : (s.modPgl f).trA = s.trA := rfl
@[simp] theorem State.modPgl_trB (f : Pgl → Pgl) : (s.modPgl f).trB = s.trB := rfl
@[simp] theorem State.modPgl_tbA (f : Pgl → Pgl) : (s.modPgl f).tbA = s.tbA := rfl
@[simp] theorem State.modPgl_tbB (f : Pgl → Pgl) : (s.modPgl f).tbB = s.tbB := rfl
@[simp] theorem State.modPgl_sns (f : Pgl → Pgl) : (s.modPgl f).sns = s.sns := rfl
@[simp] theorem State.modPgl_hah (f : Pgl → Pgl) : (s.modPgl f).hah = s.hah := rfl
@[simp] theorem State.modPgl_org (f : Pgl → Pgl) : (s.modPgl f).org = s.org := rfl
@[simp] theorem State.modPgl_sun (f : Pgl → Pgl) : (s.modPgl f).sun = s.sun := rfl
@[simp] theorem State.modPgl_otp (f : Pgl → Pgl) : (s.modPgl f).otp = s.otp := rfl
@[simp] theorem State.modPgl_ice (f : Pgl → Pgl) : (s.modPgl f).ice = s.ice := rfl
@[simp] theorem State.modPgl_wkt (f : Pgl → Pgl) : (s.modPgl f).wkt = s.wkt := rfl
@[simp] theorem State.modPgl_stc (f : Pgl → Pgl) : (s.modPgl f).stc = s.stc := rfl
@[simp] theorem State.modPgl_reply (f : Pgl → Pgl) : (s.modPgl f).reply = s.reply := rfl
@[simp] theorem State.modPgl_free (f : Pgl → Pgl) : (s.modPgl f).free = s.free := rfl
@[simp] theorem State.modPgl_rd (f : Pgl → Pgl) (b : Nat) : (s.modPgl f).rd b = s.rd b := rfl
@[simp] theorem State.modPgl_fld (f : Pgl → Pgl) (g : Fld) : (s.modPgl f).fld g = s.fld g := rfl
@[simp] theorem State.modPgl_isRunning (f : Pgl → Pgl) : (s.modPgl f).isRunning = s.isRunning := rfl
@[simp] theorem State.modPgl_rdSh (f : Pgl → Pgl) (b : Nat) : (s.modPgl f).rdSh b = s.rdSh b := rfl
@[simp] theorem State.modPgl_byte (f : Pgl → Pgl) (b : Nat) : (s.modPgl f).byte b = s.byte b := rfl

/-! ### State.modHah -/

@[simp] theorem State.modHah_pending (f : Bank → Bank) : (s.modHah f).pending = s.pending := rfl
@[simp] theorem State.modHah_die (f : Bank → Bank) : (s.modHah f).die = s.die := rfl
@[simp] theorem State.modHah_pins (f : Bank → Bank) : (s.modHah f).pins = s.pins := rfl
@[simp] theorem State.modHah_regs (f : Bank → Bank) : (s.modHah f).regs = s.regs := rfl
@[simp] theorem State.modHah_shadow (f : Bank → Bank) : (s.modHah f).shadow = s.shadow := rfl
@[simp] theorem State.modHah_mem (f : Bank → Bank) : (s.modHah f).mem = s.mem := rfl
@[simp] theorem State.modHah_ecc1 (f : Bank → Bank) : (s.modHah f).ecc1 = s.ecc1 := rfl
@[simp] theorem State.modHah_ecc2 (f : Bank → Bank) : (s.modHah f).ecc2 = s.ecc2 := rfl
@[simp] theorem State.modHah_found (f : Bank → Bank) : (s.modHah f).found = s.found := rfl
@[simp] theorem State.modHah_img (f : Bank → Bank) : (s.modHah f).img = s.img := rfl
@[simp] theorem State.modHah_fab (f : Bank → Bank) : (s.modHah f).fab = s.fab := rfl
@[simp] theorem State.modHah_sources (f : Bank → Bank) : (s.modHah f).sources = s.sources := rfl
@[simp] theorem State.modHah_held (f : Bank → Bank) : (s.modHah f).held = s.held := rfl
@[simp] theorem State.modHah_axA (f : Bank → Bank) : (s.modHah f).axA = s.axA := rfl
@[simp] theorem State.modHah_axB (f : Bank → Bank) : (s.modHah f).axB = s.axB := rfl
@[simp] theorem State.modHah_svA (f : Bank → Bank) : (s.modHah f).svA = s.svA := rfl
@[simp] theorem State.modHah_svB (f : Bank → Bank) : (s.modHah f).svB = s.svB := rfl
@[simp] theorem State.modHah_trA (f : Bank → Bank) : (s.modHah f).trA = s.trA := rfl
@[simp] theorem State.modHah_trB (f : Bank → Bank) : (s.modHah f).trB = s.trB := rfl
@[simp] theorem State.modHah_tbA (f : Bank → Bank) : (s.modHah f).tbA = s.tbA := rfl
@[simp] theorem State.modHah_tbB (f : Bank → Bank) : (s.modHah f).tbB = s.tbB := rfl
@[simp] theorem State.modHah_sns (f : Bank → Bank) : (s.modHah f).sns = s.sns := rfl
@[simp] theorem State.modHah_org (f : Bank → Bank) : (s.modHah f).org = s.org := rfl
@[simp] theorem State.modHah_sun (f : Bank → Bank) : (s.modHah f).sun = s.sun := rfl
@[simp] theorem State.modHah_pgl (f : Bank → Bank) : (s.modHah f).pgl = s.pgl := rfl
@[simp] theorem State.modHah_otp (f : Bank → Bank) : (s.modHah f).otp = s.otp := rfl
@[simp] theorem State.modHah_ice (f : Bank → Bank) : (s.modHah f).ice = s.ice := rfl
@[simp] theorem State.modHah_wkt (f : Bank → Bank) : (s.modHah f).wkt = s.wkt := rfl
@[simp] theorem State.modHah_stc (f : Bank → Bank) : (s.modHah f).stc = s.stc := rfl
@[simp] theorem State.modHah_reply (f : Bank → Bank) : (s.modHah f).reply = s.reply := rfl
@[simp] theorem State.modHah_free (f : Bank → Bank) : (s.modHah f).free = s.free := rfl
@[simp] theorem State.modHah_rd (f : Bank → Bank) (b : Nat) : (s.modHah f).rd b = s.rd b := rfl
@[simp] theorem State.modHah_fld (f : Bank → Bank) (g : Fld) : (s.modHah f).fld g = s.fld g := rfl
@[simp] theorem State.modHah_isRunning (f : Bank → Bank) : (s.modHah f).isRunning = s.isRunning := rfl
@[simp] theorem State.modHah_rdSh (f : Bank → Bank) (b : Nat) : (s.modHah f).rdSh b = s.rdSh b := rfl
@[simp] theorem State.modHah_byte (f : Bank → Bank) (b : Nat) : (s.modHah f).byte b = s.byte b := rfl

/-! ### State.modPins -/

@[simp] theorem State.modPins_pending (f : Pins → Pins) : (s.modPins f).pending = s.pending := rfl
@[simp] theorem State.modPins_die (f : Pins → Pins) : (s.modPins f).die = s.die := rfl
@[simp] theorem State.modPins_regs (f : Pins → Pins) : (s.modPins f).regs = s.regs := rfl
@[simp] theorem State.modPins_shadow (f : Pins → Pins) : (s.modPins f).shadow = s.shadow := rfl
@[simp] theorem State.modPins_mem (f : Pins → Pins) : (s.modPins f).mem = s.mem := rfl
@[simp] theorem State.modPins_ecc1 (f : Pins → Pins) : (s.modPins f).ecc1 = s.ecc1 := rfl
@[simp] theorem State.modPins_ecc2 (f : Pins → Pins) : (s.modPins f).ecc2 = s.ecc2 := rfl
@[simp] theorem State.modPins_found (f : Pins → Pins) : (s.modPins f).found = s.found := rfl
@[simp] theorem State.modPins_img (f : Pins → Pins) : (s.modPins f).img = s.img := rfl
@[simp] theorem State.modPins_fab (f : Pins → Pins) : (s.modPins f).fab = s.fab := rfl
@[simp] theorem State.modPins_sources (f : Pins → Pins) : (s.modPins f).sources = s.sources := rfl
@[simp] theorem State.modPins_held (f : Pins → Pins) : (s.modPins f).held = s.held := rfl
@[simp] theorem State.modPins_axA (f : Pins → Pins) : (s.modPins f).axA = s.axA := rfl
@[simp] theorem State.modPins_axB (f : Pins → Pins) : (s.modPins f).axB = s.axB := rfl
@[simp] theorem State.modPins_svA (f : Pins → Pins) : (s.modPins f).svA = s.svA := rfl
@[simp] theorem State.modPins_svB (f : Pins → Pins) : (s.modPins f).svB = s.svB := rfl
@[simp] theorem State.modPins_trA (f : Pins → Pins) : (s.modPins f).trA = s.trA := rfl
@[simp] theorem State.modPins_trB (f : Pins → Pins) : (s.modPins f).trB = s.trB := rfl
@[simp] theorem State.modPins_tbA (f : Pins → Pins) : (s.modPins f).tbA = s.tbA := rfl
@[simp] theorem State.modPins_tbB (f : Pins → Pins) : (s.modPins f).tbB = s.tbB := rfl
@[simp] theorem State.modPins_sns (f : Pins → Pins) : (s.modPins f).sns = s.sns := rfl
@[simp] theorem State.modPins_hah (f : Pins → Pins) : (s.modPins f).hah = s.hah := rfl
@[simp] theorem State.modPins_org (f : Pins → Pins) : (s.modPins f).org = s.org := rfl
@[simp] theorem State.modPins_sun (f : Pins → Pins) : (s.modPins f).sun = s.sun := rfl
@[simp] theorem State.modPins_pgl (f : Pins → Pins) : (s.modPins f).pgl = s.pgl := rfl
@[simp] theorem State.modPins_otp (f : Pins → Pins) : (s.modPins f).otp = s.otp := rfl
@[simp] theorem State.modPins_ice (f : Pins → Pins) : (s.modPins f).ice = s.ice := rfl
@[simp] theorem State.modPins_wkt (f : Pins → Pins) : (s.modPins f).wkt = s.wkt := rfl
@[simp] theorem State.modPins_stc (f : Pins → Pins) : (s.modPins f).stc = s.stc := rfl
@[simp] theorem State.modPins_reply (f : Pins → Pins) : (s.modPins f).reply = s.reply := rfl
@[simp] theorem State.modPins_free (f : Pins → Pins) : (s.modPins f).free = s.free := rfl
@[simp] theorem State.modPins_rd (f : Pins → Pins) (b : Nat) : (s.modPins f).rd b = s.rd b := rfl
@[simp] theorem State.modPins_fld (f : Pins → Pins) (g : Fld) : (s.modPins f).fld g = s.fld g := rfl
@[simp] theorem State.modPins_isRunning (f : Pins → Pins) : (s.modPins f).isRunning = s.isRunning := rfl
@[simp] theorem State.modPins_rdSh (f : Pins → Pins) (b : Nat) : (s.modPins f).rdSh b = s.rdSh b := rfl
@[simp] theorem State.modPins_byte (f : Pins → Pins) (b : Nat) : (s.modPins f).byte b = s.byte b := rfl

/-! ### State.modImg -/

@[simp] theorem State.modImg_pending (f : Img → Img) : (s.modImg f).pending = s.pending := rfl
@[simp] theorem State.modImg_die (f : Img → Img) : (s.modImg f).die = s.die := rfl
@[simp] theorem State.modImg_pins (f : Img → Img) : (s.modImg f).pins = s.pins := rfl
@[simp] theorem State.modImg_regs (f : Img → Img) : (s.modImg f).regs = s.regs := rfl
@[simp] theorem State.modImg_shadow (f : Img → Img) : (s.modImg f).shadow = s.shadow := rfl
@[simp] theorem State.modImg_mem (f : Img → Img) : (s.modImg f).mem = s.mem := rfl
@[simp] theorem State.modImg_ecc1 (f : Img → Img) : (s.modImg f).ecc1 = s.ecc1 := rfl
@[simp] theorem State.modImg_ecc2 (f : Img → Img) : (s.modImg f).ecc2 = s.ecc2 := rfl
@[simp] theorem State.modImg_found (f : Img → Img) : (s.modImg f).found = s.found := rfl
@[simp] theorem State.modImg_fab (f : Img → Img) : (s.modImg f).fab = s.fab := rfl
@[simp] theorem State.modImg_sources (f : Img → Img) : (s.modImg f).sources = s.sources := rfl
@[simp] theorem State.modImg_held (f : Img → Img) : (s.modImg f).held = s.held := rfl
@[simp] theorem State.modImg_axA (f : Img → Img) : (s.modImg f).axA = s.axA := rfl
@[simp] theorem State.modImg_axB (f : Img → Img) : (s.modImg f).axB = s.axB := rfl
@[simp] theorem State.modImg_svA (f : Img → Img) : (s.modImg f).svA = s.svA := rfl
@[simp] theorem State.modImg_svB (f : Img → Img) : (s.modImg f).svB = s.svB := rfl
@[simp] theorem State.modImg_trA (f : Img → Img) : (s.modImg f).trA = s.trA := rfl
@[simp] theorem State.modImg_trB (f : Img → Img) : (s.modImg f).trB = s.trB := rfl
@[simp] theorem State.modImg_tbA (f : Img → Img) : (s.modImg f).tbA = s.tbA := rfl
@[simp] theorem State.modImg_tbB (f : Img → Img) : (s.modImg f).tbB = s.tbB := rfl
@[simp] theorem State.modImg_sns (f : Img → Img) : (s.modImg f).sns = s.sns := rfl
@[simp] theorem State.modImg_hah (f : Img → Img) : (s.modImg f).hah = s.hah := rfl
@[simp] theorem State.modImg_org (f : Img → Img) : (s.modImg f).org = s.org := rfl
@[simp] theorem State.modImg_sun (f : Img → Img) : (s.modImg f).sun = s.sun := rfl
@[simp] theorem State.modImg_pgl (f : Img → Img) : (s.modImg f).pgl = s.pgl := rfl
@[simp] theorem State.modImg_otp (f : Img → Img) : (s.modImg f).otp = s.otp := rfl
@[simp] theorem State.modImg_ice (f : Img → Img) : (s.modImg f).ice = s.ice := rfl
@[simp] theorem State.modImg_wkt (f : Img → Img) : (s.modImg f).wkt = s.wkt := rfl
@[simp] theorem State.modImg_stc (f : Img → Img) : (s.modImg f).stc = s.stc := rfl
@[simp] theorem State.modImg_reply (f : Img → Img) : (s.modImg f).reply = s.reply := rfl
@[simp] theorem State.modImg_free (f : Img → Img) : (s.modImg f).free = s.free := rfl
@[simp] theorem State.modImg_rd (f : Img → Img) (b : Nat) : (s.modImg f).rd b = s.rd b := rfl
@[simp] theorem State.modImg_fld (f : Img → Img) (g : Fld) : (s.modImg f).fld g = s.fld g := rfl
@[simp] theorem State.modImg_isRunning (f : Img → Img) : (s.modImg f).isRunning = s.isRunning := rfl
@[simp] theorem State.modImg_rdSh (f : Img → Img) (b : Nat) : (s.modImg f).rdSh b = s.rdSh b := rfl
@[simp] theorem State.modImg_byte (f : Img → Img) (b : Nat) : (s.modImg f).byte b = s.byte b := rfl

/-! ### State.toDie -/

@[simp] theorem State.toDie_pending (d : Die) : (s.toDie d).pending = s.pending := rfl
@[simp] theorem State.toDie_pins (d : Die) : (s.toDie d).pins = s.pins := rfl
@[simp] theorem State.toDie_regs (d : Die) : (s.toDie d).regs = s.regs := rfl
@[simp] theorem State.toDie_shadow (d : Die) : (s.toDie d).shadow = s.shadow := rfl
@[simp] theorem State.toDie_mem (d : Die) : (s.toDie d).mem = s.mem := rfl
@[simp] theorem State.toDie_ecc1 (d : Die) : (s.toDie d).ecc1 = s.ecc1 := rfl
@[simp] theorem State.toDie_ecc2 (d : Die) : (s.toDie d).ecc2 = s.ecc2 := rfl
@[simp] theorem State.toDie_found (d : Die) : (s.toDie d).found = s.found := rfl
@[simp] theorem State.toDie_img (d : Die) : (s.toDie d).img = s.img := rfl
@[simp] theorem State.toDie_fab (d : Die) : (s.toDie d).fab = s.fab := rfl
@[simp] theorem State.toDie_sources (d : Die) : (s.toDie d).sources = s.sources := rfl
@[simp] theorem State.toDie_held (d : Die) : (s.toDie d).held = s.held := rfl
@[simp] theorem State.toDie_axA (d : Die) : (s.toDie d).axA = s.axA := rfl
@[simp] theorem State.toDie_axB (d : Die) : (s.toDie d).axB = s.axB := rfl
@[simp] theorem State.toDie_svA (d : Die) : (s.toDie d).svA = s.svA := rfl
@[simp] theorem State.toDie_svB (d : Die) : (s.toDie d).svB = s.svB := rfl
@[simp] theorem State.toDie_trA (d : Die) : (s.toDie d).trA = s.trA := rfl
@[simp] theorem State.toDie_trB (d : Die) : (s.toDie d).trB = s.trB := rfl
@[simp] theorem State.toDie_tbA (d : Die) : (s.toDie d).tbA = s.tbA := rfl
@[simp] theorem State.toDie_tbB (d : Die) : (s.toDie d).tbB = s.tbB := rfl
@[simp] theorem State.toDie_sns (d : Die) : (s.toDie d).sns = s.sns := rfl
@[simp] theorem State.toDie_hah (d : Die) : (s.toDie d).hah = s.hah := rfl
@[simp] theorem State.toDie_org (d : Die) : (s.toDie d).org = s.org := rfl
@[simp] theorem State.toDie_sun (d : Die) : (s.toDie d).sun = s.sun := rfl
@[simp] theorem State.toDie_pgl (d : Die) : (s.toDie d).pgl = s.pgl := rfl
@[simp] theorem State.toDie_otp (d : Die) : (s.toDie d).otp = s.otp := rfl
@[simp] theorem State.toDie_ice (d : Die) : (s.toDie d).ice = s.ice := rfl
@[simp] theorem State.toDie_wkt (d : Die) : (s.toDie d).wkt = s.wkt := rfl
@[simp] theorem State.toDie_stc (d : Die) : (s.toDie d).stc = s.stc := rfl
@[simp] theorem State.toDie_reply (d : Die) : (s.toDie d).reply = s.reply := rfl
@[simp] theorem State.toDie_free (d : Die) : (s.toDie d).free = s.free := rfl
@[simp] theorem State.toDie_rd (d : Die) (b : Nat) : (s.toDie d).rd b = s.rd b := rfl
@[simp] theorem State.toDie_fld (d : Die) (g : Fld) : (s.toDie d).fld g = s.fld g := rfl
@[simp] theorem State.toDie_rdSh (d : Die) (b : Nat) : (s.toDie d).rdSh b = s.rdSh b := rfl
@[simp] theorem State.toDie_byte (d : Die) (b : Nat) : (s.toDie d).byte b = s.byte b := rfl

/-! ### State.setHeld -/

@[simp] theorem State.setHeld_pending (l : List Held) : (s.setHeld l).pending = s.pending := rfl
@[simp] theorem State.setHeld_die (l : List Held) : (s.setHeld l).die = s.die := rfl
@[simp] theorem State.setHeld_pins (l : List Held) : (s.setHeld l).pins = s.pins := rfl
@[simp] theorem State.setHeld_regs (l : List Held) : (s.setHeld l).regs = s.regs := rfl
@[simp] theorem State.setHeld_shadow (l : List Held) : (s.setHeld l).shadow = s.shadow := rfl
@[simp] theorem State.setHeld_mem (l : List Held) : (s.setHeld l).mem = s.mem := rfl
@[simp] theorem State.setHeld_ecc1 (l : List Held) : (s.setHeld l).ecc1 = s.ecc1 := rfl
@[simp] theorem State.setHeld_ecc2 (l : List Held) : (s.setHeld l).ecc2 = s.ecc2 := rfl
@[simp] theorem State.setHeld_found (l : List Held) : (s.setHeld l).found = s.found := rfl
@[simp] theorem State.setHeld_img (l : List Held) : (s.setHeld l).img = s.img := rfl
@[simp] theorem State.setHeld_fab (l : List Held) : (s.setHeld l).fab = s.fab := rfl
@[simp] theorem State.setHeld_sources (l : List Held) : (s.setHeld l).sources = s.sources := rfl
@[simp] theorem State.setHeld_axA (l : List Held) : (s.setHeld l).axA = s.axA := rfl
@[simp] theorem State.setHeld_axB (l : List Held) : (s.setHeld l).axB = s.axB := rfl
@[simp] theorem State.setHeld_svA (l : List Held) : (s.setHeld l).svA = s.svA := rfl
@[simp] theorem State.setHeld_svB (l : List Held) : (s.setHeld l).svB = s.svB := rfl
@[simp] theorem State.setHeld_trA (l : List Held) : (s.setHeld l).trA = s.trA := rfl
@[simp] theorem State.setHeld_trB (l : List Held) : (s.setHeld l).trB = s.trB := rfl
@[simp] theorem State.setHeld_tbA (l : List Held) : (s.setHeld l).tbA = s.tbA := rfl
@[simp] theorem State.setHeld_tbB (l : List Held) : (s.setHeld l).tbB = s.tbB := rfl
@[simp] theorem State.setHeld_sns (l : List Held) : (s.setHeld l).sns = s.sns := rfl
@[simp] theorem State.setHeld_hah (l : List Held) : (s.setHeld l).hah = s.hah := rfl
@[simp] theorem State.setHeld_org (l : List Held) : (s.setHeld l).org = s.org := rfl
@[simp] theorem State.setHeld_sun (l : List Held) : (s.setHeld l).sun = s.sun := rfl
@[simp] theorem State.setHeld_pgl (l : List Held) : (s.setHeld l).pgl = s.pgl := rfl
@[simp] theorem State.setHeld_otp (l : List Held) : (s.setHeld l).otp = s.otp := rfl
@[simp] theorem State.setHeld_ice (l : List Held) : (s.setHeld l).ice = s.ice := rfl
@[simp] theorem State.setHeld_wkt (l : List Held) : (s.setHeld l).wkt = s.wkt := rfl
@[simp] theorem State.setHeld_stc (l : List Held) : (s.setHeld l).stc = s.stc := rfl
@[simp] theorem State.setHeld_reply (l : List Held) : (s.setHeld l).reply = s.reply := rfl
@[simp] theorem State.setHeld_free (l : List Held) : (s.setHeld l).free = s.free := rfl
@[simp] theorem State.setHeld_rd (l : List Held) (b : Nat) : (s.setHeld l).rd b = s.rd b := rfl
@[simp] theorem State.setHeld_fld (l : List Held) (g : Fld) : (s.setHeld l).fld g = s.fld g := rfl
@[simp] theorem State.setHeld_isRunning (l : List Held) : (s.setHeld l).isRunning = s.isRunning := rfl
@[simp] theorem State.setHeld_rdSh (l : List Held) (b : Nat) : (s.setHeld l).rdSh b = s.rdSh b := rfl
@[simp] theorem State.setHeld_byte (l : List Held) (b : Nat) : (s.setHeld l).byte b = s.byte b := rfl

/-! ### State.setFound -/

@[simp] theorem State.setFound_pending (l : List (Nat × Nat × Nat)) : (s.setFound l).pending = s.pending := rfl
@[simp] theorem State.setFound_die (l : List (Nat × Nat × Nat)) : (s.setFound l).die = s.die := rfl
@[simp] theorem State.setFound_pins (l : List (Nat × Nat × Nat)) : (s.setFound l).pins = s.pins := rfl
@[simp] theorem State.setFound_regs (l : List (Nat × Nat × Nat)) : (s.setFound l).regs = s.regs := rfl
@[simp] theorem State.setFound_shadow (l : List (Nat × Nat × Nat)) : (s.setFound l).shadow = s.shadow := rfl
@[simp] theorem State.setFound_mem (l : List (Nat × Nat × Nat)) : (s.setFound l).mem = s.mem := rfl
@[simp] theorem State.setFound_ecc1 (l : List (Nat × Nat × Nat)) : (s.setFound l).ecc1 = s.ecc1 := rfl
@[simp] theorem State.setFound_ecc2 (l : List (Nat × Nat × Nat)) : (s.setFound l).ecc2 = s.ecc2 := rfl
@[simp] theorem State.setFound_img (l : List (Nat × Nat × Nat)) : (s.setFound l).img = s.img := rfl
@[simp] theorem State.setFound_fab (l : List (Nat × Nat × Nat)) : (s.setFound l).fab = s.fab := rfl
@[simp] theorem State.setFound_sources (l : List (Nat × Nat × Nat)) : (s.setFound l).sources = s.sources := rfl
@[simp] theorem State.setFound_held (l : List (Nat × Nat × Nat)) : (s.setFound l).held = s.held := rfl
@[simp] theorem State.setFound_axA (l : List (Nat × Nat × Nat)) : (s.setFound l).axA = s.axA := rfl
@[simp] theorem State.setFound_axB (l : List (Nat × Nat × Nat)) : (s.setFound l).axB = s.axB := rfl
@[simp] theorem State.setFound_svA (l : List (Nat × Nat × Nat)) : (s.setFound l).svA = s.svA := rfl
@[simp] theorem State.setFound_svB (l : List (Nat × Nat × Nat)) : (s.setFound l).svB = s.svB := rfl
@[simp] theorem State.setFound_trA (l : List (Nat × Nat × Nat)) : (s.setFound l).trA = s.trA := rfl
@[simp] theorem State.setFound_trB (l : List (Nat × Nat × Nat)) : (s.setFound l).trB = s.trB := rfl
@[simp] theorem State.setFound_tbA (l : List (Nat × Nat × Nat)) : (s.setFound l).tbA = s.tbA := rfl
@[simp] theorem State.setFound_tbB (l : List (Nat × Nat × Nat)) : (s.setFound l).tbB = s.tbB := rfl
@[simp] theorem State.setFound_sns (l : List (Nat × Nat × Nat)) : (s.setFound l).sns = s.sns := rfl
@[simp] theorem State.setFound_hah (l : List (Nat × Nat × Nat)) : (s.setFound l).hah = s.hah := rfl
@[simp] theorem State.setFound_org (l : List (Nat × Nat × Nat)) : (s.setFound l).org = s.org := rfl
@[simp] theorem State.setFound_sun (l : List (Nat × Nat × Nat)) : (s.setFound l).sun = s.sun := rfl
@[simp] theorem State.setFound_pgl (l : List (Nat × Nat × Nat)) : (s.setFound l).pgl = s.pgl := rfl
@[simp] theorem State.setFound_otp (l : List (Nat × Nat × Nat)) : (s.setFound l).otp = s.otp := rfl
@[simp] theorem State.setFound_ice (l : List (Nat × Nat × Nat)) : (s.setFound l).ice = s.ice := rfl
@[simp] theorem State.setFound_wkt (l : List (Nat × Nat × Nat)) : (s.setFound l).wkt = s.wkt := rfl
@[simp] theorem State.setFound_stc (l : List (Nat × Nat × Nat)) : (s.setFound l).stc = s.stc := rfl
@[simp] theorem State.setFound_reply (l : List (Nat × Nat × Nat)) : (s.setFound l).reply = s.reply := rfl
@[simp] theorem State.setFound_free (l : List (Nat × Nat × Nat)) : (s.setFound l).free = s.free := rfl
@[simp] theorem State.setFound_rd (l : List (Nat × Nat × Nat)) (b : Nat) : (s.setFound l).rd b = s.rd b := rfl
@[simp] theorem State.setFound_fld (l : List (Nat × Nat × Nat)) (g : Fld) : (s.setFound l).fld g = s.fld g := rfl
@[simp] theorem State.setFound_isRunning (l : List (Nat × Nat × Nat)) : (s.setFound l).isRunning = s.isRunning := rfl
@[simp] theorem State.setFound_rdSh (l : List (Nat × Nat × Nat)) (b : Nat) : (s.setFound l).rdSh b = s.rdSh b := rfl
@[simp] theorem State.setFound_byte (l : List (Nat × Nat × Nat)) (b : Nat) : (s.setFound l).byte b = s.byte b := rfl

/-! ### State.setReply -/

@[simp] theorem State.setReply_pending (n : Nat) : (s.setReply n).pending = s.pending := rfl
@[simp] theorem State.setReply_die (n : Nat) : (s.setReply n).die = s.die := rfl
@[simp] theorem State.setReply_pins (n : Nat) : (s.setReply n).pins = s.pins := rfl
@[simp] theorem State.setReply_regs (n : Nat) : (s.setReply n).regs = s.regs := rfl
@[simp] theorem State.setReply_shadow (n : Nat) : (s.setReply n).shadow = s.shadow := rfl
@[simp] theorem State.setReply_mem (n : Nat) : (s.setReply n).mem = s.mem := rfl
@[simp] theorem State.setReply_ecc1 (n : Nat) : (s.setReply n).ecc1 = s.ecc1 := rfl
@[simp] theorem State.setReply_ecc2 (n : Nat) : (s.setReply n).ecc2 = s.ecc2 := rfl
@[simp] theorem State.setReply_found (n : Nat) : (s.setReply n).found = s.found := rfl
@[simp] theorem State.setReply_img (n : Nat) : (s.setReply n).img = s.img := rfl
@[simp] theorem State.setReply_fab (n : Nat) : (s.setReply n).fab = s.fab := rfl
@[simp] theorem State.setReply_sources (n : Nat) : (s.setReply n).sources = s.sources := rfl
@[simp] theorem State.setReply_held (n : Nat) : (s.setReply n).held = s.held := rfl
@[simp] theorem State.setReply_axA (n : Nat) : (s.setReply n).axA = s.axA := rfl
@[simp] theorem State.setReply_axB (n : Nat) : (s.setReply n).axB = s.axB := rfl
@[simp] theorem State.setReply_svA (n : Nat) : (s.setReply n).svA = s.svA := rfl
@[simp] theorem State.setReply_svB (n : Nat) : (s.setReply n).svB = s.svB := rfl
@[simp] theorem State.setReply_trA (n : Nat) : (s.setReply n).trA = s.trA := rfl
@[simp] theorem State.setReply_trB (n : Nat) : (s.setReply n).trB = s.trB := rfl
@[simp] theorem State.setReply_tbA (n : Nat) : (s.setReply n).tbA = s.tbA := rfl
@[simp] theorem State.setReply_tbB (n : Nat) : (s.setReply n).tbB = s.tbB := rfl
@[simp] theorem State.setReply_sns (n : Nat) : (s.setReply n).sns = s.sns := rfl
@[simp] theorem State.setReply_hah (n : Nat) : (s.setReply n).hah = s.hah := rfl
@[simp] theorem State.setReply_org (n : Nat) : (s.setReply n).org = s.org := rfl
@[simp] theorem State.setReply_sun (n : Nat) : (s.setReply n).sun = s.sun := rfl
@[simp] theorem State.setReply_pgl (n : Nat) : (s.setReply n).pgl = s.pgl := rfl
@[simp] theorem State.setReply_otp (n : Nat) : (s.setReply n).otp = s.otp := rfl
@[simp] theorem State.setReply_ice (n : Nat) : (s.setReply n).ice = s.ice := rfl
@[simp] theorem State.setReply_wkt (n : Nat) : (s.setReply n).wkt = s.wkt := rfl
@[simp] theorem State.setReply_stc (n : Nat) : (s.setReply n).stc = s.stc := rfl
@[simp] theorem State.setReply_free (n : Nat) : (s.setReply n).free = s.free := rfl
@[simp] theorem State.setReply_rd (n : Nat) (b : Nat) : (s.setReply n).rd b = s.rd b := rfl
@[simp] theorem State.setReply_fld (n : Nat) (g : Fld) : (s.setReply n).fld g = s.fld g := rfl
@[simp] theorem State.setReply_isRunning (n : Nat) : (s.setReply n).isRunning = s.isRunning := rfl
@[simp] theorem State.setReply_rdSh (n : Nat) (b : Nat) : (s.setReply n).rdSh b = s.rdSh b := rfl
@[simp] theorem State.setReply_byte (n : Nat) (b : Nat) : (s.setReply n).byte b = s.byte b := rfl

/-! ### State.spent -/

@[simp] theorem State.spent_pending  : (s.spent).pending = s.pending := rfl
@[simp] theorem State.spent_die  : (s.spent).die = s.die := rfl
@[simp] theorem State.spent_pins  : (s.spent).pins = s.pins := rfl
@[simp] theorem State.spent_regs  : (s.spent).regs = s.regs := rfl
@[simp] theorem State.spent_shadow  : (s.spent).shadow = s.shadow := rfl
@[simp] theorem State.spent_mem  : (s.spent).mem = s.mem := rfl
@[simp] theorem State.spent_ecc1  : (s.spent).ecc1 = s.ecc1 := rfl
@[simp] theorem State.spent_ecc2  : (s.spent).ecc2 = s.ecc2 := rfl
@[simp] theorem State.spent_found  : (s.spent).found = s.found := rfl
@[simp] theorem State.spent_img  : (s.spent).img = s.img := rfl
@[simp] theorem State.spent_fab  : (s.spent).fab = s.fab := rfl
@[simp] theorem State.spent_sources  : (s.spent).sources = s.sources := rfl
@[simp] theorem State.spent_held  : (s.spent).held = s.held := rfl
@[simp] theorem State.spent_axA  : (s.spent).axA = s.axA := rfl
@[simp] theorem State.spent_axB  : (s.spent).axB = s.axB := rfl
@[simp] theorem State.spent_svA  : (s.spent).svA = s.svA := rfl
@[simp] theorem State.spent_svB  : (s.spent).svB = s.svB := rfl
@[simp] theorem State.spent_trA  : (s.spent).trA = s.trA := rfl
@[simp] theorem State.spent_trB  : (s.spent).trB = s.trB := rfl
@[simp] theorem State.spent_tbA  : (s.spent).tbA = s.tbA := rfl
@[simp] theorem State.spent_tbB  : (s.spent).tbB = s.tbB := rfl
@[simp] theorem State.spent_sns  : (s.spent).sns = s.sns := rfl
@[simp] theorem State.spent_hah  : (s.spent).hah = s.hah := rfl
@[simp] theorem State.spent_org  : (s.spent).org = s.org := rfl
@[simp] theorem State.spent_sun  : (s.spent).sun = s.sun := rfl
@[simp] theorem State.spent_pgl  : (s.spent).pgl = s.pgl := rfl
@[simp] theorem State.spent_otp  : (s.spent).otp = s.otp := rfl
@[simp] theorem State.spent_ice  : (s.spent).ice = s.ice := rfl
@[simp] theorem State.spent_wkt  : (s.spent).wkt = s.wkt := rfl
@[simp] theorem State.spent_stc  : (s.spent).stc = s.stc := rfl
@[simp] theorem State.spent_reply  : (s.spent).reply = s.reply := rfl
@[simp] theorem State.spent_rd  (b : Nat) : (s.spent).rd b = s.rd b := rfl
@[simp] theorem State.spent_fld  (g : Fld) : (s.spent).fld g = s.fld g := rfl
@[simp] theorem State.spent_isRunning  : (s.spent).isRunning = s.isRunning := rfl
@[simp] theorem State.spent_rdSh  (b : Nat) : (s.spent).rdSh b = s.rdSh b := rfl
@[simp] theorem State.spent_byte  (b : Nat) : (s.spent).byte b = s.byte b := rfl

/-! ### State.modPch -/

@[simp] theorem State.modPch_pending (n : Nat) (f : PglCh → PglCh) : (s.modPch n f).pending = s.pending := rfl
@[simp] theorem State.modPch_die (n : Nat) (f : PglCh → PglCh) : (s.modPch n f).die = s.die := rfl
@[simp] theorem State.modPch_pins (n : Nat) (f : PglCh → PglCh) : (s.modPch n f).pins = s.pins := rfl
@[simp] theorem State.modPch_regs (n : Nat) (f : PglCh → PglCh) : (s.modPch n f).regs = s.regs := rfl
@[simp] theorem State.modPch_shadow (n : Nat) (f : PglCh → PglCh) : (s.modPch n f).shadow = s.shadow := rfl
@[simp] theorem State.modPch_mem (n : Nat) (f : PglCh → PglCh) : (s.modPch n f).mem = s.mem := rfl
@[simp] theorem State.modPch_ecc1 (n : Nat) (f : PglCh → PglCh) : (s.modPch n f).ecc1 = s.ecc1 := rfl
@[simp] theorem State.modPch_ecc2 (n : Nat) (f : PglCh → PglCh) : (s.modPch n f).ecc2 = s.ecc2 := rfl
@[simp] theorem State.modPch_found (n : Nat) (f : PglCh → PglCh) : (s.modPch n f).found = s.found := rfl
@[simp] theorem State.modPch_img (n : Nat) (f : PglCh → PglCh) : (s.modPch n f).img = s.img := rfl
@[simp] theorem State.modPch_fab (n : Nat) (f : PglCh → PglCh) : (s.modPch n f).fab = s.fab := rfl
@[simp] theorem State.modPch_sources (n : Nat) (f : PglCh → PglCh) : (s.modPch n f).sources = s.sources := rfl
@[simp] theorem State.modPch_held (n : Nat) (f : PglCh → PglCh) : (s.modPch n f).held = s.held := rfl
@[simp] theorem State.modPch_axA (n : Nat) (f : PglCh → PglCh) : (s.modPch n f).axA = s.axA := rfl
@[simp] theorem State.modPch_axB (n : Nat) (f : PglCh → PglCh) : (s.modPch n f).axB = s.axB := rfl
@[simp] theorem State.modPch_svA (n : Nat) (f : PglCh → PglCh) : (s.modPch n f).svA = s.svA := rfl
@[simp] theorem State.modPch_svB (n : Nat) (f : PglCh → PglCh) : (s.modPch n f).svB = s.svB := rfl
@[simp] theorem State.modPch_trA (n : Nat) (f : PglCh → PglCh) : (s.modPch n f).trA = s.trA := rfl
@[simp] theorem State.modPch_trB (n : Nat) (f : PglCh → PglCh) : (s.modPch n f).trB = s.trB := rfl
@[simp] theorem State.modPch_tbA (n : Nat) (f : PglCh → PglCh) : (s.modPch n f).tbA = s.tbA := rfl
@[simp] theorem State.modPch_tbB (n : Nat) (f : PglCh → PglCh) : (s.modPch n f).tbB = s.tbB := rfl
@[simp] theorem State.modPch_sns (n : Nat) (f : PglCh → PglCh) : (s.modPch n f).sns = s.sns := rfl
@[simp] theorem State.modPch_hah (n : Nat) (f : PglCh → PglCh) : (s.modPch n f).hah = s.hah := rfl
@[simp] theorem State.modPch_org (n : Nat) (f : PglCh → PglCh) : (s.modPch n f).org = s.org := rfl
@[simp] theorem State.modPch_sun (n : Nat) (f : PglCh → PglCh) : (s.modPch n f).sun = s.sun := rfl
@[simp] theorem State.modPch_otp (n : Nat) (f : PglCh → PglCh) : (s.modPch n f).otp = s.otp := rfl
@[simp] theorem State.modPch_ice (n : Nat) (f : PglCh → PglCh) : (s.modPch n f).ice = s.ice := rfl
@[simp] theorem State.modPch_wkt (n : Nat) (f : PglCh → PglCh) : (s.modPch n f).wkt = s.wkt := rfl
@[simp] theorem State.modPch_stc (n : Nat) (f : PglCh → PglCh) : (s.modPch n f).stc = s.stc := rfl
@[simp] theorem State.modPch_reply (n : Nat) (f : PglCh → PglCh) : (s.modPch n f).reply = s.reply := rfl
@[simp] theorem State.modPch_free (n : Nat) (f : PglCh → PglCh) : (s.modPch n f).free = s.free := rfl
@[simp] theorem State.modPch_rd (n : Nat) (f : PglCh → PglCh) (b : Nat) : (s.modPch n f).rd b = s.rd b := rfl
@[simp] theorem State.modPch_fld (n : Nat) (f : PglCh → PglCh) (g : Fld) : (s.modPch n f).fld g = s.fld g := rfl
@[simp] theorem State.modPch_isRunning (n : Nat) (f : PglCh → PglCh) : (s.modPch n f).isRunning = s.isRunning := rfl
@[simp] theorem State.modPch_rdSh (n : Nat) (f : PglCh → PglCh) (b : Nat) : (s.modPch n f).rdSh b = s.rdSh b := rfl
@[simp] theorem State.modPch_byte (n : Nat) (f : PglCh → PglCh) (b : Nat) : (s.modPch n f).byte b = s.byte b := rfl

/-! ### The per-axis records -/

@[simp] theorem State.ax_modAx (x : Axis) (f : Ax → Ax) : (s.modAx x f).ax x = f (s.ax x) := by cases x <;> rfl
@[simp] theorem State.ax_modAx_other (x : Axis) (f : Ax → Ax) : (s.modAx x f).ax x.other = s.ax x.other := by cases x <;> rfl
@[simp] theorem State.sv_modAx (x y : Axis) (f : Ax → Ax) : (s.modAx x f).sv y = s.sv y := by cases x <;> cases y <;> rfl
@[simp] theorem State.tr_modAx (x y : Axis) (f : Ax → Ax) : (s.modAx x f).tr y = s.tr y := by cases x <;> cases y <;> rfl
@[simp] theorem State.tb_modAx (x y : Axis) (f : Ax → Ax) : (s.modAx x f).tb y = s.tb y := by cases x <;> cases y <;> rfl
@[simp] theorem State.ax_wr (y : Axis) (a : Nat) (v : Word) : (s.wr a v).ax y = s.ax y := by cases y <;> rfl
@[simp] theorem State.ax_set (y : Axis) (h : Fld) (v : Nat) : (s.set h v).ax y = s.ax y := by cases y <;> rfl
@[simp] theorem State.ax_wrSh (y : Axis) (a : Nat) (v : Word) : (s.wrSh a v).ax y = s.ax y := by cases y <;> rfl
@[simp] theorem State.ax_setByte (y : Axis) (a : Nat) (v : Byte) : (s.setByte a v).ax y = s.ax y := by cases y <;> rfl
@[simp] theorem State.sv_modSv (x : Axis) (f : Svc → Svc) : (s.modSv x f).sv x = f (s.sv x) := by cases x <;> rfl
@[simp] theorem State.sv_modSv_other (x : Axis) (f : Svc → Svc) : (s.modSv x f).sv x.other = s.sv x.other := by cases x <;> rfl
@[simp] theorem State.ax_modSv (x y : Axis) (f : Svc → Svc) : (s.modSv x f).ax y = s.ax y := by cases x <;> cases y <;> rfl
@[simp] theorem State.tr_modSv (x y : Axis) (f : Svc → Svc) : (s.modSv x f).tr y = s.tr y := by cases x <;> cases y <;> rfl
@[simp] theorem State.tb_modSv (x y : Axis) (f : Svc → Svc) : (s.modSv x f).tb y = s.tb y := by cases x <;> cases y <;> rfl
@[simp] theorem State.sv_wr (y : Axis) (a : Nat) (v : Word) : (s.wr a v).sv y = s.sv y := by cases y <;> rfl
@[simp] theorem State.sv_set (y : Axis) (h : Fld) (v : Nat) : (s.set h v).sv y = s.sv y := by cases y <;> rfl
@[simp] theorem State.sv_wrSh (y : Axis) (a : Nat) (v : Word) : (s.wrSh a v).sv y = s.sv y := by cases y <;> rfl
@[simp] theorem State.sv_setByte (y : Axis) (a : Nat) (v : Byte) : (s.setByte a v).sv y = s.sv y := by cases y <;> rfl
@[simp] theorem State.tr_modTr (x : Axis) (f : Tr → Tr) : (s.modTr x f).tr x = f (s.tr x) := by cases x <;> rfl
@[simp] theorem State.tr_modTr_other (x : Axis) (f : Tr → Tr) : (s.modTr x f).tr x.other = s.tr x.other := by cases x <;> rfl
@[simp] theorem State.ax_modTr (x y : Axis) (f : Tr → Tr) : (s.modTr x f).ax y = s.ax y := by cases x <;> cases y <;> rfl
@[simp] theorem State.sv_modTr (x y : Axis) (f : Tr → Tr) : (s.modTr x f).sv y = s.sv y := by cases x <;> cases y <;> rfl
@[simp] theorem State.tb_modTr (x y : Axis) (f : Tr → Tr) : (s.modTr x f).tb y = s.tb y := by cases x <;> cases y <;> rfl
@[simp] theorem State.tr_wr (y : Axis) (a : Nat) (v : Word) : (s.wr a v).tr y = s.tr y := by cases y <;> rfl
@[simp] theorem State.tr_set (y : Axis) (h : Fld) (v : Nat) : (s.set h v).tr y = s.tr y := by cases y <;> rfl
@[simp] theorem State.tr_wrSh (y : Axis) (a : Nat) (v : Word) : (s.wrSh a v).tr y = s.tr y := by cases y <;> rfl
@[simp] theorem State.tr_setByte (y : Axis) (a : Nat) (v : Byte) : (s.setByte a v).tr y = s.tr y := by cases y <;> rfl
@[simp] theorem State.tb_modTb (x : Axis) (f : Tb → Tb) : (s.modTb x f).tb x = f (s.tb x) := by cases x <;> rfl
@[simp] theorem State.tb_modTb_other (x : Axis) (f : Tb → Tb) : (s.modTb x f).tb x.other = s.tb x.other := by cases x <;> rfl
@[simp] theorem State.ax_modTb (x y : Axis) (f : Tb → Tb) : (s.modTb x f).ax y = s.ax y := by cases x <;> cases y <;> rfl
@[simp] theorem State.sv_modTb (x y : Axis) (f : Tb → Tb) : (s.modTb x f).sv y = s.sv y := by cases x <;> cases y <;> rfl
@[simp] theorem State.tr_modTb (x y : Axis) (f : Tb → Tb) : (s.modTb x f).tr y = s.tr y := by cases x <;> cases y <;> rfl
@[simp] theorem State.tb_wr (y : Axis) (a : Nat) (v : Word) : (s.wr a v).tb y = s.tb y := by cases y <;> rfl
@[simp] theorem State.tb_set (y : Axis) (h : Fld) (v : Nat) : (s.set h v).tb y = s.tb y := by cases y <;> rfl
@[simp] theorem State.tb_wrSh (y : Axis) (a : Nat) (v : Word) : (s.wrSh a v).tb y = s.tb y := by cases y <;> rfl
@[simp] theorem State.tb_setByte (y : Axis) (a : Nat) (v : Byte) : (s.setByte a v).tb y = s.tb y := by cases y <;> rfl

end Sys2Proof.Machine
end

