-- ==== Sys2Proof/Laws/Frame.lean ====
section
/-! SUPPORT. Frames: which parts of the state an operation may touch, and that it keeps the stores canonical. `Fr m s t`: every part
of t whose bit of `m` is 0 is as in s, and t's stores are canonical if those of s are. Bits 0 to 31 number State's fields in their
order; the registers have no bit of their own (bit 3) but one for each family, from bit 32 on. -/

namespace Sys2Proof.Machine

set_option Elab.async false

/-- The state with the parts of `m` blanked. -/
def State.mask (m : Nat) (s : State) : State :=
  { pending := bif m.testBit 0 then [] else s.pending
    die := bif m.testBit 1 then .por else s.die
    pins := bif m.testBit 2 then State.reset.pins else s.pins
    regs := s.regs.filter (fun c => !m.testBit (32 + fam c.1))
    shadow := bif m.testBit 4 then [] else s.shadow
    mem := bif m.testBit 5 then [] else s.mem
    ecc1 := bif m.testBit 6 then [] else s.ecc1
    ecc2 := bif m.testBit 7 then [] else s.ecc2
    found := bif m.testBit 8 then [] else s.found
    img := bif m.testBit 9 then Img.none else s.img
    fab := bif m.testBit 10 then State.reset.fab else s.fab
    sources := bif m.testBit 11 then [] else s.sources
    held := bif m.testBit 12 then [] else s.held
    axA := bif m.testBit 13 then Ax.reset else s.axA
    axB := bif m.testBit 14 then Ax.reset else s.axB
    svA := bif m.testBit 15 then Svc.reset else s.svA
    svB := bif m.testBit 16 then Svc.reset else s.svB
    trA := bif m.testBit 17 then Tr.reset else s.trA
    trB := bif m.testBit 18 then Tr.reset else s.trB
    tbA := bif m.testBit 19 then Tb.reset else s.tbA
    tbB := bif m.testBit 20 then Tb.reset else s.tbB
    sns := bif m.testBit 21 then Sense.reset else s.sns
    hah := bif m.testBit 22 then Bank.reset else s.hah
    org := bif m.testBit 23 then Org.reset else s.org
    sun := bif m.testBit 24 then Sun.reset else s.sun
    pgl := bif m.testBit 25 then Pgl.reset else s.pgl
    otp := bif m.testBit 26 then Otp.reset else s.otp
    ice := bif m.testBit 27 then Ice.reset else s.ice
    wkt := bif m.testBit 28 then Wkt.reset else s.wkt
    stc := bif m.testBit 29 then Stc.reset else s.stc
    reply := bif m.testBit 30 then 0 else s.reply
    free := bif m.testBit 31 then 0 else s.free }

/-- t is s but for the parts of `m`, and canonical where s is. -/
structure Fr (m : Nat) (s t : State) : Prop where
  same : t.mask m = s.mask m
  wf : s.Wf = true → t.Wf = true

theorem Fr.refl (m : Nat) (s : State) : Fr m s s := ⟨rfl, id⟩

theorem Fr.trans {m : Nat} {s t u : State} (h : Fr m s t) (k : Fr m t u) : Fr m s u := ⟨k.same.trans h.same, k.wf ∘ h.wf⟩

theorem testBit_of_and {k m i : Nat} (hk : k &&& m = k) (h : k.testBit i = true) : m.testBit i = true := by
  have := Nat.testBit_and k m i
  rw [hk, h] at this
  simpa using this.symm

theorem cond_cond {α : Type} {k m i : Nat} (hk : k &&& m = k) (r x : α) :
    (bif m.testBit i then r else (bif k.testBit i then r else x)) = bif m.testBit i then r else x := by
  cases hm : m.testBit i
  · cases h : k.testBit i
    · rfl
    · rw [testBit_of_and hk h] at hm; exact absurd hm (by simp)
  · rfl

theorem filter_mask {k m : Nat} (hk : k &&& m = k) (l : List (Nat × Word)) :
    (l.filter (fun c => !k.testBit (32 + fam c.1))).filter (fun c => !m.testBit (32 + fam c.1)) =
      l.filter (fun c => !m.testBit (32 + fam c.1)) := by
  rw [List.filter_filter]
  refine List.filter_congr (fun c _ => ?_)
  cases h : k.testBit (32 + fam c.1)
  · simp
  · simp [testBit_of_and hk h]

theorem State.mask_mask {k m : Nat} (hk : k &&& m = k) (s : State) : (s.mask k).mask m = s.mask m := by
  simp only [State.mask, cond_cond hk, filter_mask hk]

theorem filter_cset {q : Nat → Bool} {d : Nat → Word} {a : Nat} (l : List (Nat × Word)) (v : Word) (h : q a = false) :
    (cset d l a v).filter (fun c => q c.1) = l.filter (fun c => q c.1) := by
  have hi (l : List (Nat × Word)) : (cinsert a v l).filter (fun c => q c.1) = l.filter (fun c => q c.1) := by
    induction l with
    | nil => simp [cinsert, h]
    | cons e r ih => unfold cinsert; split <;> simp [List.filter_cons, h, ih]
  have hd : (cdrop a l).filter (fun c => q c.1) = l.filter (fun c => q c.1) := by
    unfold cdrop
    rw [List.filter_filter]
    refine List.filter_congr (fun c _ => ?_)
    by_cases hc : c.1 = a
    · simp [hc, h]
    · simp [hc]
  unfold cset
  split
  · exact hd
  · rw [hi, hd]

theorem cget_filter {q : Nat → Bool} {d : Nat → Word} {a : Nat} (l : List (Nat × Word)) (h : q a = true) :
    cget d (l.filter (fun c => q c.1)) a = cget d l a := by
  induction l with
  | nil => rfl
  | cons e r ih =>
    by_cases he : e.1 = a
    · simp [he, h, cget]
    · cases hq : q e.1 <;> simp [hq, cget, he, ih]

theorem Fr.mono {k m : Nat} {s t : State} (h : Fr k s t) (hk : k &&& m = k) : Fr m s t :=
  ⟨by rw [← State.mask_mask hk t, h.same, State.mask_mask hk], h.wf⟩

/-- Go on with an operation of smaller reach. -/
theorem Fr.lift {k m : Nat} {s t u : State} (h : Fr m s t) (hk : k &&& m = k) (h2 : Fr k t u) : Fr m s u :=
  h.trans (h2.mono hk)

theorem and_sub {j k m : Nat} (hk : k &&& m = k) (hj : j &&& k = j) : j &&& m = j := by
  rw [← hj, Nat.and_assoc, hk]

theorem Fr.id_ {m : Nat} {s t : State} (h : Fr m s t) : Fr m s (id t) := h

theorem Fr.ite {m : Nat} {s a b : State} {c : Prop} [Decidable c] (ha : Fr m s a) (hb : Fr m s b) :
    Fr m s (if c then a else b) := by split <;> assumption

theorem Fr.cond {m : Nat} {s a b : State} {c : Bool} (ha : Fr m s a) (hb : Fr m s b) :
    Fr m s (bif c then a else b) := by cases c <;> assumption

theorem Fr.of_snd {α : Type} {m : Nat} {s t : State} {p : α × State} {a : α} (e : p = (a, t)) (h : Fr m s p.2) : Fr m s t := by
  rw [e] at h; exact h

theorem Fr.of_fst {α : Type} {m : Nat} {s t : State} {p : State × α} {a : α} (e : p = (t, a)) (h : Fr m s p.1) : Fr m s t := by
  rw [e] at h; exact h

theorem Fr.snd_mk {α : Type} {m : Nat} {s t : State} {a : α} (h : Fr m s t) : Fr m s (a, t).2 := h
theorem Fr.fst_mk {α : Type} {m : Nat} {s t : State} {a : α} (h : Fr m s t) : Fr m s (t, a).1 := h

theorem Fr.forEach {m : Nat} {α : Type} {s0 s : State} {l : List α} {f : State → α → State} (h : Fr m s0 s)
    (hf : ∀ t a, Fr m s0 t → Fr m s0 (f t a)) : Fr m s0 (s.forEach l f) := by
  unfold State.forEach
  induction l generalizing s with
  | nil => exact h
  | cons a r ih => exact ih (hf _ _ h)

theorem Fr.onlyIf {m : Nat} {s0 s : State} {c : Bool} {f : State → State} (h : Fr m s0 s)
    (hf : ∀ t, Fr m s0 t → Fr m s0 (f t)) : Fr m s0 (s.onlyIf c f) := by
  unfold State.onlyIf; split
  · exact hf _ h
  · exact h

theorem Fr.running {m : Nat} {s0 s : State} {f : State → State} (h : Fr m s0 s)
    (hf : ∀ t, Fr m s0 t → Fr m s0 (f t)) : Fr m s0 (s.running f) := by
  unfold State.running; split
  · exact hf _ h
  · exact h

/-- A family number is at most 264. -/
theorem famIn_le (l : List (Nat × Nat × Nat × Nat)) (h : l.all (fun e => decide (e.1 ≤ 264)) = true) (o : Nat) : famIn l o ≤ 264 := by
  induction l with
  | nil => exact Nat.le_refl _
  | cons e r ih =>
    simp only [List.all_cons, Bool.and_eq_true, decide_eq_true_eq] at h
    unfold famIn
    split
    · exact h.1
    · exact ih h.2

theorem fam_le (a : Nat) : fam a ≤ 264 := by
  unfold fam
  split <;> first | exact famIn_le _ (by decide) _ | exact Nat.le_refl _

/-- One bit for each of the 265 families. -/
abbrev famAll : Nat := 0x1ffffffffffffffffffffffffffffffffffffffffffffffffffffffffffffffffff

set_option maxRecDepth 20000 in
theorem famAll_bit : ∀ i < 265, famAll.testBit i = true := by decide

/-- Every family is in a mask whose family bits are all set. -/
theorem all_fam {m a : Nat} (h : m >>> 32 = famAll) : m.testBit (32 + fam a) = true := by
  rw [← Nat.testBit_shiftRight, h]
  exact famAll_bit _ (Nat.lt_succ_of_le (fam_le a))

/-- Such a mask blanks every register. -/
theorem all_filter {m : Nat} (h : m >>> 32 = famAll) (l : List (Nat × Word)) : l.filter (fun c => !m.testBit (32 + fam c.1)) = [] := by
  simp [all_fam h]

theorem Fr.forEachFld {m : Nat} {s0 s : State} {l : List Fld} {f : State → Fld → State} (h : Fr m s0 s)
    (hf : ∀ t a, m.testBit (32 + fam a.reg) = true → Fr m s0 t → Fr m s0 (f t a))
    (hl : l.all (fun a => m.testBit (32 + fam a.reg)) = true := by first | (simp; decide) | (simp +zetaDelta; decide)) :
    Fr m s0 (s.forEach l f) := by
  unfold State.forEach
  induction l generalizing s with
  | nil => exact h
  | cons a r ih =>
    simp only [List.all_cons, Bool.and_eq_true] at hl
    exact ih (hf _ _ hl.1 h) hl.2

theorem Fr.forEachReg {m : Nat} {s0 s : State} {l : List Nat} {f : State → Nat → State} (h : Fr m s0 s)
    (hf : ∀ t a, m.testBit (32 + fam a) = true → Fr m s0 t → Fr m s0 (f t a))
    (hl : l.all (fun a => m.testBit (32 + fam a)) = true := by first | (simp; decide) | (simp +zetaDelta; decide)) :
    Fr m s0 (s.forEach l f) := by
  unfold State.forEach
  induction l generalizing s with
  | nil => exact h
  | cons a r ih =>
    simp only [List.all_cons, Bool.and_eq_true] at hl
    exact ih (hf _ _ hl.1 h) hl.2

/-! ### Parts that stand -/

theorem Fr.keep_pending {m : Nat} {s t : State} (h : Fr m s t) (hm : m.testBit 0 = false := by decide) : t.pending = s.pending := by
  have := congrArg State.pending h.same; simpa only [State.mask, hm, cond_false] using this
theorem Fr.keep_die {m : Nat} {s t : State} (h : Fr m s t) (hm : m.testBit 1 = false := by decide) : t.die = s.die := by
  have := congrArg State.die h.same; simpa only [State.mask, hm, cond_false] using this
theorem Fr.keep_pins {m : Nat} {s t : State} (h : Fr m s t) (hm : m.testBit 2 = false := by decide) : t.pins = s.pins := by
  have := congrArg State.pins h.same; simpa only [State.mask, hm, cond_false] using this
theorem Fr.keep_shadow {m : Nat} {s t : State} (h : Fr m s t) (hm : m.testBit 4 = false := by decide) : t.shadow = s.shadow := by
  have := congrArg State.shadow h.same; simpa only [State.mask, hm, cond_false] using this
theorem Fr.keep_mem {m : Nat} {s t : State} (h : Fr m s t) (hm : m.testBit 5 = false := by decide) : t.mem = s.mem := by
  have := congrArg State.mem h.same; simpa only [State.mask, hm, cond_false] using this
theorem Fr.keep_ecc1 {m : Nat} {s t : State} (h : Fr m s t) (hm : m.testBit 6 = false := by decide) : t.ecc1 = s.ecc1 := by
  have := congrArg State.ecc1 h.same; simpa only [State.mask, hm, cond_false] using this
theorem Fr.keep_ecc2 {m : Nat} {s t : State} (h : Fr m s t) (hm : m.testBit 7 = false := by decide) : t.ecc2 = s.ecc2 := by
  have := congrArg State.ecc2 h.same; simpa only [State.mask, hm, cond_false] using this
theorem Fr.keep_found {m : Nat} {s t : State} (h : Fr m s t) (hm : m.testBit 8 = false := by decide) : t.found = s.found := by
  have := congrArg State.found h.same; simpa only [State.mask, hm, cond_false] using this
theorem Fr.keep_img {m : Nat} {s t : State} (h : Fr m s t) (hm : m.testBit 9 = false := by decide) : t.img = s.img := by
  have := congrArg State.img h.same; simpa only [State.mask, hm, cond_false] using this
theorem Fr.keep_fab {m : Nat} {s t : State} (h : Fr m s t) (hm : m.testBit 10 = false := by decide) : t.fab = s.fab := by
  have := congrArg State.fab h.same; simpa only [State.mask, hm, cond_false] using this
theorem Fr.keep_sources {m : Nat} {s t : State} (h : Fr m s t) (hm : m.testBit 11 = false := by decide) : t.sources = s.sources := by
  have := congrArg State.sources h.same; simpa only [State.mask, hm, cond_false] using this
theorem Fr.keep_held {m : Nat} {s t : State} (h : Fr m s t) (hm : m.testBit 12 = false := by decide) : t.held = s.held := by
  have := congrArg State.held h.same; simpa only [State.mask, hm, cond_false] using this
theorem Fr.keep_axA {m : Nat} {s t : State} (h : Fr m s t) (hm : m.testBit 13 = false := by decide) : t.axA = s.axA := by
  have := congrArg State.axA h.same; simpa only [State.mask, hm, cond_false] using this
theorem Fr.keep_axB {m : Nat} {s t : State} (h : Fr m s t) (hm : m.testBit 14 = false := by decide) : t.axB = s.axB := by
  have := congrArg State.axB h.same; simpa only [State.mask, hm, cond_false] using this
theorem Fr.keep_svA {m : Nat} {s t : State} (h : Fr m s t) (hm : m.testBit 15 = false := by decide) : t.svA = s.svA := by
  have := congrArg State.svA h.same; simpa only [State.mask, hm, cond_false] using this
theorem Fr.keep_svB {m : Nat} {s t : State} (h : Fr m s t) (hm : m.testBit 16 = false := by decide) : t.svB = s.svB := by
  have := congrArg State.svB h.same; simpa only [State.mask, hm, cond_false] using this
theorem Fr.keep_trA {m : Nat} {s t : State} (h : Fr m s t) (hm : m.testBit 17 = false := by decide) : t.trA = s.trA := by
  have := congrArg State.trA h.same; simpa only [State.mask, hm, cond_false] using this
theorem Fr.keep_trB {m : Nat} {s t : State} (h : Fr m s t) (hm : m.testBit 18 = false := by decide) : t.trB = s.trB := by
  have := congrArg State.trB h.same; simpa only [State.mask, hm, cond_false] using this
theorem Fr.keep_tbA {m : Nat} {s t : State} (h : Fr m s t) (hm : m.testBit 19 = false := by decide) : t.tbA = s.tbA := by
  have := congrArg State.tbA h.same; simpa only [State.mask, hm, cond_false] using this
theorem Fr.keep_tbB {m : Nat} {s t : State} (h : Fr m s t) (hm : m.testBit 20 = false := by decide) : t.tbB = s.tbB := by
  have := congrArg State.tbB h.same; simpa only [State.mask, hm, cond_false] using this
theorem Fr.keep_sns {m : Nat} {s t : State} (h : Fr m s t) (hm : m.testBit 21 = false := by decide) : t.sns = s.sns := by
  have := congrArg State.sns h.same; simpa only [State.mask, hm, cond_false] using this
theorem Fr.keep_hah {m : Nat} {s t : State} (h : Fr m s t) (hm : m.testBit 22 = false := by decide) : t.hah = s.hah := by
  have := congrArg State.hah h.same; simpa only [State.mask, hm, cond_false] using this
theorem Fr.keep_org {m : Nat} {s t : State} (h : Fr m s t) (hm : m.testBit 23 = false := by decide) : t.org = s.org := by
  have := congrArg State.org h.same; simpa only [State.mask, hm, cond_false] using this
theorem Fr.keep_sun {m : Nat} {s t : State} (h : Fr m s t) (hm : m.testBit 24 = false := by decide) : t.sun = s.sun := by
  have := congrArg State.sun h.same; simpa only [State.mask, hm, cond_false] using this
theorem Fr.keep_pgl {m : Nat} {s t : State} (h : Fr m s t) (hm : m.testBit 25 = false := by decide) : t.pgl = s.pgl := by
  have := congrArg State.pgl h.same; simpa only [State.mask, hm, cond_false] using this
theorem Fr.keep_otp {m : Nat} {s t : State} (h : Fr m s t) (hm : m.testBit 26 = false := by decide) : t.otp = s.otp := by
  have := congrArg State.otp h.same; simpa only [State.mask, hm, cond_false] using this
theorem Fr.keep_ice {m : Nat} {s t : State} (h : Fr m s t) (hm : m.testBit 27 = false := by decide) : t.ice = s.ice := by
  have := congrArg State.ice h.same; simpa only [State.mask, hm, cond_false] using this
theorem Fr.keep_wkt {m : Nat} {s t : State} (h : Fr m s t) (hm : m.testBit 28 = false := by decide) : t.wkt = s.wkt := by
  have := congrArg State.wkt h.same; simpa only [State.mask, hm, cond_false] using this
theorem Fr.keep_stc {m : Nat} {s t : State} (h : Fr m s t) (hm : m.testBit 29 = false := by decide) : t.stc = s.stc := by
  have := congrArg State.stc h.same; simpa only [State.mask, hm, cond_false] using this
theorem Fr.keep_reply {m : Nat} {s t : State} (h : Fr m s t) (hm : m.testBit 30 = false := by decide) : t.reply = s.reply := by
  have := congrArg State.reply h.same; simpa only [State.mask, hm, cond_false] using this
theorem Fr.keep_free {m : Nat} {s t : State} (h : Fr m s t) (hm : m.testBit 31 = false := by decide) : t.free = s.free := by
  have := congrArg State.free h.same; simpa only [State.mask, hm, cond_false] using this

/-- A register whose family m does not name stands. -/
theorem Fr.keep_rd {m a : Nat} {s t : State} (h : Fr m s t) (ha : m.testBit (32 + fam a) = false) : t.rd a = s.rd a := by
  have e := congrArg State.regs h.same
  simp only [State.mask] at e
  unfold State.rd
  rw [← cget_filter (q := fun b => !m.testBit (32 + fam b)) t.regs (by simp [ha]), e,
    cget_filter (q := fun b => !m.testBit (32 + fam b)) s.regs (by simp [ha])]

/-- A field of such a register stands. -/
theorem Fr.keep_fld {m : Nat} {s t : State} {f : Fld} (h : Fr m s t) (ha : m.testBit (32 + fam f.reg) = false) :
    t.fld f = s.fld f := by unfold State.fld; rw [h.keep_rd ha]

/-- Where m names no family every register stands. -/
theorem Fr.keep_regs {m : Nat} {s t : State} (h : Fr m s t) (hm : m < 2 ^ 32 := by decide) : t.regs = s.regs := by
  have e := congrArg State.regs h.same
  have hz (a : Nat) : m.testBit (32 + fam a) = false :=
    Nat.testBit_lt_two_pow (Nat.lt_of_lt_of_le hm (Nat.pow_le_pow_right (by decide) (by omega)))
  simpa [State.mask, hz] using e

theorem Fr.pending {m : Nat} {s0 s : State} {v : _} (h : Fr m s0 s) (hk : 1 &&& m = 1 := by decide) :
    Fr m s0 { s with pending := v } := h.lift hk ⟨rfl, id⟩
theorem Fr.die {m : Nat} {s0 s : State} {v : _} (h : Fr m s0 s) (hk : 2 &&& m = 2 := by decide) :
    Fr m s0 { s with die := v } := h.lift hk ⟨rfl, id⟩
theorem Fr.pins {m : Nat} {s0 s : State} {v : _} (h : Fr m s0 s) (hk : 4 &&& m = 4 := by decide) :
    Fr m s0 { s with pins := v } := h.lift hk ⟨rfl, id⟩
theorem Fr.ecc1 {m : Nat} {s0 s : State} {v : _} (h : Fr m s0 s) (hk : 64 &&& m = 64 := by decide) :
    Fr m s0 { s with ecc1 := v } := h.lift hk ⟨rfl, id⟩
theorem Fr.ecc2 {m : Nat} {s0 s : State} {v : _} (h : Fr m s0 s) (hk : 128 &&& m = 128 := by decide) :
    Fr m s0 { s with ecc2 := v } := h.lift hk ⟨rfl, id⟩
theorem Fr.found {m : Nat} {s0 s : State} {v : _} (h : Fr m s0 s) (hk : 256 &&& m = 256 := by decide) :
    Fr m s0 { s with found := v } := h.lift hk ⟨rfl, id⟩
theorem Fr.img {m : Nat} {s0 s : State} {v : _} (h : Fr m s0 s) (hk : 512 &&& m = 512 := by decide) :
    Fr m s0 { s with img := v } := h.lift hk ⟨rfl, id⟩
theorem Fr.fab {m : Nat} {s0 s : State} {v : _} (h : Fr m s0 s) (hk : 1024 &&& m = 1024 := by decide) :
    Fr m s0 { s with fab := v } := h.lift hk ⟨rfl, id⟩
theorem Fr.sources {m : Nat} {s0 s : State} {v : _} (h : Fr m s0 s) (hk : 2048 &&& m = 2048 := by decide) :
    Fr m s0 { s with sources := v } := h.lift hk ⟨rfl, id⟩
theorem Fr.held {m : Nat} {s0 s : State} {v : _} (h : Fr m s0 s) (hk : 4096 &&& m = 4096 := by decide) :
    Fr m s0 { s with held := v } := h.lift hk ⟨rfl, id⟩
theorem Fr.axA {m : Nat} {s0 s : State} {v : _} (h : Fr m s0 s) (hk : 8192 &&& m = 8192 := by decide) :
    Fr m s0 { s with axA := v } := h.lift hk ⟨rfl, id⟩
theorem Fr.axB {m : Nat} {s0 s : State} {v : _} (h : Fr m s0 s) (hk : 16384 &&& m = 16384 := by decide) :
    Fr m s0 { s with axB := v } := h.lift hk ⟨rfl, id⟩
theorem Fr.svA {m : Nat} {s0 s : State} {v : _} (h : Fr m s0 s) (hk : 32768 &&& m = 32768 := by decide) :
    Fr m s0 { s with svA := v } := h.lift hk ⟨rfl, id⟩
theorem Fr.svB {m : Nat} {s0 s : State} {v : _} (h : Fr m s0 s) (hk : 65536 &&& m = 65536 := by decide) :
    Fr m s0 { s with svB := v } := h.lift hk ⟨rfl, id⟩
theorem Fr.trA {m : Nat} {s0 s : State} {v : _} (h : Fr m s0 s) (hk : 131072 &&& m = 131072 := by decide) :
    Fr m s0 { s with trA := v } := h.lift hk ⟨rfl, id⟩
theorem Fr.trB {m : Nat} {s0 s : State} {v : _} (h : Fr m s0 s) (hk : 262144 &&& m = 262144 := by decide) :
    Fr m s0 { s with trB := v } := h.lift hk ⟨rfl, id⟩
theorem Fr.tbA {m : Nat} {s0 s : State} {v : _} (h : Fr m s0 s) (hk : 524288 &&& m = 524288 := by decide) :
    Fr m s0 { s with tbA := v } := h.lift hk ⟨rfl, id⟩
theorem Fr.tbB {m : Nat} {s0 s : State} {v : _} (h : Fr m s0 s) (hk : 1048576 &&& m = 1048576 := by decide) :
    Fr m s0 { s with tbB := v } := h.lift hk ⟨rfl, id⟩
theorem Fr.sns {m : Nat} {s0 s : State} {v : _} (h : Fr m s0 s) (hk : 2097152 &&& m = 2097152 := by decide) :
    Fr m s0 { s with sns := v } := h.lift hk ⟨rfl, id⟩
theorem Fr.hah {m : Nat} {s0 s : State} {v : _} (h : Fr m s0 s) (hk : 4194304 &&& m = 4194304 := by decide) :
    Fr m s0 { s with hah := v } := h.lift hk ⟨rfl, id⟩
theorem Fr.org {m : Nat} {s0 s : State} {v : _} (h : Fr m s0 s) (hk : 8388608 &&& m = 8388608 := by decide) :
    Fr m s0 { s with org := v } := h.lift hk ⟨rfl, id⟩
theorem Fr.sun {m : Nat} {s0 s : State} {v : _} (h : Fr m s0 s) (hk : 16777216 &&& m = 16777216 := by decide) :
    Fr m s0 { s with sun := v } := h.lift hk ⟨rfl, id⟩
theorem Fr.pgl {m : Nat} {s0 s : State} {v : _} (h : Fr m s0 s) (hk : 33554432 &&& m = 33554432 := by decide) :
    Fr m s0 { s with pgl := v } := h.lift hk ⟨rfl, id⟩
theorem Fr.otp {m : Nat} {s0 s : State} {v : _} (h : Fr m s0 s) (hk : 67108864 &&& m = 67108864 := by decide) :
    Fr m s0 { s with otp := v } := h.lift hk ⟨rfl, id⟩
theorem Fr.ice {m : Nat} {s0 s : State} {v : _} (h : Fr m s0 s) (hk : 134217728 &&& m = 134217728 := by decide) :
    Fr m s0 { s with ice := v } := h.lift hk ⟨rfl, id⟩
theorem Fr.wkt {m : Nat} {s0 s : State} {v : _} (h : Fr m s0 s) (hk : 268435456 &&& m = 268435456 := by decide) :
    Fr m s0 { s with wkt := v } := h.lift hk ⟨rfl, id⟩
theorem Fr.stc {m : Nat} {s0 s : State} {v : _} (h : Fr m s0 s) (hk : 536870912 &&& m = 536870912 := by decide) :
    Fr m s0 { s with stc := v } := h.lift hk ⟨rfl, id⟩
theorem Fr.reply {m : Nat} {s0 s : State} {v : _} (h : Fr m s0 s) (hk : 1073741824 &&& m = 1073741824 := by decide) :
    Fr m s0 { s with reply := v } := h.lift hk ⟨rfl, id⟩
theorem Fr.free {m : Nat} {s0 s : State} {v : _} (h : Fr m s0 s) (hk : 2147483648 &&& m = 2147483648 := by decide) :
    Fr m s0 { s with free := v } := h.lift hk ⟨rfl, id⟩

theorem State.wr_fr {m : Nat} {s0 s : State} {a : Nat} {v : Word} (h : Fr m s0 s) (hk : m.testBit (32 + fam a) = true := by first | assumption | decide | (simp; done) | (simp; decide) | (simp +zetaDelta; decide) | (split <;> simp <;> decide) | exact all_fam (by decide)) :
    Fr m s0 (s.wr a v) := h.trans ⟨by
      have e := filter_cset (q := fun b => !m.testBit (32 + fam b)) (d := regPor) (a := a) s.regs v (by show (!_) = false; rw [hk]; rfl)
      simp only [State.mask, State.wr, e],
    fun h => by simp only [State.Wf, State.wr, Bool.and_eq_true] at *; exact ⟨⟨cwf_cset _ _ h.1.1, h.1.2⟩, h.2⟩⟩

theorem State.wrSh_fr {m : Nat} {s0 s : State} {a : Nat} {v : Word} (h : Fr m s0 s) (hk : 16 &&& m = 16 := by decide) :
    Fr m s0 (s.wrSh a v) := h.lift hk ⟨rfl, fun h => by
      simp only [State.Wf, State.wrSh, Bool.and_eq_true] at *; exact ⟨⟨h.1.1, cwf_cset _ _ h.1.2⟩, h.2⟩⟩

theorem State.setByte_fr {m : Nat} {s0 s : State} {a : Nat} {v : Byte} (h : Fr m s0 s) (hk : 32 &&& m = 32 := by decide) :
    Fr m s0 (s.setByte a v) := h.lift hk ⟨rfl, fun h => by
      simp only [State.Wf, State.setByte, Bool.and_eq_true] at *; exact ⟨h.1, cwf_cset _ _ h.2⟩⟩

theorem State.set_fr {m : Nat} {s0 s : State} {f : Fld} {v : Nat} (h : Fr m s0 s) (hk : m.testBit (32 + fam f.reg) = true := by first | assumption | decide | (simp; done) | (simp; decide) | (simp +zetaDelta; decide) | (split <;> simp <;> decide) | exact all_fam (by decide)) :
    Fr m s0 (s.set f v) := State.wr_fr h hk
theorem State.setB_fr {m : Nat} {s0 s : State} {f : Fld} {v : Bool} (h : Fr m s0 s) (hk : m.testBit (32 + fam f.reg) = true := by first | assumption | decide | (simp; done) | (simp; decide) | (simp +zetaDelta; decide) | (split <;> simp <;> decide) | exact all_fam (by decide)) :
    Fr m s0 (s.setB f v) := State.wr_fr h hk
theorem State.setI_fr {m : Nat} {s0 s : State} {f : Fld} {v : Int} (h : Fr m s0 s) (hk : m.testBit (32 + fam f.reg) = true := by first | assumption | decide | (simp; done) | (simp; decide) | (simp +zetaDelta; decide) | (split <;> simp <;> decide) | exact all_fam (by decide)) :
    Fr m s0 (s.setI f v) := State.wr_fr h hk
theorem State.setW_fr {m : Nat} {s0 s : State} {f : Fld} {v : Word} (h : Fr m s0 s) (hk : m.testBit (32 + fam f.reg) = true := by first | assumption | decide | (simp; done) | (simp; decide) | (simp +zetaDelta; decide) | (split <;> simp <;> decide) | exact all_fam (by decide)) :
    Fr m s0 (s.setW f v) := State.wr_fr h hk
theorem State.incBy_fr {m : Nat} {s0 s : State} {f : Fld} {v : Nat} (h : Fr m s0 s) (hk : m.testBit (32 + fam f.reg) = true := by first | assumption | decide | (simp; done) | (simp; decide) | (simp +zetaDelta; decide) | (split <;> simp <;> decide) | exact all_fam (by decide)) :
    Fr m s0 (s.incBy f v) := State.wr_fr h hk
theorem State.inc_fr {m : Nat} {s0 s : State} {f : Fld} (h : Fr m s0 s) (hk : m.testBit (32 + fam f.reg) = true := by first | assumption | decide | (simp; done) | (simp; decide) | (simp +zetaDelta; decide) | (split <;> simp <;> decide) | exact all_fam (by decide)) :
    Fr m s0 (s.inc f) := State.wr_fr h hk
theorem State.take_fr {m : Nat} {s0 s : State} {f : Fld} (h : Fr m s0 s) (hk : m.testBit (32 + fam f.reg) = true := by first | assumption | decide | (simp; done) | (simp; decide) | (simp +zetaDelta; decide) | (split <;> simp <;> decide) | exact all_fam (by decide)) :
    Fr m s0 (s.take f) := State.wr_fr h hk
theorem State.setSh_fr {m : Nat} {s0 s : State} {f : Fld} {v : Nat} (h : Fr m s0 s) (hk : 16 &&& m = 16 := by decide) :
    Fr m s0 (s.setSh f v) := State.wrSh_fr h hk

theorem State.modAx_fr {m : Nat} {s0 s : State} {x : Axis} {f : Ax → Ax} (h : Fr m s0 s) (hk : 24576 &&& m = 24576 := by decide) :
    Fr m s0 (s.modAx x f) := h.lift hk (by cases x <;> exact ⟨rfl, id⟩)
theorem State.modSv_fr {m : Nat} {s0 s : State} {x : Axis} {f : Svc → Svc} (h : Fr m s0 s) (hk : 98304 &&& m = 98304 := by decide) :
    Fr m s0 (s.modSv x f) := h.lift hk (by cases x <;> exact ⟨rfl, id⟩)
theorem State.modTr_fr {m : Nat} {s0 s : State} {x : Axis} {f : Tr → Tr} (h : Fr m s0 s) (hk : 393216 &&& m = 393216 := by decide) :
    Fr m s0 (s.modTr x f) := h.lift hk (by cases x <;> exact ⟨rfl, id⟩)
theorem State.modTb_fr {m : Nat} {s0 s : State} {x : Axis} {f : Tb → Tb} (h : Fr m s0 s) (hk : 1572864 &&& m = 1572864 := by decide) :
    Fr m s0 (s.modTb x f) := h.lift hk (by cases x <;> exact ⟨rfl, id⟩)

end Sys2Proof.Machine
end

