-- ==== Sys2Proof/Laws/Effects.lean ====
section
/-! SUPPORT. What an operation's result holds: a command in RUNNING, the writes that touch only listed registers, whole-register
fields, and a field or register after a write, ready for `simp`. -/

namespace Sys2Proof.Machine

set_option Elab.async false

theorem State.running_of {s : State} {f : State → State} (h : s.isRunning = true) : s.running f = f s := by
  simp [State.running, h]

/-! ### Only listed registers -/

theorem State.onlyRegs.refl (l : List Nat) (s : State) : State.onlyRegs l s s := ⟨rfl, fun _ _ => rfl⟩

theorem State.onlyRegs.trans {l : List Nat} {s t u : State} (h : State.onlyRegs l s t) (k : State.onlyRegs l t u) :
    State.onlyRegs l s u :=
  ⟨by have := k.1; rw [h.1] at this; exact this, fun a ha => (k.2 a ha).trans (h.2 a ha)⟩

theorem State.onlyRegs.wr {l : List Nat} {s t : State} {a : Nat} {v : Word} (h : State.onlyRegs l s t) (ha : a ∈ l) :
    State.onlyRegs l s (t.wr a v) :=
  h.trans ⟨rfl, fun b hb => by
    have hn : b ≠ a := fun e => hb (by rw [e]; exact ha)
    rw [State.rd_wr, if_neg hn]⟩

theorem State.onlyRegs.set {l : List Nat} {s t : State} {f : Fld} {v : Nat} (h : State.onlyRegs l s t) (ha : f.reg ∈ l) :
    State.onlyRegs l s (t.set f v) := h.wr ha

theorem State.onlyRegs.onlyIf {l : List Nat} {s t : State} {c : Bool} {f : State → State} (h : State.onlyRegs l s t)
    (hf : State.onlyRegs l s (f t)) : State.onlyRegs l s (t.onlyIf c f) := by
  unfold State.onlyIf; split <;> assumption

theorem State.onlyRegs.ite {l : List Nat} {s a b : State} {c : Prop} [Decidable c] (ha : State.onlyRegs l s a)
    (hb : State.onlyRegs l s b) : State.onlyRegs l s (if c then a else b) := by split <;> assumption

theorem State.onlyRegs.forEach {α : Type} {l : List Nat} {s t : State} {m : List α} {f : State → α → State}
    (h : State.onlyRegs l s t) (hf : ∀ u a, a ∈ m → State.onlyRegs l s u → State.onlyRegs l s (f u a)) :
    State.onlyRegs l s (t.forEach m f) := by
  unfold State.forEach
  induction m generalizing t with
  | nil => exact h
  | cons a r ih =>
    exact ih (hf _ _ (by simp) h) (fun u b hb => hf u b (by simp [hb]))

/-! ### Whole registers -/

/-- A write of a field that is the whole register is a write of the register. -/
theorem State.set_full (s : State) (f : Fld) (v : Nat) (h : f.lo = 0 ∧ f.hi = 31) :
    s.set f v = s.wr f.reg (BitVec.ofNat 32 v) := by
  unfold State.set
  congr 1
  have hb : bits (s.rd f.reg).toNat f.hi f.lo = (s.rd f.reg).toNat := by
    unfold bits
    rw [h.1, h.2, pow_zero, Nat.div_one]
    exact Nat.mod_eq_of_lt (s.rd f.reg).isLt
  unfold putField
  rw [hb, h.1]
  unfold Fld.width
  rw [h.1, h.2]
  apply BitVec.eq_of_toNat_eq
  simp [BitVec.toNat_ofNat]

/-! ### A field or a register after a write -/

theorem fieldOf_lt (f : Fld) (w : Word) : fieldOf f w < 2 ^ f.width := bits_lt _ _ _

theorem State.fld_wr (s : State) (g : Fld) (a : Nat) (w : Word) :
    (s.wr a w).fld g = if g.reg = a then fieldOf g w else s.fld g := by
  simp only [State.fld, State.rd_wr]; split <;> rfl

/-- A field that was set to a value it can hold reads as that value. -/
theorem State.fld_set_of_lt (s : State) (f : Fld) (v : Nat) (h : f.ok = true) (hv : v < 2 ^ f.width) :
    (s.set f v).fld f = v := by rw [State.fld_set _ _ _ h, Nat.mod_eq_of_lt hv]

theorem State.fld_onlyIf (s : State) (c : Bool) (f : State → State) (g : Fld) :
    (s.onlyIf c f).fld g = if c = true then (f s).fld g else s.fld g := by
  unfold State.onlyIf; split <;> rfl

theorem State.rd_onlyIf (s : State) (c : Bool) (f : State → State) (a : Nat) :
    (s.onlyIf c f).rd a = if c = true then (f s).rd a else s.rd a := by
  unfold State.onlyIf; split <;> rfl

end Sys2Proof.Machine
end

