-- ==== Sys2Proof/Laws/FrameOps.lean ====
section
/-! SUPPORT. Frames of the operations of Machine/Ops.lean: one lemma each (Laws/Frame.lean). -/

namespace Sys2Proof.Machine

set_option Elab.async false

theorem State.modFab_fr {κ : Nat} {s0 s : State} {f : Fabric → Fabric} (hf_ : Fr κ s0 s) (hk_ : 0x400 &&& κ = 0x400 := by decide) :
    Fr κ s0 (State.modFab s f) := by
  refine Fr.lift hf_ hk_ ?_
  clear hf_ hk_
  unfold State.modFab
  have h0 := Fr.refl 0x400 s
  repeat' first
      | ((try lift_lets); intro v; refine_lift have hv : Fr 0x400 s v := ?_; ?_; clear_value v)
      | ((try lift_lets); intro v)

      | with_reducible refine Fr.ite ?_ ?_
      | with_reducible refine Fr.cond ?_ ?_
      | with_reducible exact Fr.fab (by with_reducible assumption)
      | with_reducible assumption
      | (refine Fr.of_snd (by assumption) ?_)
      | (refine Fr.of_fst (by assumption) ?_)
      | split
      | (unfold v; split)
      | (unfold v; clear_value *; split)
      | (clear_value *; split)

theorem State.modPgl_fr {κ : Nat} {s0 s : State} {f : Pgl → Pgl} (hf_ : Fr κ s0 s) (hk_ : 0x2000000 &&& κ = 0x2000000 := by decide) :
    Fr κ s0 (State.modPgl s f) := by
  refine Fr.lift hf_ hk_ ?_
  clear hf_ hk_
  unfold State.modPgl
  have h0 := Fr.refl 0x2000000 s
  repeat' first
      | ((try lift_lets); intro v; refine_lift have hv : Fr 0x2000000 s v := ?_; ?_; clear_value v)
      | ((try lift_lets); intro v)

      | with_reducible refine Fr.ite ?_ ?_
      | with_reducible refine Fr.cond ?_ ?_
      | with_reducible exact Fr.pgl (by with_reducible assumption)
      | with_reducible assumption
      | (refine Fr.of_snd (by assumption) ?_)
      | (refine Fr.of_fst (by assumption) ?_)
      | split
      | (unfold v; split)
      | (unfold v; clear_value *; split)
      | (clear_value *; split)

theorem State.modSun_fr {κ : Nat} {s0 s : State} {f : Sun → Sun} (hf_ : Fr κ s0 s) (hk_ : 0x1000000 &&& κ = 0x1000000 := by decide) :
    Fr κ s0 (State.modSun s f) := by
  refine Fr.lift hf_ hk_ ?_
  clear hf_ hk_
  unfold State.modSun
  have h0 := Fr.refl 0x1000000 s
  repeat' first
      | ((try lift_lets); intro v; refine_lift have hv : Fr 0x1000000 s v := ?_; ?_; clear_value v)
      | ((try lift_lets); intro v)

      | with_reducible refine Fr.ite ?_ ?_
      | with_reducible refine Fr.cond ?_ ?_
      | with_reducible exact Fr.sun (by with_reducible assumption)
      | with_reducible assumption
      | (refine Fr.of_snd (by assumption) ?_)
      | (refine Fr.of_fst (by assumption) ?_)
      | split
      | (unfold v; split)
      | (unfold v; clear_value *; split)
      | (clear_value *; split)

theorem State.modWkt_fr {κ : Nat} {s0 s : State} {f : Wkt → Wkt} (hf_ : Fr κ s0 s) (hk_ : 0x10000000 &&& κ = 0x10000000 := by decide) :
    Fr κ s0 (State.modWkt s f) := by
  refine Fr.lift hf_ hk_ ?_
  clear hf_ hk_
  unfold State.modWkt
  have h0 := Fr.refl 0x10000000 s
  repeat' first
      | ((try lift_lets); intro v; refine_lift have hv : Fr 0x10000000 s v := ?_; ?_; clear_value v)
      | ((try lift_lets); intro v)

      | with_reducible refine Fr.ite ?_ ?_
      | with_reducible refine Fr.cond ?_ ?_
      | with_reducible exact Fr.wkt (by with_reducible assumption)
      | with_reducible assumption
      | (refine Fr.of_snd (by assumption) ?_)
      | (refine Fr.of_fst (by assumption) ?_)
      | split
      | (unfold v; split)
      | (unfold v; clear_value *; split)
      | (clear_value *; split)

theorem State.modHah_fr {κ : Nat} {s0 s : State} {f : Bank → Bank} (hf_ : Fr κ s0 s) (hk_ : 0x400000 &&& κ = 0x400000 := by decide) :
    Fr κ s0 (State.modHah s f) := by
  refine Fr.lift hf_ hk_ ?_
  clear hf_ hk_
  unfold State.modHah
  have h0 := Fr.refl 0x400000 s
  repeat' first
      | ((try lift_lets); intro v; refine_lift have hv : Fr 0x400000 s v := ?_; ?_; clear_value v)
      | ((try lift_lets); intro v)

      | with_reducible refine Fr.ite ?_ ?_
      | with_reducible refine Fr.cond ?_ ?_
      | with_reducible exact Fr.hah (by with_reducible assumption)
      | with_reducible assumption
      | (refine Fr.of_snd (by assumption) ?_)
      | (refine Fr.of_fst (by assumption) ?_)
      | split
      | (unfold v; split)
      | (unfold v; clear_value *; split)
      | (clear_value *; split)

theorem State.modPins_fr {κ : Nat} {s0 s : State} {f : Pins → Pins} (hf_ : Fr κ s0 s) (hk_ : 0x4 &&& κ = 0x4 := by decide) :
    Fr κ s0 (State.modPins s f) := by
  refine Fr.lift hf_ hk_ ?_
  clear hf_ hk_
  unfold State.modPins
  have h0 := Fr.refl 0x4 s
  repeat' first
      | ((try lift_lets); intro v; refine_lift have hv : Fr 0x4 s v := ?_; ?_; clear_value v)
      | ((try lift_lets); intro v)

      | with_reducible refine Fr.ite ?_ ?_
      | with_reducible refine Fr.cond ?_ ?_
      | with_reducible exact Fr.pins (by with_reducible assumption)
      | with_reducible assumption
      | (refine Fr.of_snd (by assumption) ?_)
      | (refine Fr.of_fst (by assumption) ?_)
      | split
      | (unfold v; split)
      | (unfold v; clear_value *; split)
      | (clear_value *; split)

theorem State.toDie_fr {κ : Nat} {s0 s : State} {d : Die} (hf_ : Fr κ s0 s) (hk_ : 0x2 &&& κ = 0x2 := by decide) :
    Fr κ s0 (State.toDie s d) := by
  refine Fr.lift hf_ hk_ ?_
  clear hf_ hk_
  unfold State.toDie
  have h0 := Fr.refl 0x2 s
  repeat' first
      | ((try lift_lets); intro v; refine_lift have hv : Fr 0x2 s v := ?_; ?_; clear_value v)
      | ((try lift_lets); intro v)

      | with_reducible refine Fr.ite ?_ ?_
      | with_reducible refine Fr.cond ?_ ?_
      | with_reducible exact Fr.die (by with_reducible assumption)
      | with_reducible assumption
      | (refine Fr.of_snd (by assumption) ?_)
      | (refine Fr.of_fst (by assumption) ?_)
      | split
      | (unfold v; split)
      | (unfold v; clear_value *; split)
      | (clear_value *; split)

theorem State.modImg_fr {κ : Nat} {s0 s : State} {f : Img → Img} (hf_ : Fr κ s0 s) (hk_ : 0x200 &&& κ = 0x200 := by decide) :
    Fr κ s0 (State.modImg s f) := by
  refine Fr.lift hf_ hk_ ?_
  clear hf_ hk_
  unfold State.modImg
  have h0 := Fr.refl 0x200 s
  repeat' first
      | ((try lift_lets); intro v; refine_lift have hv : Fr 0x200 s v := ?_; ?_; clear_value v)
      | ((try lift_lets); intro v)

      | with_reducible refine Fr.ite ?_ ?_
      | with_reducible refine Fr.cond ?_ ?_
      | with_reducible exact Fr.img (by with_reducible assumption)
      | with_reducible assumption
      | (refine Fr.of_snd (by assumption) ?_)
      | (refine Fr.of_fst (by assumption) ?_)
      | split
      | (unfold v; split)
      | (unfold v; clear_value *; split)
      | (clear_value *; split)

theorem State.setHeld_fr {κ : Nat} {s0 s : State} {l : List Held} (hf_ : Fr κ s0 s) (hk_ : 0x1000 &&& κ = 0x1000 := by decide) :
    Fr κ s0 (State.setHeld s l) := by
  refine Fr.lift hf_ hk_ ?_
  clear hf_ hk_
  unfold State.setHeld
  have h0 := Fr.refl 0x1000 s
  repeat' first
      | ((try lift_lets); intro v; refine_lift have hv : Fr 0x1000 s v := ?_; ?_; clear_value v)
      | ((try lift_lets); intro v)

      | with_reducible refine Fr.ite ?_ ?_
      | with_reducible refine Fr.cond ?_ ?_
      | with_reducible exact Fr.held (by with_reducible assumption)
      | with_reducible assumption
      | (refine Fr.of_snd (by assumption) ?_)
      | (refine Fr.of_fst (by assumption) ?_)
      | split
      | (unfold v; split)
      | (unfold v; clear_value *; split)
      | (clear_value *; split)

theorem State.setFound_fr {κ : Nat} {s0 s : State} {l : List (ℕ × ℕ × ℕ)} (hf_ : Fr κ s0 s) (hk_ : 0x100 &&& κ = 0x100 := by decide) :
    Fr κ s0 (State.setFound s l) := by
  refine Fr.lift hf_ hk_ ?_
  clear hf_ hk_
  unfold State.setFound
  have h0 := Fr.refl 0x100 s
  repeat' first
      | ((try lift_lets); intro v; refine_lift have hv : Fr 0x100 s v := ?_; ?_; clear_value v)
      | ((try lift_lets); intro v)

      | with_reducible refine Fr.ite ?_ ?_
      | with_reducible refine Fr.cond ?_ ?_
      | with_reducible exact Fr.found (by with_reducible assumption)
      | with_reducible assumption
      | (refine Fr.of_snd (by assumption) ?_)
      | (refine Fr.of_fst (by assumption) ?_)
      | split
      | (unfold v; split)
      | (unfold v; clear_value *; split)
      | (clear_value *; split)

theorem State.setEcc_fr {κ : Nat} {s0 s : State} {l1 : List ℕ} {l2 : List ℕ} (hf_ : Fr κ s0 s) (hk_ : 0xc0 &&& κ = 0xc0 := by decide) :
    Fr κ s0 (State.setEcc s l1 l2) := by
  refine Fr.lift hf_ hk_ ?_
  clear hf_ hk_
  unfold State.setEcc
  have h0 := Fr.refl 0xc0 s
  repeat' first
      | ((try lift_lets); intro v; refine_lift have hv : Fr 0xc0 s v := ?_; ?_; clear_value v)
      | ((try lift_lets); intro v)

      | with_reducible refine Fr.ite ?_ ?_
      | with_reducible refine Fr.cond ?_ ?_
      | with_reducible exact Fr.ecc1 (by with_reducible assumption)
      | with_reducible exact Fr.ecc2 (by with_reducible assumption)
      | exact ⟨rfl, id⟩
      | with_reducible assumption
      | (refine Fr.of_snd (by assumption) ?_)
      | (refine Fr.of_fst (by assumption) ?_)
      | split
      | (unfold v; split)
      | (unfold v; clear_value *; split)
      | (clear_value *; split)

theorem State.setReply_fr {κ : Nat} {s0 s : State} {n : ℕ} (hf_ : Fr κ s0 s) (hk_ : 0x40000000 &&& κ = 0x40000000 := by decide) :
    Fr κ s0 (State.setReply s n) := by
  refine Fr.lift hf_ hk_ ?_
  clear hf_ hk_
  unfold State.setReply
  have h0 := Fr.refl 0x40000000 s
  repeat' first
      | ((try lift_lets); intro v; refine_lift have hv : Fr 0x40000000 s v := ?_; ?_; clear_value v)
      | ((try lift_lets); intro v)

      | with_reducible refine Fr.ite ?_ ?_
      | with_reducible refine Fr.cond ?_ ?_
      | with_reducible exact Fr.reply (by with_reducible assumption)
      | with_reducible assumption
      | (refine Fr.of_snd (by assumption) ?_)
      | (refine Fr.of_fst (by assumption) ?_)
      | split
      | (unfold v; split)
      | (unfold v; clear_value *; split)
      | (clear_value *; split)

theorem State.spent_fr {κ : Nat} {s0 s : State}  (hf_ : Fr κ s0 s) (hk_ : 0x80000000 &&& κ = 0x80000000 := by decide) :
    Fr κ s0 (State.spent s) := by
  refine Fr.lift hf_ hk_ ?_
  clear hf_ hk_
  unfold State.spent
  have h0 := Fr.refl 0x80000000 s
  repeat' first
      | ((try lift_lets); intro v; refine_lift have hv : Fr 0x80000000 s v := ?_; ?_; clear_value v)
      | ((try lift_lets); intro v)

      | with_reducible refine Fr.ite ?_ ?_
      | with_reducible refine Fr.cond ?_ ?_
      | with_reducible exact Fr.free (by with_reducible assumption)
      | with_reducible assumption
      | (refine Fr.of_snd (by assumption) ?_)
      | (refine Fr.of_fst (by assumption) ?_)
      | split
      | (unfold v; split)
      | (unfold v; clear_value *; split)
      | (clear_value *; split)

theorem State.freshBit_fr {κ : Nat} {s0 s : State}  (hf_ : Fr κ s0 s) (hk_ : 0x80000000 &&& κ = 0x80000000 := by decide) :
    Fr κ s0 (State.freshBit s).2 := by
  refine Fr.lift hf_ hk_ ?_
  clear hf_ hk_
  unfold State.freshBit
  have h0 := Fr.refl 0x80000000 s
  repeat' first
      | ((try lift_lets); intro v; refine_lift have hv : Fr 0x80000000 s v := ?_; ?_; clear_value v)
      | ((try lift_lets); intro v)
      | with_reducible refine State.spent_fr ?_
      | with_reducible refine Fr.ite ?_ ?_
      | with_reducible refine Fr.cond ?_ ?_
      | with_reducible assumption
      | (refine Fr.of_snd (by assumption) ?_)
      | (refine Fr.of_fst (by assumption) ?_)
      | split
      | (unfold v; split)
      | (unfold v; clear_value *; split)
      | (clear_value *; split)

theorem State.judged_fr {κ : Nat} {s0 s : State} {must : Bool} {may : Bool} (hf_ : Fr κ s0 s) (hk_ : 0x80000000 &&& κ = 0x80000000 := by decide) :
    Fr κ s0 (State.judged s must may).2 := by
  refine Fr.lift hf_ hk_ ?_
  clear hf_ hk_
  unfold State.judged
  have h0 := Fr.refl 0x80000000 s
  repeat' first
      | ((try lift_lets); intro v; refine_lift have hv : Fr 0x80000000 s v := ?_; ?_; clear_value v)
      | ((try lift_lets); intro v)
      | with_reducible refine State.freshBit_fr ?_
      | with_reducible refine Fr.ite ?_ ?_
      | with_reducible refine Fr.cond ?_ ?_
      | with_reducible assumption
      | with_reducible exact Fr.id_ (by with_reducible assumption)
      | (refine Fr.of_snd (by assumption) ?_)
      | (refine Fr.of_fst (by assumption) ?_)
      | split
      | (unfold v; split)
      | (unfold v; clear_value *; split)
      | (clear_value *; split)

theorem State.freshWord_fr {κ : Nat} {s0 s : State}  (hf_ : Fr κ s0 s) (hk_ : 0x80000000 &&& κ = 0x80000000 := by decide) :
    Fr κ s0 (State.freshWord s).2 := by
  refine Fr.lift hf_ hk_ ?_
  clear hf_ hk_
  unfold State.freshWord
  have h0 := Fr.refl 0x80000000 s
  repeat' first
      | ((try lift_lets); intro v; refine_lift have hv : Fr 0x80000000 s v := ?_; ?_; clear_value v)
      | ((try lift_lets); intro v)
      | with_reducible refine State.spent_fr ?_
      | with_reducible refine Fr.ite ?_ ?_
      | with_reducible refine Fr.cond ?_ ?_
      | with_reducible assumption
      | (refine Fr.of_snd (by assumption) ?_)
      | (refine Fr.of_fst (by assumption) ?_)
      | split
      | (unfold v; split)
      | (unfold v; clear_value *; split)
      | (clear_value *; split)

theorem State.freshNat_fr {κ : Nat} {s0 s : State}  (hf_ : Fr κ s0 s) (hk_ : 0x80000000 &&& κ = 0x80000000 := by decide) :
    Fr κ s0 (State.freshNat s).2 := by
  refine Fr.lift hf_ hk_ ?_
  clear hf_ hk_
  unfold State.freshNat
  have h0 := Fr.refl 0x80000000 s
  repeat' first
      | ((try lift_lets); intro v; refine_lift have hv : Fr 0x80000000 s v := ?_; ?_; clear_value v)
      | ((try lift_lets); intro v)
      | with_reducible refine State.spent_fr ?_
      | with_reducible refine Fr.ite ?_ ?_
      | with_reducible refine Fr.cond ?_ ?_
      | with_reducible assumption
      | (refine Fr.of_snd (by assumption) ?_)
      | (refine Fr.of_fst (by assumption) ?_)
      | split
      | (unfold v; split)
      | (unfold v; clear_value *; split)
      | (clear_value *; split)

theorem State.st32_fr {κ : Nat} {s0 s : State} {a : ℕ} {v : Word} (hf_ : Fr κ s0 s) (hk_ : 0x20 &&& κ = 0x20 := by decide) :
    Fr κ s0 (State.st32 s a v) := by
  refine Fr.lift hf_ hk_ ?_
  clear hf_ hk_
  unfold State.st32
  have h0 := Fr.refl 0x20 s
  repeat' first
      | ((try lift_lets); intro v; refine_lift have hv : Fr 0x20 s v := ?_; ?_; clear_value v)
      | ((try lift_lets); intro v)
      | with_reducible refine State.setByte_fr ?_
      | with_reducible refine Fr.ite ?_ ?_
      | with_reducible refine Fr.cond ?_ ?_
      | with_reducible assumption
      | (refine Fr.of_snd (by assumption) ?_)
      | (refine Fr.of_fst (by assumption) ?_)
      | split
      | (unfold v; split)
      | (unfold v; clear_value *; split)
      | (clear_value *; split)

theorem State.setBytes_fr {κ : Nat} {s0 s : State} {a : ℕ} {bs : List Byte} (hf_ : Fr κ s0 s) (hk_ : 0x20 &&& κ = 0x20 := by decide) :
    Fr κ s0 (State.setBytes s a bs) := by
  refine Fr.lift hf_ hk_ ?_
  clear hf_ hk_ s0
  revert s
  induction bs generalizing a with
  | nil =>
    intro s
    unfold State.setBytes
    (
    have h0 := Fr.refl 0x20 s
    repeat' first
        | ((try lift_lets); intro v; refine_lift have hv : Fr 0x20 s v := ?_; ?_; clear_value v)
        | ((try lift_lets); intro v)
        | with_reducible refine State.setByte_fr ?_
        | with_reducible refine Fr.ite ?_ ?_
        | with_reducible refine Fr.cond ?_ ?_
        | with_reducible assumption
        | (refine Fr.of_snd (by assumption) ?_)
        | (refine Fr.of_fst (by assumption) ?_)
        | split
        | (unfold v; split)
        | (unfold v; clear_value *; split)
        | (clear_value *; split)
        | (injections; subst_vars))
  | cons c_ r_ ih =>
    intro s
    unfold State.setBytes
    (
    have h0 := Fr.refl 0x20 s
    repeat' first
        | ((try lift_lets); intro v; refine_lift have hv : Fr 0x20 s v := ?_; ?_; clear_value v)
        | ((try lift_lets); intro v)
        | with_reducible refine State.setByte_fr ?_
        | with_reducible refine Fr.trans ?_ ih
        | with_reducible refine Fr.ite ?_ ?_
        | with_reducible refine Fr.cond ?_ ?_
        | with_reducible assumption
        | (refine Fr.of_snd (by assumption) ?_)
        | (refine Fr.of_fst (by assumption) ?_)
        | split
        | (unfold v; split)
        | (unfold v; clear_value *; split)
        | (clear_value *; split)
        | (injections; subst_vars))

theorem State.setWords_fr {κ : Nat} {s0 s : State} {a : ℕ} {ws : List Word} (hf_ : Fr κ s0 s) (hk_ : 0x20 &&& κ = 0x20 := by decide) :
    Fr κ s0 (State.setWords s a ws) := by
  refine Fr.lift hf_ hk_ ?_
  clear hf_ hk_ s0
  revert s
  induction ws generalizing a with
  | nil =>
    intro s
    unfold State.setWords
    (
    have h0 := Fr.refl 0x20 s
    repeat' first
        | ((try lift_lets); intro v; refine_lift have hv : Fr 0x20 s v := ?_; ?_; clear_value v)
        | ((try lift_lets); intro v)
        | with_reducible refine State.st32_fr ?_
        | with_reducible refine Fr.ite ?_ ?_
        | with_reducible refine Fr.cond ?_ ?_
        | with_reducible assumption
        | (refine Fr.of_snd (by assumption) ?_)
        | (refine Fr.of_fst (by assumption) ?_)
        | split
        | (unfold v; split)
        | (unfold v; clear_value *; split)
        | (clear_value *; split)
        | (injections; subst_vars))
  | cons c_ r_ ih =>
    intro s
    unfold State.setWords
    (
    have h0 := Fr.refl 0x20 s
    repeat' first
        | ((try lift_lets); intro v; refine_lift have hv : Fr 0x20 s v := ?_; ?_; clear_value v)
        | ((try lift_lets); intro v)
        | with_reducible refine State.st32_fr ?_
        | with_reducible refine Fr.trans ?_ ih
        | with_reducible refine Fr.ite ?_ ?_
        | with_reducible refine Fr.cond ?_ ?_
        | with_reducible assumption
        | (refine Fr.of_snd (by assumption) ?_)
        | (refine Fr.of_fst (by assumption) ?_)
        | split
        | (unfold v; split)
        | (unfold v; clear_value *; split)
        | (clear_value *; split)
        | (injections; subst_vars))

theorem State.modSns_fr {κ : Nat} {s0 s : State} {f : Sense → Sense} (hf_ : Fr κ s0 s) (hk_ : 0x200000 &&& κ = 0x200000 := by decide) :
    Fr κ s0 (State.modSns s f) := by
  refine Fr.lift hf_ hk_ ?_
  clear hf_ hk_
  unfold State.modSns
  have h0 := Fr.refl 0x200000 s
  repeat' first
      | ((try lift_lets); intro v; refine_lift have hv : Fr 0x200000 s v := ?_; ?_; clear_value v)
      | ((try lift_lets); intro v)

      | with_reducible refine Fr.ite ?_ ?_
      | with_reducible refine Fr.cond ?_ ?_
      | with_reducible exact Fr.sns (by with_reducible assumption)
      | with_reducible assumption
      | (refine Fr.of_snd (by assumption) ?_)
      | (refine Fr.of_fst (by assumption) ?_)
      | split
      | (unfold v; split)
      | (unfold v; clear_value *; split)
      | (clear_value *; split)

end Sys2Proof.Machine
end

