-- ==== Sys2Proof/Laws/FrameBandstand.lean ====
section
/-! SUPPORT. Frames of the operations of Machine/Bandstand.lean: one lemma each (Laws/Frame.lean). -/

namespace Sys2Proof.Machine

set_option Elab.async false

theorem State.modKiosk_fr {κ : Nat} {s0 s : State} {k : ℕ} {f : Kiosk → Kiosk} (hf_ : Fr κ s0 s) (hk_ : 0x400 &&& κ = 0x400 := by decide) :
    Fr κ s0 (State.modKiosk s k f) := by
  refine Fr.lift hf_ hk_ ?_
  clear hf_ hk_
  unfold State.modKiosk
  have h0 := Fr.refl 0x400 s
  repeat' first
      | ((try lift_lets); intro v; refine_lift have hv : Fr 0x400 s v := ?_; ?_; clear_value v)
      | ((try lift_lets); intro v)
      | with_reducible refine State.modFab_fr ?_
      | with_reducible refine Fr.ite ?_ ?_
      | with_reducible refine Fr.cond ?_ ?_
      | with_reducible assumption
      | (refine Fr.of_snd (by assumption) ?_)
      | (refine Fr.of_fst (by assumption) ?_)
      | split
      | (unfold v; split)
      | (unfold v; clear_value *; split)
      | (clear_value *; split)

theorem State.putInst_fr {κ : Nat} {s0 s : State} {i : Inst} (hf_ : Fr κ s0 s) (hk_ : 0x400 &&& κ = 0x400 := by decide) :
    Fr κ s0 (State.putInst s i) := by
  refine Fr.lift hf_ hk_ ?_
  clear hf_ hk_
  unfold State.putInst
  have h0 := Fr.refl 0x400 s
  repeat' first
      | ((try lift_lets); intro v; refine_lift have hv : Fr 0x400 s v := ?_; ?_; clear_value v)
      | ((try lift_lets); intro v)
      | with_reducible refine State.modFab_fr ?_
      | with_reducible refine Fr.ite ?_ ?_
      | with_reducible refine Fr.cond ?_ ?_
      | with_reducible assumption
      | (refine Fr.of_snd (by assumption) ?_)
      | (refine Fr.of_fst (by assumption) ?_)
      | split
      | (unfold v; split)
      | (unfold v; clear_value *; split)
      | (clear_value *; split)

theorem State.dropInst_fr {κ : Nat} {s0 s : State} {g : ℕ} (hf_ : Fr κ s0 s) (hk_ : 0x400 &&& κ = 0x400 := by decide) :
    Fr κ s0 (State.dropInst s g) := by
  refine Fr.lift hf_ hk_ ?_
  clear hf_ hk_
  unfold State.dropInst
  have h0 := Fr.refl 0x400 s
  repeat' first
      | ((try lift_lets); intro v; refine_lift have hv : Fr 0x400 s v := ?_; ?_; clear_value v)
      | ((try lift_lets); intro v)
      | with_reducible refine State.modFab_fr ?_
      | with_reducible refine Fr.ite ?_ ?_
      | with_reducible refine Fr.cond ?_ ?_
      | with_reducible assumption
      | (refine Fr.of_snd (by assumption) ?_)
      | (refine Fr.of_fst (by assumption) ?_)
      | split
      | (unfold v; split)
      | (unfold v; clear_value *; split)
      | (clear_value *; split)

theorem State.setTStat_fr {κ : Nat} {s0 s : State} {g : ℕ} {t : ℕ} {st : TStat} (hf_ : Fr κ s0 s) (hk_ : 0x400 &&& κ = 0x400 := by decide) :
    Fr κ s0 (State.setTStat s g t st) := by
  refine Fr.lift hf_ hk_ ?_
  clear hf_ hk_
  unfold State.setTStat
  have h0 := Fr.refl 0x400 s
  repeat' first
      | ((try lift_lets); intro v; refine_lift have hv : Fr 0x400 s v := ?_; ?_; clear_value v)
      | ((try lift_lets); intro v)
      | with_reducible refine State.putInst_fr ?_
      | with_reducible refine Fr.ite ?_ ?_
      | with_reducible refine Fr.cond ?_ ?_
      | with_reducible assumption
      | (refine Fr.of_snd (by assumption) ?_)
      | (refine Fr.of_fst (by assumption) ?_)
      | split
      | (unfold v; split)
      | (unfold v; clear_value *; split)
      | (clear_value *; split)

theorem State.place_fr {κ : Nat} {s0 s : State} {q : QTask} (hf_ : Fr κ s0 s) (hk_ : 0x400 &&& κ = 0x400 := by decide) :
    Fr κ s0 (State.place s q) := by
  refine Fr.lift hf_ hk_ ?_
  clear hf_ hk_
  unfold State.place
  have h0 := Fr.refl 0x400 s
  repeat' first
      | ((try lift_lets); intro v; refine_lift have hv : Fr 0x400 s v := ?_; ?_; clear_value v)
      | ((try lift_lets); intro v)
      | with_reducible refine State.modFab_fr ?_
      | with_reducible refine State.modKiosk_fr ?_
      | with_reducible refine State.setTStat_fr ?_
      | with_reducible refine Fr.forEach ?_ (fun t a ht => ?_)
      | with_reducible refine Fr.ite ?_ ?_
      | with_reducible refine Fr.cond ?_ ?_
      | with_reducible assumption
      | (refine Fr.of_snd (by assumption) ?_)
      | (refine Fr.of_fst (by assumption) ?_)
      | split
      | (unfold v; split)
      | (unfold v; clear_value *; split)
      | (clear_value *; split)

theorem State.placeReady_fr {κ : Nat} {s0 s : State}  (hf_ : Fr κ s0 s) (hk_ : 0x400 &&& κ = 0x400 := by decide) :
    Fr κ s0 (State.placeReady s) := by
  refine Fr.lift hf_ hk_ ?_
  clear hf_ hk_
  unfold State.placeReady
  have h0 := Fr.refl 0x400 s
  repeat' first
      | ((try lift_lets); intro v; refine_lift have hv : Fr 0x400 s v := ?_; ?_; clear_value v)
      | ((try lift_lets); intro v)
      | with_reducible refine State.modFab_fr ?_
      | with_reducible refine State.place_fr ?_
      | with_reducible refine Fr.forEach ?_ (fun t a ht => ?_)
      | with_reducible refine Fr.ite ?_ ?_
      | with_reducible refine Fr.cond ?_ ?_
      | with_reducible assumption
      | (refine Fr.of_snd (by assumption) ?_)
      | (refine Fr.of_fst (by assumption) ?_)
      | split
      | (unfold v; split)
      | (unfold v; clear_value *; split)
      | (clear_value *; split)

theorem State.readyTasks_fr {κ : Nat} {s0 s : State} {g : ℕ} (hf_ : Fr κ s0 s) (hk_ : 0x400 &&& κ = 0x400 := by decide) :
    Fr κ s0 (State.readyTasks s g) := by
  refine Fr.lift hf_ hk_ ?_
  clear hf_ hk_
  unfold State.readyTasks
  have h0 := Fr.refl 0x400 s
  repeat' first
      | ((try lift_lets); intro v; refine_lift have hv : Fr 0x400 s v := ?_; ?_; clear_value v)
      | ((try lift_lets); intro v)
      | with_reducible refine State.modFab_fr ?_
      | with_reducible refine State.setTStat_fr ?_
      | with_reducible refine Fr.forEach ?_ (fun t a ht => ?_)
      | with_reducible refine Fr.ite ?_ ?_
      | with_reducible refine Fr.cond ?_ ?_
      | with_reducible assumption
      | (refine Fr.of_snd (by assumption) ?_)
      | (refine Fr.of_fst (by assumption) ?_)
      | split
      | (unfold v; split)
      | (unfold v; clear_value *; split)
      | (clear_value *; split)

theorem State.deliver_fr {κ : Nat} {s0 s : State} {g : ℕ} {src : ℕ} (hf_ : Fr κ s0 s) (hk_ : 0x400 &&& κ = 0x400 := by decide) :
    Fr κ s0 (State.deliver s g src) := by
  refine Fr.lift hf_ hk_ ?_
  clear hf_ hk_
  unfold State.deliver
  have h0 := Fr.refl 0x400 s
  repeat' first
      | ((try lift_lets); intro v; refine_lift have hv : Fr 0x400 s v := ?_; ?_; clear_value v)
      | ((try lift_lets); intro v)
      | with_reducible refine State.placeReady_fr ?_
      | with_reducible refine State.putInst_fr ?_
      | with_reducible refine State.readyTasks_fr ?_
      | with_reducible refine Fr.ite ?_ ?_
      | with_reducible refine Fr.cond ?_ ?_
      | with_reducible assumption
      | (refine Fr.of_snd (by assumption) ?_)
      | (refine Fr.of_fst (by assumption) ?_)
      | split
      | (unfold v; split)
      | (unfold v; clear_value *; split)
      | (clear_value *; split)

theorem State.releaseAt_fr {κ : Nat} {s0 s : State} {t : Trigger} (hf_ : Fr κ s0 s) (hk_ : 0x2400000000400 &&& κ = 0x2400000000400 := by decide) :
    Fr κ s0 (State.releaseAt s t) := by
  refine Fr.lift hf_ hk_ ?_
  clear hf_ hk_
  unfold State.releaseAt
  have h0 := Fr.refl 0x2400000000400 s
  repeat' first
      | ((try lift_lets); intro v; refine_lift have hv : Fr 0x2400000000400 s v := ?_; ?_; clear_value v)
      | ((try lift_lets); intro v)
      | with_reducible refine State.inc_fr ?_
      | with_reducible refine State.placeReady_fr ?_
      | with_reducible refine State.putInst_fr ?_
      | with_reducible refine State.readyTasks_fr ?_
      | with_reducible refine State.set_fr ?_
      | with_reducible refine Fr.ite ?_ ?_
      | with_reducible refine Fr.cond ?_ ?_
      | with_reducible assumption
      | (refine Fr.of_snd (by assumption) ?_)
      | (refine Fr.of_fst (by assumption) ?_)
      | split
      | (unfold v; split)
      | (unfold v; clear_value *; split)
      | (clear_value *; split)

theorem State.releaseGraph_fr {κ : Nat} {s0 s : State} {g : ℕ} (hf_ : Fr κ s0 s) (hk_ : 0x2400000000400 &&& κ = 0x2400000000400 := by decide) :
    Fr κ s0 (State.releaseGraph s g) := by
  refine Fr.lift hf_ hk_ ?_
  clear hf_ hk_
  unfold State.releaseGraph
  have h0 := Fr.refl 0x2400000000400 s
  repeat' first
      | ((try lift_lets); intro v; refine_lift have hv : Fr 0x2400000000400 s v := ?_; ?_; clear_value v)
      | ((try lift_lets); intro v)
      | with_reducible refine State.releaseAt_fr ?_
      | with_reducible refine Fr.ite ?_ ?_
      | with_reducible refine Fr.cond ?_ ?_
      | with_reducible assumption
      | (refine Fr.of_snd (by assumption) ?_)
      | (refine Fr.of_fst (by assumption) ?_)
      | split
      | (unfold v; split)
      | (unfold v; clear_value *; split)
      | (clear_value *; split)

theorem State.signalGraph_fr {κ : Nat} {s0 s : State} {g : ℕ} (hf_ : Fr κ s0 s) (hk_ : 0x400 &&& κ = 0x400 := by decide) :
    Fr κ s0 (State.signalGraph s g) := by
  refine Fr.lift hf_ hk_ ?_
  clear hf_ hk_
  unfold State.signalGraph
  have h0 := Fr.refl 0x400 s
  repeat' first
      | ((try lift_lets); intro v; refine_lift have hv : Fr 0x400 s v := ?_; ?_; clear_value v)
      | ((try lift_lets); intro v)
      | with_reducible refine State.modFab_fr ?_
      | with_reducible refine Fr.ite ?_ ?_
      | with_reducible refine Fr.cond ?_ ?_
      | with_reducible assumption
      | (refine Fr.of_snd (by assumption) ?_)
      | (refine Fr.of_fst (by assumption) ?_)
      | split
      | (unfold v; split)
      | (unfold v; clear_value *; split)
      | (clear_value *; split)

theorem State.graphEnded_fr {κ : Nat} {s0 s : State} {g : ℕ} {i : Inst} (hf_ : Fr κ s0 s) (hk_ : 0x18000 &&& κ = 0x18000 := by decide) :
    Fr κ s0 (State.graphEnded s g i) := by
  refine Fr.lift hf_ hk_ ?_
  clear hf_ hk_
  unfold State.graphEnded
  have h0 := Fr.refl 0x18000 s
  repeat' first
      | ((try lift_lets); intro v; refine_lift have hv : Fr 0x18000 s v := ?_; ?_; clear_value v)
      | ((try lift_lets); intro v)
      | with_reducible refine State.modSv_fr ?_
      | with_reducible refine Fr.ite ?_ ?_
      | with_reducible refine Fr.cond ?_ ?_
      | with_reducible assumption
      | (refine Fr.of_snd (by assumption) ?_)
      | (refine Fr.of_fst (by assumption) ?_)
      | split
      | (unfold v; split)
      | (unfold v; clear_value *; split)
      | (clear_value *; split)

theorem State.endInst_fr {κ : Nat} {s0 s : State} {g : ℕ} (hf_ : Fr κ s0 s) (hk_ : 0x18400 &&& κ = 0x18400 := by decide) :
    Fr κ s0 (State.endInst s g) := by
  refine Fr.lift hf_ hk_ ?_
  clear hf_ hk_
  unfold State.endInst
  have h0 := Fr.refl 0x18400 s
  repeat' first
      | ((try lift_lets); intro v; refine_lift have hv : Fr 0x18400 s v := ?_; ?_; clear_value v)
      | ((try lift_lets); intro v)
      | with_reducible refine State.dropInst_fr ?_
      | with_reducible refine State.graphEnded_fr ?_
      | with_reducible refine Fr.ite ?_ ?_
      | with_reducible refine Fr.cond ?_ ?_
      | with_reducible assumption
      | (refine Fr.of_snd (by assumption) ?_)
      | (refine Fr.of_fst (by assumption) ?_)
      | split
      | (unfold v; split)
      | (unfold v; clear_value *; split)
      | (clear_value *; split)

end Sys2Proof.Machine
end

