-- ==== Sys2Proof/Laws/FrameLodge.lean ====
section
/-! SUPPORT. Frames of the operations of Machine/Lodge.lean: one lemma each (Laws/Frame.lean). -/

namespace Sys2Proof.Machine

set_option Elab.async false

theorem State.modPch_fr {κ : Nat} {s0 s : State} {n : ℕ} {f : PglCh → PglCh} (hf_ : Fr κ s0 s) (hk_ : 0x2000000 &&& κ = 0x2000000 := by decide) :
    Fr κ s0 (State.modPch s n f) := by
  refine Fr.lift hf_ hk_ ?_
  clear hf_ hk_
  unfold State.modPch
  have h0 := Fr.refl 0x2000000 s
  repeat' first
      | ((try lift_lets); intro v; refine_lift have hv : Fr 0x2000000 s v := ?_; ?_; clear_value v)
      | ((try lift_lets); intro v)
      | with_reducible refine State.modPgl_fr ?_
      | with_reducible refine Fr.ite ?_ ?_
      | with_reducible refine Fr.cond ?_ ?_
      | with_reducible assumption
      | (refine Fr.of_snd (by assumption) ?_)
      | (refine Fr.of_fst (by assumption) ?_)
      | split
      | (unfold v; split)
      | (unfold v; clear_value *; split)
      | (clear_value *; split)

theorem State.setPglQueue_fr {κ : Nat} {s0 s : State} {n : ℕ} {q : List ℕ} (hf_ : Fr κ s0 s) (hk_ : 0x400000000000000000000000000000000000000000000000000000000000000002000000 &&& κ = 0x400000000000000000000000000000000000000000000000000000000000000002000000 := by decide) :
    Fr κ s0 (State.setPglQueue s n q) := by
  refine Fr.lift hf_ hk_ ?_
  clear hf_ hk_
  unfold State.setPglQueue
  have h0 := Fr.refl 0x400000000000000000000000000000000000000000000000000000000000000002000000 s
  repeat' first
      | ((try lift_lets); intro v; refine_lift have hv : Fr 0x400000000000000000000000000000000000000000000000000000000000000002000000 s v := ?_; ?_; clear_value v)
      | ((try lift_lets); intro v)
      | with_reducible refine State.modPch_fr ?_
      | with_reducible refine State.set_fr ?_
      | with_reducible refine Fr.ite ?_ ?_
      | with_reducible refine Fr.cond ?_ ?_
      | with_reducible assumption
      | (refine Fr.of_snd (by assumption) ?_)
      | (refine Fr.of_fst (by assumption) ?_)
      | split
      | (unfold v; split)
      | (unfold v; clear_value *; split)
      | (clear_value *; split)

theorem State.pglTake_fr {κ : Nat} {s0 s : State} {n : ℕ} (hf_ : Fr κ s0 s) (hk_ : 0xc00000000000000000000000000000000000000000000000000000000000000002000000 &&& κ = 0xc00000000000000000000000000000000000000000000000000000000000000002000000 := by decide) :
    Fr κ s0 (State.pglTake s n) := by
  refine Fr.lift hf_ hk_ ?_
  clear hf_ hk_
  unfold State.pglTake
  have h0 := Fr.refl 0xc00000000000000000000000000000000000000000000000000000000000000002000000 s
  repeat' first
      | ((try lift_lets); intro v; refine_lift have hv : Fr 0xc00000000000000000000000000000000000000000000000000000000000000002000000 s v := ?_; ?_; clear_value v)
      | ((try lift_lets); intro v)
      | with_reducible refine State.modPch_fr ?_
      | with_reducible refine State.set_fr ?_
      | with_reducible refine State.setPglQueue_fr ?_
      | with_reducible refine Fr.ite ?_ ?_
      | with_reducible refine Fr.cond ?_ ?_
      | with_reducible assumption
      | (refine Fr.of_snd (by assumption) ?_)
      | (refine Fr.of_fst (by assumption) ?_)
      | split
      | (unfold v; split)
      | (unfold v; clear_value *; split)
      | (clear_value *; split)

theorem State.pglTrigger_fr {κ : Nat} {s0 s : State} {n : ℕ} {desc : ℕ} (hf_ : Fr κ s0 s) (hk_ : 0x2c01000000000000000000000000000000000000000000000000000000000000002000000 &&& κ = 0x2c01000000000000000000000000000000000000000000000000000000000000002000000 := by decide) :
    Fr κ s0 (State.pglTrigger s n desc) := by
  refine Fr.lift hf_ hk_ ?_
  clear hf_ hk_
  unfold State.pglTrigger
  have h0 := Fr.refl 0x2c01000000000000000000000000000000000000000000000000000000000000002000000 s
  repeat' first
      | ((try lift_lets); intro v; refine_lift have hv : Fr 0x2c01000000000000000000000000000000000000000000000000000000000000002000000 s v := ?_; ?_; clear_value v)
      | ((try lift_lets); intro v)
      | with_reducible refine State.inc_fr ?_
      | with_reducible refine State.pglTake_fr ?_
      | with_reducible refine State.set_fr ?_
      | with_reducible refine State.setPglQueue_fr ?_
      | with_reducible refine Fr.ite ?_ ?_
      | with_reducible refine Fr.cond ?_ ?_
      | with_reducible assumption
      | (refine Fr.of_snd (by assumption) ?_)
      | (refine Fr.of_fst (by assumption) ?_)
      | split
      | (unfold v; split)
      | (unfold v; clear_value *; split)
      | (clear_value *; split)

theorem State.pglTrigReg_fr {κ : Nat} {s0 s : State} {n : ℕ} (hf_ : Fr κ s0 s) (hk_ : 0x2c01000000000000000000000000000000000000000000000000000000000000002000000 &&& κ = 0x2c01000000000000000000000000000000000000000000000000000000000000002000000 := by decide) :
    Fr κ s0 (State.pglTrigReg s n) := by
  refine Fr.lift hf_ hk_ ?_
  clear hf_ hk_
  unfold State.pglTrigReg
  have h0 := Fr.refl 0x2c01000000000000000000000000000000000000000000000000000000000000002000000 s
  repeat' first
      | ((try lift_lets); intro v; refine_lift have hv : Fr 0x2c01000000000000000000000000000000000000000000000000000000000000002000000 s v := ?_; ?_; clear_value v)
      | ((try lift_lets); intro v)
      | with_reducible refine State.pglTrigger_fr ?_
      | with_reducible refine Fr.ite ?_ ?_
      | with_reducible refine Fr.cond ?_ ?_
      | with_reducible assumption
      | (refine Fr.of_snd (by assumption) ?_)
      | (refine Fr.of_fst (by assumption) ?_)
      | split
      | (unfold v; split)
      | (unfold v; clear_value *; split)
      | (clear_value *; split)

theorem State.raise1_fr {κ : Nat} {s0 s : State} {e : ℕ} (hf_ : Fr κ s0 s) (hk_ : 0x2c01000000000800000000000000000000000000000000000000000000002400002000400 &&& κ = 0x2c01000000000800000000000000000000000000000000000000000000002400002000400 := by decide) :
    Fr κ s0 (State.raise1 s e) := by
  refine Fr.lift hf_ hk_ ?_
  clear hf_ hk_
  unfold State.raise1
  have h0 := Fr.refl 0x2c01000000000800000000000000000000000000000000000000000000002400002000400 s
  repeat' first
      | ((try lift_lets); intro v; refine_lift have hv : Fr 0x2c01000000000800000000000000000000000000000000000000000000002400002000400 s v := ?_; ?_; clear_value v)
      | ((try lift_lets); intro v)
      | with_reducible refine State.pglTrigReg_fr ?_
      | with_reducible refine State.releaseGraph_fr ?_
      | with_reducible refine State.set_fr ?_
      | with_reducible refine Fr.forEach ?_ (fun t a ht => ?_)
      | with_reducible refine Fr.ite ?_ ?_
      | with_reducible refine Fr.cond ?_ ?_
      | with_reducible assumption
      | (refine Fr.of_snd (by assumption) ?_)
      | (refine Fr.of_fst (by assumption) ?_)
      | split
      | (unfold v; split)
      | (unfold v; clear_value *; split)
      | (clear_value *; split)

theorem State.capMark_fr {κ : Nat} {s0 s : State} {x : Axis} (hf_ : Fr κ s0 s) (hk_ : 0x4000000000000000000000000000000000000000000000018000 &&& κ = 0x4000000000000000000000000000000000000000000000018000 := by decide) :
    Fr κ s0 (State.capMark s x) := by
  refine Fr.lift hf_ hk_ ?_
  clear hf_ hk_
  unfold State.capMark
  have h0 := Fr.refl 0x4000000000000000000000000000000000000000000000018000 s
  repeat' first
      | ((try lift_lets); intro v; refine_lift have hv : Fr 0x4000000000000000000000000000000000000000000000018000 s v := ?_; ?_; clear_value v)
      | ((try lift_lets); intro v)
      | with_reducible refine State.modSv_fr ?_
      | with_reducible refine State.set_fr ?_
      | with_reducible refine Fr.ite ?_ ?_
      | with_reducible refine Fr.cond ?_ ?_
      | with_reducible assumption
      | (refine Fr.of_snd (by assumption) ?_)
      | (refine Fr.of_fst (by assumption) ?_)
      | split
      | (unfold v; split)
      | (unfold v; clear_value *; split)
      | (clear_value *; split)

theorem State.raiseN_fr {κ : Nat} {s0 s : State} {fuel : ℕ} {e : ℕ} (hf_ : Fr κ s0 s) (hk_ : 0x2c01000000000800000004000000000000000000000000000000000000002400002018400 &&& κ = 0x2c01000000000800000004000000000000000000000000000000000000002400002018400 := by decide) :
    Fr κ s0 (State.raiseN s fuel e) := by
  refine Fr.lift hf_ hk_ ?_
  clear hf_ hk_ s0
  revert s
  induction fuel generalizing e with
  | zero =>
    intro s
    unfold State.raiseN
    (
    have h0 := Fr.refl 0x2c01000000000800000004000000000000000000000000000000000000002400002018400 s
    repeat' first
        | ((try lift_lets); intro v; refine_lift have hv : Fr 0x2c01000000000800000004000000000000000000000000000000000000002400002018400 s v := ?_; ?_; clear_value v)
        | ((try lift_lets); intro v)
        | with_reducible refine State.capMark_fr ?_
        | with_reducible refine State.raise1_fr ?_
        | with_reducible refine Fr.forEach ?_ (fun t a ht => ?_)
        | with_reducible refine Fr.ite ?_ ?_
        | with_reducible refine Fr.cond ?_ ?_
        | with_reducible assumption
        | (refine Fr.of_snd (by assumption) ?_)
        | (refine Fr.of_fst (by assumption) ?_)
        | split
        | (unfold v; split)
        | (unfold v; clear_value *; split)
        | (clear_value *; split)
        | (injections; subst_vars))
  | succ n_ ih =>
    intro s
    unfold State.raiseN
    (
    have h0 := Fr.refl 0x2c01000000000800000004000000000000000000000000000000000000002400002018400 s
    repeat' first
        | ((try lift_lets); intro v; refine_lift have hv : Fr 0x2c01000000000800000004000000000000000000000000000000000000002400002018400 s v := ?_; ?_; clear_value v)
        | ((try lift_lets); intro v)
        | with_reducible refine State.capMark_fr ?_
        | with_reducible refine State.raise1_fr ?_
        | with_reducible refine Fr.forEach ?_ (fun t a ht => ?_)
        | with_reducible refine Fr.trans ?_ ih
        | with_reducible refine Fr.ite ?_ ?_
        | with_reducible refine Fr.cond ?_ ?_
        | with_reducible assumption
        | (refine Fr.of_snd (by assumption) ?_)
        | (refine Fr.of_fst (by assumption) ?_)
        | split
        | (unfold v; split)
        | (unfold v; clear_value *; split)
        | (clear_value *; split)
        | (injections; subst_vars))

theorem State.event_fr {κ : Nat} {s0 s : State} {e : ℕ} (hf_ : Fr κ s0 s) (hk_ : 0x2c01000000000800000004000000000000000000000000000000000000002400002018400 &&& κ = 0x2c01000000000800000004000000000000000000000000000000000000002400002018400 := by decide) :
    Fr κ s0 (State.event s e) := by
  refine Fr.lift hf_ hk_ ?_
  clear hf_ hk_
  unfold State.event
  have h0 := Fr.refl 0x2c01000000000800000004000000000000000000000000000000000000002400002018400 s
  repeat' first
      | ((try lift_lets); intro v; refine_lift have hv : Fr 0x2c01000000000800000004000000000000000000000000000000000000002400002018400 s v := ?_; ?_; clear_value v)
      | ((try lift_lets); intro v)
      | with_reducible refine State.raiseN_fr ?_
      | with_reducible refine Fr.ite ?_ ?_
      | with_reducible refine Fr.cond ?_ ?_
      | with_reducible assumption
      | (refine Fr.of_snd (by assumption) ?_)
      | (refine Fr.of_fst (by assumption) ?_)
      | split
      | (unfold v; split)
      | (unfold v; clear_value *; split)
      | (clear_value *; split)

theorem State.evx_fr {κ : Nat} {s0 s : State} {x : Axis} {o : ℕ} (hf_ : Fr κ s0 s) (hk_ : 0x2c01000000000800000004000000000000000000000000000000000000002400002018400 &&& κ = 0x2c01000000000800000004000000000000000000000000000000000000002400002018400 := by decide) :
    Fr κ s0 (State.evx s x o) := by
  refine Fr.lift hf_ hk_ ?_
  clear hf_ hk_
  unfold State.evx
  have h0 := Fr.refl 0x2c01000000000800000004000000000000000000000000000000000000002400002018400 s
  repeat' first
      | ((try lift_lets); intro v; refine_lift have hv : Fr 0x2c01000000000800000004000000000000000000000000000000000000002400002018400 s v := ?_; ?_; clear_value v)
      | ((try lift_lets); intro v)
      | with_reducible refine State.event_fr ?_
      | with_reducible refine Fr.ite ?_ ?_
      | with_reducible refine Fr.cond ?_ ?_
      | with_reducible assumption
      | (refine Fr.of_snd (by assumption) ?_)
      | (refine Fr.of_fst (by assumption) ?_)
      | split
      | (unfold v; split)
      | (unfold v; clear_value *; split)
      | (clear_value *; split)

@[simp] theorem stFld_fam {sc code : Nat} : fam (stFld sc code).reg = 203 := by simp [stFld]

@[simp] theorem causeFld_fam {sc code : Nat} : fam (causeFld sc code).reg = 204 := by simp [causeFld]

theorem State.setBit_fr {m : Nat} {s0 s : State} {f : Fld} {n : Nat} {b : Bool} (h : Fr m s0 s) (hk : m.testBit (32 + fam f.reg) = true := by first | assumption | decide | (simp; done) | (simp; decide) | (simp +zetaDelta; decide) | (split <;> simp <;> decide) | exact all_fam (by decide)) :
    Fr m s0 (s.setBit f n b) := State.set_fr h hk

theorem State.setCause_fr {κ : Nat} {s0 s : State} {sc : ℕ} {code : ℕ} {b : Bool} (hf_ : Fr κ s0 s) (hk_ : 0x100000000000000000000000000000000000000000000000000000000000 &&& κ = 0x100000000000000000000000000000000000000000000000000000000000 := by decide) :
    Fr κ s0 (State.setCause s sc code b) := by
  refine Fr.lift hf_ hk_ ?_
  clear hf_ hk_
  unfold State.setCause
  have h0 := Fr.refl 0x100000000000000000000000000000000000000000000000000000000000 s
  repeat' first
      | ((try lift_lets); intro v; refine_lift have hv : Fr 0x100000000000000000000000000000000000000000000000000000000000 s v := ?_; ?_; clear_value v)
      | ((try lift_lets); intro v)
      | with_reducible refine State.setBit_fr ?_
      | with_reducible refine Fr.ite ?_ ?_
      | with_reducible refine Fr.cond ?_ ?_
      | with_reducible assumption
      | (refine Fr.of_snd (by assumption) ?_)
      | (refine Fr.of_fst (by assumption) ?_)
      | split
      | (unfold v; split)
      | (unfold v; clear_value *; split)
      | (clear_value *; split)

theorem State.eccClear_fr {κ : Nat} {s0 s : State} {w : ℕ} (hf_ : Fr κ s0 s) (hk_ : 0x1000000000000000000000000000000000000000000000000000000001c0 &&& κ = 0x1000000000000000000000000000000000000000000000000000000001c0 := by decide) :
    Fr κ s0 (State.eccClear s w) := by
  refine Fr.lift hf_ hk_ ?_
  clear hf_ hk_
  unfold State.eccClear
  have h0 := Fr.refl 0x1000000000000000000000000000000000000000000000000000000001c0 s
  repeat' first
      | ((try lift_lets); intro v; refine_lift have hv : Fr 0x1000000000000000000000000000000000000000000000000000000001c0 s v := ?_; ?_; clear_value v)
      | ((try lift_lets); intro v)
      | with_reducible refine State.setCause_fr ?_
      | with_reducible refine State.setEcc_fr ?_
      | with_reducible refine State.setFound_fr ?_
      | with_reducible refine Fr.forEach ?_ (fun t a ht => ?_)
      | with_reducible refine Fr.ite ?_ ?_
      | with_reducible refine Fr.cond ?_ ?_
      | with_reducible assumption
      | (refine Fr.of_snd (by assumption) ?_)
      | (refine Fr.of_fst (by assumption) ?_)
      | split
      | (unfold v; split)
      | (unfold v; clear_value *; split)
      | (clear_value *; split)

theorem State.putWords_fr {κ : Nat} {s0 s : State} {a : Nat} {ws : List Word} (hf_ : Fr κ s0 s) (hk_ : 0x20 &&& κ = 0x20 := by decide) :
    Fr κ s0 (State.putWords s a ws) := by
  refine Fr.lift hf_ hk_ ?_
  clear hf_ hk_
  unfold State.putWords
  have h0 := Fr.refl 0x20 s
  repeat' first
      | ((try lift_lets); intro v; refine_lift have hv : Fr 0x20 s v := ?_; ?_; clear_value v)
      | ((try lift_lets); intro v)
      | with_reducible refine Fr.forEach ?_ (fun t a ht => ?_)
      | with_reducible refine State.st32_fr ?_
      | with_reducible refine Fr.ite ?_ ?_
      | with_reducible refine Fr.cond ?_ ?_
      | with_reducible assumption
      | with_reducible exact Fr.id_ (by with_reducible assumption)
      | (refine Fr.of_snd (by assumption) ?_)
      | (refine Fr.of_fst (by assumption) ?_)
      | split
      | (unfold v; split)
      | (unfold v; clear_value *; split)
      | (clear_value *; split)

theorem State.eccFound_fr {κ : Nat} {s0 s : State} {w : ℕ} {code : ℕ} {sc : ℕ} (hf_ : Fr κ s0 s) (hk_ : 0x100000000000000000000000000000000000000000000000000000000100 &&& κ = 0x100000000000000000000000000000000000000000000000000000000100 := by decide) :
    Fr κ s0 (State.eccFound s w code sc) := by
  refine Fr.lift hf_ hk_ ?_
  clear hf_ hk_
  unfold State.eccFound
  have h0 := Fr.refl 0x100000000000000000000000000000000000000000000000000000000100 s
  repeat' first
      | ((try lift_lets); intro v; refine_lift have hv : Fr 0x100000000000000000000000000000000000000000000000000000000100 s v := ?_; ?_; clear_value v)
      | ((try lift_lets); intro v)
      | with_reducible refine State.setCause_fr ?_
      | with_reducible refine State.setFound_fr ?_
      | with_reducible refine Fr.ite ?_ ?_
      | with_reducible refine Fr.cond ?_ ?_
      | with_reducible assumption
      | (refine Fr.of_snd (by assumption) ?_)
      | (refine Fr.of_fst (by assumption) ?_)
      | split
      | (unfold v; split)
      | (unfold v; clear_value *; split)
      | (clear_value *; split)

theorem State.logRecord_fr {κ : Nat} {s0 s : State} {code : ℕ} {cls : ℕ} {sc : ℕ} {unit : ℕ} {detail : ℕ} (hf_ : Fr κ s0 s) (hk_ : 0x2c01000000004a00000004000000000000000000000000000000000000002400002018400 &&& κ = 0x2c01000000004a00000004000000000000000000000000000000000000002400002018400 := by decide) :
    Fr κ s0 (State.logRecord s code cls sc unit detail) := by
  refine Fr.lift hf_ hk_ ?_
  clear hf_ hk_
  unfold State.logRecord
  have h0 := Fr.refl 0x2c01000000004a00000004000000000000000000000000000000000000002400002018400 s
  repeat' first
      | ((try lift_lets); intro v; refine_lift have hv : Fr 0x2c01000000004a00000004000000000000000000000000000000000000002400002018400 s v := ?_; ?_; clear_value v)
      | ((try lift_lets); intro v)
      | with_reducible refine State.event_fr ?_
      | with_reducible refine State.inc_fr ?_
      | with_reducible refine State.set_fr ?_
      | with_reducible refine Fr.ite ?_ ?_
      | with_reducible refine Fr.cond ?_ ?_
      | with_reducible assumption
      | (refine Fr.of_snd (by assumption) ?_)
      | (refine Fr.of_fst (by assumption) ?_)
      | split
      | (unfold v; split)
      | (unfold v; clear_value *; split)
      | (clear_value *; split)

theorem State.raiseNow_fr {κ : Nat} {s0 s : State} {code : ℕ} {sc : ℕ} {unit : ℕ} {detail : ℕ} (hf_ : Fr κ s0 s) (hk_ : 0x2c01000000004ac0000004000000000000000000000000000000000000002400002018400 &&& κ = 0x2c01000000004ac0000004000000000000000000000000000000000000002400002018400 := by decide) :
    Fr κ s0 (State.raiseNow s code sc unit detail) := by
  refine Fr.lift hf_ hk_ ?_
  clear hf_ hk_
  unfold State.raiseNow
  have h0 := Fr.refl 0x2c01000000004ac0000004000000000000000000000000000000000000002400002018400 s
  repeat' first
      | ((try lift_lets); intro v; refine_lift have hv : Fr 0x2c01000000004ac0000004000000000000000000000000000000000000002400002018400 s v := ?_; ?_; clear_value v)
      | ((try lift_lets); intro v)
      | with_reducible refine State.event_fr ?_
      | with_reducible refine State.inc_fr ?_
      | with_reducible refine State.logRecord_fr ?_
      | with_reducible refine State.setBit_fr ?_
      | with_reducible refine Fr.ite ?_ ?_
      | with_reducible refine Fr.cond ?_ ?_
      | with_reducible assumption
      | (refine Fr.of_snd (by assumption) ?_)
      | (refine Fr.of_fst (by assumption) ?_)
      | split
      | (unfold v; split)
      | (unfold v; clear_value *; split)
      | (clear_value *; split)

theorem State.modOtp_fr {κ : Nat} {s0 s : State} {f : Otp → Otp} (hf_ : Fr κ s0 s) (hk_ : 0x4000000 &&& κ = 0x4000000 := by decide) :
    Fr κ s0 (State.modOtp s f) := by
  refine Fr.lift hf_ hk_ ?_
  clear hf_ hk_
  unfold State.modOtp
  have h0 := Fr.refl 0x4000000 s
  repeat' first
      | ((try lift_lets); intro v; refine_lift have hv : Fr 0x4000000 s v := ?_; ?_; clear_value v)
      | ((try lift_lets); intro v)

      | with_reducible refine Fr.ite ?_ ?_
      | with_reducible refine Fr.cond ?_ ?_
      | with_reducible exact Fr.otp (by with_reducible assumption)
      | with_reducible assumption
      | (refine Fr.of_snd (by assumption) ?_)
      | (refine Fr.of_fst (by assumption) ?_)
      | split
      | (unfold v; split)
      | (unfold v; clear_value *; split)
      | (clear_value *; split)

theorem State.grtShow_fr {κ : Nat} {s0 s : State}  (hf_ : Fr κ s0 s) (hk_ : 0x12000000000000000000000000000000000000000000000000000040000000000 &&& κ = 0x12000000000000000000000000000000000000000000000000000040000000000 := by decide) :
    Fr κ s0 (State.grtShow s) := by
  refine Fr.lift hf_ hk_ ?_
  clear hf_ hk_
  unfold State.grtShow
  have h0 := Fr.refl 0x12000000000000000000000000000000000000000000000000000040000000000 s
  repeat' first
      | ((try lift_lets); intro v; refine_lift have hv : Fr 0x12000000000000000000000000000000000000000000000000000040000000000 s v := ?_; ?_; clear_value v)
      | ((try lift_lets); intro v)
      | with_reducible refine State.setB_fr ?_
      | with_reducible refine Fr.ite ?_ ?_
      | with_reducible refine Fr.cond ?_ ?_
      | with_reducible assumption
      | (refine Fr.of_snd (by assumption) ?_)
      | (refine Fr.of_fst (by assumption) ?_)
      | split
      | (unfold v; split)
      | (unfold v; clear_value *; split)
      | (clear_value *; split)

theorem State.reverifyAsk_fr {κ : Nat} {s0 s : State}  (hf_ : Fr κ s0 s) (hk_ : 0x12000000000000000000000000000000000000000000000000000040004000000 &&& κ = 0x12000000000000000000000000000000000000000000000000000040004000000 := by decide) :
    Fr κ s0 (State.reverifyAsk s) := by
  refine Fr.lift hf_ hk_ ?_
  clear hf_ hk_
  unfold State.reverifyAsk
  have h0 := Fr.refl 0x12000000000000000000000000000000000000000000000000000040004000000 s
  repeat' first
      | ((try lift_lets); intro v; refine_lift have hv : Fr 0x12000000000000000000000000000000000000000000000000000040004000000 s v := ?_; ?_; clear_value v)
      | ((try lift_lets); intro v)
      | with_reducible refine State.grtShow_fr ?_
      | with_reducible refine State.modOtp_fr ?_
      | with_reducible refine Fr.ite ?_ ?_
      | with_reducible refine Fr.cond ?_ ?_
      | with_reducible assumption
      | (refine Fr.of_snd (by assumption) ?_)
      | (refine Fr.of_fst (by assumption) ?_)
      | split
      | (unfold v; split)
      | (unfold v; clear_value *; split)
      | (clear_value *; split)

theorem State.markAxes_fr {κ : Nat} {s0 s : State} {code : ℕ} {sc : ℕ} (hf_ : Fr κ s0 s) (hk_ : 0x1e000 &&& κ = 0x1e000 := by decide) :
    Fr κ s0 (State.markAxes s code sc) := by
  refine Fr.lift hf_ hk_ ?_
  clear hf_ hk_
  unfold State.markAxes
  have h0 := Fr.refl 0x1e000 s
  repeat' first
      | ((try lift_lets); intro v; refine_lift have hv : Fr 0x1e000 s v := ?_; ?_; clear_value v)
      | ((try lift_lets); intro v)
      | with_reducible refine State.modSv_fr ?_
      | with_reducible refine State.modAx_fr ?_
      | with_reducible refine Fr.ite ?_ ?_
      | with_reducible refine Fr.cond ?_ ?_
      | with_reducible assumption
      | (refine Fr.of_snd (by assumption) ?_)
      | (refine Fr.of_fst (by assumption) ?_)
      | split
      | (unfold v; split)
      | (unfold v; clear_value *; split)
      | (clear_value *; split)

theorem State.testNext_fr {κ : Nat} {s0 s : State}  (hf_ : Fr κ s0 s) (hk_ : 0x80000000000000000000000000000000000000000000000000000000000000000000000000 &&& κ = 0x80000000000000000000000000000000000000000000000000000000000000000000000000 := by decide) :
    Fr κ s0 (State.testNext s) := by
  refine Fr.lift hf_ hk_ ?_
  clear hf_ hk_
  unfold State.testNext
  have h0 := Fr.refl 0x80000000000000000000000000000000000000000000000000000000000000000000000000 s
  repeat' first
      | ((try lift_lets); intro v; refine_lift have hv : Fr 0x80000000000000000000000000000000000000000000000000000000000000000000000000 s v := ?_; ?_; clear_value v)
      | ((try lift_lets); intro v)
      | with_reducible refine State.set_fr ?_
      | with_reducible refine Fr.ite ?_ ?_
      | with_reducible refine Fr.cond ?_ ?_
      | with_reducible assumption
      | (refine Fr.of_snd (by assumption) ?_)
      | (refine Fr.of_fst (by assumption) ?_)
      | split
      | (unfold v; split)
      | (unfold v; clear_value *; split)
      | (clear_value *; split)

theorem State.modStc_fr {κ : Nat} {s0 s : State} {f : Stc → Stc} (hf_ : Fr κ s0 s) (hk_ : 0x20000000 &&& κ = 0x20000000 := by decide) :
    Fr κ s0 (State.modStc s f) := by
  refine Fr.lift hf_ hk_ ?_
  clear hf_ hk_
  unfold State.modStc
  have h0 := Fr.refl 0x20000000 s
  repeat' first
      | ((try lift_lets); intro v; refine_lift have hv : Fr 0x20000000 s v := ?_; ?_; clear_value v)
      | ((try lift_lets); intro v)

      | with_reducible refine Fr.ite ?_ ?_
      | with_reducible refine Fr.cond ?_ ?_
      | with_reducible exact Fr.stc (by with_reducible assumption)
      | with_reducible assumption
      | (refine Fr.of_snd (by assumption) ?_)
      | (refine Fr.of_fst (by assumption) ?_)
      | split
      | (unfold v; split)
      | (unfold v; clear_value *; split)
      | (clear_value *; split)

theorem State.testEnd_fr {κ : Nat} {s0 s : State} {k : ℕ} {result : ℕ} {detail : ℕ} (hf_ : Fr κ s0 s) (hk_ : 0xc2c01000000000800000004000000000000000000000000000000000000002400022018400 &&& κ = 0xc2c01000000000800000004000000000000000000000000000000000000002400022018400 := by decide) :
    Fr κ s0 (State.testEnd s k result detail) := by
  refine Fr.lift hf_ hk_ ?_
  clear hf_ hk_
  unfold State.testEnd
  have h0 := Fr.refl 0xc2c01000000000800000004000000000000000000000000000000000000002400022018400 s
  repeat' first
      | ((try lift_lets); intro v; refine_lift have hv : Fr 0xc2c01000000000800000004000000000000000000000000000000000000002400022018400 s v := ?_; ?_; clear_value v)
      | ((try lift_lets); intro v)
      | with_reducible refine State.event_fr ?_
      | with_reducible refine State.inc_fr ?_
      | with_reducible refine State.modStc_fr ?_
      | with_reducible refine State.set_fr ?_
      | with_reducible refine State.testNext_fr ?_
      | with_reducible refine Fr.ite ?_ ?_
      | with_reducible refine Fr.cond ?_ ?_
      | with_reducible assumption
      | (refine Fr.of_snd (by assumption) ?_)
      | (refine Fr.of_fst (by assumption) ?_)
      | split
      | (unfold v; split)
      | (unfold v; clear_value *; split)
      | (clear_value *; split)

theorem State.testAbort_fr {κ : Nat} {s0 s : State} {code : ℕ} {sc : ℕ} (hf_ : Fr κ s0 s) (hk_ : 0xc2c01000000000800000004000000000000000000000000000000000000002400022018400 &&& κ = 0xc2c01000000000800000004000000000000000000000000000000000000002400022018400 := by decide) :
    Fr κ s0 (State.testAbort s code sc) := by
  refine Fr.lift hf_ hk_ ?_
  clear hf_ hk_
  unfold State.testAbort
  have h0 := Fr.refl 0xc2c01000000000800000004000000000000000000000000000000000000002400022018400 s
  repeat' first
      | ((try lift_lets); intro v; refine_lift have hv : Fr 0xc2c01000000000800000004000000000000000000000000000000000000002400022018400 s v := ?_; ?_; clear_value v)
      | ((try lift_lets); intro v)
      | with_reducible refine State.testEnd_fr ?_
      | with_reducible refine Fr.forEach ?_ (fun t a ht => ?_)
      | with_reducible refine Fr.ite ?_ ?_
      | with_reducible refine Fr.cond ?_ ?_
      | with_reducible assumption
      | (refine Fr.of_snd (by assumption) ?_)
      | (refine Fr.of_fst (by assumption) ?_)
      | split
      | (unfold v; split)
      | (unfold v; clear_value *; split)
      | (clear_value *; split)

theorem State.faultNow_fr {κ : Nat} {s0 s : State} {code : Nat} {sc : Nat} {unit : Nat} {detail : Nat} (hf_ : Fr κ s0 s) (hk_ : 0xc2c01000000004ac000000400000000000000000000000000000000000000240002201e400 &&& κ = 0xc2c01000000004ac000000400000000000000000000000000000000000000240002201e400 := by decide) :
    Fr κ s0 (State.faultNow s code sc unit detail) := by
  refine Fr.lift hf_ hk_ ?_
  clear hf_ hk_
  unfold State.faultNow
  have h0 := Fr.refl 0xc2c01000000004ac000000400000000000000000000000000000000000000240002201e400 s
  repeat' first
      | ((try lift_lets); intro v; refine_lift have hv : Fr 0xc2c01000000004ac000000400000000000000000000000000000000000000240002201e400 s v := ?_; ?_; clear_value v)
      | ((try lift_lets); intro v)
      | with_reducible refine State.markAxes_fr ?_
      | with_reducible refine State.raiseNow_fr ?_
      | with_reducible refine State.testAbort_fr ?_
      | with_reducible refine Fr.ite ?_ ?_
      | with_reducible refine Fr.cond ?_ ?_
      | with_reducible assumption
      | with_reducible exact Fr.id_ (by with_reducible assumption)
      | (refine Fr.of_snd (by assumption) ?_)
      | (refine Fr.of_fst (by assumption) ?_)
      | split
      | (unfold v; split)
      | (unfold v; clear_value *; split)
      | (clear_value *; split)

theorem State.hold_fr {κ : Nat} {s0 s : State} {code : Nat} {sc : Nat} {unit : Nat} {detail : Nat} (hf_ : Fr κ s0 s) (hk_ : 0x1000 &&& κ = 0x1000 := by decide) :
    Fr κ s0 (State.hold s code sc unit detail) := by
  refine Fr.lift hf_ hk_ ?_
  clear hf_ hk_
  unfold State.hold
  have h0 := Fr.refl 0x1000 s
  repeat' first
      | ((try lift_lets); intro v; refine_lift have hv : Fr 0x1000 s v := ?_; ?_; clear_value v)
      | ((try lift_lets); intro v)
      | with_reducible refine State.setHeld_fr ?_
      | with_reducible refine Fr.ite ?_ ?_
      | with_reducible refine Fr.cond ?_ ?_
      | with_reducible assumption
      | with_reducible exact Fr.id_ (by with_reducible assumption)
      | (refine Fr.of_snd (by assumption) ?_)
      | (refine Fr.of_fst (by assumption) ?_)
      | split
      | (unfold v; split)
      | (unfold v; clear_value *; split)
      | (clear_value *; split)

@[simp] theorem grtPend_fam {p : Nat} : fam (grtPend p).reg = 223 := by unfold grtPend; (repeat' split) <;> rfl

theorem State.grtAdd_fr {κ : Nat} {s0 s : State} {k : ℕ} (hf_ : Fr κ s0 s) (hk_ : 0xc2c01000008004ac000000400000000000000000000000000000000000000240002201f400 &&& κ = 0xc2c01000008004ac000000400000000000000000000000000000000000000240002201f400 := by decide) :
    Fr κ s0 (State.grtAdd s k) := by
  refine Fr.lift hf_ hk_ ?_
  clear hf_ hk_
  unfold State.grtAdd
  have h0 := Fr.refl 0xc2c01000008004ac000000400000000000000000000000000000000000000240002201f400 s
  repeat' first
      | ((try lift_lets); intro v; refine_lift have hv : Fr 0xc2c01000008004ac000000400000000000000000000000000000000000000240002201f400 s v := ?_; ?_; clear_value v)
      | ((try lift_lets); intro v)
      | with_reducible refine State.faultNow_fr ?_
      | with_reducible refine State.hold_fr ?_
      | with_reducible refine State.event_fr ?_
      | with_reducible refine State.inc_fr ?_
      | with_reducible refine State.raiseNow_fr ?_
      | with_reducible refine Fr.ite ?_ ?_
      | with_reducible refine Fr.cond ?_ ?_
      | with_reducible assumption
      | (refine Fr.of_snd (by assumption) ?_)
      | (refine Fr.of_fst (by assumption) ?_)
      | split
      | (unfold v; split)
      | (unfold v; clear_value *; split)
      | (clear_value *; split)

theorem State.fault_fr {κ : Nat} {s0 s : State} {code : ℕ} {sc : ℕ} {unit : ℕ} {detail : ℕ} (hf_ : Fr κ s0 s) (hk_ : 0xc2c01000008004ac000000400000000000000000000000000000000000000240002201f400 &&& κ = 0xc2c01000008004ac000000400000000000000000000000000000000000000240002201f400 := by decide) :
    Fr κ s0 (State.fault s code sc unit detail) := by
  refine Fr.lift hf_ hk_ ?_
  clear hf_ hk_
  unfold State.fault
  have h0 := Fr.refl 0xc2c01000008004ac000000400000000000000000000000000000000000000240002201f400 s
  repeat' first
      | ((try lift_lets); intro v; refine_lift have hv : Fr 0xc2c01000008004ac000000400000000000000000000000000000000000000240002201f400 s v := ?_; ?_; clear_value v)
      | ((try lift_lets); intro v)
      | with_reducible refine State.faultNow_fr ?_
      | with_reducible refine State.hold_fr ?_
      | with_reducible refine State.grtAdd_fr ?_
      | with_reducible refine State.markAxes_fr ?_
      | with_reducible refine State.raiseNow_fr ?_
      | with_reducible refine State.setHeld_fr ?_
      | with_reducible refine State.testAbort_fr ?_
      | with_reducible refine Fr.forEach ?_ (fun t a ht => ?_)
      | with_reducible refine Fr.ite ?_ ?_
      | with_reducible refine Fr.cond ?_ ?_
      | with_reducible assumption
      | (refine Fr.of_snd (by assumption) ?_)
      | (refine Fr.of_fst (by assumption) ?_)
      | split
      | (unfold v; split)
      | (unfold v; clear_value *; split)
      | (clear_value *; split)

theorem State.faultOn_fr {κ : Nat} {s0 s : State} {code : ℕ} {sc : ℕ} {unit : ℕ} {detail : ℕ} (hf_ : Fr κ s0 s) (hk_ : 0xc2c01000008004bc000000400000000000000000000000000000000000000240002201f400 &&& κ = 0xc2c01000008004bc000000400000000000000000000000000000000000000240002201f400 := by decide) :
    Fr κ s0 (State.faultOn s code sc unit detail) := by
  refine Fr.lift hf_ hk_ ?_
  clear hf_ hk_
  unfold State.faultOn
  have h0 := Fr.refl 0xc2c01000008004bc000000400000000000000000000000000000000000000240002201f400 s
  repeat' first
      | ((try lift_lets); intro v; refine_lift have hv : Fr 0xc2c01000008004bc000000400000000000000000000000000000000000000240002201f400 s v := ?_; ?_; clear_value v)
      | ((try lift_lets); intro v)
      | with_reducible refine State.fault_fr ?_
      | with_reducible refine State.setCause_fr ?_
      | with_reducible refine Fr.ite ?_ ?_
      | with_reducible refine Fr.cond ?_ ?_
      | with_reducible assumption
      | (refine Fr.of_snd (by assumption) ?_)
      | (refine Fr.of_fst (by assumption) ?_)
      | split
      | (unfold v; split)
      | (unfold v; clear_value *; split)
      | (clear_value *; split)

theorem State.statusClear_fr {κ : Nat} {s0 s : State} {k : ℕ} {w : Word} (hf_ : Fr κ s0 s) (hk_ : 0x80000000000000000000000000000000000000000000000000000000000 &&& κ = 0x80000000000000000000000000000000000000000000000000000000000 := by decide) :
    Fr κ s0 (State.statusClear s k w) := by
  refine Fr.lift hf_ hk_ ?_
  clear hf_ hk_
  unfold State.statusClear
  have h0 := Fr.refl 0x80000000000000000000000000000000000000000000000000000000000 s
  repeat' first
      | ((try lift_lets); intro v; refine_lift have hv : Fr 0x80000000000000000000000000000000000000000000000000000000000 s v := ?_; ?_; clear_value v)
      | ((try lift_lets); intro v)
      | with_reducible refine State.set_fr ?_
      | with_reducible refine Fr.ite ?_ ?_
      | with_reducible refine Fr.cond ?_ ?_
      | with_reducible assumption
      | (refine Fr.of_snd (by assumption) ?_)
      | (refine Fr.of_fst (by assumption) ?_)
      | split
      | (unfold v; split)
      | (unfold v; clear_value *; split)
      | (clear_value *; split)

theorem State.evtClear_fr {κ : Nat} {s0 s : State} {k : ℕ} {w : Word} (hf_ : Fr κ s0 s) (hk_ : 0x800000000000000000000000000000000000000000000000000000000000 &&& κ = 0x800000000000000000000000000000000000000000000000000000000000 := by decide) :
    Fr κ s0 (State.evtClear s k w) := by
  refine Fr.lift hf_ hk_ ?_
  clear hf_ hk_
  unfold State.evtClear
  have h0 := Fr.refl 0x800000000000000000000000000000000000000000000000000000000000 s
  repeat' first
      | ((try lift_lets); intro v; refine_lift have hv : Fr 0x800000000000000000000000000000000000000000000000000000000000 s v := ?_; ?_; clear_value v)
      | ((try lift_lets); intro v)
      | with_reducible refine State.set_fr ?_
      | with_reducible refine Fr.ite ?_ ?_
      | with_reducible refine Fr.cond ?_ ?_
      | with_reducible assumption
      | (refine Fr.of_snd (by assumption) ?_)
      | (refine Fr.of_fst (by assumption) ?_)
      | split
      | (unfold v; split)
      | (unfold v; clear_value *; split)
      | (clear_value *; split)

theorem State.logClr_fr {κ : Nat} {s0 s : State} {w : Word} (hf_ : Fr κ s0 s) (hk_ : 0x4240000000000000000000000000000000000000000000000000000000000 &&& κ = 0x4240000000000000000000000000000000000000000000000000000000000 := by decide) :
    Fr κ s0 (State.logClr s w) := by
  refine Fr.lift hf_ hk_ ?_
  clear hf_ hk_
  unfold State.logClr
  have h0 := Fr.refl 0x4240000000000000000000000000000000000000000000000000000000000 s
  repeat' first
      | ((try lift_lets); intro v; refine_lift have hv : Fr 0x4240000000000000000000000000000000000000000000000000000000000 s v := ?_; ?_; clear_value v)
      | ((try lift_lets); intro v)
      | with_reducible refine State.set_fr ?_
      | with_reducible refine State.wr_fr ?_
      | with_reducible refine Fr.forEach ?_ (fun t a ht => ?_)
      | with_reducible refine Fr.ite ?_ ?_
      | with_reducible refine Fr.cond ?_ ?_
      | with_reducible assumption
      | (refine Fr.of_snd (by assumption) ?_)
      | (refine Fr.of_fst (by assumption) ?_)
      | split
      | (unfold v; split)
      | (unfold v; clear_value *; split)
      | (clear_value *; split)

theorem State.routeWrite_fr {κ : Nat} {s0 s : State} {n : ℕ} {w : Word} (hf_ : Fr κ s0 s) (hk_ : 0x2000000000000000000000000000000000000000000000000000000000000 &&& κ = 0x2000000000000000000000000000000000000000000000000000000000000 := by decide) :
    Fr κ s0 (State.routeWrite s n w) := by
  refine Fr.lift hf_ hk_ ?_
  clear hf_ hk_
  unfold State.routeWrite
  have h0 := Fr.refl 0x2000000000000000000000000000000000000000000000000000000000000 s
  repeat' first
      | ((try lift_lets); intro v; refine_lift have hv : Fr 0x2000000000000000000000000000000000000000000000000000000000000 s v := ?_; ?_; clear_value v)
      | ((try lift_lets); intro v)
      | with_reducible refine State.set_fr ?_
      | with_reducible refine Fr.ite ?_ ?_
      | with_reducible refine Fr.cond ?_ ?_
      | with_reducible assumption
      | (refine Fr.of_snd (by assumption) ?_)
      | (refine Fr.of_fst (by assumption) ?_)
      | split
      | (unfold v; split)
      | (unfold v; clear_value *; split)
      | (clear_value *; split)

theorem execStatusClear_fr {s t_ : State} {k : ℕ} {w : Word} (e_ : execStatusClear k w s = .next t_) : Fr 0x80000000000000000000000000000000000000000000000000000000000 s t_ := by
  unfold execStatusClear at e_
  obtain rfl := Host.Outcome.next.inj e_
  clear e_
  have h0 := Fr.refl 0x80000000000000000000000000000000000000000000000000000000000 s
  repeat' first
      | ((try lift_lets); intro v; refine_lift have hv : Fr 0x80000000000000000000000000000000000000000000000000000000000 s v := ?_; ?_; clear_value v)
      | ((try lift_lets); intro v)
      | with_reducible refine State.statusClear_fr ?_
      | with_reducible refine Fr.running ?_ (fun t ht => ?_)
      | with_reducible refine Fr.ite ?_ ?_
      | with_reducible refine Fr.cond ?_ ?_
      | with_reducible assumption
      | (refine Fr.of_snd (by assumption) ?_)
      | (refine Fr.of_fst (by assumption) ?_)
      | split
      | (unfold v; split)
      | (unfold v; clear_value *; split)
      | (clear_value *; split)

theorem execEvtPendClear_fr {s t_ : State} {k : ℕ} {w : Word} (e_ : execEvtPendClear k w s = .next t_) : Fr 0x800000000000000000000000000000000000000000000000000000000000 s t_ := by
  unfold execEvtPendClear at e_
  obtain rfl := Host.Outcome.next.inj e_
  clear e_
  have h0 := Fr.refl 0x800000000000000000000000000000000000000000000000000000000000 s
  repeat' first
      | ((try lift_lets); intro v; refine_lift have hv : Fr 0x800000000000000000000000000000000000000000000000000000000000 s v := ?_; ?_; clear_value v)
      | ((try lift_lets); intro v)
      | with_reducible refine State.evtClear_fr ?_
      | with_reducible refine Fr.running ?_ (fun t ht => ?_)
      | with_reducible refine Fr.ite ?_ ?_
      | with_reducible refine Fr.cond ?_ ?_
      | with_reducible assumption
      | (refine Fr.of_snd (by assumption) ?_)
      | (refine Fr.of_fst (by assumption) ?_)
      | split
      | (unfold v; split)
      | (unfold v; clear_value *; split)
      | (clear_value *; split)

theorem execLogClr_fr {s t_ : State} {w : Word} (e_ : execLogClr w s = .next t_) : Fr 0x4240000000000000000000000000000000000000000000000000000000000 s t_ := by
  unfold execLogClr at e_
  obtain rfl := Host.Outcome.next.inj e_
  clear e_
  have h0 := Fr.refl 0x4240000000000000000000000000000000000000000000000000000000000 s
  repeat' first
      | ((try lift_lets); intro v; refine_lift have hv : Fr 0x4240000000000000000000000000000000000000000000000000000000000 s v := ?_; ?_; clear_value v)
      | ((try lift_lets); intro v)
      | with_reducible refine State.logClr_fr ?_
      | with_reducible refine Fr.running ?_ (fun t ht => ?_)
      | with_reducible refine Fr.ite ?_ ?_
      | with_reducible refine Fr.cond ?_ ?_
      | with_reducible assumption
      | (refine Fr.of_snd (by assumption) ?_)
      | (refine Fr.of_fst (by assumption) ?_)
      | split
      | (unfold v; split)
      | (unfold v; clear_value *; split)
      | (clear_value *; split)

theorem execRouteWrite_fr {s t_ : State} {n : ℕ} {w : Word} (e_ : execRouteWrite n w s = .next t_) : Fr 0x2000000000000000000000000000000000000000000000000000000000000 s t_ := by
  unfold execRouteWrite at e_
  obtain rfl := Host.Outcome.next.inj e_
  clear e_
  have h0 := Fr.refl 0x2000000000000000000000000000000000000000000000000000000000000 s
  repeat' first
      | ((try lift_lets); intro v; refine_lift have hv : Fr 0x2000000000000000000000000000000000000000000000000000000000000 s v := ?_; ?_; clear_value v)
      | ((try lift_lets); intro v)
      | with_reducible refine State.routeWrite_fr ?_
      | with_reducible refine Fr.running ?_ (fun t ht => ?_)
      | with_reducible refine Fr.ite ?_ ?_
      | with_reducible refine Fr.cond ?_ ?_
      | with_reducible assumption
      | (refine Fr.of_snd (by assumption) ?_)
      | (refine Fr.of_fst (by assumption) ?_)
      | split
      | (unfold v; split)
      | (unfold v; clear_value *; split)
      | (clear_value *; split)

end Sys2Proof.Machine
end

