-- ==== Sys2Proof/Laws/FrameParams.lean ====
section
/-! SUPPORT. Frames of the operations of Machine/Params.lean: one lemma each (Laws/Frame.lean). -/

namespace Sys2Proof.Machine

set_option Elab.async false

theorem State.putSrc_fr {κ : Nat} {s0 s : State} {owner : ℕ} {n : ℕ} {r : List Word} (hf_ : Fr κ s0 s) (hk_ : 0x800 &&& κ = 0x800 := by decide) :
    Fr κ s0 (State.putSrc s owner n r) := by
  refine Fr.lift hf_ hk_ ?_
  clear hf_ hk_
  unfold State.putSrc
  have h0 := Fr.refl 0x800 s
  repeat' first
      | ((try lift_lets); intro v; refine_lift have hv : Fr 0x800 s v := ?_; ?_; clear_value v)
      | ((try lift_lets); intro v)

      | with_reducible refine Fr.ite ?_ ?_
      | with_reducible refine Fr.cond ?_ ?_
      | with_reducible exact Fr.sources (by with_reducible assumption)
      | with_reducible assumption
      | (refine Fr.of_snd (by assumption) ?_)
      | (refine Fr.of_fst (by assumption) ?_)
      | split
      | (unfold v; split)
      | (unfold v; clear_value *; split)
      | (clear_value *; split)

theorem State.note_fr {κ : Nat} {s0 s : State} {by_ : Writer} {f : ℕ} (hf_ : Fr κ s0 s) (hk_ : 0x40000000 &&& κ = 0x40000000 := by decide) :
    Fr κ s0 (State.note s by_ f) := by
  refine Fr.lift hf_ hk_ ?_
  clear hf_ hk_
  unfold State.note
  have h0 := Fr.refl 0x40000000 s
  repeat' first
      | ((try lift_lets); intro v; refine_lift have hv : Fr 0x40000000 s v := ?_; ?_; clear_value v)
      | ((try lift_lets); intro v)
      | with_reducible refine State.setReply_fr ?_
      | with_reducible refine Fr.ite ?_ ?_
      | with_reducible refine Fr.cond ?_ ?_
      | with_reducible assumption
      | (refine Fr.of_snd (by assumption) ?_)
      | (refine Fr.of_fst (by assumption) ?_)
      | split
      | (unfold v; split)
      | (unfold v; clear_value *; split)
      | (clear_value *; split)

theorem State.expert_fr {m : Nat} {s0 s : State} {by_ : Writer} {x : Axis} {group : Nat} {f : State → State} (h : Fr m s0 s)
    (hf : ∀ t, Fr m s0 t → Fr m s0 (f t)) (hk : 1073741824 &&& m = 1073741824 := by decide) :
    Fr m s0 (State.expert s by_ x group f) := by
  unfold State.expert
  split
  · exact State.note_fr h hk
  · exact hf _ h

theorem State.setIf_fr {m : Nat} {s0 s : State} {f : Fld} {w : Word} {ok : Nat → Bool} (h : Fr m s0 s) (hk : m.testBit (32 + fam f.reg) = true := by first | assumption | decide | (simp; done) | (simp; decide) | (simp +zetaDelta; decide) | (split <;> simp <;> decide) | exact all_fam (by decide)) :
    Fr m s0 (s.setIf f w ok) := by unfold State.setIf; split; exact State.set_fr h hk; exact h

end Sys2Proof.Machine
end

