-- ==== Sys2Proof/Laws/FrameMotor.lean ====
section
/-! SUPPORT. Frames of the operations of Machine/Motor.lean: one lemma each (Laws/Frame.lean). -/

namespace Sys2Proof.Machine

set_option Elab.async false

theorem State.compsZero_fr {κ : Nat} {s0 s : State} {x : Axis} (hf_ : Fr κ s0 s) (hk_ : 0x204000000000000000000000000000000000000020 &&& κ = 0x204000000000000000000000000000000000000020 := by decide) :
    Fr κ s0 (State.compsZero s x) := by
  refine Fr.lift hf_ hk_ ?_
  clear hf_ hk_
  unfold State.compsZero
  have h0 := Fr.refl 0x204000000000000000000000000000000000000020 s
  repeat' first
      | ((try lift_lets); intro v; refine_lift have hv : Fr 0x204000000000000000000000000000000000000020 s v := ?_; ?_; clear_value v)
      | ((try lift_lets); intro v)
      | with_reducible refine State.putWords_fr ?_
      | with_reducible refine State.set_fr ?_
      | with_reducible refine State.setWords_fr ?_
      | with_reducible refine State.st32_fr ?_
      | with_reducible refine Fr.forEach ?_ (fun t a ht => ?_)
      | with_reducible refine Fr.ite ?_ ?_
      | with_reducible refine Fr.cond ?_ ?_
      | with_reducible assumption
      | (refine Fr.of_snd (by assumption) ?_)
      | (refine Fr.of_fst (by assumption) ?_)
      | split
      | (unfold v; split)
      | (unfold v; clear_value *; split)
      | (clear_value *; split)

theorem State.deriveShadow_fr {κ : Nat} {s0 s : State} {x : Axis} {l : List ℕ} {t : ℕ} (hf_ : Fr κ s0 s) (hk_ : 0x10 &&& κ = 0x10 := by decide) :
    Fr κ s0 (State.deriveShadow s x l t) := by
  refine Fr.lift hf_ hk_ ?_
  clear hf_ hk_
  unfold State.deriveShadow
  have h0 := Fr.refl 0x10 s
  repeat' first
      | ((try lift_lets); intro v; refine_lift have hv : Fr 0x10 s v := ?_; ?_; clear_value v)
      | ((try lift_lets); intro v)
      | with_reducible refine State.setSh_fr ?_
      | with_reducible refine Fr.forEach ?_ (fun t a ht => ?_)
      | with_reducible refine Fr.ite ?_ ?_
      | with_reducible refine Fr.cond ?_ ?_
      | with_reducible assumption
      | (refine Fr.of_snd (by assumption) ?_)
      | (refine Fr.of_fst (by assumption) ?_)
      | split
      | (unfold v; split)
      | (unfold v; clear_value *; split)
      | (clear_value *; split)

theorem State.keepBanks_fr {κ : Nat} {s0 s : State} {x : Axis} {l : List ℕ} (hf_ : Fr κ s0 s) (hk_ : 0x400 &&& κ = 0x400 := by decide) :
    Fr κ s0 (State.keepBanks s x l) := by
  refine Fr.lift hf_ hk_ ?_
  clear hf_ hk_
  unfold State.keepBanks
  have h0 := Fr.refl 0x400 s
  repeat' first
      | ((try lift_lets); intro v; refine_lift have hv : Fr 0x400 s v := ?_; ?_; clear_value v)
      | ((try lift_lets); intro v)
      | with_reducible refine State.modFab_fr ?_
      | with_reducible refine Fr.ite ?_ ?_
      | with_reducible refine Fr.cond ?_ ?_
      | with_reducible assumption
      | (refine Fr.of_snd (by assumption) ?_)
      | (refine Fr.of_fst (by assumption) ?_)
      | split
      | (unfold v; split)
      | (unfold v; clear_value *; split)
      | (clear_value *; split)

theorem State.bankTake_fr {κ : Nat} {s0 s : State} {x : Axis} {mask : ℕ} (hf_ : Fr κ s0 s) (hk_ : 0x1000000000000000000000000000000000000400 &&& κ = 0x1000000000000000000000000000000000000400 := by decide) :
    Fr κ s0 (State.bankTake s x mask) := by
  refine Fr.lift hf_ hk_ ?_
  clear hf_ hk_
  unfold State.bankTake
  have h0 := Fr.refl 0x1000000000000000000000000000000000000400 s
  repeat' first
      | ((try lift_lets); intro v; refine_lift have hv : Fr 0x1000000000000000000000000000000000000400 s v := ?_; ?_; clear_value v)
      | ((try lift_lets); intro v)
      | with_reducible refine State.keepBanks_fr ?_
      | with_reducible refine State.take_fr ?_
      | with_reducible refine Fr.forEach ?_ (fun t a ht => ?_)
      | with_reducible refine Fr.ite ?_ ?_
      | with_reducible refine Fr.cond ?_ ?_
      | with_reducible assumption
      | (refine Fr.of_snd (by assumption) ?_)
      | (refine Fr.of_fst (by assumption) ?_)
      | split
      | (unfold v; split)
      | (unfold v; clear_value *; split)
      | (clear_value *; split)

theorem State.deriveFor_fr {κ : Nat} {s0 s : State} {x : Axis} {l : List ℕ} (hf_ : Fr κ s0 s) (hk_ : 0x1000000000000000000000000000000000018410 &&& κ = 0x1000000000000000000000000000000000018410 := by decide) :
    Fr κ s0 (State.deriveFor s x l) := by
  refine Fr.lift hf_ hk_ ?_
  clear hf_ hk_
  unfold State.deriveFor
  have h0 := Fr.refl 0x1000000000000000000000000000000000018410 s
  repeat' first
      | ((try lift_lets); intro v; refine_lift have hv : Fr 0x1000000000000000000000000000000000018410 s v := ?_; ?_; clear_value v)
      | ((try lift_lets); intro v)
      | with_reducible refine State.bankTake_fr ?_
      | with_reducible refine State.deriveShadow_fr ?_
      | with_reducible refine State.modSv_fr ?_
      | with_reducible refine Fr.ite ?_ ?_
      | with_reducible refine Fr.cond ?_ ?_
      | with_reducible assumption
      | (refine Fr.of_snd (by assumption) ?_)
      | (refine Fr.of_fst (by assumption) ?_)
      | split
      | (unfold v; split)
      | (unfold v; clear_value *; split)
      | (clear_value *; split)

theorem State.gateTargets_fr {κ : Nat} {s0 s : State} {x : Axis} (hf_ : Fr κ s0 s) (hk_ : 0x80000000000000000000000000000000000000000000000000000 &&& κ = 0x80000000000000000000000000000000000000000000000000000 := by decide) :
    Fr κ s0 (State.gateTargets s x) := by
  refine Fr.lift hf_ hk_ ?_
  clear hf_ hk_
  unfold State.gateTargets
  have h0 := Fr.refl 0x80000000000000000000000000000000000000000000000000000 s
  refine Fr.onlyIf h0 (fun t ht => ?_)
  exact Fr.forEach ht (fun t p ht => State.set_fr (State.set_fr ht))

theorem State.derive_fr {κ : Nat} {s0 s : State} {x : Axis} (hf_ : Fr κ s0 s) (hk_ : 0x80000000000001000000000000000000000000000000000018410 &&& κ = 0x80000000000001000000000000000000000000000000000018410 := by decide) :
    Fr κ s0 (State.derive s x) := by
  refine Fr.lift hf_ hk_ ?_
  clear hf_ hk_
  unfold State.derive
  have h0 := Fr.refl 0x80000000000001000000000000000000000000000000000018410 s
  repeat' first
      | ((try lift_lets); intro v; refine_lift have hv : Fr 0x80000000000001000000000000000000000000000000000018410 s v := ?_; ?_; clear_value v)
      | ((try lift_lets); intro v)
      | with_reducible refine State.gateTargets_fr ?_
      | with_reducible refine State.deriveFor_fr ?_
      | with_reducible refine Fr.ite ?_ ?_
      | with_reducible refine Fr.cond ?_ ?_
      | with_reducible assumption
      | (refine Fr.of_snd (by assumption) ?_)
      | (refine Fr.of_fst (by assumption) ?_)
      | split
      | (unfold v; split)
      | (unfold v; clear_value *; split)
      | (clear_value *; split)

theorem State.derivedSwap_fr {κ : Nat} {s0 s : State} {x : Axis} {mask : Nat} (hf_ : Fr κ s0 s) (hk_ : 0x2c01000000000800000004000000000011000000000000000000000000002400002018400 &&& κ = 0x2c01000000000800000004000000000011000000000000000000000000002400002018400 := by decide) :
    Fr κ s0 (State.derivedSwap s x mask) := by
  refine Fr.lift hf_ hk_ ?_
  clear hf_ hk_
  unfold State.derivedSwap
  have h0 := Fr.refl 0x2c01000000000800000004000000000011000000000000000000000000002400002018400 s
  repeat' first
      | ((try lift_lets); intro v; refine_lift have hv : Fr 0x2c01000000000800000004000000000011000000000000000000000000002400002018400 s v := ?_; ?_; clear_value v)
      | ((try lift_lets); intro v)
      | with_reducible refine State.bankTake_fr ?_
      | with_reducible refine State.evx_fr ?_
      | with_reducible refine Fr.forEach ?_ (fun t a ht => ?_)
      | with_reducible refine State.set_fr ?_
      | with_reducible refine State.setBit_fr ?_
      | with_reducible refine Fr.ite ?_ ?_
      | with_reducible refine Fr.cond ?_ ?_
      | with_reducible assumption
      | with_reducible exact Fr.id_ (by with_reducible assumption)
      | (refine Fr.of_snd (by assumption) ?_)
      | (refine Fr.of_fst (by assumption) ?_)
      | split
      | (unfold v; split)
      | (unfold v; clear_value *; split)
      | (clear_value *; split)

theorem State.derivePeriod_fr {κ : Nat} {s0 s : State} {x : Axis} (hf_ : Fr κ s0 s) (hk_ : 0x2c01000000000800000084000000000011000000000000000000000000002400002018410 &&& κ = 0x2c01000000000800000084000000000011000000000000000000000000002400002018410 := by decide) :
    Fr κ s0 (State.derivePeriod s x) := by
  refine Fr.lift hf_ hk_ ?_
  clear hf_ hk_
  unfold State.derivePeriod
  have h0 := Fr.refl 0x2c01000000000800000084000000000011000000000000000000000000002400002018410 s
  repeat' first
      | ((try lift_lets); intro v; refine_lift have hv : Fr 0x2c01000000000800000084000000000011000000000000000000000000002400002018410 s v := ?_; ?_; clear_value v)
      | ((try lift_lets); intro v)
      | with_reducible refine State.derivedSwap_fr ?_
      | with_reducible refine State.gateTargets_fr ?_
      | with_reducible refine State.bankTake_fr ?_
      | with_reducible refine State.deriveShadow_fr ?_
      | with_reducible refine State.modSv_fr ?_
      | with_reducible refine Fr.ite ?_ ?_
      | with_reducible refine Fr.cond ?_ ?_
      | with_reducible assumption
      | (refine Fr.of_snd (by assumption) ?_)
      | (refine Fr.of_fst (by assumption) ?_)
      | split
      | (unfold v; split)
      | (unfold v; clear_value *; split)
      | (clear_value *; split)

theorem State.profFor_fr {κ : Nat} {s0 s : State} {x : Axis} {p : Nat → Nat → Bool} (hf_ : Fr κ s0 s) (hk_ : 0xe000000000000000000000000000000000000000000000 &&& κ = 0xe000000000000000000000000000000000000000000000 := by decide) :
    Fr κ s0 (State.profFor s x p) := by
  refine Fr.lift hf_ hk_ ?_
  clear hf_ hk_
  unfold State.profFor
  have h0 := Fr.refl 0xe000000000000000000000000000000000000000000000 s
  repeat' first
      | ((try lift_lets); intro v; refine_lift have hv : Fr 0xe000000000000000000000000000000000000000000000 s v := ?_; ?_; clear_value v)
      | ((try lift_lets); intro v)
      | with_reducible refine Fr.onlyIf ?_ (fun t ht => ?_)
      | with_reducible refine State.setW_fr ?_
      | with_reducible refine Fr.ite ?_ ?_
      | with_reducible refine Fr.cond ?_ ?_
      | with_reducible assumption
      | with_reducible exact Fr.id_ (by with_reducible assumption)
      | (refine Fr.of_snd (by assumption) ?_)
      | (refine Fr.of_fst (by assumption) ?_)
      | split
      | (unfold v; split)
      | (unfold v; clear_value *; split)
      | (clear_value *; split)

theorem State.showFor_fr {κ : Nat} {s0 s : State} {x : Axis} {p : Nat → Nat → Bool} (hf_ : Fr κ s0 s) (hk_ : 0xe00000001e000e00000000000000000000000000000000 &&& κ = 0xe00000001e000e00000000000000000000000000000000 := by decide) :
    Fr κ s0 (State.showFor s x p) := by
  refine Fr.lift hf_ hk_ ?_
  clear hf_ hk_
  unfold State.showFor
  have h0 := Fr.refl 0xe00000001e000e00000000000000000000000000000000 s
  repeat' first
      | ((try lift_lets); intro v; refine_lift have hv : Fr 0xe00000001e000e00000000000000000000000000000000 s v := ?_; ?_; clear_value v)
      | ((try lift_lets); intro v)
      | with_reducible refine Fr.onlyIf ?_ (fun t ht => ?_)
      | with_reducible refine State.profFor_fr ?_
      | with_reducible refine State.setW_fr ?_
      | with_reducible refine Fr.ite ?_ ?_
      | with_reducible refine Fr.cond ?_ ?_
      | with_reducible assumption
      | with_reducible exact Fr.id_ (by with_reducible assumption)
      | (refine Fr.of_snd (by assumption) ?_)
      | (refine Fr.of_fst (by assumption) ?_)
      | split
      | (unfold v; split)
      | (unfold v; clear_value *; split)
      | (clear_value *; split)

theorem State.profShow_fr {κ : Nat} {s0 s : State} {x : Axis} (hf_ : Fr κ s0 s) (hk_ : 0xe000000000000000000000000000000000000000000000 &&& κ = 0xe000000000000000000000000000000000000000000000 := by decide) :
    Fr κ s0 (State.profShow s x) := by
  refine Fr.lift hf_ hk_ ?_
  clear hf_ hk_
  unfold State.profShow
  have h0 := Fr.refl 0xe000000000000000000000000000000000000000000000 s
  repeat' first
      | ((try lift_lets); intro v; refine_lift have hv : Fr 0xe000000000000000000000000000000000000000000000 s v := ?_; ?_; clear_value v)
      | ((try lift_lets); intro v)
      | with_reducible refine State.profFor_fr ?_
      | with_reducible refine Fr.ite ?_ ?_
      | with_reducible refine Fr.cond ?_ ?_
      | with_reducible assumption
      | with_reducible exact Fr.id_ (by with_reducible assumption)
      | (refine Fr.of_snd (by assumption) ?_)
      | (refine Fr.of_fst (by assumption) ?_)
      | split
      | (unfold v; split)
      | (unfold v; clear_value *; split)
      | (clear_value *; split)

theorem State.serviceShow_fr {κ : Nat} {s0 s : State} {x : Axis} (hf_ : Fr κ s0 s) (hk_ : 0xe00000001e000e00000000000000000000000000000000 &&& κ = 0xe00000001e000e00000000000000000000000000000000 := by decide) :
    Fr κ s0 (State.serviceShow s x) := by
  refine Fr.lift hf_ hk_ ?_
  clear hf_ hk_
  unfold State.serviceShow
  have h0 := Fr.refl 0xe00000001e000e00000000000000000000000000000000 s
  repeat' first
      | ((try lift_lets); intro v; refine_lift have hv : Fr 0xe00000001e000e00000000000000000000000000000000 s v := ?_; ?_; clear_value v)
      | ((try lift_lets); intro v)
      | with_reducible refine State.showFor_fr ?_
      | with_reducible refine State.setW_fr ?_
      | with_reducible refine Fr.onlyIf ?_ (fun t ht => ?_)
      | with_reducible refine Fr.ite ?_ ?_
      | with_reducible refine Fr.cond ?_ ?_
      | with_reducible assumption
      | (refine Fr.of_snd (by assumption) ?_)
      | (refine Fr.of_fst (by assumption) ?_)
      | split
      | (unfold v; split)
      | (unfold v; clear_value *; split)
      | (clear_value *; split)

theorem State.sectShow_fr {κ : Nat} {s0 s : State} {x : Axis} {a : Nat} {n : Nat} (hf_ : Fr κ s0 s) (hk_ : 0xe00000001e000e00000000000000000000000000000000 &&& κ = 0xe00000001e000e00000000000000000000000000000000 := by decide) :
    Fr κ s0 (State.sectShow s x a n) := by
  refine Fr.lift hf_ hk_ ?_
  clear hf_ hk_
  unfold State.sectShow
  have h0 := Fr.refl 0xe00000001e000e00000000000000000000000000000000 s
  repeat' first
      | ((try lift_lets); intro v; refine_lift have hv : Fr 0xe00000001e000e00000000000000000000000000000000 s v := ?_; ?_; clear_value v)
      | ((try lift_lets); intro v)
      | with_reducible refine State.showFor_fr ?_
      | with_reducible refine Fr.ite ?_ ?_
      | with_reducible refine Fr.cond ?_ ?_
      | with_reducible assumption
      | with_reducible exact Fr.id_ (by with_reducible assumption)
      | (refine Fr.of_snd (by assumption) ?_)
      | (refine Fr.of_fst (by assumption) ?_)
      | split
      | (unfold v; split)
      | (unfold v; clear_value *; split)
      | (clear_value *; split)

theorem State.pllShow_fr {κ : Nat} {s0 s : State} {x : Axis} (hf_ : Fr κ s0 s) (hk_ : 0xe00000001e000e00000000000000000000000000000000 &&& κ = 0xe00000001e000e00000000000000000000000000000000 := by decide) :
    Fr κ s0 (State.pllShow s x) := by
  refine Fr.lift hf_ hk_ ?_
  clear hf_ hk_
  unfold State.pllShow
  have h0 := Fr.refl 0xe00000001e000e00000000000000000000000000000000 s
  repeat' first
      | ((try lift_lets); intro v; refine_lift have hv : Fr 0xe00000001e000e00000000000000000000000000000000 s v := ?_; ?_; clear_value v)
      | ((try lift_lets); intro v)
      | with_reducible refine State.showFor_fr ?_
      | with_reducible refine Fr.ite ?_ ?_
      | with_reducible refine Fr.cond ?_ ?_
      | with_reducible assumption
      | with_reducible exact Fr.id_ (by with_reducible assumption)
      | (refine Fr.of_snd (by assumption) ?_)
      | (refine Fr.of_fst (by assumption) ?_)
      | split
      | (unfold v; split)
      | (unfold v; clear_value *; split)
      | (clear_value *; split)

theorem State.serviceApply_fr {κ : Nat} {s0 s : State} {x : Axis} (hf_ : Fr κ s0 s) (hk_ : 0x8000000e00000101e000e00000000000000000000000000018410 &&& κ = 0x8000000e00000101e000e00000000000000000000000000018410 := by decide) :
    Fr κ s0 (State.serviceApply s x) := by
  refine Fr.lift hf_ hk_ ?_
  clear hf_ hk_
  unfold State.serviceApply
  have h0 := Fr.refl 0x8000000e00000101e000e00000000000000000000000000018410 s
  repeat' first
      | ((try lift_lets); intro v; refine_lift have hv : Fr 0x8000000e00000101e000e00000000000000000000000000018410 s v := ?_; ?_; clear_value v)
      | ((try lift_lets); intro v)
      | with_reducible refine State.derive_fr ?_
      | with_reducible refine State.serviceShow_fr ?_
      | with_reducible refine Fr.ite ?_ ?_
      | with_reducible refine Fr.cond ?_ ?_
      | with_reducible assumption
      | (refine Fr.of_snd (by assumption) ?_)
      | (refine Fr.of_fst (by assumption) ?_)
      | split
      | (unfold v; split)
      | (unfold v; clear_value *; split)
      | (clear_value *; split)

end Sys2Proof.Machine
end

