-- ==== Sys2Proof/Laws/FrameAxisCore.lean ====
section
/-! SUPPORT. Frames of the operations of Machine/AxisCore.lean: one lemma each (Laws/Frame.lean). -/

namespace Sys2Proof.Machine

set_option Elab.async false

theorem State.countEdge_fr {κ : Nat} {s0 s : State} {x : Axis} {i : ℕ} (hf_ : Fr κ s0 s) (hk_ : 0x60000 &&& κ = 0x60000 := by decide) :
    Fr κ s0 (State.countEdge s x i) := by
  refine Fr.lift hf_ hk_ ?_
  clear hf_ hk_
  unfold State.countEdge
  have h0 := Fr.refl 0x60000 s
  repeat' first
      | ((try lift_lets); intro v; refine_lift have hv : Fr 0x60000 s v := ?_; ?_; clear_value v)
      | ((try lift_lets); intro v)
      | with_reducible refine State.modTr_fr ?_
      | with_reducible refine Fr.ite ?_ ?_
      | with_reducible refine Fr.cond ?_ ?_
      | with_reducible assumption
      | (refine Fr.of_snd (by assumption) ?_)
      | (refine Fr.of_fst (by assumption) ?_)
      | split
      | (unfold v; split)
      | (unfold v; clear_value *; split)
      | (clear_value *; split)

theorem State.gateOffAt_fr {κ : Nat} {s0 s : State} {x : Axis} {c : Nat} {k : Nat} {why : Nat} (hf_ : Fr κ s0 s) (hk_ : 0x800000000000000000000000000000000000000000000000000060000 &&& κ = 0x800000000000000000000000000000000000000000000000000060000 := by decide) :
    Fr κ s0 (State.gateOffAt s x c k why) := by
  refine Fr.lift hf_ hk_ ?_
  clear hf_ hk_
  unfold State.gateOffAt
  have h0 := Fr.refl 0x800000000000000000000000000000000000000000000000000060000 s
  repeat' first
      | ((try lift_lets); intro v; refine_lift have hv : Fr 0x800000000000000000000000000000000000000000000000000060000 s v := ?_; ?_; clear_value v)
      | ((try lift_lets); intro v)
      | with_reducible refine State.countEdge_fr ?_
      | with_reducible refine State.modTr_fr ?_
      | with_reducible refine State.setBit_fr ?_
      | with_reducible refine Fr.ite ?_ ?_
      | with_reducible refine Fr.cond ?_ ?_
      | with_reducible assumption
      | with_reducible exact Fr.id_ (by with_reducible assumption)
      | (refine Fr.of_snd (by assumption) ?_)
      | (refine Fr.of_fst (by assumption) ?_)
      | split
      | (unfold v; split)
      | (unfold v; clear_value *; split)
      | (clear_value *; split)

theorem State.gateOff_fr {κ : Nat} {s0 s : State} {x : Axis} {c : ℕ} (hf_ : Fr κ s0 s) (hk_ : 0x800000000000000000000000000000000000000000000000000060000 &&& κ = 0x800000000000000000000000000000000000000000000000000060000 := by decide) :
    Fr κ s0 (State.gateOff s x c) := by
  refine Fr.lift hf_ hk_ ?_
  clear hf_ hk_
  unfold State.gateOff
  have h0 := Fr.refl 0x800000000000000000000000000000000000000000000000000060000 s
  repeat' first
      | ((try lift_lets); intro v; refine_lift have hv : Fr 0x800000000000000000000000000000000000000000000000000060000 s v := ?_; ?_; clear_value v)
      | ((try lift_lets); intro v)
      | with_reducible refine State.gateOffAt_fr ?_
      | with_reducible refine State.countEdge_fr ?_
      | with_reducible refine State.modTr_fr ?_
      | with_reducible refine Fr.ite ?_ ?_
      | with_reducible refine Fr.cond ?_ ?_
      | with_reducible assumption
      | (refine Fr.of_snd (by assumption) ?_)
      | (refine Fr.of_fst (by assumption) ?_)
      | split
      | (unfold v; split)
      | (unfold v; clear_value *; split)
      | (clear_value *; split)

theorem State.gateOn_fr {κ : Nat} {s0 s : State} {x : Axis} {c : ℕ} (hf_ : Fr κ s0 s) (hk_ : 0x60000 &&& κ = 0x60000 := by decide) :
    Fr κ s0 (State.gateOn s x c) := by
  refine Fr.lift hf_ hk_ ?_
  clear hf_ hk_
  unfold State.gateOn
  have h0 := Fr.refl 0x60000 s
  repeat' first
      | ((try lift_lets); intro v; refine_lift have hv : Fr 0x60000 s v := ?_; ?_; clear_value v)
      | ((try lift_lets); intro v)
      | with_reducible refine State.countEdge_fr ?_
      | with_reducible refine State.modTr_fr ?_
      | with_reducible refine Fr.ite ?_ ?_
      | with_reducible refine Fr.cond ?_ ?_
      | with_reducible assumption
      | (refine Fr.of_snd (by assumption) ?_)
      | (refine Fr.of_fst (by assumption) ?_)
      | split
      | (unfold v; split)
      | (unfold v; clear_value *; split)
      | (clear_value *; split)

theorem State.settle_fr {κ : Nat} {s0 s : State} {x : Axis} (hf_ : Fr κ s0 s) (hk_ : 0x1800000000000000000000000000000000000000000000000000060000 &&& κ = 0x1800000000000000000000000000000000000000000000000000060000 := by decide) :
    Fr κ s0 (State.settle s x) := by
  refine Fr.lift hf_ hk_ ?_
  clear hf_ hk_
  unfold State.settle
  have h0 := Fr.refl 0x1800000000000000000000000000000000000000000000000000060000 s
  repeat' first
      | ((try lift_lets); intro v; refine_lift have hv : Fr 0x1800000000000000000000000000000000000000000000000000060000 s v := ?_; ?_; clear_value v)
      | ((try lift_lets); intro v)
      | with_reducible refine State.modTr_fr ?_
      | with_reducible refine State.setB_fr ?_
      | with_reducible refine State.gateOff_fr ?_
      | with_reducible refine State.gateOn_fr ?_
      | with_reducible refine Fr.forEach ?_ (fun t a ht => ?_)
      | with_reducible refine Fr.ite ?_ ?_
      | with_reducible refine Fr.cond ?_ ?_
      | with_reducible assumption
      | (refine Fr.of_snd (by assumption) ?_)
      | (refine Fr.of_fst (by assumption) ?_)
      | split
      | (unfold v; split)
      | (unfold v; clear_value *; split)
      | (clear_value *; split)

theorem State.command_fr {κ : Nat} {s0 s : State} {x : Axis} {m : ℕ} (hf_ : Fr κ s0 s) (hk_ : 0x1800000000000000000000000000000000000000000000000000060000 &&& κ = 0x1800000000000000000000000000000000000000000000000000060000 := by decide) :
    Fr κ s0 (State.command s x m) := by
  refine Fr.lift hf_ hk_ ?_
  clear hf_ hk_
  unfold State.command
  have h0 := Fr.refl 0x1800000000000000000000000000000000000000000000000000060000 s
  repeat' first
      | ((try lift_lets); intro v; refine_lift have hv : Fr 0x1800000000000000000000000000000000000000000000000000060000 s v := ?_; ?_; clear_value v)
      | ((try lift_lets); intro v)
      | with_reducible refine State.modTr_fr ?_
      | with_reducible refine State.settle_fr ?_
      | with_reducible refine Fr.ite ?_ ?_
      | with_reducible refine Fr.cond ?_ ?_
      | with_reducible assumption
      | (refine Fr.of_snd (by assumption) ?_)
      | (refine Fr.of_fst (by assumption) ?_)
      | split
      | (unfold v; split)
      | (unfold v; clear_value *; split)
      | (clear_value *; split)

theorem State.linkCommand_fr {κ : Nat} {s0 s : State} {x : Axis} {m : Nat} (hf_ : Fr κ s0 s) (hk_ : 0x1800000000000000000000000000000000000000000000000000060000 &&& κ = 0x1800000000000000000000000000000000000000000000000000060000 := by decide) :
    Fr κ s0 (State.linkCommand s x m) := by
  refine Fr.lift hf_ hk_ ?_
  clear hf_ hk_
  unfold State.linkCommand
  have h0 := Fr.refl 0x1800000000000000000000000000000000000000000000000000060000 s
  repeat' first
      | ((try lift_lets); intro v; refine_lift have hv : Fr 0x1800000000000000000000000000000000000000000000000000060000 s v := ?_; ?_; clear_value v)
      | ((try lift_lets); intro v)
      | with_reducible refine State.modTr_fr ?_
      | with_reducible refine State.settle_fr ?_
      | with_reducible refine Fr.ite ?_ ?_
      | with_reducible refine Fr.cond ?_ ?_
      | with_reducible assumption
      | with_reducible exact Fr.id_ (by with_reducible assumption)
      | (refine Fr.of_snd (by assumption) ?_)
      | (refine Fr.of_fst (by assumption) ?_)
      | split
      | (unfold v; split)
      | (unfold v; clear_value *; split)
      | (clear_value *; split)

theorem State.pinCommand_fr {κ : Nat} {s0 s : State} {x : Axis} (hf_ : Fr κ s0 s) (hk_ : 0x1800000000000000000000000000000000000000000000000000060000 &&& κ = 0x1800000000000000000000000000000000000000000000000000060000 := by decide) :
    Fr κ s0 (State.pinCommand s x) := by
  refine Fr.lift hf_ hk_ ?_
  clear hf_ hk_
  unfold State.pinCommand
  have h0 := Fr.refl 0x1800000000000000000000000000000000000000000000000000060000 s
  repeat' first
      | ((try lift_lets); intro v; refine_lift have hv : Fr 0x1800000000000000000000000000000000000000000000000000060000 s v := ?_; ?_; clear_value v)
      | ((try lift_lets); intro v)
      | with_reducible refine State.modTr_fr ?_
      | with_reducible refine State.settle_fr ?_
      | with_reducible refine Fr.ite ?_ ?_
      | with_reducible refine Fr.cond ?_ ?_
      | with_reducible assumption
      | with_reducible exact Fr.id_ (by with_reducible assumption)
      | (refine Fr.of_snd (by assumption) ?_)
      | (refine Fr.of_fst (by assumption) ?_)
      | split
      | (unfold v; split)
      | (unfold v; clear_value *; split)
      | (clear_value *; split)

theorem State.extStart_fr {κ : Nat} {s0 s : State} {x : Axis} (hf_ : Fr κ s0 s) (hk_ : 0x1800040000000000000000000000000000000000000000000000060000 &&& κ = 0x1800040000000000000000000000000000000000000000000000060000 := by decide) :
    Fr κ s0 (State.extStart s x) := by
  refine Fr.lift hf_ hk_ ?_
  clear hf_ hk_
  unfold State.extStart
  have h0 := Fr.refl 0x1800040000000000000000000000000000000000000000000000060000 s
  repeat' first
      | ((try lift_lets); intro v; refine_lift have hv : Fr 0x1800040000000000000000000000000000000000000000000000060000 s v := ?_; ?_; clear_value v)
      | ((try lift_lets); intro v)
      | with_reducible refine State.pinCommand_fr ?_
      | with_reducible refine State.set_fr ?_
      | with_reducible refine Fr.ite ?_ ?_
      | with_reducible refine Fr.cond ?_ ?_
      | with_reducible assumption
      | with_reducible exact Fr.id_ (by with_reducible assumption)
      | (refine Fr.of_snd (by assumption) ?_)
      | (refine Fr.of_fst (by assumption) ?_)
      | split
      | (unfold v; split)
      | (unfold v; clear_value *; split)
      | (clear_value *; split)

theorem State.gatesDue_fr {κ : Nat} {s0 s : State} {x : Axis} (hf_ : Fr κ s0 s) (hk_ : 0x1800000000000000000000000000000000000000000000000000060000 &&& κ = 0x1800000000000000000000000000000000000000000000000000060000 := by decide) :
    Fr κ s0 (State.gatesDue s x) := by
  refine Fr.lift hf_ hk_ ?_
  clear hf_ hk_
  unfold State.gatesDue
  have h0 := Fr.refl 0x1800000000000000000000000000000000000000000000000000060000 s
  repeat' first
      | ((try lift_lets); intro v; refine_lift have hv : Fr 0x1800000000000000000000000000000000000000000000000000060000 s v := ?_; ?_; clear_value v)
      | ((try lift_lets); intro v)
      | with_reducible refine State.modTr_fr ?_
      | with_reducible refine State.settle_fr ?_
      | with_reducible refine Fr.ite ?_ ?_
      | with_reducible refine Fr.cond ?_ ?_
      | with_reducible assumption
      | with_reducible exact Fr.id_ (by with_reducible assumption)
      | (refine Fr.of_snd (by assumption) ?_)
      | (refine Fr.of_fst (by assumption) ?_)
      | split
      | (unfold v; split)
      | (unfold v; clear_value *; split)
      | (clear_value *; split)

theorem State.extEnd_fr {κ : Nat} {s0 s : State} {x : Axis} (hf_ : Fr κ s0 s) (hk_ : 0x40000000000000000000000000000000000000000000000060000 &&& κ = 0x40000000000000000000000000000000000000000000000060000 := by decide) :
    Fr κ s0 (State.extEnd s x) := by
  refine Fr.lift hf_ hk_ ?_
  clear hf_ hk_
  unfold State.extEnd
  have h0 := Fr.refl 0x40000000000000000000000000000000000000000000000060000 s
  repeat' first
      | ((try lift_lets); intro v; refine_lift have hv : Fr 0x40000000000000000000000000000000000000000000000060000 s v := ?_; ?_; clear_value v)
      | ((try lift_lets); intro v)
      | with_reducible refine State.modTr_fr ?_
      | with_reducible refine State.set_fr ?_
      | with_reducible refine Fr.ite ?_ ?_
      | with_reducible refine Fr.cond ?_ ?_
      | with_reducible assumption
      | with_reducible exact Fr.id_ (by with_reducible assumption)
      | (refine Fr.of_snd (by assumption) ?_)
      | (refine Fr.of_fst (by assumption) ?_)
      | split
      | (unfold v; split)
      | (unfold v; clear_value *; split)
      | (clear_value *; split)

theorem State.putSafe_fr {κ : Nat} {s0 s : State} {x : Axis} {st : ℕ} {rank : ℕ} {origin : ℕ} (hf_ : Fr κ s0 s) (hk_ : 0x2c01000000000901c00044000000000204000000000000000000000000002400002078420 &&& κ = 0x2c01000000000901c00044000000000204000000000000000000000000002400002078420 := by decide) :
    Fr κ s0 (State.putSafe s x st rank origin) := by
  refine Fr.lift hf_ hk_ ?_
  clear hf_ hk_
  unfold State.putSafe
  have h0 := Fr.refl 0x2c01000000000901c00044000000000204000000000000000000000000002400002078420 s
  repeat' first
      | ((try lift_lets); intro v; refine_lift have hv : Fr 0x2c01000000000901c00044000000000204000000000000000000000000002400002078420 s v := ?_; ?_; clear_value v)
      | ((try lift_lets); intro v)
      | with_reducible refine State.extEnd_fr ?_
      | with_reducible refine State.compsZero_fr ?_
      | with_reducible refine State.command_fr ?_
      | with_reducible refine State.evx_fr ?_
      | with_reducible refine State.modTr_fr ?_
      | with_reducible refine State.set_fr ?_
      | with_reducible refine State.setB_fr ?_
      | with_reducible refine State.setCause_fr ?_
      | with_reducible refine Fr.ite ?_ ?_
      | with_reducible refine Fr.cond ?_ ?_
      | with_reducible assumption
      | (refine Fr.of_snd (by assumption) ?_)
      | (refine Fr.of_fst (by assumption) ?_)
      | split
      | (unfold v; split)
      | (unfold v; clear_value *; split)
      | (clear_value *; split)

theorem State.ascDropped_fr {κ : Nat} {s0 s : State} {x : Axis} (hf_ : Fr κ s0 s) (hk_ : 0x1c00000000000000000000000000000000000000000000000000060000 &&& κ = 0x1c00000000000000000000000000000000000000000000000000060000 := by decide) :
    Fr κ s0 (State.ascDropped s x) := by
  refine Fr.lift hf_ hk_ ?_
  clear hf_ hk_
  unfold State.ascDropped
  have h0 := Fr.refl 0x1c00000000000000000000000000000000000000000000000000060000 s
  repeat' first
      | ((try lift_lets); intro v; refine_lift have hv : Fr 0x1c00000000000000000000000000000000000000000000000000060000 s v := ?_; ?_; clear_value v)
      | ((try lift_lets); intro v)
      | with_reducible refine State.settle_fr ?_
      | with_reducible refine State.command_fr ?_
      | with_reducible refine State.modTr_fr ?_
      | with_reducible refine State.set_fr ?_
      | with_reducible refine Fr.ite ?_ ?_
      | with_reducible refine Fr.cond ?_ ?_
      | with_reducible assumption
      | with_reducible exact Fr.id_ (by with_reducible assumption)
      | (refine Fr.of_snd (by assumption) ?_)
      | (refine Fr.of_fst (by assumption) ?_)
      | split
      | (unfold v; split)
      | (unfold v; clear_value *; split)
      | (clear_value *; split)

theorem State.retrySet_fr {κ : Nat} {s0 s : State} {x : Axis} {b : Bool} (hf_ : Fr κ s0 s) (hk_ : 0x400000000000000000000000000000000000000000000000000006000 &&& κ = 0x400000000000000000000000000000000000000000000000000006000 := by decide) :
    Fr κ s0 (State.retrySet s x b) := by
  refine Fr.lift hf_ hk_ ?_
  clear hf_ hk_
  unfold State.retrySet
  have h0 := Fr.refl 0x400000000000000000000000000000000000000000000000000006000 s
  repeat' first
      | ((try lift_lets); intro v; refine_lift have hv : Fr 0x400000000000000000000000000000000000000000000000000006000 s v := ?_; ?_; clear_value v)
      | ((try lift_lets); intro v)
      | with_reducible refine State.modAx_fr ?_
      | with_reducible refine State.setB_fr ?_
      | with_reducible refine Fr.ite ?_ ?_
      | with_reducible refine Fr.cond ?_ ?_
      | with_reducible assumption
      | with_reducible exact Fr.id_ (by with_reducible assumption)
      | (refine Fr.of_snd (by assumption) ?_)
      | (refine Fr.of_fst (by assumption) ?_)
      | split
      | (unfold v; split)
      | (unfold v; clear_value *; split)
      | (clear_value *; split)

theorem State.retryJoin_fr {κ : Nat} {s0 s : State} {x : Axis} {retry : Bool} (hf_ : Fr κ s0 s) (hk_ : 0x400000000000000000000000000000000000000000000000000006000 &&& κ = 0x400000000000000000000000000000000000000000000000000006000 := by decide) :
    Fr κ s0 (State.retryJoin s x retry) := by
  refine Fr.lift hf_ hk_ ?_
  clear hf_ hk_
  unfold State.retryJoin
  have h0 := Fr.refl 0x400000000000000000000000000000000000000000000000000006000 s
  repeat' first
      | ((try lift_lets); intro v; refine_lift have hv : Fr 0x400000000000000000000000000000000000000000000000000006000 s v := ?_; ?_; clear_value v)
      | ((try lift_lets); intro v)
      | with_reducible refine State.retrySet_fr ?_
      | with_reducible refine Fr.ite ?_ ?_
      | with_reducible refine Fr.cond ?_ ?_
      | with_reducible assumption
      | with_reducible exact Fr.id_ (by with_reducible assumption)
      | (refine Fr.of_snd (by assumption) ?_)
      | (refine Fr.of_fst (by assumption) ?_)
      | split
      | (unfold v; split)
      | (unfold v; clear_value *; split)
      | (clear_value *; split)

theorem State.chooseSafe_fr {κ : Nat} {s0 s : State} {x : Axis} {st : ℕ} {rank : ℕ} {origin : ℕ} {retry : Bool} (hf_ : Fr κ s0 s) (hk_ : 0x2c01000000000901c0004400000000020400000000000000000000000000240000207e420 &&& κ = 0x2c01000000000901c0004400000000020400000000000000000000000000240000207e420 := by decide) :
    Fr κ s0 (State.chooseSafe s x st rank origin retry) := by
  refine Fr.lift hf_ hk_ ?_
  clear hf_ hk_
  unfold State.chooseSafe
  have h0 := Fr.refl 0x2c01000000000901c0004400000000020400000000000000000000000000240000207e420 s
  repeat' first
      | ((try lift_lets); intro v; refine_lift have hv : Fr 0x2c01000000000901c0004400000000020400000000000000000000000000240000207e420 s v := ?_; ?_; clear_value v)
      | ((try lift_lets); intro v)
      | with_reducible refine State.ascDropped_fr ?_
      | with_reducible refine State.modTr_fr ?_
      | with_reducible refine State.retryJoin_fr ?_
      | with_reducible refine State.modAx_fr ?_
      | with_reducible refine State.putSafe_fr ?_
      | with_reducible refine State.setB_fr ?_
      | with_reducible refine Fr.ite ?_ ?_
      | with_reducible refine Fr.cond ?_ ?_
      | with_reducible assumption
      | (refine Fr.of_snd (by assumption) ?_)
      | (refine Fr.of_fst (by assumption) ?_)
      | split
      | (unfold v; split)
      | (unfold v; clear_value *; split)
      | (clear_value *; split)

theorem State.safeOther_fr {κ : Nat} {s0 s : State} {x : Axis} (hf_ : Fr κ s0 s) (hk_ : 0x2c01000000000901c0004400000000020400000000000000000000000000240000207e420 &&& κ = 0x2c01000000000901c0004400000000020400000000000000000000000000240000207e420 := by decide) :
    Fr κ s0 (State.safeOther s x) := by
  refine Fr.lift hf_ hk_ ?_
  clear hf_ hk_
  unfold State.safeOther
  have h0 := Fr.refl 0x2c01000000000901c0004400000000020400000000000000000000000000240000207e420 s
  repeat' first
      | ((try lift_lets); intro v; refine_lift have hv : Fr 0x2c01000000000901c0004400000000020400000000000000000000000000240000207e420 s v := ?_; ?_; clear_value v)
      | ((try lift_lets); intro v)
      | with_reducible refine State.chooseSafe_fr ?_
      | with_reducible refine Fr.ite ?_ ?_
      | with_reducible refine Fr.cond ?_ ?_
      | with_reducible assumption
      | (refine Fr.of_snd (by assumption) ?_)
      | (refine Fr.of_fst (by assumption) ?_)
      | split
      | (unfold v; split)
      | (unfold v; clear_value *; split)
      | (clear_value *; split)

theorem State.axisFault_fr {κ : Nat} {s0 s : State} {x : Axis} {code : ℕ} {unit : ℕ} {detail : ℕ} (hf_ : Fr κ s0 s) (hk_ : 0xc2c01000008004bc1c0004400000000020400000000000000000000000000240002207f420 &&& κ = 0xc2c01000008004bc1c0004400000000020400000000000000000000000000240002207f420 := by decide) :
    Fr κ s0 (State.axisFault s x code unit detail) := by
  refine Fr.lift hf_ hk_ ?_
  clear hf_ hk_
  unfold State.axisFault
  have h0 := Fr.refl 0xc2c01000008004bc1c0004400000000020400000000000000000000000000240002207f420 s
  repeat' first
      | ((try lift_lets); intro v; refine_lift have hv : Fr 0xc2c01000008004bc1c0004400000000020400000000000000000000000000240002207f420 s v := ?_; ?_; clear_value v)
      | ((try lift_lets); intro v)
      | with_reducible refine State.fault_fr ?_
      | with_reducible refine State.safeOther_fr ?_
      | with_reducible refine Fr.ite ?_ ?_
      | with_reducible refine Fr.cond ?_ ?_
      | with_reducible assumption
      | (refine Fr.of_snd (by assumption) ?_)
      | (refine Fr.of_fst (by assumption) ?_)
      | split
      | (unfold v; split)
      | (unfold v; clear_value *; split)
      | (clear_value *; split)

theorem State.axisFaultOn_fr {κ : Nat} {s0 s : State} {x : Axis} {code : ℕ} {unit : ℕ} {detail : ℕ} (hf_ : Fr κ s0 s) (hk_ : 0xc2c01000008004bc1c0004400000000020400000000000000000000000000240002207f420 &&& κ = 0xc2c01000008004bc1c0004400000000020400000000000000000000000000240002207f420 := by decide) :
    Fr κ s0 (State.axisFaultOn s x code unit detail) := by
  refine Fr.lift hf_ hk_ ?_
  clear hf_ hk_
  unfold State.axisFaultOn
  have h0 := Fr.refl 0xc2c01000008004bc1c0004400000000020400000000000000000000000000240002207f420 s
  repeat' first
      | ((try lift_lets); intro v; refine_lift have hv : Fr 0xc2c01000008004bc1c0004400000000020400000000000000000000000000240002207f420 s v := ?_; ?_; clear_value v)
      | ((try lift_lets); intro v)
      | with_reducible refine State.axisFault_fr ?_
      | with_reducible refine State.setCause_fr ?_
      | with_reducible refine Fr.ite ?_ ?_
      | with_reducible refine Fr.cond ?_ ?_
      | with_reducible assumption
      | (refine Fr.of_snd (by assumption) ?_)
      | (refine Fr.of_fst (by assumption) ?_)
      | split
      | (unfold v; split)
      | (unfold v; clear_value *; split)
      | (clear_value *; split)

theorem State.fatal_fr {κ : Nat} {s0 s : State} {code : ℕ} {unit : ℕ} {detail : ℕ} (hf_ : Fr κ s0 s) (hk_ : 0xc2c01000008004bc1c0004400000000020400000000000000000000000000240002207f420 &&& κ = 0xc2c01000008004bc1c0004400000000020400000000000000000000000000240002207f420 := by decide) :
    Fr κ s0 (State.fatal s code unit detail) := by
  refine Fr.lift hf_ hk_ ?_
  clear hf_ hk_
  unfold State.fatal
  have h0 := Fr.refl 0xc2c01000008004bc1c0004400000000020400000000000000000000000000240002207f420 s
  repeat' first
      | ((try lift_lets); intro v; refine_lift have hv : Fr 0xc2c01000008004bc1c0004400000000020400000000000000000000000000240002207f420 s v := ?_; ?_; clear_value v)
      | ((try lift_lets); intro v)
      | with_reducible refine State.fault_fr ?_
      | with_reducible refine State.safeOther_fr ?_
      | with_reducible refine Fr.ite ?_ ?_
      | with_reducible refine Fr.cond ?_ ?_
      | with_reducible assumption
      | (refine Fr.of_snd (by assumption) ?_)
      | (refine Fr.of_fst (by assumption) ?_)
      | split
      | (unfold v; split)
      | (unfold v; clear_value *; split)
      | (clear_value *; split)

theorem State.groupsReturn_fr {κ : Nat} {s0 s : State} {x : Axis} (hf_ : Fr κ s0 s) (hk_ : 0x8000000e00000101e000e00000000000000000000000000018410 &&& κ = 0x8000000e00000101e000e00000000000000000000000000018410 := by decide) :
    Fr κ s0 (State.groupsReturn s x) := by
  refine Fr.lift hf_ hk_ ?_
  clear hf_ hk_
  unfold State.groupsReturn
  have h0 := Fr.refl 0x8000000e00000101e000e00000000000000000000000000018410 s
  repeat' first
      | ((try lift_lets); intro v; refine_lift have hv : Fr 0x8000000e00000101e000e00000000000000000000000000018410 s v := ?_; ?_; clear_value v)
      | ((try lift_lets); intro v)
      | with_reducible refine State.deriveFor_fr ?_
      | with_reducible refine State.gateTargets_fr ?_
      | with_reducible refine State.modSv_fr ?_
      | with_reducible refine State.serviceShow_fr ?_
      | with_reducible refine Fr.ite ?_ ?_
      | with_reducible refine Fr.cond ?_ ?_
      | with_reducible assumption
      | with_reducible exact Fr.id_ (by with_reducible assumption)
      | (refine Fr.of_snd (by assumption) ?_)
      | (refine Fr.of_fst (by assumption) ?_)
      | split
      | (unfold v; split)
      | (unfold v; clear_value *; split)
      | (clear_value *; split)

theorem State.ownActivate_fr {κ : Nat} {s0 s : State} {x : Axis} (hf_ : Fr κ s0 s) (hk_ : 0x8000000e00000101e000e00008000000000000000000000018410 &&& κ = 0x8000000e00000101e000e00008000000000000000000000018410 := by decide) :
    Fr κ s0 (State.ownActivate s x) := by
  refine Fr.lift hf_ hk_ ?_
  clear hf_ hk_
  unfold State.ownActivate
  have h0 := Fr.refl 0x8000000e00000101e000e00008000000000000000000000018410 s
  repeat' first
      | ((try lift_lets); intro v; refine_lift have hv : Fr 0x8000000e00000101e000e00008000000000000000000000018410 s v := ?_; ?_; clear_value v)
      | ((try lift_lets); intro v)
      | with_reducible refine State.groupsReturn_fr ?_
      | with_reducible refine State.modSv_fr ?_
      | with_reducible refine State.wr_fr ?_
      | with_reducible refine Fr.ite ?_ ?_
      | with_reducible refine Fr.cond ?_ ?_
      | with_reducible assumption
      | with_reducible exact Fr.id_ (by with_reducible assumption)
      | (refine Fr.of_snd (by assumption) ?_)
      | (refine Fr.of_fst (by assumption) ?_)
      | split
      | (unfold v; split)
      | (unfold v; clear_value *; split)
      | (clear_value *; split)

theorem State.ownIdle_fr {κ : Nat} {s0 s : State} {x : Axis} (hf_ : Fr κ s0 s) (hk_ : 0x8000000e00000101e000e00008000000000000000000000018410 &&& κ = 0x8000000e00000101e000e00008000000000000000000000018410 := by decide) :
    Fr κ s0 (State.ownIdle s x) := by
  refine Fr.lift hf_ hk_ ?_
  clear hf_ hk_
  unfold State.ownIdle
  have h0 := Fr.refl 0x8000000e00000101e000e00008000000000000000000000018410 s
  repeat' first
      | ((try lift_lets); intro v; refine_lift have hv : Fr 0x8000000e00000101e000e00008000000000000000000000018410 s v := ?_; ?_; clear_value v)
      | ((try lift_lets); intro v)
      | with_reducible refine State.ownActivate_fr ?_
      | with_reducible refine Fr.ite ?_ ?_
      | with_reducible refine Fr.cond ?_ ?_
      | with_reducible assumption
      | with_reducible exact Fr.id_ (by with_reducible assumption)
      | (refine Fr.of_snd (by assumption) ?_)
      | (refine Fr.of_fst (by assumption) ?_)
      | split
      | (unfold v; split)
      | (unfold v; clear_value *; split)
      | (clear_value *; split)

theorem State.ownWrite_fr {κ : Nat} {s0 s : State} {x : Axis} {w : Word} (hf_ : Fr κ s0 s) (hk_ : 0x8000000e00000101e000e00008000000000000000000000018410 &&& κ = 0x8000000e00000101e000e00008000000000000000000000018410 := by decide) :
    Fr κ s0 (State.ownWrite s x w) := by
  refine Fr.lift hf_ hk_ ?_
  clear hf_ hk_
  unfold State.ownWrite
  have h0 := Fr.refl 0x8000000e00000101e000e00008000000000000000000000018410 s
  repeat' first
      | ((try lift_lets); intro v; refine_lift have hv : Fr 0x8000000e00000101e000e00008000000000000000000000018410 s v := ?_; ?_; clear_value v)
      | ((try lift_lets); intro v)
      | with_reducible refine State.modSv_fr ?_
      | with_reducible refine State.ownIdle_fr ?_
      | with_reducible refine State.wrSh_fr ?_
      | with_reducible refine Fr.ite ?_ ?_
      | with_reducible refine Fr.cond ?_ ?_
      | with_reducible assumption
      | with_reducible exact Fr.id_ (by with_reducible assumption)
      | (refine Fr.of_snd (by assumption) ?_)
      | (refine Fr.of_fst (by assumption) ?_)
      | split
      | (unfold v; split)
      | (unfold v; clear_value *; split)
      | (clear_value *; split)

@[simp] theorem lockoutFld_fam {x : Axis} : fam (lockoutFld x).reg = 201 := by cases x <;> rfl

theorem State.bandSteps_fr {κ : Nat} {s0 s : State} {x : Axis} {b : ℕ} (hf_ : Fr κ s0 s) (hk_ : 0x100000000000000000000000000000000000000000000000000000 &&& κ = 0x100000000000000000000000000000000000000000000000000000 := by decide) :
    Fr κ s0 (State.bandSteps s x b) := by
  refine Fr.lift hf_ hk_ ?_
  clear hf_ hk_
  unfold State.bandSteps
  have h0 := Fr.refl 0x100000000000000000000000000000000000000000000000000000 s
  repeat' first
      | ((try lift_lets); intro v; refine_lift have hv : Fr 0x100000000000000000000000000000000000000000000000000000 s v := ?_; ?_; clear_value v)
      | ((try lift_lets); intro v)
      | with_reducible refine State.set_fr ?_
      | with_reducible refine Fr.forEach ?_ (fun t a ht => ?_)
      | with_reducible refine Fr.ite ?_ ?_
      | with_reducible refine Fr.cond ?_ ?_
      | with_reducible assumption
      | (refine Fr.of_snd (by assumption) ?_)
      | (refine Fr.of_fst (by assumption) ?_)
      | split
      | (unfold v; split)
      | (unfold v; clear_value *; split)
      | (clear_value *; split)

theorem State.atLimits_fr {κ : Nat} {s0 s : State} {x : Axis} (hf_ : Fr κ s0 s) (hk_ : 0x40000000000000000000000000000000000000000000000000000 &&& κ = 0x40000000000000000000000000000000000000000000000000000 := by decide) :
    Fr κ s0 (State.atLimits s x) := by
  refine Fr.lift hf_ hk_ ?_
  clear hf_ hk_
  unfold State.atLimits
  have h0 := Fr.refl 0x40000000000000000000000000000000000000000000000000000 s
  repeat' first
      | ((try lift_lets); intro v; refine_lift have hv : Fr 0x40000000000000000000000000000000000000000000000000000 s v := ?_; ?_; clear_value v)
      | ((try lift_lets); intro v)
      | with_reducible refine State.set_fr ?_
      | with_reducible refine Fr.ite ?_ ?_
      | with_reducible refine Fr.cond ?_ ?_
      | with_reducible assumption
      | (refine Fr.of_snd (by assumption) ?_)
      | (refine Fr.of_fst (by assumption) ?_)
      | split
      | (unfold v; split)
      | (unfold v; clear_value *; split)
      | (clear_value *; split)

theorem State.cascadeShow_fr {κ : Nat} {s0 s : State} {x : Axis} (hf_ : Fr κ s0 s) (hk_ : 0x1000000000000000000000000000000000000000000000000000000000 &&& κ = 0x1000000000000000000000000000000000000000000000000000000000 := by decide) :
    Fr κ s0 (State.cascadeShow s x) := by
  refine Fr.lift hf_ hk_ ?_
  clear hf_ hk_
  unfold State.cascadeShow
  have h0 := Fr.refl 0x1000000000000000000000000000000000000000000000000000000000 s
  repeat' first
      | ((try lift_lets); intro v; refine_lift have hv : Fr 0x1000000000000000000000000000000000000000000000000000000000 s v := ?_; ?_; clear_value v)
      | ((try lift_lets); intro v)
      | with_reducible refine State.set_fr ?_
      | with_reducible refine Fr.ite ?_ ?_
      | with_reducible refine Fr.cond ?_ ?_
      | with_reducible assumption
      | with_reducible exact Fr.id_ (by with_reducible assumption)
      | (refine Fr.of_snd (by assumption) ?_)
      | (refine Fr.of_fst (by assumption) ?_)
      | split
      | (unfold v; split)
      | (unfold v; clear_value *; split)
      | (clear_value *; split)

theorem State.cascadeReturn_fr {κ : Nat} {s0 s : State} {x : Axis} (hf_ : Fr κ s0 s) (hk_ : 0x101000000000000000000000000000000000000000000000000000060000 &&& κ = 0x101000000000000000000000000000000000000000000000000000060000 := by decide) :
    Fr κ s0 (State.cascadeReturn s x) := by
  refine Fr.lift hf_ hk_ ?_
  clear hf_ hk_
  unfold State.cascadeReturn
  have h0 := Fr.refl 0x101000000000000000000000000000000000000000000000000000060000 s
  repeat' first
      | ((try lift_lets); intro v; refine_lift have hv : Fr 0x101000000000000000000000000000000000000000000000000000060000 s v := ?_; ?_; clear_value v)
      | ((try lift_lets); intro v)
      | with_reducible refine State.cascadeShow_fr ?_
      | with_reducible refine State.modTr_fr ?_
      | with_reducible refine State.set_fr ?_
      | with_reducible refine State.setCause_fr ?_
      | with_reducible refine Fr.ite ?_ ?_
      | with_reducible refine Fr.cond ?_ ?_
      | with_reducible assumption
      | (refine Fr.of_snd (by assumption) ?_)
      | (refine Fr.of_fst (by assumption) ?_)
      | split
      | (unfold v; split)
      | (unfold v; clear_value *; split)
      | (clear_value *; split)

theorem State.enterArmed_fr {κ : Nat} {s0 s : State} {x : Axis} (hf_ : Fr κ s0 s) (hk_ : 0x1018001c0000000000001000000000000000000000000000000000078410 &&& κ = 0x1018001c0000000000001000000000000000000000000000000000078410 := by decide) :
    Fr κ s0 (State.enterArmed s x) := by
  refine Fr.lift hf_ hk_ ?_
  clear hf_ hk_
  unfold State.enterArmed
  have h0 := Fr.refl 0x1018001c0000000000001000000000000000000000000000000000078410 s
  repeat' first
      | ((try lift_lets); intro v; refine_lift have hv : Fr 0x1018001c0000000000001000000000000000000000000000000000078410 s v := ?_; ?_; clear_value v)
      | ((try lift_lets); intro v)
      | with_reducible refine State.extStart_fr ?_
      | with_reducible refine State.atLimits_fr ?_
      | with_reducible refine State.bandSteps_fr ?_
      | with_reducible refine State.cascadeReturn_fr ?_
      | with_reducible refine State.command_fr ?_
      | with_reducible refine State.derive_fr ?_
      | with_reducible refine State.modTr_fr ?_
      | with_reducible refine State.set_fr ?_
      | with_reducible refine Fr.ite ?_ ?_
      | with_reducible refine Fr.cond ?_ ?_
      | with_reducible assumption
      | (refine Fr.of_snd (by assumption) ?_)
      | (refine Fr.of_fst (by assumption) ?_)
      | split
      | (unfold v; split)
      | (unfold v; clear_value *; split)
      | (clear_value *; split)

theorem State.promStart_fr {κ : Nat} {s0 s : State} {x : Axis} (hf_ : Fr κ s0 s) (hk_ : 0x1c00000000000000000000000000000000000000000000 &&& κ = 0x1c00000000000000000000000000000000000000000000 := by decide) :
    Fr κ s0 (State.promStart s x) := by
  refine Fr.lift hf_ hk_ ?_
  clear hf_ hk_
  unfold State.promStart
  have h0 := Fr.refl 0x1c00000000000000000000000000000000000000000000 s
  repeat' first
      | ((try lift_lets); intro v; refine_lift have hv : Fr 0x1c00000000000000000000000000000000000000000000 s v := ?_; ?_; clear_value v)
      | ((try lift_lets); intro v)
      | with_reducible refine State.set_fr ?_
      | with_reducible refine State.setW_fr ?_
      | with_reducible refine Fr.ite ?_ ?_
      | with_reducible refine Fr.cond ?_ ?_
      | with_reducible assumption
      | (refine Fr.of_snd (by assumption) ?_)
      | (refine Fr.of_fst (by assumption) ?_)
      | split
      | (unfold v; split)
      | (unfold v; clear_value *; split)
      | (clear_value *; split)

theorem State.leaveSafe_fr {κ : Nat} {s0 s : State} {x : Axis} (hf_ : Fr κ s0 s) (hk_ : 0x2c01000000000800400004000000000000000000000000000000000000002400002078400 &&& κ = 0x2c01000000000800400004000000000000000000000000000000000000002400002078400 := by decide) :
    Fr κ s0 (State.leaveSafe s x) := by
  refine Fr.lift hf_ hk_ ?_
  clear hf_ hk_
  unfold State.leaveSafe
  have h0 := Fr.refl 0x2c01000000000800400004000000000000000000000000000000000000002400002078400 s
  repeat' first
      | ((try lift_lets); intro v; refine_lift have hv : Fr 0x2c01000000000800400004000000000000000000000000000000000000002400002078400 s v := ?_; ?_; clear_value v)
      | ((try lift_lets); intro v)
      | with_reducible refine State.evx_fr ?_
      | with_reducible refine State.modTr_fr ?_
      | with_reducible refine State.set_fr ?_
      | with_reducible refine Fr.ite ?_ ?_
      | with_reducible refine Fr.cond ?_ ?_
      | with_reducible assumption
      | (refine Fr.of_snd (by assumption) ?_)
      | (refine Fr.of_fst (by assumption) ?_)
      | split
      | (unfold v; split)
      | (unfold v; clear_value *; split)
      | (clear_value *; split)

theorem State.limitJudge_fr {κ : Nat} {s0 s : State} {x : Axis} (hf_ : Fr κ s0 s) (hk_ : 0x2c01000000000800000004000000000000000000000200000000000000002400002018400 &&& κ = 0x2c01000000000800000004000000000000000000000200000000000000002400002018400 := by decide) :
    Fr κ s0 (State.limitJudge s x) := by
  refine Fr.lift hf_ hk_ ?_
  clear hf_ hk_
  unfold State.limitJudge
  have h0 := Fr.refl 0x2c01000000000800000004000000000000000000000200000000000000002400002018400 s
  repeat' first
      | ((try lift_lets); intro v; refine_lift have hv : Fr 0x2c01000000000800000004000000000000000000000200000000000000002400002018400 s v := ?_; ?_; clear_value v)
      | ((try lift_lets); intro v)
      | with_reducible refine State.evx_fr ?_
      | with_reducible refine State.set_fr ?_
      | with_reducible refine State.setBit_fr ?_
      | with_reducible refine Fr.ite ?_ ?_
      | with_reducible refine Fr.cond ?_ ?_
      | with_reducible assumption
      | with_reducible exact Fr.id_ (by with_reducible assumption)
      | (refine Fr.of_snd (by assumption) ?_)
      | (refine Fr.of_fst (by assumption) ?_)
      | split
      | (unfold v; split)
      | (unfold v; clear_value *; split)
      | (clear_value *; split)

theorem State.idAbort_fr {κ : Nat} {s0 s : State} {x : Axis} (hf_ : Fr κ s0 s) (hk_ : 0x40000000000000000000000000000018000 &&& κ = 0x40000000000000000000000000000018000 := by decide) :
    Fr κ s0 (State.idAbort s x) := by
  refine Fr.lift hf_ hk_ ?_
  clear hf_ hk_
  unfold State.idAbort
  have h0 := Fr.refl 0x40000000000000000000000000000018000 s
  repeat' first
      | ((try lift_lets); intro v; refine_lift have hv : Fr 0x40000000000000000000000000000018000 s v := ?_; ?_; clear_value v)
      | ((try lift_lets); intro v)
      | with_reducible refine State.modSv_fr ?_
      | with_reducible refine State.set_fr ?_
      | with_reducible refine Fr.ite ?_ ?_
      | with_reducible refine Fr.cond ?_ ?_
      | with_reducible assumption
      | with_reducible exact Fr.id_ (by with_reducible assumption)
      | (refine Fr.of_snd (by assumption) ?_)
      | (refine Fr.of_fst (by assumption) ?_)
      | split
      | (unfold v; split)
      | (unfold v; clear_value *; split)
      | (clear_value *; split)

theorem State.holdEnd_fr {κ : Nat} {s0 s : State} {x : Axis} (hf_ : Fr κ s0 s) (hk_ : 0x18020 &&& κ = 0x18020 := by decide) :
    Fr κ s0 (State.holdEnd s x) := by
  refine Fr.lift hf_ hk_ ?_
  clear hf_ hk_
  unfold State.holdEnd
  have h0 := Fr.refl 0x18020 s
  repeat' first
      | ((try lift_lets); intro v; refine_lift have hv : Fr 0x18020 s v := ?_; ?_; clear_value v)
      | ((try lift_lets); intro v)
      | with_reducible refine State.putWords_fr ?_
      | with_reducible refine Fr.forEach ?_ (fun t a ht => ?_)
      | with_reducible refine State.modSv_fr ?_
      | with_reducible refine State.st32_fr ?_
      | with_reducible refine Fr.ite ?_ ?_
      | with_reducible refine Fr.cond ?_ ?_
      | with_reducible assumption
      | with_reducible exact Fr.id_ (by with_reducible assumption)
      | (refine Fr.of_snd (by assumption) ?_)
      | (refine Fr.of_fst (by assumption) ?_)
      | split
      | (unfold v; split)
      | (unfold v; clear_value *; split)
      | (clear_value *; split)

theorem State.serviceLeave_fr {κ : Nat} {s0 s : State} {x : Axis} {st : ℕ} (hf_ : Fr κ s0 s) (hk_ : 0x41000000000000000000000000000018020 &&& κ = 0x41000000000000000000000000000018020 := by decide) :
    Fr κ s0 (State.serviceLeave s x st) := by
  refine Fr.lift hf_ hk_ ?_
  clear hf_ hk_
  unfold State.serviceLeave
  have h0 := Fr.refl 0x41000000000000000000000000000018020 s
  repeat' first
      | ((try lift_lets); intro v; refine_lift have hv : Fr 0x41000000000000000000000000000018020 s v := ?_; ?_; clear_value v)
      | ((try lift_lets); intro v)
      | with_reducible refine State.holdEnd_fr ?_
      | with_reducible refine State.idAbort_fr ?_
      | with_reducible refine State.modSv_fr ?_
      | with_reducible refine State.set_fr ?_
      | with_reducible refine Fr.ite ?_ ?_
      | with_reducible refine Fr.cond ?_ ?_
      | with_reducible assumption
      | (refine Fr.of_snd (by assumption) ?_)
      | (refine Fr.of_fst (by assumption) ?_)
      | split
      | (unfold v; split)
      | (unfold v; clear_value *; split)
      | (clear_value *; split)

theorem State.goto_fr {κ : Nat} {s0 s : State} {x : Axis} {st : ℕ} (hf_ : Fr κ s0 s) (hk_ : 0x2c01000000000921c001c400000fc0020500004101021000000000000000240000207e430 &&& κ = 0x2c01000000000921c001c400000fc0020500004101021000000000000000240000207e430 := by decide) :
    Fr κ s0 (State.goto s x st) := by
  refine Fr.lift hf_ hk_ ?_
  clear hf_ hk_
  unfold State.goto
  have h0 := Fr.refl 0x2c01000000000921c001c400000fc0020500004101021000000000000000240000207e430 s
  repeat' first
      | ((try lift_lets); intro v; refine_lift have hv : Fr 0x2c01000000000921c001c400000fc0020500004101021000000000000000240000207e430 s v := ?_; ?_; clear_value v)
      | ((try lift_lets); intro v)
      | with_reducible refine State.modTr_fr ?_
      | with_reducible refine State.limitJudge_fr ?_
      | with_reducible refine State.profShow_fr ?_
      | with_reducible refine State.command_fr ?_
      | with_reducible refine State.compsZero_fr ?_
      | with_reducible refine State.enterArmed_fr ?_
      | with_reducible refine State.evx_fr ?_
      | with_reducible refine State.inc_fr ?_
      | with_reducible refine State.leaveSafe_fr ?_
      | with_reducible refine State.modAx_fr ?_
      | with_reducible refine State.promStart_fr ?_
      | with_reducible refine State.serviceLeave_fr ?_
      | with_reducible refine State.set_fr ?_
      | with_reducible refine Fr.ite ?_ ?_
      | with_reducible refine Fr.cond ?_ ?_
      | with_reducible assumption
      | (refine Fr.of_snd (by assumption) ?_)
      | (refine Fr.of_fst (by assumption) ?_)
      | split
      | (unfold v; split)
      | (unfold v; clear_value *; split)
      | (clear_value *; split)

theorem State.againOff_fr {κ : Nat} {s0 s : State} {x : Axis} (hf_ : Fr κ s0 s) (hk_ : 0x2c01000000000921c001c400000fc0020500004101021000000000000000240000207e430 &&& κ = 0x2c01000000000921c001c400000fc0020500004101021000000000000000240000207e430 := by decide) :
    Fr κ s0 (State.againOff s x) := by
  refine Fr.lift hf_ hk_ ?_
  clear hf_ hk_
  unfold State.againOff
  have h0 := Fr.refl 0x2c01000000000921c001c400000fc0020500004101021000000000000000240000207e430 s
  repeat' first
      | ((try lift_lets); intro v; refine_lift have hv : Fr 0x2c01000000000921c001c400000fc0020500004101021000000000000000240000207e430 s v := ?_; ?_; clear_value v)
      | ((try lift_lets); intro v)
      | with_reducible refine State.goto_fr ?_
      | with_reducible refine Fr.ite ?_ ?_
      | with_reducible refine Fr.cond ?_ ?_
      | with_reducible assumption
      | with_reducible exact Fr.id_ (by with_reducible assumption)
      | (refine Fr.of_snd (by assumption) ?_)
      | (refine Fr.of_fst (by assumption) ?_)
      | split
      | (unfold v; split)
      | (unfold v; clear_value *; split)
      | (clear_value *; split)

theorem State.resolve_fr {κ : Nat} {s0 s : State} {x : Axis} {c : Cmd} {result : ℕ} (hf_ : Fr κ s0 s) (hk_ : 0x2c01000000000800000004000000000000000000000010000000800000002400002018400 &&& κ = 0x2c01000000000800000004000000000000000000000010000000800000002400002018400 := by decide) :
    Fr κ s0 (State.resolve s x c result) := by
  refine Fr.lift hf_ hk_ ?_
  clear hf_ hk_
  unfold State.resolve
  have h0 := Fr.refl 0x2c01000000000800000004000000000000000000000010000000800000002400002018400 s
  repeat' first
      | ((try lift_lets); intro v; refine_lift have hv : Fr 0x2c01000000000800000004000000000000000000000010000000800000002400002018400 s v := ?_; ?_; clear_value v)
      | ((try lift_lets); intro v)
      | with_reducible refine State.event_fr ?_
      | with_reducible refine State.evx_fr ?_
      | with_reducible refine State.set_fr ?_
      | with_reducible refine Fr.ite ?_ ?_
      | with_reducible refine Fr.cond ?_ ?_
      | with_reducible assumption
      | (refine Fr.of_snd (by assumption) ?_)
      | (refine Fr.of_fst (by assumption) ?_)
      | split
      | (unfold v; split)
      | (unfold v; clear_value *; split)
      | (clear_value *; split)

theorem State.cmdRefuse_fr {κ : Nat} {s0 s : State} {x : Axis} {result : Nat} (hf_ : Fr κ s0 s) (hk_ : 0x2c0100000000080000000400000000000000000000001000000080000000240000201e400 &&& κ = 0x2c0100000000080000000400000000000000000000001000000080000000240000201e400 := by decide) :
    Fr κ s0 (State.cmdRefuse s x result) := by
  refine Fr.lift hf_ hk_ ?_
  clear hf_ hk_
  unfold State.cmdRefuse
  have h0 := Fr.refl 0x2c0100000000080000000400000000000000000000001000000080000000240000201e400 s
  repeat' first
      | ((try lift_lets); intro v; refine_lift have hv : Fr 0x2c0100000000080000000400000000000000000000001000000080000000240000201e400 s v := ?_; ?_; clear_value v)
      | ((try lift_lets); intro v)
      | with_reducible refine State.modAx_fr ?_
      | with_reducible refine State.resolve_fr ?_
      | with_reducible refine Fr.ite ?_ ?_
      | with_reducible refine Fr.cond ?_ ?_
      | with_reducible assumption
      | with_reducible exact Fr.id_ (by with_reducible assumption)
      | (refine Fr.of_snd (by assumption) ?_)
      | (refine Fr.of_fst (by assumption) ?_)
      | split
      | (unfold v; split)
      | (unfold v; clear_value *; split)
      | (clear_value *; split)

end Sys2Proof.Machine
end

