-- ==== Sys2Proof/Laws/FrameGateDrive.lean ====
section
/-! SUPPORT. Frames of the operations of Machine/GateDrive.lean: one lemma each (Laws/Frame.lean). -/

namespace Sys2Proof.Machine

set_option Elab.async false

theorem State.linkGood_fr {κ : Nat} {s0 s : State} {x : Axis} {m : ℕ} {dtLH : ℕ} {dtHL : ℕ} {vbus : ℕ} {adapt : ℕ} {band : ℕ} {above : Bool} (hf_ : Fr κ s0 s) (hk_ : 0x101c00040000000000000000000000000000000000000000000000060000 &&& κ = 0x101c00040000000000000000000000000000000000000000000000060000 := by decide) :
    Fr κ s0 (State.linkGood s x m dtLH dtHL vbus adapt band above) := by
  refine Fr.lift hf_ hk_ ?_
  clear hf_ hk_
  unfold State.linkGood
  have h0 := Fr.refl 0x101c00040000000000000000000000000000000000000000000000060000 s
  repeat' first
      | ((try lift_lets); intro v; refine_lift have hv : Fr 0x101c00040000000000000000000000000000000000000000000000060000 s v := ?_; ?_; clear_value v)
      | ((try lift_lets); intro v)
      | with_reducible refine State.pinCommand_fr ?_
      | with_reducible refine State.linkCommand_fr ?_
      | with_reducible refine State.command_fr ?_
      | with_reducible refine State.modTr_fr ?_
      | with_reducible refine State.set_fr ?_
      | with_reducible refine State.setB_fr ?_
      | with_reducible refine State.setCause_fr ?_
      | with_reducible refine Fr.ite ?_ ?_
      | with_reducible refine Fr.cond ?_ ?_
      | with_reducible assumption
      | (refine Fr.of_snd (by assumption) ?_)
      | (refine Fr.of_fst (by assumption) ?_)
      | split
      | (unfold v; split)
      | (unfold v; clear_value *; split)
      | (clear_value *; split)

theorem State.linkBad_fr {κ : Nat} {s0 s : State} {x : Axis} (hf_ : Fr κ s0 s) (hk_ : 0xc2c01000008004ac181004400000000000000000000000000000000000000240002207f400 &&& κ = 0xc2c01000008004ac181004400000000000000000000000000000000000000240002207f400 := by decide) :
    Fr κ s0 (State.linkBad s x) := by
  refine Fr.lift hf_ hk_ ?_
  clear hf_ hk_
  unfold State.linkBad
  have h0 := Fr.refl 0xc2c01000008004ac181004400000000000000000000000000000000000000240002207f400 s
  repeat' first
      | ((try lift_lets); intro v; refine_lift have hv : Fr 0xc2c01000008004ac181004400000000000000000000000000000000000000240002207f400 s v := ?_; ?_; clear_value v)
      | ((try lift_lets); intro v)
      | with_reducible refine Fr.forEach ?_ (fun t a ht => ?_)
      | with_reducible refine State.gateOff_fr ?_
      | with_reducible refine State.settle_fr ?_
      | with_reducible refine State.command_fr ?_
      | with_reducible refine State.fault_fr ?_
      | with_reducible refine State.inc_fr ?_
      | with_reducible refine State.modTr_fr ?_
      | with_reducible refine State.set_fr ?_
      | with_reducible refine Fr.ite ?_ ?_
      | with_reducible refine Fr.cond ?_ ?_
      | with_reducible assumption
      | (refine Fr.of_snd (by assumption) ?_)
      | (refine Fr.of_fst (by assumption) ?_)
      | split
      | (unfold v; split)
      | (unfold v; clear_value *; split)
      | (clear_value *; split)

theorem State.frame_fr {κ : Nat} {s0 s : State} {x : Axis} (hf_ : Fr κ s0 s) (hk_ : 0x101c00040000000000000000000000000000000000000000000000060000 &&& κ = 0x101c00040000000000000000000000000000000000000000000000060000 := by decide) :
    Fr κ s0 (State.frame s x) := by
  refine Fr.lift hf_ hk_ ?_
  clear hf_ hk_
  unfold State.frame
  have h0 := Fr.refl 0x101c00040000000000000000000000000000000000000000000000060000 s
  repeat' first
      | ((try lift_lets); intro v; refine_lift have hv : Fr 0x101c00040000000000000000000000000000000000000000000000060000 s v := ?_; ?_; clear_value v)
      | ((try lift_lets); intro v)
      | with_reducible refine State.linkGood_fr ?_
      | with_reducible refine Fr.ite ?_ ?_
      | with_reducible refine Fr.cond ?_ ?_
      | with_reducible assumption
      | (refine Fr.of_snd (by assumption) ?_)
      | (refine Fr.of_fst (by assumption) ?_)
      | split
      | (unfold v; split)
      | (unfold v; clear_value *; split)
      | (clear_value *; split)

theorem execLinkFrame_fr {s t_ : State} {x : Axis} {good : Bool} (e_ : execLinkFrame x good s = .next t_) : Fr 0xc2c01000008004bc1c1004400000000000000000000000000000000000000240002207f400 s t_ := by
  unfold execLinkFrame at e_
  obtain rfl := Host.Outcome.next.inj e_
  clear e_
  have h0 := Fr.refl 0xc2c01000008004bc1c1004400000000000000000000000000000000000000240002207f400 s
  repeat' first
      | ((try lift_lets); intro v; refine_lift have hv : Fr 0xc2c01000008004bc1c1004400000000000000000000000000000000000000240002207f400 s v := ?_; ?_; clear_value v)
      | ((try lift_lets); intro v)
      | with_reducible refine State.frame_fr ?_
      | with_reducible refine State.linkBad_fr ?_
      | with_reducible refine Fr.ite ?_ ?_
      | with_reducible refine Fr.cond ?_ ?_
      | with_reducible assumption
      | (refine Fr.of_snd (by assumption) ?_)
      | (refine Fr.of_fst (by assumption) ?_)
      | split
      | (unfold v; split)
      | (unfold v; clear_value *; split)
      | (clear_value *; split)

theorem execIdleFrame_fr {s t_ : State} {x : Axis} {ns : ℕ} (e_ : execIdleFrame x ns s = .next t_) : Fr 0x101c00040000000000000000000000000000000000000000000000060000 s t_ := by
  unfold execIdleFrame at e_
  obtain rfl := Host.Outcome.next.inj e_
  clear e_
  have h0 := Fr.refl 0x101c00040000000000000000000000000000000000000000000000060000 s
  repeat' first
      | ((try lift_lets); intro v; refine_lift have hv : Fr 0x101c00040000000000000000000000000000000000000000000000060000 s v := ?_; ?_; clear_value v)
      | ((try lift_lets); intro v)
      | with_reducible refine State.frame_fr ?_
      | with_reducible refine Fr.ite ?_ ?_
      | with_reducible refine Fr.cond ?_ ?_
      | with_reducible assumption
      | (refine Fr.of_snd (by assumption) ?_)
      | (refine Fr.of_fst (by assumption) ?_)
      | split
      | (unfold v; split)
      | (unfold v; clear_value *; split)
      | (clear_value *; split)

theorem State.ascAgain_fr {κ : Nat} {s0 s : State} {x : Axis} (hf_ : Fr κ s0 s) (hk_ : 0x1800000000000000000000000000000000000000000000000000060000 &&& κ = 0x1800000000000000000000000000000000000000000000000000060000 := by decide) :
    Fr κ s0 (State.ascAgain s x) := by
  refine Fr.lift hf_ hk_ ?_
  clear hf_ hk_
  unfold State.ascAgain
  have h0 := Fr.refl 0x1800000000000000000000000000000000000000000000000000060000 s
  repeat' first
      | ((try lift_lets); intro v; refine_lift have hv : Fr 0x1800000000000000000000000000000000000000000000000000060000 s v := ?_; ?_; clear_value v)
      | ((try lift_lets); intro v)
      | with_reducible refine State.command_fr ?_
      | with_reducible refine Fr.ite ?_ ?_
      | with_reducible refine Fr.cond ?_ ?_
      | with_reducible assumption
      | with_reducible exact Fr.id_ (by with_reducible assumption)
      | (refine Fr.of_snd (by assumption) ?_)
      | (refine Fr.of_fst (by assumption) ?_)
      | split
      | (unfold v; split)
      | (unfold v; clear_value *; split)
      | (clear_value *; split)

theorem execDieLinkLost_fr {s t_ : State} {x : Axis} {ns : ℕ} (e_ : execDieLinkLost x ns s = .next t_) : Fr 0xc2c01000008004bc1c0004400000000020400000000000000000000000000240002207f420 s t_ := by
  unfold execDieLinkLost at e_
  obtain rfl := Host.Outcome.next.inj e_
  clear e_
  have h0 := Fr.refl 0xc2c01000008004bc1c0004400000000020400000000000000000000000000240002207f420 s
  repeat' first
      | ((try lift_lets); intro v; refine_lift have hv : Fr 0xc2c01000008004bc1c0004400000000020400000000000000000000000000240002207f420 s v := ?_; ?_; clear_value v)
      | ((try lift_lets); intro v)
      | with_reducible refine State.ascAgain_fr ?_
      | with_reducible refine State.chooseSafe_fr ?_
      | with_reducible refine State.faultOn_fr ?_
      | with_reducible refine State.set_fr ?_
      | with_reducible refine Fr.ite ?_ ?_
      | with_reducible refine Fr.cond ?_ ?_
      | with_reducible assumption
      | (refine Fr.of_snd (by assumption) ?_)
      | (refine Fr.of_fst (by assumption) ?_)
      | split
      | (unfold v; split)
      | (unfold v; clear_value *; split)
      | (clear_value *; split)

@[simp] theorem stepFld_fam {x : Axis} {p : Nat} {b : Bool} : fam (stepFld x p b).reg = 180 := by unfold stepFld; split <;> simp

theorem State.moveStep_fr {κ : Nat} {s0 s : State} {x : Axis} {sw : ℕ} {on : Bool} {d : ℤ} (hf_ : Fr κ s0 s) (hk_ : 0x100000000000000000000000000000000000000000000000000000 &&& κ = 0x100000000000000000000000000000000000000000000000000000 := by decide) :
    Fr κ s0 (State.moveStep s x sw on d) := by
  refine Fr.lift hf_ hk_ ?_
  clear hf_ hk_
  unfold State.moveStep
  have h0 := Fr.refl 0x100000000000000000000000000000000000000000000000000000 s
  repeat' first
      | ((try lift_lets); intro v; refine_lift have hv : Fr 0x100000000000000000000000000000000000000000000000000000 s v := ?_; ?_; clear_value v)
      | ((try lift_lets); intro v)
      | with_reducible refine State.setI_fr ?_
      | with_reducible refine Fr.ite ?_ ?_
      | with_reducible refine Fr.cond ?_ ?_
      | with_reducible assumption
      | (refine Fr.of_snd (by assumption) ?_)
      | (refine Fr.of_fst (by assumption) ?_)
      | split
      | (unfold v; split)
      | (unfold v; clear_value *; split)
      | (clear_value *; split)

theorem State.bandShift_fr {κ : Nat} {s0 s : State} {x : Axis} (hf_ : Fr κ s0 s) (hk_ : 0x140000000000000000000000000000000000000000000000060000 &&& κ = 0x140000000000000000000000000000000000000000000000060000 := by decide) :
    Fr κ s0 (State.bandShift s x) := by
  refine Fr.lift hf_ hk_ ?_
  clear hf_ hk_
  unfold State.bandShift
  have h0 := Fr.refl 0x140000000000000000000000000000000000000000000000060000 s
  repeat' first
      | ((try lift_lets); intro v; refine_lift have hv : Fr 0x140000000000000000000000000000000000000000000000060000 s v := ?_; ?_; clear_value v)
      | ((try lift_lets); intro v)
      | with_reducible refine State.atLimits_fr ?_
      | with_reducible refine State.modTr_fr ?_
      | with_reducible refine State.moveStep_fr ?_
      | with_reducible refine Fr.forEach ?_ (fun t a ht => ?_)
      | with_reducible refine Fr.ite ?_ ?_
      | with_reducible refine Fr.cond ?_ ?_
      | with_reducible assumption
      | (refine Fr.of_snd (by assumption) ?_)
      | (refine Fr.of_fst (by assumption) ?_)
      | split
      | (unfold v; split)
      | (unfold v; clear_value *; split)
      | (clear_value *; split)

theorem State.strWrite_fr {κ : Nat} {s0 s : State} {by_ : Writer} {x : Axis} {p : ℕ} {w : Word} (hf_ : Fr κ s0 s) (hk_ : 0x140000000000000000000000000000000000000000000040060000 &&& κ = 0x140000000000000000000000000000000000000000000040060000 := by decide) :
    Fr κ s0 (State.strWrite s by_ x p w) := by
  refine Fr.lift hf_ hk_ ?_
  clear hf_ hk_
  unfold State.strWrite
  have h0 := Fr.refl 0x140000000000000000000000000000000000000000000040060000 s
  repeat' first
      | ((try lift_lets); intro v; refine_lift have hv : Fr 0x140000000000000000000000000000000000000000000040060000 s v := ?_; ?_; clear_value v)
      | ((try lift_lets); intro v)
      | with_reducible refine State.modTr_fr ?_
      | with_reducible refine State.set_fr ?_
      | with_reducible refine State.atLimits_fr ?_
      | with_reducible refine State.expert_fr ?_ (fun t ht => ?_)
      | with_reducible refine State.setIf_fr ?_
      | with_reducible refine Fr.forEach ?_ (fun t a ht => ?_)
      | with_reducible refine Fr.ite ?_ ?_
      | with_reducible refine Fr.cond ?_ ?_
      | with_reducible assumption
      | (refine Fr.of_snd (by assumption) ?_)
      | (refine Fr.of_fst (by assumption) ?_)
      | split
      | (unfold v; split)
      | (unfold v; clear_value *; split)
      | (clear_value *; split)

theorem execStrengthWrite_fr {s t_ : State} {x : Axis} {p : ℕ} {w : Word} (e_ : execStrengthWrite x p w s = .next t_) : Fr 0x140000000000000000000000000000000000000000000040060000 s t_ := by
  unfold execStrengthWrite at e_
  obtain rfl := Host.Outcome.next.inj e_
  clear e_
  have h0 := Fr.refl 0x140000000000000000000000000000000000000000000040060000 s
  repeat' first
      | ((try lift_lets); intro v; refine_lift have hv : Fr 0x140000000000000000000000000000000000000000000040060000 s v := ?_; ?_; clear_value v)
      | ((try lift_lets); intro v)
      | with_reducible refine State.strWrite_fr ?_
      | with_reducible refine Fr.running ?_ (fun t ht => ?_)
      | with_reducible refine Fr.ite ?_ ?_
      | with_reducible refine Fr.cond ?_ ?_
      | with_reducible assumption
      | (refine Fr.of_snd (by assumption) ?_)
      | (refine Fr.of_fst (by assumption) ?_)
      | split
      | (unfold v; split)
      | (unfold v; clear_value *; split)
      | (clear_value *; split)

theorem State.strLimWrite_fr {κ : Nat} {s0 s : State} {by_ : Writer} {x : Axis} {w : Word} (hf_ : Fr κ s0 s) (hk_ : 0x540000000000000000000000000000000000000000000040000000 &&& κ = 0x540000000000000000000000000000000000000000000040000000 := by decide) :
    Fr κ s0 (State.strLimWrite s by_ x w) := by
  refine Fr.lift hf_ hk_ ?_
  clear hf_ hk_
  unfold State.strLimWrite
  have h0 := Fr.refl 0x540000000000000000000000000000000000000000000040000000 s
  repeat' first
      | ((try lift_lets); intro v; refine_lift have hv : Fr 0x540000000000000000000000000000000000000000000040000000 s v := ?_; ?_; clear_value v)
      | ((try lift_lets); intro v)
      | with_reducible refine State.atLimits_fr ?_
      | with_reducible refine State.expert_fr ?_ (fun t ht => ?_)
      | with_reducible refine State.moveStep_fr ?_
      | with_reducible refine State.set_fr ?_
      | with_reducible refine Fr.forEachFld ?_ (fun t f hf ht => ?_)
      | with_reducible refine Fr.forEach ?_ (fun t a ht => ?_)
      | with_reducible refine Fr.ite ?_ ?_
      | with_reducible refine Fr.cond ?_ ?_
      | with_reducible assumption
      | (refine Fr.of_snd (by assumption) ?_)
      | (refine Fr.of_fst (by assumption) ?_)
      | split
      | (unfold v; split)
      | (unfold v; clear_value *; split)
      | (clear_value *; split)

theorem execStrLimWrite_fr {s t_ : State} {x : Axis} {w : Word} (e_ : execStrLimWrite x w s = .next t_) : Fr 0x540000000000000000000000000000000000000000000040000000 s t_ := by
  unfold execStrLimWrite at e_
  obtain rfl := Host.Outcome.next.inj e_
  clear e_
  have h0 := Fr.refl 0x540000000000000000000000000000000000000000000040000000 s
  repeat' first
      | ((try lift_lets); intro v; refine_lift have hv : Fr 0x540000000000000000000000000000000000000000000040000000 s v := ?_; ?_; clear_value v)
      | ((try lift_lets); intro v)
      | with_reducible refine State.strLimWrite_fr ?_
      | with_reducible refine Fr.running ?_ (fun t ht => ?_)
      | with_reducible refine Fr.ite ?_ ?_
      | with_reducible refine Fr.cond ?_ ?_
      | with_reducible assumption
      | (refine Fr.of_snd (by assumption) ?_)
      | (refine Fr.of_fst (by assumption) ?_)
      | split
      | (unfold v; split)
      | (unfold v; clear_value *; split)
      | (clear_value *; split)

theorem State.unreachSet_fr {κ : Nat} {s0 s : State} {x : Axis} {i : Nat} {b : Bool} (hf_ : Fr κ s0 s) (hk_ : 0x100000000000000000000000000000000000000000000000000000060000 &&& κ = 0x100000000000000000000000000000000000000000000000000000060000 := by decide) :
    Fr κ s0 (State.unreachSet s x i b) := by
  refine Fr.lift hf_ hk_ ?_
  clear hf_ hk_
  unfold State.unreachSet
  have h0 := Fr.refl 0x100000000000000000000000000000000000000000000000000000060000 s
  repeat' first
      | ((try lift_lets); intro v; refine_lift have hv : Fr 0x100000000000000000000000000000000000000000000000000000060000 s v := ?_; ?_; clear_value v)
      | ((try lift_lets); intro v)
      | with_reducible refine State.modTr_fr ?_
      | with_reducible refine State.setCause_fr ?_
      | with_reducible refine Fr.ite ?_ ?_
      | with_reducible refine Fr.cond ?_ ?_
      | with_reducible assumption
      | with_reducible exact Fr.id_ (by with_reducible assumption)
      | (refine Fr.of_snd (by assumption) ?_)
      | (refine Fr.of_fst (by assumption) ?_)
      | split
      | (unfold v; split)
      | (unfold v; clear_value *; split)
      | (clear_value *; split)

theorem State.reachEnd_fr {κ : Nat} {s0 s : State} {x : Axis} {sw : Nat} {on : Bool} {t : Nat} (hf_ : Fr κ s0 s) (hk_ : 0x100000000000000000000000000000000000000000000000000000060000 &&& κ = 0x100000000000000000000000000000000000000000000000000000060000 := by decide) :
    Fr κ s0 (State.reachEnd s x sw on t) := by
  refine Fr.lift hf_ hk_ ?_
  clear hf_ hk_
  unfold State.reachEnd
  have h0 := Fr.refl 0x100000000000000000000000000000000000000000000000000000060000 s
  repeat' first
      | ((try lift_lets); intro v; refine_lift have hv : Fr 0x100000000000000000000000000000000000000000000000000000060000 s v := ?_; ?_; clear_value v)
      | ((try lift_lets); intro v)
      | with_reducible refine State.unreachSet_fr ?_
      | with_reducible refine Fr.ite ?_ ?_
      | with_reducible refine Fr.cond ?_ ?_
      | with_reducible assumption
      | with_reducible exact Fr.id_ (by with_reducible assumption)
      | (refine Fr.of_snd (by assumption) ?_)
      | (refine Fr.of_fst (by assumption) ?_)
      | split
      | (unfold v; split)
      | (unfold v; clear_value *; split)
      | (clear_value *; split)

theorem State.reachCount_fr {κ : Nat} {s0 s : State} {x : Axis} {sw : ℕ} {on : Bool} {out : Bool} {hi : Bool} {atLim : Bool} (hf_ : Fr κ s0 s) (hk_ : 0xc2c01000008004bc000004400000000000000000000000000000000000000240002207f400 &&& κ = 0xc2c01000008004bc000004400000000000000000000000000000000000000240002207f400 := by decide) :
    Fr κ s0 (State.reachCount s x sw on out hi atLim) := by
  refine Fr.lift hf_ hk_ ?_
  clear hf_ hk_
  unfold State.reachCount
  have h0 := Fr.refl 0xc2c01000008004bc000004400000000000000000000000000000000000000240002207f400 s
  repeat' first
      | ((try lift_lets); intro v; refine_lift have hv : Fr 0xc2c01000008004bc000004400000000000000000000000000000000000000240002207f400 s v := ?_; ?_; clear_value v)
      | ((try lift_lets); intro v)
      | with_reducible refine State.unreachSet_fr ?_
      | with_reducible refine State.fault_fr ?_
      | with_reducible refine State.modTr_fr ?_
      | with_reducible refine State.setBit_fr ?_
      | with_reducible refine State.setCause_fr ?_
      | with_reducible refine Fr.ite ?_ ?_
      | with_reducible refine Fr.cond ?_ ?_
      | with_reducible assumption
      | (refine Fr.of_snd (by assumption) ?_)
      | (refine Fr.of_fst (by assumption) ?_)
      | split
      | (unfold v; split)
      | (unfold v; clear_value *; split)
      | (clear_value *; split)

theorem State.adaptStep_fr {κ : Nat} {s0 s : State} {x : Axis} {p : ℕ} {sw : ℕ} {on : Bool} {t : ℕ} (hf_ : Fr κ s0 s) (hk_ : 0xc2c01000008004bc002014400000000000000000000000000000000000000240002207f400 &&& κ = 0xc2c01000008004bc002014400000000000000000000000000000000000000240002207f400 := by decide) :
    Fr κ s0 (State.adaptStep s x p sw on t) := by
  refine Fr.lift hf_ hk_ ?_
  clear hf_ hk_
  unfold State.adaptStep
  have h0 := Fr.refl 0xc2c01000008004bc002014400000000000000000000000000000000000000240002207f400 s
  repeat' first
      | ((try lift_lets); intro v; refine_lift have hv : Fr 0xc2c01000008004bc002014400000000000000000000000000000000000000240002207f400 s v := ?_; ?_; clear_value v)
      | ((try lift_lets); intro v)
      | with_reducible refine State.atLimits_fr ?_
      | with_reducible refine State.modTr_fr ?_
      | with_reducible refine State.moveStep_fr ?_
      | with_reducible refine State.reachCount_fr ?_
      | with_reducible refine State.set_fr ?_
      | with_reducible refine Fr.ite ?_ ?_
      | with_reducible refine Fr.cond ?_ ?_
      | with_reducible assumption
      | (refine Fr.of_snd (by assumption) ?_)
      | (refine Fr.of_fst (by assumption) ?_)
      | split
      | (unfold v; split)
      | (unfold v; clear_value *; split)
      | (clear_value *; split)

theorem State.transition_fr {κ : Nat} {s0 s : State} {x : Axis} {p : Nat} {rising : Bool} {tb : Int} {te : Int} {tOff : Option Int} {tOn : Option Int} (hf_ : Fr κ s0 s) (hk_ : 0xc2c01000008004bc00201440000000000000000000000000000000000000024000a207f400 &&& κ = 0xc2c01000008004bc00201440000000000000000000000000000000000000024000a207f400 := by decide) :
    Fr κ s0 (State.transition s x p rising tb te tOff tOn) := by
  refine Fr.lift hf_ hk_ ?_
  clear hf_ hk_
  unfold State.transition
  have h0 := Fr.refl 0xc2c01000008004bc00201440000000000000000000000000000000000000024000a207f400 s
  repeat' first
      | ((try lift_lets); intro v; refine_lift have hv : Fr 0xc2c01000008004bc00201440000000000000000000000000000000000000024000a207f400 s v := ?_; ?_; clear_value v)
      | ((try lift_lets); intro v)
      | with_reducible refine State.adaptStep_fr ?_
      | with_reducible refine State.modTr_fr ?_
      | with_reducible refine State.reachEnd_fr ?_
      | with_reducible refine State.spent_fr ?_
      | with_reducible refine Fr.ite ?_ ?_
      | with_reducible refine Fr.cond ?_ ?_
      | with_reducible assumption
      | with_reducible exact Fr.id_ (by with_reducible assumption)
      | (refine Fr.of_snd (by assumption) ?_)
      | (refine Fr.of_fst (by assumption) ?_)
      | split
      | (unfold v; split)
      | (unfold v; clear_value *; split)
      | (clear_value *; split)

theorem execTransitionMeasured_fr {s t_ : State} {x : Axis} {p : ℕ} {rising : Bool} {tb : ℤ} {te : ℤ} {tOff : Option Int} {tOn : Option Int} (e_ : execTransitionMeasured x p rising tb te tOff tOn s = .next t_) : Fr 0xc2c01000008004bc00201440000000000000000000000000000000000000024000a207f400 s t_ := by
  unfold execTransitionMeasured at e_
  obtain rfl := Host.Outcome.next.inj e_
  clear e_
  have h0 := Fr.refl 0xc2c01000008004bc00201440000000000000000000000000000000000000024000a207f400 s
  repeat' first
      | ((try lift_lets); intro v; refine_lift have hv : Fr 0xc2c01000008004bc00201440000000000000000000000000000000000000024000a207f400 s v := ?_; ?_; clear_value v)
      | ((try lift_lets); intro v)
      | with_reducible refine State.transition_fr ?_
      | with_reducible refine Fr.ite ?_ ?_
      | with_reducible refine Fr.cond ?_ ?_
      | with_reducible assumption
      | with_reducible exact Fr.id_ (by with_reducible assumption)
      | (refine Fr.of_snd (by assumption) ?_)
      | (refine Fr.of_fst (by assumption) ?_)
      | split
      | (unfold v; split)
      | (unfold v; clear_value *; split)
      | (clear_value *; split)

theorem State.edgesClose_fr {κ : Nat} {s0 s : State} {x : Axis} (hf_ : Fr κ s0 s) (hk_ : 0x60000 &&& κ = 0x60000 := by decide) :
    Fr κ s0 (State.edgesClose s x) := by
  refine Fr.lift hf_ hk_ ?_
  clear hf_ hk_
  unfold State.edgesClose
  have h0 := Fr.refl 0x60000 s
  repeat' first
      | ((try lift_lets); intro v; refine_lift have hv : Fr 0x60000 s v := ?_; ?_; clear_value v)
      | ((try lift_lets); intro v)
      | with_reducible refine State.modTr_fr ?_
      | with_reducible refine Fr.ite ?_ ?_
      | with_reducible refine Fr.cond ?_ ?_
      | with_reducible assumption
      | with_reducible exact Fr.id_ (by with_reducible assumption)
      | (refine Fr.of_snd (by assumption) ?_)
      | (refine Fr.of_fst (by assumption) ?_)
      | split
      | (unfold v; split)
      | (unfold v; clear_value *; split)
      | (clear_value *; split)

@[simp] theorem ilkFld_fam {x : Axis} {p : Nat} : fam (ilkFld x p).reg = 187 := by unfold ilkFld; (repeat' split) <;> simp

theorem execInterlock_fr {s t_ : State} {x : Axis} {leg : ℕ} (e_ : execInterlock x leg s = .next t_) : Fr 0x2c01000000000801808044000000000000000000000000000000000000002400002078400 s t_ := by
  unfold execInterlock at e_
  obtain rfl := Host.Outcome.next.inj e_
  clear e_
  have h0 := Fr.refl 0x2c01000000000801808044000000000000000000000000000000000000002400002078400 s
  repeat' first
      | ((try lift_lets); intro v; refine_lift have hv : Fr 0x2c01000000000801808044000000000000000000000000000000000000002400002078400 s v := ?_; ?_; clear_value v)
      | ((try lift_lets); intro v)
      | with_reducible refine State.evx_fr ?_
      | with_reducible refine State.inc_fr ?_
      | with_reducible refine State.modTr_fr ?_
      | with_reducible refine State.set_fr ?_
      | with_reducible refine State.settle_fr ?_
      | with_reducible refine Fr.ite ?_ ?_
      | with_reducible refine Fr.cond ?_ ?_
      | with_reducible assumption
      | (refine Fr.of_snd (by assumption) ?_)
      | (refine Fr.of_fst (by assumption) ?_)
      | split
      | (unfold v; split)
      | (unfold v; clear_value *; split)
      | (clear_value *; split)

theorem execGateOffNotSensed_fr {s t_ : State} {x : Axis} {ch : ℕ} {ns : ℕ} (e_ : execGateOffNotSensed x ch ns s = .next t_) : Fr 0xc2c01000008004be1c001c400000fc0020500004101021000000000000000240002207f430 s t_ := by
  unfold execGateOffNotSensed at e_
  obtain rfl := Host.Outcome.next.inj e_
  clear e_
  have h0 := Fr.refl 0xc2c01000008004be1c001c400000fc0020500004101021000000000000000240002207f430 s
  repeat' first
      | ((try lift_lets); intro v; refine_lift have hv : Fr 0xc2c01000008004be1c001c400000fc0020500004101021000000000000000240002207f430 s v := ?_; ?_; clear_value v)
      | ((try lift_lets); intro v)
      | with_reducible refine State.againOff_fr ?_
      | with_reducible refine State.chooseSafe_fr ?_
      | with_reducible refine State.faultOn_fr ?_
      | with_reducible refine State.modTr_fr ?_
      | with_reducible refine State.set_fr ?_
      | with_reducible refine Fr.ite ?_ ?_
      | with_reducible refine Fr.cond ?_ ?_
      | with_reducible assumption
      | (refine Fr.of_snd (by assumption) ?_)
      | (refine Fr.of_fst (by assumption) ?_)
      | split
      | (unfold v; split)
      | (unfold v; clear_value *; split)
      | (clear_value *; split)

theorem execGateSensedOff_fr {s t_ : State} {x : Axis} {ch : ℕ} (e_ : execGateSensedOff x ch s = .next t_) : Fr 0x101800000000000000000000000000000000000000000000000000060000 s t_ := by
  unfold execGateSensedOff at e_
  obtain rfl := Host.Outcome.next.inj e_
  clear e_
  have h0 := Fr.refl 0x101800000000000000000000000000000000000000000000000000060000 s
  repeat' first
      | ((try lift_lets); intro v; refine_lift have hv : Fr 0x101800000000000000000000000000000000000000000000000000060000 s v := ?_; ?_; clear_value v)
      | ((try lift_lets); intro v)
      | with_reducible refine State.modTr_fr ?_
      | with_reducible refine State.setCause_fr ?_
      | with_reducible refine State.settle_fr ?_
      | with_reducible refine Fr.ite ?_ ?_
      | with_reducible refine Fr.cond ?_ ?_
      | with_reducible assumption
      | (refine Fr.of_snd (by assumption) ?_)
      | (refine Fr.of_fst (by assumption) ?_)
      | split
      | (unfold v; split)
      | (unfold v; clear_value *; split)
      | (clear_value *; split)

theorem State.vbsRead_fr {κ : Nat} {s0 s : State} {dv : Nat} (hf_ : Fr κ s0 s) (hk_ : 0x80000000 &&& κ = 0x80000000 := by decide) :
    Fr κ s0 (State.vbsRead s dv).2 := by
  refine Fr.lift hf_ hk_ ?_
  clear hf_ hk_
  unfold State.vbsRead
  have h0 := Fr.refl 0x80000000 s
  repeat' first
      | ((try lift_lets); intro v; refine_lift have hv : Fr 0x80000000 s v := ?_; ?_; clear_value v)
      | ((try lift_lets); intro v)
      | with_reducible refine State.spent_fr ?_
      | with_reducible refine Fr.ite ?_ ?_
      | with_reducible refine Fr.cond ?_ ?_
      | with_reducible assumption
      | with_reducible exact Fr.id_ (by with_reducible assumption)
      | (refine Fr.of_snd (by assumption) ?_)
      | (refine Fr.of_fst (by assumption) ?_)
      | split
      | (unfold v; split)
      | (unfold v; clear_value *; split)
      | (clear_value *; split)

@[simp] theorem vbsFld_fam {x : Axis} {p : Nat} : fam (vbsFld x p).reg = 186 := by unfold vbsFld; (repeat' split) <;> simp

theorem execBootstrapUndervoltage_fr {s t_ : State} {x : Axis} {p : ℕ} {dv : ℕ} (e_ : execBootstrapUndervoltage x p dv s = .next t_) : Fr 0xc2c01000008004bc1c040440000000002040000000000000000000000000024000a207f420 s t_ := by
  unfold execBootstrapUndervoltage at e_
  obtain rfl := Host.Outcome.next.inj e_
  clear e_
  have h0 := Fr.refl 0xc2c01000008004bc1c040440000000002040000000000000000000000000024000a207f420 s
  repeat' first
      | ((try lift_lets); intro v; refine_lift have hv : Fr 0xc2c01000008004bc1c040440000000002040000000000000000000000000024000a207f420 s v := ?_; ?_; clear_value v)
      | ((try lift_lets); intro v)
      | with_reducible refine State.judged_fr ?_
      | with_reducible refine State.vbsRead_fr ?_
      | with_reducible refine State.chooseSafe_fr ?_
      | with_reducible refine State.faultOn_fr ?_
      | with_reducible refine State.putSafe_fr ?_
      | with_reducible refine State.set_fr ?_
      | with_reducible refine State.setBit_fr ?_
      | with_reducible refine State.settle_fr ?_
      | with_reducible refine Fr.ite ?_ ?_
      | with_reducible refine Fr.cond ?_ ?_
      | with_reducible assumption
      | (refine Fr.of_snd (by assumption) ?_)
      | (refine Fr.of_fst (by assumption) ?_)
      | split
      | (unfold v; split)
      | (unfold v; clear_value *; split)
      | (clear_value *; split)

theorem execBootstrapLockoutRelease_fr {s t_ : State} {x : Axis} {p : ℕ} {dv : ℕ} (e_ : execBootstrapLockoutRelease x p dv s = .next t_) : Fr 0x101804040000000000000000000000000000000000000000000080060000 s t_ := by
  unfold execBootstrapLockoutRelease at e_
  obtain rfl := Host.Outcome.next.inj e_
  clear e_
  have h0 := Fr.refl 0x101804040000000000000000000000000000000000000000000080060000 s
  repeat' first
      | ((try lift_lets); intro v; refine_lift have hv : Fr 0x101804040000000000000000000000000000000000000000000080060000 s v := ?_; ?_; clear_value v)
      | ((try lift_lets); intro v)
      | with_reducible refine State.judged_fr ?_
      | with_reducible refine State.vbsRead_fr ?_
      | with_reducible refine State.extStart_fr ?_
      | with_reducible refine State.command_fr ?_
      | with_reducible refine State.modTr_fr ?_
      | with_reducible refine State.set_fr ?_
      | with_reducible refine State.setBit_fr ?_
      | with_reducible refine State.setCause_fr ?_
      | with_reducible refine State.settle_fr ?_
      | with_reducible refine Fr.ite ?_ ?_
      | with_reducible refine Fr.cond ?_ ?_
      | with_reducible assumption
      | (refine Fr.of_snd (by assumption) ?_)
      | (refine Fr.of_fst (by assumption) ?_)
      | split
      | (unfold v; split)
      | (unfold v; clear_value *; split)
      | (clear_value *; split)

theorem execPrechargePulse_fr {s t_ : State} {x : Axis} {us : ℕ} (e_ : execPrechargePulse x us s = .next t_) : Fr 0x1800000000000000000000000000000000000000000000000000060000 s t_ := by
  unfold execPrechargePulse at e_
  obtain rfl := Host.Outcome.next.inj e_
  clear e_
  have h0 := Fr.refl 0x1800000000000000000000000000000000000000000000000000060000 s
  repeat' first
      | ((try lift_lets); intro v; refine_lift have hv : Fr 0x1800000000000000000000000000000000000000000000000000060000 s v := ?_; ?_; clear_value v)
      | ((try lift_lets); intro v)
      | with_reducible refine State.command_fr ?_
      | with_reducible refine State.modTr_fr ?_
      | with_reducible refine Fr.ite ?_ ?_
      | with_reducible refine Fr.cond ?_ ?_
      | with_reducible assumption
      | (refine Fr.of_snd (by assumption) ?_)
      | (refine Fr.of_fst (by assumption) ?_)
      | split
      | (unfold v; split)
      | (unfold v; clear_value *; split)
      | (clear_value *; split)

theorem State.refresh_fr {κ : Nat} {s0 s : State} {x : Axis} {stay : ℕ} {subTicks : ℕ} (hf_ : Fr κ s0 s) (hk_ : 0x1802000000000000000000000000000000000000000000000080060000 &&& κ = 0x1802000000000000000000000000000000000000000000000080060000 := by decide) :
    Fr κ s0 (State.refresh s x stay subTicks) := by
  refine Fr.lift hf_ hk_ ?_
  clear hf_ hk_
  unfold State.refresh
  have h0 := Fr.refl 0x1802000000000000000000000000000000000000000000000080060000 s
  repeat' first
      | ((try lift_lets); intro v; refine_lift have hv : Fr 0x1802000000000000000000000000000000000000000000000080060000 s v := ?_; ?_; clear_value v)
      | ((try lift_lets); intro v)
      | with_reducible refine State.settle_fr ?_
      | with_reducible refine State.countEdge_fr ?_
      | with_reducible refine State.inc_fr ?_
      | with_reducible refine State.modTr_fr ?_
      | with_reducible refine State.set_fr ?_
      | with_reducible refine State.spent_fr ?_
      | with_reducible refine Fr.forEach ?_ (fun t a ht => ?_)
      | with_reducible refine Fr.ite ?_ ?_
      | with_reducible refine Fr.cond ?_ ?_
      | with_reducible assumption
      | (refine Fr.of_snd (by assumption) ?_)
      | (refine Fr.of_fst (by assumption) ?_)
      | split
      | (unfold v; split)
      | (unfold v; clear_value *; split)
      | (clear_value *; split)

theorem State.trCfgWrite_fr {κ : Nat} {s0 s : State} {by_ : Writer} {x : Axis} {w : Word} (hf_ : Fr κ s0 s) (hk_ : 0x20000000000000000000000000000000000000000000040000000 &&& κ = 0x20000000000000000000000000000000000000000000040000000 := by decide) :
    Fr κ s0 (State.trCfgWrite s by_ x w) := by
  refine Fr.lift hf_ hk_ ?_
  clear hf_ hk_
  unfold State.trCfgWrite
  have h0 := Fr.refl 0x20000000000000000000000000000000000000000000040000000 s
  repeat' first
      | ((try lift_lets); intro v; refine_lift have hv : Fr 0x20000000000000000000000000000000000000000000040000000 s v := ?_; ?_; clear_value v)
      | ((try lift_lets); intro v)
      | with_reducible refine State.expert_fr ?_ (fun t ht => ?_)
      | with_reducible refine State.set_fr ?_
      | with_reducible refine Fr.forEachFld ?_ (fun t f hf ht => ?_)
      | with_reducible refine Fr.forEach ?_ (fun t a ht => ?_)
      | with_reducible refine Fr.ite ?_ ?_
      | with_reducible refine Fr.cond ?_ ?_
      | with_reducible assumption
      | (refine Fr.of_snd (by assumption) ?_)
      | (refine Fr.of_fst (by assumption) ?_)
      | split
      | (unfold v; split)
      | (unfold v; clear_value *; split)
      | (clear_value *; split)

theorem execExtWrite_fr {s t_ : State} {x : Axis} {w : Word} (e_ : execExtWrite x w s = .next t_) : Fr 0x20000000000000000000000000000000000000000000040000000 s t_ := by
  unfold execExtWrite at e_
  obtain rfl := Host.Outcome.next.inj e_
  clear e_
  have h0 := Fr.refl 0x20000000000000000000000000000000000000000000040000000 s
  repeat' first
      | ((try lift_lets); intro v; refine_lift have hv : Fr 0x20000000000000000000000000000000000000000000040000000 s v := ?_; ?_; clear_value v)
      | ((try lift_lets); intro v)
      | with_reducible refine State.trCfgWrite_fr ?_
      | with_reducible refine Fr.running ?_ (fun t ht => ?_)
      | with_reducible refine Fr.ite ?_ ?_
      | with_reducible refine Fr.cond ?_ ?_
      | with_reducible assumption
      | (refine Fr.of_snd (by assumption) ?_)
      | (refine Fr.of_fst (by assumption) ?_)
      | split
      | (unfold v; split)
      | (unfold v; clear_value *; split)
      | (clear_value *; split)

theorem execCmdPinAccept_fr {s t_ : State} {x : Axis} {ch : ℕ} {level : Bool} {ns : ℕ} (e_ : execCmdPinAccept x ch level ns s = .next t_) : Fr 0x1800000000000000000000000000000000000000000000000000060000 s t_ := by
  unfold execCmdPinAccept at e_
  obtain rfl := Host.Outcome.next.inj e_
  clear e_
  have h0 := Fr.refl 0x1800000000000000000000000000000000000000000000000000060000 s
  repeat' first
      | ((try lift_lets); intro v; refine_lift have hv : Fr 0x1800000000000000000000000000000000000000000000000000060000 s v := ?_; ?_; clear_value v)
      | ((try lift_lets); intro v)
      | with_reducible refine State.modTr_fr ?_
      | with_reducible refine State.pinCommand_fr ?_
      | with_reducible refine State.command_fr ?_
      | with_reducible refine Fr.ite ?_ ?_
      | with_reducible refine Fr.cond ?_ ?_
      | with_reducible assumption
      | (refine Fr.of_snd (by assumption) ?_)
      | (refine Fr.of_fst (by assumption) ?_)
      | split
      | (unfold v; split)
      | (unfold v; clear_value *; split)
      | (clear_value *; split)

theorem State.trxCntClr_fr {κ : Nat} {s0 s : State} {x : Axis} {w : Word} (hf_ : Fr κ s0 s) (hk_ : 0x1a000000000000000000000000000000000000000000000000000000 &&& κ = 0x1a000000000000000000000000000000000000000000000000000000 := by decide) :
    Fr κ s0 (State.trxCntClr s x w) := by
  refine Fr.lift hf_ hk_ ?_
  clear hf_ hk_
  unfold State.trxCntClr
  have h0 := Fr.refl 0x1a000000000000000000000000000000000000000000000000000000 s
  repeat' first
      | ((try lift_lets); intro v; refine_lift have hv : Fr 0x1a000000000000000000000000000000000000000000000000000000 s v := ?_; ?_; clear_value v)
      | ((try lift_lets); intro v)
      | with_reducible refine State.set_fr ?_
      | with_reducible refine Fr.ite ?_ ?_
      | with_reducible refine Fr.cond ?_ ?_
      | with_reducible assumption
      | (refine Fr.of_snd (by assumption) ?_)
      | (refine Fr.of_fst (by assumption) ?_)
      | split
      | (unfold v; split)
      | (unfold v; clear_value *; split)
      | (clear_value *; split)

theorem execTrxCntClr_fr {s t_ : State} {x : Axis} {w : Word} (e_ : execTrxCntClr x w s = .next t_) : Fr 0x1a000000000000000000000000000000000000000000000000000000 s t_ := by
  unfold execTrxCntClr at e_
  obtain rfl := Host.Outcome.next.inj e_
  clear e_
  have h0 := Fr.refl 0x1a000000000000000000000000000000000000000000000000000000 s
  repeat' first
      | ((try lift_lets); intro v; refine_lift have hv : Fr 0x1a000000000000000000000000000000000000000000000000000000 s v := ?_; ?_; clear_value v)
      | ((try lift_lets); intro v)
      | with_reducible refine State.trxCntClr_fr ?_
      | with_reducible refine Fr.running ?_ (fun t ht => ?_)
      | with_reducible refine Fr.ite ?_ ?_
      | with_reducible refine Fr.cond ?_ ?_
      | with_reducible assumption
      | (refine Fr.of_snd (by assumption) ?_)
      | (refine Fr.of_fst (by assumption) ?_)
      | split
      | (unfold v; split)
      | (unfold v; clear_value *; split)
      | (clear_value *; split)

theorem State.vdrvSet_fr {κ : Nat} {s0 s : State} {x : Axis} {dv : Nat} (hf_ : Fr κ s0 s) (hk_ : 0x4000000000000000000000000000000000000000000000080060000 &&& κ = 0x4000000000000000000000000000000000000000000000080060000 := by decide) :
    Fr κ s0 (State.vdrvSet s x dv) := by
  refine Fr.lift hf_ hk_ ?_
  clear hf_ hk_
  unfold State.vdrvSet
  have h0 := Fr.refl 0x4000000000000000000000000000000000000000000000080060000 s
  repeat' first
      | ((try lift_lets); intro v; refine_lift have hv : Fr 0x4000000000000000000000000000000000000000000000080060000 s v := ?_; ?_; clear_value v)
      | ((try lift_lets); intro v)
      | with_reducible refine State.vbsRead_fr ?_
      | with_reducible refine State.modTr_fr ?_
      | with_reducible refine State.set_fr ?_
      | with_reducible refine Fr.ite ?_ ?_
      | with_reducible refine Fr.cond ?_ ?_
      | with_reducible assumption
      | with_reducible exact Fr.id_ (by with_reducible assumption)
      | (refine Fr.of_snd (by assumption) ?_)
      | (refine Fr.of_fst (by assumption) ?_)
      | split
      | (unfold v; split)
      | (unfold v; clear_value *; split)
      | (clear_value *; split)

theorem execDriverSupplyUndervoltage_fr {s t_ : State} {x : Axis} {dv : ℕ} (e_ : execDriverSupplyUndervoltage x dv s = .next t_) : Fr 0xc2c01000008004be1c041c400000fc002050000410102100000000000000024000a207f430 s t_ := by
  unfold execDriverSupplyUndervoltage at e_
  obtain rfl := Host.Outcome.next.inj e_
  clear e_
  have h0 := Fr.refl 0xc2c01000008004be1c041c400000fc002050000410102100000000000000024000a207f430 s
  repeat' first
      | ((try lift_lets); intro v; refine_lift have hv : Fr 0xc2c01000008004be1c041c400000fc002050000410102100000000000000024000a207f430 s v := ?_; ?_; clear_value v)
      | ((try lift_lets); intro v)
      | with_reducible refine State.judged_fr ?_
      | with_reducible refine State.vdrvSet_fr ?_
      | with_reducible refine State.againOff_fr ?_
      | with_reducible refine State.chooseSafe_fr ?_
      | with_reducible refine State.faultOn_fr ?_
      | with_reducible refine State.modTr_fr ?_
      | with_reducible refine State.set_fr ?_
      | with_reducible refine State.settle_fr ?_
      | with_reducible refine Fr.ite ?_ ?_
      | with_reducible refine Fr.cond ?_ ?_
      | with_reducible assumption
      | (refine Fr.of_snd (by assumption) ?_)
      | (refine Fr.of_fst (by assumption) ?_)
      | split
      | (unfold v; split)
      | (unfold v; clear_value *; split)
      | (clear_value *; split)

theorem execDriverSupplyRelease_fr {s t_ : State} {x : Axis} {dv : ℕ} (e_ : execDriverSupplyRelease x dv s = .next t_) : Fr 0x101804000000000000000000000000000000000000000000000080060000 s t_ := by
  unfold execDriverSupplyRelease at e_
  obtain rfl := Host.Outcome.next.inj e_
  clear e_
  have h0 := Fr.refl 0x101804000000000000000000000000000000000000000000000080060000 s
  repeat' first
      | ((try lift_lets); intro v; refine_lift have hv : Fr 0x101804000000000000000000000000000000000000000000000080060000 s v := ?_; ?_; clear_value v)
      | ((try lift_lets); intro v)
      | with_reducible refine State.judged_fr ?_
      | with_reducible refine State.vdrvSet_fr ?_
      | with_reducible refine State.modTr_fr ?_
      | with_reducible refine State.set_fr ?_
      | with_reducible refine State.setCause_fr ?_
      | with_reducible refine State.settle_fr ?_
      | with_reducible refine Fr.ite ?_ ?_
      | with_reducible refine Fr.cond ?_ ?_
      | with_reducible assumption
      | (refine Fr.of_snd (by assumption) ?_)
      | (refine Fr.of_fst (by assumption) ?_)
      | split
      | (unfold v; split)
      | (unfold v; clear_value *; split)
      | (clear_value *; split)

theorem State.setToff_fr {κ : Nat} {s0 s : State} {x : Axis} {low : Bool} (hf_ : Fr κ s0 s) (hk_ : 0x4 &&& κ = 0x4 := by decide) :
    Fr κ s0 (State.setToff s x low) := by
  refine Fr.lift hf_ hk_ ?_
  clear hf_ hk_
  unfold State.setToff
  have h0 := Fr.refl 0x4 s
  repeat' first
      | ((try lift_lets); intro v; refine_lift have hv : Fr 0x4 s v := ?_; ?_; clear_value v)
      | ((try lift_lets); intro v)
      | with_reducible refine State.modPins_fr ?_
      | with_reducible refine Fr.ite ?_ ?_
      | with_reducible refine Fr.cond ?_ ?_
      | with_reducible assumption
      | (refine Fr.of_snd (by assumption) ?_)
      | (refine Fr.of_fst (by assumption) ?_)
      | split
      | (unfold v; split)
      | (unfold v; clear_value *; split)
      | (clear_value *; split)

theorem State.torqueOff_fr {κ : Nat} {s0 s : State} {x : Axis} (hf_ : Fr κ s0 s) (hk_ : 0xc2c01000008004bc1c0004400000000020400000000000000000000000000240002207f420 &&& κ = 0xc2c01000008004bc1c0004400000000020400000000000000000000000000240002207f420 := by decide) :
    Fr κ s0 (State.torqueOff s x) := by
  refine Fr.lift hf_ hk_ ?_
  clear hf_ hk_
  unfold State.torqueOff
  have h0 := Fr.refl 0xc2c01000008004bc1c0004400000000020400000000000000000000000000240002207f420 s
  repeat' first
      | ((try lift_lets); intro v; refine_lift have hv : Fr 0xc2c01000008004bc1c0004400000000020400000000000000000000000000240002207f420 s v := ?_; ?_; clear_value v)
      | ((try lift_lets); intro v)
      | with_reducible refine State.gateOffAt_fr ?_
      | with_reducible refine State.settle_fr ?_
      | with_reducible refine State.ascDropped_fr ?_
      | with_reducible refine State.chooseSafe_fr ?_
      | with_reducible refine State.countEdge_fr ?_
      | with_reducible refine State.fault_fr ?_
      | with_reducible refine State.modTr_fr ?_
      | with_reducible refine State.set_fr ?_
      | with_reducible refine Fr.forEach ?_ (fun t a ht => ?_)
      | with_reducible refine Fr.ite ?_ ?_
      | with_reducible refine Fr.cond ?_ ?_
      | with_reducible assumption
      | (refine Fr.of_snd (by assumption) ?_)
      | (refine Fr.of_fst (by assumption) ?_)
      | split
      | (unfold v; split)
      | (unfold v; clear_value *; split)
      | (clear_value *; split)

theorem execTorqueOff_fr {s t_ : State} {x : Axis} {ns : ℕ} (e_ : execTorqueOff x ns s = .next t_) : Fr 0xc2c01000008004bc1c000440000000002040000000000000000000000000024000a207f424 s t_ := by
  unfold execTorqueOff at e_
  obtain rfl := Host.Outcome.next.inj e_
  clear e_
  have h0 := Fr.refl 0xc2c01000008004bc1c000440000000002040000000000000000000000000024000a207f424 s
  repeat' first
      | ((try lift_lets); intro v; refine_lift have hv : Fr 0xc2c01000008004bc1c000440000000002040000000000000000000000000024000a207f424 s v := ?_; ?_; clear_value v)
      | ((try lift_lets); intro v)
      | with_reducible refine State.freshBit_fr ?_
      | with_reducible refine State.setCause_fr ?_
      | with_reducible refine State.setToff_fr ?_
      | with_reducible refine State.torqueOff_fr ?_
      | with_reducible refine Fr.ite ?_ ?_
      | with_reducible refine Fr.cond ?_ ?_
      | with_reducible assumption
      | (refine Fr.of_snd (by assumption) ?_)
      | (refine Fr.of_fst (by assumption) ?_)
      | split
      | (unfold v; split)
      | (unfold v; clear_value *; split)
      | (clear_value *; split)

theorem execTorqueOffRelease_fr {s t_ : State} {x : Axis} (e_ : execTorqueOffRelease x s = .next t_) : Fr 0x100000000000000000000000000000000000000000000000000000000004 s t_ := by
  unfold execTorqueOffRelease at e_
  obtain rfl := Host.Outcome.next.inj e_
  clear e_
  have h0 := Fr.refl 0x100000000000000000000000000000000000000000000000000000000004 s
  repeat' first
      | ((try lift_lets); intro v; refine_lift have hv : Fr 0x100000000000000000000000000000000000000000000000000000000004 s v := ?_; ?_; clear_value v)
      | ((try lift_lets); intro v)
      | with_reducible refine State.setCause_fr ?_
      | with_reducible refine State.setToff_fr ?_
      | with_reducible refine Fr.ite ?_ ?_
      | with_reducible refine Fr.cond ?_ ?_
      | with_reducible assumption
      | (refine Fr.of_snd (by assumption) ?_)
      | (refine Fr.of_fst (by assumption) ?_)
      | split
      | (unfold v; split)
      | (unfold v; clear_value *; split)
      | (clear_value *; split)

end Sys2Proof.Machine
end

