-- ==== Sys2Proof/Laws/FrameProtection.lean ====
section
/-! SUPPORT. Frames of the operations of Machine/Protection.lean: one lemma each (Laws/Frame.lean). -/

namespace Sys2Proof.Machine

set_option Elab.async false

theorem State.softOff_fr {κ : Nat} {s0 s : State} {x : Axis} {chans : List ℕ} (hf_ : Fr κ s0 s) (hk_ : 0x1800040000000000000000000000000000000000000000000000060000 &&& κ = 0x1800040000000000000000000000000000000000000000000000060000 := by decide) :
    Fr κ s0 (State.softOff s x chans) := by
  refine Fr.lift hf_ hk_ ?_
  clear hf_ hk_
  unfold State.softOff
  have h0 := Fr.refl 0x1800040000000000000000000000000000000000000000000000060000 s
  repeat' first
      | ((try lift_lets); intro v; refine_lift have hv : Fr 0x1800040000000000000000000000000000000000000000000000060000 s v := ?_; ?_; clear_value v)
      | ((try lift_lets); intro v)
      | with_reducible refine State.extEnd_fr ?_
      | with_reducible refine State.gateOffAt_fr ?_
      | with_reducible refine State.settle_fr ?_
      | with_reducible refine State.gateOff_fr ?_
      | with_reducible refine State.modTr_fr ?_
      | with_reducible refine Fr.forEach ?_ (fun t a ht => ?_)
      | with_reducible refine Fr.ite ?_ ?_
      | with_reducible refine Fr.cond ?_ ?_
      | with_reducible assumption
      | (refine Fr.of_snd (by assumption) ?_)
      | (refine Fr.of_fst (by assumption) ?_)
      | split
      | (unfold v; split)
      | (unfold v; clear_value *; split)
      | (clear_value *; split)

theorem State.hardShort_fr {κ : Nat} {s0 s : State} {x : Axis} {code : ℕ} {chans : List ℕ} (hf_ : Fr κ s0 s) (hk_ : 0xc2c01000008004bc000000400000000000000000000000000000000000000240002201f400 &&& κ = 0xc2c01000008004bc000000400000000000000000000000000000000000000240002201f400 := by decide) :
    Fr κ s0 (State.hardShort s x code chans) := by
  refine Fr.lift hf_ hk_ ?_
  clear hf_ hk_
  unfold State.hardShort
  have h0 := Fr.refl 0xc2c01000008004bc000000400000000000000000000000000000000000000240002201f400 s
  repeat' first
      | ((try lift_lets); intro v; refine_lift have hv : Fr 0xc2c01000008004bc000000400000000000000000000000000000000000000240002201f400 s v := ?_; ?_; clear_value v)
      | ((try lift_lets); intro v)
      | with_reducible refine State.fault_fr ?_
      | with_reducible refine State.setCause_fr ?_
      | with_reducible refine Fr.ite ?_ ?_
      | with_reducible refine Fr.cond ?_ ?_
      | with_reducible assumption
      | (refine Fr.of_snd (by assumption) ?_)
      | (refine Fr.of_fst (by assumption) ?_)
      | split
      | (unfold v; split)
      | (unfold v; clear_value *; split)
      | (clear_value *; split)

theorem execDesaturation_fr {s t_ : State} {x : Axis} {m : ℕ} {mv : ℕ} {held : ℕ} {since : ℕ} (e_ : execDesaturation x m mv held since s = .next t_) : Fr 0xc2c01000008004bc38000440000000000000000000000000000000000000024000a207f400 s t_ := by
  unfold execDesaturation at e_
  obtain rfl := Host.Outcome.next.inj e_
  clear e_
  have h0 := Fr.refl 0xc2c01000008004bc38000440000000000000000000000000000000000000024000a207f400 s
  repeat' first
      | ((try lift_lets); intro v; refine_lift have hv : Fr 0xc2c01000008004bc38000440000000000000000000000000000000000000024000a207f400 s v := ?_; ?_; clear_value v)
      | ((try lift_lets); intro v)
      | with_reducible refine State.judged_fr ?_
      | with_reducible refine State.hardShort_fr ?_
      | with_reducible refine State.inc_fr ?_
      | with_reducible refine State.set_fr ?_
      | with_reducible refine State.setBit_fr ?_
      | with_reducible refine State.softOff_fr ?_
      | with_reducible refine Fr.forEach ?_ (fun t a ht => ?_)
      | with_reducible refine Fr.ite ?_ ?_
      | with_reducible refine Fr.cond ?_ ?_
      | with_reducible assumption
      | (refine Fr.of_snd (by assumption) ?_)
      | (refine Fr.of_fst (by assumption) ?_)
      | split
      | (unfold v; split)
      | (unfold v; clear_value *; split)
      | (clear_value *; split)

theorem execTurnOnShort_fr {s t_ : State} {x : Axis} {ch : ℕ} {node : ℤ} {ns : ℕ} (e_ : execTurnOnShort x ch node ns s = .next t_) : Fr 0xc2c01000008004bc38000440000000000000000000000000000000000000024000a207f400 s t_ := by
  unfold execTurnOnShort at e_
  obtain rfl := Host.Outcome.next.inj e_
  clear e_
  have h0 := Fr.refl 0xc2c01000008004bc38000440000000000000000000000000000000000000024000a207f400 s
  repeat' first
      | ((try lift_lets); intro v; refine_lift have hv : Fr 0xc2c01000008004bc38000440000000000000000000000000000000000000024000a207f400 s v := ?_; ?_; clear_value v)
      | ((try lift_lets); intro v)
      | with_reducible refine State.judged_fr ?_
      | with_reducible refine State.hardShort_fr ?_
      | with_reducible refine State.inc_fr ?_
      | with_reducible refine State.setBit_fr ?_
      | with_reducible refine State.softOff_fr ?_
      | with_reducible refine Fr.ite ?_ ?_
      | with_reducible refine Fr.cond ?_ ?_
      | with_reducible assumption
      | with_reducible exact Fr.id_ (by with_reducible assumption)
      | (refine Fr.of_snd (by assumption) ?_)
      | (refine Fr.of_fst (by assumption) ?_)
      | split
      | (unfold v; split)
      | (unfold v; clear_value *; split)
      | (clear_value *; split)

theorem State.applyDue_fr {κ : Nat} {s0 s : State} {x : Axis} (hf_ : Fr κ s0 s) (hk_ : 0x2c01000000000901c0004400000000020400000000000000000000000000240000207e420 &&& κ = 0x2c01000000000901c0004400000000020400000000000000000000000000240000207e420 := by decide) :
    Fr κ s0 (State.applyDue s x) := by
  refine Fr.lift hf_ hk_ ?_
  clear hf_ hk_
  unfold State.applyDue
  have h0 := Fr.refl 0x2c01000000000901c0004400000000020400000000000000000000000000240000207e420 s
  repeat' first
      | ((try lift_lets); intro v; refine_lift have hv : Fr 0x2c01000000000901c0004400000000020400000000000000000000000000240000207e420 s v := ?_; ?_; clear_value v)
      | ((try lift_lets); intro v)
      | with_reducible refine State.retryJoin_fr ?_
      | with_reducible refine State.settle_fr ?_
      | with_reducible refine State.ascDropped_fr ?_
      | with_reducible refine State.modAx_fr ?_
      | with_reducible refine State.modTr_fr ?_
      | with_reducible refine State.putSafe_fr ?_
      | with_reducible refine State.setB_fr ?_
      | with_reducible refine Fr.ite ?_ ?_
      | with_reducible refine Fr.cond ?_ ?_
      | with_reducible assumption
      | (refine Fr.of_snd (by assumption) ?_)
      | (refine Fr.of_fst (by assumption) ?_)
      | split
      | (unfold v; split)
      | (unfold v; clear_value *; split)
      | (clear_value *; split)

theorem execSafeStateApply_fr {s t_ : State} {x : Axis} (e_ : execSafeStateApply x s = .next t_) : Fr 0x2c01000000000921c001c400000fc0020500004101021000000000000000240000207e430 s t_ := by
  unfold execSafeStateApply at e_
  obtain rfl := Host.Outcome.next.inj e_
  clear e_
  have h0 := Fr.refl 0x2c01000000000921c001c400000fc0020500004101021000000000000000240000207e430 s
  repeat' first
      | ((try lift_lets); intro v; refine_lift have hv : Fr 0x2c01000000000921c001c400000fc0020500004101021000000000000000240000207e430 s v := ?_; ?_; clear_value v)
      | ((try lift_lets); intro v)
      | with_reducible refine State.againOff_fr ?_
      | with_reducible refine State.applyDue_fr ?_
      | with_reducible refine Fr.ite ?_ ?_
      | with_reducible refine Fr.cond ?_ ?_
      | with_reducible assumption
      | (refine Fr.of_snd (by assumption) ?_)
      | (refine Fr.of_fst (by assumption) ?_)
      | split
      | (unfold v; split)
      | (unfold v; clear_value *; split)
      | (clear_value *; split)

theorem execSoftOffTimeout_fr {s t_ : State} {x : Axis} {ns : ℕ} (e_ : execSoftOffTimeout x ns s = .next t_) : Fr 0xc2c01000008004be1c001c400000fc0020500004101021000000000000000240002207f430 s t_ := by
  unfold execSoftOffTimeout at e_
  obtain rfl := Host.Outcome.next.inj e_
  clear e_
  have h0 := Fr.refl 0xc2c01000008004be1c001c400000fc0020500004101021000000000000000240002207f430 s
  repeat' first
      | ((try lift_lets); intro v; refine_lift have hv : Fr 0xc2c01000008004be1c001c400000fc0020500004101021000000000000000240002207f430 s v := ?_; ?_; clear_value v)
      | ((try lift_lets); intro v)
      | with_reducible refine State.applyDue_fr ?_
      | with_reducible refine Fr.forEach ?_ (fun t a ht => ?_)
      | with_reducible refine State.againOff_fr ?_
      | with_reducible refine State.chooseSafe_fr ?_
      | with_reducible refine State.faultOn_fr ?_
      | with_reducible refine State.modTr_fr ?_
      | with_reducible refine State.set_fr ?_
      | with_reducible refine Fr.ite ?_ ?_
      | with_reducible refine Fr.cond ?_ ?_
      | with_reducible assumption
      | (refine Fr.of_snd (by assumption) ?_)
      | (refine Fr.of_fst (by assumption) ?_)
      | split
      | (unfold v; split)
      | (unfold v; clear_value *; split)
      | (clear_value *; split)

theorem execAscExit_fr {s t_ : State} {x : Axis} {mv : ℕ} {ms : ℕ} (e_ : execAscExit x mv ms s = .next t_) : Fr 0x2c01000000000921c001c400000fc0020500004101021000000000000000240000207e430 s t_ := by
  unfold execAscExit at e_
  obtain rfl := Host.Outcome.next.inj e_
  clear e_
  have h0 := Fr.refl 0x2c01000000000921c001c400000fc0020500004101021000000000000000240000207e430 s
  repeat' first
      | ((try lift_lets); intro v; refine_lift have hv : Fr 0x2c01000000000921c001c400000fc0020500004101021000000000000000240000207e430 s v := ?_; ?_; clear_value v)
      | ((try lift_lets); intro v)
      | with_reducible refine State.againOff_fr ?_
      | with_reducible refine State.ascDropped_fr ?_
      | with_reducible refine State.goto_fr ?_
      | with_reducible refine State.modTr_fr ?_
      | with_reducible refine State.putSafe_fr ?_
      | with_reducible refine State.set_fr ?_
      | with_reducible refine Fr.ite ?_ ?_
      | with_reducible refine Fr.cond ?_ ?_
      | with_reducible assumption
      | (refine Fr.of_snd (by assumption) ?_)
      | (refine Fr.of_fst (by assumption) ?_)
      | split
      | (unfold v; split)
      | (unfold v; clear_value *; split)
      | (clear_value *; split)

theorem State.brakeOcOn_fr {κ : Nat} {s0 s : State} {x : Axis} (hf_ : Fr κ s0 s) (hk_ : 0xc2c01000008004bc180000400000000000000000000000000000000000000240002207f400 &&& κ = 0xc2c01000008004bc180000400000000000000000000000000000000000000240002207f400 := by decide) :
    Fr κ s0 (State.brakeOcOn s x) := by
  refine Fr.lift hf_ hk_ ?_
  clear hf_ hk_
  unfold State.brakeOcOn
  have h0 := Fr.refl 0xc2c01000008004bc180000400000000000000000000000000000000000000240002207f400 s
  repeat' first
      | ((try lift_lets); intro v; refine_lift have hv : Fr 0xc2c01000008004bc180000400000000000000000000000000000000000000240002207f400 s v := ?_; ?_; clear_value v)
      | ((try lift_lets); intro v)
      | with_reducible refine State.settle_fr ?_
      | with_reducible refine State.command_fr ?_
      | with_reducible refine State.faultOn_fr ?_
      | with_reducible refine State.inc_fr ?_
      | with_reducible refine State.modTr_fr ?_
      | with_reducible refine State.set_fr ?_
      | with_reducible refine Fr.ite ?_ ?_
      | with_reducible refine Fr.cond ?_ ?_
      | with_reducible assumption
      | (refine Fr.of_snd (by assumption) ?_)
      | (refine Fr.of_fst (by assumption) ?_)
      | split
      | (unfold v; split)
      | (unfold v; clear_value *; split)
      | (clear_value *; split)

theorem State.brakeOcOff_fr {κ : Nat} {s0 s : State} {x : Axis} (hf_ : Fr κ s0 s) (hk_ : 0x101800000000000000000000000000000000000000000000000000060000 &&& κ = 0x101800000000000000000000000000000000000000000000000000060000 := by decide) :
    Fr κ s0 (State.brakeOcOff s x) := by
  refine Fr.lift hf_ hk_ ?_
  clear hf_ hk_
  unfold State.brakeOcOff
  have h0 := Fr.refl 0x101800000000000000000000000000000000000000000000000000060000 s
  repeat' first
      | ((try lift_lets); intro v; refine_lift have hv : Fr 0x101800000000000000000000000000000000000000000000000000060000 s v := ?_; ?_; clear_value v)
      | ((try lift_lets); intro v)
      | with_reducible refine State.settle_fr ?_
      | with_reducible refine State.modTr_fr ?_
      | with_reducible refine State.setCause_fr ?_
      | with_reducible refine Fr.ite ?_ ?_
      | with_reducible refine Fr.cond ?_ ?_
      | with_reducible assumption
      | (refine Fr.of_snd (by assumption) ?_)
      | (refine Fr.of_fst (by assumption) ?_)
      | split
      | (unfold v; split)
      | (unfold v; clear_value *; split)
      | (clear_value *; split)

theorem execBrakeOvercurrent_fr {s t_ : State} {x : Axis} {asserted : Bool} (e_ : execBrakeOvercurrent x asserted s = .next t_) : Fr 0xc2c01000008004bc180000400000000000000000000000000000000000000240002207f400 s t_ := by
  unfold execBrakeOvercurrent at e_
  obtain rfl := Host.Outcome.next.inj e_
  clear e_
  have h0 := Fr.refl 0xc2c01000008004bc180000400000000000000000000000000000000000000240002207f400 s
  repeat' first
      | ((try lift_lets); intro v; refine_lift have hv : Fr 0xc2c01000008004bc180000400000000000000000000000000000000000000240002207f400 s v := ?_; ?_; clear_value v)
      | ((try lift_lets); intro v)
      | with_reducible refine State.brakeOcOff_fr ?_
      | with_reducible refine State.brakeOcOn_fr ?_
      | with_reducible refine Fr.ite ?_ ?_
      | with_reducible refine Fr.cond ?_ ?_
      | with_reducible assumption
      | (refine Fr.of_snd (by assumption) ?_)
      | (refine Fr.of_fst (by assumption) ?_)
      | split
      | (unfold v; split)
      | (unfold v; clear_value *; split)
      | (clear_value *; split)

theorem State.cascadeOut_fr {κ : Nat} {s0 s : State} {x : Axis} {st : ℕ} (hf_ : Fr κ s0 s) (hk_ : 0x1800000000000000000000000000000000000000000000000000060000 &&& κ = 0x1800000000000000000000000000000000000000000000000000060000 := by decide) :
    Fr κ s0 (State.cascadeOut s x st) := by
  refine Fr.lift hf_ hk_ ?_
  clear hf_ hk_
  unfold State.cascadeOut
  have h0 := Fr.refl 0x1800000000000000000000000000000000000000000000000000060000 s
  repeat' first
      | ((try lift_lets); intro v; refine_lift have hv : Fr 0x1800000000000000000000000000000000000000000000000000060000 s v := ?_; ?_; clear_value v)
      | ((try lift_lets); intro v)
      | with_reducible refine State.cascadeShow_fr ?_
      | with_reducible refine State.modTr_fr ?_
      | with_reducible refine State.settle_fr ?_
      | with_reducible refine State.command_fr ?_
      | with_reducible refine State.set_fr ?_
      | with_reducible refine Fr.ite ?_ ?_
      | with_reducible refine Fr.cond ?_ ?_
      | with_reducible assumption
      | (refine Fr.of_snd (by assumption) ?_)
      | (refine Fr.of_fst (by assumption) ?_)
      | split
      | (unfold v; split)
      | (unfold v; clear_value *; split)
      | (clear_value *; split)

theorem execBrakeChopperShorted_fr {s t_ : State} {x : Axis} {us : ℕ} (e_ : execBrakeChopperShorted x us s = .next t_) : Fr 0xc2c01000008004bc180000400000000000000000000000000000000000000240002207f400 s t_ := by
  unfold execBrakeChopperShorted at e_
  obtain rfl := Host.Outcome.next.inj e_
  clear e_
  have h0 := Fr.refl 0xc2c01000008004bc180000400000000000000000000000000000000000000240002207f400 s
  repeat' first
      | ((try lift_lets); intro v; refine_lift have hv : Fr 0xc2c01000008004bc180000400000000000000000000000000000000000000240002207f400 s v := ?_; ?_; clear_value v)
      | ((try lift_lets); intro v)
      | with_reducible refine State.cascadeOut_fr ?_
      | with_reducible refine State.faultOn_fr ?_
      | with_reducible refine State.modTr_fr ?_
      | with_reducible refine Fr.ite ?_ ?_
      | with_reducible refine Fr.cond ?_ ?_
      | with_reducible assumption
      | (refine Fr.of_snd (by assumption) ?_)
      | (refine Fr.of_fst (by assumption) ?_)
      | split
      | (unfold v; split)
      | (unfold v; clear_value *; split)
      | (clear_value *; split)

theorem execBrakeChopperOpen_fr {s t_ : State} {x : Axis} {ms : ℕ} {minDuty : Word} {vStart : Word} {vEnd : Word} {meanI : Word} {meanDuty : Word} {meanV : Word} (e_ : execBrakeChopperOpen x ms minDuty vStart vEnd meanI meanDuty meanV s = .next t_) : Fr 0xc2c01000008004bc180000400000000000000000000000000000000000000240002207f400 s t_ := by
  unfold execBrakeChopperOpen at e_
  obtain rfl := Host.Outcome.next.inj e_
  clear e_
  have h0 := Fr.refl 0xc2c01000008004bc180000400000000000000000000000000000000000000240002207f400 s
  repeat' first
      | ((try lift_lets); intro v; refine_lift have hv : Fr 0xc2c01000008004bc180000400000000000000000000000000000000000000240002207f400 s v := ?_; ?_; clear_value v)
      | ((try lift_lets); intro v)
      | with_reducible refine State.cascadeOut_fr ?_
      | with_reducible refine State.faultOn_fr ?_
      | with_reducible refine Fr.running ?_ (fun t ht => ?_)
      | with_reducible refine Fr.ite ?_ ?_
      | with_reducible refine Fr.cond ?_ ?_
      | with_reducible assumption
      | (refine Fr.of_snd (by assumption) ?_)
      | (refine Fr.of_fst (by assumption) ?_)
      | split
      | (unfold v; split)
      | (unfold v; clear_value *; split)
      | (clear_value *; split)

theorem State.busOvFault_fr {κ : Nat} {s0 s : State} {x : Axis} {detail : ℕ} (hf_ : Fr κ s0 s) (hk_ : 0xc2c01000008004bc1c0004400000000020400000000000000000000000000240002207f420 &&& κ = 0xc2c01000008004bc1c0004400000000020400000000000000000000000000240002207f420 := by decide) :
    Fr κ s0 (State.busOvFault s x detail) := by
  refine Fr.lift hf_ hk_ ?_
  clear hf_ hk_
  unfold State.busOvFault
  have h0 := Fr.refl 0xc2c01000008004bc1c0004400000000020400000000000000000000000000240002207f420 s
  repeat' first
      | ((try lift_lets); intro v; refine_lift have hv : Fr 0xc2c01000008004bc1c0004400000000020400000000000000000000000000240002207f420 s v := ?_; ?_; clear_value v)
      | ((try lift_lets); intro v)
      | with_reducible refine State.chooseSafe_fr ?_
      | with_reducible refine State.faultOn_fr ?_
      | with_reducible refine Fr.ite ?_ ?_
      | with_reducible refine Fr.cond ?_ ?_
      | with_reducible assumption
      | (refine Fr.of_snd (by assumption) ?_)
      | (refine Fr.of_fst (by assumption) ?_)
      | split
      | (unfold v; split)
      | (unfold v; clear_value *; split)
      | (clear_value *; split)

theorem State.busOvOn_fr {κ : Nat} {s0 s : State} {x : Axis} (hf_ : Fr κ s0 s) (hk_ : 0xc2c01000008004bc1c0004400000000020400000000000000000000000000240002207f420 &&& κ = 0xc2c01000008004bc1c0004400000000020400000000000000000000000000240002207f420 := by decide) :
    Fr κ s0 (State.busOvOn s x) := by
  refine Fr.lift hf_ hk_ ?_
  clear hf_ hk_
  unfold State.busOvOn
  have h0 := Fr.refl 0xc2c01000008004bc1c0004400000000020400000000000000000000000000240002207f420 s
  repeat' first
      | ((try lift_lets); intro v; refine_lift have hv : Fr 0xc2c01000008004bc1c0004400000000020400000000000000000000000000240002207f420 s v := ?_; ?_; clear_value v)
      | ((try lift_lets); intro v)
      | with_reducible refine State.settle_fr ?_
      | with_reducible refine State.busOvFault_fr ?_
      | with_reducible refine State.command_fr ?_
      | with_reducible refine State.modTr_fr ?_
      | with_reducible refine State.set_fr ?_
      | with_reducible refine Fr.ite ?_ ?_
      | with_reducible refine Fr.cond ?_ ?_
      | with_reducible assumption
      | (refine Fr.of_snd (by assumption) ?_)
      | (refine Fr.of_fst (by assumption) ?_)
      | split
      | (unfold v; split)
      | (unfold v; clear_value *; split)
      | (clear_value *; split)

theorem State.busOvOff_fr {κ : Nat} {s0 s : State} {x : Axis} (hf_ : Fr κ s0 s) (hk_ : 0x101800000000000000000000000000000000000000000000000000060000 &&& κ = 0x101800000000000000000000000000000000000000000000000000060000 := by decide) :
    Fr κ s0 (State.busOvOff s x) := by
  refine Fr.lift hf_ hk_ ?_
  clear hf_ hk_
  unfold State.busOvOff
  have h0 := Fr.refl 0x101800000000000000000000000000000000000000000000000000060000 s
  repeat' first
      | ((try lift_lets); intro v; refine_lift have hv : Fr 0x101800000000000000000000000000000000000000000000000000060000 s v := ?_; ?_; clear_value v)
      | ((try lift_lets); intro v)
      | with_reducible refine State.settle_fr ?_
      | with_reducible refine State.modTr_fr ?_
      | with_reducible refine State.set_fr ?_
      | with_reducible refine State.setCause_fr ?_
      | with_reducible refine Fr.ite ?_ ?_
      | with_reducible refine Fr.cond ?_ ?_
      | with_reducible assumption
      | (refine Fr.of_snd (by assumption) ?_)
      | (refine Fr.of_fst (by assumption) ?_)
      | split
      | (unfold v; split)
      | (unfold v; clear_value *; split)
      | (clear_value *; split)

theorem execBusOvervoltageSignal_fr {s t_ : State} {x : Axis} {asserted : Bool} (e_ : execBusOvervoltageSignal x asserted s = .next t_) : Fr 0xc2c01000008004bc1c0004400000000020400000000000000000000000000240002207f420 s t_ := by
  unfold execBusOvervoltageSignal at e_
  obtain rfl := Host.Outcome.next.inj e_
  clear e_
  have h0 := Fr.refl 0xc2c01000008004bc1c0004400000000020400000000000000000000000000240002207f420 s
  repeat' first
      | ((try lift_lets); intro v; refine_lift have hv : Fr 0xc2c01000008004bc1c0004400000000020400000000000000000000000000240002207f420 s v := ?_; ?_; clear_value v)
      | ((try lift_lets); intro v)
      | with_reducible refine State.busOvOff_fr ?_
      | with_reducible refine State.busOvOn_fr ?_
      | with_reducible refine Fr.ite ?_ ?_
      | with_reducible refine Fr.cond ?_ ?_
      | with_reducible assumption
      | (refine Fr.of_snd (by assumption) ?_)
      | (refine Fr.of_fst (by assumption) ?_)
      | split
      | (unfold v; split)
      | (unfold v; clear_value *; split)
      | (clear_value *; split)

theorem State.protClr_fr {κ : Nat} {s0 s : State} {x : Axis} {w : Word} (hf_ : Fr κ s0 s) (hk_ : 0x3400000000000000000000000000000000000000000000000000000000 &&& κ = 0x3400000000000000000000000000000000000000000000000000000000 := by decide) :
    Fr κ s0 (State.protClr s x w) := by
  refine Fr.lift hf_ hk_ ?_
  clear hf_ hk_
  unfold State.protClr
  have h0 := Fr.refl 0x3400000000000000000000000000000000000000000000000000000000 s
  repeat' first
      | ((try lift_lets); intro v; refine_lift have hv : Fr 0x3400000000000000000000000000000000000000000000000000000000 s v := ?_; ?_; clear_value v)
      | ((try lift_lets); intro v)
      | with_reducible refine State.set_fr ?_
      | with_reducible refine Fr.ite ?_ ?_
      | with_reducible refine Fr.cond ?_ ?_
      | with_reducible assumption
      | (refine Fr.of_snd (by assumption) ?_)
      | (refine Fr.of_fst (by assumption) ?_)
      | split
      | (unfold v; split)
      | (unfold v; clear_value *; split)
      | (clear_value *; split)

theorem execProtClr_fr {s t_ : State} {x : Axis} {w : Word} (e_ : execProtClr x w s = .next t_) : Fr 0x3400000000000000000000000000000000000000000000000000000000 s t_ := by
  unfold execProtClr at e_
  obtain rfl := Host.Outcome.next.inj e_
  clear e_
  have h0 := Fr.refl 0x3400000000000000000000000000000000000000000000000000000000 s
  repeat' first
      | ((try lift_lets); intro v; refine_lift have hv : Fr 0x3400000000000000000000000000000000000000000000000000000000 s v := ?_; ?_; clear_value v)
      | ((try lift_lets); intro v)
      | with_reducible refine State.protClr_fr ?_
      | with_reducible refine Fr.running ?_ (fun t ht => ?_)
      | with_reducible refine Fr.ite ?_ ?_
      | with_reducible refine Fr.cond ?_ ?_
      | with_reducible assumption
      | (refine Fr.of_snd (by assumption) ?_)
      | (refine Fr.of_fst (by assumption) ?_)
      | split
      | (unfold v; split)
      | (unfold v; clear_value *; split)
      | (clear_value *; split)

end Sys2Proof.Machine
end

