-- ==== Sys2Proof/Laws/FrameTimebase.lean ====
section
/-! SUPPORT. Frames of the operations of Machine/Timebase.lean: one lemma each (Laws/Frame.lean). -/

namespace Sys2Proof.Machine

set_option Elab.async false

theorem execEdgeCommand_fr {s t_ : State} {x : Axis} {at_ : ℕ} {lead : ℕ} (e_ : execEdgeCommand x at_ lead s = .next t_) : Fr 0x2c01000000000800000004000000000000000000000000000000000180002400002198400 s t_ := by
  unfold execEdgeCommand at e_
  obtain rfl := Host.Outcome.next.inj e_
  clear e_
  have h0 := Fr.refl 0x2c01000000000800000004000000000000000000000000000000000180002400002198400 s
  repeat' first
      | ((try lift_lets); intro v; refine_lift have hv : Fr 0x2c01000000000800000004000000000000000000000000000000000180002400002198400 s v := ?_; ?_; clear_value v)
      | ((try lift_lets); intro v)
      | with_reducible refine Fr.forEach ?_ (fun t a ht => ?_)
      | with_reducible refine State.evx_fr ?_
      | with_reducible refine State.inc_fr ?_
      | with_reducible refine State.modTb_fr ?_
      | with_reducible refine State.set_fr ?_
      | with_reducible refine Fr.ite ?_ ?_
      | with_reducible refine Fr.cond ?_ ?_
      | with_reducible assumption
      | (refine Fr.of_snd (by assumption) ?_)
      | (refine Fr.of_fst (by assumption) ?_)
      | split
      | (unfold v; split)
      | (unfold v; clear_value *; split)
      | (clear_value *; split)

theorem State.setComplete_fr {κ : Nat} {s0 s : State} {x : Axis} {slot : Nat} (hf_ : Fr κ s0 s) (hk_ : 0x1800000000180000 &&& κ = 0x1800000000180000 := by decide) :
    Fr κ s0 (State.setComplete s x slot) := by
  refine Fr.lift hf_ hk_ ?_
  clear hf_ hk_
  unfold State.setComplete
  have h0 := Fr.refl 0x1800000000180000 s
  repeat' first
      | ((try lift_lets); intro v; refine_lift have hv : Fr 0x1800000000180000 s v := ?_; ?_; clear_value v)
      | ((try lift_lets); intro v)
      | with_reducible refine Fr.forEach ?_ (fun t a ht => ?_)
      | with_reducible refine State.modTb_fr ?_
      | with_reducible refine State.take_fr ?_
      | with_reducible refine State.wr_fr ?_
      | with_reducible refine Fr.ite ?_ ?_
      | with_reducible refine Fr.cond ?_ ?_
      | with_reducible assumption
      | with_reducible exact Fr.id_ (by with_reducible assumption)
      | (refine Fr.of_snd (by assumption) ?_)
      | (refine Fr.of_fst (by assumption) ?_)
      | split
      | (unfold v; split)
      | (unfold v; clear_value *; split)
      | (clear_value *; split)

theorem State.setWord_fr {κ : Nat} {s0 s : State} {x : Axis} {n : Nat} {w : Word} {serves : Option (Nat × Nat)} (hf_ : Fr κ s0 s) (hk_ : 0x1800000000180010 &&& κ = 0x1800000000180010 := by decide) :
    Fr κ s0 (State.setWord s x n w serves) := by
  refine Fr.lift hf_ hk_ ?_
  clear hf_ hk_
  unfold State.setWord
  have h0 := Fr.refl 0x1800000000180010 s
  repeat' first
      | ((try lift_lets); intro v; refine_lift have hv : Fr 0x1800000000180010 s v := ?_; ?_; clear_value v)
      | ((try lift_lets); intro v)
      | with_reducible refine State.setComplete_fr ?_
      | with_reducible refine State.setSh_fr ?_
      | with_reducible refine Fr.ite ?_ ?_
      | with_reducible refine Fr.cond ?_ ?_
      | with_reducible assumption
      | with_reducible exact Fr.id_ (by with_reducible assumption)
      | (refine Fr.of_snd (by assumption) ?_)
      | (refine Fr.of_fst (by assumption) ?_)
      | split
      | (unfold v; split)
      | (unfold v; clear_value *; split)
      | (clear_value *; split)

theorem execCompareSetArrival_fr {s t_ : State} {x : Axis} {du : Word} {dv : Word} {dw : Word} {six : Word} {serves : Option (Nat × Nat)} (e_ : execCompareSetArrival x du dv dw six serves s = .next t_) : Fr 0x1800000000180010 s t_ := by
  unfold execCompareSetArrival at e_
  obtain rfl := Host.Outcome.next.inj e_
  clear e_
  have h0 := Fr.refl 0x1800000000180010 s
  repeat' first
      | ((try lift_lets); intro v; refine_lift have hv : Fr 0x1800000000180010 s v := ?_; ?_; clear_value v)
      | ((try lift_lets); intro v)
      | with_reducible refine Fr.running ?_ (fun t ht => ?_)
      | with_reducible refine State.setWord_fr ?_
      | with_reducible refine Fr.ite ?_ ?_
      | with_reducible refine Fr.cond ?_ ?_
      | with_reducible assumption
      | with_reducible exact Fr.id_ (by with_reducible assumption)
      | (refine Fr.of_snd (by assumption) ?_)
      | (refine Fr.of_fst (by assumption) ?_)
      | split
      | (unfold v; split)
      | (unfold v; clear_value *; split)
      | (clear_value *; split)

theorem State.missRecord_fr {κ : Nat} {s0 s : State} {x : Axis} {missed : Bool} (hf_ : Fr κ s0 s) (hk_ : 0xc2c01000008004bc1c000440000000002040000000000000000000000800034000221ff420 &&& κ = 0xc2c01000008004bc1c000440000000002040000000000000000000000800034000221ff420 := by decide) :
    Fr κ s0 (State.missRecord s x missed) := by
  refine Fr.lift hf_ hk_ ?_
  clear hf_ hk_
  unfold State.missRecord
  have h0 := Fr.refl 0xc2c01000008004bc1c000440000000002040000000000000000000000800034000221ff420 s
  repeat' first
      | ((try lift_lets); intro v; refine_lift have hv : Fr 0xc2c01000008004bc1c000440000000002040000000000000000000000800034000221ff420 s v := ?_; ?_; clear_value v)
      | ((try lift_lets); intro v)
      | with_reducible refine State.axisFaultOn_fr ?_
      | with_reducible refine State.inc_fr ?_
      | with_reducible refine State.modTb_fr ?_
      | with_reducible refine State.set_fr ?_
      | with_reducible refine State.setCause_fr ?_
      | with_reducible refine Fr.ite ?_ ?_
      | with_reducible refine Fr.cond ?_ ?_
      | with_reducible assumption
      | (refine Fr.of_snd (by assumption) ?_)
      | (refine Fr.of_fst (by assumption) ?_)
      | split
      | (unfold v; split)
      | (unfold v; clear_value *; split)
      | (clear_value *; split)

theorem State.useSet_fr {κ : Nat} {s0 s : State} {x : Axis} (hf_ : Fr κ s0 s) (hk_ : 0x2c01000000000800000004000000000000000000000000000000000180002400002198400 &&& κ = 0x2c01000000000800000004000000000000000000000000000000000180002400002198400 := by decide) :
    Fr κ s0 (State.useSet s x) := by
  refine Fr.lift hf_ hk_ ?_
  clear hf_ hk_
  unfold State.useSet
  have h0 := Fr.refl 0x2c01000000000800000004000000000000000000000000000000000180002400002198400 s
  repeat' first
      | ((try lift_lets); intro v; refine_lift have hv : Fr 0x2c01000000000800000004000000000000000000000000000000000180002400002198400 s v := ?_; ?_; clear_value v)
      | ((try lift_lets); intro v)
      | with_reducible refine State.evx_fr ?_
      | with_reducible refine State.inc_fr ?_
      | with_reducible refine State.modTb_fr ?_
      | with_reducible refine State.set_fr ?_
      | with_reducible refine Fr.forEach ?_ (fun t a ht => ?_)
      | with_reducible refine Fr.ite ?_ ?_
      | with_reducible refine Fr.cond ?_ ?_
      | with_reducible assumption
      | (refine Fr.of_snd (by assumption) ?_)
      | (refine Fr.of_fst (by assumption) ?_)
      | split
      | (unfold v; split)
      | (unfold v; clear_value *; split)
      | (clear_value *; split)

theorem State.energy_fr {κ : Nat} {s0 s : State} {x : Axis} {vd : Word} {vq : Word} {id_ : Word} {iq : Word} {subTicks : ℕ} (hf_ : Fr κ s0 s) (hk_ : 0x6000000000000000000000000006000 &&& κ = 0x6000000000000000000000000006000 := by decide) :
    Fr κ s0 (State.energy s x vd vq id_ iq subTicks) := by
  refine Fr.lift hf_ hk_ ?_
  clear hf_ hk_
  unfold State.energy
  have h0 := Fr.refl 0x6000000000000000000000000006000 s
  repeat' first
      | ((try lift_lets); intro v; refine_lift have hv : Fr 0x6000000000000000000000000006000 s v := ?_; ?_; clear_value v)
      | ((try lift_lets); intro v)
      | with_reducible refine State.incBy_fr ?_
      | with_reducible refine State.modAx_fr ?_
      | with_reducible refine Fr.ite ?_ ?_
      | with_reducible refine Fr.cond ?_ ?_
      | with_reducible assumption
      | (refine Fr.of_snd (by assumption) ?_)
      | (refine Fr.of_fst (by assumption) ?_)
      | split
      | (unfold v; split)
      | (unfold v; clear_value *; split)
      | (clear_value *; split)

theorem State.takeUpdate_fr {κ : Nat} {s0 s : State} {x : Axis} (hf_ : Fr κ s0 s) (hk_ : 0xc100000000000000 &&& κ = 0xc100000000000000 := by decide) :
    Fr κ s0 (State.takeUpdate s x) := by
  refine Fr.lift hf_ hk_ ?_
  clear hf_ hk_
  unfold State.takeUpdate
  have h0 := Fr.refl 0xc100000000000000 s
  repeat' first
      | ((try lift_lets); intro v; refine_lift have hv : Fr 0xc100000000000000 s v := ?_; ?_; clear_value v)
      | ((try lift_lets); intro v)
      | with_reducible refine State.take_fr ?_
      | with_reducible refine Fr.forEachFld ?_ (fun t f hf ht => ?_)
      | with_reducible refine Fr.forEach ?_ (fun t a ht => ?_)
      | with_reducible refine Fr.ite ?_ ?_
      | with_reducible refine Fr.cond ?_ ?_
      | with_reducible assumption
      | (refine Fr.of_snd (by assumption) ?_)
      | (refine Fr.of_fst (by assumption) ?_)
      | split
      | (unfold v; split)
      | (unfold v; clear_value *; split)
      | (clear_value *; split)

theorem State.markInterval_fr {κ : Nat} {s0 s : State} {x : Axis} (hf_ : Fr κ s0 s) (hk_ : 0x180000 &&& κ = 0x180000 := by decide) :
    Fr κ s0 (State.markInterval s x) := by
  refine Fr.lift hf_ hk_ ?_
  clear hf_ hk_
  unfold State.markInterval
  have h0 := Fr.refl 0x180000 s
  repeat' first
      | ((try lift_lets); intro v; refine_lift have hv : Fr 0x180000 s v := ?_; ?_; clear_value v)
      | ((try lift_lets); intro v)
      | with_reducible refine State.modTb_fr ?_
      | with_reducible refine Fr.ite ?_ ?_
      | with_reducible refine Fr.cond ?_ ?_
      | with_reducible assumption
      | with_reducible exact Fr.id_ (by with_reducible assumption)
      | (refine Fr.of_snd (by assumption) ?_)
      | (refine Fr.of_fst (by assumption) ?_)
      | split
      | (unfold v; split)
      | (unfold v; clear_value *; split)
      | (clear_value *; split)

theorem execUpdateInstant_fr {s t_ : State} {x : Axis} {peak : Bool} (e_ : execUpdateInstant x peak s = .next t_) : Fr 0xc2c01000008004bc1c0214400000000020400000010601000000000018d9034000a21ff420 s t_ := by
  unfold execUpdateInstant at e_
  obtain rfl := Host.Outcome.next.inj e_
  clear e_
  have h0 := Fr.refl 0xc2c01000008004bc1c0214400000000020400000010601000000000018d9034000a21ff420 s
  repeat' first
      | ((try lift_lets); intro v; refine_lift have hv : Fr 0xc2c01000008004bc1c0214400000000020400000010601000000000018d9034000a21ff420 s v := ?_; ?_; clear_value v)
      | ((try lift_lets); intro v)
      | with_reducible refine State.edgesClose_fr ?_
      | with_reducible refine State.bandShift_fr ?_
      | with_reducible refine State.energy_fr ?_
      | with_reducible refine Fr.forEach ?_ (fun t a ht => ?_)
      | with_reducible refine State.markInterval_fr ?_
      | with_reducible refine State.missRecord_fr ?_
      | with_reducible refine State.modTb_fr ?_
      | with_reducible refine State.refresh_fr ?_
      | with_reducible refine State.set_fr ?_
      | with_reducible refine State.take_fr ?_
      | with_reducible refine State.takeUpdate_fr ?_
      | with_reducible refine State.useSet_fr ?_
      | with_reducible refine State.wr_fr ?_
      | with_reducible refine Fr.ite ?_ ?_
      | with_reducible refine Fr.cond ?_ ?_
      | with_reducible assumption
      | with_reducible exact Fr.id_ (by with_reducible assumption)
      | (refine Fr.of_snd (by assumption) ?_)
      | (refine Fr.of_fst (by assumption) ?_)
      | split
      | (unfold v; split)
      | (unfold v; clear_value *; split)
      | (clear_value *; split)

theorem State.periodTo_fr {κ : Nat} {s0 s : State} {x : Axis} {new : Nat} (hf_ : Fr κ s0 s) (hk_ : 0x2c01000000000800000084000000000011000000000000000000000040002400002018410 &&& κ = 0x2c01000000000800000084000000000011000000000000000000000040002400002018410 := by decide) :
    Fr κ s0 (State.periodTo s x new) := by
  refine Fr.lift hf_ hk_ ?_
  clear hf_ hk_
  unfold State.periodTo
  have h0 := Fr.refl 0x2c01000000000800000084000000000011000000000000000000000040002400002018410 s
  repeat' first
      | ((try lift_lets); intro v; refine_lift have hv : Fr 0x2c01000000000800000084000000000011000000000000000000000040002400002018410 s v := ?_; ?_; clear_value v)
      | ((try lift_lets); intro v)
      | with_reducible refine State.derivePeriod_fr ?_
      | with_reducible refine State.evx_fr ?_
      | with_reducible refine State.set_fr ?_
      | with_reducible refine Fr.ite ?_ ?_
      | with_reducible refine Fr.cond ?_ ?_
      | with_reducible assumption
      | with_reducible exact Fr.id_ (by with_reducible assumption)
      | (refine Fr.of_snd (by assumption) ?_)
      | (refine Fr.of_fst (by assumption) ?_)
      | split
      | (unfold v; split)
      | (unfold v; clear_value *; split)
      | (clear_value *; split)

@[simp] theorem drvFld_fam {x : Axis} : fam (drvFld x).reg = 212 := by cases x <;> rfl

theorem State.periodApply_fr {κ : Nat} {s0 s : State} {x : Axis} (hf_ : Fr κ s0 s) (hk_ : 0x2c010000000008000000840000000000110000000000000000000000c0202400002018410 &&& κ = 0x2c010000000008000000840000000000110000000000000000000000c0202400002018410 := by decide) :
    Fr κ s0 (State.periodApply s x) := by
  refine Fr.lift hf_ hk_ ?_
  clear hf_ hk_
  unfold State.periodApply
  have h0 := Fr.refl 0x2c010000000008000000840000000000110000000000000000000000c0202400002018410 s
  repeat' first
      | ((try lift_lets); intro v; refine_lift have hv : Fr 0x2c010000000008000000840000000000110000000000000000000000c0202400002018410 s v := ?_; ?_; clear_value v)
      | ((try lift_lets); intro v)
      | with_reducible refine State.periodTo_fr ?_
      | with_reducible refine State.derivePeriod_fr ?_
      | with_reducible refine State.evx_fr ?_
      | with_reducible refine State.set_fr ?_
      | with_reducible refine State.take_fr ?_
      | with_reducible refine Fr.ite ?_ ?_
      | with_reducible refine Fr.cond ?_ ?_
      | with_reducible assumption
      | (refine Fr.of_snd (by assumption) ?_)
      | (refine Fr.of_fst (by assumption) ?_)
      | split
      | (unfold v; split)
      | (unfold v; clear_value *; split)
      | (clear_value *; split)

theorem State.periodServe_fr {κ : Nat} {s0 s : State} {x : Axis} (hf_ : Fr κ s0 s) (hk_ : 0x2c010000000008000000840000000000110000000000000000000000c0202400002018410 &&& κ = 0x2c010000000008000000840000000000110000000000000000000000c0202400002018410 := by decide) :
    Fr κ s0 (State.periodServe s x) := by
  refine Fr.lift hf_ hk_ ?_
  clear hf_ hk_
  unfold State.periodServe
  have h0 := Fr.refl 0x2c010000000008000000840000000000110000000000000000000000c0202400002018410 s
  repeat' first
      | ((try lift_lets); intro v; refine_lift have hv : Fr 0x2c010000000008000000840000000000110000000000000000000000c0202400002018410 s v := ?_; ?_; clear_value v)
      | ((try lift_lets); intro v)
      | with_reducible refine State.periodApply_fr ?_
      | with_reducible refine State.periodTo_fr ?_
      | with_reducible refine Fr.ite ?_ ?_
      | with_reducible refine Fr.cond ?_ ?_
      | with_reducible assumption
      | with_reducible exact Fr.id_ (by with_reducible assumption)
      | (refine Fr.of_snd (by assumption) ?_)
      | (refine Fr.of_fst (by assumption) ?_)
      | split
      | (unfold v; split)
      | (unfold v; clear_value *; split)
      | (clear_value *; split)

theorem State.periodTouch_fr {κ : Nat} {s0 s : State} {x : Axis} (hf_ : Fr κ s0 s) (hk_ : 0x2c010000000008000000840000000000110000000000000000000000c0202400002198410 &&& κ = 0x2c010000000008000000840000000000110000000000000000000000c0202400002198410 := by decide) :
    Fr κ s0 (State.periodTouch s x) := by
  refine Fr.lift hf_ hk_ ?_
  clear hf_ hk_
  unfold State.periodTouch
  have h0 := Fr.refl 0x2c010000000008000000840000000000110000000000000000000000c0202400002198410 s
  repeat' first
      | ((try lift_lets); intro v; refine_lift have hv : Fr 0x2c010000000008000000840000000000110000000000000000000000c0202400002198410 s v := ?_; ?_; clear_value v)
      | ((try lift_lets); intro v)
      | with_reducible refine State.modTb_fr ?_
      | with_reducible refine State.periodApply_fr ?_
      | with_reducible refine State.set_fr ?_
      | with_reducible refine Fr.ite ?_ ?_
      | with_reducible refine Fr.cond ?_ ?_
      | with_reducible assumption
      | (refine Fr.of_snd (by assumption) ?_)
      | (refine Fr.of_fst (by assumption) ?_)
      | split
      | (unfold v; split)
      | (unfold v; clear_value *; split)
      | (clear_value *; split)

theorem State.periodWrite_fr {κ : Nat} {s0 s : State} {x : Axis} {w : Word} (hf_ : Fr κ s0 s) (hk_ : 0x2c010000000008000000840000000000110000000000000000000000c0202400002198410 &&& κ = 0x2c010000000008000000840000000000110000000000000000000000c0202400002198410 := by decide) :
    Fr κ s0 (State.periodWrite s x w) := by
  refine Fr.lift hf_ hk_ ?_
  clear hf_ hk_
  unfold State.periodWrite
  have h0 := Fr.refl 0x2c010000000008000000840000000000110000000000000000000000c0202400002198410 s
  repeat' first
      | ((try lift_lets); intro v; refine_lift have hv : Fr 0x2c010000000008000000840000000000110000000000000000000000c0202400002198410 s v := ?_; ?_; clear_value v)
      | ((try lift_lets); intro v)
      | with_reducible refine State.periodTouch_fr ?_
      | with_reducible refine State.set_fr ?_
      | with_reducible refine State.setSh_fr ?_
      | with_reducible refine Fr.ite ?_ ?_
      | with_reducible refine Fr.cond ?_ ?_
      | with_reducible assumption
      | (refine Fr.of_snd (by assumption) ?_)
      | (refine Fr.of_fst (by assumption) ?_)
      | split
      | (unfold v; split)
      | (unfold v; clear_value *; split)
      | (clear_value *; split)

theorem execPeriodWrite_fr {s t_ : State} {x : Axis} {w : Word} (e_ : execPeriodWrite x w s = .next t_) : Fr 0x2c010000000008000000840000000000110000000000000000000000c0202400002198410 s t_ := by
  unfold execPeriodWrite at e_
  obtain rfl := Host.Outcome.next.inj e_
  clear e_
  have h0 := Fr.refl 0x2c010000000008000000840000000000110000000000000000000000c0202400002198410 s
  repeat' first
      | ((try lift_lets); intro v; refine_lift have hv : Fr 0x2c010000000008000000840000000000110000000000000000000000c0202400002198410 s v := ?_; ?_; clear_value v)
      | ((try lift_lets); intro v)
      | with_reducible refine State.periodWrite_fr ?_
      | with_reducible refine Fr.running ?_ (fun t ht => ?_)
      | with_reducible refine Fr.ite ?_ ?_
      | with_reducible refine Fr.cond ?_ ?_
      | with_reducible assumption
      | (refine Fr.of_snd (by assumption) ?_)
      | (refine Fr.of_fst (by assumption) ?_)
      | split
      | (unfold v; split)
      | (unfold v; clear_value *; split)
      | (clear_value *; split)

theorem State.lockLost_fr {κ : Nat} {s0 s : State}  (hf_ : Fr κ s0 s) (hk_ : 0x2c01000000000800000004000000000000000000000000000000000080002400002018400 &&& κ = 0x2c01000000000800000004000000000000000000000000000000000080002400002018400 := by decide) :
    Fr κ s0 (State.lockLost s) := by
  refine Fr.lift hf_ hk_ ?_
  clear hf_ hk_
  unfold State.lockLost
  have h0 := Fr.refl 0x2c01000000000800000004000000000000000000000000000000000080002400002018400 s
  repeat' first
      | ((try lift_lets); intro v; refine_lift have hv : Fr 0x2c01000000000800000004000000000000000000000000000000000080002400002018400 s v := ?_; ?_; clear_value v)
      | ((try lift_lets); intro v)
      | with_reducible refine State.evx_fr ?_
      | with_reducible refine State.set_fr ?_
      | with_reducible refine Fr.ite ?_ ?_
      | with_reducible refine Fr.cond ?_ ?_
      | with_reducible assumption
      | (refine Fr.of_snd (by assumption) ?_)
      | (refine Fr.of_fst (by assumption) ?_)
      | split
      | (unfold v; split)
      | (unfold v; clear_value *; split)
      | (clear_value *; split)

theorem State.lockStep_fr {κ : Nat} {s0 s : State} {since : ℕ} (hf_ : Fr κ s0 s) (hk_ : 0x2c01000000000800000004000000000000000000000000000000000080002400002198400 &&& κ = 0x2c01000000000800000004000000000000000000000000000000000080002400002198400 := by decide) :
    Fr κ s0 (State.lockStep s since) := by
  refine Fr.lift hf_ hk_ ?_
  clear hf_ hk_
  unfold State.lockStep
  have h0 := Fr.refl 0x2c01000000000800000004000000000000000000000000000000000080002400002198400 s
  repeat' first
      | ((try lift_lets); intro v; refine_lift have hv : Fr 0x2c01000000000800000004000000000000000000000000000000000080002400002198400 s v := ?_; ?_; clear_value v)
      | ((try lift_lets); intro v)
      | with_reducible refine State.lockLost_fr ?_
      | with_reducible refine State.modTb_fr ?_
      | with_reducible refine State.setB_fr ?_
      | with_reducible refine Fr.ite ?_ ?_
      | with_reducible refine Fr.cond ?_ ?_
      | with_reducible assumption
      | (refine Fr.of_snd (by assumption) ?_)
      | (refine Fr.of_fst (by assumption) ?_)
      | split
      | (unfold v; split)
      | (unfold v; clear_value *; split)
      | (clear_value *; split)

theorem State.takeValley_fr {κ : Nat} {s0 s : State} {x : Axis} (hf_ : Fr κ s0 s) (hk_ : 0x12000000000000000 &&& κ = 0x12000000000000000 := by decide) :
    Fr κ s0 (State.takeValley s x) := by
  refine Fr.lift hf_ hk_ ?_
  clear hf_ hk_
  unfold State.takeValley
  have h0 := Fr.refl 0x12000000000000000 s
  repeat' first
      | ((try lift_lets); intro v; refine_lift have hv : Fr 0x12000000000000000 s v := ?_; ?_; clear_value v)
      | ((try lift_lets); intro v)
      | with_reducible refine State.take_fr ?_
      | with_reducible refine Fr.forEach ?_ (fun t a ht => ?_)
      | with_reducible refine Fr.ite ?_ ?_
      | with_reducible refine Fr.cond ?_ ?_
      | with_reducible assumption
      | (refine Fr.of_snd (by assumption) ?_)
      | (refine Fr.of_fst (by assumption) ?_)
      | split
      | (unfold v; split)
      | (unfold v; clear_value *; split)
      | (clear_value *; split)

theorem State.takeLock_fr {κ : Nat} {s0 s : State}  (hf_ : Fr κ s0 s) (hk_ : 0x20100000000000000 &&& κ = 0x20100000000000000 := by decide) :
    Fr κ s0 (State.takeLock s) := by
  refine Fr.lift hf_ hk_ ?_
  clear hf_ hk_
  unfold State.takeLock
  have h0 := Fr.refl 0x20100000000000000 s
  repeat' first
      | ((try lift_lets); intro v; refine_lift have hv : Fr 0x20100000000000000 s v := ?_; ?_; clear_value v)
      | ((try lift_lets); intro v)
      | with_reducible refine State.take_fr ?_
      | with_reducible refine Fr.ite ?_ ?_
      | with_reducible refine Fr.cond ?_ ?_
      | with_reducible assumption
      | (refine Fr.of_snd (by assumption) ?_)
      | (refine Fr.of_fst (by assumption) ?_)
      | split
      | (unfold v; split)
      | (unfold v; clear_value *; split)
      | (clear_value *; split)

theorem execValleyOrWrap_fr {s t_ : State} {x : Axis} {since : ℕ} (e_ : execValleyOrWrap x since s = .next t_) : Fr 0x2c010000000008000000840000000000110000000000000000000000f2302400002198410 s t_ := by
  unfold execValleyOrWrap at e_
  obtain rfl := Host.Outcome.next.inj e_
  clear e_
  have h0 := Fr.refl 0x2c010000000008000000840000000000110000000000000000000000f2302400002198410 s
  repeat' first
      | ((try lift_lets); intro v; refine_lift have hv : Fr 0x2c010000000008000000840000000000110000000000000000000000f2302400002198410 s v := ?_; ?_; clear_value v)
      | ((try lift_lets); intro v)
      | with_reducible refine State.periodServe_fr ?_
      | with_reducible refine State.lockLost_fr ?_
      | with_reducible refine State.lockStep_fr ?_
      | with_reducible refine State.modTb_fr ?_
      | with_reducible refine State.periodApply_fr ?_
      | with_reducible refine State.takeLock_fr ?_
      | with_reducible refine State.takeValley_fr ?_
      | with_reducible refine Fr.ite ?_ ?_
      | with_reducible refine Fr.cond ?_ ?_
      | with_reducible assumption
      | (refine Fr.of_snd (by assumption) ?_)
      | (refine Fr.of_fst (by assumption) ?_)
      | split
      | (unfold v; split)
      | (unfold v; clear_value *; split)
      | (clear_value *; split)

theorem State.restart_fr {κ : Nat} {s0 s : State} {x : Axis} (hf_ : Fr κ s0 s) (hk_ : 0x2c010000000008000000840000000000110000000000000000000000c0202400002198410 &&& κ = 0x2c010000000008000000840000000000110000000000000000000000c0202400002198410 := by decide) :
    Fr κ s0 (State.restart s x) := by
  refine Fr.lift hf_ hk_ ?_
  clear hf_ hk_
  unfold State.restart
  have h0 := Fr.refl 0x2c010000000008000000840000000000110000000000000000000000c0202400002198410 s
  repeat' first
      | ((try lift_lets); intro v; refine_lift have hv : Fr 0x2c010000000008000000840000000000110000000000000000000000c0202400002198410 s v := ?_; ?_; clear_value v)
      | ((try lift_lets); intro v)
      | with_reducible refine State.markInterval_fr ?_
      | with_reducible refine State.lockLost_fr ?_
      | with_reducible refine State.modTb_fr ?_
      | with_reducible refine State.periodApply_fr ?_
      | with_reducible refine Fr.ite ?_ ?_
      | with_reducible refine Fr.cond ?_ ?_
      | with_reducible assumption
      | (refine Fr.of_snd (by assumption) ?_)
      | (refine Fr.of_fst (by assumption) ?_)
      | split
      | (unfold v; split)
      | (unfold v; clear_value *; split)
      | (clear_value *; split)

theorem State.firstLatch_fr {κ : Nat} {s0 s : State} {x : Axis} (hf_ : Fr κ s0 s) (hk_ : 0x18000 &&& κ = 0x18000 := by decide) :
    Fr κ s0 (State.firstLatch s x) := by
  refine Fr.lift hf_ hk_ ?_
  clear hf_ hk_
  unfold State.firstLatch
  have h0 := Fr.refl 0x18000 s
  repeat' first
      | ((try lift_lets); intro v; refine_lift have hv : Fr 0x18000 s v := ?_; ?_; clear_value v)
      | ((try lift_lets); intro v)
      | with_reducible refine State.modSv_fr ?_
      | with_reducible refine Fr.ite ?_ ?_
      | with_reducible refine Fr.cond ?_ ?_
      | with_reducible assumption
      | with_reducible exact Fr.id_ (by with_reducible assumption)
      | (refine Fr.of_snd (by assumption) ?_)
      | (refine Fr.of_fst (by assumption) ?_)
      | split
      | (unfold v; split)
      | (unfold v; clear_value *; split)
      | (clear_value *; split)

theorem State.ctrlWrite_fr {κ : Nat} {s0 s : State} {x : Axis} {w : Word} (hf_ : Fr κ s0 s) (hk_ : 0x2c010000000008000000840000000000110000000000100000008001c030240000219e410 &&& κ = 0x2c010000000008000000840000000000110000000000100000008001c030240000219e410 := by decide) :
    Fr κ s0 (State.ctrlWrite s x w) := by
  refine Fr.lift hf_ hk_ ?_
  clear hf_ hk_
  unfold State.ctrlWrite
  have h0 := Fr.refl 0x2c010000000008000000840000000000110000000000100000008001c030240000219e410 s
  repeat' first
      | ((try lift_lets); intro v; refine_lift have hv : Fr 0x2c010000000008000000840000000000110000000000100000008001c030240000219e410 s v := ?_; ?_; clear_value v)
      | ((try lift_lets); intro v)
      | with_reducible refine State.firstLatch_fr ?_
      | with_reducible refine State.cmdRefuse_fr ?_
      | with_reducible refine State.restart_fr ?_
      | with_reducible refine State.set_fr ?_
      | with_reducible refine State.setSh_fr ?_
      | with_reducible refine State.wr_fr ?_
      | with_reducible refine Fr.forEachFld ?_ (fun t f hf ht => ?_)
      | with_reducible refine Fr.forEach ?_ (fun t a ht => ?_)
      | with_reducible refine Fr.ite ?_ ?_
      | with_reducible refine Fr.cond ?_ ?_
      | with_reducible assumption
      | (refine Fr.of_snd (by assumption) ?_)
      | (refine Fr.of_fst (by assumption) ?_)
      | split
      | (unfold v; split)
      | (unfold v; clear_value *; split)
      | (clear_value *; split)

theorem execReferenceClockLost_fr {s t_ : State}  (e_ : execReferenceClockLost s = .next t_) : Fr 0xc2c01000008004bc1c0004400000000020400000000000000000000000000240002307f420 s t_ := by
  unfold execReferenceClockLost at e_
  obtain rfl := Host.Outcome.next.inj e_
  clear e_
  have h0 := Fr.refl 0xc2c01000008004bc1c0004400000000020400000000000000000000000000240002307f420 s
  repeat' first
      | ((try lift_lets); intro v; refine_lift have hv : Fr 0xc2c01000008004bc1c0004400000000020400000000000000000000000000240002307f420 s v := ?_; ?_; clear_value v)
      | ((try lift_lets); intro v)
      | with_reducible refine State.fatal_fr ?_
      | with_reducible refine State.modSun_fr ?_
      | with_reducible refine State.setCause_fr ?_
      | with_reducible refine Fr.ite ?_ ?_
      | with_reducible refine Fr.cond ?_ ?_
      | with_reducible assumption
      | (refine Fr.of_snd (by assumption) ?_)
      | (refine Fr.of_fst (by assumption) ?_)
      | split
      | (unfold v; split)
      | (unfold v; clear_value *; split)
      | (clear_value *; split)

end Sys2Proof.Machine
end

