-- ==== Sys2Proof/Laws/FrameSundial.lean ====
section
/-! SUPPORT. Frames of the operations of Machine/Sundial.lean: one lemma each (Laws/Frame.lean). -/

namespace Sys2Proof.Machine

set_option Elab.async false

theorem State.sunLine_fr {κ : Nat} {s0 s : State} (hf_ : Fr κ s0 s) (hk_ : 0x1000000 &&& κ = 0x1000000 := by decide) :
    Fr κ s0 (State.sunLine s) := by
  refine Fr.lift hf_ hk_ ?_
  clear hf_ hk_
  unfold State.sunLine
  have h0 := Fr.refl 0x1000000 s
  repeat' first
      | ((try lift_lets); intro v; refine_lift have hv : Fr 0x1000000 s v := ?_; ?_; clear_value v)
      | ((try lift_lets); intro v)
      | with_reducible refine State.modSun_fr ?_
      | with_reducible refine Fr.ite ?_ ?_
      | with_reducible refine Fr.cond ?_ ?_
      | with_reducible assumption
      | with_reducible exact Fr.id_ (by with_reducible assumption)
      | (refine Fr.of_snd (by assumption) ?_)
      | (refine Fr.of_fst (by assumption) ?_)
      | split
      | (unfold v; split)
      | (unfold v; clear_value *; split)
      | (clear_value *; split)

theorem State.sunMove_fr {κ : Nat} {s0 s : State} {new : ℕ} (hf_ : Fr κ s0 s) (hk_ : 0x2c01000000000800000004000000000000000000000000000000008000002400003018400 &&& κ = 0x2c01000000000800000004000000000000000000000000000000008000002400003018400 := by decide) :
    Fr κ s0 (State.sunMove s new) := by
  refine Fr.lift hf_ hk_ ?_
  clear hf_ hk_
  unfold State.sunMove
  have h0 := Fr.refl 0x2c01000000000800000004000000000000000000000000000000008000002400003018400 s
  repeat' first
      | ((try lift_lets); intro v; refine_lift have hv : Fr 0x2c01000000000800000004000000000000000000000000000000008000002400003018400 s v := ?_; ?_; clear_value v)
      | ((try lift_lets); intro v)
      | with_reducible refine State.sunLine_fr ?_
      | with_reducible refine State.event_fr ?_
      | with_reducible refine State.modSun_fr ?_
      | with_reducible refine State.set_fr ?_
      | with_reducible refine Fr.ite ?_ ?_
      | with_reducible refine Fr.cond ?_ ?_
      | with_reducible assumption
      | (refine Fr.of_snd (by assumption) ?_)
      | (refine Fr.of_fst (by assumption) ?_)
      | split
      | (unfold v; split)
      | (unfold v; clear_value *; split)
      | (clear_value *; split)

theorem State.showDrift_fr {κ : Nat} {s0 s : State} (hf_ : Fr κ s0 s) (hk_ : 0x40000000000080000000 &&& κ = 0x40000000000080000000 := by decide) :
    Fr κ s0 (State.showDrift s) := by
  refine Fr.lift hf_ hk_ ?_
  clear hf_ hk_
  unfold State.showDrift
  have h0 := Fr.refl 0x40000000000080000000 s
  repeat' first
      | ((try lift_lets); intro v; refine_lift have hv : Fr 0x40000000000080000000 s v := ?_; ?_; clear_value v)
      | ((try lift_lets); intro v)
      | with_reducible refine State.set_fr ?_
      | with_reducible refine State.spent_fr ?_
      | with_reducible refine Fr.ite ?_ ?_
      | with_reducible refine Fr.cond ?_ ?_
      | with_reducible assumption
      | with_reducible exact Fr.id_ (by with_reducible assumption)
      | (refine Fr.of_snd (by assumption) ?_)
      | (refine Fr.of_fst (by assumption) ?_)
      | split
      | (unfold v; split)
      | (unfold v; clear_value *; split)
      | (clear_value *; split)

theorem State.sunEnter_fr {κ : Nat} {s0 s : State} {st : ℕ} (hf_ : Fr κ s0 s) (hk_ : 0x2c01000000000800000004000000000000000000000000000000048000002400083018400 &&& κ = 0x2c01000000000800000004000000000000000000000000000000048000002400083018400 := by decide) :
    Fr κ s0 (State.sunEnter s st) := by
  refine Fr.lift hf_ hk_ ?_
  clear hf_ hk_
  unfold State.sunEnter
  have h0 := Fr.refl 0x2c01000000000800000004000000000000000000000000000000048000002400083018400 s
  repeat' first
      | ((try lift_lets); intro v; refine_lift have hv : Fr 0x2c01000000000800000004000000000000000000000000000000048000002400083018400 s v := ?_; ?_; clear_value v)
      | ((try lift_lets); intro v)
      | with_reducible refine State.showDrift_fr ?_
      | with_reducible refine State.event_fr ?_
      | with_reducible refine State.modSun_fr ?_
      | with_reducible refine State.set_fr ?_
      | with_reducible refine Fr.ite ?_ ?_
      | with_reducible refine Fr.cond ?_ ?_
      | with_reducible assumption
      | (refine Fr.of_snd (by assumption) ?_)
      | (refine Fr.of_fst (by assumption) ?_)
      | split
      | (unfold v; split)
      | (unfold v; clear_value *; split)
      | (clear_value *; split)

theorem State.putRate_fr {κ : Nat} {s0 s : State} {u : ℤ} (hf_ : Fr κ s0 s) (hk_ : 0x10000000000081000000 &&& κ = 0x10000000000081000000 := by decide) :
    Fr κ s0 (State.putRate s u) := by
  refine Fr.lift hf_ hk_ ?_
  clear hf_ hk_
  unfold State.putRate
  have h0 := Fr.refl 0x10000000000081000000 s
  repeat' first
      | ((try lift_lets); intro v; refine_lift have hv : Fr 0x10000000000081000000 s v := ?_; ?_; clear_value v)
      | ((try lift_lets); intro v)
      | with_reducible refine State.sunLine_fr ?_
      | with_reducible refine State.setI_fr ?_
      | with_reducible refine State.spent_fr ?_
      | with_reducible refine Fr.ite ?_ ?_
      | with_reducible refine Fr.cond ?_ ?_
      | with_reducible assumption
      | (refine Fr.of_snd (by assumption) ?_)
      | (refine Fr.of_fst (by assumption) ?_)
      | split
      | (unfold v; split)
      | (unfold v; clear_value *; split)
      | (clear_value *; split)

theorem State.rateTo_fr {κ : Nat} {s0 s : State} {u : Int} (hf_ : Fr κ s0 s) (hk_ : 0x2c01000000000800000004000000000000000000000000000000018000002400083018400 &&& κ = 0x2c01000000000800000004000000000000000000000000000000018000002400083018400 := by decide) :
    Fr κ s0 (State.rateTo s u) := by
  refine Fr.lift hf_ hk_ ?_
  clear hf_ hk_
  unfold State.rateTo
  have h0 := Fr.refl 0x2c01000000000800000004000000000000000000000000000000018000002400083018400 s
  repeat' first
      | ((try lift_lets); intro v; refine_lift have hv : Fr 0x2c01000000000800000004000000000000000000000000000000018000002400083018400 s v := ?_; ?_; clear_value v)
      | ((try lift_lets); intro v)
      | with_reducible refine State.event_fr ?_
      | with_reducible refine State.putRate_fr ?_
      | with_reducible refine State.setB_fr ?_
      | with_reducible refine Fr.ite ?_ ?_
      | with_reducible refine Fr.cond ?_ ?_
      | with_reducible assumption
      | with_reducible exact Fr.id_ (by with_reducible assumption)
      | (refine Fr.of_snd (by assumption) ?_)
      | (refine Fr.of_fst (by assumption) ?_)
      | split
      | (unfold v; split)
      | (unfold v; clear_value *; split)
      | (clear_value *; split)

theorem State.rateUpdate_fr {κ : Nat} {s0 s : State} {e : Int} {hold : Bool} (hf_ : Fr κ s0 s) (hk_ : 0x2c01000000000800000004000000000000000000000000000000018000002400083018400 &&& κ = 0x2c01000000000800000004000000000000000000000000000000018000002400083018400 := by decide) :
    Fr κ s0 (State.rateUpdate s e hold) := by
  refine Fr.lift hf_ hk_ ?_
  clear hf_ hk_
  unfold State.rateUpdate
  have h0 := Fr.refl 0x2c01000000000800000004000000000000000000000000000000018000002400083018400 s
  repeat' first
      | ((try lift_lets); intro v; refine_lift have hv : Fr 0x2c01000000000800000004000000000000000000000000000000018000002400083018400 s v := ?_; ?_; clear_value v)
      | ((try lift_lets); intro v)
      | with_reducible refine State.modSun_fr ?_
      | with_reducible refine State.rateTo_fr ?_
      | with_reducible refine Fr.ite ?_ ?_
      | with_reducible refine Fr.cond ?_ ?_
      | with_reducible assumption
      | with_reducible exact Fr.id_ (by with_reducible assumption)
      | (refine Fr.of_snd (by assumption) ?_)
      | (refine Fr.of_fst (by assumption) ?_)
      | split
      | (unfold v; split)
      | (unfold v; clear_value *; split)
      | (clear_value *; split)

theorem State.ppsGood_fr {κ : Nat} {s0 s : State} {n : ℕ} (hf_ : Fr κ s0 s) (hk_ : 0x2c010000000008000000040000000000000000000000000000001f8000002400083018400 &&& κ = 0x2c010000000008000000040000000000000000000000000000001f8000002400083018400 := by decide) :
    Fr κ s0 (State.ppsGood s n) := by
  refine Fr.lift hf_ hk_ ?_
  clear hf_ hk_
  unfold State.ppsGood
  generalize phaseErr n = e
  have h0 := Fr.refl 0x2c010000000008000000040000000000000000000000000000001f8000002400083018400 s
  repeat' first
      | ((try lift_lets); intro v; refine_lift have hv : Fr 0x2c010000000008000000040000000000000000000000000000001f8000002400083018400 s v := ?_; ?_; clear_value v)
      | ((try lift_lets); intro v)
      | with_reducible refine State.event_fr ?_
      | with_reducible refine State.modSun_fr ?_
      | with_reducible refine State.rateUpdate_fr ?_
      | with_reducible refine State.set_fr ?_
      | with_reducible refine State.setI_fr ?_
      | with_reducible refine State.spent_fr ?_
      | with_reducible refine State.sunEnter_fr ?_
      | with_reducible refine State.sunMove_fr ?_
      | with_reducible refine Fr.ite ?_ ?_
      | with_reducible refine Fr.cond ?_ ?_
      | with_reducible assumption
      | (refine Fr.of_snd (by assumption) ?_)
      | (refine Fr.of_fst (by assumption) ?_)
      | split
      | (unfold v; split)
      | (unfold v; clear_value *; split)
      | (clear_value *; split)

theorem State.ppsBad_fr {κ : Nat} {s0 s : State} {n : ℕ} (hf_ : Fr κ s0 s) (hk_ : 0x2c01000000000800000004000000000000000000000000000000048000002400083018400 &&& κ = 0x2c01000000000800000004000000000000000000000000000000048000002400083018400 := by decide) :
    Fr κ s0 (State.ppsBad s n) := by
  refine Fr.lift hf_ hk_ ?_
  clear hf_ hk_
  unfold State.ppsBad
  have h0 := Fr.refl 0x2c01000000000800000004000000000000000000000000000000048000002400083018400 s
  repeat' first
      | ((try lift_lets); intro v; refine_lift have hv : Fr 0x2c01000000000800000004000000000000000000000000000000048000002400083018400 s v := ?_; ?_; clear_value v)
      | ((try lift_lets); intro v)
      | with_reducible refine State.event_fr ?_
      | with_reducible refine State.inc_fr ?_
      | with_reducible refine State.modSun_fr ?_
      | with_reducible refine State.sunEnter_fr ?_
      | with_reducible refine Fr.ite ?_ ?_
      | with_reducible refine Fr.cond ?_ ?_
      | with_reducible assumption
      | (refine Fr.of_snd (by assumption) ?_)
      | (refine Fr.of_fst (by assumption) ?_)
      | split
      | (unfold v; split)
      | (unfold v; clear_value *; split)
      | (clear_value *; split)

theorem State.sunLoad_fr {κ : Nat} {s0 s : State}  (hf_ : Fr κ s0 s) (hk_ : 0x2c01000000000800000004000000000000000000000000000000048200002400083018400 &&& κ = 0x2c01000000000800000004000000000000000000000000000000048200002400083018400 := by decide) :
    Fr κ s0 (State.sunLoad s) := by
  refine Fr.lift hf_ hk_ ?_
  clear hf_ hk_
  unfold State.sunLoad
  have h0 := Fr.refl 0x2c01000000000800000004000000000000000000000000000000048200002400083018400 s
  repeat' first
      | ((try lift_lets); intro v; refine_lift have hv : Fr 0x2c01000000000800000004000000000000000000000000000000048200002400083018400 s v := ?_; ?_; clear_value v)
      | ((try lift_lets); intro v)
      | with_reducible refine State.set_fr ?_
      | with_reducible refine State.sunEnter_fr ?_
      | with_reducible refine State.sunMove_fr ?_
      | with_reducible refine Fr.ite ?_ ?_
      | with_reducible refine Fr.cond ?_ ?_
      | with_reducible assumption
      | (refine Fr.of_snd (by assumption) ?_)
      | (refine Fr.of_fst (by assumption) ?_)
      | split
      | (unfold v; split)
      | (unfold v; clear_value *; split)
      | (clear_value *; split)

theorem execPpsPulse_fr {s t_ : State} {rising : Bool} (e_ : execPpsPulse rising s = .next t_) : Fr 0x2c010000000008000000040000000000000000000000000000001f8200002400083018400 s t_ := by
  unfold execPpsPulse at e_
  obtain rfl := Host.Outcome.next.inj e_
  clear e_
  have h0 := Fr.refl 0x2c010000000008000000040000000000000000000000000000001f8200002400083018400 s
  repeat' first
      | ((try lift_lets); intro v; refine_lift have hv : Fr 0x2c010000000008000000040000000000000000000000000000001f8200002400083018400 s v := ?_; ?_; clear_value v)
      | ((try lift_lets); intro v)
      | with_reducible refine State.ppsBad_fr ?_
      | with_reducible refine State.ppsGood_fr ?_
      | with_reducible refine State.sunLoad_fr ?_
      | with_reducible refine Fr.ite ?_ ?_
      | with_reducible refine Fr.cond ?_ ?_
      | with_reducible assumption
      | (refine Fr.of_snd (by assumption) ?_)
      | (refine Fr.of_fst (by assumption) ?_)
      | split
      | (unfold v; split)
      | (unfold v; clear_value *; split)
      | (clear_value *; split)

theorem execPpsTimeout_fr {s t_ : State}  (e_ : execPpsTimeout s = .next t_) : Fr 0x2c01000000000800000004000000000000000000000000000000058000002400083018400 s t_ := by
  unfold execPpsTimeout at e_
  obtain rfl := Host.Outcome.next.inj e_
  clear e_
  have h0 := Fr.refl 0x2c01000000000800000004000000000000000000000000000000058000002400083018400 s
  repeat' first
      | ((try lift_lets); intro v; refine_lift have hv : Fr 0x2c01000000000800000004000000000000000000000000000000058000002400083018400 s v := ?_; ?_; clear_value v)
      | ((try lift_lets); intro v)
      | with_reducible refine State.rateTo_fr ?_
      | with_reducible refine State.putRate_fr ?_
      | with_reducible refine State.sunEnter_fr ?_
      | with_reducible refine Fr.ite ?_ ?_
      | with_reducible refine Fr.cond ?_ ?_
      | with_reducible assumption
      | (refine Fr.of_snd (by assumption) ?_)
      | (refine Fr.of_fst (by assumption) ?_)
      | split
      | (unfold v; split)
      | (unfold v; clear_value *; split)
      | (clear_value *; split)

theorem State.setGo_fr {κ : Nat} {s0 s : State}  (hf_ : Fr κ s0 s) (hk_ : 0x2c01000000000800000004000000000000000000000000000000048200002400083018400 &&& κ = 0x2c01000000000800000004000000000000000000000000000000048200002400083018400 := by decide) :
    Fr κ s0 (State.setGo s) := by
  refine Fr.lift hf_ hk_ ?_
  clear hf_ hk_
  unfold State.setGo
  have h0 := Fr.refl 0x2c01000000000800000004000000000000000000000000000000048200002400083018400 s
  repeat' first
      | ((try lift_lets); intro v; refine_lift have hv : Fr 0x2c01000000000800000004000000000000000000000000000000048200002400083018400 s v := ?_; ?_; clear_value v)
      | ((try lift_lets); intro v)
      | with_reducible refine State.set_fr ?_
      | with_reducible refine State.sunLoad_fr ?_
      | with_reducible refine Fr.ite ?_ ?_
      | with_reducible refine Fr.cond ?_ ?_
      | with_reducible assumption
      | (refine Fr.of_snd (by assumption) ?_)
      | (refine Fr.of_fst (by assumption) ?_)
      | split
      | (unfold v; split)
      | (unfold v; clear_value *; split)
      | (clear_value *; split)

theorem State.sunCtrlWrite_fr {κ : Nat} {s0 s : State} {w : Word} (hf_ : Fr κ s0 s) (hk_ : 0x2c01000000000800000004000000000000000000000000000000048200002400083018400 &&& κ = 0x2c01000000000800000004000000000000000000000000000000048200002400083018400 := by decide) :
    Fr κ s0 (State.sunCtrlWrite s w) := by
  refine Fr.lift hf_ hk_ ?_
  clear hf_ hk_
  unfold State.sunCtrlWrite
  have h0 := Fr.refl 0x2c01000000000800000004000000000000000000000000000000048200002400083018400 s
  repeat' first
      | ((try lift_lets); intro v; refine_lift have hv : Fr 0x2c01000000000800000004000000000000000000000000000000048200002400083018400 s v := ?_; ?_; clear_value v)
      | ((try lift_lets); intro v)
      | with_reducible refine State.set_fr ?_
      | with_reducible refine State.setGo_fr ?_
      | with_reducible refine State.sunEnter_fr ?_
      | with_reducible refine Fr.forEachFld ?_ (fun t f hf ht => ?_)
      | with_reducible refine Fr.forEach ?_ (fun t a ht => ?_)
      | with_reducible refine Fr.ite ?_ ?_
      | with_reducible refine Fr.cond ?_ ?_
      | with_reducible assumption
      | (refine Fr.of_snd (by assumption) ?_)
      | (refine Fr.of_fst (by assumption) ?_)
      | split
      | (unfold v; split)
      | (unfold v; clear_value *; split)
      | (clear_value *; split)

theorem execSunCtrlWrite_fr {s t_ : State} {w : Word} (e_ : execSunCtrlWrite w s = .next t_) : Fr 0x2c01000000000800000004000000000000000000000000000000048200002400083018400 s t_ := by
  unfold execSunCtrlWrite at e_
  obtain rfl := Host.Outcome.next.inj e_
  clear e_
  have h0 := Fr.refl 0x2c01000000000800000004000000000000000000000000000000048200002400083018400 s
  repeat' first
      | ((try lift_lets); intro v; refine_lift have hv : Fr 0x2c01000000000800000004000000000000000000000000000000048200002400083018400 s v := ?_; ?_; clear_value v)
      | ((try lift_lets); intro v)
      | with_reducible refine State.sunCtrlWrite_fr ?_
      | with_reducible refine Fr.running ?_ (fun t ht => ?_)
      | with_reducible refine Fr.ite ?_ ?_
      | with_reducible refine Fr.cond ?_ ?_
      | with_reducible assumption
      | (refine Fr.of_snd (by assumption) ?_)
      | (refine Fr.of_fst (by assumption) ?_)
      | split
      | (unfold v; split)
      | (unfold v; clear_value *; split)
      | (clear_value *; split)

theorem execSetGo_fr {s t_ : State}  (e_ : execSetGo s = .next t_) : Fr 0x2c01000000000800000004000000000000000000000000000000048200002400083018400 s t_ := by
  unfold execSetGo at e_
  obtain rfl := Host.Outcome.next.inj e_
  clear e_
  have h0 := Fr.refl 0x2c01000000000800000004000000000000000000000000000000048200002400083018400 s
  repeat' first
      | ((try lift_lets); intro v; refine_lift have hv : Fr 0x2c01000000000800000004000000000000000000000000000000048200002400083018400 s v := ?_; ?_; clear_value v)
      | ((try lift_lets); intro v)
      | with_reducible refine State.setGo_fr ?_
      | with_reducible refine Fr.running ?_ (fun t ht => ?_)
      | with_reducible refine Fr.ite ?_ ?_
      | with_reducible refine Fr.cond ?_ ?_
      | with_reducible assumption
      | (refine Fr.of_snd (by assumption) ?_)
      | (refine Fr.of_fst (by assumption) ?_)
      | split
      | (unfold v; split)
      | (unfold v; clear_value *; split)
      | (clear_value *; split)

theorem State.snap_fr {κ : Nat} {s0 s : State}  (hf_ : Fr κ s0 s) (hk_ : 0x6000000000000000000 &&& κ = 0x6000000000000000000 := by decide) :
    Fr κ s0 (State.snap s) := by
  refine Fr.lift hf_ hk_ ?_
  clear hf_ hk_
  unfold State.snap
  have h0 := Fr.refl 0x6000000000000000000 s
  repeat' first
      | ((try lift_lets); intro v; refine_lift have hv : Fr 0x6000000000000000000 s v := ?_; ?_; clear_value v)
      | ((try lift_lets); intro v)
      | with_reducible refine State.set_fr ?_
      | with_reducible refine Fr.ite ?_ ?_
      | with_reducible refine Fr.cond ?_ ?_
      | with_reducible assumption
      | (refine Fr.of_snd (by assumption) ?_)
      | (refine Fr.of_fst (by assumption) ?_)
      | split
      | (unfold v; split)
      | (unfold v; clear_value *; split)
      | (clear_value *; split)

theorem State.sunCmdWrite_fr {κ : Nat} {s0 s : State} {w : Word} (hf_ : Fr κ s0 s) (hk_ : 0xe000000000000000000 &&& κ = 0xe000000000000000000 := by decide) :
    Fr κ s0 (State.sunCmdWrite s w) := by
  refine Fr.lift hf_ hk_ ?_
  clear hf_ hk_
  unfold State.sunCmdWrite
  have h0 := Fr.refl 0xe000000000000000000 s
  repeat' first
      | ((try lift_lets); intro v; refine_lift have hv : Fr 0xe000000000000000000 s v := ?_; ?_; clear_value v)
      | ((try lift_lets); intro v)
      | with_reducible refine State.set_fr ?_
      | with_reducible refine State.snap_fr ?_
      | with_reducible refine Fr.ite ?_ ?_
      | with_reducible refine Fr.cond ?_ ?_
      | with_reducible assumption
      | (refine Fr.of_snd (by assumption) ?_)
      | (refine Fr.of_fst (by assumption) ?_)
      | split
      | (unfold v; split)
      | (unfold v; clear_value *; split)
      | (clear_value *; split)

theorem execSnap_fr {s t_ : State}  (e_ : execSnap s = .next t_) : Fr 0x6000000000000000000 s t_ := by
  unfold execSnap at e_
  obtain rfl := Host.Outcome.next.inj e_
  clear e_
  have h0 := Fr.refl 0x6000000000000000000 s
  repeat' first
      | ((try lift_lets); intro v; refine_lift have hv : Fr 0x6000000000000000000 s v := ?_; ?_; clear_value v)
      | ((try lift_lets); intro v)
      | with_reducible refine State.snap_fr ?_
      | with_reducible refine Fr.running ?_ (fun t ht => ?_)
      | with_reducible refine Fr.ite ?_ ?_
      | with_reducible refine Fr.cond ?_ ?_
      | with_reducible assumption
      | (refine Fr.of_snd (by assumption) ?_)
      | (refine Fr.of_fst (by assumption) ?_)
      | split
      | (unfold v; split)
      | (unfold v; clear_value *; split)
      | (clear_value *; split)

theorem execSunCntClr_fr {s t_ : State}  (e_ : execSunCntClr s = .next t_) : Fr 0x8000000000000000000 s t_ := by
  unfold execSunCntClr at e_
  obtain rfl := Host.Outcome.next.inj e_
  clear e_
  have h0 := Fr.refl 0x8000000000000000000 s
  repeat' first
      | ((try lift_lets); intro v; refine_lift have hv : Fr 0x8000000000000000000 s v := ?_; ?_; clear_value v)
      | ((try lift_lets); intro v)
      | with_reducible refine State.set_fr ?_
      | with_reducible refine Fr.running ?_ (fun t ht => ?_)
      | with_reducible refine Fr.ite ?_ ?_
      | with_reducible refine Fr.cond ?_ ?_
      | with_reducible assumption
      | (refine Fr.of_snd (by assumption) ?_)
      | (refine Fr.of_fst (by assumption) ?_)
      | split
      | (unfold v; split)
      | (unfold v; clear_value *; split)
      | (clear_value *; split)

theorem State.actWrite_fr {κ : Nat} {s0 s : State} {n : ℕ} {w : Word} (hf_ : Fr κ s0 s) (hk_ : 0x800000000000001000000 &&& κ = 0x800000000000001000000 := by decide) :
    Fr κ s0 (State.actWrite s n w) := by
  refine Fr.lift hf_ hk_ ?_
  clear hf_ hk_
  unfold State.actWrite
  have h0 := Fr.refl 0x800000000000001000000 s
  repeat' first
      | ((try lift_lets); intro v; refine_lift have hv : Fr 0x800000000000001000000 s v := ?_; ?_; clear_value v)
      | ((try lift_lets); intro v)
      | with_reducible refine State.modSun_fr ?_
      | with_reducible refine State.set_fr ?_
      | with_reducible refine Fr.ite ?_ ?_
      | with_reducible refine Fr.cond ?_ ?_
      | with_reducible assumption
      | (refine Fr.of_snd (by assumption) ?_)
      | (refine Fr.of_fst (by assumption) ?_)
      | split
      | (unfold v; split)
      | (unfold v; clear_value *; split)
      | (clear_value *; split)

theorem execArmAction_fr {s t_ : State} {n : ℕ} {w : Word} (e_ : execArmAction n w s = .next t_) : Fr 0x800000000000001000000 s t_ := by
  unfold execArmAction at e_
  obtain rfl := Host.Outcome.next.inj e_
  clear e_
  have h0 := Fr.refl 0x800000000000001000000 s
  repeat' first
      | ((try lift_lets); intro v; refine_lift have hv : Fr 0x800000000000001000000 s v := ?_; ?_; clear_value v)
      | ((try lift_lets); intro v)
      | with_reducible refine State.actWrite_fr ?_
      | with_reducible refine Fr.running ?_ (fun t ht => ?_)
      | with_reducible refine Fr.ite ?_ ?_
      | with_reducible refine Fr.cond ?_ ?_
      | with_reducible assumption
      | (refine Fr.of_snd (by assumption) ?_)
      | (refine Fr.of_fst (by assumption) ?_)
      | split
      | (unfold v; split)
      | (unfold v; clear_value *; split)
      | (clear_value *; split)

theorem execCancelAction_fr {s t_ : State} {n : ℕ} {w : Word} (e_ : execCancelAction n w s = .next t_) : Fr 0x800000000000001000000 s t_ := by
  unfold execCancelAction at e_
  obtain rfl := Host.Outcome.next.inj e_
  clear e_
  have h0 := Fr.refl 0x800000000000001000000 s
  repeat' first
      | ((try lift_lets); intro v; refine_lift have hv : Fr 0x800000000000001000000 s v := ?_; ?_; clear_value v)
      | ((try lift_lets); intro v)
      | with_reducible refine State.actWrite_fr ?_
      | with_reducible refine Fr.running ?_ (fun t ht => ?_)
      | with_reducible refine Fr.ite ?_ ?_
      | with_reducible refine Fr.cond ?_ ?_
      | with_reducible assumption
      | (refine Fr.of_snd (by assumption) ?_)
      | (refine Fr.of_fst (by assumption) ?_)
      | split
      | (unfold v; split)
      | (unfold v; clear_value *; split)
      | (clear_value *; split)

theorem State.actTime_fr {m : Nat} {s0 s : State} {n : Nat} {f : Fld} {w : Word} (h : Fr m s0 s) (hk : m.testBit (32 + fam f.reg) = true := by first | assumption | decide | (simp; done) | (simp; decide) | (simp +zetaDelta; decide) | (split <;> simp <;> decide) | exact all_fam (by decide)) :
    Fr m s0 (s.actTime n f w) := by unfold State.actTime; split; exact h; exact State.setW_fr h hk

end Sys2Proof.Machine
end

