-- ==== Sys2Proof/Laws/FrameThermal.lean ====
section
/-! SUPPORT. Frames of the operations of Machine/Thermal.lean: one lemma each (Laws/Frame.lean). -/

namespace Sys2Proof.Machine

set_option Elab.async false

theorem State.modOrg_fr {κ : Nat} {s0 s : State} {f : Org → Org} (hf_ : Fr κ s0 s) (hk_ : 0x800000 &&& κ = 0x800000 := by decide) :
    Fr κ s0 (State.modOrg s f) := by
  refine Fr.lift hf_ hk_ ?_
  clear hf_ hk_
  unfold State.modOrg
  have h0 := Fr.refl 0x800000 s
  repeat' first
      | ((try lift_lets); intro v; refine_lift have hv : Fr 0x800000 s v := ?_; ?_; clear_value v)
      | ((try lift_lets); intro v)

      | with_reducible refine Fr.ite ?_ ?_
      | with_reducible refine Fr.cond ?_ ?_
      | with_reducible exact Fr.org (by with_reducible assumption)
      | with_reducible assumption
      | (refine Fr.of_snd (by assumption) ?_)
      | (refine Fr.of_fst (by assumption) ?_)
      | split
      | (unfold v; split)
      | (unfold v; clear_value *; split)
      | (clear_value *; split)

theorem State.bandApply_fr {κ : Nat} {s0 s : State}  (hf_ : Fr κ s0 s) (hk_ : 0xc2c01000008004bc1c0004400000000020400000000000000000800000000240002207f420 &&& κ = 0xc2c01000008004bc1c0004400000000020400000000000000000800000000240002207f420 := by decide) :
    Fr κ s0 (State.bandApply s) := by
  refine Fr.lift hf_ hk_ ?_
  clear hf_ hk_
  unfold State.bandApply
  have h0 := Fr.refl 0xc2c01000008004bc1c0004400000000020400000000000000000800000000240002207f420 s
  repeat' first
      | ((try lift_lets); intro v; refine_lift have hv : Fr 0xc2c01000008004bc1c0004400000000020400000000000000000800000000240002207f420 s v := ?_; ?_; clear_value v)
      | ((try lift_lets); intro v)
      | with_reducible refine State.axisFaultOn_fr ?_
      | with_reducible refine State.set_fr ?_
      | with_reducible refine State.setCause_fr ?_
      | with_reducible refine Fr.forEach ?_ (fun t a ht => ?_)
      | with_reducible refine Fr.ite ?_ ?_
      | with_reducible refine Fr.cond ?_ ?_
      | with_reducible assumption
      | (refine Fr.of_snd (by assumption) ?_)
      | (refine Fr.of_fst (by assumption) ?_)
      | split
      | (unfold v; split)
      | (unfold v; clear_value *; split)
      | (clear_value *; split)

theorem State.requestTouch_fr {κ : Nat} {s0 s : State}  (hf_ : Fr κ s0 s) (hk_ : 0x2c010000000008000000840000000000110000000000000000000000c0202400002198410 &&& κ = 0x2c010000000008000000840000000000110000000000000000000000c0202400002198410 := by decide) :
    Fr κ s0 (State.requestTouch s) := by
  refine Fr.lift hf_ hk_ ?_
  clear hf_ hk_
  unfold State.requestTouch
  have h0 := Fr.refl 0x2c010000000008000000840000000000110000000000000000000000c0202400002198410 s
  repeat' first
      | ((try lift_lets); intro v; refine_lift have hv : Fr 0x2c010000000008000000840000000000110000000000000000000000c0202400002198410 s v := ?_; ?_; clear_value v)
      | ((try lift_lets); intro v)
      | with_reducible refine State.periodTouch_fr ?_
      | with_reducible refine Fr.ite ?_ ?_
      | with_reducible refine Fr.cond ?_ ?_
      | with_reducible assumption
      | (refine Fr.of_snd (by assumption) ?_)
      | (refine Fr.of_fst (by assumption) ?_)
      | split
      | (unfold v; split)
      | (unfold v; clear_value *; split)
      | (clear_value *; split)

theorem State.throttleAsk_fr {κ : Nat} {s0 s : State} {byRise : Bool} (hf_ : Fr κ s0 s) (hk_ : 0x2c01000000010800000004000000000000000000000000000000000000002400002818400 &&& κ = 0x2c01000000010800000004000000000000000000000000000000000000002400002818400 := by decide) :
    Fr κ s0 (State.throttleAsk s byRise) := by
  refine Fr.lift hf_ hk_ ?_
  clear hf_ hk_
  unfold State.throttleAsk
  have h0 := Fr.refl 0x2c01000000010800000004000000000000000000000000000000000000002400002818400 s
  repeat' first
      | ((try lift_lets); intro v; refine_lift have hv : Fr 0x2c01000000010800000004000000000000000000000000000000000000002400002818400 s v := ?_; ?_; clear_value v)
      | ((try lift_lets); intro v)
      | with_reducible refine State.event_fr ?_
      | with_reducible refine State.modOrg_fr ?_
      | with_reducible refine State.set_fr ?_
      | with_reducible refine Fr.ite ?_ ?_
      | with_reducible refine Fr.cond ?_ ?_
      | with_reducible assumption
      | (refine Fr.of_snd (by assumption) ?_)
      | (refine Fr.of_fst (by assumption) ?_)
      | split
      | (unfold v; split)
      | (unfold v; clear_value *; split)
      | (clear_value *; split)

theorem State.throttleOn_fr {κ : Nat} {s0 s : State}  (hf_ : Fr κ s0 s) (hk_ : 0x2c010000000108000000840000000000110000000000000000000000c0202400002198410 &&& κ = 0x2c010000000108000000840000000000110000000000000000000000c0202400002198410 := by decide) :
    Fr κ s0 (State.throttleOn s) := by
  refine Fr.lift hf_ hk_ ?_
  clear hf_ hk_
  unfold State.throttleOn
  have h0 := Fr.refl 0x2c010000000108000000840000000000110000000000000000000000c0202400002198410 s
  repeat' first
      | ((try lift_lets); intro v; refine_lift have hv : Fr 0x2c010000000108000000840000000000110000000000000000000000c0202400002198410 s v := ?_; ?_; clear_value v)
      | ((try lift_lets); intro v)
      | with_reducible refine State.event_fr ?_
      | with_reducible refine State.requestTouch_fr ?_
      | with_reducible refine State.set_fr ?_
      | with_reducible refine Fr.ite ?_ ?_
      | with_reducible refine Fr.cond ?_ ?_
      | with_reducible assumption
      | (refine Fr.of_snd (by assumption) ?_)
      | (refine Fr.of_fst (by assumption) ?_)
      | split
      | (unfold v; split)
      | (unfold v; clear_value *; split)
      | (clear_value *; split)

theorem State.throttleGrace_fr {κ : Nat} {s0 s : State} (hf_ : Fr κ s0 s) (hk_ : 0x2c010000000108000000840000000000110000000000000000000000c0202400002198410 &&& κ = 0x2c010000000108000000840000000000110000000000000000000000c0202400002198410 := by decide) :
    Fr κ s0 (State.throttleGrace s) := by
  refine Fr.lift hf_ hk_ ?_
  clear hf_ hk_
  unfold State.throttleGrace
  have h0 := Fr.refl 0x2c010000000108000000840000000000110000000000000000000000c0202400002198410 s
  repeat' first
      | ((try lift_lets); intro v; refine_lift have hv : Fr 0x2c010000000108000000840000000000110000000000000000000000c0202400002198410 s v := ?_; ?_; clear_value v)
      | ((try lift_lets); intro v)
      | with_reducible refine State.throttleOn_fr ?_
      | with_reducible refine Fr.ite ?_ ?_
      | with_reducible refine Fr.cond ?_ ?_
      | with_reducible assumption
      | with_reducible exact Fr.id_ (by with_reducible assumption)
      | (refine Fr.of_snd (by assumption) ?_)
      | (refine Fr.of_fst (by assumption) ?_)
      | split
      | (unfold v; split)
      | (unfold v; clear_value *; split)
      | (clear_value *; split)

theorem State.throttle_fr {κ : Nat} {s0 s : State}  (hf_ : Fr κ s0 s) (hk_ : 0x2c010000000708000000840000000000110000000000000000000000c0202400002998410 &&& κ = 0x2c010000000708000000840000000000110000000000000000000000c0202400002998410 := by decide) :
    Fr κ s0 (State.throttle s) := by
  refine Fr.lift hf_ hk_ ?_
  clear hf_ hk_
  unfold State.throttle
  have h0 := Fr.refl 0x2c010000000708000000840000000000110000000000000000000000c0202400002998410 s
  repeat' first
      | ((try lift_lets); intro v; refine_lift have hv : Fr 0x2c010000000708000000840000000000110000000000000000000000c0202400002998410 s v := ?_; ?_; clear_value v)
      | ((try lift_lets); intro v)
      | with_reducible refine State.throttleGrace_fr ?_
      | with_reducible refine State.event_fr ?_
      | with_reducible refine State.modOrg_fr ?_
      | with_reducible refine State.requestTouch_fr ?_
      | with_reducible refine State.set_fr ?_
      | with_reducible refine State.take_fr ?_
      | with_reducible refine State.throttleAsk_fr ?_
      | with_reducible refine Fr.forEachFld ?_ (fun t f hf ht => ?_)
      | with_reducible refine Fr.forEach ?_ (fun t a ht => ?_)
      | with_reducible refine Fr.ite ?_ ?_
      | with_reducible refine Fr.cond ?_ ?_
      | with_reducible assumption
      | (refine Fr.of_snd (by assumption) ?_)
      | (refine Fr.of_fst (by assumption) ?_)
      | split
      | (unfold v; split)
      | (unfold v; clear_value *; split)
      | (clear_value *; split)

theorem execTemperatureSample_fr {s t_ : State} {diode : ℤ} (e_ : execTemperatureSample diode s = .next t_) : Fr 0xc2c0100001a07cbc1c000c40000000002150000000000000000080000c02024400a69ff430 s t_ := by
  unfold execTemperatureSample at e_
  obtain rfl := Host.Outcome.next.inj e_
  clear e_
  have h0 := Fr.refl 0xc2c0100001a07cbc1c000c40000000002150000000000000000080000c02024400a69ff430 s
  repeat' first
      | ((try lift_lets); intro v; refine_lift have hv : Fr 0xc2c0100001a07cbc1c000c40000000002150000000000000000080000c02024400a69ff430 s v := ?_; ?_; clear_value v)
      | ((try lift_lets); intro v)
      | with_reducible refine State.bandApply_fr ?_
      | with_reducible refine State.event_fr ?_
      | with_reducible refine State.modOrg_fr ?_
      | with_reducible refine State.reverifyAsk_fr ?_
      | with_reducible refine State.set_fr ?_
      | with_reducible refine State.setB_fr ?_
      | with_reducible refine State.setI_fr ?_
      | with_reducible refine State.spent_fr ?_
      | with_reducible refine State.throttle_fr ?_
      | with_reducible refine Fr.ite ?_ ?_
      | with_reducible refine Fr.cond ?_ ?_
      | with_reducible assumption
      | (refine Fr.of_snd (by assumption) ?_)
      | (refine Fr.of_fst (by assumption) ?_)
      | split
      | (unfold v; split)
      | (unfold v; clear_value *; split)
      | (clear_value *; split)

theorem execThrottleEnforced_fr {s t_ : State}  (e_ : execThrottleEnforced s = .next t_) : Fr 0x2c010000000108000000840000000000110000000000000000000000c0202400002198410 s t_ := by
  unfold execThrottleEnforced at e_
  obtain rfl := Host.Outcome.next.inj e_
  clear e_
  have h0 := Fr.refl 0x2c010000000108000000840000000000110000000000000000000000c0202400002198410 s
  repeat' first
      | ((try lift_lets); intro v; refine_lift have hv : Fr 0x2c010000000108000000840000000000110000000000000000000000c0202400002198410 s v := ?_; ?_; clear_value v)
      | ((try lift_lets); intro v)
      | with_reducible refine State.throttleGrace_fr ?_
      | with_reducible refine State.throttleOn_fr ?_
      | with_reducible refine Fr.running ?_ (fun t ht => ?_)
      | with_reducible refine Fr.ite ?_ ?_
      | with_reducible refine Fr.cond ?_ ?_
      | with_reducible assumption
      | (refine Fr.of_snd (by assumption) ?_)
      | (refine Fr.of_fst (by assumption) ?_)
      | split
      | (unfold v; split)
      | (unfold v; clear_value *; split)
      | (clear_value *; split)

theorem execEnfNow_fr {s t_ : State}  (e_ : execEnfNow s = .next t_) : Fr 0x2c010000000108000000840000000000110000000000000000000000c0202400002198410 s t_ := by
  unfold execEnfNow at e_
  obtain rfl := Host.Outcome.next.inj e_
  clear e_
  have h0 := Fr.refl 0x2c010000000108000000840000000000110000000000000000000000c0202400002198410 s
  repeat' first
      | ((try lift_lets); intro v; refine_lift have hv : Fr 0x2c010000000108000000840000000000110000000000000000000000c0202400002198410 s v := ?_; ?_; clear_value v)
      | ((try lift_lets); intro v)
      | with_reducible refine State.throttleOn_fr ?_
      | with_reducible refine Fr.running ?_ (fun t ht => ?_)
      | with_reducible refine Fr.ite ?_ ?_
      | with_reducible refine Fr.cond ?_ ?_
      | with_reducible assumption
      | (refine Fr.of_snd (by assumption) ?_)
      | (refine Fr.of_fst (by assumption) ?_)
      | split
      | (unfold v; split)
      | (unfold v; clear_value *; split)
      | (clear_value *; split)

theorem execRiseRateUpdate_fr {s t_ : State}  (e_ : execRiseRateUpdate s = .next t_) : Fr 0x2c01000000110800000004000000000000000000000000000000000000002400082818400 s t_ := by
  unfold execRiseRateUpdate at e_
  obtain rfl := Host.Outcome.next.inj e_
  clear e_
  have h0 := Fr.refl 0x2c01000000110800000004000000000000000000000000000000000000002400082818400 s
  repeat' first
      | ((try lift_lets); intro v; refine_lift have hv : Fr 0x2c01000000110800000004000000000000000000000000000000000000002400082818400 s v := ?_; ?_; clear_value v)
      | ((try lift_lets); intro v)
      | with_reducible refine State.event_fr ?_
      | with_reducible refine State.modOrg_fr ?_
      | with_reducible refine State.set_fr ?_
      | with_reducible refine State.setI_fr ?_
      | with_reducible refine State.spent_fr ?_
      | with_reducible refine State.throttleAsk_fr ?_
      | with_reducible refine Fr.ite ?_ ?_
      | with_reducible refine Fr.cond ?_ ?_
      | with_reducible assumption
      | (refine Fr.of_snd (by assumption) ?_)
      | (refine Fr.of_fst (by assumption) ?_)
      | split
      | (unfold v; split)
      | (unfold v; clear_value *; split)
      | (clear_value *; split)

@[simp] theorem drvEstFld_fam {x : Axis} : fam (drvEstFld x).reg = 217 := by cases x <;> rfl

theorem State.drvJudge_fr {κ : Nat} {s0 s : State} {x : Axis} {t : ℤ} {lim : ℤ} (hf_ : Fr κ s0 s) (hk_ : 0xc2c01000008014bc00000840000000000110000000000000000000000c020240002219f410 &&& κ = 0xc2c01000008014bc00000840000000000110000000000000000000000c020240002219f410 := by decide) :
    Fr κ s0 (State.drvJudge s x t lim) := by
  refine Fr.lift hf_ hk_ ?_
  clear hf_ hk_
  unfold State.drvJudge
  have h0 := Fr.refl 0xc2c01000008014bc00000840000000000110000000000000000000000c020240002219f410 s
  repeat' first
      | ((try lift_lets); intro v; refine_lift have hv : Fr 0xc2c01000008014bc00000840000000000110000000000000000000000c020240002219f410 s v := ?_; ?_; clear_value v)
      | ((try lift_lets); intro v)
      | with_reducible refine State.event_fr ?_
      | with_reducible refine State.faultOn_fr ?_
      | with_reducible refine State.requestTouch_fr ?_
      | with_reducible refine State.set_fr ?_
      | with_reducible refine State.setCause_fr ?_
      | with_reducible refine Fr.ite ?_ ?_
      | with_reducible refine Fr.cond ?_ ?_
      | with_reducible assumption
      | (refine Fr.of_snd (by assumption) ?_)
      | (refine Fr.of_fst (by assumption) ?_)
      | split
      | (unfold v; split)
      | (unfold v; clear_value *; split)
      | (clear_value *; split)

theorem execDriverEstimateWindow_fr {s t_ : State} {x : Axis} (e_ : execDriverEstimateWindow x s = .next t_) : Fr 0xc2c01000008214bc00000840000000000110000000000000000000000c02024000a29ff410 s t_ := by
  unfold execDriverEstimateWindow at e_
  obtain rfl := Host.Outcome.next.inj e_
  clear e_
  have h0 := Fr.refl 0xc2c01000008214bc00000840000000000110000000000000000000000c02024000a29ff410 s
  repeat' first
      | ((try lift_lets); intro v; refine_lift have hv : Fr 0xc2c01000008214bc00000840000000000110000000000000000000000c02024000a29ff410 s v := ?_; ?_; clear_value v)
      | ((try lift_lets); intro v)
      | with_reducible refine State.drvJudge_fr ?_
      | with_reducible refine State.modOrg_fr ?_
      | with_reducible refine State.modTr_fr ?_
      | with_reducible refine State.setI_fr ?_
      | with_reducible refine State.spent_fr ?_
      | with_reducible refine Fr.running ?_ (fun t ht => ?_)
      | with_reducible refine Fr.ite ?_ ?_
      | with_reducible refine Fr.cond ?_ ?_
      | with_reducible assumption
      | (refine Fr.of_snd (by assumption) ?_)
      | (refine Fr.of_fst (by assumption) ?_)
      | split
      | (unfold v; split)
      | (unfold v; clear_value *; split)
      | (clear_value *; split)

theorem State.thermalAsc_fr {κ : Nat} {s0 s : State} {x : Axis} (hf_ : Fr κ s0 s) (hk_ : 0x2c01000000000901c00044000000000204000000000000000000000000002400002078420 &&& κ = 0x2c01000000000901c00044000000000204000000000000000000000000002400002078420 := by decide) :
    Fr κ s0 (State.thermalAsc s x) := by
  refine Fr.lift hf_ hk_ ?_
  clear hf_ hk_
  unfold State.thermalAsc
  have h0 := Fr.refl 0x2c01000000000901c00044000000000204000000000000000000000000002400002078420 s
  repeat' first
      | ((try lift_lets); intro v; refine_lift have hv : Fr 0x2c01000000000901c00044000000000204000000000000000000000000002400002078420 s v := ?_; ?_; clear_value v)
      | ((try lift_lets); intro v)
      | with_reducible refine State.ascAgain_fr ?_
      | with_reducible refine State.set_fr ?_
      | with_reducible refine State.modTr_fr ?_
      | with_reducible refine State.putSafe_fr ?_
      | with_reducible refine Fr.ite ?_ ?_
      | with_reducible refine Fr.cond ?_ ?_
      | with_reducible assumption
      | (refine Fr.of_snd (by assumption) ?_)
      | (refine Fr.of_fst (by assumption) ?_)
      | split
      | (unfold v; split)
      | (unfold v; clear_value *; split)
      | (clear_value *; split)

theorem execThermalShutdown_fr {s t_ : State}  (e_ : execThermalShutdown s = .next t_) : Fr 0xc2c01000008004bc1c0004400000000020400000000000000000000000000240002287f422 s t_ := by
  unfold execThermalShutdown at e_
  obtain rfl := Host.Outcome.next.inj e_
  clear e_
  have h0 := Fr.refl 0xc2c01000008004bc1c0004400000000020400000000000000000000000000240002287f422 s
  repeat' first
      | ((try lift_lets); intro v; refine_lift have hv : Fr 0xc2c01000008004bc1c0004400000000020400000000000000000000000000240002287f422 s v := ?_; ?_; clear_value v)
      | ((try lift_lets); intro v)
      | with_reducible refine State.settle_fr ?_
      | with_reducible refine State.fault_fr ?_
      | with_reducible refine State.modOrg_fr ?_
      | with_reducible refine State.setCause_fr ?_
      | with_reducible refine State.thermalAsc_fr ?_
      | with_reducible refine State.toDie_fr ?_
      | with_reducible refine Fr.ite ?_ ?_
      | with_reducible refine Fr.cond ?_ ?_
      | with_reducible assumption
      | (refine Fr.of_snd (by assumption) ?_)
      | (refine Fr.of_fst (by assumption) ?_)
      | split
      | (unfold v; split)
      | (unfold v; clear_value *; split)
      | (clear_value *; split)

end Sys2Proof.Machine
end

