-- ==== Sys2Proof/Laws/FrameBank.lean ====
section
/-! SUPPORT. Frames of the operations of Machine/Bank.lean: one lemma each (Laws/Frame.lean). -/

namespace Sys2Proof.Machine

set_option Elab.async false

theorem State.signalRise_fr {κ : Nat} {s0 s : State} {x : Axis} {sig : ℕ} {unit : ℕ} (hf_ : Fr κ s0 s) (hk_ : 0xc2c01000008004bc1c0004400000000020400000000000000000000000000240002207f420 &&& κ = 0xc2c01000008004bc1c0004400000000020400000000000000000000000000240002207f420 := by decide) :
    Fr κ s0 (State.signalRise s x sig unit) := by
  refine Fr.lift hf_ hk_ ?_
  clear hf_ hk_
  unfold State.signalRise
  have h0 := Fr.refl 0xc2c01000008004bc1c0004400000000020400000000000000000000000000240002207f420 s
  repeat' first
      | ((try lift_lets); intro v; refine_lift have hv : Fr 0xc2c01000008004bc1c0004400000000020400000000000000000000000000240002207f420 s v := ?_; ?_; clear_value v)
      | ((try lift_lets); intro v)
      | with_reducible refine State.brakeOcOn_fr ?_
      | with_reducible refine State.busOvFault_fr ?_
      | with_reducible refine State.busOvOn_fr ?_
      | with_reducible refine State.chooseSafe_fr ?_
      | with_reducible refine State.faultOn_fr ?_
      | with_reducible refine Fr.ite ?_ ?_
      | with_reducible refine Fr.cond ?_ ?_
      | with_reducible assumption
      | (refine Fr.of_snd (by assumption) ?_)
      | (refine Fr.of_fst (by assumption) ?_)
      | split
      | (unfold v; split)
      | (unfold v; clear_value *; split)
      | (clear_value *; split)

theorem State.signalFall_fr {κ : Nat} {s0 s : State} {x : Axis} {sig : ℕ} (hf_ : Fr κ s0 s) (hk_ : 0x101800000000000000000000000000000000000000000000000000060000 &&& κ = 0x101800000000000000000000000000000000000000000000000000060000 := by decide) :
    Fr κ s0 (State.signalFall s x sig) := by
  refine Fr.lift hf_ hk_ ?_
  clear hf_ hk_
  unfold State.signalFall
  have h0 := Fr.refl 0x101800000000000000000000000000000000000000000000000000060000 s
  repeat' first
      | ((try lift_lets); intro v; refine_lift have hv : Fr 0x101800000000000000000000000000000000000000000000000000060000 s v := ?_; ?_; clear_value v)
      | ((try lift_lets); intro v)
      | with_reducible refine State.brakeOcOff_fr ?_
      | with_reducible refine State.busOvOff_fr ?_
      | with_reducible refine State.setCause_fr ?_
      | with_reducible refine Fr.ite ?_ ?_
      | with_reducible refine Fr.cond ?_ ?_
      | with_reducible assumption
      | (refine Fr.of_snd (by assumption) ?_)
      | (refine Fr.of_fst (by assumption) ?_)
      | split
      | (unfold v; split)
      | (unfold v; clear_value *; split)
      | (clear_value *; split)

theorem State.putSide_fr {κ : Nat} {s0 s : State} {n : ℕ} {hi : Bool} {d : Side} (hf_ : Fr κ s0 s) (hk_ : 0x8000000000000000000400000 &&& κ = 0x8000000000000000000400000 := by decide) :
    Fr κ s0 (State.putSide s n hi d) := by
  refine Fr.lift hf_ hk_ ?_
  clear hf_ hk_
  unfold State.putSide
  have h0 := Fr.refl 0x8000000000000000000400000 s
  repeat' first
      | ((try lift_lets); intro v; refine_lift have hv : Fr 0x8000000000000000000400000 s v := ?_; ?_; clear_value v)
      | ((try lift_lets); intro v)
      | with_reducible refine State.modHah_fr ?_
      | with_reducible refine State.setBit_fr ?_
      | with_reducible refine Fr.ite ?_ ?_
      | with_reducible refine Fr.cond ?_ ?_
      | with_reducible assumption
      | (refine Fr.of_snd (by assumption) ?_)
      | (refine Fr.of_fst (by assumption) ?_)
      | split
      | (unfold v; split)
      | (unfold v; clear_value *; split)
      | (clear_value *; split)

@[simp] theorem cbcFld_fam {x : Axis} : fam (cbcFld x).reg = 71 := by cases x <;> rfl

theorem State.cbcOff_fr {κ : Nat} {s0 s : State} {x : Axis} {n : ℕ} (hf_ : Fr κ s0 s) (hk_ : 0x18000000000000000000000000000000800000000000000000001e0000 &&& κ = 0x18000000000000000000000000000000800000000000000000001e0000 := by decide) :
    Fr κ s0 (State.cbcOff s x n) := by
  refine Fr.lift hf_ hk_ ?_
  clear hf_ hk_
  unfold State.cbcOff
  have h0 := Fr.refl 0x18000000000000000000000000000000800000000000000000001e0000 s
  repeat' first
      | ((try lift_lets); intro v; refine_lift have hv : Fr 0x18000000000000000000000000000000800000000000000000001e0000 s v := ?_; ?_; clear_value v)
      | ((try lift_lets); intro v)
      | with_reducible refine State.linkCommand_fr ?_
      | with_reducible refine State.command_fr ?_
      | with_reducible refine State.inc_fr ?_
      | with_reducible refine State.modTb_fr ?_
      | with_reducible refine Fr.ite ?_ ?_
      | with_reducible refine Fr.cond ?_ ?_
      | with_reducible assumption
      | (refine Fr.of_snd (by assumption) ?_)
      | (refine Fr.of_fst (by assumption) ?_)
      | split
      | (unfold v; split)
      | (unfold v; clear_value *; split)
      | (clear_value *; split)

theorem State.sideTrip_fr {κ : Nat} {s0 s : State} {n : Nat} {hi : Bool} {outs : List Bool} (hf_ : Fr κ s0 s) (hk_ : 0xc2c01000008004bc1c000440000000002040000000000000980000000000024000225ff420 &&& κ = 0xc2c01000008004bc1c000440000000002040000000000000980000000000024000225ff420 := by decide) :
    Fr κ s0 (State.sideTrip s n hi outs) := by
  refine Fr.lift hf_ hk_ ?_
  clear hf_ hk_
  unfold State.sideTrip
  have h0 := Fr.refl 0xc2c01000008004bc1c000440000000002040000000000000980000000000024000225ff420 s
  repeat' first
      | ((try lift_lets); intro v; refine_lift have hv : Fr 0xc2c01000008004bc1c000440000000002040000000000000980000000000024000225ff420 s v := ?_; ?_; clear_value v)
      | ((try lift_lets); intro v)
      | with_reducible refine State.cbcOff_fr ?_
      | with_reducible refine State.evx_fr ?_
      | with_reducible refine State.putSide_fr ?_
      | with_reducible refine State.setBit_fr ?_
      | with_reducible refine State.signalRise_fr ?_
      | with_reducible refine Fr.ite ?_ ?_
      | with_reducible refine Fr.cond ?_ ?_
      | with_reducible assumption
      | with_reducible exact Fr.id_ (by with_reducible assumption)
      | (refine Fr.of_snd (by assumption) ?_)
      | (refine Fr.of_fst (by assumption) ?_)
      | split
      | (unfold v; split)
      | (unfold v; clear_value *; split)
      | (clear_value *; split)

theorem State.sideClear_fr {κ : Nat} {s0 s : State} {n : Nat} {hi : Bool} {outs : List Bool} (hf_ : Fr κ s0 s) (hk_ : 0x101800000000000000000000000000000008000000000000000000460000 &&& κ = 0x101800000000000000000000000000000008000000000000000000460000 := by decide) :
    Fr κ s0 (State.sideClear s n hi outs) := by
  refine Fr.lift hf_ hk_ ?_
  clear hf_ hk_
  unfold State.sideClear
  have h0 := Fr.refl 0x101800000000000000000000000000000008000000000000000000460000 s
  repeat' first
      | ((try lift_lets); intro v; refine_lift have hv : Fr 0x101800000000000000000000000000000008000000000000000000460000 s v := ?_; ?_; clear_value v)
      | ((try lift_lets); intro v)
      | with_reducible refine State.putSide_fr ?_
      | with_reducible refine State.signalFall_fr ?_
      | with_reducible refine Fr.ite ?_ ?_
      | with_reducible refine Fr.cond ?_ ?_
      | with_reducible assumption
      | with_reducible exact Fr.id_ (by with_reducible assumption)
      | (refine Fr.of_snd (by assumption) ?_)
      | (refine Fr.of_fst (by assumption) ?_)
      | split
      | (unfold v; split)
      | (unfold v; clear_value *; split)
      | (clear_value *; split)

theorem State.sideSample_fr {κ : Nat} {s0 s : State} {n : Nat} {hi : Bool} {back : Nat} {uv : Int} {vref : Int} (hf_ : Fr κ s0 s) (hk_ : 0xc2c01000008004bc1c000440000000002040000000000000980000000000024000225ff420 &&& κ = 0xc2c01000008004bc1c000440000000002040000000000000980000000000024000225ff420 := by decide) :
    Fr κ s0 (State.sideSample s n hi back uv vref) := by
  refine Fr.lift hf_ hk_ ?_
  clear hf_ hk_
  unfold State.sideSample
  have h0 := Fr.refl 0xc2c01000008004bc1c000440000000002040000000000000980000000000024000225ff420 s
  repeat' first
      | ((try lift_lets); intro v; refine_lift have hv : Fr 0xc2c01000008004bc1c000440000000002040000000000000980000000000024000225ff420 s v := ?_; ?_; clear_value v)
      | ((try lift_lets); intro v)
      | with_reducible refine State.putSide_fr ?_
      | with_reducible refine State.sideClear_fr ?_
      | with_reducible refine State.sideTrip_fr ?_
      | with_reducible refine Fr.ite ?_ ?_
      | with_reducible refine Fr.cond ?_ ?_
      | with_reducible assumption
      | with_reducible exact Fr.id_ (by with_reducible assumption)
      | (refine Fr.of_snd (by assumption) ?_)
      | (refine Fr.of_fst (by assumption) ?_)
      | split
      | (unfold v; split)
      | (unfold v; clear_value *; split)
      | (clear_value *; split)

theorem State.sideSamples_fr {κ : Nat} {s0 s : State} {n : Nat} {hi : Bool} {uv : List Int} {vref : Int} (hf_ : Fr κ s0 s) (hk_ : 0xc2c01000008004bc1c000440000000002040000000000000980000000000024000225ff420 &&& κ = 0xc2c01000008004bc1c000440000000002040000000000000980000000000024000225ff420 := by decide) :
    Fr κ s0 (State.sideSamples s n hi uv vref) := by
  refine Fr.lift hf_ hk_ ?_
  clear hf_ hk_ s0
  induction uv generalizing s with
  | nil => exact Fr.refl _ s
  | cons v r ih => exact (State.sideSample_fr (Fr.refl _ s)).trans ih

theorem execComparatorTrip_fr {s t_ : State} {n : ℕ} {hi : Bool} {uv : List Int} {vref : ℤ} (e_ : execComparatorTrip n hi uv vref s = .next t_) : Fr 0xc2c01000008004bc1c000440000000002040000000000000980000000000024000225ff420 s t_ := by
  unfold execComparatorTrip at e_
  obtain rfl := Host.Outcome.next.inj e_
  clear e_
  have h0 := Fr.refl 0xc2c01000008004bc1c000440000000002040000000000000980000000000024000225ff420 s
  repeat' first
      | ((try lift_lets); intro v; refine_lift have hv : Fr 0xc2c01000008004bc1c000440000000002040000000000000980000000000024000225ff420 s v := ?_; ?_; clear_value v)
      | ((try lift_lets); intro v)
      | with_reducible refine Fr.running ?_ (fun t ht => ?_)
      | with_reducible refine State.sideSamples_fr ?_
      | with_reducible refine Fr.ite ?_ ?_
      | with_reducible refine Fr.cond ?_ ?_
      | with_reducible assumption
      | with_reducible exact Fr.id_ (by with_reducible assumption)
      | (refine Fr.of_snd (by assumption) ?_)
      | (refine Fr.of_fst (by assumption) ?_)
      | split
      | (unfold v; split)
      | (unfold v; clear_value *; split)
      | (clear_value *; split)

theorem execComparatorClear_fr {s t_ : State} {n : ℕ} {hi : Bool} {uv : List Int} {vref : ℤ} (e_ : execComparatorClear n hi uv vref s = .next t_) : Fr 0xc2c01000008004bc1c000440000000002040000000000000980000000000024000225ff420 s t_ := by
  unfold execComparatorClear at e_
  obtain rfl := Host.Outcome.next.inj e_
  clear e_
  have h0 := Fr.refl 0xc2c01000008004bc1c000440000000002040000000000000980000000000024000225ff420 s
  repeat' first
      | ((try lift_lets); intro v; refine_lift have hv : Fr 0xc2c01000008004bc1c000440000000002040000000000000980000000000024000225ff420 s v := ?_; ?_; clear_value v)
      | ((try lift_lets); intro v)
      | with_reducible refine Fr.running ?_ (fun t ht => ?_)
      | with_reducible refine State.sideSamples_fr ?_
      | with_reducible refine Fr.ite ?_ ?_
      | with_reducible refine Fr.cond ?_ ?_
      | with_reducible assumption
      | with_reducible exact Fr.id_ (by with_reducible assumption)
      | (refine Fr.of_snd (by assumption) ?_)
      | (refine Fr.of_fst (by assumption) ?_)
      | split
      | (unfold v; split)
      | (unfold v; clear_value *; split)
      | (clear_value *; split)

theorem State.rbFault_fr {κ : Nat} {s0 s : State} {k : ℕ} {bad : Bool} (hf_ : Fr κ s0 s) (hk_ : 0xc2c01000008004bc1c0004400000000020400000000000000000000000000240002227f420 &&& κ = 0xc2c01000008004bc1c0004400000000020400000000000000000000000000240002227f420 := by decide) :
    Fr κ s0 (State.rbFault s k bad) := by
  refine Fr.lift hf_ hk_ ?_
  clear hf_ hk_
  unfold State.rbFault
  have h0 := Fr.refl 0xc2c01000008004bc1c0004400000000020400000000000000000000000000240002227f420 s
  repeat' first
      | ((try lift_lets); intro v; refine_lift have hv : Fr 0xc2c01000008004bc1c0004400000000020400000000000000000000000000240002227f420 s v := ?_; ?_; clear_value v)
      | ((try lift_lets); intro v)
      | with_reducible refine State.modSns_fr ?_
      | with_reducible refine State.axisFaultOn_fr ?_
      | with_reducible refine State.faultOn_fr ?_
      | with_reducible refine State.setCause_fr ?_
      | with_reducible refine Fr.ite ?_ ?_
      | with_reducible refine Fr.cond ?_ ?_
      | with_reducible assumption
      | (refine Fr.of_snd (by assumption) ?_)
      | (refine Fr.of_fst (by assumption) ?_)
      | split
      | (unfold v; split)
      | (unfold v; clear_value *; split)
      | (clear_value *; split)

theorem State.readBack_fr {κ : Nat} {s0 s : State} {k : ℕ} {code : ℕ} (hf_ : Fr κ s0 s) (hk_ : 0xc2c01000008004bc1c0004400000000020400000000000004000000000000240002227f420 &&& κ = 0xc2c01000008004bc1c0004400000000020400000000000004000000000000240002227f420 := by decide) :
    Fr κ s0 (State.readBack s k code) := by
  refine Fr.lift hf_ hk_ ?_
  clear hf_ hk_
  unfold State.readBack
  have h0 := Fr.refl 0xc2c01000008004bc1c0004400000000020400000000000004000000000000240002227f420 s
  repeat' first
      | ((try lift_lets); intro v; refine_lift have hv : Fr 0xc2c01000008004bc1c0004400000000020400000000000004000000000000240002227f420 s v := ?_; ?_; clear_value v)
      | ((try lift_lets); intro v)
      | with_reducible refine State.inc_fr ?_
      | with_reducible refine State.modSns_fr ?_
      | with_reducible refine State.rbFault_fr ?_
      | with_reducible refine State.setBit_fr ?_
      | with_reducible refine Fr.ite ?_ ?_
      | with_reducible refine Fr.cond ?_ ?_
      | with_reducible assumption
      | (refine Fr.of_snd (by assumption) ?_)
      | (refine Fr.of_fst (by assumption) ?_)
      | split
      | (unfold v; split)
      | (unfold v; clear_value *; split)
      | (clear_value *; split)

theorem State.hahCntClr_fr {κ : Nat} {s0 s : State} {w : Word} (hf_ : Fr κ s0 s) (hk_ : 0x12c0000000000000000000000000 &&& κ = 0x12c0000000000000000000000000 := by decide) :
    Fr κ s0 (State.hahCntClr s w) := by
  refine Fr.lift hf_ hk_ ?_
  clear hf_ hk_
  unfold State.hahCntClr
  have h0 := Fr.refl 0x12c0000000000000000000000000 s
  repeat' first
      | ((try lift_lets); intro v; refine_lift have hv : Fr 0x12c0000000000000000000000000 s v := ?_; ?_; clear_value v)
      | ((try lift_lets); intro v)
      | with_reducible refine State.set_fr ?_
      | with_reducible refine Fr.onlyIf ?_ (fun t ht => ?_)
      | with_reducible refine Fr.ite ?_ ?_
      | with_reducible refine Fr.cond ?_ ?_
      | with_reducible assumption
      | (refine Fr.of_snd (by assumption) ?_)
      | (refine Fr.of_fst (by assumption) ?_)
      | split
      | (unfold v; split)
      | (unfold v; clear_value *; split)
      | (clear_value *; split)

theorem execHahCntClr_fr {s t_ : State} {w : Word} (e_ : execHahCntClr w s = .next t_) : Fr 0x12c0000000000000000000000000 s t_ := by
  unfold execHahCntClr at e_
  obtain rfl := Host.Outcome.next.inj e_
  clear e_
  have h0 := Fr.refl 0x12c0000000000000000000000000 s
  repeat' first
      | ((try lift_lets); intro v; refine_lift have hv : Fr 0x12c0000000000000000000000000 s v := ?_; ?_; clear_value v)
      | ((try lift_lets); intro v)
      | with_reducible refine State.hahCntClr_fr ?_
      | with_reducible refine Fr.running ?_ (fun t ht => ?_)
      | with_reducible refine Fr.ite ?_ ?_
      | with_reducible refine Fr.cond ?_ ?_
      | with_reducible assumption
      | (refine Fr.of_snd (by assumption) ?_)
      | (refine Fr.of_fst (by assumption) ?_)
      | split
      | (unfold v; split)
      | (unfold v; clear_value *; split)
      | (clear_value *; split)

theorem State.sidesIdle_fr {κ : Nat} {s0 s : State} {n : Nat} (hf_ : Fr κ s0 s) (hk_ : 0x101800000000000000000000000000000008000000000000000000460000 &&& κ = 0x101800000000000000000000000000000008000000000000000000460000 := by decide) :
    Fr κ s0 (State.sidesIdle s n) := by
  refine Fr.lift hf_ hk_ ?_
  clear hf_ hk_
  unfold State.sidesIdle
  have h0 := Fr.refl 0x101800000000000000000000000000000008000000000000000000460000 s
  repeat' first
      | ((try lift_lets); intro v; refine_lift have hv : Fr 0x101800000000000000000000000000000008000000000000000000460000 s v := ?_; ?_; clear_value v)
      | ((try lift_lets); intro v)
      | with_reducible refine Fr.forEach ?_ (fun t a ht => ?_)
      | with_reducible refine State.putSide_fr ?_
      | with_reducible refine State.signalFall_fr ?_
      | with_reducible refine Fr.ite ?_ ?_
      | with_reducible refine Fr.cond ?_ ?_
      | with_reducible assumption
      | with_reducible exact Fr.id_ (by with_reducible assumption)
      | (refine Fr.of_snd (by assumption) ?_)
      | (refine Fr.of_fst (by assumption) ?_)
      | split
      | (unfold v; split)
      | (unfold v; clear_value *; split)
      | (clear_value *; split)

theorem State.cmpWrite_fr {κ : Nat} {s0 s : State} {n : ℕ} {w : Word} (hf_ : Fr κ s0 s) (hk_ : 0x101800000000000000000000000000000009000000000000000000460000 &&& κ = 0x101800000000000000000000000000000009000000000000000000460000 := by decide) :
    Fr κ s0 (State.cmpWrite s n w) := by
  refine Fr.lift hf_ hk_ ?_
  clear hf_ hk_
  unfold State.cmpWrite
  have h0 := Fr.refl 0x101800000000000000000000000000000009000000000000000000460000 s
  repeat' first
      | ((try lift_lets); intro v; refine_lift have hv : Fr 0x101800000000000000000000000000000009000000000000000000460000 s v := ?_; ?_; clear_value v)
      | ((try lift_lets); intro v)
      | with_reducible refine State.sidesIdle_fr ?_
      | with_reducible refine State.set_fr ?_
      | with_reducible refine Fr.forEachFld ?_ (fun t f hf ht => ?_)
      | with_reducible refine Fr.forEach ?_ (fun t a ht => ?_)
      | with_reducible refine Fr.ite ?_ ?_
      | with_reducible refine Fr.cond ?_ ?_
      | with_reducible assumption
      | (refine Fr.of_snd (by assumption) ?_)
      | (refine Fr.of_fst (by assumption) ?_)
      | split
      | (unfold v; split)
      | (unfold v; clear_value *; split)
      | (clear_value *; split)

theorem State.thrWrite_fr {κ : Nat} {s0 s : State} {n : ℕ} {w : Word} (hf_ : Fr κ s0 s) (hk_ : 0x2000000000000000000000000 &&& κ = 0x2000000000000000000000000 := by decide) :
    Fr κ s0 (State.thrWrite s n w) := by
  refine Fr.lift hf_ hk_ ?_
  clear hf_ hk_
  unfold State.thrWrite
  have h0 := Fr.refl 0x2000000000000000000000000 s
  repeat' first
      | ((try lift_lets); intro v; refine_lift have hv : Fr 0x2000000000000000000000000 s v := ?_; ?_; clear_value v)
      | ((try lift_lets); intro v)
      | with_reducible refine State.set_fr ?_
      | with_reducible refine Fr.ite ?_ ?_
      | with_reducible refine Fr.cond ?_ ?_
      | with_reducible assumption
      | (refine Fr.of_snd (by assumption) ?_)
      | (refine Fr.of_fst (by assumption) ?_)
      | split
      | (unfold v; split)
      | (unfold v; clear_value *; split)
      | (clear_value *; split)

end Sys2Proof.Machine
end

