-- ==== Sys2Proof/Laws/FrameSensing.lean ====
section
/-! SUPPORT. Frames of the operations of Machine/Sensing.lean: one lemma each (Laws/Frame.lean). -/

namespace Sys2Proof.Machine

set_option Elab.async false

@[simp] theorem staleFld_fam {x : Axis} : fam (staleFld x).reg = 59 := by cases x <;> rfl

theorem State.putQuant_fr {κ : Nat} {s0 s : State} {x : Axis} {q : ℕ} {r : List Word} (hf_ : Fr κ s0 s) (hk_ : 0x80000000000000000018800 &&& κ = 0x80000000000000000018800 := by decide) :
    Fr κ s0 (State.putQuant s x q r) := by
  refine Fr.lift hf_ hk_ ?_
  clear hf_ hk_
  unfold State.putQuant
  have h0 := Fr.refl 0x80000000000000000018800 s
  repeat' first
      | ((try lift_lets); intro v; refine_lift have hv : Fr 0x80000000000000000018800 s v := ?_; ?_; clear_value v)
      | ((try lift_lets); intro v)
      | with_reducible refine State.modSv_fr ?_
      | with_reducible refine State.putSrc_fr ?_
      | with_reducible refine State.set_fr ?_
      | with_reducible refine Fr.ite ?_ ?_
      | with_reducible refine Fr.cond ?_ ?_
      | with_reducible assumption
      | (refine Fr.of_snd (by assumption) ?_)
      | (refine Fr.of_fst (by assumption) ?_)
      | split
      | (unfold v; split)
      | (unfold v; clear_value *; split)
      | (clear_value *; split)

theorem State.sumEnd_fr {κ : Nat} {s0 s : State} {x : Axis} {n : Nat} (hf_ : Fr κ s0 s) (hk_ : 0x100000000000000000000000000000000000000000000000000000200000 &&& κ = 0x100000000000000000000000000000000000000000000000000000200000 := by decide) :
    Fr κ s0 (State.sumEnd s x n) := by
  refine Fr.lift hf_ hk_ ?_
  clear hf_ hk_
  unfold State.sumEnd
  have h0 := Fr.refl 0x100000000000000000000000000000000000000000000000000000200000 s
  repeat' first
      | ((try lift_lets); intro v; refine_lift have hv : Fr 0x100000000000000000000000000000000000000000000000000000200000 s v := ?_; ?_; clear_value v)
      | ((try lift_lets); intro v)
      | with_reducible refine State.modSns_fr ?_
      | with_reducible refine State.setCause_fr ?_
      | with_reducible refine Fr.ite ?_ ?_
      | with_reducible refine Fr.cond ?_ ?_
      | with_reducible assumption
      | with_reducible exact Fr.id_ (by with_reducible assumption)
      | (refine Fr.of_snd (by assumption) ?_)
      | (refine Fr.of_fst (by assumption) ?_)
      | split
      | (unfold v; split)
      | (unfold v; clear_value *; split)
      | (clear_value *; split)

theorem State.slotOpen_fr {κ : Nat} {s0 s : State} {x : Axis} {n : Nat} {at_ : Nat} (hf_ : Fr κ s0 s) (hk_ : 0x100000000000000000000000000000000000000000000000000000200000 &&& κ = 0x100000000000000000000000000000000000000000000000000000200000 := by decide) :
    Fr κ s0 (State.slotOpen s x n at_) := by
  refine Fr.lift hf_ hk_ ?_
  clear hf_ hk_
  unfold State.slotOpen
  have h0 := Fr.refl 0x100000000000000000000000000000000000000000000000000000200000 s
  repeat' first
      | ((try lift_lets); intro v; refine_lift have hv : Fr 0x100000000000000000000000000000000000000000000000000000200000 s v := ?_; ?_; clear_value v)
      | ((try lift_lets); intro v)
      | with_reducible refine Fr.forEach ?_ (fun t a ht => ?_)
      | with_reducible refine State.sumEnd_fr ?_
      | with_reducible refine State.modSns_fr ?_
      | with_reducible refine Fr.ite ?_ ?_
      | with_reducible refine Fr.cond ?_ ?_
      | with_reducible assumption
      | with_reducible exact Fr.id_ (by with_reducible assumption)
      | (refine Fr.of_snd (by assumption) ?_)
      | (refine Fr.of_fst (by assumption) ?_)
      | split
      | (unfold v; split)
      | (unfold v; clear_value *; split)
      | (clear_value *; split)

@[simp] theorem sumFld_fam {x : Axis} : fam (sumFld x).reg = 59 := by cases x <;> rfl

theorem State.sumCheck_fr {κ : Nat} {s0 s : State} {x : Axis} {n : ℕ} {r : List (List Word)} (hf_ : Fr κ s0 s) (hk_ : 0xc2c01000008004bc1c0004400000000020400000000000000008000000000240002227f420 &&& κ = 0xc2c01000008004bc1c0004400000000020400000000000000008000000000240002227f420 := by decide) :
    Fr κ s0 (State.sumCheck s x n r) := by
  refine Fr.lift hf_ hk_ ?_
  clear hf_ hk_
  unfold State.sumCheck
  have h0 := Fr.refl 0xc2c01000008004bc1c0004400000000020400000000000000008000000000240002227f420 s
  repeat' first
      | ((try lift_lets); intro v; refine_lift have hv : Fr 0xc2c01000008004bc1c0004400000000020400000000000000008000000000240002227f420 s v := ?_; ?_; clear_value v)
      | ((try lift_lets); intro v)
      | with_reducible refine State.sumEnd_fr ?_
      | with_reducible refine State.axisFaultOn_fr ?_
      | with_reducible refine State.modSns_fr ?_
      | with_reducible refine State.set_fr ?_
      | with_reducible refine State.setCause_fr ?_
      | with_reducible refine Fr.ite ?_ ?_
      | with_reducible refine Fr.cond ?_ ?_
      | with_reducible assumption
      | (refine Fr.of_snd (by assumption) ?_)
      | (refine Fr.of_fst (by assumption) ?_)
      | split
      | (unfold v; split)
      | (unfold v; clear_value *; split)
      | (clear_value *; split)

theorem State.noteFirst_fr {κ : Nat} {s0 s : State} {x : Axis} {n : Nat} {p : Nat} {v : Word} (hf_ : Fr κ s0 s) (hk_ : 0x200000 &&& κ = 0x200000 := by decide) :
    Fr κ s0 (State.noteFirst s x n p v) := by
  refine Fr.lift hf_ hk_ ?_
  clear hf_ hk_
  unfold State.noteFirst
  have h0 := Fr.refl 0x200000 s
  repeat' first
      | ((try lift_lets); intro v; refine_lift have hv : Fr 0x200000 s v := ?_; ?_; clear_value v)
      | ((try lift_lets); intro v)
      | with_reducible refine State.modSns_fr ?_
      | with_reducible refine Fr.ite ?_ ?_
      | with_reducible refine Fr.cond ?_ ?_
      | with_reducible assumption
      | with_reducible exact Fr.id_ (by with_reducible assumption)
      | (refine Fr.of_snd (by assumption) ?_)
      | (refine Fr.of_fst (by assumption) ?_)
      | split
      | (unfold v; split)
      | (unfold v; clear_value *; split)
      | (clear_value *; split)

theorem State.dtdMove_fr {m : Nat} {s0 s : State} {f : Fld} {δ : Int} (h : Fr m s0 s) (hk : m.testBit (32 + fam f.reg) = true := by first | assumption | decide | (simp; done) | (simp; decide) | (simp +zetaDelta; decide) | (split <;> simp <;> decide) | exact all_fam (by decide)) (hn : 2147483648 &&& m = 2147483648 := by decide) :
    Fr m s0 (s.dtdMove f δ) := State.setI_fr (State.spent_fr h hn) hk

theorem State.dtdStep_fr {κ : Nat} {s0 s : State} {x : Axis} {p : Nat} {δ : Int} {w : Word} (hf_ : Fr κ s0 s) (hk_ : 0x400000000000000080000000 &&& κ = 0x400000000000000080000000 := by decide) :
    Fr κ s0 (State.dtdStep s x p δ w) := by
  refine Fr.lift hf_ hk_ ?_
  clear hf_ hk_
  unfold State.dtdStep
  have h0 := Fr.refl 0x400000000000000080000000 s
  repeat' first
      | ((try lift_lets); intro v; refine_lift have hv : Fr 0x400000000000000080000000 s v := ?_; ?_; clear_value v)
      | ((try lift_lets); intro v)
      | with_reducible refine State.dtdMove_fr ?_
      | with_reducible refine Fr.ite ?_ ?_
      | with_reducible refine Fr.cond ?_ ?_
      | with_reducible assumption
      | with_reducible exact Fr.id_ (by with_reducible assumption)
      | (refine Fr.of_snd (by assumption) ?_)
      | (refine Fr.of_fst (by assumption) ?_)
      | split
      | (unfold v; split)
      | (unfold v; clear_value *; split)
      | (clear_value *; split)

theorem State.dtdLate_fr {κ : Nat} {s0 s : State} {x : Axis} {n : Nat} {p : Nat} {w : Word} (hf_ : Fr κ s0 s) (hk_ : 0x400000000000000080200000 &&& κ = 0x400000000000000080200000 := by decide) :
    Fr κ s0 (State.dtdLate s x n p w) := by
  refine Fr.lift hf_ hk_ ?_
  clear hf_ hk_
  unfold State.dtdLate
  have h0 := Fr.refl 0x400000000000000080200000 s
  repeat' first
      | ((try lift_lets); intro v; refine_lift have hv : Fr 0x400000000000000080200000 s v := ?_; ?_; clear_value v)
      | ((try lift_lets); intro v)
      | with_reducible refine State.dtdStep_fr ?_
      | with_reducible refine State.modSns_fr ?_
      | with_reducible refine Fr.ite ?_ ?_
      | with_reducible refine Fr.cond ?_ ?_
      | with_reducible assumption
      | with_reducible exact Fr.id_ (by with_reducible assumption)
      | (refine Fr.of_snd (by assumption) ?_)
      | (refine Fr.of_fst (by assumption) ?_)
      | split
      | (unfold v; split)
      | (unfold v; clear_value *; split)
      | (clear_value *; split)

theorem State.putPhase_fr {κ : Nat} {s0 s : State} {x : Axis} {n : Nat} {p : Nat} {r : List Word} (hf_ : Fr κ s0 s) (hk_ : 0x480000000000000080218800 &&& κ = 0x480000000000000080218800 := by decide) :
    Fr κ s0 (State.putPhase s x n p r) := by
  refine Fr.lift hf_ hk_ ?_
  clear hf_ hk_
  unfold State.putPhase
  have h0 := Fr.refl 0x480000000000000080218800 s
  repeat' first
      | ((try lift_lets); intro v; refine_lift have hv : Fr 0x480000000000000080218800 s v := ?_; ?_; clear_value v)
      | ((try lift_lets); intro v)
      | with_reducible refine State.dtdLate_fr ?_
      | with_reducible refine State.modSns_fr ?_
      | with_reducible refine State.noteFirst_fr ?_
      | with_reducible refine State.putQuant_fr ?_
      | with_reducible refine Fr.ite ?_ ?_
      | with_reducible refine Fr.cond ?_ ?_
      | with_reducible assumption
      | with_reducible exact Fr.id_ (by with_reducible assumption)
      | (refine Fr.of_snd (by assumption) ?_)
      | (refine Fr.of_fst (by assumption) ?_)
      | split
      | (unfold v; split)
      | (unfold v; clear_value *; split)
      | (clear_value *; split)

theorem State.measure_fr {κ : Nat} {s0 s : State} {x : Axis} {r : List (List Word)} (hf_ : Fr κ s0 s) (hk_ : 0x18000 &&& κ = 0x18000 := by decide) :
    Fr κ s0 (State.measure s x r) := by
  refine Fr.lift hf_ hk_ ?_
  clear hf_ hk_
  unfold State.measure
  have h0 := Fr.refl 0x18000 s
  repeat' first
      | ((try lift_lets); intro v; refine_lift have hv : Fr 0x18000 s v := ?_; ?_; clear_value v)
      | ((try lift_lets); intro v)
      | with_reducible refine State.modSv_fr ?_
      | with_reducible refine Fr.ite ?_ ?_
      | with_reducible refine Fr.cond ?_ ?_
      | with_reducible assumption
      | with_reducible exact Fr.id_ (by with_reducible assumption)
      | (refine Fr.of_snd (by assumption) ?_)
      | (refine Fr.of_fst (by assumption) ?_)
      | split
      | (unfold v; split)
      | (unfold v; clear_value *; split)
      | (clear_value *; split)

theorem State.putPhases_fr {κ : Nat} {s0 s : State} {x : Axis} {n : ℕ} {r : List (List Word)} (hf_ : Fr κ s0 s) (hk_ : 0x480000000000000080218800 &&& κ = 0x480000000000000080218800 := by decide) :
    Fr κ s0 (State.putPhases s x n r) := by
  refine Fr.lift hf_ hk_ ?_
  clear hf_ hk_
  unfold State.putPhases
  have h0 := Fr.refl 0x480000000000000080218800 s
  repeat' first
      | ((try lift_lets); intro v; refine_lift have hv : Fr 0x480000000000000080218800 s v := ?_; ?_; clear_value v)
      | ((try lift_lets); intro v)
      | with_reducible refine State.measure_fr ?_
      | with_reducible refine State.putPhase_fr ?_
      | with_reducible refine State.modSns_fr ?_
      | with_reducible refine State.putQuant_fr ?_
      | with_reducible refine Fr.forEach ?_ (fun t a ht => ?_)
      | with_reducible refine Fr.ite ?_ ?_
      | with_reducible refine Fr.cond ?_ ?_
      | with_reducible assumption
      | (refine Fr.of_snd (by assumption) ?_)
      | (refine Fr.of_fst (by assumption) ?_)
      | split
      | (unfold v; split)
      | (unfold v; clear_value *; split)
      | (clear_value *; split)

theorem State.shunts_fr {κ : Nat} {s0 s : State} {x : Axis} {n : Nat} {r : List (List Word)} {ok : List Bool} (hf_ : Fr κ s0 s) (hk_ : 0x580000000000000080218800 &&& κ = 0x580000000000000080218800 := by decide) :
    Fr κ s0 (State.shunts s x n r ok) := by
  refine Fr.lift hf_ hk_ ?_
  clear hf_ hk_
  unfold State.shunts
  have h0 := Fr.refl 0x580000000000000080218800 s
  repeat' first
      | ((try lift_lets); intro v; refine_lift have hv : Fr 0x580000000000000080218800 s v := ?_; ?_; clear_value v)
      | ((try lift_lets); intro v)
      | with_reducible refine State.inc_fr ?_
      | with_reducible refine State.putPhases_fr ?_
      | with_reducible refine Fr.ite ?_ ?_
      | with_reducible refine Fr.cond ?_ ?_
      | with_reducible assumption
      | with_reducible exact Fr.id_ (by with_reducible assumption)
      | (refine Fr.of_snd (by assumption) ?_)
      | (refine Fr.of_fst (by assumption) ?_)
      | split
      | (unfold v; split)
      | (unfold v; clear_value *; split)
      | (clear_value *; split)

theorem State.phaseDone_fr {κ : Nat} {s0 s : State} {x : Axis} {n : Nat} {p : Nat} {hold : Nat} {r : List Word} (hf_ : Fr κ s0 s) (hk_ : 0xc2c01000008004bc1c000440000000002040000000000000005800000000024000a227fc20 &&& κ = 0xc2c01000008004bc1c000440000000002040000000000000005800000000024000a227fc20 := by decide) :
    Fr κ s0 (State.phaseDone s x n p hold r) := by
  refine Fr.lift hf_ hk_ ?_
  clear hf_ hk_
  unfold State.phaseDone
  have h0 := Fr.refl 0xc2c01000008004bc1c000440000000002040000000000000005800000000024000a227fc20 s
  repeat' first
      | ((try lift_lets); intro v; refine_lift have hv : Fr 0xc2c01000008004bc1c000440000000002040000000000000005800000000024000a227fc20 s v := ?_; ?_; clear_value v)
      | ((try lift_lets); intro v)
      | with_reducible refine State.measure_fr ?_
      | with_reducible refine State.modSns_fr ?_
      | with_reducible refine State.putPhase_fr ?_
      | with_reducible refine State.shunts_fr ?_
      | with_reducible refine State.sumCheck_fr ?_
      | with_reducible refine Fr.ite ?_ ?_
      | with_reducible refine Fr.cond ?_ ?_
      | with_reducible assumption
      | with_reducible exact Fr.id_ (by with_reducible assumption)
      | (refine Fr.of_snd (by assumption) ?_)
      | (refine Fr.of_fst (by assumption) ?_)
      | split
      | (unfold v; split)
      | (unfold v; clear_value *; split)
      | (clear_value *; split)

theorem State.quantDone_fr {κ : Nat} {s0 s : State} {x : Axis} {n : Nat} {q : Nat} {hold : Nat} {r : List Word} (hf_ : Fr κ s0 s) (hk_ : 0xc2c01000008004bc1c000440000000002040000000000000005800000000024000a227fc20 &&& κ = 0xc2c01000008004bc1c000440000000002040000000000000005800000000024000a227fc20 := by decide) :
    Fr κ s0 (State.quantDone s x n q hold r) := by
  refine Fr.lift hf_ hk_ ?_
  clear hf_ hk_
  unfold State.quantDone
  have h0 := Fr.refl 0xc2c01000008004bc1c000440000000002040000000000000005800000000024000a227fc20 s
  repeat' first
      | ((try lift_lets); intro v; refine_lift have hv : Fr 0xc2c01000008004bc1c000440000000002040000000000000005800000000024000a227fc20 s v := ?_; ?_; clear_value v)
      | ((try lift_lets); intro v)
      | with_reducible refine State.phaseDone_fr ?_
      | with_reducible refine State.putQuant_fr ?_
      | with_reducible refine Fr.ite ?_ ?_
      | with_reducible refine Fr.cond ?_ ?_
      | with_reducible assumption
      | with_reducible exact Fr.id_ (by with_reducible assumption)
      | (refine Fr.of_snd (by assumption) ?_)
      | (refine Fr.of_fst (by assumption) ?_)
      | split
      | (unfold v; split)
      | (unfold v; clear_value *; split)
      | (clear_value *; split)

theorem State.putSar_fr {κ : Nat} {s0 s : State} {m : ℕ} {c : Sar} (hf_ : Fr κ s0 s) (hk_ : 0x200000 &&& κ = 0x200000 := by decide) :
    Fr κ s0 (State.putSar s m c) := by
  refine Fr.lift hf_ hk_ ?_
  clear hf_ hk_
  unfold State.putSar
  have h0 := Fr.refl 0x200000 s
  repeat' first
      | ((try lift_lets); intro v; refine_lift have hv : Fr 0x200000 s v := ?_; ?_; clear_value v)
      | ((try lift_lets); intro v)
      | with_reducible refine State.modSns_fr ?_
      | with_reducible refine Fr.ite ?_ ?_
      | with_reducible refine Fr.cond ?_ ?_
      | with_reducible assumption
      | (refine Fr.of_snd (by assumption) ?_)
      | (refine Fr.of_fst (by assumption) ?_)
      | split
      | (unfold v; split)
      | (unfold v; clear_value *; split)
      | (clear_value *; split)

@[simp] theorem waitFld_fam {x : Axis} : fam (waitFld x).reg = 59 := by cases x <;> rfl

theorem State.seqWait_fr {κ : Nat} {s0 s : State} {m : Nat} {k : Nat} {w : Nat × Nat × Nat} (hf_ : Fr κ s0 s) (hk_ : 0x200000 &&& κ = 0x200000 := by decide) :
    Fr κ s0 (State.seqWait s m k w) := by
  refine Fr.lift hf_ hk_ ?_
  clear hf_ hk_
  unfold State.seqWait
  have h0 := Fr.refl 0x200000 s
  repeat' first
      | ((try lift_lets); intro v; refine_lift have hv : Fr 0x200000 s v := ?_; ?_; clear_value v)
      | ((try lift_lets); intro v)
      | with_reducible refine State.putSar_fr ?_
      | with_reducible refine Fr.ite ?_ ?_
      | with_reducible refine Fr.cond ?_ ?_
      | with_reducible assumption
      | with_reducible exact Fr.id_ (by with_reducible assumption)
      | (refine Fr.of_snd (by assumption) ?_)
      | (refine Fr.of_fst (by assumption) ?_)
      | split
      | (unfold v; split)
      | (unfold v; clear_value *; split)
      | (clear_value *; split)

theorem State.seqLate_fr {κ : Nat} {s0 s : State} {x : Axis} (hf_ : Fr κ s0 s) (hk_ : 0x180000000000000000000000 &&& κ = 0x180000000000000000000000 := by decide) :
    Fr κ s0 (State.seqLate s x) := by
  refine Fr.lift hf_ hk_ ?_
  clear hf_ hk_
  unfold State.seqLate
  have h0 := Fr.refl 0x180000000000000000000000 s
  repeat' first
      | ((try lift_lets); intro v; refine_lift have hv : Fr 0x180000000000000000000000 s v := ?_; ?_; clear_value v)
      | ((try lift_lets); intro v)
      | with_reducible refine State.inc_fr ?_
      | with_reducible refine State.set_fr ?_
      | with_reducible refine Fr.ite ?_ ?_
      | with_reducible refine Fr.cond ?_ ?_
      | with_reducible assumption
      | with_reducible exact Fr.id_ (by with_reducible assumption)
      | (refine Fr.of_snd (by assumption) ?_)
      | (refine Fr.of_fst (by assumption) ?_)
      | split
      | (unfold v; split)
      | (unfold v; clear_value *; split)
      | (clear_value *; split)

theorem State.seqBegin_fr {κ : Nat} {s0 s : State} {x : Axis} {n : ℕ} {m : ℕ} (hf_ : Fr κ s0 s) (hk_ : 0x200000 &&& κ = 0x200000 := by decide) :
    Fr κ s0 (State.seqBegin s x n m) := by
  refine Fr.lift hf_ hk_ ?_
  clear hf_ hk_
  unfold State.seqBegin
  have h0 := Fr.refl 0x200000 s
  repeat' first
      | ((try lift_lets); intro v; refine_lift have hv : Fr 0x200000 s v := ?_; ?_; clear_value v)
      | ((try lift_lets); intro v)
      | with_reducible refine State.seqWait_fr ?_
      | with_reducible refine State.inc_fr ?_
      | with_reducible refine State.putSar_fr ?_
      | with_reducible refine State.set_fr ?_
      | with_reducible refine Fr.ite ?_ ?_
      | with_reducible refine Fr.cond ?_ ?_
      | with_reducible assumption
      | (refine Fr.of_snd (by assumption) ?_)
      | (refine Fr.of_fst (by assumption) ?_)
      | split
      | (unfold v; split)
      | (unfold v; clear_value *; split)
      | (clear_value *; split)

theorem State.seqNext_fr {κ : Nat} {s0 s : State} {m : ℕ} (hf_ : Fr κ s0 s) (hk_ : 0x180000000000000000200000 &&& κ = 0x180000000000000000200000 := by decide) :
    Fr κ s0 (State.seqNext s m) := by
  refine Fr.lift hf_ hk_ ?_
  clear hf_ hk_
  unfold State.seqNext
  have h0 := Fr.refl 0x180000000000000000200000 s
  repeat' first
      | ((try lift_lets); intro v; refine_lift have hv : Fr 0x180000000000000000200000 s v := ?_; ?_; clear_value v)
      | ((try lift_lets); intro v)
      | with_reducible refine State.seqLate_fr ?_
      | with_reducible refine State.putSar_fr ?_
      | with_reducible refine Fr.ite ?_ ?_
      | with_reducible refine Fr.cond ?_ ?_
      | with_reducible assumption
      | (refine Fr.of_snd (by assumption) ?_)
      | (refine Fr.of_fst (by assumption) ?_)
      | split
      | (unfold v; split)
      | (unfold v; clear_value *; split)
      | (clear_value *; split)

theorem State.sarCode_fr {κ : Nat} {s0 s : State} {uv : Int} {vref : Int} (hf_ : Fr κ s0 s) (hk_ : 0x80000000 &&& κ = 0x80000000 := by decide) :
    Fr κ s0 (State.sarCode s uv vref).2 := by
  refine Fr.lift hf_ hk_ ?_
  clear hf_ hk_
  unfold State.sarCode
  have h0 := Fr.refl 0x80000000 s
  repeat' first
      | ((try lift_lets); intro v; refine_lift have hv : Fr 0x80000000 s v := ?_; ?_; clear_value v)
      | ((try lift_lets); intro v)
      | with_reducible refine State.spent_fr ?_
      | with_reducible refine Fr.ite ?_ ?_
      | with_reducible refine Fr.cond ?_ ?_
      | with_reducible assumption
      | with_reducible exact Fr.id_ (by with_reducible assumption)
      | (refine Fr.of_snd (by assumption) ?_)
      | (refine Fr.of_fst (by assumption) ?_)
      | split
      | (unfold v; split)
      | (unfold v; clear_value *; split)
      | (clear_value *; split)

theorem State.sarCodes_fr {κ : Nat} {s0 s : State} {uv : List Int} {vref : Int} (hf_ : Fr κ s0 s) (hk_ : 0x80000000 &&& κ = 0x80000000 := by decide) :
    Fr κ s0 (State.sarCodes s uv vref).2 := by
  refine Fr.lift hf_ hk_ ?_
  clear hf_ hk_ s0
  induction uv generalizing s with
  | nil => exact Fr.refl _ s
  | cons v r ih => exact (State.sarCode_fr (Fr.refl _ s)).trans ih

theorem State.ainDone_fr {κ : Nat} {s0 s : State} {x : Axis} {n : ℕ} {a : ℕ} {m : ℕ} {cal : Word} {codes : List ℕ} {waited : Bool} {hold : ℕ} (hf_ : Fr κ s0 s) (hk_ : 0xc2c01000008004bc1c000440000000002040000000000000005800000000024000a227fc20 &&& κ = 0xc2c01000008004bc1c000440000000002040000000000000005800000000024000a227fc20 := by decide) :
    Fr κ s0 (State.ainDone s x n a m cal codes waited hold) := by
  refine Fr.lift hf_ hk_ ?_
  clear hf_ hk_
  unfold State.ainDone
  have h0 := Fr.refl 0xc2c01000008004bc1c000440000000002040000000000000005800000000024000a227fc20 s
  repeat' first
      | ((try lift_lets); intro v; refine_lift have hv : Fr 0xc2c01000008004bc1c000440000000002040000000000000005800000000024000a227fc20 s v := ?_; ?_; clear_value v)
      | ((try lift_lets); intro v)
      | with_reducible refine State.putSrc_fr ?_
      | with_reducible refine State.quantDone_fr ?_
      | with_reducible refine Fr.forEach ?_ (fun t a ht => ?_)
      | with_reducible refine Fr.ite ?_ ?_
      | with_reducible refine Fr.cond ?_ ?_
      | with_reducible assumption
      | (refine Fr.of_snd (by assumption) ?_)
      | (refine Fr.of_fst (by assumption) ?_)
      | split
      | (unfold v; split)
      | (unfold v; clear_value *; split)
      | (clear_value *; split)

theorem State.ainBackground_fr {κ : Nat} {s0 s : State} {x : Axis} {a : Nat} {m : Nat} {code : Nat} (hf_ : Fr κ s0 s) (hk_ : 0x80000000000000000018800 &&& κ = 0x80000000000000000018800 := by decide) :
    Fr κ s0 (State.ainBackground s x a m code) := by
  refine Fr.lift hf_ hk_ ?_
  clear hf_ hk_
  unfold State.ainBackground
  have h0 := Fr.refl 0x80000000000000000018800 s
  repeat' first
      | ((try lift_lets); intro v; refine_lift have hv : Fr 0x80000000000000000018800 s v := ?_; ?_; clear_value v)
      | ((try lift_lets); intro v)
      | with_reducible refine Fr.forEach ?_ (fun t a ht => ?_)
      | with_reducible refine State.putQuant_fr ?_
      | with_reducible refine State.putSrc_fr ?_
      | with_reducible refine Fr.ite ?_ ?_
      | with_reducible refine Fr.cond ?_ ?_
      | with_reducible assumption
      | with_reducible exact Fr.id_ (by with_reducible assumption)
      | (refine Fr.of_snd (by assumption) ?_)
      | (refine Fr.of_fst (by assumption) ?_)
      | split
      | (unfold v; split)
      | (unfold v; clear_value *; split)
      | (clear_value *; split)

theorem execSarConversionEnd_fr {s t_ : State} {m : ℕ} {uv : List Int} {vref : ℤ} (e_ : execSarConversionEnd m uv vref s = .next t_) : Fr 0xc2c01000008004bc1c000440000000002040000000000000005800000000024000a227fc20 s t_ := by
  unfold execSarConversionEnd at e_
  obtain rfl := Host.Outcome.next.inj e_
  clear e_
  have h0 := Fr.refl 0xc2c01000008004bc1c000440000000002040000000000000005800000000024000a227fc20 s
  repeat' first
      | ((try lift_lets); intro v; refine_lift have hv : Fr 0xc2c01000008004bc1c000440000000002040000000000000005800000000024000a227fc20 s v := ?_; ?_; clear_value v)
      | ((try lift_lets); intro v)
      | with_reducible refine State.ainDone_fr ?_
      | with_reducible refine State.putSar_fr ?_
      | with_reducible refine Fr.running ?_ (fun t ht => ?_)
      | with_reducible refine State.sarCodes_fr ?_
      | with_reducible refine State.seqNext_fr ?_
      | with_reducible refine Fr.ite ?_ ?_
      | with_reducible refine Fr.cond ?_ ?_
      | with_reducible assumption
      | with_reducible exact Fr.id_ (by with_reducible assumption)
      | (refine Fr.of_snd (by assumption) ?_)
      | (refine Fr.of_fst (by assumption) ?_)
      | split
      | (unfold v; split)
      | (unfold v; clear_value *; split)
      | (clear_value *; split)

theorem execBackgroundConversion_fr {s t_ : State} {m : ℕ} {what : BgInput} {uv : ℤ} {vref : ℤ} {ahead : ℕ} (e_ : execBackgroundConversion m what uv vref ahead s = .next t_) : Fr 0xc2c01000008004bc1c000440000000002040000000000000400800000000024000a227fc20 s t_ := by
  unfold execBackgroundConversion at e_
  obtain rfl := Host.Outcome.next.inj e_
  clear e_
  have h0 := Fr.refl 0xc2c01000008004bc1c000440000000002040000000000000400800000000024000a227fc20 s
  repeat' first
      | ((try lift_lets); intro v; refine_lift have hv : Fr 0xc2c01000008004bc1c000440000000002040000000000000400800000000024000a227fc20 s v := ?_; ?_; clear_value v)
      | ((try lift_lets); intro v)
      | with_reducible refine State.ainBackground_fr ?_
      | with_reducible refine State.modSns_fr ?_
      | with_reducible refine State.putSrc_fr ?_
      | with_reducible refine State.readBack_fr ?_
      | with_reducible refine Fr.running ?_ (fun t ht => ?_)
      | with_reducible refine State.sarCode_fr ?_
      | with_reducible refine Fr.ite ?_ ?_
      | with_reducible refine Fr.cond ?_ ?_
      | with_reducible assumption
      | with_reducible exact Fr.id_ (by with_reducible assumption)
      | (refine Fr.of_snd (by assumption) ?_)
      | (refine Fr.of_fst (by assumption) ?_)
      | split
      | (unfold v; split)
      | (unfold v; clear_value *; split)
      | (clear_value *; split)

theorem State.densityCode_fr {κ : Nat} {s0 s : State} {ws : List Nat} {bits : List Bool} (hf_ : Fr κ s0 s) (hk_ : 0x80000000 &&& κ = 0x80000000 := by decide) :
    Fr κ s0 (State.densityCode s ws bits).2 := by
  refine Fr.lift hf_ hk_ ?_
  clear hf_ hk_
  unfold State.densityCode
  have h0 := Fr.refl 0x80000000 s
  repeat' first
      | ((try lift_lets); intro v; refine_lift have hv : Fr 0x80000000 s v := ?_; ?_; clear_value v)
      | ((try lift_lets); intro v)
      | with_reducible refine State.spent_fr ?_
      | with_reducible refine Fr.ite ?_ ?_
      | with_reducible refine Fr.cond ?_ ?_
      | with_reducible assumption
      | with_reducible exact Fr.id_ (by with_reducible assumption)
      | (refine Fr.of_snd (by assumption) ?_)
      | (refine Fr.of_fst (by assumption) ?_)
      | split
      | (unfold v; split)
      | (unfold v; clear_value *; split)
      | (clear_value *; split)

theorem State.sinc3_fr {κ : Nat} {s0 s : State} {x : Axis} {n : Nat} {captured : List (List Bool)} (hf_ : Fr κ s0 s) (hk_ : 0xc2c01000008004bc1c000440000000002040000000000000005800000000024000a227fc20 &&& κ = 0xc2c01000008004bc1c000440000000002040000000000000005800000000024000a227fc20 := by decide) :
    Fr κ s0 (State.sinc3 s x n captured) := by
  refine Fr.lift hf_ hk_ ?_
  clear hf_ hk_
  unfold State.sinc3
  have h0 := Fr.refl 0xc2c01000008004bc1c000440000000002040000000000000005800000000024000a227fc20 s
  repeat' first
      | ((try lift_lets); intro v; refine_lift have hv : Fr 0xc2c01000008004bc1c000440000000002040000000000000005800000000024000a227fc20 s v := ?_; ?_; clear_value v)
      | ((try lift_lets); intro v)
      | with_reducible refine State.densityCode_fr ?_
      | with_reducible refine Fr.forEach ?_ (fun t a ht => ?_)
      | with_reducible refine State.quantDone_fr ?_
      | with_reducible refine Fr.ite ?_ ?_
      | with_reducible refine Fr.cond ?_ ?_
      | with_reducible assumption
      | with_reducible exact Fr.id_ (by with_reducible assumption)
      | (refine Fr.of_snd (by assumption) ?_)
      | (refine Fr.of_fst (by assumption) ?_)
      | split
      | (unfold v; split)
      | (unfold v; clear_value *; split)
      | (clear_value *; split)

theorem execSinc3Settled_fr {s t_ : State} {i : ℕ} {captured : ℕ} (e_ : execSinc3Settled i captured s = .next t_) : Fr 0x200000 s t_ := by
  unfold execSinc3Settled at e_
  obtain rfl := Host.Outcome.next.inj e_
  clear e_
  have h0 := Fr.refl 0x200000 s
  repeat' first
      | ((try lift_lets); intro v; refine_lift have hv : Fr 0x200000 s v := ?_; ?_; clear_value v)
      | ((try lift_lets); intro v)
      | with_reducible refine State.modSns_fr ?_
      | with_reducible refine Fr.running ?_ (fun t ht => ?_)
      | with_reducible refine Fr.ite ?_ ?_
      | with_reducible refine Fr.cond ?_ ?_
      | with_reducible assumption
      | (refine Fr.of_snd (by assumption) ?_)
      | (refine Fr.of_fst (by assumption) ?_)
      | split
      | (unfold v; split)
      | (unfold v; clear_value *; split)
      | (clear_value *; split)

theorem execSinc2Result_fr {s t_ : State} {i : ℕ} {captured : List Bool} (e_ : execSinc2Result i captured s = .next t_) : Fr 0xc2c01000008004bc1c000440000000002040000000000000000800000000024000a227f420 s t_ := by
  unfold execSinc2Result at e_
  obtain rfl := Host.Outcome.next.inj e_
  clear e_
  have h0 := Fr.refl 0xc2c01000008004bc1c000440000000002040000000000000000800000000024000a227f420 s
  repeat' first
      | ((try lift_lets); intro v; refine_lift have hv : Fr 0xc2c01000008004bc1c000440000000002040000000000000000800000000024000a227f420 s v := ?_; ?_; clear_value v)
      | ((try lift_lets); intro v)
      | with_reducible refine State.densityCode_fr ?_
      | with_reducible refine State.evx_fr ?_
      | with_reducible refine State.modSns_fr ?_
      | with_reducible refine Fr.running ?_ (fun t ht => ?_)
      | with_reducible refine State.setBit_fr ?_
      | with_reducible refine State.signalFall_fr ?_
      | with_reducible refine State.signalRise_fr ?_
      | with_reducible refine Fr.ite ?_ ?_
      | with_reducible refine Fr.cond ?_ ?_
      | with_reducible assumption
      | with_reducible exact Fr.id_ (by with_reducible assumption)
      | (refine Fr.of_snd (by assumption) ?_)
      | (refine Fr.of_fst (by assumption) ?_)
      | split
      | (unfold v; split)
      | (unfold v; clear_value *; split)
      | (clear_value *; split)

theorem execSigmaDeltaInputStuck_fr {s t_ : State} {i : ℕ} {clocks : ℕ} (e_ : execSigmaDeltaInputStuck i clocks s = .next t_) : Fr 0xc2c01000008004bc1c0004400000000020400000000000000008000000000240002227f420 s t_ := by
  unfold execSigmaDeltaInputStuck at e_
  obtain rfl := Host.Outcome.next.inj e_
  clear e_
  have h0 := Fr.refl 0xc2c01000008004bc1c0004400000000020400000000000000008000000000240002227f420 s
  repeat' first
      | ((try lift_lets); intro v; refine_lift have hv : Fr 0xc2c01000008004bc1c0004400000000020400000000000000008000000000240002227f420 s v := ?_; ?_; clear_value v)
      | ((try lift_lets); intro v)
      | with_reducible refine State.axisFaultOn_fr ?_
      | with_reducible refine State.faultOn_fr ?_
      | with_reducible refine State.modSns_fr ?_
      | with_reducible refine State.setBit_fr ?_
      | with_reducible refine State.setCause_fr ?_
      | with_reducible refine Fr.running ?_ (fun t ht => ?_)
      | with_reducible refine Fr.ite ?_ ?_
      | with_reducible refine Fr.cond ?_ ?_
      | with_reducible assumption
      | (refine Fr.of_snd (by assumption) ?_)
      | (refine Fr.of_fst (by assumption) ?_)
      | split
      | (unfold v; split)
      | (unfold v; clear_value *; split)
      | (clear_value *; split)

theorem State.sdRestart_fr {κ : Nat} {s0 s : State} {l : List ℕ} (hf_ : Fr κ s0 s) (hk_ : 0x200000 &&& κ = 0x200000 := by decide) :
    Fr κ s0 (State.sdRestart s l) := by
  refine Fr.lift hf_ hk_ ?_
  clear hf_ hk_
  unfold State.sdRestart
  have h0 := Fr.refl 0x200000 s
  repeat' first
      | ((try lift_lets); intro v; refine_lift have hv : Fr 0x200000 s v := ?_; ?_; clear_value v)
      | ((try lift_lets); intro v)
      | with_reducible refine State.modSns_fr ?_
      | with_reducible refine Fr.forEach ?_ (fun t a ht => ?_)
      | with_reducible refine Fr.ite ?_ ?_
      | with_reducible refine Fr.cond ?_ ?_
      | with_reducible assumption
      | (refine Fr.of_snd (by assumption) ?_)
      | (refine Fr.of_fst (by assumption) ?_)
      | split
      | (unfold v; split)
      | (unfold v; clear_value *; split)
      | (clear_value *; split)

@[simp] theorem divFld_fam {x : Axis} : fam (divFld x).reg = 52 := by cases x <;> rfl

theorem State.sdclkWrite_fr {κ : Nat} {s0 s : State} {w : Word} (hf_ : Fr κ s0 s) (hk_ : 0x1000000000000000200000 &&& κ = 0x1000000000000000200000 := by decide) :
    Fr κ s0 (State.sdclkWrite s w) := by
  refine Fr.lift hf_ hk_ ?_
  clear hf_ hk_
  unfold State.sdclkWrite
  have h0 := Fr.refl 0x1000000000000000200000 s
  repeat' first
      | ((try lift_lets); intro v; refine_lift have hv : Fr 0x1000000000000000200000 s v := ?_; ?_; clear_value v)
      | ((try lift_lets); intro v)
      | with_reducible refine State.sdRestart_fr ?_
      | with_reducible refine State.set_fr ?_
      | with_reducible refine Fr.forEach ?_ (fun t a ht => ?_)
      | with_reducible refine Fr.ite ?_ ?_
      | with_reducible refine Fr.cond ?_ ?_
      | with_reducible assumption
      | (refine Fr.of_snd (by assumption) ?_)
      | (refine Fr.of_fst (by assumption) ?_)
      | split
      | (unfold v; split)
      | (unfold v; clear_value *; split)
      | (clear_value *; split)

theorem execSdclkWrite_fr {s t_ : State} {w : Word} (e_ : execSdclkWrite w s = .next t_) : Fr 0x1000000000000000200000 s t_ := by
  unfold execSdclkWrite at e_
  obtain rfl := Host.Outcome.next.inj e_
  clear e_
  have h0 := Fr.refl 0x1000000000000000200000 s
  repeat' first
      | ((try lift_lets); intro v; refine_lift have hv : Fr 0x1000000000000000200000 s v := ?_; ?_; clear_value v)
      | ((try lift_lets); intro v)
      | with_reducible refine State.sdclkWrite_fr ?_
      | with_reducible refine Fr.running ?_ (fun t ht => ?_)
      | with_reducible refine Fr.ite ?_ ?_
      | with_reducible refine Fr.cond ?_ ?_
      | with_reducible assumption
      | (refine Fr.of_snd (by assumption) ?_)
      | (refine Fr.of_fst (by assumption) ?_)
      | split
      | (unfold v; split)
      | (unfold v; clear_value *; split)
      | (clear_value *; split)

theorem State.sdchWrite_fr {κ : Nat} {s0 s : State} {i : ℕ} {w : Word} (hf_ : Fr κ s0 s) (hk_ : 0x2000000000000000200000 &&& κ = 0x2000000000000000200000 := by decide) :
    Fr κ s0 (State.sdchWrite s i w) := by
  refine Fr.lift hf_ hk_ ?_
  clear hf_ hk_
  unfold State.sdchWrite
  have h0 := Fr.refl 0x2000000000000000200000 s
  repeat' first
      | ((try lift_lets); intro v; refine_lift have hv : Fr 0x2000000000000000200000 s v := ?_; ?_; clear_value v)
      | ((try lift_lets); intro v)
      | with_reducible refine State.sdRestart_fr ?_
      | with_reducible refine State.set_fr ?_
      | with_reducible refine State.setIf_fr ?_
      | with_reducible refine Fr.ite ?_ ?_
      | with_reducible refine Fr.cond ?_ ?_
      | with_reducible assumption
      | (refine Fr.of_snd (by assumption) ?_)
      | (refine Fr.of_fst (by assumption) ?_)
      | split
      | (unfold v; split)
      | (unfold v; clear_value *; split)
      | (clear_value *; split)

theorem State.fthrWrite_fr {κ : Nat} {s0 s : State} {i : ℕ} {w : Word} (hf_ : Fr κ s0 s) (hk_ : 0x4000000000000000000000 &&& κ = 0x4000000000000000000000 := by decide) :
    Fr κ s0 (State.fthrWrite s i w) := by
  refine Fr.lift hf_ hk_ ?_
  clear hf_ hk_
  unfold State.fthrWrite
  have h0 := Fr.refl 0x4000000000000000000000 s
  repeat' first
      | ((try lift_lets); intro v; refine_lift have hv : Fr 0x4000000000000000000000 s v := ?_; ?_; clear_value v)
      | ((try lift_lets); intro v)
      | with_reducible refine State.wr_fr ?_
      | with_reducible refine Fr.ite ?_ ?_
      | with_reducible refine Fr.cond ?_ ?_
      | with_reducible assumption
      | (refine Fr.of_snd (by assumption) ?_)
      | (refine Fr.of_fst (by assumption) ?_)
      | split
      | (unfold v; split)
      | (unfold v; clear_value *; split)
      | (clear_value *; split)

theorem State.snsCntClr_fr {κ : Nat} {s0 s : State} {w : Word} (hf_ : Fr κ s0 s) (hk_ : 0x500000000000000000000000 &&& κ = 0x500000000000000000000000 := by decide) :
    Fr κ s0 (State.snsCntClr s w) := by
  refine Fr.lift hf_ hk_ ?_
  clear hf_ hk_
  unfold State.snsCntClr
  have h0 := Fr.refl 0x500000000000000000000000 s
  repeat' first
      | ((try lift_lets); intro v; refine_lift have hv : Fr 0x500000000000000000000000 s v := ?_; ?_; clear_value v)
      | ((try lift_lets); intro v)
      | with_reducible refine State.wr_fr ?_
      | with_reducible refine Fr.forEach ?_ (fun t a ht => ?_)
      | with_reducible refine Fr.ite ?_ ?_
      | with_reducible refine Fr.cond ?_ ?_
      | with_reducible assumption
      | (refine Fr.of_snd (by assumption) ?_)
      | (refine Fr.of_fst (by assumption) ?_)
      | split
      | (unfold v; split)
      | (unfold v; clear_value *; split)
      | (clear_value *; split)

theorem execSnsCntClr_fr {s t_ : State} {w : Word} (e_ : execSnsCntClr w s = .next t_) : Fr 0x500000000000000000000000 s t_ := by
  unfold execSnsCntClr at e_
  obtain rfl := Host.Outcome.next.inj e_
  clear e_
  have h0 := Fr.refl 0x500000000000000000000000 s
  repeat' first
      | ((try lift_lets); intro v; refine_lift have hv : Fr 0x500000000000000000000000 s v := ?_; ?_; clear_value v)
      | ((try lift_lets); intro v)
      | with_reducible refine State.snsCntClr_fr ?_
      | with_reducible refine Fr.running ?_ (fun t ht => ?_)
      | with_reducible refine Fr.ite ?_ ?_
      | with_reducible refine Fr.cond ?_ ?_
      | with_reducible assumption
      | (refine Fr.of_snd (by assumption) ?_)
      | (refine Fr.of_fst (by assumption) ?_)
      | split
      | (unfold v; split)
      | (unfold v; clear_value *; split)
      | (clear_value *; split)

theorem State.calWrite_fr {κ : Nat} {s0 s : State} {n : ℕ} {w : Word} (hf_ : Fr κ s0 s) (hk_ : 0x200000000000000000200000 &&& κ = 0x200000000000000000200000 := by decide) :
    Fr κ s0 (State.calWrite s n w) := by
  refine Fr.lift hf_ hk_ ?_
  clear hf_ hk_
  unfold State.calWrite
  have h0 := Fr.refl 0x200000000000000000200000 s
  repeat' first
      | ((try lift_lets); intro v; refine_lift have hv : Fr 0x200000000000000000200000 s v := ?_; ?_; clear_value v)
      | ((try lift_lets); intro v)
      | with_reducible refine State.modSns_fr ?_
      | with_reducible refine State.set_fr ?_
      | with_reducible refine State.setIf_fr ?_
      | with_reducible refine Fr.ite ?_ ?_
      | with_reducible refine Fr.cond ?_ ?_
      | with_reducible assumption
      | (refine Fr.of_snd (by assumption) ?_)
      | (refine Fr.of_fst (by assumption) ?_)
      | split
      | (unfold v; split)
      | (unfold v; clear_value *; split)
      | (clear_value *; split)

theorem State.dtdDue_fr {κ : Nat} {s0 s : State} {x : Axis} {p : Nat} {δ : Int} (hf_ : Fr κ s0 s) (hk_ : 0x400000000000000080200000 &&& κ = 0x400000000000000080200000 := by decide) :
    Fr κ s0 (State.dtdDue s x p δ) := by
  refine Fr.lift hf_ hk_ ?_
  clear hf_ hk_
  unfold State.dtdDue
  have h0 := Fr.refl 0x400000000000000080200000 s
  repeat' first
      | ((try lift_lets); intro v; refine_lift have hv : Fr 0x400000000000000080200000 s v := ?_; ?_; clear_value v)
      | ((try lift_lets); intro v)
      | with_reducible refine State.dtdStep_fr ?_
      | with_reducible refine State.modSns_fr ?_
      | with_reducible refine Fr.ite ?_ ?_
      | with_reducible refine Fr.cond ?_ ?_
      | with_reducible assumption
      | with_reducible exact Fr.id_ (by with_reducible assumption)
      | (refine Fr.of_snd (by assumption) ?_)
      | (refine Fr.of_fst (by assumption) ?_)
      | split
      | (unfold v; split)
      | (unfold v; clear_value *; split)
      | (clear_value *; split)

theorem execEdgesDelivery_fr {s t_ : State} {x : Axis} (e_ : execEdgesDelivery x s = .next t_) : Fr 0x400000000000000080200800 s t_ := by
  unfold execEdgesDelivery at e_
  obtain rfl := Host.Outcome.next.inj e_
  clear e_
  have h0 := Fr.refl 0x400000000000000080200800 s
  repeat' first
      | ((try lift_lets); intro v; refine_lift have hv : Fr 0x400000000000000080200800 s v := ?_; ?_; clear_value v)
      | ((try lift_lets); intro v)
      | with_reducible refine State.dtdDue_fr ?_
      | with_reducible refine State.modSns_fr ?_
      | with_reducible refine State.dtdStep_fr ?_
      | with_reducible refine State.modTr_fr ?_
      | with_reducible refine State.putSrc_fr ?_
      | with_reducible refine Fr.forEach ?_ (fun t a ht => ?_)
      | with_reducible refine Fr.running ?_ (fun t ht => ?_)
      | with_reducible refine Fr.ite ?_ ?_
      | with_reducible refine Fr.cond ?_ ?_
      | with_reducible assumption
      | (refine Fr.of_snd (by assumption) ?_)
      | (refine Fr.of_fst (by assumption) ?_)
      | split
      | (unfold v; split)
      | (unfold v; clear_value *; split)
      | (clear_value *; split)

end Sys2Proof.Machine
end

