-- ==== Sys2Proof/Laws/FramePosition.lean ====
section
/-! SUPPORT. Frames of the operations of Machine/Position.lean: one lemma each (Laws/Frame.lean). -/

namespace Sys2Proof.Machine

set_option Elab.async false

theorem State.modHall_fr {κ : Nat} {s0 s : State} {h : Axis} {f : Hall → Hall} (hf_ : Fr κ s0 s) (hk_ : 0x400000 &&& κ = 0x400000 := by decide) :
    Fr κ s0 (State.modHall s h f) := by
  refine Fr.lift hf_ hk_ ?_
  clear hf_ hk_
  unfold State.modHall
  have h0 := Fr.refl 0x400000 s
  repeat' first
      | ((try lift_lets); intro v; refine_lift have hv : Fr 0x400000 s v := ?_; ?_; clear_value v)
      | ((try lift_lets); intro v)

      | with_reducible refine Fr.ite ?_ ?_
      | with_reducible refine Fr.cond ?_ ?_
      | with_reducible exact Fr.hah (by with_reducible assumption)
      | with_reducible assumption
      | (refine Fr.of_snd (by assumption) ?_)
      | (refine Fr.of_fst (by assumption) ?_)
      | split
      | (unfold v; split)
      | (unfold v; clear_value *; split)
      | (clear_value *; split)

theorem State.modEnc_fr {κ : Nat} {s0 s : State} {e : Axis} {f : Enc → Enc} (hf_ : Fr κ s0 s) (hk_ : 0x400000 &&& κ = 0x400000 := by decide) :
    Fr κ s0 (State.modEnc s e f) := by
  refine Fr.lift hf_ hk_ ?_
  clear hf_ hk_
  unfold State.modEnc
  have h0 := Fr.refl 0x400000 s
  repeat' first
      | ((try lift_lets); intro v; refine_lift have hv : Fr 0x400000 s v := ?_; ?_; clear_value v)
      | ((try lift_lets); intro v)

      | with_reducible refine Fr.ite ?_ ?_
      | with_reducible refine Fr.cond ?_ ?_
      | with_reducible exact Fr.hah (by with_reducible assumption)
      | with_reducible assumption
      | (refine Fr.of_snd (by assumption) ?_)
      | (refine Fr.of_fst (by assumption) ?_)
      | split
      | (unfold v; split)
      | (unfold v; clear_value *; split)
      | (clear_value *; split)

theorem State.posLost_fr {κ : Nat} {s0 s : State} {x : Axis} (hf_ : Fr κ s0 s) (hk_ : 0xc2c01000008004bc1c0004400000000020400000000001000000000000000240002207f420 &&& κ = 0xc2c01000008004bc1c0004400000000020400000000001000000000000000240002207f420 := by decide) :
    Fr κ s0 (State.posLost s x) := by
  refine Fr.lift hf_ hk_ ?_
  clear hf_ hk_
  unfold State.posLost
  have h0 := Fr.refl 0xc2c01000008004bc1c0004400000000020400000000001000000000000000240002207f420 s
  repeat' first
      | ((try lift_lets); intro v; refine_lift have hv : Fr 0xc2c01000008004bc1c0004400000000020400000000001000000000000000240002207f420 s v := ?_; ?_; clear_value v)
      | ((try lift_lets); intro v)
      | with_reducible refine State.setB_fr ?_
      | with_reducible refine State.axisFault_fr ?_
      | with_reducible refine State.modSv_fr ?_
      | with_reducible refine State.set_fr ?_
      | with_reducible refine Fr.ite ?_ ?_
      | with_reducible refine Fr.cond ?_ ?_
      | with_reducible assumption
      | (refine Fr.of_snd (by assumption) ?_)
      | (refine Fr.of_fst (by assumption) ?_)
      | split
      | (unfold v; split)
      | (unfold v; clear_value *; split)
      | (clear_value *; split)

theorem State.hallTheta_fr {κ : Nat} {s0 s : State} {x : Axis} {sector : ℕ} {rev : Bool} {stamp : ℕ} (hf_ : Fr κ s0 s) (hk_ : 0x80000000000000000000000000018000 &&& κ = 0x80000000000000000000000000018000 := by decide) :
    Fr κ s0 (State.hallTheta s x sector rev stamp) := by
  refine Fr.lift hf_ hk_ ?_
  clear hf_ hk_
  unfold State.hallTheta
  have h0 := Fr.refl 0x80000000000000000000000000018000 s
  repeat' first
      | ((try lift_lets); intro v; refine_lift have hv : Fr 0x80000000000000000000000000018000 s v := ?_; ?_; clear_value v)
      | ((try lift_lets); intro v)
      | with_reducible refine State.modSv_fr ?_
      | with_reducible refine State.setW_fr ?_
      | with_reducible refine Fr.ite ?_ ?_
      | with_reducible refine Fr.cond ?_ ?_
      | with_reducible assumption
      | (refine Fr.of_snd (by assumption) ?_)
      | (refine Fr.of_fst (by assumption) ?_)
      | split
      | (unfold v; split)
      | (unfold v; clear_value *; split)
      | (clear_value *; split)

theorem State.hallChange_fr {κ : Nat} {s0 s : State} {h : Axis} {code : ℕ} {stamp : ℕ} (hf_ : Fr κ s0 s) (hk_ : 0x80000200000000000000000000418000 &&& κ = 0x80000200000000000000000000418000 := by decide) :
    Fr κ s0 (State.hallChange s h code stamp) := by
  refine Fr.lift hf_ hk_ ?_
  clear hf_ hk_
  unfold State.hallChange
  have h0 := Fr.refl 0x80000200000000000000000000418000 s
  repeat' first
      | ((try lift_lets); intro v; refine_lift have hv : Fr 0x80000200000000000000000000418000 s v := ?_; ?_; clear_value v)
      | ((try lift_lets); intro v)
      | with_reducible refine State.hallTheta_fr ?_
      | with_reducible refine State.inc_fr ?_
      | with_reducible refine State.modHall_fr ?_
      | with_reducible refine State.set_fr ?_
      | with_reducible refine Fr.forEach ?_ (fun t a ht => ?_)
      | with_reducible refine Fr.ite ?_ ?_
      | with_reducible refine Fr.cond ?_ ?_
      | with_reducible assumption
      | (refine Fr.of_snd (by assumption) ?_)
      | (refine Fr.of_fst (by assumption) ?_)
      | split
      | (unfold v; split)
      | (unfold v; clear_value *; split)
      | (clear_value *; split)

theorem execHallCodeAccept_fr {s t_ : State} {h : Axis} {lines : ℕ} {ns : ℕ} (e_ : execHallCodeAccept h lines ns s = .next t_) : Fr 0x80000200000000000000000000418000 s t_ := by
  unfold execHallCodeAccept at e_
  obtain rfl := Host.Outcome.next.inj e_
  clear e_
  have h0 := Fr.refl 0x80000200000000000000000000418000 s
  repeat' first
      | ((try lift_lets); intro v; refine_lift have hv : Fr 0x80000200000000000000000000418000 s v := ?_; ?_; clear_value v)
      | ((try lift_lets); intro v)
      | with_reducible refine State.hallChange_fr ?_
      | with_reducible refine Fr.running ?_ (fun t ht => ?_)
      | with_reducible refine Fr.ite ?_ ?_
      | with_reducible refine Fr.cond ?_ ?_
      | with_reducible assumption
      | (refine Fr.of_snd (by assumption) ?_)
      | (refine Fr.of_fst (by assumption) ?_)
      | split
      | (unfold v; split)
      | (unfold v; clear_value *; split)
      | (clear_value *; split)

theorem State.encDistrust_fr {κ : Nat} {s0 s : State} {e : Axis} (hf_ : Fr κ s0 s) (hk_ : 0xc2c01000008004bc1c0004400000000020400000000001100000000000000240002207f420 &&& κ = 0xc2c01000008004bc1c0004400000000020400000000001100000000000000240002207f420 := by decide) :
    Fr κ s0 (State.encDistrust s e) := by
  refine Fr.lift hf_ hk_ ?_
  clear hf_ hk_
  unfold State.encDistrust
  have h0 := Fr.refl 0xc2c01000008004bc1c0004400000000020400000000001100000000000000240002207f420 s
  repeat' first
      | ((try lift_lets); intro v; refine_lift have hv : Fr 0xc2c01000008004bc1c0004400000000020400000000001100000000000000240002207f420 s v := ?_; ?_; clear_value v)
      | ((try lift_lets); intro v)
      | with_reducible refine State.posLost_fr ?_
      | with_reducible refine State.set_fr ?_
      | with_reducible refine Fr.forEach ?_ (fun t a ht => ?_)
      | with_reducible refine Fr.ite ?_ ?_
      | with_reducible refine Fr.cond ?_ ?_
      | with_reducible assumption
      | (refine Fr.of_snd (by assumption) ?_)
      | (refine Fr.of_fst (by assumption) ?_)
      | split
      | (unfold v; split)
      | (unfold v; clear_value *; split)
      | (clear_value *; split)

theorem execEncoderStep_fr {s t_ : State} {e : Axis} {a : Bool} {b : Bool} {samples : ℕ} (e_ : execEncoderStep e a b samples s = .next t_) : Fr 0xc2c01000008004bc1c0004400000000020400000000001180000000000000240002247f420 s t_ := by
  unfold execEncoderStep at e_
  obtain rfl := Host.Outcome.next.inj e_
  clear e_
  have h0 := Fr.refl 0xc2c01000008004bc1c0004400000000020400000000001180000000000000240002247f420 s
  repeat' first
      | ((try lift_lets); intro v; refine_lift have hv : Fr 0xc2c01000008004bc1c0004400000000020400000000001180000000000000240002247f420 s v := ?_; ?_; clear_value v)
      | ((try lift_lets); intro v)
      | with_reducible refine State.encDistrust_fr ?_
      | with_reducible refine State.inc_fr ?_
      | with_reducible refine State.modEnc_fr ?_
      | with_reducible refine State.set_fr ?_
      | with_reducible refine State.wr_fr ?_
      | with_reducible refine Fr.running ?_ (fun t ht => ?_)
      | with_reducible refine Fr.ite ?_ ?_
      | with_reducible refine Fr.cond ?_ ?_
      | with_reducible assumption
      | (refine Fr.of_snd (by assumption) ?_)
      | (refine Fr.of_fst (by assumption) ?_)
      | split
      | (unfold v; split)
      | (unfold v; clear_value *; split)
      | (clear_value *; split)

theorem State.encFirstZ_fr {κ : Nat} {s0 s : State} {x : Axis} (hf_ : Fr κ s0 s) (hk_ : 0xc2c01000008004ac000000400000000000000000000000000000000000000240002201f400 &&& κ = 0xc2c01000008004ac000000400000000000000000000000000000000000000240002201f400 := by decide) :
    Fr κ s0 (State.encFirstZ s x) := by
  refine Fr.lift hf_ hk_ ?_
  clear hf_ hk_
  unfold State.encFirstZ
  have h0 := Fr.refl 0xc2c01000008004ac000000400000000000000000000000000000000000000240002201f400 s
  repeat' first
      | ((try lift_lets); intro v; refine_lift have hv : Fr 0xc2c01000008004ac000000400000000000000000000000000000000000000240002201f400 s v := ?_; ?_; clear_value v)
      | ((try lift_lets); intro v)
      | with_reducible refine State.fault_fr ?_
      | with_reducible refine State.modSv_fr ?_
      | with_reducible refine Fr.ite ?_ ?_
      | with_reducible refine Fr.cond ?_ ?_
      | with_reducible assumption
      | (refine Fr.of_snd (by assumption) ?_)
      | (refine Fr.of_fst (by assumption) ?_)
      | split
      | (unfold v; split)
      | (unfold v; clear_value *; split)
      | (clear_value *; split)

theorem State.encNextZ_fr {κ : Nat} {s0 s : State} {e : Axis} {x : Axis} (hf_ : Fr κ s0 s) (hk_ : 0xc2c01000008004bc1c0004400000000020400000000001100000000000000240002247f420 &&& κ = 0xc2c01000008004bc1c0004400000000020400000000001100000000000000240002247f420 := by decide) :
    Fr κ s0 (State.encNextZ s e x) := by
  refine Fr.lift hf_ hk_ ?_
  clear hf_ hk_
  unfold State.encNextZ
  have h0 := Fr.refl 0xc2c01000008004bc1c0004400000000020400000000001100000000000000240002247f420 s
  repeat' first
      | ((try lift_lets); intro v; refine_lift have hv : Fr 0xc2c01000008004bc1c0004400000000020400000000001100000000000000240002247f420 s v := ?_; ?_; clear_value v)
      | ((try lift_lets); intro v)
      | with_reducible refine State.encDistrust_fr ?_
      | with_reducible refine State.encFirstZ_fr ?_
      | with_reducible refine Fr.forEach ?_ (fun t a ht => ?_)
      | with_reducible refine State.inc_fr ?_
      | with_reducible refine State.modEnc_fr ?_
      | with_reducible refine State.set_fr ?_
      | with_reducible refine Fr.ite ?_ ?_
      | with_reducible refine Fr.cond ?_ ?_
      | with_reducible assumption
      | with_reducible exact Fr.id_ (by with_reducible assumption)
      | (refine Fr.of_snd (by assumption) ?_)
      | (refine Fr.of_fst (by assumption) ?_)
      | split
      | (unfold v; split)
      | (unfold v; clear_value *; split)
      | (clear_value *; split)

theorem execEncoderZ_fr {s t_ : State} {e : Axis} {z : Bool} {samples : ℕ} (e_ : execEncoderZ e z samples s = .next t_) : Fr 0xc2c01000008004bc1c0004400000000020400000000001100000000000000240002247f420 s t_ := by
  unfold execEncoderZ at e_
  obtain rfl := Host.Outcome.next.inj e_
  clear e_
  have h0 := Fr.refl 0xc2c01000008004bc1c0004400000000020400000000001100000000000000240002247f420 s
  repeat' first
      | ((try lift_lets); intro v; refine_lift have hv : Fr 0xc2c01000008004bc1c0004400000000020400000000001100000000000000240002247f420 s v := ?_; ?_; clear_value v)
      | ((try lift_lets); intro v)
      | with_reducible refine State.encNextZ_fr ?_
      | with_reducible refine State.encDistrust_fr ?_
      | with_reducible refine State.encFirstZ_fr ?_
      | with_reducible refine Fr.forEach ?_ (fun t a ht => ?_)
      | with_reducible refine State.inc_fr ?_
      | with_reducible refine State.modEnc_fr ?_
      | with_reducible refine Fr.running ?_ (fun t ht => ?_)
      | with_reducible refine State.set_fr ?_
      | with_reducible refine Fr.ite ?_ ?_
      | with_reducible refine Fr.cond ?_ ?_
      | with_reducible assumption
      | with_reducible exact Fr.id_ (by with_reducible assumption)
      | (refine Fr.of_snd (by assumption) ?_)
      | (refine Fr.of_fst (by assumption) ?_)
      | split
      | (unfold v; split)
      | (unfold v; clear_value *; split)
      | (clear_value *; split)

theorem State.speedUpdate_fr {κ : Nat} {s0 s : State} {x : Axis} (hf_ : Fr κ s0 s) (hk_ : 0x40110000000000000000000000018000 &&& κ = 0x40110000000000000000000000018000 := by decide) :
    Fr κ s0 (State.speedUpdate s x) := by
  refine Fr.lift hf_ hk_ ?_
  clear hf_ hk_
  unfold State.speedUpdate
  have h0 := Fr.refl 0x40110000000000000000000000018000 s
  repeat' first
      | ((try lift_lets); intro v; refine_lift have hv : Fr 0x40110000000000000000000000018000 s v := ?_; ?_; clear_value v)
      | ((try lift_lets); intro v)
      | with_reducible refine State.modSv_fr ?_
      | with_reducible refine State.setB_fr ?_
      | with_reducible refine State.setW_fr ?_
      | with_reducible refine Fr.ite ?_ ?_
      | with_reducible refine Fr.cond ?_ ?_
      | with_reducible assumption
      | (refine Fr.of_snd (by assumption) ?_)
      | (refine Fr.of_fst (by assumption) ?_)
      | split
      | (unfold v; split)
      | (unfold v; clear_value *; split)
      | (clear_value *; split)

theorem State.posDeliver_fr {κ : Nat} {s0 s : State} {x : Axis} (hf_ : Fr κ s0 s) (hk_ : 0x400800 &&& κ = 0x400800 := by decide) :
    Fr κ s0 (State.posDeliver s x) := by
  refine Fr.lift hf_ hk_ ?_
  clear hf_ hk_
  unfold State.posDeliver
  have h0 := Fr.refl 0x400800 s
  repeat' first
      | ((try lift_lets); intro v; refine_lift have hv : Fr 0x400800 s v := ?_; ?_; clear_value v)
      | ((try lift_lets); intro v)
      | with_reducible refine State.modEnc_fr ?_
      | with_reducible refine State.modHall_fr ?_
      | with_reducible refine State.putSrc_fr ?_
      | with_reducible refine Fr.ite ?_ ?_
      | with_reducible refine Fr.cond ?_ ?_
      | with_reducible assumption
      | (refine Fr.of_snd (by assumption) ?_)
      | (refine Fr.of_fst (by assumption) ?_)
      | split
      | (unfold v; split)
      | (unfold v; clear_value *; split)
      | (clear_value *; split)

theorem State.posCfgWrite_fr {κ : Nat} {s0 s : State} {code : ℕ} {addr : ℕ} {w : Word} (hf_ : Fr κ s0 s) (hk_ : 0x1ffffffffffffffffffffffffffffffffffffffffffffffffffffffffffffffffff00000000 &&& κ = 0x1ffffffffffffffffffffffffffffffffffffffffffffffffffffffffffffffffff00000000 := by decide) :
    Fr κ s0 (State.posCfgWrite s code addr w) := by
  refine Fr.lift hf_ hk_ ?_
  clear hf_ hk_
  unfold State.posCfgWrite
  have h0 := Fr.refl 0x1ffffffffffffffffffffffffffffffffffffffffffffffffffffffffffffffffff00000000 s
  repeat' first
      | ((try lift_lets); intro v; refine_lift have hv : Fr 0x1ffffffffffffffffffffffffffffffffffffffffffffffffffffffffffffffffff00000000 s v := ?_; ?_; clear_value v)
      | ((try lift_lets); intro v)
      | with_reducible refine State.wr_fr ?_
      | with_reducible refine Fr.ite ?_ ?_
      | with_reducible refine Fr.cond ?_ ?_
      | with_reducible assumption
      | (refine Fr.of_snd (by assumption) ?_)
      | (refine Fr.of_fst (by assumption) ?_)
      | split
      | (unfold v; split)
      | (unfold v; clear_value *; split)
      | (clear_value *; split)

theorem State.promInPos_fr {κ : Nat} {s0 s : State} {x : Axis} {b : Bool} (hf_ : Fr κ s0 s) (hk_ : 0x2c01000000000800000004000000200000000000000000000000000000002400002018400 &&& κ = 0x2c01000000000800000004000000200000000000000000000000000000002400002018400 := by decide) :
    Fr κ s0 (State.promInPos s x b) := by
  refine Fr.lift hf_ hk_ ?_
  clear hf_ hk_
  unfold State.promInPos
  have h0 := Fr.refl 0x2c01000000000800000004000000200000000000000000000000000000002400002018400 s
  repeat' first
      | ((try lift_lets); intro v; refine_lift have hv : Fr 0x2c01000000000800000004000000200000000000000000000000000000002400002018400 s v := ?_; ?_; clear_value v)
      | ((try lift_lets); intro v)
      | with_reducible refine State.evx_fr ?_
      | with_reducible refine State.setB_fr ?_
      | with_reducible refine Fr.ite ?_ ?_
      | with_reducible refine Fr.cond ?_ ?_
      | with_reducible assumption
      | with_reducible exact Fr.id_ (by with_reducible assumption)
      | (refine Fr.of_snd (by assumption) ?_)
      | (refine Fr.of_fst (by assumption) ?_)
      | split
      | (unfold v; split)
      | (unfold v; clear_value *; split)
      | (clear_value *; split)

theorem State.inPosJudge_fr {κ : Nat} {s0 s : State} {x : Axis} (hf_ : Fr κ s0 s) (hk_ : 0x2c01000000000800000004000000200000000000000000000000000000002400002018400 &&& κ = 0x2c01000000000800000004000000200000000000000000000000000000002400002018400 := by decide) :
    Fr κ s0 (State.inPosJudge s x) := by
  refine Fr.lift hf_ hk_ ?_
  clear hf_ hk_
  unfold State.inPosJudge
  have h0 := Fr.refl 0x2c01000000000800000004000000200000000000000000000000000000002400002018400 s
  repeat' first
      | ((try lift_lets); intro v; refine_lift have hv : Fr 0x2c01000000000800000004000000200000000000000000000000000000002400002018400 s v := ?_; ?_; clear_value v)
      | ((try lift_lets); intro v)
      | with_reducible refine State.promInPos_fr ?_
      | with_reducible refine Fr.ite ?_ ?_
      | with_reducible refine Fr.cond ?_ ?_
      | with_reducible assumption
      | with_reducible exact Fr.id_ (by with_reducible assumption)
      | (refine Fr.of_snd (by assumption) ?_)
      | (refine Fr.of_fst (by assumption) ?_)
      | split
      | (unfold v; split)
      | (unfold v; clear_value *; split)
      | (clear_value *; split)

end Sys2Proof.Machine
end

