-- ==== Sys2Proof/Laws/FrameAxisState.lean ====
section
/-! SUPPORT. Frames of the operations of Machine/AxisState.lean: one lemma each (Laws/Frame.lean). -/

namespace Sys2Proof.Machine

set_option Elab.async false

theorem State.cmdArrive_fr {κ : Nat} {s0 s : State} {x : Axis} {c : Cmd} (hf_ : Fr κ s0 s) (hk_ : 0x2c0100000000080000000400000000000000000000001000000080000000240000201e400 &&& κ = 0x2c0100000000080000000400000000000000000000001000000080000000240000201e400 := by decide) :
    Fr κ s0 (State.cmdArrive s x c) := by
  refine Fr.lift hf_ hk_ ?_
  clear hf_ hk_
  unfold State.cmdArrive
  have h0 := Fr.refl 0x2c0100000000080000000400000000000000000000001000000080000000240000201e400 s
  repeat' first
      | ((try lift_lets); intro v; refine_lift have hv : Fr 0x2c0100000000080000000400000000000000000000001000000080000000240000201e400 s v := ?_; ?_; clear_value v)
      | ((try lift_lets); intro v)
      | with_reducible refine State.modAx_fr ?_
      | with_reducible refine State.resolve_fr ?_
      | with_reducible refine Fr.ite ?_ ?_
      | with_reducible refine Fr.cond ?_ ?_
      | with_reducible assumption
      | (refine Fr.of_snd (by assumption) ?_)
      | (refine Fr.of_fst (by assumption) ?_)
      | split
      | (unfold v; split)
      | (unfold v; clear_value *; split)
      | (clear_value *; split)

theorem State.cmdFault_fr {κ : Nat} {s0 s : State} {x : Axis} (hf_ : Fr κ s0 s) (hk_ : 0x2c0100000000080000000400000000000000000000001000000080000000240000201e400 &&& κ = 0x2c0100000000080000000400000000000000000000001000000080000000240000201e400 := by decide) :
    Fr κ s0 (State.cmdFault s x) := by
  refine Fr.lift hf_ hk_ ?_
  clear hf_ hk_
  unfold State.cmdFault
  have h0 := Fr.refl 0x2c0100000000080000000400000000000000000000001000000080000000240000201e400 s
  repeat' first
      | ((try lift_lets); intro v; refine_lift have hv : Fr 0x2c0100000000080000000400000000000000000000001000000080000000240000201e400 s v := ?_; ?_; clear_value v)
      | ((try lift_lets); intro v)
      | with_reducible refine State.cmdRefuse_fr ?_
      | with_reducible refine State.modAx_fr ?_
      | with_reducible refine State.resolve_fr ?_
      | with_reducible refine Fr.ite ?_ ?_
      | with_reducible refine Fr.cond ?_ ?_
      | with_reducible assumption
      | (refine Fr.of_snd (by assumption) ?_)
      | (refine Fr.of_fst (by assumption) ?_)
      | split
      | (unfold v; split)
      | (unfold v; clear_value *; split)
      | (clear_value *; split)

theorem State.toSafe_fr {κ : Nat} {s0 s : State} {x : Axis} (hf_ : Fr κ s0 s) (hk_ : 0x2c01000000000921c001c400000fc0020500004101021000000080000000240000207e430 &&& κ = 0x2c01000000000921c001c400000fc0020500004101021000000080000000240000207e430 := by decide) :
    Fr κ s0 (State.toSafe s x) := by
  refine Fr.lift hf_ hk_ ?_
  clear hf_ hk_
  unfold State.toSafe
  have h0 := Fr.refl 0x2c01000000000921c001c400000fc0020500004101021000000080000000240000207e430 s
  repeat' first
      | ((try lift_lets); intro v; refine_lift have hv : Fr 0x2c01000000000921c001c400000fc0020500004101021000000080000000240000207e430 s v := ?_; ?_; clear_value v)
      | ((try lift_lets); intro v)
      | with_reducible refine State.cmdFault_fr ?_
      | with_reducible refine State.goto_fr ?_
      | with_reducible refine State.idAbort_fr ?_
      | with_reducible refine Fr.ite ?_ ?_
      | with_reducible refine Fr.cond ?_ ?_
      | with_reducible assumption
      | (refine Fr.of_snd (by assumption) ?_)
      | (refine Fr.of_fst (by assumption) ?_)
      | split
      | (unfold v; split)
      | (unfold v; clear_value *; split)
      | (clear_value *; split)

theorem State.failState_fr {κ : Nat} {s0 s : State} {x : Axis} {code : ℕ} {detail : ℕ} (hf_ : Fr κ s0 s) (hk_ : 0xc2c01000008004be1c001c400000fc0020500004101021000000080000000240002207f430 &&& κ = 0xc2c01000008004be1c001c400000fc0020500004101021000000080000000240002207f430 := by decide) :
    Fr κ s0 (State.failState s x code detail) := by
  refine Fr.lift hf_ hk_ ?_
  clear hf_ hk_
  unfold State.failState
  have h0 := Fr.refl 0xc2c01000008004be1c001c400000fc0020500004101021000000080000000240002207f430 s
  repeat' first
      | ((try lift_lets); intro v; refine_lift have hv : Fr 0xc2c01000008004be1c001c400000fc0020500004101021000000080000000240002207f430 s v := ?_; ?_; clear_value v)
      | ((try lift_lets); intro v)
      | with_reducible refine State.axisFault_fr ?_
      | with_reducible refine State.toSafe_fr ?_
      | with_reducible refine Fr.ite ?_ ?_
      | with_reducible refine Fr.cond ?_ ?_
      | with_reducible assumption
      | (refine Fr.of_snd (by assumption) ?_)
      | (refine Fr.of_fst (by assumption) ?_)
      | split
      | (unfold v; split)
      | (unfold v; clear_value *; split)
      | (clear_value *; split)

theorem State.blvTake_fr {κ : Nat} {s0 s : State} {x : Axis} (hf_ : Fr κ s0 s) (hk_ : 0x2000000000000000000000000000000000 &&& κ = 0x2000000000000000000000000000000000 := by decide) :
    Fr κ s0 (State.blvTake s x) := by
  refine Fr.lift hf_ hk_ ?_
  clear hf_ hk_
  unfold State.blvTake
  have h0 := Fr.refl 0x2000000000000000000000000000000000 s
  repeat' first
      | ((try lift_lets); intro v; refine_lift have hv : Fr 0x2000000000000000000000000000000000 s v := ?_; ?_; clear_value v)
      | ((try lift_lets); intro v)
      | with_reducible refine State.take_fr ?_
      | with_reducible refine Fr.forEachFld ?_ (fun t f hf ht => ?_)
      | with_reducible refine Fr.forEach ?_ (fun t a ht => ?_)
      | with_reducible refine Fr.ite ?_ ?_
      | with_reducible refine Fr.cond ?_ ?_
      | with_reducible assumption
      | (refine Fr.of_snd (by assumption) ?_)
      | (refine Fr.of_fst (by assumption) ?_)
      | split
      | (unfold v; split)
      | (unfold v; clear_value *; split)
      | (clear_value *; split)

theorem State.startDone_fr {κ : Nat} {s0 s : State} {x : Axis} {c : Cmd} (hf_ : Fr κ s0 s) (hk_ : 0x2c0100000000080000000400000000000000000000001000000080000000240000201e400 &&& κ = 0x2c0100000000080000000400000000000000000000001000000080000000240000201e400 := by decide) :
    Fr κ s0 (State.startDone s x c) := by
  refine Fr.lift hf_ hk_ ?_
  clear hf_ hk_
  unfold State.startDone
  have h0 := Fr.refl 0x2c0100000000080000000400000000000000000000001000000080000000240000201e400 s
  repeat' first
      | ((try lift_lets); intro v; refine_lift have hv : Fr 0x2c0100000000080000000400000000000000000000001000000080000000240000201e400 s v := ?_; ?_; clear_value v)
      | ((try lift_lets); intro v)
      | with_reducible refine State.modAx_fr ?_
      | with_reducible refine State.resolve_fr ?_
      | with_reducible refine Fr.ite ?_ ?_
      | with_reducible refine Fr.cond ?_ ?_
      | with_reducible assumption
      | (refine Fr.of_snd (by assumption) ?_)
      | (refine Fr.of_fst (by assumption) ?_)
      | split
      | (unfold v; split)
      | (unfold v; clear_value *; split)
      | (clear_value *; split)

theorem State.enterAlign_fr {κ : Nat} {s0 s : State} {x : Axis} (hf_ : Fr κ s0 s) (hk_ : 0x2c01000000000921c001c400000fc0020500004101021000000000000000240000207e430 &&& κ = 0x2c01000000000921c001c400000fc0020500004101021000000000000000240000207e430 := by decide) :
    Fr κ s0 (State.enterAlign s x) := by
  refine Fr.lift hf_ hk_ ?_
  clear hf_ hk_
  unfold State.enterAlign
  have h0 := Fr.refl 0x2c01000000000921c001c400000fc0020500004101021000000000000000240000207e430 s
  repeat' first
      | ((try lift_lets); intro v; refine_lift have hv : Fr 0x2c01000000000921c001c400000fc0020500004101021000000000000000240000207e430 s v := ?_; ?_; clear_value v)
      | ((try lift_lets); intro v)
      | with_reducible refine State.goto_fr ?_
      | with_reducible refine State.modSv_fr ?_
      | with_reducible refine Fr.ite ?_ ?_
      | with_reducible refine Fr.cond ?_ ?_
      | with_reducible assumption
      | (refine Fr.of_snd (by assumption) ?_)
      | (refine Fr.of_fst (by assumption) ?_)
      | split
      | (unfold v; split)
      | (unfold v; clear_value *; split)
      | (clear_value *; split)

theorem State.enterRun_fr {κ : Nat} {s0 s : State} {x : Axis} (hf_ : Fr κ s0 s) (hk_ : 0x2c01000000000921c001c400000fc002050000410d031000000000000000240000207e430 &&& κ = 0x2c01000000000921c001c400000fc002050000410d031000000000000000240000207e430 := by decide) :
    Fr κ s0 (State.enterRun s x) := by
  refine Fr.lift hf_ hk_ ?_
  clear hf_ hk_
  unfold State.enterRun
  have h0 := Fr.refl 0x2c01000000000921c001c400000fc002050000410d031000000000000000240000207e430 s
  repeat' first
      | ((try lift_lets); intro v; refine_lift have hv : Fr 0x2c01000000000921c001c400000fc002050000410d031000000000000000240000207e430 s v := ?_; ?_; clear_value v)
      | ((try lift_lets); intro v)
      | with_reducible refine State.goto_fr ?_
      | with_reducible refine State.modSv_fr ?_
      | with_reducible refine State.setW_fr ?_
      | with_reducible refine State.speedUpdate_fr ?_
      | with_reducible refine Fr.ite ?_ ?_
      | with_reducible refine Fr.cond ?_ ?_
      | with_reducible assumption
      | (refine Fr.of_snd (by assumption) ?_)
      | (refine Fr.of_fst (by assumption) ?_)
      | split
      | (unfold v; split)
      | (unfold v; clear_value *; split)
      | (clear_value *; split)

theorem State.startEntry_fr {κ : Nat} {s0 s : State} {x : Axis} {c : Cmd} (hf_ : Fr κ s0 s) (hk_ : 0x2c01000000000921c001c400000fc002050000410d031000000080000000240000207e430 &&& κ = 0x2c01000000000921c001c400000fc002050000410d031000000080000000240000207e430 := by decide) :
    Fr κ s0 (State.startEntry s x c) := by
  refine Fr.lift hf_ hk_ ?_
  clear hf_ hk_
  unfold State.startEntry
  have h0 := Fr.refl 0x2c01000000000921c001c400000fc002050000410d031000000080000000240000207e430 s
  repeat' first
      | ((try lift_lets); intro v; refine_lift have hv : Fr 0x2c01000000000921c001c400000fc002050000410d031000000080000000240000207e430 s v := ?_; ?_; clear_value v)
      | ((try lift_lets); intro v)
      | with_reducible refine State.enterAlign_fr ?_
      | with_reducible refine State.enterRun_fr ?_
      | with_reducible refine State.modAx_fr ?_
      | with_reducible refine State.resolve_fr ?_
      | with_reducible refine State.startDone_fr ?_
      | with_reducible refine Fr.ite ?_ ?_
      | with_reducible refine Fr.cond ?_ ?_
      | with_reducible assumption
      | (refine Fr.of_snd (by assumption) ?_)
      | (refine Fr.of_fst (by assumption) ?_)
      | split
      | (unfold v; split)
      | (unfold v; clear_value *; split)
      | (clear_value *; split)

theorem State.idFresh_fr {κ : Nat} {s0 s : State} {x : Axis} (hf_ : Fr κ s0 s) (hk_ : 0x18000 &&& κ = 0x18000 := by decide) :
    Fr κ s0 (State.idFresh s x) := by
  refine Fr.lift hf_ hk_ ?_
  clear hf_ hk_
  unfold State.idFresh
  have h0 := Fr.refl 0x18000 s
  repeat' first
      | ((try lift_lets); intro v; refine_lift have hv : Fr 0x18000 s v := ?_; ?_; clear_value v)
      | ((try lift_lets); intro v)
      | with_reducible refine State.modSv_fr ?_
      | with_reducible refine Fr.ite ?_ ?_
      | with_reducible refine Fr.cond ?_ ?_
      | with_reducible assumption
      | with_reducible exact Fr.id_ (by with_reducible assumption)
      | (refine Fr.of_snd (by assumption) ?_)
      | (refine Fr.of_fst (by assumption) ?_)
      | split
      | (unfold v; split)
      | (unfold v; clear_value *; split)
      | (clear_value *; split)

theorem State.idStart_fr {κ : Nat} {s0 s : State} {x : Axis} {c : Cmd} (hf_ : Fr κ s0 s) (hk_ : 0x2c01000000000921c001c400000fc0020500006101021000000080000000240000207e430 &&& κ = 0x2c01000000000921c001c400000fc0020500006101021000000080000000240000207e430 := by decide) :
    Fr κ s0 (State.idStart s x c) := by
  refine Fr.lift hf_ hk_ ?_
  clear hf_ hk_
  unfold State.idStart
  have h0 := Fr.refl 0x2c01000000000921c001c400000fc0020500006101021000000080000000240000207e430 s
  repeat' first
      | ((try lift_lets); intro v; refine_lift have hv : Fr 0x2c01000000000921c001c400000fc0020500006101021000000080000000240000207e430 s v := ?_; ?_; clear_value v)
      | ((try lift_lets); intro v)
      | with_reducible refine State.idFresh_fr ?_
      | with_reducible refine State.goto_fr ?_
      | with_reducible refine State.modSv_fr ?_
      | with_reducible refine State.set_fr ?_
      | with_reducible refine State.startDone_fr ?_
      | with_reducible refine Fr.ite ?_ ?_
      | with_reducible refine Fr.cond ?_ ?_
      | with_reducible assumption
      | (refine Fr.of_snd (by assumption) ?_)
      | (refine Fr.of_fst (by assumption) ?_)
      | split
      | (unfold v; split)
      | (unfold v; clear_value *; split)
      | (clear_value *; split)

theorem State.startSeq_fr {κ : Nat} {s0 s : State} {x : Axis} {c : Cmd} (hf_ : Fr κ s0 s) (hk_ : 0x2c01000000000921c001c400000fc002050000730d031000000080000000240000207e430 &&& κ = 0x2c01000000000921c001c400000fc002050000730d031000000080000000240000207e430 := by decide) :
    Fr κ s0 (State.startSeq s x c) := by
  refine Fr.lift hf_ hk_ ?_
  clear hf_ hk_
  unfold State.startSeq
  have h0 := Fr.refl 0x2c01000000000921c001c400000fc002050000730d031000000080000000240000207e430 s
  repeat' first
      | ((try lift_lets); intro v; refine_lift have hv : Fr 0x2c01000000000921c001c400000fc002050000730d031000000080000000240000207e430 s v := ?_; ?_; clear_value v)
      | ((try lift_lets); intro v)
      | with_reducible refine State.command_fr ?_
      | with_reducible refine State.blvTake_fr ?_
      | with_reducible refine State.idStart_fr ?_
      | with_reducible refine State.modAx_fr ?_
      | with_reducible refine State.modSv_fr ?_
      | with_reducible refine State.set_fr ?_
      | with_reducible refine State.startEntry_fr ?_
      | with_reducible refine Fr.ite ?_ ?_
      | with_reducible refine Fr.cond ?_ ?_
      | with_reducible assumption
      | (refine Fr.of_snd (by assumption) ?_)
      | (refine Fr.of_fst (by assumption) ?_)
      | split
      | (unfold v; split)
      | (unfold v; clear_value *; split)
      | (clear_value *; split)

theorem State.startPend_fr {κ : Nat} {s0 s : State} {x : Axis} {c : Cmd} (hf_ : Fr κ s0 s) (hk_ : 0x6000 &&& κ = 0x6000 := by decide) :
    Fr κ s0 (State.startPend s x c) := by
  refine Fr.lift hf_ hk_ ?_
  clear hf_ hk_
  unfold State.startPend
  have h0 := Fr.refl 0x6000 s
  repeat' first
      | ((try lift_lets); intro v; refine_lift have hv : Fr 0x6000 s v := ?_; ?_; clear_value v)
      | ((try lift_lets); intro v)
      | with_reducible refine State.modAx_fr ?_
      | with_reducible refine Fr.ite ?_ ?_
      | with_reducible refine Fr.cond ?_ ?_
      | with_reducible assumption
      | (refine Fr.of_snd (by assumption) ?_)
      | (refine Fr.of_fst (by assumption) ?_)
      | split
      | (unfold v; split)
      | (unfold v; clear_value *; split)
      | (clear_value *; split)

theorem State.cmdEnd_fr {κ : Nat} {s0 s : State} {x : Axis} {c : Cmd} {result : ℕ} (hf_ : Fr κ s0 s) (hk_ : 0x2c0100000000080000000400000000000000000000001000000080000000240000201e400 &&& κ = 0x2c0100000000080000000400000000000000000000001000000080000000240000201e400 := by decide) :
    Fr κ s0 (State.cmdEnd s x c result) := by
  refine Fr.lift hf_ hk_ ?_
  clear hf_ hk_
  unfold State.cmdEnd
  have h0 := Fr.refl 0x2c0100000000080000000400000000000000000000001000000080000000240000201e400 s
  repeat' first
      | ((try lift_lets); intro v; refine_lift have hv : Fr 0x2c0100000000080000000400000000000000000000001000000080000000240000201e400 s v := ?_; ?_; clear_value v)
      | ((try lift_lets); intro v)
      | with_reducible refine State.modAx_fr ?_
      | with_reducible refine State.resolve_fr ?_
      | with_reducible refine Fr.ite ?_ ?_
      | with_reducible refine Fr.cond ?_ ?_
      | with_reducible assumption
      | (refine Fr.of_snd (by assumption) ?_)
      | (refine Fr.of_fst (by assumption) ?_)
      | split
      | (unfold v; split)
      | (unfold v; clear_value *; split)
      | (clear_value *; split)

theorem State.cmdOff_fr {κ : Nat} {s0 s : State} {x : Axis} {c : Cmd} (hf_ : Fr κ s0 s) (hk_ : 0x2c01000000000921c001c400000fc0020500004101021000000080000000240000207e430 &&& κ = 0x2c01000000000921c001c400000fc0020500004101021000000080000000240000207e430 := by decide) :
    Fr κ s0 (State.cmdOff s x c) := by
  refine Fr.lift hf_ hk_ ?_
  clear hf_ hk_
  unfold State.cmdOff
  have h0 := Fr.refl 0x2c01000000000921c001c400000fc0020500004101021000000080000000240000207e430 s
  repeat' first
      | ((try lift_lets); intro v; refine_lift have hv : Fr 0x2c01000000000921c001c400000fc0020500004101021000000080000000240000207e430 s v := ?_; ?_; clear_value v)
      | ((try lift_lets); intro v)
      | with_reducible refine State.cmdEnd_fr ?_
      | with_reducible refine State.goto_fr ?_
      | with_reducible refine State.modAx_fr ?_
      | with_reducible refine Fr.ite ?_ ?_
      | with_reducible refine Fr.cond ?_ ?_
      | with_reducible assumption
      | (refine Fr.of_snd (by assumption) ?_)
      | (refine Fr.of_fst (by assumption) ?_)
      | split
      | (unfold v; split)
      | (unfold v; clear_value *; split)
      | (clear_value *; split)

theorem State.runArm_fr {κ : Nat} {s0 s : State} {x : Axis} {c : Cmd} (hf_ : Fr κ s0 s) (hk_ : 0x2c01000000000921c001c400000fc0020500004101021000000080000000240000207e430 &&& κ = 0x2c01000000000921c001c400000fc0020500004101021000000080000000240000207e430 := by decide) :
    Fr κ s0 (State.runArm s x c) := by
  refine Fr.lift hf_ hk_ ?_
  clear hf_ hk_
  unfold State.runArm
  have h0 := Fr.refl 0x2c01000000000921c001c400000fc0020500004101021000000080000000240000207e430 s
  repeat' first
      | ((try lift_lets); intro v; refine_lift have hv : Fr 0x2c01000000000921c001c400000fc0020500004101021000000080000000240000207e430 s v := ?_; ?_; clear_value v)
      | ((try lift_lets); intro v)
      | with_reducible refine State.cmdEnd_fr ?_
      | with_reducible refine State.goto_fr ?_
      | with_reducible refine Fr.ite ?_ ?_
      | with_reducible refine Fr.cond ?_ ?_
      | with_reducible assumption
      | (refine Fr.of_snd (by assumption) ?_)
      | (refine Fr.of_fst (by assumption) ?_)
      | split
      | (unfold v; split)
      | (unfold v; clear_value *; split)
      | (clear_value *; split)

theorem State.startNoted_fr {κ : Nat} {s0 s : State} {x : Axis} {c : Cmd} (hf_ : Fr κ s0 s) (hk_ : 0x2c0100000000080000000400000000000000000000001000000080000000240000201e400 &&& κ = 0x2c0100000000080000000400000000000000000000001000000080000000240000201e400 := by decide) :
    Fr κ s0 (State.startNoted s x c) := by
  refine Fr.lift hf_ hk_ ?_
  clear hf_ hk_
  unfold State.startNoted
  have h0 := Fr.refl 0x2c0100000000080000000400000000000000000000001000000080000000240000201e400 s
  repeat' first
      | ((try lift_lets); intro v; refine_lift have hv : Fr 0x2c0100000000080000000400000000000000000000001000000080000000240000201e400 s v := ?_; ?_; clear_value v)
      | ((try lift_lets); intro v)
      | with_reducible refine State.cmdEnd_fr ?_
      | with_reducible refine State.modAx_fr ?_
      | with_reducible refine Fr.ite ?_ ?_
      | with_reducible refine Fr.cond ?_ ?_
      | with_reducible assumption
      | with_reducible exact Fr.id_ (by with_reducible assumption)
      | (refine Fr.of_snd (by assumption) ?_)
      | (refine Fr.of_fst (by assumption) ?_)
      | split
      | (unfold v; split)
      | (unfold v; clear_value *; split)
      | (clear_value *; split)

theorem State.runStart_fr {κ : Nat} {s0 s : State} {x : Axis} {c : Cmd} (hf_ : Fr κ s0 s) (hk_ : 0x2c01000000000921c001c400000fc002050000730d031000000080000000240000207e430 &&& κ = 0x2c01000000000921c001c400000fc002050000730d031000000080000000240000207e430 := by decide) :
    Fr κ s0 (State.runStart s x c) := by
  refine Fr.lift hf_ hk_ ?_
  clear hf_ hk_
  unfold State.runStart
  have h0 := Fr.refl 0x2c01000000000921c001c400000fc002050000730d031000000080000000240000207e430 s
  repeat' first
      | ((try lift_lets); intro v; refine_lift have hv : Fr 0x2c01000000000921c001c400000fc002050000730d031000000080000000240000207e430 s v := ?_; ?_; clear_value v)
      | ((try lift_lets); intro v)
      | with_reducible refine State.startNoted_fr ?_
      | with_reducible refine State.cmdEnd_fr ?_
      | with_reducible refine State.goto_fr ?_
      | with_reducible refine State.modAx_fr ?_
      | with_reducible refine State.startPend_fr ?_
      | with_reducible refine State.startSeq_fr ?_
      | with_reducible refine Fr.ite ?_ ?_
      | with_reducible refine Fr.cond ?_ ?_
      | with_reducible assumption
      | (refine Fr.of_snd (by assumption) ?_)
      | (refine Fr.of_fst (by assumption) ?_)
      | split
      | (unfold v; split)
      | (unfold v; clear_value *; split)
      | (clear_value *; split)

theorem State.runCoast_fr {κ : Nat} {s0 s : State} {x : Axis} {c : Cmd} (hf_ : Fr κ s0 s) (hk_ : 0x2c01000000000921c001c400000fc0020500004101021000000080000000240000207e430 &&& κ = 0x2c01000000000921c001c400000fc0020500004101021000000080000000240000207e430 := by decide) :
    Fr κ s0 (State.runCoast s x c) := by
  refine Fr.lift hf_ hk_ ?_
  clear hf_ hk_
  unfold State.runCoast
  have h0 := Fr.refl 0x2c01000000000921c001c400000fc0020500004101021000000080000000240000207e430 s
  repeat' first
      | ((try lift_lets); intro v; refine_lift have hv : Fr 0x2c01000000000921c001c400000fc0020500004101021000000080000000240000207e430 s v := ?_; ?_; clear_value v)
      | ((try lift_lets); intro v)
      | with_reducible refine State.cmdEnd_fr ?_
      | with_reducible refine State.cmdOff_fr ?_
      | with_reducible refine State.modSv_fr ?_
      | with_reducible refine Fr.ite ?_ ?_
      | with_reducible refine Fr.cond ?_ ?_
      | with_reducible assumption
      | (refine Fr.of_snd (by assumption) ?_)
      | (refine Fr.of_fst (by assumption) ?_)
      | split
      | (unfold v; split)
      | (unfold v; clear_value *; split)
      | (clear_value *; split)

theorem State.runStop_fr {κ : Nat} {s0 s : State} {x : Axis} {c : Cmd} (hf_ : Fr κ s0 s) (hk_ : 0x2c01000000000921c001c400000fc0020500004101021000000080000000240000207e430 &&& κ = 0x2c01000000000921c001c400000fc0020500004101021000000080000000240000207e430 := by decide) :
    Fr κ s0 (State.runStop s x c) := by
  refine Fr.lift hf_ hk_ ?_
  clear hf_ hk_
  unfold State.runStop
  have h0 := Fr.refl 0x2c01000000000921c001c400000fc0020500004101021000000080000000240000207e430 s
  repeat' first
      | ((try lift_lets); intro v; refine_lift have hv : Fr 0x2c01000000000921c001c400000fc0020500004101021000000080000000240000207e430 s v := ?_; ?_; clear_value v)
      | ((try lift_lets); intro v)
      | with_reducible refine State.cmdEnd_fr ?_
      | with_reducible refine State.cmdOff_fr ?_
      | with_reducible refine State.goto_fr ?_
      | with_reducible refine State.modSv_fr ?_
      | with_reducible refine State.runCoast_fr ?_
      | with_reducible refine Fr.ite ?_ ?_
      | with_reducible refine Fr.cond ?_ ?_
      | with_reducible assumption
      | (refine Fr.of_snd (by assumption) ?_)
      | (refine Fr.of_fst (by assumption) ?_)
      | split
      | (unfold v; split)
      | (unfold v; clear_value *; split)
      | (clear_value *; split)

theorem State.runClear_fr {κ : Nat} {s0 s : State} {x : Axis} {c : Cmd} (hf_ : Fr κ s0 s) (hk_ : 0x2c01000000000921c001c400000fc0020500004101021000000080000000240000207e430 &&& κ = 0x2c01000000000921c001c400000fc0020500004101021000000080000000240000207e430 := by decide) :
    Fr κ s0 (State.runClear s x c) := by
  refine Fr.lift hf_ hk_ ?_
  clear hf_ hk_
  unfold State.runClear
  have h0 := Fr.refl 0x2c01000000000921c001c400000fc0020500004101021000000080000000240000207e430 s
  repeat' first
      | ((try lift_lets); intro v; refine_lift have hv : Fr 0x2c01000000000921c001c400000fc0020500004101021000000080000000240000207e430 s v := ?_; ?_; clear_value v)
      | ((try lift_lets); intro v)
      | with_reducible refine State.cmdEnd_fr ?_
      | with_reducible refine State.goto_fr ?_
      | with_reducible refine Fr.ite ?_ ?_
      | with_reducible refine Fr.cond ?_ ?_
      | with_reducible assumption
      | (refine Fr.of_snd (by assumption) ?_)
      | (refine Fr.of_fst (by assumption) ?_)
      | split
      | (unfold v; split)
      | (unfold v; clear_value *; split)
      | (clear_value *; split)

theorem State.runCmd_fr {κ : Nat} {s0 s : State} {x : Axis} {c : Cmd} (hf_ : Fr κ s0 s) (hk_ : 0x2c01000000000921c001c400000fc002050000730d031000000080000000240000207e430 &&& κ = 0x2c01000000000921c001c400000fc002050000730d031000000080000000240000207e430 := by decide) :
    Fr κ s0 (State.runCmd s x c) := by
  refine Fr.lift hf_ hk_ ?_
  clear hf_ hk_
  unfold State.runCmd
  have h0 := Fr.refl 0x2c01000000000921c001c400000fc002050000730d031000000080000000240000207e430 s
  repeat' first
      | ((try lift_lets); intro v; refine_lift have hv : Fr 0x2c01000000000921c001c400000fc002050000730d031000000080000000240000207e430 s v := ?_; ?_; clear_value v)
      | ((try lift_lets); intro v)
      | with_reducible refine State.cmdEnd_fr ?_
      | with_reducible refine State.runArm_fr ?_
      | with_reducible refine State.runClear_fr ?_
      | with_reducible refine State.runCoast_fr ?_
      | with_reducible refine State.runStart_fr ?_
      | with_reducible refine State.runStop_fr ?_
      | with_reducible refine Fr.ite ?_ ?_
      | with_reducible refine Fr.cond ?_ ?_
      | with_reducible assumption
      | (refine Fr.of_snd (by assumption) ?_)
      | (refine Fr.of_fst (by assumption) ?_)
      | split
      | (unfold v; split)
      | (unfold v; clear_value *; split)
      | (clear_value *; split)

theorem execArm_fr {s t_ : State} {x : Axis} {tag : ℕ} (e_ : execArm x tag s = .next t_) : Fr 0x2c0100000000080000000400000000000000000000001000000080000000240000201e400 s t_ := by
  unfold execArm at e_
  obtain rfl := Host.Outcome.next.inj e_
  clear e_
  have h0 := Fr.refl 0x2c0100000000080000000400000000000000000000001000000080000000240000201e400 s
  repeat' first
      | ((try lift_lets); intro v; refine_lift have hv : Fr 0x2c0100000000080000000400000000000000000000001000000080000000240000201e400 s v := ?_; ?_; clear_value v)
      | ((try lift_lets); intro v)
      | with_reducible refine State.cmdArrive_fr ?_
      | with_reducible refine Fr.running ?_ (fun t ht => ?_)
      | with_reducible refine Fr.ite ?_ ?_
      | with_reducible refine Fr.cond ?_ ?_
      | with_reducible assumption
      | (refine Fr.of_snd (by assumption) ?_)
      | (refine Fr.of_fst (by assumption) ?_)
      | split
      | (unfold v; split)
      | (unfold v; clear_value *; split)
      | (clear_value *; split)

theorem execStart_fr {s t_ : State} {x : Axis} {tag : ℕ} (e_ : execStart x tag s = .next t_) : Fr 0x2c0100000000080000000400000000000000000000001000000080000000240000201e400 s t_ := by
  unfold execStart at e_
  obtain rfl := Host.Outcome.next.inj e_
  clear e_
  have h0 := Fr.refl 0x2c0100000000080000000400000000000000000000001000000080000000240000201e400 s
  repeat' first
      | ((try lift_lets); intro v; refine_lift have hv : Fr 0x2c0100000000080000000400000000000000000000001000000080000000240000201e400 s v := ?_; ?_; clear_value v)
      | ((try lift_lets); intro v)
      | with_reducible refine State.cmdArrive_fr ?_
      | with_reducible refine Fr.running ?_ (fun t ht => ?_)
      | with_reducible refine Fr.ite ?_ ?_
      | with_reducible refine Fr.cond ?_ ?_
      | with_reducible assumption
      | (refine Fr.of_snd (by assumption) ?_)
      | (refine Fr.of_fst (by assumption) ?_)
      | split
      | (unfold v; split)
      | (unfold v; clear_value *; split)
      | (clear_value *; split)

theorem execStop_fr {s t_ : State} {x : Axis} {tag : ℕ} (e_ : execStop x tag s = .next t_) : Fr 0x2c0100000000080000000400000000000000000000001000000080000000240000201e400 s t_ := by
  unfold execStop at e_
  obtain rfl := Host.Outcome.next.inj e_
  clear e_
  have h0 := Fr.refl 0x2c0100000000080000000400000000000000000000001000000080000000240000201e400 s
  repeat' first
      | ((try lift_lets); intro v; refine_lift have hv : Fr 0x2c0100000000080000000400000000000000000000001000000080000000240000201e400 s v := ?_; ?_; clear_value v)
      | ((try lift_lets); intro v)
      | with_reducible refine State.cmdArrive_fr ?_
      | with_reducible refine Fr.running ?_ (fun t ht => ?_)
      | with_reducible refine Fr.ite ?_ ?_
      | with_reducible refine Fr.cond ?_ ?_
      | with_reducible assumption
      | (refine Fr.of_snd (by assumption) ?_)
      | (refine Fr.of_fst (by assumption) ?_)
      | split
      | (unfold v; split)
      | (unfold v; clear_value *; split)
      | (clear_value *; split)

theorem execCoast_fr {s t_ : State} {x : Axis} {tag : ℕ} (e_ : execCoast x tag s = .next t_) : Fr 0x2c0100000000080000000400000000000000000000001000000080000000240000201e400 s t_ := by
  unfold execCoast at e_
  obtain rfl := Host.Outcome.next.inj e_
  clear e_
  have h0 := Fr.refl 0x2c0100000000080000000400000000000000000000001000000080000000240000201e400 s
  repeat' first
      | ((try lift_lets); intro v; refine_lift have hv : Fr 0x2c0100000000080000000400000000000000000000001000000080000000240000201e400 s v := ?_; ?_; clear_value v)
      | ((try lift_lets); intro v)
      | with_reducible refine State.cmdArrive_fr ?_
      | with_reducible refine Fr.running ?_ (fun t ht => ?_)
      | with_reducible refine Fr.ite ?_ ?_
      | with_reducible refine Fr.cond ?_ ?_
      | with_reducible assumption
      | (refine Fr.of_snd (by assumption) ?_)
      | (refine Fr.of_fst (by assumption) ?_)
      | split
      | (unfold v; split)
      | (unfold v; clear_value *; split)
      | (clear_value *; split)

theorem execClear_fr {s t_ : State} {x : Axis} {tag : ℕ} (e_ : execClear x tag s = .next t_) : Fr 0x2c0100000000080000000400000000000000000000001000000080000000240000201e400 s t_ := by
  unfold execClear at e_
  obtain rfl := Host.Outcome.next.inj e_
  clear e_
  have h0 := Fr.refl 0x2c0100000000080000000400000000000000000000001000000080000000240000201e400 s
  repeat' first
      | ((try lift_lets); intro v; refine_lift have hv : Fr 0x2c0100000000080000000400000000000000000000001000000080000000240000201e400 s v := ?_; ?_; clear_value v)
      | ((try lift_lets); intro v)
      | with_reducible refine State.cmdArrive_fr ?_
      | with_reducible refine Fr.running ?_ (fun t ht => ?_)
      | with_reducible refine Fr.ite ?_ ?_
      | with_reducible refine Fr.cond ?_ ?_
      | with_reducible assumption
      | (refine Fr.of_snd (by assumption) ?_)
      | (refine Fr.of_fst (by assumption) ?_)
      | split
      | (unfold v; split)
      | (unfold v; clear_value *; split)
      | (clear_value *; split)

theorem State.wholeOf_fr {κ : Nat} {s0 s : State} {q : Frac} (hf_ : Fr κ s0 s) (hk_ : 0x80000000 &&& κ = 0x80000000 := by decide) :
    Fr κ s0 (State.wholeOf s q).2 := by
  refine Fr.lift hf_ hk_ ?_
  clear hf_ hk_
  unfold State.wholeOf
  have h0 := Fr.refl 0x80000000 s
  repeat' first
      | ((try lift_lets); intro v; refine_lift have hv : Fr 0x80000000 s v := ?_; ?_; clear_value v)
      | ((try lift_lets); intro v)
      | with_reducible refine State.spent_fr ?_
      | with_reducible refine Fr.ite ?_ ?_
      | with_reducible refine Fr.cond ?_ ?_
      | with_reducible assumption
      | (refine Fr.of_snd (by assumption) ?_)
      | (refine Fr.of_fst (by assumption) ?_)
      | split
      | (unfold v; split)
      | (unfold v; clear_value *; split)
      | (clear_value *; split)

theorem State.overspeed_fr {κ : Nat} {s0 s : State} {x : Axis} (hf_ : Fr κ s0 s) (hk_ : 0xc2c01000008004bc1c000440000000002040000000000000000000000000024000a207f420 &&& κ = 0xc2c01000008004bc1c000440000000002040000000000000000000000000024000a207f420 := by decide) :
    Fr κ s0 (State.overspeed s x) := by
  refine Fr.lift hf_ hk_ ?_
  clear hf_ hk_
  unfold State.overspeed
  have h0 := Fr.refl 0xc2c01000008004bc1c000440000000002040000000000000000000000000024000a207f420 s
  repeat' first
      | ((try lift_lets); intro v; refine_lift have hv : Fr 0xc2c01000008004bc1c000440000000002040000000000000000000000000024000a207f420 s v := ?_; ?_; clear_value v)
      | ((try lift_lets); intro v)
      | with_reducible refine State.axisFaultOn_fr ?_
      | with_reducible refine State.modSv_fr ?_
      | with_reducible refine State.setCause_fr ?_
      | with_reducible refine State.wholeOf_fr ?_
      | with_reducible refine Fr.ite ?_ ?_
      | with_reducible refine Fr.cond ?_ ?_
      | with_reducible assumption
      | (refine Fr.of_snd (by assumption) ?_)
      | (refine Fr.of_fst (by assumption) ?_)
      | split
      | (unfold v; split)
      | (unfold v; clear_value *; split)
      | (clear_value *; split)

theorem State.thresholds_fr {κ : Nat} {s0 s : State} {x : Axis} (hf_ : Fr κ s0 s) (hk_ : 0x1400000000000000000000000000000 &&& κ = 0x1400000000000000000000000000000 := by decide) :
    Fr κ s0 (State.thresholds s x) := by
  refine Fr.lift hf_ hk_ ?_
  clear hf_ hk_
  unfold State.thresholds
  have h0 := Fr.refl 0x1400000000000000000000000000000 s
  repeat' first
      | ((try lift_lets); intro v; refine_lift have hv : Fr 0x1400000000000000000000000000000 s v := ?_; ?_; clear_value v)
      | ((try lift_lets); intro v)
      | with_reducible refine State.setW_fr ?_
      | with_reducible refine Fr.ite ?_ ?_
      | with_reducible refine Fr.cond ?_ ?_
      | with_reducible assumption
      | (refine Fr.of_snd (by assumption) ?_)
      | (refine Fr.of_fst (by assumption) ?_)
      | split
      | (unfold v; split)
      | (unfold v; clear_value *; split)
      | (clear_value *; split)

theorem State.aboveUpdate_fr {κ : Nat} {s0 s : State} {x : Axis} (hf_ : Fr κ s0 s) (hk_ : 0x10000000000000000000000000000 &&& κ = 0x10000000000000000000000000000 := by decide) :
    Fr κ s0 (State.aboveUpdate s x) := by
  refine Fr.lift hf_ hk_ ?_
  clear hf_ hk_
  unfold State.aboveUpdate
  have h0 := Fr.refl 0x10000000000000000000000000000 s
  repeat' first
      | ((try lift_lets); intro v; refine_lift have hv : Fr 0x10000000000000000000000000000 s v := ?_; ?_; clear_value v)
      | ((try lift_lets); intro v)
      | with_reducible refine State.setB_fr ?_
      | with_reducible refine Fr.ite ?_ ?_
      | with_reducible refine Fr.cond ?_ ?_
      | with_reducible assumption
      | (refine Fr.of_snd (by assumption) ?_)
      | (refine Fr.of_fst (by assumption) ?_)
      | split
      | (unfold v; split)
      | (unfold v; clear_value *; split)
      | (clear_value *; split)

theorem State.stopTrust_fr {κ : Nat} {s0 s : State} {x : Axis} (hf_ : Fr κ s0 s) (hk_ : 0xc2c01000008004be1c001c400000fc0020500004101021000000000000000240002207f430 &&& κ = 0xc2c01000008004be1c001c400000fc0020500004101021000000000000000240002207f430 := by decide) :
    Fr κ s0 (State.stopTrust s x) := by
  refine Fr.lift hf_ hk_ ?_
  clear hf_ hk_
  unfold State.stopTrust
  have h0 := Fr.refl 0xc2c01000008004be1c001c400000fc0020500004101021000000000000000240002207f430 s
  repeat' first
      | ((try lift_lets); intro v; refine_lift have hv : Fr 0xc2c01000008004be1c001c400000fc0020500004101021000000000000000240002207f430 s v := ?_; ?_; clear_value v)
      | ((try lift_lets); intro v)
      | with_reducible refine State.goto_fr ?_
      | with_reducible refine State.modSv_fr ?_
      | with_reducible refine State.posLost_fr ?_
      | with_reducible refine Fr.ite ?_ ?_
      | with_reducible refine Fr.cond ?_ ?_
      | with_reducible assumption
      | with_reducible exact Fr.id_ (by with_reducible assumption)
      | (refine Fr.of_snd (by assumption) ?_)
      | (refine Fr.of_fst (by assumption) ?_)
      | split
      | (unfold v; split)
      | (unfold v; clear_value *; split)
      | (clear_value *; split)

theorem State.stateConds_fr {κ : Nat} {s0 s : State} {x : Axis} (hf_ : Fr κ s0 s) (hk_ : 0xc2c01000008004be1c001c400000fc0020500004101021000000000000000240002207f430 &&& κ = 0xc2c01000008004be1c001c400000fc0020500004101021000000000000000240002207f430 := by decide) :
    Fr κ s0 (State.stateConds s x) := by
  refine Fr.lift hf_ hk_ ?_
  clear hf_ hk_
  unfold State.stateConds
  have h0 := Fr.refl 0xc2c01000008004be1c001c400000fc0020500004101021000000000000000240002207f430 s
  repeat' first
      | ((try lift_lets); intro v; refine_lift have hv : Fr 0xc2c01000008004be1c001c400000fc0020500004101021000000000000000240002207f430 s v := ?_; ?_; clear_value v)
      | ((try lift_lets); intro v)
      | with_reducible refine State.stopTrust_fr ?_
      | with_reducible refine State.goto_fr ?_
      | with_reducible refine State.modSv_fr ?_
      | with_reducible refine State.posLost_fr ?_
      | with_reducible refine Fr.ite ?_ ?_
      | with_reducible refine Fr.cond ?_ ?_
      | with_reducible assumption
      | (refine Fr.of_snd (by assumption) ?_)
      | (refine Fr.of_fst (by assumption) ?_)
      | split
      | (unfold v; split)
      | (unfold v; clear_value *; split)
      | (clear_value *; split)

theorem State.evalFirst_fr {κ : Nat} {s0 s : State} {x : Axis} (hf_ : Fr κ s0 s) (hk_ : 0x2c01000000000921c001c400000fc002050000730d031000000080000000240000207e430 &&& κ = 0x2c01000000000921c001c400000fc002050000730d031000000080000000240000207e430 := by decide) :
    Fr κ s0 (State.evalFirst s x).2 := by
  refine Fr.lift hf_ hk_ ?_
  clear hf_ hk_
  unfold State.evalFirst
  have h0 := Fr.refl 0x2c01000000000921c001c400000fc002050000730d031000000080000000240000207e430 s
  repeat' first
      | ((try lift_lets); intro v; refine_lift have hv : Fr 0x2c01000000000921c001c400000fc002050000730d031000000080000000240000207e430 s v := ?_; ?_; clear_value v)
      | ((try lift_lets); intro v)
      | with_reducible refine State.modAx_fr ?_
      | with_reducible refine State.runCmd_fr ?_
      | with_reducible refine State.toSafe_fr ?_
      | with_reducible refine Fr.ite ?_ ?_
      | with_reducible refine Fr.cond ?_ ?_
      | with_reducible assumption
      | with_reducible exact Fr.id_ (by with_reducible assumption)
      | (refine Fr.of_snd (by assumption) ?_)
      | (refine Fr.of_fst (by assumption) ?_)
      | split
      | (unfold v; split)
      | (unfold v; clear_value *; split)
      | (clear_value *; split)

theorem execAxisEvaluate_fr {s t_ : State} {x : Axis} (e_ : execAxisEvaluate x s = .next t_) : Fr 0xc2c01000008004be1c001c400000fc002050000730d17100000008000000024000a207f430 s t_ := by
  unfold execAxisEvaluate at e_
  obtain rfl := Host.Outcome.next.inj e_
  clear e_
  have h0 := Fr.refl 0xc2c01000008004be1c001c400000fc002050000730d17100000008000000024000a207f430 s
  repeat' first
      | ((try lift_lets); intro v; refine_lift have hv : Fr 0xc2c01000008004be1c001c400000fc002050000730d17100000008000000024000a207f430 s v := ?_; ?_; clear_value v)
      | ((try lift_lets); intro v)
      | with_reducible refine State.evalFirst_fr ?_
      | with_reducible refine State.limitJudge_fr ?_
      | with_reducible refine State.aboveUpdate_fr ?_
      | with_reducible refine State.modAx_fr ?_
      | with_reducible refine State.ov2Check_fr ?_
      | with_reducible refine State.overspeed_fr ?_
      | with_reducible refine State.runCmd_fr ?_
      | with_reducible refine State.speedUpdate_fr ?_
      | with_reducible refine State.stateConds_fr ?_
      | with_reducible refine State.thresholds_fr ?_
      | with_reducible refine State.toSafe_fr ?_
      | with_reducible refine Fr.ite ?_ ?_
      | with_reducible refine Fr.cond ?_ ?_
      | with_reducible assumption
      | (refine Fr.of_snd (by assumption) ?_)
      | (refine Fr.of_fst (by assumption) ?_)
      | split
      | (unfold v; split)
      | (unfold v; clear_value *; split)
      | (clear_value *; split)

theorem execBootstrapsReady_fr {s t_ : State} {x : Axis} (e_ : execBootstrapsReady x s = .next t_) : Fr 0x2c01000000000921c001c400000fc002050000730d031000000080000000240000207e430 s t_ := by
  unfold execBootstrapsReady at e_
  obtain rfl := Host.Outcome.next.inj e_
  clear e_
  have h0 := Fr.refl 0x2c01000000000921c001c400000fc002050000730d031000000080000000240000207e430 s
  repeat' first
      | ((try lift_lets); intro v; refine_lift have hv : Fr 0x2c01000000000921c001c400000fc002050000730d031000000080000000240000207e430 s v := ?_; ?_; clear_value v)
      | ((try lift_lets); intro v)
      | with_reducible refine State.evalFirst_fr ?_
      | with_reducible refine State.startSeq_fr ?_
      | with_reducible refine Fr.running ?_ (fun t ht => ?_)
      | with_reducible refine Fr.ite ?_ ?_
      | with_reducible refine Fr.cond ?_ ?_
      | with_reducible assumption
      | (refine Fr.of_snd (by assumption) ?_)
      | (refine Fr.of_fst (by assumption) ?_)
      | split
      | (unfold v; split)
      | (unfold v; clear_value *; split)
      | (clear_value *; split)

theorem execArmTimeout_fr {s t_ : State} {x : Axis} {us : ℕ} (e_ : execArmTimeout x us s = .next t_) : Fr 0xc2c01000008004be1c001c400000fc002050000730d031000000080000000240002207f430 s t_ := by
  unfold execArmTimeout at e_
  obtain rfl := Host.Outcome.next.inj e_
  clear e_
  have h0 := Fr.refl 0xc2c01000008004be1c001c400000fc002050000730d031000000080000000240002207f430 s
  repeat' first
      | ((try lift_lets); intro v; refine_lift have hv : Fr 0xc2c01000008004be1c001c400000fc002050000730d031000000080000000240002207f430 s v := ?_; ?_; clear_value v)
      | ((try lift_lets); intro v)
      | with_reducible refine State.evalFirst_fr ?_
      | with_reducible refine State.failState_fr ?_
      | with_reducible refine Fr.running ?_ (fun t ht => ?_)
      | with_reducible refine Fr.ite ?_ ?_
      | with_reducible refine Fr.cond ?_ ?_
      | with_reducible assumption
      | (refine Fr.of_snd (by assumption) ?_)
      | (refine Fr.of_fst (by assumption) ?_)
      | split
      | (unfold v; split)
      | (unfold v; clear_value *; split)
      | (clear_value *; split)

theorem State.limitCauses_fr {κ : Nat} {s0 s : State} {x : Axis} {m : ℕ} (hf_ : Fr κ s0 s) (hk_ : 0x2c01000000000800000004000000000000000000000200000000000000002400002018400 &&& κ = 0x2c01000000000800000004000000000000000000000200000000000000002400002018400 := by decide) :
    Fr κ s0 (State.limitCauses s x m) := by
  refine Fr.lift hf_ hk_ ?_
  clear hf_ hk_
  unfold State.limitCauses
  have h0 := Fr.refl 0x2c01000000000800000004000000000000000000000200000000000000002400002018400 s
  repeat' first
      | ((try lift_lets); intro v; refine_lift have hv : Fr 0x2c01000000000800000004000000000000000000000200000000000000002400002018400 s v := ?_; ?_; clear_value v)
      | ((try lift_lets); intro v)
      | with_reducible refine State.limitJudge_fr ?_
      | with_reducible refine State.modSv_fr ?_
      | with_reducible refine Fr.ite ?_ ?_
      | with_reducible refine Fr.cond ?_ ?_
      | with_reducible assumption
      | (refine Fr.of_snd (by assumption) ?_)
      | (refine Fr.of_fst (by assumption) ?_)
      | split
      | (unfold v; split)
      | (unfold v; clear_value *; split)
      | (clear_value *; split)

theorem execLimitTimeExpiry_fr {s t_ : State} {x : Axis} {reason : ℕ} {us : ℕ} (e_ : execLimitTimeExpiry x reason us s = .next t_) : Fr 0x2c01000000000800000004000000000000000000000200000000000000002400002018400 s t_ := by
  unfold execLimitTimeExpiry at e_
  obtain rfl := Host.Outcome.next.inj e_
  clear e_
  have h0 := Fr.refl 0x2c01000000000800000004000000000000000000000200000000000000002400002018400 s
  repeat' first
      | ((try lift_lets); intro v; refine_lift have hv : Fr 0x2c01000000000800000004000000000000000000000200000000000000002400002018400 s v := ?_; ?_; clear_value v)
      | ((try lift_lets); intro v)
      | with_reducible refine State.limitJudge_fr ?_
      | with_reducible refine State.modSv_fr ?_
      | with_reducible refine Fr.running ?_ (fun t ht => ?_)
      | with_reducible refine Fr.ite ?_ ?_
      | with_reducible refine Fr.cond ?_ ?_
      | with_reducible assumption
      | (refine Fr.of_snd (by assumption) ?_)
      | (refine Fr.of_fst (by assumption) ?_)
      | split
      | (unfold v; split)
      | (unfold v; clear_value *; split)
      | (clear_value *; split)

theorem execStopComplete_fr {s t_ : State} {x : Axis} {us : ℕ} (e_ : execStopComplete x us s = .next t_) : Fr 0x2c01000000000921c001c400000fc002050000730d031000000080000000240000207e430 s t_ := by
  unfold execStopComplete at e_
  obtain rfl := Host.Outcome.next.inj e_
  clear e_
  have h0 := Fr.refl 0x2c01000000000921c001c400000fc002050000730d031000000080000000240000207e430 s
  repeat' first
      | ((try lift_lets); intro v; refine_lift have hv : Fr 0x2c01000000000921c001c400000fc002050000730d031000000080000000240000207e430 s v := ?_; ?_; clear_value v)
      | ((try lift_lets); intro v)
      | with_reducible refine State.evalFirst_fr ?_
      | with_reducible refine State.goto_fr ?_
      | with_reducible refine State.modSv_fr ?_
      | with_reducible refine Fr.running ?_ (fun t ht => ?_)
      | with_reducible refine Fr.ite ?_ ?_
      | with_reducible refine Fr.cond ?_ ?_
      | with_reducible assumption
      | (refine Fr.of_snd (by assumption) ?_)
      | (refine Fr.of_fst (by assumption) ?_)
      | split
      | (unfold v; split)
      | (unfold v; clear_value *; split)
      | (clear_value *; split)

theorem execStopTimeout_fr {s t_ : State} {x : Axis} {us : ℕ} (e_ : execStopTimeout x us s = .next t_) : Fr 0xc2c01000008004be1c001c400000fc002050000730d031000000080000000240002207f430 s t_ := by
  unfold execStopTimeout at e_
  obtain rfl := Host.Outcome.next.inj e_
  clear e_
  have h0 := Fr.refl 0xc2c01000008004be1c001c400000fc002050000730d031000000080000000240002207f430 s
  repeat' first
      | ((try lift_lets); intro v; refine_lift have hv : Fr 0xc2c01000008004be1c001c400000fc002050000730d031000000080000000240002207f430 s v := ?_; ?_; clear_value v)
      | ((try lift_lets); intro v)
      | with_reducible refine State.evalFirst_fr ?_
      | with_reducible refine State.failState_fr ?_
      | with_reducible refine Fr.running ?_ (fun t ht => ?_)
      | with_reducible refine Fr.ite ?_ ?_
      | with_reducible refine Fr.cond ?_ ?_
      | with_reducible assumption
      | (refine Fr.of_snd (by assumption) ?_)
      | (refine Fr.of_fst (by assumption) ?_)
      | split
      | (unfold v; split)
      | (unfold v; clear_value *; split)
      | (clear_value *; split)

theorem execHoldTimeElapsed_fr {s t_ : State} {x : Axis} {us : ℕ} (e_ : execHoldTimeElapsed x us s = .next t_) : Fr 0x2c01000000000921c001c400000fc002050000730d031000000080000000240000207e430 s t_ := by
  unfold execHoldTimeElapsed at e_
  obtain rfl := Host.Outcome.next.inj e_
  clear e_
  have h0 := Fr.refl 0x2c01000000000921c001c400000fc002050000730d031000000080000000240000207e430 s
  repeat' first
      | ((try lift_lets); intro v; refine_lift have hv : Fr 0x2c01000000000921c001c400000fc002050000730d031000000080000000240000207e430 s v := ?_; ?_; clear_value v)
      | ((try lift_lets); intro v)
      | with_reducible refine State.evalFirst_fr ?_
      | with_reducible refine State.goto_fr ?_
      | with_reducible refine Fr.running ?_ (fun t ht => ?_)
      | with_reducible refine Fr.ite ?_ ?_
      | with_reducible refine Fr.cond ?_ ?_
      | with_reducible assumption
      | (refine Fr.of_snd (by assumption) ?_)
      | (refine Fr.of_fst (by assumption) ?_)
      | split
      | (unfold v; split)
      | (unfold v; clear_value *; split)
      | (clear_value *; split)

theorem execReversalRestart_fr {s t_ : State} {x : Axis} {us : ℕ} (e_ : execReversalRestart x us s = .next t_) : Fr 0x2c0100000000080000008400000e00000101e000e0001800000080000000240000201e410 s t_ := by
  unfold execReversalRestart at e_
  obtain rfl := Host.Outcome.next.inj e_
  clear e_
  have h0 := Fr.refl 0x2c0100000000080000008400000e00000101e000e0001800000080000000240000201e410 s
  repeat' first
      | ((try lift_lets); intro v; refine_lift have hv : Fr 0x2c0100000000080000008400000e00000101e000e0001800000080000000240000201e410 s v := ?_; ?_; clear_value v)
      | ((try lift_lets); intro v)
      | with_reducible refine State.ownIdle_fr ?_
      | with_reducible refine State.cmdArrive_fr ?_
      | with_reducible refine State.modSv_fr ?_
      | with_reducible refine Fr.running ?_ (fun t ht => ?_)
      | with_reducible refine Fr.ite ?_ ?_
      | with_reducible refine Fr.cond ?_ ?_
      | with_reducible assumption
      | (refine Fr.of_snd (by assumption) ?_)
      | (refine Fr.of_fst (by assumption) ?_)
      | split
      | (unfold v; split)
      | (unfold v; clear_value *; split)
      | (clear_value *; split)

theorem execPositionLossTimeout_fr {s t_ : State} {x : Axis} {us : ℕ} (e_ : execPositionLossTimeout x us s = .next t_) : Fr 0xc2c01000008004bc1c0004400000000020400000000001000000000000000240002207f420 s t_ := by
  unfold execPositionLossTimeout at e_
  obtain rfl := Host.Outcome.next.inj e_
  clear e_
  have h0 := Fr.refl 0xc2c01000008004bc1c0004400000000020400000000001000000000000000240002207f420 s
  repeat' first
      | ((try lift_lets); intro v; refine_lift have hv : Fr 0xc2c01000008004bc1c0004400000000020400000000001000000000000000240002207f420 s v := ?_; ?_; clear_value v)
      | ((try lift_lets); intro v)
      | with_reducible refine State.posLost_fr ?_
      | with_reducible refine Fr.running ?_ (fun t ht => ?_)
      | with_reducible refine Fr.ite ?_ ?_
      | with_reducible refine Fr.cond ?_ ?_
      | with_reducible assumption
      | (refine Fr.of_snd (by assumption) ?_)
      | (refine Fr.of_fst (by assumption) ?_)
      | split
      | (unfold v; split)
      | (unfold v; clear_value *; split)
      | (clear_value *; split)

theorem State.retryStart_fr {κ : Nat} {s0 s : State} {x : Axis} (hf_ : Fr κ s0 s) (hk_ : 0x2c01000000000921c001c400000fc0020500004101021000000080000000240000207e430 &&& κ = 0x2c01000000000921c001c400000fc0020500004101021000000080000000240000207e430 := by decide) :
    Fr κ s0 (State.retryStart s x) := by
  refine Fr.lift hf_ hk_ ?_
  clear hf_ hk_
  unfold State.retryStart
  have h0 := Fr.refl 0x2c01000000000921c001c400000fc0020500004101021000000080000000240000207e430 s
  repeat' first
      | ((try lift_lets); intro v; refine_lift have hv : Fr 0x2c01000000000921c001c400000fc0020500004101021000000080000000240000207e430 s v := ?_; ?_; clear_value v)
      | ((try lift_lets); intro v)
      | with_reducible refine State.goto_fr ?_
      | with_reducible refine State.modAx_fr ?_
      | with_reducible refine State.resolve_fr ?_
      | with_reducible refine Fr.ite ?_ ?_
      | with_reducible refine Fr.cond ?_ ?_
      | with_reducible assumption
      | with_reducible exact Fr.id_ (by with_reducible assumption)
      | (refine Fr.of_snd (by assumption) ?_)
      | (refine Fr.of_fst (by assumption) ?_)
      | split
      | (unfold v; split)
      | (unfold v; clear_value *; split)
      | (clear_value *; split)

theorem execRetryDecision_fr {s t_ : State} {x : Axis} {ms : ℕ} {sinceFirst : ℕ} (e_ : execRetryDecision x ms sinceFirst s = .next t_) : Fr 0x2c01000000000921c001c400000fc002050000730d031000000080000000240000207e430 s t_ := by
  unfold execRetryDecision at e_
  obtain rfl := Host.Outcome.next.inj e_
  clear e_
  have h0 := Fr.refl 0x2c01000000000921c001c400000fc002050000730d031000000080000000240000207e430 s
  repeat' first
      | ((try lift_lets); intro v; refine_lift have hv : Fr 0x2c01000000000921c001c400000fc002050000730d031000000080000000240000207e430 s v := ?_; ?_; clear_value v)
      | ((try lift_lets); intro v)
      | with_reducible refine State.retryStart_fr ?_
      | with_reducible refine State.evalFirst_fr ?_
      | with_reducible refine State.goto_fr ?_
      | with_reducible refine State.inc_fr ?_
      | with_reducible refine State.modAx_fr ?_
      | with_reducible refine State.modSv_fr ?_
      | with_reducible refine Fr.running ?_ (fun t ht => ?_)
      | with_reducible refine State.set_fr ?_
      | with_reducible refine Fr.ite ?_ ?_
      | with_reducible refine Fr.cond ?_ ?_
      | with_reducible assumption
      | with_reducible exact Fr.id_ (by with_reducible assumption)
      | (refine Fr.of_snd (by assumption) ?_)
      | (refine Fr.of_fst (by assumption) ?_)
      | split
      | (unfold v; split)
      | (unfold v; clear_value *; split)
      | (clear_value *; split)

theorem execRuntimeSecond_fr {s t_ : State} {x : Axis} {ns : ℕ} (e_ : execRuntimeSecond x ns s = .next t_) : Fr 0x8000000000000000000000000006000 s t_ := by
  unfold execRuntimeSecond at e_
  obtain rfl := Host.Outcome.next.inj e_
  clear e_
  have h0 := Fr.refl 0x8000000000000000000000000006000 s
  repeat' first
      | ((try lift_lets); intro v; refine_lift have hv : Fr 0x8000000000000000000000000006000 s v := ?_; ?_; clear_value v)
      | ((try lift_lets); intro v)
      | with_reducible refine State.incBy_fr ?_
      | with_reducible refine State.modAx_fr ?_
      | with_reducible refine State.inc_fr ?_
      | with_reducible refine Fr.running ?_ (fun t ht => ?_)
      | with_reducible refine Fr.ite ?_ ?_
      | with_reducible refine Fr.cond ?_ ?_
      | with_reducible assumption
      | (refine Fr.of_snd (by assumption) ?_)
      | (refine Fr.of_fst (by assumption) ?_)
      | split
      | (unfold v; split)
      | (unfold v; clear_value *; split)
      | (clear_value *; split)

theorem State.needs_fr {m : Nat} {s0 s : State} {by_ : Writer} {cond ok : Bool} {f : State → State} (h : Fr m s0 s)
    (hf : ∀ t, Fr m s0 t → Fr m s0 (f t)) (hk : 1073741824 &&& m = 1073741824 := by decide) :
    Fr m s0 (State.needs s by_ cond ok f) := by
  unfold State.needs
  repeat' split
  all_goals first | exact hf _ h | exact State.note_fr h hk | exact h

theorem State.modeTake_fr {κ : Nat} {s0 s : State} {x : Axis} (hf_ : Fr κ s0 s) (hk_ : 0x20000000000000000000000000000 &&& κ = 0x20000000000000000000000000000 := by decide) :
    Fr κ s0 (State.modeTake s x) := by
  refine Fr.lift hf_ hk_ ?_
  clear hf_ hk_
  unfold State.modeTake
  unfold modeFlds
  have h0 := Fr.refl 0x20000000000000000000000000000 s
  repeat' first
      | ((try lift_lets); intro v; refine_lift have hv : Fr 0x20000000000000000000000000000 s v := ?_; ?_; clear_value v)
      | ((try lift_lets); intro v)
      | with_reducible refine State.take_fr ?_
      | with_reducible refine Fr.forEachFld ?_ (fun t f hf ht => ?_)
      | with_reducible refine Fr.forEach ?_ (fun t a ht => ?_)
      | with_reducible refine Fr.ite ?_ ?_
      | with_reducible refine Fr.cond ?_ ?_
      | with_reducible assumption
      | (refine Fr.of_snd (by assumption) ?_)
      | (refine Fr.of_fst (by assumption) ?_)
      | split
      | (unfold v; split)
      | (unfold v; clear_value *; split)
      | (clear_value *; split)

theorem State.modeWrite_fr {κ : Nat} {s0 s : State} {by_ : Writer} {x : Axis} {w : Word} (hf_ : Fr κ s0 s) (hk_ : 0x2c01000000000800000004000000200000000000100030000000000000002400042018410 &&& κ = 0x2c01000000000800000004000000200000000000100030000000000000002400042018410 := by decide) :
    Fr κ s0 (State.modeWrite s by_ x w) := by
  refine Fr.lift hf_ hk_ ?_
  clear hf_ hk_
  unfold State.modeWrite
  have h0 := Fr.refl 0x2c01000000000800000004000000200000000000100030000000000000002400042018410 s
  repeat' first
      | ((try lift_lets); intro v; refine_lift have hv : Fr 0x2c01000000000800000004000000200000000000100030000000000000002400042018410 s v := ?_; ?_; clear_value v)
      | ((try lift_lets); intro v)
      | with_reducible refine State.inPosJudge_fr ?_
      | with_reducible refine State.modeTake_fr ?_
      | with_reducible refine State.needs_fr ?_ (fun t ht => ?_)
      | with_reducible refine State.set_fr ?_
      | with_reducible refine State.setSh_fr ?_
      | with_reducible refine Fr.forEach ?_ (fun t a ht => ?_)
      | with_reducible refine Fr.ite ?_ ?_
      | with_reducible refine Fr.cond ?_ ?_
      | with_reducible assumption
      | (refine Fr.of_snd (by assumption) ?_)
      | (refine Fr.of_fst (by assumption) ?_)
      | split
      | (unfold v; split)
      | (unfold v; clear_value *; split)
      | (clear_value *; split)

theorem execModeWrite_fr {s t_ : State} {x : Axis} {w : Word} (e_ : execModeWrite x w s = .next t_) : Fr 0x2c01000000000800000004000000200000000000100030000000000000002400042018410 s t_ := by
  unfold execModeWrite at e_
  obtain rfl := Host.Outcome.next.inj e_
  clear e_
  have h0 := Fr.refl 0x2c01000000000800000004000000200000000000100030000000000000002400042018410 s
  repeat' first
      | ((try lift_lets); intro v; refine_lift have hv : Fr 0x2c01000000000800000004000000200000000000100030000000000000002400042018410 s v := ?_; ?_; clear_value v)
      | ((try lift_lets); intro v)
      | with_reducible refine State.modeWrite_fr ?_
      | with_reducible refine Fr.running ?_ (fun t ht => ?_)
      | with_reducible refine Fr.ite ?_ ?_
      | with_reducible refine Fr.cond ?_ ?_
      | with_reducible assumption
      | (refine Fr.of_snd (by assumption) ?_)
      | (refine Fr.of_fst (by assumption) ?_)
      | split
      | (unfold v; split)
      | (unfold v; clear_value *; split)
      | (clear_value *; split)

theorem State.setPoint_fr {m : Nat} {s0 s : State} {by_ : Writer} {f : Fld} {w : Word} (h : Fr m s0 s) (hk : m.testBit (32 + fam f.reg) = true := by first | assumption | decide | (simp; done) | (simp; decide) | (simp +zetaDelta; decide) | (split <;> simp <;> decide) | exact all_fam (by decide)) (hn : 1073741824 &&& m = 1073741824 := by decide) :
    Fr m s0 (s.setPoint by_ f w) := by unfold State.setPoint; split; exact State.setW_fr h hk; exact State.note_fr h hn

theorem execSetPointWrite_fr {s t_ : State} {x : Axis} {torque : Bool} {w : Word} (e_ : execSetPointWrite x torque w s = .next t_) : Fr 0xc0000000000000000000040000000 s t_ := by
  unfold execSetPointWrite at e_
  obtain rfl := Host.Outcome.next.inj e_
  clear e_
  have h0 := Fr.refl 0xc0000000000000000000040000000 s
  repeat' first
      | ((try lift_lets); intro v; refine_lift have hv : Fr 0xc0000000000000000000040000000 s v := ?_; ?_; clear_value v)
      | ((try lift_lets); intro v)
      | with_reducible refine State.setPoint_fr ?_
      | with_reducible refine Fr.running ?_ (fun t ht => ?_)
      | with_reducible refine Fr.ite ?_ ?_
      | with_reducible refine Fr.cond ?_ ?_
      | with_reducible assumption
      | (refine Fr.of_snd (by assumption) ?_)
      | (refine Fr.of_fst (by assumption) ?_)
      | split
      | (unfold v; split)
      | (unfold v; clear_value *; split)
      | (clear_value *; split)

theorem State.mcCntClr_fr {κ : Nat} {s0 s : State} {x : Axis} {w : Word} (hf_ : Fr κ s0 s) (hk_ : 0x1e000000000000000000000000006000 &&& κ = 0x1e000000000000000000000000006000 := by decide) :
    Fr κ s0 (State.mcCntClr s x w) := by
  refine Fr.lift hf_ hk_ ?_
  clear hf_ hk_
  unfold State.mcCntClr
  have h0 := Fr.refl 0x1e000000000000000000000000006000 s
  repeat' first
      | ((try lift_lets); intro v; refine_lift have hv : Fr 0x1e000000000000000000000000006000 s v := ?_; ?_; clear_value v)
      | ((try lift_lets); intro v)
      | with_reducible refine State.modAx_fr ?_
      | with_reducible refine State.set_fr ?_
      | with_reducible refine Fr.onlyIf ?_ (fun t ht => ?_)
      | with_reducible refine Fr.ite ?_ ?_
      | with_reducible refine Fr.cond ?_ ?_
      | with_reducible assumption
      | (refine Fr.of_snd (by assumption) ?_)
      | (refine Fr.of_fst (by assumption) ?_)
      | split
      | (unfold v; split)
      | (unfold v; clear_value *; split)
      | (clear_value *; split)

theorem execMcCntClr_fr {s t_ : State} {x : Axis} {w : Word} (e_ : execMcCntClr x w s = .next t_) : Fr 0x1e000000000000000000000000006000 s t_ := by
  unfold execMcCntClr at e_
  obtain rfl := Host.Outcome.next.inj e_
  clear e_
  have h0 := Fr.refl 0x1e000000000000000000000000006000 s
  repeat' first
      | ((try lift_lets); intro v; refine_lift have hv : Fr 0x1e000000000000000000000000006000 s v := ?_; ?_; clear_value v)
      | ((try lift_lets); intro v)
      | with_reducible refine State.mcCntClr_fr ?_
      | with_reducible refine Fr.running ?_ (fun t ht => ?_)
      | with_reducible refine Fr.ite ?_ ?_
      | with_reducible refine Fr.cond ?_ ?_
      | with_reducible assumption
      | (refine Fr.of_snd (by assumption) ?_)
      | (refine Fr.of_fst (by assumption) ?_)
      | split
      | (unfold v; split)
      | (unfold v; clear_value *; split)
      | (clear_value *; split)

end Sys2Proof.Machine
end

