-- ==== Sys2Proof/Laws/FrameFolly.lean ====
section
/-! SUPPORT. Frames of the operations of Machine/Folly.lean: one lemma each (Laws/Frame.lean). -/

namespace Sys2Proof.Machine

set_option Elab.async false

theorem State.modFol_fr {κ : Nat} {s0 s : State} {x : Axis} {f : Fol → Fol} (hf_ : Fr κ s0 s) (hk_ : 0x18000 &&& κ = 0x18000 := by decide) :
    Fr κ s0 (State.modFol s x f) := by
  refine Fr.lift hf_ hk_ ?_
  clear hf_ hk_
  unfold State.modFol
  have h0 := Fr.refl 0x18000 s
  repeat' first
      | ((try lift_lets); intro v; refine_lift have hv : Fr 0x18000 s v := ?_; ?_; clear_value v)
      | ((try lift_lets); intro v)
      | with_reducible refine State.modSv_fr ?_
      | with_reducible refine Fr.ite ?_ ?_
      | with_reducible refine Fr.cond ?_ ?_
      | with_reducible assumption
      | (refine Fr.of_snd (by assumption) ?_)
      | (refine Fr.of_fst (by assumption) ?_)
      | split
      | (unfold v; split)
      | (unfold v; clear_value *; split)
      | (clear_value *; split)

theorem State.folValue_fr {κ : Nat} {s0 s : State} {x : Axis} (hf_ : Fr κ s0 s) (hk_ : 0x80000000000000000000000000000000000000000000018000 &&& κ = 0x80000000000000000000000000000000000000000000018000 := by decide) :
    Fr κ s0 (State.folValue s x) := by
  refine Fr.lift hf_ hk_ ?_
  clear hf_ hk_
  unfold State.folValue
  have h0 := Fr.refl 0x80000000000000000000000000000000000000000000018000 s
  repeat' first
      | ((try lift_lets); intro v; refine_lift have hv : Fr 0x80000000000000000000000000000000000000000000018000 s v := ?_; ?_; clear_value v)
      | ((try lift_lets); intro v)
      | with_reducible refine State.modFol_fr ?_
      | with_reducible refine State.setW_fr ?_
      | with_reducible refine Fr.ite ?_ ?_
      | with_reducible refine Fr.cond ?_ ?_
      | with_reducible assumption
      | (refine Fr.of_snd (by assumption) ?_)
      | (refine Fr.of_fst (by assumption) ?_)
      | split
      | (unfold v; split)
      | (unfold v; clear_value *; split)
      | (clear_value *; split)

theorem State.folStep_fr {κ : Nat} {s0 s : State} {x : Axis} (hf_ : Fr κ s0 s) (hk_ : 0x80000000000000000000000000000000000000000000018000 &&& κ = 0x80000000000000000000000000000000000000000000018000 := by decide) :
    Fr κ s0 (State.folStep s x) := by
  refine Fr.lift hf_ hk_ ?_
  clear hf_ hk_
  unfold State.folStep
  have h0 := Fr.refl 0x80000000000000000000000000000000000000000000018000 s
  repeat' first
      | ((try lift_lets); intro v; refine_lift have hv : Fr 0x80000000000000000000000000000000000000000000018000 s v := ?_; ?_; clear_value v)
      | ((try lift_lets); intro v)
      | with_reducible refine State.folValue_fr ?_
      | with_reducible refine State.modFol_fr ?_
      | with_reducible refine Fr.ite ?_ ?_
      | with_reducible refine Fr.cond ?_ ?_
      | with_reducible assumption
      | (refine Fr.of_snd (by assumption) ?_)
      | (refine Fr.of_fst (by assumption) ?_)
      | split
      | (unfold v; split)
      | (unfold v; clear_value *; split)
      | (clear_value *; split)

theorem State.folRelease_fr {κ : Nat} {s0 s : State} {x : Axis} (hf_ : Fr κ s0 s) (hk_ : 0x80000000000000000000000000000000000000000000018000 &&& κ = 0x80000000000000000000000000000000000000000000018000 := by decide) :
    Fr κ s0 (State.folRelease s x) := by
  refine Fr.lift hf_ hk_ ?_
  clear hf_ hk_
  unfold State.folRelease
  have h0 := Fr.refl 0x80000000000000000000000000000000000000000000018000 s
  repeat' first
      | ((try lift_lets); intro v; refine_lift have hv : Fr 0x80000000000000000000000000000000000000000000018000 s v := ?_; ?_; clear_value v)
      | ((try lift_lets); intro v)
      | with_reducible refine State.folStep_fr ?_
      | with_reducible refine State.modFol_fr ?_
      | with_reducible refine Fr.ite ?_ ?_
      | with_reducible refine Fr.cond ?_ ?_
      | with_reducible assumption
      | with_reducible exact Fr.id_ (by with_reducible assumption)
      | (refine Fr.of_snd (by assumption) ?_)
      | (refine Fr.of_fst (by assumption) ?_)
      | split
      | (unfold v; split)
      | (unfold v; clear_value *; split)
      | (clear_value *; split)

theorem State.folOver_fr {κ : Nat} {s0 s : State} {x : Axis} (hf_ : Fr κ s0 s) (hk_ : 0xe0000000000000000000000000000000000000000000018000 &&& κ = 0xe0000000000000000000000000000000000000000000018000 := by decide) :
    Fr κ s0 (State.folOver s x) := by
  refine Fr.lift hf_ hk_ ?_
  clear hf_ hk_
  unfold State.folOver
  have h0 := Fr.refl 0xe0000000000000000000000000000000000000000000018000 s
  repeat' first
      | ((try lift_lets); intro v; refine_lift have hv : Fr 0xe0000000000000000000000000000000000000000000018000 s v := ?_; ?_; clear_value v)
      | ((try lift_lets); intro v)
      | with_reducible refine State.modFol_fr ?_
      | with_reducible refine State.set_fr ?_
      | with_reducible refine State.setW_fr ?_
      | with_reducible refine Fr.ite ?_ ?_
      | with_reducible refine Fr.cond ?_ ?_
      | with_reducible assumption
      | with_reducible exact Fr.id_ (by with_reducible assumption)
      | (refine Fr.of_snd (by assumption) ?_)
      | (refine Fr.of_fst (by assumption) ?_)
      | split
      | (unfold v; split)
      | (unfold v; clear_value *; split)
      | (clear_value *; split)

theorem State.capTrigger_fr {κ : Nat} {s0 s : State} {x : Axis} (hf_ : Fr κ s0 s) (hk_ : 0x2c01000000000800000004000000000000000000000000000000000000002400002018400 &&& κ = 0x2c01000000000800000004000000000000000000000000000000000000002400002018400 := by decide) :
    Fr κ s0 (State.capTrigger s x) := by
  refine Fr.lift hf_ hk_ ?_
  clear hf_ hk_
  unfold State.capTrigger
  have h0 := Fr.refl 0x2c01000000000800000004000000000000000000000000000000000000002400002018400 s
  repeat' first
      | ((try lift_lets); intro v; refine_lift have hv : Fr 0x2c01000000000800000004000000000000000000000000000000000000002400002018400 s v := ?_; ?_; clear_value v)
      | ((try lift_lets); intro v)
      | with_reducible refine State.capMark_fr ?_
      | with_reducible refine State.evx_fr ?_
      | with_reducible refine Fr.ite ?_ ?_
      | with_reducible refine Fr.cond ?_ ?_
      | with_reducible assumption
      | (refine Fr.of_snd (by assumption) ?_)
      | (refine Fr.of_fst (by assumption) ?_)
      | split
      | (unfold v; split)
      | (unfold v; clear_value *; split)
      | (clear_value *; split)

theorem State.folStart_fr {κ : Nat} {s0 s : State} {x : Axis} (hf_ : Fr κ s0 s) (hk_ : 0x40000000000000000000000000000000000000000000018000 &&& κ = 0x40000000000000000000000000000000000000000000018000 := by decide) :
    Fr κ s0 (State.folStart s x) := by
  refine Fr.lift hf_ hk_ ?_
  clear hf_ hk_
  unfold State.folStart
  have h0 := Fr.refl 0x40000000000000000000000000000000000000000000018000 s
  repeat' first
      | ((try lift_lets); intro v; refine_lift have hv : Fr 0x40000000000000000000000000000000000000000000018000 s v := ?_; ?_; clear_value v)
      | ((try lift_lets); intro v)
      | with_reducible refine State.modFol_fr ?_
      | with_reducible refine State.set_fr ?_
      | with_reducible refine Fr.ite ?_ ?_
      | with_reducible refine Fr.cond ?_ ?_
      | with_reducible assumption
      | (refine Fr.of_snd (by assumption) ?_)
      | (refine Fr.of_fst (by assumption) ?_)
      | split
      | (unfold v; split)
      | (unfold v; clear_value *; split)
      | (clear_value *; split)

theorem execFolStart_fr {s t_ : State} {x : Axis} (e_ : execFolStart x s = .next t_) : Fr 0x40000000000000000000000000000000000000000000018000 s t_ := by
  unfold execFolStart at e_
  obtain rfl := Host.Outcome.next.inj e_
  clear e_
  have h0 := Fr.refl 0x40000000000000000000000000000000000000000000018000 s
  repeat' first
      | ((try lift_lets); intro v; refine_lift have hv : Fr 0x40000000000000000000000000000000000000000000018000 s v := ?_; ?_; clear_value v)
      | ((try lift_lets); intro v)
      | with_reducible refine State.folStart_fr ?_
      | with_reducible refine Fr.running ?_ (fun t ht => ?_)
      | with_reducible refine Fr.ite ?_ ?_
      | with_reducible refine Fr.cond ?_ ?_
      | with_reducible assumption
      | (refine Fr.of_snd (by assumption) ?_)
      | (refine Fr.of_fst (by assumption) ?_)
      | split
      | (unfold v; split)
      | (unfold v; clear_value *; split)
      | (clear_value *; split)

theorem State.folBegin_fr {κ : Nat} {s0 s : State} {x : Axis} (hf_ : Fr κ s0 s) (hk_ : 0x2c010000000008000000040e0000000000000000000000000000000000002400002018400 &&& κ = 0x2c010000000008000000040e0000000000000000000000000000000000002400002018400 := by decide) :
    Fr κ s0 (State.folBegin s x) := by
  refine Fr.lift hf_ hk_ ?_
  clear hf_ hk_
  unfold State.folBegin
  have h0 := Fr.refl 0x2c010000000008000000040e0000000000000000000000000000000000002400002018400 s
  repeat' first
      | ((try lift_lets); intro v; refine_lift have hv : Fr 0x2c010000000008000000040e0000000000000000000000000000000000002400002018400 s v := ?_; ?_; clear_value v)
      | ((try lift_lets); intro v)
      | with_reducible refine State.capTrigger_fr ?_
      | with_reducible refine State.folValue_fr ?_
      | with_reducible refine State.modFol_fr ?_
      | with_reducible refine State.set_fr ?_
      | with_reducible refine Fr.ite ?_ ?_
      | with_reducible refine Fr.cond ?_ ?_
      | with_reducible assumption
      | (refine Fr.of_snd (by assumption) ?_)
      | (refine Fr.of_fst (by assumption) ?_)
      | split
      | (unfold v; split)
      | (unfold v; clear_value *; split)
      | (clear_value *; split)

theorem execInjectionBegin_fr {s t_ : State} {x : Axis} (e_ : execInjectionBegin x s = .next t_) : Fr 0x2c010000000008000000040e0000000000000000000000000000000000002400002018400 s t_ := by
  unfold execInjectionBegin at e_
  obtain rfl := Host.Outcome.next.inj e_
  clear e_
  have h0 := Fr.refl 0x2c010000000008000000040e0000000000000000000000000000000000002400002018400 s
  repeat' first
      | ((try lift_lets); intro v; refine_lift have hv : Fr 0x2c010000000008000000040e0000000000000000000000000000000000002400002018400 s v := ?_; ?_; clear_value v)
      | ((try lift_lets); intro v)
      | with_reducible refine State.folBegin_fr ?_
      | with_reducible refine Fr.ite ?_ ?_
      | with_reducible refine Fr.cond ?_ ?_
      | with_reducible assumption
      | (refine Fr.of_snd (by assumption) ?_)
      | (refine Fr.of_fst (by assumption) ?_)
      | split
      | (unfold v; split)
      | (unfold v; clear_value *; split)
      | (clear_value *; split)

theorem State.folEnd_fr {κ : Nat} {s0 s : State} {x : Axis} {why : ℕ} (hf_ : Fr κ s0 s) (hk_ : 0x2c010000000008000000040e0000000000000000000000000000000000002400002018400 &&& κ = 0x2c010000000008000000040e0000000000000000000000000000000000002400002018400 := by decide) :
    Fr κ s0 (State.folEnd s x why) := by
  refine Fr.lift hf_ hk_ ?_
  clear hf_ hk_
  unfold State.folEnd
  have h0 := Fr.refl 0x2c010000000008000000040e0000000000000000000000000000000000002400002018400 s
  repeat' first
      | ((try lift_lets); intro v; refine_lift have hv : Fr 0x2c010000000008000000040e0000000000000000000000000000000000002400002018400 s v := ?_; ?_; clear_value v)
      | ((try lift_lets); intro v)
      | with_reducible refine State.folOver_fr ?_
      | with_reducible refine State.evx_fr ?_
      | with_reducible refine State.modFol_fr ?_
      | with_reducible refine State.set_fr ?_
      | with_reducible refine State.setW_fr ?_
      | with_reducible refine Fr.ite ?_ ?_
      | with_reducible refine Fr.cond ?_ ?_
      | with_reducible assumption
      | (refine Fr.of_snd (by assumption) ?_)
      | (refine Fr.of_fst (by assumption) ?_)
      | split
      | (unfold v; split)
      | (unfold v; clear_value *; split)
      | (clear_value *; split)

theorem execInjectionEnded_fr {s t_ : State} {x : Axis} {why : ℕ} (e_ : execInjectionEnded x why s = .next t_) : Fr 0x2c010000000008000000040e0000000000000000000000000000000000002400002018400 s t_ := by
  unfold execInjectionEnded at e_
  obtain rfl := Host.Outcome.next.inj e_
  clear e_
  have h0 := Fr.refl 0x2c010000000008000000040e0000000000000000000000000000000000002400002018400 s
  repeat' first
      | ((try lift_lets); intro v; refine_lift have hv : Fr 0x2c010000000008000000040e0000000000000000000000000000000000002400002018400 s v := ?_; ?_; clear_value v)
      | ((try lift_lets); intro v)
      | with_reducible refine State.folEnd_fr ?_
      | with_reducible refine Fr.running ?_ (fun t ht => ?_)
      | with_reducible refine Fr.ite ?_ ?_
      | with_reducible refine Fr.cond ?_ ?_
      | with_reducible assumption
      | (refine Fr.of_snd (by assumption) ?_)
      | (refine Fr.of_fst (by assumption) ?_)
      | split
      | (unfold v; split)
      | (unfold v; clear_value *; split)
      | (clear_value *; split)

theorem execFolCancel_fr {s t_ : State} {x : Axis} (e_ : execFolCancel x s = .next t_) : Fr 0x2c010000000008000000040e0000000000000000000000000000000000002400002018400 s t_ := by
  unfold execFolCancel at e_
  obtain rfl := Host.Outcome.next.inj e_
  clear e_
  have h0 := Fr.refl 0x2c010000000008000000040e0000000000000000000000000000000000002400002018400 s
  repeat' first
      | ((try lift_lets); intro v; refine_lift have hv : Fr 0x2c010000000008000000040e0000000000000000000000000000000000002400002018400 s v := ?_; ?_; clear_value v)
      | ((try lift_lets); intro v)
      | with_reducible refine State.folEnd_fr ?_
      | with_reducible refine Fr.running ?_ (fun t ht => ?_)
      | with_reducible refine Fr.ite ?_ ?_
      | with_reducible refine Fr.cond ?_ ?_
      | with_reducible assumption
      | (refine Fr.of_snd (by assumption) ?_)
      | (refine Fr.of_fst (by assumption) ?_)
      | split
      | (unfold v; split)
      | (unfold v; clear_value *; split)
      | (clear_value *; split)

theorem State.modCap_fr {κ : Nat} {s0 s : State} {x : Axis} {f : Cap → Cap} (hf_ : Fr κ s0 s) (hk_ : 0x18000 &&& κ = 0x18000 := by decide) :
    Fr κ s0 (State.modCap s x f) := by
  refine Fr.lift hf_ hk_ ?_
  clear hf_ hk_
  unfold State.modCap
  have h0 := Fr.refl 0x18000 s
  repeat' first
      | ((try lift_lets); intro v; refine_lift have hv : Fr 0x18000 s v := ?_; ?_; clear_value v)
      | ((try lift_lets); intro v)
      | with_reducible refine State.modSv_fr ?_
      | with_reducible refine Fr.ite ?_ ?_
      | with_reducible refine Fr.cond ?_ ?_
      | with_reducible assumption
      | (refine Fr.of_snd (by assumption) ?_)
      | (refine Fr.of_fst (by assumption) ?_)
      | split
      | (unfold v; split)
      | (unfold v; clear_value *; split)
      | (clear_value *; split)

theorem State.capArm_fr {κ : Nat} {s0 s : State} {x : Axis} (hf_ : Fr κ s0 s) (hk_ : 0x2c0100000000080000001e000000000000000000000000000000000000002400002018400 &&& κ = 0x2c0100000000080000001e000000000000000000000000000000000000002400002018400 := by decide) :
    Fr κ s0 (State.capArm s x) := by
  refine Fr.lift hf_ hk_ ?_
  clear hf_ hk_
  unfold State.capArm
  have h0 := Fr.refl 0x2c0100000000080000001e000000000000000000000000000000000000002400002018400 s
  repeat' first
      | ((try lift_lets); intro v; refine_lift have hv : Fr 0x2c0100000000080000001e000000000000000000000000000000000000002400002018400 s v := ?_; ?_; clear_value v)
      | ((try lift_lets); intro v)
      | with_reducible refine State.capTrigger_fr ?_
      | with_reducible refine State.modCap_fr ?_
      | with_reducible refine State.set_fr ?_
      | with_reducible refine State.wr_fr ?_
      | with_reducible refine Fr.ite ?_ ?_
      | with_reducible refine Fr.cond ?_ ?_
      | with_reducible assumption
      | (refine Fr.of_snd (by assumption) ?_)
      | (refine Fr.of_fst (by assumption) ?_)
      | split
      | (unfold v; split)
      | (unfold v; clear_value *; split)
      | (clear_value *; split)

theorem execCaptureArm_fr {s t_ : State} {x : Axis} (e_ : execCaptureArm x s = .next t_) : Fr 0x2c0100000000080000001e000000000000000000000000000000000000002400002018400 s t_ := by
  unfold execCaptureArm at e_
  obtain rfl := Host.Outcome.next.inj e_
  clear e_
  have h0 := Fr.refl 0x2c0100000000080000001e000000000000000000000000000000000000002400002018400 s
  repeat' first
      | ((try lift_lets); intro v; refine_lift have hv : Fr 0x2c0100000000080000001e000000000000000000000000000000000000002400002018400 s v := ?_; ?_; clear_value v)
      | ((try lift_lets); intro v)
      | with_reducible refine State.capArm_fr ?_
      | with_reducible refine Fr.running ?_ (fun t ht => ?_)
      | with_reducible refine Fr.ite ?_ ?_
      | with_reducible refine Fr.cond ?_ ?_
      | with_reducible assumption
      | (refine Fr.of_snd (by assumption) ?_)
      | (refine Fr.of_fst (by assumption) ?_)
      | split
      | (unfold v; split)
      | (unfold v; clear_value *; split)
      | (clear_value *; split)

theorem execCaptureTrigger_fr {s t_ : State} {x : Axis} (e_ : execCaptureTrigger x s = .next t_) : Fr 0x2c01000000000800000004000000000000000000000000000000000000002400002018400 s t_ := by
  unfold execCaptureTrigger at e_
  obtain rfl := Host.Outcome.next.inj e_
  clear e_
  have h0 := Fr.refl 0x2c01000000000800000004000000000000000000000000000000000000002400002018400 s
  repeat' first
      | ((try lift_lets); intro v; refine_lift have hv : Fr 0x2c01000000000800000004000000000000000000000000000000000000002400002018400 s v := ?_; ?_; clear_value v)
      | ((try lift_lets); intro v)
      | with_reducible refine State.capTrigger_fr ?_
      | with_reducible refine Fr.running ?_ (fun t ht => ?_)
      | with_reducible refine Fr.ite ?_ ?_
      | with_reducible refine Fr.cond ?_ ?_
      | with_reducible assumption
      | (refine Fr.of_snd (by assumption) ?_)
      | (refine Fr.of_fst (by assumption) ?_)
      | split
      | (unfold v; split)
      | (unfold v; clear_value *; split)
      | (clear_value *; split)

theorem State.capIndex_fr {κ : Nat} {s0 s : State} {x : Axis} (hf_ : Fr κ s0 s) (hk_ : 0x80000000 &&& κ = 0x80000000 := by decide) :
    Fr κ s0 (State.capIndex s x).2 := by
  refine Fr.lift hf_ hk_ ?_
  clear hf_ hk_
  unfold State.capIndex
  have h0 := Fr.refl 0x80000000 s
  repeat' first
      | ((try lift_lets); intro v; refine_lift have hv : Fr 0x80000000 s v := ?_; ?_; clear_value v)
      | ((try lift_lets); intro v)
      | with_reducible refine State.freshNat_fr ?_
      | with_reducible refine Fr.ite ?_ ?_
      | with_reducible refine Fr.cond ?_ ?_
      | with_reducible assumption
      | (refine Fr.of_snd (by assumption) ?_)
      | (refine Fr.of_fst (by assumption) ?_)
      | split
      | (unfold v; split)
      | (unfold v; clear_value *; split)
      | (clear_value *; split)

theorem State.capCounts_fr {κ : Nat} {s0 s : State} {x : Axis} (hf_ : Fr κ s0 s) (hk_ : 0x18000000000000000000000000000000000000000000000000000 &&& κ = 0x18000000000000000000000000000000000000000000000000000 := by decide) :
    Fr κ s0 (State.capCounts s x) := by
  refine Fr.lift hf_ hk_ ?_
  clear hf_ hk_
  unfold State.capCounts
  have h0 := Fr.refl 0x18000000000000000000000000000000000000000000000000000 s
  repeat' first
      | ((try lift_lets); intro v; refine_lift have hv : Fr 0x18000000000000000000000000000000000000000000000000000 s v := ?_; ?_; clear_value v)
      | ((try lift_lets); intro v)
      | with_reducible refine State.set_fr ?_
      | with_reducible refine Fr.ite ?_ ?_
      | with_reducible refine Fr.cond ?_ ?_
      | with_reducible assumption
      | (refine Fr.of_snd (by assumption) ?_)
      | (refine Fr.of_fst (by assumption) ?_)
      | split
      | (unfold v; split)
      | (unfold v; clear_value *; split)
      | (clear_value *; split)

theorem State.capPut_fr {κ : Nat} {s0 s : State} {x : Axis} (hf_ : Fr κ s0 s) (hk_ : 0x1c000000000000000000000000000000000000000000080018000 &&& κ = 0x1c000000000000000000000000000000000000000000080018000 := by decide) :
    Fr κ s0 (State.capPut s x) := by
  refine Fr.lift hf_ hk_ ?_
  clear hf_ hk_
  unfold State.capPut
  have h0 := Fr.refl 0x1c000000000000000000000000000000000000000000080018000 s
  repeat' first
      | ((try lift_lets); intro v; refine_lift have hv : Fr 0x1c000000000000000000000000000000000000000000080018000 s v := ?_; ?_; clear_value v)
      | ((try lift_lets); intro v)
      | with_reducible refine State.capCounts_fr ?_
      | with_reducible refine State.capIndex_fr ?_
      | with_reducible refine State.inc_fr ?_
      | with_reducible refine State.modCap_fr ?_
      | with_reducible refine Fr.ite ?_ ?_
      | with_reducible refine Fr.cond ?_ ?_
      | with_reducible assumption
      | with_reducible exact Fr.id_ (by with_reducible assumption)
      | (refine Fr.of_snd (by assumption) ?_)
      | (refine Fr.of_fst (by assumption) ?_)
      | split
      | (unfold v; split)
      | (unfold v; clear_value *; split)
      | (clear_value *; split)

theorem execCaptureFrame_fr {s t_ : State} {x : Axis} (e_ : execCaptureFrame x s = .next t_) : Fr 0x1c000000000000000000000000000000000000000000080018000 s t_ := by
  unfold execCaptureFrame at e_
  obtain rfl := Host.Outcome.next.inj e_
  clear e_
  have h0 := Fr.refl 0x1c000000000000000000000000000000000000000000080018000 s
  repeat' first
      | ((try lift_lets); intro v; refine_lift have hv : Fr 0x1c000000000000000000000000000000000000000000080018000 s v := ?_; ?_; clear_value v)
      | ((try lift_lets); intro v)
      | with_reducible refine State.capPut_fr ?_
      | with_reducible refine State.modCap_fr ?_
      | with_reducible refine Fr.running ?_ (fun t ht => ?_)
      | with_reducible refine Fr.ite ?_ ?_
      | with_reducible refine Fr.cond ?_ ?_
      | with_reducible assumption
      | with_reducible exact Fr.id_ (by with_reducible assumption)
      | (refine Fr.of_snd (by assumption) ?_)
      | (refine Fr.of_fst (by assumption) ?_)
      | split
      | (unfold v; split)
      | (unfold v; clear_value *; split)
      | (clear_value *; split)

theorem State.capDescriptor_fr {κ : Nat} {s0 s : State} {x : Axis} (hf_ : Fr κ s0 s) (hk_ : 0x2c010000000001000000000000000000000000000000000000000000000000000820181e0 &&& κ = 0x2c010000000001000000000000000000000000000000000000000000000000000820181e0 := by decide) :
    Fr κ s0 (State.capDescriptor s x) := by
  refine Fr.lift hf_ hk_ ?_
  clear hf_ hk_
  unfold State.capDescriptor
  have h0 := Fr.refl 0x2c010000000001000000000000000000000000000000000000000000000000000820181e0 s
  repeat' first
      | ((try lift_lets); intro v; refine_lift have hv : Fr 0x2c010000000001000000000000000000000000000000000000000000000000000820181e0 s v := ?_; ?_; clear_value v)
      | ((try lift_lets); intro v)
      | with_reducible refine State.eccClear_fr ?_
      | with_reducible refine State.freshBit_fr ?_
      | with_reducible refine State.freshNat_fr ?_
      | with_reducible refine State.modCap_fr ?_
      | with_reducible refine State.pglTrigger_fr ?_
      | with_reducible refine State.setWords_fr ?_
      | with_reducible refine Fr.ite ?_ ?_
      | with_reducible refine Fr.cond ?_ ?_
      | with_reducible assumption
      | (refine Fr.of_snd (by assumption) ?_)
      | (refine Fr.of_fst (by assumption) ?_)
      | split
      | (unfold v; split)
      | (unfold v; clear_value *; split)
      | (clear_value *; split)

theorem execCaptureBlockDescriptor_fr {s t_ : State} {x : Axis} (e_ : execCaptureBlockDescriptor x s = .next t_) : Fr 0x2c010000000001000000000000000000000000000000000000000000000000000820181e0 s t_ := by
  unfold execCaptureBlockDescriptor at e_
  obtain rfl := Host.Outcome.next.inj e_
  clear e_
  have h0 := Fr.refl 0x2c010000000001000000000000000000000000000000000000000000000000000820181e0 s
  repeat' first
      | ((try lift_lets); intro v; refine_lift have hv : Fr 0x2c010000000001000000000000000000000000000000000000000000000000000820181e0 s v := ?_; ?_; clear_value v)
      | ((try lift_lets); intro v)
      | with_reducible refine State.capDescriptor_fr ?_
      | with_reducible refine Fr.running ?_ (fun t ht => ?_)
      | with_reducible refine Fr.ite ?_ ?_
      | with_reducible refine Fr.cond ?_ ?_
      | with_reducible assumption
      | (refine Fr.of_snd (by assumption) ?_)
      | (refine Fr.of_fst (by assumption) ?_)
      | split
      | (unfold v; split)
      | (unfold v; clear_value *; split)
      | (clear_value *; split)

theorem State.capCancel_fr {κ : Nat} {s0 s : State} {x : Axis} (hf_ : Fr κ s0 s) (hk_ : 0x18000 &&& κ = 0x18000 := by decide) :
    Fr κ s0 (State.capCancel s x) := by
  refine Fr.lift hf_ hk_ ?_
  clear hf_ hk_
  unfold State.capCancel
  have h0 := Fr.refl 0x18000 s
  repeat' first
      | ((try lift_lets); intro v; refine_lift have hv : Fr 0x18000 s v := ?_; ?_; clear_value v)
      | ((try lift_lets); intro v)
      | with_reducible refine State.modCap_fr ?_
      | with_reducible refine Fr.ite ?_ ?_
      | with_reducible refine Fr.cond ?_ ?_
      | with_reducible assumption
      | (refine Fr.of_snd (by assumption) ?_)
      | (refine Fr.of_fst (by assumption) ?_)
      | split
      | (unfold v; split)
      | (unfold v; clear_value *; split)
      | (clear_value *; split)

theorem execCaptureCancel_fr {s t_ : State} {x : Axis} (e_ : execCaptureCancel x s = .next t_) : Fr 0x18000 s t_ := by
  unfold execCaptureCancel at e_
  obtain rfl := Host.Outcome.next.inj e_
  clear e_
  have h0 := Fr.refl 0x18000 s
  repeat' first
      | ((try lift_lets); intro v; refine_lift have hv : Fr 0x18000 s v := ?_; ?_; clear_value v)
      | ((try lift_lets); intro v)
      | with_reducible refine State.capCancel_fr ?_
      | with_reducible refine Fr.running ?_ (fun t ht => ?_)
      | with_reducible refine Fr.ite ?_ ?_
      | with_reducible refine Fr.cond ?_ ?_
      | with_reducible assumption
      | (refine Fr.of_snd (by assumption) ?_)
      | (refine Fr.of_fst (by assumption) ?_)
      | split
      | (unfold v; split)
      | (unfold v; clear_value *; split)
      | (clear_value *; split)

theorem State.capSettle_fr {κ : Nat} {s0 s : State} {x : Axis} (hf_ : Fr κ s0 s) (hk_ : 0x20 &&& κ = 0x20 := by decide) :
    Fr κ s0 (State.capSettle s x) := by
  refine Fr.lift hf_ hk_ ?_
  clear hf_ hk_
  unfold State.capSettle
  have h0 := Fr.refl 0x20 s
  repeat' first
      | ((try lift_lets); intro v; refine_lift have hv : Fr 0x20 s v := ?_; ?_; clear_value v)
      | ((try lift_lets); intro v)
      | with_reducible refine Fr.forEach ?_ (fun t a ht => ?_)
      | with_reducible refine State.setBytes_fr ?_
      | with_reducible refine Fr.ite ?_ ?_
      | with_reducible refine Fr.cond ?_ ?_
      | with_reducible assumption
      | with_reducible exact Fr.id_ (by with_reducible assumption)
      | (refine Fr.of_snd (by assumption) ?_)
      | (refine Fr.of_fst (by assumption) ?_)
      | split
      | (unfold v; split)
      | (unfold v; clear_value *; split)
      | (clear_value *; split)

theorem State.capEnd_fr {κ : Nat} {s0 s : State} {x : Axis} {how : ℕ} (hf_ : Fr κ s0 s) (hk_ : 0x2c01000000000800000006000000000000000000000000000000000000002400002018420 &&& κ = 0x2c01000000000800000006000000000000000000000000000000000000002400002018420 := by decide) :
    Fr κ s0 (State.capEnd s x how) := by
  refine Fr.lift hf_ hk_ ?_
  clear hf_ hk_
  unfold State.capEnd
  have h0 := Fr.refl 0x2c01000000000800000006000000000000000000000000000000000000002400002018420 s
  repeat' first
      | ((try lift_lets); intro v; refine_lift have hv : Fr 0x2c01000000000800000006000000000000000000000000000000000000002400002018420 s v := ?_; ?_; clear_value v)
      | ((try lift_lets); intro v)
      | with_reducible refine State.capSettle_fr ?_
      | with_reducible refine State.evx_fr ?_
      | with_reducible refine State.modCap_fr ?_
      | with_reducible refine State.set_fr ?_
      | with_reducible refine Fr.ite ?_ ?_
      | with_reducible refine Fr.cond ?_ ?_
      | with_reducible assumption
      | (refine Fr.of_snd (by assumption) ?_)
      | (refine Fr.of_fst (by assumption) ?_)
      | split
      | (unfold v; split)
      | (unfold v; clear_value *; split)
      | (clear_value *; split)

theorem execCaptureComplete_fr {s t_ : State} {x : Axis} (e_ : execCaptureComplete x s = .next t_) : Fr 0x2c01000000000800000006000000000000000000000000000000000000002400002018420 s t_ := by
  unfold execCaptureComplete at e_
  obtain rfl := Host.Outcome.next.inj e_
  clear e_
  have h0 := Fr.refl 0x2c01000000000800000006000000000000000000000000000000000000002400002018420 s
  repeat' first
      | ((try lift_lets); intro v; refine_lift have hv : Fr 0x2c01000000000800000006000000000000000000000000000000000000002400002018420 s v := ?_; ?_; clear_value v)
      | ((try lift_lets); intro v)
      | with_reducible refine State.capEnd_fr ?_
      | with_reducible refine Fr.running ?_ (fun t ht => ?_)
      | with_reducible refine Fr.ite ?_ ?_
      | with_reducible refine Fr.cond ?_ ?_
      | with_reducible assumption
      | (refine Fr.of_snd (by assumption) ?_)
      | (refine Fr.of_fst (by assumption) ?_)
      | split
      | (unfold v; split)
      | (unfold v; clear_value *; split)
      | (clear_value *; split)

end Sys2Proof.Machine
end

