-- ==== Sys2Proof/Laws/FrameMemory.lean ====
section
/-! SUPPORT. Frames of the operations of Machine/Memory.lean: one lemma each (Laws/Frame.lean). -/

namespace Sys2Proof.Machine

set_option Elab.async false

theorem State.pglResid_fr {κ : Nat} {s0 s : State} {n : ℕ} (hf_ : Fr κ s0 s) (hk_ : 0x80000000 &&& κ = 0x80000000 := by decide) :
    Fr κ s0 (State.pglResid s n).2 := by
  refine Fr.lift hf_ hk_ ?_
  clear hf_ hk_
  unfold State.pglResid
  have h0 := Fr.refl 0x80000000 s
  repeat' first
      | ((try lift_lets); intro v; refine_lift have hv : Fr 0x80000000 s v := ?_; ?_; clear_value v)
      | ((try lift_lets); intro v)
      | with_reducible refine State.freshNat_fr ?_
      | with_reducible refine Fr.ite ?_ ?_
      | with_reducible refine Fr.cond ?_ ?_
      | with_reducible assumption
      | (refine Fr.of_snd (by assumption) ?_)
      | (refine Fr.of_fst (by assumption) ?_)
      | split
      | (unfold v; split)
      | (unfold v; clear_value *; split)
      | (clear_value *; split)

theorem State.modIce_fr {κ : Nat} {s0 s : State} {f : Ice → Ice} (hf_ : Fr κ s0 s) (hk_ : 0x8000000 &&& κ = 0x8000000 := by decide) :
    Fr κ s0 (State.modIce s f) := by
  refine Fr.lift hf_ hk_ ?_
  clear hf_ hk_
  unfold State.modIce
  have h0 := Fr.refl 0x8000000 s
  repeat' first
      | ((try lift_lets); intro v; refine_lift have hv : Fr 0x8000000 s v := ?_; ?_; clear_value v)
      | ((try lift_lets); intro v)
      | with_reducible refine Fr.ite ?_ ?_
      | with_reducible refine Fr.cond ?_ ?_
      | with_reducible exact Fr.ice (by with_reducible assumption)
      | with_reducible assumption
      | with_reducible exact Fr.id_ (by with_reducible assumption)
      | (refine Fr.of_snd (by assumption) ?_)
      | (refine Fr.of_fst (by assumption) ?_)
      | split
      | (unfold v; split)
      | (unfold v; clear_value *; split)
      | (clear_value *; split)

theorem State.readsVoid_fr {κ : Nat} {s0 s : State} {n : Nat} (hf_ : Fr κ s0 s) (hk_ : 0x8000000 &&& κ = 0x8000000 := by decide) :
    Fr κ s0 (State.readsVoid s n) := by
  refine Fr.lift hf_ hk_ ?_
  clear hf_ hk_
  unfold State.readsVoid
  have h0 := Fr.refl 0x8000000 s
  repeat' first
      | ((try lift_lets); intro v; refine_lift have hv : Fr 0x8000000 s v := ?_; ?_; clear_value v)
      | ((try lift_lets); intro v)
      | with_reducible refine State.modIce_fr ?_
      | with_reducible refine Fr.ite ?_ ?_
      | with_reducible refine Fr.cond ?_ ?_
      | with_reducible assumption
      | with_reducible exact Fr.id_ (by with_reducible assumption)
      | (refine Fr.of_snd (by assumption) ?_)
      | (refine Fr.of_fst (by assumption) ?_)
      | split
      | (unfold v; split)
      | (unfold v; clear_value *; split)
      | (clear_value *; split)

theorem State.flightFree_fr {κ : Nat} {s0 s : State} {l : List (ℕ × Byte)} (hf_ : Fr κ s0 s) (hk_ : 0x80000020 &&& κ = 0x80000020 := by decide) :
    Fr κ s0 (State.flightFree s l) := by
  refine Fr.lift hf_ hk_ ?_
  clear hf_ hk_
  unfold State.flightFree
  have h0 := Fr.refl 0x80000020 s
  repeat' first
      | ((try lift_lets); intro v; refine_lift have hv : Fr 0x80000020 s v := ?_; ?_; clear_value v)
      | ((try lift_lets); intro v)
      | with_reducible refine State.freshBit_fr ?_
      | with_reducible refine State.setByte_fr ?_
      | with_reducible refine Fr.forEach ?_ (fun t a ht => ?_)
      | with_reducible refine Fr.ite ?_ ?_
      | with_reducible refine Fr.cond ?_ ?_
      | with_reducible assumption
      | (refine Fr.of_snd (by assumption) ?_)
      | (refine Fr.of_fst (by assumption) ?_)
      | split
      | (unfold v; split)
      | (unfold v; clear_value *; split)
      | (clear_value *; split)

theorem State.pglStop_fr {κ : Nat} {s0 s : State} {n : ℕ} (hf_ : Fr κ s0 s) (hk_ : 0x140000000000000000000000000000000000000000000000000000000000000008a000020 &&& κ = 0x140000000000000000000000000000000000000000000000000000000000000008a000020 := by decide) :
    Fr κ s0 (State.pglStop s n) := by
  refine Fr.lift hf_ hk_ ?_
  clear hf_ hk_
  unfold State.pglStop
  have h0 := Fr.refl 0x140000000000000000000000000000000000000000000000000000000000000008a000020 s
  repeat' first
      | ((try lift_lets); intro v; refine_lift have hv : Fr 0x140000000000000000000000000000000000000000000000000000000000000008a000020 s v := ?_; ?_; clear_value v)
      | ((try lift_lets); intro v)
      | with_reducible refine State.readsVoid_fr ?_
      | with_reducible refine State.capEnd_fr ?_
      | with_reducible refine State.flightFree_fr ?_
      | with_reducible refine State.modPch_fr ?_
      | with_reducible refine State.pglResid_fr ?_
      | with_reducible refine State.set_fr ?_
      | with_reducible refine Fr.forEach ?_ (fun t a ht => ?_)
      | with_reducible refine Fr.ite ?_ ?_
      | with_reducible refine Fr.cond ?_ ?_
      | with_reducible assumption
      | (refine Fr.of_snd (by assumption) ?_)
      | (refine Fr.of_fst (by assumption) ?_)
      | split
      | (unfold v; split)
      | (unfold v; clear_value *; split)
      | (clear_value *; split)

theorem State.busError_fr {κ : Nat} {s0 s : State} {kind : ℕ} {ch : Option ℕ} {addr : ℕ} (hf_ : Fr κ s0 s) (hk_ : 0xc3c03000008004bc00000060000000000000000000000000000000000000024000aa01f420 &&& κ = 0xc3c03000008004bc00000060000000000000000000000000000000000000024000aa01f420 := by decide) :
    Fr κ s0 (State.busError s kind ch addr) := by
  refine Fr.lift hf_ hk_ ?_
  clear hf_ hk_
  unfold State.busError
  have h0 := Fr.refl 0xc3c03000008004bc00000060000000000000000000000000000000000000024000aa01f420 s
  repeat' first
      | ((try lift_lets); intro v; refine_lift have hv : Fr 0xc3c03000008004bc00000060000000000000000000000000000000000000024000aa01f420 s v := ?_; ?_; clear_value v)
      | ((try lift_lets); intro v)
      | with_reducible refine State.capEnd_fr ?_
      | with_reducible refine State.event_fr ?_
      | with_reducible refine State.faultOn_fr ?_
      | with_reducible refine State.modPgl_fr ?_
      | with_reducible refine State.pglStop_fr ?_
      | with_reducible refine State.set_fr ?_
      | with_reducible refine State.setB_fr ?_
      | with_reducible refine State.wr_fr ?_
      | with_reducible refine Fr.forEach ?_ (fun t a ht => ?_)
      | with_reducible refine Fr.ite ?_ ?_
      | with_reducible refine Fr.cond ?_ ?_
      | with_reducible assumption
      | (refine Fr.of_snd (by assumption) ?_)
      | (refine Fr.of_fst (by assumption) ?_)
      | split
      | (unfold v; split)
      | (unfold v; clear_value *; split)
      | (clear_value *; split)

theorem State.upset_fr {κ : Nat} {s0 s : State} {e : ℕ × Bool} (hf_ : Fr κ s0 s) (hk_ : 0xc0 &&& κ = 0xc0 := by decide) :
    Fr κ s0 (State.upset s e) := by
  refine Fr.lift hf_ hk_ ?_
  clear hf_ hk_
  unfold State.upset
  have h0 := Fr.refl 0xc0 s
  repeat' first
      | ((try lift_lets); intro v; refine_lift have hv : Fr 0xc0 s v := ?_; ?_; clear_value v)
      | ((try lift_lets); intro v)
      | with_reducible refine State.setEcc_fr ?_
      | with_reducible refine Fr.ite ?_ ?_
      | with_reducible refine Fr.cond ?_ ?_
      | with_reducible assumption
      | (refine Fr.of_snd (by assumption) ?_)
      | (refine Fr.of_fst (by assumption) ?_)
      | split
      | (unfold v; split)
      | (unfold v; clear_value *; split)
      | (clear_value *; split)

theorem State.upsets_fr {κ : Nat} {s0 s : State} {l : List (ℕ × Bool)} (hf_ : Fr κ s0 s) (hk_ : 0xc0 &&& κ = 0xc0 := by decide) :
    Fr κ s0 (State.upsets s l) := by
  refine Fr.lift hf_ hk_ ?_
  clear hf_ hk_
  unfold State.upsets
  have h0 := Fr.refl 0xc0 s
  repeat' first
      | ((try lift_lets); intro v; refine_lift have hv : Fr 0xc0 s v := ?_; ?_; clear_value v)
      | ((try lift_lets); intro v)
      | with_reducible refine State.upset_fr ?_
      | with_reducible refine Fr.forEach ?_ (fun t a ht => ?_)
      | with_reducible refine Fr.ite ?_ ?_
      | with_reducible refine Fr.cond ?_ ?_
      | with_reducible assumption
      | (refine Fr.of_snd (by assumption) ?_)
      | (refine Fr.of_fst (by assumption) ?_)
      | split
      | (unfold v; split)
      | (unfold v; clear_value *; split)
      | (clear_value *; split)

theorem State.wordZero_fr {κ : Nat} {s0 s : State} {w : ℕ} (hf_ : Fr κ s0 s) (hk_ : 0xc2c01000008004bc000000400000000000000000000000000000000000000240002201f5e0 &&& κ = 0xc2c01000008004bc000000400000000000000000000000000000000000000240002201f5e0 := by decide) :
    Fr κ s0 (State.wordZero s w) := by
  refine Fr.lift hf_ hk_ ?_
  clear hf_ hk_
  unfold State.wordZero
  have h0 := Fr.refl 0xc2c01000008004bc000000400000000000000000000000000000000000000240002201f5e0 s
  repeat' first
      | ((try lift_lets); intro v; refine_lift have hv : Fr 0xc2c01000008004bc000000400000000000000000000000000000000000000240002201f5e0 s v := ?_; ?_; clear_value v)
      | ((try lift_lets); intro v)
      | with_reducible refine State.eccClear_fr ?_
      | with_reducible refine State.fault_fr ?_
      | with_reducible refine State.setBytes_fr ?_
      | with_reducible refine Fr.ite ?_ ?_
      | with_reducible refine Fr.cond ?_ ?_
      | with_reducible assumption
      | (refine Fr.of_snd (by assumption) ?_)
      | (refine Fr.of_fst (by assumption) ?_)
      | split
      | (unfold v; split)
      | (unfold v; clear_value *; split)
      | (clear_value *; split)

theorem State.stageLost_fr {κ : Nat} {s0 s : State} {w : Nat} (hf_ : Fr κ s0 s) (hk_ : 0x2c01000000000800000004000000000000000000000000000000000000002418002018400 &&& κ = 0x2c01000000000800000004000000000000000000000000000000000000002418002018400 := by decide) :
    Fr κ s0 (State.stageLost s w) := by
  refine Fr.lift hf_ hk_ ?_
  clear hf_ hk_
  unfold State.stageLost
  have h0 := Fr.refl 0x2c01000000000800000004000000000000000000000000000000000000002418002018400 s
  repeat' first
      | ((try lift_lets); intro v; refine_lift have hv : Fr 0x2c01000000000800000004000000000000000000000000000000000000002418002018400 s v := ?_; ?_; clear_value v)
      | ((try lift_lets); intro v)
      | with_reducible refine State.event_fr ?_
      | with_reducible refine State.set_fr ?_
      | with_reducible refine Fr.ite ?_ ?_
      | with_reducible refine Fr.cond ?_ ?_
      | with_reducible assumption
      | with_reducible exact Fr.id_ (by with_reducible assumption)
      | (refine Fr.of_snd (by assumption) ?_)
      | (refine Fr.of_fst (by assumption) ?_)
      | split
      | (unfold v; split)
      | (unfold v; clear_value *; split)
      | (clear_value *; split)

theorem State.doubleFound_fr {κ : Nat} {s0 s : State} {ch : Option ℕ} {w : ℕ} (hf_ : Fr κ s0 s) (hk_ : 0xc3c03000008004bc1c0004600000000020400000000000000000000000001a4180aa07f5e0 &&& κ = 0xc3c03000008004bc1c0004600000000020400000000000000000000000001a4180aa07f5e0 := by decide) :
    Fr κ s0 (State.doubleFound s ch w) := by
  refine Fr.lift hf_ hk_ ?_
  clear hf_ hk_
  unfold State.doubleFound
  have h0 := Fr.refl 0xc3c03000008004bc1c0004600000000020400000000000000000000000001a4180aa07f5e0 s
  repeat' first
      | ((try lift_lets); intro v; refine_lift have hv : Fr 0xc3c03000008004bc1c0004600000000020400000000000000000000000001a4180aa07f5e0 s v := ?_; ?_; clear_value v)
      | ((try lift_lets); intro v)
      | with_reducible refine State.stageLost_fr ?_
      | with_reducible refine State.axisFault_fr ?_
      | with_reducible refine State.busError_fr ?_
      | with_reducible refine State.eccFound_fr ?_
      | with_reducible refine State.fatal_fr ?_
      | with_reducible refine State.fault_fr ?_
      | with_reducible refine State.inc_fr ?_
      | with_reducible refine State.modFab_fr ?_
      | with_reducible refine State.set_fr ?_
      | with_reducible refine State.wordZero_fr ?_
      | with_reducible refine Fr.ite ?_ ?_
      | with_reducible refine Fr.cond ?_ ?_
      | with_reducible assumption
      | (refine Fr.of_snd (by assumption) ?_)
      | (refine Fr.of_fst (by assumption) ?_)
      | split
      | (unfold v; split)
      | (unfold v; clear_value *; split)
      | (clear_value *; split)

theorem State.singleFound_fr {κ : Nat} {s0 s : State} {w : ℕ} (hf_ : Fr κ s0 s) (hk_ : 0x1000000000000000000000000000000000000000000000080000000001c0 &&& κ = 0x1000000000000000000000000000000000000000000000080000000001c0 := by decide) :
    Fr κ s0 (State.singleFound s w) := by
  refine Fr.lift hf_ hk_ ?_
  clear hf_ hk_
  unfold State.singleFound
  have h0 := Fr.refl 0x1000000000000000000000000000000000000000000000080000000001c0 s
  repeat' first
      | ((try lift_lets); intro v; refine_lift have hv : Fr 0x1000000000000000000000000000000000000000000000080000000001c0 s v := ?_; ?_; clear_value v)
      | ((try lift_lets); intro v)
      | with_reducible refine State.eccClear_fr ?_
      | with_reducible refine State.inc_fr ?_
      | with_reducible refine Fr.ite ?_ ?_
      | with_reducible refine Fr.cond ?_ ?_
      | with_reducible assumption
      | (refine Fr.of_snd (by assumption) ?_)
      | (refine Fr.of_fst (by assumption) ?_)
      | split
      | (unfold v; split)
      | (unfold v; clear_value *; split)
      | (clear_value *; split)

theorem State.checkWord32_fr {κ : Nat} {s0 s : State} {ch : Option ℕ} {w : ℕ} (hf_ : Fr κ s0 s) (hk_ : 0xc3c03000008004bc1c0004600000000020400000000000000000000000001a4180aa07f5e0 &&& κ = 0xc3c03000008004bc1c0004600000000020400000000000000000000000001a4180aa07f5e0 := by decide) :
    Fr κ s0 (State.checkWord32 s ch w).2 := by
  refine Fr.lift hf_ hk_ ?_
  clear hf_ hk_
  unfold State.checkWord32
  have h0 := Fr.refl 0xc3c03000008004bc1c0004600000000020400000000000000000000000001a4180aa07f5e0 s
  repeat' first
      | ((try lift_lets); intro v; refine_lift have hv : Fr 0xc3c03000008004bc1c0004600000000020400000000000000000000000001a4180aa07f5e0 s v := ?_; ?_; clear_value v)
      | ((try lift_lets); intro v)
      | with_reducible refine State.doubleFound_fr ?_
      | with_reducible refine State.singleFound_fr ?_
      | with_reducible refine Fr.ite ?_ ?_
      | with_reducible refine Fr.cond ?_ ?_
      | with_reducible assumption
      | (refine Fr.of_snd (by assumption) ?_)
      | (refine Fr.of_fst (by assumption) ?_)
      | split
      | (unfold v; split)
      | (unfold v; clear_value *; split)
      | (clear_value *; split)

theorem State.checkLines_fr {κ : Nat} {s0 s : State} {ch : Option ℕ} {l : List ℕ} (hf_ : Fr κ s0 s) (hk_ : 0xc3c03000008004bc1c0004600000000020400000000000000000000000001a4180aa07f5e0 &&& κ = 0xc3c03000008004bc1c0004600000000020400000000000000000000000001a4180aa07f5e0 := by decide) :
    Fr κ s0 (State.checkLines s ch l).2 := by
  refine Fr.lift hf_ hk_ ?_
  clear hf_ hk_ s0
  revert s
  induction l generalizing ch with
  | nil =>
    intro s
    unfold State.checkLines
    (
    have h0 := Fr.refl 0xc3c03000008004bc1c0004600000000020400000000000000000000000001a4180aa07f5e0 s
    repeat' first
        | ((try lift_lets); intro v; refine_lift have hv : Fr 0xc3c03000008004bc1c0004600000000020400000000000000000000000001a4180aa07f5e0 s v := ?_; ?_; clear_value v)
        | ((try lift_lets); intro v)
        | with_reducible refine State.checkWord32_fr ?_
        | with_reducible refine Fr.ite ?_ ?_
        | with_reducible refine Fr.cond ?_ ?_
        | with_reducible assumption
        | (refine Fr.of_snd (by assumption) ?_)
        | (refine Fr.of_fst (by assumption) ?_)
        | split
        | (unfold v; split)
        | (unfold v; clear_value *; split)
        | (clear_value *; split)
        | (injections; subst_vars))
  | cons c_ r_ ih =>
    intro s
    unfold State.checkLines
    (
    have h0 := Fr.refl 0xc3c03000008004bc1c0004600000000020400000000000000000000000001a4180aa07f5e0 s
    repeat' first
        | ((try lift_lets); intro v; refine_lift have hv : Fr 0xc3c03000008004bc1c0004600000000020400000000000000000000000001a4180aa07f5e0 s v := ?_; ?_; clear_value v)
        | ((try lift_lets); intro v)
        | with_reducible refine State.checkWord32_fr ?_
        | with_reducible refine Fr.trans ?_ ih
        | with_reducible refine Fr.ite ?_ ?_
        | with_reducible refine Fr.cond ?_ ?_
        | with_reducible assumption
        | (refine Fr.of_snd (by assumption) ?_)
        | (refine Fr.of_fst (by assumption) ?_)
        | split
        | (unfold v; split)
        | (unfold v; clear_value *; split)
        | (clear_value *; split)
        | (injections; subst_vars))

theorem State.readMem_fr {κ : Nat} {s0 s : State} {ch : Option ℕ} {a : ℕ} {n : ℕ} (hf_ : Fr κ s0 s) (hk_ : 0xc3c03000008004bc1c0004600000000020400000000000000000000000001a4180aa07f5e0 &&& κ = 0xc3c03000008004bc1c0004600000000020400000000000000000000000001a4180aa07f5e0 := by decide) :
    Fr κ s0 (State.readMem s ch a n).2 := by
  refine Fr.lift hf_ hk_ ?_
  clear hf_ hk_
  unfold State.readMem
  have h0 := Fr.refl 0xc3c03000008004bc1c0004600000000020400000000000000000000000001a4180aa07f5e0 s
  repeat' first
      | ((try lift_lets); intro v; refine_lift have hv : Fr 0xc3c03000008004bc1c0004600000000020400000000000000000000000001a4180aa07f5e0 s v := ?_; ?_; clear_value v)
      | ((try lift_lets); intro v)
      | with_reducible refine State.checkLines_fr ?_
      | with_reducible refine Fr.ite ?_ ?_
      | with_reducible refine Fr.cond ?_ ?_
      | with_reducible assumption
      | (refine Fr.of_snd (by assumption) ?_)
      | (refine Fr.of_fst (by assumption) ?_)
      | split
      | (unfold v; split)
      | (unfold v; clear_value *; split)
      | (clear_value *; split)

theorem State.writeLine_fr {κ : Nat} {s0 s : State} {ch : Option ℕ} {a : ℕ} {bs : List Byte} (hf_ : Fr κ s0 s) (hk_ : 0xc3c03000008004bc1c0004600000000020400000000000000000000000001a4180aa07f5e0 &&& κ = 0xc3c03000008004bc1c0004600000000020400000000000000000000000001a4180aa07f5e0 := by decide) :
    Fr κ s0 (State.writeLine s ch a bs).2 := by
  refine Fr.lift hf_ hk_ ?_
  clear hf_ hk_
  unfold State.writeLine
  have h0 := Fr.refl 0xc3c03000008004bc1c0004600000000020400000000000000000000000001a4180aa07f5e0 s
  repeat' first
      | ((try lift_lets); intro v; refine_lift have hv : Fr 0xc3c03000008004bc1c0004600000000020400000000000000000000000001a4180aa07f5e0 s v := ?_; ?_; clear_value v)
      | ((try lift_lets); intro v)
      | with_reducible refine State.checkWord32_fr ?_
      | with_reducible refine State.eccClear_fr ?_
      | with_reducible refine State.setBytes_fr ?_
      | with_reducible refine Fr.ite ?_ ?_
      | with_reducible refine Fr.cond ?_ ?_
      | with_reducible assumption
      | (refine Fr.of_snd (by assumption) ?_)
      | (refine Fr.of_fst (by assumption) ?_)
      | split
      | (unfold v; split)
      | (unfold v; clear_value *; split)
      | (clear_value *; split)

theorem State.writeMemN_fr {κ : Nat} {s0 s : State} {fuel : ℕ} {ch : Option ℕ} {a : ℕ} {bs : List Byte} (hf_ : Fr κ s0 s) (hk_ : 0xc3c03000008004bc1c0004600000000020400000000000000000000000001a4180aa07f5e0 &&& κ = 0xc3c03000008004bc1c0004600000000020400000000000000000000000001a4180aa07f5e0 := by decide) :
    Fr κ s0 (State.writeMemN s fuel ch a bs).2 := by
  refine Fr.lift hf_ hk_ ?_
  clear hf_ hk_ s0
  revert s
  induction fuel generalizing ch a bs with
  | zero =>
    intro s
    unfold State.writeMemN
    (
    have h0 := Fr.refl 0xc3c03000008004bc1c0004600000000020400000000000000000000000001a4180aa07f5e0 s
    repeat' first
        | ((try lift_lets); intro v; refine_lift have hv : Fr 0xc3c03000008004bc1c0004600000000020400000000000000000000000001a4180aa07f5e0 s v := ?_; ?_; clear_value v)
        | ((try lift_lets); intro v)
        | with_reducible refine State.writeLine_fr ?_
        | with_reducible refine Fr.ite ?_ ?_
        | with_reducible refine Fr.cond ?_ ?_
        | with_reducible assumption
        | (refine Fr.of_snd (by assumption) ?_)
        | (refine Fr.of_fst (by assumption) ?_)
        | split
        | (unfold v; split)
        | (unfold v; clear_value *; split)
        | (clear_value *; split)
        | (injections; subst_vars))
  | succ n_ ih =>
    intro s
    unfold State.writeMemN
    (
    have h0 := Fr.refl 0xc3c03000008004bc1c0004600000000020400000000000000000000000001a4180aa07f5e0 s
    repeat' first
        | ((try lift_lets); intro v; refine_lift have hv : Fr 0xc3c03000008004bc1c0004600000000020400000000000000000000000001a4180aa07f5e0 s v := ?_; ?_; clear_value v)
        | ((try lift_lets); intro v)
        | with_reducible refine State.writeLine_fr ?_
        | with_reducible refine Fr.trans ?_ ih
        | with_reducible refine Fr.ite ?_ ?_
        | with_reducible refine Fr.cond ?_ ?_
        | with_reducible assumption
        | (refine Fr.of_snd (by assumption) ?_)
        | (refine Fr.of_fst (by assumption) ?_)
        | split
        | (unfold v; split)
        | (unfold v; clear_value *; split)
        | (clear_value *; split)
        | (injections; subst_vars))

theorem State.writeMem_fr {κ : Nat} {s0 s : State} {ch : Option ℕ} {a : ℕ} {bs : List Byte} (hf_ : Fr κ s0 s) (hk_ : 0xc3c03000008004bc1c0004600000000020400000000000000000000000001a4180aa07f5e0 &&& κ = 0xc3c03000008004bc1c0004600000000020400000000000000000000000001a4180aa07f5e0 := by decide) :
    Fr κ s0 (State.writeMem s ch a bs).2 := by
  refine Fr.lift hf_ hk_ ?_
  clear hf_ hk_
  unfold State.writeMem
  have h0 := Fr.refl 0xc3c03000008004bc1c0004600000000020400000000000000000000000001a4180aa07f5e0 s
  repeat' first
      | ((try lift_lets); intro v; refine_lift have hv : Fr 0xc3c03000008004bc1c0004600000000020400000000000000000000000001a4180aa07f5e0 s v := ?_; ?_; clear_value v)
      | ((try lift_lets); intro v)
      | with_reducible refine State.writeMemN_fr ?_
      | with_reducible refine Fr.ite ?_ ?_
      | with_reducible refine Fr.cond ?_ ?_
      | with_reducible assumption
      | (refine Fr.of_snd (by assumption) ?_)
      | (refine Fr.of_fst (by assumption) ?_)
      | split
      | (unfold v; split)
      | (unfold v; clear_value *; split)
      | (clear_value *; split)

theorem State.svcWrite_fr {κ : Nat} {s0 s : State} {a : Nat} {ws : List Word} (hf_ : Fr κ s0 s) (hk_ : 0xc3c03000008004bc1c0004600000000020400000000000000000000000001a4180aa07f5e0 &&& κ = 0xc3c03000008004bc1c0004600000000020400000000000000000000000001a4180aa07f5e0 := by decide) :
    Fr κ s0 (State.svcWrite s a ws) := by
  refine Fr.lift hf_ hk_ ?_
  clear hf_ hk_
  unfold State.svcWrite
  have h0 := Fr.refl 0xc3c03000008004bc1c0004600000000020400000000000000000000000001a4180aa07f5e0 s
  repeat' first
      | ((try lift_lets); intro v; refine_lift have hv : Fr 0xc3c03000008004bc1c0004600000000020400000000000000000000000001a4180aa07f5e0 s v := ?_; ?_; clear_value v)
      | ((try lift_lets); intro v)
      | with_reducible refine State.writeMem_fr ?_
      | with_reducible refine Fr.ite ?_ ?_
      | with_reducible refine Fr.cond ?_ ?_
      | with_reducible assumption
      | with_reducible exact Fr.id_ (by with_reducible assumption)
      | (refine Fr.of_snd (by assumption) ?_)
      | (refine Fr.of_fst (by assumption) ?_)
      | split
      | (unfold v; split)
      | (unfold v; clear_value *; split)
      | (clear_value *; split)

theorem State.writeOver_fr {κ : Nat} {s0 s : State} {a : Nat} {bs : List Byte} (hf_ : Fr κ s0 s) (hk_ : 0xc3c03000008004bc1c0004600000000020400000000000000000000000001a4180aa07f5e0 &&& κ = 0xc3c03000008004bc1c0004600000000020400000000000000000000000001a4180aa07f5e0 := by decide) :
    Fr κ s0 (State.writeOver s a bs) := by
  refine Fr.lift hf_ hk_ ?_
  clear hf_ hk_
  unfold State.writeOver
  have h0 := Fr.refl 0xc3c03000008004bc1c0004600000000020400000000000000000000000001a4180aa07f5e0 s
  repeat' first
      | ((try lift_lets); intro v; refine_lift have hv : Fr 0xc3c03000008004bc1c0004600000000020400000000000000000000000001a4180aa07f5e0 s v := ?_; ?_; clear_value v)
      | ((try lift_lets); intro v)
      | with_reducible refine Fr.forEach ?_ (fun t a ht => ?_)
      | with_reducible refine State.writeLine_fr ?_
      | with_reducible refine Fr.ite ?_ ?_
      | with_reducible refine Fr.cond ?_ ?_
      | with_reducible assumption
      | with_reducible exact Fr.id_ (by with_reducible assumption)
      | (refine Fr.of_snd (by assumption) ?_)
      | (refine Fr.of_fst (by assumption) ?_)
      | split
      | (unfold v; split)
      | (unfold v; clear_value *; split)
      | (clear_value *; split)

theorem State.copyOver_fr {κ : Nat} {s0 s : State} {dst : Nat} {src : Nat} {n : Nat} (hf_ : Fr κ s0 s) (hk_ : 0xc3c03000008004bc1c0004600000000020400000000000000000000000001a4180aa07f5e0 &&& κ = 0xc3c03000008004bc1c0004600000000020400000000000000000000000001a4180aa07f5e0 := by decide) :
    Fr κ s0 (State.copyOver s dst src n) := by
  refine Fr.lift hf_ hk_ ?_
  clear hf_ hk_
  unfold State.copyOver
  have h0 := Fr.refl 0xc3c03000008004bc1c0004600000000020400000000000000000000000001a4180aa07f5e0 s
  repeat' first
      | ((try lift_lets); intro v; refine_lift have hv : Fr 0xc3c03000008004bc1c0004600000000020400000000000000000000000001a4180aa07f5e0 s v := ?_; ?_; clear_value v)
      | ((try lift_lets); intro v)
      | with_reducible refine State.checkWord32_fr ?_
      | with_reducible refine Fr.forEach ?_ (fun t a ht => ?_)
      | with_reducible refine State.readMem_fr ?_
      | with_reducible refine State.writeOver_fr ?_
      | with_reducible refine Fr.ite ?_ ?_
      | with_reducible refine Fr.cond ?_ ?_
      | with_reducible assumption
      | with_reducible exact Fr.id_ (by with_reducible assumption)
      | (refine Fr.of_snd (by assumption) ?_)
      | (refine Fr.of_fst (by assumption) ?_)
      | split
      | (unfold v; split)
      | (unfold v; clear_value *; split)
      | (clear_value *; split)

end Sys2Proof.Machine
end

