-- ==== Sys2Proof/Laws/FrameLoops.lean ====
section
/-! SUPPORT. Frames of the operations of Machine/Loops.lean: one lemma each (Laws/Frame.lean). -/

namespace Sys2Proof.Machine

set_option Elab.async false

theorem State.bankSwap_fr {κ : Nat} {s0 s : State} {x : Axis} {c : ℕ} (hf_ : Fr κ s0 s) (hk_ : 0x11000000000000000000000000000000000000010 &&& κ = 0x11000000000000000000000000000000000000010 := by decide) :
    Fr κ s0 (State.bankSwap s x c) := by
  refine Fr.lift hf_ hk_ ?_
  clear hf_ hk_
  unfold State.bankSwap
  have h0 := Fr.refl 0x11000000000000000000000000000000000000010 s
  repeat' first
      | ((try lift_lets); intro v; refine_lift have hv : Fr 0x11000000000000000000000000000000000000010 s v := ?_; ?_; clear_value v)
      | ((try lift_lets); intro v)
      | with_reducible refine State.setBit_fr ?_
      | with_reducible refine State.wr_fr ?_
      | with_reducible refine State.wrSh_fr ?_
      | with_reducible refine Fr.forEach ?_ (fun t a ht => ?_)
      | with_reducible refine Fr.ite ?_ ?_
      | with_reducible refine Fr.cond ?_ ?_
      | with_reducible assumption
      | (refine Fr.of_snd (by assumption) ?_)
      | (refine Fr.of_fst (by assumption) ?_)
      | split
      | (unfold v; split)
      | (unfold v; clear_value *; split)
      | (clear_value *; split)

theorem State.swapNow_fr {κ : Nat} {s0 s : State} {x : Axis} (hf_ : Fr κ s0 s) (hk_ : 0x2c01000000000800000004000000000019000000000000000000000000002400002018410 &&& κ = 0x2c01000000000800000004000000000019000000000000000000000000002400002018410 := by decide) :
    Fr κ s0 (State.swapNow s x) := by
  refine Fr.lift hf_ hk_ ?_
  clear hf_ hk_
  unfold State.swapNow
  have h0 := Fr.refl 0x2c01000000000800000004000000000019000000000000000000000000002400002018410 s
  repeat' first
      | ((try lift_lets); intro v; refine_lift have hv : Fr 0x2c01000000000800000004000000000019000000000000000000000000002400002018410 s v := ?_; ?_; clear_value v)
      | ((try lift_lets); intro v)
      | with_reducible refine State.bankSwap_fr ?_
      | with_reducible refine State.evx_fr ?_
      | with_reducible refine State.keepBanks_fr ?_
      | with_reducible refine State.modSv_fr ?_
      | with_reducible refine State.set_fr ?_
      | with_reducible refine State.setBit_fr ?_
      | with_reducible refine Fr.forEach ?_ (fun t a ht => ?_)
      | with_reducible refine Fr.ite ?_ ?_
      | with_reducible refine Fr.cond ?_ ?_
      | with_reducible assumption
      | (refine Fr.of_snd (by assumption) ?_)
      | (refine Fr.of_fst (by assumption) ?_)
      | split
      | (unfold v; split)
      | (unfold v; clear_value *; split)
      | (clear_value *; split)

theorem State.swapRequest_fr {κ : Nat} {s0 s : State} {by_ : Writer} {x : Axis} {w : Word} (hf_ : Fr κ s0 s) (hk_ : 0x2c01000000000800000004000000000019000000000000000000000000002400042018410 &&& κ = 0x2c01000000000800000004000000000019000000000000000000000000002400042018410 := by decide) :
    Fr κ s0 (State.swapRequest s by_ x w) := by
  refine Fr.lift hf_ hk_ ?_
  clear hf_ hk_
  unfold State.swapRequest
  have h0 := Fr.refl 0x2c01000000000800000004000000000019000000000000000000000000002400042018410 s
  repeat' first
      | ((try lift_lets); intro v; refine_lift have hv : Fr 0x2c01000000000800000004000000000019000000000000000000000000002400042018410 s v := ?_; ?_; clear_value v)
      | ((try lift_lets); intro v)
      | with_reducible refine State.note_fr ?_
      | with_reducible refine State.setBit_fr ?_
      | with_reducible refine State.swapNow_fr ?_
      | with_reducible refine Fr.forEach ?_ (fun t a ht => ?_)
      | with_reducible refine Fr.ite ?_ ?_
      | with_reducible refine Fr.cond ?_ ?_
      | with_reducible assumption
      | (refine Fr.of_snd (by assumption) ?_)
      | (refine Fr.of_fst (by assumption) ?_)
      | split
      | (unfold v; split)
      | (unfold v; clear_value *; split)
      | (clear_value *; split)

theorem execSwapRequest_fr {s t_ : State} {x : Axis} {w : Word} (e_ : execSwapRequest x w s = .next t_) : Fr 0x2c01000000000800000004000000000019000000000000000000000000002400042018410 s t_ := by
  unfold execSwapRequest at e_
  obtain rfl := Host.Outcome.next.inj e_
  clear e_
  have h0 := Fr.refl 0x2c01000000000800000004000000000019000000000000000000000000002400042018410 s
  repeat' first
      | ((try lift_lets); intro v; refine_lift have hv : Fr 0x2c01000000000800000004000000000019000000000000000000000000002400042018410 s v := ?_; ?_; clear_value v)
      | ((try lift_lets); intro v)
      | with_reducible refine State.swapRequest_fr ?_
      | with_reducible refine Fr.running ?_ (fun t ht => ?_)
      | with_reducible refine Fr.ite ?_ ?_
      | with_reducible refine Fr.cond ?_ ?_
      | with_reducible assumption
      | (refine Fr.of_snd (by assumption) ?_)
      | (refine Fr.of_fst (by assumption) ?_)
      | split
      | (unfold v; split)
      | (unfold v; clear_value *; split)
      | (clear_value *; split)

theorem execCompensatorSwap_fr {s t_ : State} {x : Axis} (e_ : execCompensatorSwap x s = .next t_) : Fr 0x2c01000000000800000004000000000019000000000000000000000000002400002018410 s t_ := by
  unfold execCompensatorSwap at e_
  obtain rfl := Host.Outcome.next.inj e_
  clear e_
  have h0 := Fr.refl 0x2c01000000000800000004000000000019000000000000000000000000002400002018410 s
  repeat' first
      | ((try lift_lets); intro v; refine_lift have hv : Fr 0x2c01000000000800000004000000000019000000000000000000000000002400002018410 s v := ?_; ?_; clear_value v)
      | ((try lift_lets); intro v)
      | with_reducible refine State.swapNow_fr ?_
      | with_reducible refine Fr.ite ?_ ?_
      | with_reducible refine Fr.cond ?_ ?_
      | with_reducible assumption
      | (refine Fr.of_snd (by assumption) ?_)
      | (refine Fr.of_fst (by assumption) ?_)
      | split
      | (unfold v; split)
      | (unfold v; clear_value *; split)
      | (clear_value *; split)

theorem State.takeDerived_fr {κ : Nat} {s0 s : State} {x : Axis} (hf_ : Fr κ s0 s) (hk_ : 0x2c01000000000800000004000000000011000000000000000000000000002400002018400 &&& κ = 0x2c01000000000800000004000000000011000000000000000000000000002400002018400 := by decide) :
    Fr κ s0 (State.takeDerived s x) := by
  refine Fr.lift hf_ hk_ ?_
  clear hf_ hk_
  unfold State.takeDerived
  have h0 := Fr.refl 0x2c01000000000800000004000000000011000000000000000000000000002400002018400 s
  repeat' first
      | ((try lift_lets); intro v; refine_lift have hv : Fr 0x2c01000000000800000004000000000011000000000000000000000000002400002018400 s v := ?_; ?_; clear_value v)
      | ((try lift_lets); intro v)
      | with_reducible refine State.derivedSwap_fr ?_
      | with_reducible refine State.bankTake_fr ?_
      | with_reducible refine State.evx_fr ?_
      | with_reducible refine State.modSv_fr ?_
      | with_reducible refine State.set_fr ?_
      | with_reducible refine State.setBit_fr ?_
      | with_reducible refine Fr.forEach ?_ (fun t a ht => ?_)
      | with_reducible refine Fr.ite ?_ ?_
      | with_reducible refine Fr.cond ?_ ?_
      | with_reducible assumption
      | (refine Fr.of_snd (by assumption) ?_)
      | (refine Fr.of_fst (by assumption) ?_)
      | split
      | (unfold v; split)
      | (unfold v; clear_value *; split)
      | (clear_value *; split)

theorem State.bankWrite_fr {κ : Nat} {s0 s : State} {by_ : Writer} {x : Axis} {c : ℕ} {i : ℕ} {w : Word} (hf_ : Fr κ s0 s) (hk_ : 0x40000010 &&& κ = 0x40000010 := by decide) :
    Fr κ s0 (State.bankWrite s by_ x c i w) := by
  refine Fr.lift hf_ hk_ ?_
  clear hf_ hk_
  unfold State.bankWrite
  have h0 := Fr.refl 0x40000010 s
  repeat' first
      | ((try lift_lets); intro v; refine_lift have hv : Fr 0x40000010 s v := ?_; ?_; clear_value v)
      | ((try lift_lets); intro v)
      | with_reducible refine State.expert_fr ?_ (fun t ht => ?_)
      | with_reducible refine State.wrSh_fr ?_
      | with_reducible refine Fr.ite ?_ ?_
      | with_reducible refine Fr.cond ?_ ?_
      | with_reducible assumption
      | (refine Fr.of_snd (by assumption) ?_)
      | (refine Fr.of_fst (by assumption) ?_)
      | split
      | (unfold v; split)
      | (unfold v; clear_value *; split)
      | (clear_value *; split)

theorem State.loopTake_fr {κ : Nat} {s0 s : State} {x : Axis} (hf_ : Fr κ s0 s) (hk_ : 0xc0000000000000000000000000000000000000000 &&& κ = 0xc0000000000000000000000000000000000000000 := by decide) :
    Fr κ s0 (State.loopTake s x) := by
  refine Fr.lift hf_ hk_ ?_
  clear hf_ hk_
  unfold State.loopTake
  unfold loopEnFlds
  have h0 := Fr.refl 0xc0000000000000000000000000000000000000000 s
  repeat' first
      | ((try lift_lets); intro v; refine_lift have hv : Fr 0xc0000000000000000000000000000000000000000 s v := ?_; ?_; clear_value v)
      | ((try lift_lets); intro v)
      | with_reducible refine State.take_fr ?_
      | with_reducible refine Fr.forEachFld ?_ (fun t f hf ht => ?_)
      | with_reducible refine Fr.forEach ?_ (fun t a ht => ?_)
      | with_reducible refine Fr.ite ?_ ?_
      | with_reducible refine Fr.cond ?_ ?_
      | with_reducible assumption
      | (refine Fr.of_snd (by assumption) ?_)
      | (refine Fr.of_fst (by assumption) ?_)
      | split
      | (unfold v; split)
      | (unfold v; clear_value *; split)
      | (clear_value *; split)

theorem State.loopWrite_fr {κ : Nat} {s0 s : State} {by_ : Writer} {x : Axis} {cur : Bool} {w : Word} (hf_ : Fr κ s0 s) (hk_ : 0xc0000000000000000000000000000000040000010 &&& κ = 0xc0000000000000000000000000000000040000010 := by decide) :
    Fr κ s0 (State.loopWrite s by_ x cur w) := by
  refine Fr.lift hf_ hk_ ?_
  clear hf_ hk_
  unfold State.loopWrite
  have h0 := Fr.refl 0xc0000000000000000000000000000000040000010 s
  repeat' first
      | ((try lift_lets); intro v; refine_lift have hv : Fr 0xc0000000000000000000000000000000040000010 s v := ?_; ?_; clear_value v)
      | ((try lift_lets); intro v)
      | with_reducible refine State.expert_fr ?_ (fun t ht => ?_)
      | with_reducible refine State.loopTake_fr ?_
      | with_reducible refine State.needs_fr ?_ (fun t ht => ?_)
      | with_reducible refine State.setSh_fr ?_
      | with_reducible refine Fr.forEach ?_ (fun t a ht => ?_)
      | with_reducible refine Fr.ite ?_ ?_
      | with_reducible refine Fr.cond ?_ ?_
      | with_reducible assumption
      | (refine Fr.of_snd (by assumption) ?_)
      | (refine Fr.of_fst (by assumption) ?_)
      | split
      | (unfold v; split)
      | (unfold v; clear_value *; split)
      | (clear_value *; split)

theorem execLoopEnableWrite_fr {s t_ : State} {x : Axis} {cur : Bool} {w : Word} (e_ : execLoopEnableWrite x cur w s = .next t_) : Fr 0xc0000000000000000000000000000000040000010 s t_ := by
  unfold execLoopEnableWrite at e_
  obtain rfl := Host.Outcome.next.inj e_
  clear e_
  have h0 := Fr.refl 0xc0000000000000000000000000000000040000010 s
  repeat' first
      | ((try lift_lets); intro v; refine_lift have hv : Fr 0xc0000000000000000000000000000000040000010 s v := ?_; ?_; clear_value v)
      | ((try lift_lets); intro v)
      | with_reducible refine State.loopWrite_fr ?_
      | with_reducible refine Fr.running ?_ (fun t ht => ?_)
      | with_reducible refine Fr.ite ?_ ?_
      | with_reducible refine Fr.cond ?_ ?_
      | with_reducible assumption
      | (refine Fr.of_snd (by assumption) ?_)
      | (refine Fr.of_fst (by assumption) ?_)
      | split
      | (unfold v; split)
      | (unfold v; clear_value *; split)
      | (clear_value *; split)

theorem State.homeNow_fr {κ : Nat} {s0 s : State} {x : Axis} (hf_ : Fr κ s0 s) (hk_ : 0x2c010000000008000000040003c0200000000000000000000000000000002400002018400 &&& κ = 0x2c010000000008000000040003c0200000000000000000000000000000002400002018400 := by decide) :
    Fr κ s0 (State.homeNow s x) := by
  refine Fr.lift hf_ hk_ ?_
  clear hf_ hk_
  unfold State.homeNow
  have h0 := Fr.refl 0x2c010000000008000000040003c0200000000000000000000000000000002400002018400 s
  repeat' first
      | ((try lift_lets); intro v; refine_lift have hv : Fr 0x2c010000000008000000040003c0200000000000000000000000000000002400002018400 s v := ?_; ?_; clear_value v)
      | ((try lift_lets); intro v)
      | with_reducible refine State.inPosJudge_fr ?_
      | with_reducible refine State.modSv_fr ?_
      | with_reducible refine State.setW_fr ?_
      | with_reducible refine Fr.ite ?_ ?_
      | with_reducible refine Fr.cond ?_ ?_
      | with_reducible assumption
      | (refine Fr.of_snd (by assumption) ?_)
      | (refine Fr.of_fst (by assumption) ?_)
      | split
      | (unfold v; split)
      | (unfold v; clear_value *; split)
      | (clear_value *; split)

theorem State.homeWrite_fr {κ : Nat} {s0 s : State} {x : Axis} (hf_ : Fr κ s0 s) (hk_ : 0x2c010000000008000000040003c0200000000000000000000000000000002400002018400 &&& κ = 0x2c010000000008000000040003c0200000000000000000000000000000002400002018400 := by decide) :
    Fr κ s0 (State.homeWrite s x) := by
  refine Fr.lift hf_ hk_ ?_
  clear hf_ hk_
  unfold State.homeWrite
  have h0 := Fr.refl 0x2c010000000008000000040003c0200000000000000000000000000000002400002018400 s
  repeat' first
      | ((try lift_lets); intro v; refine_lift have hv : Fr 0x2c010000000008000000040003c0200000000000000000000000000000002400002018400 s v := ?_; ?_; clear_value v)
      | ((try lift_lets); intro v)
      | with_reducible refine State.homeNow_fr ?_
      | with_reducible refine State.modSv_fr ?_
      | with_reducible refine Fr.ite ?_ ?_
      | with_reducible refine Fr.cond ?_ ?_
      | with_reducible assumption
      | (refine Fr.of_snd (by assumption) ?_)
      | (refine Fr.of_fst (by assumption) ?_)
      | split
      | (unfold v; split)
      | (unfold v; clear_value *; split)
      | (clear_value *; split)

theorem execHome_fr {s t_ : State} {x : Axis} (e_ : execHome x s = .next t_) : Fr 0x2c010000000008000000040003c0200000000000000000000000000000002400002018400 s t_ := by
  unfold execHome at e_
  obtain rfl := Host.Outcome.next.inj e_
  clear e_
  have h0 := Fr.refl 0x2c010000000008000000040003c0200000000000000000000000000000002400002018400 s
  repeat' first
      | ((try lift_lets); intro v; refine_lift have hv : Fr 0x2c010000000008000000040003c0200000000000000000000000000000002400002018400 s v := ?_; ?_; clear_value v)
      | ((try lift_lets); intro v)
      | with_reducible refine State.homeWrite_fr ?_
      | with_reducible refine Fr.running ?_ (fun t ht => ?_)
      | with_reducible refine Fr.ite ?_ ?_
      | with_reducible refine Fr.cond ?_ ?_
      | with_reducible assumption
      | (refine Fr.of_snd (by assumption) ?_)
      | (refine Fr.of_fst (by assumption) ?_)
      | split
      | (unfold v; split)
      | (unfold v; clear_value *; split)
      | (clear_value *; split)

theorem State.posSetWrite_fr {κ : Nat} {s0 s : State} {by_ : Writer} {x : Axis} {frac : Bool} {w : Word} (hf_ : Fr κ s0 s) (hk_ : 0x2c01000000000800000004000030200000000000000000000000000000002400042018400 &&& κ = 0x2c01000000000800000004000030200000000000000000000000000000002400042018400 := by decide) :
    Fr κ s0 (State.posSetWrite s by_ x frac w) := by
  refine Fr.lift hf_ hk_ ?_
  clear hf_ hk_
  unfold State.posSetWrite
  have h0 := Fr.refl 0x2c01000000000800000004000030200000000000000000000000000000002400042018400 s
  repeat' first
      | ((try lift_lets); intro v; refine_lift have hv : Fr 0x2c01000000000800000004000030200000000000000000000000000000002400042018400 s v := ?_; ?_; clear_value v)
      | ((try lift_lets); intro v)
      | with_reducible refine State.inPosJudge_fr ?_
      | with_reducible refine State.modSv_fr ?_
      | with_reducible refine State.note_fr ?_
      | with_reducible refine State.setW_fr ?_
      | with_reducible refine Fr.ite ?_ ?_
      | with_reducible refine Fr.cond ?_ ?_
      | with_reducible assumption
      | (refine Fr.of_snd (by assumption) ?_)
      | (refine Fr.of_fst (by assumption) ?_)
      | split
      | (unfold v; split)
      | (unfold v; clear_value *; split)
      | (clear_value *; split)

theorem execPosSetWrite_fr {s t_ : State} {x : Axis} {frac : Bool} {w : Word} (e_ : execPosSetWrite x frac w s = .next t_) : Fr 0x2c01000000000800000004000030200000000000000000000000000000002400042018400 s t_ := by
  unfold execPosSetWrite at e_
  obtain rfl := Host.Outcome.next.inj e_
  clear e_
  have h0 := Fr.refl 0x2c01000000000800000004000030200000000000000000000000000000002400042018400 s
  repeat' first
      | ((try lift_lets); intro v; refine_lift have hv : Fr 0x2c01000000000800000004000030200000000000000000000000000000002400042018400 s v := ?_; ?_; clear_value v)
      | ((try lift_lets); intro v)
      | with_reducible refine State.posSetWrite_fr ?_
      | with_reducible refine Fr.running ?_ (fun t ht => ?_)
      | with_reducible refine Fr.ite ?_ ?_
      | with_reducible refine Fr.cond ?_ ?_
      | with_reducible assumption
      | (refine Fr.of_snd (by assumption) ?_)
      | (refine Fr.of_fst (by assumption) ?_)
      | split
      | (unfold v; split)
      | (unfold v; clear_value *; split)
      | (clear_value *; split)

theorem State.posAccumulate_fr {κ : Nat} {s0 s : State} {x : Axis} (hf_ : Fr κ s0 s) (hk_ : 0x300000000000000000000000000000000000000000018000 &&& κ = 0x300000000000000000000000000000000000000000018000 := by decide) :
    Fr κ s0 (State.posAccumulate s x) := by
  refine Fr.lift hf_ hk_ ?_
  clear hf_ hk_
  unfold State.posAccumulate
  have h0 := Fr.refl 0x300000000000000000000000000000000000000000018000 s
  repeat' first
      | ((try lift_lets); intro v; refine_lift have hv : Fr 0x300000000000000000000000000000000000000000018000 s v := ?_; ?_; clear_value v)
      | ((try lift_lets); intro v)
      | with_reducible refine State.modSv_fr ?_
      | with_reducible refine State.setW_fr ?_
      | with_reducible refine Fr.ite ?_ ?_
      | with_reducible refine Fr.cond ?_ ?_
      | with_reducible assumption
      | (refine Fr.of_snd (by assumption) ?_)
      | (refine Fr.of_fst (by assumption) ?_)
      | split
      | (unfold v; split)
      | (unfold v; clear_value *; split)
      | (clear_value *; split)

theorem State.promDone_fr {κ : Nat} {s0 s : State} {x : Axis} {b : Bool} (hf_ : Fr κ s0 s) (hk_ : 0x2c01000000000800000004000000200000000000000000000000000000002400002018400 &&& κ = 0x2c01000000000800000004000000200000000000000000000000000000002400002018400 := by decide) :
    Fr κ s0 (State.promDone s x b) := by
  refine Fr.lift hf_ hk_ ?_
  clear hf_ hk_
  unfold State.promDone
  have h0 := Fr.refl 0x2c01000000000800000004000000200000000000000000000000000000002400002018400 s
  repeat' first
      | ((try lift_lets); intro v; refine_lift have hv : Fr 0x2c01000000000800000004000000200000000000000000000000000000002400002018400 s v := ?_; ?_; clear_value v)
      | ((try lift_lets); intro v)
      | with_reducible refine State.evx_fr ?_
      | with_reducible refine State.setB_fr ?_
      | with_reducible refine Fr.ite ?_ ?_
      | with_reducible refine Fr.cond ?_ ?_
      | with_reducible assumption
      | (refine Fr.of_snd (by assumption) ?_)
      | (refine Fr.of_fst (by assumption) ?_)
      | split
      | (unfold v; split)
      | (unfold v; clear_value *; split)
      | (clear_value *; split)

theorem State.promPut_fr {κ : Nat} {s0 s : State} {x : Axis} {v : Word} {a : Word} (hf_ : Fr κ s0 s) (hk_ : 0x1c00000000000000000000000000000000000000000000 &&& κ = 0x1c00000000000000000000000000000000000000000000 := by decide) :
    Fr κ s0 (State.promPut s x v a) := by
  refine Fr.lift hf_ hk_ ?_
  clear hf_ hk_
  unfold State.promPut
  have h0 := Fr.refl 0x1c00000000000000000000000000000000000000000000 s
  repeat' first
      | ((try lift_lets); intro v; refine_lift have hv : Fr 0x1c00000000000000000000000000000000000000000000 s v := ?_; ?_; clear_value v)
      | ((try lift_lets); intro v)
      | with_reducible refine State.setW_fr ?_
      | with_reducible refine Fr.ite ?_ ?_
      | with_reducible refine Fr.cond ?_ ?_
      | with_reducible assumption
      | (refine Fr.of_snd (by assumption) ?_)
      | (refine Fr.of_fst (by assumption) ?_)
      | split
      | (unfold v; split)
      | (unfold v; clear_value *; split)
      | (clear_value *; split)

theorem State.promMove_fr {κ : Nat} {s0 s : State} {x : Axis} (hf_ : Fr κ s0 s) (hk_ : 0x2c010000000008000000040000c1e00000000000000000000000000000002400002018400 &&& κ = 0x2c010000000008000000040000c1e00000000000000000000000000000002400002018400 := by decide) :
    Fr κ s0 (State.promMove s x) := by
  refine Fr.lift hf_ hk_ ?_
  clear hf_ hk_
  unfold State.promMove
  have h0 := Fr.refl 0x2c010000000008000000040000c1e00000000000000000000000000000002400002018400 s
  repeat' first
      | ((try lift_lets); intro v; refine_lift have hv : Fr 0x2c010000000008000000040000c1e00000000000000000000000000000002400002018400 s v := ?_; ?_; clear_value v)
      | ((try lift_lets); intro v)
      | with_reducible refine State.promDone_fr ?_
      | with_reducible refine State.promPut_fr ?_
      | with_reducible refine State.setB_fr ?_
      | with_reducible refine State.setW_fr ?_
      | with_reducible refine Fr.ite ?_ ?_
      | with_reducible refine Fr.cond ?_ ?_
      | with_reducible assumption
      | (refine Fr.of_snd (by assumption) ?_)
      | (refine Fr.of_fst (by assumption) ?_)
      | split
      | (unfold v; split)
      | (unfold v; clear_value *; split)
      | (clear_value *; split)

theorem State.limitPart_fr {κ : Nat} {s0 s : State} {x : Axis} {these : List ℕ} {on : List ℕ} (hf_ : Fr κ s0 s) (hk_ : 0x2c01000000000800000004000000000000000000000200000000000000002400002018400 &&& κ = 0x2c01000000000800000004000000000000000000000200000000000000002400002018400 := by decide) :
    Fr κ s0 (State.limitPart s x these on) := by
  refine Fr.lift hf_ hk_ ?_
  clear hf_ hk_
  unfold State.limitPart
  have h0 := Fr.refl 0x2c01000000000800000004000000000000000000000200000000000000002400002018400 s
  repeat' first
      | ((try lift_lets); intro v; refine_lift have hv : Fr 0x2c01000000000800000004000000000000000000000200000000000000002400002018400 s v := ?_; ?_; clear_value v)
      | ((try lift_lets); intro v)
      | with_reducible refine State.limitCauses_fr ?_
      | with_reducible refine Fr.ite ?_ ?_
      | with_reducible refine Fr.cond ?_ ?_
      | with_reducible assumption
      | (refine Fr.of_snd (by assumption) ?_)
      | (refine Fr.of_fst (by assumption) ?_)
      | split
      | (unfold v; split)
      | (unfold v; clear_value *; split)
      | (clear_value *; split)

theorem State.promRef_fr {κ : Nat} {s0 s : State} {x : Axis} (hf_ : Fr κ s0 s) (hk_ : 0x2c01000000000800000004000000000000000000000200000000000000002400002018400 &&& κ = 0x2c01000000000800000004000000000000000000000200000000000000002400002018400 := by decide) :
    Fr κ s0 (State.promRef s x) := by
  refine Fr.lift hf_ hk_ ?_
  clear hf_ hk_
  unfold State.promRef
  have h0 := Fr.refl 0x2c01000000000800000004000000000000000000000200000000000000002400002018400 s
  repeat' first
      | ((try lift_lets); intro v; refine_lift have hv : Fr 0x2c01000000000800000004000000000000000000000200000000000000002400002018400 s v := ?_; ?_; clear_value v)
      | ((try lift_lets); intro v)
      | with_reducible refine State.limitPart_fr ?_
      | with_reducible refine State.modSv_fr ?_
      | with_reducible refine Fr.ite ?_ ?_
      | with_reducible refine Fr.cond ?_ ?_
      | with_reducible assumption
      | (refine Fr.of_snd (by assumption) ?_)
      | (refine Fr.of_fst (by assumption) ?_)
      | split
      | (unfold v; split)
      | (unfold v; clear_value *; split)
      | (clear_value *; split)

theorem State.dqPut_fr {κ : Nat} {s0 s : State} {x : Axis} (hf_ : Fr κ s0 s) (hk_ : 0xc3c03000008004bc1c0004600000000020400000000000000000000000001a4180aa07f5e0 &&& κ = 0xc3c03000008004bc1c0004600000000020400000000000000000000000001a4180aa07f5e0 := by decide) :
    Fr κ s0 (State.dqPut s x) := by
  refine Fr.lift hf_ hk_ ?_
  clear hf_ hk_
  unfold State.dqPut
  have h0 := Fr.refl 0xc3c03000008004bc1c0004600000000020400000000000000000000000001a4180aa07f5e0 s
  repeat' first
      | ((try lift_lets); intro v; refine_lift have hv : Fr 0xc3c03000008004bc1c0004600000000020400000000000000000000000001a4180aa07f5e0 s v := ?_; ?_; clear_value v)
      | ((try lift_lets); intro v)
      | with_reducible refine Fr.forEach ?_ (fun t a ht => ?_)
      | with_reducible refine State.svcWrite_fr ?_
      | with_reducible refine Fr.ite ?_ ?_
      | with_reducible refine Fr.cond ?_ ?_
      | with_reducible assumption
      | with_reducible exact Fr.id_ (by with_reducible assumption)
      | (refine Fr.of_snd (by assumption) ?_)
      | (refine Fr.of_fst (by assumption) ?_)
      | split
      | (unfold v; split)
      | (unfold v; clear_value *; split)
      | (clear_value *; split)

theorem State.satSet_fr {κ : Nat} {s0 s : State} {x : Axis} {c : ℕ} {b : Bool} (hf_ : Fr κ s0 s) (hk_ : 0x400000000000000000000000000000000000018000 &&& κ = 0x400000000000000000000000000000000000018000 := by decide) :
    Fr κ s0 (State.satSet s x c b) := by
  refine Fr.lift hf_ hk_ ?_
  clear hf_ hk_
  unfold State.satSet
  have h0 := Fr.refl 0x400000000000000000000000000000000000018000 s
  repeat' first
      | ((try lift_lets); intro v; refine_lift have hv : Fr 0x400000000000000000000000000000000000018000 s v := ?_; ?_; clear_value v)
      | ((try lift_lets); intro v)
      | with_reducible refine State.modSv_fr ?_
      | with_reducible refine State.setBit_fr ?_
      | with_reducible refine Fr.ite ?_ ?_
      | with_reducible refine Fr.cond ?_ ?_
      | with_reducible assumption
      | (refine Fr.of_snd (by assumption) ?_)
      | (refine Fr.of_fst (by assumption) ?_)
      | split
      | (unfold v; split)
      | (unfold v; clear_value *; split)
      | (clear_value *; split)

theorem State.putTrk_fr {κ : Nat} {s0 s : State} {a : Option ℕ} {mode : ℕ} {value : Word} (hf_ : Fr κ s0 s) (hk_ : 0xc3c03000008004bc1c0004600000000020400000000000000000000000001a4180aa07f5e0 &&& κ = 0xc3c03000008004bc1c0004600000000020400000000000000000000000001a4180aa07f5e0 := by decide) :
    Fr κ s0 (State.putTrk s a mode value) := by
  refine Fr.lift hf_ hk_ ?_
  clear hf_ hk_
  unfold State.putTrk
  have h0 := Fr.refl 0xc3c03000008004bc1c0004600000000020400000000000000000000000001a4180aa07f5e0 s
  repeat' first
      | ((try lift_lets); intro v; refine_lift have hv : Fr 0xc3c03000008004bc1c0004600000000020400000000000000000000000001a4180aa07f5e0 s v := ?_; ?_; clear_value v)
      | ((try lift_lets); intro v)
      | with_reducible refine State.svcWrite_fr ?_
      | with_reducible refine State.st32_fr ?_
      | with_reducible refine Fr.ite ?_ ?_
      | with_reducible refine Fr.cond ?_ ?_
      | with_reducible assumption
      | (refine Fr.of_snd (by assumption) ?_)
      | (refine Fr.of_fst (by assumption) ?_)
      | split
      | (unfold v; split)
      | (unfold v; clear_value *; split)
      | (clear_value *; split)

theorem State.weaken_fr {κ : Nat} {s0 s : State} {x : Axis} {g : Nat} {vmag : Word} (hf_ : Fr κ s0 s) (hk_ : 0x100010000000000000000000000018000 &&& κ = 0x100010000000000000000000000018000 := by decide) :
    Fr κ s0 (State.weaken s x g vmag) := by
  refine Fr.lift hf_ hk_ ?_
  clear hf_ hk_
  unfold State.weaken
  have h0 := Fr.refl 0x100010000000000000000000000018000 s
  repeat' first
      | ((try lift_lets); intro v; refine_lift have hv : Fr 0x100010000000000000000000000018000 s v := ?_; ?_; clear_value v)
      | ((try lift_lets); intro v)
      | with_reducible refine State.modSv_fr ?_
      | with_reducible refine State.setB_fr ?_
      | with_reducible refine State.setW_fr ?_
      | with_reducible refine Fr.ite ?_ ?_
      | with_reducible refine Fr.cond ?_ ?_
      | with_reducible assumption
      | with_reducible exact Fr.id_ (by with_reducible assumption)
      | (refine Fr.of_snd (by assumption) ?_)
      | (refine Fr.of_fst (by assumption) ?_)
      | split
      | (unfold v; split)
      | (unfold v; clear_value *; split)
      | (clear_value *; split)

theorem State.currentLimit_fr {κ : Nat} {s0 s : State} {x : Axis} {g : Nat} (hf_ : Fr κ s0 s) (hk_ : 0xc3c03000008004bc1c00046000000000604000000100a1000000000000001a4180aa07f5e0 &&& κ = 0xc3c03000008004bc1c00046000000000604000000100a1000000000000001a4180aa07f5e0 := by decide) :
    Fr κ s0 (State.currentLimit s x g) := by
  refine Fr.lift hf_ hk_ ?_
  clear hf_ hk_
  unfold State.currentLimit
  have h0 := Fr.refl 0xc3c03000008004bc1c00046000000000604000000100a1000000000000001a4180aa07f5e0 s
  repeat' first
      | ((try lift_lets); intro v; refine_lift have hv : Fr 0xc3c03000008004bc1c00046000000000604000000100a1000000000000001a4180aa07f5e0 s v := ?_; ?_; clear_value v)
      | ((try lift_lets); intro v)
      | with_reducible refine State.dqPut_fr ?_
      | with_reducible refine State.limitPart_fr ?_
      | with_reducible refine State.modSv_fr ?_
      | with_reducible refine State.putTrk_fr ?_
      | with_reducible refine State.satSet_fr ?_
      | with_reducible refine State.setW_fr ?_
      | with_reducible refine State.weaken_fr ?_
      | with_reducible refine Fr.ite ?_ ?_
      | with_reducible refine Fr.cond ?_ ?_
      | with_reducible assumption
      | with_reducible exact Fr.id_ (by with_reducible assumption)
      | (refine Fr.of_snd (by assumption) ?_)
      | (refine Fr.of_fst (by assumption) ?_)
      | split
      | (unfold v; split)
      | (unfold v; clear_value *; split)
      | (clear_value *; split)

theorem State.sixVector_fr {κ : Nat} {s0 s : State} {x : Axis} {y : Word} (hf_ : Fr κ s0 s) (hk_ : 0xc3c03000008004bc1c0004600000000020400000000080000000000000001a4180aa07f5e0 &&& κ = 0xc3c03000008004bc1c0004600000000020400000000080000000000000001a4180aa07f5e0 := by decide) :
    Fr κ s0 (State.sixVector s x y) := by
  refine Fr.lift hf_ hk_ ?_
  clear hf_ hk_
  unfold State.sixVector
  have h0 := Fr.refl 0xc3c03000008004bc1c0004600000000020400000000080000000000000001a4180aa07f5e0 s
  repeat' first
      | ((try lift_lets); intro v; refine_lift have hv : Fr 0xc3c03000008004bc1c0004600000000020400000000080000000000000001a4180aa07f5e0 s v := ?_; ?_; clear_value v)
      | ((try lift_lets); intro v)
      | with_reducible refine State.dqPut_fr ?_
      | with_reducible refine State.modSv_fr ?_
      | with_reducible refine State.setW_fr ?_
      | with_reducible refine Fr.ite ?_ ?_
      | with_reducible refine Fr.cond ?_ ?_
      | with_reducible assumption
      | with_reducible exact Fr.id_ (by with_reducible assumption)
      | (refine Fr.of_snd (by assumption) ?_)
      | (refine Fr.of_fst (by assumption) ?_)
      | split
      | (unfold v; split)
      | (unfold v; clear_value *; split)
      | (clear_value *; split)

theorem State.maskPut_fr {κ : Nat} {s0 s : State} {x : Axis} (hf_ : Fr κ s0 s) (hk_ : 0xc3c03000008004bc1c0004600000000020400000000000000000000000001a4180aa07f5e0 &&& κ = 0xc3c03000008004bc1c0004600000000020400000000000000000000000001a4180aa07f5e0 := by decide) :
    Fr κ s0 (State.maskPut s x) := by
  refine Fr.lift hf_ hk_ ?_
  clear hf_ hk_
  unfold State.maskPut
  have h0 := Fr.refl 0xc3c03000008004bc1c0004600000000020400000000000000000000000001a4180aa07f5e0 s
  repeat' first
      | ((try lift_lets); intro v; refine_lift have hv : Fr 0xc3c03000008004bc1c0004600000000020400000000000000000000000001a4180aa07f5e0 s v := ?_; ?_; clear_value v)
      | ((try lift_lets); intro v)
      | with_reducible refine State.svcWrite_fr ?_
      | with_reducible refine Fr.forEach ?_ (fun t a ht => ?_)
      | with_reducible refine State.st32_fr ?_
      | with_reducible refine Fr.ite ?_ ?_
      | with_reducible refine Fr.cond ?_ ?_
      | with_reducible assumption
      | with_reducible exact Fr.id_ (by with_reducible assumption)
      | (refine Fr.of_snd (by assumption) ?_)
      | (refine Fr.of_fst (by assumption) ?_)
      | split
      | (unfold v; split)
      | (unfold v; clear_value *; split)
      | (clear_value *; split)

theorem State.dutyInput_fr {κ : Nat} {s0 s : State} {x : Axis} (hf_ : Fr κ s0 s) (hk_ : 0x80000000 &&& κ = 0x80000000 := by decide) :
    Fr κ s0 (State.dutyInput s x).2 := by
  refine Fr.lift hf_ hk_ ?_
  clear hf_ hk_
  unfold State.dutyInput
  have h0 := Fr.refl 0x80000000 s
  repeat' first
      | ((try lift_lets); intro v; refine_lift have hv : Fr 0x80000000 s v := ?_; ?_; clear_value v)
      | ((try lift_lets); intro v)
      | with_reducible refine State.freshBit_fr ?_
      | with_reducible refine Fr.ite ?_ ?_
      | with_reducible refine Fr.cond ?_ ?_
      | with_reducible assumption
      | with_reducible exact Fr.id_ (by with_reducible assumption)
      | (refine Fr.of_snd (by assumption) ?_)
      | (refine Fr.of_fst (by assumption) ?_)
      | split
      | (unfold v; split)
      | (unfold v; clear_value *; split)
      | (clear_value *; split)

theorem State.inPut_fr {κ : Nat} {s0 s : State} {x : Axis} {c : Nat} (hf_ : Fr κ s0 s) (hk_ : 0xc3c03000008004bc1c0004600000000020400000000000000000000000001a4180aa07f5e0 &&& κ = 0xc3c03000008004bc1c0004600000000020400000000000000000000000001a4180aa07f5e0 := by decide) :
    Fr κ s0 (State.inPut s x c) := by
  refine Fr.lift hf_ hk_ ?_
  clear hf_ hk_
  unfold State.inPut
  have h0 := Fr.refl 0xc3c03000008004bc1c0004600000000020400000000000000000000000001a4180aa07f5e0 s
  repeat' first
      | ((try lift_lets); intro v; refine_lift have hv : Fr 0xc3c03000008004bc1c0004600000000020400000000000000000000000001a4180aa07f5e0 s v := ?_; ?_; clear_value v)
      | ((try lift_lets); intro v)
      | with_reducible refine State.dutyInput_fr ?_
      | with_reducible refine State.svcWrite_fr ?_
      | with_reducible refine Fr.forEach ?_ (fun t a ht => ?_)
      | with_reducible refine State.freshWord_fr ?_
      | with_reducible refine State.st32_fr ?_
      | with_reducible refine Fr.ite ?_ ?_
      | with_reducible refine Fr.cond ?_ ?_
      | with_reducible assumption
      | with_reducible exact Fr.id_ (by with_reducible assumption)
      | (refine Fr.of_snd (by assumption) ?_)
      | (refine Fr.of_fst (by assumption) ?_)
      | split
      | (unfold v; split)
      | (unfold v; clear_value *; split)
      | (clear_value *; split)

theorem State.loopInputs_fr {κ : Nat} {s0 s : State} {x : Axis} (hf_ : Fr κ s0 s) (hk_ : 0xc3c03000008004bc1c0004600000000020400000000000000000000000001a4180aa07f5e0 &&& κ = 0xc3c03000008004bc1c0004600000000020400000000000000000000000001a4180aa07f5e0 := by decide) :
    Fr κ s0 (State.loopInputs s x) := by
  refine Fr.lift hf_ hk_ ?_
  clear hf_ hk_
  unfold State.loopInputs
  have h0 := Fr.refl 0xc3c03000008004bc1c0004600000000020400000000000000000000000001a4180aa07f5e0 s
  repeat' first
      | ((try lift_lets); intro v; refine_lift have hv : Fr 0xc3c03000008004bc1c0004600000000020400000000000000000000000001a4180aa07f5e0 s v := ?_; ?_; clear_value v)
      | ((try lift_lets); intro v)
      | with_reducible refine State.svcWrite_fr ?_
      | with_reducible refine Fr.forEach ?_ (fun t a ht => ?_)
      | with_reducible refine State.inPut_fr ?_
      | with_reducible refine State.st32_fr ?_
      | with_reducible refine Fr.ite ?_ ?_
      | with_reducible refine Fr.cond ?_ ?_
      | with_reducible assumption
      | with_reducible exact Fr.id_ (by with_reducible assumption)
      | (refine Fr.of_snd (by assumption) ?_)
      | (refine Fr.of_fst (by assumption) ?_)
      | split
      | (unfold v; split)
      | (unfold v; clear_value *; split)
      | (clear_value *; split)

theorem execSpLoopRelease_fr {s t_ : State} {x : Axis} (e_ : execSpLoopRelease x s = .next t_) : Fr 0xc3c03000008004bc1c000460800c1e0020400000000020000000000000001a4180aa07f5e0 s t_ := by
  unfold execSpLoopRelease at e_
  obtain rfl := Host.Outcome.next.inj e_
  clear e_
  have h0 := Fr.refl 0xc3c03000008004bc1c000460800c1e0020400000000020000000000000001a4180aa07f5e0 s
  repeat' first
      | ((try lift_lets); intro v; refine_lift have hv : Fr 0xc3c03000008004bc1c000460800c1e0020400000000020000000000000001a4180aa07f5e0 s v := ?_; ?_; clear_value v)
      | ((try lift_lets); intro v)
      | with_reducible refine State.folRelease_fr ?_
      | with_reducible refine State.inPut_fr ?_
      | with_reducible refine State.folStep_fr ?_
      | with_reducible refine State.promInPos_fr ?_
      | with_reducible refine State.promMove_fr ?_
      | with_reducible refine State.promRef_fr ?_
      | with_reducible refine Fr.running ?_ (fun t ht => ?_)
      | with_reducible refine Fr.ite ?_ ?_
      | with_reducible refine Fr.cond ?_ ?_
      | with_reducible assumption
      | (refine Fr.of_snd (by assumption) ?_)
      | (refine Fr.of_fst (by assumption) ?_)
      | split
      | (unfold v; split)
      | (unfold v; clear_value *; split)
      | (clear_value *; split)

theorem State.compDone_fr {κ : Nat} {s0 s : State} {x : Axis} {c : Nat} {g : Nat} {inp : Word} {xin : Word} {y : Word} {sat : Bool} {trk : Option Nat} (hf_ : Fr κ s0 s) (hk_ : 0xc3c03000008004bc1c00046000000000606000000100a1000000000000001a4180aa07f5e0 &&& κ = 0xc3c03000008004bc1c00046000000000606000000100a1000000000000001a4180aa07f5e0 := by decide) :
    Fr κ s0 (State.compDone s x c g inp xin y sat trk) := by
  refine Fr.lift hf_ hk_ ?_
  clear hf_ hk_
  unfold State.compDone
  have h0 := Fr.refl 0xc3c03000008004bc1c00046000000000606000000100a1000000000000001a4180aa07f5e0 s
  repeat' first
      | ((try lift_lets); intro v; refine_lift have hv : Fr 0xc3c03000008004bc1c00046000000000606000000100a1000000000000001a4180aa07f5e0 s v := ?_; ?_; clear_value v)
      | ((try lift_lets); intro v)
      | with_reducible refine State.inPut_fr ?_
      | with_reducible refine State.promRef_fr ?_
      | with_reducible refine State.currentLimit_fr ?_
      | with_reducible refine State.limitPart_fr ?_
      | with_reducible refine State.modSv_fr ?_
      | with_reducible refine State.satSet_fr ?_
      | with_reducible refine State.set_fr ?_
      | with_reducible refine State.sixVector_fr ?_
      | with_reducible refine Fr.ite ?_ ?_
      | with_reducible refine Fr.cond ?_ ?_
      | with_reducible assumption
      | with_reducible exact Fr.id_ (by with_reducible assumption)
      | (refine Fr.of_snd (by assumption) ?_)
      | (refine Fr.of_fst (by assumption) ?_)
      | split
      | (unfold v; split)
      | (unfold v; clear_value *; split)
      | (clear_value *; split)

theorem State.torquePut_fr {κ : Nat} {s0 s : State} {x : Axis} (hf_ : Fr κ s0 s) (hk_ : 0xc3c03000008004bc1c0004600000000020400000000000000000000000001a4180aa07f5e0 &&& κ = 0xc3c03000008004bc1c0004600000000020400000000000000000000000001a4180aa07f5e0 := by decide) :
    Fr κ s0 (State.torquePut s x) := by
  refine Fr.lift hf_ hk_ ?_
  clear hf_ hk_
  unfold State.torquePut
  have h0 := Fr.refl 0xc3c03000008004bc1c0004600000000020400000000000000000000000001a4180aa07f5e0 s
  repeat' first
      | ((try lift_lets); intro v; refine_lift have hv : Fr 0xc3c03000008004bc1c0004600000000020400000000000000000000000001a4180aa07f5e0 s v := ?_; ?_; clear_value v)
      | ((try lift_lets); intro v)
      | with_reducible refine State.svcWrite_fr ?_
      | with_reducible refine Fr.forEach ?_ (fun t a ht => ?_)
      | with_reducible refine State.setW_fr ?_
      | with_reducible refine State.st32_fr ?_
      | with_reducible refine Fr.ite ?_ ?_
      | with_reducible refine Fr.cond ?_ ?_
      | with_reducible assumption
      | with_reducible exact Fr.id_ (by with_reducible assumption)
      | (refine Fr.of_snd (by assumption) ?_)
      | (refine Fr.of_fst (by assumption) ?_)
      | split
      | (unfold v; split)
      | (unfold v; clear_value *; split)
      | (clear_value *; split)

theorem State.refPut_fr {κ : Nat} {s0 s : State} {x : Axis} {id_ : Word} {iq : Word} (hf_ : Fr κ s0 s) (hk_ : 0xc0000000000000000000000000000000000000018000 &&& κ = 0xc0000000000000000000000000000000000000018000 := by decide) :
    Fr κ s0 (State.refPut s x id_ iq) := by
  refine Fr.lift hf_ hk_ ?_
  clear hf_ hk_
  unfold State.refPut
  have h0 := Fr.refl 0xc0000000000000000000000000000000000000018000 s
  repeat' first
      | ((try lift_lets); intro v; refine_lift have hv : Fr 0xc0000000000000000000000000000000000000018000 s v := ?_; ?_; clear_value v)
      | ((try lift_lets); intro v)
      | with_reducible refine State.modSv_fr ?_
      | with_reducible refine State.setW_fr ?_
      | with_reducible refine Fr.ite ?_ ?_
      | with_reducible refine Fr.cond ?_ ?_
      | with_reducible assumption
      | with_reducible exact Fr.id_ (by with_reducible assumption)
      | (refine Fr.of_snd (by assumption) ?_)
      | (refine Fr.of_fst (by assumption) ?_)
      | split
      | (unfold v; split)
      | (unfold v; clear_value *; split)
      | (clear_value *; split)

theorem State.selDone_fr {κ : Nat} {s0 s : State} {x : Axis} {dem : List Word} {mask : Nat} {r : Word × Word × Nat × List Word} {trk : Option Nat} (hf_ : Fr κ s0 s) (hk_ : 0xc3c03000008004bc1c000460400001ffa0400000000020000000000000001a4180aa07f5e0 &&& κ = 0xc3c03000008004bc1c000460400001ffa0400000000020000000000000001a4180aa07f5e0 := by decide) :
    Fr κ s0 (State.selDone s x dem mask r trk) := by
  refine Fr.lift hf_ hk_ ?_
  clear hf_ hk_
  unfold State.selDone
  have h0 := Fr.refl 0xc3c03000008004bc1c000460400001ffa0400000000020000000000000001a4180aa07f5e0 s
  repeat' first
      | ((try lift_lets); intro v; refine_lift have hv : Fr 0xc3c03000008004bc1c000460400001ffa0400000000020000000000000001a4180aa07f5e0 s v := ?_; ?_; clear_value v)
      | ((try lift_lets); intro v)
      | with_reducible refine Fr.forEach ?_ (fun t a ht => ?_)
      | with_reducible refine State.inPut_fr ?_
      | with_reducible refine State.inc_fr ?_
      | with_reducible refine State.limitPart_fr ?_
      | with_reducible refine State.modSv_fr ?_
      | with_reducible refine State.putTrk_fr ?_
      | with_reducible refine State.set_fr ?_
      | with_reducible refine State.setB_fr ?_
      | with_reducible refine State.setW_fr ?_
      | with_reducible refine Fr.ite ?_ ?_
      | with_reducible refine Fr.cond ?_ ?_
      | with_reducible assumption
      | with_reducible exact Fr.id_ (by with_reducible assumption)
      | (refine Fr.of_snd (by assumption) ?_)
      | (refine Fr.of_fst (by assumption) ?_)
      | split
      | (unfold v; split)
      | (unfold v; clear_value *; split)
      | (clear_value *; split)

end Sys2Proof.Machine
end

