-- ==== Sys2Proof/Laws/FrameBelvedere.lean ====
section
/-! SUPPORT. Frames of the operations of Machine/Belvedere.lean: one lemma each (Laws/Frame.lean). -/

namespace Sys2Proof.Machine

set_option Elab.async false

theorem State.extrapJudge_fr {κ : Nat} {s0 s : State} {x : Axis} (hf_ : Fr κ s0 s) (hk_ : 0x2c01000000000800000004000000000000000005000000000000000000002400002018400 &&& κ = 0x2c01000000000800000004000000000000000005000000000000000000002400002018400 := by decide) :
    Fr κ s0 (State.extrapJudge s x) := by
  refine Fr.lift hf_ hk_ ?_
  clear hf_ hk_
  unfold State.extrapJudge
  have h0 := Fr.refl 0x2c01000000000800000004000000000000000005000000000000000000002400002018400 s
  repeat' first
      | ((try lift_lets); intro v; refine_lift have hv : Fr 0x2c01000000000800000004000000000000000005000000000000000000002400002018400 s v := ?_; ?_; clear_value v)
      | ((try lift_lets); intro v)
      | with_reducible refine State.evx_fr ?_
      | with_reducible refine State.modSv_fr ?_
      | with_reducible refine State.set_fr ?_
      | with_reducible refine Fr.ite ?_ ?_
      | with_reducible refine Fr.cond ?_ ?_
      | with_reducible assumption
      | (refine Fr.of_snd (by assumption) ?_)
      | (refine Fr.of_fst (by assumption) ?_)
      | split
      | (unfold v; split)
      | (unfold v; clear_value *; split)
      | (clear_value *; split)

theorem State.blvStatus_fr {κ : Nat} {s0 s : State} {x : Axis} (hf_ : Fr κ s0 s) (hk_ : 0x1000000000000000000000000080018000 &&& κ = 0x1000000000000000000000000080018000 := by decide) :
    Fr κ s0 (State.blvStatus s x) := by
  refine Fr.lift hf_ hk_ ?_
  clear hf_ hk_
  unfold State.blvStatus
  have h0 := Fr.refl 0x1000000000000000000000000080018000 s
  repeat' first
      | ((try lift_lets); intro v; refine_lift have hv : Fr 0x1000000000000000000000000080018000 s v := ?_; ?_; clear_value v)
      | ((try lift_lets); intro v)
      | with_reducible refine State.modSv_fr ?_
      | with_reducible refine State.set_fr ?_
      | with_reducible refine State.setB_fr ?_
      | with_reducible refine State.wholeOf_fr ?_
      | with_reducible refine Fr.ite ?_ ?_
      | with_reducible refine Fr.cond ?_ ?_
      | with_reducible assumption
      | (refine Fr.of_snd (by assumption) ?_)
      | (refine Fr.of_fst (by assumption) ?_)
      | split
      | (unfold v; split)
      | (unfold v; clear_value *; split)
      | (clear_value *; split)

theorem State.hatStep_fr {κ : Nat} {s0 s : State} {x : Axis} {tp : Frac} (hf_ : Fr κ s0 s) (hk_ : 0x18000 &&& κ = 0x18000 := by decide) :
    Fr κ s0 (State.hatStep s x tp) := by
  refine Fr.lift hf_ hk_ ?_
  clear hf_ hk_
  unfold State.hatStep
  have h0 := Fr.refl 0x18000 s
  repeat' first
      | ((try lift_lets); intro v; refine_lift have hv : Fr 0x18000 s v := ?_; ?_; clear_value v)
      | ((try lift_lets); intro v)
      | with_reducible refine State.modSv_fr ?_
      | with_reducible refine Fr.ite ?_ ?_
      | with_reducible refine Fr.cond ?_ ?_
      | with_reducible assumption
      | (refine Fr.of_snd (by assumption) ?_)
      | (refine Fr.of_fst (by assumption) ?_)
      | split
      | (unfold v; split)
      | (unfold v; clear_value *; split)
      | (clear_value *; split)

theorem State.idSpin_fr {κ : Nat} {s0 s : State} {x : Axis} (hf_ : Fr κ s0 s) (hk_ : 0x18000 &&& κ = 0x18000 := by decide) :
    Fr κ s0 (State.idSpin s x) := by
  refine Fr.lift hf_ hk_ ?_
  clear hf_ hk_
  unfold State.idSpin
  have h0 := Fr.refl 0x18000 s
  repeat' first
      | ((try lift_lets); intro v; refine_lift have hv : Fr 0x18000 s v := ?_; ?_; clear_value v)
      | ((try lift_lets); intro v)
      | with_reducible refine State.modSv_fr ?_
      | with_reducible refine Fr.ite ?_ ?_
      | with_reducible refine Fr.cond ?_ ?_
      | with_reducible assumption
      | with_reducible exact Fr.id_ (by with_reducible assumption)
      | (refine Fr.of_snd (by assumption) ?_)
      | (refine Fr.of_fst (by assumption) ?_)
      | split
      | (unfold v; split)
      | (unfold v; clear_value *; split)
      | (clear_value *; split)

theorem State.idBias_fr {κ : Nat} {s0 s : State} {x : Axis} (hf_ : Fr κ s0 s) (hk_ : 0x80000000 &&& κ = 0x80000000 := by decide) :
    Fr κ s0 (State.idBias s x).2 := by
  refine Fr.lift hf_ hk_ ?_
  clear hf_ hk_
  unfold State.idBias
  have h0 := Fr.refl 0x80000000 s
  repeat' first
      | ((try lift_lets); intro v; refine_lift have hv : Fr 0x80000000 s v := ?_; ?_; clear_value v)
      | ((try lift_lets); intro v)
      | with_reducible refine State.freshWord_fr ?_
      | with_reducible refine Fr.ite ?_ ?_
      | with_reducible refine Fr.cond ?_ ?_
      | with_reducible assumption
      | with_reducible exact Fr.id_ (by with_reducible assumption)
      | (refine Fr.of_snd (by assumption) ?_)
      | (refine Fr.of_fst (by assumption) ?_)
      | split
      | (unfold v; split)
      | (unfold v; clear_value *; split)
      | (clear_value *; split)

theorem State.idSecond_fr {κ : Nat} {s0 s : State} {x : Axis} (hf_ : Fr κ s0 s) (hk_ : 0x80018000 &&& κ = 0x80018000 := by decide) :
    Fr κ s0 (State.idSecond s x) := by
  refine Fr.lift hf_ hk_ ?_
  clear hf_ hk_
  unfold State.idSecond
  have h0 := Fr.refl 0x80018000 s
  repeat' first
      | ((try lift_lets); intro v; refine_lift have hv : Fr 0x80018000 s v := ?_; ?_; clear_value v)
      | ((try lift_lets); intro v)
      | with_reducible refine State.freshBit_fr ?_
      | with_reducible refine State.modSv_fr ?_
      | with_reducible refine Fr.ite ?_ ?_
      | with_reducible refine Fr.cond ?_ ?_
      | with_reducible assumption
      | with_reducible exact Fr.id_ (by with_reducible assumption)
      | (refine Fr.of_snd (by assumption) ?_)
      | (refine Fr.of_fst (by assumption) ?_)
      | split
      | (unfold v; split)
      | (unfold v; clear_value *; split)
      | (clear_value *; split)

theorem State.idInjectStep_fr {κ : Nat} {s0 s : State} {x : Axis} (hf_ : Fr κ s0 s) (hk_ : 0x80018000 &&& κ = 0x80018000 := by decide) :
    Fr κ s0 (State.idInjectStep s x).2 := by
  refine Fr.lift hf_ hk_ ?_
  clear hf_ hk_
  unfold State.idInjectStep
  have h0 := Fr.refl 0x80018000 s
  repeat' first
      | ((try lift_lets); intro v; refine_lift have hv : Fr 0x80018000 s v := ?_; ?_; clear_value v)
      | ((try lift_lets); intro v)
      | with_reducible refine State.idSecond_fr ?_
      | with_reducible refine State.freshBit_fr ?_
      | with_reducible refine State.idBias_fr ?_
      | with_reducible refine State.modSv_fr ?_
      | with_reducible refine Fr.ite ?_ ?_
      | with_reducible refine Fr.cond ?_ ?_
      | with_reducible assumption
      | with_reducible exact Fr.id_ (by with_reducible assumption)
      | (refine Fr.of_snd (by assumption) ?_)
      | (refine Fr.of_fst (by assumption) ?_)
      | split
      | (unfold v; split)
      | (unfold v; clear_value *; split)
      | (clear_value *; split)

theorem State.polDecay_fr {κ : Nat} {s0 s : State} {x : Axis} (hf_ : Fr κ s0 s) (hk_ : 0x80018000 &&& κ = 0x80018000 := by decide) :
    Fr κ s0 (State.polDecay s x) := by
  refine Fr.lift hf_ hk_ ?_
  clear hf_ hk_
  unfold State.polDecay
  have h0 := Fr.refl 0x80018000 s
  repeat' first
      | ((try lift_lets); intro v; refine_lift have hv : Fr 0x80018000 s v := ?_; ?_; clear_value v)
      | ((try lift_lets); intro v)
      | with_reducible refine State.freshBit_fr ?_
      | with_reducible refine State.modSv_fr ?_
      | with_reducible refine Fr.ite ?_ ?_
      | with_reducible refine Fr.cond ?_ ?_
      | with_reducible assumption
      | with_reducible exact Fr.id_ (by with_reducible assumption)
      | (refine Fr.of_snd (by assumption) ?_)
      | (refine Fr.of_fst (by assumption) ?_)
      | split
      | (unfold v; split)
      | (unfold v; clear_value *; split)
      | (clear_value *; split)

theorem State.holdStep_fr {κ : Nat} {s0 s : State} {x : Axis} {tp : Frac} (hf_ : Fr κ s0 s) (hk_ : 0x18000 &&& κ = 0x18000 := by decide) :
    Fr κ s0 (State.holdStep s x tp) := by
  refine Fr.lift hf_ hk_ ?_
  clear hf_ hk_
  unfold State.holdStep
  have h0 := Fr.refl 0x18000 s
  repeat' first
      | ((try lift_lets); intro v; refine_lift have hv : Fr 0x18000 s v := ?_; ?_; clear_value v)
      | ((try lift_lets); intro v)
      | with_reducible refine State.modSv_fr ?_
      | with_reducible refine Fr.ite ?_ ?_
      | with_reducible refine Fr.cond ?_ ?_
      | with_reducible assumption
      | with_reducible exact Fr.id_ (by with_reducible assumption)
      | (refine Fr.of_snd (by assumption) ?_)
      | (refine Fr.of_fst (by assumption) ?_)
      | split
      | (unfold v; split)
      | (unfold v; clear_value *; split)
      | (clear_value *; split)

theorem State.framePut_fr {κ : Nat} {s0 s : State} {x : Axis} {th : Word} {id_ : Word} {iq : Word} (hf_ : Fr κ s0 s) (hk_ : 0xc0000000000080000000000000000000000000018000 &&& κ = 0xc0000000000080000000000000000000000000018000 := by decide) :
    Fr κ s0 (State.framePut s x th id_ iq) := by
  refine Fr.lift hf_ hk_ ?_
  clear hf_ hk_
  unfold State.framePut
  have h0 := Fr.refl 0xc0000000000080000000000000000000000000018000 s
  repeat' first
      | ((try lift_lets); intro v; refine_lift have hv : Fr 0xc0000000000080000000000000000000000000018000 s v := ?_; ?_; clear_value v)
      | ((try lift_lets); intro v)
      | with_reducible refine State.modSv_fr ?_
      | with_reducible refine State.refPut_fr ?_
      | with_reducible refine State.setW_fr ?_
      | with_reducible refine Fr.ite ?_ ?_
      | with_reducible refine Fr.cond ?_ ?_
      | with_reducible assumption
      | with_reducible exact Fr.id_ (by with_reducible assumption)
      | (refine Fr.of_snd (by assumption) ?_)
      | (refine Fr.of_fst (by assumption) ?_)
      | split
      | (unfold v; split)
      | (unfold v; clear_value *; split)
      | (clear_value *; split)

theorem State.forcePut_fr {κ : Nat} {s0 s : State} {x : Axis} (hf_ : Fr κ s0 s) (hk_ : 0xc3c03000008004bc1c0004600000000020400000000000000000000000001a4180aa07f5e0 &&& κ = 0xc3c03000008004bc1c0004600000000020400000000000000000000000001a4180aa07f5e0 := by decide) :
    Fr κ s0 (State.forcePut s x) := by
  refine Fr.lift hf_ hk_ ?_
  clear hf_ hk_
  unfold State.forcePut
  have h0 := Fr.refl 0xc3c03000008004bc1c0004600000000020400000000000000000000000001a4180aa07f5e0 s
  repeat' first
      | ((try lift_lets); intro v; refine_lift have hv : Fr 0xc3c03000008004bc1c0004600000000020400000000000000000000000001a4180aa07f5e0 s v := ?_; ?_; clear_value v)
      | ((try lift_lets); intro v)
      | with_reducible refine State.dqPut_fr ?_
      | with_reducible refine State.modSv_fr ?_
      | with_reducible refine Fr.ite ?_ ?_
      | with_reducible refine Fr.cond ?_ ?_
      | with_reducible assumption
      | with_reducible exact Fr.id_ (by with_reducible assumption)
      | (refine Fr.of_snd (by assumption) ?_)
      | (refine Fr.of_fst (by assumption) ?_)
      | split
      | (unfold v; split)
      | (unfold v; clear_value *; split)
      | (clear_value *; split)

theorem State.frameStep_fr {κ : Nat} {s0 s : State} {x : Axis} {tp : Frac} (hf_ : Fr κ s0 s) (hk_ : 0xc3c03000008004bc1c000460000000c020400000008000000000000000001a4180aa07f5e0 &&& κ = 0xc3c03000008004bc1c000460000000c020400000008000000000000000001a4180aa07f5e0 := by decide) :
    Fr κ s0 (State.frameStep s x tp) := by
  refine Fr.lift hf_ hk_ ?_
  clear hf_ hk_
  unfold State.frameStep
  have h0 := Fr.refl 0xc3c03000008004bc1c000460000000c020400000008000000000000000001a4180aa07f5e0 s
  repeat' first
      | ((try lift_lets); intro v; refine_lift have hv : Fr 0xc3c03000008004bc1c000460000000c020400000008000000000000000001a4180aa07f5e0 s v := ?_; ?_; clear_value v)
      | ((try lift_lets); intro v)
      | with_reducible refine State.idSecond_fr ?_
      | with_reducible refine State.idSpin_fr ?_
      | with_reducible refine State.forcePut_fr ?_
      | with_reducible refine State.framePut_fr ?_
      | with_reducible refine State.dqPut_fr ?_
      | with_reducible refine State.idInjectStep_fr ?_
      | with_reducible refine State.polDecay_fr ?_
      | with_reducible refine State.freshBit_fr ?_
      | with_reducible refine State.refPut_fr ?_
      | with_reducible refine State.modSv_fr ?_
      | with_reducible refine State.setW_fr ?_
      | with_reducible refine Fr.ite ?_ ?_
      | with_reducible refine Fr.cond ?_ ?_
      | with_reducible assumption
      | (refine Fr.of_snd (by assumption) ?_)
      | (refine Fr.of_fst (by assumption) ?_)
      | split
      | (unfold v; split)
      | (unfold v; clear_value *; split)
      | (clear_value *; split)

theorem State.holdFault_fr {κ : Nat} {s0 s : State} {x : Axis} (hf_ : Fr κ s0 s) (hk_ : 0x100000000000000000000000000001e020 &&& κ = 0x100000000000000000000000000001e020 := by decide) :
    Fr κ s0 (State.holdFault s x) := by
  refine Fr.lift hf_ hk_ ?_
  clear hf_ hk_
  unfold State.holdFault
  have h0 := Fr.refl 0x100000000000000000000000000001e020 s
  repeat' first
      | ((try lift_lets); intro v; refine_lift have hv : Fr 0x100000000000000000000000000001e020 s v := ?_; ?_; clear_value v)
      | ((try lift_lets); intro v)
      | with_reducible refine State.holdEnd_fr ?_
      | with_reducible refine State.modAx_fr ?_
      | with_reducible refine State.set_fr ?_
      | with_reducible refine Fr.ite ?_ ?_
      | with_reducible refine Fr.cond ?_ ?_
      | with_reducible assumption
      | with_reducible exact Fr.id_ (by with_reducible assumption)
      | (refine Fr.of_snd (by assumption) ?_)
      | (refine Fr.of_fst (by assumption) ?_)
      | split
      | (unfold v; split)
      | (unfold v; clear_value *; split)
      | (clear_value *; split)

theorem State.blvRest_fr {κ : Nat} {s0 s : State} {x : Axis} (hf_ : Fr κ s0 s) (hk_ : 0x1000000000000000000000000000018000 &&& κ = 0x1000000000000000000000000000018000 := by decide) :
    Fr κ s0 (State.blvRest s x) := by
  refine Fr.lift hf_ hk_ ?_
  clear hf_ hk_
  unfold State.blvRest
  have h0 := Fr.refl 0x1000000000000000000000000000018000 s
  repeat' first
      | ((try lift_lets); intro v; refine_lift have hv : Fr 0x1000000000000000000000000000018000 s v := ?_; ?_; clear_value v)
      | ((try lift_lets); intro v)
      | with_reducible refine State.modSv_fr ?_
      | with_reducible refine State.set_fr ?_
      | with_reducible refine Fr.ite ?_ ?_
      | with_reducible refine Fr.cond ?_ ?_
      | with_reducible assumption
      | with_reducible exact Fr.id_ (by with_reducible assumption)
      | (refine Fr.of_snd (by assumption) ?_)
      | (refine Fr.of_fst (by assumption) ?_)
      | split
      | (unfold v; split)
      | (unfold v; clear_value *; split)
      | (clear_value *; split)

theorem State.servicePeriod_fr {κ : Nat} {s0 s : State} {x : Axis} {tp : Frac} (hf_ : Fr κ s0 s) (hk_ : 0xc3c03000008004bc1c000460e03002c020400000508000000000000000001a4180aa07f5e0 &&& κ = 0xc3c03000008004bc1c000460e03002c020400000508000000000000000001a4180aa07f5e0 := by decide) :
    Fr κ s0 (State.servicePeriod s x tp) := by
  refine Fr.lift hf_ hk_ ?_
  clear hf_ hk_
  unfold State.servicePeriod
  have h0 := Fr.refl 0xc3c03000008004bc1c000460e03002c020400000508000000000000000001a4180aa07f5e0 s
  repeat' first
      | ((try lift_lets); intro v; refine_lift have hv : Fr 0xc3c03000008004bc1c000460e03002c020400000508000000000000000001a4180aa07f5e0 s v := ?_; ?_; clear_value v)
      | ((try lift_lets); intro v)
      | with_reducible refine State.blvRest_fr ?_
      | with_reducible refine State.folOver_fr ?_
      | with_reducible refine State.holdStep_fr ?_
      | with_reducible refine State.inPosJudge_fr ?_
      | with_reducible refine State.holdFault_fr ?_
      | with_reducible refine State.setB_fr ?_
      | with_reducible refine State.blvStatus_fr ?_
      | with_reducible refine State.extrapJudge_fr ?_
      | with_reducible refine State.folStep_fr ?_
      | with_reducible refine State.frameStep_fr ?_
      | with_reducible refine State.hatStep_fr ?_
      | with_reducible refine State.modSv_fr ?_
      | with_reducible refine State.posAccumulate_fr ?_
      | with_reducible refine State.set_fr ?_
      | with_reducible refine State.setW_fr ?_
      | with_reducible refine Fr.ite ?_ ?_
      | with_reducible refine Fr.cond ?_ ?_
      | with_reducible assumption
      | (refine Fr.of_snd (by assumption) ?_)
      | (refine Fr.of_fst (by assumption) ?_)
      | split
      | (unfold v; split)
      | (unfold v; clear_value *; split)
      | (clear_value *; split)

theorem State.agreeStep_fr {κ : Nat} {s0 s : State} {x : Axis} {tp : Frac} (hf_ : Fr κ s0 s) (hk_ : 0x1000001000000000000000000000018000 &&& κ = 0x1000001000000000000000000000018000 := by decide) :
    Fr κ s0 (State.agreeStep s x tp) := by
  refine Fr.lift hf_ hk_ ?_
  clear hf_ hk_
  unfold State.agreeStep
  have h0 := Fr.refl 0x1000001000000000000000000000018000 s
  repeat' first
      | ((try lift_lets); intro v; refine_lift have hv : Fr 0x1000001000000000000000000000018000 s v := ?_; ?_; clear_value v)
      | ((try lift_lets); intro v)
      | with_reducible refine State.modSv_fr ?_
      | with_reducible refine State.set_fr ?_
      | with_reducible refine Fr.ite ?_ ?_
      | with_reducible refine Fr.cond ?_ ?_
      | with_reducible assumption
      | (refine Fr.of_snd (by assumption) ?_)
      | (refine Fr.of_fst (by assumption) ?_)
      | split
      | (unfold v; split)
      | (unfold v; clear_value *; split)
      | (clear_value *; split)

theorem State.blendDone_fr {κ : Nat} {s0 s : State} {x : Axis} {th : List Word} {out : Word × Word} (hf_ : Fr κ s0 s) (hk_ : 0x781000001000000000000000000000018000 &&& κ = 0x781000001000000000000000000000018000 := by decide) :
    Fr κ s0 (State.blendDone s x th out) := by
  refine Fr.lift hf_ hk_ ?_
  clear hf_ hk_
  unfold State.blendDone
  have h0 := Fr.refl 0x781000001000000000000000000000018000 s
  repeat' first
      | ((try lift_lets); intro v; refine_lift have hv : Fr 0x781000001000000000000000000000018000 s v := ?_; ?_; clear_value v)
      | ((try lift_lets); intro v)
      | with_reducible refine State.agreeStep_fr ?_
      | with_reducible refine State.modSv_fr ?_
      | with_reducible refine State.setW_fr ?_
      | with_reducible refine Fr.ite ?_ ?_
      | with_reducible refine Fr.cond ?_ ?_
      | with_reducible assumption
      | (refine Fr.of_snd (by assumption) ?_)
      | (refine Fr.of_fst (by assumption) ?_)
      | split
      | (unfold v; split)
      | (unfold v; clear_value *; split)
      | (clear_value *; split)

theorem State.supervise_fr {κ : Nat} {s0 s : State} {x : Axis} (hf_ : Fr κ s0 s) (hk_ : 0x2c01000000000800000004000000000000000005000000000000000000002400002018400 &&& κ = 0x2c01000000000800000004000000000000000005000000000000000000002400002018400 := by decide) :
    Fr κ s0 (State.supervise s x) := by
  refine Fr.lift hf_ hk_ ?_
  clear hf_ hk_
  unfold State.supervise
  have h0 := Fr.refl 0x2c01000000000800000004000000000000000005000000000000000000002400002018400 s
  repeat' first
      | ((try lift_lets); intro v; refine_lift have hv : Fr 0x2c01000000000800000004000000000000000005000000000000000000002400002018400 s v := ?_; ?_; clear_value v)
      | ((try lift_lets); intro v)
      | with_reducible refine State.evx_fr ?_
      | with_reducible refine State.modSv_fr ?_
      | with_reducible refine State.set_fr ?_
      | with_reducible refine Fr.ite ?_ ?_
      | with_reducible refine Fr.cond ?_ ?_
      | with_reducible assumption
      | (refine Fr.of_snd (by assumption) ?_)
      | (refine Fr.of_fst (by assumption) ?_)
      | split
      | (unfold v; split)
      | (unfold v; clear_value *; split)
      | (clear_value *; split)

theorem State.startBad_fr {κ : Nat} {s0 s : State} {x : Axis} {detail : Nat} (hf_ : Fr κ s0 s) (hk_ : 0xc2c01000008004bc1c0004400000000020400001c00000000000000000000240002207f420 &&& κ = 0xc2c01000008004bc1c0004400000000020400001c00000000000000000000240002207f420 := by decide) :
    Fr κ s0 (State.startBad s x detail) := by
  refine Fr.lift hf_ hk_ ?_
  clear hf_ hk_
  unfold State.startBad
  have h0 := Fr.refl 0xc2c01000008004bc1c0004400000000020400001c00000000000000000000240002207f420 s
  repeat' first
      | ((try lift_lets); intro v; refine_lift have hv : Fr 0xc2c01000008004bc1c0004400000000020400001c00000000000000000000240002207f420 s v := ?_; ?_; clear_value v)
      | ((try lift_lets); intro v)
      | with_reducible refine State.axisFault_fr ?_
      | with_reducible refine State.inc_fr ?_
      | with_reducible refine State.set_fr ?_
      | with_reducible refine Fr.ite ?_ ?_
      | with_reducible refine Fr.cond ?_ ?_
      | with_reducible assumption
      | with_reducible exact Fr.id_ (by with_reducible assumption)
      | (refine Fr.of_snd (by assumption) ?_)
      | (refine Fr.of_fst (by assumption) ?_)
      | split
      | (unfold v; split)
      | (unfold v; clear_value *; split)
      | (clear_value *; split)

theorem State.startFail_fr {κ : Nat} {s0 s : State} {x : Axis} {detail : ℕ} (hf_ : Fr κ s0 s) (hk_ : 0xc2c01000008004be1c001c400000fc0020500005d01021000000080000000240002207f430 &&& κ = 0xc2c01000008004be1c001c400000fc0020500005d01021000000080000000240002207f430 := by decide) :
    Fr κ s0 (State.startFail s x detail) := by
  refine Fr.lift hf_ hk_ ?_
  clear hf_ hk_
  unfold State.startFail
  have h0 := Fr.refl 0xc2c01000008004be1c001c400000fc0020500005d01021000000080000000240002207f430 s
  repeat' first
      | ((try lift_lets); intro v; refine_lift have hv : Fr 0xc2c01000008004be1c001c400000fc0020500005d01021000000080000000240002207f430 s v := ?_; ?_; clear_value v)
      | ((try lift_lets); intro v)
      | with_reducible refine State.startBad_fr ?_
      | with_reducible refine State.toSafe_fr ?_
      | with_reducible refine State.failState_fr ?_
      | with_reducible refine State.inc_fr ?_
      | with_reducible refine State.set_fr ?_
      | with_reducible refine Fr.ite ?_ ?_
      | with_reducible refine Fr.cond ?_ ?_
      | with_reducible assumption
      | (refine Fr.of_snd (by assumption) ?_)
      | (refine Fr.of_fst (by assumption) ?_)
      | split
      | (unfold v; split)
      | (unfold v; clear_value *; split)
      | (clear_value *; split)

theorem State.holdEntry_fr {κ : Nat} {s0 s : State} {x : Axis} (hf_ : Fr κ s0 s) (hk_ : 0xc3c03000008004bc1c0004600000000020400001d00000000000000000001a4180aa07f5e0 &&& κ = 0xc3c03000008004bc1c0004600000000020400001d00000000000000000001a4180aa07f5e0 := by decide) :
    Fr κ s0 (State.holdEntry s x) := by
  refine Fr.lift hf_ hk_ ?_
  clear hf_ hk_
  unfold State.holdEntry
  have h0 := Fr.refl 0xc3c03000008004bc1c0004600000000020400001d00000000000000000001a4180aa07f5e0 s
  repeat' first
      | ((try lift_lets); intro v; refine_lift have hv : Fr 0xc3c03000008004bc1c0004600000000020400001d00000000000000000001a4180aa07f5e0 s v := ?_; ?_; clear_value v)
      | ((try lift_lets); intro v)
      | with_reducible refine State.dqPut_fr ?_
      | with_reducible refine Fr.forEach ?_ (fun t a ht => ?_)
      | with_reducible refine State.modAx_fr ?_
      | with_reducible refine State.startBad_fr ?_
      | with_reducible refine State.modSv_fr ?_
      | with_reducible refine State.putTrk_fr ?_
      | with_reducible refine State.set_fr ?_
      | with_reducible refine State.startFail_fr ?_
      | with_reducible refine Fr.ite ?_ ?_
      | with_reducible refine Fr.cond ?_ ?_
      | with_reducible assumption
      | (refine Fr.of_snd (by assumption) ?_)
      | (refine Fr.of_fst (by assumption) ?_)
      | split
      | (unfold v; split)
      | (unfold v; clear_value *; split)
      | (clear_value *; split)

theorem execSuspectTimeout_fr {s t_ : State} {x : Axis} {us : ℕ} (e_ : execSuspectTimeout x us s = .next t_) : Fr 0xc3c03000008004bc1c0004600000000020400001d00000000000000000001a4180aa07f5e0 s t_ := by
  unfold execSuspectTimeout at e_
  obtain rfl := Host.Outcome.next.inj e_
  clear e_
  have h0 := Fr.refl 0xc3c03000008004bc1c0004600000000020400001d00000000000000000001a4180aa07f5e0 s
  repeat' first
      | ((try lift_lets); intro v; refine_lift have hv : Fr 0xc3c03000008004bc1c0004600000000020400001d00000000000000000001a4180aa07f5e0 s v := ?_; ?_; clear_value v)
      | ((try lift_lets); intro v)
      | with_reducible refine State.holdEntry_fr ?_
      | with_reducible refine Fr.running ?_ (fun t ht => ?_)
      | with_reducible refine Fr.ite ?_ ?_
      | with_reducible refine Fr.cond ?_ ?_
      | with_reducible assumption
      | (refine Fr.of_snd (by assumption) ?_)
      | (refine Fr.of_fst (by assumption) ?_)
      | split
      | (unfold v; split)
      | (unfold v; clear_value *; split)
      | (clear_value *; split)

theorem State.selTrack_fr {κ : Nat} {s0 s : State} {x : Axis} {iq : Word} (hf_ : Fr κ s0 s) (hk_ : 0xc3c03000008004bc1c0004600000000020400000000000000000000000001a4180aa07f5e0 &&& κ = 0xc3c03000008004bc1c0004600000000020400000000000000000000000001a4180aa07f5e0 := by decide) :
    Fr κ s0 (State.selTrack s x iq) := by
  refine Fr.lift hf_ hk_ ?_
  clear hf_ hk_
  unfold State.selTrack
  have h0 := Fr.refl 0xc3c03000008004bc1c0004600000000020400000000000000000000000001a4180aa07f5e0 s
  repeat' first
      | ((try lift_lets); intro v; refine_lift have hv : Fr 0xc3c03000008004bc1c0004600000000020400000000000000000000000001a4180aa07f5e0 s v := ?_; ?_; clear_value v)
      | ((try lift_lets); intro v)
      | with_reducible refine State.putTrk_fr ?_
      | with_reducible refine Fr.forEach ?_ (fun t a ht => ?_)
      | with_reducible refine Fr.ite ?_ ?_
      | with_reducible refine Fr.cond ?_ ?_
      | with_reducible assumption
      | (refine Fr.of_snd (by assumption) ?_)
      | (refine Fr.of_fst (by assumption) ?_)
      | split
      | (unfold v; split)
      | (unfold v; clear_value *; split)
      | (clear_value *; split)

theorem execRotorReacquired_fr {s t_ : State} {x : Axis} (e_ : execRotorReacquired x s = .next t_) : Fr 0xc3c03000008004bc1c00046000001c0020400000d00000000000000000001a4180aa07f5e0 s t_ := by
  unfold execRotorReacquired at e_
  obtain rfl := Host.Outcome.next.inj e_
  clear e_
  have h0 := Fr.refl 0xc3c03000008004bc1c00046000001c0020400000d00000000000000000001a4180aa07f5e0 s
  repeat' first
      | ((try lift_lets); intro v; refine_lift have hv : Fr 0xc3c03000008004bc1c00046000001c0020400000d00000000000000000001a4180aa07f5e0 s v := ?_; ?_; clear_value v)
      | ((try lift_lets); intro v)
      | with_reducible refine State.holdEnd_fr ?_
      | with_reducible refine State.evx_fr ?_
      | with_reducible refine State.inc_fr ?_
      | with_reducible refine State.promPut_fr ?_
      | with_reducible refine State.putTrk_fr ?_
      | with_reducible refine State.selTrack_fr ?_
      | with_reducible refine State.set_fr ?_
      | with_reducible refine Fr.running ?_ (fun t ht => ?_)
      | with_reducible refine Fr.ite ?_ ?_
      | with_reducible refine Fr.cond ?_ ?_
      | with_reducible assumption
      | (refine Fr.of_snd (by assumption) ?_)
      | (refine Fr.of_fst (by assumption) ?_)
      | split
      | (unfold v; split)
      | (unfold v; clear_value *; split)
      | (clear_value *; split)

theorem execRotorLost_fr {s t_ : State} {x : Axis} {us : ℕ} (e_ : execRotorLost x us s = .next t_) : Fr 0xc2c01000008004bc1c0004400000000020400000d00000000000000000000240002207f420 s t_ := by
  unfold execRotorLost at e_
  obtain rfl := Host.Outcome.next.inj e_
  clear e_
  have h0 := Fr.refl 0xc2c01000008004bc1c0004400000000020400000d00000000000000000000240002207f420 s
  repeat' first
      | ((try lift_lets); intro v; refine_lift have hv : Fr 0xc2c01000008004bc1c0004400000000020400000d00000000000000000000240002207f420 s v := ?_; ?_; clear_value v)
      | ((try lift_lets); intro v)
      | with_reducible refine State.holdEnd_fr ?_
      | with_reducible refine State.chooseSafe_fr ?_
      | with_reducible refine State.evx_fr ?_
      | with_reducible refine State.fault_fr ?_
      | with_reducible refine State.inc_fr ?_
      | with_reducible refine State.set_fr ?_
      | with_reducible refine Fr.running ?_ (fun t ht => ?_)
      | with_reducible refine Fr.ite ?_ ?_
      | with_reducible refine Fr.cond ?_ ?_
      | with_reducible assumption
      | (refine Fr.of_snd (by assumption) ?_)
      | (refine Fr.of_fst (by assumption) ?_)
      | split
      | (unfold v; split)
      | (unfold v; clear_value *; split)
      | (clear_value *; split)

theorem execExtrapClearTimeout_fr {s t_ : State} {x : Axis} {us : ℕ} (e_ : execExtrapClearTimeout x us s = .next t_) : Fr 0x1000000000000000000000000000000000 s t_ := by
  unfold execExtrapClearTimeout at e_
  obtain rfl := Host.Outcome.next.inj e_
  clear e_
  have h0 := Fr.refl 0x1000000000000000000000000000000000 s
  repeat' first
      | ((try lift_lets); intro v; refine_lift have hv : Fr 0x1000000000000000000000000000000000 s v := ?_; ?_; clear_value v)
      | ((try lift_lets); intro v)
      | with_reducible refine State.set_fr ?_
      | with_reducible refine Fr.running ?_ (fun t ht => ?_)
      | with_reducible refine Fr.ite ?_ ?_
      | with_reducible refine Fr.cond ?_ ?_
      | with_reducible assumption
      | (refine Fr.of_snd (by assumption) ?_)
      | (refine Fr.of_fst (by assumption) ?_)
      | split
      | (unfold v; split)
      | (unfold v; clear_value *; split)
      | (clear_value *; split)

theorem execStall_fr {s t_ : State} {x : Axis} {us : ℕ} (e_ : execStall x us s = .next t_) : Fr 0xc2c01000008004bc1c0004400000000020400000400000000000000000000240002207f420 s t_ := by
  unfold execStall at e_
  obtain rfl := Host.Outcome.next.inj e_
  clear e_
  have h0 := Fr.refl 0xc2c01000008004bc1c0004400000000020400000400000000000000000000240002207f420 s
  repeat' first
      | ((try lift_lets); intro v; refine_lift have hv : Fr 0xc2c01000008004bc1c0004400000000020400000400000000000000000000240002207f420 s v := ?_; ?_; clear_value v)
      | ((try lift_lets); intro v)
      | with_reducible refine State.axisFault_fr ?_
      | with_reducible refine State.set_fr ?_
      | with_reducible refine Fr.running ?_ (fun t ht => ?_)
      | with_reducible refine Fr.ite ?_ ?_
      | with_reducible refine Fr.cond ?_ ?_
      | with_reducible assumption
      | (refine Fr.of_snd (by assumption) ?_)
      | (refine Fr.of_fst (by assumption) ?_)
      | split
      | (unfold v; split)
      | (unfold v; clear_value *; split)
      | (clear_value *; split)

theorem State.alignFound_fr {κ : Nat} {s0 s : State} {x : Axis} {th : Word} (hf_ : Fr κ s0 s) (hk_ : 0x2c01000000000921c001c400000fc0020500004109021000000000000000240000207e430 &&& κ = 0x2c01000000000921c001c400000fc0020500004109021000000000000000240000207e430 := by decide) :
    Fr κ s0 (State.alignFound s x th) := by
  refine Fr.lift hf_ hk_ ?_
  clear hf_ hk_
  unfold State.alignFound
  have h0 := Fr.refl 0x2c01000000000921c001c400000fc0020500004109021000000000000000240000207e430 s
  repeat' first
      | ((try lift_lets); intro v; refine_lift have hv : Fr 0x2c01000000000921c001c400000fc0020500004109021000000000000000240000207e430 s v := ?_; ?_; clear_value v)
      | ((try lift_lets); intro v)
      | with_reducible refine State.goto_fr ?_
      | with_reducible refine State.modSv_fr ?_
      | with_reducible refine State.setW_fr ?_
      | with_reducible refine Fr.ite ?_ ?_
      | with_reducible refine Fr.cond ?_ ?_
      | with_reducible assumption
      | (refine Fr.of_snd (by assumption) ?_)
      | (refine Fr.of_fst (by assumption) ?_)
      | split
      | (unfold v; split)
      | (unfold v; clear_value *; split)
      | (clear_value *; split)

theorem execAlignComplete_fr {s t_ : State} {x : Axis} {us : ℕ} (e_ : execAlignComplete x us s = .next t_) : Fr 0x2c01000000000921c001c400000fc002050000730d031000000080000000240000207e430 s t_ := by
  unfold execAlignComplete at e_
  obtain rfl := Host.Outcome.next.inj e_
  clear e_
  have h0 := Fr.refl 0x2c01000000000921c001c400000fc002050000730d031000000080000000240000207e430 s
  repeat' first
      | ((try lift_lets); intro v; refine_lift have hv : Fr 0x2c01000000000921c001c400000fc002050000730d031000000080000000240000207e430 s v := ?_; ?_; clear_value v)
      | ((try lift_lets); intro v)
      | with_reducible refine State.evalFirst_fr ?_
      | with_reducible refine State.alignFound_fr ?_
      | with_reducible refine Fr.running ?_ (fun t ht => ?_)
      | with_reducible refine Fr.ite ?_ ?_
      | with_reducible refine Fr.cond ?_ ?_
      | with_reducible assumption
      | (refine Fr.of_snd (by assumption) ?_)
      | (refine Fr.of_fst (by assumption) ?_)
      | split
      | (unfold v; split)
      | (unfold v; clear_value *; split)
      | (clear_value *; split)

theorem execInjectionAlignComplete_fr {s t_ : State} {x : Axis} {cycles : ℕ} {sal : Word} {th : Word} (e_ : execInjectionAlignComplete x cycles sal th s = .next t_) : Fr 0xc2c01000008004be1c001c400000fc0020500007f0d031000000080000000240002207f430 s t_ := by
  unfold execInjectionAlignComplete at e_
  obtain rfl := Host.Outcome.next.inj e_
  clear e_
  have h0 := Fr.refl 0xc2c01000008004be1c001c400000fc0020500007f0d031000000080000000240002207f430 s
  repeat' first
      | ((try lift_lets); intro v; refine_lift have hv : Fr 0xc2c01000008004be1c001c400000fc0020500007f0d031000000080000000240002207f430 s v := ?_; ?_; clear_value v)
      | ((try lift_lets); intro v)
      | with_reducible refine State.evalFirst_fr ?_
      | with_reducible refine State.modSv_fr ?_
      | with_reducible refine State.startFail_fr ?_
      | with_reducible refine Fr.running ?_ (fun t ht => ?_)
      | with_reducible refine Fr.ite ?_ ?_
      | with_reducible refine Fr.cond ?_ ?_
      | with_reducible assumption
      | (refine Fr.of_snd (by assumption) ?_)
      | (refine Fr.of_fst (by assumption) ?_)
      | split
      | (unfold v; split)
      | (unfold v; clear_value *; split)
      | (clear_value *; split)

theorem execPolarityPulseEnd_fr {s t_ : State} {x : Axis} {id_ : Word} {t : Word} {us : ℕ} (e_ : execPolarityPulseEnd x id_ t us s = .next t_) : Fr 0xc2c01000008004be1c001c400000fc0020500007f0d031000000080000000240002207f430 s t_ := by
  unfold execPolarityPulseEnd at e_
  obtain rfl := Host.Outcome.next.inj e_
  clear e_
  have h0 := Fr.refl 0xc2c01000008004be1c001c400000fc0020500007f0d031000000080000000240002207f430 s
  repeat' first
      | ((try lift_lets); intro v; refine_lift have hv : Fr 0xc2c01000008004be1c001c400000fc0020500007f0d031000000080000000240002207f430 s v := ?_; ?_; clear_value v)
      | ((try lift_lets); intro v)
      | with_reducible refine State.evalFirst_fr ?_
      | with_reducible refine State.alignFound_fr ?_
      | with_reducible refine State.modSv_fr ?_
      | with_reducible refine State.startFail_fr ?_
      | with_reducible refine Fr.running ?_ (fun t ht => ?_)
      | with_reducible refine Fr.ite ?_ ?_
      | with_reducible refine Fr.cond ?_ ?_
      | with_reducible assumption
      | (refine Fr.of_snd (by assumption) ?_)
      | (refine Fr.of_fst (by assumption) ?_)
      | split
      | (unfold v; split)
      | (unfold v; clear_value *; split)
      | (clear_value *; split)

theorem State.handOver_fr {κ : Nat} {s0 s : State} {x : Axis} (hf_ : Fr κ s0 s) (hk_ : 0xc3c03000008004bc1c0004600000004020400000000000000000000000001a4180aa07f5e0 &&& κ = 0xc3c03000008004bc1c0004600000004020400000000000000000000000001a4180aa07f5e0 := by decide) :
    Fr κ s0 (State.handOver s x) := by
  refine Fr.lift hf_ hk_ ?_
  clear hf_ hk_
  unfold State.handOver
  have h0 := Fr.refl 0xc3c03000008004bc1c0004600000004020400000000000000000000000001a4180aa07f5e0 s
  repeat' first
      | ((try lift_lets); intro v; refine_lift have hv : Fr 0xc3c03000008004bc1c0004600000004020400000000000000000000000001a4180aa07f5e0 s v := ?_; ?_; clear_value v)
      | ((try lift_lets); intro v)
      | with_reducible refine State.modSv_fr ?_
      | with_reducible refine State.selTrack_fr ?_
      | with_reducible refine State.setW_fr ?_
      | with_reducible refine Fr.ite ?_ ?_
      | with_reducible refine Fr.cond ?_ ?_
      | with_reducible assumption
      | (refine Fr.of_snd (by assumption) ?_)
      | (refine Fr.of_fst (by assumption) ?_)
      | split
      | (unfold v; split)
      | (unfold v; clear_value *; split)
      | (clear_value *; split)

theorem State.startEnd_fr {κ : Nat} {s0 s : State} {x : Axis} (hf_ : Fr κ s0 s) (hk_ : 0x2c01000000000921c001c400000fc002050000410d031000000000000000240000207e430 &&& κ = 0x2c01000000000921c001c400000fc002050000410d031000000000000000240000207e430 := by decide) :
    Fr κ s0 (State.startEnd s x) := by
  refine Fr.lift hf_ hk_ ?_
  clear hf_ hk_
  unfold State.startEnd
  have h0 := Fr.refl 0x2c01000000000921c001c400000fc002050000410d031000000000000000240000207e430 s
  repeat' first
      | ((try lift_lets); intro v; refine_lift have hv : Fr 0x2c01000000000921c001c400000fc002050000410d031000000000000000240000207e430 s v := ?_; ?_; clear_value v)
      | ((try lift_lets); intro v)
      | with_reducible refine State.goto_fr ?_
      | with_reducible refine State.set_fr ?_
      | with_reducible refine State.setW_fr ?_
      | with_reducible refine Fr.ite ?_ ?_
      | with_reducible refine Fr.cond ?_ ?_
      | with_reducible assumption
      | (refine Fr.of_snd (by assumption) ?_)
      | (refine Fr.of_fst (by assumption) ?_)
      | split
      | (unfold v; split)
      | (unfold v; clear_value *; split)
      | (clear_value *; split)

theorem execHandover_fr {s t_ : State} {x : Axis} {us : ℕ} (e_ : execHandover x us s = .next t_) : Fr 0xc3c03000008004be1c001c600000fc402050000730d031000000080000001a4180aa07f5f0 s t_ := by
  unfold execHandover at e_
  obtain rfl := Host.Outcome.next.inj e_
  clear e_
  have h0 := Fr.refl 0xc3c03000008004be1c001c600000fc402050000730d031000000080000001a4180aa07f5f0 s
  repeat' first
      | ((try lift_lets); intro v; refine_lift have hv : Fr 0xc3c03000008004be1c001c600000fc402050000730d031000000080000001a4180aa07f5f0 s v := ?_; ?_; clear_value v)
      | ((try lift_lets); intro v)
      | with_reducible refine State.evalFirst_fr ?_
      | with_reducible refine State.handOver_fr ?_
      | with_reducible refine State.startEnd_fr ?_
      | with_reducible refine Fr.running ?_ (fun t ht => ?_)
      | with_reducible refine Fr.ite ?_ ?_
      | with_reducible refine Fr.cond ?_ ?_
      | with_reducible assumption
      | (refine Fr.of_snd (by assumption) ?_)
      | (refine Fr.of_fst (by assumption) ?_)
      | split
      | (unfold v; split)
      | (unfold v; clear_value *; split)
      | (clear_value *; split)

theorem execStartTimeout_fr {s t_ : State} {x : Axis} {us : ℕ} (e_ : execStartTimeout x us s = .next t_) : Fr 0xc2c01000008004be1c001c400000fc0020500007f0d031000000080000000240002207f430 s t_ := by
  unfold execStartTimeout at e_
  obtain rfl := Host.Outcome.next.inj e_
  clear e_
  have h0 := Fr.refl 0xc2c01000008004be1c001c400000fc0020500007f0d031000000080000000240002207f430 s
  repeat' first
      | ((try lift_lets); intro v; refine_lift have hv : Fr 0xc2c01000008004be1c001c400000fc0020500007f0d031000000080000000240002207f430 s v := ?_; ?_; clear_value v)
      | ((try lift_lets); intro v)
      | with_reducible refine State.evalFirst_fr ?_
      | with_reducible refine State.startFail_fr ?_
      | with_reducible refine Fr.running ?_ (fun t ht => ?_)
      | with_reducible refine Fr.ite ?_ ?_
      | with_reducible refine Fr.cond ?_ ?_
      | with_reducible assumption
      | (refine Fr.of_snd (by assumption) ?_)
      | (refine Fr.of_fst (by assumption) ?_)
      | split
      | (unfold v; split)
      | (unfold v; clear_value *; split)
      | (clear_value *; split)

theorem State.flyCaught_fr {κ : Nat} {s0 s : State} {x : Axis} {c : Cmd} {p1 : Word × Word} {p2 : Word × Word} {p3 : Word × Word} (hf_ : Fr κ s0 s) (hk_ : 0x2c01000000000921c001c400000fc402050000491d031000000080000000240000207e430 &&& κ = 0x2c01000000000921c001c400000fc402050000491d031000000080000000240000207e430 := by decide) :
    Fr κ s0 (State.flyCaught s x c p1 p2 p3) := by
  refine Fr.lift hf_ hk_ ?_
  clear hf_ hk_
  unfold State.flyCaught
  have h0 := Fr.refl 0x2c01000000000921c001c400000fc402050000491d031000000080000000240000207e430 s
  repeat' first
      | ((try lift_lets); intro v; refine_lift have hv : Fr 0x2c01000000000921c001c400000fc402050000491d031000000080000000240000207e430 s v := ?_; ?_; clear_value v)
      | ((try lift_lets); intro v)
      | with_reducible refine State.inc_fr ?_
      | with_reducible refine State.modSv_fr ?_
      | with_reducible refine State.setB_fr ?_
      | with_reducible refine State.setW_fr ?_
      | with_reducible refine State.startDone_fr ?_
      | with_reducible refine State.startEnd_fr ?_
      | with_reducible refine Fr.ite ?_ ?_
      | with_reducible refine Fr.cond ?_ ?_
      | with_reducible assumption
      | (refine Fr.of_snd (by assumption) ?_)
      | (refine Fr.of_fst (by assumption) ?_)
      | split
      | (unfold v; split)
      | (unfold v; clear_value *; split)
      | (clear_value *; split)

theorem State.flyDecide_fr {κ : Nat} {s0 s : State} {x : Axis} {c : Cmd} {p1 : Word × Word} {p2 : Word × Word} {p3 : Word × Word} (hf_ : Fr κ s0 s) (hk_ : 0xc2c01000008004be1c001c400000fc4020500005d1d031000000080000000240002207f430 &&& κ = 0xc2c01000008004be1c001c400000fc4020500005d1d031000000080000000240002207f430 := by decide) :
    Fr κ s0 (State.flyDecide s x c p1 p2 p3) := by
  refine Fr.lift hf_ hk_ ?_
  clear hf_ hk_
  unfold State.flyDecide
  have h0 := Fr.refl 0xc2c01000008004be1c001c400000fc4020500005d1d031000000080000000240002207f430 s
  repeat' first
      | ((try lift_lets); intro v; refine_lift have hv : Fr 0xc2c01000008004be1c001c400000fc4020500005d1d031000000080000000240002207f430 s v := ?_; ?_; clear_value v)
      | ((try lift_lets); intro v)
      | with_reducible refine State.failState_fr ?_
      | with_reducible refine State.flyCaught_fr ?_
      | with_reducible refine State.inc_fr ?_
      | with_reducible refine State.modSv_fr ?_
      | with_reducible refine State.set_fr ?_
      | with_reducible refine State.startEntry_fr ?_
      | with_reducible refine Fr.ite ?_ ?_
      | with_reducible refine Fr.cond ?_ ?_
      | with_reducible assumption
      | (refine Fr.of_snd (by assumption) ?_)
      | (refine Fr.of_fst (by assumption) ?_)
      | split
      | (unfold v; split)
      | (unfold v; clear_value *; split)
      | (clear_value *; split)

theorem execFlyingRestartProbe_fr {s t_ : State} {x : Axis} {ia : Word} {ib : Word} (e_ : execFlyingRestartProbe x ia ib s = .next t_) : Fr 0xc2c01000008004be1c001c400000fc4020500007f1d031000000080000000240002207f430 s t_ := by
  unfold execFlyingRestartProbe at e_
  obtain rfl := Host.Outcome.next.inj e_
  clear e_
  have h0 := Fr.refl 0xc2c01000008004be1c001c400000fc4020500007f1d031000000080000000240002207f430 s
  repeat' first
      | ((try lift_lets); intro v; refine_lift have hv : Fr 0xc2c01000008004be1c001c400000fc4020500007f1d031000000080000000240002207f430 s v := ?_; ?_; clear_value v)
      | ((try lift_lets); intro v)
      | with_reducible refine State.evalFirst_fr ?_
      | with_reducible refine State.command_fr ?_
      | with_reducible refine State.flyDecide_fr ?_
      | with_reducible refine State.modSv_fr ?_
      | with_reducible refine Fr.running ?_ (fun t ht => ?_)
      | with_reducible refine Fr.ite ?_ ?_
      | with_reducible refine Fr.cond ?_ ?_
      | with_reducible assumption
      | (refine Fr.of_snd (by assumption) ?_)
      | (refine Fr.of_fst (by assumption) ?_)
      | split
      | (unfold v; split)
      | (unfold v; clear_value *; split)
      | (clear_value *; split)

theorem execFlyRetry_fr {s t_ : State} {x : Axis} {us : ℕ} (e_ : execFlyRetry x us s = .next t_) : Fr 0x18000 s t_ := by
  unfold execFlyRetry at e_
  obtain rfl := Host.Outcome.next.inj e_
  clear e_
  have h0 := Fr.refl 0x18000 s
  repeat' first
      | ((try lift_lets); intro v; refine_lift have hv : Fr 0x18000 s v := ?_; ?_; clear_value v)
      | ((try lift_lets); intro v)
      | with_reducible refine State.modSv_fr ?_
      | with_reducible refine Fr.running ?_ (fun t ht => ?_)
      | with_reducible refine Fr.ite ?_ ?_
      | with_reducible refine Fr.cond ?_ ?_
      | with_reducible assumption
      | (refine Fr.of_snd (by assumption) ?_)
      | (refine Fr.of_fst (by assumption) ?_)
      | split
      | (unfold v; split)
      | (unfold v; clear_value *; split)
      | (clear_value *; split)

theorem State.idStage_fr {κ : Nat} {s0 s : State} {x : Axis} (hf_ : Fr κ s0 s) (hk_ : 0xc3c03000008004bc1c0004600000000020400004000000000000000000001a4180aa07f5e0 &&& κ = 0xc3c03000008004bc1c0004600000000020400004000000000000000000001a4180aa07f5e0 := by decide) :
    Fr κ s0 (State.idStage s x) := by
  refine Fr.lift hf_ hk_ ?_
  clear hf_ hk_
  unfold State.idStage
  have h0 := Fr.refl 0xc3c03000008004bc1c0004600000000020400004000000000000000000001a4180aa07f5e0 s
  repeat' first
      | ((try lift_lets); intro v; refine_lift have hv : Fr 0xc3c03000008004bc1c0004600000000020400004000000000000000000001a4180aa07f5e0 s v := ?_; ?_; clear_value v)
      | ((try lift_lets); intro v)
      | with_reducible refine State.copyOver_fr ?_
      | with_reducible refine State.svcWrite_fr ?_
      | with_reducible refine State.set_fr ?_
      | with_reducible refine State.setBytes_fr ?_
      | with_reducible refine State.st32_fr ?_
      | with_reducible refine Fr.forEach ?_ (fun t a ht => ?_)
      | with_reducible refine Fr.ite ?_ ?_
      | with_reducible refine Fr.cond ?_ ?_
      | with_reducible assumption
      | (refine Fr.of_snd (by assumption) ?_)
      | (refine Fr.of_fst (by assumption) ?_)
      | split
      | (unfold v; split)
      | (unfold v; clear_value *; split)
      | (clear_value *; split)

theorem State.idEnd_fr {κ : Nat} {s0 s : State} {x : Axis} {result : ℕ} (hf_ : Fr κ s0 s) (hk_ : 0xc3c03000008004bc1c0004600000000020400004000001000000080000001a4180aa07f5e0 &&& κ = 0xc3c03000008004bc1c0004600000000020400004000001000000080000001a4180aa07f5e0 := by decide) :
    Fr κ s0 (State.idEnd s x result) := by
  refine Fr.lift hf_ hk_ ?_
  clear hf_ hk_
  unfold State.idEnd
  have h0 := Fr.refl 0xc3c03000008004bc1c0004600000000020400004000001000000080000001a4180aa07f5e0 s
  repeat' first
      | ((try lift_lets); intro v; refine_lift have hv : Fr 0xc3c03000008004bc1c0004600000000020400004000001000000080000001a4180aa07f5e0 s v := ?_; ?_; clear_value v)
      | ((try lift_lets); intro v)
      | with_reducible refine State.cmdArrive_fr ?_
      | with_reducible refine State.idStage_fr ?_
      | with_reducible refine State.modSv_fr ?_
      | with_reducible refine State.set_fr ?_
      | with_reducible refine Fr.ite ?_ ?_
      | with_reducible refine Fr.cond ?_ ?_
      | with_reducible assumption
      | (refine Fr.of_snd (by assumption) ?_)
      | (refine Fr.of_fst (by assumption) ?_)
      | split
      | (unfold v; split)
      | (unfold v; clear_value *; split)
      | (clear_value *; split)

theorem State.idWatch_fr {κ : Nat} {s0 s : State} {x : Axis} {tp : Frac} (hf_ : Fr κ s0 s) (hk_ : 0xc3c03000008004bc1c0004600000000020400004000001000000080000001a4180aa07f5e0 &&& κ = 0xc3c03000008004bc1c0004600000000020400004000001000000080000001a4180aa07f5e0 := by decide) :
    Fr κ s0 (State.idWatch s x tp) := by
  refine Fr.lift hf_ hk_ ?_
  clear hf_ hk_
  unfold State.idWatch
  have h0 := Fr.refl 0xc3c03000008004bc1c0004600000000020400004000001000000080000001a4180aa07f5e0 s
  repeat' first
      | ((try lift_lets); intro v; refine_lift have hv : Fr 0xc3c03000008004bc1c0004600000000020400004000001000000080000001a4180aa07f5e0 s v := ?_; ?_; clear_value v)
      | ((try lift_lets); intro v)
      | with_reducible refine State.idEnd_fr ?_
      | with_reducible refine State.modSv_fr ?_
      | with_reducible refine Fr.ite ?_ ?_
      | with_reducible refine Fr.cond ?_ ?_
      | with_reducible assumption
      | with_reducible exact Fr.id_ (by with_reducible assumption)
      | (refine Fr.of_snd (by assumption) ?_)
      | (refine Fr.of_fst (by assumption) ?_)
      | split
      | (unfold v; split)
      | (unfold v; clear_value *; split)
      | (clear_value *; split)

theorem State.idResult_fr {κ : Nat} {s0 s : State} {x : Axis} {test : ℕ} {m : List Word} {pts : List (Word × Word × Word × Word)} {temp : Word} (hf_ : Fr κ s0 s) (hk_ : 0xfe0000000000000000000000000000000018000 &&& κ = 0xfe0000000000000000000000000000000018000 := by decide) :
    Fr κ s0 (State.idResult s x test m pts temp) := by
  refine Fr.lift hf_ hk_ ?_
  clear hf_ hk_
  unfold State.idResult
  have h0 := Fr.refl 0xfe0000000000000000000000000000000018000 s
  repeat' first
      | ((try lift_lets); intro v; refine_lift have hv : Fr 0xfe0000000000000000000000000000000018000 s v := ?_; ?_; clear_value v)
      | ((try lift_lets); intro v)
      | with_reducible refine State.modSv_fr ?_
      | with_reducible refine State.setW_fr ?_
      | with_reducible refine Fr.ite ?_ ?_
      | with_reducible refine Fr.cond ?_ ?_
      | with_reducible assumption
      | (refine Fr.of_snd (by assumption) ?_)
      | (refine Fr.of_fst (by assumption) ?_)
      | split
      | (unfold v; split)
      | (unfold v; clear_value *; split)
      | (clear_value *; split)

theorem execIdentificationTestEnd_fr {s t_ : State} {x : Axis} {outcome : ℕ} {m : List Word} {pts : List (Word × Word × Word × Word)} {temp : Word} (e_ : execIdentificationTestEnd x outcome m pts temp s = .next t_) : Fr 0xc3c03000008004be1c001c600000fc00205fe00730d031000000080000001a4180aa07f5f0 s t_ := by
  unfold execIdentificationTestEnd at e_
  obtain rfl := Host.Outcome.next.inj e_
  clear e_
  have h0 := Fr.refl 0xc3c03000008004be1c001c600000fc00205fe00730d031000000080000001a4180aa07f5f0 s
  repeat' first
      | ((try lift_lets); intro v; refine_lift have hv : Fr 0xc3c03000008004be1c001c600000fc00205fe00730d031000000080000001a4180aa07f5f0 s v := ?_; ?_; clear_value v)
      | ((try lift_lets); intro v)
      | with_reducible refine State.idFresh_fr ?_
      | with_reducible refine State.evalFirst_fr ?_
      | with_reducible refine State.goto_fr ?_
      | with_reducible refine State.idEnd_fr ?_
      | with_reducible refine State.idResult_fr ?_
      | with_reducible refine State.modSv_fr ?_
      | with_reducible refine State.set_fr ?_
      | with_reducible refine Fr.running ?_ (fun t ht => ?_)
      | with_reducible refine Fr.ite ?_ ?_
      | with_reducible refine Fr.cond ?_ ?_
      | with_reducible assumption
      | (refine Fr.of_snd (by assumption) ?_)
      | (refine Fr.of_fst (by assumption) ?_)
      | split
      | (unfold v; split)
      | (unfold v; clear_value *; split)
      | (clear_value *; split)

theorem State.blvWrite_fr {κ : Nat} {s0 s : State} {by_ : Writer} {x : Axis} {w : Word} (hf_ : Fr κ s0 s) (hk_ : 0x8000000000000000000000000040000010 &&& κ = 0x8000000000000000000000000040000010 := by decide) :
    Fr κ s0 (State.blvWrite s by_ x w) := by
  refine Fr.lift hf_ hk_ ?_
  clear hf_ hk_
  unfold State.blvWrite
  have h0 := Fr.refl 0x8000000000000000000000000040000010 s
  repeat' first
      | ((try lift_lets); intro v; refine_lift have hv : Fr 0x8000000000000000000000000040000010 s v := ?_; ?_; clear_value v)
      | ((try lift_lets); intro v)
      | with_reducible refine State.expert_fr ?_ (fun t ht => ?_)
      | with_reducible refine State.needs_fr ?_ (fun t ht => ?_)
      | with_reducible refine State.setSh_fr ?_
      | with_reducible refine State.wr_fr ?_
      | with_reducible refine Fr.forEach ?_ (fun t a ht => ?_)
      | with_reducible refine Fr.ite ?_ ?_
      | with_reducible refine Fr.cond ?_ ?_
      | with_reducible assumption
      | (refine Fr.of_snd (by assumption) ?_)
      | (refine Fr.of_fst (by assumption) ?_)
      | split
      | (unfold v; split)
      | (unfold v; clear_value *; split)
      | (clear_value *; split)

theorem execBlvCtrlWrite_fr {s t_ : State} {x : Axis} {w : Word} (e_ : execBlvCtrlWrite x w s = .next t_) : Fr 0x8000000000000000000000000040000010 s t_ := by
  unfold execBlvCtrlWrite at e_
  obtain rfl := Host.Outcome.next.inj e_
  clear e_
  have h0 := Fr.refl 0x8000000000000000000000000040000010 s
  repeat' first
      | ((try lift_lets); intro v; refine_lift have hv : Fr 0x8000000000000000000000000040000010 s v := ?_; ?_; clear_value v)
      | ((try lift_lets); intro v)
      | with_reducible refine State.blvWrite_fr ?_
      | with_reducible refine Fr.running ?_ (fun t ht => ?_)
      | with_reducible refine Fr.ite ?_ ?_
      | with_reducible refine Fr.cond ?_ ?_
      | with_reducible assumption
      | (refine Fr.of_snd (by assumption) ?_)
      | (refine Fr.of_fst (by assumption) ?_)
      | split
      | (unfold v; split)
      | (unfold v; clear_value *; split)
      | (clear_value *; split)

end Sys2Proof.Machine
end

