-- ==== Sys2Proof/Laws/FrameSample.lean ====
section
/-! SUPPORT. Frames of the operations of Machine/Sample.lean: one lemma each (Laws/Frame.lean). -/

namespace Sys2Proof.Machine

set_option Elab.async false

theorem execOwnWrite_fr {s t_ : State} {x : Axis} {w : Word} (e_ : execOwnWrite x w s = .next t_) : Fr 0x8000000e00000101e000e00008000000000000000000000018410 s t_ := by
  unfold execOwnWrite at e_
  obtain rfl := Host.Outcome.next.inj e_
  clear e_
  have h0 := Fr.refl 0x8000000e00000101e000e00008000000000000000000000018410 s
  repeat' first
      | ((try lift_lets); intro v; refine_lift have hv : Fr 0x8000000e00000101e000e00008000000000000000000000018410 s v := ?_; ?_; clear_value v)
      | ((try lift_lets); intro v)
      | with_reducible refine State.ownWrite_fr ?_
      | with_reducible refine Fr.running ?_ (fun t ht => ?_)
      | with_reducible refine Fr.ite ?_ ?_
      | with_reducible refine Fr.cond ?_ ?_
      | with_reducible assumption
      | (refine Fr.of_snd (by assumption) ?_)
      | (refine Fr.of_fst (by assumption) ?_)
      | split
      | (unfold v; split)
      | (unfold v; clear_value *; split)
      | (clear_value *; split)

theorem State.unmapped_fr {κ : Nat} {s0 s : State} {x : Axis} (hf_ : Fr κ s0 s) (hk_ : 0x80000000000000000018800 &&& κ = 0x80000000000000000018800 := by decide) :
    Fr κ s0 (State.unmapped s x) := by
  refine Fr.lift hf_ hk_ ?_
  clear hf_ hk_
  unfold State.unmapped
  have h0 := Fr.refl 0x80000000000000000018800 s
  repeat' first
      | ((try lift_lets); intro v; refine_lift have hv : Fr 0x80000000000000000018800 s v := ?_; ?_; clear_value v)
      | ((try lift_lets); intro v)
      | with_reducible refine State.putQuant_fr ?_
      | with_reducible refine Fr.forEach ?_ (fun t a ht => ?_)
      | with_reducible refine Fr.ite ?_ ?_
      | with_reducible refine Fr.cond ?_ ?_
      | with_reducible assumption
      | (refine Fr.of_snd (by assumption) ?_)
      | (refine Fr.of_fst (by assumption) ?_)
      | split
      | (unfold v; split)
      | (unfold v; clear_value *; split)
      | (clear_value *; split)

theorem State.latchSources_fr {κ : Nat} {s0 s : State} {x : Axis} {n : ℕ} (hf_ : Fr κ s0 s) (hk_ : 0xc3c03000008004bc1c0004600000000020400000000000000000000000001a4180aa07fde0 &&& κ = 0xc3c03000008004bc1c0004600000000020400000000000000000000000001a4180aa07fde0 := by decide) :
    Fr κ s0 (State.latchSources s x n) := by
  refine Fr.lift hf_ hk_ ?_
  clear hf_ hk_
  unfold State.latchSources
  have h0 := Fr.refl 0xc3c03000008004bc1c0004600000000020400000000000000000000000001a4180aa07fde0 s
  repeat' first
      | ((try lift_lets); intro v; refine_lift have hv : Fr 0xc3c03000008004bc1c0004600000000020400000000000000000000000001a4180aa07fde0 s v := ?_; ?_; clear_value v)
      | ((try lift_lets); intro v)
      | with_reducible refine State.modSv_fr ?_
      | with_reducible refine State.torquePut_fr ?_
      | with_reducible refine State.putSrc_fr ?_
      | with_reducible refine Fr.ite ?_ ?_
      | with_reducible refine Fr.cond ?_ ?_
      | with_reducible assumption
      | (refine Fr.of_snd (by assumption) ?_)
      | (refine Fr.of_fst (by assumption) ?_)
      | split
      | (unfold v; split)
      | (unfold v; clear_value *; split)
      | (clear_value *; split)

theorem State.outerRelease_fr {κ : Nat} {s0 s : State} {x : Axis} (hf_ : Fr κ s0 s) (hk_ : 0x400 &&& κ = 0x400 := by decide) :
    Fr κ s0 (State.outerRelease s x) := by
  refine Fr.lift hf_ hk_ ?_
  clear hf_ hk_
  unfold State.outerRelease
  have h0 := Fr.refl 0x400 s
  repeat' first
      | ((try lift_lets); intro v; refine_lift have hv : Fr 0x400 s v := ?_; ?_; clear_value v)
      | ((try lift_lets); intro v)
      | with_reducible refine State.modFab_fr ?_
      | with_reducible refine State.signalGraph_fr ?_
      | with_reducible refine Fr.forEach ?_ (fun t a ht => ?_)
      | with_reducible refine Fr.ite ?_ ?_
      | with_reducible refine Fr.cond ?_ ?_
      | with_reducible assumption
      | (refine Fr.of_snd (by assumption) ?_)
      | (refine Fr.of_fst (by assumption) ?_)
      | split
      | (unfold v; split)
      | (unfold v; clear_value *; split)
      | (clear_value *; split)

theorem State.slotZero_fr {κ : Nat} {s0 s : State} {x : Axis} (hf_ : Fr κ s0 s) (hk_ : 0x2c010000000008000000040003c02000d1000000000020000000000000002400002018400 &&& κ = 0x2c010000000008000000040003c02000d1000000000020000000000000002400002018400 := by decide) :
    Fr κ s0 (State.slotZero s x) := by
  refine Fr.lift hf_ hk_ ?_
  clear hf_ hk_
  unfold State.slotZero
  have h0 := Fr.refl 0x2c010000000008000000040003c02000d1000000000020000000000000002400002018400 s
  repeat' first
      | ((try lift_lets); intro v; refine_lift have hv : Fr 0x2c010000000008000000040003c02000d1000000000020000000000000002400002018400 s v := ?_; ?_; clear_value v)
      | ((try lift_lets); intro v)
      | with_reducible refine State.homeNow_fr ?_
      | with_reducible refine State.loopTake_fr ?_
      | with_reducible refine State.modeTake_fr ?_
      | with_reducible refine State.takeDerived_fr ?_
      | with_reducible refine Fr.ite ?_ ?_
      | with_reducible refine Fr.cond ?_ ?_
      | with_reducible assumption
      | (refine Fr.of_snd (by assumption) ?_)
      | (refine Fr.of_fst (by assumption) ?_)
      | split
      | (unfold v; split)
      | (unfold v; clear_value *; split)
      | (clear_value *; split)

theorem State.periodBegin_fr {κ : Nat} {s0 s : State} {x : Axis} (hf_ : Fr κ s0 s) (hk_ : 0xc3c03000008004bc1c000460e03002c020400004508001000000080000001a4180aa1ff5e0 &&& κ = 0xc3c03000008004bc1c000460e03002c020400004508001000000080000001a4180aa1ff5e0 := by decide) :
    Fr κ s0 (State.periodBegin s x) := by
  refine Fr.lift hf_ hk_ ?_
  clear hf_ hk_
  unfold State.periodBegin
  have h0 := Fr.refl 0xc3c03000008004bc1c000460e03002c020400004508001000000080000001a4180aa1ff5e0 s
  repeat' first
      | ((try lift_lets); intro v; refine_lift have hv : Fr 0xc3c03000008004bc1c000460e03002c020400004508001000000080000001a4180aa1ff5e0 s v := ?_; ?_; clear_value v)
      | ((try lift_lets); intro v)
      | with_reducible refine State.idWatch_fr ?_
      | with_reducible refine State.modTb_fr ?_
      | with_reducible refine State.servicePeriod_fr ?_
      | with_reducible refine Fr.ite ?_ ?_
      | with_reducible refine Fr.cond ?_ ?_
      | with_reducible assumption
      | (refine Fr.of_snd (by assumption) ?_)
      | (refine Fr.of_fst (by assumption) ?_)
      | split
      | (unfold v; split)
      | (unfold v; clear_value *; split)
      | (clear_value *; split)

theorem State.ov2Check_fr {κ : Nat} {s0 s : State} {x : Axis} (hf_ : Fr κ s0 s) (hk_ : 0xc2c01000008004bc1c0004400000000020400000000000000000000000000240002207f420 &&& κ = 0xc2c01000008004bc1c0004400000000020400000000000000000000000000240002207f420 := by decide) :
    Fr κ s0 (State.ov2Check s x) := by
  refine Fr.lift hf_ hk_ ?_
  clear hf_ hk_
  unfold State.ov2Check
  have h0 := Fr.refl 0xc2c01000008004bc1c0004400000000020400000000000000000000000000240002207f420 s
  repeat' first
      | ((try lift_lets); intro v; refine_lift have hv : Fr 0xc2c01000008004bc1c0004400000000020400000000000000000000000000240002207f420 s v := ?_; ?_; clear_value v)
      | ((try lift_lets); intro v)
      | with_reducible refine State.busOvFault_fr ?_
      | with_reducible refine State.modAx_fr ?_
      | with_reducible refine State.modSv_fr ?_
      | with_reducible refine State.setCause_fr ?_
      | with_reducible refine Fr.ite ?_ ?_
      | with_reducible refine Fr.cond ?_ ?_
      | with_reducible assumption
      | with_reducible exact Fr.id_ (by with_reducible assumption)
      | (refine Fr.of_snd (by assumption) ?_)
      | (refine Fr.of_fst (by assumption) ?_)
      | split
      | (unfold v; split)
      | (unfold v; clear_value *; split)
      | (clear_value *; split)

theorem State.announce_fr {κ : Nat} {s0 s : State} {x : Axis} {n : Nat} (hf_ : Fr κ s0 s) (hk_ : 0x180000 &&& κ = 0x180000 := by decide) :
    Fr κ s0 (State.announce s x n) := by
  refine Fr.lift hf_ hk_ ?_
  clear hf_ hk_
  unfold State.announce
  have h0 := Fr.refl 0x180000 s
  repeat' first
      | ((try lift_lets); intro v; refine_lift have hv : Fr 0x180000 s v := ?_; ?_; clear_value v)
      | ((try lift_lets); intro v)
      | with_reducible refine State.modTb_fr ?_
      | with_reducible refine Fr.ite ?_ ?_
      | with_reducible refine Fr.cond ?_ ?_
      | with_reducible assumption
      | with_reducible exact Fr.id_ (by with_reducible assumption)
      | (refine Fr.of_snd (by assumption) ?_)
      | (refine Fr.of_fst (by assumption) ?_)
      | split
      | (unfold v; split)
      | (unfold v; clear_value *; split)
      | (clear_value *; split)

theorem execSampleInstant_fr {s t_ : State} {x : Axis} {n : ℕ} {at_ : ℕ} {captured : List (List Bool)} (e_ : execSampleInstant x n at_ captured s = .next t_) : Fr 0xc3c0300001a004bc1c000c60e03ce2c02d501e045ec033800058080000001a4580ae7ffdf0 s t_ := by
  unfold execSampleInstant at e_
  obtain rfl := Host.Outcome.next.inj e_
  clear e_
  have h0 := Fr.refl 0xc3c0300001a004bc1c000c60e03ce2c02d501e045ec033800058080000001a4580ae7ffdf0 s
  repeat' first
      | ((try lift_lets); intro v; refine_lift have hv : Fr 0xc3c0300001a004bc1c000c60e03ce2c02d501e045ec033800058080000001a4580ae7ffdf0 s v := ?_; ?_; clear_value v)
      | ((try lift_lets); intro v)
      | with_reducible refine State.announce_fr ?_
      | with_reducible refine State.grtShow_fr ?_
      | with_reducible refine State.loopInputs_fr ?_
      | with_reducible refine State.modOtp_fr ?_
      | with_reducible refine State.ov2Check_fr ?_
      | with_reducible refine Fr.forEach ?_ (fun t a ht => ?_)
      | with_reducible refine State.groupsReturn_fr ?_
      | with_reducible refine State.latchSources_fr ?_
      | with_reducible refine State.limitJudge_fr ?_
      | with_reducible refine State.maskPut_fr ?_
      | with_reducible refine State.outerRelease_fr ?_
      | with_reducible refine State.ownActivate_fr ?_
      | with_reducible refine State.periodBegin_fr ?_
      | with_reducible refine State.posDeliver_fr ?_
      | with_reducible refine State.reverifyAsk_fr ?_
      | with_reducible refine State.seqBegin_fr ?_
      | with_reducible refine State.signalGraph_fr ?_
      | with_reducible refine State.sinc3_fr ?_
      | with_reducible refine State.slotOpen_fr ?_
      | with_reducible refine State.slotZero_fr ?_
      | with_reducible refine State.speedUpdate_fr ?_
      | with_reducible refine State.unmapped_fr ?_
      | with_reducible refine Fr.ite ?_ ?_
      | with_reducible refine Fr.cond ?_ ?_
      | with_reducible assumption
      | with_reducible exact Fr.id_ (by with_reducible assumption)
      | (refine Fr.of_snd (by assumption) ?_)
      | (refine Fr.of_fst (by assumption) ?_)
      | split
      | (unfold v; split)
      | (unfold v; clear_value *; split)
      | (clear_value *; split)

end Sys2Proof.Machine
end

