-- ==== Sys2Proof/Laws/FrameGrotto.lean ====
section
/-! SUPPORT. Frames of the operations of Machine/Grotto.lean: one lemma each (Laws/Frame.lean). -/

namespace Sys2Proof.Machine

set_option Elab.async false

theorem State.setCell_fr {κ : Nat} {s0 s : State} {copy : Nat} {k : Nat} {a : Nat} {w : Word} (hf_ : Fr κ s0 s) (hk_ : 0x4000000 &&& κ = 0x4000000 := by decide) :
    Fr κ s0 (State.setCell s copy k a w) := by
  refine Fr.lift hf_ hk_ ?_
  clear hf_ hk_
  unfold State.setCell
  have h0 := Fr.refl 0x4000000 s
  repeat' first
      | ((try lift_lets); intro v; refine_lift have hv : Fr 0x4000000 s v := ?_; ?_; clear_value v)
      | ((try lift_lets); intro v)
      | with_reducible refine State.modOtp_fr ?_
      | with_reducible refine Fr.ite ?_ ?_
      | with_reducible refine Fr.cond ?_ ?_
      | with_reducible assumption
      | with_reducible exact Fr.id_ (by with_reducible assumption)
      | (refine Fr.of_snd (by assumption) ?_)
      | (refine Fr.of_fst (by assumption) ?_)
      | split
      | (unfold v; split)
      | (unfold v; clear_value *; split)
      | (clear_value *; split)

theorem State.otpRead_fr {κ : Nat} {s0 s : State} {l : List GrtRead} (hf_ : Fr κ s0 s) (hk_ : 0x4000000 &&& κ = 0x4000000 := by decide) :
    Fr κ s0 (State.otpRead s l) := by
  refine Fr.lift hf_ hk_ ?_
  clear hf_ hk_
  unfold State.otpRead
  have h0 := Fr.refl 0x4000000 s
  repeat' first
      | ((try lift_lets); intro v; refine_lift have hv : Fr 0x4000000 s v := ?_; ?_; clear_value v)
      | ((try lift_lets); intro v)
      | with_reducible refine State.setCell_fr ?_
      | with_reducible refine Fr.forEach ?_ (fun t a ht => ?_)
      | with_reducible refine Fr.ite ?_ ?_
      | with_reducible refine Fr.cond ?_ ?_
      | with_reducible assumption
      | (refine Fr.of_snd (by assumption) ?_)
      | (refine Fr.of_fst (by assumption) ?_)
      | split
      | (unfold v; split)
      | (unfold v; clear_value *; split)
      | (clear_value *; split)

theorem State.weakFind_fr {κ : Nat} {s0 s : State}  (hf_ : Fr κ s0 s) (hk_ : 0x82000000000000000000000000000000000000000000000000000000000000000 &&& κ = 0x82000000000000000000000000000000000000000000000000000000000000000 := by decide) :
    Fr κ s0 (State.weakFind s).1 := by
  refine Fr.lift hf_ hk_ ?_
  clear hf_ hk_
  unfold State.weakFind
  have h0 := Fr.refl 0x82000000000000000000000000000000000000000000000000000000000000000 s
  repeat' first
      | ((try lift_lets); intro v; refine_lift have hv : Fr 0x82000000000000000000000000000000000000000000000000000000000000000 s v := ?_; ?_; clear_value v)
      | ((try lift_lets); intro v)
      | with_reducible refine State.set_fr ?_
      | with_reducible refine Fr.ite ?_ ?_
      | with_reducible refine Fr.cond ?_ ?_
      | with_reducible assumption
      | (refine Fr.of_snd (by assumption) ?_)
      | (refine Fr.of_fst (by assumption) ?_)
      | split
      | (unfold v; split)
      | (unfold v; clear_value *; split)
      | (clear_value *; split)

@[simp] theorem countFld_fam {p : Nat} : fam (countFld p).reg = 222 := by unfold countFld; (repeat' split) <;> rfl

theorem State.showCounters_fr {κ : Nat} {s0 s : State}  (hf_ : Fr κ s0 s) (hk_ : 0x6000000000000000000000000000000000000000000000000000000000000000 &&& κ = 0x6000000000000000000000000000000000000000000000000000000000000000 := by decide) :
    Fr κ s0 (State.showCounters s) := by
  refine Fr.lift hf_ hk_ ?_
  clear hf_ hk_
  unfold State.showCounters
  have h0 := Fr.refl 0x6000000000000000000000000000000000000000000000000000000000000000 s
  repeat' first
      | ((try lift_lets); intro v; refine_lift have hv : Fr 0x6000000000000000000000000000000000000000000000000000000000000000 s v := ?_; ?_; clear_value v)
      | ((try lift_lets); intro v)
      | with_reducible refine State.set_fr ?_
      | with_reducible refine State.setBit_fr ?_
      | with_reducible refine Fr.forEach ?_ (fun t a ht => ?_)
      | with_reducible refine Fr.ite ?_ ?_
      | with_reducible refine Fr.cond ?_ ?_
      | with_reducible assumption
      | (refine Fr.of_snd (by assumption) ?_)
      | (refine Fr.of_fst (by assumption) ?_)
      | split
      | (unfold v; split)
      | (unfold v; clear_value *; split)
      | (clear_value *; split)

theorem State.showSlots_fr {κ : Nat} {s0 s : State}  (hf_ : Fr κ s0 s) (hk_ : 0x2000000000000000000000000000000000000000000000000000000000000000 &&& κ = 0x2000000000000000000000000000000000000000000000000000000000000000 := by decide) :
    Fr κ s0 (State.showSlots s) := by
  refine Fr.lift hf_ hk_ ?_
  clear hf_ hk_
  unfold State.showSlots
  have h0 := Fr.refl 0x2000000000000000000000000000000000000000000000000000000000000000 s
  repeat' first
      | ((try lift_lets); intro v; refine_lift have hv : Fr 0x2000000000000000000000000000000000000000000000000000000000000000 s v := ?_; ?_; clear_value v)
      | ((try lift_lets); intro v)
      | with_reducible refine State.set_fr ?_
      | with_reducible refine State.setB_fr ?_
      | with_reducible refine Fr.ite ?_ ?_
      | with_reducible refine Fr.cond ?_ ?_
      | with_reducible assumption
      | (refine Fr.of_snd (by assumption) ?_)
      | (refine Fr.of_fst (by assumption) ?_)
      | split
      | (unfold v; split)
      | (unfold v; clear_value *; split)
      | (clear_value *; split)

theorem State.cellTo_fr {κ : Nat} {s0 s : State} {copy : Nat} {a : Nat} {b : Nat} {n : Nat} (hf_ : Fr κ s0 s) (hk_ : 0x4000000 &&& κ = 0x4000000 := by decide) :
    Fr κ s0 (State.cellTo s copy a b n) := by
  refine Fr.lift hf_ hk_ ?_
  clear hf_ hk_
  unfold State.cellTo
  have h0 := Fr.refl 0x4000000 s
  repeat' first
      | ((try lift_lets); intro v; refine_lift have hv : Fr 0x4000000 s v := ?_; ?_; clear_value v)
      | ((try lift_lets); intro v)
      | with_reducible refine Fr.forEach ?_ (fun t a ht => ?_)
      | with_reducible refine State.setCell_fr ?_
      | with_reducible refine Fr.ite ?_ ?_
      | with_reducible refine Fr.cond ?_ ?_
      | with_reducible assumption
      | with_reducible exact Fr.id_ (by with_reducible assumption)
      | (refine Fr.of_snd (by assumption) ?_)
      | (refine Fr.of_fst (by assumption) ?_)
      | split
      | (unfold v; split)
      | (unfold v; clear_value *; split)
      | (clear_value *; split)

theorem State.cellFree_fr {κ : Nat} {s0 s : State} {copy : Nat} {a : Nat} {b : Nat} {lo : Nat} {hi : Nat} (hf_ : Fr κ s0 s) (hk_ : 0x84000000 &&& κ = 0x84000000 := by decide) :
    Fr κ s0 (State.cellFree s copy a b lo hi) := by
  refine Fr.lift hf_ hk_ ?_
  clear hf_ hk_
  unfold State.cellFree
  have h0 := Fr.refl 0x84000000 s
  repeat' first
      | ((try lift_lets); intro v; refine_lift have hv : Fr 0x84000000 s v := ?_; ?_; clear_value v)
      | ((try lift_lets); intro v)
      | with_reducible refine State.cellTo_fr ?_
      | with_reducible refine State.freshNat_fr ?_
      | with_reducible refine Fr.ite ?_ ?_
      | with_reducible refine Fr.cond ?_ ?_
      | with_reducible assumption
      | with_reducible exact Fr.id_ (by with_reducible assumption)
      | (refine Fr.of_snd (by assumption) ?_)
      | (refine Fr.of_fst (by assumption) ?_)
      | split
      | (unfold v; split)
      | (unfold v; clear_value *; split)
      | (clear_value *; split)

theorem State.pulse_fr {κ : Nat} {s0 s : State} {copy : Nat} {a : Nat} {b : Nat} {p : Pulse} (hf_ : Fr κ s0 s) (hk_ : 0xc2c01000048004ac00000040000000000000000000000000000000000000024000a601f400 &&& κ = 0xc2c01000048004ac00000040000000000000000000000000000000000000024000a601f400 := by decide) :
    Fr κ s0 (State.pulse s copy a b p).1 := by
  refine Fr.lift hf_ hk_ ?_
  clear hf_ hk_
  unfold State.pulse
  have h0 := Fr.refl 0xc2c01000048004ac00000040000000000000000000000000000000000000024000a601f400 s
  repeat' first
      | ((try lift_lets); intro v; refine_lift have hv : Fr 0xc2c01000048004ac00000040000000000000000000000000000000000000024000a601f400 s v := ?_; ?_; clear_value v)
      | ((try lift_lets); intro v)
      | with_reducible refine State.cellFree_fr ?_
      | with_reducible refine State.fault_fr ?_
      | with_reducible refine State.inc_fr ?_
      | with_reducible refine State.modOtp_fr ?_
      | with_reducible refine State.set_fr ?_
      | with_reducible refine Fr.ite ?_ ?_
      | with_reducible refine Fr.cond ?_ ?_
      | with_reducible assumption
      | with_reducible exact Fr.id_ (by with_reducible assumption)
      | (refine Fr.of_snd (by assumption) ?_)
      | (refine Fr.of_fst (by assumption) ?_)
      | split
      | (unfold v; split)
      | (unfold v; clear_value *; split)
      | (clear_value *; split)

theorem State.blowCopy_fr {κ : Nat} {s0 s : State} {copy : ℕ} {a : ℕ} {b : ℕ} {out : List Pulse} (hf_ : Fr κ s0 s) (hk_ : 0xc2c01000048004ac00000040000000000000000000000000000000000000024000a601f400 &&& κ = 0xc2c01000048004ac00000040000000000000000000000000000000000000024000a601f400 := by decide) :
    Fr κ s0 (State.blowCopy s copy a b out).1 := by
  refine Fr.lift hf_ hk_ ?_
  clear hf_ hk_ s0
  induction out generalizing s with
  | nil =>
    unfold State.blowCopy
    split <;> exact Fr.refl _ _
  | cons p r ih =>
    unfold State.blowCopy
    have h := State.pulse_fr (κ := 0xc2c01000048004ac00000040000000000000000000000000000000000000024000a601f400) (copy := copy) (a := a) (b := b) (p := p) (Fr.refl _ s)
    split
    · exact Fr.refl _ _
    · rcases hp : s.pulse copy a b p with ⟨u, _ | e⟩ <;> rw [hp] at h <;> simp only [hp]
      · exact h.trans ih
      · exact h

theorem State.copyMade_fr {κ : Nat} {s0 s : State} (hf_ : Fr κ s0 s) (hk_ : 0x4000000 &&& κ = 0x4000000 := by decide) :
    Fr κ s0 (State.copyMade s) := by
  refine Fr.lift hf_ hk_ ?_
  clear hf_ hk_
  unfold State.copyMade
  have h0 := Fr.refl 0x4000000 s
  repeat' first
      | ((try lift_lets); intro v; refine_lift have hv : Fr 0x4000000 s v := ?_; ?_; clear_value v)
      | ((try lift_lets); intro v)
      | with_reducible refine State.modOtp_fr ?_
      | with_reducible refine Fr.ite ?_ ?_
      | with_reducible refine Fr.cond ?_ ?_
      | with_reducible assumption
      | with_reducible exact Fr.id_ (by with_reducible assumption)
      | (refine Fr.of_snd (by assumption) ?_)
      | (refine Fr.of_fst (by assumption) ?_)
      | split
      | (unfold v; split)
      | (unfold v; clear_value *; split)
      | (clear_value *; split)

theorem State.blowBit_fr {κ : Nat} {s0 s : State} {a : ℕ} {b : ℕ} {out : List Pulse} (hf_ : Fr κ s0 s) (hk_ : 0xc2c01000048004ac00000040000000000000000000000000000000000000024000a601f400 &&& κ = 0xc2c01000048004ac00000040000000000000000000000000000000000000024000a601f400 := by decide) :
    Fr κ s0 (State.blowBit s a b out).1 := by
  refine Fr.lift hf_ hk_ ?_
  clear hf_ hk_
  unfold State.blowBit
  have h0 := Fr.refl 0xc2c01000048004ac00000040000000000000000000000000000000000000024000a601f400 s
  repeat' first
      | ((try lift_lets); intro v; refine_lift have hv : Fr 0xc2c01000048004ac00000040000000000000000000000000000000000000024000a601f400 s v := ?_; ?_; clear_value v)
      | ((try lift_lets); intro v)
      | with_reducible refine State.copyMade_fr ?_
      | with_reducible refine State.blowCopy_fr ?_
      | with_reducible refine State.modOtp_fr ?_
      | with_reducible refine Fr.ite ?_ ?_
      | with_reducible refine Fr.cond ?_ ?_
      | with_reducible assumption
      | (refine Fr.of_snd (by assumption) ?_)
      | (refine Fr.of_fst (by assumption) ?_)
      | split
      | (unfold v; split)
      | (unfold v; clear_value *; split)
      | (clear_value *; split)

theorem State.blowBits_fr {κ : Nat} {s0 s : State} {l : List (ℕ × ℕ)} {out : List Pulse} (hf_ : Fr κ s0 s) (hk_ : 0xc2c01000048004ac00000040000000000000000000000000000000000000024000a601f400 &&& κ = 0xc2c01000048004ac00000040000000000000000000000000000000000000024000a601f400 := by decide) :
    Fr κ s0 (State.blowBits s l out).1 := by
  refine Fr.lift hf_ hk_ ?_
  clear hf_ hk_ s0
  revert s
  induction l generalizing out with
  | nil =>
    intro s
    unfold State.blowBits
    (
    have h0 := Fr.refl 0xc2c01000048004ac00000040000000000000000000000000000000000000024000a601f400 s
    repeat' first
        | ((try lift_lets); intro v; refine_lift have hv : Fr 0xc2c01000048004ac00000040000000000000000000000000000000000000024000a601f400 s v := ?_; ?_; clear_value v)
        | ((try lift_lets); intro v)
        | with_reducible refine State.blowBit_fr ?_
        | with_reducible refine Fr.ite ?_ ?_
        | with_reducible refine Fr.cond ?_ ?_
        | with_reducible assumption
        | (refine Fr.of_snd (by assumption) ?_)
        | (refine Fr.of_fst (by assumption) ?_)
        | split
        | (unfold v; split)
        | (unfold v; clear_value *; split)
        | (clear_value *; split)
        | (injections; subst_vars))
  | cons c_ r_ ih =>
    intro s
    unfold State.blowBits
    (
    have h0 := Fr.refl 0xc2c01000048004ac00000040000000000000000000000000000000000000024000a601f400 s
    repeat' first
        | ((try lift_lets); intro v; refine_lift have hv : Fr 0xc2c01000048004ac00000040000000000000000000000000000000000000024000a601f400 s v := ?_; ?_; clear_value v)
        | ((try lift_lets); intro v)
        | with_reducible refine State.blowBit_fr ?_
        | with_reducible refine Fr.trans ?_ ih
        | with_reducible refine Fr.ite ?_ ?_
        | with_reducible refine Fr.cond ?_ ?_
        | with_reducible assumption
        | (refine Fr.of_snd (by assumption) ?_)
        | (refine Fr.of_fst (by assumption) ?_)
        | split
        | (unfold v; split)
        | (unfold v; clear_value *; split)
        | (clear_value *; split)
        | (injections; subst_vars))

theorem State.grtAsk_fr {κ : Nat} {s0 s : State} {r : GrtReq} (hf_ : Fr κ s0 s) (hk_ : 0x12000000000000000000000000000000000000000000000000000040004000000 &&& κ = 0x12000000000000000000000000000000000000000000000000000040004000000 := by decide) :
    Fr κ s0 (State.grtAsk s r) := by
  refine Fr.lift hf_ hk_ ?_
  clear hf_ hk_
  unfold State.grtAsk
  have h0 := Fr.refl 0x12000000000000000000000000000000000000000000000000000040004000000 s
  repeat' first
      | ((try lift_lets); intro v; refine_lift have hv : Fr 0x12000000000000000000000000000000000000000000000000000040004000000 s v := ?_; ?_; clear_value v)
      | ((try lift_lets); intro v)
      | with_reducible refine State.grtShow_fr ?_
      | with_reducible refine State.modOtp_fr ?_
      | with_reducible refine Fr.ite ?_ ?_
      | with_reducible refine Fr.cond ?_ ?_
      | with_reducible assumption
      | (refine Fr.of_snd (by assumption) ?_)
      | (refine Fr.of_fst (by assumption) ?_)
      | split
      | (unfold v; split)
      | (unfold v; clear_value *; split)
      | (clear_value *; split)

theorem State.progWrite_fr {κ : Nat} {s0 s : State} {w : Word} (hf_ : Fr κ s0 s) (hk_ : 0x12000000000000000000000000000000000000000000000000000040004000000 &&& κ = 0x12000000000000000000000000000000000000000000000000000040004000000 := by decide) :
    Fr κ s0 (State.progWrite s w) := by
  refine Fr.lift hf_ hk_ ?_
  clear hf_ hk_
  unfold State.progWrite
  have h0 := Fr.refl 0x12000000000000000000000000000000000000000000000000000040004000000 s
  repeat' first
      | ((try lift_lets); intro v; refine_lift have hv : Fr 0x12000000000000000000000000000000000000000000000000000040004000000 s v := ?_; ?_; clear_value v)
      | ((try lift_lets); intro v)
      | with_reducible refine State.grtAsk_fr ?_
      | with_reducible refine Fr.ite ?_ ?_
      | with_reducible refine Fr.cond ?_ ?_
      | with_reducible assumption
      | (refine Fr.of_snd (by assumption) ?_)
      | (refine Fr.of_fst (by assumption) ?_)
      | split
      | (unfold v; split)
      | (unfold v; clear_value *; split)
      | (clear_value *; split)

theorem State.grtEnd_fr {κ : Nat} {s0 s : State} {result : ℕ} (hf_ : Fr κ s0 s) (hk_ : 0x2c01000056000800000004000000000000000000000000000000000000002440006018400 &&& κ = 0x2c01000056000800000004000000000000000000000000000000000000002440006018400 := by decide) :
    Fr κ s0 (State.grtEnd s result) := by
  refine Fr.lift hf_ hk_ ?_
  clear hf_ hk_
  unfold State.grtEnd
  have h0 := Fr.refl 0x2c01000056000800000004000000000000000000000000000000000000002440006018400 s
  repeat' first
      | ((try lift_lets); intro v; refine_lift have hv : Fr 0x2c01000056000800000004000000000000000000000000000000000000002440006018400 s v := ?_; ?_; clear_value v)
      | ((try lift_lets); intro v)
      | with_reducible refine State.event_fr ?_
      | with_reducible refine State.grtShow_fr ?_
      | with_reducible refine State.modOtp_fr ?_
      | with_reducible refine State.set_fr ?_
      | with_reducible refine State.showCounters_fr ?_
      | with_reducible refine Fr.ite ?_ ?_
      | with_reducible refine Fr.cond ?_ ?_
      | with_reducible assumption
      | (refine Fr.of_snd (by assumption) ?_)
      | (refine Fr.of_fst (by assumption) ?_)
      | split
      | (unfold v; split)
      | (unfold v; clear_value *; split)
      | (clear_value *; split)

theorem State.grtBegin_fr {κ : Nat} {s0 s : State} {r : GrtReq} (hf_ : Fr κ s0 s) (hk_ : 0x40000000000000000000000000000000000000000000000000000000004000000 &&& κ = 0x40000000000000000000000000000000000000000000000000000000004000000 := by decide) :
    Fr κ s0 (State.grtBegin s r) := by
  refine Fr.lift hf_ hk_ ?_
  clear hf_ hk_
  unfold State.grtBegin
  have h0 := Fr.refl 0x40000000000000000000000000000000000000000000000000000000004000000 s
  repeat' first
      | ((try lift_lets); intro v; refine_lift have hv : Fr 0x40000000000000000000000000000000000000000000000000000000004000000 s v := ?_; ?_; clear_value v)
      | ((try lift_lets); intro v)
      | with_reducible refine State.modOtp_fr ?_
      | with_reducible refine State.set_fr ?_
      | with_reducible refine Fr.ite ?_ ?_
      | with_reducible refine Fr.cond ?_ ?_
      | with_reducible assumption
      | (refine Fr.of_snd (by assumption) ?_)
      | (refine Fr.of_fst (by assumption) ?_)
      | split
      | (unfold v; split)
      | (unfold v; clear_value *; split)
      | (clear_value *; split)

theorem State.grtWords_fr {κ : Nat} {s0 s : State} {l : List (ℕ × Word)} {out : List Pulse} (hf_ : Fr κ s0 s) (hk_ : 0xc2c0100005e004ac00000040000000000000000000000000000000000000024400a601f400 &&& κ = 0xc2c0100005e004ac00000040000000000000000000000000000000000000024400a601f400 := by decide) :
    Fr κ s0 (State.grtWords s l out) := by
  refine Fr.lift hf_ hk_ ?_
  clear hf_ hk_
  unfold State.grtWords
  have h0 := Fr.refl 0xc2c0100005e004ac00000040000000000000000000000000000000000000024400a601f400 s
  repeat' first
      | ((try lift_lets); intro v; refine_lift have hv : Fr 0xc2c0100005e004ac00000040000000000000000000000000000000000000024400a601f400 s v := ?_; ?_; clear_value v)
      | ((try lift_lets); intro v)
      | with_reducible refine State.blowBits_fr ?_
      | with_reducible refine State.grtEnd_fr ?_
      | with_reducible refine State.grtShow_fr ?_
      | with_reducible refine Fr.ite ?_ ?_
      | with_reducible refine Fr.cond ?_ ?_
      | with_reducible assumption
      | (refine Fr.of_snd (by assumption) ?_)
      | (refine Fr.of_fst (by assumption) ?_)
      | split
      | (unfold v; split)
      | (unfold v; clear_value *; split)
      | (clear_value *; split)

theorem execBlow_fr {s t_ : State} {out : List Pulse} (e_ : execBlow out s = .next t_) : Fr 0xc2c0100005e004ac00000040000000000000000000000000000000000000024400a601f400 s t_ := by
  unfold execBlow at e_
  obtain rfl := Host.Outcome.next.inj e_
  clear e_
  have h0 := Fr.refl 0xc2c0100005e004ac00000040000000000000000000000000000000000000024400a601f400 s
  repeat' first
      | ((try lift_lets); intro v; refine_lift have hv : Fr 0xc2c0100005e004ac00000040000000000000000000000000000000000000024400a601f400 s v := ?_; ?_; clear_value v)
      | ((try lift_lets); intro v)
      | with_reducible refine State.grtBegin_fr ?_
      | with_reducible refine State.grtEnd_fr ?_
      | with_reducible refine State.grtWords_fr ?_
      | with_reducible refine Fr.ite ?_ ?_
      | with_reducible refine Fr.cond ?_ ?_
      | with_reducible assumption
      | (refine Fr.of_snd (by assumption) ?_)
      | (refine Fr.of_fst (by assumption) ?_)
      | split
      | (unfold v; split)
      | (unfold v; clear_value *; split)
      | (clear_value *; split)

theorem execCommit_fr {s t_ : State} {out : List Pulse} (e_ : execCommit out s = .next t_) : Fr 0xc2c0100005e004ac00000040000000000000000000000000000000000000024400a601f400 s t_ := by
  unfold execCommit at e_
  obtain rfl := Host.Outcome.next.inj e_
  clear e_
  have h0 := Fr.refl 0xc2c0100005e004ac00000040000000000000000000000000000000000000024400a601f400 s
  repeat' first
      | ((try lift_lets); intro v; refine_lift have hv : Fr 0xc2c0100005e004ac00000040000000000000000000000000000000000000024400a601f400 s v := ?_; ?_; clear_value v)
      | ((try lift_lets); intro v)
      | with_reducible refine State.grtBegin_fr ?_
      | with_reducible refine State.grtEnd_fr ?_
      | with_reducible refine State.grtWords_fr ?_
      | with_reducible refine State.showSlots_fr ?_
      | with_reducible refine Fr.ite ?_ ?_
      | with_reducible refine Fr.cond ?_ ?_
      | with_reducible assumption
      | (refine Fr.of_snd (by assumption) ?_)
      | (refine Fr.of_fst (by assumption) ?_)
      | split
      | (unfold v; split)
      | (unfold v; clear_value *; split)
      | (clear_value *; split)

theorem State.ctrFull_fr {κ : Nat} {s0 s : State} {k : ℕ} (hf_ : Fr κ s0 s) (hk_ : 0xc2c0100000a004ac000000400000000000000000000000000000000000000240002201f400 &&& κ = 0xc2c0100000a004ac000000400000000000000000000000000000000000000240002201f400 := by decide) :
    Fr κ s0 (State.ctrFull s k) := by
  refine Fr.lift hf_ hk_ ?_
  clear hf_ hk_
  unfold State.ctrFull
  have h0 := Fr.refl 0xc2c0100000a004ac000000400000000000000000000000000000000000000240002201f400 s
  repeat' first
      | ((try lift_lets); intro v; refine_lift have hv : Fr 0xc2c0100000a004ac000000400000000000000000000000000000000000000240002201f400 s v := ?_; ?_; clear_value v)
      | ((try lift_lets); intro v)
      | with_reducible refine State.event_fr ?_
      | with_reducible refine State.fault_fr ?_
      | with_reducible refine State.setBit_fr ?_
      | with_reducible refine Fr.ite ?_ ?_
      | with_reducible refine Fr.cond ?_ ?_
      | with_reducible assumption
      | (refine Fr.of_snd (by assumption) ?_)
      | (refine Fr.of_fst (by assumption) ?_)
      | split
      | (unfold v; split)
      | (unfold v; clear_value *; split)
      | (clear_value *; split)

theorem State.ctrStep_fr {κ : Nat} {s0 s : State} {k : ℕ} {out : List Pulse} (hf_ : Fr κ s0 s) (hk_ : 0xc2c0100004a004ac00000040000000000000000000000000000000000000024000a601f400 &&& κ = 0xc2c0100004a004ac00000040000000000000000000000000000000000000024000a601f400 := by decide) :
    Fr κ s0 (State.ctrStep s k out).1 := by
  refine Fr.lift hf_ hk_ ?_
  clear hf_ hk_
  unfold State.ctrStep
  have h0 := Fr.refl 0xc2c0100004a004ac00000040000000000000000000000000000000000000024000a601f400 s
  repeat' first
      | ((try lift_lets); intro v; refine_lift have hv : Fr 0xc2c0100004a004ac00000040000000000000000000000000000000000000024000a601f400 s v := ?_; ?_; clear_value v)
      | ((try lift_lets); intro v)
      | with_reducible refine State.blowBit_fr ?_
      | with_reducible refine State.ctrFull_fr ?_
      | with_reducible refine Fr.ite ?_ ?_
      | with_reducible refine Fr.cond ?_ ?_
      | with_reducible assumption
      | (refine Fr.of_snd (by assumption) ?_)
      | (refine Fr.of_fst (by assumption) ?_)
      | split
      | (unfold v; split)
      | (unfold v; clear_value *; split)
      | (clear_value *; split)

theorem State.flushCtr_fr {κ : Nat} {s0 s : State} {fuel : ℕ} {k : ℕ} {out : List Pulse} (hf_ : Fr κ s0 s) (hk_ : 0xc2c0100004a004ac00000040000000000000000000000000000000000000024000a601f400 &&& κ = 0xc2c0100004a004ac00000040000000000000000000000000000000000000024000a601f400 := by decide) :
    Fr κ s0 (State.flushCtr s fuel k out).1 := by
  refine Fr.lift hf_ hk_ ?_
  clear hf_ hk_ s0
  revert s
  induction fuel generalizing k out with
  | zero =>
    intro s
    unfold State.flushCtr
    (
    have h0 := Fr.refl 0xc2c0100004a004ac00000040000000000000000000000000000000000000024000a601f400 s
    repeat' first
        | ((try lift_lets); intro v; refine_lift have hv : Fr 0xc2c0100004a004ac00000040000000000000000000000000000000000000024000a601f400 s v := ?_; ?_; clear_value v)
        | ((try lift_lets); intro v)
        | with_reducible refine State.ctrStep_fr ?_
        | with_reducible refine State.set_fr ?_
        | with_reducible refine Fr.ite ?_ ?_
        | with_reducible refine Fr.cond ?_ ?_
        | with_reducible assumption
        | (refine Fr.of_snd (by assumption) ?_)
        | (refine Fr.of_fst (by assumption) ?_)
        | split
        | (unfold v; split)
        | (unfold v; clear_value *; split)
        | (clear_value *; split)
        | (injections; subst_vars))
  | succ n_ ih =>
    intro s
    unfold State.flushCtr
    (
    have h0 := Fr.refl 0xc2c0100004a004ac00000040000000000000000000000000000000000000024000a601f400 s
    repeat' first
        | ((try lift_lets); intro v; refine_lift have hv : Fr 0xc2c0100004a004ac00000040000000000000000000000000000000000000024000a601f400 s v := ?_; ?_; clear_value v)
        | ((try lift_lets); intro v)
        | with_reducible refine State.ctrStep_fr ?_
        | with_reducible refine State.set_fr ?_
        | with_reducible refine Fr.trans ?_ ih
        | with_reducible refine Fr.ite ?_ ?_
        | with_reducible refine Fr.cond ?_ ?_
        | with_reducible assumption
        | (refine Fr.of_snd (by assumption) ?_)
        | (refine Fr.of_fst (by assumption) ?_)
        | split
        | (unfold v; split)
        | (unfold v; clear_value *; split)
        | (clear_value *; split)
        | (injections; subst_vars))

theorem State.flushAll_fr {κ : Nat} {s0 s : State} {l : List ℕ} {out : List Pulse} (hf_ : Fr κ s0 s) (hk_ : 0xc2c0100004a004ac00000040000000000000000000000000000000000000024000a601f400 &&& κ = 0xc2c0100004a004ac00000040000000000000000000000000000000000000024000a601f400 := by decide) :
    Fr κ s0 (State.flushAll s l out).1 := by
  refine Fr.lift hf_ hk_ ?_
  clear hf_ hk_ s0
  revert s
  induction l generalizing out with
  | nil =>
    intro s
    unfold State.flushAll
    (
    have h0 := Fr.refl 0xc2c0100004a004ac00000040000000000000000000000000000000000000024000a601f400 s
    repeat' first
        | ((try lift_lets); intro v; refine_lift have hv : Fr 0xc2c0100004a004ac00000040000000000000000000000000000000000000024000a601f400 s v := ?_; ?_; clear_value v)
        | ((try lift_lets); intro v)
        | with_reducible refine State.flushCtr_fr ?_
        | with_reducible refine Fr.ite ?_ ?_
        | with_reducible refine Fr.cond ?_ ?_
        | with_reducible assumption
        | (refine Fr.of_snd (by assumption) ?_)
        | (refine Fr.of_fst (by assumption) ?_)
        | split
        | (unfold v; split)
        | (unfold v; clear_value *; split)
        | (clear_value *; split)
        | (injections; subst_vars))
  | cons c_ r_ ih =>
    intro s
    unfold State.flushAll
    (
    have h0 := Fr.refl 0xc2c0100004a004ac00000040000000000000000000000000000000000000024000a601f400 s
    repeat' first
        | ((try lift_lets); intro v; refine_lift have hv : Fr 0xc2c0100004a004ac00000040000000000000000000000000000000000000024000a601f400 s v := ?_; ?_; clear_value v)
        | ((try lift_lets); intro v)
        | with_reducible refine State.flushCtr_fr ?_
        | with_reducible refine Fr.trans ?_ ih
        | with_reducible refine Fr.ite ?_ ?_
        | with_reducible refine Fr.cond ?_ ?_
        | with_reducible assumption
        | (refine Fr.of_snd (by assumption) ?_)
        | (refine Fr.of_fst (by assumption) ?_)
        | split
        | (unfold v; split)
        | (unfold v; clear_value *; split)
        | (clear_value *; split)
        | (injections; subst_vars))

theorem execFlush_fr {s t_ : State} {out : List Pulse} (e_ : execFlush out s = .next t_) : Fr 0xc2c0100005e004ac00000040000000000000000000000000000000000000024400a601f400 s t_ := by
  unfold execFlush at e_
  obtain rfl := Host.Outcome.next.inj e_
  clear e_
  have h0 := Fr.refl 0xc2c0100005e004ac00000040000000000000000000000000000000000000024400a601f400 s
  repeat' first
      | ((try lift_lets); intro v; refine_lift have hv : Fr 0xc2c0100005e004ac00000040000000000000000000000000000000000000024400a601f400 s v := ?_; ?_; clear_value v)
      | ((try lift_lets); intro v)
      | with_reducible refine State.flushAll_fr ?_
      | with_reducible refine State.grtBegin_fr ?_
      | with_reducible refine State.grtEnd_fr ?_
      | with_reducible refine State.grtShow_fr ?_
      | with_reducible refine State.showCounters_fr ?_
      | with_reducible refine Fr.ite ?_ ?_
      | with_reducible refine Fr.cond ?_ ?_
      | with_reducible assumption
      | (refine Fr.of_snd (by assumption) ?_)
      | (refine Fr.of_fst (by assumption) ?_)
      | split
      | (unfold v; split)
      | (unfold v; clear_value *; split)
      | (clear_value *; split)

theorem execSealKey_fr {s t_ : State} {out : List Pulse} (e_ : execSealKey out s = .next t_) : Fr 0xc2c0100005e004ac00000040000000000000000000000000000000000000024400a601f400 s t_ := by
  unfold execSealKey at e_
  obtain rfl := Host.Outcome.next.inj e_
  clear e_
  have h0 := Fr.refl 0xc2c0100005e004ac00000040000000000000000000000000000000000000024400a601f400 s
  repeat' first
      | ((try lift_lets); intro v; refine_lift have hv : Fr 0xc2c0100005e004ac00000040000000000000000000000000000000000000024400a601f400 s v := ?_; ?_; clear_value v)
      | ((try lift_lets); intro v)
      | with_reducible refine State.grtBegin_fr ?_
      | with_reducible refine State.grtEnd_fr ?_
      | with_reducible refine State.grtWords_fr ?_
      | with_reducible refine Fr.ite ?_ ?_
      | with_reducible refine Fr.cond ?_ ?_
      | with_reducible assumption
      | (refine Fr.of_snd (by assumption) ?_)
      | (refine Fr.of_fst (by assumption) ?_)
      | split
      | (unfold v; split)
      | (unfold v; clear_value *; split)
      | (clear_value *; split)

theorem execReadRaw_fr {s t_ : State} {reads : List GrtRead} (e_ : execReadRaw reads s = .next t_) : Fr 0x2c01000156000800000004000000000000000000000000000000000000002440006018400 s t_ := by
  unfold execReadRaw at e_
  obtain rfl := Host.Outcome.next.inj e_
  clear e_
  have h0 := Fr.refl 0x2c01000156000800000004000000000000000000000000000000000000002440006018400 s
  repeat' first
      | ((try lift_lets); intro v; refine_lift have hv : Fr 0x2c01000156000800000004000000000000000000000000000000000000002440006018400 s v := ?_; ?_; clear_value v)
      | ((try lift_lets); intro v)
      | with_reducible refine State.grtEnd_fr ?_
      | with_reducible refine State.otpRead_fr ?_
      | with_reducible refine State.set_fr ?_
      | with_reducible refine State.wr_fr ?_
      | with_reducible refine Fr.ite ?_ ?_
      | with_reducible refine Fr.cond ?_ ?_
      | with_reducible assumption
      | with_reducible exact Fr.id_ (by with_reducible assumption)
      | (refine Fr.of_snd (by assumption) ?_)
      | (refine Fr.of_fst (by assumption) ?_)
      | split
      | (unfold v; split)
      | (unfold v; clear_value *; split)
      | (clear_value *; split)

theorem execBadOp_fr {s t_ : State}  (e_ : execBadOp s = .next t_) : Fr 0x2c01000056000800000004000000000000000000000000000000000000002440006018400 s t_ := by
  unfold execBadOp at e_
  obtain rfl := Host.Outcome.next.inj e_
  clear e_
  have h0 := Fr.refl 0x2c01000056000800000004000000000000000000000000000000000000002440006018400 s
  repeat' first
      | ((try lift_lets); intro v; refine_lift have hv : Fr 0x2c01000056000800000004000000000000000000000000000000000000002440006018400 s v := ?_; ?_; clear_value v)
      | ((try lift_lets); intro v)
      | with_reducible refine State.grtEnd_fr ?_
      | with_reducible refine State.set_fr ?_
      | with_reducible refine Fr.ite ?_ ?_
      | with_reducible refine Fr.cond ?_ ?_
      | with_reducible assumption
      | (refine Fr.of_snd (by assumption) ?_)
      | (refine Fr.of_fst (by assumption) ?_)
      | split
      | (unfold v; split)
      | (unfold v; clear_value *; split)
      | (clear_value *; split)

theorem State.floorWrite_fr {κ : Nat} {s0 s : State} {w : Word} (hf_ : Fr κ s0 s) (hk_ : 0x12000000000000000000000000000000000000000000000000000040004000000 &&& κ = 0x12000000000000000000000000000000000000000000000000000040004000000 := by decide) :
    Fr κ s0 (State.floorWrite s w) := by
  refine Fr.lift hf_ hk_ ?_
  clear hf_ hk_
  unfold State.floorWrite
  have h0 := Fr.refl 0x12000000000000000000000000000000000000000000000000000040004000000 s
  repeat' first
      | ((try lift_lets); intro v; refine_lift have hv : Fr 0x12000000000000000000000000000000000000000000000000000040004000000 s v := ?_; ?_; clear_value v)
      | ((try lift_lets); intro v)
      | with_reducible refine State.grtAsk_fr ?_
      | with_reducible refine Fr.ite ?_ ?_
      | with_reducible refine Fr.cond ?_ ?_
      | with_reducible assumption
      | (refine Fr.of_snd (by assumption) ?_)
      | (refine Fr.of_fst (by assumption) ?_)
      | split
      | (unfold v; split)
      | (unfold v; clear_value *; split)
      | (clear_value *; split)

theorem State.floorEnd_fr {κ : Nat} {s0 s : State} {result : ℕ} (hf_ : Fr κ s0 s) (hk_ : 0x2c01000056000800000004000000000000000000000000000000000000002440006018400 &&& κ = 0x2c01000056000800000004000000000000000000000000000000000000002440006018400 := by decide) :
    Fr κ s0 (State.floorEnd s result) := by
  refine Fr.lift hf_ hk_ ?_
  clear hf_ hk_
  unfold State.floorEnd
  have h0 := Fr.refl 0x2c01000056000800000004000000000000000000000000000000000000002440006018400 s
  repeat' first
      | ((try lift_lets); intro v; refine_lift have hv : Fr 0x2c01000056000800000004000000000000000000000000000000000000002440006018400 s v := ?_; ?_; clear_value v)
      | ((try lift_lets); intro v)
      | with_reducible refine State.event_fr ?_
      | with_reducible refine State.grtEnd_fr ?_
      | with_reducible refine State.set_fr ?_
      | with_reducible refine Fr.ite ?_ ?_
      | with_reducible refine Fr.cond ?_ ?_
      | with_reducible assumption
      | (refine Fr.of_snd (by assumption) ?_)
      | (refine Fr.of_fst (by assumption) ?_)
      | split
      | (unfold v; split)
      | (unfold v; clear_value *; split)
      | (clear_value *; split)

theorem State.floorSteps_fr {κ : Nat} {s0 s : State} {fuel : ℕ} {out : List Pulse} (hf_ : Fr κ s0 s) (hk_ : 0xc2c0100004a004ac00000040000000000000000000000000000000000000024400a601f400 &&& κ = 0xc2c0100004a004ac00000040000000000000000000000000000000000000024400a601f400 := by decide) :
    Fr κ s0 (State.floorSteps s fuel out).1 := by
  refine Fr.lift hf_ hk_ ?_
  clear hf_ hk_ s0
  revert s
  induction fuel generalizing out with
  | zero =>
    intro s
    unfold State.floorSteps
    (
    have h0 := Fr.refl 0xc2c0100004a004ac00000040000000000000000000000000000000000000024400a601f400 s
    repeat' first
        | ((try lift_lets); intro v; refine_lift have hv : Fr 0xc2c0100004a004ac00000040000000000000000000000000000000000000024400a601f400 s v := ?_; ?_; clear_value v)
        | ((try lift_lets); intro v)
        | with_reducible refine State.ctrStep_fr ?_
        | with_reducible refine State.inc_fr ?_
        | with_reducible refine Fr.ite ?_ ?_
        | with_reducible refine Fr.cond ?_ ?_
        | with_reducible assumption
        | (refine Fr.of_snd (by assumption) ?_)
        | (refine Fr.of_fst (by assumption) ?_)
        | split
        | (unfold v; split)
        | (unfold v; clear_value *; split)
        | (clear_value *; split)
        | (injections; subst_vars))
  | succ n_ ih =>
    intro s
    unfold State.floorSteps
    (
    have h0 := Fr.refl 0xc2c0100004a004ac00000040000000000000000000000000000000000000024400a601f400 s
    repeat' first
        | ((try lift_lets); intro v; refine_lift have hv : Fr 0xc2c0100004a004ac00000040000000000000000000000000000000000000024400a601f400 s v := ?_; ?_; clear_value v)
        | ((try lift_lets); intro v)
        | with_reducible refine State.ctrStep_fr ?_
        | with_reducible refine State.inc_fr ?_
        | with_reducible refine Fr.trans ?_ ih
        | with_reducible refine Fr.ite ?_ ?_
        | with_reducible refine Fr.cond ?_ ?_
        | with_reducible assumption
        | (refine Fr.of_snd (by assumption) ?_)
        | (refine Fr.of_fst (by assumption) ?_)
        | split
        | (unfold v; split)
        | (unfold v; clear_value *; split)
        | (clear_value *; split)
        | (injections; subst_vars))

theorem execFloorAdv_fr {s t_ : State} {w : Word} {out : List Pulse} (e_ : execFloorAdv w out s = .next t_) : Fr 0xc2c0100005e004ac00000040000000000000000000000000000000000000024400a601f400 s t_ := by
  unfold execFloorAdv at e_
  obtain rfl := Host.Outcome.next.inj e_
  clear e_
  have h0 := Fr.refl 0xc2c0100005e004ac00000040000000000000000000000000000000000000024400a601f400 s
  have h1 : Fr 0xc2c0100005e004ac00000040000000000000000000000000000000000000024400a601f400 s (s.floorWrite w) := State.floorWrite_fr h0
  revert h1
  generalize s.floorWrite w = u
  intro h1
  dsimp only
  repeat' first
      | split
      | ((try lift_lets); intro v; refine_lift have hv : Fr 0xc2c0100005e004ac00000040000000000000000000000000000000000000024400a601f400 s v := ?_; ?_; clear_value v)
      | ((try lift_lets); intro v)
      | with_reducible refine State.floorEnd_fr ?_
      | with_reducible refine State.floorSteps_fr ?_
      | with_reducible refine State.floorWrite_fr ?_
      | with_reducible refine State.freshNat_fr ?_
      | with_reducible refine State.grtBegin_fr ?_
      | with_reducible refine State.grtShow_fr ?_
      | with_reducible refine State.set_fr ?_
      | with_reducible refine State.showCounters_fr ?_
      | with_reducible refine Fr.ite ?_ ?_
      | with_reducible refine Fr.cond ?_ ?_
      | with_reducible assumption
      | (refine Fr.of_snd (by assumption) ?_)
      | (refine Fr.of_fst (by assumption) ?_)
      | split
      | (unfold v; split)
      | (unfold v; clear_value *; split)
      | (clear_value *; split)

theorem State.grtFault_fr {κ : Nat} {s0 s : State} {code : Nat} {event : Nat} {detail : Nat} (hf_ : Fr κ s0 s) (hk_ : 0xc2c01000008004ac000000400000000000000000000000000000000000000240002201f400 &&& κ = 0xc2c01000008004ac000000400000000000000000000000000000000000000240002201f400 := by decide) :
    Fr κ s0 (State.grtFault s code event detail) := by
  refine Fr.lift hf_ hk_ ?_
  clear hf_ hk_
  unfold State.grtFault
  have h0 := Fr.refl 0xc2c01000008004ac000000400000000000000000000000000000000000000240002201f400 s
  repeat' first
      | ((try lift_lets); intro v; refine_lift have hv : Fr 0xc2c01000008004ac000000400000000000000000000000000000000000000240002201f400 s v := ?_; ?_; clear_value v)
      | ((try lift_lets); intro v)
      | with_reducible refine State.event_fr ?_
      | with_reducible refine State.fault_fr ?_
      | with_reducible refine Fr.ite ?_ ?_
      | with_reducible refine Fr.cond ?_ ?_
      | with_reducible assumption
      | with_reducible exact Fr.id_ (by with_reducible assumption)
      | (refine Fr.of_snd (by assumption) ?_)
      | (refine Fr.of_fst (by assumption) ?_)
      | split
      | (unfold v; split)
      | (unfold v; clear_value *; split)
      | (clear_value *; split)

theorem execGrottoReverify_fr {s t_ : State} {reads : List GrtRead} (e_ : execGrottoReverify reads s = .next t_) : Fr 0xc2c0100009a004bc000000400000000000000000000000000000000000000244002601f400 s t_ := by
  unfold execGrottoReverify at e_
  obtain rfl := Host.Outcome.next.inj e_
  clear e_
  have h0 := Fr.refl 0xc2c0100009a004bc000000400000000000000000000000000000000000000244002601f400 s
  repeat' first
      | ((try lift_lets); intro v; refine_lift have hv : Fr 0xc2c0100009a004bc000000400000000000000000000000000000000000000244002601f400 s v := ?_; ?_; clear_value v)
      | ((try lift_lets); intro v)
      | with_reducible refine State.grtFault_fr ?_
      | with_reducible refine State.setCause_fr ?_
      | with_reducible refine State.event_fr ?_
      | with_reducible refine State.fault_fr ?_
      | with_reducible refine State.faultOn_fr ?_
      | with_reducible refine State.grtShow_fr ?_
      | with_reducible refine State.modOtp_fr ?_
      | with_reducible refine State.otpRead_fr ?_
      | with_reducible refine State.set_fr ?_
      | with_reducible refine State.weakFind_fr ?_
      | with_reducible refine Fr.running ?_ (fun t ht => ?_)
      | with_reducible refine Fr.ite ?_ ?_
      | with_reducible refine Fr.cond ?_ ?_
      | with_reducible assumption
      | (refine Fr.of_snd (by assumption) ?_)
      | (refine Fr.of_fst (by assumption) ?_)
      | split
      | (unfold v; split)
      | (unfold v; clear_value *; split)
      | (clear_value *; split)

theorem State.grtReset_fr {κ : Nat} {s0 s : State}  (hf_ : Fr κ s0 s) (hk_ : 0x84000000 &&& κ = 0x84000000 := by decide) :
    Fr κ s0 (State.grtReset s) := by
  refine Fr.lift hf_ hk_ ?_
  clear hf_ hk_
  unfold State.grtReset
  have h0 := Fr.refl 0x84000000 s
  repeat' first
      | ((try lift_lets); intro v; refine_lift have hv : Fr 0x84000000 s v := ?_; ?_; clear_value v)
      | ((try lift_lets); intro v)
      | with_reducible refine State.cellFree_fr ?_
      | with_reducible refine State.modOtp_fr ?_
      | with_reducible refine Fr.ite ?_ ?_
      | with_reducible refine Fr.cond ?_ ?_
      | with_reducible assumption
      | (refine Fr.of_snd (by assumption) ?_)
      | (refine Fr.of_fst (by assumption) ?_)
      | split
      | (unfold v; split)
      | (unfold v; clear_value *; split)
      | (clear_value *; split)

end Sys2Proof.Machine
end

