-- ==== Sys2Proof/Laws/FrameAccept.lean ====
section
/-! SUPPORT. Frames of the operations of Machine/Accept.lean: one lemma each (Laws/Frame.lean). -/

namespace Sys2Proof.Machine

set_option Elab.async false

theorem State.setBoth_fr {m : Nat} {s0 s : State} {f : Fld} {v : Nat} (h : Fr m s0 s) (hk : m.testBit (32 + fam f.reg) = true := by first | assumption | decide | (simp; done) | (simp; decide) | (simp +zetaDelta; decide) | (split <;> simp <;> decide) | exact all_fam (by decide)) (hn : 16 &&& m = 16 := by decide) :
    Fr m s0 (s.setBoth f v) := State.setSh_fr (State.set_fr h hk) hn

theorem State.builtIns_fr {κ : Nat} {s0 s : State}  (hf_ : Fr κ s0 s) (hk_ : 0x1ffffffffffffffffffffffffffffffffffffffffffffffffffffffffffffffffff00000010 &&& κ = 0x1ffffffffffffffffffffffffffffffffffffffffffffffffffffffffffffffffff00000010 := by decide) :
    Fr κ s0 (State.builtIns s) := by
  refine Fr.lift hf_ hk_ ?_
  clear hf_ hk_
  unfold State.builtIns
  have h0 := Fr.refl 0x1ffffffffffffffffffffffffffffffffffffffffffffffffffffffffffffffffff00000010 s
  repeat' first
      | ((try lift_lets); intro v; refine_lift have hv : Fr 0x1ffffffffffffffffffffffffffffffffffffffffffffffffffffffffffffffffff00000010 s v := ?_; ?_; clear_value v)
      | ((try lift_lets); intro v)
      | with_reducible refine State.setBoth_fr ?_
      | with_reducible refine Fr.forEach ?_ (fun t a ht => ?_)
      | with_reducible refine Fr.ite ?_ ?_
      | with_reducible refine Fr.cond ?_ ?_
      | with_reducible assumption
      | (refine Fr.of_snd (by assumption) ?_)
      | (refine Fr.of_fst (by assumption) ?_)
      | split
      | (unfold v; split)
      | (unfold v; clear_value *; split)
      | (clear_value *; split)

theorem State.regsRecord_fr {κ : Nat} {s0 s : State} {a : ℕ} {w : Word} (hf_ : Fr κ s0 s) (hk_ : 0x1ffffffffffffffffffffffffffffffffffffffffffffffffffffffffffffffffff00000010 &&& κ = 0x1ffffffffffffffffffffffffffffffffffffffffffffffffffffffffffffffffff00000010 := by decide) :
    Fr κ s0 (State.regsRecord s a w) := by
  refine Fr.lift hf_ hk_ ?_
  clear hf_ hk_
  unfold State.regsRecord
  have h0 := Fr.refl 0x1ffffffffffffffffffffffffffffffffffffffffffffffffffffffffffffffffff00000010 s
  repeat' first
      | ((try lift_lets); intro v; refine_lift have hv : Fr 0x1ffffffffffffffffffffffffffffffffffffffffffffffffffffffffffffffffff00000010 s v := ?_; ?_; clear_value v)
      | ((try lift_lets); intro v)
      | with_reducible refine State.wr_fr ?_
      | with_reducible refine State.wrSh_fr ?_
      | with_reducible refine Fr.ite ?_ ?_
      | with_reducible refine Fr.cond ?_ ?_
      | with_reducible assumption
      | (refine Fr.of_snd (by assumption) ?_)
      | (refine Fr.of_fst (by assumption) ?_)
      | split
      | (unfold v; split)
      | (unfold v; clear_value *; split)
      | (clear_value *; split)

end Sys2Proof.Machine
end

