-- ==== Sys2Proof/Laws/FrameReset.lean ====
section
/-! SUPPORT. Frames of the operations of Machine/Reset.lean: one lemma each (Laws/Frame.lean). -/

namespace Sys2Proof.Machine

set_option Elab.async false

theorem State.resetBlocks_fr {κ : Nat} {s0 s : State} (hf_ : Fr κ s0 s) (hk_ : 0xfe7ffe10 &&& κ = 0xfe7ffe10 := by decide) :
    Fr κ s0 (State.resetBlocks s) := by
  refine Fr.lift hf_ hk_ (Fr.trans (State.grtReset_fr (Fr.refl _ s)) ?_)
  refine ⟨rfl, fun h => ?_⟩
  simp only [State.Wf, Bool.and_eq_true, State.resetBlocks] at *
  exact ⟨⟨h.1.1, rfl⟩, h.2⟩

/-- Folding writes into an empty store gives a canonical one. -/
theorem cwf_warmRegs (l : List (Nat × Word)) : cwf regPor (warmRegs l) = true := by
  unfold warmRegs
  suffices H : ∀ m : List (Nat × Word), cwf regPor m = true → cwf regPor (l.foldl (fun m e =>
      cset regPor m e.1 ((regPor e.1 &&& ~~~(keptMask e.1)) ||| (e.2 &&& keptMask e.1))) m) = true from H [] rfl
  induction l with
  | nil => exact fun m h => h
  | cons e r ih => exact fun m h => ih _ (cwf_cset _ _ h)

theorem State.showAsc_fr {κ : Nat} {s0 s : State} {x : Axis} (hf_ : Fr κ s0 s) (hk_ : 0x400000000000000000000000000000000000000000000000000000000 &&& κ = 0x400000000000000000000000000000000000000000000000000000000 := by decide) :
    Fr κ s0 (State.showAsc s x) := by
  refine Fr.lift hf_ hk_ ?_
  clear hf_ hk_
  unfold State.showAsc
  have h0 := Fr.refl 0x400000000000000000000000000000000000000000000000000000000 s
  repeat' first
      | ((try lift_lets); intro v; refine_lift have hv : Fr 0x400000000000000000000000000000000000000000000000000000000 s v := ?_; ?_; clear_value v)
      | ((try lift_lets); intro v)
      | with_reducible refine State.set_fr ?_
      | with_reducible refine Fr.ite ?_ ?_
      | with_reducible refine Fr.cond ?_ ?_
      | with_reducible assumption
      | (refine Fr.of_snd (by assumption) ?_)
      | (refine Fr.of_fst (by assumption) ?_)
      | split
      | (unfold v; split)
      | (unfold v; clear_value *; split)
      | (clear_value *; split)

theorem causeBit_fr {κ : Nat} {s0 s : State} {c : Option Fld} (hf_ : Fr κ s0 s) (hk_ : 0x1ffffffffffffffffffffffffffffffffffffffffffffffffffffffffffffffffff00000000 &&& κ = 0x1ffffffffffffffffffffffffffffffffffffffffffffffffffffffffffffffffff00000000 := by decide) :
    Fr κ s0 (causeBit c s) := by
  refine Fr.lift hf_ hk_ ?_
  clear hf_ hk_
  unfold causeBit
  have h0 := Fr.refl 0x1ffffffffffffffffffffffffffffffffffffffffffffffffffffffffffffffffff00000000 s
  repeat' first
      | ((try lift_lets); intro v; refine_lift have hv : Fr 0x1ffffffffffffffffffffffffffffffffffffffffffffffffffffffffffffffffff00000000 s v := ?_; ?_; clear_value v)
      | ((try lift_lets); intro v)
      | with_reducible refine State.inc_fr ?_
      | with_reducible refine State.set_fr ?_
      | with_reducible refine Fr.ite ?_ ?_
      | with_reducible refine Fr.cond ?_ ?_
      | with_reducible assumption
      | (refine Fr.of_snd (by assumption) ?_)
      | (refine Fr.of_fst (by assumption) ?_)
      | split
      | (unfold v; split)
      | (unfold v; clear_value *; split)
      | (clear_value *; split)

theorem State.warmReset_fr {κ : Nat} {s0 s : State} {cause : Option Fld} (hf_ : Fr κ s0 s) (hk_ : 0x1fffffffffffffffffffffffffffffffffffffffffffffffffffffffffffffffffffefffff0 &&& κ = 0x1fffffffffffffffffffffffffffffffffffffffffffffffffffffffffffffffffffefffff0 := by decide) :
    Fr κ s0 (State.warmReset s cause) := by
  refine Fr.lift hf_ hk_ ?_
  unfold State.warmReset
  refine causeBit_fr (State.settle_fr (State.settle_fr (State.showAsc_fr (State.showAsc_fr (Fr.trans (State.resetBlocks_fr (Fr.refl _ s)) ⟨by simp only [State.mask, all_filter (m := 0x1fffffffffffffffffffffffffffffffffffffffffffffffffffffffffffffffffffefffff0) (by decide)]; rfl, fun h => ?_⟩)))))
  have h2 : Memory.wf s = true → cwf memPor (s.mem.filter (fun e => decide (e.1 < 0x200000))) = true := fun h => cwf_filter _ h
  have h3 : s.resetBlocks.mem = s.mem := by exact (State.grtReset_fr (Fr.refl _ s) (κ := 0x84000000)).keep_mem
  simp only [State.Wf, Bool.and_eq_true] at *
  exact ⟨⟨cwf_warmRegs _, h.1.2⟩, h2 (by rw [Memory.wf, ← h3]; exact h.2)⟩

theorem State.porReset_fr {κ : Nat} {s0 s : State} (hf_ : Fr κ s0 s) (hk_ : 0x1fffffffffffffffffffffffffffffffffffffffffffffffffffffffffffffffffffffffff2 &&& κ = 0x1fffffffffffffffffffffffffffffffffffffffffffffffffffffffffffffffffffffffff2 := by decide) :
    Fr κ s0 (State.porReset s) := by
  refine Fr.lift hf_ hk_ ?_
  unfold State.porReset
  refine State.settle_fr (State.settle_fr (State.showAsc_fr (State.showAsc_fr (Fr.trans (State.resetBlocks_fr (Fr.refl _ s)) ⟨by simp only [State.mask, all_filter (m := 0x1fffffffffffffffffffffffffffffffffffffffffffffffffffffffffffffffffffffffff2) (by decide)]; rfl, fun h => ?_⟩))))
  simp only [State.Wf, Bool.and_eq_true] at *
  exact ⟨⟨rfl, h.1.2⟩, rfl⟩

theorem State.leaveReset_fr {κ : Nat} {s0 s : State} {bootsel : ℕ} (hf_ : Fr κ s0 s) (hk_ : 0x200000006 &&& κ = 0x200000006 := by decide) :
    Fr κ s0 (State.leaveReset s bootsel) := by
  refine Fr.lift hf_ hk_ ?_
  clear hf_ hk_
  unfold State.leaveReset
  have h0 := Fr.refl 0x200000006 s
  repeat' first
      | ((try lift_lets); intro v; refine_lift have hv : Fr 0x200000006 s v := ?_; ?_; clear_value v)
      | ((try lift_lets); intro v)
      | with_reducible refine State.modPins_fr ?_
      | with_reducible refine State.set_fr ?_
      | with_reducible refine State.toDie_fr ?_
      | with_reducible refine Fr.ite ?_ ?_
      | with_reducible refine Fr.cond ?_ ?_
      | with_reducible assumption
      | (refine Fr.of_snd (by assumption) ?_)
      | (refine Fr.of_fst (by assumption) ?_)
      | split
      | (unfold v; split)
      | (unfold v; clear_value *; split)
      | (clear_value *; split)

theorem execPorExit_fr {s t_ : State} {bootsel : ℕ} (e_ : execPorExit bootsel s = .next t_) : Fr 0x200000006 s t_ := by
  unfold execPorExit at e_
  obtain rfl := Host.Outcome.next.inj e_
  clear e_
  have h0 := Fr.refl 0x200000006 s
  repeat' first
      | ((try lift_lets); intro v; refine_lift have hv : Fr 0x200000006 s v := ?_; ?_; clear_value v)
      | ((try lift_lets); intro v)
      | with_reducible refine State.leaveReset_fr ?_
      | with_reducible refine Fr.ite ?_ ?_
      | with_reducible refine Fr.cond ?_ ?_
      | with_reducible assumption
      | (refine Fr.of_snd (by assumption) ?_)
      | (refine Fr.of_fst (by assumption) ?_)
      | split
      | (unfold v; split)
      | (unfold v; clear_value *; split)
      | (clear_value *; split)

theorem execSupplyBrownout_fr {s t_ : State} {ns : ℕ} (e_ : execSupplyBrownout ns s = .next t_) : Fr 0x1fffffffffffffffffffffffffffffffffffffffffffffffffffffffffffffffffffffffff2 s t_ := by
  unfold execSupplyBrownout at e_
  obtain rfl := Host.Outcome.next.inj e_
  clear e_
  have h0 := Fr.refl 0x1fffffffffffffffffffffffffffffffffffffffffffffffffffffffffffffffffffffffff2 s
  repeat' first
      | ((try lift_lets); intro v; refine_lift have hv : Fr 0x1fffffffffffffffffffffffffffffffffffffffffffffffffffffffffffffffffffffffff2 s v := ?_; ?_; clear_value v)
      | ((try lift_lets); intro v)
      | with_reducible refine State.freshBit_fr ?_
      | with_reducible refine State.porReset_fr ?_
      | with_reducible refine Fr.ite ?_ ?_
      | with_reducible refine Fr.cond ?_ ?_
      | with_reducible assumption
      | (refine Fr.of_snd (by assumption) ?_)
      | (refine Fr.of_fst (by assumption) ?_)
      | split
      | (unfold v; split)
      | (unfold v; clear_value *; split)
      | (clear_value *; split)

theorem execResetPin_fr {s t_ : State} {ns : ℕ} {bootsel : ℕ} (e_ : execResetPin ns bootsel s = .next t_) : Fr 0x1fffffffffffffffffffffffffffffffffffffffffffffffffffffffffffffffffffefffff6 s t_ := by
  unfold execResetPin at e_
  obtain rfl := Host.Outcome.next.inj e_
  clear e_
  have h0 := Fr.refl 0x1fffffffffffffffffffffffffffffffffffffffffffffffffffffffffffffffffffefffff6 s
  repeat' first
      | ((try lift_lets); intro v; refine_lift have hv : Fr 0x1fffffffffffffffffffffffffffffffffffffffffffffffffffffffffffffffffffefffff6 s v := ?_; ?_; clear_value v)
      | ((try lift_lets); intro v)
      | with_reducible refine State.freshBit_fr ?_
      | with_reducible refine State.leaveReset_fr ?_
      | with_reducible refine State.modPins_fr ?_
      | with_reducible refine State.toDie_fr ?_
      | with_reducible refine State.warmReset_fr ?_
      | with_reducible refine Fr.ite ?_ ?_
      | with_reducible refine Fr.cond ?_ ?_
      | with_reducible assumption
      | (refine Fr.of_snd (by assumption) ?_)
      | (refine Fr.of_fst (by assumption) ?_)
      | split
      | (unfold v; split)
      | (unfold v; clear_value *; split)
      | (clear_value *; split)

theorem execResetPinRelease_fr {s t_ : State} {bootsel : ℕ} (e_ : execResetPinRelease bootsel s = .next t_) : Fr 0x200000006 s t_ := by
  unfold execResetPinRelease at e_
  obtain rfl := Host.Outcome.next.inj e_
  clear e_
  have h0 := Fr.refl 0x200000006 s
  repeat' first
      | ((try lift_lets); intro v; refine_lift have hv : Fr 0x200000006 s v := ?_; ?_; clear_value v)
      | ((try lift_lets); intro v)
      | with_reducible refine State.leaveReset_fr ?_
      | with_reducible refine State.modPins_fr ?_
      | with_reducible refine Fr.ite ?_ ?_
      | with_reducible refine Fr.cond ?_ ?_
      | with_reducible assumption
      | (refine Fr.of_snd (by assumption) ?_)
      | (refine Fr.of_fst (by assumption) ?_)
      | split
      | (unfold v; split)
      | (unfold v; clear_value *; split)
      | (clear_value *; split)

theorem execTmodeHigh_fr {s t_ : State} {high : Bool} {bootsel : ℕ} (e_ : execTmodeHigh high bootsel s = .next t_) : Fr 0x1fffffffffffffffffffffffffffffffffffffffffffffffffffffffffffffffffffefffff6 s t_ := by
  unfold execTmodeHigh at e_
  obtain rfl := Host.Outcome.next.inj e_
  clear e_
  have h0 := Fr.refl 0x1fffffffffffffffffffffffffffffffffffffffffffffffffffffffffffffffffffefffff6 s
  repeat' first
      | ((try lift_lets); intro v; refine_lift have hv : Fr 0x1fffffffffffffffffffffffffffffffffffffffffffffffffffffffffffffffffffefffff6 s v := ?_; ?_; clear_value v)
      | ((try lift_lets); intro v)
      | with_reducible refine State.leaveReset_fr ?_
      | with_reducible refine State.modPins_fr ?_
      | with_reducible refine State.settle_fr ?_
      | with_reducible refine State.toDie_fr ?_
      | with_reducible refine State.warmReset_fr ?_
      | with_reducible refine Fr.ite ?_ ?_
      | with_reducible refine Fr.cond ?_ ?_
      | with_reducible assumption
      | (refine Fr.of_snd (by assumption) ?_)
      | (refine Fr.of_fst (by assumption) ?_)
      | split
      | (unfold v; split)
      | (unfold v; clear_value *; split)
      | (clear_value *; split)

theorem execPllLock_fr {s t_ : State}  (e_ : execPllLock s = .next t_) : Fr 0x100000000000000000000000000000000000000000000000000001000000 s t_ := by
  unfold execPllLock at e_
  obtain rfl := Host.Outcome.next.inj e_
  clear e_
  have h0 := Fr.refl 0x100000000000000000000000000000000000000000000000000001000000 s
  repeat' first
      | ((try lift_lets); intro v; refine_lift have hv : Fr 0x100000000000000000000000000000000000000000000000000001000000 s v := ?_; ?_; clear_value v)
      | ((try lift_lets); intro v)
      | with_reducible refine State.setCause_fr ?_
      | with_reducible refine State.modSun_fr ?_
      | with_reducible refine Fr.ite ?_ ?_
      | with_reducible refine Fr.cond ?_ ?_
      | with_reducible assumption
      | (refine Fr.of_snd (by assumption) ?_)
      | (refine Fr.of_fst (by assumption) ?_)
      | split
      | (unfold v; split)
      | (unfold v; clear_value *; split)
      | (clear_value *; split)

theorem State.rstWrite_fr {κ : Nat} {s0 s : State} {by_ : Writer} {w : Word} {bootsel : ℕ} (hf_ : Fr κ s0 s) (hk_ : 0x1fffffffffffffffffffffffffffffffffffffffffffffffffffffffffffffffffffefffff6 &&& κ = 0x1fffffffffffffffffffffffffffffffffffffffffffffffffffffffffffffffffffefffff6 := by decide) :
    Fr κ s0 (State.rstWrite s by_ w bootsel) := by
  refine Fr.lift hf_ hk_ ?_
  clear hf_ hk_
  unfold State.rstWrite
  have h0 := Fr.refl 0x1fffffffffffffffffffffffffffffffffffffffffffffffffffffffffffffffffffefffff6 s
  repeat' first
      | ((try lift_lets); intro v; refine_lift have hv : Fr 0x1fffffffffffffffffffffffffffffffffffffffffffffffffffffffffffffffffffefffff6 s v := ?_; ?_; clear_value v)
      | ((try lift_lets); intro v)
      | with_reducible refine State.leaveReset_fr ?_
      | with_reducible refine State.note_fr ?_
      | with_reducible refine State.warmReset_fr ?_
      | with_reducible refine Fr.ite ?_ ?_
      | with_reducible refine Fr.cond ?_ ?_
      | with_reducible assumption
      | (refine Fr.of_snd (by assumption) ?_)
      | (refine Fr.of_fst (by assumption) ?_)
      | split
      | (unfold v; split)
      | (unfold v; clear_value *; split)
      | (clear_value *; split)

theorem execSoft_fr {s t_ : State} {w : Word} {bootsel : ℕ} (e_ : execSoft w bootsel s = .next t_) : Fr 0x1fffffffffffffffffffffffffffffffffffffffffffffffffffffffffffffffffffefffff6 s t_ := by
  unfold execSoft at e_
  obtain rfl := Host.Outcome.next.inj e_
  clear e_
  have h0 := Fr.refl 0x1fffffffffffffffffffffffffffffffffffffffffffffffffffffffffffffffffffefffff6 s
  repeat' first
      | ((try lift_lets); intro v; refine_lift have hv : Fr 0x1fffffffffffffffffffffffffffffffffffffffffffffffffffffffffffffffffffefffff6 s v := ?_; ?_; clear_value v)
      | ((try lift_lets); intro v)
      | with_reducible refine State.rstWrite_fr ?_
      | with_reducible refine Fr.ite ?_ ?_
      | with_reducible refine Fr.cond ?_ ?_
      | with_reducible assumption
      | (refine Fr.of_snd (by assumption) ?_)
      | (refine Fr.of_fst (by assumption) ?_)
      | split
      | (unfold v; split)
      | (unfold v; clear_value *; split)
      | (clear_value *; split)

theorem execReboot_fr {s t_ : State} {w : Word} {bootsel : ℕ} (e_ : execReboot w bootsel s = .next t_) : Fr 0x1fffffffffffffffffffffffffffffffffffffffffffffffffffffffffffffffffffefffff6 s t_ := by
  unfold execReboot at e_
  obtain rfl := Host.Outcome.next.inj e_
  clear e_
  have h0 := Fr.refl 0x1fffffffffffffffffffffffffffffffffffffffffffffffffffffffffffffffffffefffff6 s
  repeat' first
      | ((try lift_lets); intro v; refine_lift have hv : Fr 0x1fffffffffffffffffffffffffffffffffffffffffffffffffffffffffffffffffffefffff6 s v := ?_; ?_; clear_value v)
      | ((try lift_lets); intro v)
      | with_reducible refine State.rstWrite_fr ?_
      | with_reducible refine Fr.ite ?_ ?_
      | with_reducible refine Fr.cond ?_ ?_
      | with_reducible assumption
      | (refine Fr.of_snd (by assumption) ?_)
      | (refine Fr.of_fst (by assumption) ?_)
      | split
      | (unfold v; split)
      | (unfold v; clear_value *; split)
      | (clear_value *; split)

theorem execThermalRestart_fr {s t_ : State} {bootsel : ℕ} (e_ : execThermalRestart bootsel s = .next t_) : Fr 0x1fffffffffffffffffffffffffffffffffffffffffffffffffffffffffffffffffffefffff6 s t_ := by
  unfold execThermalRestart at e_
  obtain rfl := Host.Outcome.next.inj e_
  clear e_
  have h0 := Fr.refl 0x1fffffffffffffffffffffffffffffffffffffffffffffffffffffffffffffffffffefffff6 s
  repeat' first
      | ((try lift_lets); intro v; refine_lift have hv : Fr 0x1fffffffffffffffffffffffffffffffffffffffffffffffffffffffffffffffffffefffff6 s v := ?_; ?_; clear_value v)
      | ((try lift_lets); intro v)
      | with_reducible refine State.leaveReset_fr ?_
      | with_reducible refine State.modOrg_fr ?_
      | with_reducible refine State.warmReset_fr ?_
      | with_reducible refine Fr.ite ?_ ?_
      | with_reducible refine Fr.cond ?_ ?_
      | with_reducible assumption
      | (refine Fr.of_snd (by assumption) ?_)
      | (refine Fr.of_fst (by assumption) ?_)
      | split
      | (unfold v; split)
      | (unfold v; clear_value *; split)
      | (clear_value *; split)

end Sys2Proof.Machine
end

