-- ==== Sys2Proof/Laws/FrameBoot.lean ====
section
/-! SUPPORT. Frames of the operations of Machine/Boot.lean: one lemma each (Laws/Frame.lean). -/

namespace Sys2Proof.Machine

set_option Elab.async false

theorem State.bootGrotto_fr {κ : Nat} {s0 s : State} {reads : List GrtRead} (hf_ : Fr κ s0 s) (hk_ : 0x86000000000000000000000000000000000000000000000000000002204001000 &&& κ = 0x86000000000000000000000000000000000000000000000000000002204001000 := by decide) :
    Fr κ s0 (State.bootGrotto s reads) := by
  refine Fr.lift hf_ hk_ ?_
  clear hf_ hk_
  unfold State.bootGrotto
  have h0 := Fr.refl 0x86000000000000000000000000000000000000000000000000000002204001000 s
  repeat' first
      | ((try lift_lets); intro v; refine_lift have hv : Fr 0x86000000000000000000000000000000000000000000000000000002204001000 s v := ?_; ?_; clear_value v)
      | ((try lift_lets); intro v)
      | with_reducible refine State.hold_fr ?_
      | with_reducible refine State.modOtp_fr ?_
      | with_reducible refine State.otpRead_fr ?_
      | with_reducible refine State.set_fr ?_
      | with_reducible refine State.setB_fr ?_
      | with_reducible refine State.showCounters_fr ?_
      | with_reducible refine State.showSlots_fr ?_
      | with_reducible refine State.weakFind_fr ?_
      | with_reducible refine Fr.forEach ?_ (fun t a ht => ?_)
      | with_reducible refine Fr.ite ?_ ?_
      | with_reducible refine Fr.cond ?_ ?_
      | with_reducible assumption
      | (refine Fr.of_snd (by assumption) ?_)
      | (refine Fr.of_fst (by assumption) ?_)
      | split
      | (unfold v; split)
      | (unfold v; clear_value *; split)
      | (clear_value *; split)

theorem State.loadSlot_fr {κ : Nat} {s0 s : State} {n : ℕ} (hf_ : Fr κ s0 s) (hk_ : 0xe2c01000008804ac000000400000000000000000000000000020000000000240022201f400 &&& κ = 0xe2c01000008804ac000000400000000000000000000000000020000000000240022201f400 := by decide) :
    Fr κ s0 (State.loadSlot s n) := by
  refine Fr.lift hf_ hk_ ?_
  clear hf_ hk_
  unfold State.loadSlot
  have h0 := Fr.refl 0xe2c01000008804ac000000400000000000000000000000000020000000000240022201f400 s
  repeat' first
      | ((try lift_lets); intro v; refine_lift have hv : Fr 0xe2c01000008804ac000000400000000000000000000000000020000000000240022201f400 s v := ?_; ?_; clear_value v)
      | ((try lift_lets); intro v)
      | with_reducible refine State.fault_fr ?_
      | with_reducible refine State.set_fr ?_
      | with_reducible refine State.wr_fr ?_
      | with_reducible refine Fr.forEach ?_ (fun t a ht => ?_)
      | with_reducible refine Fr.ite ?_ ?_
      | with_reducible refine Fr.cond ?_ ?_
      | with_reducible assumption
      | (refine Fr.of_snd (by assumption) ?_)
      | (refine Fr.of_fst (by assumption) ?_)
      | split
      | (unfold v; split)
      | (unfold v; clear_value *; split)
      | (clear_value *; split)

theorem State.loadNoSlot_fr {κ : Nat} {s0 s : State}  (hf_ : Fr κ s0 s) (hk_ : 0x20000000000800000000000000000000000000000000000000200000000000000000200000 &&& κ = 0x20000000000800000000000000000000000000000000000000200000000000000000200000 := by decide) :
    Fr κ s0 (State.loadNoSlot s) := by
  refine Fr.lift hf_ hk_ ?_
  clear hf_ hk_
  unfold State.loadNoSlot
  have h0 := Fr.refl 0x20000000000800000000000000000000000000000000000000200000000000000000200000 s
  repeat' first
      | ((try lift_lets); intro v; refine_lift have hv : Fr 0x20000000000800000000000000000000000000000000000000200000000000000000200000 s v := ?_; ?_; clear_value v)
      | ((try lift_lets); intro v)
      | with_reducible refine State.modSns_fr ?_
      | with_reducible refine State.set_fr ?_
      | with_reducible refine State.wr_fr ?_
      | with_reducible refine Fr.forEach ?_ (fun t a ht => ?_)
      | with_reducible refine Fr.ite ?_ ?_
      | with_reducible refine Fr.cond ?_ ?_
      | with_reducible assumption
      | (refine Fr.of_snd (by assumption) ?_)
      | (refine Fr.of_fst (by assumption) ?_)
      | split
      | (unfold v; split)
      | (unfold v; clear_value *; split)
      | (clear_value *; split)

theorem State.bootSlot_fr {κ : Nat} {s0 s : State}  (hf_ : Fr κ s0 s) (hk_ : 0xe2c01000008804bc000000400000000000000000000000000020000000000240022221f400 &&& κ = 0xe2c01000008804bc000000400000000000000000000000000020000000000240022221f400 := by decide) :
    Fr κ s0 (State.bootSlot s) := by
  refine Fr.lift hf_ hk_ ?_
  clear hf_ hk_
  unfold State.bootSlot
  have h0 := Fr.refl 0xe2c01000008804bc000000400000000000000000000000000020000000000240022221f400 s
  repeat' first
      | ((try lift_lets); intro v; refine_lift have hv : Fr 0xe2c01000008804bc000000400000000000000000000000000020000000000240022221f400 s v := ?_; ?_; clear_value v)
      | ((try lift_lets); intro v)
      | with_reducible refine State.faultOn_fr ?_
      | with_reducible refine State.loadNoSlot_fr ?_
      | with_reducible refine State.loadSlot_fr ?_
      | with_reducible refine State.set_fr ?_
      | with_reducible refine Fr.forEach ?_ (fun t a ht => ?_)
      | with_reducible refine Fr.ite ?_ ?_
      | with_reducible refine Fr.cond ?_ ?_
      | with_reducible assumption
      | (refine Fr.of_snd (by assumption) ?_)
      | (refine Fr.of_fst (by assumption) ?_)
      | split
      | (unfold v; split)
      | (unfold v; clear_value *; split)
      | (clear_value *; split)

theorem State.probe_fr {κ : Nat} {s0 s : State} {id : FlashId} (hf_ : Fr κ s0 s) (hk_ : 0x30000000000000000000000000000000000000000000000000000000000080000000 &&& κ = 0x30000000000000000000000000000000000000000000000000000000000080000000 := by decide) :
    Fr κ s0 (State.probe s id) := by
  refine Fr.lift hf_ hk_ ?_
  clear hf_ hk_
  unfold State.probe
  have h0 := Fr.refl 0x30000000000000000000000000000000000000000000000000000000000080000000 s
  repeat' first
      | ((try lift_lets); intro v; refine_lift have hv : Fr 0x30000000000000000000000000000000000000000000000000000000000080000000 s v := ?_; ?_; clear_value v)
      | ((try lift_lets); intro v)
      | with_reducible refine State.spent_fr ?_
      | with_reducible refine State.set_fr ?_
      | with_reducible refine Fr.ite ?_ ?_
      | with_reducible refine Fr.cond ?_ ?_
      | with_reducible assumption
      | (refine Fr.of_snd (by assumption) ?_)
      | (refine Fr.of_fst (by assumption) ?_)
      | split
      | (unfold v; split)
      | (unfold v; clear_value *; split)
      | (clear_value *; split)

theorem State.iceError_fr {κ : Nat} {s0 s : State} {kind : ℕ} {source : ℕ} {addr : ℕ} (hf_ : Fr κ s0 s) (hk_ : 0x2c01700000000800000004000000000000000000000000000000000000002400002018400 &&& κ = 0x2c01700000000800000004000000000000000000000000000000000000002400002018400 := by decide) :
    Fr κ s0 (State.iceError s kind source addr) := by
  refine Fr.lift hf_ hk_ ?_
  clear hf_ hk_
  unfold State.iceError
  have h0 := Fr.refl 0x2c01700000000800000004000000000000000000000000000000000000002400002018400 s
  repeat' first
      | ((try lift_lets); intro v; refine_lift have hv : Fr 0x2c01700000000800000004000000000000000000000000000000000000002400002018400 s v := ?_; ?_; clear_value v)
      | ((try lift_lets); intro v)
      | with_reducible refine State.event_fr ?_
      | with_reducible refine State.inc_fr ?_
      | with_reducible refine State.set_fr ?_
      | with_reducible refine Fr.ite ?_ ?_
      | with_reducible refine Fr.cond ?_ ?_
      | with_reducible assumption
      | (refine Fr.of_snd (by assumption) ?_)
      | (refine Fr.of_fst (by assumption) ?_)
      | split
      | (unfold v; split)
      | (unfold v; clear_value *; split)
      | (clear_value *; split)

theorem State.tryCount_fr {κ : Nat} {s0 s : State} {t : FlashTry} {upTo : ℕ} (hf_ : Fr κ s0 s) (hk_ : 0x2c01700000000800000004000000000000000000000000000000000000002400002018400 &&& κ = 0x2c01700000000800000004000000000000000000000000000000000000002400002018400 := by decide) :
    Fr κ s0 (State.tryCount s t upTo) := by
  refine Fr.lift hf_ hk_ ?_
  clear hf_ hk_
  unfold State.tryCount
  have h0 := Fr.refl 0x2c01700000000800000004000000000000000000000000000000000000002400002018400 s
  repeat' first
      | ((try lift_lets); intro v; refine_lift have hv : Fr 0x2c01700000000800000004000000000000000000000000000000000000002400002018400 s v := ?_; ?_; clear_value v)
      | ((try lift_lets); intro v)
      | with_reducible refine State.iceError_fr ?_
      | with_reducible refine State.inc_fr ?_
      | with_reducible refine State.incBy_fr ?_
      | with_reducible refine Fr.ite ?_ ?_
      | with_reducible refine Fr.cond ?_ ?_
      | with_reducible assumption
      | (refine Fr.of_snd (by assumption) ?_)
      | (refine Fr.of_fst (by assumption) ?_)
      | split
      | (unfold v; split)
      | (unfold v; clear_value *; split)
      | (clear_value *; split)

theorem State.placeBytes_fr {κ : Nat} {s0 s : State} {a : ℕ} {bs : List Byte} (hf_ : Fr κ s0 s) (hk_ : 0x1000000000000000000000000000000000000000000000000000000001e0 &&& κ = 0x1000000000000000000000000000000000000000000000000000000001e0 := by decide) :
    Fr κ s0 (State.placeBytes s a bs) := by
  refine Fr.lift hf_ hk_ ?_
  clear hf_ hk_
  unfold State.placeBytes
  have h0 := Fr.refl 0x1000000000000000000000000000000000000000000000000000000001e0 s
  repeat' first
      | ((try lift_lets); intro v; refine_lift have hv : Fr 0x1000000000000000000000000000000000000000000000000000000001e0 s v := ?_; ?_; clear_value v)
      | ((try lift_lets); intro v)
      | with_reducible refine State.eccClear_fr ?_
      | with_reducible refine State.setBytes_fr ?_
      | with_reducible refine Fr.forEach ?_ (fun t a ht => ?_)
      | with_reducible refine Fr.ite ?_ ?_
      | with_reducible refine Fr.cond ?_ ?_
      | with_reducible assumption
      | (refine Fr.of_snd (by assumption) ?_)
      | (refine Fr.of_fst (by assumption) ?_)
      | split
      | (unfold v; split)
      | (unfold v; clear_value *; split)
      | (clear_value *; split)

theorem State.placeSects_fr {κ : Nat} {s0 s : State} {d : List Byte} (hf_ : Fr κ s0 s) (hk_ : 0x1000000000000000000000000000000000000000000000000000000001e0 &&& κ = 0x1000000000000000000000000000000000000000000000000000000001e0 := by decide) :
    Fr κ s0 (State.placeSects s d) := by
  refine Fr.lift hf_ hk_ ?_
  clear hf_ hk_
  unfold State.placeSects
  have h0 := Fr.refl 0x1000000000000000000000000000000000000000000000000000000001e0 s
  repeat' first
      | ((try lift_lets); intro v; refine_lift have hv : Fr 0x1000000000000000000000000000000000000000000000000000000001e0 s v := ?_; ?_; clear_value v)
      | ((try lift_lets); intro v)
      | with_reducible refine State.placeBytes_fr ?_
      | with_reducible refine Fr.forEach ?_ (fun t a ht => ?_)
      | with_reducible refine Fr.ite ?_ ?_
      | with_reducible refine Fr.cond ?_ ?_
      | with_reducible assumption
      | (refine Fr.of_snd (by assumption) ?_)
      | (refine Fr.of_fst (by assumption) ?_)
      | split
      | (unfold v; split)
      | (unfold v; clear_value *; split)
      | (clear_value *; split)

theorem State.zeroSects_fr {κ : Nat} {s0 s : State} {d : List Byte} {upTo : ℕ} (hf_ : Fr κ s0 s) (hk_ : 0x1000000000000000000000000000000000000000000000000000000001e0 &&& κ = 0x1000000000000000000000000000000000000000000000000000000001e0 := by decide) :
    Fr κ s0 (State.zeroSects s d upTo) := by
  refine Fr.lift hf_ hk_ ?_
  clear hf_ hk_
  unfold State.zeroSects
  have h0 := Fr.refl 0x1000000000000000000000000000000000000000000000000000000001e0 s
  repeat' first
      | ((try lift_lets); intro v; refine_lift have hv : Fr 0x1000000000000000000000000000000000000000000000000000000001e0 s v := ?_; ?_; clear_value v)
      | ((try lift_lets); intro v)
      | with_reducible refine State.placeBytes_fr ?_
      | with_reducible refine Fr.forEach ?_ (fun t a ht => ?_)
      | with_reducible refine Fr.ite ?_ ?_
      | with_reducible refine Fr.cond ?_ ?_
      | with_reducible assumption
      | (refine Fr.of_snd (by assumption) ?_)
      | (refine Fr.of_fst (by assumption) ?_)
      | split
      | (unfold v; split)
      | (unfold v; clear_value *; split)
      | (clear_value *; split)

theorem State.applyRoutes_fr {κ : Nat} {s0 s : State} {b : List Byte} (hf_ : Fr κ s0 s) (hk_ : 0x2000000000000000000000000000000000000000000000000000000000000 &&& κ = 0x2000000000000000000000000000000000000000000000000000000000000 := by decide) :
    Fr κ s0 (State.applyRoutes s b) := by
  refine Fr.lift hf_ hk_ ?_
  clear hf_ hk_
  unfold State.applyRoutes
  have h0 := Fr.refl 0x2000000000000000000000000000000000000000000000000000000000000 s
  repeat' first
      | ((try lift_lets); intro v; refine_lift have hv : Fr 0x2000000000000000000000000000000000000000000000000000000000000 s v := ?_; ?_; clear_value v)
      | ((try lift_lets); intro v)
      | with_reducible refine State.set_fr ?_
      | with_reducible refine Fr.forEach ?_ (fun t a ht => ?_)
      | with_reducible refine Fr.ite ?_ ?_
      | with_reducible refine Fr.cond ?_ ?_
      | with_reducible assumption
      | (refine Fr.of_snd (by assumption) ?_)
      | (refine Fr.of_fst (by assumption) ?_)
      | split
      | (unfold v; split)
      | (unfold v; clear_value *; split)
      | (clear_value *; split)

theorem State.applyPergola_fr {κ : Nat} {s0 s : State} {b : List Byte} (hf_ : Fr κ s0 s) (hk_ : 0x8c000000000000000000000000000000000000000000000000000000000000000000010 &&& κ = 0x8c000000000000000000000000000000000000000000000000000000000000000000010 := by decide) :
    Fr κ s0 (State.applyPergola s b) := by
  refine Fr.lift hf_ hk_ ?_
  clear hf_ hk_
  unfold State.applyPergola
  have h0 := Fr.refl 0x8c000000000000000000000000000000000000000000000000000000000000000000010 s
  repeat' first
      | ((try lift_lets); intro v; refine_lift have hv : Fr 0x8c000000000000000000000000000000000000000000000000000000000000000000010 s v := ?_; ?_; clear_value v)
      | ((try lift_lets); intro v)
      | with_reducible refine State.set_fr ?_
      | with_reducible refine State.wr_fr ?_
      | with_reducible refine State.wrSh_fr ?_
      | with_reducible refine Fr.forEach ?_ (fun t a ht => ?_)
      | with_reducible refine Fr.ite ?_ ?_
      | with_reducible refine Fr.cond ?_ ?_
      | with_reducible assumption
      | (refine Fr.of_snd (by assumption) ?_)
      | (refine Fr.of_fst (by assumption) ?_)
      | split
      | (unfold v; split)
      | (unfold v; clear_value *; split)
      | (clear_value *; split)

theorem State.applyComp_fr {κ : Nat} {s0 s : State} {x : Axis} {b : List Byte} (hf_ : Fr κ s0 s) (hk_ : 0x1000000000000000000000000000000000000010 &&& κ = 0x1000000000000000000000000000000000000010 := by decide) :
    Fr κ s0 (State.applyComp s x b) := by
  refine Fr.lift hf_ hk_ ?_
  clear hf_ hk_
  unfold State.applyComp
  have h0 := Fr.refl 0x1000000000000000000000000000000000000010 s
  repeat' first
      | ((try lift_lets); intro v; refine_lift have hv : Fr 0x1000000000000000000000000000000000000010 s v := ?_; ?_; clear_value v)
      | ((try lift_lets); intro v)
      | with_reducible refine State.set_fr ?_
      | with_reducible refine State.setSh_fr ?_
      | with_reducible refine Fr.forEachFld ?_ (fun t f hf ht => ?_)
      | with_reducible refine Fr.forEach ?_ (fun t a ht => ?_)
      | with_reducible refine Fr.ite ?_ ?_
      | with_reducible refine Fr.cond ?_ ?_
      | with_reducible assumption
      | (refine Fr.of_snd (by assumption) ?_)
      | (refine Fr.of_fst (by assumption) ?_)
      | split
      | (unfold v; split)
      | (unfold v; clear_value *; split)
      | (clear_value *; split)

theorem State.applyOp_fr {κ : Nat} {s0 s : State} {x : Axis} {g : GraphD} {op : ℕ} {ws : List ℕ} (hf_ : Fr κ s0 s) (hk_ : 0x1ffffffffffffffffffffffffffffffffffffffffffffffffffffffffffffffffff00000000 &&& κ = 0x1ffffffffffffffffffffffffffffffffffffffffffffffffffffffffffffffffff00000000 := by decide) :
    Fr κ s0 (State.applyOp s x g op ws) := by
  refine Fr.lift hf_ hk_ ?_
  clear hf_ hk_
  unfold State.applyOp
  have h0 := Fr.refl 0x1ffffffffffffffffffffffffffffffffffffffffffffffffffffffffffffffffff00000000 s
  repeat' first
      | ((try lift_lets); intro v; refine_lift have hv : Fr 0x1ffffffffffffffffffffffffffffffffffffffffffffffffffffffffffffffffff00000000 s v := ?_; ?_; clear_value v)
      | ((try lift_lets); intro v)
      | with_reducible refine State.set_fr ?_
      | with_reducible refine State.setBit_fr ?_
      | with_reducible refine Fr.ite ?_ ?_
      | with_reducible refine Fr.cond ?_ ?_
      | with_reducible assumption
      | (refine Fr.of_snd (by assumption) ?_)
      | (refine Fr.of_fst (by assumption) ?_)
      | split
      | (unfold v; split)
      | (unfold v; clear_value *; split)
      | (clear_value *; split)

theorem State.applyGraphs_fr {κ : Nat} {s0 s : State} {d : List Byte} (hf_ : Fr κ s0 s) (hk_ : 0x1ffffffffffffffffffffffffffffffffffffffffffffffffffffffffffffffffff00000000 &&& κ = 0x1ffffffffffffffffffffffffffffffffffffffffffffffffffffffffffffffffff00000000 := by decide) :
    Fr κ s0 (State.applyGraphs s d) := by
  refine Fr.lift hf_ hk_ ?_
  clear hf_ hk_
  unfold State.applyGraphs
  have h0 := Fr.refl 0x1ffffffffffffffffffffffffffffffffffffffffffffffffffffffffffffffffff00000000 s
  repeat' first
      | ((try lift_lets); intro v; refine_lift have hv : Fr 0x1ffffffffffffffffffffffffffffffffffffffffffffffffffffffffffffffffff00000000 s v := ?_; ?_; clear_value v)
      | ((try lift_lets); intro v)
      | with_reducible refine State.applyOp_fr ?_
      | with_reducible refine Fr.forEach ?_ (fun t a ht => ?_)
      | with_reducible refine Fr.ite ?_ ?_
      | with_reducible refine Fr.cond ?_ ?_
      | with_reducible assumption
      | (refine Fr.of_snd (by assumption) ?_)
      | (refine Fr.of_fst (by assumption) ?_)
      | split
      | (unfold v; split)
      | (unfold v; clear_value *; split)
      | (clear_value *; split)

theorem State.builtFit_fr {κ : Nat} {s0 s : State} {d : List Byte} (hf_ : Fr κ s0 s) (hk_ : 0x10000000e00000001e000e00000000000000000200000000000010 &&& κ = 0x10000000e00000001e000e00000000000000000200000000000010 := by decide) :
    Fr κ s0 (State.builtFit s d) := by
  refine Fr.lift hf_ hk_ ?_
  clear hf_ hk_
  unfold State.builtFit
  have h0 := Fr.refl 0x10000000e00000001e000e00000000000000000200000000000010 s
  repeat' first
      | ((try lift_lets); intro v; refine_lift have hv : Fr 0x10000000e00000001e000e00000000000000000200000000000010 s v := ?_; ?_; clear_value v)
      | ((try lift_lets); intro v)
      | with_reducible refine Fr.forEachFld ?_ (fun t f hf ht => ?_)
      | with_reducible refine Fr.forEach ?_ (fun t a ht => ?_)
      | with_reducible refine State.setBoth_fr ?_
      | with_reducible refine State.setW_fr ?_
      | with_reducible refine State.wr_fr ?_
      | with_reducible refine Fr.ite ?_ ?_
      | with_reducible refine Fr.cond ?_ ?_
      | with_reducible assumption
      | with_reducible exact Fr.id_ (by with_reducible assumption)
      | (refine Fr.of_snd (by assumption) ?_)
      | (refine Fr.of_fst (by assumption) ?_)
      | split
      | (unfold v; split)
      | (unfold v; clear_value *; split)
      | (clear_value *; split)

theorem State.applyRegs_fr {κ : Nat} {s0 s : State} {d : List Byte} (hf_ : Fr κ s0 s) (hk_ : 0x1ffffffffffffffffffffffffffffffffffffffffffffffffffffffffffffffffff00000010 &&& κ = 0x1ffffffffffffffffffffffffffffffffffffffffffffffffffffffffffffffffff00000010 := by decide) :
    Fr κ s0 (State.applyRegs s d) := by
  refine Fr.lift hf_ hk_ ?_
  clear hf_ hk_
  unfold State.applyRegs
  have h0 := Fr.refl 0x1ffffffffffffffffffffffffffffffffffffffffffffffffffffffffffffffffff00000010 s
  repeat' first
      | ((try lift_lets); intro v; refine_lift have hv : Fr 0x1ffffffffffffffffffffffffffffffffffffffffffffffffffffffffffffffffff00000010 s v := ?_; ?_; clear_value v)
      | ((try lift_lets); intro v)
      | with_reducible refine State.builtFit_fr ?_
      | with_reducible refine State.applyComp_fr ?_
      | with_reducible refine State.applyGraphs_fr ?_
      | with_reducible refine State.applyPergola_fr ?_
      | with_reducible refine State.applyRoutes_fr ?_
      | with_reducible refine State.builtIns_fr ?_
      | with_reducible refine State.regsRecord_fr ?_
      | with_reducible refine Fr.forEach ?_ (fun t a ht => ?_)
      | with_reducible refine Fr.ite ?_ ?_
      | with_reducible refine Fr.cond ?_ ?_
      | with_reducible assumption
      | (refine Fr.of_snd (by assumption) ?_)
      | (refine Fr.of_fst (by assumption) ?_)
      | split
      | (unfold v; split)
      | (unfold v; clear_value *; split)
      | (clear_value *; split)

theorem State.raiseHeld_fr {κ : Nat} {s0 s : State}  (hf_ : Fr κ s0 s) (hk_ : 0xc2c01000008004bc00000040000000000000000000000000000000000000024000a201f500 &&& κ = 0xc2c01000008004bc00000040000000000000000000000000000000000000024000a201f500 := by decide) :
    Fr κ s0 (State.raiseHeld s) := by
  refine Fr.lift hf_ hk_ ?_
  clear hf_ hk_
  unfold State.raiseHeld
  have h0 := Fr.refl 0xc2c01000008004bc00000040000000000000000000000000000000000000024000a201f500 s
  repeat' first
      | ((try lift_lets); intro v; refine_lift have hv : Fr 0xc2c01000008004bc00000040000000000000000000000000000000000000024000a201f500 s v := ?_; ?_; clear_value v)
      | ((try lift_lets); intro v)
      | with_reducible refine State.event_fr ?_
      | with_reducible refine State.faultNow_fr ?_
      | with_reducible refine State.inc_fr ?_
      | with_reducible refine State.fault_fr ?_
      | with_reducible refine State.setCause_fr ?_
      | with_reducible refine State.setFound_fr ?_
      | with_reducible refine State.setHeld_fr ?_
      | with_reducible refine State.spent_fr ?_
      | with_reducible refine Fr.forEach ?_ (fun t a ht => ?_)
      | with_reducible refine Fr.ite ?_ ?_
      | with_reducible refine Fr.cond ?_ ?_
      | with_reducible assumption
      | (refine Fr.of_snd (by assumption) ?_)
      | (refine Fr.of_fst (by assumption) ?_)
      | split
      | (unfold v; split)
      | (unfold v; clear_value *; split)
      | (clear_value *; split)

theorem State.startAxis_fr {κ : Nat} {s0 s : State} {x : Axis} (hf_ : Fr κ s0 s) (hk_ : 0x180408000000e00020501e000e00010000000000040000000000078430 &&& κ = 0x180408000000e00020501e000e00010000000000040000000000078430 := by decide) :
    Fr κ s0 (State.startAxis s x) := by
  refine Fr.lift hf_ hk_ ?_
  clear hf_ hk_
  unfold State.startAxis
  have h0 := Fr.refl 0x180408000000e00020501e000e00010000000000040000000000078430 s
  repeat' first
      | ((try lift_lets); intro v; refine_lift have hv : Fr 0x180408000000e00020501e000e00010000000000040000000000078430 s v := ?_; ?_; clear_value v)
      | ((try lift_lets); intro v)
      | with_reducible refine State.settle_fr ?_
      | with_reducible refine State.cascadeShow_fr ?_
      | with_reducible refine State.compsZero_fr ?_
      | with_reducible refine State.modTr_fr ?_
      | with_reducible refine State.serviceApply_fr ?_
      | with_reducible refine State.set_fr ?_
      | with_reducible refine Fr.ite ?_ ?_
      | with_reducible refine Fr.cond ?_ ?_
      | with_reducible assumption
      | (refine Fr.of_snd (by assumption) ?_)
      | (refine Fr.of_fst (by assumption) ?_)
      | split
      | (unfold v; split)
      | (unfold v; clear_value *; split)
      | (clear_value *; split)

theorem State.bootTime_fr {κ : Nat} {s0 s : State} {us : ℕ} (hf_ : Fr κ s0 s) (hk_ : 0x4000000000 &&& κ = 0x4000000000 := by decide) :
    Fr κ s0 (State.bootTime s us) := by
  refine Fr.lift hf_ hk_ ?_
  clear hf_ hk_
  unfold State.bootTime
  have h0 := Fr.refl 0x4000000000 s
  repeat' first
      | ((try lift_lets); intro v; refine_lift have hv : Fr 0x4000000000 s v := ?_; ?_; clear_value v)
      | ((try lift_lets); intro v)
      | with_reducible refine State.set_fr ?_
      | with_reducible refine Fr.ite ?_ ?_
      | with_reducible refine Fr.cond ?_ ?_
      | with_reducible assumption
      | (refine Fr.of_snd (by assumption) ?_)
      | (refine Fr.of_fst (by assumption) ?_)
      | split
      | (unfold v; split)
      | (unfold v; clear_value *; split)
      | (clear_value *; split)

theorem State.enterRunning_fr {κ : Nat} {s0 s : State} {host : Bool} {us : ℕ} (hf_ : Fr κ s0 s) (hk_ : 0xc2c01000008004bc180408400000e00020501e000e000100000080000400026062a687f530 &&& κ = 0xc2c01000008004bc180408400000e00020501e000e000100000080000400026062a687f530 := by decide) :
    Fr κ s0 (State.enterRunning s host us) := by
  refine Fr.lift hf_ hk_ ?_
  clear hf_ hk_
  unfold State.enterRunning
  have h0 := Fr.refl 0xc2c01000008004bc180408400000e00020501e000e000100000080000400026062a687f530 s
  repeat' first
      | ((try lift_lets); intro v; refine_lift have hv : Fr 0xc2c01000008004bc180408400000e00020501e000e000100000080000400026062a687f530 s v := ?_; ?_; clear_value v)
      | ((try lift_lets); intro v)
      | with_reducible refine State.bootTime_fr ?_
      | with_reducible refine State.event_fr ?_
      | with_reducible refine State.modOrg_fr ?_
      | with_reducible refine State.modOtp_fr ?_
      | with_reducible refine State.raiseHeld_fr ?_
      | with_reducible refine State.set_fr ?_
      | with_reducible refine State.setB_fr ?_
      | with_reducible refine State.setHeld_fr ?_
      | with_reducible refine State.startAxis_fr ?_
      | with_reducible refine Fr.ite ?_ ?_
      | with_reducible refine Fr.cond ?_ ?_
      | with_reducible assumption
      | (refine Fr.of_snd (by assumption) ?_)
      | (refine Fr.of_fst (by assumption) ?_)
      | split
      | (unfold v; split)
      | (unfold v; clear_value *; split)
      | (clear_value *; split)

theorem State.noImage_fr {κ : Nat} {s0 s : State} {us : ℕ} (hf_ : Fr κ s0 s) (hk_ : 0x4200000000 &&& κ = 0x4200000000 := by decide) :
    Fr κ s0 (State.noImage s us) := by
  refine Fr.lift hf_ hk_ ?_
  clear hf_ hk_
  unfold State.noImage
  have h0 := Fr.refl 0x4200000000 s
  repeat' first
      | ((try lift_lets); intro v; refine_lift have hv : Fr 0x4200000000 s v := ?_; ?_; clear_value v)
      | ((try lift_lets); intro v)
      | with_reducible refine State.bootTime_fr ?_
      | with_reducible refine State.set_fr ?_
      | with_reducible refine Fr.ite ?_ ?_
      | with_reducible refine Fr.cond ?_ ?_
      | with_reducible assumption
      | (refine Fr.of_snd (by assumption) ?_)
      | (refine Fr.of_fst (by assumption) ?_)
      | split
      | (unfold v; split)
      | (unfold v; clear_value *; split)
      | (clear_value *; split)

theorem State.loadFails_fr {κ : Nat} {s0 s : State} {result : ℕ} {e : Option LoadFail} (hf_ : Fr κ s0 s) (hk_ : 0x20200000000 &&& κ = 0x20200000000 := by decide) :
    Fr κ s0 (State.loadFails s result e) := by
  refine Fr.lift hf_ hk_ ?_
  clear hf_ hk_
  unfold State.loadFails
  have h0 := Fr.refl 0x20200000000 s
  repeat' first
      | ((try lift_lets); intro v; refine_lift have hv : Fr 0x20200000000 s v := ?_; ?_; clear_value v)
      | ((try lift_lets); intro v)
      | with_reducible refine State.set_fr ?_
      | with_reducible refine Fr.ite ?_ ?_
      | with_reducible refine Fr.cond ?_ ?_
      | with_reducible assumption
      | (refine Fr.of_snd (by assumption) ?_)
      | (refine Fr.of_fst (by assumption) ?_)
      | split
      | (unfold v; split)
      | (unfold v; clear_value *; split)
      | (clear_value *; split)

theorem State.applyImage_fr {κ : Nat} {s0 s t : State} {d : List Byte} {host : Bool} (hf_ : Fr κ s0 s)
    (e : State.applyImage s d host = .inl t) (hk_ : 0x1ffffffffffffffffffffffffffffffffffffffffffffffffffffffffffffffffff000003f0 &&& κ = 0x1ffffffffffffffffffffffffffffffffffffffffffffffffffffffffffffffffff000003f0 := by decide) : Fr κ s0 t := by
  refine Fr.lift hf_ hk_ ?_
  unfold State.applyImage at e
  split at e
  · dsimp only at e
    split at e
    · simp at e
    · obtain rfl := Sum.inl.inj e
      exact State.applyRegs_fr (State.modImg_fr (State.placeSects_fr (Fr.refl _ _)))
  · simp at e

theorem State.flashFails_fr {κ : Nat} {s0 s : State} {d : List Byte} {upTo : ℕ} {result : ℕ} {e : Option LoadFail} {us : ℕ} (hf_ : Fr κ s0 s) (hk_ : 0x1000000000000000000000000000000000000000000000000242000001e0 &&& κ = 0x1000000000000000000000000000000000000000000000000242000001e0 := by decide) :
    Fr κ s0 (State.flashFails s d upTo result e us) := by
  refine Fr.lift hf_ hk_ ?_
  clear hf_ hk_
  unfold State.flashFails
  have h0 := Fr.refl 0x1000000000000000000000000000000000000000000000000242000001e0 s
  repeat' first
      | ((try lift_lets); intro v; refine_lift have hv : Fr 0x1000000000000000000000000000000000000000000000000242000001e0 s v := ?_; ?_; clear_value v)
      | ((try lift_lets); intro v)
      | with_reducible refine State.loadFails_fr ?_
      | with_reducible refine State.noImage_fr ?_
      | with_reducible refine State.set_fr ?_
      | with_reducible refine State.zeroSects_fr ?_
      | with_reducible refine Fr.ite ?_ ?_
      | with_reducible refine Fr.cond ?_ ?_
      | with_reducible assumption
      | (refine Fr.of_snd (by assumption) ?_)
      | (refine Fr.of_fst (by assumption) ?_)
      | split
      | (unfold v; split)
      | (unfold v; clear_value *; split)
      | (clear_value *; split)

theorem State.flashLoad_fr {κ : Nat} {s0 s : State} {t : FlashTry} {us : ℕ} (hf_ : Fr κ s0 s) (hk_ : 0x1ffffffffffffffffffffffffffffffffffffffffffffffffffffffffffffffffffa687f7f0 &&& κ = 0x1ffffffffffffffffffffffffffffffffffffffffffffffffffffffffffffffffffa687f7f0 := by decide) :
    Fr κ s0 (State.flashLoad s t us) := by
  refine Fr.lift hf_ hk_ ?_
  clear hf_ hk_
  unfold State.flashLoad
  have h0 := Fr.refl 0x1ffffffffffffffffffffffffffffffffffffffffffffffffffffffffffffffffffa687f7f0 s
  repeat' first
      | ((try lift_lets); intro v; refine_lift have hv : Fr 0x1ffffffffffffffffffffffffffffffffffffffffffffffffffffffffffffffffffa687f7f0 s v := ?_; ?_; clear_value v)
      | ((try lift_lets); intro v)
      | with_reducible refine State.enterRunning_fr ?_
      | with_reducible refine State.flashFails_fr ?_
      | with_reducible refine State.tryCount_fr ?_
      | with_reducible refine Fr.ite ?_ ?_
      | with_reducible refine Fr.cond ?_ ?_
      | with_reducible assumption
      | (refine State.applyImage_fr ?_ (by assumption))
      | (refine Fr.of_snd (by assumption) ?_)
      | (refine Fr.of_fst (by assumption) ?_)
      | split
      | (unfold v; split)
      | (unfold v; clear_value *; split)
      | (clear_value *; split)

theorem State.bootLoad_fr {κ : Nat} {s0 s : State} {t1 : FlashTry} {t2 : FlashTry} {us : ℕ} (hf_ : Fr κ s0 s) (hk_ : 0x1ffffffffffffffffffffffffffffffffffffffffffffffffffffffffffffffffffa687f7f0 &&& κ = 0x1ffffffffffffffffffffffffffffffffffffffffffffffffffffffffffffffffffa687f7f0 := by decide) :
    Fr κ s0 (State.bootLoad s t1 t2 us) := by
  refine Fr.lift hf_ hk_ ?_
  clear hf_ hk_
  unfold State.bootLoad
  have h0 := Fr.refl 0x1ffffffffffffffffffffffffffffffffffffffffffffffffffffffffffffffffffa687f7f0 s
  repeat' first
      | ((try lift_lets); intro v; refine_lift have hv : Fr 0x1ffffffffffffffffffffffffffffffffffffffffffffffffffffffffffffffffffa687f7f0 s v := ?_; ?_; clear_value v)
      | ((try lift_lets); intro v)
      | with_reducible refine State.flashFails_fr ?_
      | with_reducible refine State.flashLoad_fr ?_
      | with_reducible refine State.loadFails_fr ?_
      | with_reducible refine State.noImage_fr ?_
      | with_reducible refine State.probe_fr ?_
      | with_reducible refine State.tryCount_fr ?_
      | with_reducible refine State.wr_fr ?_
      | with_reducible refine Fr.ite ?_ ?_
      | with_reducible refine Fr.cond ?_ ?_
      | with_reducible assumption
      | (refine Fr.of_snd (by assumption) ?_)
      | (refine Fr.of_fst (by assumption) ?_)
      | split
      | (unfold v; split)
      | (unfold v; clear_value *; split)
      | (clear_value *; split)

theorem execBootSequence_fr {s t_ : State} {reads : List GrtRead} {t1 : FlashTry} {t2 : FlashTry} {us : ℕ} (e_ : execBootSequence reads t1 t2 us s = .next t_) : Fr 0x1ffffffffffffffffffffffffffffffffffffffffffffffffffffffffffffffffffa6a7f7f0 s t_ := by
  unfold execBootSequence at e_
  obtain rfl := Host.Outcome.next.inj e_
  clear e_
  have h0 := Fr.refl 0x1ffffffffffffffffffffffffffffffffffffffffffffffffffffffffffffffffffa6a7f7f0 s
  repeat' first
      | ((try lift_lets); intro v; refine_lift have hv : Fr 0x1ffffffffffffffffffffffffffffffffffffffffffffffffffffffffffffffffffa6a7f7f0 s v := ?_; ?_; clear_value v)
      | ((try lift_lets); intro v)
      | with_reducible refine State.bootGrotto_fr ?_
      | with_reducible refine State.bootLoad_fr ?_
      | with_reducible refine State.bootSlot_fr ?_
      | with_reducible refine Fr.ite ?_ ?_
      | with_reducible refine Fr.cond ?_ ?_
      | with_reducible assumption
      | (refine Fr.of_snd (by assumption) ?_)
      | (refine Fr.of_fst (by assumption) ?_)
      | split
      | (unfold v; split)
      | (unfold v; clear_value *; split)
      | (clear_value *; split)

theorem State.hostLoad_fr {κ : Nat} {s0 s : State} {w : Word} {us : ℕ} (hf_ : Fr κ s0 s) (hk_ : 0x1ffffffffffffffffffffffffffffffffffffffffffffffffffffffffffffffffffae87f7f0 &&& κ = 0x1ffffffffffffffffffffffffffffffffffffffffffffffffffffffffffffffffffae87f7f0 := by decide) :
    Fr κ s0 (State.hostLoad s w us) := by
  refine Fr.lift hf_ hk_ ?_
  clear hf_ hk_
  unfold State.hostLoad
  dsimp only
  have h0 := Fr.refl 0x1ffffffffffffffffffffffffffffffffffffffffffffffffffffffffffffffffffae87f7f0 s
  repeat' first
      | ((try lift_lets); intro v; refine_lift have hv : Fr 0x1ffffffffffffffffffffffffffffffffffffffffffffffffffffffffffffffffffae87f7f0 s v := ?_; ?_; clear_value v)
      | ((try lift_lets); intro v)
      | with_reducible refine State.zeroSects_fr ?_
      | with_reducible refine State.checkWord32_fr ?_
      | with_reducible refine State.enterRunning_fr ?_
      | with_reducible refine State.event_fr ?_
      | with_reducible refine State.loadFails_fr ?_
      | with_reducible refine State.noImage_fr ?_
      | with_reducible refine State.set_fr ?_
      | with_reducible refine State.wr_fr ?_
      | with_reducible refine Fr.forEach ?_ (fun t a ht => ?_)
      | with_reducible refine Fr.ite ?_ ?_
      | with_reducible refine Fr.cond ?_ ?_
      | with_reducible assumption
      | (refine State.applyImage_fr ?_ (by assumption))
      | (refine Fr.of_snd (by assumption) ?_)
      | (refine Fr.of_fst (by assumption) ?_)
      | split
      | (unfold v; split)
      | (unfold v; clear_value *; split)
      | (clear_value *; split)

theorem execHostLoadGo_fr {s t_ : State} {w : Word} {us : ℕ} (e_ : execHostLoadGo w us s = .next t_) : Fr 0x1ffffffffffffffffffffffffffffffffffffffffffffffffffffffffffffffffffae87f7f0 s t_ := by
  unfold execHostLoadGo at e_
  obtain rfl := Host.Outcome.next.inj e_
  clear e_
  have h0 := Fr.refl 0x1ffffffffffffffffffffffffffffffffffffffffffffffffffffffffffffffffffae87f7f0 s
  repeat' first
      | ((try lift_lets); intro v; refine_lift have hv : Fr 0x1ffffffffffffffffffffffffffffffffffffffffffffffffffffffffffffffffffae87f7f0 s v := ?_; ?_; clear_value v)
      | ((try lift_lets); intro v)
      | with_reducible refine State.hostLoad_fr ?_
      | with_reducible refine Fr.ite ?_ ?_
      | with_reducible refine Fr.cond ?_ ?_
      | with_reducible assumption
      | (refine Fr.of_snd (by assumption) ?_)
      | (refine Fr.of_fst (by assumption) ?_)
      | split
      | (unfold v; split)
      | (unfold v; clear_value *; split)
      | (clear_value *; split)

theorem State.sectSwap_fr {κ : Nat} {s0 s : State}  (hf_ : Fr κ s0 s) (hk_ : 0xc3c03000008004bc1c000c600000e00020501e000e0000000000000000001a4180aa07f7f0 &&& κ = 0xc3c03000008004bc1c000c600000e00020501e000e0000000000000000001a4180aa07f7f0 := by decide) :
    Fr κ s0 (State.sectSwap s) := by
  refine Fr.lift hf_ hk_ ?_
  clear hf_ hk_
  unfold State.sectSwap
  have h0 := Fr.refl 0xc3c03000008004bc1c000c600000e00020501e000e0000000000000000001a4180aa07f7f0 s
  repeat' first
      | ((try lift_lets); intro v; refine_lift have hv : Fr 0xc3c03000008004bc1c000c600000e00020501e000e0000000000000000001a4180aa07f7f0 s v := ?_; ?_; clear_value v)
      | ((try lift_lets); intro v)
      | with_reducible refine State.copyOver_fr ?_
      | with_reducible refine State.pllShow_fr ?_
      | with_reducible refine Fr.onlyIf ?_ (fun t ht => ?_)
      | with_reducible refine State.sectShow_fr ?_
      | with_reducible refine State.event_fr ?_
      | with_reducible refine State.modFab_fr ?_
      | with_reducible refine State.modImg_fr ?_
      | with_reducible refine State.placeBytes_fr ?_
      | with_reducible refine State.serviceApply_fr ?_
      | with_reducible refine State.set_fr ?_
      | with_reducible refine Fr.ite ?_ ?_
      | with_reducible refine Fr.cond ?_ ?_
      | with_reducible assumption
      | (refine Fr.of_snd (by assumption) ?_)
      | (refine Fr.of_fst (by assumption) ?_)
      | split
      | (unfold v; split)
      | (unfold v; clear_value *; split)
      | (clear_value *; split)

theorem State.sectUpdate_fr {κ : Nat} {s0 s : State} {i : ℕ} {c : Sect} (hf_ : Fr κ s0 s) (hk_ : 0xc3c03000008004bc1c000c600000e00020501e000e0000000000000000001a4180aa07f7f0 &&& κ = 0xc3c03000008004bc1c000c600000e00020501e000e0000000000000000001a4180aa07f7f0 := by decide) :
    Fr κ s0 (State.sectUpdate s i c) := by
  refine Fr.lift hf_ hk_ ?_
  clear hf_ hk_
  unfold State.sectUpdate
  dsimp only
  have h0 := Fr.refl 0xc3c03000008004bc1c000c600000e00020501e000e0000000000000000001a4180aa07f7f0 s
  repeat' first
      | ((try lift_lets); intro v; refine_lift have hv : Fr 0xc3c03000008004bc1c000c600000e00020501e000e0000000000000000001a4180aa07f7f0 s v := ?_; ?_; clear_value v)
      | ((try lift_lets); intro v)
      | with_reducible refine State.writeOver_fr ?_
      | with_reducible refine State.checkWord32_fr ?_
      | with_reducible refine State.event_fr ?_
      | with_reducible refine State.placeBytes_fr ?_
      | with_reducible refine State.sectSwap_fr ?_
      | with_reducible refine State.set_fr ?_
      | with_reducible refine Fr.forEach ?_ (fun t a ht => ?_)
      | with_reducible refine Fr.ite ?_ ?_
      | with_reducible refine Fr.cond ?_ ?_
      | with_reducible assumption
      | (refine Fr.of_snd (by assumption) ?_)
      | (refine Fr.of_fst (by assumption) ?_)
      | split
      | (unfold v; split)
      | (unfold v; clear_value *; split)
      | (clear_value *; split)

theorem State.sectWrite_fr {κ : Nat} {s0 s : State} {w : Word} (hf_ : Fr κ s0 s) (hk_ : 0xc3c03000008004bc1c000c600000e00020501e000e0000000000000000001a4180aa07f7f0 &&& κ = 0xc3c03000008004bc1c000c600000e00020501e000e0000000000000000001a4180aa07f7f0 := by decide) :
    Fr κ s0 (State.sectWrite s w) := by
  refine Fr.lift hf_ hk_ ?_
  clear hf_ hk_
  unfold State.sectWrite
  have h0 := Fr.refl 0xc3c03000008004bc1c000c600000e00020501e000e0000000000000000001a4180aa07f7f0 s
  repeat' first
      | ((try lift_lets); intro v; refine_lift have hv : Fr 0xc3c03000008004bc1c000c600000e00020501e000e0000000000000000001a4180aa07f7f0 s v := ?_; ?_; clear_value v)
      | ((try lift_lets); intro v)
      | with_reducible refine State.sectUpdate_fr ?_
      | with_reducible refine State.set_fr ?_
      | with_reducible refine Fr.ite ?_ ?_
      | with_reducible refine Fr.cond ?_ ?_
      | with_reducible assumption
      | (refine Fr.of_snd (by assumption) ?_)
      | (refine Fr.of_fst (by assumption) ?_)
      | split
      | (unfold v; split)
      | (unfold v; clear_value *; split)
      | (clear_value *; split)

theorem execSectUpd_fr {s t_ : State} {w : Word} (e_ : execSectUpd w s = .next t_) : Fr 0xc3c03000008004bc1c000c600000e00020501e000e0000000000000000001a4180aa07f7f0 s t_ := by
  unfold execSectUpd at e_
  obtain rfl := Host.Outcome.next.inj e_
  clear e_
  have h0 := Fr.refl 0xc3c03000008004bc1c000c600000e00020501e000e0000000000000000001a4180aa07f7f0 s
  repeat' first
      | ((try lift_lets); intro v; refine_lift have hv : Fr 0xc3c03000008004bc1c000c600000e00020501e000e0000000000000000001a4180aa07f7f0 s v := ?_; ?_; clear_value v)
      | ((try lift_lets); intro v)
      | with_reducible refine State.sectWrite_fr ?_
      | with_reducible refine Fr.running ?_ (fun t ht => ?_)
      | with_reducible refine Fr.ite ?_ ?_
      | with_reducible refine Fr.cond ?_ ?_
      | with_reducible assumption
      | (refine Fr.of_snd (by assumption) ?_)
      | (refine Fr.of_fst (by assumption) ?_)
      | split
      | (unfold v; split)
      | (unfold v; clear_value *; split)
      | (clear_value *; split)

theorem execSectionSwap_fr {s t_ : State} {x : Axis} (e_ : execSectionSwap x s = .next t_) : Fr 0xc3c03000008004bc1c000c600000e00020501e000e0000000000000000001a4180aa07f7f0 s t_ := by
  unfold execSectionSwap at e_
  obtain rfl := Host.Outcome.next.inj e_
  clear e_
  have h0 := Fr.refl 0xc3c03000008004bc1c000c600000e00020501e000e0000000000000000001a4180aa07f7f0 s
  repeat' first
      | ((try lift_lets); intro v; refine_lift have hv : Fr 0xc3c03000008004bc1c000c600000e00020501e000e0000000000000000001a4180aa07f7f0 s v := ?_; ?_; clear_value v)
      | ((try lift_lets); intro v)
      | with_reducible refine State.sectSwap_fr ?_
      | with_reducible refine Fr.running ?_ (fun t ht => ?_)
      | with_reducible refine Fr.ite ?_ ?_
      | with_reducible refine Fr.cond ?_ ?_
      | with_reducible assumption
      | (refine Fr.of_snd (by assumption) ?_)
      | (refine Fr.of_fst (by assumption) ?_)
      | split
      | (unfold v; split)
      | (unfold v; clear_value *; split)
      | (clear_value *; split)

end Sys2Proof.Machine
end

