-- ==== Sys2Proof/Laws/FrameKiosk.lean ====
section
/-! SUPPORT. Frames of the operations of Machine/Kiosk.lean: one lemma each (Laws/Frame.lean). -/

namespace Sys2Proof.Machine

set_option Elab.async false

theorem State.modRun_fr {κ : Nat} {s0 s : State} {k : ℕ} {f : Run → Run} (hf_ : Fr κ s0 s) (hk_ : 0x400 &&& κ = 0x400 := by decide) :
    Fr κ s0 (State.modRun s k f) := by
  refine Fr.lift hf_ hk_ ?_
  clear hf_ hk_
  unfold State.modRun
  have h0 := Fr.refl 0x400 s
  repeat' first
      | ((try lift_lets); intro v; refine_lift have hv : Fr 0x400 s v := ?_; ?_; clear_value v)
      | ((try lift_lets); intro v)
      | with_reducible refine State.modKiosk_fr ?_
      | with_reducible refine Fr.ite ?_ ?_
      | with_reducible refine Fr.cond ?_ ?_
      | with_reducible assumption
      | (refine Fr.of_snd (by assumption) ?_)
      | (refine Fr.of_fst (by assumption) ?_)
      | split
      | (unfold v; split)
      | (unfold v; clear_value *; split)
      | (clear_value *; split)

theorem State.showLocks_fr {κ : Nat} {s0 s : State}  (hf_ : Fr κ s0 s) (hk_ : 0x20000000000000 &&& κ = 0x20000000000000 := by decide) :
    Fr κ s0 (State.showLocks s) := by
  refine Fr.lift hf_ hk_ ?_
  clear hf_ hk_
  unfold State.showLocks
  have h0 := Fr.refl 0x20000000000000 s
  repeat' first
      | ((try lift_lets); intro v; refine_lift have hv : Fr 0x20000000000000 s v := ?_; ?_; clear_value v)
      | ((try lift_lets); intro v)
      | with_reducible refine State.set_fr ?_
      | with_reducible refine Fr.ite ?_ ?_
      | with_reducible refine Fr.cond ?_ ?_
      | with_reducible assumption
      | (refine Fr.of_snd (by assumption) ?_)
      | (refine Fr.of_fst (by assumption) ?_)
      | split
      | (unfold v; split)
      | (unfold v; clear_value *; split)
      | (clear_value *; split)

theorem State.putLock_fr {κ : Nat} {s0 s : State} {l : ℕ} {k : Option ℕ} (hf_ : Fr κ s0 s) (hk_ : 0x20000000000400 &&& κ = 0x20000000000400 := by decide) :
    Fr κ s0 (State.putLock s l k) := by
  refine Fr.lift hf_ hk_ ?_
  clear hf_ hk_
  unfold State.putLock
  have h0 := Fr.refl 0x20000000000400 s
  repeat' first
      | ((try lift_lets); intro v; refine_lift have hv : Fr 0x20000000000400 s v := ?_; ?_; clear_value v)
      | ((try lift_lets); intro v)
      | with_reducible refine State.modFab_fr ?_
      | with_reducible refine State.showLocks_fr ?_
      | with_reducible refine Fr.ite ?_ ?_
      | with_reducible refine Fr.cond ?_ ?_
      | with_reducible assumption
      | (refine Fr.of_snd (by assumption) ?_)
      | (refine Fr.of_fst (by assumption) ?_)
      | split
      | (unfold v; split)
      | (unfold v; clear_value *; split)
      | (clear_value *; split)

theorem State.freeLock_fr {κ : Nat} {s0 s : State} {l : ℕ} (hf_ : Fr κ s0 s) (hk_ : 0x20000080000400 &&& κ = 0x20000080000400 := by decide) :
    Fr κ s0 (State.freeLock s l) := by
  refine Fr.lift hf_ hk_ ?_
  clear hf_ hk_
  unfold State.freeLock
  dsimp only
  have h0 := Fr.refl 0x20000080000400 s
  repeat' first
      | ((try lift_lets); intro v; refine_lift have hv : Fr 0x20000080000400 s v := ?_; ?_; clear_value v)
      | ((try lift_lets); intro v)
      | with_reducible refine State.freshNat_fr ?_
      | with_reducible refine State.modRun_fr ?_
      | with_reducible refine State.putLock_fr ?_
      | with_reducible refine Fr.ite ?_ ?_
      | with_reducible refine Fr.cond ?_ ?_
      | with_reducible assumption
      | (refine Fr.of_snd (by assumption) ?_)
      | (refine Fr.of_fst (by assumption) ?_)
      | split
      | (unfold v; split)
      | (unfold v; clear_value *; split)
      | (clear_value *; split)

theorem State.numericEnd_fr {κ : Nat} {s0 s : State} {r : Run} (hf_ : Fr κ s0 s) (hk_ : 0xc2c01000008004bc1c0004400000000020400000000000000000000000000240002207f420 &&& κ = 0xc2c01000008004bc1c0004400000000020400000000000000000000000000240002207f420 := by decide) :
    Fr κ s0 (State.numericEnd s r) := by
  refine Fr.lift hf_ hk_ ?_
  clear hf_ hk_
  unfold State.numericEnd
  have h0 := Fr.refl 0xc2c01000008004bc1c0004400000000020400000000000000000000000000240002207f420 s
  repeat' first
      | ((try lift_lets); intro v; refine_lift have hv : Fr 0xc2c01000008004bc1c0004400000000020400000000000000000000000000240002207f420 s v := ?_; ?_; clear_value v)
      | ((try lift_lets); intro v)
      | with_reducible refine State.axisFault_fr ?_
      | with_reducible refine State.modFab_fr ?_
      | with_reducible refine Fr.ite ?_ ?_
      | with_reducible refine Fr.cond ?_ ?_
      | with_reducible assumption
      | (refine Fr.of_snd (by assumption) ?_)
      | (refine Fr.of_fst (by assumption) ?_)
      | split
      | (unfold v; split)
      | (unfold v; clear_value *; split)
      | (clear_value *; split)

theorem State.leave_fr {κ : Nat} {s0 s : State} {k : ℕ} {r : Run} {st : TStat} (hf_ : Fr κ s0 s) (hk_ : 0xc2c01000008004bc1c000440000000002040000000000000000000000000224000a207f420 &&& κ = 0xc2c01000008004bc1c000440000000002040000000000000000000000000224000a207f420 := by decide) :
    Fr κ s0 (State.leave s k r st) := by
  refine Fr.lift hf_ hk_ ?_
  clear hf_ hk_
  unfold State.leave
  have h0 := Fr.refl 0xc2c01000008004bc1c000440000000002040000000000000000000000000224000a207f420 s
  repeat' first
      | ((try lift_lets); intro v; refine_lift have hv : Fr 0xc2c01000008004bc1c000440000000002040000000000000000000000000224000a207f420 s v := ?_; ?_; clear_value v)
      | ((try lift_lets); intro v)
      | with_reducible refine State.freeLock_fr ?_
      | with_reducible refine State.modKiosk_fr ?_
      | with_reducible refine State.numericEnd_fr ?_
      | with_reducible refine State.setTStat_fr ?_
      | with_reducible refine Fr.forEach ?_ (fun t a ht => ?_)
      | with_reducible refine Fr.ite ?_ ?_
      | with_reducible refine Fr.cond ?_ ?_
      | with_reducible assumption
      | (refine Fr.of_snd (by assumption) ?_)
      | (refine Fr.of_fst (by assumption) ?_)
      | split
      | (unfold v; split)
      | (unfold v; clear_value *; split)
      | (clear_value *; split)

theorem State.lateCheck_fr {κ : Nat} {s0 s : State} {g : ℕ} (hf_ : Fr κ s0 s) (hk_ : 0xc2c01000008004ac000000400000000000000000000000000000000000000240002201f400 &&& κ = 0xc2c01000008004ac000000400000000000000000000000000000000000000240002201f400 := by decide) :
    Fr κ s0 (State.lateCheck s g) := by
  refine Fr.lift hf_ hk_ ?_
  clear hf_ hk_
  unfold State.lateCheck
  have h0 := Fr.refl 0xc2c01000008004ac000000400000000000000000000000000000000000000240002201f400 s
  repeat' first
      | ((try lift_lets); intro v; refine_lift have hv : Fr 0xc2c01000008004ac000000400000000000000000000000000000000000000240002201f400 s v := ?_; ?_; clear_value v)
      | ((try lift_lets); intro v)
      | with_reducible refine State.fault_fr ?_
      | with_reducible refine State.inc_fr ?_
      | with_reducible refine Fr.ite ?_ ?_
      | with_reducible refine Fr.cond ?_ ?_
      | with_reducible assumption
      | (refine Fr.of_snd (by assumption) ?_)
      | (refine Fr.of_fst (by assumption) ?_)
      | split
      | (unfold v; split)
      | (unfold v; clear_value *; split)
      | (clear_value *; split)

theorem State.abandonQuiet_fr {κ : Nat} {s0 s : State} {k : ℕ} {detail : ℕ} {r : Run} (hf_ : Fr κ s0 s) (hk_ : 0xc2c01000008004bc1c000440000000002040000000000000000000000000624000a207f420 &&& κ = 0xc2c01000008004bc1c000440000000002040000000000000000000000000624000a207f420 := by decide) :
    Fr κ s0 (State.abandonQuiet s k detail r) := by
  refine Fr.lift hf_ hk_ ?_
  clear hf_ hk_
  unfold State.abandonQuiet
  have h0 := Fr.refl 0xc2c01000008004bc1c000440000000002040000000000000000000000000624000a207f420 s
  repeat' first
      | ((try lift_lets); intro v; refine_lift have hv : Fr 0xc2c01000008004bc1c000440000000002040000000000000000000000000624000a207f420 s v := ?_; ?_; clear_value v)
      | ((try lift_lets); intro v)
      | with_reducible refine State.endInst_fr ?_
      | with_reducible refine State.inc_fr ?_
      | with_reducible refine State.leave_fr ?_
      | with_reducible refine State.set_fr ?_
      | with_reducible refine Fr.ite ?_ ?_
      | with_reducible refine Fr.cond ?_ ?_
      | with_reducible assumption
      | (refine Fr.of_snd (by assumption) ?_)
      | (refine Fr.of_fst (by assumption) ?_)
      | split
      | (unfold v; split)
      | (unfold v; clear_value *; split)
      | (clear_value *; split)

theorem State.abandon_fr {κ : Nat} {s0 s : State} {k : ℕ} {detail : ℕ} (hf_ : Fr κ s0 s) (hk_ : 0xc2c01000008004bc1c000440000000002040000000000000000000000000624000a207f420 &&& κ = 0xc2c01000008004bc1c000440000000002040000000000000000000000000624000a207f420 := by decide) :
    Fr κ s0 (State.abandon s k detail) := by
  refine Fr.lift hf_ hk_ ?_
  clear hf_ hk_
  unfold State.abandon
  have h0 := Fr.refl 0xc2c01000008004bc1c000440000000002040000000000000000000000000624000a207f420 s
  repeat' first
      | ((try lift_lets); intro v; refine_lift have hv : Fr 0xc2c01000008004bc1c000440000000002040000000000000000000000000624000a207f420 s v := ?_; ?_; clear_value v)
      | ((try lift_lets); intro v)
      | with_reducible refine State.abandonQuiet_fr ?_
      | with_reducible refine State.axisFault_fr ?_
      | with_reducible refine State.fault_fr ?_
      | with_reducible refine Fr.ite ?_ ?_
      | with_reducible refine Fr.cond ?_ ?_
      | with_reducible assumption
      | (refine Fr.of_snd (by assumption) ?_)
      | (refine Fr.of_fst (by assumption) ?_)
      | split
      | (unfold v; split)
      | (unfold v; clear_value *; split)
      | (clear_value *; split)

theorem State.brakeWrite_fr {κ : Nat} {s0 s : State} {x : Axis} {i : Inst} (hf_ : Fr κ s0 s) (hk_ : 0x2000000080000010 &&& κ = 0x2000000080000010 := by decide) :
    Fr κ s0 (State.brakeWrite s x i) := by
  refine Fr.lift hf_ hk_ ?_
  clear hf_ hk_
  unfold State.brakeWrite
  have h0 := Fr.refl 0x2000000080000010 s
  repeat' first
      | ((try lift_lets); intro v; refine_lift have hv : Fr 0x2000000080000010 s v := ?_; ?_; clear_value v)
      | ((try lift_lets); intro v)
      | with_reducible refine State.take_fr ?_
      | with_reducible refine State.setSh_fr ?_
      | with_reducible refine State.spent_fr ?_
      | with_reducible refine Fr.ite ?_ ?_
      | with_reducible refine Fr.cond ?_ ?_
      | with_reducible assumption
      | with_reducible exact Fr.id_ (by with_reducible assumption)
      | (refine Fr.of_snd (by assumption) ?_)
      | (refine Fr.of_fst (by assumption) ?_)
      | split
      | (unfold v; split)
      | (unfold v; clear_value *; split)
      | (clear_value *; split)

theorem State.graphEnd_fr {κ : Nat} {s0 s : State} {g : Nat} (hf_ : Fr κ s0 s) (hk_ : 0x2000000080018410 &&& κ = 0x2000000080018410 := by decide) :
    Fr κ s0 (State.graphEnd s g) := by
  refine Fr.lift hf_ hk_ ?_
  clear hf_ hk_
  unfold State.graphEnd
  have h0 := Fr.refl 0x2000000080018410 s
  repeat' first
      | ((try lift_lets); intro v; refine_lift have hv : Fr 0x2000000080018410 s v := ?_; ?_; clear_value v)
      | ((try lift_lets); intro v)
      | with_reducible refine State.brakeWrite_fr ?_
      | with_reducible refine State.endInst_fr ?_
      | with_reducible refine Fr.ite ?_ ?_
      | with_reducible refine Fr.cond ?_ ?_
      | with_reducible assumption
      | with_reducible exact Fr.id_ (by with_reducible assumption)
      | (refine Fr.of_snd (by assumption) ?_)
      | (refine Fr.of_fst (by assumption) ?_)
      | split
      | (unfold v; split)
      | (unfold v; clear_value *; split)
      | (clear_value *; split)

theorem State.complete_fr {κ : Nat} {s0 s : State} {k : ℕ} (hf_ : Fr κ s0 s) (hk_ : 0xc2c01000008004bc1c000440000000002040000000000000000000000020624000a207f430 &&& κ = 0xc2c01000008004bc1c000440000000002040000000000000000000000020624000a207f430 := by decide) :
    Fr κ s0 (State.complete s k) := by
  refine Fr.lift hf_ hk_ ?_
  clear hf_ hk_
  unfold State.complete
  have h0 := Fr.refl 0xc2c01000008004bc1c000440000000002040000000000000000000000020624000a207f430 s
  repeat' first
      | ((try lift_lets); intro v; refine_lift have hv : Fr 0xc2c01000008004bc1c000440000000002040000000000000000000000020624000a207f430 s v := ?_; ?_; clear_value v)
      | ((try lift_lets); intro v)
      | with_reducible refine State.graphEnd_fr ?_
      | with_reducible refine State.abandon_fr ?_
      | with_reducible refine State.deliver_fr ?_
      | with_reducible refine State.endInst_fr ?_
      | with_reducible refine State.lateCheck_fr ?_
      | with_reducible refine State.leave_fr ?_
      | with_reducible refine Fr.ite ?_ ?_
      | with_reducible refine Fr.cond ?_ ?_
      | with_reducible assumption
      | (refine Fr.of_snd (by assumption) ?_)
      | (refine Fr.of_fst (by assumption) ?_)
      | split
      | (unfold v; split)
      | (unfold v; clear_value *; split)
      | (clear_value *; split)

theorem State.startOn_fr {κ : Nat} {s0 s : State} {k : ℕ} {q : QTask} (hf_ : Fr κ s0 s) (hk_ : 0x400 &&& κ = 0x400 := by decide) :
    Fr κ s0 (State.startOn s k q) := by
  refine Fr.lift hf_ hk_ ?_
  clear hf_ hk_
  unfold State.startOn
  have h0 := Fr.refl 0x400 s
  repeat' first
      | ((try lift_lets); intro v; refine_lift have hv : Fr 0x400 s v := ?_; ?_; clear_value v)
      | ((try lift_lets); intro v)
      | with_reducible refine State.modKiosk_fr ?_
      | with_reducible refine State.setTStat_fr ?_
      | with_reducible refine Fr.ite ?_ ?_
      | with_reducible refine Fr.cond ?_ ?_
      | with_reducible assumption
      | (refine Fr.of_snd (by assumption) ?_)
      | (refine Fr.of_fst (by assumption) ?_)
      | split
      | (unfold v; split)
      | (unfold v; clear_value *; split)
      | (clear_value *; split)

theorem State.unqueue_fr {κ : Nat} {s0 s : State} {v : ℕ} {q : QTask} (hf_ : Fr κ s0 s) (hk_ : 0x400 &&& κ = 0x400 := by decide) :
    Fr κ s0 (State.unqueue s v q) := by
  refine Fr.lift hf_ hk_ ?_
  clear hf_ hk_
  unfold State.unqueue
  have h0 := Fr.refl 0x400 s
  repeat' first
      | ((try lift_lets); intro v; refine_lift have hv : Fr 0x400 s v := ?_; ?_; clear_value v)
      | ((try lift_lets); intro v)
      | with_reducible refine State.modKiosk_fr ?_
      | with_reducible refine Fr.ite ?_ ?_
      | with_reducible refine Fr.cond ?_ ?_
      | with_reducible assumption
      | (refine Fr.of_snd (by assumption) ?_)
      | (refine Fr.of_fst (by assumption) ?_)
      | split
      | (unfold v; split)
      | (unfold v; clear_value *; split)
      | (clear_value *; split)

theorem execGraphTrigger_fr {s t_ : State}  (e_ : execGraphTrigger s = .next t_) : Fr 0x2400000000400 s t_ := by
  unfold execGraphTrigger at e_
  obtain rfl := Host.Outcome.next.inj e_
  clear e_
  have h0 := Fr.refl 0x2400000000400 s
  repeat' first
      | ((try lift_lets); intro v; refine_lift have hv : Fr 0x2400000000400 s v := ?_; ?_; clear_value v)
      | ((try lift_lets); intro v)
      | with_reducible refine State.modFab_fr ?_
      | with_reducible refine State.releaseAt_fr ?_
      | with_reducible refine Fr.running ?_ (fun t ht => ?_)
      | with_reducible refine Fr.ite ?_ ?_
      | with_reducible refine Fr.cond ?_ ?_
      | with_reducible assumption
      | (refine Fr.of_snd (by assumption) ?_)
      | (refine Fr.of_fst (by assumption) ?_)
      | split
      | (unfold v; split)
      | (unfold v; clear_value *; split)
      | (clear_value *; split)

theorem execSourceDelivery_fr {s t_ : State} {owner : ℕ} {n : ℕ} (e_ : execSourceDelivery owner n s = .next t_) : Fr 0xc3c03000008004bc1c0004600000000020400000000000000000000000001a4180aa07fde0 s t_ := by
  unfold execSourceDelivery at e_
  obtain rfl := Host.Outcome.next.inj e_
  clear e_
  have h0 := Fr.refl 0xc3c03000008004bc1c0004600000000020400000000000000000000000001a4180aa07fde0 s
  repeat' first
      | ((try lift_lets); intro v; refine_lift have hv : Fr 0xc3c03000008004bc1c0004600000000020400000000000000000000000001a4180aa07fde0 s v := ?_; ?_; clear_value v)
      | ((try lift_lets); intro v)
      | with_reducible refine State.loopInputs_fr ?_
      | with_reducible refine State.deliver_fr ?_
      | with_reducible refine State.putInst_fr ?_
      | with_reducible refine State.putSrc_fr ?_
      | with_reducible refine Fr.forEach ?_ (fun t a ht => ?_)
      | with_reducible refine Fr.running ?_ (fun t ht => ?_)
      | with_reducible refine Fr.ite ?_ ?_
      | with_reducible refine Fr.cond ?_ ?_
      | with_reducible assumption
      | (refine Fr.of_snd (by assumption) ?_)
      | (refine Fr.of_fst (by assumption) ?_)
      | split
      | (unfold v; split)
      | (unfold v; clear_value *; split)
      | (clear_value *; split)

theorem execTaskDispatch_fr {s t_ : State} {k : ℕ} (e_ : execTaskDispatch k s = .next t_) : Fr 0x400 s t_ := by
  unfold execTaskDispatch at e_
  obtain rfl := Host.Outcome.next.inj e_
  clear e_
  have h0 := Fr.refl 0x400 s
  repeat' first
      | ((try lift_lets); intro v; refine_lift have hv : Fr 0x400 s v := ?_; ?_; clear_value v)
      | ((try lift_lets); intro v)
      | with_reducible refine State.placeReady_fr ?_
      | with_reducible refine State.startOn_fr ?_
      | with_reducible refine State.unqueue_fr ?_
      | with_reducible refine Fr.running ?_ (fun t ht => ?_)
      | with_reducible refine Fr.ite ?_ ?_
      | with_reducible refine Fr.cond ?_ ?_
      | with_reducible assumption
      | (refine Fr.of_snd (by assumption) ?_)
      | (refine Fr.of_fst (by assumption) ?_)
      | split
      | (unfold v; split)
      | (unfold v; clear_value *; split)
      | (clear_value *; split)

theorem State.rotate_fr {κ : Nat} {s0 s : State} {k : ℕ} {lost : List ℕ} {vs : List ℕ} (hf_ : Fr κ s0 s) (hk_ : 0x4000000000400 &&& κ = 0x4000000000400 := by decide) :
    Fr κ s0 (State.rotate s k lost vs) := by
  refine Fr.lift hf_ hk_ ?_
  clear hf_ hk_ s0
  revert s
  induction vs generalizing k lost with
  | nil =>
    intro s
    unfold State.rotate
    (
    have h0 := Fr.refl 0x4000000000400 s
    repeat' first
        | ((try lift_lets); intro v; refine_lift have hv : Fr 0x4000000000400 s v := ?_; ?_; clear_value v)
        | ((try lift_lets); intro v)
        | with_reducible refine State.inc_fr ?_
        | with_reducible refine State.modKiosk_fr ?_
        | with_reducible refine State.placeReady_fr ?_
        | with_reducible refine State.startOn_fr ?_
        | with_reducible refine State.unqueue_fr ?_
        | with_reducible refine Fr.ite ?_ ?_
        | with_reducible refine Fr.cond ?_ ?_
        | with_reducible assumption
        | (refine Fr.of_snd (by assumption) ?_)
        | (refine Fr.of_fst (by assumption) ?_)
        | split
        | (unfold v; split)
        | (unfold v; clear_value *; split)
        | (clear_value *; split)
        | (injections; subst_vars))
  | cons c_ r_ ih =>
    intro s
    unfold State.rotate
    (
    have h0 := Fr.refl 0x4000000000400 s
    repeat' first
        | ((try lift_lets); intro v; refine_lift have hv : Fr 0x4000000000400 s v := ?_; ?_; clear_value v)
        | ((try lift_lets); intro v)
        | with_reducible refine State.inc_fr ?_
        | with_reducible refine State.modKiosk_fr ?_
        | with_reducible refine State.placeReady_fr ?_
        | with_reducible refine State.startOn_fr ?_
        | with_reducible refine State.unqueue_fr ?_
        | with_reducible refine Fr.trans ?_ ih
        | with_reducible refine Fr.ite ?_ ?_
        | with_reducible refine Fr.cond ?_ ?_
        | with_reducible assumption
        | (refine Fr.of_snd (by assumption) ?_)
        | (refine Fr.of_fst (by assumption) ?_)
        | split
        | (unfold v; split)
        | (unfold v; clear_value *; split)
        | (clear_value *; split)
        | (injections; subst_vars))

theorem execStealAttempt_fr {s t_ : State} {k : ℕ} {lost : List ℕ} (e_ : execStealAttempt k lost s = .next t_) : Fr 0x4000000000400 s t_ := by
  unfold execStealAttempt at e_
  obtain rfl := Host.Outcome.next.inj e_
  clear e_
  have h0 := Fr.refl 0x4000000000400 s
  repeat' first
      | ((try lift_lets); intro v; refine_lift have hv : Fr 0x4000000000400 s v := ?_; ?_; clear_value v)
      | ((try lift_lets); intro v)
      | with_reducible refine State.rotate_fr ?_
      | with_reducible refine Fr.running ?_ (fun t ht => ?_)
      | with_reducible refine Fr.ite ?_ ?_
      | with_reducible refine Fr.cond ?_ ?_
      | with_reducible assumption
      | (refine Fr.of_snd (by assumption) ?_)
      | (refine Fr.of_fst (by assumption) ?_)
      | split
      | (unfold v; split)
      | (unfold v; clear_value *; split)
      | (clear_value *; split)

theorem execTaskComplete_fr {s t_ : State} {k : ℕ} (e_ : execTaskComplete k s = .next t_) : Fr 0xc2c01000008004bc1c000440000000002040000000000000000000000020624000a207f430 s t_ := by
  unfold execTaskComplete at e_
  obtain rfl := Host.Outcome.next.inj e_
  clear e_
  have h0 := Fr.refl 0xc2c01000008004bc1c000440000000002040000000000000000000000020624000a207f430 s
  repeat' first
      | ((try lift_lets); intro v; refine_lift have hv : Fr 0xc2c01000008004bc1c000440000000002040000000000000000000000020624000a207f430 s v := ?_; ?_; clear_value v)
      | ((try lift_lets); intro v)
      | with_reducible refine State.complete_fr ?_
      | with_reducible refine Fr.running ?_ (fun t ht => ?_)
      | with_reducible refine Fr.ite ?_ ?_
      | with_reducible refine Fr.cond ?_ ?_
      | with_reducible assumption
      | (refine Fr.of_snd (by assumption) ?_)
      | (refine Fr.of_fst (by assumption) ?_)
      | split
      | (unfold v; split)
      | (unfold v; clear_value *; split)
      | (clear_value *; split)

theorem execTaskOverrun_fr {s t_ : State} {k : ℕ} {waited : ℕ} (e_ : execTaskOverrun k waited s = .next t_) : Fr 0xc2c01000008004bc1c000440000000002040000000000000000000000000624000a207f420 s t_ := by
  unfold execTaskOverrun at e_
  obtain rfl := Host.Outcome.next.inj e_
  clear e_
  have h0 := Fr.refl 0xc2c01000008004bc1c000440000000002040000000000000000000000000624000a207f420 s
  repeat' first
      | ((try lift_lets); intro v; refine_lift have hv : Fr 0xc2c01000008004bc1c000440000000002040000000000000000000000000624000a207f420 s v := ?_; ?_; clear_value v)
      | ((try lift_lets); intro v)
      | with_reducible refine State.abandon_fr ?_
      | with_reducible refine Fr.running ?_ (fun t ht => ?_)
      | with_reducible refine Fr.ite ?_ ?_
      | with_reducible refine Fr.cond ?_ ?_
      | with_reducible assumption
      | (refine Fr.of_snd (by assumption) ?_)
      | (refine Fr.of_fst (by assumption) ?_)
      | split
      | (unfold v; split)
      | (unfold v; clear_value *; split)
      | (clear_value *; split)

theorem execLockWaitTimeout_fr {s t_ : State} {k : ℕ} {us : ℕ} (e_ : execLockWaitTimeout k us s = .next t_) : Fr 0xc2c01000008004bc1c000440000000002040000000000000000000000000624000a207f420 s t_ := by
  unfold execLockWaitTimeout at e_
  obtain rfl := Host.Outcome.next.inj e_
  clear e_
  have h0 := Fr.refl 0xc2c01000008004bc1c000440000000002040000000000000000000000000624000a207f420 s
  repeat' first
      | ((try lift_lets); intro v; refine_lift have hv : Fr 0xc2c01000008004bc1c000440000000002040000000000000000000000000624000a207f420 s v := ?_; ?_; clear_value v)
      | ((try lift_lets); intro v)
      | with_reducible refine State.abandon_fr ?_
      | with_reducible refine Fr.running ?_ (fun t ht => ?_)
      | with_reducible refine Fr.ite ?_ ?_
      | with_reducible refine Fr.cond ?_ ?_
      | with_reducible assumption
      | (refine Fr.of_snd (by assumption) ?_)
      | (refine Fr.of_fst (by assumption) ?_)
      | split
      | (unfold v; split)
      | (unfold v; clear_value *; split)
      | (clear_value *; split)

theorem State.paceCluster_fr {κ : Nat} {s0 s : State} {c : ℕ} {count : ℕ} (hf_ : Fr κ s0 s) (hk_ : 0x100000000400 &&& κ = 0x100000000400 := by decide) :
    Fr κ s0 (State.paceCluster s c count) := by
  refine Fr.lift hf_ hk_ ?_
  clear hf_ hk_
  unfold State.paceCluster
  have h0 := Fr.refl 0x100000000400 s
  repeat' first
      | ((try lift_lets); intro v; refine_lift have hv : Fr 0x100000000400 s v := ?_; ?_; clear_value v)
      | ((try lift_lets); intro v)
      | with_reducible refine State.fatal_fr ?_
      | with_reducible refine State.fault_fr ?_
      | with_reducible refine State.modFab_fr ?_
      | with_reducible refine State.set_fr ?_
      | with_reducible refine State.setBit_fr ?_
      | with_reducible refine State.setCause_fr ?_
      | with_reducible refine Fr.ite ?_ ?_
      | with_reducible refine Fr.cond ?_ ?_
      | with_reducible assumption
      | (refine Fr.of_snd (by assumption) ?_)
      | (refine Fr.of_fst (by assumption) ?_)
      | split
      | (unfold v; split)
      | (unfold v; clear_value *; split)
      | (clear_value *; split)

theorem State.paceFloor_fr {κ : Nat} {s0 s : State} {c : Nat} {count : Nat} (hf_ : Fr κ s0 s) (hk_ : 0xc2c01000008004bc1c0004400000000020400000000000000000000000000240002207f420 &&& κ = 0xc2c01000008004bc1c0004400000000020400000000000000000000000000240002207f420 := by decide) :
    Fr κ s0 (State.paceFloor s c count) := by
  refine Fr.lift hf_ hk_ ?_
  clear hf_ hk_
  unfold State.paceFloor
  have h0 := Fr.refl 0xc2c01000008004bc1c0004400000000020400000000000000000000000000240002207f420 s
  repeat' first
      | ((try lift_lets); intro v; refine_lift have hv : Fr 0xc2c01000008004bc1c0004400000000020400000000000000000000000000240002207f420 s v := ?_; ?_; clear_value v)
      | ((try lift_lets); intro v)
      | with_reducible refine State.fatal_fr ?_
      | with_reducible refine State.setBit_fr ?_
      | with_reducible refine State.setCause_fr ?_
      | with_reducible refine Fr.ite ?_ ?_
      | with_reducible refine Fr.cond ?_ ?_
      | with_reducible assumption
      | with_reducible exact Fr.id_ (by with_reducible assumption)
      | (refine Fr.of_snd (by assumption) ?_)
      | (refine Fr.of_fst (by assumption) ?_)
      | split
      | (unfold v; split)
      | (unfold v; clear_value *; split)
      | (clear_value *; split)

theorem State.paceBand_fr {κ : Nat} {s0 s : State} {c : Nat} {count : Nat} (hf_ : Fr κ s0 s) (hk_ : 0xc2c01000008004ac000000400000000000000000000000000000000000000240002201f400 &&& κ = 0xc2c01000008004ac000000400000000000000000000000000000000000000240002201f400 := by decide) :
    Fr κ s0 (State.paceBand s c count) := by
  refine Fr.lift hf_ hk_ ?_
  clear hf_ hk_
  unfold State.paceBand
  have h0 := Fr.refl 0xc2c01000008004ac000000400000000000000000000000000000000000000240002201f400 s
  repeat' first
      | ((try lift_lets); intro v; refine_lift have hv : Fr 0xc2c01000008004ac000000400000000000000000000000000000000000000240002201f400 s v := ?_; ?_; clear_value v)
      | ((try lift_lets); intro v)
      | with_reducible refine State.fault_fr ?_
      | with_reducible refine State.setBit_fr ?_
      | with_reducible refine Fr.ite ?_ ?_
      | with_reducible refine Fr.cond ?_ ?_
      | with_reducible assumption
      | with_reducible exact Fr.id_ (by with_reducible assumption)
      | (refine Fr.of_snd (by assumption) ?_)
      | (refine Fr.of_fst (by assumption) ?_)
      | split
      | (unfold v; split)
      | (unfold v; clear_value *; split)
      | (clear_value *; split)

theorem execPaceGate_fr {s t_ : State} {counts : List ℕ} (e_ : execPaceGate counts s = .next t_) : Fr 0xc2c01000008004bc1c0004400000000020400000000000000000000000000270002207f420 s t_ := by
  unfold execPaceGate at e_
  obtain rfl := Host.Outcome.next.inj e_
  clear e_
  have h0 := Fr.refl 0xc2c01000008004bc1c0004400000000020400000000000000000000000000270002207f420 s
  repeat' first
      | ((try lift_lets); intro v; refine_lift have hv : Fr 0xc2c01000008004bc1c0004400000000020400000000000000000000000000270002207f420 s v := ?_; ?_; clear_value v)
      | ((try lift_lets); intro v)
      | with_reducible refine State.paceBand_fr ?_
      | with_reducible refine State.paceFloor_fr ?_
      | with_reducible refine State.paceCluster_fr ?_
      | with_reducible refine State.set_fr ?_
      | with_reducible refine State.setCause_fr ?_
      | with_reducible refine Fr.forEach ?_ (fun t a ht => ?_)
      | with_reducible refine Fr.running ?_ (fun t ht => ?_)
      | with_reducible refine Fr.ite ?_ ?_
      | with_reducible refine Fr.cond ?_ ?_
      | with_reducible assumption
      | (refine Fr.of_snd (by assumption) ?_)
      | (refine Fr.of_fst (by assumption) ?_)
      | split
      | (unfold v; split)
      | (unfold v; clear_value *; split)
      | (clear_value *; split)

theorem State.hbCntClr_fr {κ : Nat} {s0 s : State} {w : Word} (hf_ : Fr κ s0 s) (hk_ : 0x4f100000000000 &&& κ = 0x4f100000000000 := by decide) :
    Fr κ s0 (State.hbCntClr s w) := by
  refine Fr.lift hf_ hk_ ?_
  clear hf_ hk_
  unfold State.hbCntClr
  have h0 := Fr.refl 0x4f100000000000 s
  repeat' first
      | ((try lift_lets); intro v; refine_lift have hv : Fr 0x4f100000000000 s v := ?_; ?_; clear_value v)
      | ((try lift_lets); intro v)
      | with_reducible refine State.set_fr ?_
      | with_reducible refine State.wr_fr ?_
      | with_reducible refine Fr.forEach ?_ (fun t a ht => ?_)
      | with_reducible refine Fr.onlyIf ?_ (fun t ht => ?_)
      | with_reducible refine Fr.ite ?_ ?_
      | with_reducible refine Fr.cond ?_ ?_
      | with_reducible assumption
      | (refine Fr.of_snd (by assumption) ?_)
      | (refine Fr.of_fst (by assumption) ?_)
      | split
      | (unfold v; split)
      | (unfold v; clear_value *; split)
      | (clear_value *; split)

theorem execHbCntClr_fr {s t_ : State} {w : Word} (e_ : execHbCntClr w s = .next t_) : Fr 0x4f100000000000 s t_ := by
  unfold execHbCntClr at e_
  obtain rfl := Host.Outcome.next.inj e_
  clear e_
  have h0 := Fr.refl 0x4f100000000000 s
  repeat' first
      | ((try lift_lets); intro v; refine_lift have hv : Fr 0x4f100000000000 s v := ?_; ?_; clear_value v)
      | ((try lift_lets); intro v)
      | with_reducible refine State.hbCntClr_fr ?_
      | with_reducible refine Fr.running ?_ (fun t ht => ?_)
      | with_reducible refine Fr.ite ?_ ?_
      | with_reducible refine Fr.cond ?_ ?_
      | with_reducible assumption
      | (refine Fr.of_snd (by assumption) ?_)
      | (refine Fr.of_fst (by assumption) ?_)
      | split
      | (unfold v; split)
      | (unfold v; clear_value *; split)
      | (clear_value *; split)

end Sys2Proof.Machine
end

