-- ==== Sys2Proof/Laws/FramePergola.lean ====
section
/-! SUPPORT. Frames of the operations of Machine/Pergola.lean: one lemma each (Laws/Frame.lean). -/

namespace Sys2Proof.Machine

set_option Elab.async false

theorem State.pglRead_fr {κ : Nat} {s0 s : State} {n : ℕ} {a : ℕ} {len : ℕ} (hf_ : Fr κ s0 s) (hk_ : 0xc3c03000008004bc1c0004600000000020400000000000000000000000001a4180aa07f5e0 &&& κ = 0xc3c03000008004bc1c0004600000000020400000000000000000000000001a4180aa07f5e0 := by decide) :
    Fr κ s0 (State.pglRead s n a len).2 := by
  refine Fr.lift hf_ hk_ ?_
  clear hf_ hk_
  unfold State.pglRead
  have h0 := Fr.refl 0xc3c03000008004bc1c0004600000000020400000000000000000000000001a4180aa07f5e0 s
  repeat' first
      | ((try lift_lets); intro v; refine_lift have hv : Fr 0xc3c03000008004bc1c0004600000000020400000000000000000000000001a4180aa07f5e0 s v := ?_; ?_; clear_value v)
      | ((try lift_lets); intro v)
      | with_reducible refine State.busError_fr ?_
      | with_reducible refine State.readMem_fr ?_
      | with_reducible refine Fr.ite ?_ ?_
      | with_reducible refine Fr.cond ?_ ?_
      | with_reducible assumption
      | (refine Fr.of_snd (by assumption) ?_)
      | (refine Fr.of_fst (by assumption) ?_)
      | split
      | (unfold v; split)
      | (unfold v; clear_value *; split)
      | (clear_value *; split)

theorem State.pglWrite_fr {κ : Nat} {s0 s : State} {n : ℕ} {a : ℕ} {bs : List Byte} (hf_ : Fr κ s0 s) (hk_ : 0xc3c03000008004bc1c0004600000000020400000000000000000000000001a4180aa07f5e0 &&& κ = 0xc3c03000008004bc1c0004600000000020400000000000000000000000001a4180aa07f5e0 := by decide) :
    Fr κ s0 (State.pglWrite s n a bs).2 := by
  refine Fr.lift hf_ hk_ ?_
  clear hf_ hk_
  unfold State.pglWrite
  have h0 := Fr.refl 0xc3c03000008004bc1c0004600000000020400000000000000000000000001a4180aa07f5e0 s
  repeat' first
      | ((try lift_lets); intro v; refine_lift have hv : Fr 0xc3c03000008004bc1c0004600000000020400000000000000000000000001a4180aa07f5e0 s v := ?_; ?_; clear_value v)
      | ((try lift_lets); intro v)
      | with_reducible refine State.busError_fr ?_
      | with_reducible refine State.writeMem_fr ?_
      | with_reducible refine Fr.ite ?_ ?_
      | with_reducible refine Fr.cond ?_ ?_
      | with_reducible assumption
      | (refine Fr.of_snd (by assumption) ?_)
      | (refine Fr.of_fst (by assumption) ?_)
      | split
      | (unfold v; split)
      | (unfold v; clear_value *; split)
      | (clear_value *; split)

theorem State.ringPut_fr {κ : Nat} {s0 s : State} {n : ℕ} {r : List Word} (hf_ : Fr κ s0 s) (hk_ : 0xc3c53000008004bc1c0004600000000020400000000000000000000000001a4180aa07f5e0 &&& κ = 0xc3c53000008004bc1c0004600000000020400000000000000000000000001a4180aa07f5e0 := by decide) :
    Fr κ s0 (State.ringPut s n r).2 := by
  refine Fr.lift hf_ hk_ ?_
  clear hf_ hk_
  unfold State.ringPut
  have h0 := Fr.refl 0xc3c53000008004bc1c0004600000000020400000000000000000000000001a4180aa07f5e0 s
  repeat' first
      | ((try lift_lets); intro v; refine_lift have hv : Fr 0xc3c53000008004bc1c0004600000000020400000000000000000000000001a4180aa07f5e0 s v := ?_; ?_; clear_value v)
      | ((try lift_lets); intro v)
      | with_reducible refine State.event_fr ?_
      | with_reducible refine State.inc_fr ?_
      | with_reducible refine State.pglWrite_fr ?_
      | with_reducible refine State.set_fr ?_
      | with_reducible refine Fr.ite ?_ ?_
      | with_reducible refine Fr.cond ?_ ?_
      | with_reducible assumption
      | (refine Fr.of_snd (by assumption) ?_)
      | (refine Fr.of_fst (by assumption) ?_)
      | split
      | (unfold v; split)
      | (unfold v; clear_value *; split)
      | (clear_value *; split)

theorem State.ringSaid_fr {κ : Nat} {s0 s : State} (hf_ : Fr κ s0 s) (hk_ : 0x2c01000000000800000004000000000000000000000000000000000000002400002018400 &&& κ = 0x2c01000000000800000004000000000000000000000000000000000000002400002018400 := by decide) :
    Fr κ s0 (State.ringSaid s) := by
  refine Fr.lift hf_ hk_ ?_
  clear hf_ hk_
  unfold State.ringSaid
  have h0 := Fr.refl 0x2c01000000000800000004000000000000000000000000000000000000002400002018400 s
  repeat' first
      | ((try lift_lets); intro v; refine_lift have hv : Fr 0x2c01000000000800000004000000000000000000000000000000000000002400002018400 s v := ?_; ?_; clear_value v)
      | ((try lift_lets); intro v)
      | with_reducible refine State.event_fr ?_
      | with_reducible refine Fr.ite ?_ ?_
      | with_reducible refine Fr.cond ?_ ?_
      | with_reducible assumption
      | with_reducible exact Fr.id_ (by with_reducible assumption)
      | (refine Fr.of_snd (by assumption) ?_)
      | (refine Fr.of_fst (by assumption) ?_)
      | split
      | (unfold v; split)
      | (unfold v; clear_value *; split)
      | (clear_value *; split)

theorem State.ringDue_fr {κ : Nat} {s0 s : State} {n : ℕ} {r : List Word} (hf_ : Fr κ s0 s) (hk_ : 0xc3c53000008004bc1c0004600000000020400000000000000000000000001a4180aa07f5e0 &&& κ = 0xc3c53000008004bc1c0004600000000020400000000000000000000000001a4180aa07f5e0 := by decide) :
    Fr κ s0 (State.ringDue s n r).2 := by
  refine Fr.lift hf_ hk_ ?_
  clear hf_ hk_
  unfold State.ringDue
  have h0 := Fr.refl 0xc3c53000008004bc1c0004600000000020400000000000000000000000001a4180aa07f5e0 s
  repeat' first
      | ((try lift_lets); intro v; refine_lift have hv : Fr 0xc3c53000008004bc1c0004600000000020400000000000000000000000001a4180aa07f5e0 s v := ?_; ?_; clear_value v)
      | ((try lift_lets); intro v)
      | with_reducible refine State.event_fr ?_
      | with_reducible refine State.inc_fr ?_
      | with_reducible refine State.modPch_fr ?_
      | with_reducible refine State.modPgl_fr ?_
      | with_reducible refine State.ringPut_fr ?_
      | with_reducible refine State.set_fr ?_
      | with_reducible refine Fr.ite ?_ ?_
      | with_reducible refine Fr.cond ?_ ?_
      | with_reducible assumption
      | (refine Fr.of_snd (by assumption) ?_)
      | (refine Fr.of_fst (by assumption) ?_)
      | split
      | (unfold v; split)
      | (unfold v; clear_value *; split)
      | (clear_value *; split)

theorem State.chainEnd_fr {κ : Nat} {s0 s : State} {n : ℕ} (hf_ : Fr κ s0 s) (hk_ : 0xc00000000000000000000000000000000000000000000000000000000000000002000000 &&& κ = 0xc00000000000000000000000000000000000000000000000000000000000000002000000 := by decide) :
    Fr κ s0 (State.chainEnd s n) := by
  refine Fr.lift hf_ hk_ ?_
  clear hf_ hk_
  unfold State.chainEnd
  have h0 := Fr.refl 0xc00000000000000000000000000000000000000000000000000000000000000002000000 s
  repeat' first
      | ((try lift_lets); intro v; refine_lift have hv : Fr 0xc00000000000000000000000000000000000000000000000000000000000000002000000 s v := ?_; ?_; clear_value v)
      | ((try lift_lets); intro v)
      | with_reducible refine State.modPch_fr ?_
      | with_reducible refine State.pglTake_fr ?_
      | with_reducible refine State.set_fr ?_
      | with_reducible refine Fr.ite ?_ ?_
      | with_reducible refine Fr.cond ?_ ?_
      | with_reducible assumption
      | (refine Fr.of_snd (by assumption) ?_)
      | (refine Fr.of_fst (by assumption) ?_)
      | split
      | (unfold v; split)
      | (unfold v; clear_value *; split)
      | (clear_value *; split)

theorem State.chainNext_fr {κ : Nat} {s0 s : State} {n : ℕ} (hf_ : Fr κ s0 s) (hk_ : 0xc00000000000000000000000000000000000000000000000000000000000000002000000 &&& κ = 0xc00000000000000000000000000000000000000000000000000000000000000002000000 := by decide) :
    Fr κ s0 (State.chainNext s n) := by
  refine Fr.lift hf_ hk_ ?_
  clear hf_ hk_
  unfold State.chainNext
  have h0 := Fr.refl 0xc00000000000000000000000000000000000000000000000000000000000000002000000 s
  repeat' first
      | ((try lift_lets); intro v; refine_lift have hv : Fr 0xc00000000000000000000000000000000000000000000000000000000000000002000000 s v := ?_; ?_; clear_value v)
      | ((try lift_lets); intro v)
      | with_reducible refine State.chainEnd_fr ?_
      | with_reducible refine State.modPch_fr ?_
      | with_reducible refine State.set_fr ?_
      | with_reducible refine Fr.ite ?_ ?_
      | with_reducible refine Fr.cond ?_ ?_
      | with_reducible assumption
      | (refine Fr.of_snd (by assumption) ?_)
      | (refine Fr.of_fst (by assumption) ?_)
      | split
      | (unfold v; split)
      | (unfold v; clear_value *; split)
      | (clear_value *; split)

theorem State.pglEvent_fr {κ : Nat} {s0 s : State} {n : ℕ} (hf_ : Fr κ s0 s) (hk_ : 0x2c01000000000800000004000000000000000000000000000000000000002400002018400 &&& κ = 0x2c01000000000800000004000000000000000000000000000000000000002400002018400 := by decide) :
    Fr κ s0 (State.pglEvent s n) := by
  refine Fr.lift hf_ hk_ ?_
  clear hf_ hk_
  unfold State.pglEvent
  have h0 := Fr.refl 0x2c01000000000800000004000000000000000000000000000000000000002400002018400 s
  repeat' first
      | ((try lift_lets); intro v; refine_lift have hv : Fr 0x2c01000000000800000004000000000000000000000000000000000000002400002018400 s v := ?_; ?_; clear_value v)
      | ((try lift_lets); intro v)
      | with_reducible refine State.event_fr ?_
      | with_reducible refine Fr.ite ?_ ?_
      | with_reducible refine Fr.cond ?_ ?_
      | with_reducible assumption
      | (refine Fr.of_snd (by assumption) ?_)
      | (refine Fr.of_fst (by assumption) ?_)
      | split
      | (unfold v; split)
      | (unfold v; clear_value *; split)
      | (clear_value *; split)

theorem State.nextDesc_fr {κ : Nat} {s0 s : State} {n : ℕ} (hf_ : Fr κ s0 s) (hk_ : 0x80000000 &&& κ = 0x80000000 := by decide) :
    Fr κ s0 (State.nextDesc s n).2 := by
  refine Fr.lift hf_ hk_ ?_
  clear hf_ hk_
  unfold State.nextDesc
  have h0 := Fr.refl 0x80000000 s
  repeat' first
      | ((try lift_lets); intro v; refine_lift have hv : Fr 0x80000000 s v := ?_; ?_; clear_value v)
      | ((try lift_lets); intro v)
      | with_reducible refine State.freshNat_fr ?_
      | with_reducible refine Fr.ite ?_ ?_
      | with_reducible refine Fr.cond ?_ ?_
      | with_reducible assumption
      | (refine Fr.of_snd (by assumption) ?_)
      | (refine Fr.of_fst (by assumption) ?_)
      | split
      | (unfold v; split)
      | (unfold v; clear_value *; split)
      | (clear_value *; split)

theorem State.ringNext_fr {κ : Nat} {s0 s : State} {n : Nat} {rest : List Nat} {r : List Word} {more : List (List Word)} (hf_ : Fr κ s0 s) (hk_ : 0xc3c53000008004bc1c0004600000000020400000000000000000000000001a4180aa07f5e0 &&& κ = 0xc3c53000008004bc1c0004600000000020400000000000000000000000001a4180aa07f5e0 := by decide) :
    Fr κ s0 (State.ringNext s n rest r more).2 := by
  refine Fr.lift hf_ hk_ ?_
  clear hf_ hk_
  unfold State.ringNext
  have h0 := Fr.refl 0xc3c53000008004bc1c0004600000000020400000000000000000000000001a4180aa07f5e0 s
  repeat' first
      | ((try lift_lets); intro v; refine_lift have hv : Fr 0xc3c53000008004bc1c0004600000000020400000000000000000000000001a4180aa07f5e0 s v := ?_; ?_; clear_value v)
      | ((try lift_lets); intro v)
      | with_reducible refine State.chainNext_fr ?_
      | with_reducible refine State.modPch_fr ?_
      | with_reducible refine State.modPgl_fr ?_
      | with_reducible refine State.nextDesc_fr ?_
      | with_reducible refine State.ringPut_fr ?_
      | with_reducible refine State.ringSaid_fr ?_
      | with_reducible refine State.set_fr ?_
      | with_reducible refine Fr.ite ?_ ?_
      | with_reducible refine Fr.cond ?_ ?_
      | with_reducible assumption
      | with_reducible exact Fr.id_ (by with_reducible assumption)
      | (refine Fr.of_snd (by assumption) ?_)
      | (refine Fr.of_fst (by assumption) ?_)
      | split
      | (unfold v; split)
      | (unfold v; clear_value *; split)
      | (clear_value *; split)

theorem State.ringDrain_fr {κ : Nat} {s0 s : State} {fuel : ℕ} (hf_ : Fr κ s0 s) (hk_ : 0xc3c53000008004bc1c0004600000000020400000000000000000000000001a4180aa07f5e0 &&& κ = 0xc3c53000008004bc1c0004600000000020400000000000000000000000001a4180aa07f5e0 := by decide) :
    Fr κ s0 (State.ringDrain s fuel) := by
  refine Fr.lift hf_ hk_ ?_
  clear hf_ hk_ s0
  induction fuel generalizing s with
  | zero => exact Fr.refl _ _
  | succ n_ ih =>
    unfold State.ringDrain
    split
    · exact Fr.refl _ _
    · rename_i n rest hw
      split
      · exact Fr.refl _ _
      · split
        · exact (State.modPgl_fr (κ := 0xc3c53000008004bc1c0004600000000020400000000000000000000000001a4180aa07f5e0) (Fr.refl _ s)).trans ih
        · rename_i r more hr
          have h := State.ringNext_fr (κ := 0xc3c53000008004bc1c0004600000000020400000000000000000000000001a4180aa07f5e0) (n := n) (rest := rest) (r := r) (more := more) (Fr.refl _ s)
          rcases hp : s.ringNext n rest r more with ⟨_ | _, u⟩ <;> rw [hp] at h <;> simp only
          · exact h
          · exact h.trans ih

theorem State.pglCharge_fr {κ : Nat} {s0 s : State} {n : ℕ} {bytes : ℕ} (hf_ : Fr κ s0 s) (hk_ : 0x2000000 &&& κ = 0x2000000 := by decide) :
    Fr κ s0 (State.pglCharge s n bytes) := by
  refine Fr.lift hf_ hk_ ?_
  clear hf_ hk_
  unfold State.pglCharge
  have h0 := Fr.refl 0x2000000 s
  repeat' first
      | ((try lift_lets); intro v; refine_lift have hv : Fr 0x2000000 s v := ?_; ?_; clear_value v)
      | ((try lift_lets); intro v)
      | with_reducible refine State.modPch_fr ?_
      | with_reducible refine State.modPgl_fr ?_
      | with_reducible refine Fr.ite ?_ ?_
      | with_reducible refine Fr.cond ?_ ?_
      | with_reducible assumption
      | (refine Fr.of_snd (by assumption) ?_)
      | (refine Fr.of_fst (by assumption) ?_)
      | split
      | (unfold v; split)
      | (unfold v; clear_value *; split)
      | (clear_value *; split)

theorem execTrig_fr {s t_ : State} {n : ℕ} (e_ : execTrig n s = .next t_) : Fr 0x2c01000000000000000000000000000000000000000000000000000000000000002000000 s t_ := by
  unfold execTrig at e_
  obtain rfl := Host.Outcome.next.inj e_
  clear e_
  have h0 := Fr.refl 0x2c01000000000000000000000000000000000000000000000000000000000000002000000 s
  repeat' first
      | ((try lift_lets); intro v; refine_lift have hv : Fr 0x2c01000000000000000000000000000000000000000000000000000000000000002000000 s v := ?_; ?_; clear_value v)
      | ((try lift_lets); intro v)
      | with_reducible refine State.pglTrigReg_fr ?_
      | with_reducible refine Fr.running ?_ (fun t ht => ?_)
      | with_reducible refine Fr.ite ?_ ?_
      | with_reducible refine Fr.cond ?_ ?_
      | with_reducible assumption
      | (refine Fr.of_snd (by assumption) ?_)
      | (refine Fr.of_fst (by assumption) ?_)
      | split
      | (unfold v; split)
      | (unfold v; clear_value *; split)
      | (clear_value *; split)

theorem State.descError_fr {κ : Nat} {s0 s : State} {n : ℕ} {tag : ℕ} {resid : ℕ} (hf_ : Fr κ s0 s) (hk_ : 0xc3c53000008004bc1c0004600000000020400000000000000000000000001a4180aa07f5e0 &&& κ = 0xc3c53000008004bc1c0004600000000020400000000000000000000000001a4180aa07f5e0 := by decide) :
    Fr κ s0 (State.descError s n tag resid) := by
  refine Fr.lift hf_ hk_ ?_
  clear hf_ hk_
  unfold State.descError
  have h0 := Fr.refl 0xc3c53000008004bc1c0004600000000020400000000000000000000000001a4180aa07f5e0 s
  repeat' first
      | ((try lift_lets); intro v; refine_lift have hv : Fr 0xc3c53000008004bc1c0004600000000020400000000000000000000000001a4180aa07f5e0 s v := ?_; ?_; clear_value v)
      | ((try lift_lets); intro v)
      | with_reducible refine State.ringSaid_fr ?_
      | with_reducible refine State.chainEnd_fr ?_
      | with_reducible refine State.modPch_fr ?_
      | with_reducible refine State.pglEvent_fr ?_
      | with_reducible refine State.ringDue_fr ?_
      | with_reducible refine State.set_fr ?_
      | with_reducible refine Fr.ite ?_ ?_
      | with_reducible refine Fr.cond ?_ ?_
      | with_reducible assumption
      | (refine Fr.of_snd (by assumption) ?_)
      | (refine Fr.of_fst (by assumption) ?_)
      | split
      | (unfold v; split)
      | (unfold v; clear_value *; split)
      | (clear_value *; split)

theorem State.errResid_fr {κ : Nat} {s0 s : State} {d : List Word} (hf_ : Fr κ s0 s) (hk_ : 0x80000000 &&& κ = 0x80000000 := by decide) :
    Fr κ s0 (State.errResid s d).2 := by
  refine Fr.lift hf_ hk_ ?_
  clear hf_ hk_
  unfold State.errResid
  have h0 := Fr.refl 0x80000000 s
  repeat' first
      | ((try lift_lets); intro v; refine_lift have hv : Fr 0x80000000 s v := ?_; ?_; clear_value v)
      | ((try lift_lets); intro v)
      | with_reducible refine State.freshNat_fr ?_
      | with_reducible refine Fr.ite ?_ ?_
      | with_reducible refine Fr.cond ?_ ?_
      | with_reducible assumption
      | (refine Fr.of_snd (by assumption) ?_)
      | (refine Fr.of_fst (by assumption) ?_)
      | split
      | (unfold v; split)
      | (unfold v; clear_value *; split)
      | (clear_value *; split)

theorem execDescriptorFetch_fr {s t_ : State} {n : ℕ} (e_ : execDescriptorFetch n s = .next t_) : Fr 0xc3c53000008004bc1c0004600000000020400000000000000000000000001a4180aa07f5e0 s t_ := by
  unfold execDescriptorFetch at e_
  obtain rfl := Host.Outcome.next.inj e_
  clear e_
  have h0 := Fr.refl 0xc3c53000008004bc1c0004600000000020400000000000000000000000001a4180aa07f5e0 s
  repeat' first
      | ((try lift_lets); intro v; refine_lift have hv : Fr 0xc3c53000008004bc1c0004600000000020400000000000000000000000001a4180aa07f5e0 s v := ?_; ?_; clear_value v)
      | ((try lift_lets); intro v)
      | with_reducible refine State.descError_fr ?_
      | with_reducible refine State.errResid_fr ?_
      | with_reducible refine State.freshNat_fr ?_
      | with_reducible refine State.modPch_fr ?_
      | with_reducible refine State.pglCharge_fr ?_
      | with_reducible refine State.pglRead_fr ?_
      | with_reducible refine State.set_fr ?_
      | with_reducible refine Fr.running ?_ (fun t ht => ?_)
      | with_reducible refine Fr.ite ?_ ?_
      | with_reducible refine Fr.cond ?_ ?_
      | with_reducible assumption
      | (refine Fr.of_snd (by assumption) ?_)
      | (refine Fr.of_fst (by assumption) ?_)
      | split
      | (unfold v; split)
      | (unfold v; clear_value *; split)
      | (clear_value *; split)

theorem execCreditWindow_fr {s t_ : State}  (e_ : execCreditWindow s = .next t_) : Fr 0x80000000000000000000000000000000000000000000000000000000000000002000000 s t_ := by
  unfold execCreditWindow at e_
  obtain rfl := Host.Outcome.next.inj e_
  clear e_
  have h0 := Fr.refl 0x80000000000000000000000000000000000000000000000000000000000000002000000 s
  repeat' first
      | ((try lift_lets); intro v; refine_lift have hv : Fr 0x80000000000000000000000000000000000000000000000000000000000000002000000 s v := ?_; ?_; clear_value v)
      | ((try lift_lets); intro v)
      | with_reducible refine State.modPch_fr ?_
      | with_reducible refine State.take_fr ?_
      | with_reducible refine Fr.forEach ?_ (fun t a ht => ?_)
      | with_reducible refine Fr.running ?_ (fun t ht => ?_)
      | with_reducible refine Fr.ite ?_ ?_
      | with_reducible refine Fr.cond ?_ ?_
      | with_reducible assumption
      | (refine Fr.of_snd (by assumption) ?_)
      | (refine Fr.of_fst (by assumption) ?_)
      | split
      | (unfold v; split)
      | (unfold v; clear_value *; split)
      | (clear_value *; split)

theorem State.takeFifo_fr {κ : Nat} {s0 s : State} {x : Axis} {n : ℕ} (hf_ : Fr κ s0 s) (hk_ : 0x18000 &&& κ = 0x18000 := by decide) :
    Fr κ s0 (State.takeFifo s x n).2 := by
  refine Fr.lift hf_ hk_ ?_
  clear hf_ hk_
  unfold State.takeFifo
  have h0 := Fr.refl 0x18000 s
  repeat' first
      | ((try lift_lets); intro v; refine_lift have hv : Fr 0x18000 s v := ?_; ?_; clear_value v)
      | ((try lift_lets); intro v)
      | with_reducible refine State.modCap_fr ?_
      | with_reducible refine Fr.ite ?_ ?_
      | with_reducible refine Fr.cond ?_ ?_
      | with_reducible assumption
      | (refine Fr.of_snd (by assumption) ?_)
      | (refine Fr.of_fst (by assumption) ?_)
      | split
      | (unfold v; split)
      | (unfold v; clear_value *; split)
      | (clear_value *; split)

theorem State.readRuns_fr {κ : Nat} {s0 s : State} {n : ℕ} {rs : List (ℤ × ℕ)} (hf_ : Fr κ s0 s) (hk_ : 0xc3c03000008004bc1c0004600000000020400000000000000000000000001a4180aa07f5e0 &&& κ = 0xc3c03000008004bc1c0004600000000020400000000000000000000000001a4180aa07f5e0 := by decide) :
    Fr κ s0 (State.readRuns s n rs).2 := by
  refine Fr.lift hf_ hk_ ?_
  clear hf_ hk_ s0
  revert s
  induction rs generalizing n with
  | nil =>
    intro s
    unfold State.readRuns
    (
    have h0 := Fr.refl 0xc3c03000008004bc1c0004600000000020400000000000000000000000001a4180aa07f5e0 s
    repeat' first
        | ((try lift_lets); intro v; refine_lift have hv : Fr 0xc3c03000008004bc1c0004600000000020400000000000000000000000001a4180aa07f5e0 s v := ?_; ?_; clear_value v)
        | ((try lift_lets); intro v)
        | with_reducible refine State.busError_fr ?_
        | with_reducible refine State.pglRead_fr ?_
        | with_reducible refine Fr.ite ?_ ?_
        | with_reducible refine Fr.cond ?_ ?_
        | with_reducible assumption
        | (refine Fr.of_snd (by assumption) ?_)
        | (refine Fr.of_fst (by assumption) ?_)
        | split
        | (unfold v; split)
        | (unfold v; clear_value *; split)
        | (clear_value *; split)
        | (injections; subst_vars))
  | cons c_ r_ ih =>
    intro s
    unfold State.readRuns
    (
    have h0 := Fr.refl 0xc3c03000008004bc1c0004600000000020400000000000000000000000001a4180aa07f5e0 s
    repeat' first
        | ((try lift_lets); intro v; refine_lift have hv : Fr 0xc3c03000008004bc1c0004600000000020400000000000000000000000001a4180aa07f5e0 s v := ?_; ?_; clear_value v)
        | ((try lift_lets); intro v)
        | with_reducible refine State.busError_fr ?_
        | with_reducible refine State.pglRead_fr ?_
        | with_reducible refine Fr.trans ?_ ih
        | with_reducible refine Fr.ite ?_ ?_
        | with_reducible refine Fr.cond ?_ ?_
        | with_reducible assumption
        | (refine Fr.of_snd (by assumption) ?_)
        | (refine Fr.of_fst (by assumption) ?_)
        | split
        | (unfold v; split)
        | (unfold v; clear_value *; split)
        | (clear_value *; split)
        | (injections; subst_vars))

theorem State.grantBurst_fr {κ : Nat} {s0 s : State} {n : ℕ} {d : List Word} (hf_ : Fr κ s0 s) (hk_ : 0xc3c03000008004bc1c0004600000000020400000000000000000000000001a4180aa07f5e0 &&& κ = 0xc3c03000008004bc1c0004600000000020400000000000000000000000001a4180aa07f5e0 := by decide) :
    Fr κ s0 (State.grantBurst s n d) := by
  refine Fr.lift hf_ hk_ ?_
  clear hf_ hk_
  unfold State.grantBurst
  dsimp only
  have h0 := Fr.refl 0xc3c03000008004bc1c0004600000000020400000000000000000000000001a4180aa07f5e0 s
  repeat' first
      | ((try lift_lets); intro v; refine_lift have hv : Fr 0xc3c03000008004bc1c0004600000000020400000000000000000000000001a4180aa07f5e0 s v := ?_; ?_; clear_value v)
      | ((try lift_lets); intro v)
      | with_reducible refine State.busError_fr ?_
      | with_reducible refine State.modPch_fr ?_
      | with_reducible refine State.pglCharge_fr ?_
      | with_reducible refine State.readRuns_fr ?_
      | with_reducible refine State.takeFifo_fr ?_
      | with_reducible refine Fr.ite ?_ ?_
      | with_reducible refine Fr.cond ?_ ?_
      | with_reducible assumption
      | (refine Fr.of_snd (by assumption) ?_)
      | (refine Fr.of_fst (by assumption) ?_)
      | split
      | (unfold v; split)
      | (unfold v; clear_value *; split)
      | (clear_value *; split)

theorem execBurstGrant_fr {s t_ : State} {n : ℕ} {upsets : List (ℕ × Bool)} (e_ : execBurstGrant n upsets s = .next t_) : Fr 0xc3c03000008004bc1c0004600000000020400000000000000000000000001a4180aa07f5e0 s t_ := by
  unfold execBurstGrant at e_
  obtain rfl := Host.Outcome.next.inj e_
  clear e_
  have h0 := Fr.refl 0xc3c03000008004bc1c0004600000000020400000000000000000000000001a4180aa07f5e0 s
  repeat' first
      | ((try lift_lets); intro v; refine_lift have hv : Fr 0xc3c03000008004bc1c0004600000000020400000000000000000000000001a4180aa07f5e0 s v := ?_; ?_; clear_value v)
      | ((try lift_lets); intro v)
      | with_reducible refine State.grantBurst_fr ?_
      | with_reducible refine State.upsets_fr ?_
      | with_reducible refine Fr.running ?_ (fun t ht => ?_)
      | with_reducible refine Fr.ite ?_ ?_
      | with_reducible refine Fr.cond ?_ ?_
      | with_reducible assumption
      | (refine Fr.of_snd (by assumption) ?_)
      | (refine Fr.of_fst (by assumption) ?_)
      | split
      | (unfold v; split)
      | (unfold v; clear_value *; split)
      | (clear_value *; split)

theorem State.abortEnd_fr {κ : Nat} {s0 s : State} {n : ℕ} {desc : ℕ} {resid : ℕ} (hf_ : Fr κ s0 s) (hk_ : 0xc3c53000008004bc1c0004600000000020400000000000000000000000001a4180aa07f5e0 &&& κ = 0xc3c53000008004bc1c0004600000000020400000000000000000000000001a4180aa07f5e0 := by decide) :
    Fr κ s0 (State.abortEnd s n desc resid) := by
  refine Fr.lift hf_ hk_ ?_
  clear hf_ hk_
  unfold State.abortEnd
  have h0 := Fr.refl 0xc3c53000008004bc1c0004600000000020400000000000000000000000001a4180aa07f5e0 s
  repeat' first
      | ((try lift_lets); intro v; refine_lift have hv : Fr 0xc3c53000008004bc1c0004600000000020400000000000000000000000001a4180aa07f5e0 s v := ?_; ?_; clear_value v)
      | ((try lift_lets); intro v)
      | with_reducible refine State.ringSaid_fr ?_
      | with_reducible refine State.setPglQueue_fr ?_
      | with_reducible refine State.chainEnd_fr ?_
      | with_reducible refine State.modPch_fr ?_
      | with_reducible refine State.pglEvent_fr ?_
      | with_reducible refine State.ringDue_fr ?_
      | with_reducible refine State.set_fr ?_
      | with_reducible refine Fr.ite ?_ ?_
      | with_reducible refine Fr.cond ?_ ?_
      | with_reducible assumption
      | (refine Fr.of_snd (by assumption) ?_)
      | (refine Fr.of_fst (by assumption) ?_)
      | split
      | (unfold v; split)
      | (unfold v; clear_value *; split)
      | (clear_value *; split)

theorem State.abortNow_fr {κ : Nat} {s0 s : State} {n : ℕ} (hf_ : Fr κ s0 s) (hk_ : 0xc3c53000008004bc1c0004600000000020400000000000000000000000001a4180aa07f5e0 &&& κ = 0xc3c53000008004bc1c0004600000000020400000000000000000000000001a4180aa07f5e0 := by decide) :
    Fr κ s0 (State.abortNow s n) := by
  refine Fr.lift hf_ hk_ ?_
  clear hf_ hk_
  unfold State.abortNow
  have h0 := Fr.refl 0xc3c53000008004bc1c0004600000000020400000000000000000000000001a4180aa07f5e0 s
  repeat' first
      | ((try lift_lets); intro v; refine_lift have hv : Fr 0xc3c53000008004bc1c0004600000000020400000000000000000000000001a4180aa07f5e0 s v := ?_; ?_; clear_value v)
      | ((try lift_lets); intro v)
      | with_reducible refine State.abortEnd_fr ?_
      | with_reducible refine State.pglResid_fr ?_
      | with_reducible refine Fr.ite ?_ ?_
      | with_reducible refine Fr.cond ?_ ?_
      | with_reducible assumption
      | (refine Fr.of_snd (by assumption) ?_)
      | (refine Fr.of_fst (by assumption) ?_)
      | split
      | (unfold v; split)
      | (unfold v; clear_value *; split)
      | (clear_value *; split)

theorem execBurstDone_fr {s t_ : State} {n : ℕ} (e_ : execBurstDone n s = .next t_) : Fr 0xc3c53000008004bc1c0004600000000020400000000000000000000000001a4180aa07f5e0 s t_ := by
  unfold execBurstDone at e_
  obtain rfl := Host.Outcome.next.inj e_
  clear e_
  have h0 := Fr.refl 0xc3c53000008004bc1c0004600000000020400000000000000000000000001a4180aa07f5e0 s
  dsimp only
  repeat' first
      | split
      | ((try lift_lets); intro v; refine_lift have hv : Fr 0xc3c53000008004bc1c0004600000000020400000000000000000000000001a4180aa07f5e0 s v := ?_; ?_; clear_value v)
      | ((try lift_lets); intro v)
      | with_reducible refine State.abortNow_fr ?_
      | with_reducible refine State.modPch_fr ?_
      | with_reducible refine State.pglWrite_fr ?_
      | with_reducible refine Fr.running ?_ (fun t ht => ?_)
      | with_reducible refine Fr.ite ?_ ?_
      | with_reducible refine Fr.cond ?_ ?_
      | with_reducible assumption
      | (refine Fr.of_snd (by assumption) ?_)
      | (refine Fr.of_fst (by assumption) ?_)
      | split
      | (unfold v; split)
      | (unfold v; clear_value *; split)
      | (clear_value *; split)

theorem State.descDone_fr {κ : Nat} {s0 s : State} {n : ℕ} {d : List Word} (hf_ : Fr κ s0 s) (hk_ : 0xc3c53000008004bc1c0004600000000020400000000000000000000000001a4180aa07f5e0 &&& κ = 0xc3c53000008004bc1c0004600000000020400000000000000000000000001a4180aa07f5e0 := by decide) :
    Fr κ s0 (State.descDone s n d) := by
  refine Fr.lift hf_ hk_ ?_
  clear hf_ hk_
  unfold State.descDone
  have h0 := Fr.refl 0xc3c53000008004bc1c0004600000000020400000000000000000000000001a4180aa07f5e0 s
  repeat' first
      | ((try lift_lets); intro v; refine_lift have hv : Fr 0xc3c53000008004bc1c0004600000000020400000000000000000000000001a4180aa07f5e0 s v := ?_; ?_; clear_value v)
      | ((try lift_lets); intro v)
      | with_reducible refine State.setPglQueue_fr ?_
      | with_reducible refine State.ringSaid_fr ?_
      | with_reducible refine State.abortEnd_fr ?_
      | with_reducible refine State.chainNext_fr ?_
      | with_reducible refine State.inc_fr ?_
      | with_reducible refine State.modPch_fr ?_
      | with_reducible refine State.pglEvent_fr ?_
      | with_reducible refine State.ringDue_fr ?_
      | with_reducible refine Fr.ite ?_ ?_
      | with_reducible refine Fr.cond ?_ ?_
      | with_reducible assumption
      | (refine Fr.of_snd (by assumption) ?_)
      | (refine Fr.of_fst (by assumption) ?_)
      | split
      | (unfold v; split)
      | (unfold v; clear_value *; split)
      | (clear_value *; split)

theorem execDescriptorComplete_fr {s t_ : State} {n : ℕ} (e_ : execDescriptorComplete n s = .next t_) : Fr 0xc3c53000008004bc1c0004600000000020400000000000000000000000001a4180aa07f5e0 s t_ := by
  unfold execDescriptorComplete at e_
  obtain rfl := Host.Outcome.next.inj e_
  clear e_
  have h0 := Fr.refl 0xc3c53000008004bc1c0004600000000020400000000000000000000000001a4180aa07f5e0 s
  repeat' first
      | ((try lift_lets); intro v; refine_lift have hv : Fr 0xc3c53000008004bc1c0004600000000020400000000000000000000000001a4180aa07f5e0 s v := ?_; ?_; clear_value v)
      | ((try lift_lets); intro v)
      | with_reducible refine State.descDone_fr ?_
      | with_reducible refine Fr.running ?_ (fun t ht => ?_)
      | with_reducible refine Fr.ite ?_ ?_
      | with_reducible refine Fr.cond ?_ ?_
      | with_reducible assumption
      | (refine Fr.of_snd (by assumption) ?_)
      | (refine Fr.of_fst (by assumption) ?_)
      | split
      | (unfold v; split)
      | (unfold v; clear_value *; split)
      | (clear_value *; split)

theorem State.ringRdWrite_fr {κ : Nat} {s0 s : State} {by_ : Writer} {w : Word} (hf_ : Fr κ s0 s) (hk_ : 0xc3c73000008004bc1c0004600000000020400000000000000000000000001a4180ea07f5e0 &&& κ = 0xc3c73000008004bc1c0004600000000020400000000000000000000000001a4180ea07f5e0 := by decide) :
    Fr κ s0 (State.ringRdWrite s by_ w) := by
  refine Fr.lift hf_ hk_ ?_
  clear hf_ hk_
  unfold State.ringRdWrite
  have h0 := Fr.refl 0xc3c73000008004bc1c0004600000000020400000000000000000000000001a4180ea07f5e0 s
  repeat' first
      | ((try lift_lets); intro v; refine_lift have hv : Fr 0xc3c73000008004bc1c0004600000000020400000000000000000000000001a4180ea07f5e0 s v := ?_; ?_; clear_value v)
      | ((try lift_lets); intro v)
      | with_reducible refine State.note_fr ?_
      | with_reducible refine State.ringDrain_fr ?_
      | with_reducible refine State.set_fr ?_
      | with_reducible refine Fr.ite ?_ ?_
      | with_reducible refine Fr.cond ?_ ?_
      | with_reducible assumption
      | (refine Fr.of_snd (by assumption) ?_)
      | (refine Fr.of_fst (by assumption) ?_)
      | split
      | (unfold v; split)
      | (unfold v; clear_value *; split)
      | (clear_value *; split)

theorem execRingRdWrite_fr {s t_ : State} {w : Word} (e_ : execRingRdWrite w s = .next t_) : Fr 0xc3c73000008004bc1c0004600000000020400000000000000000000000001a4180ea07f5e0 s t_ := by
  unfold execRingRdWrite at e_
  obtain rfl := Host.Outcome.next.inj e_
  clear e_
  have h0 := Fr.refl 0xc3c73000008004bc1c0004600000000020400000000000000000000000001a4180ea07f5e0 s
  repeat' first
      | ((try lift_lets); intro v; refine_lift have hv : Fr 0xc3c73000008004bc1c0004600000000020400000000000000000000000001a4180ea07f5e0 s v := ?_; ?_; clear_value v)
      | ((try lift_lets); intro v)
      | with_reducible refine State.ringRdWrite_fr ?_
      | with_reducible refine Fr.running ?_ (fun t ht => ?_)
      | with_reducible refine Fr.ite ?_ ?_
      | with_reducible refine Fr.cond ?_ ?_
      | with_reducible assumption
      | (refine Fr.of_snd (by assumption) ?_)
      | (refine Fr.of_fst (by assumption) ?_)
      | split
      | (unfold v; split)
      | (unfold v; clear_value *; split)
      | (clear_value *; split)

theorem State.pglAbort_fr {κ : Nat} {s0 s : State} {n : ℕ} (hf_ : Fr κ s0 s) (hk_ : 0xc3c53000008004bc1c0004600000000020400000000000000000000000001a4180aa07f5e0 &&& κ = 0xc3c53000008004bc1c0004600000000020400000000000000000000000001a4180aa07f5e0 := by decide) :
    Fr κ s0 (State.pglAbort s n) := by
  refine Fr.lift hf_ hk_ ?_
  clear hf_ hk_
  unfold State.pglAbort
  have h0 := Fr.refl 0xc3c53000008004bc1c0004600000000020400000000000000000000000001a4180aa07f5e0 s
  repeat' first
      | ((try lift_lets); intro v; refine_lift have hv : Fr 0xc3c53000008004bc1c0004600000000020400000000000000000000000001a4180aa07f5e0 s v := ?_; ?_; clear_value v)
      | ((try lift_lets); intro v)
      | with_reducible refine State.abortNow_fr ?_
      | with_reducible refine State.modPch_fr ?_
      | with_reducible refine State.set_fr ?_
      | with_reducible refine State.setPglQueue_fr ?_
      | with_reducible refine Fr.ite ?_ ?_
      | with_reducible refine Fr.cond ?_ ?_
      | with_reducible assumption
      | (refine Fr.of_snd (by assumption) ?_)
      | (refine Fr.of_fst (by assumption) ?_)
      | split
      | (unfold v; split)
      | (unfold v; clear_value *; split)
      | (clear_value *; split)

theorem execAbort_fr {s t_ : State} {n : ℕ} (e_ : execAbort n s = .next t_) : Fr 0xc3c53000008004bc1c0004600000000020400000000000000000000000001a4180aa07f5e0 s t_ := by
  unfold execAbort at e_
  obtain rfl := Host.Outcome.next.inj e_
  clear e_
  have h0 := Fr.refl 0xc3c53000008004bc1c0004600000000020400000000000000000000000001a4180aa07f5e0 s
  repeat' first
      | ((try lift_lets); intro v; refine_lift have hv : Fr 0xc3c53000008004bc1c0004600000000020400000000000000000000000001a4180aa07f5e0 s v := ?_; ?_; clear_value v)
      | ((try lift_lets); intro v)
      | with_reducible refine State.pglAbort_fr ?_
      | with_reducible refine Fr.running ?_ (fun t ht => ?_)
      | with_reducible refine Fr.ite ?_ ?_
      | with_reducible refine Fr.cond ?_ ?_
      | with_reducible assumption
      | (refine Fr.of_snd (by assumption) ?_)
      | (refine Fr.of_fst (by assumption) ?_)
      | split
      | (unfold v; split)
      | (unfold v; clear_value *; split)
      | (clear_value *; split)

theorem execBusError_fr {s t_ : State} {kind : ℕ} {ch : Option ℕ} {addr : ℕ} (e_ : execBusError kind ch addr s = .next t_) : Fr 0xc3c03000008004bc00000060000000000000000000000000000000000000024000aa01f420 s t_ := by
  unfold execBusError at e_
  obtain rfl := Host.Outcome.next.inj e_
  clear e_
  have h0 := Fr.refl 0xc3c03000008004bc00000060000000000000000000000000000000000000024000aa01f420 s
  repeat' first
      | ((try lift_lets); intro v; refine_lift have hv : Fr 0xc3c03000008004bc00000060000000000000000000000000000000000000024000aa01f420 s v := ?_; ?_; clear_value v)
      | ((try lift_lets); intro v)
      | with_reducible refine State.busError_fr ?_
      | with_reducible refine Fr.running ?_ (fun t ht => ?_)
      | with_reducible refine Fr.ite ?_ ?_
      | with_reducible refine Fr.cond ?_ ?_
      | with_reducible assumption
      | (refine Fr.of_snd (by assumption) ?_)
      | (refine Fr.of_fst (by assumption) ?_)
      | split
      | (unfold v; split)
      | (unfold v; clear_value *; split)
      | (clear_value *; split)

theorem State.pglReset_fr {κ : Nat} {s0 s : State} {by_ : Writer} {w : Word} (hf_ : Fr κ s0 s) (hk_ : 0x2c03000000000900000004000000000000000000000000000000000000002400042018400 &&& κ = 0x2c03000000000900000004000000000000000000000000000000000000002400042018400 := by decide) :
    Fr κ s0 (State.pglReset s by_ w) := by
  refine Fr.lift hf_ hk_ ?_
  clear hf_ hk_
  unfold State.pglReset
  have h0 := Fr.refl 0x2c03000000000900000004000000000000000000000000000000000000002400042018400 s
  repeat' first
      | ((try lift_lets); intro v; refine_lift have hv : Fr 0x2c03000000000900000004000000000000000000000000000000000000002400042018400 s v := ?_; ?_; clear_value v)
      | ((try lift_lets); intro v)
      | with_reducible refine State.event_fr ?_
      | with_reducible refine State.modPch_fr ?_
      | with_reducible refine State.note_fr ?_
      | with_reducible refine State.set_fr ?_
      | with_reducible refine State.setCause_fr ?_
      | with_reducible refine State.wr_fr ?_
      | with_reducible refine Fr.forEach ?_ (fun t a ht => ?_)
      | with_reducible refine Fr.ite ?_ ?_
      | with_reducible refine Fr.cond ?_ ?_
      | with_reducible assumption
      | (refine Fr.of_snd (by assumption) ?_)
      | (refine Fr.of_fst (by assumption) ?_)
      | split
      | (unfold v; split)
      | (unfold v; clear_value *; split)
      | (clear_value *; split)

theorem execPglReset_fr {s t_ : State} {w : Word} (e_ : execPglReset w s = .next t_) : Fr 0x2c03000000000900000004000000000000000000000000000000000000002400042018400 s t_ := by
  unfold execPglReset at e_
  obtain rfl := Host.Outcome.next.inj e_
  clear e_
  have h0 := Fr.refl 0x2c03000000000900000004000000000000000000000000000000000000002400042018400 s
  repeat' first
      | ((try lift_lets); intro v; refine_lift have hv : Fr 0x2c03000000000900000004000000000000000000000000000000000000002400042018400 s v := ?_; ?_; clear_value v)
      | ((try lift_lets); intro v)
      | with_reducible refine State.pglReset_fr ?_
      | with_reducible refine Fr.running ?_ (fun t ht => ?_)
      | with_reducible refine Fr.ite ?_ ?_
      | with_reducible refine Fr.cond ?_ ?_
      | with_reducible assumption
      | (refine Fr.of_snd (by assumption) ?_)
      | (refine Fr.of_fst (by assumption) ?_)
      | split
      | (unfold v; split)
      | (unfold v; clear_value *; split)
      | (clear_value *; split)

theorem State.chnCfgWrite_fr {κ : Nat} {s0 s : State} {n : ℕ} {w : Word} (hf_ : Fr κ s0 s) (hk_ : 0x10 &&& κ = 0x10 := by decide) :
    Fr κ s0 (State.chnCfgWrite s n w) := by
  refine Fr.lift hf_ hk_ ?_
  clear hf_ hk_
  unfold State.chnCfgWrite
  have h0 := Fr.refl 0x10 s
  repeat' first
      | ((try lift_lets); intro v; refine_lift have hv : Fr 0x10 s v := ?_; ?_; clear_value v)
      | ((try lift_lets); intro v)
      | with_reducible refine State.setSh_fr ?_
      | with_reducible refine Fr.ite ?_ ?_
      | with_reducible refine Fr.cond ?_ ?_
      | with_reducible assumption
      | (refine Fr.of_snd (by assumption) ?_)
      | (refine Fr.of_fst (by assumption) ?_)
      | split
      | (unfold v; split)
      | (unfold v; clear_value *; split)
      | (clear_value *; split)

theorem execChnCfgWrite_fr {s t_ : State} {n : ℕ} {w : Word} (e_ : execChnCfgWrite n w s = .next t_) : Fr 0x10 s t_ := by
  unfold execChnCfgWrite at e_
  obtain rfl := Host.Outcome.next.inj e_
  clear e_
  have h0 := Fr.refl 0x10 s
  repeat' first
      | ((try lift_lets); intro v; refine_lift have hv : Fr 0x10 s v := ?_; ?_; clear_value v)
      | ((try lift_lets); intro v)
      | with_reducible refine State.chnCfgWrite_fr ?_
      | with_reducible refine Fr.running ?_ (fun t ht => ?_)
      | with_reducible refine Fr.ite ?_ ?_
      | with_reducible refine Fr.cond ?_ ?_
      | with_reducible assumption
      | (refine Fr.of_snd (by assumption) ?_)
      | (refine Fr.of_fst (by assumption) ?_)
      | split
      | (unfold v; split)
      | (unfold v; clear_value *; split)
      | (clear_value *; split)

end Sys2Proof.Machine
end

