-- ==== Sys2Proof/Laws/FrameIcehouse.lean ====
section
/-! SUPPORT. Frames of the operations of Machine/Icehouse.lean: one lemma each (Laws/Frame.lean). -/

namespace Sys2Proof.Machine

set_option Elab.async false

theorem State.touchLine_fr {κ : Nat} {s0 s : State} {a : ℕ} (hf_ : Fr κ s0 s) (hk_ : 0x8000000 &&& κ = 0x8000000 := by decide) :
    Fr κ s0 (State.touchLine s a) := by
  refine Fr.lift hf_ hk_ ?_
  clear hf_ hk_
  unfold State.touchLine
  have h0 := Fr.refl 0x8000000 s
  repeat' first
      | ((try lift_lets); intro v; refine_lift have hv : Fr 0x8000000 s v := ?_; ?_; clear_value v)
      | ((try lift_lets); intro v)
      | with_reducible refine State.modIce_fr ?_
      | with_reducible refine Fr.ite ?_ ?_
      | with_reducible refine Fr.cond ?_ ?_
      | with_reducible assumption
      | (refine Fr.of_snd (by assumption) ?_)
      | (refine Fr.of_fst (by assumption) ?_)
      | split
      | (unfold v; split)
      | (unfold v; clear_value *; split)
      | (clear_value *; split)

theorem State.storeLine_fr {κ : Nat} {s0 s : State} {a : ℕ} {bs : List Byte} (hf_ : Fr κ s0 s) (hk_ : 0x8000000 &&& κ = 0x8000000 := by decide) :
    Fr κ s0 (State.storeLine s a bs) := by
  refine Fr.lift hf_ hk_ ?_
  clear hf_ hk_
  unfold State.storeLine
  have h0 := Fr.refl 0x8000000 s
  repeat' first
      | ((try lift_lets); intro v; refine_lift have hv : Fr 0x8000000 s v := ?_; ?_; clear_value v)
      | ((try lift_lets); intro v)
      | with_reducible refine State.modIce_fr ?_
      | with_reducible refine Fr.ite ?_ ?_
      | with_reducible refine Fr.cond ?_ ?_
      | with_reducible assumption
      | (refine Fr.of_snd (by assumption) ?_)
      | (refine Fr.of_fst (by assumption) ?_)
      | split
      | (unfold v; split)
      | (unfold v; clear_value *; split)
      | (clear_value *; split)

theorem State.iceInv_fr {κ : Nat} {s0 s : State}  (hf_ : Fr κ s0 s) (hk_ : 0x8000000 &&& κ = 0x8000000 := by decide) :
    Fr κ s0 (State.iceInv s) := by
  refine Fr.lift hf_ hk_ ?_
  clear hf_ hk_
  unfold State.iceInv
  have h0 := Fr.refl 0x8000000 s
  repeat' first
      | ((try lift_lets); intro v; refine_lift have hv : Fr 0x8000000 s v := ?_; ?_; clear_value v)
      | ((try lift_lets); intro v)
      | with_reducible refine State.modIce_fr ?_
      | with_reducible refine Fr.ite ?_ ?_
      | with_reducible refine Fr.cond ?_ ?_
      | with_reducible assumption
      | (refine Fr.of_snd (by assumption) ?_)
      | (refine Fr.of_fst (by assumption) ?_)
      | split
      | (unfold v; split)
      | (unfold v; clear_value *; split)
      | (clear_value *; split)

theorem State.fillFail_fr {κ : Nat} {s0 s : State} {q : FlashReq} (hf_ : Fr κ s0 s) (hk_ : 0xc2c01000008004bc1c000440000000002040000000000000000000000000624000a207f420 &&& κ = 0xc2c01000008004bc1c000440000000002040000000000000000000000000624000a207f420 := by decide) :
    Fr κ s0 (State.fillFail s q) := by
  refine Fr.lift hf_ hk_ ?_
  clear hf_ hk_
  unfold State.fillFail
  have h0 := Fr.refl 0xc2c01000008004bc1c000440000000002040000000000000000000000000624000a207f420 s
  repeat' first
      | ((try lift_lets); intro v; refine_lift have hv : Fr 0xc2c01000008004bc1c000440000000002040000000000000000000000000624000a207f420 s v := ?_; ?_; clear_value v)
      | ((try lift_lets); intro v)
      | with_reducible refine State.abandonQuiet_fr ?_
      | with_reducible refine State.event_fr ?_
      | with_reducible refine State.fault_fr ?_
      | with_reducible refine Fr.ite ?_ ?_
      | with_reducible refine Fr.cond ?_ ?_
      | with_reducible assumption
      | with_reducible exact Fr.id_ (by with_reducible assumption)
      | (refine Fr.of_snd (by assumption) ?_)
      | (refine Fr.of_fst (by assumption) ?_)
      | split
      | (unfold v; split)
      | (unfold v; clear_value *; split)
      | (clear_value *; split)

theorem State.iceFail_fr {κ : Nat} {s0 s : State} {q : FlashReq} {kind : ℕ} (hf_ : Fr κ s0 s) (hk_ : 0xc3c03700008004bc1c000460000000002040000000000000000000000000624000aa07f420 &&& κ = 0xc3c03700008004bc1c000460000000002040000000000000000000000000624000aa07f420 := by decide) :
    Fr κ s0 (State.iceFail s q kind) := by
  refine Fr.lift hf_ hk_ ?_
  clear hf_ hk_
  unfold State.iceFail
  have h0 := Fr.refl 0xc3c03700008004bc1c000460000000002040000000000000000000000000624000aa07f420 s
  repeat' first
      | ((try lift_lets); intro v; refine_lift have hv : Fr 0xc3c03700008004bc1c000460000000002040000000000000000000000000624000aa07f420 s v := ?_; ?_; clear_value v)
      | ((try lift_lets); intro v)
      | with_reducible refine State.busError_fr ?_
      | with_reducible refine State.fillFail_fr ?_
      | with_reducible refine State.iceError_fr ?_
      | with_reducible refine Fr.ite ?_ ?_
      | with_reducible refine Fr.cond ?_ ?_
      | with_reducible assumption
      | (refine Fr.of_snd (by assumption) ?_)
      | (refine Fr.of_fst (by assumption) ?_)
      | split
      | (unfold v; split)
      | (unfold v; clear_value *; split)
      | (clear_value *; split)

theorem State.iceBusy_fr {κ : Nat} {s0 s : State}  (hf_ : Fr κ s0 s) (hk_ : 0x100000000000000000000000000000000000000000000000000000000000000000000 &&& κ = 0x100000000000000000000000000000000000000000000000000000000000000000000 := by decide) :
    Fr κ s0 (State.iceBusy s) := by
  refine Fr.lift hf_ hk_ ?_
  clear hf_ hk_
  unfold State.iceBusy
  have h0 := Fr.refl 0x100000000000000000000000000000000000000000000000000000000000000000000 s
  repeat' first
      | ((try lift_lets); intro v; refine_lift have hv : Fr 0x100000000000000000000000000000000000000000000000000000000000000000000 s v := ?_; ?_; clear_value v)
      | ((try lift_lets); intro v)
      | with_reducible refine State.setB_fr ?_
      | with_reducible refine Fr.ite ?_ ?_
      | with_reducible refine Fr.cond ?_ ?_
      | with_reducible assumption
      | (refine Fr.of_snd (by assumption) ?_)
      | (refine Fr.of_fst (by assumption) ?_)
      | split
      | (unfold v; split)
      | (unfold v; clear_value *; split)
      | (clear_value *; split)

theorem State.iceLetGo_fr {κ : Nat} {s0 s : State}  (hf_ : Fr κ s0 s) (hk_ : 0xc3c03700008004bc1c000460000000002040000000000000000000000000624000aa07f420 &&& κ = 0xc3c03700008004bc1c000460000000002040000000000000000000000000624000aa07f420 := by decide) :
    Fr κ s0 (State.iceLetGo s) := by
  refine Fr.lift hf_ hk_ ?_
  clear hf_ hk_
  unfold State.iceLetGo
  have h0 := Fr.refl 0xc3c03700008004bc1c000460000000002040000000000000000000000000624000aa07f420 s
  repeat' first
      | ((try lift_lets); intro v; refine_lift have hv : Fr 0xc3c03700008004bc1c000460000000002040000000000000000000000000624000aa07f420 s v := ?_; ?_; clear_value v)
      | ((try lift_lets); intro v)
      | with_reducible refine State.iceFail_fr ?_
      | with_reducible refine State.modIce_fr ?_
      | with_reducible refine State.set_fr ?_
      | with_reducible refine Fr.forEach ?_ (fun t a ht => ?_)
      | with_reducible refine Fr.ite ?_ ?_
      | with_reducible refine Fr.cond ?_ ?_
      | with_reducible assumption
      | (refine Fr.of_snd (by assumption) ?_)
      | (refine Fr.of_fst (by assumption) ?_)
      | split
      | (unfold v; split)
      | (unfold v; clear_value *; split)
      | (clear_value *; split)

theorem State.iceNext_fr {κ : Nat} {s0 s : State}  (hf_ : Fr κ s0 s) (hk_ : 0xc3c03700008004bc1c000460000000002040000000000000000000000000624000aa07f420 &&& κ = 0xc3c03700008004bc1c000460000000002040000000000000000000000000624000aa07f420 := by decide) :
    Fr κ s0 (State.iceNext s) := by
  refine Fr.lift hf_ hk_ ?_
  clear hf_ hk_
  unfold State.iceNext
  have h0 := Fr.refl 0xc3c03700008004bc1c000460000000002040000000000000000000000000624000aa07f420 s
  repeat' first
      | ((try lift_lets); intro v; refine_lift have hv : Fr 0xc3c03700008004bc1c000460000000002040000000000000000000000000624000aa07f420 s v := ?_; ?_; clear_value v)
      | ((try lift_lets); intro v)
      | with_reducible refine State.iceBusy_fr ?_
      | with_reducible refine State.iceLetGo_fr ?_
      | with_reducible refine State.modIce_fr ?_
      | with_reducible refine Fr.ite ?_ ?_
      | with_reducible refine Fr.cond ?_ ?_
      | with_reducible assumption
      | (refine Fr.of_snd (by assumption) ?_)
      | (refine Fr.of_fst (by assumption) ?_)
      | split
      | (unfold v; split)
      | (unfold v; clear_value *; split)
      | (clear_value *; split)

theorem State.iceAsk_fr {κ : Nat} {s0 s : State} {q : FlashReq} (hf_ : Fr κ s0 s) (hk_ : 0xc3c03700008004bc1c000460000000002040000000000000000000000000624000aa07f420 &&& κ = 0xc3c03700008004bc1c000460000000002040000000000000000000000000624000aa07f420 := by decide) :
    Fr κ s0 (State.iceAsk s q) := by
  refine Fr.lift hf_ hk_ ?_
  clear hf_ hk_
  unfold State.iceAsk
  have h0 := Fr.refl 0xc3c03700008004bc1c000460000000002040000000000000000000000000624000aa07f420 s
  repeat' first
      | ((try lift_lets); intro v; refine_lift have hv : Fr 0xc3c03700008004bc1c000460000000002040000000000000000000000000624000aa07f420 s v := ?_; ?_; clear_value v)
      | ((try lift_lets); intro v)
      | with_reducible refine State.iceFail_fr ?_
      | with_reducible refine State.iceNext_fr ?_
      | with_reducible refine State.modIce_fr ?_
      | with_reducible refine Fr.ite ?_ ?_
      | with_reducible refine Fr.cond ?_ ?_
      | with_reducible assumption
      | (refine Fr.of_snd (by assumption) ?_)
      | (refine Fr.of_fst (by assumption) ?_)
      | split
      | (unfold v; split)
      | (unfold v; clear_value *; split)
      | (clear_value *; split)

theorem State.windowStall_fr {κ : Nat} {s0 s : State} {k : Nat} {addr : Nat} (hf_ : Fr κ s0 s) (hk_ : 0xc3c03700008004bc1c000460000000002040000000000000000000000000624000aa07f420 &&& κ = 0xc3c03700008004bc1c000460000000002040000000000000000000000000624000aa07f420 := by decide) :
    Fr κ s0 (State.windowStall s k addr) := by
  refine Fr.lift hf_ hk_ ?_
  clear hf_ hk_
  unfold State.windowStall
  have h0 := Fr.refl 0xc3c03700008004bc1c000460000000002040000000000000000000000000624000aa07f420 s
  repeat' first
      | ((try lift_lets); intro v; refine_lift have hv : Fr 0xc3c03700008004bc1c000460000000002040000000000000000000000000624000aa07f420 s v := ?_; ?_; clear_value v)
      | ((try lift_lets); intro v)
      | with_reducible refine State.iceAsk_fr ?_
      | with_reducible refine State.modRun_fr ?_
      | with_reducible refine Fr.ite ?_ ?_
      | with_reducible refine Fr.cond ?_ ?_
      | with_reducible assumption
      | with_reducible exact Fr.id_ (by with_reducible assumption)
      | (refine Fr.of_snd (by assumption) ?_)
      | (refine Fr.of_fst (by assumption) ?_)
      | split
      | (unfold v; split)
      | (unfold v; clear_value *; split)
      | (clear_value *; split)

theorem execWindowMiss_fr {s t_ : State} {k : ℕ} {addr : ℕ} {hits : List ℕ} (e_ : execWindowMiss k addr hits s = .next t_) : Fr 0xc3c03700008004bc1c000460000000002040000000000000000000000000624000aa07f420 s t_ := by
  unfold execWindowMiss at e_
  obtain rfl := Host.Outcome.next.inj e_
  clear e_
  have h0 := Fr.refl 0xc3c03700008004bc1c000460000000002040000000000000000000000000624000aa07f420 s
  repeat' first
      | ((try lift_lets); intro v; refine_lift have hv : Fr 0xc3c03700008004bc1c000460000000002040000000000000000000000000624000aa07f420 s v := ?_; ?_; clear_value v)
      | ((try lift_lets); intro v)
      | with_reducible refine State.windowStall_fr ?_
      | with_reducible refine State.iceAsk_fr ?_
      | with_reducible refine State.modRun_fr ?_
      | with_reducible refine State.touchLine_fr ?_
      | with_reducible refine Fr.forEach ?_ (fun t a ht => ?_)
      | with_reducible refine Fr.running ?_ (fun t ht => ?_)
      | with_reducible refine Fr.ite ?_ ?_
      | with_reducible refine Fr.cond ?_ ?_
      | with_reducible assumption
      | (refine Fr.of_snd (by assumption) ?_)
      | (refine Fr.of_fst (by assumption) ?_)
      | split
      | (unfold v; split)
      | (unfold v; clear_value *; split)
      | (clear_value *; split)

theorem execWindowLineFill_fr {s t_ : State}  (e_ : execWindowLineFill s = .next t_) : Fr 0x400000000000000000000000000000000000000000000000000000000000008000400 s t_ := by
  unfold execWindowLineFill at e_
  obtain rfl := Host.Outcome.next.inj e_
  clear e_
  have h0 := Fr.refl 0x400000000000000000000000000000000000000000000000000000000000008000400 s
  repeat' first
      | ((try lift_lets); intro v; refine_lift have hv : Fr 0x400000000000000000000000000000000000000000000000000000000000008000400 s v := ?_; ?_; clear_value v)
      | ((try lift_lets); intro v)
      | with_reducible refine State.inc_fr ?_
      | with_reducible refine State.modIce_fr ?_
      | with_reducible refine State.modRun_fr ?_
      | with_reducible refine State.storeLine_fr ?_
      | with_reducible refine Fr.running ?_ (fun t ht => ?_)
      | with_reducible refine Fr.ite ?_ ?_
      | with_reducible refine Fr.cond ?_ ?_
      | with_reducible assumption
      | (refine Fr.of_snd (by assumption) ?_)
      | (refine Fr.of_fst (by assumption) ?_)
      | split
      | (unfold v; split)
      | (unfold v; clear_value *; split)
      | (clear_value *; split)

theorem execApertureRead_fr {s t_ : State} {n : ℕ} (e_ : execApertureRead n s = .next t_) : Fr 0xc3c03700008004bc1c000460000000002040000000000000000000000000624000aa07f420 s t_ := by
  unfold execApertureRead at e_
  obtain rfl := Host.Outcome.next.inj e_
  clear e_
  have h0 := Fr.refl 0xc3c03700008004bc1c000460000000002040000000000000000000000000624000aa07f420 s
  dsimp only
  repeat' first
      | split
      | ((try lift_lets); intro v; refine_lift have hv : Fr 0xc3c03700008004bc1c000460000000002040000000000000000000000000624000aa07f420 s v := ?_; ?_; clear_value v)
      | ((try lift_lets); intro v)
      | with_reducible refine State.iceAsk_fr ?_
      | with_reducible refine Fr.forEach ?_ (fun t a ht => ?_)
      | with_reducible refine Fr.running ?_ (fun t ht => ?_)
      | with_reducible refine Fr.ite ?_ ?_
      | with_reducible refine Fr.cond ?_ ?_
      | with_reducible assumption
      | (refine Fr.of_snd (by assumption) ?_)
      | (refine Fr.of_fst (by assumption) ?_)
      | split
      | (unfold v; split)
      | (unfold v; clear_value *; split)
      | (clear_value *; split)

theorem State.apertureLand_fr {κ : Nat} {s0 s : State} {n : ℕ} {bs : List Byte} (hf_ : Fr κ s0 s) (hk_ : 0x2000000 &&& κ = 0x2000000 := by decide) :
    Fr κ s0 (State.apertureLand s n bs) := by
  refine Fr.lift hf_ hk_ ?_
  clear hf_ hk_
  unfold State.apertureLand
  dsimp only
  have h0 := Fr.refl 0x2000000 s
  repeat' first
      | split
      | ((try lift_lets); intro v; refine_lift have hv : Fr 0x2000000 s v := ?_; ?_; clear_value v)
      | ((try lift_lets); intro v)
      | with_reducible refine State.modPch_fr ?_
      | with_reducible refine Fr.ite ?_ ?_
      | with_reducible refine Fr.cond ?_ ?_
      | with_reducible assumption
      | (refine Fr.of_snd (by assumption) ?_)
      | (refine Fr.of_fst (by assumption) ?_)
      | split
      | (unfold v; split)
      | (unfold v; clear_value *; split)
      | (clear_value *; split)

theorem execFlashTransactionEnd_fr {s t_ : State} {timeout : Bool} {bytes : List Byte} (e_ : execFlashTransactionEnd timeout bytes s = .next t_) : Fr 0xc3c03700008004bc1c000460000000002040000000000000000000000000624000aa07f420 s t_ := by
  unfold execFlashTransactionEnd at e_
  obtain rfl := Host.Outcome.next.inj e_
  clear e_
  have h0 := Fr.refl 0xc3c03700008004bc1c000460000000002040000000000000000000000000624000aa07f420 s
  repeat' first
      | ((try lift_lets); intro v; refine_lift have hv : Fr 0xc3c03700008004bc1c000460000000002040000000000000000000000000624000aa07f420 s v := ?_; ?_; clear_value v)
      | ((try lift_lets); intro v)
      | with_reducible refine State.apertureLand_fr ?_
      | with_reducible refine State.iceBusy_fr ?_
      | with_reducible refine State.iceFail_fr ?_
      | with_reducible refine State.iceNext_fr ?_
      | with_reducible refine State.inc_fr ?_
      | with_reducible refine State.modIce_fr ?_
      | with_reducible refine Fr.running ?_ (fun t ht => ?_)
      | with_reducible refine Fr.ite ?_ ?_
      | with_reducible refine Fr.cond ?_ ?_
      | with_reducible assumption
      | (refine Fr.of_snd (by assumption) ?_)
      | (refine Fr.of_fst (by assumption) ?_)
      | split
      | (unfold v; split)
      | (unfold v; clear_value *; split)
      | (clear_value *; split)

theorem State.iceRelease_fr {κ : Nat} {s0 s : State}  (hf_ : Fr κ s0 s) (hk_ : 0xc3c03780008004bc1c000460000000002040000000000000000000000000624000aa07f420 &&& κ = 0xc3c03780008004bc1c000460000000002040000000000000000000000000624000aa07f420 := by decide) :
    Fr κ s0 (State.iceRelease s) := by
  refine Fr.lift hf_ hk_ ?_
  clear hf_ hk_
  unfold State.iceRelease
  have h0 := Fr.refl 0xc3c03780008004bc1c000460000000002040000000000000000000000000624000aa07f420 s
  repeat' first
      | ((try lift_lets); intro v; refine_lift have hv : Fr 0xc3c03780008004bc1c000460000000002040000000000000000000000000624000aa07f420 s v := ?_; ?_; clear_value v)
      | ((try lift_lets); intro v)
      | with_reducible refine State.iceLetGo_fr ?_
      | with_reducible refine State.modIce_fr ?_
      | with_reducible refine State.set_fr ?_
      | with_reducible refine Fr.ite ?_ ?_
      | with_reducible refine Fr.cond ?_ ?_
      | with_reducible assumption
      | (refine Fr.of_snd (by assumption) ?_)
      | (refine Fr.of_fst (by assumption) ?_)
      | split
      | (unfold v; split)
      | (unfold v; clear_value *; split)
      | (clear_value *; split)

theorem State.iceRetake_fr {κ : Nat} {s0 s : State} {id : FlashId} (hf_ : Fr κ s0 s) (hk_ : 0x1b0000000000000000000000000000000000000000000000000000000000088000000 &&& κ = 0x1b0000000000000000000000000000000000000000000000000000000000088000000 := by decide) :
    Fr κ s0 (State.iceRetake s id) := by
  refine Fr.lift hf_ hk_ ?_
  clear hf_ hk_
  unfold State.iceRetake
  have h0 := Fr.refl 0x1b0000000000000000000000000000000000000000000000000000000000088000000 s
  repeat' first
      | ((try lift_lets); intro v; refine_lift have hv : Fr 0x1b0000000000000000000000000000000000000000000000000000000000088000000 s v := ?_; ?_; clear_value v)
      | ((try lift_lets); intro v)
      | with_reducible refine State.iceInv_fr ?_
      | with_reducible refine State.modIce_fr ?_
      | with_reducible refine State.probe_fr ?_
      | with_reducible refine State.set_fr ?_
      | with_reducible refine Fr.ite ?_ ?_
      | with_reducible refine Fr.cond ?_ ?_
      | with_reducible assumption
      | (refine Fr.of_snd (by assumption) ?_)
      | (refine Fr.of_fst (by assumption) ?_)
      | split
      | (unfold v; split)
      | (unfold v; clear_value *; split)
      | (clear_value *; split)

theorem execRelease_fr {s t_ : State}  (e_ : execRelease s = .next t_) : Fr 0xc3c03780008004bc1c000460000000002040000000000000000000000000624000aa07f420 s t_ := by
  unfold execRelease at e_
  obtain rfl := Host.Outcome.next.inj e_
  clear e_
  have h0 := Fr.refl 0xc3c03780008004bc1c000460000000002040000000000000000000000000624000aa07f420 s
  repeat' first
      | ((try lift_lets); intro v; refine_lift have hv : Fr 0xc3c03780008004bc1c000460000000002040000000000000000000000000624000aa07f420 s v := ?_; ?_; clear_value v)
      | ((try lift_lets); intro v)
      | with_reducible refine State.iceRelease_fr ?_
      | with_reducible refine Fr.running ?_ (fun t ht => ?_)
      | with_reducible refine Fr.ite ?_ ?_
      | with_reducible refine Fr.cond ?_ ?_
      | with_reducible assumption
      | (refine Fr.of_snd (by assumption) ?_)
      | (refine Fr.of_fst (by assumption) ?_)
      | split
      | (unfold v; split)
      | (unfold v; clear_value *; split)
      | (clear_value *; split)

theorem execPortRetake_fr {s t_ : State} {id : FlashId} (e_ : execPortRetake id s = .next t_) : Fr 0x1b0000000000000000000000000000000000000000000000000000000000088000000 s t_ := by
  unfold execPortRetake at e_
  obtain rfl := Host.Outcome.next.inj e_
  clear e_
  have h0 := Fr.refl 0x1b0000000000000000000000000000000000000000000000000000000000088000000 s
  repeat' first
      | ((try lift_lets); intro v; refine_lift have hv : Fr 0x1b0000000000000000000000000000000000000000000000000000000000088000000 s v := ?_; ?_; clear_value v)
      | ((try lift_lets); intro v)
      | with_reducible refine State.iceRetake_fr ?_
      | with_reducible refine Fr.running ?_ (fun t ht => ?_)
      | with_reducible refine Fr.ite ?_ ?_
      | with_reducible refine Fr.cond ?_ ?_
      | with_reducible assumption
      | (refine Fr.of_snd (by assumption) ?_)
      | (refine Fr.of_fst (by assumption) ?_)
      | split
      | (unfold v; split)
      | (unfold v; clear_value *; split)
      | (clear_value *; split)

theorem execInv_fr {s t_ : State}  (e_ : execInv s = .next t_) : Fr 0x8000000 s t_ := by
  unfold execInv at e_
  obtain rfl := Host.Outcome.next.inj e_
  clear e_
  have h0 := Fr.refl 0x8000000 s
  repeat' first
      | ((try lift_lets); intro v; refine_lift have hv : Fr 0x8000000 s v := ?_; ?_; clear_value v)
      | ((try lift_lets); intro v)
      | with_reducible refine State.iceInv_fr ?_
      | with_reducible refine Fr.running ?_ (fun t ht => ?_)
      | with_reducible refine Fr.ite ?_ ?_
      | with_reducible refine Fr.cond ?_ ?_
      | with_reducible assumption
      | (refine Fr.of_snd (by assumption) ?_)
      | (refine Fr.of_fst (by assumption) ?_)
      | split
      | (unfold v; split)
      | (unfold v; clear_value *; split)
      | (clear_value *; split)

theorem execIceCntClr_fr {s t_ : State}  (e_ : execIceCntClr s = .next t_) : Fr 0x400000000000000000000000000000000000000000000000000000000000000000000 s t_ := by
  unfold execIceCntClr at e_
  obtain rfl := Host.Outcome.next.inj e_
  clear e_
  have h0 := Fr.refl 0x400000000000000000000000000000000000000000000000000000000000000000000 s
  repeat' first
      | ((try lift_lets); intro v; refine_lift have hv : Fr 0x400000000000000000000000000000000000000000000000000000000000000000000 s v := ?_; ?_; clear_value v)
      | ((try lift_lets); intro v)
      | with_reducible refine State.wr_fr ?_
      | with_reducible refine Fr.running ?_ (fun t ht => ?_)
      | with_reducible refine Fr.ite ?_ ?_
      | with_reducible refine Fr.cond ?_ ?_
      | with_reducible assumption
      | (refine Fr.of_snd (by assumption) ?_)
      | (refine Fr.of_fst (by assumption) ?_)
      | split
      | (unfold v; split)
      | (unfold v; clear_value *; split)
      | (clear_value *; split)

theorem State.freeFlash_fr {κ : Nat} {s0 s : State}  (hf_ : Fr κ s0 s) (hk_ : 0x80000000 &&& κ = 0x80000000 := by decide) :
    Fr κ s0 (State.freeFlash s).2 := by
  refine Fr.lift hf_ hk_ ?_
  clear hf_ hk_
  unfold State.freeFlash
  have h0 := Fr.refl 0x80000000 s
  repeat' first
      | ((try lift_lets); intro v; refine_lift have hv : Fr 0x80000000 s v := ?_; ?_; clear_value v)
      | ((try lift_lets); intro v)
      | with_reducible refine State.freshNat_fr ?_
      | with_reducible refine Fr.ite ?_ ?_
      | with_reducible refine Fr.cond ?_ ?_
      | with_reducible assumption
      | (refine Fr.of_snd (by assumption) ?_)
      | (refine Fr.of_fst (by assumption) ?_)
      | split
      | (unfold v; split)
      | (unfold v; clear_value *; split)
      | (clear_value *; split)

theorem State.iceCtrlWrite_fr {κ : Nat} {s0 s : State} {w : Word} (hf_ : Fr κ s0 s) (hk_ : 0xc3c037b0008004bc1c000460000000002040000000000000000000000000624000aa07f420 &&& κ = 0xc3c037b0008004bc1c000460000000002040000000000000000000000000624000aa07f420 := by decide) :
    Fr κ s0 (State.iceCtrlWrite s w) := by
  refine Fr.lift hf_ hk_ ?_
  clear hf_ hk_
  unfold State.iceCtrlWrite
  have h0 := Fr.refl 0xc3c037b0008004bc1c000460000000002040000000000000000000000000624000aa07f420 s
  repeat' first
      | ((try lift_lets); intro v; refine_lift have hv : Fr 0xc3c037b0008004bc1c000460000000002040000000000000000000000000624000aa07f420 s v := ?_; ?_; clear_value v)
      | ((try lift_lets); intro v)
      | with_reducible refine State.freeFlash_fr ?_
      | with_reducible refine State.iceInv_fr ?_
      | with_reducible refine State.iceRelease_fr ?_
      | with_reducible refine State.iceRetake_fr ?_
      | with_reducible refine State.wr_fr ?_
      | with_reducible refine Fr.onlyIf ?_ (fun t ht => ?_)
      | with_reducible refine Fr.ite ?_ ?_
      | with_reducible refine Fr.cond ?_ ?_
      | with_reducible assumption
      | (refine Fr.of_snd (by assumption) ?_)
      | (refine Fr.of_fst (by assumption) ?_)
      | split
      | (unfold v; split)
      | (unfold v; clear_value *; split)
      | (clear_value *; split)

end Sys2Proof.Machine
end

