-- ==== Sys2Proof/Laws/FrameSelfTest.lean ====
section
/-! SUPPORT. Frames of the operations of Machine/SelfTest.lean: one lemma each (Laws/Frame.lean). -/

namespace Sys2Proof.Machine

set_option Elab.async false

theorem State.testGates_fr {κ : Nat} {s0 s : State} {k : Nat} (hf_ : Fr κ s0 s) (hk_ : 0x1800000000000000000000000000000000000000000000000000060000 &&& κ = 0x1800000000000000000000000000000000000000000000000000060000 := by decide) :
    Fr κ s0 (State.testGates s k) := by
  refine Fr.lift hf_ hk_ ?_
  clear hf_ hk_
  unfold State.testGates
  have h0 := Fr.refl 0x1800000000000000000000000000000000000000000000000000060000 s
  repeat' first
      | ((try lift_lets); intro v; refine_lift have hv : Fr 0x1800000000000000000000000000000000000000000000000000060000 s v := ?_; ?_; clear_value v)
      | ((try lift_lets); intro v)
      | with_reducible refine State.settle_fr ?_
      | with_reducible refine Fr.ite ?_ ?_
      | with_reducible refine Fr.cond ?_ ?_
      | with_reducible assumption
      | with_reducible exact Fr.id_ (by with_reducible assumption)
      | (refine Fr.of_snd (by assumption) ?_)
      | (refine Fr.of_fst (by assumption) ?_)
      | split
      | (unfold v; split)
      | (unfold v; clear_value *; split)
      | (clear_value *; split)

theorem State.testAsk_fr {κ : Nat} {s0 s : State} {o : TestOut} (hf_ : Fr κ s0 s) (hk_ : 0x82c01000000000800000004000000000000000000000000000000000000002400062018400 &&& κ = 0x82c01000000000800000004000000000000000000000000000000000000002400062018400 := by decide) :
    Fr κ s0 (State.testAsk s o) := by
  refine Fr.lift hf_ hk_ ?_
  clear hf_ hk_
  unfold State.testAsk
  have h0 := Fr.refl 0x82c01000000000800000004000000000000000000000000000000000000002400062018400 s
  repeat' first
      | ((try lift_lets); intro v; refine_lift have hv : Fr 0x82c01000000000800000004000000000000000000000000000000000000002400062018400 s v := ?_; ?_; clear_value v)
      | ((try lift_lets); intro v)
      | with_reducible refine State.testGates_fr ?_
      | with_reducible refine State.event_fr ?_
      | with_reducible refine State.modStc_fr ?_
      | with_reducible refine State.note_fr ?_
      | with_reducible refine State.set_fr ?_
      | with_reducible refine Fr.ite ?_ ?_
      | with_reducible refine Fr.cond ?_ ?_
      | with_reducible assumption
      | (refine Fr.of_snd (by assumption) ?_)
      | (refine Fr.of_fst (by assumption) ?_)
      | split
      | (unfold v; split)
      | (unfold v; clear_value *; split)
      | (clear_value *; split)

theorem State.sarAsk_fr {κ : Nat} {s0 s : State} {v1 : ℕ} {g1 : ℕ} {v2 : ℕ} {g2 : ℕ} (hf_ : Fr κ s0 s) (hk_ : 0x82c01000000000800000004000000000000000000000000000000000000002400062018400 &&& κ = 0x82c01000000000800000004000000000000000000000000000000000000002400062018400 := by decide) :
    Fr κ s0 (State.sarAsk s v1 g1 v2 g2) := by
  refine Fr.lift hf_ hk_ ?_
  clear hf_ hk_
  unfold State.sarAsk
  have h0 := Fr.refl 0x82c01000000000800000004000000000000000000000000000000000000002400062018400 s
  repeat' first
      | ((try lift_lets); intro v; refine_lift have hv : Fr 0x82c01000000000800000004000000000000000000000000000000000000002400062018400 s v := ?_; ?_; clear_value v)
      | ((try lift_lets); intro v)
      | with_reducible refine State.testAsk_fr ?_
      | with_reducible refine Fr.ite ?_ ?_
      | with_reducible refine Fr.cond ?_ ?_
      | with_reducible assumption
      | (refine Fr.of_snd (by assumption) ?_)
      | (refine Fr.of_fst (by assumption) ?_)
      | split
      | (unfold v; split)
      | (unfold v; clear_value *; split)
      | (clear_value *; split)

theorem execSarCheck_fr {s t_ : State} {v1 : ℕ} {g1 : ℕ} {v2 : ℕ} {g2 : ℕ} (e_ : execSarCheck v1 g1 v2 g2 s = .next t_) : Fr 0x82c01000000000800000004000000000000000000000000000000000000002400062018400 s t_ := by
  unfold execSarCheck at e_
  obtain rfl := Host.Outcome.next.inj e_
  clear e_
  have h0 := Fr.refl 0x82c01000000000800000004000000000000000000000000000000000000002400062018400 s
  repeat' first
      | ((try lift_lets); intro v; refine_lift have hv : Fr 0x82c01000000000800000004000000000000000000000000000000000000002400062018400 s v := ?_; ?_; clear_value v)
      | ((try lift_lets); intro v)
      | with_reducible refine State.sarAsk_fr ?_
      | with_reducible refine Fr.running ?_ (fun t ht => ?_)
      | with_reducible refine Fr.ite ?_ ?_
      | with_reducible refine Fr.cond ?_ ?_
      | with_reducible assumption
      | (refine Fr.of_snd (by assumption) ?_)
      | (refine Fr.of_fst (by assumption) ?_)
      | split
      | (unfold v; split)
      | (unfold v; clear_value *; split)
      | (clear_value *; split)

theorem State.scrubWords_fr {κ : Nat} {s0 s : State}  (hf_ : Fr κ s0 s) (hk_ : 0xc3c03000008004bc1c0004600000000020400000000000000000000000001a4180aa07f5e0 &&& κ = 0xc3c03000008004bc1c0004600000000020400000000000000000000000001a4180aa07f5e0 := by decide) :
    Fr κ s0 (State.scrubWords s) := by
  refine Fr.lift hf_ hk_ ?_
  clear hf_ hk_
  unfold State.scrubWords
  have h0 := Fr.refl 0xc3c03000008004bc1c0004600000000020400000000000000000000000001a4180aa07f5e0 s
  repeat' first
      | ((try lift_lets); intro v; refine_lift have hv : Fr 0xc3c03000008004bc1c0004600000000020400000000000000000000000001a4180aa07f5e0 s v := ?_; ?_; clear_value v)
      | ((try lift_lets); intro v)
      | with_reducible refine State.checkWord32_fr ?_
      | with_reducible refine Fr.forEach ?_ (fun t a ht => ?_)
      | with_reducible refine Fr.ite ?_ ?_
      | with_reducible refine Fr.cond ?_ ?_
      | with_reducible assumption
      | (refine Fr.of_snd (by assumption) ?_)
      | (refine Fr.of_fst (by assumption) ?_)
      | split
      | (unfold v; split)
      | (unfold v; clear_value *; split)
      | (clear_value *; split)

theorem State.scrubAsk_fr {κ : Nat} {s0 s : State} {upsets : List (ℕ × Bool)} (hf_ : Fr κ s0 s) (hk_ : 0xc3c03000008004bc1c0004600000000020400000000000000000000000001a4180ea07f5e0 &&& κ = 0xc3c03000008004bc1c0004600000000020400000000000000000000000001a4180ea07f5e0 := by decide) :
    Fr κ s0 (State.scrubAsk s upsets) := by
  refine Fr.lift hf_ hk_ ?_
  clear hf_ hk_
  unfold State.scrubAsk
  have h0 := Fr.refl 0xc3c03000008004bc1c0004600000000020400000000000000000000000001a4180ea07f5e0 s
  repeat' first
      | ((try lift_lets); intro v; refine_lift have hv : Fr 0xc3c03000008004bc1c0004600000000020400000000000000000000000001a4180ea07f5e0 s v := ?_; ?_; clear_value v)
      | ((try lift_lets); intro v)
      | with_reducible refine State.scrubWords_fr ?_
      | with_reducible refine State.set_fr ?_
      | with_reducible refine State.testAsk_fr ?_
      | with_reducible refine State.upsets_fr ?_
      | with_reducible refine Fr.ite ?_ ?_
      | with_reducible refine Fr.cond ?_ ?_
      | with_reducible assumption
      | (refine Fr.of_snd (by assumption) ?_)
      | (refine Fr.of_fst (by assumption) ?_)
      | split
      | (unfold v; split)
      | (unfold v; clear_value *; split)
      | (clear_value *; split)

theorem execScrub_fr {s t_ : State} {upsets : List (ℕ × Bool)} (e_ : execScrub upsets s = .next t_) : Fr 0xc3c03000008004bc1c0004600000000020400000000000000000000000001a4180ea07f5e0 s t_ := by
  unfold execScrub at e_
  obtain rfl := Host.Outcome.next.inj e_
  clear e_
  have h0 := Fr.refl 0xc3c03000008004bc1c0004600000000020400000000000000000000000001a4180ea07f5e0 s
  repeat' first
      | ((try lift_lets); intro v; refine_lift have hv : Fr 0xc3c03000008004bc1c0004600000000020400000000000000000000000001a4180ea07f5e0 s v := ?_; ?_; clear_value v)
      | ((try lift_lets); intro v)
      | with_reducible refine State.scrubAsk_fr ?_
      | with_reducible refine Fr.running ?_ (fun t ht => ?_)
      | with_reducible refine Fr.ite ?_ ?_
      | with_reducible refine Fr.cond ?_ ?_
      | with_reducible assumption
      | (refine Fr.of_snd (by assumption) ?_)
      | (refine Fr.of_fst (by assumption) ?_)
      | split
      | (unfold v; split)
      | (unfold v; clear_value *; split)
      | (clear_value *; split)

theorem execBackgroundTestRepeat_fr {s t_ : State} {k : ℕ} {ms : ℕ} {v1 : ℕ} {g1 : ℕ} {v2 : ℕ} {g2 : ℕ} {upsets : List (ℕ × Bool)} (e_ : execBackgroundTestRepeat k ms v1 g1 v2 g2 upsets s = .next t_) : Fr 0xc3c03000008004bc1c0004600000000020400000000000000000000000001a4180ea07f5e0 s t_ := by
  unfold execBackgroundTestRepeat at e_
  obtain rfl := Host.Outcome.next.inj e_
  clear e_
  have h0 := Fr.refl 0xc3c03000008004bc1c0004600000000020400000000000000000000000001a4180ea07f5e0 s
  repeat' first
      | ((try lift_lets); intro v; refine_lift have hv : Fr 0xc3c03000008004bc1c0004600000000020400000000000000000000000001a4180ea07f5e0 s v := ?_; ?_; clear_value v)
      | ((try lift_lets); intro v)
      | with_reducible refine State.sarAsk_fr ?_
      | with_reducible refine State.scrubAsk_fr ?_
      | with_reducible refine Fr.running ?_ (fun t ht => ?_)
      | with_reducible refine Fr.ite ?_ ?_
      | with_reducible refine Fr.cond ?_ ?_
      | with_reducible assumption
      | (refine Fr.of_snd (by assumption) ?_)
      | (refine Fr.of_fst (by assumption) ?_)
      | split
      | (unfold v; split)
      | (unfold v; clear_value *; split)
      | (clear_value *; split)

theorem State.dsPathAsk_fr {κ : Nat} {s0 s : State} {x : Axis} {ds : List PathCheck} {mon : List PathCheck} (hf_ : Fr κ s0 s) (hk_ : 0x82c01000000000800000004000000000000000000000000000000000000002400062018400 &&& κ = 0x82c01000000000800000004000000000000000000000000000000000000002400062018400 := by decide) :
    Fr κ s0 (State.dsPathAsk s x ds mon) := by
  refine Fr.lift hf_ hk_ ?_
  clear hf_ hk_
  unfold State.dsPathAsk
  have h0 := Fr.refl 0x82c01000000000800000004000000000000000000000000000000000000002400062018400 s
  repeat' first
      | ((try lift_lets); intro v; refine_lift have hv : Fr 0x82c01000000000800000004000000000000000000000000000000000000002400062018400 s v := ?_; ?_; clear_value v)
      | ((try lift_lets); intro v)
      | with_reducible refine State.testAsk_fr ?_
      | with_reducible refine Fr.ite ?_ ?_
      | with_reducible refine Fr.cond ?_ ?_
      | with_reducible assumption
      | with_reducible exact Fr.id_ (by with_reducible assumption)
      | (refine Fr.of_snd (by assumption) ?_)
      | (refine Fr.of_fst (by assumption) ?_)
      | split
      | (unfold v; split)
      | (unfold v; clear_value *; split)
      | (clear_value *; split)

theorem execDsPath_fr {s t_ : State} {x : Axis} {ds : List PathCheck} {mon : List PathCheck} (e_ : execDsPath x ds mon s = .next t_) : Fr 0x82c01000000000800000004000000000000000000000000000000000000002400062018400 s t_ := by
  unfold execDsPath at e_
  obtain rfl := Host.Outcome.next.inj e_
  clear e_
  have h0 := Fr.refl 0x82c01000000000800000004000000000000000000000000000000000000002400062018400 s
  repeat' first
      | ((try lift_lets); intro v; refine_lift have hv : Fr 0x82c01000000000800000004000000000000000000000000000000000000002400062018400 s v := ?_; ?_; clear_value v)
      | ((try lift_lets); intro v)
      | with_reducible refine State.dsPathAsk_fr ?_
      | with_reducible refine Fr.running ?_ (fun t ht => ?_)
      | with_reducible refine Fr.ite ?_ ?_
      | with_reducible refine Fr.cond ?_ ?_
      | with_reducible assumption
      | (refine Fr.of_snd (by assumption) ?_)
      | (refine Fr.of_fst (by assumption) ?_)
      | split
      | (unfold v; split)
      | (unfold v; clear_value *; split)
      | (clear_value *; split)

theorem State.sdLoopAsk_fr {κ : Nat} {s0 s : State} {x : Axis} {pat : List FilterCheck} {land : List (List Bool)} (hf_ : Fr κ s0 s) (hk_ : 0x82c01000000000800000004000000000000000000000000000000000000002400062018400 &&& κ = 0x82c01000000000800000004000000000000000000000000000000000000002400062018400 := by decide) :
    Fr κ s0 (State.sdLoopAsk s x pat land) := by
  refine Fr.lift hf_ hk_ ?_
  clear hf_ hk_
  unfold State.sdLoopAsk
  have h0 := Fr.refl 0x82c01000000000800000004000000000000000000000000000000000000002400062018400 s
  repeat' first
      | ((try lift_lets); intro v; refine_lift have hv : Fr 0x82c01000000000800000004000000000000000000000000000000000000002400062018400 s v := ?_; ?_; clear_value v)
      | ((try lift_lets); intro v)
      | with_reducible refine State.testAsk_fr ?_
      | with_reducible refine Fr.ite ?_ ?_
      | with_reducible refine Fr.cond ?_ ?_
      | with_reducible assumption
      | with_reducible exact Fr.id_ (by with_reducible assumption)
      | (refine Fr.of_snd (by assumption) ?_)
      | (refine Fr.of_fst (by assumption) ?_)
      | split
      | (unfold v; split)
      | (unfold v; clear_value *; split)
      | (clear_value *; split)

theorem execSdLoop_fr {s t_ : State} {x : Axis} {pat : List FilterCheck} {land : List (List Bool)} (e_ : execSdLoop x pat land s = .next t_) : Fr 0x82c01000000000800000004000000000000000000000000000000000000002400062018400 s t_ := by
  unfold execSdLoop at e_
  obtain rfl := Host.Outcome.next.inj e_
  clear e_
  have h0 := Fr.refl 0x82c01000000000800000004000000000000000000000000000000000000002400062018400 s
  repeat' first
      | ((try lift_lets); intro v; refine_lift have hv : Fr 0x82c01000000000800000004000000000000000000000000000000000000002400062018400 s v := ?_; ?_; clear_value v)
      | ((try lift_lets); intro v)
      | with_reducible refine State.sdLoopAsk_fr ?_
      | with_reducible refine Fr.running ?_ (fun t ht => ?_)
      | with_reducible refine Fr.ite ?_ ?_
      | with_reducible refine Fr.cond ?_ ?_
      | with_reducible assumption
      | (refine Fr.of_snd (by assumption) ?_)
      | (refine Fr.of_fst (by assumption) ?_)
      | split
      | (unfold v; split)
      | (unfold v; clear_value *; split)
      | (clear_value *; split)

theorem State.ofsCalAsk_fr {κ : Nat} {s0 s : State} {agnd1 : ℕ} {vref1 : ℕ} {agnd2 : ℕ} {vref2 : ℕ} {sumsA : List ℤ} {sumsB : List ℤ} (hf_ : Fr κ s0 s) (hk_ : 0x82c01000000000800000004000000000000000000000000000000000000002400062018400 &&& κ = 0x82c01000000000800000004000000000000000000000000000000000000002400062018400 := by decide) :
    Fr κ s0 (State.ofsCalAsk s agnd1 vref1 agnd2 vref2 sumsA sumsB) := by
  refine Fr.lift hf_ hk_ ?_
  clear hf_ hk_
  unfold State.ofsCalAsk
  have h0 := Fr.refl 0x82c01000000000800000004000000000000000000000000000000000000002400062018400 s
  repeat' first
      | ((try lift_lets); intro v; refine_lift have hv : Fr 0x82c01000000000800000004000000000000000000000000000000000000002400062018400 s v := ?_; ?_; clear_value v)
      | ((try lift_lets); intro v)
      | with_reducible refine State.testAsk_fr ?_
      | with_reducible refine Fr.ite ?_ ?_
      | with_reducible refine Fr.cond ?_ ?_
      | with_reducible assumption
      | (refine Fr.of_snd (by assumption) ?_)
      | (refine Fr.of_fst (by assumption) ?_)
      | split
      | (unfold v; split)
      | (unfold v; clear_value *; split)
      | (clear_value *; split)

theorem execOfsCal_fr {s t_ : State} {agnd1 : ℕ} {vref1 : ℕ} {agnd2 : ℕ} {vref2 : ℕ} {sumsA : List ℤ} {sumsB : List ℤ} (e_ : execOfsCal agnd1 vref1 agnd2 vref2 sumsA sumsB s = .next t_) : Fr 0x82c01000000000800000004000000000000000000000000000000000000002400062018400 s t_ := by
  unfold execOfsCal at e_
  obtain rfl := Host.Outcome.next.inj e_
  clear e_
  have h0 := Fr.refl 0x82c01000000000800000004000000000000000000000000000000000000002400062018400 s
  repeat' first
      | ((try lift_lets); intro v; refine_lift have hv : Fr 0x82c01000000000800000004000000000000000000000000000000000000002400062018400 s v := ?_; ?_; clear_value v)
      | ((try lift_lets); intro v)
      | with_reducible refine State.ofsCalAsk_fr ?_
      | with_reducible refine Fr.running ?_ (fun t ht => ?_)
      | with_reducible refine Fr.ite ?_ ?_
      | with_reducible refine Fr.cond ?_ ?_
      | with_reducible assumption
      | (refine Fr.of_snd (by assumption) ?_)
      | (refine Fr.of_fst (by assumption) ?_)
      | split
      | (unfold v; split)
      | (unfold v; clear_value *; split)
      | (clear_value *; split)

theorem State.ofsAxisAsk_fr {κ : Nat} {s0 s : State} {x : Axis} {sums : List ℤ} (hf_ : Fr κ s0 s) (hk_ : 0x82c01000000000800000004000000000000000000000000000000000000002400062018400 &&& κ = 0x82c01000000000800000004000000000000000000000000000000000000002400062018400 := by decide) :
    Fr κ s0 (State.ofsAxisAsk s x sums) := by
  refine Fr.lift hf_ hk_ ?_
  clear hf_ hk_
  unfold State.ofsAxisAsk
  have h0 := Fr.refl 0x82c01000000000800000004000000000000000000000000000000000000002400062018400 s
  repeat' first
      | ((try lift_lets); intro v; refine_lift have hv : Fr 0x82c01000000000800000004000000000000000000000000000000000000002400062018400 s v := ?_; ?_; clear_value v)
      | ((try lift_lets); intro v)
      | with_reducible refine State.testAsk_fr ?_
      | with_reducible refine Fr.ite ?_ ?_
      | with_reducible refine Fr.cond ?_ ?_
      | with_reducible assumption
      | (refine Fr.of_snd (by assumption) ?_)
      | (refine Fr.of_fst (by assumption) ?_)
      | split
      | (unfold v; split)
      | (unfold v; clear_value *; split)
      | (clear_value *; split)

theorem execOfsAxis_fr {s t_ : State} {x : Axis} {sums : List ℤ} (e_ : execOfsAxis x sums s = .next t_) : Fr 0x82c01000000000800000004000000000000000000000000000000000000002400062018400 s t_ := by
  unfold execOfsAxis at e_
  obtain rfl := Host.Outcome.next.inj e_
  clear e_
  have h0 := Fr.refl 0x82c01000000000800000004000000000000000000000000000000000000002400062018400 s
  repeat' first
      | ((try lift_lets); intro v; refine_lift have hv : Fr 0x82c01000000000800000004000000000000000000000000000000000000002400062018400 s v := ?_; ?_; clear_value v)
      | ((try lift_lets); intro v)
      | with_reducible refine State.ofsAxisAsk_fr ?_
      | with_reducible refine Fr.running ?_ (fun t ht => ?_)
      | with_reducible refine Fr.ite ?_ ?_
      | with_reducible refine Fr.cond ?_ ?_
      | with_reducible assumption
      | (refine Fr.of_snd (by assumption) ?_)
      | (refine Fr.of_fst (by assumption) ?_)
      | split
      | (unfold v; split)
      | (unfold v; clear_value *; split)
      | (clear_value *; split)

theorem State.trimAsk_fr {κ : Nat} {s0 s : State} {x : Axis} {srcN : ℕ} {srcD : ℕ} {snkN : ℕ} {snkD : ℕ} (hf_ : Fr κ s0 s) (hk_ : 0x82c01000000000801800004000000000000000000000000000000000000002400062078400 &&& κ = 0x82c01000000000801800004000000000000000000000000000000000000002400062078400 := by decide) :
    Fr κ s0 (State.trimAsk s x srcN srcD snkN snkD) := by
  refine Fr.lift hf_ hk_ ?_
  clear hf_ hk_
  unfold State.trimAsk
  have h0 := Fr.refl 0x82c01000000000801800004000000000000000000000000000000000000002400062078400 s
  repeat' first
      | ((try lift_lets); intro v; refine_lift have hv : Fr 0x82c01000000000801800004000000000000000000000000000000000000002400062078400 s v := ?_; ?_; clear_value v)
      | ((try lift_lets); intro v)
      | with_reducible refine State.testGates_fr ?_
      | with_reducible refine State.testAsk_fr ?_
      | with_reducible refine Fr.ite ?_ ?_
      | with_reducible refine Fr.cond ?_ ?_
      | with_reducible assumption
      | (refine Fr.of_snd (by assumption) ?_)
      | (refine Fr.of_fst (by assumption) ?_)
      | split
      | (unfold v; split)
      | (unfold v; clear_value *; split)
      | (clear_value *; split)

theorem execTrim_fr {s t_ : State} {x : Axis} {srcN : ℕ} {srcD : ℕ} {snkN : ℕ} {snkD : ℕ} (e_ : execTrim x srcN srcD snkN snkD s = .next t_) : Fr 0x82c01000000000801800004000000000000000000000000000000000000002400062078400 s t_ := by
  unfold execTrim at e_
  obtain rfl := Host.Outcome.next.inj e_
  clear e_
  have h0 := Fr.refl 0x82c01000000000801800004000000000000000000000000000000000000002400062078400 s
  repeat' first
      | ((try lift_lets); intro v; refine_lift have hv : Fr 0x82c01000000000801800004000000000000000000000000000000000000002400062078400 s v := ?_; ?_; clear_value v)
      | ((try lift_lets); intro v)
      | with_reducible refine State.trimAsk_fr ?_
      | with_reducible refine Fr.running ?_ (fun t ht => ?_)
      | with_reducible refine Fr.ite ?_ ?_
      | with_reducible refine Fr.cond ?_ ?_
      | with_reducible assumption
      | (refine Fr.of_snd (by assumption) ?_)
      | (refine Fr.of_fst (by assumption) ?_)
      | split
      | (unfold v; split)
      | (unfold v; clear_value *; split)
      | (clear_value *; split)

theorem State.testStart_fr {κ : Nat} {s0 s : State} (hf_ : Fr κ s0 s) (hk_ : 0x80000000000000001800000000000000000000000000000000000000000000000000060000 &&& κ = 0x80000000000000001800000000000000000000000000000000000000000000000000060000 := by decide) :
    Fr κ s0 (State.testStart s) := by
  refine Fr.lift hf_ hk_ ?_
  clear hf_ hk_
  unfold State.testStart
  have h0 := Fr.refl 0x80000000000000001800000000000000000000000000000000000000000000000000060000 s
  repeat' first
      | ((try lift_lets); intro v; refine_lift have hv : Fr 0x80000000000000001800000000000000000000000000000000000000000000000000060000 s v := ?_; ?_; clear_value v)
      | ((try lift_lets); intro v)
      | with_reducible refine State.set_fr ?_
      | with_reducible refine State.testGates_fr ?_
      | with_reducible refine Fr.ite ?_ ?_
      | with_reducible refine Fr.cond ?_ ?_
      | with_reducible assumption
      | with_reducible exact Fr.id_ (by with_reducible assumption)
      | (refine Fr.of_snd (by assumption) ?_)
      | (refine Fr.of_fst (by assumption) ?_)
      | split
      | (unfold v; split)
      | (unfold v; clear_value *; split)
      | (clear_value *; split)

theorem execQueuedTestStart_fr {s t_ : State} {k : ℕ} (e_ : execQueuedTestStart k s = .next t_) : Fr 0x80000000000000001800000000000000000000000000000000000000000000000000060000 s t_ := by
  unfold execQueuedTestStart at e_
  obtain rfl := Host.Outcome.next.inj e_
  clear e_
  have h0 := Fr.refl 0x80000000000000001800000000000000000000000000000000000000000000000000060000 s
  repeat' first
      | ((try lift_lets); intro v; refine_lift have hv : Fr 0x80000000000000001800000000000000000000000000000000000000000000000000060000 s v := ?_; ?_; clear_value v)
      | ((try lift_lets); intro v)
      | with_reducible refine State.testStart_fr ?_
      | with_reducible refine State.testNext_fr ?_
      | with_reducible refine Fr.running ?_ (fun t ht => ?_)
      | with_reducible refine Fr.ite ?_ ?_
      | with_reducible refine Fr.cond ?_ ?_
      | with_reducible assumption
      | (refine Fr.of_snd (by assumption) ?_)
      | (refine Fr.of_fst (by assumption) ?_)
      | split
      | (unfold v; split)
      | (unfold v; clear_value *; split)
      | (clear_value *; split)

theorem State.testFailed_fr {κ : Nat} {s0 s : State} {k : ℕ} {result : ℕ} (hf_ : Fr κ s0 s) (hk_ : 0xc2c01000008004bc1c0004400000000020400000000000000000000000000240002207f420 &&& κ = 0xc2c01000008004bc1c0004400000000020400000000000000000000000000240002207f420 := by decide) :
    Fr κ s0 (State.testFailed s k result) := by
  refine Fr.lift hf_ hk_ ?_
  clear hf_ hk_
  unfold State.testFailed
  have h0 := Fr.refl 0xc2c01000008004bc1c0004400000000020400000000000000000000000000240002207f420 s
  repeat' first
      | ((try lift_lets); intro v; refine_lift have hv : Fr 0xc2c01000008004bc1c0004400000000020400000000000000000000000000240002207f420 s v := ?_; ?_; clear_value v)
      | ((try lift_lets); intro v)
      | with_reducible refine State.axisFaultOn_fr ?_
      | with_reducible refine State.faultOn_fr ?_
      | with_reducible refine State.modStc_fr ?_
      | with_reducible refine Fr.forEach ?_ (fun t a ht => ?_)
      | with_reducible refine Fr.ite ?_ ?_
      | with_reducible refine Fr.cond ?_ ?_
      | with_reducible assumption
      | (refine Fr.of_snd (by assumption) ?_)
      | (refine Fr.of_fst (by assumption) ?_)
      | split
      | (unfold v; split)
      | (unfold v; clear_value *; split)
      | (clear_value *; split)

theorem State.testPassed_fr {κ : Nat} {s0 s : State} {k : ℕ} (hf_ : Fr κ s0 s) (hk_ : 0x100000000000000000000000000000000000000000000000000020000000 &&& κ = 0x100000000000000000000000000000000000000000000000000020000000 := by decide) :
    Fr κ s0 (State.testPassed s k) := by
  refine Fr.lift hf_ hk_ ?_
  clear hf_ hk_
  unfold State.testPassed
  have h0 := Fr.refl 0x100000000000000000000000000000000000000000000000000020000000 s
  repeat' first
      | ((try lift_lets); intro v; refine_lift have hv : Fr 0x100000000000000000000000000000000000000000000000000020000000 s v := ?_; ?_; clear_value v)
      | ((try lift_lets); intro v)
      | with_reducible refine State.modStc_fr ?_
      | with_reducible refine State.setCause_fr ?_
      | with_reducible refine Fr.forEach ?_ (fun t a ht => ?_)
      | with_reducible refine Fr.ite ?_ ?_
      | with_reducible refine Fr.cond ?_ ?_
      | with_reducible assumption
      | (refine Fr.of_snd (by assumption) ?_)
      | (refine Fr.of_fst (by assumption) ?_)
      | split
      | (unfold v; split)
      | (unfold v; clear_value *; split)
      | (clear_value *; split)

theorem State.calLive_fr {κ : Nat} {s0 s : State} {v : ℕ × Word} (hf_ : Fr κ s0 s) (hk_ : 0x200000000000000000200000 &&& κ = 0x200000000000000000200000 := by decide) :
    Fr κ s0 (State.calLive s v) := by
  refine Fr.lift hf_ hk_ ?_
  clear hf_ hk_
  unfold State.calLive
  have h0 := Fr.refl 0x200000000000000000200000 s
  repeat' first
      | ((try lift_lets); intro v; refine_lift have hv : Fr 0x200000000000000000200000 s v := ?_; ?_; clear_value v)
      | ((try lift_lets); intro v)
      | with_reducible refine State.calWrite_fr ?_
      | with_reducible refine Fr.ite ?_ ?_
      | with_reducible refine Fr.cond ?_ ?_
      | with_reducible assumption
      | (refine Fr.of_snd (by assumption) ?_)
      | (refine Fr.of_fst (by assumption) ?_)
      | split
      | (unfold v; split)
      | (unfold v; clear_value *; split)
      | (clear_value *; split)

theorem State.testWrite_fr {κ : Nat} {s0 s : State} {o : TestOut} (hf_ : Fr κ s0 s) (hk_ : 0x20000000000000000000000000000000000000000000000000200000000000000000200000 &&& κ = 0x20000000000000000000000000000000000000000000000000200000000000000000200000 := by decide) :
    Fr κ s0 (State.testWrite s o) := by
  refine Fr.lift hf_ hk_ ?_
  clear hf_ hk_
  unfold State.testWrite
  have h0 := Fr.refl 0x20000000000000000000000000000000000000000000000000200000000000000000200000 s
  repeat' first
      | ((try lift_lets); intro v; refine_lift have hv : Fr 0x20000000000000000000000000000000000000000000000000200000000000000000200000 s v := ?_; ?_; clear_value v)
      | ((try lift_lets); intro v)
      | with_reducible refine State.calLive_fr ?_
      | with_reducible refine State.setI_fr ?_
      | with_reducible refine Fr.forEachFld ?_ (fun t f hf ht => ?_)
      | with_reducible refine Fr.forEach ?_ (fun t a ht => ?_)
      | with_reducible refine Fr.ite ?_ ?_
      | with_reducible refine Fr.cond ?_ ?_
      | with_reducible assumption
      | (refine Fr.of_snd (by assumption) ?_)
      | (refine Fr.of_fst (by assumption) ?_)
      | split
      | (unfold v; split)
      | (unfold v; clear_value *; split)
      | (clear_value *; split)

theorem State.sarResult_fr {κ : Nat} {s0 s : State} {o : TestOut} (hf_ : Fr κ s0 s) (hk_ : 0x20000000 &&& κ = 0x20000000 := by decide) :
    Fr κ s0 (State.sarResult s o).2 := by
  refine Fr.lift hf_ hk_ ?_
  clear hf_ hk_
  unfold State.sarResult
  have h0 := Fr.refl 0x20000000 s
  repeat' first
      | ((try lift_lets); intro v; refine_lift have hv : Fr 0x20000000 s v := ?_; ?_; clear_value v)
      | ((try lift_lets); intro v)
      | with_reducible refine State.modStc_fr ?_
      | with_reducible refine Fr.ite ?_ ?_
      | with_reducible refine Fr.cond ?_ ?_
      | with_reducible assumption
      | (refine Fr.of_snd (by assumption) ?_)
      | (refine Fr.of_fst (by assumption) ?_)
      | split
      | (unfold v; split)
      | (unfold v; clear_value *; split)
      | (clear_value *; split)

theorem execTestDone_fr {s t_ : State} {k : ℕ} (e_ : execTestDone k s = .next t_) : Fr 0xe2c01000008004bc1c0004400000000020400000000000000020000000000240002227f420 s t_ := by
  unfold execTestDone at e_
  obtain rfl := Host.Outcome.next.inj e_
  clear e_
  have h0 := Fr.refl 0xe2c01000008004bc1c0004400000000020400000000000000020000000000240002227f420 s
  repeat' first
      | ((try lift_lets); intro v; refine_lift have hv : Fr 0xe2c01000008004bc1c0004400000000020400000000000000020000000000240002227f420 s v := ?_; ?_; clear_value v)
      | ((try lift_lets); intro v)
      | with_reducible refine State.testGates_fr ?_
      | with_reducible refine State.event_fr ?_
      | with_reducible refine State.fault_fr ?_
      | with_reducible refine State.inc_fr ?_
      | with_reducible refine State.sarResult_fr ?_
      | with_reducible refine State.testEnd_fr ?_
      | with_reducible refine State.testFailed_fr ?_
      | with_reducible refine State.testPassed_fr ?_
      | with_reducible refine State.testWrite_fr ?_
      | with_reducible refine Fr.forEach ?_ (fun t a ht => ?_)
      | with_reducible refine Fr.running ?_ (fun t ht => ?_)
      | with_reducible refine Fr.ite ?_ ?_
      | with_reducible refine Fr.cond ?_ ?_
      | with_reducible assumption
      | (refine Fr.of_snd (by assumption) ?_)
      | (refine Fr.of_fst (by assumption) ?_)
      | split
      | (unfold v; split)
      | (unfold v; clear_value *; split)
      | (clear_value *; split)

theorem State.stcCancel_fr {κ : Nat} {s0 s : State} {w : Word} (hf_ : Fr κ s0 s) (hk_ : 0xc2c01000000000801800004000000000000000000000000000000000000002400022078400 &&& κ = 0xc2c01000000000801800004000000000000000000000000000000000000002400022078400 := by decide) :
    Fr κ s0 (State.stcCancel s w) := by
  refine Fr.lift hf_ hk_ ?_
  clear hf_ hk_
  unfold State.stcCancel
  have h0 := Fr.refl 0xc2c01000000000801800004000000000000000000000000000000000000002400022078400 s
  repeat' first
      | ((try lift_lets); intro v; refine_lift have hv : Fr 0xc2c01000000000801800004000000000000000000000000000000000000002400022078400 s v := ?_; ?_; clear_value v)
      | ((try lift_lets); intro v)
      | with_reducible refine State.testGates_fr ?_
      | with_reducible refine State.testEnd_fr ?_
      | with_reducible refine Fr.forEach ?_ (fun t a ht => ?_)
      | with_reducible refine Fr.ite ?_ ?_
      | with_reducible refine Fr.cond ?_ ?_
      | with_reducible assumption
      | (refine Fr.of_snd (by assumption) ?_)
      | (refine Fr.of_fst (by assumption) ?_)
      | split
      | (unfold v; split)
      | (unfold v; clear_value *; split)
      | (clear_value *; split)

theorem execStcCancel_fr {s t_ : State} {w : Word} (e_ : execStcCancel w s = .next t_) : Fr 0xc2c01000000000801800004000000000000000000000000000000000000002400022078400 s t_ := by
  unfold execStcCancel at e_
  obtain rfl := Host.Outcome.next.inj e_
  clear e_
  have h0 := Fr.refl 0xc2c01000000000801800004000000000000000000000000000000000000002400022078400 s
  repeat' first
      | ((try lift_lets); intro v; refine_lift have hv : Fr 0xc2c01000000000801800004000000000000000000000000000000000000002400022078400 s v := ?_; ?_; clear_value v)
      | ((try lift_lets); intro v)
      | with_reducible refine State.stcCancel_fr ?_
      | with_reducible refine Fr.running ?_ (fun t ht => ?_)
      | with_reducible refine Fr.ite ?_ ?_
      | with_reducible refine Fr.cond ?_ ?_
      | with_reducible assumption
      | (refine Fr.of_snd (by assumption) ?_)
      | (refine Fr.of_fst (by assumption) ?_)
      | split
      | (unfold v; split)
      | (unfold v; clear_value *; split)
      | (clear_value *; split)

theorem State.trimWrite_fr {κ : Nat} {s0 s : State} {x : Axis} {w : Word} (hf_ : Fr κ s0 s) (hk_ : 0x20000000000000000000000000000000000000000000000000000000000000000000000000 &&& κ = 0x20000000000000000000000000000000000000000000000000000000000000000000000000 := by decide) :
    Fr κ s0 (State.trimWrite s x w) := by
  refine Fr.lift hf_ hk_ ?_
  clear hf_ hk_
  unfold State.trimWrite
  have h0 := Fr.refl 0x20000000000000000000000000000000000000000000000000000000000000000000000000 s
  repeat' first
      | ((try lift_lets); intro v; refine_lift have hv : Fr 0x20000000000000000000000000000000000000000000000000000000000000000000000000 s v := ?_; ?_; clear_value v)
      | ((try lift_lets); intro v)
      | with_reducible refine State.set_fr ?_
      | with_reducible refine Fr.ite ?_ ?_
      | with_reducible refine Fr.cond ?_ ?_
      | with_reducible assumption
      | (refine Fr.of_snd (by assumption) ?_)
      | (refine Fr.of_fst (by assumption) ?_)
      | split
      | (unfold v; split)
      | (unfold v; clear_value *; split)
      | (clear_value *; split)

theorem execTrimWrite_fr {s t_ : State} {x : Axis} {w : Word} (e_ : execTrimWrite x w s = .next t_) : Fr 0x20000000000000000000000000000000000000000000000000000000000000000000000000 s t_ := by
  unfold execTrimWrite at e_
  obtain rfl := Host.Outcome.next.inj e_
  clear e_
  have h0 := Fr.refl 0x20000000000000000000000000000000000000000000000000000000000000000000000000 s
  repeat' first
      | ((try lift_lets); intro v; refine_lift have hv : Fr 0x20000000000000000000000000000000000000000000000000000000000000000000000000 s v := ?_; ?_; clear_value v)
      | ((try lift_lets); intro v)
      | with_reducible refine State.trimWrite_fr ?_
      | with_reducible refine Fr.running ?_ (fun t ht => ?_)
      | with_reducible refine Fr.ite ?_ ?_
      | with_reducible refine Fr.cond ?_ ?_
      | with_reducible assumption
      | (refine Fr.of_snd (by assumption) ?_)
      | (refine Fr.of_fst (by assumption) ?_)
      | split
      | (unfold v; split)
      | (unfold v; clear_value *; split)
      | (clear_value *; split)

theorem execCalWrite_fr {s t_ : State} {n : ℕ} {w : Word} (e_ : execCalWrite n w s = .next t_) : Fr 0x200000000000000000200000 s t_ := by
  unfold execCalWrite at e_
  obtain rfl := Host.Outcome.next.inj e_
  clear e_
  have h0 := Fr.refl 0x200000000000000000200000 s
  repeat' first
      | ((try lift_lets); intro v; refine_lift have hv : Fr 0x200000000000000000200000 s v := ?_; ?_; clear_value v)
      | ((try lift_lets); intro v)
      | with_reducible refine State.calWrite_fr ?_
      | with_reducible refine Fr.running ?_ (fun t ht => ?_)
      | with_reducible refine Fr.ite ?_ ?_
      | with_reducible refine Fr.cond ?_ ?_
      | with_reducible assumption
      | (refine Fr.of_snd (by assumption) ?_)
      | (refine Fr.of_fst (by assumption) ?_)
      | split
      | (unfold v; split)
      | (unfold v; clear_value *; split)
      | (clear_value *; split)

end Sys2Proof.Machine
end

