-- ==== Sys2Proof/Laws/FrameRegWrite.lean ====
section
/-! SUPPORT. Frames of the operations of Machine/RegWrite.lean: one lemma each (Laws/Frame.lean). -/

namespace Sys2Proof.Machine

set_option Elab.async false

theorem State.putMask_fr {m : Nat} {s0 s : State} {f : Nat} {v w : Word} (h : Fr m s0 s) (hk : m.testBit (32 + fam f) = true := by first | assumption | decide | (simp; done) | (simp; decide) | (simp +zetaDelta; decide) | (split <;> simp <;> decide) | exact all_fam (by decide)) :
    Fr m s0 (s.putMask f v w) := State.wr_fr h hk

theorem State.putMaskSh_fr {κ : Nat} {s0 s : State} {a : ℕ} {m : Word} {w : Word} (hf_ : Fr κ s0 s) (hk_ : 0x10 &&& κ = 0x10 := by decide) :
    Fr κ s0 (State.putMaskSh s a m w) := by
  refine Fr.lift hf_ hk_ ?_
  clear hf_ hk_
  unfold State.putMaskSh
  have h0 := Fr.refl 0x10 s
  repeat' first
      | ((try lift_lets); intro v; refine_lift have hv : Fr 0x10 s v := ?_; ?_; clear_value v)
      | ((try lift_lets); intro v)
      | with_reducible refine State.wrSh_fr ?_
      | with_reducible refine Fr.ite ?_ ?_
      | with_reducible refine Fr.cond ?_ ?_
      | with_reducible assumption
      | (refine Fr.of_snd (by assumption) ?_)
      | (refine Fr.of_fst (by assumption) ?_)
      | split
      | (unfold v; split)
      | (unfold v; clear_value *; split)
      | (clear_value *; split)

theorem State.plainReg_fr {m : Nat} {s0 s : State} {f : Nat} {w : Word} (h : Fr m s0 s) (hk : m.testBit (32 + fam f) = true := by first | assumption | decide | (simp; done) | (simp; decide) | (simp +zetaDelta; decide) | (split <;> simp <;> decide) | exact all_fam (by decide)) :
    Fr m s0 (s.plainReg f w) := State.wr_fr h hk

theorem State.shadowReg_fr {κ : Nat} {s0 s : State} {a : ℕ} {w : Word} (hf_ : Fr κ s0 s) (hk_ : 0x10 &&& κ = 0x10 := by decide) :
    Fr κ s0 (State.shadowReg s a w) := by
  refine Fr.lift hf_ hk_ ?_
  clear hf_ hk_
  unfold State.shadowReg
  have h0 := Fr.refl 0x10 s
  repeat' first
      | ((try lift_lets); intro v; refine_lift have hv : Fr 0x10 s v := ?_; ?_; clear_value v)
      | ((try lift_lets); intro v)
      | with_reducible refine State.putMaskSh_fr ?_
      | with_reducible refine Fr.ite ?_ ?_
      | with_reducible refine Fr.cond ?_ ?_
      | with_reducible assumption
      | (refine Fr.of_snd (by assumption) ?_)
      | (refine Fr.of_fst (by assumption) ?_)
      | split
      | (unfold v; split)
      | (unfold v; clear_value *; split)
      | (clear_value *; split)

theorem State.w1cReg_fr {m : Nat} {s0 s : State} {f : Nat} {w b : Word} (h : Fr m s0 s) (hk : m.testBit (32 + fam f) = true := by first | assumption | decide | (simp; done) | (simp; decide) | (simp +zetaDelta; decide) | (split <;> simp <;> decide) | exact all_fam (by decide)) :
    Fr m s0 (s.w1cReg f w b) := State.wr_fr h hk

theorem State.idleCommit_fr {κ : Nat} {s0 s : State} {x : Axis} (hf_ : Fr κ s0 s) (hk_ : 0xc3c03000008004bc1c000c60003ce2002dd01e000f0003800000000003e11a4180aa07f7f0 &&& κ = 0xc3c03000008004bc1c000c60003ce2002dd01e000f0003800000000003e11a4180aa07f7f0 := by decide) :
    Fr κ s0 (State.idleCommit s x) := by
  refine Fr.lift hf_ hk_ ?_
  clear hf_ hk_
  unfold State.idleCommit
  have h0 := Fr.refl 0xc3c03000008004bc1c000c60003ce2002dd01e000f0003800000000003e11a4180aa07f7f0 s
  repeat' first
      | ((try lift_lets); intro v; refine_lift have hv : Fr 0xc3c03000008004bc1c000c60003ce2002dd01e000f0003800000000003e11a4180aa07f7f0 s v := ?_; ?_; clear_value v)
      | ((try lift_lets); intro v)
      | with_reducible refine State.homeNow_fr ?_
      | with_reducible refine State.loopTake_fr ?_
      | with_reducible refine State.modeTake_fr ?_
      | with_reducible refine State.ownActivate_fr ?_
      | with_reducible refine State.sectSwap_fr ?_
      | with_reducible refine State.set_fr ?_
      | with_reducible refine State.swapNow_fr ?_
      | with_reducible refine State.takeDerived_fr ?_
      | with_reducible refine State.takeLock_fr ?_
      | with_reducible refine State.takeUpdate_fr ?_
      | with_reducible refine State.takeValley_fr ?_
      | with_reducible refine Fr.ite ?_ ?_
      | with_reducible refine Fr.cond ?_ ?_
      | with_reducible assumption
      | (refine Fr.of_snd (by assumption) ?_)
      | (refine Fr.of_fst (by assumption) ?_)
      | split
      | (unfold v; split)
      | (unfold v; clear_value *; split)
      | (clear_value *; split)

theorem State.expertParam_fr {κ : Nat} {s0 s : State} {by_ : Writer} {x : Axis} {group : Nat} {f : Fld} {w : Word} (hf_ : Fr κ s0 s) (hk_ : 0x1ffffffffffffffffffffffffffffffffffffffffffffffffffffffffffffffffff40000000 &&& κ = 0x1ffffffffffffffffffffffffffffffffffffffffffffffffffffffffffffffffff40000000 := by decide) :
    Fr κ s0 (State.expertParam s by_ x group f w) := by
  refine Fr.lift hf_ hk_ ?_
  clear hf_ hk_
  unfold State.expertParam
  have h0 := Fr.refl 0x1ffffffffffffffffffffffffffffffffffffffffffffffffffffffffffffffffff40000000 s
  repeat' first
      | ((try lift_lets); intro v; refine_lift have hv : Fr 0x1ffffffffffffffffffffffffffffffffffffffffffffffffffffffffffffffffff40000000 s v := ?_; ?_; clear_value v)
      | ((try lift_lets); intro v)
      | with_reducible refine State.expert_fr ?_ (fun t ht => ?_)
      | with_reducible refine State.setW_fr ?_
      | with_reducible refine Fr.ite ?_ ?_
      | with_reducible refine Fr.cond ?_ ?_
      | with_reducible assumption
      | with_reducible exact Fr.id_ (by with_reducible assumption)
      | (refine Fr.of_snd (by assumption) ?_)
      | (refine Fr.of_fst (by assumption) ?_)
      | split
      | (unfold v; split)
      | (unfold v; clear_value *; split)
      | (clear_value *; split)

theorem State.ghWrite_fr {κ : Nat} {s0 s : State} {by_ : Writer} {a : ℕ} {w : Word} (hf_ : Fr κ s0 s) (hk_ : 0x1fffffffffffffffffffffffffffffffffffffffffffffffffffffffffffffffffffefffff6 &&& κ = 0x1fffffffffffffffffffffffffffffffffffffffffffffffffffffffffffffffffffefffff6 := by decide) :
    Fr κ s0 (State.ghWrite s by_ a w) := by
  refine Fr.lift hf_ hk_ ?_
  clear hf_ hk_
  unfold State.ghWrite
  have h0 := Fr.refl 0x1fffffffffffffffffffffffffffffffffffffffffffffffffffffffffffffffffffefffff6 s
  repeat' first
      | ((try lift_lets); intro v; refine_lift have hv : Fr 0x1fffffffffffffffffffffffffffffffffffffffffffffffffffffffffffffffffffefffff6 s v := ?_; ?_; clear_value v)
      | ((try lift_lets); intro v)
      | with_reducible refine State.floorWrite_fr ?_
      | with_reducible refine State.freshNat_fr ?_
      | with_reducible refine State.hostLoad_fr ?_
      | with_reducible refine State.rstWrite_fr ?_
      | with_reducible refine State.sectWrite_fr ?_
      | with_reducible refine State.set_fr ?_
      | with_reducible refine State.w1cReg_fr ?_
      | with_reducible refine Fr.ite ?_ ?_
      | with_reducible refine Fr.cond ?_ ?_
      | with_reducible assumption
      | (refine Fr.of_snd (by assumption) ?_)
      | (refine Fr.of_fst (by assumption) ?_)
      | split
      | (unfold v; split)
      | (unfold v; clear_value *; split)
      | (clear_value *; split)

theorem State.hbWrite_fr {κ : Nat} {s0 s : State} {a : ℕ} {w : Word} (hf_ : Fr κ s0 s) (hk_ : 0x1ffffffffffffffffffffffffffffffffffffffffffffffffffffffffffffffffff00000000 &&& κ = 0x1ffffffffffffffffffffffffffffffffffffffffffffffffffffffffffffffffff00000000 := by decide) :
    Fr κ s0 (State.hbWrite s a w) := by
  refine Fr.lift hf_ hk_ ?_
  clear hf_ hk_
  unfold State.hbWrite
  have h0 := Fr.refl 0x1ffffffffffffffffffffffffffffffffffffffffffffffffffffffffffffffffff00000000 s
  repeat' first
      | ((try lift_lets); intro v; refine_lift have hv : Fr 0x1ffffffffffffffffffffffffffffffffffffffffffffffffffffffffffffffffff00000000 s v := ?_; ?_; clear_value v)
      | ((try lift_lets); intro v)
      | with_reducible refine State.hbCntClr_fr ?_
      | with_reducible refine State.plainReg_fr ?_
      | with_reducible refine State.w1cReg_fr ?_
      | with_reducible refine Fr.ite ?_ ?_
      | with_reducible refine Fr.cond ?_ ?_
      | with_reducible assumption
      | (refine Fr.of_snd (by assumption) ?_)
      | (refine Fr.of_fst (by assumption) ?_)
      | split
      | (unfold v; split)
      | (unfold v; clear_value *; split)
      | (clear_value *; split)

theorem State.pwWrite_fr {κ : Nat} {s0 s : State} {g : Option ℕ} {x : Axis} {a : ℕ} {w : Word} (hf_ : Fr κ s0 s) (hk_ : 0x1ffffffffffffffffffffffffffffffffffffffffffffffffffffffffffffffffffaa1ff7f0 &&& κ = 0x1ffffffffffffffffffffffffffffffffffffffffffffffffffffffffffffffffffaa1ff7f0 := by decide) :
    Fr κ s0 (State.pwWrite s g x a w) := by
  refine Fr.lift hf_ hk_ ?_
  clear hf_ hk_
  unfold State.pwWrite
  have h0 := Fr.refl 0x1ffffffffffffffffffffffffffffffffffffffffffffffffffffffffffffffffffaa1ff7f0 s
  repeat' first
      | ((try lift_lets); intro v; refine_lift have hv : Fr 0x1ffffffffffffffffffffffffffffffffffffffffffffffffffffffffffffffffffaa1ff7f0 s v := ?_; ?_; clear_value v)
      | ((try lift_lets); intro v)
      | with_reducible refine State.ctrlWrite_fr ?_
      | with_reducible refine State.idleCommit_fr ?_
      | with_reducible refine State.periodWrite_fr ?_
      | with_reducible refine State.setWord_fr ?_
      | with_reducible refine State.shadowReg_fr ?_
      | with_reducible refine State.w1cReg_fr ?_
      | with_reducible refine Fr.ite ?_ ?_
      | with_reducible refine Fr.cond ?_ ?_
      | with_reducible assumption
      | (refine Fr.of_snd (by assumption) ?_)
      | (refine Fr.of_fst (by assumption) ?_)
      | split
      | (unfold v; split)
      | (unfold v; clear_value *; split)
      | (clear_value *; split)

theorem State.sunWrite_fr {κ : Nat} {s0 s : State} {a : ℕ} {w : Word} (hf_ : Fr κ s0 s) (hk_ : 0x1ffffffffffffffffffffffffffffffffffffffffffffffffffffffffffffffffff83018400 &&& κ = 0x1ffffffffffffffffffffffffffffffffffffffffffffffffffffffffffffffffff83018400 := by decide) :
    Fr κ s0 (State.sunWrite s a w) := by
  refine Fr.lift hf_ hk_ ?_
  clear hf_ hk_
  unfold State.sunWrite
  have h0 := Fr.refl 0x1ffffffffffffffffffffffffffffffffffffffffffffffffffffffffffffffffff83018400 s
  repeat' first
      | ((try lift_lets); intro v; refine_lift have hv : Fr 0x1ffffffffffffffffffffffffffffffffffffffffffffffffffffffffffffffffff83018400 s v := ?_; ?_; clear_value v)
      | ((try lift_lets); intro v)
      | with_reducible refine State.actTime_fr ?_
      | with_reducible refine State.actWrite_fr ?_
      | with_reducible refine State.plainReg_fr ?_
      | with_reducible refine State.sunCmdWrite_fr ?_
      | with_reducible refine State.sunCtrlWrite_fr ?_
      | with_reducible refine State.w1cReg_fr ?_
      | with_reducible refine Fr.ite ?_ ?_
      | with_reducible refine Fr.cond ?_ ?_
      | with_reducible assumption
      | (refine Fr.of_snd (by assumption) ?_)
      | (refine Fr.of_fst (by assumption) ?_)
      | split
      | (unfold v; split)
      | (unfold v; clear_value *; split)
      | (clear_value *; split)

theorem State.snsWrite_fr {κ : Nat} {s0 s : State} {a : ℕ} {w : Word} (hf_ : Fr κ s0 s) (hk_ : 0x1ffffffffffffffffffffffffffffffffffffffffffffffffffffffffffffffffff00200000 &&& κ = 0x1ffffffffffffffffffffffffffffffffffffffffffffffffffffffffffffffffff00200000 := by decide) :
    Fr κ s0 (State.snsWrite s a w) := by
  refine Fr.lift hf_ hk_ ?_
  clear hf_ hk_
  unfold State.snsWrite
  have h0 := Fr.refl 0x1ffffffffffffffffffffffffffffffffffffffffffffffffffffffffffffffffff00200000 s
  repeat' first
      | ((try lift_lets); intro v; refine_lift have hv : Fr 0x1ffffffffffffffffffffffffffffffffffffffffffffffffffffffffffffffffff00200000 s v := ?_; ?_; clear_value v)
      | ((try lift_lets); intro v)
      | with_reducible refine State.calWrite_fr ?_
      | with_reducible refine State.fthrWrite_fr ?_
      | with_reducible refine State.plainReg_fr ?_
      | with_reducible refine State.sdchWrite_fr ?_
      | with_reducible refine State.sdclkWrite_fr ?_
      | with_reducible refine State.set_fr ?_
      | with_reducible refine State.snsCntClr_fr ?_
      | with_reducible refine State.w1cReg_fr ?_
      | with_reducible refine Fr.forEachFld ?_ (fun t f hf ht => ?_)
      | with_reducible refine Fr.forEach ?_ (fun t a ht => ?_)
      | with_reducible refine Fr.ite ?_ ?_
      | with_reducible refine Fr.cond ?_ ?_
      | with_reducible assumption
      | (refine Fr.of_snd (by assumption) ?_)
      | (refine Fr.of_fst (by assumption) ?_)
      | split
      | (unfold v; split)
      | (unfold v; clear_value *; split)
      | (clear_value *; split)

theorem State.hahWrite_fr {κ : Nat} {s0 s : State} {a : ℕ} {w : Word} (hf_ : Fr κ s0 s) (hk_ : 0x1ffffffffffffffffffffffffffffffffffffffffffffffffffffffffffffffffff00460000 &&& κ = 0x1ffffffffffffffffffffffffffffffffffffffffffffffffffffffffffffffffff00460000 := by decide) :
    Fr κ s0 (State.hahWrite s a w) := by
  refine Fr.lift hf_ hk_ ?_
  clear hf_ hk_
  unfold State.hahWrite
  have h0 := Fr.refl 0x1ffffffffffffffffffffffffffffffffffffffffffffffffffffffffffffffffff00460000 s
  repeat' first
      | ((try lift_lets); intro v; refine_lift have hv : Fr 0x1ffffffffffffffffffffffffffffffffffffffffffffffffffffffffffffffffff00460000 s v := ?_; ?_; clear_value v)
      | ((try lift_lets); intro v)
      | with_reducible refine State.cmpWrite_fr ?_
      | with_reducible refine State.hahCntClr_fr ?_
      | with_reducible refine State.plainReg_fr ?_
      | with_reducible refine State.posCfgWrite_fr ?_
      | with_reducible refine State.thrWrite_fr ?_
      | with_reducible refine State.w1cReg_fr ?_
      | with_reducible refine Fr.ite ?_ ?_
      | with_reducible refine Fr.cond ?_ ?_
      | with_reducible assumption
      | (refine Fr.of_snd (by assumption) ?_)
      | (refine Fr.of_fst (by assumption) ?_)
      | split
      | (unfold v; split)
      | (unfold v; clear_value *; split)
      | (clear_value *; split)

theorem State.folCtrl_fr {κ : Nat} {s0 s : State} {x : Axis} {w : Word} (hf_ : Fr κ s0 s) (hk_ : 0x2c010000000008000000040e0000000000000000000000000000000000002400002018400 &&& κ = 0x2c010000000008000000040e0000000000000000000000000000000000002400002018400 := by decide) :
    Fr κ s0 (State.folCtrl s x w) := by
  refine Fr.lift hf_ hk_ ?_
  clear hf_ hk_
  unfold State.folCtrl
  have h0 := Fr.refl 0x2c010000000008000000040e0000000000000000000000000000000000002400002018400 s
  repeat' first
      | ((try lift_lets); intro v; refine_lift have hv : Fr 0x2c010000000008000000040e0000000000000000000000000000000000002400002018400 s v := ?_; ?_; clear_value v)
      | ((try lift_lets); intro v)
      | with_reducible refine State.folEnd_fr ?_
      | with_reducible refine State.folStart_fr ?_
      | with_reducible refine Fr.ite ?_ ?_
      | with_reducible refine Fr.cond ?_ ?_
      | with_reducible assumption
      | (refine Fr.of_snd (by assumption) ?_)
      | (refine Fr.of_fst (by assumption) ?_)
      | split
      | (unfold v; split)
      | (unfold v; clear_value *; split)
      | (clear_value *; split)

theorem State.capCtrl_fr {κ : Nat} {s0 s : State} {x : Axis} {w : Word} (hf_ : Fr κ s0 s) (hk_ : 0x2c0100000000080000001e000000000000000000000000000000000000002400002018400 &&& κ = 0x2c0100000000080000001e000000000000000000000000000000000000002400002018400 := by decide) :
    Fr κ s0 (State.capCtrl s x w) := by
  refine Fr.lift hf_ hk_ ?_
  clear hf_ hk_
  unfold State.capCtrl
  have h0 := Fr.refl 0x2c0100000000080000001e000000000000000000000000000000000000002400002018400 s
  repeat' first
      | ((try lift_lets); intro v; refine_lift have hv : Fr 0x2c0100000000080000001e000000000000000000000000000000000000002400002018400 s v := ?_; ?_; clear_value v)
      | ((try lift_lets); intro v)
      | with_reducible refine State.capArm_fr ?_
      | with_reducible refine State.capCancel_fr ?_
      | with_reducible refine State.capTrigger_fr ?_
      | with_reducible refine Fr.ite ?_ ?_
      | with_reducible refine Fr.cond ?_ ?_
      | with_reducible assumption
      | (refine Fr.of_snd (by assumption) ?_)
      | (refine Fr.of_fst (by assumption) ?_)
      | split
      | (unfold v; split)
      | (unfold v; clear_value *; split)
      | (clear_value *; split)

theorem State.mcWriteLow_fr {κ : Nat} {s0 s : State} {by_ : Writer} {x : Axis} {a : ℕ} {w : Word} (hf_ : Fr κ s0 s) (hk_ : 0x1ffffffffffffffffffffffffffffffffffffffffffffffffffffffffffffffffff4201e410 &&& κ = 0x1ffffffffffffffffffffffffffffffffffffffffffffffffffffffffffffffffff4201e410 := by decide) :
    Fr κ s0 (State.mcWriteLow s by_ x a w) := by
  refine Fr.lift hf_ hk_ ?_
  clear hf_ hk_
  unfold State.mcWriteLow
  have h0 := Fr.refl 0x1ffffffffffffffffffffffffffffffffffffffffffffffffffffffffffffffffff4201e410 s
  repeat' first
      | ((try lift_lets); intro v; refine_lift have hv : Fr 0x1ffffffffffffffffffffffffffffffffffffffffffffffffffffffffffffffffff4201e410 s v := ?_; ?_; clear_value v)
      | ((try lift_lets); intro v)
      | with_reducible refine State.setB_fr ?_
      | with_reducible refine State.blvWrite_fr ?_
      | with_reducible refine State.cmdArrive_fr ?_
      | with_reducible refine State.expert_fr ?_ (fun t ht => ?_)
      | with_reducible refine State.expertParam_fr ?_
      | with_reducible refine State.mcCntClr_fr ?_
      | with_reducible refine State.modeWrite_fr ?_
      | with_reducible refine State.needs_fr ?_ (fun t ht => ?_)
      | with_reducible refine State.ownWrite_fr ?_
      | with_reducible refine State.set_fr ?_
      | with_reducible refine State.setPoint_fr ?_
      | with_reducible refine State.setW_fr ?_
      | with_reducible refine State.w1cReg_fr ?_
      | with_reducible refine Fr.forEachFld ?_ (fun t f hf ht => ?_)
      | with_reducible refine Fr.forEach ?_ (fun t a ht => ?_)
      | with_reducible refine Fr.ite ?_ ?_
      | with_reducible refine Fr.cond ?_ ?_
      | with_reducible assumption
      | with_reducible exact Fr.id_ (by with_reducible assumption)
      | (refine Fr.of_snd (by assumption) ?_)
      | (refine Fr.of_fst (by assumption) ?_)
      | split
      | (unfold v; split)
      | (unfold v; clear_value *; split)
      | (clear_value *; split)

theorem State.mcWriteHigh_fr {κ : Nat} {s0 s : State} {by_ : Writer} {x : Axis} {a : ℕ} {w : Word} (hf_ : Fr κ s0 s) (hk_ : 0x1ffffffffffffffffffffffffffffffffffffffffffffffffffffffffffffffffff42018410 &&& κ = 0x1ffffffffffffffffffffffffffffffffffffffffffffffffffffffffffffffffff42018410 := by decide) :
    Fr κ s0 (State.mcWriteHigh s by_ x a w) := by
  refine Fr.lift hf_ hk_ ?_
  clear hf_ hk_
  unfold State.mcWriteHigh
  have h0 := Fr.refl 0x1ffffffffffffffffffffffffffffffffffffffffffffffffffffffffffffffffff42018410 s
  repeat' first
      | ((try lift_lets); intro v; refine_lift have hv : Fr 0x1ffffffffffffffffffffffffffffffffffffffffffffffffffffffffffffffffff42018410 s v := ?_; ?_; clear_value v)
      | ((try lift_lets); intro v)
      | with_reducible refine State.expert_fr ?_ (fun t ht => ?_)
      | with_reducible refine State.capCtrl_fr ?_
      | with_reducible refine State.expertParam_fr ?_
      | with_reducible refine State.folCtrl_fr ?_
      | with_reducible refine State.homeWrite_fr ?_
      | with_reducible refine State.loopWrite_fr ?_
      | with_reducible refine State.plainReg_fr ?_
      | with_reducible refine State.posSetWrite_fr ?_
      | with_reducible refine State.swapRequest_fr ?_
      | with_reducible refine State.w1cReg_fr ?_
      | with_reducible refine Fr.ite ?_ ?_
      | with_reducible refine Fr.cond ?_ ?_
      | with_reducible assumption
      | with_reducible exact Fr.id_ (by with_reducible assumption)
      | (refine Fr.of_snd (by assumption) ?_)
      | (refine Fr.of_fst (by assumption) ?_)
      | split
      | (unfold v; split)
      | (unfold v; clear_value *; split)
      | (clear_value *; split)

theorem State.mcWrite_fr {κ : Nat} {s0 s : State} {by_ : Writer} {x : Axis} {a : ℕ} {w : Word} (hf_ : Fr κ s0 s) (hk_ : 0x1ffffffffffffffffffffffffffffffffffffffffffffffffffffffffffffffffff4201e410 &&& κ = 0x1ffffffffffffffffffffffffffffffffffffffffffffffffffffffffffffffffff4201e410 := by decide) :
    Fr κ s0 (State.mcWrite s by_ x a w) := by
  refine Fr.lift hf_ hk_ ?_
  clear hf_ hk_
  unfold State.mcWrite
  have h0 := Fr.refl 0x1ffffffffffffffffffffffffffffffffffffffffffffffffffffffffffffffffff4201e410 s
  repeat' first
      | ((try lift_lets); intro v; refine_lift have hv : Fr 0x1ffffffffffffffffffffffffffffffffffffffffffffffffffffffffffffffffff4201e410 s v := ?_; ?_; clear_value v)
      | ((try lift_lets); intro v)
      | with_reducible refine State.expert_fr ?_ (fun t ht => ?_)
      | with_reducible refine State.bankWrite_fr ?_
      | with_reducible refine State.mcWriteHigh_fr ?_
      | with_reducible refine State.mcWriteLow_fr ?_
      | with_reducible refine Fr.ite ?_ ?_
      | with_reducible refine Fr.cond ?_ ?_
      | with_reducible assumption
      | with_reducible exact Fr.id_ (by with_reducible assumption)
      | (refine Fr.of_snd (by assumption) ?_)
      | (refine Fr.of_fst (by assumption) ?_)
      | split
      | (unfold v; split)
      | (unfold v; clear_value *; split)
      | (clear_value *; split)

theorem State.trWrite_fr {κ : Nat} {s0 s : State} {by_ : Writer} {x : Axis} {a : ℕ} {w : Word} (hf_ : Fr κ s0 s) (hk_ : 0x1ffffffffffffffffffffffffffffffffffffffffffffffffffffffffffffffffff40060000 &&& κ = 0x1ffffffffffffffffffffffffffffffffffffffffffffffffffffffffffffffffff40060000 := by decide) :
    Fr κ s0 (State.trWrite s by_ x a w) := by
  refine Fr.lift hf_ hk_ ?_
  clear hf_ hk_
  unfold State.trWrite
  have h0 := Fr.refl 0x1ffffffffffffffffffffffffffffffffffffffffffffffffffffffffffffffffff40060000 s
  repeat' first
      | ((try lift_lets); intro v; refine_lift have hv : Fr 0x1ffffffffffffffffffffffffffffffffffffffffffffffffffffffffffffffffff40060000 s v := ?_; ?_; clear_value v)
      | ((try lift_lets); intro v)
      | with_reducible refine State.cascadeShow_fr ?_
      | with_reducible refine State.settle_fr ?_
      | with_reducible refine State.expert_fr ?_ (fun t ht => ?_)
      | with_reducible refine State.needs_fr ?_ (fun t ht => ?_)
      | with_reducible refine State.plainReg_fr ?_
      | with_reducible refine State.protClr_fr ?_
      | with_reducible refine State.set_fr ?_
      | with_reducible refine State.setIf_fr ?_
      | with_reducible refine State.strLimWrite_fr ?_
      | with_reducible refine State.strWrite_fr ?_
      | with_reducible refine State.trCfgWrite_fr ?_
      | with_reducible refine State.trxCntClr_fr ?_
      | with_reducible refine State.w1cReg_fr ?_
      | with_reducible refine Fr.ite ?_ ?_
      | with_reducible refine Fr.cond ?_ ?_
      | with_reducible assumption
      | with_reducible exact Fr.id_ (by with_reducible assumption)
      | (refine Fr.of_snd (by assumption) ?_)
      | (refine Fr.of_fst (by assumption) ?_)
      | split
      | (unfold v; split)
      | (unfold v; clear_value *; split)
      | (clear_value *; split)

theorem State.ldgWrite_fr {κ : Nat} {s0 s : State} {a : ℕ} {w : Word} (hf_ : Fr κ s0 s) (hk_ : 0x1ffffffffffffffffffffffffffffffffffffffffffffffffffffffffffffffffff00000000 &&& κ = 0x1ffffffffffffffffffffffffffffffffffffffffffffffffffffffffffffffffff00000000 := by decide) :
    Fr κ s0 (State.ldgWrite s a w) := by
  refine Fr.lift hf_ hk_ ?_
  clear hf_ hk_
  unfold State.ldgWrite
  have h0 := Fr.refl 0x1ffffffffffffffffffffffffffffffffffffffffffffffffffffffffffffffffff00000000 s
  repeat' first
      | ((try lift_lets); intro v; refine_lift have hv : Fr 0x1ffffffffffffffffffffffffffffffffffffffffffffffffffffffffffffffffff00000000 s v := ?_; ?_; clear_value v)
      | ((try lift_lets); intro v)
      | with_reducible refine State.evtClear_fr ?_
      | with_reducible refine State.logClr_fr ?_
      | with_reducible refine State.plainReg_fr ?_
      | with_reducible refine State.routeWrite_fr ?_
      | with_reducible refine State.statusClear_fr ?_
      | with_reducible refine Fr.ite ?_ ?_
      | with_reducible refine Fr.cond ?_ ?_
      | with_reducible assumption
      | (refine Fr.of_snd (by assumption) ?_)
      | (refine Fr.of_fst (by assumption) ?_)
      | split
      | (unfold v; split)
      | (unfold v; clear_value *; split)
      | (clear_value *; split)

theorem State.orgWrite_fr {κ : Nat} {s0 s : State} {a : ℕ} {w : Word} (hf_ : Fr κ s0 s) (hk_ : 0x1ffffffffffffffffffffffffffffffffffffffffffffffffffffffffffffffffff02198410 &&& κ = 0x1ffffffffffffffffffffffffffffffffffffffffffffffffffffffffffffffffff02198410 := by decide) :
    Fr κ s0 (State.orgWrite s a w) := by
  refine Fr.lift hf_ hk_ ?_
  clear hf_ hk_
  unfold State.orgWrite
  have h0 := Fr.refl 0x1ffffffffffffffffffffffffffffffffffffffffffffffffffffffffffffffffff02198410 s
  repeat' first
      | ((try lift_lets); intro v; refine_lift have hv : Fr 0x1ffffffffffffffffffffffffffffffffffffffffffffffffffffffffffffffffff02198410 s v := ?_; ?_; clear_value v)
      | ((try lift_lets); intro v)
      | with_reducible refine State.plainReg_fr ?_
      | with_reducible refine State.requestTouch_fr ?_
      | with_reducible refine State.shadowReg_fr ?_
      | with_reducible refine State.throttleOn_fr ?_
      | with_reducible refine State.w1cReg_fr ?_
      | with_reducible refine Fr.ite ?_ ?_
      | with_reducible refine Fr.cond ?_ ?_
      | with_reducible assumption
      | (refine Fr.of_snd (by assumption) ?_)
      | (refine Fr.of_fst (by assumption) ?_)
      | split
      | (unfold v; split)
      | (unfold v; clear_value *; split)
      | (clear_value *; split)

theorem State.grtWrite_fr {κ : Nat} {s0 s : State} {a : ℕ} {w : Word} (hf_ : Fr κ s0 s) (hk_ : 0x1ffffffffffffffffffffffffffffffffffffffffffffffffffffffffffffffffff04000000 &&& κ = 0x1ffffffffffffffffffffffffffffffffffffffffffffffffffffffffffffffffff04000000 := by decide) :
    Fr κ s0 (State.grtWrite s a w) := by
  refine Fr.lift hf_ hk_ ?_
  clear hf_ hk_
  unfold State.grtWrite
  have h0 := Fr.refl 0x1ffffffffffffffffffffffffffffffffffffffffffffffffffffffffffffffffff04000000 s
  repeat' first
      | ((try lift_lets); intro v; refine_lift have hv : Fr 0x1ffffffffffffffffffffffffffffffffffffffffffffffffffffffffffffffffff04000000 s v := ?_; ?_; clear_value v)
      | ((try lift_lets); intro v)
      | with_reducible refine State.plainReg_fr ?_
      | with_reducible refine State.progWrite_fr ?_
      | with_reducible refine State.w1cReg_fr ?_
      | with_reducible refine Fr.ite ?_ ?_
      | with_reducible refine Fr.cond ?_ ?_
      | with_reducible assumption
      | (refine Fr.of_snd (by assumption) ?_)
      | (refine Fr.of_fst (by assumption) ?_)
      | split
      | (unfold v; split)
      | (unfold v; clear_value *; split)
      | (clear_value *; split)

theorem State.lenWrite_fr {κ : Nat} {s0 s : State} {by_ : Writer} {w : Word} (hf_ : Fr κ s0 s) (hk_ : 0x50000000 &&& κ = 0x50000000 := by decide) :
    Fr κ s0 (State.lenWrite s by_ w) := by
  refine Fr.lift hf_ hk_ ?_
  clear hf_ hk_
  unfold State.lenWrite
  have h0 := Fr.refl 0x50000000 s
  repeat' first
      | ((try lift_lets); intro v; refine_lift have hv : Fr 0x50000000 s v := ?_; ?_; clear_value v)
      | ((try lift_lets); intro v)
      | with_reducible refine State.modWkt_fr ?_
      | with_reducible refine State.note_fr ?_
      | with_reducible refine Fr.ite ?_ ?_
      | with_reducible refine Fr.cond ?_ ?_
      | with_reducible assumption
      | (refine Fr.of_snd (by assumption) ?_)
      | (refine Fr.of_fst (by assumption) ?_)
      | split
      | (unfold v; split)
      | (unfold v; clear_value *; split)
      | (clear_value *; split)

theorem State.hltWrite_fr {κ : Nat} {s0 s : State} {w : Word} (hf_ : Fr κ s0 s) (hk_ : 0x1800000000000000000000000000000000000000000000000000000000000000000 &&& κ = 0x1800000000000000000000000000000000000000000000000000000000000000000 := by decide) :
    Fr κ s0 (State.hltWrite s w) := by
  refine Fr.lift hf_ hk_ ?_
  clear hf_ hk_
  unfold State.hltWrite
  have h0 := Fr.refl 0x1800000000000000000000000000000000000000000000000000000000000000000 s
  repeat' first
      | ((try lift_lets); intro v; refine_lift have hv : Fr 0x1800000000000000000000000000000000000000000000000000000000000000000 s v := ?_; ?_; clear_value v)
      | ((try lift_lets); intro v)
      | with_reducible refine State.plainReg_fr ?_
      | with_reducible refine State.set_fr ?_
      | with_reducible refine Fr.ite ?_ ?_
      | with_reducible refine Fr.cond ?_ ?_
      | with_reducible assumption
      | (refine Fr.of_snd (by assumption) ?_)
      | (refine Fr.of_fst (by assumption) ?_)
      | split
      | (unfold v; split)
      | (unfold v; clear_value *; split)
      | (clear_value *; split)

theorem State.wktWrite_fr {κ : Nat} {s0 s : State} {by_ : Writer} {a : ℕ} {w : Word} (hf_ : Fr κ s0 s) (hk_ : 0x1ffffffffffffffffffffffffffffffffffffffffffffffffffffffffffffffffff50000000 &&& κ = 0x1ffffffffffffffffffffffffffffffffffffffffffffffffffffffffffffffffff50000000 := by decide) :
    Fr κ s0 (State.wktWrite s by_ a w) := by
  refine Fr.lift hf_ hk_ ?_
  clear hf_ hk_
  unfold State.wktWrite
  have h0 := Fr.refl 0x1ffffffffffffffffffffffffffffffffffffffffffffffffffffffffffffffffff50000000 s
  repeat' first
      | ((try lift_lets); intro v; refine_lift have hv : Fr 0x1ffffffffffffffffffffffffffffffffffffffffffffffffffffffffffffffffff50000000 s v := ?_; ?_; clear_value v)
      | ((try lift_lets); intro v)
      | with_reducible refine State.hltWrite_fr ?_
      | with_reducible refine State.lenWrite_fr ?_
      | with_reducible refine State.w1cReg_fr ?_
      | with_reducible refine State.wr_fr ?_
      | with_reducible refine Fr.ite ?_ ?_
      | with_reducible refine Fr.cond ?_ ?_
      | with_reducible assumption
      | (refine Fr.of_snd (by assumption) ?_)
      | (refine Fr.of_fst (by assumption) ?_)
      | split
      | (unfold v; split)
      | (unfold v; clear_value *; split)
      | (clear_value *; split)

theorem State.iceWrite_fr {κ : Nat} {s0 s : State} {a : ℕ} {w : Word} (hf_ : Fr κ s0 s) (hk_ : 0x1ffffffffffffffffffffffffffffffffffffffffffffffffffffffffffffffffffaa07f420 &&& κ = 0x1ffffffffffffffffffffffffffffffffffffffffffffffffffffffffffffffffffaa07f420 := by decide) :
    Fr κ s0 (State.iceWrite s a w) := by
  refine Fr.lift hf_ hk_ ?_
  clear hf_ hk_
  unfold State.iceWrite
  have h0 := Fr.refl 0x1ffffffffffffffffffffffffffffffffffffffffffffffffffffffffffffffffffaa07f420 s
  repeat' first
      | ((try lift_lets); intro v; refine_lift have hv : Fr 0x1ffffffffffffffffffffffffffffffffffffffffffffffffffffffffffffffffffaa07f420 s v := ?_; ?_; clear_value v)
      | ((try lift_lets); intro v)
      | with_reducible refine State.iceCtrlWrite_fr ?_
      | with_reducible refine State.plainReg_fr ?_
      | with_reducible refine State.w1cReg_fr ?_
      | with_reducible refine Fr.ite ?_ ?_
      | with_reducible refine Fr.cond ?_ ?_
      | with_reducible assumption
      | (refine Fr.of_snd (by assumption) ?_)
      | (refine Fr.of_fst (by assumption) ?_)
      | split
      | (unfold v; split)
      | (unfold v; clear_value *; split)
      | (clear_value *; split)

theorem State.pglWriteReg_fr {κ : Nat} {s0 s : State} {by_ : Writer} {a : ℕ} {w : Word} (hf_ : Fr κ s0 s) (hk_ : 0x1ffffffffffffffffffffffffffffffffffffffffffffffffffffffffffffffffffea07f5f0 &&& κ = 0x1ffffffffffffffffffffffffffffffffffffffffffffffffffffffffffffffffffea07f5f0 := by decide) :
    Fr κ s0 (State.pglWriteReg s by_ a w) := by
  refine Fr.lift hf_ hk_ ?_
  clear hf_ hk_
  unfold State.pglWriteReg
  have h0 := Fr.refl 0x1ffffffffffffffffffffffffffffffffffffffffffffffffffffffffffffffffffea07f5f0 s
  repeat' first
      | ((try lift_lets); intro v; refine_lift have hv : Fr 0x1ffffffffffffffffffffffffffffffffffffffffffffffffffffffffffffffffffea07f5f0 s v := ?_; ?_; clear_value v)
      | ((try lift_lets); intro v)
      | with_reducible refine State.chnCfgWrite_fr ?_
      | with_reducible refine State.pglAbort_fr ?_
      | with_reducible refine State.pglReset_fr ?_
      | with_reducible refine State.pglTrigReg_fr ?_
      | with_reducible refine State.plainReg_fr ?_
      | with_reducible refine State.ringRdWrite_fr ?_
      | with_reducible refine State.w1cReg_fr ?_
      | with_reducible refine Fr.ite ?_ ?_
      | with_reducible refine Fr.cond ?_ ?_
      | with_reducible assumption
      | (refine Fr.of_snd (by assumption) ?_)
      | (refine Fr.of_fst (by assumption) ?_)
      | split
      | (unfold v; split)
      | (unfold v; clear_value *; split)
      | (clear_value *; split)

theorem State.freeSum_fr {κ : Nat} {s0 s : State}  (hf_ : Fr κ s0 s) (hk_ : 0x80000000 &&& κ = 0x80000000 := by decide) :
    Fr κ s0 (State.freeSum s).2 := by
  refine Fr.lift hf_ hk_ ?_
  clear hf_ hk_
  unfold State.freeSum
  have h0 := Fr.refl 0x80000000 s
  repeat' first
      | ((try lift_lets); intro v; refine_lift have hv : Fr 0x80000000 s v := ?_; ?_; clear_value v)
      | ((try lift_lets); intro v)
      | with_reducible refine State.freshNat_fr ?_
      | with_reducible refine Fr.ite ?_ ?_
      | with_reducible refine Fr.cond ?_ ?_
      | with_reducible assumption
      | (refine Fr.of_snd (by assumption) ?_)
      | (refine Fr.of_fst (by assumption) ?_)
      | split
      | (unfold v; split)
      | (unfold v; clear_value *; split)
      | (clear_value *; split)

theorem State.freeSums_fr {κ : Nat} {s0 s : State} {n : ℕ} (hf_ : Fr κ s0 s) (hk_ : 0x80000000 &&& κ = 0x80000000 := by decide) :
    Fr κ s0 (State.freeSums s n).2 := by
  refine Fr.lift hf_ hk_ ?_
  clear hf_ hk_ s0
  revert s
  induction n with
  | zero =>
    intro s
    unfold State.freeSums
    (
    have h0 := Fr.refl 0x80000000 s
    repeat' first
        | ((try lift_lets); intro v; refine_lift have hv : Fr 0x80000000 s v := ?_; ?_; clear_value v)
        | ((try lift_lets); intro v)
        | with_reducible refine State.freeSum_fr ?_
        | with_reducible refine Fr.ite ?_ ?_
        | with_reducible refine Fr.cond ?_ ?_
        | with_reducible assumption
        | (refine Fr.of_snd (by assumption) ?_)
        | (refine Fr.of_fst (by assumption) ?_)
        | split
        | (unfold v; split)
        | (unfold v; clear_value *; split)
        | (clear_value *; split)
        | (injections; subst_vars))
  | succ n_ ih =>
    intro s
    unfold State.freeSums
    (
    have h0 := Fr.refl 0x80000000 s
    repeat' first
        | ((try lift_lets); intro v; refine_lift have hv : Fr 0x80000000 s v := ?_; ?_; clear_value v)
        | ((try lift_lets); intro v)
        | with_reducible refine State.freeSum_fr ?_
        | with_reducible refine Fr.trans ?_ ih
        | with_reducible refine Fr.ite ?_ ?_
        | with_reducible refine Fr.cond ?_ ?_
        | with_reducible assumption
        | (refine Fr.of_snd (by assumption) ?_)
        | (refine Fr.of_fst (by assumption) ?_)
        | split
        | (unfold v; split)
        | (unfold v; clear_value *; split)
        | (clear_value *; split)
        | (injections; subst_vars))

theorem State.testFree_fr {κ : Nat} {s0 s : State} {k : ℕ} (hf_ : Fr κ s0 s) (hk_ : 0xc3c03000008004bc1c0004600000000020400000000000000000000000001a4180ea07f5e0 &&& κ = 0xc3c03000008004bc1c0004600000000020400000000000000000000000001a4180ea07f5e0 := by decide) :
    Fr κ s0 (State.testFree s k) := by
  refine Fr.lift hf_ hk_ ?_
  clear hf_ hk_
  unfold State.testFree
  have h0 := Fr.refl 0xc3c03000008004bc1c0004600000000020400000000000000000000000001a4180ea07f5e0 s
  repeat' first
      | ((try lift_lets); intro v; refine_lift have hv : Fr 0xc3c03000008004bc1c0004600000000020400000000000000000000000001a4180ea07f5e0 s v := ?_; ?_; clear_value v)
      | ((try lift_lets); intro v)
      | with_reducible refine State.dsPathAsk_fr ?_
      | with_reducible refine State.freeSums_fr ?_
      | with_reducible refine State.ofsAxisAsk_fr ?_
      | with_reducible refine State.ofsCalAsk_fr ?_
      | with_reducible refine State.sarAsk_fr ?_
      | with_reducible refine State.scrubAsk_fr ?_
      | with_reducible refine State.sdLoopAsk_fr ?_
      | with_reducible refine State.trimAsk_fr ?_
      | with_reducible refine Fr.ite ?_ ?_
      | with_reducible refine Fr.cond ?_ ?_
      | with_reducible assumption
      | (refine Fr.of_snd (by assumption) ?_)
      | (refine Fr.of_fst (by assumption) ?_)
      | split
      | (unfold v; split)
      | (unfold v; clear_value *; split)
      | (clear_value *; split)

theorem State.stcWrite_fr {κ : Nat} {s0 s : State} {a : ℕ} {w : Word} (hf_ : Fr κ s0 s) (hk_ : 0x1ffffffffffffffffffffffffffffffffffffffffffffffffffffffffffffffffffea07f5e0 &&& κ = 0x1ffffffffffffffffffffffffffffffffffffffffffffffffffffffffffffffffffea07f5e0 := by decide) :
    Fr κ s0 (State.stcWrite s a w) := by
  refine Fr.lift hf_ hk_ ?_
  clear hf_ hk_
  unfold State.stcWrite
  have h0 := Fr.refl 0x1ffffffffffffffffffffffffffffffffffffffffffffffffffffffffffffffffffea07f5e0 s
  repeat' first
      | ((try lift_lets); intro v; refine_lift have hv : Fr 0x1ffffffffffffffffffffffffffffffffffffffffffffffffffffffffffffffffffea07f5e0 s v := ?_; ?_; clear_value v)
      | ((try lift_lets); intro v)
      | with_reducible refine State.plainReg_fr ?_
      | with_reducible refine State.stcCancel_fr ?_
      | with_reducible refine State.testFree_fr ?_
      | with_reducible refine State.trimWrite_fr ?_
      | with_reducible refine Fr.forEachFld ?_ (fun t f hf ht => ?_)
      | with_reducible refine Fr.forEach ?_ (fun t a ht => ?_)
      | with_reducible refine Fr.ite ?_ ?_
      | with_reducible refine Fr.cond ?_ ?_
      | with_reducible assumption
      | (refine Fr.of_snd (by assumption) ?_)
      | (refine Fr.of_fst (by assumption) ?_)
      | split
      | (unfold v; split)
      | (unfold v; clear_value *; split)
      | (clear_value *; split)

theorem State.regWrite_fr {κ : Nat} {s0 s : State} {by_ : Writer} {g : Option ℕ} {a : ℕ} {w : Word} (hf_ : Fr κ s0 s) (hk_ : 0x1fffffffffffffffffffffffffffffffffffffffffffffffffffffffffffffffffffffffff6 &&& κ = 0x1fffffffffffffffffffffffffffffffffffffffffffffffffffffffffffffffffffffffff6 := by decide) :
    Fr κ s0 (State.regWrite s by_ g a w) := by
  refine Fr.lift hf_ hk_ ?_
  clear hf_ hk_
  unfold State.regWrite
  have h0 := Fr.refl 0x1fffffffffffffffffffffffffffffffffffffffffffffffffffffffffffffffffffffffff6 s
  repeat' first
      | ((try lift_lets); intro v; refine_lift have hv : Fr 0x1fffffffffffffffffffffffffffffffffffffffffffffffffffffffffffffffffffffffff6 s v := ?_; ?_; clear_value v)
      | ((try lift_lets); intro v)
      | with_reducible refine State.ghWrite_fr ?_
      | with_reducible refine State.grtWrite_fr ?_
      | with_reducible refine State.hahWrite_fr ?_
      | with_reducible refine State.hbWrite_fr ?_
      | with_reducible refine State.iceWrite_fr ?_
      | with_reducible refine State.ldgWrite_fr ?_
      | with_reducible refine State.mcWrite_fr ?_
      | with_reducible refine State.note_fr ?_
      | with_reducible refine State.orgWrite_fr ?_
      | with_reducible refine State.pglWriteReg_fr ?_
      | with_reducible refine State.pwWrite_fr ?_
      | with_reducible refine State.snsWrite_fr ?_
      | with_reducible refine State.stcWrite_fr ?_
      | with_reducible refine State.sunWrite_fr ?_
      | with_reducible refine State.trWrite_fr ?_
      | with_reducible refine State.wktWrite_fr ?_
      | with_reducible refine Fr.ite ?_ ?_
      | with_reducible refine Fr.cond ?_ ?_
      | with_reducible assumption
      | (refine Fr.of_snd (by assumption) ?_)
      | (refine Fr.of_fst (by assumption) ?_)
      | split
      | (unfold v; split)
      | (unfold v; clear_value *; split)
      | (clear_value *; split)

theorem State.kioskWrite_fr {κ : Nat} {s0 s : State} {g : ℕ} {a : ℕ} {w : Word} (hf_ : Fr κ s0 s) (hk_ : 0x1fffffffffffffffffffffffffffffffffffffffffffffffffffffffffffffffffffffffff6 &&& κ = 0x1fffffffffffffffffffffffffffffffffffffffffffffffffffffffffffffffffffffffff6 := by decide) :
    Fr κ s0 (State.kioskWrite s g a w) := by
  refine Fr.lift hf_ hk_ ?_
  clear hf_ hk_
  unfold State.kioskWrite
  have h0 := Fr.refl 0x1fffffffffffffffffffffffffffffffffffffffffffffffffffffffffffffffffffffffff6 s
  repeat' first
      | ((try lift_lets); intro v; refine_lift have hv : Fr 0x1fffffffffffffffffffffffffffffffffffffffffffffffffffffffffffffffffffffffff6 s v := ?_; ?_; clear_value v)
      | ((try lift_lets); intro v)
      | with_reducible refine State.regWrite_fr ?_
      | with_reducible refine State.setReply_fr ?_
      | with_reducible refine Fr.ite ?_ ?_
      | with_reducible refine Fr.cond ?_ ?_
      | with_reducible assumption
      | (refine Fr.of_snd (by assumption) ?_)
      | (refine Fr.of_fst (by assumption) ?_)
      | split
      | (unfold v; split)
      | (unfold v; clear_value *; split)
      | (clear_value *; split)

theorem execRegisterWrite_fr {s t_ : State} {a : ℕ} {w : Word} (e_ : execRegisterWrite a w s = .next t_) : Fr 0x1fffffffffffffffffffffffffffffffffffffffffffffffffffffffffffffffffffffffff6 s t_ := by
  unfold execRegisterWrite at e_
  obtain rfl := Host.Outcome.next.inj e_
  clear e_
  have h0 := Fr.refl 0x1fffffffffffffffffffffffffffffffffffffffffffffffffffffffffffffffffffffffff6 s
  repeat' first
      | ((try lift_lets); intro v; refine_lift have hv : Fr 0x1fffffffffffffffffffffffffffffffffffffffffffffffffffffffffffffffffffffffff6 s v := ?_; ?_; clear_value v)
      | ((try lift_lets); intro v)
      | with_reducible refine State.regWrite_fr ?_
      | with_reducible refine Fr.running ?_ (fun t ht => ?_)
      | with_reducible refine Fr.ite ?_ ?_
      | with_reducible refine Fr.cond ?_ ?_
      | with_reducible assumption
      | (refine Fr.of_snd (by assumption) ?_)
      | (refine Fr.of_fst (by assumption) ?_)
      | split
      | (unfold v; split)
      | (unfold v; clear_value *; split)
      | (clear_value *; split)

theorem execPwmCtrlWrite_fr {s t_ : State} {x : Axis} {w : Word} (e_ : execPwmCtrlWrite x w s = .next t_) : Fr 0xc3c03000008004bc1c000c60003ce2002dd01e000f000380000008001fe31a4180aa1ff7f0 s t_ := by
  unfold execPwmCtrlWrite at e_
  obtain rfl := Host.Outcome.next.inj e_
  clear e_
  have h0 := Fr.refl 0xc3c03000008004bc1c000c60003ce2002dd01e000f000380000008001fe31a4180aa1ff7f0 s
  repeat' first
      | ((try lift_lets); intro v; refine_lift have hv : Fr 0xc3c03000008004bc1c000c60003ce2002dd01e000f000380000008001fe31a4180aa1ff7f0 s v := ?_; ?_; clear_value v)
      | ((try lift_lets); intro v)
      | with_reducible refine State.ctrlWrite_fr ?_
      | with_reducible refine State.idleCommit_fr ?_
      | with_reducible refine Fr.running ?_ (fun t ht => ?_)
      | with_reducible refine Fr.ite ?_ ?_
      | with_reducible refine Fr.cond ?_ ?_
      | with_reducible assumption
      | (refine Fr.of_snd (by assumption) ?_)
      | (refine Fr.of_fst (by assumption) ?_)
      | split
      | (unfold v; split)
      | (unfold v; clear_value *; split)
      | (clear_value *; split)

theorem State.actRun_fr {κ : Nat} {s0 s : State} {n : ℕ} {code : ℕ} {arg : ℕ} (hf_ : Fr κ s0 s) (hk_ : 0x2c0100000000080000000400000000000000000000001000000080000000240000201e400 &&& κ = 0x2c0100000000080000000400000000000000000000001000000080000000240000201e400 := by decide) :
    Fr κ s0 (State.actRun s n code arg) := by
  refine Fr.lift hf_ hk_ ?_
  clear hf_ hk_
  unfold State.actRun
  have h0 := Fr.refl 0x2c0100000000080000000400000000000000000000001000000080000000240000201e400 s
  repeat' first
      | ((try lift_lets); intro v; refine_lift have hv : Fr 0x2c0100000000080000000400000000000000000000001000000080000000240000201e400 s v := ?_; ?_; clear_value v)
      | ((try lift_lets); intro v)
      | with_reducible refine State.cmdArrive_fr ?_
      | with_reducible refine State.pglTrigReg_fr ?_
      | with_reducible refine Fr.ite ?_ ?_
      | with_reducible refine Fr.cond ?_ ?_
      | with_reducible assumption
      | (refine Fr.of_snd (by assumption) ?_)
      | (refine Fr.of_fst (by assumption) ?_)
      | split
      | (unfold v; split)
      | (unfold v; clear_value *; split)
      | (clear_value *; split)

theorem State.fireSlot_fr {κ : Nat} {s0 s : State} {n : Nat} (hf_ : Fr κ s0 s) (hk_ : 0x2c0100000000080000000400000000000000000000001000000080000000240000201e400 &&& κ = 0x2c0100000000080000000400000000000000000000001000000080000000240000201e400 := by decide) :
    Fr κ s0 (State.fireSlot s n) := by
  refine Fr.lift hf_ hk_ ?_
  clear hf_ hk_
  unfold State.fireSlot
  have h0 := Fr.refl 0x2c0100000000080000000400000000000000000000001000000080000000240000201e400 s
  repeat' first
      | ((try lift_lets); intro v; refine_lift have hv : Fr 0x2c0100000000080000000400000000000000000000001000000080000000240000201e400 s v := ?_; ?_; clear_value v)
      | ((try lift_lets); intro v)
      | with_reducible refine State.actRun_fr ?_
      | with_reducible refine State.event_fr ?_
      | with_reducible refine State.set_fr ?_
      | with_reducible refine Fr.ite ?_ ?_
      | with_reducible refine Fr.cond ?_ ?_
      | with_reducible assumption
      | with_reducible exact Fr.id_ (by with_reducible assumption)
      | (refine Fr.of_snd (by assumption) ?_)
      | (refine Fr.of_fst (by assumption) ?_)
      | split
      | (unfold v; split)
      | (unfold v; clear_value *; split)
      | (clear_value *; split)

theorem State.fireSlots_fr {κ : Nat} {s0 s : State} {n : Nat} (hf_ : Fr κ s0 s) (hk_ : 0x2c0100000000080000000400000000000000000000001000000080000000240000201e400 &&& κ = 0x2c0100000000080000000400000000000000000000001000000080000000240000201e400 := by decide) :
    Fr κ s0 (State.fireSlots s n) := by
  refine Fr.lift hf_ hk_ ?_
  clear hf_ hk_
  unfold State.fireSlots
  have h0 := Fr.refl 0x2c0100000000080000000400000000000000000000001000000080000000240000201e400 s
  repeat' first
      | ((try lift_lets); intro v; refine_lift have hv : Fr 0x2c0100000000080000000400000000000000000000001000000080000000240000201e400 s v := ?_; ?_; clear_value v)
      | ((try lift_lets); intro v)
      | with_reducible refine State.fireSlot_fr ?_
      | with_reducible refine Fr.forEach ?_ (fun t a ht => ?_)
      | with_reducible refine Fr.ite ?_ ?_
      | with_reducible refine Fr.cond ?_ ?_
      | with_reducible assumption
      | with_reducible exact Fr.id_ (by with_reducible assumption)
      | (refine Fr.of_snd (by assumption) ?_)
      | (refine Fr.of_fst (by assumption) ?_)
      | split
      | (unfold v; split)
      | (unfold v; clear_value *; split)
      | (clear_value *; split)

theorem execActionFired_fr {s t_ : State} {n : ℕ} (e_ : execActionFired n s = .next t_) : Fr 0x2c0100000000080000000400000000000000000000001000000080000000240000201e400 s t_ := by
  unfold execActionFired at e_
  obtain rfl := Host.Outcome.next.inj e_
  clear e_
  have h0 := Fr.refl 0x2c0100000000080000000400000000000000000000001000000080000000240000201e400 s
  repeat' first
      | ((try lift_lets); intro v; refine_lift have hv : Fr 0x2c0100000000080000000400000000000000000000001000000080000000240000201e400 s v := ?_; ?_; clear_value v)
      | ((try lift_lets); intro v)
      | with_reducible refine State.fireSlots_fr ?_
      | with_reducible refine State.actRun_fr ?_
      | with_reducible refine State.event_fr ?_
      | with_reducible refine State.set_fr ?_
      | with_reducible refine Fr.running ?_ (fun t ht => ?_)
      | with_reducible refine Fr.ite ?_ ?_
      | with_reducible refine Fr.cond ?_ ?_
      | with_reducible assumption
      | (refine Fr.of_snd (by assumption) ?_)
      | (refine Fr.of_fst (by assumption) ?_)
      | split
      | (unfold v; split)
      | (unfold v; clear_value *; split)
      | (clear_value *; split)

end Sys2Proof.Machine
end

