-- ==== Sys2Proof/Laws/FrameOperands.lean ====
section
/-! SUPPORT. Frames of the operations of Machine/Operands.lean: one lemma each (Laws/Frame.lean). -/

namespace Sys2Proof.Machine

set_option Elab.async false

theorem State.recWords_fr {κ : Nat} {s0 s : State} {l : List Word} {o n : Nat} (hf_ : Fr κ s0 s)
    (hk_ : 0x80000000 &&& κ = 0x80000000 := by decide) : Fr κ s0 (State.recWords s l o n).2 := by
  refine Fr.lift hf_ hk_ ?_
  clear hf_ hk_ s0
  induction n generalizing s o with
  | zero => exact Fr.refl _ _
  | succ n ih =>
    unfold State.recWords
    dsimp only
    refine Fr.trans ?_ ih
    split
    · exact Fr.refl _ _
    · exact State.freshWord_fr (Fr.refl _ _)

theorem State.memWords_fr {κ : Nat} {s0 s : State} {g : ℕ} {a : ℕ} {n : ℕ} (hf_ : Fr κ s0 s) (hk_ : 0xc3c03000008004bc1c0004600000000020400000000000000000000000001a4180aa07f5e0 &&& κ = 0xc3c03000008004bc1c0004600000000020400000000000000000000000001a4180aa07f5e0 := by decide) :
    Fr κ s0 (State.memWords s g a n).2 := by
  refine Fr.lift hf_ hk_ ?_
  clear hf_ hk_
  unfold State.memWords
  have h0 := Fr.refl 0xc3c03000008004bc1c0004600000000020400000000000000000000000001a4180aa07f5e0 s
  repeat' first
      | ((try lift_lets); intro v; refine_lift have hv : Fr 0xc3c03000008004bc1c0004600000000020400000000000000000000000001a4180aa07f5e0 s v := ?_; ?_; clear_value v)
      | ((try lift_lets); intro v)
      | with_reducible refine State.readMem_fr ?_
      | with_reducible refine Fr.ite ?_ ?_
      | with_reducible refine Fr.cond ?_ ?_
      | with_reducible assumption
      | (refine Fr.of_snd (by assumption) ?_)
      | (refine Fr.of_fst (by assumption) ?_)
      | split
      | (unfold v; split)
      | (unfold v; clear_value *; split)
      | (clear_value *; split)

theorem periodRegs_in (x : Axis) : (periodRegs x).all (fun a => (0x800000040018022e00020000000000000000000000018020 : Nat).testBit (32 + fam a)) = true := by
  cases x <;> simp [periodRegs] <;> decide

theorem periodRegs_at {κ : Nat} (x : Axis) (hk : 0x800000040018022e00020000000000000000000000018020 &&& κ = 0x800000040018022e00020000000000000000000000018020) : (periodRegs x).all (fun a => κ.testBit (32 + fam a)) = true := by
  have h := periodRegs_in x
  rw [List.all_eq_true] at h ⊢
  exact fun a ha => testBit_of_and hk (h a ha)

theorem State.periodView_fr {κ : Nat} {s0 s : State} {g : Nat} (hf_ : Fr κ s0 s) (hk_ : 0x800000040018022e00020000000000000000000000018020 &&& κ = 0x800000040018022e00020000000000000000000000018020 := by decide) :
    Fr κ s0 (State.periodView s g) := by
  refine Fr.lift hf_ hk_ ?_
  clear hf_ hk_
  unfold State.periodView
  have h0 := Fr.refl 0x800000040018022e00020000000000000000000000018020 s
  split
  · exact h0
  · have hb : ∀ (l : List (Nat × List Byte)), Fr 0x800000040018022e00020000000000000000000000018020 s (s.forEach l (fun s b =>
        match s.img.sects[b.1]? with | some c => s.setBytes c.base b.2 | none => s)) := fun l =>
      Fr.forEach h0 (fun t a ht => by split; exacts [State.setBytes_fr ht, ht])
    dsimp only
    split
    · exact State.modSv_fr (Fr.forEachReg (hb _) (fun t a ha ht => State.wr_fr ht ha) (periodRegs_in _))
    · exact hb _

theorem State.forPeriod_fr {κ : Nat} {s0 s : State} {g : Nat} {f : State → State} (h : Fr κ s0 s)
    (hf : ∀ t, Fr κ s0 t → Fr κ s0 (f t)) (hk_ : 0x800000040018022e00020000000000000000000000018020 &&& κ = 0x800000040018022e00020000000000000000000000018020 := by decide) :
    Fr κ s0 (State.forPeriod s g f) := by
  have h1 := hf _ (State.periodView_fr (g := g) h hk_)
  unfold State.forPeriod
  generalize f (s.periodView g) = u at h1
  dsimp only
  split
  · exact h1
  · have hb : ∀ (l : List (Nat × List Byte)), Fr κ s0 (u.forEach l (fun t b =>
        match s.img.sects[b.1]? with | some c => t.setBytes c.base (s.bytes c.base b.2.length) | none => t)) := fun l =>
      Fr.forEach h1 (fun t a ht => by split; exacts [State.setBytes_fr ht (and_sub hk_ (by decide)), ht])
    split
    · exact State.modSv_fr (Fr.forEachReg (hb _) (fun t a ha ht => State.wr_fr ht ha) (periodRegs_at _ hk_)) (and_sub hk_ (by decide))
    · exact hb _

theorem State.opRead_fr {κ : Nat} {s0 s : State} {k : ℕ} {r : Run} {w : Word} {n : ℕ} (hf_ : Fr κ s0 s) (hk_ : 0xc3c03000008004bc1c0004600000000020400000000000000000000000001a4180aa07f5e0 &&& κ = 0xc3c03000008004bc1c0004600000000020400000000000000000000000001a4180aa07f5e0 := by decide) :
    Fr κ s0 (State.opRead s k r w n).2 := by
  refine Fr.lift hf_ hk_ ?_
  clear hf_ hk_
  unfold State.opRead
  have h0 := Fr.refl 0xc3c03000008004bc1c0004600000000020400000000000000000000000001a4180aa07f5e0 s
  repeat' first
      | ((try lift_lets); intro v; refine_lift have hv : Fr 0xc3c03000008004bc1c0004600000000020400000000000000000000000001a4180aa07f5e0 s v := ?_; ?_; clear_value v)
      | ((try lift_lets); intro v)
      | with_reducible refine State.memWords_fr ?_
      | with_reducible refine State.recWords_fr ?_
      | with_reducible refine Fr.ite ?_ ?_
      | with_reducible refine Fr.cond ?_ ?_
      | with_reducible assumption
      | (refine Fr.of_snd (by assumption) ?_)
      | (refine Fr.of_fst (by assumption) ?_)
      | split
      | (unfold v; split)
      | (unfold v; clear_value *; split)
      | (clear_value *; split)

theorem State.readAll_fr {κ : Nat} {s0 s : State} {k : ℕ} {r : Run} {l : List (Word × ℕ)} (hf_ : Fr κ s0 s) (hk_ : 0xc3c03000008004bc1c0004600000000020400000000000000000000000001a4180aa07f5e0 &&& κ = 0xc3c03000008004bc1c0004600000000020400000000000000000000000001a4180aa07f5e0 := by decide) :
    Fr κ s0 (State.readAll s k r l).2 := by
  refine Fr.lift hf_ hk_ ?_
  clear hf_ hk_ s0
  revert s
  induction l generalizing k r with
  | nil =>
    intro s
    unfold State.readAll
    (
    have h0 := Fr.refl 0xc3c03000008004bc1c0004600000000020400000000000000000000000001a4180aa07f5e0 s
    repeat' first
        | ((try lift_lets); intro v; refine_lift have hv : Fr 0xc3c03000008004bc1c0004600000000020400000000000000000000000001a4180aa07f5e0 s v := ?_; ?_; clear_value v)
        | ((try lift_lets); intro v)
        | with_reducible refine State.opRead_fr ?_
        | with_reducible refine Fr.ite ?_ ?_
        | with_reducible refine Fr.cond ?_ ?_
        | with_reducible assumption
        | (refine Fr.of_snd (by assumption) ?_)
        | (refine Fr.of_fst (by assumption) ?_)
        | split
        | (unfold v; split)
        | (unfold v; clear_value *; split)
        | (clear_value *; split)
        | (injections; subst_vars))
  | cons c_ r_ ih =>
    intro s
    unfold State.readAll
    (
    have h0 := Fr.refl 0xc3c03000008004bc1c0004600000000020400000000000000000000000001a4180aa07f5e0 s
    repeat' first
        | ((try lift_lets); intro v; refine_lift have hv : Fr 0xc3c03000008004bc1c0004600000000020400000000000000000000000001a4180aa07f5e0 s v := ?_; ?_; clear_value v)
        | ((try lift_lets); intro v)
        | with_reducible refine State.opRead_fr ?_
        | with_reducible refine Fr.trans ?_ ih
        | with_reducible refine Fr.ite ?_ ?_
        | with_reducible refine Fr.cond ?_ ?_
        | with_reducible assumption
        | (refine Fr.of_snd (by assumption) ?_)
        | (refine Fr.of_fst (by assumption) ?_)
        | split
        | (unfold v; split)
        | (unfold v; clear_value *; split)
        | (clear_value *; split)
        | (injections; subst_vars))

theorem State.reading_fr {m : Nat} {s0 s : State} {k : Nat} {r : Run} {l : List (Word × Nat)} {f : State → List (List Word) → State}
    (h : Fr m s0 s) (hf : ∀ t vs, Fr m s0 t → Fr m s0 (f t vs)) (hk : 0xc3c03000008004bc1c0004600000000020400000000000000000000000007a4180aa07f5e0 &&& m = 0xc3c03000008004bc1c0004600000000020400000000000000000000000007a4180aa07f5e0 := by decide) :
    Fr m s0 (State.reading s k r l f) := by
  have h2 : Fr m s0 (s.readAll k r l).2 := State.readAll_fr h (and_sub hk (by decide))
  unfold State.reading
  split
  · rename_i e; rw [e] at h2; exact hf _ _ h2
  · rename_i e; rw [e] at h2; exact State.abandon_fr h2 (and_sub hk (by decide))

theorem State.opWriteRegs_fr {κ : Nat} {s0 s : State} {k : ℕ} {g : ℕ} {a : ℕ} {vs : List Word} (hf_ : Fr κ s0 s) (hk_ : 0x1fffffffffffffffffffffffffffffffffffffffffffffffffffffffffffffffffffffffff6 &&& κ = 0x1fffffffffffffffffffffffffffffffffffffffffffffffffffffffffffffffffffffffff6 := by decide) :
    Fr κ s0 (State.opWriteRegs s k g a vs).2 := by
  refine Fr.lift hf_ hk_ ?_
  clear hf_ hk_ s0
  revert s
  induction vs generalizing k g a with
  | nil =>
    intro s
    unfold State.opWriteRegs
    (
    have h0 := Fr.refl 0x1fffffffffffffffffffffffffffffffffffffffffffffffffffffffffffffffffffffffff6 s
    repeat' first
        | ((try lift_lets); intro v; refine_lift have hv : Fr 0x1fffffffffffffffffffffffffffffffffffffffffffffffffffffffffffffffffffffffff6 s v := ?_; ?_; clear_value v)
        | ((try lift_lets); intro v)
        | with_reducible refine State.kioskWrite_fr ?_
        | with_reducible refine Fr.ite ?_ ?_
        | with_reducible refine Fr.cond ?_ ?_
        | with_reducible assumption
        | (refine Fr.of_snd (by assumption) ?_)
        | (refine Fr.of_fst (by assumption) ?_)
        | split
        | (unfold v; split)
        | (unfold v; clear_value *; split)
        | (clear_value *; split)
        | (injections; subst_vars))
  | cons c_ r_ ih =>
    intro s
    unfold State.opWriteRegs
    (
    have h0 := Fr.refl 0x1fffffffffffffffffffffffffffffffffffffffffffffffffffffffffffffffffffffffff6 s
    repeat' first
        | ((try lift_lets); intro v; refine_lift have hv : Fr 0x1fffffffffffffffffffffffffffffffffffffffffffffffffffffffffffffffffffffffff6 s v := ?_; ?_; clear_value v)
        | ((try lift_lets); intro v)
        | with_reducible refine State.kioskWrite_fr ?_
        | with_reducible refine Fr.trans ?_ ih
        | with_reducible refine Fr.ite ?_ ?_
        | with_reducible refine Fr.cond ?_ ?_
        | with_reducible assumption
        | (refine Fr.of_snd (by assumption) ?_)
        | (refine Fr.of_fst (by assumption) ?_)
        | split
        | (unfold v; split)
        | (unfold v; clear_value *; split)
        | (clear_value *; split)
        | (injections; subst_vars))

theorem State.opWrite_fr {κ : Nat} {s0 s : State} {k : ℕ} {g : ℕ} {w : Word} {o : ℕ} {vs : List Word} (hf_ : Fr κ s0 s) (hk_ : 0x1fffffffffffffffffffffffffffffffffffffffffffffffffffffffffffffffffffffffff6 &&& κ = 0x1fffffffffffffffffffffffffffffffffffffffffffffffffffffffffffffffffffffffff6 := by decide) :
    Fr κ s0 (State.opWrite s k g w o vs).2 := by
  refine Fr.lift hf_ hk_ ?_
  clear hf_ hk_
  unfold State.opWrite
  have h0 := Fr.refl 0x1fffffffffffffffffffffffffffffffffffffffffffffffffffffffffffffffffffffffff6 s
  repeat' first
      | ((try lift_lets); intro v; refine_lift have hv : Fr 0x1fffffffffffffffffffffffffffffffffffffffffffffffffffffffffffffffffffffffff6 s v := ?_; ?_; clear_value v)
      | ((try lift_lets); intro v)
      | with_reducible refine State.modRun_fr ?_
      | with_reducible refine State.opWriteRegs_fr ?_
      | with_reducible refine State.writeMem_fr ?_
      | with_reducible refine Fr.ite ?_ ?_
      | with_reducible refine Fr.cond ?_ ?_
      | with_reducible assumption
      | (refine Fr.of_snd (by assumption) ?_)
      | (refine Fr.of_fst (by assumption) ?_)
      | split
      | (unfold v; split)
      | (unfold v; clear_value *; split)
      | (clear_value *; split)

theorem State.writing_fr {m : Nat} {s0 s : State} {k g : Nat} {l : List (Word × Nat × List Word)} {f : State → State}
    (h : Fr m s0 s) (hf : ∀ t, Fr m s0 t → Fr m s0 (f t)) (hk : 0x1fffffffffffffffffffffffffffffffffffffffffffffffffffffffffffffffffffffffff6 &&& m = 0x1fffffffffffffffffffffffffffffffffffffffffffffffffffffffffffffffffffffffff6 := by decide) :
    Fr m s0 (State.writing s k g l f) := by
  induction l generalizing s with
  | nil => exact hf _ h
  | cons e r ih =>
    have h2 : Fr m s0 (s.opWrite k g e.1 e.2.1 e.2.2).2 := State.opWrite_fr h (and_sub hk (by decide))
    unfold State.writing
    split
    · rename_i e; rw [e] at h2; exact ih h2
    · rename_i e; rw [e] at h2; exact State.abandon_fr h2 (and_sub hk (by decide))

theorem State.addSteps_fr {κ : Nat} {s0 s : State} {k : ℕ} {n : ℕ} (hf_ : Fr κ s0 s) (hk_ : 0x400 &&& κ = 0x400 := by decide) :
    Fr κ s0 (State.addSteps s k n) := by
  refine Fr.lift hf_ hk_ ?_
  clear hf_ hk_
  unfold State.addSteps
  have h0 := Fr.refl 0x400 s
  repeat' first
      | ((try lift_lets); intro v; refine_lift have hv : Fr 0x400 s v := ?_; ?_; clear_value v)
      | ((try lift_lets); intro v)
      | with_reducible refine State.modRun_fr ?_
      | with_reducible refine Fr.ite ?_ ?_
      | with_reducible refine Fr.cond ?_ ?_
      | with_reducible assumption
      | (refine Fr.of_snd (by assumption) ?_)
      | (refine Fr.of_fst (by assumption) ?_)
      | split
      | (unfold v; split)
      | (unfold v; clear_value *; split)
      | (clear_value *; split)

theorem State.touchWords_fr {κ : Nat} {s0 s : State} {l : List Nat} (hf_ : Fr κ s0 s) (hk_ : 0x8000000 &&& κ = 0x8000000 := by decide) :
    Fr κ s0 (State.touchWords s l).2 := by
  refine Fr.lift hf_ hk_ ?_
  clear hf_ hk_ s0
  induction l generalizing s with
  | nil => exact Fr.refl _ _
  | cons a r ih =>
    unfold State.touchWords
    split
    · exact (State.touchLine_fr (κ := 0x8000000) (Fr.refl _ s)).trans ih
    · exact Fr.refl _ _

theorem State.opBegin_fr {κ : Nat} {s0 s : State} {k : Nat} {op : Nat} {ws : List Word} {fetched : Nat} (hf_ : Fr κ s0 s) (hk_ : 0x400 &&& κ = 0x400 := by decide) :
    Fr κ s0 (State.opBegin s k op ws fetched) := by
  refine Fr.lift hf_ hk_ ?_
  clear hf_ hk_
  unfold State.opBegin
  have h0 := Fr.refl 0x400 s
  repeat' first
      | ((try lift_lets); intro v; refine_lift have hv : Fr 0x400 s v := ?_; ?_; clear_value v)
      | ((try lift_lets); intro v)
      | with_reducible refine State.modRun_fr ?_
      | with_reducible refine Fr.ite ?_ ?_
      | with_reducible refine Fr.cond ?_ ?_
      | with_reducible assumption
      | with_reducible exact Fr.id_ (by with_reducible assumption)
      | (refine Fr.of_snd (by assumption) ?_)
      | (refine Fr.of_fst (by assumption) ?_)
      | split
      | (unfold v; split)
      | (unfold v; clear_value *; split)
      | (clear_value *; split)

theorem State.operator_fr {m : Nat} {s0 s : State} {k op : Nat} {ws : List Word} {f : State → Run → State} (h : Fr m s0 s)
    (hf : ∀ t r, Fr m s0 t → Fr m s0 (f t r)) (hk : 0xc3c03700008004bc1c000460000000002040000000000000000000000000624000aa07f420 &&& m = 0xc3c03700008004bc1c000460000000002040000000000000000000000000624000aa07f420 := by decide) :
    Fr m s0 (State.operator s k op ws f) := by
  unfold State.operator
  refine Fr.running h (fun t ht => ?_)
  split
  · exact ht
  · rename_i r hr
    split
    · split
      · exact State.abandon_fr ht (and_sub hk (by decide))
      · have h2 := State.touchWords_fr (l := t.fetchWords r op ws) ht (and_sub hk (by decide))
        dsimp only
        split <;> rename_i e <;> rw [e] at h2
        · exact State.windowStall_fr h2 (and_sub hk (by decide))
        · exact hf _ _ (State.opBegin_fr h2 (and_sub hk (by decide)))
    · exact ht

theorem State.arith_fr {κ : Nat} {s0 s : State} {k : ℕ} {op : ℕ} {d : Word} {ins : List Word} {f : (ℕ → Word) → Word} (hf_ : Fr κ s0 s) (hk_ : 0x1fffffffffffffffffffffffffffffffffffffffffffffffffffffffffffffffffffffffff6 &&& κ = 0x1fffffffffffffffffffffffffffffffffffffffffffffffffffffffffffffffffffffffff6 := by decide) :
    Fr κ s0 (State.arith s k op d ins f) := by
  refine Fr.lift hf_ hk_ ?_
  clear hf_ hk_
  unfold State.arith
  have h0 := Fr.refl 0x1fffffffffffffffffffffffffffffffffffffffffffffffffffffffffffffffffffffffff6 s
  repeat' first
      | ((try lift_lets); intro v; refine_lift have hv : Fr 0x1fffffffffffffffffffffffffffffffffffffffffffffffffffffffffffffffffffffffff6 s v := ?_; ?_; clear_value v)
      | ((try lift_lets); intro v)
      | with_reducible refine State.operator_fr ?_ (fun t r ht => ?_)
      | with_reducible refine State.reading_fr ?_ (fun t vs ht => ?_)
      | with_reducible refine State.writing_fr ?_ (fun t ht => ?_)
      | with_reducible refine Fr.ite ?_ ?_
      | with_reducible refine Fr.cond ?_ ?_
      | with_reducible assumption
      | with_reducible exact Fr.id_ (by with_reducible assumption)
      | (refine Fr.of_snd (by assumption) ?_)
      | (refine Fr.of_fst (by assumption) ?_)
      | split
      | (unfold v; split)
      | (unfold v; clear_value *; split)
      | (clear_value *; split)

theorem State.setNumeric_fr {κ : Nat} {s0 s : State} {k : ℕ} (hf_ : Fr κ s0 s) (hk_ : 0x400 &&& κ = 0x400 := by decide) :
    Fr κ s0 (State.setNumeric s k) := by
  refine Fr.lift hf_ hk_ ?_
  clear hf_ hk_
  unfold State.setNumeric
  have h0 := Fr.refl 0x400 s
  repeat' first
      | ((try lift_lets); intro v; refine_lift have hv : Fr 0x400 s v := ?_; ?_; clear_value v)
      | ((try lift_lets); intro v)
      | with_reducible refine State.modRun_fr ?_
      | with_reducible refine Fr.ite ?_ ?_
      | with_reducible refine Fr.cond ?_ ?_
      | with_reducible assumption
      | (refine Fr.of_snd (by assumption) ?_)
      | (refine Fr.of_fst (by assumption) ?_)
      | split
      | (unfold v; split)
      | (unfold v; clear_value *; split)
      | (clear_value *; split)

theorem State.freshWords_fr {κ : Nat} {s0 s : State} {n : ℕ} (hf_ : Fr κ s0 s) (hk_ : 0x80000000 &&& κ = 0x80000000 := by decide) :
    Fr κ s0 (State.freshWords s n).2 := by
  refine Fr.lift hf_ hk_ ?_
  clear hf_ hk_ s0
  revert s
  induction n with
  | zero =>
    intro s
    unfold State.freshWords
    (
    have h0 := Fr.refl 0x80000000 s
    repeat' first
        | ((try lift_lets); intro v; refine_lift have hv : Fr 0x80000000 s v := ?_; ?_; clear_value v)
        | ((try lift_lets); intro v)
        | with_reducible refine State.freshWord_fr ?_
        | with_reducible refine Fr.ite ?_ ?_
        | with_reducible refine Fr.cond ?_ ?_
        | with_reducible assumption
        | (refine Fr.of_snd (by assumption) ?_)
        | (refine Fr.of_fst (by assumption) ?_)
        | split
        | (unfold v; split)
        | (unfold v; clear_value *; split)
        | (clear_value *; split)
        | (injections; subst_vars))
  | succ n_ ih =>
    intro s
    unfold State.freshWords
    (
    have h0 := Fr.refl 0x80000000 s
    repeat' first
        | ((try lift_lets); intro v; refine_lift have hv : Fr 0x80000000 s v := ?_; ?_; clear_value v)
        | ((try lift_lets); intro v)
        | with_reducible refine State.freshWord_fr ?_
        | with_reducible refine Fr.trans ?_ ih
        | with_reducible refine Fr.ite ?_ ?_
        | with_reducible refine Fr.cond ?_ ?_
        | with_reducible assumption
        | (refine Fr.of_snd (by assumption) ?_)
        | (refine Fr.of_fst (by assumption) ?_)
        | split
        | (unfold v; split)
        | (unfold v; clear_value *; split)
        | (clear_value *; split)
        | (injections; subst_vars))

theorem State.openWords_fr {κ : Nat} {s0 s : State} {w : Word} (hf_ : Fr κ s0 s) (hk_ : 0x80000000 &&& κ = 0x80000000 := by decide) :
    Fr κ s0 (State.openWords s w).2 := by
  refine Fr.lift hf_ hk_ ?_
  clear hf_ hk_
  unfold State.openWords
  have h0 := Fr.refl 0x80000000 s
  repeat' first
      | ((try lift_lets); intro v; refine_lift have hv : Fr 0x80000000 s v := ?_; ?_; clear_value v)
      | ((try lift_lets); intro v)
      | with_reducible refine State.freshNat_fr ?_
      | with_reducible refine State.freshWords_fr ?_
      | with_reducible refine Fr.ite ?_ ?_
      | with_reducible refine Fr.cond ?_ ?_
      | with_reducible assumption
      | (refine Fr.of_snd (by assumption) ?_)
      | (refine Fr.of_fst (by assumption) ?_)
      | split
      | (unfold v; split)
      | (unfold v; clear_value *; split)
      | (clear_value *; split)

end Sys2Proof.Machine
end

