-- ==== Sys2Proof/Laws/FrameArithmetic.lean ====
section
/-! SUPPORT. Frames of the operations of Machine/Arithmetic.lean: one lemma each (Laws/Frame.lean). -/

namespace Sys2Proof.Machine

set_option Elab.async false

theorem execMov_fr {s t_ : State} {k : ℕ} {flips : List (ℕ × Bool)} {d : Word} {a : Word} (e_ : execMov k flips d a s = .next t_) : Fr 0x1fffffffffffffffffffffffffffffffffffffffffffffffffffffffffffffffffffffffff6 s t_ := by
  unfold execMov at e_
  obtain rfl := Host.Outcome.next.inj e_
  clear e_
  have h0 := Fr.refl 0x1fffffffffffffffffffffffffffffffffffffffffffffffffffffffffffffffffffffffff6 s
  repeat' first
      | ((try lift_lets); intro v; refine_lift have hv : Fr 0x1fffffffffffffffffffffffffffffffffffffffffffffffffffffffffffffffffffffffff6 s v := ?_; ?_; clear_value v)
      | ((try lift_lets); intro v)
      | with_reducible refine State.operator_fr ?_ (fun t r ht => ?_)
      | with_reducible refine State.reading_fr ?_ (fun t vs ht => ?_)
      | with_reducible refine State.upsets_fr ?_
      | with_reducible refine State.writing_fr ?_ (fun t ht => ?_)
      | with_reducible refine Fr.ite ?_ ?_
      | with_reducible refine Fr.cond ?_ ?_
      | with_reducible assumption
      | with_reducible exact Fr.id_ (by with_reducible assumption)
      | (refine Fr.of_snd (by assumption) ?_)
      | (refine Fr.of_fst (by assumption) ?_)
      | split
      | (unfold v; split)
      | (unfold v; clear_value *; split)
      | (clear_value *; split)

theorem execAdd_fr {s t_ : State} {k : ℕ} {d : Word} {a : Word} {b : Word} (e_ : execAdd k d a b s = .next t_) : Fr 0x1fffffffffffffffffffffffffffffffffffffffffffffffffffffffffffffffffffffffff6 s t_ := by
  unfold execAdd at e_
  obtain rfl := Host.Outcome.next.inj e_
  clear e_
  have h0 := Fr.refl 0x1fffffffffffffffffffffffffffffffffffffffffffffffffffffffffffffffffffffffff6 s
  repeat' first
      | ((try lift_lets); intro v; refine_lift have hv : Fr 0x1fffffffffffffffffffffffffffffffffffffffffffffffffffffffffffffffffffffffff6 s v := ?_; ?_; clear_value v)
      | ((try lift_lets); intro v)
      | with_reducible refine State.arith_fr ?_
      | with_reducible refine Fr.ite ?_ ?_
      | with_reducible refine Fr.cond ?_ ?_
      | with_reducible assumption
      | (refine Fr.of_snd (by assumption) ?_)
      | (refine Fr.of_fst (by assumption) ?_)
      | split
      | (unfold v; split)
      | (unfold v; clear_value *; split)
      | (clear_value *; split)

theorem execSub_fr {s t_ : State} {k : ℕ} {d : Word} {a : Word} {b : Word} (e_ : execSub k d a b s = .next t_) : Fr 0x1fffffffffffffffffffffffffffffffffffffffffffffffffffffffffffffffffffffffff6 s t_ := by
  unfold execSub at e_
  obtain rfl := Host.Outcome.next.inj e_
  clear e_
  have h0 := Fr.refl 0x1fffffffffffffffffffffffffffffffffffffffffffffffffffffffffffffffffffffffff6 s
  repeat' first
      | ((try lift_lets); intro v; refine_lift have hv : Fr 0x1fffffffffffffffffffffffffffffffffffffffffffffffffffffffffffffffffffffffff6 s v := ?_; ?_; clear_value v)
      | ((try lift_lets); intro v)
      | with_reducible refine State.arith_fr ?_
      | with_reducible refine Fr.ite ?_ ?_
      | with_reducible refine Fr.cond ?_ ?_
      | with_reducible assumption
      | (refine Fr.of_snd (by assumption) ?_)
      | (refine Fr.of_fst (by assumption) ?_)
      | split
      | (unfold v; split)
      | (unfold v; clear_value *; split)
      | (clear_value *; split)

theorem execMul_fr {s t_ : State} {k : ℕ} {d : Word} {a : Word} {b : Word} (e_ : execMul k d a b s = .next t_) : Fr 0x1fffffffffffffffffffffffffffffffffffffffffffffffffffffffffffffffffffffffff6 s t_ := by
  unfold execMul at e_
  obtain rfl := Host.Outcome.next.inj e_
  clear e_
  have h0 := Fr.refl 0x1fffffffffffffffffffffffffffffffffffffffffffffffffffffffffffffffffffffffff6 s
  repeat' first
      | ((try lift_lets); intro v; refine_lift have hv : Fr 0x1fffffffffffffffffffffffffffffffffffffffffffffffffffffffffffffffffffffffff6 s v := ?_; ?_; clear_value v)
      | ((try lift_lets); intro v)
      | with_reducible refine State.arith_fr ?_
      | with_reducible refine Fr.ite ?_ ?_
      | with_reducible refine Fr.cond ?_ ?_
      | with_reducible assumption
      | (refine Fr.of_snd (by assumption) ?_)
      | (refine Fr.of_fst (by assumption) ?_)
      | split
      | (unfold v; split)
      | (unfold v; clear_value *; split)
      | (clear_value *; split)

theorem execMac_fr {s t_ : State} {k : ℕ} {d : Word} {a : Word} {b : Word} {c : Word} (e_ : execMac k d a b c s = .next t_) : Fr 0x1fffffffffffffffffffffffffffffffffffffffffffffffffffffffffffffffffffffffff6 s t_ := by
  unfold execMac at e_
  obtain rfl := Host.Outcome.next.inj e_
  clear e_
  have h0 := Fr.refl 0x1fffffffffffffffffffffffffffffffffffffffffffffffffffffffffffffffffffffffff6 s
  repeat' first
      | ((try lift_lets); intro v; refine_lift have hv : Fr 0x1fffffffffffffffffffffffffffffffffffffffffffffffffffffffffffffffffffffffff6 s v := ?_; ?_; clear_value v)
      | ((try lift_lets); intro v)
      | with_reducible refine State.arith_fr ?_
      | with_reducible refine Fr.ite ?_ ?_
      | with_reducible refine Fr.cond ?_ ?_
      | with_reducible assumption
      | (refine Fr.of_snd (by assumption) ?_)
      | (refine Fr.of_fst (by assumption) ?_)
      | split
      | (unfold v; split)
      | (unfold v; clear_value *; split)
      | (clear_value *; split)

theorem execDiv_fr {s t_ : State} {k : ℕ} {d : Word} {a : Word} {b : Word} (e_ : execDiv k d a b s = .next t_) : Fr 0x1fffffffffffffffffffffffffffffffffffffffffffffffffffffffffffffffffffffffff6 s t_ := by
  unfold execDiv at e_
  obtain rfl := Host.Outcome.next.inj e_
  clear e_
  have h0 := Fr.refl 0x1fffffffffffffffffffffffffffffffffffffffffffffffffffffffffffffffffffffffff6 s
  repeat' first
      | ((try lift_lets); intro v; refine_lift have hv : Fr 0x1fffffffffffffffffffffffffffffffffffffffffffffffffffffffffffffffffffffffff6 s v := ?_; ?_; clear_value v)
      | ((try lift_lets); intro v)
      | with_reducible refine State.arith_fr ?_
      | with_reducible refine Fr.ite ?_ ?_
      | with_reducible refine Fr.cond ?_ ?_
      | with_reducible assumption
      | (refine Fr.of_snd (by assumption) ?_)
      | (refine Fr.of_fst (by assumption) ?_)
      | split
      | (unfold v; split)
      | (unfold v; clear_value *; split)
      | (clear_value *; split)

theorem execSqrt_fr {s t_ : State} {k : ℕ} {d : Word} {a : Word} (e_ : execSqrt k d a s = .next t_) : Fr 0x1fffffffffffffffffffffffffffffffffffffffffffffffffffffffffffffffffffffffff6 s t_ := by
  unfold execSqrt at e_
  obtain rfl := Host.Outcome.next.inj e_
  clear e_
  have h0 := Fr.refl 0x1fffffffffffffffffffffffffffffffffffffffffffffffffffffffffffffffffffffffff6 s
  repeat' first
      | ((try lift_lets); intro v; refine_lift have hv : Fr 0x1fffffffffffffffffffffffffffffffffffffffffffffffffffffffffffffffffffffffff6 s v := ?_; ?_; clear_value v)
      | ((try lift_lets); intro v)
      | with_reducible refine State.arith_fr ?_
      | with_reducible refine Fr.ite ?_ ?_
      | with_reducible refine Fr.cond ?_ ?_
      | with_reducible assumption
      | (refine Fr.of_snd (by assumption) ?_)
      | (refine Fr.of_fst (by assumption) ?_)
      | split
      | (unfold v; split)
      | (unfold v; clear_value *; split)
      | (clear_value *; split)

theorem execAbs_fr {s t_ : State} {k : ℕ} {d : Word} {a : Word} (e_ : execAbs k d a s = .next t_) : Fr 0x1fffffffffffffffffffffffffffffffffffffffffffffffffffffffffffffffffffffffff6 s t_ := by
  unfold execAbs at e_
  obtain rfl := Host.Outcome.next.inj e_
  clear e_
  have h0 := Fr.refl 0x1fffffffffffffffffffffffffffffffffffffffffffffffffffffffffffffffffffffffff6 s
  repeat' first
      | ((try lift_lets); intro v; refine_lift have hv : Fr 0x1fffffffffffffffffffffffffffffffffffffffffffffffffffffffffffffffffffffffff6 s v := ?_; ?_; clear_value v)
      | ((try lift_lets); intro v)
      | with_reducible refine State.arith_fr ?_
      | with_reducible refine Fr.ite ?_ ?_
      | with_reducible refine Fr.cond ?_ ?_
      | with_reducible assumption
      | (refine Fr.of_snd (by assumption) ?_)
      | (refine Fr.of_fst (by assumption) ?_)
      | split
      | (unfold v; split)
      | (unfold v; clear_value *; split)
      | (clear_value *; split)

theorem execMin2_fr {s t_ : State} {k : ℕ} {d : Word} {a : Word} {b : Word} (e_ : execMin2 k d a b s = .next t_) : Fr 0x1fffffffffffffffffffffffffffffffffffffffffffffffffffffffffffffffffffffffff6 s t_ := by
  unfold execMin2 at e_
  obtain rfl := Host.Outcome.next.inj e_
  clear e_
  have h0 := Fr.refl 0x1fffffffffffffffffffffffffffffffffffffffffffffffffffffffffffffffffffffffff6 s
  repeat' first
      | ((try lift_lets); intro v; refine_lift have hv : Fr 0x1fffffffffffffffffffffffffffffffffffffffffffffffffffffffffffffffffffffffff6 s v := ?_; ?_; clear_value v)
      | ((try lift_lets); intro v)
      | with_reducible refine State.arith_fr ?_
      | with_reducible refine Fr.ite ?_ ?_
      | with_reducible refine Fr.cond ?_ ?_
      | with_reducible assumption
      | (refine Fr.of_snd (by assumption) ?_)
      | (refine Fr.of_fst (by assumption) ?_)
      | split
      | (unfold v; split)
      | (unfold v; clear_value *; split)
      | (clear_value *; split)

theorem execMax2_fr {s t_ : State} {k : ℕ} {d : Word} {a : Word} {b : Word} (e_ : execMax2 k d a b s = .next t_) : Fr 0x1fffffffffffffffffffffffffffffffffffffffffffffffffffffffffffffffffffffffff6 s t_ := by
  unfold execMax2 at e_
  obtain rfl := Host.Outcome.next.inj e_
  clear e_
  have h0 := Fr.refl 0x1fffffffffffffffffffffffffffffffffffffffffffffffffffffffffffffffffffffffff6 s
  repeat' first
      | ((try lift_lets); intro v; refine_lift have hv : Fr 0x1fffffffffffffffffffffffffffffffffffffffffffffffffffffffffffffffffffffffff6 s v := ?_; ?_; clear_value v)
      | ((try lift_lets); intro v)
      | with_reducible refine State.arith_fr ?_
      | with_reducible refine Fr.ite ?_ ?_
      | with_reducible refine Fr.cond ?_ ?_
      | with_reducible assumption
      | (refine Fr.of_snd (by assumption) ?_)
      | (refine Fr.of_fst (by assumption) ?_)
      | split
      | (unfold v; split)
      | (unfold v; clear_value *; split)
      | (clear_value *; split)

theorem State.clampOpen_fr {κ : Nat} {s0 s : State} {lo : Word} {hi : Word} {v : Word} (hf_ : Fr κ s0 s) (hk_ : 0x80000000 &&& κ = 0x80000000 := by decide) :
    Fr κ s0 (State.clampOpen s lo hi v).2 := by
  refine Fr.lift hf_ hk_ ?_
  clear hf_ hk_
  unfold State.clampOpen
  have h0 := Fr.refl 0x80000000 s
  repeat' first
      | ((try lift_lets); intro v; refine_lift have hv : Fr 0x80000000 s v := ?_; ?_; clear_value v)
      | ((try lift_lets); intro v)
      | with_reducible refine State.spent_fr ?_
      | with_reducible refine State.freshWord_fr ?_
      | with_reducible refine Fr.ite ?_ ?_
      | with_reducible refine Fr.cond ?_ ?_
      | with_reducible assumption
      | (refine Fr.of_snd (by assumption) ?_)
      | (refine Fr.of_fst (by assumption) ?_)
      | split
      | (unfold v; split)
      | (unfold v; clear_value *; split)
      | (clear_value *; split)

theorem execLim_fr {s t_ : State} {k : ℕ} {d : Word} {a : Word} {lo : Word} {hi : Word} (e_ : execLim k d a lo hi s = .next t_) : Fr 0x1fffffffffffffffffffffffffffffffffffffffffffffffffffffffffffffffffffffffff6 s t_ := by
  unfold execLim at e_
  obtain rfl := Host.Outcome.next.inj e_
  clear e_
  have h0 := Fr.refl 0x1fffffffffffffffffffffffffffffffffffffffffffffffffffffffffffffffffffffffff6 s
  repeat' first
      | ((try lift_lets); intro v; refine_lift have hv : Fr 0x1fffffffffffffffffffffffffffffffffffffffffffffffffffffffffffffffffffffffff6 s v := ?_; ?_; clear_value v)
      | ((try lift_lets); intro v)
      | with_reducible refine State.clampOpen_fr ?_
      | with_reducible refine State.operator_fr ?_ (fun t r ht => ?_)
      | with_reducible refine State.reading_fr ?_ (fun t vs ht => ?_)
      | with_reducible refine State.setNumeric_fr ?_
      | with_reducible refine State.writing_fr ?_ (fun t ht => ?_)
      | with_reducible refine Fr.ite ?_ ?_
      | with_reducible refine Fr.cond ?_ ?_
      | with_reducible assumption
      | with_reducible exact Fr.id_ (by with_reducible assumption)
      | (refine Fr.of_snd (by assumption) ?_)
      | (refine Fr.of_fst (by assumption) ?_)
      | split
      | (unfold v; split)
      | (unfold v; clear_value *; split)
      | (clear_value *; split)

theorem State.trigOpen_fr {κ : Nat} {s0 s : State} {f : Frac → Frac} {th : Word} (hf_ : Fr κ s0 s) (hk_ : 0x80000000 &&& κ = 0x80000000 := by decide) :
    Fr κ s0 (State.trigOpen s f th).2 := by
  refine Fr.lift hf_ hk_ ?_
  clear hf_ hk_
  unfold State.trigOpen
  have h0 := Fr.refl 0x80000000 s
  repeat' first
      | ((try lift_lets); intro v; refine_lift have hv : Fr 0x80000000 s v := ?_; ?_; clear_value v)
      | ((try lift_lets); intro v)
      | with_reducible refine State.freshWord_fr ?_
      | with_reducible refine Fr.ite ?_ ?_
      | with_reducible refine Fr.cond ?_ ?_
      | with_reducible assumption
      | (refine Fr.of_snd (by assumption) ?_)
      | (refine Fr.of_fst (by assumption) ?_)
      | split
      | (unfold v; split)
      | (unfold v; clear_value *; split)
      | (clear_value *; split)

theorem execSincos_fr {s t_ : State} {k : ℕ} {ds : Word} {dc : Word} {th : Word} (e_ : execSincos k ds dc th s = .next t_) : Fr 0x1fffffffffffffffffffffffffffffffffffffffffffffffffffffffffffffffffffffffff6 s t_ := by
  unfold execSincos at e_
  obtain rfl := Host.Outcome.next.inj e_
  clear e_
  have h0 := Fr.refl 0x1fffffffffffffffffffffffffffffffffffffffffffffffffffffffffffffffffffffffff6 s
  repeat' first
      | ((try lift_lets); intro v; refine_lift have hv : Fr 0x1fffffffffffffffffffffffffffffffffffffffffffffffffffffffffffffffffffffffff6 s v := ?_; ?_; clear_value v)
      | ((try lift_lets); intro v)
      | with_reducible refine State.operator_fr ?_ (fun t r ht => ?_)
      | with_reducible refine State.reading_fr ?_ (fun t vs ht => ?_)
      | with_reducible refine State.trigOpen_fr ?_
      | with_reducible refine State.writing_fr ?_ (fun t ht => ?_)
      | with_reducible refine Fr.ite ?_ ?_
      | with_reducible refine Fr.cond ?_ ?_
      | with_reducible assumption
      | with_reducible exact Fr.id_ (by with_reducible assumption)
      | (refine Fr.of_snd (by assumption) ?_)
      | (refine Fr.of_fst (by assumption) ?_)
      | split
      | (unfold v; split)
      | (unfold v; clear_value *; split)
      | (clear_value *; split)

theorem execAtan2_fr {s t_ : State} {k : ℕ} {d : Word} {y : Word} {x : Word} (e_ : execAtan2 k d y x s = .next t_) : Fr 0x1fffffffffffffffffffffffffffffffffffffffffffffffffffffffffffffffffffffffff6 s t_ := by
  unfold execAtan2 at e_
  obtain rfl := Host.Outcome.next.inj e_
  clear e_
  have h0 := Fr.refl 0x1fffffffffffffffffffffffffffffffffffffffffffffffffffffffffffffffffffffffff6 s
  repeat' first
      | ((try lift_lets); intro v; refine_lift have hv : Fr 0x1fffffffffffffffffffffffffffffffffffffffffffffffffffffffffffffffffffffffff6 s v := ?_; ?_; clear_value v)
      | ((try lift_lets); intro v)
      | with_reducible refine State.arith_fr ?_
      | with_reducible refine Fr.ite ?_ ?_
      | with_reducible refine Fr.cond ?_ ?_
      | with_reducible assumption
      | (refine Fr.of_snd (by assumption) ?_)
      | (refine Fr.of_fst (by assumption) ?_)
      | split
      | (unfold v; split)
      | (unfold v; clear_value *; split)
      | (clear_value *; split)

theorem execWrap_fr {s t_ : State} {k : ℕ} {d : Word} {th : Word} (e_ : execWrap k d th s = .next t_) : Fr 0x1fffffffffffffffffffffffffffffffffffffffffffffffffffffffffffffffffffffffff6 s t_ := by
  unfold execWrap at e_
  obtain rfl := Host.Outcome.next.inj e_
  clear e_
  have h0 := Fr.refl 0x1fffffffffffffffffffffffffffffffffffffffffffffffffffffffffffffffffffffffff6 s
  repeat' first
      | ((try lift_lets); intro v; refine_lift have hv : Fr 0x1fffffffffffffffffffffffffffffffffffffffffffffffffffffffffffffffffffffffff6 s v := ?_; ?_; clear_value v)
      | ((try lift_lets); intro v)
      | with_reducible refine State.arith_fr ?_
      | with_reducible refine Fr.ite ?_ ?_
      | with_reducible refine Fr.cond ?_ ?_
      | with_reducible assumption
      | (refine Fr.of_snd (by assumption) ?_)
      | (refine Fr.of_fst (by assumption) ?_)
      | split
      | (unfold v; split)
      | (unfold v; clear_value *; split)
      | (clear_value *; split)

theorem execCmp_fr {s t_ : State} {k : ℕ} {d : Word} {a : Word} {b : Word} {op : Word} (e_ : execCmp k d a b op s = .next t_) : Fr 0x1fffffffffffffffffffffffffffffffffffffffffffffffffffffffffffffffffffffffff6 s t_ := by
  unfold execCmp at e_
  obtain rfl := Host.Outcome.next.inj e_
  clear e_
  have h0 := Fr.refl 0x1fffffffffffffffffffffffffffffffffffffffffffffffffffffffffffffffffffffffff6 s
  repeat' first
      | ((try lift_lets); intro v; refine_lift have hv : Fr 0x1fffffffffffffffffffffffffffffffffffffffffffffffffffffffffffffffffffffffff6 s v := ?_; ?_; clear_value v)
      | ((try lift_lets); intro v)
      | with_reducible refine State.arith_fr ?_
      | with_reducible refine Fr.ite ?_ ?_
      | with_reducible refine Fr.cond ?_ ?_
      | with_reducible assumption
      | (refine Fr.of_snd (by assumption) ?_)
      | (refine Fr.of_fst (by assumption) ?_)
      | split
      | (unfold v; split)
      | (unfold v; clear_value *; split)
      | (clear_value *; split)

theorem execSel_fr {s t_ : State} {k : ℕ} {d : Word} {c : Word} {a : Word} {b : Word} (e_ : execSel k d c a b s = .next t_) : Fr 0x1fffffffffffffffffffffffffffffffffffffffffffffffffffffffffffffffffffffffff6 s t_ := by
  unfold execSel at e_
  obtain rfl := Host.Outcome.next.inj e_
  clear e_
  have h0 := Fr.refl 0x1fffffffffffffffffffffffffffffffffffffffffffffffffffffffffffffffffffffffff6 s
  repeat' first
      | ((try lift_lets); intro v; refine_lift have hv : Fr 0x1fffffffffffffffffffffffffffffffffffffffffffffffffffffffffffffffffffffffff6 s v := ?_; ?_; clear_value v)
      | ((try lift_lets); intro v)
      | with_reducible refine State.arith_fr ?_
      | with_reducible refine Fr.ite ?_ ?_
      | with_reducible refine Fr.cond ?_ ?_
      | with_reducible assumption
      | (refine Fr.of_snd (by assumption) ?_)
      | (refine Fr.of_fst (by assumption) ?_)
      | split
      | (unfold v; split)
      | (unfold v; clear_value *; split)
      | (clear_value *; split)

end Sys2Proof.Machine
end

