-- ==== Sys2Proof/Laws/FrameClock.lean ====
section
/-! SUPPORT. Frames of the operations of Machine/Clock.lean: one lemma each (Laws/Frame.lean). -/

namespace Sys2Proof.Machine

set_option Elab.async false

theorem State.count_fr {κ : Nat} {s0 s : State} (hf_ : Fr κ s0 s) (hk_ : 0x40000000000081000000 &&& κ = 0x40000000000081000000 := by decide) :
    Fr κ s0 (State.count s) := by
  refine Fr.lift hf_ hk_ ?_
  clear hf_ hk_
  unfold State.count
  have h0 := Fr.refl 0x40000000000081000000 s
  repeat' first
      | ((try lift_lets); intro v; refine_lift have hv : Fr 0x40000000000081000000 s v := ?_; ?_; clear_value v)
      | ((try lift_lets); intro v)
      | with_reducible refine State.modSun_fr ?_
      | with_reducible refine State.showDrift_fr ?_
      | with_reducible refine Fr.ite ?_ ?_
      | with_reducible refine Fr.cond ?_ ?_
      | with_reducible assumption
      | with_reducible exact Fr.id_ (by with_reducible assumption)
      | (refine Fr.of_snd (by assumption) ?_)
      | (refine Fr.of_fst (by assumption) ?_)
      | split
      | (unfold v; split)
      | (unfold v; clear_value *; split)
      | (clear_value *; split)

theorem State.clock_fr {κ : Nat} {s0 s : State} (hf_ : Fr κ s0 s) (hk_ : 0x2c0100000000080180000400000000000000000000001000000084000000240008307e400 &&& κ = 0x2c0100000000080180000400000000000000000000001000000084000000240008307e400 := by decide) :
    Fr κ s0 (State.clock s) := by
  refine Fr.lift hf_ hk_ ?_
  clear hf_ hk_
  unfold State.clock
  have h0 := Fr.refl 0x2c0100000000080180000400000000000000000000001000000084000000240008307e400 s
  repeat' first
      | ((try lift_lets); intro v; refine_lift have hv : Fr 0x2c0100000000080180000400000000000000000000001000000084000000240008307e400 s v := ?_; ?_; clear_value v)
      | ((try lift_lets); intro v)
      | with_reducible refine State.count_fr ?_
      | with_reducible refine State.fireSlots_fr ?_
      | with_reducible refine State.gatesDue_fr ?_
      | with_reducible refine Fr.running ?_ (fun t ht => ?_)
      | with_reducible refine Fr.ite ?_ ?_
      | with_reducible refine Fr.cond ?_ ?_
      | with_reducible assumption
      | with_reducible exact Fr.id_ (by with_reducible assumption)
      | (refine Fr.of_snd (by assumption) ?_)
      | (refine Fr.of_fst (by assumption) ?_)
      | split
      | (unfold v; split)
      | (unfold v; clear_value *; split)
      | (clear_value *; split)

end Sys2Proof.Machine
end

