-- ==== Sys2Proof/Laws/FrameFilters.lean ====
section
/-! SUPPORT. Frames of the operations of Machine/Filters.lean: one lemma each (Laws/Frame.lean). -/

namespace Sys2Proof.Machine

set_option Elab.async false

theorem State.filter_fr {m : Nat} {s0 s : State} {k op : Nat} {d x st par : Word} {nst npar : Nat}
    {f : State → Word → (Nat → Word) → (Nat → Word) → Option (List Word × Word) × State} (h : Fr m s0 s)
    (hf : ∀ t a b c, Fr m s0 t → Fr m s0 (f t a b c).2) (hk : 0x1fffffffffffffffffffffffffffffffffffffffffffffffffffffffffffffffffffffffff6 &&& m = 0x1fffffffffffffffffffffffffffffffffffffffffffffffffffffffffffffffffffffffff6 := by decide) :
    Fr m s0 (State.filter s k op d x st par nst npar f) := by
  unfold State.filter
  refine State.operator_fr h (fun t r ht => State.reading_fr ht (fun t vs ht => ?_) (and_sub hk (by decide))) (and_sub hk (by decide))
  have h2 := hf t (nth 0 (nth [] vs 0) 0) (fun j => nth 0 (nth [] vs 1) j) (fun j => nth 0 (nth [] vs 2) j) ht
  dsimp only
  split
  · exact State.writing_fr h2 (fun t ht => ht) (and_sub hk (by decide))
  · exact State.writing_fr (State.setNumeric_fr h2 (and_sub hk (by decide))) (fun t ht => ht) (and_sub hk (by decide))

theorem execLpf1_fr {s t_ : State} {k : ℕ} {d : Word} {x : Word} {st : Word} {c : Word} (e_ : execLpf1 k d x st c s = .next t_) : Fr 0x1fffffffffffffffffffffffffffffffffffffffffffffffffffffffffffffffffffffffff6 s t_ := by
  unfold execLpf1 at e_
  obtain rfl := Host.Outcome.next.inj e_
  clear e_
  have h0 := Fr.refl 0x1fffffffffffffffffffffffffffffffffffffffffffffffffffffffffffffffffffffffff6 s
  repeat' first
      | ((try lift_lets); intro v; refine_lift have hv : Fr 0x1fffffffffffffffffffffffffffffffffffffffffffffffffffffffffffffffffffffffff6 s v := ?_; ?_; clear_value v)
      | ((try lift_lets); intro v)
      | with_reducible refine State.filter_fr ?_ (fun t a b c ht => ?_)
      | with_reducible refine Fr.ite ?_ ?_
      | with_reducible refine Fr.cond ?_ ?_
      | with_reducible assumption
      | (refine Fr.of_snd (by assumption) ?_)
      | (refine Fr.of_fst (by assumption) ?_)
      | split
      | (unfold v; split)
      | (unfold v; clear_value *; split)
      | (clear_value *; split)

theorem execBiquad_fr {s t_ : State} {k : ℕ} {d : Word} {x : Word} {st : Word} {coef : Word} (e_ : execBiquad k d x st coef s = .next t_) : Fr 0x1fffffffffffffffffffffffffffffffffffffffffffffffffffffffffffffffffffffffff6 s t_ := by
  unfold execBiquad at e_
  obtain rfl := Host.Outcome.next.inj e_
  clear e_
  have h0 := Fr.refl 0x1fffffffffffffffffffffffffffffffffffffffffffffffffffffffffffffffffffffffff6 s
  repeat' first
      | ((try lift_lets); intro v; refine_lift have hv : Fr 0x1fffffffffffffffffffffffffffffffffffffffffffffffffffffffffffffffffffffffff6 s v := ?_; ?_; clear_value v)
      | ((try lift_lets); intro v)
      | with_reducible refine State.operator_fr ?_ (fun t r ht => ?_)
      | with_reducible refine State.reading_fr ?_ (fun t vs ht => ?_)
      | with_reducible refine State.setNumeric_fr ?_
      | with_reducible refine State.writing_fr ?_ (fun t ht => ?_)
      | with_reducible refine Fr.ite ?_ ?_
      | with_reducible refine Fr.cond ?_ ?_
      | with_reducible assumption
      | with_reducible exact Fr.id_ (by with_reducible assumption)
      | (refine Fr.of_snd (by assumption) ?_)
      | (refine Fr.of_fst (by assumption) ?_)
      | split
      | (unfold v; split)
      | (unfold v; clear_value *; split)
      | (clear_value *; split)

theorem execRate_fr {s t_ : State} {k : ℕ} {d : Word} {x : Word} {st : Word} {rmax : Word} (e_ : execRate k d x st rmax s = .next t_) : Fr 0x1fffffffffffffffffffffffffffffffffffffffffffffffffffffffffffffffffffffffff6 s t_ := by
  unfold execRate at e_
  obtain rfl := Host.Outcome.next.inj e_
  clear e_
  have h0 := Fr.refl 0x1fffffffffffffffffffffffffffffffffffffffffffffffffffffffffffffffffffffffff6 s
  repeat' first
      | ((try lift_lets); intro v; refine_lift have hv : Fr 0x1fffffffffffffffffffffffffffffffffffffffffffffffffffffffffffffffffffffffff6 s v := ?_; ?_; clear_value v)
      | ((try lift_lets); intro v)
      | with_reducible refine State.filter_fr ?_ (fun t a b c ht => ?_)
      | with_reducible refine Fr.ite ?_ ?_
      | with_reducible refine Fr.cond ?_ ?_
      | with_reducible assumption
      | (refine Fr.of_snd (by assumption) ?_)
      | (refine Fr.of_fst (by assumption) ?_)
      | split
      | (unfold v; split)
      | (unfold v; clear_value *; split)
      | (clear_value *; split)

theorem execInteg_fr {s t_ : State} {k : ℕ} {d : Word} {x : Word} {st : Word} {blk : Word} (e_ : execInteg k d x st blk s = .next t_) : Fr 0x1fffffffffffffffffffffffffffffffffffffffffffffffffffffffffffffffffffffffff6 s t_ := by
  unfold execInteg at e_
  obtain rfl := Host.Outcome.next.inj e_
  clear e_
  have h0 := Fr.refl 0x1fffffffffffffffffffffffffffffffffffffffffffffffffffffffffffffffffffffffff6 s
  repeat' first
      | ((try lift_lets); intro v; refine_lift have hv : Fr 0x1fffffffffffffffffffffffffffffffffffffffffffffffffffffffffffffffffffffffff6 s v := ?_; ?_; clear_value v)
      | ((try lift_lets); intro v)
      | with_reducible refine State.clampOpen_fr ?_
      | with_reducible refine State.filter_fr ?_ (fun t a b c ht => ?_)
      | with_reducible refine Fr.ite ?_ ?_
      | with_reducible refine Fr.cond ?_ ?_
      | with_reducible assumption
      | (refine Fr.of_snd (by assumption) ?_)
      | (refine Fr.of_fst (by assumption) ?_)
      | split
      | (unfold v; split)
      | (unfold v; clear_value *; split)
      | (clear_value *; split)

theorem State.compensator_fr {κ : Nat} {s0 s : State} {k : ℕ} {three : Bool} {d : Word} {inp : Word} {bank : Word} {hist : Word} {trk : Word} (hf_ : Fr κ s0 s) (hk_ : 0x1fffffffffffffffffffffffffffffffffffffffffffffffffffffffffffffffffffffffff6 &&& κ = 0x1fffffffffffffffffffffffffffffffffffffffffffffffffffffffffffffffffffffffff6 := by decide) :
    Fr κ s0 (State.compensator s k three d inp bank hist trk) := by
  refine Fr.lift hf_ hk_ ?_
  clear hf_ hk_
  unfold State.compensator
  have h0 := Fr.refl 0x1fffffffffffffffffffffffffffffffffffffffffffffffffffffffffffffffffffffffff6 s
  repeat' first
      | ((try lift_lets); intro v; refine_lift have hv : Fr 0x1fffffffffffffffffffffffffffffffffffffffffffffffffffffffffffffffffffffffff6 s v := ?_; ?_; clear_value v)
      | ((try lift_lets); intro v)
      | with_reducible refine State.forPeriod_fr ?_ (fun t ht => ?_)
      | with_reducible refine State.periodView_fr ?_
      | with_reducible refine State.dqPut_fr ?_
      | with_reducible refine State.compDone_fr ?_
      | with_reducible refine State.operator_fr ?_ (fun t r ht => ?_)
      | with_reducible refine State.reading_fr ?_ (fun t vs ht => ?_)
      | with_reducible refine State.setNumeric_fr ?_
      | with_reducible refine State.writing_fr ?_ (fun t ht => ?_)
      | with_reducible refine Fr.ite ?_ ?_
      | with_reducible refine Fr.cond ?_ ?_
      | with_reducible assumption
      | with_reducible exact Fr.id_ (by with_reducible assumption)
      | (refine Fr.of_snd (by assumption) ?_)
      | (refine Fr.of_fst (by assumption) ?_)
      | split
      | (unfold v; split)
      | (unfold v; clear_value *; split)
      | (clear_value *; split)

theorem execC2p2z_fr {s t_ : State} {k : ℕ} {d : Word} {inp : Word} {bank : Word} {hist : Word} {trk : Word} (e_ : execC2p2z k d inp bank hist trk s = .next t_) : Fr 0x1fffffffffffffffffffffffffffffffffffffffffffffffffffffffffffffffffffffffff6 s t_ := by
  unfold execC2p2z at e_
  obtain rfl := Host.Outcome.next.inj e_
  clear e_
  have h0 := Fr.refl 0x1fffffffffffffffffffffffffffffffffffffffffffffffffffffffffffffffffffffffff6 s
  repeat' first
      | ((try lift_lets); intro v; refine_lift have hv : Fr 0x1fffffffffffffffffffffffffffffffffffffffffffffffffffffffffffffffffffffffff6 s v := ?_; ?_; clear_value v)
      | ((try lift_lets); intro v)
      | with_reducible refine State.compensator_fr ?_
      | with_reducible refine Fr.ite ?_ ?_
      | with_reducible refine Fr.cond ?_ ?_
      | with_reducible assumption
      | (refine Fr.of_snd (by assumption) ?_)
      | (refine Fr.of_fst (by assumption) ?_)
      | split
      | (unfold v; split)
      | (unfold v; clear_value *; split)
      | (clear_value *; split)

theorem execC3p3z_fr {s t_ : State} {k : ℕ} {d : Word} {inp : Word} {bank : Word} {hist : Word} {trk : Word} (e_ : execC3p3z k d inp bank hist trk s = .next t_) : Fr 0x1fffffffffffffffffffffffffffffffffffffffffffffffffffffffffffffffffffffffff6 s t_ := by
  unfold execC3p3z at e_
  obtain rfl := Host.Outcome.next.inj e_
  clear e_
  have h0 := Fr.refl 0x1fffffffffffffffffffffffffffffffffffffffffffffffffffffffffffffffffffffffff6 s
  repeat' first
      | ((try lift_lets); intro v; refine_lift have hv : Fr 0x1fffffffffffffffffffffffffffffffffffffffffffffffffffffffffffffffffffffffff6 s v := ?_; ?_; clear_value v)
      | ((try lift_lets); intro v)
      | with_reducible refine State.compensator_fr ?_
      | with_reducible refine Fr.ite ?_ ?_
      | with_reducible refine Fr.cond ?_ ?_
      | with_reducible assumption
      | (refine Fr.of_snd (by assumption) ?_)
      | (refine Fr.of_fst (by assumption) ?_)
      | split
      | (unfold v; split)
      | (unfold v; clear_value *; split)
      | (clear_value *; split)

theorem execMinsel_fr {s t_ : State} {k : ℕ} {d : Word} {dem : Word} {dir : Word} {trk : Word} {why : Word} (e_ : execMinsel k d dem dir trk why s = .next t_) : Fr 0x1fffffffffffffffffffffffffffffffffffffffffffffffffffffffffffffffffffffffff6 s t_ := by
  unfold execMinsel at e_
  obtain rfl := Host.Outcome.next.inj e_
  clear e_
  have h0 := Fr.refl 0x1fffffffffffffffffffffffffffffffffffffffffffffffffffffffffffffffffffffffff6 s
  repeat' first
      | ((try lift_lets); intro v; refine_lift have hv : Fr 0x1fffffffffffffffffffffffffffffffffffffffffffffffffffffffffffffffffffffffff6 s v := ?_; ?_; clear_value v)
      | ((try lift_lets); intro v)
      | with_reducible refine State.forPeriod_fr ?_ (fun t ht => ?_)
      | with_reducible refine State.periodView_fr ?_
      | with_reducible refine State.freshWord_fr ?_
      | with_reducible refine State.operator_fr ?_ (fun t r ht => ?_)
      | with_reducible refine State.reading_fr ?_ (fun t vs ht => ?_)
      | with_reducible refine State.selDone_fr ?_
      | with_reducible refine State.setNumeric_fr ?_
      | with_reducible refine State.writing_fr ?_ (fun t ht => ?_)
      | with_reducible refine Fr.ite ?_ ?_
      | with_reducible refine Fr.cond ?_ ?_
      | with_reducible assumption
      | with_reducible exact Fr.id_ (by with_reducible assumption)
      | (refine Fr.of_snd (by assumption) ?_)
      | (refine Fr.of_fst (by assumption) ?_)
      | split
      | (unfold v; split)
      | (unfold v; clear_value *; split)
      | (clear_value *; split)

end Sys2Proof.Machine
end

