-- ==== Sys2Proof/Laws/FrameEstimators.lean ====
section
/-! SUPPORT. Frames of the operations of Machine/Estimators.lean: one lemma each (Laws/Frame.lean). -/

namespace Sys2Proof.Machine

set_option Elab.async false

theorem State.estimator_fr {κ : Nat} {s0 s : State} {k : ℕ} {op : ℕ} {ws : List Word} {st : Word} {ins : List (Word × ℕ)} {seedBit : ℕ} {est : ℕ} (hf_ : Fr κ s0 s) (hk_ : 0x1fffffffffffffffffffffffffffffffffffffffffffffffffffffffffffffffffffffffff6 &&& κ = 0x1fffffffffffffffffffffffffffffffffffffffffffffffffffffffffffffffffffffffff6 := by decide) :
    Fr κ s0 (State.estimator s k op ws st ins seedBit est) := by
  refine Fr.lift hf_ hk_ ?_
  clear hf_ hk_
  unfold State.estimator
  have h0 := Fr.refl 0x1fffffffffffffffffffffffffffffffffffffffffffffffffffffffffffffffffffffffff6 s
  repeat' first
      | ((try lift_lets); intro v; refine_lift have hv : Fr 0x1fffffffffffffffffffffffffffffffffffffffffffffffffffffffffffffffffffffffff6 s v := ?_; ?_; clear_value v)
      | ((try lift_lets); intro v)
      | with_reducible refine State.periodView_fr ?_
      | with_reducible refine State.modRun_fr ?_
      | with_reducible refine State.modSv_fr ?_
      | with_reducible refine State.openWords_fr ?_
      | with_reducible refine State.operator_fr ?_ (fun t r ht => ?_)
      | with_reducible refine State.reading_fr ?_ (fun t vs ht => ?_)
      | with_reducible refine State.setNumeric_fr ?_
      | with_reducible refine State.writing_fr ?_ (fun t ht => ?_)
      | with_reducible refine Fr.ite ?_ ?_
      | with_reducible refine Fr.cond ?_ ?_
      | with_reducible assumption
      | with_reducible exact Fr.id_ (by with_reducible assumption)
      | (refine Fr.of_snd (by assumption) ?_)
      | (refine Fr.of_fst (by assumption) ?_)
      | split
      | (unfold v; split)
      | (unfold v; clear_value *; split)
      | (clear_value *; split)

theorem execBemf_fr {s t_ : State} {k : ℕ} {st : Word} {vab : Word} {iab : Word} {par : Word} (e_ : execBemf k st vab iab par s = .next t_) : Fr 0x1fffffffffffffffffffffffffffffffffffffffffffffffffffffffffffffffffffffffff6 s t_ := by
  unfold execBemf at e_
  obtain rfl := Host.Outcome.next.inj e_
  clear e_
  have h0 := Fr.refl 0x1fffffffffffffffffffffffffffffffffffffffffffffffffffffffffffffffffffffffff6 s
  repeat' first
      | ((try lift_lets); intro v; refine_lift have hv : Fr 0x1fffffffffffffffffffffffffffffffffffffffffffffffffffffffffffffffffffffffff6 s v := ?_; ?_; clear_value v)
      | ((try lift_lets); intro v)
      | with_reducible refine State.estimator_fr ?_
      | with_reducible refine Fr.ite ?_ ?_
      | with_reducible refine Fr.cond ?_ ?_
      | with_reducible assumption
      | (refine Fr.of_snd (by assumption) ?_)
      | (refine Fr.of_fst (by assumption) ?_)
      | split
      | (unfold v; split)
      | (unfold v; clear_value *; split)
      | (clear_value *; split)

theorem execFlux_fr {s t_ : State} {k : ℕ} {st : Word} {vab : Word} {iab : Word} {par : Word} (e_ : execFlux k st vab iab par s = .next t_) : Fr 0x1fffffffffffffffffffffffffffffffffffffffffffffffffffffffffffffffffffffffff6 s t_ := by
  unfold execFlux at e_
  obtain rfl := Host.Outcome.next.inj e_
  clear e_
  have h0 := Fr.refl 0x1fffffffffffffffffffffffffffffffffffffffffffffffffffffffffffffffffffffffff6 s
  repeat' first
      | ((try lift_lets); intro v; refine_lift have hv : Fr 0x1fffffffffffffffffffffffffffffffffffffffffffffffffffffffffffffffffffffffff6 s v := ?_; ?_; clear_value v)
      | ((try lift_lets); intro v)
      | with_reducible refine State.estimator_fr ?_
      | with_reducible refine Fr.ite ?_ ?_
      | with_reducible refine Fr.cond ?_ ?_
      | with_reducible assumption
      | (refine Fr.of_snd (by assumption) ?_)
      | (refine Fr.of_fst (by assumption) ?_)
      | split
      | (unfold v; split)
      | (unfold v; clear_value *; split)
      | (clear_value *; split)

theorem execHfi_fr {s t_ : State} {k : ℕ} {st : Word} {iab : Word} {inj : Word} {par : Word} (e_ : execHfi k st iab inj par s = .next t_) : Fr 0x1fffffffffffffffffffffffffffffffffffffffffffffffffffffffffffffffffffffffff6 s t_ := by
  unfold execHfi at e_
  obtain rfl := Host.Outcome.next.inj e_
  clear e_
  have h0 := Fr.refl 0x1fffffffffffffffffffffffffffffffffffffffffffffffffffffffffffffffffffffffff6 s
  repeat' first
      | ((try lift_lets); intro v; refine_lift have hv : Fr 0x1fffffffffffffffffffffffffffffffffffffffffffffffffffffffffffffffffffffffff6 s v := ?_; ?_; clear_value v)
      | ((try lift_lets); intro v)
      | with_reducible refine State.estimator_fr ?_
      | with_reducible refine State.modRun_fr ?_
      | with_reducible refine State.operator_fr ?_ (fun t r ht => ?_)
      | with_reducible refine Fr.ite ?_ ?_
      | with_reducible refine Fr.cond ?_ ?_
      | with_reducible assumption
      | (refine Fr.of_snd (by assumption) ?_)
      | (refine Fr.of_fst (by assumption) ?_)
      | split
      | (unfold v; split)
      | (unfold v; clear_value *; split)
      | (clear_value *; split)

theorem execPll_fr {s t_ : State} {k : ℕ} {st : Word} {err : Word} {gain : Word} (e_ : execPll k st err gain s = .next t_) : Fr 0x1fffffffffffffffffffffffffffffffffffffffffffffffffffffffffffffffffffffffff6 s t_ := by
  unfold execPll at e_
  obtain rfl := Host.Outcome.next.inj e_
  clear e_
  have h0 := Fr.refl 0x1fffffffffffffffffffffffffffffffffffffffffffffffffffffffffffffffffffffffff6 s
  repeat' first
      | ((try lift_lets); intro v; refine_lift have hv : Fr 0x1fffffffffffffffffffffffffffffffffffffffffffffffffffffffffffffffffffffffff6 s v := ?_; ?_; clear_value v)
      | ((try lift_lets); intro v)
      | with_reducible refine State.freshWords_fr ?_
      | with_reducible refine State.modSv_fr ?_
      | with_reducible refine State.operator_fr ?_ (fun t r ht => ?_)
      | with_reducible refine State.reading_fr ?_ (fun t vs ht => ?_)
      | with_reducible refine State.setNumeric_fr ?_
      | with_reducible refine State.writing_fr ?_ (fun t ht => ?_)
      | with_reducible refine Fr.ite ?_ ?_
      | with_reducible refine Fr.cond ?_ ?_
      | with_reducible assumption
      | with_reducible exact Fr.id_ (by with_reducible assumption)
      | (refine Fr.of_snd (by assumption) ?_)
      | (refine Fr.of_fst (by assumption) ?_)
      | split
      | (unfold v; split)
      | (unfold v; clear_value *; split)
      | (clear_value *; split)

theorem execBlend_fr {s t_ : State} {k : ℕ} {d : Word} {est : Word} {w : Word} {band : Word} (e_ : execBlend k d est w band s = .next t_) : Fr 0x1fffffffffffffffffffffffffffffffffffffffffffffffffffffffffffffffffffffffff6 s t_ := by
  unfold execBlend at e_
  obtain rfl := Host.Outcome.next.inj e_
  clear e_
  have h0 := Fr.refl 0x1fffffffffffffffffffffffffffffffffffffffffffffffffffffffffffffffffffffffff6 s
  repeat' first
      | ((try lift_lets); intro v; refine_lift have hv : Fr 0x1fffffffffffffffffffffffffffffffffffffffffffffffffffffffffffffffffffffffff6 s v := ?_; ?_; clear_value v)
      | ((try lift_lets); intro v)
      | with_reducible refine State.forPeriod_fr ?_ (fun t ht => ?_)
      | with_reducible refine State.periodView_fr ?_
      | with_reducible refine State.blendDone_fr ?_
      | with_reducible refine State.freshWords_fr ?_
      | with_reducible refine State.operator_fr ?_ (fun t r ht => ?_)
      | with_reducible refine State.reading_fr ?_ (fun t vs ht => ?_)
      | with_reducible refine State.setNumeric_fr ?_
      | with_reducible refine State.writing_fr ?_ (fun t ht => ?_)
      | with_reducible refine Fr.ite ?_ ?_
      | with_reducible refine Fr.cond ?_ ?_
      | with_reducible assumption
      | with_reducible exact Fr.id_ (by with_reducible assumption)
      | (refine Fr.of_snd (by assumption) ?_)
      | (refine Fr.of_fst (by assumption) ?_)
      | split
      | (unfold v; split)
      | (unfold v; clear_value *; split)
      | (clear_value *; split)

theorem State.modelDone_fr {κ : Nat} {s0 s : State} {x : Axis} {q : Word × Word × Word} (hf_ : Fr κ s0 s) (hk_ : 0x2c01000000000800000004000000000000001805000000000000000000002400002018400 &&& κ = 0x2c01000000000800000004000000000000001805000000000000000000002400002018400 := by decide) :
    Fr κ s0 (State.modelDone s x q) := by
  refine Fr.lift hf_ hk_ ?_
  clear hf_ hk_
  unfold State.modelDone
  have h0 := Fr.refl 0x2c01000000000800000004000000000000001805000000000000000000002400002018400 s
  repeat' first
      | ((try lift_lets); intro v; refine_lift have hv : Fr 0x2c01000000000800000004000000000000001805000000000000000000002400002018400 s v := ?_; ?_; clear_value v)
      | ((try lift_lets); intro v)
      | with_reducible refine State.modSv_fr ?_
      | with_reducible refine State.setW_fr ?_
      | with_reducible refine State.supervise_fr ?_
      | with_reducible refine Fr.ite ?_ ?_
      | with_reducible refine Fr.cond ?_ ?_
      | with_reducible assumption
      | (refine Fr.of_snd (by assumption) ?_)
      | (refine Fr.of_fst (by assumption) ?_)
      | split
      | (unfold v; split)
      | (unfold v; clear_value *; split)
      | (clear_value *; split)

theorem execModel_fr {s t_ : State} {k : ℕ} {d : Word} {st : Word} {tq : Word} {par : Word} (e_ : execModel k d st tq par s = .next t_) : Fr 0x1fffffffffffffffffffffffffffffffffffffffffffffffffffffffffffffffffffffffff6 s t_ := by
  unfold execModel at e_
  obtain rfl := Host.Outcome.next.inj e_
  clear e_
  have h0 := Fr.refl 0x1fffffffffffffffffffffffffffffffffffffffffffffffffffffffffffffffffffffffff6 s
  repeat' first
      | ((try lift_lets); intro v; refine_lift have hv : Fr 0x1fffffffffffffffffffffffffffffffffffffffffffffffffffffffffffffffffffffffff6 s v := ?_; ?_; clear_value v)
      | ((try lift_lets); intro v)
      | with_reducible refine State.forPeriod_fr ?_ (fun t ht => ?_)
      | with_reducible refine State.periodView_fr ?_
      | with_reducible refine State.freshWords_fr ?_
      | with_reducible refine State.modelDone_fr ?_
      | with_reducible refine State.operator_fr ?_ (fun t r ht => ?_)
      | with_reducible refine State.reading_fr ?_ (fun t vs ht => ?_)
      | with_reducible refine State.setNumeric_fr ?_
      | with_reducible refine State.writing_fr ?_ (fun t ht => ?_)
      | with_reducible refine Fr.ite ?_ ?_
      | with_reducible refine Fr.cond ?_ ?_
      | with_reducible assumption
      | with_reducible exact Fr.id_ (by with_reducible assumption)
      | (refine Fr.of_snd (by assumption) ?_)
      | (refine Fr.of_fst (by assumption) ?_)
      | split
      | (unfold v; split)
      | (unfold v; clear_value *; split)
      | (clear_value *; split)

end Sys2Proof.Machine
end

