-- ==== Sys2Proof/Laws/FrameWicket.lean ====
section
/-! SUPPORT. Frames of the operations of Machine/Wicket.lean: one lemma each (Laws/Frame.lean). -/

namespace Sys2Proof.Machine

set_option Elab.async false

@[simp] theorem reasonSeen_fam {r : Nat} : fam (reasonSeen r).reg = 232 := by
  unfold reasonSeen
  rcases r with _ | _ | _ | _ | r <;> first | rfl | (simp [nth]; done) | (cases r <;> rfl)

theorem State.shiftOut_fr {κ : Nat} {s0 s : State} {L : Nat} {edges : Nat} {header : Word} {words : List Word} (hf_ : Fr κ s0 s) (hk_ : 0x10000000 &&& κ = 0x10000000 := by decide) :
    Fr κ s0 (State.shiftOut s L edges header words) := by
  refine Fr.lift hf_ hk_ ?_
  clear hf_ hk_
  unfold State.shiftOut
  have h0 := Fr.refl 0x10000000 s
  repeat' first
      | ((try lift_lets); intro v; refine_lift have hv : Fr 0x10000000 s v := ?_; ?_; clear_value v)
      | ((try lift_lets); intro v)
      | with_reducible refine State.modWkt_fr ?_
      | with_reducible refine Fr.ite ?_ ?_
      | with_reducible refine Fr.cond ?_ ?_
      | with_reducible assumption
      | with_reducible exact Fr.id_ (by with_reducible assumption)
      | (refine Fr.of_snd (by assumption) ?_)
      | (refine Fr.of_fst (by assumption) ?_)
      | split
      | (unfold v; split)
      | (unfold v; clear_value *; split)
      | (clear_value *; split)

theorem State.sendBusy_fr {κ : Nat} {s0 s : State} {L : Nat} {edges : Nat} (hf_ : Fr κ s0 s) (hk_ : 0x3000000000000000000000000000000000000000000000000000000000010000000 &&& κ = 0x3000000000000000000000000000000000000000000000000000000000010000000 := by decide) :
    Fr κ s0 (State.sendBusy s L edges) := by
  refine Fr.lift hf_ hk_ ?_
  clear hf_ hk_
  unfold State.sendBusy
  have h0 := Fr.refl 0x3000000000000000000000000000000000000000000000000000000000010000000 s
  repeat' first
      | ((try lift_lets); intro v; refine_lift have hv : Fr 0x3000000000000000000000000000000000000000000000000000000000010000000 s v := ?_; ?_; clear_value v)
      | ((try lift_lets); intro v)
      | with_reducible refine State.inc_fr ?_
      | with_reducible refine State.set_fr ?_
      | with_reducible refine State.shiftOut_fr ?_
      | with_reducible refine Fr.ite ?_ ?_
      | with_reducible refine Fr.cond ?_ ?_
      | with_reducible assumption
      | with_reducible exact Fr.id_ (by with_reducible assumption)
      | (refine Fr.of_snd (by assumption) ?_)
      | (refine Fr.of_fst (by assumption) ?_)
      | split
      | (unfold v; split)
      | (unfold v; clear_value *; split)
      | (clear_value *; split)

theorem State.frameBegin_fr {κ : Nat} {s0 s : State} {L : Nat} {edges : Nat} (hf_ : Fr κ s0 s) (hk_ : 0x3400000000000000000000000000000000000000000000000000000000010000000 &&& κ = 0x3400000000000000000000000000000000000000000000000000000000010000000 := by decide) :
    Fr κ s0 (State.frameBegin s L edges).2 := by
  refine Fr.lift hf_ hk_ ?_
  clear hf_ hk_
  unfold State.frameBegin
  have h0 := Fr.refl 0x3400000000000000000000000000000000000000000000000000000000010000000 s
  repeat' first
      | ((try lift_lets); intro v; refine_lift have hv : Fr 0x3400000000000000000000000000000000000000000000000000000000010000000 s v := ?_; ?_; clear_value v)
      | ((try lift_lets); intro v)
      | with_reducible refine State.modWkt_fr ?_
      | with_reducible refine State.sendBusy_fr ?_
      | with_reducible refine State.set_fr ?_
      | with_reducible refine State.shiftOut_fr ?_
      | with_reducible refine Fr.ite ?_ ?_
      | with_reducible refine Fr.cond ?_ ?_
      | with_reducible assumption
      | with_reducible exact Fr.id_ (by with_reducible assumption)
      | (refine Fr.of_snd (by assumption) ?_)
      | (refine Fr.of_fst (by assumption) ?_)
      | split
      | (unfold v; split)
      | (unfold v; clear_value *; split)
      | (clear_value *; split)

theorem State.pendFlag_fr {κ : Nat} {s0 s : State} {f : ℕ} (hf_ : Fr κ s0 s) (hk_ : 0x10000000 &&& κ = 0x10000000 := by decide) :
    Fr κ s0 (State.pendFlag s f) := by
  refine Fr.lift hf_ hk_ ?_
  clear hf_ hk_
  unfold State.pendFlag
  have h0 := Fr.refl 0x10000000 s
  repeat' first
      | ((try lift_lets); intro v; refine_lift have hv : Fr 0x10000000 s v := ?_; ?_; clear_value v)
      | ((try lift_lets); intro v)
      | with_reducible refine State.modWkt_fr ?_
      | with_reducible refine Fr.ite ?_ ?_
      | with_reducible refine Fr.cond ?_ ?_
      | with_reducible assumption
      | (refine Fr.of_snd (by assumption) ?_)
      | (refine Fr.of_fst (by assumption) ?_)
      | split
      | (unfold v; split)
      | (unfold v; clear_value *; split)
      | (clear_value *; split)

theorem State.reject_fr {κ : Nat} {s0 s : State} {r : ℕ} {edges : ℕ} (hf_ : Fr κ s0 s) (hk_ : 0x2c0100b000000800000004000000000000000000000000000000000000002400002018400 &&& κ = 0x2c0100b000000800000004000000000000000000000000000000000000002400002018400 := by decide) :
    Fr κ s0 (State.reject s r edges) := by
  refine Fr.lift hf_ hk_ ?_
  clear hf_ hk_
  unfold State.reject
  have h0 := Fr.refl 0x2c0100b000000800000004000000000000000000000000000000000000002400002018400 s
  repeat' first
      | ((try lift_lets); intro v; refine_lift have hv : Fr 0x2c0100b000000800000004000000000000000000000000000000000000002400002018400 s v := ?_; ?_; clear_value v)
      | ((try lift_lets); intro v)
      | with_reducible refine State.event_fr ?_
      | with_reducible refine State.inc_fr ?_
      | with_reducible refine State.set_fr ?_
      | with_reducible refine Fr.ite ?_ ?_
      | with_reducible refine Fr.cond ?_ ?_
      | with_reducible assumption
      | (refine Fr.of_snd (by assumption) ?_)
      | (refine Fr.of_fst (by assumption) ?_)
      | split
      | (unfold v; split)
      | (unfold v; clear_value *; split)
      | (clear_value *; split)

theorem State.rejectReply_fr {κ : Nat} {s0 s : State} {r : ℕ} (hf_ : Fr κ s0 s) (hk_ : 0x10000000 &&& κ = 0x10000000 := by decide) :
    Fr κ s0 (State.rejectReply s r) := by
  refine Fr.lift hf_ hk_ ?_
  clear hf_ hk_
  unfold State.rejectReply
  have h0 := Fr.refl 0x10000000 s
  repeat' first
      | ((try lift_lets); intro v; refine_lift have hv : Fr 0x10000000 s v := ?_; ?_; clear_value v)
      | ((try lift_lets); intro v)
      | with_reducible refine State.modWkt_fr ?_
      | with_reducible refine Fr.ite ?_ ?_
      | with_reducible refine Fr.cond ?_ ?_
      | with_reducible assumption
      | (refine Fr.of_snd (by assumption) ?_)
      | (refine Fr.of_fst (by assumption) ?_)
      | split
      | (unfold v; split)
      | (unfold v; clear_value *; split)
      | (clear_value *; split)

theorem State.resumed_fr {κ : Nat} {s0 s : State}  (hf_ : Fr κ s0 s) (hk_ : 0x2c01001000000900000004000000000000000000000000000000000000002400002018400 &&& κ = 0x2c01001000000900000004000000000000000000000000000000000000002400002018400 := by decide) :
    Fr κ s0 (State.resumed s).2 := by
  refine Fr.lift hf_ hk_ ?_
  clear hf_ hk_
  unfold State.resumed
  have h0 := Fr.refl 0x2c01001000000900000004000000000000000000000000000000000000002400002018400 s
  repeat' first
      | ((try lift_lets); intro v; refine_lift have hv : Fr 0x2c01001000000900000004000000000000000000000000000000000000002400002018400 s v := ?_; ?_; clear_value v)
      | ((try lift_lets); intro v)
      | with_reducible refine State.event_fr ?_
      | with_reducible refine State.set_fr ?_
      | with_reducible refine State.setCause_fr ?_
      | with_reducible refine Fr.ite ?_ ?_
      | with_reducible refine Fr.cond ?_ ?_
      | with_reducible assumption
      | (refine Fr.of_snd (by assumption) ?_)
      | (refine Fr.of_fst (by assumption) ?_)
      | split
      | (unfold v; split)
      | (unfold v; clear_value *; split)
      | (clear_value *; split)

theorem State.armHost_fr {κ : Nat} {s0 s : State} {running : Bool} (hf_ : Fr κ s0 s) (hk_ : 0x1000000000000000000000000000000000000000000000000000000000000000000 &&& κ = 0x1000000000000000000000000000000000000000000000000000000000000000000 := by decide) :
    Fr κ s0 (State.armHost s running) := by
  refine Fr.lift hf_ hk_ ?_
  clear hf_ hk_
  unfold State.armHost
  have h0 := Fr.refl 0x1000000000000000000000000000000000000000000000000000000000000000000 s
  repeat' first
      | ((try lift_lets); intro v; refine_lift have hv : Fr 0x1000000000000000000000000000000000000000000000000000000000000000000 s v := ?_; ?_; clear_value v)
      | ((try lift_lets); intro v)
      | with_reducible refine State.set_fr ?_
      | with_reducible refine Fr.ite ?_ ?_
      | with_reducible refine Fr.cond ?_ ?_
      | with_reducible assumption
      | (refine Fr.of_snd (by assumption) ?_)
      | (refine Fr.of_fst (by assumption) ?_)
      | split
      | (unfold v; split)
      | (unfold v; clear_value *; split)
      | (clear_value *; split)

theorem State.hostRead_fr {κ : Nat} {s0 s : State} {a : ℕ} (hf_ : Fr κ s0 s) (hk_ : 0xc3c03000008004bc1c0004600000000020400000000000000000000000001a4180ea07f5e0 &&& κ = 0xc3c03000008004bc1c0004600000000020400000000000000000000000001a4180ea07f5e0 := by decide) :
    Fr κ s0 (State.hostRead s a).2 := by
  refine Fr.lift hf_ hk_ ?_
  clear hf_ hk_
  unfold State.hostRead
  have h0 := Fr.refl 0xc3c03000008004bc1c0004600000000020400000000000000000000000001a4180ea07f5e0 s
  repeat' first
      | ((try lift_lets); intro v; refine_lift have hv : Fr 0xc3c03000008004bc1c0004600000000020400000000000000000000000001a4180ea07f5e0 s v := ?_; ?_; clear_value v)
      | ((try lift_lets); intro v)
      | with_reducible refine State.note_fr ?_
      | with_reducible refine State.readMem_fr ?_
      | with_reducible refine Fr.ite ?_ ?_
      | with_reducible refine Fr.cond ?_ ?_
      | with_reducible assumption
      | (refine Fr.of_snd (by assumption) ?_)
      | (refine Fr.of_fst (by assumption) ?_)
      | split
      | (unfold v; split)
      | (unfold v; clear_value *; split)
      | (clear_value *; split)

theorem State.hostWrite_fr {κ : Nat} {s0 s : State} {a : ℕ} {w : Word} (hf_ : Fr κ s0 s) (hk_ : 0x1fffffffffffffffffffffffffffffffffffffffffffffffffffffffffffffffffffffffff6 &&& κ = 0x1fffffffffffffffffffffffffffffffffffffffffffffffffffffffffffffffffffffffff6 := by decide) :
    Fr κ s0 (State.hostWrite s a w) := by
  refine Fr.lift hf_ hk_ ?_
  clear hf_ hk_
  unfold State.hostWrite
  have h0 := Fr.refl 0x1fffffffffffffffffffffffffffffffffffffffffffffffffffffffffffffffffffffffff6 s
  repeat' first
      | ((try lift_lets); intro v; refine_lift have hv : Fr 0x1fffffffffffffffffffffffffffffffffffffffffffffffffffffffffffffffffffffffff6 s v := ?_; ?_; clear_value v)
      | ((try lift_lets); intro v)
      | with_reducible refine State.note_fr ?_
      | with_reducible refine State.regWrite_fr ?_
      | with_reducible refine State.writeMem_fr ?_
      | with_reducible refine Fr.ite ?_ ?_
      | with_reducible refine Fr.cond ?_ ?_
      | with_reducible assumption
      | (refine Fr.of_snd (by assumption) ?_)
      | (refine Fr.of_fst (by assumption) ?_)
      | split
      | (unfold v; split)
      | (unfold v; clear_value *; split)
      | (clear_value *; split)

theorem State.readBurst_fr {κ : Nat} {s0 s : State} {n a : Nat} (hf_ : Fr κ s0 s) (hk_ : 0xc3c03000008004bc1c0004600000000020400000000000000000000000001a4180ea07f5e0 &&& κ = 0xc3c03000008004bc1c0004600000000020400000000000000000000000001a4180ea07f5e0 := by decide) :
    Fr κ s0 (State.readBurst s n a).2 := by
  refine Fr.lift hf_ hk_ ?_
  clear hf_ hk_ s0
  induction n generalizing s a with
  | zero => exact Fr.refl _ _
  | succ n ih =>
    unfold State.readBurst
    dsimp only
    refine Fr.trans ?_ ih
    split
    · exact Fr.snd_mk (State.note_fr (Fr.refl _ _))
    · exact State.hostRead_fr (Fr.refl _ _)

theorem State.writeBurst_fr {κ : Nat} {s0 s : State} {ws : List Word} {a : ℕ} (hf_ : Fr κ s0 s) (hk_ : 0x1fffffffffffffffffffffffffffffffffffffffffffffffffffffffffffffffffffffffff6 &&& κ = 0x1fffffffffffffffffffffffffffffffffffffffffffffffffffffffffffffffffffffffff6 := by decide) :
    Fr κ s0 (State.writeBurst s ws a) := by
  refine Fr.lift hf_ hk_ ?_
  clear hf_ hk_ s0
  revert s
  induction ws generalizing a with
  | nil =>
    intro s
    unfold State.writeBurst
    (
    have h0 := Fr.refl 0x1fffffffffffffffffffffffffffffffffffffffffffffffffffffffffffffffffffffffff6 s
    repeat' first
        | ((try lift_lets); intro v; refine_lift have hv : Fr 0x1fffffffffffffffffffffffffffffffffffffffffffffffffffffffffffffffffffffffff6 s v := ?_; ?_; clear_value v)
        | ((try lift_lets); intro v)
        | with_reducible refine State.hostWrite_fr ?_
        | with_reducible refine State.note_fr ?_
        | with_reducible refine Fr.ite ?_ ?_
        | with_reducible refine Fr.cond ?_ ?_
        | with_reducible assumption
        | (refine Fr.of_snd (by assumption) ?_)
        | (refine Fr.of_fst (by assumption) ?_)
        | split
        | (unfold v; split)
        | (unfold v; clear_value *; split)
        | (clear_value *; split)
        | (injections; subst_vars))
  | cons c_ r_ ih =>
    intro s
    unfold State.writeBurst
    (
    have h0 := Fr.refl 0x1fffffffffffffffffffffffffffffffffffffffffffffffffffffffffffffffffffffffff6 s
    repeat' first
        | ((try lift_lets); intro v; refine_lift have hv : Fr 0x1fffffffffffffffffffffffffffffffffffffffffffffffffffffffffffffffffffffffff6 s v := ?_; ?_; clear_value v)
        | ((try lift_lets); intro v)
        | with_reducible refine State.hostWrite_fr ?_
        | with_reducible refine State.note_fr ?_
        | with_reducible refine Fr.trans ?_ ih
        | with_reducible refine Fr.ite ?_ ?_
        | with_reducible refine Fr.cond ?_ ?_
        | with_reducible assumption
        | (refine Fr.of_snd (by assumption) ?_)
        | (refine Fr.of_fst (by assumption) ?_)
        | split
        | (unfold v; split)
        | (unfold v; clear_value *; split)
        | (clear_value *; split)
        | (injections; subst_vars))

theorem State.runFrame_fr {κ : Nat} {s0 s : State} {f : WktFrame} {upsets : List (ℕ × Bool)} (hf_ : Fr κ s0 s) (hk_ : 0x1fffffffffffffffffffffffffffffffffffffffffffffffffffffffffffffffffffffffff6 &&& κ = 0x1fffffffffffffffffffffffffffffffffffffffffffffffffffffffffffffffffffffffff6 := by decide) :
    Fr κ s0 (State.runFrame s f upsets).2 := by
  refine Fr.lift hf_ hk_ ?_
  clear hf_ hk_
  unfold State.runFrame
  have h0 := Fr.refl 0x1fffffffffffffffffffffffffffffffffffffffffffffffffffffffffffffffffffffffff6 s
  repeat' first
      | ((try lift_lets); intro v; refine_lift have hv : Fr 0x1fffffffffffffffffffffffffffffffffffffffffffffffffffffffffffffffffffffffff6 s v := ?_; ?_; clear_value v)
      | ((try lift_lets); intro v)
      | with_reducible refine State.note_fr ?_
      | with_reducible refine State.readBurst_fr ?_
      | with_reducible refine State.set_fr ?_
      | with_reducible refine State.upsets_fr ?_
      | with_reducible refine State.writeBurst_fr ?_
      | with_reducible refine Fr.ite ?_ ?_
      | with_reducible refine Fr.cond ?_ ?_
      | with_reducible assumption
      | (refine Fr.of_snd (by assumption) ?_)
      | (refine Fr.of_fst (by assumption) ?_)
      | split
      | (unfold v; split)
      | (unfold v; clear_value *; split)
      | (clear_value *; split)

theorem State.answer_fr {κ : Nat} {s0 s : State} {header : Word} {words : List Word} (hf_ : Fr κ s0 s) (hk_ : 0x10000000 &&& κ = 0x10000000 := by decide) :
    Fr κ s0 (State.answer s header words) := by
  refine Fr.lift hf_ hk_ ?_
  clear hf_ hk_
  unfold State.answer
  have h0 := Fr.refl 0x10000000 s
  repeat' first
      | ((try lift_lets); intro v; refine_lift have hv : Fr 0x10000000 s v := ?_; ?_; clear_value v)
      | ((try lift_lets); intro v)
      | with_reducible refine State.modWkt_fr ?_
      | with_reducible refine Fr.ite ?_ ?_
      | with_reducible refine Fr.cond ?_ ?_
      | with_reducible assumption
      | (refine Fr.of_snd (by assumption) ?_)
      | (refine Fr.of_fst (by assumption) ?_)
      | split
      | (unfold v; split)
      | (unfold v; clear_value *; split)
      | (clear_value *; split)

theorem State.acceptFrame_fr {κ : Nat} {s0 s : State} {f : WktFrame} {lost : Bool} {upsets : List (ℕ × Bool)} (hf_ : Fr κ s0 s) (hk_ : 0x1fffffffffffffffffffffffffffffffffffffffffffffffffffffffffffffffffffffffff6 &&& κ = 0x1fffffffffffffffffffffffffffffffffffffffffffffffffffffffffffffffffffffffff6 := by decide) :
    Fr κ s0 (State.acceptFrame s f lost upsets) := by
  refine Fr.lift hf_ hk_ ?_
  clear hf_ hk_
  unfold State.acceptFrame
  have h0 := Fr.refl 0x1fffffffffffffffffffffffffffffffffffffffffffffffffffffffffffffffffffffffff6 s
  repeat' first
      | ((try lift_lets); intro v; refine_lift have hv : Fr 0x1fffffffffffffffffffffffffffffffffffffffffffffffffffffffffffffffffffffffff6 s v := ?_; ?_; clear_value v)
      | ((try lift_lets); intro v)
      | with_reducible refine State.answer_fr ?_
      | with_reducible refine State.event_fr ?_
      | with_reducible refine State.inc_fr ?_
      | with_reducible refine State.modWkt_fr ?_
      | with_reducible refine State.note_fr ?_
      | with_reducible refine State.runFrame_fr ?_
      | with_reducible refine State.set_fr ?_
      | with_reducible refine State.setReply_fr ?_
      | with_reducible refine State.spent_fr ?_
      | with_reducible refine Fr.ite ?_ ?_
      | with_reducible refine Fr.cond ?_ ?_
      | with_reducible assumption
      | (refine Fr.of_snd (by assumption) ?_)
      | (refine Fr.of_fst (by assumption) ?_)
      | split
      | (unfold v; split)
      | (unfold v; clear_value *; split)
      | (clear_value *; split)

theorem State.receive_fr {κ : Nat} {s0 s : State} {f : WktFrame} {upsets : List (ℕ × Bool)} (hf_ : Fr κ s0 s) (hk_ : 0x1fffffffffffffffffffffffffffffffffffffffffffffffffffffffffffffffffffffffff6 &&& κ = 0x1fffffffffffffffffffffffffffffffffffffffffffffffffffffffffffffffffffffffff6 := by decide) :
    Fr κ s0 (State.receive s f upsets) := by
  refine Fr.lift hf_ hk_ ?_
  clear hf_ hk_
  unfold State.receive
  have h0 := Fr.refl 0x1fffffffffffffffffffffffffffffffffffffffffffffffffffffffffffffffffffffffff6 s
  repeat' first
      | ((try lift_lets); intro v; refine_lift have hv : Fr 0x1fffffffffffffffffffffffffffffffffffffffffffffffffffffffffffffffffffffffff6 s v := ?_; ?_; clear_value v)
      | ((try lift_lets); intro v)
      | with_reducible refine State.acceptFrame_fr ?_
      | with_reducible refine State.answer_fr ?_
      | with_reducible refine State.armHost_fr ?_
      | with_reducible refine State.inc_fr ?_
      | with_reducible refine State.note_fr ?_
      | with_reducible refine State.resumed_fr ?_
      | with_reducible refine State.set_fr ?_
      | with_reducible refine State.setReply_fr ?_
      | with_reducible refine Fr.ite ?_ ?_
      | with_reducible refine Fr.cond ?_ ?_
      | with_reducible assumption
      | (refine Fr.of_snd (by assumption) ?_)
      | (refine Fr.of_fst (by assumption) ?_)
      | split
      | (unfold v; split)
      | (unfold v; clear_value *; split)
      | (clear_value *; split)

theorem State.dropped_fr {κ : Nat} {s0 s : State} {f : WktFrame} (hf_ : Fr κ s0 s) (hk_ : 0x2c01001000000900000004000000000000000000000000000000000000002400012018400 &&& κ = 0x2c01001000000900000004000000000000000000000000000000000000002400012018400 := by decide) :
    Fr κ s0 (State.dropped s f) := by
  refine Fr.lift hf_ hk_ ?_
  clear hf_ hk_
  unfold State.dropped
  have h0 := Fr.refl 0x2c01001000000900000004000000000000000000000000000000000000002400012018400 s
  repeat' first
      | ((try lift_lets); intro v; refine_lift have hv : Fr 0x2c01001000000900000004000000000000000000000000000000000000002400012018400 s v := ?_; ?_; clear_value v)
      | ((try lift_lets); intro v)
      | with_reducible refine State.armHost_fr ?_
      | with_reducible refine State.pendFlag_fr ?_
      | with_reducible refine State.resumed_fr ?_
      | with_reducible refine State.set_fr ?_
      | with_reducible refine Fr.ite ?_ ?_
      | with_reducible refine Fr.cond ?_ ?_
      | with_reducible assumption
      | (refine Fr.of_snd (by assumption) ?_)
      | (refine Fr.of_fst (by assumption) ?_)
      | split
      | (unfold v; split)
      | (unfold v; clear_value *; split)
      | (clear_value *; split)

theorem State.frameIn_fr {κ : Nat} {s0 s : State} {f : WktFrame} {op : ℕ → Bool} {upsets : List (ℕ × Bool)} (hf_ : Fr κ s0 s) (hk_ : 0x1fffffffffffffffffffffffffffffffffffffffffffffffffffffffffffffffffffffffff6 &&& κ = 0x1fffffffffffffffffffffffffffffffffffffffffffffffffffffffffffffffffffffffff6 := by decide) :
    Fr κ s0 (State.frameIn s f op upsets) := by
  refine Fr.lift hf_ hk_ ?_
  clear hf_ hk_
  unfold State.frameIn
  have h0 := Fr.refl 0x1fffffffffffffffffffffffffffffffffffffffffffffffffffffffffffffffffffffffff6 s
  repeat' first
      | ((try lift_lets); intro v; refine_lift have hv : Fr 0x1fffffffffffffffffffffffffffffffffffffffffffffffffffffffffffffffffffffffff6 s v := ?_; ?_; clear_value v)
      | ((try lift_lets); intro v)
      | with_reducible refine State.dropped_fr ?_
      | with_reducible refine State.frameBegin_fr ?_
      | with_reducible refine State.pendFlag_fr ?_
      | with_reducible refine State.receive_fr ?_
      | with_reducible refine State.reject_fr ?_
      | with_reducible refine State.rejectReply_fr ?_
      | with_reducible refine Fr.ite ?_ ?_
      | with_reducible refine Fr.cond ?_ ?_
      | with_reducible assumption
      | (refine Fr.of_snd (by assumption) ?_)
      | (refine Fr.of_fst (by assumption) ?_)
      | split
      | (unfold v; split)
      | (unfold v; clear_value *; split)
      | (clear_value *; split)

theorem execNop_fr {s t_ : State} {f : WktFrame} (e_ : execNop f s = .next t_) : Fr 0x1fffffffffffffffffffffffffffffffffffffffffffffffffffffffffffffffffffffffff6 s t_ := by
  unfold execNop at e_
  obtain rfl := Host.Outcome.next.inj e_
  clear e_
  have h0 := Fr.refl 0x1fffffffffffffffffffffffffffffffffffffffffffffffffffffffffffffffffffffffff6 s
  repeat' first
      | ((try lift_lets); intro v; refine_lift have hv : Fr 0x1fffffffffffffffffffffffffffffffffffffffffffffffffffffffffffffffffffffffff6 s v := ?_; ?_; clear_value v)
      | ((try lift_lets); intro v)
      | with_reducible refine State.frameIn_fr ?_
      | with_reducible refine Fr.ite ?_ ?_
      | with_reducible refine Fr.cond ?_ ?_
      | with_reducible assumption
      | (refine Fr.of_snd (by assumption) ?_)
      | (refine Fr.of_fst (by assumption) ?_)
      | split
      | (unfold v; split)
      | (unfold v; clear_value *; split)
      | (clear_value *; split)

theorem execRead_fr {s t_ : State} {f : WktFrame} {upsets : List (ℕ × Bool)} (e_ : execRead f upsets s = .next t_) : Fr 0x1fffffffffffffffffffffffffffffffffffffffffffffffffffffffffffffffffffffffff6 s t_ := by
  unfold execRead at e_
  obtain rfl := Host.Outcome.next.inj e_
  clear e_
  have h0 := Fr.refl 0x1fffffffffffffffffffffffffffffffffffffffffffffffffffffffffffffffffffffffff6 s
  repeat' first
      | ((try lift_lets); intro v; refine_lift have hv : Fr 0x1fffffffffffffffffffffffffffffffffffffffffffffffffffffffffffffffffffffffff6 s v := ?_; ?_; clear_value v)
      | ((try lift_lets); intro v)
      | with_reducible refine State.frameIn_fr ?_
      | with_reducible refine Fr.ite ?_ ?_
      | with_reducible refine Fr.cond ?_ ?_
      | with_reducible assumption
      | (refine Fr.of_snd (by assumption) ?_)
      | (refine Fr.of_fst (by assumption) ?_)
      | split
      | (unfold v; split)
      | (unfold v; clear_value *; split)
      | (clear_value *; split)

theorem execWrite_fr {s t_ : State} {f : WktFrame} {upsets : List (ℕ × Bool)} (e_ : execWrite f upsets s = .next t_) : Fr 0x1fffffffffffffffffffffffffffffffffffffffffffffffffffffffffffffffffffffffff6 s t_ := by
  unfold execWrite at e_
  obtain rfl := Host.Outcome.next.inj e_
  clear e_
  have h0 := Fr.refl 0x1fffffffffffffffffffffffffffffffffffffffffffffffffffffffffffffffffffffffff6 s
  repeat' first
      | ((try lift_lets); intro v; refine_lift have hv : Fr 0x1fffffffffffffffffffffffffffffffffffffffffffffffffffffffffffffffffffffffff6 s v := ?_; ?_; clear_value v)
      | ((try lift_lets); intro v)
      | with_reducible refine State.frameIn_fr ?_
      | with_reducible refine Fr.ite ?_ ?_
      | with_reducible refine Fr.cond ?_ ?_
      | with_reducible assumption
      | (refine Fr.of_snd (by assumption) ?_)
      | (refine Fr.of_fst (by assumption) ?_)
      | split
      | (unfold v; split)
      | (unfold v; clear_value *; split)
      | (clear_value *; split)

theorem execReservedOpcode_fr {s t_ : State} {f : WktFrame} (e_ : execReservedOpcode f s = .next t_) : Fr 0x1fffffffffffffffffffffffffffffffffffffffffffffffffffffffffffffffffffffffff6 s t_ := by
  unfold execReservedOpcode at e_
  obtain rfl := Host.Outcome.next.inj e_
  clear e_
  have h0 := Fr.refl 0x1fffffffffffffffffffffffffffffffffffffffffffffffffffffffffffffffffffffffff6 s
  repeat' first
      | ((try lift_lets); intro v; refine_lift have hv : Fr 0x1fffffffffffffffffffffffffffffffffffffffffffffffffffffffffffffffffffffffff6 s v := ?_; ?_; clear_value v)
      | ((try lift_lets); intro v)
      | with_reducible refine State.frameIn_fr ?_
      | with_reducible refine Fr.ite ?_ ?_
      | with_reducible refine Fr.cond ?_ ?_
      | with_reducible assumption
      | (refine Fr.of_snd (by assumption) ?_)
      | (refine Fr.of_fst (by assumption) ?_)
      | split
      | (unfold v; split)
      | (unfold v; clear_value *; split)
      | (clear_value *; split)

theorem execReplyReady_fr {s t_ : State}  (e_ : execReplyReady s = .next t_) : Fr 0x10000000 s t_ := by
  unfold execReplyReady at e_
  obtain rfl := Host.Outcome.next.inj e_
  clear e_
  have h0 := Fr.refl 0x10000000 s
  repeat' first
      | ((try lift_lets); intro v; refine_lift have hv : Fr 0x10000000 s v := ?_; ?_; clear_value v)
      | ((try lift_lets); intro v)
      | with_reducible refine State.modWkt_fr ?_
      | with_reducible refine Fr.ite ?_ ?_
      | with_reducible refine Fr.cond ?_ ?_
      | with_reducible assumption
      | (refine Fr.of_snd (by assumption) ?_)
      | (refine Fr.of_fst (by assumption) ?_)
      | split
      | (unfold v; split)
      | (unfold v; clear_value *; split)
      | (clear_value *; split)

theorem execWktLenWrite_fr {s t_ : State} {w : Word} (e_ : execWktLenWrite w s = .next t_) : Fr 0x50000000 s t_ := by
  unfold execWktLenWrite at e_
  obtain rfl := Host.Outcome.next.inj e_
  clear e_
  have h0 := Fr.refl 0x50000000 s
  repeat' first
      | ((try lift_lets); intro v; refine_lift have hv : Fr 0x50000000 s v := ?_; ?_; clear_value v)
      | ((try lift_lets); intro v)
      | with_reducible refine State.lenWrite_fr ?_
      | with_reducible refine State.modWkt_fr ?_
      | with_reducible refine Fr.running ?_ (fun t ht => ?_)
      | with_reducible refine Fr.ite ?_ ?_
      | with_reducible refine Fr.cond ?_ ?_
      | with_reducible assumption
      | (refine Fr.of_snd (by assumption) ?_)
      | (refine Fr.of_fst (by assumption) ?_)
      | split
      | (unfold v; split)
      | (unfold v; clear_value *; split)
      | (clear_value *; split)

theorem execHltWrite_fr {s t_ : State} {w : Word} (e_ : execHltWrite w s = .next t_) : Fr 0x1800000000000000000000000000000000000000000000000000000000000000000 s t_ := by
  unfold execHltWrite at e_
  obtain rfl := Host.Outcome.next.inj e_
  clear e_
  have h0 := Fr.refl 0x1800000000000000000000000000000000000000000000000000000000000000000 s
  repeat' first
      | ((try lift_lets); intro v; refine_lift have hv : Fr 0x1800000000000000000000000000000000000000000000000000000000000000000 s v := ?_; ?_; clear_value v)
      | ((try lift_lets); intro v)
      | with_reducible refine State.armHost_fr ?_
      | with_reducible refine State.hltWrite_fr ?_
      | with_reducible refine Fr.running ?_ (fun t ht => ?_)
      | with_reducible refine Fr.ite ?_ ?_
      | with_reducible refine Fr.cond ?_ ?_
      | with_reducible assumption
      | (refine Fr.of_snd (by assumption) ?_)
      | (refine Fr.of_fst (by assumption) ?_)
      | split
      | (unfold v; split)
      | (unfold v; clear_value *; split)
      | (clear_value *; split)

theorem execWktCntClr_fr {s t_ : State}  (e_ : execWktCntClr s = .next t_) : Fr 0x2000000000000000000000000000000000000000000000000000000000000000000 s t_ := by
  unfold execWktCntClr at e_
  obtain rfl := Host.Outcome.next.inj e_
  clear e_
  have h0 := Fr.refl 0x2000000000000000000000000000000000000000000000000000000000000000000 s
  repeat' first
      | ((try lift_lets); intro v; refine_lift have hv : Fr 0x2000000000000000000000000000000000000000000000000000000000000000000 s v := ?_; ?_; clear_value v)
      | ((try lift_lets); intro v)
      | with_reducible refine State.wr_fr ?_
      | with_reducible refine Fr.running ?_ (fun t ht => ?_)
      | with_reducible refine Fr.ite ?_ ?_
      | with_reducible refine Fr.cond ?_ ?_
      | with_reducible assumption
      | (refine Fr.of_snd (by assumption) ?_)
      | (refine Fr.of_fst (by assumption) ?_)
      | split
      | (unfold v; split)
      | (unfold v; clear_value *; split)
      | (clear_value *; split)

theorem State.hostReact_fr {κ : Nat} {s0 s : State} {x : Axis} {react : ℕ} (hf_ : Fr κ s0 s) (hk_ : 0xc2c01000008004bc1c0004400000000020400000000001000000080000000240002207f420 &&& κ = 0xc2c01000008004bc1c0004400000000020400000000001000000080000000240002207f420 := by decide) :
    Fr κ s0 (State.hostReact s x react) := by
  refine Fr.lift hf_ hk_ ?_
  clear hf_ hk_
  unfold State.hostReact
  have h0 := Fr.refl 0xc2c01000008004bc1c0004400000000020400000000001000000080000000240002207f420 s
  repeat' first
      | ((try lift_lets); intro v; refine_lift have hv : Fr 0xc2c01000008004bc1c0004400000000020400000000001000000080000000240002207f420 s v := ?_; ?_; clear_value v)
      | ((try lift_lets); intro v)
      | with_reducible refine State.axisFaultOn_fr ?_
      | with_reducible refine State.cmdArrive_fr ?_
      | with_reducible refine Fr.ite ?_ ?_
      | with_reducible refine Fr.cond ?_ ?_
      | with_reducible assumption
      | (refine Fr.of_snd (by assumption) ?_)
      | (refine Fr.of_fst (by assumption) ?_)
      | split
      | (unfold v; split)
      | (unfold v; clear_value *; split)
      | (clear_value *; split)

theorem execHostLost_fr {s t_ : State} {ms : ℕ} (e_ : execHostLost ms s = .next t_) : Fr 0xc2c01001008004bc1c0004400000000020400000000001000000080000000240002207f420 s t_ := by
  unfold execHostLost at e_
  obtain rfl := Host.Outcome.next.inj e_
  clear e_
  have h0 := Fr.refl 0xc2c01001008004bc1c0004400000000020400000000001000000080000000240002207f420 s
  repeat' first
      | ((try lift_lets); intro v; refine_lift have hv : Fr 0xc2c01001008004bc1c0004400000000020400000000001000000080000000240002207f420 s v := ?_; ?_; clear_value v)
      | ((try lift_lets); intro v)
      | with_reducible refine State.event_fr ?_
      | with_reducible refine State.faultOn_fr ?_
      | with_reducible refine State.hostReact_fr ?_
      | with_reducible refine State.set_fr ?_
      | with_reducible refine Fr.running ?_ (fun t ht => ?_)
      | with_reducible refine Fr.ite ?_ ?_
      | with_reducible refine Fr.cond ?_ ?_
      | with_reducible assumption
      | (refine Fr.of_snd (by assumption) ?_)
      | (refine Fr.of_fst (by assumption) ?_)
      | split
      | (unfold v; split)
      | (unfold v; clear_value *; split)
      | (clear_value *; split)

end Sys2Proof.Machine
end

