-- ==== Sys2Proof/Laws/Raise.lean ====
section
/-! SUPPORT. What raising an event, a fault or a cause leaves (Machine/Lodge.lean): its bit is 1, no other bit of the kind is lost,
and what lies outside the Lodge's reach stands. -/

namespace Sys2Proof.Machine

set_option Elab.async false

/-! ### Bits of a field -/

/-- A number with bit n replaced, bit by bit. -/
theorem testBit_putBit (v n i : Nat) (b : Bool) :
    ((if bit v n = true then v - 2 ^ n else v) + (if b = true then 2 ^ n else 0)).testBit i =
      if i = n then b else v.testBit i := by
  have e : (if bit v n = true then v - 2 ^ n else v) + (if b = true then 2 ^ n else 0) =
      v - bits v n n * 2 ^ n + b2n b * 2 ^ n := by
    have : bits v n n = if bit v n = true then 1 else 0 := by
      unfold bits bit
      rw [Nat.add_sub_cancel_left, Nat.pow_one]
      rcases Nat.mod_two_eq_zero_or_one (v / 2 ^ n) with h | h <;> simp [h]
    rw [this]
    cases b <;> by_cases h : bit v n = true <;> simp [h, b2n]
  rw [e, putField_split _ _ _ _ (Nat.le_refl n), Nat.add_assoc, Nat.mul_comm (v / 2 ^ (n + 1))]
  have hr : v % 2 ^ n < 2 ^ n := Nat.mod_lt _ (Nat.two_pow_pos _)
  have hb : b2n b ≤ 1 := by cases b <;> simp [b2n]
  have hmid : b2n b * 2 ^ n + v % 2 ^ n < 2 ^ (n + 1) := by
    have : b2n b * 2 ^ n ≤ 1 * 2 ^ n := Nat.mul_le_mul_right _ hb
    have : 2 ^ (n + 1) = 2 ^ n + 2 ^ n := by ring
    omega
  rw [Nat.testBit_two_pow_mul_add _ hmid]
  by_cases hi : i < n + 1
  · rw [if_pos hi, Nat.mul_comm (b2n b), Nat.testBit_two_pow_mul_add _ hr]
    by_cases hn : i < n
    · rw [if_pos hn, if_neg (by omega), Nat.testBit_mod_two_pow]; simp [hn]
    · have : i = n := by omega
      subst this
      rw [if_neg hn, if_pos rfl]
      cases b <;> simp [b2n]
  · rw [if_neg hi, if_neg (by omega), Nat.testBit_div_two_pow]
    congr 1; omega

theorem bit_putBit (v n i : Nat) (b : Bool) :
    bit ((if bit v n = true then v - 2 ^ n else v) + (if b = true then 2 ^ n else 0)) i = if i = n then b else bit v i := by
  rw [bit_eq_testBit, testBit_putBit, bit_eq_testBit]

theorem bit_mod (v n i : Nat) : bit (v % 2 ^ n) i = (decide (i < n) && bit v i) := by
  rw [bit_eq_testBit, Nat.testBit_mod_two_pow, bit_eq_testBit]

/-- A bit of a field after `setBit` of a bit of that field. -/
theorem State.getBit_setBit (s : State) (f : Fld) (n i : Nat) (b : Bool) (h : f.ok = true) :
    (s.setBit f n b).getBit f i = (decide (i < f.width) && if i = n then b else s.getBit f i) := by
  unfold State.getBit State.setBit
  rw [State.fld_set _ _ _ h, bit_mod]
  have := bit_putBit (s.fld f) n i b
  cases b <;> simpa using congrArg (decide (i < f.width) && ·) this

/-- A bit of another field after `setBit`. -/
theorem State.getBit_setBit_other (s : State) (f g : Fld) (n i : Nat) (b : Bool) (h : f.ok = true)
    (hd : g.reg ≠ f.reg ∨ g.hi < f.lo ∨ f.hi < g.lo) : (s.setBit f n b).getBit g i = s.getBit g i := by
  unfold State.getBit State.setBit
  rw [State.fld_set_other _ _ _ _ h hd]

/-! ### Events -/

theorem State.pend_of_fr {m : Nat} {s t : State} (h : Fr m s t) (hm : m.testBit (32 + 207) = false) (e : Nat) :
    t.pend e = s.pend e := by
  unfold State.pend State.getBit
  rw [h.keep_fld (by simpa using hm)]

theorem pend_reg_ne {d e : Nat} (hd : d < 128) (he : e < 128) (h : d / 32 ≠ e / 32) :
    (F.LDG_EVT_PEND (e / 32)).reg ≠ (F.LDG_EVT_PEND (d / 32)).reg := by
  simp only [F.LDG_EVT_PEND, A.LDG_EVT_PEND]; omega

theorem State.pend_raise1 (s : State) (d e : Nat) (hd : d < 128) (he : e < 128) :
    (s.raise1 d).pend e = (decide (e = d) || s.pend e) := by
  have key : ((s.set (F.LDG_EVT_PEND (d / 32)) (if bit (s.fld (F.LDG_EVT_PEND (d / 32))) (d % 32) then
      s.fld (F.LDG_EVT_PEND (d / 32)) else s.fld (F.LDG_EVT_PEND (d / 32)) + 2 ^ (d % 32)))).pend e =
      (decide (e = d) || s.pend e) := by
    by_cases hr : d / 32 = e / 32
    · unfold State.pend State.getBit
      rw [hr, State.fld_set _ _ _ rfl, bit_mod]
      have h32 : decide (e % 32 < Fld.width (F.LDG_EVT_PEND (e / 32))) = true := by simp [Fld.width, F.LDG_EVT_PEND]; omega
      rw [h32, Bool.true_and]
      have hb := bit_putBit (s.fld (F.LDG_EVT_PEND (e / 32))) (d % 32) (e % 32) true
      by_cases hb2 : bit (s.fld (F.LDG_EVT_PEND (e / 32))) (d % 32) = true
      · rw [if_pos hb2]
        by_cases hde : e = d
        · subst hde; simp [hb2]
        · simp [hde]
      · rw [if_neg hb2] at hb ⊢
        rw [if_pos rfl] at hb
        rw [hb]
        by_cases hde : e = d
        · subst hde; simp
        · rw [if_neg (by omega)]; simp [hde]
    · unfold State.pend State.getBit
      rw [State.fld_set_other _ _ _ _ rfl (Or.inl (pend_reg_ne hd he hr))]
      have hde : e ≠ d := fun h => hr (by rw [h])
      simp [hde]
  rw [← key]
  unfold State.raise1
  dsimp only
  generalize s.set (F.LDG_EVT_PEND (d / 32)) _ = u
  refine State.pend_of_fr (m := 0x2c01000000000000000000000000000000000000000000000000000000002400002000400) ?_ (by decide) e
  have h1 : Fr 0x2c01000000000000000000000000000000000000000000000000000000002400002000400 u
      (if u.flag (F.LDG_ROUTE_KIOSK d) = true then u.forEach (u.graphsOn 2 d none) State.releaseGraph else u) :=
    Fr.ite (Fr.forEach (Fr.refl _ _) (fun t a h => State.releaseGraph_fr h)) (Fr.refl _ _)
  exact Fr.ite (State.pglTrigReg_fr h1) h1

theorem State.pend_raiseN (fuel : Nat) : ∀ (s : State) (d e : Nat), d < 128 → e < 128 → (d = e ∨ s.pend e = true) →
    (s.raiseN fuel d).pend e = true := by
  induction fuel with
  | zero => intro s d e hd he h; simp only [State.raiseN]; rw [State.pend_raise1 _ _ _ hd he]; rcases h with h | h <;> simp [h]
  | succ n ih =>
    intro s d e hd he h
    simp only [State.raiseN]
    have h1 : (s.raise1 d).pend e = true := by rw [State.pend_raise1 _ _ _ hd he]; rcases h with h | h <;> simp [h]
    generalize s.raise1 d = u at h1
    simp only [State.forEach, List.foldl]
    have step : ∀ (u : State) (x : Axis), u.pend e = true →
        (if u.capWaits x d = true then (u.capMark x).raiseN n (evAx x 14) else u).pend e = true := by
      intro u x hu
      split
      · refine ih _ _ _ (by cases x <;> decide) he (Or.inr ?_)
        rw [State.pend_of_fr (State.capMark_fr (κ := 0x4000000000000000000000000000000000000000000000018000) (Fr.refl _ _)) (by decide)]
        exact hu
      · exact hu
    exact step _ _ (step _ _ h1)

/-- R516: an event's pending bit is 1 once it has been raised. -/
theorem State.pend_event (s : State) (e : Nat) (h : eventNamed e = true) : (s.event e).pend e = true := by
  have he : e < 128 := by simp only [eventNamed, Bool.or_eq_true, Bool.and_eq_true, decide_eq_true_eq] at h; omega
  rw [State.event, if_pos h]; exact State.pend_raiseN _ _ _ _ he he (Or.inl rfl)

/-- Raising an event loses no pending bit. -/
theorem State.pend_event_mono (s : State) (d e : Nat) (he : e < 128) (h : s.pend e = true) : (s.event d).pend e = true := by
  unfold State.event
  split
  · rename_i hd
    have hd : d < 128 := by simp only [eventNamed, Bool.or_eq_true, Bool.and_eq_true, decide_eq_true_eq] at hd; omega
    exact State.pend_raiseN _ _ _ _ hd he (Or.inr h)
  · exact h

/-! ### Faults -/

theorem State.stat_of_fr {m : Nat} {s t : State} (h : Fr m s t) (hm : m.testBit (32 + 203) = false) (sc code : Nat) :
    t.stat sc code = s.stat sc code := by
  unfold State.stat State.getBit
  rw [h.keep_fld (by simpa [stFld] using hm)]

theorem State.cause_of_fr {m : Nat} {s t : State} (h : Fr m s t) (hm : m.testBit (32 + 204) = false) (sc code : Nat) :
    t.cause sc code = s.cause sc code := by
  unfold State.cause State.getBit
  rw [h.keep_fld (by simpa [causeFld] using hm)]

/-- R504: a raise sets its status bit. -/
theorem State.stat_raiseNow (s : State) (code sc unit detail : Nat) : (s.raiseNow code sc unit detail).stat sc code = true := by
  have h0 : (s.setBit (stFld sc code) (code % 32) true).stat sc code = true := by
    unfold State.stat
    rw [State.getBit_setBit _ _ _ _ _ rfl]
    simp [Fld.width, stFld, F.LDG_ST]; omega
  unfold State.raiseNow
  dsimp only
  generalize s.setBit (stFld sc code) (code % 32) true = u at h0
  refine (State.stat_of_fr (m := 0x2c01000000004a40000004000000000000000000000000000000000000002400002018400) ?_ (by decide) _ _).trans h0
  have h1 : Fr 0x2c01000000004a40000004000000000000000000000000000000000000002400002018400 u
      (if (faultClass code == 1 && s.getBit (stFld sc code) (code % 32)) = true then u.inc F.LDG_REPEAT_COUNT
        else u.logRecord code (faultClass code) sc unit detail) :=
    Fr.ite (State.inc_fr (Fr.refl _ _)) (State.logRecord_fr (Fr.refl _ _))
  exact Fr.ite (State.event_fr h1) (Fr.ite (State.event_fr h1) (Fr.ite (State.event_fr h1) (Fr.ite (State.event_fr h1) (State.event_fr h1))))

/-- A raise loses no status bit. -/
theorem State.stat_raiseNow_mono (s : State) (c k unit detail sc code : Nat) (hs : s.stat sc code = true) :
    (s.raiseNow c k unit detail).stat sc code = true := by
  have h0 : (s.setBit (stFld k c) (c % 32) true).stat sc code = true := by
    unfold State.stat at *
    by_cases hr : (stFld sc code).reg = (stFld k c).reg
    · have hf : stFld sc code = stFld k c := by
        unfold stFld F.LDG_ST at *
        dsimp only at hr
        rw [hr]
      rw [hf] at hs ⊢
      rw [State.getBit_setBit _ _ _ _ _ rfl, hs]
      simp [Fld.width, stFld, F.LDG_ST]; omega
    · rw [State.getBit_setBit_other _ _ _ _ _ _ rfl (Or.inl hr)]; exact hs
  unfold State.raiseNow
  dsimp only
  generalize s.setBit (stFld k c) (c % 32) true = u at h0
  refine (State.stat_of_fr (m := 0x2c01000000004a40000004000000000000000000000000000000000000002400002018400) ?_ (by decide) _ _).trans h0
  have h1 : Fr 0x2c01000000004a40000004000000000000000000000000000000000000002400002018400 u
      (if (faultClass c == 1 && s.getBit (stFld k c) (c % 32)) = true then u.inc F.LDG_REPEAT_COUNT
        else u.logRecord c (faultClass c) k unit detail) :=
    Fr.ite (State.inc_fr (Fr.refl _ _)) (State.logRecord_fr (Fr.refl _ _))
  exact Fr.ite (State.event_fr h1) (Fr.ite (State.event_fr h1) (Fr.ite (State.event_fr h1) (Fr.ite (State.event_fr h1) (State.event_fr h1))))

/-- What a raised fault does to the status bits beside the raise itself: nothing. -/
theorem State.stat_faultNow_eq (s : State) (code sc unit detail k c : Nat) :
    (s.faultNow code sc unit detail).stat k c = (s.raiseNow code sc unit detail).stat k c := by
  unfold State.faultNow
  rw [State.stat_of_fr (State.testAbort_fr (κ := 0xc2c01000000000800000004000000000000000000000000000000000000002400022018400) (Fr.refl _ _)) (by decide),
    State.stat_of_fr (State.markAxes_fr (κ := 0x1e000) (Fr.refl _ _)) (by decide)]

theorem State.stat_grtAdd_mono (s : State) (k sc code : Nat) (hs : s.stat sc code = true) : (s.grtAdd k).stat sc code = true := by
  unfold State.grtAdd
  split
  · rw [State.stat_of_fr (State.event_fr (κ := 0x2c01000000000800000004000000000000000000000000000000000000002400002018400) (Fr.refl _ _)) (by decide)]
    split
    · rw [State.stat_faultNow_eq]
      exact State.stat_raiseNow_mono _ _ _ _ _ _ _ hs
    · rw [State.stat_of_fr (State.hold_fr (κ := 0x1000) (Fr.refl _ _)) (by decide)]
      exact hs
  · rw [State.stat_of_fr (m := 0x8000000000000000000000000000000000000000000000000000000000000000) (State.inc_fr (Fr.refl _ _) (by unfold grtPend; split <;> (try split) <;> (try split) <;> simp <;> decide)) (by decide)]
    exact hs

/-- R504, R508: a fault raised in RUNNING sets its status bit. -/
theorem State.stat_fault (s : State) (code sc unit detail : Nat) (h : s.isRunning = true) :
    (s.fault code sc unit detail).stat sc code = true := by
  unfold State.fault
  rw [if_pos (by simp [h])]
  have h0 : (s.faultNow code sc unit detail).stat sc code = true := by
    rw [State.stat_faultNow_eq]
    exact State.stat_raiseNow _ _ _ _ _
  revert h0
  generalize s.faultNow code sc unit detail = u
  generalize grtCounters code sc = l
  unfold State.forEach
  induction l generalizing u with
  | nil => exact id
  | cons a r ih => exact fun h => ih _ (State.stat_grtAdd_mono _ _ _ _ h)

theorem State.cause_setCause (s : State) (sc code : Nat) (b : Bool) : (s.setCause sc code b).cause sc code = b := by
  unfold State.cause State.setCause
  rw [State.getBit_setBit _ _ _ _ _ rfl]
  have : code % 32 < 32 := Nat.mod_lt _ (by decide)
  simp [Fld.width, causeFld, F.LDG_CAUSE, this]

/-- A fault leaves every cause as it was. -/
theorem State.cause_fault (s : State) (code sc unit detail k c : Nat) : (s.fault code sc unit detail).cause k c = s.cause k c :=
  State.cause_of_fr (State.fault_fr (κ := 0xc2c01000008004ac000000400000000000000000000000000000000000000240002201f400) (Fr.refl _ _)) (by decide) _ _

theorem State.isRunning_of_fr {m : Nat} {s t : State} (h : Fr m s t) (h1 : m.testBit 1 = false := by decide)
    (h2 : m.testBit (32 + 1) = false := by decide) : t.isRunning = s.isRunning := by
  unfold State.isRunning State.isUp
  rw [h.keep_die h1, h.keep_fld (by simpa using h2)]

/-- R504, R507: a fault whose cause appears in RUNNING: status and cause bits are 1. -/
theorem State.stat_faultOn (s : State) (code sc unit detail : Nat) (h : s.isRunning = true) :
    (s.faultOn code sc unit detail).stat sc code = true ∧ (s.faultOn code sc unit detail).cause sc code = true := by
  unfold State.faultOn
  refine ⟨State.stat_fault _ _ _ _ _ ?_, by rw [State.cause_fault, State.cause_setCause]⟩
  rw [State.isRunning_of_fr (State.setCause_fr (κ := 0x100000000000000000000000000000000000000000000000000000000000) (Fr.refl _ _))]
  exact h

end Sys2Proof.Machine
end

