-- ==== Sys2Proof/Laws/Resets.lean ====
section
/-! SUPPORT. What a reset leaves: registers, memory (Machine/Reset.lean). -/

namespace Sys2Proof.Machine

set_option Elab.async false

theorem warmWord_por (a : Nat) : warmWord a (regPor a) = regPor a := by
  unfold warmWord
  generalize keptMask a = k
  generalize regPor a = w
  apply BitVec.eq_of_getLsbD_eq
  intro i hi
  simp only [BitVec.getLsbD_or, BitVec.getLsbD_and, BitVec.getLsbD_not]
  cases w.getLsbD i <;> cases k.getLsbD i <;> simp [hi]

theorem cget_warmFold (l m : List (Nat × Word)) (a : Nat) (hn : (l.map Prod.fst).Nodup)
    (hm : ∀ e ∈ l, cget regPor m e.1 = regPor e.1) :
    cget regPor (l.foldl (fun m e => cset regPor m e.1 ((regPor e.1 &&& ~~~(keptMask e.1)) ||| (e.2 &&& keptMask e.1))) m) a =
      if a ∈ l.map Prod.fst then warmWord a (cget regPor l a) else cget regPor m a := by
  induction l generalizing m with
  | nil => simp
  | cons e r ih =>
    simp only [List.map_cons, List.nodup_cons] at hn
    rw [List.foldl_cons, ih _ hn.2 (fun q hq => by
      have hne : q.1 ≠ e.1 := fun h => hn.1 (by rw [← h]; exact List.mem_map_of_mem hq)
      rw [cget_cset, if_neg hne]
      exact hm q (by simp [hq]))]
    by_cases hae : a = e.1
    · subst hae
      rw [if_neg hn.1, cget_cset, if_pos rfl, if_pos (by simp)]
      simp [cget, warmWord]
    · rw [cget_cset, if_neg hae]
      by_cases hr : a ∈ r.map Prod.fst
      · rw [if_pos hr, if_pos (by simp only [List.map_cons, List.mem_cons]; exact Or.inr hr)]
        simp [cget, Ne.symm hae]
      · rw [if_neg hr, if_neg (by simp only [List.map_cons, List.mem_cons]; tauto)]

theorem crising_nodup {w lo : Nat} (l : List (Nat × BitVec w)) (h : crising lo l = true) : (l.map Prod.fst).Nodup := by
  induction l generalizing lo with
  | nil => simp
  | cons e r ih =>
    simp only [crising, Bool.and_eq_true, decide_eq_true_eq] at h
    simp only [List.map_cons, List.nodup_cons, List.mem_map]
    refine ⟨?_, ih h.2⟩
    rintro ⟨q, hq, he⟩
    have := crising_key h.2 q hq
    omega

theorem cget_unlisted {w : Nat} (d : Nat → BitVec w) (l : List (Nat × BitVec w)) (a : Nat) (h : a ∉ l.map Prod.fst) :
    cget d l a = d a :=
  cget_absent a (fun e he ha => h (by rw [← ha]; exact List.mem_map_of_mem he))

/-- R72: a register word after a warm reset: its kept fields stand, the others are at their reset value. -/
theorem cget_warmRegs (l : List (Nat × Word)) (a : Nat) (h : cwf regPor l = true) :
    cget regPor (warmRegs l) a = warmWord a (cget regPor l a) := by
  simp only [cwf, Bool.and_eq_true] at h
  unfold warmRegs
  rw [cget_warmFold _ _ _ (crising_nodup _ h.1) (fun _ _ => rfl)]
  split
  · rfl
  · rename_i hn
    rw [cget_unlisted _ _ _ hn, warmWord_por]; rfl

/-- Memory below an address stands where the store keeps what lies below it. -/
theorem cget_below {w : Nat} (d : Nat → BitVec w) (l : List (Nat × BitVec w)) (n a : Nat) :
    cget d (l.filter (fun e => decide (e.1 < n))) a = if a < n then cget d l a else d a := by
  induction l with
  | nil => simp [cget]
  | cons e r ih =>
    by_cases he : e.1 < n
    · rw [List.filter_cons_of_pos (by simpa using he), cget, cget, ih]
      by_cases ha : e.1 = a
      · subst ha; simp [he]
      · simp [ha]
    · rw [List.filter_cons_of_neg (by simpa using he), ih]
      by_cases ha : e.1 = a
      · subst ha; simp [he]
      · simp [cget, ha]

end Sys2Proof.Machine
end

