-- ==== Sys2Proof/Machine/Lands.lean ====
section
/-! DEFINITION. The output lands and their states (spec/02_package_pins_supplies.md, R51, table 2.9; R220, R434): a view of the
state, which changes nothing. -/

namespace Sys2Proof.Machine

/-- The output lands of tables 2.5 and 2.6 that table 2.9 lists; a gate output and its Miller clamp by axis and channel of table
13.1. -/
inductive Land where
  | gate (x : Axis) (c : Nat)
  | clamp (x : Axis) (c : Nat)
  | wsdo
  | irq0
  | irq1
  | flt
  | xck
  | xcs
  | xrst
  | xdq
  | xdqs
  | sdclk (x : Axis)
  | osco
deriving DecidableEq, Repr

/-- What a land does. -/
inductive LandState where
  /-- Held by 10 kΩ and an unpowered clamp. -/
  | held
  /-- An unpowered clamp conducts. -/
  | unpowered
  | hiZ
  | low
  | high
  /-- A clock or the crystal oscillates. -/
  | runs
  /-- A Miller clamp is on or off. -/
  | clamp (on : Bool)
  /-- Driven by the block that owns it. -/
  | driven
deriving DecidableEq, Repr

/-- Table 2.9, supplies absent. -/
def Land.unsupplied : Land → LandState
  | .gate _ _ => .held
  | .clamp _ _ => .unpowered
  | _ => .hiZ

/-- The control die is held in reset or stays in the no-image state (R51, R90). -/
def State.noControl (s : State) : Bool := !s.isUp || [2, 6, 7].contains (s.fld F.GH_BOOT_STATUS_STATE)

/-- R220: SDCLK_x runs from RUNNING while a data input of its axis has a nonzero owner. -/
def State.sdclkRuns (s : State) (x : Axis) : Bool := s.isRunning && (List.range 4).any (fun q => s.sddOwner (4 * x.ix + q) != 0)

/-- What a land does with its supplies present: the right column of table 2.9 where Kegon is not in control, else what the land's block
says; gates and clamps as the Trellis die drives them, which in reset is off but for the ASC of R53; WSDO as it is between two frames, with
WSEL_N high (R569; `Wkt.sent` holds what it drove in the latest one); the flash lands by the transaction in progress, high-impedance
while the port is released (R606), XRST_N low until the boot has come to its flash step and in boot mode 01 (R77, R597). -/
def State.supplied (s : State) : Land → LandState
  | .gate x c => if bit (s.tr x).gates c then .high else .low
  | .clamp x c => .clamp (!bit (s.tr x).sense c)
  | .wsdo => .hiZ
  | .irq0 => if s.irq0 then .low else .hiZ
  | .irq1 => if s.irq1 then .low else .hiZ
  | .flt => if s.fltLow then .low else .hiZ
  | .xck => if s.noControl then .low else if s.flag F.ICE_STAT_RELEASED then .hiZ else if s.ice.run.isSome then .runs else .low
  | .xcs => if s.noControl then .high else if s.flag F.ICE_STAT_RELEASED then .hiZ else if s.ice.run.isSome then .low else .high
  | .xrst =>
    if s.noControl || s.fld F.GH_BOOT_STATUS_STATE == 0 then .low
    else if s.flag F.ICE_STAT_RELEASED then .hiZ
    else if s.fld F.GH_BOOT_STATUS_BOOTSEL == 1 then .low else .high
  | .xdq => if s.noControl || s.flag F.ICE_STAT_RELEASED then .hiZ else .driven
  | .xdqs => if s.noControl || s.flag F.ICE_STAT_RELEASED then .hiZ else .driven
  | .sdclk x => if s.sdclkRuns x then .runs else .low
  | .osco => .runs

/-- The supply of a land is absent: VDRVx of a gate or clamp that is off, where no supply has been reported; those of the control die in the
power-on reset, whose other column differs (DESIGN CHOICE, log entry 58). -/
def State.supplyAbsent (s : State) : Land → Bool
  | .gate x c => (s.tr x).vdrv == 0 && !bit (s.tr x).gates c
  | .clamp x c => (s.tr x).vdrv == 0 && !bit (s.tr x).gates c
  | _ => s.die == .por

/-- R51: what a land does. -/
def State.land (s : State) (l : Land) : LandState := if s.supplyAbsent l then l.unsupplied else s.supplied l

end Sys2Proof.Machine
end

