-- ==== Sys2Proof/Tests/Slice0.lean ====
section
/-! SUPPORT. The model's own tests: for every statement of Certificates/Slice0/Obligations.lean concrete states and operands that
meet its hypotheses, clause by clause, with what the command then answers; and the terms that WellFormed refuses. Expected values
are worked out by hand from the rule that the statement cites. -/

namespace Sys2Proof.Tests

set_option Elab.async false
open Sys2Proof Sys2Proof.Machine

/-- The command answers a next state, and it satisfies a test. -/
def after (c : Instr) (s : State) (p : State → Bool) : Bool :=
  match exec c s with
  | .next t => p t
  | _ => false

/-- The command answers the same state. -/
def still (c : Instr) (s : State) : Bool := after c s (fun t => t == s)

/-- The block in RUNNING with every register at its reset value, and an image that enables both axes and holds nothing else. -/
def run : State := { State.reset with die := .up, img := { Img.none with axisEn := 3 } }.set F.GH_BOOT_STATUS_STATE 5

/-- The block in RUNNING with the PLL locked and both axis timebases enabled. -/
def live : State := { ((run.set (F.PW_CTRL_EN .a) 1).set (F.PW_CTRL_EN .b) 1) with sun := { Sun.reset with pll := true } }

/-- As `live`, with axis A in a state of its machine (table 9.2). -/
def inState (n : Nat) : State := live.set (F.MC_STATE_STATE .a) n

theorem test_reset_wf : State.reset.Wf = true := by decide

theorem test_no_word_spells_a_command : decodeTableWord 32 0 = none ∧ run.withFetchWord 32 0 = run := ⟨rfl, rfl⟩

theorem test_ill_formed_operands_are_refused :
    Instr.wf (.porExit 4) = false ∧ Instr.wf (.resetPin 1000 4) = false ∧ Instr.wf (.resetPinRelease 4) = false ∧
    Instr.wf (.soft 0 4) = false ∧ Instr.wf (.reboot 0 4) = false ∧ Instr.wf (.tmodeHigh true 4) = false ∧
    Instr.wf (.thermalRestart 4) = false ∧ Instr.wf (.armAction 8 0) = false ∧ Instr.wf (.cancelAction 8 0) = false ∧
    Instr.wf (.actionFired 8) = false ∧ Instr.wf (.sourceDelivery 4 0) = false ∧ Instr.wf (.sourceDelivery 0 32) = false ∧
    Instr.wf (.taskDispatch 24) = false ∧ Instr.wf (.stealAttempt 0 [24]) = false ∧ Instr.wf (.add 24 0 0 0) = false ∧
    Instr.wf (.paceGate [1, 2, 3]) = false ∧ Instr.wf (.sarConversionEnd 2 [] 3000000) = false ∧ Instr.wf (.sinc2Result 8 []) = false ∧
    Instr.wf (.comparatorTrip 12 true [0] 3000000) = false ∧ Instr.wf (.limitTimeExpiry .a 0 0) = false ∧
    Instr.wf (.limitTimeExpiry .a 9 0) = false ∧ Instr.wf (.interlock .a 3) = false := by decide

theorem test_ill_formed_slots_are_refused :
    Instr.wf (.identificationTestEnd .a 1 [] [] 0) = false ∧ Instr.wf (.injectionEnded .a 8) = false ∧
    Instr.wf (.strengthWrite .a 3 0) = false ∧ Instr.wf (.gateOffNotSensed .a 6 0) = false ∧ Instr.wf (.cmdPinAccept .a 7 true 20) = false ∧
    Instr.wf (.desaturation .a 128 0 0 0) = false ∧ Instr.wf (.turnOnShort .a 7 0 0) = false ∧ Instr.wf (.statusClear 6 0) = false ∧
    Instr.wf (.evtPendClear 4 0) = false ∧ Instr.wf (.routeWrite 128 0) = false ∧
    Instr.wf (.grottoReverify [{ addr := 256, copy0 := [], copy1 := [] }]) = false ∧
    Instr.wf (.registerWrite 0x400002 0) = false ∧ Instr.wf (.windowMiss 24 0 []) = false ∧ Instr.wf (.trig 16) = false ∧
    Instr.wf (.busError 0 none 0) = false ∧ Instr.wf (.busError 1 (some 16) 0) = false ∧ Instr.wf (.testDone 11) = false ∧
    Instr.wf (.backgroundTestRepeat 2 0 0 0 0 0 []) = false ∧ Instr.wf (.calWrite 10 0) = false ∧
    Instr.wf (.hallCodeAccept .a 8 0) = false ∧ Instr.wf (.gateSensedOff .a 7) = false := by decide

/-! ### The whole block -/

theorem witness_StepRunsTheCommandAtTheFront :
    run.pending = [] ∧ live.mayBeOn .a 6 = false ∧ live.mayBeOn .b 6 = false ∧ run.sun.pll = false ∧ (match step run with | .next t => t == run | _ => false) = true ∧ live.pending = [] ∧ live.sun.pll = true ∧
    (match step { live with sun := { live.sun with cnt := 7#64 } } with | .next t => t.sun.cnt == 8#64 | _ => false) = true ∧
    (match step { run with pending := [.snap] } with | .next t => t.pending.isEmpty | _ => false) = true ∧
    (match step { live with sun := { live.sun with tick := 9 }, axA := live.axA, trA := { live.trA with cmd := 2, wait := [0, 160, 0, 0, 0, 0] } } with | .next t => t.trA.gates == 0b10 | _ => false) = true := by decide +kernel

theorem witness_EveryStepKeepsTheStoresCanonical : live.Wf = true ∧ (inState 4).Wf = true := by decide +kernel

/-! ### Resets, boot and image -/

/-- A keyed write of GH.RST_CTRL: FORCE, REBOOT, SOFT. -/
def rstWord (force reboot soft : Nat) : Word :=
  putField F.GH_RST_CTRL_FORCE (putField F.GH_RST_CTRL_REBOOT (putField F.GH_RST_CTRL_SOFT
    (putField F.GH_RST_CTRL_KEY 0 0xC35A) soft) reboot) force

theorem witness_WarmResetsLeaveTable33 :
    live.Wf = true ∧ live.die = .up ∧ live.rstTaken (rstWord 0 0 1) = true ∧ live.rstTaken (rstWord 0 1 0) = true ∧
    fieldOf F.GH_RST_CTRL_SOFT (rstWord 0 0 1) = 1 ∧ fieldOf F.GH_RST_CTRL_REBOOT (rstWord 0 1 0) = 1 ∧
    after (.resetPin 1000 2) live (fun t => t.die == .pinReset) = true ∧
    after (.soft (rstWord 0 0 1) 2) { live with pins := { live.pins with resetN := true } }
      (fun t => t.fld F.GH_BOOT_STATUS_STATE == 0 && t.fld F.GH_BOOT_STATUS_BOOTSEL == 2) = true ∧
    still (.resetPin 99 0) live = true ∧ ({ live with die := Die.thermal } : State).Wf = true := by decide +kernel

theorem witness_WarmResetAddsItsCause :
    live.Wf = true ∧ live.die = .up ∧ fieldOf F.GH_RST_CTRL_REBOOT (rstWord 0 1 1) = 1 ∧ live.rstTaken (rstWord 0 1 1) = true ∧
    after (.soft (rstWord 0 1 1) 0) live (fun t => t.fld F.GH_RST_CAUSE_REBOOT == 1 && t.fld F.GH_RST_CAUSE_SOFT == 0 &&
      t.fld F.GH_RST_CAUSE_POR == 1 && t.fld F.GH_RST_CAUSE_WARM_COUNT == 1) = true ∧
    after (.resetPin 1000 0) (live.set F.GH_RST_CAUSE_WARM_COUNT 255) (fun t => t.fld F.GH_RST_CAUSE_PIN == 1 &&
      t.fld F.GH_RST_CAUSE_WARM_COUNT == 255) = true ∧
    after (.thermalRestart 0) { live with die := Die.thermal } (fun t => t.fld F.GH_RST_CAUSE_THERMAL == 1) = true := by decide +kernel

theorem witness_ResetIsRefusedWhileABridgeIsEnabled :
    (inState 4).rstOpen = true ∧ (inState 4).anyBridge = true ∧ fieldOf F.GH_RST_CTRL_KEY (rstWord 0 0 1) = 0xC35A ∧
    fieldOf F.GH_RST_CTRL_SOFT (rstWord 0 0 1) = 1 ∧ fieldOf F.GH_RST_CTRL_FORCE (rstWord 0 0 1) = 0 ∧
    fieldOf F.GH_RST_CTRL_FORCE (rstWord 1 1 0) = 1 ∧
    after (.soft (rstWord 0 0 1) 0) (inState 4) (fun t => t.regs == (inState 4).regs && bit t.reply rfRunning) = true ∧
    after (.reboot (rstWord 1 1 0) 0) (inState 4) (fun t => t.isUp && t.fld F.GH_BOOT_STATUS_STATE == 0) = true := by decide +kernel

theorem witness_SuppliesAndLandsHoldAndReleaseTheDie :
    State.reset.die = .por ∧ State.reset.pins.tmode = false ∧ State.reset.pins.resetN = true ∧
    after (.porExit 3) State.reset (fun t => t.isUp && t.fld F.GH_BOOT_STATUS_BOOTSEL == 3) = true ∧
    after (.porExit 3) { State.reset with pins := { State.reset.pins with resetN := false } } (fun t => t.die == .pinReset) = true ∧
    after (.supplyBrownout 1001) live (fun t => t.die == .por) = true ∧
    still (.supplyBrownout 199) live = true ∧
    after (.resetPinRelease 1) { live with die := Die.pinReset } (fun t => t.isUp && t.pins.resetN) = true ∧
    after (.tmodeHigh true 0) live (fun t => t.die == .tmode && t.pins.tmode) = true ∧
    after .pllLock { State.reset with die := .up } (fun t => t.sun.pll) = true ∧
    after .pllLock (run.setCause 0 33 true) (fun t => t.sun.pll && !t.cause 0 33) = true ∧
    still .pllLock State.reset = true := by decide +kernel

/-- The first bytes of an image of 0x90 bytes (table 4.1): MAGIC, VERSION, LENGTH. -/
def head90 : List Byte := [0x50, 0x41, 0x52, 0x54, 0, 0, 0, 0, 0x90, 0, 0, 0] ++ List.replicate 132 0

/-- A flash of 1 MiB whose signature is found, with 1S-4S-4S reads of 6 dummy clocks and no quad-enable bit to set: MODE 2. -/
def flash1 : FlashId :=
  { signature := true, xspi := false, octalSeq := false, octalFreq := 0, octalDum := 0, quad := true, quadDum := 6, quadReq := 0, size := 0x100000 }

/-- A try that returns those bytes from it. -/
def try90 : FlashTry := { id := flash1, bytes := head90, timeouts := [] }

/-- Out of reset at the first boot step, with what the boot waits for. -/
def booting (sel : Nat) : State :=
  { ({ State.reset with die := .up }.set F.GH_BOOT_STATUS_BOOTSEL sel) with
    sun := { Sun.reset with pll := true }, org := { Org.reset with first := false } }

theorem witness_BootFollowsItsModeAndItsImage :
    (booting 3).isUp = true ∧ (booting 3).fld F.GH_BOOT_STATUS_STATE = 0 ∧ (booting 3).sun.pll = true ∧
    (booting 3).org.first = false ∧ (booting 0).fld F.GH_BOOT_STATUS_BOOTSEL = 0 ∧ (booting 1).fld F.GH_BOOT_STATUS_BOOTSEL = 1 ∧
    (booting 2).fld F.GH_BOOT_STATUS_BOOTSEL = 2 ∧
    try90.headerOk = true ∧ try90.failAt = none ∧ ({ try90 with bytes := [] } : FlashTry).headerOk = false := by decide +kernel

theorem witness_BootFollowsItsModeAndItsImage_reserved :
    after (.bootSequence [] try90 try90 9) (booting 3) (fun t => t.fld F.GH_BOOT_STATUS_RESULT == 9 &&
      t.fld F.GH_BOOT_STATUS_STATE == 6) = true := by decide +kernel

theorem witness_BootFollowsItsModeAndItsImage_host :
    after (.bootSequence [] try90 try90 9) (booting 1) (fun t => t.fld F.GH_BOOT_STATUS_STATE == 2) = true := by decide +kernel

theorem witness_BootFollowsItsModeAndItsImage_fallback :
    after (.bootSequence [] { try90 with bytes := [] } { try90 with bytes := [] } 9) (booting 2)
      (fun t => t.fld F.GH_BOOT_STATUS_RESULT == 2 && t.fld F.GH_BOOT_STATUS_STATE == 2 && t.fld F.GH_BOOT_STATUS_FALLBACK == 1) = true := by
  decide +kernel

/-- WAIT_HOST. -/
def waitHost : State := run.set F.GH_BOOT_STATUS_STATE 2

/-- A write of GH.HOST_LOAD with GO and a length. -/
def loadWord (n : Nat) : Word := putField F.GH_HOST_LOAD_GO (putField F.GH_HOST_LOAD_LEN 0 n) 1

theorem witness_HostLoadAppliesOrRefusesTheImage :
    waitHost.isUp = true ∧ waitHost.fld F.GH_BOOT_STATUS_STATE = 2 ∧ fieldOf F.GH_HOST_LOAD_GO (loadWord 0x180000) = 1 ∧
    fieldOf F.GH_HOST_LOAD_LEN (loadWord 0x180001) = 0x180001 ∧ waitHost.ecc1 = [] ∧ waitHost.ecc2 = [] ∧
    after (.hostLoadGo (loadWord 0) 9) waitHost (fun t => t.fld F.GH_BOOT_STATUS_RESULT == 8 && t.pend 82) = true ∧
    after (.hostLoadGo (loadWord 64) 9) waitHost (fun t => t.fld F.GH_BOOT_STATUS_RESULT == 8 && t.pend 82) = true := by decide +kernel

/-- An image whose section 1 is a PARAM section of axis A with no record, at 0x1000, and its stage area at 0x2000. -/
def imgUpd : Img :=
  { Img.none with axisEn := 3, stageBase := 0x2000, stageSize := 0x100, sects :=
    [{ typ := 1, flags := 0, owner := 2, grp := 0, off := 0, len := 16, dest := 0, copy1 := false },
     { typ := 3, flags := 0, owner := 0, grp := 0, off := 0, len := 16, dest := 0x1000, copy1 := false }] }

/-- RUNNING with that image, and with its timebase A enabled. -/
def updStop : State := { run with img := imgUpd }
@[inherit_doc updStop] def updLive : State := { live with img := imgUpd }

theorem witness_SectionUpdateRefusalsReport :
    updStop.isRunning = true ∧ fieldOf F.GH_SECT_UPD_GO (putField F.GH_SECT_UPD_GO 0 1) = 1 ∧
    (updStop.set F.GH_SECT_STATUS_BUSY 1).fld F.GH_SECT_STATUS_BUSY = 1 ∧ updStop.fld F.GH_SECT_STATUS_BUSY = 0 ∧
    updStop.img.sects[0]?.all (fun c => !c.isRuntime) = true ∧
    after (.sectUpd (putField F.GH_SECT_UPD_GO 0 1)) (updStop.set F.GH_SECT_STATUS_BUSY 1)
      (fun t => t.fld F.GH_SECT_STATUS_RESULT == 2) = true ∧
    after (.sectUpd (putField F.GH_SECT_UPD_GO 0 1)) updStop (fun t => t.fld F.GH_SECT_STATUS_RESULT != 0) = true := by decide +kernel

/-- A write of GH.SECT_UPD of section 1. -/
def updWord : Word := putField F.GH_SECT_UPD_SECT (putField F.GH_SECT_UPD_GO 0 1) 1

theorem witness_SectionUpdateChecksCopiesAndSwaps :
    fieldOf F.GH_SECT_UPD_GO updWord = 1 ∧ fieldOf F.GH_SECT_UPD_SECT updWord = 1 ∧ updStop.ecc1 = [] ∧ updStop.ecc2 = [] ∧
    updStop.img.sects[1]?.any (fun c => c.isRuntime) = true ∧
    after (.sectUpd updWord) updStop (fun t => t.fld F.GH_SECT_STATUS_BUSY == 0 && t.fld F.GH_SECT_STATUS_RESULT != 0) = true ∧
    updLive.sectWaits .a = false ∧ still (.sectionSwap .a) updLive = true ∧
    ((updLive.set F.GH_SECT_STATUS_BUSY 1).set F.GH_SECT_STATUS_SECT 1).sectWaits .a = true ∧
    after (.sectionSwap .a) ((updLive.set F.GH_SECT_STATUS_BUSY 1).set F.GH_SECT_STATUS_SECT 1)
      (fun t => t.fld F.GH_SECT_STATUS_BUSY == 0 && t.pend 82 && t.img.sects[1]?.any (fun c => c.copy1)) = true := by decide +kernel

/-! ### The Grotto -/

/-- A request of GRT.PROG stands at the front of the Grotto's queue. -/
def grt (s : State) (op addr : Nat) (mask : Word) : State :=
  { s with otp := { s.otp with queue := [{ src := 0, op := op, addr := addr, mask := mask, live := List.replicate 16 0 }] } }

/-- Slot 3 holds a word. -/
def full : State := { run with otp := { run.otp with cells0 := [(0x380, 1)], cells1 := [(0x380, 1)] } }

theorem witness_GrottoOperationsAreRefusedAsStated :
    (inState 4).anyBridge = true ∧ run.anyBridge = false ∧ ((grt run 1 0x80 1).grtOp 1).isSome = true ∧
    (grt run 1 9 1).blowProtected 9 1 = true ∧ ((grt run 4 0 0).grtOp 4).isSome = true ∧ (grt run 0 0 0).grtOpen = true ∧
    ((grt run 5 0x80 0).grtOp 5).isSome = true ∧
    after (.blow []) (grt (inState 4) 1 0x80 1) (fun t => t.fld F.GRT_PROG_STAT_RESULT == 2 && t.pend 101) = true ∧
    after (.blow []) (grt run 1 9 1) (fun t => t.fld F.GRT_PROG_STAT_RESULT == 6 && t.otp.queue.isEmpty) = true ∧
    commitTarget full.used = none ∧ after (.commit []) (grt full 2 0 0)
      (fun t => t.fld F.GRT_PROG_STAT_RESULT == 7) = true ∧
    after .badOp (grt run 7 0 0) (fun t => t.fld F.GRT_PROG_STAT_RESULT == 9) = true ∧
    after (.readRaw []) (grt run 5 0x80 0) (fun t => t.fld F.GRT_PROG_STAT_RESULT == 1 && t.rd (A.GRT_RAW 0) == 0) = true := by decide +kernel

/-- Both copies of each bit of the words listed read 1 at every reference. -/
def strong (l : List Nat) (s : State) : State :=
  let c := l.flatMap (fun a => (List.range 6).map (fun k => (8 * a + k, 0xFFFFFFFF#32)))
  { s with otp := { s.otp with cells0 := c, cells1 := c } }

/-- A block whose KEY_VALID is blown. -/
def sealedKey : State := strong [8] run

/-- Every quantity in its window at a time. -/
def convAt (ns : Nat) : List (Nat × Nat × Int) := [(0, ns, 2500000), (1, ns, 800000), (2, ns, 3300000), (3, ns, 25000)]

/-- A pulse that is neither refused nor aborted, and holds; one that is refused, its temperature too old. -/
def good : Pulse := { before := convAt 5000, during := [2000, 4000, 6000, 8000].flatMap convAt, reads1 := true }
@[inherit_doc good] def stale : Pulse := { good with before := (convAt 5000).take 3 ++ [(3, 5001, 25000)] }

theorem witness_GrottoOperationsBlowTheirBits :
    run.anyBridge = false ∧ (grt run 1 0x0A 0).blowProtected 0x0A 0 = false ∧ (2#32 &&& ~~~grtMask 0) = 0 ∧
    (grt run 1 0 2).blowProtected 0 2 = false ∧ commitTarget run.used = some 1 ∧ run.used 8 = 0 ∧ sealedKey.used 8 ≠ 0 ∧
    after (.sealKey []) (grt sealedKey 4 0 0) (fun t => t.fld F.GRT_PROG_STAT_RESULT == 8) = true ∧
    (List.replicate 2040 good).all (fun p => !p.refused && !p.aborted && p.reads1) = true ∧
    Pulse.aborted { good with during := [2000, 4000, 6000, 7999].flatMap convAt } = true ∧
    Pulse.aborted { good with during := (0, 100, 2449999) :: good.during } = true ∧
    after (.blow []) (grt (strong [0] run) 1 0 2) (fun t => t.fld F.GRT_PROG_STAT_RESULT == 1 && t.pend 101 &&
      t.cell 0 true 0 == 0xFFFFFFFF && t.used 1 == 0) = true ∧
    after (.flush []) (grt ((strong [0x12] run).set (grtPend 1) 2) 3 0 0) (fun t => t.fld F.GRT_PROG_STAT_RESULT == 1 &&
      ctrValue t.expected 1 == 2 && t.fld (grtPend 1) == 0) = true := by decide +kernel

/-- A keyed write of GH.FLOOR_ADV. -/
def floorWord : Word := putField F.GH_FLOOR_ADV_GO (putField F.GH_FLOOR_ADV_KEY 0 0xA55A) 1

/-- RUNNING with an image that asks for a floor. -/
def floorTo (n : Nat) (zero : Bool) : State := { run with img := { Img.none with floorReq := n, zeroKey := zero } }

theorem witness_FloorAdvanceFollowsR125 :
    run.grtOpen = true ∧ run.otp.queue = [] ∧ fieldOf F.GH_FLOOR_ADV_KEY floorWord = 0xA55A ∧ fieldOf F.GH_FLOOR_ADV_GO floorWord = 1 ∧
    ctrValue run.expected 0 = 0 ∧ (floorTo 2 false).anyBridge = false ∧
    after (.floorAdv floorWord []) (floorTo 2 true) (fun t => t.fld F.GH_FLOOR_ADV_RESULT == 2 && t.pend 82 && t.pend 101) = true ∧
    after (.floorAdv floorWord []) (floorTo 0 false) (fun t => t.fld F.GH_FLOOR_ADV_RESULT == 3) = true ∧
    after (.floorAdv floorWord []) (strong [0x10] (floorTo 2 false)) (fun t => t.fld F.GH_FLOOR_ADV_RESULT == 1 &&
      t.fld F.GH_FLOOR_ADV_STEPS == 2 && ctrValue t.expected 0 == 2) = true ∧
    after (.floorAdv floorWord [stale]) (floorTo 64 false) (fun t => t.fld F.GH_FLOOR_ADV_RESULT == 4) = true ∧
    after (.floorAdv floorWord []) { floorTo 64 false with otp := { run.otp with latched := [(0x11, 0x80000000)] } }
      (fun t => t.fld F.GH_FLOOR_ADV_RESULT == 6) = true ∧ still (.floorAdv 0 []) run = true := by decide +kernel

/-- The re-verify is due, and word 0 reads a bit that it did not at boot. -/
def due (norm : List (Nat × Word)) : State := { run with otp := { run.otp with verify := 2, cells0 := norm } }

theorem witness_ReverifyReportsWeakAndDifferingWords :
    bit run.otp.verify 1 = false ∧ (due []).isUp = true ∧ (due []).fld F.GH_BOOT_STATUS_STATE ≠ 0 ∧ (due []).otp.queue = [] ∧ (due [(0, 1)]).weakBits 0 ≠ 0 ∧ (due [(0, 1)]).used 0 ≠ (due [(0, 1)]).expected 0 ∧
    0 ∉ (due [(0, 1)]).otp.differ ∧ still (.grottoReverify []) run = true ∧
    after (.grottoReverify []) (due [(0, 1)]) (fun t => t.otp.verify == 0 && t.stat 4 46 && t.pend 100 && t.stat 4 47 && t.cause 4 47 &&
      t.pend 102 && t.otp.differ.contains 0) = true := by decide +kernel

/-! ### The axis timebases -/

/-- `live` with both periods at 4000 ticks. -/
def timed : State :=
  (((live.set (F.PW_PERIOD_TICKS .a) 4000).set (F.PW_PERIOD_EFF_TICKS .a) 4000).set (F.PW_PERIOD_EFF_TICKS .b) 4000).setSh
    (F.PW_PERIOD_TICKS .a) 4000

theorem witness_UpdateInstantTakesTheSetOrKeepsThePrevious :
    run.counts .a = false ∧ timed.counts .a = true ∧ (timed.tb .a).setOk = false ∧
    ((timed.modTb .a (fun t => { t with setOk := true })).tb .a).setOk = true ∧
    (timed.set (F.MC_STATE_STATE .a) 4).bridgeOn .a = true ∧ (timed.set (F.MC_STATE_STATE .a) 4).cause (scAxis .a) 15 = false ∧
    after (.updateInstant .a false) ((timed.modTb .a (fun t => { t with setOk := true })).setSh (F.PW_CMP_D .a 0) 9000)
      (fun t => t.fld (F.PW_CMP_D .a 0) == 9000 && t.fld (F.HB_MISS_RUN .a) == 0 && !(t.tb .a).setOk) = true ∧
    after (.updateInstant .a false) ((timed.set (F.MC_STATE_STATE .a) 4).set F.HB_MISS_CFG_RUN_A 1)
      (fun t => t.fld (F.PW_STAT_MISSED .a) == 1 && t.stat 1 15 && t.cause 1 15 && t.fld (F.HB_MISS_RUN .a) == 1) = true ∧
    still (.updateInstant .a true) run = true := by decide +kernel

/-- The run of graph 0 that serves update instant 1. -/
def inst0 (tasks : List TStat) : Inst :=
  { graph := 0, trigAt := 0, start := 0, serves := 1, margin := 6, seen := [], tasks := tasks, old := [], bodies := [], recs := [], lat := none }

/-- A run of graph 0 is in progress, for an update instant. -/
def served (n : Nat) : State := timed.modFab (fun f => { f with insts := [{ inst0 [] with serves := n }] })

theorem witness_CompareSetsAndEdgesArriveAsStated :
    timed.flag (F.PW_CTRL_EN .a) = true ∧ timed.setLate .a none = false ∧ run.flag (F.PW_CTRL_EN .a) = false ∧
    timed.setLate .a (some 0) = true ∧ timed.setLate .a (some 1) = false ∧
    timed.levels .a 0 ≠ (timed.tb .a).out ∧ 0 < timed.interval .a (timed.period .a) ∧
    after (.compareSetArrival .a 5 6 7 0 none) timed (fun t => (t.tb .a).setOk && t.want (F.PW_CMP_D .a 2) == 7 &&
      t.fld (F.PW_CMP_D .a 2) == 0) = true ∧
    after (.compareSetArrival .a 5 6 7 0 none) run (fun t => t.fld (F.PW_CMP_D .a 2) == 7) = true ∧
    after (.edgeCommand .a 0 511) timed (fun t => t.fld (F.PW_CNT_DELAYED .a) == 3 && t.pend (evAx .a 18)) = true ∧
    after (.edgeCommand .a 0 512) timed (fun t => t.regs == timed.regs && (t.tb .a).out == 0b101010) = true ∧
    still (.edgeCommand .a 0 0) (timed.modTb .a (fun t => { t with out := 0b101010 })) = true := by decide +kernel

theorem witness_PeriodWritesAreAcceptedInRangeOnly :
    after (.periodWrite .a 3999) run (fun t => t.fld (F.PW_STAT_PER_REFUSED .a) == 1) = true ∧
    after (.periodWrite .a 400001) (run.set (F.PW_CTRL_CARRIER .a) 1) (fun t => t.fld (F.PW_STAT_PER_REFUSED .a) == 1) = true ∧
    after (.periodWrite .a 4001) run (fun t => t.fld (F.PW_STAT_PER_REFUSED .a) == 1) = true ∧
    after (.periodWrite .a 4001) (run.set (F.PW_CTRL_CARRIER .a) 1) (fun t => t.fld (F.PW_STAT_PER_REFUSED .a) == 0) = true ∧
    after (.periodWrite .a 4000) (run.set (F.PW_PER_LIM_MIN .a) 4000) (fun t => t.fld (F.PW_PERIOD_TICKS .a) == 4000 &&
      t.fld (F.PW_PERIOD_EFF_TICKS .a) == 4000) = true ∧
    after (.periodWrite .a 400000) (timed.set (F.PW_PER_LIM_MIN .a) 4000) (fun t => t.fld (F.PW_STAT_PER_PENDING .a) == 1 &&
      t.fld (F.PW_PERIOD_TICKS .a) == 4000) = true := by decide +kernel

theorem witness_EnableCarrierAndUpdateModeAreFixedWhileTheBridgeIsEnabled :
    run.isRunning = true ∧ (inState 4).bridgeOn .a = true ∧
    after (.pwmCtrlWrite .a 0) (inState 4) (fun t => t.fld (F.PW_CTRL_EN .a) == 1) = true ∧
    after (.pwmCtrlWrite .a 0) live (fun t => t.fld (F.PW_CTRL_EN .a) == 0) = true ∧
    after (.pwmCtrlWrite .a (putField (F.PW_CTRL_CNT_CLR .a) 0 1)) (live.set (F.PW_CNT_DELAYED .a) 3)
      (fun t => t.rd (A.PW_CNT .a) == 0) = true := by decide +kernel

theorem witness_CarrierStartAppliesWhatWaits :
    run.counts .a = false ∧ timed.counts .a = true ∧ timed.isRunning = true ∧ timed.sun.pll = true ∧
    after (.valleyOrWrap .a 0) (((timed.set (F.PW_STAT_PER_PENDING .a) 1).setSh (F.PW_PERIOD_TICKS .a) 5000).modTb .a
      (fun t => { t with setAnn := some (5000, 0), setOk := true })) (fun t => t.fld (F.PW_PERIOD_TICKS .a) == 5000 && t.pend (evAx .a 20) &&
        t.fld (F.PW_STAT_PER_PENDING .a) == 0) = true ∧
    after (.valleyOrWrap .a 0) ((timed.set (F.PW_STAT_PER_PENDING .a) 1).setSh (F.PW_PERIOD_TICKS .a) 5000)
      (fun t => t.fld (F.PW_PERIOD_TICKS .a) == 4000 && t.fld (F.PW_STAT_PER_PENDING .a) == 1) = true ∧
    after .referenceClockLost timed (fun t => t.stat 0 33 && t.cause 0 33 && !t.counts .a && t.axB.fault) = true ∧
    after .referenceClockLost (timed.set F.GH_BOOT_STATUS_STATE 2) (fun t => !t.stat 0 33 && t.cause 0 33 && !t.sun.pll) = true := by decide +kernel

/-- A period of 5000 ticks waits; the compare set that has arrived announced `p` after `n` changes, and one change came. -/
def announced (p n : Nat) : State :=
  ((timed.set (F.PW_STAT_PER_PENDING .a) 1).setSh (F.PW_PERIOD_TICKS .a) 5000).modTb .a
    (fun t => { t with setAnn := some (p, n), changes := 1, setOk := true })

theorem witness_CarrierStartAppliesWhatWaits_announced :
    (announced 4500 0).flag (F.PW_STAT_PER_PENDING .a) = true ∧ (announced 4500 0).periodWanted .a = 5000 ∧
    after (.valleyOrWrap .a 0) (announced 5000 1) (fun t => t.fld (F.PW_PERIOD_TICKS .a) == 5000 &&
      t.fld (F.PW_PERIOD_EFF_TICKS .a) == 5000 && t.fld (F.PW_STAT_PER_PENDING .a) == 0) = true ∧
    after (.valleyOrWrap .a 0) (announced 4500 0) (fun t => t.fld (F.PW_PERIOD_TICKS .a) == 4000 &&
      t.fld (F.PW_PERIOD_EFF_TICKS .a) == 4500 && t.fld (F.PW_STAT_PER_PENDING .a) == 1 && t.pend (evAx .a 20)) = true := by
  decide +kernel

theorem witness_OwnershipBecomesActiveAtTheNextSampleInstant :
    (timed.set (F.PW_SAMP_EN .a 3) 1).flag (F.PW_SAMP_EN .a 3) = true ∧ timed.counts .a = true ∧ run.counts .a = false ∧
    timed.flag (F.PW_SAMP_EN .a 3) = false ∧
    after (.ownWrite .a 0x3FF) run (fun t => t.rd (A.MC_OWN .a) == 0x3FF) = true ∧
    after (.ownWrite .a 0x3FF) timed (fun t => t.rd (A.MC_OWN .a) == timed.rd (A.MC_OWN .a) && t.rdSh (A.MC_OWN .a) == 0x3FF) = true ∧
    after (.sampleInstant .a 3 0 []) (((timed.set (F.PW_SAMP_EN .a 3) 1).wrSh (A.MC_OWN .a) 0x201).wr (A.MC_OWN .a) 0)
      (fun t => t.rd (A.MC_OWN .a) == 0x201 && (t.tb .a).begun) = true ∧
    still (.sampleInstant .a 3 0 []) timed = true := by decide +kernel

/-! ### The Sundial -/

/-- Disciplined, in a state of table 6.6, `since` ticks after the last valid pulse at 400 000 000. -/
def sunIn (st since : Nat) : State :=
  { ((live.set F.SUN_CTRL_DISC_EN 1).set F.SUN_STAT_STATE st) with
    sun := { live.sun with cnt := BitVec.ofNat 64 (400000000 + since), last := some 400000000 } }

theorem witness_PpsPulsesAreStampedJudgedAndDisciplineTheCounter :
    live.isUp = true ∧ live.sun.pll = true ∧ live.flag F.SUN_CTRL_PPS_FALL = false ∧ live.fld F.SUN_STAT_SET_PENDING = 0 ∧
    (sunIn 1 400000000).ppsValid (sunIn 1 400000000).now = true ∧ (sunIn 1 200000).ppsValid (sunIn 1 200000).now = false ∧
    (sunIn 1 0).sun.last = some 400000000 ∧ 500000000 ≤ unsigned 64 (((sunIn 2 500000000).now : Int) - 400000000) ∧
    still (.ppsPulse false) live = true ∧
    after (.ppsPulse true) (sunIn 1 200000) (fun t => t.pend 85 && t.fld F.SUN_STAT_REJECTS == 1) = true ∧
    (sunIn 1 400004001).sunState = 1 ∧ (phaseErr (sunIn 1 400004001).now).natAbs = 4001 ∧ (phaseErr (sunIn 1 400004000).now).natAbs = 4000 ∧
    after .ppsTimeout (sunIn 2 500000000) (fun t => t.sunState == 3 && t.pend 87) = true ∧
    after (.ppsPulse true) (sunIn 0 200000) (fun t => t.sunState == 1 && t.pend 85) = true := by decide +kernel

theorem witness_SundialSetsAndSnapshots :
    live.isRunning = true ∧ live.flag F.SUN_CTRL_SET_AT_PPS = false ∧ (live.set F.SUN_CTRL_SET_AT_PPS 1).flag F.SUN_CTRL_SET_AT_PPS = true ∧
    (live.set F.SUN_STAT_SET_PENDING 1).flag F.SUN_STAT_SET_PENDING = true ∧ fieldOf F.SUN_CTRL_SET_GO 0 = 0 ∧
    after .setGo (live.set F.SUN_SET_HI 1) (fun t => t.now == 0x100000000 && t.pend 88 && t.sunState == 0) = true ∧
    after .setGo (live.set F.SUN_CTRL_SET_AT_PPS 1) (fun t => t.fld F.SUN_STAT_SET_PENDING == 1 && t.now == 0) = true ∧
    after (.sunCtrlWrite (putField F.SUN_CTRL_DISC_EN 0 0)) (sunIn 2 0) (fun t => t.sunState == 0) = true ∧
    after .snap (sunIn 0 5) (fun t => t.fld F.SUN_SNAP_LO == 400000005 && t.fld F.SUN_SNAP_HI == 0) = true ∧
    after (.sunCtrlWrite (putField F.SUN_CTRL_SET_GO (putField F.SUN_CTRL_DISC_EN 0 1) 1)) ((sunIn 2 5).set F.SUN_SET_HI 1) (fun t =>
      t.now == 0x100000000 && t.sunState == 1 && t.fld F.SUN_CTRL_SET_GO == 0) = true ∧
    after (.sunCtrlWrite (putField F.SUN_CTRL_SET_GO (putField F.SUN_CTRL_SET_AT_PPS 0 1) 1)) (sunIn 2 5) (fun t =>
      t.now == 400000005 && t.fld F.SUN_STAT_SET_PENDING == 1 && t.fld F.SUN_CTRL_SET_GO == 1) = true := by decide +kernel

/-- A write of ACTn_CTRL that arms the slot with a CODE. -/
def armWord (code : Nat) : Word := putField (F.SUN_ACT_CTRL_ARM 7) (putField (F.SUN_ACT_CTRL_CODE 7) 0 code) 1

/-- Slot 7 armed for `time` with a CODE. -/
def armedSlot (code time : Nat) : State :=
  (live.set (F.SUN_ACT_CTRL_ARM 7) 1).modSun (fun u => { u with cnt := 5, acts := setNth u.acts 7 (time, code, 0, false) })

theorem witness_ActionSlotsArmCancelAndFire :
    fieldOf (F.SUN_ACT_CTRL_ARM 7) (armWord 5) = 1 ∧ fieldOf (F.SUN_ACT_CTRL_CANCEL 7) (armWord 5) = 0 ∧
    fieldOf (F.SUN_ACT_CTRL_CODE 7) (armWord 6) = 6 ∧ live.fld (F.SUN_ACT_CTRL_ARM 7) = 0 ∧ (armedSlot 0 5).fld (F.SUN_ACT_CTRL_ARM 7) = 1 ∧
    (armedSlot 0 5).act 7 = (5, 0, 0, false) ∧ (armedSlot 1 5).pendCmd .a = none ∧
    after (.armAction 7 (armWord 5)) live (fun t => t.fld (F.SUN_ACT_CTRL_ARM 7) == 1 && (t.act 7).2.1 == 5) = true ∧
    after (.armAction 7 (armWord 6)) live (fun t => t.fld (F.SUN_ACT_CTRL_ARM 7) == 0) = true ∧
    after (.cancelAction 7 (putField (F.SUN_ACT_CTRL_CANCEL 7) 0 1)) (armedSlot 0 9) (fun t => t.fld (F.SUN_ACT_CTRL_STATUS 7) == 5) = true ∧
    after (.actionFired 7) (armedSlot 0 5) (fun t => t.pend 90 && t.fld (F.SUN_ACT_CTRL_STATUS 7) == 2) = true ∧
    after (.actionFired 7) (armedSlot 1 5) (fun t => t.axA.cmd == some { code := 2, tag := 0xF7, src := 1, slot := some 7 }) = true ∧
    still (.actionFired 7) (armedSlot 0 6) = true ∧
    after (.actionFired 7) (((armedSlot 0 5).set (F.SUN_ACT_CTRL_ARM 2) 1).modSun (fun u => { u with acts := setNth u.acts 2 (5, 1, 0, false) }))
      (fun t => t.fld (F.SUN_ACT_CTRL_ARM 2) == 0 && t.fld (F.SUN_ACT_CTRL_ARM 7) == 0 && t.axA.cmd.isSome) = true := by decide +kernel

/-! ### The Bandstand and the kiosks -/

/-- A graph of axis A of two tasks, the second fed by the first and by source 0; COST 10 each. -/
def graphA : GraphD :=
  { sect := 0, gid := 77, axis := 0, cls := 0, trigger := 0, trigArg := 0, deadline := 100, wcet := 0,
    tasks := [{ tid := 0, flags := 0, kiosk := 0, oplOff := 0, oplLen := 1, ninput := 0, cost := 10 },
              { tid := 1, flags := 0, kiosk := 0, oplOff := 0, oplLen := 1, ninput := 2, cost := 10 }],
    edges := [(0, 1), (0xFF00, 1)] }

/-- `live` with that graph, all kiosks of the role of axis A. -/
def graphed : State := { live with img := { Img.none with axisEn := 3, graphs := [graphA], roles := List.replicate 24 1 } }

/-- A trigger of the graph waits. -/
def triggered (insts : List Inst) : State :=
  graphed.modFab (fun f => { f with trigs := [{ graph := 0, at_ := 3, start := 0, serves := 1, band := 2, lat := none }], insts := insts })

/-- The first task of the graph waits on the queue of kiosk k. -/
def onQueue (k : Nat) : State :=
  (graphed.modFab (fun f => { f with insts := [inst0 [.queued, .waiting]] })).modKiosk k
    (fun q => { q with queue := [{ graph := 0, task := 0, dl := some 200, rel := 0 }] })

/-- A run of the first task with a scratch area. -/
def run0 (sc : List Word) : Run :=
  { graph := 0, task := 0, scratch := sc ++ List.replicate (16 - sc.length) 0, numeric := false, steps := 4, stalled := none,
    lock := none, ops := 0, est := 0, rel := 0 }

/-- It runs on kiosk 23. -/
def task (sc : List Word) : State :=
  (graphed.modFab (fun f => { f with insts := [inst0 [.running, .waiting]] })).modKiosk 23
    (fun q => { q with run := some (run0 sc) })

theorem witness_TriggersReleaseGraphsAndDeliveriesReadyTasks :
    (triggered []).graphD 0 = some graphA ∧ (triggered []).instOf 0 = none ∧ (triggered []).fab.ready = [] ∧
    ((triggered [inst0 [.done, .done]]).instOf 0).isSome = true ∧ (task []).mayDeliver 0 0 = true ∧ (task []).mayDeliver 3 0 = false ∧
    graphA.outEdges 0xFF00 = [1] ∧
    after .graphTrigger (triggered []) (fun t => (t.instOf 0).any (fun i => i.trigAt == 3 && i.margin == 7 &&
      i.tasks == [.queued, .waiting])) = true ∧
    after .graphTrigger (triggered [inst0 [.done, .done]]) (fun t => t.fld F.HB_LATE_OVR_A == 1) = true ∧
    after (.sourceDelivery 0 0) (task []) (fun t => (t.instOf 0).any (fun i => i.seen == [1])) = true ∧
    still (.sourceDelivery 3 0) (task []) = true := by decide +kernel

theorem witness_KiosksTakeTheEarliestDeadlineAndSteal :
    (onQueue 0).kioskFree 0 = true ∧ (onQueue 0).kioskFree 23 = true ∧ (onQueue 0).fab.kiosks[23]? = some Kiosk.idle ∧
    (onQueue 0).victims 23 = List.range 23 ∧ (onQueue 0).loot 0 = some { graph := 0, task := 0, dl := some 200, rel := 0 } ∧
    (onQueue 0).loot 1 = none ∧
    after (.taskDispatch 0) (onQueue 0) (fun t => (t.kiosk 0).run.any (fun r => r.steps == 4)) = true ∧
    after (.stealAttempt 23 []) (onQueue 0) (fun t => (t.kiosk 23).run.isSome && t.fld F.HB_STEAL_TAKEN == 1) = true ∧
    after (.stealAttempt 23 [0]) (onQueue 0) (fun t => (t.kiosk 23).resting && t.fld F.HB_STEAL_LOST == 1) = true ∧
    still (.stealAttempt 23 []) ((onQueue 0).modKiosk 23 (fun q => { q with resting := true })) = true := by decide +kernel

theorem witness_TasksEndWithTheirOutputsOrAreAbandoned :
    (((task []).kiosk 23).run.any (fun r => r.stalled.isNone && r.lock.isNone && decide (4 * (task []).runCost r < r.steps + 37))) = true ∧
    after (.taskComplete 23) (task []) (fun t => (t.kiosk 23).run.isNone && (t.instOf 0).any (fun i => i.seen == [0])) = true ∧
    after (.taskComplete 23) (((task []).modRun 23 (fun r => { r with numeric := true })).modFab
      (fun f => { f with numPrev := [(0, 0)] })) (fun t => t.stat 1 16) = true ∧
    after (.taskOverrun 23 37) (task []) (fun t => t.fld F.HB_ABANDON_DETAIL == 1 && t.fld F.HB_ABANDON_KIOSK == 23 &&
      t.fld F.HB_ABANDON_GRAPH == 77 && t.stat 1 17) = true ∧
    still (.taskOverrun 23 36) (task []) = true ∧ still (.lockWaitTimeout 23 101) (task []) = true ∧
    after (.lockWaitTimeout 23 101) ((task []).modRun 23 (fun r => { r with lock := some 0 })) (fun t => t.fld F.HB_ABANDON_DETAIL == 3) = true ∧
    still (.lockWaitTimeout 23 100) ((task []).modRun 23 (fun r => { r with lock := some 0 })) = true ∧
    after (.taskComplete 23) ((task []).modRun 23 (fun r => { r with steps := 37 })) (fun t => t.fld F.HB_ABANDON_DETAIL == 1) = true ∧
    after (.taskComplete 23) (((task []).modFab (fun f => { f with insts := [inst0 [.running, .done]] })).modSun (fun u => { u with tick := 38 }))
      (fun t => t.fld F.HB_LATE_LATE_A == 1 && t.stat 1 32) = true := by decide +kernel

/-- A PARAM section of axis A at 0x1000 with one record of a binary32 VALUE, and a MAP section at 0x2000 with MAP_ID 1 and the points
(1.0, 1.0) and (2.0, 1.0). -/
def withRecord (s : State) (id : Nat) (v : Word) : State :=
  ((s.modImg (fun i => { i with axisEn := 3, sects := [
      { typ := 3, flags := 0, owner := 0, grp := 0, off := 0, len := 16, dest := 0x1000, copy1 := false },
      { typ := 4, flags := 0, owner := 0, grp := 0, off := 0, len := 80, dest := 0x2000, copy1 := false }] })).setWords 0x1000
    [BitVec.ofNat 32 id, v, 0, 0]).setWords 0x2000 [0x02000001, 0x3F800000, 0x3F800000, 0x40000000, 0x3F800000]

/-- The last task of a slot 0 graph runs: Cascade A serves a bus at `v`, from BRK_ON 0 to BRK_FULL 2.0, with T of 100 ticks. -/
def braking (v : Word) : State :=
  (withRecord ((task []).modFab (fun f => { f with insts := [{ inst0 [.running, .done] with recs := [(0, [0, 0, 0, 100]), (4, [v])] }] }))
    0x0E01 0x40000000).set (F.TR_SAFE_CFG_CSC_EN .a) 1

theorem witness_TasksEndWithTheirOutputsOrAreAbandoned_brake :
    (braking 0).axState .a = 0 ∧ graphA.trigger = 0 ∧ graphA.axis = 0 ∧
    after (.taskComplete 23) (((braking 0x3F800000).set (F.MC_STATE_STATE .a) 4).set (F.PW_CMP_BK_D .a) 7)
      (fun t => t.want (F.PW_CMP_BK_D .a) == 800 && t.fld (F.PW_CMP_BK_D .a) == 7) = true ∧
    after (.taskComplete 23) ((braking 0x40000000).set (F.MC_STATE_STATE .a) 1) (fun t => t.want (F.PW_CMP_BK_D .a) == 1600) = true ∧
    after (.taskComplete 23) ((braking 0).set (F.MC_STATE_STATE .a) 6) (fun t => t.want (F.PW_CMP_BK_D .a) == 0) = true ∧
    after (.taskComplete 23) ((braking 0x40000000).setSh (F.PW_CMP_BK_D .a) 9) (fun t => t.want (F.PW_CMP_BK_D .a) == 0) = true ∧
    after (.taskComplete 23) ((braking 0x40000000).set (F.MC_STATE_STATE .a) 7) (fun t => t.want (F.PW_CMP_BK_D .a) == 1600) = true := by
  decide +kernel

theorem witness_PaceGateReportsPaceBelowItsFloors :
    run.fab.paceRun.length = 4 ∧ ({ run with fab := { run.fab with paceRun := [1, 0, 0, 0] } } : State).fab.paceRun[0]? = some 1 ∧
    after (.paceGate [5400, 5400, 5400, 5400]) run (fun t => t.fld (F.HB_PACE_LAST 3) == 5400 && !t.stat 0 37 && !t.cause 0 34) = true ∧
    after (.paceGate [99, 5400, 5400, 5400]) ({ run with fab := { run.fab with paceRun := [1, 0, 0, 0] } }.set F.HB_PACE_LIM_IMG_FLOOR 100)
      (fun t => t.getBit F.HB_PACE_STAT_BELOW_FLOOR 0 && t.stat 0 34 && t.cause 0 34 && t.axA.fault && t.axB.fault) = true := by decide +kernel

/-! ### Operators: SCRATCH operands of the task on kiosk 23, word i of the scratch area at address 4·i -/

/-- The task reads its inputs, and its operand words are ones an image can hold. -/
def reads (s : State) (op : Nat) (ws : List Word) (ins : List (Word × Nat)) : Bool :=
  match s.runOf 23 with
  | some r => s.isRunning && s.operandsFit r op ws && !s.roamLocal r ws && (s.readAll 23 r ins).1.isSome
  | none => false

/-- The command leaves a scratch word with a value. -/
def leaves (c : Instr) (s : State) (i : Nat) (v : Word) : Bool :=
  after c s (fun t => (t.kiosk 23).run.any (fun r => nth 0 r.scratch i == v))

/-- The task has been abandoned with a detail. -/
def abandons (c : Instr) (s : State) (d : Nat) : Bool :=
  after c s (fun t => t.fld F.HB_ABANDON_DETAIL == d && (t.kiosk 23).run.isNone)

theorem witness_OperatorsRunOnlyForATaskThatWaitsForNothing :
    run.runOf 23 = none ∧ ((task []).runOf 23).isSome = true ∧
    ((task []).runOf 23).any (fun r => (task []).operandsFit r 2 [0, 0x20000000, 0] && (task []).roamLocal r [0, 0x20000000, 0]) = true ∧
    still (.add 23 0 0 0) run = true ∧ still (.add 23 0 0 0) ((task []).modRun 23 (fun r => { r with lock := some 0 })) = true ∧
    abandons (.add 23 0 0x20000000 0) (task []) 4 = true := by decide +kernel

theorem witness_ArithmeticOperatorsGiveTable54 :
    reads (task [0, 0x3F800000, 0x40000000]) 2 [0, 4, 8] [(4, 1), (8, 1)] = true ∧
    leaves (.mov 23 [] 0 4) (task [0, 0x3F800000]) 0 0x3F800000 = true ∧
    leaves (.add 23 0 4 8) (task [0, 0x3F800000, 0x40000000]) 0 0x40400000 = true ∧
    leaves (.sub 23 0 4 8) (task [0, 0x40400000, 0x40000000]) 0 0x3F800000 = true ∧
    leaves (.mul 23 0 4 8) (task [0, 0x40400000, 0x40000000]) 0 0x40C00000 = true ∧
    leaves (.mac 23 0 4 8 12) (task [0, 0x3F800000, 0x40000000, 0x40400000]) 0 0x40A00000 = true ∧
    leaves (.div 23 0 4 8) (task [0, 0xBF800000, 0]) 0 0xFF800000 = true ∧
    leaves (.sqrt 23 0 4) (task [5, 0xBF800000]) 0 0 = true ∧ leaves (.abs 23 0 4) (task [0, 0xBF800000]) 0 0x3F800000 = true ∧
    leaves (.min2 23 0 4 8) (task [0, 0x7FC00000, 0x40000000]) 0 0x40000000 = true ∧
    leaves (.max2 23 0 4 8) (task [0, 0x3F800000, 0x40000000]) 0 0x40000000 = true ∧
    leaves (.cmp 23 0 4 8 12) (task [0, 0x7FC00000, 0x40000000, 3]) 0 0x3F800000 = true ∧
    leaves (.sel 23 0 4 8 12) (task [0, 0, 0x7F800000, 0x40000000]) 0 0x40000000 = true ∧
    leaves (.sel 23 0 4 8 12) (task [0, 0x3F800000, 0x00000001, 0]) 0 0 = true ∧
    reads (task [0, 0, 0]) 0x0C [0, 4, 8] [(8, 1)] = true ∧ fFinite 0 = true ∧ qLe (qAbs (fVal 0)) sinMax = true ∧
    leaves (.sincos 23 0 4 8) (task [0, 0, 0x7F800000]) 0 fNaN = true := by decide +kernel

theorem witness_ArithmeticOperatorsGiveTable54_angles :
    leaves (.wrap 23 0 4) (task [0, 0x40E00000]) 0 (fWrap 0x40E00000) = true ∧
    leaves (.atan2 23 0 4 8) (task [5, 0, 0x3F800000]) 0 0 = true := by decide +kernel

theorem witness_FiltersAndCompensatorsGiveTheirResults :
    reads (task [0, 0x40400000, 0x3F800000, 0x40000000]) 0x0B [0, 4, 8, 12] [(4, 1), (8, 1), (12, 1)] = true ∧
    leaves (.lim 23 0 4 8 12) (task [0, 0x40400000, 0x3F800000, 0x40000000]) 0 0x40000000 = true ∧
    leaves (.lim 23 0 4 8 12) (task [7, 0x7FC00000, 0x3F800000, 0x40000000]) 0 7 = true ∧
    after (.lim 23 0 4 8 12) (task [7, 0x7FC00000, 0x3F800000, 0x40000000]) (fun t => (t.kiosk 23).run.any (fun r => r.numeric)) = true ∧
    reads (task []) 0x11 [0, 4, 8, 12] [(4, 1), (8, 1), (12, 1)] = true ∧
    leaves (.lpf1 23 0 4 8 12) (task [0, 0x40400000, 0x3F800000, 0x3F000000]) 2 0x40000000 = true ∧
    leaves (.lpf1 23 0 4 8 12) (task [0, 0x7FC00000, 0x3F800000, 0x3F000000]) 0 0x3F800000 = true ∧
    leaves (.rate 23 0 4 8 12) (task [0, 0x40400000, 0x3F800000, 0x3F800000]) 0 0x40000000 = true ∧
    leaves (.integ 23 0 4 8 12) (task [0, 0x3F800000, 0x3F800000, 0x3F800000, 0, 0x3F800000]) 0 0x3F800000 = true ∧
    reads (task []) 0x12 [0, 4, 8, 16] [(4, 1), (8, 2), (16, 5)] = true ∧
    leaves (.biquad 23 0 4 8 16) (task [0, 0x3F800000, 0, 0, 0x40000000]) 0 0x40000000 = true := by decide +kernel

/-- As `task`, with the bridge of axis A enabled. -/
def driven (sc : List Word) : State := (task sc).set (F.MC_STATE_STATE .a) 4

theorem witness_FiltersAndCompensatorsGiveTheirResults_loops :
    (task []).graphAxis 0 = some .a ∧ (task []).bridgeOn .a = false ∧ (driven []).bridgeOn .a = true ∧
    reads (driven []) 0x15 [0, 4, 0x10000000, 8, 36] [(4, 1), (0x10000000, 10), (8, 6), (36, 2)] = true ∧
    (compRun false (List.replicate 10 0) (List.replicate 6 0) 0 0 0).isSome = true ∧
    leaves (.c2p2z 23 0 4 0x10000000 8 36) (driven [5, 0x3F800000]) 0 0 = true ∧
    leaves (.c3p3z 23 0 4 0x10000000 8 36) (task [5, 0x3F800000]) 0 5 = true ∧
    reads (task []) 0x17 [0, 4, 0x10000020, 0x10000040, 40] [(4, 6), (0x10000020, 3)] = true ∧
    (minsel (List.replicate 6 0) 9 0 0x3F800000).isSome = true ∧
    after (.minsel 23 0 4 0x10000020 0x10000040 40) (task [0, 0x7FC00000]) (fun t => (t.kiosk 23).run.any (fun r => r.numeric)) = true := by
  decide +kernel

theorem witness_FiltersAndCompensatorsGiveTheirResults_out :
    (task []).compOut 0 0x10000000 = true ∧ (driven []).compOut 0 0x10000000 = false ∧
    after (.c2p2z 23 0 4 0x10000000 8 36) (task [5, 0x3F800000]) (fun t =>
      (t.kiosk 23).run.any (fun r => r.scratch == 5 :: 0x3F800000 :: List.replicate 14 0)) = true := by decide +kernel

theorem witness_FiltersAndCompensatorsGiveTheirResults_services :
    ((driven []).sv .a).frozen = false ∧ (driven []).ownFrame .a = false ∧ fIsZero ((driven []).folAt .a 0) = true ∧
    compOf .a 0x10000000 = none ∧
    leaves (.minsel 23 0 4 0x10000020 0x10000040 40) ((driven [0, 0x3F800000, 0, 0, 0x3F800000]).setWords 0x20 [9, 0, 0x3F800000]) 0 0x3F800000 = true := by
  decide +kernel

theorem witness_VectorAndEstimatorOperatorsGiveTheirResults :
    leaves (.clarke 23 0 8 12 16) (task [0, 0, 0x3F800000, 0x3F800000, 0x3F800000]) 0 0 = true ∧
    leaves (.park 23 0 8 16) (task [0, 0, 0x3F800000, 0x40000000, 0, 0x3F800000]) 1 0x40000000 = true ∧
    leaves (.ipark 23 0 8 16) (task [0, 0, 0x3F800000, 0x40000000, 0, 0x3F800000]) 0 0x3F800000 = true ∧
    reads (task []) 0x1B [0, 16, 24, 28] [(16, 2), (24, 1), (28, 1)] = true ∧ guardOk [0, 0, 0x3F800000] = true ∧
    after (.svm 23 0 16 24 28) (task [0, 0, 0, 0, 0x7FC00000]) (fun t => (t.kiosk 23).run.any (fun r => r.numeric)) = true ∧
    reads (task []) 0x1E [0, 8, 16] [(0, 2), (8, 1), (16, 2)] = true ∧
    leaves (.pll 23 0 8 16) (task [0x3F800000]) 0 0x3F800000 = true ∧
    reads (task []) 0x21 [0, 16, 40, 52] [(16, 6), (40, 3), (52, 1)] = true ∧
    reads (task []) 0x22 [0, 8, 16, 24] [(8, 2), (16, 2), (24, 1)] = true ∧
    reads (task []) 0x1C [0, 4, 8, 12] [(4, 1), (8, 1), (12, 1)] = true ∧
    reads (task []) 0x1D [0, 8, 16, 24] [(8, 2), (16, 2), (24, 1), (0, 1)] = true ∧
    reads (task []) 0x20 [0, 8, 16, 24] [(8, 2), (16, 2), (24, 1), (0, 1)] = true ∧
    reads (task []) 0x1F [0, 8, 16, 24] [(8, 2), (16, 1), (24, 1), (0, 1)] = true ∧ (task []).injSuspended 0 = false ∧
    ((task []).modSv .a (fun v => { v with susp := true })).injSuspended 0 = true := by decide +kernel

/-- `task` with a MAP record of the two points (1.0, 2.0) and (2.0, 3.0) in SHARED memory at 0. -/
def mapped (sc : List Word) : State := (task sc).setWords 0 [0x02000000, 0x3F800000, 0x40000000, 0x40000000, 0x40400000]

theorem witness_TaskOperatorsLookUpCopySignalAndLock :
    reads (mapped []) 0x23 [0, 8, 0x10000000] [(8, 1), (0x10000000, 20)] = true ∧
    rising (lutPts ((mapped []).words 0 20)) = true ∧
    leaves (.lut 23 0 8 0x10000000) (mapped [0, 0, 0x3FC00000]) 0 0x40200000 = true ∧
    leaves (.lut 23 0 8 0x10000000) (mapped [0, 0, 0x40400000]) 1 2 = true ∧
    reads (task []) 0x24 [0, 4, 8] [(0, 1), (4, 1), (8, 1)] = true ∧
    leaves (.smstep 23 0 4 8) (task [0x7F800001]) 0 0x7FC00000 = true ∧ leaves (.smstep 23 0 4 8) (task [0, 0, 0xFFFFFFFF]) 0 0x7FC00000 = true ∧
    leaves (.timer 23 0 4 8) (task [0, 0, 1]) 0 0x3F800000 = true ∧ leaves (.timer 23 0 4 8) (task [5, 0, 0]) 0 0 = true ∧
    reads (task [0, 0, 2]) 0x26 [16, 24, 8] [(8, 1)] = true ∧
    leaves (.blkcpy 23 [] 16 24 8) (task [0, 0, 2, 0, 0, 0, 6, 7]) 5 7 = true ∧ abandons (.blkcpy 23 [] 16 24 8) (task [0, 0, 65]) 6 = true ∧
    after (.event 23 0) (task [127]) (fun t => t.pend 127) = true ∧ abandons (.event 23 0) (task [111]) 6 = true ∧
    after (.pgltrig 23 0) (task [16]) (fun t => t.flag F.PGL_STAT_NOCH || t.fld F.PGL_STAT_NOCH == 1) = true ∧
    after (.acq 23 0) (task [7]) (fun t => nth none t.fab.locks 7 == some 23) = true ∧ abandons (.acq 23 0) (task [8]) 2 = true ∧
    abandons (.rel 23 0) (task [7]) 2 = true ∧
    leaves (.lut 23 0 8 0x10000000) (mapped [0, 0, 0x3F000000]) 0 0x40000000 = true ∧
    leaves (.lut 23 0 8 0x10000000) (mapped [0, 0, 0x40000000]) 0 0x40400000 = true ∧
    leaves (.lut 23 0 8 0x10000000) (mapped [0, 0, 0x7F800001]) 1 3 = true := by decide +kernel

/-! ### Sensing, comparators and position inputs -/

/-- Every AIN input, data input and comparator belongs to axis A, and each comparator is connected to AIN input 0. -/
def sensed : State :=
  (List.range 12).foldl (fun s n => s.set (F.HAH_CMP_SEL n) 0)
    { live with img := { Img.none with axisEn := 3, ainOwner := 0x55555555, sddOwner := 0x5555, hahOwner := 0x555555 } }

/-- Converter 0 runs a sequence whose one entry converts AIN input 2 once. -/
def converting (wait : List (Nat × Nat × Nat)) : State :=
  sensed.putSar 0 { run := some { axis := 0, slot := 0, seq := 0x1F1F1F02, w := 8, cal := 0, entry := 0, convs := 0, waited := false,
                                  at_ := 0, start := 0 },
                    wait := wait }

theorem witness_ConversionsDeliverTheirRecordsAndSequencesGoOn :
    seqRep 0x1F1F1F02 0 = 1 ∧ seqSel 0x1F1F1F02 1 = 31 ∧ seqSel 0x1F1F0302 1 = 3 ∧ sensed.ainOwner 2 = 1 ∧ (sensed.sar 0).run = none ∧
    (sensed.sar 0).wait = [] ∧ sensed.inSeq 0 2 = false ∧ sensed.dacs.contains 23 = true ∧ sensed.hahOwner 11 = 1 ∧ run.ainOwner 2 = 0 ∧
    ({ sensed with img := { sensed.img with ainOwner := 0x30 } } : State).ainOwner 2 = 3 ∧
    after (.sarConversionEnd 0 [3000000] 3000000) (converting []) (fun t => (t.sar 0).run.isNone && nth 0 (t.src 0 18) 2 == 16383 &&
      bit (nth 0 (t.src 0 18) 1).toNat 0) = true ∧
    after (.sarConversionEnd 0 [0] 3000000) (converting [(0, 1, 0)]) (fun t => (t.sar 0).run.any (fun r => r.slot == 1 && r.waited) &&
      t.fld F.SNS_STAT_WAIT_A == 1 && t.fld (F.SNS_CNT_WAIT .a) == 1) = true ∧
    after (.backgroundConversion 1 (.ain 2) 1282 3000000 200) (sensed.modSns (fun n => { n with bgLast := 1 })) (fun t => nth 0 (t.src 0 18) 2 == 7) = true ∧
    after (.backgroundConversion 1 (.dac 23) 3000000 3000000 200) ((sensed.set F.HAH_RB_CFG_EN 1).modSns (fun n => { n with
      rbRun := setNth n.rbRun 23 1 })) (fun t => t.getBit F.HAH_RB_STAT_ERR 23 && t.stat 1 21) = true ∧
    after (.edgesDelivery .a) sensed (fun t => (t.src 0 8).length == 16) = true ∧
    after (.sdclkWrite (putField (divFld .a) 0 80)) sensed (fun t => t.fld (divFld .a) == 80) = true ∧
    after (.sdclkWrite (putField (divFld .a) 0 81)) sensed (fun t => t.fld (divFld .a) == sensed.fld (divFld .a)) = true ∧
    after (.calWrite 9 (putField (F.SNS_CAL_GAIN 9) 0 0xA000)) sensed (fun t => t.fld (F.SNS_CAL_GAIN 9) == 0xA000) = true ∧
    seqSel ((sensed.wr (A.SNS_SEQ 2) 31).seqWord 0 1 0) 0 = 31 ∧
    after (.sarConversionEnd 0 [0] 3000000) { converting [(0, 1, 0)] with regs := ((converting []).wr (A.SNS_SEQ 2) 31).regs }
      (fun t => (t.sar 0).run.isNone && (t.sar 0).wait == [] && t.fld (F.SNS_CNT_WAIT .a) == 0) = true ∧
    still (.backgroundConversion 1 (.ain 2) 1282 3000000 199) (sensed.modSns (fun n => { n with bgLast := 1 })) = true ∧
    still (.backgroundConversion 1 (.ain 2) 1282 3000000 200) (sensed.modSns (fun n => { n with bgLast := 1, bgAt := setNth n.bgAt 2 (some 0) })) = true := by
  decide +kernel

/-- Input 0 is inside its window, the side HI of comparator 0 cleared; `on`: both tripped. -/
def windowed (on : Bool) : State :=
  (sensed.modSns (fun n => { n with fTrip := List.replicate 8 on, fRun := List.replicate 8 7 })).modHah
    (fun b => { b with sides := List.replicate 24 { trip := on, held := false, outs := List.replicate 31 on, sig := none } })

theorem witness_WindowsAndComparatorsTripAndClear :
    sensed.sddOwner 7 = 1 ∧ run.hahOwner 11 = 0 ∧ (windowed false).sns.fTrip[0]? = some false ∧ (windowed true).sns.fTrip[0]? = some true ∧
    (windowed false).fld (F.SNS_SDCH_FILT 0) ≤ 7 ∧ signed 16 ((windowed false).fld (F.SNS_FTHR_HI 0)) ≤ 32767 ∧
    ((windowed false).side (sideIx 0 true)).trip = false ∧ (windowed true).hah.sides[1]? = some { trip := true, held := false, outs := List.replicate 31 true, sig := none } ∧
    ((windowed false).set (F.HAH_CMP_ROUTE_HI 0) 1).sideSignal 0 true = some 0 ∧
    ((windowed false).set (F.HAH_CMP_ROUTE_HI 4) 1).sideSignal 4 true = some 1 ∧
    ((windowed false).set (F.HAH_CMP_ROUTE_HI 3) 1).sideSignal 3 true = some 2 ∧
    after (.sinc2Result 0 (List.replicate 15 true)) ((windowed false).set (F.SNS_FTHR_HI 0) 100) (fun t => nth false t.sns.fTrip 0 && t.stat 1 3 && t.cause 1 3 &&
      t.pend (evAx .a 22)) = true ∧
    after (.sinc2Result 0 (List.replicate 15 false)) (((windowed true).set (F.SNS_FTHR_HI 0) 100).set (F.SNS_FTHR_LO 0) 0x8000) (fun t => !nth true t.sns.fTrip 0) = true ∧
    after (.sinc3Settled 7 (3 * sensed.osr3 7 - 2)) sensed (fun t => !nth true t.sns.sdStale 7) = true ∧
    still (.sinc3Settled 7 (3 * sensed.osr3 7 - 3)) sensed = true ∧
    after (.sigmaDeltaInputStuck 0 1024) sensed (fun t => t.stat 1 20 && t.getBit F.SNS_STAT_STUCK 0) = true ∧
    after (.comparatorTrip 0 true [3000000, 3000000] 3000000) ((windowed false).set (F.HAH_CMP_ROUTE_HI 0) 1) (fun t => t.getBit F.HAH_STICKY_HI 0 && t.stat 1 3) = true ∧
    after (.comparatorClear 0 true [0, 0, 0] 3000000) (windowed true) (fun t => !(t.side 1).trip) = true ∧ still (.comparatorTrip 11 true [3000000] 3000000) run = true ∧
    (State.densityCode run [1, 2, 1] [true, true, false]).1 = 16384 ∧
    after (.comparatorTrip 0 true [3000000] 3000000) (windowed false) (fun t => !(t.side 1).trip) = true ∧
    after (.comparatorClear 0 true [0] 3000000) (windowed true) (fun t => (t.side 1).trip) = true ∧
    still (.comparatorClear 11 true [0] 3000000) run = true := by
  decide +kernel

theorem witness_WindowsAndComparatorsTripAndClear_limit :
    after (.comparatorTrip 0 true [3000000, 3000000] 3000000) (((windowed false).set (F.HAH_CMP_ROUTE_HI 0) 2).set (F.PW_SIX_SIXSTEP .a) 1 |>.modTr .a
      (fun r => { r with cmd := 1 })) (fun t => t.tbA.cbc && t.trA.cmd == 0 && t.fld (cbcFld .a) == 1) = true := by decide +kernel

/-- Axis A takes its position from Hall set A (1) or from encoder A (3). -/
def posFrom (n : Nat) : State := (inState 4).modImg (fun i => { i with axisEn := 3, posA := n })

theorem witness_HallSetsAndEncodersFollowTheirInputs :
    (posFrom 1).posAxes 1 = [.a] ∧ (posFrom 3).posAxes 3 = [.a] ∧ (posFrom 3).hah.encs[0]?.isSome = true ∧ (posFrom 3).encCpr .a = 1 ∧
    still (.hallCodeAccept .a 5 99) (posFrom 1) = true ∧
    after (.hallCodeAccept .a 7 10000000) (posFrom 1) (fun t => t.fld (F.HAH_HALL_ST_INVALID .a) == 1 &&
      t.fld (F.HAH_HALL_ST_INVALIDS .a) == 1) = true ∧
    after (.encoderStep .a true false 10000) (posFrom 3) (fun t => t.rd (A.HAH_ENC_CNT .a) == 1 || t.rd (A.HAH_ENC_CNT .a) == -1) = true ∧
    after (.encoderStep .a true true 10000) (posFrom 3) (fun t => t.fld (F.HAH_ENC_ST_ERR .a) == 1 && t.stat 1 25) = true ∧
    still (.encoderStep .a false false 10000) (posFrom 3) = true ∧
    after (.encoderZ .a true 10000) (posFrom 3) (fun t => t.fld (F.HAH_ENC_ST_TRUSTED .a) == 1 && t.fld (F.HAH_ENC_ST_ZSEEN .a) == 1) = true ∧
    after (.encoderZ .a false 10000) ((posFrom 3).modEnc .a (fun e => { e with qz := true })) (fun t => t == (posFrom 3).modEnc .a (fun e => { e with qz := false })) = true ∧
    still (.encoderZ .a true 0) (posFrom 3) = true := by
  decide +kernel

/-! ### The axis state machine -/

/-- A command waits at axis A. -/
def waitsCmd (s : State) (code : Nat) : State :=
  s.modAx .a (fun a => { a with cmd := some { code := code, tag := 9, src := 0, slot := none } })

theorem witness_AxisCommandsWaitForSlot0OrResolve :
    run.flag (F.PW_CTRL_EN .a) = false ∧ live.flag (F.PW_CTRL_EN .a) = true ∧ live.pendCmd .a = none ∧
    (waitsCmd live 4).pendCmd .a = some { code := 4, tag := 9, src := 0, slot := none } ∧
    after (.start .a 7) run (fun t => t.fld (F.MC_STATE_TAG .a) == 7 && t.fld (F.MC_STATE_RESULT .a) == 2 && t.pend (evAx .a 4)) = true ∧
    after (.stop .a 7) (waitsCmd live 4) (fun t => t.fld (F.MC_STATE_TAG .a) == 7 && t.fld (F.MC_STATE_RESULT .a) == 8 &&
      t.axA.cmd.any (fun c => c.code == 4)) = true ∧
    after (.coast .a 7) (waitsCmd live 3) (fun t => t.fld (F.MC_STATE_TAG .a) == 9 && t.axA.cmd.any (fun c => c.code == 4)) = true ∧
    after (.reversalRestart .a 500000) ((live.modSv .a (fun v => { v with rev := 2 })).modAx .a (fun a => { a with
      lastStart := some { code := 2, tag := 5, src := 0, slot := none } })) (fun t => t.axA.cmd.any (fun c => c.tag == 5 && c.src == 2)) = true := by
  decide +kernel

/-- Axis A of the image enabled, in a state, with a command that waits. -/
def slot0 (st code : Nat) : State := waitsCmd ((inState st).modImg (fun i => { i with axisEn := 3 })) code

theorem witness_AxisEvaluationTakesFaultsThenTheCommandThenTheState :
    run.counts .a = false ∧ (slot0 0 1).counts .a = true ∧ still (.axisEvaluate .a) run = true ∧
    after (.axisEvaluate .a) (slot0 3 4) (fun t => t.axState .a == 0 && t.fld (F.MC_STATE_RESULT .a) == 1 && t.pend (evAx .a 3)) = true ∧
    after (.axisEvaluate .a) (slot0 4 3) (fun t => t.axState .a == 5 && t.fld (F.MC_STATE_PREV .a) == 4) = true ∧
    after (.axisEvaluate .a) ((slot0 4 3).modAx .a (fun a => { a with fault := true })) (fun t => t.axState .a == 7 &&
      t.fld (F.MC_STATE_RESULT .a) == 6) = true ∧
    after (.axisEvaluate .a) (slot0 7 5) (fun t => t.fld (F.MC_STATE_TAG .a) == 9 && t.axA.cmd.isNone) = true ∧
    after (.axisEvaluate .a) (slot0 0 1) (fun t => t.axA.cmd.isNone && t.fld (F.MC_STATE_TAG .a) == 9) = true := by decide +kernel

/-- The bootstraps of axis A stand at 12.1 V. -/
def charged (s : State) : State := ((s.set (F.TR_VBS_U .a) 121).set (F.TR_VBS_V .a) 121).set (F.TR_VBS_W .a) 121

theorem witness_AxisTimesEndTheirStates :
    (inState 1).axState .a = 1 ∧ ((inState 1).set (F.TR_STAT_BS_UV .a) 1).bootReady .a = false ∧ (inState 1).reached .a 50000 0x0914 (1, 20) = true ∧
    ((charged (inState 1)).set (F.TR_STAT_BS_UV .a) 0).bootReady .a = true ∧ (inState 5).reached .a 50000 0x0913 (1, 20) = true ∧
    (posFrom 1).hallSet .a = some .a ∧ (posFrom 3).encSet .a = some .a ∧ (posFrom 1).reached .a 10000 0x0915 (1, 100) = true ∧
    qLt ((inState 5).paramQ .a 0x090E (600, 1)) (600000001, 1000000) = true ∧ ((inState 6).paramQ .a 0x0910 (1, 1)).1 ≠ 0 ∧
    (inState 2).switching .a = true ∧ run.axState .a = 0 ∧
    after (.armTimeout .a 50000) ((inState 1).set (F.TR_STAT_BS_UV .a) 1) (fun t => t.axState .a == 7 && t.stat 1 23) = true ∧
    after (.bootstrapsReady .a) (((charged (inState 1)).set (F.TR_STAT_BS_UV .a) 0).modAx .a (fun a => { a with
      startWait := some { code := 2, tag := 1, src := 0, slot := none } })) (fun t => t.axState .a == 2) = true ∧
    after (.limitTimeExpiry .a 5 50000) ((inState 5).modSv .a (fun v => { v with causes := 0x20 })) (fun t =>
      t.fld (F.MC_LIMIT_LIMITED .a) == 1 && t.pend (evAx .a 5)) = true ∧
    after (.stopComplete .a 10000) (inState 5) (fun t => t.axState .a == 0) = true ∧
    after (.stopTimeout .a 600000001) (inState 5) (fun t => t.axState .a == 7 && t.stat 1 24) = true ∧
    after (.holdTimeElapsed .a 1000000) (inState 6) (fun t => t.axState .a == 0) = true ∧
    after (.positionLossTimeout .a 10000) ((posFrom 1).set (F.HAH_HALL_ST_INVALID .a) 1) (fun t => t.stat 1 25) = true ∧
    after (.runtimeSecond .a 1000000000) (inState 2) (fun t => t.fld (F.MC_RUNTIME .a) == 1) = true ∧
    still (.stopComplete .a 10000) live = true ∧
    after (.stopComplete .a 10000) ((inState 5).modAx .a (fun a => { a with fault := true })) (fun t => t.axState .a == 7) = true ∧
    after (.bootstrapsReady .a) ((((charged (inState 1)).set (F.TR_STAT_BS_UV .a) 0).set (F.MC_ID_CTRL_ON_START .a) 1).modAx .a (fun a => { a with
      startWait := some { code := 2, tag := 1, src := 0, slot := none } })) (fun t => t.axState .a == 2 && t.fld (F.MC_ID_STAT_RESULT .a) == 1) = true ∧
    after (.bootstrapsReady .a) ((((charged (inState 1)).set (F.TR_STAT_BS_UV .a) 0).set (F.MC_OWN_FLY .a) 1).modAx .a (fun a => { a with
      startWait := some { code := 2, tag := 1, src := 0, slot := none } }) |>.modSv .a (fun v => { v with flyLoss := true })) (fun t => t.svA.fly == 1) = true ∧
    after (.runtimeSecond .a 999999999) ((inState 2).modAx .a (fun a => { a with secs := 1 })) (fun t => t.fld (F.MC_RUNTIME .a) == 1 && t.axA.secs == 0) = true := by decide +kernel

theorem witness_ModeAndSetPointsAreWrittenAsStated :
    run.bridgeOn .a = false ∧ (inState 4).bridgeOn .a = true ∧ run.hasParam .a 0x0C03 = false ∧ run.hasParam .a 0x0908 = false ∧
    fieldOf (F.MC_MODE_REF .a) (putField (F.MC_MODE_REF .a) 0 2) = 2 ∧ fieldOf (F.MC_MODE_FW_EN .a) (putField (F.MC_MODE_FW_EN .a) 0 1) = 1 ∧
    fFinite 0x7F7FFFFF = true ∧ fFinite 0x7F800000 = false ∧
    after (.modeWrite .a (putField (F.MC_MODE_REF .a) 0 2)) run (fun t => bit t.reply rfVoid && t.want (F.MC_MODE_REF .a) == 0) = true ∧
    after (.modeWrite .a (putField (F.MC_MODE_REF .a) 0 1)) (inState 4) (fun t => t.want (F.MC_MODE_REF .a) == 0) = true ∧
    after (.setPointWrite .a false 0x7F7FFFFF) run (fun t => t.rd (A.MC_SPD_SET .a) == 0x7F7FFFFF) = true ∧
    after (.setPointWrite .a true 0x7F800000) run (fun t => t.rd (A.MC_TRQ_SET .a) == 0 && bit t.reply rfVoid) = true := by decide +kernel

/-! ### Belvedere, Folly and Promenade -/

/-- ALIGN of a sensorless axis in a phase of `Svc.align`. -/
def aligning (n : Nat) : State :=
  ((inState 2).modImg (fun i => { i with axisEn := 3 })).modSv .a (fun v => { v with align := n, tP := 0x3A83126F })

theorem witness_StartsAlignHandOverOrFail :
    (aligning 1).axState .a = 2 ∧ ((aligning 1).sv .a).idCmd = none ∧ (aligning 1).reached .a 500000 0x0A12 (1, 2) = true ∧
    qLe ((aligning 3).paramQ .a 0x0A13 (0, 1)) (qAbs (fVal 0x3F800000)) = true ∧
    qLe ((withRecord (aligning 3) 0x0A13 0x40000000).paramQ .a 0x0A13 (0, 1)) (qAbs (fVal 0x3F800000)) = false ∧
    qLe ((aligning 2).paramQ .a 0x0A16 (1, 20)) (fVal 0) = false ∧ ((aligning 2).set (F.MC_BLV_CTRL_START_METHOD .a) 2).startMethod .a = 2 ∧
    qLt ((inState 3).paramQ .a 0x0A1D (10, 1)) (10000001, 1000000) = true ∧ (inState 3).reached .a 50000 0x0A1B (1, 20) = true ∧
    after (.alignComplete .a 500000) (aligning 1) (fun t => t.axState .a == 3 && t.word (F.MC_X_THETA .a) == 0) = true ∧
    after (.injectionAlignComplete .a 64 0 0) ((aligning 2).set (F.MC_BLV_CTRL_START_METHOD .a) 2) (fun t => t.svA.align == 1) = true ∧
    after (.injectionAlignComplete .a 64 0 0) ((aligning 2).set (F.MC_BLV_CTRL_START_METHOD .a) 1) (fun t => t.axState .a == 7 &&
      t.stat 1 28 && t.fld (F.MC_START_DIAG_DETAIL .a) == 1) = true ∧
    after (.polarityPulseEnd .a 0x3F800000 0x3A83126F 100) (aligning 3) (fun t => t.svA.align == 5) = true ∧
    after (.polarityPulseEnd .a 0x3F800000 0x3A83126F 100) (aligning 4) (fun t => t.fld (F.MC_START_DIAG_DETAIL .a) == 2) = true ∧
    after (.polarityPulseEnd .a 0x3F800000 0x3F800000 2000) (withRecord (aligning 3) 0x0A13 0x40000000)
      (fun t => t.fld (F.MC_START_DIAG_DETAIL .a) == 3) = true ∧
    after (.startTimeout .a 10000001) (inState 3) (fun t => t.fld (F.MC_START_DIAG_DETAIL .a) == 4 && t.stat 1 28) = true ∧
    after (.handover .a 50000) ((inState 3).modSv .a (fun v => { v with align := 2 })) (fun t => t.axState .a == 4) = true ∧
    after (.handover .a 50000) ((inState 3).modSv .a (fun v => { v with align := 1 })) (fun t => t.axState .a == 4) = true ∧
    still (.handover .a 50000) (withRecord ((inState 3).modSv .a (fun v => { v with align := 1 })) 0x0A19 0x40000000) = true ∧
    still (.polarityPulseEnd .a 0x3F800000 0x3F800000 1999) (aligning 3) = true := by decide +kernel

/-- An identification runs its test k. -/
def identifying (k : Nat) : State :=
  (((inState 2).set (F.MC_ID_STAT_RESULT .a) 1).set (F.MC_ID_STAT_TEST .a) k).modSv .a (fun v => { v with
    idCmd := some { code := 2, tag := 6, src := 0, slot := none } })

theorem witness_StartsAlignHandOverOrFail_identification :
    (identifying 4).fld (F.MC_ID_STAT_RESULT .a) = 1 ∧ (identifying 4).axState .a = 2 ∧ (identifying 4).fld (F.MC_ID_STAT_TEST .a) = 4 ∧
    (identifying 4).pendCmd .a = none ∧ (identifying 1).idNext .a 2 = 0 ∧ ((identifying 1).set (F.MC_ID_CTRL_TESTS .a) 8).idNext .a 2 = 4 ∧
    after (.identificationTestEnd .a 4 [] [] 0) (identifying 1) (fun t => t.fld (F.MC_ID_STAT_RESULT .a) == 4 && t.svA.idCmd.isNone &&
      t.axA.cmd.any (fun c => c.code == 3 && c.tag == 6)) = true ∧
    after (.identificationTestEnd .a 2 [0x40000000] [] 0) (identifying 3) (fun t => t.word (F.MC_ID_PSI .a) == 0x40000000 &&
      t.fld (F.MC_ID_STAT_RESULT .a) == 2) = true ∧
    (identifying 2).idBeyond .a 2 [(0x3F800000, 0, 0, 0)] = true ∧
    (withRecord (identifying 2) 0x0A28 0x3F800000).idBeyond .a 2 [(0x3F800000, 0, 0, 0)] = false ∧
    after (.identificationTestEnd .a 2 [] [(0x3F800000, 0, 0, 0)] 0) (identifying 2) (fun t => t.fld (F.MC_ID_STAT_RESULT .a) == 4) = true := by decide +kernel

/-- Belvedere runs in RUN, the supervisor in a state of table 10.4. -/
def superIn (n : Nat) : State := ((inState 4).modImg (fun i => { i with axisEn := 3 })).set (F.MC_BLV_STAT_SUP .a) n

/-- A flying restart probes. -/
def flying (probes : List (Word × Word)) : State :=
  ((inState 1).modImg (fun i => { i with axisEn := 3 })).modSv .a (fun v => { v with fly := 1, probes := probes }) |>.modAx .a
    (fun a => { a with startWait := some { code := 2, tag := 1, src := 0, slot := none } })

theorem witness_SupervisorHoldsReacquiresOrLosesTheRotor :
    (superIn 1).supervised .a = true ∧ (superIn 2).fld (F.MC_BLV_STAT_SUP .a) = 2 ∧ (superIn 2).onBelvedere .a = true ∧
    qLt ((superIn 1).paramQ .a 0x0A0B (1, 5)) (200001, 1000000) = true ∧ (superIn 2).reached .a 100000 0x0A0C (1, 10) = true ∧
    qLe ((superIn 2).paramQ .a 0x0A0D (8, 1)) (8, 1) = true ∧ (superIn 2).safe .a = 0 ∧
    ((withRecord (superIn 0) 0x0A1E 0x3F800000).xTop .a).2 ≠ 0 ∧ ((withRecord (superIn 0) 0x0A1E 0x3F800000).paramQ .a 0x0A1E (0, 1)).1 ≠ 0 ∧
    (superIn 0).reached .a 2000000 0x0A20 (2, 1) = true ∧ live.reached .a 1000000 0x0A25 (1, 1) = true ∧
    after (.suspectTimeout .a 200001) (superIn 1) (fun t => t.fld (F.MC_BLV_STAT_SUP .a) == 2) = true ∧
    after (.rotorReacquired .a) ((superIn 2).modSv .a (fun v => { v with cyc := (8, 1) })) (fun t => t.fld (F.MC_BLV_STAT_SUP .a) == 0 &&
      t.pend (evAx .a 9)) = true ∧
    after (.rotorLost .a 100000) (superIn 2) (fun t => t.fld (F.MC_BLV_STAT_SUP .a) == 3 && t.stat 1 27 && t.safe .a == 3) = true ∧
    after (.extrapClearTimeout .a 100000) ((withRecord (superIn 0) 0x0A1E 0x3F800000).set (F.MC_BLV_STAT_EXTRAP .a) 1)
      (fun t => t.fld (F.MC_BLV_STAT_EXTRAP .a) == 0) = true ∧
    after (.stall .a 2000000) ((withRecord (superIn 0) 0x0A1E 0x3F800000).modSv .a (fun v => { v with iqRef := 0x3F800000 }))
      (fun t => t.stat 1 29 && t.fld (F.MC_BLV_EVT_STALL .a) == 1) = true ∧
    after (.flyingRestartProbe .a 1 2) (flying []) (fun t => t.svA.probes == [(1, 2)]) = true ∧
    after (.flyingRestartProbe .a 0 0) (flying [(0, 0), (0, 0)]) (fun t => t.fld (F.MC_START_DIAG_FLY .a) == 1 && t.axState .a == 2) = true ∧
    after (.flyRetry .a 1000000) (live.modSv .a (fun v => { v with fly := 2 })) (fun t => t.svA.fly == 1) = true ∧
    after (.blvCtrlWrite .a (putField (F.MC_BLV_CTRL_START_METHOD .a) 0 1)) live (fun t => bit t.reply rfVoid &&
      t.want (F.MC_BLV_CTRL_START_METHOD .a) == 0) = true ∧
    ((inState 3).modImg (fun i => { i with axisEn := 3 })).axState .a = 3 ∧
    after (.suspectTimeout .a 200001) (((superIn 1).set (F.MC_STATE_STATE .a) 3).modSv .a (fun v => { v with align := 2 })) (fun t =>
      t.axState .a == 3 && t.axA.fault && t.fld (F.MC_START_DIAG_DETAIL .a) == 5) = true ∧
    after (.flyingRestartProbe .a 1 2) ((flying []).set (F.MC_STATE_STATE .a) 6) (fun t => t.svA.probes == [(1, 2)]) = true := by decide +kernel

theorem witness_BanksSwapTogetherAndLoopsHomeAndReferencesAct :
    run.isRunning = true ∧ live.counts .a = true ∧ (live.set (F.MC_SWAP_REQ .a) 15).fld (F.MC_SWAP_REQ .a) ≠ 0 ∧
    live.groupCheck .a (live.swapMembers .a 0) = none ∧
    ((live.wrSh (A.MC_BANK .a 8 0) 0x7F800000).groupCheck .a (live.swapMembers .a 0)) = some (8, 2) ∧
    fieldOf (F.MC_SWAP_REQ .a) (putField (F.MC_SWAP_REQ .a) 0 15) = 15 ∧ (inState 4).bridgeOn .a = true ∧
    (inState 4).fld (F.MC_MODE_REF .a) = 0 ∧ (inState 4).folPoint .a ≠ 2 ∧
    after (.swapRequest .a (putField (F.MC_SWAP_REQ .a) 0 1)) live (fun t => t.getBit (F.MC_SWAP_REQ .a) 0) = true ∧
    after (.compensatorSwap .a) ((live.set (F.MC_SWAP_REQ .a) 1).wrSh (A.MC_BANK .a 0 0) 0x3F800000) (fun t =>
      t.rd (A.MC_BANK .a 0 0) == 0x3F800000 && t.fld (F.MC_SWAP_STAT_RESULT .a) == 1 && t.pend (evAx .a 16)) = true ∧
    after (.loopEnableWrite .a false 0xFFFFFFFF) live (fun t => t.want (F.MC_LOOP_EN_TT .a) == 1 && t.fld (F.MC_LOOP_EN_TT .a) == 0) = true ∧
    after (.home .a) live (fun t => t.svA.home) = true ∧ still (.home .a) (inState 4) = true ∧
    after (.posSetWrite .a true 0x7F800000) live (fun t => bit t.reply rfVoid) = true ∧ still (.spLoopRelease .a) live = true ∧
    still (.spLoopRelease .a) ((inState 4).modSv .a (fun v => { v with frozen := true })) = true ∧
    ((inState 4).sv .a).frozen = false ∧
    (inState 4).idTest .a ≠ 3 ∧
    after (.spLoopRelease .a) (inState 4) (fun t => t.flag (F.MC_PRM_STAT_DONE .a) && t.word (F.MC_X_OMEGA_REF .a) == 0) = true := by
  decide +kernel

/-- An injection that was told to stop ends as the next period begins. -/
theorem witness_InjectionsAndCapturesBeginAndEndAsStated_ends :
    (timed.set (F.PW_SAMP_EN .a 0) 1).slotFalls .a 0 0 = true ∧ (timed.set (F.PW_SAMP_EN .a 0) 1).flag (F.PW_SAMP_EN .a 0) = true ∧
    (timed.tb .a).begun = false ∧
    after (.folStart .a) ((((((((inState 4).set (F.MC_FOL_CFG_SIG .a) 3).set (F.MC_FOL_CFG_HOLD .a) 1).set (F.MC_FOL_CFG_PRBS_N .a) 9).set
      (F.MC_FOL_CNT_NSTEP .a) 2).set (F.MC_FOL_CNT_NREP .a) 1).set (F.MC_FOL_CNT_DWELL .a) 1).setW (F.MC_FOL_DUR .a) 0x3F800000 |>.set
      (F.MC_FOL_STAT_CLIPS .a) 9) (fun t => t.fld (F.MC_FOL_STAT_RESULT .a) == 1 && t.svA.fol.pend && t.fld (F.MC_FOL_STAT_CLIPS .a) == 0) = true ∧
    after (.sampleInstant .a 0 0 []) ((((timed.set (F.PW_SAMP_EN .a 0) 1).set (F.MC_FOL_STAT_RUNNING .a) 1).setW (F.MC_X_FOL_VAL .a) 0x3F800000).modFol .a
      (fun f => { f with stop := true })) (fun t => !t.flag (F.MC_FOL_STAT_RUNNING .a) && t.word (F.MC_X_FOL_VAL .a) == 0) = true ∧
    after (.folCancel .a) ((live.set (F.PW_CTRL_EN .a) 0).set (F.MC_FOL_STAT_RUNNING .a) 1) (fun t =>
      !t.flag (F.MC_FOL_STAT_RUNNING .a) && t.fld (F.MC_FOL_STAT_END .a) == 2) = true ∧
    after (.folCancel .a) ((live.set (F.MC_FOL_STAT_RUNNING .a) 1).setW (F.MC_X_FOL_VAL .a) 0x3F800000) (fun t =>
      t.flag (F.MC_FOL_STAT_RUNNING .a) && t.word (F.MC_X_FOL_VAL .a) == 0x3F800000 && (t.sv .a).fol.stop) = true := by decide +kernel

/-- A capture of axis A: one signal, 64 samples at 0x3000 through Pergola channel 3. -/
def capSet : State :=
  ((((live.modImg (fun i => { i with axisEn := 3, regions := [{ base := 0x2000, size := 0x8000, kind := 4 }] })).set (F.MC_CAP_BASE .a) 0x3000).set
    (F.MC_CAP_NSAMP_NSAMP .a) 63).set (F.MC_CAP_CFG_CH .a) 3).set (F.PGL_CH_CFG_EXISTS 3) 1 |>.set (F.MC_CAP_SEL_LO .a) 1

/-- It runs, with bytes in its FIFO. -/
def capRuns (n : Nat) : State :=
  (capSet.set (F.MC_CAP_STAT_RUNNING .a) 1).modSv .a (fun v =>
    { v with cap := { v.cap with fifo := List.replicate n 0, trigAt := some 0, dec := 1 } })

theorem witness_InjectionsAndCapturesBeginAndEndAsStated :
    (inState 4).folCheck .a ≠ 2 ∧ ((live.modSv .a (fun v => { v with fol := { v.fol with pend := true } })).sv .a).fol.pend = true ∧
    live.folWhy .a 3 = true ∧ capSet.capConfig .a = true ∧ run.capConfig .a = false ∧ (capRuns 512).capReady .a = 512 ∧
    (capRuns 512).pglQueue 3 = [] ∧ (capRuns 512).capSamples .a * (capRuns 512).capFrame .a = 1024 ∧
    ((capRuns 512).set (F.PGL_CH_STAT_STATE 3) 1).fld (F.PGL_CH_STAT_STATE 3) = 1 ∧ (capRuns 512).pgl.chans.length = 16 ∧
    after (.folStart .a) live (fun t => t.fld (F.MC_FOL_STAT_RESULT .a) == 3) = true ∧
    after (.injectionBegin .a) (live.modSv .a (fun v => { v with fol := { v.fol with pend := true } })) (fun t =>
      t.flag (F.MC_FOL_STAT_RUNNING .a) && !t.svA.fol.pend) = true ∧
    after (.injectionEnded .a 3) (live.set (F.MC_FOL_STAT_RUNNING .a) 1) (fun t => t.fld (F.MC_FOL_STAT_END .a) == 3 && t.pend (evAx .a 13)) = true ∧
    after (.folCancel .a) (live.set (F.MC_FOL_STAT_RUNNING .a) 1) (fun t => t.fld (F.MC_FOL_STAT_END .a) == 2) = true ∧
    after (.captureArm .a) capSet (fun t => t.flag (F.MC_CAP_STAT_RUNNING .a) && t.fld (F.MC_CAP_STAT_RESULT .a) == 1) = true ∧
    after (.captureArm .a) run (fun t => t.fld (F.MC_CAP_STAT_RESULT .a) == 6) = true ∧
    after (.captureTrigger .a) ((capRuns 0).set (F.MC_CAP_CFG_TRIG .a) 3) (fun t => t.flag (F.MC_CAP_STAT_TRIGGERED .a) && t.pend (evAx .a 14)) = true ∧
    after (.captureFrame .a) (capRuns 4080) (fun t => t.svA.cap.fifo.length == 4096 && t.svA.cap.frames == 1) = true ∧
    after (.captureFrame .a) (capRuns 4081) (fun t => t.svA.cap.gap && t.fld (F.MC_CAP_STAT_DROPS .a) == 1) = true ∧
    after (.captureCancel .a) (capRuns 0) (fun t => t.svA.cap.ending == 2) = true ∧
    after (.captureComplete .a) ((capRuns 0).set (F.PGL_CH_STAT_STATE 3) 4) (fun t => t.fld (F.MC_CAP_STAT_END .a) == 3 &&
      t.pend (evAx .a 15)) = true := by decide +kernel

/-! ### Gate drive, protection and temperature -/

/-- `inState n` with a change of the Trellis die of axis A. -/
def withTr (n : Nat) (f : Tr → Tr) : State := (inState n).modTr .a f

theorem witness_FramesSetCommandsAndTransitionsAdaptStrengths :
    run.sun.pll = false ∧ live.sun.pll = true ∧ live.inAsc .a = false ∧ (live.set (F.TR_SAFE_STAT_STATE .a) 1).inAsc .a = true ∧
    (live.set (F.TR_STAT_LINK_OK .a) 1).flag (F.TR_STAT_LINK_OK .a) = true ∧ live.owns .a gGATE = false ∧
    (live.set (F.MC_OWN_GATE .a) 1).owns .a gGATE = true ∧ still (.linkFrame .a true) run = true ∧ still (.idleFrame .a 999) live = true ∧
    after (.idleFrame .a 1000) live (fun t => t.flag (F.TR_STAT_LINK_OK .a)) = true ∧
    after (.linkFrame .a true) (((inState 4).set (F.PW_DEAD_DT_LH .a) 320).modTb .a (fun b => { b with out := 0b000010 }))
      (fun t => t.trA.cmd == 2 && t.trA.gates == 2 && t.trA.dtLH == 320) = true ∧
    after (.linkFrame .a false) (withTr 4 (fun r => { r with cmd := 1, gates := 1 })) (fun t => t.trA.gates == 0 && t.stat 1 10 &&
      t.fld (F.TR_LINK_CNT_DISCARDED .a) == 1) = true ∧
    after (.linkFrame .a false) ((withTr 4 (fun r => { r with cmd := 42, gates := 42 })).set (F.TR_SAFE_STAT_STATE .a) 1) (fun t =>
      t.trA.lost && t.trA.cmd == 42) = true ∧
    after (.dieLinkLost .a 2000) ((inState 4).set (F.TR_STAT_LINK_OK .a) 1) (fun t => t.safe .a == 3 && t.cause 1 7) = true ∧
    after (.dieLinkLost .a 2000) (((inState 4).set (F.TR_STAT_LINK_OK .a) 1).set (F.TR_SAFE_STAT_ABOVE_ASC .a) 1)
      (fun t => t.safe .a == 1) = true ∧
    after (.strengthWrite .a 2 (putField (F.TR_STR_L_SNK .a 2) 0 9)) ((live.set (F.TR_STR_LIM_SNK_LO .a) 9).set (F.TR_STR_LIM_SNK_HI .a) 9)
      (fun t => t.fld (F.TR_STR_L_SNK .a 2) == 9) = true ∧
    after (.strengthWrite .a 0 0) (live.set (F.MC_OWN_GATE .a) 1) (fun t => bit t.reply rfOwned) = true ∧
    after (.strLimWrite .a (putField (F.TR_STR_LIM_SRC_HI .a) 0 7)) (live.set (F.TR_STR_H_SRC .a 1) 40) (fun t =>
      t.fld (F.TR_STR_H_SRC .a 1) == 7) = true ∧
    still (.strLimWrite .a (putField (F.TR_STR_LIM_SRC_LO .a) 0 7)) live = true := by decide +kernel

/-- Trellis A adapts with step size 4 on 3 % of a target of 100 sub-ticks, its limits 0 to 63. -/
def adapting (step : Nat) : State :=
  (((((((withTr 4 (fun r => { r with vbus := 500, edge := List.replicate 12 { step := step, flag := true, why := 0, trim := 0 } })).set (F.TR_CFG_ADAPT .a) 2).set (F.TR_CFG_DB .a) 3).set
    (F.TR_EDGE_TGT_ON .a 0) 100).set (F.TR_STR_LIM_SRC_LO .a) 0).set (F.TR_STR_LIM_SRC_HI .a) 63).set (F.TR_STR_H_SRC .a 0) step)

theorem witness_FramesSetCommandsAndTransitionsAdaptStrengths_adapts :
    (live.tr .a).vbus < 500 ∧ ((adapting 8).tr .a).vbus = 500 ∧ ((adapting 8).tr .a).edges.length = 12 ∧
    transCause 110 214 none (some 100) = 2 ∧ transSwitch 0 true 2 = (0, true) ∧ transCause 110 214 (some 100) none = 1 ∧
    still (.transitionMeasured .a 0 true 110 214 none (some 100)) live = true ∧
    after (.transitionMeasured .a 0 true 110 214 none (some 100)) (adapting 8) (fun t =>
      t.fld (F.TR_STR_H_SRC .a 0) == 12 && t.fld (F.TR_LAST_ON .a 0) == 104) = true ∧
    after (.transitionMeasured .a 0 true 110 213 none (some 100)) (adapting 8) (fun t =>
      t.fld (F.TR_STR_H_SRC .a 0) == 8) = true ∧
    after (.transitionMeasured .a 0 true 110 204 none (some 100)) (adapting 2) (fun t =>
      t.fld (F.TR_STR_H_SRC .a 0) == 0) = true ∧
    after (.transitionMeasured .a 0 true 110 214 none (some 100)) ((adapting 8).modTr .a (fun r => { r with edge := setNth r.edge 0 { step := 8, flag := true, why := 1, trim := 0 } })) (fun t =>
      bit (nth 0 t.trA.edges 0).toNat 27 &&
      t.fld (F.TR_STR_H_SRC .a 0) == 8) = true := by decide +kernel

theorem witness_InterlocksSuppliesAndTorqueOffHoldGatesOff :
    (withTr 4 (fun r => { r with cmd := 0b110000 })).overlaps .a 2 = true ∧ bit ((withTr 4 (fun r => { r with ilk := 0 })).tr .a).ilk 2 = false ∧
    (withTr 1 (fun r => { r with pre := true })).precharging .a = true ∧ live.precharging .a = false ∧
    (live.set (F.TR_STAT_BS_UV .a) 4).fld (F.TR_STAT_BS_UV .a) ≠ 0 ∧ (live.set (F.TR_STAT_EXT_ACTIVE .a) 1).flag (F.TR_STAT_EXT_ACTIVE .a) = true ∧
    (live.tr .a).drvLow = false ∧ ((withTr 4 (fun r => { r with drvLow := true })).tr .a).drvLow = true ∧ (inState 4).canSafe .a = true ∧
    after (.interlock .a 2) (withTr 4 (fun r => { r with cmd := 0b110000, gates := 0b100000 })) (fun t => t.trA.gates == 0 &&
      t.fld (F.TR_ILK_CNT_W .a) == 1 && t.pend (evAx .a 17)) = true ∧
    after (.gateOffNotSensed .a 5 2000) ((withTr 4 (fun r => { r with sense := 0b100000 })).set (F.TR_SAFE_STAT_ABOVE_ASC .a) 1) (fun t =>
      t.stat 1 6 && t.safe .a == 1) = true ∧
    after (.gateOffNotSensed .a 4 2000) ((withTr 4 (fun r => { r with sense := 0b010000 })).set (F.TR_SAFE_STAT_ABOVE_ASC .a) 1) (fun t =>
      t.safe .a == 2) = true ∧
    after (.gateSensedOff .a 0) (withTr 4 (fun r => { r with cmd := 2, sense := 1 })) (fun t => t.trA.gates == 0 && nth 0 t.trA.gap 1 == 160) = true ∧
    after (.gateSensedOff .a 0) (withTr 4 (fun r => { r with cmd := 2, sense := 0 })) (fun t => t.trA.gates == 2) = true ∧
    ((inState 4).set (F.TR_STAT_BS_UV .a) 0).getBit (F.TR_STAT_BS_UV .a) 2 = false ∧ (inState 4).precharging .a = false ∧
    (charged (withTr 1 (fun r => { r with pre := true }))).precharging .a = true ∧
    ((charged (inState 1)).set (F.TR_STAT_BS_UV .a) 0).bootCharged .a = true ∧
    after (.prechargePulse .a 200) ((withTr 1 (fun r => { r with pre := true })).set (F.TR_STAT_BS_UV .a) 1) (fun t =>
      t.trA.cmd == 0b101010 && t.trA.gates == 0b101010) = true := by decide +kernel

theorem witness_InterlocksSuppliesAndTorqueOffHoldGatesOff_pins :
    after (.extWrite .a (putField (F.TR_CFG_EXT .a) 0 1)) live (fun t => t.fld (F.TR_CFG_EXT .a) == 1) = true ∧
    after (.extWrite .a (putField (F.TR_CFG_EXT .a) 0 1)) (inState 4) (fun t => t.fld (F.TR_CFG_EXT .a) == 0) = true ∧
    after (.cmdPinAccept .a 6 true 20) ((inState 4).set (F.TR_STAT_EXT_ACTIVE .a) 1) (fun t => t.trA.cmd == 64) = true ∧
    still (.cmdPinAccept .a 6 true 19) ((inState 4).set (F.TR_STAT_EXT_ACTIVE .a) 1) = true ∧ after (.cmdPinAccept .a 6 true 20) live (fun t => t.trA.cmdPins == 64 && t.trA.cmd == 0) = true ∧
    after (.driverSupplyRelease .a 132) (withTr 4 (fun r => { r with drvLow := true })) (fun t => t.trA.drvLow) = true ∧
    after (.torqueOff .a 200) (withTr 4 (fun r => { r with cmd := 64, gates := 64 })) (fun t => t.trA.gates == 0 && t.safe .a == 4 &&
      t.stat 1 9 && t.pins.toffA) = true ∧
    still (.torqueOff .a 49) live = true ∧
    after (.torqueOffRelease .a) ({ inState 4 with pins := { live.pins with toffA := true } }.setCause 1 9 true) (fun t =>
      !t.pins.toffA && !t.cause 1 9) = true := by decide +kernel

/-- ALIGN to BRAKE, a gate of axis A on. -/
def gateOn (c : Nat) : State := withTr 4 (fun r => { r with gates := 2 ^ c, cmd := 2 ^ c, sense := 2 ^ c, vbus := 500 })

/-- Low ASC after desaturation. -/
def lowAsc : Due := { st := 1, rank := 4, origin := 1, retry := true }

theorem witness_ShortsTurnOffSoftlyAndSafeStatesEndOrRetry :
    (gateOn 0).onChans .a 1 = [0] ∧ (gateOn 0).onChans .a 2 = [] ∧ bit ((gateOn 5).tr .a).gates 5 = true ∧
    after (.desaturation .a 1 20000 10000 10000) (gateOn 0) (fun t => t.trA.gates == 0 && t.trA.soft == 1 && t.stat 1 1 &&
      t.fld (F.TR_DS_CNT_DS .a) == 1 && t.trA.due == some { st := 3, rank := 4, origin := 1, retry := true }) = true ∧
    still (.desaturation .a 2 20000 10000 10000) (gateOn 0) = true ∧ still (.desaturation .a 1 2859 10000 10000) (gateOn 0) = true ∧
    still (.desaturation .a 1 20000 10000 80) (gateOn 0) = true ∧
    after (.turnOnShort .a 5 266 0) (gateOn 5) (fun t => t.trA.soft == 32 && t.stat 1 2) = true ∧
    still (.turnOnShort .a 5 235 0) (gateOn 5) = true ∧
    after (.safeStateApply .a) (withTr 4 (fun r => { r with due := some lowAsc })) (fun t => t.safe .a == 1 && t.axA.retryOk &&
      t.trA.gates == 0b101010) = true ∧
    after (.safeStateApply .a) ((withTr 4 (fun r => { r with due := some lowAsc, rank := 1 })).set (F.TR_SAFE_STAT_STATE .a) 4)
      (fun t => t.safe .a == 4) = true ∧
    still (.safeStateApply .a) (withTr 4 (fun r => { r with soft := 1, due := some lowAsc })) = true ∧
    after (.softOffTimeout .a 20001) (withTr 4 (fun r => { r with soft := 64 })) (fun t => t.stat 1 6 && t.safe .a == 3) = true ∧
    still (.softOffTimeout .a 20000) (withTr 4 (fun r => { r with soft := 64 })) = true ∧
    after (.ascExit .a 499 65535) (((withTr 7 (fun r => { r with rank := 4 })).set (F.TR_SAFE_STAT_STATE .a) 1).set (F.TR_SAFE_CFG_EXIT_V .a) 5)
      (fun t => t.safe .a == 3) = true ∧
    after (.ascExit .a 499 65535) (((withTr 7 (fun r => { r with thermal := true, again := true, exitV := 5, quiet := 9 })).set (F.TR_SAFE_STAT_STATE .a) 1).set
      (F.PW_CTRL_EN .a) 0) (fun t => t.axState .a == 0 && !t.trA.thermal) = true := by decide +kernel

theorem witness_ShortsTurnOffSoftlyAndSafeStatesEndOrRetry_held :
    after (.brakeOvercurrent .a true) (withTr 4 (fun r => { r with ovSig := true, gates := 64 })) (fun t =>
      t.fld (F.TR_CSC_STAT_HW_ON .a) == 0 && t.trA.gates == 0) = true ∧
    after (.brakeOvercurrent .a false) (withTr 4 (fun r => { r with ovSig := true, brkOc := true })) (fun t =>
      t.fld (F.TR_CSC_STAT_HW_ON .a) == 1 && t.trA.gates == 64) = true ∧
    after (.desaturation .a 1 20000 79 10000) ((gateOn 0).set (F.TR_DS_CFG_FILT .a) 4) (fun t => t.trA.gates == 1 && t.getBit (F.TR_DS_STAT_DS_NOW .a) 0) = true ∧
    after (.softOffTimeout .a 20001) (withTr 4 (fun r => { r with soft := 0b101 })) (fun t => t.trA.goff == 0b101) = true := by
  decide +kernel

/-- SAFE with `used` of `tries` retries used. -/
def retrying (used tries : Nat) : State :=
  ((((inState 7).set (F.MC_OWN_RETRY .a) 1).set (F.TR_RETRY_TRIES .a) tries).set (F.TR_SAFE_STAT_USED .a) used).modAx .a
    (fun a => { a with retryOk := true })

theorem witness_ShortsTurnOffSoftlyAndSafeStatesEndOrRetry_retries :
    (retrying 0 2).axState .a = 7 ∧ ((retrying 0 2).ax .a).retryOk = true ∧ (retrying 0 2).owns .a gRETRY = true ∧
    (retrying 0 2).flag (F.PW_CTRL_EN .a) = true ∧ (retrying 0 2).inAsc .a = false ∧ (retrying 0 2).axisCause .a = false ∧
    (retrying 0 2).fatalCause = false ∧
    after (.retryDecision .a 65535 0) ((retrying 0 2).set (F.TR_RETRY_WINDOW .a) 1) (fun t => t.axState .a == 1 &&
      t.fld (F.TR_SAFE_STAT_USED .a) == 1 && t.fld (F.TR_SAFE_STAT_RETRIES .a) == 1) = true ∧
    after (.retryDecision .a 65535 0) ((retrying 2 2).set (F.TR_RETRY_WINDOW .a) 1) (fun t => t.axState .a == 8) = true ∧
    after (.retryDecision .a 65535 1) ((retrying 2 2).set (F.TR_RETRY_WINDOW .a) 1) (fun t => t.axState .a == 1) = true ∧
    after (.retryDecision .a 65535 0) (retrying 0 0) (fun t => t.axState .a == 7) = true ∧
    live.fld (F.TR_CSC_STAT_STATE .a) = 0 ∧ (live.tr .a).brkOc = false ∧ (live.tr .a).ovSig = false ∧
    (withTr 4 (fun r => { r with brkOc := true })).fld (F.TR_CSC_STAT_STATE .a) = 0 ∧ (inState 4).brakeMay .a = true ∧
    qLe (1, 2) (fVal 0x3F000000) = true ∧ qLe (live.paramQ .a 0x0E04 (2, 100)) (100, 1000) = true ∧
    qLt (qSub (fVal 0) (live.paramQ .a 0x0E05 (2, 1))) (fVal 0) = true ∧ (live.paramQ .a 0x0709 (0, 1)).1 = 0 ∧
    after (.brakeOvercurrent .a true) (gateOn 6) (fun t => t.trA.gates == 0 && t.stat (scCascade .a) 14 && t.fld (F.TR_CSC_STAT_OVC .a) == 1) = true ∧
    after (.brakeOvercurrent .a false) (withTr 4 (fun r => { r with brkOc := true })) (fun t => !t.trA.brkOc) = true ∧
    after (.brakeChopperShorted .a 10) ((withTr 4 (fun r => { r with brkOc := true })).set (F.TR_SAFE_CFG_CSC_EN .a) 1) (fun t => t.fld (F.TR_CSC_STAT_STATE .a) == 1) = true ∧
    still (.brakeChopperShorted .a 9) (withTr 4 (fun r => { r with brkOc := true })) = true ∧
    after (.brakeChopperShorted .a 0) (withTr 4 (fun r => { r with brkDs := true })) (fun t => t.stat (scCascade .a) 12) = true ∧
    after (.brakeChopperOpen .a 100 0x3F000000 0 0 0 0 0) ((inState 4).set (F.TR_SAFE_CFG_CSC_EN .a) 1) (fun t => t.fld (F.TR_CSC_STAT_STATE .a) == 2) = true ∧
    after (.busOvervoltageSignal .a true) (inState 4) (fun t => t.trA.gates == 64 && t.safe .a == 3 && t.stat 1 4 &&
      t.fld (F.TR_CSC_STAT_HW_ON .a) == 1) = true ∧
    after (.busOvervoltageSignal .a false) ((withTr 4 (fun r => { r with ovSig := true })).setCause 1 4 true) (fun t => !t.cause 1 4) = true ∧
    (retrying 0 2).protTripped .a = false ∧
    (retrying 0 2).sdStaleUsed .a = false ∧
    ((retrying 0 2).ax .a).cmd = none ∧
    still (.retryDecision .a 65535 0) (((retrying 0 2).modImg (fun i => { i with sddOwner := 0x5555 }))) = true := by
  decide +kernel

/-- The temperature stands at TJ quarters of a degree, in a band, the throttle threshold at 100 °C. -/
def warm (tj band : Nat) : State :=
  ((((live.set F.ORG_TJ_TJ tj).set F.ORG_TJ_BAND band).set F.ORG_THR_CFG_TT_THR 100).setSh F.ORG_THR_CFG_TT_THR 100).modOrg
    (fun o => { o with first := false })

theorem witness_TemperatureSetsBandThrottleAndShutdown :
    live.sun.pll = true ∧ run.sun.pll = false ∧ live.org.first = true ∧ (warm 0 0).org.first = false ∧ (warm 0 0).want F.ORG_THR_CFG_TT_THR = 100 ∧
    (live.set F.ORG_STAT_THR_REQ 1).flag F.ORG_STAT_THR_REQ = true ∧ live.flag F.ORG_STAT_THR_REQ = false ∧
    still (.temperatureSample 0) run = true ∧
    after (.temperatureSample 800) (warm 0 0) (fun t => t.tj == 700 && t.fld F.ORG_TJ_BAND == 4 && t.pend 92 && t.pend 93 &&
      t.flag F.ORG_STAT_RANGE) = true ∧
    after (.temperatureSample 400) (warm 0 0) (fun t => t.flag F.ORG_STAT_THR_REQ && t.fld F.ORG_TJ_BAND == 3) = true ∧
    after (.temperatureSample 399) (warm 0 0) (fun t => !t.flag F.ORG_STAT_THR_REQ) = true ∧
    after (.temperatureSample 192) (warm 0 2) (fun t => t.fld F.ORG_TJ_BAND == 2) = true ∧
    after (.temperatureSample 191) (warm 0 2) (fun t => t.fld F.ORG_TJ_BAND == 1) = true ∧
    after .throttleEnforced ((live.set F.ORG_STAT_THR_REQ 1).modOrg (fun o => { o with asked := 100000 })) (fun t =>
      t.flag F.ORG_STAT_THR_ENF && t.pend 94) = true ∧
    after .enfNow (live.set F.ORG_STAT_THR_REQ 1) (fun t => t.flag F.ORG_STAT_THR_ENF) = true ∧ still .enfNow live = true ∧
    after .riseRateUpdate ((live.set F.ORG_RISE_CFG_RISE1 1).modOrg (fun o => { o with means := (1000, 1000) :: List.replicate 10 (0, 1000), ended := true }))
      (fun t => t.fld F.ORG_RATE_VALUE == 25 && t.pend 96 && !t.org.arm1) = true := by decide +kernel

theorem witness_TemperatureSetsBandThrottleAndShutdown_limits :
    live.org.rise.length = 2 ∧ live.safe .a = 0 ∧ (live.set (F.TR_SAFE_STAT_STATE .a) 4).safe .a = 4 ∧
    riseNext (1, 1) 0 = (40 * q80 : Nat) / 200 ∧
    after (.driverEstimateWindow .a) ((warm 481 0).set F.ORG_DRV_CFG_DRV_LIM 120) (fun t => t.cause 1 52 && t.pend 98 && t.flag (drvFld .a)) = true ∧
    after (.driverEstimateWindow .a) (((warm 400 0).set F.ORG_DRV_CFG_DRV_LIM 120).set (drvFld .a) 1) (fun t => !t.flag (drvFld .a)) = true ∧
    after .thermalShutdown live (fun t => t.die == .thermal && t.stat 0 36 && t.safe .a == 1 && t.safe .b == 1 && t.trA.thermal) = true ∧
    after .thermalShutdown (live.set (F.TR_SAFE_STAT_STATE .a) 4) (fun t => t.safe .a == 4) = true := by decide +kernel

theorem witness_TemperatureSetsBandThrottleAndShutdown_spans :
    after (.temperatureSample 8) ((warm 0 0).modOrg (fun o => { o with count := 999, sum := 5, ended := false })) (fun t =>
      t.org.ended && t.org.count == 0 && t.org.means == [(5 + t.tj, 1000)]) = true ∧
    after .thermalShutdown { live with pins := { live.pins with toffA := true } } (fun t => t.safe .a == 0 && !t.trA.thermal &&
      t.safe .b == 1) = true ∧
    after .thermalShutdown (withTr 4 (fun r => { r with drvLow := true })) (fun t => t.safe .a == 0 && !t.trA.thermal) = true ∧
    after .thermalShutdown (live.modImg (fun i => { i with axisEn := 2 })) (fun t => t.safe .a == 0 && t.safe .b == 1) = true ∧
    after .thermalShutdown ((withTr 7 (fun r => { r with rank := 6 })).set (F.TR_SAFE_STAT_STATE .a) 3) (fun t => t.safe .a == 1) = true ∧
    after .thermalShutdown ((withTr 7 (fun r => { r with rank := 4 })).set (F.TR_SAFE_STAT_STATE .a) 1) (fun t => t.safe .a == 1 &&
      t.fld (F.TR_SAFE_STAT_ORIGIN .a) == 0 && t.trA.thermal) = true := by decide +kernel

/-! ### The host port, the flash port, the DMA and self-test -/

/-- A frame of one payload word with its trailer. -/
def frame (op alive addr : Nat) (w : Word) : WktFrame :=
  let h := BitVec.ofNat 32 (op * 2 ^ 28 + alive * 2 ^ 24 + addr)
  { edges := 96, header := h, payload := [w], tail := [], crc := trailer h [w] [] }

/-- The port has sent its first reply since the reset. -/
def talking (f : Wkt → Wkt) : State := { live with wkt := f { Wkt.reset with fresh := false } }

theorem test_trailer_of_a_zero_word : trailer 0 [] [] = 0x38FB2284#32 ∧ crcBit 0x80000000#32 false = 0x04C11DB7#32 := by
  decide +kernel

theorem witness_FramesAreCheckedExecutedAndAnswered :
    live.wktAnswers = true ∧ live.fld F.WKT_LEN_LEN = 96 ∧ (frame 1 1 0x1000 0).fits 96 = true ∧ (frame 1 1 0x1000 0).reason 96 = 0 ∧
    (frame 2 1 0x1000 7).opcode = 2 ∧ (frame 2 1 0x1000 7).alive = 1 ∧ (frame 2 1 0x1000 7).addr = 0x1000 ∧
    WktFrame.reason { frame 1 1 0 0 with edges := 97 } 96 = 3 ∧ WktFrame.reason { frame 1 1 0 0 with edges := 64 } 96 = 2 ∧
    WktFrame.reason { frame 1 1 0 0 with edges := 65 } 96 = 1 ∧ WktFrame.reason { frame 1 1 0 0 with payload := [1] } 96 = 4 ∧
    live.wkt.len = none ∧ live.wkt.next = none ∧ live.flag F.WKT_STAT_NONE = true ∧ memImplemented 0x1000 = true ∧
    memImplemented 0x400000 = false ∧ regImplemented 0x400000 = true ∧ regImplemented 0x3FFFFC = false ∧ memImplemented 0x3FFFFC = false ∧
    live.ecc1 = [] ∧ live.ecc2 = [] ∧
    after (.nop { frame 1 1 0 0 with edges := 97 }) live (fun t => t.fld F.WKT_LAST_BAD_REASON == 3 && t.fld F.WKT_LAST_BAD_EDGES == 97 &&
      t.pend 76 && t.wkt.next == some (withFlag 0 (reasonFlag 3), [])) = true ∧
    after (.nop (frame 0 5 0 0)) (talking (fun k => { k with next := some (0x11000000, [9]), ready := true })) (fun t =>
      t.wkt.sent == [0x11000000, 9, trailer 0x11000000 [9] []].flatMap wordBits && t.wkt.next == some (replyHeader 0 5 0, []) &&
      t.flag F.WKT_STAT_NONE) = true ∧
    after (.write (frame 2 5 0x1000 7) []) (talking (fun k => { k with next := some (0x11000000, [9]) })) (fun t =>
      t.wkt.sent.take 32 == wordBits 0x96C396C3 && t.byte 0x1000 == 0 && t.fld F.WKT_CNT_BUSY == 1 &&
      t.wkt.next == some (withFlag 0x11000000 rfDropped, [9])) = true ∧
    after (.write (frame 2 5 0x1000 7) []) live (fun t => t.ld32 0x1000 == 7 && t.fld F.WKT_STAT_ALIVE == 5 &&
      t.wkt.next == some (replyHeader 2 5 0, [])) = true ∧
    after (.read (frame 1 5 0x1000 0) []) (live.setWords 0x1000 [0x1234]) (fun t => t.wkt.next == some (replyHeader 1 5 0, [0x1234])) = true ∧
    after (.read (frame 1 5 0x3FFFFC 0) []) live (fun t => t.wkt.next == some (replyHeader 1 5 (2 ^ rfVoid), [0])) = true ∧
    after (.reservedOpcode (frame 15 5 0 0)) live (fun t => t.flag F.WKT_STAT_BADOP_SEEN) = true ∧
    after (.write (frame 2 5 0x1000 7) []) (({ live with wkt := { Wkt.reset with stored := (0x25000000, []) } }.set F.WKT_STAT_NONE 0).set
      F.WKT_STAT_ALIVE 5) (fun t => t.byte 0x1000 == 0 && t.wkt.next == some (withFlag 0x25000000 rfRetrans, [])) = true ∧
    after .replyReady (talking (fun k => { k with next := some (0, []) })) (fun t => t.wkt.ready) = true := by decide +kernel

theorem witness_RegisterWritesActAsTheirCommandsAndHostLossReacts :
    regImplemented 0x3FFFFC = false ∧ (live.set F.WKT_HLT_EN 1).flag F.WKT_HLT_EN = true ∧ live.flag F.WKT_STAT_LOST = false ∧
    live.flag (F.PW_CTRL_EN .a) = true ∧ live.pendCmd .a = none ∧
    after (.registerWrite 0x3FFFFC 5) live (fun t => t.reply == 2 ^ rfVoid && t.regs == live.regs) = true ∧
    still (.registerWrite A.PGL_STAT 0xFFFFFFFF) live = true ∧
    after (.registerWrite (A.MC_SWAP .a) (putField (F.MC_SWAP_REQ .a) 0 1)) live (fun t => t.getBit (F.MC_SWAP_REQ .a) 0) = true ∧
    after (.wktLenWrite 4096) live (fun t => t.wkt.len == some (4096, true)) = true ∧
    after (.wktLenWrite 4097) live (fun t => bit t.reply rfVoid) = true ∧
    after (.hltWrite (putField F.WKT_HLT_EN 0 1)) live (fun t => t.flag F.WKT_STAT_ARMED) = true ∧
    after (.hostLost 1) ((((live.set F.WKT_HLT_EN 1).set F.WKT_STAT_ARMED 1).set F.WKT_HLT_REACT_A 1).set F.WKT_HLT_REACT_B 2) (fun t =>
      t.axA.cmd == some { code := 3, tag := 0xF8, src := 0, slot := none } && t.cause 2 44 && t.pend 78) = true := by decide +kernel

/-- A window fill of kiosk 23 is in progress or waits. -/
def fill : FlashReq := { ap := false, who := 23, addr := 0x40, len := 64, retried := false, rel := 0, void := false }

/-- The flash has been probed; kiosk 23 runs a task of the window, whose section covers the first 4096 flash bytes. -/
def flashed (f : Ice → Ice) : State :=
  ((((task []).modImg (fun i => { i with graphs := [{ graphA with tasks := graphA.tasks.map (fun t => { t with flags := 2 }) }] })).modImg
    (fun i => { i with sects := [{ typ := 9, flags := 0, owner := 0, grp := 0, off := 0, len := 4096, dest := 0, copy1 := false }] }) |>.set
    F.ICE_CFG_PROBED 1).set F.ICE_CFG_MODE 3).modIce f

theorem witness_FlashTransactionsFillTheWindowOrFail :
    ((flashed id).runOf 23).any (fun r => (flashed id).inWindow r) = true ∧ ((flashed id).windowAt 0x47).isSome = true ∧
    ((flashed id).cached 0x47).isNone = true ∧ (flashed id).flag F.ICE_STAT_RELEASED = false ∧ (flashed id).ice.run = none ∧
    (flashed id).iceKind fill true = some 1 ∧ (flashed id).iceKind fill false = none ∧ ((flashed id).set F.ICE_SIZE_BYTES 64).iceKind fill false = some 3 ∧
    ((flashed id).set F.ICE_CFG_PROBED 0).iceKind fill false = some 4 ∧ (flashed (fun i => { i with run := some fill })).ice.drop = false ∧
    flashLine 0x40 = 0x40 ∧
    after (.windowMiss 23 0x47 []) (flashed id) (fun t => t.ice.run == some fill && t.flag F.ICE_STAT_BUSY &&
      (t.kiosk 23).run.any (fun r => r.stalled == some 0x47)) = true ∧
    after (.windowMiss 23 0x47 []) (flashed (fun i => { i with run := some { fill with who := 2 } })) (fun t => t.ice.fills == [fill]) = true ∧
    after (.flashTransactionEnd true []) (flashed (fun i => { i with run := some fill })) (fun t =>
      t.ice.run == some { fill with retried := true } && t.fld F.ICE_CNT_RETRIES == 1) = true ∧
    after (.flashTransactionEnd true []) (flashed (fun i => { i with run := some { fill with retried := true } })) (fun t =>
      t.fld F.ICE_ERR_KIND == 1 && t.pend 80 && t.stat 3 39) = true ∧
    after (.flashTransactionEnd false [5]) (flashed (fun i => { i with run := some fill })) (fun t => t.ice.run.isNone &&
      t.ice.fetched == [(23, 0x40, 5 :: List.replicate 63 0)]) = true ∧
    after .windowLineFill ((flashed (fun i => { i with fetched := [(23, 0x40, [5])] })).modRun 23 (fun r => { r with stalled := some 0x47 }))
      (fun t => t.cached 0x40 == some [5] && t.fld F.ICE_CNT_MISSES == 1 && (t.kiosk 23).run.any (fun r => r.stalled.isNone)) = true ∧
    after .release (flashed id) (fun t => t.flag F.ICE_STAT_RELEASED) = true ∧
    after .release (flashed (fun i => { i with run := some fill })) (fun t => t.ice.release && !t.flag F.ICE_STAT_RELEASED) = true ∧
    after (.portRetake flash1) (((flashed (fun i => { i with lines := [(0, [])] })).set
      F.ICE_CTRL_RELEASE 1).set F.ICE_STAT_RELEASED 1) (fun t => t.fld F.ICE_CFG_MODE == 2 && t.ice.lines == []) = true ∧
    after (.portRetake flash1) ((flashed (fun i => { i with lines := [(0, [])] })).set F.ICE_CTRL_RELEASE 1 |>.set F.GH_BOOT_STATUS_BOOTSEL 1)
      (fun t => t.fld F.ICE_CFG_MODE == 3 && t.ice.lines == []) = true ∧
    after .inv (flashed (fun i => { i with lines := [(0, [])] })) (fun t => t.ice.lines == []) = true ∧
    after (.blkcpy 23 [] 16 0x4000003C 8) ((flashed (fun i => { i with lines := [(0, List.replicate 64 0)] })).modRun 23 (fun r => { r with scratch := setNth r.scratch 2 2 }))
      (fun t => (t.kiosk 23).run.any (fun r => r.stalled == some 64)) = true := by decide +kernel

/-- Channel 3 exists and is in a state of table 20.1, at the descriptor 0x3000, with credit. -/
def dma (st : Nat) (f : PglCh → PglCh) : State :=
  (((live.set (F.PGL_CH_CFG_EXISTS 3) 1).set (F.PGL_CH_STAT_STATE 3) st).set (F.PGL_CH_CUR 3) 0x3000).modPch 3
    (fun c => f { c with credit := 256 })

/-- A descriptor of 8 bytes from 0x4000 to 0x5000: LAST, and the flags of word 0. -/
def descr (flags : Nat) : List Word := [BitVec.ofNat 32 (0x100 + flags), 0x4000, 0x5000, 8, 0, 0, 0, 0]

theorem witness_FlashTransactionsFillTheWindowOrFail_aperture :
    let s := (dma 1 (fun c => { c with
      await_ := some 32, desc := some [0x100, 0x800004, 0x5000, 8, 0, 0, 0, 0], flight := some (List.replicate 8 (0x5000, 0)) })).modIce (fun i => { i with run := some fill })
    (s.pch 3).await_ = some 32 ∧ (s.pch 3).got = [] ∧ s.ice.run.isSome = true ∧
    (s.ice.reads ++ s.ice.run.toList).any (fun q => q.ap && q.who == 3) = false ∧
    after (.apertureRead 3) s (fun t => t.ice.reads == [{ ap := true, who := 3, addr := 0, len := 32, retried := false, rel := 0, void := false }]) = true := by
  decide +kernel

theorem witness_PergolaMovesBlocksRecordsThemAndStops :
    live.flag (F.PGL_CH_CFG_EXISTS 3) = false ∧ (dma 0 id).flag (F.PGL_CH_CFG_EXISTS 3) = true ∧ (dma 0 id).pgl.chans.length = 16 ∧
    (dma 0 id).pglSt 3 = 0 ∧ (dma 0 id).pglQueue 3 = [] ∧ (dma 1 id).pglNext = some 3 ∧ ((dma 1 id).pch 3).desc = none ∧
    dTwo (descr 0) = false ∧ dKind (descr 0) = 0 ∧ descTotal (descr 0) = 8 ∧ descOk false (descr 0) = true ∧ dLast (descr 0) = true ∧
    dEvt (descr 0x200) = true ∧ dRec (descr 0x400) = true ∧ burstLen (descr 0) 0 256 = 8 ∧ descOk false (descr 0x8000) = false ∧
    (List.range 128).all (fun e => !(dma 0 id).flag (F.LDG_ROUTE_PGL e)) = true ∧
    ((dma 1 (fun c => { c with desc := some (descr 0) })).pglNext = some 3) ∧
    after (.trig 3) live (fun t => t.fld F.PGL_STAT_NOCH == 1) = true ∧
    after (.trig 3) ((dma 0 id).set (F.PGL_CH_DESC 3) 0x40) (fun t => t.pglSt 3 == 1 && t.fld (F.PGL_CH_CUR 3) == 0x40) = true ∧
    after (.trig 3) (dma 1 (fun c => { c with queue := [0x20] })) (fun t => t.pglQueue 3 == [0x20, 0]) = true ∧
    after (.trig 3) (dma 1 (fun c => { c with queue := [0x20, 0x40] })) (fun t => t.flag (F.PGL_CH_STAT_LOST_SEEN 3) &&
      t.pglQueue 3 == [0x20, 0x40]) = true ∧
    after (.busError 3 none 0xFFFFFF) (dma 1 (fun c => { c with queue := [0x20], desc := some (descr 0) })) (fun t => t.flag F.PGL_STAT_STOPPED && t.pglSt 3 == 4 &&
      t.pglQueue 3 == [] && t.stat 4 42 && t.fld F.PGL_ERR_ADDR == 0xFFFFFF) = true ∧
    after (.pglReset (putField F.PGL_CTRL_RESET (putField F.PGL_CTRL_KEY 0 0x9A5C) 1)) ((dma 4 id).set F.PGL_STAT_STOPPED 1) (fun t =>
      t.pglSt 3 == 0 && t.pend 75 && !t.flag F.PGL_STAT_STOPPED) = true ∧
    after (.pglReset (putField F.PGL_CTRL_RESET (putField F.PGL_CTRL_KEY 0 0x9A5C) 1)) (dma 4 id) (fun t => bit t.reply rfVoid) = true ∧
    after (.ringRdWrite 1) (((live.set F.PGL_RING_CFG 4)).set F.PGL_RING_WR 1) (fun t => t.fld F.PGL_RING_RD == 1) = true ∧
    after (.ringRdWrite 2) (((live.set F.PGL_RING_CFG 4)).set F.PGL_RING_WR 1) (fun t => bit t.reply rfVoid) = true ∧
    still .creditWindow (dma 1 id) = true ∧
    after .creditWindow ((dma 1 (fun c => { c with granted := true })).setSh (F.PGL_CH_CFG_SHARE 3) 2) (fun t => (t.pch 3).credit == 128 && t.fld (F.PGL_CH_CFG_SHARE 3) == 2) = true ∧
    after (.chnCfgWrite 3 (putField (F.PGL_CH_CFG_PRIO 3) 0 2)) (dma 1 id) (fun t => t.want (F.PGL_CH_CFG_PRIO 3) == 2 &&
      t.regs == (dma 1 id).regs) = true := by decide +kernel

theorem witness_PergolaMovesBlocksRecordsThemAndStops_chains :
    after (.descriptorFetch 3) ((dma 1 id).setWords 0x3000 (descr 0x55)) (fun t => (t.pch 3).desc == some (descr 0x55) &&
      t.fld (F.PGL_CH_STAT_TAG 3) == 0x55 && (t.pch 3).credit == 224) = true ∧
    after (.descriptorFetch 3) ((dma 1 id).set F.PGL_RING_CFG 4) (fun t => t.flag (F.PGL_CH_STAT_DESC_ERR 3)) = true ∧
    after (.burstGrant 3 []) ((dma 1 (fun c => { c with desc := some (descr 0) })).setWords 0x4000 [0x04030201, 0]) (fun t =>
      (t.pch 3).flight == some [(0x5000, 1), (0x5001, 2), (0x5002, 3), (0x5003, 4), (0x5004, 0), (0x5005, 0), (0x5006, 0), (0x5007, 0)]) = true ∧
    after (.burstDone 3) (dma 1 (fun c => { c with desc := some (descr 0), flight := some [(0x5000, 1), (0x5001, 2)] })) (fun t =>
      t.byte 0x5001 == 2 && t.byte 0x5002 == 0 && (t.pch 3).done == 2) = true ∧
    after (.descriptorComplete 3) (dma 1 (fun c => { c with desc := some (descr 0), done := 8 })) (fun t => t.pglSt 3 == 0 &&
      t.fld (F.PGL_CH_CNT_DONE 3) == 1) = true ∧
    after (.descriptorComplete 3) (dma 1 (fun c => { c with desc := some (descr 0x200), done := 8 })) (fun t => t.pend 59) = true ∧
    after (.descriptorComplete 3) (((dma 1 (fun c => { c with desc := some (descr 0x4AA), done := 8 })).set F.PGL_RING_CFG 4).set
      F.PGL_RING_BASE 0x6000) (fun t => t.fld F.PGL_RING_WR == 1 && t.ld32 0x6000 == 0x13AA && t.ld32 0x6004 == 0x3000 && t.pend 72) = true ∧
    ((dma 1 id).set F.PGL_RING_CFG 4).ringFull = false ∧
    after (.abort 3) (dma 0 (fun c => { c with queue := [1] })) (fun t => t.pglQueue 3 == []) = true ∧
    after (.abort 3) (dma 1 (fun c => { c with desc := some (descr 0), flight := some [] })) (fun t => t.pglSt 3 == 3) = true ∧
    after (.abort 3) ((dma 1 (fun c => { c with desc := some (descr 0), done := 2 })).set F.PGL_RING_CFG 4) (fun t =>
      t.pglSt 3 == 0 && t.fld (F.PGL_CH_RESID 3) == 6 && t.pend 59) = true ∧
    after (.abort 3) (dma 2 id) (fun t => (t.pch 3).abort) = true := by decide +kernel

/-- A test slot runs (2) or waits (1), its outcome held. -/
def testing (k st bad : Nat) : State :=
  (live.modStc (fun t => { t with outs := [{ slot := k, bad := bad, vals := [], oor := [] }] })).set (F.STC_TSTAT_STATE k) st

/-- Trims of 3 and −1 measured for axis A. -/
def trimmed : TestOut :=
  { slot := 9, bad := 0, oor := [], vals := [((F.STC_TRIM_SRC .a).lo, 3), ((F.STC_TRIM_SNK .a).lo, 0xFFFFFFFF)] }

/-- Results of the filters of an input that give v under 1110 and -16384 under 1000. -/
def filters (v : Int) : FilterCheck := { sinc3 := List.replicate 5 ([v], [-16384]), sinc2 := List.replicate 3 ([v], [-16384]) }

/-- Findings of DS_PATH on seven channels, of which channel c trips late. -/
def paths (c : Nat) : List PathCheck :=
  (List.range 7).map (fun i => { trip := some (if i = c then 5000 else 40), soft := true, calm := true })

theorem witness_PergolaMovesBlocksRecordsThemAndStops_aborts :
    (dma 1 id).pglReady 3 = true ∧ ((dma 1 id).pch 3).granted = false ∧ (dma 1 id).pglSt 3 = 1 ∧
    after (.abort 3) ((dma 1 (fun c => { c with mid := true })).set (F.PGL_CH_RESID 3) 9) (fun t => t.fld (F.PGL_CH_RESID 3) == 0) = true ∧
    after (.abort 3) (dma 1 (fun c => { c with queue := [0x20], desc := some (descr 0), flight := some [(0x5000, 1)] })) (fun t =>
      t.pglSt 3 == 3 && t.pglQueue 3 == [0x20]) = true ∧
    after (.abort 3) (dma 0 (fun c => { c with queue := [0x20] })) (fun t => t.pglQueue 3 == []) = true ∧
    after (.abort 3) (dma 2 id) (fun t => (t.pch 3).abort) = true := by decide +kernel

theorem witness_TestsRunQueueEndAndCalibrate :
    (testing 3 2 0).testRuns 3 = true ∧ (testing 3 1 0).testWaits 3 = true ∧ (testing 3 1 0).testMay 3 = true ∧ live.testMay 3 = true ∧
    ((List.range 3).all (fun j => !((testing 3 1 0).testWaits j && (testing 3 1 0).testMay j))) = true ∧ live.ecc1 = [] ∧ live.ecc2 = [] ∧
    live.bridgeOn .a = false ∧ (inState 4).bridgeOn .a = true ∧ (inState 4).testMay 7 = false ∧ (testing 0 2 0).testMay 3 = true ∧
    (testing 9 2 0).testMay 3 = false ∧
    after (.trim .a 1 1 1 1) (testing 9 2 0) (fun t => t.pend 106) = true ∧ after (.scrub []) live (fun t => t.testRuns 1) = true ∧
    after (.dsPath .b (paths 0) (paths 1)) live (fun t => t.testRuns 3 && (t.testOut 3).bad == 257) = true ∧
    after (.sdLoop .a [filters 16383, filters 16384] [[true], [true, false], [], [false]]) (live.modImg (fun m => { m with sddOwner := 0x5555 })) (fun t =>
      t.testRuns 4 && bit (t.testOut 4).bad 0 && !bit (t.testOut 4).bad 1 && bit (t.testOut 4).bad 4 && !bit (t.testOut 4).bad 5) = true ∧
    after (.testDone 0) ((testing 0 2 0).set (F.STC_TSTAT_STATE 2) 2) (fun t => t.testRuns 0) = true ∧
    after (.sdLoop .a [] []) (inState 4) (fun t => t.fld (F.STC_TSTAT_RESULT 4) == 3 && bit t.reply rfRunning && t.pend 106) = true ∧
    after (.ofsAxis .a [0, 0, 0]) (inState 4) (fun t => t.testWaits 7 && t.pend 105) = true ∧
    after (.ofsCal 0 8388608 0 8388608 [0, 0, 0] [0, 0, 0]) live (fun t => t.testRuns 6 && (t.testOut 6).oor == []) = true ∧
    after (.sarCheck 65536 0 65537 0) live (fun t => (t.testOut 0).bad == 2 + 4 * b2n (decide (t.fld F.STC_BG_CFG_SAR_TOL = 0)) ||
      (t.testOut 0).bad == 0) = true ∧
    after (.queuedTestStart 3) (testing 3 1 0) (fun t => t.testRuns 3) = true ∧
    after (.queuedTestStart 9) ((testing 9 1 0).modTr .a (fun r => { r with cmd := 64, gates := 64 })) (fun t => t.testRuns 9 && t.trA.gates == 0) = true ∧
    after (.testDone 3) (testing 3 2 0) (fun t => t.fld (F.STC_TSTAT_RESULT 3) == 1 && t.pend 104) = true ∧
    after (.testDone 3) (testing 3 2 5) (fun t => t.fld (F.STC_TSTAT_RESULT 3) == 2 && t.fld (F.STC_TSTAT_DETAIL 3) == 5 && t.cause 2 50) = true ∧
    after (.testDone 0) (testing 0 2 5) (fun t => t.fld (F.STC_TSTAT_RESULT 0) == 1 && t.stc.sarBad == 5) = true ∧
    after (.testDone 1) (testing 1 2 0) (fun t => t.pend 107) = true ∧
    after (.testDone 9) ((testing 9 2 0).modStc (fun t => { t with outs := [trimmed] })) (fun t => t.fld (F.STC_TRIM_SRC .a) == 3 &&
      t.fld (F.STC_TRIM_SNK .a) == 255) = true ∧
    after (.stcCancel (putField F.STC_CANCEL_SLOT 0 8)) (testing 3 1 0) (fun t => t.fld (F.STC_TSTAT_RESULT 3) == 5) = true ∧
    after (.backgroundTestRepeat 1 1000000 0 0 0 0 []) (live.set F.STC_BG_CFG_SCRUB_AUTO 1) (fun t => t.testRuns 1) = true ∧
    after (.trimWrite .a (putField (F.STC_TRIM_SRC .a) 0 5)) live (fun t => t.fld (F.STC_TRIM_SRC .a) == 5) = true ∧
    still (.trimWrite .a 5) (inState 4) = true := by decide +kernel

/-! ### Registers that a write clears -/

theorem witness_FaultsAreLoggedAndTheirBitsClearByTheirRules :
    after (.statusClear 5 7) ((live.wr (A.LDG_ST 5) 6).wr (A.LDG_CAUSE 5) 2) (fun t => t.rd (A.LDG_ST 5) == 2) = true ∧
    after (.evtPendClear 3 5) (live.wr (A.LDG_EVT_PEND 3) 7) (fun t => t.rd (A.LDG_EVT_PEND 3) == 2) = true := by decide +kernel

/-- The words of log entry i. -/
def entry (t : State) (i : Nat) : List Word := (List.range 4).map (fun n => t.rd (A.LDG_LOG (4 * i + n)))

/-- 64 entries stand, SEQ is 70 and LOST saturated. -/
def logFull : State := ((live.set F.LDG_LOG_STAT_COUNT 64).set F.LDG_LOG_STAT_SEQ 70).set F.LDG_LOG_STAT_LOST 0xFFFF

theorem witness_FaultsAreLoggedAndTheirBitsClearByTheirRules_entries :
    live.fld F.LDG_LOG_STAT_COUNT = 0 ∧ logFull.fld F.LDG_LOG_STAT_COUNT = 64 ∧ live.getBit F.GRT_STAT_SAT 4 = false ∧ live.stat 1 10 = false ∧
    after (.torqueOff .a 200) live (fun t => entry t 0 == [0, 0, 0x609, 0] && t.fld F.LDG_LOG_STAT_COUNT == 1 &&
      t.fld F.LDG_LOG_STAT_SEQ == 1 && t.pend 0) = true ∧
    after (.torqueOff .b 200) logFull (fun t => entry t 54 == [0, 0, 0x46000A09, 0] && t.fld F.LDG_LOG_STAT_SEQ == 71 &&
      t.fld F.LDG_LOG_STAT_LOST == 0xFFFF && t.pend 110 && t.pend 28) = true ∧
    after .referenceClockLost live (fun t => entry t 0 == [0, 0, 0x321, 0] && t.pend 111) = true ∧
    after (.linkFrame .a false) live (fun t => entry t 0 == [0, 0, 0x50A, 1] && t.pend 108) = true ∧
    after (.linkFrame .a false) (live.wr (A.LDG_ST 0) 0x400) (fun t => entry t 0 == [0, 0, 0, 0] && t.fld F.LDG_REPEAT_COUNT == 1) = true ∧
    (live.wr (A.LDG_ST 0) 0x400).stat 1 10 = true := by decide +kernel

theorem witness_FaultsAreLoggedAndTheirBitsClearByTheirRules_pin :
    live.fltLow = false ∧ (live.wr (A.LDG_ST 5) 2).stat 0 33 = true ∧ (live.wr (A.LDG_ST 5) 2).fltLow = true ∧
    (live.wr (A.LDG_ST 0) 0x1000).stat 1 12 = true ∧ ((live.wr (A.LDG_ST 0) 0x1000).set F.LDG_FLT_CFG_CONT_A 1).fltLow = true ∧
    ((live.wr (A.LDG_ST 0) 0x1000).set F.LDG_FLT_CFG_CONT_A 0).fltLow = false ∧ (live.set F.LDG_LOCKOUT_B 1).fltLow = true ∧
    ((live.wr (A.LDG_ST 2) 0x400).set F.LDG_FLT_CFG_CORR 1).fltLow = true := by decide +kernel

theorem witness_KeyedLogClearZeroesTheLogAlone :
    let w := putField F.LDG_LOG_CLR_LOG (putField F.LDG_LOG_CLR_KEY 0 0x3CC3) 1
    fieldOf F.LDG_LOG_CLR_KEY w = 0x3CC3 ∧ fieldOf F.LDG_LOG_CLR_LOG w = 1 ∧
    after (.logClr w) ((live.wr (A.LDG_LOG 0) 5).wr (A.LDG_LOG 255) 6) (fun t => t.rd (A.LDG_LOG 0) == 0 && t.rd (A.LDG_LOG 255) == 0 &&
      t.logNext == 0) = true ∧
    still (.logClr (putField F.LDG_LOG_CLR_LOG 0 1)) (live.wr (A.LDG_LOG 0) 5) = true := by decide +kernel

theorem witness_RoutesActOnEachEventAndWritesChangeThePinRoutesOnly :
    after (.routeWrite 127 0xFFFFFFFF) live (fun t => t.fld (F.LDG_ROUTE_IRQ0 127) == 1 && t.fld (F.LDG_ROUTE_WKT 127) == 1 &&
      t.fld (F.LDG_ROUTE_KIOSK 127) == 0 && t.fld (F.LDG_ROUTE_PGL_CH 127) == 0) = true := by decide +kernel

/-- E88 triggers the graph of `graphA`, and its route has KIOSK set. -/
def routed : State :=
  (graphed.modImg (fun i => { i with graphs := [{ graphA with trigger := 2, trigArg := 88 }] })).set (F.LDG_ROUTE_KIOSK 88) 1

theorem witness_RoutesActOnEachEventAndWritesChangeThePinRoutesOnly_events :
    routed.flag F.SUN_CTRL_SET_AT_PPS = false ∧ routed.instOf 0 = none ∧ (routed.graphD 0).any (fun d => d.trigger == 2 && d.trigArg == 88) = true ∧
    after .setGo routed (fun t => (t.instOf 0).isSome && t.pend 88) = true ∧
    after .setGo (routed.modFab (fun f => { f with insts := [inst0 [.queued, .waiting]] })) (fun t => t.fld F.HB_LATE_OVR_A == 1) = true ∧
    after .setGo ((((dma 0 id).set (F.LDG_ROUTE_PGL 88) 1).set (F.LDG_ROUTE_PGL_CH 88) 3).set (F.PGL_CH_DESC 3) 0x40) (fun t =>
      t.pglSt 3 == 1 && t.fld (F.PGL_CH_CUR 3) == 0x40) = true ∧
    live.irq0 = false ∧ (live.wr (A.LDG_EVT_PEND 2) 0x1000000).pend 88 = true ∧
    ((live.wr (A.LDG_EVT_PEND 2) 0x1000000).set (F.LDG_ROUTE_IRQ0 88) 1).irq0 = true ∧
    ((live.wr (A.LDG_EVT_PEND 2) 0x1000000).set (F.LDG_ROUTE_IRQ0 87) 1).irq0 = false ∧
    after (.routeWrite 88 (putField (F.LDG_ROUTE_IRQ1 88) 0 1)) (live.wr (A.LDG_EVT_PEND 2) 0x1000000) (fun t => t.irq1 && !t.irq0 && !t.evtFlag) = true := by
  decide +kernel

theorem witness_CounterClearsZeroOnlyNamedCounters :
    after (.hbCntClr (putField F.HB_CNT_CLR_MISS_A 0 1)) ((live.set (F.HB_MISS_TOTAL .a) 3).set (F.HB_MISS_TOTAL .b) 4) (fun t =>
      t.fld (F.HB_MISS_TOTAL .a) == 0 && t.fld (F.HB_MISS_TOTAL .b) == 4) = true ∧
    after (.hbCntClr (putField F.HB_CNT_CLR_PACE_MIN 0 1)) (live.set (F.HB_PACE_MIN 3) 4) (fun t => t.fld (F.HB_PACE_MIN 3) == 0xFFFF) = true ∧
    after (.snsCntClr (putField F.SNS_CNT_CLR_CNT_B 0 1)) ((live.wr (A.SNS_CNT .a) 3).wr (A.SNS_CNT .b) 4) (fun t =>
      t.rd (A.SNS_CNT .a) == 3 && t.rd (A.SNS_CNT .b) == 0) = true ∧
    after (.trxCntClr .a (putField (F.TR_CNT_CLR_ILK .a) 0 1)) ((live.set (F.TR_ILK_CNT_W .a) 3).set (F.TR_REF_STAT_COUNT .a) 4) (fun t =>
      t.fld (F.TR_ILK_CNT_W .a) == 0 && t.fld (F.TR_REF_STAT_COUNT .a) == 4) = true ∧
    after (.protClr .b (putField (F.TR_PROT_CLR_OVC .b) 0 1)) ((live.set (F.TR_CSC_STAT_OVC .b) 3).set (F.TR_CSC_STAT_STATE .b) 1) (fun t =>
      t.fld (F.TR_CSC_STAT_OVC .b) == 0 && t.fld (F.TR_CSC_STAT_STATE .b) == 1) = true ∧
    after .iceCntClr (live.wr A.ICE_CNT 5) (fun t => t.rd A.ICE_CNT == 0) = true ∧
    after .wktCntClr (live.wr A.WKT_CNT 5) (fun t => t.rd A.WKT_CNT == 0) = true ∧
    after .sunCntClr ((live.set F.SUN_STAT_REJECTS 5).set F.SUN_STAT_SET_PENDING 1) (fun t => t.fld F.SUN_STAT_REJECTS == 0 &&
      t.fld F.SUN_STAT_SET_PENDING == 1) = true := by decide +kernel

theorem witness_BankCounterClearsZeroOnlyNamedCounters :
    after (.hahCntClr (putField F.HAH_CNT_CLR_HALL_B 0 1)) (((live.set (F.HAH_HALL_ST_SKIPS .a) 3).set (F.HAH_HALL_ST_SKIPS .b) 4).set
      (F.HAH_HALL_ST_CODE .b) 5) (fun t => t.fld (F.HAH_HALL_ST_SKIPS .a) == 3 && t.fld (F.HAH_HALL_ST_SKIPS .b) == 0 &&
      t.fld (F.HAH_HALL_ST_CODE .b) == 5) = true := by decide +kernel

theorem witness_AxisCountersZeroOnlyByTheirOwnBit :
    after (.mcCntClr .b (putField (F.MC_CNT_CLR_STARTS .b) (putField (F.MC_CNT_CLR_KEY .b) 0 0x5AA5) 1)) ((live.set (F.MC_STARTS .b) 3).set
      (F.MC_RUNTIME .b) 4) (fun t => t.fld (F.MC_STARTS .b) == 0 && t.fld (F.MC_RUNTIME .b) == 4) = true ∧
    still (.mcCntClr .b (putField (F.MC_CNT_CLR_STARTS .b) 0 1)) (live.set (F.MC_STARTS .b) 3) = true ∧
    after (.mcCntClr .b (putField (F.MC_CNT_CLR_RUNTIME .b) (putField (F.MC_CNT_CLR_KEY .b) 0 0x5AA5) 1)) (live.modAx .b (fun a => { a with secs := 7 }))
      (fun t => t.axB.secs == 0 && t.fld (F.MC_RUNTIME .b) == 0) = true := by decide +kernel

/-- Source: spec/13_gate_drive.md, below R466: at VBUS_NOM = 750 V and 5 V/ns the target is 120 ns, 768 sub-ticks; the clamps. -/
theorem test_gate_target : gateTarget (750, 1) (5, 1) = 768 ∧ gateTarget (25, 1) (4, 1) = 64 ∧
    gateTarget (1000, 1) (1, 2) = 2560 := by decide

end Sys2Proof.Tests
end

/-! Reset (R72, table 3.3): the stores are empty, so every register reads its reset column and every byte reads 0. -/

namespace Sys2Proof.Machine

/-! ### Reset columns of the register map -/

theorem regPor_ghIdent : regPor A.GH_IDENT = 0x24125DA1#32 := by decide

/-- R96, table 3.8: POR is the one cause bit whose reset value is 1. -/
theorem regPor_ghRstCause : regPor A.GH_RST_CAUSE = 1#32 := by decide

theorem regPor_ldgLogStat : regPor A.LDG_LOG_STAT = 0 := by decide

/-- The page 0x40C of the register map is the Lodge's block. -/
theorem regFields_ldg {off : Nat} (hoff : off < 0x1000) (hword : off % 4 = 0) :
    regFields (0x40C000 + off) = ldgFields off := by
  have hpage : (0x40C000 + off) / 0x1000 = 0x40C := by omega
  have hrest : (0x40C000 + off) % 0x1000 = off := by omega
  have himpl : ¬(0x40C000 + off < 0x400000 ∨ 0x413000 ≤ 0x40C000 + off ∨ (0x40C000 + off) % 4 ≠ 0) := by omega
  rw [regFields, if_neg himpl, hpage, hrest]
  rfl

/-- The words of the fault log are one field each, with reset value 0, kept by a warm reset. -/
theorem ldgFields_log {k : Nat} (hk : k < 256) : ldgFields (0x400 + 4 * k) = [⟨31, 0, .ro, 0, .kept⟩] := by
  unfold ldgFields
  rw [if_neg (by omega), if_neg (by omega), if_neg (by omega), if_pos (by omega)]

theorem regPor_ldgLog (n : Nat) : regPor (A.LDG_LOG n) = 0 := by
  have hk : n % 256 < 256 := Nat.mod_lt _ (by decide)
  have haddr : A.LDG_LOG n = 0x40C000 + (0x400 + 4 * (n % 256)) := by rw [A.LDG_LOG]; omega
  rw [regPor, haddr, regFields_ldg (by omega) (by omega), ldgFields_log hk]
  rfl

/-! ### The state after reset -/

@[simp] theorem State.rd_reset (a : Nat) : State.reset.rd a = regPor a := rfl

@[simp] theorem State.byte_reset (a : Nat) : State.reset.byte a = 0 := rfl

theorem State.wf_reset : State.reset.Wf = true := rfl

/-- Settles O4: an unlisted address of an empty store reads its reset column, so the register values are the register map's. -/
theorem resetLeavesTheStatedValues : Obligations.ResetLeavesTheStatedValues := by
  unfold Obligations.ResetLeavesTheStatedValues
  refine ⟨State.wf_reset, rfl, rfl, ?ident, ?cause, State.byte_reset, rfl, ?log, ?logStat, rfl, State.rd_reset⟩
  case ident => rw [State.rd_reset, regPor_ghIdent]
  case cause => rw [State.rd_reset, regPor_ghRstCause]
  case log => intro n; rw [State.rd_reset, regPor_ldgLog]
  case logStat => rw [State.rd_reset, regPor_ldgLogStat]

end Sys2Proof.Machine

namespace Sys2Proof.Machine

set_option Elab.async false

/-! ### The sequence of a group can end at the sample instant itself (R24, R489, R499) -/

/-- Axis A waits in SAFE for its retry, and the change of its RETRY bit was written in that wait; TRIES has been written 0 since, and
VBUS lies above OV2 for the second period. -/
def retryWaits : State :=
  let s := { State.reset with
    die := .up
    img := { Img.none with axisEn := 3 }
    sun := { Sun.reset with pll := true }
    sources := [(0, 4, [0x44FA0000#32])]
    axA := { Ax.reset with retryOk := true }
    svA := { Svc.reset with ov2N := true, ownHold := 2 ^ gRETRY } }
  (((((((s.set F.GH_BOOT_STATUS_STATE 5).set (F.PW_CTRL_EN .a) 1).set (F.PW_SAMP_EN .a 1) 1).set (F.MC_STATE_STATE .a) axSAFE).set
    (F.TR_SAFE_STAT_STATE .a) ssOFF).set (F.TR_SAFE_STAT_WAITING .a) 1).wr (A.MC_OWN .a) (2 ^ gRETRY)).wrSh (A.MC_OWN .a) 0

/-- R24: before the sample instant the sequence of RETRY runs, so that its changed bit is held. -/
theorem retryWaits_groupRuns : retryWaits.groupRuns .a gRETRY = true := by decide +kernel

/-- The first sample instant of the period raises bus overvoltage (R499), which with TRIES 0 ends the wait, and the written bit becomes
active at that instant. -/
theorem retryWaits_sampleInstant :
    (match exec (.sampleInstant .a 1 0 []) retryWaits with
      | .next t => !t.flag (F.TR_SAFE_STAT_WAITING .a) && !bit (t.rd (A.MC_OWN .a)).toNat gRETRY
      | _ => false) = true := by decide +kernel

/-- Refutes O22: bus overvoltage at the first sample instant of a period comes before the ownership in that instant; it ends the wait for
the retry, in which the change of RETRY was written, so that the bit takes the written value though its sequence ran until then. -/
theorem not_ownershipBecomesActiveAtTheNextSampleInstant : ¬ Obligations.OwnershipBecomesActiveAtTheNextSampleInstant := by
  unfold Obligations.OwnershipBecomesActiveAtTheNextSampleInstant
  intro h
  obtain ⟨-, hsample, -⟩ := h retryWaits .a 0 1 0 []
  obtain ⟨t, ht, hown, -⟩ := hsample (by decide) (by decide +kernel) (by decide +kernel) (by decide +kernel) (by decide +kernel)
  have kept : bit (t.rd (A.MC_OWN .a)).toNat gRETRY = true := (hown gRETRY (by decide)).trans (by decide +kernel)
  have run := retryWaits_sampleInstant
  rw [ht] at run
  simp [kept] at run

/-! ### A ready task of a graph whose tasks have all ended (R12, R146, R494) -/

/-- The run of the one task of graph 0. -/
def lastRun : Run :=
  { graph := 0, task := 0, scratch := [], numeric := false, steps := 4, stalled := none, lock := none, ops := 0, est := 0, rel := 0 }

/-- A period graph of axis A of one task, which runs on kiosk 0 as its last one, while the same task stands among the ready ones;
Cascade A is not fitted and 9 is written to CMP_BK. -/
def readyAgain : State :=
  let graph : GraphD :=
    { sect := 0, gid := 77, axis := 0, cls := 1, trigger := 0, trigArg := 0, deadline := 100, wcet := 0,
      tasks := [{ tid := 0, flags := 0, kiosk := 0, oplOff := 0, oplLen := 1, ninput := 0, cost := 10 }], edges := [] }
  let inst : Inst :=
    { graph := 0, trigAt := 0, start := 0, serves := 0, margin := 0, seen := [], tasks := [.running], old := [], bodies := [],
      recs := [(0, [0, 0, 0, 100]), (4, [0])], lat := none }
  let s := { State.reset with
    die := .up
    img := { Img.none with axisEn := 3, graphs := [graph], roles := [1] }
    fab := { State.reset.fab with
      kiosks := [{ Kiosk.idle with run := some lastRun }], insts := [inst], ready := [{ graph := 0, task := 0, dl := none, rel := 0 }] } }
  (s.set F.GH_BOOT_STATUS_STATE 5).setSh (F.PW_CMP_BK_D .a) 9

/-- The end of the task delivers its outputs and places every ready task (R12, R146): the graph's task waits on a queue again, so that
the graph writes no brake value. -/
theorem readyAgain_taskComplete :
    (match exec (.taskComplete 0) readyAgain with
      | .next t => (t.instOf 0).any (fun i => i.tasks == [.queued]) && t.want (F.PW_CMP_BK_D .a) == 9
      | _ => false) = true := by decide +kernel

/-- Refutes O28: the statement covers every state in RUNNING, and in one where the task that ends also stands among the ready ones (no
step brings that about) the task is queued again before its graph's end is judged, and CMP_BK keeps the 9 written to it, where the
statement says 0 for a Cascade that is not fitted. -/
theorem not_tasksEndWithTheirOutputsOrAreAbandoned : ¬ Obligations.TasksEndWithTheirOutputsOrAreAbandoned := by
  unfold Obligations.TasksEndWithTheirOutputsOrAreAbandoned
  intro h
  obtain ⟨-, hcomplete, -⟩ := h readyAgain 0 lastRun (by decide +kernel) rfl
  obtain ⟨t, ht, -, -, -, -, hbrake⟩ := hcomplete rfl rfl (by decide +kernel)
  obtain ⟨-, hnone, -⟩ := hbrake .a _ _ [0, 0, 0, 100] [0] 100 rfl rfl rfl rfl rfl (by decide +kernel) rfl rfl rfl (by decide +kernel)
  have zero : t.want (F.PW_CMP_BK_D .a) = 0 := hnone (by decide +kernel)
  have run := readyAgain_taskComplete
  rw [ht] at run
  simp [zero] at run

end Sys2Proof.Machine

namespace Sys2Proof.Machine

set_option Elab.async false

/-! ### Fields that share no bit, and shadow copies -/

/-- Two fields share no bit. -/
def Fld.apart (f g : Fld) : Bool := decide (g.hi < f.lo) || decide (f.hi < g.lo) || decide (g.reg ≠ f.reg)

theorem Fld.apart_iff {f g : Fld} : f.apart g = true ↔ g.reg ≠ f.reg ∨ g.hi < f.lo ∨ f.hi < g.lo := by
  simp only [Fld.apart, Bool.or_eq_true, decide_eq_true_eq]; tauto

theorem Fld.apart_comm {f g : Fld} (h : f.apart g = true) : g.apart f = true := by
  rw [Fld.apart_iff] at *
  rcases h with h | h | h
  · exact Or.inl (Ne.symm h)
  · exact Or.inr (Or.inr h)
  · exact Or.inr (Or.inl h)

theorem State.fld_set_apart (s : State) {f g : Fld} (v : Nat) (hf : f.ok = true) (h : f.apart g = true) :
    (s.set f v).fld g = s.fld g := State.fld_set_other _ _ _ _ hf (Fld.apart_iff.1 h)

theorem State.want_setSh (s : State) (f : Fld) (v : Nat) (hf : f.ok = true) : (s.setSh f v).want f = v % 2 ^ f.width := by
  rw [State.want, State.setSh, State.rdSh_wrSh, if_pos rfl, fieldOf_putField _ _ _ hf]

theorem State.want_setSh_apart (s : State) {f g : Fld} (v : Nat) (hf : f.ok = true) (h : f.apart g = true) :
    (s.setSh f v).want g = s.want g := by
  rw [State.want, State.setSh, State.rdSh_wrSh]
  split
  next e => rw [fieldOf_putField_other _ _ _ _ hf (by have := Fld.apart_iff.1 h; tauto), State.want, e]
  next => rfl

/-- A field of a written word reaches the shadow copy whole. -/
theorem State.want_setSh_fieldOf (s : State) (f : Fld) (w : Word) (hf : f.ok = true) :
    (s.setSh f (fieldOf f w)).want f = fieldOf f w := by
  rw [State.want_setSh _ _ _ hf, Nat.mod_eq_of_lt (fieldOf_lt f w)]

theorem State.want_of_shadow {s t : State} (h : t.shadow = s.shadow) (f : Fld) : t.want f = s.want f := by
  rw [State.want, State.rdSh, h]; rfl

theorem State.want_lt (s : State) (f : Fld) : s.want f < 2 ^ f.width := fieldOf_lt f _

theorem State.fld_take (s : State) (f : Fld) (hf : f.ok = true) : (s.take f).fld f = s.want f :=
  State.fld_set_of_lt _ _ _ hf (s.want_lt f)

theorem State.fld_take_apart (s : State) {f g : Fld} (hf : f.ok = true) (h : f.apart g = true) : (s.take f).fld g = s.fld g :=
  State.fld_set_apart _ _ hf h

@[simp] theorem State.want_take (s : State) (f g : Fld) : (s.take f).want g = s.want g := rfl

/-- Fields that take effect leave a field with no bit in theirs. -/
theorem State.fld_forEach_take_apart (l : List Fld) (s : State) (g : Fld) (hl : ∀ f ∈ l, f.ok = true ∧ f.apart g = true) :
    (s.forEach l State.take).fld g = s.fld g := by
  induction l generalizing s with
  | nil => rfl
  | cons f r ih =>
    obtain ⟨hok, hap⟩ := hl f (List.mem_cons_self ..)
    exact (ih (s.take f) fun q hq => hl q (List.mem_cons_of_mem _ hq)).trans (State.fld_take_apart _ hok hap)

/-- Of fields that share no bit each one takes what was written to it. -/
theorem State.fld_forEach_take (l : List Fld) (s : State) (hok : ∀ f ∈ l, f.ok = true)
    (hap : l.Pairwise (fun f g => f.apart g = true)) (g : Fld) (hg : g ∈ l) : (s.forEach l State.take).fld g = s.want g := by
  induction l generalizing s with
  | nil => cases hg
  | cons f r ih =>
    obtain ⟨hf, hr⟩ := List.pairwise_cons.1 hap
    rcases List.mem_cons.1 hg with rfl | hg
    · refine (State.fld_forEach_take_apart r _ g fun q hq => ⟨hok q (List.mem_cons_of_mem _ hq), Fld.apart_comm (hf q hq)⟩).trans ?_
      exact State.fld_take s g (hok g (List.mem_cons_self ..))
    · exact (ih (s.take f) (fun q hq => hok q (List.mem_cons_of_mem _ hq)) hr hg).trans (State.want_take s f g)

end Sys2Proof.Machine

namespace Sys2Proof.Machine

set_option Elab.async false

/-- A write of MCx.MODE, apart from the registers: the shadow copies and what the write notes. -/
abbrev writeReach : Nat := 0x40000010

/-! ### The write of MCx.MODE (R297, R302, R328, R329, R677) -/

/-- A field of a written word reaches its shadow copy. -/
def putSh (w : Word) (s : State) (f : Fld) : State := s.setSh f (fieldOf f w)

theorem want_putSh (w : Word) (s : State) (f : Fld) (hf : f.ok = true) : (putSh w s f).want f = fieldOf f w :=
  State.want_setSh_fieldOf s f w hf

theorem want_putSh_apart (w : Word) (s : State) {f g : Fld} (hf : f.ok = true) (h : f.apart g = true) :
    (putSh w s f).want g = s.want g := State.want_setSh_apart s _ hf h

theorem want_forEach_putSh_apart (w : Word) (l : List Fld) (s : State) (g : Fld) (hl : ∀ f ∈ l, f.ok = true ∧ f.apart g = true) :
    (s.forEach l (putSh w)).want g = s.want g := by
  induction l generalizing s with
  | nil => rfl
  | cons f r ih =>
    obtain ⟨hok, hap⟩ := hl f (List.mem_cons_self ..)
    exact (ih (putSh w s f) fun q hq => hl q (List.mem_cons_of_mem _ hq)).trans (want_putSh_apart w s hok hap)

/-- Of fields that share no bit each shadow copy takes its part of the written word. -/
theorem want_forEach_putSh (w : Word) (l : List Fld) (s : State) (hok : ∀ f ∈ l, f.ok = true)
    (hap : l.Pairwise (fun f g => f.apart g = true)) (g : Fld) (hg : g ∈ l) : (s.forEach l (putSh w)).want g = fieldOf g w := by
  induction l generalizing s with
  | nil => cases hg
  | cons f r ih =>
    obtain ⟨hf, hr⟩ := List.pairwise_cons.1 hap
    rcases List.mem_cons.1 hg with rfl | hg
    · refine (want_forEach_putSh_apart w r _ g fun q hq => ⟨hok q (List.mem_cons_of_mem _ hq), Fld.apart_comm (hf q hq)⟩).trans ?_
      exact want_putSh w s g (hok g (List.mem_cons_self ..))
    · exact ih (putSh w s f) (fun q hq => hok q (List.mem_cons_of_mem _ hq)) hr hg

/-- A flag noted for the host's reply stands in it. -/
theorem State.bit_reply_note (s : State) (f : Nat) : bit (s.note .host f).reply f = true := by
  simp only [State.note]
  split
  next h => exact h
  next h =>
    have := bit_putBit s.reply f f true
    simpa only [h, State.setReply, if_true, Bool.false_eq_true, if_false] using this

/-- A flag once noted stays. -/
theorem State.bit_reply_note_mono (s : State) (f : Nat) (h : bit s.reply f = true) : bit (s.note .host f).reply f = true := by
  rw [State.note, if_pos h]; exact h

@[simp] theorem State.want_note (s : State) (by_ : Writer) (n : Nat) (f : Fld) : (s.note by_ n).want f = s.want f :=
  State.want_of_shadow (State.note_fr (κ := 0x40000000) (Fr.refl _ _)).keep_shadow f

/-- R677: where the records are there, or the value does not ask for them, the field is written. -/
theorem State.needs_met (s : State) (by_ : Writer) {cond ok : Bool} (f : State → State) (h : (cond && !ok) = false) :
    s.needs by_ cond ok f = f s := by rw [State.needs, h]; rfl

theorem State.needs_unmet (s : State) (by_ : Writer) {cond ok : Bool} (f : State → State) (h : (cond && !ok) = true) :
    s.needs by_ cond ok f = s.note by_ rfVoid := by rw [State.needs, if_pos h]

theorem State.bit_reply_needs_mono (s : State) {cond ok : Bool} (f : State → State) (hf : (f s).reply = s.reply)
    (h : bit s.reply rfVoid = true) : bit (s.needs .host cond ok f).reply rfVoid = true := by
  rw [State.needs]
  split
  next => exact State.bit_reply_note_mono s rfVoid h
  next => rw [hf]; exact h

/-- The presence of a record is a matter of the image and of memory. -/
theorem State.hasParam_of_mem {s t : State} (himg : t.img = s.img) (hmem : t.mem = s.mem) (x : Axis) (id : Nat) :
    t.hasParam x id = s.hasParam x id := by
  have hfind (a n : Nat) : t.findRec a n id = s.findRec a n id := by
    induction n generalizing a with
    | zero => rfl
    | succ n ih =>
      have hld : t.ld16 a = s.ld16 a := by simp only [State.ld16, State.byte, hmem]
      simp only [State.findRec, hld, ih]
  simp only [State.hasParam, State.recIn, himg, hfind]

theorem State.fld_of_regs {s t : State} (h : t.regs = s.regs) (f : Fld) : t.fld f = s.fld f := by
  simp only [State.fld, State.rd, h]

theorem State.flag_of_regs {s t : State} (h : t.regs = s.regs) (f : Fld) : t.flag f = s.flag f := by
  simp only [State.flag, State.fld_of_regs h]

theorem State.bridgeOn_of_regs {s t : State} (h : t.regs = s.regs) (x : Axis) : t.bridgeOn x = s.bridgeOn x := by
  have hst : t.axState x = s.axState x := State.fld_of_regs h _
  simp only [State.bridgeOn, hst, State.fld_of_regs h]

/-! The write in its parts. -/

/-- The fields of MODE that any value may be written to at any time. -/
def freeModeFlds (x : Axis) : List Fld := [F.MC_MODE_REV_THRU x, F.MC_MODE_MTPA_EN x, F.MC_MODE_POS_LOSS x, F.MC_MODE_STOP_MODE x]

/-- The fields that take any value. -/
def State.modeFree (s : State) (x : Axis) (w : Word) : State := s.forEach (freeModeFlds x) (putSh w)

/-- FW_EN, whose 1 needs records 0x0908 and 0x0909. -/
def State.modeFw (s : State) (x : Axis) (w : Word) : State :=
  s.needs .host (fieldOf (F.MC_MODE_FW_EN x) w == 1) (s.hasParam x 0x0908 && s.hasParam x 0x0909) (putSh w · (F.MC_MODE_FW_EN x))

/-- REF, whose 2 needs records 0x0C03 to 0x0C05. -/
def State.modeRef (s : State) (x : Axis) (w : Word) : State :=
  s.needs .host (fieldOf (F.MC_MODE_REF x) w == 2) (s.hasParam x 0x0C03 && s.hasParam x 0x0C04 && s.hasParam x 0x0C05)
    (putSh w · (F.MC_MODE_REF x))

/-- CTRL and REF, with the bridge disabled. -/
def State.modeCtrl (s : State) (x : Axis) (w : Word) : State :=
  if s.bridgeOn x then s else (putSh w s (F.MC_MODE_CTRL x)).modeRef x w

/-- All that a write of MODE puts into the shadow copy. -/
def State.modePut (s : State) (x : Axis) (w : Word) : State := ((s.modeFree x w).modeFw x w).modeCtrl x w

/-- What is written acts, while the timebase is stopped (R26). -/
def State.modeAct (s : State) (x : Axis) : State :=
  let s := (s.modeTake x).inPosJudge x
  if s.flag (F.MC_MODE_FW_EN x) then s else (s.set (F.MC_X_ID_FW x) 0).set (F.MC_STATE_FW_ACTIVE x) 0

theorem State.modeWrite_eq (s : State) (x : Axis) (w : Word) :
    s.modeWrite .host x w = if (s.modePut x w).flag (F.PW_CTRL_EN x) then s.modePut x w else (s.modePut x w).modeAct x := rfl

/-! What each part touches: the shadow copies and the reply. -/

theorem putSh_fr {s0 s : State} {w : Word} {f : Fld} (h : Fr writeReach s0 s) : Fr writeReach s0 (putSh w s f) := State.setSh_fr h

theorem State.modeFree_fr {s0 s : State} {x : Axis} {w : Word} (h : Fr writeReach s0 s) : Fr writeReach s0 (s.modeFree x w) :=
  Fr.forEach h fun _ _ ht => putSh_fr ht

theorem State.modeFw_fr {s0 s : State} {x : Axis} {w : Word} (h : Fr writeReach s0 s) : Fr writeReach s0 (s.modeFw x w) :=
  State.needs_fr h fun _ ht => putSh_fr ht

theorem State.modeRef_fr {s0 s : State} {x : Axis} {w : Word} (h : Fr writeReach s0 s) : Fr writeReach s0 (s.modeRef x w) :=
  State.needs_fr h fun _ ht => putSh_fr ht

theorem State.modeCtrl_fr {s0 s : State} {x : Axis} {w : Word} (h : Fr writeReach s0 s) : Fr writeReach s0 (s.modeCtrl x w) :=
  Fr.ite h (State.modeRef_fr (putSh_fr h))

theorem State.modePut_fr {s : State} {x : Axis} {w : Word} : Fr writeReach s (s.modePut x w) :=
  State.modeCtrl_fr (State.modeFw_fr (State.modeFree_fr (Fr.refl _ _)))

theorem State.modeAct_fr {s : State} {x : Axis} :
    Fr 0x2c01000000000800000004000000200000000000100030000000000000002400002018400 s (s.modeAct x) := by
  have h : Fr 0x2c01000000000800000004000000200000000000100030000000000000002400002018400 s ((s.modeTake x).inPosJudge x) :=
    State.inPosJudge_fr (State.modeTake_fr (Fr.refl _ _))
  exact Fr.ite h (State.set_fr (State.set_fr h))

/-! What each part writes. -/

theorem modeFlds_ok (x : Axis) : ∀ f ∈ modeFlds x, f.ok = true := by cases x <;> decide

theorem modeFlds_apart (x : Axis) : (modeFlds x).Pairwise (fun f g => f.apart g = true) := by cases x <;> decide

theorem State.want_modeFree (s : State) (x : Axis) (w : Word) (f : Fld) (hf : f ∈ freeModeFlds x) :
    (s.modeFree x w).want f = fieldOf f w :=
  want_forEach_putSh w _ s (by cases x <;> decide) (by cases x <;> decide) f hf

theorem State.want_modeFree_apart (s : State) (x : Axis) (w : Word) (f : Fld)
    (hf : f ∈ [F.MC_MODE_FW_EN x, F.MC_MODE_REF x, F.MC_MODE_CTRL x]) : (s.modeFree x w).want f = s.want f := by
  refine want_forEach_putSh_apart w _ s f ?_
  revert f
  cases x <;> decide

/-- A part that writes one field, or notes VOID, leaves the others. -/
theorem State.want_needs_apart (s : State) {cond ok : Bool} (w : Word) {f g : Fld} (hf : f.ok = true) (h : f.apart g = true) :
    (s.needs .host cond ok (putSh w · f)).want g = s.want g := by
  rw [State.needs]
  split
  next => exact State.want_note ..
  next => exact want_putSh_apart w s hf h

theorem State.want_modeCtrl_apart (s : State) (x : Axis) (w : Word) (f : Fld) (hf : f ∈ F.MC_MODE_FW_EN x :: freeModeFlds x) :
    (s.modeCtrl x w).want f = s.want f := by
  have hap : (F.MC_MODE_CTRL x).apart f = true ∧ (F.MC_MODE_REF x).apart f = true := by
    revert f; cases x <;> decide
  rw [State.modeCtrl]
  split
  next => rfl
  next => exact (State.want_needs_apart _ w rfl hap.2).trans (want_putSh_apart w s rfl hap.1)

/-! The clauses of R328, R329 and R677. -/

theorem State.want_modePut_free (s : State) (x : Axis) (w : Word) (f : Fld) (hf : f ∈ freeModeFlds x) :
    (s.modePut x w).want f = fieldOf f w := by
  have hap : (F.MC_MODE_FW_EN x).apart f = true := by revert f; cases x <;> decide
  calc (s.modePut x w).want f = ((s.modeFree x w).modeFw x w).want f := State.want_modeCtrl_apart _ x w f (List.mem_cons_of_mem _ hf)
    _ = (s.modeFree x w).want f := State.want_needs_apart _ w rfl hap
    _ = fieldOf f w := s.want_modeFree x w f hf

/-- Up to CTRL and REF nothing has touched what the bridge and the records are judged by, nor those fields. -/
theorem State.before_modeCtrl (s : State) (x : Axis) (w : Word) :
    let u := (s.modeFree x w).modeFw x w
    u.bridgeOn x = s.bridgeOn x ∧ u.want (F.MC_MODE_CTRL x) = s.want (F.MC_MODE_CTRL x) ∧
      u.want (F.MC_MODE_REF x) = s.want (F.MC_MODE_REF x) ∧ ∀ id, (putSh w u (F.MC_MODE_CTRL x)).hasParam x id = s.hasParam x id := by
  have hu : Fr writeReach s ((s.modeFree x w).modeFw x w) := State.modeFw_fr (State.modeFree_fr (Fr.refl _ _))
  have hv : Fr writeReach s (putSh w ((s.modeFree x w).modeFw x w) (F.MC_MODE_CTRL x)) := putSh_fr hu
  refine ⟨State.bridgeOn_of_regs hu.keep_regs x, ?_, ?_, State.hasParam_of_mem hv.keep_img hv.keep_mem x⟩
  · exact (State.want_needs_apart _ w rfl (by cases x <;> rfl)).trans (s.want_modeFree_apart x w _ (by simp))
  · exact (State.want_needs_apart _ w rfl (by cases x <;> rfl)).trans (s.want_modeFree_apart x w _ (by simp))

theorem State.want_modePut_ctrl (s : State) (x : Axis) (w : Word) :
    (s.modePut x w).want (F.MC_MODE_CTRL x) =
      if s.bridgeOn x then s.want (F.MC_MODE_CTRL x) else fieldOf (F.MC_MODE_CTRL x) w := by
  obtain ⟨hb, hc, -, -⟩ := s.before_modeCtrl x w
  rw [State.modePut, State.modeCtrl, hb]
  split
  next => exact hc
  next => exact (State.want_needs_apart _ w rfl (by cases x <;> rfl)).trans (want_putSh w _ _ rfl)

theorem State.want_modePut_ref_bridgeOn (s : State) (x : Axis) (w : Word) (h : s.bridgeOn x = true) :
    (s.modePut x w).want (F.MC_MODE_REF x) = s.want (F.MC_MODE_REF x) := by
  obtain ⟨hb, -, hr, -⟩ := s.before_modeCtrl x w
  rw [State.modePut, State.modeCtrl, hb, if_pos h, hr]

theorem State.want_modePut_ref (s : State) (x : Axis) (w : Word) (h : s.bridgeOn x = false) (hw : fieldOf (F.MC_MODE_REF x) w ≠ 2) :
    (s.modePut x w).want (F.MC_MODE_REF x) = fieldOf (F.MC_MODE_REF x) w := by
  obtain ⟨hb, -, -, -⟩ := s.before_modeCtrl x w
  rw [State.modePut, State.modeCtrl, hb, if_neg (by simp [h]), State.modeRef, State.needs_met _ _ _ (by simp [hw])]
  exact want_putSh w _ _ rfl

theorem State.modePut_ref_void (s : State) (x : Axis) (w : Word) (h : s.bridgeOn x = false) (hw : fieldOf (F.MC_MODE_REF x) w = 2)
    (hp : s.hasParam x 0x0C03 = false) :
    (s.modePut x w).want (F.MC_MODE_REF x) = s.want (F.MC_MODE_REF x) ∧ bit (s.modePut x w).reply rfVoid = true := by
  obtain ⟨hb, -, hr, hpar⟩ := s.before_modeCtrl x w
  rw [State.modePut, State.modeCtrl, hb, if_neg (by simp [h]), State.modeRef, State.needs_unmet _ _ _ (by simp [hw, hpar, hp]),
    State.want_note, want_putSh_apart w _ rfl (by cases x <;> rfl), hr]
  exact ⟨rfl, State.bit_reply_note _ _⟩

theorem State.want_modePut_fw_zero (s : State) (x : Axis) (w : Word) (hw : fieldOf (F.MC_MODE_FW_EN x) w = 0) :
    (s.modePut x w).want (F.MC_MODE_FW_EN x) = 0 := by
  rw [State.modePut, State.want_modeCtrl_apart _ x w _ (by simp), State.modeFw, State.needs_met _ _ _ (by simp [hw]),
    want_putSh w _ _ rfl, hw]

theorem State.modePut_fw_void (s : State) (x : Axis) (w : Word) (hw : fieldOf (F.MC_MODE_FW_EN x) w = 1)
    (hp : s.hasParam x 0x0908 = false) :
    (s.modePut x w).want (F.MC_MODE_FW_EN x) = s.want (F.MC_MODE_FW_EN x) ∧ bit (s.modePut x w).reply rfVoid = true := by
  have hf : Fr writeReach s (s.modeFree x w) := State.modeFree_fr (Fr.refl _ _)
  have hfw : (s.modeFree x w).modeFw x w = (s.modeFree x w).note .host rfVoid :=
    State.needs_unmet _ _ _ (by simp [hw, State.hasParam_of_mem hf.keep_img hf.keep_mem, hp])
  constructor
  · rw [State.modePut, State.want_modeCtrl_apart _ x w _ (by simp), hfw, State.want_note, s.want_modeFree_apart x w _ (by simp)]
  · rw [State.modePut, hfw, State.modeCtrl]
    split
    next => exact State.bit_reply_note _ _
    next => exact State.bit_reply_needs_mono _ _ rfl (State.bit_reply_note (s.modeFree x w) rfVoid)

/-- R26: with the timebase stopped every field of MODE takes its shadow copy. -/
theorem State.fld_modeAct (s : State) (x : Axis) (f : Fld) (hf : f ∈ modeFlds x) : (s.modeAct x).fld f = s.want f := by
  have hreg : f.reg = A.MC_MODE x := by revert f; cases x <;> decide
  have htake : (s.modeTake x).fld f = s.want f := State.fld_forEach_take _ s (modeFlds_ok x) (modeFlds_apart x) f hf
  have hjudge : Fr 0x2c01000000000800000004000000200000000000100010000000000000002400002018400 (s.modeTake x) (s.modeAct x) := by
    have h : Fr 0x2c01000000000800000004000000200000000000100010000000000000002400002018400 (s.modeTake x) ((s.modeTake x).inPosJudge x) :=
      State.inPosJudge_fr (Fr.refl _ _)
    exact Fr.ite h (State.set_fr (State.set_fr h))
  rw [hjudge.keep_fld (by rw [hreg, A.MC_MODE_fam]; decide), htake]

/-- The write in full: what is put stands in the shadow copy, a noted VOID stands in the reply, and the registers move only while the
timebase is stopped. -/
theorem State.modeWrite_frame (s : State) (x : Axis) (w : Word) :
    (s.modeWrite .host x w).shadow = (s.modePut x w).shadow ∧ (s.modeWrite .host x w).reply = (s.modePut x w).reply ∧
      (s.flag (F.PW_CTRL_EN x) = true → (s.modeWrite .host x w).regs = s.regs) ∧
      (s.flag (F.PW_CTRL_EN x) = false → s.modeWrite .host x w = (s.modePut x w).modeAct x) := by
  have hput : Fr writeReach s (s.modePut x w) := State.modePut_fr
  rw [State.modeWrite_eq, State.flag_of_regs hput.keep_regs]
  split
  next h => exact ⟨rfl, rfl, fun _ => hput.keep_regs, fun h' => by simp [h] at h'⟩
  next h =>
    have hact := State.modeAct_fr (s := s.modePut x w) (x := x)
    exact ⟨hact.keep_shadow, hact.keep_reply, fun h' => absurd h' h, fun _ => rfl⟩

/-- R330: a finite set-point is the whole register. -/
theorem State.setPoint_finite (s : State) (f : Fld) (w : Word) (hf : f.lo = 0 ∧ f.hi = 31) (hw : fFinite w = true) :
    s.onlyRegs [f.reg] (s.setPoint .host f w) ∧ (s.setPoint .host f w).rd f.reg = w := by
  have h : s.setPoint .host f w = s.wr f.reg w := by
    rw [State.setPoint, if_pos hw, State.setW, State.set_full s f _ hf, BitVec.ofNat_toNat, BitVec.setWidth_eq]
  rw [h]
  exact ⟨(State.onlyRegs.refl _ s).wr (by simp), by simp⟩

/-- R330: another set-point is ignored, with VOID. -/
theorem State.setPoint_ignored (s : State) (f : Fld) (w : Word) (hw : fFinite w = false) :
    s.setPoint .host f w = { s with reply := (s.setPoint .host f w).reply } ∧ bit (s.setPoint .host f w).reply rfVoid = true := by
  rw [State.setPoint, if_neg (by simp [hw])]
  refine ⟨?_, State.bit_reply_note s rfVoid⟩
  simp only [State.note]
  split <;> rfl

/-- Settles O41: each field by the part of the write that puts it, and the registers by whether the timebase runs. -/
theorem modeAndSetPointsAreWrittenAsStated : Obligations.ModeAndSetPointsAreWrittenAsStated := by
  unfold Obligations.ModeAndSetPointsAreWrittenAsStated
  intro s x w hrun
  obtain ⟨hsh, hreply, hregs, hact⟩ := s.modeWrite_frame x w
  have hwant (f : Fld) : (s.modeWrite .host x w).want f = (s.modePut x w).want f := State.want_of_shadow hsh f
  constructor
  · refine ⟨s.modeWrite .host x w, congrArg Host.Outcome.next (State.running_of hrun), ?_⟩
    simp only [hwant, hreply]
    refine ⟨s.want_modePut_free x w, s.want_modePut_ctrl x w, s.want_modePut_ref_bridgeOn x w, s.want_modePut_ref x w,
      s.modePut_ref_void x w, s.want_modePut_fw_zero x w, s.modePut_fw_void x w, hregs, fun hen f hf => ?_⟩
    rw [hact hen, State.fld_modeAct _ x f hf]
  · intro tq
    have hf : (if tq then F.MC_TRQ_SET x else F.MC_SPD_SET x).lo = 0 ∧ (if tq then F.MC_TRQ_SET x else F.MC_SPD_SET x).hi = 31 := by
      cases tq <;> exact ⟨rfl, rfl⟩
    have hexec : exec (.setPointWrite x tq w) s = .next (s.setPoint .host (if tq then F.MC_TRQ_SET x else F.MC_SPD_SET x) w) :=
      congrArg Host.Outcome.next (State.running_of hrun)
    exact ⟨fun h => ⟨_, hexec, s.setPoint_finite _ w hf h⟩, fun h => ⟨_, hexec, s.setPoint_ignored _ w h⟩⟩

end Sys2Proof.Machine

namespace Sys2Proof.Machine

set_option Elab.async false

/-- What an event reaches. -/
abbrev eventReach : Nat := 0x2c01000000000800000004000000000000000000000000000000000000002400002018400

/-! ### The per-axis records through a frame -/

theorem Fr.keep_tr {m : Nat} {s t : State} (h : Fr m s t) (x : Axis) (hA : m.testBit 17 = false := by decide)
    (hB : m.testBit 18 = false := by decide) : t.tr x = s.tr x := by
  cases x
  · exact h.keep_trA hA
  · exact h.keep_trB hB

theorem Fr.keep_tb {m : Nat} {s t : State} (h : Fr m s t) (x : Axis) (hA : m.testBit 19 = false := by decide)
    (hB : m.testBit 20 = false := by decide) : t.tb x = s.tb x := by
  cases x
  · exact h.keep_tbA hA
  · exact h.keep_tbB hB

/-- What holds of every step of a loop holds of the loop. -/
theorem State.forEach_keeps {α β : Type} (p : State → β) (f : State → α → State) (hf : ∀ s a, p (f s a) = p s) (l : List α)
    (s : State) :
    p (s.forEach l f) = p s := by
  induction l generalizing s with
  | nil => rfl
  | cons a r ih => exact (ih (f s a)).trans (hf s a)

/-! ### The EDGES entries and LINK_ERR of a die (R444): only the die link and the update instant move them -/

/-- The entries of the interval that runs and of the one that has ended. -/
def Tr.link (t : Tr) : List Word × List Word × Bool × Bool := (t.edges, t.edgesEnd, t.linkErr, t.errEnd)

/-- They are those of an axis's die. -/
def State.link (s : State) (x : Axis) : List Word × List Word × Bool × Bool := (s.tr x).link

theorem Fr.keep_link {m : Nat} {s t : State} (h : Fr m s t) (y : Axis) (hA : m.testBit 17 = false := by decide)
    (hB : m.testBit 18 = false := by decide) : t.link y = s.link y := by rw [State.link, h.keep_tr y hA hB]; rfl

theorem State.link_modTr (s : State) (x y : Axis) (f : Tr → Tr) (hf : ∀ t, (f t).link = t.link) : (s.modTr x f).link y = s.link y := by
  cases x <;> cases y
  · exact hf _
  · rfl
  · rfl
  · exact hf _

@[simp] theorem State.link_set (s : State) (f : Fld) (v : Nat) (y : Axis) : (s.set f v).link y = s.link y := by cases y <;> rfl

@[simp] theorem State.link_setB (s : State) (f : Fld) (b : Bool) (y : Axis) : (s.setB f b).link y = s.link y := s.link_set f _ y

@[simp] theorem State.link_setBit (s : State) (f : Fld) (n : Nat) (b : Bool) (y : Axis) : (s.setBit f n b).link y = s.link y :=
  s.link_set f _ y

@[simp] theorem State.link_setCause (s : State) (sc code : Nat) (b : Bool) (y : Axis) : (s.setCause sc code b).link y = s.link y :=
  s.link_setBit _ _ _ y

@[simp] theorem State.link_countEdge (s : State) (x y : Axis) (i : Nat) : (s.countEdge x i).link y = s.link y :=
  s.link_modTr x y _ fun _ => rfl

@[simp] theorem State.link_gateOffAt (s : State) (x y : Axis) (c k why : Nat) : (s.gateOffAt x c k why).link y = s.link y := by
  rw [State.gateOffAt]
  split
  next => simp only [State.link_countEdge, State.link_setBit]; exact s.link_modTr x y _ fun _ => rfl
  next => rfl

@[simp] theorem State.link_gateOff (s : State) (x y : Axis) (c : Nat) : (s.gateOff x c).link y = s.link y := by
  simp only [State.gateOff]
  split
  next => exact Eq.trans (State.link_modTr _ x y _ (by exact fun _ => rfl)) (State.link_gateOffAt ..)
  next => exact State.link_gateOffAt ..

@[simp] theorem State.link_gateOn (s : State) (x y : Axis) (c : Nat) : (s.gateOn x c).link y = s.link y := by
  simp only [State.gateOn]
  split
  next => rfl
  next =>
    split
    next => rfl
    next => rw [State.link_countEdge]; exact s.link_modTr x y _ fun _ => rfl

@[simp] theorem State.link_settle (s : State) (x y : Axis) : (s.settle x).link y = s.link y := by
  simp only [State.settle, State.link_setB]
  refine Eq.trans (State.link_modTr _ x y _ (by exact fun _ => rfl)) ?_
  refine (State.forEach_keeps (·.link y) _ (fun u c => ?_) _ _).trans (State.forEach_keeps (·.link y) _ (fun u c => ?_) _ _)
  · split
    next => exact State.link_gateOn ..
    next => rfl
  · split
    next => rfl
    next => exact State.link_gateOff ..

@[simp] theorem State.link_command (s : State) (x y : Axis) (m : Nat) : (s.command x m).link y = s.link y := by
  rw [State.command, State.link_settle]; exact s.link_modTr x y _ fun _ => rfl

@[simp] theorem State.link_extEnd (s : State) (x y : Axis) : (s.extEnd x).link y = s.link y :=
  Eq.trans (State.link_modTr _ x y _ (by exact fun _ => rfl)) (s.link_set _ _ y)

@[simp] theorem State.link_evx (s : State) (x y : Axis) (o : Nat) : (s.evx x o).link y = s.link y :=
  Fr.keep_link (State.evx_fr (κ := eventReach) (Fr.refl _ _)) y

@[simp] theorem State.link_compsZero (s : State) (x y : Axis) : (s.compsZero x).link y = s.link y :=
  Fr.keep_link (State.compsZero_fr (κ := 0x204000000000000000000000000000000000000020) (Fr.refl _ _)) y

@[simp] theorem State.link_retryJoin (s : State) (x y : Axis) (b : Bool) : (s.retryJoin x b).link y = s.link y :=
  Fr.keep_link (State.retryJoin_fr (κ := 0x400000000000000000000000000000000000000000000000000006000) (Fr.refl _ _)) y

@[simp] theorem State.link_fault (s : State) (code sc unit detail : Nat) (y : Axis) :
    (s.fault code sc unit detail).link y = s.link y :=
  Fr.keep_link (State.fault_fr (κ := 0xc2c01000008004ac000000400000000000000000000000000000000000000240002201f400) (Fr.refl _ _)) y

@[simp] theorem State.link_putSafe (s : State) (x y : Axis) (st rank origin : Nat) : (s.putSafe x st rank origin).link y = s.link y := by
  simp only [State.putSafe, apply_ite (State.link · y), State.link_evx, State.link_compsZero, State.link_setCause, State.link_command,
    State.link_extEnd, State.link_set, State.link_setB, ite_self]
  exact s.link_modTr x y _ fun _ => rfl

@[simp] theorem State.link_ascDropped (s : State) (x y : Axis) : (s.ascDropped x).link y = s.link y := by
  simp only [State.ascDropped]
  split
  next => simp only [State.link_command, State.link_set]; exact s.link_modTr x y _ fun _ => rfl
  next => exact s.link_settle x y

@[simp] theorem State.link_chooseSafe (s : State) (x y : Axis) (st rank origin : Nat) (retry : Bool) :
    (s.chooseSafe x st rank origin retry).link y = s.link y := by
  have hdue (f : Tr → Option Due) : (s.modTr x (fun t => { t with due := f t })).link y = s.link y := s.link_modTr x y _ fun _ => rfl
  simp only [State.chooseSafe]
  split
  next => simp only [apply_ite (State.link · y), State.link_ascDropped, ite_self]
  next =>
    split
    next =>
      split
      next => exact hdue _
      next => simp only [apply_ite (State.link · y), hdue, State.link_retryJoin, ite_self]
    next => simp only [apply_ite (State.link · y), State.link_putSafe, State.link_retryJoin, ite_self]

@[simp] theorem State.link_axisFaultOn (s : State) (x y : Axis) (code unit detail : Nat) :
    (s.axisFaultOn x code unit detail).link y = s.link y := by
  simp only [State.axisFaultOn, State.axisFault, State.safeOther, State.link_chooseSafe, State.link_fault, State.link_setCause]

theorem State.link_moveStep (s : State) (x y : Axis) (sw : Nat) (on : Bool) (d : Int) : (s.moveStep x sw on d).link y = s.link y :=
  s.link_set _ _ y

theorem State.link_bandShift (s : State) (x y : Axis) : (s.bandShift x).link y = s.link y := by
  simp only [State.bandShift]
  split
  next => rfl
  next =>
    refine (Fr.keep_link (State.atLimits_fr (κ := 0x40000000000000000000000000000000000000000000000000000) (Fr.refl _ _)) y).trans ?_
    refine (State.forEach_keeps (·.link y) _ (fun u p => State.link_moveStep ..) _ _).trans ?_
    exact s.link_modTr x y _ fun _ => rfl

theorem State.link_refresh (s : State) (x y : Axis) (stay n : Nat) : (s.refresh x stay n).link y = s.link y := by
  simp only [State.refresh, State.link_settle]
  refine State.forEach_keeps (·.link y) _ (fun u p => ?_) _ _
  have hmod : (u.modTr x (fun t => { t with refLast := setNth t.refLast p (nth 0 (u.tr x).refLast p + 1) })).link y = u.link y :=
    u.link_modTr x y _ fun _ => rfl
  split
  next =>
    refine Eq.trans (State.link_set _ _ _ y) (Eq.trans (State.link_set _ _ _ y) (Eq.trans (State.link_modTr _ x y _ fun _ => rfl) ?_))
    refine Eq.trans ?_ hmod
    cases y <;> rfl
  next => exact hmod

end Sys2Proof.Machine

namespace Sys2Proof.Machine

set_option Elab.async false

/-! ### Causes that a safe state does not end: all but those of codes 1 and 2 (table 15.2) -/

theorem State.cause_setCause_ne (s : State) (k c sc code : Nat) (b : Bool) (h : code % 32 ≠ c % 32) :
    (s.setCause k c b).cause sc code = s.cause sc code := by
  rw [State.cause, State.setCause]
  by_cases hr : (causeFld sc code).reg = (causeFld k c).reg
  · have hf : causeFld sc code = causeFld k c := by
      simp only [causeFld, F.LDG_CAUSE] at hr ⊢
      rw [hr]
    rw [State.cause, hf, State.getBit_setBit _ _ _ _ _ rfl, if_neg h]
    have : code % 32 < 32 := Nat.mod_lt _ (by decide)
    simp [Fld.width, causeFld, F.LDG_CAUSE, this]
  · exact State.getBit_setBit_other _ _ _ _ _ _ rfl (Or.inl hr)

/-- The gates and the registers of a safe state: the first part of `putSafe`. -/
def State.safeGates (s : State) (x : Axis) (st rank origin : Nat) : State :=
  let s := s.modTr x (fun t => { t with rank := rank, due := none, pre := false, preOn := false, thermal := t.thermal && st == 1 })
  let s := s.setB (F.TR_SAFE_STAT_THERMAL x) (s.tr x).thermal
  let s := ((s.set (F.TR_SAFE_STAT_STATE x) st).set (F.TR_SAFE_STAT_ORIGIN x) origin).extEnd x
  s.command x (safeMask st + (if st = 4 then 0 else s.brakeCmd x))

/-- With no ASC the causes of codes 1 and 2 end: the second part. -/
def State.shortsEnd (s : State) (x : Axis) (st : Nat) : State :=
  if st = 1 ∨ st = 2 then s else (s.setCause (scAxis x) 1 false).setCause (scAxis x) 2 false

theorem State.putSafe_eq (s : State) (x : Axis) (st rank origin : Nat) :
    s.putSafe x st rank origin =
      let t := (s.safeGates x st rank origin).shortsEnd x st
      let u := if s.bridgeOn x = false ∧ t.bridgeOn x = true then t.compsZero x else t
      if s.safe x ≠ st ∧ st ≠ 0 then u.evx x 1 else u := rfl

theorem State.safeGates_fr (s : State) (x : Axis) (st rank origin : Nat) :
    Fr 0x1c00040000000000000000000000000000000000000000000000060000 s (s.safeGates x st rank origin) :=
  State.command_fr (State.extEnd_fr (State.set_fr (State.set_fr (State.setB_fr (State.modTr_fr (Fr.refl _ _))))))

theorem State.cause_shortsEnd (s : State) (x : Axis) (st sc code : Nat) (h1 : code % 32 ≠ 1) (h2 : code % 32 ≠ 2) :
    (s.shortsEnd x st).cause sc code = s.cause sc code := by
  rw [State.shortsEnd]
  split
  next => rfl
  next => exact (State.cause_setCause_ne _ _ 2 sc code _ h2).trans (State.cause_setCause_ne _ _ 1 sc code _ h1)

theorem State.cause_putSafe (s : State) (x : Axis) (st rank origin sc code : Nat) (h1 : code % 32 ≠ 1) (h2 : code % 32 ≠ 2) :
    (s.putSafe x st rank origin).cause sc code = s.cause sc code := by
  rw [State.putSafe_eq]
  refine (State.cause_of_fr (m := 0x2c01000000000800000004000000000204000000000000000000000000002400002018420) (Fr.ite
    (State.evx_fr ?_) ?_) (by decide) _ _).trans
    ((State.cause_shortsEnd _ x st sc code h1 h2).trans (State.cause_of_fr (s.safeGates_fr x st rank origin) (by decide) _ _))
  all_goals exact Fr.ite (State.compsZero_fr (Fr.refl _ _)) (Fr.refl _ _)

theorem State.cause_chooseSafe (s : State) (x : Axis) (st rank origin : Nat) (retry : Bool) (sc code : Nat) (h1 : code % 32 ≠ 1)
    (h2 : code % 32 ≠ 2) : (s.chooseSafe x st rank origin retry).cause sc code = s.cause sc code := by
  have hdue (f : Tr → Tr) : (s.modTr x f).cause sc code = s.cause sc code :=
    State.cause_of_fr (m := 0x60000) (State.modTr_fr (Fr.refl _ _)) (by decide) _ _
  have hjoin (b : Bool) : (s.retryJoin x b).cause sc code = s.cause sc code :=
    State.cause_of_fr (State.retryJoin_fr (κ := 0x400000000000000000000000000000000000000000000000000006000) (Fr.refl _ _)) (by decide) _ _
  have hdropped : (s.ascDropped x).cause sc code = s.cause sc code :=
    State.cause_of_fr (State.ascDropped_fr (κ := 0x1c00000000000000000000000000000000000000000000000000060000) (Fr.refl _ _)) (by decide) _ _
  simp only [State.chooseSafe]
  split
  next => simp only [apply_ite (State.cause · sc code), hdropped, ite_self]
  next =>
    split
    next =>
      split
      next => exact hdue _
      next => simp only [apply_ite (State.cause · sc code), hdue, hjoin, ite_self]
    next => simp only [apply_ite (State.cause · sc code), State.cause_putSafe _ x _ _ _ sc code h1 h2, hjoin, ite_self]

/-- R504, R507: such a fault in RUNNING leaves its status and its cause set, whatever safe state it brings. -/
theorem State.stat_axisFaultOn (s : State) (x : Axis) (code unit detail : Nat) (h : s.isRunning = true) (h1 : code % 32 ≠ 1)
    (h2 : code % 32 ≠ 2) :
    (s.axisFaultOn x code unit detail).stat (scAxis x) code = true ∧
      (s.axisFaultOn x code unit detail).cause (scAxis x) code = true := by
  obtain ⟨hst, hcause⟩ := s.stat_faultOn code (scAxis x) unit detail h
  refine ⟨?_, (State.cause_chooseSafe _ x _ _ _ _ _ code h1 h2).trans hcause⟩
  exact (State.stat_of_fr (State.chooseSafe_fr
    (κ := 0x2c01000000000901c0004400000000020400000000000000000000000000240000207e420) (Fr.refl _ _)) (by decide) _ _).trans hst

end Sys2Proof.Machine

namespace Sys2Proof.Machine

set_option Elab.async false

/-- What the record of an update instant reaches. -/
abbrev recordReach : Nat := 0xc2c01000008004bc1c000440000000002040000000000000000000000800034000221ff420

/-- What a fault of an axis reaches. -/
abbrev axisFaultReach : Nat := 0xc2c01000008004bc1c0004400000000020400000000000000000000000000240002207f420

/-- What field weakening shows. -/
abbrev fwReach : Nat := 0x100010000000000000000000000000000

/-! ### The update instant (R15, R16, R163 to R165, R181, R184), in its parts -/

/-- The energy of the interval that ends, and its place among the past ones. -/
def State.intervalPast (s : State) (x : Axis) : State :=
  (s.energy x (s.tb x).cur.vd (s.tb x).cur.vq (s.sv x).idM (s.sv x).iqM (s.tb x).cur.len).modTb x (fun t =>
    { t with past := (t.cur :: t.past).take 8 })

/-- A set that has arrived takes effect (R15, R181). -/
def State.setMeets (s : State) (x : Axis) : State :=
  if (s.tb x).setOk then
    let s := s.forEach (List.range 3) (fun s p => s.take (F.PW_CMP_D x p))
    (s.wr (A.PW_SIX x) (s.rdSh (A.PW_SIX x))).modTb x (fun t => { t with cur := { t.cur with vd := t.setV.1, vq := t.setV.2 } })
  else s

/-- The settings of table 6.5 take effect and the next interval begins. -/
def State.nextInterval (s : State) (x : Axis) (peak : Bool) : State :=
  (s.takeUpdate x).modTb x (fun t => { t with down := peak, setOk := false, setAnn := none, cbc := false, upd := t.upd + 1, begun := false })

/-- With field weakening off its current and its mark are gone. -/
def State.fwShow (s : State) (x : Axis) : State :=
  if s.flag (F.MC_MODE_FW_EN x) then s else (s.set (F.MC_X_ID_FW x) 0).set (F.MC_STATE_FW_ACTIVE x) 0

/-- All that comes before the record of the update instant. -/
def State.updateBegin (s : State) (x : Axis) (peak : Bool) : State :=
  (((s.intervalPast x).setMeets x).nextInterval x peak).fwShow x

/-- The die's part of an update instant, and what the interval that begins is. -/
def State.updateEnd (s : State) (x : Axis) : State :=
  (((s.edgesClose x).bandShift x).refresh x (s.stayOn x) (s.interval x (s.period x))).markInterval x

theorem exec_updateInstant (s : State) (x : Axis) (peak : Bool) :
    exec (.updateInstant x peak) s = .next (
      if s.counts x = true ∧ (peak = true → s.twoUpd x = true) then
        (((s.updateBegin x peak).missRecord x (!((s.intervalPast x).tb x).setOk)).useSet x).updateEnd x
      else s) := rfl

/-! #### Before the record -/

theorem State.intervalPast_fr {κ : Nat} {s0 s : State} {x : Axis} (h : Fr κ s0 s)
    (hk : 0x6000000000000000000000000186000 &&& κ = 0x6000000000000000000000000186000 := by decide) : Fr κ s0 (s.intervalPast x) :=
  h.lift hk (State.modTb_fr (State.energy_fr (Fr.refl _ _)))

theorem State.setMeets_fr {κ : Nat} {s0 s : State} {x : Axis} (h : Fr κ s0 s)
    (hk : 0x1800000000180000 &&& κ = 0x1800000000180000 := by decide) : Fr κ s0 (s.setMeets x) :=
  h.lift hk (Fr.ite (State.modTb_fr (State.wr_fr (Fr.forEach (Fr.refl _ _) fun _ _ ht => State.take_fr ht))) (Fr.refl _ _))

theorem State.nextInterval_fr {κ : Nat} {s0 s : State} {x : Axis} {peak : Bool} (h : Fr κ s0 s)
    (hk : 0xc100000000180000 &&& κ = 0xc100000000180000 := by decide) : Fr κ s0 (s.nextInterval x peak) :=
  h.lift hk (State.modTb_fr (State.takeUpdate_fr (Fr.refl _ _)))

theorem State.fwShow_fr {κ : Nat} {s0 s : State} {x : Axis} (h : Fr κ s0 s)
    (hk : fwReach &&& κ = fwReach := by decide) : Fr κ s0 (s.fwShow x) :=
  h.lift hk (Fr.ite (Fr.refl _ _) (State.set_fr (State.set_fr (Fr.refl _ _))))

theorem State.updateBegin_fr (s : State) (x : Axis) (peak : Bool) : Fr 0x10601000000000000d900000000186000 s (s.updateBegin x peak) :=
  State.fwShow_fr (State.nextInterval_fr (State.setMeets_fr (State.intervalPast_fr (Fr.refl _ _))))

theorem State.tb_intervalPast (s : State) (x : Axis) :
    (s.intervalPast x).tb x = { s.tb x with past := ((s.tb x).cur :: (s.tb x).past).take 8 } := by
  have h := fun vd vq i q n => Fr.keep_tb (State.energy_fr (κ := 0x6000000000000000000000000006000) (s := s) (x := x) (vd := vd)
    (vq := vq) (id_ := i) (iq := q) (subTicks := n) (Fr.refl _ s)) x
  simp only [State.intervalPast, State.tb_modTb, h]

/-- What of the timebase the set leaves: all but the voltages it applies. -/
theorem State.tb_setMeets (s : State) (x : Axis) :
    ∃ c, (s.setMeets x).tb x = { s.tb x with cur := c } := by
  have htake : (s.forEach (List.range 3) (fun s p => s.take (F.PW_CMP_D x p))).tb x = s.tb x :=
    State.forEach_keeps (·.tb x) _ (fun u p => State.tb_set u x _ _) _ s
  rw [State.setMeets]
  split
  next => simp only [State.tb_modTb, State.tb_wr, htake]; exact ⟨_, rfl⟩
  next => exact ⟨(s.tb x).cur, rfl⟩

theorem State.tb_fwShow (s : State) (x : Axis) : (s.fwShow x).tb x = s.tb x := by
  simp only [State.fwShow, apply_ite (State.tb · x), State.tb_set, ite_self]

/-- The timebase as the record finds it. -/
theorem State.tb_updateBegin (s : State) (x : Axis) (peak : Bool) :
    ∃ c p, (s.updateBegin x peak).tb x = { s.tb x with
      cur := c, past := p, down := peak, setOk := false, setAnn := none, cbc := false, upd := (s.tb x).upd + 1, begun := false } := by
  obtain ⟨c, hc⟩ := (s.intervalPast x).tb_setMeets x
  have htake : (((s.intervalPast x).setMeets x).takeUpdate x).tb x = ((s.intervalPast x).setMeets x).tb x :=
    Fr.keep_tb (State.takeUpdate_fr (κ := 0xc100000000000000) (Fr.refl _ _)) x
  rw [State.updateBegin, State.tb_fwShow, State.nextInterval, State.tb_modTb, htake, hc, s.tb_intervalPast]
  exact ⟨_, _, rfl⟩

/-- R181: a set that has arrived is in force whole, else the values stand. -/
theorem State.setMeets_met (s : State) (x : Axis) (h : (s.tb x).setOk = true) :
    (∀ p, p < 3 → (s.setMeets x).fld (F.PW_CMP_D x p) = s.want (F.PW_CMP_D x p)) ∧
      (s.setMeets x).rd (A.PW_SIX x) = s.rdSh (A.PW_SIX x) := by
  have hsh : (s.forEach (List.range 3) (fun s p => s.take (F.PW_CMP_D x p))).rdSh (A.PW_SIX x) = s.rdSh (A.PW_SIX x) :=
    State.forEach_keeps (·.rdSh (A.PW_SIX x)) _ (fun u p => State.rdSh_set u _ _ _) _ s
  rw [State.setMeets, if_pos h]
  refine ⟨fun p hp => ?_, by simp only [State.modTb_rd, State.rd_wr, if_true, hsh]⟩
  have hne : (F.PW_CMP_D x p).reg ≠ A.PW_SIX x := by
    cases x <;> simp only [F.PW_CMP_D, A.PW_CMP, A.PW_SIX, pwBase] <;> omega
  have hmem : F.PW_CMP_D x p ∈ [F.PW_CMP_D x 0, F.PW_CMP_D x 1, F.PW_CMP_D x 2] := by interval_cases p <;> simp
  simp only [State.modTb_fld, State.fld_wr, if_neg hne]
  exact State.fld_forEach_take _ s (by cases x <;> decide) (by cases x <;> decide) _ hmem

theorem State.setMeets_kept (s : State) (x : Axis) (h : (s.tb x).setOk = false) : s.setMeets x = s := by
  rw [State.setMeets, h]; rfl

/-- R15, R181: the values that the record finds: those of a set that has arrived, else those of before. -/
theorem State.updateBegin_met (s : State) (x : Axis) (peak : Bool) (h : (s.tb x).setOk = true) :
    (∀ p, p < 3 → (s.updateBegin x peak).fld (F.PW_CMP_D x p) = s.want (F.PW_CMP_D x p)) ∧
      (s.updateBegin x peak).rd (A.PW_SIX x) = s.rdSh (A.PW_SIX x) := by
  have hpast : Fr 0x6000000000000000000000000186000 s (s.intervalPast x) := State.intervalPast_fr (Fr.refl _ _)
  have hlate : Fr 0x10001000000000000c100000000180000 ((s.intervalPast x).setMeets x) (s.updateBegin x peak) :=
    State.fwShow_fr (State.nextInterval_fr (Fr.refl _ _))
  obtain ⟨hcmp, hsix⟩ := (s.intervalPast x).setMeets_met x (by rw [s.tb_intervalPast]; exact h)
  refine ⟨fun p hp => ?_, ?_⟩
  · rw [hlate.keep_fld (by rw [F.PW_CMP_D, A.PW_CMP_fam]; decide), hcmp p hp, State.want_of_shadow hpast.keep_shadow]
  · rw [hlate.keep_rd (by rw [A.PW_SIX_fam]; decide), hsix, State.rdSh, hpast.keep_shadow]; rfl

theorem State.updateBegin_kept (s : State) (x : Axis) (peak : Bool) (h : (s.tb x).setOk = false) :
    (∀ p, (s.updateBegin x peak).rd (A.PW_CMP x p) = s.rd (A.PW_CMP x p)) ∧
      (s.updateBegin x peak).rd (A.PW_SIX x) = s.rd (A.PW_SIX x) := by
  have hfr : Fr 0x10601000000000000c100000000186000 s (s.updateBegin x peak) := by
    rw [State.updateBegin, (s.intervalPast x).setMeets_kept x (by rw [s.tb_intervalPast]; exact h)]
    exact State.fwShow_fr (State.nextInterval_fr (State.intervalPast_fr (Fr.refl _ _)))
  exact ⟨fun p => hfr.keep_rd (by rw [A.PW_CMP_fam]; decide), hfr.keep_rd (by rw [A.PW_SIX_fam]; decide)⟩

/-- The fields of table 6.5 that an update instant lets take effect. -/
def updateFlds (x : Axis) : List Fld :=
  [F.PW_DEAD_DT_LH x, F.PW_DEAD_DT_HL x, F.PW_MINPULSE_TICKS x, F.PW_CTRL_MINP_POL x, F.PW_CTRL_SIX_SYNC x]

theorem State.fld_updateBegin_take (s : State) (x : Axis) (peak : Bool) (f : Fld) (hf : f ∈ updateFlds x) :
    (s.updateBegin x peak).fld f = s.want f := by
  have hfam : fwReach.testBit (32 + fam f.reg) = false := by revert f; cases x <;> decide
  have hearly : Fr 0x6000000000000001800000000186000 s ((s.intervalPast x).setMeets x) :=
    State.setMeets_fr (State.intervalPast_fr (Fr.refl _ _))
  have hshow := State.fwShow_fr (κ := fwReach) (x := x) (Fr.refl _ (((s.intervalPast x).setMeets x).nextInterval x peak))
  have htake : (((s.intervalPast x).setMeets x).takeUpdate x).fld f = ((s.intervalPast x).setMeets x).want f :=
    State.fld_forEach_take (updateFlds x) _ (by cases x <;> decide) (by cases x <;> decide) f hf
  rw [State.updateBegin, hshow.keep_fld hfam, State.nextInterval, State.modTb_fld, htake, State.want_of_shadow hearly.keep_shadow]

/-- The other fields of PW.CTRL stand. -/
theorem State.fld_updateBegin_ctrl (s : State) (x : Axis) (peak : Bool) (f : Fld) (hf : f ∈ [F.PW_CTRL_CARRIER x, F.PW_CTRL_UPD x]) :
    (s.updateBegin x peak).fld f = s.fld f := by
  have hreg : f.reg = A.PW_CTRL x := by revert f; cases x <;> decide
  have hearly : Fr 0x6000000000000001800000000186000 s ((s.intervalPast x).setMeets x) :=
    State.setMeets_fr (State.intervalPast_fr (Fr.refl _ _))
  have hshow := State.fwShow_fr (κ := fwReach) (x := x) (Fr.refl _ (((s.intervalPast x).setMeets x).nextInterval x peak))
  have htake : (((s.intervalPast x).setMeets x).takeUpdate x).fld f = ((s.intervalPast x).setMeets x).fld f :=
    State.fld_forEach_take_apart (updateFlds x) _ f (by revert f; cases x <;> decide)
  rw [State.updateBegin, hshow.keep_fld (by rw [hreg, A.PW_CTRL_fam]; decide), State.nextInterval, State.modTb_fld, htake,
    hearly.keep_fld (by rw [hreg, A.PW_CTRL_fam]; decide)]

theorem State.saw_period_updateBegin (s : State) (x : Axis) (peak : Bool) :
    (s.updateBegin x peak).saw x = s.saw x ∧ (s.updateBegin x peak).period x = s.period x := by
  obtain ⟨c, p, htb⟩ := s.tb_updateBegin x peak
  refine ⟨by rw [State.saw, State.flag, s.fld_updateBegin_ctrl x peak _ (by simp)]; rfl, ?_⟩
  rw [State.period, htb, (s.updateBegin_fr x peak).keep_fld (by rw [F.PW_PERIOD_EFF_TICKS, A.PW_PERIOD_EFF_fam]; decide)]
  rfl

theorem State.bridgeOn_updateBegin (s : State) (x : Axis) (peak : Bool) : (s.updateBegin x peak).bridgeOn x = s.bridgeOn x := by
  have hfr := s.updateBegin_fr x peak
  have hbefore : Fr 0x600000000000000d900000000186000 s (((s.intervalPast x).setMeets x).nextInterval x peak) :=
    State.nextInterval_fr (State.setMeets_fr (State.intervalPast_fr (Fr.refl _ _)))
  have hstate : (s.updateBegin x peak).axState x = s.axState x := by
    refine Eq.trans ?_ (hbefore.keep_fld (by rw [F.MC_STATE_STATE, A.MC_STATE_fam]; decide))
    rw [State.updateBegin, State.fwShow]
    split
    next => rfl
    next =>
      rw [State.axState, State.fld_set_apart _ _ rfl (by cases x <;> rfl), State.fld_set_apart _ _ rfl (by cases x <;> rfl)]
  have hsafe : (s.updateBegin x peak).fld (F.TR_SAFE_STAT_STATE x) = s.fld (F.TR_SAFE_STAT_STATE x) :=
    hfr.keep_fld (by rw [F.TR_SAFE_STAT_STATE_fam]; decide)
  simp only [State.bridgeOn, hstate, hsafe]

/-! #### The record (R163 to R165) -/

/-- The window of the last 256 update instants with this one. -/
def Tb.winWith (t : Tb) (missed : Bool) : List Bool := (missed :: t.win).take 256

/-- The window and its count. -/
def State.missWindow (s : State) (x : Axis) (missed : Bool) : State :=
  (s.modTb x (fun t => { t with win := (s.tb x).winWith missed })).set (F.HB_MISS_IN_WIN x)
    (min 255 (((s.tb x).winWith missed).filter id).length)

/-- The counts of a miss. -/
def State.missCount (s : State) (x : Axis) : State :=
  (((s.missWindow x true).set (F.PW_STAT_MISSED x) 1).inc (F.HB_MISS_RUN x)).inc (F.HB_MISS_TOTAL x)

/-- The run or the window has reached its limit with the bridge enabled, and the cause is not present yet. -/
def State.missLimit (s : State) (x : Axis) (win : List Bool) : Bool :=
  s.bridgeOn x && !s.cause (scAxis x) 15 &&
    (decide (s.fld (missRunFld x) ≤ s.fld (F.HB_MISS_RUN x)) || decide (s.fld (missWinFld x) ≤ (win.filter id).length))

theorem State.missRecord_met (s : State) (x : Axis) :
    s.missRecord x false = ((s.missWindow x false).set (F.HB_MISS_RUN x) 0).setCause (scAxis x) 15 false := rfl

theorem State.missRecord_missed (s : State) (x : Axis) :
    s.missRecord x true =
      if (s.missCount x).missLimit x ((s.tb x).winWith true) then
        (s.missCount x).axisFaultOn x 15 0 ((s.missCount x).fld (F.HB_MISS_RUN x) + (s.missCount x).fld (F.HB_MISS_IN_WIN x) * 256)
      else s.missCount x := by
  rw [State.missRecord, if_pos rfl]
  rfl

theorem State.missCount_fr (s : State) (x : Axis) : Fr 0x80001000000180000 s (s.missCount x) :=
  State.inc_fr (State.inc_fr (State.set_fr (State.set_fr (State.modTb_fr (Fr.refl _ _)))))

theorem State.missRecord_met_fr (s : State) (x : Axis) :
    Fr 0x100000000000000000000000000000000000000000000001000000180000 s (s.missRecord x false) := by
  rw [State.missRecord_met]
  exact State.setCause_fr (State.set_fr (State.set_fr (State.modTb_fr (Fr.refl _ _))))

theorem State.tb_missRecord (s : State) (x : Axis) (missed : Bool) :
    (s.missRecord x missed).tb x = { s.tb x with win := (s.tb x).winWith missed } := by
  have hset (u : State) (f : Fld) (v : Nat) : (u.set f v).tb x = u.tb x := State.tb_set ..
  cases missed with
  | false =>
    rw [State.missRecord_met]
    simp only [State.setCause, State.setBit, State.missWindow, hset, State.tb_modTb]
  | true =>
    have hcount : (s.missCount x).tb x = { s.tb x with win := (s.tb x).winWith true } := by
      simp only [State.missCount, State.missWindow, State.inc, State.incBy, hset, State.tb_modTb]
    rw [State.missRecord_missed]
    split
    next => rw [Fr.keep_tb (State.axisFaultOn_fr (κ := axisFaultReach) (Fr.refl _ _)) x, hcount]
    next => exact hcount

theorem State.link_missRecord (s : State) (x : Axis) (missed : Bool) : (s.missRecord x missed).link x = s.link x := by
  cases missed with
  | false => exact (s.missRecord_met_fr x).keep_link x
  | true =>
    rw [State.missRecord_missed]
    split
    next => rw [State.link_axisFaultOn]; exact (s.missCount_fr x).keep_link x
    next => exact (s.missCount_fr x).keep_link x

/-- R163: an update instant that is met ends the run and its cause. -/
theorem State.missRecord_met_vals (s : State) (x : Axis) :
    (s.missRecord x false).fld (F.HB_MISS_RUN x) = 0 ∧ (s.missRecord x false).cause (scAxis x) 15 = false ∧
      (s.missRecord x false).fld (F.HB_MISS_TOTAL x) = s.fld (F.HB_MISS_TOTAL x) := by
  have hcause (u : State) (f : Fld) (hf : f.reg = A.HB_MISS x) : (u.setCause (scAxis x) 15 false).fld f = u.fld f :=
    (State.setCause_fr (κ := 0x100000000000000000000000000000000000000000000000000000000000) (Fr.refl _ _)).keep_fld
      (by rw [hf, A.HB_MISS_fam]; decide)
  rw [State.missRecord_met, hcause _ _ rfl, hcause _ _ rfl, State.fld_set_of_lt _ _ _ rfl (by cases x <;> decide), State.cause_setCause,
    State.fld_set_apart _ _ rfl (by cases x <;> rfl), State.missWindow, State.fld_set_apart _ _ rfl (by cases x <;> rfl)]
  exact ⟨rfl, rfl, State.modTb_fld _ _ _ _⟩

theorem State.missCount_vals (s : State) (x : Axis) :
    (s.missCount x).fld (F.PW_STAT_MISSED x) = 1 ∧
      (s.missCount x).fld (F.HB_MISS_RUN x) = min 15 (s.fld (F.HB_MISS_RUN x) + 1) ∧
      (s.missCount x).fld (F.HB_MISS_TOTAL x) = min 0xFFFF (s.fld (F.HB_MISS_TOTAL x) + 1) := by
  have hrun (u : State) : (u.inc (F.HB_MISS_RUN x)).fld (F.HB_MISS_RUN x) = min 15 (u.fld (F.HB_MISS_RUN x) + 1) :=
    State.fld_set_of_lt _ _ _ rfl (Nat.lt_of_le_of_lt (Nat.min_le_left _ _) (by cases x <;> decide))
  have htot (u : State) : (u.inc (F.HB_MISS_TOTAL x)).fld (F.HB_MISS_TOTAL x) = min 0xFFFF (u.fld (F.HB_MISS_TOTAL x) + 1) :=
    State.fld_set_of_lt _ _ _ rfl (Nat.lt_of_le_of_lt (Nat.min_le_left _ _) (by cases x <;> decide))
  have hinc (u : State) {f g : Fld} (hf : f.ok = true) (h : f.apart g = true) : (u.inc f).fld g = u.fld g :=
    State.fld_set_apart _ _ hf h
  have hwin (f : Fld) (h : (F.HB_MISS_IN_WIN x).apart f = true) : (s.missWindow x true).fld f = s.fld f :=
    (State.fld_set_apart _ _ rfl h).trans (State.modTb_fld _ _ _ _)
  refine ⟨?_, ?_, ?_⟩
  · rw [State.missCount, hinc _ rfl (by cases x <;> rfl), hinc _ rfl (by cases x <;> rfl),
      State.fld_set_of_lt _ _ _ rfl (by cases x <;> decide)]
  · rw [State.missCount, hinc _ rfl (by cases x <;> rfl), hrun, State.fld_set_apart _ _ rfl (by cases x <;> rfl),
      hwin _ (by cases x <;> rfl)]
  · rw [State.missCount, htot, hinc _ rfl (by cases x <;> rfl), State.fld_set_apart _ _ rfl (by cases x <;> rfl),
      hwin _ (by cases x <;> rfl)]

/-- A fault of the limit leaves the counts. -/
theorem State.fld_missRecord_missed (s : State) (x : Axis) (f : Fld) (hf : axisFaultReach.testBit (32 + fam f.reg) = false) :
    (s.missRecord x true).fld f = (s.missCount x).fld f := by
  rw [State.missRecord_missed]
  split
  next => exact (State.axisFaultOn_fr (κ := axisFaultReach) (Fr.refl _ _)).keep_fld hf
  next => rfl

end Sys2Proof.Machine

namespace Sys2Proof.Machine

set_option Elab.async false

/-! #### The values in force (R184) -/

/-- The threshold of R184 in sub-ticks. -/
def State.minThr (s : State) (x : Axis) : Nat := s.fld (F.PW_MINPULSE_TICKS x) * (if s.saw x then 16 else 8)

/-- The values of CMP as the interval uses them. -/
def State.cmpUsed (s : State) (x : Axis) : List Nat :=
  (List.range 3).map (fun p => minPulse (s.fullScale x (s.period x)) (s.minThr x)
    (min (s.fullScale x (s.period x)) (s.fld (F.PW_CMP_D x p))) (s.flag (F.PW_CTRL_MINP_POL x)))

/-- What a phase whose value was corrected leaves in the registers. -/
def State.minpCount (s : State) (x : Axis) : State := ((s.set (F.PW_STAT_MINP x) 1).inc (F.PW_CNT_MINP x)).evx x 19

theorem State.tb_minpCount (s : State) (x y : Axis) : (s.minpCount x).tb y = s.tb y :=
  Fr.keep_tb (State.evx_fr (κ := 0x2c01000000000800000004000000000000000000000000000000000180002400002018400)
    (State.inc_fr (State.set_fr (Fr.refl _ s)))) y

theorem State.fld_minpCount_missed (s : State) (x : Axis) :
    (s.minpCount x).fld (F.PW_STAT_MISSED x) = s.fld (F.PW_STAT_MISSED x) := by
  have hev := State.evx_fr (κ := eventReach) (x := x) (o := 19)
    (Fr.refl _ ((s.set (F.PW_STAT_MINP x) 1).inc (F.PW_CNT_MINP x)))
  rw [State.minpCount, hev.keep_fld (by cases x <;> decide), State.inc, State.incBy, State.fld_set_apart _ _ rfl (by cases x <;> rfl),
    State.fld_set_apart _ _ rfl (by cases x <;> rfl)]

/-- What a state and its alternative agree on, the choice between them keeps. -/
theorem State.ite_keeps {β : Type} (p : State → β) (c : Prop) [Decidable c] (u v : State) (h : p v = p u) :
    p (if c then u else v) = p u := by
  split
  · rfl
  · exact h

theorem State.tb_useSet (s : State) (x : Axis) :
    (s.useSet x).tb x = { s.tb x with cur := { (s.tb x).cur with d := s.cmpUsed x } } := by
  refine (State.forEach_keeps (·.tb x) _ (fun u p => State.ite_keeps (·.tb x) _ u _ (u.tb_minpCount x x)) _ _).trans ?_
  simp only [State.tb_modTb, List.map_map]
  rfl

theorem State.fld_useSet_missed (s : State) (x : Axis) : (s.useSet x).fld (F.PW_STAT_MISSED x) = s.fld (F.PW_STAT_MISSED x) :=
  (State.forEach_keeps (·.fld (F.PW_STAT_MISSED x)) _
    (fun u _ => State.ite_keeps (·.fld (F.PW_STAT_MISSED x)) _ u _ (u.fld_minpCount_missed x)) _ _).trans (State.modTb_fld _ _ _ _)

theorem State.useSet_keeps (s : State) (x : Axis) :
    Fr 0x2c01000000000800000004000000000000000000000000000000000180002400002198400 s (s.useSet x) := State.useSet_fr (Fr.refl _ _)

/-! #### The end (R444) -/

theorem State.updateEnd_fr (s : State) (x : Axis) : Fr 0x18021400000000000000000000000000000000000000000000801e0000 s (s.updateEnd x) :=
  State.markInterval_fr (State.refresh_fr (State.bandShift_fr (State.edgesClose_fr (Fr.refl _ _))))

/-- The entries of the interval that ends are complete, and the next ones start empty. -/
theorem State.link_updateEnd (s : State) (x : Axis) :
    (s.updateEnd x).link x = (List.replicate 12 0, (s.tr x).edges, false, (s.tr x).linkErr) := by
  have hmark (u : State) : (u.markInterval x).link x = u.link x := (State.markInterval_fr (κ := 0x180000) (Fr.refl _ _)).keep_link x
  rw [State.updateEnd, hmark, State.link_refresh, State.link_bandShift, State.link, State.edgesClose, State.tr_modTr]
  rfl

/-- Of the timebase only what the interval is changes, and its compare values stand. -/
theorem State.tb_updateEnd (s : State) (x : Axis) :
    ∃ c : Ival, c.d = (s.tb x).cur.d ∧ (s.updateEnd x).tb x = { s.tb x with cur := c } := by
  have hbefore : (((s.edgesClose x).bandShift x).refresh x (s.stayOn x) (s.interval x (s.period x))).tb x = s.tb x :=
    Fr.keep_tb (State.refresh_fr (κ := 0x1802140000000000000000000000000000000000000000000080060000)
      (State.bandShift_fr (State.edgesClose_fr (Fr.refl _ _)))) x
  rw [State.updateEnd, State.markInterval, State.tb_modTb, hbefore]
  exact ⟨_, by dsimp only, rfl⟩

end Sys2Proof.Machine

namespace Sys2Proof.Machine

set_option Elab.async false

/-! #### The whole instant -/

theorem State.fullScale_congr {s t : State} (x : Axis) (h : t.saw x = s.saw x) (n : Nat) : t.fullScale x n = s.fullScale x n := by
  rw [State.fullScale, State.fullScale, h]

/-- R184: the values in force are those of CMP with the threshold and the treatment that table 6.5 lets take effect. -/
theorem State.cmpUsed_missRecord (s : State) (x : Axis) (peak missed : Bool) :
    ((s.updateBegin x peak).missRecord x missed).cmpUsed x = (List.range 3).map (fun p => minPulse (s.fullScale x (s.period x))
      (s.want (F.PW_MINPULSE_TICKS x) * (if s.saw x then 16 else 8))
      (min (s.fullScale x (s.period x)) (((s.updateBegin x peak).missRecord x missed).fld (F.PW_CMP_D x p)))
      (s.want (F.PW_CTRL_MINP_POL x) == 1)) := by
  obtain ⟨hsaw0, hper0⟩ := s.saw_period_updateBegin x peak
  have hfr := State.missRecord_fr (κ := recordReach)
    (x := x) (missed := missed) (Fr.refl _ (s.updateBegin x peak))
  have hsaw : ((s.updateBegin x peak).missRecord x missed).saw x = s.saw x := by
    rw [← hsaw0, State.saw, State.flag, hfr.keep_fld (by cases x <;> decide)]; rfl
  have hper : ((s.updateBegin x peak).missRecord x missed).period x = s.period x := by
    rw [← hper0, State.period, hfr.keep_fld (by cases x <;> decide), State.tb_missRecord]; rfl
  have hthr : ((s.updateBegin x peak).missRecord x missed).fld (F.PW_MINPULSE_TICKS x) = s.want (F.PW_MINPULSE_TICKS x) := by
    rw [hfr.keep_fld (by cases x <;> decide), s.fld_updateBegin_take x peak _ (by simp [updateFlds])]
  have hpol : ((s.updateBegin x peak).missRecord x missed).flag (F.PW_CTRL_MINP_POL x) = (s.want (F.PW_CTRL_MINP_POL x) == 1) := by
    rw [State.flag, hfr.keep_fld (by cases x <;> decide), s.fld_updateBegin_take x peak _ (by simp [updateFlds])]
  simp only [State.cmpUsed, State.minThr, State.fullScale_congr x hsaw, hper, hthr, hpol, hsaw]

/-- After the record only other registers move. -/
theorem State.updateEnd_useSet_fr (s : State) (x : Axis) :
    Fr 0x2c010000000008018021440000000000000000000000000000000001800024000821f8400 s ((s.useSet x).updateEnd x) :=
  ((s.useSet_keeps x).mono (by decide)).trans (((s.useSet x).updateEnd_fr x).mono (by decide))

/-- The registers that the instant leaves as the record has them. -/
theorem State.fld_updateEnd_useSet (s : State) (x : Axis) (f : Fld)
    (hf : f.reg ∈ [A.HB_MISS x, A.PW_CMP x 0, A.PW_CMP x 1, A.PW_CMP x 2]) :
    ((s.useSet x).updateEnd x).fld f = s.fld f :=
  (s.updateEnd_useSet_fr x).keep_fld (by generalize f.reg = a at hf ⊢; revert a; cases x <;> decide)

theorem State.bridgeOn_missCount (s : State) (x : Axis) : (s.missCount x).bridgeOn x = s.bridgeOn x := by
  have hstate : (s.missCount x).axState x = s.axState x :=
    (s.missCount_fr x).keep_fld (by rw [F.MC_STATE_STATE, A.MC_STATE_fam]; decide)
  have hsafe : (s.missCount x).fld (F.TR_SAFE_STAT_STATE x) = s.fld (F.TR_SAFE_STAT_STATE x) :=
    (s.missCount_fr x).keep_fld (by rw [F.TR_SAFE_STAT_STATE_fam]; decide)
  simp only [State.bridgeOn, hstate, hsafe]

theorem State.missLimit_iff (s : State) (x : Axis) (win : List Bool) :
    s.missLimit x win = true ↔ s.bridgeOn x = true ∧ s.cause (scAxis x) 15 = false ∧
      (s.fld (missRunFld x) ≤ s.fld (F.HB_MISS_RUN x) ∨ s.fld (missWinFld x) ≤ (win.filter id).length) := by
  simp only [State.missLimit, Bool.and_eq_true, Bool.not_eq_true', Bool.or_eq_true, decide_eq_true_eq, and_assoc]

/-- R163 to R165: a miss whose limit is reached raises code 15. -/
theorem State.missLimit_updateBegin (s : State) (x : Axis) (peak : Bool) (hon : s.bridgeOn x = true)
    (hcause : s.cause (scAxis x) 15 = false)
    (hlim : s.fld (missRunFld x) ≤ min 15 (s.fld (F.HB_MISS_RUN x) + 1) ∨
      s.fld (missWinFld x) ≤ (((true :: (s.tb x).win).take 256).filter id).length) :
    ((s.updateBegin x peak).missCount x).missLimit x (((s.updateBegin x peak).tb x).winWith true) = true := by
  have hcount := (s.updateBegin x peak).missCount_fr x
  have hfr : Fr 0x10601000000000008d901000000186000 s ((s.updateBegin x peak).missCount x) :=
    ((s.updateBegin_fr x peak).mono (by decide)).trans (hcount.mono (by decide))
  have hrun : ((s.updateBegin x peak).missCount x).fld (F.HB_MISS_RUN x) = min 15 (s.fld (F.HB_MISS_RUN x) + 1) := by
    obtain ⟨-, hrun, -⟩ := (s.updateBegin x peak).missCount_vals x
    rw [hrun, (s.updateBegin_fr x peak).keep_fld (by cases x <;> decide)]
  have hwin : ((s.updateBegin x peak).tb x).winWith true = (true :: (s.tb x).win).take 256 := by
    obtain ⟨c, p, htb⟩ := s.tb_updateBegin x peak
    rw [htb, Tb.winWith]
  have hcfg : ∀ f ∈ [missRunFld x, missWinFld x], ((s.updateBegin x peak).missCount x).fld f = s.fld f := fun f hf =>
    hfr.keep_fld (by revert f; cases x <;> decide)
  rw [State.missLimit_iff, State.bridgeOn_missCount, s.bridgeOn_updateBegin, hon, State.cause_of_fr hfr (by decide), hcause, hrun, hwin,
    hcfg _ (by simp), hcfg _ (by simp)]
  exact ⟨rfl, rfl, hlim⟩

/-- R15, R181: the values of a set that has arrived. -/
theorem State.update_met (s : State) (x : Axis) (peak : Bool) (h : (s.tb x).setOk = true) :
    let t := (((s.updateBegin x peak).missRecord x false).useSet x).updateEnd x
    (∀ p, p < 3 → t.fld (F.PW_CMP_D x p) = s.want (F.PW_CMP_D x p)) ∧
      t.rd (A.PW_SIX x) = s.rdSh (A.PW_SIX x) ∧ t.fld (F.HB_MISS_RUN x) = 0 ∧ t.cause (scAxis x) 15 = false ∧
      t.fld (F.HB_MISS_TOTAL x) = s.fld (F.HB_MISS_TOTAL x) := by
  have hrec := (s.updateBegin x peak).missRecord_met_fr x
  have hend := ((s.updateBegin x peak).missRecord x false).updateEnd_useSet_fr x
  obtain ⟨hcmp, hsix⟩ := s.updateBegin_met x peak h
  obtain ⟨hrun, hcause, htot⟩ := (s.updateBegin x peak).missRecord_met_vals x
  refine ⟨fun p hp => ?_, ?_, ?_, ?_, ?_⟩
  · rw [hend.keep_fld (by rw [F.PW_CMP_D, A.PW_CMP_fam]; decide), hrec.keep_fld (by rw [F.PW_CMP_D, A.PW_CMP_fam]; decide), hcmp p hp]
  · rw [hend.keep_rd (by cases x <;> decide), hrec.keep_rd (by cases x <;> decide), hsix]
  · rw [State.fld_updateEnd_useSet _ _ _ (by simp [F.HB_MISS_RUN]), hrun]
  · rw [State.cause_of_fr hend (by decide), hcause]
  · rw [State.fld_updateEnd_useSet _ _ _ (by simp [F.HB_MISS_TOTAL]), htot, (s.updateBegin_fr x peak).keep_fld (by cases x <;> decide)]

/-- R16, R163 to R165: a miss keeps the values, is counted, and raises code 15 at its limit. -/
theorem State.update_missed (s : State) (x : Axis) (peak : Bool) (h : (s.tb x).setOk = false) (hrunning : s.isRunning = true) :
    let t := (((s.updateBegin x peak).missRecord x true).useSet x).updateEnd x
    (∀ p, p < 3 → t.rd (A.PW_CMP x p) = s.rd (A.PW_CMP x p)) ∧
      t.rd (A.PW_SIX x) = s.rd (A.PW_SIX x) ∧ t.fld (F.PW_STAT_MISSED x) = 1 ∧
      t.fld (F.HB_MISS_RUN x) = min 15 (s.fld (F.HB_MISS_RUN x) + 1) ∧
      t.fld (F.HB_MISS_TOTAL x) = min 0xFFFF (s.fld (F.HB_MISS_TOTAL x) + 1) ∧
      (s.bridgeOn x = true → s.cause (scAxis x) 15 = false →
        s.fld (missRunFld x) ≤ min 15 (s.fld (F.HB_MISS_RUN x) + 1) ∨
          s.fld (missWinFld x) ≤ (((true :: (s.tb x).win).take 256).filter id).length →
        t.stat (scAxis x) 15 = true ∧ t.cause (scAxis x) 15 = true) := by
  have hbegin := s.updateBegin_fr x peak
  have hrec := State.missRecord_fr (κ := recordReach)
    (x := x) (missed := true) (Fr.refl _ (s.updateBegin x peak))
  have hlast := (((s.updateBegin x peak).missRecord x true).useSet x).updateEnd_fr x
  have hend := ((s.updateBegin x peak).missRecord x true).updateEnd_useSet_fr x
  have hfld := (s.updateBegin x peak).fld_missRecord_missed x
  obtain ⟨hcmp, hsix⟩ := s.updateBegin_kept x peak h
  obtain ⟨hmissed, hrun, htot⟩ := (s.updateBegin x peak).missCount_vals x
  refine ⟨fun p _ => ?_, ?_, ?_, ?_, ?_, fun hon hcause hlim => ?_⟩
  · rw [hend.keep_rd (by rw [A.PW_CMP_fam]; decide), hrec.keep_rd (by rw [A.PW_CMP_fam]; decide), hcmp]
  · rw [hend.keep_rd (by cases x <;> decide), hrec.keep_rd (by cases x <;> decide), hsix]
  · rw [hlast.keep_fld (by cases x <;> decide), State.fld_useSet_missed, hfld _ (by cases x <;> decide), hmissed]
  · rw [State.fld_updateEnd_useSet _ _ _ (by simp [F.HB_MISS_RUN]), hfld _ (by cases x <;> decide), hrun,
      hbegin.keep_fld (by cases x <;> decide)]
  · rw [State.fld_updateEnd_useSet _ _ _ (by simp [F.HB_MISS_TOTAL]), hfld _ (by cases x <;> decide), htot,
      hbegin.keep_fld (by cases x <;> decide)]
  · have hfault := (s.updateBegin x peak).missRecord_missed x
    rw [if_pos (s.missLimit_updateBegin x peak hon hcause hlim)] at hfault
    have hrun' : ((s.updateBegin x peak).missCount x).isRunning = true := by
      have hcount : Fr 0x10601000000000008d901000000186000 s ((s.updateBegin x peak).missCount x) :=
        (hbegin.mono (by decide)).trans (((s.updateBegin x peak).missCount_fr x).mono (by decide))
      rw [← hrunning, State.isRunning, State.isUp, hcount.keep_die, hcount.keep_fld (by decide)]; rfl
    obtain ⟨hstat, hset⟩ := State.stat_axisFaultOn _ x 15 0 _ hrun' (by decide) (by decide)
    rw [State.stat_of_fr hend (by decide), State.cause_of_fr hend (by decide), hfault]
    exact ⟨hstat, hset⟩

/-- R444 and the timebase: what every update instant does. -/
theorem State.update_always (s : State) (x : Axis) (peak missed : Bool) :
    let t := (((s.updateBegin x peak).missRecord x missed).useSet x).updateEnd x
    (t.tb x).setOk = false ∧ (t.tb x).upd = (s.tb x).upd + 1 ∧ (t.tb x).down = peak ∧
      t.link x = (List.replicate 12 0, (s.tr x).edges, false, (s.tr x).linkErr) ∧
      (t.tb x).cur.d = ((s.updateBegin x peak).missRecord x missed).cmpUsed x := by
  obtain ⟨c, p, htb⟩ := s.tb_updateBegin x peak
  obtain ⟨d, hd, hend⟩ := (((s.updateBegin x peak).missRecord x missed).useSet x).tb_updateEnd x
  have hlink : (((s.updateBegin x peak).missRecord x missed).useSet x).link x = s.link x := by
    rw [(State.useSet_keeps _ x).keep_link x, State.link_missRecord, (s.updateBegin_fr x peak).keep_link x]
  obtain ⟨hedges, -, herr, -⟩ : _ ∧ _ ∧ _ ∧ _ := by simpa only [State.link, Tr.link, Prod.mk.injEq] using hlink
  rw [State.tb_useSet, State.tb_missRecord, htb] at hend hd
  refine ⟨by rw [hend], by rw [hend], by rw [hend], ?_, by rw [hend]; exact hd⟩
  rw [State.link_updateEnd, hedges, herr]

/-- Settles O17: an update instant takes the set that has arrived or records the miss. -/
theorem updateInstantTakesTheSetOrKeepsThePrevious : Obligations.UpdateInstantTakesTheSetOrKeepsThePrevious := by
  intro s x peak
  refine ⟨fun h => by rw [exec_updateInstant, if_neg (by simp [h])], fun hcounts hpeak => ?_⟩
  rw [exec_updateInstant, if_pos ⟨hcounts, hpeak⟩]
  refine ⟨_, rfl, ?_⟩
  have hrunning : s.isRunning = true := by
    simp only [State.counts, Bool.and_eq_true] at hcounts
    exact hcounts.1.1
  have hok : ((s.intervalPast x).tb x).setOk = (s.tb x).setOk := by rw [s.tb_intervalPast]
  obtain ⟨hset, hupd, hdown, hlink, hd⟩ := s.update_always x peak (!((s.intervalPast x).tb x).setOk)
  obtain ⟨hedges, hold, herr, herrEnd⟩ : _ ∧ _ ∧ _ ∧ _ := by simpa only [State.link, Tr.link, Prod.mk.injEq] using hlink
  refine ⟨hset, hupd, hdown, hold, herrEnd, hedges, herr, ?_, fun h => ?_, fun h => ?_⟩
  · rw [hd, s.cmpUsed_missRecord x peak]
    refine List.map_congr_left fun p hp => ?_
    rw [State.fld_updateEnd_useSet _ _ _ (by
      have : p < 3 := List.mem_range.1 hp
      interval_cases p <;> simp [F.PW_CMP_D])]
  · rw [hok, h]; exact s.update_met x peak h
  · rw [hok, h]; exact s.update_missed x peak h hrunning

end Sys2Proof.Machine

namespace Sys2Proof.Machine

set_option Elab.async false

/-! ### Lists of the model as the library's -/

theorem setNth_eq_set {α : Type} (l : List α) (n : Nat) (v : α) : setNth l n v = l.set n v := by
  induction l generalizing n with
  | nil => rfl
  | cons x r ih =>
    cases n with
    | zero => rfl
    | succ n => exact congrArg (x :: ·) (ih n)

/-- A loop none of whose steps does anything. -/
theorem State.forEach_id {α : Type} (f : State → α → State) (s : State) (h : ∀ a, f s a = s) (l : List α) : s.forEach l f = s := by
  induction l with
  | nil => rfl
  | cons a r ih => exact (congrArg (State.forEach · r f) (h a)).trans ih

end Sys2Proof.Machine

namespace Sys2Proof.Machine

set_option Elab.async false

/-- What a checked access of memory reaches, where it finds an error. -/
abbrev accessReach : Nat := 0xc3c03000008004bc1c0004600000000020400000000000000000000000001a4180aa07f5e0

/-- What a store into memory with good check bits reaches: memory, its check bits and their causes. -/
abbrev storeReach : Nat := 0x1000000000000000000000000000000000000000000000000000000001e0

/-! ### A write into memory whose check bits are good (R133, R134) -/

/-- No word of memory holds an error. -/
def State.eccGood (s : State) : Prop := s.ecc1 = [] ∧ s.ecc2 = []

theorem State.checkWord32_good {s : State} (h : s.eccGood) (ch : Option Nat) (w : Nat) : s.checkWord32 ch w = (true, s) := by
  rw [State.checkWord32, h.1, h.2]; rfl

theorem State.eccGood_set {s : State} (h : s.eccGood) (f : Fld) (v : Nat) : (s.set f v).eccGood :=
  ⟨(State.set_ecc1 s f v).trans h.1, (State.set_ecc2 s f v).trans h.2⟩

theorem State.eccGood_eccClear {s : State} (h : s.eccGood) (w : Nat) : (s.eccClear w).eccGood := by
  have hstep {β : Type} (p : State → β) (hp : ∀ t sc code, p (t.setCause sc code false) = p t) (t : State) (e : Nat × Nat × Nat) :
      p (if t.found.any (fun q => q.2 == e.2) then t else t.setCause e.2.2 e.2.1 false) = p t :=
    State.ite_keeps p _ t _ (hp t _ _)
  refine ⟨(State.forEach_keeps (·.ecc1) _ (hstep (·.ecc1) fun _ _ _ => rfl) _ _).trans ?_,
    (State.forEach_keeps (·.ecc2) _ (hstep (·.ecc2) fun _ _ _ => rfl) _ _).trans ?_⟩
  · show s.ecc1.filter _ = []
    rw [h.1]; rfl
  · show s.ecc2.filter _ = []
    rw [h.2]; rfl

/-- Such a write stores its bytes; what else it moves are the marks of check bits and their causes. -/
theorem State.writeLine_good {s : State} (h : s.eccGood) (ch : Option Nat) (a : Nat) (bs : List Byte) :
    ∃ u, s.writeLine ch a bs = (true, u.setBytes a bs) ∧ u.eccGood ∧ u.mem = s.mem ∧
      Fr storeReach s u := by
  simp only [State.writeLine, State.checkWord32_good h]
  split
  next => exact ⟨s.eccClear (lineOf a), rfl, State.eccGood_eccClear h _,
    (State.eccClear_fr (κ := 0x1000000000000000000000000000000000000000000000000000000001c0) (Fr.refl _ s)).keep_mem,
    State.eccClear_fr (Fr.refl _ s)⟩
  next => exact ⟨s, rfl, h, rfl, Fr.refl _ _⟩

theorem State.eccGood_setBytes {s : State} (h : s.eccGood) (a : Nat) (bs : List Byte) : (s.setBytes a bs).eccGood := by
  have hfr : Fr 0x20 s (s.setBytes a bs) := State.setBytes_fr (Fr.refl _ _)
  exact ⟨hfr.keep_ecc1.trans h.1, hfr.keep_ecc2.trans h.2⟩

theorem State.byte_of_mem {s t : State} (h : t.mem = s.mem) (b : Nat) : t.byte b = s.byte b := by rw [State.byte, h]; rfl

theorem State.bytes_of_mem {s t : State} (h : t.mem = s.mem) (a n : Nat) : t.bytes a n = s.bytes a n := by
  induction n generalizing a with
  | zero => rfl
  | succ n ih => rw [State.bytes, State.bytes, State.byte_of_mem h, ih]

@[simp] theorem State.length_bytes (s : State) (a n : Nat) : (s.bytes a n).length = n := by
  induction n generalizing a with
  | zero => rfl
  | succ n ih => rw [State.bytes, List.length_cons, ih]

/-- A span reads as the list whose bytes stand in it. -/
theorem State.bytes_eq (s : State) (a : Nat) (l : List Byte) (h : ∀ i (hi : i < l.length), s.byte (a + i) = l[i]) :
    s.bytes a l.length = l := by
  induction l generalizing a with
  | nil => rfl
  | cons b r ih =>
    have hfirst : s.byte a = b := h 0 (Nat.succ_pos _)
    rw [List.length_cons, State.bytes, hfirst, ih (a + 1) fun i hi => ?_]
    rw [Nat.add_assoc, Nat.add_comm 1 i]; exact h (i + 1) (Nat.succ_lt_succ hi)

/-- What of a write lies in one word. -/
def lineStep (a : Nat) (bs : List Byte) (s : State) (w : Nat) : State :=
  (s.writeLine none (max a w) ((bs.drop (max a w - a)).take (w + 32 - max a w))).2

/-- A word's part of a write leaves a byte of the span as it was or gives it its value; the latter where it lies in the word. -/
theorem State.lineStep_byte {s : State} (h : s.eccGood) (a i w : Nat) (bs : List Byte) (hi : i < bs.length) :
    ((lineStep a bs s w).byte (a + i) = bs[i] ∨ (lineStep a bs s w).byte (a + i) = s.byte (a + i)) ∧
      (w ≤ a + i → a + i < w + 32 → (lineStep a bs s w).byte (a + i) = bs[i]) := by
  obtain ⟨u, hu, -, hmem, -⟩ := State.writeLine_good h none (max a w) ((bs.drop (max a w - a)).take (w + 32 - max a w))
  rw [lineStep, hu]
  by_cases hin : max a w ≤ a + i ∧ a + i < w + 32
  · have hbyte := u.byte_setBytes_in (max a w) (a + i - max a w) ((bs.drop (max a w - a)).take (w + 32 - max a w))
      (by rw [List.length_take, List.length_drop]; omega)
    rw [List.getElem_take, List.getElem_drop, Nat.add_sub_cancel' hin.1] at hbyte
    have hval : (u.setBytes (max a w) ((bs.drop (max a w - a)).take (w + 32 - max a w))).byte (a + i) = bs[i] := by
      rw [hbyte]; congr 1; omega
    exact ⟨Or.inl hval, fun _ _ => hval⟩
  · refine ⟨Or.inr ((u.byte_setBytes _ _ _ ?_).trans (State.byte_of_mem hmem _)), fun h1 h2 => absurd ⟨?_, h2⟩ hin⟩
    · rw [List.length_take, List.length_drop]; omega
    · omega

theorem State.lineStep_good {s : State} (h : s.eccGood) (a w : Nat) (bs : List Byte) :
    (lineStep a bs s w).eccGood ∧ Fr storeReach s (lineStep a bs s w) := by
  obtain ⟨u, hu, hgood, -, hfr⟩ := State.writeLine_good h none (max a w) ((bs.drop (max a w - a)).take (w + 32 - max a w))
  rw [lineStep, hu]
  exact ⟨State.eccGood_setBytes hgood _ _, State.setBytes_fr hfr⟩

/-- The words of a list of a write: their bytes are written, nothing but memory and its marks moves. -/
theorem State.writeLines {s : State} (h : s.eccGood) (a : Nat) (bs : List Byte) (l : List Nat) :
    Fr storeReach s (s.forEach l (lineStep a bs)) ∧
      ∀ i (hi : i < bs.length), (s.byte (a + i) = bs[i] ∨ ∃ w ∈ l, w ≤ a + i ∧ a + i < w + 32) →
        (s.forEach l (lineStep a bs)).byte (a + i) = bs[i] := by
  induction l generalizing s with
  | nil => exact ⟨Fr.refl _ _, fun i hi hor => hor.elim id (by simp)⟩
  | cons w r ih =>
    obtain ⟨hgood, hfr⟩ := State.lineStep_good h a w bs
    obtain ⟨hrest, hbytes⟩ := ih hgood
    refine ⟨hfr.trans hrest, fun i hi hor => hbytes i hi ?_⟩
    obtain ⟨hold, hnew⟩ := State.lineStep_byte h a i w bs hi
    rcases hor with hor | ⟨v, hv, hlo, hhi⟩
    · exact Or.inl (hold.elim id (·.trans hor))
    · rcases List.mem_cons.1 hv with rfl | hv
      · exact Or.inl (hnew hlo hhi)
      · exact Or.inr ⟨v, hv, hlo, hhi⟩

/-- Every address of a span lies in one of its words. -/
theorem mem_linesOf {a n i : Nat} (h : i < n) : ∃ w ∈ linesOf a n, w ≤ a + i ∧ a + i < w + 32 := by
  refine ⟨(a / 32 + ((a + i) / 32 - a / 32)) * 32, ?_, by omega, by omega⟩
  rw [linesOf, if_neg (by omega)]
  exact List.mem_map.2 ⟨(a + i) / 32 - a / 32, List.mem_range.2 (by omega), rfl⟩

/-- R131: with good check bits a write stores what it is given. -/
theorem State.writeOver_good {s : State} (h : s.eccGood) (a : Nat) (bs : List Byte) :
    (s.writeOver a bs).bytes a bs.length = bs ∧
      Fr storeReach s (s.writeOver a bs) := by
  obtain ⟨hfr, hbytes⟩ := State.writeLines h a bs (linesOf a bs.length)
  exact ⟨State.bytes_eq _ a bs fun i hi => hbytes i hi (Or.inr (mem_linesOf hi)), hfr⟩

end Sys2Proof.Machine

namespace Sys2Proof.Machine

set_option Elab.async false

/-! ### The swap of a section (R119) -/

/-- The runs of graphs that keep the old body. -/
def State.keepOld (s : State) (i : Nat) (c : Sect) : State :=
  let old := s.bytes c.base c.len
  s.modFab (fun b => { b with insts := b.insts.map (fun q =>
    if q.start = s.ticks ∨ q.bodies.any (fun e => e.1 == i) = true then q else { q with bodies := q.bodies ++ [(i, old)] }) })

/-- The other copy is active and the update is over. -/
def State.swapMark (s : State) (i : Nat) (c : Sect) : State :=
  let s := s.modImg (fun m => { m with sects := setNth m.sects i { c with copy1 := !c.copy1 } })
  ((s.set F.GH_SECT_STATUS_BUSY 0).set F.GH_SECT_UPD_GO 0).set F.GH_SECT_STATUS_RESULT 1

/-- What shows the settings of the section. -/
def State.swapShow (s : State) (c : Sect) : State :=
  match c.axis with
  | some x =>
    let s := if (c.typ == 3 || c.typ == 4) && s.axisOn x then s.serviceApply x else s
    (s.onlyIf (c.typ == 3) (fun s => s.sectShow x c.spare (c.len / 16))).pllShow x
  | none => (s.pllShow .a).pllShow .b

theorem State.sectSwap_some (s : State) (c : Sect) (h : s.img.sects[s.fld F.GH_SECT_STATUS_SECT]? = some c) :
    s.sectSwap = (((((s.keepOld (s.fld F.GH_SECT_STATUS_SECT) c).copyOver c.base c.spare c.len).swapMark
      (s.fld F.GH_SECT_STATUS_SECT) c).swapShow c).event 82) := by
  rw [State.sectSwap]
  simp only [h]
  rfl

theorem State.swapShow_fr (s : State) (c : Sect) : Fr 0x8000000e00000101e000e00000000000000000000000000018410 s (s.swapShow c) := by
  rw [State.swapShow]
  split
  next => exact State.pllShow_fr (Fr.onlyIf (Fr.ite (State.serviceApply_fr (Fr.refl _ _)) (Fr.refl _ _)) fun _ ht => State.sectShow_fr ht)
  next => exact State.pllShow_fr (State.pllShow_fr (Fr.refl _ _))

/-- The swap makes the copy active, ends the update and reports it. -/
theorem State.sectSwap_vals (s : State) (c : Sect) (h : s.img.sects[s.fld F.GH_SECT_STATUS_SECT]? = some c) :
    s.sectSwap.img.sects[s.fld F.GH_SECT_STATUS_SECT]? = some { c with copy1 := !c.copy1 } ∧
      s.sectSwap.fld F.GH_SECT_STATUS_BUSY = 0 ∧ s.sectSwap.fld F.GH_SECT_STATUS_RESULT = 1 ∧ s.sectSwap.pend 82 = true := by
  have hkeep : Fr accessReach s
      (s.keepOld (s.fld F.GH_SECT_STATUS_SECT) c) := by
    rw [State.keepOld]
    exact State.modFab_fr (Fr.refl _ _)
  have hcopy := State.copyOver_fr (dst := c.base) (src := c.spare) (n := c.len) hkeep
  rw [s.sectSwap_some c h]
  generalize (s.keepOld (s.fld F.GH_SECT_STATUS_SECT) c).copyOver c.base c.spare c.len = u at hcopy
  have hend : Fr 0x2c0100000000080000008400000e00000101e000e00000000000000000002400002018410 (u.swapMark (s.fld F.GH_SECT_STATUS_SECT) c)
      (((u.swapMark (s.fld F.GH_SECT_STATUS_SECT) c).swapShow c).event 82) :=
    State.event_fr ((State.swapShow_fr _ c).mono (by decide))
  obtain ⟨hlt, -⟩ := List.getElem?_eq_some_iff.1 h
  refine ⟨?_, ?_, ?_, State.pend_event _ 82 (by decide)⟩
  · rw [hend.keep_img]
    show (setNth u.img.sects _ _)[_]? = _
    rw [setNth_eq_set, hcopy.keep_img, List.getElem?_set_self hlt]
  · rw [hend.keep_fld (by decide), State.swapMark, State.fld_set_apart _ _ rfl rfl, State.fld_set_apart _ _ rfl rfl,
      State.fld_set_of_lt _ _ _ rfl (by decide)]
  · rw [hend.keep_fld (by decide), State.swapMark, State.fld_set_of_lt _ _ _ rfl (by decide)]

/-! ### The update of a section (R117, R118) -/

/-- The end of an update with its result and record. -/
def State.sectEnds (s : State) (r item : Nat) : State :=
  ((s.set F.GH_SECT_STATUS_RESULT r).set F.GH_SECT_STATUS_ITEM item).event 82

/-- An accepted body is in the inactive copy and the update is in progress. -/
def State.sectTaken (s : State) (c : Sect) (new : List Byte) : State :=
  (((s.writeOver c.spare new).set F.GH_SECT_STATUS_BUSY 1).set F.GH_SECT_UPD_GO 1).set F.GH_SECT_STATUS_ITEM 0

section
variable {s : State} (h : s.eccGood) (i : Nat) (c : Sect)
include h

/-- With good check bits no word of the two bodies is lost, and R118 judges what they hold. -/
theorem State.sectUpdate_good :
    s.sectUpdate i c =
      match stageFail c.typ (s.bytes c.base c.len) (s.bytes s.img.stageBase c.len) with
      | some (r, item) => (s.set F.GH_SECT_STATUS_SECT i).sectEnds r item
      | none =>
        let t := (s.set F.GH_SECT_STATUS_SECT i).sectTaken c (s.bytes s.img.stageBase c.len)
        match c.axis with
        | some x => if t.flag (F.PW_CTRL_EN x) then t else t.sectSwap
        | none => t.sectSwap := by
  have hgood : (s.set F.GH_SECT_STATUS_SECT i).eccGood := State.eccGood_set h _ _
  have hcheck (l : List Nat) :
      (s.set F.GH_SECT_STATUS_SECT i).forEach l (fun s w => (s.checkWord32 none w).2) = s.set F.GH_SECT_STATUS_SECT i :=
    State.forEach_id _ _ (fun w => by rw [State.checkWord32_good hgood]) l
  have hlost (l : List Nat) : l.filter (fun w => (s.set F.GH_SECT_STATUS_SECT i).ecc2.contains w) = [] := by
    rw [hgood.2]; simp
  have hbytes (a n : Nat) : (s.set F.GH_SECT_STATUS_SECT i).bytes a n = s.bytes a n := State.bytes_of_mem (State.set_mem ..) a n
  rw [State.sectUpdate]
  simp only [hcheck, hlost, hbytes, List.map_nil, List.append_nil, List.min?_nil, State.sectEnds, State.sectTaken]
  rcases stageFail c.typ (s.bytes c.base c.len) (s.bytes s.img.stageBase c.len) with _ | ⟨r, item⟩
  · cases c.axis <;> rfl
  · rfl

theorem State.sectUpdate_fails (r item : Nat)
    (hfail : stageFail c.typ (s.bytes c.base c.len) (s.bytes s.img.stageBase c.len) = some (r, item)) :
    s.sectUpdate i c = (s.set F.GH_SECT_STATUS_SECT i).sectEnds r item := by
  rw [State.sectUpdate_good h, hfail]

theorem State.sectUpdate_passes (hpass : stageFail c.typ (s.bytes c.base c.len) (s.bytes s.img.stageBase c.len) = none) :
    s.sectUpdate i c =
      let t := (s.set F.GH_SECT_STATUS_SECT i).sectTaken c (s.bytes s.img.stageBase c.len)
      if c.axis.any (fun x => t.flag (F.PW_CTRL_EN x)) then t else t.sectSwap := by
  rw [State.sectUpdate_good h, hpass]
  generalize (s.set F.GH_SECT_STATUS_SECT i).sectTaken c (s.bytes s.img.stageBase c.len) = t
  cases c.axis with
  | none => simp only [Option.any_none, Bool.false_eq_true, if_false]
  | some x => exact if_congr (by rw [Option.any_some]) rfl rfl

end

/-- What an accepted body leaves: the body in the inactive copy, no other section touched, the update in progress. -/
theorem State.sectTaken_vals {s : State} (h : s.eccGood) (c : Sect) (new : List Byte) :
    (s.sectTaken c new).bytes c.spare new.length = new ∧ (s.sectTaken c new).img = s.img ∧
      (s.sectTaken c new).fld F.GH_SECT_STATUS_BUSY = 1 ∧
      (s.sectTaken c new).fld F.GH_SECT_STATUS_SECT = s.fld F.GH_SECT_STATUS_SECT ∧
      ∀ x, (s.sectTaken c new).flag (F.PW_CTRL_EN x) = s.flag (F.PW_CTRL_EN x) := by
  obtain ⟨hbytes, hfr⟩ := State.writeOver_good h c.spare new
  have hset : Fr 0x18000000000 (s.writeOver c.spare new) (s.sectTaken c new) := State.set_fr (State.set_fr (State.set_fr (Fr.refl _ _)))
  refine ⟨(State.bytes_of_mem hset.keep_mem _ _).trans hbytes, hset.keep_img.trans hfr.keep_img, ?_, ?_, fun x => ?_⟩
  · rw [State.sectTaken, State.fld_set_apart _ _ rfl rfl, State.fld_set_apart _ _ rfl rfl, State.fld_set_of_lt _ _ _ rfl (by decide)]
  · rw [State.sectTaken, State.fld_set_apart _ _ rfl rfl, State.fld_set_apart _ _ rfl rfl, State.fld_set_apart _ _ rfl rfl,
      hfr.keep_fld (by decide)]
  · rw [State.flag, hset.keep_fld (by cases x <;> decide), hfr.keep_fld (by cases x <;> decide)]
    rfl

/-- R118: a body that fails is reported and nothing else. -/
theorem State.sectEnds_vals (s : State) (r item : Nat) :
    (s.sectEnds r item).img = s.img ∧ (s.sectEnds r item).mem = s.mem ∧ (s.sectEnds r item).fld F.GH_SECT_STATUS_RESULT = r % 16 ∧
      (s.sectEnds r item).fld F.GH_SECT_STATUS_ITEM = item % 65536 ∧ (s.sectEnds r item).pend 82 = true := by
  have hev : Fr eventReach
      ((s.set F.GH_SECT_STATUS_RESULT r).set F.GH_SECT_STATUS_ITEM item) (s.sectEnds r item) := State.event_fr (Fr.refl _ _)
  have hset : Fr 0x10000000000 s ((s.set F.GH_SECT_STATUS_RESULT r).set F.GH_SECT_STATUS_ITEM item) :=
    State.set_fr (State.set_fr (Fr.refl _ _))
  refine ⟨hev.keep_img.trans hset.keep_img, hev.keep_mem.trans hset.keep_mem, ?_, ?_, State.pend_event _ 82 (by decide)⟩
  · rw [hev.keep_fld (by decide), State.fld_set_apart _ _ rfl rfl, State.fld_set _ _ _ rfl,
      show 2 ^ F.GH_SECT_STATUS_RESULT.width = 16 from rfl]
  · rw [hev.keep_fld (by decide), State.fld_set _ _ _ rfl, show 2 ^ F.GH_SECT_STATUS_ITEM.width = 65536 from rfl]

/-- R117: a write with GO of a runtime section while no update is in progress starts its update. -/
theorem State.sectWrite_go (s : State) (w : Word) (c : Sect) (hgo : fieldOf F.GH_SECT_UPD_GO w = 1)
    (hbusy : s.fld F.GH_SECT_STATUS_BUSY = 0) (hc : s.img.sects[fieldOf F.GH_SECT_UPD_SECT w]? = some c) (hrt : c.isRuntime = true) :
    s.sectWrite w = (s.set F.GH_SECT_UPD_SECT (fieldOf F.GH_SECT_UPD_SECT w)).sectUpdate (fieldOf F.GH_SECT_UPD_SECT w) c := by
  have hc' : (s.set F.GH_SECT_UPD_SECT (fieldOf F.GH_SECT_UPD_SECT w)).img.sects[fieldOf F.GH_SECT_UPD_SECT w]? = some c := by
    rw [State.set_img]; exact hc
  have hidle : s.flag F.GH_SECT_STATUS_BUSY = false := by rw [State.flag, hbusy]; rfl
  rw [State.sectWrite, if_neg (by rw [hgo]; decide), if_neg (by rw [hidle]; decide)]
  simp only [hc', hrt, if_true]

/-- R117 to R119: what a write of GH.SECT_UPD does for a runtime section with good check bits. -/
theorem sectUpd_judges (s : State) (w : Word) (c : Sect) (hrun : s.isRunning = true) (hgo : fieldOf F.GH_SECT_UPD_GO w = 1)
    (hbusy : s.fld F.GH_SECT_STATUS_BUSY = 0) (hgood : s.eccGood)
    (hc : s.img.sects[fieldOf F.GH_SECT_UPD_SECT w]? = some c) (hrt : c.isRuntime = true) :
    ∃ t, exec (.sectUpd w) s = .next t ∧
      match stageFail c.typ (s.bytes c.base c.len) (s.bytes s.img.stageBase c.len) with
      | some (r, i) => t.img = s.img ∧ t.mem = s.mem ∧ t.fld F.GH_SECT_STATUS_RESULT = r % 16 ∧
          t.fld F.GH_SECT_STATUS_ITEM = i % 65536 ∧ t.pend 82 = true
      | none =>
        if c.axis.any (fun x => s.flag (F.PW_CTRL_EN x)) then
          t.img = s.img ∧ t.fld F.GH_SECT_STATUS_BUSY = 1 ∧ t.bytes c.spare c.len = s.bytes s.img.stageBase c.len
        else t.img.sects[fieldOf F.GH_SECT_UPD_SECT w]? = some { c with copy1 := !c.copy1 } ∧
          t.fld F.GH_SECT_STATUS_BUSY = 0 ∧ t.fld F.GH_SECT_STATUS_RESULT = 1 ∧ t.pend 82 = true := by
  have hexec : exec (.sectUpd w) s = .next (s.sectWrite w) := by
    show Host.Outcome.next (s.running _) = _
    rw [State.running_of hrun, if_pos hgo]
  refine ⟨s.sectWrite w, hexec, ?_⟩
  rw [s.sectWrite_go w c hgo hbusy hc hrt]
  generalize hi : fieldOf F.GH_SECT_UPD_SECT w = i at hc ⊢
  have hlt : i < 2 ^ 8 := hi ▸ fieldOf_lt F.GH_SECT_UPD_SECT w
  have hgood1 : (s.set F.GH_SECT_UPD_SECT i).eccGood := State.eccGood_set hgood _ _
  have hbytes (a n : Nat) : (s.set F.GH_SECT_UPD_SECT i).bytes a n = s.bytes a n := State.bytes_of_mem (State.set_mem ..) a n
  generalize hu : (s.set F.GH_SECT_UPD_SECT i).set F.GH_SECT_STATUS_SECT i = u
  have hsect : u.fld F.GH_SECT_STATUS_SECT = i := by rw [← hu]; exact State.fld_set_of_lt _ _ _ rfl hlt
  obtain ⟨huimg, humem, hugood⟩ : u.img = s.img ∧ u.mem = s.mem ∧ u.eccGood := by
    rw [← hu]; exact ⟨by simp only [State.set_img], by simp only [State.set_mem], State.eccGood_set hgood1 _ _⟩
  have huen (x : Axis) : u.flag (F.PW_CTRL_EN x) = s.flag (F.PW_CTRL_EN x) := by
    rw [← hu, State.flag, State.fld_set_apart _ _ rfl (by cases x <;> rfl), State.fld_set_apart _ _ rfl (by cases x <;> rfl)]
    rfl
  cases hfail : stageFail c.typ (s.bytes c.base c.len) (s.bytes s.img.stageBase c.len) with
  | some e =>
    obtain ⟨r, item⟩ := e
    obtain ⟨himg, hmem, hrest⟩ := u.sectEnds_vals r item
    rw [State.sectUpdate_fails hgood1 i c r item (by rw [hbytes, hbytes, State.set_img]; exact hfail), hu]
    exact ⟨himg.trans huimg, hmem.trans humem, hrest⟩
  | none =>
    obtain ⟨hnew, himg, hbusy', hsect', hen⟩ := State.sectTaken_vals hugood c (s.bytes s.img.stageBase c.len)
    rw [State.sectUpdate_passes hgood1 i c (by rw [hbytes, hbytes, State.set_img]; exact hfail), hbytes, State.set_img, hu]
    generalize u.sectTaken c (s.bytes s.img.stageBase c.len) = t at hnew himg hbusy' hsect' hen ⊢
    rw [State.length_bytes] at hnew
    have hsec : t.fld F.GH_SECT_STATUS_SECT = i := hsect'.trans hsect
    have hswap := t.sectSwap_vals c (by rw [hsec, himg, huimg]; exact hc)
    rw [hsec] at hswap
    have hrunning : c.axis.any (fun x => t.flag (F.PW_CTRL_EN x)) = c.axis.any (fun x => s.flag (F.PW_CTRL_EN x)) := by
      simp only [hen, huen]
    by_cases hon : c.axis.any (fun x => s.flag (F.PW_CTRL_EN x)) = true
    · simp only [if_pos hon, if_pos (hrunning.trans hon)]
      exact ⟨himg.trans huimg, hbusy', hnew⟩
    · simp only [if_neg hon, if_neg (hrunning ▸ hon)]
      exact hswap

/-- R119: what waits for a sample instant of an axis names a section of it. -/
theorem State.sectWaits_sect (s : State) (x : Axis) (h : s.sectWaits x = true) :
    ∃ c, s.img.sects[s.fld F.GH_SECT_STATUS_SECT]? = some c := by
  rw [State.sectWaits, Bool.and_eq_true] at h
  cases hc : s.img.sects[s.fld F.GH_SECT_STATUS_SECT]? with
  | some c => exact ⟨c, rfl⟩
  | none => rw [hc] at h; exact absurd h.2 Bool.false_ne_true

theorem exec_sectionSwap (s : State) (x : Axis) (h : s.isRunning = true) :
    exec (.sectionSwap x) s = .next (if s.sectWaits x then s.sectSwap else s) := by
  show Host.Outcome.next (s.running _) = _
  rw [State.running_of h]

/-- Settles O12: R118 judges the staged body, and the copy becomes active at once or at the owner's sample instant. -/
theorem sectionUpdateChecksCopiesAndSwaps : Obligations.SectionUpdateChecksCopiesAndSwaps := by
  intro s hrun
  refine ⟨fun w c hgo hbusy h1 h2 hc hrt => sectUpd_judges s w c hrun hgo hbusy ⟨h1, h2⟩ hc hrt,
    fun x => ⟨fun h => ?_, fun h => ?_⟩⟩
  · rw [exec_sectionSwap s x hrun, if_neg (by rw [h]; decide)]
  · obtain ⟨c, hc⟩ := s.sectWaits_sect x h
    exact ⟨s.sectSwap, c, by rw [exec_sectionSwap s x hrun, if_pos h], hc, s.sectSwap_vals c hc⟩

end Sys2Proof.Machine

namespace Sys2Proof.Machine

set_option Elab.async false

/-! ### The runs of the Bandstand: what reading, replacing and marking one does -/

theorem nth_setNth {α : Type} (d : α) (l : List α) (n m : Nat) (v : α) :
    nth d (setNth l n v) m = if n = m ∧ n < l.length then v else nth d l m := by
  induction l generalizing n m with
  | nil => simp [setNth]
  | cons x r ih =>
    cases n with
    | zero => cases m <;> simp [setNth, nth]
    | succ n =>
      cases m with
      | zero => simp [setNth, nth]
      | succ m => simpa [setNth, nth] using ih n m

theorem State.graph_of_instOf {s : State} {g : Nat} {i : Inst} (h : s.instOf g = some i) : i.graph = g := by
  have := List.find?_some h
  exact beq_iff_eq.1 this

theorem State.instOf_of_insts {s t : State} (h : t.fab.insts = s.fab.insts) (g : Nat) : t.instOf g = s.instOf g := by
  rw [State.instOf, h]; rfl

theorem State.instOf_putInst (s : State) (i : Inst) (g : Nat) : (s.putInst i).instOf g = if i.graph = g then some i else s.instOf g := by
  show (i :: s.fab.insts.filter (fun j => !(j.graph == i.graph))).find? (fun j => j.graph == g) = _
  rw [List.find?_cons]
  by_cases h : i.graph = g
  · rw [if_pos h, beq_iff_eq.2 h]
  · rw [if_neg h, beq_false_of_ne h]
    simp only [List.find?_filter]
    refine congrArg (List.find? · s.fab.insts) (funext fun j => ?_)
    by_cases hj : j.graph = g
    · simp [hj, Ne.symm h]
    · simp [hj]

theorem State.instOf_setTStat (s : State) (g t : Nat) (st : TStat) (k : Nat) :
    (s.setTStat g t st).instOf k = if g = k then (s.instOf k).map (·.setTask t st) else s.instOf k := by
  rw [State.setTStat]
  cases h : s.instOf g with
  | none =>
    by_cases hk : g = k
    · subst hk; rw [if_pos rfl, h]; rfl
    · rw [if_neg hk]
  | some i =>
    have hi : (i.setTask t st).graph = g := (State.graph_of_instOf h : i.graph = g)
    simp only [State.instOf_putInst, hi]
    by_cases hk : g = k
    · subst hk; rw [if_pos rfl, if_pos rfl, h]; rfl
    · rw [if_neg hk, if_neg hk]

/-- How a task of a graph's run stands. -/
def State.tstat (s : State) (g m : Nat) : Option TStat := (s.instOf g).map (fun i => nth .gone i.tasks m)

theorem State.tstat_setTStat_other (s : State) (g t : Nat) (st : TStat) (k m : Nat) (h : g = k → t ≠ m) :
    (s.setTStat g t st).tstat k m = s.tstat k m := by
  rw [State.tstat, State.instOf_setTStat]
  by_cases hk : g = k
  · rw [if_pos hk, State.tstat, Option.map_map]
    refine congrArg (Option.map · _) (funext fun i => ?_)
    exact (nth_setNth ..).trans (if_neg fun hh => h hk hh.1)
  · rw [if_neg hk]; rfl

/-- The run stands, but for tasks that wait no more. -/
def Inst.kept (i j : Inst) : Prop :=
  (∃ l, j = { i with tasks := l }) ∧ ∀ m, nth .gone j.tasks m = .waiting → nth .gone i.tasks m = .waiting

theorem Inst.kept_refl (i : Inst) : i.kept i := ⟨⟨i.tasks, rfl⟩, fun _ h => h⟩

theorem Inst.kept_trans {i j k : Inst} (h : i.kept j) (h' : j.kept k) : i.kept k := by
  obtain ⟨⟨l, rfl⟩, hw⟩ := h
  obtain ⟨⟨l', rfl⟩, hw'⟩ := h'
  exact ⟨⟨l', rfl⟩, fun m hm => hw m (hw' m hm)⟩

theorem Inst.kept_setTask (i : Inst) (t : Nat) (st : TStat) (h : st ≠ .waiting) : i.kept (i.setTask t st) := by
  refine ⟨⟨_, rfl⟩, fun m hm => ?_⟩
  have hm' := (nth_setNth TStat.gone i.tasks t m st).symm.trans hm
  split at hm'
  · exact absurd hm' h
  · exact hm'

/-- The run of a graph goes on. -/
def State.Kept (g : Nat) (s t : State) : Prop := ∀ i, s.instOf g = some i → ∃ j, t.instOf g = some j ∧ i.kept j

theorem State.Kept.refl (g : Nat) (s : State) : State.Kept g s s := fun i h => ⟨i, h, i.kept_refl⟩

theorem State.Kept.trans {g : Nat} {s t u : State} (h : State.Kept g s t) (h' : State.Kept g t u) : State.Kept g s u := fun i hi => by
  obtain ⟨j, hj, hij⟩ := h i hi
  obtain ⟨k, hk, hjk⟩ := h' j hj
  exact ⟨k, hk, Inst.kept_trans hij hjk⟩

theorem State.Kept.insts {g : Nat} {s t : State} (h : t.fab.insts = s.fab.insts) : State.Kept g s t := fun i hi =>
  ⟨i, (State.instOf_of_insts h g).trans hi, i.kept_refl⟩

theorem State.kept_setTStat (g : Nat) (s : State) (k t : Nat) (st : TStat) (h : st ≠ .waiting) : State.Kept g s (s.setTStat k t st) :=
  fun i hi => by
    rw [State.instOf_setTStat, hi]
    split
    · exact ⟨_, rfl, i.kept_setTask t st h⟩
    · exact ⟨i, rfl, i.kept_refl⟩

theorem State.Kept.ite {g : Nat} {c : Prop} [Decidable c] {s a b : State} (ha : State.Kept g s a) (hb : State.Kept g s b) :
    State.Kept g s (if c then a else b) := by
  split
  · exact ha
  · exact hb

theorem State.Kept.forEach {g : Nat} {α : Type} {f : State → α → State} (hf : ∀ s a, State.Kept g s (f s a)) (l : List α) (s : State) :
    State.Kept g s (s.forEach l f) := by
  induction l generalizing s with
  | nil => exact State.Kept.refl g s
  | cons a r ih => exact (hf s a).trans (ih (f s a))

/-- All of the state but the fabric. -/
abbrev offFab : Nat := 0x1fffffffffffffffffffffffffffffffffffffffffffffffffffffffffffffffffffffffbf7

/-- What leaves the fabric alone. -/
theorem State.Kept.off {g : Nat} {s t : State} (h : Fr offFab s t) : State.Kept g s t := State.Kept.insts (by rw [h.keep_fab])

/-! #### Making tasks ready and placing them: what every step of it keeps, they keep -/

/-- A relation that the steps of the Bandstand on queues and on the list of ready tasks meet. -/
structure QueueRel (R : State → State → Prop) : Prop where
  refl : ∀ s, R s s
  trans : ∀ {s t u}, R s t → R t u → R s u
  kiosk : ∀ s k f, R s (s.modKiosk k f)
  ready : ∀ s (f : Fabric → List QTask) (n : Fabric → Nat), R s (s.modFab (fun b => { b with ready := f b, relSeq := n b }))

variable {R : State → State → Prop}

theorem QueueRel.forEach (hR : QueueRel R) {α : Type} (f : State → α → State) (l : List α)
    (hf : ∀ s, ∀ a ∈ l, R s (f s a)) (s : State) :
    R s (s.forEach l f) := by
  induction l generalizing s with
  | nil => exact hR.refl s
  | cons a r ih => exact hR.trans (hf s a List.mem_cons_self) (ih (fun s b hb => hf s b (List.mem_cons_of_mem a hb)) (f s a))

theorem QueueRel.place (hR : QueueRel R) (q : QTask) (hq : ∀ s, R s (s.setTStat q.graph q.task .queued)) (s : State) :
    R s (s.place q) := by
  rw [State.place]
  split
  next => exact hR.ready s _ (·.relSeq)
  next k _ =>
    have hput : R s ((s.modKiosk k (fun ki => { ki with queue := ki.queue ++ [q], resting := false })).setTStat q.graph q.task .queued) :=
      hR.trans (hR.kiosk s k _) (hq _)
    dsimp only
    split
    next =>
      split
      next => exact hput
      next =>
        refine hR.trans hput (hR.forEach _ _ (fun u j _ => ?_) _)
        split
        next => exact hR.kiosk u j _
        next => exact hR.refl u
    next => exact hput

theorem QueueRel.placeReady (hR : QueueRel R) (s : State)
    (hq : ∀ q ∈ s.fab.ready, ∀ u, R u (u.setTStat q.graph q.task .queued)) : R s s.placeReady :=
  hR.trans (hR.ready s (fun _ => []) (·.relSeq)) (hR.forEach _ _ (fun u q h => hR.place q (hq q h) u) _)

/-- The tasks of a run whose inputs have all been delivered. -/
def Inst.complete (i : Inst) (d : GraphD) : List Nat :=
  (List.range d.tasks.length).filter (fun t => nth .gone i.tasks t == .waiting && (d.inEdges t).all (fun e => i.seen.contains e))

theorem Inst.mem_complete {i : Inst} {d : GraphD} {m : Nat} :
    m ∈ i.complete d ↔ m < d.tasks.length ∧ nth .gone i.tasks m = .waiting ∧ ∀ e ∈ d.inEdges m, e ∈ i.seen := by
  simp [Inst.complete]

/-- One task of graph g is ready. -/
def State.readyOne (g : Nat) (dl : Option Nat) (s : State) (t : Nat) : State :=
  (s.setTStat g t .ready).modFab (fun b => { b with
    ready := b.ready ++ [{ graph := g, task := t, dl := dl, rel := b.relSeq }], relSeq := b.relSeq + 1 })

theorem State.readyTasks_some {s : State} {g : Nat} {d : GraphD} {i : Inst} (hd : s.graphD g = some d) (hi : s.instOf g = some i) :
    s.readyTasks g = s.forEach (i.complete d) (State.readyOne g (if d.cls == 0 then some (5 * i.start + 2 * d.deadline) else none)) := by
  rw [State.readyTasks]
  simp only [hd, hi]
  rfl

theorem QueueRel.readyOne (hR : QueueRel R) (g : Nat) (dl : Option Nat) (t : Nat) (ht : ∀ s, R s (s.setTStat g t .ready)) (s : State) :
    R s (State.readyOne g dl s t) := hR.trans (ht s) (hR.ready _ _ _)

theorem QueueRel.readyTasks (hR : QueueRel R) (g : Nat) (s : State)
    (ht : ∀ d i, s.graphD g = some d → s.instOf g = some i → ∀ t ∈ i.complete d, ∀ u, R u (u.setTStat g t .ready)) :
    R s (s.readyTasks g) := by
  cases hd : s.graphD g with
  | none => rw [State.readyTasks, hd]; exact hR.refl s
  | some d =>
    cases hi : s.instOf g with
    | none => rw [State.readyTasks, hd, hi]; exact hR.refl s
    | some i =>
      rw [State.readyTasks_some hd hi]
      exact hR.forEach _ _ (fun u t h => hR.readyOne g _ t (ht d i hd hi t h) u) s

theorem queueRel_kept (g : Nat) : QueueRel (State.Kept g) where
  refl := State.Kept.refl g
  trans := State.Kept.trans
  kiosk _ _ _ := State.Kept.insts rfl
  ready _ _ _ := State.Kept.insts rfl

theorem queueRel_eq {β : Type} (p : State → β) (hk : ∀ s k f, p (s.modKiosk k f) = p s)
    (hr : ∀ s (f : Fabric → List QTask) (n : Fabric → Nat), p (s.modFab (fun b => { b with ready := f b, relSeq := n b })) = p s) :
    QueueRel (fun s t => p t = p s) where
  refl _ := rfl
  trans h h' := h'.trans h
  kiosk := hk
  ready := hr

theorem State.kept_placeReady (g : Nat) (s : State) : State.Kept g s s.placeReady :=
  (queueRel_kept g).placeReady s fun _ _ u => u.kept_setTStat g _ _ _ (by decide)

theorem State.kept_readyTasks (g : Nat) (s : State) (k : Nat) : State.Kept g s (s.readyTasks k) :=
  (queueRel_kept g).readyTasks k s fun _ _ _ _ _ _ u => u.kept_setTStat g _ _ _ (by decide)

end Sys2Proof.Machine

namespace Sys2Proof.Machine

set_option Elab.async false

/-! ### Events, faults and memory errors: they release graphs, and leave the runs of graphs that are in progress -/

section
variable (g : Nat) (s : State)

/-- A release finds its graph not running, so that no run gives way to it (R145). -/
theorem State.kept_releaseAt (r : Trigger) : State.Kept g s (s.releaseAt r) := by
  rw [State.releaseAt]
  split
  next => exact State.Kept.refl g s
  next d _ =>
    refine State.Kept.ite (State.Kept.refl g s) ?_
    split
    next =>
      exact State.Kept.ite (State.Kept.off (State.inc_fr (Fr.refl _ _)))
        (State.Kept.ite (State.Kept.off (State.inc_fr (Fr.refl _ _))) (State.Kept.refl g s))
    next hnone =>
      refine State.Kept.trans (fun i hi => ?_) ((State.kept_readyTasks g _ r.graph).trans (State.kept_placeReady g _))
      have hne : r.graph ≠ g := fun h => by rw [h, hi] at hnone; exact absurd hnone (by simp)
      refine ⟨i, ?_, i.kept_refl⟩
      rw [State.instOf_putInst, if_neg hne]
      exact hi

theorem State.kept_raise1 (e : Nat) : State.Kept g s (s.raise1 e) := by
  have hset (v : Nat) : State.Kept g s (s.set (F.LDG_EVT_PEND (e / 32)) v) := State.Kept.off (State.set_fr (Fr.refl _ _))
  have hroute (u : State) : State.Kept g u (if u.flag (F.LDG_ROUTE_KIOSK e) then u.forEach (u.graphsOn 2 e none) State.releaseGraph else u) :=
    State.Kept.ite (State.Kept.forEach (fun v k => v.kept_releaseAt g (v.triggerOf k)) _ u) (State.Kept.refl g u)
  have htrig (u : State) : State.Kept g u (if u.flag (F.LDG_ROUTE_PGL e) then u.pglTrigReg (u.fld (F.LDG_ROUTE_PGL_CH e)) else u) :=
    State.Kept.ite (State.Kept.off (State.pglTrigReg_fr (Fr.refl _ _))) (State.Kept.refl g u)
  exact (hset _).trans ((hroute _).trans (htrig _))

theorem State.kept_raiseN (fuel e : Nat) : State.Kept g s (s.raiseN fuel e) := by
  induction fuel generalizing s e with
  | zero => exact s.kept_raise1 g e
  | succ n ih =>
    refine (s.kept_raise1 g e).trans (State.Kept.forEach (fun u x => ?_) _ _)
    exact State.Kept.ite ((State.Kept.off (State.capMark_fr (Fr.refl _ _))).trans (ih _ _)) (State.Kept.refl g u)

theorem State.kept_event (e : Nat) : State.Kept g s (s.event e) := State.Kept.ite (s.kept_raiseN g 3 e) (State.Kept.refl g s)

theorem State.kept_evx (x : Axis) (o : Nat) : State.Kept g s (s.evx x o) := s.kept_event g _

theorem State.kept_logRecord (code cls sc unit detail : Nat) : State.Kept g s (s.logRecord code cls sc unit detail) :=
  State.Kept.ite
    ((State.Kept.off (State.inc_fr (State.set_fr (State.set_fr (State.set_fr (State.set_fr (State.set_fr (Fr.refl _ _)))))))).trans
      (State.kept_event g _ 110))
    (State.Kept.off (State.inc_fr (State.set_fr (State.set_fr (State.set_fr (State.set_fr (State.set_fr (Fr.refl _ _))))))))

theorem State.kept_raiseNow (code sc unit detail : Nat) : State.Kept g s (s.raiseNow code sc unit detail) := by
  have hset : State.Kept g s (s.setBit (stFld sc code) (code % 32) true) := State.Kept.off (State.setBit_fr (Fr.refl _ _))
  have hlog (u : State) (again : Bool) : State.Kept g u
      (if again then u.inc F.LDG_REPEAT_COUNT else u.logRecord code (faultClass code) sc unit detail) :=
    State.Kept.ite (State.Kept.off (State.inc_fr (Fr.refl _ _))) (u.kept_logRecord g _ _ _ _ _)
  have hevent (u : State) : State.Kept g u (if faultClass code == 1 then u.event 108 else if faultClass code == 3 then u.event 111
      else if sc = 1 then u.event 0 else if sc = 2 then u.event 28 else u.event 109) := by
    split_ifs <;> exact u.kept_event g _
  exact hset.trans ((hlog _ _).trans (hevent _))

theorem State.kept_testEnd (k result detail : Nat) : State.Kept g s (s.testEnd k result detail) := by
  have hset : State.Kept g s ((((s.modStc (fun t => { t with outs := t.outs.filter (fun o => !(o.slot == k)) })).set
      (F.STC_TSTAT_STATE k) 0).set (F.STC_TSTAT_RESULT k) result).set (F.STC_TSTAT_DETAIL k) detail) :=
    State.Kept.off (State.set_fr (State.set_fr (State.set_fr (State.modStc_fr (Fr.refl _ _)))))
  have hpass (u : State) : State.Kept g u (if result = 1 then u.inc (F.STC_TSTAT_PASSES k) else u) :=
    State.Kept.ite (State.Kept.off (State.inc_fr (Fr.refl _ _))) (State.Kept.refl g u)
  have hscrub (u : State) : State.Kept g u (if k = 1 then u.set F.STC_SCRUB_STAT_RUNNING 0 else u) :=
    State.Kept.ite (State.Kept.off (State.set_fr (Fr.refl _ _))) (State.Kept.refl g u)
  exact (hset.trans ((hpass _).trans (hscrub _))).trans ((State.kept_event g _ 104).trans (State.Kept.off (State.testNext_fr (Fr.refl _ _))))

theorem State.kept_faultNow (code sc unit detail : Nat) : State.Kept g s (s.faultNow code sc unit detail) :=
  ((s.kept_raiseNow g code sc unit detail).trans (State.Kept.off (State.markAxes_fr (Fr.refl _ _)))).trans
    (State.Kept.forEach (fun u k => u.kept_testEnd g k 4 0) _ _)

theorem State.kept_grtAdd (k : Nat) : State.Kept g s (s.grtAdd k) :=
  State.Kept.ite ((State.Kept.ite (s.kept_faultNow g 48 4 k 0) (State.Kept.off (State.hold_fr (Fr.refl _ _)))).trans (State.kept_event g _ 103))
    (State.Kept.off (State.inc_fr (Fr.refl _ _)))

theorem State.kept_fault (code sc unit detail : Nat) : State.Kept g s (s.fault code sc unit detail) :=
  State.Kept.ite ((s.kept_faultNow g code sc unit detail).trans (State.Kept.forEach (fun u k => u.kept_grtAdd g k) _ _))
    (State.Kept.off (State.hold_fr (Fr.refl _ _)))

theorem State.kept_faultOn (code sc unit detail : Nat) : State.Kept g s (s.faultOn code sc unit detail) :=
  (State.Kept.off (State.setCause_fr (Fr.refl _ _))).trans (State.kept_fault g _ code sc unit detail)

theorem State.kept_putSafe (x : Axis) (st rank origin : Nat) : State.Kept g s (s.putSafe x st rank origin) := by
  have hgates : State.Kept g s (s.safeGates x st rank origin) := State.Kept.off ((s.safeGates_fr x st rank origin).mono (by decide))
  have hends (u : State) : State.Kept g u (u.shortsEnd x st) :=
    State.Kept.ite (State.Kept.refl g u) (State.Kept.off (State.setCause_fr (State.setCause_fr (Fr.refl _ _))))
  have hcomps (u : State) (was : Bool) : State.Kept g u (if was = false ∧ u.bridgeOn x = true then u.compsZero x else u) :=
    State.Kept.ite (State.Kept.off (State.compsZero_fr (Fr.refl _ _))) (State.Kept.refl g u)
  have hevent (u : State) (old : Nat) : State.Kept g u (if old ≠ st ∧ st ≠ 0 then u.evx x 1 else u) :=
    State.Kept.ite (u.kept_evx g x 1) (State.Kept.refl g u)
  rw [State.putSafe_eq]
  exact hgates.trans ((hends _).trans ((hcomps _ _).trans (hevent _ _)))

theorem State.kept_chooseSafe (x : Axis) (st rank origin : Nat) (retry : Bool) : State.Kept g s (s.chooseSafe x st rank origin retry) := by
  have hjoin : State.Kept g s (s.retryJoin x retry) := State.Kept.off (State.retryJoin_fr (Fr.refl _ _))
  have hdue (f : Tr → Tr) : State.Kept g s (s.modTr x f) := State.Kept.off (State.modTr_fr (Fr.refl _ _))
  rw [State.chooseSafe]
  refine State.Kept.ite (State.Kept.ite (State.Kept.off (State.ascDropped_fr (Fr.refl _ _))) (State.Kept.refl g s)) (State.Kept.ite ?_ ?_)
  · split
    next => exact hdue _
    next => exact State.Kept.ite (hdue _) hjoin
  · exact State.Kept.ite (hjoin.trans (State.kept_putSafe g _ x st rank origin)) hjoin

theorem State.kept_axisFault (x : Axis) (code unit detail : Nat) : State.Kept g s (s.axisFault x code unit detail) :=
  (s.kept_fault g code (scAxis x) unit detail).trans (State.kept_chooseSafe g _ x _ 6 3 false)

theorem State.kept_fatal (code unit detail : Nat) : State.Kept g s (s.fatal code unit detail) :=
  ((s.kept_fault g code 0 unit detail).trans (State.kept_chooseSafe g _ .a _ 6 3 false)).trans (State.kept_chooseSafe g _ .b _ 6 3 false)

theorem State.kept_capEnd (x : Axis) (how : Nat) : State.Kept g s (s.capEnd x how) :=
  (State.Kept.off (State.modCap_fr (State.set_fr (State.set_fr (State.set_fr (State.capSettle_fr (Fr.refl _ _))))))).trans
    (State.kept_evx g _ x 15)

theorem State.kept_busError (kind : Nat) (ch : Option Nat) (addr : Nat) : State.Kept g s (s.busError kind ch addr) := by
  have hstop : State.Kept g s (((((((((s.forEach (List.range 16) State.pglStop).modPgl (fun b => { b with wait := [] })).set
      F.PGL_STAT_STOPPED 1).wr A.PGL_ERR 0).set F.PGL_ERR_KIND kind).setB F.PGL_ERR_NOCH ch.isNone).set F.PGL_ERR_CH (ch.getD 0)).set
      F.PGL_ERR_ADDR addr)) :=
    State.Kept.off (State.set_fr (State.set_fr (State.setB_fr (State.set_fr (State.wr_fr (State.set_fr (State.modPgl_fr
      (Fr.forEach (Fr.refl _ _) fun _ _ ht => State.pglStop_fr ht))))))))
  exact ((hstop.trans (State.Kept.forEach (fun u x => u.kept_capEnd g x 3) s.capsOn _)).trans
    (State.kept_faultOn g _ 42 4 (ch.getD 0xFF) addr)).trans (State.kept_event g _ 74)

end

end Sys2Proof.Machine

namespace Sys2Proof.Machine

set_option Elab.async false

/-! ### A write of a service and the inputs of the loops leave the runs -/

section
variable (g : Nat) (s : State)

theorem State.kept_doubleFound (ch : Option Nat) (w : Nat) : State.Kept g s (s.doubleFound ch w) := by
  have hcount : State.Kept g s (((s.inc F.HB_ECC_DOUBLE).set F.HB_ECC_ADDR_KIND
      (if 0x200000 ≤ w then 0 else (s.inc F.HB_ECC_DOUBLE).regionKind w)).set F.HB_ECC_ADDR_ADDR w) :=
    State.Kept.off (State.set_fr (State.set_fr (State.inc_fr (Fr.refl _ _))))
  have hfound (u : State) (code sc : Nat) : State.Kept g u (u.eccFound w code sc) := State.Kept.off (State.eccFound_fr (Fr.refl _ _))
  have haxis (u : State) (x : Axis) (sc unit : Nat) : State.Kept g u ((u.eccFound w 18 sc).axisFault x 18 unit w) :=
    (hfound u 18 sc).trans (State.kept_axisFault g _ x 18 unit w)
  have hzero (u : State) : State.Kept g u (u.wordZero w) :=
    (State.Kept.off (State.setBytes_fr (State.eccClear_fr (Fr.refl _ _)))).trans (State.kept_fault g _ 38 0 0 w)
  rw [State.doubleFound]
  generalize State.set _ F.HB_ECC_ADDR_ADDR w = u at hcount ⊢
  refine hcount.trans ?_
  refine State.Kept.ite (haxis _ _ _ _) (State.Kept.ite (haxis _ _ _ _) (State.Kept.ite ?_ (State.Kept.ite (State.kept_busError g _ 2 ch w)
    (State.Kept.ite ?_ (State.Kept.ite ?_ (hzero _))))))
  · exact ((hfound _ 18 3).trans (State.kept_fault g _ 18 3 3 w)).trans (State.Kept.insts rfl)
  · split
    next =>
      exact State.Kept.ite (haxis _ _ _ _) (State.Kept.ite (haxis _ _ _ _) ((hfound _ 35 0).trans (State.kept_fatal g _ 35 6 w)))
    next => exact hzero _
  · exact State.Kept.ite ((State.Kept.off (State.set_fr (State.set_fr (State.set_fr (State.set_fr (Fr.refl _ _)))))).trans
      (State.kept_event g _ 82)) (State.Kept.refl g _)

theorem State.kept_checkWord32 (ch : Option Nat) (w : Nat) : State.Kept g s (s.checkWord32 ch w).2 := by
  rw [State.checkWord32]
  split_ifs
  · exact s.kept_doubleFound g ch w
  · exact State.Kept.off (State.singleFound_fr (Fr.refl _ _))
  · exact State.Kept.refl g s

theorem State.kept_writeLine (ch : Option Nat) (a : Nat) (bs : List Byte) : State.Kept g s (s.writeLine ch a bs).2 := by
  rw [State.writeLine]
  split
  next => exact State.Kept.off (State.setBytes_fr (State.eccClear_fr (Fr.refl _ _)))
  next =>
    have hcheck := s.kept_checkWord32 g ch (lineOf a)
    split
    next u hu => rw [hu] at hcheck; exact hcheck.trans (State.Kept.off (State.setBytes_fr (Fr.refl _ _)))
    next => exact hcheck

theorem State.kept_writeMemN (fuel : Nat) (ch : Option Nat) (a : Nat) (bs : List Byte) : State.Kept g s (s.writeMemN fuel ch a bs).2 := by
  induction fuel generalizing s a bs with
  | zero => exact State.Kept.refl g s
  | succ n ih =>
    cases bs with
    | nil => exact State.Kept.refl g s
    | cons b r =>
      have hline := s.kept_writeLine g ch a ((b :: r).take (32 - a % 32))
      rw [State.writeMemN]
      swap
      · exact List.cons_ne_nil b r
      split
      next u hu => rw [hu] at hline; exact hline.trans (ih u _ _)
      next => exact hline

theorem State.kept_svcWrite (a : Nat) (ws : List Word) : State.Kept g s (s.svcWrite a ws) := s.kept_writeMemN g _ none a _

theorem State.kept_inPut (x : Axis) (c : Nat) : State.Kept g s (s.inPut x c) := by
  rw [State.inPut]
  refine State.Kept.trans ?_ (State.Kept.forEach (fun u a => u.kept_svcWrite g a _) _ _)
  split
  next => exact State.Kept.off (State.dutyInput_fr (Fr.refl _ _))
  next => exact State.Kept.refl g s

theorem State.kept_loopInputs (x : Axis) : State.Kept g s (s.loopInputs x) :=
  State.Kept.ite ((State.Kept.forEach (fun u a => u.kept_svcWrite g (a + 12) _) _ s).trans
    (State.Kept.forEach (fun u c => u.kept_inPut g x c) _ _)) (State.Kept.refl g s)

end

end Sys2Proof.Machine

namespace Sys2Proof.Machine

set_option Elab.async false

/-! ### A delivery (R12, R13) -/

/-- The run with the record of a source. -/
def Inst.noted (i : Inst) (n : Nat) (r : List Word) : Inst := { i with recs := (n, r) :: i.recs.filter (fun e => !(e.1 == n)) }

/-- The run with edges delivered. -/
def Inst.fed (i : Inst) (l : List Nat) : Inst := { i with seen := i.seen ++ l.filter (fun e => !i.seen.contains e) }

theorem Inst.mem_fed (i : Inst) (l : List Nat) (e : Nat) (h : e ∈ l) : e ∈ (i.fed l).seen := by
  by_cases hs : e ∈ i.seen
  · exact List.mem_append_left _ hs
  · exact List.mem_append_right _ (List.mem_filter.2 ⟨h, by simpa using hs⟩)

/-- The step of a delivery for one graph of the owner. -/
def State.deliverTo (n : Nat) (rec_ : List Word) (s : State) (g : Nat) : State :=
  match s.graphD g, s.instOf g with
  | some d, some i =>
    if (d.outEdges (0xFF00 + n)).all (fun e => i.seen.contains e) then s
    else (s.putInst (i.noted n rec_)).deliver g (0xFF00 + n)
  | _, _ => s

/-- What the source brings before the graphs are delivered. -/
def State.sourceReady (s : State) (owner n : Nat) : State :=
  (if n = 12 then s.putSrc owner 12 s.tempRecord else s).forEach ([Axis.a, Axis.b].filter (fun x => x.ix == owner)) State.loopInputs

theorem exec_sourceDelivery (s : State) (owner n : Nat) (h : s.isRunning = true) :
    exec (.sourceDelivery owner n) s = .next (
      if s.mayDeliver owner n then
        (s.sourceReady owner n).forEach ((s.sourceReady owner n).runningOf owner)
          (State.deliverTo n ((s.sourceReady owner n).src owner n))
      else s) := by
  show Host.Outcome.next (s.running _) = _
  rw [State.running_of h]
  rfl

theorem State.instOf_putInst_self (s : State) {g : Nat} (i : Inst) (h : i.graph = g) : (s.putInst i).instOf g = some i := by
  rw [State.instOf_putInst, if_pos h]

theorem State.putSrc_src (s : State) (owner n : Nat) (r : List Word) : (s.putSrc owner n r).src owner n = r := by
  rw [State.src, State.putSrc]
  simp only [List.find?_cons, beq_self_eq_true, Bool.and_self]

theorem State.sourceReady_src (s : State) (owner n : Nat) :
    (s.sourceReady owner n).src owner n = if n = 12 then s.tempRecord else s.src owner n := by
  have hfr (u : State) : Fr accessReach u
      (u.forEach ([Axis.a, Axis.b].filter (fun x => x.ix == owner)) State.loopInputs) :=
    Fr.forEach (Fr.refl _ _) fun _ _ ht => State.loopInputs_fr ht
  rw [State.src, State.sourceReady, (hfr _).keep_sources, ← State.src]
  split
  next h => subst h; exact s.putSrc_src owner 12 _
  next => rfl

theorem State.sourceReady_img (s : State) (owner n : Nat) : (s.sourceReady owner n).img = s.img := by
  have hfr : Fr accessReach (if n = 12 then s.putSrc owner 12 s.tempRecord else s)
      (s.sourceReady owner n) := Fr.forEach (Fr.refl _ _) fun _ _ ht => State.loopInputs_fr ht
  rw [hfr.keep_img]
  split <;> rfl

theorem State.kept_sourceReady (s : State) (g : Nat) (owner n : Nat) : State.Kept g s (s.sourceReady owner n) := by
  refine State.Kept.trans ?_ (State.Kept.forEach (fun u x => u.kept_loopInputs g x) _ _)
  split
  next => exact State.Kept.insts rfl
  next => exact State.Kept.refl g s

theorem State.fab_deliverTo (n : Nat) (r : List Word) (s : State) (g : Nat) : Fr 0x400 s (State.deliverTo n r s g) := by
  rw [State.deliverTo]
  split
  next => exact Fr.ite (Fr.refl _ _) (State.deliver_fr (State.putInst_fr (Fr.refl _ _)))
  next => exact Fr.refl _ _

theorem State.deliver_some {s : State} {g : Nat} {d : GraphD} {i : Inst} (src : Nat) (hd : s.graphD g = some d) (hi : s.instOf g = some i) :
    s.deliver g src = ((s.putInst (i.fed (d.outEdges src))).readyTasks g).placeReady := by
  rw [State.deliver]
  simp only [hd, hi]
  rfl

/-- A delivery that is new to the run. -/
theorem State.deliverTo_new {s : State} {g n : Nat} {d : GraphD} {i : Inst} {r : List Word} (hd : s.graphD g = some d)
    (hi : s.instOf g = some i) (hnew : ∃ e, e ∈ d.outEdges (0xFF00 + n) ∧ e ∉ i.seen) :
    State.deliverTo n r s g =
      (((s.putInst (i.noted n r)).putInst ((i.noted n r).fed (d.outEdges (0xFF00 + n)))).readyTasks g).placeReady := by
  have hgraph : i.graph = g := State.graph_of_instOf hi
  have hinst : (s.putInst (i.noted n r)).instOf g = some (i.noted n r) := State.instOf_putInst_self s _ hgraph
  have hopen : ¬ (d.outEdges (0xFF00 + n)).all (fun e => i.seen.contains e) = true := by
    obtain ⟨e, he, hne⟩ := hnew
    simp only [List.all_eq_true, List.contains_iff_mem, not_forall]
    exact ⟨e, he, hne⟩
  rw [State.deliverTo]
  simp only [hd, hi, if_neg hopen]
  exact State.deliver_some (s := s.putInst (i.noted n r)) (0xFF00 + n) hd hinst

/-- A delivery that the run has had. -/
theorem State.deliverTo_old {s : State} {g n : Nat} {d : GraphD} {i : Inst} {r : List Word} (hd : s.graphD g = some d)
    (hi : s.instOf g = some i) (hold : ∀ e, e ∈ d.outEdges (0xFF00 + n) → e ∈ i.seen) : State.deliverTo n r s g = s := by
  have hall : (d.outEdges (0xFF00 + n)).all (fun e => i.seen.contains e) = true := by
    simpa only [List.all_eq_true, List.contains_iff_mem] using hold
  rw [State.deliverTo]
  simp only [hd, hi, if_pos hall]

/-- A delivery to another graph leaves the run. -/
theorem State.kept_deliverTo_other (n : Nat) (r : List Word) (s : State) {g k : Nat} (h : k ≠ g) :
    State.Kept g s (State.deliverTo n r s k) := by
  have hput (u : State) (i : Inst) (hi : i.graph = k) : State.Kept g u (u.putInst i) := fun j hj =>
    ⟨j, by rw [State.instOf_putInst, if_neg (by rw [hi]; exact h)]; exact hj, j.kept_refl⟩
  cases hd : s.graphD k with
  | none => rw [State.deliverTo, hd]; exact State.Kept.refl g s
  | some d =>
    cases hi : s.instOf k with
    | none => rw [State.deliverTo, hd, hi]; exact State.Kept.refl g s
    | some i =>
      by_cases hnew : ∃ e, e ∈ d.outEdges (0xFF00 + n) ∧ e ∉ i.seen
      · have hgraph : i.graph = k := State.graph_of_instOf hi
        rw [State.deliverTo_new hd hi hnew]
        exact (hput s (i.noted n r) hgraph).trans ((hput _ ((i.noted n r).fed _) hgraph).trans
          ((State.kept_readyTasks g _ k).trans (State.kept_placeReady g _)))
      · rw [State.deliverTo_old hd hi (by simpa using hnew)]
        exact State.Kept.refl g s

theorem nth_of_le {α : Type} (d : α) (l : List α) (n : Nat) (h : l.length ≤ n) : nth d l n = d := by
  induction l generalizing n with
  | nil => rfl
  | cons x r ih =>
    cases n with
    | zero => exact absurd h (by simp)
    | succ n => exact ih n (Nat.le_of_succ_le_succ h)

theorem Inst.setTask_self_ne_waiting (i : Inst) (t : Nat) (st : TStat) (h : st ≠ .waiting) :
    nth .gone (i.setTask t st).tasks t ≠ .waiting := by
  rw [Inst.setTask, nth_setNth]
  split
  next => exact h
  next hlen => rw [nth_of_le _ _ _ (by simpa using hlen)]; decide

/-- Tasks that are made ready one after another wait no more. -/
theorem State.readyOne_done {g : Nat} (dl : Option Nat) (l : List Nat) {s : State} {i : Inst} (hi : s.instOf g = some i) :
    ∃ j, (s.forEach l (State.readyOne g dl)).instOf g = some j ∧ i.kept j ∧ ∀ m ∈ l, nth .gone j.tasks m ≠ .waiting := by
  induction l generalizing s i with
  | nil => exact ⟨i, hi, i.kept_refl, by simp⟩
  | cons t r ih =>
    have hstep : (State.readyOne g dl s t).instOf g = some (i.setTask t .ready) :=
      (State.instOf_of_insts (s := s.setTStat g t .ready) rfl g).trans (by rw [State.instOf_setTStat, if_pos rfl, hi]; rfl)
    obtain ⟨j, hj, hkept, hdone⟩ := ih hstep
    refine ⟨j, hj, Inst.kept_trans (i.kept_setTask t .ready (by decide)) hkept, fun m hm => ?_⟩
    rcases List.mem_cons.1 hm with rfl | hm
    · exact fun hwait => i.setTask_self_ne_waiting m .ready (by decide) (hkept.2 m hwait)
    · exact hdone m hm

/-- R12: every task whose inputs have all been delivered waits no more. -/
theorem State.readyTasks_done {s : State} {g : Nat} {d : GraphD} {i : Inst} (hd : s.graphD g = some d) (hi : s.instOf g = some i) :
    ∃ j, (s.readyTasks g).instOf g = some j ∧ i.kept j ∧ ∀ m ∈ i.complete d, nth .gone j.tasks m ≠ .waiting := by
  rw [State.readyTasks_some hd hi]
  exact State.readyOne_done _ _ hi

/-- A delivery has reached the run of graph g that stood as `i` before. -/
def State.delivered (s : State) (g : Nat) (d : GraphD) (i : Inst) (n : Nat) (r : List Word) : Prop :=
  ∃ j, s.instOf g = some j ∧ (∀ e, e ∈ d.outEdges (0xFF00 + n) → e ∈ j.seen) ∧ (n, r) ∈ j.recs ∧
    ∀ m, m < d.tasks.length → nth .gone i.tasks m = .waiting → (∀ e, e ∈ d.inEdges m → e ∈ j.seen) →
      nth .gone j.tasks m ≠ .waiting

section
variable {s : State} {g n : Nat} {d : GraphD} {i : Inst} {r : List Word}

theorem State.delivered_kept {t : State} (h : s.delivered g d i n r) (hst : State.Kept g s t) : t.delivered g d i n r := by
  obtain ⟨j, hj, hseen, hrec, hready⟩ := h
  obtain ⟨k, hk, ⟨l, rfl⟩, hwait⟩ := hst j hj
  exact ⟨_, hk, hseen, hrec, fun m hm hi hin hw => hready m hm hi hin (hwait m hw)⟩

/-- It reaches the graph's run with the record, and readies the tasks that it completes. -/
theorem State.deliverTo_delivers {i' : Inst} (hd : s.graphD g = some d) (hi : s.instOf g = some i')
    (hnew : ∃ e, e ∈ d.outEdges (0xFF00 + n) ∧ e ∉ i'.seen) : (State.deliverTo n r s g).delivered g d i n r := by
  have hgraph : i'.graph = g := State.graph_of_instOf hi
  have hput : ((s.putInst (i'.noted n r)).putInst ((i'.noted n r).fed (d.outEdges (0xFF00 + n)))).instOf g =
      some ((i'.noted n r).fed (d.outEdges (0xFF00 + n))) := State.instOf_putInst_self _ _ hgraph
  obtain ⟨j, hj, ⟨⟨l, rfl⟩, hwait⟩, hready⟩ :=
    State.readyTasks_done (s := (s.putInst (i'.noted n r)).putInst ((i'.noted n r).fed (d.outEdges (0xFF00 + n)))) hd hput
  obtain ⟨k, hk, ⟨l', rfl⟩, hwait'⟩ := State.kept_placeReady g _ _ hj
  rw [State.deliverTo_new hd hi hnew]
  refine ⟨_, hk, (i'.noted n r).mem_fed _, List.mem_cons_self, fun m hm _ hin hw => ?_⟩
  exact hready m (Inst.mem_complete.2 ⟨hm, hwait m (hwait' m hw), hin⟩) (hwait' m hw)

theorem State.graphD_deliverTo (n : Nat) (r : List Word) (s : State) (k g : Nat) : (State.deliverTo n r s k).graphD g = s.graphD g := by
  rw [State.graphD, (State.fab_deliverTo n r s k).keep_img]; rfl

theorem State.delivered_deliverTo (hd : s.graphD g = some d) (h : s.delivered g d i n r) (k : Nat) :
    (State.deliverTo n r s k).delivered g d i n r := by
  by_cases hk : k = g
  · obtain ⟨j, hj, hseen, hrest⟩ := h
    rw [hk, State.deliverTo_old hd hj hseen]
    exact ⟨j, hj, hseen, hrest⟩
  · exact State.delivered_kept h (State.kept_deliverTo_other n r s hk)

theorem State.delivered_forEach (l : List Nat) (hd : s.graphD g = some d) (h : s.delivered g d i n r) :
    (s.forEach l (State.deliverTo n r)).delivered g d i n r := by
  induction l generalizing s with
  | nil => exact h
  | cons k l ih => exact ih ((State.graphD_deliverTo n r s k g).trans hd) (State.delivered_deliverTo hd h k)

/-- A round over graphs reaches the run of each of them that misses an edge of the source. -/
theorem State.forEach_deliverTo (l : List Nat) {i' : Inst} (hg : g ∈ l) (hd : s.graphD g = some d) (hi : s.instOf g = some i')
    (hnew : ∃ e, e ∈ d.outEdges (0xFF00 + n) ∧ e ∉ i'.seen) : (s.forEach l (State.deliverTo n r)).delivered g d i n r := by
  induction l generalizing s i' with
  | nil => exact absurd hg (by simp)
  | cons k l ih =>
    have hd' : (State.deliverTo n r s k).graphD g = some d := (State.graphD_deliverTo n r s k g).trans hd
    by_cases hk : k = g
    · subst hk
      exact State.delivered_forEach l hd' (State.deliverTo_delivers hd hi hnew)
    · obtain ⟨j, hj, ⟨⟨t, rfl⟩, -⟩⟩ := State.kept_deliverTo_other n r s hk i' hi
      exact ih ((List.mem_cons.1 hg).resolve_left (Ne.symm hk)) hd' hj hnew

end

theorem State.mem_runningOf {s : State} {g owner : Nat} {d : GraphD} {i : Inst} (hd : s.graphD g = some d) (ho : d.axis = owner)
    (hi : s.instOf g = some i) : g ∈ s.runningOf owner := by
  have hgraph := State.graph_of_instOf hi
  refine List.mem_filter.2 ⟨List.mem_map.2 ⟨i, List.mem_of_find?_eq_some hi, hgraph⟩, ?_⟩
  simp only [State.graphOwner, hd, ho, beq_self_eq_true]

/-- R12, R13, R217: a delivery that the owner may have reaches every running graph of it that misses an edge from the source. -/
theorem sourceDelivery_reaches (s : State) (owner n : Nat) (hrun : s.isRunning = true) (hmay : s.mayDeliver owner n = true) :
    ∃ t, exec (.sourceDelivery owner n) s = .next t ∧
      ∀ g d i, s.graphD g = some d → d.axis = owner → s.instOf g = some i → (∃ e, e ∈ d.outEdges (0xFF00 + n) ∧ e ∉ i.seen) →
        t.delivered g d i n (if n = 12 then s.tempRecord else s.src owner n) := by
  rw [exec_sourceDelivery s owner n hrun, if_pos hmay]
  refine ⟨_, rfl, fun g d i hd ho hi hnew => ?_⟩
  obtain ⟨j, hj, ⟨⟨l, rfl⟩, -⟩⟩ := s.kept_sourceReady g owner n i hi
  have hd' : (s.sourceReady owner n).graphD g = some d := by rw [State.graphD, s.sourceReady_img]; exact hd
  rw [← s.sourceReady_src owner n]
  exact State.forEach_deliverTo _ (State.mem_runningOf hd' ho hj) hd' hj hnew

end Sys2Proof.Machine

namespace Sys2Proof.Machine

set_option Elab.async false

/-! ### A release (R145, R160, R161) -/

/-- The oldest trigger is taken from the list. -/
def State.trigTaken (s : State) (r : List Trigger) : State := s.modFab (fun b => { b with trigs := r })

theorem exec_graphTrigger (s : State) (g : Trigger) (r : List Trigger) (hrun : s.isRunning = true) (h : s.fab.trigs = g :: r) :
    exec .graphTrigger s = .next ((s.trigTaken r).releaseAt g) := by
  show Host.Outcome.next (s.running _) = _
  rw [State.running_of hrun, h]
  rfl

/-- The run that a trigger releases. -/
def Trigger.inst (t : Trigger) (d : GraphD) : Inst :=
  { graph := t.graph, trigAt := t.at_, start := t.start, serves := t.serves, margin := bandMargin t.band, seen := [],
    tasks := List.replicate d.tasks.length .waiting, old := [], bodies := [], recs := [], lat := t.lat }

/-- The overrun that a trigger counts while its graph runs. -/
def State.overrun (s : State) (d : GraphD) : State :=
  if d.axis == 0 then s.inc F.HB_LATE_OVR_A else if d.axis == 1 then s.inc F.HB_LATE_OVR_B else s

section
variable {s : State} {t : Trigger} {d : GraphD} (hrun : s.isRunning = true) (hd : s.graphD t.graph = some d)
  (hbg : d.axis = 3 → s.fab.bgStop = false)
include hrun hd hbg

theorem State.releaseAt_running {i : Inst} (hi : s.instOf t.graph = some i) : s.releaseAt t = s.overrun d := by
  have hgo : (!s.isRunning || (d.axis == 3 && s.fab.bgStop)) = false := by
    by_cases h : d.axis = 3
    · simp [hrun, hbg h]
    · simp [hrun, h]
  rw [State.releaseAt]
  simp only [hd, hgo, hi, Bool.false_eq_true, if_false]
  rfl

theorem State.releaseAt_new (hi : s.instOf t.graph = none) :
    s.releaseAt t = (((s.set F.HB_PACE_STAT_MARGIN_BAND t.band).putInst (t.inst d)).readyTasks t.graph).placeReady := by
  have hgo : (!s.isRunning || (d.axis == 3 && s.fab.bgStop)) = false := by
    by_cases h : d.axis = 3
    · simp [hrun, hbg h]
    · simp [hrun, h]
  rw [State.releaseAt]
  simp only [hd, hgo, hi, Bool.false_eq_true, if_false, Trigger.inst]

end

theorem State.fld_inc_same (s : State) (f : Fld) (h : f.ok = true) : (s.inc f).fld f = min f.top (s.fld f + 1) :=
  State.fld_set_of_lt _ _ _ h (Nat.lt_of_le_of_lt (Nat.min_le_left _ _) (Nat.sub_one_lt (Nat.two_pow_pos _).ne'))

theorem State.fld_inc_apart (s : State) {f g : Fld} (h : f.ok = true) (hg : f.apart g = true) : (s.inc f).fld g = s.fld g :=
  State.fld_set_apart _ _ h hg

/-- An overrun counts for the owner, and the Bandstand goes on as it was. -/
theorem State.overrun_vals (s : State) (d : GraphD) :
    (s.overrun d).fab = s.fab ∧
      (s.overrun d).fld F.HB_LATE_OVR_A = (if d.axis = 0 then min 255 (s.fld F.HB_LATE_OVR_A + 1) else s.fld F.HB_LATE_OVR_A) ∧
      (s.overrun d).fld F.HB_LATE_OVR_B = (if d.axis = 1 then min 255 (s.fld F.HB_LATE_OVR_B + 1) else s.fld F.HB_LATE_OVR_B) := by
  have hfr : Fr 0x2000000000000 s (s.overrun d) := Fr.ite (State.inc_fr (Fr.refl _ _)) (Fr.ite (State.inc_fr (Fr.refl _ _)) (Fr.refl _ _))
  have htop (f : Fld) (h : f ∈ [F.HB_LATE_OVR_A, F.HB_LATE_OVR_B]) : f.top = 255 := by revert f; decide
  refine ⟨hfr.keep_fab, ?_⟩
  rw [State.overrun]
  by_cases h0 : d.axis = 0
  · rw [if_pos (beq_iff_eq.2 h0), if_pos h0, if_neg (by omega), State.fld_inc_same _ _ rfl, State.fld_inc_apart _ rfl rfl, htop _ (by simp)]
    exact ⟨rfl, rfl⟩
  · rw [if_neg (by simpa using h0), if_neg h0]
    by_cases h1 : d.axis = 1
    · rw [if_pos (beq_iff_eq.2 h1), if_pos h1, State.fld_inc_same _ _ rfl, State.fld_inc_apart _ rfl rfl, htop _ (by simp)]
      exact ⟨rfl, rfl⟩
    · rw [if_neg (by simpa using h1), if_neg h1]
      exact ⟨rfl, rfl⟩

/-! #### What a release readies, and what it leaves waiting -/

theorem nth_replicate {α : Type} (d v : α) (n m : Nat) (h : m < n) : nth d (List.replicate n v) m = v := by
  induction n generalizing m with
  | zero => exact absurd h (Nat.not_lt_zero m)
  | succ n ih =>
    cases m with
    | zero => rfl
    | succ m => exact ih m (Nat.lt_of_succ_lt_succ h)

theorem State.ready_setTStat (s : State) (g t : Nat) (st : TStat) : (s.setTStat g t st).fab.ready = s.fab.ready := by
  rw [State.setTStat]
  split <;> rfl

theorem State.trigs_setTStat (s : State) (g t : Nat) (st : TStat) : (s.setTStat g t st).fab.trigs = s.fab.trigs := by
  rw [State.setTStat]
  split <;> rfl

theorem State.mem_ready_readyOne (g : Nat) (dl : Option Nat) (l : List Nat) (s : State) (q : QTask)
    (h : q ∈ (s.forEach l (State.readyOne g dl)).fab.ready) : q ∈ s.fab.ready ∨ q.graph = g ∧ q.task ∈ l := by
  induction l generalizing s with
  | nil => exact Or.inl h
  | cons t r ih =>
    rcases ih _ h with h | ⟨hg, ht⟩
    · have hmem : q ∈ (s.setTStat g t .ready).fab.ready ++ [⟨g, t, dl, (s.setTStat g t .ready).fab.relSeq⟩] := h
      rw [State.ready_setTStat] at hmem
      rcases List.mem_append.1 hmem with h | h
      · exact Or.inl h
      · obtain rfl := List.mem_singleton.1 h
        exact Or.inr ⟨rfl, List.mem_cons_self⟩
    · exact Or.inr ⟨hg, List.mem_cons_of_mem t ht⟩

/-- A task whose inputs have not all been delivered stands as before once the others are ready and placed. -/
theorem State.tstat_readyPlaced {s : State} {g : Nat} {d : GraphD} {i : Inst} (hd : s.graphD g = some d) (hi : s.instOf g = some i)
    (hready : s.fab.ready = []) (m : Nat) (hm : m ∉ i.complete d) : (s.readyTasks g).placeReady.tstat g m = s.tstat g m := by
  have hrel : QueueRel (fun s t => t.tstat g m = s.tstat g m) := queueRel_eq (·.tstat g m) (fun _ _ _ => rfl) (fun _ _ _ => rfl)
  refine (hrel.placeReady _ fun q hq u => ?_).trans (hrel.readyTasks g s fun d' i' hd' hi' t ht u => ?_)
  · rw [State.readyTasks_some hd hi] at hq
    rcases State.mem_ready_readyOne _ _ _ _ _ hq with h | ⟨-, ht⟩
    · rw [hready] at h; exact absurd h (by simp)
    · exact u.tstat_setTStat_other _ _ _ _ _ fun _ h => hm (h ▸ ht)
  · rw [hd] at hd'
    rw [hi] at hi'
    obtain rfl := Option.some.inj hd'
    obtain rfl := Option.some.inj hi'
    exact u.tstat_setTStat_other _ _ _ _ _ fun _ h => hm (h ▸ ht)

theorem State.trigs_readyPlaced (s : State) (g : Nat) : (s.readyTasks g).placeReady.fab.trigs = s.fab.trigs := by
  have hrel : QueueRel (fun s t => t.fab.trigs = s.fab.trigs) := queueRel_eq (·.fab.trigs) (fun _ _ _ => rfl) (fun _ _ _ => rfl)
  exact (hrel.placeReady _ fun _ _ u => u.trigs_setTStat _ _ _).trans (hrel.readyTasks g s fun _ _ _ _ _ _ u => u.trigs_setTStat _ _ _)

/-- R12: of a new run exactly the tasks with an input wait. -/
theorem State.waiting_released {s : State} {t : Trigger} {d : GraphD} (hd : s.graphD t.graph = some d) (hi : s.instOf t.graph = some (t.inst d))
    (hready : s.fab.ready = []) :
    ∃ j, (s.readyTasks t.graph).placeReady.instOf t.graph = some j ∧ (t.inst d).kept j ∧
      ∀ m, m < d.tasks.length → (nth .gone j.tasks m = .waiting ↔ d.inEdges m ≠ []) := by
  obtain ⟨i, hmid, hkept, hdone⟩ := State.readyTasks_done hd hi
  obtain ⟨j, hj, hkept'⟩ := State.kept_placeReady t.graph _ i hmid
  refine ⟨j, hj, Inst.kept_trans hkept hkept', fun m hm => ⟨fun hw hin => ?_, fun hin => ?_⟩⟩
  · exact hdone m (Inst.mem_complete.2 ⟨hm, nth_replicate _ _ _ _ hm, by simp [hin]⟩) (hkept'.2 m hw)
  · have hnot : m ∉ (t.inst d).complete d := fun h => by
      obtain ⟨-, -, hall⟩ := Inst.mem_complete.1 h
      exact hin (List.eq_nil_iff_forall_not_mem.2 fun e he => absurd (hall e he) (by simp [Trigger.inst]))
    have hsame := State.tstat_readyPlaced hd hi hready m hnot
    rw [State.tstat, State.tstat, hj, hi] at hsame
    exact (Option.some.inj hsame).trans (nth_replicate _ _ _ _ hm)

/-- R145, R160, R161: the run that a trigger releases, with its instant, the update instant that it serves and its margin. -/
theorem State.releaseAt_releases {s : State} {t : Trigger} {d : GraphD} (hrun : s.isRunning = true) (hd : s.graphD t.graph = some d)
    (hbg : d.axis = 3 → s.fab.bgStop = false) (hi : s.instOf t.graph = none) (hready : s.fab.ready = []) :
    ∃ i, (s.releaseAt t).instOf t.graph = some i ∧ i.trigAt = t.at_ ∧ i.serves = t.serves ∧ i.margin = bandMargin t.band ∧
      (s.releaseAt t).fld F.HB_PACE_STAT_MARGIN_BAND = t.band % 8 ∧ (s.releaseAt t).fab.trigs = s.fab.trigs ∧
      ∀ j, j < d.tasks.length → (nth .gone i.tasks j = .waiting ↔ d.inEdges j ≠ []) := by
  have hset : Fr 0x400000000000 s (s.set F.HB_PACE_STAT_MARGIN_BAND t.band) := State.set_fr (Fr.refl _ _)
  rw [State.releaseAt_new hrun hd hbg hi]
  generalize hu : s.set F.HB_PACE_STAT_MARGIN_BAND t.band = u at hset
  have hud : (u.putInst (t.inst d)).graphD t.graph = some d := by rw [← hd, State.graphD, State.graphD, ← hset.keep_img]; rfl
  have hur : (u.putInst (t.inst d)).fab.ready = [] := by rw [← hready, ← hset.keep_fab]; rfl
  have hut : (u.putInst (t.inst d)).fab.trigs = s.fab.trigs := by rw [← hset.keep_fab]; rfl
  obtain ⟨i, hinst, ⟨⟨l, rfl⟩, -⟩, hwaiting⟩ := State.waiting_released hud (State.instOf_putInst_self u _ rfl) hur
  have hfr : Fr 0x400 u (((u.putInst (t.inst d)).readyTasks t.graph).placeReady) :=
    State.placeReady_fr (State.readyTasks_fr (State.putInst_fr (Fr.refl _ _)))
  refine ⟨_, hinst, rfl, rfl, rfl, ?_, (State.trigs_readyPlaced _ _).trans hut, hwaiting⟩
  rw [hfr.keep_fld (by decide), ← hu, State.fld_set _ _ _ rfl, show 2 ^ F.HB_PACE_STAT_MARGIN_BAND.width = 8 from rfl]

/-- Settles O26: the oldest trigger releases its graph or counts an overrun, and a delivery readies what it completes. -/
theorem triggersReleaseGraphsAndDeliveriesReadyTasks : Obligations.TriggersReleaseGraphsAndDeliveriesReadyTasks := by
  intro s hrun
  refine ⟨fun g r d htrigs hd => ⟨fun i hi hbg => ?_, fun hi hbg hready => ?_⟩, fun owner n => ⟨fun hmay => ?_, fun hmay => ?_⟩⟩
  · obtain ⟨hfab, hovr⟩ := (s.trigTaken r).overrun_vals d
    refine ⟨_, exec_graphTrigger s g r hrun htrigs, ?_⟩
    rw [State.releaseAt_running (s := s.trigTaken r) hrun hd hbg hi]
    exact ⟨hfab, hovr⟩
  · obtain ⟨i, hinst, hvals⟩ := State.releaseAt_releases (s := s.trigTaken r) hrun hd hbg hi hready
    exact ⟨_, i, exec_graphTrigger s g r hrun htrigs, hinst, hvals⟩
  · rw [exec_sourceDelivery s owner n hrun, if_neg (by rw [hmay]; decide)]
  · exact sourceDelivery_reaches s owner n hrun hmay

end Sys2Proof.Machine

namespace Sys2Proof.Machine

set_option Elab.async false

/-! ### Writes that change nothing -/

theorem putField_fieldOf (f : Fld) (w : Word) (hf : f.ok = true) : putField f w (fieldOf f w) = w := by
  refine BitVec.eq_of_toNat_eq (Nat.eq_of_testBit_eq fun n => ?_)
  rw [testBit_putField f w _ n hf, fieldOf, testBit_bits]
  split
  next hn => rw [Nat.sub_add_cancel hn.1, decide_eq_true (by omega), Bool.true_and]
  next => rfl

/-- A field set to the value it has leaves every register. -/
theorem State.rd_set_same (s : State) {f : Fld} {v : Nat} (hf : f.ok = true) (hv : s.fld f = v) (a : Nat) :
    (s.set f v).rd a = s.rd a := by
  subst hv
  rw [State.rd_set]
  split
  next ha => rw [State.fld, putField_fieldOf f _ hf, ha]
  next => rfl

/-- So does a bit cleared in a field that is 0. -/
theorem State.rd_setBit_zero (s : State) {f : Fld} (n : Nat) (hf : f.ok = true) (h0 : s.fld f = 0) (a : Nat) :
    (s.setBit f n false).rd a = s.rd a := by
  have hbit : bit 0 n = false := by simp [bit_eq_testBit]
  simp only [State.setBit, h0, hbit, Bool.false_eq_true, if_false]
  exact s.rd_set_same hf h0 a

/-! ### The gates of a die brought to its commands: `settle` in its parts -/

theorem bit_withBit (m c i : Nat) (b : Bool) : bit (withBit m c b) i = if i = c then b else bit m i := by
  have h := bit_putBit m c i b
  cases b <;> simpa [withBit] using h

/-- What settling a die reaches. -/
abbrev settleReach : Nat := 0x1800000000000000000000000000000000000000000000000000060000

theorem State.settle_reach (s : State) (x : Axis) : Fr settleReach s (s.settle x) := State.settle_fr (Fr.refl _ _)

/-- The turn-offs. -/
def State.settleOff (s : State) (x : Axis) (l : List Nat) : State :=
  s.forEach l (fun s c => if s.mayBeOn x c then s else s.gateOff x c)

/-- The turn-ons. -/
def State.settleOn (s : State) (x : Axis) (l : List Nat) : State :=
  s.forEach l (fun s c => if s.mayBeOn x c then s.gateOn x c else s)

/-- What it shows of them. -/
def State.settleShow (s : State) (x : Axis) : State :=
  (s.modTr x (fun t => { t with ilk := t.ilkEnd })).setB (F.TR_CSC_STAT_HW_ON x) (s.brakeHeld x)

theorem State.settle_eq (s : State) (x : Axis) :
    s.settle x = ((s.settleOff x (List.range 7)).settleOn x (List.range 7)).settleShow x := rfl

theorem State.gates_gateOffAt (s : State) (x : Axis) (c k why : Nat) :
    ((s.gateOffAt x c k why).tr x).gates = withBit (s.tr x).gates c false := by
  rw [State.gateOffAt]
  split
  next => simp only [State.countEdge, State.setBit, State.tr_modTr, State.tr_set]
  next h => simp [withBit, h]

theorem State.gates_gateOff (s : State) (x : Axis) (c : Nat) :
    ((s.gateOff x c).tr x).gates = withBit (s.tr x).gates c false := by
  simp only [State.gateOff]
  split
  next => rw [State.tr_modTr, State.gates_gateOffAt]
  next => exact State.gates_gateOffAt ..

theorem State.gates_settleShow (s : State) (x y : Axis) : ((s.settleShow x).tr y).gates = (s.tr y).gates := by
  rw [State.settleShow, State.setB, State.tr_set]
  cases x <;> cases y <;> rfl

/-! #### With TMODE high (R43) -/

theorem State.mayBeOn_tmode (s : State) (x : Axis) (c : Nat) (h : s.pins.tmode = true) : s.mayBeOn x c = false := by
  simp [State.mayBeOn, h]

theorem State.settleOn_tmode (s : State) (x : Axis) (l : List Nat) (h : s.pins.tmode = true) : s.settleOn x l = s := by
  induction l with
  | nil => rfl
  | cons c r ih =>
    refine Eq.trans ?_ ih
    simp only [State.settleOn, State.forEach, List.foldl_cons, s.mayBeOn_tmode x c h, Bool.false_eq_true, if_false]

theorem State.settleOff_tmode (s : State) (x : Axis) (l : List Nat) (h : s.pins.tmode = true) :
    (s.settleOff x l).pins.tmode = true ∧ ∀ i, bit ((s.settleOff x l).tr x).gates i = (bit (s.tr x).gates i && decide (i ∉ l)) := by
  induction l generalizing s with
  | nil => exact ⟨h, fun i => by simp [State.settleOff, State.forEach]⟩
  | cons c r ih =>
    have hpins : (s.gateOff x c).pins.tmode = true := by
      rw [Fr.keep_pins (State.gateOff_fr (κ := settleReach) (Fr.refl _ s))]; exact h
    have hstep : s.settleOff x (c :: r) = (s.gateOff x c).settleOff x r := by
      simp only [State.settleOff, State.forEach, List.foldl_cons, s.mayBeOn_tmode x c h, Bool.false_eq_true, if_false]
    obtain ⟨htm, hbits⟩ := ih (s.gateOff x c) hpins
    rw [hstep]
    refine ⟨htm, fun i => ?_⟩
    rw [hbits, State.gates_gateOff, bit_withBit]
    by_cases hi : i = c <;> simp [hi]

/-- R43: with TMODE high every channel is off. -/
theorem State.allOff_settle_tmode (s : State) (x : Axis) (h : s.pins.tmode = true) : (s.settle x).allOff x := by
  intro c hc
  obtain ⟨htm, hbits⟩ := s.settleOff_tmode x (List.range 7) h
  rw [State.settle_eq, State.gates_settleShow, State.settleOn_tmode _ _ _ htm, hbits]
  simp [hc]

/-! #### The other die stands -/

theorem State.tr_gateOffAt_other (s : State) (x : Axis) (c k why : Nat) : (s.gateOffAt x c k why).tr x.other = s.tr x.other := by
  rw [State.gateOffAt]
  split
  next => simp only [State.countEdge, State.setBit, State.tr_modTr_other, State.tr_set]
  next => rfl

theorem State.tr_gateOff_other (s : State) (x : Axis) (c : Nat) : (s.gateOff x c).tr x.other = s.tr x.other := by
  simp only [State.gateOff]
  split
  next => rw [State.tr_modTr_other, State.tr_gateOffAt_other]
  next => exact State.tr_gateOffAt_other ..

theorem State.tr_gateOn_other (s : State) (x : Axis) (c : Nat) : (s.gateOn x c).tr x.other = s.tr x.other := by
  simp only [State.gateOn]
  split
  next => rfl
  next =>
    split
    next => rfl
    next => rw [State.countEdge, State.tr_modTr_other, State.tr_modTr_other]

theorem State.tr_settle_other (s : State) (x : Axis) : (s.settle x).tr x.other = s.tr x.other := by
  rw [State.settle_eq, State.settleShow, State.setB, State.tr_set, State.tr_modTr_other]
  refine (State.forEach_keeps (·.tr x.other) _ (fun u c => ?_) _ _).trans (State.forEach_keeps (·.tr x.other) _ (fun u c => ?_) _ _)
  · split
    · exact u.tr_gateOn_other x c
    · rfl
  · exact State.ite_keeps (·.tr x.other) _ u _ (u.tr_gateOff_other x c)

/-- R43: so are both dies once they have been settled in turn. -/
theorem State.allOff_settles_tmode (s : State) (h : s.pins.tmode = true) (y : Axis) : ((s.settle .a).settle .b).allOff y := by
  have hA : (s.settle .a).pins.tmode = true := by rw [(s.settle_reach .a).keep_pins]; exact h
  have hstands : ((s.settle .a).settle .b).tr .a = (s.settle .a).tr .a := (s.settle .a).tr_settle_other .b
  cases y with
  | a => rw [State.allOff, hstands]; exact s.allOff_settle_tmode .a h
  | b => exact (s.settle .a).allOff_settle_tmode .b hA

/-! #### A die in reset: no register changes -/

/-- No desaturation input shows, so that turning a channel off clears nothing. -/
theorem State.rd_gateOff_quiet (s : State) (x : Axis) (c : Nat) (h : s.fld (F.TR_DS_STAT_DS_NOW x) = 0) (a : Nat) :
    (s.gateOff x c).rd a = s.rd a := by
  have hat (k why : Nat) : (s.gateOffAt x c k why).rd a = s.rd a := by
    rw [State.gateOffAt]
    split
    next =>
      rw [State.countEdge, State.modTr_rd, State.rd_setBit_zero _ _ rfl (by rw [State.modTr_fld]; exact h), State.modTr_rd]
    next => rfl
  simp only [State.gateOff]
  split
  next => rw [State.modTr_rd]; exact hat _ _
  next => exact hat _ _

theorem State.rd_gateOn (s : State) (x : Axis) (c a : Nat) : (s.gateOn x c).rd a = s.rd a := by
  simp only [State.gateOn]
  split
  next => rfl
  next =>
    split
    next => rfl
    next => rw [State.countEdge, State.modTr_rd, State.modTr_rd]

theorem State.rd_settleOff_quiet (s : State) (x : Axis) (l : List Nat) (h : s.fld (F.TR_DS_STAT_DS_NOW x) = 0) (a : Nat) :
    (s.settleOff x l).rd a = s.rd a := by
  induction l generalizing s with
  | nil => rfl
  | cons c r ih =>
    have hstep (b : Nat) : (if s.mayBeOn x c then s else s.gateOff x c).rd b = s.rd b :=
      State.ite_keeps (·.rd b) _ s _ (s.rd_gateOff_quiet x c h b)
    exact (ih _ (by rw [State.fld, hstep]; exact h)).trans (hstep a)

theorem State.rd_settleOn (s : State) (x : Axis) (l : List Nat) (a : Nat) : (s.settleOn x l).rd a = s.rd a := by
  refine State.forEach_keeps (·.rd a) _ (fun u c => ?_) _ _
  split
  · exact u.rd_gateOn x c a
  · rfl

theorem State.brakeHeld_reset (s : State) (x : Axis) (h : s.isUp = false) : s.brakeHeld x = false := by
  simp [State.brakeHeld, State.isRunning, h]

/-- A die in reset whose registers show neither a desaturation nor Cascade on keeps them as its gates are settled. -/
theorem State.rd_settle_reset (s : State) (x : Axis) (hup : s.isUp = false) (hds : s.fld (F.TR_DS_STAT_DS_NOW x) = 0)
    (hhw : s.fld (F.TR_CSC_STAT_HW_ON x) = 0) (a : Nat) : (s.settle x).rd a = s.rd a := by
  rw [State.settle_eq]
  have hrd (b : Nat) : ((s.settleOff x (List.range 7)).settleOn x (List.range 7)).rd b = s.rd b :=
    (State.rd_settleOn _ x _ b).trans (s.rd_settleOff_quiet x _ hds b)
  have hfr : Fr settleReach s ((s.settleOff x (List.range 7)).settleOn x (List.range 7)) :=
    Fr.forEach (Fr.forEach (Fr.refl _ _) fun t c ht => Fr.ite ht (State.gateOff_fr ht)) fun t c ht => Fr.ite (State.gateOn_fr ht) ht
  generalize (s.settleOff x (List.range 7)).settleOn x (List.range 7) = u at hrd hfr
  rw [State.settleShow, u.brakeHeld_reset x (by rw [State.isUp, hfr.keep_die]; exact hup), State.setB,
    State.rd_set_same _ rfl (by rw [State.modTr_fld, State.fld, hrd]; exact hhw), State.modTr_rd, hrd]

end Sys2Proof.Machine

namespace Sys2Proof.Machine

set_option Elab.async false

/-! ### Leaving reset (R68, R74) -/

/-- What leaving reset reaches: the die, the pins and GH.BOOT_STATUS. -/
abbrev leaveReach : Nat := 0x200000006

theorem State.leaveReset_reach (s : State) (b : Nat) : Fr leaveReach s (s.leaveReset b) := State.leaveReset_fr (Fr.refl _ _)

theorem State.leaveReset_free (s : State) (b : Nat) (htm : s.pins.tmode = false) (hrn : s.pins.resetN = true) :
    s.leaveReset b = ((s.modPins (fun p => { p with bootsel := b % 4 })).toDie .up).set F.GH_BOOT_STATUS_BOOTSEL (b % 4) := by
  simp [State.leaveReset, State.modPins, htm, hrn]

theorem State.leaveReset_pinHeld (s : State) (b : Nat) (htm : s.pins.tmode = false) (hrn : s.pins.resetN = false) :
    s.leaveReset b = (s.modPins (fun p => { p with bootsel := b % 4 })).toDie .pinReset := by
  simp [State.leaveReset, State.modPins, htm, hrn]

theorem State.pins_leaveReset (s : State) (b : Nat) : (s.leaveReset b).pins = { s.pins with bootsel := b % 4 } := by
  simp only [State.leaveReset]
  split
  · rfl
  · split <;> rfl

theorem State.leaveReset_up (s : State) (b : Nat) (htm : s.pins.tmode = false) (hrn : s.pins.resetN = true) :
    (s.leaveReset b).isUp = true ∧ (s.leaveReset b).fld F.GH_BOOT_STATUS_BOOTSEL = b % 4 := by
  rw [s.leaveReset_free b htm hrn]
  exact ⟨rfl, State.fld_set_of_lt _ _ _ rfl (Nat.mod_lt _ (by decide))⟩

theorem State.leaveReset_boots (s : State) (b : Nat) (h0 : s.fld F.GH_BOOT_STATUS_STATE = 0) : (s.leaveReset b).bootsWith b := by
  intro htm hrn
  rw [State.pins_leaveReset] at htm hrn
  obtain ⟨hup, hsel⟩ := s.leaveReset_up b htm hrn
  refine ⟨hup, hsel, ?_⟩
  rw [s.leaveReset_free b htm hrn, State.fld_set_apart _ _ rfl rfl]
  exact h0

/-! ### A warm reset: what it starts from and what it adds -/

theorem warmWord_none {a : Nat} (h : keptMask a = 0) (w : Word) : warmWord a w = regPor a := by
  refine BitVec.eq_of_getLsbD_eq fun i hi => ?_
  rw [warmWord, h, BitVec.getLsbD_or, BitVec.getLsbD_and, BitVec.getLsbD_and, BitVec.getLsbD_not]
  simp [hi]

/-- A register of which a warm reset keeps no field reads its reset value, whatever the store held. -/
theorem cget_warmRegs_none (l : List (Nat × Word)) (a : Nat) (h : keptMask a = 0) : cget regPor (warmRegs l) a = regPor a := by
  suffices H : ∀ m : List (Nat × Word), cget regPor m a = regPor a → cget regPor (l.foldl (fun m e =>
      cset regPor m e.1 ((regPor e.1 &&& ~~~(keptMask e.1)) ||| (e.2 &&& keptMask e.1))) m) a = regPor a from H [] rfl
  induction l with
  | nil => exact fun m hm => hm
  | cons e r ih =>
    refine fun m hm => ih _ ?_
    rw [cget_cset]
    split
    next ha => subst ha; exact warmWord_none h e.2
    next => exact hm

/-- The state of a warm reset before the dies are settled and the cause is recorded. -/
def State.warmBase (s : State) : State :=
  { s.resetBlocks with
    regs := warmRegs s.regs
    mem := s.mem.filter (fun e => decide (e.1 < 0x200000))
    ecc1 := s.ecc1.filter (fun a => decide (a < 0x200000))
    ecc2 := s.ecc2.filter (fun a => decide (a < 0x200000))
    found := s.found.filter (fun e => decide (e.1 < 0x200000))
    org := { Org.reset with samples := s.org.samples, first := s.org.first } }

/-- The dies of a state after a reset: what they still show, and their gates. -/
def State.diesReset (s : State) : State := (((s.showAsc .a).showAsc .b).settle .a).settle .b

theorem State.warmReset_eq (s : State) (c : Option Fld) : s.warmReset c = causeBit c s.warmBase.diesReset := rfl

/-- What the dies reach in a reset. -/
abbrev diesReach : Nat := 0x1c00000000000000000000000000000000000000000000000000060000

theorem State.diesReset_reach (s : State) : Fr diesReach s s.diesReset :=
  State.settle_fr (State.settle_fr (State.showAsc_fr (State.showAsc_fr (Fr.refl _ _))))

theorem causeBit_reach (s : State) (f : Fld) (hf : f.reg = A.GH_RST_CAUSE) : Fr 0x400000000 s (causeBit (some f) s) :=
  State.inc_fr (State.set_fr (Fr.refl _ _) (by rw [hf]; decide))

/-- R75: after a warm reset the boot stands at its first step. -/
theorem State.bootState_warmReset (s : State) (f : Fld) (hf : f.reg = A.GH_RST_CAUSE) :
    (s.warmReset (some f)).fld F.GH_BOOT_STATUS_STATE = 0 := by
  rw [State.warmReset_eq, (causeBit_reach _ f hf).keep_fld (by decide), s.warmBase.diesReset_reach.keep_fld (by decide), State.fld]
  have hreg : s.warmBase.rd F.GH_BOOT_STATUS_STATE.reg = regPor F.GH_BOOT_STATUS_STATE.reg := cget_warmRegs_none s.regs _ (by decide)
  rw [hreg]
  decide

/-- R96: a warm reset by RESET_N records its cause. -/
theorem State.causePin_warmReset (s : State) : (s.warmReset (some F.GH_RST_CAUSE_PIN)).fld F.GH_RST_CAUSE_PIN = 1 := by
  rw [State.warmReset_eq, causeBit, State.fld_inc_apart _ rfl rfl, State.fld_set_of_lt _ _ _ rfl (by decide)]

/-! ### A power-on reset (R66, R72, R173) -/

/-- The state of a power-on reset before the dies are settled. -/
def State.porBase (s : State) : State :=
  { s.resetBlocks with
    die := .por
    regs := []
    mem := []
    ecc1 := []
    ecc2 := []
    found := []
    trA := { (s.sinksAtReset .a).resetKeep with gap := Tr.reset.gap, onAt := Tr.reset.onAt }
    trB := { (s.sinksAtReset .b).resetKeep with gap := Tr.reset.gap, onAt := Tr.reset.onAt }
    axA := Ax.reset
    axB := Ax.reset
    org := Org.reset
    sun := Sun.reset }

theorem State.porReset_eq (s : State) : s.porReset = s.porBase.diesReset := rfl

theorem State.rd_showAsc (s : State) (x : Axis) (a : Nat) (ha : a ≠ A.TR_SAFE_STAT x) : (s.showAsc x).rd a = s.rd a := by
  rw [State.showAsc]
  split
  next => rw [State.rd_set_ne _ _ _ _ ha, State.rd_set_ne _ _ _ _ ha, State.rd_set_ne _ _ _ _ ha]
  next => rfl

/-- The registers of a die in reset at its reset values stand as the dies are settled, but for what SAFE_STAT shows. -/
theorem State.rd_diesReset (s : State) (hup : s.isUp = false) (hreg : ∀ a, s.rd a = regPor a) (a : Nat)
    (ha : a ∉ [A.TR_SAFE_STAT .a, A.TR_SAFE_STAT .b]) : s.diesReset.rd a = regPor a := by
  have hshow (b : Nat) (hb : b ∉ [A.TR_SAFE_STAT .a, A.TR_SAFE_STAT .b]) : ((s.showAsc .a).showAsc .b).rd b = regPor b := by
    simp only [List.mem_cons, List.not_mem_nil, or_false, not_or] at hb
    rw [State.rd_showAsc _ _ _ hb.2, State.rd_showAsc _ _ _ hb.1, hreg]
  have hfr : Fr diesReach s ((s.showAsc .a).showAsc .b) := State.showAsc_fr (State.showAsc_fr (Fr.refl _ _))
  rw [State.diesReset]
  generalize (s.showAsc .a).showAsc .b = u at hshow hfr
  have hu : u.isUp = false := by rw [State.isUp, hfr.keep_die]; exact hup
  have hz (f : Fld) (hf : f.reg ∉ [A.TR_SAFE_STAT .a, A.TR_SAFE_STAT .b]) (h0 : fieldOf f (regPor f.reg) = 0) : u.fld f = 0 := by
    rw [State.fld, hshow _ hf, h0]
  have hA (b : Nat) : (u.settle .a).rd b = u.rd b :=
    u.rd_settle_reset .a hu (hz _ (by decide) (by decide)) (hz _ (by decide) (by decide)) b
  have hB : ((u.settle .a).settle .b).rd a = (u.settle .a).rd a :=
    (u.settle .a).rd_settle_reset .b (by rw [State.isUp, (u.settle_reach .a).keep_die]; exact hu)
      (by rw [State.fld, hA]; exact hz _ (by decide) (by decide)) (by rw [State.fld, hA]; exact hz _ (by decide) (by decide)) a
  rw [hB, hA, hshow a ha]

theorem State.porReset_vals (s : State) :
    s.porReset.die = .por ∧ (∀ a, s.porReset.byte a = 0) ∧ s.porReset.sun = Sun.reset ∧
      ∀ a, a ∉ [A.TR_SAFE_STAT .a, A.TR_SAFE_STAT .b] → s.porReset.rd a = regPor a := by
  have hfr := s.porBase.diesReset_reach
  rw [State.porReset_eq]
  refine ⟨hfr.keep_die, fun a => ?_, hfr.keep_sun, s.porBase.rd_diesReset rfl fun a => rfl⟩
  rw [State.byte, hfr.keep_mem]
  rfl

end Sys2Proof.Machine

namespace Sys2Proof.Machine

set_option Elab.async false

/-! ### The commands of the supplies and of the lands RESET_N and TMODE -/

theorem exec_porExit (s : State) (b : Nat) (h : s.die = .por) : exec (.porExit b) s = .next (s.leaveReset b) := by
  show Host.Outcome.next _ = _
  rw [if_pos h]

theorem exec_supplyBrownout (s : State) (ns : Nat) :
    exec (.supplyBrownout ns) s = .next (if 1000 < ns then s.porReset else if ns < 200 then s
      else if Config.freeBit s.free then s.spent.porReset else s.spent) := rfl

/-- R69: a pulse of 100 ns to 1 µs on RESET_N of a die that is up is nothing, or a whole warm reset with the boot. -/
theorem exec_resetPin_glitch (s : State) (ns b : Nat) (h100 : 100 ≤ ns) (h1000 : ns < 1000) (hup : s.die = .up) :
    exec (.resetPin ns b) s = .next (if Config.freeBit s.free = true
      then (s.spent.warmReset (some F.GH_RST_CAUSE_PIN)).leaveReset b else s.spent) := by
  show Host.Outcome.next _ = _
  rw [if_neg (by omega), if_neg (by omega)]
  simp only [State.freshBit, hup, and_true]

theorem exec_resetPinRelease (s : State) (b : Nat) (h : s.die = .pinReset) :
    exec (.resetPinRelease b) s = .next ((s.modPins (fun p => { p with resetN := true })).leaveReset b) := by
  show Host.Outcome.next _ = _
  rw [if_pos (by exact h)]

/-- TMODE as a level that the dies obey. -/
def State.tmodePin (s : State) (high : Bool) : State := s.modPins (fun p => { p with tmode := high })

theorem exec_tmodeHigh_up (s : State) (b : Nat) (h : s.die = .up) :
    exec (.tmodeHigh true b) s = .next (((((s.tmodePin true).warmReset none).toDie .tmode).settle .a).settle .b) := by
  have hdie : ¬((s.tmodePin true).die = .por ∨ (s.tmodePin true).die = .thermal) := by
    show ¬(s.die = .por ∨ s.die = .thermal)
    rw [h]; decide
  show Host.Outcome.next _ = _
  rw [if_pos rfl]
  exact congrArg (fun u : State => Host.Outcome.next ((u.settle .a).settle .b)) (if_neg hdie)

/-- The dies obey TMODE low. -/
def State.tmodeFalls (s : State) : State := ((s.tmodePin false).settle .a).settle .b

theorem State.tmodeFalls_reach (s : State) : Fr settleReach (s.tmodePin false) s.tmodeFalls :=
  State.settle_fr (State.settle_fr (Fr.refl _ _))

theorem exec_tmodeLow (s : State) (b : Nat) :
    exec (.tmodeHigh false b) s = .next (if s.die = .tmode then s.tmodeFalls.leaveReset b else s.tmodeFalls) := by
  have hdie : s.tmodeFalls.die = s.die := s.tmodeFalls_reach.keep_die
  rw [← hdie]
  exact congrArg Host.Outcome.next (if_neg Bool.false_ne_true)

theorem exec_pllLock (s : State) :
    exec .pllLock s = .next (if s.isUp then (s.modSun (fun u => { u with pll := true })).setCause 0 33 false else s) := rfl

/-! ### Supplies and lands (R65, R66, R68, R69, R43, R173) -/

/-- R65, R74: out of POR, GH.BOOT_STATUS alone of the registers takes the latched BOOTSEL. -/
theorem State.leaveReset_onlyRegs (s : State) (b : Nat) (htm : s.pins.tmode = false) (hrn : s.pins.resetN = true) :
    s.onlyRegs [A.GH_BOOT_STATUS] { s.leaveReset b with die := s.die, pins := s.pins } := by
  rw [s.leaveReset_free b htm hrn]
  exact ⟨rfl, fun a ha => State.rd_set_ne _ _ _ _ (List.ne_of_not_mem_cons ha)⟩

/-- R43: TMODE high holds a die in reset, with both Trellis dies off. -/
theorem tmodeHigh_holds (s : State) (b : Nat) (h : s.die = .up) :
    ∃ t, exec (.tmodeHigh true b) s = .next t ∧ t.die = .tmode ∧ t.pins.tmode = true ∧
      ∀ x c, c < 7 → bit (t.tr x).gates c = false := by
  refine ⟨_, exec_tmodeHigh_up s b h, ?_⟩
  have hpins : ((s.tmodePin true).warmReset none).pins = (s.tmodePin true).pins :=
    (State.warmReset_fr (κ := 0x1fffffffffffffffffffffffffffffffffffffffffffffffffffffffffffffffffffefffff0) (Fr.refl _ _)).keep_pins
  have htm : (((s.tmodePin true).warmReset none).toDie .tmode).pins.tmode = true := by rw [State.toDie_pins, hpins]; rfl
  have hdie : (((s.tmodePin true).warmReset none).toDie .tmode).die = .tmode := rfl
  generalize ((s.tmodePin true).warmReset none).toDie .tmode = u at htm hdie
  have hfr : Fr settleReach u ((u.settle .a).settle .b) := State.settle_fr (u.settle_reach .a)
  exact ⟨hfr.keep_die.trans hdie, by rw [hfr.keep_pins]; exact htm, u.allOff_settles_tmode htm⟩

/-- R68, log entry 38: TMODE low lets a die that it holds go, as far as RESET_N lets it. -/
theorem tmodeLow_lets_go (s : State) (b : Nat) (h : s.die = .tmode) :
    ∃ t, exec (.tmodeHigh false b) s = .next t ∧ t.pins.tmode = false ∧
      if s.pins.resetN then t.isUp = true ∧ t.fld F.GH_BOOT_STATUS_BOOTSEL = b % 4 else t.die = .pinReset := by
  have hpins : s.tmodeFalls.pins = { s.pins with tmode := false } := s.tmodeFalls_reach.keep_pins
  refine ⟨_, exec_tmodeLow s b, ?_⟩
  rw [if_pos h, State.pins_leaveReset, hpins]
  refine ⟨rfl, ?_⟩
  split
  next hrn => exact State.leaveReset_up _ b (by rw [hpins]) (by rw [hpins]; exact hrn)
  next hrn => rw [State.leaveReset_pinHeld _ b (by rw [hpins]) (by rw [hpins]; simpa using hrn)]; rfl

/-- R68: RESET_N rising lets a die that it holds go. -/
theorem resetPinRelease_lets_go (s : State) (b : Nat) (h : s.die = .pinReset) (htm : s.pins.tmode = false) :
    ∃ t, exec (.resetPinRelease b) s = .next t ∧ t.isUp = true ∧ t.pins.resetN = true ∧ t.fld F.GH_BOOT_STATUS_BOOTSEL = b % 4 := by
  obtain ⟨hup, hsel⟩ := (s.modPins (fun p => { p with resetN := true })).leaveReset_up b htm rfl
  exact ⟨_, exec_resetPinRelease s b h, hup, by rw [State.pins_leaveReset]; rfl, hsel⟩

theorem State.setCause_onlyRegs (s : State) (sc code : Nat) (b : Bool) :
    s.onlyRegs [(causeFld sc code).reg] (s.setCause sc code b) :=
  (State.onlyRegs.refl _ s).set (List.mem_singleton_self _)

/-- R173, table 15.2: the lock of the PLL of a die that is up: the PLL runs, and the cause of code 33 ends. -/
theorem pllLock_locks (s : State) (h : s.isUp = true) :
    ∃ t, exec .pllLock s = .next t ∧ t.sun = { s.sun with pll := true } ∧ t.cause 0 33 = false ∧
      s.onlyRegs [(causeFld 0 33).reg] { t with sun := s.sun } := by
  have hex := exec_pllLock s
  rw [if_pos h] at hex
  obtain ⟨heq, hrd⟩ := (s.modSun (fun u => { u with pll := true })).setCause_onlyRegs 0 33 false
  have hcause := (s.modSun (fun u => { u with pll := true })).cause_setCause 0 33 false
  generalize (s.modSun (fun u => { u with pll := true })).setCause 0 33 false = t at hex heq hrd hcause
  exact ⟨t, hex, by rw [heq]; rfl, hcause, by rw [heq]; rfl, hrd⟩

/-- Settles O8, command by command: a power-on reset and a warm reset by what they leave, the lands by `leaveReset`. -/
theorem suppliesAndLandsHoldAndReleaseTheDie : Obligations.SuppliesAndLandsHoldAndReleaseTheDie := by
  intro s ns b
  refine ⟨fun hpor htm hrn => ?_, fun hpor htm hrn => ?_, fun h => ?_, fun h200 h1000 => ?_, fun h100 h1000 hup => ?_, fun h => ?_,
    resetPinRelease_lets_go s b, tmodeHigh_holds s b, tmodeLow_lets_go s b, fun h => ?_, pllLock_locks s, fun h => ?_⟩
  · obtain ⟨hup, hsel⟩ := s.leaveReset_up b htm hrn
    exact ⟨_, exec_porExit s b hpor, hup, hsel, s.leaveReset_onlyRegs b htm hrn⟩
  · exact ⟨_, exec_porExit s b hpor, by rw [s.leaveReset_pinHeld b htm hrn]; rfl⟩
  · exact ⟨_, (exec_supplyBrownout s ns).trans (by rw [if_pos h]), s.porReset_vals⟩
  · refine ⟨_, (exec_supplyBrownout s ns).trans (by rw [if_neg (by omega), if_neg (by omega)]), ?_⟩
    split
    · exact Or.inr s.spent.porReset_vals
    · exact Or.inl rfl
  · refine ⟨_, exec_resetPin_glitch s ns b h100 h1000 hup, ?_⟩
    split
    · refine Or.inr ⟨?_, State.leaveReset_boots _ b (State.bootState_warmReset _ _ rfl)⟩
      rw [(State.leaveReset_reach _ b).keep_fld (by decide), State.causePin_warmReset]
    · exact Or.inl rfl
  · rw [exec_supplyBrownout, if_neg (by omega), if_pos h]
  · refine ⟨_, (exec_tmodeLow s b).trans (by rw [if_neg h]), ?_, s.tmodeFalls_reach.keep_die⟩
    rw [s.tmodeFalls_reach.keep_pins]
    rfl
  · rw [exec_pllLock, if_neg (by simp [h])]

end Sys2Proof.Machine

namespace Sys2Proof.Machine

set_option Elab.async false

/-! ### A torque-off pulse of 50 ns to 200 ns rests on a free value (R58; log entries 1 and 39) -/

/-- RUNNING, axis A in OFF with the bus-overvoltage signal present, SAFE_STAT showing TORQUE_OFF beside the rank of a
thermal-shutdown low ASC: TORQUE_OFF keeps the brake switch off (table 14.2). -/
def torqueOverAsc : State :=
  let s := { State.reset with
    die := .up
    img := { Img.none with axisEn := 3 }
    trA := { Tr.reset with rank := 5, ovSig := true } }
  (s.set F.GH_BOOT_STATUS_STATE 5).set (F.TR_SAFE_STAT_STATE .a) ssTORQUE

theorem torqueOverAsc_idle :
    torqueOverAsc.isRunning = true ∧ torqueOverAsc.brakeHeld .a = false ∧ bit (torqueOverAsc.tr .a).gates 6 = false := by decide +kernel

/-- Torque-off in OFF ends the safe state of that rank (`ascDropped`), SAFE_STAT shows none, and R495 turns the brake switch on. -/
theorem torqueOverAsc_torqueOff : bit ((torqueOverAsc.spent.torqueOff .a).tr .a).gates 6 = true := by decide +kernel

theorem exec_torqueOff_glitch (s : State) (x : Axis) (ns : Nat) (h50 : 50 ≤ ns) (h200 : ns < 200) :
    exec (.torqueOff x ns) s = .next (if Config.freeBit s.free then s.spent.torqueOff x else s.spent) := by
  show Host.Outcome.next _ = _
  rw [if_neg (by omega), if_neg (by omega)]
  rfl

/-- Why O47 is unsettled: it says that a pulse that takes effect leaves every channel off where R495 did not hold the brake switch on,
and from `torqueOverAsc` it leaves the brake switch on. So O47 gives a free value (the pulse takes no effect there), and `Config.freeBit`
is opaque: nothing proves that value, and nothing refutes it. -/
theorem freeBit_of_interlocksSuppliesAndTorqueOffHoldGatesOff (h : Obligations.InterlocksSuppliesAndTorqueOffHoldGatesOff) :
    Config.freeBit 0 = false := by
  obtain ⟨hrun, hheld, hoff⟩ := torqueOverAsc_idle
  obtain ⟨-, -, -, -, -, -, -, -, -, -, -, -, -, -, -, hglitch, -⟩ := h torqueOverAsc .a 100 hrun
  obtain ⟨t, ht, heffect⟩ := hglitch (by decide) (by decide)
  rw [exec_torqueOff_glitch _ _ _ (by decide) (by decide)] at ht
  by_contra hfree
  have hbit : Config.freeBit torqueOverAsc.free = true := (Bool.not_eq_false _).mp hfree
  rw [if_pos hbit] at ht
  obtain rfl := Host.Outcome.next.inj ht
  have hon := torqueOverAsc_torqueOff
  rcases heffect with hsame | ⟨-, -, hall⟩
  · rw [hsame] at hon
    exact absurd (hon.symm.trans hoff) (by decide)
  · exact absurd (hon.symm.trans (hall hheld 6 (by decide))) (by decide)

end Sys2Proof.Machine

namespace Sys2Proof.Machine

set_option Elab.async false

/-! ### What decides which channels of a die may be on -/

/-- A die's record without what the switching of its gates changes: all that `mayBeOn` reads of it. -/
def Tr.asked (t : Tr) : Tr :=
  { t with gates := 0, why := [], ilk := 0, sense := 0, lastSink := [], edge := [], wrote := 0, edgeN := [], onAt := [] }

/-- The registers that the end of a reset writes: no channel depends on them but through RUNNING. -/
abbrev ghResetRegs : List Nat := [A.GH_RST_CAUSE, A.GH_BOOT_STATUS]

/-- Which channels of die x may be on is the same in two states. A phase channel asks nothing of the control die but RUNNING. -/
theorem State.mayBeOn_congr {s t : State} {x : Axis} {c : Nat} (hup : c < 6 ∨ t.isUp = s.isUp) (hrun : t.isRunning = s.isRunning)
    (hrd : ∀ a, a ∉ ghResetRegs → t.rd a = s.rd a) (htm : t.pins.tmode = s.pins.tmode) (htoff : t.toffLow x = s.toffLow x)
    (himg : t.img = s.img) (htr : (t.tr x).asked = (s.tr x).asked) : t.mayBeOn x c = s.mayBeOn x c := by
  have hfld (f : Fld) (hf : f.reg ∉ ghResetRegs) : t.fld f = s.fld f := by rw [State.fld, hrd _ hf, State.fld]
  have hcsc : t.fld (F.TR_CSC_STAT_STATE x) = s.fld (F.TR_CSC_STAT_STATE x) := hfld _ (by cases x <;> decide)
  have hsafe : t.fld (F.TR_SAFE_STAT_STATE x) = s.fld (F.TR_SAFE_STAT_STATE x) := hfld _ (by cases x <;> decide)
  have htest : t.fld (F.STC_TSTAT_STATE (9 + x.ix)) = s.fld (F.STC_TSTAT_STATE (9 + x.ix)) := hfld _ (by cases x <;> decide)
  have hbs : t.fld (F.TR_STAT_BS_UV x) = s.fld (F.TR_STAT_BS_UV x) := hfld _ (by cases x <;> decide)
  have hcmd : (t.tr x).cmd = (s.tr x).cmd := (congrArg Tr.cmd htr :)
  have hsoft : (t.tr x).soft = (s.tr x).soft := (congrArg Tr.soft htr :)
  have hdue : (t.tr x).due = (s.tr x).due := (congrArg Tr.due htr :)
  have hgoff : (t.tr x).goff = (s.tr x).goff := (congrArg Tr.goff htr :)
  have hdrv : (t.tr x).drvLow = (s.tr x).drvLow := (congrArg Tr.drvLow htr :)
  have hlost : (t.tr x).lost = (s.tr x).lost := (congrArg Tr.lost htr :)
  have hov : (t.tr x).ovSig = (s.tr x).ovSig := (congrArg Tr.ovSig htr :)
  have hoc : (t.tr x).brkOc = (s.tr x).brkOc := (congrArg Tr.brkOc htr :)
  have hfit : (t.tr x).csc = (s.tr x).csc := (congrArg Tr.csc htr :)
  have href : (t.tr x).ref = (s.tr x).ref := (congrArg Tr.ref htr :)
  have hheld : t.brakeHeld x = s.brakeHeld x := by
    simp only [State.brakeHeld, State.safe, State.axisOn, hrun, himg, hcsc, hsafe, hov, hoc]
  have hwants (k : Nat) : t.wants x k = s.wants x k := by
    simp only [State.wants, hheld, hcmd, hfit, hoc, href]
  have hbar : t.axisBarred x = s.axisBarred x := by simp only [State.axisBarred, State.axisOn, hrun, himg]
  simp only [State.mayBeOn, State.testRuns, State.getBit, hwants, hbar, htm, htoff, htest, hbs, hcmd, hsoft, hdue, hgoff, hdrv, hlost, hheld]
  split
  next h6 => rw [hup.resolve_left (by omega)]
  next => rfl

/-- The gates of die x have been switched: what decides which of its channels may be on stands. -/
structure State.Switched (x : Axis) (s t : State) : Prop where
  rd : ∀ a, t.rd a = s.rd a
  die : t.die = s.die
  pins : t.pins = s.pins
  img : t.img = s.img
  asked : (t.tr x).asked = (s.tr x).asked

theorem State.Switched.refl (x : Axis) (s : State) : State.Switched x s s := ⟨fun _ => rfl, rfl, rfl, rfl, rfl⟩

theorem State.Switched.trans {x : Axis} {s t u : State} (h : State.Switched x s t) (k : State.Switched x t u) : State.Switched x s u :=
  ⟨fun a => (k.rd a).trans (h.rd a), k.die.trans h.die, k.pins.trans h.pins, k.img.trans h.img, k.asked.trans h.asked⟩

theorem State.Switched.fld {x : Axis} {s t : State} (h : State.Switched x s t) (f : Fld) : t.fld f = s.fld f := by
  rw [State.fld, h.rd, State.fld]

theorem State.Switched.isRunning {x : Axis} {s t : State} (h : State.Switched x s t) : t.isRunning = s.isRunning := by
  rw [State.isRunning, State.isRunning, State.isUp, State.isUp, h.die, h.fld]

theorem State.Switched.mayBeOn {x : Axis} {s t : State} (h : State.Switched x s t) (c : Nat) : t.mayBeOn x c = s.mayBeOn x c :=
  State.mayBeOn_congr (Or.inr (by rw [State.isUp, h.die, State.isUp])) h.isRunning (fun a _ => h.rd a) (by rw [h.pins])
    (by cases x <;> simp only [State.toffLow, h.pins]) h.img h.asked

theorem State.Switched.of_reach {x : Axis} {s t : State} (h : Fr settleReach s t) (hrd : ∀ a, t.rd a = s.rd a)
    (htr : (t.tr x).asked = (s.tr x).asked) : State.Switched x s t :=
  ⟨hrd, h.keep_die, h.keep_pins, h.keep_img, htr⟩

/-! ### The gates after a die in reset has been settled -/

theorem State.asked_gateOffAt (s : State) (x : Axis) (c k why : Nat) :
    ((s.gateOffAt x c k why).tr x).asked = (s.tr x).asked := by
  rw [State.gateOffAt]
  split
  next => simp only [State.countEdge, State.setBit, State.tr_modTr, State.tr_set]; rfl
  next => rfl

theorem State.asked_gateOff (s : State) (x : Axis) (c : Nat) : ((s.gateOff x c).tr x).asked = (s.tr x).asked := by
  simp only [State.gateOff]
  split
  next => rw [State.tr_modTr]; exact State.asked_gateOffAt ..
  next => exact State.asked_gateOffAt ..

/-- Turning a channel on leaves the die as it is, or drives that gate too. -/
theorem State.tr_gateOn (s : State) (x : Axis) (c : Nat) :
    ((s.gateOn x c).tr x).asked = (s.tr x).asked ∧
      (((s.gateOn x c).tr x).gates = (s.tr x).gates ∨ ((s.gateOn x c).tr x).gates = withBit (s.tr x).gates c true) := by
  simp only [State.gateOn]
  split
  next => exact ⟨rfl, Or.inl rfl⟩
  next =>
    split
    next => exact ⟨rfl, Or.inl rfl⟩
    next => rw [State.countEdge, State.tr_modTr, State.tr_modTr]; exact ⟨rfl, Or.inr rfl⟩

theorem State.switched_gateOff (s : State) (x : Axis) (c : Nat) (h : s.fld (F.TR_DS_STAT_DS_NOW x) = 0) :
    State.Switched x s (s.gateOff x c) :=
  .of_reach (State.gateOff_fr (Fr.refl _ s)) (s.rd_gateOff_quiet x c h) (s.asked_gateOff x c)

theorem State.switched_gateOn (s : State) (x : Axis) (c : Nat) : State.Switched x s (s.gateOn x c) :=
  .of_reach (State.gateOn_fr (Fr.refl _ s)) (s.rd_gateOn x c) (s.tr_gateOn x c).1

/-- The turn-offs leave on, of the channels of the list, those that may be on. -/
theorem State.settleOff_gates (s : State) (x : Axis) (l : List Nat) (h : s.fld (F.TR_DS_STAT_DS_NOW x) = 0) :
    State.Switched x s (s.settleOff x l) ∧
      ∀ i, bit ((s.settleOff x l).tr x).gates i = (bit (s.tr x).gates i && (s.mayBeOn x i || decide (i ∉ l))) := by
  induction l generalizing s with
  | nil => exact ⟨.refl x s, fun i => by simp [State.settleOff, State.forEach]⟩
  | cons c r ih =>
    by_cases hc : s.mayBeOn x c = true
    · have hstep : s.settleOff x (c :: r) = s.settleOff x r := by
        simp only [State.settleOff, State.forEach, List.foldl_cons, hc, if_true]
      obtain ⟨hsw, hbits⟩ := ih s h
      rw [hstep]
      refine ⟨hsw, fun i => ?_⟩
      rw [hbits]
      by_cases hi : i = c
      · subst hi; simp [hc]
      · simp [hi]
    · have hstep : s.settleOff x (c :: r) = (s.gateOff x c).settleOff x r := by
        simp only [State.settleOff, State.forEach, List.foldl_cons, hc, Bool.false_eq_true, if_false]
      have hoff := s.switched_gateOff x c h
      obtain ⟨hsw, hbits⟩ := ih (s.gateOff x c) (by rw [hoff.fld]; exact h)
      rw [hstep]
      refine ⟨hoff.trans hsw, fun i => ?_⟩
      rw [hbits, hoff.mayBeOn, State.gates_gateOff, bit_withBit]
      by_cases hi : i = c
      · subst hi; simp [hc]
      · simp [hi]

/-- The turn-ons turn no channel off, and on none that may not be on. -/
theorem State.settleOn_gates (s : State) (x : Axis) (l : List Nat) :
    State.Switched x s (s.settleOn x l) ∧
      ∀ i, (bit (s.tr x).gates i = true → bit ((s.settleOn x l).tr x).gates i = true) ∧
        (bit ((s.settleOn x l).tr x).gates i = true → bit (s.tr x).gates i = true ∨ s.mayBeOn x i = true) := by
  induction l generalizing s with
  | nil => exact ⟨.refl x s, fun i => ⟨id, Or.inl⟩⟩
  | cons c r ih =>
    by_cases hc : s.mayBeOn x c = true
    · have hstep : s.settleOn x (c :: r) = (s.gateOn x c).settleOn x r := by
        simp only [State.settleOn, State.forEach, List.foldl_cons, hc, if_true]
      have hon := s.switched_gateOn x c
      obtain ⟨hsw, hbits⟩ := ih (s.gateOn x c)
      have hgate (i : Nat) : bit ((s.gateOn x c).tr x).gates i = bit (s.tr x).gates i ∨
          i = c ∧ bit ((s.gateOn x c).tr x).gates i = true := by
        obtain ⟨-, h | h⟩ := s.tr_gateOn x c
        · exact Or.inl (by rw [h])
        · by_cases hi : i = c
          · exact Or.inr ⟨hi, by rw [h, bit_withBit, if_pos hi]⟩
          · exact Or.inl (by rw [h, bit_withBit, if_neg hi])
      rw [hstep]
      refine ⟨hon.trans hsw, fun i => ⟨fun h => (hbits i).1 ?_, fun h => ?_⟩⟩
      · rcases hgate i with hg | ⟨-, hg⟩
        · rw [hg]; exact h
        · exact hg
      · rcases (hbits i).2 h with hb | hm
        · rcases hgate i with hg | ⟨hi, -⟩
          · exact Or.inl (hg ▸ hb)
          · exact Or.inr (hi ▸ hc)
        · exact Or.inr (by rw [← hon.mayBeOn]; exact hm)
    · have hstep : s.settleOn x (c :: r) = s.settleOn x r := by
        simp only [State.settleOn, State.forEach, List.foldl_cons, hc, Bool.false_eq_true, if_false]
      rw [hstep]
      exact ih s

/-- A die in which no desaturation shows and Cascade is off, while the control die is not in RUNNING. -/
structure State.DieIdle (x : Axis) (s : State) : Prop where
  notRunning : s.isRunning = false
  dsNow : s.fld (F.TR_DS_STAT_DS_NOW x) = 0
  hwOn : s.fld (F.TR_CSC_STAT_HW_ON x) = 0

/-- Settling such a die switches its gates and nothing else: on stay those that may be on, and on go only such. -/
theorem State.settle_idle (s : State) (x : Axis) (h : State.DieIdle x s) :
    State.Switched x s (s.settle x) ∧ ∀ c, c < 7 →
      (bit ((s.settle x).tr x).gates c = true → s.mayBeOn x c = true) ∧
      (bit (s.tr x).gates c = true → s.mayBeOn x c = true → bit ((s.settle x).tr x).gates c = true) := by
  obtain ⟨hoff, hoffBits⟩ := s.settleOff_gates x (List.range 7) h.dsNow
  obtain ⟨hon, honBits⟩ := (s.settleOff x (List.range 7)).settleOn_gates x (List.range 7)
  rw [State.settle_eq]
  have hsw := hoff.trans hon
  generalize (s.settleOff x (List.range 7)).settleOn x (List.range 7) = u at hon honBits hsw
  refine ⟨hsw.trans ⟨fun a => ?_, ?_, ?_, ?_, ?_⟩, fun c hc => ?_⟩
  · have hbrake : u.brakeHeld x = false := by simp [State.brakeHeld, hsw.isRunning, h.notRunning]
    rw [State.settleShow, hbrake, State.setB, State.rd_set_same _ rfl (by rw [State.modTr_fld, hsw.fld]; exact h.hwOn), State.modTr_rd]
  · exact State.modTr_die ..
  · exact State.modTr_pins ..
  · exact State.modTr_img ..
  · rw [State.settleShow, State.setB, State.tr_set, State.tr_modTr]; rfl
  · have hmem : c ∈ List.range 7 := List.mem_range.mpr hc
    rw [State.gates_settleShow]
    refine ⟨fun hb => ?_, fun hb hm => (honBits c).1 ?_⟩
    · rcases (honBits c).2 hb with hb | hm
      · rw [hoffBits] at hb
        simpa [hmem] using (Bool.and_eq_true_iff.mp hb).2
      · rw [← hoff.mayBeOn]; exact hm
    · rw [hoffBits, hb, hm]; rfl

/-- Both dies settled in turn. -/
theorem State.settles_idle (s : State) (h : ∀ x, State.DieIdle x s) (x : Axis) :
    State.Switched x s ((s.settle .a).settle .b) ∧ ∀ c, c < 7 →
      (bit (((s.settle .a).settle .b).tr x).gates c = true → s.mayBeOn x c = true) ∧
      (bit (s.tr x).gates c = true → s.mayBeOn x c = true → bit (((s.settle .a).settle .b).tr x).gates c = true) := by
  obtain ⟨hA, hAgates⟩ := s.settle_idle .a (h .a)
  have hidle : State.DieIdle .b (s.settle .a) :=
    ⟨by rw [hA.isRunning]; exact (h .a).notRunning, by rw [hA.fld]; exact (h .b).dsNow, by rw [hA.fld]; exact (h .b).hwOn⟩
  obtain ⟨hB, hBgates⟩ := (s.settle .a).settle_idle .b hidle
  have htrB : (s.settle .a).tr .b = s.tr .b := s.tr_settle_other .a
  have htrA : ((s.settle .a).settle .b).tr .a = (s.settle .a).tr .a := (s.settle .a).tr_settle_other .b
  cases x with
  | a =>
    rw [htrA]
    exact ⟨hA.trans ⟨hB.rd, hB.die, hB.pins, hB.img, by rw [htrA]⟩, hAgates⟩
  | b =>
    have hA' : State.Switched .b s (s.settle .a) := ⟨hA.rd, hA.die, hA.pins, hA.img, by rw [htrB]⟩
    refine ⟨hA'.trans hB, fun c hc => ?_⟩
    rw [← htrB, ← hA'.mayBeOn]
    exact hBgates c hc

/-! ### What a warm reset leaves (table 3.3) -/

/-- What the dies still show after a reset. -/
def State.ascsShown (s : State) : State := (s.showAsc .a).showAsc .b

theorem State.diesReset_eq (s : State) : s.diesReset = (s.ascsShown.settle .a).settle .b := rfl

theorem State.rd_ascsShown (s : State) (a : Nat) (ha : a ∉ [A.TR_SAFE_STAT .a, A.TR_SAFE_STAT .b]) : s.ascsShown.rd a = s.rd a := by
  simp only [List.mem_cons, List.not_mem_nil, or_false, not_or] at ha
  rw [State.ascsShown, State.rd_showAsc _ _ _ ha.2, State.rd_showAsc _ _ _ ha.1]

theorem State.tr_showAsc (s : State) (x y : Axis) : (s.showAsc x).tr y = s.tr y := by
  rw [State.showAsc]
  split
  next => simp only [State.tr_set]
  next => rfl

theorem State.tr_ascsShown (s : State) (x : Axis) : s.ascsShown.tr x = s.tr x := by
  rw [State.ascsShown, State.tr_showAsc, State.tr_showAsc]

theorem State.showAsc_shows (s : State) (x : Axis) (h : (s.tr x).thermal = true) :
    (s.showAsc x).fld (F.TR_SAFE_STAT_STATE x) = 1 ∧ (s.showAsc x).fld (F.TR_SAFE_STAT_THERMAL x) = 1 := by
  rw [State.showAsc, if_pos h]
  refine ⟨?_, State.fld_set_of_lt _ _ _ rfl (by cases x <;> decide)⟩
  rw [State.fld_set_apart _ _ rfl (by cases x <;> rfl), State.fld_set_apart _ _ rfl (by cases x <;> rfl)]
  exact State.fld_set_of_lt _ _ _ rfl (by cases x <;> decide)

/-- R95: a thermal-shutdown low ASC that outlasts the reset shows in SAFE_STAT. -/
theorem State.ascsShown_shows (s : State) (x : Axis) (h : (s.tr x).thermal = true) :
    s.ascsShown.fld (F.TR_SAFE_STAT_STATE x) = 1 ∧ s.ascsShown.fld (F.TR_SAFE_STAT_THERMAL x) = 1 := by
  cases x with
  | a =>
    obtain ⟨hstate, hthermal⟩ := s.showAsc_shows .a h
    have hrd : s.ascsShown.rd (A.TR_SAFE_STAT .a) = (s.showAsc .a).rd (A.TR_SAFE_STAT .a) := State.rd_showAsc _ .b _ (by decide)
    exact ⟨(congrArg (fieldOf (F.TR_SAFE_STAT_STATE .a)) hrd).trans hstate,
      (congrArg (fieldOf (F.TR_SAFE_STAT_THERMAL .a)) hrd).trans hthermal⟩
  | b => exact (s.showAsc .a).showAsc_shows .b (by rw [State.tr_showAsc]; exact h)

/-- R71: a die as a warm reset finds it again. -/
theorem State.tr_warmBase (s : State) (x : Axis) : s.warmBase.tr x = (s.sinksAtReset x).resetKeep := by cases x <;> rfl

theorem State.rd_warmBase (s : State) (hwf : s.Wf = true) (a : Nat) : s.warmBase.rd a = warmWord a (s.rd a) := by
  simp only [State.Wf, Bool.and_eq_true] at hwf
  exact cget_warmRegs s.regs a hwf.1.1

/-- A field of a register of which nothing is kept has its reset value. -/
theorem State.fld_warmBase (s : State) (f : Fld) (h : keptMask f.reg = 0) : s.warmBase.fld f = fieldOf f (regPor f.reg) :=
  congrArg (fieldOf f) (cget_warmRegs_none s.regs f.reg h)

theorem State.fld_ascsShown (s : State) (f : Fld) (hf : f.reg ∉ [A.TR_SAFE_STAT .a, A.TR_SAFE_STAT .b]) :
    s.ascsShown.fld f = s.fld f := congrArg (fieldOf f) (s.rd_ascsShown f.reg hf)

/-- R72: a warm reset finds each die idle, whatever it interrupted. -/
theorem State.warmBase_dieIdle (s : State) (x : Axis) : State.DieIdle x s.warmBase.ascsShown := by
  refine ⟨?_, ?_, ?_⟩
  · rw [State.isRunning, State.fld_ascsShown _ _ (by decide), State.fld_warmBase _ _ (by decide)]
    simp only [Bool.and_eq_false_iff]
    exact Or.inr (by decide)
  · rw [State.fld_ascsShown _ _ (by cases x <;> decide), State.fld_warmBase _ _ (by cases x <;> decide)]
    cases x <;> decide
  · rw [State.fld_ascsShown _ _ (by cases x <;> decide), State.fld_warmBase _ _ (by cases x <;> decide)]
    cases x <;> decide

theorem Tr.holdsAsc_sinks (s : State) (x : Axis) : (s.sinksAtReset x).holdsAsc = (s.tr x).holdsAsc := rfl

/-- R71: of a die after a reset only the low sides of a low ASC that it holds may be on. -/
theorem State.mayBeOn_warmBase (s : State) (x : Axis) (c : Nat) (hc : c < 7) (h : s.warmBase.ascsShown.mayBeOn x c = true) :
    (s.tr x).holdsAsc = true ∧ bit (safeMask 1) c = true := by
  have hwants : s.warmBase.ascsShown.wants x c = true := by
    simp only [State.mayBeOn] at h
    split at h <;> simp only [Bool.and_eq_true] at h <;> tauto
  have htr : s.warmBase.ascsShown.tr x = (s.sinksAtReset x).resetKeep := (State.tr_ascsShown _ x).trans (s.tr_warmBase x)
  have hcmd : bit ((s.sinksAtReset x).resetKeep).cmd c = true := by
    simp only [State.wants] at hwants
    split at hwants
    next h6 =>
      have hbrake : s.warmBase.ascsShown.brakeHeld x = false := by
        simp [State.brakeHeld, (s.warmBase_dieIdle x).notRunning]
      rw [hbrake, htr] at hwants
      simp only [Bool.false_or, Bool.and_eq_true] at hwants
      rw [h6]; exact hwants.1.1
    next h6 =>
      have href : nth [] ((s.sinksAtReset x).resetKeep).ref (c / 2) = [] := by
        have : c / 2 < 3 := by omega
        show nth [] (List.replicate 3 []) (c / 2) = []
        exact nth_replicate _ _ _ _ this
      rw [htr, href] at hwants
      exact hwants
  have hkeep : ((s.sinksAtReset x).resetKeep).cmd = if (s.tr x).holdsAsc then safeMask 1 else 0 := rfl
  rw [hkeep] at hcmd
  split at hcmd
  next hasc => exact ⟨hasc, hcmd⟩
  next => simp [bit_eq_testBit] at hcmd

/-- A state that has gone on from a reset and no further: its cause is recorded, it may have left it with BOOTSEL latched, and the boot
stands at its first step. -/
structure State.AfterReset (u t : State) : Prop where
  reach : Fr 0x600800006 u t
  rd : ∀ a, a ∉ ghResetRegs → t.rd a = u.rd a
  pins : t.pins = { u.pins with bootsel := t.pins.bootsel }
  samples : t.org.samples = u.org.samples
  step : t.fld F.GH_BOOT_STATUS_STATE = 0

theorem State.AfterReset.trans {u t v : State} (h : State.AfterReset u t) (k : State.AfterReset t v) : State.AfterReset u v :=
  ⟨h.reach.trans k.reach, fun a ha => (k.rd a ha).trans (h.rd a ha), by rw [k.pins, h.pins], k.samples.trans h.samples, k.step⟩

section
variable (u : State) (h : u.fld F.GH_BOOT_STATUS_STATE = 0)
include h

theorem State.afterReset_toDie (d : Die) : State.AfterReset u (u.toDie d) :=
  ⟨State.toDie_fr (Fr.refl _ _), fun _ _ => rfl, rfl, rfl, h⟩

theorem State.afterReset_halted (b : Bool) : State.AfterReset u (u.modOrg (fun o => { o with halted := b })) :=
  ⟨State.modOrg_fr (Fr.refl _ _), fun _ _ => rfl, rfl, rfl, h⟩

theorem State.afterReset_leave (b : Nat) : State.AfterReset u (u.leaveReset b) := by
  have hpins : (u.leaveReset b).pins = { u.pins with bootsel := (u.leaveReset b).pins.bootsel } := by rw [u.pins_leaveReset b]
  refine ⟨State.leaveReset_fr (Fr.refl _ _), fun a ha => ?_, hpins, by rw [(u.leaveReset_reach b).keep_org], ?_⟩
  · simp only [State.leaveReset]
    split
    · rfl
    · split
      · rfl
      · exact State.rd_set_ne _ _ _ _ fun hb => ha (by rw [hb]; decide)
  · simp only [State.leaveReset]
    split
    · exact h
    · split
      · exact h
      · rw [State.fld_set_apart _ _ rfl rfl]; exact h

theorem State.afterReset_cause {f : Fld} (hf : f.reg = A.GH_RST_CAUSE) : State.AfterReset u (causeBit (some f) u) := by
  have hreach := causeBit_reach u f hf
  refine ⟨hreach.mono (by decide), fun a ha => ?_, by rw [hreach.keep_pins], by rw [hreach.keep_org], ?_⟩
  · have hne : a ≠ A.GH_RST_CAUSE := fun hb => ha (by rw [hb]; decide)
    rw [causeBit, State.inc, State.incBy, State.rd_set_ne _ _ _ _ hne, State.rd_set_ne _ _ _ _ (by rw [hf]; exact hne)]
  · rw [hreach.keep_fld (by decide)]; exact h

end

theorem State.AfterReset.isRunning {u t : State} (h : State.AfterReset u t) : t.isRunning = false := by
  simp [State.isRunning, h.step]

theorem State.AfterReset.tr {u t : State} (h : State.AfterReset u t) (x : Axis) : t.tr x = u.tr x := by
  cases x
  · exact h.reach.keep_trA
  · exact h.reach.keep_trB

theorem State.AfterReset.ax {u t : State} (h : State.AfterReset u t) (x : Axis) : t.ax x = u.ax x := by
  cases x
  · exact h.reach.keep_axA
  · exact h.reach.keep_axB

/-- A phase channel may be on after the reset as the dies were settled in it. -/
theorem State.AfterReset.mayBeOn {u t : State} (h : State.AfterReset u t) (hu : u.isRunning = false) (x : Axis) {c : Nat} (hc : c < 6) :
    t.mayBeOn x c = u.mayBeOn x c := by
  refine State.mayBeOn_congr (Or.inl hc) (by rw [h.isRunning, hu]) h.rd (by rw [h.pins]) ?_ h.reach.keep_img (by rw [h.tr])
  cases x <;> simp only [State.toffLow] <;> rw [h.pins]

/-- Each die as a warm reset leaves it. -/
theorem State.warmDies (s : State) (x : Axis) : State.Switched x s.warmBase.ascsShown s.warmBase.diesReset ∧ ∀ c, c < 7 →
    (bit (s.warmBase.diesReset.tr x).gates c = true → s.warmBase.ascsShown.mayBeOn x c = true) ∧
    (bit (s.warmBase.ascsShown.tr x).gates c = true → s.warmBase.ascsShown.mayBeOn x c = true →
      bit (s.warmBase.diesReset.tr x).gates c = true) :=
  s.warmBase.ascsShown.settles_idle s.warmBase_dieIdle x

/-- R72, R95, table 3.3: what a warm reset leaves stands as the die leaves it. -/
theorem State.AfterReset.warmOf {s t : State} (hwf : s.Wf = true) (h : State.AfterReset s.warmBase.diesReset t) : s.warmOf t := by
  have hreach := s.warmBase.diesReset_reach
  have hblocks : Fr 0xfe7ffe10 s s.resetBlocks := State.resetBlocks_fr (Fr.refl _ s)
  refine ⟨fun a ha => ?regs, fun a => ?mem, ?sun, ?samples, ?img, ?held, fun x => ?die⟩
  case regs =>
    simp only [List.mem_cons, List.not_mem_nil, or_false, not_or] at ha
    obtain ⟨hcause, hboot, hasc⟩ := ha
    rw [h.rd a (by simp [hcause, hboot]), (s.warmDies .a).1.rd, State.rd_ascsShown _ _ (by simp [hasc]), s.rd_warmBase hwf]
  case mem =>
    rw [State.byte, h.reach.keep_mem, hreach.keep_mem]
    exact cget_below memPor s.mem 0x200000 a
  case sun => exact h.reach.keep_sun.trans (hreach.keep_sun.trans hblocks.keep_sun)
  case samples => exact h.samples.trans (congrArg Org.samples hreach.keep_org :)
  case img => exact h.reach.keep_img.trans hreach.keep_img
  case held => exact h.reach.keep_held.trans hreach.keep_held
  case die =>
    obtain ⟨hsw, hgates⟩ := s.warmDies x
    have hax : t.ax x = (s.ax x).resetKeep := (h.ax x).trans (by
      cases x
      · exact hreach.keep_axA
      · exact hreach.keep_axB)
    have hshown : s.warmBase.ascsShown.tr x = (s.sinksAtReset x).resetKeep := (State.tr_ascsShown _ x).trans (s.tr_warmBase x)
    refine ⟨by rw [hax]; rfl, by rw [hax]; rfl, by rw [hax]; rfl, ?cmd, fun c hc hon => ?off, fun c hc hasc hon hmay => ?stays,
      fun hasc => ?shows⟩
    case cmd =>
      rw [h.tr]
      exact (congrArg Tr.cmd hsw.asked).trans (congrArg Tr.cmd hshown)
    case off =>
      rw [h.tr] at hon
      exact s.mayBeOn_warmBase x c hc ((hgates c hc).1 hon)
    case stays =>
      have hu : s.warmBase.diesReset.isRunning = false := by rw [hsw.isRunning]; exact (s.warmBase_dieIdle x).notRunning
      rw [h.mayBeOn hu x hc, hsw.mayBeOn] at hmay
      rw [h.tr]
      refine (hgates c (by omega)).2 ?_ hmay
      have hkeep : ((s.sinksAtReset x).resetKeep).gates = if (s.tr x).holdsAsc then (s.tr x).gates % 64 else 0 := rfl
      rw [hshown, hkeep, if_pos hasc, show 64 = 2 ^ 6 from rfl, bit_mod, hon, decide_eq_true hc]
      rfl
    case shows =>
      have hthermal : (s.warmBase.tr x).thermal = true := by rw [s.tr_warmBase]; exact hasc
      obtain ⟨hstate, hth⟩ := s.warmBase.ascsShown_shows x hthermal
      have hrd : t.rd (A.TR_SAFE_STAT x) = s.warmBase.ascsShown.rd (A.TR_SAFE_STAT x) :=
        (h.rd _ (by cases x <;> decide)).trans (hsw.rd _)
      exact ⟨(congrArg (fieldOf (F.TR_SAFE_STAT_STATE x)) hrd).trans hstate,
        (congrArg (fieldOf (F.TR_SAFE_STAT_THERMAL x)) hrd).trans hth⟩

/-- R96: a warm reset with a cause, up to where the die leaves it. -/
theorem State.afterReset_warmReset (s : State) {f : Fld} (hf : f.reg = A.GH_RST_CAUSE) :
    State.AfterReset s.warmBase.diesReset (s.warmReset (some f)) := by
  rw [State.warmReset_eq]
  refine State.afterReset_cause _ ?_ hf
  rw [(s.warmDies .a).1.fld, State.fld_ascsShown _ _ (by decide), State.fld_warmBase _ _ (by decide)]
  decide

end Sys2Proof.Machine

namespace Sys2Proof.Machine

set_option Elab.async false

/-! ### The commands that reset the die (R68, R70, R529) -/

theorem exec_resetPin_long (s : State) (ns b : Nat) (h : 1000 ≤ ns) (hup : s.die = .up) :
    exec (.resetPin ns b) s =
      .next (((s.modPins (fun p => { p with resetN := false })).warmReset (some F.GH_RST_CAUSE_PIN)).toDie .pinReset) := by
  show Host.Outcome.next _ = _
  rw [if_pos h]
  simp only [State.modPins_die, hup]

theorem exec_resetPin_short (s : State) (ns b : Nat) (h : ns < 100) : exec (.resetPin ns b) s = .next s := by
  show Host.Outcome.next _ = _
  rw [if_neg (by omega), if_pos h]

theorem exec_thermalRestart (s : State) (b : Nat) (h : s.die = .thermal) : exec (.thermalRestart b) s =
    .next (((s.warmReset (some F.GH_RST_CAUSE_THERMAL)).modOrg (fun o => { o with halted := true })).leaveReset b) := by
  show Host.Outcome.next _ = _
  rw [if_pos h]

theorem exec_soft (s : State) (w : Word) (b : Nat) (hopen : s.rstOpen = true) (h : fieldOf F.GH_RST_CTRL_SOFT w = 1) :
    exec (.soft w b) s = .next (s.rstWrite .host w b) := by
  show Host.Outcome.next _ = _
  rw [hopen, h]
  rfl

theorem exec_reboot (s : State) (w : Word) (b : Nat) (hopen : s.rstOpen = true) (h : fieldOf F.GH_RST_CTRL_REBOOT w = 1) :
    exec (.reboot w b) s = .next (s.rstWrite .host w b) := by
  show Host.Outcome.next _ = _
  rw [hopen, h]
  rfl

/-- The cause that a write of GH.RST_CTRL records: REBOOT where both bits are 1 (R70). -/
def rstCause (w : Word) : Fld := if fieldOf F.GH_RST_CTRL_REBOOT w = 1 then F.GH_RST_CAUSE_REBOOT else F.GH_RST_CAUSE_SOFT

theorem rstCause_reg (w : Word) : (rstCause w).reg = A.GH_RST_CAUSE := by
  rw [rstCause]
  split <;> rfl

section
variable (s : State) (w : Word) (b : Nat) (hkey : fieldOf F.GH_RST_CTRL_KEY w = 0xC35A)
  (hask : fieldOf F.GH_RST_CTRL_SOFT w = 1 ∨ fieldOf F.GH_RST_CTRL_REBOOT w = 1)
include hkey hask

theorem State.rstWrite_asked : s.rstWrite .host w b =
    if s.anyBridge && fieldOf F.GH_RST_CTRL_FORCE w == 0 then s.note .host rfRunning
    else (s.warmReset (some (rstCause w))).leaveReset b := by
  have hcond : (fieldOf F.GH_RST_CTRL_KEY w == 0xC35A && (fieldOf F.GH_RST_CTRL_SOFT w == 1 || fieldOf F.GH_RST_CTRL_REBOOT w == 1)) = true := by
    simpa [hkey] using hask
  simp only [State.rstWrite, hcond, if_true, rstCause, beq_iff_eq]

/-- R70: the write is refused. -/
theorem State.rstWrite_refused (hon : s.anyBridge = true) (hforce : fieldOf F.GH_RST_CTRL_FORCE w = 0) :
    s.rstWrite .host w b = s.note .host rfRunning := by
  rw [s.rstWrite_asked w b hkey hask, if_pos (by simp [hon, hforce])]

/-- R70: the write resets the die. -/
theorem State.rstWrite_resets (htaken : s.anyBridge = false ∨ fieldOf F.GH_RST_CTRL_FORCE w = 1) :
    s.rstWrite .host w b = (s.warmReset (some (rstCause w))).leaveReset b := by
  rw [s.rstWrite_asked w b hkey hask, if_neg]
  rcases htaken with h | h <;> simp [h]

end

theorem State.note_host (s : State) (f : Nat) : s.note .host f = { s with reply := (s.note .host f).reply } := by
  simp only [State.note]
  split <;> rfl

/-- Settles O7: the write is refused, or it resets the die. -/
theorem resetIsRefusedWhileABridgeIsEnabled : Obligations.ResetIsRefusedWhileABridgeIsEnabled := by
  intro s w b c hopen hon hkey hc
  have hask : fieldOf F.GH_RST_CTRL_SOFT w = 1 ∨ fieldOf F.GH_RST_CTRL_REBOOT w = 1 := hc.imp (·.2) (·.2)
  have hexec : exec c s = .next (s.rstWrite .host w b) := by
    rcases hc with ⟨rfl, hbit⟩ | ⟨rfl, hbit⟩
    · exact exec_soft s w b hopen hbit
    · exact exec_reboot s w b hopen hbit
  refine ⟨fun hforce => ⟨_, hexec, ?_, ?_⟩, fun hforce => ⟨_, hexec, ?_⟩⟩
  · rw [s.rstWrite_refused w b hkey hask hon hforce]
    exact s.note_host rfRunning
  · rw [s.rstWrite_refused w b hkey hask hon hforce]
    exact s.bit_reply_note rfRunning
  · rw [s.rstWrite_resets w b hkey hask (Or.inr hforce)]
    exact State.leaveReset_boots _ b (State.bootState_warmReset s _ (rstCause_reg w))

/-! ### Warm resets (R68 to R72, R96) -/

theorem State.rstTaken_iff (s : State) (w : Word) : s.rstTaken w = true ↔
    s.rstOpen = true ∧ fieldOf F.GH_RST_CTRL_KEY w = 0xC35A ∧ (s.anyBridge = false ∨ fieldOf F.GH_RST_CTRL_FORCE w = 1) := by
  simp [State.rstTaken, and_assoc]

/-- A write of SOFT or REBOOT that R70 does not refuse. -/
theorem exec_rstTaken (s : State) (w : Word) (b : Nat) (h : s.rstTaken w = true) :
    (fieldOf F.GH_RST_CTRL_SOFT w = 1 → exec (.soft w b) s = .next ((s.warmReset (some (rstCause w))).leaveReset b)) ∧
    (fieldOf F.GH_RST_CTRL_REBOOT w = 1 → exec (.reboot w b) s = .next ((s.warmReset (some (rstCause w))).leaveReset b)) := by
  obtain ⟨hopen, hkey, hbridge⟩ := (s.rstTaken_iff w).mp h
  exact ⟨fun hs => by rw [exec_soft s w b hopen hs, s.rstWrite_resets w b hkey (Or.inl hs) hbridge],
    fun hr => by rw [exec_reboot s w b hopen hr, s.rstWrite_resets w b hkey (Or.inr hr) hbridge]⟩

theorem State.pins_warmReset (s : State) (c : Option Fld) : (s.warmReset c).pins = s.pins :=
  (State.warmReset_fr (κ := 0x1fffffffffffffffffffffffffffffffffffffffffffffffffffffffffffffffffffefffff0) (Fr.refl _ _)).keep_pins

section
variable (s : State) (hwf : s.Wf = true) {f : Fld} (hf : f.reg = A.GH_RST_CAUSE)
include hwf hf

/-- A warm reset whose boot begins at once. -/
theorem State.warmReset_leave (b : Nat) :
    s.warmOf ((s.warmReset (some f)).leaveReset b) ∧ ((s.warmReset (some f)).leaveReset b).bootsWith b :=
  ⟨((s.afterReset_warmReset hf).trans (State.afterReset_leave _ (s.bootState_warmReset f hf) b)).warmOf hwf,
    State.leaveReset_boots _ b (s.bootState_warmReset f hf)⟩

end

/-- A thermal restart is one too (R529). -/
theorem State.thermalRestart_leaves (s : State) (hwf : s.Wf = true) (b : Nat) :
    let t := ((s.warmReset (some F.GH_RST_CAUSE_THERMAL)).modOrg (fun o => { o with halted := true })).leaveReset b
    s.warmOf t ∧ t.bootsWith b := by
  have h0 := s.bootState_warmReset F.GH_RST_CAUSE_THERMAL rfl
  have hhalted := (s.afterReset_warmReset rfl).trans (State.afterReset_halted _ h0 true)
  exact ⟨(hhalted.trans (State.afterReset_leave _ hhalted.step b)).warmOf hwf, State.leaveReset_boots _ b hhalted.step⟩

/-- Settles O5: every warm reset settles the dies of one base state, and what follows it keeps table 3.3. -/
theorem warmResetsLeaveTable33 : Obligations.WarmResetsLeaveTable33 := by
  intro s w ns b hwf
  refine ⟨fun hns hup => ⟨_, exec_resetPin_long s ns b hns hup, ?_, rfl, ?_⟩, fun h100 h1000 hup => ⟨_, exec_resetPin_glitch s ns b h100 h1000 hup, ?_⟩,
    exec_resetPin_short s ns b, fun htaken hsoft => ?_, fun htaken hreboot => ?_,
    fun hth => ⟨_, exec_thermalRestart s b hth, s.thermalRestart_leaves hwf b⟩⟩
  · have hlow := (s.modPins (fun p => { p with resetN := false })).afterReset_warmReset (f := F.GH_RST_CAUSE_PIN) rfl
    exact (hlow.trans (State.afterReset_toDie _ hlow.step .pinReset)).warmOf (s := s.modPins (fun p => { p with resetN := false })) hwf
  · rw [State.toDie_pins, State.pins_warmReset]
    rfl
  · split
    · exact Or.inr (s.spent.warmReset_leave hwf rfl b)
    · exact Or.inl rfl
  · exact ⟨_, (exec_rstTaken s w b htaken).1 hsoft, s.warmReset_leave hwf (rstCause_reg w) b⟩
  · exact ⟨_, (exec_rstTaken s w b htaken).2 hreboot, s.warmReset_leave hwf (rstCause_reg w) b⟩

/-! ### The cause of a warm reset (R96) -/

/-- A kept field stands through a warm reset. -/
theorem fieldOf_warmWord {f : Fld} (h : ∀ i < 32, f.lo ≤ i → i ≤ f.hi → (keptMask f.reg).getLsbD i = true) (hok : f.ok = true) (w : Word) :
    fieldOf f (warmWord f.reg w) = fieldOf f w := by
  simp only [Fld.ok, Bool.and_eq_true, decide_eq_true_eq] at hok
  refine Nat.eq_of_testBit_eq fun n => ?_
  rw [fieldOf, fieldOf, testBit_bits, testBit_bits]
  by_cases hn : n < f.hi + 1 - f.lo
  · have hkept := h (n + f.lo) (by omega) (by omega) (by omega)
    rw [BitVec.testBit_toNat, BitVec.testBit_toNat, warmWord, BitVec.getLsbD_or, BitVec.getLsbD_and, BitVec.getLsbD_and,
      BitVec.getLsbD_not, hkept]
    simp
  · simp [hn]

/-- GH.RST_CAUSE.WARM_COUNT and the cause bits of table 3.8. -/
abbrev causeFlds : List Fld :=
  [F.GH_RST_CAUSE_POR, F.GH_RST_CAUSE_PIN, F.GH_RST_CAUSE_SOFT, F.GH_RST_CAUSE_THERMAL, F.GH_RST_CAUSE_REBOOT]

theorem causeFlds_kept : ∀ f ∈ F.GH_RST_CAUSE_WARM_COUNT :: causeFlds, f.ok = true ∧ f.reg = A.GH_RST_CAUSE ∧
    ∀ i < 32, f.lo ≤ i → i ≤ f.hi → (keptMask A.GH_RST_CAUSE).getLsbD i = true := by decide

theorem causeFlds_apart : ∀ f ∈ F.GH_RST_CAUSE_WARM_COUNT :: causeFlds, ∀ g ∈ causeFlds, g ≠ f → f.apart g = true := by decide

theorem causeFlds_bit : ∀ f ∈ causeFlds, f.width = 1 ∧ f ≠ F.GH_RST_CAUSE_WARM_COUNT := by decide

theorem State.fld_cause_warmDies (s : State) (hwf : s.Wf = true) {f : Fld} (hf : f ∈ F.GH_RST_CAUSE_WARM_COUNT :: causeFlds) :
    s.warmBase.diesReset.fld f = s.fld f := by
  obtain ⟨hok, hreg, hkept⟩ := causeFlds_kept f hf
  rw [← hreg] at hkept
  rw [State.fld, s.warmBase.diesReset_reach.keep_rd (by rw [hreg]; decide), s.rd_warmBase hwf, fieldOf_warmWord hkept hok]
  rfl

/-- R96: what a warm reset records. -/
theorem State.causeAdded_warmReset (s : State) (hwf : s.Wf = true) {c : Fld} (hc : c ∈ causeFlds) : s.causeAdded (s.warmReset (some c)) c := by
  obtain ⟨hok, -, -⟩ := causeFlds_kept c (List.mem_cons_of_mem _ hc)
  obtain ⟨hwidth, hcount⟩ := causeFlds_bit c hc
  rw [State.warmReset_eq, causeBit]
  refine ⟨fun f hf => ?_, ?_⟩
  · rw [State.fld_inc_apart _ rfl (causeFlds_apart _ (by simp) f hf (causeFlds_bit f hf).2)]
    split
    next heq =>
      rw [heq, State.fld_set _ _ _ hok, hwidth]
      rfl
    next hne =>
      rw [State.fld_set_apart _ _ hok (causeFlds_apart c (List.mem_cons_of_mem _ hc) f hf hne),
        s.fld_cause_warmDies hwf (List.mem_cons_of_mem _ hf)]
  · have hapart := Fld.apart_comm (causeFlds_apart F.GH_RST_CAUSE_WARM_COUNT (by simp) c hc hcount)
    rw [State.fld_inc_same _ _ rfl, State.fld_set_apart _ _ hok hapart, s.fld_cause_warmDies hwf (by simp)]
    rfl

theorem State.causeAdded.leave {s u t : State} {c : Fld} (h : s.causeAdded u c) (hrd : t.rd A.GH_RST_CAUSE = u.rd A.GH_RST_CAUSE) :
    s.causeAdded t c := by
  have hfld {f : Fld} (hf : f ∈ F.GH_RST_CAUSE_WARM_COUNT :: causeFlds) : t.fld f = u.fld f := by
    rw [State.fld, (causeFlds_kept f hf).2.1, hrd, State.fld, (causeFlds_kept f hf).2.1]
  exact ⟨fun f hf => (hfld (List.mem_cons_of_mem _ hf)).trans (h.1 f hf), (hfld (by simp)).trans h.2⟩

theorem State.rd_cause_leaveReset (s : State) (b : Nat) : (s.leaveReset b).rd A.GH_RST_CAUSE = s.rd A.GH_RST_CAUSE :=
  (s.leaveReset_reach b).keep_rd (by decide)

theorem rstCause_mem (w : Word) : rstCause w ∈ causeFlds := by
  rw [rstCause]
  split <;> simp

/-- Settles O6: the cause fields are kept by the reset, and it writes its own. -/
theorem warmResetAddsItsCause : Obligations.WarmResetAddsItsCause := by
  intro s w ns b hwf
  have hrst : s.causeAdded ((s.warmReset (some (rstCause w))).leaveReset b) (rstCause w) :=
    (s.causeAdded_warmReset hwf (rstCause_mem w)).leave (State.rd_cause_leaveReset _ b)
  refine ⟨fun hns hup => ⟨_, exec_resetPin_long s ns b hns hup, ?_⟩, fun htaken hsoft => ⟨_, (exec_rstTaken s w b htaken).1 hsoft, hrst⟩,
    fun htaken hreboot => ⟨_, (exec_rstTaken s w b htaken).2 hreboot, ?_⟩, fun hth => ⟨_, exec_thermalRestart s b hth, ?_⟩⟩
  · exact State.causeAdded.leave (s := s) ((s.modPins _).causeAdded_warmReset hwf (by simp)) (State.toDie_rd ..)
  · have hcause : rstCause w = F.GH_RST_CAUSE_REBOOT := if_pos hreboot
    rw [hcause] at hrst ⊢
    exact hrst
  · exact (s.causeAdded_warmReset hwf (by simp)).leave ((State.rd_cause_leaveReset _ b).trans (State.modOrg_rd ..))

end Sys2Proof.Machine

namespace Sys2Proof.Machine

set_option Elab.async false

/-! ### A fault loses no pending bit and no status bit (R504, R516) -/

/-- No pending bit of a named event is lost. -/
def State.PendKept (s t : State) : Prop := ∀ e < 128, s.pend e = true → t.pend e = true

theorem State.PendKept.refl (s : State) : State.PendKept s s := fun _ _ h => h

theorem State.PendKept.trans {s t u : State} (h : State.PendKept s t) (k : State.PendKept t u) : State.PendKept s u :=
  fun e he hs => k e he (h e he hs)

theorem State.PendKept.of_fr {m : Nat} {s t : State} (h : Fr m s t) (hm : m.testBit (32 + 207) = false) : State.PendKept s t :=
  fun e _ hs => (State.pend_of_fr h hm e).trans hs

theorem State.PendKept.event {s t : State} (h : State.PendKept s t) (d : Nat) : State.PendKept s (t.event d) :=
  fun e he hs => t.pend_event_mono d e he (h e he hs)

theorem State.PendKept.ite {s a b : State} {c : Prop} [Decidable c] (ha : State.PendKept s a) (hb : State.PendKept s b) :
    State.PendKept s (if c then a else b) := by
  split
  · exact ha
  · exact hb

theorem State.PendKept.forEach {α : Type} {f : State → α → State} (hf : ∀ s a, State.PendKept s (f s a)) (l : List α) (s : State) :
    State.PendKept s (s.forEach l f) := by
  induction l generalizing s with
  | nil => exact .refl s
  | cons a r ih => exact (hf s a).trans (ih (f s a))

theorem State.pendKept_logRecord (s : State) (code cls sc unit detail : Nat) :
    State.PendKept s (s.logRecord code cls sc unit detail) := by
  have hentry : Fr 0x4200000000000000000000000000000000000000000000000000000000000 s (((((s.set (F.LDG_LOG (4 * s.logNext)) (s.now % 2 ^ 32)).set
      (F.LDG_LOG (4 * s.logNext + 1)) (s.now / 2 ^ 32)).set (F.LDG_LOG (4 * s.logNext + 2))
      (s.fld F.LDG_LOG_STAT_SEQ * 2 ^ 24 + unit % 256 * 2 ^ 16 + scopeEnc sc * 2 ^ 10 + cls * 2 ^ 8 + code)).set
      (F.LDG_LOG (4 * s.logNext + 3)) detail).set F.LDG_LOG_STAT_SEQ (s.fld F.LDG_LOG_STAT_SEQ + 1)) :=
    State.set_fr (State.set_fr (State.set_fr (State.set_fr (State.set_fr (Fr.refl _ _)))))
  exact .ite (State.PendKept.event (.of_fr (State.inc_fr hentry) (by decide)) 110) (.of_fr (State.inc_fr hentry) (by decide))

theorem State.pendKept_raiseNow (s : State) (code sc unit detail : Nat) : State.PendKept s (s.raiseNow code sc unit detail) := by
  have hst : State.PendKept s (s.setBit (stFld sc code) (code % 32) true) :=
    .of_fr (m := 0x80000000000000000000000000000000000000000000000000000000000) (State.setBit_fr (Fr.refl _ _)) (by decide)
  simp only [State.raiseNow]
  generalize s.setBit (stFld sc code) (code % 32) true = u at hst
  have hlog : State.PendKept s (if (faultClass code == 1 && s.getBit (stFld sc code) (code % 32)) = true then u.inc F.LDG_REPEAT_COUNT
      else u.logRecord code (faultClass code) sc unit detail) :=
    hst.trans (.ite (.of_fr (m := 0x40000000000000000000000000000000000000000000000000000000000) (State.inc_fr (Fr.refl _ _)) (by decide))
      (u.pendKept_logRecord code _ sc unit detail))
  exact .ite (hlog.event _) (.ite (hlog.event _) (.ite (hlog.event _) (.ite (hlog.event _) (hlog.event _))))

theorem State.pendKept_testEnd (s : State) (k result detail : Nat) : State.PendKept s (s.testEnd k result detail) := by
  have hshow : Fr 0xc0000000000000000000000000000000000000000000000000000000000000000020000000 s
      ((((s.modStc (fun t => { t with outs := t.outs.filter (fun o => !(o.slot == k)) })).set (F.STC_TSTAT_STATE k) 0).set
        (F.STC_TSTAT_RESULT k) result).set (F.STC_TSTAT_DETAIL k) detail) :=
    State.set_fr (State.set_fr (State.set_fr (State.modStc_fr (Fr.refl _ _))))
  have hpass := Fr.ite (c := result = 1) (State.inc_fr (f := F.STC_TSTAT_PASSES k) hshow) hshow
  have hall := Fr.ite (c := k = 1) (State.set_fr (f := F.STC_SCRUB_STAT_RUNNING) (v := 0) hpass) hpass
  exact ((State.PendKept.of_fr hall (by decide)).event 104).trans (.of_fr (State.testNext_fr
    (κ := 0x80000000000000000000000000000000000000000000000000000000000000000000000000) (Fr.refl _ _)) (by decide))

theorem State.pendKept_faultNow (s : State) (code sc unit detail : Nat) : State.PendKept s (s.faultNow code sc unit detail) :=
  ((s.pendKept_raiseNow code sc unit detail).trans (.of_fr (State.markAxes_fr (κ := 0x1e000) (Fr.refl _ _)) (by decide))).trans
    (.forEach (fun u k => u.pendKept_testEnd k 4 0) _ _)

theorem State.pendKept_grtAdd (s : State) (k : Nat) : State.PendKept s (s.grtAdd k) :=
  .ite (State.PendKept.event (.ite (s.pendKept_faultNow 48 4 k 0)
      (.of_fr (State.hold_fr (κ := 0x1000) (Fr.refl _ _)) (by decide))) 103)
    (.of_fr (m := 0x8000000000000000000000000000000000000000000000000000000000000000) (State.inc_fr (Fr.refl _ _) (by
      unfold grtPend; split <;> (try split) <;> (try split) <;> decide)) (by decide))

/-- A fault loses no pending bit. -/
theorem State.pendKept_fault (s : State) (code sc unit detail : Nat) : State.PendKept s (s.fault code sc unit detail) :=
  .ite ((s.pendKept_faultNow code sc unit detail).trans (.forEach State.pendKept_grtAdd _ _))
    (.of_fr (State.hold_fr (κ := 0x1000) (Fr.refl _ _)) (by decide))

/-- A fault loses no status bit. -/
theorem State.stat_fault_mono (s : State) (c k unit detail sc code : Nat) (h : s.stat sc code = true) :
    (s.fault c k unit detail).stat sc code = true := by
  rw [State.fault]
  split
  · have hnow : (s.faultNow c k unit detail).stat sc code = true := by
      rw [State.stat_faultNow_eq]
      exact s.stat_raiseNow_mono c k unit detail sc code h
    generalize s.faultNow c k unit detail = u at hnow
    generalize grtCounters c k = l
    induction l generalizing u with
    | nil => exact hnow
    | cons a r ih => exact ih _ (u.stat_grtAdd_mono a sc code hnow)
  · rw [State.stat_of_fr (State.hold_fr (κ := 0x1000) (Fr.refl _ _)) (by decide)]
    exact h

end Sys2Proof.Machine

namespace Sys2Proof.Machine

set_option Elab.async false

/-! ### A fault of the Grotto and its event (R508) -/

theorem State.grtFault_eq (s : State) (code event detail : Nat) :
    s.grtFault code event detail =
      if (s.fault code 4 0 detail).isRunning then (s.fault code 4 0 detail).event event else s.fault code 4 0 detail := rfl

theorem State.isRunning_fault (s : State) (code sc unit detail : Nat) : (s.fault code sc unit detail).isRunning = s.isRunning :=
  State.isRunning_of_fr (State.fault_fr (κ := 0xc2c01000008004ac000000400000000000000000000000000000000000000240002201f400) (Fr.refl _ _))

/-- What a fault of the Grotto reaches. -/
abbrev grtFaultReach : Nat := 0xc2c01000008004ac000000400000000000000000000000000000000000000240002201f400

theorem State.grtFault_reach (s : State) (code event detail : Nat) : Fr grtFaultReach s (s.grtFault code event detail) :=
  State.grtFault_fr (Fr.refl _ _)

/-- In RUNNING it is raised with its event. -/
theorem State.grtFault_raises (s : State) (code event detail : Nat) (hrun : s.isRunning = true) (he : eventNamed event = true) :
    (s.grtFault code event detail).stat 4 code = true ∧ (s.grtFault code event detail).pend event = true := by
  rw [State.grtFault_eq, if_pos (by rw [State.isRunning_fault]; exact hrun)]
  refine ⟨?_, State.pend_event _ event he⟩
  rw [State.stat_of_fr (State.event_fr (κ := 0x2c01000000000800000004000000000000000000000000000000000000002400002018400) (Fr.refl _ _)) (by decide)]
  exact s.stat_fault code 4 0 detail hrun

theorem State.hold_holds (s : State) (code sc unit detail : Nat) (hup : s.isUp = true) :
    ∃ h ∈ (s.hold code sc unit detail).held, h.code = code := by
  rw [State.hold]
  split
  next hany =>
    simp only [hup, Bool.not_true, Bool.false_or, List.any_eq_true, Bool.and_eq_true, beq_iff_eq] at hany
    obtain ⟨h, hmem, ⟨hcode, -⟩, -⟩ := hany
    exact ⟨h, hmem, hcode⟩
  next => exact ⟨_, List.mem_append_right _ (List.mem_singleton_self _), rfl⟩

theorem State.hold_mono (s : State) (code sc unit detail : Nat) (h : Held) (hmem : h ∈ s.held) : h ∈ (s.hold code sc unit detail).held := by
  rw [State.hold]
  split
  · exact hmem
  · exact List.mem_append_left _ hmem

/-- Outside RUNNING it is held. -/
theorem State.grtFault_held (s : State) (code event detail : Nat) (hrun : s.isRunning = false) (hcode : (code == 36) = false) :
    s.grtFault code event detail = s.hold code 4 0 detail := by
  have hfault : s.fault code 4 0 detail = s.hold code 4 0 detail := by rw [State.fault, if_neg (by simp [hrun, hcode])]
  rw [State.grtFault_eq, if_neg (by rw [State.isRunning_fault, hrun]; decide), hfault]

/-- What it leaves of what was raised or held before. -/
theorem State.grtFault_mono (s : State) (code event detail : Nat) :
    State.PendKept s (s.grtFault code event detail) ∧
      ∀ sc c, s.stat sc c = true → (s.grtFault code event detail).stat sc c = true := by
  rw [State.grtFault_eq]
  refine ⟨.ite ((s.pendKept_fault code 4 0 detail).event event) (s.pendKept_fault code 4 0 detail), fun sc c h => ?_⟩
  have hstat := s.stat_fault_mono code 4 0 detail sc c h
  split
  · rw [State.stat_of_fr (State.event_fr (κ := 0x2c01000000000800000004000000000000000000000000000000000000002400002018400) (Fr.refl _ _)) (by decide)]
    exact hstat
  · exact hstat

/-- A fault of the Grotto has been found: in RUNNING it is raised with its event, and before it is held. -/
def State.grtFound (t : State) (run : Bool) (code event : Nat) : Prop :=
  if run then t.stat 4 code = true ∧ t.pend event = true else ∃ h, h ∈ t.held ∧ h.code = code

theorem State.grtFault_found (s : State) (code event detail : Nat) (hup : s.isUp = true) (hcode : (code == 36) = false)
    (he : eventNamed event = true) : (s.grtFault code event detail).grtFound s.isRunning code event := by
  rw [State.grtFound]
  split
  next hrun => exact s.grtFault_raises code event detail hrun he
  next hrun =>
    rw [s.grtFault_held code event detail (by simpa using hrun) hcode]
    exact s.hold_holds code 4 0 detail hup

theorem State.grtFound.grtFault {s : State} {code event : Nat} (h : s.grtFound s.isRunning code event) (he : event < 128) (c e detail : Nat)
    (hc : (c == 36) = false) : (s.grtFault c e detail).grtFound s.isRunning code event := by
  obtain ⟨hpend, hstat⟩ := s.grtFault_mono c e detail
  by_cases hrun : s.isRunning = true
  · rw [State.grtFound, if_pos hrun] at h ⊢
    exact ⟨hstat 4 code h.1, hpend event he h.2⟩
  · rw [State.grtFound, if_neg hrun] at h ⊢
    obtain ⟨q, hq, hqc⟩ := h
    rw [s.grtFault_held c e detail (by simpa using hrun) hc]
    exact ⟨q, s.hold_mono c 4 0 detail q hq, hqc⟩

/-- What touches neither the status bits nor the pending bits nor what is held keeps it. -/
theorem State.grtFound.of_fr {m : Nat} {s t : State} {run : Bool} {code event : Nat} (h : s.grtFound run code event) (hfr : Fr m s t)
    (hst : m.testBit (32 + 203) = false) (hpe : m.testBit (32 + 207) = false) (hh : m.testBit 12 = false) : t.grtFound run code event := by
  rw [State.grtFound, State.stat_of_fr hfr hst, State.pend_of_fr hfr hpe, hfr.keep_held hh]
  exact h

/-! ### What the Grotto reads as (R540 to R543) -/

section
variable {s t : State} (h : t.otp.cells0 = s.otp.cells0 ∧ t.otp.cells1 = s.otp.cells1)
include h

theorem State.cellAt_of_cells (c k a : Nat) : t.cellAt c k a = s.cellAt c k a := by
  rw [State.cellAt, State.cellAt, h.1, h.2]

theorem State.used_of_cells (a : Nat) : t.used a = s.used a := by
  simp only [State.used, State.cell, State.cellAt_of_cells h, Bool.false_eq_true, if_false]

theorem State.weakBits_of_cells (hband : t.fld F.ORG_TJ_BAND = s.fld F.ORG_TJ_BAND) (a : Nat) : t.weakBits a = s.weakBits a := by
  have hcell (c : Nat) (b : Bool) : t.cell c b a = s.cell c b a := by
    simp only [State.cell, State.tightRef, hband, State.cellAt_of_cells h]
  simp only [State.weakBits, hcell]

end

/-- What the Grotto keeps beside its cells. -/
def Otp.kept (o : Otp) : Otp := { o with cells0 := [], cells1 := [] }

/-- New readings change the cells alone. -/
theorem State.otpRead_kept (s : State) (l : List GrtRead) : (s.otpRead l).otp.kept = s.otp.kept := by
  have hcell (u : State) (c k a : Nat) (w : Word) : (u.setCell c k a w).otp.kept = u.otp.kept := by
    simp only [State.setCell, State.modOtp]
    split <;> rfl
  exact State.forEach_keeps (·.otp.kept) _ (fun u r => State.forEach_keeps (·.otp.kept) _ (fun v k =>
    (hcell _ _ _ _ _).trans (hcell _ _ _ _ _)) _ _) _ _

/-! ### A re-verify (R544) -/

/-- The readings are taken, and the request ends; one for the first sample instant stays. -/
def State.reverifyRead (s : State) (reads : List GrtRead) : State :=
  ((s.otpRead reads).modOtp (fun o => { o with verify := o.verify % 2 })).grtShow

/-- The weak bits are looked for and reported. -/
def State.reverifyWeak (s : State) : State :=
  match s.weakFind.2 with
  | some a => s.weakFind.1.grtFault 46 100 a
  | none => s.weakFind.1

/-- The words that read otherwise than expected and were not reported before. -/
def State.newDiffer (s : State) : List Nat :=
  (List.range 128).filter (fun a => !(s.used a == s.expected a) && !(s.otp.differ.contains a))

/-- They are reported. -/
def State.reverifyDiffer (s : State) : State :=
  match s.newDiffer with
  | [] => s
  | a :: _ =>
    (((s.modOtp (fun o => { o with differ := o.differ ++ s.newDiffer })).set F.GRT_STAT_MISMATCH_SEEN 1).setCause 4 47 true).grtFault 47 102 a

theorem exec_grottoReverify (s : State) (reads : List GrtRead) : exec (.grottoReverify reads) s =
    .next (if s.booted = true ∧ bit s.otp.verify 1 = true ∧ s.otp.queue = [] then (s.reverifyRead reads).reverifyWeak.reverifyDiffer
      else s) := by
  rfl

/-- What a re-verify reaches. -/
abbrev reverifyReach : Nat := 0xc2c0100009a004bc000000400000000000000000000000000000000000000244002601f400

theorem State.reverifyRead_reach (s : State) (reads : List GrtRead) : Fr reverifyReach s (s.reverifyRead reads) :=
  State.grtShow_fr (State.modOtp_fr (State.otpRead_fr (Fr.refl _ _)))

theorem State.weakFind_reach (s : State) : Fr 0x82000000000000000000000000000000000000000000000000000000000000000 s s.weakFind.1 := State.weakFind_fr (Fr.refl _ _)

theorem State.reverifyWeak_reach (s : State) : Fr 0xc2c0100008a004ac000000400000000000000000000000000000000000000240002201f400 s s.reverifyWeak := by
  have hfind := s.weakFind_reach.mono (m := 0xc2c0100008a004ac000000400000000000000000000000000000000000000240002201f400) (by decide)
  rw [State.reverifyWeak]
  split
  · exact State.grtFault_fr hfind
  · exact hfind

theorem State.reverifyDiffer_reach (s : State) : Fr reverifyReach s s.reverifyDiffer := by
  rw [State.reverifyDiffer]
  split
  · exact Fr.refl _ _
  · exact State.grtFault_fr (State.setCause_fr (State.set_fr (State.modOtp_fr (Fr.refl _ _))))

theorem State.otp_reverifyRead (s : State) (reads : List GrtRead) :
    (s.reverifyRead reads).otp.kept = { s.otp.kept with verify := s.otp.verify % 2 } := by
  have hshow : (s.reverifyRead reads).otp = { (s.otpRead reads).otp with verify := (s.otpRead reads).otp.verify % 2 } := rfl
  have hkept := s.otpRead_kept reads
  have hverify : (s.otpRead reads).otp.verify = s.otp.verify := (congrArg Otp.verify hkept :)
  rw [hshow, hverify, ← hkept]
  rfl

theorem State.busy_reverifyRead (s : State) (reads : List GrtRead) (hq : s.otp.queue = []) :
    (s.reverifyRead reads).fld F.GRT_STAT_BUSY = 0 := by
  have hkept := s.otpRead_kept reads
  have hqueue : (s.otpRead reads).otp.queue = [] := (congrArg Otp.queue hkept :).trans hq
  have hbit (n : Nat) : bit (n % 2) 1 = false := by
    rw [show (2 : Nat) = 2 ^ 1 from rfl, bit_mod]
    rfl
  rw [State.reverifyRead, State.grtShow, State.setB, State.fld_set _ _ _ rfl]
  simp only [State.modOtp, hqueue, hbit]
  rfl

theorem State.busy_weakFind (s : State) : s.weakFind.1.fld F.GRT_STAT_BUSY = s.fld F.GRT_STAT_BUSY := by
  simp only [State.weakFind]
  refine (State.ite_keeps (·.fld F.GRT_STAT_BUSY) _ _ _ ?_).trans ?_
  · exact (State.fld_set_apart _ _ rfl rfl).symm
  · rw [State.fld_set_apart _ _ rfl rfl, State.fld_set_apart _ _ rfl rfl, State.fld_set_apart _ _ rfl rfl]

theorem State.busy_reverifyWeak (s : State) : s.reverifyWeak.fld F.GRT_STAT_BUSY = s.fld F.GRT_STAT_BUSY := by
  rw [State.reverifyWeak]
  split
  · rw [(State.grtFault_reach _ 46 100 _).keep_fld (by decide), State.busy_weakFind]
  · exact s.busy_weakFind

theorem State.busy_reverifyDiffer (s : State) : s.reverifyDiffer.fld F.GRT_STAT_BUSY = s.fld F.GRT_STAT_BUSY := by
  rw [State.reverifyDiffer]
  split
  · rfl
  · rw [(State.grtFault_reach _ 47 102 _).keep_fld (by decide), State.setCause, State.setBit, State.fld_set_apart _ _ rfl rfl,
      State.fld_set_apart _ _ rfl rfl, State.modOtp_fld]

/-- R544: a weak bit is found. -/
theorem State.reverifyWeak_found (s : State) (hup : s.isUp = true) (h : ∃ a, a < 128 ∧ s.weakBits a ≠ 0) :
    s.reverifyWeak.grtFound s.isRunning 46 100 := by
  obtain ⟨a, ha, hweak⟩ := h
  have hfirst : s.weakFind.2.isSome = true := by
    rw [State.weakFind, List.find?_isSome]
    exact ⟨a, List.mem_range.mpr ha, by simpa using hweak⟩
  obtain ⟨b, hb⟩ := Option.isSome_iff_exists.mp hfirst
  have hrun : s.weakFind.1.isRunning = s.isRunning := State.isRunning_of_fr s.weakFind_reach
  have hup' : s.weakFind.1.isUp = true := by rw [State.isUp, s.weakFind_reach.keep_die]; exact hup
  rw [State.reverifyWeak, hb, ← hrun]
  exact State.grtFault_found _ 46 100 b hup' rfl rfl

/-- The words reported now are remembered; nothing else of the Grotto changes. -/
theorem State.otp_reverifyDiffer (s : State) : s.reverifyDiffer.otp = { s.otp with differ := s.otp.differ ++ s.newDiffer } := by
  rw [State.reverifyDiffer]
  split
  next hnew => rw [hnew, List.append_nil]
  next => rw [(State.grtFault_reach _ 47 102 _).keep_otp]; rfl

/-- R544: words that read otherwise, not reported before. -/
theorem State.reverifyDiffer_found (s : State) (hup : s.isUp = true) (h : s.newDiffer ≠ []) :
    s.reverifyDiffer.cause 4 47 = true ∧ s.reverifyDiffer.grtFound s.isRunning 47 102 := by
  obtain ⟨a, r, hnew⟩ := List.exists_cons_of_ne_nil h
  rw [State.reverifyDiffer, hnew]
  simp only
  have hcause := State.cause_setCause ((s.modOtp (fun o => { o with differ := o.differ ++ (a :: r) })).set F.GRT_STAT_MISMATCH_SEEN 1) 4 47 true
  have hreach : Fr reverifyReach s
      (((s.modOtp (fun o => { o with differ := o.differ ++ (a :: r) })).set F.GRT_STAT_MISMATCH_SEEN 1).setCause 4 47 true) :=
    State.setCause_fr (State.set_fr (State.modOtp_fr (Fr.refl _ _)))
  generalize ((s.modOtp (fun o => { o with differ := o.differ ++ (a :: r) })).set F.GRT_STAT_MISMATCH_SEEN 1).setCause 4 47 true = u at hcause hreach
  refine ⟨(State.cause_of_fr (u.grtFault_reach 47 102 a) (by decide) 4 47).trans hcause, ?_⟩
  rw [← State.isRunning_of_fr (s := s) (t := u) hreach]
  exact u.grtFault_found 47 102 a (by rw [State.isUp, hreach.keep_die]; exact hup) rfl rfl

/-- What was found before stays found. -/
theorem State.grtFound_reverifyDiffer (s : State) (h : s.grtFound s.isRunning 46 100) : s.reverifyDiffer.grtFound s.isRunning 46 100 := by
  rw [State.reverifyDiffer]
  split
  next => exact h
  next a r hnew =>
    have hreach : Fr 0x82000100000000000000000000000000000000000000000000000000004000000 s
        (((s.modOtp (fun o => { o with differ := o.differ ++ s.newDiffer })).set F.GRT_STAT_MISMATCH_SEEN 1).setCause 4 47 true) :=
      State.setCause_fr (State.set_fr (State.modOtp_fr (Fr.refl _ _)))
    have hkept := h.of_fr hreach (by decide) (by decide) (by decide)
    rw [← State.isRunning_of_fr hreach] at hkept ⊢
    exact hkept.grtFault (by decide) 47 102 a rfl

/-- Settles O16: the readings are taken, then the weak bits and the differing words are reported, and each report stands at the end. -/
theorem reverifyReportsWeakAndDifferingWords : Obligations.ReverifyReportsWeakAndDifferingWords := by
  intro s reads
  refine ⟨fun hnone => ?_, fun hbooted hdue hq => ⟨_, (exec_grottoReverify s reads).trans (by rw [if_pos ⟨hbooted, hdue, hq⟩]), ?_⟩⟩
  · rw [exec_grottoReverify, if_neg]
    rintro ⟨hbooted, hdue, -⟩
    rcases hnone with h | h
    · exact absurd hbooted (by simp [h])
    · exact absurd hdue (by simp [h])
  have hup : s.isUp = true := by
    simp only [State.booted, Bool.and_eq_true] at hbooted
    exact hbooted.1
  have hread := s.reverifyRead_reach reads
  have hkept := s.otp_reverifyRead reads
  have hbusy := s.busy_reverifyRead reads hq
  have hrun : (s.reverifyRead reads).isRunning = s.isRunning := State.isRunning_of_fr hread
  have hupR : (s.reverifyRead reads).isUp = true := by rw [State.isUp, hread.keep_die]; exact hup
  generalize s.reverifyRead reads = u at hread hkept hbusy hrun hupR
  have hweak := u.reverifyWeak_reach
  have hotpW : u.reverifyWeak.otp = u.otp := hweak.keep_otp
  have hrunW : u.reverifyWeak.isRunning = s.isRunning := (State.isRunning_of_fr hweak).trans hrun
  have hupW : u.reverifyWeak.isUp = true := by rw [State.isUp, hweak.keep_die]; exact hupR
  have hotp := u.reverifyWeak.otp_reverifyDiffer
  have hcells : u.reverifyWeak.reverifyDiffer.otp.cells0 = u.otp.cells0 ∧ u.reverifyWeak.reverifyDiffer.otp.cells1 = u.otp.cells1 := by
    rw [hotp, hotpW]; exact ⟨rfl, rfl⟩
  have hdiffer : u.reverifyWeak.otp.differ = s.otp.differ := by rw [hotpW]; exact (congrArg Otp.differ hkept :)
  refine ⟨?verify, ?busy, fun a => ?latched, fun hw => ?weak, fun a ha hne => ?differ⟩
  case verify => rw [hotp, hotpW]; exact (congrArg Otp.verify hkept :)
  case busy => rw [State.busy_reverifyDiffer, State.busy_reverifyWeak, hbusy]
  case latched =>
    have hlatched : u.reverifyWeak.reverifyDiffer.otp.latched = s.otp.latched := by
      rw [hotp, hotpW]; exact (congrArg Otp.latched hkept :)
    rw [State.latched, hlatched, State.latched]
  case weak =>
    have hband : u.reverifyWeak.reverifyDiffer.fld F.ORG_TJ_BAND = u.fld F.ORG_TJ_BAND :=
      (u.reverifyWeak.reverifyDiffer_reach.keep_fld (by decide)).trans (hweak.keep_fld (by decide))
    have hfound := u.reverifyWeak_found hupR (hw.imp fun a h => ⟨h.1, by rw [← State.weakBits_of_cells hcells hband]; exact h.2⟩)
    rw [hrun, ← hrunW] at hfound
    have hend := u.reverifyWeak.grtFound_reverifyDiffer hfound
    rw [hrunW] at hend
    exact hend
  case differ =>
    have hused : u.reverifyWeak.reverifyDiffer.used a = u.reverifyWeak.used a :=
      State.used_of_cells (by rw [hotp]; exact ⟨rfl, rfl⟩) a
    have hexpected : u.reverifyWeak.reverifyDiffer.expected a = u.reverifyWeak.expected a := by
      simp only [State.expected, State.latched, hotp]
    rw [hused, hexpected] at hne
    have hnew (h : a ∉ s.otp.differ) : a ∈ u.reverifyWeak.newDiffer := by
      rw [State.newDiffer, List.mem_filter]
      exact ⟨List.mem_range.mpr ha, by simp [hne, hdiffer, h]⟩
    refine ⟨?_, fun h => ?_⟩
    · rw [hotp]
      by_cases h : a ∈ s.otp.differ
      · exact List.mem_append_left _ (by rw [hdiffer]; exact h)
      · exact List.mem_append_right _ (hnew h)
    · have hfound := u.reverifyWeak.reverifyDiffer_found hupW (List.ne_nil_of_mem (hnew h))
      rw [hrunW] at hfound
      exact hfound

end Sys2Proof.Machine

namespace Sys2Proof.Machine

set_option Elab.async false

/-! ### A load that fails (R82, R83, R90) -/

/-- The state without an image follows from the latched Grotto words and BOOTSEL. -/
theorem State.noImageState_congr {s t : State} (hlatched : ∀ a, t.latched a = s.latched a)
    (hsel : t.fld F.GH_BOOT_STATUS_BOOTSEL = s.fld F.GH_BOOT_STATUS_BOOTSEL) : t.noImageState = s.noImageState := by
  have hkey : t.keyOk = s.keyOk := congrArg keyValid (funext hlatched)
  have hreq : t.reqEnc = s.reqEnc := by rw [State.reqEnc, hlatched, State.reqEnc]
  rw [State.noImageState, State.noImageState, hkey, hreq, hsel]

/-- What stands of the Grotto and of GH.BOOT_STATUS keeps what a failed load left. -/
theorem State.loadFailed.of_fr {m : Nat} {s t : State} {r : Nat} (h : s.loadFailed r) (hfr : Fr m s t)
    (hotp : m.testBit 26 = false := by decide) (hboot : m.testBit (32 + 1) = false := by decide) : t.loadFailed r := by
  have hfld (f : Fld) (hf : f.reg = A.GH_BOOT_STATUS) : t.fld f = s.fld f := hfr.keep_fld (by rw [hf]; exact hboot)
  have hlatched (a : Nat) : t.latched a = s.latched a := by rw [State.latched, hfr.keep_otp hotp, State.latched]
  obtain ⟨hresult, hstate⟩ := h
  exact ⟨(hfld _ rfl).trans hresult, (hfld _ rfl).trans (hstate.trans (State.noImageState_congr hlatched (hfld _ rfl)).symm)⟩

theorem State.noImage_eq (s : State) (us : Nat) : s.noImage us = (s.set F.GH_BOOT_STATUS_STATE s.noImageState).bootTime us := rfl

theorem State.noImageState_lt (s : State) : s.noImageState < 2 ^ F.GH_BOOT_STATUS_STATE.width := by
  rw [State.noImageState]
  split
  · decide
  · split <;> decide

/-- Another field of GH.BOOT_STATUS stands as the die enters the state without an image. -/
theorem State.fld_noImage (s : State) (us : Nat) {f : Fld} (hreg : f.reg = A.GH_BOOT_STATUS) (hf : F.GH_BOOT_STATUS_STATE.apart f = true) :
    (s.noImage us).fld f = s.fld f := by
  rw [State.noImage_eq, (State.bootTime_fr (κ := 0x4000000000) (Fr.refl _ _)).keep_fld (by rw [hreg]; decide), State.fld_set_apart _ _ rfl hf]

/-- R90: the state without an image, with the RESULT that stands. -/
theorem State.loadFailed_noImage (s : State) (us : Nat) : (s.noImage us).loadFailed (s.fld F.GH_BOOT_STATUS_RESULT) := by
  refine ⟨s.fld_noImage us rfl rfl, ?_⟩
  have hstate : (s.noImage us).noImageState = s.noImageState := by
    have hfr : Fr 0x4200000000 s (s.noImage us) := State.noImage_fr (Fr.refl _ _)
    have hlatched (a : Nat) : (s.noImage us).latched a = s.latched a := by rw [State.latched, hfr.keep_otp, State.latched]
    exact State.noImageState_congr hlatched (s.fld_noImage us rfl rfl)
  rw [hstate, State.noImage_eq, (State.bootTime_fr (κ := 0x4000000000) (Fr.refl _ _)).keep_fld (by decide),
    State.fld_set_of_lt _ _ _ rfl s.noImageState_lt]

/-- A load that fails shows its RESULT, and no other field of GH.BOOT_STATUS. -/
theorem State.fld_loadFails (s : State) (r : Nat) (e : Option LoadFail) (hr : r < 16) :
    (s.loadFails r e).fld F.GH_BOOT_STATUS_RESULT = r ∧
      ∀ f, f.reg = A.GH_BOOT_STATUS → F.GH_BOOT_STATUS_RESULT.apart f = true → (s.loadFails r e).fld f = s.fld f := by
  have hdetail (f : Fld) (hf : f.reg = A.GH_BOOT_STATUS) :
      (s.loadFails r e).fld f = (s.set F.GH_BOOT_STATUS_RESULT r).fld f := by
    have hfr : Fr 0x20000000000 (s.set F.GH_BOOT_STATUS_RESULT r) (s.loadFails r e) := by
      cases e with
      | none => exact Fr.refl _ _
      | some e => exact State.set_fr (State.set_fr (State.set_fr (Fr.refl _ _)))
    exact hfr.keep_fld (by rw [hf]; decide)
  exact ⟨(hdetail _ rfl).trans (State.fld_set_of_lt _ _ _ rfl hr), fun f hf hap => (hdetail f hf).trans (State.fld_set_apart _ _ rfl hap)⟩

theorem State.loadFails_noImage (s : State) (r : Nat) (e : Option LoadFail) (us : Nat) (hr : r < 16) :
    ((s.loadFails r e).noImage us).loadFailed r := by
  have h := (s.loadFails r e).loadFailed_noImage us
  rw [(s.fld_loadFails r e hr).1] at h
  exact h

/-- R82, R90: a flash load fails, with FALLBACK in mode 10. -/
theorem State.flashFails_fails (s : State) (d : List Byte) (upTo r : Nat) (e : Option LoadFail) (us : Nat) (hr : r < 16) :
    (s.flashFails d upTo r e us).loadFailed r ∧
      (s.fld F.GH_BOOT_STATUS_BOOTSEL = 2 → (s.flashFails d upTo r e us).fld F.GH_BOOT_STATUS_FALLBACK = 1) := by
  have hzero : Fr 0x1000000000000000000000000000000000000000000000000000000001e0 s (s.zeroSects d upTo) := State.zeroSects_fr (Fr.refl _ _)
  obtain ⟨hresult, hother⟩ := (s.zeroSects d upTo).fld_loadFails r e hr
  have hsel : ((s.zeroSects d upTo).loadFails r e).fld F.GH_BOOT_STATUS_BOOTSEL = s.fld F.GH_BOOT_STATUS_BOOTSEL :=
    (hother _ rfl rfl).trans (hzero.keep_fld (by decide))
  simp only [State.flashFails]
  generalize (s.zeroSects d upTo).loadFails r e = u at hresult hsel
  by_cases h2 : u.fld F.GH_BOOT_STATUS_BOOTSEL = 2
  · rw [if_pos h2]
    have hfailed := (u.set F.GH_BOOT_STATUS_FALLBACK 1).loadFailed_noImage us
    rw [State.fld_set_apart _ _ rfl rfl, hresult] at hfailed
    refine ⟨hfailed, fun _ => ?_⟩
    rw [State.fld_noImage _ us rfl rfl, State.fld_set_of_lt _ _ _ rfl (by decide)]
  · rw [if_neg h2]
    have hfailed := u.loadFailed_noImage us
    rw [hresult] at hfailed
    exact ⟨hfailed, fun h => absurd (hsel.trans h) h2⟩

/-! ### RUNNING (R75, tables 3.7, 3.11, 3.12) -/

/-- What GH shows as the die enters RUNNING. -/
def State.runningShown (s : State) (host : Bool) (us : Nat) : State :=
  ((((((s.set F.GH_BOOT_STATUS_STATE 5).setB F.GH_BOOT_STATUS_SRC host).setB F.GH_BOOT_STATUS_ENCRYPTED s.img.enc).set
    F.GH_BOOT_STATUS_RESULT 1).set F.GH_IMG_VER_VERSION s.img.version).bootTime us)

/-- What entering RUNNING reaches beside. -/
abbrev runningReach : Nat := 0xc2c01000008004bc180408400000e00020501e000e000100000080000400026000a687f530

/-- The axes start, with the PACE floors of the image and of the band. -/
def State.axesStarted (s : State) : State :=
  (((s.set F.HB_PACE_LIM_BAND_FLOOR (bandFloor (s.fld F.ORG_TJ_BAND))).set F.HB_PACE_LIM_IMG_FLOOR (bandFloor s.img.tbMax)).startAxis
    .a).startAxis .b

/-- The driver estimate begins anew, a re-verify is asked for at the first sample instant, and the window of the band is in force. -/
def State.windowsBegun (s : State) : State :=
  let s := (s.modOrg (fun o => { o with rise := [0, 0], halted := false })).modOtp (fun o => { o with verify := o.verify / 2 * 2 + 1 })
  s.set F.SNS_SAR_WIN_W_NOW (s.fld (winFld (s.fld F.ORG_TJ_BAND)))

/-- What was held is raised, with the events of the Grotto's faults, of the host's request and of a thermal restart. -/
def State.heldRaised (s : State) (host hot : Bool) : State :=
  let s1 := s.raiseHeld
  let s2 := if s.held.any (fun h => h.code == 46) then s1.event 100 else s1
  let s3 := if s.held.any (fun h => h.code == 47) then s2.event 102 else s2
  let s4 := if host then s3.event 82 else s3
  if hot then s4.event 99 else s4

theorem State.enterRunning_eq (s : State) (host : Bool) (us : Nat) : s.enterRunning host us =
    (s.runningShown host us).axesStarted.windowsBegun.heldRaised host (s.runningShown host us).axesStarted.org.halted := rfl

theorem State.axesStarted_reach (s : State) : Fr runningReach s s.axesStarted :=
  State.startAxis_fr (State.startAxis_fr (State.set_fr (State.set_fr (Fr.refl _ _))))

theorem State.windowsBegun_reach (s : State) : Fr runningReach s s.windowsBegun :=
  State.set_fr (State.modOtp_fr (State.modOrg_fr (Fr.refl _ _)))

theorem Fr.eventIf {m : Nat} {s t : State} (h : Fr m s t) (c : Bool) (e : Nat)
    (hk : 0x2c01000000000800000004000000000000000000000000000000000000002400002018400 &&& m =
      0x2c01000000000800000004000000000000000000000000000000000000002400002018400 := by decide) :
    Fr m s (if c then t.event e else t) := Fr.ite (State.event_fr h hk) h

theorem State.heldRaised_reach (s : State) (host hot : Bool) : Fr runningReach s (s.heldRaised host hot) :=
  ((((State.raiseHeld_fr (Fr.refl _ _)).eventIf _ 100).eventIf _ 102).eventIf host 82).eventIf hot 99

theorem State.enterRunning_reach (s : State) (host : Bool) (us : Nat) :
    Fr runningReach (s.runningShown host us) (s.enterRunning host us) := by
  rw [State.enterRunning_eq]
  exact ((State.axesStarted_reach _).trans (State.windowsBegun_reach _)).trans (State.heldRaised_reach _ _ _)

/-- The die runs the image that has been applied. -/
theorem State.enterRunning_runs (s : State) (host : Bool) (us : Nat) (hup : s.isUp = true) (hversion : s.img.version < 65536) :
    (s.enterRunning host us).runsImage host us := by
  have hreach := s.enterRunning_reach host us
  have htime : Fr 0x4000000000 (((((s.set F.GH_BOOT_STATUS_STATE 5).setB F.GH_BOOT_STATUS_SRC host).setB F.GH_BOOT_STATUS_ENCRYPTED
      s.img.enc).set F.GH_BOOT_STATUS_RESULT 1).set F.GH_IMG_VER_VERSION s.img.version) (s.runningShown host us) :=
    State.bootTime_fr (Fr.refl _ _)
  have hbits (b : Bool) : b2n b < 2 ^ 1 := by cases b <;> decide
  refine ⟨?running, ?result, ?src, ?version, ?time⟩
  case running =>
    have hstate : (s.runningShown host us).fld F.GH_BOOT_STATUS_STATE = 5 := by
      rw [htime.keep_fld (by decide), State.fld_set_apart _ _ rfl rfl, State.fld_set_apart _ _ rfl rfl, State.setB,
        State.fld_set_apart _ _ rfl rfl, State.setB, State.fld_set_apart _ _ rfl rfl, State.fld_set_of_lt _ _ _ rfl (by decide)]
    rw [State.isRunning_of_fr hreach, State.isRunning, hstate, State.isUp, htime.keep_die]
    simpa [State.isUp, State.setB] using hup
  case result =>
    rw [hreach.keep_fld (by decide), htime.keep_fld (by decide), State.fld_set_apart _ _ rfl rfl, State.fld_set_of_lt _ _ _ rfl (by decide)]
  case src =>
    rw [hreach.keep_fld (by decide), htime.keep_fld (by decide), State.fld_set_apart _ _ rfl rfl, State.fld_set_apart _ _ rfl rfl,
      State.setB, State.fld_set_apart _ _ rfl rfl, State.setB, State.fld_set_of_lt _ _ _ rfl (hbits host)]
  case version =>
    rw [hreach.keep_fld (by decide), htime.keep_fld (by decide), State.fld_set_of_lt _ _ _ rfl hversion, hreach.keep_img, htime.keep_img]
    rfl
  case time =>
    rw [hreach.keep_fld (by decide), State.runningShown, State.bootTime, State.fld_set_of_lt _ _ _ rfl]
    exact Nat.lt_of_le_of_lt (Nat.min_le_right us _) (by decide)

theorem u16_lt (b : List Byte) (o : Nat) : u16 b o < 65536 := by
  have h0 := (nth 0 b o).isLt
  have h1 := (nth 0 b (o + 1)).isLt
  simp only [u16, u8]
  omega

/-! ### An image applied, or refused (steps 6 and 7) -/

/-- R80, table 3.7: the RESULT of authentication, policy and version. -/
theorem State.accept_lt (s : State) (d : List Byte) : s.accept d < 16 := by
  simp only [State.accept]
  generalize (if s.keyOk = true then deriveKey (keyBytes (keyWords s.latched)) 3 else List.replicate 32 0) = key
  split
  · decide
  · split
    · decide
    · split
      · decide
      · split <;> decide

/-- An image that is refused has a RESULT of table 3.7. -/
theorem State.applyImage_refused {s : State} {d : List Byte} {host : Bool} {r : Nat} {e : Option LoadFail}
    (h : s.applyImage d host = .inr (r, e)) : r < 16 := by
  rw [State.applyImage] at h
  split at h
  · simp only at h
    split at h
    · obtain ⟨rfl, -⟩ := Prod.mk.inj (Sum.inr.inj h)
      decide
    · simp at h
  · obtain ⟨rfl, -⟩ := Prod.mk.inj (Sum.inr.inj h)
    exact s.accept_lt d

/-- One that is applied gives its version, and leaves the control die as it stands. -/
theorem State.applyImage_applied {s t : State} {d : List Byte} {host : Bool} (h : s.applyImage d host = .inl t) :
    t.isUp = s.isUp ∧ t.img.version < 65536 := by
  have hreach : Fr 0x1ffffffffffffffffffffffffffffffffffffffffffffffffffffffffffffffffff000003f0 s t := State.applyImage_fr (Fr.refl _ _) h
  refine ⟨by rw [State.isUp, hreach.keep_die, State.isUp], ?_⟩
  rw [State.applyImage] at h
  split at h
  · simp only at h
    split at h
    · simp at h
    · obtain rfl := Sum.inl.inj h
      rw [(State.applyRegs_fr (κ := 0x1ffffffffffffffffffffffffffffffffffffffffffffffffffffffffffffffffff00000010) (Fr.refl _ _)).keep_img]
      exact u16_lt _ _
  · simp at h

end Sys2Proof.Machine

namespace Sys2Proof.Machine

set_option Elab.async false

/-! ### Steps 2 and 3 keep BOOTSEL and RESULT -/

/-- The fields of GH.BOOT_STATUS that the mode and the last load gave. -/
abbrev bootModeFlds : List Fld := [F.GH_BOOT_STATUS_BOOTSEL, F.GH_BOOT_STATUS_RESULT]

/-- The boot's readings change the rest of GH.BOOT_STATUS. -/
theorem bootModeFlds_apart : ∀ f ∈ bootModeFlds, f.reg = A.GH_BOOT_STATUS ∧ ∀ g ∈ [F.GH_BOOT_STATUS_WEAK, F.GH_BOOT_STATUS_KEY_VALID,
    F.GH_BOOT_STATUS_REQ_ENC, F.GH_BOOT_STATUS_CAL_SLOT, F.GH_BOOT_STATUS_SLOT_MISMATCH], g.ok = true ∧ g.apart f = true := by decide

theorem Fr.keep_bootMode {m : Nat} {s t : State} (h : Fr m s t) {f : Fld} (hf : f ∈ bootModeFlds)
    (hm : m.testBit (32 + 1) = false := by decide) : t.fld f = s.fld f :=
  h.keep_fld (by rw [(bootModeFlds_apart f hf).1]; exact hm)

/-- The Grotto words are read and latched. -/
def State.grottoLatched (s : State) (reads : List GrtRead) : State :=
  ((s.otpRead reads).modOtp (fun o => { o with latched := [], blown := [], differ := [] })).forEach (List.range 128) (fun s a =>
    let w := s.used a
    s.modOtp (fun o => { o with latched := cset otpZero o.latched a w }))

/-- A weak bit is shown, and held for RUNNING. -/
def State.weakShown (s : State) : State :=
  let p := s.weakFind
  let s := p.1.setB F.GH_BOOT_STATUS_WEAK p.2.isSome
  match p.2 with
  | some a => s.hold 46 4 0 a
  | none => s

/-- The key, the requirement, the floor and the counters are shown. -/
def State.keyShown (s : State) : State :=
  let s := (s.setB F.GH_BOOT_STATUS_KEY_VALID s.keyOk).setB F.GRT_STAT_KEY_VALID s.keyOk
  let s := (s.setB F.GH_BOOT_STATUS_REQ_ENC s.reqEnc).setB F.GRT_STAT_REQ_ENC s.reqEnc
  (s.set F.GH_IMG_VER_FLOOR (ctrValue s.latched 0)).showCounters.showSlots

theorem State.bootGrotto_eq (s : State) (reads : List GrtRead) : s.bootGrotto reads = (s.grottoLatched reads).weakShown.keyShown := rfl

/-- The live values come from the slot chosen, or stand for none. -/
def State.slotTaken (s : State) : State :=
  match slotChosen s.latched with
  | some n => s.loadSlot n
  | none => s.loadNoSlot

/-- A broken slot above it is shown and raised for each value. -/
def State.slotJudged (s : State) (v : Nat → Word) : State :=
  if slotBroken v then
    (s.set F.GH_BOOT_STATUS_SLOT_MISMATCH 1).forEach (List.range 10) (fun s i => s.faultOn 45 4 i ((slotChosen v).getD 0xFF))
  else s

theorem State.bootSlot_eq (s : State) : s.bootSlot = s.slotTaken.slotJudged s.latched := rfl

theorem State.grottoLatched_reach (s : State) (reads : List GrtRead) : Fr 0x4000000 s (s.grottoLatched reads) :=
  Fr.forEach (State.modOtp_fr (State.otpRead_fr (Fr.refl _ _))) fun _ _ ht => State.modOtp_fr ht

section
variable {f : Fld} (hf : f ∈ bootModeFlds)
include hf

theorem State.fld_setBoot (s : State) (g : Fld) (v : Nat) (hg : g ∈ [F.GH_BOOT_STATUS_WEAK, F.GH_BOOT_STATUS_KEY_VALID,
    F.GH_BOOT_STATUS_REQ_ENC, F.GH_BOOT_STATUS_CAL_SLOT, F.GH_BOOT_STATUS_SLOT_MISMATCH]) : (s.set g v).fld f = s.fld f :=
  State.fld_set_apart _ _ ((bootModeFlds_apart f hf).2 g hg).1 ((bootModeFlds_apart f hf).2 g hg).2

theorem State.bootMode_weakShown (s : State) : s.weakShown.fld f = s.fld f := by
  have hshow : (s.weakFind.1.setB F.GH_BOOT_STATUS_WEAK s.weakFind.2.isSome).fld f = s.fld f := by
    rw [State.setB, State.fld_setBoot hf _ _ _ (by simp),
      (State.weakFind_fr (κ := 0x82000000000000000000000000000000000000000000000000000000000000000) (Fr.refl _ _)).keep_bootMode hf]
  simp only [State.weakShown]
  split
  · rw [(State.hold_fr (κ := 0x1000) (Fr.refl _ _)).keep_bootMode hf, hshow]
  · exact hshow

theorem State.bootMode_keyShown (s : State) : s.keyShown.fld f = s.fld f := by
  simp only [State.keyShown]
  generalize hu : (s.setB F.GH_BOOT_STATUS_KEY_VALID s.keyOk).setB F.GRT_STAT_KEY_VALID s.keyOk = u
  have hkey : u.fld f = s.fld f := by
    rw [← hu, (State.setB_fr (m := 0x2000000000000000000000000000000000000000000000000000000000000000) (Fr.refl _ _)).keep_bootMode hf,
      State.setB, State.fld_setBoot hf _ _ _ (by simp)]
  rw [(State.showSlots_fr (κ := 0x6000000000000000000000000000000000000000000000000000002000000000) (State.showCounters_fr (State.set_fr
      (State.setB_fr (Fr.refl _ _))))).keep_bootMode hf, State.setB, State.fld_setBoot hf _ _ _ (by simp), hkey]

theorem State.bootMode_bootGrotto (s : State) (reads : List GrtRead) : (s.bootGrotto reads).fld f = s.fld f := by
  rw [State.bootGrotto_eq, State.bootMode_keyShown hf, State.bootMode_weakShown hf, (s.grottoLatched_reach reads).keep_bootMode hf]

omit hf in
/-- Beside CAL_SLOT a slot loaded leaves GH.BOOT_STATUS. -/
theorem State.loadSlot_reach (s : State) (n : Nat) : Fr 0xe2c01000008804bc000000400000000000000000000000000020000000000240002221f400
    (s.set F.GH_BOOT_STATUS_CAL_SLOT n) (s.loadSlot n) := by
  rw [State.loadSlot]
  refine Fr.forEach (State.set_fr (Fr.forEach (Fr.refl _ _) fun t i ht => ?_)) fun t x ht => State.wr_fr ht
  exact Fr.ite (State.set_fr (State.set_fr ht)) (State.fault_fr (State.set_fr (State.set_fr ht)))

theorem State.bootMode_slotTaken (s : State) : s.slotTaken.fld f = s.fld f := by
  rw [State.slotTaken]
  split
  next n _ => rw [(s.loadSlot_reach n).keep_bootMode hf, State.fld_setBoot hf _ _ _ (by simp)]
  next => exact (State.loadNoSlot_fr (κ := 0x20000000000800000000000000000000000000000000000000200000000000000000200000) (Fr.refl _ _)).keep_bootMode hf

theorem State.bootMode_slotJudged (s : State) (v : Nat → Word) : (s.slotJudged v).fld f = s.fld f := by
  rw [State.slotJudged]
  split
  · exact Eq.trans (Fr.keep_bootMode (m := 0xc2c01000008004bc000000400000000000000000000000000000000000000240002201f400)
      (Fr.forEach (Fr.refl _ _) fun t i ht => State.faultOn_fr ht) hf) (State.fld_setBoot hf _ _ _ (by simp))
  · rfl

theorem State.bootMode_bootSlot (s : State) : s.bootSlot.fld f = s.fld f := by
  rw [State.bootSlot_eq, State.bootMode_slotJudged hf, State.bootMode_slotTaken hf]

/-- The try of the flash, once the header is to be read. -/
theorem State.bootMode_tries (s : State) (t1 t2 : FlashTry) :
    ((s.wr A.GH_LOAD_DETAIL 0).probe t1.id).fld f = s.fld f ∧
      ((((s.wr A.GH_LOAD_DETAIL 0).probe t1.id).tryCount t1 64).probe t2.id).fld f = s.fld f := by
  have hprobe : Fr 0x2c01730000000800000004000000000000000000000000000000000000002420082018400 s ((s.wr A.GH_LOAD_DETAIL 0).probe t1.id) :=
    State.probe_fr (State.wr_fr (Fr.refl _ _))
  exact ⟨hprobe.keep_bootMode hf, (State.probe_fr (State.tryCount_fr hprobe)).keep_bootMode hf⟩

end

/-- Steps 2 and 3. -/
def State.bootRead (s : State) (reads : List GrtRead) : State := (s.bootGrotto reads).bootSlot

theorem State.bootMode_bootRead (s : State) (reads : List GrtRead) {f : Fld} (hf : f ∈ bootModeFlds) : (s.bootRead reads).fld f = s.fld f :=
  (State.bootMode_bootSlot hf _).trans (State.bootMode_bootGrotto hf s reads)

theorem State.isUp_bootRead (s : State) (reads : List GrtRead) : (s.bootRead reads).isUp = s.isUp := by
  have hfr : Fr 0xe2c0100008e804bc000000400000000000000000000000000020000000000240222621f400 s (s.bootRead reads) :=
    State.bootSlot_fr (State.bootGrotto_fr (Fr.refl _ _))
  rw [State.isUp, hfr.keep_die, State.isUp]

/-! ### The loads (R77, R79, table 3.4) -/

/-- A header whose LENGTH lies beyond the density. -/
theorem State.flashLoad_beyond (s : State) (t : FlashTry) (us : Nat)
    (h : s.fld F.ICE_SIZE_BYTES ≠ 0 ∧ s.fld F.ICE_SIZE_BYTES < imgLength (t.data 64)) :
    s.flashLoad t us = s.flashFails [] 0 2 none us := by
  simp only [State.flashLoad]
  rw [if_pos h]

section
variable (s : State) (t : FlashTry) (us : Nat) (hwhole : t.failAt = none)
include hwhole

variable (h : ¬(s.fld F.ICE_SIZE_BYTES ≠ 0 ∧ s.fld F.ICE_SIZE_BYTES < imgLength (t.data 64)))
include h

theorem State.flashLoad_applied {v : State} (happ : (s.tryCount t (imgLength (t.data 64))).applyImage (t.data (imgLength (t.data 64))) false = .inl v) :
    s.flashLoad t us = v.enterRunning false us := by
  simp only [State.flashLoad, hwhole, happ]
  rw [if_neg h]

theorem State.flashLoad_refused {r : Nat} {e : Option LoadFail}
    (happ : (s.tryCount t (imgLength (t.data 64))).applyImage (t.data (imgLength (t.data 64))) false = .inr (r, e)) :
    s.flashLoad t us = (s.tryCount t (imgLength (t.data 64))).flashFails (t.data (imgLength (t.data 64))) (imgLength (t.data 64)) r e us := by
  simp only [State.flashLoad, hwhole, happ]
  rw [if_neg h]

end

/-- R82, R83: a flash load that is refused. -/
theorem State.flashLoad_fails (s : State) (t : FlashTry) (us : Nat) (hwhole : t.failAt = none)
    (h : ¬(s.fld F.ICE_SIZE_BYTES ≠ 0 ∧ s.fld F.ICE_SIZE_BYTES < imgLength (t.data 64))) {r : Nat} {e : Option LoadFail}
    (happ : (s.tryCount t (imgLength (t.data 64))).applyImage (t.data (imgLength (t.data 64))) false = .inr (r, e)) :
    (s.flashLoad t us).loadFailed r ∧ (s.fld F.GH_BOOT_STATUS_BOOTSEL = 2 → (s.flashLoad t us).fld F.GH_BOOT_STATUS_FALLBACK = 1) := by
  have hcount : Fr 0x2c01700000000800000004000000000000000000000000000000000000002400002018400 s (s.tryCount t (imgLength (t.data 64))) :=
    State.tryCount_fr (Fr.refl _ _)
  rw [s.flashLoad_refused t us hwhole h happ, ← hcount.keep_fld (f := F.GH_BOOT_STATUS_BOOTSEL) (by decide)]
  exact State.flashFails_fails _ _ _ r e us (State.applyImage_refused happ)

/-- R75: a flash load that is accepted. -/
theorem State.flashLoad_runs (s : State) (t : FlashTry) (us : Nat) (hup : s.isUp = true) (hwhole : t.failAt = none)
    (h : ¬(s.fld F.ICE_SIZE_BYTES ≠ 0 ∧ s.fld F.ICE_SIZE_BYTES < imgLength (t.data 64))) {v : State}
    (happ : (s.tryCount t (imgLength (t.data 64))).applyImage (t.data (imgLength (t.data 64))) false = .inl v) :
    (s.flashLoad t us).runsImage false us := by
  have hcount : Fr 0x2c01700000000800000004000000000000000000000000000000000000002400002018400 s (s.tryCount t (imgLength (t.data 64))) :=
    State.tryCount_fr (Fr.refl _ _)
  obtain ⟨hupV, hversion⟩ := State.applyImage_applied happ
  rw [s.flashLoad_applied t us hwhole h happ]
  exact v.enterRunning_runs false us (by rw [hupV, State.isUp, hcount.keep_die]; exact hup) hversion

theorem State.bootLoad_reserved (s : State) (t1 t2 : FlashTry) (us : Nat) (h : s.fld F.GH_BOOT_STATUS_BOOTSEL = 3) :
    s.bootLoad t1 t2 us = (s.loadFails 9 none).noImage us := by
  rw [State.bootLoad, h]
  rfl

theorem State.bootLoad_host (s : State) (t1 t2 : FlashTry) (us : Nat) (h : s.fld F.GH_BOOT_STATUS_BOOTSEL = 1) :
    s.bootLoad t1 t2 us = s.noImage us := by
  rw [State.bootLoad, h]
  rfl

/-- Modes 00 and 10: two tries for a header. -/
theorem State.bootLoad_flash (s : State) (t1 t2 : FlashTry) (us : Nat)
    (h : s.fld F.GH_BOOT_STATUS_BOOTSEL = 0 ∨ s.fld F.GH_BOOT_STATUS_BOOTSEL = 2) :
    let b := (s.wr A.GH_LOAD_DETAIL 0).probe t1.id
    let c := (b.tryCount t1 64).probe t2.id
    s.bootLoad t1 t2 us = if t1.headerOk then b.flashLoad t1 us else if t2.headerOk then c.flashLoad t2 us
      else (c.tryCount t2 64).flashFails [] 0 2 none us := by
  rcases h with h | h
  · rw [State.bootLoad, h]; rfl
  · rw [State.bootLoad, h]; rfl

/-- Steps 5 to 8 of the modes 00 and 10 with a try that returned a valid header. -/
theorem State.bootLoad_try (s : State) (t1 t2 : FlashTry) (us : Nat)
    (h : s.fld F.GH_BOOT_STATUS_BOOTSEL = 0 ∨ s.fld F.GH_BOOT_STATUS_BOOTSEL = 2) {v : State} {u : FlashTry}
    (hv : t1.headerOk = true ∧ u = t1 ∧ v = (s.wr A.GH_LOAD_DETAIL 0).probe t1.id ∨ t1.headerOk = false ∧ t2.headerOk = true ∧ u = t2 ∧
      v = (((s.wr A.GH_LOAD_DETAIL 0).probe t1.id).tryCount t1 64).probe t2.id) :
    s.bootLoad t1 t2 us = v.flashLoad u us ∧ v.fld F.GH_BOOT_STATUS_BOOTSEL = s.fld F.GH_BOOT_STATUS_BOOTSEL ∧ v.isUp = s.isUp := by
  have hprobe : Fr 0x2c01730000000800000004000000000000000000000000000000000000002420082018400 s ((s.wr A.GH_LOAD_DETAIL 0).probe t1.id) :=
    State.probe_fr (State.wr_fr (Fr.refl _ _))
  rcases hv with ⟨h1, rfl, rfl⟩ | ⟨h1, h2, rfl, rfl⟩
  · exact ⟨by rw [s.bootLoad_flash _ t2 us h, if_pos h1], hprobe.keep_fld (by decide), by rw [State.isUp, hprobe.keep_die, State.isUp]⟩
  · have hsecond := State.probe_fr (id := u.id) (State.tryCount_fr (t := t1) (upTo := 64) hprobe)
    exact ⟨by rw [s.bootLoad_flash t1 _ us h, if_neg (by simp [h1]), if_pos h2], hsecond.keep_fld (by decide),
      by rw [State.isUp, hsecond.keep_die, State.isUp]⟩

theorem exec_bootSequence (s : State) (reads : List GrtRead) (t1 t2 : FlashTry) (us : Nat) (hup : s.isUp = true)
    (hstep : s.fld F.GH_BOOT_STATUS_STATE = 0) (hpll : s.sun.pll = true) (hfirst : s.org.first = false) :
    exec (.bootSequence reads t1 t2 us) s = .next ((s.bootRead reads).bootLoad t1 t2 us) := by
  show Host.Outcome.next _ = _
  rw [if_pos (by simp [hup, hstep, hpll, hfirst])]
  rfl

/-- Settles O9: the steps before the load keep the mode and the last RESULT, and each way through the load ends by a lemma of its own. -/
theorem bootFollowsItsModeAndItsImage : Obligations.BootFollowsItsModeAndItsImage := by
  intro s reads t1 t2 us hup hstep hpll hfirst
  refine ⟨_, exec_bootSequence s reads t1 t2 us hup hstep hpll hfirst, ?_⟩
  have hsel := s.bootMode_bootRead reads (f := F.GH_BOOT_STATUS_BOOTSEL) (by simp)
  have hresult := s.bootMode_bootRead reads (f := F.GH_BOOT_STATUS_RESULT) (by simp)
  have hupR : (s.bootRead reads).isUp = true := (s.isUp_bootRead reads).trans hup
  rw [← hsel, ← hresult]
  refine ⟨fun h => ?reserved, fun h => ?host, fun h => ⟨fun h1 h2 => ?noHeader, ?load⟩⟩
  case reserved =>
    rw [State.bootLoad_reserved _ t1 t2 us h]
    exact State.loadFails_noImage _ 9 none us (by decide)
  case host =>
    rw [State.bootLoad_host _ t1 t2 us h]
    exact State.loadFailed_noImage _ us
  case noHeader =>
    have hmode := ((s.bootRead reads).bootMode_tries (f := F.GH_BOOT_STATUS_BOOTSEL) (by simp) t1 t2).2
    rw [State.bootLoad_flash _ t1 t2 us h, if_neg (by simp [h1]), if_neg (by simp [h2]), ← hmode]
    generalize (((((s.bootRead reads).wr A.GH_LOAD_DETAIL 0).probe t1.id).tryCount t1 64).probe t2.id) = c
    have hcount : Fr 0x2c01700000000800000004000000000000000000000000000000000000002400002018400 c (c.tryCount t2 64) :=
      State.tryCount_fr (Fr.refl _ _)
    rw [← hcount.keep_fld (f := F.GH_BOOT_STATUS_BOOTSEL) (by decide)]
    exact State.flashFails_fails _ [] 0 2 none us (by decide)
  case load =>
    intro b v u hv hwhole n
    obtain ⟨hload, hmode, hupV⟩ := (s.bootRead reads).bootLoad_try t1 t2 us h hv
    rw [hload, ← hmode]
    split
    next hbeyond =>
      rw [v.flashLoad_beyond u us hbeyond]
      exact (v.flashFails_fails [] 0 2 none us (by decide)).1
    next hfits =>
      split
      next w happ => exact v.flashLoad_runs u us (hupV.trans hupR) hwhole hfits happ
      next r e happ => exact v.flashLoad_fails u us hwhole hfits happ

end Sys2Proof.Machine

namespace Sys2Proof.Machine

set_option Elab.async false

/-! ### The host load (R78, R79, R91) -/

/-- The state in which the host's image is read: its LEN stands, and no load check is shown. -/
def State.hostAsked (s : State) (w : Word) : State :=
  (s.set F.GH_HOST_LOAD_LEN (fieldOf F.GH_HOST_LOAD_LEN w)).wr A.GH_LOAD_DETAIL 0

/-- The words of the image in shared SRAM are checked. -/
def State.hostChecked (s : State) (w : Word) : State :=
  (s.hostAsked w).forEach (linesOf 0 (min (fieldOf F.GH_HOST_LOAD_LEN w) 0x180000)) (fun s a => (s.checkWord32 none a).2)

/-- The image of the host. -/
def State.hostImage (s : State) (w : Word) : List Byte := (s.hostChecked w).bytes 0 (min (fieldOf F.GH_HOST_LOAD_LEN w) 0x180000)

/-- R79: a LEN that no image has, or SRAM without an image of that LENGTH. -/
def State.hostLengthBad (s : State) (w : Word) : Prop :=
  fieldOf F.GH_HOST_LOAD_LEN w = 0 ∨ 0x180000 < fieldOf F.GH_HOST_LOAD_LEN w ∨
    headerOk (s.hostImage w) = false ∨ imgLength (s.hostImage w) ≠ fieldOf F.GH_HOST_LOAD_LEN w

/-- R91: a host load fails: "host request done" is raised. -/
def State.hostFails (s : State) (us r : Nat) (e : Option LoadFail) : State := ((s.loadFails r e).noImage us).event 82

theorem State.hostFails_fails (s : State) (us r : Nat) (e : Option LoadFail) (hr : r < 16) :
    (s.hostFails us r e).loadFailed r ∧ (s.hostFails us r e).pend 82 = true :=
  ⟨(s.loadFails_noImage r e us hr).of_fr
    (State.event_fr (κ := 0x2c01000000000800000004000000000000000000000000000000000000002400002018400) (Fr.refl _ _)),
    State.pend_event _ 82 rfl⟩

section
variable (s : State) (w : Word) (us : Nat) (hgo : fieldOf F.GH_HOST_LOAD_GO w = 1)
include hgo

theorem exec_hostLoadGo (hup : s.isUp = true) (hwait : s.fld F.GH_BOOT_STATUS_STATE = 2) :
    exec (.hostLoadGo w us) s = .next (s.hostLoad w us) := by
  show Host.Outcome.next _ = _
  rw [if_pos (by simp [hup, hwait, hgo])]

theorem State.hostLoad_refused (h : s.hostLengthBad w) : s.hostLoad w us = (s.hostChecked w).hostFails us 8 none := by
  simp only [State.hostLoad]
  rw [if_pos hgo]
  exact if_pos h

section
variable (h : ¬s.hostLengthBad w)
include h

/-- R82, R83: the image in SRAM fails a check; where that is not the trailer, what the load wrote becomes zero. -/
theorem State.hostLoad_fails {r : Nat} {e : Option LoadFail} (happ : (s.hostChecked w).applyImage (s.hostImage w) true = .inr (r, e)) :
    (s.hostLoad w us).loadFailed r ∧ (s.hostLoad w us).pend 82 = true := by
  have hload : s.hostLoad w us = State.hostFails
      (if r = 3 then s.hostChecked w else (s.hostChecked w).zeroSects (s.hostImage w) (fieldOf F.GH_HOST_LOAD_LEN w)) us r e := by
    simp only [State.hostLoad]
    rw [if_pos hgo]
    refine (if_neg h).trans ?_
    rw [← State.hostAsked, ← State.hostChecked, ← State.hostImage, happ]
    rfl
  rw [hload]
  exact State.hostFails_fails _ us r e (State.applyImage_refused happ)

/-- R78: the image in SRAM passes every check. -/
theorem State.hostLoad_runs {v : State} (hup : (s.hostChecked w).isUp = true)
    (happ : (s.hostChecked w).applyImage (s.hostImage w) true = .inl v) : (s.hostLoad w us).runsImage true us := by
  have hload : s.hostLoad w us = v.enterRunning true us := by
    simp only [State.hostLoad]
    rw [if_pos hgo]
    refine (if_neg h).trans ?_
    rw [← State.hostAsked, ← State.hostChecked, ← State.hostImage, happ]
  obtain ⟨hupV, hversion⟩ := State.applyImage_applied happ
  rw [hload]
  exact v.enterRunning_runs true us (hupV.trans hup) hversion

end
end

/-- With good check bits a word that is read leaves the state (R133). -/
theorem State.checkWord32_clean (s : State) (ch : Option Nat) (a : Nat) (h1 : s.ecc1 = []) (h2 : s.ecc2 = []) :
    (s.checkWord32 ch a).2 = s := by
  simp [State.checkWord32, h1, h2]

theorem State.hostChecked_clean (s : State) (w : Word) (h1 : s.ecc1 = []) (h2 : s.ecc2 = []) : s.hostChecked w = s.hostAsked w := by
  have hword (a : Nat) : ((s.hostAsked w).checkWord32 none a).2 = s.hostAsked w := (s.hostAsked w).checkWord32_clean none a h1 h2
  rw [State.hostChecked]
  induction linesOf 0 (min (fieldOf F.GH_HOST_LOAD_LEN w) 0x180000) with
  | nil => rfl
  | cons a r ih =>
    refine Eq.trans ?_ ih
    rw [State.forEach, List.foldl_cons, hword]
    rfl

/-- Settles O10: the LENGTH, the header and the checks in turn. -/
theorem hostLoadAppliesOrRefusesTheImage : Obligations.HostLoadAppliesOrRefusesTheImage := by
  intro s w us hup hwait hgo n
  refine ⟨_, exec_hostLoadGo s w us hgo hup hwait, fun hbad => ?_, fun hpos hmax h1 h2 => ?_⟩
  · rw [s.hostLoad_refused w us hgo (hbad.imp_right Or.inl)]
    exact State.hostFails_fails _ us 8 none (by decide)
  · have hclean := s.hostChecked_clean w h1 h2
    have himage : s.hostImage w = s.bytes 0 n := by
      have hlen : min (fieldOf F.GH_HOST_LOAD_LEN w) 0x180000 = n := Nat.min_eq_left hmax
      rw [State.hostImage, hlen, hclean]
      exact State.bytes_of_mem (s := s) (t := s.hostAsked w) rfl 0 n
    rw [← himage]
    split
    next hbad =>
      rw [s.hostLoad_refused w us hgo (Or.inr (Or.inr hbad))]
      exact State.hostFails_fails _ us 8 none (by decide)
    next hgood =>
      have hfits : ¬s.hostLengthBad w := by
        rintro (h | h | h)
        · exact absurd h (Nat.ne_of_gt hpos)
        · exact absurd hmax (Nat.not_le_of_gt h)
        · exact hgood h
      have hasked : ((s.set F.GH_HOST_LOAD_LEN n).wr A.GH_LOAD_DETAIL 0) = s.hostChecked w := hclean.symm
      rw [hasked]
      split
      next v happ => exact s.hostLoad_runs w us hgo hfits (by rw [hclean]; exact hup) happ
      next r e happ => exact s.hostLoad_fails w us hgo hfits happ

end Sys2Proof.Machine

namespace Sys2Proof.Machine

set_option Elab.async false

/-! ### A section update that is refused (R121) -/

section
variable (s : State) (w : Word) (hgo : fieldOf F.GH_SECT_UPD_GO w = 1)
include hgo

theorem exec_sectUpd_go (hrun : s.isRunning = true) : exec (.sectUpd w) s = .next (s.sectWrite w) := by
  show Host.Outcome.next (s.running _) = _
  rw [State.running_of hrun, if_pos hgo]

theorem State.sectWrite_busy (hbusy : s.fld F.GH_SECT_STATUS_BUSY = 1) : s.sectWrite w = s.set F.GH_SECT_STATUS_RESULT 2 := by
  rw [State.sectWrite, if_neg (by rw [hgo]; decide), if_pos (by rw [State.flag, hbusy]; rfl)]

theorem State.sectWrite_notRuntime (hidle : s.fld F.GH_SECT_STATUS_BUSY = 0)
    (hnone : ∀ c, s.img.sects[fieldOf F.GH_SECT_UPD_SECT w]? = some c → c.isRuntime = false) :
    s.sectWrite w = ((s.set F.GH_SECT_UPD_SECT (fieldOf F.GH_SECT_UPD_SECT w)).set F.GH_SECT_STATUS_RESULT 3).set F.GH_SECT_STATUS_SECT
      (fieldOf F.GH_SECT_UPD_SECT w) := by
  rw [State.sectWrite, if_neg (by rw [hgo]; decide), if_neg (by rw [State.flag, hidle]; decide)]
  simp only [State.set_img]
  split
  next c hc => rw [if_neg (by rw [hnone c hc]; decide)]
  next => rfl

end

/-- Settles O11: BUSY_REFUSED while an update is in progress, NOT_RUNTIME where no runtime section is named. -/
theorem sectionUpdateRefusalsReport : Obligations.SectionUpdateRefusalsReport := by
  intro s w hrun hgo
  refine ⟨fun hbusy => ⟨_, exec_sectUpd_go s w hgo hrun, ?_⟩, fun hidle hnone => ⟨_, exec_sectUpd_go s w hgo hrun, ?_⟩⟩
  · rw [s.sectWrite_busy w hgo hbusy]
    exact ⟨(State.onlyRegs.refl _ s).set (by simp [F.GH_SECT_STATUS_RESULT]), State.fld_set_of_lt _ _ _ rfl (by decide),
      (State.fld_set_apart _ _ rfl rfl).trans hbusy⟩
  · rw [s.sectWrite_notRuntime w hgo hidle hnone]
    refine ⟨(((State.onlyRegs.refl _ s).set ?_).set ?_).set ?_, ?result, ?idle⟩
    case result => rw [State.fld_set_apart _ _ rfl rfl, State.fld_set_of_lt _ _ _ rfl (by decide)]
    case idle => rw [State.fld_set_apart _ _ rfl rfl, State.fld_set_apart _ _ rfl rfl, State.fld_set_apart _ _ rfl rfl, hidle]
    · exact List.mem_cons_self ..
    · exact List.mem_cons_of_mem _ (List.mem_cons_self ..)
    · exact List.mem_cons_of_mem _ (List.mem_cons_self ..)

end Sys2Proof.Machine

namespace Sys2Proof.Machine

set_option Elab.async false

/-! ### What a counter reads (R552) -/

/-- Step i of a counter reads 1. -/
def stepBlown (v : Nat → Word) (k i : Nat) : Bool := bit (v (ctrBase k + i / 32)).toNat (i % 32)

/-- A counter's value is the library's greatest one. -/
theorem ctrValue_eq_findGreatest (v : Nat → Word) (k : Nat) :
    ctrValue v k = Nat.findGreatest (fun i => stepBlown v k (i - 1) = true) (ctrSteps k) := by
  rw [ctrValue]
  induction ctrSteps k with
  | zero => rfl
  | succ m ih =>
    rw [List.range_succ, List.foldl_append, ih, Nat.findGreatest_succ]
    rfl

/-- Where the first step above the value is blown, and no other, the value is one more. -/
theorem ctrValue_next {v v' : Nat → Word} {k : Nat} (hn : ctrValue v k < ctrSteps k)
    (h : ∀ i, stepBlown v' k i = (stepBlown v k i || decide (i = ctrValue v k))) : ctrValue v' k = ctrValue v k + 1 := by
  obtain ⟨-, -, habove⟩ := Nat.findGreatest_eq_iff.1 (ctrValue_eq_findGreatest v k).symm
  rw [ctrValue_eq_findGreatest v', Nat.findGreatest_eq_iff]
  refine ⟨hn, fun _ => ?_, fun i hi hle => ?_⟩
  · rw [h, Nat.add_sub_cancel, decide_eq_true rfl, Bool.or_true]
  · rw [h, decide_eq_false (by omega), Bool.or_false]
    exact habove (by omega) hle

/-- The words of the counters exist in full. -/
theorem bit_grtMask_ctr {k n : Nat} (hk : k ≤ 4) (hn : n < ctrSteps k) :
    bit (grtMask (ctrBase k + n / 32)).toNat (n % 32) = true := by
  have hword : 0x10 ≤ ctrBase k + n / 32 ∧ ctrBase k + n / 32 ≤ 0x29 := by
    have hlast : ∀ k ≤ 4, 0x10 ≤ ctrBase k ∧ ctrBase k + (ctrSteps k - 1) / 32 ≤ 0x29 := by decide
    have := hlast k hk
    omega
  have hmask : grtMask (ctrBase k + n / 32) = 0xFFFFFFFF#32 := by
    rw [grtMask, if_neg (by omega), if_neg (by omega)]
  have hones : ∀ b < 32, bit (0xFFFFFFFF#32).toNat b = true := by decide
  rw [hmask]
  exact hones _ (Nat.mod_lt _ (by decide))

/-! ### What a pulse makes of its cell (R562 to R564) -/

theorem bit_or_pow (w : Word) (b i : Nat) (hb : b < 32) :
    bit (w ||| BitVec.ofNat 32 (2 ^ b)).toNat i = (bit w.toNat i || decide (i = b)) := by
  have hpow : (BitVec.ofNat 32 (2 ^ b)).toNat = 2 ^ b := by
    rw [BitVec.toNat_ofNat, Nat.mod_eq_of_lt (Nat.pow_lt_pow_right (by decide) hb)]
  rw [bit_eq_testBit, bit_eq_testBit, BitVec.toNat_or, hpow, Nat.testBit_or, Nat.testBit_two_pow, decide_eq_decide.2 eq_comm]

theorem State.cellAt_setCell (s : State) (c k j a : Nat) (w : Word) :
    (s.setCell c k a w).cellAt c j a = if j = k then w else s.cellAt c j a := by
  simp only [State.cellAt, State.setCell, State.modOtp]
  split <;> simp only [cget_cset, Nat.add_left_cancel_iff]

theorem State.cellTo_succ (s : State) (c a b n : Nat) : s.cellTo c a b (n + 1) =
    (s.cellTo c a b n).setCell c n a ((s.cellTo c a b n).cellAt c n a ||| BitVec.ofNat 32 (2 ^ b)) := by
  rw [State.cellTo, List.range_succ, State.forEach, List.foldl_append]
  rfl

theorem State.bit_cellAt_cellTo (s : State) (c a b : Nat) (hb : b < 32) {k n : Nat} (hk : k < n) :
    bit ((s.cellTo c a b n).cellAt c k a).toNat b = true := by
  induction n with
  | zero => exact absurd hk (Nat.not_lt_zero k)
  | succ n ih =>
    rw [State.cellTo_succ, State.cellAt_setCell]
    split
    · rw [bit_or_pow _ _ _ hb, decide_eq_true rfl, Bool.or_true]
    · exact ih (by omega)

theorem State.tightRef_of_fr {m : Nat} {s t : State} (h : Fr m s t) (hm : m.testBit (32 + 211) = false := by decide) :
    t.tightRef = s.tightRef := by
  rw [State.tightRef, State.tightRef, h.keep_fld (f := F.ORG_TJ_BAND) (by rw [F.ORG_TJ_BAND_fam]; exact hm)]

/-- A cell that reads 1 at every reference up to the tight one is strong. -/
theorem State.bit_cell_cellFree (s : State) (c a b hi : Nat) (hb : b < 32) (hm : bit (grtMask a).toNat b = true) :
    bit ((s.cellFree c a b (s.tightRef + 1) hi).cell c true a).toNat b = true := by
  have hfr : Fr 0x84000000 s (s.cellFree c a b (s.tightRef + 1) hi) := State.cellFree_fr (Fr.refl _ _)
  have hcell := s.freshNat.2.bit_cellAt_cellTo c a b hb
    (Nat.lt_of_lt_of_le (Nat.lt_succ_self s.tightRef) (Nat.le_add_right _ (s.freshNat.1 % (hi + 1 - (s.tightRef + 1)))))
  rw [State.cell, if_pos rfl, State.tightRef_of_fr hfr]
  rw [bit_eq_testBit] at hm hcell ⊢
  rw [BitVec.toNat_and, Nat.testBit_and, hm, Bool.and_true]
  exact hcell

/-- R564: a pulse that is given in full and leaves its copy reading 1 makes the copy strong. -/
theorem State.pulse_holds (s : State) (c a b : Nat) {p : Pulse} (hp : p.refused = false ∧ p.aborted = false ∧ p.reads1 = true)
    (hb : b < 32) (hm : bit (grtMask a).toNat b = true) : (s.pulse c a b p).2 = some .ok := by
  obtain ⟨hr, ha, h1⟩ := hp
  simp only [State.pulse, hr, ha, h1, Bool.false_eq_true, if_false, if_true]
  generalize ((64 * a + 2 * b + c, _) : Nat × Nat) = tries
  have hcount : Fr 0x40000000000000000000000000000000000000000000000000000000004000000 s
      ((s.inc F.GRT_PROG_STAT_PULSES).modOtp (fun o => { o with tries := tries })) :=
    State.modOtp_fr (State.inc_fr (Fr.refl _ _))
  rw [← State.tightRef_of_fr hcount, if_pos (State.bit_cell_cellFree _ c a b 6 hb hm)]

/-! ### What the pulses leave of the Grotto -/

theorem State.ite_both {β : Type} (p : State → β) {c : Prop} [Decidable c] {u v : State} {x : β} (hu : p u = x) (hv : p v = x) :
    p (if c then u else v) = x := by
  split
  · exact hu
  · exact hv

/-- The Grotto but for its cells and the count of the pulses. -/
def Otp.books (o : Otp) : Otp := { o with cells0 := [], cells1 := [], tries := (0, 0), made := 0 }

/-- Bit b of word a counts as blown and verified. -/
def Otp.marked (o : Otp) (a b : Nat) : Otp :=
  { o with blown := cset otpZero o.blown a (cget otpZero o.blown a ||| BitVec.ofNat 32 (2 ^ b)) }

theorem State.books_cellTo (s : State) (c a b n : Nat) : (s.cellTo c a b n).otp.books = s.otp.books := by
  refine State.forEach_keeps (·.otp.books) _ (fun u k => ?_) _ _
  simp only [State.setCell, State.modOtp]
  split <;> rfl

theorem State.books_cellFree (s : State) (c a b lo hi : Nat) : (s.cellFree c a b lo hi).otp.books = s.otp.books :=
  State.books_cellTo _ _ _ _ _

theorem State.books_fault (s : State) (code sc unit detail : Nat) : (s.fault code sc unit detail).otp.books = s.otp.books :=
  congrArg Otp.books (State.fault_fr (κ := grtFaultReach) (Fr.refl _ s)).keep_otp

theorem State.books_pulse (s : State) (c a b : Nat) (p : Pulse) : (s.pulse c a b p).1.otp.books = s.otp.books := by
  have hcell (u : State) (t : Nat) :
      (if p.reads1 then u.cellFree c a b (t + 1) 6 else u.cellFree c a b 0 t).otp.books = u.otp.books :=
    State.ite_both (·.otp.books) (State.books_cellFree ..) (State.books_cellFree ..)
  have hmarked (u : State) : ((((u.set F.GRT_PROG_STAT_MARK 1).set F.GRT_PROG_STAT_MARK_COPY c).set F.GRT_PROG_STAT_MARK_BIT b).set
      F.GRT_PROG_STAT_MARK_ADDR a).otp.books = u.otp.books :=
    congrArg Otp.books (State.set_fr (State.set_fr (State.set_fr (State.set_fr
      (Fr.refl 0x40000000000000000000000000000000000000000000000000000000000000000 u))))).keep_otp
  have hjudged (u : State) (n : Nat) (hu : u.otp.books = s.otp.books) :
      (if bit (u.cell c true a).toNat b then (u, some Blow.ok)
        else if 4 ≤ n then (u.modOtp (fun o => { o with tries := (0, 0) }), some (.fail 5)) else (u, none)).1.otp.books =
        s.otp.books := by
    split
    · exact hu
    · split <;> exact hu
  rw [State.pulse]
  split
  · exact s.books_fault 49 4 0 0
  split
  · exact (State.books_fault _ 49 4 0 1).trans ((hmarked _).trans (State.books_cellFree _ c a b 0 6))
  · exact hjudged _ _ (hcell _ _)

theorem State.books_blowCopy (s : State) (c a b : Nat) (out : List Pulse) : (s.blowCopy c a b out).1.otp.books = s.otp.books := by
  induction out generalizing s with
  | nil => rw [State.blowCopy]; split <;> rfl
  | cons p r ih =>
    have hp := s.books_pulse c a b p
    rw [State.blowCopy]
    split
    · rfl
    · rcases hpulse : s.pulse c a b p with ⟨u, _ | e⟩ <;> rw [hpulse] at hp
      · exact (ih u).trans hp
      · exact hp

section
variable {a b : Nat} {out : List Pulse} (hb : b < 32) (hm : bit (grtMask a).toNat b = true) (hout : pulsesHold out)
include hb hm hout

/-- A copy takes at most one of the pulses that hold. -/
theorem State.blowCopy_holds (s : State) (c : Nat) (hlen : 1 ≤ out.length) :
    ∃ u r, s.blowCopy c a b out = (u, .ok, r) ∧ u.otp.books = s.otp.books ∧ pulsesHold r ∧ out.length ≤ r.length + 1 := by
  have hbooks := s.books_blowCopy c a b out
  cases out with
  | nil => exact absurd hlen (by decide)
  | cons p r =>
    have hp := s.pulse_holds c a b (hout p (List.mem_cons_self ..)) hb hm
    rw [State.blowCopy] at hbooks ⊢
    split
    · exact ⟨s, _, rfl, rfl, hout, Nat.le_succ _⟩
    next hweak =>
      rw [if_neg hweak] at hbooks
      rcases hpulse : s.pulse c a b p with ⟨u, e⟩
      rw [hpulse] at hp hbooks
      cases hp
      exact ⟨u, r, rfl, hbooks, fun q hq => hout q (List.mem_cons_of_mem _ hq), Nat.le_refl _⟩

/-- R564, R543: a bit takes at most two of them, and is expected to read 1 from then on. -/
theorem State.blowBit_holds (s : State) (hlen : 2 ≤ out.length) :
    ∃ u r, s.blowBit a b out = (u, .ok, r) ∧ pulsesHold r ∧ out.length ≤ r.length + 2 ∧
      u.otp.books = s.otp.books.marked a b := by
  obtain ⟨u, r, hfirst, hu, hr, hrlen⟩ : ∃ u r, (if s.otp.made % 2 = 0 then s.blowCopy 0 a b out else (s, .ok, out)) = (u, .ok, r) ∧
      u.otp.books = s.otp.books ∧ pulsesHold r ∧ out.length ≤ r.length + 1 := by
    split
    · exact s.blowCopy_holds hb hm hout 0 (by omega)
    · exact ⟨s, out, rfl, rfl, hout, Nat.le_succ _⟩
  obtain ⟨v, q, hsecond, hv, hq, hqlen⟩ :=
    State.blowCopy_holds hb hm hr (if u.otp.made % 2 = 0 then u.copyMade else u) 1 (by omega)
  have hbooks : v.otp.books = s.otp.books := hv.trans (State.ite_both (·.otp.books) hu hu)
  refine ⟨_, q, by rw [State.blowBit, hfirst]; simp only [hsecond]; rfl, hq, by omega, ?_⟩
  rw [← hbooks]
  rfl

end

/-! ### A counter's next step (R552, R564) -/

theorem State.expected_congr {s t : State} (h : t.otp.latched = s.otp.latched ∧ t.otp.blown = s.otp.blown) : t.expected = s.expected := by
  funext a
  rw [State.expected, State.expected, State.latched, State.latched, h.1, h.2]

/-- A bit that has been blown is expected to read 1, the others as before. -/
theorem State.expected_blown {s t : State} {a b : Nat} (h : t.otp.books = s.otp.books.marked a b) (e : Nat) :
    t.expected e = if e = a then s.expected e ||| BitVec.ofNat 32 (2 ^ b) else s.expected e := by
  have hlatched : t.otp.latched = s.otp.latched := (congrArg Otp.latched h :)
  have hblown : t.otp.blown = cset otpZero s.otp.blown a (cget otpZero s.otp.blown a ||| BitVec.ofNat 32 (2 ^ b)) :=
    (congrArg Otp.blown h :)
  simp only [State.expected, State.latched, hlatched, hblown, cget_cset]
  split
  next he => rw [he, BitVec.or_assoc]
  next => rfl

/-- The step that is blown is the first above the counter's value. -/
theorem State.stepBlown_expected {s t : State} {k n : Nat} (h : t.otp.books = s.otp.books.marked (ctrBase k + n / 32) (n % 32))
    (i : Nat) :
    stepBlown t.expected k i = (stepBlown s.expected k i || decide (i = n)) := by
  rw [stepBlown, stepBlown, State.expected_blown h]
  split
  next he =>
    rw [bit_or_pow _ _ _ (Nat.mod_lt _ (by decide))]
    congr 1
    exact decide_eq_decide.2 (by omega)
  next hne => rw [decide_eq_false (fun hi => hne (by rw [hi])), Bool.or_false]

theorem State.otp_ctrFull (s : State) (k : Nat) : (s.ctrFull k).otp = s.otp :=
  (State.ctrFull_fr (κ := 0xc2c0100000a004ac000000400000000000000000000000000000000000000240002201f400) (Fr.refl _ s)).keep_otp

/-- A counter's next step takes at most two of the pulses that hold. -/
theorem State.ctrStep_holds (s : State) {k : Nat} {out : List Pulse} (hk : k ≤ 4) (hn : ctrValue s.expected k < ctrSteps k)
    (hout : pulsesHold out) (hlen : 2 ≤ out.length) :
    ∃ u r, s.ctrStep k out = (u, .ok, r) ∧ pulsesHold r ∧ out.length ≤ r.length + 2 ∧
      ctrValue u.expected k = ctrValue s.expected k + 1 ∧ u.otp.queue = s.otp.queue := by
  obtain ⟨u, r, hblow, hr, hrlen, hbooks⟩ :=
    State.blowBit_holds (Nat.mod_lt _ (by decide)) (bit_grtMask_ctr hk hn) hout s hlen
  have hfull : (if ctrValue s.expected k + 1 = ctrSteps k then u.ctrFull k else u).otp = u.otp :=
    State.ite_both (·.otp) (u.otp_ctrFull k) rfl
  refine ⟨_, r, by rw [State.ctrStep, hblow], hr, hrlen, ?_, ?_⟩
  · rw [State.expected_congr (s := u) (by rw [hfull]; exact ⟨rfl, rfl⟩)]
    exact ctrValue_next hn (State.stepBlown_expected hbooks)
  · exact (congrArg Otp.queue hfull).trans (congrArg Otp.queue hbooks :)

end Sys2Proof.Machine

namespace Sys2Proof.Machine

set_option Elab.async false

/-! ### How an operation of the Grotto ends (R566) -/

theorem State.cellsSame_of_cells {s t : State} (h : t.otp.cells0 = s.otp.cells0 ∧ t.otp.cells1 = s.otp.cells1)
    (href : t.tightRef = s.tightRef) : s.cellsSame t := by
  intro c b a
  rw [State.cell, State.cell, State.cellAt_of_cells h, href]

theorem State.cellsSame.trans {s t u : State} (h : State.cellsSame s t) (k : State.cellsSame t u) : State.cellsSame s u :=
  fun c b a => (k c b a).trans (h c b a)

/-- The operation has left the queue. -/
def State.grtLeft (s : State) : State := s.modOtp (fun o => { o with queue := o.queue.tail, tries := (0, 0), made := 0 })

/-- What an operation's end shows. -/
abbrev grtEndReach : Nat := 0x2c01000056000800000004000000000000000000000000000000000000002440002018400

theorem State.grtEnd_reach (s : State) (result : Nat) : Fr grtEndReach s.grtLeft (s.grtEnd result) :=
  State.event_fr (State.grtShow_fr (State.showCounters_fr (Fr.ite (State.set_fr (Fr.ite (State.set_fr (Fr.refl _ _)) (Fr.refl _ _)))
    (Fr.ite (State.set_fr (Fr.refl _ _)) (Fr.refl _ _)))))

/-- The bits of GO and BUSY are all that is shown of the queue. -/
theorem State.fld_grtShow (s : State) {g : Fld} (hprog : F.GRT_PROG_GO.apart g = true) (hfloor : F.GH_FLOOR_ADV_GO.apart g = true)
    (hbusy : F.GRT_STAT_BUSY.apart g = true) : s.grtShow.fld g = s.fld g := by
  rw [State.grtShow, State.setB, State.setB, State.setB, State.fld_set_apart _ _ rfl hbusy, State.fld_set_apart _ _ rfl hfloor,
    State.fld_set_apart _ _ rfl hprog]

/-- What GH.FLOOR_ADV reports beside GO. -/
def floorFlds : List Fld := [F.GH_FLOOR_ADV_RESULT, F.GH_FLOOR_ADV_STEPS]

theorem fam_floorFlds {g : Fld} (hg : g ∈ floorFlds) : fam g.reg = 10 := by
  have hreg : ∀ g ∈ floorFlds, g.reg = A.GH_FLOOR_ADV := by decide
  rw [hreg g hg, A.GH_FLOOR_ADV_fam]

section
variable (s : State) (result : Nat)

/-- The floor's reports outlast an operation's end. -/
theorem State.fld_grtEnd_floor {g : Fld} (hg : g ∈ floorFlds) : (s.grtEnd result).fld g = s.fld g := by
  have hapart : ∀ g ∈ floorFlds, F.GRT_PROG_GO.apart g = true ∧ F.GH_FLOOR_ADV_GO.apart g = true ∧
      F.GRT_STAT_BUSY.apart g = true := by decide
  obtain ⟨hprog, hfloor, hbusy⟩ := hapart g hg
  rw [State.grtEnd, (State.event_fr (κ := eventReach) (Fr.refl _ _)).keep_fld (by rw [fam_floorFlds hg]; decide),
    State.fld_grtShow _ hprog hfloor hbusy]
  exact (State.showCounters_fr (κ := 0x46000000000000000000000000000000000000000000000000000000000000000)
    (Fr.ite (State.set_fr (Fr.ite (State.set_fr (Fr.refl _ s.grtLeft)) (Fr.refl _ _)))
      (Fr.ite (State.set_fr (Fr.refl _ _)) (Fr.refl _ _)))).keep_fld (by rw [fam_floorFlds hg]; decide)

/-- What the end of an advance reaches beside the Grotto's queue. -/
theorem State.floorEnd_reach : Fr grtEndReach (s.set F.GH_FLOOR_ADV_RESULT result).grtLeft (s.floorEnd result) :=
  State.event_fr (State.grtEnd_reach _ _)

theorem State.otp_floorEnd : (s.floorEnd result).otp = { s.otp with queue := s.otp.queue.tail, tries := (0, 0), made := 0 } :=
  (s.floorEnd_reach result).keep_otp

theorem State.cellsSame_floorEnd : s.cellsSame (s.floorEnd result) := by
  refine State.cellsSame_of_cells (by rw [s.otp_floorEnd]; exact ⟨rfl, rfl⟩) ?_
  exact State.tightRef_of_fr (m := 0x2c01000056000800000004000000000000000000000000000000000000002440006018400)
    (State.floorEnd_fr (Fr.refl _ _))

theorem State.fld_floorEnd {g : Fld} (hg : g ∈ floorFlds) :
    (s.floorEnd result).fld g = (s.set F.GH_FLOOR_ADV_RESULT result).fld g := by
  rw [State.floorEnd, (State.event_fr (κ := eventReach) (Fr.refl _ _)).keep_fld (by rw [fam_floorFlds hg]; decide),
    State.fld_grtEnd_floor _ _ hg]

theorem State.result_floorEnd (h : result < 8) : (s.floorEnd result).fld F.GH_FLOOR_ADV_RESULT = result := by
  rw [s.fld_floorEnd result (by decide), State.fld_set_of_lt _ _ _ rfl h]

theorem State.steps_floorEnd : (s.floorEnd result).fld F.GH_FLOOR_ADV_STEPS = s.fld F.GH_FLOOR_ADV_STEPS := by
  rw [s.fld_floorEnd result (by decide), State.fld_set_apart _ _ rfl rfl]

theorem State.pend_floorEnd : (s.floorEnd result).pend 82 = true ∧ (s.floorEnd result).pend 101 = true :=
  ⟨State.pend_event _ 82 (by decide), State.pend_event_mono _ 82 101 (by decide) (State.pend_event _ 101 (by decide))⟩

end

/-! ### The steps of an advance (R125) -/

/-- With pulses that hold the floor comes to FLOOR_REQ, and each step counts. -/
theorem State.floorSteps_holds (s : State) {fuel : Nat} {out : List Pulse} (hle : ctrValue s.expected 0 ≤ s.img.floorReq)
    (hreq : s.img.floorReq ≤ 64) (hfuel : s.img.floorReq - ctrValue s.expected 0 ≤ fuel) (hout : pulsesHold out)
    (hlen : 2 * (s.img.floorReq - ctrValue s.expected 0) ≤ out.length)
    (htop : s.fld F.GH_FLOOR_ADV_STEPS + (s.img.floorReq - ctrValue s.expected 0) ≤ 127) :
    ∃ u r, s.floorSteps fuel out = (u, .ok, r) ∧ ctrValue u.expected 0 = s.img.floorReq ∧
      u.fld F.GH_FLOOR_ADV_STEPS = s.fld F.GH_FLOOR_ADV_STEPS + (s.img.floorReq - ctrValue s.expected 0) ∧
      u.otp.queue = s.otp.queue := by
  induction fuel generalizing s out with
  | zero => exact ⟨s, out, rfl, by omega, by omega, rfl⟩
  | succ fuel ih =>
    rw [State.floorSteps]
    split
    next hdone => exact ⟨s, out, rfl, by omega, by omega, rfl⟩
    next hmore =>
      obtain ⟨u, r, hstep, hr, hrlen, hvalue, hqueue⟩ := s.ctrStep_holds (k := 0) (by decide)
        (show ctrValue s.expected 0 < 64 by omega) hout (by omega)
      have hfr := State.ctrStep_fr (κ := 0xc2c0100004a004ac00000040000000000000000000000000000000000000024000a601f400)
        (k := 0) (out := out) (Fr.refl _ s)
      rw [hstep] at hfr
      have himg : (u.inc F.GH_FLOOR_ADV_STEPS).img = s.img := hfr.keep_img
      have hsteps : (u.inc F.GH_FLOOR_ADV_STEPS).fld F.GH_FLOOR_ADV_STEPS = s.fld F.GH_FLOOR_ADV_STEPS + 1 := by
        rw [State.fld_inc_same _ _ rfl, hfr.keep_fld (by decide)]
        exact Nat.min_eq_right (show s.fld F.GH_FLOOR_ADV_STEPS + 1 ≤ 127 by omega)
      have hcount : ctrValue (u.inc F.GH_FLOOR_ADV_STEPS).expected 0 = ctrValue s.expected 0 + 1 := hvalue
      obtain ⟨v, q, hrest, hfloor, hcounted, hleft⟩ := ih (u.inc F.GH_FLOOR_ADV_STEPS) (out := r) (by rw [himg, hcount]; omega)
        (by rw [himg]; exact hreq) (by rw [himg, hcount]; omega) hr (by rw [himg, hcount]; omega) (by rw [himg, hcount, hsteps]; omega)
      rw [himg] at hfloor hcounted
      rw [hcount, hsteps] at hcounted
      exact ⟨v, q, by rw [hstep]; exact hrest, hfloor, by omega, hleft.trans hqueue⟩

theorem State.cellsSame_fault (s : State) (code sc unit detail : Nat) : s.cellsSame (s.fault code sc unit detail) := by
  have hfr : Fr grtFaultReach s (s.fault code sc unit detail) := State.fault_fr (Fr.refl _ _)
  exact State.cellsSame_of_cells (by rw [hfr.keep_otp]; exact ⟨rfl, rfl⟩) (State.tightRef_of_fr hfr)

/-- R562: a refused pulse on a copy that is not strong ends the operation; nothing is blown. -/
theorem State.blowCopy_refused (s : State) (c a b : Nat) {p : Pulse} (r : List Pulse) (hp : p.refused = true)
    (hweak : bit (s.cell c true a).toNat b = false) : s.blowCopy c a b (p :: r) = (s.fault 49 4 0 0, .fail 3, r) := by
  have hpulse : s.pulse c a b p = (s.fault 49 4 0 0, some (.fail 3)) := by rw [State.pulse, if_pos hp]
  rw [State.blowCopy, hweak, Bool.and_false, if_neg Bool.false_ne_true, hpulse]

theorem State.blowBit_refused (s : State) (a b : Nat) {p : Pulse} (r : List Pulse) (hp : p.refused = true)
    (hweak : ∀ c, bit (s.cell c true a).toNat b = false) : s.blowBit a b (p :: r) = (s.fault 49 4 0 0, .fail 3, r) := by
  rw [State.blowBit]
  split_ifs with hfirst
  · rw [s.blowCopy_refused 0 a b r hp (hweak 0)]
  · simp only [if_neg hfirst, s.blowCopy_refused 1 a b r hp (hweak 1)]

theorem State.floorSteps_refused (s : State) (fuel : Nat) {p : Pulse} (r : List Pulse) (hp : p.refused = true)
    (hmore : ctrValue s.expected 0 < s.img.floorReq)
    (hweak : ∀ c, bit (s.cell c true (0x10 + ctrValue s.expected 0 / 32)).toNat (ctrValue s.expected 0 % 32) = false) :
    s.floorSteps (fuel + 1) (p :: r) = (s.fault 49 4 0 0, .fail 3, r) := by
  have hstep : s.ctrStep 0 (p :: r) = (s.fault 49 4 0 0, .fail 3, r) := by
    rw [State.ctrStep, show ctrBase 0 = 0x10 from rfl, s.blowBit_refused _ _ r hp hweak]
  rw [State.floorSteps, if_neg (Nat.not_le.2 hmore), hstep]

/-! ### An advance from its request (R124, R125) -/

/-- The request that a write of GH.FLOOR_ADV makes. -/
def floorRequest : GrtReq := { src := 1, op := 6, addr := 0, mask := 0, live := [] }

/-- The advance has begun: its request stands alone in the queue, and STEPS counts from 0. -/
def State.floorBegun (s : State) : State := ((s.grtAsk floorRequest).grtBegin { floorRequest with op := 14 }).set F.GH_FLOOR_ADV_STEPS 0

/-- The steps are blown through the pulses given, and the advance ends by table 4.15 or waits for more. -/
def State.floorBlows (s : State) (out : List Pulse) : State :=
  match s.floorSteps 65 out with
  | (s, .ok, _) => s.floorEnd 1
  | (s, .fail 3, _) => s.floorEnd 4
  | (s, .fail 4, _) => s.floorEnd 5
  | (s, .fail _, _) => s.freshNat.2.floorEnd (s.freshNat.1 % 8)
  | (s, .more, _) => s.showCounters.grtShow

/-- R125: the advance is refused, or its steps are blown. -/
def State.floorJudged (s : State) (out : List Pulse) : State :=
  if s.img.zeroKey then s.floorEnd 2
  else if ctrValue s.expected 0 = 64 then s.floorEnd 6
  else if s.img.floorReq ≤ ctrValue s.expected 0 then s.floorEnd 3
  else s.floorBlows out

theorem State.bridgeOn_of_fr {m : Nat} {s t : State} (h : Fr m s t) (x : Axis)
    (hstate : m.testBit (32 + fam (F.MC_STATE_STATE x).reg) = false)
    (hsafe : m.testBit (32 + fam (F.TR_SAFE_STAT_STATE x).reg) = false) : t.bridgeOn x = s.bridgeOn x := by
  rw [State.bridgeOn, State.bridgeOn, State.axState, State.axState, h.keep_fld hstate, h.keep_fld hsafe]

section
variable (s : State)

/-- What the request and its beginning reach. -/
abbrev floorBegunReach : Nat := 0x52000000000000000000000000000000000000000000000000000040004000000

theorem State.floorBegun_reach : Fr floorBegunReach s s.floorBegun :=
  State.set_fr (State.grtBegin_fr (State.grtAsk_fr (Fr.refl _ _)))

theorem State.otp_floorAsked (hq : s.otp.queue = []) : (s.grtAsk floorRequest).otp = { s.otp with queue := [floorRequest] } := by
  rw [State.grtAsk, hq]
  show ({ s.otp with queue := s.otp.queue ++ [floorRequest] } : Otp) = _
  rw [hq]
  rfl

theorem State.otp_floorBegun (hq : s.otp.queue = []) :
    s.floorBegun.otp = { s.otp with queue := [{ floorRequest with op := 14 }], tries := (0, 0), made := 0 } := by
  rw [State.floorBegun, State.set_otp, State.grtBegin]
  show ({ (s.grtAsk floorRequest).otp with queue := _ :: (s.grtAsk floorRequest).otp.queue.tail, tries := (0, 0), made := 0 } : Otp) = _
  rw [s.otp_floorAsked hq]
  rfl

theorem State.steps_floorBegun : s.floorBegun.fld F.GH_FLOOR_ADV_STEPS = 0 := State.fld_set_of_lt _ _ _ rfl (by decide)

theorem State.expected_floorBegun (hq : s.otp.queue = []) : s.floorBegun.expected = s.expected :=
  State.expected_congr (by rw [s.otp_floorBegun hq]; exact ⟨rfl, rfl⟩)

theorem State.cellsSame_floorBegun (hq : s.otp.queue = []) : s.cellsSame s.floorBegun :=
  State.cellsSame_of_cells (by rw [s.otp_floorBegun hq]; exact ⟨rfl, rfl⟩) (State.tightRef_of_fr s.floorBegun_reach)

/-- R124: a write without the key or with GO = 0 is ignored where no advance stands requested. -/
theorem exec_floorAdv_ignored (w : Word) (out : List Pulse) (hq : s.otp.queue = [])
    (h : ¬(fieldOf F.GH_FLOOR_ADV_KEY w = 0xA55A ∧ fieldOf F.GH_FLOOR_ADV_GO w = 1)) : exec (.floorAdv w out) s = .next s := by
  have hwrite : s.floorWrite w = s := by
    rw [State.floorWrite, if_neg]
    simp only [Bool.and_eq_true, beq_iff_eq]
    exact fun hw => h ⟨hw.1.2, hw.2⟩
  show execFloorAdv w out s = _
  rw [execFloorAdv, hwrite]
  simp only [hq]

/-- R124: a keyed write begins the advance at once where the Grotto is idle and no bridge is enabled. -/
theorem exec_floorAdv_begins (w : Word) (out : List Pulse) (hopen : s.grtOpen = true) (hq : s.otp.queue = [])
    (hkey : fieldOf F.GH_FLOOR_ADV_KEY w = 0xA55A) (hgo : fieldOf F.GH_FLOOR_ADV_GO w = 1) (hoff : s.anyBridge = false) :
    exec (.floorAdv w out) s = .next (s.floorBegun.floorJudged out) := by
  have hwrite : s.floorWrite w = s.grtAsk floorRequest := by
    rw [State.floorWrite, hopen, hkey, hgo]
    rfl
  have hask : Fr 0x12000000000000000000000000000000000000000000000000000040004000000 s (s.grtAsk floorRequest) :=
    State.grtAsk_fr (Fr.refl _ _)
  have hqueue : (s.grtAsk floorRequest).otp.queue = [floorRequest] := by rw [s.otp_floorAsked hq]
  have hopen' : (s.grtAsk floorRequest).grtOpen = true := by
    rw [State.grtOpen, State.isUp, hask.keep_die, hask.keep_fld (by decide)]
    exact hopen
  have hoff' : s.floorBegun.anyBridge = false := by
    rw [State.anyBridge, State.bridgeOn_of_fr s.floorBegun_reach .a (by decide) (by decide),
      State.bridgeOn_of_fr s.floorBegun_reach .b (by decide) (by decide)]
    exact hoff
  show execFloorAdv w out s = _
  rw [execFloorAdv, hwrite]
  simp only [hqueue, hopen', show floorRequest.src = 1 from rfl, show floorRequest.begun = false from rfl, and_self, if_true,
    Bool.not_false, Bool.true_and, beq_iff_eq, decide_eq_true_eq]
  exact congrArg Host.Outcome.next (if_neg (show ¬s.floorBegun.anyBridge = true by rw [hoff']; decide))

end

theorem State.floorBlows_holds (s : State) {out : List Pulse} (hmore : ctrValue s.expected 0 < s.img.floorReq)
    (hreq : s.img.floorReq ≤ 64) (hout : pulsesHold out) (hlen : 128 ≤ out.length) (hsteps : s.fld F.GH_FLOOR_ADV_STEPS = 0) :
    ∃ u : State, s.floorBlows out = u.floorEnd 1 ∧ ctrValue u.expected 0 = s.img.floorReq ∧
      u.fld F.GH_FLOOR_ADV_STEPS = s.img.floorReq - ctrValue s.expected 0 ∧ u.otp.queue = s.otp.queue := by
  obtain ⟨u, r, hblow, hfloor, hcounted, hqueue⟩ :=
    s.floorSteps_holds (fuel := 65) hmore.le hreq (by omega) hout (by omega) (by omega)
  exact ⟨u, by rw [State.floorBlows, hblow], hfloor, by rw [hcounted, hsteps, Nat.zero_add], hqueue⟩

theorem State.floorBlows_refused (s : State) {p : Pulse} (r : List Pulse) (hp : p.refused = true)
    (hmore : ctrValue s.expected 0 < s.img.floorReq)
    (hweak : ∀ c, bit (s.cell c true (0x10 + ctrValue s.expected 0 / 32)).toNat (ctrValue s.expected 0 % 32) = false) :
    s.floorBlows (p :: r) = (s.fault 49 4 0 0).floorEnd 4 := by
  rw [State.floorBlows, s.floorSteps_refused 64 r hp hmore hweak]
  rfl

/-- Settles O15: the refusals of R125 in turn, else each step takes its two pulses at most. -/
theorem floorAdvanceFollowsR125 : Obligations.FloorAdvanceFollowsR125 := by
  intro s w hopen hq
  refine ⟨fun h out => exec_floorAdv_ignored s w out hq h, fun hkey hgo hoff out => ?_⟩
  have hexec := exec_floorAdv_begins s w out hopen hq hkey hgo hoff
  have hver : (s.floorBegun.floorJudged out).fld F.GH_IMG_VER_FLOOR = s.fld F.GH_IMG_VER_FLOOR :=
    (execFloorAdv_fr hexec).keep_fld (by decide)
  have himg : s.floorBegun.img = s.img := s.floorBegun_reach.keep_img
  have hexp : s.floorBegun.expected = s.expected := s.expected_floorBegun hq
  have hcells : s.cellsSame s.floorBegun := s.cellsSame_floorBegun hq
  have hsteps : s.floorBegun.fld F.GH_FLOOR_ADV_STEPS = 0 := s.steps_floorBegun
  have hqueue : s.floorBegun.otp.queue.tail = [] := by rw [s.otp_floorBegun hq]; rfl
  refine ⟨_, hexec, hver, ?_⟩
  generalize s.floorBegun = t at himg hexp hcells hsteps hqueue ⊢
  rw [State.floorJudged, himg, hexp]
  refine ⟨fun hzero => ?zero, fun hreal hsat => ?sat, fun hreal hsat hdone => ?nothing, fun hreal hmore hreq hout hlen => ?done,
    fun hreal hmore hreq hweak ⟨p, rest, heq, hp⟩ => ?refused⟩
  case zero =>
    rw [if_pos hzero]
    exact ⟨t.result_floorEnd 2 (by decide), hcells.trans (t.cellsSame_floorEnd 2), t.pend_floorEnd 2⟩
  all_goals rw [if_neg (by rw [hreal]; decide)]
  case sat =>
    rw [if_pos hsat]
    exact ⟨t.result_floorEnd 6 (by decide), hcells.trans (t.cellsSame_floorEnd 6)⟩
  all_goals rw [if_neg (by omega)]
  case nothing =>
    rw [if_pos hdone]
    exact ⟨t.result_floorEnd 3 (by decide), hcells.trans (t.cellsSame_floorEnd 3)⟩
  all_goals rw [if_neg (Nat.not_le.2 hmore)]
  case done =>
    obtain ⟨u, hblow, hfloor, hcounted, hleft⟩ :=
      t.floorBlows_holds (out := out) (by rw [himg, hexp]; exact hmore) (by rw [himg]; exact hreq) hout hlen hsteps
    rw [himg] at hfloor hcounted
    rw [hexp] at hcounted
    have hotp := u.otp_floorEnd 1
    rw [hblow]
    refine ⟨u.result_floorEnd 1 (by decide), ?_, (u.steps_floorEnd 1).trans hcounted, ?_⟩
    · rw [State.expected_congr (s := u) (by rw [hotp]; exact ⟨rfl, rfl⟩), hfloor]
    · rw [hotp, hleft, hqueue]
  case refused =>
    have hblow := t.floorBlows_refused rest hp (by rw [himg, hexp]; exact hmore) (fun c => by rw [hexp, hcells]; exact hweak c)
    rw [heq, hblow]
    refine ⟨State.result_floorEnd _ 4 (by decide), ?_, (hcells.trans (t.cellsSame_fault 49 4 0 0)).trans (State.cellsSame_floorEnd _ 4)⟩
    rw [State.steps_floorEnd, (State.fault_fr (κ := grtFaultReach) (Fr.refl _ t)).keep_fld (by decide), hsteps]

end Sys2Proof.Machine

namespace Sys2Proof.Machine

set_option Elab.async false

/-! ### Counter clears (R170, R250, R468, R501) -/

theorem State.fld_wr_ne (s : State) {g : Fld} {a : Nat} (w : Word) (h : g.reg ≠ a) : (s.wr a w).fld g = s.fld g := by
  rw [State.fld_wr, if_neg h]

theorem State.rd_ite {c : Prop} [Decidable c] (s t : State) (a : Nat) : (if c then s else t).rd a = if c then s.rd a else t.rd a :=
  apply_ite (State.rd · a) ..

theorem State.fld_ite {c : Prop} [Decidable c] (s t : State) (f : Fld) :
    (if c then s else t).fld f = if c then s.fld f else t.fld f := apply_ite (State.fld · f) ..

theorem State.rd_wr_same (s : State) (a : Nat) (w : Word) : (s.wr a w).rd a = w := by rw [State.rd_wr, if_pos rfl]

theorem State.rd_wr_ne (s : State) {a b : Nat} (w : Word) (h : b ≠ a) : (s.wr a w).rd b = s.rd b := by rw [State.rd_wr, if_neg h]

/-- Fields set in a row leave a field that shares no bit with any of them. -/
theorem State.fld_forEach_set_apart {α : Type} (l : List α) (s : State) (f : α → Fld) (v : α → Nat) {g : Fld}
    (hl : ∀ a ∈ l, (f a).ok = true ∧ (f a).apart g = true) :
    (s.forEach l (fun s a => s.set (f a) (v a))).fld g = s.fld g := by
  unfold State.forEach
  induction l generalizing s with
  | nil => rfl
  | cons a l ih =>
    obtain ⟨hok, hg⟩ := hl a (by simp)
    rw [List.foldl_cons, ih _ (fun b hb => hl b (by simp [hb])), State.fld_set_apart _ _ hok hg]

/-- Fields set in a row leave a register that none of them lies in. -/
theorem State.rd_forEach_set_ne {α : Type} (l : List α) (s : State) (f : α → Fld) (v : α → Nat) {a : Nat}
    (hl : ∀ b ∈ l, a ≠ (f b).reg) : (s.forEach l (fun s b => s.set (f b) (v b))).rd a = s.rd a := by
  unfold State.forEach
  induction l generalizing s with
  | nil => rfl
  | cons b l ih =>
    rw [List.foldl_cons, ih _ (fun c hc => hl c (by simp [hc])), State.rd_set_ne _ _ _ _ (hl b (by simp))]

/-- A write of the same word to each of the listed registers. -/
theorem State.rd_forEach_wr {α : Type} (l : List α) (s : State) (reg : α → Nat) (w : Word) (a : Nat) :
    (s.forEach l (fun s n => s.wr (reg n) w)).rd a = if a ∈ l.map reg then w else s.rd a := by
  unfold State.forEach
  induction l generalizing s with
  | nil => simp
  | cons b l ih =>
    rw [List.foldl_cons, ih, State.rd_wr]
    by_cases hl : a ∈ l.map reg <;> simp [hl]

/-- A change made under a condition keeps to the registers that the change keeps to. -/
theorem State.onlyRegs.thenIf {l : List Nat} {s t : State} {c : Bool} {f : State → State} (h : State.onlyRegs l s t)
    (hf : ∀ u, State.onlyRegs l u (f u)) : State.onlyRegs l s (t.onlyIf c f) := h.onlyIf (h.trans (hf t))

theorem State.onlyRegs_set {l : List Nat} {f : Fld} (v : Nat) (h : f.reg ∈ l) (u : State) : u.onlyRegs l (u.set f v) :=
  (State.onlyRegs.refl l u).set h

theorem State.onlyRegs_wr {l : List Nat} {a : Nat} (w : Word) (h : a ∈ l) (u : State) : u.onlyRegs l (u.wr a w) :=
  (State.onlyRegs.refl l u).wr h

/-- The clusters' lowest counts each read the value that all were set to. -/
theorem State.fld_paceMins (s : State) {v n : Nat} (hv : v < 65536) (hn : n < 4) :
    (s.forEach (List.range 4) (fun s c => s.set (F.HB_PACE_MIN c) v)).fld (F.HB_PACE_MIN n) = v := by
  have hset : ∀ (u : State) (c : Nat), (u.set (F.HB_PACE_MIN c) v).fld (F.HB_PACE_MIN c) = v := fun u c =>
    State.fld_set_of_lt _ _ _ rfl hv
  have hother : ∀ (u : State) (c : Nat), (F.HB_PACE_MIN c).apart (F.HB_PACE_MIN n) = true →
      (u.set (F.HB_PACE_MIN c) v).fld (F.HB_PACE_MIN n) = u.fld (F.HB_PACE_MIN n) := fun u c h => State.fld_set_apart _ _ rfl h
  show ((((s.set (F.HB_PACE_MIN 0) v).set (F.HB_PACE_MIN 1) v).set (F.HB_PACE_MIN 2) v).set (F.HB_PACE_MIN 3) v).fld _ = v
  interval_cases n <;> simp (disch := decide) only [hset, hother]

/-- The registers that HB.CNT_CLR reaches. -/
def hbCntRegs : List Nat :=
  [A.HB_MISS .a, A.HB_MISS .b, A.HB_LATE, A.HB_STEAL, A.HB_ECC, A.HB_ABANDON] ++ (List.range 4).map A.HB_PACE

theorem State.hbCntClr_onlyRegs (s : State) (w : Word) : s.onlyRegs hbCntRegs (s.hbCntClr w) := by
  have hpace : ∀ u : State, u.onlyRegs hbCntRegs (u.forEach (List.range 4) (fun s c => s.set (F.HB_PACE_MIN c) 0xFFFF)) := fun u =>
    (State.onlyRegs.refl _ u).forEach (fun _ c hc hv => hv.set (List.mem_append_right _ (List.mem_map_of_mem hc)))
  unfold State.hbCntClr
  exact (((((((State.onlyRegs.refl _ _).thenIf (State.onlyRegs_set 0 (by decide))).thenIf (State.onlyRegs_set 0 (by decide))).thenIf
    (State.onlyRegs_wr 0 (by decide))).thenIf hpace).thenIf (State.onlyRegs_wr 0 (by decide))).thenIf
    (State.onlyRegs_wr 0 (by decide))).thenIf (State.onlyRegs_set 0 (by decide))

theorem State.hbCntClr_miss (s : State) (w : Word) :
    (s.hbCntClr w).fld (F.HB_MISS_TOTAL .a) = (if fieldOf F.HB_CNT_CLR_MISS_A w = 1 then 0 else s.fld (F.HB_MISS_TOTAL .a)) ∧
    (s.hbCntClr w).fld (F.HB_MISS_TOTAL .b) = (if fieldOf F.HB_CNT_CLR_MISS_B w = 1 then 0 else s.fld (F.HB_MISS_TOTAL .b)) := by
  simp (disch := decide) only [State.hbCntClr, State.fld_onlyIf, State.fld_set_apart, State.fld_wr_ne, State.fld_forEach_set_apart,
    State.fld_set_of_lt, ite_self, beq_iff_eq, and_self]

theorem State.hbCntClr_runs (s : State) (w : Word) (y : Axis) :
    (s.hbCntClr w).fld (F.HB_MISS_RUN y) = s.fld (F.HB_MISS_RUN y) ∧
    (s.hbCntClr w).fld (F.HB_MISS_IN_WIN y) = s.fld (F.HB_MISS_IN_WIN y) := by
  cases y <;> simp (disch := decide) only [State.hbCntClr, State.fld_onlyIf, State.fld_set_apart, State.fld_wr_ne,
    State.fld_forEach_set_apart, ite_self, and_self]

theorem State.hbCntClr_rd (s : State) (w : Word) :
    (s.hbCntClr w).rd A.HB_LATE = (if fieldOf F.HB_CNT_CLR_LATE w = 1 then 0 else s.rd A.HB_LATE) ∧
    (s.hbCntClr w).rd A.HB_STEAL = (if fieldOf F.HB_CNT_CLR_STEAL w = 1 then 0 else s.rd A.HB_STEAL) ∧
    (s.hbCntClr w).rd A.HB_ECC = (if fieldOf F.HB_CNT_CLR_ECC w = 1 then 0 else s.rd A.HB_ECC) := by
  simp (disch := decide) only [State.hbCntClr, State.rd_onlyIf, State.rd_set_ne, State.rd_wr_same, State.rd_wr_ne,
    State.rd_forEach_set_ne, ite_self, beq_iff_eq, and_self]

theorem State.hbCntClr_abandon (s : State) (w : Word) :
    (s.hbCntClr w).fld F.HB_ABANDON_COUNT = (if fieldOf F.HB_CNT_CLR_ABANDON w = 1 then 0 else s.fld F.HB_ABANDON_COUNT) ∧
    (s.hbCntClr w).fld F.HB_ABANDON_GRAPH = s.fld F.HB_ABANDON_GRAPH := by
  simp (disch := decide) only [State.hbCntClr, State.fld_onlyIf, State.fld_set_apart, State.fld_wr_ne, State.fld_forEach_set_apart,
    State.fld_set_of_lt, ite_self, beq_iff_eq, and_self]

theorem State.hbCntClr_pace (s : State) (w : Word) {n : Nat} (hn : n < 4) :
    (s.hbCntClr w).fld (F.HB_PACE_LAST n) = s.fld (F.HB_PACE_LAST n) ∧
    (s.hbCntClr w).fld (F.HB_PACE_MIN n) = (if fieldOf F.HB_CNT_CLR_PACE_MIN w = 1 then 0xFFFF else s.fld (F.HB_PACE_MIN n)) := by
  have hmin : ∀ u : State, (u.forEach (List.range 4) (fun s c => s.set (F.HB_PACE_MIN c) 0xFFFF)).fld (F.HB_PACE_MIN n) = 0xFFFF :=
    fun u => u.fld_paceMins (by decide) hn
  interval_cases n <;> simp (disch := decide) only [State.hbCntClr, State.fld_onlyIf, State.fld_set_apart, State.fld_wr_ne,
    State.fld_forEach_set_apart, hmin, ite_self, beq_iff_eq, and_self]

theorem State.snsCntClr_onlyRegs (s : State) (w : Word) :
    s.onlyRegs ([A.SNS_CNT .a, A.SNS_CNT .b] ++ (List.range 6).map A.SNS_DTD) (s.snsCntClr w) := by
  have hdtd : s.onlyRegs ([A.SNS_CNT .a, A.SNS_CNT .b] ++ (List.range 6).map A.SNS_DTD)
      (s.forEach (List.range 6) (fun s n => s.wr (A.SNS_DTD n) 0)) :=
    (State.onlyRegs.refl _ s).forEach (fun _ n hn hv => hv.wr (List.mem_append_right _ (List.mem_map_of_mem hn)))
  have hb := State.onlyRegs.ite (c := fieldOf F.SNS_CNT_CLR_DTD w = 1) hdtd (.refl _ s)
  have ha := State.onlyRegs.ite (c := fieldOf F.SNS_CNT_CLR_CNT_B w = 1) (hb.wr (a := A.SNS_CNT .b) (v := 0) (by decide)) hb
  exact .ite (ha.wr (by decide)) ha

theorem State.snsCntClr_rd (s : State) (w : Word) :
    (s.snsCntClr w).rd (A.SNS_CNT .a) = (if fieldOf F.SNS_CNT_CLR_CNT_A w = 1 then 0 else s.rd (A.SNS_CNT .a)) ∧
    (s.snsCntClr w).rd (A.SNS_CNT .b) = (if fieldOf F.SNS_CNT_CLR_CNT_B w = 1 then 0 else s.rd (A.SNS_CNT .b)) := by
  simp (disch := decide) only [State.snsCntClr, State.rd_ite, State.rd_wr_same, State.rd_wr_ne, State.rd_forEach_wr,
    if_neg, ite_self, and_self]

theorem State.snsCntClr_dtd (s : State) (w : Word) (n : Nat) :
    (s.snsCntClr w).rd (A.SNS_DTD n) = (if fieldOf F.SNS_CNT_CLR_DTD w = 1 then 0 else s.rd (A.SNS_DTD n)) := by
  have hreg : ∀ m, m < 6 → A.SNS_DTD m ≠ A.SNS_CNT .a ∧ A.SNS_DTD m ≠ A.SNS_CNT .b ∧
      A.SNS_DTD m ∈ (List.range 6).map A.SNS_DTD := by decide
  have hn : A.SNS_DTD n = A.SNS_DTD (n % 6) := by simp [A.SNS_DTD]
  obtain ⟨ha, hb, hmem⟩ := hreg (n % 6) (Nat.mod_lt _ (by decide))
  rw [hn]
  simp only [State.snsCntClr, State.rd_ite, State.rd_wr_ne _ _ ha, State.rd_wr_ne _ _ hb, State.rd_forEach_wr,
    if_pos hmem, ite_self]

theorem State.trxCntClr_onlyRegs (s : State) (x : Axis) (w : Word) :
    s.onlyRegs [A.TR_LINK_CNT x, A.TR_ILK_CNT x, A.TR_REF_STAT x] (s.trxCntClr x w) := by
  have hlink := State.onlyRegs.ite (c := fieldOf (F.TR_CNT_CLR_LINK x) w = 1) (State.onlyRegs_set
    (l := [A.TR_LINK_CNT x, A.TR_ILK_CNT x, A.TR_REF_STAT x]) (f := F.TR_LINK_CNT_DISCARDED x) 0 (by simp [F.TR_LINK_CNT_DISCARDED]) s)
    (.refl _ s)
  have hilk := State.onlyRegs.ite (c := fieldOf (F.TR_CNT_CLR_ILK x) w = 1)
    (((hlink.set (f := F.TR_ILK_CNT_U x) (v := 0) (by simp [F.TR_ILK_CNT_U])).set (f := F.TR_ILK_CNT_V x) (v := 0)
      (by simp [F.TR_ILK_CNT_V])).set (f := F.TR_ILK_CNT_W x) (v := 0) (by simp [F.TR_ILK_CNT_W])) hlink
  exact .ite (hilk.set (by simp [F.TR_REF_STAT_COUNT])) hilk

/-- The three counters of ILK_CNT are the low 24 bits of their register. -/
theorem ilkCounters_eq (x : Axis) (s : State) :
    s.rd (A.TR_ILK_CNT x) &&& 0xFFFFFF#32 = BitVec.ofNat 32 (s.fld (F.TR_ILK_CNT_U x) + 2 ^ 8 * s.fld (F.TR_ILK_CNT_V x) +
      2 ^ 16 * s.fld (F.TR_ILK_CNT_W x)) := by
  have hand : (s.rd (A.TR_ILK_CNT x)).toNat &&& (2 ^ 24 - 1) = (s.rd (A.TR_ILK_CNT x)).toNat % 2 ^ 24 := Nat.and_two_pow_sub_one_eq_mod _ 24
  apply BitVec.eq_of_toNat_eq
  refine (BitVec.toNat_and ..).trans (hand.trans ?_)
  rw [BitVec.toNat_ofNat]
  simp only [State.fld, fieldOf, bits, F.TR_ILK_CNT_U, F.TR_ILK_CNT_V, F.TR_ILK_CNT_W]
  omega

theorem State.trxCntClr_counters (s : State) (x : Axis) (w : Word) :
    (s.trxCntClr x w).fld (F.TR_LINK_CNT_DISCARDED x) =
      (if fieldOf (F.TR_CNT_CLR_LINK x) w = 1 then 0 else s.fld (F.TR_LINK_CNT_DISCARDED x)) ∧
    (s.trxCntClr x w).rd (A.TR_ILK_CNT x) &&& 0xFFFFFF#32 =
      (if fieldOf (F.TR_CNT_CLR_ILK x) w = 1 then 0 else s.rd (A.TR_ILK_CNT x) &&& 0xFFFFFF#32) ∧
    (s.trxCntClr x w).fld (F.TR_REF_STAT_COUNT x) =
      (if fieldOf (F.TR_CNT_CLR_REF x) w = 1 then 0 else s.fld (F.TR_REF_STAT_COUNT x)) := by
  have hlink : (s.trxCntClr x w).fld (F.TR_LINK_CNT_DISCARDED x) =
      (if fieldOf (F.TR_CNT_CLR_LINK x) w = 1 then 0 else s.fld (F.TR_LINK_CNT_DISCARDED x)) := by
    cases x <;> simp (disch := decide) only [State.trxCntClr, State.fld_ite, State.fld_set_of_lt, State.fld_set_apart, ite_self]
  have href : (s.trxCntClr x w).fld (F.TR_REF_STAT_COUNT x) =
      (if fieldOf (F.TR_CNT_CLR_REF x) w = 1 then 0 else s.fld (F.TR_REF_STAT_COUNT x)) := by
    cases x <;> simp (disch := decide) only [State.trxCntClr, State.fld_ite, State.fld_set_of_lt, State.fld_set_apart, ite_self]
  have hilk : ∀ f ∈ [F.TR_ILK_CNT_U x, F.TR_ILK_CNT_V x, F.TR_ILK_CNT_W x],
      (s.trxCntClr x w).fld f = if fieldOf (F.TR_CNT_CLR_ILK x) w = 1 then 0 else s.fld f := by
    simp only [List.forall_mem_cons, List.not_mem_nil, false_imp_iff, implies_true, and_true]
    cases x <;> simp (disch := decide) only [State.trxCntClr, State.fld_ite, State.fld_set_of_lt, State.fld_set_apart, ite_self,
      and_self]
  refine ⟨hlink, ?_, href⟩
  rw [ilkCounters_eq, ilkCounters_eq, hilk _ (by simp), hilk _ (by simp), hilk _ (by simp)]
  split <;> rfl

theorem State.protClr_onlyRegs (s : State) (x : Axis) (w : Word) :
    s.onlyRegs [A.TR_CSC_STAT x, A.TR_DS_CNT x, A.TR_SAFE_STAT x] (s.protClr x w) := by
  have hovc := State.onlyRegs.ite (c := fieldOf (F.TR_PROT_CLR_OVC x) w = 1) (State.onlyRegs_set
    (l := [A.TR_CSC_STAT x, A.TR_DS_CNT x, A.TR_SAFE_STAT x]) (f := F.TR_CSC_STAT_OVC x) 0 (by simp [F.TR_CSC_STAT_OVC]) s) (.refl _ s)
  have hds := State.onlyRegs.ite (c := fieldOf (F.TR_PROT_CLR_DS x) w = 1)
    ((hovc.set (f := F.TR_DS_CNT_MON x) (v := 0) (by simp [F.TR_DS_CNT_MON])).set (f := F.TR_DS_CNT_DS x) (v := 0)
      (by simp [F.TR_DS_CNT_DS])) hovc
  exact .ite (hds.set (by simp [F.TR_SAFE_STAT_RETRIES])) hds

theorem State.protClr_counters (s : State) (x : Axis) (w : Word) :
    (s.protClr x w).fld (F.TR_CSC_STAT_OVC x) =
      (if fieldOf (F.TR_PROT_CLR_OVC x) w = 1 then 0 else s.fld (F.TR_CSC_STAT_OVC x)) ∧
    (s.protClr x w).fld (F.TR_DS_CNT_MON x) =
      (if fieldOf (F.TR_PROT_CLR_DS x) w = 1 then 0 else s.fld (F.TR_DS_CNT_MON x)) ∧
    (s.protClr x w).fld (F.TR_DS_CNT_DS x) =
      (if fieldOf (F.TR_PROT_CLR_DS x) w = 1 then 0 else s.fld (F.TR_DS_CNT_DS x)) ∧
    (s.protClr x w).fld (F.TR_SAFE_STAT_RETRIES x) =
      (if fieldOf (F.TR_PROT_CLR_RETRIES x) w = 1 then 0 else s.fld (F.TR_SAFE_STAT_RETRIES x)) ∧
    (s.protClr x w).fld (F.TR_SAFE_STAT_USED x) = s.fld (F.TR_SAFE_STAT_USED x) ∧
    (s.protClr x w).fld (F.TR_SAFE_STAT_STATE x) = s.fld (F.TR_SAFE_STAT_STATE x) ∧
    (s.protClr x w).fld (F.TR_CSC_STAT_STATE x) = s.fld (F.TR_CSC_STAT_STATE x) := by
  cases x <;> simp (disch := decide) only [State.protClr, State.fld_ite, State.fld_set_of_lt, State.fld_set_apart, ite_self, and_self]

/-- Settles O58, clear by clear: each field is read past the sets of the other counters. -/
theorem counterClearsZeroOnlyNamedCounters : Obligations.CounterClearsZeroOnlyNamedCounters := by
  intro s x w hrun
  have hnext : ∀ f : State → State, Host.Outcome.next (s.running f) = (.next (f s) : Host.Outcome State Fault Refusal) := fun f =>
    congrArg _ (State.running_of hrun)
  refine ⟨⟨s.hbCntClr w, hnext _, s.hbCntClr_onlyRegs w, ?_⟩, ⟨s.snsCntClr w, hnext _, s.snsCntClr_onlyRegs w, ?_⟩,
    ⟨s.trxCntClr x w, hnext _, s.trxCntClr_onlyRegs x w, s.trxCntClr_counters x w⟩,
    ⟨s.protClr x w, hnext _, s.protClr_onlyRegs x w, s.protClr_counters x w⟩,
    ⟨s.wr A.ICE_CNT 0, hnext _, State.onlyRegs_wr 0 (by simp) s, s.rd_wr_same _ _⟩,
    ⟨s.wr A.WKT_CNT 0, hnext _, State.onlyRegs_wr 0 (by simp) s, s.rd_wr_same _ _⟩,
    ⟨s.set F.SUN_STAT_REJECTS 0, hnext _, State.onlyRegs_set 0 (by simp [F.SUN_STAT_REJECTS]) s,
      State.fld_set_of_lt _ _ _ rfl (by decide), State.fld_set_apart _ _ rfl rfl⟩⟩
  · obtain ⟨hmissA, hmissB⟩ := s.hbCntClr_miss w
    obtain ⟨hlate, hsteal, hecc⟩ := s.hbCntClr_rd w
    obtain ⟨hcount, hgraph⟩ := s.hbCntClr_abandon w
    exact ⟨hmissA, hmissB, s.hbCntClr_runs w, hlate, hsteal, hecc, hcount, hgraph, fun n hn => s.hbCntClr_pace w hn⟩
  · obtain ⟨ha, hb⟩ := s.snsCntClr_rd w
    exact ⟨ha, hb, s.snsCntClr_dtd w⟩

end Sys2Proof.Machine

namespace Sys2Proof.Machine

set_option Elab.async false

/-! ### What every step of a fault keeps

A fault reaches the Bandstand by the releases of its events alone (R516), so that a relation which a release meets, and which does not
see the rest of the state, holds across every fault, safe state and memory error. -/

/-- All of the state but the fabric and the register that a release shows its margin in. -/
abbrev offPace : Nat := 0x1ffffffffffffffffffffffffffffffffffffffffffffffffffffffffffffffbffffffffbf7

/-- A relation that every step of a fault meets. -/
structure FaultRel (R : State → State → Prop) : Prop where
  refl : ∀ s, R s s
  trans : ∀ {s t u}, R s t → R t u → R s u
  off : ∀ {s t}, Fr offPace s t → R s t
  release : ∀ s r, R s (s.releaseAt r)
  bgStop : ∀ s, R s (s.modFab (fun b => { b with bgStop := true }))

section
variable {R : State → State → Prop}

theorem FaultRel.ite {c : Prop} [Decidable c] {s a b : State} (_ : FaultRel R) (ha : R s a) (hb : R s b) : R s (if c then a else b) := by
  split
  · exact ha
  · exact hb

variable (hR : FaultRel R) (s : State)
include hR

theorem FaultRel.forEach {α : Type} {f : State → α → State} (hf : ∀ s a, R s (f s a)) (l : List α) (s : State) : R s (s.forEach l f) := by
  induction l generalizing s with
  | nil => exact hR.refl s
  | cons a r ih => exact hR.trans (hf s a) (ih (f s a))

theorem FaultRel.raise1 (e : Nat) : R s (s.raise1 e) := by
  have hset (v : Nat) : R s (s.set (F.LDG_EVT_PEND (e / 32)) v) := hR.off (State.set_fr (Fr.refl _ _))
  have hroute (u : State) : R u (if u.flag (F.LDG_ROUTE_KIOSK e) then u.forEach (u.graphsOn 2 e none) State.releaseGraph else u) :=
    hR.ite (hR.forEach (fun v k => hR.release v (v.triggerOf k)) _ u) (hR.refl u)
  have htrig (u : State) : R u (if u.flag (F.LDG_ROUTE_PGL e) then u.pglTrigReg (u.fld (F.LDG_ROUTE_PGL_CH e)) else u) :=
    hR.ite (hR.off (State.pglTrigReg_fr (Fr.refl _ _))) (hR.refl u)
  exact hR.trans (hset _) (hR.trans (hroute _) (htrig _))

theorem FaultRel.raiseN (fuel e : Nat) : R s (s.raiseN fuel e) := by
  induction fuel generalizing s e with
  | zero => exact hR.raise1 s e
  | succ n ih =>
    refine hR.trans (hR.raise1 s e) (hR.forEach (fun u x => ?_) _ _)
    exact hR.ite (hR.trans (hR.off (State.capMark_fr (Fr.refl _ _))) (ih _ _)) (hR.refl u)

theorem FaultRel.event (e : Nat) : R s (s.event e) := hR.ite (hR.raiseN s 3 e) (hR.refl s)

theorem FaultRel.evx (x : Axis) (o : Nat) : R s (s.evx x o) := hR.event s _

theorem FaultRel.logRecord (code cls sc unit detail : Nat) : R s (s.logRecord code cls sc unit detail) := by
  have hentry (f : Fld) (hf : f.reg = A.LDG_LOG_STAT) : R s ((((((s.set (F.LDG_LOG (4 * s.logNext)) (s.now % 2 ^ 32)).set
      (F.LDG_LOG (4 * s.logNext + 1)) (s.now / 2 ^ 32)).set (F.LDG_LOG (4 * s.logNext + 2))
      (s.fld F.LDG_LOG_STAT_SEQ * 2 ^ 24 + unit % 256 * 2 ^ 16 + scopeEnc sc * 2 ^ 10 + cls * 2 ^ 8 + code)).set
      (F.LDG_LOG (4 * s.logNext + 3)) detail).set F.LDG_LOG_STAT_SEQ (s.fld F.LDG_LOG_STAT_SEQ + 1)).inc f) :=
    hR.off (State.inc_fr (State.set_fr (State.set_fr (State.set_fr (State.set_fr (State.set_fr (Fr.refl _ _)))))) (by rw [hf]; decide))
  exact hR.ite (hR.trans (hentry F.LDG_LOG_STAT_LOST rfl) (hR.event _ 110)) (hentry F.LDG_LOG_STAT_COUNT rfl)

theorem FaultRel.raiseNow (code sc unit detail : Nat) : R s (s.raiseNow code sc unit detail) := by
  have hset : R s (s.setBit (stFld sc code) (code % 32) true) := hR.off (State.setBit_fr (Fr.refl _ _))
  have hlog (u : State) (again : Bool) : R u
      (if again then u.inc F.LDG_REPEAT_COUNT else u.logRecord code (faultClass code) sc unit detail) :=
    hR.ite (hR.off (State.inc_fr (Fr.refl _ _))) (hR.logRecord u _ _ _ _ _)
  have hevent (u : State) : R u (if faultClass code == 1 then u.event 108 else if faultClass code == 3 then u.event 111
      else if sc = 1 then u.event 0 else if sc = 2 then u.event 28 else u.event 109) := by
    split_ifs <;> exact hR.event u _
  exact hR.trans hset (hR.trans (hlog _ _) (hevent _))

theorem FaultRel.testEnd (k result detail : Nat) : R s (s.testEnd k result detail) := by
  have hset : R s ((((s.modStc (fun t => { t with outs := t.outs.filter (fun o => !(o.slot == k)) })).set
      (F.STC_TSTAT_STATE k) 0).set (F.STC_TSTAT_RESULT k) result).set (F.STC_TSTAT_DETAIL k) detail) :=
    hR.off (State.set_fr (State.set_fr (State.set_fr (State.modStc_fr (Fr.refl _ _)))))
  have hpass (u : State) : R u (if result = 1 then u.inc (F.STC_TSTAT_PASSES k) else u) :=
    hR.ite (hR.off (State.inc_fr (Fr.refl _ _))) (hR.refl u)
  have hscrub (u : State) : R u (if k = 1 then u.set F.STC_SCRUB_STAT_RUNNING 0 else u) :=
    hR.ite (hR.off (State.set_fr (Fr.refl _ _))) (hR.refl u)
  exact hR.trans (hR.trans hset (hR.trans (hpass _) (hscrub _)))
    (hR.trans (hR.event _ 104) (hR.off (State.testNext_fr (Fr.refl _ _))))

theorem FaultRel.faultNow (code sc unit detail : Nat) : R s (s.faultNow code sc unit detail) :=
  hR.trans (hR.trans (hR.raiseNow s code sc unit detail) (hR.off (State.markAxes_fr (Fr.refl _ _))))
    (hR.forEach (fun u k => hR.testEnd u k 4 0) _ _)

theorem FaultRel.grtAdd (k : Nat) : R s (s.grtAdd k) :=
  hR.ite (hR.trans (hR.ite (hR.faultNow s 48 4 k 0) (hR.off (State.hold_fr (Fr.refl _ _)))) (hR.event _ 103))
    (hR.off (State.inc_fr (Fr.refl _ _)))

theorem FaultRel.fault (code sc unit detail : Nat) : R s (s.fault code sc unit detail) :=
  hR.ite (hR.trans (hR.faultNow s code sc unit detail) (hR.forEach (fun u k => hR.grtAdd u k) _ _))
    (hR.off (State.hold_fr (Fr.refl _ _)))

theorem FaultRel.faultOn (code sc unit detail : Nat) : R s (s.faultOn code sc unit detail) :=
  hR.trans (hR.off (State.setCause_fr (Fr.refl _ _))) (hR.fault _ code sc unit detail)

theorem FaultRel.putSafe (x : Axis) (st rank origin : Nat) : R s (s.putSafe x st rank origin) := by
  have hgates : R s (s.safeGates x st rank origin) := hR.off ((s.safeGates_fr x st rank origin).mono (by decide))
  have hends (u : State) : R u (u.shortsEnd x st) :=
    hR.ite (hR.refl u) (hR.off (State.setCause_fr (State.setCause_fr (Fr.refl _ _))))
  have hcomps (u : State) (was : Bool) : R u (if was = false ∧ u.bridgeOn x = true then u.compsZero x else u) :=
    hR.ite (hR.off (State.compsZero_fr (Fr.refl _ _))) (hR.refl u)
  have hevent (u : State) (old : Nat) : R u (if old ≠ st ∧ st ≠ 0 then u.evx x 1 else u) := hR.ite (hR.evx u x 1) (hR.refl u)
  rw [State.putSafe_eq]
  exact hR.trans hgates (hR.trans (hends _) (hR.trans (hcomps _ _) (hevent _ _)))

theorem FaultRel.chooseSafe (x : Axis) (st rank origin : Nat) (retry : Bool) : R s (s.chooseSafe x st rank origin retry) := by
  have hjoin : R s (s.retryJoin x retry) := hR.off (State.retryJoin_fr (Fr.refl _ _))
  have hdue (f : Tr → Tr) : R s (s.modTr x f) := hR.off (State.modTr_fr (Fr.refl _ _))
  rw [State.chooseSafe]
  refine hR.ite (hR.ite (hR.off (State.ascDropped_fr (Fr.refl _ _))) (hR.refl s)) (hR.ite ?_ ?_)
  · split
    next => exact hdue _
    next => exact hR.ite (hdue _) hjoin
  · exact hR.ite (hR.trans hjoin (hR.putSafe _ x st rank origin)) hjoin

theorem FaultRel.axisFault (x : Axis) (code unit detail : Nat) : R s (s.axisFault x code unit detail) :=
  hR.trans (hR.fault s code (scAxis x) unit detail) (hR.chooseSafe _ x _ 6 3 false)

theorem FaultRel.fatal (code unit detail : Nat) : R s (s.fatal code unit detail) :=
  hR.trans (hR.trans (hR.fault s code 0 unit detail) (hR.chooseSafe _ .a _ 6 3 false)) (hR.chooseSafe _ .b _ 6 3 false)

theorem FaultRel.capEnd (x : Axis) (how : Nat) : R s (s.capEnd x how) :=
  hR.trans (hR.off (State.modCap_fr (State.set_fr (State.set_fr (State.set_fr (State.capSettle_fr (Fr.refl _ _))))))) (hR.evx _ x 15)

theorem FaultRel.busError (kind : Nat) (ch : Option Nat) (addr : Nat) : R s (s.busError kind ch addr) := by
  have hstop : R s (((((((((s.forEach (List.range 16) State.pglStop).modPgl (fun b => { b with wait := [] })).set
      F.PGL_STAT_STOPPED 1).wr A.PGL_ERR 0).set F.PGL_ERR_KIND kind).setB F.PGL_ERR_NOCH ch.isNone).set F.PGL_ERR_CH (ch.getD 0)).set
      F.PGL_ERR_ADDR addr)) :=
    hR.off (State.set_fr (State.set_fr (State.setB_fr (State.set_fr (State.wr_fr (State.set_fr (State.modPgl_fr
      (Fr.forEach (Fr.refl _ _) fun _ _ ht => State.pglStop_fr ht))))))))
  exact hR.trans (hR.trans (hR.trans hstop (hR.forEach (fun u x => hR.capEnd u x 3) s.capsOn _))
    (hR.faultOn _ 42 4 (ch.getD 0xFF) addr)) (hR.event _ 74)

/-! Check bits -/

theorem FaultRel.doubleFound (ch : Option Nat) (w : Nat) : R s (s.doubleFound ch w) := by
  have hcount : R s (((s.inc F.HB_ECC_DOUBLE).set F.HB_ECC_ADDR_KIND
      (if 0x200000 ≤ w then 0 else (s.inc F.HB_ECC_DOUBLE).regionKind w)).set F.HB_ECC_ADDR_ADDR w) :=
    hR.off (State.set_fr (State.set_fr (State.inc_fr (Fr.refl _ _))))
  have hfound (u : State) (code sc : Nat) : R u (u.eccFound w code sc) := hR.off (State.eccFound_fr (Fr.refl _ _))
  have haxis (u : State) (x : Axis) (sc unit : Nat) : R u ((u.eccFound w 18 sc).axisFault x 18 unit w) :=
    hR.trans (hfound u 18 sc) (hR.axisFault _ x 18 unit w)
  have hzero (u : State) : R u (u.wordZero w) :=
    hR.trans (hR.off (State.setBytes_fr (State.eccClear_fr (Fr.refl _ _)))) (hR.fault _ 38 0 0 w)
  have hstage (u : State) : R u (u.stageLost w) :=
    hR.ite (hR.trans (hR.off (State.set_fr (State.set_fr (State.set_fr (State.set_fr (Fr.refl _ _)))))) (hR.event _ 82)) (hR.refl u)
  rw [State.doubleFound]
  generalize State.set _ F.HB_ECC_ADDR_ADDR w = u at hcount ⊢
  refine hR.trans hcount ?_
  refine hR.ite (haxis _ _ _ _) (hR.ite (haxis _ _ _ _) (hR.ite ?_ (hR.ite (hR.busError _ 2 ch w)
    (hR.ite ?_ (hR.ite (hstage u) (hzero _))))))
  · exact hR.trans (hR.trans (hfound _ 18 3) (hR.fault _ 18 3 3 w)) (hR.bgStop _)
  · split
    next => exact hR.ite (haxis _ _ _ _) (hR.ite (haxis _ _ _ _) (hR.trans (hfound _ 35 0) (hR.fatal _ 35 6 w)))
    next => exact hzero _

theorem FaultRel.checkWord32 (ch : Option Nat) (w : Nat) : R s (s.checkWord32 ch w).2 := by
  rw [State.checkWord32]
  split_ifs
  · exact hR.doubleFound s ch w
  · exact hR.off (State.singleFound_fr (Fr.refl _ _))
  · exact hR.refl s

theorem FaultRel.checkLines (ch : Option Nat) (l : List Nat) : R s (s.checkLines ch l).2 := by
  induction l generalizing s with
  | nil => exact hR.refl s
  | cons w r ih =>
    have hword := hR.checkWord32 s ch w
    rw [State.checkLines]
    split
    next u hu => rw [hu] at hword; exact hR.trans hword (ih u)
    next => exact hword

theorem FaultRel.readMem (ch : Option Nat) (a n : Nat) : R s (s.readMem ch a n).2 := by
  have hlines := hR.checkLines s ch (linesOf a n)
  rw [State.readMem]
  split
  next u hu => rw [hu] at hlines; exact hlines
  next u hu => rw [hu] at hlines; exact hlines

theorem FaultRel.writeLine (ch : Option Nat) (a : Nat) (bs : List Byte) : R s (s.writeLine ch a bs).2 := by
  rw [State.writeLine]
  split
  next => exact hR.off (State.setBytes_fr (State.eccClear_fr (Fr.refl _ _)))
  next =>
    have hcheck := hR.checkWord32 s ch (lineOf a)
    split
    next u hu => rw [hu] at hcheck; exact hR.trans hcheck (hR.off (State.setBytes_fr (Fr.refl _ _)))
    next => exact hcheck

theorem FaultRel.writeMemN (fuel : Nat) (ch : Option Nat) (a : Nat) (bs : List Byte) : R s (s.writeMemN fuel ch a bs).2 := by
  induction fuel generalizing s a bs with
  | zero => exact hR.refl s
  | succ n ih =>
    cases bs with
    | nil => exact hR.refl s
    | cons b r =>
      have hline := hR.writeLine s ch a ((b :: r).take (32 - a % 32))
      rw [State.writeMemN]
      swap
      · exact List.cons_ne_nil b r
      split
      next u hu => rw [hu] at hline; exact hR.trans hline (ih u _ _)
      next => exact hline

theorem FaultRel.svcWrite (a : Nat) (ws : List Word) : R s (s.svcWrite a ws) := hR.writeMemN s _ none a _

end

/-! ### The tasks that run -/

/-- The task that runs on each kiosk. -/
def State.runs (s : State) (k : Nat) : Option Run := (s.kiosk k).run

theorem State.runs_of_kiosks {s t : State} (h : t.fab.kiosks = s.fab.kiosks) : t.runs = s.runs := by
  funext k
  rw [State.runs, State.kiosk, h]
  rfl

theorem State.runs_of_fr {m : Nat} {s t : State} (h : Fr m s t) (hm : m.testBit 10 = false := by decide) : t.runs = s.runs :=
  State.runs_of_kiosks (by rw [h.keep_fab hm])

theorem State.kiosk_modKiosk (s : State) (k j : Nat) (f : Kiosk → Kiosk) :
    (s.modKiosk k f).kiosk j = if k = j ∧ k < s.fab.kiosks.length then f (s.kiosk k) else s.kiosk j :=
  nth_setNth Kiosk.idle s.fab.kiosks k j (f (s.kiosk k))

/-- A change of a kiosk that leaves its task leaves every task. -/
theorem State.runs_modKiosk (s : State) (k : Nat) (f : Kiosk → Kiosk) (hf : ∀ q, (f q).run = q.run) : (s.modKiosk k f).runs = s.runs := by
  funext j
  rw [State.runs, State.kiosk_modKiosk]
  split
  next h => rw [hf, h.1]; rfl
  next => rfl

theorem State.runs_setTStat (s : State) (g t : Nat) (st : TStat) : (s.setTStat g t st).runs = s.runs := by
  rw [State.setTStat]
  split
  · exact State.runs_of_kiosks rfl
  · rfl

theorem State.runs_place (s : State) (q : QTask) : (s.place q).runs = s.runs := by
  rw [State.place]
  split
  next => exact State.runs_of_kiosks rfl
  next k _ =>
    have hput : ((s.modKiosk k (fun ki => { ki with queue := ki.queue ++ [q], resting := false })).setTStat q.graph q.task .queued).runs =
        s.runs := (State.runs_setTStat ..).trans (s.runs_modKiosk k _ fun _ => rfl)
    have hwake (u : State) (j : Nat) :
        (if u.role j == u.role k then u.modKiosk j (fun ki => { ki with resting := false }) else u).runs = u.runs :=
      State.ite_both State.runs (u.runs_modKiosk j _ fun _ => rfl) rfl
    dsimp only
    split
    · exact State.ite_both State.runs hput ((State.forEach_keeps State.runs _ hwake _ _).trans hput)
    · exact hput

theorem State.runs_placeReady (s : State) : s.placeReady.runs = s.runs :=
  (State.forEach_keeps State.runs _ State.runs_place s.fab.ready _).trans (State.runs_of_kiosks rfl)

theorem State.runs_readyTasks (s : State) (g : Nat) : (s.readyTasks g).runs = s.runs := by
  have hone (dl : Option Nat) (u : State) (t : Nat) : (State.readyOne g dl u t).runs = u.runs :=
    (State.runs_of_kiosks rfl).trans (u.runs_setTStat g t .ready)
  cases hd : s.graphD g with
  | none => rw [State.readyTasks, hd]
  | some d =>
    cases hi : s.instOf g with
    | none => rw [State.readyTasks, hd, hi]
    | some i => rw [State.readyTasks_some hd hi]; exact State.forEach_keeps State.runs _ (hone _) _ s

theorem State.runs_releaseAt (s : State) (r : Trigger) : (s.releaseAt r).runs = s.runs := by
  have hinc (f : Fld) : (s.inc f).runs = s.runs := State.runs_of_kiosks rfl
  rw [State.releaseAt]
  split
  next => rfl
  next d _ =>
    refine State.ite_both State.runs rfl ?_
    split
    next => exact State.ite_both State.runs (hinc _) (State.ite_both State.runs (hinc _) rfl)
    next => exact (State.runs_placeReady _).trans ((State.runs_readyTasks _ r.graph).trans (State.runs_of_kiosks rfl))

/-- No fault starts a task or ends one, nor does a memory error. -/
theorem faultRel_runs : FaultRel (fun s t => t.runs = s.runs) where
  refl _ := rfl
  trans h h' := h'.trans h
  off h := State.runs_of_fr h
  release := State.runs_releaseAt
  bgStop _ := State.runs_of_kiosks rfl

end Sys2Proof.Machine

namespace Sys2Proof.Machine

set_option Elab.async false

/-! ### The task that goes before every other (R148) -/

theorem QTask.before_asymm {p q : QTask} (h : q.before p = true) : p.before q = false := by
  revert h
  unfold QTask.before
  cases p.dl <;> cases q.dl <;> simp <;> omega

/-- One step of the search for the earliest task. -/
def earlier (best : Option QTask) (q : QTask) : Option QTask :=
  match best with
  | none => some q
  | some b => if q.before b then some q else best

theorem earliest_eq (l : List QTask) : earliest l = l.foldl earlier none := rfl

/-- Once found, the first of a queue is never replaced. -/
theorem foldl_earlier_first {q : QTask} (l : List QTask) (h : ∀ p ∈ l, p ≠ q → q.before p = true) :
    l.foldl earlier (some q) = some q := by
  induction l with
  | nil => rfl
  | cons p l ih =>
    have hstep : earlier (some q) p = some q := by
      by_cases hp : p = q
      · subst hp; simp [earlier]
      · simp [earlier, QTask.before_asymm (h p (by simp) hp)]
    rw [List.foldl_cons, hstep]
    exact ih fun p' hp' => h p' (by simp [hp'])

/-- The search finds the first of a queue from any task that it goes before. -/
theorem foldl_earlier_mem {q : QTask} (l : List QTask) (best : Option QTask) (hq : q ∈ l)
    (hbest : ∀ b, best = some b → b ≠ q → q.before b = true) (h : ∀ p ∈ l, p ≠ q → q.before p = true) :
    l.foldl earlier best = some q := by
  induction l generalizing best with
  | nil => exact absurd hq (by simp)
  | cons p l ih =>
    have hrest : ∀ p' ∈ l, p' ≠ q → q.before p' = true := fun p' hp' => h p' (by simp [hp'])
    by_cases hp : p = q
    · subst hp
      have hstep : earlier best p = some p := by
        cases hb : best with
        | none => rfl
        | some b =>
          by_cases hbp : b = p
          · subst hbp; simp [earlier]
          · simp [earlier, hbest b hb hbp]
      rw [List.foldl_cons, hstep]
      exact foldl_earlier_first l hrest
    · refine ih (earlier best p) (by simpa [Ne.symm hp] using hq) (fun b hb hbq => ?_) hrest
      have hmem : b = p ∨ best = some b := by
        revert hb
        unfold earlier
        split
        · intro hb; exact Or.inl (Option.some.inj hb).symm
        · split
          · intro hb; exact Or.inl (Option.some.inj hb).symm
          · exact Or.inr
      rcases hmem with rfl | hb'
      · exact h b (by simp) hp
      · exact hbest b hb' hbq

theorem earliest_of_first {q : QTask} {l : List QTask} (hq : q ∈ l) (h : ∀ p ∈ l, p ≠ q → q.before p = true) : earliest l = some q :=
  foldl_earlier_mem l none hq (fun _ hb => absurd hb (by simp)) h

/-! ### A task starts (R136, R143) -/

theorem State.started_startOn (s : State) (k : Nat) (q : QTask) (hk : k < s.fab.kiosks.length) : (s.startOn k q).started k q := by
  have hruns := congrFun (State.runs_setTStat (s.modKiosk k (fun ki => { ki with run := some {
    graph := q.graph, task := q.task, scratch := List.replicate 16 0, numeric := false, steps := 4, stalled := none,
    lock := none, ops := 0, est := 0, rel := q.rel } })) q.graph q.task .running) k
  refine hruns.trans ?_
  rw [State.runs, State.kiosk_modKiosk, if_pos ⟨rfl, hk⟩]

theorem State.started_of_runs {s t : State} {k : Nat} {q : QTask} (h : s.started k q) (ht : t.runs = s.runs) : t.started k q :=
  (congrFun ht k).trans h

theorem setNth_length {α : Type} (l : List α) (n : Nat) (v : α) : (setNth l n v).length = l.length := by
  rw [setNth_eq_set, List.length_set]

theorem State.length_unqueue (s : State) (v : Nat) (q : QTask) : (s.unqueue v q).fab.kiosks.length = s.fab.kiosks.length :=
  setNth_length ..

theorem State.lt_of_queue_ne {s : State} {k : Nat} (h : (s.kiosk k).queue ≠ []) : k < s.fab.kiosks.length := by
  by_contra hk
  exact h (congrArg Kiosk.queue (nth_of_le Kiosk.idle s.fab.kiosks k (Nat.le_of_not_lt hk)))

/-! ### Dispatch and stealing change the fabric alone -/

theorem State.fld_startOn (s : State) (v k : Nat) (q : QTask) (f : Fld) : ((s.unqueue v q).startOn k q).fld f = s.fld f := by
  refine State.fld_of_regs (Fr.keep_regs (m := 0x400) (State.startOn_fr (State.unqueue_fr (Fr.refl _ _)))) f

theorem State.fld_placeReady (s : State) (f : Fld) : s.placeReady.fld f = s.fld f :=
  State.fld_of_regs (Fr.keep_regs (m := 0x400) (State.placeReady_fr (Fr.refl _ _))) f

theorem exec_taskDispatch {s : State} {k : Nat} {q : QTask} (hrun : s.isRunning = true) (hfree : s.kioskFree k = true)
    (hq : earliest (s.kiosk k).queue = some q) :
    exec (.taskDispatch k) s = .next ((s.unqueue k q).startOn k q).placeReady := by
  refine congrArg Host.Outcome.next ((State.running_of hrun).trans ?_)
  simp only [if_pos hfree, hq]

/-! ### One rotation (R149 to R151) -/

theorem State.loot_inc (s : State) (f : Fld) (v : Nat) : (s.inc f).loot v = s.loot v := rfl

/-- The kiosks of a rotation that yield no task are passed by, each race lost counted. -/
theorem State.rotate_append (k : Nat) (lost us vs : List Nat) (s : State) (h : ∀ u ∈ us, s.loot u = none ∨ u ∈ lost) :
    s.rotate k lost (us ++ vs) =
      (s.forEach (us.filter (fun u => (s.loot u).isSome)) (fun s _ => s.inc F.HB_STEAL_LOST)).rotate k lost vs := by
  induction us generalizing s with
  | nil => rfl
  | cons u us ih =>
    have hus : ∀ w ∈ us, s.loot w = none ∨ w ∈ lost := fun w hw => h w (by simp [hw])
    rw [List.cons_append, State.rotate]
    cases hu : s.loot u with
    | none =>
      rw [List.filter_cons_of_neg (by simp [hu])]
      exact ih s hus
    | some q =>
      have hlost : u ∈ lost := (h u (by simp)).resolve_left (by simp [hu])
      rw [List.filter_cons_of_pos (by simp [hu])]
      simp only [List.contains_iff_mem, if_pos hlost]
      exact ih (s.inc F.HB_STEAL_LOST) hus

theorem State.fab_forEach_inc (f : Fld) (l : List Nat) (s : State) : (s.forEach l (fun s _ => s.inc f)).fab = s.fab :=
  State.forEach_keeps (·.fab) (fun s _ => s.inc f) (fun _ _ => rfl) l s

theorem State.img_forEach_inc (f : Fld) (l : List Nat) (s : State) : (s.forEach l (fun s _ => s.inc f)).img = s.img :=
  State.forEach_keeps (·.img) (fun s _ => s.inc f) (fun _ _ => rfl) l s

/-- Counting up by each of a list stops at the top of the field. -/
theorem State.fld_forEach_inc (f : Fld) (hf : f.ok = true) (l : List Nat) (s : State) (h : s.fld f ≤ f.top) :
    (s.forEach l (fun s _ => s.inc f)).fld f = min f.top (s.fld f + l.length) := by
  induction l generalizing s with
  | nil => exact (Nat.min_eq_right h).symm
  | cons a l ih =>
    have hstep : (s.inc f).fld f = min f.top (s.fld f + 1) := s.fld_inc_same f hf
    refine (ih (s.inc f) (by omega)).trans ?_
    rw [hstep, List.length_cons]
    omega

theorem State.fld_forEach_inc_apart {f g : Fld} (hf : f.ok = true) (hg : f.apart g = true) (l : List Nat) (s : State) :
    (s.forEach l (fun s _ => s.inc f)).fld g = s.fld g :=
  State.forEach_keeps (·.fld g) _ (fun u _ => u.fld_inc_apart hf hg) l s

theorem exec_stealAttempt {s : State} {k : Nat} {lost : List Nat} {ki : Kiosk} (hrun : s.isRunning = true) (hfree : s.kioskFree k = true)
    (hki : s.kiosk k = ki) (hq : ki.queue = []) :
    exec (.stealAttempt k lost) s = .next (if ki.resting = false then s.rotate k lost (s.victims k) else s) := by
  refine congrArg Host.Outcome.next ((State.running_of hrun).trans ?_)
  simp only [hki, hfree, hq, true_and]

theorem State.kiosk_of_getElem {s : State} {k : Nat} {ki : Kiosk} (h : s.fab.kiosks[k]? = some ki) : s.kiosk k = ki := by
  have hnth : ∀ (l : List Kiosk) (n : Nat), l[n]? = some ki → nth Kiosk.idle l n = ki := by
    intro l
    induction l with
    | nil => simp
    | cons a l ih => intro n; cases n with
      | zero => simp [nth]
      | succ n => simpa [nth] using ih n
  exact hnth _ k h

/-- The task of the first kiosk that yields one starts, and is counted. -/
theorem State.rotate_takes {s : State} {k v : Nat} {lost us vs : List Nat} {q : QTask} (hk : k < s.fab.kiosks.length)
    (hus : ∀ u ∈ us, s.loot u = none ∨ u ∈ lost) (hv : s.loot v = some q) (hlost : v ∉ lost) :
    (s.rotate k lost (us ++ v :: vs)).started k q ∧
    (s.rotate k lost (us ++ v :: vs)).fld F.HB_STEAL_TAKEN = min 65535 (s.fld F.HB_STEAL_TAKEN + 1) ∧
    (s.rotate k lost (us ++ v :: vs)).fld F.HB_STEAL_LOST =
      min 65535 (s.fld F.HB_STEAL_LOST + (us.filter (fun u => (s.loot u).isSome)).length) := by
  have htaken := State.fld_forEach_inc_apart (f := F.HB_STEAL_LOST) (g := F.HB_STEAL_TAKEN) rfl rfl
    (us.filter (fun u => (s.loot u).isSome)) s
  have hcount := State.fld_forEach_inc F.HB_STEAL_LOST rfl (us.filter (fun u => (s.loot u).isSome)) s
    (Nat.le_of_lt_succ (fieldOf_lt F.HB_STEAL_LOST _))
  have hfab := State.fab_forEach_inc F.HB_STEAL_LOST (us.filter (fun u => (s.loot u).isSome)) s
  have himg := State.img_forEach_inc F.HB_STEAL_LOST (us.filter (fun u => (s.loot u).isSome)) s
  rw [State.rotate_append k lost us (v :: vs) s hus]
  generalize s.forEach (us.filter (fun u => (s.loot u).isSome)) (fun s _ => s.inc F.HB_STEAL_LOST) = m at htaken hcount hfab himg
  have hloot : m.loot v = some q := by
    rw [← hv]
    simp only [State.loot, State.kiosk, State.taskD, State.graphD, hfab, himg]
  rw [State.rotate, hloot]
  simp only [List.contains_iff_mem, if_neg hlost]
  refine ⟨?_, ?_, ?_⟩
  · refine State.started_of_runs (s := (m.unqueue v q).startOn k q) (State.started_startOn _ k q ?_) ((State.runs_placeReady _).trans
      (State.runs_of_kiosks rfl))
    rw [State.length_unqueue, hfab]
    exact hk
  · rw [State.fld_placeReady, State.fld_inc_same _ _ rfl, State.fld_startOn, htaken]
    rfl
  · rw [State.fld_placeReady, State.fld_inc_apart _ rfl rfl, State.fld_startOn, hcount]
    rfl

/-- A rotation without a task makes the kiosk rest. -/
theorem State.rotate_rests {s : State} {k : Nat} {lost us : List Nat} (hus : ∀ u ∈ us, s.loot u = none ∨ u ∈ lost)
    (hk : k < s.fab.kiosks.length) :
    (s.rotate k lost us).kiosk k = { s.kiosk k with resting := true } ∧
    (s.rotate k lost us).fld F.HB_STEAL_TAKEN = s.fld F.HB_STEAL_TAKEN := by
  have htaken := State.fld_forEach_inc_apart (f := F.HB_STEAL_LOST) (g := F.HB_STEAL_TAKEN) rfl rfl
    (us.filter (fun u => (s.loot u).isSome)) s
  have hfab := State.fab_forEach_inc F.HB_STEAL_LOST (us.filter (fun u => (s.loot u).isSome)) s
  have hrot := State.rotate_append k lost us [] s hus
  rw [List.append_nil] at hrot
  rw [hrot, State.rotate, State.kiosk_modKiosk, hfab, if_pos ⟨rfl, hk⟩]
  refine ⟨?_, htaken⟩
  simp only [State.kiosk, hfab]

/-- Settles O27: the search of a queue finds the task that goes before every other, and a rotation passes the kiosks that yield none. -/
theorem kiosksTakeTheEarliestDeadlineAndSteal : Obligations.KiosksTakeTheEarliestDeadlineAndSteal := by
  intro s k hrun hfree
  refine ⟨fun q hq hfirst => ?_, fun ki lost hki hqueue => ?_⟩
  · refine ⟨_, exec_taskDispatch hrun hfree (earliest_of_first hq hfirst), ?_⟩
    refine State.started_of_runs (State.started_startOn _ k q ?_) (State.runs_placeReady _)
    rw [State.length_unqueue]
    exact State.lt_of_queue_ne (List.ne_nil_of_mem hq)
  · have hkiosk := State.kiosk_of_getElem hki
    have hlen : k < s.fab.kiosks.length := (List.getElem?_eq_some_iff.1 hki).1
    have hexec := exec_stealAttempt (lost := lost) hrun hfree hkiosk hqueue
    refine ⟨fun hrest => ?_, fun hrest => ⟨fun us v vs q hvs hus hv hlost => ?_, fun hnone => ?_⟩⟩
    · rw [hexec, if_neg (by simp [hrest])]
    · rw [if_pos hrest, hvs] at hexec
      exact ⟨_, hexec, State.rotate_takes hlen hus hv hlost⟩
    · rw [if_pos hrest] at hexec
      obtain ⟨hresting, htaken⟩ := State.rotate_rests hnone hlen
      exact ⟨_, hexec, by rw [hresting, hkiosk], htaken⟩

end Sys2Proof.Machine

namespace Sys2Proof.Machine

set_option Elab.async false

/-! ### Changing the task that runs -/

theorem setNth_nth {α : Type} (d : α) (l : List α) (n : Nat) : setNth l n (nth d l n) = l := by
  induction l generalizing n with
  | nil => rfl
  | cons a r ih =>
    cases n with
    | zero => rfl
    | succ n => exact congrArg (a :: ·) (ih n)

theorem setNth_setNth {α : Type} (l : List α) (n : Nat) (v w : α) : setNth (setNth l n v) n w = setNth l n w := by
  simp only [setNth_eq_set, List.set_set]

theorem setNth_of_le {α : Type} (l : List α) (n : Nat) (v : α) (h : l.length ≤ n) : setNth l n v = l := by
  rw [setNth_eq_set, List.set_eq_of_length_le h]

/-- A kiosk outside the Bandstand's is idle, and stays so. -/
theorem State.modKiosk_of_le (s : State) (k : Nat) (f : Kiosk → Kiosk) (h : s.fab.kiosks.length ≤ k) : s.modKiosk k f = s := by
  rw [State.modKiosk, State.modFab, setNth_of_le _ _ _ h]

theorem State.modKiosk_id (s : State) (k : Nat) : s.modKiosk k (fun q => q) = s := by
  rw [State.modKiosk, State.modFab, State.kiosk, setNth_nth]

theorem State.modKiosk_modKiosk (s : State) (k : Nat) (f g : Kiosk → Kiosk) :
    (s.modKiosk k f).modKiosk k g = s.modKiosk k (fun q => g (f q)) := by
  by_cases hk : k < s.fab.kiosks.length
  · have hat : (s.modKiosk k f).kiosk k = f (s.kiosk k) := by rw [State.kiosk_modKiosk, if_pos ⟨rfl, hk⟩]
    rw [State.modKiosk, hat]
    simp only [State.modKiosk, State.modFab, setNth_setNth]
  · have hle := Nat.le_of_not_lt hk
    rw [State.modKiosk_of_le _ _ _ hle, State.modKiosk_of_le _ _ _ hle, State.modKiosk_of_le _ _ _ hle]

theorem State.modRun_id (s : State) (k : Nat) : s.modRun k (fun r => r) = s := by
  refine Eq.trans ?_ (s.modKiosk_id k)
  rw [State.modRun]
  congr 1
  funext q
  rw [Option.map_id']

theorem State.modRun_modRun (s : State) (k : Nat) (f g : Run → Run) : (s.modRun k f).modRun k g = s.modRun k (fun r => g (f r)) := by
  refine (s.modKiosk_modKiosk k _ _).trans ?_
  rw [State.modRun]
  congr 1
  funext q
  dsimp only
  rw [Option.map_map]
  rfl

theorem State.runs_modRun (s : State) (k j : Nat) (f : Run → Run) :
    (s.modRun k f).runs j = if j = k then (s.runs k).map f else s.runs j := by
  rw [State.runs, State.modRun, State.kiosk_modKiosk]
  by_cases hj : j = k
  · subst hj
    by_cases hk : j < s.fab.kiosks.length
    · rw [if_pos ⟨rfl, hk⟩, if_pos rfl]
      rfl
    · have hidle : s.kiosk j = Kiosk.idle := nth_of_le Kiosk.idle _ _ (Nat.le_of_not_lt hk)
      rw [if_neg (fun h => hk h.2), if_pos rfl, State.runs, hidle]
      rfl
  · rw [if_neg (fun h => hj h.1.symm), if_neg hj]
    rfl

/-! ### An abandoned task is over (R155) -/

/-- A kiosk that runs no task is given none by the end of another's: a freed lock goes to a task that waits for it. -/
theorem State.runs_freeLock_none (s : State) (k l : Nat) (h : s.runs k = none) : (s.freeLock l).runs k = none := by
  have hput : (s.putLock l none).runs k = none := (congrFun (State.runs_of_kiosks rfl) k).trans h
  rw [State.freeLock]
  extract_lets t w
  split
  · exact hput
  · rw [State.runs_modRun]
    split
    next hk =>
      subst hk
      exact Option.map_eq_none_iff.2 hput
    next => exact hput

theorem State.runs_numericEnd (s : State) (r : Run) : (s.numericEnd r).runs = s.runs := by
  have hnum (l : List (Nat × Nat)) : (s.modFab (fun b => { b with numPrev := l })).runs = s.runs := State.runs_of_kiosks rfl
  rw [State.numericEnd]
  split
  · split
    · exact (faultRel_runs.axisFault _ .a 16 0 _).trans (hnum _)
    · exact (faultRel_runs.axisFault _ .b 16 0 _).trans (hnum _)
    · exact hnum _
  · exact hnum _

theorem State.runs_endInst (s : State) (g : Nat) : (s.endInst g).runs = s.runs := by
  have hended (u : State) (i : Inst) : (u.graphEnded g i).runs = u.runs := State.runs_of_fr (State.graphEnded_fr (κ := 0x18000) (Fr.refl _ _))
  rw [State.endInst]
  split
  · exact State.ite_both State.runs ((hended _ _).trans (State.runs_of_kiosks rfl)) rfl
  · rfl

theorem State.runs_leave (s : State) (k : Nat) (r : Run) (st : TStat) : (s.leave k r st).runs k = none := by
  have hout : (s.modKiosk k (fun q => { q with run := none })).runs k = none := by
    rw [State.runs, State.kiosk_modKiosk]
    split
    · rfl
    next hk => rw [State.kiosk, nth_of_le Kiosk.idle _ _ (by simpa using hk)]; rfl
  have hlocks (l : List Nat) (u : State) (hu : u.runs k = none) : (u.forEach l State.freeLock).runs k = none := by
    induction l generalizing u with
    | nil => exact hu
    | cons a l ih => exact ih (u.freeLock a) (u.runs_freeLock_none k a hu)
  refine (congrFun (State.runs_numericEnd _ r) k).trans (hlocks _ _ ?_)
  exact (congrFun (State.runs_setTStat ..) k).trans hout

theorem State.runs_abandonQuiet (s : State) (k detail : Nat) (r : Run) : (s.abandonQuiet k detail r).runs k = none :=
  (congrFun (State.runs_endInst _ _) k).trans (State.runs_leave _ k r .gone)

theorem State.runs_abandon (s : State) (k detail : Nat) : (s.abandon k detail).runs k = none := by
  rw [State.abandon]
  split
  next hnone => exact hnone
  next r hr =>
    dsimp only
    split
    · exact (congrFun (faultRel_runs.axisFault _ .a 17 k _) k).trans (s.runs_abandonQuiet k detail r)
    · exact (congrFun (faultRel_runs.axisFault _ .b 17 k _) k).trans (s.runs_abandonQuiet k detail r)
    · exact (congrFun (faultRel_runs.fault _ 17 3 k _) k).trans (s.runs_abandonQuiet k detail r)

/-! ### An operator whose inputs are read -/

section
variable {s u : State} {k op : Nat} {r : Run} {ws : List Word} {ins : List (Word × Nat)} {vs : List (List Word)}

/-- The operator's step, once what it touches of the window is in the cache. -/
theorem State.opReads.operator (h : s.opReads u k r op ws ins vs) (f : State → Run → State) :
    s.operator k op ws f = f ((s.touchWords (s.fetchWords r op ws)).2.opBegin k op ws (s.fetchWords r op ws).length) r := by
  obtain ⟨hrun, hof, hfit, hroam, htouch, -⟩ := h
  rw [State.operator, State.running_of hrun]
  simp only [hof, hfit, hroam, if_true, if_false, Bool.false_eq_true]
  generalize s.touchWords (s.fetchWords r op ws) = p at htouch
  obtain ⟨a, t⟩ := p
  subst htouch
  rfl

/-- It goes on with the words read. -/
theorem State.opReads.reading (h : s.opReads u k r op ws ins vs) (f : Run → State → List (List Word) → State) :
    s.operator k op ws (fun s r => s.reading k r ins (f r)) = f r u vs := by
  rw [h.operator, State.reading]
  obtain ⟨-, -, -, -, -, hread⟩ := h
  rw [hread]

theorem State.opReads.img (h : s.opReads u k r op ws ins vs) : u.img = s.img := by
  obtain ⟨-, -, -, -, -, hread⟩ := h
  have hfr : Fr 0xc3c03000008004bc1c0004600000000020400000000000000000000000001a4180aa27f5e0 s (((s.touchWords (s.fetchWords r op ws)).2.opBegin k
      op ws (s.fetchWords r op ws).length).readAll k r ins).2 := State.readAll_fr (State.opBegin_fr (State.touchWords_fr (Fr.refl _ _)))
  rw [hread] at hfr
  exact hfr.keep_img

theorem State.opReads.graphAxis (h : s.opReads u k r op ws ins vs) (g : Nat) : u.graphAxis g = s.graphAxis g := by
  simp only [State.graphAxis, State.graphOwner, State.graphD, h.img]

end

/-! ### Results written -/

theorem State.writing_cons (s : State) (k g : Nat) (e : Word × Nat × List Word) (l : List (Word × Nat × List Word)) (f : State → State) :
    s.writing k g (e :: l) f = if (s.opWrite k g e.1 e.2.1 e.2.2).1 = true then (s.opWrite k g e.1 e.2.1 e.2.2).2.writing k g l f
      else (s.opWrite k g e.1 e.2.1 e.2.2).2.abandon k 5 := by
  rw [State.writing]
  generalize s.opWrite k g e.1 e.2.1 e.2.2 = p
  obtain ⟨b, t⟩ := p
  cases b <;> rfl

theorem State.outs_cons (s : State) (k g : Nat) (e : Word × Nat × List Word) (l : List (Word × Nat × List Word)) :
    s.outs k g (e :: l) = if (s.opWrite k g e.1 e.2.1 e.2.2).1 = true then (s.opWrite k g e.1 e.2.1 e.2.2).2.outs k g l else none := by
  rw [State.outs]
  generalize s.opWrite k g e.1 e.2.1 e.2.2 = p
  obtain ⟨b, t⟩ := p
  cases b <;> rfl

theorem State.writing_of_outs {s m : State} {k g : Nat} {l : List (Word × Nat × List Word)} (h : s.outs k g l = some m)
    (f : State → State) : s.writing k g l f = f m := by
  induction l generalizing s with
  | nil => exact congrArg f (Option.some.inj h)
  | cons e l ih =>
    rw [State.outs_cons] at h
    rw [State.writing_cons]
    split
    next hok => rw [if_pos hok] at h; exact ih h
    next hbad => rw [if_neg hbad] at h; exact absurd h (by simp)

theorem State.runs_writing_of_outs {s : State} {k g : Nat} {l : List (Word × Nat × List Word)} (h : s.outs k g l = none)
    (f : State → State) : (s.writing k g l f).runs k = none := by
  induction l generalizing s with
  | nil => exact absurd h (by simp [State.outs])
  | cons e l ih =>
    rw [State.outs_cons] at h
    rw [State.writing_cons]
    split
    next hok => rw [if_pos hok] at h; exact ih h
    next => exact State.runs_abandon ..

/-- A result of a SCRATCH operand lands in the task's own words. -/
theorem State.opWrite_scratch (s : State) (k g : Nat) {w : Word} (o : Nat) (vs : List Word) (h : opSpace w = 0) :
    s.opWrite k g w o vs = (true, s.modRun k (fun q => { q with scratch := putScratch q.scratch (opAddr w / 4 + o) vs })) := by
  have haddr : (opAddr w + 4 * o) / 4 = opAddr w / 4 + o := by omega
  rw [State.opWrite]
  simp only [h, haddr]

theorem State.writing_scratch (s : State) (k g : Nat) (l : List (Word × Nat × List Word)) (h : ∀ e ∈ l, opSpace e.1 = 0) :
    s.writing k g l id = s.modRun k (fun q => { q with scratch := scratchAfter q.scratch l }) := by
  induction l generalizing s with
  | nil => exact (s.modRun_id k).symm
  | cons e l ih =>
    rw [State.writing_cons, State.opWrite_scratch s k g _ _ (h e (by simp)), if_pos rfl, ih _ (fun e he => h e (by simp [he])),
      State.modRun_modRun]
    rfl

/-- Writing results meets `puts`. -/
theorem State.writing_puts (s : State) (k g : Nat) (l : List (Word × Nat × List Word)) : s.puts k g l (s.writing k g l id) :=
  ⟨fun _ h => State.writing_of_outs h id, fun h => State.runs_writing_of_outs h id, s.writing_scratch k g l⟩

/-- Writing results and then records of the axis meets `putsRun`, where the records leave the tasks that run. -/
theorem State.writing_putsRun (s : State) (k g : Nat) (l : List (Word × Nat × List Word)) (f : State → State)
    (hf : ∀ u, (f u).runs = u.runs) : s.putsRun k g l (s.writing k g l f) :=
  ⟨fun m h => (congrArg (fun u => u.runs k) (State.writing_of_outs h f)).trans (congrFun (hf m) k),
    fun h => State.runs_writing_of_outs h f⟩

theorem State.puts_nil (s : State) (k g : Nat) : s.puts k g [] s := s.writing_puts k g []

end Sys2Proof.Machine

namespace Sys2Proof.Machine

set_option Elab.async false

/-! ### Bit flips and the start of an operator do not see one another (R133, R600) -/

/-- The words with a single-bit and a double-bit error after one more flip. -/
def struck (p : List Nat × List Nat) (e : Nat × Bool) : List Nat × List Nat :=
  if e.2 || p.1.contains (lineOf e.1) || p.2.contains (lineOf e.1) then
    (p.1.filter (fun a => !(a == lineOf e.1)), lineOf e.1 :: p.2.filter (fun a => !(a == lineOf e.1)))
  else (lineOf e.1 :: p.1, p.2)

theorem State.upset_eq (s : State) (e : Nat × Bool) :
    s.upset e = s.setEcc (struck (s.ecc1, s.ecc2) e).1 (struck (s.ecc1, s.ecc2) e).2 := by
  simp only [State.upset, struck]
  split <;> rfl

theorem State.upsets_eq (s : State) (l : List (Nat × Bool)) :
    s.upsets l = s.setEcc (l.foldl struck (s.ecc1, s.ecc2)).1 (l.foldl struck (s.ecc1, s.ecc2)).2 := by
  induction l generalizing s with
  | nil => rfl
  | cons e l ih =>
    refine (ih (s.upset e)).trans ?_
    rw [State.upset_eq]
    rfl

/-- What sees neither the check bits nor changes them goes on as before, whatever bit flips strike. -/
theorem State.upsets_comm {s t : State} {fl : List (Nat × Bool)} {f : State → State} (ht : t = f s)
    (hf : ∀ a b, f (s.setEcc a b) = t.setEcc a b) (h1 : t.ecc1 = s.ecc1) (h2 : t.ecc2 = s.ecc2) : f (s.upsets fl) = (f s).upsets fl := by
  rw [State.upsets_eq, hf, ← ht, State.upsets_eq, h1, h2]

theorem State.upsets_touchLine (s : State) (fl : List (Nat × Bool)) (a : Nat) :
    (s.upsets fl).touchLine a = (s.touchLine a).upsets fl := by
  have hfr : Fr 0x8000000 s (s.touchLine a) := State.touchLine_fr (Fr.refl _ _)
  refine State.upsets_comm (f := (State.touchLine · a)) rfl (fun _ _ => ?_) hfr.keep_ecc1 hfr.keep_ecc2
  simp only [State.touchLine, State.setEcc]
  split <;> rfl

theorem State.upsets_opBegin (s : State) (fl : List (Nat × Bool)) (k op : Nat) (ws : List Word) (n : Nat) :
    (s.upsets fl).opBegin k op ws n = (s.opBegin k op ws n).upsets fl :=
  State.upsets_comm (f := (State.opBegin · k op ws n)) rfl (fun _ _ => rfl) rfl rfl

theorem State.upsets_touchWords (s : State) (fl : List (Nat × Bool)) (l : List Nat) :
    (s.upsets fl).touchWords l = ((s.touchWords l).1, (s.touchWords l).2.upsets fl) := by
  induction l generalizing s with
  | nil => rfl
  | cons a l ih =>
    have hcached : (s.upsets fl).cached a = s.cached a := by rw [State.upsets_eq]; rfl
    rw [State.touchWords, State.touchWords, hcached]
    split
    · rw [State.upsets_touchLine, ih]
    · rfl

/-- An operator that bit flips strike after it began reads what it reads of the state that they struck before. -/
theorem State.opReads.operator_upsets {s u : State} {k op : Nat} {r : Run} {ws : List Word} {ins : List (Word × Nat)}
    {vs : List (List Word)} {fl : List (Nat × Bool)} (h : (s.upsets fl).opReads u k r op ws ins vs)
    (f : Run → State → List (List Word) → State) :
    s.operator k op ws (fun s r => (s.upsets fl).reading k r ins (f r)) = f r u vs := by
  have hview (p : State → Prop) (hp : ∀ a b, p (s.setEcc a b) → p s) (h : p (s.upsets fl)) : p s := hp _ _ (by rwa [State.upsets_eq] at h)
  obtain ⟨hrun, hof, hfit, hroam, htouch, hread⟩ := h
  have hfetch : (s.upsets fl).fetchWords r op ws = s.fetchWords r op ws := by rw [State.upsets_eq]; rfl
  rw [hfetch, State.upsets_touchWords] at htouch hread
  rw [State.upsets_opBegin] at hread
  have hreads : s.opReads ((s.touchWords (s.fetchWords r op ws)).2.opBegin k op ws (s.fetchWords r op ws).length) k r op ws [] [] :=
    ⟨hview (fun s => s.isRunning = true) (fun _ _ h => h) hrun, hview (fun s => s.runOf k = some r) (fun _ _ h => h) hof,
      hview (fun s => s.operandsFit r op ws = true) (fun _ _ h => h) hfit,
      hview (fun s => s.roamLocal r ws = false) (fun _ _ h => h) hroam, htouch, rfl⟩
  rw [hreads.operator, State.reading, hread]

/-! ### One result of one-word inputs -/

theorem State.arith_gives1 {s : State} {c : Instr} {k op : Nat} {d : Word} {ins : List Word} {f : (Nat → Word) → Word}
    (hopr : Instr.opr c = some (k, op, d :: ins)) (hexec : exec c s = .next (s.arith k op d ins f)) : s.gives1 c d ins f := by
  intro k' op' ws r u vs hopr' hreads
  obtain ⟨rfl, rfl, rfl⟩ : k' = k ∧ op' = op ∧ ws = d :: ins := by simpa [hopr, eq_comm] using hopr'
  refine ⟨_, hexec, ?_⟩
  have h := hreads.reading (fun r s vs => s.writing k' r.graph [(d, 0, [f (fun i => nth 0 (nth [] vs i) 0)])] id)
  rw [State.arith, h]
  exact State.writing_puts ..

theorem exec_mov_gives {s u : State} {k : Nat} {d a v : Word} {fl : List (Nat × Bool)} {r : Run}
    (h : (s.upsets fl).opReads u k r 0x01 [d, a] [(a, 1)] [[v]]) :
    ∃ t, exec (.mov k fl d a) s = .next t ∧ u.puts k r.graph [(d, 0, [v])] t :=
  ⟨_, congrArg Host.Outcome.next (h.operator_upsets (fun r s vs => s.writing k r.graph [(d, 0, nth [] vs 0)] id)), State.writing_puts ..⟩

/-! ### SINCOS -/

/-- What SINCOS may give for an angle: within the error stated, NaN for an angle that is not finite. -/
def trigMay (f : Frac → Frac) (th w : Word) : Prop :=
  (fFinite th = false → w = fNaN) ∧
  (fFinite th = true → qLe (qAbs (fVal th)) sinMax = true → w = fOfFrac (f (fVal th)) ∨ qLe (qAbs (qSub (fVal w) (f (fVal th)))) sinErr = true)

theorem qLt_of_qLe {a b : Frac} (h : qLe a b = true) : qLt b a = false := by
  simp only [qLe, qLt, decide_eq_true_eq, decide_eq_false_iff_not, not_lt] at *
  exact h

theorem State.trigOpen_may (s : State) (f : Frac → Frac) (th : Word) : trigMay f th (s.trigOpen f th).1 := by
  rw [State.trigOpen]
  cases hfin : fFinite th with
  | false => exact ⟨fun _ => rfl, fun h => absurd (hfin.symm.trans h) (by simp)⟩
  | true =>
    refine ⟨fun h => absurd (hfin.symm.trans h) (by simp), fun _ hmax => ?_⟩
    simp only [Bool.not_true, Bool.false_eq_true, if_false, qLt_of_qLe hmax]
    split
    next herr =>
      simp only [Bool.and_eq_true] at herr
      exact Or.inr herr.2
    next => exact Or.inl rfl

/-- Only the free values are used up. -/
theorem State.trigOpen_free (s : State) (f : Frac → Frac) (th : Word) : ∃ n, (s.trigOpen f th).2 = { s with free := n } := by
  have hspent : s.freshWord.2 = s.spent := rfl
  have hsnd : (s.trigOpen f th).2 = if !fFinite th then s else s.spent := by
    simp only [State.trigOpen, apply_ite Prod.snd, hspent, ite_self]
  rw [hsnd]
  split
  · exact ⟨s.free, rfl⟩
  · exact ⟨s.free + 1, rfl⟩

theorem exec_sincos_gives {s u : State} {k : Nat} {d a b v : Word} {r : Run} (h : s.opReads u k r 0x0C [d, a, b] [(b, 1)] [[v]]) :
    ∃ t sn cs n, exec (.sincos k d a b) s = .next t ∧ State.puts { u with free := n } k r.graph [(d, 0, [sn]), (a, 0, [cs])] t ∧
      trigMay qSin v sn ∧ trigMay qCos v cs := by
  obtain ⟨n, hn⟩ := u.trigOpen_free qSin v
  obtain ⟨m, hm⟩ := (u.trigOpen qSin v).2.trigOpen_free qCos v
  have hfree : ((u.trigOpen qSin v).2.trigOpen qCos v).2 = { u with free := m } := by rw [hm, hn]
  refine ⟨_, (u.trigOpen qSin v).1, ((u.trigOpen qSin v).2.trigOpen qCos v).1, m, congrArg Host.Outcome.next (h.reading (fun r s vs =>
    ((s.trigOpen qSin (nth 0 (nth [] vs 0) 0)).2.trigOpen qCos (nth 0 (nth [] vs 0) 0)).2.writing k r.graph
      [(d, 0, [(s.trigOpen qSin (nth 0 (nth [] vs 0) 0)).1]),
        (a, 0, [((s.trigOpen qSin (nth 0 (nth [] vs 0) 0)).2.trigOpen qCos (nth 0 (nth [] vs 0) 0)).1])] id)), ?_,
    State.trigOpen_may .., State.trigOpen_may ..⟩
  rw [← hfree]
  exact State.writing_puts ..

/-! ### What a NaN and a zero divisor give (R140) -/

theorem fAdd_nan {a b : Word} (h : fIsNaN a = true ∨ fIsNaN b = true) : fAdd a b = fNaN := by
  rw [fAdd, if_pos (by simpa using h)]

theorem fMul_nan {a b : Word} (h : fIsNaN a = true ∨ fIsNaN b = true) : fMul a b = fNaN := by
  rw [fMul, if_pos (by simpa using h)]

theorem fDiv_nan {a b : Word} (h : fIsNaN a = true ∨ fIsNaN b = true) : fDiv a b = fNaN := by
  rw [fDiv, if_pos (by simpa using h)]

theorem fIsNaN_fNeg {a : Word} (h : fIsNaN a = true) : fIsNaN (fNeg a) = true := by
  rw [fNeg, if_pos h]
  rfl

theorem fSub_nan {a b : Word} (h : fIsNaN a = true ∨ fIsNaN b = true) : fSub a b = fNaN := fAdd_nan (h.imp_right fIsNaN_fNeg)

theorem fFlush_nan {a : Word} (h : fIsNaN a = true) : fFlush a = fNaN := by rw [fFlush, if_pos h]

/-- The other operand stands, as the number it is. -/
theorem fMin_nan {a : Word} (b : Word) (h : fIsNaN a = true) : fMin a b = fFlush b ∧ fMin b a = fFlush b := by
  cases hb : fIsNaN b <;> simp [fMin, h, hb, fFlush_nan]

theorem fMax_nan {a : Word} (b : Word) (h : fIsNaN a = true) : fMax a b = fFlush b ∧ fMax b a = fFlush b := by
  cases hb : fIsNaN b <;> simp [fMax, h, hb, fFlush_nan]

theorem relation_nan {a : Word} (b : Word) (h : fIsNaN a = true) (n : Nat) : relation n a b = (n == 3) := by
  have hlt : fLt a b = false ∧ fLt b a = false := by simp [fLt, h]
  have heq : fEq a b = false ∧ fEq b a = false := by simp [fEq, h]
  unfold relation
  split <;> simp_all [fLe]

theorem fVal_nonneg {a : Word} (h : fSign a = false) : 0 ≤ (fVal a).1 := by
  simp only [fVal, h, Bool.false_eq_true, if_false]
  split
  · exact Int.le_refl 0
  · split <;> positivity

/-- A number below zero is neither NaN nor a zero, and has its sign bit. -/
theorem fSign_of_fLt_zero {a : Word} (h : fLt a fZero = true) : fIsNaN a = false ∧ fIsZero a = false ∧ fSign a = true := by
  have hnan : fIsNaN a = false := Bool.not_eq_true _ ▸ fun hn => by simp [fLt, hn] at h
  obtain ⟨hznan, hzinf, hzval⟩ : fIsNaN fZero = false ∧ fIsInf fZero = false ∧ fVal fZero = (0, 1) := by decide
  cases hinf : fIsInf a with
  | true =>
    have hsign : fSign a = true := by simpa [fLt, hnan, hznan, hzinf, hinf] using h
    have hexp : fExp a = 255 := by
      simp only [fIsInf, Bool.and_eq_true, beq_iff_eq] at hinf
      exact hinf.1
    exact ⟨hnan, by simp [fIsZero, hexp], hsign⟩
  | false =>
    have hneg : (fVal a).1 < 0 := by simpa [fLt, hnan, hznan, hzinf, hinf, hzval, qLt] using h
    refine ⟨hnan, ?_, ?_⟩
    · by_contra hz
      have hexp : fExp a = 0 := by simpa [fIsZero] using hz
      simp [fVal, hexp] at hneg
    · by_contra hs
      exact absurd (fVal_nonneg (Bool.not_eq_true _ ▸ hs)) (by omega)

theorem fSqrt_negative {a : Word} (h : fLt a fZero = true) : fSqrt a = fZero := by
  obtain ⟨hnan, hzero, hsign⟩ := fSign_of_fLt_zero h
  simp [fSqrt, hnan, hzero, hsign]

theorem fDiv_zero {a b : Word} (hfin : fFinite a = true) (hz : fIsZero a = false) (hb : fIsZero b = true) :
    fDiv a b = if fSign a != fSign b then fNegInf else fInf := by
  have ha : fIsNaN a = false ∧ fIsInf a = false := by simp_all [fFinite, fIsNaN, fIsInf]
  have hb' : fIsNaN b = false ∧ fIsInf b = false := by simp_all [fIsZero, fIsNaN, fIsInf]
  simp [fDiv, ha, hb', hb, hz]

/-- Settles O31: each operator writes its result through `arith`; SINCOS by its bound; the NaN facts by the cases of IEEE 754. -/
theorem arithmeticOperatorsGiveTable54 : Obligations.ArithmeticOperatorsGiveTable54 := by
  refine ⟨fun s k d a b c fl => ⟨fun r u v h => exec_mov_gives h, State.arith_gives1 rfl rfl, State.arith_gives1 rfl rfl,
    State.arith_gives1 rfl rfl, State.arith_gives1 rfl rfl, State.arith_gives1 rfl rfl, State.arith_gives1 rfl rfl,
    State.arith_gives1 rfl rfl, State.arith_gives1 rfl rfl, State.arith_gives1 rfl rfl, State.arith_gives1 rfl rfl,
    State.arith_gives1 rfl rfl, State.arith_gives1 rfl rfl, State.arith_gives1 rfl rfl, fun r u v h => ?_⟩, fun a b => ⟨fun hnan => ?_,
    fSqrt_negative, fDiv_zero⟩⟩
  · obtain ⟨t, sn, cs, n, ht, hputs, ⟨hsnan, hsin⟩, hcnan, hcos⟩ := exec_sincos_gives h
    exact ⟨t, sn, cs, n, ht, hputs, fun hf => ⟨hsnan hf, hcnan hf⟩, fun hf hmax => ⟨hsin hf hmax, hcos hf hmax⟩⟩
  · refine ⟨?_, ?_, relation_nan b hnan⟩
    · simp only [List.forall_mem_cons, List.not_mem_nil, false_imp_iff, implies_true, and_true]
      exact ⟨⟨fAdd_nan (.inl hnan), fAdd_nan (.inr hnan)⟩, ⟨fSub_nan (.inl hnan), fSub_nan (.inr hnan)⟩,
        ⟨fMul_nan (.inl hnan), fMul_nan (.inr hnan)⟩, fDiv_nan (.inl hnan), fDiv_nan (.inr hnan)⟩
    · simp only [List.forall_mem_cons, List.not_mem_nil, false_imp_iff, implies_true, and_true]
      exact ⟨fMin_nan b hnan, fMax_nan b hnan⟩

end Sys2Proof.Machine

namespace Sys2Proof.Machine

set_option Elab.async false

/-! ### What the services of an axis keep: the tasks that run -/

section
variable (s : State)

@[simp] theorem State.runs_wr (a : Nat) (w : Word) : (s.wr a w).runs = s.runs := State.runs_of_kiosks rfl
@[simp] theorem State.runs_set (f : Fld) (v : Nat) : (s.set f v).runs = s.runs := State.runs_of_kiosks rfl
@[simp] theorem State.runs_setW (f : Fld) (w : Word) : (s.setW f w).runs = s.runs := State.runs_of_kiosks rfl
@[simp] theorem State.runs_setB (f : Fld) (b : Bool) : (s.setB f b).runs = s.runs := State.runs_of_kiosks rfl
@[simp] theorem State.runs_setBit (f : Fld) (n : Nat) (b : Bool) : (s.setBit f n b).runs = s.runs := State.runs_of_kiosks rfl
@[simp] theorem State.runs_inc (f : Fld) : (s.inc f).runs = s.runs := State.runs_of_kiosks rfl
@[simp] theorem State.runs_modSv (x : Axis) (f : Svc → Svc) : (s.modSv x f).runs = s.runs := State.runs_of_kiosks (by cases x <;> rfl)
@[simp] theorem State.runs_setBytes (a : Nat) (bs : List Byte) : (s.setBytes a bs).runs = s.runs :=
  State.runs_of_fr (State.setBytes_fr (κ := 0x20) (Fr.refl _ _))
@[simp] theorem State.runs_freshNat : s.freshNat.2.runs = s.runs := State.runs_of_kiosks rfl
@[simp] theorem State.runs_freshBit : s.freshBit.2.runs = s.runs := State.runs_of_kiosks rfl
@[simp] theorem State.runs_svcWrite (a : Nat) (ws : List Word) : (s.svcWrite a ws).runs = s.runs := faultRel_runs.svcWrite s a ws
@[simp] theorem State.runs_evx (x : Axis) (o : Nat) : (s.evx x o).runs = s.runs := faultRel_runs.evx s x o

theorem State.runs_ite {c : Prop} [Decidable c] (s t : State) : (if c then s else t).runs = if c then s.runs else t.runs :=
  apply_ite State.runs ..

theorem State.runs_forEach {α : Type} {f : State → α → State} (hf : ∀ s a, (f s a).runs = s.runs) (l : List α) {s : State} :
    (s.forEach l f).runs = s.runs := State.forEach_keeps State.runs f hf l s

@[simp] theorem State.runs_limitCauses (x : Axis) (m : Nat) : (s.limitCauses x m).runs = s.runs := by
  simp [State.limitCauses, State.limitJudge, State.runs_ite]

@[simp] theorem State.runs_limitPart (x : Axis) (these on : List Nat) : (s.limitPart x these on).runs = s.runs := s.runs_limitCauses x _

/-! The loops -/

theorem State.runs_inPut (x : Axis) (c : Nat) : (s.inPut x c).runs = s.runs := by
  have hduty : (s.dutyInput x).2.runs = s.runs := by
    rw [State.dutyInput]
    split
    · exact s.runs_freshBit
    · rfl
  refine (State.runs_forEach (fun u a => u.runs_svcWrite a _) _).trans ?_
  split
  · exact hduty
  · rfl

@[simp] theorem State.runs_putTrk (a : Option Nat) (mode : Nat) (value : Word) : (s.putTrk a mode value).runs = s.runs := by
  cases a
  · rfl
  · exact s.runs_svcWrite _ _

@[simp] theorem State.runs_dqPut (x : Axis) : (s.dqPut x).runs = s.runs := State.runs_forEach (fun u a => u.runs_svcWrite a _) _

@[simp] theorem State.runs_satSet (x : Axis) (c : Nat) (b : Bool) : (s.satSet x c b).runs = s.runs := by
  simp [State.satSet, State.runs_ite]

@[simp] theorem State.runs_weaken (x : Axis) (g : Nat) (vmag : Word) : (s.weaken x g vmag).runs = s.runs := by
  simp [State.weaken, State.runs_ite]

theorem State.runs_currentLimit (x : Axis) (g : Nat) : (s.currentLimit x g).runs = s.runs := by
  simp [State.currentLimit, State.runs_ite]

@[simp] theorem State.runs_sixVector (x : Axis) (y : Word) : (s.sixVector x y).runs = s.runs := by simp [State.sixVector]

theorem State.runs_promRef (x : Axis) : (s.promRef x).runs = s.runs := by simp [State.promRef]

theorem State.runs_compDone (x : Axis) (c g : Nat) (inp xin y : Word) (sat : Bool) (trk : Option Nat) :
    (s.compDone x c g inp xin y sat trk).runs = s.runs := by
  have hrec : (((s.set (F.MC_C_X_IN x c) xin.toNat).set (F.MC_C_X_OUT x c) y.toNat).satSet x c sat).runs = s.runs := by simp
  unfold State.compDone
  generalize State.satSet _ x c sat = u at hrec
  split
  · exact (u.runs_modSv x _).trans hrec
  · exact State.ite_both State.runs ((u.runs_modSv x _).trans hrec) ((State.runs_currentLimit ..).trans ((u.runs_modSv x _).trans hrec))
  · refine State.ite_both State.runs ?_ hrec
    simp [hrec]
  · exact (State.runs_inPut ..).trans ((u.runs_promRef x).trans hrec)
  · exact hrec

theorem State.runs_selDone (x : Axis) (dem : List Word) (mask : Nat) (r : Word × Word × Nat × List Word) (trk : Option Nat) :
    (s.selDone x dem mask r trk).runs = s.runs := by
  have hin (u : State) : (u.forEach [0, 1, 7] (fun s c => s.inPut x c)).runs = u.runs := State.runs_forEach (fun v c => v.runs_inPut x c) _
  have hhold (u : State) : (u.forEach (List.range 6) (fun s k => s.putTrk (trk.map (· + 8 * k)) 3 0)).runs = u.runs :=
    State.runs_forEach (fun v k => v.runs_putTrk _ 3 0) _
  simp only [State.selDone, State.runs_limitPart, hin, State.runs_ite, hhold, State.runs_modSv, State.runs_setW, State.runs_setB,
    State.runs_set, State.runs_putTrk, State.runs_inc, ite_self]

/-! Belvedere -/

theorem State.runs_blendDone (x : Axis) (th : List Word) (out : Word × Word) : (s.blendDone x th out).runs = s.runs :=
  State.runs_of_fr (State.blendDone_fr (κ := 0x781000001000000000000000000000018000) (Fr.refl _ _))

theorem State.runs_supervise (x : Axis) : (s.supervise x).runs = s.runs := by
  rw [State.supervise]
  refine State.ite_both State.runs ?_ rfl
  split <;> simp [State.runs_ite]

theorem State.runs_modelDone (x : Axis) (q : Word × Word × Word) : (s.modelDone x q).runs = s.runs :=
  (State.runs_supervise _ x).trans (by simp)

/-! The view of a period -/

theorem State.runs_periodView (g : Nat) : (s.periodView g).runs = s.runs :=
  State.runs_of_fr (State.periodView_fr (κ := 0x800000040018022e00020000000000000000000000018020) (Fr.refl _ _))

theorem State.runs_forPeriod (g : Nat) {f : State → State} (hf : ∀ u, (f u).runs = u.runs) : (s.forPeriod g f).runs = s.runs := by
  have hdone : (f (s.periodView g)).runs = s.runs := (hf _).trans (s.runs_periodView g)
  rw [State.forPeriod]
  generalize f (s.periodView g) = u at hdone
  dsimp only
  split
  · exact hdone
  next i _ =>
    have hbodies : (u.forEach i.bodies (fun t b =>
        match s.img.sects[b.1]? with | some c => t.setBytes c.base (s.bytes c.base b.2.length) | none => t)).runs = s.runs := by
      refine (State.runs_forEach (fun v b => ?_) _).trans hdone
      split
      · exact v.runs_setBytes _ _
      · rfl
    split
    · exact (State.runs_modSv ..).trans ((State.runs_forEach (fun v a => v.runs_wr a _) _).trans hbodies)
    · exact hbodies

end

end Sys2Proof.Machine

namespace Sys2Proof.Machine

set_option Elab.async false

/-! ### Operators by what they do with the words read -/

section
variable {s u : State} {c : Instr} {k op : Nat} {r : Run} {ws : List Word} {ins : List (Word × Nat)} {vs : List (List Word)}
  {f : Run → State → List (List Word) → State}

/-- A command that is an operator goes on with the words it reads. -/
theorem State.opReads.next (h : s.opReads u k r op ws ins vs)
    (hexec : exec c s = .next (s.operator k op ws (fun s r => s.reading k r ins (f r)))) : exec c s = .next (f r u vs) :=
  hexec.trans (congrArg Host.Outcome.next (h.reading f))

theorem State.gives_of_writing {g : (Nat → Nat → Word) → List (Word × Nat × List Word)} (hopr : Instr.opr c = some (k, op, ws))
    (hexec : exec c s = .next (s.operator k op ws (fun s r => s.reading k r ins (f r))))
    (hf : ∀ r u vs, f r u vs = u.writing k r.graph (g (fun i j => nth 0 (nth [] vs i) j)) id) : s.gives c ins g := by
  intro k' op' ws' r u vs hopr' hreads
  obtain ⟨rfl, rfl, rfl⟩ : k' = k ∧ op' = op ∧ ws' = ws := by simpa [hopr, eq_comm] using hopr'
  refine ⟨_, hreads.next hexec, ?_⟩
  rw [hf]
  exact State.writing_puts ..

/-- A guarded operator that on bad inputs sets NUMERIC and writes `l`. -/
theorem State.guards_of_writing {bad : (Nat → Nat → Word) → Bool} {l : (Nat → Nat → Word) → List (Word × Nat × List Word)}
    (hopr : Instr.opr c = some (k, op, ws)) (hexec : exec c s = .next (s.operator k op ws (fun s r => s.reading k r ins (f r))))
    (hf : ∀ r u vs, bad (fun i j => nth 0 (nth [] vs i) j) = true →
      f r u vs = (u.setNumeric k).writing k r.graph (l (fun i j => nth 0 (nth [] vs i) j)) id) : s.guards c ins bad l := by
  intro k' op' ws' r u vs hopr' hreads hbad
  obtain ⟨rfl, rfl, rfl⟩ : k' = k ∧ op' = op ∧ ws' = ws := by simpa [hopr, eq_comm] using hopr'
  refine ⟨_, hreads.next hexec, ?_⟩
  rw [hf r u vs hbad]
  exact State.writing_puts ..

end

/-! ### SVM -/

theorem exec_svm_gives {s u : State} {k : Nat} {r : Run} {d a b c va vb vbus m : Word}
    (h : s.opReads u k r 0x1B [d, a, b, c] [(a, 2), (b, 1), (c, 1)] [[va, vb], [vbus], [m]]) (hg : guardOk [va, vb, vbus] = true) :
    ∃ t, exec (.svm k d a b c) s = .next t ∧ (u.svmH r.graph d).2.puts k r.graph
      [(d, 0, if m = 3 then svmSix va vb vbus (u.svmH r.graph d).1 else svmLinear va vb vbus m.toNat (u.svmH r.graph d).1)] t := by
  have hm : (m = 3) = (m.toNat = 3) := propext ⟨fun h => by rw [h]; rfl, fun h => BitVec.eq_of_toNat_eq h⟩
  refine ⟨_, (h.next rfl).trans (congrArg Host.Outcome.next (if_pos hg)), ?_⟩
  simp only [hm]
  exact State.writing_puts ..

theorem svm_guards (s : State) (k : Nat) (d a b c : Word) : s.guards (.svm k d a b c) [(a, 2), (b, 1), (c, 1)]
    (fun v => !guardOk [v 0 0, v 0 1, v 1 0]) (fun _ => []) :=
  State.guards_of_writing rfl rfl fun _ _ _ hbad => if_neg (by simpa using hbad)

/-! ### PLL, BLEND and MODEL -/

theorem exec_pll_gives {s u : State} {k : Nat} {r : Run} {d a b th om er kp ki : Word} {x : Axis}
    (h : s.opReads u k r 0x1E [d, a, b] [(d, 2), (a, 1), (b, 2)] [[th, om], [er], [kp, ki]]) (hx : s.graphAxis r.graph = some x)
    (hest : r.est = 0) (hg : guardOk [th, om, er, kp, ki] = true) :
    ∃ t, exec (.pll k d a b) s = .next t ∧ u.puts k r.graph [(d, 0, [fWrap (fAdd th (fMul (fAdd (fAdd om (fMul (fMul ki er) (u.tpF x)))
      (fMul kp er)) (u.tpF x))), fAdd om (fMul (fMul ki er) (u.tpF x))])] t := by
  refine ⟨_, h.next rfl, ?_⟩
  simp only [(h.graphAxis _).trans hx, hest, nth, bne_self_eq_false, Bool.false_and, Bool.false_eq_true, if_false,
    OfNat.zero_ne_ofNat, false_and, hg, if_true]
  exact State.writing_puts ..

theorem exec_blend_gives {s u : State} {k : Nat} {r : Run} {d a b c bd : Word} {e w : List Word} {x : Axis}
    (h : s.opReads u k r 0x21 [d, a, b, c] [(a, 6), (b, 3), (c, 1)] [e, w, [bd]]) (hx : s.graphAxis r.graph = some x)
    (hg : guardOk (e ++ w ++ [bd]) = true) :
    ∃ t, exec (.blend k d a b c) s = .next t ∧ let th := [nth 0 e 0, nth 0 e 2, nth 0 e 4]
      let o := blendOut th [nth 0 e 1, nth 0 e 3, nth 0 e 5] w (u.sv x).thetaO (u.sv x).omegaO (u.tpF x)
        ((u.periodView r.graph).paramF x 0x0A0E 0x3CA3D70A#32)
      u.putsRun k r.graph [(d, 0, [o.1, o.2, fBool (fLt bd (disagreement th (u.fld (F.MC_BLV_STAT_RUNNING x))))])] t := by
  refine ⟨_, h.next rfl, ?_⟩
  simp only [(h.graphAxis _).trans hx, nth, hg, if_true]
  exact State.writing_putsRun _ _ _ _ _ fun v => v.runs_forPeriod _ fun v => v.runs_blendDone ..

/-- The speed and load torque that MODEL keeps. -/
theorem exec_model_gives {s u : State} {k : Nat} {r : Run} {d a b c om tl id_ iq p : Word} {x : Axis}
    (h : s.opReads u k r 0x22 [d, a, b, c] [(a, 2), (b, 2), (c, 1)] [[om, tl], [id_, iq], [p]]) (hx : s.graphAxis r.graph = some x)
    (hg : guardOk [om, tl, id_, iq, p] = true) :
    ∃ t om' tl', exec (.model k d a b c) s = .next t ∧
      (u.bridgeOn x = false → om' = (u.sv x).omegaO ∧ tl' = fZero ∧ u.putsRun k r.graph [(a, 0, [om', tl']), (d, 0, [om', fZero])] t) ∧
      (u.bridgeOn x = true → bit (u.sv x).seed 3 = false →
        u.putsRun k r.graph [(a, 0, [om', tl']), (d, 0, [om', fSub (u.sv x).omegaO om])] t) := by
  have hruns (q : Word × Word × Word) (v : State) : (v.forPeriod r.graph (fun s => s.modelDone x q)).runs = v.runs :=
    v.runs_forPeriod _ fun v => v.runs_modelDone x q
  have hnext := h.next (c := .model k d a b c) rfl
  simp only [(h.graphAxis _).trans hx, nth, List.cons_append, List.nil_append, hg, if_true] at hnext
  cases hbr : u.bridgeOn x with
  | false =>
    simp only [hbr, Bool.false_eq_true, if_false] at hnext
    exact ⟨_, _, _, hnext, fun _ => ⟨rfl, rfl, State.writing_putsRun _ _ _ _ _ (hruns _)⟩, fun hon => absurd hon (by simp)⟩
  | true =>
    simp only [hbr, if_true] at hnext
    cases hseed : bit (u.sv x).seed 3 with
    | true => exact ⟨_, fZero, fZero, hnext, fun hoff => absurd hoff (by simp), fun _ hoff => absurd hoff (by simp)⟩
    | false =>
      simp only [hseed, Bool.false_eq_true, if_false] at hnext
      exact ⟨_, _, _, hnext, fun hoff => absurd hoff (by simp), fun _ _ => State.writing_putsRun _ _ _ _ _ (hruns _)⟩

/-! ### Operators whose arithmetic is open: free words (log entry 1) -/

theorem State.freshWords_free (s : State) (n : Nat) : (s.freshWords n).2 = { s with free := s.free + n } := by
  induction n generalizing s with
  | zero => rfl
  | succ n ih =>
    refine (ih s.freshWord.2).trans ?_
    simp only [State.freshWord, State.spent]
    congr 1
    omega

theorem State.openWords_free (s : State) (w : Word) : ∃ n, (s.openWords w).2 = { s with free := n } :=
  ⟨_, State.freshWords_free _ _⟩

theorem exec_dtcomp_gives {s u : State} {k : Nat} {r : Run} {d a b c : Word} {vs : List (List Word)}
    (h : s.opReads u k r 0x1C [d, a, b, c] [(a, 1), (b, 1), (c, 1)] vs) (hg : guardOk (nth [] vs 0 ++ nth [] vs 2) = true) :
    ∃ t l n, exec (.dtcomp k d a b c) s = .next t ∧ State.puts { u with free := n } k r.graph [(d, 0, l)] t := by
  obtain ⟨n, hn⟩ := u.openWords_free d
  refine ⟨_, (u.openWords d).1, n, (h.next rfl).trans (congrArg Host.Outcome.next (if_pos hg)), ?_⟩
  rw [← hn]
  exact State.writing_puts ..

theorem State.runs_openWords (s : State) (w : Word) : (s.openWords w).2.runs = s.runs := by
  obtain ⟨n, hn⟩ := s.openWords_free w
  rw [hn]
  exact State.runs_of_kiosks rfl

/-- The task after one result to a SCRATCH operand and the mark of an estimator. -/
theorem State.runs_writing_est (s : State) (k g : Nat) {st : Word} (l : List Word) (est : Nat) (f : State → State)
    (hf : ∀ v, (f v).runs = v.runs) (hst : opSpace st = 0) :
    (s.writing k g [(st, 0, l)] (fun v => f (v.modRun k (fun q => { q with est := est })))).runs k =
      (s.runs k).map (fun q => { q with scratch := putScratch q.scratch (opAddr st / 4) l, est := est }) := by
  rw [State.writing_cons, State.opWrite_scratch _ _ _ _ _ hst, if_pos rfl]
  refine (congrFun (hf _) k).trans ?_
  rw [State.runs_modRun, if_pos rfl, State.runs_modRun, if_pos rfl, Option.map_map]
  rfl

/-- The seeding of an estimator is done. -/
def State.seedDone (g seedBit : Nat) (s : State) : State :=
  match s.graphAxis g with
  | some x => s.modSv x (fun v => { v with seed := withBit v.seed seedBit false })
  | none => s

theorem State.runs_seedDone (g seedBit : Nat) (s : State) : (s.seedDone g seedBit).runs = s.runs := by
  rw [State.seedDone]
  split
  · exact s.runs_modSv _ _
  · rfl

/-- An estimator whose state lies in SCRATCH writes free words there, and marks the task with its number. -/
theorem State.opReads.estimator {s u : State} {c : Instr} {k op : Nat} {r : Run} {ws : List Word} {st : Word} {ins : List (Word × Nat)}
    {vs : List (List Word)} {seedBit est : Nat} (h : s.opReads u k r op ws (ins ++ [(st, 1)]) vs)
    (hexec : exec c s = .next (s.estimator k op ws st ins seedBit est)) (hg : (vs.take ins.length).all guardOk = true)
    (hst : opSpace st = 0) :
    ∃ t l, exec c s = .next t ∧ (t.kiosk k).run =
      ((u.kiosk k).run).map (fun q => { q with scratch := putScratch q.scratch (opAddr st / 4) l, est := est }) :=
  ⟨_, _, (h.next hexec).trans (congrArg Host.Outcome.next (if_pos hg)),
    (State.runs_writing_est _ k r.graph _ est (State.seedDone r.graph seedBit) (State.runs_seedDone r.graph seedBit) hst).trans
      (congrArg (Option.map _) (congrFun (u.runs_openWords st) k))⟩

theorem State.runs_of_runOf {s : State} {k : Nat} {r : Run} (h : s.runOf k = some r) : s.runs k = some r := by
  rw [State.runOf] at h
  split at h
  next q hq =>
    split at h
    · exact hq.trans h
    · exact absurd h (by simp)
  next => exact absurd h (by simp)

theorem State.runs_opBegin {s : State} {k : Nat} {r : Run} (op : Nat) (ws : List Word) (fetched : Nat) (h : s.runs k = some r) :
    (s.opBegin k op ws fetched).runs k =
      some { r with steps := r.steps + (opCost op + accessCosts op 1 ws + 6 * fetched), ops := r.ops + 1 } := by
  rw [State.opBegin, State.runs_modRun, if_pos rfl, h]
  rfl

/-- While injection is suspended HFI only marks the task (R340). -/
theorem exec_hfi_suspended {s u : State} {k : Nat} {r : Run} {d a b c : Word} {ins : List (Word × Nat)} {vs : List (List Word)}
    (h : s.opReads u k r 0x1F [d, a, b, c] ins vs) (hsusp : s.injSuspended r.graph = true) :
    ∃ t, exec (.hfi k d a b c) s = .next t ∧ t.mem = s.mem ∧
      ∃ q n, (t.kiosk k).run = some q ∧ q = { r with steps := n, ops := r.ops + 1, est := 2 } := by
  have hof := h.2.1
  have hfr : Fr 0x8000000 s (s.touchWords (s.fetchWords r 0x1F [d, a, b, c])).2 := State.touchWords_fr (Fr.refl _ _)
  have hexec : exec (.hfi k d a b c) s = .next (s.operator k 0x1F [d, a, b, c] (fun s _ => s.modRun k (fun r => { r with est := 2 }))) := by
    refine congrArg Host.Outcome.next ?_
    simp only [hof, hsusp, if_true]
  rw [h.operator] at hexec
  have hrun := State.runs_opBegin 0x1F [d, a, b, c] (s.fetchWords r 0x1F [d, a, b, c]).length
    ((congrFun (State.runs_of_fr hfr) k).trans (State.runs_of_runOf hof))
  exact ⟨_, hexec, hfr.keep_mem, _, _,
    ((State.runs_modRun _ k k _).trans (if_pos rfl)).trans (congrArg (Option.map _) hrun), rfl⟩

theorem exec_hfi_estimator {s u : State} {k : Nat} {r : Run} {d a b c : Word} {ins : List (Word × Nat)} {vs : List (List Word)}
    (h : s.opReads u k r 0x1F [d, a, b, c] ins vs) (hsusp : s.injSuspended r.graph = false) :
    exec (.hfi k d a b c) s = .next (s.estimator k 0x1F [d, a, b, c] d [(a, 2), (b, 1), (c, 1)] 31 2) := by
  refine congrArg Host.Outcome.next ?_
  simp only [h.2.1, hsusp, Bool.false_eq_true, if_false]

/-- Settles O33, operator by operator: each goes on with the words it read, and its results meet `puts`. -/
theorem vectorAndEstimatorOperatorsGiveTheirResults : Obligations.VectorAndEstimatorOperatorsGiveTheirResults := by
  intro s k d a b c
  refine ⟨State.gives_of_writing rfl rfl fun _ _ _ => rfl, State.gives_of_writing rfl rfl fun _ _ _ => rfl,
    State.gives_of_writing rfl rfl fun _ _ _ => rfl, fun r u va vb vbus m h hg => exec_svm_gives h hg, svm_guards s k d a b c,
    fun r u th om er kp ki x h hx hest hg => exec_pll_gives h hx hest hg, fun r u e w bd x h hx hg => exec_blend_gives h hx hg,
    fun r u om tl id_ iq p x h hx hg => exec_model_gives h hx hg, fun r u vs h hg => exec_dtcomp_gives h hg, fun r u vs => ⟨?_, ?_, ?_⟩⟩
  · rintro ⟨h, hg, hst⟩
    exact State.opReads.estimator (ins := [(a, 2), (b, 2), (c, 1)]) h rfl hg hst
  · rintro ⟨h, hg, hst⟩
    exact State.opReads.estimator (ins := [(a, 2), (b, 2), (c, 1)]) h rfl hg hst
  · intro h
    refine ⟨fun hsusp => exec_hfi_suspended h hsusp, fun hsusp hg hst => ?_⟩
    exact State.opReads.estimator (ins := [(a, 2), (b, 1), (c, 1)]) h (exec_hfi_estimator h hsusp) hg hst

end Sys2Proof.Machine

namespace Sys2Proof.Machine

set_option Elab.async false

/-! ### LIM and the filters -/

theorem State.clampOpen_of_le (s : State) {lo hi : Word} (v : Word) (h : fLt hi lo = false) : s.clampOpen lo hi v = (fClamp lo hi v, s) := by
  rw [State.clampOpen, if_neg (by simp [h])]

theorem exec_lim_gives {s u : State} {k : Nat} {r : Run} {d a b c x lo hi : Word}
    (h : s.opReads u k r 0x0B [d, a, b, c] [(a, 1), (b, 1), (c, 1)] [[x], [lo], [hi]]) (hx : fIsNaN x = false) (hlo : fFinite lo = true)
    (hhi : fFinite hi = true) (hle : fLt hi lo = false) :
    ∃ t, exec (.lim k d a b c) s = .next t ∧ u.puts k r.graph [(d, 0, [fClamp lo hi x])] t := by
  have hg : guardLim x lo hi = true := by simp [guardLim, hx, hlo, hhi]
  refine ⟨_, (h.next rfl).trans (congrArg Host.Outcome.next (if_pos hg)), ?_⟩
  simp only [nth, u.clampOpen_of_le x hle]
  exact State.writing_puts ..

theorem lim_guards (s : State) (k : Nat) (d a b c : Word) : s.guards (.lim k d a b c) [(a, 1), (b, 1), (c, 1)]
    (fun v => fIsNaN (v 0 0) || !fFinite (v 1 0) || !fFinite (v 2 0)) (fun _ => []) := by
  refine State.guards_of_writing rfl rfl fun r u vs hbad => if_neg ?_
  simp only [Bool.or_eq_true, Bool.not_eq_true'] at hbad
  simp only [guardLim, Bool.and_eq_true, Bool.not_eq_true']
  rintro ⟨⟨hx, hlo⟩, hhi⟩
  rcases hbad with (hb | hb) | hb
  · exact absurd (hx.symm.trans hb) (by simp)
  · exact absurd (hlo.symm.trans hb) (by simp)
  · exact absurd (hhi.symm.trans hb) (by simp)

section
variable {s u : State} {c : Instr} {k op : Nat} {r : Run} {d x st par : Word} {nst npar : Nat} {vs : List (List Word)}
  {f : State → Word → (Nat → Word) → (Nat → Word) → Option (List Word × Word) × State}

/-- A filter that accepts its inputs writes its state, then its result. -/
theorem State.opReads.filter (h : s.opReads u k r op [d, x, st, par] [(x, 1), (st, nst), (par, npar)] vs)
    (hexec : exec c s = .next (s.filter k op d x st par nst npar f)) {q : List Word × Word}
    (hf : f u (nth 0 (nth [] vs 0) 0) (fun j => nth 0 (nth [] vs 1) j) (fun j => nth 0 (nth [] vs 2) j) = (some q, u)) :
    ∃ t, exec c s = .next t ∧ u.puts k r.graph [(st, 0, q.1), (d, 0, [q.2])] t := by
  refine ⟨_, h.next hexec, ?_⟩
  simp only [hf]
  exact State.writing_puts ..

theorem State.opReads.filter_same {o : Word} (h : s.opReads u k r op [d, x, st, par] [(x, 1), (st, nst), (par, npar)] vs)
    (hexec : exec c s = .next (s.filter k op d x st par nst npar f))
    (hf : f u (nth 0 (nth [] vs 0) 0) (fun j => nth 0 (nth [] vs 1) j) (fun j => nth 0 (nth [] vs 2) j) = (some ([o], o), u)) :
    ∃ t, exec c s = .next t ∧ u.puts k r.graph [(st, 0, [o]), (d, 0, [o])] t := h.filter hexec hf

/-- One that refuses them writes the previous output again. -/
theorem State.filter_guards {bad : (Nat → Nat → Word) → Bool} (hopr : Instr.opr c = some (k, op, [d, x, st, par]))
    (hexec : exec c s = .next (s.filter k op d x st par nst npar f))
    (hf : ∀ u (v : Nat → Nat → Word), bad v = true → f u (v 0 0) (v 1) (v 2) = (none, u)) :
    s.guards c [(x, 1), (st, nst), (par, npar)] bad (fun v => [(d, 0, [fFlush (v 1 0)])]) := by
  refine State.guards_of_writing hopr hexec fun r u vs hbad => ?_
  simp only [hf u (fun i j => nth 0 (nth [] vs i) j) hbad]

end

/-! ### Compensators -/

section
variable {s u : State} {k : Nat} {three : Bool} {r : Run} {d a b c e : Word}

/-- The operator C2P2Z or C3P3Z. -/
def compInstr (three : Bool) (k : Nat) (d a b c e : Word) : Instr := if three then .c3p3z k d a b c e else .c2p2z k d a b c e

theorem exec_compInstr (three : Bool) (k : Nat) (d a b c e : Word) (s : State) :
    exec (compInstr three k d a b c e) s = .next (s.compensator k three d a b c e) := by cases three <;> rfl

/-- A frozen loop leaves the bridge the voltages that are held (R346). -/
def State.compHeld (n : Option (Axis × Nat)) (s : State) : State :=
  match n with
  | some (y, n) => if (n == 1 || n == 7) && (s.sv y).frozen then s.dqPut y else s
  | none => s

theorem State.runs_compHeld (n : Option (Axis × Nat)) (s : State) : (s.compHeld n).runs = s.runs := by
  unfold State.compHeld
  split
  · exact State.ite_both State.runs (s.runs_dqPut _) rfl
  · rfl

/-- What a release adds, by the settings of its graph's period. -/
def State.compKept (g : Nat) (n : Option (Axis × Nat)) (inp : Word) (q : Word × Word × List Word × Bool) (trk : Option Nat) (s : State) :
    State :=
  match n with
  | some (y, n) => s.forPeriod g (fun s => s.compDone y n g inp q.1 q.2.1 q.2.2.2 trk)
  | none => s

theorem State.runs_compKept (g : Nat) (n : Option (Axis × Nat)) (inp : Word) (q : Word × Word × List Word × Bool) (trk : Option Nat)
    (s : State) : (s.compKept g n inp q trk).runs = s.runs := by
  unfold State.compKept
  split
  · exact s.runs_forPeriod g fun v => v.runs_compDone ..
  · rfl

variable {x m v : Word} {bk h : List Word}

theorem exec_comp_out {ins : List (Word × Nat)} {vs : List (List Word)}
    (hreads : s.opReads u k r (if three then 0x16 else 0x15) [d, a, b, c, e] ins vs)
    (hout : (((s.touchWords (s.fetchWords r (if three then 0x16 else 0x15) [d, a, b, c, e])).2.opBegin k (if three then 0x16 else 0x15)
      [d, a, b, c, e] (s.fetchWords r (if three then 0x16 else 0x15) [d, a, b, c, e]).length).periodView r.graph).compOut r.graph b = true) :
    exec (compInstr three k d a b c e) s = .next ((s.touchWords (s.fetchWords r (if three then 0x16 else 0x15) [d, a, b, c, e])).2.opBegin k
      (if three then 0x16 else 0x15) [d, a, b, c, e] (s.fetchWords r (if three then 0x16 else 0x15) [d, a, b, c, e]).length) := by
  rw [exec_compInstr, State.compensator, hreads.operator, if_pos hout]

theorem exec_comp_gives
    (hreads : s.opReads u k r (if three then 0x16 else 0x15) [d, a, b, c, e] [(a, 1), (b, 10), (c, 6), (e, 2)] [[x], bk, h, [m, v]])
    (hin : (((s.touchWords (s.fetchWords r (if three then 0x16 else 0x15) [d, a, b, c, e])).2.opBegin k (if three then 0x16 else 0x15)
      [d, a, b, c, e] (s.fetchWords r (if three then 0x16 else 0x15) [d, a, b, c, e]).length).periodView r.graph).compOut r.graph b = false)
    {q : Word × Word × List Word × Bool}
    (hq : compRun three (u.bankUsed r.graph (u.compNamed r.graph b) bk) h m.toNat v x = some q) :
    ∃ t, exec (compInstr three k d a b c e) s = .next t ∧ u.putsRun k r.graph
      (if m.toNat = 3 then [(d, 0, [fFlush (nth 0 h 3)])] else [(c, 0, q.2.2.1), (d, 0, [q.2.1])]) t := by
  have hread := hreads.2.2.2.2.2
  have hexec := exec_compInstr three k d a b c e s
  rw [State.compensator, hreads.operator, if_neg (by simp [hin]), State.reading, hread] at hexec
  simp only [nth, hq] at hexec
  refine ⟨_, hexec, ?_⟩
  split
  · exact State.writing_putsRun _ _ _ _ _ (State.runs_compHeld (u.compNamed r.graph b))
  · exact State.writing_putsRun _ _ _ _ _ (State.runs_compKept r.graph (u.compNamed r.graph b) x q (opMem k e))

theorem State.compOut_of_off {w : State} {g : Nat} {b : Word} {y : Axis} (hy : w.graphAxis g = some y) (hoff : w.bridgeOn y = false) :
    w.compOut g b = true := by
  simp [State.compOut, hy, hoff]

end

/-! ### MINSEL -/

section
variable {s u : State} {k : Nat} {r : Run} {d a b c e : Word} {ds : List Word} {m w dp : Word} {q : Word × Word × Nat × List Word}

/-- What a run of MINSEL adds, by the settings of its graph's period. -/
def State.selKept (g : Nat) (ds : List Word) (mask : Nat) (q : Word × Word × Nat × List Word) (trk : Option Nat) (s : State) : State :=
  match s.graphAxis g with
  | some x => s.forPeriod g (fun s => s.selDone x ds mask q trk)
  | none => s

theorem State.runs_selKept (g : Nat) (ds : List Word) (mask : Nat) (q : Word × Word × Nat × List Word) (trk : Option Nat) (s : State) :
    (s.selKept g ds mask q trk).runs = s.runs := by
  unfold State.selKept
  split
  · exact s.runs_forPeriod g fun v => v.runs_selDone ..
  · rfl

/-- MINSEL's result: the reference in force in a graph of an axis, else dir·m. -/
def State.selResult (s : State) (g : Nat) (y : Option Axis) (q : Word × Word × Nat × List Word) : Word :=
  match y with
  | some x => (s.periodView g).selOut x q
  | none => fMul q.1 q.2.1

theorem exec_minsel_gives (h : s.opReads u k r 0x17 [d, a, b, c, e] [(a, 6), (b, 3)] [ds, [m, w, dp]])
    (hq : minsel ds (m ||| 9#32).toNat w.toNat dp = some q) :
    ∃ t, exec (.minsel k d a b c e) s = .next t ∧ State.putsRun { u with free := u.free + 1 } k r.graph
      [(d, 0, [u.selResult r.graph (s.graphAxis r.graph) q]), (b, 1, [BitVec.ofNat 32 q.2.2.1, q.1]),
        (c, 0, minselTrk q.1 q.2.1 q.2.2.1 (fFlush u.freshWord.1)), (e, 0, [fOfNat q.2.2.1])] t := by
  have hnext := h.next (c := .minsel k d a b c e) rfl
  simp only [nth, hq, h.graphAxis] at hnext
  refine ⟨_, hnext, ?_⟩
  exact State.writing_putsRun u.spent k r.graph _ _
    (State.runs_selKept r.graph ds (m ||| 9#32).toNat q (opMem k c))

theorem State.selOut_of_own (v : State) (y : Axis) (hfrozen : (v.sv y).frozen = false) (hown : v.ownFrame y = false) :
    v.selOut y q = if fIsZero (v.folAt y 0) = true then fMul q.1 q.2.1 else (folIq q.1 q.2.1 (v.folAt y 0)
      (((List.range 5).map (fun j => nth fInf q.2.2.2 (j + 1))).foldl fMin fInf) (v.limIm y)).1 := by
  rw [State.selOut, hfrozen, hown, if_neg (by simp), if_neg (by simp), State.selIq]
  exact apply_ite Prod.fst _ _ _

theorem nth_mem_or_default {α : Type} (x : α) (l : List α) (n : Nat) : nth x l n ∈ l ∨ nth x l n = x := by
  induction l generalizing n with
  | nil => exact .inr rfl
  | cons y l ih =>
    cases n with
    | zero => exact .inl List.mem_cons_self
    | succ n => exact (ih n).imp_left (List.mem_cons_of_mem y)

/-- A NaN among the demands, or for the direction before, gives no choice (R141). -/
theorem minsel_of_nan {mask win : Nat} {dir : Word} (h : ((List.range 6).any (fun j => fIsNaN (nth 0 ds j)) || fIsNaN dir) = true) :
    minsel ds mask win dir = none := by
  refine if_pos ?_
  rcases Bool.or_eq_true _ _ |>.mp h with hds | hdir
  · obtain ⟨j, -, hj⟩ := List.any_eq_true.mp hds
    rcases nth_mem_or_default 0 ds j with hmem | hzero
    · exact Bool.or_eq_true _ _ |>.mpr (.inl (List.any_eq_true.mpr ⟨_, hmem, hj⟩))
    · exact absurd (hzero ▸ hj) (by decide)
  · have hexp : fExp dir = 255 := by
      simp only [fIsNaN, Bool.and_eq_true, beq_iff_eq] at hdir
      exact hdir.1
    simp [fFinite, hexp]

theorem minsel_guards (s : State) (k : Nat) (d a b c e : Word) : s.guards (.minsel k d a b c e) [(a, 6), (b, 3)]
    (fun v => (List.range 6).any (fun j => fIsNaN (v 0 j)) || fIsNaN (v 1 2)) (fun _ => []) := by
  refine State.guards_of_writing rfl rfl fun r u vs hbad => ?_
  simp only [minsel_of_nan hbad]
  rfl

end

/-! ### LPF1, RATE, INTEG and BIQUAD -/

section
variable {s u : State} {k : Nat} {r : Run} {d a b c x y : Word}

theorem exec_lpf1_gives {z : Word} (h : s.opReads u k r 0x11 [d, a, b, c] [(a, 1), (b, 1), (c, 1)] [[x], [y], [z]])
    (hg : guardOk [x, y, z] = true) : ∃ t, exec (.lpf1 k d a b c) s = .next t ∧
      u.puts k r.graph [(b, 0, [fAdd y (fMul z (fSub x y))]), (d, 0, [fAdd y (fMul z (fSub x y))])] t := by
  have hy : lpf1 x y z = some (fAdd y (fMul z (fSub x y))) := if_pos hg
  exact h.filter_same rfl (by simp only [nth, hy, Option.map_some])

theorem lpf1_guards (s : State) (k : Nat) (d a b c : Word) : s.guards (.lpf1 k d a b c) [(a, 1), (b, 1), (c, 1)]
    (fun v => !guardOk [v 0 0, v 1 0, v 2 0]) (fun v => [(d, 0, [fFlush (v 1 0)])]) := by
  refine State.filter_guards rfl rfl fun u v hbad => ?_
  have hnone : lpf1 (v 0 0) (v 1 0) (v 2 0) = none := if_neg (by simpa using hbad)
  simp only [hnone, Option.map_none]

/-- RATE's result. -/
theorem rateStep_eq {z : Word} (hg : guardRate x y z = true) : rateStep x y z = some (if fLe (fAbs (fSub x y)) (fAbs z) then fFlush x
    else if fSign (fSub x y) then fSub y (fAbs z) else fAdd y (fAbs z)) :=
  (if_pos hg).trans (apply_ite some _ _ _).symm

theorem exec_rate_gives {z : Word} (h : s.opReads u k r 0x13 [d, a, b, c] [(a, 1), (b, 1), (c, 1)] [[x], [y], [z]])
    (hg : guardRate x y z = true) : ∃ t, exec (.rate k d a b c) s = .next t ∧
      let o := if fLe (fAbs (fSub x y)) (fAbs z) then fFlush x else if fSign (fSub x y) then fSub y (fAbs z) else fAdd y (fAbs z)
      u.puts k r.graph [(b, 0, [o]), (d, 0, [o])] t :=
  h.filter_same rfl (by simp only [nth, rateStep_eq hg, Option.map_some])

theorem exec_integ_gives {g lo hi : Word} (h : s.opReads u k r 0x14 [d, a, b, c] [(a, 1), (b, 1), (c, 3)] [[x], [y], [g, lo, hi]])
    (hg : guardOk [x, y, g, lo, hi] = true) (hle : fLt hi lo = false) : ∃ t, exec (.integ k d a b c) s = .next t ∧
      u.puts k r.graph [(b, 0, [fClamp lo hi (fAdd y (fMul g x))]), (d, 0, [fClamp lo hi (fAdd y (fMul g x))])] t :=
  h.filter_same rfl (by simp only [nth, hg, if_true, u.clampOpen_of_le _ hle])

theorem exec_biquad_gives {s1 s2 b0 b1 b2 a1 a2 : Word}
    (h : s.opReads u k r 0x12 [d, a, b, c] [(a, 1), (b, 2), (c, 5)] [[x], [s1, s2], [b0, b1, b2, a1, a2]])
    (hg : guardOk [x, s1, s2, b0, b1, b2, a1, a2] = true) : ∃ t, exec (.biquad k d a b c) s = .next t ∧
      let y := fAdd (fMul b0 x) s1
      u.puts k r.graph [(b, 0, [fAdd (fSub (fMul b1 x) (fMul a1 y)) s2, fSub (fMul b2 x) (fMul a2 y)]), (d, 0, [y])] t := by
  have hnext := h.next (c := .biquad k d a b c) rfl
  simp only [nth, biquad, hg, if_true] at hnext
  exact ⟨_, hnext, State.writing_puts ..⟩

end

/-- Settles O32, operator by operator: each goes on with the words it read, and its state and results meet `puts`. -/
theorem filtersAndCompensatorsGiveTheirResults : Obligations.FiltersAndCompensatorsGiveTheirResults := by
  intro s k d a b c e
  refine ⟨fun r u x lo hi h hx hlo hhi hle => exec_lim_gives h hx hlo hhi hle, lim_guards s k d a b c,
    fun r u x y z h hg => exec_lpf1_gives h hg, lpf1_guards s k d a b c, fun r u x y z h hg => exec_rate_gives h hg,
    fun r u x y g lo hi h hg hle => exec_integ_gives h hg hle,
    fun r u x s1 s2 b0 b1 b2 a1 a2 h hg => exec_biquad_gives h hg, fun three r u x m v bk h => ?_,
    fun r u ds m w dp q h hq => ?_, minsel_guards s k d a b c e⟩
  · intro c' hreads op l
    exact ⟨exec_comp_out hreads, fun _ _ hy hoff => State.compOut_of_off hy hoff, fun hin _ hq => exec_comp_gives hreads hin hq⟩
  · obtain ⟨t, hnext, hputs⟩ := exec_minsel_gives h hq
    refine ⟨t, _, _, hnext, fun y hy => ?_, hputs⟩
    intro v hfrozen hown
    rw [hy]
    exact v.selOut_of_own y hfrozen hown

end Sys2Proof.Machine

namespace Sys2Proof.Machine

set_option Elab.async false

/-! ### What a fault leaves of the pace -/

/-- The gates in a row below the floor of TB_MAX, and the pace's status bits. -/
def State.paceMarks (s : State) : List Nat × Nat × Nat :=
  (s.fab.paceRun, s.fld F.HB_PACE_STAT_BELOW_BAND, s.fld F.HB_PACE_STAT_BELOW_FLOOR)

theorem State.paceMarks_of_fr {m : Nat} {s t : State} (h : Fr m s t) (hfab : m.testBit 10 = false := by decide)
    (hstat : m.testBit 46 = false := by decide) : t.paceMarks = s.paceMarks := by
  rw [State.paceMarks, State.paceMarks, h.keep_fab hfab, h.keep_fld (f := F.HB_PACE_STAT_BELOW_BAND) hstat,
    h.keep_fld (f := F.HB_PACE_STAT_BELOW_FLOOR) hstat]

theorem State.paceMarks_setTStat (s : State) (g t : Nat) (st : TStat) : (s.setTStat g t st).paceMarks = s.paceMarks := by
  rw [State.setTStat]
  split <;> rfl

/-- A release shows its margin beside those bits. -/
theorem State.paceMarks_releaseAt (s : State) (r : Trigger) : (s.releaseAt r).paceMarks = s.paceMarks := by
  have hrel : QueueRel (fun s t => t.paceMarks = s.paceMarks) := queueRel_eq State.paceMarks (fun _ _ _ => rfl) (fun _ _ _ => rfl)
  have hplaced (u : State) (g : Nat) : (u.readyTasks g).placeReady.paceMarks = u.paceMarks :=
    (hrel.placeReady _ fun _ _ v => v.paceMarks_setTStat _ _ _).trans
      (hrel.readyTasks g u fun _ _ _ _ _ _ v => v.paceMarks_setTStat _ _ _)
  have hmargin (v : Nat) : (s.set F.HB_PACE_STAT_MARGIN_BAND v).paceMarks = s.paceMarks :=
    congrArg (Prod.mk s.fab.paceRun) (congrArg₂ Prod.mk (State.fld_set_apart s v rfl rfl) (State.fld_set_apart s v rfl rfl))
  have hinc (f : Fld) (hf : f.reg = A.HB_LATE) : (s.inc f).paceMarks = s.paceMarks :=
    State.paceMarks_of_fr (m := 0x2000000000000) (State.inc_fr (Fr.refl _ _) (by rw [hf]; decide))
  rw [State.releaseAt]
  split
  next => rfl
  next d _ =>
    refine State.ite_both State.paceMarks rfl ?_
    split
    next =>
      exact State.ite_both State.paceMarks (hinc _ rfl) (State.ite_both State.paceMarks (hinc _ rfl) rfl)
    next => exact (hplaced _ r.graph).trans (hmargin r.band)

/-- No fault alters them. -/
theorem faultRel_paceMarks : FaultRel (fun s t => t.paceMarks = s.paceMarks) where
  refl _ := rfl
  trans h h' := h'.trans h
  off h := State.paceMarks_of_fr h
  release := State.paceMarks_releaseAt
  bgStop _ := rfl

/-! ### The axes that a fault moves to SAFE (R285) -/

/-- An axis that is to move to SAFE still is. -/
def State.MarksKept (s t : State) : Prop := ∀ x, (s.ax x).fault = true → (t.ax x).fault = true

theorem State.MarksKept.trans {s t u : State} (h : s.MarksKept t) (h' : t.MarksKept u) : s.MarksKept u := fun x hx => h' x (h x hx)

theorem State.ax_of_fr {m : Nat} {s t : State} (h : Fr m s t) (x : Axis) (ha : m.testBit 13 = false := by decide)
    (hb : m.testBit 14 = false := by decide) : t.ax x = s.ax x := by
  cases x
  · exact h.keep_axA ha
  · exact h.keep_axB hb

theorem State.MarksKept.of_fr {m : Nat} {s t : State} (h : Fr m s t) (ha : m.testBit 13 = false := by decide)
    (hb : m.testBit 14 = false := by decide) : s.MarksKept t := fun x hx => (congrArg Ax.fault (State.ax_of_fr h x ha hb)).trans hx

theorem State.marks_markAxes_fatal (s : State) {code : Nat} (sc : Nat) (h : faultClass code = 3) (x : Axis) :
    ((s.markAxes code sc).ax x).fault = true := by
  rw [State.markAxes, h]
  cases x <;> rfl

theorem State.marksKept_markAxes (s : State) (code sc : Nat) : s.MarksKept (s.markAxes code sc) := by
  have hmark (x : Axis) (safe : Bool) : s.MarksKept ((s.modAx x (fun a => { a with fault := a.fault || safe, hit := true })).modSv x
      (fun v => { v with fol := { v.fol with hurt := true } })) := by
    intro y hy
    cases x <;> cases y
    · exact Bool.or_eq_true _ _ |>.mpr (.inl hy)
    · exact hy
    · exact hy
    · exact Bool.or_eq_true _ _ |>.mpr (.inl hy)
  by_cases h : faultClass code = 3
  · exact fun x _ => s.marks_markAxes_fatal sc h x
  · rw [State.markAxes, if_neg (by simpa using h)]
    split_ifs
    · exact hmark .a _
    · exact hmark .b _
    · exact fun _ hx => hx

theorem State.ax_testAbort (s : State) (code sc : Nat) (x : Axis) : (s.testAbort code sc).ax x = s.ax x :=
  State.ax_of_fr (State.testAbort_fr (κ := 0xc2c01000000000800000004000000000000000000000000000000000000002400022018400) (Fr.refl _ _)) x

theorem State.marksKept_faultNow (s : State) (code sc unit detail : Nat) : s.MarksKept (s.faultNow code sc unit detail) := by
  have hraise : s.MarksKept (s.raiseNow code sc unit detail) := State.MarksKept.of_fr (State.raiseNow_fr
    (κ := 0x2c01000000004ac0000004000000000000000000000000000000000000002400002018400) (Fr.refl _ _))
  exact fun x hx => (congrArg Ax.fault (State.ax_testAbort _ code sc x)).trans (hraise.trans (State.marksKept_markAxes _ code sc) x hx)

theorem State.marksKept_grtAdd (s : State) (k : Nat) : s.MarksKept (s.grtAdd k) := by
  have hevent (u : State) : u.MarksKept (u.event 103) := State.MarksKept.of_fr (State.event_fr
    (κ := 0x2c01000000000800000004000000000000000000000000000000000000002400002018400) (Fr.refl _ _))
  rw [State.grtAdd]
  split_ifs
  · exact (s.marksKept_faultNow 48 4 k 0).trans (hevent _)
  · exact (State.MarksKept.of_fr (State.hold_fr (κ := 0x1000) (Fr.refl _ _))).trans (hevent _)
  · exact fun _ hx => hx

theorem State.marksKept_grtAdds (s : State) (l : List Nat) : s.MarksKept (s.forEach l State.grtAdd) := by
  induction l generalizing s with
  | nil => exact fun _ hx => hx
  | cons k l ih => exact (s.marksKept_grtAdd k).trans (ih _)

theorem State.marksKept_fault (s : State) (code sc unit detail : Nat) : s.MarksKept (s.fault code sc unit detail) := by
  rw [State.fault]
  split
  · exact (s.marksKept_faultNow code sc unit detail).trans (State.marksKept_grtAdds _ _)
  · exact State.MarksKept.of_fr (State.hold_fr (κ := 0x1000) (Fr.refl _ _))

/-- A FATAL fault in RUNNING marks both axes. -/
theorem State.marks_fault_fatal (s : State) {code : Nat} (sc unit detail : Nat) (hrun : s.isRunning = true) (h : faultClass code = 3)
    (x : Axis) : ((s.fault code sc unit detail).ax x).fault = true := by
  rw [State.fault, if_pos (by simp [hrun])]
  refine State.marksKept_grtAdds _ _ x ((congrArg Ax.fault (State.ax_testAbort _ code sc x)).trans ?_)
  exact State.marks_markAxes_fatal _ sc h x

/-- What the choice of a safe state can come to (R480). -/
theorem State.chooseSafe_rel {R : State → State → Prop} {s : State} {x : Axis} {st rank origin : Nat} {retry : Bool} (hrefl : R s s)
    (hdue : ∀ f, R s (s.modTr x f)) (hjoin : R s (s.retryJoin x retry)) (hdropped : R s (s.ascDropped x))
    (hput : R s ((s.retryJoin x retry).putSafe x st rank origin)) : R s (s.chooseSafe x st rank origin retry) := by
  simp only [State.chooseSafe]
  split
  next =>
    split
    next => exact hdropped
    next => exact hrefl
  next =>
    split
    next =>
      split
      next => exact hdue _
      next =>
        split
        next => exact hdue _
        next => exact hjoin
    next =>
      split
      next => exact hput
      next => exact hjoin

theorem State.marksKept_chooseSafe (s : State) (x : Axis) (st rank origin : Nat) (retry : Bool) :
    s.MarksKept (s.chooseSafe x st rank origin retry) := by
  have hjoin : s.MarksKept (s.retryJoin x retry) := by
    intro y hy
    rw [State.retryJoin, State.retrySet, State.setB, State.ax_set]
    cases x <;> cases y <;> exact hy
  have hput (u : State) : u.MarksKept (u.putSafe x st rank origin) := State.MarksKept.of_fr (State.putSafe_fr
    (κ := 0x2c01000000000901c00044000000000204000000000000000000000000002400002078420) (Fr.refl _ _))
  exact State.chooseSafe_rel (fun _ hy => hy) (fun f y hy => by rwa [State.ax_modTr]) hjoin (State.MarksKept.of_fr (State.ascDropped_fr
    (κ := 0x1c00000000000000000000000000000000000000000000000000060000) (Fr.refl _ _))) (hjoin.trans (hput _))

/-! ### The cause of code 34, of the device: a safe state ends causes of its axis alone -/

theorem State.cause34_setCause (s : State) (x : Axis) {c : Nat} (b : Bool) (hc : c < 32) :
    (s.setCause (scAxis x) c b).cause 0 34 = s.cause 0 34 := by
  refine State.getBit_setBit_other _ _ _ _ _ _ rfl (.inl ?_)
  have hword : c / 32 = 0 := Nat.div_eq_of_lt hc
  cases x <;> simp only [causeFld, hword] <;> decide

theorem State.cause34_putSafe (s : State) (x : Axis) (st rank origin : Nat) :
    (s.putSafe x st rank origin).cause 0 34 = s.cause 0 34 := by
  have hends (u : State) : (u.shortsEnd x st).cause 0 34 = u.cause 0 34 := by
    rw [State.shortsEnd]
    split
    · rfl
    · exact (State.cause34_setCause _ x false (by decide)).trans (State.cause34_setCause _ x false (by decide))
  rw [State.putSafe_eq]
  refine (State.cause_of_fr (m := 0x2c01000000000800000004000000000204000000000000000000000000002400002018420) (Fr.ite
    (State.evx_fr ?_) ?_) (by decide) _ _).trans ((hends _).trans (State.cause_of_fr (s.safeGates_fr x st rank origin) (by decide) _ _))
  all_goals exact Fr.ite (State.compsZero_fr (Fr.refl _ _)) (Fr.refl _ _)

theorem State.cause34_chooseSafe (s : State) (x : Axis) (st rank origin : Nat) (retry : Bool) :
    (s.chooseSafe x st rank origin retry).cause 0 34 = s.cause 0 34 := by
  have hjoin : (s.retryJoin x retry).cause 0 34 = s.cause 0 34 :=
    State.cause_of_fr (State.retryJoin_fr (κ := 0x400000000000000000000000000000000000000000000000000006000) (Fr.refl _ _)) (by decide) _ _
  exact State.chooseSafe_rel (R := fun s t => t.cause 0 34 = s.cause 0 34) rfl
    (fun f => State.cause_of_fr (m := 0x60000) (State.modTr_fr (Fr.refl _ _)) (by decide) _ _) hjoin
    (State.cause_of_fr (State.ascDropped_fr (κ := 0x1c00000000000000000000000000000000000000000000000000060000) (Fr.refl _ _))
      (by decide) _ _) ((State.cause34_putSafe _ x st rank origin).trans hjoin)

/-! ### What a gate's faults keep -/

/-- The later parts of a gate keep its counts and floors, and lose no bit, status, cause of code 34 or mark. -/
structure State.PaceKept (s t : State) : Prop where
  regs : ∀ f, fam f.reg = 12 ∨ fam f.reg = 13 ∨ fam f.reg = 211 → t.fld f = s.fld f
  runs : t.fab.paceRun = s.fab.paceRun
  running : t.isRunning = s.isRunning
  bits : ∀ f i, i < 4 → f = F.HB_PACE_STAT_BELOW_BAND ∨ f = F.HB_PACE_STAT_BELOW_FLOOR → s.getBit f i = true → t.getBit f i = true
  stat : ∀ code, s.stat 0 code = true → t.stat 0 code = true
  cause : s.cause 0 34 = true → t.cause 0 34 = true
  marks : s.MarksKept t

theorem State.PaceKept.refl (s : State) : s.PaceKept s :=
  ⟨fun _ _ => rfl, rfl, rfl, fun _ _ _ _ h => h, fun _ h => h, id, fun _ h => h⟩

theorem State.PaceKept.trans {s t u : State} (h : s.PaceKept t) (h' : t.PaceKept u) : s.PaceKept u :=
  ⟨fun f hf => (h'.regs f hf).trans (h.regs f hf), h'.runs.trans h.runs, h'.running.trans h.running,
    fun f i hi hf hb => h'.bits f i hi hf (h.bits f i hi hf hb), fun c hc => h'.stat c (h.stat c hc), h'.cause ∘ h.cause,
    h.marks.trans h'.marks⟩

theorem State.fld_of_pace_fr {m : Nat} {s t : State} {f : Fld} (h : Fr m s t) (hf : fam f.reg = 12 ∨ fam f.reg = 13 ∨ fam f.reg = 211)
    (h12 : m.testBit 44 = false := by decide) (h13 : m.testBit 45 = false := by decide) (h211 : m.testBit 243 = false := by decide) :
    t.fld f = s.fld f := by
  refine h.keep_fld ?_
  rcases hf with hf | hf | hf
  · rw [hf]; exact h12
  · rw [hf]; exact h13
  · rw [hf]; exact h211

theorem State.getBit_of_paceMarks {s t : State} {f : Fld} (i : Nat) (h : t.paceMarks = s.paceMarks)
    (hf : f = F.HB_PACE_STAT_BELOW_BAND ∨ f = F.HB_PACE_STAT_BELOW_FLOOR) : t.getBit f i = s.getBit f i := by
  obtain ⟨-, hbits⟩ := Prod.mk.inj h
  obtain ⟨hband, hfloor⟩ := Prod.mk.inj hbits
  rcases hf with rfl | rfl
  · exact congrArg (bit · i) hband
  · exact congrArg (bit · i) hfloor

theorem State.paceKept_fault (s : State) (code unit detail : Nat) : s.PaceKept (s.fault code 0 unit detail) := by
  have hmarks := faultRel_paceMarks.fault s code 0 unit detail
  exact ⟨fun f hf => State.fld_of_pace_fr (State.fault_fr
      (κ := 0xc2c01000008004ac000000400000000000000000000000000000000000000240002201f400) (Fr.refl _ _)) hf,
    congrArg Prod.fst hmarks, s.isRunning_fault code 0 unit detail, fun f i _ hf hb => (State.getBit_of_paceMarks i hmarks hf).trans hb,
    fun c hc => s.stat_fault_mono code 0 unit detail 0 c hc, (s.cause_fault code 0 unit detail 0 34).trans,
    s.marksKept_fault code 0 unit detail⟩

theorem State.paceKept_chooseSafe (s : State) (x : Axis) (st rank origin : Nat) (retry : Bool) :
    s.PaceKept (s.chooseSafe x st rank origin retry) := by
  have hfr : Fr 0x2c01000000000901c0004400000000020400000000000000000000000000240000207e420 s (s.chooseSafe x st rank origin retry) :=
    State.chooseSafe_fr (Fr.refl _ _)
  have hmarks := faultRel_paceMarks.chooseSafe s x st rank origin retry
  exact ⟨fun f hf => State.fld_of_pace_fr hfr hf, congrArg Prod.fst hmarks, State.isRunning_of_fr hfr,
    fun f i _ hf hb => (State.getBit_of_paceMarks i hmarks hf).trans hb,
    fun c hc => (State.stat_of_fr hfr (by decide) 0 c).trans hc,
    (s.cause34_chooseSafe x st rank origin retry).trans, s.marksKept_chooseSafe x st rank origin retry⟩

theorem State.paceKept_fatal (s : State) (code unit detail : Nat) : s.PaceKept (s.fatal code unit detail) :=
  ((s.paceKept_fault code unit detail).trans (State.paceKept_chooseSafe _ .a _ 6 3 false)).trans
    (State.paceKept_chooseSafe _ .b _ 6 3 false)

/-- The bit of a cluster is set; no other is lost. -/
theorem State.paceKept_setBit (s : State) {f : Fld} (c : Nat) (hf : f = F.HB_PACE_STAT_BELOW_BAND ∨ f = F.HB_PACE_STAT_BELOW_FLOOR) :
    s.PaceKept (s.setBit f c true) := by
  have hfr : Fr 0x400000000000 s (s.setBit f c true) := State.setBit_fr (Fr.refl _ _) (by rcases hf with rfl | rfl <;> decide)
  refine ⟨fun g hg => State.fld_of_pace_fr hfr hg, by rw [hfr.keep_fab], State.isRunning_of_fr hfr, fun g i hi hg hb => ?_,
    fun k hk => (State.stat_of_fr hfr (by decide) 0 k).trans hk, (State.cause_of_fr hfr (by decide) 0 34).trans, State.MarksKept.of_fr hfr⟩
  by_cases heq : g = f
  · subst heq
    rw [State.getBit_setBit _ _ _ _ _ (by rcases hf with rfl | rfl <;> rfl), hb]
    have hw : i < g.width := by rcases hf with rfl | rfl <;> exact hi
    simp [hw]
  · rw [State.getBit_setBit_other _ _ _ _ _ _ (by rcases hf with rfl | rfl <;> rfl) ?_]
    · exact hb
    · rcases hf with rfl | rfl <;> rcases hg with rfl | rfl
      · exact absurd rfl heq
      · exact .inr (.inr (by decide))
      · exact .inr (.inl (by decide))
      · exact absurd rfl heq

theorem State.getBit_setBit_below (s : State) {f : Fld} {c : Nat} (hf : f = F.HB_PACE_STAT_BELOW_BAND ∨ f = F.HB_PACE_STAT_BELOW_FLOOR)
    (hc : c < 4) : (s.setBit f c true).getBit f c = true := by
  have hw : c < f.width := by rcases hf with rfl | rfl <;> exact hc
  rw [State.getBit_setBit _ _ _ _ _ (by rcases hf with rfl | rfl <;> rfl)]
  simp [hw]

theorem State.paceKept_causeOn (s : State) : s.PaceKept (s.setCause 0 34 true) := by
  have hfr : Fr 0x100000000000000000000000000000000000000000000000000000000000 s (s.setCause 0 34 true) := State.setCause_fr (Fr.refl _ _)
  refine ⟨fun g hg => State.fld_of_pace_fr hfr hg, by rw [hfr.keep_fab], State.isRunning_of_fr hfr,
    fun g i _ hg hb => (State.getBit_of_paceMarks i (State.paceMarks_of_fr hfr) hg).trans hb,
    fun k hk => (State.stat_of_fr hfr (by decide) 0 k).trans hk, fun _ => s.cause_setCause 0 34 true, State.MarksKept.of_fr hfr⟩

theorem State.paceKept_paceFloor (s : State) (c count : Nat) : s.PaceKept (s.paceFloor c count) := by
  have hbit := s.paceKept_setBit c (.inr rfl : F.HB_PACE_STAT_BELOW_FLOOR = _ ∨ _)
  simp only [State.paceFloor]
  split
  next => exact (hbit.trans (State.paceKept_causeOn _)).trans (State.paceKept_fatal _ 34 c count)
  next =>
    split
    next => exact hbit
    next => exact State.PaceKept.refl s

theorem State.paceKept_paceBand (s : State) (c count : Nat) : s.PaceKept (s.paceBand c count) := by
  rw [State.paceBand]
  split
  next => exact (s.paceKept_setBit c (.inl rfl)).trans (State.paceKept_fault _ 37 c count)
  next => exact State.PaceKept.refl s

/-- The second gate in a row below the floor of TB_MAX (R159). -/
theorem State.paceFloor_second (s : State) {c : Nat} (count : Nat) (hrun : s.isRunning = true) (hc : c < 4)
    (h : nth 0 s.fab.paceRun c = 2) :
    (s.paceFloor c count).getBit F.HB_PACE_STAT_BELOW_FLOOR c = true ∧ (s.paceFloor c count).stat 0 34 = true ∧
      (s.paceFloor c count).cause 0 34 = true ∧ ∀ x, ((s.paceFloor c count).ax x).fault = true := by
  have hset := s.paceKept_setBit c (.inr rfl : F.HB_PACE_STAT_BELOW_FLOOR = _ ∨ _)
  have hon := (s.setBit F.HB_PACE_STAT_BELOW_FLOOR c true).paceKept_causeOn
  have hbit := hon.bits _ c hc (.inr rfl) (s.getBit_setBit_below (.inr rfl) hc)
  have hcause := (s.setBit F.HB_PACE_STAT_BELOW_FLOOR c true).cause_setCause 0 34 true
  have hrunning := (hon.running.trans hset.running).trans hrun
  simp only [State.paceFloor, h, if_true]
  generalize (s.setBit F.HB_PACE_STAT_BELOW_FLOOR c true).setCause 0 34 true = u at hbit hcause hrunning
  have hsafe : (u.fault 34 0 c count).PaceKept (u.fatal 34 c count) :=
    (State.paceKept_chooseSafe _ .a _ 6 3 false).trans (State.paceKept_chooseSafe _ .b _ 6 3 false)
  exact ⟨(u.paceKept_fatal 34 c count).bits _ c hc (.inr rfl) hbit, hsafe.stat 34 (u.stat_fault 34 0 c count hrunning),
    (u.paceKept_fatal 34 c count).cause hcause, fun x => hsafe.marks x (u.marks_fault_fatal 0 c count hrunning (by decide) x)⟩

/-- A gate below the floor of the present band (R158). -/
theorem State.paceBand_below (s : State) {c count : Nat} (hrun : s.isRunning = true) (hc : c < 4)
    (h : count < s.fld F.HB_PACE_LIM_BAND_FLOOR) :
    (s.paceBand c count).getBit F.HB_PACE_STAT_BELOW_BAND c = true ∧ (s.paceBand c count).stat 0 37 = true := by
  have hset := s.paceKept_setBit c (.inl rfl : F.HB_PACE_STAT_BELOW_BAND = _ ∨ _)
  rw [State.paceBand, if_pos h]
  exact ⟨(State.paceKept_fault _ 37 c count).bits _ c hc (.inl rfl) (s.getBit_setBit_below (.inl rfl) hc),
    State.stat_fault _ 37 0 c count (hset.running.trans hrun)⟩

/-! ### The three passes over the clusters -/

theorem State.forEach_rel {R : State → State → Prop} (hrefl : ∀ s, R s s) (htrans : ∀ {s t u}, R s t → R t u → R s u)
    {f : State → Nat → State} {l : List Nat} (hf : ∀ u j, j ∈ l → R u (f u j)) (s : State) : R s (s.forEach l f) := by
  induction l generalizing s with
  | nil => exact hrefl s
  | cons a l ih => exact htrans (hf s a List.mem_cons_self) (ih (fun u j hj => hf u j (List.mem_cons_of_mem a hj)) (f s a))

/-- A pass reaches cluster c with what the clusters before it keep, and those after it keep what it then leaves. -/
theorem State.forEach_through {R : State → State → Prop} (hrefl : ∀ s, R s s) (htrans : ∀ {s t u}, R s t → R t u → R s u)
    {f : State → Nat → State} {c : Nat} {l : List Nat} (hf : ∀ u j, j ∈ l → j ≠ c → R u (f u j)) (hnd : l.Nodup) (hc : c ∈ l)
    (s : State) : ∃ u, R s u ∧ R (f u c) (s.forEach l f) := by
  induction l generalizing s with
  | nil => exact absurd hc List.not_mem_nil
  | cons a l ih =>
    obtain ⟨hal, hl⟩ := List.nodup_cons.mp hnd
    by_cases hac : a = c
    · subst hac
      exact ⟨s, hrefl s, State.forEach_rel hrefl htrans
        (fun u j hj => hf u j (List.mem_cons_of_mem a hj) fun h => hal (h ▸ hj)) (f s a)⟩
    · obtain ⟨u, hu, hlast⟩ := ih (fun u j hj => hf u j (List.mem_cons_of_mem a hj)) hl
        ((List.mem_cons.mp hc).resolve_left (Ne.symm hac)) (f s a)
      exact ⟨u, htrans (hf s a List.mem_cons_self hac) hu, hlast⟩

/-- One pass of a gate over its clusters. -/
def State.clusters (s : State) (counts : List Nat) (f : State → Nat → Nat → State) : State :=
  s.forEach (List.range 4) (fun s c => f s c (nth 0xFFFF counts c))

theorem State.clusters_through {R : State → State → Prop} (hrefl : ∀ s, R s s) (htrans : ∀ {s t u}, R s t → R t u → R s u)
    {f : State → Nat → Nat → State} {c : Nat} (hf : ∀ u j n, j < 4 → j ≠ c → R u (f u j n)) (hc : c < 4) (s : State)
    (counts : List Nat) : ∃ u, R s u ∧ R (f u c (nth 0xFFFF counts c)) (s.clusters counts f) :=
  State.forEach_through hrefl htrans (fun u j hj => hf u j _ (List.mem_range.mp hj)) List.nodup_range (List.mem_range.mpr hc) s

theorem State.paceKept_clusters {f : State → Nat → Nat → State} (hf : ∀ u j n, State.PaceKept u (f u j n)) (s : State) (counts : List Nat) :
    s.PaceKept (s.clusters counts f) :=
  State.forEach_rel State.PaceKept.refl State.PaceKept.trans (fun u j _ => hf u j _) s

/-! ### The counts of a gate -/

theorem A.HB_PACE_LIM_ne (c : Nat) : A.HB_PACE_LIM ≠ A.HB_PACE c := fun h => by
  have hfam := congrArg fam h
  rw [A.HB_PACE_LIM_fam, A.HB_PACE_fam] at hfam
  exact absurd hfam (by decide)

/-- What a gate's count of a cluster goes by, and shows: the floor of TB_MAX, the number of clusters, LAST, MIN and the gates in a row
below the floor. -/
structure PaceCell where
  floor : Nat
  len : Nat
  last : Nat
  min : Nat
  run : Nat

/-- The cell of cluster c. -/
def State.paceCell (s : State) (c : Nat) : PaceCell where
  floor := s.fld F.HB_PACE_LIM_IMG_FLOOR
  len := s.fab.paceRun.length
  last := s.fld (F.HB_PACE_LAST c)
  min := s.fld (F.HB_PACE_MIN c)
  run := nth 0 s.fab.paceRun c

/-- The cell of cluster c after its count. -/
def PaceCell.after (q : PaceCell) (c count : Nat) : PaceCell :=
  { q with last := Min.min count 0xFFFF, min := Min.min (Min.min count 0xFFFF) q.min,
           run := if c < q.len then (if count < q.floor then q.run + 1 else 0) else q.run }

/-- The registers after a count. -/
def State.paceShown (s : State) (c count : Nat) : State :=
  (s.set (F.HB_PACE_LAST c) (min count 0xFFFF)).set (F.HB_PACE_MIN c) (min (min count 0xFFFF) (s.fld (F.HB_PACE_MIN c)))

theorem State.paceCluster_eq (s : State) (c count : Nat) : s.paceCluster c count = (s.paceShown c count).modFab (fun b =>
    { b with paceRun := setNth b.paceRun c
               (if count < (s.paceShown c count).fld F.HB_PACE_LIM_IMG_FLOOR then nth 0 (s.paceShown c count).fab.paceRun c + 1 else 0) }) :=
  rfl

theorem State.fab_paceShown (s : State) (c count : Nat) : (s.paceShown c count).fab = s.fab := rfl

theorem State.fld_modFab (s : State) (b : Fabric → Fabric) (f : Fld) : (s.modFab b).fld f = s.fld f := rfl

theorem State.fld_paceShown (s : State) {f : Fld} (c count : Nat) (hf : f.reg ≠ A.HB_PACE c) : (s.paceShown c count).fld f = s.fld f := by
  rw [State.paceShown, State.fld_set_other _ (F.HB_PACE_MIN c) f _ rfl (.inl hf), State.fld_set_other _ (F.HB_PACE_LAST c) f _ rfl (.inl hf)]

theorem State.fld_paceCluster (s : State) {f : Fld} (c count : Nat) (hf : f.reg ≠ A.HB_PACE c) :
    (s.paceCluster c count).fld f = s.fld f := by
  rw [State.paceCluster_eq, State.fld_modFab, State.fld_paceShown s c count hf]

theorem State.paceRun_paceCluster (s : State) (c count : Nat) : (s.paceCluster c count).fab.paceRun =
    setNth s.fab.paceRun c (if count < s.fld F.HB_PACE_LIM_IMG_FLOOR then nth 0 s.fab.paceRun c + 1 else 0) := by
  rw [State.paceCluster_eq, State.fld_paceShown (f := F.HB_PACE_LIM_IMG_FLOOR) s c count (A.HB_PACE_LIM_ne c), State.fab_paceShown]
  rfl

theorem State.paceCluster_last (s : State) (c count : Nat) : (s.paceCluster c count).fld (F.HB_PACE_LAST c) = min count 0xFFFF := by
  have hsmall : min count 0xFFFF < 2 ^ (F.HB_PACE_LAST c).width := by
    show min count 0xFFFF < 2 ^ 16
    omega
  rw [State.paceCluster_eq, State.fld_modFab, State.paceShown, State.fld_set_other _ _ _ _ rfl (.inr (.inl (show 15 < 16 by decide))),
    State.fld_set_of_lt _ _ _ rfl hsmall]

theorem State.paceCluster_min (s : State) (c count : Nat) :
    (s.paceCluster c count).fld (F.HB_PACE_MIN c) = min (min count 0xFFFF) (s.fld (F.HB_PACE_MIN c)) := by
  have hsmall : min (min count 0xFFFF) (s.fld (F.HB_PACE_MIN c)) < 2 ^ (F.HB_PACE_MIN c).width := by
    show min (min count 0xFFFF) (s.fld (F.HB_PACE_MIN c)) < 2 ^ 16
    omega
  rw [State.paceCluster_eq, State.fld_modFab, State.paceShown, State.fld_set_of_lt _ _ _ rfl hsmall]

theorem State.paceCell_paceCluster_ne (s : State) {j c : Nat} (n : Nat) (hj : j < 4) (hc : c < 4) (h : j ≠ c) :
    (s.paceCluster j n).paceCell c = s.paceCell c := by
  have hreg : A.HB_PACE c ≠ A.HB_PACE j := fun he => h (by simp only [A.HB_PACE] at he; omega)
  rw [State.paceCell, State.paceRun_paceCluster, setNth_length, nth_setNth, if_neg (fun he => h he.1), s.fld_paceCluster j n (A.HB_PACE_LIM_ne j),
    s.fld_paceCluster (f := F.HB_PACE_LAST c) j n hreg, s.fld_paceCluster (f := F.HB_PACE_MIN c) j n hreg, State.paceCell]

theorem nth_setNth_same {α : Type} (d : α) (l : List α) (n : Nat) (v : α) :
    nth d (setNth l n v) n = if n < l.length then v else nth d l n :=
  (nth_setNth d l n n v).trans (if_congr (and_iff_right rfl) rfl rfl)

theorem State.paceCell_paceCluster (s : State) (c count : Nat) : (s.paceCluster c count).paceCell c = (s.paceCell c).after c count := by
  simp only [State.paceCell, PaceCell.after, State.paceRun_paceCluster, setNth_length, nth_setNth_same, s.paceCluster_last c count,
    s.paceCluster_min c count, s.fld_paceCluster (f := F.HB_PACE_LIM_IMG_FLOOR) c count (A.HB_PACE_LIM_ne c)]
  rfl

/-- The first pass leaves each cluster what its own count makes of it. -/
theorem State.paceCell_counted (s : State) (counts : List Nat) {c : Nat} (hc : c < 4) :
    (s.clusters counts State.paceCluster).paceCell c = (s.paceCell c).after c (nth 0xFFFF counts c) := by
  obtain ⟨u, hu, hlast⟩ := State.clusters_through (R := fun s t => t.paceCell c = s.paceCell c) (fun _ => rfl) (fun h h' => h'.trans h)
    (fun u j n hj => u.paceCell_paceCluster_ne n hj hc) hc s counts
  rw [hlast, State.paceCell_paceCluster, hu]

theorem State.counted_fr (s : State) (counts : List Nat) : Fr 0x100000000400 s (s.clusters counts State.paceCluster) :=
  State.forEach_rel (Fr.refl _) Fr.trans (fun _ _ _ => State.paceCluster_fr (Fr.refl _ _)) s

/-! ### The end of a gate -/

/-- The state after a gate's counts and faults. -/
def State.gateFaults (s : State) (counts : List Nat) : State :=
  ((s.clusters counts State.paceCluster).clusters counts State.paceFloor).clusters counts State.paceBand

/-- With every cluster at or above the floor of TB_MAX, or for the first gate below it, the cause of code 34 ends (R159). -/
def State.gateCause (s : State) : State := if s.fab.paceRun.all (fun n => decide (n < 2)) then s.setCause 0 34 false else s

/-- R161: the floor of the present band from now on. -/
def State.gateBand (s : State) : State := s.set F.HB_PACE_LIM_BAND_FLOOR (bandFloor (s.fld F.ORG_TJ_BAND))

theorem exec_paceGate {s : State} (counts : List Nat) (h : s.isRunning = true) :
    exec (.paceGate counts) s = .next (s.gateFaults counts).gateCause.gateBand :=
  congrArg Host.Outcome.next (if_pos h)

theorem State.gateEnd_fr (s : State) : Fr 0x100000000000000000000000000000000000000000000000200000000000 s s.gateCause.gateBand :=
  State.set_fr (Fr.ite (State.setCause_fr (Fr.refl _ _)) (Fr.refl _ _))

theorem bandFloor_lt (band : Nat) : bandFloor band < 65536 := by
  rcases nth_mem_or_default 4200 [5400, 5400, 5000, 4650, 4200] band with h | h
  · exact (by decide : ∀ n ∈ [5400, 5400, 5000, 4650, 4200], n < 65536) _ h
  · exact lt_of_eq_of_lt h (by decide)

theorem State.cause_gateEnd (s : State) : s.gateCause.gateBand.cause 0 34 = s.gateCause.cause 0 34 :=
  State.cause_of_fr (m := 0x200000000000) (State.set_fr (Fr.refl _ _)) (by decide) 0 34

/-! ### A gate -/

theorem nth_of_getElem? {α : Type} (x : α) {l : List α} {n : Nat} {v : α} (h : l[n]? = some v) : nth x l n = v := by
  induction l generalizing n with
  | nil => exact absurd h (by simp)
  | cons y l ih =>
    cases n with
    | zero => exact Option.some.inj h
    | succ n => exact ih (by simpa using h)

section
variable (s : State) (counts : List Nat)

theorem State.paceKept_gateFaults : (s.clusters counts State.paceCluster).PaceKept (s.gateFaults counts) :=
  (State.paceKept_clusters State.paceKept_paceFloor _ counts).trans (State.paceKept_clusters State.paceKept_paceBand _ counts)

theorem State.fld_counted {f : Fld} (hf : fam f.reg = 13 ∨ fam f.reg = 211) : (s.clusters counts State.paceCluster).fld f = s.fld f :=
  (s.counted_fr counts).keep_fld (by rcases hf with h | h <;> rw [h] <;> decide)

theorem State.fld_gateFaults {f : Fld} (hf : fam f.reg = 13 ∨ fam f.reg = 211) : (s.gateFaults counts).fld f = s.fld f :=
  ((s.paceKept_gateFaults counts).regs f (.inr hf)).trans (s.fld_counted counts hf)

variable {c : Nat} (hc : c < 4)
include hc

/-- A gate leaves each cluster the cell that its own count gives it. -/
theorem State.paceCell_gateFaults : (s.gateFaults counts).paceCell c = (s.paceCell c).after c (nth 0xFFFF counts c) := by
  have hk := s.paceKept_gateFaults counts
  have hsame : (s.gateFaults counts).paceCell c = (s.clusters counts State.paceCluster).paceCell c := by
    simp only [State.paceCell, hk.runs, hk.regs F.HB_PACE_LIM_IMG_FLOOR (.inr (.inl F.HB_PACE_LIM_IMG_FLOOR_fam)),
      hk.regs (F.HB_PACE_LAST c) (.inl (F.HB_PACE_LAST_fam c)), hk.regs (F.HB_PACE_MIN c) (.inl (F.HB_PACE_MIN_fam c))]
  exact hsame.trans (s.paceCell_counted counts hc)

variable (hrun : s.isRunning = true)
include hrun

theorem State.gateFaults_below (h : nth 0xFFFF counts c < s.fld F.HB_PACE_LIM_BAND_FLOOR) :
    (s.gateFaults counts).getBit F.HB_PACE_STAT_BELOW_BAND c = true ∧ (s.gateFaults counts).stat 0 37 = true := by
  have hfloor := State.paceKept_clusters State.paceKept_paceFloor (s.clusters counts State.paceCluster) counts
  obtain ⟨u, hu, hlast⟩ := State.clusters_through State.PaceKept.refl State.PaceKept.trans (fun u j n _ _ => u.paceKept_paceBand j n) hc
    ((s.clusters counts State.paceCluster).clusters counts State.paceFloor) counts
  have hkept := hfloor.trans hu
  have hlim : u.fld F.HB_PACE_LIM_BAND_FLOOR = s.fld F.HB_PACE_LIM_BAND_FLOOR :=
    (hkept.regs _ (.inr (.inl F.HB_PACE_LIM_BAND_FLOOR_fam))).trans (s.fld_counted counts (.inl F.HB_PACE_LIM_BAND_FLOOR_fam))
  have hrunning : u.isRunning = true := (hkept.running.trans (State.isRunning_of_fr (s.counted_fr counts))).trans hrun
  obtain ⟨hbit, hstat⟩ := u.paceBand_below hrunning hc (hlim ▸ h)
  exact ⟨hlast.bits _ c hc (.inl rfl) hbit, hlast.stat 37 hstat⟩

theorem State.gateFaults_second (h : ((s.paceCell c).after c (nth 0xFFFF counts c)).run = 2) :
    (s.gateFaults counts).getBit F.HB_PACE_STAT_BELOW_FLOOR c = true ∧ (s.gateFaults counts).stat 0 34 = true ∧
      (s.gateFaults counts).cause 0 34 = true ∧ ∀ x, ((s.gateFaults counts).ax x).fault = true := by
  obtain ⟨u, hu, hlast⟩ := State.clusters_through State.PaceKept.refl State.PaceKept.trans (fun u j n _ _ => u.paceKept_paceFloor j n) hc
    (s.clusters counts State.paceCluster) counts
  have hruns : nth 0 u.fab.paceRun c = 2 := by
    rw [hu.runs]
    exact (congrArg PaceCell.run (s.paceCell_counted counts hc)).trans h
  have hrunning : u.isRunning = true := (hu.running.trans (State.isRunning_of_fr (s.counted_fr counts))).trans hrun
  have hkept := hlast.trans (State.paceKept_clusters State.paceKept_paceBand _ counts)
  obtain ⟨hbit, hstat, hcause, hax⟩ := u.paceFloor_second (nth 0xFFFF counts c) hrunning hc hruns
  exact ⟨hkept.bits _ c hc (.inr rfl) hbit, hkept.stat 34 hstat, hkept.cause hcause, fun x => hkept.marks x (hax x)⟩

end

/-- A second gate below the floor leaves the cause of code 34 present. -/
theorem State.gateCause_of_run (s : State) {c : Nat} (h : nth 0 s.fab.paceRun c = 2) : s.gateCause = s := by
  refine if_neg fun hall => ?_
  rcases nth_mem_or_default 0 s.fab.paceRun c with hmem | hzero
  · rw [h] at hmem
    exact absurd (List.all_eq_true.mp hall 2 hmem) (by decide)
  · omega

/-- With every cluster at or above the floor its cause ends. -/
theorem State.gateCause_of_quiet (s : State) (hlen : s.fab.paceRun.length = 4) (h : ∀ c, c < 4 → nth 0 s.fab.paceRun c = 0) :
    s.gateCause.cause 0 34 = false := by
  have hall : s.fab.paceRun.all (fun n => decide (n < 2)) = true := by
    refine List.all_eq_true.mpr fun n hn => ?_
    obtain ⟨i, hi, hget⟩ := List.getElem_of_mem hn
    have hzero : n = 0 := hget ▸ (nth_of_getElem? 0 (List.getElem?_eq_getElem hi)).symm.trans (h i (hlen ▸ hi))
    simp [hzero]
  rw [State.gateCause, if_pos hall]
  exact s.cause_setCause 0 34 false

/-- Settles O29: the counts reach each cluster's cell once, the faults keep what the gate has shown, and the end of the gate alters the
cause of code 34 and BAND_FLOOR alone. -/
theorem paceGateReportsPaceBelowItsFloors : Obligations.PaceGateReportsPaceBelowItsFloors := by
  intro s counts hrun
  have hend := (s.gateFaults counts).gateEnd_fr
  refine ⟨_, exec_paceGate counts hrun, ?_, fun c n hc hn => ?_, fun hfloor hlen => ?_⟩
  · have htj : (s.gateFaults counts).gateCause.fld F.ORG_TJ_BAND = s.fld F.ORG_TJ_BAND :=
      (Fr.keep_fld (Fr.ite (State.setCause_fr (Fr.refl 0x100000000000000000000000000000000000000000000000000000000000 _)) (Fr.refl _ _))
        (by rw [F.ORG_TJ_BAND_fam]; decide)).trans (s.fld_gateFaults counts (.inr F.ORG_TJ_BAND_fam))
    rw [State.gateBand, htj]
    exact State.fld_set_of_lt _ _ _ rfl (bandFloor_lt _)
  · have hcount := nth_of_getElem? 0xFFFF hn
    have hcell := s.paceCell_gateFaults counts hc
    rw [hcount] at hcell
    refine ⟨(hend.keep_fld (by rw [F.HB_PACE_LAST_fam]; decide)).trans (congrArg PaceCell.last hcell),
      (hend.keep_fld (by rw [F.HB_PACE_MIN_fam]; decide)).trans (congrArg PaceCell.min hcell), fun hlow => ?_, fun hlow hone => ?_⟩
    · obtain ⟨hbit, hstat⟩ := s.gateFaults_below counts hc hrun (hcount ▸ hlow)
      exact ⟨(State.getBit_of_paceMarks c (State.paceMarks_of_fr hend) (.inl rfl)).trans hbit,
        (State.stat_of_fr hend (by decide) 0 37).trans hstat⟩
    · have hlen : c < s.fab.paceRun.length := (List.getElem?_eq_some_iff.mp hone).1
      have htwo : ((s.paceCell c).after c n).run = 2 := by
        simp only [PaceCell.after, State.paceCell, if_pos hlen, if_pos hlow, nth_of_getElem? 0 hone]
      obtain ⟨hbit, hstat, hcause, hax⟩ := s.gateFaults_second counts hc hrun (hcount.symm ▸ htwo)
      have hstay := (s.gateFaults counts).gateCause_of_run ((congrArg PaceCell.run hcell).trans htwo)
      refine ⟨(State.getBit_of_paceMarks c (State.paceMarks_of_fr hend) (.inr rfl)).trans hbit,
        (State.stat_of_fr hend (by decide) 0 34).trans hstat, ?_, fun x => (congrArg Ax.fault (State.ax_of_fr hend x)).trans (hax x)⟩
      rw [State.cause_gateEnd, hstay]
      exact hcause
  · have hcell (c : Nat) (hc : c < 4) := s.paceCell_gateFaults counts hc
    have hlen' : (s.gateFaults counts).fab.paceRun.length = 4 := (congrArg PaceCell.len (hcell 0 (by decide))).trans hlen
    rw [State.cause_gateEnd]
    refine State.gateCause_of_quiet _ hlen' fun c hc => (congrArg PaceCell.run (hcell c hc)).trans ?_
    have hquiet : ¬ nth 0xFFFF counts c < s.fld F.HB_PACE_LIM_IMG_FLOOR := by
      cases hn : counts[c]? with
      | none =>
        rw [nth_of_le _ _ _ (List.getElem?_eq_none_iff.mp hn)]
        have hwidth : s.fld F.HB_PACE_LIM_IMG_FLOOR < 2 ^ 16 := fieldOf_lt F.HB_PACE_LIM_IMG_FLOOR _
        omega
      | some n =>
        rw [nth_of_getElem? _ hn]
        exact Nat.not_lt.mpr (hfloor c n hc hn)
    simp only [PaceCell.after, State.paceCell, hlen, if_pos hc, if_neg hquiet]
end Sys2Proof.Machine

namespace Sys2Proof.Machine

set_option Elab.async false

/-! ### An abandonment that enables a bridge (R95, R155, R375, R479) -/

/-- The run of the one task of the graph of `roamsInSafe`. -/
def roamRun : Run :=
  { graph := 0, task := 0, scratch := List.replicate 16 0, numeric := false, steps := 4, stalled := none, lock := none, ops := 0,
    est := 0, rel := 0 }

/-- Axis A stands in the SAFE that it starts in (R95), with no safe state in force and its bus above the threshold of an ASC. Kiosk 0
runs a roaming task of it, whose list holds a MOV to a LOCAL word and a MINSEL with its dir record at 0x2000. -/
def roamsInSafe : State :=
  let task : TaskD := { tid := 0, flags := 0, kiosk := 0, oplOff := 0, oplLen := 2, ninput := 0, cost := 100 }
  let graph : GraphD :=
    { sect := 0, gid := 77, axis := 0, cls := 1, trigger := 0, trigArg := 0, deadline := 100, wcet := 0, tasks := [task], edges := [] }
  let s := { State.reset with
    die := .up
    img := { Img.none with
      axisEn := 3
      sects := [{ typ := 2, flags := 0, owner := 0, grp := 0, off := 0, len := 64, dest := 0x1000, copy1 := false }]
      graphs := [graph]
      roles := [1] }
    fab := { State.reset.fab with kiosks := [{ Kiosk.idle with run := some roamRun }] } }
  (((s.set F.GH_BOOT_STATUS_STATE 5).set (F.MC_STATE_STATE .a) axSAFE).set (F.TR_SAFE_STAT_ABOVE_ASC .a) 1).putWords 0x1000
    [0x00020001, 16, 0x00050017, 24, 0x20000000, 0, 0, 0, 0x10002000, 0, 0]

/-- The fault of the abandonment puts the axis into low ASC, which enables its bridge, and R375 sets the direction of the dir record
to +1.0. -/
theorem roamsInSafe_mov :
    (match exec (.mov 0 [] 0x20000000 0) roamsInSafe with
      | .next t => t.safe .a == 1 && t.byte 0x200B == 0x3F
      | _ => false) = true := by decide +kernel

/-- Refutes O30: the statement keeps the whole memory where a roaming task is abandoned, but the fault that the abandonment raises may put
its axis, which stands in SAFE with no safe state, into an ASC; that enables the bridge, and its compensators' records are zeroed. -/
theorem not_operatorsRunOnlyForATaskThatWaitsForNothing : ¬ Obligations.OperatorsRunOnlyForATaskThatWaitsForNothing := by
  unfold Obligations.OperatorsRunOnlyForATaskThatWaitsForNothing
  intro h
  obtain ⟨-, -, hroam, -⟩ := h roamsInSafe (.mov 0 [] 0x20000000 0) 0 0x01 [0x20000000, 0] (by decide +kernel) rfl
  obtain ⟨t, ht, -, hmem⟩ := hroam roamRun (by decide +kernel) (by decide +kernel) (by decide +kernel)
  have zero : t.byte 0x200B = 0 := (congrArg (fun m => cget _ m _) hmem).trans (by decide +kernel : roamsInSafe.byte 0x200B = 0)
  have run := roamsInSafe_mov
  rw [ht] at run
  simp [zero] at run

end Sys2Proof.Machine

namespace Sys2Proof.Machine

set_option Elab.async false

/-! ### A port that lets go as a task begins to wait for it (R600, R606) -/

/-- The run of the one task of the graph of `lettingGo`, with a count of 32 in its first scratch word. -/
def copyRun : Run :=
  { graph := 0, task := 0, scratch := [32], numeric := false, steps := 4, stalled := none, lock := none, ops := 0, est := 0, rel := 0 }

/-- Kiosk 0 runs a WINDOW task, whose first 64 bytes of window are cached: they hold a BLKCPY of 32 words, of which the cache holds 16.
A release of the flash port waits, though no transaction runs. -/
def lettingGo : State :=
  let task : TaskD := { tid := 0, flags := 2, kiosk := 0, oplOff := 0, oplLen := 1, ninput := 0, cost := 1000 }
  let graph : GraphD :=
    { sect := 0, gid := 77, axis := 0, cls := 1, trigger := 0, trigArg := 0, deadline := 100, wcet := 0, tasks := [task], edges := [] }
  let list : List Word := [0x00030026, 16, 0, 0, 0x10002000, 0x40000000, 0x00000000, 0, 0, 0, 0, 0, 0, 0, 0, 0]
  let s := { State.reset with
    die := .up
    img := { Img.none with
      axisEn := 3
      sects := [{ typ := 9, flags := 0, owner := 0, grp := 0, off := 0x1000, len := 256, dest := 0, copy1 := false }]
      graphs := [graph]
      roles := [1] }
    fab := { State.reset.fab with kiosks := [{ Kiosk.idle with run := some copyRun }] }
    ice := { State.reset.ice with lines := [(0x1000, list.flatMap wordBytes)], release := true } }
  s.set F.GH_BOOT_STATUS_STATE 5

/-- The operands of the copy: 32 words from the window to shared SRAM. -/
def copyWords : List Word := [0x10002000, 0x40000000, 0]

/-- The copy's state once its count is read. -/
def lettingGoRead : State :=
  (((lettingGo.touchWords (lettingGo.fetchWords copyRun 0x26 copyWords)).2.opBegin 0 0x26 copyWords
    (lettingGo.fetchWords copyRun 0x26 copyWords).length).readAll 0 copyRun [(0, 1)]).2

theorem lettingGo_opReads :
    (lettingGo.upsets []).opReads lettingGoRead 0 copyRun 0x26 copyWords [(0, 1)] [[32]] :=
  ⟨by decide +kernel, by decide +kernel, by decide +kernel, by decide +kernel, by decide +kernel,
    Prod.ext (by decide +kernel) rfl⟩

/-- The line is asked of a port that lets go in the same instant, so that its fill fails and the task is abandoned. -/
theorem lettingGo_blkcpy :
    (match exec (.blkcpy 0 [] 0x10002000 0x40000000 0) lettingGo with
      | .next t => (t.kiosk 0).run.isNone
      | _ => false) = true := by decide +kernel

/-- Refutes O34: the statement covers every state in RUNNING, and in one where a release of the flash port waits while no transaction
runs (no step brings that about) the port lets go as the copy asks for its line, and the task is abandoned where the statement lets it
wait. -/
theorem not_taskOperatorsLookUpCopySignalAndLock : ¬ Obligations.TaskOperatorsLookUpCopySignalAndLock := by
  unfold Obligations.TaskOperatorsLookUpCopySignalAndLock
  intro h
  obtain ⟨-, -, -, hcopy, -⟩ := h lettingGo 0 0x10002000 0x40000000 0 []
  obtain ⟨-, hmiss, -⟩ := hcopy copyRun lettingGoRead 32 lettingGo_opReads
  obtain ⟨t, ht, hwait⟩ := hmiss 0x1040 (by decide +kernel) (by decide +kernel) (by decide +kernel)
  have waits : (t.kiosk 0).run.isNone = false := by
    rw [hwait, Option.isNone_map]
    decide +kernel
  have run := lettingGo_blkcpy
  rw [ht] at run
  simp [waits] at run

end Sys2Proof.Machine

namespace Sys2Proof.Machine

set_option Elab.async false

/-! ### What an event leaves (R516, R426) -/

theorem State.fld_event (s : State) (e : Nat) {f : Fld} (h : eventReach.testBit (32 + fam f.reg) = false) :
    (s.event e).fld f = s.fld f := (State.event_fr (κ := eventReach) (Fr.refl _ s)).keep_fld h

@[simp] theorem State.sun_event (s : State) (e : Nat) : (s.event e).sun = s.sun :=
  (State.event_fr (κ := eventReach) (Fr.refl _ s)).keep_sun

/-- A register of another family than the pending bits: setting a field of it raises no event and loses none. -/
theorem State.pend_set (s : State) {f : Fld} (v e : Nat) (h : fam f.reg ≠ 207) : (s.set f v).pend e = s.pend e := by
  have hreg : (F.LDG_EVT_PEND (e / 32)).reg ≠ f.reg := fun hr => h (by rw [← hr, F.LDG_EVT_PEND_fam])
  rw [State.pend, State.getBit, State.set, State.fld_wr, if_neg hreg]; rfl

@[simp] theorem State.pend_modSun (s : State) (f : Sun → Sun) (e : Nat) : (s.modSun f).pend e = s.pend e := rfl

@[simp] theorem State.pend_spent (s : State) (e : Nat) : s.spent.pend e = s.pend e := rfl

@[simp] theorem State.sun_modSun (s : State) (f : Sun → Sun) : (s.modSun f).sun = f s.sun := rfl

/-- A field of two bits holds 0 to 3. -/
theorem State.sunState_lt (s : State) : s.sunState < 4 := fieldOf_lt F.SUN_STAT_STATE _

/-! ### A step or a set of the counter (R206, R208) -/

/-- Fields that a step or a set of the counter leaves: all but STEPPED. -/
theorem State.fld_sunMove (s : State) (n : Nat) {f : Fld} (hev : eventReach.testBit (32 + fam f.reg) = false)
    (hf : F.SUN_STAT_STEPPED.apart f = true) : (s.sunMove n).fld f = s.fld f := by
  rw [State.sunMove, State.fld_event _ _ hev, State.fld_set_apart _ _ rfl hf]; rfl

theorem State.stepped_sunMove (s : State) (n : Nat) : (s.sunMove n).fld F.SUN_STAT_STEPPED = 1 := by
  rw [State.sunMove, State.fld_event _ _ (by decide)]
  exact State.fld_set_of_lt _ _ _ rfl (by decide)

theorem State.sunState_sunMove (s : State) (n : Nat) : (s.sunMove n).sunState = s.sunState :=
  s.fld_sunMove n (by decide) (by decide)

theorem State.now_sunMove (s : State) (n : Nat) : (s.sunMove n).now = n % 2 ^ 64 := by
  rw [State.sunMove, State.now, State.sun_event]
  exact BitVec.toNat_ofNat ..

theorem State.pend_sunMove (s : State) (n : Nat) : (s.sunMove n).pend 88 = true := State.pend_event _ _ rfl

theorem State.pend_sunMove_mono (s : State) (n : Nat) {e : Nat} (he : e < 128) (h : s.pend e = true) : (s.sunMove n).pend e = true :=
  State.pend_event_mono _ _ _ he ((State.pend_set _ _ _ (by decide)).trans h)

theorem State.marks_sunMove (s : State) (n : Nat) :
    (s.sunMove n).sun.good = s.sun.good ∧ (s.sunMove n).sun.far = s.sun.far := by
  rw [State.sunMove, State.sun_event]; exact ⟨rfl, rfl⟩


/-! ### A state of the discipline is entered (table 6.6) -/

/-- What entering a state puts into the Sundial's record. -/
def State.sunEnterMarks (s : State) (st : Nat) : State :=
  let s := (s.set F.SUN_STAT_STATE st).modSun (fun u => { u with good := 0, bad := 0, far := 0, held := 0 })
  if st = 0 then s.modSun (fun u => { u with last := none }) else s

/-- What DRIFT shows in the state. -/
def State.sunEnterDrift (s : State) (st : Nat) : State := if st = 3 then s.showDrift else s.set F.SUN_DRIFT 0

/-- The event of the state. -/
def State.sunEnterEvent (s : State) (st : Nat) : State :=
  if st = 2 then s.event 86 else if st = 3 then s.event 87 else s

theorem State.sunEnter_of_ne (s : State) {st : Nat} (h : s.sunState ≠ st) :
    s.sunEnter st = ((s.sunEnterMarks st).sunEnterDrift st).sunEnterEvent st := by rw [State.sunEnter, if_neg h]; rfl

theorem State.sunEnter_same (s : State) {st : Nat} (h : s.sunState = st) : s.sunEnter st = s := by rw [State.sunEnter, if_pos h]

theorem State.fld_sunEnterMarks (s : State) (st : Nat) {f : Fld} (hf : F.SUN_STAT_STATE.apart f = true) :
    (s.sunEnterMarks st).fld f = s.fld f := by
  unfold State.sunEnterMarks
  dsimp only
  split <;> exact State.fld_set_apart s st rfl hf

theorem State.fld_sunEnterDrift (s : State) (st : Nat) {f : Fld} (hf : F.SUN_DRIFT.apart f = true) :
    (s.sunEnterDrift st).fld f = s.fld f := by
  unfold State.sunEnterDrift
  split
  · exact (State.fld_set_apart s.spent _ rfl hf).trans (State.spent_fld s f)
  · exact State.fld_set_apart s _ rfl hf

theorem State.fld_sunEnterEvent (s : State) (st : Nat) {f : Fld} (hev : eventReach.testBit (32 + fam f.reg) = false) :
    (s.sunEnterEvent st).fld f = s.fld f := by
  unfold State.sunEnterEvent
  split
  · exact s.fld_event 86 hev
  · split
    · exact s.fld_event 87 hev
    · rfl

/-- Fields that entering a state leaves: all but STATE and DRIFT. -/
theorem State.fld_sunEnter (s : State) (st : Nat) {f : Fld} (hev : eventReach.testBit (32 + fam f.reg) = false)
    (hstate : F.SUN_STAT_STATE.apart f = true) (hdrift : F.SUN_DRIFT.apart f = true) : (s.sunEnter st).fld f = s.fld f := by
  by_cases h : s.sunState = st
  · rw [s.sunEnter_same h]
  · rw [s.sunEnter_of_ne h, State.fld_sunEnterEvent _ _ hev, State.fld_sunEnterDrift _ _ hdrift, State.fld_sunEnterMarks _ _ hstate]

theorem State.sunState_sunEnter (s : State) {st : Nat} (hst : st < 4) : (s.sunEnter st).sunState = st := by
  by_cases h : s.sunState = st
  · rw [s.sunEnter_same h, h]
  · rw [s.sunEnter_of_ne h, State.sunState, State.fld_sunEnterEvent _ _ (by decide), State.fld_sunEnterDrift _ _ (by decide)]
    have hset := State.fld_set_of_lt s F.SUN_STAT_STATE st rfl hst
    unfold State.sunEnterMarks
    dsimp only
    split <;> exact hset

theorem State.sun_sunEnterDrift (s : State) (st : Nat) : (s.sunEnterDrift st).sun = s.sun := by
  unfold State.sunEnterDrift
  split
  · exact (State.showDrift_fr (κ := 0x40000000000080000000) (Fr.refl _ s)).keep_sun
  · rfl

theorem State.sun_sunEnterEvent (s : State) (st : Nat) : (s.sunEnterEvent st).sun = s.sun := by
  unfold State.sunEnterEvent; split_ifs <;> simp

theorem State.now_sunEnter (s : State) (st : Nat) : (s.sunEnter st).now = s.now := by
  by_cases h : s.sunState = st
  · rw [s.sunEnter_same h]
  · have hcnt : (s.sunEnterMarks st).sun.cnt = s.sun.cnt := by unfold State.sunEnterMarks; dsimp only; split <;> rfl
    rw [s.sunEnter_of_ne h, State.now, State.sun_sunEnterEvent, State.sun_sunEnterDrift, hcnt, State.now]

/-- A state that is entered loses no pending bit. -/
theorem State.pend_sunEnter_mono (s : State) (st : Nat) {e : Nat} (he : e < 128) (h : s.pend e = true) :
    (s.sunEnter st).pend e = true := by
  by_cases hst : s.sunState = st
  · rw [s.sunEnter_same hst, h]
  · have hmarks : (s.sunEnterMarks st).pend e = true := by
      unfold State.sunEnterMarks
      dsimp only
      split <;> exact (State.pend_set s _ e (by decide)).trans h
    have hdrift : ((s.sunEnterMarks st).sunEnterDrift st).pend e = true := by
      unfold State.sunEnterDrift
      split
      · exact (State.pend_set _ _ e (by decide)).trans hmarks
      · exact (State.pend_set _ _ e (by decide)).trans hmarks
    rw [s.sunEnter_of_ne hst]
    unfold State.sunEnterEvent
    split
    · exact State.pend_event_mono _ _ _ he hdrift
    · split
      · exact State.pend_event_mono _ _ _ he hdrift
      · exact hdrift

theorem State.pend_sunEnter_holdover (s : State) (h : s.sunState ≠ 3) : (s.sunEnter 3).pend 87 = true := by
  rw [s.sunEnter_of_ne h, State.sunEnterEvent, if_neg (by decide), if_pos rfl]
  exact State.pend_event _ _ rfl

/-! ### RATE (R206) -/

/-- Fields that a new rate leaves: all but RANGE and RATE. -/
theorem State.fld_rateTo (s : State) (u : Int) {f : Fld} (hev : eventReach.testBit (32 + fam f.reg) = false)
    (hrange : F.SUN_STAT_RANGE.apart f = true) (hrate : F.SUN_RATE.apart f = true) : (s.rateTo u).fld f = s.fld f := by
  have hput : ∀ r b, ((s.putRate r).setB F.SUN_STAT_RANGE b).fld f = s.fld f := fun r b =>
    (State.fld_set_apart _ _ rfl hrange).trans (State.fld_set_apart s.spent.sunLine _ rfl hrate)
  unfold State.rateTo
  dsimp only
  split
  · rw [State.fld_event _ _ hev, hput]
  · exact hput _ _

/-- The rate moves neither the counter nor what the discipline counts. -/
theorem State.sun_rateTo (s : State) (u : Int) : (s.rateTo u).sun = s.sunLine.sun := by
  unfold State.rateTo
  dsimp only
  split
  · rw [State.sun_event]; rfl
  · rfl

theorem State.pend_rateTo_mono (s : State) (u : Int) {e : Nat} (he : e < 128) (h : s.pend e = true) : (s.rateTo u).pend e = true := by
  have hput : ∀ r b, ((s.putRate r).setB F.SUN_STAT_RANGE b).pend e = true := fun r b =>
    (State.pend_set _ _ e (by decide)).trans ((State.pend_set s.spent.sunLine _ e (by decide)).trans h)
  unfold State.rateTo
  dsimp only
  split
  · exact State.pend_event_mono _ _ _ he (hput _ _)
  · exact hput _ _

/-! ### A pulse (R204 to R206), in its parts -/

/-- The registers of a valid pulse. -/
def State.ppsShow (s : State) (n : Nat) : State :=
  let e := phaseErr n
  let s := ((s.event 84).set F.SUN_PPS_LO (n % 2 ^ 32)).set F.SUN_PPS_HI (n / 2 ^ 32)
  s.setI F.SUN_PHASE_ERR (e * 5 / 2 + (if e % 2 = 0 then 0 else b2n (Config.freeBit s.free)))

/-- With them, what the Sundial keeps of the pulse. -/
def State.ppsStamp (s : State) (n : Nat) : State :=
  (s.ppsShow n).spent.modSun (fun u => { u with last := some n, err := (phaseErr n).natAbs, bad := 0 })

/-- R206: the step or the rate, by the state `st` at the pulse. -/
def State.ppsSteer (s : State) (st n : Nat) : State :=
  if st = 0 then s
  else if st = 1 ∧ 4000 < (phaseErr n).natAbs then s.sunMove (unsigned 64 ((n : Int) - phaseErr n))
  else s.rateUpdate (phaseErr n) (st == 3)

/-- The counts of table 6.6. -/
def State.ppsCount (s : State) (n : Nat) : State :=
  s.modSun (fun u => { u with hist := (u.integ :: u.hist).take 16
                              good := if (phaseErr n).natAbs ≤ 40 then u.good + 1 else 0
                              far := if 4000 < (phaseErr n).natAbs then u.far + 1 else 0 })

/-- The transitions of table 6.6 by a valid pulse of error `e`. -/
def State.ppsTurn (s : State) (st e : Nat) : State :=
  if s.flag F.SUN_CTRL_DISC_EN then
    if st = 0 then s.sunEnter 1
    else if st = 1 ∧ 8 ≤ s.sun.good then s.sunEnter 2
    else if st = 2 ∧ 2 ≤ s.sun.far then s.sunEnter 1
    else if st = 3 then s.sunEnter (if e ≤ 400 then 2 else 1)
    else s
  else s

/-- Up to the transition: the registers of the pulse, the step or the rate, the counts. -/
def State.ppsJudged (s : State) (n : Nat) : State := ((s.ppsStamp n).ppsSteer s.sunState n).ppsCount n

theorem State.ppsGood_eq (s : State) (n : Nat) : s.ppsGood n = (s.ppsJudged n).ppsTurn s.sunState (phaseErr n).natAbs := rfl

theorem State.fld_ppsStamp (s : State) (n : Nat) {f : Fld} (hev : eventReach.testBit (32 + fam f.reg) = false)
    (hlo : F.SUN_PPS_LO.apart f = true) (hhi : F.SUN_PPS_HI.apart f = true) (herr : F.SUN_PHASE_ERR.apart f = true) :
    (s.ppsStamp n).fld f = s.fld f := by
  rw [State.ppsStamp, State.modSun_fld, State.spent_fld, State.ppsShow, State.setI, State.fld_set_apart _ _ rfl herr,
    State.fld_set_apart _ _ rfl hhi, State.fld_set_apart _ _ rfl hlo, State.fld_event _ _ hev]

/-- The stamp of a valid pulse shows in PPS_HI:PPS_LO. -/
theorem State.stamp_ppsStamp (s : State) {n : Nat} (h : n < 2 ^ 64) :
    (s.ppsStamp n).fld F.SUN_PPS_LO = n % 2 ^ 32 ∧ (s.ppsStamp n).fld F.SUN_PPS_HI = n / 2 ^ 32 := by
  constructor
  · rw [State.ppsStamp, State.modSun_fld, State.spent_fld, State.ppsShow, State.setI, State.fld_set_apart _ _ rfl rfl,
      State.fld_set_apart _ _ rfl rfl]
    exact State.fld_set_of_lt _ _ _ rfl (Nat.mod_lt _ (by decide))
  · rw [State.ppsStamp, State.modSun_fld, State.spent_fld, State.ppsShow, State.setI, State.fld_set_apart _ _ rfl rfl]
    exact State.fld_set_of_lt _ _ _ rfl (Nat.div_lt_of_lt_mul h)

theorem State.sun_ppsStamp (s : State) (n : Nat) :
    (s.ppsStamp n).sun = { s.sun with last := some n, err := (phaseErr n).natAbs, bad := 0 } := by
  rw [State.ppsStamp, State.sun_modSun, State.spent_sun, State.ppsShow, State.setI, State.set_sun, State.set_sun, State.set_sun,
    State.sun_event]

theorem State.pend_ppsStamp (s : State) (n : Nat) {e : Nat} (h : (s.event 84).pend e = true) : (s.ppsStamp n).pend e = true := by
  rw [State.ppsStamp, State.pend_modSun, State.pend_spent, State.ppsShow, State.setI, State.pend_set _ _ e (by decide),
    State.pend_set _ _ e (by decide), State.pend_set _ _ e (by decide), h]

/-- Fields that the step or the rate leaves. -/
theorem State.fld_ppsSteer (s : State) (st n : Nat) {f : Fld} (hev : eventReach.testBit (32 + fam f.reg) = false)
    (hstep : F.SUN_STAT_STEPPED.apart f = true) (hrange : F.SUN_STAT_RANGE.apart f = true) (hrate : F.SUN_RATE.apart f = true) :
    (s.ppsSteer st n).fld f = s.fld f := by
  unfold State.ppsSteer
  split_ifs
  · rfl
  · exact s.fld_sunMove _ hev hstep
  · exact State.fld_rateTo _ _ hev hrange hrate

theorem State.pend_ppsSteer_mono (s : State) (st n : Nat) {e : Nat} (he : e < 128) (h : s.pend e = true) :
    (s.ppsSteer st n).pend e = true := by
  unfold State.ppsSteer
  split_ifs
  · exact h
  · exact s.pend_sunMove_mono _ he h
  · exact State.pend_rateTo_mono _ _ he h

theorem State.marks_rateUpdate (s : State) (e : Int) (hold : Bool) : (s.rateUpdate e hold).sun.cnt = s.sun.cnt ∧
    (s.rateUpdate e hold).sun.good = s.sun.good ∧ (s.rateUpdate e hold).sun.far = s.sun.far := by
  rw [State.rateUpdate, State.sun_rateTo]; exact ⟨rfl, rfl, rfl⟩

theorem State.marks_ppsSteer (s : State) (st n : Nat) :
    (s.ppsSteer st n).sun.good = s.sun.good ∧ (s.ppsSteer st n).sun.far = s.sun.far := by
  unfold State.ppsSteer
  split_ifs
  · exact ⟨rfl, rfl⟩
  · exact s.marks_sunMove _
  · exact (s.marks_rateUpdate _ _).2

/-- R206: in ACQUIRE an error above 10 µs steps the counter. -/
theorem State.steps_ppsSteer (s : State) {st n : Nat} (hst : st = 1) (he : 4000 < (phaseErr n).natAbs) :
    ((s.ppsSteer st n).now : Int) = ((n : Int) - phaseErr n) % 2 ^ 64 ∧ (s.ppsSteer st n).fld F.SUN_STAT_STEPPED = 1 ∧
      (s.ppsSteer st n).pend 88 = true := by
  have heq : s.ppsSteer st n = s.sunMove (unsigned 64 ((n : Int) - phaseErr n)) := by
    rw [State.ppsSteer, if_neg (by omega), if_pos ⟨hst, he⟩]
  rw [heq]
  refine ⟨?_, s.stepped_sunMove _, s.pend_sunMove _⟩
  rw [State.now_sunMove, unsigned]
  omega

/-- Else it keeps its count, and STEPPED stands. -/
theorem State.holds_ppsSteer (s : State) {st n : Nat} (h : ¬(st = 1 ∧ 4000 < (phaseErr n).natAbs)) :
    (s.ppsSteer st n).now = s.now ∧ (s.ppsSteer st n).fld F.SUN_STAT_STEPPED = s.fld F.SUN_STAT_STEPPED := by
  unfold State.ppsSteer
  split_ifs
  · exact ⟨rfl, rfl⟩
  · exact ⟨congrArg BitVec.toNat (s.marks_rateUpdate _ _).1, State.fld_rateTo _ _ (by decide) (by decide) (by decide)⟩

/-- A transition enters a state, or there is none. -/
theorem State.ppsTurn_eq (s : State) (st e : Nat) : s.ppsTurn st e = s ∨ ∃ v, s.ppsTurn st e = s.sunEnter v := by
  unfold State.ppsTurn
  split
  · split_ifs
    · exact .inr ⟨1, rfl⟩
    · exact .inr ⟨2, rfl⟩
    · exact .inr ⟨1, rfl⟩
    · exact .inr ⟨2, rfl⟩
    · exact .inr ⟨1, rfl⟩
    · exact .inl rfl
  · exact .inl rfl

theorem State.fld_ppsTurn (s : State) (st e : Nat) {f : Fld} (hev : eventReach.testBit (32 + fam f.reg) = false)
    (hstate : F.SUN_STAT_STATE.apart f = true) (hdrift : F.SUN_DRIFT.apart f = true) : (s.ppsTurn st e).fld f = s.fld f := by
  rcases s.ppsTurn_eq st e with h | ⟨v, h⟩
  · rw [h]
  · rw [h, s.fld_sunEnter v hev hstate hdrift]

theorem State.now_ppsTurn (s : State) (st e : Nat) : (s.ppsTurn st e).now = s.now := by
  rcases s.ppsTurn_eq st e with h | ⟨v, h⟩
  · rw [h]
  · rw [h, s.now_sunEnter]

theorem State.pend_ppsTurn_mono (s : State) (st e : Nat) {k : Nat} (hk : k < 128) (h : s.pend k = true) :
    (s.ppsTurn st e).pend k = true := by
  rcases s.ppsTurn_eq st e with ht | ⟨v, ht⟩
  · rw [ht, h]
  · rw [ht, s.pend_sunEnter_mono v hk h]

/-- Table 6.6: the state that a valid pulse of error `e` leads to. -/
theorem State.sunState_ppsTurn (s : State) (e : Nat) : (s.ppsTurn s.sunState e).sunState =
    if s.flag F.SUN_CTRL_DISC_EN = false then s.sunState
    else if s.sunState = 0 then 1
    else if s.sunState = 1 then (if 8 ≤ s.sun.good then 2 else 1)
    else if s.sunState = 2 then (if 2 ≤ s.sun.far then 1 else 2)
    else if e ≤ 400 then 2 else 1 := by
  have hlt := s.sunState_lt
  unfold State.ppsTurn
  cases s.flag F.SUN_CTRL_DISC_EN
  case false => rfl
  case true =>
    have h1 := s.sunState_sunEnter (st := 1) (by decide)
    have h2 := s.sunState_sunEnter (st := 2) (by decide)
    generalize hst : s.sunState = st at *
    interval_cases st
    · simp [h1]
    · by_cases hgood : 8 ≤ s.sun.good <;> simp [hgood, h2, hst]
    · by_cases hfar : 2 ≤ s.sun.far <;> simp [hfar, h1, hst]
    · by_cases he : e ≤ 400 <;> simp [he, h1, h2]

/-! ### A valid pulse -/

theorem State.fld_ppsJudged (s : State) (n : Nat) {f : Fld} (hev : eventReach.testBit (32 + fam f.reg) = false)
    (hlo : F.SUN_PPS_LO.apart f = true) (hhi : F.SUN_PPS_HI.apart f = true) (herr : F.SUN_PHASE_ERR.apart f = true)
    (hstep : F.SUN_STAT_STEPPED.apart f = true) (hrange : F.SUN_STAT_RANGE.apart f = true) (hrate : F.SUN_RATE.apart f = true) :
    (s.ppsJudged n).fld f = s.fld f := by
  rw [State.ppsJudged, State.ppsCount, State.modSun_fld, State.fld_ppsSteer _ _ _ hev hstep hrange hrate,
    State.fld_ppsStamp _ _ hev hlo hhi herr]

theorem State.now_ppsCount (s : State) (n : Nat) : (s.ppsCount n).now = s.now := by
  rw [State.now, State.ppsCount, State.sun_modSun, State.now]

theorem State.pend_ppsJudged (s : State) (n : Nat) {e : Nat} (he : e < 128) (h : (s.event 84).pend e = true) :
    (s.ppsJudged n).pend e = true := by
  rw [State.ppsJudged, State.ppsCount, State.pend_modSun, State.pend_ppsSteer_mono _ _ _ he (s.pend_ppsStamp n h)]

/-- The counts after the pulse: those before it, and the pulse. -/
theorem State.marks_ppsJudged (s : State) (n : Nat) :
    (s.ppsJudged n).sun.good = (if (phaseErr n).natAbs ≤ 40 then s.sun.good + 1 else 0) ∧
    (s.ppsJudged n).sun.far = (if 4000 < (phaseErr n).natAbs then s.sun.far + 1 else 0) := by
  obtain ⟨hgood, hfar⟩ := (s.ppsStamp n).marks_ppsSteer s.sunState n
  rw [s.sun_ppsStamp n] at hgood hfar
  simp only [State.ppsJudged, State.ppsCount, State.sun_modSun, hgood, hfar, and_self]

/-- R204: a valid pulse raises "PPS accepted", shows its stamp and counts in no other counter. -/
theorem State.ppsGood_shows (s : State) :
    (s.ppsGood s.now).pend 84 = true ∧ (s.ppsGood s.now).fld F.SUN_PPS_LO = s.now % 2 ^ 32 ∧
    (s.ppsGood s.now).fld F.SUN_PPS_HI = s.now / 2 ^ 32 ∧
    (s.ppsGood s.now).fld F.SUN_STAT_REJECTS = s.fld F.SUN_STAT_REJECTS := by
  obtain ⟨hlo, hhi⟩ := s.stamp_ppsStamp (n := s.now) s.sun.cnt.isLt
  have hevent : (s.event 84).pend 84 = true := s.pend_event 84 (by decide)
  have hpend := s.pend_ppsJudged s.now (by decide) hevent
  rw [State.ppsGood_eq]
  refine ⟨State.pend_ppsTurn_mono _ _ _ (by decide) hpend, ?_, ?_, ?_⟩
  · rw [State.fld_ppsTurn _ _ _ (by decide) (by decide) (by decide), State.ppsJudged, State.ppsCount, State.modSun_fld,
      State.fld_ppsSteer _ _ _ (by decide) (by decide) (by decide) (by decide), hlo]
  · rw [State.fld_ppsTurn _ _ _ (by decide) (by decide) (by decide), State.ppsJudged, State.ppsCount, State.modSun_fld,
      State.fld_ppsSteer _ _ _ (by decide) (by decide) (by decide) (by decide), hhi]
  · rw [State.fld_ppsTurn _ _ _ (by decide) (by decide) (by decide)]
    exact s.fld_ppsJudged _ (by decide) (by decide) (by decide) (by decide) (by decide) (by decide) (by decide)

/-- R206: the counter after a valid pulse. -/
theorem State.ppsGood_counter (s : State) :
    if s.sunState = 1 ∧ 4000 < (phaseErr s.now).natAbs then
      ((s.ppsGood s.now).now : Int) = ((s.now : Int) - phaseErr s.now) % 2 ^ 64 ∧
        (s.ppsGood s.now).fld F.SUN_STAT_STEPPED = 1 ∧ (s.ppsGood s.now).pend 88 = true
    else (s.ppsGood s.now).now = s.now ∧ (s.ppsGood s.now).fld F.SUN_STAT_STEPPED = s.fld F.SUN_STAT_STEPPED := by
  have hstepped := fun u : State => u.fld_ppsTurn s.sunState (phaseErr s.now).natAbs (f := F.SUN_STAT_STEPPED)
    (by decide) (by decide) (by decide)
  rw [State.ppsGood_eq, hstepped, State.now_ppsTurn, State.ppsJudged, State.now_ppsCount, State.ppsCount, State.modSun_fld]
  split
  next h =>
    obtain ⟨hst, he⟩ := h
    obtain ⟨hnow, hone, hpend⟩ := (s.ppsStamp s.now).steps_ppsSteer hst he
    refine ⟨hnow, hone, State.pend_ppsTurn_mono _ _ _ (by decide) ?_⟩
    rw [State.pend_modSun, hpend]
  next h =>
    obtain ⟨hnow, hsame⟩ := (s.ppsStamp s.now).holds_ppsSteer h
    have hbefore : (s.ppsStamp s.now).now = s.now := by rw [State.now, s.sun_ppsStamp, State.now]
    exact ⟨hnow.trans hbefore, hsame.trans (s.fld_ppsStamp _ (by decide) (by decide) (by decide) (by decide))⟩

/-- Table 6.6: the state after a valid pulse. -/
theorem State.ppsGood_state (s : State) (n : Nat) : (s.ppsGood n).sunState =
    if s.flag F.SUN_CTRL_DISC_EN = false then s.sunState
    else if s.sunState = 0 then 1
    else if s.sunState = 1 then (if (phaseErr n).natAbs ≤ 40 ∧ 7 ≤ s.sun.good then 2 else 1)
    else if s.sunState = 2 then (if 4000 < (phaseErr n).natAbs ∧ 1 ≤ s.sun.far then 1 else 2)
    else if (phaseErr n).natAbs ≤ 400 then 2 else 1 := by
  have hkeep : ∀ f ∈ [F.SUN_STAT_STATE, F.SUN_CTRL_DISC_EN], (s.ppsJudged n).fld f = s.fld f := fun f hf =>
    s.fld_ppsJudged n (by revert f; decide) (by revert f; decide) (by revert f; decide) (by revert f; decide)
      (by revert f; decide) (by revert f; decide) (by revert f; decide)
  have hst : (s.ppsJudged n).sunState = s.sunState := hkeep _ (by simp)
  have hen : (s.ppsJudged n).flag F.SUN_CTRL_DISC_EN = s.flag F.SUN_CTRL_DISC_EN := by
    rw [State.flag, hkeep _ (by simp), State.flag]
  obtain ⟨hgood, hfar⟩ := s.marks_ppsJudged n
  have hturn := (s.ppsJudged n).sunState_ppsTurn (phaseErr n).natAbs
  rw [hst, hen, hgood, hfar] at hturn
  refine hturn.trans ?_
  have hg : (8 ≤ if (phaseErr n).natAbs ≤ 40 then s.sun.good + 1 else 0) ↔ (phaseErr n).natAbs ≤ 40 ∧ 7 ≤ s.sun.good := by
    split <;> omega
  have hf : (2 ≤ if 4000 < (phaseErr n).natAbs then s.sun.far + 1 else 0) ↔ 4000 < (phaseErr n).natAbs ∧ 1 ≤ s.sun.far := by
    split <;> omega
  simp only [hg, hf]

/-! ### An invalid pulse -/

/-- An invalid pulse is counted and raises "PPS rejected". -/
def State.ppsReject (s : State) (n : Nat) : State :=
  let s := (s.inc F.SUN_STAT_REJECTS).event 85
  let d := unsigned 64 ((n : Int) - s.sun.badAt)
  let near := decide (399900000 ≤ d) && decide (d ≤ 400100000)
  s.modSun (fun u => { u with bad := if u.bad = 0 ∨ near = false then 1 else u.bad + 1, badAt := n, far := 0, good := 0 })

theorem State.ppsBad_eq (s : State) (n : Nat) : s.ppsBad n =
    if (s.ppsReject n).sunState = 0 ∧ (s.ppsReject n).flag F.SUN_CTRL_DISC_EN = true then (s.ppsReject n).sunEnter 1
    else if (s.ppsReject n).sunState = 2 ∧ 4 ≤ (s.ppsReject n).sun.bad then
      ((s.ppsReject n).sunEnter 1).modSun (fun u => { u with last := some n })
    else s.ppsReject n := rfl

theorem State.fld_ppsReject (s : State) (n : Nat) {f : Fld} (hev : eventReach.testBit (32 + fam f.reg) = false)
    (hf : F.SUN_STAT_REJECTS.apart f = true) : (s.ppsReject n).fld f = s.fld f := by
  rw [State.ppsReject, State.modSun_fld, State.fld_event _ _ hev, State.fld_inc_apart _ rfl hf]

theorem State.rejects_ppsReject (s : State) (n : Nat) :
    (s.ppsReject n).fld F.SUN_STAT_REJECTS = min 255 (s.fld F.SUN_STAT_REJECTS + 1) := by
  rw [State.ppsReject, State.modSun_fld, State.fld_event _ _ (by decide), State.fld_inc_same _ _ rfl]; rfl

theorem State.now_ppsReject (s : State) (n : Nat) : (s.ppsReject n).now = s.now := by
  have hsun : (s.inc F.SUN_STAT_REJECTS).sun = s.sun := rfl
  rw [State.now, State.ppsReject, State.sun_modSun, State.sun_event, hsun, State.now]

theorem State.pend_ppsReject (s : State) (n : Nat) : (s.ppsReject n).pend 85 = true := by
  rw [State.ppsReject, State.pend_modSun]; exact State.pend_event _ _ (by decide)

/-- What an invalid pulse leaves once it is counted: it enters ACQUIRE, or no state. -/
theorem State.ppsBad_keeps (s : State) (n : Nat) (P : State → Prop) (hp : P (s.ppsReject n)) (hacquire : P ((s.ppsReject n).sunEnter 1))
    (hsun : ∀ (u : State) (f : Sun → Sun), (∀ v, (f v).cnt = v.cnt) → P u → P (u.modSun f)) : P (s.ppsBad n) := by
  rw [s.ppsBad_eq n]
  split
  · exact hacquire
  · split
    · exact hsun _ _ (fun _ => rfl) hacquire
    · exact hp

theorem State.fld_ppsBad (s : State) (n : Nat) {f : Fld} (hev : eventReach.testBit (32 + fam f.reg) = false)
    (hstate : F.SUN_STAT_STATE.apart f = true) (hdrift : F.SUN_DRIFT.apart f = true) :
    (s.ppsBad n).fld f = (s.ppsReject n).fld f :=
  s.ppsBad_keeps n (fun u => u.fld f = (s.ppsReject n).fld f) rfl (State.fld_sunEnter _ _ hev hstate hdrift) (fun _ _ _ h => h)

theorem State.now_ppsBad (s : State) (n : Nat) : (s.ppsBad n).now = s.now := by
  refine s.ppsBad_keeps n (fun u => u.now = s.now) (s.now_ppsReject n) ((State.now_sunEnter _ _).trans (s.now_ppsReject n)) ?_
  intro u f hf h
  rw [State.now, State.sun_modSun, hf, ← h, State.now]

theorem State.pend_ppsBad (s : State) (n : Nat) {e : Nat} (he : e < 128) (h : (s.ppsReject n).pend e = true) :
    (s.ppsBad n).pend e = true :=
  s.ppsBad_keeps n (fun u => u.pend e = true) h (State.pend_sunEnter_mono _ _ he h) (fun _ _ _ h => h)

/-- Table 6.6: any pulse takes a disciplined Sundial from FREE to ACQUIRE. -/
theorem State.ppsBad_state_free (s : State) (n : Nat) (h : s.sunState = 0) :
    (s.ppsBad n).sunState = if s.flag F.SUN_CTRL_DISC_EN then 1 else 0 := by
  have hst : (s.ppsReject n).sunState = 0 := (s.fld_ppsReject n (by decide) (by decide)).trans h
  have hen : (s.ppsReject n).flag F.SUN_CTRL_DISC_EN = s.flag F.SUN_CTRL_DISC_EN :=
    congrArg (· == 1) (s.fld_ppsReject n (by decide) (by decide))
  rw [s.ppsBad_eq n, hen, hst]
  cases s.flag F.SUN_CTRL_DISC_EN
  · simpa using hst
  · simpa using State.sunState_sunEnter _ (st := 1) (by decide)

theorem State.rd_ppsBad_ppsLo (s : State) (n : Nat) : (s.ppsBad n).rd A.SUN_PPS_LO = s.rd A.SUN_PPS_LO :=
  (State.ppsBad_fr (κ := 0x2c01000000000800000004000000000000000000000000000000048000002400083018400) (Fr.refl _ s)).keep_rd (by decide)

/-! ### The commands of the pulse -/

theorem exec_ppsPulse_other (s : State) (r : Bool) (h : r = s.flag F.SUN_CTRL_PPS_FALL) : exec (.ppsPulse r) s = .next s := by
  refine congrArg Host.Outcome.next (if_neg ?_)
  rw [h]; simp

/-- The selected edge with no set waiting is judged. -/
theorem exec_ppsPulse (s : State) (r : Bool) (hup : s.isUp = true) (hpll : s.sun.pll = true) (h : r ≠ s.flag F.SUN_CTRL_PPS_FALL)
    (hset : s.fld F.SUN_STAT_SET_PENDING = 0) :
    exec (.ppsPulse r) s = .next (if s.ppsValid s.now then s.ppsGood s.now else s.ppsBad s.now) := by
  have hedge : (s.isUp && s.sun.pll && r != s.flag F.SUN_CTRL_PPS_FALL) = true := by simp [hup, hpll, h]
  have hwait : s.flag F.SUN_STAT_SET_PENDING = false := by rw [State.flag, hset]; rfl
  show Host.Outcome.next (if _ then _ else _) = _
  rw [if_pos hedge, hwait]; rfl

/-- R205, R206: with no valid pulse for 1.25 s, ACQUIRE falls to FREE and LOCKED to HOLDOVER. -/
theorem exec_ppsTimeout (s : State) (l : Nat) (hup : s.isUp = true) (hpll : s.sun.pll = true) (hlast : s.sun.last = some l)
    (h : 500000000 ≤ unsigned 64 ((s.now : Int) - l)) :
    exec .ppsTimeout s = .next (if s.sunState = 1 then s.sunEnter 0
      else if s.sunState = 2 then (s.sunEnter 3).rateTo s.sun.integ else s) := by
  have hdue : (s.isUp && s.sun.pll && decide (500000000 ≤ unsigned 64 ((s.now : Int) - l))) = true := by simp [hup, hpll, h]
  show Host.Outcome.next (match s.sun.last with | none => s | some l => _) = _
  rw [hlast]
  exact congrArg Host.Outcome.next (if_pos hdue)

/-- Settles O23: a pulse in its parts, each clause by the part that brings it about. -/
theorem ppsPulsesAreStampedJudgedAndDisciplineTheCounter :
    Obligations.PpsPulsesAreStampedJudgedAndDisciplineTheCounter := by
  intro s hup hpll
  refine ⟨fun r hr => exec_ppsPulse_other s r hr, fun r hr hset => ?_, fun l hlast hdue => ?_⟩
  · refine ⟨_, exec_ppsPulse s r hup hpll hr hset, fun hvalid => ?_, fun hvalid => ?_⟩
    · rw [if_pos hvalid]
      obtain ⟨hpend, hlo, hhi, hrejects⟩ := s.ppsGood_shows
      exact ⟨hpend, hlo, hhi, hrejects, s.ppsGood_counter, s.ppsGood_state s.now⟩
    · rw [if_neg (by rw [hvalid]; decide)]
      refine ⟨s.pend_ppsBad _ (by decide) (s.pend_ppsReject _), s.now_ppsBad _, ?_, s.rd_ppsBad_ppsLo _, s.ppsBad_state_free _⟩
      rw [s.fld_ppsBad _ (by decide) (by decide) (by decide), s.rejects_ppsReject]
  · refine ⟨_, exec_ppsTimeout s l hup hpll hlast hdue, ?_, fun hlocked => ?_⟩
    · split_ifs with hacquire hlocked
      · exact s.sunState_sunEnter (by decide)
      · exact (State.fld_rateTo _ _ (by decide) (by decide) (by decide)).trans (s.sunState_sunEnter (by decide))
      · rfl
    · rw [if_neg (by omega), if_pos hlocked]
      exact State.pend_rateTo_mono _ _ (by decide) (s.pend_sunEnter_holdover (by omega))

/-! ### Sets and snapshots (R208, R209) -/

/-- Fields that a set leaves: all but STEPPED, SET_PENDING, SET_GO, STATE and DRIFT. -/
theorem State.fld_sunLoad (s : State) {f : Fld} (hev : eventReach.testBit (32 + fam f.reg) = false)
    (hl : [F.SUN_STAT_STEPPED, F.SUN_STAT_SET_PENDING, F.SUN_CTRL_SET_GO, F.SUN_STAT_STATE, F.SUN_DRIFT].all (·.apart f) = true) :
    s.sunLoad.fld f = s.fld f := by
  simp only [List.all_cons, List.all_nil, Bool.and_true, Bool.and_eq_true] at hl
  obtain ⟨hstep, hwait, hgo, hstate, hdrift⟩ := hl
  have hloaded : (((s.sunMove s.setValue).set F.SUN_STAT_SET_PENDING 0).set F.SUN_CTRL_SET_GO 0).fld f = s.fld f := by
    rw [State.fld_set_apart _ _ rfl hgo, State.fld_set_apart _ _ rfl hwait, State.fld_sunMove _ _ hev hstep]
  unfold State.sunLoad
  dsimp only
  split
  · exact hloaded
  · rw [State.fld_sunEnter _ _ hev hstate hdrift, hloaded]

/-- R208: what a set leaves in the counter and the registers. -/
theorem State.sunLoad_vals (s : State) : s.sunLoad.now = s.setValue ∧ s.sunLoad.fld F.SUN_STAT_STEPPED = 1 ∧
    s.sunLoad.fld F.SUN_STAT_SET_PENDING = 0 ∧ s.sunLoad.fld F.SUN_CTRL_SET_GO = 0 ∧ s.sunLoad.pend 88 = true ∧
    s.sunLoad.sunState = if s.sunState = 0 then 0 else 1 := by
  have hhi : s.fld F.SUN_SET_HI < 2 ^ 32 := fieldOf_lt F.SUN_SET_HI _
  have hlo : s.fld F.SUN_SET_LO < 2 ^ 32 := fieldOf_lt F.SUN_SET_LO _
  have hset : s.setValue < 2 ^ 64 := by rw [State.setValue]; omega
  let u : State := ((s.sunMove s.setValue).set F.SUN_STAT_SET_PENDING 0).set F.SUN_CTRL_SET_GO 0
  have hload : s.sunLoad = if u.sunState = 0 then u else u.sunEnter 1 := rfl
  have hnow : u.now = s.setValue := (s.now_sunMove _).trans (Nat.mod_eq_of_lt hset)
  have hstep : u.fld F.SUN_STAT_STEPPED = 1 :=
    (State.fld_set_apart _ _ rfl rfl).trans ((State.fld_set_apart _ _ rfl rfl).trans (s.stepped_sunMove _))
  have hwait : u.fld F.SUN_STAT_SET_PENDING = 0 := (State.fld_set_apart _ _ rfl rfl).trans (State.fld_set_of_lt _ _ _ rfl (by decide))
  have hgo : u.fld F.SUN_CTRL_SET_GO = 0 := State.fld_set_of_lt _ _ _ rfl (by decide)
  have hpend : u.pend 88 = true :=
    (State.pend_set _ _ _ (by decide)).trans ((State.pend_set _ _ _ (by decide)).trans (s.pend_sunMove _))
  have hstate : u.sunState = s.sunState :=
    (State.fld_set_apart _ _ rfl rfl).trans ((State.fld_set_apart _ _ rfl rfl).trans (s.sunState_sunMove _))
  clear_value u
  rw [hload, hstate]
  split
  next h => exact ⟨hnow, hstep, hwait, hgo, hpend, hstate.trans h⟩
  next h =>
    have hkeep : ∀ f ∈ [F.SUN_STAT_STEPPED, F.SUN_STAT_SET_PENDING, F.SUN_CTRL_SET_GO], (u.sunEnter 1).fld f = u.fld f :=
      fun f hf => u.fld_sunEnter 1 (by revert f; decide) (by revert f; decide) (by revert f; decide)
    exact ⟨(u.now_sunEnter 1).trans hnow, (hkeep _ (by simp)).trans hstep, (hkeep _ (by simp)).trans hwait,
      (hkeep _ (by simp)).trans hgo, u.pend_sunEnter_mono 1 (by decide) hpend, u.sunState_sunEnter (by decide)⟩

/-- R208: with SET_AT_PPS a set waits for the next pulse. -/
theorem State.setGo_waits (s : State) (h : s.flag F.SUN_CTRL_SET_AT_PPS = true) :
    s.setGo = (s.set F.SUN_STAT_SET_PENDING 1).set F.SUN_CTRL_SET_GO 1 := by rw [State.setGo, if_pos h]

theorem State.setGo_loads (s : State) (h : s.flag F.SUN_CTRL_SET_AT_PPS = false) : s.setGo = s.sunLoad := by
  rw [State.setGo, if_neg (by rw [h]; decide)]

/-- What a set that waits shows. -/
theorem State.setGo_waits_vals (s : State) :
    let t := (s.set F.SUN_STAT_SET_PENDING 1).set F.SUN_CTRL_SET_GO 1
    t.fld F.SUN_STAT_SET_PENDING = 1 ∧ t.fld F.SUN_CTRL_SET_GO = 1 :=
  ⟨(State.fld_set_apart _ _ rfl rfl).trans (State.fld_set_of_lt _ _ _ rfl (by decide)), State.fld_set_of_lt _ _ _ rfl (by decide)⟩

/-- A pulse that is judged leaves STEPPED and what a set has shown. -/
theorem State.fld_pulse (s : State) (h : s.fld F.SUN_STAT_STEPPED = 1) :
    let t := if s.ppsValid s.now then s.ppsGood s.now else s.ppsBad s.now
    t.fld F.SUN_STAT_STEPPED = 1 ∧ t.fld F.SUN_STAT_SET_PENDING = s.fld F.SUN_STAT_SET_PENDING ∧
      t.fld F.SUN_CTRL_SET_GO = s.fld F.SUN_CTRL_SET_GO := by
  dsimp only
  split
  · refine ⟨?_, ?_, ?_⟩
    · have hcounter := s.ppsGood_counter
      split at hcounter
      · exact hcounter.2.1
      · exact hcounter.2.trans h
    · exact (State.fld_ppsTurn _ _ _ (by decide) (by decide) (by decide)).trans
        (s.fld_ppsJudged _ (by decide) (by decide) (by decide) (by decide) (by decide) (by decide) (by decide))
    · exact (State.fld_ppsTurn _ _ _ (by decide) (by decide) (by decide)).trans
        (s.fld_ppsJudged _ (by decide) (by decide) (by decide) (by decide) (by decide) (by decide) (by decide))
  · have hkeep : ∀ f ∈ [F.SUN_STAT_STEPPED, F.SUN_STAT_SET_PENDING, F.SUN_CTRL_SET_GO], (s.ppsBad s.now).fld f = s.fld f :=
      fun f hf => (s.fld_ppsBad _ (by revert f; decide) (by revert f; decide) (by revert f; decide)).trans
        (s.fld_ppsReject _ (by revert f; decide) (by revert f; decide))
    exact ⟨(hkeep _ (by simp)).trans h, hkeep _ (by simp), hkeep _ (by simp)⟩

theorem State.pend_pulse (s : State) {e : Nat} (he : e < 128) (h : s.pend e = true) :
    (if s.ppsValid s.now then s.ppsGood s.now else s.ppsBad s.now).pend e = true := by
  split
  · exact State.pend_ppsTurn_mono _ _ _ he (s.pend_ppsJudged _ he (State.pend_event_mono _ _ _ he h))
  · refine s.pend_ppsBad _ he ?_
    rw [State.ppsReject, State.pend_modSun]
    exact State.pend_event_mono _ _ _ he ((State.pend_set _ _ _ (by decide)).trans h)

/-- A pulse for which a set waits loads the counter before it is judged. -/
theorem exec_ppsPulse_set (s : State) (r : Bool) (hup : s.isUp = true) (hpll : s.sun.pll = true)
    (h : r ≠ s.flag F.SUN_CTRL_PPS_FALL) (hset : s.flag F.SUN_STAT_SET_PENDING = true) :
    exec (.ppsPulse r) s = .next (if s.sunLoad.ppsValid s.sunLoad.now then s.sunLoad.ppsGood s.sunLoad.now
      else s.sunLoad.ppsBad s.sunLoad.now) := by
  have hedge : (s.isUp && s.sun.pll && r != s.flag F.SUN_CTRL_PPS_FALL) = true := by simp [hup, hpll, h]
  show Host.Outcome.next (if _ then _ else _) = _
  rw [if_pos hedge, hset]; rfl

/-! ### A write of SUN.CTRL (table 6.18, R205) -/

/-- The four settings of SUN.CTRL. -/
def sunSettings : List Fld := [F.SUN_CTRL_SET_AT_PPS, F.SUN_CTRL_TAU, F.SUN_CTRL_PPS_FALL, F.SUN_CTRL_DISC_EN]

/-- The settings take their fields of the word, and DISC_EN = 0 frees the Sundial. -/
def State.sunSet (s : State) (w : Word) : State :=
  let s := s.forEach sunSettings (fun s f => s.set f (fieldOf f w))
  if s.flag F.SUN_CTRL_DISC_EN then s else s.sunEnter 0

theorem State.sunCtrlWrite_eq (s : State) (w : Word) :
    s.sunCtrlWrite w = if fieldOf F.SUN_CTRL_SET_GO w = 1 then (s.sunSet w).setGo else s.sunSet w := rfl

/-- Fields put from a word one after another: each holds its part of it. -/
theorem State.fld_forEach_put (l : List Fld) (s : State) (w : Word) (hok : ∀ f ∈ l, f.ok = true)
    (hap : l.Pairwise (fun f g => f.apart g = true)) {g : Fld} (hg : g ∈ l) :
    (s.forEach l (fun s f => s.set f (fieldOf f w))).fld g = fieldOf g w := by
  induction l generalizing s with
  | nil => cases hg
  | cons f r ih =>
    obtain ⟨hf, hr⟩ := List.pairwise_cons.1 hap
    rcases List.mem_cons.1 hg with rfl | hg
    · refine (State.fld_forEach_set_apart r (s.set g (fieldOf g w)) id (fun f => fieldOf f w) fun q hq =>
        ⟨hok q (List.mem_cons_of_mem _ hq), Fld.apart_comm (hf q hq)⟩).trans ?_
      exact State.fld_set_of_lt _ _ _ (hok g (List.mem_cons_self ..)) (fieldOf_lt g w)
    · exact ih (s.set f (fieldOf f w)) (fun q hq => hok q (List.mem_cons_of_mem _ hq)) hr hg

theorem State.fld_sunSet (s : State) (w : Word) {f : Fld} (hf : f ∈ sunSettings) : (s.sunSet w).fld f = fieldOf f w := by
  have hkept : eventReach.testBit (32 + fam f.reg) = false ∧ F.SUN_STAT_STATE.apart f = true ∧ F.SUN_DRIFT.apart f = true := by
    revert f; decide
  have hput := s.fld_forEach_put sunSettings w (by decide) (by decide) hf
  unfold State.sunSet
  dsimp only
  split
  · exact hput
  · rw [State.fld_sunEnter _ _ hkept.1 hkept.2.1 hkept.2.2, hput]

/-- Fields of other registers, and a whole register, stand where no state is entered. -/
theorem State.fld_sunSet_other (s : State) (w : Word) {f : Fld} (hev : eventReach.testBit (32 + fam f.reg) = false)
    (hl : sunSettings.all (·.apart f) = true) (hstate : F.SUN_STAT_STATE.apart f = true) (hdrift : F.SUN_DRIFT.apart f = true) :
    (s.sunSet w).fld f = s.fld f := by
  have hput : (s.forEach sunSettings (fun s f => s.set f (fieldOf f w))).fld f = s.fld f :=
    State.fld_forEach_set_apart sunSettings s id (fun f => fieldOf f w) fun q hq =>
      ⟨by revert q; decide, List.all_eq_true.1 hl q hq⟩
  unfold State.sunSet
  dsimp only
  split
  · exact hput
  · rw [State.fld_sunEnter _ _ hev hstate hdrift, hput]

theorem State.now_set (s : State) (f : Fld) (v : Nat) : (s.set f v).now = s.now := by rw [State.now, State.set_sun, State.now]

theorem State.now_sunSet (s : State) (w : Word) : (s.sunSet w).now = s.now := by
  unfold State.sunSet
  dsimp only
  split
  · rfl
  · rw [State.now_sunEnter]; rfl

/-- R205: the state after the settings are written. -/
theorem State.sunState_sunSet (s : State) (w : Word) :
    (s.sunSet w).sunState = if fieldOf F.SUN_CTRL_DISC_EN w = 0 then 0 else s.sunState := by
  have hstate : (s.forEach sunSettings (fun s f => s.set f (fieldOf f w))).sunState = s.sunState :=
    State.fld_forEach_set_apart sunSettings s id (fun f => fieldOf f w) (by decide)
  have hen : (s.forEach sunSettings (fun s f => s.set f (fieldOf f w))).fld F.SUN_CTRL_DISC_EN = fieldOf F.SUN_CTRL_DISC_EN w :=
    s.fld_forEach_put sunSettings w (by decide) (by decide) (by simp [sunSettings])
  have hbit : fieldOf F.SUN_CTRL_DISC_EN w < 2 := fieldOf_lt F.SUN_CTRL_DISC_EN w
  unfold State.sunSet
  dsimp only
  rw [State.flag, hen]
  split
  next h => rw [if_neg (by rw [beq_iff_eq] at h; omega), hstate]
  next h => rw [if_pos (by rw [beq_iff_eq] at h; omega)]; exact State.sunState_sunEnter _ (by decide)

theorem State.setValue_sunSet (s : State) (w : Word) : (s.sunSet w).setValue = s.setValue := by
  rw [State.setValue, s.fld_sunSet_other w (by decide) (by decide) (by decide) (by decide),
    s.fld_sunSet_other w (by decide) (by decide) (by decide) (by decide), State.setValue]

theorem State.fld_setGo_settings (s : State) {f : Fld} (hf : f ∈ sunSettings) : s.setGo.fld f = s.fld f := by
  unfold State.setGo
  split
  · rw [State.fld_set_apart _ _ rfl (by revert f; decide), State.fld_set_apart _ _ rfl (by revert f; decide)]
  · exact s.fld_sunLoad (by revert f; decide) (by revert f; decide)

/-- Table 6.18: the settings stand after the write, whether it starts a set or not. -/
theorem State.fld_sunCtrlWrite (s : State) (w : Word) {f : Fld} (hf : f ∈ sunSettings) : (s.sunCtrlWrite w).fld f = fieldOf f w := by
  rw [State.sunCtrlWrite_eq]
  split
  · rw [State.fld_setGo_settings _ hf, s.fld_sunSet w hf]
  · exact s.fld_sunSet w hf

/-- R209: the halves of the counter stand in SNAP_HI:SNAP_LO. -/
theorem State.snap_vals (s : State) : s.snap.fld F.SUN_SNAP_HI * 2 ^ 32 + s.snap.fld F.SUN_SNAP_LO = s.now := by
  have hnow : s.now < 2 ^ 64 := s.sun.cnt.isLt
  have hhi : s.snap.fld F.SUN_SNAP_HI = s.now / 2 ^ 32 := State.fld_set_of_lt _ _ _ rfl (Nat.div_lt_of_lt_mul hnow)
  have hlo : s.snap.fld F.SUN_SNAP_LO = s.now % 2 ^ 32 :=
    (State.fld_set_apart _ _ rfl rfl).trans (State.fld_set_of_lt _ _ _ rfl (Nat.mod_lt _ (by decide)))
  rw [hhi, hlo]
  omega

/-- Settles O24: a set loads or waits by SET_AT_PPS, also as a write of SUN.CTRL starts it with the settings written. -/
theorem sundialSetsAndSnapshots : Obligations.SundialSetsAndSnapshots := by
  intro s hrun
  have hup : s.isUp = true := (Bool.and_eq_true _ _ ▸ hrun : _ ∧ _).1
  refine ⟨fun hat => ?_, fun hat => ?_, fun hpll hwait r hr => ?_, fun w => ?_, ?_⟩
  · obtain ⟨hnow, hstep, -, hgo, hpend, hstate⟩ := s.sunLoad_vals
    exact ⟨_, congrArg Host.Outcome.next ((State.running_of hrun).trans (s.setGo_loads hat)), hnow, hstep, hgo, hpend, hstate⟩
  · refine ⟨_, congrArg Host.Outcome.next ((State.running_of hrun).trans (s.setGo_waits hat)), ?_, s.setGo_waits_vals⟩
    exact ((State.onlyRegs.refl _ s).set (by decide)).set (by decide)
  · obtain ⟨-, hstep, hpending, hgo, hpend, -⟩ := s.sunLoad_vals
    obtain ⟨hstep', hpending', hgo'⟩ := s.sunLoad.fld_pulse hstep
    exact ⟨_, exec_ppsPulse_set s r hup hpll hr hwait, hpending'.trans hpending, hgo'.trans hgo, hstep',
      s.sunLoad.pend_pulse (by decide) hpend⟩
  · have hat : (s.sunSet w).fld F.SUN_CTRL_SET_AT_PPS = fieldOf F.SUN_CTRL_SET_AT_PPS w := s.fld_sunSet w (by simp [sunSettings])
    refine ⟨s.sunCtrlWrite w, congrArg Host.Outcome.next (State.running_of hrun), fun f hf => s.fld_sunCtrlWrite w hf, ?_⟩
    rw [State.sunCtrlWrite_eq]
    refine ⟨fun hgo => ?_, fun hgo hpps => ?_, fun hgo hpps => ?_⟩
    · rw [if_neg (by omega)]
      exact ⟨s.now_sunSet w, s.sunState_sunSet w⟩
    · rw [if_pos hgo, State.setGo_waits _ (by rw [State.flag, hat, hpps]; rfl)]
      obtain ⟨hpending, hshown⟩ := (s.sunSet w).setGo_waits_vals
      refine ⟨by rw [State.now_set, State.now_set, State.now_sunSet], ?_, hpending, hshown⟩
      exact ((State.fld_set_apart _ _ rfl rfl).trans (State.fld_set_apart _ _ rfl rfl)).trans (s.sunState_sunSet w)
    · rw [if_pos hgo, State.setGo_loads _ (by rw [State.flag, hat, hpps]; rfl)]
      obtain ⟨hnow, hstep, -, hshown, -, hstate⟩ := (s.sunSet w).sunLoad_vals
      rw [s.sunState_sunSet w] at hstate
      exact ⟨hnow.trans (s.setValue_sunSet w), hstep, hshown, hstate⟩
  · exact ⟨s.snap, congrArg Host.Outcome.next (State.running_of hrun),
      ((State.onlyRegs.refl _ s).set (by decide)).set (by decide), s.snap_vals⟩

/-! ### Arming and cancelling a slot (R210, R213) -/

/-- CODE and ARG of a slot take their fields of the word. -/
def State.actWords (s : State) (n : Nat) (w : Word) : State :=
  (s.set (F.SUN_ACT_CTRL_ARG n) (fieldOf (F.SUN_ACT_CTRL_ARG n) w)).set (F.SUN_ACT_CTRL_CODE n) (fieldOf (F.SUN_ACT_CTRL_CODE n) w)

/-- The slot latches its time, its CODE and its ARG. -/
def State.actLatch (s : State) (n : Nat) : State :=
  let t := s.fld (F.SUN_ACT_THI n) * 2 ^ 32 + s.fld (F.SUN_ACT_TLO n)
  s.modSun (fun u => { u with
    acts := setNth u.acts n (t, s.fld (F.SUN_ACT_CTRL_CODE n), s.fld (F.SUN_ACT_CTRL_ARG n), decide (t < s.now)) })

/-- ARM and STATUS of a slot. -/
def State.actShow (s : State) (n arm status : Nat) : State :=
  (s.set (F.SUN_ACT_CTRL_ARM n) arm).set (F.SUN_ACT_CTRL_STATUS n) status

theorem State.actWrite_eq (s : State) (n : Nat) (w : Word) : s.actWrite n w =
    let u := s.actWords n w
    if fieldOf (F.SUN_ACT_CTRL_CANCEL n) w = 1 then if u.flag (F.SUN_ACT_CTRL_ARM n) then u.actShow n 0 5 else u
    else if fieldOf (F.SUN_ACT_CTRL_ARM n) w = 1 ∧ u.flag (F.SUN_ACT_CTRL_ARM n) = false ∧ u.fld (F.SUN_ACT_CTRL_CODE n) ≤ 5 then
      (u.actLatch n).actShow n 1 1
    else u := rfl

theorem State.fld_actShow (s : State) (n : Nat) {arm status : Nat} (harm : arm < 2) (hstatus : status < 8) :
    (s.actShow n arm status).fld (F.SUN_ACT_CTRL_ARM n) = arm ∧ (s.actShow n arm status).fld (F.SUN_ACT_CTRL_STATUS n) = status :=
  ⟨(State.fld_set_apart _ _ rfl rfl).trans (State.fld_set_of_lt _ _ _ rfl harm), State.fld_set_of_lt _ _ _ rfl hstatus⟩

theorem State.sun_actShow (s : State) (n arm status : Nat) : (s.actShow n arm status).sun = s.sun := by
  rw [State.actShow, State.set_sun, State.set_sun]

/-- A field of another family stands where a slot shows its state. -/
theorem State.fld_actShow_other (s : State) (n arm status : Nat) {f : Fld} (h : fam f.reg ≠ 51) :
    (s.actShow n arm status).fld f = s.fld f := by
  have hreg : f.reg ≠ A.SUN_ACT_CTRL n := fun hr => h (by rw [hr, A.SUN_ACT_CTRL_fam])
  rw [State.actShow, State.fld_set_other _ _ _ _ rfl (.inl hreg), State.fld_set_other _ _ _ _ rfl (.inl hreg)]

theorem State.actWords_vals (s : State) (n : Nat) (w : Word) : let u := s.actWords n w
    u.sun = s.sun ∧ u.fld (F.SUN_ACT_CTRL_ARM n) = s.fld (F.SUN_ACT_CTRL_ARM n) ∧
      u.fld (F.SUN_ACT_CTRL_STATUS n) = s.fld (F.SUN_ACT_CTRL_STATUS n) ∧
      u.fld (F.SUN_ACT_CTRL_CODE n) = fieldOf (F.SUN_ACT_CTRL_CODE n) w ∧ u.fld (F.SUN_ACT_CTRL_ARG n) = fieldOf (F.SUN_ACT_CTRL_ARG n) w :=
  ⟨by rw [State.actWords, State.set_sun, State.set_sun],
    (State.fld_set_apart _ _ rfl rfl).trans (State.fld_set_apart _ _ rfl rfl),
    (State.fld_set_apart _ _ rfl rfl).trans (State.fld_set_apart _ _ rfl rfl),
    State.fld_set_of_lt _ _ _ rfl (fieldOf_lt (F.SUN_ACT_CTRL_CODE n) w),
    (State.fld_set_apart _ _ rfl rfl).trans (State.fld_set_of_lt _ _ _ rfl (fieldOf_lt (F.SUN_ACT_CTRL_ARG n) w))⟩

theorem State.fld_actWords_other (s : State) (n : Nat) (w : Word) {f : Fld} (h : fam f.reg ≠ 51) : (s.actWords n w).fld f = s.fld f := by
  have hreg : f.reg ≠ A.SUN_ACT_CTRL n := fun hr => h (by rw [hr, A.SUN_ACT_CTRL_fam])
  rw [State.actWords, State.fld_set_other _ _ _ _ rfl (.inl hreg), State.fld_set_other _ _ _ _ rfl (.inl hreg)]

theorem State.withSun_of_eq {s t : State} (h : t.sun = s.sun) : { t with sun := s.sun } = t := by rw [← h]

theorem State.set_modSun (s : State) (f : Sun → Sun) (g : Fld) (v : Nat) : (s.modSun f).set g v = (s.set g v).modSun f := rfl

theorem State.withSun_modSun (s : State) (f : Sun → Sun) : { s.modSun f with sun := s.sun } = s := rfl

/-- What a slot latches stands apart from what it shows. -/
theorem State.actShow_modSun (s : State) (f : Sun → Sun) (n arm status : Nat) :
    { (s.modSun f).actShow n arm status with sun := s.sun } = s.actShow n arm status := by
  rw [State.actShow, State.set_modSun, State.set_modSun, ← State.actShow, ← s.sun_actShow n arm status, State.withSun_modSun]

/-- A write of a slot's control register touches that register and the latched values alone. -/
theorem State.onlyRegs_actWrite (s : State) (n : Nat) (w : Word) :
    s.onlyRegs [A.SUN_ACT_CTRL n] { s.actWrite n w with sun := s.sun } := by
  have hwords : s.onlyRegs [A.SUN_ACT_CTRL n] (s.actWords n w) :=
    ((State.onlyRegs.refl _ s).set (List.mem_singleton.2 rfl)).set (List.mem_singleton.2 rfl)
  have hshow (u : State) (arm status : Nat) : u.onlyRegs [A.SUN_ACT_CTRL n] (u.actShow n arm status) :=
    ((State.onlyRegs.refl _ u).set (List.mem_singleton.2 rfl)).set (List.mem_singleton.2 rfl)
  have hsun : (s.actWords n w).sun = s.sun := (s.actWords_vals n w).1
  rw [State.actWrite_eq]
  dsimp only
  split
  · split
    · rw [State.withSun_of_eq ((State.sun_actShow _ _ _ _).trans hsun)]
      exact hwords.trans (hshow _ _ _)
    · rwa [State.withSun_of_eq hsun]
  · split
    · rw [← hsun, State.actLatch, State.actShow_modSun]
      exact hwords.trans (hshow _ _ _)
    · rwa [State.withSun_of_eq hsun]

theorem State.flag_eq_false {s : State} {f : Fld} (h : s.fld f = 0) : s.flag f = false := by rw [State.flag, h]; rfl

theorem State.flag_eq_true {s : State} {f : Fld} (h : s.fld f = 1) : s.flag f = true := by rw [State.flag, h]; rfl

/-- R213: CANCEL disarms an armed slot and leaves any other. -/
theorem State.actWrite_cancel (s : State) (n : Nat) (w : Word) (h : fieldOf (F.SUN_ACT_CTRL_CANCEL n) w = 1) :
    (s.actWrite n w).sun = s.sun ∧ (s.actWrite n w).fld (F.SUN_ACT_CTRL_ARM n) = 0 ∧ (s.actWrite n w).fld (F.SUN_ACT_CTRL_STATUS n) =
      if s.fld (F.SUN_ACT_CTRL_ARM n) = 1 then 5 else s.fld (F.SUN_ACT_CTRL_STATUS n) := by
  obtain ⟨hsun, harm, hstatus, -, -⟩ := s.actWords_vals n w
  have hbit : s.fld (F.SUN_ACT_CTRL_ARM n) < 2 := fieldOf_lt (F.SUN_ACT_CTRL_ARM n) _
  rw [State.actWrite_eq]
  dsimp only
  rw [if_pos h, State.flag, harm]
  split
  next harmed =>
    obtain ⟨hoff, hshown⟩ := (s.actWords n w).fld_actShow n (arm := 0) (status := 5) (by decide) (by decide)
    rw [if_pos (beq_iff_eq.1 harmed)]
    exact ⟨(State.sun_actShow _ _ _ _).trans hsun, hoff, hshown⟩
  next hrest =>
    rw [beq_iff_eq] at hrest
    rw [if_neg hrest]
    exact ⟨hsun, harm.trans (by omega), hstatus⟩

/-- R210: ARM of an armed slot latches nothing. -/
theorem State.actWrite_armed (s : State) (n : Nat) (w : Word) (h : fieldOf (F.SUN_ACT_CTRL_CANCEL n) w = 0)
    (harm : s.fld (F.SUN_ACT_CTRL_ARM n) = 1) : s.actWrite n w = s.actWords n w := by
  have harmed : (s.actWords n w).flag (F.SUN_ACT_CTRL_ARM n) = true := State.flag_eq_true ((s.actWords_vals n w).2.1.trans harm)
  rw [State.actWrite_eq]
  dsimp only
  rw [if_neg (by omega), if_neg (by rw [harmed]; simp)]

/-- R210: a reserved CODE arms nothing. -/
theorem State.actWrite_reserved (s : State) (n : Nat) (w : Word) (h : fieldOf (F.SUN_ACT_CTRL_CANCEL n) w = 0)
    (hcode : 5 < fieldOf (F.SUN_ACT_CTRL_CODE n) w) : s.actWrite n w = s.actWords n w := by
  obtain ⟨-, -, -, hword, -⟩ := s.actWords_vals n w
  rw [State.actWrite_eq]
  dsimp only
  rw [if_neg (by omega), if_neg (by rw [hword]; omega)]

theorem State.actWrite_arms (s : State) (n : Nat) (w : Word) (h : fieldOf (F.SUN_ACT_CTRL_CANCEL n) w = 0)
    (hset : fieldOf (F.SUN_ACT_CTRL_ARM n) w = 1) (harm : s.fld (F.SUN_ACT_CTRL_ARM n) = 0)
    (hcode : fieldOf (F.SUN_ACT_CTRL_CODE n) w ≤ 5) : s.actWrite n w = ((s.actWords n w).actLatch n).actShow n 1 1 := by
  obtain ⟨-, hkept, -, hword, -⟩ := s.actWords_vals n w
  have hrest : (s.actWords n w).flag (F.SUN_ACT_CTRL_ARM n) = false := State.flag_eq_false (hkept.trans harm)
  rw [State.actWrite_eq]
  dsimp only
  rw [if_neg (by omega), if_pos ⟨hset, hrest, by rw [hword]; exact hcode⟩]

/-- R210: what a slot that is armed holds. -/
theorem State.acts_arms (s : State) (n : Nat) (w : Word) : ((s.actWords n w).actLatch n).sun.acts = setNth s.sun.acts n
    (s.fld (F.SUN_ACT_THI n) * 2 ^ 32 + s.fld (F.SUN_ACT_TLO n), fieldOf (F.SUN_ACT_CTRL_CODE n) w, fieldOf (F.SUN_ACT_CTRL_ARG n) w,
      decide (s.fld (F.SUN_ACT_THI n) * 2 ^ 32 + s.fld (F.SUN_ACT_TLO n) < s.now)) := by
  obtain ⟨hsun, -, -, hcode, harg⟩ := s.actWords_vals n w
  have hnow : (s.actWords n w).now = s.now := by rw [State.now, hsun, State.now]
  rw [State.actLatch, State.sun_modSun, hsun, hcode, harg, hnow, s.fld_actWords_other n w (f := F.SUN_ACT_THI n) (by simp),
    s.fld_actWords_other n w (f := F.SUN_ACT_TLO n) (by simp)]

/-! ### A slot that fires (R211, R214) -/

/-- No command of a slot touches what is latched or the counter. -/
theorem State.sun_fireSlot (s : State) (n : Nat) : (s.fireSlot n).sun = s.sun :=
  (State.fireSlot_fr (κ := 0x2c0100000000080000000400000000000000000000001000000080000000240000201e400) (Fr.refl _ s)).keep_sun

/-- What an action leaves of the slots and the pending events: no slot is armed or disarmed, no event is lost. -/
def State.slotsKept (s t : State) : Prop :=
  (∀ m, t.fld (F.SUN_ACT_CTRL_ARM m) = s.fld (F.SUN_ACT_CTRL_ARM m)) ∧ ∀ e, e < 128 → s.pend e = true → t.pend e = true

theorem State.slotsKept.refl (s : State) : s.slotsKept s := ⟨fun _ => rfl, fun _ _ h => h⟩

theorem State.slotsKept.trans {s t u : State} (h : s.slotsKept t) (k : t.slotsKept u) : s.slotsKept u :=
  ⟨fun m => (k.1 m).trans (h.1 m), fun e he hp => k.2 e he (h.2 e he hp)⟩

/-- A field of another family than the slots' and the pending events'. -/
theorem State.slotsKept_set (s : State) {f : Fld} (v : Nat) (h : fam f.reg ≠ 51) (hp : fam f.reg ≠ 207) : s.slotsKept (s.set f v) := by
  refine ⟨fun m => ?_, fun e _ he => (State.pend_set _ _ _ hp).trans he⟩
  have hreg : (F.SUN_ACT_CTRL_ARM m).reg ≠ f.reg := fun hr => h (by rw [← hr, F.SUN_ACT_CTRL_ARM_fam])
  rw [State.set, State.fld_wr, if_neg hreg]

/-- STATUS of any slot is apart from ARM of every slot. -/
theorem State.slotsKept_status (s : State) (n v : Nat) : s.slotsKept (s.set (F.SUN_ACT_CTRL_STATUS n) v) :=
  ⟨fun _ => State.fld_set_apart _ _ rfl rfl, fun e _ he => (State.pend_set _ _ _ (by simp)).trans he⟩

theorem State.slotsKept_event (s : State) (e : Nat) : s.slotsKept (s.event e) :=
  ⟨fun m => State.fld_event _ _ (by rw [F.SUN_ACT_CTRL_ARM_fam]; decide), fun _ he hp => State.pend_event_mono _ _ _ he hp⟩

theorem State.slotsKept_resolve (s : State) (x : Axis) (c : Cmd) (r : Nat) : s.slotsKept (s.resolve x c r) := by
  have hshown : s.slotsKept ((((s.set (F.MC_STATE_TAG x) c.tag).set (F.MC_STATE_RESULT x) r).set (F.MC_STATE_SRC x) c.src).evx x 4) :=
    (((s.slotsKept_set _ (by simp) (by simp)).trans (State.slotsKept_set _ _ (by simp) (by simp))).trans
      (State.slotsKept_set _ _ (by simp) (by simp))).trans (State.slotsKept_event _ _)
  unfold State.resolve
  dsimp only
  split
  next m _ =>
    split
    · exact hshown.trans (State.slotsKept_status _ _ _)
    · split
      · exact hshown
      · exact (hshown.trans (State.slotsKept_status _ _ _)).trans (State.slotsKept_event _ _)
  next => exact hshown

theorem State.slotsKept_cmdArrive (s : State) (x : Axis) (c : Cmd) : s.slotsKept (s.cmdArrive x c) := by
  have hmod (f : Ax → Ax) : s.slotsKept (s.modAx x f) := by cases x <;> exact State.slotsKept.refl s
  unfold State.cmdArrive
  split
  · exact State.slotsKept.refl s
  · split
    · exact s.slotsKept_resolve x c _
    · split
      · exact hmod _
      · split
        · exact (hmod _).trans (State.slotsKept_resolve _ x _ _)
        · exact s.slotsKept_resolve x c _

theorem State.slotsKept_pglTrigReg (s : State) (n : Nat) : s.slotsKept (s.pglTrigReg n) := by
  have hfr := State.pglTrigReg_fr (κ := 0x2c01000000000000000000000000000000000000000000000000000000000000002000000) (n := n) (Fr.refl _ s)
  exact ⟨fun m => hfr.keep_fld (by rw [F.SUN_ACT_CTRL_ARM_fam]; decide), fun e _ he => (State.pend_of_fr hfr (by decide) e).trans he⟩

theorem State.slotsKept_actRun (s : State) (n code arg : Nat) : s.slotsKept (s.actRun n code arg) := by
  unfold State.actRun
  dsimp only
  split
  iterate 4 exact s.slotsKept_cmdArrive _ _
  · exact s.slotsKept_pglTrigReg arg
  · exact State.slotsKept.refl s

/-- A slot as it fires, before what it does. -/
def State.slotDone (s : State) (n : Nat) (late : Bool) : State := (s.actShow n 0 (if late then 3 else 2)).event (if late then 91 else 90)

theorem State.fireSlot_fires (s : State) (n : Nat) (harm : s.fld (F.SUN_ACT_CTRL_ARM n) = 1) (h : (s.act n).1 ≤ s.now) :
    s.fireSlot n = (s.slotDone n (s.act n).2.2.2).actRun n (s.act n).2.1 (s.act n).2.2.1 :=
  if_pos ⟨State.flag_eq_true harm, h⟩

theorem State.fireSlot_rests (s : State) (n : Nat) (h : s.fld (F.SUN_ACT_CTRL_ARM n) = 0 ∨ s.now < (s.act n).1) : s.fireSlot n = s := by
  refine if_neg fun ⟨harm, htime⟩ => ?_
  have harmed : s.fld (F.SUN_ACT_CTRL_ARM n) = 1 := by simpa [State.flag] using harm
  omega

theorem State.slotDone_vals (s : State) (n : Nat) (late : Bool) : (s.slotDone n late).fld (F.SUN_ACT_CTRL_ARM n) = 0 ∧
    (s.slotDone n late).fld (F.SUN_ACT_CTRL_STATUS n) = (if late then 3 else 2) ∧
    (s.slotDone n late).pend (if late then 91 else 90) = true := by
  obtain ⟨harm, hstatus⟩ := s.fld_actShow n (arm := 0) (status := if late then 3 else 2) (by decide) (by cases late <;> decide)
  refine ⟨?_, ?_, State.pend_event _ _ (by cases late <;> rfl)⟩
  · rw [State.slotDone, State.fld_event _ _ (by rw [F.SUN_ACT_CTRL_ARM_fam]; decide), harm]
  · rw [State.slotDone, State.fld_event _ _ (by rw [F.SUN_ACT_CTRL_STATUS_fam]; decide), hstatus]

/-- A slot that fires leaves ARM of every other slot. -/
theorem State.arm_fireSlot_other (s : State) {n m : Nat} (hn : n < 8) (hm : m < 8) (h : m ≠ n) :
    (s.fireSlot n).fld (F.SUN_ACT_CTRL_ARM m) = s.fld (F.SUN_ACT_CTRL_ARM m) := by
  have hreg : (F.SUN_ACT_CTRL_ARM m).reg ≠ A.SUN_ACT_CTRL n := by
    show 0x404048 + 0x10 * (m % 8) ≠ 0x404048 + 0x10 * (n % 8)
    omega
  have hdone (late : Bool) : (s.slotDone n late).fld (F.SUN_ACT_CTRL_ARM m) = s.fld (F.SUN_ACT_CTRL_ARM m) := by
    rw [State.slotDone, State.fld_event _ _ (by rw [F.SUN_ACT_CTRL_ARM_fam]; decide), State.actShow,
      State.fld_set_other _ _ _ _ rfl (.inl hreg), State.fld_set_other _ _ _ _ rfl (.inl hreg)]
  by_cases hfire : s.fld (F.SUN_ACT_CTRL_ARM n) = 1 ∧ (s.act n).1 ≤ s.now
  · rw [s.fireSlot_fires n hfire.1 hfire.2, (State.slotsKept_actRun _ _ _ _).1, hdone]
  · have hbit : s.fld (F.SUN_ACT_CTRL_ARM n) < 2 := fieldOf_lt (F.SUN_ACT_CTRL_ARM n) _
    rw [s.fireSlot_rests n (by omega)]

/-- A slot that is due is no longer armed after it fires. -/
theorem State.arm_fireSlot (s : State) (n : Nat) (h : ¬(s.fld (F.SUN_ACT_CTRL_ARM n) = 0 ∨ s.now < (s.act n).1)) :
    (s.fireSlot n).fld (F.SUN_ACT_CTRL_ARM n) = 0 := by
  have hbit : s.fld (F.SUN_ACT_CTRL_ARM n) < 2 := fieldOf_lt (F.SUN_ACT_CTRL_ARM n) _
  rw [s.fireSlot_fires n (by omega) (by omega), (State.slotsKept_actRun _ _ _ _).1]
  exact (s.slotDone_vals n _).1

/-! ### Slots in ascending order (R211) -/

theorem State.fireSlots_succ (s : State) (n : Nat) : s.fireSlots (n + 1) = (s.fireSlots n).fireSlot n := by
  rw [State.fireSlots, State.forEach, List.range_succ, List.foldl_append]; rfl

theorem State.sun_fireSlots (s : State) (n : Nat) : (s.fireSlots n).sun = s.sun :=
  State.forEach_keeps State.sun State.fireSlot State.sun_fireSlot _ s

theorem State.fireSlots_rest (s : State) (n : Nat)
    (h : ∀ m, m < n → s.fld (F.SUN_ACT_CTRL_ARM m) = 0 ∨ s.now < (s.act m).1) : s.fireSlots n = s := by
  induction n with
  | zero => rfl
  | succ n ih =>
    rw [State.fireSlots_succ, ih fun m hm => h m (by omega)]
    exact s.fireSlot_rests n (h n (by omega))

/-- Slots from n on stay as they are while the lower ones fire. -/
theorem State.arm_fireSlots_other (s : State) {n m : Nat} (hn : n ≤ m) (hm : m < 8) :
    (s.fireSlots n).fld (F.SUN_ACT_CTRL_ARM m) = s.fld (F.SUN_ACT_CTRL_ARM m) := by
  induction n with
  | zero => rfl
  | succ n ih => rw [State.fireSlots_succ, State.arm_fireSlot_other _ (by omega) hm (by omega), ih (by omega)]

theorem State.arm_fireSlots (s : State) {n m : Nat} (hn : n ≤ 8) (hm : m < n)
    (h : ¬(s.fld (F.SUN_ACT_CTRL_ARM m) = 0 ∨ s.now < (s.act m).1)) : (s.fireSlots n).fld (F.SUN_ACT_CTRL_ARM m) = 0 := by
  induction n with
  | zero => omega
  | succ n ih =>
    rw [State.fireSlots_succ]
    by_cases hlast : m = n
    · subst hlast
      refine State.arm_fireSlot _ _ ?_
      rw [s.arm_fireSlots_other (le_refl m) (by omega), State.now, State.act, s.sun_fireSlots]
      exact h
    · rw [State.arm_fireSlot_other _ (by omega) (by omega) hlast, ih (by omega) (by omega)]

theorem exec_actionFired (s : State) {n : Nat} (hrun : s.isRunning = true) (hn : n < 8) :
    exec (.actionFired n) s = .next (s.fireSlots (n + 1)) :=
  congrArg Host.Outcome.next ((State.running_of hrun).trans (if_pos hn))

/-- R213: a START or STOP of an axis whose timebase counts and that has no command pending waits there. -/
theorem State.cmdArrive_waits (s : State) (x : Axis) (c : Cmd) (hcode : 0 < c.code ∧ c.code ≤ 5) (hen : s.flag (F.PW_CTRL_EN x) = true)
    (hcmd : s.pendCmd x = none) : s.cmdArrive x c = s.modAx x (fun a => { a with cmd := some c }) := by
  rw [State.cmdArrive, if_neg (by omega), if_neg (by rw [hen]; decide), hcmd]

theorem State.cmdArrive_slotDone (s : State) (n : Nat) (late : Bool) (x : Axis) (c : Cmd) (hcode : 0 < c.code ∧ c.code ≤ 5)
    (hen : s.flag (F.PW_CTRL_EN x) = true) (hcmd : s.pendCmd x = none) : let t := (s.slotDone n late).cmdArrive x c
    (t.ax x).cmd = some c ∧ t.fld (F.SUN_ACT_CTRL_STATUS n) = (if late then 3 else 2) := by
  have hfr : Fr eventReach (s.actShow n 0 (if late then 3 else 2)) (s.slotDone n late) := State.event_fr (Fr.refl _ _)
  have hax : (s.slotDone n late).ax x = s.ax x :=
    (State.ax_of_fr hfr x (by decide) (by decide)).trans (by rw [State.actShow, State.ax_set, State.ax_set])
  have hen' : (s.slotDone n late).flag (F.PW_CTRL_EN x) = true := by
    rw [State.flag, State.slotDone, State.fld_event _ _ (by rw [F.PW_CTRL_EN_fam]; decide), s.fld_actShow_other n _ _ (by simp)]
    exact hen
  have hcmd' : (s.slotDone n late).pendCmd x = none := by rw [State.pendCmd, hax]; exact hcmd
  dsimp only
  rw [State.cmdArrive_waits _ x c hcode hen' hcmd', State.ax_modAx]
  exact ⟨rfl, (State.modAx_fld _ x _ _).trans (s.slotDone_vals n late).2.1⟩

/-- Settles O25: a slot is latched or disarmed by one write, and fires in the ascending pass up to its own number. -/
theorem actionSlotsArmCancelAndFire : Obligations.ActionSlotsArmCancelAndFire := by
  intro s n w hrun hn
  refine ⟨fun harm hcancel => ?_, fun hcancel => ?_, fun hrest => ?_, ?_, fun time code arg late hlow harm hact htime => ?_⟩
  · refine ⟨s.actWrite n w, congrArg Host.Outcome.next ((State.running_of hrun).trans (if_pos ⟨hn, harm⟩)),
      s.onlyRegs_actWrite n w, fun harmed => ?_, fun hfree hcode => ?_, fun hfree hcode => ?_⟩
    · obtain ⟨hsun, hkept, hstatus, -, -⟩ := s.actWords_vals n w
      rw [s.actWrite_armed n w hcancel harmed]
      exact ⟨hsun, hkept.trans harmed, hstatus⟩
    · obtain ⟨hsun, hkept, -, -, -⟩ := s.actWords_vals n w
      rw [s.actWrite_reserved n w hcancel hcode]
      exact ⟨hsun, hkept.trans hfree⟩
    · rw [s.actWrite_arms n w hcancel harm hfree hcode]
      obtain ⟨hset, hstatus⟩ := ((s.actWords n w).actLatch n).fld_actShow n (arm := 1) (status := 1) (by decide) (by decide)
      exact ⟨hset, hstatus, (congrArg Sun.acts (State.sun_actShow _ _ _ _)).trans (s.acts_arms n w)⟩
  · exact ⟨s.actWrite n w, congrArg Host.Outcome.next ((State.running_of hrun).trans (if_pos ⟨hn, hcancel⟩)), s.actWrite_cancel n w hcancel⟩
  · rw [exec_actionFired s hrun hn, s.fireSlots_rest (n + 1) fun m hm => hrest m (by omega)]
  · exact ⟨_, exec_actionFired s hrun hn, fun m hm => s.arm_fireSlots (by omega) (by omega)⟩
  · have hrun' : s.fireSlots (n + 1) = (s.slotDone n late).actRun n code arg := by
      rw [State.fireSlots_succ, s.fireSlots_rest n hlow, s.fireSlot_fires n harm (by rw [hact]; exact htime), hact]
    obtain ⟨hoff, hstatus, hpend⟩ := s.slotDone_vals n late
    have hkept := (s.slotDone n late).slotsKept_actRun n code arg
    refine ⟨_, (exec_actionFired s hrun hn).trans (congrArg _ hrun'), (hkept.1 n).trans hoff,
      hkept.2 _ (by cases late <;> decide) hpend, fun hcode => ?_, fun x c hmem hen hcmd => ?_⟩
    · rw [hcode]; exact hstatus
    · have hruns : (s.slotDone n late).actRun n code arg =
          (s.slotDone n late).cmdArrive x { code := c, tag := 0xF0 + n, src := 1, slot := some n } ∧ 0 < c ∧ c ≤ 5 := by
        simp only [List.mem_cons, Prod.mk.injEq, List.not_mem_nil, or_false] at hmem
        rcases hmem with ⟨rfl, rfl, rfl⟩ | ⟨rfl, rfl, rfl⟩ | ⟨rfl, rfl, rfl⟩ | ⟨rfl, rfl, rfl⟩ <;> exact ⟨rfl, by decide⟩
      rw [hruns.1]
      exact s.cmdArrive_slotDone n late x _ hruns.2 hen hcmd

/-! ### Frames by the one part or family they leave -/

/-- The mask of every part and family but bit n: what an operation that leaves that one may reach. -/
abbrev allBut (n : Nat) : Nat :=
  0x1ffffffffffffffffffffffffffffffffffffffffffffffffffffffffffffffffffffffffff ^^^ 2 ^ n

/-- Shadow copies of all registers but the compensators' banks, which the basic services write. -/
def State.shKept (s t : State) : Prop := ∀ a, fam a ≠ 124 → t.rdSh a = s.rdSh a

theorem State.shKept.refl (s : State) : s.shKept s := fun _ _ => rfl

theorem State.shKept.trans {s t u : State} (h : s.shKept t) (k : t.shKept u) : s.shKept u := fun a ha => (k a ha).trans (h a ha)

theorem State.shKept_of_fr {s t : State} (h : Fr (allBut 4) s t) : s.shKept t := fun a _ => by
  rw [State.rdSh, h.keep_shadow (by decide)]; rfl

theorem State.shKept_set (s : State) (f : Fld) (v : Nat) : s.shKept (s.set f v) := fun a _ => s.rdSh_set f v a

theorem State.shKept.want {s t : State} (h : s.shKept t) {f : Fld} (hf : fam f.reg ≠ 124) : t.want f = s.want f :=
  congrArg (fieldOf f) (h _ hf)

theorem State.shKept_forEach {f : State → Nat → State} (hf : ∀ (u : State) j, u.shKept (f u j)) (l : List Nat) (s : State) :
    s.shKept (s.forEach l f) := State.forEach_rel State.shKept.refl (fun h k => h.trans k) (fun u j _ => hf u j) s

/-- A word that reaches a bank's shadow copy. -/
theorem State.shKept_wrSh (s : State) {a : Nat} (v : Word) (h : fam a = 124) : s.shKept (s.wrSh a v) := fun b hb => by
  rw [State.rdSh_wrSh, if_neg fun e => hb (by rw [e, h])]

theorem State.shKept_deriveShadow (s : State) (x : Axis) (l : List Nat) (t : Nat) : s.shKept (s.deriveShadow x l t) :=
  State.shKept_forEach (fun u c => State.shKept_forEach (fun v i => v.shKept_wrSh _ (A.MC_BANK_fam x c i)) _ u) l s

theorem State.shKept_derivePeriod (s : State) (x : Axis) : s.shKept (s.derivePeriod x) := by
  unfold State.derivePeriod
  dsimp only
  have hderived : s.shKept ((s.gateTargets x).deriveShadow x ((s.gateTargets x).ownComps x)
      ((s.gateTargets x).fld (F.PW_PERIOD_EFF_TICKS x))) :=
    (State.shKept_of_fr (State.gateTargets_fr (Fr.refl _ s))).trans (State.shKept_deriveShadow _ x _ _)
  refine hderived.trans ?_
  split
  · exact State.shKept_of_fr (State.modSv_fr (Fr.refl _ _))
  · exact State.shKept_of_fr (State.derivedSwap_fr (Fr.refl _ _))

theorem State.shKept_periodTo (s : State) (x : Axis) (new : Nat) : s.shKept (s.periodTo x new) := by
  unfold State.periodTo
  split
  · exact State.shKept.refl s
  · exact (State.shKept_derivePeriod (s.set _ new) x).trans (State.shKept_of_fr (State.evx_fr (Fr.refl _ _)))

theorem State.shKept_periodApply (s : State) (x : Axis) : s.shKept (s.periodApply x) :=
  ((s.shKept_set _ _).trans (State.shKept_set _ _ _)).trans (State.shKept_periodTo _ x _)

/-! ### A new effective period (R195, R196) -/

/-- The registers of families 25 and 35, PERIOD and STAT, stand where a new effective period applies. -/
theorem State.rd_periodTo (s : State) (x : Axis) (new : Nat) {a : Nat} (h : fam a = 25 ∨ fam a = 35) : (s.periodTo x new).rd a = s.rd a :=
  (State.periodTo_fr (κ := 0x2c01000000000800000084000000000011000000000000000000000040002400002018410) (Fr.refl _ s)).keep_rd
    (by rcases h with h | h <;> rw [h] <;> decide)

theorem State.fld_periodTo (s : State) (x : Axis) (new : Nat) {f : Fld} (h : fam f.reg = 25 ∨ fam f.reg = 35) :
    (s.periodTo x new).fld f = s.fld f := congrArg (fieldOf f) (s.rd_periodTo x new h)

/-- R195: the effective period is the new one, and a change of it is an event. -/
theorem State.periodTo_eff (s : State) (x : Axis) {new : Nat} (h : new ≤ 400000) :
    (s.periodTo x new).fld (F.PW_PERIOD_EFF_TICKS x) = new ∧
      (new ≠ s.fld (F.PW_PERIOD_EFF_TICKS x) → (s.periodTo x new).pend (evAx x 20) = true) := by
  unfold State.periodTo
  split
  next heq => exact ⟨heq.symm, fun hne => absurd heq hne⟩
  next =>
    refine ⟨?_, fun _ => State.pend_event _ _ (by cases x <;> rfl)⟩
    rw [(State.evx_fr (κ := eventReach) (Fr.refl _ _)).keep_fld (by rw [F.PW_PERIOD_EFF_TICKS_fam]; decide),
      (State.derivePeriod_fr (κ := allBut (32 + 34)) (Fr.refl _ _)).keep_fld (by rw [F.PW_PERIOD_EFF_TICKS_fam]; decide)]
    exact State.fld_set_of_lt _ _ _ rfl (show new < 1048576 by omega)

theorem State.periodWanted_le (s : State) (x : Axis) : s.periodWanted x ≤ 400000 := Nat.min_le_left _ _

/-- R195: what the waiting period leaves as it applies. -/
theorem State.periodApply_vals (s : State) (x : Axis) : let t := s.periodApply x
    t.fld (F.PW_PERIOD_TICKS x) = s.want (F.PW_PERIOD_TICKS x) ∧ t.fld (F.PW_PERIOD_EFF_TICKS x) = s.periodWanted x ∧
      t.fld (F.PW_STAT_PER_PENDING x) = 0 ∧ t.fld (F.PW_STAT_PER_REFUSED x) = s.fld (F.PW_STAT_PER_REFUSED x) ∧
      (s.periodWanted x ≠ s.fld (F.PW_PERIOD_EFF_TICKS x) → t.pend (evAx x 20) = true) := by
  let u : State := (s.take (F.PW_PERIOD_TICKS x)).set (F.PW_STAT_PER_PENDING x) 0
  have happly : s.periodApply x = u.periodTo x (s.periodWanted x) := rfl
  have hperiod : u.fld (F.PW_PERIOD_TICKS x) = s.want (F.PW_PERIOD_TICKS x) :=
    (State.fld_set_apart _ _ rfl (by cases x <;> rfl)).trans (State.fld_take _ _ rfl)
  have heff : u.fld (F.PW_PERIOD_EFF_TICKS x) = s.fld (F.PW_PERIOD_EFF_TICKS x) :=
    (State.fld_set_apart _ _ rfl (by cases x <;> rfl)).trans (State.fld_take_apart _ rfl (by cases x <;> rfl))
  have hpending : u.fld (F.PW_STAT_PER_PENDING x) = 0 := State.fld_set_of_lt _ _ _ rfl Nat.zero_lt_two
  have hrefused : u.fld (F.PW_STAT_PER_REFUSED x) = s.fld (F.PW_STAT_PER_REFUSED x) :=
    (State.fld_set_apart _ _ rfl rfl).trans (State.fld_take_apart _ rfl (by cases x <;> rfl))
  obtain ⟨hnew, hevent⟩ := u.periodTo_eff x (s.periodWanted_le x)
  rw [heff] at hevent
  dsimp only
  rw [happly]
  exact ⟨(u.fld_periodTo x _ (.inl (F.PW_PERIOD_TICKS_fam x))).trans hperiod, hnew,
    (u.fld_periodTo x _ (.inr (F.PW_STAT_PER_PENDING_fam x))).trans hpending,
    (u.fld_periodTo x _ (.inr (F.PW_STAT_PER_REFUSED_fam x))).trans hrefused, hevent⟩

/-! ### A write of PERIOD (R176) -/

/-- The period written and its effective period are those in force, and no sample instant has announced another while a change waits. -/
def State.periodBack (s : State) (x : Axis) : Prop :=
  s.fld (F.PW_PERIOD_TICKS x) = s.want (F.PW_PERIOD_TICKS x) ∧ s.fld (F.PW_PERIOD_EFF_TICKS x) = s.periodWanted x ∧
    (s.fld (F.PW_STAT_PER_PENDING x) = 0 ∨ ∀ a ∈ (s.tb x).ann, a = none ∨ a.map (·.1) = some (s.periodWanted x))

theorem State.periodBack_iff (s : State) (x : Axis) : s.periodBack x ↔
    (s.periodWanted x == s.fld (F.PW_PERIOD_EFF_TICKS x) && s.want (F.PW_PERIOD_TICKS x) == s.fld (F.PW_PERIOD_TICKS x) &&
      !(s.flag (F.PW_STAT_PER_PENDING x) && (s.tb x).ann.any (fun a => a.any (fun a => a.1 != s.fld (F.PW_PERIOD_EFF_TICKS x))))) = true := by
  have hbit : s.fld (F.PW_STAT_PER_PENDING x) < 2 := fieldOf_lt (F.PW_STAT_PER_PENDING x) _
  have hann (a : Option (Nat × Nat)) (e : Nat) : (a.any (fun a => a.1 != e)) = false ↔ a = none ∨ a.map (·.1) = some e := by
    cases a <;> simp
  have hflag : s.flag (F.PW_STAT_PER_PENDING x) = false ↔ s.fld (F.PW_STAT_PER_PENDING x) = 0 := by
    rw [State.flag, beq_eq_false_iff_ne]; omega
  rw [State.periodBack, Bool.and_eq_true, Bool.and_eq_true, beq_iff_eq, beq_iff_eq, Bool.not_eq_true', Bool.and_eq_false_iff, hflag,
    List.any_eq_false]
  constructor
  · rintro ⟨hperiod, heff, hwait⟩
    refine ⟨⟨heff.symm, hperiod.symm⟩, hwait.imp_right fun h a ha => ?_⟩
    rw [Bool.not_eq_true, hann, heff]
    exact h a ha
  · rintro ⟨⟨heff, hperiod⟩, hwait⟩
    refine ⟨hperiod.symm, heff.symm, hwait.imp_right fun h a ha => ?_⟩
    rw [heff, ← hann]
    exact Bool.not_eq_true _ ▸ h a ha

theorem State.fld_of_flag {s : State} {f : Fld} (h : s.flag f = true) : s.fld f = 1 := by rwa [State.flag, beq_iff_eq] at h

theorem State.periodTouch_back (s : State) (x : Axis) (hrun : s.isRunning = true) (h : s.periodBack x) :
    s.periodTouch x = s.set (F.PW_STAT_PER_PENDING x) 0 := by
  rw [State.periodBack_iff] at h
  unfold State.periodTouch
  dsimp only
  rw [if_neg (by rw [hrun]; decide), if_pos h]

theorem State.periodTouch_stopped (s : State) (x : Axis) (hrun : s.isRunning = true) (h : ¬s.periodBack x)
    (hen : s.flag (F.PW_CTRL_EN x) = false) : s.periodTouch x = s.periodApply x := by
  rw [State.periodBack_iff] at h
  unfold State.periodTouch
  dsimp only
  rw [if_neg (by rw [hrun]; decide), if_neg h, if_neg (by rw [hen]; decide)]

/-- R195: with the timebase running a change waits; one that waits already is no change. -/
theorem State.periodTouch_counting (s : State) (x : Axis) (hrun : s.isRunning = true) (h : ¬s.periodBack x)
    (hen : s.flag (F.PW_CTRL_EN x) = true) : s.periodTouch x =
      if s.flag (F.PW_STAT_PER_PENDING x) && (s.tb x).perWant == s.periodWanted x then s
      else (s.set (F.PW_STAT_PER_PENDING x) 1).modTb x (fun t => { t with changes := t.changes + 1, perWant := s.periodWanted x }) := by
  rw [State.periodBack_iff] at h
  unfold State.periodTouch
  dsimp only
  rw [if_neg (by rw [hrun]; decide), if_neg h, if_pos hen]

/-- A change that waits shows as pending and leaves the other registers. -/
theorem State.periodTouch_counting_vals (s : State) (x : Axis) (hrun : s.isRunning = true) (h : ¬s.periodBack x)
    (hen : s.flag (F.PW_CTRL_EN x) = true) : let t := s.periodTouch x
    t.shadow = s.shadow ∧ t.fld (F.PW_STAT_PER_PENDING x) = 1 ∧ t.fld (F.PW_STAT_PER_REFUSED x) = s.fld (F.PW_STAT_PER_REFUSED x) ∧
      ∀ a, a ≠ A.PW_STAT x → t.rd a = s.rd a := by
  dsimp only
  rw [s.periodTouch_counting x hrun h hen]
  split
  next hwait => exact ⟨rfl, State.fld_of_flag (Bool.and_eq_true _ _ ▸ hwait).1, rfl, fun _ _ => rfl⟩
  next =>
    refine ⟨by rw [State.modTb_shadow, State.set_shadow], ?_, ?_, fun a ha => ?_⟩
    · rw [State.modTb_fld]; exact State.fld_set_of_lt _ _ _ rfl Nat.one_lt_two
    · rw [State.modTb_fld]; exact State.fld_set_apart _ _ rfl rfl
    · rw [State.modTb_rd]; exact State.rd_set_ne _ _ _ _ ha

theorem State.periodTakes_iff (s : State) (x : Axis) (v : Nat) : s.periodTakes x v = true ↔
    4000 ≤ v ∧ v ≤ 400000 ∧ s.fld (F.PW_PER_LIM_MIN x) ≤ v ∧ (s.flag (F.PW_CTRL_CARRIER x) = false → v % 2 = 0) := by
  rw [State.periodTakes, State.saw, inRange]
  cases s.flag (F.PW_CTRL_CARRIER x) <;> simp [and_assoc]

theorem exec_periodWrite (s : State) (x : Axis) (w : Word) (hrun : s.isRunning = true) :
    exec (.periodWrite x w) s = .next (s.periodWrite x w) := congrArg Host.Outcome.next (State.running_of hrun)

/-- R195: only an apply changes PERIOD's written copy or PER_REFUSED. -/
theorem State.periodTouch_keeps (s : State) (x : Axis) (hrun : s.isRunning = true) :
    (s.periodTouch x).want (F.PW_PERIOD_TICKS x) = s.want (F.PW_PERIOD_TICKS x) ∧
      (s.periodTouch x).fld (F.PW_STAT_PER_REFUSED x) = s.fld (F.PW_STAT_PER_REFUSED x) := by
  by_cases hback : s.periodBack x
  · rw [s.periodTouch_back x hrun hback]
    exact ⟨by rw [State.want, State.rdSh_set, State.want], State.fld_set_apart _ _ rfl rfl⟩
  · cases hen : s.flag (F.PW_CTRL_EN x)
    · rw [s.periodTouch_stopped x hrun hback hen]
      obtain ⟨-, -, -, hrefused, -⟩ := s.periodApply_vals x
      exact ⟨(s.shKept_periodApply x).want (by simp), hrefused⟩
    · obtain ⟨hshadow, -, hrefused, -⟩ := s.periodTouch_counting_vals x hrun hback hen
      exact ⟨State.want_of_shadow hshadow _, hrefused⟩

/-- Settles O19: a value outside R176 is flagged alone; any other is written and then, by log entry 66, is no change, applies or waits. -/
theorem periodWritesAreAcceptedInRangeOnly : Obligations.PeriodWritesAreAcceptedInRangeOnly := by
  intro s x w hrun
  dsimp only
  rw [exec_periodWrite s x w hrun, ← s.periodTakes_iff x]
  refine ⟨fun hbad => ⟨_, rfl, ?_⟩, fun hok => ⟨_, rfl, ?_⟩⟩
  · rw [State.periodWrite, if_neg hbad]
    exact ⟨(State.onlyRegs.refl _ s).set (List.mem_singleton.2 rfl), State.fld_set_of_lt _ _ _ rfl Nat.one_lt_two,
      State.fld_set_apart _ _ rfl rfl⟩
  · rw [State.periodWrite, if_pos hok]
    let u : State := s.setSh (F.PW_PERIOD_TICKS x) (fieldOf (F.PW_PERIOD_TICKS x) w)
    have hwant : u.want (F.PW_PERIOD_TICKS x) = fieldOf (F.PW_PERIOD_TICKS x) w := State.want_setSh_fieldOf _ _ _ rfl
    have heff : u.periodWanted x = min 400000 (max (fieldOf (F.PW_PERIOD_TICKS x) w) (s.carrierReq x (fieldOf (F.PW_PERIOD_TICKS x) w))) := by
      rw [State.periodWanted, hwant]; rfl
    have hback : u.periodBack x ↔ s.fld (F.PW_PERIOD_TICKS x) = fieldOf (F.PW_PERIOD_TICKS x) w ∧
        s.fld (F.PW_PERIOD_EFF_TICKS x) = u.periodWanted x ∧ (s.fld (F.PW_STAT_PER_PENDING x) = 0 ∨
          ∀ a ∈ (s.tb x).ann, a = none ∨ a.map (·.1) = some (u.periodWanted x)) := by
      rw [State.periodBack, hwant, show u.tb x = s.tb x by cases x <;> rfl]; rfl
    have hurun : u.isRunning = true := hrun
    obtain ⟨hkeptWant, hkeptRefused⟩ := u.periodTouch_keeps x hurun
    refine ⟨hkeptWant.trans hwant, hkeptRefused, fun hen => ?_, fun hen => ?_⟩
    · rw [← heff]
      by_cases hb : u.periodBack x
      · obtain ⟨hperiod, hkept, -⟩ := hback.1 hb
        rw [u.periodTouch_back x hurun hb]
        exact ⟨(State.fld_set_apart _ _ rfl (by cases x <;> rfl)).trans hperiod,
          (State.fld_set_apart _ _ rfl (by cases x <;> rfl)).trans hkept, State.fld_set_of_lt _ _ _ rfl Nat.zero_lt_two⟩
      · obtain ⟨hperiod, hnew, hpending, -, -⟩ := u.periodApply_vals x
        rw [u.periodTouch_stopped x hurun hb hen]
        exact ⟨hperiod.trans hwant, hnew, hpending⟩
    · rw [← heff]
      by_cases hb : u.periodBack x
      · rw [u.periodTouch_back x hurun hb, if_pos (hback.1 hb)]
        exact ⟨State.rd_set_ne _ _ _ _ (by cases x <;> decide), State.rd_set_ne _ _ _ _ (by cases x <;> decide),
          State.fld_set_of_lt _ _ _ rfl Nat.zero_lt_two⟩
      · obtain ⟨-, hpending, -, hrest⟩ := u.periodTouch_counting_vals x hurun hb hen
        rw [if_neg (fun h => hb (hback.2 h))]
        exact ⟨hrest _ (by cases x <;> decide), hrest _ (by cases x <;> decide), hpending⟩

/-! ### What the phase lock leaves (R199 to R201) -/

/-- What the phase lock reaches at a valley or wrap: PHASE and LOCK_A, the lock's status, the timebases and an event. -/
abbrev lockReach : Nat := 0x2c010000000008000000040000000000000000000000000000000000a0102400002198400

/-- The phase lock's part of a valley or wrap. -/
def State.lockJudge (s : State) (x : Axis) (since : Nat) : State :=
  match x with
  | .a => s.takeLock.lockLost
  | .b => s.lockStep since

theorem State.lockJudge_fr (s : State) (x : Axis) (since : Nat) : Fr lockReach s (s.lockJudge x since) := by
  cases x
  · exact State.lockLost_fr (State.takeLock_fr (Fr.refl _ s))
  · exact State.lockStep_fr (Fr.refl _ s)

/-- The end of a lock is an event, which loses none, and leaves the other status bits. -/
theorem State.lockLost_keeps (s : State) (x : Axis) : s.lockLost.fld (F.PW_STAT_PER_PENDING x) = s.fld (F.PW_STAT_PER_PENDING x) ∧
    ∀ e, e < 128 → s.pend e = true → s.lockLost.pend e = true := by
  unfold State.lockLost
  split
  · refine ⟨?_, fun e he hp => State.pend_event_mono _ _ _ he ((State.pend_set _ _ _ (by simp)).trans hp)⟩
    rw [State.evx, State.fld_event _ _ (by rw [F.PW_STAT_PER_PENDING_fam]; decide)]
    exact State.fld_set_apart _ _ rfl (by cases x <;> rfl)
  · exact ⟨rfl, fun _ _ h => h⟩

theorem State.pend_modTb (s : State) (x : Axis) (f : Tb → Tb) (e : Nat) : (s.modTb x f).pend e = s.pend e := by cases x <;> rfl

theorem State.pend_takeLock (s : State) (e : Nat) : s.takeLock.pend e = s.pend e :=
  State.pend_of_fr (State.takeLock_fr (κ := allBut (32 + 207)) (Fr.refl _ s)) (by decide) e

theorem State.lockStep_keeps (s : State) (x : Axis) (since : Nat) :
    (s.lockStep since).fld (F.PW_STAT_PER_PENDING x) = s.fld (F.PW_STAT_PER_PENDING x) ∧
      ∀ e, e < 128 → s.pend e = true → (s.lockStep since).pend e = true := by
  unfold State.lockStep
  dsimp only
  split
  · refine ⟨?_, fun e _ hp => ?_⟩
    · rw [State.setB, State.fld_set_apart _ _ rfl (by cases x <;> rfl), State.modTb_fld, State.modTb_fld]
    · rw [State.setB, State.pend_set _ _ _ (by simp), State.pend_modTb, State.pend_modTb, hp]
  · obtain ⟨hpending, hpend⟩ := (s.modTb .b (fun t => { t with extra := t.extraNext, extraNext := 0 })).lockLost_keeps x
    exact ⟨hpending.trans (State.modTb_fld s .b _ _), fun e he hp => hpend e he ((State.pend_modTb s .b _ e).trans hp)⟩

theorem State.lockJudge_keeps (s : State) (x : Axis) (since : Nat) :
    (s.lockJudge x since).fld (F.PW_STAT_PER_PENDING x) = s.fld (F.PW_STAT_PER_PENDING x) ∧
      ∀ e, e < 128 → s.pend e = true → (s.lockJudge x since).pend e = true := by
  cases x
  · obtain ⟨hpending, hpend⟩ := s.takeLock.lockLost_keeps .a
    refine ⟨hpending.trans ?_, fun e he hp => hpend e he ((s.pend_takeLock e).trans hp)⟩
    exact (State.fld_take_apart _ rfl rfl).trans (State.fld_take_apart _ rfl rfl)
  · exact s.lockStep_keeps .b since

theorem State.tb_lockLost (s : State) (x : Axis) : s.lockLost.tb x = s.tb x :=
  (State.lockLost_fr (κ := 0x2c01000000000800000004000000000000000000000000000000000080002400002018400) (Fr.refl _ s)).keep_tb x

/-- R200: the carrier takes the lengthening judged before, and the next one is at most T/16. -/
theorem State.tb_lockStep (s : State) (since : Nat) : ((s.lockStep since).tb .b).down = (s.tb .b).down ∧
    ((s.lockStep since).tb .b).extra = (s.tb .b).extraNext ∧
    ((s.lockStep since).tb .b).extraNext ≤ s.fld (F.PW_PERIOD_EFF_TICKS .b) / 16 := by
  unfold State.lockStep
  dsimp only
  split
  · rw [State.setB, State.tb_set, State.tb_modTb, State.tb_modTb, State.modTb_fld]
    exact ⟨rfl, rfl, Nat.min_le_left _ _⟩
  · rw [State.tb_lockLost, State.tb_modTb]
    exact ⟨rfl, rfl, Nat.zero_le _⟩

theorem State.tb_lockJudge (s : State) (x : Axis) (since : Nat) : ((s.lockJudge x since).tb x).down = (s.tb x).down := by
  cases x
  · exact congrArg Tb.down ((State.tb_lockLost _ .a).trans
      ((State.takeLock_fr (κ := 0x20100000000000000) (Fr.refl _ s)).keep_tb .a))
  · exact (s.tb_lockStep since).1

/-- Table 6.5: PHASE and LOCK_A of axis B hold their written values after a valley of axis A. -/
theorem State.lockJudge_a (s : State) (since : Nat) : (s.lockJudge .a since).fld (F.PW_PHASE_TICKS .b) = s.want (F.PW_PHASE_TICKS .b) ∧
    (s.lockJudge .a since).fld (F.PW_CTRL_LOCK_A .b) = s.want (F.PW_CTRL_LOCK_A .b) := by
  have hfr := State.lockLost_fr (κ := 0x2c01000000000800000004000000000000000000000000000000000080002400002018400) (Fr.refl _ s.takeLock)
  refine ⟨(hfr.keep_fld (by decide)).trans ?_, (hfr.keep_fld (by decide)).trans ?_⟩
  · exact (State.fld_take_apart _ rfl rfl).trans (State.fld_take _ _ rfl)
  · rw [State.takeLock, State.fld_take _ _ rfl, State.want_take]

/-! ### A carrier begins (table 6.5, R186, R195) -/

/-- What a valley or wrap lets take effect: the sample slots and the brake value. -/
def valleyFlds (x : Axis) : List Fld :=
  [F.PW_SAMP_EN x 0, F.PW_SAMP_POS x 0, F.PW_SAMP_EN x 1, F.PW_SAMP_POS x 1, F.PW_SAMP_EN x 2, F.PW_SAMP_POS x 2,
    F.PW_SAMP_EN x 3, F.PW_SAMP_POS x 3, F.PW_CMP_BK_D x]

theorem State.takeValley_eq (s : State) (x : Axis) : s.takeValley x = s.forEach (valleyFlds x) State.take := rfl

theorem State.fld_takeValley (s : State) (x : Axis) {f : Fld} (hf : f ∈ valleyFlds x) : (s.takeValley x).fld f = s.want f := by
  rw [s.takeValley_eq]
  exact State.fld_forEach_take (valleyFlds x) s (by cases x <;> decide) (by cases x <;> decide) f hf

theorem samp_mem_valleyFlds (x : Axis) {n : Nat} (hn : n < 4) : F.PW_SAMP_EN x n ∈ valleyFlds x ∧ F.PW_SAMP_POS x n ∈ valleyFlds x := by
  interval_cases n <;> simp [valleyFlds]

theorem State.takeValley_reach (s : State) (x : Axis) : Fr 0x12000000000000000 s (s.takeValley x) := State.takeValley_fr (Fr.refl _ s)

theorem State.shKept_periodServe (s : State) (x : Axis) : s.shKept (s.periodServe x) := by
  unfold State.periodServe
  split
  · exact State.shKept.refl s
  · split
    · exact State.shKept.refl s
    · split
      · exact s.shKept_periodApply x
      · exact s.shKept_periodTo x _

theorem State.tb_periodServe (s : State) (x y : Axis) : (s.periodServe x).tb y = s.tb y :=
  (State.periodServe_fr (κ := 0x2c010000000008000000840000000000110000000000000000000000c0202400002018410) (Fr.refl _ s)).keep_tb y

/-- R195: with no period announced or none waiting, nothing is served. -/
theorem State.periodServe_none (s : State) (x : Axis) (h : (s.tb x).setAnn = none ∨ s.flag (F.PW_STAT_PER_PENDING x) = false) :
    s.periodServe x = s := by
  unfold State.periodServe
  split
  · rfl
  next hann =>
    rcases h with h | h
    · exact absurd (hann.symm.trans h) (by simp)
    · rw [if_pos h]

theorem State.periodServe_some (s : State) (x : Axis) {p n : Nat} (h : (s.tb x).setAnn = some (p, n))
    (hwait : s.flag (F.PW_STAT_PER_PENDING x) = true) :
    s.periodServe x = if n = (s.tb x).changes then s.periodApply x else s.periodTo x p := by
  rw [State.periodServe, h]
  dsimp only
  rw [if_neg (by rw [hwait]; decide)]

/-- The state in which the phase lock is judged. -/
def State.carrierTaken (s : State) (x : Axis) : State :=
  ((s.periodServe x).takeValley x).modTb x (fun t => { t with down := false, carrier := t.carrier + 1, ann := List.replicate 5 none })

theorem exec_valleyOrWrap (s : State) (x : Axis) (since : Nat) (h : s.counts x = true) :
    exec (.valleyOrWrap x since) s = .next ((s.carrierTaken x).lockJudge x since) :=
  congrArg Host.Outcome.next ((if_pos h).trans (by cases x <;> rfl))

theorem State.fld_carrierTaken (s : State) (x : Axis) {f : Fld} (hf : f ∈ valleyFlds x) (hfam : fam f.reg ≠ 124) :
    (s.carrierTaken x).fld f = s.want f := by
  rw [State.carrierTaken, State.modTb_fld, State.fld_takeValley _ x hf, (s.shKept_periodServe x).want hfam]

theorem State.want_carrierTaken (s : State) (x : Axis) {f : Fld} (hfam : fam f.reg ≠ 124) : (s.carrierTaken x).want f = s.want f := by
  rw [State.want, State.carrierTaken, State.modTb_rdSh, State.rdSh, ((s.periodServe x).takeValley_reach x).keep_shadow (by decide)]
  exact (s.shKept_periodServe x).want hfam

/-- The registers of the period stand as they were served. -/
theorem State.rd_carrierTaken (s : State) (x : Axis) {a : Nat} (h : fam a = 25 ∨ fam a = 34 ∨ fam a = 35) :
    (s.carrierTaken x).rd a = (s.periodServe x).rd a := by
  rw [State.carrierTaken, State.modTb_rd]
  exact ((s.periodServe x).takeValley_reach x).keep_rd (by rcases h with h | h | h <;> rw [h] <;> decide)

theorem State.pend_carrierTaken (s : State) (x : Axis) (e : Nat) : (s.carrierTaken x).pend e = (s.periodServe x).pend e := by
  rw [State.carrierTaken, State.pend_modTb, State.pend_of_fr ((s.periodServe x).takeValley_reach x) (by decide)]

theorem State.tb_carrierTaken (s : State) (x : Axis) : ((s.carrierTaken x).tb x).down = false ∧
    ((s.carrierTaken x).tb x).extraNext = (s.tb x).extraNext := by
  rw [State.carrierTaken, State.tb_modTb, ((s.periodServe x).takeValley_reach x).keep_tb x, s.tb_periodServe x x]
  exact ⟨rfl, rfl⟩

/-- The period's registers, STAT's pending bit and a pending event after the whole valley or wrap. -/
theorem State.valley_keeps (s : State) (x : Axis) (since : Nat) : let t := (s.carrierTaken x).lockJudge x since
    (∀ a, fam a = 25 ∨ fam a = 34 → t.rd a = (s.periodServe x).rd a) ∧
      t.fld (F.PW_STAT_PER_PENDING x) = (s.periodServe x).fld (F.PW_STAT_PER_PENDING x) ∧
      ∀ e, e < 128 → (s.periodServe x).pend e = true → t.pend e = true := by
  obtain ⟨hpending, hpend⟩ := (s.carrierTaken x).lockJudge_keeps x since
  refine ⟨fun a ha => ?_, hpending.trans ?_, fun e he hp => hpend e he ((s.pend_carrierTaken x e).trans hp)⟩
  · refine (((s.carrierTaken x).lockJudge_fr x since).keep_rd (by rcases ha with h | h <;> rw [h] <;> decide)).trans ?_
    exact s.rd_carrierTaken x (by tauto)
  · exact congrArg (fieldOf _) (s.rd_carrierTaken x (.inr (.inr (F.PW_STAT_PER_PENDING_fam x))))

/-! ### FATAL faults of the device (table 14.3, R498) -/

theorem State.cause_device_setCause (s : State) (x : Axis) {c d : Nat} (b : Bool) (hc : c < 64) (hd : d < 32) :
    (s.setCause (scAxis x) d b).cause 0 c = s.cause 0 c := by
  refine State.getBit_setBit_other _ _ _ _ _ _ rfl (.inl ?_)
  have hword : d / 32 = 0 := Nat.div_eq_of_lt hd
  obtain h | h : c / 32 = 0 ∨ c / 32 = 1 := by omega
  all_goals cases x <;> simp only [causeFld, hword, h] <;> decide

/-- A safe state of an axis ends no cause of the device. -/
theorem State.cause_device_putSafe (s : State) (x : Axis) (st rank origin : Nat) {c : Nat} (hc : c < 64) :
    (s.putSafe x st rank origin).cause 0 c = s.cause 0 c := by
  have hends (u : State) : (u.shortsEnd x st).cause 0 c = u.cause 0 c := by
    rw [State.shortsEnd]
    split
    · rfl
    · exact (State.cause_device_setCause _ x false hc (by decide)).trans (State.cause_device_setCause _ x false hc (by decide))
  rw [State.putSafe_eq]
  refine (State.cause_of_fr (m := allBut (32 + 204)) (Fr.ite (State.evx_fr ?_) ?_) (by decide) _ _).trans
    ((hends _).trans (State.cause_of_fr (s.safeGates_fr x st rank origin) (by decide) _ _))
  all_goals exact Fr.ite (State.compsZero_fr (Fr.refl _ _)) (Fr.refl _ _)

theorem State.cause_device_chooseSafe (s : State) (x : Axis) (st rank origin : Nat) (retry : Bool) {c : Nat} (hc : c < 64) :
    (s.chooseSafe x st rank origin retry).cause 0 c = s.cause 0 c := by
  have hjoin : (s.retryJoin x retry).cause 0 c = s.cause 0 c :=
    State.cause_of_fr (m := allBut (32 + 204)) (State.retryJoin_fr (Fr.refl _ _)) (by decide) _ _
  exact State.chooseSafe_rel (R := fun s t => t.cause 0 c = s.cause 0 c) rfl
    (fun f => State.cause_of_fr (m := allBut (32 + 204)) (State.modTr_fr (Fr.refl _ _)) (by decide) _ _) hjoin
    (State.cause_of_fr (m := allBut (32 + 204)) (State.ascDropped_fr (Fr.refl _ _)) (by decide) _ _)
    ((State.cause_device_putSafe _ x st rank origin hc).trans hjoin)

theorem State.cause_fatal (s : State) (code unit detail : Nat) {c : Nat} (hc : c < 64) :
    (s.fatal code unit detail).cause 0 c = s.cause 0 c :=
  (State.cause_device_chooseSafe _ .b _ 6 3 false hc).trans
    ((State.cause_device_chooseSafe _ .a _ 6 3 false hc).trans (State.cause_fault s code 0 unit detail 0 c))

theorem State.stat_chooseSafe (s : State) (x : Axis) (st rank origin : Nat) (retry : Bool) (sc c : Nat) :
    (s.chooseSafe x st rank origin retry).stat sc c = s.stat sc c :=
  State.stat_of_fr (m := allBut (32 + 203)) (State.chooseSafe_fr (Fr.refl _ _)) (by decide) sc c

theorem State.stat_fatal (s : State) (code unit detail sc c : Nat) :
    (s.fatal code unit detail).stat sc c = (s.fault code 0 unit detail).stat sc c :=
  (State.stat_chooseSafe _ .b _ 6 3 false sc c).trans (State.stat_chooseSafe _ .a _ 6 3 false sc c)

theorem State.marks_fatal (s : State) {code : Nat} (unit detail : Nat) (hrun : s.isRunning = true) (h : faultClass code = 3) (x : Axis) :
    ((s.fatal code unit detail).ax x).fault = true :=
  State.marksKept_chooseSafe _ .b _ 6 3 false x
    (State.marksKept_chooseSafe _ .a _ 6 3 false x (s.marks_fault_fatal 0 unit detail hrun h x))

/-- Before RUNNING a fault is held: no status bit is set (R508). -/
theorem State.stat_fault_held (s : State) {code : Nat} (sc unit detail k c : Nat) (hrun : s.isRunning = false) (h : code ≠ 36) :
    (s.fault code sc unit detail).stat k c = s.stat k c := by
  rw [State.fault, if_neg (by simp [hrun, h])]
  exact State.stat_of_fr (m := allBut (32 + 203)) (State.hold_fr (Fr.refl _ s)) (by decide) k c

/-- R174: the reference clock is lost with the PLL off and the cause of code 33 present. -/
def State.clockGone (s : State) : State := (s.modSun (fun u => { u with pll := false })).setCause 0 33 true

theorem exec_referenceClockLost (s : State) (hup : s.isUp = true) (hpll : s.sun.pll = true) :
    exec .referenceClockLost s = .next (s.clockGone.fatal 33 0 0) :=
  congrArg Host.Outcome.next (if_pos (by rw [hup, hpll]; rfl))

theorem State.clockGone_fr (s : State) : Fr (allBut (32 + 203)) s s.clockGone :=
  State.setCause_fr (State.modSun_fr (Fr.refl _ s))

theorem State.pll_clockGone (s : State) : s.clockGone.sun.pll = false :=
  congrArg Sun.pll ((State.setCause_fr (κ := allBut 24) (Fr.refl _ _)).keep_sun (by decide))

theorem State.isRunning_clockGone (s : State) : s.clockGone.isRunning = s.isRunning := by
  rw [State.clockGone, State.isRunning_of_fr (State.setCause_fr (κ := 0x100000000000000000000000000000000000000000000000000000000000)
    (Fr.refl _ _)), State.modSun_isRunning]

/-- Settles O21: what waits takes effect by its row of table 6.5, the period by what the set's sample instant announced. -/
theorem carrierStartAppliesWhatWaits : Obligations.CarrierStartAppliesWhatWaits := by
  intro s
  refine ⟨fun x since => ⟨fun hstop => congrArg Host.Outcome.next (if_neg (by rw [hstop]; decide)), fun hcount =>
    ⟨_, exec_valleyOrWrap s x since hcount, ?_, ?_, fun n hn => ?_, fun p n hwait hann => ?_, fun hnone => ?_, ?_, ?_⟩⟩, fun hup hpll =>
    ⟨_, exec_referenceClockLost s hup hpll, ?_, fun x => ?_, fun hrun => ⟨?_, fun x => ?_⟩, fun hrun => ?_⟩⟩
  · exact ((s.carrierTaken x).tb_lockJudge x since).trans (s.tb_carrierTaken x).1
  · rw [((s.carrierTaken x).lockJudge_fr x since).keep_fld (by simp; decide)]
    exact s.fld_carrierTaken x (by simp [valleyFlds]) (by simp)
  · obtain ⟨hen, hpos⟩ := samp_mem_valleyFlds x hn
    have hfr := (s.carrierTaken x).lockJudge_fr x since
    exact ⟨(hfr.keep_fld (by simp; decide)).trans (s.fld_carrierTaken x hen (by simp)),
      (hfr.keep_fld (by simp; decide)).trans (s.fld_carrierTaken x hpos (by simp))⟩
  · obtain ⟨hregs, hpending, hpend⟩ := s.valley_keeps x since
    have hperiod := congrArg (fieldOf (F.PW_PERIOD_TICKS x)) (hregs _ (.inl (A.PW_PERIOD_fam x)))
    have heff := congrArg (fieldOf (F.PW_PERIOD_EFF_TICKS x)) (hregs _ (.inr (A.PW_PERIOD_EFF_fam x)))
    have hev : evAx x 20 < 128 := by cases x <;> decide
    rw [s.periodServe_some x hann hwait] at hregs hpending hpend hperiod heff
    refine ⟨fun hlast => ?_, fun hlater hp => ?_⟩
    · rw [if_pos hlast] at hregs hpending hpend hperiod heff
      obtain ⟨hwant, hnew, hshown, -, hevent⟩ := s.periodApply_vals x
      exact ⟨hperiod.trans hwant, heff.trans hnew, hpending.trans hshown, fun hne => hpend _ hev (hevent hne)⟩
    · rw [if_neg hlater] at hregs hpending hpend hperiod heff
      obtain ⟨hnew, hevent⟩ := s.periodTo_eff x hp
      refine ⟨heff.trans hnew, (hregs _ (.inl (A.PW_PERIOD_fam x))).trans (s.rd_periodTo x p (.inl (A.PW_PERIOD_fam x))),
        hpending.trans ?_, fun hne => hpend _ hev (hevent hne)⟩
      exact (s.fld_periodTo x p (.inr (F.PW_STAT_PER_PENDING_fam x))).trans (State.fld_of_flag hwait)
  · obtain ⟨hregs, hpending, -⟩ := s.valley_keeps x since
    rw [s.periodServe_none x hnone] at hregs hpending
    exact ⟨hregs _ (.inl (A.PW_PERIOD_fam x)), hregs _ (.inr (A.PW_PERIOD_EFF_fam x)), hpending⟩
  · rintro rfl
    obtain ⟨hphase, hlock⟩ := (s.carrierTaken .a).lockJudge_a since
    exact ⟨hphase.trans (s.want_carrierTaken .a (by decide)), hlock.trans (s.want_carrierTaken .a (by decide))⟩
  · rintro rfl
    obtain ⟨-, hextra, hnext⟩ := (s.carrierTaken .b).tb_lockStep since
    refine ⟨hextra.trans (s.tb_carrierTaken .b).2, hnext.trans_eq ?_⟩
    rw [((s.carrierTaken .b).lockJudge_fr .b since).keep_fld (by decide)]
  · rw [State.cause_fatal _ 33 0 0 (by decide)]
    exact State.cause_setCause _ 0 33 true
  · rw [State.counts, (State.fatal_fr (κ := allBut 24) (Fr.refl _ s.clockGone)).keep_sun (by decide), s.pll_clockGone]
    simp
  · rw [State.stat_fatal]
    exact State.stat_fault _ _ _ _ _ (s.isRunning_clockGone.trans hrun)
  · exact State.marks_fatal _ 0 0 (s.isRunning_clockGone.trans hrun) rfl x
  · rw [State.stat_fatal, State.stat_fault_held _ _ _ _ _ _ (s.isRunning_clockGone.trans hrun) (by decide),
      State.stat_of_fr s.clockGone_fr (by decide)]

/-! ### Shadow copies while a timebase is stopped (R26) -/

theorem State.shKept_wr (s : State) (a : Nat) (v : Word) : s.shKept (s.wr a v) := fun _ _ => State.rdSh_wr ..

theorem State.shKept.ite {s t u : State} {c : Prop} [Decidable c] (ht : s.shKept t) (hu : s.shKept u) :
    s.shKept (if c then t else u) := by split <;> assumption

theorem State.shKept_deriveFor (s : State) (x : Axis) (l : List Nat) : s.shKept (s.deriveFor x l) := by
  unfold State.deriveFor
  dsimp only
  exact (s.shKept_deriveShadow x l _).trans (State.shKept.ite (State.shKept_of_fr (State.modSv_fr (Fr.refl _ _)))
    (State.shKept_of_fr (State.bankTake_fr (Fr.refl _ _))))

theorem State.shKept_derive (s : State) (x : Axis) : s.shKept (s.derive x) :=
  (s.shKept_deriveFor x _).trans (State.shKept_of_fr (State.gateTargets_fr (Fr.refl _ _)))

theorem State.shKept_groupsReturn (s : State) (x : Axis) : s.shKept (s.groupsReturn x) := by
  have hderived (f : Svc → Svc) (l : List Nat) : s.shKept (((s.modSv x f).serviceShow x).deriveFor x l) :=
    (State.shKept_of_fr (State.serviceShow_fr (State.modSv_fr (Fr.refl _ s)))).trans (State.shKept_deriveFor _ x l)
  unfold State.groupsReturn
  dsimp only
  split
  · exact State.shKept.refl s
  · exact State.shKept.ite ((hderived _ _).trans (State.shKept_of_fr (State.gateTargets_fr (Fr.refl _ _)))) (hderived _ _)

theorem State.shKept_modSv (s : State) (x : Axis) (f : Svc → Svc) : s.shKept (s.modSv x f) :=
  State.shKept_of_fr (State.modSv_fr (Fr.refl _ s))

theorem State.shKept_ownActivate (s : State) (x : Axis) : s.shKept (s.ownActivate x) := by
  have hown (f g : Svc → Svc) (v : Word) : s.shKept (((s.modSv x f).wr (A.MC_OWN x) v).modSv x g) :=
    ((s.shKept_modSv x f).trans (State.shKept_wr _ _ v)).trans (State.shKept_modSv _ x g)
  unfold State.ownActivate
  dsimp only
  exact State.shKept.ite (s.shKept_modSv x _) (State.shKept.ite (hown _ _ _) ((hown _ _ _).trans (State.shKept_groupsReturn _ x)))

theorem State.shKept_bankSwap (s : State) (x : Axis) (c : Nat) : s.shKept (s.bankSwap x c) :=
  (State.shKept_forEach (fun u i => (u.shKept_wr _ _).trans (State.shKept_wrSh _ _ (A.MC_BANK_fam x c i))) _ s).trans
    (State.shKept_set _ _ _)

theorem State.shKept_swapNow (s : State) (x : Axis) : s.shKept (s.swapNow x) := by
  have hswap (l : List Nat) : s.shKept ((s.keepBanks x l).forEach l (fun s c => s.bankSwap x c)) :=
    (State.shKept_of_fr (State.keepBanks_fr (Fr.refl _ s))).trans (State.shKept_forEach (fun u c => u.shKept_bankSwap x c) l _)
  unfold State.swapNow
  dsimp only
  refine State.shKept.ite (State.shKept.refl s) (State.shKept.trans ?_ (State.shKept_of_fr (State.evx_fr (Fr.refl _ _))))
  split
  all_goals exact (hswap _).trans (State.shKept_of_fr (State.set_fr (State.set_fr
    (Fr.forEach (State.modSv_fr (State.set_fr (Fr.refl _ _))) fun _ _ h => State.setBit_fr h))))

theorem State.shKept_serviceApply (s : State) (x : Axis) : s.shKept (s.serviceApply x) :=
  (State.shKept_of_fr (State.serviceShow_fr (Fr.refl _ s))).trans (State.shKept_derive _ x)

theorem State.shKept_sectSwap (s : State) : s.shKept s.sectSwap := by
  have hfr {u v : State} (h : Fr (allBut 4) u v) : u.shKept v := State.shKept_of_fr h
  have hcopied (b : Fabric → Fabric) (m : Img → Img) (to_ from_ n : Nat) : s.shKept
      ((((((s.modFab b).copyOver to_ from_ n).modImg m).set F.GH_SECT_STATUS_BUSY 0).set F.GH_SECT_UPD_GO 0).set F.GH_SECT_STATUS_RESULT 1) :=
    hfr (State.set_fr (State.set_fr (State.set_fr (State.modImg_fr (State.copyOver_fr (State.modFab_fr (Fr.refl _ s)))))))
  unfold State.sectSwap
  dsimp only
  split
  · exact State.shKept.refl s
  · refine State.shKept.trans ?_ (hfr (State.event_fr (Fr.refl _ _)))
    split
    next x _ =>
      refine State.shKept.trans ?_ (hfr (State.pllShow_fr (Fr.onlyIf (Fr.refl _ _) fun _ h => State.sectShow_fr h)))
      exact State.shKept.ite ((hcopied _ _ _ _ _).trans (State.shKept_serviceApply _ x)) (hcopied _ _ _ _ _)
    next => exact (hcopied _ _ _ _ _).trans (hfr (State.pllShow_fr (State.pllShow_fr (Fr.refl _ _))))

/-! ### What a stopped timebase lets take effect (R26) -/

/-- Ownership, MODE, loop enables and compensator swaps. -/
def State.idleOwn (s : State) (x : Axis) : State := (((s.ownActivate x).modeTake x).loopTake x).swapNow x

/-- All that waits for an instant of the axis, but what table 6.5 lets take effect at an update instant. -/
def State.idleParts (s : State) (x : Axis) : State :=
  let s := s.idleOwn x
  let s := if s.flag (F.MC_MODE_FW_EN x) then s else (s.set (F.MC_X_ID_FW x) 0).set (F.MC_STATE_FW_ACTIVE x) 0
  let s := if (s.sv x).home then s.homeNow x else s
  let s := if s.sectWaits x then s.sectSwap else s
  (s.takeDerived x).takeValley x

theorem State.idleCommit_eq (s : State) (x : Axis) : s.idleCommit x =
    let u := if s.flag (F.PW_CTRL_EN .a) then s else s.takeLock
    if u.flag (F.PW_CTRL_EN x) then u else (u.idleParts x).takeUpdate x := rfl

theorem State.shKept_idleParts (s : State) (x : Axis) : s.shKept (s.idleParts x) := by
  have hfr {u v : State} (h : Fr (allBut 4) u v) : u.shKept v := State.shKept_of_fr h
  have hown : s.shKept (s.idleOwn x) := ((s.shKept_ownActivate x).trans
    (hfr (State.loopTake_fr (State.modeTake_fr (Fr.refl _ _))))).trans (State.shKept_swapNow _ x)
  unfold State.idleParts
  dsimp only
  refine (hown.trans ((hfr (Fr.ite ?_ ?_)).trans (State.shKept.ite (State.shKept_sectSwap _) (State.shKept.refl _)))).trans
    (hfr (State.takeValley_fr (State.takeDerived_fr (Fr.refl _ _))))
  · exact State.homeNow_fr (Fr.ite (Fr.refl _ _) (State.set_fr (State.set_fr (Fr.refl _ _))))
  · exact Fr.ite (Fr.refl _ _) (State.set_fr (State.set_fr (Fr.refl _ _)))

/-- No part of it but the update instant's reaches CTRL. -/
theorem State.idleParts_fr (s : State) (x : Axis) : Fr (allBut (32 + 24)) s (s.idleParts x) := by
  have hown : Fr (allBut (32 + 24)) s (s.idleOwn x) :=
    State.swapNow_fr (State.loopTake_fr (State.modeTake_fr (State.ownActivate_fr (Fr.refl _ s))))
  have hfw (u : State) : Fr (allBut (32 + 24)) u
      (if u.flag (F.MC_MODE_FW_EN x) then u else (u.set (F.MC_X_ID_FW x) 0).set (F.MC_STATE_FW_ACTIVE x) 0) :=
    Fr.ite (Fr.refl _ _) (State.set_fr (State.set_fr (Fr.refl _ _)))
  have hhome (u : State) : Fr (allBut (32 + 24)) u (if (u.sv x).home then u.homeNow x else u) :=
    Fr.ite (State.homeNow_fr (Fr.refl _ _)) (Fr.refl _ _)
  have hsect (u : State) : Fr (allBut (32 + 24)) u (if u.sectWaits x then u.sectSwap else u) :=
    Fr.ite (State.sectSwap_fr (Fr.refl _ _)) (Fr.refl _ _)
  exact State.takeValley_fr (State.takeDerived_fr (((hown.trans (hfw _)).trans (hhome _)).trans (hsect _)))

theorem State.shKept_idleCommit (s : State) (x : Axis) : s.shKept (s.idleCommit x) := by
  rw [State.idleCommit_eq]
  dsimp only
  have hlock : s.shKept (if s.flag (F.PW_CTRL_EN .a) then s else s.takeLock) :=
    State.shKept.ite (State.shKept.refl s) ((s.shKept_set _ _).trans (State.shKept_set _ _ _))
  exact State.shKept.ite hlock (hlock.trans ((State.shKept_idleParts _ x).trans (State.shKept_of_fr (State.takeUpdate_fr (Fr.refl _ _)))))

/-! ### A write of CTRL (R198) -/

/-- EN, CARRIER and UPD. -/
def carrierFlds (x : Axis) : List Fld := [F.PW_CTRL_EN x, F.PW_CTRL_CARRIER x, F.PW_CTRL_UPD x]

/-- The rest of CTRL, which has a written copy. -/
def lateFlds (x : Axis) : List Fld := [F.PW_CTRL_SIX_SYNC x, F.PW_CTRL_MINP_POL x, F.PW_CTRL_LOCK_A x]

theorem lateFlds_ok (x : Axis) : ∀ f ∈ lateFlds x, f.ok = true ∧ f.reg = A.PW_CTRL x := by cases x <;> decide

theorem carrierFlds_ok (x : Axis) : ∀ f ∈ carrierFlds x, f.ok = true ∧ f.reg = A.PW_CTRL x := by cases x <;> decide

theorem carrierFlds_apart (x y : Axis) : ∀ f ∈ carrierFlds x, ∀ g ∈ lateFlds y ++ [F.PW_PHASE_TICKS .b],
    f.apart g = true ∧ g.apart f = true := by
  cases x <;> cases y <;> decide

/-- None of them is what table 6.5 lets take effect at an update instant. -/
theorem updateFlds_apart (x : Axis) : ∀ f ∈ carrierFlds x, ∀ g ∈ [F.PW_DEAD_DT_LH x, F.PW_DEAD_DT_HL x, F.PW_MINPULSE_TICKS x,
    F.PW_CTRL_MINP_POL x, F.PW_CTRL_SIX_SYNC x], g.ok = true ∧ g.apart f = true := by cases x <;> decide

/-- CTRL's EN, CARRIER and UPD are not what a stopped timebase lets take effect. -/
theorem State.fld_idleCommit (s : State) (x : Axis) {f : Fld} (hf : f ∈ carrierFlds x) : (s.idleCommit x).fld f = s.fld f := by
  have hfam : fam f.reg = 24 := by rw [(carrierFlds_ok x f hf).2, A.PW_CTRL_fam]
  have hlock (u : State) : u.takeLock.fld f = u.fld f :=
    (State.fld_take_apart _ rfl (carrierFlds_apart x .b f hf _ (by simp [lateFlds])).2).trans
      (State.fld_take_apart _ rfl (carrierFlds_apart x .b f hf _ (by simp [lateFlds])).2)
  have hupdate (u : State) : (u.takeUpdate x).fld f = u.fld f := by
    refine State.fld_forEach_take_apart _ u f (updateFlds_apart x f hf)
  rw [State.idleCommit_eq]
  dsimp only
  rw [State.fld_ite, hupdate, (State.idleParts_fr _ x).keep_fld (by rw [hfam]; decide), ite_self, State.fld_ite, hlock, ite_self]

/-- The rest of a write of CTRL: CNT_CLR and the fields with a written copy. -/
def State.ctrlWords (s : State) (x : Axis) (w : Word) : State :=
  let s := if fieldOf (F.PW_CTRL_CNT_CLR x) w = 1 then s.wr (A.PW_CNT x) 0 else s
  let s := s.forEach [F.PW_CTRL_SIX_SYNC x, F.PW_CTRL_MINP_POL x] (fun s f => s.setSh f (fieldOf f w))
  if x = .b then s.setSh (F.PW_CTRL_LOCK_A x) (fieldOf (F.PW_CTRL_LOCK_A x) w) else s

/-- EN, CARRIER and UPD take their fields of the word, in CTRL and in its written copy. -/
def State.carrierWords (s : State) (x : Axis) (w : Word) : State :=
  s.forEach (carrierFlds x) (fun s f => (s.set f (fieldOf f w)).setSh f (fieldOf f w))

theorem State.ctrlWrite_eq (s : State) (x : Axis) (w : Word) : s.ctrlWrite x w =
    let u := s.ctrlWords x w
    if u.bridgeOn x || (carrierFlds x).all (fun f => fieldOf f w == u.fld f) then u
    else
      let v := (u.carrierWords x w).restart x
      if v.flag (F.PW_CTRL_EN x) then (if u.flag (F.PW_CTRL_EN x) then v else v.firstLatch x) else v.cmdRefuse x rsSTATE := rfl

/-- R198: after the counters' clear only the written copies differ. -/
theorem State.ctrlWords_eq (s : State) (x : Axis) (w : Word) :
    ∃ l, s.ctrlWords x w = { (if fieldOf (F.PW_CTRL_CNT_CLR x) w = 1 then s.wr (A.PW_CNT x) 0 else s) with shadow := l } := by
  cases x <;> exact ⟨_, rfl⟩

theorem State.rd_ctrlWords (s : State) (x : Axis) (w : Word) (a : Nat) :
    (s.ctrlWords x w).rd a = if fieldOf (F.PW_CTRL_CNT_CLR x) w = 1 ∧ a = A.PW_CNT x then 0 else s.rd a := by
  obtain ⟨l, hl⟩ := s.ctrlWords_eq x w
  rw [hl]
  show State.rd (if _ then _ else _) a = _
  by_cases hclr : fieldOf (F.PW_CTRL_CNT_CLR x) w = 1
  · rw [if_pos hclr, State.rd_wr, if_congr (and_iff_right hclr) rfl rfl]
  · rw [if_neg hclr, if_neg (fun h => hclr h.1)]

theorem State.fld_ctrlWords (s : State) (x : Axis) (w : Word) {f : Fld} (h : fam f.reg ≠ 36) : (s.ctrlWords x w).fld f = s.fld f := by
  rw [State.fld, s.rd_ctrlWords x w, if_neg fun hr => h (by rw [hr.2, A.PW_CNT_fam])]; rfl

theorem State.bridgeOn_ctrlWords (s : State) (x : Axis) (w : Word) : (s.ctrlWords x w).bridgeOn x = s.bridgeOn x := by
  have hst : (s.ctrlWords x w).axState x = s.axState x := s.fld_ctrlWords x w (by simp)
  rw [State.bridgeOn, hst, s.fld_ctrlWords x w (f := F.TR_SAFE_STAT_STATE x) (by simp), State.bridgeOn]

/-- R198: SIX_SYNC and MINP_POL, and for axis B LOCK_A, are written. -/
theorem State.want_ctrlWords (s : State) (x : Axis) (w : Word) {f : Fld} (hf : f ∈ lateFlds x) (hb : f = F.PW_CTRL_LOCK_A x → x = .b) :
    (s.ctrlWords x w).want f = fieldOf f w := by
  let u := if fieldOf (F.PW_CTRL_CNT_CLR x) w = 1 then s.wr (A.PW_CNT x) 0 else s
  let v := (u.setSh (F.PW_CTRL_SIX_SYNC x) (fieldOf (F.PW_CTRL_SIX_SYNC x) w)).setSh (F.PW_CTRL_MINP_POL x)
    (fieldOf (F.PW_CTRL_MINP_POL x) w)
  have hwords : s.ctrlWords x w = if x = .b then v.setSh (F.PW_CTRL_LOCK_A x) (fieldOf (F.PW_CTRL_LOCK_A x) w) else v := rfl
  have hsix : v.want (F.PW_CTRL_SIX_SYNC x) = fieldOf (F.PW_CTRL_SIX_SYNC x) w :=
    (State.want_setSh_apart _ _ rfl rfl).trans (State.want_setSh_fieldOf _ _ _ rfl)
  have hminp : v.want (F.PW_CTRL_MINP_POL x) = fieldOf (F.PW_CTRL_MINP_POL x) w := State.want_setSh_fieldOf _ _ _ rfl
  clear_value v
  simp only [lateFlds, List.mem_cons, List.not_mem_nil, or_false] at hf
  rw [hwords]
  rcases hf with rfl | rfl | rfl
  · split
    · exact (State.want_setSh_apart _ _ rfl rfl).trans hsix
    · exact hsix
  · split
    · exact (State.want_setSh_apart _ _ rfl rfl).trans hminp
    · exact hminp
  · rw [if_pos (hb rfl)]
    exact State.want_setSh_fieldOf _ _ _ rfl

theorem State.fld_carrierWords (s : State) (x : Axis) (w : Word) {f : Fld} (hf : f ∈ carrierFlds x) :
    (s.carrierWords x w).fld f = fieldOf f w := by
  have hput := s.fld_forEach_put (carrierFlds x) w (by cases x <;> decide) (by cases x <;> decide) hf
  exact hput

theorem State.want_carrierWords (s : State) (x : Axis) (w : Word) {f : Fld} (hf : f ∈ lateFlds x) :
    (s.carrierWords x w).want f = s.want f := by
  have hput (u : State) {g : Fld} (hg : g ∈ carrierFlds x) : ((u.set g (fieldOf g w)).setSh g (fieldOf g w)).want f = u.want f :=
    (State.want_setSh_apart _ _ (carrierFlds_ok x g hg).1 (carrierFlds_apart x x g hg f (by simp [hf])).1).trans
      (congrArg (fieldOf f) (State.rdSh_set ..))
  exact (hput _ (by simp [carrierFlds])).trans ((hput _ (by simp [carrierFlds])).trans (hput _ (by simp [carrierFlds])))

/-- What follows a change of EN, CARRIER or UPD. -/
def State.carrierBegun (s : State) (x : Axis) (was : Bool) : State :=
  let v := s.restart x
  if v.flag (F.PW_CTRL_EN x) then (if was then v else v.firstLatch x) else v.cmdRefuse x rsSTATE

theorem State.carrierBegun_fr (s : State) (x : Axis) (was : Bool) {m : Nat}
    (h : 0x2c010000000008000000840000000000110000000000100000008000c020240000219e410 &&& m =
      0x2c010000000008000000840000000000110000000000100000008000c020240000219e410) : Fr m s (s.carrierBegun x was) := by
  refine Fr.mono ?_ h
  have hrestart := State.restart_fr (κ := 0x2c010000000008000000840000000000110000000000100000008000c020240000219e410) (x := x) (Fr.refl _ s)
  exact Fr.ite (Fr.ite hrestart (State.firstLatch_fr hrestart)) (State.cmdRefuse_fr hrestart)

theorem State.shKept_carrierBegun (s : State) (x : Axis) (was : Bool) : s.shKept (s.carrierBegun x was) := by
  have hrestart : s.shKept (s.restart x) := (State.shKept_of_fr (State.modTb_fr (Fr.refl _ s))).trans
    ((State.shKept_periodApply _ x).trans (State.shKept_of_fr (State.markInterval_fr (State.lockLost_fr (Fr.refl _ _)))))
  exact hrestart.trans (State.shKept.ite (State.shKept.ite (State.shKept.refl _) (State.shKept_of_fr (State.firstLatch_fr (Fr.refl _ _))))
    (State.shKept_of_fr (State.cmdRefuse_fr (Fr.refl _ _))))

/-- R198: EN, CARRIER and UPD after a write of CTRL. -/
theorem State.fld_ctrlWrite (s : State) (x : Axis) (w : Word) {f : Fld} (hf : f ∈ carrierFlds x) :
    (s.ctrlWrite x w).fld f = if s.bridgeOn x then s.fld f else fieldOf f w := by
  have hreg : f.reg = A.PW_CTRL x := (carrierFlds_ok x f hf).2
  have hkept : (s.ctrlWords x w).fld f = s.fld f := s.fld_ctrlWords x w (by rw [hreg]; simp)
  rw [State.ctrlWrite_eq]
  dsimp only
  rw [s.bridgeOn_ctrlWords]
  split
  next h =>
    cases hon : s.bridgeOn x
    · rw [hon, Bool.false_or] at h
      rw [if_neg (by decide), beq_iff_eq.1 (List.all_eq_true.1 h f hf)]
    · rw [if_pos rfl, hkept]
  next h =>
    have hoff : ¬s.bridgeOn x = true := fun hon => h (by rw [hon]; rfl)
    rw [if_neg hoff, ← (s.ctrlWords x w).fld_carrierWords x w hf]
    exact (State.carrierBegun_fr _ x ((s.ctrlWords x w).flag (F.PW_CTRL_EN x)) (m := allBut (32 + 24)) (by decide)).keep_fld
      (by rw [hreg, A.PW_CTRL_fam]; decide)

theorem State.want_ctrlWrite (s : State) (x : Axis) (w : Word) {f : Fld} (hf : f ∈ lateFlds x) (hb : f = F.PW_CTRL_LOCK_A x → x = .b) :
    (s.ctrlWrite x w).want f = fieldOf f w := by
  have hfam : fam f.reg ≠ 124 := by rw [(lateFlds_ok x f hf).2, A.PW_CTRL_fam]; decide
  rw [← s.want_ctrlWords x w hf hb, State.ctrlWrite_eq]
  dsimp only
  split
  · rfl
  · exact (State.shKept.want (State.shKept_carrierBegun _ x ((s.ctrlWords x w).flag (F.PW_CTRL_EN x))) hfam).trans
      (State.want_carrierWords _ x w hf)

/-- R198: CNT_CLR zeroes CNT, and nothing else of the write reaches it. -/
theorem State.rd_cnt_ctrlWrite (s : State) (x : Axis) (w : Word) :
    (s.ctrlWrite x w).rd (A.PW_CNT x) = if fieldOf (F.PW_CTRL_CNT_CLR x) w = 1 then 0 else s.rd (A.PW_CNT x) := by
  have hwords := s.rd_ctrlWords x w (A.PW_CNT x)
  simp only [and_true] at hwords
  rw [← hwords, State.ctrlWrite_eq]
  dsimp only
  split
  · rfl
  · have hput : ((s.ctrlWords x w).carrierWords x w).rd (A.PW_CNT x) = (s.ctrlWords x w).rd (A.PW_CNT x) :=
      (Fr.forEachFld (m := allBut (32 + 36)) (Fr.refl _ _) (fun u g hg h => State.setSh_fr (State.set_fr h hg))
        (by cases x <;> decide)).keep_rd (by rw [A.PW_CNT_fam]; decide)
    exact ((State.carrierBegun_fr _ x ((s.ctrlWords x w).flag (F.PW_CTRL_EN x)) (m := allBut (32 + 36)) (by decide)).keep_rd
      (by rw [A.PW_CNT_fam]; decide)).trans hput

theorem exec_pwmCtrlWrite (s : State) (x : Axis) (w : Word) (hrun : s.isRunning = true) :
    exec (.pwmCtrlWrite x w) s = .next ((s.ctrlWrite x w).idleCommit x) := congrArg Host.Outcome.next (State.running_of hrun)

/-- Settles O20: what a stopped timebase then lets take effect leaves EN, CARRIER, UPD, CNT and the written copies. -/
theorem enableCarrierAndUpdateModeAreFixedWhileTheBridgeIsEnabled :
    Obligations.EnableCarrierAndUpdateModeAreFixedWhileTheBridgeIsEnabled := by
  intro s x w hrun
  have hwant {f : Fld} (hf : f ∈ lateFlds x) (hb : f = F.PW_CTRL_LOCK_A x → x = .b) :
      ((s.ctrlWrite x w).idleCommit x).want f = fieldOf f w :=
    (((s.ctrlWrite x w).shKept_idleCommit x).want (by rw [(lateFlds_ok x f hf).2, A.PW_CTRL_fam]; decide)).trans
      (s.want_ctrlWrite x w hf hb)
  have hcnt : ((s.ctrlWrite x w).idleCommit x).rd (A.PW_CNT x) = (s.ctrlWrite x w).rd (A.PW_CNT x) :=
    (State.idleCommit_fr (κ := allBut (32 + 36)) (Fr.refl _ _)).keep_rd (by rw [A.PW_CNT_fam]; decide)
  rw [s.rd_cnt_ctrlWrite] at hcnt
  refine ⟨_, exec_pwmCtrlWrite s x w hrun, fun f hf => ?_, fun f hf => ?_, fun hb => ?_, fun hclr => ?_, fun hclr => ?_⟩
  · rw [State.fld_idleCommit _ x hf, s.fld_ctrlWrite x w hf]
  · refine hwant (List.mem_append_left [F.PW_CTRL_LOCK_A x] hf) fun heq => ?_
    revert f
    cases x <;> decide
  · exact hwant (by simp [lateFlds]) fun _ => hb
  · rw [hcnt, if_pos hclr]
  · rw [hcnt, if_neg (by omega)]

/-! ### The gates of a die in RUNNING brought to its commands -/

/-- Gates of die x have been driven: of the registers the rest of the die and what a channel depends on stand. -/
structure State.Driven (x : Axis) (s t : State) : Prop where
  fr : Fr settleReach s t
  asked : (t.tr x).asked = (s.tr x).asked
  csc : t.fld (F.TR_CSC_STAT_STATE x) = s.fld (F.TR_CSC_STAT_STATE x)

theorem State.Driven.refl (x : Axis) (s : State) : State.Driven x s s := ⟨Fr.refl _ s, rfl, rfl⟩

theorem State.Driven.trans {x : Axis} {s t u : State} (h : State.Driven x s t) (k : State.Driven x t u) : State.Driven x s u :=
  ⟨h.fr.trans k.fr, k.asked.trans h.asked, k.csc.trans h.csc⟩

set_option maxRecDepth 20000 in
/-- Settling reaches two families of registers, TRx.DS_STAT and TRx.CSC_STAT. -/
theorem settleReach_fam : ∀ n < 265, n ≠ 195 ∧ n ≠ 196 → settleReach.testBit (32 + n) = false := by decide

theorem State.Driven.fld {x : Axis} {s t : State} (h : State.Driven x s t) {f : Fld} (hf : fam f.reg ≠ 195 ∧ fam f.reg ≠ 196) :
    t.fld f = s.fld f := h.fr.keep_fld (settleReach_fam _ (Nat.lt_succ_of_le (fam_le f.reg)) hf)

theorem State.Driven.isRunning {x : Axis} {s t : State} (h : State.Driven x s t) : t.isRunning = s.isRunning :=
  State.isRunning_of_fr h.fr

theorem State.Driven.safe {x : Axis} {s t : State} (h : State.Driven x s t) : t.safe x = s.safe x := h.fld (by simp)

/-- What R495 asks stands. -/
theorem State.Driven.brakeHeld {x : Axis} {s t : State} (h : State.Driven x s t) : t.brakeHeld x = s.brakeHeld x := by
  have hov : (t.tr x).ovSig = (s.tr x).ovSig := (congrArg Tr.ovSig h.asked :)
  have hoc : (t.tr x).brkOc = (s.tr x).brkOc := (congrArg Tr.brkOc h.asked :)
  simp only [State.brakeHeld, State.axisOn, hov, hoc, h.csc, h.safe, h.isRunning, h.fr.keep_img]

/-- Which channels may be on stands. -/
theorem State.Driven.mayBeOn {x : Axis} {s t : State} (h : State.Driven x s t) (c : Nat) : t.mayBeOn x c = s.mayBeOn x c := by
  have hcmd : (t.tr x).cmd = (s.tr x).cmd := (congrArg Tr.cmd h.asked :)
  have hsoft : (t.tr x).soft = (s.tr x).soft := (congrArg Tr.soft h.asked :)
  have hdue : (t.tr x).due = (s.tr x).due := (congrArg Tr.due h.asked :)
  have hgoff : (t.tr x).goff = (s.tr x).goff := (congrArg Tr.goff h.asked :)
  have hdrv : (t.tr x).drvLow = (s.tr x).drvLow := (congrArg Tr.drvLow h.asked :)
  have hlost : (t.tr x).lost = (s.tr x).lost := (congrArg Tr.lost h.asked :)
  have hoc : (t.tr x).brkOc = (s.tr x).brkOc := (congrArg Tr.brkOc h.asked :)
  have hfit : (t.tr x).csc = (s.tr x).csc := (congrArg Tr.csc h.asked :)
  have href : (t.tr x).ref = (s.tr x).ref := (congrArg Tr.ref h.asked :)
  have htest : t.fld (F.STC_TSTAT_STATE (9 + x.ix)) = s.fld (F.STC_TSTAT_STATE (9 + x.ix)) := h.fld (by simp)
  have hbs : t.fld (F.TR_STAT_BS_UV x) = s.fld (F.TR_STAT_BS_UV x) := h.fld (by simp)
  have hwants (k : Nat) : t.wants x k = s.wants x k := by simp only [State.wants, h.brakeHeld, hcmd, hfit, hoc, href]
  have hbar : t.axisBarred x = s.axisBarred x := by simp only [State.axisBarred, State.axisOn, h.isRunning, h.fr.keep_img]
  have hup : t.isUp = s.isUp := by rw [State.isUp, h.fr.keep_die, State.isUp]
  have htoff : t.toffLow x = s.toffLow x := by cases x <;> simp only [State.toffLow, h.fr.keep_pins]
  simp only [State.mayBeOn, State.testRuns, State.getBit, hwants, hbar, h.fr.keep_pins, htoff, htest, hbs, hcmd, hsoft, hdue, hgoff,
    hdrv, hlost, h.brakeHeld, hup]

theorem State.driven_gateOff (s : State) (x : Axis) (c : Nat) : State.Driven x s (s.gateOff x c) :=
  ⟨State.gateOff_fr (Fr.refl _ s), s.asked_gateOff x c,
    (State.gateOff_fr (κ := 0x800000000000000000000000000000000000000000000000000060000) (Fr.refl _ s)).keep_fld (by simp; decide)⟩

theorem State.driven_gateOn (s : State) (x : Axis) (c : Nat) : State.Driven x s (s.gateOn x c) :=
  ⟨State.gateOn_fr (Fr.refl _ s), (s.tr_gateOn x c).1, congrArg (fieldOf _) (s.rd_gateOn x c _)⟩

theorem State.driven_settleShow (s : State) (x : Axis) : State.Driven x s (s.settleShow x) := by
  refine ⟨State.setB_fr (State.modTr_fr (Fr.refl _ s)), ?_, ?_⟩
  · rw [State.settleShow, State.setB, State.tr_set, State.tr_modTr]; rfl
  · rw [State.settleShow, State.setB, State.fld_set_apart _ _ rfl rfl, State.modTr_fld]

/-- The turn-offs leave no channel of the list on that may not be on. -/
theorem State.driven_settleOff (s : State) (x : Axis) (l : List Nat) : State.Driven x s (s.settleOff x l) ∧
    ∀ i, bit ((s.settleOff x l).tr x).gates i = (bit (s.tr x).gates i && (s.mayBeOn x i || decide (i ∉ l))) := by
  induction l generalizing s with
  | nil => exact ⟨.refl x s, fun i => by simp [State.settleOff, State.forEach]⟩
  | cons c r ih =>
    by_cases hc : s.mayBeOn x c = true
    · have hstep : s.settleOff x (c :: r) = s.settleOff x r := by
        simp only [State.settleOff, State.forEach, List.foldl_cons, hc, if_true]
      obtain ⟨hdr, hbits⟩ := ih s
      rw [hstep]
      refine ⟨hdr, fun i => ?_⟩
      rw [hbits]
      by_cases hi : i = c
      · subst hi; simp [hc]
      · simp [hi]
    · have hstep : s.settleOff x (c :: r) = (s.gateOff x c).settleOff x r := by
        simp only [State.settleOff, State.forEach, List.foldl_cons, hc, Bool.false_eq_true, if_false]
      have hoff := s.driven_gateOff x c
      obtain ⟨hdr, hbits⟩ := ih (s.gateOff x c)
      rw [hstep]
      refine ⟨hoff.trans hdr, fun i => ?_⟩
      rw [hbits, hoff.mayBeOn, State.gates_gateOff, bit_withBit]
      by_cases hi : i = c
      · subst hi; simp [hc]
      · simp [hi]

/-- The turn-ons turn on none that may not be on. -/
theorem State.driven_settleOn (s : State) (x : Axis) (l : List Nat) : State.Driven x s (s.settleOn x l) := by
  induction l generalizing s with
  | nil => exact .refl x s
  | cons c r ih =>
    show State.Driven x s ((if s.mayBeOn x c then s.gateOn x c else s).settleOn x r)
    refine State.Driven.trans ?_ (ih _)
    split
    · exact s.driven_gateOn x c
    · exact .refl x s

theorem State.driven_settle (s : State) (x : Axis) : State.Driven x s (s.settle x) := by
  rw [State.settle_eq]
  exact ((s.driven_settleOff x _).1.trans (State.driven_settleOn _ x _)).trans (State.driven_settleShow _ x)

/-- Settling leaves no channel on that may not be on. -/
theorem State.gates_settle (s : State) (x : Axis) {c : Nat} (hc : c < 7) (h : s.mayBeOn x c = false) :
    bit ((s.settle x).tr x).gates c = false := by
  obtain ⟨hdr, hbits⟩ := s.driven_settleOff x (List.range 7)
  obtain ⟨-, hon⟩ := (s.settleOff x (List.range 7)).settleOn_gates x (List.range 7)
  rw [State.settle_eq, State.gates_settleShow, ← Bool.not_eq_true]
  intro hgate
  rcases (hon c).2 hgate with hoff | hmay
  · rw [hbits, h] at hoff
    simp [hc] at hoff
  · rw [hdr.mayBeOn, h] at hmay
    exact absurd hmay (by decide)

/-! ### Link frames (R438, R439) -/

/-- What a valid frame leaves in the die before its commands act. -/
def State.frameHeard (s : State) (x : Axis) : State :=
  let s := s.modTr x (fun t => { t with
    dtLH := s.deadTime (F.PW_DEAD_DT_LH x), dtHL := s.deadTime (F.PW_DEAD_DT_HL x), vbus := s.vbusNow x, adapt := s.adaptFlags x % 8
    band := s.fld F.ORG_TJ_BAND, lost := false
    bandDue := if s.fld F.ORG_TJ_BAND != (s.tr x).band && s.bridgeOn x then some (t.bandDue.getD (s.tr x).band) else t.bandDue })
  ((s.set (F.TR_STAT_LINK_OK x) 1).setCause (scAxis x) 7 false).setB (F.TR_SAFE_STAT_ABOVE_ASC x) (s.flag (F.MC_STATE_ABOVE_ASC x))

theorem State.frame_eq (s : State) (x : Axis) : s.frame x = let u := s.frameHeard x
    if u.flag (F.TR_STAT_EXT_ACTIVE x) then u.pinCommand x else u.linkCommand x (u.frameCmd x (s.tb x).out) := by
  cases x <;> rfl

theorem State.tr_frameHeard (s : State) (x : Axis) : (s.frameHeard x).tr x = { s.tr x with
    dtLH := s.deadTime (F.PW_DEAD_DT_LH x), dtHL := s.deadTime (F.PW_DEAD_DT_HL x), vbus := s.vbusNow x, adapt := s.adaptFlags x % 8
    band := s.fld F.ORG_TJ_BAND, lost := false
    bandDue := if s.fld F.ORG_TJ_BAND != (s.tr x).band && s.bridgeOn x then some ((s.tr x).bandDue.getD (s.tr x).band)
      else (s.tr x).bandDue } := by
  rw [State.frameHeard, State.setB, State.tr_set, State.setCause, State.setBit, State.tr_set, State.tr_set, State.tr_modTr]

/-- A frame reaches TRx.STAT, the causes and TRx.SAFE_STAT. -/
theorem State.frameHeard_fr (s : State) (x : Axis) :
    Fr 0x100400040000000000000000000000000000000000000000000000060000 s (s.frameHeard x) :=
  State.setB_fr (State.setCause_fr (State.set_fr (State.modTr_fr (Fr.refl _ s))))

theorem State.flag_setB (s : State) (f : Fld) (b : Bool) (hf : f.ok = true) (hw : 0 < f.width) : (s.setB f b).flag f = b := by
  have hb : b2n b < 2 ^ f.width := Nat.lt_of_lt_of_le (by cases b <;> decide : b2n b < 2 ^ 1) (Nat.pow_le_pow_right (by decide) hw)
  rw [State.flag, State.setB, State.fld_set_of_lt _ _ _ hf hb]
  cases b <;> rfl

theorem State.frameHeard_shows (s : State) (x : Axis) : let u := s.frameHeard x
    u.flag (F.TR_STAT_LINK_OK x) = true ∧ u.cause (scAxis x) 7 = false ∧ u.above x = s.flag (F.MC_STATE_ABOVE_ASC x) ∧
      u.fld (F.TR_STAT_EXT_ACTIVE x) = s.fld (F.TR_STAT_EXT_ACTIVE x) ∧ u.safe x = s.safe x := by
  let v : State := s.modTr x (fun t => { t with
    dtLH := s.deadTime (F.PW_DEAD_DT_LH x), dtHL := s.deadTime (F.PW_DEAD_DT_HL x), vbus := s.vbusNow x, adapt := s.adaptFlags x % 8
    band := s.fld F.ORG_TJ_BAND, lost := false
    bandDue := if s.fld F.ORG_TJ_BAND != (s.tr x).band && s.bridgeOn x then some (t.bandDue.getD (s.tr x).band) else t.bandDue })
  let u : State := (v.set (F.TR_STAT_LINK_OK x) 1).setCause (scAxis x) 7 false
  have hheard : s.frameHeard x = u.setB (F.TR_SAFE_STAT_ABOVE_ASC x) (s.flag (F.MC_STATE_ABOVE_ASC x)) := by
    rw [State.frameHeard, State.flag, State.modTr_fld]; rfl
  have hv (f : Fld) : v.fld f = s.fld f := State.modTr_fld s x _ f
  clear_value v
  have hstat {f : Fld} (hf : fam f.reg = 178) :
      (u.setB (F.TR_SAFE_STAT_ABOVE_ASC x) (s.flag (F.MC_STATE_ABOVE_ASC x))).fld f = (v.set (F.TR_STAT_LINK_OK x) 1).fld f :=
    (State.setB_fr (State.setCause_fr (Fr.refl (allBut (32 + 178)) _))).keep_fld (by rw [hf]; decide)
  have hcause : (u.setB (F.TR_SAFE_STAT_ABOVE_ASC x) (s.flag (F.MC_STATE_ABOVE_ASC x))).cause (scAxis x) 7 = u.cause (scAxis x) 7 :=
    State.cause_of_fr (State.setB_fr (Fr.refl (allBut (32 + 204)) _)) (by decide) _ _
  have hu {f : Fld} (hf : fam f.reg = 194) : u.fld f = v.fld f :=
    (State.setCause_fr (State.set_fr (Fr.refl (allBut (32 + 194)) _))).keep_fld (by rw [hf]; decide)
  dsimp only
  rw [hheard]
  refine ⟨State.flag_eq_true ?_, hcause.trans (State.cause_setCause _ _ 7 false), ?_, ?_, ?_⟩
  · rw [hstat (F.TR_STAT_LINK_OK_fam x)]; exact State.fld_set_of_lt _ _ _ rfl Nat.one_lt_two
  · exact State.flag_setB _ _ _ rfl Nat.zero_lt_one
  · rw [hstat (F.TR_STAT_EXT_ACTIVE_fam x), State.fld_set_apart _ _ rfl rfl, hv]
  · exact (State.fld_set_apart _ _ rfl rfl).trans ((hu (F.TR_SAFE_STAT_STATE_fam x)).trans (hv _))

/-- The commands of a frame depend on nothing that the frame changes. -/
theorem State.frameCmd_heard (s : State) (x : Axis) (m : Nat) : (s.frameHeard x).frameCmd x m = s.frameCmd x m := by
  have hfr := s.frameHeard_fr x
  have hsafe : (s.frameHeard x).safe x = s.safe x := by obtain ⟨-, -, -, -, h⟩ := s.frameHeard_shows x; exact h
  have hax : (s.frameHeard x).axState x = s.axState x := hfr.keep_fld (by simp; decide)
  have hcsc : (s.frameHeard x).fld (F.TR_CSC_STAT_STATE x) = s.fld (F.TR_CSC_STAT_STATE x) := hfr.keep_fld (by simp; decide)
  have hsv : (s.frameHeard x).sv x = s.sv x := by cases x <;> [exact hfr.keep_svA; exact hfr.keep_svB]
  simp only [State.frameCmd, State.brakeMay, hsafe, hax, hcsc, hsv, s.tr_frameHeard x]
  rfl

/-- A die that has heard a frame and then drives its gates to the commands it is given has obeyed the frame. -/
theorem State.framed_settle (s : State) (x : Axis) (f : Tr → Tr) (hf : ∀ t : Tr, (f t).dtLH = t.dtLH ∧ (f t).dtHL = t.dtHL ∧
      (f t).vbus = t.vbus ∧ (f t).band = t.band ∧ (f t).lost = t.lost)
    (hpins : s.flag (F.TR_STAT_EXT_ACTIVE x) = true → (f ((s.frameHeard x).tr x)).cmd = (s.tr x).cmdPins)
    (hlink : s.flag (F.TR_STAT_EXT_ACTIVE x) = false → (f ((s.frameHeard x).tr x)).cmd = s.frameCmd x (s.tb x).out ∧
      (f ((s.frameHeard x).tr x)).wait = deadWaits ((s.frameHeard x).tr x) (s.frameCmd x (s.tb x).out) s.subTicks) :
    s.framed x (((s.frameHeard x).modTr x f).settle x) := by
  let u := (s.frameHeard x).modTr x f
  have hdr := u.driven_settle x
  have htr : (u.tr x).asked = (f ((s.frameHeard x).tr x)).asked := congrArg Tr.asked (State.tr_modTr _ x f)
  have hasked : ((u.settle x).tr x).asked = (f ((s.frameHeard x).tr x)).asked := hdr.asked.trans htr
  have hfld (g : Fld) : u.fld g = (s.frameHeard x).fld g := State.modTr_fld _ x f g
  obtain ⟨hlh, hhl, hvbus, hband, hlost⟩ := hf ((s.frameHeard x).tr x)
  obtain ⟨hok, hcause, habove, -, -⟩ := s.frameHeard_shows x
  have hlh' : ((u.settle x).tr x).dtLH = s.deadTime (F.PW_DEAD_DT_LH x) :=
    (congrArg Tr.dtLH hasked :).trans (hlh.trans (congrArg Tr.dtLH (s.tr_frameHeard x) :))
  have hhl' : ((u.settle x).tr x).dtHL = s.deadTime (F.PW_DEAD_DT_HL x) :=
    (congrArg Tr.dtHL hasked :).trans (hhl.trans (congrArg Tr.dtHL (s.tr_frameHeard x) :))
  have hvbus' : ((u.settle x).tr x).vbus = s.vbusNow x :=
    (congrArg Tr.vbus hasked :).trans (hvbus.trans (congrArg Tr.vbus (s.tr_frameHeard x) :))
  have hband' : ((u.settle x).tr x).band = s.fld F.ORG_TJ_BAND :=
    (congrArg Tr.band hasked :).trans (hband.trans (congrArg Tr.band (s.tr_frameHeard x) :))
  have hlost' : ((u.settle x).tr x).lost = false :=
    (congrArg Tr.lost hasked :).trans (hlost.trans (congrArg Tr.lost (s.tr_frameHeard x) :))
  have hcmd' : ((u.settle x).tr x).cmd = (f ((s.frameHeard x).tr x)).cmd := (congrArg Tr.cmd hasked :)
  have hwait' : ((u.settle x).tr x).wait = (f ((s.frameHeard x).tr x)).wait := (congrArg Tr.wait hasked :)
  refine ⟨?_, ?_, ?_, hlh', hhl', hvbus', hband', hlost', fun hext => hcmd'.trans (hpins hext), fun hext => ?_, fun c hc hmay => ?_⟩
  · rw [State.flag, hdr.fld (by simp), hfld]; exact hok
  · rw [State.cause_of_fr hdr.fr (by decide)]
    exact (State.cause_of_fr (State.modTr_fr (Fr.refl (allBut (32 + 204)) _)) (by decide) _ _).trans hcause
  · rw [State.above, State.flag, hdr.fld (by simp), hfld]; exact habove
  · obtain ⟨hcmd, hwait⟩ := hlink hext
    refine ⟨hcmd'.trans hcmd, hwait'.trans (hwait.trans ?_)⟩
    rw [hcmd', hcmd, hlh', hhl', s.tr_frameHeard x]
    rfl
  · rw [hdr.mayBeOn] at hmay
    exact u.gates_settle x hc hmay

/-- R438: after a valid frame the die obeys it. -/
theorem State.framed_frame (s : State) (x : Axis) : s.framed x (s.frame x) := by
  obtain ⟨-, -, -, hext, -⟩ := s.frameHeard_shows x
  have hticks : (s.frameHeard x).subTicks = s.subTicks := by
    rw [State.subTicks, State.ticks, (s.frameHeard_fr x).keep_sun (by decide), State.subTicks, State.ticks]
  rw [State.frame_eq]
  dsimp only
  rw [State.flag, hext]
  split
  next hon =>
    refine s.framed_settle x _ (fun t => ⟨rfl, rfl, rfl, rfl, rfl⟩) (fun _ => ?_) fun hoff => ?_
    · rw [s.tr_frameHeard x]
    · rw [State.flag, hon] at hoff; exact absurd hoff (by decide)
  next hoff =>
    refine s.framed_settle x _ (fun t => ⟨rfl, rfl, rfl, rfl, rfl⟩) (fun hon => absurd hon hoff) fun _ => ?_
    rw [s.frameCmd_heard x, hticks]
    exact ⟨rfl, rfl⟩

theorem exec_linkFrame (s : State) (x : Axis) (good : Bool) (h : s.sends = true) :
    exec (.linkFrame x good) s = .next (if good then s.frame x else s.linkBad x) := congrArg Host.Outcome.next (if_pos h)

theorem State.sends_of_running {s : State} (hrun : s.isRunning = true) (hpll : s.sun.pll = true) : s.sends = true := by
  rw [State.sends, hpll, Bool.and_true]
  exact (Bool.and_eq_true _ _ ▸ hrun : _ ∧ _).1

/-! ### A frame that fails the check (R439) -/

/-- Every channel of the list is turned off. -/
theorem State.driven_gatesOff (s : State) (x : Axis) (l : List Nat) : let t := s.forEach l (fun s c => s.gateOff x c)
    State.Driven x s t ∧ ∀ c, c ∈ l → bit (t.tr x).gates c = false := by
  dsimp only
  induction l using List.reverseRecOn with
  | nil => exact ⟨.refl x s, fun c hc => absurd hc List.not_mem_nil⟩
  | append_singleton l c ih =>
    obtain ⟨hdr, hoff⟩ := ih
    rw [State.forEach, List.foldl_append]
    refine ⟨hdr.trans (State.driven_gateOff _ x c), fun i hi => ?_⟩
    show bit ((State.gateOff _ x c).tr x).gates i = false
    rw [State.gates_gateOff, bit_withBit]
    split
    · rfl
    next hne => exact hoff i (by simpa [hne] using hi)

/-- The die after a discarded frame, its gates driven. -/
def State.frameLost (s : State) (x : Axis) : State :=
  ((s.modTr x (fun t => { t with linkErr := true, lost := true })).forEach (List.range 7) (fun s c => s.gateOff x c)).settle x

theorem State.linkBad_eq (s : State) (x : Axis) : s.linkBad x =
    let u := ((s.frameLost x).inc (F.TR_LINK_CNT_DISCARDED x)).set (F.TR_STAT_LINK_ERR x) 1
    u.fault 10 (scAxis x) 0 (u.fld (F.TR_LINK_CNT_DISCARDED x)) := rfl

/-- With a frame lost no phase channel may be on, and the brake switch only where R495 holds it. -/
theorem State.mayBeOn_lost (s : State) (x : Axis) {c : Nat} (h : (s.tr x).lost = true) (hc : c < 6 ∨ s.brakeHeld x = false) :
    s.mayBeOn x c = false := by
  unfold State.mayBeOn
  dsimp only
  rw [h]
  split
  next h6 => rw [hc.resolve_left (by omega)]; simp
  next => simp

theorem State.frameLost_vals (s : State) (x : Axis) : let t := s.frameLost x
    State.Driven x (s.modTr x (fun t => { t with linkErr := true, lost := true })) t ∧
      ∀ c, c < 7 → c < 6 ∨ s.brakeHeld x = false → bit (t.tr x).gates c = false := by
  let u : State := s.modTr x (fun t => { t with linkErr := true, lost := true })
  obtain ⟨hoff, -⟩ := u.driven_gatesOff x (List.range 7)
  have hdr := hoff.trans (State.driven_settle (u.forEach (List.range 7) (fun s c => s.gateOff x c)) x)
  refine ⟨hdr, fun c hc hbrake => State.gates_settle _ x hc ?_⟩
  rw [hoff.mayBeOn]
  refine u.mayBeOn_lost x (by rw [State.tr_modTr]) (hbrake.imp_right fun h => ?_)
  rw [← h]
  simp only [u, State.brakeHeld, State.safe, State.axisOn, State.tr_modTr, State.modTr_fld, State.modTr_isRunning, State.modTr_img]

/-- R439: what a discarded frame leaves. -/
theorem State.linkBad_vals (s : State) (x : Axis) (hrun : s.isRunning = true) : let t := s.linkBad x
    t.stat (scAxis x) 10 = true ∧ t.flag (F.TR_STAT_LINK_ERR x) = true ∧ (t.tr x).linkErr = true ∧
      t.fld (F.TR_LINK_CNT_DISCARDED x) = min 0xFFFF (s.fld (F.TR_LINK_CNT_DISCARDED x) + 1) ∧
      (t.tr x).lost = true ∧ (t.tr x).cmd = (s.tr x).cmd ∧ (∀ c, c < 6 → bit (t.tr x).gates c = false) ∧
      (s.brakeHeld x = false → t.allOff x) := by
  obtain ⟨hdr, hgates⟩ := s.frameLost_vals x
  rw [State.linkBad_eq]
  dsimp only
  let u : State := ((s.frameLost x).inc (F.TR_LINK_CNT_DISCARDED x)).set (F.TR_STAT_LINK_ERR x) 1
  have hfr : Fr 0xc2c01000008004ac000000400000000000000000000000000000000000000240002201f400 u
      (u.fault 10 (scAxis x) 0 (u.fld (F.TR_LINK_CNT_DISCARDED x))) := State.fault_fr (Fr.refl _ u)
  have htr : (u.fault 10 (scAxis x) 0 (u.fld (F.TR_LINK_CNT_DISCARDED x))).tr x = (s.frameLost x).tr x := by
    rw [hfr.keep_tr x, State.tr_set, State.inc, State.incBy, State.tr_set]
  have hasked := hdr.asked
  rw [State.tr_modTr] at hasked
  have hurun : u.isRunning = true := by
    have hset : u.isRunning = (s.frameLost x).isRunning :=
      State.isRunning_of_fr (m := allBut (32 + 1) ^^^ 2) (State.set_fr (State.inc_fr (Fr.refl _ _)))
    rw [hset, hdr.isRunning, State.modTr_isRunning, hrun]
  refine ⟨State.stat_fault u 10 (scAxis x) 0 _ hurun, State.flag_eq_true ?_, ?_, ?_, ?_, ?_, fun c hc => ?_, fun hbrake c hc => ?_⟩
  · rw [hfr.keep_fld (by simp; decide)]; exact State.fld_set_of_lt _ _ _ rfl Nat.one_lt_two
  · rw [htr]; exact (congrArg Tr.linkErr hasked :)
  · rw [hfr.keep_fld (by simp; decide), State.fld_set_apart _ _ rfl (by cases x <;> rfl), State.fld_inc_same _ _ rfl, hdr.fld (by simp),
      State.modTr_fld]
    rfl
  · rw [htr]; exact (congrArg Tr.lost hasked :)
  · rw [htr]; exact (congrArg Tr.cmd hasked :)
  · rw [htr]; exact hgates c (by omega) (.inl hc)
  · rw [htr]; exact hgates c hc (.inr hbrake)

/-! ### Safe states taken (R474, R480) -/

/-- A safe state in force shows in TRx.SAFE_STAT. -/
theorem State.safe_putSafe (s : State) (x : Axis) {st : Nat} (rank origin : Nat) (h : st < 8) : (s.putSafe x st rank origin).safe x = st := by
  have hgates : (s.safeGates x st rank origin).safe x = st := by
    rw [State.safeGates]
    rw [State.safe, State.command, (State.driven_settle _ x).fld (by simp), State.modTr_fld, State.extEnd, State.modTr_fld,
      State.fld_set_apart _ _ rfl (by cases x <;> rfl), State.fld_set_apart _ _ rfl rfl]
    exact State.fld_set_of_lt _ _ _ rfl h
  have hends (u : State) : (u.shortsEnd x st).safe x = u.safe x := by
    rw [State.shortsEnd]
    split
    · rfl
    · exact (State.setCause_fr (State.setCause_fr (Fr.refl (allBut (32 + 194)) u))).keep_fld (by simp; decide)
  rw [State.putSafe_eq]
  refine ((Fr.ite (State.evx_fr ?_) ?_ : Fr (allBut (32 + 194)) ((s.safeGates x st rank origin).shortsEnd x st) _).keep_fld
    (by simp; decide)).trans ((hends _).trans hgates)
  all_goals exact Fr.ite (State.compsZero_fr (Fr.refl _ _)) (Fr.refl _ _)

/-- Of TRx.STAT a safe state reaches EXT_ACTIVE alone. -/
theorem State.fld_putSafe (s : State) (x : Axis) (st rank origin : Nat) {f : Fld} (hf : fam f.reg = 178)
    (hap : (F.TR_STAT_EXT_ACTIVE x).apart f = true) : (s.putSafe x st rank origin).fld f = s.fld f := by
  have hfr {u v : State} (h : Fr (allBut (32 + 178)) u v) : v.fld f = u.fld f := h.keep_fld (by rw [hf]; decide)
  have hgates : (s.safeGates x st rank origin).fld f = s.fld f := by
    rw [State.safeGates]
    rw [State.command, hfr (State.settle_fr (Fr.refl _ _)), State.modTr_fld, State.extEnd, State.modTr_fld, State.fld_set_apart _ _ rfl hap]
    exact hfr (State.set_fr (State.set_fr (State.setB_fr (State.modTr_fr (Fr.refl _ _)))))
  have hends (u : State) : (u.shortsEnd x st).fld f = u.fld f := by
    rw [State.shortsEnd]
    split
    · rfl
    · exact hfr (State.setCause_fr (State.setCause_fr (Fr.refl _ _)))
  rw [State.putSafe_eq]
  refine (hfr (Fr.ite (State.evx_fr ?_) ?_)).trans ((hends _).trans hgates)
  all_goals exact Fr.ite (State.compsZero_fr (Fr.refl _ _)) (Fr.refl _ _)

theorem State.fld_chooseSafe (s : State) (x : Axis) (st rank origin : Nat) (retry : Bool) {f : Fld} (hf : fam f.reg = 178)
    (hap : (F.TR_STAT_EXT_ACTIVE x).apart f = true) : (s.chooseSafe x st rank origin retry).fld f = s.fld f := by
  have hfr {u v : State} (h : Fr (allBut (32 + 178)) u v) : v.fld f = u.fld f := h.keep_fld (by rw [hf]; decide)
  have hjoin : (s.retryJoin x retry).fld f = s.fld f := hfr (State.retryJoin_fr (Fr.refl _ _))
  exact State.chooseSafe_rel (R := fun s t => t.fld f = s.fld f) rfl (fun g => State.modTr_fld s x g f) hjoin
    (hfr (State.ascDropped_fr (Fr.refl _ _))) ((State.fld_putSafe _ x st rank origin hf hap).trans hjoin)

/-- R480: with no safe state in force and no faulted gate to be sensed off, a fault's safe state is put in force. -/
theorem State.chooseSafe_puts (s : State) (x : Axis) (st rank origin : Nat) (retry : Bool) (hcan : s.canSafe x = true) (hsafe : s.safe x = 0)
    (hsoft : (s.tr x).soft = 0) (hdue : (s.tr x).due = none) :
    s.chooseSafe x st rank origin retry = (s.retryJoin x retry).putSafe x st rank origin := by
  unfold State.chooseSafe
  dsimp only
  rw [if_neg (by rw [hcan]; decide), if_neg (by rw [hsoft, hdue]; simp), if_pos (by rw [State.outranks, hsafe]; rfl)]

/-- R474: while a faulted gate is still to be sensed off, it is due. -/
theorem State.chooseSafe_waits (s : State) (x : Axis) (st origin : Nat) {rank : Nat} (retry : Bool) (hrank : rank ≠ 1)
    (hcan : s.canSafe x = true) (hsafe : s.safe x = 0) (hsoft : (s.tr x).soft ≠ 0) (hdue : (s.tr x).due = none) :
    s.chooseSafe x st rank origin retry =
      s.modTr x (fun t => { t with due := some { st := st, rank := rank, origin := origin, retry := retry } }) := by
  unfold State.chooseSafe
  dsimp only
  rw [if_neg (by rw [hcan]; decide), if_pos ⟨hrank, .inl hsoft⟩]
  rw [hdue]
  dsimp only
  rw [if_pos (by rw [State.outranks, hsafe]; rfl)]

/-! ### A die whose link is lost (R440) -/

theorem State.ascAgain_driven (s : State) (x : Axis) : (s.ascAgain x).safe x = s.safe x ∧ ((s.ascAgain x).tr x).due = (s.tr x).due := by
  rw [State.ascAgain]
  split
  · have hdr := State.driven_settle (s.modTr x (fun t => { t with
      cmd := safeMask (s.safe x), why := t.whyOf (safeMask (s.safe x)) 2, lost := false, wait := List.replicate 6 0
      ref := List.replicate 3 [] })) x
    refine ⟨hdr.safe.trans (State.modTr_fld s x _ _), (congrArg Tr.due hdr.asked :).trans ?_⟩
    rw [State.tr_modTr]; rfl
  · exact ⟨rfl, rfl⟩

/-- The die with its link lost and code 7 raised. -/
def State.linkGone (s : State) (x : Axis) : State := (s.set (F.TR_STAT_LINK_OK x) 0).faultOn 7 (scAxis x) 0 0

theorem exec_dieLinkLost (s : State) (x : Axis) {ns : Nat} (hns : 2000 ≤ ns) (hcause : s.cause (scAxis x) 7 = false) :
    exec (.dieLinkLost x ns) s =
      .next (((s.linkGone x).chooseSafe x (if s.above x then s.ascPol x else ssOFF) 6 3 false).ascAgain x) := by
  have habove : (s.set (F.TR_STAT_LINK_OK x) 0).above x = s.above x := by
    rw [State.above, State.flag, State.fld_set_apart _ _ rfl (by cases x <;> rfl), State.above, State.flag]
  have hpol : (s.set (F.TR_STAT_LINK_OK x) 0).ascPol x = s.ascPol x := by
    rw [State.ascPol, State.fld_set_apart _ _ rfl (by cases x <;> rfl), State.ascPol]
  rw [← habove, ← hpol]
  exact congrArg Host.Outcome.next (if_pos ⟨hns, hcause⟩)

theorem State.linkGone_fr (s : State) (x : Axis) :
    Fr 0xc2c01000008004bc000004400000000000000000000000000000000000000240002201f400 s (s.linkGone x) :=
  State.faultOn_fr (State.set_fr (Fr.refl _ s))

/-- R440: the safe state that a lost link takes. -/
theorem State.takesSafe_linkGone (s : State) (x : Axis) {st : Nat} (h : st < 8) :
    s.takesSafe x st (((s.linkGone x).chooseSafe x st 6 3 false).ascAgain x) := by
  intro hcan _ hsafe
  have hfr := s.linkGone_fr x
  have hcan' : (s.linkGone x).canSafe x = true := by
    rw [State.canSafe, State.axState, hfr.keep_fld (by simp; decide)]; exact hcan
  have hsafe' : (s.linkGone x).safe x = 0 := (hfr.keep_fld (by simp; decide)).trans hsafe
  have htr : (s.linkGone x).tr x = s.tr x := hfr.keep_tr x
  obtain ⟨hsafeAgain, hdueAgain⟩ := ((s.linkGone x).chooseSafe x st 6 3 false).ascAgain_driven x
  refine ⟨fun hsoft hdue => hsafeAgain.trans ?_, fun hsoft hdue => ⟨hsafeAgain.trans ?_,
    { st := st, rank := 6, origin := 3, retry := false }, hdueAgain.trans ?_, rfl⟩⟩
  · rw [State.chooseSafe_puts _ x st 6 3 false hcan' hsafe' (by rw [htr, hsoft]) (by rw [htr, hdue])]
    exact State.safe_putSafe _ x 6 3 h
  · rw [State.chooseSafe_waits _ x st 3 false (by decide) hcan' hsafe' (by rw [htr]; exact hsoft) (by rw [htr, hdue])]
    exact (State.modTr_fld _ x _ _).trans hsafe'
  · rw [State.chooseSafe_waits _ x st 3 false (by decide) hcan' hsafe' (by rw [htr]; exact hsoft) (by rw [htr, hdue]), State.tr_modTr]

/-- ASC_POL names one of three safe states. -/
theorem State.lostSafe_lt (s : State) (x : Axis) : (if s.above x then s.ascPol x else ssOFF) < 8 := by
  split
  · rw [State.ascPol]
    split <;> decide
  · decide

/-- R440: code 7 is raised and its cause stays, with the link shown lost. -/
theorem State.linkGone_shows (s : State) (x : Axis) (st : Nat) (hrun : s.isRunning = true) :
    let t := ((s.linkGone x).chooseSafe x st 6 3 false).ascAgain x
    t.flag (F.TR_STAT_LINK_OK x) = false ∧ t.stat (scAxis x) 7 = true ∧ t.cause (scAxis x) 7 = true := by
  have hset : (s.set (F.TR_STAT_LINK_OK x) 0).isRunning = true :=
    (State.isRunning_of_fr (m := allBut (32 + 1) ^^^ 2) (State.set_fr (Fr.refl _ _))).trans hrun
  obtain ⟨hstat, hcause⟩ := (s.set (F.TR_STAT_LINK_OK x) 0).stat_faultOn 7 (scAxis x) 0 0 hset
  have hagain := State.ascAgain_fr (κ := settleReach) (x := x) (Fr.refl _ ((s.linkGone x).chooseSafe x st 6 3 false))
  refine ⟨State.flag_eq_false ?_, ?_, ?_⟩
  · rw [hagain.keep_fld (by simp; decide), State.fld_chooseSafe _ x st 6 3 false (by simp) rfl, State.linkGone,
      (State.faultOn_fr (κ := allBut (32 + 178)) (Fr.refl _ _)).keep_fld (by simp; decide)]
    exact State.fld_set_of_lt _ _ _ rfl Nat.zero_lt_two
  · exact (State.stat_of_fr hagain (by decide) _ _).trans ((State.stat_chooseSafe _ x st 6 3 false _ _).trans hstat)
  · exact (State.cause_of_fr hagain (by decide) _ _).trans ((State.cause_chooseSafe _ x st 6 3 false _ 7 (by decide) (by decide)).trans hcause)

/-! ### Passes over the switches and kinds of an axis -/

/-- A pass in which each entry changes its own observation alone, in states of which P holds. -/
theorem State.obs_forEach {κ α : Type} [DecidableEq κ] {g : State → κ → State} {obs : State → κ → α}
    {v : κ → α → α} {P : State → Prop}
    {all : List κ} (hP : ∀ s k, k ∈ all → P s → P (g s k))
    (hg : ∀ s k j, P s → k ∈ all → j ∈ all → obs (g s k) j = if j = k then v k (obs s j) else obs s j)
    {l : List κ} (hl : l ⊆ all) (hnd : l.Nodup) {s : State} (hs : P s) {j : κ} (hj : j ∈ all) :
    P (s.forEach l g) ∧ obs (s.forEach l g) j = if j ∈ l then v j (obs s j) else obs s j := by
  induction l generalizing s with
  | nil => exact ⟨hs, rfl⟩
  | cons k r ih =>
    obtain ⟨hkr, hr⟩ := List.nodup_cons.1 hnd
    have hk : k ∈ all := hl (List.mem_cons_self ..)
    obtain ⟨hend, hobs⟩ := ih (fun q hq => hl (List.mem_cons_of_mem _ hq)) hr (hP s k hk hs)
    refine ⟨hend, hobs.trans ?_⟩
    rw [hg s k j hs hk hj]
    by_cases hjk : j = k
    · subst hjk; simp [hkr]
    · simp [hjk]

theorem stepFld_ok (x : Axis) : ∀ k ∈ switchKinds, (stepFld x k.1 k.2).ok = true ∧ fam (stepFld x k.1 k.2).reg = 180 ∧
    (stepFld x k.1 k.2).width = 6 := by cases x <;> decide

set_option maxRecDepth 4000 in
theorem stepFld_apart (x : Axis) : ∀ k ∈ switchKinds, ∀ j ∈ switchKinds, j ≠ k →
    (stepFld x k.1 k.2).apart (stepFld x j.1 j.2) = true := by
  cases x <;> decide

theorem mem_switchKinds {sw : Nat} (on : Bool) (h : sw < 6) : (sw, on) ∈ switchKinds := by
  interval_cases sw <;> cases on <;> decide

theorem skIx_inj {k j : Nat × Bool} (h : skIx k.1 k.2 = skIx j.1 j.2) : k = j := by
  obtain ⟨a, b⟩ := k
  obtain ⟨c, d⟩ := j
  cases b <;> cases d <;> simp [skIx, b2n] at h ⊢ <;> omega

/-- The limits of an axis's steps. -/
def State.limited (x : Axis) (lo hi : Bool → Nat) (s : State) : Prop := ∀ on, s.stepLo x on = lo on ∧ s.stepHi x on = hi on

/-- Limits depend on TRx.STR_LIM alone. -/
theorem State.limited.of_fr {x : Axis} {lo hi : Bool → Nat} {s t : State} (h : State.limited x lo hi s) (hfr : Fr (allBut (32 + 182)) s t) :
    State.limited x lo hi t := by
  have hkeep {f : Fld} (hf : fam f.reg = 182) : t.fld f = s.fld f := hfr.keep_fld (by rw [hf]; decide)
  intro on
  obtain ⟨hlo, hhi⟩ := h on
  cases on
  · exact ⟨(hkeep (F.TR_STR_LIM_SNK_LO_fam x)).trans hlo, (hkeep (F.TR_STR_LIM_SNK_HI_fam x)).trans hhi⟩
  · exact ⟨(hkeep (F.TR_STR_LIM_SRC_LO_fam x)).trans hlo, (hkeep (F.TR_STR_LIM_SRC_HI_fam x)).trans hhi⟩

theorem State.stepLimits_lt (s : State) (x : Axis) (on : Bool) : s.stepLo x on < 64 ∧ s.stepHi x on < 64 := by
  cases on
  · exact ⟨fieldOf_lt (F.TR_STR_LIM_SNK_LO x) _, fieldOf_lt (F.TR_STR_LIM_SNK_HI x) _⟩
  · exact ⟨fieldOf_lt (F.TR_STR_LIM_SRC_LO x) _, fieldOf_lt (F.TR_STR_LIM_SRC_HI x) _⟩

/-- A step that is set. -/
theorem State.fld_setStep (s : State) (x : Axis) {k j : Nat × Bool} {v : Nat} (hv : v < 64) (hk : k ∈ switchKinds) (hj : j ∈ switchKinds) :
    (s.set (stepFld x k.1 k.2) v).fld (stepFld x j.1 j.2) = if j = k then v else s.fld (stepFld x j.1 j.2) := by
  obtain ⟨hok, -, hwidth⟩ := stepFld_ok x k hk
  split
  next h => subst h; exact State.fld_set_of_lt _ _ _ hok (by rw [hwidth]; exact hv)
  next h => exact State.fld_set_apart _ _ hok (stepFld_apart x k hk j hj h)

theorem clampI_range {lo hi : Nat} (i : Int) {n : Nat} (hlo : lo < n) (hhi : hi < n) : 0 ≤ clampI lo hi i ∧ clampI lo hi i < n := by
  unfold clampI
  split
  · omega
  · split <;> omega

/-- A step moved by an amount and held within the limits (R445, R467). -/
theorem State.fld_moveStep (s : State) (x : Axis) (d : Int) {k j : Nat × Bool} (hk : k ∈ switchKinds) (hj : j ∈ switchKinds) :
    (s.moveStep x k.1 k.2 d).fld (stepFld x j.1 j.2) = if j = k then
      (clampI (s.stepLo x k.2) (s.stepHi x k.2) ((s.fld (stepFld x k.1 k.2) : Int) + d)).toNat else s.fld (stepFld x j.1 j.2) := by
  obtain ⟨hlo, hhi⟩ := s.stepLimits_lt x k.2
  obtain ⟨hnn, hlt⟩ := clampI_range ((s.fld (stepFld x k.1 k.2) : Int) + d) hlo hhi
  have hmod : unsigned (stepFld x k.1 k.2).width (clampI (s.stepLo x k.2) (s.stepHi x k.2) ((s.fld (stepFld x k.1 k.2) : Int) + d)) =
      (clampI (s.stepLo x k.2) (s.stepHi x k.2) ((s.fld (stepFld x k.1 k.2) : Int) + d)).toNat := by
    rw [(stepFld_ok x k hk).2.2, unsigned, Int.emod_eq_of_lt hnn (lt_of_lt_of_le hlt (by decide))]
  rw [State.moveStep, State.setI, hmod]
  exact s.fld_setStep x (by omega) hk hj

theorem State.fld_atLimits (s : State) (x : Axis) {f : Fld} (h : fam f.reg ≠ 178) : (s.atLimits x).fld f = s.fld f :=
  State.fld_set_other _ _ _ _ rfl (.inl fun hr => h (by rw [hr]; exact F.TR_STAT_AT_LIMIT_fam x))

theorem State.limited.atLimits {x : Axis} {lo hi : Bool → Nat} {s : State} (h : State.limited x lo hi s) :
    State.limited x lo hi (s.atLimits x) := h.of_fr (State.atLimits_fr (Fr.refl _ s))

/-! ### A write of STR_U, STR_V or STR_W (R450) -/

/-- The kinds of the two switches of phase p. -/
def phaseKinds (p : Nat) : List (Nat × Bool) := [(2 * p, true), (2 * p, false), (2 * p + 1, true), (2 * p + 1, false)]

/-- One field of a strength write. -/
def State.strPut (x : Axis) (w : Word) (s : State) (k : Nat × Bool) : State :=
  if inRange (s.stepLo x k.2) (s.stepHi x k.2) (fieldOf (stepFld x k.1 k.2) w) then
    (s.set (stepFld x k.1 k.2) (fieldOf (stepFld x k.1 k.2) w)).modTr x
      (fun t => { t with wrote := withBit t.wrote (skIx k.1 k.2) true })
  else s

theorem State.strWrite_eq (s : State) (x : Axis) (p : Nat) (w : Word) (h : s.owns x gGATE = false) :
    s.strWrite .host x p w = (s.forEach (phaseKinds p) (State.strPut x w)).atLimits x := by
  rw [State.strWrite, State.expert, h]; rfl

theorem State.strPut_fr (s : State) (x : Axis) (w : Word) (k : Nat × Bool) (hk : k ∈ switchKinds) :
    Fr (allBut (32 + 182)) s (s.strPut x w k) :=
  Fr.ite (State.modTr_fr (State.set_fr (Fr.refl _ s) (by rw [(stepFld_ok x k hk).2.1]; decide))) (Fr.refl _ s)

/-- What a strength write may touch: the phase's strengths, the limit bits and the marks of written steps. -/
def State.onlyStr (x : Axis) (p : Nat) (s t : State) : Prop :=
  t = ({ s with regs := t.regs }).modTr x (fun r => { r with wrote := (t.tr x).wrote }) ∧
    ∀ a, a ≠ A.TR_STR x p → a ≠ A.TR_STAT x → t.rd a = s.rd a

theorem State.onlyStr.refl (x : Axis) (p : Nat) (s : State) : State.onlyStr x p s s := ⟨by cases x <;> rfl, fun _ _ _ => rfl⟩

theorem State.onlyStr.trans {x : Axis} {p : Nat} {s t u : State} (h : State.onlyStr x p s t) (k : State.onlyStr x p t u) :
    State.onlyStr x p s u := by
  refine ⟨k.1.trans ?_, fun a hstr hstat => (k.2 a hstr hstat).trans (h.2 a hstr hstat)⟩
  conv_lhs => rw [h.1]
  cases x <;> rfl

theorem State.onlyStr_set (x : Axis) (p : Nat) (s : State) {f : Fld} (v : Nat) (h : f.reg = A.TR_STR x p ∨ f.reg = A.TR_STAT x) :
    State.onlyStr x p s (s.set f v) := by
  refine ⟨by cases x <;> rfl, fun a hstr hstat => State.rd_set_ne _ _ _ _ fun ha => ?_⟩
  rcases h with h | h
  · exact hstr (ha.trans h)
  · exact hstat (ha.trans h)

theorem stepFld_reg (x : Axis) (k : Nat × Bool) : (stepFld x k.1 k.2).reg = A.TR_STR x (k.1 / 2) := by
  unfold stepFld
  split <;> rfl

theorem State.onlyStr_strPut (x : Axis) (p : Nat) (s : State) (w : Word) {k : Nat × Bool} (hk : k.1 / 2 = p) :
    State.onlyStr x p s (s.strPut x w k) := by
  unfold State.strPut
  split
  · exact (State.onlyStr_set x p s _ (.inl (by rw [stepFld_reg, hk]))).trans ⟨by cases x <;> rfl, fun a _ _ => State.modTr_rd ..⟩
  · exact .refl x p s

theorem phaseKinds_spec {p : Nat} (hp : p < 3) :
    phaseKinds p ⊆ switchKinds ∧ (phaseKinds p).Nodup ∧ ∀ k ∈ phaseKinds p, k.1 / 2 = p := by
  interval_cases p <;> decide

theorem mem_phaseKinds {p sw : Nat} (on : Bool) (h : sw / 2 = p) : (sw, on) ∈ phaseKinds p := by
  obtain rfl | rfl : sw = 2 * p ∨ sw = 2 * p + 1 := by omega
  all_goals cases on <;> simp [phaseKinds]

theorem State.onlyStr_strWrite (s : State) (x : Axis) {p : Nat} (w : Word) (hp : p < 3) (h : s.owns x gGATE = false) :
    State.onlyStr x p s (s.strWrite .host x p w) := by
  obtain ⟨-, -, hphase⟩ := phaseKinds_spec hp
  rw [s.strWrite_eq x p w h]
  refine State.onlyStr.trans ?_ (State.onlyStr_set x p _ _ (.inr rfl))
  clear h
  generalize phaseKinds p = l at hphase
  induction l generalizing s with
  | nil => exact .refl x p s
  | cons k r ih =>
    exact (State.onlyStr_strPut x p s w (hphase k (List.mem_cons_self ..))).trans
      (ih (s.strPut x w k) fun q hq => hphase q (List.mem_cons_of_mem _ hq))

/-- R450: a field that lies within the limits is taken, and its step is marked as written. -/
theorem State.strWrite_vals (s : State) (x : Axis) {p : Nat} (w : Word) (hp : p < 3) (h : s.owns x gGATE = false) {sw : Nat} (on : Bool)
    (hsw : sw / 2 = p) : let t := s.strWrite .host x p w
    let takes := decide (s.stepLo x on ≤ fieldOf (stepFld x sw on) w) && decide (fieldOf (stepFld x sw on) w ≤ s.stepHi x on)
    bit (t.tr x).wrote (skIx sw on) = (takes || bit (s.tr x).wrote (skIx sw on)) ∧
      t.fld (stepFld x sw on) = if takes then fieldOf (stepFld x sw on) w else s.fld (stepFld x sw on) := by
  obtain ⟨hsub, hnd, -⟩ := phaseKinds_spec hp
  have hmem : (sw, on) ∈ phaseKinds p := mem_phaseKinds on hsw
  have hj : (sw, on) ∈ switchKinds := hsub hmem
  have hlim : State.limited x (s.stepLo x) (s.stepHi x) s := fun _ => ⟨rfl, rfl⟩
  have hkeep (u : State) (k : Nat × Bool) (hk : k ∈ switchKinds) (hu : State.limited x (s.stepLo x) (s.stepHi x) u) :
      State.limited x (s.stepLo x) (s.stepHi x) (u.strPut x w k) := hu.of_fr (u.strPut_fr x w k hk)
  have htakes (u : State) (k : Nat × Bool) (hu : State.limited x (s.stepLo x) (s.stepHi x) u) :
      u.strPut x w k = if inRange (s.stepLo x k.2) (s.stepHi x k.2) (fieldOf (stepFld x k.1 k.2) w) then
        (u.set (stepFld x k.1 k.2) (fieldOf (stepFld x k.1 k.2) w)).modTr x
          (fun t => { t with wrote := withBit t.wrote (skIx k.1 k.2) true }) else u := by
    rw [State.strPut, (hu k.2).1, (hu k.2).2]
  have hfld := State.obs_forEach (g := State.strPut x w) (obs := fun u k => u.fld (stepFld x k.1 k.2))
    (v := fun k old => if inRange (s.stepLo x k.2) (s.stepHi x k.2) (fieldOf (stepFld x k.1 k.2) w)
      then fieldOf (stepFld x k.1 k.2) w else old) hkeep (fun u k j hu hk hj => by
        have hv := fieldOf_lt (stepFld x k.1 k.2) w
        rw [(stepFld_ok x k hk).2.2] at hv
        rw [htakes u k hu]
        split
        · rw [State.modTr_fld, u.fld_setStep x hv hk hj]
        · split <;> rfl) hsub hnd hlim hj
  have hwrote := State.obs_forEach (g := State.strPut x w) (obs := fun u k => bit (u.tr x).wrote (skIx k.1 k.2))
    (v := fun k old => inRange (s.stepLo x k.2) (s.stepHi x k.2) (fieldOf (stepFld x k.1 k.2) w) || old) hkeep (fun u k j hu hk hj => by
        rw [htakes u k hu]
        split
        next hin =>
          rw [State.tr_modTr, State.tr_set, bit_withBit, hin, Bool.true_or]
          exact if_congr ⟨skIx_inj, fun h => by rw [h]⟩ rfl rfl
        next hin => rw [Bool.not_eq_true] at hin; rw [hin, Bool.false_or, ite_self]) hsub hnd hlim hj
  dsimp only
  rw [s.strWrite_eq x p w h]
  constructor
  · rw [State.atLimits, State.tr_set, hwrote.2, if_pos hmem]; rfl
  · rw [State.fld_atLimits _ x (by rw [(stepFld_ok x _ hj).2.1]; decide), hfld.2, if_pos hmem]; rfl

/-- R19, R20: an expert write to a group that the basic service owns is noted and changes no register. -/
theorem State.expert_owned (s : State) (x : Axis) (g : Nat) (f : State → State) (h : s.owns x g = true) :
    (s.expert .host x g f).regs = s.regs ∧ bit (s.expert .host x g f).reply rfOwned = true := by
  rw [State.expert, if_pos h]
  refine ⟨?_, s.bit_reply_note rfOwned⟩
  rw [State.note]
  split <;> rfl

/-! ### A write of STR_LIM (R467) -/

/-- The four limits. -/
def limFlds (x : Axis) : List Fld := [F.TR_STR_LIM_SNK_HI x, F.TR_STR_LIM_SNK_LO x, F.TR_STR_LIM_SRC_HI x, F.TR_STR_LIM_SRC_LO x]

/-- The limits take their fields of the word. -/
def State.limPut (s : State) (x : Axis) (w : Word) : State := s.forEach (limFlds x) (fun s f => s.set f (fieldOf f w))

theorem State.strLimWrite_eq (s : State) (x : Axis) (w : Word) (h : s.owns x gGATE = false) : s.strLimWrite .host x w =
    if fieldOf (F.TR_STR_LIM_SNK_HI x) w < fieldOf (F.TR_STR_LIM_SNK_LO x) w ∨
      fieldOf (F.TR_STR_LIM_SRC_HI x) w < fieldOf (F.TR_STR_LIM_SRC_LO x) w then s
    else ((s.limPut x w).forEach switchKinds (fun s k => s.moveStep x k.1 k.2 0)).atLimits x := by
  simp only [State.strLimWrite, State.expert, h, Bool.false_eq_true, if_false, State.limPut, limFlds]

/-- The limits that a word gives. -/
def limLo (x : Axis) (w : Word) (on : Bool) : Nat := if on then fieldOf (F.TR_STR_LIM_SRC_LO x) w else fieldOf (F.TR_STR_LIM_SNK_LO x) w
@[inherit_doc limLo] def limHi (x : Axis) (w : Word) (on : Bool) : Nat :=
  if on then fieldOf (F.TR_STR_LIM_SRC_HI x) w else fieldOf (F.TR_STR_LIM_SNK_HI x) w

theorem State.limited_limPut (s : State) (x : Axis) (w : Word) : State.limited x (limLo x w) (limHi x w) (s.limPut x w) := by
  have hput {f : Fld} (hf : f ∈ limFlds x) : (s.limPut x w).fld f = fieldOf f w := by
    rw [State.limPut]
    exact s.fld_forEach_put (limFlds x) w (by cases x <;> decide) (by cases x <;> decide) hf
  intro on
  simp only [State.stepLo, State.stepHi, limLo, limHi]
  cases on
  · rw [if_neg Bool.false_ne_true, if_neg Bool.false_ne_true, if_neg Bool.false_ne_true, if_neg Bool.false_ne_true]
    exact ⟨hput (by simp [limFlds]), hput (by simp [limFlds])⟩
  · rw [if_pos rfl, if_pos rfl, if_pos rfl, if_pos rfl]
    exact ⟨hput (by simp [limFlds]), hput (by simp [limFlds])⟩

theorem State.fld_limPut (s : State) (x : Axis) (w : Word) {k : Nat × Bool} (hk : k ∈ switchKinds) :
    (s.limPut x w).fld (stepFld x k.1 k.2) = s.fld (stepFld x k.1 k.2) :=
  State.fld_forEach_set_apart (limFlds x) s id (fun f => fieldOf f w) fun f hf =>
    (by cases x <;> decide : ∀ f ∈ limFlds x, ∀ k ∈ switchKinds, (id f).ok = true ∧ (id f).apart (stepFld x k.1 k.2) = true) f hf k hk

theorem clampN_toNat (lo hi n : Nat) : (clampI lo hi ((n : Int) + 0)).toNat = clampN lo hi n := by
  unfold clampI clampN
  split
  · rw [if_pos (by omega)]; omega
  · split
    · rw [if_neg (by omega), if_pos (by omega)]; omega
    · rw [if_neg (by omega), if_neg (by omega)]; omega

/-- R467: accepted limits clamp every step. -/
theorem State.strLimWrite_vals (s : State) (x : Axis) (w : Word) :
    let t := ((s.limPut x w).forEach switchKinds (fun s k => s.moveStep x k.1 k.2 0)).atLimits x
    State.limited x (limLo x w) (limHi x w) t ∧ ∀ sw on, sw < 6 →
      t.fld (stepFld x sw on) = clampN (limLo x w on) (limHi x w on) (s.fld (stepFld x sw on)) := by
  have hpass {j : Nat × Bool} (hj : j ∈ switchKinds) := State.obs_forEach (g := fun s k => s.moveStep x k.1 k.2 0)
    (obs := fun u k => u.fld (stepFld x k.1 k.2)) (v := fun k old => clampN (limLo x w k.2) (limHi x w k.2) old)
    (fun u k hk (hu : State.limited x (limLo x w) (limHi x w) u) => hu.of_fr (State.moveStep_fr (Fr.refl _ u)))
    (fun u k j hu hk hj => by
      rw [u.fld_moveStep x 0 hk hj, (hu k.2).1, (hu k.2).2, clampN_toNat]
      split
      next h => rw [h]
      next => rfl) (List.Subset.refl _) (by decide) (s.limited_limPut x w) hj
  refine ⟨(hpass (mem_switchKinds true (by decide : 0 < 6))).1.atLimits, fun sw on hsw => ?_⟩
  have hj := mem_switchKinds on hsw
  rw [State.fld_atLimits _ x (by rw [(stepFld_ok x _ hj).2.1]; decide), (hpass hj).2, if_pos hj, s.fld_limPut x w hj]

/-! ### The adaptation of a step (R445 to R447) -/

/-- What a code that is raised may change. -/
def codeReach : Nat := 0xc2c01000008004ac000000400000000000000000000000000000000000000240002201f400

theorem State.tr_unreachSet (s : State) (x : Axis) (i : Nat) (b : Bool) :
    (s.unreachSet x i b).tr x = { s.tr x with unreach := withBit (s.tr x).unreach i b } := by
  rw [State.unreachSet, (State.setCause_fr (κ := allBut 17 &&& allBut 18) (Fr.refl _ _)).keep_tr x, State.tr_modTr]

/-- R447: a transition within the deadband ends the cause of code 11 of its switch and kind, and does no more. -/
theorem State.tr_reachEnd (s : State) (x : Axis) (sw : Nat) (on : Bool) (t : Nat) : ∃ v, (s.reachEnd x sw on t).tr x =
    { s.tr x with unreach := v } ∧ (s.beyond x sw on t = (false, false) → bit v (skIx sw on) = false) := by
  rw [State.reachEnd]
  dsimp only
  split
  · exact ⟨_, s.tr_unreachSet x _ false, fun _ => by rw [bit_withBit, if_pos rfl]⟩
  next h =>
    refine ⟨(s.tr x).unreach, rfl, fun hin => ?_⟩
    rw [hin] at h
    simpa using h

/-- The consecutive adapting transitions at a limit and outside the deadband on one side (R447). -/
def State.limCount (s : State) (x : Axis) (i : Nat) (out hi atLim : Bool) : Nat :=
  let old := nth 0 (s.tr x).limRun i
  min (if out && atLim then (if old % 2 = b2n hi then old / 2 + 1 else 1) else 0) 256

theorem State.reachCount_eq (s : State) (x : Axis) (sw : Nat) (on out hi atLim : Bool) : s.reachCount x sw on out hi atLim =
    let n := s.limCount x (skIx sw on) out hi atLim
    let u := s.modTr x (fun t => { t with limRun := setNth t.limRun (skIx sw on) (2 * n + b2n hi) })
    if n = 256 ∧ bit (u.tr x).unreach (skIx sw on) = false then
      ((u.unreachSet x (skIx sw on) true).setBit (F.TR_STAT_UNREACH x) sw true).fault 11 (scAxis x) sw (b2n (!on))
    else u := by
  rw [State.reachCount]; rfl

theorem State.limCount_in (s : State) (x : Axis) (i : Nat) (hi atLim : Bool) : s.limCount x i false hi atLim = 0 := rfl

/-- The count at the limits and code 11 change no other part of the die; within the deadband code 11 does not come. -/
theorem State.tr_reachCount (s : State) (x : Axis) (sw : Nat) (on out hi atLim : Bool) : ∃ r v,
    (s.reachCount x sw on out hi atLim).tr x = { s.tr x with limRun := r, unreach := v } ∧ (out = false → v = (s.tr x).unreach) := by
  rw [State.reachCount_eq]
  dsimp only
  split
  next h =>
    refine ⟨setNth (s.tr x).limRun (skIx sw on) (2 * s.limCount x (skIx sw on) out hi atLim + b2n hi),
      withBit (s.tr x).unreach (skIx sw on) true, ?_, fun hout => ?_⟩
    · rw [(State.fault_fr (κ := codeReach) (Fr.refl _ _)).keep_tr x, State.setBit, State.tr_set, State.tr_unreachSet, State.tr_modTr]
    · rw [hout, State.limCount_in] at h
      exact absurd h.1 (by decide)
  next => exact ⟨_, (s.tr x).unreach, State.tr_modTr s x _, fun _ => rfl⟩

/-- The steps that one adapting transition moves by in a mode of ADAPT, after so many of them. -/
def adaptBy (mode cnt : Nat) : Nat := match mode with
  | 0 => 0
  | 1 => 1
  | 2 => 4
  | _ => if cnt < 64 then 4 else 1

/-- R445: a step is moved up where the transition was too slow, down where it was too fast. -/
def State.adaptMove (s : State) (x : Axis) (sw : Nat) (on : Bool) (t n : Nat) : State :=
  if n = 0 ∨ bit (s.tr x).wrote (skIx sw on) = true then s
  else if (s.beyond x sw on t).1 then s.moveStep x sw on n else if (s.beyond x sw on t).2 then s.moveStep x sw on (-n) else s

/-- The number of adapting transitions of a switch and kind, up to 64. -/
def State.adaptCount (s : State) (x : Axis) (i : Nat) : State :=
  s.modTr x (fun t => { t with adaptN := setNth t.adaptN i (min 64 (nth 0 (s.tr x).adaptN i + 1)) })

/-- The register of the last duration of a kind. -/
def lastFld (x : Axis) (p : Nat) (on : Bool) : Fld := if on then F.TR_LAST_ON x p else F.TR_LAST_OFF x p

theorem adaptBy_cast (mode cnt : Nat) : (adaptBy mode cnt : Int) = match mode with
    | 0 => 0
    | 1 => 1
    | 2 => 4
    | _ => if cnt < 64 then 4 else 1 := by
  rcases mode with _ | _ | _ | m
  · rfl
  · rfl
  · rfl
  · exact Nat.cast_ite ..

theorem State.adaptStep_eq (s : State) (x : Axis) (p sw : Nat) (on : Bool) (t : Nat) : ∃ atLim, s.adaptStep x p sw on t =
    let n := adaptBy (s.fld (F.TR_CFG_ADAPT x)) (nth 0 (s.tr x).adaptN (skIx sw on))
    let o := s.beyond x sw on t
    (((((s.adaptCount x (skIx sw on)).adaptMove x sw on t n).set (lastFld x p on) (min 0xFFFF t)).reachCount x sw on
      (o.1 || o.2) o.1 atLim)).atLimits x := by
  let o := s.beyond x sw on t
  refine ⟨(o.1 && s.fld (stepFld x sw on) == s.stepHi x on) || (o.2 && s.fld (stepFld x sw on) == s.stepLo x on), ?_⟩
  have hwrote : ((s.adaptCount x (skIx sw on)).tr x).wrote = (s.tr x).wrote := by rw [State.adaptCount, State.tr_modTr]
  have hside : (s.adaptCount x (skIx sw on)).beyond x sw on t = s.beyond x sw on t := by
    simp only [State.beyond, State.adaptCount, State.modTr_fld]
  dsimp only
  rw [State.adaptMove, hside, State.adaptStep, lastFld]
  simp only [← Nat.cast_eq_zero (R := Int), adaptBy_cast, State.adaptCount]
  rfl

theorem State.adaptMove_tr (s : State) (x : Axis) (sw : Nat) (on : Bool) (t n : Nat) : (s.adaptMove x sw on t n).tr x = s.tr x := by
  have hmove (d : Int) : (s.moveStep x sw on d).tr x = s.tr x := by rw [State.moveStep, State.setI, State.tr_set]
  rw [State.adaptMove]
  split
  · rfl
  · split
    · exact hmove _
    · split
      · exact hmove _
      · rfl

/-- An adapting transition changes counts of the die alone; within the deadband code 11 does not come. -/
theorem State.tr_adaptStep (s : State) (x : Axis) (p sw : Nat) (on : Bool) (t : Nat) : ∃ n r v, (s.adaptStep x p sw on t).tr x =
    { s.tr x with adaptN := n, limRun := r, unreach := v } ∧ (s.beyond x sw on t = (false, false) → v = (s.tr x).unreach) := by
  obtain ⟨atLim, heq⟩ := s.adaptStep_eq x p sw on t
  dsimp only at heq
  obtain ⟨r, v, htr, hv⟩ := State.tr_reachCount ((((s.adaptCount x (skIx sw on)).adaptMove x sw on t
    (adaptBy (s.fld (F.TR_CFG_ADAPT x)) (nth 0 (s.tr x).adaptN (skIx sw on)))).set (lastFld x p on) (min 0xFFFF t)))
    x sw on ((s.beyond x sw on t).1 || (s.beyond x sw on t).2) (s.beyond x sw on t).1 atLim
  rw [State.tr_set, State.adaptMove_tr, State.adaptCount, State.tr_modTr] at htr hv
  refine ⟨setNth (s.tr x).adaptN (skIx sw on) (min 64 (nth 0 (s.tr x).adaptN (skIx sw on) + 1)), r, v, ?_,
    fun hin => hv (by rw [hin]; rfl)⟩
  rw [heq, State.atLimits, State.tr_set, State.adaptCount, htr]

theorem lastFld_fam (x : Axis) (p : Nat) (on : Bool) : fam (lastFld x p on).reg = 189 := by
  cases on
  · exact F.TR_LAST_OFF_fam x p
  · exact F.TR_LAST_ON_fam x p

theorem lastFld_spec (x : Axis) (p : Nat) (on : Bool) : (lastFld x p on).ok = true ∧ (lastFld x p on).width = 16 := by
  cases on <;> exact ⟨rfl, rfl⟩

theorem State.reachCount_keeps (s : State) (x : Axis) (sw : Nat) (on out hi atLim : Bool) {f : Fld}
    (hf : fam f.reg = 180 ∨ fam f.reg = 189) : ((s.reachCount x sw on out hi atLim).atLimits x).fld f = s.fld f := by
  have hfr : Fr (allBut (32 + 180) &&& allBut (32 + 189)) s (s.reachCount x sw on out hi atLim) := State.reachCount_fr (Fr.refl _ s)
  rcases hf with hf | hf
  · rw [State.fld_atLimits _ x (by rw [hf]; decide), hfr.keep_fld (by rw [hf]; decide)]
  · rw [State.fld_atLimits _ x (by rw [hf]; decide), hfr.keep_fld (by rw [hf]; decide)]

/-- A step moved by n, held within its limits. -/
theorem State.fld_adaptMove (s : State) (x : Axis) {sw : Nat} {on : Bool} (t n : Nat) (hk : (sw, on) ∈ switchKinds)
    (hlo : s.stepLo x on ≤ s.fld (stepFld x sw on)) (hhi : s.fld (stepFld x sw on) ≤ s.stepHi x on) :
    let m := if bit (s.tr x).wrote (skIx sw on) = true then 0 else n
    (s.adaptMove x sw on t n).fld (stepFld x sw on) = if (s.beyond x sw on t).1 then min (s.stepHi x on) (s.fld (stepFld x sw on) + m)
      else if (s.beyond x sw on t).2 then max (s.stepLo x on) (s.fld (stepFld x sw on) - m) else s.fld (stepFld x sw on) := by
  have hmove (d : Int) : (s.moveStep x sw on d).fld (stepFld x sw on) =
      (clampI (s.stepLo x on) (s.stepHi x on) ((s.fld (stepFld x sw on) : Int) + d)).toNat := by
    rw [s.fld_moveStep x d hk hk, if_pos rfl]
  dsimp only
  rw [State.adaptMove]
  split
  next h =>
    have hm : (if bit (s.tr x).wrote (skIx sw on) = true then 0 else n) = 0 := by
      rcases h with h | h <;> simp [h]
    rw [hm]
    split_ifs <;> omega
  next h =>
    rw [not_or] at h
    rw [if_neg h.2]
    split
    · rw [hmove, clampI]
      split
      · omega
      · split <;> omega
    · split
      · rw [hmove, clampI]
        split
        · omega
        · split <;> omega
      · rfl

/-- R445, R446: what an adapting transition shows, and where its step moves to. -/
theorem State.adaptStep_vals (s : State) (x : Axis) (p : Nat) {sw : Nat} {on : Bool} (t : Nat) (hk : (sw, on) ∈ switchKinds) :
    let u := s.adaptStep x p sw on t
    let n := if bit (s.tr x).wrote (skIx sw on) = true then 0
      else adaptBy (s.fld (F.TR_CFG_ADAPT x)) (nth 0 (s.tr x).adaptN (skIx sw on))
    u.fld (lastFld x p on) = min 0xFFFF t ∧ (s.stepLo x on ≤ s.fld (stepFld x sw on) → s.fld (stepFld x sw on) ≤ s.stepHi x on →
      u.fld (stepFld x sw on) = if (s.beyond x sw on t).1 then min (s.stepHi x on) (s.fld (stepFld x sw on) + n)
        else if (s.beyond x sw on t).2 then max (s.stepLo x on) (s.fld (stepFld x sw on) - n) else s.fld (stepFld x sw on)) := by
  obtain ⟨atLim, heq⟩ := s.adaptStep_eq x p sw on t
  dsimp only at heq ⊢
  obtain ⟨hok, hwidth⟩ := lastFld_spec x p on
  obtain ⟨-, hfam, -⟩ := stepFld_ok x _ hk
  have hfld (f : Fld) : (s.adaptCount x (skIx sw on)).fld f = s.fld f := State.modTr_fld ..
  have hlim : (s.adaptCount x (skIx sw on)).stepLo x on = s.stepLo x on ∧ (s.adaptCount x (skIx sw on)).stepHi x on = s.stepHi x on := by
    simp only [State.stepLo, State.stepHi, hfld, and_self]
  have hside : (s.adaptCount x (skIx sw on)).beyond x sw on t = s.beyond x sw on t := by simp only [State.beyond, hfld]
  have hwrote : ((s.adaptCount x (skIx sw on)).tr x).wrote = (s.tr x).wrote := by rw [State.adaptCount, State.tr_modTr]
  rw [heq]
  refine ⟨?_, fun hlo hhi => ?_⟩
  · rw [State.reachCount_keeps _ x _ _ _ _ _ (.inr (lastFld_fam x p on))]
    exact State.fld_set_of_lt _ _ _ hok (by rw [hwidth]; omega)
  · rw [State.reachCount_keeps _ x _ _ _ _ _ (.inl hfam), State.fld_set_other _ _ _ _ hok (.inl fun hr => by
      have h := lastFld_fam x p on
      rw [← hr, hfam] at h
      exact absurd h (by decide))]
    have hmoved := (s.adaptCount x (skIx sw on)).fld_adaptMove x t (adaptBy (s.fld (F.TR_CFG_ADAPT x)) (nth 0 (s.tr x).adaptN (skIx sw on)))
      hk (by rw [hlim.1, hfld]; exact hlo) (by rw [hlim.2, hfld]; exact hhi)
    dsimp only at hmoved
    rw [hmoved, hside, hwrote, hlim.1, hlim.2, hfld]

/-! ### A transition's record (R441 to R444) -/

/-- What a transition of duration t changes beside its record: it may end code 11, and an adapting one moves its step. -/
def State.attributed (s : State) (x : Axis) (p cause : Nat) (sk : Nat × Bool) (adapts : Bool) (t : Nat) : State :=
  let u := if cause = 0 then s else s.reachEnd x sk.1 sk.2 t
  if adapts then u.adaptStep x p sk.1 sk.2 t else u

/-- The latest edge of a switch and kind; a transition without a cause has none. -/
def State.edgeOf (s : State) (x : Axis) (cause : Nat) (sk : Nat × Bool) : EdgeRec :=
  if cause = 0 then { EdgeRec.none with step := 0 } else nth EdgeRec.none (s.tr x).edge (skIx sk.1 sk.2)

/-- The midpoint that a transition's record takes. -/
def midpoint (free : Nat) (tb te : Int) : Nat :=
  let mid := (tb + te) / 2 + (if (tb + te) % 2 = 1 ∧ Config.tieUp free = true then 1 else 0)
  if 0 ≤ mid then mid.toNat else Config.freeNat free

/-- The first word of a transition's record. -/
def edgeWord0 (inst cause : Nat) (pulse adapts : Bool) : Nat :=
  inst % 2 ^ 24 + 2 ^ 24 + cause * 2 ^ 25 + b2n pulse * 2 ^ 27 + b2n adapts * 2 ^ 28

/-- The second word of a transition's record. -/
def edgeWord1 (t step : Nat) : Nat := min 0xFFFF t + step * 2 ^ 16

theorem exec_transitionMeasured (s : State) (x : Axis) {p : Nat} (rising : Bool) {tb te : Int} (tOff tOn : Option Int) (hp : p < 3)
    (hbe : tb ≤ te) (he : 0 ≤ te) (hv : 500 ≤ (s.tr x).vbus) :
    let cause := transCause tb te tOff tOn
    let sk := transSwitch p rising cause
    let e := s.edgeOf x cause sk
    let adapts := cause != 0 && e.flag && e.why == 0
    let u := s.attributed x p cause sk adapts (te - tb).toNat
    let i := 4 * p + 2 * b2n (!rising)
    exec (.transitionMeasured x p rising tb te tOff tOn) s = .next (u.spent.modTr x (fun t => { t with
      edges := setNth (setNth t.edges i (BitVec.ofNat 32 (edgeWord0 (midpoint u.free tb te) cause (e.why == 1) adapts))) (i + 1)
        (BitVec.ofNat 32 (edgeWord1 (te - tb).toNat e.step)) })) := by
  refine congrArg Host.Outcome.next ?_
  rw [if_pos ⟨hp, hbe, he⟩, State.transition, if_neg (by omega)]
  rfl

theorem transCause_le (tb te : Int) (tOff tOn : Option Int) : transCause tb te tOff tOn ≤ 2 := by
  unfold transCause
  extract_lets off before on
  split
  · decide
  · split <;> decide

theorem transSwitch_mem {p : Nat} (rising : Bool) {cause : Nat} (hp : p < 3) : transSwitch p rising cause ∈ switchKinds := by
  have hlt : ∀ a b : Nat, ∀ on, a < 6 → (a, on) ∈ switchKinds := fun a _ on h => mem_switchKinds on h
  unfold transSwitch
  split <;> exact hlt _ 0 _ (by omega)

theorem midpoint_even {free : Nat} {tb te : Int} (htb : 0 ≤ tb) (hbe : tb ≤ te) (heven : (tb + te) % 2 = 0) :
    midpoint free tb te = ((tb + te) / 2).toNat := by
  rw [midpoint, if_neg (c := _ ∧ _) (by omega), add_zero, if_pos (by omega)]

theorem edgeWord0_bits (inst : Nat) {cause : Nat} (pulse adapts : Bool) (h : cause ≤ 2) :
    let w := (BitVec.ofNat 32 (edgeWord0 inst cause pulse adapts)).toNat
    bits w 26 25 = cause ∧ bit w 27 = pulse ∧ bit w 28 = adapts ∧ bits w 23 0 = inst % 2 ^ 24 := by
  have hp : b2n pulse < 2 := by cases pulse <;> decide
  have ha : b2n adapts < 2 := by cases adapts <;> decide
  have hbeq {n : Nat} {b : Bool} (h : n = b2n b) : (n == 1) = b := by subst h; cases b <;> rfl
  dsimp only
  rw [BitVec.toNat_ofNat, Nat.mod_eq_of_lt (by unfold edgeWord0; omega), edgeWord0]
  refine ⟨?_, ?_, ?_, ?_⟩
  · unfold bits; omega
  · exact hbeq (by omega)
  · exact hbeq (by omega)
  · unfold bits; omega

theorem edgeWord1_bits (t step : Nat) : let w := (BitVec.ofNat 32 (edgeWord1 t step)).toNat
    bits w 15 0 = min 0xFFFF t ∧ bits w 21 16 = step % 64 := by
  dsimp only
  rw [BitVec.toNat_ofNat, edgeWord1]
  have h : min 0xFFFF t < 65536 := by omega
  generalize min 0xFFFF t = m at h ⊢
  constructor
  · unfold bits; omega
  · unfold bits; omega

theorem setNth_pair {α : Type} {l : List α} {i : Nat} (v w : α) (h : i + 1 < l.length) :
    (setNth (setNth l i v) (i + 1) w)[i]? = some v ∧ (setNth (setNth l i v) (i + 1) w)[i + 1]? = some w := by
  simp only [setNth_eq_set]
  exact ⟨by simp [List.getElem?_set]; omega, by simp [List.getElem?_set]; omega⟩

set_option maxRecDepth 20000 in
theorem reachEnd_reach : ∀ n < 265, n ≠ 204 → (1 <<< (32 + 204) + 0x60000).testBit (32 + n) = false := by decide

theorem State.reachEnd_keeps (s : State) (x : Axis) (sw : Nat) (on : Bool) (t : Nat) {f : Fld} (hf : fam f.reg ≠ 204) :
    (s.reachEnd x sw on t).fld f = s.fld f := by
  have hfr : Fr (1 <<< (32 + 204) + 0x60000) s (s.reachEnd x sw on t) := State.reachEnd_fr (Fr.refl _ s)
  exact hfr.keep_fld (reachEnd_reach _ (Nat.lt_succ_of_le (fam_le f.reg)) hf)

theorem State.reachEnd_beyond (s : State) (x : Axis) (sw : Nat) (on : Bool) (t : Nat) :
    (s.reachEnd x sw on t).beyond x sw on t = s.beyond x sw on t := by
  have hkeep {f : Fld} (hf : fam f.reg ≠ 204) := s.reachEnd_keeps x sw on t hf
  rw [State.beyond, hkeep (f := F.TR_EDGE_TGT_ON x (sw / 2)) (by simp), hkeep (f := F.TR_EDGE_TGT_OFF x (sw / 2)) (by simp),
    hkeep (f := F.TR_CFG_DB x) (by simp)]
  rfl

theorem State.tr_attributed (s : State) (x : Axis) (p cause : Nat) (sk : Nat × Bool) (adapts : Bool) (t : Nat) : ∃ n r v,
    (s.attributed x p cause sk adapts t).tr x = { s.tr x with adaptN := n, limRun := r, unreach := v } ∧
      (cause ≠ 0 → s.beyond x sk.1 sk.2 t = (false, false) → bit v (skIx sk.1 sk.2) = false) := by
  rw [State.attributed]
  dsimp only
  have hend : ∃ v, (if cause = 0 then s else s.reachEnd x sk.1 sk.2 t).tr x = { s.tr x with unreach := v } ∧
      (cause ≠ 0 → s.beyond x sk.1 sk.2 t = (false, false) → bit v (skIx sk.1 sk.2) = false) := by
    split
    next h => exact ⟨(s.tr x).unreach, rfl, fun hne => absurd h hne⟩
    next =>
      obtain ⟨v, htr, hv⟩ := s.tr_reachEnd x sk.1 sk.2 t
      exact ⟨v, htr, fun _ => hv⟩
  obtain ⟨v, htr, hv⟩ := hend
  split
  · obtain ⟨n, r, w, hadapt, hw⟩ := State.tr_adaptStep (if cause = 0 then s else s.reachEnd x sk.1 sk.2 t) x p sk.1 sk.2 t
    rw [htr] at hadapt hw
    refine ⟨n, r, w, hadapt, fun hne hin => ?_⟩
    have hside : (if cause = 0 then s else s.reachEnd x sk.1 sk.2 t).beyond x sk.1 sk.2 t = s.beyond x sk.1 sk.2 t := by
      rw [if_neg hne, State.reachEnd_beyond]
    rw [hw (hside.trans hin)]
    exact hv hne hin
  · exact ⟨(s.tr x).adaptN, (s.tr x).limRun, v, htr, hv⟩

/-- What the record of a transition shows of its step and of the last duration. -/
theorem State.attributed_vals (s : State) (x : Axis) (p cause : Nat) {sk : Nat × Bool} (adapts : Bool) (t : Nat)
    (hk : sk ∈ switchKinds) (hcause : adapts = true → cause ≠ 0) :
    let u := s.attributed x p cause sk adapts t
    let f := stepFld x sk.1 sk.2
    (adapts = false → u.fld f = s.fld f) ∧ (adapts = true → s.stepLo x sk.2 ≤ s.fld f → s.fld f ≤ s.stepHi x sk.2 →
      let n := if bit (s.tr x).wrote (skIx sk.1 sk.2) = true then 0
        else adaptBy (s.fld (F.TR_CFG_ADAPT x)) (nth 0 (s.tr x).adaptN (skIx sk.1 sk.2))
      let side := s.beyond x sk.1 sk.2 t
      u.fld (lastFld x p sk.2) = min 0xFFFF t ∧
        u.fld f = if side.1 then min (s.stepHi x sk.2) (s.fld f + n) else if side.2 then max (s.stepLo x sk.2) (s.fld f - n) else s.fld f) := by
  obtain ⟨-, hfam, -⟩ := stepFld_ok x sk hk
  have hkeep {f : Fld} (hf : fam f.reg ≠ 204) := s.reachEnd_keeps x sk.1 sk.2 t hf
  rw [State.attributed]
  refine ⟨fun h => ?_, fun h hlo hhi => ?_⟩
  · rw [h, if_neg Bool.false_ne_true]
    split
    · rfl
    · exact hkeep (by rw [hfam]; decide)
  · obtain ⟨v, htr, -⟩ := s.tr_reachEnd x sk.1 sk.2 t
    have hlim : (s.reachEnd x sk.1 sk.2 t).stepLo x sk.2 = s.stepLo x sk.2 ∧
        (s.reachEnd x sk.1 sk.2 t).stepHi x sk.2 = s.stepHi x sk.2 :=
      State.limited.of_fr (lo := s.stepLo x) (hi := s.stepHi x) (fun _ => ⟨rfl, rfl⟩) (State.reachEnd_fr (Fr.refl _ s)) sk.2
    have hstep := hkeep (f := stepFld x sk.1 sk.2) (by rw [hfam]; decide)
    rw [h, if_pos rfl, if_neg (hcause h)]
    obtain ⟨hlast, hmove⟩ := (s.reachEnd x sk.1 sk.2 t).adaptStep_vals x p t hk
    rw [hlim.1, hlim.2, hstep, s.reachEnd_beyond, htr, hkeep (f := F.TR_CFG_ADAPT x) (by simp)] at hmove
    exact ⟨hlast, hmove hlo hhi⟩

theorem State.tr_spent (s : State) (x : Axis) : s.spent.tr x = s.tr x := by cases x <;> rfl

/-- A transition without a cause has no edge: it does not adapt, is no refresh pulse's and shows step 0. -/
theorem State.edgeOf_shows (s : State) (x : Axis) (cause : Nat) (sk : Nat × Bool) :
    let e := nth EdgeRec.none (s.tr x).edge (skIx sk.1 sk.2)
    let g := s.edgeOf x cause sk
    (cause != 0 && g.flag && g.why == 0) = (cause != 0 && e.flag && e.why == 0) ∧ (g.why == 1) = (cause != 0 && e.why == 1) ∧
      g.step % 64 = if cause = 0 then 0 else e.step % 64 := by
  dsimp only
  rw [State.edgeOf]
  split
  next h => rw [h]; exact ⟨rfl, rfl, rfl⟩
  next h => rw [bne_iff_ne.2 h]; exact ⟨rfl, rfl, rfl⟩

/-- R441 to R446: the record of a timed transition and what it changes. -/
theorem State.transition_shows (s : State) (x : Axis) {p : Nat} (rising : Bool) {tb te : Int} (tOff tOn : Option Int) (hp : p < 3)
    (hbe : tb ≤ te) (he : 0 ≤ te) (hv : 500 ≤ (s.tr x).vbus) (hlen : (s.tr x).edges.length = 12) :
    ∃ t w0 w1, exec (.transitionMeasured x p rising tb te tOff tOn) s = .next t ∧
      let cause := transCause tb te tOff tOn
      let sk := transSwitch p rising cause
      let f := stepFld x sk.1 sk.2
      let e := nth EdgeRec.none (s.tr x).edge (skIx sk.1 sk.2)
      let adapts := cause != 0 && e.flag && e.why == 0
      let dur := (te - tb).toNat
      let side := s.beyond x sk.1 sk.2 dur
      let i := 4 * p + (if rising then 0 else 2)
      (t.tr x).edges[i]? = some w0 ∧ (t.tr x).edges[i + 1]? = some w1 ∧
      bits w0.toNat 26 25 = cause ∧ bit w0.toNat 27 = (cause != 0 && e.why == 1) ∧ bit w0.toNat 28 = adapts ∧
      (0 ≤ tb → (tb + te) % 2 = 0 → bits w0.toNat 23 0 = ((tb + te) / 2).toNat % 2 ^ 24) ∧
      bits w1.toNat 15 0 = min 0xFFFF dur ∧ bits w1.toNat 21 16 = (if cause = 0 then 0 else e.step % 64) ∧
      (cause ≠ 0 → side = (false, false) → bit (t.tr x).unreach (skIx sk.1 sk.2) = false) ∧
      (adapts = false → t.fld f = s.fld f) ∧
      (adapts = true → s.stepLo x sk.2 ≤ s.fld f → s.fld f ≤ s.stepHi x sk.2 →
        let n := if bit (s.tr x).wrote (skIx sk.1 sk.2) = true then 0
          else adaptBy (s.fld (F.TR_CFG_ADAPT x)) (nth 0 (s.tr x).adaptN (skIx sk.1 sk.2))
        t.fld (lastFld x p sk.2) = min 0xFFFF dur ∧
        t.fld f = (if side.1 then min (s.stepHi x sk.2) (s.fld f + n)
          else if side.2 then max (s.stepLo x sk.2) (s.fld f - n) else s.fld f)) := by
  have hexec := exec_transitionMeasured s x rising tOff tOn hp hbe he hv
  have hcause := transCause_le tb te tOff tOn
  dsimp only at hexec ⊢
  generalize transCause tb te tOff tOn = cause at hexec hcause ⊢
  have hk := transSwitch_mem rising (cause := cause) hp
  generalize transSwitch p rising cause = sk at hexec hk ⊢
  obtain ⟨hadapts, hpulse, hstep⟩ := s.edgeOf_shows x cause sk
  have hi : 4 * p + 2 * b2n (!rising) = 4 * p + (if rising then 0 else 2) := by cases rising <;> rfl
  rw [hadapts, hpulse, hi] at hexec
  generalize (cause != 0 && (nth EdgeRec.none (s.tr x).edge (skIx sk.1 sk.2)).why == 1) = pulse at hexec ⊢
  have hne (h : (cause != 0 && (nth EdgeRec.none (s.tr x).edge (skIx sk.1 sk.2)).flag &&
      (nth EdgeRec.none (s.tr x).edge (skIx sk.1 sk.2)).why == 0) = true) : cause ≠ 0 := by
    intro h0
    rw [h0] at h
    exact Bool.false_ne_true h
  generalize (cause != 0 && (nth EdgeRec.none (s.tr x).edge (skIx sk.1 sk.2)).flag &&
    (nth EdgeRec.none (s.tr x).edge (skIx sk.1 sk.2)).why == 0) = adapts at hexec hne ⊢
  obtain ⟨nn, r, v, htr, hv⟩ := s.tr_attributed x p cause sk adapts (te - tb).toNat
  have hvals := s.attributed_vals x p cause adapts (te - tb).toNat hk hne
  dsimp only at hvals
  generalize s.attributed x p cause sk adapts (te - tb).toNat = u at hexec htr hvals
  obtain ⟨hb0, hb1, hb2, hb3⟩ := edgeWord0_bits (midpoint u.free tb te) pulse adapts hcause
  obtain ⟨hc0, hc1⟩ := edgeWord1_bits (te - tb).toNat (s.edgeOf x cause sk).step
  obtain ⟨hw0, hw1⟩ := setNth_pair (l := (s.tr x).edges) (i := 4 * p + if rising then 0 else 2)
    (BitVec.ofNat 32 (edgeWord0 (midpoint u.free tb te) cause pulse adapts))
    (BitVec.ofNat 32 (edgeWord1 (te - tb).toNat (s.edgeOf x cause sk).step)) (by split <;> omega)
  refine ⟨_, _, _, hexec, ?_, ?_, hb0, hb1, hb2, fun htb heven => ?_, hc0, hc1.trans hstep, fun hc hin => ?_, fun ha => ?_, fun ha hlo hhi => ?_⟩
  · rw [State.tr_modTr, State.tr_spent, htr]; exact hw0
  · rw [State.tr_modTr, State.tr_spent, htr]; exact hw1
  · rw [hb3, midpoint_even htb hbe heven]
  · rw [State.tr_modTr, State.tr_spent, htr]; exact hv hc hin
  · rw [State.modTr_fld, State.spent_fld]; exact hvals.1 ha
  · rw [State.modTr_fld, State.modTr_fld, State.spent_fld, State.spent_fld]; exact hvals.2 ha hlo hhi

/-! ### Frames, strengths and transitions (O46) -/

theorem exec_idleFrame (s : State) (x : Axis) (ns : Nat) (h : s.sends = true) (hns : 1000 ≤ ns) :
    exec (.idleFrame x ns) s = .next (s.frame x) := congrArg Host.Outcome.next (if_pos ⟨h, hns⟩)

theorem exec_idleFrame_early (s : State) (x : Axis) {ns : Nat} (hns : ns < 1000) : exec (.idleFrame x ns) s = .next s :=
  congrArg Host.Outcome.next (if_neg (by omega))

/-- Without the reference clock no frame is sent (R174). -/
theorem exec_linkFrame_unclocked (s : State) (x : Axis) (good : Bool) (h : s.sun.pll = false) : exec (.linkFrame x good) s = .next s :=
  congrArg Host.Outcome.next (if_neg (by rw [State.sends, h, Bool.and_false]; exact Bool.false_ne_true))

theorem exec_strengthWrite (s : State) (x : Axis) {p : Nat} (w : Word) (hrun : s.isRunning = true) (hp : p < 3) :
    exec (.strengthWrite x p w) s = .next (s.strWrite .host x p w) := by
  refine congrArg Host.Outcome.next ?_
  rw [State.running, if_pos hrun, if_pos hp]

theorem exec_strLimWrite (s : State) (x : Axis) (w : Word) (hrun : s.isRunning = true) :
    exec (.strLimWrite x w) s = .next (s.strLimWrite .host x w) := by
  refine congrArg Host.Outcome.next ?_
  rw [State.running, if_pos hrun]

theorem exec_transitionMeasured_low (s : State) (x : Axis) (p : Nat) (rising : Bool) (tb te : Int) (tOff tOn : Option Int)
    (hv : (s.tr x).vbus < 500) : exec (.transitionMeasured x p rising tb te tOff tOn) s = .next s := by
  refine congrArg Host.Outcome.next ?_
  rw [State.transition, if_pos hv, ite_self]

/-- R467: limits that cross are ignored; others stand and clamp every step. -/
theorem State.strLimWrite_shows (s : State) (x : Axis) (w : Word) (h : s.owns x gGATE = false) : let t := s.strLimWrite .host x w
    let g (f : Axis → Fld) : Nat := fieldOf (f x) w
    if g F.TR_STR_LIM_SNK_HI < g F.TR_STR_LIM_SNK_LO ∨ g F.TR_STR_LIM_SRC_HI < g F.TR_STR_LIM_SRC_LO then t = s
    else t.stepLo x true = g F.TR_STR_LIM_SRC_LO ∧ t.stepHi x true = g F.TR_STR_LIM_SRC_HI ∧
      t.stepLo x false = g F.TR_STR_LIM_SNK_LO ∧ t.stepHi x false = g F.TR_STR_LIM_SNK_HI ∧
      ∀ sw on, sw < 6 → t.fld (stepFld x sw on) = clampN (t.stepLo x on) (t.stepHi x on) (s.fld (stepFld x sw on)) := by
  dsimp only
  rw [s.strLimWrite_eq x w h]
  split
  next => rfl
  next =>
    obtain ⟨hlim, hsteps⟩ := s.strLimWrite_vals x w
    refine ⟨(hlim true).1, (hlim true).2, (hlim false).1, (hlim false).2, fun sw on hsw => ?_⟩
    rw [(hlim on).1, (hlim on).2]
    exact hsteps sw on hsw

/-- Settles O46: a frame is heard by `framed_frame` or lost by `linkBad_vals`, and the steps follow the rules of a strength write,
of a write of the limits and of an adapting transition. -/
theorem framesSetCommandsAndTransitionsAdaptStrengths : Obligations.FramesSetCommandsAndTransitionsAdaptStrengths := by
  intro s x ns hrun
  refine ⟨fun hpll good => exec_linkFrame_unclocked s x good hpll, exec_idleFrame_early s x, fun hpll => ?_, fun hns hcause => ?_,
    fun p w hp => ?_, fun w => ?_, fun p tb te rising tOff tOn hp hbe he => ⟨exec_transitionMeasured_low s x p rising tb te tOff tOn, ?_⟩⟩
  · have hsends := State.sends_of_running hrun hpll
    exact ⟨⟨_, exec_linkFrame s x true hsends, s.framed_frame x⟩, fun hns => ⟨_, exec_idleFrame s x ns hsends hns, s.framed_frame x⟩,
      ⟨_, exec_linkFrame s x false hsends, s.linkBad_vals x hrun⟩⟩
  · obtain ⟨hok, hstat, hshown⟩ := s.linkGone_shows x (if s.above x then s.ascPol x else ssOFF) hrun
    exact ⟨_, exec_dieLinkLost s x hns hcause, hok, hstat, hshown, s.takesSafe_linkGone x (s.lostSafe_lt x)⟩
  · refine ⟨_, exec_strengthWrite s x w hrun hp, fun hown => s.expert_owned x gGATE _ hown, fun hown => ?_⟩
    obtain ⟨hpart, hregs⟩ := s.onlyStr_strWrite x w hp hown
    exact ⟨hpart, hregs, fun sw on hsw => s.strWrite_vals x w hp hown on hsw⟩
  · exact ⟨_, exec_strLimWrite s x w hrun, fun hown => s.expert_owned x gGATE _ hown, s.strLimWrite_shows x w⟩
  · intro hv hlen
    obtain ⟨t, w0, w1, hexec, hwords⟩ := s.transition_shows x rising tOff tOn hp hbe he hv hlen
    refine ⟨t, w0, w1, hexec, ?_⟩
    simp only [adaptBy, lastFld] at hwords
    exact hwords

/-! ### The code of a bit density (R223) -/

/-- The nearest integer to a fraction lies within half of it. -/
theorem qRound_near (up : Bool) (m : Int) {d : Nat} (hd : 0 < d) :
    2 * (d : Int) * qRound up (m, d) ≤ 2 * m + d ∧ 2 * m - d ≤ 2 * (d : Int) * qRound up (m, d) := by
  have hpos : (0 : Int) < d := by omega
  have hdiv := Int.emod_add_mul_ediv m d
  have hnn := Int.emod_nonneg m hpos.ne'
  have hlt := Int.emod_lt_of_pos m hpos
  have hfloor : 2 * (d : Int) * (m / d) = 2 * (m - m % d) := by rw [mul_assoc]; omega
  have hnext : 2 * (d : Int) * (m / d + 1) = 2 * (m - m % d) + 2 * d := by rw [mul_add, hfloor]; ring
  have hrest : m - m / d * d = m % d := by rw [mul_comm]; omega
  simp only [qRound, qFloor, hrest]
  split_ifs
  · rw [hfloor]; omega
  · rw [hnext]; omega
  · rw [hnext]; omega
  · rw [hfloor]; omega

/-- A fraction of one held in 16 bits signed. -/
theorem clampI_near (up : Bool) (m : Int) {d : Nat} (hd : 0 < d) (hm : -32768 * (d : Int) ≤ m) :
    let c := clampI (-32768) 32767 (qRound up (m, d))
    c ≤ 32767 ∧ -32768 ≤ c ∧ 2 * (d : Int) * c ≤ 2 * m + d ∧ (c = 32767 ∨ 2 * m - d ≤ 2 * (d : Int) * c) := by
  obtain ⟨hle, hge⟩ := qRound_near up m hd
  generalize qRound up (m, d) = q at hle hge
  have hlow : -32768 ≤ q := by
    by_contra h
    have hmul : 2 * (d : Int) * q ≤ 2 * (d : Int) * -32769 := mul_le_mul_of_nonneg_left (by omega) (by omega)
    omega
  rw [clampI, if_neg (by omega)]
  split
  next h =>
    have hmul : 2 * (d : Int) * 32767 ≤ 2 * (d : Int) * q := mul_le_mul_of_nonneg_left (by omega) (by omega)
    exact ⟨le_refl _, by decide, by omega, .inl rfl⟩
  next h => exact ⟨by omega, hlow, hle, .inr hge⟩

theorem State.densityCode_spent (s : State) (ws : List Nat) (l : List Bool) : (s.densityCode ws l).2 = s.spent := by
  rw [State.densityCode]
  split <;> rfl

theorem State.densityCode_near (s : State) (ws : List Nat) (l : List Bool) (hl : l.length = ws.length)
    (hw : 0 < ws.foldl (· + ·) 0) :
    let sum : Int := (ws.foldl (· + ·) 0 : Nat)
    let ones : Int := (((ws.zip l).map (fun e => if e.2 then e.1 else 0)).foldl (· + ·) 0 : Nat)
    let m := 32768 * (2 * ones - sum)
    let c := (s.densityCode ws l).1
    c ≤ 32767 ∧ -32768 ≤ c ∧ 2 * sum * c ≤ 2 * m + sum ∧ (c = 32767 ∨ 2 * m - sum ≤ 2 * sum * c) := by
  rw [State.densityCode, if_pos hl]
  dsimp only
  rw [Nat.max_eq_right hw]
  exact clampI_near _ _ hw (by omega)

/-! ### What a hardware signal brings (R263) -/

theorem State.pendKept_faultOn (s : State) (code sc unit detail : Nat) : State.PendKept s (s.faultOn code sc unit detail) :=
  (State.PendKept.of_fr (m := allBut (32 + 207)) (State.setCause_fr (Fr.refl _ s)) (by decide)).trans (State.pendKept_fault _ code sc unit detail)

theorem State.pendKept_putSafe (s : State) (x : Axis) (st rank origin : Nat) : State.PendKept s (s.putSafe x st rank origin) := by
  have hgates : State.PendKept s (s.safeGates x st rank origin) := .of_fr (s.safeGates_fr x st rank origin) (by decide)
  have hends (u : State) : State.PendKept u (u.shortsEnd x st) :=
    .ite (.refl u) (.of_fr (m := allBut (32 + 207)) (State.setCause_fr (State.setCause_fr (Fr.refl _ u))) (by decide))
  have hcomps (u : State) (c : Prop) [Decidable c] : State.PendKept u (if c then u.compsZero x else u) :=
    .ite (.of_fr (m := allBut (32 + 207)) (State.compsZero_fr (Fr.refl _ u)) (by decide)) (.refl u)
  have hevent (u : State) (c : Prop) [Decidable c] : State.PendKept u (if c then u.evx x 1 else u) :=
    .ite (State.PendKept.event (.refl u) _) (.refl u)
  rw [State.putSafe_eq]
  exact ((hgates.trans (hends _)).trans (hcomps _ _)).trans (hevent _ _)

/-- A safe state loses no pending bit. -/
theorem State.pendKept_chooseSafe (s : State) (x : Axis) (st rank origin : Nat) (retry : Bool) :
    State.PendKept s (s.chooseSafe x st rank origin retry) := by
  have hjoin : State.PendKept s (s.retryJoin x retry) := .of_fr (m := allBut (32 + 207)) (State.retryJoin_fr (Fr.refl _ s)) (by decide)
  exact State.chooseSafe_rel (.refl s) (fun f => .of_fr (m := allBut (32 + 207)) (State.modTr_fr (Fr.refl _ s)) (by decide)) hjoin
    (.of_fr (m := allBut (32 + 207)) (State.ascDropped_fr (Fr.refl _ s)) (by decide)) (hjoin.trans (State.pendKept_putSafe _ x st rank origin))

theorem State.pendKept_settle (s : State) (x : Axis) : State.PendKept s (s.settle x) := .of_fr (s.settle_reach x) (by decide)

theorem State.pendKept_brakeOcOn (s : State) (x : Axis) : State.PendKept s (s.brakeOcOn x) :=
  (State.PendKept.of_fr (m := allBut (32 + 207)) (State.settle_fr (State.inc_fr (State.modTr_fr (Fr.refl _ s)))) (by decide)).trans
    (State.pendKept_faultOn _ 14 (scCascade x) x.ix 0)

theorem State.pendKept_busOvFault (s : State) (x : Axis) (detail : Nat) : State.PendKept s (s.busOvFault x detail) :=
  (s.pendKept_faultOn 4 (scAxis x) 0 detail).trans (State.pendKept_chooseSafe _ x _ 6 3 true)

theorem State.pendKept_busOvOn (s : State) (x : Axis) : State.PendKept s (s.busOvOn x) :=
  ((State.PendKept.of_fr (m := allBut (32 + 207)) (State.settle_fr (State.modTr_fr (Fr.refl _ s))) (by decide)).trans
    (State.pendKept_busOvFault _ x 3)).trans (State.pendKept_settle _ x)

/-- A signal that rises loses no pending bit. -/
theorem State.pendKept_signalRise (s : State) (x : Axis) (sig unit : Nat) : State.PendKept s (s.signalRise x sig unit) := by
  unfold State.signalRise
  split
  · exact (s.pendKept_faultOn 3 (scAxis x) unit 0).trans (State.pendKept_chooseSafe _ x _ 6 3 true)
  · exact .ite (s.pendKept_faultOn 14 (scCascade x) x.ix 0) (s.pendKept_brakeOcOn x)
  · exact .ite (s.pendKept_busOvFault x 3) (s.pendKept_busOvOn x)

/-- The phase-overcurrent signal raises code 3, and its cause is present. -/
theorem State.signalRise_phase (s : State) (x : Axis) (unit : Nat) (hrun : s.isRunning = true) :
    (s.signalRise x 0 unit).stat (scAxis x) 3 = true ∧ (s.signalRise x 0 unit).cause (scAxis x) 3 = true := by
  obtain ⟨hstat, hcause⟩ := s.stat_faultOn 3 (scAxis x) unit 0 hrun
  exact ⟨(State.stat_chooseSafe _ x _ 6 3 true _ 3).trans hstat,
    (State.cause_chooseSafe _ x _ 6 3 true _ 3 (by decide) (by decide)).trans hcause⟩

theorem State.tr_faultOn (s : State) (code sc unit detail : Nat) (x : Axis) : (s.faultOn code sc unit detail).tr x = s.tr x :=
  Fr.keep_tr (m := codeReach ||| 1 <<< (32 + 204)) (State.faultOn_fr (Fr.refl _ s)) x

/-- The brake-overcurrent signal stands once it has risen. -/
theorem State.signalRise_brake (s : State) (x : Axis) (unit : Nat) : ((s.signalRise x 1 unit).tr x).brkOc = true := by
  show ((if (s.tr x).brkOc then s.faultOn 14 (scCascade x) x.ix 0 else s.brakeOcOn x).tr x).brkOc = true
  split
  next h => rw [State.tr_faultOn, h]
  next =>
    have hasked := (State.driven_settle ((s.modTr x (fun t => { t with brkOc := true })).inc (F.TR_CSC_STAT_OVC x)) x).asked
    rw [State.brakeOcOn, State.tr_faultOn]
    refine (congrArg Tr.brkOc hasked :).trans ?_
    rw [State.inc, State.incBy, State.tr_set, State.tr_modTr]
    rfl

/-! Neither a command nor a safe state changes the bus-overvoltage signal. -/

theorem State.ovSig_settle (s : State) (x : Axis) : ((s.settle x).tr x).ovSig = (s.tr x).ovSig :=
  (congrArg Tr.ovSig (State.driven_settle s x).asked :)

theorem State.ovSig_command (s : State) (x : Axis) (m : Nat) : ((s.command x m).tr x).ovSig = (s.tr x).ovSig := by
  rw [State.command, State.ovSig_settle, State.tr_modTr]

theorem State.ovSig_safeGates (s : State) (x : Axis) (st rank origin : Nat) :
    ((s.safeGates x st rank origin).tr x).ovSig = (s.tr x).ovSig := by
  rw [State.safeGates, State.ovSig_command, State.extEnd, State.tr_modTr]
  dsimp only
  rw [State.tr_set, State.tr_set, State.tr_set, State.setB, State.tr_set, State.tr_modTr]

theorem State.ovSig_putSafe (s : State) (x : Axis) (st rank origin : Nat) :
    ((s.putSafe x st rank origin).tr x).ovSig = (s.tr x).ovSig := by
  have hends (u : State) : (u.shortsEnd x st).tr x = u.tr x := by
    rw [State.shortsEnd]
    split
    · rfl
    · exact Fr.keep_tr (m := allBut 17 &&& allBut 18) (State.setCause_fr (State.setCause_fr (Fr.refl _ u))) x
  have hcomps (u : State) (c : Prop) [Decidable c] : (if c then u.compsZero x else u).tr x = u.tr x := by
    split
    · exact Fr.keep_tr (m := allBut 17 &&& allBut 18) (State.compsZero_fr (Fr.refl _ u)) x
    · rfl
  have hevent (u : State) (c : Prop) [Decidable c] : (if c then u.evx x 1 else u).tr x = u.tr x := by
    split
    · exact Fr.keep_tr (m := allBut 17 &&& allBut 18) (State.evx_fr (Fr.refl _ u)) x
    · rfl
  rw [State.putSafe_eq, hevent, hcomps, hends, State.ovSig_safeGates]

theorem State.ovSig_chooseSafe (s : State) (x : Axis) (st rank origin : Nat) (retry : Bool) :
    ((s.chooseSafe x st rank origin retry).tr x).ovSig = (s.tr x).ovSig := by
  have hjoin : (s.retryJoin x retry).tr x = s.tr x :=
    Fr.keep_tr (m := allBut 17 &&& allBut 18) (State.retryJoin_fr (Fr.refl _ s)) x
  have hdropped : ((s.ascDropped x).tr x).ovSig = (s.tr x).ovSig := by
    rw [State.ascDropped]
    split
    · rw [State.ovSig_command, State.tr_set, State.tr_set, State.tr_set, State.tr_modTr]
    · exact s.ovSig_settle x
  unfold State.chooseSafe
  dsimp only
  split
  · split
    · exact hdropped
    · rfl
  · split
    · split
      · rw [State.tr_modTr]
      · split
        · rw [State.tr_modTr]
        · rw [hjoin]
    · split
      · rw [State.ovSig_putSafe, hjoin]
      · rw [hjoin]

/-- The bus-overvoltage signal stands once it has risen. -/
theorem State.signalRise_bus (s : State) (x : Axis) (unit : Nat) : ((s.signalRise x 2 unit).tr x).ovSig = true := by
  have hfault (u : State) (h : (u.tr x).ovSig = true) : ((u.busOvFault x 3).tr x).ovSig = true := by
    rw [State.busOvFault, State.ovSig_chooseSafe, State.tr_faultOn, h]
  show ((if (s.tr x).ovSig then s.busOvFault x 3 else s.busOvOn x).tr x).ovSig = true
  split
  next h => exact hfault s h
  next => rw [State.busOvOn, State.ovSig_settle, hfault _ (by rw [State.ovSig_settle, State.tr_modTr])]

/-- The last source of the phase-overcurrent signal ends the cause of code 3. -/
theorem State.signalFall_phase (s : State) (x : Axis) (h : (s.signalFall x 0).signalOn x 0 = false) :
    (s.signalFall x 0).cause (scAxis x) 3 = false := by
  unfold State.signalFall at h ⊢
  split
  next hon => rw [if_pos hon, hon] at h; cases h
  next => exact State.cause_setCause _ _ _ _

/-! ### Fast-path windows (R226 to R228) -/

/-- What a signal that rises may change. -/
def riseReach : Nat := 0xc2c01000008004bc1c0004400000000020400000000000000000000000000240002207f420

/-- A result lies outside its window (R226). -/
def State.winOut (s : State) (i : Nat) (c : Int) : Bool :=
  decide (signed 16 (s.fld (F.SNS_FTHR_HI i)) < c) || decide (c < signed 16 (s.fld (F.SNS_FTHR_LO i)))

/-- The window of a data input has tripped or cleared on a result. -/
def State.winMoved (s : State) (i : Nat) (c : Int) (trip : Bool) : State :=
  (s.modSns (fun n => { n with fast := setNth n.fast i c, fRun := setNth n.fRun i 0 })).modSns
    (fun n => { n with fTrip := setNth n.fTrip i trip, fHeld := setNth n.fHeld i false })

/-- A window that has tripped shows it (R227). -/
def State.winMark (s : State) (i : Nat) : State := (s.setBit F.SNS_STAT_FTRIP i true).evx (sddAxis i) (22 + i % 4)

/-- It asserts the signal of its owner. -/
def State.winTrip (s : State) (i : Nat) : State :=
  match ownerAxis ((s.winMark i).sddOwner i) with
  | some x => (s.winMark i).signalRise x (winSignal i) (16 + i)
  | none => s.winMark i

/-- A window that has cleared asserts the signal of its owner no more (R228). -/
def State.winClear (s : State) (i : Nat) : State :=
  match ownerAxis (s.sddOwner i) with
  | some x => s.signalFall x (winSignal i)
  | none => s

theorem exec_sinc2Result (s : State) {i : Nat} (l : List Bool) {trip : Bool} (hrun : s.isRunning = true) (hi : i < 8) (ho : s.sddOwner i ≠ 0)
    (htrip : s.sns.fTrip[i]? = some trip) (hfilt : s.fld (F.SNS_SDCH_FILT i) ≤ nth 0 s.sns.fRun i)
    (hout : s.winOut i (s.densityCode (sinc2Weights (s.osr2 i)) l).1 = !trip) :
    let u := s.spent.winMoved i (s.densityCode (sinc2Weights (s.osr2 i)) l).1 (!trip)
    exec (.sinc2Result i l) s = .next (if trip then u.winClear i else u.winTrip i) := by
  have hnth : nth true s.sns.fTrip i = trip := nth_of_getElem? true htrip
  have hne : ((!trip) != trip) = true := by cases trip <;> rfl
  have hneed : s.fld (F.SNS_SDCH_FILT i) + 1 ≤ nth 0 s.sns.fRun i + 1 := by omega
  rw [State.winOut] at hout
  refine congrArg Host.Outcome.next ((State.running_of hrun).trans ?_)
  rw [if_pos ⟨hi, ho⟩]
  simp only [State.densityCode_spent, State.spent_fld, State.spent_sns, hout, hnth, hne, hneed, if_true]
  rfl

theorem State.winMoved_sns (s : State) (i : Nat) (c : Int) (trip : Bool) : (s.winMoved i c trip).sns.fTrip = setNth s.sns.fTrip i trip := rfl

theorem lt_of_getElem?_some {α : Type} {l : List α} {n : Nat} {v : α} (h : l[n]? = some v) : n < l.length :=
  (List.getElem?_eq_some_iff.1 h).1

theorem State.winMark_fr (s : State) (i : Nat) : Fr (eventReach ||| 1 <<< (32 + 59)) s (s.winMark i) :=
  State.evx_fr (State.setBit_fr (Fr.refl _ s))

theorem State.sddOwner_winMark (s : State) (i : Nat) : (s.winMark i).sddOwner i = s.sddOwner i := by
  rw [State.sddOwner, (s.winMark_fr i).keep_img, State.sddOwner]

theorem State.winMark_shows (s : State) {i : Nat} (hi : i < 8) :
    (s.winMark i).getBit F.SNS_STAT_FTRIP i = true ∧ (s.winMark i).pend (evAx (sddAxis i) (22 + i % 4)) = true := by
  have hfr : Fr eventReach (s.setBit F.SNS_STAT_FTRIP i true) (s.winMark i) := State.evx_fr (Fr.refl _ _)
  constructor
  · refine (congrArg (bit · i) (hfr.keep_fld (by simp; decide))).trans ((State.getBit_setBit _ _ _ _ _ rfl).trans ?_)
    rw [if_pos rfl]
    interval_cases i <;> rfl
  · exact State.pend_event _ _ (by interval_cases i <;> decide)

/-- What the trip of a window shows, and the signal it asserts. -/
theorem State.winTrip_shows (s : State) {i : Nat} (hrun : s.isRunning = true) (hi : i < 8) : let t := s.winTrip i
    t.sns = s.sns ∧ t.getBit F.SNS_STAT_FTRIP i = true ∧ t.pend (evAx (sddAxis i) (22 + i % 4)) = true ∧
      ∀ x, ownerAxis (s.sddOwner i) = some x → i % 4 ≠ 3 → t.stat (scAxis x) 3 = true ∧ t.cause (scAxis x) 3 = true := by
  obtain ⟨hshown, hpend⟩ := s.winMark_shows hi
  have hfr := s.winMark_fr i
  dsimp only
  rw [State.winTrip, s.sddOwner_winMark i]
  generalize s.winMark i = u at hshown hpend hfr
  cases hx : ownerAxis (s.sddOwner i) with
  | none => exact ⟨hfr.keep_sns, hshown, hpend, fun x h => absurd h (by simp)⟩
  | some y =>
    have hrise : Fr riseReach u (u.signalRise y (winSignal i) (16 + i)) := State.signalRise_fr (Fr.refl _ u)
    refine ⟨hrise.keep_sns.trans hfr.keep_sns, (congrArg (bit · i) (hrise.keep_fld (by simp; decide))).trans hshown,
      u.pendKept_signalRise y _ _ _ (by interval_cases i <;> decide) hpend, fun x h hne => ?_⟩
    obtain rfl : y = x := Option.some.inj h
    rw [winSignal, if_neg hne]
    exact u.signalRise_phase y (16 + i) ((State.isRunning_of_fr hfr).trans hrun)

/-- The end of a signal leaves the windows as they are. -/
theorem State.winClear_sns (s : State) (i : Nat) : (s.winClear i).sns = s.sns := by
  unfold State.winClear
  split
  · exact Fr.keep_sns (m := allBut 21) (State.signalFall_fr (Fr.refl _ s))
  · rfl

/-- R226, R227: an owned input whose results have lain outside its window for FILT + 1 in a row trips. -/
theorem exec_sinc2Result_trips (s : State) {i : Nat} (l : List Bool) (hrun : s.isRunning = true) (hi : i < 8) (ho : s.sddOwner i ≠ 0)
    (hout : s.winOut i (s.densityCode (sinc2Weights (s.osr2 i)) l).1 = true) (htrip : s.sns.fTrip[i]? = some false)
    (hfilt : s.fld (F.SNS_SDCH_FILT i) ≤ nth 0 s.sns.fRun i) :
    ∃ t, exec (.sinc2Result i l) s = .next t ∧ nth true t.sns.fTrip i = true ∧ t.getBit F.SNS_STAT_FTRIP i = true ∧
      t.pend (evAx (sddAxis i) (22 + i % 4)) = true ∧
      ∀ x, ownerAxis (s.sddOwner i) = some x → i % 4 ≠ 3 → t.stat (scAxis x) 3 = true ∧ t.cause (scAxis x) 3 = true := by
  obtain ⟨hsns, hshown, hpend, hphase⟩ := (s.spent.winMoved i (s.densityCode (sinc2Weights (s.osr2 i)) l).1 true).winTrip_shows hrun hi
  refine ⟨_, exec_sinc2Result s l hrun hi ho htrip hfilt hout, ?_, hshown, hpend, hphase⟩
  rw [if_neg Bool.false_ne_true, Bool.not_false, hsns, State.winMoved_sns, nth_setNth, if_pos ⟨rfl, lt_of_getElem?_some htrip⟩]

/-- R228: a tripped input whose results have lain inside for as long clears. -/
theorem exec_sinc2Result_clears (s : State) {i : Nat} (l : List Bool) (hrun : s.isRunning = true) (hi : i < 8) (ho : s.sddOwner i ≠ 0)
    (hout : s.winOut i (s.densityCode (sinc2Weights (s.osr2 i)) l).1 = false) (htrip : s.sns.fTrip[i]? = some true)
    (hfilt : s.fld (F.SNS_SDCH_FILT i) ≤ nth 0 s.sns.fRun i) :
    ∃ t, exec (.sinc2Result i l) s = .next t ∧ nth true t.sns.fTrip i = false := by
  refine ⟨_, exec_sinc2Result s l hrun hi ho htrip hfilt hout, ?_⟩
  rw [if_pos rfl, Bool.not_true, State.winClear_sns, State.winMoved_sns, nth_setNth, if_pos ⟨rfl, lt_of_getElem?_some htrip⟩]

/-! ### Settling and stuck inputs (R225, R230) -/

theorem exec_sinc3Settled (s : State) {i captured : Nat} (hrun : s.isRunning = true) (hi : i < 8) (ho : s.sddOwner i ≠ 0) :
    exec (.sinc3Settled i captured) s = .next (if 3 * s.osr3 i - 2 ≤ captured then
      { s with sns := { s.sns with sdStale := setNth s.sns.sdStale i false } } else s) := by
  refine congrArg Host.Outcome.next ((State.running_of hrun).trans ?_)
  by_cases h : 3 * s.osr3 i - 2 ≤ captured
  · rw [if_pos ⟨hi, h, ho⟩, if_pos h]; rfl
  · rw [if_neg (fun hc => h hc.2.1), if_neg h]

/-- A data input that is found stuck: its bit and its own mark. -/
def State.stuckMark (s : State) (i : Nat) : State :=
  (s.setBit F.SNS_STAT_STUCK i true).modSns (fun n => { n with stuck := setNth n.stuck i true })

/-- The fault of a stuck input: code 20 of the axis that owns it, or 40 of the device. -/
def State.stuckFault (s : State) (o i : Nat) : State :=
  match ownerAxis o with
  | some x => s.axisFaultOn x 20 i 0
  | none => s.faultOn 40 0 i 0

/-- The cause of a stuck input as the other inputs of its owner leave it. -/
def State.stuckCause (s : State) (o : Nat) (b : Bool) : State :=
  match ownerAxis o with
  | some x => s.setCause (scAxis x) 20 b
  | none => s.setCause 0 40 b

theorem exec_sigmaDeltaInputStuck (s : State) {i clocks : Nat} (hrun : s.isRunning = true) (hi : i < 8) (ho : s.sddOwner i ≠ 0)
    (hclocks : 1024 ≤ clocks) (hwas : nth false s.sns.stuck i = false) :
    exec (.sigmaDeltaInputStuck i clocks) s = .next ((s.stuckMark i).stuckFault (s.sddOwner i) i) := by
  refine congrArg Host.Outcome.next ((State.running_of hrun).trans ?_)
  rw [if_neg (by omega), if_pos hclocks, hwas, if_neg Bool.false_ne_true]
  rfl

theorem exec_sigmaDeltaInputFree (s : State) {i : Nat} (hrun : s.isRunning = true) (hi : i < 8) (ho : s.sddOwner i ≠ 0)
    (hwas : nth false s.sns.stuck i = true) :
    let u := s.modSns (fun n => { n with stuck := setNth n.stuck i false })
    exec (.sigmaDeltaInputStuck i 0) s = .next (u.stuckCause (s.sddOwner i)
      ((List.range 8).any (fun j => nth false (setNth s.sns.stuck i false) j && s.sddOwner j == s.sddOwner i))) := by
  refine congrArg Host.Outcome.next ((State.running_of hrun).trans ?_)
  rw [if_neg (by omega), if_neg (by decide), if_pos ⟨rfl, hwas⟩]
  rfl

theorem State.stuckFault_shows (s : State) {o i : Nat} (hrun : s.isRunning = true) :
    let t := s.stuckFault o i
    t.getBit F.SNS_STAT_STUCK i = s.getBit F.SNS_STAT_STUCK i ∧
      (∀ x, ownerAxis o = some x → t.stat (scAxis x) 20 = true ∧ t.cause (scAxis x) 20 = true) ∧
      (ownerAxis o = none → t.stat 0 40 = true ∧ t.cause 0 40 = true) := by
  dsimp only
  rw [State.stuckFault]
  cases ownerAxis o with
  | none =>
    have hfr : Fr (codeReach ||| 1 <<< (32 + 204)) s (s.faultOn 40 0 i 0) := State.faultOn_fr (Fr.refl _ s)
    exact ⟨congrArg (bit · i) (hfr.keep_fld (by simp; decide)), fun x h => absurd h (by simp), fun _ => s.stat_faultOn 40 0 i 0 hrun⟩
  | some y =>
    have hfr : Fr riseReach s (s.axisFaultOn y 20 i 0) := State.axisFaultOn_fr (Fr.refl _ s)
    refine ⟨congrArg (bit · i) (hfr.keep_fld (by simp; decide)), fun x h => ?_, fun h => absurd h (by simp)⟩
    obtain rfl : y = x := Option.some.inj h
    exact s.stat_axisFaultOn y 20 i 0 hrun (by decide) (by decide)

theorem State.stuckCause_shows (s : State) (o : Nat) :
    (∀ x, ownerAxis o = some x → (s.stuckCause o false).cause (scAxis x) 20 = false) ∧
      (ownerAxis o = none → (s.stuckCause o false).cause 0 40 = false) := by
  rw [State.stuckCause]
  cases ownerAxis o with
  | none => exact ⟨fun x h => absurd h (by simp), fun _ => s.cause_setCause 0 40 false⟩
  | some y =>
    refine ⟨fun x h => ?_, fun h => absurd h (by simp)⟩
    obtain rfl : y = x := Option.some.inj h
    exact s.cause_setCause (scAxis y) 20 false

/-- R230: 1024 clocks at one level raise the code, and its cause is present. -/
theorem exec_sigmaDeltaInputStuck_raises (s : State) {i clocks : Nat} (hrun : s.isRunning = true) (hi : i < 8) (ho : s.sddOwner i ≠ 0)
    (hclocks : 1024 ≤ clocks) (hwas : nth false s.sns.stuck i = false) :
    ∃ t, exec (.sigmaDeltaInputStuck i clocks) s = .next t ∧ t.getBit F.SNS_STAT_STUCK i = true ∧
      (∀ x, ownerAxis (s.sddOwner i) = some x → t.stat (scAxis x) 20 = true ∧ t.cause (scAxis x) 20 = true) ∧
      (ownerAxis (s.sddOwner i) = none → t.stat 0 40 = true ∧ t.cause 0 40 = true) := by
  have hmark : (s.stuckMark i).isRunning = true :=
    (State.isRunning_of_fr (m := allBut 1 &&& allBut (32 + 1)) (State.modSns_fr (State.setBit_fr (Fr.refl _ s)))).trans hrun
  obtain ⟨hshown, haxis, hdevice⟩ := (s.stuckMark i).stuckFault_shows (o := s.sddOwner i) (i := i) hmark
  refine ⟨_, exec_sigmaDeltaInputStuck s hrun hi ho hclocks hwas, hshown.trans ?_, haxis, hdevice⟩
  refine (State.getBit_setBit s F.SNS_STAT_STUCK i i true rfl).trans ?_
  rw [if_pos rfl]
  interval_cases i <;> rfl

/-- R230: a change of level ends the cause where no other input is stuck. -/
theorem exec_sigmaDeltaInputStuck_ends (s : State) {i : Nat} (hrun : s.isRunning = true) (hi : i < 8) (ho : s.sddOwner i ≠ 0)
    (hwas : nth false s.sns.stuck i = true) (hothers : ∀ j, j < 8 → j ≠ i → nth false s.sns.stuck j = false) :
    ∃ t, exec (.sigmaDeltaInputStuck i 0) s = .next t ∧
      (∀ x, ownerAxis (s.sddOwner i) = some x → t.cause (scAxis x) 20 = false) ∧
      (ownerAxis (s.sddOwner i) = none → t.cause 0 40 = false) := by
  have hnone (j : Nat) (hj : j < 8) : nth false (setNth s.sns.stuck i false) j = false := by
    rw [nth_setNth]
    split
    · rfl
    next h =>
      by_cases hji : j = i
      · subst hji
        exact nth_of_le _ _ _ (by omega)
      · exact hothers j hj hji
  have hmore : (List.range 8).any (fun j => nth false (setNth s.sns.stuck i false) j && s.sddOwner j == s.sddOwner i) = false := by
    rw [List.any_eq_false]
    intro j hj
    rw [hnone j (List.mem_range.1 hj)]
    exact Bool.false_ne_true
  refine ⟨_, exec_sigmaDeltaInputFree s hrun hi ho hwas, ?_⟩
  rw [hmore]
  exact State.stuckCause_shows _ _

/-! ### Comparator sides (R252 to R264) -/

theorem sideIx_inj {n : Nat} {hi : Bool} : sideIx n hi ≠ sideIx n (!hi) := by cases hi <;> simp [sideIx, b2n]

/-- R252, R254: the HI side of a comparator looks above its code, the LO side below. -/
theorem State.outside_side (s : State) (i : Nat) (hi : Bool) (uv vref : Int) : s.outside (sideIx i hi) 0 uv vref =
    if hi then decide ((s.dacCode (sideIx i hi) 0 : Int) * vref < 4096 * uv)
    else decide (4096 * uv < (s.dacCode (sideIx i hi) 0 : Int) * vref) := by
  rw [State.outside]
  cases hi
  · rw [if_neg (by simp [sideIx, b2n]), if_neg Bool.false_ne_true]
  · rw [if_pos (by simp [sideIx, b2n]), if_pos rfl]

/-- The samples of a side that its filter keeps, with the one taken now. -/
def State.outsNow (s : State) (i : Nat) (hi : Bool) (uv vref : Int) : List Bool :=
  (s.outside (sideIx i hi) 0 uv vref :: (s.side (sideIx i hi)).outs).take 31

theorem exec_comparatorTrip (s : State) {i : Nat} (hi : Bool) (uv vref : Int) (hrun : s.isRunning = true) (h12 : i < 12)
    (ho : s.hahOwner i ≠ 0) (htrip : (s.side (sideIx i hi)).trip = false) : exec (.comparatorTrip i hi [uv] vref) s = .next
      (if s.filtN i < 2 * (((s.outsNow i hi uv vref).take (s.filtN i)).filter id).length then s.sideTrip i hi (s.outsNow i hi uv vref)
      else s.putSide i hi { s.side (sideIx i hi) with outs := s.outsNow i hi uv vref }) := by
  refine congrArg Host.Outcome.next ((State.running_of hrun).trans ?_)
  rw [if_pos ⟨h12, htrip, ho⟩]
  show s.sideSample i hi 0 uv vref = _
  rw [State.sideSample]
  dsimp only
  rw [htrip]
  simp only [true_and, Bool.false_eq_true, false_and, if_false]
  rfl

theorem exec_comparatorClear (s : State) {i : Nat} (hi : Bool) (uv vref : Int) (hrun : s.isRunning = true) (h12 : i < 12)
    (ho : s.hahOwner i ≠ 0) (htrip : (s.side (sideIx i hi)).trip = true) : exec (.comparatorClear i hi [uv] vref) s = .next
      (if ((s.outsNow i hi uv vref).take (s.filtN i)).any id = false then s.sideClear i hi (s.outsNow i hi uv vref)
      else s.putSide i hi { s.side (sideIx i hi) with outs := s.outsNow i hi uv vref }) := by
  refine congrArg Host.Outcome.next ((State.running_of hrun).trans ?_)
  rw [if_pos ⟨h12, htrip, ho⟩]
  show s.sideSample i hi 0 uv vref = _
  rw [State.sideSample]
  dsimp only
  rw [htrip]
  simp only [true_and, Bool.true_eq_false, false_and, if_false]
  rfl

/-- R104: a comparator without an owner is not used. -/
theorem exec_comparator_unowned (s : State) (i : Nat) (hi : Bool) (uv : List Int) (vref : Int) (hrun : s.isRunning = true)
    (ho : s.hahOwner i = 0) : exec (.comparatorTrip i hi uv vref) s = .next s ∧ exec (.comparatorClear i hi uv vref) s = .next s :=
  ⟨congrArg Host.Outcome.next ((State.running_of hrun).trans (if_neg fun h => h.2.2 ho)),
    congrArg Host.Outcome.next ((State.running_of hrun).trans (if_neg fun h => h.2.2 ho))⟩

/-! #### A side that is set -/

/-- A side that is not tripped is one of the bank's: each that is not reads as after a reset. -/
theorem State.side_lt (s : State) {k : Nat} (h : (s.side k).trip = false) : k < s.hah.sides.length := by
  by_contra hk
  rw [State.side, nth_of_le _ _ _ (by omega)] at h
  cases h

theorem State.hah_putSide (s : State) (n : Nat) (hi : Bool) (d : Side) :
    (s.putSide n hi d).hah.sides = setNth s.hah.sides (sideIx n hi) d := rfl

theorem State.side_putSide (s : State) {n : Nat} {hi : Bool} (d : Side) (h : sideIx n hi < s.hah.sides.length) :
    (s.putSide n hi d).side (sideIx n hi) = d := by
  rw [State.side, State.hah_putSide, nth_setNth, if_pos ⟨rfl, h⟩]

theorem State.side_putSide_other (s : State) (n : Nat) (hi : Bool) (d : Side) :
    (s.putSide n hi d).side (sideIx n (!hi)) = s.side (sideIx n (!hi)) := by
  rw [State.side, State.hah_putSide, nth_setNth, if_neg (fun h => sideIx_inj h.1), State.side]

/-- R257: HAH.STATE shows whether a side of the comparator is tripped. -/
theorem State.tripped_putSide (s : State) {n : Nat} (hi : Bool) (d : Side) (hn : n < 12) (h : sideIx n hi < s.hah.sides.length) :
    (s.putSide n hi d).getBit F.HAH_STATE_TRIPPED n = (d.trip || (s.side (sideIx n (!hi))).trip) := by
  have hboth : (s.putSide n hi d).getBit F.HAH_STATE_TRIPPED n =
      (((s.putSide n hi d).side (sideIx n true)).trip || ((s.putSide n hi d).side (sideIx n false)).trip) := by
    refine (State.getBit_setBit _ F.HAH_STATE_TRIPPED n n _ rfl).trans ?_
    rw [if_pos rfl, decide_eq_true (lt_of_lt_of_le hn (by decide : 12 ≤ F.HAH_STATE_TRIPPED.width)), Bool.true_and]
    rfl
  rw [hboth]
  have hother : ((s.putSide n hi d).side (sideIx n (!hi))).trip = (s.side (sideIx n (!hi))).trip :=
    congrArg Side.trip (s.side_putSide_other n hi d)
  cases hi
  · rw [s.side_putSide d h, Bool.or_comm]
    exact congrArg (d.trip || ·) hother
  · rw [s.side_putSide d h]
    exact congrArg (d.trip || ·) hother

/-! #### A side that trips -/

/-- What the trip of a side may change before its route acts. -/
def markReach : Nat := eventReach ||| 1 <<< (32 + 67) ||| 1 <<< (32 + 68) ||| 1 <<< 22

/-- A side trips: its sticky bit and its event (R257). -/
def State.sideMark (s : State) (n : Nat) (hi : Bool) (outs : List Bool) : State :=
  let sig := (ownerAxis (s.hahOwner n)).bind (fun x => (s.sideSignal n hi).map (fun g => (x.ix, g)))
  ((s.putSide n hi { trip := true, held := false, outs := outs, sig := sig }).setBit (if hi then F.HAH_STICKY_HI else F.HAH_STICKY_LO)
    n true).evx (cmpAxis n) (22 + n % 6)

/-- The route of a side acts on the axis that owns it (R259, R264). -/
def State.sideAct (s : State) (x : Axis) (n : Nat) (hi : Bool) : State :=
  match s.sideSignal n hi with
  | some g => s.signalRise x g n
  | none => if hi && s.sideRoute n hi == 2 && n % 6 != 3 && n % 6 != 4 then s.cbcOff x n else s

theorem State.sideTrip_eq (s : State) (n : Nat) (hi : Bool) (outs : List Bool) : s.sideTrip n hi outs =
    match ownerAxis (s.hahOwner n) with
    | none => s.sideMark n hi outs
    | some x => (s.sideMark n hi outs).sideAct x n hi := rfl

theorem stickyFld_spec (hi : Bool) : (if hi then F.HAH_STICKY_HI else F.HAH_STICKY_LO).ok = true ∧
    fam (if hi then F.HAH_STICKY_HI else F.HAH_STICKY_LO).reg = 68 ∧ (if hi then F.HAH_STICKY_HI else F.HAH_STICKY_LO).width = 12 := by
  cases hi <;> decide

theorem State.sideMark_fr (s : State) (n : Nat) (hi : Bool) (outs : List Bool) : Fr markReach s (s.sideMark n hi outs) :=
  State.evx_fr (State.setBit_fr (State.putSide_fr (Fr.refl _ s)) (by rw [(stickyFld_spec hi).2.1]; decide))

/-- What a side that trips shows. -/
theorem State.sideMark_shows (s : State) {n : Nat} (hi : Bool) (outs : List Bool) (hn : n < 12)
    (h : sideIx n hi < s.hah.sides.length) : let t := s.sideMark n hi outs
    (t.side (sideIx n hi)).trip = true ∧ t.getBit F.HAH_STATE_TRIPPED n = true ∧
      t.getBit (if hi then F.HAH_STICKY_HI else F.HAH_STICKY_LO) n = true ∧ t.pend (evAx (cmpAxis n) (22 + n % 6)) = true := by
  obtain ⟨hok, hfam, hwidth⟩ := stickyFld_spec hi
  dsimp only
  rw [State.sideMark]
  generalize (ownerAxis (s.hahOwner n)).bind (fun x => (s.sideSignal n hi).map (fun g => (x.ix, g))) = sig
  let d : Side := { trip := true, held := false, outs := outs, sig := sig }
  let u : State := (s.putSide n hi d).setBit (if hi then F.HAH_STICKY_HI else F.HAH_STICKY_LO) n true
  have hset : Fr (1 <<< (32 + 68)) (s.putSide n hi d) u := State.setBit_fr (Fr.refl _ _) (by rw [hfam]; decide)
  have hev : Fr eventReach u (u.evx (cmpAxis n) (22 + n % 6)) := State.evx_fr (Fr.refl _ u)
  refine ⟨?_, ?_, ?_, State.pend_event u _ (by interval_cases n <;> decide)⟩
  · show ((u.evx (cmpAxis n) (22 + n % 6)).side (sideIx n hi)).trip = true
    rw [State.side, hev.keep_hah, hset.keep_hah]
    exact congrArg Side.trip (s.side_putSide d h)
  · refine (congrArg (bit · n) ((hev.keep_fld (by simp; decide)).trans (hset.keep_fld (by simp; decide)))).trans ?_
    exact (s.tripped_putSide hi d hn h).trans (Bool.true_or _)
  · refine (congrArg (bit · n) (hev.keep_fld (by rw [hfam]; decide))).trans ?_
    rw [← State.getBit, State.getBit_setBit _ _ _ _ _ hok, if_pos rfl, decide_eq_true (lt_of_lt_of_eq hn hwidth.symm), Bool.true_and]

theorem State.sideRoute_sideMark (s : State) (n : Nat) (hi : Bool) (outs : List Bool) :
    (s.sideMark n hi outs).sideRoute n hi = s.sideRoute n hi := by
  have hfr := s.sideMark_fr n hi outs
  rw [State.sideRoute, hfr.keep_fld (by simp; decide), hfr.keep_fld (by simp; decide), State.sideRoute]

theorem State.sideSignal_sideMark (s : State) (n : Nat) (hi : Bool) (outs : List Bool) :
    (s.sideMark n hi outs).sideSignal n hi = s.sideSignal n hi := by
  rw [State.sideSignal, s.sideRoute_sideMark, State.sideSignal]

/-! #### The cycle-by-cycle limit (R194, R264) -/

theorem cbcFld_spec (x : Axis) : (cbcFld x).ok = true ∧ fam (cbcFld x).reg = 71 ∧ (cbcFld x).top = 65535 := by cases x <;> decide

/-- The high side of the PWM phase turns off outside a safe state, which counts. -/
theorem State.cbcOff_shows (s : State) (x : Axis) (n : Nat) (hacts : s.cbcActs x n = true) :
    let c := 2 * (sixPhases (s.fld (F.PW_SIX_SECTOR x))).1
    let t := s.cbcOff x n
    (t.tb x).cbc = true ∧ (s.safe x ≠ 0 → (t.tr x).cmd = (s.tr x).cmd) ∧
      (s.safe x = 0 → bit (s.tr x).cmd c = true → bit (t.tr x).cmd c = false ∧
        t.fld (cbcFld x) = min 65535 (s.fld (cbcFld x) + 1)) := by
  obtain ⟨hok, hfam, htop⟩ := cbcFld_spec x
  let c := 2 * (sixPhases (s.fld (F.PW_SIX_SECTOR x))).1
  let u : State := s.modTb x (fun t => { t with cbc := true, out := withBit t.out c false })
  have hcbc : (u.tb x).cbc = true := by cases x <;> rfl
  have htr : u.tr x = s.tr x := by cases x <;> rfl
  have hsafe : u.safe x = s.safe x := State.modTb_fld ..
  have heq : s.cbcOff x n = if u.safe x = 0 ∧ bit (u.tr x).cmd c = true then
      (u.linkCommand x (withBit (u.tr x).cmd c false)).inc (cbcFld x) else u := by
    rw [State.cbcOff, if_pos hacts]
  dsimp only
  rw [heq, hsafe, htr]
  split
  next h =>
    have hdr := State.driven_settle (u.modTr x (fun t => { t with
      cmd := withBit (s.tr x).cmd c false, why := t.whyOf (withBit (s.tr x).cmd c false) 0
      wait := deadWaits t (withBit (s.tr x).cmd c false) u.subTicks
      ref := (List.range 3).map (fun p => if t.cmd / 4 ^ p % 4 = withBit (s.tr x).cmd c false / 4 ^ p % 4 then nth [] t.ref p else []) })) x
    have hfr : Fr settleReach u (u.linkCommand x (withBit (s.tr x).cmd c false)) := State.linkCommand_fr (Fr.refl _ u)
    have hcmd : ((u.linkCommand x (withBit (s.tr x).cmd c false)).tr x).cmd = withBit (s.tr x).cmd c false := by
      refine (congrArg Tr.cmd hdr.asked :).trans ?_
      rw [State.tr_modTr]
      rfl
    refine ⟨?_, fun hne => absurd h.1 hne, fun _ _ => ⟨?_, ?_⟩⟩
    · rw [State.inc, State.incBy, State.tb_set, hfr.keep_tb x, hcbc]
    · rw [State.inc, State.incBy, State.tr_set, hcmd, bit_withBit, if_pos rfl]
    · rw [State.fld_inc_same _ _ hok, htop, hfr.keep_fld (by rw [hfam]; decide)]
      exact congrArg (fun v => min 65535 (v + 1)) (State.modTb_fld ..)
  next h => exact ⟨hcbc, fun _ => by rw [htr], fun h0 hb => absurd ⟨h0, hb⟩ h⟩

/-! #### The route of a side (R259) -/

theorem State.cbcOff_reach (s : State) (x : Axis) (n : Nat) : Fr (settleReach ||| 1 <<< (32 + 71) ||| 0x1e0000) s (s.cbcOff x n) :=
  State.cbcOff_fr (Fr.refl _ s)

/-- The route of a side keeps the bank, what it shows and every pending bit. -/
theorem State.sideAct_keeps (s : State) (x : Axis) (n : Nat) (hi : Bool) : let t := s.sideAct x n hi
    t.hah = s.hah ∧ (∀ f, fam f.reg = 67 ∨ fam f.reg = 68 → t.fld f = s.fld f) ∧ State.PendKept s t := by
  have hcbc := s.cbcOff_reach x n
  dsimp only
  rw [State.sideAct]
  cases s.sideSignal n hi with
  | some g =>
    have hfr : Fr riseReach s (s.signalRise x g n) := State.signalRise_fr (Fr.refl _ s)
    refine ⟨hfr.keep_hah, fun f hf => ?_, s.pendKept_signalRise x g n⟩
    rcases hf with hf | hf <;> exact hfr.keep_fld (by rw [hf]; decide)
  | none =>
    dsimp only
    split
    · refine ⟨hcbc.keep_hah, fun f hf => ?_, .of_fr hcbc (by decide)⟩
      rcases hf with hf | hf <;> exact hcbc.keep_fld (by rw [hf]; decide)
    · exact ⟨rfl, fun _ _ => rfl, .refl s⟩

/-- A HW-routed side asserts its signal. -/
theorem State.sideAct_signal (s : State) (x : Axis) (n : Nat) (hi : Bool) (hrun : s.isRunning = true) : let t := s.sideAct x n hi
    (s.sideSignal n hi = some 0 → t.stat (scAxis x) 3 = true ∧ t.cause (scAxis x) 3 = true) ∧
      (s.sideSignal n hi = some 1 → (t.tr x).brkOc = true) ∧ (s.sideSignal n hi = some 2 → (t.tr x).ovSig = true) := by
  dsimp only
  rw [State.sideAct]
  refine ⟨fun h => ?_, fun h => ?_, fun h => ?_⟩
  · rw [h]; exact s.signalRise_phase x n hrun
  · rw [h]; exact s.signalRise_brake x n
  · rw [h]; exact s.signalRise_bus x n

theorem State.sideSignal_none (s : State) (n : Nat) (hi : Bool) (h : s.sideRoute n hi ≠ 1) : s.sideSignal n hi = none := if_pos h

/-- A CBC-routed HI side of AUX or of the PWM phase limits that phase. -/
theorem State.sideAct_cbc (s : State) (x : Axis) {n : Nat} (hroute : s.sideRoute n true = 2)
    (hp : n % 6 = 5 ∨ n % 6 = (sixPhases (s.fld (F.PW_SIX_SECTOR x))).1) (hlt : (sixPhases (s.fld (F.PW_SIX_SECTOR x))).1 < 3)
    (hsix : s.flag (F.PW_SIX_SIXSTEP x) = true) : s.sideAct x n true = s.cbcOff x n ∧ s.cbcActs x n = true := by
  constructor
  · rw [State.sideAct, s.sideSignal_none n true (by omega)]
    dsimp only
    rw [if_pos (by simp [hroute]; omega)]
  · rw [State.cbcActs, hsix]
    simpa using hp

/-- What the trip of a side shows, and what its route brings. -/
theorem State.sideTrip_shows (s : State) {i : Nat} (hi : Bool) (outs : List Bool) (hrun : s.isRunning = true) (h12 : i < 12)
    (hlen : sideIx i hi < s.hah.sides.length) : let t := s.sideTrip i hi outs
    (t.side (sideIx i hi)).trip = true ∧ t.getBit F.HAH_STATE_TRIPPED i = true ∧
      t.getBit (if hi then F.HAH_STICKY_HI else F.HAH_STICKY_LO) i = true ∧ t.pend (evAx (cmpAxis i) (22 + i % 6)) = true ∧
      ∀ x, ownerAxis (s.hahOwner i) = some x →
        (s.sideSignal i hi = some 0 → t.stat (scAxis x) 3 = true ∧ t.cause (scAxis x) 3 = true) ∧
        (s.sideSignal i hi = some 1 → (t.tr x).brkOc = true) ∧ (s.sideSignal i hi = some 2 → (t.tr x).ovSig = true) ∧
        (let p := (sixPhases (s.fld (F.PW_SIX_SECTOR x))).1
         hi = true → s.sideRoute i hi = 2 → i % 6 = 5 ∨ i % 6 = p → p < 3 → s.flag (F.PW_SIX_SIXSTEP x) = true →
           (t.tb x).cbc = true ∧
           (s.safe x ≠ 0 → (t.tr x).cmd = (s.tr x).cmd) ∧
           (s.safe x = 0 → bit (s.tr x).cmd (2 * p) = true → bit (t.tr x).cmd (2 * p) = false ∧
             t.fld (cbcFld x) = min 65535 (s.fld (cbcFld x) + 1))) := by
  obtain ⟨hside, htripped, hsticky, hpend⟩ := s.sideMark_shows hi outs h12 hlen
  have hfr := s.sideMark_fr i hi outs
  have hroute := s.sideRoute_sideMark i hi outs
  have hsignal := s.sideSignal_sideMark i hi outs
  dsimp only
  rw [s.sideTrip_eq]
  generalize s.sideMark i hi outs = u at hside htripped hsticky hpend hfr hroute hsignal
  cases hx : ownerAxis (s.hahOwner i) with
  | none => exact ⟨hside, htripped, hsticky, hpend, fun x h => absurd h (by simp)⟩
  | some y =>
    obtain ⟨hhah, hfld, hkept⟩ := u.sideAct_keeps y i hi
    obtain ⟨hphase, hbrake, hbus⟩ := u.sideAct_signal y i hi ((State.isRunning_of_fr hfr).trans hrun)
    rw [hsignal] at hphase hbrake hbus
    refine ⟨?_, ?_, ?_, hkept _ (by interval_cases i <;> decide) hpend, fun x h => ?_⟩
    · rw [State.side, hhah]; exact hside
    · exact (congrArg (bit · i) (hfld _ (.inl F.HAH_STATE_TRIPPED_fam))).trans htripped
    · exact (congrArg (bit · i) (hfld _ (.inr (stickyFld_spec hi).2.1))).trans hsticky
    obtain rfl : y = x := Option.some.inj h
    refine ⟨hphase, hbrake, hbus, fun hhi hr hp hlt hsix => ?_⟩
    subst hhi
    have hsector : u.fld (F.PW_SIX_SECTOR y) = s.fld (F.PW_SIX_SECTOR y) := hfr.keep_fld (by simp; decide)
    have hstep : u.flag (F.PW_SIX_SIXSTEP y) = s.flag (F.PW_SIX_SIXSTEP y) := congrArg (· == 1) (hfr.keep_fld (by simp; decide))
    have hsafe : u.safe y = s.safe y := hfr.keep_fld (by simp; decide)
    have hcount : u.fld (cbcFld y) = s.fld (cbcFld y) := hfr.keep_fld (by rw [(cbcFld_spec y).2.1]; decide)
    obtain ⟨hact, hacts⟩ := u.sideAct_cbc y (hroute.trans hr) (by rw [hsector]; exact hp) (by rw [hsector]; exact hlt) (hstep.trans hsix)
    have hshows := u.cbcOff_shows y i hacts
    dsimp only at hshows
    rw [hsector, hsafe, hfr.keep_tr y, hcount] at hshows
    rw [← hact] at hshows
    exact hshows

/-- What a side that clears shows; the cause it asserted ends with the last source of it. -/
theorem State.sideClear_shows (s : State) {i : Nat} (hi : Bool) (outs : List Bool) (h12 : i < 12)
    (hlen : sideIx i hi < s.hah.sides.length) : let t := s.sideClear i hi outs
    (t.side (sideIx i hi)).trip = false ∧ t.getBit F.HAH_STATE_TRIPPED i = (s.side (sideIx i (!hi))).trip ∧
      ∀ x : Axis, (s.side (sideIx i hi)).sig = some (x.ix, 0) → t.signalOn x 0 = false → t.cause (scAxis x) 3 = false := by
  let d : Side := { trip := false, held := false, outs := outs, sig := none }
  have hside := s.side_putSide (n := i) (hi := hi) d hlen
  have htripped : (s.putSide i hi d).getBit F.HAH_STATE_TRIPPED i = (s.side (sideIx i (!hi))).trip := s.tripped_putSide hi d h12 hlen
  have heq : s.sideClear i hi outs = match (s.side (sideIx i hi)).sig with
      | some (xi, g) => (s.putSide i hi d).signalFall (if xi = 0 then .a else .b) g
      | none => s.putSide i hi d := rfl
  dsimp only
  rw [heq]
  generalize s.putSide i hi d = u at hside htripped
  cases (s.side (sideIx i hi)).sig with
  | none => exact ⟨congrArg Side.trip hside, htripped, fun x h => absurd h (by simp)⟩
  | some e =>
    obtain ⟨xi, g⟩ := e
    have hfr : Fr (allBut 22 &&& allBut (32 + 67)) u (u.signalFall (if xi = 0 then .a else .b) g) := State.signalFall_fr (Fr.refl _ u)
    refine ⟨?_, (congrArg (bit · i) (hfr.keep_fld (by simp; decide))).trans htripped, fun x h hoff => ?_⟩
    · show ((u.signalFall (if xi = 0 then .a else .b) g).side (sideIx i hi)).trip = false
      rw [State.side, hfr.keep_hah]
      exact congrArg Side.trip hside
    · obtain ⟨rfl, rfl⟩ := Prod.mk.inj (Option.some.inj h)
      have hx : (if x.ix = 0 then Axis.a else Axis.b) = x := by cases x <;> rfl
      dsimp only at hoff ⊢
      rw [hx] at hoff ⊢
      exact u.signalFall_phase x hoff

/-- Settles O36: a window by `exec_sinc2Result_trips` and `_clears`, a stuck input by its two lemmas, and a side by what its one
sample comes to: it trips (`sideTrip_shows`), clears (`sideClear_shows`) or is kept with the sample. -/
theorem windowsAndComparatorsTripAndClear : Obligations.WindowsAndComparatorsTripAndClear := by
  intro s i hrun
  refine ⟨fun ws l hl hw => s.densityCode_near ws l hl hw, fun l hi ho => ⟨fun hout htrip hfilt => ?_, fun hout htrip hfilt => ?_⟩,
    fun captured hi ho => ⟨fun h => ?_, fun h => ?_⟩, fun clocks hi ho =>
      ⟨exec_sigmaDeltaInputStuck_raises s hrun hi ho, exec_sigmaDeltaInputStuck_ends s hrun hi ho⟩, fun hi uv vref h12 => ?_⟩
  · exact exec_sinc2Result_trips s l hrun hi ho (by rw [State.winOut]; simpa using hout) htrip hfilt
  · exact exec_sinc2Result_clears s l hrun hi ho (by rw [State.winOut]; simpa using hout) htrip hfilt
  · rw [exec_sinc3Settled s hrun hi ho, if_pos h]
  · rw [exec_sinc3Settled s hrun hi ho, if_neg (by omega)]
  have hlast : (((if hi then decide ((s.dacCode (sideIx i hi) 0 : Int) * vref < 4096 * uv)
      else decide (4096 * uv < (s.dacCode (sideIx i hi) 0 : Int) * vref)) :: (s.side (sideIx i hi)).outs).take 31).take
      (2 * max 1 (s.fld (F.HAH_CMP_FILT i)) + 1) = (s.outsNow i hi uv vref).take (s.filtN i) := by
    rw [State.outsNow, s.outside_side, State.filtN]
  have hkeep (htrip : Bool) (hd : (s.side (sideIx i hi)).trip = htrip) (hlen : sideIx i hi < s.hah.sides.length) :
      ((s.putSide i hi { s.side (sideIx i hi) with outs := s.outsNow i hi uv vref }).side (sideIx i hi)).trip = htrip := by
    rw [s.side_putSide _ hlen, hd]
  dsimp only
  rw [hlast]
  refine ⟨fun ho => exec_comparator_unowned s i hi [uv] vref hrun ho, fun ho hd htrips => ?_, fun ho hd htrips => ?_,
    fun ho hsome hd => ⟨fun hany => ?_, fun hany => ?_⟩⟩
  · exact ⟨_, (exec_comparatorTrip s hi uv vref hrun h12 ho hd).trans (congrArg _ (if_neg htrips)), hkeep false hd (s.side_lt hd)⟩
  · exact ⟨_, (exec_comparatorTrip s hi uv vref hrun h12 ho hd).trans (congrArg _ (if_pos htrips)),
      s.sideTrip_shows hi _ hrun h12 (s.side_lt hd)⟩
  · exact ⟨_, (exec_comparatorClear s hi uv vref hrun h12 ho hd).trans (congrArg _ (if_neg (by rw [hany]; decide))),
      hkeep true hd (lt_of_getElem?_some hsome)⟩
  · exact ⟨_, (exec_comparatorClear s hi uv vref hrun h12 ho hd).trans (congrArg _ (if_pos hany)),
      s.sideClear_shows hi _ h12 (lt_of_getElem?_some hsome)⟩

end Sys2Proof.Machine
